-- ==== Sys2Proof/Word.lean ====
section
/-! DEFINITION. The word types of the AV7160 model and the closed sets of names its commands use
(spec/00_scope.md, Conventions; spec/01_architecture.md, Table ARC-1). -/

namespace Sys2Proof

abbrev Byte := BitVec 8
abbrev W16 := BitVec 16
abbrev W32 := BitVec 32
abbrev W64 := BitVec 64
abbrev W128 := BitVec 128
abbrev W256 := BitVec 256
/-- A 64-byte line, byte 0 in bits 7..0 (R4). A descriptor has the same size (R233). -/
abbrev Line := BitVec 512

/-- Tenant number, 16 × port + LD-ID (R30). -/
abbrev Tenant := BitVec 8
abbrev PortId := BitVec 4
abbrev ClassL := BitVec 3
abbrev BankId := BitVec 9
abbrev RegionId := BitVec 12
abbrev CalId := BitVec 10
abbrev PlotNo := BitVec 36

/-- The two halves of the controller (R9). -/
inductive Half where
  | north
  | south
deriving DecidableEq, Repr

end Sys2Proof
end

