-- ==== Sys2Proof/Syntax.lean ====
section
/-! DEFINITION. The commands of the block: one constructor per row of spec/opcode_table.json, in the table's order.
The table gives no operands; each constructor carries what its row acts on. -/

namespace Sys2Proof

/-- Which register space an access reaches: a tenant's BAR0 or BAR2, or the steward space (R32, R438, R449). -/
inductive RegSpace where
  | bar0 (t : Tenant)
  | bar2 (t : Tenant)
  | steward
deriving DecidableEq, Repr

/-- CXL MetaValue of a request (Table SHR-2). -/
inductive Meta where
  | i
  | s
  | a
deriving DecidableEq, Repr

/-- What a tier read meets in the medium (R324 to R328, R331): symbols of its line found damaged, a failed pin, or nothing
returned yet. In a Cistern code word the numbers are bits of the word (R354). -/
inductive Media where
  | clean
  | damaged (l : List (BitVec 6))
  | pin (n : BitVec 6)
  | late
deriving DecidableEq, Repr

/-- How a DMA read of host memory completes (Table DSC-2, R101). -/
inductive Cpl where
  | data (lines : List Line)
  | poison
  | unsupportedRequest
  | completerAbort
deriving DecidableEq, Repr

/-- A host's answer to a back-invalidate snoop: the data it wrote back before the BIRsp, if any, with its
Poison bit (R283, R370). -/
inductive SnpRsp where
  | clean
  | writeback (data : Line) (poison : Bool)
deriving DecidableEq, Repr

/-- Functions of Table BUP-3, by half bit. -/
inductive Fn where
  | fw
  | mem
  | rings
  | fe
  | tc
  | alm
  | keys
  | shr
deriving DecidableEq, Repr

/-- A unit that runs field tests: an engine or a core (R382). -/
inductive TestUnit where
  | fe (n : BitVec 4)
  | tc (n : BitVec 6)
deriving DecidableEq, Repr

/-- Where a management or SPDM message arrives (R394, R431). -/
inductive Endpoint where
  | doe (t : Tenant)
  | mailbox (p : PortId)
  | vdm (p : PortId)
  | i3c
deriving DecidableEq, Repr

/-- The configuration-space registers that the spec says something of (R25, R31, R33, R46, R51, R52, R55, Table PRT-3), by
the names of PCIe and CXL; their places are PCIe's and CXL's (PRESUMED, log 53). -/
inductive CfgReg where
  | ident
  | classCode
  | command
  | devCap
  | devCtl
  | linkStatus
  | devCap2
  | devCtl2
  | pmcsr
  | msixControl
  | aerUncor
  | aerCor
  | cxlCap
  | regLocator (block : BitVec 2)
  | flexBus
  | mld
  /-- The memory length of the CDAT report, low or high word (R55). -/
  | cdat (high : Bool)
  | other
deriving DecidableEq, Repr

/-- Requesters of a Cistern bank's ports (Table CST-4). -/
inductive CWho where
  | feWrite
  | weightSluice
  | actSluice
  | tc (core : BitVec 6)
  | mgmt
  | meshWrite
  | meshRead
  | march
deriving DecidableEq, Repr

/-- An access of one entry of a Cistern bank in a port cycle (R349 to R353): a read, or a write of the bytes that its byte
enables name; an atomic one holds its entry for two cycles (R352). -/
structure CReq where
  id : Nat
  who : CWho
  entry : BitVec 15
  write : Option (BitVec 128 × BitVec 16)
  atomic : Bool
deriving DecidableEq, Repr

/-- The arbiters of Table HGT-4, and a fabric cycle of a Cistern bank's ports with what arrives in it (Table CST-4). -/
inductive Arb where
  | headgate (t : Tenant)
  | ingress (p : PortId)
  | bridge (fromHalf : Half)
  | lookup (h : Half)
  | nearChannel (n : BitVec 7)
  | bulkChannel (n : BitVec 8)
  | egress (p : PortId)
  | tileStart (n : BitVec 4)
  | dispatch (h : Half)
  | slots
  | cistern (b : BankId) (arrive : List CReq)
deriving DecidableEq, Repr

/-- An item at an arbiter: its tenant, class label, stamp in ns, and what R302 and R303 ask of it. -/
structure Item where
  id : Nat
  tenant : Tenant
  cls : ClassL
  stamp : Nat
  demoted : Bool
  unlabelled : Bool
  movement : Bool
deriving DecidableEq, Repr

/-- Why an engine or a core is fenced by a command or an event (Tables FLE-9, TND-16). -/
inductive FenceCause where
  | internalError
  | steward
deriving DecidableEq, Repr

/-- The rest of a register write: the upper word of one of 8 bytes, and the W1C bits that the module sets in its own cycle
(R8). -/
structure WriteRest where
  hi : Option W32
  upd : W64
deriving DecidableEq, Repr

/-- The commands of the AV7160 block. -/
inductive Instr where
  -- registers
  | registerWrite (sp : RegSpace) (off : BitVec 24) (v : W32) (w : WriteRest)
  | readClear (sp : RegSpace) (off : BitVec 24) (wide : Bool) (upd : W64)
  | bar0BadAccess (t : Tenant) (off : W16) (size : Nat) (write : Bool)
  -- bring-up and power input
  | moduleReset (byResetN : Bool)
  | bringupTrigger (bridge : Bool)
  | verifySync (h : Half)
  | verifyWaitTimeout (h : Half)
  | recoveryRetry (h : Half)
  | firmwareStart (h : Half)
  | functionReady (h : Half) (f : Fn)
  | vinOutOfRange
  | vinRestored
  | railsGood
  -- host ports, resets, the module's own requests
  | perstAssert (p : PortId)
  | perstDeassert (p : PortId) (clksel : Bool)
  | linkUp (p : PortId) (width rate : BitVec 3) (mld : Bool)
  | trainFail (p : PortId)
  | trainBackoffExpire (p : PortId)
  | linkRecovery (p : PortId)
  | linkDown (p : PortId)
  | hotReset (p : PortId)
  | portDrainComplete (p : PortId)
  | flrInitiate (t : Tenant)
  | flrDrainComplete (t : Tenant)
  | configRequest (t : Tenant) (write : Bool) (reg : CfgReg) (v : W32)
  | ctoValueWrite (t : Tenant) (v : BitVec 4)
  | hdmCommit (t : Tenant) (base size skip : W64) (ways gran : Nat) (lock : Bool)
  | busMasterEnableSet (t : Tenant)
  | completionTimeout (tag : Nat)
  | tagQuarantineExpire (tag : Nat)
  | unexpectedCompletion (t : Tenant) (tag : Nat)
  | farReadCompletion (tag : Nat) (data : List Byte) (poison : Bool)
  | farDmaErrorCompletion (tag : Nat)
  -- host memory
  | hostMemRead (p : PortId) (ld : BitVec 4) (hpa : W64) (mv : Meta) (md : Media)
  | hostMemWrite (p : PortId) (ld : BitVec 4) (hpa : W64) (mv : Meta) (data : Line) (be : W64) (poison : Bool)
  | hostMemInv (p : PortId) (ld : BitVec 4) (hpa : W64) (mv : Meta)
  | headgateAdmit (t : Tenant)
  | arbiterServe (a : Arb) (arrive : List Item)
  -- bridge
  | bridgeFlitReplay (src : Half)
  | bridgeLaneRetire (src : Half)
  | bridgeRetrainDone
  | bridgeDown
  | bridgeUp
  -- write compressor and tier reads
  | writeCompressorClose (p : PortId)
  | tierReadReturn (id : Nat) (md : Media)
  | tierReadTimeout (id : Nat)
  | tierReadLateReturn (id : Nat)
  -- windows
  | wttDataWrite (v : W32)
  | wttCommit (t : Tenant)
  | wttGroupCommit
  | wttCopy (t : Tenant)
  | wttCommitReserved (t : Tenant)
  | wttFlip
  | oldDone (t : Tenant)
  -- tiers
  | tirAssign
  | tirRelease
  | tirAsgnReserved
  | tirRemoveClaims (t : Tenant)
  | plotQuery (hi : W32)
  | tirClsWrite (v : W32)
  | ageClockTick
  | decayBoundary
  | ageSweep (h : Half)
  | coldClassify (h : Half)
  | claimRetry (h : Half)
  | claimWaitExpire (id : Nat)
  | moveBlockDone (plot : PlotNo) (bad : List Nat)
  | farEnable (t : Tenant)
  | farDisable (t : Tenant)
  | farRevoke (t : Tenant)
  -- Almanac
  | almMark (t : Tenant) (mark : W32)
  | cursorUpdate
  | almanacAction
  | almanacLoadCommit (cal : CalId)
  | almBind (cal : CalId) (cursor : BitVec 4) (t : Tenant) (src : BitVec 2)
  | almUnbind (cal : CalId) (cursor : BitVec 4)
  | almClearPosition (cal : CalId) (cursor : BitVec 4)
  | almReclaimUnload (cal : CalId)
  | almNewOwner (cal : CalId) (t : Tenant) (src : BitVec 2)
  -- compression
  | tableGenerationRetire (slot : BitVec 8)
  | cmpTableUnload
  | cmpTableOwner (t : Tenant)
  | cmpTcmdReserved
  | scaleWindowEnable (n : BitVec 6) (v : W32)
  -- rings
  | doorbellLineWrite (t : Tenant) (data : Line) (be : W64) (poison : Bool)
  | doorbellLineRead (t : Tenant)
  | mmioDoorbell (t : Tenant) (v : W32)
  | ringEnable (t : Tenant) (r : BitVec 4) (v : W32)
  | ringDisable (t : Tenant) (r : BitVec 4) (v : W32)
  | ringRestart (t : Tenant) (r : BitVec 4)
  | ringFetch (t : Tenant)
  | descriptorFetchCompletion (tag : Nat) (c : Cpl)
  | descriptorTake (t : Tenant) (r : BitVec 4)
  | operationComplete (op : Nat)
  | interruptCoalesceExpire (t : Tenant)
  | cqEnable (t : Tenant) (v : W32)
  | cqDisable (t : Tenant) (v : W32)
  | cqHeadWrite (t : Tenant) (v : W32)
  -- operations (each on an accepted descriptor in flight)
  | fill (op : Nat)
  | copy (op : Nat)
  | copyConvert (op : Nat)
  | imageInstall (op : Nat)
  | compare (op : Nat)
  | reduce (op : Nat)
  | embedGather (op : Nat)
  | expert (op : Nat)
  | runProgram (op : Nat)
  | quant (op : Nat)
  | gateact (op : Nat)
  | promote (op : Nat)
  | demote (op : Nat)
  | pin (op : Nat)
  | unpin (op : Nat)
  | publish (op : Nat)
  | acquire (op : Nat)
  | release (op : Nat)
  | tableLoad (op : Nat)
  | programLoad (op : Nat)
  | almanacLoad (op : Nat)
  | mark (op : Nat)
  | fence (op : Nat)
  -- Flume engines
  | stagingFillDone (fe : BitVec 4) (plot : PlotNo) (block : BitVec 4)
  | tileStart (fe : BitVec 4)
  | tileEnd (fe : BitVec 4) (wrong : List (BitVec 12 × W32))
  | engineFence (fe : BitVec 4) (c : FenceCause)
  | engineFenced (fe : BitVec 4)
  | engineBist (fe : BitVec 4)
  | engineBistDone (fe : BitVec 4) (pass : Bool)
  | engineReturn (fe : BitVec 4)
  | fieldTestStart (u : TestUnit)
  | fieldTestDone (u : TestUnit) (pass : Bool)
  -- grains
  | grainCreate (job : Nat)
  | grainDispatch (core : BitVec 6)
  | grainForcedYield (g : Nat)
  | grainWake (g : Nat)
  | grainLimitExceeded (g : Nat)
  -- Spaern instructions, each executed by a running grain at its PC
  | spnAlu (g : Nat)
  | spnAluImm (g : Nat)
  | spnLoadUpper (g : Nat)
  | spnLoad (g : Nat)
  | spnStore (g : Nat)
  | spnBranch (g : Nat)
  | spnJump (g : Nat)
  | spnJumpReg (g : Nat)
  | spnAtomic (g : Nat)
  | spnYield (g : Nat)
  | spnFence (g : Nat)
  | spnExit (g : Nat)
  | spnTrap (g : Nat)
  | spnGets (g : Nat)
  | spnWait (g : Nat)
  | spnSignal (g : Nat)
  | spnMark (g : Nat)
  | spnVectorInt (g : Nat)
  | spnVectorFp (g : Nat)
  | spnReduce (g : Nat)
  | spnVectorLoad (g : Nat)
  | spnVectorStore (g : Nat)
  | spnGather (g : Nat)
  | spnScatter (g : Nat)
  | spnVcvt (g : Nat)
  | spnVmxq (g : Nat)
  | spnCrc (g : Nat)
  | spnCrcv (g : Nat)
  -- cores and program slots
  | coreFence (tc : BitVec 6) (c : FenceCause)
  | coreFenced (tc : BitVec 6)
  | coreBist (tc : BitVec 6)
  | coreBistDone (tc : BitVec 6) (pass : Bool)
  | coreReturn (tc : BitVec 6)
  | programOldDiscard (slot : BitVec 10)
  | programSlotUnload
  | programSlotOwner (t : Tenant)
  | tndPcmdReserved
  -- shared regions
  | regionEnable (v : W32)
  | regionDisable
  | snoopResponse (id : Nat) (rsp : SnpRsp)
  | biconflict (t : Tenant) (line : BitVec 46)
  | snoopTimeout (id : Nat)
  | directoryWaitResume (h : Half)
  | backInvalidateDone (walk : Nat)
  | shrFailTenant (t : Tenant)
  | failureSweepEnd (t : Tenant)
  | releaseRegionOrphans (r : RegionId)
  | releaseTenantOrphans (t : Tenant)
  | releaseCapacity (r : RegionId) (t : Tenant)
  | releaseDynamicCapacity (t : Tenant) (dpa : W64)
  | addDynamicCapacityResponse (t : Tenant)
  -- regulation
  | weirWindowBoundary (t : Tenant)
  | weirConfigWrite (t : Tenant) (budget : Option ClassL) (v : W32)
  | urgencyPinSettle (p : PortId) (level : BitVec 2)
  | uibWrite (t : Tenant) (v : W32)
  | uibHoldExpire (t : Tenant)
  -- DRAM controllers
  | writeQueueServe (ch : Nat)
  | rowIdleClose (ch bank : Nat)
  | refreshDue (ch bank : Nat)
  | temperaturePoll (ch : Nat) (rate : BitVec 2)
  | refreshRateChange (ch : Nat) (rate : BitVec 2)
  | retrainPauseDue (ch : Nat)
  | retrainPauseEnd (ch : Nat) (ok : Bool)
  | evacuate (rank : BitVec 8)
  | evacuateCancel (rank : BitVec 8)
  | evacuateAutoTrigger (rank : BitVec 8)
  | evacuateCopyDone (rank : BitVec 8)
  | switchoverEnd (rank : BitVec 8)
  | spillDone (rank : BitVec 8)
  | spillResume (h : Half)
  | scriptAbort (ch : Nat)
  | scriptSetCommit (near : Bool) (ver : W16)
  -- Cistern
  | bankGiveStage (b : BankId) (fe : BitVec 4)
  | bankReturnPool (b : BankId)
  | bankRetire (b : BankId)
  | bankPowerOn (b : BankId)
  | bankRetention (b : BankId)
  | bankFallow (b : BankId)
  | handoverComplete (b : BankId)
  | zeroFillDone (b : BankId)
  | bankWakeDone (b : BankId)
  | bankAllot (job : Nat)
  | bankIdleRetention (b : BankId)
  | bankIdleFallow (b : BankId)
  | portStarveOverride (b : BankId) (port1 : Bool)
  | marchDestructive (first : BankId) (count : BitVec 9) (bg : BitVec 4)
  | marchPreserving (first : BankId) (count : BitVec 9)
  | marchAbort (h : Half)
  | marchDone (h : Half) (failed : List Nat) (fail0 fail1 : W32)
  -- reliability
  | scrubRead (tier : BitVec 2) (unit : Nat) (loc : W64) (md : Media)
  | lapEnd (tier : BitVec 2) (h : Half) (ms : W32)
  | lapOverdue (tier : BitVec 2) (h : Half) (ms : W32)
  | retireNearSlot
  | retireBulkUnit (h : Half)
  | addRetirementEntry (kind : BitVec 4) (h : Half)
  | emptyRetirementEntry
  | relocationDone
  | relocationWaitExpire
  | flashWriteDone
  | maintGrantRequest (code : BitVec 4) (scope : List Nat) (unit : Nat)
  | maintPark (id : Nat)
  | maintResume (id : Nat)
  | longDeferral (id : Nat)
  -- security
  | raiseMinsvn
  | revokeKey (k : BitVec 2)
  | fuseWriteDone
  | kcmdKeygen (slot : BitVec 8)
  | kcmdZeroise (slot : BitVec 8)
  | kcmdZeroiseAll
  | zeroiseDone (slot : BitVec 8)
  | bindWrite (e : Endpoint) (session : Option Nat) (eid : Byte)
  | getVersion (e : Endpoint)
  | getCapabilities (e : Endpoint)
  | negotiateAlgorithms (e : Endpoint)
  | getDigests (e : Endpoint)
  | getCertificate (e : Endpoint) (slot : BitVec 4)
  | challenge (e : Endpoint) (nonce : W256)
  | getMeasurements (e : Endpoint) (index : Byte) (signed : Bool)
  | keyExchange (e : Endpoint)
  | finish (e : Endpoint) (session : Nat)
  | endSession (e : Endpoint) (session : Nat)
  | heartbeat (e : Endpoint) (session : Nat)
  | keyUpdate (e : Endpoint) (session : Nat)
  | spdmLoad (e : Endpoint) (session : Nat) (slot : BitVec 8) (rsvd : Bool) (k1 k2 : W256)
  | spdmKeygen (e : Endpoint) (session : Nat) (slot : BitVec 8) (rsvd : Bool)
  | spdmZeroise (e : Endpoint) (session : Nat) (slot : BitVec 8) (rsvd : Bool)
  | spdmZeroiseAll (e : Endpoint) (session : Nat) (rsvd : Bool)
  | debugUnlock (e : Endpoint) (session : Nat) (token : List Byte)
  | keyProg (p : PortId) (session : Nat) (keySet : Bool)
  | kSetGo (p : PortId) (session : Nat) (keySet : Bool)
  | kSetStop (p : PortId) (session : Nat) (keySet : Bool)
  | ideIntegrityFail (p : PortId)
  -- update and BIST
  | updateBegin
  | updateChunk (c : BitVec 14)
  | updateVerify
  | updateCommit
  | updateAbandon
  | updateCommitDone
  | bistFe (n : BitVec 9)
  | bistTc (n : BitVec 9)
  | bistRank (n : BitVec 9)
  | bistPort (n : BitVec 9)
  | bistDone (sig expected : W32)
  -- power and thermal
  | governorPlan (pin pavg : W16)
  | sensorSample (temps : List Int)
  | thermalCapStep
  | thermalTrip
  | tripRelease
  | standbyEnter
  | standbyExit (cause : Option PortId)
  -- stewardship and management
  | watchdogExpire (h : Half)
  | tokenReceived (h : Half)
  | tokenLinkTimeout (h : Half)
  | tokenLinkReturn
  | coreRestartDone (h : Half)
  | stewardRegisterAccess (e : Endpoint) (session : Option Nat) (off : BitVec 24) (write : Bool) (count : Nat) (data : List W32)
  | mctpControl (e : Endpoint) (setEid : Option Byte)
  | identify (e : Endpoint)
  | backgroundOperationStatus (e : Endpoint)
  | getResponseMessageLimit (e : Endpoint)
  | setResponseMessageLimit (e : Endpoint) (v : Byte)
  | getEventRecords (e : Endpoint) (log : BitVec 2)
  | clearEventRecords (e : Endpoint) (log : BitVec 2) (count : Option Nat)
  | getEventInterruptPolicy (e : Endpoint)
  | setEventInterruptPolicy (e : Endpoint) (v : W32)
  | getTimestamp (e : Endpoint)
  | setTimestamp (e : Endpoint) (v : W64)
  | getSupportedLogs (e : Endpoint)
  | getLog (e : Endpoint) (off len : Nat)
  | tunnelManagement (e : Endpoint) (ld : BitVec 4) (opcode : W16)
  | sendLdConfigurationRequest (e : Endpoint) (ld : BitVec 4) (write : Bool) (reg : CfgReg) (v : W32)
  | sendLdMemoryRequest (e : Endpoint) (ld : BitVec 4) (write : Bool) (off : BitVec 24) (v : W32)
  | getLdInfo (e : Endpoint)
  | getLdAllocations (e : Endpoint)
  | getMultiHeadedInfo (e : Endpoint)
  | getHeadInfo (e : Endpoint) (p : PortId)
  | getDcdInfo (e : Endpoint)
  | getHostDcRegionConfiguration (e : Endpoint) (ld : BitVec 4)
  | getDcRegionExtentLists (e : Endpoint) (ld : BitVec 4)
  | getDynamicCapacityConfiguration (t : Tenant)
  | getDynamicCapacityExtentList (t : Tenant)
  | identifyMemoryDevice (t : Tenant)
  | getHealthInfo (t : Tenant)
  | unsupportedCommand (e : Endpoint) (opcode : W16)
  | railOutOfLimits
  | meshLinkFailure (h : Half)
  | channelLost (ch : Nat)
  | i3cDynamicAddressAssignment (addr : BitVec 7)
deriving DecidableEq, Repr

end Sys2Proof
end

