-- ==== Sys2Proof/Config.lean ====
section
/-! DEFINITION. The free values of the model: what the spec leaves open or to an implementation. None has a body, so no
statement can rest on a value of one. -/

namespace Sys2Proof.Config

/-- Fresh number for a choice the spec leaves open, applied to the counter State.freeCtr (log 3). -/
opaque freeNat : Nat → Nat
/-- Fresh bits for a value the spec leaves open, applied to State.freeCtr (log 3). -/
opaque freeBits : Nat → BitVec 512
/-- Thrumiand's Vendor ID, which the spec does not print (Table REG-3; log 16). -/
opaque vendorId : W16
/-- The module's 64-bit serial number (R447; log 16). -/
opaque serial : W64
/-- How many units in the last place EXP, TANH and RCP (R211) and SILU and GELU (R187) lie from the correctly rounded value
of a finite FP32 operand: the number modulo 5, less 2 (log 9). -/
opaque expUlp : W32 → Nat
opaque tanhUlp : W32 → Nat
opaque rcpUlp : W32 → Nat
opaque siluUlp : W32 → Nat
opaque geluUlp : W32 → Nat
/-- SHA-512 of a string of bytes (R389, R395; log 10). -/
opaque sha512 : List Byte → BitVec 512
/-- Whether an RSASSA-PSS signature over the signed bytes verifies with firmware key k (R389; log 10). -/
opaque signatureOk : Nat → List Byte → List Byte → Bool
/-- Whether a debug unlock token verifies for the serial number and nonce (R404; log 10). -/
opaque tokenOk : List Byte → W64 → W256 → Bool
/-- The alias key's signature over a message, given the security state measured at reset (R392; log 10). -/
opaque aliasSign : BitVec 512 → List Byte → List Byte
/-- Certificate chain bytes of slot 0, given the security state measured at reset (R393; log 10). -/
opaque certChain : BitVec 512 → List Byte
/-- The alias certificate alone, measured as index 7 (Table SEC-6; log 10). -/
opaque aliasCert : BitVec 512 → List Byte
/-- The n-th draw of the security engine's DRBG (R403; log 10). -/
opaque drbg : Nat → W256
/-- What a line enciphered under one key yields when it is deciphered under another, or read as ciphertext:
stored key, reading key (0 for none), line number, plaintext (R402; log 11). -/
opaque garble : BitVec 512 → BitVec 512 → Nat → Line → Line
/-- The boot ROM's bytes as measured (Table SEC-6, index 1; log 10). -/
opaque romDigest : BitVec 512
/-- The bits that a plane decoder reads past the end of its plane, by position (R146: the read is short; log 28). -/
opaque shortBits : Nat → Nat

/-- The 8 check bytes of a line's symbol code, whose matrix the spec does not print (R324 to R326; log 13). -/
opaque lineCheck : Line → W64
/-- The check-matrix column of a stored bit of a Cistern code word, which is not visible to software (R354). -/
opaque checkColumn : Nat → BitVec 7
/-- Appendix bytes that a scaled or CB4 weight format takes for a block stored without them, by format byte and payload: the
spec gives none (R183; log 48). -/
opaque lackApp : Nat → List Byte → List Byte

/-- What the memory configuration block of a firmware image sets: the fields of DMC_MAP. The spec does not give the block's layout
(R323; log 90). -/
opaque memConfig : List Byte → W32
/-- The version that a sequencer script set of an image carries (Table DMC-16; log 90). -/
opaque scriptVersion : List Byte → W16
/-- The coded stream a write compressor makes of a footprint block: format code and the 4,096 bytes (R141 leaves the
method of each plane open; log 8). -/
opaque codeBlock : Nat → List Byte → List Byte

end Sys2Proof.Config
end

