-- ==== Sys2Proof/Machine/State.lean ====
section
/-! DEFINITION. The state of the AV7160 as plain data: every register, queue, buffer, counter, mode and pin the spec gives
it, the queue of waiting commands, and the state after module reset. -/

namespace Sys2Proof.Machine

/-- A sparse table: strictly rising keys, no entry equal to its default. -/
abbrev Tab (α : Type) := List (Nat × α)
/-- Sparse bytes: strictly rising addresses, no entry equal to 0. -/
abbrev Mem := List Host.Cell
/-- A set of numbers, strictly rising. -/
abbrev NSet := List Nat

/-- Why a command stops the machine. -/
inductive Fault where
  /-- Raised by a command that names a channel, sensor or unit number beyond the counts of Table SCO-4.
  Safe: the spec has no such unit. -/
  | noSuchUnit (name : String) (n : Nat)
deriving DecidableEq, Repr

/-- Why the model gives a command no meaning. -/
inductive Refusal where
  /-- Raised by an arm of exec whose command has no meaning yet. Safe: nothing can be proved of it. -/
  | notModelled (mnemonic : String)
deriving DecidableEq, Repr

/-- Status codes of Table DSC-21. -/
inductive Status where
  | ok
  | poisonConsumed
  | checkMismatch
  | expandOverrun
  | expandUnderrun
  | tableRetired
  | farLost
  | timeout
  | quota
  | staleVersion
  | abortedFlr
  | fencedUnit
  | uninitRead
  | stewardConflict
  | deferred
  | permission
  | badDescriptor
  | dupMismatch
  | notReady
  | slotBusy
deriving DecidableEq, Repr

/-- What the module sends outside, in the order it sends it (log 2). -/
inductive Msg where
  | memData (tenant : Nat) (data : Line) (devload : Nat)
  | memPoison (tenant : Nat) (cause : Status) (devload : Nat)
  | memCmp (tenant : Nat) (cause : Status) (devload : Nat)
  /-- A snoop of a run of up to four lines (R283). -/
  | bisnp (tenant line count : Nat) (inv : Bool)
  | biConflictAck (tenant line : Nat)
  | msix (tenant vector : Nat)
  | frs (tenant : Nat)
  | dmaRead (tenant tag : Nat) (addr : W64) (len : Nat)
  | dmaWrite (tenant : Nat) (addr : W64) (bytes : List Byte)
  | record (tenant : Nat) (addr : W64) (r : W128)
  | regData (words : List W32)
  | cfgDone (tenant : Nat) (retry : Bool) (v : W32)
  | mgmt (e : Endpoint) (status : Status) (data : List W32)
  | mgmtUnsupported (e : Endpoint)
  | spdm (e : Endpoint) (ok : Bool) (data : List Byte)
  | spdmBusy (e : Endpoint)
  | granted (a : Arb) (id : Nat)
  /-- What a Cistern read returns: poison, or the entry (R353 to R355). -/
  | cistern (b : BankId) (id : Nat) (data : Option W128)
  | link (port : Nat) (training : Bool)
deriving DecidableEq, Repr

/-- Clocks: the module-wide microsecond count (R306) and the age clocks, always equal (R464). -/
structure Clk where
  us : Nat := 0
  age : Nat := 0
deriving DecidableEq, Repr

/-- Pins and power input (Table MOD-5, R455 to R460). resetN holds the asserted level. -/
structure Pins where
  resetN : Bool := true
  pwrGood : Bool := true
  vinOk : Bool := true
  railsGood : Bool := true
  trip : Bool := false
  thermN : Bool := false
  perst : BitVec 16 := 0xFFFF#16
  clkSel : BitVec 16 := 0#16
  urg : Tab (BitVec 2) := []
  wake : NSet := []
deriving DecidableEq, Repr

/-- Fuses (Tables SEC-11, PWM-14); kept by every reset. -/
structure Fuses where
  dbgLock : Bool := true
  dbgKill : Bool := false
  kRevoke : BitVec 4 := 0#4
  minSvn : BitVec 6 := 0#6
  uCount : Nat := 0
  dfltSouth : Bool := false
deriving DecidableEq, Repr

/-- SPI flash (Table SEC-1): its bytes and the retirement list; kept by every reset. -/
structure Flash where
  img : Mem := []
  list : Tab W64 := []
  /-- A commit was cut off: the image is mixed and its signature cannot verify (R419). -/
  mixed : Bool := false
deriving DecidableEq, Repr

/-- BUP_STAGE_h.STAGE (Table BUP-8). -/
inductive Stage where
  | reset
  | rom
  | verify
  | recovery
  | dramInit
  | fill
  | firmware
deriving DecidableEq, Repr

/-- Stewardship of one half (Table PWM-6). -/
inductive Steward where
  | steward
  | deputy
  | restarting
deriving DecidableEq, Repr

/-- One half's bring-up, verification and stewardship. -/
structure HalfSt where
  stage : Stage := .reset
  /-- Microsecond of the bring-up trigger, and milliseconds from it to the current stage (Table BUP-8). -/
  trigUs : Nat := 0
  stageMs : Nat := 0
  passed : Option (BitVec 512) := none
  ready : BitVec 8 := 0#8
  role : Steward := .deputy
  lastErr : Nat := 0
  nFail : Nat := 0
  runSvn : BitVec 6 := 0#6
  keyIdx : BitVec 2 := 0#2
  pendZeroise : NSet := []
  pendUnpin : List (Nat × Nat) := []
deriving DecidableEq, Repr

/-- PRT_PSTAT.STATE (Table PRT-6). -/
inductive PortSt where
  | reset
  | train
  | up
  | drain
deriving DecidableEq, Repr

/-- One host port (Tables PRT-5, PRT-6) with its IDE streams (R397, R398). -/
structure Port where
  st : PortSt := .reset
  fails : Nat := 0
  backoff : Bool := false
  width : BitVec 3 := 0#3
  rate : BitVec 3 := 0#3
  mld : Bool := false
  bonded : Bool := false
  linkUps : W16 := 0#16
  inL1 : Bool := false
  ideSecure : Bool := false
  ideInsecure : Bool := false
  ideKeys : NSet := []
  ideActive : Option Nat := none
deriving DecidableEq, Repr

/-- A logical device's HDM decoder (R56). -/
structure Hdm where
  base : W64 := 0#64
  size : W64 := 0#64
  ways : Nat := 1
  gran : Nat := 256
  lock : Bool := false
  committed : Bool := false
  error : Bool := false
deriving DecidableEq, Repr

inductive ReqOp where
  | rd
  | wr
  | inv
deriving DecidableEq, Repr

/-- A host CXL.mem request after translation (R60, R299, R300). -/
structure Req where
  id : Nat
  port : Nat
  tenant : Nat
  op : ReqOp
  dpa : Nat
  mv : Meta
  ua : Nat
  cls : Nat
  enc : Option Nat
  region : Option Nat
  data : Line
  be : W64
  poison : Bool
  md : Media
  stamp : Nat
  oldEpoch : W16
  /-- Admitted at the demoted rank, for the rest of its life (R308, R310). -/
  demoted : Bool := false
  /-- The bank that its lookup began on, while it waits at resolution (R66, R279). -/
  onB : Bool := false
deriving DecidableEq, Repr

/-- Who reads or writes memory, other than a host request (R79, R101, R308). -/
inductive Reader where
  | op (id : Nat)
  | grain (id : Nat)
  | move (plot : Nat)
  | engine (fe : Nat)
  | close (block : Nat)
deriving DecidableEq, Repr

/-- An item that waits on the bridge (R13): a host request, or an access of a unit, known by its label and stamp. -/
inductive BItem where
  | host (r : Req)
  | unit (who : Reader) (tenant cls stamp : Nat) (demoted : Bool)
deriving DecidableEq, Repr

/-- The die-to-die bridge with the items that wait for a retrain (R13 to R15), and the stewardship conflict (R435). cut
holds the units whose access was queued on it when it went down: that access ends with poison (R14). -/
structure Bridge where
  up : Bool := true
  lanesN : Nat := 96
  sparesN : Nat := 4
  lanesS : Nat := 96
  sparesS : Nat := 4
  retraining : Bool := false
  replays : Nat := 0
  conflict : Bool := false
  queue : List BItem := []
  cut : List Reader := []
deriving DecidableEq, Repr

/-- A unit's accesses at its Headgate (R307, R308): how many of the program that runs have asked, been charged and been
demoted; and for each unit with a waiting program, how many of its accesses are admitted and whether the next is held. -/
structure UnitAcc where
  seen : Nat := 0
  charged : Nat := 0
  demoted : Nat := 0
  last : Bool := false
  paid : List (Reader × Nat) := []
  held : List Reader := []
deriving DecidableEq, Repr

/-- Purpose of a non-posted request of the module (R51, R53). -/
inductive DmaUse where
  | fetch (ring head count : Nat)
  | farHost (r : Req)
  | farFor (who : Reader) (key no : Nat)
deriving DecidableEq, Repr

/-- A request of the module to a host's memory, outstanding or waiting for Bus Master Enable (R51). -/
inductive Want where
  | read (tag : Nat) (use : DmaUse) (addr : W64) (len : Nat)
  | write (addr : W64) (bytes : List Byte)
  | record (addr : W64) (r : W128)
  | msix (v : Nat)
deriving DecidableEq, Repr

structure Tag where
  tag : Nat
  tenant : Nat
  use : DmaUse
deriving DecidableEq, Repr

/-- A logical device: functions, resets, MSI-X, event logs, CXL device state (R29 to R33, R46, R51, R375, R445). -/
structure Ld where
  enumerated : Bool := false
  hostBound : Bool := false
  recordedW : Nat := 28
  bme : Bool := false
  d3hot : Bool := false
  pmeEn : Bool := false
  ctoField : BitVec 4 := 0#4
  flr : Bool := false
  portDrain : Bool := false
  /-- Counts of the running drain, for its record (R46). -/
  drainAborted : Nat := 0
  drainRefused : Nat := 0
  /-- The drain that runs has logged its record: it began as an FLR's (R50). -/
  drainLogged : Bool := false
  msixEn : Bool := false
  fnMask : Bool := false
  vecMask : BitVec 4 := 0xF#4
  pending : BitVec 4 := 0#4
  msixTab : Tab W128 := []
  aerTimeout : Bool := false
  aerUnexp : Bool := false
  hdm : Hdm := {}
  /-- Words that the HDM decoder's registers were last written, by register (R32, R56). -/
  hdmWords : Tab W32 := []
  waiting : List Want := []
  logInfo : List W256 := []
  logWarn : List W256 := []
  logFail : List W256 := []
  overflow : Tab Nat := []
  evPolicy : W32 := 0#32
  /-- What the timestamp that was set is ahead of the module-wide count. -/
  timestamp : Option W64 := none
  dcToRelease : List Nat := []
  relAck : Bool := true
deriving DecidableEq, Repr

/-- A WTT configuration: the RW fields of WTT_CFG (Table WTT-3). -/
abbrev WttCfg := W32

/-- Where a pending commit of a tenant stands (R68 to R70): waiting for OLD_DONE, waiting for the answers of its
back-invalidation, or ready to flip. -/
inductive WttPend where
  | queued
  | walking
  | clear
deriving DecidableEq, Repr

/-- One tenant's window tables (R63 to R68). -/
structure Wtt where
  bankA : Tab W128 := []
  bankB : Tab W128 := []
  cfgA : WttCfg := 0x071C1000#32
  cfgB : WttCfg := 0x071C1000#32
  onB : Bool := false
  epoch : W16 := 0#16
  oldDone : Bool := true
  pend : Option WttPend := none
deriving DecidableEq, Repr

/-- Plot states (Table TIR-4). -/
inductive PlotSt where
  | unwritten
  | bulk
  | near
  | nearDirty
  | promoting
  | demoting
  | far
  | farLost
deriving DecidableEq, Repr

/-- MODE of a plot (Table CMP-1). -/
inductive Mode where
  | packed
  | footprint
  | fixed
  | raw
deriving DecidableEq, Repr

/-- A claim: tenant, kind and charge (Table TIR-7). -/
structure Claim where
  tenant : Nat
  auto : Bool
  pool : Bool
deriving DecidableEq, Repr

/-- A plot map entry with its Near slot record and its running move (Tables TIR-2, TIR-7). -/
structure Plot where
  st : PlotSt := .unwritten
  expend : Bool := false
  mode : Mode := .footprint
  farb : Bool := false
  fmove : Bool := false
  cnt : Nat := 0
  age : Nat := 0
  slot : Nat := 0
  qtenant : Nat := 0
  loc : Nat := 0
  units : Nat := 0
  pool : Bool := false
  claims : List Claim := []
  pins : NSet := []
  dirty : BitVec 16 := 0#16
  copied : BitVec 16 := 0#16
  cancel : Bool := false
  cls : Nat := 0
  mover : Nat := 0
  charged : Bool := false
  free : Bool := false
  /-- A DEMOTE with TOFAR that waits for the plot to be BULK: its class and its tenant (Table ALM-6, R268). -/
  farWant : Option (Nat × Nat) := none
  farDst : Option (Nat × Nat) := none
  farPool : Bool := false
  stamp : Nat := 0
deriving DecidableEq, Repr

/-- Who asked for a claim, and so what its refusal means (R89). -/
inductive ClaimCause where
  | auto
  | op (id : Nat) (pin : Bool)
  | alm (cal cursor firing : Nat) (pin : Bool)
deriving DecidableEq, Repr

/-- A claim that waits for a slot or for room in the pool (R89). -/
structure WaitClaim where
  id : Nat
  plot : Nat
  tenant : Nat
  cause : ClaimCause
  cls : Nat
deriving DecidableEq, Repr

/-- A relocation under R377 or R378. -/
structure Reloc where
  bulk : Bool
  half : Half
  number : Nat
  plot : Nat
  dest : Option Nat
deriving DecidableEq, Repr

/-- Bytes of a Far place on their way to a reader, or arrived, or their read's failure; no is the number of the read. -/
structure FarBuf where
  who : Reader
  key : Nat
  no : Nat
  got : Option (Status × List Byte)
deriving DecidableEq, Repr

/-- The command that TIR_ASGN_STAT.BUSY stands for: its OP, range and template; wait is the plot whose move to Far it
started to make room (Table TIR-9). -/
structure AsgnPend where
  op : Nat
  base : Nat
  count : Nat
  tmpl : W128
  wait : Option Nat := none
deriving DecidableEq, Repr

/-- Plots, their bytes and what they are stored as. poison is the backing copies', npoison the Near copies'; both hold
plot × 8,192 + line (0-1,023), 1,024 + block for a coded footprint stream, or 2,048 + sector of an area. -/
structure Tier where
  plots : Tab Plot := []
  mem : Mem := []
  written : NSet := []
  poison : NSet := []
  npoison : NSet := []
  area : Mem := []
  smap : Tab W128 := []
  side : Tab W64 := []
  keyTag : Tab (BitVec 512) := []
  esc : Mem := []
  escUsed : NSet := []
  waits : List WaitClaim := []
  nextWait : Nat := 0
  asgnPend : Option AsgnPend := none
  farBuf : List FarBuf := []
  nextFar : Nat := 0
  reloc : Option Reloc := none
  badSlots : NSet := []
  badUnits : NSet := []
  snap : W128 := 0#128
  snapRec : Option (Nat × Plot) := none
deriving DecidableEq, Repr

/-- A firing that is tracked for lateness (R127). -/
structure Track where
  id : Nat
  target : W32
  tag : W32
  late : Bool := false
  latest : W32 := 0#32
  issued : Bool := false
  /-- Plots whose promotion, and plots whose staging, has not ended. -/
  watch : NSet := []
  watchStage : NSet := []
deriving DecidableEq, Repr

/-- A cursor of a calendar (R104, R106) with the counters of Tables ALM-14 to ALM-17. -/
structure Cursor where
  tenant : Nat
  src : BitVec 2
  pos : Option W32 := none
  cnt0 : W32 := 0#32
  cnt1 : W32 := 0#32
  cnt2 : W32 := 0#32
  cnt3 : W32 := 0#32
  tracks : List Track := []
deriving DecidableEq, Repr

/-- A position update on its way to a calendar's half from the half it arose on: a mark, with the operation that waits for
it where a MARK descriptor sent it, or the trigger's layer and STEPSTART (R107, R110). -/
inductive AlmUpd where
  | mark (src : Half) (op : Option Nat) (cal tenant : Nat) (m : W32)
  | trig (src : Half) (cal tenant layer : Nat) (stepStart : Bool)
deriving DecidableEq, Repr

/-- A calendar (R112 to R119). -/
structure Cal where
  owner : Nat
  layers : Nat
  fwdmax : Nat
  entries : List W256
  triggers : List W128
  cursors : Tab Cursor
  queue : List (Nat × AlmUpd) := []
  /-- A replacing load that waits to commit: its operation and its image (R117). -/
  loading : Option (Nat × List Byte) := none
deriving DecidableEq, Repr

/-- Plot actions of one passing group, issued and not yet taken (R115, R121): next plot and how many remain. -/
structure AlmAct where
  cal : Nat
  cursor : Nat
  tenant : Nat
  entry : W256
  firing : Nat
  plot : Nat
  left : Nat
deriving DecidableEq, Repr

structure Alm where
  cals : Tab Cal := []
  updates : List AlmUpd := []
  acts : List AlmAct := []
  nextFiring : Nat := 0
  /-- Firings with a refused or lost action, counted once each (R126). -/
  refusedFirings : NSet := []
deriving DecidableEq, Repr

/-- One generation of a decode table: its image, 4,096 bytes (R149). -/
structure Gen where
  gen : Byte
  check : W32
  image : List Byte
deriving DecidableEq, Repr

/-- A table slot (Table CMP-11). -/
structure TSlot where
  owner : Nat := 0
  cur : Option Gen := none
  drain : Option Gen := none
deriving DecidableEq, Repr

/-- An open footprint block in a write compressor (R19): the lines assembled, and those that came poisoned (R370);
closing while the read of its stored lines is on its way (R21). -/
structure OpenBlk where
  unit : Nat
  block : Nat
  data : Tab Line
  bad : NSet := []
  closing : Bool := false
deriving DecidableEq, Repr

structure Cmp where
  slots : Tab TSlot := []
  terr0 : Tab W32 := []
  terr1 : Tab W32 := []
  kept : Tab (List (Nat × List Byte)) := []
  opened : List OpenBlk := []
  /-- Host requests that wait for a closing block's release, or for a buffer (R21). -/
  closeWait : List Req := []
  tcmdStatus : Byte := 0#8
deriving DecidableEq, Repr

/-- DSC_SQ_STAT_n.STATE (Table DSC-2). -/
inductive RingSt where
  | disabled
  | running
  | stopped
  | disabling
deriving DecidableEq, Repr

structure Ring where
  st : RingSt := .disabled
  head : Nat := 0
  tail : Nat := 0
  err : Bool := false
  ecause : Nat := 0
  fetched : List Line := []
  fetching : Bool := false
  /-- The descriptor at HEAD has been counted in WAITCQ; since when, in ns, it waits for a device-wide slot, and its number in
  the order in which such waits began (R243, R244). -/
  waitCq : Bool := false
  waitSlot : Option (Nat × Nat) := none
deriving DecidableEq, Repr

/-- A tenant's ring engine state (R242, R272, R276). -/
structure RingEng where
  last : Nat := 15
  cqTail : Nat := 0
  cqPhase : Bool := true
  cqHead : Nat := 0
  coalescing : Bool := false
  coalOwed : Bool := false
deriving DecidableEq, Repr

/-- A descriptor in flight (R243 to R247, R174). -/
structure Op where
  id : Nat
  tenant : Nat
  ring : Nat
  desc : Line
  cls : Nat
  epoch : W16
  rmode : Nat
  sat : Bool
  seed : W32
  /-- Its parameter block as read before it was accepted (R262, R265). -/
  param : List Byte := []
  started : Bool := false
  done : Option Status := none
  detail : Nat := 0
  refused : Nat := 0
  watch : NSet := []
  /-- Plots that an image install has installed, and bytes of records it has handled (R160). -/
  installed : Nat := 0
  recAt : Nat := 0
  /-- The version that a finished PUBLISH or ACQUIRE is to return (R288, R291). -/
  res : Option W32 := none
  /-- Ranges of its operands that its tenant maps with ENC: first byte, bytes, key slot (R399). -/
  encs : List (Nat × Nat × Nat) := []
  /-- The plot whose move to Far it started to make room (Table TIR-9). -/
  wait : Option Nat := none
  /-- A plot of its range lay across a bridge that was down: it ends with POISON_CONSUMED (R14). -/
  cut : Bool := false
deriving DecidableEq, Repr

structure Grant where
  base : Nat
  len : Nat
  rd : Bool
  wr : Bool
deriving DecidableEq, Repr

/-- A Spaern program image (R225). -/
structure Prog where
  replay : Bool
  entry : Nat
  ngrant : Nat
  check : W32
  code : List W32
deriving DecidableEq, Repr

structure PSlot where
  owner : Nat := 0
  cur : Option Prog := none
  old : Option Prog := none
deriving DecidableEq, Repr

/-- A RUN_PROGRAM job (R216 to R222, R265). -/
structure Job where
  id : Nat
  tenant : Nat
  cls : Nat
  half : Half
  slot : Nat
  prog : Prog
  grants : List Grant
  args : List W64
  jc : List W64
  ilim : Nat
  wlim : Nat
  total : Nat
  created : Nat := 0
  ended : Nat := 0
  stop : Option (Status × Nat) := none
  needBanks : Nat
  banks : List Nat := []
  /-- Its image is the slot's old one; and RUN_PROGRAM has started it (R226). -/
  old : Bool := false
  started : Bool := false
  encs : List (Nat × Nat × Nat) := []
deriving DecidableEq, Repr

inductive GrainSt where
  | ready
  | running
  | waiting
deriving DecidableEq, Repr

/-- Registers of a grain (Table TND-1). -/
structure Ctx where
  x : List W64
  v : List (BitVec 512)
  k : List W64
  pc : Nat
  scratch : Mem
deriving DecidableEq, Repr

/-- A resident grain (R209, R218); stamp is when it entered READY (Table HGT-2). -/
structure Grain where
  id : Nat
  job : Nat
  index : Nat
  half : Half
  st : GrainSt
  core : Nat := 0
  ctx : Ctx
  saved : Ctx
  icount : Nat := 0
  /-- The instruction count in its saved context (Table TND-1). -/
  savedCount : Nat := 0
  waitJc : Nat := 0
  waitVal : W64 := 0#64
  stamp : Nat := 0
  /-- Time spent in WAITING before since, in ns (R221). -/
  waited : Nat := 0
  since : Nat := 0
deriving DecidableEq, Repr

/-- State of an engine or core (Table FLE-7). -/
inductive UnitSt where
  | inService
  | fencing
  | fenced
  | testing
deriving DecidableEq, Repr

structure UnitCtl where
  st : UnitSt := .inService
  cause : BitVec 3 := 0#3
  tpass : Bool := false
  fieldTest : Bool := false
  /-- A command of FLE_FENCE or TND_FENCE on it is running: it holds BUSY. -/
  cmd : Bool := false
deriving DecidableEq, Repr

/-- A staging entry (R192, R193): a stored block, its bank, its holders and its table binding; got is what a lending host
returned for it, or the failure of its read. -/
structure Staged where
  block : Nat
  bank : Nat
  /-- 64-byte sectors of the bank that hold its stream. -/
  secs : NSet := []
  holders : NSet
  bind : Option (Nat × Byte)
  got : Option (Status × List Byte) := none
  drop : Bool := false
deriving DecidableEq, Repr

/-- A strip of an FE grain (R182). -/
structure Strip where
  down : Bool
  index : Nat
deriving DecidableEq, Repr

/-- A block in an engine's work banks: its 16-byte output header (Table FLE-4) and its expanded contents (R188, R192). -/
structure OutBlk where
  hdr : List Byte
  body : List Byte
deriving DecidableEq, Repr

/-- What an engine runs a strip for: its own job's output, or a comparison by number, as its checker or as the third engine
(R202, R204). -/
inductive Role where
  | primary
  | checker (dup : Nat)
  | third (dup : Nat)
deriving DecidableEq, Repr

/-- One expert's row tile on an engine (R198). rows are token numbers, blk the number of its first block (R190); k and second
say where its chain stands. Its work banks hold its input blocks, the released output of its up strips by strip, the
intermediate blocks once they are formed, and its strips' outputs that wait for a comparison (R189, R190, R192, R203). -/
structure FGrain where
  id : Nat
  op : Nat
  tenant : Nat
  cls : Nat
  expert : Nat
  rows : List Nat
  fe : Nat
  strips : List Strip
  inp : List OutBlk
  mid : Tab (List OutBlk) := []
  inter : List OutBlk := []
  held : List Strip := []
  role : Role := .primary
  /-- The comparison that its running strip is sampled for. -/
  dup : Option Nat := none
  /-- Tensor tag of the running strip's first weight block (Table FLE-4). -/
  tag : Nat := 0
  acc0 : List (List W32) := []
  acc1 : List (List W32) := []
  second : Bool := false
  banks : List Nat := []
  blk : Nat := 0
  k : Nat := 0
  stamp : Nat := 0
  /-- Its next tile has been counted as waiting for fetches, for staging room, and as stalled (R97, R200). -/
  wFetch : Bool := false
  wSpace : Bool := false
  stalled : Bool := false
  /-- Its next tile is ready, since stamp (Table HGT-2); the blocks that it reads. -/
  rdy : Bool := false
  need : NSet := []
deriving DecidableEq, Repr

/-- The running tile of an engine: its grain, the k it ends at and the accumulators it leaves (R182, R195). -/
structure Tile where
  grain : Nat
  kEnd : Nat
  acc : List (List W32)
  fail : Option Status
  blocks : NSet := []
  /-- Banks that it reads from (R347). -/
  banks : NSet := []
deriving DecidableEq, Repr

/-- A block that an engine has asked for (R193, R194): tenant is its holder where a STAGE asked; by and cls are its tenant
and class at the Headgate (R307). -/
structure StageReq where
  block : Nat
  tenant : Option Nat
  firing : Option Nat
  by_ : Nat
  cls : Nat
  admitted : Bool := false
  held : Bool := false
deriving DecidableEq, Repr

structure Engine where
  ctl : UnitCtl := {}
  staged : List Staged := []
  fills : List StageReq := []
  grains : List FGrain := []
  tile : Option Tile := none
  aob : Option Nat := none
deriving DecidableEq, Repr

/-- Routing of one token: experts and FP32 weights in list order (R228, R263). -/
abbrev Route := List (Nat × W32)

/-- A result block of a down strip in an output ring: the expert, the tokens whose rows it holds, and its strip (R189). -/
structure ResBlk where
  expert : Nat
  rows : List Nat
  strip : Nat
  blk : OutBlk
deriving DecidableEq, Repr

/-- A sampled strip between its start and its comparison (R201 to R204): the primary, its grain, the checker, the third engine
where one runs, and the outputs that have come. -/
structure Dup where
  id : Nat
  op : Nat
  grain : Nat
  primary : Nat
  strip : Strip
  checker : Nat
  thirdFe : Option Nat := none
  out1 : Option (List OutBlk) := none
  out2 : Option (List OutBlk) := none
deriving DecidableEq, Repr

/-- An EXPERT job (R262 to R264). results holds its released result blocks; strips counts its down strips, which jc0 reaches
(R220). -/
structure XJob where
  op : Nat
  routes : List Route
  results : List ResBlk
  strips : Nat
  jc0 : Nat := 0
  experts : Nat
deriving DecidableEq, Repr

/-- A pin of a region: tenant, buffer, version (R288). -/
structure Pin where
  tenant : Nat
  buf : Nat
  ver : W32
deriving DecidableEq, Repr

/-- A publication between its compare and its flip (R291). -/
structure Pub where
  op : Nat
  buf : Option Nat
  ver : W32
deriving DecidableEq, Repr

structure Region where
  enabled : Bool := false
  cfgErr : Bool := false
  nbuf : Nat := 0
  size : Nat := 0
  view : Nat := 0
  bufs : Tab Nat := []
  ver : W32 := 0#32
  cur : Nat := 0
  pins : List Pin := []
  pub : Option Pub := none
deriving DecidableEq, Repr

inductive DirSt where
  | shared
  | owned
  | orphaned
deriving DecidableEq, Repr

/-- A directory entry (Table SHR-1); used is its place in the recency order. -/
structure Dir where
  st : DirSt
  coarse : Bool := false
  holders : NSet
  region : Nat
  used : Nat
deriving DecidableEq, Repr

/-- What a snoop was sent for (R283, R286, R287, R290, R296). -/
inductive SnpWhy where
  | req (rid : Nat)
  | evict (rid : Nat)
  | walk (w : Nat)
  | unit
deriving DecidableEq, Repr

structure Snoop where
  id : Nat
  tenant : Nat
  line : Nat
  inv : Bool
  why : SnpWhy
deriving DecidableEq, Repr

/-- What a back-invalidation walk was started by (R70, R288, R291, R465). -/
inductive WalkWhy where
  | publish (op region : Nat)
  | acquire (op region : Nat)
  | release (op region : Nat)
  | commit (tenant : Nat)
  | flr (tenant region : Nat)
deriving DecidableEq, Repr

structure Walk where
  id : Nat
  why : WalkWhy
  /-- Held plots that it visits (R290). -/
  plots : NSet := []
deriving DecidableEq, Repr

structure Shr where
  regions : Tab Region := []
  dir : Tab Dir := []
  tick : Nat := 0
  snoops : List Snoop := []
  waiting : List Req := []
  wayWait : List Req := []
  resWait : List Req := []
  walks : List Walk := []
  nextId : Nat := 0
  sweeping : NSet := []
  heldMap : NSet := []
  orphaned : Tab Nat := []
  /-- The release of orphans that runs, of a region or of a tenant (R295). -/
  relCmd : Option (Bool × Nat) := none
deriving DecidableEq, Repr

/-- A tenant's Headgate and Weirs (R306 to R317). -/
structure Hg where
  held : List Req := []
  used : Tab Nat := []
  win : Nat := 4
  mode : BitVec 8 := 0#8
  bud : Tab Nat := []
  maxPrev : Tab Nat := []
  maxCur : Tab Nat := []
  heldPrev : NSet := []
  heldCur : NSet := []
  uib : BitVec 2 := 0#2
deriving DecidableEq, Repr

inductive ChanSt where
  | inService
  | paused
  | retired
deriving DecidableEq, Repr

/-- A DRAM channel's controller (R327 to R335). Channels 0-135 are LCn; 136 + n is HPCn. -/
structure Chan where
  st : ChanSt := .inService
  lost : Bool := false
  tfails : Nat := 0
  wq : NSet := []
  chk : NSet := []
  rows : Tab Nat := []
  rowCnt : Tab Nat := []
  owed : Tab Nat := []
  ceSec : Nat := 0
  ceStamp : Nat := 0
  ceLogged : Bool := false
  refRate : BitVec 2 := 0#2
  rateWant : Option (BitVec 2) := none
deriving DecidableEq, Repr

/-- DMC_RMAP_n.STATE (Table DMC-3). -/
inductive RankSt where
  | normal
  | copying
  | switching
  | spared
  | spilling
  | spilled
deriving DecidableEq, Repr

structure Rank where
  st : RankSt := .normal
  phys : Nat
  spare : Nat := 0
  row : Nat := 0
  ceSec : Nat := 0
  ceStamp : Nat := 0
  auto : Bool := false
  parked : Bool := false
deriving DecidableEq, Repr

/-- Whose read a tier controller has not returned: a host request's, or a unit's of a line. -/
inductive TierSrc where
  | host (r : Req)
  | unit (who : Reader) (line : Nat) (tenant cls stamp : Nat)
deriving DecidableEq, Repr

/-- A tier read not returned when it was served, and one ended with TIMEOUT (R331). -/
structure TierRead where
  id : Nat
  src : TierSrc
  chan : Nat
  bank : Nat := 0
  timedOut : Bool := false
deriving DecidableEq, Repr

/-- The DRAM channels and ranks. damage holds the damaged symbols of stored lines, badPins the failed pins of physical ranks
(R324, R325, R363); spillEsc the escape entries of spilled units (R144, R339); ended the units' reads of lines that ended with
TIMEOUT, until their program meets them (R331). -/
structure Dmc where
  chans : Tab Chan := []
  damage : Tab NSet := []
  badPins : Tab NSet := []
  spillEsc : Tab Nat := []
  ended : List (Reader × Nat) := []
  ranks : Tab Rank := []
  retiredRanks : NSet := []
  spillUsed : NSet := []
  reads : List TierRead := []
  nextRead : Nat := 0
  setVer : Tab W16 := []
  setNext : Tab W16 := []
deriving DecidableEq, Repr

/-- Owner kinds (Table CST-1). -/
inductive BankKind where
  | free
  | stage
  | work
  | job
  | mgmt
  | test
  | retired
deriving DecidableEq, Repr

inductive PState where
  | on
  | retention
  | fallow
  | filling
deriving DecidableEq, Repr

/-- A Cistern bank (Table CST-6). next is the owner it takes when its fill ends (R345, R347). -/
structure Bank where
  kind : BankKind
  owner : Nat := 0
  ps : PState := .on
  handover : Option (Option Nat) := none
  mpass : Bool := false
  before : BankKind := .free
  next : Option BankKind := none
  /-- Corrected reads in the second ceStamp, and whether it has logged them (R364). -/
  ceSec : Nat := 0
  ceStamp : Nat := 0
  ceLogged : Bool := false
deriving DecidableEq, Repr

/-- An access that waits at a port: how many cycles it has stalled there (R350). -/
structure CWait where
  req : CReq
  port1 : Bool
  stall : Nat := 0
deriving DecidableEq, Repr

/-- A bank's ports: what waits, and the accesses in the second of two cycles, by port (R349, R352). -/
structure CPorts where
  wait : List CWait := []
  second : List (Bool × CReq) := []
deriving DecidableEq, Repr

/-- A march run of one half (R359 to R361). -/
structure March where
  destructive : Bool
  first : Nat
  count : Nat
  bg : BitVec 4
deriving DecidableEq, Repr

structure Cst where
  banks : Tab Bank := []
  mem : Mem := []
  poison : NSet := []
  /-- Stored bits that have flipped, by code word (R354). -/
  damage : Tab NSet := []
  allotWait : List Nat := []
  ports : Tab CPorts := []
  marchN : Option March := none
  marchS : Option March := none
  waking : NSet := []
deriving DecidableEq, Repr

/-- A maintenance activity (Table RAS-10). -/
structure Activity where
  id : Nat
  code : Nat
  scope : NSet
  unit : Nat
  start : Nat
  granted : Bool
  won : Bool := false
  parking : Bool := false
  longLogged : Bool := false
deriving DecidableEq, Repr

structure Ras where
  log : List W256 := []
  logNext : Nat := 0
  logWraps : Nat := 0
  lapCe : Tab Nat := []
  lapUe : Tab Nat := []
  acts : List Activity := []
  nextAct : Nat := 0
  /-- A flash write of the retirement list that runs: the number and the kind it is for (R380, R381). -/
  flashWr : Option (Nat × Nat) := none
deriving DecidableEq, Repr

inductive KeySt where
  | empty
  | loaded
  | zeroising
deriving DecidableEq, Repr

structure Key where
  st : KeySt := .empty
  k : BitVec 512 := 0#512
  drbg : Bool := false
  gen : W16 := 0#16
deriving DecidableEq, Repr

structure Session where
  id : Nat
  ep : Endpoint
  established : Bool
  /-- Key updates made in it (R394). -/
  updates : Nat := 0
deriving DecidableEq, Repr

structure Sec where
  keys : Tab Key := []
  sessions : List Session := []
  nextSession : Nat := 1
  bound : Option Endpoint := none
  boundEid : Byte := 0#8
  unlocked : Bool := false
  nonceNo : Nat := 0
  drbgNo : Nat := 1
  measured : W32 := 0#32
  /-- Digests of measurement indices 1 to 5 and 7 as they were at reset (R395). -/
  digests : List (BitVec 512) := []
  fuseBusy : Bool := false
  /-- Slots that a running SEC_KCMD zeroises (Table SEC-14). -/
  kcmdWait : NSet := []
deriving DecidableEq, Repr

inductive UpdSt where
  | idle
  | loading
  | verified
  | committing
deriving DecidableEq, Repr

structure Upd where
  st : UpdSt := .idle
  len : Nat := 0
  chunks : NSet := []
  bytes : Mem := []
  win : Tab W32 := []
  bist : Option (Nat × Nat) := none
  bistPass : Bool := false
deriving DecidableEq, Repr

/-- Governor and thermal ladder (R423 to R430). f is an FP32 value; cool1 to cool3 count the samples since every sensor is
3 °C below the threshold of that level. -/
structure Pwm where
  f : W32 := 0x3F800000#32
  thermCap : Nat := 90
  level : Nat := 0
  cool1 : Nat := 0
  cool2 : Nat := 0
  cool3 : Nat := 0
  limit : Nat := 0
  standby : Bool := false
deriving DecidableEq, Repr

structure Mgmt where
  eids : List (Endpoint × Byte) := []
  i3cAddr : Option (BitVec 7) := none
  limits : List (Endpoint × Byte) := []
  fmTimestamp : Tab W64 := []
  fmPolicy : Tab W32 := []
  fmInfo : Tab (List W256) := []
  fmWarn : Tab (List W256) := []
  fmFail : Tab (List W256) := []
  fmOverflow : Tab Nat := []
deriving DecidableEq, Repr

/-- Stored register words: BAR0 and BAR2 by tenant × 65,536 + offset, the steward space by offset; each defaults to the
register's reset value (Tables REG-7 to REG-22; 0 in BAR2 and in the HDM decoder of BAR0). -/
structure Regs where
  bar : Tab W32 := []
  bar2 : Tab W32 := []
  stw : Tab W32 := []
deriving DecidableEq, Repr

/-- The whole machine. -/
structure State where
  clk : Clk
  pins : Pins
  fuse : Fuses
  flash : Flash
  reg : Regs
  north : HalfSt
  south : HalfSt
  bridge : Bridge
  ports : Tab Port
  lds : Tab Ld
  tags : List Tag
  quarantine : List Tag
  wtt : Tab Wtt
  wttData : Tab W32
  flip : List NSet
  tier : Tier
  alm : Alm
  cmp : Cmp
  rings : Tab Ring
  eng : Tab RingEng
  ops : List Op
  nextOp : Nat
  jobs : List Job
  grains : List Grain
  nextGrain : Nat
  pslots : Tab PSlot
  fes : Tab Engine
  tcs : Tab UnitCtl
  xjobs : List XJob
  dups : List Dup
  shr : Shr
  hg : Tab Hg
  nextReq : Nat
  arb : List (Arb × List Item)
  dmc : Dmc
  cst : Cst
  ras : Ras
  sec : Sec
  upd : Upd
  pwm : Pwm
  mgmt : Mgmt
  out : List Msg
  acc : UnitAcc
  freeCtr : Nat
  pending : List Instr
deriving DecidableEq, Repr

/-- The state that a module reset leaves: everything at its reset value but the fuses, the flash and the pins
(R42, R441). The default half is the steward by Table PWM-14. -/
def State.afterReset (p : Pins) (fu : Fuses) (fl : Flash) : State :=
  { clk := {}, pins := p, fuse := fu, flash := fl, reg := {}
    north := { role := if fu.dfltSouth then .deputy else .steward }
    south := { role := if fu.dfltSouth then .steward else .deputy }, bridge := {}, ports := [], lds := []
    tags := [], quarantine := [], wtt := [], wttData := [], flip := []
    tier := {}, alm := {}, cmp := {}, rings := [], eng := [], ops := [], nextOp := 0
    jobs := [], grains := [], nextGrain := 0, pslots := [], fes := [], tcs := [], xjobs := [], dups := []
    shr := {}, hg := [], nextReq := 0, arb := [], dmc := {}, cst := {}, ras := {}, sec := {}
    upd := {}, pwm := {}, mgmt := {}, out := [], acc := {}, freeCtr := 0, pending := [] }

/-- The module right after reset (R42, R441). -/
def State.reset : State := State.afterReset {} {} {}

end Sys2Proof.Machine
end

