-- ==== Sys2Proof/Machine/Ops.lean ====
section
/-! DEFINITION. The named operations over sparse tables, bytes, sets, bit fields and counters that every meaning uses. -/

namespace Sys2Proof.Machine

open Host (Outcome)

/-- The entry of key k, or the table's default. -/
def tget {α : Type} (d : α) (k : Nat) : Tab α → α
  | [] => d
  | (j, v) :: r => if j = k then v else tget d k r

/-- The entry of key k, if the table lists one. -/
def tfind {α : Type} (k : Nat) : Tab α → Option α
  | [] => none
  | (j, v) :: r => if j = k then some v else tfind k r

/-- Put (k, v) at its place among rising keys. -/
def tins {α : Type} (k : Nat) (v : α) : Tab α → Tab α
  | [] => [(k, v)]
  | (j, w) :: r => if k < j then (k, v) :: (j, w) :: r else (j, w) :: tins k v r

/-- Take every entry of key k out. -/
def tdel {α : Type} (k : Nat) (t : Tab α) : Tab α := t.filter (fun e => e.1 ≠ k)

/-- List (k, v) in place of what k had, whatever v is. -/
def tput {α : Type} (k : Nat) (v : α) (t : Tab α) : Tab α := tins k v (tdel k t)

/-- Write k: an entry equal to the default is not listed. -/
def tset {α : Type} [DecidableEq α] (d : α) (k : Nat) (v : α) (t : Tab α) : Tab α :=
  if v = d then tdel k t else tput k v t

/-- Rising keys, none equal to the default d. -/
def tabWf {α : Type} [DecidableEq α] (d : α) (t : Tab α) : Bool :=
  (t.map Prod.fst).Pairwise (· < ·) && t.all (fun e => e.2 ≠ d)

/-- The canonical form of the sparse bytes. -/
def memWf (m : Mem) : Bool := tabWf (0#8) m

def nmem (k : Nat) (s : NSet) : Bool := s.contains k

def nins (k : Nat) : NSet → NSet
  | [] => [k]
  | j :: r => if k < j then k :: j :: r else if k = j then j :: r else j :: nins k r

def ndel (k : Nat) (s : NSet) : NSet := s.filter (fun j => j ≠ k)

/-- Every member of a range taken out. -/
def ndelRange (lo len : Nat) (s : NSet) : NSet := s.filter (fun j => j < lo || lo + len ≤ j)

def ninsAll (l : List Nat) (s : NSet) : NSet := l.foldl (fun a k => nins k a) s

def mget (a : Nat) (m : Mem) : Byte := tget (0#8) a m

def mset (a : Nat) (v : Byte) (m : Mem) : Mem := tset (0#8) a v m

/-- n bytes from address a. -/
def mread (a : Nat) : Nat → Mem → List Byte
  | 0, _ => []
  | n + 1, m => mget a m :: mread (a + 1) n m

/-- Bytes stored from address a up. -/
def mwrite (a : Nat) : List Byte → Mem → Mem
  | [], m => m
  | b :: r, m => mwrite (a + 1) r (mset a b m)

/-- Take every byte of a range out: it reads 0. -/
def mclear (lo len : Nat) (m : Mem) : Mem := m.filter (fun e => e.1 < lo || lo + len ≤ e.1)

/-- Bits hi down to lo of a number. -/
def fld (hi lo : Nat) (w : Nat) : Nat := (w / 2 ^ lo) % 2 ^ (hi + 1 - lo)

/-- Bits hi down to lo of a word. -/
def bits {n : Nat} (hi lo : Nat) (w : BitVec n) : Nat := fld hi lo w.toNat

/-- Bit i of a word. -/
def bit {n : Nat} (i : Nat) (w : BitVec n) : Bool := w.getLsbD i

/-- A word with bits hi down to lo replaced. -/
def setBits {n : Nat} (hi lo : Nat) (v : Nat) (w : BitVec n) : BitVec n :=
  let m : BitVec n := BitVec.ofNat n ((2 ^ (hi + 1 - lo) - 1) * 2 ^ lo)
  (w &&& ~~~m) ||| (BitVec.ofNat n (v % 2 ^ (hi + 1 - lo) * 2 ^ lo))

def setBit {n : Nat} (i : Nat) (v : Bool) (w : BitVec n) : BitVec n := setBits i i v.toNat w

/-- A mask of bits hi down to lo. -/
def maskBits (hi lo : Nat) : Nat := (2 ^ (hi + 1 - lo) - 1) * 2 ^ lo

/-- A number placed at bit lo of a word. -/
def at32 (lo v : Nat) : W32 := BitVec.ofNat 32 (v * 2 ^ lo)

def b2n (b : Bool) : Nat := b.toNat

/-- Little-endian value of bytes (R4). -/
def leNat : List Byte → Nat
  | [] => 0
  | b :: r => b.toNat + 256 * leNat r

/-- n little-endian bytes of a value (R4). -/
def leBytes : Nat → Nat → List Byte
  | 0, _ => []
  | n + 1, v => BitVec.ofNat 8 v :: leBytes n (v / 256)

def lineBytes (l : Line) : List Byte := leBytes 64 l.toNat

def bytesLine (b : List Byte) : Line := BitVec.ofNat 512 (leNat b)

/-- Cut a list into pieces of n; fuel bounds the number of pieces. -/
def chunksAux {α : Type} (n : Nat) : Nat → List α → List (List α)
  | 0, _ => []
  | f + 1, l => match l with
    | [] => []
    | l => l.take n :: chunksAux n f (l.drop n)

def chunks {α : Type} (n : Nat) (l : List α) : List (List α) := chunksAux n l.length l

/-- Bytes of a line replaced where the byte enable is set. -/
def mergeLine (old new : Line) (be : W64) : Line :=
  bytesLine ((List.range 64).map (fun i =>
    if bit i be then BitVec.ofNat 8 (bits (8 * i + 7) (8 * i) new) else BitVec.ofNat 8 (bits (8 * i + 7) (8 * i) old)))

def satAdd (maxV a b : Nat) : Nat := min maxV (a + b)

/-- Replace the elements that meet p. -/
def mapIf {α : Type} (p : α → Bool) (f : α → α) (l : List α) : List α := l.map (fun a => if p a then f a else a)

/-- Replace element i of a list. -/
def lset {α : Type} (i : Nat) (v : α) (l : List α) : List α := l.set i v

/-- Fold a step over a list of numbers, state last. -/
def forAll {α σ : Type} (l : List α) (f : α → σ → σ) (s : σ) : σ := l.foldl (fun s a => f a s) s

def ceilDiv (a b : Nat) : Nat := if b = 0 then 0 else (a + b - 1) / b

/-- log2 of a power of two, or the floor of it. -/
def log2n (n : Nat) : Nat := Nat.log2 n

/-- The least number of a finite list that meets p. -/
def firstOf {α : Type} (p : α → Bool) (l : List α) : Option α := l.find? p

/-- A fresh free number below n (log 3, 7). -/
def freeBelow (n : Nat) (s : State) : Nat := Config.freeNat s.freeCtr % (if n = 0 then 1 else n)

/-- One free value is used up (log 3). -/
def State.tickFree (s : State) : State := { s with freeCtr := s.freeCtr + 1 }

/-- Pick one of a list by a free value; the list's first where it has one element (log 7). -/
def pickFree (l : List Nat) (s : State) : Option Nat := l[Config.freeNat s.freeCtr % (if l.length = 0 then 1 else l.length)]?

def State.emit (m : Msg) (s : State) : State := { s with out := s.out ++ [m] }

/-- ns of the module-wide count: times in records and stamps (R306; log 1). -/
def State.now (s : State) : Nat := s.clk.us * 1000

/-! Homes of the per-port, per-tenant and per-unit state. -/

def State.port (p : Nat) (s : State) : Port := tget {} p s.ports
def State.setPort (p : Nat) (v : Port) (s : State) : State := { s with ports := tset {} p v s.ports }
def State.modPort (p : Nat) (f : Port → Port) (s : State) : State := s.setPort p (f (s.port p))

def State.ld (t : Nat) (s : State) : Ld := tget {} t s.lds
def State.setLd (t : Nat) (v : Ld) (s : State) : State := { s with lds := tset {} t v s.lds }
def State.modLd (t : Nat) (f : Ld → Ld) (s : State) : State := s.setLd t (f (s.ld t))

def State.wttOf (t : Nat) (s : State) : Wtt := tget {} t s.wtt
def State.setWtt (t : Nat) (v : Wtt) (s : State) : State := { s with wtt := tset {} t v s.wtt }
def State.modWtt (t : Nat) (f : Wtt → Wtt) (s : State) : State := s.setWtt t (f (s.wttOf t))

def State.plot (p : Nat) (s : State) : Option Plot := tfind p s.tier.plots
def State.setPlot (p : Nat) (v : Plot) (s : State) : State :=
  { s with tier := { s.tier with plots := tput p v s.tier.plots } }
def State.delPlot (p : Nat) (s : State) : State :=
  { s with tier := { s.tier with plots := tdel p s.tier.plots } }
def State.modPlot (p : Nat) (f : Plot → Plot) (s : State) : State :=
  match s.plot p with
  | some v => s.setPlot p (f v)
  | none => s

def State.modTier (f : Tier → Tier) (s : State) : State := { s with tier := f s.tier }
def State.modShr (f : Shr → Shr) (s : State) : State := { s with shr := f s.shr }
def State.modDmc (f : Dmc → Dmc) (s : State) : State := { s with dmc := f s.dmc }
def State.modCst (f : Cst → Cst) (s : State) : State := { s with cst := f s.cst }
def State.modRas (f : Ras → Ras) (s : State) : State := { s with ras := f s.ras }
def State.modSec (f : Sec → Sec) (s : State) : State := { s with sec := f s.sec }
def State.modUpd (f : Upd → Upd) (s : State) : State := { s with upd := f s.upd }
def State.modPwm (f : Pwm → Pwm) (s : State) : State := { s with pwm := f s.pwm }
def State.modMgmt (f : Mgmt → Mgmt) (s : State) : State := { s with mgmt := f s.mgmt }
def State.modCmp (f : Cmp → Cmp) (s : State) : State := { s with cmp := f s.cmp }
def State.modAlm (f : Alm → Alm) (s : State) : State := { s with alm := f s.alm }

/-- Rings are kept by 16 × tenant + ring (R234). -/
def State.ring (t r : Nat) (s : State) : Ring := tget {} (16 * t + r) s.rings
def State.setRing (t r : Nat) (v : Ring) (s : State) : State := { s with rings := tset {} (16 * t + r) v s.rings }
def State.modRing (t r : Nat) (f : Ring → Ring) (s : State) : State := s.setRing t r (f (s.ring t r))

def State.engOf (t : Nat) (s : State) : RingEng := tget {} t s.eng
def State.setEng (t : Nat) (v : RingEng) (s : State) : State := { s with eng := tset {} t v s.eng }
def State.modEng (t : Nat) (f : RingEng → RingEng) (s : State) : State := s.setEng t (f (s.engOf t))

def State.fe (n : Nat) (s : State) : Engine := tget {} n s.fes
def State.setFe (n : Nat) (v : Engine) (s : State) : State := { s with fes := tset {} n v s.fes }
def State.modFe (n : Nat) (f : Engine → Engine) (s : State) : State := s.setFe n (f (s.fe n))

def State.tc (n : Nat) (s : State) : UnitCtl := tget {} n s.tcs
def State.setTc (n : Nat) (v : UnitCtl) (s : State) : State := { s with tcs := tset {} n v s.tcs }
def State.modTc (n : Nat) (f : UnitCtl → UnitCtl) (s : State) : State := s.setTc n (f (s.tc n))

def State.hgOf (t : Nat) (s : State) : Hg := tget {} t s.hg
def State.setHg (t : Nat) (v : Hg) (s : State) : State := { s with hg := tset {} t v s.hg }
def State.modHg (t : Nat) (f : Hg → Hg) (s : State) : State := s.setHg t (f (s.hgOf t))

def State.tslot (n : Nat) (s : State) : TSlot := tget {} n s.cmp.slots
def State.setTslot (n : Nat) (v : TSlot) (s : State) : State := s.modCmp (fun c => { c with slots := tset {} n v c.slots })

def State.pslot (n : Nat) (s : State) : PSlot := tget {} n s.pslots
def State.setPslot (n : Nat) (v : PSlot) (s : State) : State := { s with pslots := tset {} n v s.pslots }
def State.modPslot (n : Nat) (f : PSlot → PSlot) (s : State) : State := s.setPslot n (f (s.pslot n))

def State.region (n : Nat) (s : State) : Region := tget {} n s.shr.regions
def State.setRegion (n : Nat) (v : Region) (s : State) : State :=
  s.modShr (fun h => { h with regions := tset {} n v h.regions })
def State.modRegion (n : Nat) (f : Region → Region) (s : State) : State := s.setRegion n (f (s.region n))

def State.chan (n : Nat) (s : State) : Chan := tget {} n s.dmc.chans
def State.setChan (n : Nat) (v : Chan) (s : State) : State :=
  s.modDmc (fun d => { d with chans := tset {} n v d.chans })
def State.modChan (n : Nat) (f : Chan → Chan) (s : State) : State := s.setChan n (f (s.chan n))

def State.rank (n : Nat) (s : State) : Rank := tget { phys := n } n s.dmc.ranks
def State.setRank (n : Nat) (v : Rank) (s : State) : State :=
  s.modDmc (fun d => { d with ranks := tset { phys := n } n v d.ranks })
def State.modRank (n : Nat) (f : Rank → Rank) (s : State) : State := s.setRank n (f (s.rank n))

def State.key (n : Nat) (s : State) : Key := tget {} n s.sec.keys
def State.setKey (n : Nat) (v : Key) (s : State) : State :=
  s.modSec (fun c => { c with keys := tset {} n v c.keys })
def State.modKey (n : Nat) (f : Key → Key) (s : State) : State := s.setKey n (f (s.key n))

def State.half (h : Half) (s : State) : HalfSt := match h with
  | .north => s.north
  | .south => s.south
def State.setHalf (h : Half) (v : HalfSt) (s : State) : State := match h with
  | .north => { s with north := v }
  | .south => { s with south := v }
def State.modHalf (h : Half) (f : HalfSt → HalfSt) (s : State) : State := s.setHalf h (f (s.half h))

def halfIdx : Half → Nat
  | .north => 0
  | .south => 1
def halfOther : Half → Half
  | .north => .south
  | .south => .north
def halfOf (n : Nat) : Half := if n % 2 = 0 then .north else .south

/-- Ports P0-P7 are the North half's (R9). -/
def portHalf (p : Nat) : Half := if p < 8 then .north else .south
/-- A tenant's port and half (R30). -/
def tenantPort (t : Nat) : Nat := t / 16
def tenantHalf (t : Nat) : Half := portHalf (tenantPort t)

def State.op (id : Nat) (s : State) : Option Op := s.ops.find? (fun o => o.id = id)
def State.modOp (id : Nat) (f : Op → Op) (s : State) : State :=
  { s with ops := mapIf (fun o => decide (o.id = id)) f s.ops }
def State.job (id : Nat) (s : State) : Option Job := s.jobs.find? (fun j => j.id = id)
def State.modJob (id : Nat) (f : Job → Job) (s : State) : State :=
  { s with jobs := mapIf (fun j => decide (j.id = id)) f s.jobs }
def State.grain (id : Nat) (s : State) : Option Grain := s.grains.find? (fun g => g.id = id)
def State.modGrain (id : Nat) (f : Grain → Grain) (s : State) : State :=
  { s with grains := mapIf (fun g => decide (g.id = id)) f s.grains }
def State.xjob (op : Nat) (s : State) : Option XJob := s.xjobs.find? (fun j => j.op = op)
def State.modXjob (op : Nat) (f : XJob → XJob) (s : State) : State :=
  { s with xjobs := mapIf (fun j => decide (j.op = op)) f s.xjobs }

def State.cal (c : Nat) (s : State) : Option Cal := tfind c s.alm.cals
def State.setCal (c : Nat) (v : Cal) (s : State) : State := s.modAlm (fun a => { a with cals := tput c v a.cals })
def State.delCal (c : Nat) (s : State) : State := s.modAlm (fun a => { a with cals := tdel c a.cals })

end Sys2Proof.Machine
end

