-- ==== Sys2Proof/Machine/Operands.lean ====
section
/-! DEFINITION. The operand forms of the commands: the two register spaces by offset with their access masks and reset
values (spec/19_register_map.md, Tables REG-7 and REG-9 to REG-22), and the reads and writes of stored register words. -/

namespace Sys2Proof.Machine

/-- A row of the register tables: instances at base + stride × i, the stored reset value, and the bits of each access
type of Table SCO-5. Bits in no mask are read-only or reserved. -/
structure RegRow where
  base : Nat
  count : Nat
  stride : Nat
  reset : W32
  rw : W32
  rc : W32
  w1c : W32
  w1s : W32
deriving DecidableEq, Repr

/-! Offsets of the registers that the meanings name. -/

abbrev Reg.DEV_ID : Nat := 0x0
abbrev Reg.DEV_REV : Nat := 0x4
abbrev Reg.DEV_SERIAL_LO : Nat := 0x8
abbrev Reg.DEV_SERIAL_HI : Nat := 0xC
abbrev Reg.PRT_LIVE : Nat := 0x10
abbrev Reg.DEV_TENANT : Nat := 0x14
abbrev Reg.REG_ACCERR : Nat := 0x18
abbrev Reg.DEV_EVUUID : Nat := 0x20
abbrev Reg.DEV_SIZES : Nat := 0x40
abbrev Reg.DSC_SQ_BASE_LO : Nat := 0x2000
abbrev Reg.DSC_SQ_BASE_HI : Nat := 0x2004
abbrev Reg.DSC_SQ_CFG : Nat := 0x2008
abbrev Reg.DSC_SQ_STAT : Nat := 0x200C
abbrev Reg.DSC_SQ_PTR : Nat := 0x2010
abbrev Reg.DSC_CQ_BASE_LO : Nat := 0x2200
abbrev Reg.DSC_CQ_BASE_HI : Nat := 0x2204
abbrev Reg.DSC_CQ_CFG : Nat := 0x2208
abbrev Reg.DSC_CQ_HEAD : Nat := 0x220C
abbrev Reg.DSC_CQ_STAT : Nat := 0x2210
abbrev Reg.DSC_CNT : Nat := 0x2214
abbrev Reg.DSC_DBL_LO : Nat := 0x2218
abbrev Reg.DSC_DBL_HI : Nat := 0x221C
abbrev Reg.DSC_DB : Nat := 0x2400
abbrev Reg.PRT_FLR : Nat := 0x3000
abbrev Reg.PRT_CTO : Nat := 0x3004
abbrev Reg.PRT_CPL : Nat := 0x3008
abbrev Reg.WTT_TVIEW : Nat := 0x3010
abbrev Reg.WTT_FAULT : Nat := 0x3014
abbrev Reg.TIR_STALL0 : Nat := 0x3020
abbrev Reg.TIR_STALL1 : Nat := 0x3024
abbrev Reg.TIR_EVICT : Nat := 0x3028
abbrev Reg.CMP_WERR : Nat := 0x3030
abbrev Reg.CMP_XERR : Nat := 0x3034
abbrev Reg.FMT_CTL : Nat := 0x3040
abbrev Reg.FMT_SEED : Nat := 0x3044
abbrev Reg.FMT_ERR0 : Nat := 0x3048
abbrev Reg.FMT_ERR1 : Nat := 0x304C
abbrev Reg.FLE_DUP : Nat := 0x3050
abbrev Reg.TND_TCFG : Nat := 0x3060
abbrev Reg.TND_FAULT0 : Nat := 0x3064
abbrev Reg.TND_FAULT1 : Nat := 0x3068
abbrev Reg.TND_GRN : Nat := 0x306C
abbrev Reg.SHR_TERR : Nat := 0x3070
abbrev Reg.SEC_TERR : Nat := 0x3074
abbrev Reg.BUP_TREADY : Nat := 0x3080
abbrev Reg.BUP_EARLY : Nat := 0x3084
abbrev Reg.ALM_MSEL : Nat := 0x3100
abbrev Reg.ALM_MARK : Nat := 0x3104
abbrev Reg.ALM_POS : Nat := 0x3108
abbrev Reg.ALM_CSTAT : Nat := 0x310C
abbrev Reg.ALM_CNT : Nat := 0x3110
abbrev Reg.ALM_MERR : Nat := 0x3120
abbrev Reg.ALM_TCFG : Nat := 0x3124
abbrev Reg.HGT_UIB : Nat := 0x3200
abbrev Reg.HGT_LOAD : Nat := 0x3204
abbrev Reg.HGT_MAXLAT : Nat := 0x3220
abbrev Reg.HGT_MISS : Nat := 0x3240
abbrev Reg.PRT_BOND : Nat := 0x1000
abbrev Reg.PRT_PSTAT : Nat := 0x1100
abbrev Reg.WTT_CFG : Nat := 0x10000
abbrev Reg.WTT_TSTAT : Nat := 0x10400
abbrev Reg.WTT_SEL : Nat := 0x10800
abbrev Reg.WTT_DATA : Nat := 0x10810
abbrev Reg.WTT_COMMIT : Nat := 0x10820
abbrev Reg.WTT_CSTAT : Nat := 0x10824
abbrev Reg.WTT_GMASK : Nat := 0x10840
abbrev Reg.TIR_ASGN_CMD : Nat := 0x20000
abbrev Reg.TIR_ASGN_STAT : Nat := 0x20004
abbrev Reg.TIR_ASGN_BASE_LO : Nat := 0x20008
abbrev Reg.TIR_ASGN_BASE_HI : Nat := 0x2000C
abbrev Reg.TIR_ASGN_COUNT : Nat := 0x20010
abbrev Reg.TIR_ATMPL : Nat := 0x20020
abbrev Reg.TIR_CLS : Nat := 0x20030
abbrev Reg.TIR_AGECLK : Nat := 0x20034
abbrev Reg.TIR_POOL_N : Nat := 0x20040
abbrev Reg.TIR_POOL_B : Nat := 0x20044
abbrev Reg.TIR_POOL_F : Nat := 0x20048
abbrev Reg.TIR_PQ_PLOT_LO : Nat := 0x20050
abbrev Reg.TIR_PQ_PLOT_HI : Nat := 0x20054
abbrev Reg.TIR_PQ_DATA : Nat := 0x20060
abbrev Reg.TIR_PQ_REC : Nat := 0x20100
abbrev Reg.TIR_TCFG : Nat := 0x20400
abbrev Reg.TIR_QUOTA_N : Nat := 0x20800
abbrev Reg.TIR_QUOTA_B : Nat := 0x20C00
abbrev Reg.TIR_QUOTA_F : Nat := 0x21000
abbrev Reg.TIR_FAR_BASE_LO : Nat := 0x21400
abbrev Reg.TIR_FAR_BASE_HI : Nat := 0x21800
abbrev Reg.TIR_FAR_SIZE : Nat := 0x21C00
abbrev Reg.TIR_FAR_CTL : Nat := 0x22000
abbrev Reg.ALM_BIND : Nat := 0x30000
abbrev Reg.ALM_BSTAT : Nat := 0x30004
abbrev Reg.DSC_TLIM : Nat := 0x70000
abbrev Reg.DSC_GSTAT : Nat := 0x70400
abbrev Reg.CMP_TSEL : Nat := 0x40000
abbrev Reg.CMP_TSTAT : Nat := 0x40004
abbrev Reg.CMP_TBOUND : Nat := 0x40008
abbrev Reg.CMP_TERR0 : Nat := 0x4000C
abbrev Reg.CMP_TERR1 : Nat := 0x40010
abbrev Reg.CMP_TCMD : Nat := 0x40014
abbrev Reg.CMP_FIX : Nat := 0x40020
abbrev Reg.CMP_FPR_LO : Nat := 0x40400
abbrev Reg.CMP_FPR_HI : Nat := 0x40404
abbrev Reg.CMP_FPR_CNT : Nat := 0x40408
abbrev Reg.CMP_SW_PLO : Nat := 0x40800
abbrev Reg.CMP_SW_PHI : Nat := 0x40804
abbrev Reg.CMP_SW_SLO : Nat := 0x40808
abbrev Reg.CMP_SW_SHI : Nat := 0x4080C
abbrev Reg.CMP_SW_CNT : Nat := 0x40810
abbrev Reg.CMP_SW_CTL : Nat := 0x40814
abbrev Reg.CMP_BTAB : Nat := 0x41000
abbrev Reg.FLE_CFG : Nat := 0x50000
abbrev Reg.FLE_ESTAT : Nat := 0x50040
abbrev Reg.FLE_WAIT : Nat := 0x50080
abbrev Reg.FLE_FENCE : Nat := 0x500C0
abbrev Reg.FLE_FSTAT : Nat := 0x500C4
abbrev Reg.FLE_DUPCFG : Nat := 0x500C8
abbrev Reg.TND_TLIM : Nat := 0x60000
abbrev Reg.TND_ESTAT : Nat := 0x60400
abbrev Reg.TND_FENCE : Nat := 0x60500
abbrev Reg.TND_FSTAT : Nat := 0x60504
abbrev Reg.TND_PSEL : Nat := 0x60508
abbrev Reg.TND_PSTAT : Nat := 0x6050C
abbrev Reg.TND_PCMD : Nat := 0x60510
abbrev Reg.SHR_SEL : Nat := 0x80000
abbrev Reg.SHR_CFG : Nat := 0x80004
abbrev Reg.SHR_VER : Nat := 0x80008
abbrev Reg.SHR_STAT : Nat := 0x8000C
abbrev Reg.SHR_OCNT : Nat := 0x80010
abbrev Reg.SHR_VIEW_LO : Nat := 0x80020
abbrev Reg.SHR_VIEW_HI : Nat := 0x80024
abbrev Reg.SHR_BUF_LO : Nat := 0x80030
abbrev Reg.SHR_BUF_HI : Nat := 0x80034
abbrev Reg.SHR_CMD : Nat := 0x80060
abbrev Reg.SHR_CSTAT : Nat := 0x80064
abbrev Reg.SHR_DSTAT : Nat := 0x80070
abbrev Reg.SHR_TSTAT : Nat := 0x80400
abbrev Reg.HGT_TGT : Nat := 0x90000
abbrev Reg.HGT_WBUD : Nat := 0x92000
abbrev Reg.HGT_WCFG : Nat := 0x94000
abbrev Reg.HGT_UCFG : Nat := 0x94400
abbrev Reg.HGT_PURG : Nat := 0x94800
abbrev Reg.HGT_SSTAT : Nat := 0x94840
abbrev Reg.DMC_MAP : Nat := 0xA0000
abbrev Reg.DMC_PCFG : Nat := 0xA0010
abbrev Reg.DMC_RCFG : Nat := 0xA0020
abbrev Reg.DMC_TCFG : Nat := 0xA0030
abbrev Reg.DMC_EVAC : Nat := 0xA0040
abbrev Reg.DMC_ECFG : Nat := 0xA0044
abbrev Reg.DMC_ESTAT : Nat := 0xA0050
abbrev Reg.DMC_TO : Nat := 0xA0060
abbrev Reg.DMC_SQSTAT : Nat := 0xA0070
abbrev Reg.DMC_BSTAT : Nat := 0xA1000
abbrev Reg.DMC_HSTAT : Nat := 0xA1400
abbrev Reg.DMC_RMAP : Nat := 0xA1800
abbrev Reg.CST_BANK : Nat := 0xB0000
abbrev Reg.CST_BERR : Nat := 0xB0800
abbrev Reg.CST_BCMD : Nat := 0xB1000
abbrev Reg.CST_BCSTAT : Nat := 0xB1004
abbrev Reg.CST_MCMD : Nat := 0xB1008
abbrev Reg.CST_POOL : Nat := 0xB1010
abbrev Reg.CST_CONF : Nat := 0xB1020
abbrev Reg.CST_CONF1 : Nat := 0xB1030
abbrev Reg.CST_MSTAT : Nat := 0xB1040
abbrev Reg.CST_MFAIL0 : Nat := 0xB1050
abbrev Reg.CST_MFAIL1 : Nat := 0xB1060
abbrev Reg.RAS_SCFG : Nat := 0xC0000
abbrev Reg.RAS_LAPT : Nat := 0xC0020
abbrev Reg.RAS_LAPC : Nat := 0xC0040
abbrev Reg.RAS_LAPE : Nat := 0xC0060
abbrev Reg.RAS_CECFG : Nat := 0xC0080
abbrev Reg.RAS_MLSTAT : Nat := 0xC0084
abbrev Reg.RAS_MLIDX : Nat := 0xC0088
abbrev Reg.RAS_MLREC : Nat := 0xC00A0
abbrev Reg.RAS_RLIDX : Nat := 0xC00C0
abbrev Reg.RAS_RLENT_LO : Nat := 0xC00C4
abbrev Reg.RAS_RLENT_HI : Nat := 0xC00C8
abbrev Reg.RAS_RARG_LO : Nat := 0xC00D0
abbrev Reg.RAS_RARG_HI : Nat := 0xC00D4
abbrev Reg.RAS_RCMD : Nat := 0xC00D8
abbrev Reg.RAS_RSTAT : Nat := 0xC00DC
abbrev Reg.RAS_RCNT : Nat := 0xC00E0
abbrev Reg.RAS_FTCFG : Nat := 0xC00E4
abbrev Reg.RAS_FTSTAT : Nat := 0xC00E8
abbrev Reg.RAS_MACFG : Nat := 0xC00EC
abbrev Reg.RAS_MARB : Nat := 0xC00F0
abbrev Reg.RAS_BCE : Nat := 0xC1000
abbrev Reg.RAS_HCE : Nat := 0xC1400
abbrev Reg.SEC_BSTAT : Nat := 0xD0000
abbrev Reg.SEC_STAT : Nat := 0xD0010
abbrev Reg.SEC_CMD : Nat := 0xD0014
abbrev Reg.SEC_KCMD : Nat := 0xD0018
abbrev Reg.SEC_CSTAT : Nat := 0xD001C
abbrev Reg.SEC_MGMT : Nat := 0xD0020
abbrev Reg.SEC_NONCE : Nat := 0xD0040
abbrev Reg.SEC_PORT : Nat := 0xD0100
abbrev Reg.SEC_PSTAT : Nat := 0xD0140
abbrev Reg.SEC_KSTAT : Nat := 0xD0400
abbrev Reg.BUP_STAGE : Nat := 0xE0000
abbrev Reg.BUP_READYH : Nat := 0xE0010
abbrev Reg.BUP_UPD : Nat := 0xE0020
abbrev Reg.BUP_USTAT : Nat := 0xE0024
abbrev Reg.BUP_ULEN : Nat := 0xE0028
abbrev Reg.BUP_BCMD : Nat := 0xE0030
abbrev Reg.BUP_BSTAT : Nat := 0xE0034
abbrev Reg.BUP_BSIG : Nat := 0xE0038
abbrev Reg.BUP_BEXP : Nat := 0xE003C
abbrev Reg.BUP_UWIN : Nat := 0xE1000
abbrev Reg.PWM_CAP : Nat := 0xF0000
abbrev Reg.PWM_STAT : Nat := 0xF0004
abbrev Reg.PWM_PWR : Nat := 0xF0008
abbrev Reg.PWM_PPOFF : Nat := 0xF000C
abbrev Reg.PWM_SBY : Nat := 0xF0010
abbrev Reg.PWM_ALERT : Nat := 0xF0014
abbrev Reg.PWM_ALERTEN : Nat := 0xF0018
abbrev Reg.PWM_MSTAT : Nat := 0xF001C
abbrev Reg.PWM_CISCFG : Nat := 0xF0020
abbrev Reg.PWM_TLIM : Nat := 0xF0030
abbrev Reg.PWM_PWRC : Nat := 0xF0040
abbrev Reg.PWM_TEMP : Nat := 0xF0100

def barRows0 : List RegRow := [
  ⟨0x0, 1, 4, 0x0#32, 0x0#32, 0x0#32, 0x0#32, 0x0#32⟩,
  ⟨0x4, 1, 4, 0x0#32, 0x0#32, 0x0#32, 0x0#32, 0x0#32⟩,
  ⟨0x8, 1, 4, 0x0#32, 0x0#32, 0x0#32, 0x0#32, 0x0#32⟩,
  ⟨0xC, 1, 4, 0x0#32, 0x0#32, 0x0#32, 0x0#32, 0x0#32⟩,
  ⟨0x10, 1, 4, 0x0#32, 0x0#32, 0x0#32, 0x0#32, 0x0#32⟩,
  ⟨0x14, 1, 4, 0x0#32, 0x0#32, 0x0#32, 0x0#32, 0x0#32⟩,
  ⟨0x18, 1, 4, 0x0#32, 0x0#32, 0xFFFFFFFF#32, 0x0#32, 0x0#32⟩,
  ⟨0x20, 4, 4, 0x0#32, 0x0#32, 0x0#32, 0x0#32, 0x0#32⟩,
  ⟨0x40, 16, 4, 0x0#32, 0x0#32, 0x0#32, 0x0#32, 0x0#32⟩,
  ⟨0x2000, 16, 32, 0x0#32, 0xFFFFF000#32, 0x0#32, 0x0#32, 0x0#32⟩,
  ⟨0x2004, 16, 32, 0x0#32, 0xFFFFFFFF#32, 0x0#32, 0x0#32, 0x0#32⟩,
  ⟨0x2008, 16, 32, 0x4#32, 0xC000001F#32, 0x0#32, 0x0#32, 0x0#32⟩,
  ⟨0x200C, 16, 32, 0x0#32, 0x0#32, 0x0#32, 0x80000000#32, 0x0#32⟩,
  ⟨0x2010, 16, 32, 0x0#32, 0x0#32, 0x0#32, 0x0#32, 0x0#32⟩,
  ⟨0x2200, 1, 4, 0x0#32, 0xFFFFF000#32, 0x0#32, 0x0#32, 0x0#32⟩,
  ⟨0x2204, 1, 4, 0x0#32, 0xFFFFFFFF#32, 0x0#32, 0x0#32, 0x0#32⟩,
  ⟨0x2208, 1, 4, 0x4#32, 0x80FFFF1F#32, 0x0#32, 0x0#32, 0x0#32⟩,
  ⟨0x220C, 1, 4, 0x0#32, 0xFFFF#32, 0x0#32, 0x0#32, 0x0#32⟩,
  ⟨0x2210, 1, 4, 0x0#32, 0x0#32, 0x0#32, 0x4000#32, 0x0#32⟩,
  ⟨0x2214, 1, 4, 0x0#32, 0x0#32, 0xFFFFFFFF#32, 0x0#32, 0x0#32⟩,
  ⟨0x2218, 1, 4, 0x0#32, 0xFFFFFFC1#32, 0x0#32, 0x0#32, 0x0#32⟩,
  ⟨0x221C, 1, 4, 0x0#32, 0x7FF#32, 0x0#32, 0x0#32, 0x0#32⟩,
  ⟨0x2400, 1, 4, 0x0#32, 0x0#32, 0x0#32, 0x0#32, 0x0#32⟩,
  ⟨0x3000, 1, 4, 0x0#32, 0x0#32, 0xFFFFFFFF#32, 0x0#32, 0x0#32⟩]

def barRows1 : List RegRow := [
  ⟨0x3004, 1, 4, 0x2710#32, 0xFFFF#32, 0x0#32, 0x0#32, 0x0#32⟩,
  ⟨0x3008, 1, 4, 0x0#32, 0x0#32, 0xFFFFFFFF#32, 0x0#32, 0x0#32⟩,
  ⟨0x3010, 1, 4, 0x0#32, 0x0#32, 0x0#32, 0x0#32, 0x0#32⟩,
  ⟨0x3014, 1, 4, 0x0#32, 0x0#32, 0xFFFFFFFF#32, 0x0#32, 0x0#32⟩,
  ⟨0x3020, 1, 4, 0x0#32, 0x0#32, 0xFFFFFFFF#32, 0x0#32, 0x0#32⟩,
  ⟨0x3024, 1, 4, 0x0#32, 0x0#32, 0xFFFFFFFF#32, 0x0#32, 0x0#32⟩,
  ⟨0x3028, 1, 4, 0x0#32, 0x0#32, 0xFFFFFFFF#32, 0x0#32, 0x0#32⟩,
  ⟨0x3030, 1, 4, 0x0#32, 0x0#32, 0xFFFFFFFF#32, 0x0#32, 0x0#32⟩,
  ⟨0x3034, 1, 4, 0x0#32, 0x0#32, 0xFFFFFFFF#32, 0x0#32, 0x0#32⟩,
  ⟨0x3040, 1, 4, 0x80000000#32, 0x80000003#32, 0x0#32, 0x0#32, 0x0#32⟩,
  ⟨0x3044, 1, 4, 0x0#32, 0xFFFFFFFF#32, 0x0#32, 0x0#32, 0x0#32⟩,
  ⟨0x3048, 1, 4, 0x0#32, 0x0#32, 0xFFFFFFFF#32, 0x0#32, 0x0#32⟩,
  ⟨0x304C, 1, 4, 0x0#32, 0x0#32, 0xFFFFFFFF#32, 0x0#32, 0x0#32⟩,
  ⟨0x3050, 1, 4, 0x0#32, 0x0#32, 0xFFFFFFFF#32, 0x0#32, 0x0#32⟩,
  ⟨0x3060, 1, 4, 0x0#32, 0xFFFFFFFF#32, 0x0#32, 0x0#32, 0x0#32⟩,
  ⟨0x3064, 1, 4, 0x0#32, 0x0#32, 0x0#32, 0x80000000#32, 0x0#32⟩,
  ⟨0x3068, 1, 4, 0x0#32, 0x0#32, 0x0#32, 0x0#32, 0x0#32⟩,
  ⟨0x306C, 1, 4, 0x0#32, 0x0#32, 0x0#32, 0x0#32, 0x0#32⟩,
  ⟨0x3070, 1, 4, 0x0#32, 0x0#32, 0xFFFFFFFF#32, 0x0#32, 0x0#32⟩,
  ⟨0x3074, 1, 4, 0x0#32, 0x0#32, 0xFFFF#32, 0x0#32, 0x0#32⟩,
  ⟨0x3080, 1, 4, 0x0#32, 0x0#32, 0x0#32, 0x0#32, 0x0#32⟩,
  ⟨0x3084, 1, 4, 0x0#32, 0x0#32, 0xFFFF#32, 0x0#32, 0x0#32⟩,
  ⟨0x3100, 1, 4, 0x0#32, 0x3FF#32, 0x0#32, 0x0#32, 0x0#32⟩,
  ⟨0x3104, 1, 4, 0x0#32, 0x0#32, 0x0#32, 0x0#32, 0x0#32⟩]

def barRows2 : List RegRow := [
  ⟨0x3108, 1, 4, 0x0#32, 0x0#32, 0x0#32, 0x0#32, 0x0#32⟩,
  ⟨0x310C, 1, 4, 0x0#32, 0x0#32, 0x0#32, 0x0#32, 0x0#32⟩,
  ⟨0x3110, 4, 4, 0x0#32, 0x0#32, 0xFFFFFFFF#32, 0x0#32, 0x0#32⟩,
  ⟨0x3120, 1, 4, 0x0#32, 0x0#32, 0xFFFFFFFF#32, 0x0#32, 0x0#32⟩,
  ⟨0x3124, 1, 4, 0x0#32, 0xFFF#32, 0x0#32, 0x0#32, 0x0#32⟩,
  ⟨0x3200, 1, 4, 0x0#32, 0xFFFF0003#32, 0x0#32, 0x0#32, 0x0#32⟩,
  ⟨0x3204, 1, 4, 0x0#32, 0x0#32, 0x0#32, 0x0#32, 0x0#32⟩,
  ⟨0x3220, 8, 4, 0x0#32, 0x0#32, 0xFFFFFF#32, 0x0#32, 0x0#32⟩,
  ⟨0x3240, 8, 4, 0x0#32, 0x0#32, 0xFFFFFFFF#32, 0x0#32, 0x0#32⟩]

def barRows : List RegRow := barRows0 ++ barRows1 ++ barRows2

def stwRows0 : List RegRow := [
  ⟨0x18, 1, 4, 0x0#32, 0x0#32, 0xFFFFFFFF#32, 0x0#32, 0x0#32⟩,
  ⟨0x1000, 1, 4, 0x0#32, 0xFF#32, 0x0#32, 0x0#32, 0x0#32⟩,
  ⟨0x1100, 16, 4, 0x0#32, 0x0#32, 0xFFFF0000#32, 0x0#32, 0x0#32⟩,
  ⟨0x10000, 256, 4, 0x71C1000#32, 0x873F3F00#32, 0x0#32, 0x0#32, 0x0#32⟩,
  ⟨0x10400, 256, 4, 0x0#32, 0x0#32, 0x0#32, 0x8#32, 0x0#32⟩,
  ⟨0x10800, 1, 4, 0x0#32, 0x80FFFFFF#32, 0x0#32, 0x0#32, 0x0#32⟩,
  ⟨0x10810, 4, 4, 0x0#32, 0x0#32, 0x0#32, 0x0#32, 0x0#32⟩,
  ⟨0x10820, 1, 4, 0x0#32, 0x0#32, 0x0#32, 0x0#32, 0x0#32⟩,
  ⟨0x10824, 1, 4, 0x0#32, 0x0#32, 0x0#32, 0x0#32, 0x0#32⟩,
  ⟨0x10840, 8, 4, 0x0#32, 0xFFFFFFFF#32, 0x0#32, 0x0#32, 0x0#32⟩,
  ⟨0x20000, 1, 4, 0x0#32, 0x0#32, 0x0#32, 0x0#32, 0x0#32⟩,
  ⟨0x20004, 1, 4, 0x0#32, 0x0#32, 0x0#32, 0x0#32, 0x0#32⟩,
  ⟨0x20008, 1, 4, 0x0#32, 0xFFFFFFFF#32, 0x0#32, 0x0#32, 0x0#32⟩,
  ⟨0x2000C, 1, 4, 0x0#32, 0xF#32, 0x0#32, 0x0#32, 0x0#32⟩,
  ⟨0x20010, 1, 4, 0x0#32, 0xFFFFFFFF#32, 0x0#32, 0x0#32, 0x0#32⟩,
  ⟨0x20020, 4, 4, 0x0#32, 0xFFFFFFFF#32, 0x0#32, 0x0#32, 0x0#32⟩,
  ⟨0x20030, 1, 4, 0x20025460#32, 0xFFFFFFF0#32, 0x0#32, 0x0#32, 0x0#32⟩,
  ⟨0x20034, 1, 4, 0x0#32, 0x10000#32, 0x0#32, 0x0#32, 0x0#32⟩,
  ⟨0x20040, 1, 4, 0x280000#32, 0x3FFFFF#32, 0x0#32, 0x0#32, 0x0#32⟩,
  ⟨0x20044, 1, 4, 0xE000000#32, 0xFFFFFFF#32, 0x0#32, 0x0#32, 0x0#32⟩,
  ⟨0x20048, 1, 4, 0x0#32, 0x7FFFFFFF#32, 0x0#32, 0x0#32, 0x0#32⟩,
  ⟨0x20050, 1, 4, 0x0#32, 0xFFFFFFFF#32, 0x0#32, 0x0#32, 0x0#32⟩,
  ⟨0x20054, 1, 4, 0x0#32, 0xF#32, 0x0#32, 0x0#32, 0x0#32⟩,
  ⟨0x20060, 4, 4, 0x0#32, 0x0#32, 0x0#32, 0x0#32, 0x0#32⟩]

def stwRows1 : List RegRow := [
  ⟨0x20100, 64, 4, 0x0#32, 0x0#32, 0x0#32, 0x0#32, 0x0#32⟩,
  ⟨0x20400, 256, 4, 0x1#32, 0x1#32, 0x0#32, 0x0#32, 0x0#32⟩,
  ⟨0x20800, 256, 4, 0x0#32, 0x3FFFFF#32, 0x0#32, 0x0#32, 0x0#32⟩,
  ⟨0x20C00, 256, 4, 0x0#32, 0xFFFFFFF#32, 0x0#32, 0x0#32, 0x0#32⟩,
  ⟨0x21000, 256, 4, 0x0#32, 0x7FFFFFFF#32, 0x0#32, 0x0#32, 0x0#32⟩,
  ⟨0x21400, 256, 4, 0x0#32, 0xFFFFFFFF#32, 0x0#32, 0x0#32, 0x0#32⟩,
  ⟨0x21800, 256, 4, 0x0#32, 0xFFFFFFFF#32, 0x0#32, 0x0#32, 0x0#32⟩,
  ⟨0x21C00, 256, 4, 0x0#32, 0x7FFFFFFF#32, 0x0#32, 0x0#32, 0x0#32⟩,
  ⟨0x22000, 256, 4, 0x0#32, 0x80000000#32, 0x0#32, 0x10000000#32, 0x0#32⟩,
  ⟨0x30000, 1, 4, 0x0#32, 0x0#32, 0x0#32, 0x0#32, 0x0#32⟩,
  ⟨0x30004, 1, 4, 0x0#32, 0x0#32, 0x0#32, 0x0#32, 0x0#32⟩,
  ⟨0x70000, 256, 4, 0x1000#32, 0x1FFF#32, 0x0#32, 0x0#32, 0x0#32⟩,
  ⟨0x70400, 1, 4, 0x0#32, 0x0#32, 0x0#32, 0x0#32, 0x0#32⟩,
  ⟨0x40000, 1, 4, 0x0#32, 0x1FF#32, 0x0#32, 0x0#32, 0x0#32⟩,
  ⟨0x40004, 1, 4, 0x0#32, 0x0#32, 0x0#32, 0x0#32, 0x0#32⟩,
  ⟨0x40008, 1, 4, 0x0#32, 0x0#32, 0x0#32, 0x0#32, 0x0#32⟩,
  ⟨0x4000C, 1, 4, 0x0#32, 0x0#32, 0xFFFFFFFF#32, 0x0#32, 0x0#32⟩,
  ⟨0x40010, 1, 4, 0x0#32, 0x0#32, 0xFFFFFFFF#32, 0x0#32, 0x0#32⟩,
  ⟨0x40014, 1, 4, 0x0#32, 0x0#32, 0x0#32, 0x0#32, 0x0#32⟩,
  ⟨0x40020, 2, 4, 0x0#32, 0x0#32, 0xF#32, 0x0#32, 0x0#32⟩,
  ⟨0x40400, 64, 16, 0x0#32, 0xFFFFFFFF#32, 0x0#32, 0x0#32, 0x0#32⟩,
  ⟨0x40404, 64, 16, 0x0#32, 0x8F00000F#32, 0x0#32, 0x0#32, 0x0#32⟩,
  ⟨0x40408, 64, 16, 0x0#32, 0xFFFFFFFF#32, 0x0#32, 0x0#32, 0x0#32⟩,
  ⟨0x40800, 64, 32, 0x0#32, 0xFFFFFFFF#32, 0x0#32, 0x0#32, 0x0#32⟩]

def stwRows2 : List RegRow := [
  ⟨0x40804, 64, 32, 0x0#32, 0xF#32, 0x0#32, 0x0#32, 0x0#32⟩,
  ⟨0x40808, 64, 32, 0x0#32, 0xFFFFFFFF#32, 0x0#32, 0x0#32, 0x0#32⟩,
  ⟨0x4080C, 64, 32, 0x0#32, 0xF#32, 0x0#32, 0x0#32, 0x0#32⟩,
  ⟨0x40810, 64, 32, 0x0#32, 0xFFFFFFFF#32, 0x0#32, 0x0#32, 0x0#32⟩,
  ⟨0x40814, 64, 32, 0x0#32, 0x800000FF#32, 0x0#32, 0x40000000#32, 0x0#32⟩,
  ⟨0x41000, 1024, 4, 0x0#32, 0x0#32, 0x0#32, 0x0#32, 0x0#32⟩,
  ⟨0x50000, 16, 4, 0x4240#32, 0xFFF0#32, 0x0#32, 0x0#32, 0x0#32⟩,
  ⟨0x50040, 16, 4, 0x0#32, 0x0#32, 0x0#32, 0x0#32, 0x0#32⟩,
  ⟨0x50080, 16, 4, 0x0#32, 0x0#32, 0xFFFFFFFF#32, 0x0#32, 0x0#32⟩,
  ⟨0x500C0, 1, 4, 0x0#32, 0x0#32, 0x0#32, 0x0#32, 0x0#32⟩,
  ⟨0x500C4, 1, 4, 0x0#32, 0x0#32, 0x0#32, 0x0#32, 0x0#32⟩,
  ⟨0x500C8, 1, 4, 0x80000006#32, 0x8000000F#32, 0x0#32, 0x0#32, 0x0#32⟩,
  ⟨0x60000, 256, 4, 0x400000#32, 0xFFFFFFFF#32, 0x0#32, 0x0#32, 0x0#32⟩,
  ⟨0x60400, 64, 4, 0x0#32, 0x0#32, 0x0#32, 0x0#32, 0x0#32⟩,
  ⟨0x60500, 1, 4, 0x0#32, 0x0#32, 0x0#32, 0x0#32, 0x0#32⟩,
  ⟨0x60504, 1, 4, 0x0#32, 0x0#32, 0x0#32, 0x0#32, 0x0#32⟩,
  ⟨0x60508, 1, 4, 0x0#32, 0x3FF#32, 0x0#32, 0x0#32, 0x0#32⟩,
  ⟨0x6050C, 1, 4, 0x0#32, 0x0#32, 0x0#32, 0x0#32, 0x0#32⟩,
  ⟨0x60510, 1, 4, 0x0#32, 0x0#32, 0x0#32, 0x0#32, 0x0#32⟩,
  ⟨0x80000, 1, 4, 0x0#32, 0xFFF#32, 0x0#32, 0x0#32, 0x0#32⟩,
  ⟨0x80004, 1, 4, 0x0#32, 0xBFFFFFFF#32, 0x0#32, 0x40000000#32, 0x0#32⟩,
  ⟨0x80008, 1, 4, 0x0#32, 0xFFFFFFFF#32, 0x0#32, 0x0#32, 0x0#32⟩,
  ⟨0x8000C, 1, 4, 0x0#32, 0x0#32, 0x0#32, 0x0#32, 0x0#32⟩,
  ⟨0x80010, 1, 4, 0x0#32, 0x0#32, 0x0#32, 0x0#32, 0x0#32⟩]

def stwRows3 : List RegRow := [
  ⟨0x80020, 1, 4, 0x0#32, 0xFFFFFFFF#32, 0x0#32, 0x0#32, 0x0#32⟩,
  ⟨0x80024, 1, 4, 0x0#32, 0xF#32, 0x0#32, 0x0#32, 0x0#32⟩,
  ⟨0x80030, 4, 8, 0x0#32, 0xFFFFFFFF#32, 0x0#32, 0x0#32, 0x0#32⟩,
  ⟨0x80034, 4, 8, 0x0#32, 0xF#32, 0x0#32, 0x0#32, 0x0#32⟩,
  ⟨0x80060, 1, 4, 0x0#32, 0x0#32, 0x0#32, 0x0#32, 0x0#32⟩,
  ⟨0x80064, 1, 4, 0x0#32, 0x0#32, 0x0#32, 0x0#32, 0x0#32⟩,
  ⟨0x80070, 2, 4, 0x0#32, 0x0#32, 0xFFFFFFFF#32, 0x0#32, 0x0#32⟩,
  ⟨0x80400, 256, 4, 0x0#32, 0x0#32, 0xFFFF#32, 0x0#32, 0x0#32⟩,
  ⟨0x90000, 256, 32, 0x0#32, 0xFFFFFF#32, 0x0#32, 0x0#32, 0x0#32⟩,
  ⟨0x90004, 256, 32, 0x3E800#32, 0xFFFFFF#32, 0x0#32, 0x0#32, 0x0#32⟩,
  ⟨0x90008, 256, 32, 0xFA00#32, 0xFFFFFF#32, 0x0#32, 0x0#32, 0x0#32⟩,
  ⟨0x9000C, 256, 32, 0x3E80#32, 0xFFFFFF#32, 0x0#32, 0x0#32, 0x0#32⟩,
  ⟨0x90010, 256, 32, 0x1F40#32, 0xFFFFFF#32, 0x0#32, 0x0#32, 0x0#32⟩,
  ⟨0x90014, 256, 32, 0xFA0#32, 0xFFFFFF#32, 0x0#32, 0x0#32, 0x0#32⟩,
  ⟨0x90018, 256, 32, 0x7D0#32, 0xFFFFFF#32, 0x0#32, 0x0#32, 0x0#32⟩,
  ⟨0x9001C, 256, 32, 0x3E8#32, 0xFFFFFF#32, 0x0#32, 0x0#32, 0x0#32⟩,
  ⟨0x92000, 2048, 4, 0x0#32, 0x3FFFFFF#32, 0x0#32, 0x0#32, 0x0#32⟩,
  ⟨0x94000, 256, 4, 0x4#32, 0xFF0F#32, 0x0#32, 0x0#32, 0x0#32⟩,
  ⟨0x94400, 256, 4, 0x800000F#32, 0xFFF000F#32, 0x0#32, 0x0#32, 0x0#32⟩,
  ⟨0x94800, 16, 4, 0x0#32, 0x0#32, 0x0#32, 0x0#32, 0x0#32⟩,
  ⟨0x94840, 2, 4, 0x0#32, 0x0#32, 0xFFFF#32, 0x0#32, 0x0#32⟩,
  ⟨0xA0000, 1, 4, 0x300#32, 0x0#32, 0x0#32, 0x0#32, 0x0#32⟩,
  ⟨0xA0010, 2, 4, 0x400000#32, 0xFFFF0003#32, 0x0#32, 0x0#32, 0x0#32⟩,
  ⟨0xA0020, 2, 4, 0x4000#32, 0xF001#32, 0x0#32, 0x0#32, 0x0#32⟩]

def stwRows4 : List RegRow := [
  ⟨0xA0030, 2, 4, 0x80000064#32, 0x8000FFFF#32, 0x0#32, 0x0#32, 0x0#32⟩,
  ⟨0xA0040, 1, 4, 0x0#32, 0x0#32, 0x0#32, 0x0#32, 0x0#32⟩,
  ⟨0xA0044, 1, 4, 0x400040#32, 0x80FF00FF#32, 0x0#32, 0x0#32, 0x0#32⟩,
  ⟨0xA0050, 2, 4, 0x0#32, 0x0#32, 0x0#32, 0x0#32, 0x0#32⟩,
  ⟨0xA0060, 2, 4, 0x0#32, 0x0#32, 0xFFFFFFFF#32, 0x0#32, 0x0#32⟩,
  ⟨0xA0070, 2, 4, 0x0#32, 0x0#32, 0xFFFF#32, 0x0#32, 0x0#32⟩,
  ⟨0xA1000, 136, 4, 0x0#32, 0x0#32, 0xFFFFFF#32, 0x0#32, 0x0#32⟩,
  ⟨0xA1400, 128, 4, 0x0#32, 0x0#32, 0xFFFFFF#32, 0x0#32, 0x0#32⟩,
  ⟨0xA1800, 256, 4, 0x0#32, 0x0#32, 0x0#32, 0x0#32, 0x0#32⟩,
  ⟨0xB0000, 512, 4, 0x0#32, 0x0#32, 0x0#32, 0x0#32, 0x0#32⟩,
  ⟨0xB0800, 512, 4, 0x0#32, 0x0#32, 0xFFFFFFFF#32, 0x0#32, 0x0#32⟩,
  ⟨0xB1000, 1, 4, 0x0#32, 0x0#32, 0x0#32, 0x0#32, 0x0#32⟩,
  ⟨0xB1004, 1, 4, 0x0#32, 0x0#32, 0x0#32, 0x0#32, 0x0#32⟩,
  ⟨0xB1008, 1, 4, 0x0#32, 0x0#32, 0x0#32, 0x0#32, 0x0#32⟩,
  ⟨0xB1010, 2, 4, 0x0#32, 0x0#32, 0x0#32, 0x0#32, 0x0#32⟩,
  ⟨0xB1020, 2, 4, 0x0#32, 0x0#32, 0xFFFFFFFF#32, 0x0#32, 0x0#32⟩,
  ⟨0xB1030, 2, 4, 0x0#32, 0x0#32, 0xFFFFFFFF#32, 0x0#32, 0x0#32⟩,
  ⟨0xB1040, 2, 4, 0x0#32, 0x0#32, 0x0#32, 0x0#32, 0x0#32⟩,
  ⟨0xB1050, 2, 4, 0x0#32, 0x0#32, 0x0#32, 0x0#32, 0x0#32⟩,
  ⟨0xB1060, 2, 4, 0x0#32, 0x0#32, 0x0#32, 0x0#32, 0x0#32⟩,
  ⟨0xC0000, 1, 4, 0x8008003C#32, 0x80FFFFFF#32, 0x0#32, 0x0#32, 0x0#32⟩,
  ⟨0xC0004, 1, 4, 0x80100258#32, 0x80FFFFFF#32, 0x0#32, 0x0#32, 0x0#32⟩,
  ⟨0xC0008, 1, 4, 0x80080001#32, 0x80FFFFFF#32, 0x0#32, 0x0#32, 0x0#32⟩,
  ⟨0xC0020, 6, 4, 0x0#32, 0x0#32, 0x0#32, 0x0#32, 0x0#32⟩]

def stwRows5 : List RegRow := [
  ⟨0xC0040, 6, 4, 0x0#32, 0x0#32, 0xFFFF0000#32, 0x0#32, 0x0#32⟩,
  ⟨0xC0060, 6, 4, 0x0#32, 0x0#32, 0x0#32, 0x0#32, 0x0#32⟩,
  ⟨0xC0080, 1, 4, 0x100#32, 0xFFFF#32, 0x0#32, 0x0#32, 0x0#32⟩,
  ⟨0xC0084, 1, 4, 0x0#32, 0x0#32, 0x0#32, 0x0#32, 0x0#32⟩,
  ⟨0xC0088, 1, 4, 0x0#32, 0xFFFF#32, 0x0#32, 0x0#32, 0x0#32⟩,
  ⟨0xC00A0, 8, 4, 0x0#32, 0x0#32, 0x0#32, 0x0#32, 0x0#32⟩,
  ⟨0xC00C0, 1, 4, 0x0#32, 0x3FF#32, 0x0#32, 0x0#32, 0x0#32⟩,
  ⟨0xC00C4, 1, 4, 0x0#32, 0x0#32, 0x0#32, 0x0#32, 0x0#32⟩,
  ⟨0xC00C8, 1, 4, 0x0#32, 0x0#32, 0x0#32, 0x0#32, 0x0#32⟩,
  ⟨0xC00D0, 1, 4, 0x0#32, 0xFFFFFFFF#32, 0x0#32, 0x0#32, 0x0#32⟩,
  ⟨0xC00D4, 1, 4, 0x0#32, 0xF#32, 0x0#32, 0x0#32, 0x0#32⟩,
  ⟨0xC00D8, 1, 4, 0x0#32, 0x0#32, 0x0#32, 0x0#32, 0x0#32⟩,
  ⟨0xC00DC, 1, 4, 0x0#32, 0x0#32, 0x0#32, 0x0#32, 0x0#32⟩,
  ⟨0xC00E0, 1, 4, 0x0#32, 0x0#32, 0x0#32, 0x0#32, 0x0#32⟩,
  ⟨0xC00E4, 1, 4, 0x3C#32, 0xFFFF#32, 0x0#32, 0x0#32, 0x0#32⟩,
  ⟨0xC00E8, 1, 4, 0x0#32, 0x0#32, 0xFFFFFFFF#32, 0x0#32, 0x0#32⟩,
  ⟨0xC00EC, 1, 4, 0x3E8#32, 0xFFFF#32, 0x0#32, 0x0#32, 0x0#32⟩,
  ⟨0xC00F0, 2, 4, 0x0#32, 0x0#32, 0xFFFF0000#32, 0x0#32, 0x0#32⟩,
  ⟨0xC1000, 136, 4, 0x0#32, 0x0#32, 0xFFFFFFFF#32, 0x0#32, 0x0#32⟩,
  ⟨0xC1400, 128, 4, 0x0#32, 0x0#32, 0xFFFFFFFF#32, 0x0#32, 0x0#32⟩,
  ⟨0xD0000, 2, 4, 0x0#32, 0x0#32, 0x0#32, 0x0#32, 0x0#32⟩,
  ⟨0xD0010, 1, 4, 0x0#32, 0x0#32, 0x0#32, 0x0#32, 0x0#32⟩,
  ⟨0xD0014, 1, 4, 0x0#32, 0x0#32, 0x0#32, 0x0#32, 0x0#32⟩,
  ⟨0xD0018, 1, 4, 0x0#32, 0x0#32, 0x0#32, 0x0#32, 0x0#32⟩]

def stwRows6 : List RegRow := [
  ⟨0xD001C, 1, 4, 0x0#32, 0x0#32, 0x0#32, 0x0#32, 0x0#32⟩,
  ⟨0xD0020, 1, 4, 0x0#32, 0x0#32, 0x0#32, 0x0#32, 0x80000000#32⟩,
  ⟨0xD0040, 8, 4, 0x0#32, 0x0#32, 0x0#32, 0x0#32, 0x0#32⟩,
  ⟨0xD0100, 16, 4, 0x0#32, 0x1#32, 0x0#32, 0x0#32, 0x0#32⟩,
  ⟨0xD0140, 16, 4, 0x0#32, 0x0#32, 0xFFFF#32, 0x0#32, 0x0#32⟩,
  ⟨0xD0400, 256, 4, 0x0#32, 0x0#32, 0x0#32, 0x0#32, 0x0#32⟩,
  ⟨0xE0000, 2, 4, 0x0#32, 0x0#32, 0x0#32, 0x0#32, 0x0#32⟩,
  ⟨0xE0010, 2, 4, 0x0#32, 0x0#32, 0x0#32, 0x0#32, 0x0#32⟩,
  ⟨0xE0020, 1, 4, 0x0#32, 0x0#32, 0x0#32, 0x0#32, 0x0#32⟩,
  ⟨0xE0024, 1, 4, 0x0#32, 0x0#32, 0x0#32, 0x0#32, 0x0#32⟩,
  ⟨0xE0028, 1, 4, 0x0#32, 0xFFFFFFFF#32, 0x0#32, 0x0#32, 0x0#32⟩,
  ⟨0xE0030, 1, 4, 0x0#32, 0x0#32, 0x0#32, 0x0#32, 0x0#32⟩,
  ⟨0xE0034, 1, 4, 0x0#32, 0x0#32, 0x0#32, 0x0#32, 0x0#32⟩,
  ⟨0xE0038, 1, 4, 0x0#32, 0x0#32, 0x0#32, 0x0#32, 0x0#32⟩,
  ⟨0xE003C, 1, 4, 0x0#32, 0x0#32, 0x0#32, 0x0#32, 0x0#32⟩,
  ⟨0xE1000, 1024, 4, 0x0#32, 0x0#32, 0x0#32, 0x0#32, 0x0#32⟩,
  ⟨0xF0000, 1, 4, 0x5A#32, 0x7F#32, 0x0#32, 0x0#32, 0x0#32⟩,
  ⟨0xF0004, 1, 4, 0x0#32, 0x0#32, 0x0#32, 0x0#32, 0x0#32⟩,
  ⟨0xF0008, 1, 4, 0x0#32, 0x0#32, 0x0#32, 0x0#32, 0x0#32⟩,
  ⟨0xF000C, 1, 4, 0xFFFF#32, 0xFFFF#32, 0x0#32, 0x0#32, 0x0#32⟩,
  ⟨0xF0010, 1, 4, 0x800003E8#32, 0x8000FFFF#32, 0x3FFF0000#32, 0x0#32, 0x0#32⟩,
  ⟨0xF0014, 1, 4, 0x0#32, 0x0#32, 0x0#32, 0x3F#32, 0x0#32⟩,
  ⟨0xF0018, 1, 4, 0x3F#32, 0x3F#32, 0x0#32, 0x0#32, 0x0#32⟩,
  ⟨0xF001C, 1, 4, 0x0#32, 0x0#32, 0xFFFF#32, 0x0#32, 0x0#32⟩]

def stwRows7 : List RegRow := [
  ⟨0xF0020, 2, 4, 0x802003E8#32, 0x80FFFFFF#32, 0x0#32, 0x0#32, 0x0#32⟩,
  ⟨0xF0030, 1, 4, 0x73695F#32, 0xFFFFFF#32, 0x0#32, 0x0#32, 0x0#32⟩,
  ⟨0xF0034, 1, 4, 0x695F58#32, 0xFFFFFF#32, 0x0#32, 0x0#32, 0x0#32⟩,
  ⟨0xF0038, 1, 4, 0x695F55#32, 0xFFFFFF#32, 0x0#32, 0x0#32, 0x0#32⟩,
  ⟨0xF003C, 1, 4, 0x7D786E#32, 0xFFFFFF#32, 0x0#32, 0x0#32, 0x0#32⟩,
  ⟨0xF0040, 7, 4, 0x0#32, 0x0#32, 0x0#32, 0x0#32, 0x0#32⟩,
  ⟨0xF0100, 40, 4, 0x0#32, 0x0#32, 0x0#32, 0x0#32, 0x0#32⟩]

def stwRows : List RegRow := stwRows0 ++ stwRows1 ++ stwRows2 ++ stwRows3 ++ stwRows4 ++ stwRows5 ++ stwRows6 ++ stwRows7

/-- The row that lists an offset (R440). -/
def findRow (off : Nat) : List RegRow → Option RegRow
  | [] => none
  | r :: l =>
    if r.base ≤ off ∧ (off - r.base) % r.stride = 0 ∧ (off - r.base) / r.stride < r.count then some r
    else findRow off l

def barRow (off : Nat) : Option RegRow := findRow off barRows
def stwRow (off : Nat) : Option RegRow := findRow off stwRows

/-- The identification registers that R450 puts into the steward space. -/
def stwIdent (off : Nat) : Bool :=
  off % 4 = 0 && (off < 0x10 || (0x20 ≤ off && off < 0x30) || (0x40 ≤ off && off < 0x80))

def rowReset : Option RegRow → W32
  | some r => r.reset
  | none => 0#32

def barReset (off : Nat) : W32 := rowReset (barRow off)
def stwReset (off : Nat) : W32 := rowReset (stwRow off)

/-- The stored word of a tenant's BAR0 register; the reset value where it was not written since reset (R441). -/
def State.bar (t off : Nat) (s : State) : W32 := tget (barReset off) (t * 65536 + off) s.reg.bar
def State.setBar (t off : Nat) (v : W32) (s : State) : State :=
  { s with reg := { s.reg with bar := tset (barReset off) (t * 65536 + off) v s.reg.bar } }
def State.modBar (t off : Nat) (f : W32 → W32) (s : State) : State := s.setBar t off (f (s.bar t off))

/-- The stored word of a steward-space register. -/
def State.stw (off : Nat) (s : State) : W32 := tget (stwReset off) off s.reg.stw
def State.setStw (off : Nat) (v : W32) (s : State) : State :=
  { s with reg := { s.reg with stw := tset (stwReset off) off v s.reg.stw } }
def State.modStw (off : Nat) (f : W32 → W32) (s : State) : State := s.setStw off (f (s.stw off))

/-- A field of a steward register. -/
def State.stwF (off hi lo : Nat) (s : State) : Nat := bits hi lo (s.stw off)
def State.barF (t off hi lo : Nat) (s : State) : Nat := bits hi lo (s.bar t off)

/-- Add n to the counter in bits hi to lo, saturating at its largest value (R8). -/
def satField (hi lo n : Nat) (w : W32) : W32 :=
  setBits hi lo (min (2 ^ (hi + 1 - lo) - 1) (bits hi lo w + n)) w

/-- Count n events in a tenant's RC counter. -/
def State.cntBar (t off hi lo n : Nat) (s : State) : State := s.modBar t off (satField hi lo n)
/-- Count n events in a steward-space RC counter. -/
def State.cntStw (off hi lo n : Nat) (s : State) : State := s.modStw off (satField hi lo n)

/-- Every BAR0 and BAR2 register of a tenant takes its reset value, but PRT_FLR where keepFlr holds (R441, Table PRT-8). -/
def State.clearBar (t : Nat) (keepFlr : Bool) (s : State) : State :=
  { s with reg := { s.reg with
      bar := s.reg.bar.filter (fun e => e.1 / 65536 ≠ t || (keepFlr && e.1 % 65536 = Reg.PRT_FLR)),
      bar2 := s.reg.bar2.filter (fun e => e.1 / 65536 ≠ t) } }

/-- RC bits that a read's own cycle may set on top of what it clears. -/
def rcMask : Option RegRow → W32
  | some r => r.rc
  | none => 0#32

/-- W1C bits of a register. -/
def w1cMask : Option RegRow → W32
  | some r => r.w1c
  | none => 0#32

/-- A write's result on a stored word: RW bits take v, W1C bits written 1 clear, W1S bits written 1 set (R7). -/
def RegRow.write (r : RegRow) (old v : W32) : W32 :=
  (((old &&& ~~~r.rw) ||| (v &&& r.rw)) &&& ~~~(v &&& r.w1c)) ||| (v &&& r.w1s)

/-- What an RC read leaves of a stored word: RC bits at reset, plus the update of the same cycle (R8). -/
def RegRow.clearRead (r : RegRow) (old upd : W32) : W32 :=
  (old &&& ~~~r.rc) ||| (r.reset &&& r.rc) ||| (upd &&& r.rc)

end Sys2Proof.Machine
end

