-- ==== Sys2Proof/Machine/Flags.lean ====
section
/-! DEFINITION. Status codes, event records and logs, interrupts, alerts and the module's own requests: every flag a
command sets on the side (spec/15_reliability.md R373 to R376, spec/02_host_ports.md R33 and R51, Table DSC-21). -/

namespace Sys2Proof.Machine

/-- Codes of Table DSC-21. -/
def Status.code : Status → Nat
  | .ok => 0x00
  | .poisonConsumed => 0x01
  | .checkMismatch => 0x02
  | .expandOverrun => 0x03
  | .expandUnderrun => 0x04
  | .tableRetired => 0x05
  | .farLost => 0x06
  | .timeout => 0x07
  | .quota => 0x08
  | .staleVersion => 0x09
  | .abortedFlr => 0x0A
  | .fencedUnit => 0x0B
  | .uninitRead => 0x0C
  | .stewardConflict => 0x0D
  | .deferred => 0x0E
  | .permission => 0x0F
  | .badDescriptor => 0x10
  | .dupMismatch => 0x11
  | .notReady => 0x12
  | .slotBusy => 0x13

/-- A unit number (R373): class in [15:12], index in [11:0]. -/
def unitNo (cls idx : Nat) : Nat := cls * 4096 + idx % 4096

/-- UNIT of a channel: LCn, or HPCn from 136 on. -/
def chanUnit (ch : Nat) : Nat := if ch < 136 then unitNo 0 ch else unitNo 1 (ch - 136)

def noUnit : Nat := unitNo 15 0

/-- LOC form 1: a UA (R373). -/
def locUa (ua : Nat) : Nat := 2 ^ 62 + ua % 2 ^ 52
/-- LOC form 2: K, bank, line within the row, row. -/
def locDram (k bank line row : Nat) : Nat :=
  2 * 2 ^ 62 + (k % 2) * 2 ^ 32 + (bank % 64) * 2 ^ 26 + (line % 32) * 2 ^ 21 + row % 2 ^ 21
/-- LOC form 3: a Cistern entry. -/
def locCst (e : Nat) : Nat := 3 * 2 ^ 62 + e % 2 ^ 15

/-- The fields of a module record (Table RAS-6). -/
structure Rec where
  typ : Nat
  sev : Nat
  status : Nat := 0
  tenant : Option Nat := none
  unit : Nat := noUnit
  loc : Nat := 0
  aux0 : Nat := 0
  aux1 : Nat := 0
  /-- Which standard CXL record is filled from it: 0 none, 1 General Media, 2 DRAM, 3 Memory Module
  (R376), 4 Add Capacity, 5 Release Capacity (R298), 6 Memory Module of type Temperature Change (R427; log 27). -/
  std : Nat := 0
deriving DecidableEq, Repr

/-- The 32 bytes of a module record at a time in ns (Table RAS-6). -/
def Rec.bytes (r : Rec) (time : Nat) : W256 :=
  BitVec.ofNat 256 (
    r.typ % 256 + (r.sev % 4) * 2 ^ 14 + (r.status % 256) * 2 ^ 16 + (r.std % 256) * 2 ^ 24 +
    (match r.tenant with
      | some t => (t % 256) * 2 ^ 32 + 2 ^ 47
      | none => 0) +
    (r.unit % 65536) * 2 ^ 48 + (time % 2 ^ 64) * 2 ^ 64 + (r.loc % 2 ^ 64) * 2 ^ 128 +
    (r.aux0 % 2 ^ 32) * 2 ^ 192 + (r.aux1 % 2 ^ 32) * 2 ^ 224)

/-! The module's own requests (R51). -/

/-- The numbers below n that a list does not hold, lowest first, up to one. -/
def lowestNot (used : List Nat) : Nat := ((List.range (used.length + 1)).find? (fun n => !used.contains n)).getD 0

/-- A fresh number: the free value where it is not in use, else the lowest not in use (log 7). -/
def State.fresh (used : List Nat) (s : State) : Nat :=
  if used.contains (Config.freeNat s.freeCtr) then lowestNot used else Config.freeNat s.freeCtr

/-- Tags in use, in quarantine or waiting to be issued. -/
def State.tagsBusy (s : State) : List Nat :=
  s.tags.map Tag.tag ++ s.quarantine.map Tag.tag ++
  (s.lds.map (fun e => e.2.waiting.filterMap (fun w => match w with
    | .read g _ _ _ => some g
    | _ => none))).flatten

/-- An MSI-X message is sent. While DSC_CQ_CFG.COAL is not zero, vector 0 is sent at most once in each period, and one message
at its end covers what came inside it (R276). -/
def State.sendMsix (t v : Nat) (s : State) : State :=
  if v = 0 && s.barF t Reg.DSC_CQ_CFG 23 8 ≠ 0 then
    if (s.engOf t).coalescing then s.modEng t (fun e => { e with coalOwed := true })
    else (s.emit (.msix t 0)).modEng t (fun e => { e with coalescing := true })
  else s.emit (.msix t v)

/-- Put one request on its way: a read stays outstanding until its completion. -/
def State.issueWant (t : Nat) (w : Want) (s : State) : State := match w with
  | .read g use addr len => State.emit (.dmaRead t g addr len) { s with tags := s.tags ++ [{ tag := g, tenant := t, use := use }] }
  | .write addr b => s.emit (.dmaWrite t addr b)
  | .record a r => s.emit (.record t a r)
  | .msix v => s.sendMsix t v

/-- Issue a request of the module for tenant t, or let it wait for Bus Master Enable (R51). -/
def State.request (t : Nat) (w : Want) (s : State) : State :=
  if (s.ld t).bme then s.issueWant t w else s.modLd t (fun l => { l with waiting := l.waiting ++ [w] })

/-- Start a read of a host's memory under a fresh tag. -/
def State.dmaRead (t : Nat) (use : DmaUse) (addr : W64) (len : Nat) (s : State) : State :=
  (s.request t (.read (s.fresh s.tagsBusy) use addr len)).tickFree

/-! MSI-X and event logs. -/

/-- Raise MSI-X vector v of a tenant (R33): sent, or its pending bit set. From step 3 of a drain on none is sent
(Table PRT-9). -/
def State.raiseMsix (t v : Nat) (s : State) : State :=
  let l := s.ld t
  if l.flr || l.portDrain then s
  else if l.msixEn && !l.fnMask && !bit v l.vecMask then s.request t (.msix v)
  else s.setLd t { l with pending := setBit v true l.pending }

/-- Send what MSI-X held back: a pending vector whose mask is clear (R33). -/
def State.flushMsix (t : Nat) (s : State) : State :=
  let l := s.ld t
  if l.msixEn && !l.fnMask then
    forAll (List.range 4) (fun v s =>
      if bit v (s.ld t).pending && !bit v (s.ld t).vecMask then
        (s.modLd t (fun l => { l with pending := setBit v false l.pending })).request t (.msix v)
      else s) s
  else s

/-- Add a record to one log of 64 (R375), or count it lost. -/
def addLog (r : W256) (l : List W256) : List W256 × Bool := if l.length < 64 then (l ++ [r], true) else (l, false)

def ovf (k : Nat) (t : Tab Nat) : Tab Nat := tset 0 k (min 0xFFFF (tget 0 k t + 1)) t

/-- A record in a tenant's event log of its severity, with vector 1 (R375). -/
def State.tenantLog (t sev : Nat) (r : W256) (s : State) : State :=
  let l := s.ld t
  if l.enumerated then
    let cur := if sev = 0 then l.logInfo else if sev = 1 then l.logWarn else l.logFail
    match addLog r cur with
    | (n, true) =>
      (s.setLd t (if sev = 0 then { l with logInfo := n } else if sev = 1 then { l with logWarn := n }
        else { l with logFail := n })).raiseMsix t 1
    | (_, false) => s.setLd t { l with overflow := ovf sev l.overflow }
  else s

/-- A record in the log of the FM-owned device of head p. -/
def State.fmLog (p sev : Nat) (r : W256) (s : State) : State :=
  let m := s.mgmt
  let cur := tget [] p (if sev = 0 then m.fmInfo else if sev = 1 then m.fmWarn else m.fmFail)
  match addLog r cur with
  | (n, true) => { s with mgmt := if sev = 0 then { m with fmInfo := tset [] p n m.fmInfo }
      else if sev = 1 then { m with fmWarn := tset [] p n m.fmWarn } else { m with fmFail := tset [] p n m.fmFail } }
  | (_, false) => { s with mgmt := { m with fmOverflow := ovf (4 * p + sev) m.fmOverflow } }

def State.portUp (p : Nat) (s : State) : Bool := (s.port p).st = .up

/-- A record in the log of every FM-owned device: of every head that is UP (R376). -/
def State.fmLogAll (sev : Nat) (r : W256) (s : State) : State :=
  forAll ((List.range 16).filter (fun p => s.portUp p)) (fun p s => s.fmLog p sev r) s

/-- Put a record into the module log, over the oldest when it holds 65,536 (R374). -/
def State.moduleLog (r : W256) (s : State) : State :=
  s.modRas (fun a =>
    let log := if a.log.length < 65536 then a.log ++ [r] else a.log.set a.logNext r
    if a.logNext + 1 = 65536 then { a with log := log, logNext := 0, logWraps := min 0xFFFF (a.logWraps + 1) }
    else { a with log := log, logNext := a.logNext + 1 })

/-- The second that the microsecond count is in. -/
def State.second (s : State) : Nat := s.clk.us / 1000000

/-! Alerts (Table PWM-13, R437). -/

def alFail : Nat := 0
def alCapLim : Nat := 1
def alTherm : Nat := 2
def alHandover : Nat := 3
def alConflict : Nat := 4
def alSplit : Nat := 5

def State.alert (b : Nat) (s : State) : State := s.modStw Reg.PWM_ALERT (setBit b true)

/-- ALERT_N is asserted (R437). -/
def State.alertAsserted (s : State) : Bool := (s.stw Reg.PWM_ALERT &&& s.stw Reg.PWM_ALERTEN) ≠ 0#32

/-- Report an event: the module log, the FAIL alert of a record of SEV 2, and the tenant's log where the record names
one (R374, R375, Table PWM-13). -/
def State.logRec (r : Rec) (s : State) : State :=
  let b := r.bytes s.now
  let s := s.moduleLog b
  let s := if r.sev = 2 then s.alert alFail else s
  match r.tenant with
  | some t => s.tenantLog t r.sev b
  | none => s

/-- A standard record of Table RAS-8 for every FM-owned device, filled from a module record. -/
def State.fmStd (kind sev : Nat) (r : Rec) (s : State) : State :=
  s.fmLogAll sev ({ r with std := kind, sev := sev }.bytes s.now)

/-- A Memory Module record, device health changed (Table RAS-8). -/
def State.fmHealth (r : Rec) (s : State) : State := s.fmStd 3 1 r

/-- Stewardship in conflict refuses steward commands (R435). -/
def State.conflict (s : State) : Bool := s.bridge.conflict

/-- Whether the bridge is down (R14). -/
def State.split (s : State) : Bool := !s.bridge.up

end Sys2Proof.Machine
end

