-- ==== Sys2Proof/Machine/Maint.lean ====
section
/-! DEFINITION. The maintenance arbiter (spec/15_reliability.md R384, R385, Tables RAS-10 and RAS-11). Scope members:
channels 0 to 263, Cistern banks from 1,000, Flume engines from 2,000, Tender cores from 2,100. -/

namespace Sys2Proof.Machine

def scBank (b : Nat) : Nat := 1000 + b
def scFe (n : Nat) : Nat := 2000 + n
def scTc (n : Nat) : Nat := 2100 + n

/-- Every channel in service of a tier (0 Near, 1 Bulk) on a half. -/
def scTier (tier : Nat) (h : Half) : List Nat :=
  if tier = 0 then (List.range 64).map (fun i => 136 + 64 * halfIdx h + i) else (List.range 64).map (fun i => 64 * halfIdx h + i)

/-- Rank of an activity (Table RAS-10). -/
def actRank (code : Nat) : Nat :=
  match code with
  | 1 => 1
  | 2 => 8
  | 3 => 6
  | 4 => 7
  | 5 => 2
  | 6 => 3
  | 7 => 5
  | _ => 4

/-- An X of Table RAS-11. -/
def actX (a b : Nat) : Bool :=
  match min a b, max a b with
  | 1, 1 => true
  | 1, 2 => true
  | 1, 4 => true
  | 1, 5 => true
  | 1, 6 => true
  | 2, 2 => true
  | 2, 3 => true
  | 2, 4 => true
  | 2, 6 => true
  | 2, 7 => true
  | 3, 3 => true
  | 3, 6 => true
  | 3, 7 => true
  | 4, 4 => true
  | 4, 6 => true
  | 4, 7 => true
  | 4, 8 => true
  | 5, 5 => true
  | 5, 6 => true
  | 6, 6 => true
  | 6, 7 => true
  | 6, 8 => true
  | 7, 7 => true
  | 8, 8 => true
  | _, _ => false

/-- Two activities conflict: an X pair whose scopes meet. -/
def Activity.clash (a b : Activity) : Bool := a.id ≠ b.id && actX a.code b.code && a.scope.any (fun x => nmem x b.scope)

/-- a loses to b (R384, step 2). -/
def Activity.loses (a b : Activity) : Bool :=
  if actRank a.code ≠ actRank b.code then actRank a.code < actRank b.code
  else if a.start ≠ b.start then a.start > b.start
  else a.code > b.code || (a.code = b.code && a.id > b.id)

/-- The activity may be parked before it ends. -/
def canPark (code : Nat) : Bool := code ≠ 2 && code ≠ 7

def State.modAct (id : Nat) (f : Activity → Activity) (s : State) : State :=
  s.modRas (fun r => { r with acts := mapIf (fun a => decide (a.id = id)) f r.acts })

def State.actOf (code unit : Nat) (s : State) : Option Activity := s.ras.acts.find? (fun a => a.code = code && a.unit = unit)

/-- The status field that an activity reports DEFERRED in (R384, step 4). -/
def deferReg (code unit : Nat) : Option Nat :=
  match code with
  | 4 => some (Reg.DMC_ESTAT + 4 * (unit / 128))
  | 5 => some (Reg.CST_MSTAT + 4 * unit)
  | 6 => some (if 2000 ≤ unit && unit < 2016 then Reg.FLE_FSTAT else if 2100 ≤ unit && unit < 2164 then Reg.TND_FSTAT else Reg.BUP_BSTAT)
  | 8 => some Reg.RAS_RSTAT
  | _ => none

def State.setDefer (code unit st : Nat) (s : State) : State :=
  match deferReg code unit with
  | some r => s.modStw r (setBits 7 0 st)
  | none => s

/-- Half whose arbiter holds a scope. -/
def scopeHalf (l : List Nat) : Half :=
  match l with
  | [] => .north
  | x :: _ =>
    if x < 128 then (if x < 64 then .north else .south)
    else if x < 136 then (if x < 132 then .north else .south)
    else if x < 264 then (if x < 200 then .north else .south)
    else if x < 2000 then (if x < 1256 then .north else .south)
    else if x < 2100 then (if x < 2008 then .north else .south)
    else if x < 2132 then .north else .south

def State.countPark (scope : List Nat) (s : State) : State := s.cntStw (Reg.RAS_MARB + 4 * halfIdx (scopeHalf scope)) 31 16 1

/-- An activity asks for a grant: granted, waiting for those it beat to park, or parked itself (R384). -/
def State.maintAsk (code : Nat) (scope : List Nat) (unit : Nat) (s : State) : State :=
  let a : Activity := { id := s.ras.nextAct, code := code, scope := ninsAll scope [], unit := unit, start := s.now, granted := false }
  let s := s.modRas (fun r => { r with nextAct := r.nextAct + 1 })
  let cl := s.ras.acts.filter (fun g => g.granted && g.clash a)
  if cl = [] then s.modRas (fun r => { r with acts := r.acts ++ [{ a with granted := true }] })
  else if cl.all (fun g => g.loses a) then
    s.modRas (fun r => { r with acts := (r.acts.map (fun g => if g.granted && g.clash a && canPark g.code then { g with parking := true } else g))
      ++ [{ a with won := true }] })
  else ((s.modRas (fun r => { r with acts := r.acts ++ [a] })).countPark scope).setDefer code unit Status.deferred.code

/-- Winners that wait are granted once nothing they beat still holds a meeting scope. -/
def State.grantWon (s : State) : State :=
  forAll (s.ras.acts.filter (fun a => a.won)) (fun a s =>
    if s.ras.acts.any (fun g => g.granted && g.clash a) then s
    else s.modAct a.id (fun a => { a with granted := true, won := false })) s

/-- An activity ends: its scope is free. -/
def State.maintEnd (code unit : Nat) (s : State) : State :=
  (s.modRas (fun r => { r with acts := r.acts.filter (fun a => !(a.code = code && a.unit = unit)) })).grantWon

/-- An activity of this code and unit holds its grant. -/
def State.holdsGrant (code unit : Nat) (s : State) : Bool :=
  match s.actOf code unit with
  | some a => a.granted
  | none => false

/-- Activities parked now on a half. -/
def State.parkedNow (h : Half) (s : State) : Nat :=
  (s.ras.acts.filter (fun a => !a.granted && !a.won && decide (scopeHalf a.scope = h))).length

/-- A losing granted activity reaches its safe point and parks. -/
def State.park (id : Nat) (s : State) : State :=
  match s.ras.acts.find? (fun a => a.id = id) with
  | some a =>
    if a.granted && a.parking then
      (((s.modAct id (fun a => { a with granted := false, parking := false })).countPark a.scope).setDefer a.code a.unit
        Status.deferred.code).grantWon
    else s
  | none => s

/-- A parked activity resumes once nothing that beat it holds a meeting scope, in order of rank and start (R384);
scrubs and march runs stay parked in standby (R430). -/
def State.resume (id : Nat) (s : State) : State :=
  match s.ras.acts.find? (fun a => a.id = id) with
  | some a =>
    if !a.granted && !a.won && !(s.pwm.standby && (a.code = 1 || a.code = 5)) && !s.ras.acts.any (fun g => (g.granted || a.loses g) && g.clash a) then
      (s.modAct id (fun a => { a with granted := true, longLogged := false })).setDefer a.code a.unit 0
    else s
  | none => s

/-- MAINT_GRANT_REQUEST (R384): a maintenance activity asks for its scope. -/
def execMaintGrantRequest (code : BitVec 4) (scope : List Nat) (unit : Nat) (s : State) : Host.Outcome State Fault Refusal :=
  if 1 ≤ code.toNat ∧ code.toNat ≤ 8 then .next (s.maintAsk code.toNat scope unit) else .next s

/-- MAINT_PARK (R384). -/
def execMaintPark (id : Nat) (s : State) : Host.Outcome State Fault Refusal := .next (s.park id)

/-- MAINT_RESUME (R384). -/
def execMaintResume (id : Nat) (s : State) : Host.Outcome State Fault Refusal := .next (s.resume id)

/-- LONG_DEFERRAL (R385): one record for an activity that is parked, while DEFEV is not 0. -/
def execLongDeferral (id : Nat) (s : State) : Host.Outcome State Fault Refusal :=
  match s.ras.acts.find? (fun a => a.id = id) with
  | some a =>
    if !a.granted && !a.won && !a.longLogged && s.stwF Reg.RAS_MACFG 15 0 ≠ 0 then
      .next ((s.modAct id (fun a => { a with longLogged := true })).logRec
        { typ := 0x13, sev := 1, unit := unitNo 11 a.code, loc := a.unit, aux0 := a.code, aux1 := s.stwF Reg.RAS_MACFG 15 0 })
    else .next s
  | none => .next s

end Sys2Proof.Machine
end

