-- ==== Sys2Proof/Machine/Cistern.lean ====
section
/-! DEFINITION. Cistern: banks, their owners and power states, handovers and march tests (spec/14_cistern.md). -/

namespace Sys2Proof.Machine

open Host (Outcome)

/-- Owner of a bank at module reset (Table CST-2). -/
def bankReset (n : Nat) : Bank :=
  if n % 256 < 64 then { kind := .stage, owner := 8 * (n / 256) + n % 256 / 8 }
  else if n % 256 ≥ 248 then { kind := .mgmt } else { kind := .free }

def State.bank (n : Nat) (s : State) : Bank := tget (bankReset n) n s.cst.banks
def State.setBank (n : Nat) (v : Bank) (s : State) : State :=
  s.modCst (fun c => { c with banks := tset (bankReset n) n v c.banks })
def State.modBank (n : Nat) (f : Bank → Bank) (s : State) : State := s.setBank n (f (s.bank n))

def bankHalf (n : Nat) : Half := if n < 256 then .north else .south
def feHalf (n : Nat) : Half := if n < 8 then .north else .south
def tcHalf (n : Nat) : Half := if n < 32 then .north else .south

def halfBanks (h : Half) : List Nat := (List.range 256).map (fun i => 256 * halfIdx h + i)

/-- Staging banks an engine owns (FLE_CFG_n.SBANKS). -/
def State.sbanks (fe : Nat) (s : State) : List Nat :=
  (halfBanks (feHalf fe)).filter (fun b => let k := s.bank b; k.kind = .stage && k.owner = fe)

def bankSize : Nat := 524288

/-- Zeros over a bank, with its poison gone (R357). -/
def State.zeroBank (b : Nat) (s : State) : State :=
  s.modCst (fun c => { c with mem := mclear (b * bankSize) bankSize c.mem, poison := ndelRange (b * bankSize / 4) (bankSize / 4) c.poison,
                              damage := c.damage.filter (fun e => e.1 / (bankSize / 4) ≠ b) })

/-! Code words (R352, R354, R355): word w is bytes 4w to 4w + 3 of the Cistern. -/

/-- Count a corrected read of a Cistern bank, with the threshold record of R364. -/
def State.bankCorrected (b entry : Nat) (s : State) : State :=
  let s := s.cntStw (Reg.CST_BERR + 4 * b) 31 16 1
  let k := s.bank b
  let same := k.ceStamp = s.second
  let n := if same then k.ceSec + 1 else 1
  let logged := same && k.ceLogged
  let thr := s.stwF Reg.RAS_CECFG 15 0
  let hit := thr ≠ 0 && n ≥ thr && !logged
  let s := s.setBank b { k with ceSec := n, ceStamp := s.second, ceLogged := logged || hit }
  if hit then
    let r : Rec := { typ := 0x02, sev := 1, unit := unitNo 2 b, loc := locCst entry, aux0 := n }
    (s.logRec r).fmStd 2 1 r
  else s

/-- The record of an uncorrectable code word (Table RAS-7); src as AUX0 names it. -/
def cstRec (t : Option Nat) (src w : Nat) : Rec :=
  { typ := 0x01, sev := 2, tenant := t, unit := unitNo 2 (w / 131072), loc := locCst (w / 4 % 32768), aux0 := src, aux1 := 0xFFFFFFFF }

/-- Count and log an uncorrectable code word. -/
def State.cstUncorrected (t : Option Nat) (src w : Nat) (s : State) : State :=
  (s.cntStw (Reg.CST_BERR + 4 * (w / 131072)) 15 0 1).logRec (cstRec t src w)

/-- How a code word reads: clean, corrected, poison, or uncorrectable. -/
inductive WordRead where
  | clean
  | corrected
  | poison
  | uncorrectable
deriving DecidableEq, Repr

/-- Two flipped bits may show the poison syndrome; more than two are taken to be uncorrectable, and so is a flipped bit in a
poisoned word (DESIGN CHOICE, log 13). -/
def State.wordRead (w : Nat) (s : State) : WordRead :=
  match tget [] w s.cst.damage, nmem w s.cst.poison with
  | [], false => .clean
  | [], true => .poison
  | [_], false => .corrected
  | [x, y], false => if Config.checkColumn x ^^^ Config.checkColumn y = 0x33#7 then .poison else .uncorrectable
  | _, _ => .uncorrectable

/-- A read of a code word: false where it returns poison. The stored word stays as it is. -/
def State.cstRead (t : Option Nat) (w : Nat) (s : State) : Bool × State :=
  match s.wordRead w with
  | .clean => (true, s)
  | .corrected => (true, s.bankCorrected (w / 131072) (w / 4 % 32768))
  | .poison => (false, s)
  | .uncorrectable => (false, s.cstUncorrected t 0 w)

/-- Reads of several code words, of which only damaged and poisoned ones show. -/
def State.cstReadAll (t : Option Nat) (ws : List Nat) (s : State) : Bool × State :=
  (ninsAll ((s.cst.damage.map Prod.fst ++ s.cst.poison).filter (fun w => ws.contains w)) []).foldl (fun (a : Bool × State) w =>
    let r := a.2.cstRead t w
    (a.1 && r.1, r.2)) (true, s)

/-- Code words written whole: fresh check bits. -/
def State.cstFresh (ws : List Nat) (s : State) : State :=
  s.modCst (fun c => { c with poison := c.poison.filter (fun w => !ws.contains w), damage := c.damage.filter (fun e => !ws.contains e.1) })

/-- A bank's code words take what is written into the bank as a whole. -/
def State.cstFreshBank (b : Nat) (s : State) : State :=
  s.modCst (fun c => { c with poison := c.poison.filter (fun w => w / 131072 ≠ b), damage := c.damage.filter (fun e => e.1 / 131072 ≠ b) })

/-- A write of a code word: one of only a part of it reads it first, and leaves poison where that read returns it (R352). -/
def State.wordWrite (t : Option Nat) (whole : Bool) (w : Nat) (s : State) : State :=
  if whole then s.cstFresh [w]
  else match s.cstRead t w with
    | (true, s) => s.cstFresh [w]
    | (false, s) => (s.cstFresh [w]).modCst (fun c => { c with poison := nins w c.poison })

/-- Every staging entry of a bank is dropped (R347, step 4; Table CST-5). -/
def State.dropBank (b : Nat) (s : State) : State :=
  { s with fes := s.fes.filterMap (fun e =>
      let g := { e.2 with staged := e.2.staged.filter (fun x => x.bank ≠ b) }
      if g = {} then none else some (e.1, g)) }

/-- A running tile reads a block staged in the bank. -/
def State.bankRead (b : Nat) (s : State) : Bool :=
  s.fes.any (fun e => match e.2.tile with
    | some t => nmem b t.banks
    | none => false)

/-- Wake a bank for an access or an allotment (Table CST-5). -/
def State.wakeBank (b : Nat) (s : State) : State :=
  match (s.bank b).ps with
  | .retention => s.modCst (fun c => { c with waking := nins b c.waking })
  | .fallow => s.modBank b (fun k => { k with ps := .filling })
  | _ => s

/-- A bank that comes back from a grain, a job or a drain is filled with zeros before it is FREE (R345). -/
def State.returnBank (b : Nat) (s : State) : State :=
  s.modBank b (fun k => { k with ps := .filling, next := some .free })

/-- The FREE bank that hardware allots on a half (R345). -/
def State.freeBank (h : Half) (s : State) : Option Nat :=
  let free := (halfBanks h).filter (fun b => (s.bank b).kind = .free && (s.bank b).next.isNone && (s.bank b).handover.isNone)
  match free.find? (fun b => (s.bank b).ps = .on) with
  | some b => some b
  | none => free.find? (fun b => (s.bank b).ps = .retention || (s.bank b).ps = .fallow)

/-- Allot one bank to an owner, waking it where needed. -/
def State.allotBank (h : Half) (k : BankKind) (owner : Nat) (s : State) : Option (Nat × State) :=
  match s.freeBank h with
  | some b => some (b, (s.wakeBank b).modBank b (fun x => { x with kind := k, owner := owner }))
  | none => none

/-- Allot one bank to a job that still needs one, or let the allotment wait (R345). -/
def State.allotJob (id : Nat) (s : State) : State :=
  match s.job id with
  | none => s.modCst (fun c => { c with allotWait := c.allotWait.filter (fun j => j ≠ id) })
  | some j =>
    if j.banks.length ≥ j.needBanks then s.modCst (fun c => { c with allotWait := c.allotWait.filter (fun k => k ≠ id) })
    else match s.allotBank j.half .job id with
      | some (b, s) => (s.modJob id (fun j => { j with banks := j.banks ++ [b] })).modCst (fun c =>
          { c with allotWait := c.allotWait.filter (fun k => k ≠ id) })
      | none => if s.cst.allotWait.contains id then s else s.modCst (fun c => { c with allotWait := c.allotWait ++ [id] })

/-- Waiting allotments are tried again when a bank returns to the pool. -/
def State.retryAllot (s : State) : State := forAll s.cst.allotWait (fun j s => s.allotJob j) s

/-! CST_BCMD (Table CST-3). -/

def State.bcBusy (s : State) : Bool := bit 31 (s.stw Reg.CST_BCSTAT)
def State.bcStatus (st : Status) (s : State) : State := s.modStw Reg.CST_BCSTAT (setBits 7 0 st.code)

/-- The rows of Table CST-3 that every OP shares, then bad and denied of the OP. -/
def State.bcCheck (b : Nat) (bad denied : Bool) (s : State) : Status :=
  let k := s.bank b
  if s.conflict then .stewardConflict
  else if s.bcBusy || k.kind = .test || k.ps = .filling || k.handover.isSome then .slotBusy
  else if bad then .badDescriptor
  else if k.kind = .mgmt || k.kind = .work || k.kind = .job || denied then .permission
  else .ok

/-- Start a handover: HANDOVER and BUSY are set until it completes (R347). -/
def State.startHandover (b : Nat) (dst : Option Nat) (kind : BankKind) (s : State) : State :=
  (s.modBank b (fun k => { k with handover := some dst, next := some kind })).modStw Reg.CST_BCSTAT
    (fun w => setBit 31 true (setBits 7 0 0 w))

/-- BANK_GIVE_STAGE (R346, R347). -/
def execBankGiveStage (b : BankId) (fe : BitVec 4) (s : State) : Outcome State Fault Refusal :=
  let n := b.toNat
  let f := fe.toNat
  let k := s.bank n
  let denied := !(k.kind = .free || k.kind = .stage) ||
    (k.kind = .stage && k.owner ≠ f && (s.fe k.owner).ctl.st = .inService && (s.sbanks k.owner).length ≤ 2) ||
    (!(k.kind = .stage && k.owner = f) && (s.sbanks f).length ≥ 15)
  match s.bcCheck n (decide (bankHalf n ≠ feHalf f)) denied with
  | .ok => .next (s.startHandover n (some f) .stage)
  | st => .next (s.bcStatus st)

/-- A bank's Memory Module record: bank retired (Table RAS-8; log 30). -/
def State.bankRetired (b : Nat) (s : State) : State := s.fmHealth { typ := 0, sev := 1, unit := unitNo 2 b }

/-- BANK_RETURN_POOL (R346). -/
def execBankReturnPool (b : BankId) (s : State) : Outcome State Fault Refusal :=
  let n := b.toNat
  let k := s.bank n
  match s.bcCheck n false (k.kind = .retired && !k.mpass) with
  | .ok => .next (if k.kind = .free then s.bcStatus .ok else s.startHandover n none .free)
  | st => .next (s.bcStatus st)

/-- BANK_RETIRE (R346): a STAGE bank is handed over first (R347). -/
def execBankRetire (b : BankId) (s : State) : Outcome State Fault Refusal :=
  let n := b.toNat
  match s.bcCheck n false false with
  | .ok =>
    .next (match (s.bank n).kind with
      | .stage => s.startHandover n none .retired
      | .retired => s.bcStatus .ok
      | _ => ((s.modBank n (fun k => { k with kind := .retired })).bcStatus .ok).bankRetired n)
  | st => .next (s.bcStatus st)

/-- BANK_POWER_ON (R356, R358). -/
def execBankPowerOn (b : BankId) (s : State) : Outcome State Fault Refusal :=
  match s.bcCheck b.toNat false false with
  | .ok => .next ((s.wakeBank b.toNat).bcStatus .ok)
  | st => .next (s.bcStatus st)

def State.toRetention (b : Nat) (s : State) : State :=
  s.modBank b (fun k => if k.ps = .on then { k with ps := .retention } else k)

/-- Contents are lost and staging entries dropped (Table CST-5). -/
def State.toFallow (b : Nat) (s : State) : State :=
  if (s.bank b).ps = .on || (s.bank b).ps = .retention then
    (((s.dropBank b).zeroBank b).modBank b (fun k => { k with ps := .fallow })).modCst (fun c => { c with waking := ndel b c.waking })
  else s

/-- BANK_RETENTION (R356, R358). -/
def execBankRetention (b : BankId) (s : State) : Outcome State Fault Refusal :=
  match s.bcCheck b.toNat false false with
  | .ok => .next ((s.toRetention b.toNat).bcStatus .ok)
  | st => .next (s.bcStatus st)

/-- BANK_FALLOW (R356, R358). -/
def execBankFallow (b : BankId) (s : State) : Outcome State Fault Refusal :=
  match s.bcCheck b.toNat false false with
  | .ok => .next ((s.toFallow b.toNat).bcStatus .ok)
  | st => .next (s.bcStatus st)

/-- HANDOVER_COMPLETE (R347, steps 3 to 6). -/
def execHandoverComplete (b : BankId) (s : State) : Outcome State Fault Refusal :=
  let n := b.toNat
  let k := s.bank n
  match k.handover with
  | none => .next s
  | some dst =>
    if s.bankRead n then .next s
    else
      let s := ((s.dropBank n).zeroBank n).setBank n { k with
        kind := k.next.getD .free, owner := dst.getD 0, ps := .on, handover := none, next := none }
      let s := s.modStw Reg.CST_BCSTAT (setBit 31 false)
      .next (match k.next with
        | some .retired => s.bankRetired n
        | some .free => s.retryAllot
        | _ => s)

/-- ZERO_FILL_DONE (R357): a FILLING bank becomes ON, under its new kind where it has one (R345). -/
def execZeroFillDone (b : BankId) (s : State) : Outcome State Fault Refusal :=
  let n := b.toNat
  let k := s.bank n
  if k.ps = .filling then
    let s := s.zeroBank n
    match k.next with
    | some kind => .next ((s.setBank n { k with kind := kind, owner := 0, ps := .on, next := none }).retryAllot)
    | none => .next (s.setBank n { k with ps := .on }).retryAllot
  else .next s

/-- BANK_WAKE_DONE (R356). -/
def execBankWakeDone (b : BankId) (s : State) : Outcome State Fault Refusal :=
  if nmem b.toNat s.cst.waking then
    .next ((s.modCst (fun c => { c with waking := ndel b.toNat c.waking })).modBank b.toNat (fun k =>
      if k.ps = .retention then { k with ps := .on } else k))
  else .next s

/-- BANK_ALLOT (R345). -/
def execBankAllot (job : Nat) (s : State) : Outcome State Fault Refusal := .next (s.allotJob job)

def State.cisAuto (b : Nat) (s : State) : Bool := bit 31 (s.stw (Reg.PWM_CISCFG + 4 * halfIdx (bankHalf b)))

/-- The governor may save a bank's power: AUTO is set, and KEEPON FREE banks of the half have lower numbers (R429). -/
def State.mayIdle (b : Nat) (s : State) : Bool :=
  s.cisAuto b && (s.bank b).kind = .free &&
  s.stwF (Reg.PWM_CISCFG + 4 * halfIdx (bankHalf b)) 23 16 ≤
    ((halfBanks (bankHalf b)).filter (fun n => n < b && (s.bank n).kind = .free)).length

/-- BANK_IDLE_RETENTION (R429). -/
def execBankIdleRetention (b : BankId) (s : State) : Outcome State Fault Refusal :=
  if s.mayIdle b.toNat then .next (s.toRetention b.toNat) else .next s

/-- BANK_IDLE_FALLOW (R429). -/
def execBankIdleFallow (b : BankId) (s : State) : Outcome State Fault Refusal :=
  if s.mayIdle b.toNat then .next (s.toFallow b.toNat) else .next s

/-! Ports (R349 to R353). -/

/-- Priority number of a requester at a port (Table CST-4). -/
def portRank (port1 : Bool) : CWho → Option Nat
  | .feWrite => if port1 then none else some 1
  | .weightSluice => if port1 then none else some 2
  | .actSluice => if port1 then none else some 3
  | .tc _ => if port1 then some 3 else some 4
  | .mgmt => if port1 then none else some 5
  | .meshWrite => if port1 then some 1 else none
  | .meshRead => if port1 then some 2 else none
  | .march => if port1 then some 4 else none

def portCore : CWho → Nat
  | .tc n => n.toNat
  | _ => 0

/-- A write of only part of a code word, or an atomic access: two cycles, in which its entry is held (R352). -/
def twoCycles (r : CReq) : Bool := r.atomic || (match r.write with
  | some (_, be) => (List.range 4).any (fun w => be.extractLsb' (4 * w) 4 ≠ 0#4 && be.extractLsb' (4 * w) 4 ≠ 15#4)
  | none => false)

def writesEntry (r : CReq) : Bool := r.atomic || r.write.isSome

/-- The port that a waiting access competes on in a cycle: a Tender core's takes port 1 where a higher requester wants port 0. -/
def CWait.place (busy0 : Bool) (w : CWait) : CWait :=
  let p := match w.req.who with
    | .tc _ => busy0
    | q => (portRank false q).isNone
  if p = w.port1 then w else { w with port1 := p, stall := 0 }

/-- a takes their port before b: 32 stalled cycles first, then Table CST-4, then the lower core (R349, R350). -/
def CWait.before (a b : CWait) : Bool :=
  let x := decide (32 ≤ a.stall)
  let y := decide (32 ≤ b.stall)
  let p := (portRank a.port1 a.req.who).getD 9
  let q := (portRank b.port1 b.req.who).getD 9
  if x ≠ y then x else if p ≠ q then p < q else portCore a.req.who < portCore b.req.who

/-- The access that takes a port, where the port is not in the second cycle of one and its entry is not held from the other. -/
def portWinner (port1 : Bool) (second : List (Bool × CReq)) (l : List CWait) : Option CWait :=
  if second.any (fun x => x.1 = port1) then none
  else ((l.filter (fun w => w.port1 = port1)).foldl (fun (b : Option CWait) w => match b with
    | none => some w
    | some x => if w.before x then some w else some x) none).filter (fun w => !second.any (fun x => x.2.entry = w.req.entry))

/-- The winners of both ports: of two writes of one entry, a held one goes first and the other follows it (R353). -/
def portPair (a c : Option CWait) : List CWait :=
  match a, c with
  | some a, some c =>
    if a.req.entry = c.req.entry && writesEntry a.req && writesEntry c.req && (twoCycles a.req || twoCycles c.req) then (if twoCycles a.req then [a] else [c]) else [a, c]
  | some a, none => [a]
  | none, some c => [c]
  | none, none => []

/-- Bytes of an entry are written (R352, R355). -/
def State.writeEntry (b : Nat) (r : CReq) (s : State) : State :=
  match r.write with
  | none => s
  | some (d, be) =>
    let e := r.entry.toNat
    let s := forAll ((List.range 4).filter (fun w => be.extractLsb' (4 * w) 4 ≠ 0#4)) (fun w s =>
      s.wordWrite none (be.extractLsb' (4 * w) 4 = 15#4) (b * 131072 + 4 * e + w)) s
    s.modCst (fun c => { c with
      mem := forAll ((List.range 16).filter (fun i => be.getLsbD i)) (fun i m => mset (b * bankSize + 16 * e + i) (d.extractLsb' (8 * i) 8) m) c.mem })

/-- 16 bytes as one word, the first lowest. -/
def entryBits (l : List Byte) : W128 := l.foldr (fun b w => (w <<< 8) ||| b.setWidth 128) 0#128

/-- What an access reads of an entry: none where a word of it returns poison (R354, R355), or where it only writes. -/
def State.readEntry (b : Nat) (r : CReq) (s : State) : Option W128 × State :=
  let e := r.entry.toNat
  if !r.atomic && r.write.isSome then (none, s)
  else match s.cstReadAll none ((List.range 4).map (fun w => b * 131072 + 4 * e + w)) with
    | (true, s) => (some (entryBits (mread (b * bankSize + 16 * e) 16 s.cst.mem)), s)
    | (false, s) => (none, s)

def State.setPorts (b : Nat) (p : CPorts) (s : State) : State := s.modCst (fun c => { c with ports := tset {} b p c.ports })

/-- An access of bank b ends; an atomic one returns what its entry held. -/
def State.portEnds (b : BankId) (data : Option W128) (r : CReq) (s : State) : State :=
  let s := if r.atomic || r.write.isNone then s.emit (.cistern b r.id data) else s
  s.emit (.granted (.cistern b []) r.id)

/-- One fabric cycle of a bank's ports, with the accesses that arrive in it: both ports read an entry as it was before the cycle,
and of two whole-word writes of one entry port 0's bytes stand (R349 to R353). A bank that is not ON is woken (R356). -/
def State.portCycle (b : BankId) (arrive : List CReq) (s : State) : State :=
  let n := b.toNat
  let ps := tget {} n s.cst.ports
  let l := ps.wait ++ arrive.map (fun r => { req := r, port1 := false })
  if (s.bank n).ps ≠ .on then (s.wakeBank n).setPorts n { ps with wait := l }
  else
    let h := halfIdx (bankHalf n)
    let busy0 := l.any (fun w => match w.req.who with
      | .tc _ => false
      | q => (match portRank false q with
        | some k => k ≤ 3
        | none => false))
    let l := l.map (CWait.place busy0)
    let won := portPair (portWinner false ps.second l) (portWinner true ps.second l)
    let rest := (l.filter (fun w => !won.contains w)).map (fun w => { w with stall := w.stall + 1 })
    let now := won.filter (fun w => !twoCycles w.req)
    let ends := ps.second.map Prod.snd ++ now.map CWait.req
    let (data, s) := ends.foldl (fun (a : List (Option W128) × State) r =>
      let q := a.2.readEntry n r
      (a.1 ++ [q.1], q.2)) ([], s)
    let coll := now.length = 2 && (match now with
      | [a, c] => a.req.entry = c.req.entry && writesEntry a.req && writesEntry c.req
      | _ => false)
    let s := forAll ends.reverse (fun r s => s.writeEntry n r) s
    let s := forAll (ends.zip data) (fun x s => s.portEnds b x.2 x.1) s
    let s := (s.cntStw (Reg.CST_CONF + 4 * h) 31 0 rest.length).cntStw (Reg.CST_CONF1 + 4 * h) 31 16
      (won.filter (fun w => 32 ≤ w.stall)).length
    let s := if coll then s.cntStw (Reg.CST_CONF1 + 4 * h) 15 0 1 else s
    s.setPorts n { wait := rest, second := (won.filter (fun w => twoCycles w.req)).map (fun w => (w.port1, w.req)) }

/-- PORT_STARVE_OVERRIDE (R350): an access that has stalled 32 cycles on the port takes it. Where none that the model holds has,
it is another requester's: 32 stalled cycles and one override are counted. -/
def execPortStarveOverride (b : BankId) (port1 : Bool) (s : State) : Outcome State Fault Refusal :=
  let h := halfIdx (bankHalf b.toNat)
  .next (if (tget {} b.toNat s.cst.ports).wait.any (fun w => w.port1 = port1 && 32 ≤ w.stall) then s.portCycle b []
    else (s.cntStw (Reg.CST_CONF + 4 * h) 31 0 32).cntStw (Reg.CST_CONF1 + 4 * h) 31 16 1)

/-! March tests (R359 to R361). -/

def State.march (h : Half) (s : State) : Option March := match h with
  | .north => s.cst.marchN
  | .south => s.cst.marchS
def State.setMarch (h : Half) (m : Option March) (s : State) : State := match h with
  | .north => s.modCst (fun c => { c with marchN := m })
  | .south => s.modCst (fun c => { c with marchS := m })

def State.mstat (h : Half) (s : State) : W32 := s.stw (Reg.CST_MSTAT + 4 * halfIdx h)
def State.mstStatus (h : Half) (st : Status) (s : State) : State := s.modStw (Reg.CST_MSTAT + 4 * halfIdx h) (setBits 7 0 st.code)

def marchRange (first count : Nat) : List Nat := (List.range (max 1 count)).map (fun i => first + i)

/-- The order of R361 for a run over a range, denied where a bank breaks the run's rule. -/
def State.marchCheck (first count : Nat) (denied : Nat → Bool) (s : State) : Status :=
  let l := marchRange first count
  if s.conflict then .stewardConflict
  else if bit 31 (s.mstat (bankHalf first)) then .slotBusy
  else if l.any (fun b => b ≥ 512 || bankHalf b ≠ bankHalf first) then .badDescriptor
  else if l.any denied then .permission
  else .ok

/-- Start a run: BUSY is set, and it asks the maintenance arbiter. -/
def State.startMarch (m : March) (s : State) : State :=
  let h := bankHalf m.first
  ((s.setMarch h (some m)).modStw (Reg.CST_MSTAT + 4 * halfIdx h) (fun w => setBit 31 true (setBits 7 0 0 w))).maintAsk 5
    ((marchRange m.first m.count).map scBank) (halfIdx h)

/-- MARCH_DESTRUCTIVE (R359, R361). -/
def execMarchDestructive (first : BankId) (count : BitVec 9) (bg : BitVec 4) (s : State) : Outcome State Fault Refusal :=
  let f := first.toNat
  match s.marchCheck f count.toNat (fun b => !((s.bank b).kind = .free || (s.bank b).kind = .retired)) with
  | .ok =>
    .next ((forAll (marchRange f count.toNat) (fun b s => s.modBank b (fun k => { k with kind := .test, before := k.kind })) s).startMarch
      { destructive := true, first := f, count := max 1 count.toNat, bg := if bg = 0#4 then 0xF#4 else bg })
  | st => .next (s.mstStatus (bankHalf f) st)

/-- MARCH_PRESERVING (R360, R361). -/
def execMarchPreserving (first : BankId) (count : BitVec 9) (s : State) : Outcome State Fault Refusal :=
  let f := first.toNat
  match s.marchCheck f count.toNat (fun b => (s.bank b).ps ≠ .on || (s.bank b).kind = .test) with
  | .ok => .next (s.startMarch { destructive := false, first := f, count := max 1 count.toNat, bg := 0#4 })
  | st => .next (s.mstStatus (bankHalf f) st)

/-- A TEST bank returns zero-filled to its earlier kind; a FREE bank that failed is RETIRED (R359). -/
def State.endTest (b : Nat) (res : Option Bool) (s : State) : State :=
  (s.zeroBank b).modBank b (fun k => { k with
    kind := if res = some false then .retired else k.before, ps := .on, before := .free, mpass := res.getD k.mpass })

/-- MARCH_ABORT (R361): TEST banks return as if they had passed, with MPASS unchanged. -/
def execMarchAbort (h : Half) (s : State) : Outcome State Fault Refusal :=
  if s.conflict then .next (s.mstStatus h .stewardConflict)
  else match s.march h with
    | none => .next (s.mstStatus h .ok)
    | some m =>
      let s := if m.destructive then forAll (marchRange m.first m.count) (fun b s => s.endTest b none) s else s
      .next ((((s.setMarch h none).modStw (Reg.CST_MSTAT + 4 * halfIdx h) (fun w => setBit 31 false (setBits 7 0 0 w))).maintEnd 5
        (halfIdx h)).retryAllot)

/-- MARCH_DONE (R359, R360): the banks of failed failed; fail0 and fail1 describe the first failure, and where another bank
failed is free (log 91). -/
def execMarchDone (h : Half) (failed : List Nat) (fail0 fail1 : W32) (s : State) : Outcome State Fault Refusal :=
  match s.march h with
  | none => .next s
  | some m =>
    if !s.holdsGrant 5 (halfIdx h) then .next s
    else
      let l := marchRange m.first m.count
      let bad := l.filter (fun b => failed.contains b)
      let s := forAll bad (fun b s =>
        let at_ : W32 × W32 := if b = bits 31 23 fail0 then (fail0, fail1)
          else ((Config.freeBits s.freeCtr).setWidth 32, (Config.freeBits (s.freeCtr + 1)).setWidth 32)
        let r : Rec := { typ := 0x12, sev := 2, unit := unitNo 2 b, loc := locCst (bits 22 8 at_.1), aux0 := bits 7 0 at_.1, aux1 := bits 31 28 at_.2 }
        let s := s.tickFree.tickFree.logRec r
        if m.destructive && (s.bank b).before = .free then s.fmHealth r else s) s
      let s := if m.destructive then forAll l (fun b s => s.endTest b (some (!failed.contains b))) s else s
      let s := s.setStw (Reg.CST_MSTAT + 4 * halfIdx h) (at32 30 (b2n (bad = [])) ||| at32 12 bad.length)
      let s := if bad = [] then s
        else (s.setStw (Reg.CST_MFAIL0 + 4 * halfIdx h) fail0).setStw (Reg.CST_MFAIL1 + 4 * halfIdx h) (fail1 &&& 0xFE000000#32)
      .next (((s.setMarch h none).maintEnd 5 (halfIdx h)).retryAllot)

end Sys2Proof.Machine
end

