-- ==== Sys2Proof/Machine/Numeric.lean ====
section
/-! DEFINITION. Number formats: exact values, decoding, narrowing by the rounding modes, MX quantization and FP32
arithmetic (spec/07_formats.md). -/

namespace Sys2Proof.Machine

/-- An element's exact value: NaN, an infinity, or ±m × 2^e with the sign of a zero kept (R163, R164). -/
inductive Num where
  | nan
  | inf (neg : Bool)
  | fin (neg : Bool) (m : Nat) (e : Int)
deriving DecidableEq, Repr

/-- A floating-point format: exponent and mantissa widths, bias, and its specials (Tables FMT-1, FMT-2). -/
structure FFmt where
  eb : Nat
  mb : Nat
  bias : Int
  /-- Largest finite magnitude code. -/
  maxCode : Nat
  hasInf : Bool
  /-- The NaN that the module writes, if the format has one. -/
  nanCode : Option Nat
deriving DecidableEq, Repr

def fp32F : FFmt := ⟨8, 23, 127, 0x7F7FFFFF, true, some 0x7FC00000⟩
def bf16F : FFmt := ⟨8, 7, 127, 0x7F7F, true, some 0x7FC0⟩
def fp16F : FFmt := ⟨5, 10, 15, 0x7BFF, true, some 0x7E00⟩
def e4m3F : FFmt := ⟨4, 3, 7, 0x7E, false, some 0x7F⟩
def e5m2F : FFmt := ⟨5, 2, 15, 0x7B, true, some 0x7F⟩
def e3m2F : FFmt := ⟨3, 2, 3, 0x1F, false, none⟩
def e2m3F : FFmt := ⟨2, 3, 1, 0x1F, false, none⟩
def e2m1F : FFmt := ⟨2, 1, 1, 0x7, false, none⟩

/-- Floating-point format of a code (R161). -/
def ffmtOf (code : Nat) : Option FFmt :=
  match code with
  | 0 => some fp32F
  | 1 => some bf16F
  | 2 => some fp16F
  | 3 => some e4m3F
  | 4 => some e5m2F
  | 5 => some e3m2F
  | 6 => some e2m3F
  | 7 => some e2m1F
  | _ => none

/-- Element width in bits (Table FMT-1); ternary has no whole width. -/
def fmtBits (code : Nat) : Nat :=
  match code with
  | 0 => 32
  | 1 => 16
  | 2 => 16
  | 3 => 8
  | 4 => 8
  | 5 => 6
  | 6 => 6
  | 7 => 4
  | 8 => 8
  | 9 => 4
  | 10 => 8
  | 11 => 4
  | _ => 8

/-- Codes 0x3 to 0x9 take MX scaling (Table FMT-1). -/
def fmtMx (code : Nat) : Bool := 3 ≤ code && code ≤ 9

/-- Decode a floating-point encoding (R163, R164). -/
def fdec (f : FFmt) (w : Nat) : Num :=
  let mag := w % 2 ^ (f.eb + f.mb)
  let neg := (w / 2 ^ (f.eb + f.mb)) % 2 = 1
  let e := mag / 2 ^ f.mb
  let m := mag % 2 ^ f.mb
  if mag > f.maxCode then
    if f.hasInf && m = 0 then .inf neg else .nan
  else if e = 0 then .fin neg m (1 - f.bias - f.mb)
  else .fin neg (2 ^ f.mb + m) ((e : Int) - f.bias - f.mb)

/-- Rounding modes of Table FMT-4. -/
inductive RMode where
  | rne
  | rtz
  | sr (r : W32)
deriving DecidableEq, Repr

/-- Whether m / 2^d, floor k, is rounded away from zero (R172, R173). -/
def roundUp (rm : RMode) (k rem d : Nat) : Bool :=
  match rm with
  | .rne => 2 * rem > 2 ^ d || (2 * rem = 2 ^ d && k % 2 = 1)
  | .rtz => false
  | .sr r => (if d ≤ 32 then rem * 2 ^ (32 - d) else rem / 2 ^ (d - 32)) > r.toNat

/-- m × 2^e in units of 2^q, rounded to a whole number of them. -/
def roundTo (rm : RMode) (m : Nat) (e q : Int) : Nat :=
  if q ≤ e then m * 2 ^ (e - q).toNat
  else
    let d := (q - e).toNat
    let k := m / 2 ^ d
    if roundUp rm k (m % 2 ^ d) d then k + 1 else k

/-- Exponent of the leading bit of m × 2^e. -/
def leadExp (m : Nat) (e : Int) : Int := (Nat.log2 m : Int) + e

/-- Rounded magnitude code of m × 2^e, before the check for overflow. -/
def magCode (f : FFmt) (rm : RMode) (m : Nat) (e : Int) : Nat :=
  if m = 0 then 0
  else
    let emin : Int := 1 - f.bias
    let el := max (leadExp m e) emin
    roundTo rm m e (el - f.mb) + (el - emin).toNat * 2 ^ f.mb

/-- What a conversion counts (Tables FMT-9, FMT-10). -/
structure Cnts where
  sat : Nat := 0
  nanq : Nat := 0
  nanlost : Nat := 0
  badtrit : Nat := 0
deriving DecidableEq, Repr

def Cnts.add (a b : Cnts) : Cnts := ⟨a.sat + b.sat, a.nanq + b.nanq, a.nanlost + b.nanlost, a.badtrit + b.badtrit⟩

def signCode (f : FFmt) (neg : Bool) (mag : Nat) : Nat := mag + (if neg then 2 ^ (f.eb + f.mb) else 0)

/-- Infinity's magnitude code. -/
def infCode (f : FFmt) : Nat := (2 ^ f.eb - 1) * 2 ^ f.mb

/-- Narrow to a floating-point format by Table FMT-5. code tells FP32 and BF16 from the others. -/
def fenc (code : Nat) (f : FFmt) (rm : RMode) (sat : Bool) (x : Num) : Nat × Cnts :=
  match x with
  | .nan => match f.nanCode with
    | some c => (c, {})
    | none => (0, { nanlost := 1 })
  | .inf neg =>
    if code ≤ 2 || code = 4 then (signCode f neg (infCode f), {})
    else if code = 3 then
      if sat then (signCode f neg f.maxCode, {}) else (0x7F, {})
    else (signCode f neg f.maxCode, { sat := 1 })
  | .fin neg m e =>
    let c := magCode f rm m e
    if c ≤ f.maxCode then (signCode f neg c, {})
    else if code ≤ 1 then
      match rm with
      | .rtz => (signCode f neg f.maxCode, {})
      | _ => (signCode f neg (infCode f), {})
    else if code = 2 || code = 4 then
      if sat then (signCode f neg f.maxCode, { sat := 1 }) else (signCode f neg (infCode f), {})
    else if code = 3 then
      if sat then (signCode f neg f.maxCode, { sat := 1 }) else (0x7F, {})
    else (signCode f neg f.maxCode, { sat := 1 })

/-- Two's complement of a magnitude in w bits. -/
def twosOf (w : Nat) (neg : Bool) (m : Nat) : Nat := if neg then (2 ^ w - m) % 2 ^ w else m

/-- Signed value of w-bit two's complement. -/
def sgnOf (w v : Nat) : Int := if v % 2 ^ w ≥ 2 ^ (w - 1) then ((v % 2 ^ w : Nat) : Int) - 2 ^ w else (v % 2 ^ w : Nat)

/-- Narrow to an integer of w bits in units of 2^(−frac) (R165, Table FMT-5). -/
def ienc (w frac : Nat) (rm : RMode) (x : Num) : Nat × Cnts :=
  match x with
  | .nan => (0, { nanlost := 1 })
  | .inf neg => (if neg then 2 ^ (w - 1) else 2 ^ (w - 1) - 1, { sat := 1 })
  | .fin neg m e =>
    let k := roundTo rm m e (-(frac : Int))
    let lim := if neg then 2 ^ (w - 1) else 2 ^ (w - 1) - 1
    if k ≤ lim then (twosOf w neg k, {}) else (twosOf w neg lim, { sat := 1 })

/-- Fraction bits of an integer element under scale layout 1 (R165). -/
def intFrac (code : Nat) (scaled : Bool) : Nat := if scaled then (if code = 8 then 6 else 2) else 0

/-- Encode one element into a target format 0x0 to 0x9 (R172, R175). -/
def encElem (code : Nat) (scaled : Bool) (rm : RMode) (sat : Bool) (x : Num) : Nat × Cnts :=
  match ffmtOf code with
  | some f => fenc code f rm sat x
  | none => ienc (fmtBits code) (intFrac code scaled) rm x

/-- Value of an element by R163 or R165, before its group scale. -/
def decElem (code : Nat) (scaled : Bool) (w : Nat) : Num :=
  match ffmtOf code with
  | some f => fdec f w
  | none =>
    let v := sgnOf (fmtBits code) w
    .fin (v < 0) v.natAbs (-(intFrac code scaled : Int))

/-- FP32 rounded to nearest even (R172). -/
def toF32 (x : Num) : W32 := BitVec.ofNat 32 (fenc 0 fp32F .rne true x).1

def f32 (w : W32) : Num := fdec fp32F w.toNat

/-- Value times 2^k. -/
def Num.scale (k : Int) : Num → Num
  | .fin n m e => .fin n m (e + k)
  | x => x

/-- A scaled element as the FP32 value that a unit holds (R168, R169). -/
def decScaled (code : Nat) (scale : Option Nat) (w : Nat) : W32 :=
  match scale with
  | none => toF32 (decElem code false w)
  | some 0xFF => 0x7FC00000#32
  | some e => toF32 ((decElem code true w).scale ((e : Int) - 127))

/-- Trit k of a ternary byte: 0, +1, −1 (R166). -/
def tritOf (b k : Nat) : Num :=
  match (b / 3 ^ k) % 3 with
  | 0 => .fin false 0 0
  | 1 => .fin false 1 0
  | _ => .fin true 1 0

/-- Ternary element k of bytes; an invalid byte is five zeros, counted (R166). -/
def decTrits (bs : List Byte) : List W32 × Nat :=
  ((bs.map (fun b => if b.toNat ≥ 243 then List.replicate 5 0#32 else (List.range 5).map (fun k => toF32 (tritOf b.toNat k)))).flatten,
   (bs.filter (fun b => b.toNat ≥ 243)).length)

/-- Larger magnitude of two finite numbers. -/
def magLe : Num → Num → Bool
  | .fin _ m e, .fin _ n g => if e ≤ g then m ≤ n * 2 ^ (g - e).toNat else m * 2 ^ (e - g).toNat ≤ n
  | _, _ => false

def Num.isFin : Num → Bool
  | .fin _ _ _ => true
  | _ => false

/-- Exponent of a format's largest finite value (section Quantizing to an MX format). -/
def emaxOf (code : Nat) : Int :=
  match code with
  | 3 => 8
  | 4 => 15
  | 5 => 4
  | 6 => 2
  | 7 => 2
  | _ => 0

/-- Whether a value lies beyond the largest value of an MX target before it is rounded (R171). -/
def mxExceeds (code : Nat) : Num → Bool
  | .fin n m e => match ffmtOf code with
    | some f => !magLe (.fin n m e) (fdec f f.maxCode)
    | none => !magLe (.fin n m e) (.fin n (if n then 2 ^ (fmtBits code - 1) else 2 ^ (fmtBits code - 1) - 1) (-(intFrac code true : Int)))
  | _ => false

/-- Quantize one group by the pseudocode of R171: the scale byte, the element codes, and the counts. rms gives the
rounding of each element. A scaled value beyond the target's largest counts as SATURATED, also where it rounds to that
largest value (R171 and its example; log 31). -/
def mxQuantize (x : List Num) (code : Nat) (rms : List RMode) : Nat × List Nat × Cnts :=
  if x.any (fun a => !a.isFin) then (0xFF, x.map (fun _ => 0), { nanq := 1 })
  else
    let amax := x.foldl (fun a b => if magLe a b then b else a) (.fin false 0 0)
    let se : Int := match amax with
      | .fin _ m e => if m = 0 then 0 else max (-127) (min 127 (leadExp m e - emaxOf code))
      | _ => 0
    let ys := x.map (Num.scale (-se))
    ((se + 127).toNat, (ys.zip rms).map (fun p => (encElem code true p.2 true p.1).1),
      { sat := (ys.filter (mxExceeds code)).length })

/-- The random word of stochastic rounding (R173). -/
def srBits (seed : W32) (tag seq : Nat) (blk : Nat) (idx : Nat) : W32 :=
  let x := seed ^^^ BitVec.ofNat 32 (tag % 65536 * 65536 + seq % 65536)
  let x := (x * 0x9E3779B1#32) ^^^ BitVec.ofNat 32 blk
  let x := (x * 0x85EBCA6B#32) ^^^ BitVec.ofNat 32 (idx % 65536)
  let x := x ^^^ (x >>> 15)
  let x := x * 0x2C1B3C6D#32
  let x := x ^^^ (x >>> 12)
  let x := x * 0x297A2D39#32
  x ^^^ (x >>> 15)

/-- A mode number with its random word (Table FMT-4). -/
def rmodeOf (n : Nat) (r : W32) : RMode :=
  match n with
  | 1 => .rtz
  | 2 => .sr r
  | _ => .rne

/-! FP32 arithmetic, rounded to nearest even (R172). -/

def negN : Num → Num
  | .nan => .nan
  | .inf n => .inf (!n)
  | .fin n m e => .fin (!n) m e

def mulN : Num → Num → Num
  | .nan, _ => .nan
  | _, .nan => .nan
  | .inf a, .inf b => .inf (a != b)
  | .inf a, .fin b m _ => if m = 0 then .nan else .inf (a != b)
  | .fin a m _, .inf b => if m = 0 then .nan else .inf (a != b)
  | .fin a m e, .fin b n g => .fin (a != b) (m * n) (e + g)

/-- A signed sum of two aligned magnitudes; an exact zero of unlike signs is +0. -/
def addAligned (a : Bool) (m : Nat) (b : Bool) (n : Nat) (e : Int) : Num :=
  if a = b then .fin a (m + n) e
  else if m = n then .fin false 0 e
  else if m > n then .fin a (m - n) e
  else .fin b (n - m) e

def addN : Num → Num → Num
  | .nan, _ => .nan
  | _, .nan => .nan
  | .inf a, .inf b => if a = b then .inf a else .nan
  | .inf a, .fin _ _ _ => .inf a
  | .fin _ _ _, .inf b => .inf b
  | .fin a m e, .fin b n g =>
    if e ≤ g then addAligned a m b (n * 2 ^ (g - e).toNat) e
    else addAligned a (m * 2 ^ (e - g).toNat) b n g

def fadd (a b : W32) : W32 := toF32 (addN (f32 a) (f32 b))
def fsub (a b : W32) : W32 := toF32 (addN (f32 a) (negN (f32 b)))
def fmul (a b : W32) : W32 := toF32 (mulN (f32 a) (f32 b))
/-- a × b + c with one rounding. -/
def ffma (a b c : W32) : W32 := toF32 (addN (mulN (f32 a) (f32 b)) (f32 c))

/-- Quotient with a sticky last bit, exact enough to round once to any format here. -/
def divN : Num → Num → Num
  | .nan, _ => .nan
  | _, .nan => .nan
  | .inf _, .inf _ => .nan
  | .inf a, .fin b _ _ => .inf (a != b)
  | .fin a _ _, .inf b => .fin (a != b) 0 0
  | .fin a m e, .fin b n g =>
    if n = 0 then (if m = 0 then .nan else .inf (a != b))
    else
      let k := 64 + Nat.log2 n
      let q := m * 2 ^ k / n
      let st := if m * 2 ^ k % n = 0 then 0 else 1
      .fin (a != b) (2 * q + st) (e - g - k - 1)

/-- Order of two numbers that are no NaN: −1, 0, 1. Zeros of either sign are equal. -/
def cmpN : Num → Num → Option Int
  | .nan, _ => none
  | _, .nan => none
  | a, b =>
    match addN a (negN b) with
    | .nan => some 0
    | .inf n => some (if n then -1 else 1)
    | .fin n m _ => some (if m = 0 then 0 else if n then -1 else 1)

/-- A BF16 value widened to FP32. -/
def bf16to32 (w : Nat) : W32 := toF32 (fdec bf16F w)

/-- Move an FP32 encoding that is no NaN by k units in the last place along the order of values, at most to infinity. -/
def ulpMove (w : W32) (k : Int) : W32 :=
  if k = 0 then w
  else
    let mag : Nat := w.toNat % 2 ^ 31
    let v : Int := if bit 31 w then -(Int.ofNat mag) else Int.ofNat mag
    let r := v + k
    BitVec.ofNat 32 (min r.natAbs 0x7F800000 + (if r < 0 then 2147483648 else 0))

/-- A function's result: its correctly rounded value, moved by the at most 2 units in the last place that n chooses
(R187, R211; log 9). -/
def within2 (n : Nat) (w : W32) : W32 := ulpMove w ((n % 5 : Nat) - 2)

/-! EXP, TANH, SILU and GELU by fixed-point arithmetic with 640 fraction bits, far beyond what correct rounding to FP32
needs. -/

def fxOne : Nat := 2 ^ 640

/-- A number of at least 2^-149 in magnitude, or 0, in units of 2^-640. -/
def fxOf (n : Bool) (m : Nat) (e : Int) : Int := (if n then -1 else 1) * ((m * 2 ^ (640 + e).toNat : Nat) : Int)

/-- The exponential series of y in nested form, f terms from term i down. -/
def expSeries (y : Int) : Nat → Nat → Int → Int
  | 0, _, acc => acc
  | f + 1, i, acc => expSeries y f (i - 1) (fxOne + acc * y / (i * fxOne : Nat))

def sqTimes : Nat → Int → Int
  | 0, v => v
  | f + 1, v => sqTimes f (v * v / fxOne)

/-- e^z for a z of magnitude below 512: the series at z / 2^16, squared 16 times. -/
def fxExp (z : Int) : Nat := (sqTimes 16 (expSeries (z / 65536) 80 80 fxOne)).toNat

/-- e^x, correctly rounded. -/
def expRnd (n : Bool) (m : Nat) (e : Int) : W32 :=
  if m ≠ 0 ∧ 7 ≤ leadExp m e then (if n then 0#32 else 0x7F800000#32)
  else toF32 (.fin false (fxExp (fxOf n m e)) (-640))

/-- tanh x = (e^2x - 1) / (e^2x + 1), correctly rounded. -/
def tanhRnd (n : Bool) (m : Nat) (e : Int) : W32 :=
  if m ≠ 0 ∧ 6 ≤ leadExp m e then (if n then 0xBF800000#32 else 0x3F800000#32)
  else
    let x : Nat := fxExp (2 * fxOf n m e)
    toF32 (divN (.fin n ((x : Int) - fxOne).natAbs (-640)) (.fin false (x + fxOne) (-640)))

/-- x / (1 + e^-t), correctly rounded, t in units of 2^-640. -/
def sigTimes (n : Bool) (m : Nat) (e : Int) (t : Int) : W32 :=
  if 256 * fxOne ≤ t then toF32 (.fin n m e)
  else if t ≤ -(256 * fxOne : Int) then 0x80000000#32
  else toF32 (divN (.fin n m e) (.fin false (fxOne + fxExp (-t)) (-640)))

/-- SILU of Table FLE-3, correctly rounded. -/
def siluRnd (n : Bool) (m : Nat) (e : Int) : W32 :=
  if m ≠ 0 ∧ 9 ≤ leadExp m e then (if n then 0x80000000#32 else toF32 (.fin n m e))
  else sigTimes n m e (fxOf n m e)

/-- GELU of Table FLE-3, correctly rounded: 0.5x(1 + tanh u) is x / (1 + e^-2u). -/
def geluRnd (n : Bool) (m : Nat) (e : Int) : W32 :=
  if m ≠ 0 ∧ 6 ≤ leadExp m e then (if n then 0x80000000#32 else toF32 (.fin n m e))
  else
    let x := fxOf n m e
    let u := 797884561 * (x + 44715 * (x * x * x) / (1000000 * (fxOne * fxOne) : Nat)) / 1000000000
    sigTimes n m e (2 * u)

end Sys2Proof.Machine
end

