-- ==== Sys2Proof/Machine/Codec.lean ====
section
/-! DEFINITION. Lossless compression: check values, block headers, coded streams, decode tables and the built-in table
(spec/06_compression.md). -/

namespace Sys2Proof.Machine

/-! CRC-32C (R134). -/

def crcBit (c : W32) : W32 := if c.getLsbD 0 then (c >>> 1) ^^^ 0x82F63B78#32 else c >>> 1

def crcByte (c : W32) (b : Byte) : W32 :=
  let c := c ^^^ b.setWidth 32
  crcBit (crcBit (crcBit (crcBit (crcBit (crcBit (crcBit (crcBit c)))))))

/-- CRC-32C of bytes, continued from a running value. -/
def crcRun (c : W32) (l : List Byte) : W32 := l.foldl crcByte c

def crc32c (l : List Byte) : W32 := ~~~(crcRun 0xFFFFFFFF#32 l)

/-! Formats in blocks (Table CMP-2). -/

/-- Element count, and the widths of the S, E and M planes. -/
def planeRow (code : Nat) : Nat × Nat × Nat × Nat :=
  match code with
  | 0 => (1024, 1, 8, 23)
  | 1 => (2048, 1, 8, 7)
  | 2 => (2048, 1, 5, 10)
  | 3 => (4096, 1, 4, 3)
  | 4 => (4096, 1, 5, 2)
  | 5 => (5440, 1, 3, 2)
  | 6 => (5440, 1, 2, 3)
  | 7 => (8192, 1, 2, 1)
  | 8 => (4096, 0, 4, 4)
  | 9 => (8192, 0, 4, 0)
  | 10 => (4096, 0, 8, 0)
  | 11 => (8192, 0, 4, 0)
  | _ => (0, 0, 0, 0)

/-- Elements of a block as a consumer counts them: 20,480 trits for ternary (R166). -/
def blockElems (code : Nat) : Nat := if code = 10 then 20480 else (planeRow code).1

/-- Groups of 32, and so scales, of a block. -/
def groupsOf (code : Nat) : Nat := (planeRow code).1 / 32

/-- Appendix length by layout. -/
def appLen (code lay : Nat) : Nat :=
  if lay = 1 then groupsOf code else if lay = 2 then 32 else 0

/-- Layout valid with a format (section Expanded contents). -/
def layOk (code lay : Nat) : Bool :=
  code ≤ 11 && ((lay = 0 && code ≠ 11) || (lay = 1 && fmtMx code) || (lay = 2 && code = 11))

/-- Scale stride of Table CMP-2; 0 of a format that has none there, so that a scale window of it covers no plot (DESIGN CHOICE,
log 83). -/
def strideOf (code : Nat) : Nat :=
  match code with
  | 3 => 128
  | 4 => 128
  | 8 => 128
  | 5 => 256
  | 6 => 256
  | 7 => 256
  | 9 => 256
  | 11 => 32
  | _ => 0

/-! Decode tables (R149). -/

/-- An entry of a sub-table (Table CMP-10). -/
structure TEnt where
  sym : Nat
  nb : Nat
  base : Nat
deriving DecidableEq, Repr

/-- A sub-table with its L. -/
structure SubTab where
  log : Nat
  ents : List TEnt
deriving DecidableEq, Repr

def byteAt (l : List Byte) (i : Nat) : Nat := ((l[i]?).getD 0#8).toNat

/-- n bytes from offset i as a little-endian number. -/
def leAt (l : List Byte) (i n : Nat) : Nat := leNat ((l.drop i).take n)

def slice (l : List Byte) (i n : Nat) : List Byte := (l.drop i).take n

def allZero (l : List Byte) : Bool := l.all (fun b => b = 0#8)

def entOf (w : Nat) : TEnt := { sym := fld 31 23 w, nb := fld 22 19 w, base := fld 7 0 w }

/-- NSUB of an image. -/
def imgNsub (img : List Byte) : Nat := byteAt img 2 % 4
def imgLog (img : List Byte) (i : Nat) : Nat := byteAt img (8 + i)

/-- Sub-table i of an image, if present. -/
def subOf (img : List Byte) (i : Nat) : Option SubTab :=
  if i < imgNsub img then
    some { log := imgLog img i,
           ents := (List.range (2 ^ imgLog img i)).map (fun x => entOf (leAt img (64 + 1024 * i + 4 * x) 4)) }
  else none

def entOk (log w : Nat) : Bool :=
  fld 31 23 w ≤ 0x100 && fld 22 19 w ≤ log && fld 18 8 w = 0 && fld 7 0 w + 2 ^ fld 22 19 w ≤ 2 ^ log

/-- The image keeps the layout of Tables CMP-9 and CMP-10, CHECK apart (R149). -/
def tableImageOk (img : List Byte) : Bool :=
  img.length = 4096 && byteAt img 0 = 0x10 && byteAt img 2 ≤ 3 && byteAt img 3 = 0 &&
  allZero (slice img 11 53) && allZero (slice img 3136 960) &&
  (List.range 3).all (fun i =>
    if i < imgNsub img then
      5 ≤ imgLog img i && imgLog img i ≤ 8 &&
      (List.range (2 ^ imgLog img i)).all (fun x => entOk (imgLog img i) (leAt img (64 + 1024 * i + 4 * x) 4)) &&
      allZero (slice img (64 + 1024 * i + 4 * 2 ^ imgLog img i) (1024 - 4 * 2 ^ imgLog img i))
    else imgLog img i = 0 && allZero (slice img (64 + 1024 * i) 1024))

def tableCheck (img : List Byte) : W32 := BitVec.ofNat 32 (leAt img 4 4)
def tableCheckOk (img : List Byte) : Bool := crc32c (img.drop 64) = tableCheck img

/-! The built-in table (R463). -/

def builtinCnt (i : Nat) : List Nat :=
  if i = 0 then [24, 8, 6, 4, 3, 2, 2, 2, 2, 2, 1, 1, 1, 1, 2, 2, 1]
  else [13, 6, 3, 2, 2, 2, 2, 1, 1, 2, 2, 2, 2, 3, 6, 14, 1]

/-- Occurrences of each symbol in spread order: element i goes to state 43 × i mod 64. -/
def spread (cnt : List Nat) : List Nat := ((List.range 17).map (fun s => List.replicate ((cnt[s]?).getD 0) s)).flatten

/-- Symbol index of a state: the occurrence i with 43 × i ≡ x; 3 × 43 = 129 ≡ 1, so i ≡ 3 × x (mod 64). -/
def symAt (cnt : List Nat) (x : Nat) : Nat := ((spread cnt)[3 * x % 64]?).getD 0

/-- Entries in ascending states with next, the next occurrence number of each symbol. -/
def buildEnts (cnt : List Nat) : List Nat → List Nat → List TEnt
  | [], _ => []
  | x :: xs, next =>
    let i := symAt cnt x
    let k := (next[i]?).getD 0
    let nb := 6 - Nat.log2 k
    { sym := if i < 16 then i else 0x100, nb := nb, base := k * 2 ^ nb - 64 } :: buildEnts cnt xs (next.set i (k + 1))

def builtinSub (i : Nat) : SubTab := { log := 6, ents := buildEnts (builtinCnt i) (List.range 64) (builtinCnt i) }

def entBytes (e : TEnt) : List Byte := leBytes 4 (e.sym * 2 ^ 23 + e.nb * 2 ^ 19 + e.base)

/-- Bytes 64 to 4,095 of the built-in image. -/
def builtinBody : List Byte :=
  ((builtinSub 0).ents.map entBytes).flatten ++ List.replicate 768 0#8 ++
  ((builtinSub 1).ents.map entBytes).flatten ++ List.replicate (4032 - 1024 - 256) 0#8

def builtinImage : List Byte :=
  [0x10#8, 0#8, 2#8, 0#8] ++ leBytes 4 (crc32c builtinBody).toNat ++ [6#8, 6#8, 0#8] ++ List.replicate 53 0#8 ++ builtinBody

/-! Coded streams (R146). -/

/-- A directory entry (Table CMP-6). -/
structure DirEnt where
  method : Nat
  subt : Nat
  rsvd : Nat
  const : Nat
  plen : Nat
deriving DecidableEq, Repr

def dirOf (w : Nat) : DirEnt :=
  { method := fld 31 30 w, subt := fld 29 28 w, rsvd := fld 27 24 w, const := fld 23 16 w, plen := fld 15 0 w }

/-- A plane to decode: E plane or not, count, width, its directory entry and its bytes. -/
structure PlaneIn where
  isE : Bool
  count : Nat
  width : Nat
  dir : DirEnt
  src : List Byte
deriving DecidableEq, Repr

/-- Read w bits at a position of n bits held in v; bits past the end are free. -/
def readBits (v n pos w : Nat) : Nat :=
  if pos + w ≤ n then (v / 2 ^ pos) % 2 ^ w
  else
    let have_ := n - pos
    ((v / 2 ^ pos) % 2 ^ have_ + Config.shortBits pos * 2 ^ have_) % 2 ^ w

/-- Run-length tokens: fuel is the number of values still to come. -/
def decRle (v n w : Nat) : Nat → Nat → Nat → List Nat → Except Status (List Nat)
  | 0, _, _, acc => .ok acc
  | f + 1, pos, left, acc =>
    if left = 0 then .ok acc
    else if pos > n then .error .expandUnderrun
    else
      let x := readBits v n pos w
      let r := readBits v n (pos + w) 8 + 1
      if r > left then .error .expandOverrun
      else decRle v n w f (pos + w + 8) (left - r) (acc ++ List.replicate r x)

/-- tANS symbols from state x; answers the values and the position reached. -/
def decTans (t : SubTab) (v n w : Nat) : Nat → Nat → Nat → List Nat → Except Status (List Nat × Nat)
  | 0, pos, _, acc => .ok (acc.reverse, pos)
  | f + 1, pos, x, acc =>
    let e := (t.ents[x]?).getD { sym := 0x1FF, nb := 0, base := 0 }
    if e.sym = 0x100 then
      let lit := readBits v n pos w
      let pos := pos + w
      if f = 0 then .ok ((lit :: acc).reverse, pos)
      else decTans t v n w f (pos + e.nb) (e.base + readBits v n pos e.nb) (lit :: acc)
    else if e.sym ≥ 2 ^ w then .error .expandUnderrun
    else if f = 0 then .ok ((e.sym :: acc).reverse, pos)
    else decTans t v n w f (pos + e.nb) (e.base + readBits v n pos e.nb) (e.sym :: acc)

/-- The values of one plane (decode_plane). -/
def decodePlane (p : PlaneIn) (subs : Nat → Option SubTab) : Except Status (List Nat) :=
  let v := leNat p.src
  let n := 8 * p.src.length
  let w := p.width
  match p.dir.method with
  | 0 => if p.count * w ≤ n then .ok ((List.range p.count).map (fun i => (v / 2 ^ (w * i)) % 2 ^ w)) else .error .expandUnderrun
  | 1 =>
    match decRle v n w (p.count + 1) 0 p.count [] with
    | .error e => .error e
    | .ok l => if l.length < p.count then .error .expandUnderrun else
        -- a token read past the end makes the read short
        if rleShort v n w p.count then .error .expandUnderrun else .ok l
  | 2 =>
    match subs p.dir.subt with
    | none => .error .expandUnderrun
    | some t =>
      match decTans t v n w p.count t.log (readBits v n 0 t.log) [] with
      | .error e => .error e
      | .ok (l, pos) => if pos > n then .error .expandUnderrun else .ok l
  | _ => .ok (List.replicate p.count (p.dir.const % 2 ^ w))
where
  /-- Whether the tokens of count values pass the end of n bits. -/
  rleShort (v n w count : Nat) : Bool := rleShortAux v n w (count + 1) 0 count
  rleShortAux (v n w : Nat) : Nat → Nat → Nat → Bool
    | 0, pos, _ => pos > n
    | f + 1, pos, left =>
      if left = 0 then pos > n
      else if pos > n then true
      else rleShortAux v n w f (pos + w + 8) (left - (readBits v n (pos + w) 8 + 1))

/-- Cut the planes out of a stream: kinds with (isE, count, width) in order, the directory at dirAt, data from at. -/
def cutPlanes (s : List Byte) (hasTab : Bool) : List (Bool × Nat × Nat) → Nat → Nat → Except Status (List PlaneIn)
  | [], _, _ => .ok []
  | (isE, cnt, w) :: r, dirAt, pos =>
    let d := dirOf (leAt s dirAt 4)
    if d.rsvd ≠ 0 || d.subt = 3 then .error .expandUnderrun
    else if (d.method ≠ 2 && d.subt ≠ 0) || (d.method ≠ 3 && d.const ≠ 0) || (d.method = 3 && d.plen ≠ 0) then
      .error .expandUnderrun
    else if d.method = 2 && (!isE || !hasTab) then .error .expandUnderrun
    else if pos + d.plen > s.length then .error .expandUnderrun
    else
      match cutPlanes s hasTab r (dirAt + 4) (pos + d.plen) with
      | .error e => .error e
      | .ok l => .ok ({ isE := isE, count := cnt, width := w, dir := d, src := slice s pos d.plen } :: l)

def decodeAll (subs : Nat → Option SubTab) : List PlaneIn → Except Status (List (List Nat))
  | [] => .ok []
  | p :: r => match decodePlane p subs with
    | .error e => .error e
    | .ok v => match decodeAll subs r with
      | .error e => .error e
      | .ok l => .ok (v :: l)

/-- Pack values of w bits least significant first into n bytes (R133). -/
def packBits (w n : Nat) (vals : List Nat) : List Byte := leBytes n (vals.foldr (fun v acc => v % 2 ^ w + acc * 2 ^ w) 0)

/-- Split bytes into elements of w bits (R133). -/
def unpackBits (w cnt : Nat) (b : List Byte) : List Nat :=
  let v := leNat b
  (List.range cnt).map (fun i => (v / 2 ^ (w * i)) % 2 ^ w)

/-- Present planes of a format and layout, S, E, M then X. -/
def planesOf (code lay : Nat) : List (Bool × Nat × Nat) :=
  let (n, sw, ew, mw) := planeRow code
  (if sw > 0 then [(false, n, sw)] else []) ++ (if ew > 0 then [(true, n, ew)] else []) ++
  (if mw > 0 then [(false, n, mw)] else []) ++ (if appLen code lay > 0 then [(false, appLen code lay, 8)] else [])

/-- Payload and appendix from decoded planes (assemble). -/
def assembleBlk (code lay : Nat) (vals : List (List Nat)) : List Byte :=
  let (n, sw, ew, mw) := planeRow code
  let zeros := List.replicate n 0
  let sv := if sw > 0 then (vals[0]?).getD zeros else zeros
  let k := if sw > 0 then 1 else 0
  let ev := if ew > 0 then (vals[k]?).getD zeros else zeros
  let k := if ew > 0 then k + 1 else k
  let mv := if mw > 0 then (vals[k]?).getD zeros else zeros
  let k := if mw > 0 then k + 1 else k
  let app := if appLen code lay > 0 then (vals[k]?).getD [] else []
  let el := ((sv.zip ev).zip mv).map (fun q => q.1.1 * 2 ^ (ew + mw) + q.1.2 * 2 ^ mw + q.2)
  packBits (sw + ew + mw) 4096 el ++ app.map (fun v => BitVec.ofNat 8 v)

/-- Expand a stream by the pseudocode of R146. dirAt is 16 after a header, 0 in a footprint block. -/
def expandStream (s : List Byte) (dirAt xlen code lay : Nat) (tab : Option (Nat → Option SubTab)) :
    Except Status (List Byte) :=
  let pl := planesOf code lay
  match cutPlanes s tab.isSome pl dirAt (dirAt + 4 * pl.length) with
  | .error e => .error e
  | .ok ps =>
    match decodeAll (match tab with | some f => f | none => fun _ => none) ps with
    | .error e => .error e
    | .ok vals =>
      let out := assembleBlk code lay vals
      if out.length > xlen then .error .expandOverrun
      else if out.length < xlen then .error .expandUnderrun
      else .ok out

/-! Block headers and sector map entries (Tables CMP-3, CMP-4). -/

structure BHdr where
  ver : Nat
  mode : Nat
  fmt : Nat
  lay : Nat
  slot : Nat
  gen : Nat
  len : Nat
  xlen : Nat
  check : Nat
  tag : Nat
  rsvd : Bool
deriving DecidableEq, Repr

def hdrOf (b : List Byte) : BHdr :=
  { ver := byteAt b 0 / 16, mode := (byteAt b 0 / 4) % 4, fmt := byteAt b 1 / 16, lay := byteAt b 1 % 16,
    slot := byteAt b 2, gen := byteAt b 3, len := byteAt b 4 % 128, xlen := leAt b 5 2 % 8192, check := leAt b 8 4,
    tag := leAt b 12 4,
    rsvd := byteAt b 0 % 4 ≠ 0 || byteAt b 4 / 128 ≠ 0 || leAt b 5 2 / 8192 ≠ 0 || byteAt b 7 ≠ 0 }

/-- The header keeps Table CMP-3, whatever its MODE. -/
def hdrOk (h : BHdr) : Bool :=
  h.ver = 1 && !h.rsvd && layOk h.fmt h.lay && 1 ≤ h.xlen && (h.slot ≠ 0xFF || h.gen = 0) &&
  (match h.mode with
    | 0 => 1 ≤ h.len && h.len ≤ 63
    | 2 => 1 ≤ h.len && h.len ≤ 32 && h.slot = 0xFF && h.lay = 0
    | 3 => h.len = 64 && h.slot = 0xFF
    | _ => false)

structure SEnt where
  start : Nat
  len : Nat
  fmt : Nat
  lay : Nat
  xlen : Nat
  check : Nat
  tag : Nat
  rsvd : Bool
deriving DecidableEq, Repr

/-- Fields of a 16-byte sector map entry. -/
def sentOf (w : W128) : SEnt :=
  { start := bits 10 0 w, len := bits 22 16 w, fmt := bits 39 36 w, lay := bits 35 32 w, xlen := bits 52 40 w,
    check := bits 95 64 w, tag := bits 127 96 w,
    rsvd := bits 15 11 w ≠ 0 || bit 23 w || bits 31 24 w ≠ 0 || bits 55 53 w ≠ 0 || bits 63 56 w ≠ 0 }

/-- Sectors that a present block takes (R137). -/
def sentSectors (e : SEnt) : Nat := if e.len = 64 then 64 + ceilDiv (appLen e.fmt e.lay) 64 else e.len

/-- An entry keeps R136: absent all zero; coded with bytes 4 to 15 zero; raw with a valid format. -/
def sentOk (w : W128) : Bool :=
  let e := sentOf w
  if e.len = 0 then w = 0#128
  else !e.rsvd && (if e.len = 64 then layOk e.fmt e.lay && e.xlen = 4096 + appLen e.fmt e.lay
                   else e.len ≤ 63 && bits 127 32 w = 0)

/-- Blocks follow one another from sector 0 and fill the area exactly (R137). -/
def sentChain : List W128 → Nat → Option Nat
  | [], at_ => some at_
  | w :: r, at_ =>
    let e := sentOf w
    if e.len = 0 then sentChain r at_
    else if e.start = at_ then sentChain r (at_ + sentSectors e) else none

/-! Side-map entries (Table CMP-5). -/

structure Side where
  len : Nat
  fmt : Nat
  part : Bool
  check : Nat
deriving DecidableEq, Repr

def sideOf (w : W64) : Side :=
  { len := bits 6 0 w, fmt := bits 15 12 w, part := bit 11 w, check := bits 47 16 w }

def sideWord (e : Side) : W64 :=
  BitVec.ofNat 64 (e.len % 128 + (e.fmt % 16) * 2 ^ 12 + b2n e.part * 2 ^ 11 + (e.check % 2 ^ 32) * 2 ^ 16)

end Sys2Proof.Machine
end

