-- ==== Sys2Proof/Machine/Weir.lean ====
section
/-! DEFINITION. Headgates and Weirs: priority steps, admission, charges, latencies and DevLoad
(spec/12_regulation.md). -/

namespace Sys2Proof.Machine

/-- Step floor of an urgency level (Table HGT-6). -/
def urgFloor (l : Nat) : Nat :=
  match l with
  | 0 => 0
  | 1 => 3
  | 2 => 5
  | _ => 7

/-- The port whose pins and link a head uses: the even port of a bonded pair (R27). -/
def State.headPort (p : Nat) (s : State) : Nat := if p % 2 = 1 && (s.port (p - 1)).bonded then p - 1 else p

/-- The pin level in force of a port (R313): 0 in RESET and TRAIN. -/
def State.pinLevel (p : Nat) (s : State) : Nat :=
  match (s.port p).st with
  | .reset => 0
  | .train => 0
  | _ => (tget 0#2 p s.pins.urg).toNat

/-- A tenant's urgency level (R312). -/
def State.urgLevel (t : Nat) (s : State) : Nat :=
  let c := s.stw (Reg.HGT_UCFG + 4 * t)
  let pin := if bit 3 c then s.pinLevel (s.headPort (tenantPort t)) else 0
  let ib := if bit 2 c then (s.hgOf t).uib.toNat else 0
  min (bits 1 0 c) (max pin ib)

/-- TARGET of a tenant's class (R301). -/
def State.target (t c : Nat) (s : State) : Nat := s.stwF (Reg.HGT_TGT + 32 * t + 4 * c) 23 0

/-- The priority step of an item (R302); the demoted rank is −1. -/
def State.prio (tenant cls stamp : Nat) (demoted unlabelled : Bool) (s : State) : Int :=
  if demoted then -1
  else if unlabelled then 7
  else
    let t := s.target tenant cls
    let st := if t = 0 then 0 else min 7 (8 * (s.now - stamp) / t)
    (max st (urgFloor (s.urgLevel tenant)) : Nat)

/-- BUDGET in force of a tenant's class. -/
def Hg.budget (h : Hg) (c : Nat) : Nat := tget 0 c h.bud
def Hg.usedOf (h : Hg) (c : Nat) : Nat := tget 0 c h.used

/-- What a Weir answers (R308). -/
inductive Admit where
  | pass
  | demote
  | hold
deriving DecidableEq, Repr

/-- The Weir's answer to a request of a class. -/
def Hg.ask (h : Hg) (c : Nat) : Admit :=
  if h.budget c = 0 || h.usedOf c < h.budget c then .pass else if bit c h.mode then .demote else .hold

def Hg.charge (h : Hg) (c units : Nat) : Hg := { h with used := tset 0 c (h.usedOf c + units) h.used }

/-- A shadow Headgate's admission while the bridge is down (R319). -/
def State.shadowAdmit (h : Half) (s : State) : State := s.cntStw (Reg.HGT_SSTAT + 4 * halfIdx h) 15 0 1

/-- Count n requests that the Weir held or demoted (HGT_MISS_c.HELD, R317 row 1). -/
def State.heldMark (t c n : Nat) (s : State) : State :=
  if n = 0 then s
  else (s.cntBar t (Reg.HGT_MISS + 4 * c) 15 0 n).modHg t (fun h => { h with heldCur := nins c h.heldCur })

/-- One labelled request of a tenant at its Headgate, charged if admitted (R307, R308). -/
def State.weirAdmit (t c units : Nat) (s : State) : Admit × State :=
  match (s.hgOf t).ask c with
  | .pass => (.pass, s.modHg t (fun h => h.charge c units))
  | a => (a, s.heldMark t c 1)

/-! Accesses of units (R307, R308). A unit's program that must wait starts again from its beginning; what its Headgate
admitted before stays admitted and is not charged again (log 25). -/

/-- How many accesses of a unit's program its Headgate has admitted. -/
def UnitAcc.paidOf (w : Reader) (a : UnitAcc) : Nat := ((a.paid.find? (fun e => decide (e.1 = w))).map Prod.snd).getD 0

/-- The next access of the program that runs, of a number of 64-byte units: hold where the Weir holds it. -/
def State.unitAdmit (w : Reader) (t c units : Nat) (s : State) : Admit × State :=
  let a := s.acc
  if a.seen < a.paidOf w then (.pass, { s with acc := { a with seen := a.seen + 1 } })
  else match (s.hgOf t).ask c with
    | .pass => (.pass, { s.modHg t (fun h => h.charge c units) with
        acc := { a with seen := a.seen + 1, charged := a.charged + units, last := false } })
    | .demote => (.demote, { s with acc := { a with seen := a.seen + 1, demoted := a.demoted + 1, last := true } })
    | .hold => (.hold, s)

/-- An access of the program that runs at a shadow Headgate, once. -/
def State.unitShadow (w : Reader) (h : Half) (s : State) : State :=
  let a := s.acc
  let s' : State := { s with acc := { a with seen := a.seen + 1 } }
  if a.seen < a.paidOf w then s' else s'.shadowAdmit h

/-- A unit's program has ended: its demoted accesses are counted (HGT_MISS_c.HELD). -/
def State.unitEnds (t c : Nat) (s : State) : State :=
  let n := s.acc.demoted
  ({ s with acc := { s.acc with seen := 0, charged := 0, demoted := 0, last := false } }).heldMark t c n

/-- A unit's program waits: the accesses that its Headgate admitted in this run, which ended in s', stay admitted. -/
def State.unitWaits (w : Reader) (t c : Nat) (s' s : State) : State :=
  let a := s'.acc
  let s := if a.charged = 0 then s else s.modHg t (fun h => h.charge c a.charged)
  let k := max a.seen (s.acc.paidOf w)
  ({ s with acc := { s.acc with seen := 0, charged := 0, demoted := 0, last := a.last,
                                paid := s.acc.paid.filter (fun (e : Reader × Nat) => decide (e.1 ≠ w)) ++ [(w, k)],
                                held := if a.charged + a.demoted = 0 then s.acc.held else s.acc.held.filter (fun r => decide (r ≠ w)) } }).heldMark t c a.demoted

/-- The next access of a unit's waiting program is held: counted once (HGT_MISS_c.HELD). -/
def State.unitHeld (w : Reader) (t c : Nat) (s : State) : State :=
  if s.acc.held.contains w then s
  else ({ s with acc := { s.acc with held := s.acc.held ++ [w] } }).heldMark t c 1

/-- DevLoad of a tenant's class (R317). -/
def State.devLoad (t c : Nat) (s : State) : Nat :=
  let h := s.hgOf t
  let g := s.target t c
  let l := tget 0 c h.maxPrev
  if nmem c h.heldPrev then 3
  else if g ≠ 0 && l ≥ g then 3
  else if g ≠ 0 && 2 * l ≥ g then 2
  else if g ≠ 0 && 8 * l ≥ g then 1
  else 0

/-- A host request of a class ends: its latency is recorded (R316). -/
def State.latency (t c stamp : Nat) (s : State) : State :=
  let l := min 0xFFFFFF (s.now - stamp)
  let s := s.modBar t (Reg.HGT_MAXLAT + 4 * c) (fun w => setBits 23 0 (max (bits 23 0 w) l) w)
  let s := if s.target t c ≠ 0 && l > s.target t c then s.cntBar t (Reg.HGT_MISS + 4 * c) 31 16 1 else s
  s.modHg t (fun h => { h with maxCur := tset 0 c (max l (tget 0 c h.maxCur)) h.maxCur })

/-- Latency records of a tenant cleared: a reset of its head or an FLR (R311). -/
def Hg.clearLat (h : Hg) : Hg := { h with maxPrev := [], maxCur := [], heldPrev := [], heldCur := [] }

end Sys2Proof.Machine
end

