-- ==== Sys2Proof/Machine/Views.lean ====
section
/-! DEFINITION. Where an address lies: home halves, views and buffers of shared regions, and scale windows
(R10, R16, R279, R157). -/

namespace Sys2Proof.Machine

/-- Exclusive-OR of the bits of a plot number below n. -/
def parityOf : Nat → Nat → Bool
  | 0, _ => false
  | n + 1, p => (p % 2 = 1) != parityOf n (p / 2)

/-- Home half of a plot (R10). -/
def homeHalf (plot : Nat) : Half := if parityOf 36 plot then .south else .north

/-- Fields of a UA (Table ARC-3). -/
def plotOf (ua : Nat) : Nat := ua / 65536 % 2 ^ 36
def blockOf (ua : Nat) : Nat := ua / 4096 % 16
def sectorOf (ua : Nat) : Nat := ua / 64 % 64
/-- Line number of a UA. -/
def lineOf (ua : Nat) : Nat := ua / 64 % 2 ^ 46

def Region.covers (g : Region) (p : Nat) : Bool := g.enabled && g.view ≤ p && p < g.view + g.size

/-- The enabled region whose view holds a plot. -/
def State.viewOf (p : Nat) (s : State) : Option (Nat × Region) := s.shr.regions.find? (fun e => e.2.covers p)

/-- Base plot of buffer b. -/
def Region.base (g : Region) (b : Nat) : Nat := tget 0 b g.bufs

/-- Buffers of a region: B0 to B(NBUF). -/
def Region.bufList (g : Region) : List Nat := List.range (g.nbuf + 1)

/-- The enabled region and the buffer that a plot lies in. -/
def State.bufferOf (p : Nat) (s : State) : Option (Nat × Region × Nat) :=
  s.shr.regions.findSome? (fun e =>
    if e.2.enabled then
      (e.2.bufList.find? (fun b => e.2.base b ≤ p && p < e.2.base b + e.2.size)).map (fun b => (e.1, e.2, b))
    else none)

/-- The buffer that a tenant's accesses through the view go to (R279). -/
def Region.bufFor (g : Region) (t : Nat) : Nat :=
  match g.pins.find? (fun p => p.tenant = t) with
  | some p => p.buf
  | none => g.cur

/-- A plot named for a tenant, resolved through an enabled view (R279). -/
def State.resolvePlot (t p : Nat) (s : State) : Nat :=
  match s.viewOf p with
  | some (_, g) => g.base (g.bufFor t) + (p - g.view)
  | none => p

/-- The tenant's pin names a buffer that is not CURRENT (R289). -/
def Region.pinnedOld (t : Nat) (g : Region) : Bool := g.pins.any (fun p => p.tenant = t && p.buf ≠ g.cur)

/-- A view under publication, for a tenant with no pin on the CURRENT buffer (R291). -/
def Region.holdsBack (t : Nat) (g : Region) : Bool := g.pub.isSome && !g.pins.any (fun p => p.tenant = t && p.buf = g.cur)

/-- What names the plot for the tenant waits at resolution: its view is under publication (R291). -/
def State.viewHeld (t p : Nat) (s : State) : Bool :=
  match s.viewOf p with
  | some (_, g) => g.holdsBack t
  | none => false

/-- The buffer is CURRENT or pinned (R280). -/
def Region.bufHeld (g : Region) (b : Nat) : Bool := g.cur = b || g.pins.any (fun p => p.buf = b)

/-! Scale windows (R157). -/

/-- A scale window's registers. -/
structure SWin where
  enable : Bool
  fmt : Nat
  lay : Nat
  payload : Nat
  scale : Nat
  count : Nat
deriving DecidableEq, Repr

def State.swin (n : Nat) (s : State) : SWin :=
  let c := s.stw (Reg.CMP_SW_CTL + 32 * n)
  { enable := bit 31 c, fmt := bits 7 4 c, lay := bits 3 0 c,
    payload := (s.stw (Reg.CMP_SW_PLO + 32 * n)).toNat + 2 ^ 32 * (s.stw (Reg.CMP_SW_PHI + 32 * n)).toNat,
    scale := (s.stw (Reg.CMP_SW_SLO + 32 * n)).toNat + 2 ^ 32 * (s.stw (Reg.CMP_SW_SHI + 32 * n)).toNat,
    count := (s.stw (Reg.CMP_SW_CNT + 32 * n)).toNat }

/-- Scale plots that a window covers. -/
def SWin.plots (w : SWin) : Nat := ceilDiv (w.count * 16 * strideOf w.fmt) 65536

def SWin.covers (w : SWin) (p : Nat) : Bool := w.scale ≤ p && p < w.scale + w.plots

/-- The enabled window that a plot lies in. -/
def State.swinOf (p : Nat) (s : State) : Option SWin :=
  ((List.range 64).map (fun n => s.swin n)).find? (fun w => w.enable && w.covers p)

/-- A plot lies in an enabled scale window's range: an assignment of it fails (R158). -/
def State.inSwin (p : Nat) (s : State) : Bool := (s.swinOf p).isSome

end Sys2Proof.Machine
end

