-- ==== Sys2Proof/Machine/Places.lean ====
section
/-! DEFINITION. Places of plots: Near slots, Bulk places, Far places, their quotas and pools, and the stored form of a
block (spec/04_tiers.md R72 to R101, spec/06_compression.md R137 to R145). -/

namespace Sys2Proof.Machine

def nearSlotsPerHalf : Nat := 1310720
def bulkUnitsPerHalf : Nat := 1879048192

/-- The plot has a Near slot (R72, Table TIR-4). -/
def Plot.hasSlot (e : Plot) : Bool :=
  match e.st with
  | .near => true
  | .nearDirty => true
  | .promoting => true
  | .demoting => !e.fmove
  | _ => false

/-- Reads are served from the Near slot (Table TIR-5). -/
def Plot.nearCurrent (e : Plot) : Bool :=
  match e.st with
  | .near => true
  | .nearDirty => true
  | .demoting => !e.fmove
  | _ => false

/-- A pool plot (R87). -/
def Plot.isPool (e : Plot) : Bool := e.hasSlot && e.claims ≠ [] && e.claims.all (fun c => c.pool) && e.pins = []

def Plot.claimOf (e : Plot) (t : Nat) : Option Claim := e.claims.find? (fun c => c.tenant = t)

/-- A move of the plot is running, or a DEMOTE to Far waits for nothing but one (R268). -/
def Plot.moving (e : Plot) : Bool :=
  e.st = .promoting || e.st = .demoting || (e.farWant.isSome && e.claims = [] && e.pins = [])

/-- A Bulk place is allocated. -/
def Plot.hasBulk (e : Plot) : Bool := !e.farb && e.units > 0

/-- What a Bulk place counts, in 4 KiB units (R138). -/
def Plot.chargeUnits (e : Plot) : Nat := if e.mode = .packed then e.units else 16

/-- Units of 4 KiB that the Bulk place of a mode occupies (R75, R144). -/
def modeUnits : Mode → Nat
  | .fixed => 8
  | _ => 16

/-! Near slots. -/

def slotHalf (n : Nat) : Half := if n < nearSlotsPerHalf then .north else .south

/-- Near slots in use, retired, or promised to a relocation. -/
def State.slotsBusy (s : State) : List Nat :=
  s.tier.plots.filterMap (fun e => if e.2.hasSlot then some e.2.slot else none) ++ s.tier.badSlots ++
  (match s.tier.reloc with
    | some r => if r.bulk then [] else r.dest.toList
    | none => [])

/-- A free Near slot of a half: any free one may be taken (log 7). -/
def State.freeSlot (h : Half) (s : State) : Option Nat :=
  let used := s.slotsBusy
  let base := nearSlotsPerHalf * halfIdx h
  let c := base + Config.freeNat s.freeCtr % nearSlotsPerHalf
  if !used.contains c then some c
  else ((List.range (used.length + 1)).map (fun i => base + i)).find? (fun n => n < base + nearSlotsPerHalf && !used.contains n)

/-! Bulk places. -/

/-- Bulk units in use on a half: base and length, with retired units. badUnits holds half × 2^32 + unit. -/
def State.bulkBusy (h : Half) (s : State) : List (Nat × Nat) :=
  s.tier.plots.filterMap (fun e => if e.2.hasBulk && homeHalf e.1 = h then some (e.2.loc, e.2.units) else none) ++
  s.tier.badUnits.filterMap (fun b => if b / 2 ^ 32 = halfIdx h then some (b % 2 ^ 32, 1) else none) ++
  (match s.tier.reloc with
    | some r => if r.bulk && r.half = h then
        (match r.dest, tfind r.plot s.tier.plots with
          | some d, some p => [(d, p.units)]
          | _, _ => [])
      else []
    | none => [])

def fits (used : List (Nat × Nat)) (base n : Nat) : Bool :=
  base + n ≤ bulkUnitsPerHalf && used.all (fun u => base + n ≤ u.1 || u.1 + u.2 ≤ base)

/-- A free run of n units on a half (log 7). -/
def State.freeBulk (h : Half) (n : Nat) (s : State) : Option Nat :=
  let used := s.bulkBusy h
  let c := Config.freeNat s.freeCtr % (bulkUnitsPerHalf - n + 1)
  if fits used c n then some c
  else
    let cand := (0 :: used.map (fun u => u.1 + u.2)).filter (fun b => fits used b n)
    match cand with
    | [] => none
    | b :: r => some (r.foldl min b)

def State.quotaB (q : Nat) (s : State) : Nat := s.stwF (Reg.TIR_QUOTA_B + 4 * q) 27 0
def State.quotaF (q : Nat) (s : State) : Nat := s.stwF (Reg.TIR_QUOTA_F + 4 * q) 30 0
def State.quotaN (q : Nat) (s : State) : Nat := s.stwF (Reg.TIR_QUOTA_N + 4 * q) 21 0
def State.poolN (s : State) : Nat := s.stwF Reg.TIR_POOL_N 21 0

/-- QUOTA-charged Bulk units of a tenant, and POOL-charged units of the module (R91, R138). -/
def State.bulkQuotaUsed (q : Nat) (s : State) : Nat :=
  (s.tier.plots.map (fun e => if e.2.hasBulk && !e.2.pool && e.2.qtenant = q then e.2.chargeUnits else 0)).sum
def State.bulkPoolUsed (s : State) : Nat :=
  (s.tier.plots.map (fun e => if e.2.hasBulk && e.2.pool then e.2.chargeUnits else 0)).sum

/-- The charge of a new Bulk place: some true for POOL, none when the pool is full (R91, R138). -/
def State.chargeBulk (q u : Nat) (s : State) : Option Bool :=
  if s.bulkQuotaUsed q + u ≤ 16 * s.quotaB q then some false
  else if s.bulkPoolUsed + u ≤ 16 * s.stwF Reg.TIR_POOL_B 27 0 then some true
  else none

/-! Far places (R100). -/

def State.farEnabled (l : Nat) (s : State) : Bool := bit 31 (s.stw (Reg.TIR_FAR_CTL + 4 * l))
def State.farSize (l : Nat) (s : State) : Nat := s.stwF (Reg.TIR_FAR_SIZE + 4 * l) 30 0
def State.farBase (l : Nat) (s : State) : Nat :=
  (s.stw (Reg.TIR_FAR_BASE_LO + 4 * l)).toNat + 2 ^ 32 * (s.stw (Reg.TIR_FAR_BASE_HI + 4 * l)).toNat

/-- Lending tenant and offset of a plot's Far place: LOC[37:30] and LOC[29:0]. -/
def locLender (loc : Nat) : Nat := fld 37 30 loc
def locOffset (loc : Nat) : Nat := fld 29 0 loc
def farLoc (l o : Nat) : Nat := l * 2 ^ 30 + o

/-- Offsets of an extent that plots hold or have reserved. -/
def State.farBusy (l : Nat) (s : State) : List Nat :=
  s.tier.plots.filterMap (fun e =>
    if e.2.farb && e.2.st ≠ .farLost && locLender e.2.loc = l then some (locOffset e.2.loc)
    else match e.2.farDst with
      | some d => if d.1 = l then some d.2 else none
      | none => none)

def State.farFree (l : Nat) (s : State) : Nat := if s.farEnabled l then s.farSize l - (s.farBusy l).length else 0

/-- The enabled extent with the most free plots, ties to the lower lending tenant (Table TIR-9). -/
def State.bestExtent (s : State) : Option Nat :=
  (List.range 256).foldl (fun b l =>
    if s.farFree l = 0 then b
    else match b with
      | none => some l
      | some k => if s.farFree l > s.farFree k then some l else b) none

/-- A free offset of an extent (log 7). -/
def State.freeFar (l : Nat) (s : State) : Option Nat :=
  let used := s.farBusy l
  let n := min (s.farSize l) (2 ^ 30)
  if n = 0 || !s.farEnabled l then none
  else
    let c := Config.freeNat s.freeCtr % n
    if !used.contains c then some c
    else (List.range (used.length + 1)).find? (fun o => o < n && !used.contains o)

def State.farQuotaUsed (q : Nat) (s : State) : Nat :=
  (s.tier.plots.map (fun e =>
    if e.2.qtenant = q then
      (if e.2.farb && e.2.st ≠ .farLost && !e.2.pool then 1 else 0) + (if e.2.farDst.isSome && !e.2.farPool then 1 else 0)
    else 0)).sum
def State.farPoolUsed (s : State) : Nat :=
  (s.tier.plots.map (fun e =>
    (if e.2.farb && e.2.st ≠ .farLost && e.2.pool then 1 else 0) + (if e.2.farDst.isSome && e.2.farPool then 1 else 0))).sum

/-- The charge of a new Far place (R91). -/
def State.chargeFar (q : Nat) (s : State) : Option Bool :=
  if s.farQuotaUsed q + 1 ≤ s.quotaF q then some false
  else if s.farPoolUsed + 1 ≤ s.stwF Reg.TIR_POOL_F 30 0 then some true
  else none

/-! Stored forms of blocks. Keys: block = 16 × plot + j; line = 1,024 × plot + 64 × j + sector. -/

def State.smapEnt (b : Nat) (s : State) : SEnt := sentOf (tget 0#128 b s.tier.smap)
def State.sideEnt (b : Nat) (s : State) : Side := sideOf (tget 0#64 b s.tier.side)

/-- Sectors of the area of a packed plot. -/
def State.areaSectors (p : Nat) (s : State) : Nat :=
  ((List.range 16).map (fun j => let e := s.smapEnt (16 * p + j); if e.len = 0 then 0 else sentSectors e)).sum

/-- A packed plot too large for a Near slot (R139). -/
def State.oversize (p : Nat) (e : Plot) (s : State) : Bool := e.mode = .packed && s.areaSectors p > 1024

/-- Sectors that a copy of block j moves. -/
def State.blockSectors (p : Nat) (e : Plot) (j : Nat) (s : State) : Nat :=
  match e.mode with
  | .packed => let m := s.smapEnt (16 * p + j); if m.len = 0 then 0 else sentSectors m
  | .fixed => 32
  | .raw => 64
  | .footprint => let d := s.sideEnt (16 * p + j); if d.len = 0 || d.len = 64 then 64 else d.len

/-- Byte address in `area`, and its first byte in the plot's place, of the stored form of block j. -/
def State.storedAt (p : Nat) (e : Plot) (j : Nat) (s : State) : Nat :=
  match e.mode with
  | .packed => 64 * (s.smapEnt (16 * p + j)).start
  | .fixed => 2048 * j
  | _ => 4096 * j

/-- Line keyed as stored by a key tag: the bytes in memory are its ciphertext (R400; log 11). -/
def State.storedLine (l : Nat) (s : State) : Line :=
  let d := bytesLine (mread (64 * l) 64 s.tier.mem)
  let k := tget 0#512 l s.tier.keyTag
  if k = 0#512 then d else Config.garble k 0#512 l d

/-- The stored bytes of block j, as a move or a Far write carries them. -/
def State.storedBytes (p : Nat) (e : Plot) (j : Nat) (s : State) : List Byte :=
  let n := 64 * s.blockSectors p e j
  let coded := e.mode = .packed || e.mode = .fixed ||
    (e.mode = .footprint && (s.sideEnt (16 * p + j)).len ≠ 0 && (s.sideEnt (16 * p + j)).len ≠ 64)
  if coded then mread (p * 131072 + s.storedAt p e j) n s.tier.area
  else ((List.range 64).map (fun i => lineBytes (s.storedLine (p * 1024 + j * 64 + i)))).flatten

/-- Poison keys of sectors i of block j of a plot: a coded footprint stream is one key. -/
def State.poisonKey (p : Nat) (e : Plot) (j i : Nat) (s : State) : Nat :=
  match e.mode with
  | .packed => p * 8192 + 2048 + (s.smapEnt (16 * p + j)).start + i
  | .fixed => p * 8192 + 2048 + 32 * j + i
  | .raw => p * 8192 + 64 * j + i
  | .footprint =>
    let d := s.sideEnt (16 * p + j)
    if d.len = 0 || d.len = 64 then p * 8192 + 64 * j + i else p * 8192 + 1024 + j

/-- Every poison key of block j. -/
def State.blockKeys (p : Nat) (e : Plot) (j : Nat) (s : State) : List Nat :=
  (List.range (max 1 (s.blockSectors p e j))).map (fun i => s.poisonKey p e j i)

/-- Poison of the current copy: the Near copy while it is current. -/
def State.curPoison (e : Plot) (k : Nat) (s : State) : Bool :=
  if e.nearCurrent then nmem k s.tier.npoison else nmem k s.tier.poison

/-- Bus address of a byte of a plot's Far place. -/
def State.farAddr (loc off : Nat) (s : State) : W64 :=
  BitVec.ofNat 64 (s.farBase (locLender loc) + 65536 * locOffset loc + off)

/-- The tenant, if any, that a far place belongs to. -/
def Plot.lender (e : Plot) : Option Nat := if e.farb then some (locLender e.loc) else none

/-- Keys of FarBuf: a line, or a whole stored block. -/
def farLineKey (l : Nat) : Nat := 2 * l
def farBlockKey (b : Nat) : Nat := 2 * b + 1

def State.farGot (who : Reader) (key : Nat) (s : State) : Option FarBuf :=
  s.tier.farBuf.find? (fun f => f.who = who && f.key = key)

/-- Ask for bytes of a Far place for a reader, once (R79). -/
def State.farFetch (who : Reader) (key : Nat) (lender : Nat) (addr : W64) (len : Nat) (s : State) : State :=
  match s.farGot who key with
  | some _ => s
  | none =>
    let n := s.tier.nextFar
    (s.modTier (fun t => { t with farBuf := t.farBuf ++ [{ who := who, key := key, no := n, got := none }],
                                  nextFar := n + 1 })).dmaRead lender (.farFor who key n) addr len

/-- Bytes of a Far place, or their read's failure, arrive for the read of number no. -/
def State.farArrive (no : Nat) (r : Status × List Byte) (s : State) : State :=
  s.modTier (fun t => { t with farBuf := mapIf (fun f => decide (f.no = no)) (fun f => { f with got := some r }) t.farBuf })

/-- The read of number no is still wanted: nothing has made it stale (R74, R79). -/
def State.farWanted (no : Nat) (s : State) : Bool := s.tier.farBuf.any (fun f => f.no = no)

/-- Block of a FarBuf's key. -/
def keyBlock (k : Nat) : Nat := if k % 2 = 1 then k / 2 else k / 128

/-- The bytes lie with a lending host whose port is on the other half than the plot's home. -/
def Plot.farAcross (p : Nat) (e : Plot) : Bool := e.farb && decide (tenantHalf (locLender e.loc) ≠ homeHalf p)

/-- The plot's move copies its blocks over the bridge: to or from a Far place on the other half. -/
def Plot.moveAcross (p : Nat) (e : Plot) : Bool :=
  match e.farDst with
  | some d => e.fmove && decide (tenantHalf d.1 ≠ homeHalf p)
  | none => e.farAcross p

/-- The item is an access of this unit. -/
def BItem.ofUnit (who : Reader) : BItem → Bool
  | .host _ => false
  | .unit w _ _ _ _ => w = who

/-- A reader is done: what it fetched, and what its accesses held at the Headgate and the bridge, is dropped. -/
def State.farDrop (who : Reader) (s : State) : State :=
  let s := s.modTier (fun t => { t with farBuf := t.farBuf.filter (fun f => f.who ≠ who) })
  { s with
    acc := { s.acc with paid := s.acc.paid.filter (fun (e : Reader × Nat) => decide (e.1 ≠ who)), held := s.acc.held.filter (fun r => decide (r ≠ who)) }
    bridge := { s.bridge with cut := s.bridge.cut.filter (fun r => decide (r ≠ who)),
                              queue := s.bridge.queue.filter (fun i => !i.ofUnit who) } }

end Sys2Proof.Machine
end

