-- ==== Sys2Proof/Machine/Channels.lean ====
section
/-! DEFINITION. DRAM lines: the placement hashes, queues and rows of a channel, the line code over pins and symbols, and what a
read's medium shows, counts and logs (spec/13_dram_controllers.md R321 to R330, spec/15_reliability.md R363, R364). -/

namespace Sys2Proof.Machine

/-- A DRAM line behind a controller. Channels 0-135 are LCn; 136 + n is HPCn. -/
structure DLoc where
  chan : Nat
  k : Nat
  bank : Nat
  row : Nat
  line : Nat
  lrank : Option Nat
deriving DecidableEq, Repr

/-- Bulk line of a BDA (R321), on the logical channel. -/
def bulkLine (h : Half) (bda grain : Nat) (hash : Bool) : DLoc :=
  let gb := 8 + grain
  let row := bda / 2 ^ 22 % 2 ^ 21
  let ch := bda / 2 ^ gb % 64
  let bank := bda / 2 ^ (gb + 6) % 16
  let k := bda / 2 ^ (gb + 10) % 2
  let chi := bda / 2 ^ (gb + 11) % 2 ^ (11 - gb)
  let col := chi * 2 ^ gb + bda % 2 ^ gb
  let ch := if hash then Nat.xor ch (row / 16 % 64) else ch
  let bank := if hash then Nat.xor bank (row % 16) else bank
  let c := 64 * halfIdx h + ch
  { chan := c, k := k, bank := bank, row := row, line := col / 64, lrank := some (2 * c + k) }

/-- Near line of an NDA (R322). -/
def nearLine (h : Half) (nda grain : Nat) (hash : Bool) : DLoc :=
  let gn := 8 + grain
  let row := nda / 2 ^ 22
  let ch := nda / 2 ^ gn % 64
  let bank := nda / 2 ^ (gn + 6) % 64
  let col := (nda / 2 ^ (gn + 12) % 2 ^ (10 - gn)) * 2 ^ gn + nda % 2 ^ gn
  let ch := if hash then Nat.xor ch (row / 64 % 64) else ch
  let bank := if hash then Nat.xor bank (row % 64) else bank
  { chan := 136 + 64 * halfIdx h + ch, k := 0, bank := bank, row := row, line := col / 64, lrank := none }

/-- The physical rank that serves a row of a logical rank: the spare once the copy has passed it or the rank has moved
(R321, R337). -/
def Rank.serves (r : Rank) (row : Nat) : Nat :=
  if (r.st = .copying && row < r.row) then r.spare else r.phys

/-- The DRAM line of byte off of a plot's current place; none for a Far place, no place, or a spilled rank, which the
spill area serves (R339). -/
def State.dloc (p : Nat) (e : Plot) (off : Nat) (s : State) : Option DLoc :=
  let m := s.stw Reg.DMC_MAP
  let h := homeHalf p
  if e.nearCurrent then
    some (nearLine h ((e.slot - nearSlotsPerHalf * halfIdx h) * 65536 + off) (bits 5 4 m) (bit 9 m))
  else if e.hasBulk then
    let d := bulkLine h (e.loc * 4096 + off) (bits 1 0 m) (bit 8 m)
    match d.lrank with
    | some r =>
      if (s.rank r).st = .spilled then none
      else let ph := (s.rank r).serves d.row; some { d with chan := ph / 2, k := ph % 2 }
    | none => some d
  else none

/-- The channel of a line is lost or retired: its requests end with poison (R386). -/
def State.chanLost (d : DLoc) (s : State) : Bool := (s.chan d.chan).lost || (s.chan d.chan).st = .retired

/-- Key of a line in a channel's queues. -/
def DLoc.key (d : DLoc) : Nat := ((d.k * 64 + d.bank) * 2 ^ 21 + d.row) * 32 + d.line % 32

/-- A DRAM line by number, over all channels. -/
def DLoc.lineKey (d : DLoc) : Nat := d.chan * 2 ^ 33 + d.key

/-- A bank: rank K in the upper part. -/
def DLoc.bankKey (d : DLoc) : Nat := d.k * 64 + d.bank

/-- Open-row prediction of one access (R330). -/
def Chan.touchRow (c : Chan) (d : DLoc) (policy : Nat) : Chan :=
  let b := d.bankKey
  let cnt := tget 2 b c.rowCnt
  let cnt := match tfind b c.rows with
    | some r => if r = d.row then min 3 (cnt + 1) else cnt - 1
    | none => cnt
  let keep := policy = 1 || (policy = 0 && cnt ≥ 2)
  { c with rowCnt := tset 2 b cnt c.rowCnt, rows := if keep then tput b d.row c.rows else tdel b c.rows }

def chanTier (ch : Nat) : Nat := if ch < 136 then 1 else 0

/-- Owed refreshes of a bank are issued, of every bank of its channel where refreshes are all-bank (R332). -/
def State.refreshOwed (ch bank : Nat) (s : State) : State :=
  s.modChan ch (fun c => { c with owed := if bit 0 (s.stw (Reg.DMC_RCFG + 4 * chanTier ch)) then [] else tdel bank c.owed })

/-- A bank serves an access: owed refreshes go before one below step 5 (R332), and its row is predicted (R330). -/
def State.touchRow (urgent : Bool) (d : DLoc) (s : State) : State :=
  let s := if urgent then s else s.refreshOwed d.chan d.bankKey
  s.modChan d.chan (fun c => c.touchRow d (s.stwF (Reg.DMC_PCFG + 4 * chanTier d.chan) 1 0))

/-- Serve a channel's write queue: every queued line of the first line's open row, or at least 16 lines (R327). -/
def Chan.serveWrites (c : Chan) : Chan :=
  match c.wq with
  | [] => c
  | k :: _ =>
    let same := c.wq.filter (fun x => x / 32 = k / 32)
    let out := if same.length ≥ 16 then same else c.wq.take 16
    { c with wq := c.wq.filter (fun x => !out.contains x), chk := [] }

/-- A line write enters its channel's write queue, which has 128 places (R328); a Bulk write updates its check line's
field in the check buffer of 32 (R329). -/
def State.queueWrite (d : DLoc) (s : State) : State :=
  let s := s.modChan d.chan (fun c =>
    let c := if c.wq.length ≥ 128 && !c.wq.contains d.key then c.serveWrites else c
    let c := { c with wq := nins d.key c.wq }
    if chanTier d.chan = 1 && c.chk.length < 32 then { c with chk := nins (d.key / 8) c.chk } else c)
  (s.modDmc (fun m => { m with damage := tdel d.lineKey m.damage })).touchRow false d

/-- A write to byte off of a plot's place finds its channel paused and its write queue full: it is not admitted yet (R328, R335). -/
def State.queueFull (p : Nat) (e : Plot) (off : Nat) (s : State) : Bool := match s.dloc p e off with
  | some d => (s.chan d.chan).st = .paused && 128 ≤ (s.chan d.chan).wq.length && !nmem d.key (s.chan d.chan).wq
  | none => false

def beRegOf (ch : Nat) : Nat := if ch < 136 then Reg.RAS_BCE + 4 * ch else Reg.RAS_HCE + 4 * (ch - 136)

/-- Count a corrected read of a channel, with the threshold record of R364 and the rank's own count (R336). -/
def State.correctedRead (d : DLoc) (loc : Nat) (s : State) : State :=
  let s := s.cntStw (beRegOf d.chan) 31 16 1
  let c := s.chan d.chan
  let same := c.ceStamp = s.second
  let n := if same then c.ceSec + 1 else 1
  let logged := same && c.ceLogged
  let thr := s.stwF Reg.RAS_CECFG 15 0
  let hit := thr ≠ 0 && n ≥ thr && !logged
  let s := s.modChan d.chan (fun c => { c with ceSec := n, ceStamp := s.second, ceLogged := logged || hit })
  let s := match d.lrank with
    | some r =>
      let k := s.rank r
      let m := if k.ceStamp = s.second then k.ceSec + 1 else 1
      s.setRank r { k with ceSec := m, ceStamp := s.second,
                           auto := k.auto || (bit 31 (s.stw Reg.DMC_ECFG) && m ≥ 16 * max 1 (s.stwF Reg.DMC_ECFG 23 16)) }
    | none => s
  if hit then
    let r : Rec := { typ := 0x02, sev := 1, unit := chanUnit d.chan, loc := loc, aux0 := n }
    (s.logRec r).fmStd 2 1 r
  else s

/-- Count an uncorrectable read that is not stored poison (R364); it is a trigger of R336 while AUTO is set. -/
def State.uncorrectedRead (d : DLoc) (s : State) : State :=
  let s := s.cntStw (beRegOf d.chan) 15 0 1
  match d.lrank with
  | some r => if bit 31 (s.stw Reg.DMC_ECFG) then s.modRank r (fun k => { k with auto := true }) else s
  | none => s

/-! The line code (R324 to R326, R363). -/

/-- The mask on the check symbols that stores poison (R326). -/
def poisonMask : W64 := 0x5A5AC3C3A5A53C3C#64

/-- The 36 symbols of a stored line: 32 of data and 4 of the line code's check bytes, which poison inverts by the mask. -/
def lineCode (d : Line) (poison : Bool) : List W16 :=
  let c := Config.lineCheck d ^^^ (if poison then poisonMask else 0#64)
  (List.range 32).map (fun i => d.extractLsb' (16 * i) 16) ++ (List.range 4).map (fun i => c.extractLsb' (16 * i) 16)

/-- The pin that carries symbol x of a line, and the first of the 16 beats: 36 pins over 16 beats in the Near tier (R324); 16
pins over 32 beats in the Bulk tier, the check symbols in the line's field of its check line (R325). -/
def symPin (near : Bool) (line x : Nat) : Nat × Nat :=
  if near then (x, 0)
  else
    let q := if x < 32 then x else 4 * (line % 8) + (x - 32)
    (q % 16, q / 16 * 16)

/-- What a pin carries at a beat of a line's transfer. -/
def pinBit (near : Bool) (line : Nat) (code : List W16) (pin beat : Nat) : Bool :=
  match (List.range 36).find? (fun x => symPin near line x = (pin, beat / 16 * 16)) with
  | some x => ((code[x]?).getD 0#16).getLsbD (beat % 16)
  | none => false

/-- Symbols of a line that a failed pin damages. -/
def pinSyms (near : Bool) (line pin : Nat) : List Nat := (List.range 36).filter (fun x => (symPin near line x).1 = pin)

/-- Damaged symbols of a line as a read meets them: those of the medium and of its failed pins. A line in the write queue comes
from there, and so do check fields in the check buffer (R328). -/
def State.lineBad (d : DLoc) (s : State) : List Nat :=
  let c := s.chan d.chan
  if nmem d.key c.wq then []
  else (List.range 36).filter (fun x =>
    (nmem x (tget [] d.lineKey s.dmc.damage) || nmem (symPin (chanTier d.chan = 0) d.line x).1 (tget [] (2 * d.chan + d.k) s.dmc.badPins)) &&
      !(32 ≤ x && nmem (d.key / 8) c.chk))

/-- What a read finds in the medium stays there (R363). -/
def State.mediaFind (d : DLoc) (md : Media) (s : State) : State :=
  match md with
  | .damaged l => s.modDmc (fun m => { m with
      damage := tset [] d.lineKey (ninsAll ((l.map BitVec.toNat).filter (fun x => x < 36)) (tget [] d.lineKey m.damage)) m.damage })
  | .pin n => s.modDmc (fun m => { m with
      badPins := tset [] (2 * d.chan + d.k) (nins n.toNat (tget [] (2 * d.chan + d.k) m.badPins)) m.badPins })
  | _ => s

/-- A write of the whole line leaves it with fresh check symbols (R329, R363). -/
def State.mediaFresh (d : DLoc) (s : State) : State := s.modDmc (fun m => { m with damage := tdel d.lineKey m.damage })

/-- A read of one line: one damaged symbol is corrected and counted; more, or any in a poisoned line, are uncorrectable
(R324 to R326, R364, Table RAS-5; log 13). host is set for a host read, whose tenant's log also takes a General Media record
(R376). -/
def State.mediaRead (d : DLoc) (ua : Nat) (tenant : Option Nat) (host poisoned : Bool) (s : State) : Bool × State :=
  match s.lineBad d, poisoned with
  | [], _ => (true, s)
  | [_], false => (true, s.correctedRead d (locUa ua))
  | _, _ =>
      let r : Rec := { typ := 0x01, sev := 2, tenant := tenant, unit := chanUnit d.chan, loc := locUa ua, aux0 := 0, aux1 := 0xFFFFFFFF }
      let s := (s.uncorrectedRead d).logRec r
      (false, match tenant with
        | some t => if host then s.tenantLog t 2 ({ r with std := 1 }.bytes s.now) else s
        | none => s)

/-- The line's channel is paused, or its logical rank is being switched over: its requests wait (R335, R338). -/
def State.chanHeld (d : DLoc) (s : State) : Bool :=
  (s.chan d.chan).st = .paused || (match d.lrank with
    | some r => (s.rank r).st = .switching
    | none => false)

/-- Byte offsets, in a plot's place, of the sectors that a read of block j's stored form fetches. -/
def State.blockOffs (p : Nat) (e : Plot) (j : Nat) (s : State) : List Nat :=
  (List.range (max 1 (s.blockSectors p e j))).map (fun i => s.storedAt p e j + 64 * i)

/-! Reads of a move, an evacuation or a relocation (R98, R337, R339, R377). -/

/-- Sectors of block j, of those whose line meets of_, that such a read finds uncorrectable, what bad names among them; a lost
channel's are (R386). -/
def State.moveReads (p : Nat) (e : Plot) (j : Nat) (bad : List Nat) (of_ : DLoc → Bool) (s : State) : List Nat × State :=
  ((s.blockOffs p e j).zipIdx).foldl (fun (a : List Nat × State) (o : Nat × Nat) =>
    match a.2.dloc p e o.1 with
    | none => if bad.contains o.2 then (a.1 ++ [o.2], a.2) else a
    | some d =>
      let s := if bad.contains o.2 then a.2.mediaFind d (.damaged [0#6, 1#6]) else a.2
      if !of_ d then a
      else if s.chanLost d then (a.1 ++ [o.2], s)
      else match s.lineBad d with
        | [] => (a.1, s)
        | [_] => if s.curPoison e (s.poisonKey p e j o.2) then (a.1 ++ [o.2], s.uncorrectedRead d)
          else (a.1, s.correctedRead d (locUa (p * 65536 + o.1)))
        | _ => (a.1 ++ [o.2], s.uncorrectedRead d)) ([], s)

/-- Block j of a plot is written whole at the place that e gives it. -/
def State.moveWrites (p : Nat) (e : Plot) (j : Nat) (s : State) : State :=
  forAll ((s.blockOffs p e j).filterMap (fun o => s.dloc p e o)) (fun d s => s.mediaFresh d) s

/-- A block's copy waits for its source's channel, which is paused or switched over (R335, R338). -/
def State.moveHeld (p : Nat) (e : Plot) (j : Nat) (s : State) : Bool :=
  ((s.blockOffs p e j).filterMap (fun o => s.dloc p e o)).any (fun d => s.chanHeld d)

end Sys2Proof.Machine
end

