-- ==== Sys2Proof/Machine/Tiers.lean ====
section
/-! DEFINITION. Tiers: claims, eviction, moves of plots, and the ends of plot actions (spec/04_tiers.md R79 to R101;
lateness of firings, spec/05_almanac.md R126 to R129). -/

namespace Sys2Proof.Machine

/-! Cursors and tracked firings. -/

def State.modCursor (cal cur : Nat) (f : Cursor → Cursor) (s : State) : State :=
  match s.cal cal with
  | some c => match tfind cur c.cursors with
    | some v => s.setCal cal { c with cursors := tput cur (f v) c.cursors }
    | none => s
  | none => s

def markStep (m : W32) : Nat := bits 31 12 m
def markLayer (m : W32) : Nat := bits 11 0 m
def mkMark (step layer : Nat) : W32 := BitVec.ofNat 32 (step % 2 ^ 20 * 4096 + layer % 4096)

/-- Order of two stage marks (R103). -/
def posCmp (a b : W32) : Int :=
  let ds := (markStep a + 2 ^ 20 - markStep b) % 2 ^ 20
  if ds = 0 then (if markLayer a > markLayer b then 1 else if markLayer a < markLayer b then -1 else 0)
  else if ds < 2 ^ 19 then 1 else -1

/-- Layers from p to a later or equal q (R103). -/
def posDist (p q : W32) (layers : Nat) : Nat :=
  ((markStep q + 2 ^ 20 - markStep p) % 2 ^ 20) * layers + markLayer q - markLayer p

/-- A tracked firing is done: a late one records its lateness (R127, R129). -/
def State.firingDone (cal cur : Nat) (tr : Track) (s : State) : State :=
  match s.cal cal with
  | none => s
  | some c => match tfind cur c.cursors with
    | none => s
    | some v =>
      let s := s.modCursor cal cur (fun v => { v with tracks := v.tracks.filter (fun x => x.id ≠ tr.id) })
      if tr.late then
        let l := posDist tr.target tr.latest c.layers + 1
        let s := s.modCursor cal cur (fun v => { v with cnt3 := setBits 11 0 (max (bits 11 0 v.cnt3) (min 0xFFF l)) v.cnt3 })
        let ev := s.barF v.tenant Reg.ALM_TCFG 11 0
        if ev ≠ 0 && l ≥ ev then
          s.logRec { typ := 0x07, sev := 0, tenant := some v.tenant, unit := unitNo 9 cal, loc := cur,
                     aux0 := tr.tag.toNat, aux1 := l }
        else s
      else s

/-- A tracked firing after plot p: copied and staged name the firings whose promotion, and whose staging, of it ended. -/
def Track.settle (p : Nat) (copied staged : Nat → Bool) (t : Track) : Track :=
  { t with watch := if copied t.id then ndel p t.watch else t.watch,
           watchStage := if staged t.id then ndel p t.watchStage else t.watchStage }

/-- Take a plot off a cursor's tracked firings, and end those left with none (R127). -/
def State.trackSettle (cal cur p : Nat) (copied staged : Nat → Bool) (s : State) : State :=
  match s.cal cal with
  | none => s
  | some c => match tfind cur c.cursors with
    | none => s
    | some v =>
      let tr := v.tracks.map (fun t => t.settle p copied staged)
      let s := s.modCursor cal cur (fun v => { v with tracks := tr })
      forAll (tr.filter (fun t => t.issued && t.watch = [] && t.watchStage = [])) (fun t s => s.firingDone cal cur t) s

/-- A claim of this cause on plot p waits. -/
def State.causeWaits (p : Nat) (test : ClaimCause → Bool) (s : State) : Bool :=
  s.tier.waits.any (fun w => w.plot = p && test w.cause)

def causeOp (id : Nat) : ClaimCause → Bool
  | .op i _ => i = id
  | _ => false

def causeFiring (f : Nat) : ClaimCause → Bool
  | .alm _ _ i _ => i = f
  | _ => false

/-- A STAGE of this firing on plot p waits for a fill of some engine (R193). -/
def State.firingFills (p f : Nat) (s : State) : Bool :=
  s.fes.any (fun e => e.2.fills.any (fun r => r.firing = some f && r.block / 16 = p))

def State.plotMoving (p : Nat) (s : State) : Bool :=
  match s.plot p with
  | some e => e.moving
  | none => false

/-- A hint whose every plot action has ended completes: QUOTA where a plot was refused (R268), POISON_CONSUMED where one lay
beyond the bridge (R14). -/
def Op.settle (o : Op) (p : Nat) (busy : Bool) : Op :=
  if busy || !nmem p o.watch then o
  else
    let o := { o with watch := ndel p o.watch }
    if o.started && o.watch = [] && o.done = none then
      if o.cut then { o with done := some .poisonConsumed, detail := 0 }
      else { o with done := some (if o.refused > 0 then .quota else .ok), detail := min 0xFFFF o.refused }
    else o

/-- The ends of the plot actions on plot p that nothing holds any more (R127, R268). -/
def State.settle (p : Nat) (s : State) : State :=
  let mv := s.plotMoving p
  let s := { s with ops := s.ops.map (fun o => o.settle p (mv || s.causeWaits p (causeOp o.id))) }
  forAll s.alm.cals (fun c s => forAll (c.2.cursors.map Prod.fst) (fun cur s =>
    s.trackSettle c.1 cur p (fun f => !(mv || s.causeWaits p (causeFiring f))) (fun f => !s.firingFills p f)) s) s

/-- Count a refused or lost action of a fired entry, once for the entry (R110, R126). -/
def State.refuseFiring (cal cur f : Nat) (s : State) : State :=
  if nmem f s.alm.refusedFirings then s
  else (s.modAlm (fun a => { a with refusedFirings := nins f a.refusedFirings })).modCursor cal cur
    (fun v => { v with cnt1 := satField 31 16 1 v.cnt1 })

/-- A claim is refused, by its cause (R89). -/
def State.refuseClaim (p t : Nat) (c : ClaimCause) (s : State) : State :=
  match c with
  | .auto => s.cntBar t Reg.TIR_EVICT 15 0 1
  | .op id _ => (s.modOp id (fun o => { o with refused := o.refused + 1 })).settle p
  | .alm cal cur f _ => (s.refuseFiring cal cur f).settle p

/-! Charges and pool plots. -/

/-- QUOTA-charged Near claims of a tenant (R86). -/
def State.nearQuotaUsed (t : Nat) (s : State) : Nat :=
  (s.tier.plots.map (fun e => (e.2.claims.filter (fun c => c.tenant = t && !c.pool)).length)).sum

def State.nearHeadroom (t : Nat) (s : State) : Bool := s.nearQuotaUsed t < s.quotaN t

/-- Pool occupancy (R87). -/
def State.poolOcc (s : State) : Nat := (s.tier.plots.filter (fun e => e.2.isPool)).length

def Plot.ageAt (e : Plot) (clock : Nat) : Nat := (clock + 65536 - e.age % 65536) % 65536

/-! Moves. -/

/-- The next block that a move copies: the lowest not copied, or the lowest dirty one of a write-back. -/
def Plot.nextBlock (e : Plot) : Option Nat :=
  if e.st = .demoting && !e.fmove then (List.range 16).find? (fun j => bit j e.dirty)
  else if e.st = .promoting || e.st = .demoting then (List.range 16).find? (fun j => !bit j e.copied)
  else none

/-- The next block of a plot's move asks its Headgate for admission (R307, R308), or the shadow Headgate of its half
(R319); a free write-back is never held. -/
def State.admitCopy (p : Nat) (s : State) : State :=
  match s.plot p with
  | none => s
  | some e => match e.nextBlock with
    | none => s
    | some j =>
      if e.charged then s
      else if s.split && tenantHalf e.mover ≠ homeHalf p then (s.setPlot p { e with charged := true }).shadowAdmit (homeHalf p)
      else if e.free then s.setPlot p { e with charged := true }
      else match s.weirAdmit e.mover e.cls (s.blockSectors p e j) with
        | (.hold, s) => s
        | (_, s) => s.modPlot p (fun e => { e with charged := true })

/-- A promotion from a Far place reads its next block by DMA (Table TIR-6); over the bridge, when it is up and does not
retrain (R14, R15). -/
def State.readNext (p : Nat) (s : State) : State :=
  match s.plot p with
  | some e =>
    if e.st = .promoting && e.farb && !(e.farAcross p && (s.split || s.bridge.retraining)) then
      match e.nextBlock with
      | some j => s.farFetch (.move p) (farBlockKey (16 * p + j)) (locLender e.loc)
          (s.farAddr e.loc (s.storedAt p e j)) (64 * s.blockSectors p e j)
      | none => s
    else s
  | none => s

/-- Near poison of a plot dropped with its slot. -/
def State.dropNear (p : Nat) (s : State) : State :=
  s.modTier (fun t => { t with npoison := ndelRange (p * 8192) 8192 t.npoison })

/-- Free a plot's Near slot: back to its backing place, with no claim (Table TIR-6). A pin stays (R93). -/
def State.freeNear (p : Nat) (s : State) : State :=
  (s.modPlot p (fun e => { e with st := if e.farb then .far else .bulk, slot := 0, dirty := 0#16, copied := 0#16,
                                  cancel := false, charged := false, claims := [] })).dropNear p

/-- A relocation of the plot is running or parked (R379). -/
def State.relocating (p : Nat) (s : State) : Bool :=
  match s.tier.reloc with
  | some r => decide (r.plot = p)
  | none => false

/-! Moves to Far (Table TIR-6, Table TIR-9). -/

/-- Start a BULK plot's move into extent l. -/
def State.startFarMove (p l cls mover : Nat) (free : Bool) (s : State) : Option State :=
  match s.plot p with
  | none => none
  | some e =>
    if e.st = .bulk && e.expend && !s.relocating p then
      match s.freeFar l, s.chargeFar e.qtenant with
      | some o, some pool =>
        some ((s.tickFree.setPlot p { e with
          st := .demoting, fmove := true, copied := 0#16, cancel := false, cls := cls, mover := mover, free := free,
          charged := false, farDst := some (l, o), farPool := pool, farWant := none, stamp := s.now }).admitCopy p)
      | _, _ => none
    else none

/-- A DEMOTE with TOFAR: the move starts once the plot is BULK with no claim, no pin and EXPEND set, if its charge
allows (Table ALM-6). While the plot has a Near slot, or is under relocation, the wish stays with it; a later claim ends
it (DESIGN CHOICE, log 80). -/
def State.wantFar (p cls mover : Nat) (s : State) : State :=
  match s.plot p with
  | none => s
  | some e =>
    if !e.expend then s
    else if e.hasSlot || (e.st = .bulk && s.relocating p) then s.setPlot p { e with farWant := some (cls, mover) }
    else if e.st = .bulk then
      let s := s.setPlot p { e with farWant := none }
      if e.claims = [] && e.pins = [] then
        match s.bestExtent with
        | some l => (s.startFarMove p l cls mover false).getD s
        | none => s
      else s
    else s

/-- A plot that has become BULK takes up the DEMOTE to Far that waited for it. -/
def State.takeWish (p : Nat) (s : State) : State :=
  match s.plot p with
  | some e => match e.farWant with
    | some w => if e.st = .bulk then s.wantFar p w.1 w.2 else if e.hasSlot then s else s.setPlot p { e with farWant := none }
    | none => s
  | none => s

/-- Leave the Near tier: no claim and no pin is left (Table TIR-6). A plot under relocation waits (R379), and a
write-back that is being cancelled takes the new class and mover at its block boundary (R81, R85). -/
def State.leaveNear (p cls mover : Nat) (free : Bool) (s : State) : State :=
  match s.plot p with
  | none => s
  | some e =>
    if e.claims ≠ [] || e.pins ≠ [] then s
    else if s.relocating p then s.setPlot p { e with cls := cls, mover := mover, free := free }
    else match e.st with
      | .near => (s.freeNear p).takeWish p
      | .nearDirty =>
        (s.setPlot p { e with st := .demoting, fmove := false, copied := 0#16, cancel := false, cls := cls, mover := mover,
                              free := free, charged := false, stamp := s.now }).admitCopy p
      | .demoting => if !e.fmove && e.cancel then s.setPlot p { e with cls := cls, mover := mover, free := free } else s
      | _ => s

/-- One eviction walk over pool plots of a half in decreasing age (R88): room made or not. -/
def State.evictSteps (h : Half) : List Nat → State → Bool × State
  | [], s => (false, s)
  | p :: r, s =>
    match s.plot p with
    | none => State.evictSteps h r s
    | some e =>
      if e.st = .promoting || e.st = .demoting then State.evictSteps h r s
      else match (e.claims.map Claim.tenant).min? with
        | none => State.evictSteps h r s
        | some t =>
          let s := (s.setPlot p { e with claims := e.claims.filter (fun c => c.tenant ≠ t) }).cntBar t Reg.TIR_EVICT 31 16 1
          if (e.claims.filter (fun c => c.tenant ≠ t)) = [] then (true, (s.leaveNear p 0 t true).settle p)
          else State.evictSteps h r s

/-- Order of the walk: older first, then the lower plot number. -/
def ageBefore (clock : Nat) (a b : Nat × Plot) : Bool :=
  a.2.ageAt clock > b.2.ageAt clock || (a.2.ageAt clock = b.2.ageAt clock && a.1 ≤ b.1)

def State.evictWalk (h : Half) (s : State) : Bool × State :=
  let l := (s.tier.plots.filter (fun e => e.2.isPool && homeHalf e.1 = h)).mergeSort (ageBefore s.clk.age)
  State.evictSteps h ((l.map Prod.fst).take 64) s

/-- Room for one more pool plot: the home half's walk, then the other half's (R87). -/
def State.poolRoom (h : Half) (s : State) : Bool × State :=
  if s.poolOcc < s.poolN then (true, s)
  else match s.evictWalk h with
    | (true, s) => (true, s)
    | (false, s) => s.evictWalk (halfOther h)

/-- A free slot on a half, with eviction there where there is none (R87). -/
def State.slotRoom (h : Half) (s : State) : Option Nat × State :=
  match s.freeSlot h with
  | some n => (some n, s.tickFree)
  | none => match s.evictWalk h with
    | (_, s) => match s.freeSlot h with
      | some n => (some n, s.tickFree)
      | none => (none, s)

/-- Walks until occupancy is back within the limit (R87); n bounds their number. -/
def State.poolTrim (h : Half) : Nat → State → State
  | 0, s => s
  | n + 1, s =>
    if s.poolOcc ≤ s.poolN then s
    else match s.evictWalk h with
      | (true, s) => State.poolTrim h n s
      | (false, s) => match s.evictWalk (halfOther h) with
        | (true, s) => State.poolTrim h n s
        | (false, s) => s

/-- Trim the pool after a plot became a pool plot. -/
def State.poolAfter (p : Nat) (was : Bool) (s : State) : State :=
  match s.plot p with
  | some e => if e.isPool && !was then s.poolTrim (homeHalf p) (s.tier.plots.length + 1) else s
  | none => s

/-- Remove tenant t's claim on plot p (Table TIR-8); a write-back it starts has class cls and is charged unless free. A
claim of t on the plot that still waits under R89 stays (DESIGN CHOICE, log 81). -/
def State.removeClaim (p t cls : Nat) (free : Bool) (s : State) : State :=
  match s.plot p with
  | none => s
  | some e =>
    match e.claimOf t with
    | none => s
    | some _ =>
      let was := e.isPool
      let s := s.setPlot p { e with claims := e.claims.filter (fun c => c.tenant ≠ t) }
      ((s.leaveNear p cls t free).poolAfter p was).settle p

/-- Clear tenant t's pin on plot p (R93). -/
def State.removePin (p t cls : Nat) (free : Bool) (s : State) : State :=
  match s.plot p with
  | none => s
  | some e =>
    if nmem t e.pins then
      let was := e.isPool
      let s := s.setPlot p { e with pins := ndel t e.pins }
      ((s.leaveNear p cls t free).poolAfter p was).settle p
    else s

/-- A plot in its state after a cancelled write-back takes the row of Table TIR-6 that then applies (R81). -/
def State.endCancel (p : Nat) (s : State) : State :=
  match s.plot p with
  | none => s
  | some e =>
    (s.setPlot p { e with st := if e.dirty = 0#16 then .near else .nearDirty, cancel := false, charged := false }).leaveNear
      p e.cls e.mover e.free

/-- A move to Far ends without effect: the plot is BULK, and the Far place and what was copied are given up. -/
def State.cancelFarMove (p : Nat) (s : State) : State :=
  (s.modPlot p (fun e => { e with st := .bulk, fmove := false, farDst := none, copied := 0#16, charged := false,
                                  cancel := false })).dropNear p

/-- A plot's write-back or move to Far is cancelled: it stops at once between two blocks, and else at the boundary of the
block that is being copied (Table TIR-6, R81). -/
def State.cancelMove (p : Nat) (s : State) : State :=
  match s.plot p with
  | none => s
  | some e =>
    if e.st ≠ .demoting then s
    else if e.charged then s.setPlot p { e with cancel := true }
    else if e.fmove then s.cancelFarMove p
    else s.endCancel p

/-- A claim of tenant t stops the plot's move to Far, unless it is a pin without headroom (R86, Table TIR-6). -/
def State.yieldFar (p t : Nat) (pin : Bool) (s : State) : State :=
  match s.plot p with
  | some e => if e.st = .demoting && e.fmove && !(pin && !s.nearHeadroom t) && !s.oversize p e then s.cancelMove p else s
  | none => s

/-! Claims. -/

/-- What a claim asked for came to. -/
inductive ClaimRes where
  | skipped
  | granted
  | waiting
  | refused
deriving DecidableEq, Repr

def ClaimCause.pin : ClaimCause → Bool
  | .auto => false
  | .op _ p => p
  | .alm _ _ _ p => p

def ClaimCause.isAuto : ClaimCause → Bool
  | .auto => true
  | _ => false

/-- A plot that is claimed and has no slot starts its promotion into a free one (Table TIR-6). -/
def State.startPromotion (p slot cls : Nat) (c : Claim) (pin : Bool) (s : State) : State :=
  ((s.modPlot p (fun e => { e with
      st := .promoting, slot := slot, claims := [c], pins := if pin then nins c.tenant e.pins else e.pins, dirty := 0#16,
      copied := 0#16, cancel := false, fmove := false, farWant := none, cls := cls, mover := c.tenant, free := false, charged := false,
      stamp := s.now })).admitCopy p).readNext p

/-- Add or upgrade a claim of tenant t on plot p (R80, R86, R87, R92; Table TIR-8). A claim that must wait changes no
claim of the plot; a plot's move to Far is stopped for it. -/
def State.tryClaim (p t cls : Nat) (cause : ClaimCause) (s : State) : ClaimRes × State :=
  let s := s.yieldFar p t cause.pin
  match s.plot p with
  | none => (.skipped, s)
  | some e =>
    if e.st = .unwritten || e.st = .farLost || s.oversize p e then (.skipped, s)
    else match e.claimOf t with
      | some c =>
        let c' : Claim := { c with auto := c.auto && cause.isAuto }
        if cause.pin && c.pool && !s.nearHeadroom t then (.refused, s)
        else
          let c' : Claim := if cause.pin then { c' with pool := false } else c'
          (.granted, s.setPlot p { e with
            claims := mapIf (fun x => decide (x.tenant = t)) (fun _ => c') e.claims,
            pins := if cause.pin then nins t e.pins else e.pins, age := s.clk.age })
      | none =>
        let q := s.nearHeadroom t
        if cause.pin && !q then (.refused, s)
        else
          let c : Claim := { tenant := t, auto := cause.isAuto, pool := !q }
          let h := homeHalf p
          if e.hasSlot then
            let e' : Plot := { e with claims := e.claims ++ [c], pins := if cause.pin then nins t e.pins else e.pins,
                                      age := s.clk.age, farWant := none }
            if e'.isPool && !e.isPool then
              match s.poolRoom h with
              | (true, s) => (.granted, (s.setPlot p e').cancelMove p)
              | (false, s) => (.waiting, s)
            else (.granted, (s.setPlot p e').cancelMove p)
          else if e.st = .demoting then (.waiting, s)
          else if s.relocating p then (.waiting, s)
          else
            match (if c.pool then s.poolRoom h else (true, s)) with
            | (false, s) => (.waiting, s)
            | (true, s) => match s.slotRoom h with
              | (none, s) => (.waiting, s)
              | (some n, s) => (.granted, s.startPromotion p n cls c cause.pin)

/-- Ask for a claim; what must wait waits (R89), what is refused is reported by its cause. -/
def State.askClaim (p t cls : Nat) (cause : ClaimCause) (s : State) : State :=
  match s.tryClaim p t cls cause with
  | (.waiting, s) => s.modTier (fun x => { x with
      waits := x.waits ++ [{ id := x.nextWait, plot := p, tenant := t, cause := cause, cls := cls }], nextWait := x.nextWait + 1 })
  | (.refused, s) => s.refuseClaim p t cause
  | (_, s) => s.settle p

/-- Try one waiting claim again (R89). -/
def State.retryClaim (w : WaitClaim) (s : State) : State :=
  match s.tryClaim w.plot w.tenant w.cls w.cause with
  | (.waiting, s) => s
  | (r, s) =>
    let s := s.modTier (fun x => { x with waits := x.waits.filter (fun y => y.id ≠ w.id) })
    if r = .refused then s.refuseClaim w.plot w.tenant w.cause else s.settle w.plot

/-- A waiting claim ends refused (R89). -/
def State.dropWait (w : WaitClaim) (s : State) : State :=
  (s.modTier (fun x => { x with waits := x.waits.filter (fun y => y.id ≠ w.id) })).refuseClaim w.plot w.tenant w.cause

/-- The oldest POOL-charged BULK plot with EXPEND set moves to Far (Table TIR-9, Bulk), and its number: none where there
is no such plot or no extent has room. The move has class label 0 and is QTENANT's, uncharged (DESIGN CHOICE, log 82). -/
def State.bulkRelief (s : State) : Option (Nat × State) :=
  let l := (s.tier.plots.filter (fun e => e.2.st = .bulk && e.2.expend && e.2.pool && e.2.hasBulk)).mergeSort (ageBefore s.clk.age)
  match l with
  | [] => none
  | (p, e) :: _ => match s.bestExtent with
    | none => none
    | some x => (s.startFarMove p x 0 e.qtenant true).map (fun s => (p, s))

/-- The move to Far that an allocation started has not ended. -/
def State.reliefRuns (w : Option Nat) (s : State) : Bool :=
  match w.bind (fun p => s.plot p) with
  | some e => e.st = .demoting && e.fmove
  | none => false

/-- Copy the poison of block j of a plot from one copy's keys to the other's, with the sectors that read
uncorrectable (R98). -/
def copyPoison (keys bad : List Nat) (src dst : NSet) : NSet :=
  forAll keys (fun k d => if nmem k src || bad.contains k then nins k d else ndel k d) dst

/-- A record of sectors that read uncorrectable in a move (R98, Table RAS-8). source as Table RAS-7. -/
def State.mediaMove (p j : Nat) (bad : List Nat) (source : Nat) (s : State) : State :=
  match bad with
  | [] => s
  | b :: _ =>
    let r : Rec := { typ := 0x01, sev := 2, loc := locUa (p * 65536 + j * 4096 + b * 64), aux0 := source, aux1 := 0xFFFFFFFF }
    (s.logRec r).fmStd 2 2 r

/-- End a promotion: NEAR, or back to the backing place where no claim and no pin is left. -/
def State.endPromotion (p : Nat) (s : State) : State :=
  match s.plot p with
  | none => s
  | some e => (s.setPlot p { e with st := .near, copied := 0#16, charged := false }).leaveNear p e.cls e.mover e.free

/-- End a move to Far: the Bulk place is freed, the plot is FAR, and the Far copy's poison is the plot's. -/
def State.endFarMove (p : Nat) (s : State) : State :=
  let s := s.modPlot p (fun e => match e.farDst with
    | some d => { e with st := .far, farb := true, loc := farLoc d.1 d.2, farDst := none, pool := e.farPool, fmove := false,
                         copied := 0#16, charged := false, cancel := false, units := if e.mode = .packed then e.units else 0 }
    | none => e)
  (s.modTier (fun t => { t with poison := ninsAll (t.npoison.filter (fun k => decide (k / 8192 = p)))
                                            (ndelRange (p * 8192) 8192 t.poison) })).dropNear p

/-- Posted DMA write of a block's stored bytes into a Far place. -/
def State.farWrite (l : Nat) (addr : W64) (b : List Byte) (s : State) : State := s.request l (.write addr b)

/-- Stored bytes of block j that a lending host returned replace what the module held of it (R73; Table TIR-6, copy by
DMA). A line that comes back as it was written keeps its key tag; any other is ciphertext of no known key (log 11). -/
def State.storeArrived (p j : Nat) (e : Plot) (b : List Byte) (s : State) : State :=
  if e.mode = .packed || e.mode = .fixed || (e.mode = .footprint && (s.sideEnt (16 * p + j)).len % 64 ≠ 0) then
    s.modTier (fun t => { t with area := mwrite (p * 131072 + s.storedAt p e j) b t.area })
  else
    forAll ((chunks 64 b).zipIdx) (fun c s =>
      let l := p * 1024 + j * 64 + c.2
      if lineBytes (s.storedLine l) = c.1 then s
      else s.modTier (fun t => { t with mem := mwrite (64 * l) c.1 t.mem, keyTag := tdel l t.keyTag })) s

/-- A block's copy waits for the bridge: while it retrains (R15), and for a write-back as long as it is down; what a
promotion reads across a bridge that is down is poison, and a move to Far then fails (R14, Table TIR-6). -/
def State.copyHeld (p : Nat) (e : Plot) (s : State) : Bool :=
  e.moveAcross p && (s.bridge.retraining || (s.split && e.st = .demoting && !e.fmove))

/-- One block of a plot's move has been copied; sectors in bad read uncorrectable (R80, R81, R98). Of a plot that moves to
Far, npoison holds the poison of the copy that is being made. -/
def State.blockDone (p : Nat) (bad : List Nat) (s : State) : State :=
  match s.plot p with
  | none => s
  | some e => match e.nextBlock with
    | none => s
    | some j =>
      if !e.charged || s.copyHeld p e || s.moveHeld p e j then s
      else if e.st = .demoting && e.fmove && e.moveAcross p && s.split then (s.cancelFarMove p).settle p
      else
        let keys := s.blockKeys p e j
        let (unread, s) := s.moveReads p e j bad (fun _ => true)
        let bk := unread.map (fun i => s.poisonKey p e j i)
        let s := s.mediaMove p j unread 2
        match e.st with
        | .promoting =>
          let arrived := if e.farb then s.farGot (.move p) (farBlockKey (16 * p + j)) else none
          let cut := e.farAcross p && s.split
          if e.farb && !cut && (match arrived with | some f => f.got.isNone | none => true) then s.readNext p
          else
            let s := match arrived with
              | some { got := some (.ok, b), .. } => s.storeArrived p j e b
              | _ => s
            let bk := match arrived with
              | some { got := some (.ok, _), .. } => bk
              | some _ => keys
              | none => if cut then keys else bk
            let s := s.modTier (fun t => { t with npoison := copyPoison keys bk t.poison t.npoison })
            let s := (s.farDrop (.move p)).moveWrites p { e with st := .near } j
            let e' : Plot := { e with copied := setBit j true e.copied, charged := false }
            let s := s.setPlot p e'
            if e'.nextBlock = none then (s.endPromotion p).settle p else (s.admitCopy p).readNext p
        | _ =>
          if e.fmove then
            let s := s.modTier (fun t => { t with npoison := copyPoison keys bk t.poison t.npoison })
            let s := match e.farDst with
              | some d => s.farWrite d.1 (s.farAddr (farLoc d.1 d.2) (s.storedAt p e j)) (s.storedBytes p e j)
              | none => s
            let e' : Plot := { e with copied := setBit j true e.copied, charged := false }
            let s := s.setPlot p e'
            if e.cancel then (s.cancelFarMove p).settle p
            else if e'.nextBlock = none then (s.endFarMove p).settle p
            else s.admitCopy p
          else
            let s := s.modTier (fun t => { t with poison := copyPoison keys bk t.npoison t.poison })
            let s := if e.farb then s.farWrite (locLender e.loc) (s.farAddr e.loc (s.storedAt p e j)) (s.storedBytes p e j)
              else s.moveWrites p { e with st := .bulk } j
            let e' : Plot := { e with dirty := setBit j false e.dirty, charged := false }
            let s := s.setPlot p e'
            if e.cancel then (s.endCancel p).settle p
            else if e'.dirty = 0#16 then
              ((s.freeNear p).takeWish p).settle p
            else s.admitCopy p

/-- A DMA read of a promotion times out: the promotion is abandoned (R99, Table TIR-6). -/
def State.abandonPromotion (p : Nat) (s : State) : State :=
  match s.plot p with
  | some e => if e.st = .promoting && e.farb then (((s.farDrop (.move p)).freeNear p).takeWish p).settle p else s
  | none => s

/-! Accesses (R82, R85). The trigger match of R109 is added where the Almanac is defined. -/

/-- Periods of R83: a DECAY below AGETICK acts as AGETICK. -/
def State.hot (s : State) : Nat := s.stwF Reg.TIR_CLS 31 24
def State.cold (s : State) : Nat := s.stwF Reg.TIR_CLS 23 16

/-- Count an access of tenant t to plot p, and classify it (on_access). Decay is applied at its boundaries (log 29). -/
def State.countAccess (p t : Nat) (s : State) : State :=
  match s.plot p with
  | none => s
  | some e =>
    let e' : Plot := { e with cnt := min 255 (e.cnt + 1), age := s.clk.age }
    let s := s.setPlot p e'
    if e.st = .unwritten || e.st = .farLost || e.mode = .fixed then s
    else if e'.cnt ≥ s.hot && bit 0 (s.stw (Reg.TIR_TCFG + 4 * t)) && (e.claimOf t).isNone then s.askClaim p t 1 .auto
    else s

end Sys2Proof.Machine
end

