-- ==== Sys2Proof/Machine/Store.lean ====
section
/-! DEFINITION. What a line and a block hold: reads of stored forms with their outcomes, write compressors, and admitted
line writes (R19 to R21, R77 to R79, R130 to R158, R329, R370, R399 to R402). -/

namespace Sys2Proof.Machine

/-! Expansion of one stored block (R146 to R148). -/

/-- The image of a generation that is current or draining in its slot (R150). -/
def State.genImage (slot gen : Nat) (s : State) : Option Gen :=
  let t := s.tslot slot
  match t.cur with
  | some g => if g.gen.toNat = gen then some g else t.drain.filter (fun d => d.gen.toNat = gen)
  | none => t.drain.filter (fun d => d.gen.toNat = gen)

/-- What expanding a block came to: its contents or status, the counter index of R154 and the tensor tag. -/
structure Xp where
  res : Except Status (List Byte)
  idx : Nat := 256
  tag : Nat := 0
  fmt : Nat := 0
  lay : Nat := 0

def checkVal (c : Nat) (b : List Byte) : Except Status (List Byte) :=
  if (crc32c b).toNat = c then .ok b else .error .checkMismatch

/-- Expand, then compare with CHECK (Table CMP-8, rows 3 to 6). -/
def expandCheck (st : List Byte) (dirAt xlen fmt lay check : Nat) (tab : Option (Nat → Option SubTab)) :
    Except Status (List Byte) :=
  match expandStream st dirAt xlen fmt lay tab with
  | .error e => .error e
  | .ok b => checkVal check b

/-- A coded block behind a header: packed with mode 0, fixed with mode 2 or 3; len is the sector map's LEN. -/
def State.expandCoded (h : BHdr) (st : List Byte) (mode len : Nat) (esc : List Byte) (s : State) : Xp :=
  let idx := if h.slot = 0xFF then 256 else h.slot
  let x (r : Except Status (List Byte)) : Xp := { res := r, idx := idx, tag := h.tag, fmt := h.fmt, lay := h.lay }
  if h.slot ≠ 0xFF && (s.genImage h.slot h.gen).isNone then x (.error .tableRetired)
  else if !hdrOk h || (mode = 0 && (h.mode ≠ 0 || h.len ≠ len)) || (mode = 2 && h.mode ≠ 2 && h.mode ≠ 3) then
    x (.error .expandUnderrun)
  else if h.mode = 3 then x (checkVal h.check (esc.take h.xlen))
  else x (expandCheck st 16 h.xlen h.fmt h.lay h.check
    (if h.slot = 0xFF then none else (s.genImage h.slot h.gen).map (fun g => subOf g.image)))

/-- Escape pool entry of a half: its 4,096 bytes (R145). -/
def State.escEntry (h : Half) (i : Nat) (s : State) : List Byte := mread ((halfIdx h * 262144 + i) * 4096) 4096 s.tier.esc

/-- The contents of block j of plot p from its stored bytes. -/
def State.expandBlk (p : Nat) (e : Plot) (j : Nat) (st : List Byte) (s : State) : Xp :=
  match e.mode with
  | .raw => { res := .ok st }
  | .footprint =>
    let d := s.sideEnt (16 * p + j)
    if d.len = 0 || d.part then { res := .ok st, idx := 255, fmt := d.fmt }
    else if d.len = 64 then { res := checkVal d.check st, idx := 255, fmt := d.fmt }
    else { res := expandCheck st 0 4096 d.fmt 0 d.check (some (fun i => if i < 2 then some (builtinSub i) else none)),
           idx := 255, fmt := d.fmt }
  | .packed =>
    let m := s.smapEnt (16 * p + j)
    if m.len = 64 then
      { res := checkVal m.check (st.take (4096 + appLen m.fmt m.lay)), tag := m.tag, fmt := m.fmt, lay := m.lay }
    else s.expandCoded (hdrOf st) st 0 m.len []
  | .fixed => s.expandCoded (hdrOf st) st 2 0 (s.escEntry (homeHalf p) (leAt st 16 4))

/-- Count and log an expansion failure (R154); row is the consumer's row of Table CMP-13. -/
def State.blockFail (t row b : Nat) (x : Xp) (st : Status) (s : State) : State :=
  let k := x.idx
  let s := s.modCmp (fun c => match st with
    | .tableRetired => { c with terr0 := tset 0#32 k (satField 31 16 1 (tget 0#32 k c.terr0)) c.terr0 }
    | .checkMismatch => { c with terr0 := tset 0#32 k (satField 15 0 1 (tget 0#32 k c.terr0)) c.terr0 }
    | .expandOverrun => { c with terr1 := tset 0#32 k (satField 31 16 1 (tget 0#32 k c.terr1)) c.terr1 }
    | _ => { c with terr1 := tset 0#32 k (satField 15 0 1 (tget 0#32 k c.terr1)) c.terr1 })
  (s.cntBar t Reg.CMP_XERR 31 16 1).logRec
    { typ := 0x04, sev := 2, status := st.code, tenant := some t, unit := unitNo 8 k, loc := b * 4096, aux0 := row, aux1 := x.tag }

/-! Kept blocks of link expanders (R156). -/

def State.keptGet (x b : Nat) (s : State) : Option (List Byte) :=
  ((tget [] x s.cmp.kept).find? (fun k => k.1 = b)).map Prod.snd

/-- Put a block, or move it, to the most recently used place; 16 are kept. -/
def State.keptUse (x b : Nat) (v : List Byte) (s : State) : State :=
  s.modCmp (fun c =>
    let l := (tget [] x c.kept).filter (fun k => k.1 ≠ b)
    let l := if l.length ≥ 16 then l.drop 1 else l
    { c with kept := tset [] x (l ++ [(b, v)]) c.kept })

/-- Every kept copy of the blocks that meet d is dropped. -/
def State.keptDrop (d : Nat → Bool) (s : State) : State :=
  s.modCmp (fun c => { c with kept := c.kept.filterMap (fun e =>
    let l := e.2.filter (fun k => !d k.1)
    if l = [] then none else some (e.1, l)) })

/-- Staged copies of the blocks that meet d are dropped: at once, or when the tile that reads them ends (R74, R195). -/
def Engine.dropStaged (d : Nat → Bool) (g : Engine) : Engine :=
  let busy (b : Nat) : Bool := match g.tile with
    | some t => nmem b t.blocks
    | none => false
  { g with staged := (g.staged.filter (fun e => !d e.block || busy e.block)).map (fun e => if d e.block then { e with drop := true } else e) }

def State.stagedDrop (d : Nat → Bool) (s : State) : State :=
  { s with fes := s.fes.filterMap (fun e =>
      let g := e.2.dropStaged d
      if g = {} then none else some (e.1, g)) }

/-- The read serves a unit's access or an engine's fill: its bytes are a copy that a write makes stale (R74). -/
def Reader.copies : Reader → Bool
  | .op _ => true
  | .grain _ => true
  | .engine _ => true
  | .move _ => false
  | .close _ => false

/-- A write admitted to a block invalidates its kept and staged copies (R74, R156), those on their way among them. -/
def State.invalidate (b : Nat) (s : State) : State :=
  ((s.keptDrop (fun k => k = b)).stagedDrop (fun k => k = b)).modTier (fun t => { t with
    farBuf := t.farBuf.filter (fun f => !(f.who.copies && keyBlock f.key = b)) })

/-! Open blocks (R19 to R21). -/

def State.openBlk (b : Nat) (s : State) : Option OpenBlk := s.cmp.opened.find? (fun o => o.block = b)

def State.dropOpen (d : Nat → Bool) (s : State) : State :=
  s.modCmp (fun c => { c with opened := c.opened.filter (fun o => !d o.block) })

/-! Line reads. -/

/-- What a line read came to: far names the DMA read that must come first. -/
inductive LineRes where
  | data (l : Line)
  | poison (c : Status)
  | far (key lender : Nat) (addr : W64) (len : Nat)
deriving DecidableEq, Repr

/-- Every line of block j of a plot has been written (ALLW, R78). -/
def State.allWritten (p j : Nat) (s : State) : Bool :=
  (List.range 64).all (fun i => nmem (p * 1024 + j * 64 + i) s.tier.written)

/-- The key that an access under a translation entry uses: 0 for none (R399). -/
def State.keyVal (enc : Option Nat) (s : State) : BitVec 512 := match enc with
  | some k => (s.key k).k
  | none => 0#512

/-- The slot of an entry is loaded on the home half of plot p, or the entry names none (R401): a half that a zeroise has
not reached goes on with its key (R403), and so does a use that began before the zeroise (R402). -/
def State.keyReady (p : Nat) (began : Bool) (enc : Option Nat) (s : State) : Bool := match enc with
  | some k => (s.key k).st = .loaded || nmem k (s.half (homeHalf p)).pendZeroise || (began && (s.key k).st = .zeroising)
  | none => true

/-- A raw line as a reader under key kv sees it. -/
def State.rawLine (kv : BitVec 512) (l : Nat) (s : State) : Line :=
  let d := bytesLine (mread (64 * l) 64 s.tier.mem)
  let tg := tget 0#512 l s.tier.keyTag
  if tg = kv then d else Config.garble tg kv l d

/-- A raw line that a lending host returned. -/
def State.rawArrived (kv : BitVec 512) (l : Nat) (b : List Byte) (s : State) : Line :=
  if lineBytes (s.storedLine l) = b then s.rawLine kv l
  else if kv = 0#512 then bytesLine b else Config.garble 0#512 kv l (bytesLine b)

def sliceLine (b : List Byte) (i : Nat) : Line := bytesLine (slice b (64 * i) 64)

/-- Who reads, and what comes with the read: the link expander, the tenant, the consumer's row of Table CMP-13, whether
it is a host load, its key slot, the medium's outcome, and the bytes a lending host returned. -/
structure Rd where
  x : Nat
  t : Nat
  row : Nat := 1
  /-- Its lookup was made before (R402). -/
  began : Bool := false
  host : Bool := false
  /-- It is at step 5 or above (R332). -/
  urgent : Bool := false
  enc : Option Nat := none
  md : Media := .clean
  got : Option (Except Status (List Byte)) := none

/-- The current copy is in a Far place (Table TIR-5). -/
def Plot.readsFar (e : Plot) : Bool := e.farb && !e.nearCurrent

/-- One line of each row that DRAM lines touch. -/
def rowsOf (l : List DLoc) : List DLoc :=
  l.foldl (fun l d => if l.any (fun x => x.chan = d.chan && x.bankKey = d.bankKey && x.row = d.row) then l else l ++ [d]) []

/-- DRAM lines under byte offsets of a plot's place, one for each row that they touch. -/
def State.dlocs (p : Nat) (e : Plot) (offs : List Nat) (s : State) : List DLoc := rowsOf (offs.filterMap (fun o => s.dloc p e o))

/-- The medium under bytes of a plot's place: false where the read ends with poison, a lost channel under any of them
among the causes (R148, R386). What the reader's operand shows is in the first line; poisoned is set where the stored form is
poisoned (R326). -/
def State.mediumAt (r : Rd) (p : Nat) (e : Plot) (offs : List Nat) (ua : Nat) (poisoned : Bool) (s : State) : Bool × State :=
  match offs.filterMap (fun o => s.dloc p e o) with
  | [] => (true, s)
  | d :: l =>
    if (d :: l).any (fun x => s.chanLost x) then (false, s)
    else (d :: l).foldl (fun (a : Bool × State) x => match a.2.mediaRead x ua (some r.t) r.host poisoned with
      | (ok, s) => (a.1 && ok, s)) (true, (forAll (rowsOf (d :: l)) (fun x s => s.touchRow r.urgent x) s).mediaFind d r.md)

/-- Read line i of block j of a raw plot. -/
def State.readRaw (r : Rd) (p : Nat) (e : Plot) (j i : Nat) (s : State) : LineRes × State :=
  let l := p * 1024 + j * 64 + i
  if e.readsFar then
    match r.got with
    | none => (.far (farLineKey l) (locLender e.loc) (s.farAddr e.loc (4096 * j + 64 * i)) 64, s)
    | some (.error c) => (.poison c, s)
    | some (.ok b) =>
      if s.curPoison e (p * 8192 + 64 * j + i) then (.poison .poisonConsumed, s) else (.data (s.rawArrived (s.keyVal r.enc) l b), s)
  else
    let bad := s.curPoison e (p * 8192 + 64 * j + i)
    match s.mediumAt r p e [4096 * j + 64 * i] (64 * l) bad with
    | (false, s) => (.poison .poisonConsumed, s)
    | (true, s) => if bad then (.poison .poisonConsumed, s) else (.data (s.rawLine (s.keyVal r.enc) l), s)

/-- What a block read came to. -/
inductive BlkRes where
  | data (b : List Byte)
  | poison (c : Status)
  | far (key lender : Nat) (addr : W64) (len : Nat)
deriving DecidableEq, Repr

/-- Expand a block from its stored bytes for a reader; the contents are kept in its expander (R154, R156). -/
def State.expandFor (r : Rd) (p : Nat) (e : Plot) (j : Nat) (st : List Byte) (s : State) : BlkRes × State :=
  let x := s.expandBlk p e j st
  match x.res with
  | .ok b => (.data b, s.keptUse r.x (16 * p + j) b)
  | .error c => (.poison c, s.blockFail r.t r.row (16 * p + j) x c)

/-- The contents of block j of a packed, footprint or fixed plot (R147, R148). -/
def State.readBlock (r : Rd) (p : Nat) (e : Plot) (j : Nat) (s : State) : BlkRes × State :=
  let b := 16 * p + j
  match s.keptGet r.x b with
  | some v => (.data v, s.keptUse r.x b v)
  | none =>
    let bad := (s.blockKeys p e j).any (fun k => s.curPoison e k)
    if e.readsFar then
      match r.got with
      | none => (.far (farBlockKey b) (locLender e.loc) (s.farAddr e.loc (s.storedAt p e j)) (64 * s.blockSectors p e j), s)
      | some (.error c) => (.poison c, s)
      | some (.ok st) => if bad then (.poison .poisonConsumed, s) else s.expandFor r p e j st
    else
      match s.mediumAt r p e (s.blockOffs p e j) (4096 * b) bad with
      | (false, s) => (.poison .poisonConsumed, s)
      | (true, s) => if bad then (.poison .poisonConsumed, s) else s.expandFor r p e j (s.storedBytes p e j)

/-- Line i of an open block where it is assembled, and whether it came poisoned (R20, R370). -/
def State.assembled (b i : Nat) (s : State) : Option (Line × Bool) :=
  (s.openBlk b).bind (fun o => (tfind i o.data).map (fun l => (l, nmem i o.bad)))

/-- Read line i of block j through an expander; a line in an assembly buffer comes from there (R20), and a PARTIAL
block is read line by line (R142). -/
def State.readCoded (r : Rd) (p : Nat) (e : Plot) (j i : Nat) (s : State) : LineRes × State :=
  match s.assembled (16 * p + j) i with
  | some (l, bad) => (if bad then .poison .poisonConsumed else .data l, s)
  | none =>
    if e.mode = .footprint && (s.sideEnt (16 * p + j)).part then s.readRaw { r with enc := none } p e j i
    else match s.readBlock r p e j with
      | (.data b, s) => (.data (sliceLine b i), s)
      | (.poison c, s) => (.poison c, s)
      | (.far k l a n, s) => (.far k l a n, s)

/-- The plot lookup's checks for a read, and the read from the tier that holds it (R77 to R79, R131, Table ARC-4). One whose slot
left LOADED while its bytes were on their way is no request counted under R401 (R402). -/
def State.readPlotLine (r : Rd) (ua : Nat) (s : State) : LineRes × State :=
  let p := plotOf ua
  match s.plot p with
  | none => (.poison .uninitRead, s)
  | some e =>
    if r.enc.isSome && e.mode ≠ .raw then (.poison .permission, s.cntBar r.t Reg.CMP_XERR 15 0 1)
    else if !nmem (lineOf ua) s.tier.written then (.poison .uninitRead, s)
    else if e.st = .farLost then (.poison .farLost, s)
    else if !s.keyReady p r.began r.enc then (.poison .permission, if r.got.isSome then s else s.cntBar r.t Reg.SEC_TERR 15 0 1)
    else if e.mode = .raw then s.readRaw r p e (blockOf ua) (sectorOf ua)
    else s.readCoded r p e (blockOf ua) (sectorOf ua)

/-- n bytes of the scale plane of window w from offset o, read within one payload block (R157). Where the payload plot is
not assigned the outcome is the block's own, UNINIT_READ (DESIGN CHOICE, log 83). -/
def State.readScalePart (r : Rd) (w : SWin) (o n : Nat) (s : State) : BlkRes × State :=
  let st := strideOf w.fmt
  let b := 16 * w.payload + o / st
  let p := b / 16
  match s.plot p with
  | none => (.poison .uninitRead, s)
  | some e =>
    if e.mode ≠ .packed then (.poison .permission, s)
    else if (s.smapEnt b).len = 0 then (.poison .uninitRead, s)
    else if e.st = .farLost then (.poison .farLost, s)
    else
      let m := s.smapEnt b
      let h := hdrOf (s.storedBytes p e (b % 16))
      let f := if m.len = 64 then (m.fmt, m.lay) else (h.fmt, h.lay)
      if f ≠ (w.fmt, w.lay) then (.poison .permission, s)
      else match s.readBlock r p e (b % 16) with
        | (.data v, s) => (.data ((List.range n).map (fun i => ((v.drop 4096)[o % st + i]?).getD 0#8)), s)
        | (x, s) => (x, s)

/-- A line of a scale window; a stride of 32 puts two blocks' appendices into one line (R157). -/
def State.readScale (r : Rd) (w : SWin) (ua : Nat) (s : State) : LineRes × State :=
  let o := ua / 64 * 64 - w.scale * 65536
  if strideOf w.fmt = 32 then
    match s.readScalePart r w o 32 with
    | (.data a, s) => match s.readScalePart r w (o + 32) 32 with
      | (.data b, s) => (.data (bytesLine (a ++ b)), s)
      | (.poison c, s) => (.poison c, s)
      | (.far k l a n, s) => (.far k l a n, s)
    | (.poison c, s) => (.poison c, s)
    | (.far k l a n, s) => (.far k l a n, s)
  else
    match s.readScalePart r w o 64 with
    | (.data a, s) => (.data (bytesLine a), s)
    | (.poison c, s) => (.poison c, s)
    | (.far k l a n, s) => (.far k l a n, s)

/-- Byte offsets in a plot's place that the read of a line fetches from the module's own memory: none where the plot
lookup, a lending host, an assembly buffer or a kept block answers it (R20, R131, R156, Table ARC-4). -/
def State.readSpan (r : Rd) (ua : Nat) (s : State) : Option (Nat × Plot × List Nat) :=
  let coded (p : Nat) (e : Plot) (j : Nat) : Option (Nat × Plot × List Nat) :=
    if e.readsFar || (s.keptGet r.x (16 * p + j)).isSome then none else some (p, e, s.blockOffs p e j)
  match s.swinOf (plotOf ua) with
  | some w =>
    let b := 16 * w.payload + (ua / 64 * 64 - w.scale * 65536) / strideOf w.fmt
    match s.plot (b / 16) with
    | some e => if e.mode ≠ .packed || (s.smapEnt b).len = 0 || e.st = .farLost then none else coded (b / 16) e (b % 16)
    | none => none
  | none =>
    let p := plotOf ua
    let j := blockOf ua
    match s.plot p with
    | none => none
    | some e =>
      if (r.enc.isSome && e.mode ≠ .raw) || !nmem (lineOf ua) s.tier.written || e.st = .farLost || e.readsFar ||
          !s.keyReady p r.began r.enc then none
      else if e.mode = .raw then some (p, e, [4096 * j + 64 * sectorOf ua])
      else if (s.assembled (16 * p + j) (sectorOf ua)).isSome then none
      else if e.mode = .footprint && (s.sideEnt (16 * p + j)).part then some (p, e, [4096 * j + 64 * sectorOf ua])
      else coded p e j

/-- Read the line of a UA at its plot lookup and tier. -/
def State.readLine (r : Rd) (ua : Nat) (s : State) : LineRes × State :=
  match s.swinOf (plotOf ua) with
  | some w => s.readScale r w ua
  | none => s.readPlotLine r ua

/-! Writes. -/

/-- A write of block j takes its row of Table TIR-5; a Far read in flight for a running promotion is stale. -/
def State.touchWrite (p j : Nat) (s : State) : State :=
  match s.plot p with
  | none => s
  | some e => match e.st with
    | .unwritten => s.setPlot p { e with st := .bulk }
    | .near => s.setPlot p { e with st := .nearDirty, dirty := setBit j true e.dirty }
    | .nearDirty => s.setPlot p { e with dirty := setBit j true e.dirty }
    | .promoting =>
      let s := s.setPlot p { e with copied := setBit j false e.copied }
      if e.farb then ((s.modTier (fun t => { t with farBuf := t.farBuf.filter (fun f =>
        !(f.who = .move p && f.key = farBlockKey (16 * p + j))) })).readNext p) else s
    | .demoting =>
      if e.fmove then s.setPlot p { e with copied := setBit j false e.copied }
      else s.setPlot p { e with dirty := setBit j true e.dirty }
    | _ => s

/-- Set or clear the poison of keys in the copy that a write of the plot goes to. -/
def State.setPoison (e : Plot) (keys : List Nat) (v : Bool) (s : State) : State :=
  let f (n : NSet) : NSet := forAll keys (fun k n => if v then nins k n else ndel k n) n
  if e.nearCurrent then s.modTier (fun t => { t with npoison := f t.npoison })
  else s.modTier (fun t => { t with poison := f t.poison })

def fullBe : W64 := 0xFFFFFFFFFFFFFFFF#64

def State.markWritten (l : Nat) (s : State) : State := s.modTier (fun t => { t with written := nins l t.written })

/-- Queue a line write at its channel, or post it to the lending host (R79, R328). -/
def State.sendLine (p : Nat) (e : Plot) (off : Nat) (b : List Byte) (s : State) : State :=
  if e.readsFar then s.farWrite (locLender e.loc) (s.farAddr e.loc off) b
  else match s.dloc p e off with
    | some d => s.queueWrite d
    | none => s

/-- Store line i of block j of a raw plot for tenant t under key kv (R329, R370, R399); a line not yet written is not read: the
bytes merge into zeros (R410). A part of a line that reads uncorrectable is stored poisoned. -/
def State.writeRaw (t p : Nat) (e : Plot) (j i : Nat) (kv : BitVec 512) (d : Line) (be : W64) (poison : Bool) (s : State) : State :=
  let l := p * 1024 + j * 64 + i
  let whole := be = fullBe || !nmem l s.tier.written
  let (ok, s) := if whole then (true, s)
    else s.mediumAt { x := 0, t := t } p e [4096 * j + 64 * i] (64 * l) (s.curPoison e (p * 8192 + 64 * j + i))
  let v := if be = fullBe then d else mergeLine (if whole then 0#512 else s.rawLine kv l) d be
  let s := s.modTier (fun t => { t with mem := mwrite (64 * l) (lineBytes v) t.mem, keyTag := tset 0#512 l kv t.keyTag })
  let s := if poison || !ok then s.setPoison e [p * 8192 + 64 * j + i] true
    else if whole then s.setPoison e [p * 8192 + 64 * j + i] false else s
  ((s.sendLine p e (4096 * j + 64 * i) (lineBytes (s.storedLine l))).markWritten l).touchWrite p j

/-- The format a footprint block is coded in: the first enabled range that holds its plot, else 0x8 (R141). -/
def State.fpFormat (p : Nat) (s : State) : Nat :=
  match (List.range 64).find? (fun n =>
      let hi := s.stw (Reg.CMP_FPR_HI + 16 * n)
      let b := (s.stw (Reg.CMP_FPR_LO + 16 * n)).toNat + 2 ^ 32 * bits 3 0 hi
      bit 31 hi && b ≤ p && p < b + (s.stw (Reg.CMP_FPR_CNT + 16 * n)).toNat) with
  | some n => bits 27 24 (s.stw (Reg.CMP_FPR_HI + 16 * n))
  | none => 8

/-- The coded stream of 4,096 bytes in a format, where the compressor makes one of at most 63 sectors that expands to
them; the choice of methods is open (R141; log 8). A footprint range whose FMT has no coded form (0xB with layout 0, or reserved
0xC to 0xF) is stored raw under that FMT: the spec does not say how (DESIGN CHOICE, log 8). -/
def footStream (fmt : Nat) (b : List Byte) : Option (List Byte) :=
  let c := Config.codeBlock fmt b
  let ok := match expandStream c 0 4096 fmt 0 (some (fun i => if i < 2 then some (builtinSub i) else none)) with
    | .ok v => v = b
    | .error _ => false
  if c.length % 64 = 0 && 64 ≤ c.length && c.length ≤ 4032 && layOk fmt 0 && ok &&
     !((fmt = 5 || fmt = 6) && !allZero (b.drop 4080)) then some c else none

/-- Store the contents of a footprint block: coded, raw, or PARTIAL with the lines in bad poisoned (R140 to R142). -/
def State.storeFoot (b : Nat) (v : List Byte) (bad : NSet) (s : State) : State :=
  let p := b / 16
  let j := b % 16
  match s.plot p with
  | none => s
  | some e =>
    let s := s.setPoison e ((p * 8192 + 1024 + j) :: (List.range 64).map (fun i => p * 8192 + 64 * j + i)) false
    let s := s.modTier (fun t => { t with area := mclear (p * 131072 + 4096 * j) 4096 t.area, mem := mclear (4096 * b) 4096 t.mem })
    let fmt := s.fpFormat p
    let s := match (if bad = [] then footStream fmt v else none) with
      | some cs =>
        let d : Side := { len := cs.length / 64, fmt := fmt, part := false, check := (crc32c v).toNat }
        s.modTier (fun t => { t with area := mwrite (p * 131072 + 4096 * j) cs t.area, side := tset 0#64 b (sideWord d) t.side })
      | none =>
        let d : Side := { len := 64, fmt := fmt, part := bad ≠ [], check := if bad = [] then (crc32c v).toNat else 0 }
        (s.modTier (fun t => { t with mem := mwrite (4096 * b) v t.mem, side := tset 0#64 b (sideWord d) t.side })).setPoison
            e (bad.map (fun i => p * 8192 + 64 * j + i)) true
    let s := if bad = [] then s
      else (s.cntBar e.qtenant Reg.CMP_WERR 15 0 1).logRec
        { typ := 0x06, sev := 1, tenant := some e.qtenant, loc := b * 4096, aux0 := bad.length }
    (s.sendLine p e (4096 * j) (s.storedBytes p e j)).touchWrite p j

/-- Byte off of a plot's place lies behind a lost or retired channel, or reads uncorrectable: what is read there is poison
(R142, R386). -/
def State.offLost (p : Nat) (e : Plot) (off : Nat) (s : State) : Bool :=
  !e.readsFar && (match s.dloc p e off with
    | some d => s.chanLost d || 2 ≤ (s.lineBad d).length
    | none => false)

/-- The lines of a block that a merge reads, counted (R364). -/
def State.mergeReads (p : Nat) (e : Plot) (j : Nat) (s : State) : State :=
  if e.readsFar then s
  else forAll ((s.blockOffs p e j).filterMap (fun o => s.dloc p e o)) (fun d s =>
    if s.chanLost d then s else (s.mediaRead d (4096 * (16 * p + j)) (some e.qtenant) false false).2) s

/-- The stored lines of a footprint block that a close or a partial line write merges in: its 4,096 bytes and the lines
that cannot be recovered, those that read poisoned among them (R21, R142). st is what is stored. -/
def State.mergeBase (b : Nat) (e : Plot) (st : List Byte) (s : State) : List Byte × NSet × State :=
  let p := b / 16
  let j := b % 16
  let d := s.sideEnt b
  let all := List.range 64
  let lost (i : Nat) : Bool := s.curPoison e (p * 8192 + 64 * j + i) || s.offLost p e (4096 * j + 64 * i)
  let gone := all.filter lost
  let codeGone := (s.blockKeys p e j).any (fun k => s.curPoison e k) || (s.blockOffs p e j).any (fun o => s.offLost p e o)
  let s := if d.len = 0 then s else s.mergeReads p e j
  if d.len = 0 then (List.replicate 4096 0#8, [], s)
  else if d.part then (st, gone, s)
  else if d.len = 64 && gone ≠ [] then (st, gone, s)
  else if codeGone then (List.replicate 4096 0#8, all, s)
  else
    let x := s.expandBlk p e j st
    match x.res with
    | .ok v => (v, [], s)
    | .error c => (List.replicate 4096 0#8, all, s.blockFail e.qtenant 4 b x c)

/-- Close an open block with its stored form in st (R21). -/
def State.closeWith (o : OpenBlk) (st : List Byte) (s : State) : State :=
  match s.plot (o.block / 16) with
  | none => s.dropOpen (fun b => b = o.block)
  | some e =>
    let full := (List.range 64).all (fun i => (tfind i o.data).isSome)
    let (base, lost, s) := if full then (List.replicate 4096 0#8, [], s) else s.mergeBase o.block e st
    let v := ((List.range 64).map (fun i => match tfind i o.data with
      | some l => lineBytes l
      | none => slice base (64 * i) 64)).flatten
    let bad := (lost.filter (fun i => (tfind i o.data).isNone)) ++ o.bad
    ((s.dropOpen (fun b => b = o.block)).invalidate o.block).storeFoot o.block v (ninsAll bad [])

/-- All 64 lines of an open block are assembled. -/
def OpenBlk.full (o : OpenBlk) : Bool := (List.range 64).all (fun i => (tfind i o.data).isSome)

/-- Close an open block; it is closing while a merge read from a Far place is on its way (R21). -/
def State.closeBlk (o : OpenBlk) (s : State) : State :=
  let b := o.block
  match s.plot (b / 16) with
  | none => s.dropOpen (fun k => k = b)
  | some e =>
    if e.readsFar && !o.full && (s.sideEnt b).len ≠ 0 then
      let fails (s : State) : State :=
        let gone := (List.range 64).filter (fun i => (tfind i o.data).isNone)
        (s.farDrop (.close b)).closeWith { o with bad := ninsAll gone o.bad, data := forAll gone (fun i d => tput i 0#512 d) o.data } []
      match s.farGot (.close b) (farBlockKey b) with
      | some { got := some (.ok, st), .. } => (s.farDrop (.close b)).closeWith o st
      | some { got := some _, .. } => fails s
      | _ =>
        if s.split && e.farAcross (b / 16) then fails s
        else (s.modCmp (fun c => { c with opened := mapIf (fun k => decide (k.block = b)) (fun k => { k with closing := true }) c.opened })).farFetch
          (.close b) (farBlockKey b) (locLender e.loc) (s.farAddr e.loc (s.storedAt (b / 16) e (b % 16)))
          (64 * s.blockSectors (b / 16) e (b % 16))
    else (s.farDrop (.close b)).closeWith o (s.storedBytes (b / 16) e (b % 16))

/-- A compressor with 64 open blocks closes one: a full one, else the least recently written (R21). It closes one at a
time. -/
def State.makeBuffer (x : Nat) (s : State) : State :=
  let l := s.cmp.opened.filter (fun o => o.unit = x)
  if l.length < 64 || l.any (fun o => o.closing) then s
  else match l.find? OpenBlk.full with
    | some o => s.closeBlk o
    | none => match l with
      | o :: _ => s.closeBlk o
      | [] => s

/-- Requests to block b wait: it is closing, or a write in compressor x needs a buffer and 64 blocks are open (R21). -/
def State.blkHeld (x b : Nat) (wr : Bool) (s : State) : Bool :=
  match s.openBlk b with
  | some o => o.closing
  | none => wr && 64 ≤ (s.cmp.opened.filter (fun o => o.unit = x)).length

/-- Put line i into the assembly buffer of block b, opened in compressor x where it is not open (R19, R20); the buffer has
been made free. -/
def State.assemble (x b i : Nat) (v : Line) (poison : Bool) (s : State) : State :=
  match s.openBlk b with
  | some o =>
    s.modCmp (fun c => { c with opened := c.opened.filter (fun k => k.block ≠ b) ++
      [{ o with data := tput i v o.data, bad := if poison then nins i o.bad else ndel i o.bad }] })
  | none =>
    s.modCmp (fun c => { c with opened := c.opened ++
      [{ unit := x, block := b, data := [(i, v)], bad := if poison then [i] else [] }] })

/-- Store line i of block j of a footprint plot through compressor x (R19, R329, R370). -/
def State.writeFoot (x p : Nat) (e : Plot) (j i : Nat) (d : Line) (be : W64) (poison : Bool) (s : State) : State :=
  let b := 16 * p + j
  let s := if (s.openBlk b).isSome then s else s.makeBuffer x
  let (v, bad, s) :=
    if be = fullBe then (d, poison, s)
    else match (s.openBlk b).bind (fun o => tfind i o.data) with
      | some l => (mergeLine l d be, poison, s)
      | none =>
        let (base, lost, s) := s.mergeBase b e (s.storedBytes p e j)
        (mergeLine (sliceLine base i) d be, poison || nmem i lost, s)
  let s := (s.assemble x b i v bad).markWritten (p * 1024 + j * 64 + i)
  let s := if e.st = .unwritten then s.touchWrite p j else s
  match s.openBlk b with
  | some o => if bad then s.closeBlk o else s
  | none => s

/-- The home half's unit that must reach a lending host lies across a bridge that is down. -/
def State.farCut (p : Nat) (s : State) : Bool :=
  match s.plot p with
  | some e => s.split && e.readsFar && e.farAcross p
  | none => false

/-- A write of a raw plot's line waits for room in its channel's write queue (R328). -/
def State.writeHeld (ua : Nat) (s : State) : Bool :=
  match s.plot (plotOf ua) with
  | some e => e.mode = .raw && !e.readsFar && s.queueFull (plotOf ua) e (ua % 65536)
  | none => false

/-- The plot's bytes lie across a bridge that retrains: its requests wait (R15). -/
def State.farHeld (p : Nat) (s : State) : Bool :=
  match s.plot p with
  | some e => s.bridge.retraining && e.readsFar && e.farAcross p
  | none => false

/-- Admit a line write at its plot: its status for the writer, and the state (R77, R79, R131, R132, R157, R401). x is the
write compressor of the writer. -/
def State.writeLine (x t : Nat) (enc : Option Nat) (ua : Nat) (d : Line) (be : W64) (poison : Bool) (s : State) : Status × State :=
  let p := plotOf ua
  if s.inSwin p then (.permission, s.cntBar t Reg.WTT_FAULT 31 16 1)
  else match s.plot p with
  | none => (.permission, s.cntBar t Reg.WTT_FAULT 31 16 1)
  | some e =>
    if enc.isSome && e.mode ≠ .raw then (.permission, s.cntBar t Reg.CMP_XERR 15 0 1)
    else if e.mode = .packed || e.mode = .fixed then
      (.permission, (s.cntBar t Reg.CMP_WERR 31 16 1).logRec { typ := 0x05, sev := 1, tenant := some t, loc := ua })
    else if e.st = .farLost then (.farLost, s)
    else if !s.keyReady p false enc then (.permission, s.cntBar t Reg.SEC_TERR 15 0 1)
    else if s.farCut p then (.poisonConsumed, s)
    else
      let s := s.invalidate (16 * p + blockOf ua)
      (.ok, if e.mode = .raw then s.writeRaw t p e (blockOf ua) (sectorOf ua) (s.keyVal enc) d be poison
        else s.writeFoot x p e (blockOf ua) (sectorOf ua) d be poison)

/-- A unit's link expander or write compressor on its half (R155): of the expanders, any (log 7); of the compressors, the
one with the most free buffers, the lowest-numbered of equals. -/
def State.unitPort (h : Half) (s : State) : Nat := 8 * halfIdx h + freeBelow 8 s

def State.openCount (x : Nat) (s : State) : Nat := (s.cmp.opened.filter (fun o => o.unit = x)).length

def State.unitCompressor (h : Half) (s : State) : Nat :=
  (List.range 8).foldl (fun b i =>
    let x := 8 * halfIdx h + i
    if s.openCount x < s.openCount b then x else b) (8 * halfIdx h)

end Sys2Proof.Machine
end

