-- ==== Sys2Proof/Machine/Staging.lean ====
section
/-! DEFINITION. Staging of stored blocks into the banks of Flume engines (spec/08_flume_engines.md R192 to R196). -/

namespace Sys2Proof.Machine

/-- Bytes that a staging entry of block b takes: its stored stream, of a raw escape its header and payload (R192). -/
def State.stagedBytes (b : Nat) (s : State) : Nat :=
  match s.plot (b / 16) with
  | some e =>
    if e.mode = .fixed && (hdrOf (s.storedBytes (b / 16) e (b % 16))).mode = 3 then 4160
    else 64 * max 1 (s.blockSectors (b / 16) e (b % 16))
  | none => 0

/-- The table binding of a stored block (R150): slot and generation of a packed coded block, where the generation is
current or draining in its slot. -/
def State.bindOf (b : Nat) (s : State) : Option (Nat × Byte) :=
  match s.plot (b / 16) with
  | some e =>
    if e.mode = .packed && (s.smapEnt b).len ≠ 64 then
      let h := hdrOf (s.storedBytes (b / 16) e (b % 16))
      if h.slot = 0xFF || (s.genImage h.slot h.gen).isNone then none else some (h.slot, BitVec.ofNat 8 h.gen)
    else none
  | none => none

def Engine.has (g : Engine) (b : Nat) : Bool := g.staged.any (fun e => e.block = b && !e.drop)

/-- Sectors of a bank that an engine's entries take. -/
def State.bankSecs (fe bank : Nat) (s : State) : List Nat := ((s.fe fe).staged.filter (fun e => e.bank = bank)).flatMap Staged.secs

/-- Code words of an entry. -/
def Staged.words (e : Staged) : List Nat := e.secs.flatMap (fun i => (List.range 16).map (fun k => e.bank * 131072 + 16 * i + k))

/-- An engine holds block b in a bank that is not being handed over (R347, step 2). -/
def State.hasStaged (fe b : Nat) (s : State) : Bool :=
  (s.fe fe).staged.any (fun e => e.block = b && !e.drop && (s.bank e.bank).handover.isNone)

/-- Tenants that hold block b in an engine, or that its fill on the way will make holders (R193). -/
def Engine.holders (g : Engine) (b : Nat) : NSet :=
  ninsAll ((g.staged.filter (fun e => e.block = b && !e.drop)).flatMap (fun e => e.holders) ++
    (g.fills.filter (fun r => r.block = b)).filterMap (fun r => r.tenant)) []

/-- Blocks that are HELD in an engine, or whose fill on the way will be. -/
def Engine.heldBlocks (g : Engine) : NSet :=
  ninsAll ((g.staged.filter (fun e => e.holders ≠ [])).map Staged.block ++
    (g.fills.filter (fun r => r.tenant.isSome)).map StageReq.block) []

/-- Bytes that HELD entries, and fills on their way to be held, take. -/
def State.heldBytes (fe : Nat) (s : State) : Nat := ((s.fe fe).heldBlocks.map (fun b => s.stagedBytes b)).sum

/-- Blocks of a plot that BMASK names and that are present; 0 names all 16. -/
def State.maskBlocks (p mask : Nat) (s : State) : List Nat :=
  ((List.range 16).filter (fun j => mask = 0 || mask / 2 ^ j % 2 = 1)).filterMap (fun j =>
    match s.plot p with
    | some e => if e.mode = .packed && (s.smapEnt (16 * p + j)).len = 0 then none else some (16 * p + j)
    | none => none)

/-- Ask for a fill of block b, once for each holder. -/
def State.askFill (fe : Nat) (r : StageReq) (s : State) : State :=
  s.modFe fe (fun g => if g.fills.any (fun x => x = r) then g else { g with fills := g.fills ++ [r] })

/-- STAGE of a plot's blocks for tenant t and class cls on an engine (R193, Table ALM-6): false where the plot is refused. -/
def State.stagePlot (fe p mask t cls : Nat) (firing : Option Nat) (s : State) : Bool × State :=
  let g := s.fe fe
  let l := s.maskBlocks p mask
  let fresh := l.filter (fun b => !nmem b g.heldBlocks)
  let more := (fresh.map (fun b => s.stagedBytes b)).sum
  let cap := min (s.stwF (Reg.FLE_CFG + 4 * fe) 15 12) (s.sbanks fe).length * bankSize
  let five := l.any (fun b => (g.holders b).length ≥ 4 && !nmem t (g.holders b))
  if g.ctl.st ≠ .inService || s.heldBytes fe + more > cap || five then (false, s)
  else
    (true, forAll l (fun b s =>
      if (s.fe fe).has b then
        s.modFe fe (fun g => { g with staged := mapIf (fun e => decide (e.block = b)) (fun e => { e with holders := nins t e.holders }) g.staged })
      else s.askFill fe { block := b, tenant := some t, firing := firing, by_ := t, cls := cls }) s)

/-- Fills of the blocks that d names are given up, in every engine. -/
def State.fillsDrop (d : Nat → Bool) (s : State) : State :=
  forAll (s.fes.map Prod.fst) (fun f s => s.modFe f (fun g => { g with fills := g.fills.filter (fun r => !d r.block) })) s

/-- Remove tenant t as a holder of the blocks that d names, in one engine. -/
def State.unhold (fe t : Nat) (d : Nat → Bool) (s : State) : State :=
  s.modFe fe (fun g => { g with
    staged := mapIf (fun e => d e.block) (fun e => { e with holders := ndel t e.holders }) g.staged,
    fills := g.fills.filter (fun r => !(d r.block && r.tenant = some t)) })

/-- A bank of the engine with room for n bytes: staging, not in a handover (R192, R347). -/
def State.stageBank (fe n : Nat) (s : State) : Option Nat :=
  (s.sbanks fe).find? (fun b => (s.bank b).handover.isNone && 64 * (s.bankSecs fe b).length + n ≤ bankSize)

/-- A ready or running tile of the engine uses block b. -/
def Engine.usesBlock (g : Engine) (b : Nat) : Bool :=
  (match g.tile with
    | some t => nmem b t.blocks
    | none => false) || g.grains.any (fun x => x.rdy && nmem b x.need)

/-- The entries of these blocks become the most recently used, in that order. -/
def Engine.useStaged (bs : List Nat) (g : Engine) : Engine :=
  { g with staged := g.staged.filter (fun e => !bs.contains e.block) ++ g.staged.filter (fun e => bs.contains e.block) }

/-- Evict TRANSIENT entries that no ready or running tile uses, least recently used first, until a bank has room (R193);
entries are kept in that order. -/
def State.stageRoom (fe n : Nat) : Nat → State → Option Nat × State
  | 0, s => (s.stageBank fe n, s)
  | f + 1, s =>
    match s.stageBank fe n with
    | some b => (some b, s)
    | none =>
      match (s.fe fe).staged.find? (fun e => e.holders = [] && !(s.fe fe).usesBlock e.block) with
      | none => (none, s)
      | some v => State.stageRoom fe n f (s.modFe fe (fun g => { g with staged := g.staged.filter (fun e => e.block ≠ v.block) }))

/-- The engine, or the lending host, of a block's fetch lies on the other half than the block. -/
def State.fetchAcross (fe b : Nat) (e : Plot) : Bool :=
  decide (feHalf fe ≠ homeHalf (b / 16)) || (e.readsFar && e.farAcross (b / 16))

/-- The stream of block b for an engine (R192): what a lending host returned, or the failure of its read, where there is
one to keep; none while the bytes of a Far place are on their way, or the bridge retrains under it (R15). -/
def State.fetchBlock (fe b : Nat) (e : Plot) (s : State) : Option (Option (Status × List Byte)) × State :=
  if e.st = .farLost then (some (some (.farLost, [])), s)
  else if State.fetchAcross fe b e && s.split then (some (some (.poisonConsumed, [])), s)
  else if State.fetchAcross fe b e && s.bridge.retraining then (none, s)
  else if e.readsFar then
    match (s.farGot (.engine fe) (farBlockKey b)).bind FarBuf.got with
    | some r => (some (some r), s.modTier (fun t => { t with farBuf := t.farBuf.filter (fun x => !(x.who = .engine fe && x.key = farBlockKey b)) }))
    | none => (none, s.farFetch (.engine fe) (farBlockKey b) (locLender e.loc) (s.farAddr e.loc (s.storedAt (b / 16) e (b % 16)))
        (64 * s.blockSectors (b / 16) e (b % 16)))
  else
    if ((s.blockOffs (b / 16) e (b % 16)).filterMap (fun o => s.dloc (b / 16) e o)).any (fun d => s.chanHeld d) then (none, s)
    else match s.mediumAt { x := 0, t := e.qtenant } (b / 16) e (s.blockOffs (b / 16) e (b % 16)) (4096 * b)
        ((s.blockKeys (b / 16) e (b % 16)).any (fun k => s.curPoison e k)) with
    | (true, s) => (some none, s)
    | (false, s) => (some (some (.poisonConsumed, [])), s)

/-- The fetch of block b at the Headgate of the tenant that asked first, charged in sectors (R194, R307, Table HGT-5):
false while its Weir holds it. -/
def State.admitFill (fe b : Nat) (s : State) : Bool × State :=
  match (s.fe fe).fills.find? (fun r => r.block = b) with
  | none => (true, s)
  | some r =>
    let mark (f : StageReq → StageReq) (s : State) : State :=
      s.modFe fe (fun g => { g with fills := mapIf (fun x => decide (x.block = b)) f g.fills })
    if (s.fe fe).fills.any (fun x => x.block = b && x.admitted) then (true, s)
    else if s.split && tenantHalf r.by_ ≠ feHalf fe then (true, (mark (fun x => { x with admitted := true }) s).shadowAdmit (feHalf fe))
    else match (s.hgOf r.by_).ask r.cls with
      | .pass => (true, (mark (fun x => { x with admitted := true }) s).modHg r.by_ (fun h => h.charge r.cls (s.stagedBytes b / 64)))
      | .demote => (true, (mark (fun x => { x with admitted := true }) s).heldMark r.by_ r.cls 1)
      | .hold => (false, if r.held then s else (mark (fun x => { x with held := true }) s).heldMark r.by_ r.cls 1)

/-- A block's stream arrives in an engine's staging bank, bound to its table generation (R150, R192): for every holder
that asked. Its plot's block is not one still being promoted (Table ALM-6, R96). False where no bank has room. -/
def State.fillDone (fe b : Nat) (s : State) : Bool × State :=
  let g := s.fe fe
  let rs := g.fills.filter (fun r => r.block = b)
  let drop (s : State) : State := s.modFe fe (fun g => { g with fills := g.fills.filter (fun r => r.block ≠ b) })
  match rs, s.plot (b / 16) with
  | [], _ => (true, s)
  | _, none => (true, drop s)
  | _, some e =>
    if e.st = .promoting && !bit (b % 16) e.copied then (true, s)
    else match s.admitFill fe b with
    | (false, s) => (true, s)
    | (true, s) => match s.stageRoom fe (s.stagedBytes b) (g.staged.length + 1) with
      | (none, s) => (false, s)
      | (some bank, s) => match s.fetchBlock fe b e with
        | (none, s) => (true, s)
        | (some got, s) =>
          let hs := ninsAll (rs.filterMap (fun r => r.tenant)) []
          let s := (drop s).wakeBank bank
          let secs := ((List.range 8192).filter (fun i => !(s.bankSecs fe bank).contains i)).take (ceilDiv (s.stagedBytes b) 64)
          let s := s.modFe fe (fun g => { g with
            staged := g.staged.filter (fun x => x.block ≠ b) ++
              [{ block := b, bank := bank, secs := secs, holders := hs, bind := s.bindOf b, got := got }] })
          (true, (s.cstFresh (Staged.words { block := b, bank := bank, secs := secs, holders := [], bind := none })).settle (b / 16))

/-- Bytes of a grain's blocks that an engine holds staged (R198). -/
def State.stagedOf (fe : Nat) (blocks : List Nat) (s : State) : Nat :=
  (blocks.map (fun b => if (s.fe fe).has b then s.stagedBytes b else 0)).sum

end Sys2Proof.Machine
end

