-- ==== Sys2Proof/Machine/Assign.lean ====
section
/-! DEFINITION. The steward's tier commands: assignment and release of plots, claim removal, plot queries, the age clocks
and sweeps, and waiting claims (spec/04_tiers.md R75 to R98, R464). -/

namespace Sys2Proof.Machine

open Host (Outcome)

/-! Plot map entry as a word (Table TIR-2). -/

def PlotSt.code : PlotSt → Nat
  | .unwritten => 0
  | .bulk => 1
  | .near => 2
  | .nearDirty => 3
  | .promoting => 4
  | .demoting => 5
  | .far => 6
  | .farLost => 7

def Mode.code : Mode → Nat
  | .packed => 0
  | .footprint => 1
  | .fixed => 2
  | .raw => 3

def modeOf (n : Nat) : Mode :=
  match n with
  | 0 => .packed
  | 1 => .footprint
  | 2 => .fixed
  | _ => .raw

/-- ALLW of a plot (R78). -/
def State.allw (p : Nat) (s : State) : Nat := ((List.range 16).map (fun j => if s.allWritten p j then 2 ^ j else 0)).sum

/-- The plot map entry; LOC is zero while a packed plot has no place, and after the place is gone. -/
def State.plotWord (p : Nat) (e : Plot) (s : State) : W128 :=
  BitVec.ofNat 128 (2 ^ 63 + e.st.code * 2 ^ 59 + b2n (e.pins ≠ []) * 2 ^ 58 + b2n e.expend * 2 ^ 57 + e.mode.code * 2 ^ 55 +
    b2n e.farb * 2 ^ 54 + b2n e.fmove * 2 ^ 53 + (e.cnt % 256) * 2 ^ 40 + (e.age % 65536) * 2 ^ 24 +
    (if e.hasSlot then e.slot else 0) + s.allw p * 2 ^ 112 + (e.qtenant % 256) * 2 ^ 104 + (e.loc % 2 ^ 40) * 2 ^ 64)

/-- PLOT_QUERY (R75): a write of TIR_PQ_PLOT_HI takes the snapshot. -/
def execPlotQuery (hi : W32) (s : State) : Outcome State Fault Refusal :=
  let s := s.setStw Reg.TIR_PQ_PLOT_HI (hi &&& 0xF#32)
  let p := (s.stw Reg.TIR_PQ_PLOT_LO).toNat + 2 ^ 32 * (hi.toNat % 16)
  .next (s.modTier (fun t => match s.plot p with
    | some e => { t with snap := s.plotWord p e, snapRec := if e.hasSlot then some (p, e) else none }
    | none => { t with snap := 0#128, snapRec := none }))

/-! Ending a plot's contents. -/

/-- Escape entries of the fixed blocks of a plot (R145). -/
def State.escOf (p : Nat) (e : Plot) (s : State) : List Nat :=
  if e.mode = .fixed then
    (List.range 16).filterMap (fun j =>
      let st := s.storedBytes p e j
      if (hdrOf st).mode = 3 then some (halfIdx (homeHalf p) * 262144 + leAt st 16 4) else none)
  else []

/-- Everything stored for a plot is gone: its lines, maps, copies and poison (R77, R78, R145). -/
def State.wipe (p : Nat) (s : State) : State :=
  let es := match s.plot p with
    | some e => s.escOf p e
    | none => []
  let s := s.modTier (fun t => { t with
    written := ndelRange (p * 1024) 1024 t.written, poison := ndelRange (p * 8192) 8192 t.poison,
    npoison := ndelRange (p * 8192) 8192 t.npoison, mem := mclear (p * 65536) 65536 t.mem,
    area := mclear (p * 131072) 131072 t.area, keyTag := t.keyTag.filter (fun e => e.1 / 1024 ≠ p),
    smap := t.smap.filter (fun e => e.1 / 16 ≠ p), side := t.side.filter (fun e => e.1 / 16 ≠ p),
    escUsed := t.escUsed.filter (fun i => !es.contains i), esc := forAll es (fun i m => mclear (i * 4096) 4096 m) t.esc })
  ((s.keptDrop (fun b => b / 16 = p)).stagedDrop (fun b => b / 16 = p)).dropOpen (fun b => b / 16 = p)

/-- The claims that wait for a plot end refused (R76, R77, R89; log 68). -/
def State.dropWaits (p : Nat) (s : State) : State :=
  forAll (s.tier.waits.filter (fun w => w.plot = p)) (fun w s => s.dropWait w) s

/-! Assignment (R76, Table TIR-3). -/

/-- The template of TIR_ATMPL0 to 3. -/
def State.atmpl (s : State) : W128 :=
  BitVec.ofNat 128 (((List.range 4).map (fun i => (s.stw (Reg.TIR_ATMPL + 4 * i)).toNat * 2 ^ (32 * i))).sum)

def State.asgnBase (s : State) : Nat := (s.stw Reg.TIR_ASGN_BASE_LO).toNat + 2 ^ 32 * s.stwF Reg.TIR_ASGN_BASE_HI 3 0
def State.asgnCount (s : State) : Nat := (s.stw Reg.TIR_ASGN_COUNT).toNat

/-- A template keeps R76. -/
def tmplOk (w : W128) : Bool :=
  let st := bits 62 59 w
  bit 63 w && !bit 58 w && bits 53 0 w = 0 && bits 127 112 w = 0 &&
  ((st = 0 && !bit 54 w && bits 103 64 w = 0) ||
   (st = 6 && bit 57 w && bit 54 w && bits 56 55 w ≠ 0 && bits 93 64 w = 0 && bits 103 102 w = 0))

def rangePlots (base n : Nat) : List Nat := (List.range n).map (fun i => base + i)

def State.asgnStatus (st : Status) (s : State) : State := s.modStw Reg.TIR_ASGN_STAT (setBits 7 0 st.code)
def State.asgnBusy (s : State) : Bool := bit 31 (s.stw Reg.TIR_ASGN_STAT)

/-- A view of an enabled region holds the plot (R278). -/
def State.inView (p : Nat) (s : State) : Bool := (s.viewOf p).isSome

/-- One plot as the template gives it, with its backing place allocated and charged (R91): none where it has no room. -/
def State.assignOne (w : W128) (p : Nat) (s : State) : Option State :=
  let s := s.dropWaits p
  let q := bits 111 104 w
  let mode := modeOf (bits 56 55 w)
  let e : Plot := { expend := bit 57 w, mode := mode, qtenant := q, age := s.clk.age }
  if bits 62 59 w = 6 then
    match s.freeFar (bits 101 94 w), s.chargeFar q with
    | some o, some pool =>
      some ((s.tickFree.wipe p).setPlot p { e with st := .far, farb := true, loc := farLoc (bits 101 94 w) o, pool := pool })
    | _, _ => none
  else if mode = .packed then some ((s.wipe p).setPlot p e)
  else match s.freeBulk (homeHalf p) (modeUnits mode), s.chargeBulk q 16 with
    | some b, some pool => some ((s.tickFree.wipe p).setPlot p { e with loc := b, units := modeUnits mode, pool := pool })
    | _, _ => none

def State.assignAll (w : W128) : List Nat → State → Option State
  | [], s => some s
  | p :: r, s => match s.assignOne w p with
    | some s => State.assignAll w r s
    | none => none

/-- Drop a released plot with its slot and place; nothing is written back (R77). -/
def State.releaseOne (p : Nat) (s : State) : State := ((((s.dropWaits p).wipe p).fillsDrop (fun b => b / 16 = p)).delPlot p).settle p

/-- Carry out, or go on with, the command that TIR_ASGN_STAT.BUSY stands for: an assignment waits while a move to Far
makes room (Table TIR-9), a release while a movement on its range runs (R77). -/
def State.asgnResume (s : State) : State :=
  match s.tier.asgnPend with
  | none => s
  | some a =>
    let fin (st : Status) (s : State) : State :=
      (s.modTier (fun t => { t with asgnPend := none })).setStw Reg.TIR_ASGN_STAT (at32 0 st.code)
    let l := rangePlots a.base a.count
    if a.op = 0 then
      match s.assignAll a.tmpl l with
      | some s => fin .ok s
      | none =>
        if s.reliefRuns a.wait then s
        else if bits 62 59 a.tmpl = 6 then fin .quota s
        else match s.bulkRelief with
          | some (p, s) => s.modTier (fun t => { t with asgnPend := some { a with wait := some p } })
          | none => fin .quota s
    else if l.any (fun p => s.plotMoving p || s.relocating p) then s
    else fin .ok (forAll l (fun p s => s.releaseOne p) s)

/-- The checks of Table TIR-3 that all OPs share. -/
def State.asgnGate (s : State) : Status :=
  if s.conflict then .stewardConflict else if s.asgnBusy then .slotBusy else .ok

/-- Start a checked command. -/
def State.asgnStart (op : Nat) (s : State) : State :=
  ((s.modTier (fun t => { t with asgnPend := some { op := op, base := s.asgnBase, count := s.asgnCount, tmpl := s.atmpl } })).setStw Reg.TIR_ASGN_STAT
    0x80000000#32).asgnResume

def State.rangeOk (s : State) : Bool := s.asgnCount ≠ 0 && s.asgnBase + s.asgnCount ≤ 2 ^ 36

/-- TIR_ASSIGN (R76, R158, R278). -/
def execTirAssign (s : State) : Outcome State Fault Refusal :=
  match s.asgnGate with
  | .ok =>
    if !tmplOk s.atmpl || !s.rangeOk then .next (s.asgnStatus .badDescriptor)
    else if (rangePlots s.asgnBase s.asgnCount).any (fun p => s.inSwin p || s.inView p || (match s.plot p with
        | some e => e.st ≠ .farLost
        | none => false)) then .next (s.asgnStatus .permission)
    else .next (s.asgnStart 0)
  | st => .next (s.asgnStatus st)

/-- TIR_RELEASE (R77, R278). -/
def execTirRelease (s : State) : Outcome State Fault Refusal :=
  match s.asgnGate with
  | .ok =>
    if !s.rangeOk then .next (s.asgnStatus .badDescriptor)
    else if (rangePlots s.asgnBase s.asgnCount).any (fun p => (s.plot p).isNone || (s.bufferOf p).isSome) then
      .next (s.asgnStatus .permission)
    else .next (s.asgnStart 1)
  | st => .next (s.asgnStatus st)

/-- TIR_ASGN_RESERVED (Table TIR-3): OP 2. -/
def execTirAsgnReserved (s : State) : Outcome State Fault Refusal :=
  match s.asgnGate with
  | .ok => .next (s.asgnStatus .badDescriptor)
  | st => .next (s.asgnStatus st)

/-- TIR_REMOVE_CLAIMS (R93, R193, Table TIR-8): every claim, pin and holding of a tenant, with its waiting claims refused. -/
def execTirRemoveClaims (t : Tenant) (s : State) : Outcome State Fault Refusal :=
  match s.asgnGate with
  | .ok =>
    let n := t.toNat
    let s := forAll (s.tier.waits.filter (fun w => w.tenant = n)) (fun w s => s.dropWait w) s
    let s := forAll (s.tier.plots.map Prod.fst) (fun p s => (s.removePin p n 0 true).removeClaim p n 0 true) s
    let fp := s.fes.flatMap (fun e => (e.2.fills.filter (fun r => r.tenant = some n)).map (fun r => r.block / 16))
    let s := forAll (s.fes.map Prod.fst) (fun f s => s.unhold f n (fun _ => true)) s
    let s := forAll fp (fun p s => s.settle p) s
    .next (s.asgnStatus .ok)
  | st => .next (s.asgnStatus st)

/-! Age clocks and sweeps. -/

/-- TIR_CLS_WRITE (R83, R464): DECAY stores 4 to 20. -/
def execTirClsWrite (v : W32) (s : State) : Outcome State Fault Refusal :=
  .next (s.setStw Reg.TIR_CLS (setBits 15 11 (min 20 (max 4 (bits 15 11 v))) (v &&& 0xFFFFFFF0#32)))

/-- AGE_CLOCK_TICK (R464). -/
def execAgeClockTick (s : State) : Outcome State Fault Refusal :=
  .next { s with clk := { s.clk with age := (s.clk.age + 1) % 65536 } }

/-- Apply f to every plot of the map. -/
def State.mapPlots (f : Nat → Plot → Plot) (s : State) : State :=
  s.modTier (fun t => { t with plots := t.plots.map (fun (e : Nat × Plot) => (e.1, f e.1 e.2)) })

/-- DECAY_BOUNDARY (R83): every CNT is halved (log 29). -/
def execDecayBoundary (s : State) : Outcome State Fault Refusal :=
  .next (s.mapPlots (fun _ e => { e with cnt := e.cnt / 2 }))

/-- AGE_SWEEP (R84). -/
def execAgeSweep (h : Half) (s : State) : Outcome State Fault Refusal :=
  let c := s.clk.age
  .next (s.mapPlots (fun p e => if homeHalf p = h && e.ageAt c > 49152 then { e with age := (c + 65536 - 49152) % 65536 } else e))

/-- COLD_CLASSIFY (R84): AUTO claims of plots with a Near slot whose CNT is at most COLD. -/
def execColdClassify (h : Half) (s : State) : Outcome State Fault Refusal :=
  let l := s.tier.plots.filter (fun e => homeHalf e.1 = h && e.2.hasSlot && e.2.cnt ≤ s.cold)
  .next (forAll l (fun e s => forAll ((e.2.claims.filter (fun c => c.auto)).map Claim.tenant) (fun t s =>
    s.removeClaim e.1 t 0 true) s) s)

/-- CLAIM_RETRY (R89): the waiting claims of a half, in the order they began to wait. -/
def execClaimRetry (h : Half) (s : State) : Outcome State Fault Refusal :=
  .next (forAll (s.tier.waits.filter (fun w => homeHalf w.plot = h)) (fun w s => s.retryClaim w) s)

/-- CLAIM_WAIT_EXPIRE (R89). -/
def execClaimWaitExpire (id : Nat) (s : State) : Outcome State Fault Refusal :=
  match s.tier.waits.find? (fun w => w.id = id) with
  | some w => .next (s.dropWait w)
  | none => .next s

/-- MOVE_BLOCK_DONE (R81, R98); bad names the sectors that read uncorrectable. -/
def execMoveBlockDone (plot : PlotNo) (bad : List Nat) (s : State) : Outcome State Fault Refusal :=
  .next (s.blockDone plot.toNat bad).asgnResume

end Sys2Proof.Machine
end

