-- ==== Sys2Proof/Machine/Ready.lean ====
section
/-! DEFINITION. The readiness map (spec/17_bring_up.md R412, R413, Table BUP-3). -/

namespace Sys2Proof.Machine

/-- Half bit of a function (Table BUP-3). -/
def fnBit : Fn → Nat
  | .fw => 0
  | .mem => 1
  | .rings => 2
  | .fe => 3
  | .tc => 4
  | .alm => 5
  | .keys => 6
  | .shr => 7

/-- A tenant's readiness bit of a function: set on both halves, or on the tenant's half while SPLIT; the shared path is
not ready during the tenant's failure sweep (R412, R293). -/
def State.fnReady (t : Nat) (f : Fn) (s : State) : Bool :=
  let b (h : Half) : Bool := bit (fnBit f) (s.half h).ready
  (if s.split then b (tenantHalf t) else b .north && b .south) && (f ≠ .shr || !nmem t s.shr.sweeping)

def readyFns : List Fn := [.mem, .rings, .fe, .tc, .alm, .keys, .shr]

/-- Bits [6:0] of BUP_TREADY. -/
def State.treadyBits (t : Nat) (s : State) : List Bool := readyFns.map (fun f => s.fnReady t f)

/-- A change of the readiness map raises MSI-X vector 2 for each tenant whose bits change (R412). -/
def State.withReady (f : State → State) (s : State) : State :=
  let n := f s
  forAll ((List.range 256).filter (fun t => (s.ld t).enumerated && s.treadyBits t ≠ n.treadyBits t)) (fun t n => n.raiseMsix t 2) n

end Sys2Proof.Machine
end

