-- ==== Sys2Proof/Machine/Rings.lean ====
section
/-! DEFINITION. Submission and completion rings, doorbells and completion records (spec/10_rings_and_operations.md R233
to R242, R271 to R276). -/

namespace Sys2Proof.Machine

open Host (Outcome)

/-! Ring registers. -/

def State.sqCfg (t r : Nat) (s : State) : W32 := s.bar t (Reg.DSC_SQ_CFG + 32 * r)
/-- Slots of a submission ring (R233). -/
def State.sqSize (t r : Nat) (s : State) : Nat := 2 ^ bits 4 0 (s.sqCfg t r)
def State.sqBase (t r : Nat) (s : State) : Nat :=
  (s.bar t (Reg.DSC_SQ_BASE_LO + 32 * r)).toNat + 2 ^ 32 * (s.bar t (Reg.DSC_SQ_BASE_HI + 32 * r)).toNat
def State.cqOn (t : Nat) (s : State) : Bool := bit 31 (s.bar t Reg.DSC_CQ_CFG)
def State.cqSize (t : Nat) (s : State) : Nat := 2 ^ s.barF t Reg.DSC_CQ_CFG 4 0
def State.cqBase (t : Nat) (s : State) : Nat := (s.bar t Reg.DSC_CQ_BASE_LO).toNat + 2 ^ 32 * (s.bar t Reg.DSC_CQ_BASE_HI).toNat

/-- Descriptors in flight of a ring, of a tenant, of the module. -/
def State.ringFlight (t r : Nat) (s : State) : Nat := (s.ops.filter (fun o => o.tenant = t && o.ring = r)).length
def State.tenantFlight (t : Nat) (s : State) : Nat := (s.ops.filter (fun o => o.tenant = t)).length

/-- Records written and not yet released (R273). -/
def State.cqUnread (t : Nat) (s : State) : Nat :=
  let e := s.engOf t
  (e.cqTail + s.cqSize t - e.cqHead % s.cqSize t) % s.cqSize t

/-- Sizes outside 4 to 16 store the nearer limit (Tables DSC-22, DSC-28). -/
def clampSize (n : Nat) : Nat := min 16 (max 4 n)

/-- The tenant is being drained (R46, R37). -/
def State.draining (t : Nat) (s : State) : Bool := (s.ld t).flr || (s.ld t).portDrain

/-! Ring states (Table DSC-2). -/

/-- A DISABLING ring with nothing accepted left is DISABLED. -/
def State.ringSettle (t r : Nat) (s : State) : State :=
  if (s.ring t r).st = .disabling && s.ringFlight t r = 0 then s.modRing t r (fun g => { g with st := .disabled }) else s

/-- A fetch that is outstanding when its ring stops running is abandoned: its count is 0. -/
def voidUse (r : Nat) : DmaUse → DmaUse
  | .fetch q f n => if q = r then .fetch q f 0 else .fetch q f n
  | u => u

/-- Abandon what is fetched, or being fetched, of a ring. -/
def State.voidFetch (t r : Nat) (s : State) : State :=
  let s := { s with tags := mapIf (fun g => decide (g.tenant = t)) (fun g => { g with use := voidUse r g.use }) s.tags }
  let s := s.modLd t (fun l => { l with waiting := l.waiting.map (fun w => match w with
    | .read g u a n => .read g (voidUse r u) a n
    | w => w) })
  s.modRing t r (fun g => { g with fetched := [], fetching := false, waitCq := false, waitSlot := none })

/-- A RUNNING ring stops on an error: record, vector 3 (R241). -/
def State.stopRing (t r cause : Nat) (s : State) : State :=
  let g := s.ring t r
  if g.st = .running then
    (((s.setRing t r { g with st := .stopped, err := true, ecause := cause }).voidFetch t r).logRec
      { typ := 0x0B, sev := 2, tenant := some t, unit := unitNo 7 (16 * t + r), loc := g.head, aux0 := cause }).raiseMsix t 3
  else s

/-- RING_ENABLE: a write of DSC_SQ_CFG_n with ENABLE set (R236, R241, R413). -/
def execRingEnable (t : Tenant) (r : BitVec 4) (v : W32) (s : State) : Outcome State Fault Refusal :=
  let tn := t.toNat
  let rn := r.toNat
  let g := s.ring tn rn
  let size := if g.st = .disabled then clampSize (bits 4 0 v) else bits 4 0 (s.sqCfg tn rn)
  let en := if g.st = .disabled then s.fnReady tn .rings else g.st ≠ .disabling
  let s := s.setBar tn (Reg.DSC_SQ_CFG + 32 * rn) (at32 31 (b2n en) ||| at32 30 (b2n (bit 30 v)) ||| at32 0 size)
  .next (if g.st = .disabled && en then
      (s.setRing tn rn { g with st := .running, head := 0, tail := 0 }).voidFetch tn rn
    else s)

/-- RING_DISABLE: a write of DSC_SQ_CFG_n with ENABLE clear (R241). -/
def execRingDisable (t : Tenant) (r : BitVec 4) (v : W32) (s : State) : Outcome State Fault Refusal :=
  let tn := t.toNat
  let rn := r.toNat
  let g := s.ring tn rn
  let size := if g.st = .disabled then clampSize (bits 4 0 v) else bits 4 0 (s.sqCfg tn rn)
  let s := s.setBar tn (Reg.DSC_SQ_CFG + 32 * rn) (at32 30 (b2n (bit 30 v)) ||| at32 0 size)
  .next (if g.st = .running || g.st = .stopped then
      ((s.setRing tn rn { g with st := .disabling }).voidFetch tn rn).ringSettle tn rn
    else s)

/-- RING_RESTART: clearing DSC_SQ_STAT_n.ERR resumes a STOPPED ring at HEAD (R241); ECAUSE keeps its value. -/
def execRingRestart (t : Tenant) (r : BitVec 4) (s : State) : Outcome State Fault Refusal :=
  let tn := t.toNat
  let rn := r.toNat
  let g := s.ring tn rn
  let run := g.st = .stopped && g.err && bit 31 (s.sqCfg tn rn)
  .next (s.setRing tn rn { g with err := false, st := if run then .running else g.st })

/-! Doorbells (R237 to R240). -/

/-- A doorbell of ring r: refused and counted during a drain, ignored while the ring is DISABLED or DISABLING. -/
def State.doorbell (t r tail : Nat) (s : State) : State :=
  if s.draining t then (s.cntBar t Reg.PRT_FLR 31 16 1).modLd t (fun l => { l with drainRefused := l.drainRefused + 1 })
  else match (s.ring t r).st with
    | .running => s.modRing t r (fun g => { g with tail := tail % s.sqSize t r })
    | .stopped => s.modRing t r (fun g => { g with tail := tail % s.sqSize t r })
    | _ => s

def lineWord (d : Line) (i : Nat) : W32 := BitVec.ofNat 32 (bits (32 * i + 31) (32 * i) d)

/-- Words of one doorbell-line write act in ascending ring order, each with all four bytes written and VALID set. -/
def State.doorbellWords (t : Nat) (d : Line) (be : W64) (poison : Bool) (s : State) : State :=
  if poison then s
  else forAll (List.range 16) (fun r s =>
    if bits (4 * r + 3) (4 * r) be = 15 && bit 31 (lineWord d r) then s.doorbell t r (bits 15 0 (lineWord d r)) else s) s

/-- The line a read of the doorbell line returns (Table DSC-1). -/
def State.doorbellLine (t : Nat) (s : State) : Line :=
  bytesLine ((List.range 16).map (fun r =>
    let g := s.ring t r
    leBytes 4 (g.head % 65536 + (if g.st = .stopped then 2 ^ 31 else 0)))).flatten

/-- The doorbell line is in force, at this line of the window (R237). -/
def State.dblOn (t : Nat) (s : State) : Bool := bit 0 (s.bar t Reg.DSC_DBL_LO)
def State.dblOff (t : Nat) (s : State) : Nat :=
  s.barF t Reg.DSC_DBL_LO 31 6 * 64 + s.barF t Reg.DSC_DBL_HI 10 0 * 2 ^ 32

/-- A host write to the doorbell line under class label c completes. -/
def State.doorbellWrite (t c : Nat) (d : Line) (be : W64) (poison : Bool) (s : State) : State :=
  let s := s.doorbellWords t d be poison
  s.emit (.memCmp t .ok (s.devLoad t c))

/-- A host read of the doorbell line. -/
def State.doorbellRead (t c : Nat) (s : State) : State := s.emit (.memData t (s.doorbellLine t) (s.devLoad t c))

/-- DOORBELL_LINE_WRITE (R238). -/
def execDoorbellLineWrite (t : Tenant) (data : Line) (be : W64) (poison : Bool) (s : State) : Outcome State Fault Refusal :=
  .next (if s.dblOn t.toNat then s.doorbellWrite t.toNat 0 data be poison else s)

/-- DOORBELL_LINE_READ (R237). -/
def execDoorbellLineRead (t : Tenant) (s : State) : Outcome State Fault Refusal :=
  .next (if s.dblOn t.toNat then s.doorbellRead t.toNat 0 else s)

/-- MMIO_DOORBELL (R239). -/
def execMmioDoorbell (t : Tenant) (v : W32) (s : State) : Outcome State Fault Refusal :=
  .next (s.doorbell t.toNat (bits 19 16 v) (bits 15 0 v))

/-! Fetching (R242). -/

/-- Published descriptors that are not fetched. -/
def State.unfetched (t r : Nat) (s : State) : Nat :=
  let g := s.ring t r
  let n := s.sqSize t r
  (g.tail + n - g.head % n) % n - g.fetched.length

def State.canFetch (t r : Nat) (s : State) : Bool :=
  let g := s.ring t r
  g.st = .running && !g.fetching && s.unfetched t r > 0

/-- The next ring in rotation after the one served last. -/
def State.nextRing (t : Nat) (s : State) : Option Nat :=
  ((List.range 16).map (fun i => ((s.engOf t).last + 1 + i) % 16)).find? (fun r => s.canFetch t r)

/-- RING_FETCH (R242): one read of up to 8 consecutive slots. -/
def execRingFetch (t : Tenant) (s : State) : Outcome State Fault Refusal :=
  let tn := t.toNat
  if s.draining tn then .next s
  else match s.nextRing tn with
    | none => .next s
    | some r =>
      let g := s.ring tn r
      let n := s.sqSize tn r
      let first := (g.head + g.fetched.length) % n
      let cnt := min (min 8 (s.unfetched tn r)) (n - first)
      .next (((s.modEng tn (fun e => { e with last := r })).modRing tn r (fun g => { g with fetching := true })).dmaRead tn
        (.fetch r first cnt) (BitVec.ofNat 64 (s.sqBase tn r + 64 * first)) (64 * cnt))

/-- The request of a tag is over. -/
def State.dropTag (g : Nat) (s : State) : State := { s with tags := s.tags.filter (fun x => x.tag ≠ g) }

def State.tagOf (g : Nat) (s : State) : Option Tag := s.tags.find? (fun x => x.tag = g)

/-- A descriptor fetch of a tenant's ring ends: its lines, or the cause that stops the ring. -/
def State.fetchEnds (t r first cnt : Nat) (res : Except Nat (List Line)) (s : State) : State :=
  let g := s.ring t r
  if cnt = 0 then s else
  let s := s.setRing t r { g with fetching := false }
  match res with
  | .error cause => s.stopRing t r cause
  | .ok l =>
    if g.st = .running && (g.head + g.fetched.length) % s.sqSize t r = first then
      s.modRing t r (fun g => { g with fetched := g.fetched ++ l })
    else s

/-- A completion that matches nothing outstanding is discarded (R54). -/
def State.unexpected (t : Nat) (s : State) : State :=
  (s.cntBar t Reg.PRT_CPL 31 16 1).modLd t (fun l => { l with aerUnexp := true })

/-- The tenant of a quarantined tag. -/
def State.lateTag (g : Nat) (s : State) : Option Nat := (s.quarantine.find? (fun x => x.tag = g)).map Tag.tenant

/-- DESCRIPTOR_FETCH_COMPLETION (R241); one of a read that has ended is discarded and counted (R54). -/
def execDescriptorFetchCompletion (tag : Nat) (c : Cpl) (s : State) : Outcome State Fault Refusal :=
  match s.tagOf tag with
  | some { tenant := t, use := .fetch r first cnt, .. } =>
    .next ((s.dropTag tag).fetchEnds t r first cnt (match c with
      | .data l => .ok (l.take cnt)
      | .poison => .error 3
      | .unsupportedRequest => .error 2
      | .completerAbort => .error 2))
  | some _ => .next s
  | none => match s.lateTag tag with
    | some t => .next (s.unexpected t)
    | none => .next s

/-! Completion records (R271 to R276). -/

/-- The record of a taken descriptor (Table DSC-19). -/
def recordOf (d : Line) (ring : Nat) (st : Status) (detail : Nat) (acc phase : Bool) : W128 :=
  BitVec.ofNat 128 (bits 47 32 d + st.code * 2 ^ 16 +
    (ring * 16 + b2n acc * 4 + (bits 15 8 d % 2) * 2 + b2n phase) * 2 ^ 24 +
    bits 63 48 d * 2 ^ 32 + (detail % 65536) * 2 ^ 48 + bits 127 64 d * 2 ^ 64)

/-- Write a completion record at its slot of the completion ring (R233); none for a suppressed OK or for ABORTED_FLR, and none during a drain (R271, R272,
Table PRT-9). -/
def State.writeRecord (t ring : Nat) (d : Line) (st : Status) (detail : Nat) (acc : Bool) (s : State) : State :=
  if st = .abortedFlr || s.draining t || (st = .ok && bit 12 d) then s
  else
    let e := s.engOf t
    let r := recordOf d ring st detail acc e.cqPhase
    let wrap := (e.cqTail + 1) % s.cqSize t = 0
    let s := s.setEng t { e with cqTail := (e.cqTail + 1) % s.cqSize t, cqPhase := if wrap then !e.cqPhase else e.cqPhase }
    let s := s.request t (.record (BitVec.ofNat 64 (s.cqBase t + 16 * e.cqTail)) r)
    if bit 8 d then s.raiseMsix t 0 else s

/-- A taken descriptor of a ring completes: its record, and the stop under STOPERR (R241, R271). -/
def State.complete (t ring : Nat) (d : Line) (st : Status) (detail : Nat) (acc : Bool) (s : State) : State :=
  let s := s.writeRecord t ring d st detail acc
  let s := if st ≠ .ok && st ≠ .abortedFlr && bit 30 (s.sqCfg t ring) then s.stopRing t ring 4 else s
  s.ringSettle t ring

/-- INTERRUPT_COALESCE_EXPIRE (R276): the message that covers the period's records starts a period of its own. -/
def execInterruptCoalesceExpire (t : Tenant) (s : State) : Outcome State Fault Refusal :=
  let n := t.toNat
  let e := s.engOf n
  if e.coalescing then
    let s := s.setEng n { e with coalescing := false, coalOwed := false }
    .next (if e.coalOwed then s.raiseMsix n 0 else s)
  else .next s

/-! The completion ring's registers (Tables DSC-28 to DSC-30). -/

/-- The word that a write of DSC_CQ_CFG stores: CSIZE only while the ring is not enabled (R236). -/
def State.cqWord (t : Nat) (en : Bool) (v : W32) (s : State) : W32 :=
  let size := if s.cqOn t then s.barF t Reg.DSC_CQ_CFG 4 0 else clampSize (bits 4 0 v)
  at32 31 (b2n en) ||| at32 8 (bits 23 8 v) ||| at32 0 size

/-- CQ_ENABLE (R272): TAIL 0, PHASE 1 and HEAD 0 where the ring was not in use. -/
def execCqEnable (t : Tenant) (v : W32) (s : State) : Outcome State Fault Refusal :=
  let n := t.toNat
  let was := s.cqOn n
  let s := s.setBar n Reg.DSC_CQ_CFG (s.cqWord n true v)
  .next (if was then s else s.modEng n (fun e => { e with cqTail := 0, cqPhase := true, cqHead := 0 }))

/-- CQ_DISABLE (R272): ENABLE stays while a descriptor of the tenant is in flight. -/
def execCqDisable (t : Tenant) (v : W32) (s : State) : Outcome State Fault Refusal :=
  let n := t.toNat
  .next (s.setBar n Reg.DSC_CQ_CFG (s.cqWord n (s.cqOn n && s.tenantFlight n > 0) v))

/-- CQ_HEAD_WRITE (R273). -/
def execCqHeadWrite (t : Tenant) (v : W32) (s : State) : Outcome State Fault Refusal :=
  let n := t.toNat
  let m := s.cqSize n
  let h := (s.engOf n).cqHead
  let mv := (bits 15 0 v + m - h % m) % m
  if mv ≤ s.cqUnread n then .next (s.modEng n (fun e => { e with cqHead := (h + mv) % m }))
  else .next (s.modBar n Reg.DSC_CQ_STAT (setBit 14 true))

end Sys2Proof.Machine
end

