-- ==== Sys2Proof/Machine/Xlate.lean ====
section
/-! DEFINITION. Window translation tables: configurations, entries, the WTT stage of a request and the range check of a
descriptor (spec/03_windows.md R57 to R66, R279). -/

namespace Sys2Proof.Machine

/-! Configurations and entries. -/

def cfgEnable (c : WttCfg) : Bool := bit 31 c
def cfgClassMax (c : WttCfg) : Nat := bits 26 24 c
def cfgWin (c : WttCfg) : Nat := bits 21 16 c
def cfgSeg (c : WttCfg) : Nat := bits 13 8 c

def Wtt.cfg (w : Wtt) : WttCfg := if w.onB then w.cfgB else w.cfgA
def Wtt.bank (w : Wtt) : Tab W128 := if w.onB then w.bankB else w.bankA
def Wtt.shCfg (w : Wtt) : WttCfg := if w.onB then w.cfgA else w.cfgB
def Wtt.shBank (w : Wtt) : Tab W128 := if w.onB then w.bankA else w.bankB
def Wtt.setShCfg (c : WttCfg) (w : Wtt) : Wtt := if w.onB then { w with cfgA := c } else { w with cfgB := c }
def Wtt.setShBank (b : Tab W128) (w : Wtt) : Wtt := if w.onB then { w with bankA := b } else { w with bankB := b }

/-- An entry of Table WTT-1. -/
structure WEnt where
  valid : Bool
  shared : Bool
  enc : Option Nat
  region : Nat
  plot : Nat
  opdst : Bool
  opsrc : Bool
  wr : Bool
  rd : Bool
deriving DecidableEq, Repr

def wentOf (w : W128) : WEnt :=
  { valid := bit 63 w, shared := bit 61 w, enc := if bit 60 w then some (bits 55 48 w) else none, region := bits 47 36 w,
    plot := bits 35 0 w, opdst := bit 67 w, opsrc := bit 66 w, wr := bit 65 w, rd := bit 64 w }

def Wtt.entry (w : Wtt) (i : Nat) : WEnt := wentOf (tget 0#128 i w.bank)

/-- Entries that the active configuration counts: below 2^(WINSZ − SEGSZ) (R58). -/
def cfgEntries (c : WttCfg) : Nat := 2 ^ (cfgWin c - cfgSeg c)

/-- Valid entries of the active table; none while ENABLE is 0 (R61). -/
def Wtt.live (w : Wtt) : List (Nat × WEnt) :=
  if cfgEnable w.cfg then
    (w.bank.map (fun e => (e.1, wentOf e.2))).filter (fun e => e.2.valid && e.1 < cfgEntries w.cfg)
  else []

/-- Plots of a segment. -/
def segPlots (c : WttCfg) : Nat := 2 ^ (cfgSeg c - 16)

/-! The WTT stage (R57, R60, R279). -/

/-- What the WTT stage answers: the class label, whether it was clamped, and the access or its refusal. -/
structure Xl where
  cls : Nat
  clamped : Bool
  ent : Option WEnt
  ua : Nat := 0
deriving DecidableEq, Repr

/-- The pseudocode of R60 on a tenant's active table. -/
def Wtt.translate (w : Wtt) (dpa : Nat) (isWrite : Bool) : Xl :=
  let c := w.cfg
  let al := dpa / 2 ^ cfgWin c % 8
  let off := dpa % 2 ^ cfgWin c
  let cl := min al (cfgClassMax c)
  let e := w.entry (off / 2 ^ cfgSeg c)
  if cfgEnable c && e.valid && ((isWrite && e.wr) || (!isWrite && e.rd)) then
    { cls := cl, clamped := al > cfgClassMax c, ent := some e, ua := (e.plot * 65536 + off % 2 ^ cfgSeg c) % 2 ^ 52 }
  else { cls := cl, clamped := al > cfgClassMax c, ent := none }

/-- A segment lies wholly inside the view of its region. -/
def segInView (c : WttCfg) (e : WEnt) (g : Region) : Bool :=
  g.enabled && g.view ≤ e.plot && e.plot + segPlots c ≤ g.view + g.size

/-- Where a translated access goes (R279): none for PERMISSION, else its resolved UA and its region. -/
def State.resolve (c : WttCfg) (t : Nat) (e : WEnt) (ua : Nat) (s : State) : Option (Nat × Option Nat) :=
  if e.shared then
    let g := s.region e.region
    if segInView c e g then
      let p := plotOf ua
      some ((g.base (g.bufFor t) + (p - g.view)) * 65536 + ua % 65536, some e.region)
    else none
  else match s.viewOf (plotOf ua) with
    | some _ => none
    | none => some (ua, none)

/-! The range check of a descriptor (R61). -/

/-- From a byte, how far valid entries that meet ok map on; each entry is used once. -/
def coverFrom (c : WttCfg) (ok : WEnt → Bool) (ents : List WEnt) : Nat → Nat → Nat → Bool
  | 0, a, stop => stop ≤ a
  | f + 1, a, stop =>
    if stop ≤ a then true
    else match ents.find? (fun e => ok e && e.plot ≤ a / 65536 && a / 65536 < e.plot + segPlots c) with
      | some e => coverFrom c ok ents f ((e.plot + segPlots c) * 65536) stop
      | none => false

/-- A range of bytes of UA lies wholly in segments that the active table maps with VALID and meets ok. -/
def Wtt.covers (w : Wtt) (ok : WEnt → Bool) (base len : Nat) : Bool :=
  if len = 0 then true else coverFrom w.cfg ok (w.live.map Prod.snd) (w.live.length + 1) base (base + len)

def State.mapSrc (t base len : Nat) (s : State) : Bool := (s.wttOf t).covers (fun e => e.opsrc) base len
def State.mapDst (t base len : Nat) (s : State) : Bool := (s.wttOf t).covers (fun e => e.opdst) base len

/-- The parts of a range that a tenant maps with ENC: first byte, bytes, key slot. -/
def State.encRanges (t base len : Nat) (s : State) : List (Nat × Nat × Nat) :=
  let w := s.wttOf t
  w.live.filterMap (fun e => match e.2.enc with
    | some k =>
      let a := e.2.plot * 65536
      let n := segPlots w.cfg * 65536
      if a < base + len && base < a + n then some (a, n, k) else none
    | none => none)

/-- The key slot of an address among such parts. -/
def encAt (l : List (Nat × Nat × Nat)) (ua : Nat) : Option Nat :=
  (l.find? (fun r => r.1 ≤ ua && ua < r.1 + r.2.1)).map (fun r => r.2.2)

/-- A tenant's active table maps a region through an entry with SHARED set. -/
def Wtt.mapsRegion (w : Wtt) (r : Nat) : Bool := w.live.any (fun e => e.2.shared && e.2.region = r)

def State.mapsRegion (t r : Nat) (s : State) : Bool := (s.wttOf t).mapsRegion r

end Sys2Proof.Machine
end

