-- ==== Sys2Proof/Machine/Almanac.lean ====
section
/-! DEFINITION. Almanac: calendars, cursors, triggers, firing and plot actions (spec/05_almanac.md). -/

namespace Sys2Proof.Machine

open Host (Outcome)

/-! Images (Tables ALM-3 to ALM-5). -/

/-- A calendar entry (Table ALM-5). -/
structure AEnt where
  action : Nat
  cls : Nat
  toFar : Bool
  withProm : Bool
  dropStg : Bool
  tlayer : Nat
  lead : Int
  cntMin : Nat
  fe : Nat
  plot : Nat
  bmask : Nat
  group : Nat
  count : Nat
  tag : W32
deriving DecidableEq, Repr

def aentOf (w : W256) : AEnt :=
  { action := bits 63 61 w, cls := bits 60 58 w, toFar := bit 57 w, withProm := bit 56 w, dropStg := bit 55 w,
    tlayer := bits 54 43 w, lead := sgnOf 12 (bits 42 31 w), cntMin := bits 30 23 w, fe := bits 22 19 w,
    plot := bits 99 64 w, bmask := bits 179 164 w, group := bits 163 148 w, count := bits 147 128 w,
    tag := BitVec.ofNat 32 (bits 223 192 w) }

/-- R114, but for the order of entries. -/
def aentOk (layers : Nat) (w : W256) : Bool :=
  let e := aentOf w
  bits 18 0 w = 0 && bits 127 100 w = 0 && bits 191 180 w = 0 && bits 255 224 w = 0 &&
  e.action ≤ 4 && e.tlayer < layers && e.lead.natAbs < layers &&
  (!e.toFar || e.action = 4) && (!e.withProm || e.action = 2) && (!e.dropStg || e.action = 3) &&
  (e.cntMin = 0 || e.action < 3) && e.count ≥ 1 && (e.group = 0 || e.count % e.group = 0)

/-- A trigger record (Table ALM-4). -/
structure ATrig where
  stepStart : Bool
  layer : Nat
  plot : Nat
  count : Nat
deriving DecidableEq, Repr

def atrigOf (w : W128) : ATrig :=
  { stepStart := bit 56 w, layer := bits 47 36 w, plot := bits 35 0 w, count := bits 83 64 w }

/-- R113. -/
def atrigOk (layers : Nat) (w : W128) : Bool :=
  let t := atrigOf w
  bits 63 57 w = 0 && bits 55 48 w = 0 && bits 127 84 w = 0 && t.layer < layers && t.count ≥ 1 && t.plot + t.count ≤ 2 ^ 36

/-- Header fields of an image and its records, cut from its bytes. -/
structure AImg where
  src0 : Nat
  keepPos : Bool
  layers : Nat
  fwdmax : Nat
  triggers : List W128
  entries : List W256
deriving DecidableEq, Repr

/-- Bytes of an image by its header (R112). -/
def aimgLen (b : List Byte) : Nat := 64 + 16 * leAt b 6 2 + 32 * leAt b 4 2

def aimgOf (b : List Byte) : AImg :=
  let nt := leAt b 6 2
  { src0 := byteAt b 1 / 4 % 4, keepPos := byteAt b 1 / 2 % 2 = 1, layers := leAt b 2 2, fwdmax := leAt b 8 2,
    triggers := (chunks 16 (slice b 64 (16 * nt))).map (fun l => BitVec.ofNat 128 (leNat l)),
    entries := (chunks 32 (slice b (64 + 16 * nt) (32 * leAt b 4 2))).map (fun l => BitVec.ofNat 256 (leNat l)) }

def risingLayers : List W256 → Bool
  | [] => true
  | [_] => true
  | a :: b :: r => (aentOf a).tlayer ≤ (aentOf b).tlayer && risingLayers (b :: r)

/-- The image keeps R112 to R114. -/
def aimgOk (b : List Byte) : Bool :=
  let i := aimgOf b
  byteAt b 0 = 0x10 && byteAt b 1 / 16 = 0 && byteAt b 1 % 2 = 0 && i.src0 ≠ 3 && i.layers ≤ 4096 && leAt b 4 2 ≤ 4096 &&
  leAt b 10 2 = 0 && allZero (slice b 16 48) && i.triggers.all (fun t => atrigOk i.layers t) &&
  i.entries.all (fun e => aentOk i.layers e) && risingLayers i.entries

def aimgCheckOk (b : List Byte) : Bool := (crc32c (b.drop 64)).toNat = leAt b 12 4

/-- Every entry's range lies in segments that tenant t maps with VALID and OPSRC (R116). -/
def State.entriesMapped (t : Nat) (l : List W256) (s : State) : Bool :=
  l.all (fun w => let e := aentOf w; s.mapSrc t (e.plot * 65536) (e.count * 65536))

/-- Half that holds a calendar (R105). -/
def calHalf (c : Nat) : Half := halfOf c

def Cal.cursorOf (t : Nat) (c : Cal) : Option (Nat × Cursor) := c.cursors.find? (fun e => e.2.tenant = t)

/-- Trigger ranges that a calendar holds or has asked for. -/
def Cal.trigUse (c : Cal) : Nat := max c.triggers.length (match c.loading with
  | some (_, b) => (aimgOf b).triggers.length
  | none => 0)

/-- Commit an image to a calendar number for its owner (R116, R117, R119). -/
def State.commitCal (n t : Nat) (b : List Byte) (s : State) : State :=
  let i := aimgOf b
  if i.layers = 0 then s.delCal n
  else match s.cal n with
    | none => s.setCal n { owner := t, layers := i.layers, fwdmax := i.fwdmax, entries := i.entries, triggers := i.triggers,
                           cursors := [(0, { tenant := t, src := BitVec.ofNat 2 i.src0 })] }
    | some c =>
      let keep (p : Option W32) : Option W32 := match p with
        | some m => if i.keepPos && markLayer m < i.layers then some m else none
        | none => none
      s.setCal n { c with layers := i.layers, fwdmax := i.fwdmax, entries := i.entries, triggers := i.triggers, loading := none,
                          cursors := c.cursors.map (fun e => (e.1, { e.2 with pos := keep e.2.pos, tracks := [] })) }

/-- The checks of Table ALM-7 after the image has been read. -/
def State.loadCheck (n t ua : Nat) (b : List Byte) (s : State) : Status :=
  let i := aimgOf b
  let c := s.cal n
  let ents := i.entries
  let bound : List Nat := match c with
    | some c => c.cursors.map (fun (e : Nat × Cursor) => e.2.tenant)
    | none => [t]
  let others := ((s.alm.cals.filter (fun e => e.1 ≠ n)).map (fun e => e.2.trigUse)).sum
  if (match c with | some c => c.owner ≠ t | none => false) || !s.mapSrc t ua (aimgLen b) ||
      !bound.all (fun x => s.entriesMapped x ents) then .permission
  else if !aimgOk b || (i.layers = 0 && c.isNone) then .badDescriptor
  else if !aimgCheckOk b then .checkMismatch
  else if (match c with | some c => c.loading.isSome | none => false) then .slotBusy
  else if others + i.triggers.length > 65536 then .quota
  else .ok

/-! Positions. -/

/-- A stage mark moved by k layers (R103). -/
def markAdd (m : W32) (k : Int) (n : Nat) : W32 :=
  let t := ((markStep m * n + markLayer m : Nat) : Int) + k
  let u := (t % ((2 ^ 20 * n : Nat) : Int)).toNat
  mkMark (u / n) (u % n)

/-- The batch of a cursor has actions to issue. -/
def State.batchRuns (c cur : Nat) (s : State) : Bool := s.alm.acts.any (fun a => a.cal = c && a.cursor = cur)

/-- Plots that pending acts of a batch name for a claim or a staging. -/
def actClaims (acts : List AlmAct) (c cur p : Nat) : Bool :=
  acts.any (fun a => a.cal = c && a.cursor = cur && (aentOf a.entry).action < 3 && a.plot ≤ p && p < a.plot + a.left)

/-- Tenant t holds a staged block of plot p. -/
def State.stagedFor (t p : Nat) (s : State) : Bool :=
  s.fes.any (fun e => e.2.staged.any (fun b => b.block / 16 = p && nmem t b.holders && !b.drop))

/-- The probe of a group, read across the bridge where it must: none while the bridge is down (R110, R114). -/
def State.probe (c cur t : Nat) (e : AEnt) (p0 : Nat) (s : State) : Option Bool :=
  let p := s.resolvePlot t p0
  if s.split && homeHalf p ≠ calHalf c then none
  else
    let r := (s.plot p).getD {}
    some (if e.action < 3 then r.cnt ≥ e.cntMin
      else (r.claimOf t).isSome || s.stagedFor t p || actClaims s.alm.acts c cur p0)

/-- One group of a fired entry: its actions are issued where its probe passes. -/
def State.fireGroup (c cur t f : Nat) (w : W256) (p n : Nat) (s : State) : State :=
  match s.probe c cur t (aentOf w) p with
  | none => s.refuseFiring c cur f
  | some false => s
  | some true => s.modAlm (fun a => { a with
      acts := a.acts ++ [{ cal := c, cursor := cur, tenant := t, entry := w, firing := f, plot := p, left := n }] })

/-- Groups of a range: first plot and length. -/
def AEnt.groups (e : AEnt) : List (Nat × Nat) :=
  if e.group = 0 then [(e.plot, e.count)]
  else (List.range (e.count / e.group)).map (fun i => (e.plot + i * e.group, e.group))

/-- A firing whose last action has issued; it may be done at once (R127). -/
def State.firingIssued (c cur f : Nat) (s : State) : State :=
  let s := s.modCursor c cur (fun v => { v with tracks := mapIf (fun t => decide (t.id = f)) (fun t => { t with issued := true }) v.tracks })
  s.trackSettle c cur 0 (fun _ => false) (fun _ => false)

/-- fire(e, c, x, target) of R120 (R114, R122, R128). -/
def State.fireEntry (c cur t : Nat) (w : W256) (target : W32) (s : State) : State :=
  let e := aentOf w
  let f := s.alm.nextFiring
  let s := s.modAlm (fun a => { a with nextFiring := a.nextFiring + 1 })
  let s := s.modCursor c cur (fun v => { v with cnt0 := satField 31 16 1 v.cnt0 })
  let s := if e.action < 3 && e.lead ≥ 1 then
      s.modCursor c cur (fun v =>
        if v.tracks.length ≥ 64 then { v with cnt3 := satField 31 16 1 v.cnt3 }
        else { v with tracks := v.tracks ++ [{ id := f, target := target, tag := e.tag }] })
    else s
  let s := forAll e.groups (fun g s => s.fireGroup c cur t f w g.1 g.2) s
  if s.alm.acts.any (fun a => a.firing = f) then s else s.firingIssued c cur f

/-- A tracked firing after a forward move to q (R127). -/
def Track.moved (q : W32) (t : Track) : Track :=
  if t.late then { t with latest := if posCmp q t.latest > 0 then q else t.latest }
  else if posCmp q t.target ≥ 0 then { t with late := true, latest := q } else t

/-- Late firings of a cursor after a forward move. -/
def Cursor.lateTest (q : W32) (v : Cursor) : Cursor :=
  let tr := v.tracks.map (Track.moved q)
  let n := (tr.filter (fun t => t.late)).length - (v.tracks.filter (fun t => t.late)).length
  { v with tracks := tr, cnt0 := satField 15 0 n v.cnt0 }

/-- Entries that fire in a window of w layers after base, by k and then by index (R120). -/
def firingList (entries : List W256) (n w : Nat) (base : W32) : List (Nat × W256) :=
  let l := entries.filterMap (fun x =>
    let e := aentOf x
    let fl := ((e.tlayer : Int) - e.lead) % (n : Int)
    let k := ((fl - (markLayer base : Int) - 1) % (n : Int) + 1).toNat
    if k ≤ w then some (k, x) else none)
  l.mergeSort (fun a b => a.1 ≤ b.1)

/-- advance(c, q): the cursor takes a new position (R106, R120). -/
def State.advance (c cur : Nat) (q : W32) (s : State) : State :=
  match s.cal c with
  | none => s
  | some k => match tfind cur k.cursors with
    | none => s
    | some v => match v.pos with
      | none => s.modCursor c cur (fun v => { v with pos := some q })
      | some p =>
        if posCmp q p ≤ 0 then
          s.modCursor c cur (fun v => { v with pos := some q, cnt2 := if q = p then v.cnt2 else satField 31 16 1 v.cnt2 })
        else
          let n := k.layers
          let d := posDist p q n
          let w := min d n
          let s := s.modCursor c cur (fun v => { v with cnt1 := satField 15 0 (d - n) v.cnt1 })
          let base := markAdd p ((d - w : Nat) : Int) n
          let s := forAll (firingList k.entries n w base) (fun e s =>
            s.fireEntry c cur v.tenant e.2 (markAdd base ((e.1 : Int) + (aentOf e.2).lead) n)) s
          s.modCursor c cur (fun v => { v with pos := some q }.lateTest q)

/-- Table ALM-2: the position that a trigger range gives, or none with the update counted as ignored. -/
def trigPos (fwdmax : Nat) (pos : Option W32) (layer : Nat) (stepStart : Bool) : Option W32 × Bool :=
  match pos with
  | none => (some (mkMark 0 layer), false)
  | some m =>
    let l := markLayer m
    if layer > l then
      if fwdmax = 0 || layer - l ≤ fwdmax then (some (mkMark (markStep m) layer), false) else (none, true)
    else if layer = l then (none, false)
    else if stepStart then (some (mkMark (markStep m + 1) layer), false)
    else (none, true)

def State.merrIgnored (t : Nat) (s : State) : State := s.cntBar t Reg.ALM_MERR 31 16 1
def State.merrBad (t : Nat) (s : State) : State := s.cntBar t Reg.ALM_MERR 15 0 1

/-- Apply one update at a cursor. A mark whose cursor or layer is gone by then is counted as at its write (R108). -/
def State.applyUpd (c cur : Nat) (u : AlmUpd) (s : State) : State :=
  match s.cal c with
  | none => s
  | some k => match tfind cur k.cursors with
    | none => s
    | some v => match u with
      | .mark _ _ _ t m =>
        if v.src = 1#2 then s.merrIgnored t else if markLayer m < k.layers then s.advance c cur m else s.merrBad t
      | .trig _ _ _ l st =>
        if k.layers ≤ l then s
        else match trigPos k.fwdmax v.pos l st with
          | (some q, _) => s.advance c cur q
          | (none, ign) => if ign then s.modCursor c cur (fun v => { v with cnt2 := satField 15 0 1 v.cnt2 }) else s

def AlmUpd.cal : AlmUpd → Nat
  | .mark _ _ c _ _ => c
  | .trig _ c _ _ _ => c

def AlmUpd.tenant : AlmUpd → Nat
  | .mark _ _ _ t _ => t
  | .trig _ _ t _ _ => t

def AlmUpd.src : AlmUpd → Half
  | .mark h _ _ _ _ => h
  | .trig h _ _ _ _ => h

/-- A mark is one that its cursor takes (R108). -/
def markOk (k : Cal) (v : Cursor) (u : AlmUpd) : Bool :=
  match u with
  | .mark _ _ _ _ m => v.src ≠ 1#2 && markLayer m < k.layers
  | .trig .. => true

/-- The MARK descriptor that sent an update ends with a status (R108, R110). -/
def State.markDone (u : AlmUpd) (c : Status) (s : State) : State :=
  match u with
  | .mark _ (some op) _ _ _ => s.modOp op (fun o => { o with done := some c })
  | _ => s

/-- A batch of a calendar runs. -/
def State.calRuns (n : Nat) (s : State) : Bool := s.alm.acts.any (fun a => a.cal = n)

/-- A load that waits to commit does so once no batch of its calendar runs: every later batch uses its entries (R117). -/
def State.commitReady (n : Nat) (s : State) : State :=
  match s.cal n with
  | none => s
  | some c => match c.loading with
    | none => s
    | some (op, b) => if s.calRuns n then s else (s.commitCal n c.owner b).modOp op (fun o => { o with done := some .ok })

/-- A tenant's firings would resolve a plot through a view that is under publication: they wait (R291). -/
def State.calHeld (k : Cal) (t : Nat) (s : State) : Bool :=
  s.shr.regions.any (fun r => r.2.enabled && r.2.holdsBack t &&
    k.entries.any (fun w => let e := aentOf w; e.plot < r.2.view + r.2.size && r.2.view < e.plot + e.count))

def State.cursorHeld (k : Cal) (cur : Nat) (s : State) : Bool :=
  match tfind cur k.cursors with
  | some v => s.calHeld k v.tenant
  | none => false

/-- An update reaches its calendar's half: applied, or queued behind a running batch or a load that waits for one
(R111, R117). -/
def State.arriveUpd (u : AlmUpd) (s : State) : State :=
  let (c, t) := (u.cal, u.tenant)
  let s := s.commitReady c
  match (s.cal c).bind (fun k => (k.cursorOf t).map (fun e => (k, e))) with
  | none =>
    let s := s.markDone u .badDescriptor
    match u with
    | .mark .. => s.merrIgnored t
    | .trig .. => s
  | some (k, cur, v) =>
    let s := s.markDone u (if markOk k v u then .ok else .badDescriptor)
    let mine := k.queue.filter (fun e => e.1 = cur)
    if s.batchRuns c cur || mine ≠ [] || k.loading.isSome || s.calHeld k t then
      if mine.length < 16 then s.setCal c { k with queue := k.queue ++ [(cur, u)] }
      else s.setCal c { k with queue := k.queue.filter (fun e => e.1 ≠ cur) ++ mine.take 15 ++ [(cur, u)] }
    else s.applyUpd c cur u

/-- A queued update whose cursor runs no batch, in a calendar where no load waits for a batch to end (R117). -/
def State.queuedUpd (s : State) : Option (Nat × Nat × AlmUpd) :=
  s.alm.cals.findSome? (fun e => if e.2.loading.isSome && s.calRuns e.1 then none else (e.2.queue.find? (fun q => !s.batchRuns e.1 q.1 && !s.cursorHeld e.2 q.1)).map (fun q => (e.1, q.1, q.2)))

/-- Take the first queued update of a cursor out of its calendar's queue. -/
def dropFirst (cur : Nat) : List (Nat × AlmUpd) → List (Nat × AlmUpd)
  | [] => []
  | e :: r => if e.1 = cur then r else e :: dropFirst cur r

/-- CURSOR_UPDATE (R111, R120, R123): the next queued update of a cursor at rest, else the oldest on its way. -/
def execCursorUpdate (s : State) : Outcome State Fault Refusal :=
  match s.queuedUpd with
  | some (c, cur, u) =>
    let s := match s.cal c with
      | some k => s.setCal c { k with queue := dropFirst cur k.queue }
      | none => s
    .next ((s.commitReady c).applyUpd c cur u)
  | none => match s.alm.updates with
    | [] => .next s
    | u :: r => .next ((s.modAlm (fun a => { a with updates := r })).arriveUpd u)

/-! Where positions come from. -/

/-- What becomes of a mark where it is written: lost with the bridge, ignored, or sent (R108, R110). h is the half it
is written on, op the MARK descriptor that waits for it. -/
def State.sendMark (h : Half) (op : Option Nat) (c t : Nat) (m : W32) (s : State) : Status × State :=
  if s.split && h ≠ calHalf c then (.poisonConsumed, s)
  else match (s.cal c).bind (fun k => (k.cursorOf t).map (fun e => (k, e.2))) with
  | none => (.badDescriptor, s.merrIgnored t)
  | some (k, v) =>
    if v.src = 1#2 then (.badDescriptor, s.merrIgnored t)
    else if k.layers ≤ markLayer m then (.badDescriptor, s.merrBad t)
    else (.ok, s.modAlm (fun a => { a with updates := a.updates ++ [.mark h op c t m] }))

/-- Updates that were to cross a bridge that has gone down are lost (R110): a mark's MARK descriptor ends with
POISON_CONSUMED, another mark is counted as ignored. -/
def State.loseUpdates (s : State) : State :=
  let lost (u : AlmUpd) : Bool := u.src ≠ calHalf u.cal
  let l := s.alm.updates.filter lost
  forAll l (fun u s => match u with
    | .mark _ none _ t _ => s.merrIgnored t
    | .mark _ (some _) _ _ _ => s.markDone u .poisonConsumed
    | .trig .. => s) (s.modAlm (fun a => { a with updates := a.updates.filter (fun u => !lost u) }))

/-- A mark written to ALM_MARK, or by the Spaern MARK (R107, R110, R232). -/
def State.writeMark (h : Half) (c t : Nat) (m : W32) (s : State) : State :=
  match s.sendMark h none c t m with
  | (.poisonConsumed, s) => s.merrIgnored t
  | (_, s) => s

/-- ALM_MARK (R107, R108). -/
def execAlmMark (t : Tenant) (mark : W32) (s : State) : Outcome State Fault Refusal :=
  .next (s.writeMark (tenantHalf t.toNat) (s.barF t.toNat Reg.ALM_MSEL 9 0) t.toNat mark)

/-- The first trigger range of a calendar that holds a plot. -/
def Cal.trigAt (p : Nat) (c : Cal) : Option ATrig :=
  (c.triggers.map atrigOf).find? (fun t => t.plot ≤ p && p < t.plot + t.count)

/-- An access of tenant t to plot p moves cursors through trigger ranges (R109, R110). -/
def State.triggerMatch (p t : Nat) (s : State) : State :=
  forAll s.alm.cals (fun e s =>
    match e.2.cursorOf t, e.2.trigAt p with
    | some (_, v), some r =>
      if v.src = 0#2 || (s.split && homeHalf p ≠ calHalf e.1) then s
      else s.modAlm (fun a => { a with updates := a.updates ++ [.trig (homeHalf p) e.1 t r.layer r.stepStart] })
    | _, _ => s) s

/-- An access that R82 counts: the counter, the classification and the triggers (R82, R85, R109). -/
def State.access (p t : Nat) (s : State) : State :=
  match s.plot p with
  | some _ => (s.countAccess p t).triggerMatch p t
  | none => s

/-! Plot actions (Table ALM-6). -/

def State.watchPlot (c cur f p : Nat) (s : State) : State :=
  s.modCursor c cur (fun v => { v with tracks := mapIf (fun t => decide (t.id = f)) (fun t => { t with watch := nins p t.watch }) v.tracks })

/-- A STAGE of plot p has begun: its action ends with its staging (R127). -/
def State.watchStage (c cur f p : Nat) (s : State) : State :=
  s.modCursor c cur (fun v => { v with
    tracks := mapIf (fun t => decide (t.id = f)) (fun t => { t with watchStage := nins p t.watchStage }) v.tracks })

/-- One plot of a passing group, at the plot's home half. -/
def State.takeAct (a : AlmAct) (s : State) : State :=
  let e := aentOf a.entry
  let t := a.tenant
  let p := s.resolvePlot t a.plot
  let ask (s : State) := s.askClaim p t e.cls (.alm a.cal a.cursor a.firing (decide (e.action = 1)))
  let toFe := e.action = 2 || (e.action = 3 && e.dropStg)
  let away := s.split && (homeHalf p ≠ calHalf a.cal || (toFe && feHalf e.fe ≠ homeHalf p))
  if away then s.refuseFiring a.cal a.cursor a.firing
  else match s.plot p with
    | none => s
    | some r =>
      if r.st = .unwritten || r.st = .farLost then s
      else match e.action with
        | 0 => ask (s.watchPlot a.cal a.cursor a.firing p)
        | 1 => ask (s.watchPlot a.cal a.cursor a.firing p)
        | 2 =>
          let s := s.watchStage a.cal a.cursor a.firing p
          if (s.fe e.fe).ctl.st ≠ .inService then s.refuseFiring a.cal a.cursor a.firing
          else
            let s := if e.withProm then ask s else s
            match s.stagePlot e.fe p e.bmask t e.cls (some a.firing) with
            | (true, s) => s
            | (false, s) => s.refuseFiring a.cal a.cursor a.firing
        | 3 =>
          let s := s.removeClaim p t e.cls false
          if e.dropStg then s.unhold e.fe t (fun b => b / 16 = p && (e.bmask = 0 || e.bmask / 2 ^ (b % 16) % 2 = 1)) else s
        | _ =>
          let s := if e.toFar then s.wantFar p e.cls t else s
          s.removeClaim p t e.cls false

/-- The oldest issued group of a cursor that waits for no publication, with what is before and after it (R121, R291). -/
def State.nextAct (s : State) : Option (List AlmAct × AlmAct × List AlmAct) :=
  let held (a : AlmAct) : Bool := s.viewHeld a.tenant a.plot
  let late (a : AlmAct) : Bool := s.alm.acts.any (fun b => b.cal = a.cal && b.cursor = a.cursor && held b)
  match s.alm.acts.dropWhile (fun a => late a) with
  | [] => none
  | a :: r => some (s.alm.acts.takeWhile (fun a => late a), a, r)

/-- ALMANAC_ACTION (R115, R121, R291): the next plot of the oldest issued group that waits for no publication. -/
def execAlmanacAction (s : State) : Outcome State Fault Refusal :=
  match s.nextAct with
  | none => .next s
  | some (q, a, r) =>
    let rest := q ++ (if a.left ≤ 1 then r else { a with plot := a.plot + 1, left := a.left - 1 } :: r)
    let s := (s.modAlm (fun x => { x with acts := rest })).takeAct a
    let s := s.settle (s.resolvePlot a.tenant a.plot)
    .next (if rest.any (fun x => x.firing = a.firing) then s else s.firingIssued a.cal a.cursor a.firing)

/-- ALMANAC_LOAD_COMMIT (R117). -/
def execAlmanacLoadCommit (cal : CalId) (s : State) : Outcome State Fault Refusal :=
  .next (s.commitReady cal.toNat)

/-! The steward's commands (R118, R119, Table ALM-8). -/

def State.bindStatus (st : Status) (s : State) : State := s.setStw Reg.ALM_BSTAT (at32 0 st.code)

/-- The checks of Table ALM-8; bad and denied are the command's own. -/
def State.bindCheck (n : Nat) (bad denied : Cal → Bool) (s : State) : Status × Option Cal :=
  if s.conflict then (.stewardConflict, none)
  else match s.cal n with
    | none => (.badDescriptor, none)
    | some c =>
      if c.loading.isSome then (.slotBusy, none)
      else if bad c then (.badDescriptor, none)
      else if denied c then (.permission, none)
      else (.ok, some c)

/-- ALM_BIND (R118). -/
def execAlmBind (cal : CalId) (cursor : BitVec 4) (t : Tenant) (src : BitVec 2) (s : State) : Outcome State Fault Refusal :=
  match s.bindCheck cal.toNat
      (fun c => cursor = 0#4 || (c.cursorOf t.toNat).isSome || (tfind cursor.toNat c.cursors).isSome || src = 3#2)
      (fun c => !s.entriesMapped t.toNat c.entries) with
  | (st, some c) =>
    .next ((s.setCal cal.toNat { c with cursors := tput cursor.toNat { tenant := t.toNat, src := src } c.cursors }).bindStatus st)
  | (st, none) => .next (s.bindStatus st)

/-- A cursor leaves a calendar, with what is queued for it. -/
def Cal.unbind (cur : Nat) (c : Cal) : Cal :=
  { c with cursors := tdel cur c.cursors, queue := c.queue.filter (fun e => e.1 ≠ cur) }

/-- ALM_UNBIND (R118). -/
def execAlmUnbind (cal : CalId) (cursor : BitVec 4) (s : State) : Outcome State Fault Refusal :=
  match s.bindCheck cal.toNat (fun _ => cursor = 0#4) (fun _ => false) with
  | (st, some c) => .next ((s.setCal cal.toNat (c.unbind cursor.toNat)).bindStatus st)
  | (st, none) => .next (s.bindStatus st)

/-- ALM_CLEAR_POSITION (R118). -/
def execAlmClearPosition (cal : CalId) (cursor : BitVec 4) (s : State) : Outcome State Fault Refusal :=
  match s.bindCheck cal.toNat (fun _ => false) (fun _ => false) with
  | (st, some _) => .next ((s.modCursor cal.toNat cursor.toNat (fun v => { v with pos := none })).bindStatus st)
  | (st, none) => .next (s.bindStatus st)

/-- ALM_RECLAIM_UNLOAD (R119). -/
def execAlmReclaimUnload (cal : CalId) (s : State) : Outcome State Fault Refusal :=
  match s.bindCheck cal.toNat (fun _ => false) (fun _ => false) with
  | (st, some _) => .next ((s.delCal cal.toNat).bindStatus st)
  | (st, none) => .next (s.bindStatus st)

/-- ALM_NEW_OWNER (R119). -/
def execAlmNewOwner (cal : CalId) (t : Tenant) (src : BitVec 2) (s : State) : Outcome State Fault Refusal :=
  match s.bindCheck cal.toNat
      (fun c => src = 3#2 || c.cursors.any (fun e => e.1 ≠ 0 && e.2.tenant = t.toNat))
      (fun c => !s.entriesMapped t.toNat c.entries) with
  | (st, some c) =>
    let c := c.unbind 0
    .next ((s.setCal cal.toNat { c with owner := t.toNat, cursors := tput 0 { tenant := t.toNat, src := src } c.cursors }).bindStatus st)
  | (st, none) => .next (s.bindStatus st)

end Sys2Proof.Machine
end

