-- ==== Sys2Proof/Machine/Directory.lean ====
section
/-! DEFINITION. The directory of shared lines: entries, snoops, line failures, evictions and back-invalidation walks
(spec/11_shared_regions.md R280 to R296). A line is named by its number, UA′ ÷ 64. -/

namespace Sys2Proof.Machine

def State.dirOf (l : Nat) (s : State) : Option Dir := tfind l s.shr.dir
def State.setDir (l : Nat) (d : Dir) (s : State) : State := s.modShr (fun h => { h with dir := tput l d h.dir })
def State.delDir (l : Nat) (s : State) : State := s.modShr (fun h => { h with dir := tdel l h.dir })

/-- Plot of a line. -/
def linePlot (l : Nat) : Nat := l / 1024
/-- Set of a line: UA′[28:6]. -/
def lineSet (l : Nat) : Nat := l % 2 ^ 23
def lineHome (l : Nat) : Half := homeHalf (linePlot l)

/-- Entries of the set of a line on its home half. -/
def State.setOf (l : Nat) (s : State) : Tab Dir := s.shr.dir.filter (fun e => lineSet e.1 = lineSet l && lineHome e.1 = lineHome l)

/-- Tenants that a snoop of an entry goes to (R285). -/
def State.dirTenants (d : Dir) (s : State) : List Nat :=
  if d.coarse then (List.range 256).filter (fun t => nmem (tenantPort t) d.holders && s.mapsRegion t d.region) else d.holders

/-- Use an entry: it becomes the most recently used. -/
def State.useDir (l : Nat) (d : Dir) (s : State) : State :=
  (s.setDir l { d with used := s.shr.tick }).modShr (fun h => { h with tick := h.tick + 1 })

/-- The held map bit of a line's plot is set when the line gains a holder (R290). -/
def State.holdPlot (l : Nat) (s : State) : State := s.modShr (fun h => { h with heldMap := nins (linePlot l) h.heldMap })

/-- Add a sharer: a fifth makes the entry COARSE (R285). -/
def Dir.share (t : Nat) (d : Dir) : Dir :=
  if d.coarse then { d with st := .shared, holders := nins (tenantPort t) d.holders }
  else
    let h := nins t d.holders
    if h.length > 4 then { d with st := .shared, coarse := true, holders := ninsAll (h.map tenantPort) [] }
    else { d with st := .shared, holders := h }

/-- Tenant t holds the line no more: INVALID when no holder remains; a COARSE entry keeps its head bits. -/
def State.dropHolder (l t : Nat) (s : State) : State :=
  match s.dirOf l with
  | none => s
  | some d =>
    if d.coarse || d.st = .orphaned || !nmem t d.holders then s
    else if ndel t d.holders = [] then s.delDir l else s.setDir l { d with holders := ndel t d.holders }

/-- A line's memory copy is stored as poison (R287). -/
def State.poisonLine (l : Nat) (s : State) : State :=
  let p := linePlot l
  match s.plot p with
  | none => s
  | some e => match e.mode with
    | .raw => (s.setPoison e [p * 8192 + l % 1024] true).markWritten l
    | .footprint =>
      let x := s.unitCompressor (homeHalf p)
      if s.blkHeld x (l / 64) true then s.setPoison e (s.blockKeys p e (l / 64 % 16)) true
      else s.writeFoot x p e (l / 64 % 16) (l % 64) 0#512 fullBe true
    | _ => s.setPoison e ((s.blockKeys p e (l / 64 % 16)).take 1) true

/-- An OWNED line whose owner fails: ORPHANED, or lost where the set holds 12 (R287, R293). -/
def State.orphan (l : Nat) (d : Dir) (s : State) : State :=
  if ((s.setOf l).filter (fun e => e.2.st = .orphaned)).length < 12 then s.setDir l { d with st := .orphaned }
  else ((s.delDir l).poisonLine l).cntStw (Reg.SHR_DSTAT + 4 * halfIdx (lineHome l)) 15 0 1

/-- Tenant t's holding of one line ends as a failed host's does (R286, R293). -/
def State.failHolding (l t : Nat) (s : State) : State :=
  match s.dirOf l with
  | none => s
  | some d => if d.st = .owned && nmem t d.holders then s.orphan l d else s.dropHolder l t

/-- A line failure, counted (R286). -/
def State.lineFailure (l t : Nat) (s : State) : State := (s.failHolding l t).cntStw (Reg.SHR_TSTAT + 4 * t) 15 0 1

/-- A snoop to a tenant's head would cross a bridge that is down. -/
def State.snoopCut (l t : Nat) (s : State) : Bool := s.split && tenantHalf t ≠ lineHome l

/-- Send one snoop, or take its line failure at once (R286). -/
def State.sendSnoop (why : SnpWhy) (inv : Bool) (l t : Nat) (s : State) : State :=
  if s.snoopCut l t then s.lineFailure l t
  else if s.shr.snoops.any (fun n => n.line = l && n.tenant = t && n.why = why) then s
  else (s.modShr (fun h => { h with snoops := h.snoops ++ [{ id := h.nextId, tenant := t, line := l, inv := inv, why := why }],
                                    nextId := h.nextId + 1 })).emit (.bisnp t l 1 inv)

/-- The line is ORPHANED (R294). -/
def State.isOrphan (l : Nat) (s : State) : Bool := match s.dirOf l with
  | some d => d.st = .orphaned
  | none => false

/-- An entry that names a tenant whose failure is being swept is converted before it is used (R293). -/
def State.convertLine (l : Nat) (s : State) : State :=
  match s.dirOf l with
  | none => s
  | some d =>
    if d.coarse || d.st = .orphaned then s
    else forAll (d.holders.filter (fun t => nmem t s.shr.sweeping)) (fun t s =>
      let n := s.failHolding l t
      if n.isOrphan l then n.modShr (fun h => { h with orphaned := tset 0 t (tget 0 t h.orphaned + 1) h.orphaned }) else n) s

/-- A snoop's answer takes effect on the entry (R283, R285, R290). -/
def State.answered (n : Snoop) (s : State) : State :=
  let s := s.modShr (fun h => { h with snoops := h.snoops.filter (fun x => x.id ≠ n.id) })
  match s.dirOf n.line with
  | none => s
  | some d =>
    if d.st = .orphaned then s
    else if n.inv then
      if d.coarse then
        match n.why with
        | .walk _ => s
        | w => if s.shr.snoops.any (fun x => x.line = n.line && x.why = w) then s else s.delDir n.line
      else s.dropHolder n.line n.tenant
    else if d.st = .owned then s.setDir n.line { d with st := .shared } else s

/-! What a request asks of the directory (Table SHR-2). -/

inductive DirRes where
  | ready
  | wait
  | cut
deriving DecidableEq, Repr

/-- Holders that must be snooped, and with BISnpInv or not. t is none for a unit and for a read at a buffer's own UA. -/
def State.needSnoops (l : Nat) (t : Option Nat) (op : ReqOp) (mv : Meta) (s : State) : List Nat × Bool :=
  match s.dirOf l with
  | none => ([], false)
  | some d =>
    let others := (s.dirTenants d).filter (fun u => some u ≠ t)
    match op, mv with
    | .wr, _ => (others, true)
    | _, .a => (others, true)
    | .inv, .i => ([], false)
    | _, _ => (if d.st = .owned then others else [], false)

/-- The directory after a request of tenant t has been served. -/
def State.dirAfter (l t r : Nat) (op : ReqOp) (mv : Meta) (s : State) : State :=
  let own (s : State) : State := (s.useDir l { st := .owned, holders := [t], region := r, used := 0 }).holdPlot l
  match op, mv with
  | .rd, .i => match s.dirOf l with
    | some d => s.useDir l d
    | none => s
  | _, .i => s.dropHolder l t
  | _, .a => own s
  | .wr, .s => (s.useDir l { st := .shared, holders := [t], region := r, used := 0 }).holdPlot l
  | _, .s =>
    let d := (s.dirOf l).getD { st := .shared, holders := [], region := r, used := 0 }
    (s.useDir l (d.share t)).holdPlot l

/-- The request leaves an entry behind. -/
def needsEntry (mv : Meta) : Bool := mv ≠ .i

/-- A line of the set waits on a snoop. -/
def State.lineSnooped (l : Nat) (s : State) : Bool := s.shr.snoops.any (fun n => n.line = l)

/-- The entry of a full set that a request evicts (R287). -/
def State.evictPick (l : Nat) (s : State) : Option (Nat × Dir) :=
  ((s.setOf l).filter (fun e => e.2.st ≠ .orphaned && !s.lineSnooped e.1)).foldl (fun b e => match b with
    | none => some e
    | some x => if e.2.used < x.2.used then some e else b) none

/-- Make a way for a new entry of line l, for request rid: true once there is one (R287). -/
def State.makeWay (l rid : Nat) : Nat → State → Bool × State
  | 0, s => (false, s)
  | f + 1, s =>
    if (s.setOf l).length < 16 then (true, s)
    else if s.shr.snoops.any (fun n => n.why = .evict rid) then (false, s)
    else match s.evictPick l with
      | none => (false, s)
      | some (v, d) =>
        let ts := s.dirTenants d
        let s := s.cntStw (Reg.SHR_DSTAT + 4 * halfIdx (lineHome l)) 31 16 1
        let s := forAll ts (fun t s => s.sendSnoop (.evict rid) true v t) s
        if s.shr.snoops.any (fun n => n.why = .evict rid) then (false, s)
        else
          let s := match s.dirOf v with
            | some d => if d.st = .orphaned then s else s.delDir v
            | none => s
          State.makeWay l rid f s

/-- Serve the directory's part of a host request: ready once no snoop is left and its entry has a way. -/
def State.dirServe (l t r rid : Nat) (op : ReqOp) (mv : Meta) (s : State) : DirRes × State :=
  match s.needSnoops l (some t) op mv with
  | ([], _) =>
    if needsEntry mv && (s.dirOf l).isNone then
      match s.makeWay l rid 17 with
      | (true, s) => (.ready, s.dirAfter l t r op mv)
      | (false, s) => (.wait, s)
    else (.ready, s.dirAfter l t r op mv)
  | (ts, inv) =>
    if ts.any (fun u => s.snoopCut l u) then (.cut, s)
    else (.wait, forAll ts (fun u s => s.sendSnoop (.req rid) inv l u) s)

/-- A read at a buffer's own UA, or a unit's access: the snoops, and nothing recorded (R280, R296). why says for whom. -/
def State.dirTouch (l : Nat) (op : ReqOp) (why : SnpWhy) (s : State) : DirRes × State :=
  match s.needSnoops l none op .i with
  | ([], _) => (.ready, s)
  | (ts, inv) =>
    if ts.any (fun u => s.snoopCut l u) then (.cut, s)
    else (.wait, forAll ts (fun u s => s.sendSnoop why inv l u) s)

/-- ORPHANED lines of a region (SHR_OCNT). -/
def State.orphCount (r : Nat) (s : State) : Nat := (s.shr.dir.filter (fun e => e.2.st = .orphaned && e.2.region = r)).length

/-! Back-invalidation (R290). -/

/-- Runs of up to four consecutive lines of a rising list: first line and count (R283). -/
def lineRuns : List Nat → List (Nat × Nat)
  | [] => []
  | l :: r => match lineRuns r with
    | (f, n) :: q => if f = l + 1 ∧ n < 4 then (l, n + 1) :: q else (l, 1) :: (f, n) :: q
    | [] => [(l, 1)]

/-- Snoop a run of lines of one holder: one message for the run; each line is answered for itself. -/
def State.sendRun (why : SnpWhy) (t : Nat) (r : Nat × Nat) (s : State) : State :=
  (forAll (List.range r.2) (fun i s => s.modShr (fun h => { h with
    snoops := h.snoops ++ [{ id := h.nextId, tenant := t, line := r.1 + i, inv := true, why := why }], nextId := h.nextId + 1 })) s).emit
      (.bisnp t r.1 r.2 true)

/-- A walk's snoops to one tenant, for its lines in rising order: those that would cross a bridge that is down are line
failures at once (R286). -/
def State.walkTenant (w t : Nat) (ls : List Nat) (s : State) : State :=
  let s := forAll (ls.filter (fun l => s.snoopCut l t)) (fun l s => s.lineFailure l t) s
  forAll (lineRuns (ls.filter (fun l => !s.snoopCut l t))) (fun r s => s.sendRun (.walk w) t r) s

/-- Start a walk over the held plots that meet test, for tenants of a set. -/
def State.startWalk (why : WalkWhy) (test : Nat → Bool) (who : Nat → Bool) (s : State) : State :=
  let w := s.shr.nextId
  let ps := s.shr.heldMap.filter test
  let s := s.modShr (fun h => { h with walks := h.walks ++ [{ id := w, why := why, plots := ps }], nextId := w + 1 })
  let l := (s.shr.dir.filter (fun e => e.2.st ≠ .orphaned && nmem (linePlot e.1) ps)).map (fun e => (e.1, s.dirTenants e.2))
  forAll ((List.range 256).filter who) (fun t s => s.walkTenant w t ((l.filter (fun e => e.2.contains t)).map Prod.fst)) s

/-- A walk has every answer. -/
def State.walkReady (w : Nat) (s : State) : Bool := !s.shr.snoops.any (fun n => n.why = .walk w)

/-- A walk clears the held map bits of the plots that it visited and found no holder left in (R290). -/
def State.trimHeld (ps : NSet) (s : State) : State :=
  s.modShr (fun h => { h with heldMap := h.heldMap.filter (fun p =>
    !nmem p ps || h.dir.any (fun e => linePlot e.1 = p && e.2.st ≠ .orphaned)) })

/-- Plots of a buffer of a region. -/
def Region.inBuf (g : Region) (b p : Nat) : Bool := g.base b ≤ p && p < g.base b + g.size

end Sys2Proof.Machine
end

