-- ==== Sys2Proof/Machine/Windows.lean ====
section
/-! DEFINITION. Shadow banks, commits, flips and epochs of the window tables (spec/03_windows.md R58, R63 to R71;
dynamic capacity records, spec/11_shared_regions.md R298). -/

namespace Sys2Proof.Machine

open Host (Outcome)

/-! Requests in flight. -/

/-- The host requests that a DMA use carries. -/
def DmaUse.req : DmaUse → List Req
  | .farHost r => [r]
  | _ => []

/-- The host requests that an item on the bridge carries. -/
def BItem.req : BItem → List Req
  | .host r => [r]
  | .unit .. => []

/-- The host request that a tier controller has not returned. -/
def TierRead.req (r : TierRead) : List Req := match r.src with
  | .host q => [q]
  | .unit .. => []

/-- Host requests of every tenant that have been translated and have not finished (R67). -/
def State.inFlight (s : State) : List Req :=
  (s.hg.map (fun e => e.2.held)).flatten ++ s.shr.waiting ++ s.shr.wayWait ++ s.shr.resWait ++ s.cmp.closeWait ++
  s.bridge.queue.flatMap BItem.req ++
  (s.dmc.reads.filter (fun r => !r.timedOut)).flatMap TierRead.req ++
  (s.tags.map (fun g => g.use.req)).flatten ++
  (s.lds.map (fun e => (e.2.waiting.map (fun w => match w with
    | .read _ u _ _ => u.req
    | _ => [])).flatten)).flatten

/-- No request of the tenant translated under an earlier epoch is in flight. -/
def State.oldGone (t : Nat) (s : State) : Bool :=
  !s.inFlight.any (fun r => r.tenant = t && r.oldEpoch ≠ (s.wttOf t).epoch)

/-! Shadow writes (R63, R68). -/

/-- A shadow write is ignored while a commit is pending, and WRDROP records it. -/
def State.shadowWrite (t : Nat) (f : Wtt → Wtt) (s : State) : Bool × State :=
  if (s.wttOf t).pend.isSome then (false, s.modStw (Reg.WTT_TSTAT + 4 * t) (setBit 3 true)) else (true, s.modWtt t f)

/-- A write of WTT_CFG (Table WTT-3). -/
def State.writeWttCfg (t : Nat) (v : W32) (s : State) : State :=
  (s.shadowWrite t (fun w => w.setShCfg ((w.shCfg &&& ~~~0x873F3F00#32) ||| (v &&& 0x873F3F00#32)))).2

/-- WTT_DATA_WRITE: a write of WTT_DATA3 stores an entry, and AUTOINC moves INDEX (R63, R68, Table WTT-4). -/
def execWttDataWrite (v : W32) (s : State) : Outcome State Fault Refusal :=
  let sel := s.stw Reg.WTT_SEL
  let t := bits 23 16 sel
  let i := bits 15 0 sel
  let d (n : Nat) : Nat := (tget 0#32 n s.wttData).toNat
  let e : W128 := BitVec.ofNat 128 (d 0 + 2 ^ 32 * d 1 + 2 ^ 64 * d 2 + 2 ^ 96 * v.toNat)
  match s.shadowWrite t (fun w => w.setShBank (tset 0#128 i e w.shBank)) with
  | (true, s) => .next (if bit 31 sel then s.setStw Reg.WTT_SEL (setBits 15 0 (i + 1) sel) else s)
  | (false, s) => .next s

/-! Commits (R65, Table WTT-2). -/

/-- A configuration is within R58. -/
def cfgOk (c : WttCfg) : Bool :=
  28 ≤ cfgWin c && cfgWin c ≤ 43 && 16 ≤ cfgSeg c && cfgSeg c ≤ 36 && cfgSeg c ≤ cfgWin c && cfgWin c - cfgSeg c ≤ 16

/-- An entry's reserved fields are zero and its plot is aligned (R59). -/
def wentOk (c : WttCfg) (w : W128) : Bool :=
  !bit 62 w && bits 59 56 w = 0 && bits 127 68 w = 0 && bits 35 0 w % segPlots c = 0

def Wtt.shadowOk (w : Wtt) : Bool :=
  cfgOk w.shCfg && (w.shBank.filter (fun e => e.1 < cfgEntries w.shCfg)).all (fun e => wentOk w.shCfg e.2)

/-- Entries that a table counts against its half (R58). -/
def cfgCount (c : WttCfg) : Nat := if cfgEnable c then cfgEntries c else 0

/-- Entries of a half with the named tenants' shadow configurations in place. -/
def State.halfEntries (named : List Nat) (h : Half) (s : State) : Nat :=
  (s.wtt.map (fun e => if tenantHalf e.1 = h then (if named.contains e.1 then cfgCount e.2.shCfg else cfgCount e.2.cfg) else 0)).sum

/-- The first failure of Table WTT-2, with the tenant that caused it. -/
def State.commitCheck (named : List Nat) (s : State) : Status × Nat :=
  if s.conflict then (.stewardConflict, 0)
  else match named.find? (fun t => (s.wttOf t).pend.isSome) with
    | some t => (.slotBusy, t)
    | none => match named.find? (fun t => !(s.wttOf t).shadowOk) with
      | some t => (.badDescriptor, t)
      | none => match named.find? (fun t => (s.ld t).hostBound && cfgWin (s.wttOf t).shCfg ≠ cfgWin (s.wttOf t).cfg) with
        | some t => (.permission, t)
        | none => match named.find? (fun t => s.halfEntries named (tenantHalf t) > 262144) with
          | some t => (.quota, t)
          | none => (.ok, 0)

def State.commitStatus (st : Status) (t : Nat) (s : State) : State := s.setStw Reg.WTT_CSTAT (at32 8 t ||| at32 0 st.code)

/-- Shared segments of the active table that the shadow table does not keep (R70). -/
def Wtt.stale (w : Wtt) : List WEnt :=
  let sh := w.shCfg
  let same := cfgEnable sh && cfgSeg sh = cfgSeg w.cfg
  (w.live.filter (fun e =>
    let n := wentOf (tget 0#128 e.1 w.shBank)
    e.2.shared && !(same && e.1 < cfgEntries sh && n.valid && n.shared && n.region = e.2.region && n.plot = e.2.plot))).map Prod.snd

/-- A plot lies in a buffer of a region at a view plot that a shared segment maps. -/
def State.plotInSeg (c : WttCfg) (e : WEnt) (p : Nat) (s : State) : Bool :=
  let g := s.region e.region
  g.enabled && g.bufList.any (fun b =>
    g.inBuf b p && e.plot ≤ g.view + (p - g.base b) && g.view + (p - g.base b) < e.plot + segPlots c)

/-- A tenant of a pending commit whose old requests are gone starts its back-invalidation, if it holds lines that the
commit takes away (R70). -/
def State.walkCommit (t : Nat) (s : State) : State :=
  let w := s.wttOf t
  let st := w.stale
  let hit (p : Nat) : Bool := st.any (fun e => s.plotInSeg w.cfg e p)
  if s.shr.dir.any (fun e => hit (linePlot e.1) && e.2.st ≠ .orphaned && (s.dirTenants e.2).contains t) then
    (s.modWtt t (fun w => { w with pend := some .walking })).startWalk (.commit t) hit (fun u => u = t)
  else s.modWtt t (fun w => { w with pend := some .clear })

/-- Once every tenant of a commit has OLD_DONE, each starts its walk. -/
def State.advanceCommit (g : NSet) (s : State) : State :=
  if g.all (fun t => (s.wttOf t).oldDone) then
    forAll (g.filter (fun t => (s.wttOf t).pend = some .queued)) (fun t s => s.walkCommit t) s
  else s

/-- Accept a commit of the named tenants: the flip is scheduled (R65, R68). -/
def State.schedule (named : NSet) (s : State) : State :=
  match named with
  | [] => s
  | _ => ((forAll named (fun t s => s.modWtt t (fun w => { w with pend := some .queued })) s).advanceCommit named |> fun s =>
      { s with flip := s.flip ++ [named] })

/-- WTT_COMMIT (R65). -/
def execWttCommit (t : Tenant) (s : State) : Outcome State Fault Refusal :=
  match s.commitCheck [t.toNat] with
  | (.ok, _) => .next ((s.commitStatus .ok 0).schedule [t.toNat])
  | (st, u) => .next (s.commitStatus st (if st = .stewardConflict then 0 else u))

/-- Tenants that WTT_GMASK names. -/
def State.gmask (s : State) : NSet :=
  (List.range 256).filter (fun t => bit (t % 32) (s.stw (Reg.WTT_GMASK + 4 * (t / 32))))

/-- WTT_GROUP_COMMIT (R65, R69). -/
def execWttGroupCommit (s : State) : Outcome State Fault Refusal :=
  match s.commitCheck s.gmask with
  | (.ok, _) => .next ((s.commitStatus .ok 0).schedule s.gmask)
  | (st, u) => .next (s.commitStatus st u)

/-- WTT_COPY (R64). -/
def execWttCopy (t : Tenant) (s : State) : Outcome State Fault Refusal :=
  let n := t.toNat
  if s.conflict then .next (s.commitStatus .stewardConflict 0)
  else if (s.wttOf n).pend.isSome then .next (s.commitStatus .slotBusy n)
  else .next ((s.modWtt n (fun w => (w.setShBank w.bank).setShCfg w.cfg)).commitStatus .ok 0)

/-- WTT_COMMIT_RESERVED (Table WTT-5). No tenant caused this failure, nor a STEWARD_CONFLICT, and the spec does not say what
WTT_CSTAT.TENANT shows then: 0 (DESIGN CHOICE, log 87). -/
def execWttCommitReserved (_t : Tenant) (s : State) : Outcome State Fault Refusal :=
  .next (s.commitStatus (if s.conflict then .stewardConflict else .badDescriptor) 0)

/-! The flip (R66, R298). -/

/-- Contiguous ranges of shared segments: first index, segments, region. -/
def sharedRuns : List (Nat × WEnt) → List (Nat × Nat × Nat)
  | [] => []
  | (i, e) :: r =>
    match sharedRuns r with
    | (j, n, g) :: q => if j = i + 1 && g = e.region then (i, n + 1, g) :: q else (i, 1, e.region) :: (j, n, g) :: q
    | [] => [(i, 1, e.region)]

/-- Shared segments that a table maps. -/
def Wtt.shared (w : Wtt) : List (Nat × WEnt) := w.live.filter (fun e => e.2.shared)

/-- Extents of a tenant's one DC region: DPA offset in alias 0 and bytes (Table SHR-3). -/
def Wtt.extents (w : Wtt) : List (Nat × Nat × Nat) :=
  (sharedRuns w.shared).map (fun r => (r.1 * 2 ^ cfgSeg w.cfg, r.2.1 * 2 ^ cfgSeg w.cfg, r.2.2))

/-- Add or Release Capacity records for ranges: DPA offset, bytes, region (R298). -/
def State.capacity (t std : Nat) (l : List (Nat × Nat × Nat)) (s : State) : State :=
  forAll l (fun x s => s.tenantLog t 0 ({ typ := 0, sev := 0, tenant := some t, loc := x.1, aux0 := x.2.2, aux1 := x.2.1 / 65536,
                                          std := std : Rec }.bytes s.now)) s

/-- Swap a tenant's banks: the epoch advances, OLD_DONE clears while old requests are in flight (R64, R66, R67). -/
def State.flipOne (t : Nat) (s : State) : State :=
  let o := s.wttOf t
  let w : Wtt := { o with onB := !o.onB, epoch := o.epoch + 1#16, pend := none }
  let s := s.setWtt t w
  let s := s.modWtt t (fun w => { w with oldDone := s.oldGone t })
  let fresh := w.shared.filter (fun e => !(cfgSeg w.cfg = cfgSeg o.cfg &&
    o.shared.any (fun x => x.1 = e.1 && x.2.region = e.2.region && x.2.plot = e.2.plot)))
  s.capacity t 4 ((sharedRuns fresh).map (fun r => (r.1 * 2 ^ cfgSeg w.cfg, r.2.1 * 2 ^ cfgSeg w.cfg, r.2.2)))

/-- A scheduled commit whose every tenant is ready to flip. -/
def State.flipReady (g : NSet) (s : State) : Bool := g.all (fun t => (s.wttOf t).oldDone && (s.wttOf t).pend = some .clear)

/-- Flip one scheduled commit. -/
def State.flipGroup (g : NSet) (s : State) : State :=
  let s := { s with flip := s.flip.filter (fun x => x ≠ g) }
  forAll g (fun t s => s.flipOne t) s

/-- WTT_FLIP (R66, R69): the instant T of the oldest scheduled commit that is ready. -/
def execWttFlip (s : State) : Outcome State Fault Refusal :=
  match s.flip.find? (fun g => s.flipReady g) with
  | some g => .next (s.flipGroup g)
  | none => .next s

/-- OLD_DONE (R67, R68): set once no request of an earlier epoch is in flight; a commit that waited for it follows. -/
def execOldDone (t : Tenant) (s : State) : Outcome State Fault Refusal :=
  let n := t.toNat
  if s.oldGone n then
    let s := s.modWtt n (fun w => { w with oldDone := true })
    match s.flip.find? (fun g => nmem n g) with
    | some g =>
      let s := s.advanceCommit g
      .next (if s.flipReady g then s.flipGroup g else s)
    | none => .next s
  else .next s

end Sys2Proof.Machine
end

