-- ==== Sys2Proof/Machine/Requests.lean ====
section
/-! DEFINITION. How host requests end, what becomes of the module's own reads that fail, and the loss of a Far extent
(spec/01_architecture.md Table ARC-4, spec/02_host_ports.md R53 and R54, spec/04_tiers.md R101, spec/12_regulation.md
R316 and R317). -/

namespace Sys2Proof.Machine

open Host (Outcome)

/-- A host request ends with poison or its completion: its latency is measured, and the answer carries DevLoad. -/
def State.endReq (r : Req) (c : Status) (s : State) : State :=
  let s := s.latency r.tenant r.cls r.stamp
  let d := s.devLoad r.tenant r.cls
  s.emit (if r.op = .rd then .memPoison r.tenant c d else .memCmp r.tenant c d)

/-- A host read returns its data. -/
def State.endData (r : Req) (d : Line) (s : State) : State :=
  let s := s.latency r.tenant r.cls r.stamp
  s.emit (.memData r.tenant d (s.devLoad r.tenant r.cls))

/-- The record of a request that failed at the HDM decoder (0) or by a timeout (1), with its status (Tables RAS-7, ARC-4;
an HDM failure has none: its row names no status). -/
def State.reqRecord (r : Req) (loc why : Nat) (st : Status) (s : State) : State :=
  s.logRec { typ := 0x0F, sev := 2, status := st.code, tenant := some r.tenant, unit := unitNo 6 r.port, loc := loc, aux0 := why }

/-- A host read ends with TIMEOUT (Table PRT-12). -/
def State.endTimeout (r : Req) (s : State) : State := (s.reqRecord r (locUa r.ua) 1 .timeout).endReq r .timeout

/-- Plot of a Far buffer's key. -/
def keyPlot (k : Nat) : Nat := keyBlock k / 16

/-- Plot that a read of a Far place is for. -/
def usePlot : DmaUse → Option Nat
  | .fetch .. => none
  | .farHost r => some (plotOf r.ua)
  | .farFor _ k _ => some (keyPlot k)

/-- The reader of a Far place learns how its read ended without data. -/
def State.farFails (u : DmaUse) (c : Status) (s : State) : State :=
  match u with
  | .fetch .. => s
  | .farHost r => if c = .timeout then s.endTimeout r else s.endReq r c
  | .farFor who _ no =>
    if !s.farWanted no then s
    else
      let s := s.farArrive no (c, [])
      match who with
      | .close b => match s.openBlk b with
        | some o => s.closeBlk o
        | none => s
      | .move p => if c = .timeout then s.abandonPromotion p else s
      | _ => s

/-- Reads in flight of tenant t's host that meet d end with a status (R14, R101). -/
def State.failReadsOf (t : Nat) (d : DmaUse → Bool) (c : Status) (s : State) : State :=
  let us := (s.tags.filter (fun g => g.tenant = t && d g.use)).map Tag.use ++ (s.ld t).waiting.filterMap (fun w => match w with
    | .read _ u _ _ => if d u then some u else none
    | _ => none)
  let s := { s with tags := s.tags.filter (fun g => !(g.tenant = t && d g.use)) }
  let s := s.modLd t (fun l => { l with waiting := l.waiting.filter (fun w => match w with
    | .read _ u _ _ => !d u
    | _ => true) })
  forAll us (fun u s => s.farFails u c) s

/-- A plot whose backing place was in the extent. -/
def Plot.lost (e : Plot) : Plot :=
  { e with st := .farLost, slot := 0, claims := [], pins := [], dirty := 0#16, copied := 0#16, cancel := false,
           charged := false, farWant := none }

/-- The plot moves to Far into the extent. -/
def Plot.movesInto (l : Nat) (e : Plot) : Bool := e.st = .demoting && e.fmove && (e.farDst.map Prod.fst = some l)

/-- Host reads of lost plots that their controllers have not returned end with FAR_LOST (R101). -/
def State.failTierReads (ps : List Nat) (s : State) : State :=
  let lost (r : TierRead) : Bool := !r.timedOut && r.req.any (fun q => ps.contains (plotOf q.ua))
  let l := s.dmc.reads.filter lost
  forAll (l.flatMap TierRead.req) (fun r s => s.endReq r .farLost) (s.modDmc (fun d => { d with reads := d.reads.filter (fun r => !lost r) }))

/-- The extent of lending tenant l is lost (R101); cause as Table RAS-7. Nothing changes where its ENABLE is already clear:
LOST is not set and no record is made (DESIGN CHOICE, log 84). -/
def State.loseExtent (l cause : Nat) (s : State) : State :=
  if !s.farEnabled l then s else
  let ps := (s.tier.plots.filter (fun e => e.2.farb && e.2.st ≠ .farLost && locLender e.2.loc = l)).map Prod.fst
  let s := s.modStw (Reg.TIR_FAR_CTL + 4 * l) (fun w => setBit 31 false (setBit 30 true w))
  let s := forAll ps (fun p s => (s.modPlot p Plot.lost).dropNear p) s
  let s := s.dropOpen (fun b => ps.contains (b / 16))
  let mv := (s.tier.plots.filter (fun e => e.2.movesInto l)).map Prod.fst
  let s := forAll mv (fun p s => (s.cancelMove p).settle p) s
  let s := s.failTierReads ps
  let s := s.failReadsOf l (fun u => match usePlot u with | some p => ps.contains p | none => false) .farLost
  let s := forAll ps (fun p s => (s.farDrop (.move p)).settle p) s
  s.logRec { typ := 0x0E, sev := 2, tenant := some l, aux0 := ps.length, aux1 := cause }

end Sys2Proof.Machine
end

