-- ==== Sys2Proof/Machine/HostMem.lean ====
section
/-! DEFINITION. Host CXL.mem requests through the chain HDM decoder, WTT, Headgate, plot lookup and tier access
(spec/01_architecture.md R12 to R21 and Table ARC-4, spec/03_windows.md R56 to R60, spec/11_shared_regions.md R279 to
R294, spec/12_regulation.md R306 to R310, spec/13_dram_controllers.md R331). -/

namespace Sys2Proof.Machine

open Host (Outcome)

/-- DPA of a host address (R56): the offset in the decoder's range with the interleave way taken out. -/
def Hdm.dpa (h : Hdm) (hpa : Nat) : Option Nat :=
  let o := hpa - h.base.toNat
  if h.committed && h.base.toNat ≤ hpa && o < h.size.toNat then some (o / (h.gran * h.ways) * h.gran + o % h.gran) else none

/-! Tier access. -/

/-- DRAM lines that the read of a line fetches, one for each row (R148). -/
def State.readLocs (r : Rd) (ua : Nat) (s : State) : List DLoc :=
  match s.readSpan r ua with
  | some (p, e, offs) => s.dlocs p e offs
  | none => []

/-- The line that a read waits on: one whose channel holds it, or one that its controller returns late. -/
def State.lateLine (r : Rd) (ua : Nat) (s : State) : Option DLoc :=
  let l := s.readLocs r ua
  match l.find? (fun d => s.chanHeld d) with
  | some d => some d
  | none => if r.md = .late then l.head? else none

/-- How a host request reads. -/
def State.hostRd (r : Req) (began : Bool) (got : Option (Except Status (List Byte))) (s : State) : Rd :=
  { x := r.port, t := r.tenant, row := 0, host := true, urgent := 5 ≤ s.prio r.tenant r.cls r.stamp r.demoted false, began := began,
    enc := r.enc, md := r.md, got := got }

/-- A host request that must wait for a closing block, for a buffer (R21), or for its channel's write queue (R328). -/
def State.waitClose (r : Req) (s : State) : State := s.modCmp (fun c => { c with closeWait := c.closeWait ++ [r] })

/-- The request's plot is footprint mode and its block holds it (R21). -/
def State.reqHeld (r : Req) (s : State) : Bool :=
  match s.plot (plotOf r.ua) with
  | some e => e.mode = .footprint && e.st ≠ .farLost && s.blkHeld r.port (16 * plotOf r.ua + blockOf r.ua) (r.op = .wr)
  | none => false

/-- A host read at its tier; began where its lookup was made before; got is what a lending host returned for it. -/
def State.readReq (r : Req) (began : Bool) (got : Option (Except Status (List Byte))) (s : State) : State :=
  let d := s.hostRd r began got
  if s.reqHeld r then s.waitClose r
  else match s.lateLine d r.ua with
  | some l => s.modDmc (fun d => { d with
      reads := d.reads ++ [{ id := d.nextRead, src := .host { r with md := .clean }, chan := l.chan, bank := l.bankKey }],
      nextRead := d.nextRead + 1 })
  | none =>
    match s.readLine d r.ua with
    | (.data v, s) => s.endData r v
    | (.poison c, s) => s.endReq r c
    | (.far _ l a n, s) => if s.farCut (plotOf r.ua) then s.endReq r .poisonConsumed else s.dmaRead l (.farHost r) a n

/-- A host write at its plot. -/
def State.writeReq (r : Req) (s : State) : State :=
  if s.reqHeld r then (s.waitClose r).makeBuffer r.port
  else if s.writeHeld r.ua then s.waitClose r
  else match s.writeLine r.port r.tenant r.enc r.ua r.data r.be r.poison with
    | (c, s) => s.endReq r c

/-- Requests that waited for a block's release, for a buffer (R21), or for a write queue (R328), are served. -/
def State.closeResume (s : State) : State :=
  let l := s.cmp.closeWait
  forAll l (fun r s => if r.op = .wr then s.writeReq r else s.readReq r false none) (s.modCmp (fun c => { c with closeWait := [] }))

/-- Plot lookup and tier access; the access counts (R82). A request that must cross a bridge that retrains, to reach a
lending host, waits there (R15). -/
def State.tierReq (r : Req) (s : State) : State :=
  if r.op ≠ .inv && s.farHeld (plotOf r.ua) then { s with bridge := { s.bridge with queue := s.bridge.queue ++ [.host r] } }
  else match r.op with
  | .rd => (s.access (plotOf r.ua) r.tenant).readReq r false none
  | .wr => (s.access (plotOf r.ua) r.tenant).writeReq r
  | .inv => s.endReq r .ok

/-! The home half (R12, R280, R283, R287, R289, R294). -/

/-- A write is dropped, or a read of an ORPHANED line poisoned, and counted (Table SHR-11). -/
def State.countWrdrop (t : Nat) (s : State) : State := s.cntBar t Reg.SHR_TERR 15 0 1
def State.countOrphrd (t : Nat) (s : State) : State := s.cntBar t Reg.SHR_TERR 31 16 1

/-- The line's entry waits on the snoops of an eviction or of a unit's write: requests to it wait for them (R287, R296). -/
def State.lineInv (l : Nat) (s : State) : Bool :=
  s.shr.snoops.any (fun n => n.line = l && n.inv && (match n.why with
    | .evict _ => true
    | .unit => true
    | _ => false))

/-- A request to the line was admitted before and waits, or its entry is being invalidated. -/
def State.lineBusy (l : Nat) (s : State) : Bool :=
  (s.shr.waiting ++ s.shr.wayWait).any (fun x => lineOf x.ua = l) || s.lineInv l

/-- Put a request where it waits: for snoops, or for a way of its set; first where it waited for a way before. -/
def State.waitReq (r : Req) (front : Bool) (s : State) : State :=
  if s.shr.snoops.any (fun n => n.why = .req r.id || n.why = .evict r.id) then
    s.modShr (fun h => { h with waiting := h.waiting ++ [r] })
  else s.modShr (fun h => { h with wayWait := if front then r :: h.wayWait else h.wayWait ++ [r] })

/-- An ORPHANED line ends a request of it (R294). -/
def State.orphanReq (r : Req) (s : State) : State :=
  match r.op with
  | .rd => (s.countOrphrd r.tenant).endReq r .poisonConsumed
  | .wr => (s.countWrdrop r.tenant).endReq r .permission
  | .inv => s.endReq r .ok

/-- Serve a request at its home half; front where it is the line's first and waited for snoops or for a way before. -/
def State.serveReq (front : Bool) (r : Req) (s : State) : State :=
  let l := lineOf r.ua
  let s := s.convertLine l
  let ahead := !front && r.region.isSome && needsEntry r.mv && (s.dirOf l).isNone &&
    s.shr.wayWait.any (fun x => lineSet (lineOf x.ua) = lineSet l && lineHome (lineOf x.ua) = lineHome l)
  let ours := s.shr.waiting.any (fun x => lineOf x.ua = l)
  if s.lineInv l then s.modShr (fun h => { h with waiting := h.waiting ++ [r] })
  else if front && ours then s.modShr (fun h => { h with wayWait := r :: h.wayWait })
  else if !front && (s.lineBusy l || ahead) then
    s.modShr (fun h => if ours then { h with waiting := h.waiting ++ [r] } else { h with wayWait := h.wayWait ++ [r] })
  else match r.region with
    | some g =>
      if r.op = .wr && (s.region g).pinnedOld r.tenant then (s.countWrdrop r.tenant).endReq r .permission
      else if s.isOrphan l then s.orphanReq r
      else match s.dirServe l r.tenant g r.id r.op r.mv with
        | (.ready, s) => s.tierReq r
        | (.wait, s) => s.waitReq r front
        | (.cut, s) => s.endReq r .poisonConsumed
    | none => match s.bufferOf (plotOf r.ua) with
      | some (_, g, b) =>
        if g.bufHeld b then
          if r.op = .wr then (s.countWrdrop r.tenant).endReq r .permission
          else if s.isOrphan l then s.orphanReq r
          else match s.dirTouch l .rd (.req r.id) with
            | (.ready, s) => s.tierReq r
            | (.wait, s) => s.waitReq r front
            | (.cut, s) => s.endReq r .poisonConsumed
        else s.tierReq r
      | none => s.tierReq r

/-- Requests of a line that waited are served again in their order, once its snoops are answered; the first takes the way that
it evicted, before other requests of the set (R287). -/
def State.rerun (d : Req → Bool) (s : State) : State :=
  let l := s.shr.waiting.filter d
  let s := s.modShr (fun h => { h with waiting := h.waiting.filter (fun r => !d r) })
  forAll l.zipIdx (fun (e : Req × Nat) s => s.serveReq (!(l.take e.2).any (fun x => lineOf x.ua = lineOf e.1.ua)) e.1) s

/-- Requests that waited for the line of an eviction or of a unit's write are served (R287, R296). -/
def State.lineFree (l : Nat) (s : State) : State := if s.lineInv l then s else s.rerun (fun r => lineOf r.ua = l)

/-- What waited on an answered snoop goes on (R283, R287). -/
def State.snoopDone (n : Snoop) (s : State) : State :=
  match n.why with
  | .req i =>
    if s.shr.snoops.any (fun x => x.why = .req i) then s else s.rerun (fun r => lineOf r.ua = n.line)
  | .evict i =>
    if s.shr.snoops.any (fun x => x.why = .evict i) then s
    else match s.shr.waiting.find? (fun (r : Req) => r.id = i) with
      | some q => (s.rerun (fun r => lineOf r.ua = lineOf q.ua)).lineFree n.line
      | none => s.lineFree n.line
  | .unit => s.lineFree n.line
  | .walk _ => s

/-- An admitted request goes to its home half, over the bridge where it must (R14, R15). -/
def State.toHome (r : Req) (s : State) : State :=
  if portHalf r.port ≠ homeHalf (plotOf r.ua) then
    if s.split then s.endReq r .poisonConsumed
    else if s.bridge.retraining then { s with bridge := { s.bridge with queue := s.bridge.queue ++ [.host r] } }
    else s.serveReq false r
  else s.serveReq false r

/-! The Headgate (R308 to R310). -/

/-- The first of a list by R303 among one tenant's items of a kind: step, then stamp. -/
def State.firstHeld {α : Type} (t : Nat) (cls stamp : α → Nat) (l : List α) (s : State) : Option α :=
  let p (r : α) : Int := s.prio t (cls r) (stamp r) false false
  l.foldl (fun b r => match b with
    | none => some r
    | some x => if p r > p x || (p r = p x && stamp r < stamp x) then some r else b) none

/-- The held host request, of those that its class's Weir now lets pass, that R303 serves first. -/
def State.bestHeld (t : Nat) (s : State) : Option Req :=
  s.firstHeld t Req.cls Req.stamp ((s.hgOf t).held.filter (fun r => (s.hgOf t).ask r.cls ≠ Admit.hold))

/-- Copies of a tenant's moves that wait for its Headgate. -/
def State.heldCopies (t : Nat) (s : State) : List (Nat × Plot) :=
  s.tier.plots.filter (fun e => e.2.mover = t && !e.2.charged && e.2.nextBlock.isSome)

/-- The waiting copy, of those that its class's Weir now lets pass, that R303 serves first. -/
def State.bestCopy (t : Nat) (s : State) : Option (Nat × Plot) :=
  s.firstHeld t (fun e => e.2.cls) (fun e => e.2.stamp) ((s.heldCopies t).filter (fun e => (s.hgOf t).ask e.2.cls ≠ Admit.hold))

/-- A waiting copy is admitted, charged in sectors unless it is demoted (R307, R308). -/
def State.passCopy (t p : Nat) (e : Plot) (s : State) : State :=
  match (s.hgOf t).ask e.cls, e.nextBlock with
  | .pass, some j => (s.modHg t (fun h => h.charge e.cls (s.blockSectors p e j))).setPlot p { e with charged := true }
  | _, _ => s.setPlot p { e with charged := true }

def State.unholdReq (r : Req) (s : State) : State :=
  s.modHg r.tenant (fun h => { h with held := h.held.filter (fun x => x.id ≠ r.id) })

/-- A held host request is admitted. -/
def State.passReq (t : Nat) (r : Req) (s : State) : State :=
  let h := s.hgOf t
  let s := s.unholdReq r
  if h.ask r.cls = Admit.pass then (s.modHg t (fun h => h.charge r.cls 1)).toHome r else s.toHome { r with demoted := true }

/-- The held request or copy that R303 serves first is admitted: demand before movement among equal steps. -/
def State.admitHeld (t : Nat) (s : State) : Bool × State :=
  match s.bestHeld t, s.bestCopy t with
  | none, none => (false, s)
  | some r, none => (true, s.passReq t r)
  | none, some (p, e) => (true, s.passCopy t p e)
  | some r, some (p, e) =>
    if s.prio t e.cls e.stamp false false > s.prio t r.cls r.stamp false false then (true, s.passCopy t p e) else (true, s.passReq t r)

def State.admitUpTo (t : Nat) : Nat → State → State
  | 0, s => s
  | n + 1, s => match s.admitHeld t with
    | (true, s) => State.admitUpTo t n s
    | (false, s) => s

/-- Held requests and copies admitted while each class's count is below its budget (R309). -/
def State.admitAll (t : Nat) (s : State) : State := s.admitUpTo t ((s.hgOf t).held.length + (s.heldCopies t).length)

/-- A host request at its Headgate. -/
def State.headgate (r : Req) (s : State) : State :=
  match s.weirAdmit r.tenant r.cls 1 with
  | (.hold, s) =>
    let h := s.hgOf r.tenant
    let cap := s.stwF (Reg.HGT_UCFG + 4 * r.tenant) 27 16
    match h.held with
    | o :: q =>
      if h.held.length ≥ cap then ((s.setHg r.tenant { h with held := q ++ [r] }).heldMark r.tenant o.cls 1).toHome { o with demoted := true }
      else s.setHg r.tenant { h with held := h.held ++ [r] }
    | [] => s.setHg r.tenant { h with held := [r] }
  | (a, s) => s.toHome { r with demoted := a = .demote }

/-- HEADGATE_ADMIT (R303, R308): a held request that its Weir now admits, or demotes, goes on. -/
def execHeadgateAdmit (t : Tenant) (s : State) : Outcome State Fault Refusal := .next (s.admitHeld t.toNat).2

/-! The WTT stage (R57, R60, R279, R291). -/

/-- A request at the WTT stage, on the bank that it began on (R66): one that waits at resolution keeps its bank over a
commit, as a part of its lookup (R279). -/
def State.wttStage (r : Req) (s : State) : State :=
  let w : Wtt := { s.wttOf r.tenant with onB := r.onB }
  let x := w.translate r.dpa (r.op = .wr)
  let r := { r with cls := x.cls }
  let wait := match x.ent with
    | some e => e.shared && (s.region e.region).holdsBack r.tenant
    | none => false
  if wait then s.modShr (fun h => { h with resWait := h.resWait ++ [r] })
  else
    let s := if x.clamped then s.cntBar r.tenant Reg.WTT_FAULT 15 0 1 else s
    let res := match x.ent with
      | some e => if e.shared && !s.fnReady r.tenant .shr then none
          else (s.resolve w.cfg r.tenant e x.ua).map (fun p => { r with ua := p.1, enc := e.enc, region := p.2 })
      | none => none
    match res with
    | some r => s.headgate r
    | none => (s.cntBar r.tenant Reg.WTT_FAULT 31 16 1).endReq r .permission

/-- Requests that waited at resolution are translated again after a flip (R291). -/
def State.resume291 (s : State) : State :=
  let l := s.shr.resWait
  forAll l (fun r s => s.wttStage r) (s.modShr (fun h => { h with resWait := [] }))

/-! Arrival. -/

/-- A CXL.mem request of a logical device arrives at its head (R17, R56, R237, R398, R413). -/
def State.hostReq (p : PortId) (ld : BitVec 4) (op : ReqOp) (hpa : W64) (mv : Meta) (d : Line) (be : W64) (poison : Bool)
    (md : Media) (s : State) : State :=
  let t := 16 * p.toNat + ld.toNat
  let h := s.headPort p.toNat
  if !s.portUp p.toNat || !(s.ld t).enumerated then s
  else if bit 0 (s.stw (Reg.SEC_PORT + 4 * h)) && !(s.port h).ideSecure then
    (s.cntStw (Reg.SEC_PSTAT + 4 * h) 15 0 1).emit
      (if op = .rd then .memPoison t .permission (s.devLoad t 0) else .memCmp t .permission (s.devLoad t 0))
  else
    let r : Req := { id := s.nextReq, port := p.toNat, tenant := t, op := op, dpa := 0, mv := mv, ua := 0, cls := 0,
                     enc := none, region := none, data := d, be := be, poison := poison, md := md, stamp := s.now,
                     oldEpoch := (s.wttOf t).epoch, onB := (s.wttOf t).onB }
    let s := { s with nextReq := s.nextReq + 1 }
    if !s.fnReady t .mem then
      (s.cntBar t Reg.BUP_EARLY 15 0 1).emit (if op = .rd then .memPoison t .notReady (s.devLoad t 0) else .memCmp t .notReady (s.devLoad t 0))
    else match (s.ld t).hdm.dpa hpa.toNat with
      | none => (s.reqRecord r hpa.toNat 0 .ok).emit
          (if op = .rd then .memPoison t .permission (s.devLoad t 0) else .memCmp t .permission (s.devLoad t 0))
      | some a =>
        let w := s.wttOf t
        if s.dblOn t && a % 2 ^ cfgWin w.cfg / 64 * 64 = s.dblOff t then
          let c := (w.translate a false).cls
          match op with
          | .wr => s.doorbellWrite t c d be poison
          | .rd => s.doorbellRead t c
          | .inv => s.emit (.memCmp t .ok (s.devLoad t c))
        else s.wttStage { r with dpa := a }

/-- HOST_MEM_READ (R17). -/
def execHostMemRead (p : PortId) (ld : BitVec 4) (hpa : W64) (mv : Meta) (md : Media) (s : State) : Outcome State Fault Refusal :=
  .next (s.hostReq p ld .rd hpa mv 0#512 0#64 false md)

/-- HOST_MEM_WRITE (R17). -/
def execHostMemWrite (p : PortId) (ld : BitVec 4) (hpa : W64) (mv : Meta) (data : Line) (be : W64) (poison : Bool) (s : State) :
    Outcome State Fault Refusal :=
  .next (s.hostReq p ld .wr hpa mv data be poison .clean)

/-- HOST_MEM_INV (R283). -/
def execHostMemInv (p : PortId) (ld : BitVec 4) (hpa : W64) (mv : Meta) (s : State) : Outcome State Fault Refusal :=
  .next (s.hostReq p ld .inv hpa mv 0#512 0#64 false .clean)

/-! Reads under way. -/

/-- FAR_READ_COMPLETION (R79): bytes of a lending host reach the read that asked. -/
def execFarReadCompletion (tag : Nat) (data : List Byte) (poison : Bool) (s : State) : Outcome State Fault Refusal :=
  match s.tagOf tag with
  | some g => match g.use with
    | .fetch .. => .next s
    | .farHost r => .next ((s.dropTag tag).readReq r false (some (if poison then .error .poisonConsumed else .ok data)))
    | .farFor who _ no =>
      let s := s.dropTag tag
      if poison then .next (s.farFails g.use .poisonConsumed).closeResume
      else if !s.farWanted no then .next s
      else
        let s := s.farArrive no (.ok, data)
        .next (match who with
          | .close b => match s.openBlk b with
            | some o => (s.closeBlk o).closeResume
            | none => s.farDrop who
          | _ => s)
  | none => match s.lateTag tag with
    | some t => .next (s.unexpected t)
    | none => .next s

/-- Half of a channel. -/
def chanHalf (ch : Nat) : Half := scopeHalf [ch]

/-- TIER_READ_RETURN (R328): the read that its controller had not returned comes back; a unit's program then reads it. -/
def execTierReadReturn (id : Nat) (md : Media) (s : State) : Outcome State Fault Refusal :=
  match s.dmc.reads.find? (fun r => r.id = id) with
  | none => .next s
  | some r =>
    if r.timedOut || md = .late then .next s
    else
      let s' := s.modDmc (fun d => { d with reads := d.reads.filter (fun x => x.id ≠ id) })
      match r.src with
      | .host q =>
        if (s.readLocs (s.hostRd q true none) q.ua).any (fun d => s.chanHeld d) then .next s else .next (s'.readReq { q with md := md } true none)
      | .unit .. => if (s.chan r.chan).st = .paused then .next s else .next s'

/-- TIER_READ_TIMEOUT (R331). -/
def execTierReadTimeout (id : Nat) (s : State) : Outcome State Fault Refusal :=
  match s.dmc.reads.find? (fun r => r.id = id) with
  | none => .next s
  | some r =>
    if r.timedOut then .next s
    else
      let s := s.modDmc (fun d => { d with reads := mapIf (fun x => decide (x.id = id)) (fun x => { x with timedOut := true }) d.reads })
      let s := s.cntStw (Reg.DMC_TO + 4 * halfIdx (chanHalf r.chan)) 31 16 1
      .next (match r.src with
        | .host q => s.endTimeout q
        | .unit w l _ _ _ => s.modDmc (fun d => { d with ended := d.ended ++ [(w, l)] }))

/-- TIER_READ_LATE_RETURN (R331): discarded and counted. -/
def execTierReadLateReturn (id : Nat) (s : State) : Outcome State Fault Refusal :=
  match s.dmc.reads.find? (fun r => r.id = id) with
  | none => .next s
  | some r =>
    if r.timedOut then
      .next ((s.modDmc (fun d => { d with reads := d.reads.filter (fun x => x.id ≠ id) })).cntStw
        (Reg.DMC_TO + 4 * halfIdx (chanHalf r.chan)) 15 0 1)
    else .next s

/-- WRITE_COMPRESSOR_CLOSE (R21): a port's compressor closes its first full block; with none, and its 64 buffers taken, it
closes the least recently written one. -/
def execWriteCompressorClose (p : PortId) (s : State) : Outcome State Fault Refusal :=
  let l := s.cmp.opened.filter (fun o => o.unit = p.toNat && !o.closing)
  match l.find? OpenBlk.full with
  | some o => .next (s.closeBlk o).closeResume
  | none => .next (s.makeBuffer p.toNat).closeResume

/-- A request that waits for a way can go on: it is its set's first, and its set has a way free or one that can be evicted, or
its line has an entry by now (R287). -/
def State.wayReady (r : Req) (s : State) : Bool :=
  let l := lineOf r.ua
  let sameSet (x : Req) : Bool := lineSet (lineOf x.ua) = lineSet l && lineHome (lineOf x.ua) = lineHome l
  ((s.shr.wayWait.find? sameSet).map Req.id) = some r.id &&
  ((s.dirOf l).isSome || !needsEntry r.mv || (s.setOf l).length < 16 || (s.evictPick l).isSome)

/-- DIRECTORY_WAIT_RESUME (R287): the oldest request of a half that waits for a way and can go on does. -/
def execDirectoryWaitResume (h : Half) (s : State) : Outcome State Fault Refusal :=
  match s.shr.wayWait.find? (fun r => lineHome (lineOf r.ua) = h && s.wayReady r) with
  | none => .next s
  | some r => .next ((s.modShr (fun x => { x with wayWait := x.wayWait.filter (fun y => y.id ≠ r.id) })).serveReq true r)

/-! Timeouts and unexpected completions (R51, R53, R54). -/

/-- The request behind a tag: outstanding, or a read that waits for Bus Master Enable. -/
def State.pendingRead (g : Nat) (s : State) : Option (Nat × DmaUse) :=
  match s.tagOf g with
  | some x => some (x.tenant, x.use)
  | none => s.lds.findSome? (fun e => e.2.waiting.findSome? (fun w => match w with
    | .read k u _ _ => if k = g then (match u with | .fetch .. => none | u => some (e.1, u)) else none
    | _ => none))

/-- COMPLETION_TIMEOUT (R51, R53, Table PRT-12). -/
def execCompletionTimeout (tag : Nat) (s : State) : Outcome State Fault Refusal :=
  match s.pendingRead tag with
  | none => .next s
  | some (t, u) =>
    let q := match s.tagOf tag with
      | some x => [x]
      | none => []
    let s := { s.dropTag tag with quarantine := s.quarantine ++ q }
    let s := s.modLd t (fun l => { l with aerTimeout := true, waiting := l.waiting.filter (fun w => match w with
      | .read k _ _ _ => k ≠ tag
      | _ => true) })
    let s := s.cntBar t Reg.PRT_CPL 15 0 1
    .next (match u with
      | .fetch r first cnt => s.fetchEnds t r first cnt (.error 1)
      | u => (s.farFails u .timeout).asgnResume.closeResume)

/-- TAG_QUARANTINE_EXPIRE (R53). -/
def execTagQuarantineExpire (tag : Nat) (s : State) : Outcome State Fault Refusal :=
  .next { s with quarantine := s.quarantine.filter (fun x => x.tag ≠ tag) }

/-- UNEXPECTED_COMPLETION (R54). -/
def execUnexpectedCompletion (t : Tenant) (tag : Nat) (s : State) : Outcome State Fault Refusal :=
  .next (if s.tags.any (fun g => g.tag = tag && g.tenant = t.toNat) then s else s.unexpected t.toNat)

/-- FAR_DMA_ERROR_COMPLETION (R101): Unsupported Request or Completer Abort loses the extent. -/
def execFarDmaErrorCompletion (tag : Nat) (s : State) : Outcome State Fault Refusal :=
  match s.tagOf tag with
  | some g => match g.use with
    | .fetch .. => .next s
    | _ =>
      let s := (s.loseExtent g.tenant 1).asgnResume
      .next (match s.tagOf tag with
        | some x => (s.dropTag tag).farFails x.use .farLost
        | none => s).closeResume
  | none => match s.lateTag tag with
    | some t => .next (s.unexpected t)
    | none => .next s

/-! The steward's registration of extents (R100, R101). -/

/-- FAR_ENABLE (R100): ignored with ERR where the base is misaligned or the extents would pass 64 TiB. -/
def execFarEnable (t : Tenant) (s : State) : Outcome State Fault Refusal :=
  let l := t.toNat
  let total := (((List.range 256).filter (fun k => k ≠ l && s.farEnabled k)).map (fun k => s.farSize k)).sum
  if s.farEnabled l then .next s
  else if s.farBase l % 65536 ≠ 0 || total + s.farSize l > 1073741824 then
    .next (s.modStw (Reg.TIR_FAR_CTL + 4 * l) (setBit 28 true))
  else .next (s.modStw (Reg.TIR_FAR_CTL + 4 * l) (fun w => setBit 31 true (setBit 30 false w)))

/-- FAR_DISABLE (R101): the extent is lost where plots are placed, or being placed, in it. -/
def execFarDisable (t : Tenant) (s : State) : Outcome State Fault Refusal :=
  let l := t.toNat
  if s.farBusy l = [] then .next (s.modStw (Reg.TIR_FAR_CTL + 4 * l) (setBit 31 false))
  else .next (s.loseExtent l 3).asgnResume.closeResume

/-- FAR_REVOKE (R101). -/
def execFarRevoke (t : Tenant) (s : State) : Outcome State Fault Refusal := .next (s.loseExtent t.toNat 2).asgnResume.closeResume

end Sys2Proof.Machine
end

