-- ==== Sys2Proof/Machine/Dram.lean ====
section
/-! DEFINITION. DRAM controllers: write queues, rows, refresh, retraining pauses, rank evacuation and script sets
(spec/13_dram_controllers.md). Channels 0-135 are LCn; 136 + n is HPCn. -/

namespace Sys2Proof.Machine

open Host (Outcome)

/-- A channel that Table SCO-4 does not give. -/
def chanFault (ch : Nat) : Outcome State Fault Refusal := .fault (.noSuchUnit "channel" ch)

def chanCount : Nat := 264

/-- WRITE_QUEUE_SERVE (R327): every queued line of one open row, or at least 16; a paused channel serves none (R335). -/
def execWriteQueueServe (ch : Nat) (s : State) : Outcome State Fault Refusal :=
  if ch < chanCount then .next (if (s.chan ch).st = .paused then s else s.modChan ch Chan.serveWrites) else chanFault ch

/-- ROW_IDLE_CLOSE (R330): the row closes, and its bank's counter falls. -/
def execRowIdleClose (ch bank : Nat) (s : State) : Outcome State Fault Refusal :=
  if ch < chanCount then
    .next (s.modChan ch (fun c => match tfind bank c.rows with
      | some _ => { c with rows := tdel bank c.rows, rowCnt := tset 2 bank (tget 2 bank c.rowCnt - 1) c.rowCnt }
      | none => c))
  else chanFault ch

/-- Banks of a channel (Table DMC-1). -/
def chanBanks (ch : Nat) : List Nat :=
  if chanTier ch = 1 then (List.range 16) ++ (List.range 16).map (fun b => 64 + b) else List.range 64

/-- A request at step 5 or above waits on one of the banks (R332). -/
def State.urgentWait (ch : Nat) (banks : List Nat) (s : State) : Bool :=
  s.dmc.reads.any (fun r => r.chan = ch && banks.contains r.bank && !r.timedOut && 5 ≤ (match r.src with
    | .host q => s.prio q.tenant q.cls q.stamp q.demoted false
    | .unit _ _ t c n => s.prio t c n false false))

/-- REFRESH_DUE (R332): postponed while an urgent request waits and the limit allows, else issued with what is owed. -/
def execRefreshDue (ch bank : Nat) (s : State) : Outcome State Fault Refusal :=
  if ch < chanCount then
    let w := s.stw (Reg.DMC_RCFG + 4 * chanTier ch)
    let l := if bit 0 w then chanBanks ch else [bank]
    let lim := min 8 (bits 15 12 w)
    .next (s.modChan ch (fun c => { c with owed := forAll l (fun b o =>
      if s.urgentWait ch l && tget 0 b o < lim then tset 0 b (tget 0 b o + 1) o else tset 0 b 0 o) c.owed }))
  else chanFault ch

/-- TEMPERATURE_POLL (R333): a rise takes effect at once, a fall asks the arbiter. -/
def execTemperaturePoll (ch : Nat) (rate : BitVec 2) (s : State) : Outcome State Fault Refusal :=
  if ch < chanCount then
    let c := s.chan ch
    if rate = 3#2 then .next s
    else if c.refRate.toNat < rate.toNat then .next ((s.setChan ch { c with refRate := rate, rateWant := none }).maintEnd 3 ch)
    else if rate = c.refRate then .next ((s.setChan ch { c with rateWant := none }).maintEnd 3 ch)
    else
      let s := s.setChan ch { c with rateWant := some rate }
      .next (if (s.actOf 3 ch).isSome then s else s.maintAsk 3 [ch] ch)
  else chanFault ch

/-- REFRESH_RATE_CHANGE (R333): the longer interval that a poll allowed, once granted. -/
def execRefreshRateChange (ch : Nat) (rate : BitVec 2) (s : State) : Outcome State Fault Refusal :=
  if ch < chanCount then
    let c := s.chan ch
    .next (if c.rateWant = some rate && s.holdsGrant 3 ch then
        (s.setChan ch { c with refRate := rate, rateWant := none }).maintEnd 3 ch
      else s)
  else chanFault ch

/-! Retraining pauses (R334, R335). -/

def bstatOf (ch : Nat) : Nat := if ch < 136 then Reg.DMC_BSTAT + 4 * ch else Reg.DMC_HSTAT + 4 * (ch - 136)

/-- A channel in service asks for its pause; granted, it stops, its banks close and owed refreshes are issued
(Table DMC-2). -/
def State.takePause (ch : Nat) (s : State) : State :=
  if (s.chan ch).st ≠ .inService || (s.chan ch).lost then s
  else
    let s := if (s.actOf 2 ch).isSome then s else s.maintAsk 2 [ch] ch
    if s.holdsGrant 2 ch then
      (s.modChan ch (fun c => { c with st := .paused, rows := [], owed := [] })).cntStw (bstatOf ch) 15 0 1
    else s

/-- RETRAIN_PAUSE_DUE (R334). -/
def execRetrainPauseDue (ch : Nat) (s : State) : Outcome State Fault Refusal :=
  if ch < chanCount then
    .next (if bit 31 (s.stw (Reg.DMC_TCFG + 4 * chanTier ch)) then s.takePause ch else s)
  else chanFault ch

/-- Logical ranks that a channel's physical ranks hold. -/
def State.ranksOn (ch : Nat) (s : State) : List Nat :=
  (List.range 256).filter (fun r => (s.rank r).phys / 2 = ch && (s.rank r).st ≠ .spilled)

/-- A pause ends; a third failure in a row is recorded, and with AUTO the channel's ranks are to be evacuated. -/
def State.pauseEnd (ch : Nat) (ok : Bool) (s : State) : State :=
  let c := s.chan ch
  if c.st ≠ .paused then s
  else
    let n := if ok then 0 else c.tfails + 1
    let s := (s.setChan ch { c with st := .inService, tfails := n }).maintEnd 2 ch
    let s := if ok then s else s.cntStw (bstatOf ch) 23 16 1
    let s := if n = 3 then
        let s := s.logRec { typ := 0x10, sev := 1, unit := chanUnit ch, aux0 := 3 }
        if bit 31 (s.stw Reg.DMC_ECFG) && chanTier ch = 1 then
          forAll (s.ranksOn ch) (fun r s => s.modRank r (fun k => { k with auto := true })) s
        else s
      else s
    s.closeResume

/-- RETRAIN_PAUSE_END (R334, R335). -/
def execRetrainPauseEnd (ch : Nat) (ok : Bool) (s : State) : Outcome State Fault Refusal :=
  if ch < chanCount then .next (s.pauseEnd ch ok) else chanFault ch

/-! Rank evacuation (R336 to R340, Table DMC-3). -/

def rankHalf (r : Nat) : Nat := r / 128
def estatOf (r : Nat) : Nat := Reg.DMC_ESTAT + 4 * rankHalf r

def RankSt.code : RankSt → Nat
  | .normal => 0
  | .copying => 1
  | .switching => 2
  | .spared => 3
  | .spilling => 4
  | .spilled => 5

def Rank.busy (r : Rank) : Bool := r.st = .copying || r.st = .switching || r.st = .spilling

/-- An evacuation runs on the half of a logical rank. -/
def State.evacRuns (r : Nat) (s : State) : Bool :=
  (List.range 128).any (fun i => (s.rank (128 * rankHalf r + i)).busy)

/-- Spare ranks of a half that hold nothing and are not retired. -/
def State.freeSpares (h : Nat) (s : State) : List Nat :=
  ((List.range 8).map (fun i => 256 + 8 * h + i)).filter (fun p =>
    !nmem p s.dmc.retiredRanks && !(List.range 256).any (fun r => let k := s.rank r
      (k.st = .spared && k.phys = p) || ((k.st = .copying || k.st = .switching) && k.spare = p)))

/-- The record of a rank's state (Table RAS-7). -/
def State.evacRec (r : Nat) (st : Status) (s : State) : Rec :=
  { typ := 0x11, sev := 1, unit := unitNo 5 r, loc := (s.rank r).phys, aux0 := (s.rank r).st.code, aux1 := st.code }

def State.evacStatus (r : Nat) (st : Status) (s : State) : State := s.modStw (estatOf r) (setBits 7 0 st.code)

/-- Start the evacuation of a NORMAL rank: to a spare, else to the spill area, else QUOTA. -/
def State.startEvac (r : Nat) (s : State) : State :=
  let k := s.rank r
  let h := rankHalf r
  match pickFree (s.freeSpares h) s with
  | some p =>
    let s := s.tickFree.setRank r { k with st := .copying, spare := p, row := 0, auto := false }
    (((s.setStw (estatOf r) 0x80000000#32).logRec (s.evacRec r .ok))).maintAsk 4 [k.phys / 2, p / 2] r
  | none =>
    if nmem h s.dmc.spillUsed then
      let s := (s.setRank r { k with auto := false }).evacStatus r .quota
      s.logRec (s.evacRec r .quota)
    else
      let s := (s.setRank r { k with st := .spilling, auto := false }).modDmc (fun d => { d with spillUsed := nins h d.spillUsed })
      ((s.setStw (estatOf r) 0x80000000#32).logRec (s.evacRec r .ok)).maintAsk 4 [k.phys / 2] r

/-- EVACUATE (R336, Table DMC-13). -/
def execEvacuate (rank : BitVec 8) (s : State) : Outcome State Fault Refusal :=
  let r := rank.toNat
  if s.conflict then .next (s.evacStatus r .stewardConflict)
  else if s.evacRuns r then .next (s.evacStatus r .slotBusy)
  else if (s.rank r).st ≠ .normal then .next (s.evacStatus r .permission)
  else .next (s.startEvac r)

/-- EVACUATE_CANCEL (R336): the copy stops and the spare is free. -/
def execEvacuateCancel (rank : BitVec 8) (s : State) : Outcome State Fault Refusal :=
  let r := rank.toNat
  let k := s.rank r
  if s.conflict then .next (s.evacStatus r .stewardConflict)
  else if k.st ≠ .copying then .next (s.evacStatus r .permission)
  else
    let s := (s.setRank r { k with st := .normal, spare := 0, row := 0 }).setStw (estatOf r) 0#32
    .next ((s.logRec (s.evacRec r .ok)).maintEnd 4 r)

/-- EVACUATE_AUTO_TRIGGER (R335, R336): acts once no evacuation runs on the half. -/
def execEvacuateAutoTrigger (rank : BitVec 8) (s : State) : Outcome State Fault Refusal :=
  let r := rank.toNat
  let k := s.rank r
  if !bit 31 (s.stw Reg.DMC_ECFG) || !k.auto then .next s
  else if k.st ≠ .normal then .next (s.setRank r { k with auto := false })
  else if s.evacRuns r then .next s
  else .next (s.startEvac r)

/-- Every line that plots' Bulk copies hold on logical rank r is read: one that reads uncorrectable is stored poisoned (R337,
R339). The physical rank that held them is left behind, with its errors. -/
def State.evacReads (r : Nat) (s : State) : State :=
  let ph := (s.rank r).phys
  let s := forAll (s.tier.plots.filter (fun x => x.2.hasBulk)) (fun x s => forAll (List.range 16) (fun j s =>
    let e : Plot := { x.2 with st := .bulk }
    let (bad, s) := s.moveReads x.1 e j [] (fun d => d.lrank = some r)
    (s.mediaMove x.1 j bad 3).modTier (fun t => { t with poison := ninsAll (bad.map (fun i => s.poisonKey x.1 e j i)) t.poison })) s) s
  s.modDmc (fun m => { m with damage := m.damage.filter (fun d => d.1 / 2 ^ 33 ≠ ph / 2 || d.1 / 2 ^ 32 % 2 ≠ ph % 2) })

/-- EVACUATE_COPY_DONE (R337): the rank enters SWITCHING. -/
def execEvacuateCopyDone (rank : BitVec 8) (s : State) : Outcome State Fault Refusal :=
  let r := rank.toNat
  let k := s.rank r
  if k.st = .copying && s.holdsGrant 4 r then
    let s := (s.evacReads r).modRank r (fun k => { k with st := .switching, row := 1864135 })
    let s := s.modStw (estatOf r) (setBits 17 8 1000)
    .next (s.logRec (s.evacRec r .ok))
  else .next s

/-- A physical rank is retired; a channel with both ranks retired is RETIRED. -/
def State.retireRank (p : Nat) (s : State) : State :=
  let s := s.modDmc (fun d => { d with retiredRanks := nins p d.retiredRanks })
  if nmem (2 * (p / 2)) s.dmc.retiredRanks && nmem (2 * (p / 2) + 1) s.dmc.retiredRanks then
    s.modChan (p / 2) (fun c => { c with st := .retired })
  else s

/-- An evacuation ends in SPARED or SPILLED: records, and the half is free for another. -/
def State.evacEnd (r : Nat) (old : Nat) (s : State) : State :=
  let s := s.retireRank old
  let s := s.setStw (estatOf r) (at32 8 1000)
  ((s.logRec (s.evacRec r .ok)).fmHealth (s.evacRec r .ok)).maintEnd 4 r

/-- SWITCHOVER_END (R338, Table DMC-4). -/
def execSwitchoverEnd (rank : BitVec 8) (s : State) : Outcome State Fault Refusal :=
  let r := rank.toNat
  let k := s.rank r
  if k.st = .switching && s.holdsGrant 4 r then
    .next ((s.setRank r { k with st := .spared, phys := k.spare, spare := 0, row := 0 }).evacEnd r k.phys)
  else .next s

/-- The escape pool of a half is full (R145). -/
def State.escFull (h : Nat) (s : State) : Bool := (s.tier.escUsed.filter (fun e => e / 262144 = h)).length ≥ 262144

/-- First byte of a line in its logical rank's data: row × 16 + bank in units of 2 KiB, then the column (R339). -/
def rankByte (d : DLoc) : Nat := (d.row * 16 + d.bank) * 2048 + d.line * 64

/-- Bytes of a logical rank that plots' Bulk copies hold. -/
def State.rankBytes (r : Nat) (s : State) : Mem :=
  forAll (s.tier.plots.filter (fun x => x.2.hasBulk)) (fun x m => forAll (List.range 16) (fun j m =>
    let e : Plot := { x.2 with st := .bulk }
    forAll ((s.blockOffs x.1 e j).zipIdx) (fun o m => match s.dloc x.1 e o.1 with
      | some d => if d.lrank = some r then mwrite (rankByte d) (slice (s.storedBytes x.1 e j) (64 * o.2) 64) m else m
      | none => m) m) m) []

/-- The controller's codec makes a fixed block of a unit: its header and stream in 32 sectors (R144; log 8). -/
def unitCodes (b : List Byte) : Bool := match footStream 8 b with
  | some c => c.length + 16 ≤ 2048
  | none => false

/-- The lowest free escape entry of a half (R145). -/
def State.freeEscape (h : Nat) (s : State) : Option Nat :=
  let n := s.tier.escUsed.foldl (fun n i => if i = n then n + 1 else n) (262144 * h)
  if n < 262144 * (h + 1) then some n else none

/-- Store one unit of a rank in the spill area: as a fixed block, or in an escape entry; false where there is none (R144, R145,
R339). -/
def State.spillUnit (r u : Nat) (b : List Byte) (s : State) : Bool × State :=
  if unitCodes b then (true, s)
  else match s.freeEscape (rankHalf r) with
    | none => (false, s.cntStw (Reg.CMP_FIX + 4 * rankHalf r) 3 0 1)
    | some i => (true, (s.modTier (fun t => { t with escUsed := nins i t.escUsed, esc := mwrite (4096 * i) b t.esc })).modDmc (fun m =>
        { m with spillEsc := tput (r * 2 ^ 24 + u) i m.spillEsc }))

/-- Store a rank's units, in ascending order, up to the first that finds no escape entry. Units that hold nothing are coded. -/
def State.spillUnits (r : Nat) (m : Mem) : List Nat → State → Option Nat × State
  | [], s => (none, s)
  | u :: l, s => match s.spillUnit r u (mread (4096 * u) 4096 m) with
    | (true, s) => State.spillUnits r m l s
    | (false, s) => (some u, s)

/-- SPILL_DONE (R336, R339): the remaining units are stored; parked with ESCFULL, its pointer kept, where one finds no escape
entry. -/
def execSpillDone (rank : BitVec 8) (s : State) : Outcome State Fault Refusal :=
  let r := rank.toNat
  let k := s.rank r
  if k.st = .spilling && s.holdsGrant 4 r && !bit 30 (s.stw (estatOf r)) then
    let m := s.rankBytes r
    match s.spillUnits r m ((ninsAll (m.map (fun c => c.1 / 4096)) []).filter (fun u => k.row ≤ u)) with
    | (some u, s) => .next ((s.modRank r (fun k => { k with row := u })).modStw (estatOf r) (setBit 30 true))
    | (none, s) => .next (((s.evacReads r).modRank r (fun k => { k with st := .spilled })).evacEnd r k.phys)
  else .next s

/-- SPILL_RESUME (R336): an escape entry is free again. -/
def execSpillResume (h : Half) (s : State) : Outcome State Fault Refusal :=
  .next (if s.escFull (halfIdx h) then s else s.modStw (Reg.DMC_ESTAT + 4 * halfIdx h) (setBit 30 false))

/-! Sequencer scripts (R341, R342). -/

/-- SCRIPT_ABORT (R341): the activity that ran the script ends as failed. -/
def execScriptAbort (ch : Nat) (s : State) : Outcome State Fault Refusal :=
  if ch < chanCount then
    let s := s.cntStw (Reg.DMC_SQSTAT + 4 * chanTier ch) 15 0 1
    if (s.chan ch).st = .paused then .next (s.pauseEnd ch false)
    else if s.holdsGrant 3 ch then .next ((s.modChan ch (fun c => { c with rateWant := none })).maintEnd 3 ch)
    else .next s
  else chanFault ch

/-- SCRIPT_SET_COMMIT (R342): one reload for each half of a tier; in force once both are granted. -/
def execScriptSetCommit (near : Bool) (ver : W16) (s : State) : Outcome State Fault Refusal :=
  let tier := if near then 0 else 1
  let ask (h : Half) (s : State) : State :=
    if (s.actOf 7 (2 * tier + halfIdx h)).isSome then s else s.maintAsk 7 (scTier tier h) (2 * tier + halfIdx h)
  let s := (ask .south (ask .north s)).modDmc (fun d => { d with setNext := tput tier ver d.setNext })
  if s.holdsGrant 7 (2 * tier) && s.holdsGrant 7 (2 * tier + 1) then
    .next (((s.modDmc (fun d => { d with setNext := tdel tier d.setNext, setVer := tset 0#16 tier ver d.setVer })).maintEnd 7 (2 * tier)).maintEnd 7
      (2 * tier + 1))
  else .next s

/-- CHANNEL_LOST (R386): requests to the channel end with poison from then on. -/
def execChannelLost (ch : Nat) (s : State) : Outcome State Fault Refusal :=
  if ch < chanCount then
    let l := s.dmc.reads.filter (fun r => r.chan = ch && !r.timedOut)
    let s := s.modDmc (fun d => { d with reads := d.reads.filter (fun r => r.chan ≠ ch || r.timedOut) })
    let s := s.modChan ch (fun c => { c with lost := true, wq := [], chk := [] })
    .next (forAll (l.flatMap TierRead.req) (fun r s => s.endReq r .poisonConsumed) s).closeResume
  else chanFault ch

end Sys2Proof.Machine
end

