-- ==== Sys2Proof/Machine/Reliability.lean ====
section
/-! DEFINITION. Scrubbers and laps, retirement and relocation, and the retirement list in flash
(spec/15_reliability.md R365 to R368, R377 to R381; spec/17_bring_up.md R411). -/

namespace Sys2Proof.Machine

open Host (Outcome)

/-! Where a DRAM line lies in the address spaces (R321, R322 inverted). -/

/-- Logical rank that a physical rank's row serves now. -/
def State.logicalRank (phys row : Nat) (s : State) : Option Nat :=
  (List.range 256).find? (fun r => (s.rank r).st ≠ .spilled && (s.rank r).serves row = phys)

/-- BDA of a line of a logical rank. -/
def bulkBda (lr bank row line grain : Nat) (hash : Bool) : Nat :=
  let gb := 8 + grain
  let b := line * 64
  let ch := lr / 2 % 64
  let ch := if hash then Nat.xor ch (row / 16 % 64) else ch
  let bank := if hash then Nat.xor bank (row % 16) else bank
  row * 2 ^ 22 + b / 2 ^ gb * 2 ^ (gb + 11) + lr % 2 * 2 ^ (gb + 10) + bank * 2 ^ (gb + 6) + ch * 2 ^ gb + b % 2 ^ gb

/-- NDA of a line of Near pseudo-channel n. -/
def nearNda (n bank row line grain : Nat) (hash : Bool) : Nat :=
  let gn := 8 + grain
  let b := line * 64
  let ch := if hash then Nat.xor (n % 64) (row / 64 % 64) else n % 64
  let bank := if hash then Nat.xor bank (row % 64) else bank
  row * 2 ^ 22 + b / 2 ^ gn * 2 ^ (gn + 12) + bank * 2 ^ (gn + 6) + ch * 2 ^ gn + b % 2 ^ gn

/-- The poison key of byte off of a plot's place, where a written line is stored there. -/
def State.liveKey (p : Nat) (e : Plot) (off : Nat) (s : State) : Option Nat :=
  match (List.range 16).find? (fun j => let a := s.storedAt p e j
      a ≤ off && off < a + 64 * s.blockSectors p e j) with
  | none => none
  | some j =>
    let i := (off - s.storedAt p e j) / 64
    let lines := e.mode = .raw || (e.mode = .footprint && ((s.sideEnt (16 * p + j)).part || (s.sideEnt (16 * p + j)).len = 0))
    if (if lines then nmem (p * 1024 + 64 * j + i) s.tier.written
        else (List.range 64).any (fun k => nmem (p * 1024 + 64 * j + k) s.tier.written))
    then some (s.poisonKey p e j i) else none

/-- What a scrubbed line belongs to: nothing that was written (its result is discarded), memory of the module, or a
plot's Bulk or Near copy. -/
inductive Scrubbed where
  | discard
  | module
  | bulk (key : Nat)
  | near (key : Nat)
deriving DecidableEq, Repr

/-- Line of a Bulk physical rank (R411). -/
def State.scrubBulk (d : DLoc) (s : State) : Scrubbed :=
  let m := s.stw Reg.DMC_MAP
  match d.lrank with
  | none => .discard
  | some r =>
    let a := bulkBda r d.bank d.row d.line (bits 1 0 m) (bit 8 m)
    if a / 4096 ≥ bulkUnitsPerHalf then .module
    else match s.tier.plots.find? (fun e => e.2.hasBulk && homeHalf e.1 = halfOf (r / 128) && e.2.loc ≤ a / 4096 && a / 4096 < e.2.loc + e.2.units) with
      | none => .discard
      | some (p, e) => match s.liveKey p e (a - 4096 * e.loc) with
        | some k => .bulk k
        | none => .discard

/-- Line of a Near pseudo-channel. -/
def State.scrubNear (n : Nat) (d : DLoc) (s : State) : Scrubbed :=
  let m := s.stw Reg.DMC_MAP
  let a := nearNda n d.bank d.row d.line (bits 5 4 m) (bit 9 m)
  match s.tier.plots.find? (fun e => e.2.hasSlot && e.2.slot = nearSlotsPerHalf * (n / 64) + a / 65536 && a / 65536 < nearSlotsPerHalf) with
  | none => .module
  | some (p, e) => match s.liveKey p e (a % 65536) with
    | some k => .near k
    | none => .module

/-! Scrub reads (R366, R367). -/

/-- A scrubber may read: its tier's scrubbers run, and its activity of Table RAS-10 holds its scope. It asks for it. -/
def State.scrubGrant (tier unit : Nat) (s : State) : Bool × State :=
  if !bit 31 (s.stw (Reg.RAS_SCFG + 4 * tier)) || s.pwm.standby then (false, s)
  else
    let s := if (s.actOf 1 unit).isSome then s else s.maintAsk 1 [unit] unit
    match s.actOf 1 unit with
    | some a => (a.granted && !a.parking, s)
    | none => (false, s)

def State.lapCount (k : Nat) (ue : Bool) (s : State) : State :=
  s.modRas (fun r => if ue then { r with lapUe := tset 0 k (tget 0 k r.lapUe + 1) r.lapUe }
    else { r with lapCe := tset 0 k (tget 0 k r.lapCe + 1) r.lapCe })

/-- A DRAM line as the scrubber finds it (Table RAS-2). -/
def State.scrubLine (lap : Nat) (d : DLoc) (at_ : Scrubbed) (md : Media) (s : State) : State :=
  let loc := locDram d.k d.bank d.line d.row
  let poisoned := match at_ with
    | .bulk k => nmem k s.tier.poison
    | .near k => nmem k s.tier.npoison
    | _ => false
  let s := s.mediaFind d md
  if at_ = .discard || nmem d.key (s.chan d.chan).wq then s
  else match s.lineBad d, poisoned with
    | [], _ => s
    | [_], false => ((s.correctedRead d loc).lapCount lap false).queueWrite d
    | _, _ =>
      let r : Rec := { typ := 0x01, sev := 2, unit := chanUnit d.chan, loc := loc, aux0 := 1, aux1 := 0xFFFFFFFF }
      let s := ((((s.uncorrectedRead d).logRec r).fmStd 2 2 r).lapCount lap true).queueWrite d
      match at_ with
      | .bulk k => s.modTier (fun t => { t with poison := nins k t.poison })
      | .near k => s.modTier (fun t => { t with npoison := nins k t.npoison })
      | _ => s

/-- A Cistern entry as the scrubber finds it (Table RAS-2, R354, R355); word is the code word of the error, md the bits of it
found flipped. -/
def State.scrubEntry (lap b entry word : Nat) (md : Media) (s : State) : State :=
  let w := b * 131072 + 4 * entry + word
  let s := match md with
    | .damaged l => s.modCst (fun c => { c with
        damage := tset [] w (ninsAll ((l.map BitVec.toNat).filter (fun x => x < 39)) (tget [] w c.damage)) c.damage })
    | _ => s
  match s.wordRead w with
  | .clean => s
  | .poison => s
  | .corrected => ((s.bankCorrected b entry).lapCount lap false).cstFresh [w]
  | .uncorrectable =>
    ((((s.cstUncorrected none 1 w).fmStd 2 2 (cstRec none 1 w)).lapCount lap true).cstFresh [w]).modCst (fun c => { c with poison := nins w c.poison })

/-- SCRUB_READ (R365 to R367, R411): one line of channel unit, loc as the DRAM form of R373, or one entry of bank unit,
loc with the entry in [14:0] and the code word in [16:15]. It reads only where nothing waits for its channel or port 1 (R365). -/
def execScrubRead (tier : BitVec 2) (unit : Nat) (loc : W64) (md : Media) (s : State) : Outcome State Fault Refusal :=
  let k := bits 32 32 loc
  let bank := bits 31 26 loc
  let line := bits 25 21 loc
  let row := bits 20 0 loc
  let open_ (ch : Nat) : Bool := (s.chan ch).st = .inService && !(s.chan ch).lost && !s.dmc.reads.any (fun r => r.chan = ch && !r.timedOut)
  match tier.toNat with
  | 0 =>
    if unit < 128 then
      if !open_ (136 + unit) then .next s
      else match s.scrubGrant 0 (136 + unit) with
        | (false, s) => .next s
        | (true, s) =>
          let d : DLoc := { chan := 136 + unit, k := 0, bank := bank, row := row, line := line % 16, lrank := none }
          .next (s.scrubLine (unit / 64) d (s.scrubNear unit d) md)
    else .fault (.noSuchUnit "Near channel" unit)
  | 1 =>
    if unit < 136 then
      if !open_ unit then .next s
      else match s.scrubGrant 1 unit with
        | (false, s) => .next s
        | (true, s) =>
          let d : DLoc := { chan := unit, k := k, bank := bank % 16, row := row, line := line, lrank := s.logicalRank (2 * unit + k) row }
          .next (s.scrubLine (2 + halfIdx (scopeHalf [unit])) d (s.scrubBulk d) md)
    else .fault (.noSuchUnit "Bulk channel" unit)
  | 2 =>
    if unit < 512 then
      if (s.bank unit).ps ≠ .on || (s.bank unit).kind = .test || (s.bank unit).kind = .retired ||
          (tget {} unit s.cst.ports).wait.any CWait.port1 then .next s
      else match s.scrubGrant 2 (scBank unit) with
        | (false, s) => .next s
        | (true, s) => .next (s.scrubEntry (4 + unit / 256) unit (bits 14 0 loc) (bits 16 15 loc) md)
    else .fault (.noSuchUnit "Cistern bank" unit)
  | _ => .next s

/-! Laps (R368). -/

/-- Scrub activities of a tier on a half end their pass. -/
def State.endScrubs (tier : Nat) (h : Half) (s : State) : State :=
  let of (x : Nat) : Bool := scopeHalf [x] = h &&
    (if tier = 0 then 136 ≤ x && x < 264 else if tier = 1 then x < 136 else 1000 ≤ x)
  forAll ((s.ras.acts.filter (fun a => a.code = 1 && of a.unit)).map Activity.unit) (fun u s => s.maintEnd 1 u) s

def State.scrubOn (tier : Nat) (s : State) : Bool := tier < 3 && bit 31 (s.stw (Reg.RAS_SCFG + 4 * tier))

/-- LAP_END (R368): every scrubber of a tier on a half has finished. -/
def execLapEnd (tier : BitVec 2) (h : Half) (ms : W32) (s : State) : Outcome State Fault Refusal :=
  let k := 2 * tier.toNat + halfIdx h
  if !s.scrubOn tier.toNat then .next s
  else
    let ce := min 0xFFFF (tget 0 k s.ras.lapCe)
    let ue := tget 0 k s.ras.lapUe
    let s := (((s.setStw (Reg.RAS_LAPT + 4 * k) ms).cntStw (Reg.RAS_LAPC + 4 * k) 31 16 1).setStw (Reg.RAS_LAPE + 4 * k)
      (at32 16 ce ||| at32 0 (min 0xFFFF ue))).modRas (fun r => { r with lapCe := tset 0 k 0 r.lapCe, lapUe := tset 0 k 0 r.lapUe })
    .next ((s.endScrubs tier.toNat h).logRec
      { typ := 0x03, sev := 0, unit := unitNo 10 k, aux0 := ms.toNat, aux1 := ue })

/-- LAP_OVERDUE (R368): a record; the scrubber's rate stays. -/
def execLapOverdue (tier : BitVec 2) (h : Half) (ms : W32) (s : State) : Outcome State Fault Refusal :=
  let k := 2 * tier.toNat + halfIdx h
  if s.scrubOn tier.toNat && s.stwF (Reg.RAS_SCFG + 4 * tier.toNat) 15 0 ≠ 0 then
    .next (s.logRec { typ := 0x03, sev := 1, unit := unitNo 10 k, aux0 := ms.toNat, aux1 := tget 0 k s.ras.lapUe })
  else .next s

/-! Retirement (R377 to R381). -/

/-- RAS_RARG. -/
def State.rarg (s : State) : Nat := (s.stw Reg.RAS_RARG_LO).toNat + 2 ^ 32 * s.stwF Reg.RAS_RARG_HI 3 0
def State.rcmdBusy (s : State) : Bool := bit 31 (s.stw Reg.RAS_RSTAT)

/-- An entry of the retirement list (R380). -/
def retEntry (kind half n : Nat) : W64 := BitVec.ofNat 64 (kind % 16 * 2 ^ 60 + (if kind = 6 then half % 2 * 2 ^ 56 else 0) + n % 2 ^ 36)
def retKind (w : W64) : Nat := bits 63 60 w
def retNumber (w : W64) : Nat := bits 35 0 w
def retHalf (w : W64) : Nat := bits 56 56 w

def State.retListed (w : W64) (s : State) : Bool := s.flash.list.any (fun e => e.2 = w)
def State.retFull (s : State) : Bool := s.flash.list.length ≥ 1024

/-- The retirement record (R381). -/
def State.retRecord (n kind : Nat) (st : Status) (s : State) : State :=
  s.logRec { typ := 0x14, sev := 1, status := 0, loc := n, aux0 := kind, aux1 := st.code }

/-- A command ends without a flash write. -/
def State.retEnds (n kind : Nat) (st : Status) (s : State) : State := (s.modStw Reg.RAS_RSTAT (setBits 7 0 st.code)).retRecord n kind st

/-- The list is written: BUSY until the flash write ends. -/
def State.flashWrite (n kind : Nat) (l : Tab W64) (s : State) : State :=
  { (s.setStw Reg.RAS_RSTAT 0x80000000#32).modRas (fun r => { r with flashWr := some (n, kind) }) with
    flash := { s.flash with list := l } }

/-- Add an entry at the list's lowest empty index. -/
def State.addEntry (kind half n : Nat) (s : State) : State :=
  s.flashWrite n kind (tput (lowestNot (s.flash.list.map Prod.fst)) (retEntry kind half n) s.flash.list)

/-- The first outcome of Table RAS-9, up to the relocation's own. -/
def State.retCheck (bad denied full : Bool) (s : State) : Status :=
  if s.conflict then .stewardConflict
  else if s.rcmdBusy then .slotBusy
  else if bad then .badDescriptor
  else if denied then .permission
  else if full then .quota
  else .ok

def badUnit (h : Half) (n : Nat) : Nat := halfIdx h * 2 ^ 32 + n

/-- A Near slot or a Bulk unit leaves the allocator. -/
def State.leaveSlot (n : Nat) (s : State) : State := s.modTier (fun t => { t with badSlots := nins n t.badSlots })
def State.leaveUnit (h : Half) (n : Nat) (s : State) : State := s.modTier (fun t => { t with badUnits := nins (badUnit h n) t.badUnits })

/-- The plot whose slot or place holds what a relocation retires. -/
def Reloc.holds (r : Reloc) (p : Nat) (e : Plot) : Bool :=
  if r.bulk then e.hasBulk && homeHalf p = r.half && e.loc ≤ r.number && r.number < e.loc + e.units
  else e.hasSlot && e.slot = r.number

/-- A free place for a relocation. -/
def State.relocDest (r : Reloc) (e : Plot) (s : State) : Option Nat :=
  if r.bulk then s.freeBulk r.half e.units else s.freeSlot r.half

/-- Start a relocation: it asks for its scope, and a destination is promised to it where one is free. -/
def State.startReloc (r : Reloc) (e : Plot) (s : State) : State :=
  let t := if r.bulk then 1 else 0
  ((s.tickFree.setStw Reg.RAS_RSTAT 0x80000000#32).modTier (fun x => { x with reloc := some { r with dest := s.relocDest r e } })).maintAsk 8
    (scTier t r.half) (2 * t + halfIdx r.half)

/-- What waited for a relocation goes on (R379). -/
def State.afterReloc (p : Nat) (s : State) : State :=
  match s.plot p with
  | some e =>
    let s := if e.hasSlot && e.claims = [] && e.pins = [] then s.leaveNear p e.cls e.mover e.free else s
    ((s.takeWish p).settle p).asgnResume
  | none => s.asgnResume

/-- A relocation ends and its scope is free. -/
def State.relocEnds (r : Reloc) (s : State) : State :=
  (s.modTier (fun t => { t with reloc := none })).maintEnd 8 (2 * b2n r.bulk + halfIdx r.half)

def relocKind (r : Reloc) : Nat := if r.bulk then 6 else 5

/-- RETIRE_NEAR_SLOT (R377). -/
def execRetireNearSlot (s : State) : Outcome State Fault Refusal :=
  let n := s.rarg
  match s.retCheck (n ≥ 2 * nearSlotsPerHalf) (s.retListed (retEntry 5 0 n)) s.retFull with
  | .ok =>
    let r : Reloc := { bulk := false, half := slotHalf n, number := n, plot := 0, dest := none }
    match s.tier.plots.find? (fun e => r.holds e.1 e.2) with
    | none => .next ((s.leaveSlot n).addEntry 5 0 n)
    | some (p, e) => .next (s.startReloc { r with plot := p } e)
  | st => .next (s.retEnds n 5 st)

/-- 4 KiB units of a half's Bulk data space (R321). -/
def bulkUnitsAll : Nat := 1864135 * 1024

/-- RETIRE_BULK_UNIT (R378). -/
def execRetireBulkUnit (h : Half) (s : State) : Outcome State Fault Refusal :=
  let n := s.rarg
  match s.retCheck (n ≥ bulkUnitsAll) (n ≥ bulkUnitsPerHalf || s.retListed (retEntry 6 (halfIdx h) n)) s.retFull with
  | .ok =>
    let r : Reloc := { bulk := true, half := h, number := n, plot := 0, dest := none }
    match s.tier.plots.find? (fun e => r.holds e.1 e.2) with
    | none => .next ((s.leaveUnit h n).addEntry 6 (halfIdx h) n)
    | some (p, e) => .next (s.startReloc { r with plot := p } e)
  | st => .next (s.retEnds n 6 st)

/-- Numbers of a kind (R380, Table SCO-4). -/
def kindCount (kind : Nat) : Nat :=
  match kind with
  | 1 => 16
  | 2 => 64
  | 3 => 512
  | 4 => 272
  | 5 => 2 * nearSlotsPerHalf
  | 6 => bulkUnitsAll
  | _ => 0

/-- A unit is FENCED, RETIRED, or retired under Table DMC-3. -/
def State.unitRetired (kind : Nat) (h : Half) (n : Nat) (s : State) : Bool :=
  match kind with
  | 1 => (s.fe n).ctl.st = .fenced
  | 2 => (s.tc n).st = .fenced
  | 3 => (s.bank n).kind = .retired
  | 4 => nmem n s.dmc.retiredRanks
  | 5 => nmem n s.tier.badSlots
  | 6 => nmem (badUnit h n) s.tier.badUnits
  | _ => false

/-- ADD_RETIREMENT_ENTRY (R380). -/
def execAddRetirementEntry (kind : BitVec 4) (h : Half) (s : State) : Outcome State Fault Refusal :=
  let n := s.rarg
  let k := kind.toNat
  match s.retCheck (n ≥ kindCount k) (!s.unitRetired k h n || s.retListed (retEntry k (halfIdx h) n)) s.retFull with
  | .ok => .next (s.addEntry k (halfIdx h) n)
  | st => .next (s.retEnds n k st)

/-- EMPTY_RETIREMENT_ENTRY (R380). -/
def execEmptyRetirementEntry (s : State) : Outcome State Fault Refusal :=
  let n := s.rarg
  match s.retCheck (n ≥ 1024) false false with
  | .ok => .next (s.flashWrite n 0 (tdel n s.flash.list))
  | st => .next (s.retEnds n 0 st)

/-- A relocated plot is copied from e to e': lines that read uncorrectable are stored poisoned (R377, R378). -/
def State.relocCopy (r : Reloc) (e e' : Plot) (s : State) : State :=
  forAll (List.range 16) (fun j s =>
    let (bad, s) := s.moveReads r.plot e j [] (fun _ => true)
    let ks := bad.map (fun i => s.poisonKey r.plot e j i)
    ((s.mediaMove r.plot j bad 2).modTier (fun t => if r.bulk then { t with poison := ninsAll ks t.poison }
      else { t with npoison := ninsAll ks t.npoison })).moveWrites r.plot e' j) s

/-- RELOCATION_DONE (R377, R378): the last block is copied. It does not end while its plot moves, while it is parked, or
with no free place. -/
def execRelocationDone (s : State) : Outcome State Fault Refusal :=
  match s.tier.reloc with
  | none => .next s
  | some r =>
    if !s.holdsGrant 8 (2 * b2n r.bulk + halfIdx r.half) then .next s
    else
      let leave (s : State) : State :=
        ((if r.bulk then s.leaveUnit r.half r.number else s.leaveSlot r.number).addEntry (relocKind r) (halfIdx r.half) r.number)
      match s.plot r.plot with
      | none => .next ((leave (s.relocEnds r)).afterReloc r.plot)
      | some e =>
        if e.st = .promoting || e.st = .demoting then .next s
        else if !r.holds r.plot e then .next ((leave (s.relocEnds r)).afterReloc r.plot)
        else match r.dest.orElse (fun _ => s.relocDest r e) with
          | none => .next s
          | some d =>
            let s := s.tickFree.relocEnds r
            let s := if r.bulk then s.relocCopy r { e with st := .bulk } { e with st := .bulk, loc := d } else s.relocCopy r e { e with slot := d }
            let s := s.setPlot r.plot (if r.bulk then { e with loc := d } else { e with slot := d })
            .next ((leave s).afterReloc r.plot)

/-- RELOCATION_WAIT_EXPIRE (R379): no place came free; nothing has changed. -/
def execRelocationWaitExpire (s : State) : Outcome State Fault Refusal :=
  match s.tier.reloc with
  | none => .next s
  | some r =>
    let free := match s.plot r.plot with
      | some e => (s.relocDest r e).isSome
      | none => true
    if r.dest.isSome || free then .next s
    else .next ((((s.relocEnds r).setStw Reg.RAS_RSTAT 0#32).retEnds r.number (relocKind r) .quota).afterReloc r.plot)

/-- FLASH_WRITE_DONE (R381). -/
def execFlashWriteDone (s : State) : Outcome State Fault Refusal :=
  match s.ras.flashWr with
  | none => .next s
  | some (n, k) => .next (((s.modRas (fun r => { r with flashWr := none })).setStw Reg.RAS_RSTAT 0#32).retRecord n k .ok)

end Sys2Proof.Machine
end

