-- ==== Sys2Proof/Machine/Shared.lean ====
section
/-! DEFINITION. Shared regions: their definition, snoop answers, walks, flips, host failure, orphans and dynamic capacity
(spec/11_shared_regions.md). -/

namespace Sys2Proof.Machine

open Host (Outcome)

/-! Definition (R277, R278). -/

def State.shrSel (s : State) : Nat := s.stwF Reg.SHR_SEL 11 0

/-- Plots of buffer b. -/
def Region.bufPlots (g : Region) (b : Nat) : List Nat := rangePlots (g.base b) g.size
def Region.viewPlots (g : Region) : List Nat := rangePlots g.view g.size

/-- Two ranges of the same size n meet. -/
def meets (a b n m : Nat) : Bool := a < b + m && b < a + n

/-- The checks of R277 on region r as it is set up. -/
def State.regionOk (r : Nat) (g : Region) (s : State) : Bool :=
  let others := s.shr.regions.filter (fun e => e.1 ≠ r && e.2.enabled)
  let top (x : Nat) : Bool := x + g.size ≤ 2 ^ 36
  g.size ≠ 0 && top g.view && g.bufList.all (fun b => top (g.base b)) &&
  g.viewPlots.all (fun p => (s.plot p).isNone && !s.inSwin p) &&
  others.all (fun e => !meets g.view e.2.view g.size e.2.size) &&
  g.bufList.all (fun b =>
    (g.bufPlots b).all (fun p => match s.plot p with
      | some e => e.mode ≠ .fixed
      | none => false) &&
    g.bufList.all (fun c => c = b || !meets (g.base b) (g.base c) g.size g.size) &&
    others.all (fun e => !meets (g.base b) e.2.view g.size e.2.size &&
      e.2.bufList.all (fun c => !meets (g.base b) (e.2.base c) g.size e.2.size)))

/-- The fields that a write of SHR_CFG stores: ERR by W1C; NBUF and SIZE while the region is disabled. -/
def Region.writeCfg (v : W32) (g : Region) : Region :=
  let g := if bit 30 v then { g with cfgErr := false } else g
  if g.enabled then g else { g with nbuf := bits 29 28 v, size := bits 27 0 v }

/-- REGION_ENABLE (R277): a write of SHR_CFG with ENABLE set. -/
def execRegionEnable (v : W32) (s : State) : Outcome State Fault Refusal :=
  let r := s.shrSel
  let g := (s.region r).writeCfg v
  if g.enabled then .next (s.setRegion r g)
  else if s.regionOk r g then .next (s.setRegion r { g with enabled := true, cur := 0, pins := [] })
  else .next (s.modRegion r (fun g => { g with cfgErr := true }))

/-- REGION_DISABLE (R278): a write of SHR_CFG with ENABLE clear. -/
def execRegionDisable (s : State) : Outcome State Fault Refusal :=
  let r := s.shrSel
  let g := s.region r
  if !g.enabled then .next s
  else if g.pub.isSome || s.wtt.any (fun e => e.2.mapsRegion r) then .next (s.setRegion r { g with cfgErr := true })
  else .next (s.setRegion r { g with enabled := false, pins := [] })

/-! Answers of hosts (R283, R286). -/

/-- ENC of the tenant's entry that maps a line of a region's buffer through the view. -/
def State.viewEnc (t l : Nat) (s : State) : Option Nat :=
  match s.bufferOf (linePlot l) with
  | some (_, g, b) =>
    let p := g.view + (linePlot l - g.base b)
    let w := s.wttOf t
    ((w.live.map Prod.snd).find? (fun e => e.shared && e.plot ≤ p && p < e.plot + segPlots w.cfg)).bind (fun e => e.enc)
  | none => none

/-- Modified data that an owner writes back before it answers (R283); dropped where R289 drops its writes. -/
def State.writeBack (n : Snoop) (d : Line) (poison : Bool) (s : State) : State :=
  match s.dirOf n.line with
  | some e =>
    if e.st = .owned && nmem n.tenant e.holders then
      let old := match s.bufferOf (linePlot n.line) with
        | some (_, g, _) => g.pinnedOld n.tenant
        | none => false
      if old then s.countWrdrop n.tenant
      else
        let s := s.access (linePlot n.line) n.tenant
        (s.writeLine (tenantPort n.tenant) n.tenant (s.viewEnc n.tenant n.line) (n.line * 64) d fullBe poison).2
    else s
  | none => s

/-- SNOOP_RESPONSE (R283): the answer takes effect, and what waited on it goes on. -/
def execSnoopResponse (id : Nat) (rsp : SnpRsp) (s : State) : Outcome State Fault Refusal :=
  match s.shr.snoops.find? (fun n => n.id = id) with
  | none => .next s
  | some n =>
    let s := match rsp with
      | .clean => s
      | .writeback d p => s.writeBack n d p
    .next ((s.answered n).snoopDone n)

/-- BICONFLICT (R283). -/
def execBiconflict (t : Tenant) (line : BitVec 46) (s : State) : Outcome State Fault Refusal :=
  .next (s.emit (.biConflictAck t.toNat line.toNat))

/-- SNOOP_TIMEOUT (R286): a line failure, then as answered with no data. -/
def execSnoopTimeout (id : Nat) (s : State) : Outcome State Fault Refusal :=
  match s.shr.snoops.find? (fun n => n.id = id) with
  | none => .next s
  | some n => .next (((s.lineFailure n.line n.tenant).answered n).snoopDone n)

/-! Flips, pins and walks (R288, R290, R291). -/

/-- The flip of a publication: version, CURRENT buffer, and the requests that waited for it (R291). -/
def State.flipRegion (r : Nat) (s : State) : State :=
  match (s.region r).pub with
  | none => s
  | some p =>
    let s := s.modRegion r (fun g => { g with cur := p.buf.getD g.cur, ver := p.ver, pub := none })
    (s.modOp p.op (fun o => { o with res := some p.ver })).resume291

/-- A tenant's pin on a region is dropped. -/
def State.dropPin (t r : Nat) (s : State) : State :=
  s.modRegion r (fun g => { g with pins := g.pins.filter (fun p => p.tenant ≠ t) })

/-- A tenant's pin takes the current version and the CURRENT buffer. -/
def State.setPin (t r : Nat) (s : State) : State :=
  (s.dropPin t r).modRegion r (fun g => { g with pins := g.pins ++ [{ tenant := t, buf := g.cur, ver := g.ver }] })

/-- What a finished back-invalidation was for. -/
def State.walkEnds (w : WalkWhy) (s : State) : State :=
  match w with
  | .publish _ r => s.flipRegion r
  | .acquire op r => match s.op op with
    | some o => let s := s.setPin o.tenant r; s.modOp op (fun x => { x with res := some (s.region r).ver })
    | none => s
  | .release op r => match s.op op with
    | some o => (s.dropPin o.tenant r).modOp op (fun x => { x with done := some .ok })
    | none => s
  | .commit t => s.modWtt t (fun x => { x with pend := if x.pend = some .walking then some .clear else x.pend })
  | .flr t r => s.dropPin t r

/-- BACK_INVALIDATE_DONE (R290): every snoop of the walk is answered or has failed. -/
def execBackInvalidateDone (walk : Nat) (s : State) : Outcome State Fault Refusal :=
  match s.shr.walks.find? (fun w => w.id = walk) with
  | none => .next s
  | some w =>
    if s.walkReady walk then
      .next (((s.modShr (fun h => { h with walks := h.walks.filter (fun x => x.id ≠ walk) })).trimHeld w.plots).walkEnds w.why)
    else .next s

/-! Host failure (R293). -/

/-- A tenant fails for the directory: pins, holdings and the snoops that wait on it. -/
def State.failTenant (t : Nat) (s : State) : State :=
  s.withReady (fun s =>
    let s := forAll (s.shr.regions.map Prod.fst) (fun r s => s.dropPin t r) s
    let own := s.shr.dir.filter (fun e => e.2.st = .owned && nmem t e.2.holders)
    let s := forAll own (fun e s => s.orphan e.1 e.2) s
    let n := (own.filter (fun e => s.isOrphan e.1)).length
    let s := forAll (s.shr.dir.map Prod.fst) (fun l s => s.dropHolder l t) s
    let s := s.modShr (fun h => { h with sweeping := nins t h.sweeping, orphaned := tset 0 t n h.orphaned })
    forAll (s.shr.snoops.filter (fun x => x.tenant = t)) (fun x s => (s.answered x).snoopDone x) s)

def State.shrStatus (st : Status) (s : State) : State :=
  s.setStw Reg.SHR_CSTAT (at32 31 (b2n s.shr.relCmd.isSome) ||| at32 0 st.code)

/-- A command of SHR_CMD: refused during a conflict, while an earlier one runs, or where bad holds (Table SHR-8). -/
def State.shrCmd (bad : Bool) (f : State → State) (s : State) : State :=
  if s.conflict then s.shrStatus .stewardConflict
  else if s.shr.relCmd.isSome then s.shrStatus .slotBusy
  else if bad then s.shrStatus .badDescriptor
  else (f s).shrStatus .ok

/-- SHR_FAIL_TENANT (R293, Table SHR-8). -/
def execShrFailTenant (t : Tenant) (s : State) : Outcome State Fault Refusal :=
  .next (s.shrCmd false (fun s => s.failTenant t.toNat))

/-- FAILURE_SWEEP_END (R293): what the tenant's requests in flight made it hold is converted too. -/
def execFailureSweepEnd (t : Tenant) (s : State) : Outcome State Fault Refusal :=
  let n := t.toNat
  if nmem n s.shr.sweeping then
    let s := forAll ((s.shr.dir.filter (fun e => !e.2.coarse && e.2.st ≠ .orphaned && nmem n e.2.holders)).map Prod.fst)
      (fun l s => s.convertLine l) s
    let k := tget 0 n s.shr.orphaned
    let s := s.withReady (fun s => s.modShr (fun h => { h with sweeping := ndel n h.sweeping, orphaned := tdel n h.orphaned }))
    .next (s.logRec { typ := 0x0D, sev := 1, tenant := some n, aux0 := k })
  else .next s

/-! Orphans (R295). -/

def State.releaseOrphans (d : Dir → Bool) (s : State) : State :=
  s.modShr (fun h => { h with dir := h.dir.filter (fun e => !(e.2.st = .orphaned && d e.2)) })

/-- The release that runs in the background ends: its lines are INVALID and BUSY clears (R295; log 36). -/
def State.releaseTick (s : State) : State :=
  match s.shr.relCmd with
  | none => s
  | some (reg, n) =>
    ((s.releaseOrphans (fun d => if reg then d.region = n else nmem n d.holders)).modShr (fun h => { h with relCmd := none })).modStw
      Reg.SHR_CSTAT (setBit 31 false)

/-- RELEASE_REGION_ORPHANS (R295, Table SHR-8): it runs in the background while BUSY is set. -/
def execReleaseRegionOrphans (r : RegionId) (s : State) : Outcome State Fault Refusal :=
  .next (s.shrCmd (!(s.region r.toNat).enabled) (fun s => s.modShr (fun h => { h with relCmd := some (true, r.toNat) })))

/-- RELEASE_TENANT_ORPHANS (R295). -/
def execReleaseTenantOrphans (t : Tenant) (s : State) : Outcome State Fault Refusal :=
  .next (s.shrCmd false (fun s => s.modShr (fun h => { h with relCmd := some (false, t.toNat) })))

/-! Dynamic capacity (R297, R298). -/

/-- RELEASE_CAPACITY (R298): a record for every shared segment, and RELACK clears. -/
def execReleaseCapacity (r : RegionId) (t : Tenant) (s : State) : Outcome State Fault Refusal :=
  let n := t.toNat
  .next (s.shrCmd (!(s.region r.toNat).enabled) (fun s =>
    let w := s.wttOf n
    let l := (w.shared.filter (fun e => e.2.region = r.toNat)).map (fun e => e.1 * 2 ^ cfgSeg w.cfg)
    let s := s.capacity n 5 (l.map (fun a => (a, 2 ^ cfgSeg w.cfg, r.toNat)))
    if l = [] then s else s.modLd n (fun x => { x with dcToRelease := x.dcToRelease ++ l, relAck := false })))

/-- RELEASE_DYNAMIC_CAPACITY (R297, R298): the host releases the extent at a DPA. -/
def execReleaseDynamicCapacity (t : Tenant) (dpa : W64) (s : State) : Outcome State Fault Refusal :=
  .next (s.modLd t.toNat (fun x =>
    let l := x.dcToRelease.filter (fun a => a ≠ dpa.toNat)
    { x with dcToRelease := l, relAck := x.relAck || decide (l = []) }))

/-- ADD_DYNAMIC_CAPACITY_RESPONSE (R297, R298): accepted; access did not wait for it. -/
def execAddDynamicCapacityResponse (_t : Tenant) (s : State) : Outcome State Fault Refusal := .next s

end Sys2Proof.Machine
end

