-- ==== Sys2Proof/Machine/Bridge.lean ====
section
/-! DEFINITION. The bridge: replays, lane retirement, retrains, and the module split in halves and whole again
(spec/01_architecture.md R13 to R15, spec/18_power_and_management.md R436, spec/16_security.md R403,
spec/11_shared_regions.md R465). -/

namespace Sys2Proof.Machine

open Host (Outcome)

/-- A record of type 0x15 (R436): its event, and the lanes in service. -/
def State.stewRec (ev aux1 : Nat) (s : State) : State := s.logRec { typ := 0x15, sev := 1, aux0 := ev, aux1 := aux1 }

/-- BRIDGE_FLIT_REPLAY (R13): the flit is sent again; no order changes. -/
def execBridgeFlitReplay (src : Half) (s : State) : Outcome State Fault Refusal :=
  let _ := src
  .next { s with bridge := { s.bridge with replays := s.bridge.replays + 1 } }

/-- The priority step of an item on the bridge (R13, R302). -/
def State.bitemPrio (i : BItem) (s : State) : Int :=
  match i with
  | .host r => s.prio r.tenant r.cls r.stamp r.demoted false
  | .unit _ t c st d => s.prio t c st d false

def BItem.stamp : BItem → Nat
  | .host r => r.stamp
  | .unit _ _ _ st _ => st

/-- The item that crosses next: highest priority step first, and by arrival within a step (R13); at the demoted rank by
the older stamp (R303). -/
def State.bridgeNext (s : State) : Option BItem :=
  s.bridge.queue.foldl (fun b i => match b with
    | none => some i
    | some x => if s.bitemPrio i > s.bitemPrio x || (s.bitemPrio i = -1 && s.bitemPrio x = -1 && i.stamp < x.stamp) then some i
      else b) none

/-- n items of the bridge's queue cross: a host request is served, a unit's program may run on. -/
def State.drainBridge : Nat → State → State
  | 0, s => s
  | n + 1, s => match s.bridgeNext with
    | none => s
    | some i =>
      let s : State := { s with bridge := { s.bridge with queue := s.bridge.queue.filter (fun x => x ≠ i) } }
      State.drainBridge n (match i with
        | .host r => s.serveReq false r
        | .unit .. => s)

/-- The half that a reader of memory works on; a move and a close work on their plot's home half. -/
def State.readerHalf (w : Reader) (s : State) : Option Half :=
  match w with
  | .op i => match s.grains.find? (fun g => g.job = i) with
    | some g => some g.half
    | none => (s.op i).map (fun o => tenantHalf o.tenant)
  | .grain i => (s.grain i).map (fun g => g.half)
  | .engine f => some (feHalf f)
  | .move _ => none
  | .close _ => none

/-- A host request's port and the home half of its plot lie on different halves. -/
def Req.across (r : Req) : Bool := portHalf r.port ≠ homeHalf (plotOf r.ua)

/-- A read of a lending host's memory of tenant l serves the other half: the plot's home, or the reader beyond it. -/
def State.useAcross (l : Nat) (u : DmaUse) (s : State) : Bool :=
  match u with
  | .fetch .. => false
  | .farHost r => r.across || decide (tenantHalf l ≠ homeHalf (plotOf r.ua))
  | .farFor w k _ => decide (tenantHalf l ≠ homeHalf (keyPlot k)) ||
      (match s.readerHalf w with
        | some h => decide (h ≠ homeHalf (keyPlot k))
        | none => false)

/-- Host requests under way that need the half beyond a bridge that has gone down end with poison, whatever they wait for;
a snoop that would cross is no longer waited for, and for other work it is a line failure (R14, R286). -/
def State.cutRequests (s : State) : State :=
  let sn := s.shr.snoops.filter (fun n => s.snoopCut n.line n.tenant)
  let own (n : Snoop) : Bool := match n.why with
    | .req _ => true
    | _ => false
  let dead (r : Req) : Bool := r.across || sn.any (fun n => n.why = .req r.id)
  let gone := (s.shr.waiting ++ s.shr.wayWait ++ s.cmp.closeWait).filter dead ++
    (s.dmc.reads.filter (fun r => !r.timedOut && r.req.any Req.across)).flatMap TierRead.req
  let s := s.modShr (fun h => { h with
    waiting := h.waiting.filter (fun r => !dead r), wayWait := h.wayWait.filter (fun r => !dead r),
    snoops := h.snoops.filter (fun n => !(own n && sn.contains n)) })
  let s := s.modCmp (fun c => { c with closeWait := c.closeWait.filter (fun r => !dead r) })
  let s := s.modDmc (fun d => { d with reads := d.reads.filter (fun r => r.timedOut || !r.req.any Req.across) })
  let s := forAll gone (fun r s => s.endReq r .poisonConsumed) s
  let s := forAll (sn.filter (fun n => !own n)) (fun n s => ((s.lineFailure n.line n.tenant).answered n).snoopDone n) s
  s.rerun (fun r => gone.any (fun g => lineOf g.ua = lineOf r.ua))

/-- Reads of lending hosts that would cross a bridge that has gone down end with poison (R14). -/
def State.cutReads (s : State) : State :=
  forAll (List.range 256) (fun l s =>
    if s.tags.any (fun g => g.tenant = l) || (s.ld l).waiting ≠ [] then s.failReadsOf l (fun u => s.useAcross l u) .poisonConsumed
    else s) s

/-- The bridge goes down (R14, R110, R436): what was queued on it, or was on its way over it, ends with poison or is lost,
and each half reports SPLIT. -/
def State.splitNow (s : State) : State :=
  if s.bridge.up then
    let q := s.bridge.queue
    let s := s.withReady (fun s => { s with bridge := { s.bridge with up := false, retraining := false, queue := [] } })
    let s := forAll q (fun i s => match i with
      | .host r => s.endReq r .poisonConsumed
      | .unit w _ _ _ _ => { s with bridge := { s.bridge with cut := s.bridge.cut ++ [w] } }) s
    let s := s.cutRequests.cutReads.loseUpdates.closeResume
    let s := ((s.stewRec 4 0).stewRec 4 0).alert alSplit
    s.fmHealth { typ := 0x15, sev := 1, aux0 := 4 }
  else s

/-- BRIDGE_LANE_RETIRE (R15): a spare takes the lane's place, or the payload narrows; the bridge retrains, or is down with
fewer than 48 lanes. src is the half that sends on the lane. -/
def execBridgeLaneRetire (src : Half) (s : State) : Outcome State Fault Refusal :=
  let b := s.bridge
  if !b.up then .next s
  else
    let b := match src with
      | .north => if b.sparesN > 0 then { b with sparesN := b.sparesN - 1 } else { b with lanesN := b.lanesN - 1 }
      | .south => if b.sparesS > 0 then { b with sparesS := b.sparesS - 1 } else { b with lanesS := b.lanesS - 1 }
    let s := { s with bridge := { b with retraining := true } }
    .next (if b.lanesN < 48 || b.lanesS < 48 then s.splitNow else s)

/-- BRIDGE_RETRAIN_DONE (R15): the record of the lanes in service, and the requests that waited go on. -/
def execBridgeRetrainDone (s : State) : Outcome State Fault Refusal :=
  if s.bridge.retraining then
    let s := { s with bridge := { s.bridge with retraining := false } }
    let s := s.stewRec 7 (s.bridge.lanesN % 256 + 256 * (s.bridge.lanesS % 256))
    let s := s.drainBridge s.bridge.queue.length
    .next (forAll (s.tier.plots.map Prod.fst) (fun p s => s.readNext p) s)
  else .next s

/-- BRIDGE_DOWN (R14). -/
def execBridgeDown (s : State) : Outcome State Fault Refusal := .next s.splitNow

/-- A half applies what waited for the bridge: zeroises (R403), then pin drops (R465). -/
def State.applyPending (h : Half) (s : State) : State :=
  let x := s.half h
  let s := s.setHalf h { x with pendZeroise := [], pendUnpin := [] }
  let s := forAll x.pendZeroise (fun k s => s.modKey k (fun y => if y.st = .empty then { y with k := 0#512 } else y)) s
  forAll x.pendUnpin (fun e s => s.dropPin e.1 e.2) s

/-- A half is past step 3 of its bring-up, and so SPLIT is reported (R407). -/
def HalfSt.past3 (x : HalfSt) : Bool := x.stage = .dramInit || x.stage = .fill || x.stage = .firmware

/-- BRIDGE_UP (R436): before any request crosses, the pending zeroises and pin drops; then SPLIT clears. -/
def execBridgeUp (s : State) : Outcome State Fault Refusal :=
  if s.bridge.up || s.bridge.lanesN < 48 || s.bridge.lanesS < 48 then .next s
  else
    let s := (s.applyPending .north).applyPending .south
    let s := s.withReady (fun s => { s with bridge := { s.bridge with up := true } })
    .next (if s.north.past3 || s.south.past3 then (s.stewRec 5 0).alert alSplit else s)

end Sys2Proof.Machine
end

