-- ==== Sys2Proof/Machine/Units.lean ====
section
/-! DEFINITION. Accesses of the module's own units to UA: the data movers, the kernels and the Tender cores. A unit's
work is a program that ends, fails with a status, or must wait; what must wait changes nothing but the fetch or the snoop
it waits for (spec/01_architecture.md R12 to R14, spec/06_compression.md R155, spec/11_shared_regions.md R280, R289, R294,
R296, spec/10_rings_and_operations.md R246, R253). -/

namespace Sys2Proof.Machine

open Host (Outcome)

/-- What an access waits for: bytes of a Far place, the holders of a line, its Weir's next window, a retrain of the bridge,
a paused channel, a buffer or a closing block of a write compressor, or a flip. -/
inductive WaitOn where
  | far (key lender : Nat) (addr : W64) (len : Nat)
  | snoop (line : Nat) (inv : Bool)
  | weir
  | bridge
  | chan (ch bank line : Nat)
  | buffer (x : Nat)
  | other
deriving DecidableEq, Repr

/-- How a unit's program stops short. -/
inductive Stop where
  | fail (c : Status)
  | wait (w : WaitOn)
  /-- A fault of Table TND-6 of a grain. -/
  | fault (code : Nat) (c : Status)
deriving DecidableEq, Repr

/-- A unit's program over the machine. -/
abbrev Work (α : Type) := EStateM Stop State α

def Work.fail {α : Type} (c : Status) : Work α := throw (Stop.fail c)
def Work.wait {α : Type} (w : WaitOn) : Work α := throw (Stop.wait w)

/-- Go on only where b holds. -/
def Work.need (b : Bool) (c : Status) : Work Unit := if b then pure () else Work.fail c

/-- For whom a unit reads and writes: the tenant, the class label, the unit's half, the row of Table CMP-13, who fetches
from Far places, and the parts of its ranges mapped with ENC (R399). -/
structure Acc where
  t : Nat
  cls : Nat
  half : Half
  row : Nat
  who : Reader
  encs : List (Nat × Nat × Nat)
deriving DecidableEq, Repr

/-- A unit's request of a number of 64-byte units at its tenant's Headgate, which may hold it, or at a shadow Headgate
across a bridge that is down (R246, R308, R319). -/
def Acc.charge (u : Acc) (p n : Nat) : Work Unit := do
  let s ← get
  if s.split && tenantHalf u.t ≠ homeHalf p then set (s.unitShadow u.who (homeHalf p))
  else match s.unitAdmit u.who u.t u.cls n with
    | (.hold, _) => Work.wait .weir
    | (_, s) => set s

/-- The directory's part of a unit's access to line l of a region's buffer; via is set where it came through the view
(R280, R289, R294, R296). -/
def Acc.gateDir (u : Acc) (l : Nat) (via : Bool) (g : Region) (b : Nat) (op : ReqOp) : Work Unit := do
  let s ← get
  let s := s.convertLine l
  set s
  if op = .wr && ((via && g.pinnedOld u.t) || (!via && g.bufHeld b)) then
    set (s.countWrdrop u.t)
    Work.fail .permission
  else if via || g.bufHeld b then
    if s.isOrphan l then
      if op = .wr then
        set (s.countWrdrop u.t)
        Work.fail .permission
      else
        set (s.countOrphrd u.t)
        Work.fail .poisonConsumed
    else
      match s.needSnoops l none op .i with
      | ([], _) => pure ()
      | (ts, inv) => if ts.any (fun t => s.snoopCut l t) then Work.fail .poisonConsumed else Work.wait (.snoop l inv)
  else pure ()

/-- Resolve a unit's access, take it to its home half and through the directory, and count it: the UA it reaches. -/
def Acc.gate (u : Acc) (ua : Nat) (op : ReqOp) : Work Nat := do
  let s ← get
  let view := s.viewOf (plotOf ua)
  let p := s.resolvePlot u.t (plotOf ua)
  let a := p * 65536 + ua % 65536
  if s.viewHeld u.t (plotOf ua) then Work.wait .other
  else if s.bridge.cut.contains u.who || (homeHalf p ≠ u.half && s.split) then Work.fail .poisonConsumed
  else
    u.charge p 1
    if (homeHalf p ≠ u.half && s.bridge.retraining) || s.farHeld p then Work.wait .bridge
    match s.bufferOf p with
    | some (_, g, b) => u.gateDir (lineOf a) view.isSome g b op
    | none => pure ()
    modify (fun s => s.access p u.t)
    pure a

/-- The block that a unit's access reaches is closing, or its write finds no buffer (R20, R21). -/
def State.unitHeldAt (x a : Nat) (wr : Bool) (s : State) : Bool :=
  match s.plot (plotOf a) with
  | some e => e.mode = .footprint && e.st ≠ .farLost && s.blkHeld x (16 * plotOf a + blockOf a) wr
  | none => false

/-- Read the line of a UA. -/
def Acc.load (u : Acc) (ua : Nat) : Work Line := do
  let a ← u.gate ua .rd
  let s ← get
  let r : Rd := { x := s.unitPort u.half, t := u.t, row := u.row, urgent := 5 ≤ s.prio u.t u.cls s.now false false, enc := encAt u.encs ua }
  let s := s.tickFree
  if s.unitHeldAt r.x a false then Work.wait .other
  if s.dmc.ended.contains (u.who, lineOf a) then
    set (s.modDmc (fun d => { d with ended := d.ended.erase (u.who, lineOf a) }))
    Work.fail .timeout
  match s.lateLine r a with
  | some d => Work.wait (.chan d.chan d.bankKey (lineOf a))
  | none => match s.readLine r a with
    | (.data d, s) => do
      set s
      pure d
    | (.poison c, s) => do
      set s
      Work.fail c
    | (.far k l ad n, _) =>
      if s.farCut (plotOf a) then Work.fail .poisonConsumed
      else match (s.farGot u.who k).bind FarBuf.got with
      | none => Work.wait (.far k l ad n)
      | some (c, b) => match s.readLine { r with got := some (if c = .ok then .ok b else .error c) } a with
        | (.data d, s) => do
          set s
          pure d
        | (.poison c, s) => do
          set s
          Work.fail c
        | (.far k l ad n, _) => Work.wait (.far k l ad n)

/-- Write bytes of the line of a UA. -/
def Acc.store (u : Acc) (ua : Nat) (d : Line) (be : W64) (poison : Bool) : Work Unit := do
  let a ← u.gate ua .wr
  let s ← get
  let x := s.unitCompressor u.half
  if s.unitHeldAt x a true then Work.wait (.buffer x)
  else if s.writeHeld a then Work.wait .other
  else match s.writeLine x u.t (encAt u.encs ua) a d be poison with
    | (c, s) => do
      set s
      Work.need (c = .ok) c

/-- Lines that n bytes from a UA lie in. -/
def spanLines (ua n : Nat) : List Nat :=
  if n = 0 then [] else (List.range ((ua + n - 1) / 64 - ua / 64 + 1)).map (fun i => ua / 64 + i)

/-- Read n bytes. -/
def Acc.bytes (u : Acc) (ua n : Nat) : Work (List Byte) := do
  let ls ← (spanLines ua n).mapM (fun l => u.load (64 * l))
  pure (((ls.map lineBytes).flatten.drop (ua % 64)).take n)

/-- Byte enables lo to hi − 1. -/
def beOf (lo hi : Nat) : W64 := BitVec.ofNat 64 (2 ^ hi - 2 ^ lo)

/-- What line l takes of bytes that start at a UA: its data and its byte enables. -/
def linePart (ua : Nat) (b : List Byte) (l : Nat) : Line × W64 :=
  let lo := max ua (64 * l)
  let hi := min (ua + b.length) (64 * l + 64)
  (bytesLine (List.replicate (lo - 64 * l) 0#8 ++ slice b (lo - ua) (hi - lo)), beOf (lo - 64 * l) (hi - 64 * l))

/-- Write bytes from a UA up. -/
def Acc.put (u : Acc) (ua : Nat) (b : List Byte) : Work Unit :=
  (spanLines ua b.length).forM (fun l => u.store (64 * l) (linePart ua b l).1 (linePart ua b l).2 false)

/-- Run a program part whose failure the rest goes on with. -/
def Work.try_ {α : Type} (m : Work α) : Work (Except Status α) := fun s => match m s with
  | .ok a s => .ok (.ok a) s
  | .error (.fail c) s => .ok (.error c) s
  | .error e s => .error e s

/-- Ask for what an access waits for. -/
def Acc.waitFor (u : Acc) (w : WaitOn) (s : State) : State :=
  match w with
  | .weir => s.unitHeld u.who u.t u.cls
  | .bridge =>
    if s.bridge.queue.any (fun i => i.ofUnit u.who) then s
    else { s with bridge := { s.bridge with queue := s.bridge.queue ++ [.unit u.who u.t u.cls s.now s.acc.last] } }
  | .chan ch b l =>
    if s.dmc.reads.any (fun r => !r.timedOut && (match r.src with
      | .unit w k _ _ _ => w = u.who && k = l
      | .host _ => false)) then s
    else s.modDmc (fun d => { d with
      reads := d.reads ++ [{ id := d.nextRead, src := .unit u.who l u.t u.cls s.now, chan := ch, bank := b }], nextRead := d.nextRead + 1 })
  | .buffer x => s.makeBuffer x
  | .far k l a n => s.farFetch u.who k l a n
  | .snoop l inv => match s.needSnoops l none (if inv then .wr else .rd) .i with
    | (ts, inv) => forAll ts (fun t s => s.sendSnoop .unit inv l t) s
  | .other => s

/-- A unit's reads that no controller has returned are given up; one that timed out may still come late (R331). -/
def State.readsDrop (w : Reader) (s : State) : State :=
  let mine (r : TierRead) : Bool := match r.src with
    | .unit v _ _ _ _ => v = w
    | .host _ => false
  s.modDmc (fun d => { d with reads := d.reads.filter (fun r => r.timedOut || !mine r), ended := d.ended.filter (fun e => e.1 ≠ w) })

/-- A unit's program has ended: what its accesses held is given up. -/
def Acc.ends (u : Acc) (s : State) : State := ((s.unitEnds u.t u.cls).farDrop u.who).readsDrop u.who

/-- A unit's program waits, from state s' of its run: it has done nothing but what its Headgate admitted. -/
def Acc.waits (u : Acc) (w : WaitOn) (s' s : State) : State := u.waitFor w (s.unitWaits u.who u.t u.cls s')

/-- Run a unit's program: its end or failure goes to k with all it did; a program that must wait has done nothing. -/
def Acc.run {α : Type} (u : Acc) (m : Work α) (k : Except Status α → State → State) (s : State) : State :=
  match m s with
  | .ok a s => k (.ok a) (u.ends s)
  | .error (.fail c) s => k (.error c) (u.ends s)
  | .error (.fault _ c) s => k (.error c) (u.ends s)
  | .error (.wait w) s' => u.waits w s' s

/-! Blocks of elements as the kernels read and write them (R133, R166 to R171, R256). -/

/-- Count what conversions of a tenant's operation count (Tables FMT-9, FMT-10). -/
def State.countCnts (t : Nat) (c : Cnts) (s : State) : State :=
  (((s.cntBar t Reg.FMT_ERR0 31 16 c.sat).cntBar t Reg.FMT_ERR0 15 0 c.nanq).cntBar t Reg.FMT_ERR1 31 16 c.nanlost).cntBar t
    Reg.FMT_ERR1 15 0 c.badtrit

/-- Values of a block from its payload and its appendix. -/
def decBlock (code lay : Nat) (pay app : List Byte) : List W32 :=
  if code = 10 then (decTrits pay).1
  else if code = 11 then (unpackBits 4 8192 pay).map (fun i => bf16to32 (leAt app (2 * i) 2))
  else ((unpackBits (fmtBits code) (blockElems code) pay).zipIdx).map (fun e =>
    decScaled code (if lay = 1 then some (byteAt app (e.2 / 32)) else none) e.1)

/-- Invalid trit bytes of a ternary payload among those that hold a trit of elements lo to hi − 1 (R166). -/
def badTrits (code : Nat) (pay : List Byte) (lo hi : Nat) : Nat :=
  if code = 10 then ((pay.zipIdx).filter (fun e => e.1.toNat ≥ 243 && lo < 5 * e.2 + 5 && 5 * e.2 < hi)).length else 0

/-- Elements lo to lo + n − 1 of a tensor in consecutive blocks from src, with its appendices from app. -/
def Acc.elems (u : Acc) (code lay src app lo n : Nat) : Work (List W32) := do
  let e := blockElems code
  let first := lo / e
  let cnt := if n = 0 then 0 else (lo + n - 1) / e - first + 1
  let vs ← ((List.range cnt).map (fun i => first + i)).mapM (fun k => do
    let pay ← u.bytes (src + 4096 * k) 4096
    let ap ← (if appLen code lay = 0 then pure [] else u.bytes (app + strideOf code * k) (appLen code lay))
    modify (fun s => s.countCnts u.t { badtrit := badTrits code pay (lo - e * k) (lo + n - e * k) })
    pure (decBlock code lay pay ap))
  pure ((vs.flatten.drop (lo - e * first)).take n)

/-- What a conversion rounds by: mode, saturation, seed, tag and sequence number (R173, R174). -/
structure Rnd where
  mode : Nat
  sat : Bool
  seed : W32
  tag : Nat
  seq : Nat
deriving DecidableEq, Repr

/-- The mode of element idx of output block blk. -/
def Rnd.at (r : Rnd) (blk idx : Nat) : RMode := rmodeOf r.mode (srBits r.seed r.tag r.seq blk idx)

/-- Quantize or narrow values that start at element idx of block blk: element codes, scale bytes, counts. -/
def encVals (code lay : Nat) (r : Rnd) (blk idx : Nat) (v : List W32) : List Nat × List Byte × Cnts :=
  if lay = 1 then
    let gs := ((chunks 32 v).zipIdx).map (fun g =>
      mxQuantize (g.1.map f32) code ((List.range 32).map (fun i => r.at blk (idx + 32 * g.2 + i))))
    ((gs.map (fun g => g.2.1)).flatten, gs.map (fun g => BitVec.ofNat 8 g.1), gs.foldl (fun c g => c.add g.2.2) {})
  else
    let qs := (v.zipIdx).map (fun e => encElem code false (r.at blk (idx + e.2)) r.sat (f32 e.1))
    (qs.map Prod.fst, [], qs.foldl (fun c q => c.add q.2) {})

/-- Values padded with +0 to a whole block. -/
def padBlock (code : Nat) (v : List W32) : List W32 := v ++ List.replicate (blockElems code - v.length) 0#32

/-- Write output block k of a tensor at dst, with its scales at app. -/
def Acc.putBlock (u : Acc) (code lay dst app k : Nat) (r : Rnd) (v : List W32) : Work Unit := do
  let q := encVals code lay r k 0 (padBlock code v)
  modify (fun s => s.countCnts u.t q.2.2)
  u.put (dst + 4096 * k) (packBits (fmtBits code) 4096 q.1)
  if lay = 1 then u.put (app + strideOf code * k) q.2.1 else pure ()

/-- Extreme of two FP32 values (R259); a Spaern vector MIN or MAX takes the same rule for a NaN operand and for +0 with −0
(DESIGN CHOICE, log 85). -/
def fExt (mx : Bool) (a b : W32) : W32 :=
  match cmpN (f32 a) (f32 b) with
  | none => 0x7FC00000#32
  | some c =>
    if c = 0 then (if bit 31 a = mx then b else a)
    else if (c > 0) = mx then a else b

end Sys2Proof.Machine
end

