-- ==== Sys2Proof/Machine/Accept.lean ====
section
/-! DEFINITION. Descriptors: their fields, the acceptance checks of Table DSC-3, and taking (spec/10_rings_and_operations.md
R243 to R252, R254 to R270). -/

namespace Sys2Proof.Machine

open Host (Outcome)

/-! Fields (R250, R252). -/

/-- n bytes of a descriptor from a byte offset. -/
def dF (d : Line) (off n : Nat) : Nat := bits (8 * (off + n) - 1) (8 * off) d
def dOp (d : Line) : Nat := dF d 0 1
def dFlags (d : Line) : Nat := dF d 1 1
def dClass (d : Line) : Nat := dF d 2 1 % 8
def dSeq (d : Line) : Nat := dF d 4 2
def dTag (d : Line) : Nat := dF d 6 2
/-- A UA field. -/
def dUa (d : Line) (off : Nat) : Nat := dF d off 8 % 2 ^ 52
def uaOdd (d : Line) (off : Nat) : Bool := dF d off 8 ≥ 2 ^ 52
def dBefore (d : Line) : Bool := dFlags d / 2 % 2 = 1
def dAfter (d : Line) : Bool := dFlags d / 4 % 2 = 1

/-- COPY with CONV, and with IMAGE. -/
def isConv (d : Line) : Bool := dOp d = 2 && dF d 58 1 % 2 = 1
def isImage (d : Line) : Bool := dOp d = 2 && dF d 58 1 / 2 % 2 = 1

/-- A RND field out of range. -/
def rndBad (r : Nat) : Bool := if r / 4 = 1 then r % 4 = 3 else r % 4 ≠ 0

/-- The RND field of a body, of the opcodes that have one. -/
def dRnd (d : Line) : Nat :=
  match dOp d with
  | 2 => dF d 59 1 % 8
  | 4 => dF d 60 1 / 4 % 8
  | 5 => dF d 62 1 / 8 % 8
  | 6 => dF d 56 1 % 8
  | 7 => dF d 32 1 % 8
  | _ => 0

/-- A format byte whose code is at most top and whose layout is valid. -/
def fmtBad (b top : Nat) : Bool := b / 16 > top || !layOk (b / 16) (b % 16)

def blocksOf (code n : Nat) : Nat := ceilDiv n (blockElems code)

/-- Bytes of an appendix run of n blocks. -/
def appRun (code lay n : Nat) : Nat := if n = 0 || appLen code lay = 0 then 0 else (n - 1) * strideOf code + appLen code lay

/-! Parameter blocks (Tables DSC-12, DSC-13, DSC-15). -/

/-- The block that the ring engine reads before it accepts: its UA and bytes. -/
def paramOf (d : Line) : Option (Nat × Nat) :=
  match dOp d with
  | 6 => some (dUa d 16, 64 + 64 * min 1024 (dF d 50 2))
  | 7 => some (dUa d 16, 192)
  | _ => none

/-- An expert parameter block. -/
structure Epb where
  fn : Nat
  gated : Bool
  wfmt : Nat
  afmt : Nat
  ifmt : Nat
  k : Nat
  n : Nat
  outw : Nat
deriving DecidableEq, Repr

def epbOf (b : List Byte) : Epb :=
  { fn := byteAt b 1 / 2 % 8, gated := byteAt b 1 % 2 = 1, wfmt := byteAt b 2, afmt := byteAt b 3, ifmt := byteAt b 4,
    k := leAt b 8 4, n := leAt b 12 4, outw := leAt b 16 4 }

/-- Weights of one expert: GATE, UP, DOWN and the factors (Table DSC-13). -/
structure EpbEnt where
  gate : Nat
  up : Nat
  down : Nat
  f1 : W32
  f3 : W32
  f2 : W32
deriving DecidableEq, Repr

def epbEnt (b : List Byte) (x : Nat) : EpbEnt :=
  let o := 64 + 64 * x
  { gate := leAt b o 8, up := leAt b (o + 8) 8, down := leAt b (o + 16) 8, f1 := BitVec.ofNat 32 (leAt b (o + 24) 4),
    f3 := BitVec.ofNat 32 (leAt b (o + 28) 4), f2 := BitVec.ofNat 32 (leAt b (o + 32) 4) }

/-- Rows per weight block (Table FLE-2). -/
def rowsPer (code : Nat) : Nat := blockElems code / 64

/-- Bytes of a weight tensor (R179, R262). -/
def weightLen (code rows cols : Nat) : Nat := 4096 * (cols / 64) * ceilDiv rows (rowsPer code)

/-- M_max of R181 for width k in a format byte. -/
def mMax (fmt k : Nat) : Nat :=
  if k = 0 then 0 else min 64 (1048576 * blockElems (fmt / 16) / (k * (4096 + appLen (fmt / 16) (fmt % 16))))

/-- The EPB keeps Tables DSC-12 and DSC-13 for nexp experts and inputs of format actin (R262). -/
def epbOk (b : List Byte) (nexp actin : Nat) : Bool :=
  let e := epbOf b
  byteAt b 0 = 0x10 && byteAt b 1 / 16 = 0 && e.fn < 4 && !fmtBad e.wfmt 11 && !fmtBad e.afmt 9 && !fmtBad e.ifmt 9 &&
  (e.afmt = 16 * actin || e.afmt = 0x10 || e.afmt = 0x20 || (fmtMx (e.afmt / 16) && e.afmt % 16 = 1)) &&
  allZero (slice b 5 3) && allZero (slice b 20 44) &&
  e.k ≠ 0 && e.k % 32 = 0 && e.n ≠ 0 && e.n % 64 = 0 && e.outw ≠ 0 && e.outw % 64 = 0 &&
  mMax e.afmt e.k ≠ 0 && mMax e.ifmt e.n ≠ 0 &&
  (List.range nexp).all (fun x =>
    let w := epbEnt b x
    w.gate < 2 ^ 52 && w.down < 2 ^ 52 && (if e.gated then w.up < 2 ^ 52 else w.up = 0 && w.f3 = 0#32) &&
    allZero (slice b (100 + 64 * x) 28))

/-- Grant g of an argument block: its two words. -/
def argGrant (b : List Byte) (g : Nat) : Nat × Nat := (leAt b (64 + 16 * g) 8, leAt b (72 + 16 * g) 8)

/-- The argument block keeps Table DSC-15 for ngr used grants (R265). -/
def argsOk (b : List Byte) (ngr : Nat) : Bool :=
  (List.range 8).all (fun g =>
    let (a, n) := argGrant b g
    if g < ngr then fld 61 52 a = 0 && fld 63 62 a ≠ 0 && n ≠ 0 && n < 2 ^ 41 else a = 0 && n = 0)

def argGrants (b : List Byte) (ngr : Nat) : List Grant :=
  (List.range ngr).map (fun g =>
    let (a, n) := argGrant b g
    { base := a % 2 ^ 52, len := n, rd := fld 62 62 a = 1, wr := fld 63 63 a = 1 })

/-! Order 1: BAD_DESCRIPTOR. Each pair is a field's byte offset and whether it fails. -/

/-- Grants that a program slot needs: none where a RUN_PROGRAM may not name it (R225, R226, R266, R267). -/
def State.slotNeeds (n : Nat) (s : State) : Option Nat :=
  if n < 1008 then (s.pslot n).cur.map (fun p => p.ngrant) else if n = 1010 then some 3 else if n = 1011 then some 2 else none

/-- Base of a buffer of a region, by its byte address (R291). -/
def Region.bufAt (ua : Nat) (g : Region) : Option Nat := g.bufList.find? (fun b => 65536 * g.base b = ua)

def headBad (d : Line) : List (Nat × Bool) :=
  [(0, dOp d = 0 || dOp d > 0x13), (1, dFlags d ≥ 32 || (dFlags d / 8 % 2 = 1 && dOp d ≠ 6)), (2, dF d 2 1 ≥ 8), (3, dF d 3 1 ≠ 0)]

/-- Ranges of two runs of n bytes meet. -/
def overlap (a b n : Nat) : Bool := a < b + n && b < a + n

def copyBad (d : Line) : List (Nat × Bool) :=
  let len := dF d 32 8
  if isConv d then
    let sf := dF d 56 1
    let df := dF d 57 1
    [(16, uaOdd d 16 || dUa d 16 % 4096 ≠ 0), (24, uaOdd d 24 || dUa d 24 % 4096 ≠ 0), (32, len ≥ 2 ^ 41),
     (40, if sf % 16 = 0 then dF d 40 8 ≠ 0 else uaOdd d 40), (48, if df % 16 = 0 then dF d 48 8 ≠ 0 else uaOdd d 48),
     (56, fmtBad sf 11), (57, fmtBad df 9), (58, dF d 58 1 ≠ 1), (59, dF d 59 1 ≥ 8 || rndBad (dF d 59 1)), (60, dF d 60 4 ≠ 0)]
  else if isImage d then
    [(16, uaOdd d 16), (24, uaOdd d 24), (32, len ≥ 2 ^ 32), (40, dF d 40 8 ≠ 0), (48, dF d 48 8 ≥ 2 ^ 36), (56, dF d 56 1 ≠ 0),
     (57, dF d 57 1 ≠ 0), (58, dF d 58 1 ≥ 8), (59, dF d 59 1 ≠ 0), (60, dF d 60 4 ≠ 0)]
  else
    [(16, uaOdd d 16 || overlap (dUa d 16) (dUa d 24) len), (24, uaOdd d 24), (32, len ≥ 2 ^ 41), (40, dF d 40 8 ≠ 0),
     (48, dF d 48 8 ≠ 0), (56, dF d 56 1 ≠ 0), (57, dF d 57 1 ≠ 0), (58, dF d 58 1 ≠ 0), (59, dF d 59 1 ≠ 0), (60, dF d 60 4 ≠ 0)]

def reduceBad (d : Line) : List (Nat × Bool) :=
  let sf := dF d 58 1
  let df := dF d 59 1
  let n := dF d 52 4
  [(16, uaOdd d 16 || dUa d 16 % 4096 ≠ 0), (24, uaOdd d 24 || dUa d 24 % 4096 ≠ 0),
   (32, if sf % 16 = 0 then dF d 32 8 ≠ 0 else uaOdd d 32), (40, if df % 16 = 0 then dF d 40 8 ≠ 0 else uaOdd d 40),
   (48, dF d 48 4 < blocksOf (sf / 16) n), (52, n = 0), (56, dF d 56 2 < 2 || dF d 56 2 > 1024), (58, fmtBad sf 11), (59, fmtBad df 9),
   (60, dF d 60 1 ≥ 32 || rndBad (dF d 60 1 / 4 % 8) || dF d 60 1 % 4 = 3), (61, dF d 61 3 ≠ 0)]

def gatherBad (d : Line) : List (Nat × Bool) :=
  let tf := dF d 60 1
  let bag := dF d 58 2
  let re := dF d 56 2
  [(16, uaOdd d 16 || dUa d 16 % 4096 ≠ 0), (24, if tf % 16 = 0 then dF d 24 8 ≠ 0 else uaOdd d 24), (32, uaOdd d 32), (40, uaOdd d 40),
   (48, dF d 48 4 = 0), (52, dF d 52 4 = 0 || (bag ≠ 0 && dF d 52 4 % bag ≠ 0)), (56, re = 0 || (tf % 16 = 1 && re % 32 ≠ 0)),
   (58, bag = 0 || (dF d 62 1 % 4 = 0 && bag ≠ 1)), (60, fmtBad tf 11), (61, dF d 61 1 % 16 ≠ 0 || dF d 61 1 / 16 > 2),
   (62, dF d 62 1 ≥ 64 || rndBad (dF d 62 1 / 8 % 8)), (63, dF d 63 1 ≠ 0)]

def expertBad (d : Line) : List (Nat × Bool) :=
  let list := dF d 54 1 % 2
  let nexp := dF d 50 2
  let ds := dF d 53 1
  [(16, uaOdd d 16), (24, uaOdd d 24), (32, uaOdd d 32), (40, uaOdd d 40), (48, dF d 48 2 = 0),
   (50, nexp > 1024 || nexp < (if list = 0 then 2 else 1)), (52, dF d 52 1 % 16 ≠ 0 || dF d 52 1 / 16 > 1),
   (53, ds ≠ 0 && (ds < 4 || ds > 12)), (54, dF d 54 1 ≥ 8 || dF d 54 1 / 2 % 4 > (if list = 0 then 2 else 0)),
   (55, dF d 55 1 ≥ 16 || dF d 55 1 + 1 > nexp), (56, dF d 56 1 ≥ 8 || rndBad (dF d 56 1)), (57, dF d 57 7 ≠ 0)]

def State.runBad (d : Line) (s : State) : List (Nat × Bool) :=
  let slot := dF d 28 2
  let need := if slot ≥ 1024 then none else s.slotNeeds slot
  [(16, uaOdd d 16), (24, dF d 24 4 = 0 || dF d 24 4 > 1048576), (28, need.isNone),
   (30, dF d 30 1 > 8 || (match need with | some n => dF d 30 1 < n | none => false)), (31, dF d 31 1 > 16),
   (32, dF d 32 32 ≥ 8 || rndBad (dF d 32 4))]

/-- Fields of the body of an opcode that fail (Tables DSC-6 to DSC-18). -/
def State.bodyBad (d : Line) (s : State) : List (Nat × Bool) :=
  let c := dOp d
  if c = 1 then [(16, uaOdd d 16), (24, dF d 24 8 = 0 || dF d 24 8 > 2 ^ 40), (40, dF d 40 24 ≠ 0)]
  else if c = 2 then copyBad d
  else if c = 3 then
    [(16, uaOdd d 16), (24, uaOdd d 24), (32, dF d 32 8 ≥ 2 ^ 41),
     (40, if dF d 48 1 % 2 = 1 then uaOdd d 40 else dF d 40 8 ≠ 0), (48, dF d 48 16 ≥ 2)]
  else if c = 4 then reduceBad d
  else if c = 5 then gatherBad d
  else if c = 6 then expertBad d
  else if c = 7 then s.runBad d
  else if c ≤ 11 then [(16, dF d 16 8 ≥ 2 ^ 36), (24, dF d 24 4 = 0 || dF d 24 4 ≥ 2 ^ 20), (28, dF d 28 36 > (if c = 9 then 1 else 0))]
  else if c ≤ 14 then
    let wres := dF d 18 1 % 2 = 1
    [(16, dF d 16 2 ≥ 4096), (18, dF d 18 1 > (if c = 14 then 0 else 1)), (19, dF d 19 1 ≠ 0), (20, c ≠ 12 && dF d 20 4 ≠ 0),
     (24, if c = 12 then uaOdd d 24 || (let g := s.region (dF d 16 2); g.enabled && dUa d 24 ≠ 0 && (g.bufAt (dUa d 24)).isNone)
          else dF d 24 8 ≠ 0),
     (32, if wres && c ≠ 14 then uaOdd d 32 else dF d 32 8 ≠ 0), (40, dF d 40 24 ≠ 0)]
  else if c = 15 then [(16, uaOdd d 16), (25, dF d 25 39 ≠ 0)]
  else if c ≤ 17 then [(16, uaOdd d 16), (24, dF d 24 2 ≥ 1024), (26, dF d 26 38 ≠ 0)]
  else if c = 18 then [(20, dF d 20 2 ≥ 1024), (22, dF d 22 42 ≠ 0)]
  else [(16, dF d 16 48 > 1)]

/-- Fields of the parameter block that fail: named by the field that names the block (Table DSC-20). -/
def paramBad (d : Line) (p : List Byte) : List (Nat × Bool) :=
  match dOp d with
  | 6 => [(16, !epbOk p (min 1024 (dF d 50 2)) (dF d 52 1 / 16))]
  | 7 => [(16, !argsOk p (dF d 30 1))]
  | _ => []

/-! Order 2: NOT_READY (Table BUP-3). -/

def needFns (d : Line) : List Fn :=
  let c := dOp d
  if c = 6 then [.mem, .fe, .tc]
  else if c = 4 || c = 5 || c = 7 || isConv d then [.mem, .tc]
  else if c = 17 then [.mem, .alm]
  else if c = 18 then [.alm]
  else if 12 ≤ c && c ≤ 14 then [.shr]
  else if c = 19 then []
  else [.mem]

/-! Order 3: PERMISSION (R61, R265, R269). -/

/-- Ranges that fail the check of R61, by the field that names them. -/
def State.rangeBad (t : Nat) (d : Line) (p : List Byte) (s : State) : List (Nat × Bool) :=
  let src (a n : Nat) : Bool := !s.mapSrc t a n
  let dst (a n : Nat) : Bool := !s.mapDst t a n
  let c := dOp d
  let len := dF d 32 8
  if c = 1 then [(16, dst (dUa d 16) (dF d 24 8))]
  else if isConv d then
    let sf := dF d 56 1
    let df := dF d 57 1
    let nb := blocksOf (sf / 16) len
    let nd := blocksOf (df / 16) len
    [(16, src (dUa d 16) (4096 * nb)), (24, dst (dUa d 24) (4096 * nd)), (40, src (dUa d 40) (appRun (sf / 16) (sf % 16) nb)),
     (48, dst (dUa d 48) (appRun (df / 16) (df % 16) nd))]
  else if isImage d then [(16, src (dUa d 16) 256)]
  else if c = 2 then [(16, src (dUa d 16) len), (24, dst (dUa d 24) len)]
  else if c = 3 then [(16, src (dUa d 16) len), (24, src (dUa d 24) len), (40, dF d 48 1 = 1 && dst (dUa d 40) 8)]
  else if c = 4 then
    let sf := dF d 58 1
    let df := dF d 59 1
    let nb := blocksOf (sf / 16) (dF d 52 4)
    let nd := blocksOf (df / 16) (dF d 52 4)
    let vs := List.range (dF d 56 2)
    [(16, vs.any (fun i => src (dUa d 16 + 4096 * dF d 48 4 * i) (4096 * nb))), (24, dst (dUa d 24) (4096 * nd)),
     (32, vs.any (fun i => src (dUa d 32 + strideOf (sf / 16) * dF d 48 4 * i) (appRun (sf / 16) (sf % 16) nb))),
     (40, dst (dUa d 40) (appRun (df / 16) (df % 16) nd))]
  else if c = 5 then
    let tf := dF d 60 1
    let nb := blocksOf (tf / 16) (dF d 48 4 * dF d 56 2)
    [(16, src (dUa d 16) (4096 * nb)), (24, src (dUa d 24) (appRun (tf / 16) (tf % 16) nb)), (32, src (dUa d 32) (8 * dF d 52 4)),
     (40, dst (dUa d 40) (dF d 52 4 / dF d 58 2 * dF d 56 2 * (fmtBits (dF d 61 1 / 16) / 8)))]
  else if c = 6 then
    let e := epbOf p
    let n := dF d 50 2
    let tk := dF d 48 2
    let wbad := (List.range n).any (fun x =>
      let w := epbEnt p x
      src w.gate (weightLen (e.wfmt / 16) e.k e.n) || (e.gated && src w.up (weightLen (e.wfmt / 16) e.k e.n)) ||
      src w.down (weightLen (e.wfmt / 16) e.n e.outw))
    [(16, src (dUa d 16) (64 + 64 * n) || wbad), (24, src (dUa d 24) (tk * e.k * (fmtBits (dF d 52 1 / 16) / 8))),
     (32, src (dUa d 32) (if dF d 54 1 % 2 = 0 then tk * n * 4 else tk * (dF d 55 1 + 1) * 8)), (40, dst (dUa d 40) (tk * e.outw * 2))]
  else if c = 7 then
    [(16, src (dUa d 16) 192 || (argGrants p (dF d 30 1)).any (fun g => (g.rd && src g.base g.len) || (g.wr && dst g.base g.len)))]
  else if c ≤ 11 then [(16, src (65536 * dF d 16 8) (65536 * dF d 24 4))]
  else if c ≤ 14 then
    let r := dF d 16 2
    let g := s.region r
    [(16, !(s.mapsRegion t r) || !g.enabled), (24, c = 12 && dUa d 24 ≠ 0 && src (dUa d 24) (65536 * g.size)),
     (32, dF d 18 1 = 1 && dst (dUa d 32) 4)]
  else if c = 15 then [(16, src (dUa d 16) 4096)]
  else if c ≤ 17 then [(16, src (dUa d 16) 64)]
  else []

/-! Order 4: FENCED_UNIT (R208, R224). -/

def State.feUp (s : State) : Bool := (List.range 16).any (fun n => (s.fe n).ctl.st = .inService)
def State.tcUp (s : State) : Bool := (List.range 64).any (fun n => (s.tc n).st = .inService)

def State.unitFenced (d : Line) (s : State) : Bool :=
  let f := needFns d
  (f.contains .fe && !s.feUp) || (f.contains .tc && !s.tcUp)

/-- The lowest offset of a field that fails. -/
def firstBad (l : List (Nat × Bool)) : Option Nat := ((l.filter (fun e => e.2)).map Prod.fst).min?

/-- The outcome of Table DSC-3: none accepts. p is the parameter block, whose fields count as body fields (R262): none where
the descriptor has none or it could not be read for want of readiness or of its mapping, and the status of a read that
failed otherwise. -/
def State.acceptCheck (t : Nat) (d : Line) (p : Option (Except Status (List Byte))) (s : State) : Option (Status × Nat) :=
  let blk := match p with
    | some (.ok b) => b
    | _ => []
  match firstBad (headBad d ++ s.bodyBad d ++ (match p with | some (.ok b) => paramBad d b | _ => [])) with
  | some o => some (.badDescriptor, o)
  | none => match p with
    | some (.error c) => some (c, 16)
    | _ =>
      if (needFns d).any (fun f => !s.fnReady t f) then some (.notReady, 0)
      else match firstBad (s.rangeBad t d blk) with
        | some o => some (.permission, o)
        | none => if s.unitFenced d then some (.fencedUnit, 0) else none

/-! Acceptance. -/

/-- Ranges of an operation that its tenant maps with ENC (R399). -/
def State.opEncs (t : Nat) (s : State) : List (Nat × Nat × Nat) := s.encRanges t 0 (2 ^ 52)

/-- The job of a built-in kernel, with the Cistern banks that it asks for (Table TND-10, R265). -/
def kernelJob (id t cls : Nat) (h : Half) (banks : Nat) : Job :=
  { id := id, tenant := t, cls := cls, half := h, slot := 1008, prog := { replay := true, entry := 0, ngrant := 0, check := 0#32, code := [] },
    grants := [], args := [], jc := [], ilim := 0, wlim := 0, total := 1, created := 1, needBanks := banks }

/-- A RUN_PROGRAM job binds to its slot's image (R221, R222, R226, R265). -/
def State.bindJob (id t cls : Nat) (d : Line) (p : List Byte) (s : State) : State :=
  let slot := dF d 28 2
  let h := if freeBelow 2 s = 0 then Half.north else .south
  if slot ≥ 1008 then { s.tickFree with jobs := s.jobs ++ [kernelJob id t cls h (dF d 31 1)] }
  else match (s.pslot slot).cur with
    | none => s
    | some g =>
      let c := s.bar t Reg.TND_TCFG
      let j : Job :=
        { id := id, tenant := t, cls := cls, half := h, slot := slot, prog := g,
          grants := argGrants p (dF d 30 1), args := (List.range 8).map (fun i => BitVec.ofNat 64 (leAt p (8 * i) 8)),
          jc := List.replicate 16 0#64, ilim := bits 15 0 c, wlim := bits 31 16 c, total := dF d 24 4, needBanks := dF d 31 1,
          encs := s.opEncs t }
      { s.tickFree with jobs := s.jobs ++ [j] }

/-- A checked descriptor is in flight (R174, R243, R246). -/
def State.acceptOp (t r : Nat) (d : Line) (p : List Byte) (s : State) : State :=
  let w := s.wttOf t
  let top := cfgClassMax w.cfg
  let cls := min (dClass d) top
  let id := s.nextOp
  let ctl := s.bar t Reg.FMT_CTL
  let o : Op :=
    { id := id, tenant := t, ring := r, desc := d, cls := cls, epoch := w.epoch,
      rmode := if dRnd d / 4 = 1 then dRnd d % 4 else bits 1 0 ctl, sat := bit 31 ctl, seed := s.bar t Reg.FMT_SEED, param := p, encs := s.opEncs t }
  let s := if dClass d > top then s.cntBar t Reg.WTT_FAULT 15 0 1 else s
  let s := { s with ops := s.ops ++ [o], nextOp := id + 1 }
  if dOp d = 7 then s.bindJob id t cls d p else s

/-! Taking (R243, R244). -/

/-- The two conditions that DSC_CNT.WAITCQ counts: completion room and the tenant limit. -/
def State.roomCq (t : Nat) (s : State) : Bool :=
  s.cqOn t && s.tenantFlight t + s.cqUnread t < s.cqSize t - 1 && s.tenantFlight t < s.stwF (Reg.DSC_TLIM + 4 * t) 12 0

/-- The fences of a descriptor and of the ring's earlier ones are met, and no accepted MARK of the ring has yet to take
effect: it does so on acceptance, in slot order (R243, R249). -/
def State.fencesMet (t r : Nat) (d : Line) (s : State) : Bool :=
  (!dBefore d || s.ringFlight t r = 0) && !s.ops.any (fun o => o.tenant = t && o.ring = r &&
    (dAfter o.desc || (dOp o.desc = 18 && !o.started && o.done.isNone)))

/-- The descriptor at HEAD of a RUNNING ring, fetched. -/
def State.headDesc (t r : Nat) (s : State) : Option Line :=
  let g := s.ring t r
  if g.st = .running && !s.draining t then g.fetched.head? else none

/-- Descriptors that wait for a device-wide slot and could be taken: ring, priority step and number of the wait. -/
def State.slotWaiters (s : State) : List (Nat × Int × Nat) :=
  s.rings.filterMap (fun e =>
    let t := e.1 / 16
    let r := e.1 % 16
    match e.2.waitSlot, s.headDesc t r with
    | some (since, no), some d =>
      if s.roomCq t && s.fencesMet t r d then some (e.1, s.prio t (dClass d) since false false, no) else none
    | _, _ => none)

/-- Free device-wide slots that no better waiting descriptor takes (R243, R244). -/
def State.slotFree (t r : Nat) (d : Line) (s : State) : Bool :=
  let (since, no) := ((s.ring t r).waitSlot).getD (s.now, s.nextReq)
  let mine := s.prio t (dClass d) since false false
  let better := s.slotWaiters.filter (fun w => w.1 ≠ 16 * t + r && (w.2.1 > mine || (w.2.1 = mine && w.2.2 < no)))
  s.ops.length + better.length < 4096

/-- Who reads for a descriptor that is not accepted yet. -/
def takeReader (t r : Nat) : Reader := .op (4294967296 + 16 * t + r)

/-- A descriptor at HEAD is taken: HEAD passes it, and it is accepted or completes with the failed check (R245). -/
def State.takeWith (t r : Nat) (d : Line) (p : Option (Except Status (List Byte))) (s : State) : State :=
  let g := s.ring t r
  let s := s.setRing t r { g with head := (g.head + 1) % s.sqSize t r, fetched := g.fetched.drop 1, waitCq := false, waitSlot := none }
  match s.acceptCheck t d p with
  | some (c, o) => s.complete t r d c (o % 64) true
  | none => s.acceptOp t r d (match p with
    | some (.ok b) => b
    | _ => [])

/-- DESCRIPTOR_TAKE (R243 to R246). -/
def execDescriptorTake (t : Tenant) (r : BitVec 4) (s : State) : Outcome State Fault Refusal :=
  let n := t.toNat
  let q := r.toNat
  match s.headDesc n q with
  | none => .next s
  | some d =>
    let g := s.ring n q
    if !s.roomCq n then
      .next (if g.waitCq then s else (s.setRing n q { g with waitCq := true }).cntBar n Reg.DSC_CNT 31 16 1)
    else if !s.fencesMet n q d then .next s
    else if !s.slotFree n q d then
      .next (if g.waitSlot.isSome then s
        else State.cntBar n Reg.DSC_CNT 15 0 1 { s.setRing n q { g with waitSlot := some (s.now, s.nextReq) } with nextReq := s.nextReq + 1 })
    else
      match (if (headBad d ++ s.bodyBad d).any (fun e => e.2 && e.1 ≤ 16) || !s.fnReady n .mem then none else paramOf d) with
      | none => .next (s.takeWith n q d none)
      | some (ua, len) =>
        if s.mapSrc n ua len then
          let u : Acc := { t := n, cls := min (dClass d) (cfgClassMax (s.wttOf n).cfg), half := tenantHalf n, row := 1,
                           who := takeReader n q, encs := s.opEncs n }
          .next (u.run (u.bytes ua len) (fun x s => s.takeWith n q d (some x)) s)
        else .next (s.takeWith n q d none)

/-! Completion (R247, R271). -/

/-- A job is gone: its banks go back to the pool, and its image is its job's no more (R226, R345). -/
def State.freeJob (id : Nat) (s : State) : State :=
  let bs := match s.job id with
    | some j => j.banks
    | none => []
  forAll bs (fun b s => s.returnBank b) { s with jobs := s.jobs.filter (fun j => j.id ≠ id) }

/-- Grains of a job that do not run end, and what they read is given up (Table TND-5). -/
def State.dropIdle (id : Nat) (s : State) : State :=
  let idle (g : Grain) : Bool := g.job = id && g.st ≠ .running
  let gone := s.grains.filter idle
  forAll gone (fun g s => s.farDrop (.grain g.id)) { s with grains := s.grains.filter (fun g => !idle g) }

/-- The job of an operation that has ended: a grain that runs keeps it until its next yield point (Table TND-5, Table PRT-9
step 4). -/
def State.dropJob (id : Nat) (s : State) : State :=
  let s := (s.dropIdle id).modCst (fun c => { c with allotWait := c.allotWait.filter (fun j => j ≠ id) })
  if s.grains.any (fun g => g.job = id) then s.modJob id (fun j => { j with stop := some (j.stop.getD (.abortedFlr, 0)) })
  else s.freeJob id

/-- A grain of an operation whose tile does not run. -/
def Engine.idleOf (op : Nat) (e : Engine) (g : FGrain) : Bool := g.op = op && !e.tile.any (fun t => t.grain = g.id)

/-- An engine without the grains of an operation; one whose tile runs stays until its next tile boundary (R199). -/
def Engine.dropOp (op : Nat) (e : Engine) : Engine :=
  let gone := (e.grains.filter (e.idleOf op)).map FGrain.id
  { e with grains := e.grains.filter (fun g => !e.idleOf op g), aob := e.aob.filter (fun i => !gone.contains i) }

/-- FE grains of a job leave their engines, and their work banks go back to the pool (R199, R345); its comparisons end. -/
def State.dropGrains (op : Nat) (s : State) : State :=
  let gone := (s.fes.map (fun (e : Nat × Engine) => ((e.2.grains.filter (e.2.idleOf op)).map FGrain.banks).flatten)).flatten
  let s := { s with dups := s.dups.filter (fun d => d.op ≠ op), fes := s.fes.filterMap (fun (e : Nat × Engine) =>
      let g := e.2.dropOp op
      if g = {} then none else some (e.1, g)),
                    xjobs := s.xjobs.filter (fun j => j.op ≠ op) }
  forAll gone (fun b s => s.returnBank b) s

/-- An operation in flight ends with a status. -/
def State.endOp (o : Op) (c : Status) (s : State) : State :=
  let s := { s with ops := s.ops.filter (fun x => x.id ≠ o.id) }
  let s := ((s.dropJob o.id).dropGrains o.id).farDrop (.op o.id)
  s.complete o.tenant o.ring o.desc c o.detail false

/-- OPERATION_COMPLETE (R247): an operation whose status is decided. -/
def execOperationComplete (op : Nat) (s : State) : Outcome State Fault Refusal :=
  match s.op op with
  | some o => match o.done with
    | some c => .next (s.endOp o c)
    | none => .next s
  | none => .next s

end Sys2Proof.Machine
end

