-- ==== Sys2Proof/Machine/Kernels.lean ====
section
/-! DEFINITION. The status of an operation, and the grains of its job: their faults, their end, where they are created, and
the one grain of a built-in kernel (spec/09_tender_cores.md R216 to R218, R222 to R224, R265 to R267). -/

namespace Sys2Proof.Machine

/-- An operation's status and detail are decided. -/
def State.opDone (id : Nat) (c : Status) (detail : Nat) (s : State) : State :=
  s.modOp id (fun o => { o with done := some c, detail := min 0xFFFF detail })

/-- The first failure of an operation decides its status (R199). -/
def State.failOp (id : Nat) (c : Status) (detail : Nat) (s : State) : State :=
  s.modOp id (fun o => if o.done.isSome then o else { o with done := some c, detail := detail })

/-- Act on an operation in flight whose descriptor is of a kind and whose status is open. -/
def State.withOp (id : Nat) (kind : Line → Bool) (f : Op → State → State) (s : State) : State :=
  match s.op id with
  | some o => if kind o.desc && o.done.isNone then f o s else s
  | none => s

/-- The accesses of an operation's unit on a half (R246). -/
def Op.unitOn (o : Op) (h : Half) : Acc :=
  { t := o.tenant, cls := o.cls, half := h, row := 1, who := .op o.id, encs := o.encs }

/-- The accesses of the ring engine of a tenant's port (R246, R251). -/
def Op.unit (o : Op) : Acc := o.unitOn (tenantHalf o.tenant)

def Op.rnd (o : Op) : Rnd := { mode := o.rmode, sat := o.sat, seed := o.seed, tag := dTag o.desc, seq := dSeq o.desc }

/-- Run an operation's program; its value gives the status and the detail. -/
def Op.run (o : Op) (m : Work (Status × Nat)) (s : State) : State :=
  o.unit.run m (fun r s => match r with
    | .ok (c, n) => s.opDone o.id c n
    | .error c => s.opDone o.id c 0) s

/-! Faults (R222, R223). -/

/-- Record a fault of Table TND-6: TND_FAULT0 and TND_FAULT1 while VALID is clear, and an event record. -/
def State.tndFault (t code pc idx core : Nat) (c : Status) (s : State) : State :=
  let s := if bit 31 (s.bar t Reg.TND_FAULT0) then s
    else (s.setBar t Reg.TND_FAULT0 (at32 31 1 ||| at32 24 (code % 16) ||| at32 0 (pc % 2 ^ 24))).setBar t Reg.TND_FAULT1 (at32 0 (idx % 2 ^ 20))
  s.logRec { typ := 0x0A, sev := 2, status := c.code, tenant := some t, unit := unitNo 4 core, loc := pc, aux0 := code, aux1 := idx }

/-- The completion detail of a fault. -/
def faultDetail (code idx : Nat) : Nat := code % 16 * 4096 + idx % 4096

/-- A job stops for a reason, unless it has one. -/
def Job.stopFor (c : Status) (detail : Nat) (j : Job) : Job := if j.stop.isSome then j else { j with stop := some (c, detail) }

/-- A job with no grain left that is stopped or has created them all is decided; one whose operation has ended is freed. -/
def State.jobSettle (id : Nat) (s : State) : State :=
  match s.job id with
  | none => s
  | some j =>
    if s.grains.any (fun g => g.job = id) then s
    else if (s.op id).isNone then s.freeJob id
    else match j.stop with
      | some (c, d) => s.failOp id c d
      | none => if j.created = j.total then s.failOp id .ok 0 else s

/-- A half that a tenant's ring engine cannot reach: the bridge is down between them (R14). -/
def State.cutFrom (t : Nat) (h : Half) (s : State) : Bool := s.split && h ≠ tenantHalf t

/-- A grain ends and its context is free; the end of one across a bridge that is down does not reach its job (R14). -/
def State.endGrain (g : Grain) (s : State) : State :=
  (({ s with grains := s.grains.filter (fun x => x.id ≠ g.id) }).modJob g.job (fun j =>
    let j := { j with ended := j.ended + 1 }
    if s.cutFrom j.tenant g.half then j.stopFor .poisonConsumed 0 else j)).jobSettle g.job

/-- A stopped job's grains that do not run end; running ones go on to their next yield point (Table TND-5). -/
def State.stopJob (id : Nat) (c : Status) (detail : Nat) (s : State) : State :=
  ((s.modJob id (Job.stopFor c detail)).dropIdle id).jobSettle id

/-- A grain faults (R223). -/
def State.faultGrain (g : Grain) (code pc : Nat) (c : Status) (s : State) : State :=
  match s.job g.job with
  | none => s
  | some j =>
    let s := s.tndFault j.tenant code pc g.index g.core c
    let s := s.modJob j.id (Job.stopFor c (faultDetail code g.index))
    (s.endGrain g).stopJob j.id c (faultDetail code g.index)

/-! Creation (R216, R217, R265). -/

/-- Cores in service on a half. -/
def State.tcServing (h : Half) (s : State) : List Nat := (List.range 64).filter (fun n => tcHalf n = h && (s.tc n).st = .inService)

def State.readyOn (h : Half) (s : State) : Nat := (s.grains.filter (fun g => g.half = h && g.st = .ready)).length

/-- Half of a new grain (R217, R224). -/
def State.grainHalf (j : Job) (s : State) : Half :=
  if j.needBanks ≠ 0 then j.half
  else if s.tcServing .north = [] then .south
  else if s.tcServing .south = [] then .north
  else if s.readyOn .north < s.readyOn .south then .north
  else if s.readyOn .south < s.readyOn .north then .south
  else tenantHalf j.tenant

/-- Registers of a new grain: zeros, and the program's entry (log 41). -/
def newCtx (entry : Nat) : Ctx :=
  { x := List.replicate 32 0#64, v := List.replicate 32 0#512, k := List.replicate 8 0#64, pc := entry, scratch := [] }

def State.tenantGrains (t : Nat) (s : State) : Nat :=
  (s.grains.filter (fun g => match s.job g.job with
    | some j => j.tenant = t
    | none => false)).length

/-- The job has every bank that it asked for, powered. -/
def State.jobReady (j : Job) (s : State) : Bool :=
  j.started && j.banks.length ≥ j.needBanks && j.banks.all (fun b => (s.bank b).ps = .on)

/-- A grain of the job may be created: it has its banks, and the limits on resident grains allow (R216, R265). -/
def State.mayCreate (j : Job) (s : State) : Bool :=
  s.jobReady j && s.grains.length < 4194304 && s.tenantGrains j.tenant < s.stwF (Reg.TND_TLIM + 4 * j.tenant) 22 0

/-- A job starts: it asks for its banks on its half (R265, R345). -/
def State.startJob (id : Nat) (s : State) : State :=
  match s.job id with
  | none => s
  | some j =>
    if j.started then s
    else forAll (List.range j.needBanks) (fun _ s => if s.cst.allotWait.contains id then s else s.allotJob id)
      (s.modJob id (fun j => { j with started := true }))

/-! Built-in kernels (Table TND-10). Each has one grain at a time, resident from the first run of its row to its end and
WAITING between its runs (DESIGN CHOICE, log 37). -/

/-- The grain of a kernel's job, created where it may be (R216, R217). -/
def State.kernelGrain (o : Op) (s : State) : Option Grain × State :=
  let s := if (s.job o.id).isSome then s else { s with jobs := s.jobs ++ [kernelJob o.id o.tenant o.cls .north 0] }
  let s := s.startJob o.id
  match s.grains.find? (fun g => g.job = o.id), s.job o.id with
  | some g, _ => (some g, s)
  | none, none => (none, s)
  | none, some j =>
    if !s.mayCreate j then (none, s)
    else
      let h := s.grainHalf j
      let g : Grain := { id := s.nextGrain, job := j.id, index := 0, half := h, st := .waiting, core := ((s.tcServing h).head?).getD 0,
                         ctx := newCtx 0, saved := newCtx 0, waitVal := BitVec.allOnes 64, stamp := s.now, since := s.now }
      (some g, { s with grains := s.grains ++ [g], nextGrain := s.nextGrain + 1 })

/-- DETAIL of a kernel's fault (Table DSC-20): the fault of an EXPERT or a RUN_PROGRAM, what an EMBED_GATHER has ignored. -/
def State.kernelDetail (o : Op) (code idx : Nat) (c : Status) (s : State) : Nat :=
  if dOp o.desc = 6 || dOp o.desc = 7 then faultDetail code idx
  else if dOp o.desc = 5 && c = .permission then (match s.op o.id with
    | some x => x.detail
    | none => 0)
  else 0

/-- A kernel's grain faults: its operation ends with the status (R223, R253). -/
def State.kernelFault (o : Op) (code idx core : Nat) (c : Status) (s : State) : State :=
  ((s.tndFault o.tenant code 0 idx core c).dropJob o.id).opDone o.id c (s.kernelDetail o code idx c)

/-- Run a kernel's program on its grain's half, once its check holds: k takes what it ends with. A read or a write that fails
is a fault of the grain that met it; a program that waits leaves its grain resident. -/
def State.kernelRun {α : Type} (o : Op) (check : Option Nat) (m : Acc → Work α) (k : α → State → State) (s : State) : State :=
  if !s.tcUp then (s.dropJob o.id).opDone o.id .fencedUnit 0
  else match s.kernelGrain o with
    | (none, s) => s
    | (some g, s) =>
      let u := o.unitOn g.half
      if s.cutFrom o.tenant g.half then (s.dropJob o.id).opDone o.id .poisonConsumed 0
      else if s.tcServing g.half = [] then s.kernelFault o 8 g.index g.core .fencedUnit
      else match check with
        | some code => s.kernelFault o code 0 g.core (if code = 2 then .permission else .badDescriptor)
        | none => match m u s with
          | .ok a s => k a (u.ends s)
          | .error (.fail c) s => (u.ends s).kernelFault o (if c = .permission then 3 else 5) 0 g.core c
          | .error (.fault code c) s => (u.ends s).kernelFault o (code / 2 ^ 20) (code % 2 ^ 20) g.core c
          | .error (.wait w) s' => u.waits w s' s

/-- A kernel's grain ends, and its operation with a status and a detail. -/
def State.kernelEnd (o : Op) (c : Status) (n : Nat) (s : State) : State := (s.dropJob o.id).opDone o.id c n

/-- Run a kernel whose value gives the status and the detail. -/
def State.kernel (o : Op) (check : Option Nat) (m : Acc → Work (Status × Nat)) (s : State) : State :=
  s.kernelRun o check m (fun r s => s.kernelEnd o r.1 r.2)

end Sys2Proof.Machine
end

