-- ==== Sys2Proof/Machine/Operations.lean ====
section
/-! DEFINITION. The data operations of the ring engine and the kernels: FILL, COPY, COMPARE, REDUCE and EMBED_GATHER
(spec/10_rings_and_operations.md R253 to R261). Each row carries its operation out whole. -/

namespace Sys2Proof.Machine

open Host (Outcome)

/-- n bytes of FILL's pattern from a UA (Table DSC-6). -/
def fillBytes (pat : Nat) (ua n : Nat) : List Byte := (List.range n).map (fun i => BitVec.ofNat 8 (pat / 2 ^ (8 * ((ua + i) % 8))))

/-- FILL, line by line (R254). -/
def fillWork (o : Op) : Work (Status × Nat) := do
  let ua := dUa o.desc 16
  let n := dF o.desc 24 8
  (spanLines ua n).forM (fun l =>
    let lo := max ua (64 * l)
    let hi := min (ua + n) (64 * l + 64)
    let q := linePart lo (fillBytes (dF o.desc 32 8) lo (hi - lo)) l
    o.unit.store (64 * l) q.1 q.2 false)
  pure (.ok, 0)

/-- FILL (R253, R254). -/
def execFill (op : Nat) (s : State) : Outcome State Fault Refusal :=
  .next (s.withOp op (fun d => dOp d = 1) (fun o s => o.run (fillWork o) s))

/-- One destination line of a plain COPY: poison is carried, not consumed (R253). The first poison's status and the
lines stored poisoned go on. -/
def copyLine (o : Op) (acc : Option Status × Nat) (l : Nat) : Work (Option Status × Nat) := do
  let src := dUa o.desc 16
  let dst := dUa o.desc 24
  let n := dF o.desc 32 8
  let lo := max dst (64 * l)
  let hi := min (dst + n) (64 * l + 64)
  match (← Work.try_ (o.unit.bytes (src + (lo - dst)) (hi - lo))) with
  | .ok b => do
    let q := linePart lo b l
    match (← Work.try_ (o.unit.store (64 * l) q.1 q.2 false)) with
    | .ok _ => pure acc
    | .error c => do
      modify (fun s => s.modOp o.id (fun x => { x with detail := min 0xFFFF acc.2 }))
      Work.fail c
  | .error c => do
    match (← Work.try_ (o.unit.store (64 * l) 0#512 (beOf (lo - 64 * l) (hi - 64 * l)) true)) with
    | .ok _ => pure (some (acc.1.getD c), acc.2 + 1)
    | .error c => do
      modify (fun s => s.modOp o.id (fun x => { x with detail := min 0xFFFF acc.2 }))
      Work.fail c

/-- COPY (R253, R255): plain. -/
def execCopy (op : Nat) (s : State) : Outcome State Fault Refusal :=
  .next (s.withOp op (fun d => dOp d = 2 && !isConv d && !isImage d) (fun o s =>
    o.unit.run ((spanLines (dUa o.desc 24) (dF o.desc 32 8)).foldlM (copyLine o) (none, 0)) (fun r s => match r with
      | .ok (none, _) => s.opDone o.id .ok 0
      | .ok (some c, n) => s.opDone o.id c n
      | .error c => s.modOp o.id (fun x => { x with done := some c })) s))

/-- COPY with CONV (R176, R256). -/
def convertWork (o : Op) (u : Acc) : Work (Status × Nat) := do
  let d := o.desc
  let sf := dF d 56 1
  let df := dF d 57 1
  let n := dF d 32 8
  let e := blockElems (df / 16)
  (List.range (blocksOf (df / 16) n)).forM (fun k => do
    let v ← u.elems (sf / 16) (sf % 16) (dUa d 16) (dUa d 40) (k * e) (min e (n - k * e))
    u.putBlock (df / 16) (df % 16) (dUa d 24) (dUa d 48) k o.rnd v)
  pure (.ok, 0)

/-- COPY_CONVERT (R253, R256). -/
def execCopyConvert (op : Nat) (s : State) : Outcome State Fault Refusal :=
  .next (s.withOp op isConv (fun o s => s.kernel o none (convertWork o)))

/-- Where two runs of bytes at a and b, n long, are read together from offset i: piece by piece up to the next end of a
line of either. The first offset where they differ, if any. -/
def compareFrom (o : Op) (a b n : Nat) : Nat → Nat → Work (Option Nat)
  | 0, _ => pure none
  | f + 1, i =>
    if n ≤ i then pure none
    else do
      let m := min (min (64 - (a + i) % 64) (64 - (b + i) % 64)) (n - i)
      let x ← o.unit.bytes (a + i) m
      let y ← o.unit.bytes (b + i) m
      match ((x.zip y).zipIdx).find? (fun e => e.1.1 ≠ e.1.2) with
      | some e => pure (some (i + e.2))
      | none => compareFrom o a b n f (i + m)

/-- COMPARE's work (R258). -/
def compareWork (o : Op) : Work (Status × Nat) := do
  let d := o.desc
  let r ← compareFrom o (dUa d 16) (dUa d 24) (dF d 32 8) (dF d 32 8 + 1) 0
  if dF d 48 1 = 1 then o.unit.put (dUa d 40) (leBytes 8 (r.getD (2 ^ 64 - 1))) else pure ()
  pure (.ok, if r.isSome then 1 else 0)

/-- COMPARE (R253, R258). -/
def execCompare (op : Nat) (s : State) : Outcome State Fault Refusal :=
  .next (s.withOp op (fun d => dOp d = 3) (fun o s => o.run (compareWork o) s))

/-- Combine element lists of one result block over the sources: OP 0 SUM, 1 MAX, 2 MIN (R259). -/
def reduceStep (op : Nat) (acc : Option (List W32)) (v : List W32) : List W32 :=
  match acc with
  | none => if op = 0 then v.map (fun x => fadd 0#32 x) else v
  | some a => (a.zip v).map (fun p => if op = 0 then fadd p.1 p.2 else fExt (op = 1) p.1 p.2)

/-- REDUCE's work (R259). -/
def reduceWork (o : Op) (u : Acc) : Work (Status × Nat) := do
  let d := o.desc
  let sf := dF d 58 1
  let df := dF d 59 1
  let n := dF d 52 4
  let st := dF d 48 4
  let e := blockElems (df / 16)
  (List.range (blocksOf (df / 16) n)).forM (fun k => do
    let v ← (List.range (dF d 56 2)).foldlM (fun (a : Option (List W32)) i => do
      let x ← u.elems (sf / 16) (sf % 16) (dUa d 16 + 4096 * st * i) (dUa d 32 + strideOf (sf / 16) * st * i) (k * e) (min e (n - k * e))
      pure (some (reduceStep (dF d 60 1 % 4) a x))) none
    u.putBlock (df / 16) (df % 16) (dUa d 24) (dUa d 40) k o.rnd (v.getD []))
  pure (.ok, 0)

/-- REDUCE (R253, R259). -/
def execReduce (op : Nat) (s : State) : Outcome State Fault Refusal :=
  .next (s.withOp op (fun d => dOp d = 4) (fun o s => s.kernel o none (reduceWork o)))

/-- Pool one more row into a bag: 2 mean sums as 1 sum does, 3 max, 0 the row itself (R260). -/
def poolStep (pool : Nat) (acc : Option (List W32)) (v : List W32) : List W32 :=
  match acc with
  | none => if pool = 1 || pool = 2 then v.map (fun x => fadd 0#32 x) else v
  | some a => (a.zip v).map (fun p => if pool = 3 then fExt true p.1 p.2 else fadd p.1 p.2)

/-- Entries of a bag whose row is in the table; the others are ignored (R261). -/
def gatherOk (o : Op) (ents : List (Nat × W32)) : List (Nat × W32) := ents.filter (fun e => e.1 < dF o.desc 48 4)

/-- One output row of EMBED_GATHER from its bag's valid entries (R260, R261). -/
def gatherBag (o : Op) (u : Acc) (ok : List (Nat × W32)) : Work (List W32) := do
  let d := o.desc
  let tf := dF d 60 1
  let re := dF d 56 2
  let pool := dF d 62 1 % 4
  let v ← ok.foldlM (fun (a : Option (List W32)) e => do
    let x ← u.elems (tf / 16) (tf % 16) (dUa d 16) (dUa d 24) (e.1 * re) re
    let x := if dF d 62 1 / 4 % 2 = 1 then x.map (fun y => fmul y e.2) else x
    pure (some (poolStep pool a x))) none
  pure (match v with
    | some v => if pool = 2 then v.map (fun x => toF32 (divN (f32 x) (.fin false ok.length 0))) else v
    | none => List.replicate re 0#32)

/-- EMBED_GATHER's work: bag by bag, each written where its row lies; the entries ignored are its detail, also where a
write or a read ends it with PERMISSION (R260, R261, Table DSC-20). A narrowing's blk and idx are the running number of the
output element divided by, and modulo, the block's element count: R260 cuts no output blocks (DESIGN CHOICE, log 88). -/
def gatherWork (o : Op) (u : Acc) : Work (Status × Nat) := do
  let d := o.desc
  let of_ := dF d 61 1 / 16
  let re := dF d 56 2
  let bag := dF d 58 2
  let w := fmtBits of_ / 8
  let e := blockElems of_
  let bad ← (List.range (dF d 52 4 / bag)).foldlM (fun (bad : Nat) b => do
    let ib ← u.bytes (dUa d 32 + 8 * bag * b) (8 * bag)
    let ents := (List.range bag).map (fun i => (leAt ib (8 * i) 4, BitVec.ofNat 32 (leAt ib (8 * i + 4) 4)))
    let ok := gatherOk o ents
    let bad := bad + (bag - ok.length)
    modify (fun s => s.modOp o.id (fun x => { x with detail := min 0xFFFF bad }))
    let v ← gatherBag o u ok
    let qs := (v.zipIdx).map (fun x => encElem of_ false (o.rnd.at ((b * re + x.2) / e) ((b * re + x.2) % e)) o.sat (f32 x.1))
    modify (fun s => s.countCnts o.tenant (qs.foldl (fun c q => c.add q.2) {}))
    u.put (dUa d 40 + b * re * w) ((qs.map (fun q => leBytes w q.1)).flatten)
    pure bad) 0
  pure (if bad = 0 then (.ok, 0) else (.permission, bad))

/-- EMBED_GATHER (R253, R260, R261). -/
def execEmbedGather (op : Nat) (s : State) : Outcome State Fault Refusal :=
  .next (s.withOp op (fun d => dOp d = 5) (fun o s => s.kernel o none (gatherWork o)))

end Sys2Proof.Machine
end

