-- ==== Sys2Proof/Machine/Spaern.lean ====
section
/-! DEFINITION. Spaern instruction words: their fields, their classes and which are illegal; and program images
(spec/09_tender_cores.md R210, R225). -/

namespace Sys2Proof.Machine

/-! Fields (Table TND-2). -/

def sMajor (w : W32) : Nat := bits 31 26 w
def sDst (w : W32) : Nat := bits 25 21 w
def sSrc1 (w : W32) : Nat := bits 20 16 w
def sSrc2 (w : W32) : Nat := bits 15 11 w
def sFnA (w : W32) : Nat := bits 5 0 w
def sFnB (w : W32) : Nat := bits 15 12 w
def sFnV (w : W32) : Nat := bits 4 0 w
def sMask (w : W32) : Nat := bits 10 8 w
def sEw (w : W32) : Nat := bits 7 5 w
def sImm12 (w : W32) : Int := sgnOf 12 (bits 11 0 w)
def sImm21 (w : W32) : Int := sgnOf 21 (bits 20 0 w)

/-- Classes of instructions, one for each row of the command table. -/
inductive SCls where
  | alu
  | aluImm
  | loadUpper
  | load
  | store
  | branch
  | jump
  | jumpReg
  | atomic
  | yield
  | fence
  | exit
  | trap
  | gets
  | wait
  | signal
  | mark
  | vectorInt
  | vectorFp
  | reduce
  | vectorLoad
  | vectorStore
  | gather
  | scatter
  | vcvt
  | vmxq
  | crc
  | crcv
deriving DecidableEq, Repr

/-- System instructions by FN. -/
def sysCls (fn : Nat) : Option SCls :=
  match fn with
  | 0 => some .yield
  | 1 => some .fence
  | 2 => some .exit
  | 3 => some .trap
  | 4 => some .gets
  | 5 => some .wait
  | 6 => some .signal
  | 7 => some .mark
  | _ => none

/-- Class of a word by Table TND-3: none where MAJOR or FN names no listed entry. -/
def sCls (w : W32) : Option SCls :=
  match sMajor w with
  | 0x00 => if sFnA w ≤ 15 then some .alu else none
  | 0x01 => if sFnB w ≤ 7 || 12 ≤ sFnB w then some .aluImm else none
  | 0x02 => some .loadUpper
  | 0x03 => if sFnB w ≤ 6 then some .load else none
  | 0x04 => if sFnB w ≤ 3 then some .store else none
  | 0x05 => if sFnB w ≤ 5 then some .branch else none
  | 0x06 => some .jump
  | 0x07 => if sFnB w = 0 then some .jumpReg else none
  | 0x08 => if sFnA w ≤ 4 then some .atomic else none
  | 0x09 => sysCls (sFnB w)
  | 0x10 => if sFnV w ≤ 14 then some .vectorInt else none
  | 0x11 => if sFnV w ≤ 12 then some .vectorFp else none
  | 0x12 => if sFnV w ≤ 4 then some .reduce else none
  | 0x13 => match sFnV w with
    | 0 => some .vectorLoad
    | 1 => some .vectorStore
    | 2 => some .gather
    | 3 => some .scatter
    | _ => none
  | 0x14 => if sFnV w ≤ 9 then some .vcvt else none
  | 0x15 => if 3 ≤ sFnV w && sFnV w ≤ 9 then some .vmxq else none
  | 0x16 => match sFnA w with
    | 0 => some .crc
    | 1 => some .crcv
    | _ => none
  | _ => none

/-- Vector operations that take one source. -/
def oneSource (w : W32) : Bool :=
  (sMajor w = 0x10 && sFnV w = 14) || (sMajor w = 0x11 && [6, 7, 8, 11, 12].contains (sFnV w)) || sMajor w = 0x12 ||
  (sMajor w = 0x13 && sFnV w ≤ 1)

/-- A vector operation that writes a mask register. -/
def writesMask (w : W32) : Bool :=
  (sMajor w = 0x10 && (sFnV w = 11 || sFnV w = 12)) || (sMajor w = 0x11 && (sFnV w = 9 || sFnV w = 10))

/-- Reserved and unused fields are zero, and EW is not 7 (R210). Bits of a field that the instruction does not name are
unused. -/
def sFieldsOk (c : SCls) (w : W32) : Bool :=
  match c with
  | .alu => bits 10 6 w = 0
  | .atomic => bits 10 6 w = 0
  | .crc => bits 10 6 w = 0
  | .crcv => bits 15 6 w = 0
  | .yield => bits 25 16 w = 0 && bits 11 0 w = 0
  | .fence => bits 25 16 w = 0 && bits 11 0 w = 0
  | .exit => bits 25 16 w = 0 && bits 11 0 w = 0
  | .trap => bits 25 16 w = 0 && bits 11 0 w = 0
  | .gets => sSrc1 w = 0
  | .wait => sDst w = 0 && bits 11 4 w = 0
  | .signal => sDst w = 0 && bits 11 4 w = 0
  | .mark => sDst w = 0 && bits 11 10 w = 0
  | .gather => sEw w = 2 || sEw w = 3
  | .scatter => sEw w = 2 || sEw w = 3
  | .vcvt => sEw w ≠ 7 && sSrc2 w < 4
  | .vmxq => sEw w = 0 && sMask w < 4
  | .vectorInt => sEw w ≠ 7 && (!oneSource w || sSrc2 w = 0) && (!writesMask w || sDst w < 8)
  | .vectorFp => sEw w ≠ 7 && (!oneSource w || sSrc2 w = 0) && (!writesMask w || sDst w < 8)
  | .reduce => sEw w ≠ 7 && sSrc2 w = 0
  | .vectorLoad => sEw w ≠ 7 && sSrc2 w = 0
  | .vectorStore => sEw w ≠ 7 && sSrc2 w = 0
  | _ => true

/-- The class of a legal word (R210). -/
def sDecode (w : W32) : Option SCls := (sCls w).filter (fun c => sFieldsOk c w)

/-! Program images (R225). -/

def pimgLen (h : List Byte) : Nat := leAt h 4 4

/-- The header keeps Table TND-7. -/
def pimgHeadOk (h : List Byte) : Bool :=
  byteAt h 0 = 0x10 && byteAt h 1 < 2 && leAt h 2 2 = 0 && pimgLen h % 4 = 0 && pimgLen h ≤ 262144 &&
  (if pimgLen h = 0 then leAt h 8 4 = 0 else leAt h 8 4 % 4 = 0 && leAt h 8 4 < pimgLen h) &&
  leAt h 12 2 ≤ 8 && leAt h 14 2 = 0 && allZero (slice h 20 44)

/-- Words of the code. -/
def codeWords (code : List Byte) : List W32 := (chunks 4 code).map (fun b => BitVec.ofNat 32 (leNat b))

def codeOk (code : List Byte) : Bool := (codeWords code).all (fun w => (sDecode w).isSome)

/-- The program of an image. -/
def progOf (h code : List Byte) : Prog :=
  { replay := byteAt h 1 % 2 = 1, entry := leAt h 8 4, ngrant := leAt h 12 2, check := BitVec.ofNat 32 (leAt h 16 4),
    code := codeWords code }

end Sys2Proof.Machine
end

