-- ==== Sys2Proof/Machine/Loads.lean ====
section
/-! DEFINITION. Image install, tier hints, the shared-region operations, the loads, MARK and FENCE
(spec/10_rings_and_operations.md R248, R249, R257, R268 to R270, spec/06_compression.md R152, R159, R160,
spec/09_tender_cores.md R227, spec/05_almanac.md R116, R117, spec/11_shared_regions.md R288, R291). -/

namespace Sys2Proof.Machine

open Host (Outcome)

/-! Image install. -/

/-- The image header keeps Table CMP-15. -/
def kimgOk (h : List Byte) : Bool :=
  byteAt h 0 = 0x10 && byteAt h 1 ≤ 16 && leAt h 2 2 = 0 && allZero (slice h 52 204)

/-- Slot and generation of TMAP entry i. -/
def tmapOf (h : List Byte) (i : Nat) : Nat × Nat := (byteAt h (16 + 2 * i), byteAt h (17 + 2 * i))

/-- Sector map entries of a record. -/
def recMap (m : List Byte) : List W128 := (chunks 16 m).map (fun b => BitVec.ofNat 128 (leNat b))

/-- The stored bytes of a block of a record. -/
def recBlock (area : List Byte) (e : SEnt) : List Byte := slice area (64 * e.start) (64 * sentSectors e)

/-- Present coded blocks of a record: block number, entry and header. -/
def recCoded (ents : List W128) (area : List Byte) : List (Nat × SEnt × BHdr) :=
  (ents.zipIdx).filterMap (fun x =>
    let e := sentOf x.1
    if e.len = 0 || e.len = 64 then none else some (x.2, e, hdrOf (recBlock area e)))

/-- The record keeps its layout: Tables CMP-16 and CMP-3, R136 and R137, and its TMAP entries are used. -/
def recOk (img hdr : List Byte) (ents : List W128) (area : List Byte) : Bool :=
  let n := leAt hdr 4 2
  1 ≤ n && n ≤ 1088 && allZero (slice hdr 12 52) && ents.all sentOk && sentChain ents 0 = some n &&
  (ents.zipIdx).all (fun x => (leAt hdr 6 2 / 2 ^ x.2 % 2 = 1) = ((sentOf x.1).len ≠ 0)) &&
  (recCoded ents area).all (fun x =>
    let h := x.2.2
    hdrOk h && h.mode = 0 && h.len = x.2.1.len && h.gen = 0 &&
    (h.slot = 0xFF || (h.slot < 16 && (tmapOf img h.slot).1 ≠ 0xFF)))

/-- A TMAP entry that a block names holds its slot's current generation. -/
def State.tmapLive (img : List Byte) (h : BHdr) (s : State) : Bool :=
  h.slot = 0xFF ||
  (let q := tmapOf img h.slot
   match (s.tslot q.1).cur with
   | some g => g.gen.toNat = q.2
   | none => false)

/-- The area with each header's SLOT and GEN replaced by its TMAP entry (R160). -/
def recArea (img : List Byte) (coded : List (Nat × SEnt × BHdr)) (area : List Byte) : List Byte :=
  coded.foldl (fun a x =>
    if x.2.2.slot = 0xFF then a
    else
      let q := tmapOf img x.2.2.slot
      (a.set (64 * x.2.1.start + 2) (BitVec.ofNat 8 q.1)).set (64 * x.2.1.start + 3) (BitVec.ofNat 8 q.2)) area

/-- The first block that fails its expansion under VERIFY. -/
def State.verifyRec (p : Nat) (ents : List W128) (area : List Byte) (s : State) : Option (Nat × Xp × Status) :=
  (ents.zipIdx).findSome? (fun x =>
    let e := sentOf x.1
    if e.len = 0 then none
    else
      let st := recBlock area e
      let r : Xp := if e.len = 64 then { res := checkVal e.check (st.take (4096 + appLen e.fmt e.lay)), tag := e.tag }
        else s.expandCoded (hdrOf st) st 0 e.len []
      match r.res with
      | .ok _ => none
      | .error c => some (16 * p + x.2, r, c))

/-- Install a checked record into plot p: its place, area, sector map, written lines and state (R138, R160). -/
def State.installRec (p base : Nat) (pool : Bool) (n : Nat) (ents : List W128) (area : List Byte) (s : State) : State :=
  let present := (ents.zipIdx).filter (fun x => (sentOf x.1).len ≠ 0)
  let lines := (present.map (fun x => (List.range 64).map (fun i => p * 1024 + x.2 * 64 + i))).flatten
  let s := s.keptDrop (fun b => b / 16 = p)
  (s.modTier (fun t => { t with
    area := mwrite (p * 131072) area (mclear (p * 131072) 131072 t.area),
    smap := (ents.zipIdx).foldl (fun m x => tset 0#128 (16 * p + x.2) x.1 m) t.smap, written := ninsAll lines t.written })).modPlot p
      (fun e => { e with st := .bulk, loc := base, units := ceilDiv n 64, pool := pool })

/-- What one record of an install comes to: a status, or none while its place waits for a move to Far (Tables CMP-17, TIR-9). -/
def installWork (o : Op) (img : List Byte) : Work (Option Status) := do
  let d := o.desc
  let base := dF d 48 8
  let at_ := dUa d 24 + o.recAt
  let s ← get
  Work.need (s.mapSrc o.tenant at_ 64) .permission
  let hdr ← o.unit.bytes at_ 64
  let n := leAt hdr 4 2
  let s ← get
  let p := s.resolvePlot o.tenant (base + leAt hdr 0 4)
  Work.need (s.mapSrc o.tenant at_ (64 * (5 + n)) && s.mapDst o.tenant (65536 * (base + leAt hdr 0 4)) 65536) .permission
  Work.need (match s.plot p with
    | some e => e.mode = .packed && e.st = .unwritten && !s.inSwin p
    | none => false) .permission
  Work.need (!(s.split && homeHalf p ≠ o.unit.half)) .poisonConsumed
  let via := s.viewOf (base + leAt hdr 0 4)
  if (match via with
      | some v => v.2.pinnedOld o.tenant
      | none => match s.bufferOf p with
        | some (_, g, b) => g.bufHeld b
        | none => false) then
    set (s.countWrdrop o.tenant)
    Work.fail .permission
  if s.viewHeld o.tenant (base + leAt hdr 0 4) || (homeHalf p ≠ o.unit.half && s.bridge.retraining) then Work.wait .other
  let map ← o.unit.bytes (at_ + 64) 256
  let area ← o.unit.bytes (at_ + 320) (64 * n)
  let s ← get
  let ents := recMap map
  let coded := recCoded ents area
  let q := ((s.plot p).getD {}).qtenant
  if !kimgOk img || !recOk img hdr ents area then pure (some .badDescriptor)
  else if (crc32c (map ++ area)).toNat ≠ leAt hdr 8 4 then pure (some .checkMismatch)
  else if coded.any (fun x => !s.tmapLive img x.2.2) then pure (some .tableRetired)
  else
    let area := recArea img coded area
    match (if dF d 58 1 / 4 = 1 then s.verifyRec p ents area else none) with
    | some (b, x, c) => do
      set (s.blockFail o.tenant 3 b x c)
      pure (some c)
    | none => match s.freeBulk (homeHalf p) (ceilDiv n 64), s.chargeBulk q (ceilDiv n 64) with
      | some b, some pool => do
        o.unit.charge p (n + 4)
        let s ← get
        set (s.tickFree.installRec p b pool n ents area)
        modify (fun s => s.modOp o.id (fun x => { x with installed := x.installed + 1, recAt := x.recAt + 64 * (5 + n) }))
        pure (some .ok)
      | _, _ =>
        if s.reliefRuns o.wait then Work.wait .other
        else match s.bulkRelief with
          | some (q, s) => do
            set (s.modOp o.id (fun x => { x with wait := some q }))
            pure none
          | none => pure (some .quota)

/-- IMAGE_INSTALL (R159, R160, R257): its next record, or its end. An install whose place waits for a move to Far goes on
when it is sent again (Table TIR-9). -/
def execImageInstall (op : Nat) (s : State) : Outcome State Fault Refusal :=
  .next (s.withOp op isImage (fun o s =>
    let fin (c : Status) (s : State) : State := s.modOp o.id (fun x => { x with done := some c, detail := x.installed % 65536 })
    let count := dF o.desc 32 4
    o.unit.run (do
      let img ← o.unit.bytes (dUa o.desc 16) 256
      if o.installed = count then pure (some (if kimgOk img then Status.ok else Status.badDescriptor))
      else installWork o img) (fun r s => match r with
      | .ok none => s
      | .ok (some .ok) =>
        if (match s.op o.id with | some x => decide (x.installed = count) | none => false) then fin .ok s else s
      | .ok (some c) => fin c s
      | .error c => fin c s) s))

/-! Tier hints (R268, Table TIR-8). -/

/-- Plots of a hint, as its tenant's accesses resolve them. -/
def State.hintPlots (o : Op) (s : State) : List Nat :=
  (rangePlots (dF o.desc 16 8) (dF o.desc 24 4)).map (fun p => s.resolvePlot o.tenant p)

/-- Carry a hint out on every plot of its range, once no view of them is under publication (R291); a plot across a bridge
that is down ends it, when the others' actions have ended, with POISON_CONSUMED (R14). -/
def State.hint (code : Nat) (op : Nat) (f : Op → Nat → State → State) (s : State) : State :=
  s.withOp op (fun d => dOp d = code) (fun o s =>
    if o.started || (rangePlots (dF o.desc 16 8) (dF o.desc 24 4)).any (fun p => s.viewHeld o.tenant p) then s
    else
      let ps := s.hintPlots o
      let far := ps.filter (fun p => s.split && homeHalf p ≠ tenantHalf o.tenant)
      let near := ps.filter (fun p => !far.contains p)
      let s := s.modOp op (fun x => { x with started := true, watch := ninsAll near [], cut := far ≠ [] })
      let s := forAll near (fun p s => (f o p s).settle p) s
      if near = [] then s.modOp op (fun x => { x with done := some .poisonConsumed, detail := 0 })
      else s)

/-- PROMOTE (R80, R268). -/
def execPromote (op : Nat) (s : State) : Outcome State Fault Refusal :=
  .next (s.hint 8 op (fun o p s => s.askClaim p o.tenant o.cls (.op o.id false)))

/-- DEMOTE (R80, R268): removes the tenant's claim, and with TOFAR moves the plot to the Far tier (Table ALM-6). -/
def execDemote (op : Nat) (s : State) : Outcome State Fault Refusal :=
  .next (s.hint 9 op (fun o p s =>
    let s := if dF o.desc 28 1 = 1 then s.wantFar p o.cls o.tenant else s
    s.removeClaim p o.tenant o.cls false))

/-- PIN (R86, R93). -/
def execPin (op : Nat) (s : State) : Outcome State Fault Refusal :=
  .next (s.hint 10 op (fun o p s => s.askClaim p o.tenant o.cls (.op o.id true)))

/-- UNPIN (R93). -/
def execUnpin (op : Nat) (s : State) : Outcome State Fault Refusal :=
  .next (s.hint 11 op (fun o p s => s.removePin p o.tenant o.cls false))

/-! Shared regions (R269, R288, R291). -/

/-- End a PUBLISH or ACQUIRE with the region's version: written to RES where WRES is set, whatever its status (R291), and its
low half in DETAIL. -/
def Op.endVersion (o : Op) (c : Status) (ver : W32) (s : State) : State :=
  o.run (do
    if dF o.desc 18 1 = 1 then o.unit.put (dUa o.desc 32) (leBytes 4 ver.toNat) else pure ()
    pure (c, if c = .ok || c = .staleVersion then ver.toNat % 65536 else 0)) s

/-- PUBLISH starts, waits for a publication in progress, or ends with the version it made. -/
def execPublish (op : Nat) (s : State) : Outcome State Fault Refusal :=
  .next (s.withOp op (fun d => dOp d = 12) (fun o s =>
    let r := dF o.desc 16 2
    let g := s.region r
    match o.res with
    | some v => o.endVersion .ok v s
    | none =>
      if o.started then s
      else if s.split then s.opDone op .poisonConsumed 0
      else if g.pub.isSome then s
      else if g.ver.toNat ≠ dF o.desc 20 4 then o.endVersion .staleVersion g.ver s
      else
        let b := if dUa o.desc 24 = 0 then none else g.bufAt (dUa o.desc 24)
        if (match b with | some b => g.bufHeld b | none => false) then o.endVersion .slotBusy g.ver s
        else
          let s := (s.modOp op (fun x => { x with started := true })).modRegion r (fun g => { g with
            pub := some { op := op, buf := b, ver := BitVec.ofNat 32 (dF o.desc 20 4 + 1) } })
          match b with
          | none => s.flipRegion r
          | some _ => s.startWalk (.publish op r) (fun p => g.inBuf g.cur p)
              (fun t => !g.pins.any (fun p => p.tenant = t && p.buf = g.cur))))

/-- The walk that an ACQUIRE or RELEASE needs: of the tenant's lines of another buffer that its pin names. -/
def State.pinWalk (why : WalkWhy) (t b : Nat) (g : Region) (s : State) : State :=
  s.startWalk why (fun p => g.inBuf b p) (fun u => u = t)

/-- ACQUIRE (R288). -/
def execAcquire (op : Nat) (s : State) : Outcome State Fault Refusal :=
  .next (s.withOp op (fun d => dOp d = 13) (fun o s =>
    let r := dF o.desc 16 2
    let g := s.region r
    match o.res with
    | some v => o.endVersion .ok v s
    | none =>
      if o.started then s
      else if s.split then s.opDone op .poisonConsumed 0
      else if g.pub.isSome then s
      else
        let s := s.modOp op (fun x => { x with started := true })
        match g.pins.find? (fun p => p.tenant = o.tenant && p.buf ≠ g.cur) with
        | some p => s.pinWalk (.acquire op r) o.tenant p.buf g
        | none => s.walkEnds (.acquire op r)))

/-- RELEASE (R288). -/
def execRelease (op : Nat) (s : State) : Outcome State Fault Refusal :=
  .next (s.withOp op (fun d => dOp d = 14) (fun o s =>
    let r := dF o.desc 16 2
    let g := s.region r
    if o.started then s
    else if s.split then s.opDone op .poisonConsumed 0
    else if g.pub.isSome then s
    else
      let s := s.modOp op (fun x => { x with started := true })
      match g.pins.find? (fun p => p.tenant = o.tenant && p.buf ≠ g.cur) with
      | some p => s.pinWalk (.release op r) o.tenant p.buf g
      | none => s.walkEnds (.release op r)))

/-! Decode tables (R149 to R152). -/

/-- Staged blocks bound to a generation of a slot (R150). -/
def State.boundTo (slot : Nat) (gen : Byte) (s : State) : Nat :=
  (s.fes.map (fun e => (e.2.staged.filter (fun b => b.bind = some (slot, gen))).length)).sum

/-- Unload a slot that holds a current generation (Table CMP-11). -/
def State.unloadTable (n : Nat) (s : State) : State :=
  let t := s.tslot n
  match t.cur with
  | none => s
  | some g => if s.boundTo n g.gen = 0 then s.setTslot n {} else s.setTslot n { t with cur := none, drain := some g }

/-- Commit an image into a slot for a tenant (Table CMP-11). -/
def State.loadTable (n t : Nat) (img : List Byte) (s : State) : State :=
  let k := s.tslot n
  let g : Gen := { gen := BitVec.ofNat 8 (byteAt img 1), check := tableCheck img, image := img }
  if imgNsub img = 0 then s.unloadTable n
  else match k.cur with
    | none => s.setTslot n { owner := t, cur := some g }
    | some c =>
      if c.gen = g.gen then s
      else s.setTslot n { k with cur := some g, drain := if s.boundTo n c.gen = 0 then none else some c }

/-- Outcomes of Table CMP-12 once the image is read; busy where another load into the slot runs. -/
def State.tableStatus (n t : Nat) (img : List Byte) (busy : Bool) (s : State) : Status :=
  let k := s.tslot n
  let free := k.cur.isNone && k.drain.isNone
  if !free && k.owner ≠ t then .permission
  else if n = 255 || !tableImageOk img || (imgNsub img = 0 && free) then .badDescriptor
  else if !tableCheckOk img then .checkMismatch
  else if imgNsub img ≠ 0 && (match k.cur with
      | some c => c.gen.toNat = byteAt img 1 && c.check ≠ tableCheck img
      | none => false) then .badDescriptor
  else if busy || k.drain.isSome then .slotBusy
  else .ok

/-- Another load of the same kind into a slot has begun and not ended (Tables CMP-12, TND-9). -/
def State.otherLoad (op code slot : Nat) (s : State) : Bool :=
  s.ops.any (fun o => o.id ≠ op && dOp o.desc = code && dF o.desc 24 2 = slot && o.started && o.done.isNone)

/-- TABLE_LOAD (R152): a read of the image that fails gives POISON_CONSUMED. -/
def execTableLoad (op : Nat) (s : State) : Outcome State Fault Refusal :=
  .next (s.withOp op (fun d => dOp d = 15) (fun o s =>
    let n := dF o.desc 24 1
    let s := s.modOp op (fun x => { x with started := true })
    if s.split then s.opDone op .poisonConsumed 0
    else o.unit.run (o.unit.bytes (dUa o.desc 16) 4096) (fun r s => match r with
      | .error _ => s.opDone op .poisonConsumed 0
      | .ok img =>
        let c := s.tableStatus n o.tenant img (s.otherLoad op 15 (dF o.desc 24 2))
        (if c = .ok then s.loadTable n o.tenant img else s).opDone op c 0) s))

/-! Program slots (R225 to R227). -/

def State.jobsOn (slot : Nat) (old : Bool) (s : State) : Nat := (s.jobs.filter (fun j => j.slot = slot && j.old = old)).length

/-- The current image of a slot gives way to another, or to none: it stays as the old one for jobs bound to it
(Table TND-8). -/
def State.replaceProg (n t : Nat) (g : Option Prog) (s : State) : State :=
  let k := s.pslot n
  let bound := s.jobsOn n false > 0
  let s := { s with jobs := mapIf (fun j => decide (j.slot = n)) (fun j => { j with old := true }) s.jobs }
  if g.isNone && !bound then s.setPslot n {}
  else s.setPslot n { owner := if k.cur.isNone then t else k.owner, cur := g, old := if bound then k.cur else none }

/-- Outcomes of Table TND-9 once the image is read; code is its CODELEN bytes; busy where another load into the slot runs. -/
def State.progStatus (n t ua : Nat) (h code : List Byte) (busy : Bool) (s : State) : Status :=
  let k := s.pslot n
  let free := k.cur.isNone && k.old.isNone
  if (!free && k.owner ≠ t) || !s.mapSrc t ua (64 + pimgLen h) then .permission
  else if n ≥ 1008 || !pimgHeadOk h || !codeOk code || (pimgLen h = 0 && free) then .badDescriptor
  else if (crc32c code).toNat ≠ leAt h 16 4 then .checkMismatch
  else if busy || k.old.isSome then .slotBusy
  else .ok

/-- PROGRAM_LOAD (R227). -/
def execProgramLoad (op : Nat) (s : State) : Outcome State Fault Refusal :=
  .next (s.withOp op (fun d => dOp d = 16) (fun o s =>
    let n := dF o.desc 24 2
    let ua := dUa o.desc 16
    let s := s.modOp op (fun x => { x with started := true })
    if s.split then s.opDone op .poisonConsumed 0
    else o.unit.run (do
      let h ← o.unit.bytes ua 64
      let s ← get
      let code ← (if pimgHeadOk h && s.mapSrc o.tenant ua (64 + pimgLen h) then o.unit.bytes (ua + 64) (pimgLen h) else pure [])
      pure (h, code)) (fun r s => match r with
      | .error _ => s.opDone op .poisonConsumed 0
      | .ok (h, code) =>
        let c := s.progStatus n o.tenant ua h code (s.otherLoad op 16 n)
        (if c = .ok then s.replaceProg n o.tenant (if pimgLen h = 0 then none else some (progOf h code)) else s).opDone op c 0) s))

/-! Calendars (R116, R117, Table ALM-7). -/

/-- ALMANAC_LOAD: a load into a free calendar, or an unload or replacement between batches, commits at once; another
waits for its batch (ALMANAC_LOAD_COMMIT). -/
def execAlmanacLoad (op : Nat) (s : State) : Outcome State Fault Refusal :=
  .next (s.withOp op (fun d => dOp d = 17) (fun o s =>
    let n := dF o.desc 24 2
    let ua := dUa o.desc 16
    if o.started then s
    else o.unit.run (do
      let h ← o.unit.bytes ua 64
      let s ← get
      let rest ← (if s.mapSrc o.tenant ua (aimgLen h) then o.unit.bytes (ua + 64) (aimgLen h - 64) else pure [])
      pure (h ++ rest)) (fun r s => match r with
      | .error c => s.opDone op c 0
      | .ok b =>
        let c := s.loadCheck n o.tenant ua b
        if c ≠ .ok then s.opDone op c 0
        else if s.split && calHalf n ≠ tenantHalf o.tenant then s.opDone op .poisonConsumed 0
        else match s.cal n with
          | none => (s.commitCal n o.tenant b).opDone op .ok 0
          | some k => (s.setCal n { k with loading := some (op, b) }).modOp op (fun x => { x with started := true })) s))

/-! MARK and FENCE. -/

/-- MARK (R107, R108, R249, R270): it is the acceptance's own effect, and its ring takes nothing more before it. A mark
that is sent completes its descriptor when it reaches its cursor's half (R110). -/
def execMark (op : Nat) (s : State) : Outcome State Fault Refusal :=
  .next (s.withOp op (fun d => dOp d = 18) (fun o s =>
    if o.started then s
    else match s.sendMark (tenantHalf o.tenant) (some op) (dF o.desc 20 2) o.tenant (BitVec.ofNat 32 (dF o.desc 16 4)) with
      | (.ok, s) => s.modOp op (fun x => { x with started := true })
      | (c, s) => s.opDone op c 0))

/-- FENCE (R248). -/
def execFence (op : Nat) (s : State) : Outcome State Fault Refusal :=
  .next (s.withOp op (fun d => dOp d = 19) (fun o s =>
    if s.ops.any (fun x => x.tenant = o.tenant && x.id < o.id && (x.ring = o.ring || dF o.desc 16 1 = 1)) then s
    else s.opDone op .ok 0))

end Sys2Proof.Machine
end

