-- ==== Sys2Proof/Machine/Regulate.lean ====
section
/-! DEFINITION. Weir windows, urgency and the arbiters (spec/12_regulation.md R302 to R314). -/

namespace Sys2Proof.Machine

open Host (Outcome)

/-- Settings of a tenant's Weirs as its registers hold them (R311). -/
def State.loadWeir (t : Nat) (h : Hg) (s : State) : Hg :=
  let w := s.stw (Reg.HGT_WCFG + 4 * t)
  { h with win := min 10 (bits 3 0 w), mode := BitVec.ofNat 8 (bits 15 8 w),
           bud := (List.range 8).foldl (fun b c => tset 0 c (s.stwF (Reg.HGT_WBUD + 4 * (8 * t + c)) 25 0) b) [] }

/-- WEIR_WINDOW_BOUNDARY (R306, R309, R311, R316): at a multiple of the window's length. -/
def execWeirWindowBoundary (t : Tenant) (s : State) : Outcome State Fault Refusal :=
  let n := t.toNat
  let h := s.hgOf n
  if s.clk.us % 2 ^ h.win ≠ 0 then .next s
  else
    let s := s.setHg n { s.loadWeir n h with used := [], maxPrev := h.maxCur, maxCur := [], heldPrev := h.heldCur, heldCur := [] }
    .next (s.admitAll n)

/-- WEIR_CONFIG_WRITE (R311): a budget of a class, or the window and the modes; in force from the next boundary. -/
def execWeirConfigWrite (t : Tenant) (budget : Option ClassL) (v : W32) (s : State) : Outcome State Fault Refusal :=
  match budget with
  | some c => .next (s.setStw (Reg.HGT_WBUD + 4 * (8 * t.toNat + c.toNat)) (v &&& 0x3FFFFFF#32))
  | none => .next (s.setStw (Reg.HGT_WCFG + 4 * t.toNat) (setBits 3 0 (min 10 (bits 3 0 v)) (v &&& 0xFF0F#32)))

/-- URGENCY_PIN_SETTLE (R313): the new value of a head's pins counts. -/
def execUrgencyPinSettle (p : PortId) (level : BitVec 2) (s : State) : Outcome State Fault Refusal :=
  .next { s with pins := { s.pins with urg := tset 0#2 p.toNat level s.pins.urg } }

/-- UIB_WRITE (R314). -/
def execUibWrite (t : Tenant) (v : W32) (s : State) : Outcome State Fault Refusal :=
  .next ((s.setBar t.toNat Reg.HGT_UIB (v &&& 0xFFFF0003#32)).modHg t.toNat (fun h => { h with uib := BitVec.ofNat 2 (bits 1 0 v) }))

/-- The in-band level returns to 0. -/
def State.dropUib (t : Nat) (s : State) : State :=
  (s.modBar t Reg.HGT_UIB (setBits 1 0 0)).modHg t (fun h => { h with uib := 0#2 })

/-- UIB_HOLD_EXPIRE (R314): only while HOLD is not 0. -/
def execUibHoldExpire (t : Tenant) (s : State) : Outcome State Fault Refusal :=
  .next (if s.barF t.toNat Reg.HGT_UIB 31 16 = 0 then s else s.dropUib t.toNat)

/-! Arbiters (Table HGT-4). -/

/-- The arbiter orders equal steps by its own rule: R198, R219, R244. -/
def arbOwn : Arb → Bool
  | .tileStart _ => true
  | .dispatch _ => true
  | .slots => true
  | _ => false

def arbHead : Arb → Bool
  | .headgate _ => true
  | _ => false

/-- Priority of an item now. -/
def State.itemPrio (i : Item) (s : State) : Int := s.prio i.tenant.toNat i.cls.toNat i.stamp i.demoted i.unlabelled

/-- Item i is served before item j (R303). The numbers of the items of R198, R219 and R244 run in the order that those rules
give among equal steps. -/
def State.itemBefore (a : Arb) (i j : Item) (s : State) : Bool :=
  let p := s.itemPrio i
  let q := s.itemPrio j
  if p ≠ q then p > q
  else if arbHead a && p ≥ 0 && i.movement ≠ j.movement then j.movement
  else if arbOwn a && p ≥ 0 then i.id < j.id
  else if i.stamp ≠ j.stamp then i.stamp < j.stamp
  else if i.tenant = j.tenant then i.id < j.id
  else i.tenant.toNat < j.tenant.toNat

def State.arbQueue (a : Arb) (s : State) : List Item :=
  match s.arb.find? (fun e => e.1 = a) with
  | some e => e.2
  | none => []

def State.setArb (a : Arb) (l : List Item) (s : State) : State :=
  let r := s.arb.filter (fun e => e.1 ≠ a)
  { s with arb := if l = [] then r else r ++ [(a, l)] }

/-- The items that arrive at an arbiter of Table HGT-4 join, and the best of those waiting is served (R303). -/
def State.arbServe (a : Arb) (arrive : List Item) (s : State) : State :=
  let l := s.arbQueue a ++ arrive
  match l.foldl (fun b i => match b with
      | none => some i
      | some j => if s.itemBefore a i j then some i else some j) none with
  | none => s
  | some w => (s.setArb a (l.erase w)).emit (.granted a w.id)

/-- ARBITER_SERVE (R302, R303; R349 at a Cistern bank's ports). -/
def execArbiterServe (a : Arb) (arrive : List Item) (s : State) : Outcome State Fault Refusal :=
  .next (match a with
    | .cistern b l => s.portCycle b l
    | a => s.arbServe a arrive)

end Sys2Proof.Machine
end

