-- ==== Sys2Proof/Machine/Flume.lean ====
section
/-! DEFINITION. Flume engines: EXPERT jobs, tiles and chains, post-operations, sampled duplicate execution and fencing
(spec/08_flume_engines.md, spec/09_tender_cores.md R228 to R230, spec/10_rings_and_operations.md R262 to R264). -/

namespace Sys2Proof.Machine

open Host (Outcome)

/-! Functions of FP32 that the spec bounds (R187, R211; log 9). -/

def fNan : W32 := 0x7FC00000#32

def fExp (x : W32) : W32 :=
  match f32 x with
  | .nan => fNan
  | .inf n => if n then 0#32 else 0x7F800000#32
  | .fin n m e => within2 (Config.expUlp x) (expRnd n m e)

def fTanh (x : W32) : W32 :=
  match f32 x with
  | .nan => fNan
  | .inf n => if n then 0xBF800000#32 else 0x3F800000#32
  | .fin n m e => within2 (Config.tanhUlp x) (tanhRnd n m e)

/-- The correctly rounded reciprocal, moved by at most 2 units in the last place. -/
def fRcp (x : W32) : W32 :=
  let r := toF32 (divN (.fin false 1 0) (f32 x))
  match f32 x with
  | .fin _ m _ => if m = 0 then r else within2 (Config.rcpUlp x) r
  | _ => r

/-- Activation functions (Table FLE-3). -/
def actFn (fn : Nat) (x : W32) : W32 :=
  match f32 x with
  | .nan => fNan
  | .inf n =>
    if fn = 0 then x else if !n then x else if fn = 1 then 0#32 else 0x80000000#32
  | .fin n m e =>
    if fn = 0 then x
    else if fn = 1 then (if n || m = 0 then 0#32 else x)
    else if fn = 2 then within2 (Config.siluUlp x) (siluRnd n m e) else within2 (Config.geluUlp x) (geluRnd n m e)

/-- A factor of an EPB; +0 stands for 1.0 (Table DSC-13). -/
def factor (f : W32) : W32 := if f = 0#32 then 0x3F800000#32 else f

/-- The gated or plain activation of R186 and R231. -/
def upPost (fn : Nat) (gated : Bool) (f1 f3 a0 a1 : W32) : W32 :=
  let g := actFn fn (fmul f1 a0)
  if gated then fmul g (fmul f3 a1) else g

/-! Chains (R183, R184). -/

/-- Exact sum of exact products, rounded once. -/
def groupSum (l : List (W32 × W32)) : W32 :=
  match l.map (fun p => mulN (f32 p.1) (f32 p.2)) with
  | [] => 0#32
  | x :: r => toF32 (r.foldl addN x)

/-- Column n of a run of weight rows, taken onto an accumulator. -/
def chainSum (a : List W32) (w : List (List W32)) (n : Nat) (acc : W32) : W32 :=
  (chunks 32 (a.zip w)).foldl (fun acc g => fadd acc (groupSum (g.map (fun p => (p.1, (p.2[n]?).getD 0#32))))) acc

/-! Tiles (R178, R179, R182). -/

/-- Eight times k_c of a format byte (Table FLE-1). -/
def kc8 (fmt : Nat) : Nat :=
  let c := fmt / 16
  if c = 0 then 1 else if c = 1 || c = 2 then 4 else if c = 3 || c = 4 || c = 8 then 8 else 16

/-- Where a grain's work stands: strips left, whether the gate chain is done, and k. -/
abbrev FPos := List Strip × Bool × Nat

def allStrips (e : Epb) : List Strip :=
  (List.range (e.n / 64)).map (fun i => { down := false, index := i }) ++ (List.range (e.outw / 64)).map (fun i => { down := true, index := i })

/-- Weight tensor, reduction width and activation format of a strip's chain. -/
def Epb.chain (e : Epb) (w : EpbEnt) (st : Strip) (second : Bool) : Nat × Nat × Nat :=
  if st.down then (w.down, e.n, e.ifmt) else (if second then w.up else w.gate, e.k, e.afmt)

/-- The k at which the tile from k ends: half of the longest that R182 allows (log 20). -/
def Epb.tileEnd (e : Epb) (w : EpbEnt) (st : Strip) (second : Bool) (k : Nat) : Nat :=
  let c := e.chain w st second
  min c.2.1 (k + 1024 * min (kc8 e.wfmt) (kc8 c.2.2))

/-- The position after the tile at a position. -/
def Epb.step (e : Epb) (w : EpbEnt) (p : FPos) : FPos :=
  match p with
  | ([], _, _) => ([], false, 0)
  | (st :: r, sec, k) =>
    let n := e.tileEnd w st sec k
    if n < (e.chain w st sec).2.1 then (st :: r, sec, n)
    else if !st.down && e.gated && !sec then (st :: r, true, 0) else (r, false, 0)

/-- Blocks, by UA ÷ 4,096, of the tile at a position (R179). -/
def Epb.blocks (e : Epb) (w : EpbEnt) (p : FPos) : List Nat :=
  match p with
  | ([], _, _) => []
  | (st :: _, sec, k) =>
    let c := e.chain w st sec
    let r := rowsPer (e.wfmt / 16)
    let n := e.tileEnd w st sec k
    (List.range ((n - 1) / r - k / r + 1)).map (fun j => c.1 / 4096 + st.index * ceilDiv c.2.1 r + k / r + j)

/-- Blocks of the next n tiles. -/
def Epb.ahead (e : Epb) (w : EpbEnt) : Nat → FPos → List Nat
  | 0, _ => []
  | n + 1, p => e.blocks w p ++ e.ahead w n (e.step w p)

/-- Eighths of cycles that the chains of a position still take (R178). -/
def Epb.cycles (e : Epb) (w : EpbEnt) (p : FPos) : Nat :=
  match p with
  | ([], _, _) => 0
  | (st :: r, sec, k) =>
    let all (x : Strip) : Nat := (if !x.down && e.gated then 2 else 1) * (64 * (e.chain w x false).2.1 / min (kc8 e.wfmt) (kc8 (e.chain w x false).2.2))
    let one (n : Nat) : Nat := 64 * n / min (kc8 e.wfmt) (kc8 (e.chain w st sec).2.2)
    one ((e.chain w st sec).2.1 - k) + (if !st.down && e.gated && !sec then one e.k else 0) + (r.map all).sum

def FGrain.pos (g : FGrain) : FPos := (g.strips, g.second, g.k)

/-- Parameters of a grain's job and of its expert. -/
def State.epbFor (g : FGrain) (s : State) : Option (Epb × EpbEnt) := (s.op g.op).map (fun o => (epbOf o.param, epbEnt o.param g.expert))

/-- The ranges of a grain's operands that its tenant maps with ENC (R399). -/
def State.grainEncs (g : FGrain) (s : State) : List (Nat × Nat × Nat) := match s.op g.op with
  | some o => o.encs
  | none => []

/-- A weight block's number behind a view (R280). -/
def State.wblock (t b : Nat) (s : State) : Nat := 16 * s.resolvePlot t (b / 16) + b % 16

/-- Every block of an expert's weights. -/
def Epb.tensorBlocks (e : Epb) (w : EpbEnt) : List Nat :=
  let t (base k n : Nat) : List Nat := (List.range (n / 64 * ceilDiv k (rowsPer (e.wfmt / 16)))).map (fun j => base / 4096 + j)
  t w.gate e.k e.n ++ (if e.gated then t w.up e.k e.n else []) ++ t w.down e.n e.outw

/-! Placing grains (R22, R198). -/

def State.feServing (s : State) : List Nat := (List.range 16).filter (fun n => (s.fe n).ctl.st = .inService)

/-- Cycles queued on an engine. -/
def State.queued (fe : Nat) (s : State) : Nat :=
  ((s.fe fe).grains.map (fun g => match s.epbFor g with
    | some (e, w) => e.cycles w g.pos
    | none => 0)).sum

/-- The engine of a list that R198 chooses for a grain of these blocks. -/
def State.chooseFe (l : List Nat) (blocks : List Nat) (s : State) : Option Nat :=
  let better (a b : Nat) : Bool :=
    let x := s.stagedOf a blocks
    let y := s.stagedOf b blocks
    x > y || (x = y && s.queued a < s.queued b)
  l.foldl (fun best n => match best with
    | none => some n
    | some b => if better n b then some n else some b) none

/-- The half that holds more of an expert's compressed bytes; ties go to the port's half (R22). -/
def State.weightHalf (t : Nat) (blocks : List Nat) (s : State) : Half :=
  let on (h : Half) : Nat := (blocks.map (fun b => if homeHalf (b / 16) = h then s.stagedBytes b else 0)).sum
  if on .north > on .south then .north else if on .south > on .north then .south else tenantHalf t

/-- The engine for an expert's row tile. -/
def State.placeGrain (t : Nat) (blocks : List Nat) (s : State) : Option Nat :=
  let h := s.weightHalf t blocks
  match s.chooseFe (s.feServing.filter (fun n => feHalf n = h)) blocks with
  | some n => some n
  | none => s.chooseFe s.feServing blocks

def State.modFgrain (fe id : Nat) (f : FGrain → FGrain) (s : State) : State :=
  s.modFe fe (fun e => { e with grains := mapIf (fun g => decide (g.id = id)) f e.grains })

/-- A grain leaves its engine, and its work banks go back to the pool (R345). -/
def State.endFgrain (fe : Nat) (g : FGrain) (s : State) : State :=
  let s := s.modFe fe (fun e => { e with
    grains := e.grains.filter (fun x => x.id ≠ g.id), aob := e.aob.filter (fun i => i ≠ g.id), tile := e.tile.filter (fun t => t.grain ≠ g.id) })
  forAll g.banks (fun b s => s.returnBank b) s

/-! Routing (R228, R229, R263). -/

/-- a before b in descending order of value, a NaN counting as −infinity, ties to the lower index. -/
def logitBefore (a b : Nat × W32) : Bool :=
  let v (x : W32) : Num := match f32 x with
    | .nan => .inf true
    | y => y
  match cmpN (v a.2) (v b.2) with
  | some c => c > 0 || (c = 0 && a.1 < b.1)
  | none => false

/-- Insertion into an ordered list. -/
def insertBy {α : Type} (lt : α → α → Bool) (x : α) : List α → List α
  | [] => [x]
  | y :: r => if lt y x then y :: insertBy lt x r else x :: y :: r

def sortBy {α : Type} (lt : α → α → Bool) (l : List α) : List α := l.foldr (insertBy lt) []

/-- Terms of a softmax over a list, less the largest logit. -/
def softTerms (l : List (Nat × W32)) : List (Nat × W32) :=
  match sortBy logitBefore l with
  | [] => []
  | m :: _ => l.map (fun e => (e.1, fExp (fsub e.2 m.2)))

/-- A token's list from its logits (R228): experts in descending gate weight. -/
def topk (norm k : Nat) (logits : List W32) : Route :=
  let all := (logits.zipIdx).map (fun e => (e.2, match f32 e.1 with
    | .nan => 0xFF800000#32
    | _ => e.1))
  let sel := sortBy (fun a b => a.1 < b.1) ((sortBy logitBefore all).take k)
  let soft (l : List (Nat × W32)) : Route :=
    let ts := softTerms l
    let r := fRcp (ts.foldl (fun a e => fadd a e.2) 0#32)
    (ts.filter (fun e => sel.any (fun x => x.1 = e.1))).map (fun e => (e.1, fmul e.2 r))
  let ws := if norm = 0 then soft sel
    else if norm = 1 then soft all
    else sel.map (fun e => (e.1, fRcp (fadd 0x3F800000#32 (fExp (e.2 ^^^ 0x80000000#32)))))
  sortBy (fun a b => match cmpN (f32 a.2) (f32 b.2) with
    | some c => c > 0 || (c = 0 && a.1 < b.1)
    | none => a.1 < b.1) ws

/-- A list of R263 is valid: experts below NEXP, none twice. -/
def routeOk (nexp : Nat) (r : Route) : Bool :=
  r.all (fun e => e.1 < nexp) && (r.zipIdx).all (fun e => !(r.drop (e.2 + 1)).any (fun x => x.1 = e.1.1))

/-- The routing of every token: given, or found by TOPK. A given entry with a bit of [31:16] set names no expert (R6, R263). -/
def routesOf (o : Op) (u : Acc) : Work (List Route) := do
  let d := o.desc
  let k := dF d 55 1 + 1
  let nexp := dF d 50 2
  (List.range (dF d 48 2)).mapM (fun t => do
    if dF d 54 1 % 2 = 1 then do
      let b ← u.bytes (dUa d 32 + 8 * k * t) (8 * k)
      pure ((List.range k).map (fun i => (leAt b (8 * i) 4, BitVec.ofNat 32 (leAt b (8 * i + 4) 4))))
    else do
      let b ← u.bytes (dUa d 32 + 4 * nexp * t) (4 * nexp)
      pure (topk (dF d 54 1 / 2 % 4) k ((List.range nexp).map (fun i => BitVec.ofNat 32 (leAt b (4 * i) 4)))))

/-! Blocks in work banks (R188 to R191, Table FLE-4). -/

/-- The output header of a block with a format byte and a tensor tag over its expanded contents. -/
def outHdr (fe fmt tag : Nat) (body : List Byte) : List Byte :=
  [0x1C#8, BitVec.ofNat 8 fmt, 0xFF#8, 0#8, 64#8] ++ leBytes 2 body.length ++ [BitVec.ofNat 8 fe] ++ leBytes 4 (crc32c body).toNat ++ leBytes 4 tag

/-- A block of element codes and, with layout 1, their scales, padded with elements of code 0 and the scale of a group of
zeros (R171, R180). -/
def outBlock (fe fmt tag : Nat) (codes : List Nat) (scales : List Byte) : OutBlk :=
  let c := fmt / 16
  let pad := if fmt % 16 = 1 then List.replicate (groupsOf c - scales.length) 0x7F#8 else []
  let body := packBits (fmtBits c) 4096 codes ++ scales ++ pad
  { hdr := outHdr fe fmt tag body, body := body }

/-- Row-major element codes and their scales, cut into blocks (R180). -/
def outBlocks (fe fmt tag : Nat) (codes : List Nat) (scales : List Byte) : List OutBlk :=
  let e := blockElems (fmt / 16)
  ((chunks e codes).zipIdx).map (fun x => outBlock fe fmt tag x.1 ((scales.drop (e / 32 * x.2)).take (e / 32)))

/-- Element codes and scale bytes that a run of blocks of a format byte holds, up to n elements. -/
def outCodes (fmt n : Nat) (l : List OutBlk) : List Nat × List Byte :=
  let c := fmt / 16
  (((l.map (fun b => unpackBits (fmtBits c) (blockElems c) b.body)).flatten).take n,
    if fmt % 16 = 1 then ((l.map (fun b => b.body.drop 4096)).flatten).take (n / 32) else [])

/-- What a consumer makes of a block: the status of its failure, or its values as FP32 (R148, R169, R191). -/
def OutBlk.values (b : OutBlk) : Except Status (List W32) :=
  let h := hdrOf b.hdr
  if h.xlen < b.body.length then .error .expandOverrun
  else if h.ver ≠ 1 || h.mode ≠ 3 || h.slot ≠ 0xFF || h.gen ≠ 0 || h.len ≠ 64 || !layOk h.fmt h.lay || b.body.length < h.xlen then
    .error .expandUnderrun
  else if (crc32c b.body).toNat ≠ h.check then .error .checkMismatch
  else .ok (decBlock h.fmt h.lay (b.body.take 4096) (b.body.drop 4096))

/-- Values of a run of blocks, or the first failure with its tensor tag. -/
def outValues : List OutBlk → Except (Status × Nat) (List W32)
  | [] => .ok []
  | b :: r => match b.values, outValues r with
    | .error c, _ => .error (c, (hdrOf b.hdr).tag)
    | .ok _, .error c => .error c
    | .ok v, .ok w => .ok (v ++ w)

/-- Two outputs of a strip agree bit for bit, apart from ENGINE (R203). -/
def sameOut (a b : List OutBlk) : Bool :=
  a.map (fun x => (x.hdr.take 7, x.hdr.drop 8, x.body)) = b.map (fun x => (x.hdr.take 7, x.hdr.drop 8, x.body))

/-- A failing block of work banks is counted and logged as one that names no table and lies at no UA (R154; DESIGN CHOICE,
log 47). -/
def State.outFail (t row : Nat) (c : Status × Nat) (s : State) : State := s.blockFail t row 0 { res := .error c.1, idx := 256, tag := c.2 } c.1

/-- Input blocks of a row tile from its rows' values, in an operand format; blk is the number of the first (R180, R190, R229).
Their TAG is 0: the spec gives none to blocks of other units than engines (DESIGN CHOICE, log 47). -/
def actBlocks (fmt : Nat) (r : Rnd) (blk : Nat) (v : List W32) : List OutBlk × Cnts :=
  let c := fmt / 16
  let l := ((chunks (blockElems c) v).zipIdx).map (fun e =>
    let q := encVals c (fmt % 16) r (blk + e.2) 0 (padBlock c e.1)
    (outBlock 0 fmt 0 q.1 q.2.1, q.2.2))
  (l.map Prod.fst, (l.map Prod.snd).foldl Cnts.add {})

/-- The tokens of an expert. -/
def tokensOf (routes : List Route) (x : Nat) : List Nat :=
  ((routes.zipIdx).filter (fun e => e.1.any (fun r => r.1 = x))).map Prod.snd

/-- Row tiles of a job in activation order: expert, tokens, first block number (R181, R190). -/
def rowTiles (e : Epb) (nexp : Nat) (routes : List Route) : List (Nat × List Nat × Nat) :=
  let m := min (mMax e.afmt e.k) (mMax e.ifmt e.n)
  let l := ((List.range nexp).map (fun x => (chunks m (tokensOf routes x)).map (fun r => (x, r)))).flatten
  (l.foldl (fun (acc : List (Nat × List Nat × Nat) × Nat) y =>
    let n := blocksOf (e.afmt / 16) (y.2.length * e.k) + blocksOf (e.ifmt / 16) (y.2.length * e.n)
    (acc.1 ++ [(y.1, y.2, acc.2)], acc.2 + n)) ([], 0)).1

/-- Bytes of a row of inputs as FP32 (Table DSC-11, ACTIN). -/
def actRow (code : Nat) (b : List Byte) (k : Nat) : List W32 :=
  (List.range k).map (fun i => if code = 0 then BitVec.ofNat 32 (leAt b (4 * i) 4) else bf16to32 (leAt b (2 * i) 2))

/-- A unit on a half reaches work banks on another: not over a bridge that is down, and later while it retrains (R14, R15). -/
def Acc.reach (u : Acc) (h : Half) : Work Unit := do
  let s ← get
  if h = u.half then pure ()
  else if s.split then Work.fail .poisonConsumed
  else if s.bridge.retraining then Work.wait .bridge
  else pure ()

/-- ROUTE: the grains of a job, each on its engine (R198, R229); the status with which a job ends before any grain starts. -/
def routeWork (o : Op) (u : Acc) : Work (Except Status (List Route)) := do
  let d := o.desc
  let e := epbOf o.param
  let routes ← routesOf o u
  if !routes.all (routeOk (dF d 50 2)) then pure (.error .badDescriptor)
  else
    let code := dF d 52 1 / 16
    let w := e.k * (fmtBits code / 8)
    (rowTiles e (dF d 50 2) routes).forM (fun t => do
      let rows ← t.2.1.mapM (fun i => do
        let b ← u.bytes (dUa d 24 + w * i) w
        pure (actRow code b e.k))
      let q := actBlocks e.afmt o.rnd t.2.2 rows.flatten
      modify (fun s => s.countCnts o.tenant q.2)
      let s ← get
      let blocks := (e.tensorBlocks (epbEnt o.param t.1)).map (fun b => s.wblock o.tenant b)
      match s.placeGrain o.tenant blocks with
      | none => pure ()
      | some fe => do
        u.reach (feHalf fe)
        modify (fun s => { s.modFe fe (fun x => { x with grains := x.grains ++ [{
          id := s.nextGrain, op := o.id, tenant := o.tenant, cls := o.cls, expert := t.1, rows := t.2.1, fe := fe,
          strips := allStrips e, inp := q.1, blk := t.2.2, stamp := s.now }] }) with nextGrain := s.nextGrain + 1 }))
    pure (.ok routes)

/-- An expert's result for token t: its columns, strip by strip, from verified result blocks (R189, R191). -/
def XJob.row (j : XJob) (t x n : Nat) : List W32 :=
  ((List.range (n / 64)).map (fun i =>
    match j.results.find? (fun b => b.expert = x && b.strip = i && b.rows.contains t) with
    | some b => match b.blk.values with
      | .ok v => (v.drop (64 * b.rows.findIdx (fun y => y = t))).take 64
      | .error _ => List.replicate 64 0#32
    | none => List.replicate 64 0#32)).flatten

/-- The first result block of a job that fails its check. -/
def XJob.failed (j : XJob) : Option (Status × Nat) :=
  j.results.findSome? (fun b => match b.blk.values with
    | .error c => some (c, (hdrOf b.blk.hdr).tag)
    | .ok _ => none)

/-- COMBINE (R230): every result block is verified before a row is written. A narrowing's blk and idx are the running number of
the output element divided by, and modulo, 2,048: R230 cuts no output blocks (DESIGN CHOICE, log 89). -/
def combineWork (o : Op) (j : XJob) (u : Acc) : Work (Status × Nat) := do
  let d := o.desc
  let n := (epbOf o.param).outw
  j.results.forM (fun b => u.reach (feHalf (byteAt b.blk.hdr 7 % 16)))
  match j.failed with
  | some c => do
    modify (fun s => s.outFail o.tenant 1 c)
    pure (c.1, 0)
  | none => do
    ((j.routes.zipIdx).forM (fun r => do
      let y := r.1.foldl (fun acc x => (acc.zip ((j.row r.2 x.1 n))).map (fun p => fadd p.1 (fmul x.2 p.2))) (List.replicate n 0#32)
      let qs := (y.zipIdx).map (fun x => encElem 1 false (o.rnd.at ((r.2 * n + x.2) / 2048) ((r.2 * n + x.2) % 2048)) o.sat (f32 x.1))
      modify (fun s => s.countCnts o.tenant (qs.foldl (fun c q => c.add q.2) {}))
      u.put (dUa d 40 + 2 * n * r.2) ((qs.map (fun q => leBytes 2 q.1)).flatten)))
    pure (.ok, j.experts)

/-- EXPERT (R22, R228 to R230, R262 to R264): routes and starts the job's grains; sent again once JC0 counts every down
strip, it combines their results. Its core grain is resident from the first to the last (R216, R220). -/
def execExpert (op : Nat) (s : State) : Outcome State Fault Refusal :=
  .next (s.withOp op (fun d => dOp d = 6) (fun o s =>
    if !s.tcUp || !s.feUp then s.kernelEnd o .fencedUnit 0
    else match s.xjob o.id with
      | some j => if j.jc0 < j.strips then s else s.kernel o none (combineWork o j)
      | none => s.kernelRun o none (routeWork o) (fun r s => match r with
        | .error c => s.kernelEnd o c 0
        | .ok routes =>
          let e := epbOf o.param
          let tiles := rowTiles e (dF o.desc 50 2) routes
          let used := ((List.range (dF o.desc 50 2)).filter (fun x => tokensOf routes x ≠ [])).length
          let j : XJob := { op := o.id, routes := routes, results := [], strips := tiles.length * (e.outw / 64), experts := used }
          { s.modOp o.id (fun x => { x with started := true }) with xjobs := s.xjobs ++ [j] })))

/-! Fetching weight blocks (R74, R96, R97, R194, R196, R200). -/

/-- How a weight block stands for an engine. -/
inductive WBlk where
  | ready
  | missing
  /-- Its plot's promotion is in flight (R96). -/
  | stalled
  /-- It waits at resolution, behind a publication (R291). -/
  | held
  /-- The Sluice meets a failure. -/
  | bad (c : Status)
deriving DecidableEq, Repr

/-- A promotion of the plot of block b is in flight and has not copied it. -/
def State.promoWaits (b : Nat) (s : State) : Bool :=
  s.tier.waits.any (fun w => w.plot = b / 16) || (match s.plot (b / 16) with
    | some e => e.st = .promoting && !bit (b % 16) e.copied
    | none => false)

/-- Lines of block b. -/
def blockLines (b : Nat) : List Nat := (List.range 64).map (fun i => 64 * b + i)

/-- Block b stands behind a view whose publication holds the tenant back, or holders of its lines must answer first. -/
def State.wblockHeld (t ub : Nat) (s : State) : Bool :=
  match s.viewOf (ub / 16) with
  | some v => v.2.holdsBack t
  | none => false

/-- Lines of a block in a region's buffer whose holders a read must snoop, with the snoop's kind (R294). -/
def State.wblockSnoops (b : Nat) (s : State) : List (Nat × List Nat × Bool) :=
  match s.bufferOf (b / 16) with
  | some (_, g, k) => if g.bufHeld k then ((blockLines b).map (fun l => (l, s.needSnoops l none .rd .i))).filter (fun e => e.2.1 ≠ []) else []
  | none => []

def State.wblockOrphan (b : Nat) (s : State) : Bool :=
  match s.bufferOf (b / 16) with
  | some (_, g, k) => g.bufHeld k && (blockLines b).any (fun l => s.isOrphan l)
  | none => false

/-- How block b, mapped with key enc, stands for an engine that reads for a tenant (Table ARC-4, R78, R131). -/
def State.wblk (fe : Nat) (enc : Option Nat) (b : Nat) (s : State) : WBlk :=
  match s.plot (b / 16) with
  | none => .bad .uninitRead
  | some e =>
    if s.wblockOrphan b then .bad .poisonConsumed
    else if enc.isSome && e.mode ≠ .raw then .bad .permission
    else if !s.allWritten (b / 16) (b % 16) || (e.mode = .packed && (s.smapEnt b).len = 0) then .bad .uninitRead
    else if e.st = .farLost then .bad .farLost
    else if !s.keyReady (b / 16) false enc then .bad .permission
    else if s.hasStaged fe b then .ready
    else if s.split && homeHalf (b / 16) ≠ feHalf fe then .bad .poisonConsumed
    else if s.farCut (b / 16) then .bad .poisonConsumed
    else if s.promoWaits b then .stalled
    else .missing

/-- What a block that an engine may not read counts (R131, R294, R401). -/
def State.wblkCount (t : Nat) (enc : Option Nat) (b : Nat) (s : State) : State :=
  match s.plot (b / 16) with
  | none => s
  | some e =>
    if s.wblockOrphan b then s.countOrphrd t
    else if enc.isSome && e.mode ≠ .raw then s.cntBar t Reg.CMP_XERR 15 0 1
    else if s.allWritten (b / 16) (b % 16) && e.st ≠ .farLost && !s.keyReady (b / 16) false enc then s.cntBar t Reg.SEC_TERR 15 0 1
    else s

/-- Fetch a block for a tenant, once: admitted and charged under the class label (R194). -/
def State.askBlock (fe t cls : Nat) (enc : Option Nat) (b : Nat) (s : State) : State :=
  if s.wblk fe enc b = .missing && !(s.fe fe).fills.any (fun r => r.block = b) then
    let s := (s.access (b / 16) t).askFill fe { block := b, tenant := none, firing := none, by_ := t, cls := cls }
    forAll (s.wblockSnoops b) (fun x s => forAll x.2.1 (fun h s => s.sendSnoop .unit x.2.2 x.1 h) s) s
  else s

/-- Fetch what the next AHEAD tiles of a grain still miss. -/
def State.fetchAhead (fe : Nat) (g : FGrain) (s : State) : State :=
  match s.epbFor g with
  | none => s
  | some (e, w) =>
    forAll (e.ahead w (s.stwF (Reg.FLE_CFG + 4 * fe) 11 8) g.pos) (fun ub s =>
      if s.wblockHeld g.tenant ub then s
      else s.askBlock fe g.tenant g.cls (encAt (s.grainEncs g) (4096 * ub)) (s.wblock g.tenant ub)) s

/-- How the blocks of a grain's next tile stand: resolved numbers and states. -/
def State.nextBlocks (fe : Nat) (g : FGrain) (s : State) : List (Nat × WBlk) :=
  match s.epbFor g with
  | none => []
  | some (e, w) => (e.blocks w g.pos).map (fun ub =>
      let b := s.wblock g.tenant ub
      (b, if s.wblockHeld g.tenant ub then .held else s.wblk fe (encAt (s.grainEncs g) (4096 * ub)) b))

/-! What a Sluice expands (R148, R154, R169, R196). -/

/-- Contents of an open footprint block: assembled lines in place of stored ones (R20); none where one is poisoned. -/
def State.overlay (b : Nat) (v : List Byte) (s : State) : Option (List Byte) :=
  match s.openBlk b with
  | none => some v
  | some o =>
    if o.bad ≠ [] then none
    else some (((List.range 64).map (fun i => match tfind i o.data with
      | some l => lineBytes l
      | none => slice v (64 * i) 64)).flatten ++ v.drop 4096)

/-- What an engine's entry holds in place of block b's stored stream: what a lending host returned, or a failure. -/
def Engine.gotOf (b : Nat) (g : Engine) : Option (Status × List Byte) := (g.staged.find? (fun x => x.block = b)).bind Staged.got

/-- The stream of block b as an engine has staged it. -/
def State.stream (fe b : Nat) (e : Plot) (s : State) : List Byte :=
  match (s.fe fe).gotOf b with
  | some r => r.2
  | none => s.storedBytes (b / 16) e (b % 16)

/-- Tensor tag of block b: its header's or its sector map entry's, 0 of a block that has neither (Table CMP-3, Table CMP-4). -/
def State.blockTag (fe b : Nat) (s : State) : Nat :=
  match s.plot (b / 16) with
  | some e =>
    if e.mode = .packed && (s.smapEnt b).len = 64 then (s.smapEnt b).tag
    else if e.mode = .packed || e.mode = .fixed then (hdrOf (s.stream fe b e)).tag else 0
  | none => 0

/-- Expand staged block b for a tenant's grain: its contents, or the status of the failure. -/
def State.sluice (fe t : Nat) (enc : Option Nat) (b : Nat) (s : State) : Except Status (List Byte) × State :=
  let p := b / 16
  let j := b % 16
  match s.plot p with
  | none => (.error .uninitRead, s)
  | some e =>
    let got := (s.fe fe).gotOf b
    let (ok, s) := s.cstReadAll (some t) (((s.fe fe).staged.filter (fun x => x.block = b)).flatMap Staged.words)
    if !ok then (.error .poisonConsumed, s)
    else match got.filter (fun r => r.1 ≠ Status.ok) with
    | some r => (.error r.1, s)
    | none =>
      if (s.blockKeys p e j).any (fun k => s.curPoison e k) then (.error .poisonConsumed, s)
      else if e.mode = Mode.raw then
        (.ok (((blockLines b).map (fun l => lineBytes (match got with
          | some r => s.rawArrived (s.keyVal enc) l (slice r.2 (64 * (l % 64)) 64)
          | none => s.rawLine (s.keyVal enc) l))).flatten), s)
      else
        let x := s.expandBlk p e j (s.stream fe b e)
        match x.res with
        | .error c => (.error c, s.blockFail t 2 b x c)
        | .ok v => match s.overlay b v with
          | some v => (.ok v, s)
          | none => (.error .poisonConsumed, s)

/-- Format byte that a stored block's own header or entry names. -/
def State.blockFmt (b : Nat) (s : State) : Option Nat :=
  match s.plot (b / 16) with
  | some e => if e.mode = .packed || e.mode = .fixed then
      let m := s.smapEnt b
      let h := hdrOf (s.storedBytes (b / 16) e (b % 16))
      some (if e.mode = .packed && m.len = 64 then 16 * m.fmt + m.lay else 16 * h.fmt + h.lay)
    else none
  | none => none

/-- Values of a weight block in the job's weight format; rows lo to hi − 1 of it are used (R166, R169, R183). A block stored
without the appendix that the format takes has free bytes for it, the same in every run (R185; DESIGN CHOICE, log 48). -/
def State.weightVals (t wfmt b lo hi : Nat) (v : List Byte) (s : State) : List W32 × State :=
  let c := wfmt / 16
  let pay := slice v 0 4096
  let own := appLen c (wfmt % 16) = 0 || s.blockFmt b = some wfmt
  (decBlock c (wfmt % 16) pay (if own then v.drop 4096 else Config.lackApp wfmt v),
    s.countCnts t { badtrit := badTrits c pay (64 * lo) (64 * hi) })

/-! Starting and ending tiles. -/

/-- The count of a stalled tile by its cause (R97, Table TIR-10). A copy waits for bridge credit while the bridge retrains under
it (R15; DEDUCED, log 47). -/
def State.countStall (t b : Nat) (s : State) : State :=
  let p := b / 16
  if s.tier.waits.any (fun w => w.plot = p) then s.cntBar t Reg.TIR_STALL0 15 0 1
  else
    let paused : Bool := match s.plot p with
      | some e => match s.dloc p { e with st := .bulk } (4096 * (b % 16)) with
        | some d => decide ((s.chan d.chan).st = ChanSt.paused)
        | none => false
      | none => false
    if paused then s.cntBar t Reg.TIR_STALL1 15 0 1
    else if s.farHeld p then s.cntBar t Reg.TIR_STALL1 31 16 1
    else s.cntBar t Reg.TIR_STALL0 31 16 1

/-- A grain's next strip can start: a down strip takes the intermediate blocks, formed once every up strip is released
(R190, R203). -/
def FGrain.open (g : FGrain) : Bool := match g.strips with
  | [] => false
  | st :: _ => !st.down || g.inter ≠ []

/-- Count what the tiles of an engine wait for, once each (R97, R200). -/
def State.countWaits (fe : Nat) (s : State) : State :=
  forAll ((s.fe fe).grains.filter FGrain.open) (fun g s =>
    let bs := s.nextBlocks fe g
    match bs.find? (fun x => x.2 = .stalled) with
    | some x => if g.stalled then s else (s.modFgrain fe g.id (fun g => { g with stalled := true })).countStall g.tenant x.1
    | none =>
      if g.wFetch || !bs.any (fun x => x.2 = .missing) then s
      else (s.modFgrain fe g.id (fun g => { g with wFetch := true })).cntStw (Reg.FLE_WAIT + 4 * fe) 15 0 1) s

/-- Work banks of a grain, allotted at its start (R345, Table FLE-8). -/
def State.workBanks (fe : Nat) (g : FGrain) : Nat → State → State
  | 0, s => s
  | n + 1, s =>
    match s.allotBank (feHalf fe) .work fe with
    | some (b, s) => State.workBanks fe g n ((s.cstFreshBank b).modFgrain fe g.id (fun g =>
        { g with banks := g.banks ++ [b] }))
    | none => s

/-- Banks that hold the staged blocks of a grain's next tile. -/
def State.tileBanks (fe : Nat) (g : FGrain) (s : State) : NSet :=
  ninsAll (((s.fe fe).staged.filter (fun x => (s.nextBlocks fe g).any (fun y => y.1 = x.block))).map Staged.bank) []

/-- The grain has its work banks, powered; a checker's strip uses the primary's (R202). Its next tile's staging banks are powered
(R358). -/
def State.banksOn (fe : Nat) (g : FGrain) (s : State) : Bool :=
  (g.role ≠ .primary || (g.banks.length ≥ min 2 (s.stwF (Reg.FLE_CFG + 4 * fe) 7 4) && g.banks.all (fun b => (s.bank b).ps = .on))) &&
  (s.tileBanks fe g).all (fun b => (s.bank b).ps = .on)

/-- The grain's next tile has every block staged, or meets a failing one (R194, R196). -/
def State.tileReady (fe : Nat) (g : FGrain) (s : State) : Bool :=
  g.open && (s.nextBlocks fe g).all (fun x => x.2 ≠ .missing && x.2 ≠ .stalled && x.2 ≠ .held)

def State.grainPrio (g : FGrain) (s : State) : Int := s.prio g.tenant g.cls g.stamp false false

/-- Stamp the grains of an engine whose next tile has become ready (Table HGT-2). -/
def State.markReady (fe : Nat) (s : State) : State :=
  forAll (s.fe fe).grains (fun g s =>
    let r := s.tileReady fe g
    if r = g.rdy then s
    else s.modFgrain fe g.id (fun g => { g with rdy := r, stamp := s.now, need := ninsAll ((s.nextBlocks fe g).map Prod.fst) [] })) s

/-- The grain, of those that meet test, whose tile an engine starts (R198): the current one unless another ready one has
a strictly higher step; among equals the oldest. -/
def State.pickTile (fe : Nat) (test : FGrain → Bool) (s : State) : Option FGrain :=
  let e := s.fe fe
  let ready := e.grains.filter (fun g => s.tileReady fe g && test g)
  let best := ready.foldl (fun b g => match b with
    | none => some g
    | some x => if s.grainPrio g > s.grainPrio x || (s.grainPrio g = s.grainPrio x && g.id < x.id) then some g else some x) none
  match ready.find? (fun g => e.aob = some g.id), best with
  | some c, some b => if s.grainPrio b > s.grainPrio c then some b else some c
  | _, b => b

/-- Work banks for the grain that would start next (R345, Table FLE-8); the staging banks of its tile are woken (R358). -/
def State.startBanks (fe : Nat) (s : State) : State :=
  match s.pickTile fe (fun _ => true) with
  | some g =>
    let s := forAll (s.tileBanks fe g) (fun b s => s.wakeBank b) s
    if g.role = .primary then s.workBanks fe g (s.stwF (Reg.FLE_CFG + 4 * fe) 7 4 - g.banks.length) else s
  | none => s

/-- Weight rows of a tile from its blocks in ascending k, or the first failure. -/
def State.tileRows (fe : Nat) (g : FGrain) (wfmt k kEnd : Nat) (encs : List (Nat × Nat × Nat)) :
    List Nat → Nat → State → Except Status (List (List W32)) × List Nat × State
  | [], _, s => (.ok [], [], s)
  | ub :: r, first, s =>
    let b := s.wblock g.tenant ub
    let rb := rowsPer (wfmt / 16)
    match s.wblk fe (encAt encs (4096 * ub)) b with
    | .bad c => (.error c, [b], s.wblkCount g.tenant (encAt encs (4096 * ub)) b)
    | _ => match s.sluice fe g.tenant (encAt encs (4096 * ub)) b with
      | (.error c, s) => (.error c, [b], s)
      | (.ok v, s) =>
        let lo := max k first - first
        let hi := min kEnd (first + rb) - first
        let (vals, s) := s.weightVals g.tenant wfmt b lo hi v
        let rows := (List.range (hi - lo)).map (fun i => slice vals (64 * (lo + i)) 64)
        match State.tileRows fe g wfmt k kEnd encs r (first + rb) s with
        | (.ok m, bs, s) => (.ok (rows ++ m), b :: bs, s)
        | (.error c, bs, s) => (.error c, b :: bs, s)
where
  /-- n elements of a list from i. -/
  slice (l : List W32) (i n : Nat) : List W32 := (l.drop i).take n

/-! The activation operand (R180, R196). -/

/-- Work banks that hold a grain's activation blocks: its own, or the primary's of its comparison (R202). -/
def State.actBanks (g : FGrain) (s : State) : List Nat :=
  let of (i : Nat) : List Nat := match s.dups.find? (fun d => d.id = i) with
    | some d => (((s.fe d.primary).grains.find? (fun x => x.id = d.grain)).map FGrain.banks).getD []
    | none => []
  match g.role with
  | .primary => g.banks
  | .checker i => of i
  | .third i => of i

/-- Cistern words of the block in place i of work banks: places of 4,416 bytes, bank by bank and from the first again
(DESIGN CHOICE, log 47). -/
def workWords (banks : List Nat) (i : Nat) : List Nat :=
  let per := bankSize / 4416
  match banks[i / per % (if banks.length = 0 then 1 else banks.length)]? with
  | some b => (List.range 1104).map (fun k => (b * bankSize + 4416 * (i % per)) / 4 + k)
  | none => []

/-- The activation operand of a grain's strip, row by row, as its Sluice loads it from work banks: or its first failing block's
status (R148, R191, R196). -/
def State.actRows (g : FGrain) (down : Bool) (width : Nat) (s : State) : Except Status (List (List W32)) × State :=
  let l := if down then g.inter else g.inp
  let first := if down then g.inp.length else 0
  let (ok, s) := s.cstReadAll (some g.tenant) ((List.range l.length).flatMap (fun i => workWords (s.actBanks g) (first + i)))
  if !ok then (.error .poisonConsumed, s)
  else match outValues l with
    | .error c => (.error c.1, s.outFail g.tenant 2 c)
    | .ok v => (.ok (chunks width (v.take (g.rows.length * width))), s)

/-! Sampled strips (R201, R202). -/

/-- The engine in service after engine n in ascending cyclic order within its half, none of excl; else the lowest in
service on the other half, where the bridge is up (R202). -/
def State.nextFe (n : Nat) (excl : List Nat) (s : State) : Option Nat :=
  let base := n / 8 * 8
  let ok (i : Nat) : Bool := (s.fe i).ctl.st = .inService && !excl.contains i
  match ((List.range 7).map (fun i => base + (n - base + 1 + i) % 8)).find? ok with
  | some i => some i
  | none => if s.split then none else ((List.range 8).map (fun i => 8 - base + i)).find? ok

/-- Whether a strip of an operation is sampled: forced, or drawn by the hardware random source (R201). -/
def State.sampled (o : Op) (s : State) : Bool :=
  let c := s.stw Reg.FLE_DUPCFG
  let d := dF o.desc 53 1 % 16
  dFlags o.desc / 8 % 2 = 1 || (bit 31 c && freeBelow (2 ^ (if d = 0 then bits 3 0 c else d)) s = 0)

/-- A strip of a grain that another engine runs again: a tile of the job on that engine, which reads the primary's operand
(R202, R204). -/
def State.runAgain (g : FGrain) (st : Strip) (fe : Nat) (r : Role) (s : State) : State :=
  { s.modFe fe (fun x => { x with grains := x.grains ++ [{
      id := s.nextGrain, op := g.op, tenant := g.tenant, cls := g.cls, expert := g.expert, rows := g.rows, fe := fe, strips := [st],
      inp := g.inp, inter := g.inter, role := r, blk := g.blk, stamp := s.now }] }) with nextGrain := s.nextGrain + 1 }

/-- A primary's strip begins: where it is sampled, its comparison and its checker's work begin with it; with no checker it
runs unchecked. -/
def State.sampleStrip (f : Nat) (g : FGrain) (o : Op) (st : Strip) (s : State) : State :=
  let smp := s.sampled o
  let s := s.tickFree
  if !smp then s
  else match s.nextFe f [] with
    | none => s.cntBar o.tenant Reg.FLE_DUP 7 0 1
    | some c =>
      let i := s.nextGrain
      let d : Dup := { id := i, op := o.id, grain := g.id, primary := f, strip := st, checker := c }
      ({ s with dups := s.dups ++ [d] }.modFgrain f g.id (fun x => { x with dup := some i })).runAgain g st c (.checker i)

/-- The strip that starts notes its first weight block's tensor tag (Table FLE-4). -/
def State.noteTag (f : Nat) (g : FGrain) (blocks : List Nat) (s : State) : State :=
  match blocks with
  | ub :: _ => s.modFgrain f g.id (fun x => { x with tag := s.blockTag f (s.wblock g.tenant ub) })
  | [] => s

/-- A strip's first tile starts: it is sampled, and its tag is noted. -/
def State.beginStrip (f : Nat) (g : FGrain) (st : Strip) (blocks : List Nat) (s : State) : State :=
  if g.k ≠ 0 || g.second then s
  else
    let s := s.noteTag f g blocks
    match s.op g.op with
    | some o => if g.role = .primary && g.dup.isNone then s.sampleStrip f g o st else s
    | none => s

/-- An engine's tile runs. -/
def State.runTile (fe : Nat) (t : Tile) (s : State) : State :=
  let bs := ninsAll (((s.fe fe).staged.filter (fun x => nmem x.block t.blocks)).map Staged.bank) []
  s.modFe fe (fun x => { x.useStaged t.blocks with tile := some { t with banks := bs }, aob := some t.grain, ctl := { x.ctl with fieldTest := false } })

/-- Start a grain's next tile: it counts as having read its operands, and its sums are fixed, from its first cycle
(R184, R195). A failing block of either operand ends its strip (R196). -/
def State.startTile (fe : Nat) (g : FGrain) (s : State) : State :=
  match s.epbFor g, g.strips with
  | some (e, w), st :: _ =>
    let c := e.chain w st g.second
    let kEnd := e.tileEnd w st g.second g.k
    let rb := rowsPer (e.wfmt / 16)
    let old := if g.second then g.acc1 else g.acc0
    let acc (m : Nat) : List W32 := if g.k = 0 then List.replicate 64 0#32 else (old[m]?).getD []
    let s := s.modFgrain fe g.id (fun g => { g with wFetch := false, wSpace := false, stalled := false, rdy := false })
    let s := s.beginStrip fe g st (e.blocks w g.pos)
    match s.actRows g st.down c.2.1 with
    | (.error x, s) => s.runTile fe { grain := g.id, kEnd := c.2.1, acc := [], fail := some x }
    | (.ok a, s) =>
      match s.tileRows fe g e.wfmt g.k kEnd (s.grainEncs g) (e.blocks w g.pos) (g.k / rb * rb) with
      | (.ok rows, bs, s) =>
        let sums := (a.zipIdx).map (fun r =>
          let ak := (r.1.drop g.k).take (kEnd - g.k)
          ((acc r.2).zipIdx).map (fun x => chainSum ak rows x.2 x.1))
        s.runTile fe { grain := g.id, kEnd := kEnd, acc := sums, fail := none, blocks := ninsAll bs [] }
      | (.error x, bs, s) =>
        (s.modFe fe (fun x => { x with staged := x.staged.filter (fun y => bs.getLast? ≠ some y.block) })).runTile fe
          { grain := g.id, kEnd := c.2.1, acc := [], fail := some x, blocks := ninsAll bs [] }
  | _, _ => s

/-- The comparison that an engine runs a grain's strip for has ended: there is nothing left to run. -/
def State.idleRole (g : FGrain) (s : State) : Bool := match g.role with
  | .primary => false
  | .checker i => !s.dups.any (fun d => d.id = i)
  | .third i => !s.dups.any (fun d => d.id = i)

/-- Grains of jobs that have ended or failed, and of comparisons that have ended, stop at a tile boundary (R199). -/
def State.stopGrains (fe : Nat) (s : State) : State :=
  forAll ((s.fe fe).grains.filter (fun g => s.idleRole g || (match s.op g.op with
    | some o => o.done.isSome
    | none => true))) (fun g s => s.endFgrain fe g) s

/-- TILE_START (R194, R198 to R200): at a tile boundary the engine fetches ahead, counts the tiles that wait, gives the grain
that is to start its work banks, and starts the tile that R198 chooses. -/
def execTileStart (fe : BitVec 4) (s : State) : Outcome State Fault Refusal :=
  let f := fe.toNat
  if (s.fe f).ctl.st ≠ .inService || (s.fe f).tile.isSome then .next s
  else
    let s := s.stopGrains f
    let s := (((forAll (s.fe f).grains (fun g s => s.fetchAhead f g) s).markReady f).countWaits f).startBanks f
    match s.pickTile f (fun g => s.banksOn f g) with
    | some g => .next (s.startTile f g)
    | none => .next s

/-- STAGING_FILL_DONE (R192): a fill waits for the holders of its lines; one that no bank has room for is counted for the
tiles that need it (R200). A STAGE of a plot released meanwhile ends. -/
def execStagingFillDone (fe : BitVec 4) (plot : PlotNo) (block : BitVec 4) (s : State) : Outcome State Fault Refusal :=
  let f := fe.toNat
  let b := 16 * plot.toNat + block.toNat
  match s.wblockSnoops b with
  | _ :: _ => .next (forAll (s.wblockSnoops b) (fun x s => forAll x.2.1 (fun h s => s.sendSnoop .unit x.2.2 x.1 h) s) s)
  | [] =>
    match s.fillDone f b with
    | (true, s) => .next ((s.settle plot.toNat).markReady f)
    | (false, s) =>
      .next (forAll ((s.fe f).grains.filter (fun g => !g.wSpace && (s.nextBlocks f g).any (fun x => x.1 = b))) (fun g s =>
        (s.modFgrain f g.id (fun g => { g with wSpace := true })).cntStw (Reg.FLE_WAIT + 4 * f) 31 16 1) s)

end Sys2Proof.Machine
end

