-- ==== Sys2Proof/Machine/Engines.lean ====
section
/-! DEFINITION. Flume engines: the end of a tile and of a strip, sampled duplicate execution, fencing and BIST
(spec/08_flume_engines.md R182, R186, R189, R199 to R208). -/

namespace Sys2Proof.Machine

open Host (Outcome)

/-- A unit's record: fenced or returned (Table RAS-7, type 0x09); a fenced unit is told to the FM-owned devices. -/
def State.fenceRec (unit cause : Nat) (fenced : Bool) (s : State) : State :=
  let r : Rec := { typ := 0x09, sev := 1, unit := unit, aux0 := cause, aux1 := b2n fenced }
  let s := s.logRec r
  if fenced then s.fmHealth r else s

/-! A strip's output (R188 to R190). -/

/-- Blocks of a strip's output: an up strip's in the intermediate format, rounded as the elements of the intermediate blocks
that they become, a down strip's result blocks of 16 rows (R173, R189, R190). -/
def stripOut (fe : Nat) (g : FGrain) (e : Epb) (r : Rnd) (st : Strip) (v : List (List W32)) : List OutBlk × Cnts :=
  if st.down then
    ((chunks 16 v).map (fun rows => outBlock fe 0 g.tag (((rows ++ List.replicate (16 - rows.length) (List.replicate 64 0#32)).flatten).map
      BitVec.toNat) []), {})
  else
    let c := e.ifmt / 16
    let b0 := g.blk + blocksOf (e.afmt / 16) (g.rows.length * e.k)
    let qs := (v.zipIdx).map (fun x =>
      let i := x.2 * e.n + 64 * st.index
      encVals c (e.ifmt % 16) r (b0 + i / blockElems c) (i % blockElems c) x.1)
    (outBlocks fe e.ifmt g.tag ((qs.map (fun q => q.1)).flatten) ((qs.map (fun q => q.2.1)).flatten), (qs.map (fun q => q.2.2)).foldl Cnts.add {})

/-- The intermediate blocks of a row tile from the output of its up strips; their TAG is strip 0's (R190; DESIGN CHOICE, log
47). -/
def interBlocks (fe : Nat) (e : Epb) (m : Nat) (mid : Tab (List OutBlk)) : List OutBlk :=
  let strips := (List.range (e.n / 64)).map (fun i => outCodes e.ifmt (64 * m) (tget [] i mid))
  let tag := match tget [] 0 mid with
    | b :: _ => (hdrOf b.hdr).tag
    | [] => 0
  outBlocks fe e.ifmt tag (((List.range m).map (fun r => (strips.map (fun q => (q.1.drop (64 * r)).take 64)).flatten)).flatten)
    (((List.range m).map (fun r => (strips.map (fun q => (q.2.drop (2 * r)).take 2)).flatten)).flatten)

/-- A grain's strip has ended: it goes on with the next; a sampled one's output is held (R203). -/
def FGrain.next (hold : Bool) (st : Strip) (g : FGrain) : FGrain :=
  { g with strips := g.strips.drop 1, k := 0, second := false, acc0 := [], acc1 := [], dup := none, held := if hold then g.held ++ [st] else g.held }

/-- A grain with an up strip's output released: the last one forms the intermediate blocks (R190). -/
def FGrain.takeUp (e : Epb) (i : Nat) (l : List OutBlk) (g : FGrain) : FGrain :=
  let mid := tput i l g.mid
  if mid.length = e.n / 64 then { g with mid := [], inter := interBlocks g.fe e g.rows.length mid } else { g with mid := mid }

/-- A strip's output becomes visible: part of the intermediate, or result blocks that JC0 counts (R189, R190, R220). A grain
with none left ends. -/
def State.releaseStrip (f id : Nat) (o : Op) (st : Strip) (l : List OutBlk) (s : State) : State :=
  match (s.fe f).grains.find? (fun g => g.id = id) with
  | none => s
  | some g =>
    let s := if st.down then
        s.modXjob g.op (fun j => { j with
          results := j.results ++ ((l.zip (chunks 16 g.rows)).map (fun x => { expert := g.expert, rows := x.2, strip := st.index, blk := x.1 })),
          jc0 := j.jc0 + 1 })
      else s
    let g := { g with held := g.held.erase st }
    if g.strips = [] && g.held = [] then s.endFgrain f g
    else
      let g' := if st.down then g else g.takeUp (epbOf o.param) st.index l
      let s := if g'.inter = g.inter then s
        else s.cstFresh ((List.range g'.inter.length).flatMap (fun i => workWords (s.actBanks g) (g.inp.length + i)))
      s.modFgrain f id (fun _ => g')

/-! Comparisons and fencing (R202 to R207). -/

def State.dup (i : Nat) (s : State) : Option Dup := s.dups.find? (fun d => d.id = i)
def State.modDup (i : Nat) (f : Dup → Dup) (s : State) : State := { s with dups := mapIf (fun d => decide (d.id = i)) f s.dups }
def State.dropDup (i : Nat) (s : State) : State := { s with dups := s.dups.filter (fun d => d.id ≠ i) }

/-- A comparison ends with no mismatch: the strip's held output is released, and one that runs still is released when it
ends. -/
def State.dupRelease (d : Dup) (o : Op) (s : State) : State :=
  let s := (s.dropDup d.id).modFgrain d.primary d.grain (fun g => if g.dup = some d.id then { g with dup := none } else g)
  match d.out1 with
  | some l => s.releaseStrip d.primary d.grain o d.strip l
  | none => s

/-- The outcome of a mismatch (Table FLE-6, R205): out3 is the third run's output, if there is one; fence fences an engine. An
engine fenced meanwhile is not fenced again. -/
def State.settleDup (fence : Nat → Nat → State → State) (d : Dup) (out3 : Option (List OutBlk)) (s : State) : State :=
  match s.op d.op with
  | none => s.dropDup d.id
  | some o =>
    let agrees (x : Option (List OutBlk)) : Bool := match x, out3 with
      | some a, some b => sameOut a b
      | _, _ => false
    let fenced := if agrees d.out1 then d.checker else d.primary
    let unresolved := !agrees d.out1 && !agrees d.out2
    let s := ((s.dropDup d.id).cntBar o.tenant Reg.FLE_DUP 15 8 1).failOp o.id .dupMismatch fenced
    let s := s.logRec { typ := 0x08, sev := 2, tenant := some o.tenant, unit := unitNo 3 fenced,
                        aux0 := d.primary + 16 * d.checker + 256 * d.thirdFe.getD 0 + 4096 * b2n d.thirdFe.isSome + 8192 * b2n unresolved,
                        aux1 := dTag o.desc * 65536 + dSeq o.desc }
    if (s.fe fenced).ctl.st = .inService then fence fenced (if unresolved then 2 else 1) s else s

/-- Start the third run of a mismatched strip, on the first engine in service after the checker but the primary; with none
the mismatch is unresolved (R204). -/
def State.thirdRun (fence : Nat → Nat → State → State) (d : Dup) (s : State) : State :=
  match s.nextFe d.checker [d.primary, d.checker], (s.fe d.primary).grains.find? (fun g => g.id = d.grain) with
  | some e, some g => (s.modDup d.id (fun d => { d with thirdFe := some e })).runAgain g d.strip e (.third d.id)
  | _, _ => s.settleDup fence { d with thirdFe := none } none

/-- A grain's strips that have not been released are run again whole, on an engine that R198 chooses on either half; its
comparisons end (R207). One across a bridge that is down cannot run (R14). -/
def State.requeue (g : FGrain) (s : State) : State :=
  let s := forAll g.banks (fun b s => s.returnBank b) { s with dups := s.dups.filter (fun d => d.grain ≠ g.id) }
  match s.op g.op with
  | none => s
  | some o =>
    if o.done.isSome then s
    else
      let blocks := ((epbOf o.param).tensorBlocks (epbEnt o.param g.expert)).map (fun b => s.wblock g.tenant b)
      match s.chooseFe s.feServing blocks with
      | none => s.failOp g.op .fencedUnit 0
      | some n =>
        if s.cutFrom g.tenant (feHalf n) then s.failOp g.op .poisonConsumed 0
        else s.modFe n (fun e => { e with grains := e.grains ++ [{ g with
          fe := n, strips := g.held ++ g.strips, held := [], dup := none, acc0 := [], acc1 := [], second := false, k := 0, banks := [],
          wFetch := false, wSpace := false, stalled := false, rdy := false }] })

/-- A comparison whose checker is fenced: another checks, or the strip goes unchecked (R202). -/
def State.lostChecker (i : Nat) (s : State) : State :=
  match s.dup i with
  | none => s
  | some d => match s.nextFe d.primary [], (s.fe d.primary).grains.find? (fun g => g.id = d.grain), s.op d.op with
    | some c, some g, _ => (s.modDup i (fun d => { d with checker := c })).runAgain g d.strip c (.checker i)
    | none, _, some o => (s.cntBar o.tenant Reg.FLE_DUP 7 0 1).dupRelease d o
    | _, _, _ => s.dropDup i

/-- An engine enters FENCING (R207). Its grains' strips go elsewhere: the strips that it ran again for another engine's
comparison too, of which a third run with no engine left leaves the mismatch unresolved, and fences the primary. The first
argument bounds the engines that can be fenced in turn. -/
def State.fenceN : Nat → Nat → Nat → Bool → State → State
  | 0, _, _, _, s => s
  | n + 1, f, cause, cmd, s =>
    let e := s.fe f
    let s := s.setFe f { ctl := { st := .fencing, cause := BitVec.ofNat 3 cause, tpass := e.ctl.tpass, cmd := cmd } }
    let s := (s.farDrop (.engine f)).fenceRec (unitNo 3 f) cause true
    let s := forAll e.grains (fun g s => match g.role with
      | .primary => s.requeue g
      | .checker i => s.lostChecker i
      | .third i => match s.dup i with
        | some d => s.thirdRun (fun f c s => State.fenceN n f c false s) d
        | none => s) s
    forAll (e.fills.map (fun r => r.block / 16)) (fun p s => s.settle p) s

/-- An engine enters FENCING (R207). -/
def State.fenceFe (f cause : Nat) (cmd : Bool) (s : State) : State := s.fenceN 17 f cause cmd

/-- Fence one engine for a mismatch. -/
def State.fenceDup (f cause : Nat) (s : State) : State := s.fenceFe f cause false

/-- A comparison goes on once both outputs are there: a match releases the strip and is counted, a mismatch starts the third
run (R203, R204). -/
def State.dupStep (i : Nat) (s : State) : State :=
  match s.dup i with
  | none => s
  | some d => match s.op d.op, d.out1, d.out2 with
    | some o, some a, some b =>
      if sameOut a b then (s.cntBar o.tenant Reg.FLE_DUP 31 16 1).dupRelease d o else s.thirdRun State.fenceDup d
    | _, _, _ => s

/-! The end of a strip and of a tile (R186, R189, R195, R196, R199). -/

/-- The values that a strip's post-operation leaves (R186). -/
def stripVals (e : Epb) (w : EpbEnt) (st : Strip) (a0 a1 : List (List W32)) : List (List W32) :=
  (a0.zipIdx).map (fun r => (r.1.zipIdx).map (fun x =>
    if st.down then fmul (factor w.f2) x.1
    else upPost e.fn e.gated (factor w.f1) (factor w.f3) x.1 ((((a1[r.2]?).getD [])[x.2]?).getD 0#32)))

/-- A strip's last tile has ended: its output is released, held for its comparison, or one of the comparison's (R186, R202 to
R204). -/
def State.stripEnd (f : Nat) (g : FGrain) (o : Op) (st : Strip) (a0 a1 : List (List W32)) (s : State) : State :=
  let e := epbOf o.param
  let q := stripOut f g e o.rnd st (stripVals e (epbEnt o.param g.expert) st a0 a1)
  match g.role with
  | .primary =>
    let s := (s.countCnts o.tenant q.2).modFgrain f g.id (FGrain.next g.dup.isSome st)
    match g.dup with
    | none => s.releaseStrip f g.id o st q.1
    | some i => (s.modDup i (fun d => { d with out1 := some q.1 })).dupStep i
  | .checker i => ((s.endFgrain f g).modDup i (fun d => { d with out2 := some q.1 })).dupStep i
  | .third i =>
    let s := s.endFgrain f g
    match s.dup i with
    | some d => s.settleDup State.fenceDup d (some q.1)
    | none => s

/-- Accumulators with wrong bits: each cell (row × 64 + column) with the bits that the engine got wrong. -/
def wrongAcc (wrong : List (BitVec 12 × W32)) (acc : List (List W32)) : List (List W32) :=
  (acc.zipIdx).map (fun r => (r.1.zipIdx).map (fun x =>
    (wrong.filter (fun w => w.1.toNat = 64 * r.2 + x.2)).foldl (fun v w => v ^^^ w.2) x.1))

/-- A tile's last cycle has ended. -/
def State.tileEnd (f : Nat) (wrong : List (BitVec 12 × W32)) (s : State) : State :=
  match (s.fe f).tile with
  | none => s
  | some t =>
    let s := s.modFe f (fun e => { e with tile := none, staged := e.staged.filter (fun x => !(x.drop && nmem x.block t.blocks)) })
    match (s.fe f).grains.find? (fun g => g.id = t.grain) with
    | none => s
    | some g =>
      match s.op g.op, g.strips with
      | some o, st :: _ =>
        if o.done.isSome || s.idleRole g then s.stopGrains f
        else match t.fail with
          | some c => (s.failOp o.id c 0).stopGrains f
          | none =>
            let e := epbOf o.param
            let acc := wrongAcc wrong t.acc
            let k := (e.chain (epbEnt o.param g.expert) st g.second).2.1
            if t.kEnd < k then
              s.modFgrain f g.id (fun x => if g.second then { x with acc1 := acc, k := t.kEnd } else { x with acc0 := acc, k := t.kEnd })
            else if !st.down && e.gated && !g.second then s.modFgrain f g.id (fun x => { x with acc0 := acc, second := true, k := 0 })
            else (s.stripEnd f g o st (if g.second then g.acc0 else acc) acc).stopGrains f
      | _, _ => s.endFgrain f g

/-- TILE_END (R182, R186, R195, R196, R199): the accumulators carry to the chain's next tile; a chain's end takes the
gated strip to its up chain, or ends the strip. wrong names the bits that a faulty engine gets wrong. -/
def execTileEnd (fe : BitVec 4) (wrong : List (BitVec 12 × W32)) (s : State) : Outcome State Fault Refusal :=
  .next ((s.tileEnd fe.toNat wrong).markReady fe.toNat)

/-! Commands and events of Table FLE-7. -/

/-- The rows of Table FLE-12 for a command on a unit: denied is the row of PERMISSION. -/
def State.fenceCheck (stat : Nat) (u : UnitSt) (denied : Bool) (s : State) : Status :=
  if s.conflict then .stewardConflict
  else if bit 31 (s.stw stat) || u = .fencing || u = .testing then .slotBusy
  else if denied then .permission
  else .ok

def State.fenceStatus (stat : Nat) (st : Status) (s : State) : State := s.modStw stat (setBits 7 0 st.code)

/-- BUSY and the status OK of a command that goes on. -/
def State.fenceBusy (stat : Nat) (s : State) : State := s.setStw stat 0x80000000#32

/-- A unit's command ends: BUSY is clear. -/
def State.fenceIdle (stat : Nat) (cmd : Bool) (s : State) : State := if cmd then s.setStw stat 0#32 else s

/-- ENGINE_FENCE (R206, R207): FLE_FENCE.OP 0, or an internal error. -/
def execEngineFence (fe : BitVec 4) (c : FenceCause) (s : State) : Outcome State Fault Refusal :=
  let f := fe.toNat
  let st := (s.fe f).ctl.st
  match c with
  | .internalError => .next (if st = .inService then s.fenceFe f 3 false else s)
  | .steward => match s.fenceCheck Reg.FLE_FSTAT st (decide (st ≠ .inService)) with
    | .ok => .next ((s.fenceFe f 4 true).fenceBusy Reg.FLE_FSTAT)
    | r => .next (s.fenceStatus Reg.FLE_FSTAT r)

/-- ENGINE_FENCED (R206). -/
def execEngineFenced (fe : BitVec 4) (s : State) : Outcome State Fault Refusal :=
  let f := fe.toNat
  let c := (s.fe f).ctl
  if c.st = .fencing then
    .next ((s.modFe f (fun e => { e with ctl := { c with st := .fenced, cmd := false } })).fenceIdle Reg.FLE_FSTAT c.cmd)
  else .next s

/-- ENGINE_BIST (R206, R420): FLE_FENCE.OP 1, maintenance activity 6. -/
def execEngineBist (fe : BitVec 4) (s : State) : Outcome State Fault Refusal :=
  let f := fe.toNat
  let c := (s.fe f).ctl
  match s.fenceCheck Reg.FLE_FSTAT c.st (decide (c.st ≠ .fenced)) with
  | .ok =>
    .next (((s.modFe f (fun e => { e with ctl := { c with st := .testing, tpass := false, cmd := true } })).fenceBusy Reg.FLE_FSTAT).maintAsk 6
      [scFe f] (scFe f))
  | r => .next (s.fenceStatus Reg.FLE_FSTAT r)

/-- ENGINE_BIST_DONE (R206). -/
def execEngineBistDone (fe : BitVec 4) (pass : Bool) (s : State) : Outcome State Fault Refusal :=
  let f := fe.toNat
  let c := (s.fe f).ctl
  if c.st = .testing && s.holdsGrant 6 (scFe f) then
    .next (((s.modFe f (fun e => { e with ctl := { c with st := .fenced, tpass := pass, cmd := false } })).fenceIdle Reg.FLE_FSTAT c.cmd).maintEnd 6
      (scFe f))
  else .next s

/-- ENGINE_RETURN (R206): FLE_FENCE.OP 2. -/
def execEngineReturn (fe : BitVec 4) (s : State) : Outcome State Fault Refusal :=
  let f := fe.toNat
  let c := (s.fe f).ctl
  match s.fenceCheck Reg.FLE_FSTAT c.st (c.st ≠ .fenced || !c.tpass) with
  | .ok =>
    .next (((s.modFe f (fun e => { e with ctl := { c with st := .inService, cause := 0#3 } })).fenceStatus Reg.FLE_FSTAT .ok).fenceRec
      (unitNo 3 f) 0 false)
  | r => .next (s.fenceStatus Reg.FLE_FSTAT r)

end Sys2Proof.Machine
end

