-- ==== Sys2Proof/Machine/Tender.lean ====
section
/-! DEFINITION. Tender cores: jobs, grains and their states, faults, core fencing, field tests, the QUANT and GATEACT kernels
and program slots (spec/09_tender_cores.md R216 to R227, R231, spec/10_rings_and_operations.md R265 to R267, R382). -/

namespace Sys2Proof.Machine

open Host (Outcome)

/-! Creation (R216, R217, R265). -/

/-- RUN_PROGRAM (R265): the job starts and asks for its banks on its half. -/
def execRunProgram (op : Nat) (s : State) : Outcome State Fault Refusal :=
  .next (s.withOp op (fun d => dOp d = 7 && dF d 28 2 < 1008) (fun o s =>
    if !s.tcUp then s.opDone o.id .fencedUnit 0 else s.startJob o.id))

/-- GRAIN_CREATE (R216, R217): the job's next grain, in ascending index. One whose half lies across a bridge that is down ends
its job (R14). -/
def execGrainCreate (job : Nat) (s : State) : Outcome State Fault Refusal :=
  match s.job job with
  | none => .next s
  | some j =>
    let h := s.grainHalf j
    if j.stop.isSome || j.created ≥ j.total || !s.mayCreate j then .next s
    else if s.cutFrom j.tenant h then .next (s.stopJob j.id .poisonConsumed 0)
    else
      let g : Grain := { id := s.nextGrain, job := j.id, index := j.created, half := h, st := .ready, ctx := newCtx j.prog.entry,
                         saved := newCtx j.prog.entry, stamp := s.now }
      let s := ({ s with grains := s.grains ++ [g], nextGrain := s.nextGrain + 1 }).modJob job (fun j => { j with created := j.created + 1 })
      .next (if s.tcServing h = [] then s.faultGrain g 8 j.prog.entry .fencedUnit else s)

/-! Scheduling (R218, R219, R221). -/

def State.runningOn (core : Nat) (s : State) : Nat := (s.grains.filter (fun g => g.st = .running && g.core = core)).length

/-- Running grains of a tenant on a half. -/
def State.tenantRunning (t : Nat) (h : Half) (s : State) : Nat :=
  (s.grains.filter (fun g => g.st = .running && g.half = h && (match s.job g.job with
    | some j => j.tenant = t
    | none => false))).length

/-- A READY grain may run: its tenant's cap on threads is not reached (R219). -/
def State.mayRun (g : Grain) (s : State) : Bool :=
  match s.job g.job with
  | none => false
  | some j =>
    let cap := s.stwF (Reg.TND_TLIM + 4 * j.tenant) 31 23
    cap = 0 || s.tenantRunning j.tenant g.half < cap

def State.grainStep (g : Grain) (s : State) : Int :=
  match s.job g.job with
  | some j => s.prio j.tenant j.cls g.stamp false false
  | none => 0

/-- a is dispatched before b: higher step, older creation, which numbers grains in the order of
their indices (R219). -/
def State.grainBefore (a b : Grain) (s : State) : Bool :=
  let x := s.grainStep a
  let y := s.grainStep b
  x > y || (x = y && a.id < b.id)

/-- GRAIN_DISPATCH (R218, R219): a free thread of a core takes the best READY grain of its half. -/
def execGrainDispatch (core : BitVec 6) (s : State) : Outcome State Fault Refusal :=
  let c := core.toNat
  if (s.tc c).st ≠ .inService || s.runningOn c ≥ 8 then .next s
  else
    match (s.grains.filter (fun g => g.st = .ready && g.half = tcHalf c && s.mayRun g)).foldl (fun b g => match b with
      | none => some g
      | some x => if s.grainBefore g x then some g else some x) none with
    | none => .next s
    | some g => .next ((s.modGrain g.id (fun g => { g with st := .running, core := c, saved := g.ctx, savedCount := g.icount })).modTc c (fun u =>
        { u with fieldTest := u.fieldTest && s.runningOn c < 7 }))

/-- A yield point: a grain of a stopped job ends there; any other has its context saved (Table TND-5). -/
def State.yieldAt (g : Grain) (s : State) : State :=
  match s.job g.job with
  | none => s.endGrain g
  | some j =>
    if j.stop.isSome then s.endGrain g
    else s.modGrain g.id (fun _ => { g with saved := g.ctx, savedCount := g.icount, stamp := s.now })

/-- GRAIN_FORCED_YIELD (R218): 20 µs of execution since dispatch. -/
def execGrainForcedYield (g : Nat) (s : State) : Outcome State Fault Refusal :=
  match s.grain g with
  | some x => .next (if x.st = .running then s.yieldAt { x with st := .ready } else s)
  | none => .next s

/-- Value of a job counter. -/
def Job.counter (j : Job) (n : Nat) : W64 := (j.jc[n]?).getD 0#64

/-- GRAIN_WAKE (R218, R220): the counter that a WAITING grain waits for has reached its value. -/
def execGrainWake (g : Nat) (s : State) : Outcome State Fault Refusal :=
  match s.grain g with
  | none => .next s
  | some x => match s.job x.job with
    | none => .next s
    | some j =>
      .next (if x.st = .waiting && x.waitVal.toNat ≤ (j.counter x.waitJc).toNat then
          s.modGrain g (fun x => { x with st := .ready, stamp := s.now, waited := x.waited + (s.now - x.since) })
        else s)

/-- A grain has passed a limit of its job (R221, Table TND-11). -/
def State.pastLimit (g : Grain) (j : Job) (s : State) : Bool :=
  let w := g.waited + (if g.st = .waiting then s.now - g.since else 0)
  (j.ilim ≠ 0 && g.icount > j.ilim * 2 ^ 20) || (j.wlim ≠ 0 && w > j.wlim * 64000)

/-- GRAIN_LIMIT_EXCEEDED (R221). -/
def execGrainLimitExceeded (g : Nat) (s : State) : Outcome State Fault Refusal :=
  match s.grain g with
  | none => .next s
  | some x => match s.job x.job with
    | none => .next s
    | some j => .next (if s.pastLimit x j then s.faultGrain x 6 x.ctx.pc .timeout else s)

/-! Fencing a core (R224). -/

/-- Where a grain of a core that is fenced goes on: its own half, or the other where it uses no Cistern. -/
def State.rehome (j : Job) (h : Half) (s : State) : Option Half :=
  if s.tcServing h ≠ [] then some h
  else if j.needBanks = 0 && s.tcServing (halfOther h) ≠ [] then some (halfOther h) else none

/-- A grain that was running on a core that is fenced. -/
def State.fencedGrain (g : Grain) (s : State) : State :=
  match s.job g.job with
  | none => s
  | some j =>
    if !j.prog.replay then s.faultGrain g 8 g.ctx.pc .fencedUnit
    else if j.stop.isSome then s.endGrain g
    else match s.rehome j g.half with
      | some h => s.modGrain g.id (fun g => { g with st := .ready, stamp := s.now, half := h, ctx := g.saved, icount := g.savedCount })
      | none => s.faultGrain g 8 g.ctx.pc .fencedUnit

/-- A grain that is not running on a half with no core in service. -/
def State.boundGrain (g : Grain) (s : State) : State :=
  match s.grain g.id, s.job g.job with
  | some g, some j =>
    if s.tcServing g.half ≠ [] then s
    else match s.rehome j g.half with
      | some h => s.modGrain g.id (fun g => { g with half := h })
      | none => s.faultGrain g 8 g.ctx.pc .fencedUnit
  | _, _ => s

/-- A core enters FENCING (R224). -/
def State.fenceTc (c cause : Nat) (cmd : Bool) (s : State) : State :=
  let u := s.tc c
  let s := (s.setTc c { st := .fencing, cause := BitVec.ofNat 3 cause, tpass := u.tpass, cmd := cmd }).fenceRec (unitNo 4 c) cause true
  let s := forAll (s.grains.filter (fun g => g.st = .running && g.core = c)) (fun g s => s.fencedGrain g) s
  forAll (s.grains.filter (fun g => g.half = tcHalf c)) (fun g s => s.boundGrain g) s

/-- CORE_FENCE (R224): TND_FENCE.OP 0, or an internal error. -/
def execCoreFence (tc : BitVec 6) (c : FenceCause) (s : State) : Outcome State Fault Refusal :=
  let n := tc.toNat
  let st := (s.tc n).st
  match c with
  | .internalError => .next (if st = .inService then s.fenceTc n 3 false else s)
  | .steward => match s.fenceCheck Reg.TND_FSTAT st (decide (st ≠ .inService)) with
    | .ok => .next ((s.fenceTc n 4 true).fenceBusy Reg.TND_FSTAT)
    | r => .next (s.fenceStatus Reg.TND_FSTAT r)

/-- CORE_FENCED (R224). -/
def execCoreFenced (tc : BitVec 6) (s : State) : Outcome State Fault Refusal :=
  let n := tc.toNat
  let u := s.tc n
  .next (if u.st = .fencing then (s.setTc n { u with st := .fenced, cmd := false }).fenceIdle Reg.TND_FSTAT u.cmd else s)

/-- CORE_BIST (R224, R420): TND_FENCE.OP 1. -/
def execCoreBist (tc : BitVec 6) (s : State) : Outcome State Fault Refusal :=
  let n := tc.toNat
  let u := s.tc n
  match s.fenceCheck Reg.TND_FSTAT u.st (decide (u.st ≠ .fenced)) with
  | .ok => .next (((s.setTc n { u with st := .testing, tpass := false, cmd := true }).fenceBusy Reg.TND_FSTAT).maintAsk 6 [scTc n] (scTc n))
  | r => .next (s.fenceStatus Reg.TND_FSTAT r)

/-- CORE_BIST_DONE (R224). -/
def execCoreBistDone (tc : BitVec 6) (pass : Bool) (s : State) : Outcome State Fault Refusal :=
  let n := tc.toNat
  let u := s.tc n
  .next (if u.st = .testing && s.holdsGrant 6 (scTc n) then
      ((s.setTc n { u with st := .fenced, tpass := pass, cmd := false }).fenceIdle Reg.TND_FSTAT u.cmd).maintEnd 6 (scTc n)
    else s)

/-- CORE_RETURN (R224): TND_FENCE.OP 2. -/
def execCoreReturn (tc : BitVec 6) (s : State) : Outcome State Fault Refusal :=
  let n := tc.toNat
  let u := s.tc n
  match s.fenceCheck Reg.TND_FSTAT u.st (u.st ≠ .fenced || !u.tpass) with
  | .ok => .next (((s.setTc n { u with st := .inService, cause := 0#3 }).fenceStatus Reg.TND_FSTAT .ok).fenceRec (unitNo 4 n) 0 false)
  | r => .next (s.fenceStatus Reg.TND_FSTAT r)

/-! Field tests (R382). -/

/-- FIELD_TEST_START: an idle engine, or a core with a free thread, while PERIOD is not zero. -/
def execFieldTestStart (u : TestUnit) (s : State) : Outcome State Fault Refusal :=
  if s.stwF Reg.RAS_FTCFG 15 0 = 0 then .next s
  else match u with
    | .fe n =>
      let e := s.fe n.toNat
      .next (if e.ctl.st = .inService && e.tile.isNone && (s.pickTile n.toNat (fun g => s.banksOn n.toNat g)).isNone then
          s.modFe n.toNat (fun e => { e with ctl := { e.ctl with fieldTest := true } })
        else s)
    | .tc n =>
      .next (if (s.tc n.toNat).st = .inService && s.runningOn n.toNat < 8 then s.modTc n.toNat (fun c => { c with fieldTest := true }) else s)

/-- Count a field test that has ended (Table RAS-23). -/
def State.countTest (pass : Bool) (s : State) : State :=
  let s := s.cntStw Reg.RAS_FTSTAT 31 16 1
  if pass then s else s.cntStw Reg.RAS_FTSTAT 15 0 1

/-- FIELD_TEST_DONE: a wrong answer fences the unit with CAUSE 5. -/
def execFieldTestDone (u : TestUnit) (pass : Bool) (s : State) : Outcome State Fault Refusal :=
  match u with
  | .fe n =>
    if (s.fe n.toNat).ctl.fieldTest then
      let s := (s.modFe n.toNat (fun e => { e with ctl := { e.ctl with fieldTest := false } })).countTest pass
      .next (if pass then s else s.fenceFe n.toNat 5 false)
    else .next s
  | .tc n =>
    if (s.tc n.toNat).fieldTest then
      let s := (s.modTc n.toNat (fun c => { c with fieldTest := false })).countTest pass
      .next (if pass then s else s.fenceTc n.toNat 5 false)
    else .next s

/-! QUANT and GATEACT (R266, R267, Tables DSC-34, DSC-35). -/

def argW (o : Op) (i : Nat) : Nat := leAt o.param (8 * i) 8

/-- Grant i of a job that names it. -/
def Op.grant (o : Op) (i : Nat) : Option Grant := (argGrants o.param (dF o.desc 30 1))[i]?

/-- Bytes from the base of a grant that a kernel reads or writes. -/
structure Need where
  g : Nat
  len : Nat
  wr : Bool
  aligned : Bool

/-- The checks that a kernel makes before it writes anything: fault 7 for an argument, fault 2 for a grant. -/
def Op.kernelCheck (o : Op) (argsOk : Bool) (needs : List Need) : Option Nat :=
  if !argsOk || needs.any (fun n => match o.grant n.g with
      | none => true
      | some g => n.aligned && g.base % 4096 ≠ 0) then some 7
  else if needs.any (fun n => match o.grant n.g with
      | none => true
      | some g => g.len < n.len || !(if n.wr then g.wr else g.rd)) then some 2
  else none

def Op.gbase (o : Op) (i : Nat) : Nat := match o.grant i with
  | some g => g.base
  | none => 0

/-- The blocks of a kernel whose grains share them: block k is grain k mod G's, and a failure in it is that grain's fault
(R223, R266, R267). -/
def kernelWork (o : Op) (n : Nat) (block : Nat → Work Unit) : Work (Status × Nat) := do
  let g := dF o.desc 24 4
  (List.range n).forM (fun k => do
    match (← Work.try_ (block k)) with
    | .ok _ => pure ()
    | .error c => throw (.fault ((if c = .permission then 3 else 5) * 2 ^ 20 + k % g % 2 ^ 20) c))
  pure (.ok, 0)

/-- Values of n elements of a plain format stored from a UA. -/
def Acc.plain (u : Acc) (code ua lo n : Nat) : Work (List W32) := do
  let w := fmtBits code / 8
  let b ← u.bytes (ua + w * lo) (w * n)
  pure ((List.range n).map (fun i => decScaled code none (leAt b (w * i) w)))

/-- QUANT (R266). -/
def execQuant (op : Nat) (s : State) : Outcome State Fault Refusal :=
  .next (s.withOp op (fun d => dOp d = 7 && dF d 28 2 = 1010) (fun o s =>
    let n := argW o 0
    let sf := argW o 1 % 256
    let df := argW o 1 / 256
    let e := blockElems (df / 16)
    let nb := blocksOf (df / 16) n
    let ok := 1 ≤ n && n < 2 ^ 41 && (sf = 0 || sf = 0x10 || sf = 0x20) && df < 256 && fmtMx (df / 16) && df % 16 = 1 &&
      (List.range 6).all (fun i => argW o (i + 2) = 0)
    let needs : List Need := [⟨0, n * (fmtBits (sf / 16) / 8), false, true⟩, ⟨1, 4096 * nb, true, true⟩, ⟨2, appRun (df / 16) 1 nb, true, false⟩]
    s.kernel o (o.kernelCheck ok needs) (fun a => kernelWork o nb (fun k => do
      let v ← a.plain (sf / 16) (o.gbase 0) (k * e) (min e (n - k * e))
      a.putBlock (df / 16) 1 (o.gbase 1) (o.gbase 2) k o.rnd v))))

/-- GATEACT (R231, R267). -/
def execGateact (op : Nat) (s : State) : Outcome State Fault Refusal :=
  .next (s.withOp op (fun d => dOp d = 7 && dF d 28 2 = 1011) (fun o s =>
    let rows := argW o 0 % 2 ^ 32
    let w := argW o 0 / 2 ^ 32
    let inf := argW o 1 % 256
    let of_ := argW o 1 / 256 % 256
    let fn := argW o 1 / 65536 % 8
    let gated : Bool := argW o 1 / 2 ^ 19 % 2 = 1
    let f1 := BitVec.ofNat 32 (argW o 2)
    let f3 := BitVec.ofNat 32 (argW o 2 / 2 ^ 32)
    let n := rows * w
    let e := blockElems (of_ / 16)
    let nb := blocksOf (of_ / 16) n
    let ok := 1 ≤ rows && 1 ≤ w && w % 64 = 0 && (inf = 0 || inf = 0x10) && !fmtBad of_ 9 && fn < 4 && argW o 1 < 2 ^ 20 &&
      (gated || f3 = 0#32) && (List.range 5).all (fun i => argW o (i + 3) = 0)
    let sg := if gated then 3 else 2
    let needs : List Need := [⟨0, n * (fmtBits (inf / 16) / 8), false, false⟩, ⟨1, 4096 * nb, true, true⟩] ++
      (if gated then [⟨2, n * (fmtBits (inf / 16) / 8), false, false⟩] else []) ++
      (if of_ % 16 = 1 then [⟨sg, appRun (of_ / 16) 1 nb, true, false⟩] else [])
    s.kernel o (o.kernelCheck ok needs) (fun a => kernelWork o nb (fun k => do
      let m := min e (n - k * e)
      let g ← a.plain (inf / 16) (o.gbase 0) (k * e) m
      let u ← (if gated then a.plain (inf / 16) (o.gbase 2) (k * e) m else pure (List.replicate m 0#32))
      a.putBlock (of_ / 16) (of_ % 16) (o.gbase 1) (o.gbase sg) k o.rnd
        ((g.zip u).map (fun p => upPost fn gated (factor f1) (factor f3) p.1 p.2))))))

/-! Program slots (R226, Tables TND-8, TND-20). -/

/-- PROGRAM_OLD_DISCARD: the last job bound to an old image has ended. -/
def execProgramOldDiscard (slot : BitVec 10) (s : State) : Outcome State Fault Refusal :=
  let n := slot.toNat
  let k := s.pslot n
  .next (if k.old.isSome && s.jobsOn n true = 0 then (if k.cur.isNone then s.setPslot n {} else s.setPslot n { k with old := none }) else s)

def State.pcmdStatus (st : Status) (s : State) : State := s.modStw Reg.TND_PCMD (setBits 31 24 st.code)

/-- The rows of Table TND-20 in their order. -/
def State.pcmdCheck (bad busy : Bool) (s : State) : Status :=
  let n := s.stwF Reg.TND_PSEL 9 0
  let k := s.pslot n
  if s.conflict then .stewardConflict
  else if bad || n ≥ 1008 || (k.cur.isNone && k.old.isNone) then .badDescriptor
  else if busy && k.old.isSome then .slotBusy
  else .ok

/-- PROGRAM_SLOT_UNLOAD: TND_PCMD.OP 0. -/
def execProgramSlotUnload (s : State) : Outcome State Fault Refusal :=
  let n := s.stwF Reg.TND_PSEL 9 0
  match s.pcmdCheck false true with
  | .ok => .next ((s.replaceProg n (s.pslot n).owner none).pcmdStatus .ok)
  | st => .next (s.pcmdStatus st)

/-- PROGRAM_SLOT_OWNER: TND_PCMD.OP 1. -/
def execProgramSlotOwner (t : Tenant) (s : State) : Outcome State Fault Refusal :=
  match s.pcmdCheck false false with
  | .ok => .next ((s.modPslot (s.stwF Reg.TND_PSEL 9 0) (fun k => { k with owner := t.toNat })).pcmdStatus .ok)
  | st => .next (s.pcmdStatus st)

/-- TND_PCMD_RESERVED: OP 2 or 3. -/
def execTndPcmdReserved (s : State) : Outcome State Fault Refusal := .next (s.pcmdStatus (s.pcmdCheck true false))

end Sys2Proof.Machine
end

