-- ==== Sys2Proof/Machine/Ports.lean ====
section
/-! DEFINITION. Ports and their states, the resets of a head, the FLR of a logical device, configuration requests and the
HDM decoder (spec/02_host_ports.md R26 to R52, spec/03_windows.md R55, R56, spec/11_shared_regions.md R293, R465,
spec/12_regulation.md R311, spec/17_bring_up.md R408). -/

namespace Sys2Proof.Machine

open Host (Outcome)

/-- The even port of a pair, and the ports of a head. -/
def evenPort (p : Nat) : Nat := p - p % 2

/-- The port carries no head of its own: the odd port of a bonded pair (R27). -/
def State.portUnused (p : Nat) (s : State) : Bool := p % 2 = 1 && (s.port (p - 1)).bonded

/-- Tenants of a head (R29, R30). -/
def State.headTenants (p : Nat) (s : State) : List Nat :=
  if (s.port p).mld then (List.range 16).map (fun i => 16 * p + i) else [16 * p]

/-! The drain of a logical device (Table PRT-9). -/

/-- Descriptors of a tenant that were fetched and not started (Table PRT-9, step 2). -/
def State.fetchedOf (t : Nat) (s : State) : Nat := ((List.range 16).map (fun r => (s.ring t r).fetched.length)).sum

/-- Rings stop fetching: outstanding fetches are abandoned, their tags kept out of use (R54), and records and messages not
yet sent are discarded (steps 2 and 3). -/
def State.stopRings (t : Nat) (s : State) : State :=
  let isFetch (u : DmaUse) : Bool := match u with
    | .fetch .. => true
    | _ => false
  let mine := s.tags.filter (fun g => g.tenant = t && isFetch g.use)
  let s := { s with tags := s.tags.filter (fun g => !(g.tenant = t && isFetch g.use)), quarantine := s.quarantine ++ mine }
  let s := s.modLd t (fun l => { l with waiting := l.waiting.filter (fun w => match w with
    | .read _ u _ _ => !isFetch u
    | .write .. => true
    | _ => false) })
  forAll (List.range 16) (fun r s => (s.voidFetch t r).farDrop (takeReader t r)) s

/-- Work of a tenant ends with ABORTED_FLR (steps 4 and 5, R48, R49): claims its hints still wait for are dropped, and an
ALMANAC_LOAD that has not committed is discarded. -/
def State.abortWork (t : Nat) (s : State) : State :=
  let l := s.ops.filter (fun o => o.tenant = t)
  let n := l.length + s.fetchedOf t
  let mine (c : ClaimCause) : Bool := l.any (fun o => causeOp o.id c)
  let s := s.stopRings t
  let s := s.modTier (fun x => { x with waits := x.waits.filter (fun w => !mine w.cause) })
  let s := s.modAlm (fun a => { a with cals := a.cals.map (fun (e : Nat × Cal) =>
    (e.1, { e.2 with loading := e.2.loading.filter (fun x => !l.any (fun o => o.id = x.1)) })) })
  let s := forAll l (fun o s => s.endOp o .abortedFlr) s
  (s.cntBar t Reg.PRT_FLR 15 0 n).modLd t (fun x => { x with drainAborted := x.drainAborted + n })

/-- Headgate counters and Weir state of a tenant reset; what it held is eligible as at a window boundary (R311). -/
def State.resetWeir (t : Nat) (s : State) : State :=
  let s := s.modHg t (fun h => { h.clearLat with used := [] })
  s.admitAll t

/-- Fetches that an engine made for a tenant's jobs are given up (step 6); no holder of a staged block is removed (R193;
log 51). -/
def State.dropFetches (t : Nat) (s : State) : State :=
  forAll (List.range 16) (fun f s => s.modFe f (fun g => { g with
    fills := g.fills.filter (fun r => !(r.tenant.isNone && r.by_ = t)) })) s

/-- The calendar counters of a tenant's cursors, BAR0 registers, take their reset values (Table PRT-8, R106). -/
def State.clearAlmCounts (t : Nat) (s : State) : State :=
  s.modAlm (fun a => { a with cals := a.cals.map (fun (e : Nat × Cal) => (e.1, { e.2 with
    cursors := e.2.cursors.map (fun (v : Nat × Cursor) =>
      (v.1, if v.2.tenant = t then { v.2 with cnt0 := 0#32, cnt1 := 0#32, cnt2 := 0#32, cnt3 := 0#32 } else v.2)) })) })

/-- An ACQUIRE hold of a region is released whatever the state of the bridge (R465). -/
def State.releaseHold (t r : Nat) (s : State) : State :=
  let g := s.region r
  match g.pins.find? (fun p => p.tenant = t) with
  | none => s
  | some p =>
    if s.split && halfOf r ≠ tenantHalf t then
      s.modHalf (halfOf r) (fun h => { h with pendUnpin := h.pendUnpin ++ [(t, r)] })
    else if p.buf ≠ g.cur then s.pinWalk (.flr t r) t p.buf g
    else s.dropPin t r

/-- Ring and BAR0 state of a logical device takes its reset values (step 7, R441). -/
def State.resetTenant (t : Nat) (keepFlr : Bool) (s : State) : State :=
  let s := ((s.clearBar t keepFlr).clearAlmCounts t).setEng t {}
  let s := forAll (List.range 16) (fun r s => s.setRing t r {}) s
  s.modHg t (fun h => { h with uib := 0#2 })

/-- Configuration space of a logical device other than HDM state, and its MSI-X table, take their reset values. -/
def Ld.resetConfig (l : Ld) : Ld :=
  { l with bme := false, d3hot := false, pmeEn := false, ctoField := 0#4, msixEn := false, fnMask := false, vecMask := 0xF#4,
           pending := 0#4, msixTab := [], aerTimeout := false, aerUnexp := false }

/-- An FLR begins (R46, steps 1 to 5; R50: ignored during a drain). -/
def State.flrStart (n : Nat) (s : State) : State :=
  if !(s.ld n).enumerated || s.draining n then s
  else ((s.setBar n Reg.PRT_FLR 0#32).modLd n (fun l => { l with
    flr := true, drainAborted := 0, drainRefused := 0, drainLogged := false })).abortWork n

/-- FLR_INITIATE (R46, R50). -/
def execFlrInitiate (t : Tenant) (s : State) : Outcome State Fault Refusal := .next (s.flrStart t.toNat)

/-- The FLR record of a drain (R46, step 7). -/
def State.logDrain (t : Nat) (l : Ld) (s : State) : State :=
  s.logRec { typ := 0x0C, sev := 0, tenant := some t, aux0 := l.drainAborted, aux1 := l.drainRefused }

/-- A grain or a tile of a tenant still runs to its next boundary (Table PRT-9, step 4). -/
def State.stillRuns (t : Nat) (s : State) : Bool :=
  s.grains.any (fun g => g.st = .running && (match s.job g.job with
    | some j => j.tenant = t
    | none => false)) ||
  s.fes.any (fun e => e.2.grains.any (fun g => g.tenant = t && e.2.tile.any (fun x => x.grain = g.id)))

/-- FLR_DRAIN_COMPLETE (R46, steps 6 and 7): once no grain or tile of the tenant runs. -/
def execFlrDrainComplete (t : Tenant) (s : State) : Outcome State Fault Refusal :=
  let n := t.toNat
  let l := s.ld n
  if !l.flr || s.stillRuns n then .next s
  else
    let s := forAll (s.shr.regions.map Prod.fst) (fun r s => s.releaseHold n r) s
    let s := ((s.dropFetches n).resetWeir n).resetTenant n true
    let s := s.modLd n (fun l => { l.resetConfig with flr := false, drainLogged := true })
    let s := if l.portDrain then s else s.emit (.frs n)
    .next (s.logDrain n l)

/-! Resets of a head (R37, R38, R42). -/

/-- Requests of a head whose link went down: reads are discarded, and so are writes that no home half has admitted, those
that wait for snoops, a way or a buffer among them (R38, R284). -/
def State.dropHead (ts : List Nat) (s : State) : State :=
  let mine (r : Req) : Bool := ts.contains r.tenant
  let kept (l : List Req) : List Req := l.filter (fun r => !mine r)
  let dead := (s.shr.waiting ++ s.shr.wayWait).filter mine
  let host (u : DmaUse) : Bool := match u with
    | .farHost r => mine r
    | _ => false
  let lost := s.tags.filter (fun g => host g.use)
  let s := { s with tags := s.tags.filter (fun g => !host g.use), quarantine := s.quarantine ++ lost,
                    bridge := { s.bridge with queue := s.bridge.queue.filter (fun i => !i.req.any mine) } }
  let s := { s with lds := s.lds.map (fun (e : Nat × Ld) => (e.1, { e.2 with waiting := e.2.waiting.filter (fun w => match w with
    | .read _ u _ _ => !host u
    | _ => true) })) }
  let s := forAll ts (fun t s => s.modHg t (fun h => { h with held := [] })) s
  let s := s.modDmc (fun d => { d with reads := d.reads.filter (fun r => !r.req.any mine || r.timedOut) })
  let s := s.modCmp (fun c => { c with closeWait := kept c.closeWait })
  (s.modShr (fun h => { h with waiting := kept h.waiting, wayWait := kept h.wayWait, resWait := kept h.resWait })).rerun
    (fun r => dead.any (fun g => lineOf g.ua = lineOf r.ua))

/-- A logical device of a head that drains (R37). -/
def State.drainLd (t : Nat) (s : State) : State :=
  let s := if (s.ld t).flr then s.modLd t (fun l => { l with portDrain := true })
    else ((s.setBar t Reg.PRT_FLR 0#32).modLd t (fun l => { l with
      portDrain := true, drainAborted := 0, drainRefused := 0, drainLogged := false })).abortWork t
  ((((s.failTenant t).dropFetches t).resetWeir t).loseExtent t 0)

/-- A head enters DRAIN (R37): link down, hot reset, or PERST. -/
def State.enterDrain (p : Nat) (s : State) : State :=
  if (s.port p).st = .up then
    let ts := (s.headTenants p).filter (fun t => (s.ld t).enumerated)
    let s := s.modPort p (fun x => { x with st := .drain, width := 0#3, rate := 0#3, inL1 := false, ideSecure := false, ideActive := none })
    let s := s.dropHead ts
    (forAll ts (fun t s => s.drainLd t) s).asgnResume.closeResume
  else s

/-- A port starts training (Table PRT-5). -/
def State.train (p : Nat) (s : State) : State := (s.modPort p (fun x => { x with st := .train, fails := 0, backoff := false })).emit (.link p true)

/-- LINK_DOWN (R37). -/
def execLinkDown (p : PortId) (s : State) : Outcome State Fault Refusal := .next (s.enterDrain p.toNat)

/-- HOT_RESET (R37): as for a link down. -/
def execHotReset (p : PortId) (s : State) : Outcome State Fault Refusal := .next (s.enterDrain p.toNat)

/-- PERST of port p is asserted. -/
def State.perstOn (p : Nat) (s : State) : Bool := bit p s.pins.perst

/-- PERST_ASSERT (Table PRT-5): TRAIN goes to RESET, UP to DRAIN; ignored on the odd port of a bonded head (R27). -/
def execPerstAssert (p : PortId) (s : State) : Outcome State Fault Refusal :=
  let n := p.toNat
  let s := { s with pins := { s.pins with perst := setBit n true s.pins.perst } }
  if s.portUnused n then .next s
  else match (s.port n).st with
    | .train => .next ((s.modPort n (fun x => { x with st := .reset, backoff := false })).emit (.link n false))
    | .up => .next (s.enterDrain n)
    | _ => .next s

/-- The PHYs of a half are ready: step 2 of Table BUP-1 (R406). -/
def State.phyReady (p : Nat) (s : State) : Bool := (s.half (portHalf p)).stage ≠ .reset

/-- A port in RESET whose PERST is deasserted, with its PHY ready, starts training. -/
def State.leaveReset (p : Nat) (s : State) : State :=
  if (s.port p).st = .reset && !s.perstOn p && s.phyReady p && !s.portUnused p then
    s.train p
  else s

/-- PERST_DEASSERT (R26, R28, R457, R460): CLKSEL is sampled; bonding takes effect at the even port's deassertion while the odd
port's PERST is asserted, whatever the ports' states; the PHY is powered and training starts. -/
def execPerstDeassert (p : PortId) (clksel : Bool) (s : State) : Outcome State Fault Refusal :=
  let n := p.toNat
  let was := s.perstOn n
  let s := { s with pins := { s.pins with perst := setBit n false s.pins.perst,
                                          clkSel := if s.portUnused n then s.pins.clkSel else setBit n clksel s.pins.clkSel } }
  let s := if was && n % 2 = 0 && s.perstOn (n + 1) then
      s.modPort n (fun x => { x with bonded := bit (n / 2) (s.stw Reg.PRT_BOND) })
    else s
  .next (s.leaveReset n)

/-- PORT_DRAIN_COMPLETE (R37): the drain's record and the resets of Table PRT-8 for every logical device, and TRAIN or RESET
by PERST. It waits for an FLR drain that still runs (R50). -/
def execPortDrainComplete (p : PortId) (s : State) : Outcome State Fault Refusal :=
  let n := p.toNat
  let ts := (s.headTenants n).filter (fun t => (s.ld t).portDrain)
  if (s.port n).st ≠ .drain || ts.any (fun t => (s.ld t).flr || s.stillRuns t) then .next s
  else
    let s := forAll ts (fun t s => if (s.ld t).drainLogged then s else s.logDrain t (s.ld t)) s
    let s := forAll ts (fun t s => (s.resetTenant t false).modLd t (fun l =>
      { l.resetConfig with enumerated := false, hostBound := false, portDrain := false, hdm := {}, hdmWords := [] })) s
    let s := s.modPort n (fun x => { x with mld := false })
    if s.perstOn n then .next ((s.modPort n (fun x => { x with st := .reset })).emit (.link n false)) else .next (s.train n)

/-! Training (R34, R35). -/

/-- LINK_UP (R29, R40, R55): the head's logical devices are enumerated and W is recorded. -/
def execLinkUp (p : PortId) (width rate : BitVec 3) (mld : Bool) (s : State) : Outcome State Fault Refusal :=
  let n := p.toNat
  if (s.port n).st ≠ .train || (s.port n).backoff || s.portUnused n then .next s
  else
    let s := s.modPort n (fun x => { x with
      st := .up, fails := 0, width := width, rate := rate, mld := mld, linkUps := x.linkUps + 1#16, ideInsecure := false, ideKeys := [] })
    .next (forAll (s.headTenants n) (fun t s => s.modLd t (fun l => { l with
      enumerated := true, hostBound := !mld, recordedW := cfgWin (s.wttOf t).cfg })) s)

/-- TRAIN_FAIL (R35). -/
def execTrainFail (p : PortId) (s : State) : Outcome State Fault Refusal :=
  let n := p.toNat
  if (s.port n).st = .train && !(s.port n).backoff then
    .next ((s.modPort n (fun x => { x with fails := x.fails + 1, backoff := true })).cntStw (Reg.PRT_PSTAT + 4 * n) 31 16 1)
  else .next s

/-- TRAIN_BACKOFF_EXPIRE (R35): the next attempt starts at Detect. -/
def execTrainBackoffExpire (p : PortId) (s : State) : Outcome State Fault Refusal :=
  let n := p.toNat
  if (s.port n).st = .train && (s.port n).backoff then
    .next ((s.modPort n (fun x => { x with backoff := false })).emit (.link n true))
  else .next s

/-- LINK_RECOVERY (R34): not a link down. -/
def execLinkRecovery (p : PortId) (s : State) : Outcome State Fault Refusal :=
  let _ := p
  .next s

/-! Configuration requests (R31, R33, R47, R51, R52, R408). -/

/-- A logical device answers configuration requests: its half runs firmware or the recovery personality, and it does not
drain. -/
def State.cfgServed (t : Nat) (s : State) : Bool :=
  ((s.half (tenantHalf t)).stage = .firmware || (s.half (tenantHalf t)).stage = .recovery) && !s.draining t

/-- Bus Master Enable is set: what waited is issued in its order (R51); an MSI-X message is checked again where it is sent
(R33). -/
def State.setBme (t : Nat) (s : State) : State :=
  let w := (s.ld t).waiting
  let s := s.modLd t (fun l => { l with bme := true, waiting := [] })
  forAll w (fun w s => match w with
    | .msix v => s.raiseMsix t v
    | w => s.issueWant t w) s

/-- Lanes of PRT_PSTAT.WIDTH (Table PRT-6). -/
def widthLanes (w : BitVec 3) : Nat := if w = 0#3 then 0 else 2 ^ (w.toNat - 1)

/-- An entry of the Register Locator DVSEC: BAR, block identifier and offset (Table PRT-3). -/
def regBlock (n : Nat) : W32 :=
  if n = 0 then at32 16 0x1000 ||| at32 8 1
  else if n = 1 then at32 8 0xFF
  else at32 0 2 ||| at32 8 3

/-- Configuration registers, at their places in PCIe and CXL: what the spec gives of them, and free bits elsewhere
(R25, R31, R52, R55). -/
def State.cfgRead (t : Nat) (r : CfgReg) (s : State) : W32 :=
  let l := s.ld t
  let h := s.headPort (tenantPort t)
  let x : W32 := (Config.freeBits s.freeCtr).setWidth 32
  match r with
  | .ident => 0x71600000#32 ||| Config.vendorId.setWidth 32
  | .classCode => setBits 31 8 0x050210 x
  | .command => at32 2 (b2n l.bme)
  | .devCap => setBit 28 true x
  | .devCtl => setBit 15 false x
  | .linkStatus => setBits 25 20 (widthLanes (s.port h).width) (setBits 19 16 (s.port h).rate.toNat x)
  | .devCap2 => setBits 4 0 1 x
  | .devCtl2 => setBits 3 0 l.ctoField.toNat x
  | .pmcsr => at32 8 (b2n l.pmeEn) ||| at32 0 (if l.d3hot then 3 else 0)
  | .msixControl => at32 31 (b2n l.msixEn) ||| at32 30 (b2n l.fnMask) ||| at32 16 3
  | .aerUncor => setBit 16 l.aerUnexp (setBit 14 l.aerTimeout x)
  | .aerCor => setBit 13 l.aerUnexp x
  | .cxlCap => setBit 23 false (setBits 21 20 1 (setBits 18 16 6 x))
  | .regLocator n => regBlock n.toNat
  | .flexBus => setBit 6 (s.port h).mld (setBit 5 false (setBits 2 0 6 x))
  | .mld => at32 16 (if (s.port h).mld then 16 else 1) ||| at32 0 (t % 16)
  | .cdat hi => BitVec.ofNat 32 (8 * 2 ^ l.recordedW / (if hi then 2 ^ 32 else 1))
  | .other => x

/-- A write of the Completion Timeout Value field (R52). -/
def State.ctoWrite (t : Nat) (v : BitVec 4) (s : State) : State :=
  let us := if v = 1#4 then 50 else if v = 2#4 then 1000 else 10000
  (s.modLd t (fun l => { l with ctoField := v })).modBar t Reg.PRT_CTO (setBits 15 0 us)

def State.cfgWrite (t : Nat) (r : CfgReg) (v : W32) (s : State) : State :=
  match r with
  | .devCtl => if bit 15 v then s.flrStart t else s
  | .devCtl2 => s.ctoWrite t (BitVec.ofNat 4 (bits 3 0 v))
  | .aerUncor => s.modLd t (fun l => { l with aerTimeout := l.aerTimeout && !bit 14 v, aerUnexp := l.aerUnexp && !bit 16 v })
  | .aerCor => s.modLd t (fun l => { l with aerUnexp := l.aerUnexp && !bit 13 v })
  | .msixControl => (s.modLd t (fun l => { l with msixEn := bit 31 v, fnMask := bit 30 v })).flushMsix t
  | .pmcsr => s.modLd t (fun l => { l with pmeEn := bit 8 v, d3hot := if bits 1 0 v = 3 then true else if bits 1 0 v = 0 then false else l.d3hot })
  | .command => if bit 2 v then s.setBme t else s.modLd t (fun l => { l with bme := false })
  | _ => s

/-- CONFIG_REQUEST (R47, R408). -/
def execConfigRequest (t : Tenant) (write : Bool) (reg : CfgReg) (v : W32) (s : State) : Outcome State Fault Refusal :=
  let n := t.toNat
  if !(s.ld n).enumerated || !s.portUp (tenantPort n) then .next s
  else if !s.cfgServed n then .next (s.emit (.cfgDone n true 0#32))
  else
    let s := s.modLd n (fun l => { l with hostBound := true })
    if write then .next ((s.cfgWrite n reg v).emit (.cfgDone n false 0#32))
    else .next ((s.emit (.cfgDone n false (s.cfgRead n reg))).tickFree)

/-- CTO_VALUE_WRITE (R52). -/
def execCtoValueWrite (t : Tenant) (v : BitVec 4) (s : State) : Outcome State Fault Refusal :=
  let n := t.toNat
  if !(s.ld n).enumerated || !s.cfgServed n then .next s
  else .next (s.ctoWrite n v)

/-- BUS_MASTER_ENABLE_SET (R51). -/
def execBusMasterEnableSet (t : Tenant) (s : State) : Outcome State Fault Refusal :=
  let n := t.toNat
  if !(s.ld n).enumerated || !s.cfgServed n then .next s else .next (s.setBme n)

/-- Settings that the HDM decoder supports (R56): no skip, no more than the reported capacity, and the ways and
granularities of R56. -/
def Ld.hdmOk (l : Ld) (size skip : Nat) (ways gran : Nat) : Bool :=
  skip = 0 && size ≤ 8 * 2 ^ l.recordedW && [1, 2, 4, 8, 16].contains ways &&
  [256, 512, 1024, 2048, 4096, 8192, 16384].contains gran

/-- An HDM decoder commits, or sets its error; a locked one keeps what was committed. -/
def State.hdmCommit (n : Nat) (base size skip : W64) (ways gran : Nat) (lock : Bool) (s : State) : State :=
  let l := s.ld n
  if !l.enumerated || (l.hdm.committed && l.hdm.lock) then s
  else
    let h : Hdm := { base := base, size := size, ways := ways, gran := gran, lock := lock }
    let ok := l.hdmOk size.toNat skip.toNat ways gran
    s.setLd n { l with hdm := { h with committed := ok, error := !ok } }

/-- HDM_COMMIT (R56). -/
def execHdmCommit (t : Tenant) (base size skip : W64) (ways gran : Nat) (lock : Bool) (s : State) : Outcome State Fault Refusal :=
  .next (s.hdmCommit t.toNat base size skip ways gran lock)

end Sys2Proof.Machine
end

