-- ==== Sys2Proof/Machine/Security.lean ====
section
/-! DEFINITION. The security engine: fuses, SPDM, IDE streams, key slots, debug unlock and the bind
(spec/16_security.md). -/

namespace Sys2Proof.Machine

open Host (Outcome)

/-! Who serves. -/

/-- The half that holds the token (R434); North where both claim it. -/
def State.stewardHalf (s : State) : Option Half :=
  if s.north.role = .steward then some .north else if s.south.role = .steward then some .south else none

/-- A half's management core runs the image's code. -/
def State.inFirmware (h : Half) (s : State) : Bool := (s.half h).stage = .firmware

/-- Half that an endpoint's messages reach first; I3C goes to the steward. -/
def epHalf : Endpoint → Option Half
  | .doe t => some (tenantHalf t.toNat)
  | .mailbox p => some (portHalf p.toNat)
  | .vdm p => some (portHalf p.toNat)
  | .i3c => none

/-- A head whose FM-owned logical device answers: it is UP (R431). -/
def State.headUp (p : Nat) (s : State) : Bool := s.portUp p && !s.portUnused p

/-- An endpoint that messages can arrive at (R394, R431). -/
def State.reachable (e : Endpoint) (s : State) : Bool := match e with
  | .doe t => (s.ld t.toNat).enumerated && s.portUp (tenantPort t.toNat)
  | .mailbox p => s.headUp p.toNat
  | .vdm p => s.headUp p.toNat
  | .i3c => s.mgmt.i3cAddr.isSome

/-- A request at endpoint e reaches the steward (R396, R433). -/
def State.reachesSteward (e : Endpoint) (s : State) : Bool := match s.stewardHalf with
  | none => false
  | some h => match epHalf e with
    | none => true
    | some g => g = h || !s.split

/-- SPDM is served at e: the steward is reached and both it and the half of e run firmware, there is no conflict and no
debug unlock (R396, R404, Table BUP-5). -/
def State.spdmServed (e : Endpoint) (s : State) : Bool :=
  !s.conflict && !s.sec.unlocked && s.reachesSteward e &&
  (match s.stewardHalf with
    | some h => s.inFirmware h
    | none => false) &&
  (match epHalf e with
    | some g => s.inFirmware g
    | none => true)

def State.spdmOk (e : Endpoint) (d : List Byte) (s : State) : State := s.emit (.spdm e true d)
def State.spdmErr (e : Endpoint) (s : State) : State := s.emit (.spdm e false [])

/-- An SPDM request at e: the FM mailbox carries none (R405), a request that is not served is answered with Busy. -/
def State.spdmReq (e : Endpoint) (f : State → State) (s : State) : State :=
  if !s.reachable e then s
  else match e with
    | .mailbox _ => s.emit (.mgmtUnsupported e)
    | _ => if s.spdmServed e then f s else s.emit (.spdmBusy e)

def State.sessionOf (e : Endpoint) (id : Nat) (s : State) : Option Session := s.sec.sessions.find? (fun x => x.id = id && x.ep = e)

/-- An established session at e. -/
def State.inSession (e : Endpoint) (id : Nat) (s : State) : Bool := match s.sessionOf e id with
  | some x => x.established
  | none => false

/-- A request inside an established session; outside one it is answered with an error. -/
def State.spdmIn (e : Endpoint) (id : Nat) (f : State → State) (s : State) : State :=
  s.spdmReq e (fun s => if s.inSession e id then f s else s.spdmErr e)

/-- SEC_STAT (Table SEC-11). -/
def State.secStat (s : State) : W32 :=
  at32 31 (b2n s.fuse.dbgLock) ||| at32 30 (b2n s.fuse.dbgKill) ||| at32 29 (b2n s.sec.unlocked) |||
  at32 25 s.fuse.kRevoke.toNat ||| at32 16 s.fuse.minSvn.toNat ||| at32 0 (s.fuse.uCount % 256)

/-- What the alias key is derived from: the digests of indices 1 to 5 and the security state (R392). -/
def Sec.identity (c : Sec) : BitVec 512 :=
  Config.sha512 (((c.digests.take 5).map (fun d => leBytes 64 d.toNat)).flatten ++ leBytes 4 c.measured.toNat)

/-- Measurement of an index (Table SEC-6). -/
def Sec.measurement (c : Sec) (i : Nat) : Option (List Byte) :=
  if i = 6 then some (leBytes 4 c.measured.toNat)
  else if 1 ≤ i ∧ i ≤ 5 then some (leBytes 64 ((c.digests[i - 1]?).getD 0#512).toNat)
  else if i = 7 then some (leBytes 64 ((c.digests[5]?).getD 0#512).toNat)
  else none

/-! SPDM requests (R394, Table SEC-5; what SPDM itself fixes of an answer is left out, log 19). -/

/-- GET_VERSION: versions 1.3 and 1.2. -/
def execGetVersion (e : Endpoint) (s : State) : Outcome State Fault Refusal :=
  .next (s.spdmReq e (fun s => s.spdmOk e [0x13#8, 0x12#8]))

/-- GET_CAPABILITIES. -/
def execGetCapabilities (e : Endpoint) (s : State) : Outcome State Fault Refusal := .next (s.spdmReq e (fun s => s.spdmOk e []))

/-- NEGOTIATE_ALGORITHMS: the one set of Table SEC-5. -/
def execNegotiateAlgorithms (e : Endpoint) (s : State) : Outcome State Fault Refusal :=
  .next (s.spdmReq e (fun s => s.spdmOk e []))

/-- GET_DIGESTS: the digest of slot 0's chain. -/
def execGetDigests (e : Endpoint) (s : State) : Outcome State Fault Refusal :=
  .next (s.spdmReq e (fun s => s.spdmOk e (leBytes 64 (Config.sha512 (Config.certChain s.sec.identity)).toNat)))

/-- GET_CERTIFICATE (R393): slots 1 to 7 are empty. -/
def execGetCertificate (e : Endpoint) (slot : BitVec 4) (s : State) : Outcome State Fault Refusal :=
  .next (s.spdmReq e (fun s => if slot = 0#4 then s.spdmOk e (Config.certChain s.sec.identity) else s.spdmErr e))

/-- CHALLENGE: signed with the alias key (R392). -/
def execChallenge (e : Endpoint) (nonce : W256) (s : State) : Outcome State Fault Refusal :=
  .next (s.spdmReq e (fun s => s.spdmOk e (Config.aliasSign s.sec.identity (leBytes 32 nonce.toNat))))

/-- GET_MEASUREMENTS (R395). -/
def execGetMeasurements (e : Endpoint) (index : Byte) (signed : Bool) (s : State) : Outcome State Fault Refusal :=
  .next (s.spdmReq e (fun s =>
    let d : Option (List Byte) := if index = 0#8 then some [7#8]
      else if index = 0xFF#8 then some ((List.range 7).map (fun i => (s.sec.measurement (i + 1)).getD [])).flatten
      else s.sec.measurement index.toNat
    match d with
    | some b => s.spdmOk e (if signed then b ++ Config.aliasSign s.sec.identity b else b)
    | none => s.spdmErr e))

/-- KEY_EXCHANGE: 4 sessions per endpoint. -/
def execKeyExchange (e : Endpoint) (s : State) : Outcome State Fault Refusal :=
  .next (s.spdmReq e (fun s =>
    if (s.sec.sessions.filter (fun x => x.ep = e)).length ≥ 4 then s.spdmErr e
    else
      let id := s.sec.nextSession
      (s.modSec (fun c => { c with nextSession := id + 1, sessions := c.sessions ++ [{ id := id, ep := e, established := false }] })).spdmOk e
        (leBytes 4 id)))

/-- FINISH: the session is established. -/
def execFinish (e : Endpoint) (session : Nat) (s : State) : Outcome State Fault Refusal :=
  .next (s.spdmReq e (fun s => match s.sessionOf e session with
    | some x =>
      if x.established then s.spdmErr e
      else (s.modSec (fun c => { c with sessions := mapIf (fun y => decide (y.id = session)) (fun y => { y with established := true }) c.sessions })).spdmOk e []
    | none => s.spdmErr e))

/-- END_SESSION. -/
def execEndSession (e : Endpoint) (session : Nat) (s : State) : Outcome State Fault Refusal :=
  .next (s.spdmIn e session (fun s => (s.modSec (fun c => { c with sessions := c.sessions.filter (fun y => y.id ≠ session) })).spdmOk e []))

/-- HEARTBEAT. -/
def execHeartbeat (e : Endpoint) (session : Nat) (s : State) : Outcome State Fault Refusal :=
  .next (s.spdmIn e session (fun s => s.spdmOk e []))

/-- KEY_UPDATE. -/
def execKeyUpdate (e : Endpoint) (session : Nat) (s : State) : Outcome State Fault Refusal :=
  .next (s.spdmIn e session (fun s =>
    (s.modSec (fun c => { c with sessions := mapIf (fun y => decide (y.id = session)) (fun y => { y with updates := y.updates + 1 }) c.sessions })).spdmOk e []))

/-! Fuses (R391). -/

/-- Image that the steward runs: its SVN and its key. -/
def State.running (s : State) : HalfSt := s.half (s.stewardHalf.getD .north)

/-- STATUS of SEC_CSTAT; BUSY while a fuse write or a zeroise of SEC_KCMD runs. -/
def State.cstat (st : Status) (s : State) : State :=
  s.setStw Reg.SEC_CSTAT (at32 31 (b2n (s.sec.fuseBusy || s.sec.kcmdWait ≠ [])) ||| at32 0 st.code)

/-- BUSY of SEC_CSTAT follows what still runs. -/
def State.cstatBusy (s : State) : State :=
  s.modStw Reg.SEC_CSTAT (setBit 31 (s.sec.fuseBusy || s.sec.kcmdWait ≠ []))

/-- A fuse command: refused in a conflict or while one runs; an operation that the spec reserves is denied by bad. -/
def State.fuseCmd (bad denied : Bool) (f : Fuses → Fuses) (s : State) : State :=
  if s.conflict then s.cstat .stewardConflict
  else if s.sec.fuseBusy then s.cstat .slotBusy
  else if bad then s.cstat .badDescriptor
  else if denied then s.cstat .permission
  else State.cstat .ok { s.modSec (fun c => { c with fuseBusy := true }) with fuse := f s.fuse }

/-- RAISE_MINSVN (R391): never lowered. -/
def execRaiseMinsvn (s : State) : Outcome State Fault Refusal :=
  let v := s.running.runSvn
  .next (s.fuseCmd false false (fun f => if f.minSvn.toNat < v.toNat then { f with minSvn := v } else f))

/-- REVOKE_KEY (R391): not the key that signed the running image. -/
def execRevokeKey (k : BitVec 2) (s : State) : Outcome State Fault Refusal :=
  .next (s.fuseCmd false (decide (s.running.keyIdx = k)) (fun f => { f with kRevoke := setBit k.toNat true f.kRevoke }))

/-- FUSE_WRITE_DONE (R391). -/
def execFuseWriteDone (s : State) : Outcome State Fault Refusal :=
  .next (if s.sec.fuseBusy then (s.modSec (fun c => { c with fuseBusy := false })).cstatBusy else s)

/-! Key commands (R401 to R403). -/

inductive KeyCmd where
  | load (k1 k2 : W256)
  | keygen
  | zeroise
  | zeroiseAll
deriving DecidableEq, Repr

def KeyCmd.isZeroise : KeyCmd → Bool
  | .zeroise => true
  | .zeroiseAll => true
  | _ => false

/-- Permission of a key command in a session with e (R403, order 2). -/
def State.keyDenied (c : KeyCmd) (e : Endpoint) (s : State) : Bool :=
  (match c with
    | .load _ _ => s.sec.bound ≠ some e
    | _ => false) || (s.sec.bound.isSome && s.sec.bound ≠ some e)

/-- A refusal of Table SEC-8. -/
def State.keyBusy (c : KeyCmd) (slot : Nat) (s : State) : Bool := match c with
  | .load _ _ => (s.key slot).st ≠ .empty
  | .keygen => (s.key slot).st ≠ .empty
  | .zeroise => (s.key slot).st = .zeroising
  | .zeroiseAll => s.sec.keys.any (fun e => e.2.st = .zeroising)

/-- The Keys function reports ready on the steward's half (Table BUP-3). -/
def State.keysReady (s : State) : Bool := match s.stewardHalf with
  | some h => bit (fnBit .keys) (s.half h).ready
  | none => false

/-- The first status of R403 that applies; denied is its order 2, bad a reserved field that is not zero. A command that
would end OK before the Keys function is ready ends NOT_READY. -/
def State.keyStatus (c : KeyCmd) (denied bad : Bool) (slot : Nat) (s : State) : Status :=
  let same := match c with
    | .load k1 k2 => decide (k1 = k2)
    | _ => false
  if s.conflict then .stewardConflict
  else if denied then .permission
  else if s.split && !c.isZeroise then .poisonConsumed
  else if bad || same then .badDescriptor
  else if s.keyBusy c slot then .slotBusy
  else if !s.keysReady then .notReady
  else .ok

/-- A key enters a slot (Table SEC-8). -/
def State.keyInstall (slot : Nat) (k : BitVec 512) (gen : Bool) (s : State) : State :=
  s.modKey slot (fun x => { x with st := .loaded, k := k, drbg := gen, gen := x.gen + 1#16 })

/-- The half that does not hold the token keeps a slot's key while the bridge is down (R403). -/
def State.pendKey (slot : Nat) (s : State) : State :=
  match s.split, s.stewardHalf with
  | true, some h => s.modHalf (halfOther h) (fun x => { x with pendZeroise := nins slot x.pendZeroise })
  | _, _ => s

/-- ZEROISE of a slot: a LOADED one is ZEROISING; an EMPTY one stays so. -/
def State.keyZeroise (slot : Nat) (s : State) : State :=
  if (s.key slot).st = .loaded then (s.modKey slot (fun x => { x with st := .zeroising })).pendKey slot else s

/-- What an accepted key command does. -/
def State.keyDo (c : KeyCmd) (slot : Nat) (s : State) : State := match c with
  | .load k1 k2 => s.keyInstall slot (k2 ++ k1) false
  | .keygen =>
    (s.keyInstall slot (Config.drbg (s.sec.drbgNo + 1) ++ Config.drbg s.sec.drbgNo) true).modSec (fun x => { x with drbgNo := x.drbgNo + 2 })
  | .zeroise => s.keyZeroise slot
  | .zeroiseAll => forAll (s.sec.keys.map Prod.fst) (fun k s => s.keyZeroise k) s

/-- A vendor-defined key command (Table SEC-9) and its 4-byte response. -/
def State.keyVendor (e : Endpoint) (session : Nat) (c : KeyCmd) (slot : Nat) (rsvd : Bool) (s : State) : State :=
  s.spdmIn e session (fun s =>
    let st := s.keyStatus c (s.keyDenied c e) rsvd slot
    let s := if st = .ok then s.keyDo c slot else s
    let gen := if c = .zeroiseAll then (Config.freeBits s.freeCtr).toNat else (s.key slot).gen.toNat
    (s.spdmOk e ([BitVec.ofNat 8 st.code, 0#8] ++ leBytes 2 gen)).tickFree)

/-- SPDM_LOAD. -/
def execSpdmLoad (e : Endpoint) (session : Nat) (slot : BitVec 8) (rsvd : Bool) (k1 k2 : W256) (s : State) : Outcome State Fault Refusal :=
  .next (s.keyVendor e session (.load k1 k2) slot.toNat rsvd)

/-- SPDM_KEYGEN. -/
def execSpdmKeygen (e : Endpoint) (session : Nat) (slot : BitVec 8) (rsvd : Bool) (s : State) : Outcome State Fault Refusal :=
  .next (s.keyVendor e session .keygen slot.toNat rsvd)

/-- SPDM_ZEROISE. -/
def execSpdmZeroise (e : Endpoint) (session : Nat) (slot : BitVec 8) (rsvd : Bool) (s : State) : Outcome State Fault Refusal :=
  .next (s.keyVendor e session .zeroise slot.toNat rsvd)

/-- SPDM_ZEROISE_ALL. -/
def execSpdmZeroiseAll (e : Endpoint) (session : Nat) (rsvd : Bool) (s : State) : Outcome State Fault Refusal :=
  .next (s.keyVendor e session .zeroiseAll 0 rsvd)

/-- A write of SEC_KCMD (Table SEC-13): BUSY while a slot it zeroises is ZEROISING. -/
def State.kcmd (c : KeyCmd) (bad : Bool) (slot : Nat) (s : State) : State :=
  let st := s.keyStatus c false bad slot
  if st = .ok then
    let s := s.keyDo c slot
    let w := if c.isZeroise then (s.sec.keys.filter (fun e => e.2.st = .zeroising && (c = .zeroiseAll || e.1 = slot))).map Prod.fst else []
    (s.modSec (fun x => { x with kcmdWait := ninsAll w x.kcmdWait })).cstat .ok
  else s.cstat st

/-- KCMD_KEYGEN. -/
def execKcmdKeygen (slot : BitVec 8) (s : State) : Outcome State Fault Refusal := .next (s.kcmd .keygen false slot.toNat)

/-- KCMD_ZEROISE. -/
def execKcmdZeroise (slot : BitVec 8) (s : State) : Outcome State Fault Refusal := .next (s.kcmd .zeroise false slot.toNat)

/-- KCMD_ZEROISE_ALL. -/
def execKcmdZeroiseAll (s : State) : Outcome State Fault Refusal := .next (s.kcmd .zeroiseAll false 0)

/-- A cipher use of the slot is in flight: a tier read that has not returned (R402). -/
def State.keyInUse (slot : Nat) (s : State) : Bool := s.dmc.reads.any (fun r => !r.timedOut && r.req.any (fun q => q.enc = some slot))

/-- A half still keeps the slot's key (R403). -/
def State.keyKept (slot : Nat) (s : State) : Bool := nmem slot s.north.pendZeroise || nmem slot s.south.pendZeroise

/-- ZEROISE_DONE (R402): the slot is EMPTY and its key overwritten. -/
def execZeroiseDone (slot : BitVec 8) (s : State) : Outcome State Fault Refusal :=
  let n := slot.toNat
  if (s.key n).st ≠ .zeroising || s.keyInUse n then .next s
  else
    let kept := s.keyKept n
    let s := s.modKey n (fun x => { x with st := .empty, k := if kept then x.k else 0#512 })
    .next ((s.modSec (fun x => { x with kcmdWait := ndel n x.kcmdWait })).cstatBusy)

/-! The bind and the debug lock (R404, R405). -/

/-- BIND_WRITE (R405): ignored outside a session, in a conflict, and once BIND is set; neither a DOE mailbox nor the FM
mailbox can make it. -/
def execBindWrite (e : Endpoint) (session : Option Nat) (eid : Byte) (s : State) : Outcome State Fault Refusal :=
  let can := match e with
    | .vdm _ => true
    | .i3c => true
    | _ => false
  let ok := match session with
    | some i => s.inSession e i
    | none => false
  .next (if can && ok && s.reachable e && s.spdmServed e && s.sec.bound.isNone then
      s.modSec (fun c => { c with bound := some e, boundEid := eid })
    else s)

/-- Every slot takes EMPTY at once (Table SEC-8, debug unlock); a half behind a down bridge follows later (R403). -/
def State.keysEmpty (s : State) : State :=
  let live := (s.sec.keys.filter (fun e => e.2.st = .loaded)).map Prod.fst
  let s := forAll live (fun k s => s.pendKey k) s
  let s := forAll (s.sec.keys.map Prod.fst) (fun k s =>
    let kept := s.keyKept k
    s.modKey k (fun x => { x with st := .empty, k := if kept then x.k else 0#512 })) s
  (s.modSec (fun x => { x with kcmdWait := [] })).cstatBusy

/-- A head's stream is Insecure and the head drains (R398). -/
def State.ideFail (p : Nat) (s : State) : State :=
  if (s.port p).ideActive.isSome then (s.modPort p (fun x => { x with ideInsecure := true, ideSecure := false })).enterDrain p else s

/-- DEBUG_UNLOCK (R404). -/
def execDebugUnlock (e : Endpoint) (session : Nat) (token : List Byte) (s : State) : Outcome State Fault Refusal :=
  .next (s.spdmIn e session (fun s =>
    let ok := !s.fuse.dbgKill && s.fuse.uCount < 255 && Config.tokenOk token Config.serial (Config.drbg s.sec.nonceNo)
    let s := s.modSec (fun c => { c with nonceNo := c.drbgNo, drbgNo := c.drbgNo + 1 })
    if ok then
      let s := { s with fuse := { s.fuse with uCount := s.fuse.uCount + 1 } }
      let s := forAll (List.range 16) (fun p s => s.ideFail p) s.keysEmpty
      let s := s.spdmOk e [BitVec.ofNat 8 Status.ok.code]
      s.modSec (fun c => { c with sessions := [], unlocked := true })
    else s.emit (.spdm e false [BitVec.ofNat 8 Status.permission.code])))

/-! IDE streams (R397, R398). -/

/-- Where IDE_KM of a head is served: DOE of logical device 0, or the FM-owned device of an MLD head. -/
def State.ideEp (p : PortId) (s : State) : Endpoint :=
  let h := s.headPort p.toNat
  if (s.port h).mld then .vdm (BitVec.ofNat 4 h) else .doe (BitVec.ofNat 8 (16 * h))

/-- An IDE_KM message of head p inside a session. -/
def State.ideKm (p : PortId) (session : Nat) (f : Nat → State → State) (s : State) : State :=
  s.spdmIn (s.ideEp p) session (fun s => f (s.headPort p.toNat) s)

def ksNo (b : Bool) : Nat := b.toNat

/-- KEY_PROG. -/
def execKeyProg (p : PortId) (session : Nat) (keySet : Bool) (s : State) : Outcome State Fault Refusal :=
  .next (s.ideKm p session (fun h s => (s.modPort h (fun x => { x with ideKeys := nins (ksNo keySet) x.ideKeys })).spdmOk (s.ideEp p) []))

/-- K_SET_GO: a programmed key set becomes active and the stream Secure. -/
def execKSetGo (p : PortId) (session : Nat) (keySet : Bool) (s : State) : Outcome State Fault Refusal :=
  .next (s.ideKm p session (fun h s =>
    if nmem (ksNo keySet) (s.port h).ideKeys then
      (s.modPort h (fun x => { x with ideActive := some (ksNo keySet), ideSecure := true, ideInsecure := false })).spdmOk (s.ideEp p) []
    else s.spdmErr (s.ideEp p)))

/-- K_SET_STOP: the key set is no longer used; without an active set the stream is not established. -/
def execKSetStop (p : PortId) (session : Nat) (keySet : Bool) (s : State) : Outcome State Fault Refusal :=
  .next (s.ideKm p session (fun h s =>
    (s.modPort h (fun x => if x.ideActive = some (ksNo keySet) then
        { x with ideActive := none, ideSecure := false, ideKeys := ndel (ksNo keySet) x.ideKeys }
      else { x with ideKeys := ndel (ksNo keySet) x.ideKeys })).spdmOk (s.ideEp p) []))

/-- IDE_INTEGRITY_FAIL (R398). -/
def execIdeIntegrityFail (p : PortId) (s : State) : Outcome State Fault Refusal := .next (s.ideFail (s.headPort p.toNat))

end Sys2Proof.Machine
end

