-- ==== Sys2Proof/Machine/Update.lean ====
section
/-! DEFINITION. Checks of the firmware image, updates of it, and BIST by command (spec/16_security.md R387 to R390,
spec/17_bring_up.md R415 to R421). -/

namespace Sys2Proof.Machine

open Host (Outcome)

/-! The image (Table SEC-2). -/

/-- n bytes at a, little-endian. -/
def imgLe (m : Mem) (a n : Nat) : Nat := leNat (mread a n m)

/-- A section: type, offset, bytes. -/
structure Sect where
  typ : Nat
  rsv : Nat
  off : Nat
  len : Nat
deriving DecidableEq, Repr

def imgSects (m : Mem) : List Sect :=
  (List.range (imgLe m 12 1 % 64)).map (fun i =>
    { typ := imgLe m (64 + 12 * i) 2, rsv := imgLe m (66 + 12 * i) 2, off := imgLe m (68 + 12 * i) 4, len := imgLe m (72 + 12 * i) 4 })

def imgLength (m : Mem) : Nat := imgLe m 16 8

/-- Two ranges do not meet. -/
def Sect.apart (a b : Sect) : Bool := a.off + a.len ≤ b.off || b.off + b.len ≤ a.off

/-- Check 1 of Table SEC-3; avail is how many bytes there are. -/
def imgLayoutOk (m : Mem) (avail : Nat) : Bool :=
  imgLe m 0 4 = 0x31464D41 && imgLe m 4 1 = 0x10 && imgLe m 5 1 < 4 && imgLe m 6 2 = 0 && imgLe m 8 1 < 64 && imgLe m 9 3 = 0 &&
  1 ≤ imgLe m 12 1 && imgLe m 12 1 ≤ 32 && imgLe m 13 3 = 0 && 1024 ≤ imgLength m && imgLength m ≤ min 62914560 avail &&
  imgLe m 24 40 = 0 && imgLe m 448 64 = 0 &&
  (let l := imgSects m
   l.all (fun x => x.rsv = 0 && 1024 ≤ x.off && x.off + x.len ≤ imgLength m && 1 ≤ x.typ && x.typ ≤ 7) &&
   l.Pairwise (fun a b => a.apart b = true ∧ a.typ ≠ b.typ) && l.length = 7)

/-- The bytes that the signature covers (R389). -/
def imgSigned (m : Mem) : List Byte := mread 0 512 m ++ mread 1024 (imgLength m - 1024) m

/-- The first check of Table SEC-3 that fails, as LASTERR; 0 where none does. A mixed image does not verify (R419). -/
def State.imageErr (m : Mem) (avail : Nat) (mixed : Bool) (s : State) : Nat :=
  if !imgLayoutOk m avail then 1
  else if bit (imgLe m 5 1) s.fuse.kRevoke then 2
  else if mixed || !Config.signatureOk (imgLe m 5 1) (imgSigned m) (mread 512 512 m) then 3
  else if imgLe m 8 1 < s.fuse.minSvn.toNat then 4
  else 0

/-- Digest of the header, which the halves exchange (Table BUP-1). -/
def imgDigest (m : Mem) : BitVec 512 := Config.sha512 (mread 0 1024 m)

/-- Bytes of the sections of some types, in order of type. -/
def imgOf (m : Mem) (l : List Nat) : List Byte :=
  (l.map (fun t => match (imgSects m).find? (fun x => x.typ = t) with
    | some x => mread x.off x.len m
    | none => [])).flatten

/-- Digests of indices 1 to 5 and 7 (Table SEC-6), fixed by the first image that passes after module reset (R395). -/
def State.measure (s : State) : State :=
  if s.sec.digests ≠ [] then s
  else
    let m := s.flash.img
    let d := [Config.romDigest, imgDigest m, Config.sha512 (imgOf m [1, 2]), Config.sha512 (imgOf m [3, 4]), Config.sha512 (imgOf m [5, 6, 7])]
    s.modSec (fun c =>
      let c := { c with digests := d }
      { c with digests := d ++ [Config.sha512 (Config.aliasCert c.identity)] })

/-- Milliseconds since the half's trigger. -/
def State.msNow (h : Half) (s : State) : Nat := min 0xFFFF ((s.clk.us - (s.half h).trigUs) / 1000)

/-- A half enters a stage (Table BUP-8). -/
def State.enterStage (h : Half) (st : Stage) (s : State) : State :=
  if (s.half h).stage = st then s else s.modHalf h (fun x => { x with stage := st, stageMs := s.msNow h })

/-- Function Readiness Status of the logical devices of a half (R408). -/
def State.frsHalf (h : Half) (s : State) : State :=
  forAll ((List.range 256).filter (fun t => (s.ld t).enumerated && tenantHalf t = h)) (fun t s => s.emit (.frs t)) s

/-- A half's ROM reads and checks the flash (R390, R415). -/
def State.checkFlash (h : Half) (s : State) : State :=
  let e := s.imageErr s.flash.img 62914560 s.flash.mixed
  if e = 0 then (s.measure.modHalf h (fun x => { x with passed := some (imgDigest s.flash.img) })).enterStage h .verify
  else
    let first := (s.half h).stage ≠ .recovery
    let s := (s.modHalf h (fun x => { x with lastErr := e, nFail := min 0xFF (x.nFail + 1) })).enterStage h .recovery
    if first then s.frsHalf h else s

/-! Updates (R417 to R419). -/

/-- The ROM carries out BUP_UPD: the steward's half is in the recovery personality. -/
def State.romServes (s : State) : Bool := (s.half (s.stewardHalf.getD .north)).stage = .recovery

/-- STATUS of BUP_USTAT; its BUSY and STATE are composed on a read. -/
def State.ustat (st : Status) (s : State) : State := s.modStw Reg.BUP_USTAT (setBits 7 0 st.code)

/-- Size that a CHUNK is checked against: the update's, or BUP_ULEN without one. -/
def State.updLen (s : State) : Nat := if s.upd.st = .idle then (s.stw Reg.BUP_ULEN).toNat else s.upd.len

/-- The first status of Table BUP-6, up to what OP 2 finds. -/
def State.updCheck (busy bad denied : Bool) (s : State) : Status :=
  if s.conflict then .stewardConflict
  else if s.upd.st = .committing || busy then .slotBusy
  else if bad then .badDescriptor
  else if denied then .permission
  else .ok

/-- UPDATE_BEGIN (OP 0). -/
def execUpdateBegin (s : State) : Outcome State Fault Refusal :=
  let n := (s.stw Reg.BUP_ULEN).toNat
  let st := s.updCheck (s.upd.st ≠ .idle) (n < 1024 || 62914560 < n) false
  .next ((if st = .ok then s.modUpd (fun u => { u with st := .loading, len := n, chunks := [], bytes := [] }) else s).ustat st)

/-- The 4 KiB of BUP_UWIN. -/
def State.uwinBytes (s : State) : List Byte := ((List.range 1024).map (fun w => leBytes 4 (tget 0#32 w s.upd.win).toNat)).flatten

/-- UPDATE_CHUNK (OP 1): held, or programmed into the flash in recovery. -/
def execUpdateChunk (c : BitVec 14) (s : State) : Outcome State Fault Refusal :=
  let a := 4096 * c.toNat
  let st := s.updCheck false (s.updLen ≤ a) (s.upd.st ≠ .loading)
  let b := s.uwinBytes
  let s := if st = .ok then
      let s := s.modUpd (fun u => { u with chunks := nins c.toNat u.chunks })
      if s.romServes then { s with flash := { s.flash with img := mwrite a b s.flash.img } }
      else s.modUpd (fun u => { u with bytes := mwrite a b u.bytes })
    else s
  .next (s.ustat st)

/-- Every chunk of the update has arrived. -/
def Upd.complete (u : Upd) : Bool := (List.range (ceilDiv u.len 4096)).all (fun c => nmem c u.chunks)

/-- LASTERR of the half that carries an update out. -/
def State.noteErr (e : Nat) (s : State) : State := s.modHalf (s.stewardHalf.getD .north) (fun x => { x with lastErr := e })

/-- A recovery update is complete: each half in recovery checks the flash at once (R415). -/
def State.recoverAll (s : State) : State :=
  forAll [Half.north, Half.south] (fun h s => if (s.half h).stage = .recovery then s.checkFlash h else s) s

/-- UPDATE_VERIFY (OP 2). -/
def execUpdateVerify (s : State) : Outcome State Fault Refusal :=
  let rom := s.romServes
  match s.updCheck false false (s.upd.st ≠ .loading) with
  | .ok =>
    if !s.upd.complete then .next (s.ustat .checkMismatch)
    else
      let e := s.imageErr (if rom then s.flash.img else s.upd.bytes) s.upd.len false
      if e ≠ 0 then .next ((s.noteErr e).ustat .checkMismatch)
      else if rom then
        let s := { s.modUpd (fun u => { u with st := .idle, len := 0, chunks := [] }) with flash := { s.flash with mixed := false } }
        .next (s.recoverAll.ustat .ok)
      else .next ((s.modUpd (fun u => { u with st := .verified })).ustat .ok)
  | st => .next (s.ustat st)

/-- UPDATE_COMMIT (OP 3): BUSY until the flash is written. -/
def execUpdateCommit (s : State) : Outcome State Fault Refusal :=
  let st := s.updCheck false false (s.upd.st ≠ .verified)
  .next ((if st = .ok then s.modUpd (fun u => { u with st := .committing }) else s).ustat st)

/-- UPDATE_ABANDON (OP 4). -/
def execUpdateAbandon (s : State) : Outcome State Fault Refusal :=
  let st := s.updCheck false false false
  .next ((if st = .ok then s.modUpd (fun u => { u with st := .idle, len := 0, chunks := [], bytes := [] }) else s).ustat st)

/-- The flash with the first n bytes of the update's image in it. -/
def State.flashed (n : Nat) (s : State) : Mem := mwrite 0 (mread 0 (min n s.upd.len) s.upd.bytes) s.flash.img

/-- UPDATE_COMMIT_DONE (R419): the image read back is checked once more. -/
def execUpdateCommitDone (s : State) : Outcome State Fault Refusal :=
  if s.upd.st ≠ .committing then .next s
  else
    let img := s.flashed s.upd.len
    let e := s.imageErr img s.upd.len false
    let s := { s.modUpd (fun u => { u with st := .idle, len := 0, chunks := [], bytes := [] }) with flash := { s.flash with img := img, mixed := false } }
    .next (if e = 0 then s.ustat .ok else (s.noteErr e).ustat .checkMismatch)

/-- A commit that a module reset cuts off leaves a mixed image: an open number of 64 KiB sectors is written (R419). -/
def State.cutCommit (s : State) : State :=
  if s.upd.st = .committing then
    let n := ceilDiv s.upd.len 65536
    { s.tickFree with flash := { s.flash with img := s.flashed (65536 * freeBelow n s), mixed := true } }
  else s

/-! BIST by command (R420, R421). -/

/-- The state that Table BUP-7 requires of a target. -/
def State.bistReady (cls n : Nat) (s : State) : Bool :=
  match cls with
  | 0 => (s.fe n).ctl.st = .fenced
  | 1 => (s.tc n).st = .fenced
  | 2 => nmem n s.dmc.retiredRanks || (256 ≤ n && (s.freeSpares ((n - 256) / 8)).contains n)
  | _ => (s.port n).st = .reset

/-- Targets of a class (Table BUP-14). -/
def bistCount (cls : Nat) : Nat :=
  match cls with
  | 0 => 16
  | 1 => 64
  | 2 => 272
  | 3 => 16
  | _ => 0

/-- Unit and scope of a run at the maintenance arbiter. -/
def bistUnit (cls n : Nat) : Nat := 3000 + 512 * cls + n
def bistScope (cls n : Nat) : List Nat :=
  match cls with
  | 0 => [scFe n]
  | 1 => [scTc n]
  | 2 => [n / 2]
  | _ => []

def State.bistStatus (st : Status) (s : State) : State := s.modStw Reg.BUP_BSTAT (setBits 7 0 st.code)

/-- TPASS of an engine or core under test. -/
def State.bistTpass (cls n : Nat) (v : Bool) (s : State) : State :=
  match cls with
  | 0 => s.modFe n (fun e => { e with ctl := { e.ctl with tpass := v } })
  | 1 => s.modTc n (fun c => { c with tpass := v })
  | _ => s

/-- BUP_BCMD (R421). -/
def State.bistStart (cls n : Nat) (s : State) : State :=
  if s.conflict then s.bistStatus .stewardConflict
  else if s.upd.bist.isSome then s.bistStatus .slotBusy
  else if bistCount cls ≤ n then s.bistStatus .badDescriptor
  else if !s.bistReady cls n then s.bistStatus .permission
  else
    let s := (s.modUpd (fun u => { u with bist := some (cls, n) })).setStw Reg.BUP_BSTAT 0x80000000#32
    (s.bistTpass cls n false).maintAsk 6 (bistScope cls n) (bistUnit cls n)

/-- BIST_FE (CLASS 0). -/
def execBistFe (n : BitVec 9) (s : State) : Outcome State Fault Refusal := .next (s.bistStart 0 n.toNat)

/-- BIST_TC (CLASS 1). -/
def execBistTc (n : BitVec 9) (s : State) : Outcome State Fault Refusal := .next (s.bistStart 1 n.toNat)

/-- BIST_RANK (CLASS 2). -/
def execBistRank (n : BitVec 9) (s : State) : Outcome State Fault Refusal := .next (s.bistStart 2 n.toNat)

/-- BIST_PORT (CLASS 3). -/
def execBistPort (n : BitVec 9) (s : State) : Outcome State Fault Refusal := .next (s.bistStart 3 n.toNat)

/-- BIST_DONE (R420, R421): the run passes when the signatures are equal; a target that left its state ends it with
PERMISSION. A rank's expected signature is 0. -/
def execBistDone (sig expected : W32) (s : State) : Outcome State Fault Refusal :=
  match s.upd.bist with
  | none => .next s
  | some (c, n) =>
    let s' := (s.modUpd (fun u => { u with bist := none })).maintEnd 6 (bistUnit c n)
    if !s.bistReady c n then .next (s'.setStw Reg.BUP_BSTAT (at32 0 Status.permission.code))
    else if !s.holdsGrant 6 (bistUnit c n) then .next s
    else
      let ex := if c = 2 then 0#32 else expected
      let s' := (s'.setStw Reg.BUP_BSIG sig).setStw Reg.BUP_BEXP ex
      .next ((s'.setStw Reg.BUP_BSTAT (at32 30 (b2n (sig = ex)))).bistTpass c n (decide (sig = ex)))

end Sys2Proof.Machine
end

