-- ==== Sys2Proof/Machine/BringUp.lean ====
section
/-! DEFINITION. Module reset, power input and bring-up (spec/02_host_ports.md R42, spec/17_bring_up.md R406 to R416,
spec/20_module_hardware.md R455 to R459). -/

namespace Sys2Proof.Machine

open Host (Outcome)

/-- A module reset (R42, R441): everything but the fuses, the flash and the pins takes its reset value. The free-value
counters go on, and so do the commands that wait and what was sent. -/
def State.moduleReset (p : Pins) (s : State) : State :=
  let s := s.cutCommit
  let r := State.afterReset { p with thermN := p.trip } s.fuse s.flash
  { r with freeCtr := s.freeCtr, out := s.out, pending := s.pending,
           sec := { r.sec with nonceNo := s.sec.drbgNo, drbgNo := s.sec.drbgNo + 1 } }

/-- MODULE_RESET (R42, R461): RESET_N asserted, or PWRGOOD deasserted. -/
def execModuleReset (byResetN : Bool) (s : State) : Outcome State Fault Refusal :=
  .next (s.moduleReset (if byResetN then { s.pins with resetN := true } else { s.pins with pwrGood := false }))

/-- VIN_OUT_OF_RANGE (R455, R456): the rails go off. -/
def execVinOutOfRange (s : State) : Outcome State Fault Refusal :=
  .next (s.moduleReset { s.pins with vinOk := false, railsGood := false })

/-- VIN_RESTORED (R455): the rails come on; they are not good yet. -/
def execVinRestored (s : State) : Outcome State Fault Refusal := .next { s with pins := { s.pins with vinOk := true } }

/-- RAILS_GOOD (R456): possible only with VIN in range. -/
def execRailsGood (s : State) : Outcome State Fault Refusal :=
  .next (if s.pins.vinOk then { s with pins := { s.pins with railsGood := true } } else s)

/-- RAIL_OUT_OF_LIMITS (R456). -/
def execRailOutOfLimits (s : State) : Outcome State Fault Refusal := .next (s.moduleReset { s.pins with railsGood := false })

/-- MESH_LINK_FAILURE (R386, Table RAS-12): flows wait up to 5 µs and go on over other links. -/
def execMeshLinkFailure (h : Half) (s : State) : Outcome State Fault Refusal :=
  let _ := h
  .next s

/-! Bring-up (Table BUP-1). -/

def halves : List Half := [Half.north, Half.south]

/-- BRINGUP_TRIGGER (R406, steps 1 and 2): the security state is measured, both boot ROMs start, and each port whose PERST
is deasserted leaves RESET. bridge says whether the bridge comes up by step 3. -/
def execBringupTrigger (bridge : Bool) (s : State) : Outcome State Fault Refusal :=
  if !s.pins.vinOk || !s.pins.railsGood || s.pins.trip || s.north.stage ≠ .reset || s.south.stage ≠ .reset then .next s
  else
    let s := { s with pins := { s.pins with resetN := false, pwrGood := true }, bridge := { s.bridge with up := bridge } }
    let s := s.modSec (fun c => { c with measured := s.secStat })
    let s := forAll halves (fun h s => (s.modHalf h (fun x => { x with trigUs := s.clk.us })).enterStage h .rom) s
    .next (forAll (List.range 16) (fun p s => s.leaveReset p) s)

/-- Step 3: a half's ROM reads and checks the image once (R406, R390). -/
def State.step3 (h : Half) (s : State) : State := if (s.half h).stage = .rom then s.checkFlash h else s

/-- The memory configuration block of the image is applied (R323): BGRAIN, NGRAIN of 0 to 2, and the hashes. -/
def State.applyConfig (s : State) : State :=
  let w := Config.memConfig (imgOf s.flash.img [5])
  s.setStw Reg.DMC_MAP ((w &&& 0x303#32) ||| at32 4 (bits 5 4 w % 3))

/-- Step 4 (R406): the memory configuration block is applied, and the script sets of types 3 and 4 are loaded. -/
def State.step4 (h : Half) (s : State) : State :=
  ((s.enterStage h .dramInit).applyConfig).modDmc (fun d => { d with
    setVer := tset 0#16 1 (Config.scriptVersion (imgOf s.flash.img [4])) (tset 0#16 0 (Config.scriptVersion (imgOf s.flash.img [3])) d.setVer) })

/-- VERIFY_SYNC (R407): a half that has passed goes on once the other reports a pass with the same digest over the bridge. -/
def execVerifySync (h : Half) (s : State) : Outcome State Fault Refusal :=
  let s := s.step3 h
  let a := s.half h
  let b := s.half (halfOther h)
  .next (if a.stage = .verify && s.bridge.up && a.passed.isSome && a.passed = b.passed then s.step4 h else s)

/-- VERIFY_WAIT_TIMEOUT (R407): without a bridge the half proceeds alone, and the module reports SPLIT. -/
def execVerifyWaitTimeout (h : Half) (s : State) : Outcome State Fault Refusal :=
  let s := s.step3 h
  if (s.half h).stage = .verify && !s.bridge.up then
    .next ((((s.step4 h).stewRec 4 0).alert alSplit).fmHealth { typ := 0x15, sev := 1, aux0 := 4 })
  else .next s

/-- RECOVERY_RETRY (R415). -/
def execRecoveryRetry (h : Half) (s : State) : Outcome State Fault Refusal :=
  .next (if (s.half h).stage = .recovery then s.checkFlash h else s)

/-- Half that a unit of the retirement list belongs to. -/
def retUnitHalf (w : W64) : Half :=
  let n := retNumber w
  match retKind w with
  | 1 => feHalf n
  | 2 => tcHalf n
  | 3 => bankHalf n
  | 4 => halfOf (if n < 256 then n / 128 else (n - 256) / 8)
  | 5 => slotHalf n
  | _ => halfOf (retHalf w)

/-- A listed physical rank (Table BUP-4, kind 4); spares are taken out before. -/
def State.startRank (n : Nat) (s : State) : State :=
  match (List.range 256).find? (fun r => (s.rank r).phys = n) with
  | none => s
  | some r =>
    let h := rankHalf r
    match s.freeSpares h with
    | p :: _ => (s.setRank r { s.rank r with st := .spared, phys := p }).retireRank n
    | [] =>
      if nmem h s.dmc.spillUsed then s.logRec (s.evacRec r .quota)
      else ((s.modRank r (fun k => { k with st := .spilled })).modDmc (fun d => { d with spillUsed := nins h d.spillUsed })).retireRank n

/-- One entry applied (Table BUP-4). -/
def State.startEntry (w : W64) (s : State) : State :=
  let n := retNumber w
  match retKind w with
  | 1 => s.modFe n (fun e => { e with ctl := { e.ctl with st := .fenced, cause := 4#3, tpass := false } })
  | 2 => s.modTc n (fun c => { c with st := .fenced, cause := 4#3, tpass := false })
  | 3 => s.modBank n (fun k => { k with kind := .retired })
  | 4 => if n < 256 then s.startRank n else s
  | 5 => s.leaveSlot n
  | 6 => s.leaveUnit (halfOf (retHalf w)) n
  | _ => s

/-- The retirement list of a half (R414): listed spares first, so that none is chosen. -/
def State.startList (h : Half) (s : State) : State :=
  let l := (s.flash.list.map Prod.snd).filter (fun w => retUnitHalf w = h)
  let s := forAll (l.filter (fun w => retKind w = 4 && 256 ≤ retNumber w)) (fun w s => s.retireRank (retNumber w)) s
  forAll l (fun w s => s.startEntry w) s

/-- FIRMWARE_START (R406, step 8, R408, R414). -/
def execFirmwareStart (h : Half) (s : State) : Outcome State Fault Refusal :=
  let x := s.half h
  if x.stage = .dramInit || x.stage = .fill then
    let m := s.flash.img
    let s := (s.modHalf h (fun x => { x with
      runSvn := BitVec.ofNat 6 (imgLe m 8 1), keyIdx := BitVec.ofNat 2 (imgLe m 5 1), ready := setBit (fnBit .fw) true x.ready })).enterStage h .firmware
    .next ((s.startList h).frsHalf h)
  else .next s

/-- What a function waits for (Table BUP-3). -/
def State.fnMayStart (h : Half) (f : Fn) (s : State) : Bool :=
  s.inFirmware h && (match f with
    | .fw => true
    | .mem => true
    | .keys => true
    | _ => bit (fnBit .mem) (s.half h).ready)

/-- FUNCTION_READY (R412). -/
def execFunctionReady (h : Half) (f : Fn) (s : State) : Outcome State Fault Refusal :=
  .next (if s.fnMayStart h f then
      s.withReady (fun s => s.modHalf h (fun x => { x with ready := setBit (fnBit f) true x.ready }))
    else s)

/-- A half's channels are trained 200 ms after step 4 at the latest, and its fill starts (R406, step 5). -/
def State.fillTick (h : Half) (s : State) : State :=
  if (s.half h).stage = .dramInit && (s.half h).stageMs + 200 ≤ s.msNow h then s.enterStage h .fill else s

/-- What an idle block does: one microsecond of the module-wide count passes, and what runs in the background ends
(R295, R306; log 1). -/
def State.tick (s : State) : State :=
  ((({ s with clk := { s.clk with us := s.clk.us + 1 } } : State).fillTick .north).fillTick .south).releaseTick

end Sys2Proof.Machine
end

