-- ==== Sys2Proof/Machine/Power.lean ====
section
/-! DEFINITION. The governor, the thermal ladder, standby, and stewardship (spec/18_power_and_management.md R422 to R436,
spec/20_module_hardware.md R459). -/

namespace Sys2Proof.Machine

open Host (Outcome)

/-! The governor (R423). -/

def fpOf (n : Nat) : W32 := toF32 (.fin false n 0)
def fpDiv (a b : W32) : W32 := toF32 (divN (f32 a) (f32 b))
/-- FMIN, 0.1. -/
def fMin : W32 := fpDiv (fpOf 1) (fpOf 10)
/-- 307.6 W. -/
def fDyn : W32 := fpDiv (fpOf 3076) (fpOf 10)
def fOne : W32 := 0x3F800000#32

/-- a < b of two FP32 values. -/
def fpLt (a b : W32) : Bool := cmpN (f32 a) (f32 b) = some (-1)

/-- The rate factor of the next plan: c and p in W. -/
def govern (f c p upper : W32) : W32 :=
  let n := fadd f (fpDiv (fsub c p) fDyn)
  if fpLt n fMin then fMin else if fpLt upper n then upper else n

/-- GOVERNOR_PLAN (R423, Table PWM-3): pin and pavg in 0.1 W. LIMIT names the cap that holds f below 1. -/
def execGovernorPlan (pin pavg : W16) (s : State) : Outcome State Fault Refusal :=
  let cap := s.stwF Reg.PWM_CAP 6 0
  let c := min cap s.pwm.thermCap
  let f := govern s.pwm.f (fpOf (5 * c)) (fpDiv (fpOf pin.toNat) (fpOf 10)) (if s.pwm.level = 3 then fMin else fOne)
  let lim := if f = fOne then 0 else if cap ≤ s.pwm.thermCap then 1 else 2
  let was := s.pwm.limit
  let s := (s.modPwm (fun w => { w with f := f, limit := lim })).setStw Reg.PWM_PWR (at32 16 pin.toNat ||| at32 0 pavg.toNat)
  .next (if was = 0 && lim ≠ 0 then s.alert alCapLim else s)

/-! The thermal ladder (R426, R427). -/

/-- Kind of a sensor: 0 die, 1 HBM3E, 2 LPDDR5X, 3 power stage. -/
def sensorKind (n : Nat) : Nat := if n < 16 then 0 else if n < 20 then 1 else if n < 36 then 2 else 3

/-- T1 to T3 of a kind of sensor, in °C. -/
def State.tlim (kind level : Nat) (s : State) : Nat := s.stwF (Reg.PWM_TLIM + 4 * kind) (8 * level - 1) (8 * level - 8)

/-- Some sensor has reached the threshold of a level; temperatures in 1/16 °C. -/
def State.reached (t : List Int) (level : Nat) (s : State) : Bool :=
  (t.zipIdx).any (fun e => decide ((16 * s.tlim (sensorKind e.2) level : Nat) ≤ e.1))

/-- Every sensor is 3 °C below it. -/
def State.cooled (t : List Int) (level : Nat) (s : State) : Bool :=
  (t.zipIdx).all (fun e => decide (e.1 ≤ (16 * s.tlim (sensorKind e.2) level : Nat) - 48))

/-- 10 ms of samples, one each 100 µs. -/
def coolSamples : Nat := 100

/-- A level is held: reached now, or left less than 10 ms ago. -/
def held (old level cool : Nat) (reached : Bool) : Bool := reached || (level ≤ old && cool < coolSamples)

/-- A record of type Temperature Change for every FM-owned device (R427). -/
def State.tempRec (level : Nat) (s : State) : State := s.fmStd 6 1 { typ := 0, sev := 1, aux0 := level }

/-- SENSOR_SAMPLE (R426, R427): the 40 readings in 1/16 °C, and the level they give. -/
def execSensorSample (temps : List Int) (s : State) : Outcome State Fault Refusal :=
  let t := temps.take 40
  let s := forAll t.zipIdx (fun e s => s.setStw (Reg.PWM_TEMP + 4 * e.2) (0x80000000#32 ||| (BitVec.ofInt 16 e.1).setWidth 32)) s
  let up (l c : Nat) : Nat := if s.cooled t l then min coolSamples (c + 1) else 0
  let old := s.pwm.level
  let s := s.modPwm (fun w => { w with cool1 := up 1 w.cool1, cool2 := up 2 w.cool2, cool3 := up 3 w.cool3 })
  let new := if held old 3 s.pwm.cool3 (s.reached t 3) then 3
    else if held old 2 s.pwm.cool2 (s.reached t 2) then 2
    else if held old 1 s.pwm.cool1 (s.reached t 1) then 1 else 0
  if new = old then .next s
  else
    let s := s.modPwm (fun w => { w with level := new, thermCap := if new = 2 then 50 else w.thermCap })
    let s := { s with pins := { s.pins with thermN := s.pins.trip || decide (2 ≤ new) } }
    .next ((s.alert alTherm).tempRec new)

/-- THERMAL_CAP_STEP (R427, Table PWM-3): 5 W down at level 1, up at level 0. -/
def execThermalCapStep (s : State) : Outcome State Fault Refusal :=
  .next (s.modPwm (fun w =>
    if w.level = 1 then { w with thermCap := max 50 (w.thermCap - 1) }
    else if w.level = 0 then { w with thermCap := min 90 (w.thermCap + 1) } else w))

/-- THERMAL_TRIP (R426, R459): THERM_N is asserted and the module held in reset. -/
def execThermalTrip (s : State) : Outcome State Fault Refusal := .next (s.moduleReset { s.pins with trip := true })

/-- TRIP_RELEASE (R459). -/
def execTripRelease (s : State) : Outcome State Fault Refusal :=
  .next (if s.pins.trip then { s with pins := { s.pins with trip := false, thermN := false } } else s)

/-! Standby (R430). -/

/-- Something keeps the module out of standby: a port that trains or drains, work in flight, movement, or a granted
activity other than scrub and march test. -/
def State.busyNow (s : State) : Bool :=
  (List.range 16).any (fun p => (s.port p).st = .train || (s.port p).st = .drain) ||
  s.ops ≠ [] || s.grains ≠ [] ||
  s.tier.plots.any (fun e => e.2.st = .promoting || e.2.st = .demoting || e.2.fmove) ||
  s.tier.reloc.isSome || s.fes.any (fun e => e.2.fills ≠ []) ||
  s.ras.acts.any (fun a => a.granted && a.code ≠ 1 && a.code ≠ 5)

/-- Scrubs and march runs park. -/
def State.parkIdle (s : State) : State :=
  forAll (s.ras.acts.filter (fun a => a.granted && (a.code = 1 || a.code = 5))) (fun a s =>
    ((s.modAct a.id (fun a => { a with granted := false, parking := false })).countPark a.scope).setDefer a.code a.unit Status.deferred.code) s

/-- STANDBY_ENTER (R430): every UP port is in L1. -/
def execStandbyEnter (s : State) : Outcome State Fault Refusal :=
  if s.pwm.standby || !bit 31 (s.stw Reg.PWM_SBY) || s.busyNow then .next s
  else
    let s := { s with ports := s.ports.map (fun (e : Nat × Port) => (e.1, if decide (e.2.st = PortSt.up) then { e.2 with inL1 := true } else e.2)) }
    let s := ((s.modPwm (fun w => { w with standby := true })).cntStw Reg.PWM_SBY 29 16 1).parkIdle
    .next (forAll (List.range 512) (fun b s =>
      if (s.bank b).kind = .free || (s.bank b).kind = .stage then s.toFallow b else s) s)

/-- STANDBY_EXIT (R430): cause is the port that leaves L1. Every channel takes one retraining pause; what standby parked
goes on. -/
def execStandbyExit (cause : Option PortId) (s : State) : Outcome State Fault Refusal :=
  if !s.pwm.standby then .next s
  else
    let s := s.modPwm (fun w => { w with standby := false })
    let s := match cause with
      | some p => s.modPort p.toNat (fun x => { x with inL1 := false })
      | none => s
    let s := forAll (List.range chanCount) (fun c s => s.takePause c) s
    .next (forAll (s.ras.acts.filter (fun a => a.code = 1 || a.code = 5)) (fun a s => s.resume a.id) s)

/-! Stewardship (Table PWM-6, R434 to R436). -/

def stewEv (h : Half) : Nat := halfIdx h

/-- Firmware-run work of a core that restarts is abandoned: SPDM sessions, and an update that is not committing. -/
def State.abandonFw (s : State) : State :=
  (s.modSec (fun c => { c with sessions := [] })).modUpd (fun u =>
    if u.st = .loading || u.st = .verified then { u with st := .idle, len := 0, chunks := [], bytes := [] } else u)

def State.setRole (h : Half) (r : Steward) (s : State) : State := s.modHalf h (fun x => { x with role := r })

/-- WATCHDOG_EXPIRE: the steward passes the token and restarts its core. -/
def execWatchdogExpire (h : Half) (s : State) : Outcome State Fault Refusal :=
  .next (if (s.half h).role = .steward then ((s.setRole h .restarting).abandonFw).stewRec 6 0 else s)

/-- TOKEN_RECEIVED: the deputy is the steward. -/
def execTokenReceived (h : Half) (s : State) : Outcome State Fault Refusal :=
  .next (if (s.half h).role = .deputy && (s.half (halfOther h)).role ≠ .steward then
      ((((s.setRole h .steward).cntStw Reg.PWM_MSTAT 15 0 1).alert alHandover).stewRec (stewEv h) 0)
    else s)

/-- TOKEN_LINK_TIMEOUT: the deputy claims the token; a conflict begins where the other half holds it (R435). -/
def execTokenLinkTimeout (h : Half) (s : State) : Outcome State Fault Refusal :=
  if (s.half h).role ≠ .deputy then .next s
  else
    let s := s.setRole h .steward
    .next (if (s.half (halfOther h)).role = .steward then
        (({ s with bridge := { s.bridge with conflict := true } } : State).alert alConflict).stewRec 2 0
      else s.stewRec (stewEv h) 0)

def State.defaultHalf (s : State) : Half := if s.fuse.dfltSouth then .south else .north

/-- A half's core runs: the image's code or the ROM. -/
def State.coreRuns (h : Half) (s : State) : Bool :=
  (s.half h).role ≠ .restarting && ((s.half h).stage = .firmware || (s.half h).stage = .recovery)

/-- TOKEN_LINK_RETURN: the arbiter leaves the token with the default half, or with the other where only its core runs. -/
def execTokenLinkReturn (s : State) : Outcome State Fault Refusal :=
  .next (if s.north.role = .steward && s.south.role = .steward then
      let d := s.defaultHalf
      s.setRole (if !s.coreRuns d && s.coreRuns (halfOther d) then d else halfOther d) .restarting
    else s)

/-- CORE_RESTART_DONE: the half is DEPUTY, and a conflict ends. -/
def execCoreRestartDone (h : Half) (s : State) : Outcome State Fault Refusal :=
  if (s.half h).role ≠ .restarting then .next s
  else
    let s := s.setRole h .deputy
    .next (if s.bridge.conflict then
        (({ s with bridge := { s.bridge with conflict := false } } : State).alert alConflict).stewRec 3 0
      else s)

end Sys2Proof.Machine
end

