-- ==== Sys2Proof/Machine/Management.lean ====
section
/-! DEFINITION. Management commands: MCTP control, the FM API subset, and the mailbox commands of a logical device
(spec/18_power_and_management.md R431, R432, Table PWM-4; spec/19_register_map.md R445; spec/11_shared_regions.md R297).
Of an answer the words that the spec gives are sent; what CXL itself fixes is left open (log 19). -/

namespace Sys2Proof.Machine

open Host (Outcome)

/-- Head that an endpoint's FM-owned device belongs to; I3C takes the lowest UP head. -/
def State.epHead (e : Endpoint) (s : State) : Option Nat := match e with
  | .mailbox p => some (s.headPort p.toNat)
  | .vdm p => some (s.headPort p.toNat)
  | .i3c => (List.range 16).find? (fun p => s.headUp p)
  | .doe _ => none

/-- A command at e is served: e is reached and its half runs firmware (Table BUP-5). -/
def State.mgmtServed (e : Endpoint) (s : State) : Bool :=
  s.reachable e && (match epHalf e with
    | some h => s.inFirmware h
    | none => match s.stewardHalf with
      | some h => s.inFirmware h
      | none => false)

def State.mgmtOk (e : Endpoint) (d : List W32) (s : State) : State := s.emit (.mgmt e .ok d)
def State.mgmtNo (e : Endpoint) (s : State) : State := s.emit (.mgmtUnsupported e)

/-- Words that the spec leaves to CXL. -/
def openWords (s : State) : List W32 := (List.range 16).map (fun i => BitVec.ofNat 32 (bits (32 * i + 31) (32 * i) (Config.freeBits s.freeCtr)))

def State.mgmtOpen (e : Endpoint) (d : List W32) (s : State) : State := (s.mgmtOk e (d ++ openWords s)).tickFree

def w64 (v : Nat) : List W32 := [BitVec.ofNat 32 v, BitVec.ofNat 32 (v / 2 ^ 32)]
def w256 (r : W256) : List W32 := (List.range 8).map (fun i => BitVec.ofNat 32 (bits (32 * i + 31) (32 * i) r))

/-- An FM API command at head p of e; a logical device's mailbox does not carry it. -/
def State.fmCmd (e : Endpoint) (f : Nat → State → State) (s : State) : State :=
  if !s.mgmtServed e then s else match s.epHead e with
    | some p => f p s
    | none => s.mgmtNo e

/-- A command that both the FM API and a logical device's mailbox carry. -/
def State.cciCmd (e : Endpoint) (fm : Nat → State → State) (ld : Nat → State → State) (s : State) : State :=
  if !s.mgmtServed e then s else match e with
    | .doe t => if s.draining t.toNat then s else ld t.toNat s
    | _ => match s.epHead e with
      | some p => fm p s
      | none => s.mgmtNo e

/-! MCTP (R431). -/

/-- MCTP_CONTROL: Set Endpoint ID keeps the EID; the FM mailbox and a DOE mailbox carry no MCTP. -/
def execMctpControl (e : Endpoint) (setEid : Option Byte) (s : State) : Outcome State Fault Refusal :=
  let can := match e with
    | .vdm _ => true
    | .i3c => true
    | _ => false
  if !s.mgmtServed e then .next s
  else if !can then .next (s.mgmtNo e)
  else
    let s := match setEid with
      | some v => s.modMgmt (fun m => { m with eids := (m.eids.filter (fun (x : Endpoint × Byte) => x.1 ≠ e)) ++ [(e, v)] })
      | none => s
    .next (s.mgmtOpen e ((s.mgmt.eids.filter (fun (x : Endpoint × Byte) => x.1 = e)).map (fun (x : Endpoint × Byte) => x.2.setWidth 32)))

/-- I3C_DYNAMIC_ADDRESS_ASSIGNMENT. -/
def execI3cDynamicAddressAssignment (addr : BitVec 7) (s : State) : Outcome State Fault Refusal :=
  .next (s.modMgmt (fun m => { m with i3cAddr := some addr }))

/-- UNSUPPORTED_COMMAND (R432). -/
def execUnsupportedCommand (e : Endpoint) (opcode : W16) (s : State) : Outcome State Fault Refusal :=
  let _ := opcode
  .next (if s.mgmtServed e then s.mgmtNo e else s)

/-! Generic commands. -/

def devId : W32 := 0x71600000#32 ||| Config.vendorId.setWidth 32

/-- IDENTIFY. -/
def execIdentify (e : Endpoint) (s : State) : Outcome State Fault Refusal :=
  let f := fun (_ : Nat) (s : State) => s.mgmtOpen e ([devId] ++ w64 Config.serial.toNat)
  .next (s.cciCmd e f f)

/-- BACKGROUND_OPERATION_STATUS. -/
def execBackgroundOperationStatus (e : Endpoint) (s : State) : Outcome State Fault Refusal :=
  .next (s.fmCmd e (fun _ s => s.mgmtOpen e []))

/-- Response message limit of an endpoint (log 24). -/
def State.msgLimit (e : Endpoint) (s : State) : Byte := match s.mgmt.limits.find? (fun x => x.1 = e) with
  | some x => x.2
  | none => 0#8

/-- GET_RESPONSE_MESSAGE_LIMIT. -/
def execGetResponseMessageLimit (e : Endpoint) (s : State) : Outcome State Fault Refusal :=
  .next (s.fmCmd e (fun _ s => s.mgmtOk e [(s.msgLimit e).setWidth 32]))

/-- SET_RESPONSE_MESSAGE_LIMIT. -/
def execSetResponseMessageLimit (e : Endpoint) (v : Byte) (s : State) : Outcome State Fault Refusal :=
  .next (s.fmCmd e (fun _ s => (s.modMgmt (fun m => { m with limits := (m.limits.filter (fun (x : Endpoint × Byte) => x.1 ≠ e)) ++ [(e, v)] })).mgmtOk e
    [v.setWidth 32]))

/-! Events (R375). -/

def State.fmEvents (p k : Nat) (s : State) : List W256 :=
  tget [] p (if k = 0 then s.mgmt.fmInfo else if k = 1 then s.mgmt.fmWarn else if k = 2 then s.mgmt.fmFail else [])

def Ld.events (l : Ld) (k : Nat) : List W256 := if k = 0 then l.logInfo else if k = 1 then l.logWarn else if k = 2 then l.logFail else []

/-- GET_EVENT_RECORDS: 0 Informational, 1 Warning, 2 Failure, 3 Fatal; the overflow count and the records. -/
def execGetEventRecords (e : Endpoint) (log : BitVec 2) (s : State) : Outcome State Fault Refusal :=
  let k := log.toNat
  let words (n : Nat) (l : List W256) : List W32 := [BitVec.ofNat 32 n, BitVec.ofNat 32 l.length] ++ (l.map w256).flatten
  .next (s.cciCmd e
    (fun p s => s.mgmtOk e (words (tget 0 (4 * p + k) s.mgmt.fmOverflow) (s.fmEvents p k)))
    (fun t s => s.mgmtOk e (words (tget 0 k (s.ld t).overflow) ((s.ld t).events k))))

/-- A log with its first records, or all of them, cleared. -/
def clearedLog (count : Option Nat) (l : List W256) : List W256 := match count with
  | some n => l.drop n
  | none => []

/-- CLEAR_EVENT_RECORDS: the first count records, or all; the overflow count starts again. -/
def execClearEventRecords (e : Endpoint) (log : BitVec 2) (count : Option Nat) (s : State) : Outcome State Fault Refusal :=
  let k := log.toNat
  .next (s.cciCmd e
    (fun p s => (s.modMgmt (fun m =>
      let m := { m with fmOverflow := tset 0 (4 * p + k) 0 m.fmOverflow }
      if k = 0 then { m with fmInfo := tset [] p (clearedLog count (tget [] p m.fmInfo)) m.fmInfo }
      else if k = 1 then { m with fmWarn := tset [] p (clearedLog count (tget [] p m.fmWarn)) m.fmWarn }
      else if k = 2 then { m with fmFail := tset [] p (clearedLog count (tget [] p m.fmFail)) m.fmFail }
      else m)).mgmtOk e [])
    (fun t s => (s.modLd t (fun l =>
      let l := { l with overflow := tset 0 k 0 l.overflow }
      if k = 0 then { l with logInfo := clearedLog count l.logInfo }
      else if k = 1 then { l with logWarn := clearedLog count l.logWarn }
      else if k = 2 then { l with logFail := clearedLog count l.logFail }
      else l)).mgmtOk e []))

/-- GET_EVENT_INTERRUPT_POLICY. -/
def execGetEventInterruptPolicy (e : Endpoint) (s : State) : Outcome State Fault Refusal :=
  .next (s.cciCmd e (fun p s => s.mgmtOk e [tget 0#32 p s.mgmt.fmPolicy]) (fun t s => s.mgmtOk e [(s.ld t).evPolicy]))

/-- SET_EVENT_INTERRUPT_POLICY. -/
def execSetEventInterruptPolicy (e : Endpoint) (v : W32) (s : State) : Outcome State Fault Refusal :=
  .next (s.cciCmd e
    (fun p s => (s.modMgmt (fun m => { m with fmPolicy := tset 0#32 p v m.fmPolicy })).mgmtOk e [])
    (fun t s => (s.modLd t (fun l => { l with evPolicy := v })).mgmtOk e []))

/-! Timestamps and logs. -/

/-- A timestamp that was set, at the present time; 0 where none was. -/
def State.stampNow (v : Option W64) (s : State) : Nat := match v with
  | some d => (d + BitVec.ofNat 64 s.now).toNat
  | none => 0

/-- GET_TIMESTAMP. -/
def execGetTimestamp (e : Endpoint) (s : State) : Outcome State Fault Refusal :=
  .next (s.cciCmd e (fun p s => s.mgmtOk e (w64 (s.stampNow (tfind p s.mgmt.fmTimestamp))))
    (fun t s => s.mgmtOk e (w64 (s.stampNow (s.ld t).timestamp))))

/-- SET_TIMESTAMP. -/
def execSetTimestamp (e : Endpoint) (v : W64) (s : State) : Outcome State Fault Refusal :=
  let d := v - BitVec.ofNat 64 s.now
  .next (s.cciCmd e
    (fun p s => (s.modMgmt (fun m => { m with fmTimestamp := tput p d m.fmTimestamp })).mgmtOk e [])
    (fun t s => (s.modLd t (fun l => { l with timestamp := some d })).mgmtOk e []))

/-- GET_SUPPORTED_LOGS. -/
def execGetSupportedLogs (e : Endpoint) (s : State) : Outcome State Fault Refusal :=
  .next (s.cciCmd e (fun _ s => s.mgmtOpen e []) (fun _ s => s.mgmtOpen e []))

/-- GET_LOG. -/
def execGetLog (e : Endpoint) (off len : Nat) (s : State) : Outcome State Fault Refusal :=
  let _ := off + len
  .next (s.cciCmd e (fun _ s => s.mgmtOpen e []) (fun _ s => s.mgmtOpen e []))

/-! Logical devices and heads. -/

/-- Logical devices of a head that are enumerated. -/
def State.headLds (p : Nat) (s : State) : List Nat := (s.headTenants p).filter (fun t => (s.ld t).enumerated)

/-- Tenant of a logical device of a head. -/
def ldOf (p : Nat) (ld : BitVec 4) : Nat := 16 * p + ld.toNat

/-- TUNNEL_MANAGEMENT: the tunnelled command is that logical device's own row; here its answer goes back. -/
def execTunnelManagement (e : Endpoint) (ld : BitVec 4) (opcode : W16) (s : State) : Outcome State Fault Refusal :=
  let _ := opcode
  .next (s.fmCmd e (fun p s => if (s.headLds p).contains (ldOf p ld) then s.mgmtOpen e [] else s.mgmtNo e))

/-- SEND_LD_CONFIGURATION_REQUEST: as a host's configuration request (R47). -/
def execSendLdConfigurationRequest (e : Endpoint) (ld : BitVec 4) (write : Bool) (reg : CfgReg) (v : W32) (s : State) :
    Outcome State Fault Refusal :=
  .next (s.fmCmd e (fun p s =>
    let t := ldOf p ld
    if !(s.headLds p).contains t then s.mgmtNo e
    else if !s.cfgServed t then s.emit (.mgmt e .notReady [])
    else if write then (s.cfgWrite t reg v).mgmtOk e []
    else (s.mgmtOk e [s.cfgRead t reg]).tickFree))

/-- 8 × W of a logical device (R55). -/
def State.ldSize (t : Nat) (s : State) : Nat := 8 * 2 ^ (s.ld t).recordedW

/-- GET_LD_INFO. -/
def execGetLdInfo (e : Endpoint) (s : State) : Outcome State Fault Refusal :=
  .next (s.fmCmd e (fun p s => s.mgmtOk e ([BitVec.ofNat 32 (s.headLds p).length] ++ w64 ((s.headLds p).map (fun t => s.ldSize t)).sum)))

/-- GET_LD_ALLOCATIONS (R55). -/
def execGetLdAllocations (e : Endpoint) (s : State) : Outcome State Fault Refusal :=
  .next (s.fmCmd e (fun p s => s.mgmtOk e ([BitVec.ofNat 32 (s.headLds p).length] ++ ((s.headLds p).map (fun t => w64 (s.ldSize t))).flatten)))

/-- Heads of the module. -/
def State.heads (s : State) : List Nat := (List.range 16).filter (fun p => !s.portUnused p)

/-- GET_MULTI_HEADED_INFO. -/
def execGetMultiHeadedInfo (e : Endpoint) (s : State) : Outcome State Fault Refusal :=
  .next (s.fmCmd e (fun _ s => s.mgmtOpen e [BitVec.ofNat 32 s.heads.length]))

def PortSt.code : PortSt → Nat
  | .reset => 0
  | .train => 1
  | .up => 2
  | .drain => 3

/-- GET_HEAD_INFO. -/
def execGetHeadInfo (e : Endpoint) (p : PortId) (s : State) : Outcome State Fault Refusal :=
  .next (s.fmCmd e (fun _ s =>
    let q := s.port p.toNat
    if s.portUnused p.toNat then s.mgmtNo e
    else s.mgmtOpen e [p.setWidth 32, BitVec.ofNat 32 q.st.code, q.width.setWidth 32, q.rate.setWidth 32]))

/-! Dynamic capacity (Table SHR-3). -/

/-- The one DC region of a logical device: base 0, W bytes, and blocks of 2^SEGSZ bytes; it spans alias 0. -/
def State.dcConfig (t : Nat) (s : State) : List W32 :=
  let c := (s.wttOf t).cfg
  [1#32] ++ w64 0 ++ w64 (2 ^ (s.ld t).recordedW) ++ w64 (2 ^ cfgSeg c)

/-- Extents: base, length, and tag. -/
def State.dcExtents (t : Nat) (s : State) : List W32 :=
  let l := (s.wttOf t).extents
  [BitVec.ofNat 32 l.length] ++ (l.map (fun x => w64 x.1 ++ w64 x.2.1 ++ [BitVec.ofNat 32 x.2.2, 0#32, 0#32, 0#32])).flatten

/-- GET_DCD_INFO. -/
def execGetDcdInfo (e : Endpoint) (s : State) : Outcome State Fault Refusal :=
  .next (s.fmCmd e (fun _ s => s.mgmtOpen e [1#32]))

/-- GET_HOST_DC_REGION_CONFIGURATION. -/
def execGetHostDcRegionConfiguration (e : Endpoint) (ld : BitVec 4) (s : State) : Outcome State Fault Refusal :=
  .next (s.fmCmd e (fun p s => if (s.headLds p).contains (ldOf p ld) then s.mgmtOk e (s.dcConfig (ldOf p ld)) else s.mgmtNo e))

/-- GET_DC_REGION_EXTENT_LISTS. -/
def execGetDcRegionExtentLists (e : Endpoint) (ld : BitVec 4) (s : State) : Outcome State Fault Refusal :=
  .next (s.fmCmd e (fun p s => if (s.headLds p).contains (ldOf p ld) then s.mgmtOk e (s.dcExtents (ldOf p ld)) else s.mgmtNo e))

/-- A mailbox command of a logical device. -/
def State.ldCmd (t : Tenant) (f : Nat → State → State) (s : State) : State :=
  if s.mgmtServed (.doe t) && !s.draining t.toNat then f t.toNat s else s

/-- GET_DYNAMIC_CAPACITY_CONFIGURATION (R297). -/
def execGetDynamicCapacityConfiguration (t : Tenant) (s : State) : Outcome State Fault Refusal :=
  .next (s.ldCmd t (fun n s => s.mgmtOk (.doe t) (s.dcConfig n)))

/-- GET_DYNAMIC_CAPACITY_EXTENT_LIST (R297). -/
def execGetDynamicCapacityExtentList (t : Tenant) (s : State) : Outcome State Fault Refusal :=
  .next (s.ldCmd t (fun n s => s.mgmtOk (.doe t) (s.dcExtents n)))

/-- IDENTIFY_MEMORY_DEVICE (R55, R445). -/
def execIdentifyMemoryDevice (t : Tenant) (s : State) : Outcome State Fault Refusal :=
  .next (s.ldCmd t (fun n s => s.mgmtOpen (.doe t) (w64 (s.ldSize n))))

/-- GET_HEALTH_INFO (R413, R445): its first word says whether the media are ready. -/
def execGetHealthInfo (t : Tenant) (s : State) : Outcome State Fault Refusal :=
  .next (s.ldCmd t (fun n s => s.mgmtOpen (.doe t) [at32 0 (b2n (s.fnReady n .mem))]))

end Sys2Proof.Machine
end

