-- ==== Sys2Proof/Machine/Device.lean ====
section
/-! DEFINITION. The registers that CXL lays out in a logical device's BARs: the component registers of BAR0 and the device
registers of BAR2 (spec/02_host_ports.md R32; spec/19_register_map.md R444, R445; spec/03_windows.md R56). Which they are the
spec says; their places and fields are CXL's (PRESUMED, log 86), and what the spec says nothing of reads free. -/

namespace Sys2Proof.Machine

/-! The component registers, by their offset in the CXL.cachemem primary range (Table REG-2). -/

/-- Capability headers: the array's, then RAS, link, HDM decoder and IDE with their offsets. -/
def compHeaders : List W32 := [0x04110001#32, 0x10020002#32, 0x20020004#32, 0x30010005#32, 0x40010007#32]

/-- Register of the HDM decoder capability that an offset names: 0 capability, 1 control, 4 and 5 base, 6 and 7 size, 8 the
decoder's control, 9 and 10 the skip. -/
def hdmReg (off : Nat) : Option Nat := if 0x300 ≤ off ∧ off < 0x32C ∧ off % 4 = 0 then some ((off - 0x300) / 4) else none

def Ld.hdmWord (i : Nat) (l : Ld) : W32 := tget 0#32 i l.hdmWords

/-- What a register of the HDM decoder reads: one decoder, ways up to 16 and every granularity; COMMITTED and ERROR. -/
def Ld.hdmRead (i : Nat) (l : Ld) : W32 :=
  if i = 0 then 0x00001300#32
  else if i = 8 then setBit 10 l.hdm.committed (setBit 11 l.hdm.error (l.hdmWord 8 &&& 0x3FF#32))
  else l.hdmWord i

/-- Ways of an encoding of CXL; 0 where it is one that R56 does not name. -/
def hdmWays (n : Nat) : Nat := if n ≤ 4 then 2 ^ n else 0

/-- A write of a register of the HDM decoder: a committed decoder that is locked keeps its registers; COMMIT commits what the
registers hold, and clearing it ends the decoding (R56). -/
def State.hdmWrite (n i : Nat) (v : W32) (s : State) : State :=
  if i = 0 || ((s.ld n).hdm.committed && (s.ld n).hdm.lock) then s
  else
    let s := s.modLd n (fun l => { l with hdmWords := tset 0#32 i v l.hdmWords })
    if i ≠ 8 then s
    else if bit 9 v then
      let w (j : Nat) : Nat := ((s.ld n).hdmWord j).toNat
      let wide (j : Nat) : W64 := BitVec.ofNat 64 (w j + 2 ^ 32 * w (j + 1))
      s.hdmCommit n (wide 4) (wide 6) (wide 9) (hdmWays (bits 7 4 v)) (256 * 2 ^ bits 3 0 v) (bit 8 v)
    else s.modLd n (fun l => { l with hdm := { l.hdm with committed := false, error := false } })

/-- A word of the component registers. -/
def State.compRead (n off : Nat) (s : State) : W32 :=
  match hdmReg off with
  | some i => (s.ld n).hdmRead i
  | none => match compHeaders[off / 4]? with
    | some w => w
    | none => (Config.freeBits s.freeCtr).setWidth 32

def State.compWrite (n off : Nat) (v : W32) (s : State) : State :=
  match hdmReg off with
  | some i => s.hdmWrite n i v
  | none => s

/-! BAR2 (R445). -/

/-- The device capabilities array: its header, then the device status at 0x80, the mailbox at 0x100 and the memory device
status at 0x940, each an identifier, an offset and a length. -/
def devCaps : List W32 :=
  [0x01010000#32, 3#32, 0#32, 0#32, 0x00010001#32, 0x80#32, 8#32, 0#32, 0x00010002#32, 0x100#32, 0x820#32, 0#32,
   0x00014000#32, 0x940#32, 8#32, 0#32]

/-- The mailbox registers that hold what was written: its control, command and payload of 2,048 bytes. A command is a row of
its own and done when it is sent, so the doorbell reads clear. -/
def mailboxRw (off : Nat) : Bool := off % 4 = 0 && (off = 0x104 || off = 0x108 || off = 0x10C || (0x120 ≤ off && off < 0x920))

/-- Event logs that hold records: Informational, Warning and Failure. -/
def Ld.eventStatus (l : Ld) : W32 := at32 0 (b2n (l.logInfo ≠ [])) ||| at32 1 (b2n (l.logWarn ≠ [])) ||| at32 2 (b2n (l.logFail ≠ []))

/-- What a word of BAR2 reads. -/
def State.bar2Read (n off : Nat) (s : State) : W32 :=
  if off % 4 = 0 && off < 0x40 then devCaps.getD (off / 4) 0#32
  else if off = 0x80 then (s.ld n).eventStatus
  else if off = 0x100 then 11#32
  else if mailboxRw off then setBit 0 (off ≠ 0x104 && bit 0 (tget 0#32 (n * 65536 + off) s.reg.bar2)) (tget 0#32 (n * 65536 + off) s.reg.bar2)
  else if 0x110 ≤ off && off < 0x120 then (Config.freeBits s.freeCtr).setWidth 32
  else if off = 0x940 then at32 4 (b2n (s.inFirmware (tenantHalf n))) ||| at32 2 (b2n (s.fnReady n .mem))
  else 0#32

def State.bar2Write (n off : Nat) (v : W32) (s : State) : State :=
  if mailboxRw off then { s with reg := { s.reg with bar2 := tset 0#32 (n * 65536 + off) v s.reg.bar2 } } else s

end Sys2Proof.Machine
end

