-- ==== Sys2Proof/Machine/Tables.lean ====
section
/-! DEFINITION. Decode table slots as the steward commands them, the end of a draining generation, and scale windows
(spec/06_compression.md R150, R151, R153, R158, Tables CMP-11, CMP-23, CMP-24). -/

namespace Sys2Proof.Machine

open Host (Outcome)

/-- TABLE_GENERATION_RETIRE (R151): a draining generation that no block is bound to retires; a slot left with none is
FREE, its owner cleared. -/
def execTableGenerationRetire (slot : BitVec 8) (s : State) : Outcome State Fault Refusal :=
  let n := slot.toNat
  let t := s.tslot n
  match t.drain with
  | some g =>
    if s.boundTo n g.gen = 0 then .next (s.setTslot n (if t.cur.isNone then {} else { t with drain := none })) else .next s
  | none => .next s

/-- Slot that CMP_TSEL names. -/
def State.tsel (s : State) : Nat := s.stwF Reg.CMP_TSEL 8 0

def State.tcmdStatus (st : Status) (s : State) : State := s.modCmp (fun c => { c with tcmdStatus := BitVec.ofNat 8 st.code })

/-- The first status of CMP_TCMD that applies (Table CMP-23); bad names a reserved OP, draining a refusal under Table
CMP-11. -/
def State.tcmdCheck (bad draining : Bool) (s : State) : Status :=
  let t := s.tslot s.tsel
  if s.conflict then .stewardConflict
  else if bad || 255 ≤ s.tsel || (t.cur.isNone && t.drain.isNone) then .badDescriptor
  else if draining && t.drain.isSome then .slotBusy
  else .ok

/-- CMP_TABLE_UNLOAD (R151, Table CMP-23, OP 0). -/
def execCmpTableUnload (s : State) : Outcome State Fault Refusal :=
  let st := s.tcmdCheck false true
  .next ((if st = .ok then s.unloadTable s.tsel else s).tcmdStatus st)

/-- CMP_TABLE_OWNER (Table CMP-23, OP 1). -/
def execCmpTableOwner (t : Tenant) (s : State) : Outcome State Fault Refusal :=
  let st := s.tcmdCheck false false
  .next ((if st = .ok then s.setTslot s.tsel { s.tslot s.tsel with owner := t.toNat } else s).tcmdStatus st)

/-- CMP_TCMD_RESERVED (Table CMP-23, OP 2 and 3). -/
def execCmpTcmdReserved (s : State) : Outcome State Fault Refusal := .next (s.tcmdStatus (s.tcmdCheck true false))

/-- Scale plots of a window that is not yet in force lie free: none assigned, none in another enabled window (R158). -/
def State.swinFree (n : Nat) (w : SWin) (s : State) : Bool :=
  !s.tier.plots.any (fun e => w.covers e.1) &&
  !(List.range 64).any (fun m => let v := s.swin m
    m ≠ n && v.enable && v.scale < w.scale + w.plots && w.scale < v.scale + v.plots)

/-- SCALE_WINDOW_ENABLE (R158, Table CMP-24): a write of CMP_SW_CTL with ENABLE set puts the window in force, or sets
ERR; FMT and LAY are stored, and ERR written 1 clears first. -/
def execScaleWindowEnable (n : BitVec 6) (v : W32) (s : State) : Outcome State Fault Refusal :=
  let r := Reg.CMP_SW_CTL + 32 * n.toNat
  let old := s.stw r
  let new := (v &&& 0xFF#32) ||| (old &&& 0x40000000#32 &&& ~~~v)
  let s := s.setStw r new
  let w := s.swin n.toNat
  if bit 31 v then
    if layOk w.fmt w.lay && s.swinFree n.toNat w then .next (s.setStw r (setBit 31 true new))
    else .next (s.setStw r (setBit 30 true new))
  else .next s

end Sys2Proof.Machine
end

