-- ==== Sys2Proof/Machine/RegRead.lean ====
section
/-! DEFINITION. What every register reads: fields that the machine holds elsewhere are composed, the others are the
stored word (spec/19_register_map.md; the register tables of every chapter). -/

namespace Sys2Proof.Machine

/-! Codes of the status fields. -/

def RingSt.code : RingSt → Nat
  | .disabled => 0
  | .running => 1
  | .stopped => 2
  | .disabling => 3

def UnitSt.code : UnitSt → Nat
  | .inService => 0
  | .fencing => 1
  | .fenced => 2
  | .testing => 3

def ChanSt.code : ChanSt → Nat
  | .inService => 0
  | .paused => 1
  | .retired => 2

def BankKind.code : BankKind → Nat
  | .free => 0
  | .stage => 1
  | .work => 2
  | .job => 3
  | .mgmt => 4
  | .test => 5
  | .retired => 6

def PState.code : PState → Nat
  | .on => 0
  | .retention => 1
  | .fallow => 2
  | .filling => 3

def KeySt.code : KeySt → Nat
  | .empty => 0
  | .loaded => 1
  | .zeroising => 2

def Stage.code : Stage → Nat
  | .reset => 0
  | .rom => 1
  | .verify => 2
  | .recovery => 3
  | .dramInit => 4
  | .fill => 5
  | .firmware => 6

def Steward.code : Steward → Nat
  | .steward => 0
  | .deputy => 1
  | .restarting => 2

def UpdSt.code : UpdSt → Nat
  | .idle => 0
  | .loading => 1
  | .verified => 2
  | .committing => 3

/-- Instance that an offset names among n, one every stride bytes. -/
def instOf (base n stride off : Nat) : Option Nat :=
  if base ≤ off ∧ (off - base) % stride = 0 ∧ (off - base) / stride < n then some ((off - base) / stride) else none

/-- Word i of a wide value. -/
def wordOf {n : Nat} (i : Nat) (w : BitVec n) : W32 := BitVec.ofNat 32 (bits (32 * i + 31) (32 * i) w)

/-- STATE with CUR and the draining one: 0 FREE, 1 CUR, 2 both, 3 the draining one alone (Tables CMP-19, TND-19). -/
def slotCode (cur drain : Bool) : Nat := if cur then (if drain then 2 else 1) else if drain then 3 else 0

/-! Identification (R447, R448, R450). -/

/-- DEV_SIZES (Table REG-6). -/
def devSizes : List W32 := [
  at32 22 256 ||| at32 12 128 ||| at32 6 16 ||| at32 0 16,
  at32 24 16 ||| at32 16 64 ||| at32 12 8 ||| at32 0 512,
  at32 20 512 ||| at32 0 512,
  at32 16 192 ||| at32 8 32 ||| at32 0 128,
  at32 24 128 ||| at32 16 8 ||| at32 12 2 ||| at32 0 64,
  at32 0 234881024,
  at32 0 1073741824,
  at32 16 1024 ||| at32 0 4096,
  at32 12 65536 ||| at32 0 256,
  at32 16 4096 ||| at32 0 256,
  at32 0 268435456,
  at32 0 4194304,
  at32 16 1024 ||| at32 0 4096,
  at32 16 2048 ||| at32 8 16 ||| at32 0 2,
  at32 16 64 ||| at32 0 64,
  at32 28 1]

/-- DEV_EVUUID0 to 3 (R447). -/
def evUuid : List W32 := [0x60711F5D#32, 0x934C8E2B#32, 0x3B6ED4A0#32, 0xA5C2F791#32]

/-- The identification registers that both spaces hold; none elsewhere. -/
def identWord (off : Nat) : Option W32 :=
  if off = Reg.DEV_ID then some devId
  else if off = Reg.DEV_REV then some 0x05021011#32
  else if off = Reg.DEV_SERIAL_LO then some (wordOf 0 Config.serial)
  else if off = Reg.DEV_SERIAL_HI then some (wordOf 1 Config.serial)
  else match instOf Reg.DEV_EVUUID 4 4 off with
    | some i => evUuid[i]?
    | none => match instOf Reg.DEV_SIZES 16 4 off with
      | some i => devSizes[i]?
      | none => none

/-! BAR0 (Table REG-7). -/

/-- A tenant's cursor in the calendar that ALM_MSEL names. -/
def State.viewCursor (t : Nat) (s : State) : Option (Nat × Cursor) := (s.cal (s.barF t Reg.ALM_MSEL 9 0)).bind (Cal.cursorOf t)

/-- ALM_CNT0 to 3 of a cursor. -/
def Cursor.cnt (i : Nat) (v : Cursor) : W32 := if i = 0 then v.cnt0 else if i = 1 then v.cnt1 else if i = 2 then v.cnt2 else v.cnt3

/-- Registers of submission ring r that are not stored words (Tables DSC-23, DSC-24). -/
def State.sqWord (t r off : Nat) (s : State) : Option W32 :=
  let g := s.ring t r
  if off = 0xC then
    some (at32 31 (b2n g.err) ||| at32 28 (g.ecause % 8) ||| at32 26 g.st.code ||| at32 0 (g.head % 65536))
  else if off = 0x10 then some (at32 16 (g.tail % 65536) ||| at32 0 (min 0xFFFF (s.ringFlight t r)))
  else none

/-- BUP_TREADY (Table BUP-10). -/
def State.tready (t : Nat) (s : State) : W32 :=
  at32 31 (b2n (decide ((s.half (tenantHalf t)).stage = .recovery))) |||
  at32 0 (((s.treadyBits t).zipIdx.map (fun e => b2n e.1 * 2 ^ e.2)).sum)

/-- BAR0 words that are composed on a read; none where the register is a stored word. -/
def State.barComp (t off : Nat) (s : State) : Option W32 :=
  match instOf Reg.ALM_CNT 4 4 off with
  | some i => some ((s.viewCursor t).elim 0#32 (fun v => v.2.cnt i))
  | none =>
    if 0x2000 ≤ off ∧ off < 0x2200 then s.sqWord t ((off - 0x2000) / 32) (off % 32)
    else if off = Reg.PRT_LIVE then some (0x71600000#32 ||| (s.port (s.headPort (tenantPort t))).linkUps.setWidth 32)
    else if off = Reg.DEV_TENANT then some (at32 8 (halfIdx (tenantHalf t)) ||| at32 0 t)
    else if off = Reg.DSC_CQ_HEAD then some (BitVec.ofNat 32 (s.engOf t).cqHead)
    else if off = Reg.DSC_CQ_STAT then
      some ((s.bar t off &&& 0x4000#32) ||| at32 16 ((s.engOf t).cqTail % 65536) ||| at32 15 (b2n (s.engOf t).cqPhase) |||
        at32 0 (s.tenantFlight t % 8192))
    else if off = Reg.WTT_TVIEW then
      let w := s.wttOf t
      some (at32 16 w.epoch.toNat ||| at32 8 (cfgClassMax w.cfg) ||| at32 0 (cfgWin w.cfg))
    else if off = Reg.TND_GRN then some (BitVec.ofNat 32 (s.tenantGrains t))
    else if off = Reg.BUP_TREADY then some (s.tready t)
    else if off = Reg.ALM_POS then some ((s.viewCursor t).elim 0#32 (fun v => v.2.pos.getD 0#32))
    else if off = Reg.ALM_CSTAT then
      some ((s.viewCursor t).elim 0#32 (fun v =>
        at32 31 (b2n v.2.pos.isSome) ||| at32 30 1 ||| at32 28 v.2.src.toNat ||| at32 24 (v.1 % 16)))
    else if off = Reg.HGT_LOAD then some (BitVec.ofNat 32 ((List.range 8).map (fun c => s.devLoad t c * 4 ^ c)).sum)
    else identWord off

/-- Which registers a logical device serves while its half is in the recovery personality (Table BUP-5). -/
def recoveryBar (off : Nat) : Bool :=
  (identWord off).isSome || off = Reg.PRT_LIVE || off = Reg.DEV_TENANT || off = Reg.BUP_TREADY

def inMsixTable (off : Nat) : Bool := 0xC000 ≤ off && off < 0xC040
def inMsixPba (off : Nat) : Bool := 0xD000 ≤ off && off < 0xD008
/-- The CXL component registers (Table REG-2). -/
def inComponent (off : Nat) : Bool := 0x1000 ≤ off && off < 0x2000

/-- A word of the MSI-X table: the vector's mask bit stands in its control word. -/
def Ld.msixWord (off : Nat) (l : Ld) : W32 :=
  let v := (off - 0xC000) / 16
  let i := off / 4 % 4
  if i = 3 then at32 0 (b2n (bit v l.vecMask)) else wordOf i (tget 0#128 v l.msixTab)

def State.inRecovery (t : Nat) (s : State) : Bool := (s.half (tenantHalf t)).stage = .recovery

/-- What a BAR0 register reads. -/
def State.barValue (t off : Nat) (s : State) : W32 :=
  if inMsixTable off then (s.ld t).msixWord off
  else if inMsixPba off then (if off = 0xD000 then (s.ld t).pending.setWidth 32 else 0#32)
  else if s.inRecovery t && !recoveryBar off then 0#32
  else if inComponent off then s.compRead t (off - 0x1000)
  else match s.barComp t off with
    | some v => v
    | none => s.bar t off

/-! The steward space (Tables REG-9 to REG-22). -/

def unitWord (u : UnitCtl) : W32 := at32 30 u.st.code ||| at32 27 u.cause.toNat ||| at32 26 (b2n u.tpass)

/-- A field of up to 1,000 that the spec does not compute (log 3). -/
def State.permille (s : State) : Nat := freeBelow 1001 s

def State.prtWord (off : Nat) (s : State) : Option W32 :=
  (instOf Reg.PRT_PSTAT 16 4 off).map (fun p =>
    let q := s.port p
    (s.stw off &&& 0xFFFF0000#32) ||| at32 9 q.width.toNat ||| at32 6 q.rate.toNat ||| at32 5 (b2n q.mld) |||
      at32 4 (b2n q.bonded) ||| at32 0 q.st.code)

/-- Descriptors in flight that were checked under an earlier epoch (Table WTT-7). -/
def State.opsOld (t : Nat) (s : State) : Nat :=
  min 0xFFF (s.ops.filter (fun o => o.tenant = t && o.epoch ≠ (s.wttOf t).epoch)).length

def State.wttWord (off : Nat) (s : State) : Option W32 :=
  match instOf Reg.WTT_CFG 256 4 off with
  | some t => some (s.wttOf t).shCfg
  | none => (instOf Reg.WTT_TSTAT 256 4 off).map (fun t =>
      let w := s.wttOf t
      (s.stw off &&& 8#32) ||| at32 16 w.epoch.toNat ||| at32 4 (s.opsOld t) ||| at32 2 (b2n w.pend.isSome) |||
        at32 1 (b2n w.oldDone) ||| at32 0 (b2n w.onB))

/-- The Near slot record of a plot (Table TIR-7). -/
def Plot.slotRecord (p : Nat) (e : Plot) : Nat :=
  let ids (f : Claim → Bool) : Nat := ((e.claims.filter f).map (fun c => 2 ^ c.tenant)).sum
  ids (fun _ => true) + ids (fun c => c.auto) * 2 ^ 256 + ids (fun c => c.pool) * 2 ^ 512 + (e.pins.map (fun t => 2 ^ t)).sum * 2 ^ 768 +
    p % 2 ^ 36 * 2 ^ 1024 + e.dirty.toNat * 2 ^ 1088 + e.copied.toNat * 2 ^ 1104

def State.tirWord (off : Nat) (s : State) : Option W32 :=
  if off = Reg.TIR_AGECLK then some ((s.stw off &&& 0x10000#32) ||| at32 0 (s.clk.age % 65536))
  else match instOf Reg.TIR_PQ_DATA 4 4 off with
    | some i => some (wordOf i s.tier.snap)
    | none => (instOf Reg.TIR_PQ_REC 64 4 off).map (fun i =>
        s.tier.snapRec.elim 0#32 (fun r => BitVec.ofNat 32 (fld (32 * i + 31) (32 * i) (r.2.slotRecord r.1))))

def State.cmpWord (off : Nat) (s : State) : Option W32 :=
  let k := s.tsel
  if off = Reg.CMP_TSTAT then
    if k = 255 then some (at32 30 1)
    else
      let t := s.tslot k
      some (at32 30 (slotCode t.cur.isSome t.drain.isSome) ||| at32 16 (if t.cur.isNone && t.drain.isNone then 0 else t.owner) |||
        at32 8 (t.cur.elim 0 (fun g => g.gen.toNat)) ||| at32 0 (t.drain.elim 0 (fun g => g.gen.toNat)))
  else if off = Reg.CMP_TBOUND then some (BitVec.ofNat 32 ((s.tslot k).drain.elim 0 (fun g => s.boundTo k g.gen)))
  else if off = Reg.CMP_TERR0 then some (if k ≤ 256 then tget 0#32 k s.cmp.terr0 else 0#32)
  else if off = Reg.CMP_TERR1 then some (if k ≤ 256 then tget 0#32 k s.cmp.terr1 else 0#32)
  else if off = Reg.CMP_TCMD then some (at32 24 s.cmp.tcmdStatus.toNat)
  else match instOf Reg.CMP_FIX 2 4 off with
    | some h => some ((s.stw off &&& 0xF#32) ||| at32 13 (min 0x7FFFF (s.tier.escUsed.filter (fun e => e / 262144 = h)).length) |||
        at32 4 (min 15 (s.tier.plots.filter (fun e => halfIdx (homeHalf e.1) = h && s.oversize e.1 e.2)).length))
    | none => (instOf Reg.CMP_BTAB 1024 4 off).map (fun i => BitVec.ofNat 32 (leNat ((builtinImage.drop (4 * i)).take 4)))

def State.fleWord (off : Nat) (s : State) : Option W32 :=
  match instOf Reg.FLE_CFG 16 4 off with
  | some n => some ((s.stw off &&& 0xFFF0#32) ||| at32 0 ((s.sbanks n).length % 16))
  | none => (instOf Reg.FLE_ESTAT 16 4 off).map (fun n => unitWord (s.fe n).ctl)

def State.tndWord (off : Nat) (s : State) : Option W32 :=
  if off = Reg.TND_PSTAT then
    let n := s.stwF Reg.TND_PSEL 9 0
    if 1008 ≤ n then some (at32 30 (if n < 1016 then 1 else 0))
    else
      let k := s.pslot n
      some (at32 30 (slotCode k.cur.isSome k.old.isSome) ||| at32 16 (if k.cur.isNone && k.old.isNone then 0 else k.owner) |||
        at32 0 (min 0xFFFF (s.jobsOn n true)))
  else (instOf Reg.TND_ESTAT 64 4 off).map (fun n => unitWord (s.tc n))

/-- SHR_STAT (Table SHR-5); a region that is not enabled has no buffer in use. -/
def Region.statWord (g : Region) : W32 :=
  let st (b : Nat) : Nat :=
    if !g.enabled || g.nbuf < b then 0 else if g.cur = b then 1 else if g.pins.any (fun p => p.buf = b) then 2 else 0
  at32 31 (b2n g.pub.isSome) ||| at32 26 (g.cur % 4) ||| at32 24 (st 3) ||| at32 22 (st 2) ||| at32 20 (st 1) ||| at32 18 (st 0) |||
    at32 0 (g.pins.length % 512)

def State.shrWord (off : Nat) (s : State) : Option W32 :=
  let r := s.shrSel
  let g := s.region r
  if off = Reg.SHR_CFG then
    some (at32 31 (b2n g.enabled) ||| at32 30 (b2n g.cfgErr) ||| at32 28 (g.nbuf % 4) ||| at32 0 (g.size % 2 ^ 28))
  else if off = Reg.SHR_VER then some g.ver
  else if off = Reg.SHR_STAT then some g.statWord
  else if off = Reg.SHR_OCNT then some (BitVec.ofNat 32 (min 0xFFFFFFFF (s.orphCount r)))
  else if off = Reg.SHR_VIEW_LO then some (BitVec.ofNat 32 g.view)
  else if off = Reg.SHR_VIEW_HI then some (BitVec.ofNat 32 (g.view / 2 ^ 32 % 16))
  else match instOf Reg.SHR_BUF_LO 4 8 off, instOf Reg.SHR_BUF_HI 4 8 off, instOf Reg.SHR_TSTAT 256 4 off with
    | some b, _, _ => some (BitVec.ofNat 32 (g.base b))
    | _, some b, _ => some (BitVec.ofNat 32 (g.base b / 2 ^ 32 % 16))
    | _, _, some t => some ((s.stw off &&& 0xFFFF#32) ||| at32 31 (b2n (nmem t s.shr.sweeping)) ||| at32 30 (b2n (s.ld t).relAck))
    | _, _, _ => none

def State.dmcWord (off : Nat) (s : State) : Option W32 :=
  match instOf Reg.DMC_RCFG 2 4 off with
  | some k =>
    let l := (List.range 264).filter (fun ch => chanTier ch = k)
    some ((s.stw off &&& 0xF001#32) ||| at32 8 ((l.map (fun ch => (s.chan ch).refRate.toNat)).foldl max 0))
  | none => match instOf Reg.DMC_BSTAT 136 4 off with
    | some ch => some ((s.stw off &&& 0xFFFFFF#32) ||| at32 30 (s.chan ch).st.code)
    | none => match instOf Reg.DMC_HSTAT 128 4 off with
      | some ch => some ((s.stw off &&& 0xFFFFFF#32) ||| at32 30 (s.chan (136 + ch)).st.code)
      | none => match instOf Reg.DMC_RMAP 256 4 off with
        | some r => some (at32 29 (s.rank r).st.code ||| at32 0 ((s.rank r).phys % 512))
        | none => match instOf Reg.DMC_ESTAT 2 4 off with
          | some _ => let w := s.stw off; some (if bit 31 w then setBits 17 8 s.permille w else w)
          | none => (instOf Reg.DMC_SQSTAT 2 4 off).map (fun k => (s.stw off &&& 0xFFFF#32) ||| at32 16 (tget 0#16 k s.dmc.setVer).toNat)

/-- CST_BANK_n (Table CST-6). -/
def Bank.word (k : Bank) : W32 :=
  let id := match k.kind with
    | .stage => k.owner
    | .work => k.owner
    | .job => k.owner
    | _ => 0
  at32 28 k.kind.code ||| at32 16 (id % 4096) ||| at32 13 k.ps.code ||| at32 12 (b2n k.handover.isSome) ||| at32 11 (b2n k.mpass)

def State.cstWord (off : Nat) (s : State) : Option W32 :=
  match instOf Reg.CST_BANK 512 4 off with
  | some b => some (s.bank b).word
  | none => (instOf Reg.CST_POOL 2 4 off).map (fun h =>
      let l := (halfBanks (halfOf h)).filter (fun b => (s.bank b).kind = .free)
      at32 16 (l.filter (fun b => (s.bank b).ps = .on)).length ||| at32 0 l.length)

def State.rasWord (off : Nat) (s : State) : Option W32 :=
  if off = Reg.RAS_MLSTAT then some (at32 16 s.ras.logWraps ||| at32 0 (s.ras.logNext % 65536))
  else if off = Reg.RAS_RLENT_LO then some (wordOf 0 (tget 0#64 (s.stwF Reg.RAS_RLIDX 9 0) s.flash.list))
  else if off = Reg.RAS_RLENT_HI then some (wordOf 1 (tget 0#64 (s.stwF Reg.RAS_RLIDX 9 0) s.flash.list))
  else if off = Reg.RAS_RSTAT then
    let n := s.flash.list.length
    some ((s.stw off &&& 0x800000FF#32) ||| at32 8 (if n < 1024 then n else freeBelow 1024 s))
  else if off = Reg.RAS_RCNT then some (at32 16 (min 0xFFFF s.tier.badUnits.length) ||| at32 0 (min 0xFFFF s.tier.badSlots.length))
  else match instOf Reg.RAS_MLREC 8 4 off with
    | some i => some ((s.ras.log[s.stwF Reg.RAS_MLIDX 15 0]?).elim 0#32 (fun r => wordOf i r))
    | none => match instOf Reg.RAS_LAPC 6 4 off with
      | some _ => some ((s.stw off &&& 0xFFFF0000#32) ||| at32 0 (if s.clk.us = 0 then 0 else s.permille))
      | none => (instOf Reg.RAS_MARB 2 4 off).map (fun h =>
          (s.stw off &&& 0xFFFF0000#32) ||| at32 0 (min 0xFFFF (s.parkedNow (halfOf h))))

def State.secWord (off : Nat) (s : State) : Option W32 :=
  if off = Reg.SEC_STAT then some s.secStat
  else if off = Reg.SEC_MGMT then some (if s.sec.bound.isSome then at32 31 1 ||| at32 0 s.sec.boundEid.toNat else 0#32)
  else match instOf Reg.SEC_BSTAT 2 4 off with
    | some h =>
      let x := s.half (halfOf h)
      some (at32 26 x.runSvn.toNat ||| at32 24 x.keyIdx.toNat ||| at32 8 (min 0xFF x.nFail) ||| at32 0 (x.lastErr % 8))
    | none => match instOf Reg.SEC_NONCE 8 4 off with
      | some i => some (wordOf i (Config.drbg s.sec.nonceNo))
      | none => match instOf Reg.SEC_PSTAT 16 4 off with
        | some p => some ((s.stw off &&& 0xFFFF#32) ||| at32 30 (if (s.port p).ideInsecure then 2 else if (s.port p).ideSecure then 1 else 0))
        | none => (instOf Reg.SEC_KSTAT 256 4 off).map (fun n =>
            let k := s.key n
            at32 30 k.st.code ||| at32 29 (b2n k.drbg) ||| at32 0 k.gen.toNat)

/-- BUP_USTAT (Table BUP-13). -/
def State.ustatWord (s : State) : W32 :=
  let u := s.upd
  let p := if u.st = .committing then s.permille
    else if s.romServes && u.st ≠ .idle then min 1000 (u.chunks.length * 1000 / max 1 (ceilDiv u.len 4096))
    else 0
  at32 31 (b2n (decide (u.st = .committing))) ||| at32 28 u.st.code ||| at32 18 p ||| (s.stw Reg.BUP_USTAT &&& 0xFF#32)

def State.bupWord (off : Nat) (s : State) : Option W32 :=
  if off = Reg.BUP_USTAT then some s.ustatWord
  else match instOf Reg.BUP_STAGE 2 4 off with
    | some h => let x := s.half (halfOf h); some (at32 28 x.stage.code ||| at32 0 (min 0xFFFF x.stageMs))
    | none => (instOf Reg.BUP_READYH 2 4 off).map (fun h => (s.half (halfOf h)).ready.setWidth 32)

/-- PWM_STAT.F: f in units of 1/1,024; between two units the spec names neither (Table PWM-8; log 3). -/
def State.fUnits (s : State) : Nat :=
  let e := bits 30 23 s.pwm.f
  let m := bits 22 0 s.pwm.f + 2 ^ 23
  let d := 2 ^ (140 - e)
  m / d + (if m % d = 0 then 0 else freeBelow 2 s)

def State.pwmWord (off : Nat) (s : State) : Option W32 :=
  if off = Reg.PWM_STAT then
    some (at32 24 s.pwm.thermCap ||| at32 18 (s.pwm.level % 4) ||| at32 16 (s.pwm.limit % 4) ||| at32 0 (min 1024 s.fUnits))
  else if off = Reg.PWM_SBY then some (setBit 30 s.pwm.standby (s.stw off))
  else if off = Reg.PWM_MSTAT then
    some ((s.stw off &&& 0xFFFF#32) ||| at32 30 s.north.role.code ||| at32 28 s.south.role.code ||| at32 27 (b2n s.fuse.dfltSouth) |||
      at32 26 (b2n s.conflict) ||| at32 25 (b2n s.split))
  else (instOf Reg.PWM_PWRC 7 4 off).map (fun _ => if s.clk.us = 0 then 0#32 else (Config.freeBits s.freeCtr).setWidth 32 &&& 0xFFFF#32)

/-- Steward-space words that are composed on a read; none where the register is a stored word. -/
def State.stwComp (off : Nat) (s : State) : Option W32 :=
  match off / 65536 with
  | 0 => if 0x1000 ≤ off then s.prtWord off else identWord off
  | 1 => s.wttWord off
  | 2 => s.tirWord off
  | 4 => s.cmpWord off
  | 5 => s.fleWord off
  | 6 => s.tndWord off
  | 7 => if off = Reg.DSC_GSTAT then some (BitVec.ofNat 32 s.ops.length) else none
  | 8 => s.shrWord off
  | 9 => (instOf Reg.HGT_PURG 16 4 off).map (fun p => if s.portUnused p then 0#32 else BitVec.ofNat 32 (s.pinLevel p))
  | 10 => s.dmcWord off
  | 11 => s.cstWord off
  | 12 => s.rasWord off
  | 13 => s.secWord off
  | 14 => s.bupWord off
  | 15 => s.pwmWord off
  | _ => none

/-- Registers that the ROM serves in the recovery personality (Table BUP-5). -/
def recoveryStw (off : Nat) : Bool :=
  stwIdent off || off / 65536 = 14 || (instOf Reg.SEC_BSTAT 2 4 off).isSome || off = Reg.SEC_STAT || (instOf Reg.SEC_NONCE 8 4 off).isSome

/-- What a steward-space register reads. -/
def State.stwValue (off : Nat) (s : State) : W32 :=
  if s.romServes && !recoveryStw off then 0#32
  else match s.stwComp off with
    | some v => v
    | none => s.stw off

/-! Reads with their side effects (R7, R8). -/

/-- What a read of an RC register leaves, with the update of the same cycle on top. -/
def State.barCleared (t off : Nat) (upd : W32) (s : State) : State :=
  let upd := upd &&& rcMask (barRow off)
  match instOf Reg.ALM_CNT 4 4 off with
  | some i => match s.viewCursor t with
    | some (n, _) => s.modCursor (s.barF t Reg.ALM_MSEL 9 0) n (fun v =>
        if i = 0 then { v with cnt0 := upd } else if i = 1 then { v with cnt1 := upd }
        else if i = 2 then { v with cnt2 := upd } else { v with cnt3 := upd })
    | none => s
  | none => match barRow off with
    | some r => if r.rc = 0#32 then s else s.modBar t off (fun w => r.clearRead w upd)
    | none => s

/-- One BAR0 word read. -/
def State.readBar (t off : Nat) (upd : W32) (s : State) : W32 × State :=
  let v := s.barValue t off
  (v, (if s.inRecovery t && !recoveryBar off then s else s.barCleared t off upd).tickFree)

def State.stwCleared (off : Nat) (upd : W32) (s : State) : State :=
  let upd := upd &&& rcMask (stwRow off)
  if off = Reg.CMP_TERR0 then
    (if s.tsel ≤ 256 then s.modCmp (fun c => { c with terr0 := tset 0#32 s.tsel upd c.terr0 }) else s)
  else if off = Reg.CMP_TERR1 then
    (if s.tsel ≤ 256 then s.modCmp (fun c => { c with terr1 := tset 0#32 s.tsel upd c.terr1 }) else s)
  else match stwRow off with
    | some r => if r.rc = 0#32 then s else s.modStw off (fun w => r.clearRead w upd)
    | none => s

/-- One steward-space word read. -/
def State.readStw (off : Nat) (upd : W32) (s : State) : W32 × State :=
  (s.stwValue off, (if s.romServes && !recoveryStw off then s else s.stwCleared off upd).tickFree)

end Sys2Proof.Machine
end

