-- ==== Sys2Proof/Machine/Registers.lean ====
section
/-! DEFINITION. Register writes and the accesses that reach registers (spec/19_register_map.md R438 to R445;
spec/18_power_and_management.md R432, R433; spec/16_security.md R405). A write to a register that has a row of its own
does what that row does (log 15). -/

namespace Sys2Proof.Machine

open Host (Outcome)

/-- The state that a row's meaning leaves. -/
def State.after (s : State) (o : Outcome State Fault Refusal) : State := match o with
  | .next t => t
  | _ => s

/-- A value held within lo and hi. -/
def clampTo (lo hi n : Nat) : Nat := min hi (max lo n)

/-! BAR0 writes. -/

/-- A write of the MSI-X table: address and data words, and the mask bit of the control word (R33). -/
def State.msixWrite (t off : Nat) (v : W32) (s : State) : State :=
  let n := (off - 0xC000) / 16
  let i := off / 4 % 4
  if i = 3 then (s.modLd t (fun l => { l with vecMask := setBit n (bit 0 v) l.vecMask })).flushMsix t
  else s.modLd t (fun l => { l with msixTab := tset 0#128 n (setBits (32 * i + 31) (32 * i) v.toNat (tget 0#128 n l.msixTab)) l.msixTab })

/-- A write of a register of submission ring r. The base holds while the ring is not DISABLED (R236). -/
def State.sqWrite (t : Tenant) (r : Nat) (off : Nat) (v : W32) (s : State) : State :=
  let n := BitVec.ofNat 4 r
  let reg := 0x2000 + 32 * r + off
  if off = 0x8 then s.after (if bit 31 v then execRingEnable t n v s else execRingDisable t n v s)
  else if off = 0xC then (if bit 31 v then s.after (execRingRestart t n s) else s)
  else if off = 0x0 || off = 0x4 then
    (if (s.ring t.toNat r).st = .disabled then s.setBar t.toNat reg (if off = 0 then v &&& 0xFFFFF000#32 else v) else s)
  else s

/-- A BAR0 register by its access types, with the limits its table gives (Tables PRT-11, FMT-7). -/
def State.barPlain (t off : Nat) (r : RegRow) (v : W32) (s : State) : State :=
  if off = Reg.PRT_CTO then s.setBar t off (BitVec.ofNat 32 (clampTo 50 64000 (bits 15 0 v)))
  else if off = Reg.FMT_CTL then s.setBar t off ((v &&& 0x80000000#32) ||| at32 0 (if bits 1 0 v = 3 then 0 else bits 1 0 v))
  else if off = Reg.DSC_CQ_BASE_LO || off = Reg.DSC_CQ_BASE_HI then
    (if s.cqOn t then s else s.modBar t off (fun w => r.write w v))
  else s.modBar t off (fun w => r.write w v)

/-- A write of one listed BAR0 register. -/
def State.barWrite (t : Tenant) (off : Nat) (r : RegRow) (v : W32) (s : State) : State :=
  if 0x2000 ≤ off ∧ off < 0x2200 then s.sqWrite t ((off - 0x2000) / 32) (off % 32) v
  else if off = Reg.DSC_CQ_CFG then s.after (if bit 31 v then execCqEnable t v s else execCqDisable t v s)
  else if off = Reg.DSC_CQ_HEAD then s.after (execCqHeadWrite t v s)
  else if off = Reg.DSC_DB then s.after (execMmioDoorbell t v s)
  else if off = Reg.ALM_MARK then s.after (execAlmMark t v s)
  else if off = Reg.HGT_UIB then s.after (execUibWrite t v s)
  else s.barPlain t.toNat off r v

/-- One BAR0 word written: ignored during a drain but for the doorbell, which is refused and counted (R442), and in the
recovery personality (Table BUP-5); a reserved offset counts (R440). -/
def State.writeBar (t : Tenant) (off : Nat) (v : W32) (s : State) : State :=
  let n := t.toNat
  if s.draining n then (if off = Reg.DSC_DB then s.after (execMmioDoorbell t v s) else s)
  else if inMsixTable off then s.msixWrite n off v
  else if s.inRecovery n || inMsixPba off then s
  else if inComponent off then s.compWrite n (off - 0x1000) v
  else match barRow off with
    | some r => s.barWrite t off r v
    | none => s.cntBar n Reg.REG_ACCERR 15 0 1

/-! Steward-space writes. Each takes the state last. -/

def State.wttWrite (off : Nat) (v : W32) (s : State) : Option State :=
  match instOf Reg.WTT_CFG 256 4 off with
  | some t => some (s.writeWttCfg t v)
  | none => match instOf Reg.WTT_DATA 4 4 off with
    | some i => some (if i = 3 then s.after (execWttDataWrite v s) else { s with wttData := tset 0#32 i v s.wttData })
    | none =>
      if off = Reg.WTT_COMMIT then
        let t : Tenant := BitVec.ofNat 8 (bits 7 0 v)
        some (s.after (match bits 9 8 v with
          | 0 => execWttCommit t s
          | 1 => execWttGroupCommit s
          | 2 => execWttCopy t s
          | _ => execWttCommitReserved t s))
      else none

def State.tirWrite (off : Nat) (v : W32) (s : State) : Option State :=
  if off = Reg.TIR_ASGN_CMD then
    some (s.after (match bits 1 0 v with
      | 0 => execTirAssign s
      | 1 => execTirRelease s
      | 2 => execTirAsgnReserved s
      | _ => execTirRemoveClaims (BitVec.ofNat 8 (bits 9 2 v)) s))
  else if off = Reg.TIR_CLS then some (s.after (execTirClsWrite v s))
  else if off = Reg.TIR_PQ_PLOT_HI then some (s.after (execPlotQuery v s))
  else (instOf Reg.TIR_FAR_CTL 256 4 off).map (fun n =>
    let t : Tenant := BitVec.ofNat 8 n
    let s := if bit 28 v then s.modStw off (setBit 28 false) else s
    let s := if bit 29 v then s.after (execFarRevoke t s) else s
    s.after (if bit 31 v then execFarEnable t s else execFarDisable t s))

/-- ALM_BIND (Table ALM-20). -/
def State.almWrite (off : Nat) (v : W32) (s : State) : Option State :=
  if off = Reg.ALM_BIND then
    let cal : CalId := BitVec.ofNat 10 (bits 9 0 v)
    let t : Tenant := BitVec.ofNat 8 (bits 23 16 v)
    let cur : BitVec 4 := BitVec.ofNat 4 (bits 27 24 v)
    let src : BitVec 2 := BitVec.ofNat 2 (bits 29 28 v)
    some (s.after (match bits 31 30 v with
      | 0 => execAlmBind cal cur t src s
      | 1 => execAlmUnbind cal cur s
      | 2 => execAlmClearPosition cal cur s
      | _ =>
        if cur = 0#4 then execAlmReclaimUnload cal s
        else if cur = 1#4 then execAlmNewOwner cal t src s
        else .next (s.bindStatus (s.bindCheck cal.toNat (fun _ => true) (fun _ => false)).1)))
  else none

def State.cmpWrite (off : Nat) (v : W32) (s : State) : Option State :=
  if off = Reg.CMP_TCMD then
    some (s.after (match bits 9 8 v with
      | 0 => execCmpTableUnload s
      | 1 => execCmpTableOwner (BitVec.ofNat 8 (bits 7 0 v)) s
      | _ => execCmpTcmdReserved s))
  else (instOf Reg.CMP_SW_CTL 64 32 off).map (fun n => s.after (execScaleWindowEnable (BitVec.ofNat 6 n) v s))

/-- FLE_CFG keeps its fields within Table FLE-8. -/
def State.fleCfg (n off : Nat) (v : W32) (s : State) : State :=
  s.setStw off (at32 12 (min (s.sbanks n).length (bits 15 12 v)) ||| at32 8 (clampTo 1 4 (bits 11 8 v)) ||| at32 4 (clampTo 2 8 (bits 7 4 v)))

def State.fleWrite (off : Nat) (v : W32) (s : State) : Option State :=
  if off = Reg.FLE_FENCE then
    let fe : BitVec 4 := BitVec.ofNat 4 (bits 3 0 v)
    some (s.after (match bits 9 8 v with
      | 0 => execEngineFence fe .steward s
      | 1 => execEngineBist fe s
      | 2 => execEngineReturn fe s
      | _ => .next s))
  else if off = Reg.FLE_DUPCFG then some (s.setStw off ((v &&& 0x80000000#32) ||| at32 0 (clampTo 4 12 (bits 3 0 v))))
  else (instOf Reg.FLE_CFG 16 4 off).map (fun n => s.fleCfg n off v)

def State.tndWrite (off : Nat) (v : W32) (s : State) : Option State :=
  if off = Reg.TND_FENCE then
    let tc : BitVec 6 := BitVec.ofNat 6 (bits 5 0 v)
    some (s.after (match bits 9 8 v with
      | 0 => execCoreFence tc .steward s
      | 1 => execCoreBist tc s
      | 2 => execCoreReturn tc s
      | _ => .next s))
  else if off = Reg.TND_PCMD then
    some (s.after (match bits 9 8 v with
      | 0 => execProgramSlotUnload s
      | 1 => execProgramSlotOwner (BitVec.ofNat 8 (bits 7 0 v)) s
      | _ => execTndPcmdReserved s))
  else (instOf Reg.TND_TLIM 256 4 off).map (fun _ => s.setStw off (setBits 22 0 (min 4194304 (bits 22 0 v)) v))

/-- A field of the region that SHR_SEL names; it changes only while the region is disabled (R277). -/
def State.regionField (f : Region → Region) (s : State) : State :=
  s.modRegion s.shrSel (fun g => if g.enabled then g else f g)

def loHalf (v : W32) (n : Nat) : Nat := n / 2 ^ 32 * 2 ^ 32 + v.toNat
def hiHalf (v : W32) (n : Nat) : Nat := n % 2 ^ 32 + bits 3 0 v * 2 ^ 32

def State.shrWrite (off : Nat) (v : W32) (s : State) : Option State :=
  if off = Reg.SHR_CFG then
    some (if bit 31 v then s.after (execRegionEnable v s)
      else
        let g := (s.region s.shrSel).writeCfg v
        let s := s.setRegion s.shrSel g
        if g.enabled then s.after (execRegionDisable s) else s)
  else if off = Reg.SHR_VER then some (s.regionField (fun g => { g with ver := v }))
  else if off = Reg.SHR_VIEW_LO then some (s.regionField (fun g => { g with view := loHalf v g.view }))
  else if off = Reg.SHR_VIEW_HI then some (s.regionField (fun g => { g with view := hiHalf v g.view }))
  else if off = Reg.SHR_CMD then
    let r : RegionId := BitVec.ofNat 12 (bits 19 8 v)
    let t : Tenant := BitVec.ofNat 8 (bits 7 0 v)
    some (s.after (match bits 31 30 v with
      | 0 => execShrFailTenant t s
      | 1 => execReleaseRegionOrphans r s
      | 2 => execReleaseTenantOrphans t s
      | _ => execReleaseCapacity r t s))
  else match instOf Reg.SHR_BUF_LO 4 8 off, instOf Reg.SHR_BUF_HI 4 8 off with
    | some b, _ => some (s.regionField (fun g => { g with bufs := tset 0 b (loHalf v (g.base b)) g.bufs }))
    | _, some b => some (s.regionField (fun g => { g with bufs := tset 0 b (hiHalf v (g.base b)) g.bufs }))
    | _, _ => none

/-- HGT_TGT, HGT_WBUD, HGT_WCFG and HGT_UCFG (Tables HGT-9 to HGT-12). -/
def State.hgtWrite (off : Nat) (v : W32) (s : State) : Option State :=
  match instOf Reg.HGT_TGT 2048 4 off with
  | some _ => let n := bits 23 0 v; some (s.setStw off (BitVec.ofNat 32 (if n = 0 then 0 else max 64 n)))
  | none => match instOf Reg.HGT_WBUD 2048 4 off with
    | some i => some (s.after (execWeirConfigWrite (BitVec.ofNat 8 (i / 8)) (some (BitVec.ofNat 3 (i % 8))) v s))
    | none => match instOf Reg.HGT_WCFG 256 4 off with
      | some t => some (s.after (execWeirConfigWrite (BitVec.ofNat 8 t) none v s))
      | none => (instOf Reg.HGT_UCFG 256 4 off).map (fun _ =>
          s.setStw off (at32 16 (clampTo 1 2048 (bits 27 16 v)) ||| (v &&& 0xF#32)))

/-- The DMC registers with limits (Tables DMC-7 to DMC-9, DMC-14) and DMC_EVAC. -/
def State.dmcWrite (off : Nat) (v : W32) (s : State) : Option State :=
  if off = Reg.DMC_EVAC then
    let r : BitVec 8 := BitVec.ofNat 8 (bits 7 0 v)
    some (s.after (match bits 31 30 v with
      | 0 => execEvacuate r s
      | 1 => execEvacuateCancel r s
      | _ => .next s))
  else if off = Reg.DMC_ECFG then
    some (s.setStw off ((v &&& 0x80000000#32) ||| at32 16 (max 1 (bits 23 16 v)) ||| at32 0 (max 1 (bits 7 0 v))))
  else match instOf Reg.DMC_PCFG 2 4 off with
    | some _ => some (s.setStw off (at32 16 (max 1 (bits 31 16 v)) ||| at32 0 (if bits 1 0 v = 3 then 0 else bits 1 0 v)))
    | none => match instOf Reg.DMC_RCFG 2 4 off with
      | some _ => some (s.setStw off (at32 12 (min 8 (bits 15 12 v)) ||| (v &&& 1#32)))
      | none => (instOf Reg.DMC_TCFG 2 4 off).map (fun _ =>
          s.setStw off ((v &&& 0x80000000#32) ||| at32 0 (max 1 (bits 15 0 v))))

/-- CST_BCMD and CST_MCMD (Tables CST-7, CST-13). -/
def State.cstWrite (off : Nat) (v : W32) (s : State) : Option State :=
  let b : BankId := BitVec.ofNat 9 (bits 8 0 v)
  if off = Reg.CST_BCMD then
    some (s.after (match bits 31 30 v, bits 21 20 v with
      | 0, _ => execBankGiveStage b (BitVec.ofNat 4 (bits 19 16 v)) s
      | 1, _ => execBankReturnPool b s
      | 2, _ => execBankRetire b s
      | _, 0 => execBankPowerOn b s
      | _, 1 => execBankRetention b s
      | _, 2 => execBankFallow b s
      | _, _ => .next (s.bcStatus (s.bcCheck b.toNat true false))))
  else if off = Reg.CST_MCMD then
    let n : BitVec 9 := BitVec.ofNat 9 (bits 17 9 v)
    some (s.after (match bits 31 30 v with
      | 0 => execMarchDestructive b n (BitVec.ofNat 4 (bits 29 26 v)) s
      | 1 => execMarchPreserving b n s
      | 2 => execMarchAbort (bankHalf b.toNat) s
      | _ => .next s))
  else none

/-- RAS_RCMD and RAS_SCFG (Tables RAS-13, RAS-19). -/
def State.rasWrite (off : Nat) (v : W32) (s : State) : Option State :=
  let h := halfOf (bits 8 8 v)
  if off = Reg.RAS_RCMD then
    some (s.after (match bits 31 30 v with
      | 0 => execRetireNearSlot s
      | 1 => execRetireBulkUnit h s
      | 2 => execAddRetirementEntry (BitVec.ofNat 4 (bits 3 0 v)) h s
      | _ => execEmptyRetirementEntry s))
  else (instOf Reg.RAS_SCFG 3 4 off).map (fun _ =>
    s.setStw off (setBits 23 16 (max 1 (bits 23 16 v)) (v &&& 0x80FFFFFF#32)))

/-- SEC_CMD, SEC_KCMD and SEC_MGMT (Tables SEC-12, SEC-13, SEC-16); BIND takes effect only in a session (R405). -/
def State.secWrite (off : Nat) (v : W32) (s : State) : Option State :=
  if off = Reg.SEC_CMD then
    some (match bits 31 30 v with
      | 0 => s.after (execRaiseMinsvn s)
      | 1 => s.after (execRevokeKey (BitVec.ofNat 2 (bits 1 0 v)) s)
      | _ => s.fuseCmd true false id)
  else if off = Reg.SEC_KCMD then
    let k : BitVec 8 := BitVec.ofNat 8 (bits 7 0 v)
    some (match bits 31 30 v with
      | 0 => s.after (execKcmdKeygen k s)
      | 1 => s.after (execKcmdZeroise k s)
      | 2 => s.after (execKcmdZeroiseAll s)
      | _ => s.kcmd .keygen true k.toNat)
  else if off = Reg.SEC_MGMT then some s
  else none

/-- BUP_UPD, BUP_BCMD and the update window (Tables BUP-12, BUP-14). -/
def State.bupWrite (off : Nat) (v : W32) (s : State) : Option State :=
  if off = Reg.BUP_UPD then
    some (match bits 31 29 v with
      | 0 => s.after (execUpdateBegin s)
      | 1 => s.after (execUpdateChunk (BitVec.ofNat 14 (bits 13 0 v)) s)
      | 2 => s.after (execUpdateVerify s)
      | 3 => s.after (execUpdateCommit s)
      | 4 => s.after (execUpdateAbandon s)
      | _ => s.ustat (s.updCheck false true false))
  else if off = Reg.BUP_BCMD then some (s.bistStart (bits 31 28 v) (bits 8 0 v))
  else (instOf Reg.BUP_UWIN 1024 4 off).map (fun i => s.modUpd (fun u => { u with win := tset 0#32 i v u.win }))

/-- PWM_CAP, PWM_SBY, PWM_CISCFG and PWM_TLIM (Tables PWM-7, PWM-10 to PWM-12; R426). -/
def State.pwmWrite (off : Nat) (v : W32) (s : State) : Option State :=
  if off = Reg.PWM_CAP then some (s.setStw off (BitVec.ofNat 32 (clampTo 50 90 (bits 6 0 v))))
  else if off = Reg.PWM_SBY then
    some (s.modStw off (fun w => (w &&& 0x3FFF0000#32) ||| (v &&& 0x80000000#32) ||| at32 0 (max 1 (bits 15 0 v))))
  else match instOf Reg.PWM_CISCFG 2 4 off with
    | some _ => some (s.setStw off ((v &&& 0x80FF0000#32) ||| at32 0 (max 1 (bits 15 0 v))))
    | none => (instOf Reg.PWM_TLIM 4 4 off).map (fun _ =>
        let r := stwReset off
        let f (lo : Nat) : W32 := at32 lo (min (bits (lo + 7) lo r) (bits (lo + 7) lo v))
        s.setStw off (f 16 ||| f 8 ||| f 0))

/-- Steward registers whose write is more than their access types: none for the others. -/
def State.stwOwn (off : Nat) (v : W32) (s : State) : Option State :=
  match off / 65536 with
  | 1 => s.wttWrite off v
  | 2 => s.tirWrite off v
  | 3 => s.almWrite off v
  | 4 => s.cmpWrite off v
  | 5 => s.fleWrite off v
  | 6 => s.tndWrite off v
  | 7 => (instOf Reg.DSC_TLIM 256 4 off).map (fun _ => s.setStw off (BitVec.ofNat 32 (min 4096 (bits 12 0 v))))
  | 8 => s.shrWrite off v
  | 9 => s.hgtWrite off v
  | 10 => s.dmcWrite off v
  | 11 => s.cstWrite off v
  | 12 => s.rasWrite off v
  | 13 => s.secWrite off v
  | 14 => s.bupWrite off v
  | 15 => s.pwmWrite off v
  | _ => none

/-- One steward-space word written. PRT_BOND can be written from step 8 of Table BUP-1 onward (R28). -/
def State.writeStw (off : Nat) (v : W32) (s : State) : State :=
  if s.romServes && off / 65536 ≠ 14 then s
  else if off = Reg.PRT_BOND && !s.inFirmware (s.stewardHalf.getD .north) then s
  else match stwRow off with
    | some r => (s.stwOwn off v).getD (s.modStw off (fun w => r.write w v))
    | none => if stwIdent off then s else s.cntStw Reg.REG_ACCERR 15 0 1

/-! The rows. -/

def State.writeReg (sp : RegSpace) (off : Nat) (v : W32) (s : State) : State := match sp with
  | .bar0 t => s.writeBar t off v
  | .bar2 t => s.bar2Write t.toNat off v
  | .steward => s.writeStw off v

def State.readReg (sp : RegSpace) (off : Nat) (upd : W32) (s : State) : W32 × State := match sp with
  | .bar0 t => s.readBar t.toNat off upd
  | .bar2 t => (s.bar2Read t.toNat off, s.tickFree)
  | .steward => s.readStw off upd

/-- W1C bits that the module sets in the cycle of a software write end set (R8). -/
def State.w1cBar (t off : Nat) (u : W32) (s : State) : State :=
  let u := u &&& w1cMask (barRow off)
  if u = 0#32 then s
  else if 0x2000 ≤ off ∧ off < 0x2200 then
    s.modRing t ((off - 0x2000) / 32) (fun g => { g with err := true, st := if g.st = .running then .stopped else g.st })
  else s.modBar t off (fun w => w ||| u)

def State.w1cStw (off : Nat) (u : W32) (s : State) : State :=
  let u := u &&& w1cMask (stwRow off)
  if u = 0#32 then s
  else if off = Reg.SHR_CFG then s.modRegion s.shrSel (fun g => { g with cfgErr := true })
  else s.modStw off (fun w => w ||| u)

def State.w1cSets (sp : RegSpace) (off : Nat) (u : W32) (s : State) : State := match sp with
  | .bar0 t => s.w1cBar t.toNat off u
  | .bar2 _ => s
  | .steward => s.w1cStw off u

/-- REGISTER_WRITE (R7, R8, R439, R440): an 8-byte write acts as two, the lower first; w.upd holds the W1C bits that the module
sets in the cycle of each. -/
def execRegisterWrite (sp : RegSpace) (off : BitVec 24) (v : W32) (w : WriteRest) (s : State) : Outcome State Fault Refusal :=
  let s := (s.writeReg sp off.toNat v).w1cSets sp off.toNat (w.upd.setWidth 32)
  .next (match w.hi with
    | some h => (s.writeReg sp (off.toNat + 4) h).w1cSets sp (off.toNat + 4) ((w.upd >>> 32).setWidth 32)
    | none => s)

/-- READ_CLEAR (R8, R439): the value before the update of the same cycle, which the register then takes on top of its
reset value. Every register read is this row (log 14). -/
def execReadClear (sp : RegSpace) (off : BitVec 24) (wide : Bool) (upd : W64) (s : State) : Outcome State Fault Refusal :=
  let (a, s) := s.readReg sp off.toNat (upd.setWidth 32)
  if wide then
    let (b, s) := s.readReg sp (off.toNat + 4) ((upd >>> 32).setWidth 32)
    .next (s.emit (.regData [a, b]))
  else .next (s.emit (.regData [a]))

/-- An access that R438 serves: 4 bytes aligned to 4, 8 bytes aligned to 8, or what PCIe allows of the MSI-X structures. -/
def accessGood (off size : Nat) : Bool :=
  (size = 4 && off % 4 = 0) || (size = 8 && off % 8 = 0) || inMsixTable off || inMsixPba off

/-- BAR0_BAD_ACCESS (R438): counted; a read returns zero. A write of a draining device is ignored before it is looked at
(R442), and in recovery the counter is not served (Table BUP-5). -/
def execBar0BadAccess (t : Tenant) (off : W16) (size : Nat) (write : Bool) (s : State) : Outcome State Fault Refusal :=
  let n := t.toNat
  if accessGood off.toNat size then .next s
  else
    let s := if (write && s.draining n) || s.inRecovery n then s else s.cntBar n Reg.REG_ACCERR 31 16 1
    .next (if write then s else s.emit (.regData (List.replicate (max 1 (ceilDiv size 4)) 0#32)))

/-! Steward Register Access (R433, R443). -/

/-- Half that a steward-space register with an instance lies on; the others lie with the steward. -/
def stwHalf (off : Nat) : Option Half :=
  let byTenant : List (Nat × Nat) := [(Reg.WTT_CFG, 4), (Reg.WTT_TSTAT, 4), (Reg.TIR_TCFG, 4), (Reg.TIR_QUOTA_N, 4), (Reg.TIR_QUOTA_B, 4),
    (Reg.TIR_QUOTA_F, 4), (Reg.TIR_FAR_BASE_LO, 4), (Reg.TIR_FAR_BASE_HI, 4), (Reg.TIR_FAR_SIZE, 4), (Reg.TIR_FAR_CTL, 4),
    (Reg.DSC_TLIM, 4), (Reg.TND_TLIM, 4), (Reg.SHR_TSTAT, 4), (Reg.HGT_WCFG, 4), (Reg.HGT_UCFG, 4)]
  let byPort : List Nat := [Reg.PRT_PSTAT, Reg.HGT_PURG, Reg.SEC_PORT, Reg.SEC_PSTAT]
  let byHalf : List Nat := [Reg.CMP_FIX, Reg.SHR_DSTAT, Reg.HGT_SSTAT, Reg.DMC_ESTAT, Reg.DMC_TO, Reg.CST_POOL, Reg.CST_CONF,
    Reg.CST_CONF1, Reg.CST_MSTAT, Reg.CST_MFAIL0, Reg.CST_MFAIL1, Reg.RAS_MARB, Reg.SEC_BSTAT, Reg.BUP_STAGE, Reg.BUP_READYH,
    Reg.PWM_CISCFG]
  let inst (l : List (Option Half)) : Option Half := (l.filterMap id).head?
  inst (
    byTenant.map (fun e => (instOf e.1 256 e.2 off).map tenantHalf) ++
    [(instOf Reg.HGT_TGT 2048 4 off).map (fun i => tenantHalf (i / 8)), (instOf Reg.HGT_WBUD 2048 4 off).map (fun i => tenantHalf (i / 8))] ++
    byPort.map (fun b => (instOf b 16 4 off).map portHalf) ++
    byHalf.map (fun b => (instOf b 2 4 off).map halfOf) ++
    [Reg.RAS_LAPT, Reg.RAS_LAPC, Reg.RAS_LAPE].map (fun b => (instOf b 6 4 off).map halfOf) ++
    [Reg.FLE_CFG, Reg.FLE_ESTAT, Reg.FLE_WAIT].map (fun b => (instOf b 16 4 off).map feHalf) ++
    [(instOf Reg.TND_ESTAT 64 4 off).map tcHalf] ++
    [Reg.DMC_BSTAT, Reg.RAS_BCE].map (fun b => (instOf b 136 4 off).map chanHalf) ++
    [Reg.DMC_HSTAT, Reg.RAS_HCE].map (fun b => (instOf b 128 4 off).map (fun i => chanHalf (136 + i))) ++
    [(instOf Reg.DMC_RMAP 256 4 off).map (fun r => halfOf (rankHalf r))] ++
    [Reg.CST_BANK, Reg.CST_BERR].map (fun b => (instOf b 512 4 off).map bankHalf))

/-- Offsets that a request names, OFFSET[1:0] ignored. -/
def accessOffs (off count : Nat) : List Nat := (List.range (min 16 count)).map (fun i => off / 4 * 4 + 4 * i)

/-- The half that serves steward accesses: the steward, or the endpoint's own while none holds stewardship. -/
def State.servingHalf (e : Endpoint) (s : State) : Half := s.stewardHalf.getD ((epHalf e).getD .north)

/-- Firmware or the recovery ROM answers at e. -/
def State.stwServed (e : Endpoint) (s : State) : Bool :=
  let h := (epHalf e).getD (s.servingHalf e)
  s.reachable e && (s.inFirmware h || (s.half h).stage = .recovery)

/-- A request arrives inside a session with the bound endpoint (R405). -/
def State.inBound (e : Endpoint) (session : Option Nat) (s : State) : Bool := match session with
  | some i => s.sec.bound = some e && s.inSession e i
  | none => false

/-- The first status of R433 that applies. -/
def State.accessStatus (e : Endpoint) (session : Option Nat) (write : Bool) (l : List Nat) (s : State) : Status :=
  let h := s.servingHalf e
  let other (g : Option Half) : Bool := match g with
    | some g => decide (g ≠ h)
    | none => false
  if s.sec.bound.isSome && !s.inBound e session then .permission
  else if write && (s.conflict || s.stewardHalf.isNone) then .stewardConflict
  else if s.split && (other (epHalf e) || l.any (fun o => other (stwHalf o))) then .poisonConsumed
  else .ok

/-- One register of a steward write: BIND in a session is BIND_WRITE. -/
def State.accessWrite (e : Endpoint) (session : Option Nat) (off : Nat) (v : W32) (s : State) : State :=
  if 0x1000000 ≤ off then s
  else if off = Reg.SEC_MGMT && bit 31 v then
    s.after (execBindWrite e session ((s.mgmt.eids.find? (fun (x : Endpoint × Byte) => x.1 = e)).elim 0#8 Prod.snd) s)
  else s.writeStw off v

def State.accessRead (l : List Nat) (s : State) : List W32 × State :=
  l.foldl (fun (a : List W32 × State) off =>
    if 0x1000000 ≤ off then (a.1 ++ [0#32], a.2)
    else let r := a.2.readStw off 0#32; (a.1 ++ [r.1], r.2)) ([], s)

/-- STEWARD_REGISTER_ACCESS (R405, R433, R443). A logical device's mailbox does not carry it. -/
def execStewardRegisterAccess (e : Endpoint) (session : Option Nat) (off : BitVec 24) (write : Bool) (count : Nat) (data : List W32)
    (s : State) : Outcome State Fault Refusal :=
  let l := accessOffs off.toNat count
  let doe : Bool := match e with
    | .doe _ => true
    | _ => false
  if !s.stwServed e then .next s
  else if doe then .next (s.mgmtNo e)
  else match s.accessStatus e session write l with
    | .ok =>
      let s := if off.toNat % 4 = 0 then s else s.cntStw Reg.REG_ACCERR 31 16 1
      if write then .next ((forAll (l.zip data) (fun x s => s.accessWrite e session x.1 x.2) s).mgmtOk e [])
      else
        let (d, s) := s.accessRead l
        .next (s.mgmtOk e d)
    | .poisonConsumed => .next (s.emit (.mgmt e .poisonConsumed (if write then [] else l.map (fun _ => 0#32))))
    | st => .next (s.emit (.mgmt e st []))

/-- SEND_LD_MEMORY_REQUEST (R432): a 4-byte CXL.io request to BAR0 of a logical device of the head. -/
def execSendLdMemoryRequest (e : Endpoint) (ld : BitVec 4) (write : Bool) (off : BitVec 24) (v : W32) (s : State) :
    Outcome State Fault Refusal :=
  let o := off.toNat
  .next (s.fmCmd e (fun p s =>
    let t := ldOf p ld
    if !(s.headLds p).contains t || 0x10000 ≤ o then s.mgmtNo e
    else if o % 4 ≠ 0 then
      (s.after (execBar0BadAccess (BitVec.ofNat 8 t) (BitVec.ofNat 16 o) 4 write s)).mgmtOk e (if write then [] else [0#32])
    else if write then (s.writeBar (BitVec.ofNat 8 t) o v).mgmtOk e []
    else let r := s.readBar t o 0#32; r.2.mgmtOk e [r.1]))

end Sys2Proof.Machine
end

