-- ==== Sys2Proof/Machine/GrainMem.lean ====
section
/-! DEFINITION. A grain's registers, its address spaces and its accesses, and the frame of one Spaern instruction
(spec/09_tender_cores.md R209, R213 to R215, R221 to R223). -/

namespace Sys2Proof.Machine

open Host (Outcome)

/-! Registers (Table TND-1). -/

/-- x[i]; x0 reads 0. -/
def Ctx.getX (c : Ctx) (i : Nat) : W64 := if i = 0 then 0#64 else (c.x[i]?).getD 0#64
/-- Write x[i]; writes to x0 are discarded. -/
def Ctx.setX (c : Ctx) (i : Nat) (v : W64) : Ctx := if i = 0 then c else { c with x := c.x.set i v }
def Ctx.getV (c : Ctx) (i : Nat) : BitVec 512 := (c.v[i]?).getD 0#512
def Ctx.setV (c : Ctx) (i : Nat) (v : BitVec 512) : Ctx := { c with v := c.v.set i v }
/-- k[i]; k0 reads all ones. -/
def Ctx.getK (c : Ctx) (i : Nat) : W64 := if i = 0 then 0xFFFFFFFFFFFFFFFF#64 else (c.k[i]?).getD 0#64
/-- Write k[i]; writes to k0 are discarded. -/
def Ctx.setK (c : Ctx) (i : Nat) (v : W64) : Ctx := if i = 0 then c else { c with k := c.k.set i v }

/-- The registers of a new or saved grain are all there, x0 and k0 as they read. -/
def Ctx.wf (c : Ctx) : Bool :=
  c.x.length = 32 && c.v.length = 32 && c.k.length = 8 && memWf c.scratch && c.scratch.all (fun e => e.1 < 1024)

/-! Address spaces (R213, R222, Table TND-4). -/

/-- Where an access lies. -/
inductive Place where
  | ua (a : Nat)
  | cistern (a : Nat)
  | scratch (a : Nat)
deriving DecidableEq, Repr

/-- The space and the address in it; none where a bit that must be zero is set. -/
def placeOf (a : W64) : Option Place :=
  let n := a.toNat
  if fld 63 62 n = 0 then (if fld 61 52 n = 0 then some (.ua (fld 51 0 n)) else none)
  else if fld 63 62 n = 1 then (if fld 61 23 n = 0 then some (.cistern (fld 22 0 n)) else none)
  else if fld 63 62 n = 2 then (if fld 61 10 n = 0 then some (.scratch (fld 9 0 n)) else none)
  else none

/-- Byte a lies in a grant of the job that allows the access. -/
def Job.granted (j : Job) (wr : Bool) (a : Nat) : Bool := j.grants.any (fun g => (if wr then g.wr else g.rd) && g.base ≤ a && a < g.base + g.len)

/-- The bytes of n from a place that active names lie in what its space reaches; eight grants hold at most 2^44 bytes. -/
def Job.reaches (j : Job) (wr : Bool) (p : Place) (n : Nat) (active : Nat → Bool) : Bool :=
  n ≤ 2 ^ 44 && (List.range n).all (fun i => !active i || (match p with
    | .ua a => a + i < 2 ^ 52 && j.granted wr (a + i)
    | .cistern a => (a + i) / bankSize < min 16 j.banks.length
    | .scratch a => a + i < 1024))

/-- A grain's accesses to UA (R214). -/
def Grain.unit (g : Grain) (j : Job) : Acc :=
  { t := j.tenant, cls := j.cls, half := g.half, row := 1, who := .grain g.id, encs := j.encs }

/-- Fault with a code of Table TND-6. -/
def spnFault {α : Type} (code : Nat) (c : Status) : Work α := throw (Stop.fault code c)

/-- A load that fails faults with code 5 and the read's status. -/
def spnRead {α : Type} (m : Work α) : Work α := do
  match (← Work.try_ m) with
  | .ok a => pure a
  | .error c => spnFault 5 c

/-- A UA store that the home half refuses faults: with code 3 where the plot or the line takes no write, else with code 5
and the status. -/
def spnWrite {α : Type} (m : Work α) : Work α := do
  match (← Work.try_ m) with
  | .ok a => pure a
  | .error c => spnFault (if c = .permission then 3 else 5) c

/-- The bank and the byte in Cistern of a job's Cistern address. -/
def Job.cisternAt (j : Job) (a : Nat) : Nat := ((j.banks[a / bankSize]?).getD 0) * bankSize + a % bankSize

/-- Code words that the active bytes of an access from a Cistern address lie in. -/
def Job.cisternWords (j : Job) (a n : Nat) (active : Nat → Bool) : NSet :=
  ninsAll (((List.range n).filter active).map (fun i => j.cisternAt (a + i) / 4)) []

/-- A Cistern access waits while its bank wakes or is filled (R356, R357). -/
def bankUp (b : Nat) : Work Unit := do
  let s ← get
  if (s.bank (b / bankSize)).ps = .on then pure () else Work.wait .other

/-- Read n bytes of a grain's place (R213, R214, R355). -/
def Grain.loadAt (g : Grain) (j : Job) (p : Place) (n : Nat) (active : Nat → Bool) : Work (List Byte) := do
  if !j.reaches false p n active then spnFault 2 .permission
  else match p with
    | .ua a =>
      if (List.range n).all active then spnRead ((g.unit j).bytes a n)
      else (List.range n).mapM (fun i => if active i then spnRead (do
        let b ← (g.unit j).bytes (a + i) 1
        pure (b[0]?.getD 0#8)) else pure 0#8)
    | .cistern a => do
      (j.cisternWords a n active).forM (fun w => do
        bankUp (4 * w)
        let s ← get
        match s.cstRead (some j.tenant) w with
        | (true, s) => set s
        | (false, s) => do
          set s
          spnFault 5 .poisonConsumed)
      let s ← get
      pure ((List.range n).map (fun i => if active i then mget (j.cisternAt (a + i)) s.cst.mem else 0#8))
    | .scratch a => pure ((List.range n).map (fun i => mget (a + i) g.ctx.scratch))

/-- One line of a UA store, of the bytes that active names. -/
def Grain.storeLine (g : Grain) (j : Job) (a : Nat) (b : List Byte) (active : Nat → Bool) (l : Nat) : Work Unit :=
  let q := linePart a b l
  let m := ((List.range 64).map (fun i => if a ≤ 64 * l + i && active (64 * l + i - a) then 2 ^ i else 0)).sum
  let be := q.2 &&& BitVec.ofNat 64 m
  if be = 0#64 then pure () else spnWrite ((g.unit j).store (64 * l) q.1 be false)

/-- Write bytes to a grain's place; the grain as its scratch then stands (R213, R214). -/
def Grain.storeAt (g : Grain) (j : Job) (p : Place) (b : List Byte) (active : Nat → Bool) : Work Grain := do
  if !j.reaches true p b.length active then spnFault 2 .permission
  else match p with
    | .ua a => do
      (spanLines a b.length).forM (fun l => g.storeLine j a b active l)
      pure g
    | .cistern a => do
      let l := ((List.range b.length).filter active).map (fun i => j.cisternAt (a + i))
      (j.cisternWords a b.length active).forM (fun w => do
        bankUp (4 * w)
        modify (fun s => s.wordWrite (some j.tenant) ((List.range 4).all (fun i => l.contains (4 * w + i))) w))
      modify (fun s => s.modCst (fun k => { k with mem := (b.zipIdx).foldl (fun m e =>
        if active e.2 then mset (j.cisternAt (a + e.2)) e.1 m else m) k.mem }))
      pure g
    | .scratch a =>
      let m := (b.zipIdx).foldl (fun m e => if active e.2 then mset (a + e.2) e.1 m else m) g.ctx.scratch
      pure { g with ctx := { g.ctx with scratch := m } }

/-- Every byte takes part. -/
def allBytes : Nat → Bool := fun _ => true

/-- Load n bytes at an address. -/
def Grain.load (g : Grain) (j : Job) (a : W64) (n : Nat) : Work (List Byte) :=
  match placeOf a with
  | some p => g.loadAt j p n allBytes
  | none => spnFault 2 .permission

/-- Store bytes at an address, those that active names. -/
def Grain.store (g : Grain) (j : Job) (a : W64) (b : List Byte) (active : Nat → Bool) : Work Grain :=
  match placeOf a with
  | none => spnFault 2 .permission
  | some p => g.storeAt j p b active

/-! One instruction. -/

/-- The word at a PC; none where the PC lies outside the code or is no multiple of 4. -/
def Job.word (j : Job) (pc : Nat) : Option W32 := if pc % 4 = 0 then j.prog.code[pc / 4]? else none

/-- PC plus a signed offset. -/
def pcAdd (pc : Nat) (k : Int) : Nat := (((pc : Int) + k) % 2 ^ 64).toNat

/-- An instruction leaves its grain in a state: one that is not RUNNING is at a yield point. -/
def State.putGrain (g : Grain) (s : State) : State := if g.st = .running then s.modGrain g.id (fun _ => g) else s.yieldAt g

/-- Run an instruction's program for a grain: its fault, its wait, or its new state; none ends the grain. -/
def State.runGrain (g : Grain) (j : Job) (m : Work (Option Grain)) (s : State) : State :=
  match m s with
  | .ok (some g') s => ((g.unit j).ends s).putGrain g'
  | .ok none s => ((g.unit j).ends s).endGrain g
  | .error (.fault code c) s => ((g.unit j).ends s).faultGrain g code g.ctx.pc c
  | .error (.fail c) s => ((g.unit j).ends s).faultGrain g 5 g.ctx.pc c
  | .error (.wait w) s' => (g.unit j).waits w s' s

/-- Execute the instruction at a running grain's PC where it is of class c: PC has moved past it and it is counted when
f acts. A PC outside the code faults with code 1, a grain past its limits with code 6 (R221, R223). -/
def State.spn (id : Nat) (c : SCls) (f : Grain → Job → W32 → Work (Option Grain)) (s : State) : Outcome State Fault Refusal :=
  match s.grain id with
  | none => .next s
  | some g => match s.job g.job with
    | none => .next s
    | some j =>
      if g.st ≠ .running then .next s
      else match j.word g.ctx.pc with
        | none => .next (s.faultGrain g 1 g.ctx.pc .badDescriptor)
        | some w =>
          if sDecode w ≠ some c then .next s
          else if s.pastLimit g j then .next (s.faultGrain g 6 g.ctx.pc .timeout)
          else .next (s.runGrain g j (f { g with icount := g.icount + 1, ctx := { g.ctx with pc := pcAdd g.ctx.pc 4 } } j w))

/-- The same for an instruction that changes registers only. -/
def State.spnRegs (id : Nat) (c : SCls) (f : Ctx → Nat → W32 → State → Ctx) (s : State) : Outcome State Fault Refusal :=
  s.spn id c (fun g _ w => do
    let s ← get
    set s.tickFree
    pure (some { g with ctx := f g.ctx (pcAdd g.ctx.pc (-4)) w s }))

end Sys2Proof.Machine
end

