-- ==== Sys2Proof/Machine/SpaernScalar.lean ====
section
/-! DEFINITION. Scalar, system and check-value instructions of Spaern (spec/09_tender_cores.md R210, R211, R214, R215, R218,
R220, R223, R232). -/

namespace Sys2Proof.Machine

open Host (Outcome)

/-- A free 64-bit value (log 3). -/
def State.free64 (s : State) : W64 := (Config.freeBits s.freeCtr).setWidth 64

/-- A shift by n; by the width or more the spec states no result (log 42). -/
def shiftOr (n : Nat) (r : W64) (s : State) : W64 := if n < 64 then r else s.free64

/-- Signed quotient and remainder of R211. -/
def sDiv (a b : W64) : W64 := if b = 0#64 then 0xFFFFFFFFFFFFFFFF#64 else BitVec.ofInt 64 (a.toInt.tdiv b.toInt)
def sRem (a b : W64) : W64 := if b = 0#64 then a else BitVec.ofInt 64 (a.toInt.tmod b.toInt)

def sMin (a b : W64) : W64 := if a.toInt ≤ b.toInt then a else b
def sMax (a b : W64) : W64 := if a.toInt ≤ b.toInt then b else a

/-- Integer operations by FN (Table TND-3, MAJOR 0x00). MIN, MAX, MULH, DIV, REM and SLT are signed (log 43). -/
def aluOp (fn : Nat) (a b : W64) (s : State) : W64 :=
  match fn with
  | 0 => a + b
  | 1 => a - b
  | 2 => a &&& b
  | 3 => a ||| b
  | 4 => a ^^^ b
  | 5 => shiftOr b.toNat (a <<< b.toNat) s
  | 6 => shiftOr b.toNat (a >>> b.toNat) s
  | 7 => shiftOr b.toNat (a.sshiftRight b.toNat) s
  | 8 => a * b
  | 9 => BitVec.ofInt 64 (a.toInt * b.toInt / 2 ^ 64)
  | 10 => sDiv a b
  | 11 => sRem a b
  | 12 => sMin a b
  | 13 => sMax a b
  | 14 => if a.toInt < b.toInt then 1#64 else 0#64
  | _ => if a.toNat < b.toNat then 1#64 else 0#64

/-- SPN_ALU: MAJOR 0x00. -/
def execSpnAlu (g : Nat) (s : State) : Outcome State Fault Refusal :=
  s.spnRegs g .alu (fun c _ w s => c.setX (sDst w) (aluOp (sFnA w) (c.getX (sSrc1 w)) (c.getX (sSrc2 w)) s))

/-- SPN_ALU_IMM: MAJOR 0x01. -/
def execSpnAluImm (g : Nat) (s : State) : Outcome State Fault Refusal :=
  s.spnRegs g .aluImm (fun c _ w s => c.setX (sDst w) (aluOp (sFnB w) (c.getX (sSrc1 w)) (BitVec.ofInt 64 (sImm12 w)) s))

/-- SPN_LOAD_UPPER: MAJOR 0x02. -/
def execSpnLoadUpper (g : Nat) (s : State) : Outcome State Fault Refusal :=
  s.spnRegs g .loadUpper (fun c _ w _ => c.setX (sDst w) (BitVec.ofInt 64 (sImm21 w * 4096)))

/-- Conditions of branches by FN (MAJOR 0x05). -/
def branchCond (fn : Nat) (a b : W64) : Bool :=
  match fn with
  | 0 => a = b
  | 1 => a ≠ b
  | 2 => a.toInt < b.toInt
  | 3 => b.toInt ≤ a.toInt
  | 4 => a.toNat < b.toNat
  | _ => b.toNat ≤ a.toNat

/-- SPN_BRANCH: MAJOR 0x05. -/
def execSpnBranch (g : Nat) (s : State) : Outcome State Fault Refusal :=
  s.spnRegs g .branch (fun c pc w _ =>
    if branchCond (sFnB w) (c.getX (sDst w)) (c.getX (sSrc1 w)) then { c with pc := pcAdd pc (4 * sImm12 w) } else c)

/-- SPN_JUMP: MAJOR 0x06. -/
def execSpnJump (g : Nat) (s : State) : Outcome State Fault Refusal :=
  s.spnRegs g .jump (fun c pc w _ => { c.setX (sDst w) (BitVec.ofNat 64 (pc + 4)) with pc := pcAdd pc (4 * sImm21 w) })

/-- SPN_JUMP_REG: MAJOR 0x07. -/
def execSpnJumpReg (g : Nat) (s : State) : Outcome State Fault Refusal :=
  s.spnRegs g .jumpReg (fun c pc w _ =>
    { c.setX (sDst w) (BitVec.ofNat 64 (pc + 4)) with pc := (c.getX (sSrc1 w) + BitVec.ofInt 64 (sImm12 w)).toNat })

/-- Address of a scalar access. -/
def sAddr (c : Ctx) (w : W32) : W64 := c.getX (sSrc1 w) + BitVec.ofInt 64 (sImm12 w)

/-- Bytes of a scalar access by FN. -/
def sSize (fn : Nat) : Nat := 2 ^ (fn % 4)

/-- SPN_LOAD (R214): FN 0 to 3 sign-extended, 4 to 6 zero-extended. -/
def execSpnLoad (g : Nat) (s : State) : Outcome State Fault Refusal :=
  s.spn g .load (fun g j w => do
    let n := sSize (sFnB w)
    let b ← g.load j (sAddr g.ctx w) n
    let v := if sFnB w < 4 then BitVec.ofInt 64 (sgnOf (8 * n) (leNat b)) else BitVec.ofNat 64 (leNat b)
    pure (some { g with ctx := g.ctx.setX (sDst w) v }))

/-- SPN_STORE (R214). -/
def execSpnStore (g : Nat) (s : State) : Outcome State Fault Refusal :=
  s.spn g .store (fun g j w => do
    let g ← g.store j (sAddr g.ctx w) (leBytes (sSize (sFnB w)) (g.ctx.getX (sDst w)).toNat) allBytes
    pure (some g))

/-- New value of an atomic operation (MAJOR 0x08); none where CAS stores nothing. -/
def atomicOp (fn : Nat) (old src dst : W64) : Option W64 :=
  match fn with
  | 0 => some (old + src)
  | 1 => some (sMin old src)
  | 2 => some (sMax old src)
  | 3 => some src
  | _ => if old = dst then some src else none

/-- SPN_ATOMIC (R214, R215): indivisible on 8 aligned bytes that the grain may read and write. -/
def execSpnAtomic (g : Nat) (s : State) : Outcome State Fault Refusal :=
  s.spn g .atomic (fun g j w => do
    let a := g.ctx.getX (sSrc1 w)
    if a.toNat % 8 ≠ 0 then spnFault 4 .badDescriptor
    else if (match placeOf a with
        | some p => !j.reaches true p 8 allBytes
        | none => true) then spnFault 2 .permission
    else do
      let b ← g.load j a 8
      let old := BitVec.ofNat 64 (leNat b)
      let g ← (match atomicOp (sFnA w) old (g.ctx.getX (sSrc2 w)) (g.ctx.getX (sDst w)) with
        | some v => g.store j a (leBytes 8 v.toNat) allBytes
        | none => pure g)
      pure (some { g with ctx := g.ctx.setX (sDst w) old }))

/-! System instructions (MAJOR 0x09). -/

/-- SPN_YIELD (R218). -/
def execSpnYield (g : Nat) (s : State) : Outcome State Fault Refusal :=
  s.spn g .yield (fun g _ _ => pure (some { g with st := .ready }))

/-- SPN_FENCE (R215): every earlier access of the grain has taken effect when its row ended. -/
def execSpnFence (g : Nat) (s : State) : Outcome State Fault Refusal := s.spn g .fence (fun g _ _ => pure (some g))

/-- SPN_EXIT (R215, R218). -/
def execSpnExit (g : Nat) (s : State) : Outcome State Fault Refusal := s.spn g .exit (fun _ _ _ => pure none)

/-- SPN_TRAP (R223): fault 7. -/
def execSpnTrap (g : Nat) (s : State) : Outcome State Fault Refusal := s.spn g .trap (fun _ _ _ => spnFault 7 .badDescriptor)

/-- The system value that IMM12 names; the core cycle counter, and a number that the table does not list, are free. -/
def getsVal (n : Nat) (g : Grain) (j : Job) (s : State) : W64 :=
  let o := s.op j.id
  let grant (i : Nat) : Grant := (j.grants[i]?).getD { base := 0, len := 0, rd := false, wr := false }
  if n = 0 then BitVec.ofNat 64 g.index
  else if n = 1 then BitVec.ofNat 64 j.total
  else if n = 2 then BitVec.ofNat 64 (match o with
    | some o => dTag o.desc
    | none => 0)
  else if n = 3 then BitVec.ofNat 64 (match o with
    | some o => dSeq o.desc
    | none => 0)
  else if n = 4 then BitVec.ofNat 64 j.tenant
  else if n = 5 then BitVec.ofNat 64 g.core
  else if 8 ≤ n && n < 16 then (j.args[n - 8]?).getD 0#64
  else if 16 ≤ n && n < 24 then BitVec.ofNat 64 (grant (n - 16)).base
  else if 24 ≤ n && n < 32 then BitVec.ofNat 64 (grant (n - 24)).len
  else s.free64

/-- SPN_GETS (R210). -/
def execSpnGets (g : Nat) (s : State) : Outcome State Fault Refusal :=
  s.spn g .gets (fun g j w => do
    let s ← get
    set s.tickFree
    pure (some { g with ctx := g.ctx.setX (sDst w) (getsVal (bits 11 0 w) g j s) }))

/-- SPN_WAIT (R218, R220). -/
def execSpnWait (g : Nat) (s : State) : Outcome State Fault Refusal :=
  s.spn g .wait (fun g j w => do
    let v := g.ctx.getX (sSrc1 w)
    let n := bits 3 0 w
    if v.toNat ≤ (j.counter n).toNat then pure (some g)
    else do
      let s ← get
      pure (some { g with st := .waiting, waitJc := n, waitVal := v, since := s.now }))

/-- SPN_SIGNAL (R220). -/
def execSpnSignal (g : Nat) (s : State) : Outcome State Fault Refusal :=
  s.spn g .signal (fun g j w => do
    let n := bits 3 0 w
    modify (fun s => s.modJob j.id (fun j => { j with jc := j.jc.set n (j.counter n + g.ctx.getX (sSrc1 w)) }))
    pure (some g))

/-- SPN_MARK (R232): the stage mark x[SRC1] for the job's tenant in calendar IMM12[9:0]. -/
def execSpnMark (g : Nat) (s : State) : Outcome State Fault Refusal :=
  s.spn g .mark (fun g j w => do
    modify (fun s => s.writeMark g.half (bits 9 0 w) j.tenant ((g.ctx.getX (sSrc1 w)).setWidth 32))
    pure (some g))

/-! Check values (MAJOR 0x16). -/

/-- SPN_CRC: CRC-32C of x[SRC2] bytes at x[SRC1]. -/
def execSpnCrc (g : Nat) (s : State) : Outcome State Fault Refusal :=
  s.spn g .crc (fun g j w => do
    let b ← (if g.ctx.getX (sSrc2 w) = 0#64 then pure [] else g.load j (g.ctx.getX (sSrc1 w)) (g.ctx.getX (sSrc2 w)).toNat)
    pure (some { g with ctx := g.ctx.setX (sDst w) ((crc32c b).setWidth 64) }))

/-- A read that yields none where it meets poison, and faults as a load does where it leaves its space. -/
def spnTry (m : Work (List Byte)) : Work (Option (List Byte)) := fun s => match m s with
  | .ok b s => .ok (some b) s
  | .error (.fault 5 _) s => .ok none s
  | .error e s => .error e s

/-- SPN_CRCV (R191, R223): verify the block whose output header of Table FLE-4 is at x[SRC1], its contents behind it. -/
def execSpnCrcv (g : Nat) (s : State) : Outcome State Fault Refusal :=
  s.spn g .crcv (fun g j w => do
    let a := g.ctx.getX (sSrc1 w)
    let r ← (do
      match (← spnTry (g.load j a 16)) with
      | none => pure 0x01#64
      | some h =>
        match (← spnTry (g.load j (a + 16#64) (leAt h 5 2 % 2 ^ 13))) with
        | none => pure 0x02#64
        | some b => pure (if (crc32c b).toNat = leAt h 8 4 then 0x00#64 else 0x02#64))
    pure (some { g with ctx := g.ctx.setX (sDst w) r }))

end Sys2Proof.Machine
end

