-- ==== Sys2Proof/Machine/SpaernVector.lean ====
section
/-! DEFINITION. Vector instructions of Spaern (spec/09_tender_cores.md R209 to R212, R214). -/

namespace Sys2Proof.Machine

open Host (Outcome)

/-! Lanes (R210, table of EW). -/

/-- Bits of a lane. -/
def ewBits (ew : Nat) : Nat :=
  match ew with
  | 0 => 8
  | 1 => 16
  | 2 => 32
  | 3 => 64
  | 4 => 32
  | _ => 16

def ewLanes (ew : Nat) : Nat := 512 / ewBits ew

/-- Lanes are floating point. -/
def ewFp (ew : Nat) : Bool := 4 ≤ ew

def vLanes (ew : Nat) (v : BitVec 512) : List Nat :=
  (List.range (ewLanes ew)).map (fun i => bits (ewBits ew * i + ewBits ew - 1) (ewBits ew * i) v)

def vPack (ew : Nat) (l : List Nat) : BitVec 512 :=
  BitVec.ofNat 512 (l.foldr (fun x acc => x % 2 ^ ewBits ew + acc * 2 ^ ewBits ew) 0)

/-- The mask bit of a lane's lowest byte lane (R209). -/
def laneOn (m : W64) (ew i : Nat) : Bool := bit (i * ewBits ew / 8) m

/-- New lanes where the mask lets them be written. -/
def vMerge (m : W64) (ew : Nat) (old new : BitVec 512) : BitVec 512 :=
  vPack ew (((vLanes ew old).zip (vLanes ew new)).zipIdx.map (fun e => if laneOn m ew e.2 then e.1.2 else e.1.1))

/-- A comparison writes the mask bits of every byte lane of the lanes that the mask names (log 44). -/
def kMerge (m : W64) (ew : Nat) (old : W64) (r : List Bool) : W64 :=
  BitVec.ofNat 64 (((List.range 64).map (fun b =>
    let i := b * 8 / ewBits ew
    if (if laneOn m ew i then (r[i]?).getD false else bit b old) then 2 ^ b else 0)).sum)

/-- Free lanes (log 3). -/
def State.freeV (s : State) : BitVec 512 := Config.freeBits s.freeCtr

/-! Integer operations (MAJOR 0x10). -/

/-- A lane operation on two unsigned lane values of w bits; free is what a shift by the width or more gives. -/
def vIntOp (fn w a b free : Nat) : Nat :=
  match fn with
  | 0 => a + b
  | 1 => a + 2 ^ w - b
  | 2 => a * b
  | 3 => if sgnOf w a ≤ sgnOf w b then a else b
  | 4 => if sgnOf w a ≤ sgnOf w b then b else a
  | 5 => a &&& b
  | 6 => a ||| b
  | 7 => a ^^^ b
  | 8 => if b < w then a * 2 ^ b else free
  | 9 => if b < w then a / 2 ^ b else free
  | _ => if b < w then ((sgnOf w a / 2 ^ b) % 2 ^ w).toNat else free

/-- Lanes of an integer operation; on floating-point lanes only the bitwise ones have a stated result. -/
def vIntRes (fn ew : Nat) (a b free : BitVec 512) : BitVec 512 :=
  let w := ewBits ew
  if fn = 13 then
    let l := vLanes ew a
    vPack ew ((vLanes ew b).map (fun i => (l[i % ewLanes ew]?).getD 0))
  else if ewFp ew && !(5 ≤ fn && fn ≤ 7) then free
  else vPack ew (((vLanes ew a).zip ((vLanes ew b).zip (vLanes ew free))).map (fun p => vIntOp fn w p.1 p.2.1 p.2.2))

/-- SPN_VECTOR_INT (R211). -/
def execSpnVectorInt (g : Nat) (s : State) : Outcome State Fault Refusal :=
  s.spnRegs g .vectorInt (fun c _ w s =>
    let ew := sEw w
    let fn := sFnV w
    let m := c.getK (sMask w)
    let a := c.getV (sSrc1 w)
    let b := c.getV (sSrc2 w)
    if fn = 11 || fn = 12 then
      let r : List Bool := if ewFp ew then (vLanes ew s.freeV).map (fun x => decide (x % 2 = 1))
        else ((vLanes ew a).zip (vLanes ew b)).map (fun p => if fn = 11 then decide (p.1 = p.2) else decide (sgnOf (ewBits ew) p.1 < sgnOf (ewBits ew) p.2))
      c.setK (sDst w % 8) (kMerge m ew (c.getK (sDst w % 8)) r)
    else
      let r := if fn = 14 then vPack ew (List.replicate (ewLanes ew) (c.getX (sSrc1 w)).toNat) else vIntRes fn ew a b s.freeV
      c.setV (sDst w) (vMerge m ew (c.getV (sDst w)) r))

/-! Floating point (MAJOR 0x11). -/

/-- A lane widened to FP32. -/
def laneF (ew x : Nat) : W32 := if ew = 4 then BitVec.ofNat 32 x else if ew = 5 then bf16to32 x else toF32 (fdec fp16F x)

/-- An FP32 result rounded to nearest even into the lane format, with what that narrowing counts (R175, R211). The saturation
setting is the one captured for the job (R174; DEDUCED, log 85). -/
def fLane (ew : Nat) (sat : Bool) (x : W32) : Nat × Cnts :=
  if ew = 4 then (x.toNat, {}) else encElem (if ew = 5 then 1 else 2) false .rne sat (f32 x)

/-- An FP32 value as an operation gives it: every NaN is the one of Table FMT-2 (R164). -/
def fCanon (x : W32) : W32 := match f32 x with
  | .nan => fNan
  | _ => x

/-- An operation with the NaN of Table FMT-2 for a NaN operand. -/
def fSign (neg : Bool) (a : W32) : W32 :=
  match f32 a with
  | .nan => fNan
  | _ => if neg then a ^^^ 0x80000000#32 else a &&& 0x7FFFFFFF#32

/-- FP32 operations by FN; d is the lane of v[DST]. -/
def vFpOp (fn : Nat) (a b d : W32) : W32 :=
  match fn with
  | 0 => fadd a b
  | 1 => fsub a b
  | 2 => fmul a b
  | 3 => ffma a b d
  | 4 => fExt false a b
  | 5 => fExt true a b
  | 6 => fExp a
  | 7 => fRcp a
  | 8 => fTanh a
  | 11 => fSign false a
  | _ => fSign true a

/-- SPN_VECTOR_FP (R211); on integer lanes the spec states no result, which is then free. -/
def execSpnVectorFp (g : Nat) (s : State) : Outcome State Fault Refusal :=
  s.spn g .vectorFp (fun g j w => do
    let s ← get
    set s.tickFree
    let c := g.ctx
    let ew := sEw w
    let fn := sFnV w
    let m := c.getK (sMask w)
    let sat := match s.op j.id with
      | some o => o.sat
      | none => true
    let a := (vLanes ew (c.getV (sSrc1 w))).map (laneF ew)
    let b := (vLanes ew (c.getV (sSrc2 w))).map (laneF ew)
    let d := (vLanes ew (c.getV (sDst w))).map (laneF ew)
    if fn = 9 || fn = 10 then
      let r := if ewFp ew then (a.zip b).map (fun p => match cmpN (f32 p.1) (f32 p.2) with
          | none => false
          | some x => if fn = 9 then decide (x < 0) else decide (x = 0))
        else (vLanes ew s.freeV).map (fun x => decide (x % 2 = 1))
      pure (some { g with ctx := c.setK (sDst w % 8) (kMerge m ew (c.getK (sDst w % 8)) r) })
    else
      let q := (a.zip (b.zip d)).map (fun p => fLane ew sat (vFpOp fn p.1 p.2.1 p.2.2))
      let r := if ewFp ew then vPack ew (q.map Prod.fst) else s.freeV
      if ewFp ew then
        modify (fun s => s.countCnts j.tenant (((q.zipIdx).filter (fun e => laneOn m ew e.2)).foldl (fun c e => c.add e.1.2) {}))
      pure (some { g with ctx := c.setV (sDst w) (vMerge m ew (c.getV (sDst w)) r) }))

/-! Reductions (MAJOR 0x12). -/

/-- One level of the pairwise tree; a lane that takes no part leaves its partner as it is. -/
def treeStep : List (Option W32) → List (Option W32)
  | a :: b :: r => (match a, b with
    | some x, some y => some (fadd x y)
    | some x, none => some x
    | none, y => y) :: treeStep r
  | l => l

/-- The pairwise tree sum of up to 2^f lanes. -/
def treeSum : Nat → List (Option W32) → Option W32
  | 0, l => l.head?.join
  | f + 1, l => treeSum f (treeStep l)

/-- The lane that ARGMAX or ARGMIN names: the lowest among equals; a NaN is greater than every number. -/
def argBest (before : Nat → Nat → Bool) (l : List (Nat × Nat)) : Option Nat :=
  (l.foldl (fun b e => match b with
    | none => some e
    | some x => if before e.2 x.2 then some e else some x) (none : Option (Nat × Nat))).map Prod.fst

/-- a is greater than b, as ARGMAX takes it. -/
def laneGreater (ew a b : Nat) : Bool :=
  if ewFp ew then match f32 (laneF ew a), f32 (laneF ew b) with
    | _, .nan => false
    | .nan, _ => true
    | x, y => match cmpN x y with
      | some c => c > 0
      | none => false
  else sgnOf (ewBits ew) a > sgnOf (ewBits ew) b

/-- A reduction over the lanes that take part; none where there is none. A floating-point MAX or MIN is the widened lane; bits
[63:32] of the register are zero after a floating-point reduction (DESIGN CHOICE, log 85). -/
def vReduce (fn ew : Nat) (l : List (Nat × Nat)) : Option W64 :=
  let ints := l.map (fun e => sgnOf (ewBits ew) e.2)
  let fps := l.map (fun e => laneF ew e.2)
  match fn with
  | 0 => if ewFp ew then (treeSum 6 ((List.range (ewLanes ew)).map (fun i => (l.find? (fun e => e.1 = i)).map (fun e => laneF ew e.2)))).map
        (fun x => (fCanon x).setWidth 64)
      else some (BitVec.ofInt 64 ints.sum)
  | 1 => if ewFp ew then (match fps with
        | [] => none
        | x :: r => some ((fCanon (r.foldl (fExt true) x)).setWidth 64))
      else ints.max?.map (BitVec.ofInt 64)
  | 2 => if ewFp ew then (match fps with
        | [] => none
        | x :: r => some ((fCanon (r.foldl (fExt false) x)).setWidth 64))
      else ints.min?.map (BitVec.ofInt 64)
  | 3 => (argBest (fun a b => laneGreater ew a b) l).map (BitVec.ofNat 64)
  | _ => (argBest (fun a b => laneGreater ew b a) l).map (BitVec.ofNat 64)

/-- SPN_REDUCE (R211); with no lane taking part the spec states no result, which is then free. -/
def execSpnReduce (g : Nat) (s : State) : Outcome State Fault Refusal :=
  s.spnRegs g .reduce (fun c _ w s =>
    let ew := sEw w
    let l := ((vLanes ew (c.getV (sSrc1 w))).zipIdx).filterMap (fun e => if laneOn (c.getK (sMask w)) ew e.2 then some (e.2, e.1) else none)
    c.setX (sDst w) ((vReduce (sFnV w) ew l).getD s.free64))

/-! Vector memory (MAJOR 0x13). -/

/-- The mask names the lane that byte i belongs to. -/
def byteOn (m : W64) (ew i : Nat) : Bool := laneOn m ew (i * 8 / ewBits ew)

/-- SPN_VECTOR_LOAD (R214): the lanes that the mask names. -/
def execSpnVectorLoad (g : Nat) (s : State) : Outcome State Fault Refusal :=
  s.spn g .vectorLoad (fun g j w => do
    let m := g.ctx.getK (sMask w)
    match placeOf (g.ctx.getX (sSrc1 w)) with
    | none => spnFault 2 .permission
    | some p => do
      let b ← g.loadAt j p 64 (byteOn m (sEw w))
      pure (some { g with ctx := g.ctx.setV (sDst w) (vMerge m (sEw w) (g.ctx.getV (sDst w)) (bytesLine b)) }))

/-- SPN_VECTOR_STORE (R214). -/
def execSpnVectorStore (g : Nat) (s : State) : Outcome State Fault Refusal :=
  s.spn g .vectorStore (fun g j w => do
    let g ← g.store j (g.ctx.getX (sSrc1 w)) (lineBytes (g.ctx.getV (sDst w))) (byteOn (g.ctx.getK (sMask w)) (sEw w))
    pure (some g))

/-- Lanes that take part, with their addresses: x[SRC1] plus the unsigned offset in v[SRC2] (log 45). -/
def laneAddrs (c : Ctx) (w : W32) : List (Nat × W64) :=
  ((vLanes (sEw w) (c.getV (sSrc2 w))).zipIdx).filterMap (fun e =>
    if laneOn (c.getK (sMask w)) (sEw w) e.2 then some (e.2, c.getX (sSrc1 w) + BitVec.ofNat 64 e.1) else none)

/-- SPN_GATHER (R214). -/
def execSpnGather (g : Nat) (s : State) : Outcome State Fault Refusal :=
  s.spn g .gather (fun g j w => do
    let ew := sEw w
    let vs ← (laneAddrs g.ctx w).mapM (fun e => do
      let b ← g.load j e.2 (ewBits ew / 8)
      pure (e.1, leNat b))
    let l := ((vLanes ew (g.ctx.getV (sDst w))).zipIdx).map (fun e => match vs.find? (fun v => v.1 = e.2) with
      | some v => v.2
      | none => e.1)
    pure (some { g with ctx := g.ctx.setV (sDst w) (vPack ew l) }))

/-- SPN_SCATTER (R214): lanes in ascending order. -/
def execSpnScatter (g : Nat) (s : State) : Outcome State Fault Refusal :=
  s.spn g .scatter (fun g j w => do
    let ew := sEw w
    let l := vLanes ew (g.ctx.getV (sDst w))
    let g ← (laneAddrs g.ctx w).foldlM (fun (g : Grain) e => g.store j e.2 (leBytes (ewBits ew / 8) ((l[e.1]?).getD 0)) allBytes) g
    pure (some g))

/-! Conversions (R212). -/

/-- What rounding field f of a conversion rounds by: code 3 takes the job's captured mode; blk is x30, idx x31[15:0] plus
the element's position. -/
def spnMode (f : Nat) (o : Op) (c : Ctx) (pos : Nat) : RMode :=
  rmodeOf (if f = 3 then o.rmode else f)
    (srBits o.seed (dTag o.desc) (dSeq o.desc) ((c.getX 30).toNat % 2 ^ 32) (((c.getX 31).toNat % 65536 + pos) % 65536))

/-- Exact value of a lane. -/
def laneNum (ew x : Nat) : Num :=
  if ewFp ew then f32 (laneF ew x)
  else let v := sgnOf (ewBits ew) x; .fin (v < 0) v.natAbs 0

/-- Element codes packed from bit 0 of a register; the rest is free (log 46). -/
def packElems (w : Nat) (l : List Nat) (free : BitVec 512) : BitVec 512 :=
  let n := min 512 (w * l.length)
  BitVec.ofNat 512 (l.foldr (fun x acc => x % 2 ^ w + acc * 2 ^ w) 0 % 2 ^ n + free.toNat / 2 ^ n * 2 ^ n)

/-- SPN_VCVT (R212): lanes of type EW to format FN[3:0], packed; an element whose lane is masked keeps its bits. -/
def execSpnVcvt (g : Nat) (s : State) : Outcome State Fault Refusal :=
  s.spn g .vcvt (fun g j w => do
    let s ← get
    set s.tickFree
    match s.op j.id with
    | none => pure (some g)
    | some o => do
      let c := g.ctx
      let ew := sEw w
      let code := sFnV w % 16
      let n := fmtBits code
      let on (i : Nat) : Bool := laneOn (c.getK (sMask w)) ew i
      let qs := ((vLanes ew (c.getV (sSrc1 w))).zipIdx).map (fun e => encElem code false (spnMode (sSrc2 w % 4) o c e.2) o.sat (laneNum ew e.1))
      let old (i : Nat) : Nat := fld (n * i + n - 1) (n * i) (c.getV (sDst w)).toNat
      modify (fun s => s.countCnts j.tenant ((qs.zipIdx).foldl (fun a q => if on q.2 then a.add q.1.2 else a) {}))
      pure (some { g with ctx := c.setV (sDst w) (packElems n ((qs.zipIdx).map (fun q => if on q.2 then q.1.1 else old q.2)) s.freeV) }))

/-- SPN_VMXQ (R171, R212): one group of 32 FP32 values; elements to v[DST], the scale byte to x[SRC2]. -/
def execSpnVmxq (g : Nat) (s : State) : Outcome State Fault Refusal :=
  s.spn g .vmxq (fun g j w => do
    let s ← get
    set s.tickFree
    match s.op j.id with
    | none => pure (some g)
    | some o => do
      let c := g.ctx
      let code := sFnV w % 16
      let x := (vLanes 4 (c.getV (sSrc1 w)) ++ vLanes 4 (c.getV ((sSrc1 w + 1) % 32))).map (fun v => f32 (BitVec.ofNat 32 v))
      let q := mxQuantize x code ((List.range 32).map (fun i => spnMode (sMask w % 4) o c i))
      modify (fun s => s.countCnts j.tenant q.2.2)
      pure (some { g with ctx := (c.setV (sDst w) (packElems (fmtBits code) q.2.1 s.freeV)).setX (sSrc2 w) (BitVec.ofNat 64 q.1) }))

end Sys2Proof.Machine
end

