-- ==== Sys2Proof/Machine/Dispatch.lean ====
section
/-! DEFINITION. The one dispatch of commands to their meanings. -/

namespace Sys2Proof.Machine

def exec (i : Instr) (s : State) : Host.Outcome State Fault Refusal :=
  match i with
  | .registerWrite sp off v w => Sys2Proof.Machine.execRegisterWrite sp off v w s
  | .readClear sp off wide upd => Sys2Proof.Machine.execReadClear sp off wide upd s
  | .bar0BadAccess t off size write => Sys2Proof.Machine.execBar0BadAccess t off size write s
  | .moduleReset byResetN => Sys2Proof.Machine.execModuleReset byResetN s
  | .bringupTrigger bridge => Sys2Proof.Machine.execBringupTrigger bridge s
  | .verifySync h => Sys2Proof.Machine.execVerifySync h s
  | .verifyWaitTimeout h => Sys2Proof.Machine.execVerifyWaitTimeout h s
  | .recoveryRetry h => Sys2Proof.Machine.execRecoveryRetry h s
  | .firmwareStart h => Sys2Proof.Machine.execFirmwareStart h s
  | .functionReady h f => Sys2Proof.Machine.execFunctionReady h f s
  | .vinOutOfRange => Sys2Proof.Machine.execVinOutOfRange s
  | .vinRestored => Sys2Proof.Machine.execVinRestored s
  | .railsGood => Sys2Proof.Machine.execRailsGood s
  | .perstAssert p => Sys2Proof.Machine.execPerstAssert p s
  | .perstDeassert p clksel => Sys2Proof.Machine.execPerstDeassert p clksel s
  | .linkUp p width rate mld => Sys2Proof.Machine.execLinkUp p width rate mld s
  | .trainFail p => Sys2Proof.Machine.execTrainFail p s
  | .trainBackoffExpire p => Sys2Proof.Machine.execTrainBackoffExpire p s
  | .linkRecovery p => Sys2Proof.Machine.execLinkRecovery p s
  | .linkDown p => Sys2Proof.Machine.execLinkDown p s
  | .hotReset p => Sys2Proof.Machine.execHotReset p s
  | .portDrainComplete p => Sys2Proof.Machine.execPortDrainComplete p s
  | .flrInitiate t => Sys2Proof.Machine.execFlrInitiate t s
  | .flrDrainComplete t => Sys2Proof.Machine.execFlrDrainComplete t s
  | .configRequest t write reg v => Sys2Proof.Machine.execConfigRequest t write reg v s
  | .ctoValueWrite t v => Sys2Proof.Machine.execCtoValueWrite t v s
  | .hdmCommit t base size skip ways gran lock => Sys2Proof.Machine.execHdmCommit t base size skip ways gran lock s
  | .busMasterEnableSet t => Sys2Proof.Machine.execBusMasterEnableSet t s
  | .completionTimeout tag => Sys2Proof.Machine.execCompletionTimeout tag s
  | .tagQuarantineExpire tag => Sys2Proof.Machine.execTagQuarantineExpire tag s
  | .unexpectedCompletion t tag => Sys2Proof.Machine.execUnexpectedCompletion t tag s
  | .farReadCompletion tag data poison => Sys2Proof.Machine.execFarReadCompletion tag data poison s
  | .farDmaErrorCompletion tag => Sys2Proof.Machine.execFarDmaErrorCompletion tag s
  | .hostMemRead p ld hpa mv md => Sys2Proof.Machine.execHostMemRead p ld hpa mv md s
  | .hostMemWrite p ld hpa mv data be poison => Sys2Proof.Machine.execHostMemWrite p ld hpa mv data be poison s
  | .hostMemInv p ld hpa mv => Sys2Proof.Machine.execHostMemInv p ld hpa mv s
  | .headgateAdmit t => Sys2Proof.Machine.execHeadgateAdmit t s
  | .arbiterServe a arrive => Sys2Proof.Machine.execArbiterServe a arrive s
  | .bridgeFlitReplay src => Sys2Proof.Machine.execBridgeFlitReplay src s
  | .bridgeLaneRetire src => Sys2Proof.Machine.execBridgeLaneRetire src s
  | .bridgeRetrainDone => Sys2Proof.Machine.execBridgeRetrainDone s
  | .bridgeDown => Sys2Proof.Machine.execBridgeDown s
  | .bridgeUp => Sys2Proof.Machine.execBridgeUp s
  | .writeCompressorClose p => Sys2Proof.Machine.execWriteCompressorClose p s
  | .tierReadReturn id md => Sys2Proof.Machine.execTierReadReturn id md s
  | .tierReadTimeout id => Sys2Proof.Machine.execTierReadTimeout id s
  | .tierReadLateReturn id => Sys2Proof.Machine.execTierReadLateReturn id s
  | .wttDataWrite v => Sys2Proof.Machine.execWttDataWrite v s
  | .wttCommit t => Sys2Proof.Machine.execWttCommit t s
  | .wttGroupCommit => Sys2Proof.Machine.execWttGroupCommit s
  | .wttCopy t => Sys2Proof.Machine.execWttCopy t s
  | .wttCommitReserved t => Sys2Proof.Machine.execWttCommitReserved t s
  | .wttFlip => Sys2Proof.Machine.execWttFlip s
  | .oldDone t => Sys2Proof.Machine.execOldDone t s
  | .tirAssign => Sys2Proof.Machine.execTirAssign s
  | .tirRelease => Sys2Proof.Machine.execTirRelease s
  | .tirAsgnReserved => Sys2Proof.Machine.execTirAsgnReserved s
  | .tirRemoveClaims t => Sys2Proof.Machine.execTirRemoveClaims t s
  | .plotQuery hi => Sys2Proof.Machine.execPlotQuery hi s
  | .tirClsWrite v => Sys2Proof.Machine.execTirClsWrite v s
  | .ageClockTick => Sys2Proof.Machine.execAgeClockTick s
  | .decayBoundary => Sys2Proof.Machine.execDecayBoundary s
  | .ageSweep h => Sys2Proof.Machine.execAgeSweep h s
  | .coldClassify h => Sys2Proof.Machine.execColdClassify h s
  | .claimRetry h => Sys2Proof.Machine.execClaimRetry h s
  | .claimWaitExpire id => Sys2Proof.Machine.execClaimWaitExpire id s
  | .moveBlockDone plot bad => Sys2Proof.Machine.execMoveBlockDone plot bad s
  | .farEnable t => Sys2Proof.Machine.execFarEnable t s
  | .farDisable t => Sys2Proof.Machine.execFarDisable t s
  | .farRevoke t => Sys2Proof.Machine.execFarRevoke t s
  | .almMark t mark => Sys2Proof.Machine.execAlmMark t mark s
  | .cursorUpdate => Sys2Proof.Machine.execCursorUpdate s
  | .almanacAction => Sys2Proof.Machine.execAlmanacAction s
  | .almanacLoadCommit cal => Sys2Proof.Machine.execAlmanacLoadCommit cal s
  | .almBind cal cursor t src => Sys2Proof.Machine.execAlmBind cal cursor t src s
  | .almUnbind cal cursor => Sys2Proof.Machine.execAlmUnbind cal cursor s
  | .almClearPosition cal cursor => Sys2Proof.Machine.execAlmClearPosition cal cursor s
  | .almReclaimUnload cal => Sys2Proof.Machine.execAlmReclaimUnload cal s
  | .almNewOwner cal t src => Sys2Proof.Machine.execAlmNewOwner cal t src s
  | .tableGenerationRetire slot => Sys2Proof.Machine.execTableGenerationRetire slot s
  | .cmpTableUnload => Sys2Proof.Machine.execCmpTableUnload s
  | .cmpTableOwner t => Sys2Proof.Machine.execCmpTableOwner t s
  | .cmpTcmdReserved => Sys2Proof.Machine.execCmpTcmdReserved s
  | .scaleWindowEnable n v => Sys2Proof.Machine.execScaleWindowEnable n v s
  | .doorbellLineWrite t data be poison => Sys2Proof.Machine.execDoorbellLineWrite t data be poison s
  | .doorbellLineRead t => Sys2Proof.Machine.execDoorbellLineRead t s
  | .mmioDoorbell t v => Sys2Proof.Machine.execMmioDoorbell t v s
  | .ringEnable t r v => Sys2Proof.Machine.execRingEnable t r v s
  | .ringDisable t r v => Sys2Proof.Machine.execRingDisable t r v s
  | .ringRestart t r => Sys2Proof.Machine.execRingRestart t r s
  | .ringFetch t => Sys2Proof.Machine.execRingFetch t s
  | .descriptorFetchCompletion tag c => Sys2Proof.Machine.execDescriptorFetchCompletion tag c s
  | .descriptorTake t r => Sys2Proof.Machine.execDescriptorTake t r s
  | .operationComplete op => Sys2Proof.Machine.execOperationComplete op s
  | .interruptCoalesceExpire t => Sys2Proof.Machine.execInterruptCoalesceExpire t s
  | .cqEnable t v => Sys2Proof.Machine.execCqEnable t v s
  | .cqDisable t v => Sys2Proof.Machine.execCqDisable t v s
  | .cqHeadWrite t v => Sys2Proof.Machine.execCqHeadWrite t v s
  | .fill op => Sys2Proof.Machine.execFill op s
  | .copy op => Sys2Proof.Machine.execCopy op s
  | .copyConvert op => Sys2Proof.Machine.execCopyConvert op s
  | .imageInstall op => Sys2Proof.Machine.execImageInstall op s
  | .compare op => Sys2Proof.Machine.execCompare op s
  | .reduce op => Sys2Proof.Machine.execReduce op s
  | .embedGather op => Sys2Proof.Machine.execEmbedGather op s
  | .expert op => Sys2Proof.Machine.execExpert op s
  | .runProgram op => Sys2Proof.Machine.execRunProgram op s
  | .quant op => Sys2Proof.Machine.execQuant op s
  | .gateact op => Sys2Proof.Machine.execGateact op s
  | .promote op => Sys2Proof.Machine.execPromote op s
  | .demote op => Sys2Proof.Machine.execDemote op s
  | .pin op => Sys2Proof.Machine.execPin op s
  | .unpin op => Sys2Proof.Machine.execUnpin op s
  | .publish op => Sys2Proof.Machine.execPublish op s
  | .acquire op => Sys2Proof.Machine.execAcquire op s
  | .release op => Sys2Proof.Machine.execRelease op s
  | .tableLoad op => Sys2Proof.Machine.execTableLoad op s
  | .programLoad op => Sys2Proof.Machine.execProgramLoad op s
  | .almanacLoad op => Sys2Proof.Machine.execAlmanacLoad op s
  | .mark op => Sys2Proof.Machine.execMark op s
  | .fence op => Sys2Proof.Machine.execFence op s
  | .stagingFillDone fe plot block => Sys2Proof.Machine.execStagingFillDone fe plot block s
  | .tileStart fe => Sys2Proof.Machine.execTileStart fe s
  | .tileEnd fe dup => Sys2Proof.Machine.execTileEnd fe dup s
  | .engineFence fe c => Sys2Proof.Machine.execEngineFence fe c s
  | .engineFenced fe => Sys2Proof.Machine.execEngineFenced fe s
  | .engineBist fe => Sys2Proof.Machine.execEngineBist fe s
  | .engineBistDone fe pass => Sys2Proof.Machine.execEngineBistDone fe pass s
  | .engineReturn fe => Sys2Proof.Machine.execEngineReturn fe s
  | .fieldTestStart u => Sys2Proof.Machine.execFieldTestStart u s
  | .fieldTestDone u pass => Sys2Proof.Machine.execFieldTestDone u pass s
  | .grainCreate job => Sys2Proof.Machine.execGrainCreate job s
  | .grainDispatch core => Sys2Proof.Machine.execGrainDispatch core s
  | .grainForcedYield g => Sys2Proof.Machine.execGrainForcedYield g s
  | .grainWake g => Sys2Proof.Machine.execGrainWake g s
  | .grainLimitExceeded g => Sys2Proof.Machine.execGrainLimitExceeded g s
  | .spnAlu g => Sys2Proof.Machine.execSpnAlu g s
  | .spnAluImm g => Sys2Proof.Machine.execSpnAluImm g s
  | .spnLoadUpper g => Sys2Proof.Machine.execSpnLoadUpper g s
  | .spnLoad g => Sys2Proof.Machine.execSpnLoad g s
  | .spnStore g => Sys2Proof.Machine.execSpnStore g s
  | .spnBranch g => Sys2Proof.Machine.execSpnBranch g s
  | .spnJump g => Sys2Proof.Machine.execSpnJump g s
  | .spnJumpReg g => Sys2Proof.Machine.execSpnJumpReg g s
  | .spnAtomic g => Sys2Proof.Machine.execSpnAtomic g s
  | .spnYield g => Sys2Proof.Machine.execSpnYield g s
  | .spnFence g => Sys2Proof.Machine.execSpnFence g s
  | .spnExit g => Sys2Proof.Machine.execSpnExit g s
  | .spnTrap g => Sys2Proof.Machine.execSpnTrap g s
  | .spnGets g => Sys2Proof.Machine.execSpnGets g s
  | .spnWait g => Sys2Proof.Machine.execSpnWait g s
  | .spnSignal g => Sys2Proof.Machine.execSpnSignal g s
  | .spnMark g => Sys2Proof.Machine.execSpnMark g s
  | .spnVectorInt g => Sys2Proof.Machine.execSpnVectorInt g s
  | .spnVectorFp g => Sys2Proof.Machine.execSpnVectorFp g s
  | .spnReduce g => Sys2Proof.Machine.execSpnReduce g s
  | .spnVectorLoad g => Sys2Proof.Machine.execSpnVectorLoad g s
  | .spnVectorStore g => Sys2Proof.Machine.execSpnVectorStore g s
  | .spnGather g => Sys2Proof.Machine.execSpnGather g s
  | .spnScatter g => Sys2Proof.Machine.execSpnScatter g s
  | .spnVcvt g => Sys2Proof.Machine.execSpnVcvt g s
  | .spnVmxq g => Sys2Proof.Machine.execSpnVmxq g s
  | .spnCrc g => Sys2Proof.Machine.execSpnCrc g s
  | .spnCrcv g => Sys2Proof.Machine.execSpnCrcv g s
  | .coreFence tc c => Sys2Proof.Machine.execCoreFence tc c s
  | .coreFenced tc => Sys2Proof.Machine.execCoreFenced tc s
  | .coreBist tc => Sys2Proof.Machine.execCoreBist tc s
  | .coreBistDone tc pass => Sys2Proof.Machine.execCoreBistDone tc pass s
  | .coreReturn tc => Sys2Proof.Machine.execCoreReturn tc s
  | .programOldDiscard slot => Sys2Proof.Machine.execProgramOldDiscard slot s
  | .programSlotUnload => Sys2Proof.Machine.execProgramSlotUnload s
  | .programSlotOwner t => Sys2Proof.Machine.execProgramSlotOwner t s
  | .tndPcmdReserved => Sys2Proof.Machine.execTndPcmdReserved s
  | .regionEnable v => Sys2Proof.Machine.execRegionEnable v s
  | .regionDisable => Sys2Proof.Machine.execRegionDisable s
  | .snoopResponse id rsp => Sys2Proof.Machine.execSnoopResponse id rsp s
  | .biconflict t line => Sys2Proof.Machine.execBiconflict t line s
  | .snoopTimeout id => Sys2Proof.Machine.execSnoopTimeout id s
  | .directoryWaitResume h => Sys2Proof.Machine.execDirectoryWaitResume h s
  | .backInvalidateDone walk => Sys2Proof.Machine.execBackInvalidateDone walk s
  | .shrFailTenant t => Sys2Proof.Machine.execShrFailTenant t s
  | .failureSweepEnd t => Sys2Proof.Machine.execFailureSweepEnd t s
  | .releaseRegionOrphans r => Sys2Proof.Machine.execReleaseRegionOrphans r s
  | .releaseTenantOrphans t => Sys2Proof.Machine.execReleaseTenantOrphans t s
  | .releaseCapacity r t => Sys2Proof.Machine.execReleaseCapacity r t s
  | .releaseDynamicCapacity t dpa => Sys2Proof.Machine.execReleaseDynamicCapacity t dpa s
  | .addDynamicCapacityResponse t => Sys2Proof.Machine.execAddDynamicCapacityResponse t s
  | .weirWindowBoundary t => Sys2Proof.Machine.execWeirWindowBoundary t s
  | .weirConfigWrite t budget v => Sys2Proof.Machine.execWeirConfigWrite t budget v s
  | .urgencyPinSettle p level => Sys2Proof.Machine.execUrgencyPinSettle p level s
  | .uibWrite t v => Sys2Proof.Machine.execUibWrite t v s
  | .uibHoldExpire t => Sys2Proof.Machine.execUibHoldExpire t s
  | .writeQueueServe ch => Sys2Proof.Machine.execWriteQueueServe ch s
  | .rowIdleClose ch bank => Sys2Proof.Machine.execRowIdleClose ch bank s
  | .refreshDue ch bank => Sys2Proof.Machine.execRefreshDue ch bank s
  | .temperaturePoll ch rate => Sys2Proof.Machine.execTemperaturePoll ch rate s
  | .refreshRateChange ch rate => Sys2Proof.Machine.execRefreshRateChange ch rate s
  | .retrainPauseDue ch => Sys2Proof.Machine.execRetrainPauseDue ch s
  | .retrainPauseEnd ch ok => Sys2Proof.Machine.execRetrainPauseEnd ch ok s
  | .evacuate rank => Sys2Proof.Machine.execEvacuate rank s
  | .evacuateCancel rank => Sys2Proof.Machine.execEvacuateCancel rank s
  | .evacuateAutoTrigger rank => Sys2Proof.Machine.execEvacuateAutoTrigger rank s
  | .evacuateCopyDone rank => Sys2Proof.Machine.execEvacuateCopyDone rank s
  | .switchoverEnd rank => Sys2Proof.Machine.execSwitchoverEnd rank s
  | .spillDone rank => Sys2Proof.Machine.execSpillDone rank s
  | .spillResume h => Sys2Proof.Machine.execSpillResume h s
  | .scriptAbort ch => Sys2Proof.Machine.execScriptAbort ch s
  | .scriptSetCommit near ver => Sys2Proof.Machine.execScriptSetCommit near ver s
  | .bankGiveStage b fe => Sys2Proof.Machine.execBankGiveStage b fe s
  | .bankReturnPool b => Sys2Proof.Machine.execBankReturnPool b s
  | .bankRetire b => Sys2Proof.Machine.execBankRetire b s
  | .bankPowerOn b => Sys2Proof.Machine.execBankPowerOn b s
  | .bankRetention b => Sys2Proof.Machine.execBankRetention b s
  | .bankFallow b => Sys2Proof.Machine.execBankFallow b s
  | .handoverComplete b => Sys2Proof.Machine.execHandoverComplete b s
  | .zeroFillDone b => Sys2Proof.Machine.execZeroFillDone b s
  | .bankWakeDone b => Sys2Proof.Machine.execBankWakeDone b s
  | .bankAllot job => Sys2Proof.Machine.execBankAllot job s
  | .bankIdleRetention b => Sys2Proof.Machine.execBankIdleRetention b s
  | .bankIdleFallow b => Sys2Proof.Machine.execBankIdleFallow b s
  | .portStarveOverride b port1 => Sys2Proof.Machine.execPortStarveOverride b port1 s
  | .marchDestructive first count bg => Sys2Proof.Machine.execMarchDestructive first count bg s
  | .marchPreserving first count => Sys2Proof.Machine.execMarchPreserving first count s
  | .marchAbort h => Sys2Proof.Machine.execMarchAbort h s
  | .marchDone h failed fail0 fail1 => Sys2Proof.Machine.execMarchDone h failed fail0 fail1 s
  | .scrubRead tier unit loc md => Sys2Proof.Machine.execScrubRead tier unit loc md s
  | .lapEnd tier h ms => Sys2Proof.Machine.execLapEnd tier h ms s
  | .lapOverdue tier h ms => Sys2Proof.Machine.execLapOverdue tier h ms s
  | .retireNearSlot => Sys2Proof.Machine.execRetireNearSlot s
  | .retireBulkUnit h => Sys2Proof.Machine.execRetireBulkUnit h s
  | .addRetirementEntry kind h => Sys2Proof.Machine.execAddRetirementEntry kind h s
  | .emptyRetirementEntry => Sys2Proof.Machine.execEmptyRetirementEntry s
  | .relocationDone => Sys2Proof.Machine.execRelocationDone s
  | .relocationWaitExpire => Sys2Proof.Machine.execRelocationWaitExpire s
  | .flashWriteDone => Sys2Proof.Machine.execFlashWriteDone s
  | .maintGrantRequest code scope unit => Sys2Proof.Machine.execMaintGrantRequest code scope unit s
  | .maintPark id => Sys2Proof.Machine.execMaintPark id s
  | .maintResume id => Sys2Proof.Machine.execMaintResume id s
  | .longDeferral id => Sys2Proof.Machine.execLongDeferral id s
  | .raiseMinsvn => Sys2Proof.Machine.execRaiseMinsvn s
  | .revokeKey k => Sys2Proof.Machine.execRevokeKey k s
  | .fuseWriteDone => Sys2Proof.Machine.execFuseWriteDone s
  | .kcmdKeygen slot => Sys2Proof.Machine.execKcmdKeygen slot s
  | .kcmdZeroise slot => Sys2Proof.Machine.execKcmdZeroise slot s
  | .kcmdZeroiseAll => Sys2Proof.Machine.execKcmdZeroiseAll s
  | .zeroiseDone slot => Sys2Proof.Machine.execZeroiseDone slot s
  | .bindWrite e session eid => Sys2Proof.Machine.execBindWrite e session eid s
  | .getVersion e => Sys2Proof.Machine.execGetVersion e s
  | .getCapabilities e => Sys2Proof.Machine.execGetCapabilities e s
  | .negotiateAlgorithms e => Sys2Proof.Machine.execNegotiateAlgorithms e s
  | .getDigests e => Sys2Proof.Machine.execGetDigests e s
  | .getCertificate e slot => Sys2Proof.Machine.execGetCertificate e slot s
  | .challenge e nonce => Sys2Proof.Machine.execChallenge e nonce s
  | .getMeasurements e index signed => Sys2Proof.Machine.execGetMeasurements e index signed s
  | .keyExchange e => Sys2Proof.Machine.execKeyExchange e s
  | .finish e session => Sys2Proof.Machine.execFinish e session s
  | .endSession e session => Sys2Proof.Machine.execEndSession e session s
  | .heartbeat e session => Sys2Proof.Machine.execHeartbeat e session s
  | .keyUpdate e session => Sys2Proof.Machine.execKeyUpdate e session s
  | .spdmLoad e session slot rsvd k1 k2 => Sys2Proof.Machine.execSpdmLoad e session slot rsvd k1 k2 s
  | .spdmKeygen e session slot rsvd => Sys2Proof.Machine.execSpdmKeygen e session slot rsvd s
  | .spdmZeroise e session slot rsvd => Sys2Proof.Machine.execSpdmZeroise e session slot rsvd s
  | .spdmZeroiseAll e session rsvd => Sys2Proof.Machine.execSpdmZeroiseAll e session rsvd s
  | .debugUnlock e session token => Sys2Proof.Machine.execDebugUnlock e session token s
  | .keyProg p session keySet => Sys2Proof.Machine.execKeyProg p session keySet s
  | .kSetGo p session keySet => Sys2Proof.Machine.execKSetGo p session keySet s
  | .kSetStop p session keySet => Sys2Proof.Machine.execKSetStop p session keySet s
  | .ideIntegrityFail p => Sys2Proof.Machine.execIdeIntegrityFail p s
  | .updateBegin => Sys2Proof.Machine.execUpdateBegin s
  | .updateChunk c => Sys2Proof.Machine.execUpdateChunk c s
  | .updateVerify => Sys2Proof.Machine.execUpdateVerify s
  | .updateCommit => Sys2Proof.Machine.execUpdateCommit s
  | .updateAbandon => Sys2Proof.Machine.execUpdateAbandon s
  | .updateCommitDone => Sys2Proof.Machine.execUpdateCommitDone s
  | .bistFe n => Sys2Proof.Machine.execBistFe n s
  | .bistTc n => Sys2Proof.Machine.execBistTc n s
  | .bistRank n => Sys2Proof.Machine.execBistRank n s
  | .bistPort n => Sys2Proof.Machine.execBistPort n s
  | .bistDone sig expected => Sys2Proof.Machine.execBistDone sig expected s
  | .governorPlan pin pavg => Sys2Proof.Machine.execGovernorPlan pin pavg s
  | .sensorSample temps => Sys2Proof.Machine.execSensorSample temps s
  | .thermalCapStep => Sys2Proof.Machine.execThermalCapStep s
  | .thermalTrip => Sys2Proof.Machine.execThermalTrip s
  | .tripRelease => Sys2Proof.Machine.execTripRelease s
  | .standbyEnter => Sys2Proof.Machine.execStandbyEnter s
  | .standbyExit cause => Sys2Proof.Machine.execStandbyExit cause s
  | .watchdogExpire h => Sys2Proof.Machine.execWatchdogExpire h s
  | .tokenReceived h => Sys2Proof.Machine.execTokenReceived h s
  | .tokenLinkTimeout h => Sys2Proof.Machine.execTokenLinkTimeout h s
  | .tokenLinkReturn => Sys2Proof.Machine.execTokenLinkReturn s
  | .coreRestartDone h => Sys2Proof.Machine.execCoreRestartDone h s
  | .stewardRegisterAccess e session off write count data => Sys2Proof.Machine.execStewardRegisterAccess e session off write count data s
  | .mctpControl e setEid => Sys2Proof.Machine.execMctpControl e setEid s
  | .identify e => Sys2Proof.Machine.execIdentify e s
  | .backgroundOperationStatus e => Sys2Proof.Machine.execBackgroundOperationStatus e s
  | .getResponseMessageLimit e => Sys2Proof.Machine.execGetResponseMessageLimit e s
  | .setResponseMessageLimit e v => Sys2Proof.Machine.execSetResponseMessageLimit e v s
  | .getEventRecords e log => Sys2Proof.Machine.execGetEventRecords e log s
  | .clearEventRecords e log count => Sys2Proof.Machine.execClearEventRecords e log count s
  | .getEventInterruptPolicy e => Sys2Proof.Machine.execGetEventInterruptPolicy e s
  | .setEventInterruptPolicy e v => Sys2Proof.Machine.execSetEventInterruptPolicy e v s
  | .getTimestamp e => Sys2Proof.Machine.execGetTimestamp e s
  | .setTimestamp e v => Sys2Proof.Machine.execSetTimestamp e v s
  | .getSupportedLogs e => Sys2Proof.Machine.execGetSupportedLogs e s
  | .getLog e off len => Sys2Proof.Machine.execGetLog e off len s
  | .tunnelManagement e ld opcode => Sys2Proof.Machine.execTunnelManagement e ld opcode s
  | .sendLdConfigurationRequest e ld write reg v => Sys2Proof.Machine.execSendLdConfigurationRequest e ld write reg v s
  | .sendLdMemoryRequest e ld write off v => Sys2Proof.Machine.execSendLdMemoryRequest e ld write off v s
  | .getLdInfo e => Sys2Proof.Machine.execGetLdInfo e s
  | .getLdAllocations e => Sys2Proof.Machine.execGetLdAllocations e s
  | .getMultiHeadedInfo e => Sys2Proof.Machine.execGetMultiHeadedInfo e s
  | .getHeadInfo e p => Sys2Proof.Machine.execGetHeadInfo e p s
  | .getDcdInfo e => Sys2Proof.Machine.execGetDcdInfo e s
  | .getHostDcRegionConfiguration e ld => Sys2Proof.Machine.execGetHostDcRegionConfiguration e ld s
  | .getDcRegionExtentLists e ld => Sys2Proof.Machine.execGetDcRegionExtentLists e ld s
  | .getDynamicCapacityConfiguration t => Sys2Proof.Machine.execGetDynamicCapacityConfiguration t s
  | .getDynamicCapacityExtentList t => Sys2Proof.Machine.execGetDynamicCapacityExtentList t s
  | .identifyMemoryDevice t => Sys2Proof.Machine.execIdentifyMemoryDevice t s
  | .getHealthInfo t => Sys2Proof.Machine.execGetHealthInfo t s
  | .unsupportedCommand e opcode => Sys2Proof.Machine.execUnsupportedCommand e opcode s
  | .railOutOfLimits => Sys2Proof.Machine.execRailOutOfLimits s
  | .meshLinkFailure h => Sys2Proof.Machine.execMeshLinkFailure h s
  | .channelLost ch => Sys2Proof.Machine.execChannelLost ch s
  | .i3cDynamicAddressAssignment addr => Sys2Proof.Machine.execI3cDynamicAddressAssignment addr s

end Sys2Proof.Machine
end

