-- ==== Sys2Proof/WellFormed.lean ====
section
/-! DEFINITION. Well-formed commands: operands that the spec's own counts and formats admit. The machine meets an
ill-formed command all the same; what it does then is a fault (a unit that does not exist) or a command without effect. -/

namespace Sys2Proof

/-- DRAM channels: LC0 to LC135, then HPC0 to HPC127 as 136 to 263 (Table ARC-1). -/
def wfChannels : Nat := 264

/-- Banks of a channel by number, 64 × K + bank on a Bulk channel (Tables DMC-1, DMC-2). -/
def wfBank (ch bank : Nat) : Bool := if ch < 136 then bank % 64 < 16 && bank < 128 else bank < 64

/-- Offsets of a space that an access of 4 or 8 bytes may name (R438, R449). -/
def wfOffset (sp : RegSpace) (off : BitVec 24) (wide : Bool) : Bool :=
  off.toNat % (if wide then 8 else 4) = 0 && (match sp with
    | .bar0 _ => off.toNat < 65536
    | .bar2 _ => off.toNat < 65536
    | .steward => true)

/-- Units of a tier's scrubber: HPCn, LCn, Cistern bank (R365). -/
def wfScrub (tier unit : Nat) : Bool := match tier with
  | 0 => unit < 128
  | 1 => unit < 136
  | 2 => unit < 512
  | _ => false

def wfChan (ch : Nat) : Option String := if ch < wfChannels then none else some "channel"

/-- The check that a command fails, by name. -/
def Instr.wfErr : Instr → Option String
  | .registerWrite sp off _ w => if wfOffset sp off w.hi.isSome then none else some "offset"
  | .readClear sp off wide _ => if wfOffset sp off wide then none else some "offset"
  | .bar0BadAccess _ _ size _ => if size = 0 then some "size" else none
  | .descriptorFetchCompletion _ (.data l) => if l.length = 0 || 8 < l.length then some "fetch length" else none
  | .hdmCommit _ _ _ _ ways gran _ => if ways = 0 || gran = 0 then some "decoder" else none
  | .writeQueueServe ch => wfChan ch
  | .rowIdleClose ch bank => if wfBank ch bank then wfChan ch else some "bank"
  | .refreshDue ch bank => if wfBank ch bank then wfChan ch else some "bank"
  | .temperaturePoll ch _ => wfChan ch
  | .refreshRateChange ch _ => wfChan ch
  | .retrainPauseDue ch => wfChan ch
  | .retrainPauseEnd ch _ => wfChan ch
  | .scriptAbort ch => wfChan ch
  | .channelLost ch => wfChan ch
  | .scrubRead tier unit _ _ => if wfScrub tier.toNat unit then none else some "scrub unit"
  | .lapEnd tier _ _ => if tier = 3#2 then some "tier" else none
  | .lapOverdue tier _ _ => if tier = 3#2 then some "tier" else none
  | .marchDestructive _ count _ => if 256 < count.toNat then some "bank count" else none
  | .marchPreserving _ count => if 256 < count.toNat then some "bank count" else none
  | .maintGrantRequest code _ _ => if code = 0#4 || 8 < code.toNat then some "activity code" else none
  | .sensorSample temps => if temps.length = 40 then none else some "sensor count"
  | .stewardRegisterAccess _ _ _ write count data =>
    if count = 0 || 16 < count then some "register count"
    else if write && data.length ≠ count then some "data length" else none
  | _ => none

def Instr.wf (i : Instr) : Bool := i.wfErr.isNone

end Sys2Proof
end

