-- ==== Sys2Proof/Safety.lean ====
section
/-! DEFINITION. What counts as a safe run and as a legal state, in the terms that the statements use. -/

namespace Sys2Proof.Safety

open Sys2Proof.Machine

/-- The step goes on: it answers a next state. -/
def Runs (s : State) : Prop := ∃ t, step s = .next t

/-- A command has its effect: exec answers a next state. -/
def Completes (c : Instr) (s : State) : Prop := ∃ t, exec c s = .next t

/-- What a command answers meets a property, and it is a next state. -/
def Yields (c : Instr) (s : State) (p : State → Prop) : Prop := ∃ t, exec c s = .next t ∧ p t

/-- Every store of bytes has its canonical form, strictly rising addresses and no byte of 0 listed, and the module log is
within its bound of 65,536 records (R374). -/
structure Canonical (s : State) : Prop where
  near : memWf s.tier.mem = true
  coded : memWf s.tier.area = true
  escapes : memWf s.tier.esc = true
  cistern : memWf s.cst.mem = true
  flash : memWf s.flash.img = true
  update : memWf s.upd.bytes = true
  log : s.ras.log.length ≤ 65536 ∧ s.ras.logNext < 65536

/-- A host request of tenant 16·p + ld to address hpa passes straight to its tier (R17, R56, R57, R60, R279, R308): its port
is up and its device enumerated, no IDE is required, MEM is ready, the decoder maps the address to a, which is not the
doorbell line; the WTT stage answers x with a private entry e, no view covers the plot, the Weir has room, and the home half
is reached with nothing waiting on the line, no entry of it in the directory, and no retrain of the bridge on the way to the
plot's place. -/
structure Passes (s : State) (p : PortId) (ld : BitVec 4) (hpa : W64) (wr : Bool) (a : Nat) (x : Xl) (e : WEnt) : Prop where
  up : s.portUp p.toNat = true
  device : (s.ld (16 * p.toNat + ld.toNat)).enumerated = true
  plain : bit 0 (s.stw (Reg.SEC_PORT + 4 * s.headPort p.toNat)) = false
  ready : s.fnReady (16 * p.toNat + ld.toNat) .mem = true
  decoder : (s.ld (16 * p.toNat + ld.toNat)).hdm.dpa hpa.toNat = some a
  noBell : s.dblOn (16 * p.toNat + ld.toNat) = false
  table : (s.wttOf (16 * p.toNat + ld.toNat)).translate a wr = x
  entry : x.ent = some e
  owned : e.shared = false
  label : x.clamped = false
  view : s.viewOf (plotOf x.ua) = none
  room : (s.hgOf (16 * p.toNat + ld.toNat)).ask x.cls = .pass
  home : portHalf p.toNat = homeHalf (plotOf x.ua) ∨ (s.bridge.up = true ∧ s.bridge.retraining = false)
  free : s.lineBusy (lineOf x.ua) = false
  buffer : s.bufferOf (plotOf x.ua) = none
  entryless : s.dirOf (lineOf x.ua) = none
  reached : s.farHeld (plotOf x.ua) = false

/-- The request that arrives with those answers. -/
def arriving (s : State) (p : PortId) (ld : BitVec 4) (op : ReqOp) (mv : Meta) (d : Line) (be : W64) (poison : Bool)
    (md : Media) (a : Nat) (x : Xl) (e : WEnt) : Req :=
  { id := s.nextReq, port := p.toNat, tenant := 16 * p.toNat + ld.toNat, op := op, dpa := a, mv := mv, ua := x.ua,
    cls := x.cls, enc := e.enc, region := none, data := d, be := be, poison := poison, md := md, stamp := s.now,
    oldEpoch := (s.wttOf (16 * p.toNat + ld.toNat)).epoch, onB := (s.wttOf (16 * p.toNat + ld.toNat)).onB }

/-- The state once it is numbered and charged one unit of its class (R307). -/
def charged (s : State) (t cls : Nat) : State :=
  ({ s with nextReq := s.nextReq + 1 }).modHg t (fun h => h.charge cls 1)

/-- No request, read, snoop or update is under way (R14): nothing waits on the bridge, at a home half, at a closing block or at a
controller, and no tag is in use. -/
structure Quiet (s : State) : Prop where
  queue : s.bridge.queue = []
  waiting : s.shr.waiting = []
  ways : s.shr.wayWait = []
  snoops : s.shr.snoops = []
  closing : s.cmp.closeWait = []
  reads : s.dmc.reads = []
  tags : s.tags = []
  devices : s.lds = []
  updates : s.alm.updates = []

/-- The state once the read of tag g, known as x, has timed out: the tag in quarantine, the device's AER bit, the count (R53). -/
def tagTimedOut (s : State) (g : Nat) (x : Tag) : State :=
  State.cntBar x.tenant Reg.PRT_CPL 15 0 1
    (({ s with tags := s.tags.filter (fun y => y.tag ≠ g), quarantine := s.quarantine ++ [x] } : State).modLd x.tenant
      (fun l => { l with aerTimeout := true, waiting := l.waiting.filter (fun w => match w with
        | .read k _ _ _ => k ≠ g
        | _ => true) }))

/-- The instruction at a running grain's PC: w, of class c, of the grain g of job j, which is within its limits (R209, R210,
R221). -/
structure AtInstr (s : State) (i : Nat) (c : SCls) (w : W32) (g : Grain) (j : Job) : Prop where
  grain : s.grain i = some g
  job : s.job g.job = some j
  running : g.st = .running
  word : j.word g.ctx.pc = some w
  cls : sDecode w = some c
  limit : s.pastLimit g j = false

/-- The grain with PC past its instruction and the instruction counted. -/
def moved (g : Grain) : Grain := { g with icount := g.icount + 1, ctx := { g.ctx with pc := pcAdd g.ctx.pc 4 } }

/-- The state once a running grain's instruction has left it so: what its accesses held is given up. -/
def retire (s : State) (j : Job) (g : Grain) : State := ((g.unit j).ends s).modGrain g.id (fun _ => g)

/-- The parts of a state: its fields. -/
inductive Part where
  | clk | pins | fuse | flash | reg | north | south | bridge | ports | lds | tags | quarantine | wtt | wttData | flip
  | tier | alm | cmp | rings | eng | ops | nextOp | jobs | grains | nextGrain | pslots | fes | tcs | xjobs | dups
  | shr | hg | nextReq | arb | dmc | cst | ras | sec | upd | pwm | mgmt | out | acc | freeCtr | pending
deriving DecidableEq, Repr

/-- A part is the same in two states. -/
def Part.same : Part → State → State → Prop
  | .clk, s, t => t.clk = s.clk
  | .pins, s, t => t.pins = s.pins
  | .fuse, s, t => t.fuse = s.fuse
  | .flash, s, t => t.flash = s.flash
  | .reg, s, t => t.reg = s.reg
  | .north, s, t => t.north = s.north
  | .south, s, t => t.south = s.south
  | .bridge, s, t => t.bridge = s.bridge
  | .ports, s, t => t.ports = s.ports
  | .lds, s, t => t.lds = s.lds
  | .tags, s, t => t.tags = s.tags
  | .quarantine, s, t => t.quarantine = s.quarantine
  | .wtt, s, t => t.wtt = s.wtt
  | .wttData, s, t => t.wttData = s.wttData
  | .flip, s, t => t.flip = s.flip
  | .tier, s, t => t.tier = s.tier
  | .alm, s, t => t.alm = s.alm
  | .cmp, s, t => t.cmp = s.cmp
  | .rings, s, t => t.rings = s.rings
  | .eng, s, t => t.eng = s.eng
  | .ops, s, t => t.ops = s.ops
  | .nextOp, s, t => t.nextOp = s.nextOp
  | .jobs, s, t => t.jobs = s.jobs
  | .grains, s, t => t.grains = s.grains
  | .nextGrain, s, t => t.nextGrain = s.nextGrain
  | .pslots, s, t => t.pslots = s.pslots
  | .fes, s, t => t.fes = s.fes
  | .tcs, s, t => t.tcs = s.tcs
  | .xjobs, s, t => t.xjobs = s.xjobs
  | .dups, s, t => t.dups = s.dups
  | .shr, s, t => t.shr = s.shr
  | .hg, s, t => t.hg = s.hg
  | .nextReq, s, t => t.nextReq = s.nextReq
  | .arb, s, t => t.arb = s.arb
  | .dmc, s, t => t.dmc = s.dmc
  | .cst, s, t => t.cst = s.cst
  | .ras, s, t => t.ras = s.ras
  | .sec, s, t => t.sec = s.sec
  | .upd, s, t => t.upd = s.upd
  | .pwm, s, t => t.pwm = s.pwm
  | .mgmt, s, t => t.mgmt = s.mgmt
  | .out, s, t => t.out = s.out
  | .acc, s, t => t.acc = s.acc
  | .freeCtr, s, t => t.freeCtr = s.freeCtr
  | .pending, s, t => t.pending = s.pending

/-- The parts that each command may change in some state; outside them a command changes nothing. -/
def mayChange : Instr → List Part
  | .registerWrite _ _ _ _ =>
    [.fuse, .flash, .reg, .north, .south, .bridge, .lds, .tags, .wtt, .wttData, .flip, .tier, .alm, .cmp, .rings,
    .eng, .ops, .jobs, .grains, .nextGrain, .pslots, .fes, .tcs, .xjobs, .dups, .shr, .hg, .dmc, .cst, .ras, .sec,
    .upd, .mgmt, .out, .acc, .freeCtr]
  | .readClear _ _ _ _ =>
    [.reg, .alm, .cmp, .out, .freeCtr]
  | .bar0BadAccess _ _ _ _ =>
    [.reg, .out]
  | .moduleReset _ | .vinOutOfRange | .thermalTrip | .railOutOfLimits =>
    [.clk, .pins, .fuse, .flash, .reg, .north, .south, .bridge, .ports, .lds, .tags, .quarantine, .wtt, .wttData,
    .flip, .tier, .alm, .cmp, .rings, .eng, .ops, .nextOp, .jobs, .grains, .nextGrain, .pslots, .fes, .tcs, .xjobs,
    .dups, .shr, .hg, .nextReq, .arb, .dmc, .cst, .ras, .sec, .upd, .pwm, .mgmt, .out, .acc, .freeCtr, .pending]
  | .bringupTrigger _ =>
    [.pins, .north, .south, .bridge, .ports, .sec, .out]
  | .verifySync _ =>
    [.reg, .north, .south, .dmc, .sec, .out]
  | .verifyWaitTimeout _ =>
    [.reg, .north, .south, .lds, .tags, .eng, .dmc, .ras, .sec, .mgmt, .out]
  | .recoveryRetry _ =>
    [.north, .south, .sec, .out]
  | .firmwareStart _ =>
    [.reg, .north, .south, .lds, .tags, .tier, .eng, .fes, .tcs, .dmc, .cst, .ras, .out]
  | .functionReady _ _ =>
    [.north, .south, .lds, .tags, .eng, .out]
  | .vinRestored | .railsGood | .urgencyPinSettle _ _ | .tripRelease =>
    [.pins]
  | .perstAssert _ =>
    [.pins, .reg, .bridge, .ports, .lds, .tags, .quarantine, .tier, .alm, .cmp, .rings, .eng, .ops, .jobs, .grains,
    .fes, .xjobs, .dups, .shr, .hg, .dmc, .cst, .ras, .mgmt, .out, .acc, .freeCtr]
  | .perstDeassert _ _ =>
    [.pins, .ports, .out]
  | .linkUp _ _ _ _ =>
    [.ports, .lds]
  | .trainFail _ =>
    [.reg, .ports]
  | .trainBackoffExpire _ | .keyProg _ _ _ | .kSetGo _ _ _ | .kSetStop _ _ _ =>
    [.ports, .out]
  | .linkRecovery _ | .addDynamicCapacityResponse _ | .meshLinkFailure _ =>
    []
  | .linkDown _ | .hotReset _ | .ideIntegrityFail _ =>
    [.reg, .bridge, .ports, .lds, .tags, .quarantine, .tier, .alm, .cmp, .rings, .eng, .ops, .jobs, .grains, .fes,
    .xjobs, .dups, .shr, .hg, .dmc, .cst, .ras, .mgmt, .out, .acc, .freeCtr]
  | .portDrainComplete _ =>
    [.reg, .ports, .lds, .tags, .alm, .rings, .eng, .hg, .ras, .out]
  | .flrInitiate _ =>
    [.reg, .bridge, .lds, .tags, .quarantine, .tier, .alm, .rings, .eng, .ops, .jobs, .grains, .fes, .xjobs, .dups,
    .cst, .ras, .out, .acc]
  | .flrDrainComplete _ =>
    [.reg, .north, .south, .bridge, .lds, .tags, .tier, .alm, .cmp, .rings, .eng, .ops, .fes, .shr, .hg, .dmc, .ras,
    .mgmt, .out, .acc, .freeCtr]
  | .configRequest _ _ _ _ | .sendLdConfigurationRequest _ _ _ _ _ =>
    [.reg, .bridge, .lds, .tags, .quarantine, .tier, .alm, .rings, .eng, .ops, .jobs, .grains, .fes, .xjobs, .dups,
    .cst, .ras, .out, .acc, .freeCtr]
  | .ctoValueWrite _ _ | .unexpectedCompletion _ _ =>
    [.reg, .lds]
  | .hdmCommit _ _ _ _ _ _ _ | .releaseDynamicCapacity _ _ =>
    [.lds]
  | .busMasterEnableSet _ | .interruptCoalesceExpire _ =>
    [.lds, .tags, .eng, .out]
  | .completionTimeout _ =>
    [.reg, .bridge, .lds, .tags, .quarantine, .tier, .alm, .cmp, .rings, .eng, .ops, .fes, .hg, .dmc, .ras, .mgmt,
    .out, .acc, .freeCtr]
  | .tagQuarantineExpire _ =>
    [.quarantine]
  | .farReadCompletion _ _ _ | .farDmaErrorCompletion _ | .moveBlockDone _ _ | .farDisable _ | .farRevoke _ =>
    [.reg, .bridge, .lds, .tags, .tier, .alm, .cmp, .eng, .ops, .fes, .hg, .dmc, .ras, .mgmt, .out, .acc, .freeCtr]
  | .hostMemRead _ _ _ _ _ | .hostMemWrite _ _ _ _ _ _ _ | .hostMemInv _ _ _ _ =>
    [.reg, .bridge, .lds, .tags, .tier, .alm, .cmp, .rings, .eng, .ops, .fes, .shr, .hg, .nextReq, .dmc, .ras,
    .mgmt, .out, .acc, .freeCtr]
  | .headgateAdmit _ | .bridgeLaneRetire _ | .bridgeRetrainDone | .bridgeDown | .fill _ | .copy _ | .imageInstall _
  | .compare _ | .publish _ | .tableLoad _ | .almanacLoad _ | .snoopResponse _ _ | .snoopTimeout _
  | .directoryWaitResume _ | .shrFailTenant _ | .weirWindowBoundary _ =>
    [.reg, .bridge, .lds, .tags, .tier, .alm, .cmp, .eng, .ops, .fes, .shr, .hg, .dmc, .ras, .mgmt, .out, .acc,
    .freeCtr]
  | .arbiterServe _ _ =>
    [.reg, .lds, .tags, .eng, .arb, .cst, .ras, .mgmt, .out]
  | .bridgeFlitReplay _ =>
    [.bridge]
  | .bridgeUp =>
    [.reg, .north, .south, .bridge, .lds, .tags, .eng, .shr, .ras, .sec, .out]
  | .writeCompressorClose _ | .retrainPauseEnd _ _ | .scriptAbort _ | .channelLost _ =>
    [.reg, .bridge, .lds, .tags, .tier, .cmp, .eng, .fes, .hg, .dmc, .ras, .mgmt, .out, .acc, .freeCtr]
  | .tierReadReturn _ _ =>
    [.reg, .lds, .tags, .cmp, .eng, .hg, .dmc, .ras, .mgmt, .out, .freeCtr]
  | .tierReadTimeout _ =>
    [.reg, .lds, .tags, .eng, .hg, .dmc, .ras, .out]
  | .tierReadLateReturn _ =>
    [.reg, .dmc]
  | .wttDataWrite _ | .wttCopy _ =>
    [.reg, .wtt]
  | .wttCommit _ | .wttGroupCommit | .oldDone _ =>
    [.reg, .bridge, .lds, .tags, .wtt, .flip, .tier, .cmp, .eng, .fes, .shr, .dmc, .ras, .mgmt, .out, .acc,
    .freeCtr]
  | .wttCommitReserved _ | .tirAsgnReserved | .tirClsWrite _ | .farEnable _ | .scaleWindowEnable _ _
  | .cqDisable _ _ | .tndPcmdReserved | .weirConfigWrite _ _ _ | .spillResume _ =>
    [.reg]
  | .wttFlip =>
    [.lds, .tags, .wtt, .flip, .eng, .out]
  | .tirAssign | .tirRelease | .relocationWaitExpire =>
    [.reg, .lds, .tags, .tier, .alm, .cmp, .eng, .ops, .fes, .hg, .ras, .out, .freeCtr]
  | .tirRemoveClaims _ | .almanacAction =>
    [.reg, .lds, .tags, .tier, .alm, .eng, .ops, .fes, .hg, .ras, .out, .freeCtr]
  | .plotQuery _ =>
    [.reg, .tier]
  | .ageClockTick =>
    [.clk]
  | .decayBoundary | .ageSweep _ =>
    [.tier]
  | .coldClassify _ | .claimRetry _ | .promote _ | .demote _ | .pin _ | .unpin _ =>
    [.reg, .lds, .tags, .tier, .alm, .eng, .ops, .hg, .ras, .out, .freeCtr]
  | .claimWaitExpire _ =>
    [.reg, .lds, .tags, .tier, .alm, .eng, .ops, .ras, .out]
  | .almMark _ _ | .almBind _ _ _ _ | .almUnbind _ _ | .almClearPosition _ _ | .almReclaimUnload _
  | .almNewOwner _ _ _ =>
    [.reg, .alm]
  | .cursorUpdate =>
    [.reg, .lds, .tags, .alm, .eng, .ops, .ras, .out]
  | .almanacLoadCommit _ =>
    [.alm, .ops]
  | .tableGenerationRetire _ | .cmpTableUnload | .cmpTableOwner _ | .cmpTcmdReserved =>
    [.cmp]
  | .doorbellLineWrite _ _ _ _ =>
    [.reg, .lds, .rings, .out]
  | .doorbellLineRead _ | .biconflict _ _ | .getVersion _ | .getCapabilities _ | .negotiateAlgorithms _
  | .getDigests _ | .getCertificate _ _ | .challenge _ _ | .getMeasurements _ _ _ | .heartbeat _ _
  | .getResponseMessageLimit _ | .getEventRecords _ _ | .getEventInterruptPolicy _ | .getTimestamp _ | .getLdInfo _
  | .getLdAllocations _ | .getHostDcRegionConfiguration _ _ | .getDcRegionExtentLists _ _
  | .getDynamicCapacityConfiguration _ | .getDynamicCapacityExtentList _ | .unsupportedCommand _ _ =>
    [.out]
  | .mmioDoorbell _ _ =>
    [.reg, .lds, .rings]
  | .ringEnable _ _ _ | .ringDisable _ _ _ =>
    [.reg, .lds, .tags, .rings]
  | .ringRestart _ _ =>
    [.rings]
  | .ringFetch _ =>
    [.lds, .tags, .rings, .eng, .out, .freeCtr]
  | .descriptorFetchCompletion _ _ =>
    [.reg, .lds, .tags, .rings, .eng, .ras, .out]
  | .descriptorTake _ _ =>
    [.reg, .bridge, .lds, .tags, .tier, .alm, .cmp, .rings, .eng, .ops, .nextOp, .jobs, .fes, .shr, .hg, .nextReq,
    .dmc, .ras, .mgmt, .out, .acc, .freeCtr]
  | .operationComplete _ =>
    [.reg, .bridge, .lds, .tags, .tier, .rings, .eng, .ops, .jobs, .grains, .fes, .xjobs, .dups, .cst, .ras, .out,
    .acc]
  | .cqEnable _ _ | .cqHeadWrite _ _ =>
    [.reg, .eng]
  | .copyConvert _ | .reduce _ | .embedGather _ | .quant _ | .gateact _ =>
    [.reg, .bridge, .lds, .tags, .tier, .alm, .cmp, .eng, .ops, .jobs, .grains, .nextGrain, .fes, .shr, .hg, .dmc,
    .cst, .ras, .mgmt, .out, .acc, .freeCtr]
  | .expert _ =>
    [.reg, .bridge, .lds, .tags, .tier, .alm, .cmp, .eng, .ops, .jobs, .grains, .nextGrain, .fes, .xjobs, .shr, .hg,
    .dmc, .cst, .ras, .mgmt, .out, .acc, .freeCtr]
  | .runProgram _ =>
    [.ops, .jobs, .cst]
  | .acquire _ | .release _ | .backInvalidateDone _ =>
    [.reg, .bridge, .lds, .tags, .wtt, .tier, .alm, .cmp, .eng, .ops, .fes, .shr, .hg, .dmc, .ras, .mgmt, .out,
    .acc, .freeCtr]
  | .programLoad _ =>
    [.reg, .bridge, .lds, .tags, .tier, .alm, .cmp, .eng, .ops, .jobs, .pslots, .fes, .shr, .hg, .dmc, .ras, .mgmt,
    .out, .acc, .freeCtr]
  | .mark _ =>
    [.reg, .alm, .ops]
  | .fence _ =>
    [.ops]
  | .stagingFillDone _ _ _ =>
    [.reg, .bridge, .lds, .tags, .tier, .alm, .cmp, .eng, .ops, .fes, .shr, .hg, .dmc, .cst, .ras, .mgmt, .out,
    .acc, .freeCtr]
  | .tileStart _ =>
    [.reg, .bridge, .lds, .tags, .tier, .alm, .cmp, .eng, .ops, .nextGrain, .fes, .dups, .shr, .hg, .dmc, .cst,
    .ras, .mgmt, .out, .acc, .freeCtr]
  | .tileEnd _ _ | .engineFence _ _ =>
    [.reg, .bridge, .lds, .tags, .tier, .alm, .eng, .ops, .nextGrain, .fes, .xjobs, .dups, .cst, .ras, .mgmt, .out,
    .acc]
  | .engineFenced _ =>
    [.reg, .fes]
  | .engineBist _ | .engineBistDone _ _ =>
    [.reg, .fes, .ras]
  | .engineReturn _ =>
    [.reg, .lds, .tags, .eng, .fes, .ras, .mgmt, .out]
  | .fieldTestStart _ =>
    [.fes, .tcs]
  | .fieldTestDone _ _ =>
    [.reg, .bridge, .lds, .tags, .tier, .alm, .eng, .ops, .jobs, .grains, .nextGrain, .fes, .tcs, .xjobs, .dups,
    .cst, .ras, .mgmt, .out, .acc]
  | .grainCreate _ =>
    [.reg, .bridge, .lds, .tags, .tier, .eng, .ops, .jobs, .grains, .nextGrain, .cst, .ras, .out, .acc]
  | .grainDispatch _ =>
    [.grains, .tcs]
  | .grainForcedYield _ =>
    [.ops, .jobs, .grains, .cst]
  | .grainWake _ =>
    [.grains]
  | .grainLimitExceeded _ =>
    [.reg, .bridge, .lds, .tags, .tier, .eng, .ops, .jobs, .grains, .cst, .ras, .out, .acc]
  | .spnAlu _ | .spnAluImm _ | .spnLoadUpper _ | .spnBranch _ | .spnJump _ | .spnJumpReg _ | .spnYield _
  | .spnFence _ | .spnExit _ | .spnTrap _ | .spnGets _ | .spnWait _ | .spnSignal _ | .spnVectorInt _
  | .spnVectorFp _ | .spnReduce _ | .spnVcvt _ | .spnVmxq _ =>
    [.reg, .bridge, .lds, .tags, .tier, .cmp, .eng, .ops, .jobs, .grains, .fes, .shr, .hg, .dmc, .cst, .ras, .mgmt,
    .out, .acc, .freeCtr]
  | .spnLoad _ | .spnStore _ | .spnAtomic _ | .spnMark _ | .spnVectorLoad _ | .spnVectorStore _ | .spnGather _
  | .spnScatter _ | .spnCrc _ | .spnCrcv _ =>
    [.reg, .bridge, .lds, .tags, .tier, .alm, .cmp, .eng, .ops, .jobs, .grains, .fes, .shr, .hg, .dmc, .cst, .ras,
    .mgmt, .out, .acc, .freeCtr]
  | .coreFence _ _ =>
    [.reg, .bridge, .lds, .tags, .tier, .eng, .ops, .jobs, .grains, .tcs, .cst, .ras, .mgmt, .out, .acc]
  | .coreFenced _ =>
    [.reg, .tcs]
  | .coreBist _ | .coreBistDone _ _ =>
    [.reg, .tcs, .ras]
  | .coreReturn _ =>
    [.reg, .lds, .tags, .eng, .tcs, .ras, .mgmt, .out]
  | .programOldDiscard _ =>
    [.pslots]
  | .programSlotUnload =>
    [.reg, .jobs, .pslots]
  | .programSlotOwner _ =>
    [.reg, .pslots]
  | .regionEnable _ | .regionDisable =>
    [.shr]
  | .failureSweepEnd _ =>
    [.reg, .bridge, .lds, .tags, .tier, .cmp, .eng, .fes, .shr, .dmc, .ras, .mgmt, .out, .acc, .freeCtr]
  | .releaseRegionOrphans _ | .releaseTenantOrphans _ =>
    [.reg, .shr]
  | .releaseCapacity _ _ =>
    [.reg, .lds, .tags, .eng, .out]
  | .uibWrite _ _ | .uibHoldExpire _ =>
    [.reg, .hg]
  | .writeQueueServe _ | .rowIdleClose _ _ | .refreshDue _ _ =>
    [.dmc]
  | .temperaturePoll _ _ | .retrainPauseDue _ | .scriptSetCommit _ _ =>
    [.reg, .dmc, .ras]
  | .refreshRateChange _ _ =>
    [.dmc, .ras]
  | .evacuate _ | .evacuateAutoTrigger _ =>
    [.reg, .lds, .tags, .eng, .dmc, .ras, .out, .freeCtr]
  | .evacuateCancel _ =>
    [.reg, .lds, .tags, .eng, .dmc, .ras, .out]
  | .evacuateCopyDone _ | .spillDone _ =>
    [.reg, .lds, .tags, .tier, .eng, .dmc, .ras, .mgmt, .out]
  | .switchoverEnd _ =>
    [.reg, .lds, .tags, .eng, .dmc, .ras, .mgmt, .out]
  | .bankGiveStage _ _ | .bankReturnPool _ | .bankPowerOn _ | .bankRetention _ =>
    [.reg, .cst]
  | .bankRetire _ =>
    [.reg, .cst, .mgmt]
  | .bankFallow _ =>
    [.reg, .fes, .cst]
  | .handoverComplete _ =>
    [.reg, .jobs, .fes, .cst, .mgmt]
  | .zeroFillDone _ | .bankAllot _ =>
    [.jobs, .cst]
  | .bankWakeDone _ | .bankIdleRetention _ =>
    [.cst]
  | .bankIdleFallow _ =>
    [.fes, .cst]
  | .portStarveOverride _ _ =>
    [.reg, .lds, .tags, .eng, .cst, .ras, .mgmt, .out]
  | .marchDestructive _ _ _ | .marchPreserving _ _ =>
    [.reg, .cst, .ras]
  | .marchAbort _ =>
    [.reg, .jobs, .cst, .ras]
  | .marchDone _ _ _ _ =>
    [.reg, .lds, .tags, .eng, .jobs, .cst, .ras, .mgmt, .out, .freeCtr]
  | .scrubRead _ _ _ _ =>
    [.reg, .lds, .tags, .tier, .eng, .dmc, .cst, .ras, .mgmt, .out]
  | .lapEnd _ _ _ | .lapOverdue _ _ _ | .flashWriteDone | .longDeferral _ =>
    [.reg, .lds, .tags, .eng, .ras, .out]
  | .retireNearSlot | .retireBulkUnit _ =>
    [.flash, .reg, .lds, .tags, .tier, .eng, .ras, .out, .freeCtr]
  | .addRetirementEntry _ _ | .emptyRetirementEntry =>
    [.flash, .reg, .lds, .tags, .eng, .ras, .out]
  | .relocationDone =>
    [.flash, .reg, .lds, .tags, .tier, .alm, .cmp, .eng, .ops, .fes, .hg, .dmc, .ras, .mgmt, .out, .freeCtr]
  | .maintGrantRequest _ _ _ | .maintPark _ | .maintResume _ =>
    [.reg, .ras]
  | .raiseMinsvn | .revokeKey _ =>
    [.fuse, .reg, .sec]
  | .fuseWriteDone | .zeroiseDone _ =>
    [.reg, .sec]
  | .kcmdKeygen _ | .kcmdZeroise _ | .kcmdZeroiseAll =>
    [.reg, .north, .south, .sec]
  | .bindWrite _ _ _ =>
    [.sec]
  | .keyExchange _ | .finish _ _ | .endSession _ _ | .keyUpdate _ _ =>
    [.sec, .out]
  | .spdmLoad _ _ _ _ _ _ | .spdmKeygen _ _ _ _ | .spdmZeroise _ _ _ _ | .spdmZeroiseAll _ _ _ =>
    [.north, .south, .sec, .out, .freeCtr]
  | .debugUnlock _ _ _ =>
    [.fuse, .reg, .north, .south, .bridge, .ports, .lds, .tags, .quarantine, .tier, .alm, .cmp, .rings, .eng, .ops,
    .jobs, .grains, .fes, .xjobs, .dups, .shr, .hg, .dmc, .cst, .ras, .sec, .mgmt, .out, .acc, .freeCtr]
  | .updateBegin | .updateCommit | .updateAbandon =>
    [.reg, .upd]
  | .updateChunk _ =>
    [.flash, .reg, .upd]
  | .updateVerify =>
    [.flash, .reg, .north, .south, .sec, .upd, .out]
  | .updateCommitDone =>
    [.flash, .reg, .north, .south, .upd]
  | .bistFe _ | .bistTc _ | .bistRank _ | .bistPort _ | .bistDone _ _ =>
    [.reg, .fes, .tcs, .ras, .upd]
  | .governorPlan _ _ =>
    [.reg, .pwm]
  | .sensorSample _ =>
    [.pins, .reg, .pwm, .mgmt]
  | .thermalCapStep =>
    [.pwm]
  | .standbyEnter =>
    [.reg, .ports, .fes, .cst, .ras, .pwm]
  | .standbyExit _ =>
    [.reg, .ports, .dmc, .ras, .pwm]
  | .watchdogExpire _ =>
    [.reg, .north, .south, .lds, .tags, .eng, .ras, .sec, .upd, .out]
  | .tokenReceived _ =>
    [.reg, .north, .south, .lds, .tags, .eng, .ras, .out]
  | .tokenLinkTimeout _ | .coreRestartDone _ =>
    [.reg, .north, .south, .bridge, .lds, .tags, .eng, .ras, .out]
  | .tokenLinkReturn =>
    [.north, .south]
  | .stewardRegisterAccess _ _ _ _ _ _ =>
    [.fuse, .flash, .reg, .north, .south, .bridge, .lds, .tags, .wtt, .wttData, .flip, .tier, .alm, .cmp, .eng,
    .ops, .jobs, .grains, .nextGrain, .pslots, .fes, .tcs, .xjobs, .dups, .shr, .hg, .dmc, .cst, .ras, .sec, .upd,
    .mgmt, .out, .acc, .freeCtr]
  | .mctpControl _ _ =>
    [.mgmt, .out, .freeCtr]
  | .identify _ | .backgroundOperationStatus _ | .getSupportedLogs _ | .getLog _ _ _ | .tunnelManagement _ _ _
  | .getMultiHeadedInfo _ | .getHeadInfo _ _ | .getDcdInfo _ | .identifyMemoryDevice _ | .getHealthInfo _ =>
    [.out, .freeCtr]
  | .setResponseMessageLimit _ _ =>
    [.mgmt, .out]
  | .clearEventRecords _ _ _ | .setEventInterruptPolicy _ _ | .setTimestamp _ _ =>
    [.lds, .mgmt, .out]
  | .sendLdMemoryRequest _ _ _ _ _ =>
    [.reg, .lds, .tags, .alm, .rings, .eng, .hg, .out, .freeCtr]
  | .i3cDynamicAddressAssignment _ =>
    [.mgmt]

end Sys2Proof.Safety
end

