-- ==== Sys2Proof/Certificates/Slice0/Obligations.lean ====
section
/-! DEFINITION. The statements for the provers, one definition each; the docstring says what it states and the rules of spec/ it
rests on. -/

open Sys2Proof Sys2Proof.Machine Sys2Proof.Safety

/-- A step takes the command at the front of the queue and is exec of it with the queue's rest (the block's form of "a step
runs the decoded instruction"; log 26). -/
def Obligations.StepRunsTheFrontCommand : Prop :=
  ∀ (c : Instr) (r : List Instr) (s : State), s.pending = c :: r → step s = exec c { s with pending := r }

/-- The model's choice for an empty queue (logs 1, 26, 36): the idle block lets one microsecond of the module-wide count of
R306 pass, sends nothing, and changes besides the clock at most the stage of each half, with its time (R406, step 5), and,
where a release of orphans runs in the background (R295), ends it: entries that are ORPHANED may leave the directory, no
other does, and BUSY of SHR_CSTAT clears. -/
def Obligations.IdleStepCountsAMicrosecond : Prop :=
  ∀ s : State, s.pending = [] → ∃ t, step s = .next t ∧ t.clk = { s.clk with us := s.clk.us + 1 } ∧
    t = { s with clk := t.clk, north := t.north, south := t.south, shr := t.shr, reg := t.reg } ∧
    (∀ h, t.half h = { s.half h with stage := (t.half h).stage, stageMs := (t.half h).stageMs }) ∧
    (s.shr.relCmd = none → t.shr = s.shr ∧ t.reg = s.reg) ∧
    (s.shr.relCmd.isSome = true → t.shr = { s.shr with dir := t.shr.dir, relCmd := none } ∧ bit 31 (t.stw Reg.SHR_CSTAT) = false ∧
      (∀ e, e ∈ t.shr.dir → e ∈ s.shr.dir) ∧ (∀ e, e ∈ s.shr.dir → e.2.st ≠ .orphaned → e ∈ t.shr.dir))

/-- What a module reset leaves, where the spec gives the value: every register at its reset value (R441), every port in
RESET (Table PRT-5), rings DISABLED (Table DSC-2), no plot assigned (Table TIR-7), key slots EMPTY (Table SEC-8), no
request, read, snoop or update under way and no operation, job or grain, the module log empty (R374), both halves in RESET
and the stewardship of Table PWM-14. -/
def Obligations.ResetLeavesTheStatedValues : Prop :=
  (∀ t off, State.reset.bar t off = barReset off) ∧ (∀ off, State.reset.stw off = stwReset off) ∧
  (∀ p, (State.reset.port p).st = .reset) ∧ (∀ t r, (State.reset.ring t r).st = .disabled) ∧
  (∀ p, State.reset.plot p = none) ∧ (∀ k, (State.reset.key k).st = .empty) ∧
  State.reset.pending = [] ∧ State.reset.ops = [] ∧ State.reset.jobs = [] ∧ State.reset.grains = [] ∧
  Quiet State.reset ∧ State.reset.quarantine = [] ∧ State.reset.ras.log = [] ∧
  State.reset.north.role = .steward ∧ State.reset.south.role = .deputy ∧
  State.reset.north.stage = .reset ∧ State.reset.south.stage = .reset

/-- The stores of bytes and the module log have their canonical form and bound right after reset. -/
def Obligations.ResetIsCanonical : Prop :=
 Canonical State.reset

/-- Every step keeps the canonical form of every store of bytes (near, coded and escape bytes of the tiers, Cistern, flash,
the update's buffer) and the bound of 65,536 records of the module log (R374). -/
def Obligations.EveryStepKeepsCanonicalStores : Prop :=
  ∀ s t : State, Canonical s → step s = .next t → Canonical t

/-- No command lowers MINSVN, clears a revocation, lowers the unlock count or changes the debug fuses (R391, R404). -/
def Obligations.NoCommandTakesFusesBack : Prop :=
  ∀ (c : Instr) (s t : State), exec c s = .next t → s.fuse.minSvn.toNat ≤ t.fuse.minSvn.toNat ∧
    (∀ i, s.fuse.kRevoke.getLsbD i = true → t.fuse.kRevoke.getLsbD i = true) ∧ s.fuse.uCount ≤ t.fuse.uCount ∧
    t.fuse.dbgLock = s.fuse.dbgLock ∧ t.fuse.dbgKill = s.fuse.dbgKill ∧ t.fuse.dfltSouth = s.fuse.dfltSouth

/-- A command leaves the waiting commands alone, takes back nothing that was sent, and only uses free values up. -/
def Obligations.ExecLeavesQueueAndSentMessages : Prop :=
  ∀ (c : Instr) (s t : State), exec c s = .next t → t.pending = s.pending ∧ s.out <+: t.out ∧ s.freeCtr ≤ t.freeCtr

/-- Every well-formed command is executed, in every state: it answers a next state, never a fault or a refusal. -/
def Obligations.EveryWellFormedCommandIsExecuted : Prop :=
  ∀ (c : Instr) (s : State), c.wf = true → Completes c s

/-- R10: the home half of an address is the parity of its plot number, the exclusive-OR of the bits UA[51:16]: South where
an odd number of them is 1, North else. -/
def Obligations.HomeHalfIsTheParityOfThePlotNumber : Prop :=
  ∀ ua : Nat, ua < 2 ^ 52 → homeHalf (plotOf ua) =
    (if ((List.range 36).filter (fun k => ua.testBit (16 + k))).length % 2 = 1 then .south else .north)

/-- R54: a completion of a read that has ended with TIMEOUT, whose tag is in quarantine, is discarded: it adds 1 to
PRT_CPL.UNEXP_CPL, records an Unexpected Completion in AER and changes nothing else, whatever data it carries; so does one
whose tag matches no outstanding request. -/
def Obligations.UnexpectedCompletionsAreDiscardedAndCounted : Prop :=
  (∀ (g n : Nat) (b : List Byte) (poison : Bool) (x : Cpl) (s : State), s.tagOf g = none → s.lateTag g = some n →
    ∀ c ∈ [Instr.farReadCompletion g b poison, .farDmaErrorCompletion g, .descriptorFetchCompletion g x],
      exec c s = .next (s.unexpected n)) ∧
  (∀ (u : Tenant) (g : Nat) (s : State), s.tags.any (fun x => x.tag = g && x.tenant = u.toNat) = false →
    exec (.unexpectedCompletion u g) s = .next (s.unexpected u.toNat)) ∧
  (∀ (n : Nat) (s : State), bits 31 16 ((s.unexpected n).bar n Reg.PRT_CPL) = min 0xFFFF (bits 31 16 (s.bar n Reg.PRT_CPL) + 1) ∧
    bits 15 0 ((s.unexpected n).bar n Reg.PRT_CPL) = bits 15 0 (s.bar n Reg.PRT_CPL) ∧
    (s.unexpected n).ld n = { s.ld n with aerUnexp := true } ∧ (∀ m, m ≠ n → (s.unexpected n).ld m = s.ld m) ∧
    (∀ m off, 65536 * m + off ≠ 65536 * n + Reg.PRT_CPL → (s.unexpected n).bar m off = s.bar m off) ∧
    s.unexpected n = { s with reg := (s.unexpected n).reg, lds := (s.unexpected n).lds })

/-- R331: a read that its controller has not returned ends with TIMEOUT: a host's read is answered with poison and TIMEOUT,
a unit's is told so, and the read is counted in DMC_TO.TIMEOUTS of the half; a later return of it is discarded, changes
nothing but the list of reads, and is counted in DMC_TO.LATE; its data is never used. -/
def Obligations.LateTierReadsEndOnce : Prop :=
  (∀ (i : Nat) (r : TierRead) (s : State), s.dmc.reads.find? (fun x => x.id = i) = some r → r.timedOut = false →
    Yields (.tierReadTimeout i) s (fun t =>
      t.dmc.reads = mapIf (fun x => decide (x.id = i)) (fun x => { x with timedOut := true }) s.dmc.reads ∧
      bits 31 16 (t.stw (Reg.DMC_TO + 4 * halfIdx (chanHalf r.chan))) =
        min 0xFFFF (bits 31 16 (s.stw (Reg.DMC_TO + 4 * halfIdx (chanHalf r.chan))) + 1) ∧
      (∀ q, r.src = .host q → q.op = .rd → ∃ d, t.out.getLast? = some (.memPoison q.tenant .timeout d)) ∧
      (∀ w l u c st, r.src = .unit w l u c st → t.dmc.ended = s.dmc.ended ++ [(w, l)]) ∧
      t.tier = s.tier ∧ t.ops = s.ops)) ∧
  (∀ (i : Nat) (md : Media) (r : TierRead) (s : State), s.dmc.reads.find? (fun x => x.id = i) = some r → r.timedOut = true →
    exec (.tierReadTimeout i) s = .next s ∧ exec (.tierReadReturn i md) s = .next s ∧
    exec (.tierReadLateReturn i) s =
      .next ((s.modDmc (fun d => { d with reads := d.reads.filter (fun x => x.id ≠ i) })).cntStw
        (Reg.DMC_TO + 4 * halfIdx (chanHalf r.chan)) 15 0 1)) ∧
  (∀ (i : Nat) (s : State), (s.dmc.reads.find? (fun x => x.id = i) = none ∨
      (∃ r, s.dmc.reads.find? (fun x => x.id = i) = some r ∧ r.timedOut = false)) → exec (.tierReadLateReturn i) s = .next s)

/-- R168: a scale byte e from 0x00 to 0xFE multiplies a finite element by 2^(e − 127), keeping its sign, and leaves every
other element as it is; the byte 0xFF is NaN. -/
def Obligations.ScaleBytesArePowersOfTwo : Prop :=
  (∀ (code w e m : Nat) (n : Bool) (x : Int), e ≤ 0xFE → decElem code true w = .fin n m x →
    decScaled code (some e) w = toF32 (.fin n m (x + ((e : Int) - 127)))) ∧
  (∀ code w e : Nat, e ≤ 0xFE → (decElem code true w).isFin = false → decScaled code (some e) w = toF32 (decElem code true w)) ∧
  (∀ code w : Nat, decScaled code (some 0xFF) w = 0x7FC00000#32)

/-- R396: SPDM is served by the steward; a request at an endpoint of a half that cannot reach the steward, and one that
arrives during a stewardship conflict, is answered with Busy and changes nothing. -/
def Obligations.SpdmIsServedByTheStewardOnly : Prop :=
  (∀ (e : Endpoint) (c : Instr) (n : Nat) (sl : BitVec 4) (i k : Byte) (x y : W256) (b q : Bool) (l : List Byte) (p : PortId) (s : State),
    c ∈ [Instr.getVersion e, .getCapabilities e, .negotiateAlgorithms e, .getDigests e, .getCertificate e sl, .challenge e x,
        .getMeasurements e i b, .keyExchange e, .finish e n, .endSession e n, .heartbeat e n, .keyUpdate e n, .debugUnlock e n l,
        .spdmLoad e n k q x y, .spdmKeygen e n k q, .spdmZeroise e n k q,
        .spdmZeroiseAll e n q] ∨
      (e = s.ideEp p ∧ c ∈ [Instr.keyProg p n b, .kSetGo p n b, .kSetStop p n b]) →
    s.reachable e = true → (∀ p, e ≠ .mailbox p) → s.reachesSteward e = false ∨ s.conflict = true →
    exec c s = .next (s.emit (.spdmBusy e))) ∧
  (∀ (e : Endpoint) (s : State), s.spdmServed e = true → ∃ h, s.stewardHalf = some h ∧ s.inFirmware h = true) ∧
  (∀ (e : Endpoint) (g h : Half) (s : State), epHalf e = some g → s.stewardHalf = some h →
    (s.reachesSteward e = false ↔ g ≠ h ∧ s.split = true)) ∧
  (∀ (e : Endpoint) (s : State), s.stewardHalf = none → s.reachesSteward e = false)

/-- R385: an activity that has been parked longer than RAS_MACFG.DEFEV logs one long-deferral record, none where DEFEV is 0;
a temperature rise that shortens the refresh interval takes effect without asking the arbiter. -/
def Obligations.LongDeferralsAreLoggedOnce : Prop :=
  (∀ (a : Activity) (s : State), s.ras.acts.find? (fun x => x.id = a.id) = some a →
    (a.granted = false → a.won = false → a.longLogged = false → s.stwF Reg.RAS_MACFG 15 0 ≠ 0 →
      exec (.longDeferral a.id) s = .next ((s.modAct a.id (fun a => { a with longLogged := true })).logRec
        { typ := 0x13, sev := 1, unit := unitNo 11 a.code, loc := a.unit, aux0 := a.code, aux1 := s.stwF Reg.RAS_MACFG 15 0 }) ∧
      ∃ x, (s.modAct a.id (fun a => { a with longLogged := true })).ras.acts.find? (fun x => x.id = a.id) = some x ∧ x.longLogged = true) ∧
    (a.longLogged = true → exec (.longDeferral a.id) s = .next s) ∧
    (s.stwF Reg.RAS_MACFG 15 0 = 0 → exec (.longDeferral a.id) s = .next s)) ∧
  (∀ (ch : Nat) (r : BitVec 2) (s : State), ch < 264 → r ≠ 3#2 → (s.chan ch).refRate.toNat < r.toNat →
    Yields (.temperaturePoll ch r) s (fun t => (t.chan ch).refRate = r ∧
      ∀ a ∈ t.ras.acts, ∃ b ∈ s.ras.acts, b.id = a.id ∧ b.code = a.code ∧ b.scope = a.scope))

/-- What an accepted command changes outside its own parts: nothing (the frame of every row; Part and mayChange are in
Safety.lean, log 26). -/
def Obligations.EachCommandChangesOnlyItsParts : Prop :=
  ∀ (c : Instr) (s t : State), exec c s = .next t → ∀ p, p ∉ mayChange c → p.same s t

/-- Register writes (R7, R8, R439, R440). A steward-space register that its table alone describes takes a write by its
access types: RW bits take the value, W1C bits written 1 clear, W1S bits written 1 set, and a W1C bit that the module sets
in the same cycle ends set; so does a BAR0 register. A write of a BAR0 offset that no table lists is counted in
REG_ACCERR.UNMAPPED of the tenant and changes nothing else. An 8-byte write acts as two 4-byte writes, the lower first.
While a logical device drains its BAR0 writes are ignored but for what the module itself sets, a doorbell write is refused
and counted, and its BAR0 reads are served with their side effects. A steward register with an effect of its own takes that
effect (stwOwn), a steward offset that no table lists is counted, and BAR2's mailbox registers hold what is written there
while the rest of BAR2 holds nothing. -/
def Obligations.RegisterWritesActByAccessType : Prop :=
  (∀ (t : Tenant) (off : BitVec 24) (v : W32) (u : W64) (s : State), s.draining t.toNat = true →
    (off.toNat ≠ Reg.DSC_DB → exec (.registerWrite (.bar0 t) off v ⟨none, u⟩) s = .next (s.w1cBar t.toNat off.toNat (u.setWidth 32))) ∧
    (off.toNat = Reg.DSC_DB → exec (.registerWrite (.bar0 t) off v ⟨none, u⟩) s =
      .next ((s.cntBar t.toNat Reg.PRT_FLR 31 16 1).modLd t.toNat (fun l => { l with drainRefused := l.drainRefused + 1 })))) ∧
  (∀ (t : Tenant) (off : BitVec 24) (u : W64) (s : State), s.draining t.toNat = true → s.inRecovery t.toNat = false →
    exec (.readClear (.bar0 t) off false u) s =
      .next (((s.barCleared t.toNat off.toNat (u.setWidth 32)).tickFree).emit (.regData [s.barValue t.toNat off.toNat]))) ∧
  (∀ (off : BitVec 24) (v : W32) (u : W64) (r : RegRow) (s : State), s.romServes = false → stwRow off.toNat = some r →
    off.toNat ≠ Reg.PRT_BOND → s.stwOwn off.toNat v = none →
    Yields (.registerWrite .steward off v ⟨none, u⟩) s (fun t =>
      t.stw off.toNat = (r.write (s.stw off.toNat) v ||| (u.setWidth 32 &&& r.w1c)) ∧
      (∀ o, o ≠ off.toNat → t.stw o = s.stw o) ∧ t = { s with reg := t.reg })) ∧
  (∀ (t : Tenant) (off : BitVec 24) (v : W32) (u : W64) (r : RegRow) (s : State), s.draining t.toNat = false →
    s.inRecovery t.toNat = false → 0x3008 ≤ off.toNat → off.toNat < 0xC000 → barRow off.toNat = some r →
    off.toNat ≠ Reg.ALM_MARK → off.toNat ≠ Reg.HGT_UIB → off.toNat ≠ Reg.FMT_CTL →
    Yields (.registerWrite (.bar0 t) off v ⟨none, u⟩) s (fun z =>
      z.bar t.toNat off.toNat = (r.write (s.bar t.toNat off.toNat) v ||| (u.setWidth 32 &&& r.w1c)) ∧ z = { s with reg := z.reg })) ∧
  (∀ (t : Tenant) (off : BitVec 24) (v : W32) (u : W64) (s : State), s.draining t.toNat = false → s.inRecovery t.toNat = false →
    inMsixTable off.toNat = false → inMsixPba off.toNat = false → inComponent off.toNat = false → barRow off.toNat = none →
    exec (.registerWrite (.bar0 t) off v ⟨none, u⟩) s = .next (s.cntBar t.toNat Reg.REG_ACCERR 15 0 1)) ∧
  (∀ (off : BitVec 24) (v : W32) (u : W64) (r : RegRow) (s z : State), s.romServes = false → off.toNat ≠ Reg.PRT_BOND →
    stwRow off.toNat = some r → s.stwOwn off.toNat v = some z →
    exec (.registerWrite .steward off v ⟨none, u⟩) s = .next (z.w1cStw off.toNat (u.setWidth 32))) ∧
  (∀ (off : BitVec 24) (v : W32) (u : W64) (s : State), s.romServes = false → off.toNat ≠ Reg.PRT_BOND → stwRow off.toNat = none →
    exec (.registerWrite .steward off v ⟨none, u⟩) s = .next (if stwIdent off.toNat then s else s.cntStw Reg.REG_ACCERR 15 0 1)) ∧
  (∀ (t : Tenant) (off : BitVec 24) (v : W32) (u : W64) (s : State),
    (mailboxRw off.toNat = false → exec (.registerWrite (.bar2 t) off v ⟨none, u⟩) s = .next s) ∧
    (mailboxRw off.toNat = true → Yields (.registerWrite (.bar2 t) off v ⟨none, u⟩) s (fun z =>
      tget 0#32 (65536 * t.toNat + off.toNat) z.reg.bar2 = v ∧
      (∀ k, k ≠ 65536 * t.toNat + off.toNat → tget 0#32 k z.reg.bar2 = tget 0#32 k s.reg.bar2) ∧
      z = { s with reg := { s.reg with bar2 := z.reg.bar2 } }))) ∧
  (∀ (sp : RegSpace) (off : BitVec 24) (v w : W32) (u : W64) (s t : State), off.toNat + 4 < 2 ^ 24 →
    exec (.registerWrite sp off v ⟨none, u⟩) s = .next t →
    exec (.registerWrite sp off v ⟨some w, u⟩) s = exec (.registerWrite sp (off + 4#24) w ⟨none, u >>> 32⟩) t)

/-- A read answers the value before the update of the same cycle; the RC bits of the register then take their reset value
with the update on top (R8). R438: every register lies at a multiple of 4, a BAR0 access is served only where it is 4 or 8
bytes and aligned, or reaches an MSI-X structure, and any other is counted, its write ignored and its read zero. R443: a
steward access ignores OFFSET[1:0] and counts a non-zero value; beyond 0xFF_FFFC registers read zero and ignore writes. In
recovery the counter is not served, and a bad write of a draining device is ignored uncounted; an access that is served is
no bad one. An 8-byte read reads two words, the lower first. Registers reached by management (R405, R432, R433, R443): a
steward access over the FM mailbox, VDM or I3C that is served and allowed reads its registers, or writes one of its data to
each, in order, and answers OK with what it read; one that is refused answers the first status of R433 that applies, and of
POISON_CONSUMED zeros for what it would have read; at a logical device's mailbox it is Unsupported, and where nothing serves
it is not answered. A Send LD CXL.io Memory Request reads or writes one BAR0 register of a logical device of the head, one
that is not aligned is a bad access there, and one at no such device or beyond BAR0 is Unsupported. -/
def Obligations.RegisterReadsAndManagementAccesses : Prop :=
  (∀ (off : BitVec 24) (u : W64) (r : RegRow) (s : State), s.romServes = false → stwRow off.toNat = some r →
    off.toNat ≠ Reg.CMP_TERR0 → off.toNat ≠ Reg.CMP_TERR1 →
    Yields (.readClear .steward off false u) s (fun t => t.out = s.out ++ [.regData [s.stwValue off.toNat]] ∧
      t.stw off.toNat = (if r.rc = 0#32 then s.stw off.toNat
        else (s.stw off.toNat &&& ~~~r.rc) ||| (r.reset &&& r.rc) ||| (u.setWidth 32 &&& r.rc)) ∧
      t = { s with reg := t.reg, out := t.out, freeCtr := s.freeCtr + 1 })) ∧
  (∀ (off n : Nat), accessGood off n = true ↔
    (n = 4 ∧ off % 4 = 0) ∨ (n = 8 ∧ off % 8 = 0) ∨ inMsixTable off = true ∨ inMsixPba off = true) ∧
  (∀ (off : Nat), (barRow off).isSome = true ∨ (stwRow off).isSome = true → off % 4 = 0) ∧
  (∀ (t : Tenant) (off : W16) (n : Nat) (s : State), accessGood off.toNat n = false → s.inRecovery t.toNat = false →
    exec (.bar0BadAccess t off n false) s = .next ((s.cntBar t.toNat Reg.REG_ACCERR 31 16 1).emit
      (.regData (List.replicate (max 1 (ceilDiv n 4)) 0#32))) ∧
    (s.draining t.toNat = false → exec (.bar0BadAccess t off n true) s = .next (s.cntBar t.toNat Reg.REG_ACCERR 31 16 1))) ∧
  (∀ (t : Tenant) (off : W16) (n : Nat) (s : State),
    (∀ w, accessGood off.toNat n = true → exec (.bar0BadAccess t off n w) s = .next s) ∧
    (accessGood off.toNat n = false → s.inRecovery t.toNat = true ∨ s.draining t.toNat = true → exec (.bar0BadAccess t off n true) s = .next s) ∧
    (accessGood off.toNat n = false → s.inRecovery t.toNat = true → exec (.bar0BadAccess t off n false) s =
      .next (s.emit (.regData (List.replicate (max 1 (ceilDiv n 4)) 0#32))))) ∧
  (∀ (sp : RegSpace) (off : BitVec 24) (u : W64) (a b : W32 × State) (s : State), s.readReg sp off.toNat (u.setWidth 32) = a →
    a.2.readReg sp (off.toNat + 4) ((u >>> 32).setWidth 32) = b →
    exec (.readClear sp off false u) s = .next (a.2.emit (.regData [a.1])) ∧
    exec (.readClear sp off true u) s = .next (b.2.emit (.regData [a.1, b.1]))) ∧
  (∀ (e : Endpoint) (q : Option Nat) (off : BitVec 24) (w : Bool) (n : Nat) (d : List W32) (s : State), s.stwServed e = true →
    (∀ t, e ≠ .doe t) → s.accessStatus e q w (accessOffs off.toNat n) = .ok → off.toNat % 4 ≠ 0 →
    exec (.stewardRegisterAccess e q off w n d) s =
      exec (.stewardRegisterAccess e q (off &&& 0xFFFFFC#24) w n d) (s.cntStw Reg.REG_ACCERR 31 16 1)) ∧
  (∀ (e : Endpoint) (q : Option Nat) (off : Nat) (v : W32) (s : State), 0x1000000 ≤ off → s.accessWrite e q off v = s ∧
    s.accessRead [off] = ([0#32], s)) ∧
  (∀ (e : Endpoint) (q : Option Nat) (off : BitVec 24) (n : Nat) (d : List W32) (s : State), s.stwServed e = true →
    (∀ t, e ≠ .doe t) → off.toNat % 4 = 0 →
    (s.accessStatus e q false (accessOffs off.toNat n) = .ok →
      exec (.stewardRegisterAccess e q off false n d) s =
        .next ((s.accessRead (accessOffs off.toNat n)).2.mgmtOk e (s.accessRead (accessOffs off.toNat n)).1)) ∧
    (s.accessStatus e q true (accessOffs off.toNat n) = .ok →
      exec (.stewardRegisterAccess e q off true n d) s =
        .next ((forAll ((accessOffs off.toNat n).zip d) (fun x s => s.accessWrite e q x.1 x.2) s).mgmtOk e []))) ∧
  (∀ (off : Nat) (v : W32) (e : Endpoint) (q : Option Nat) (s : State), off < 0x1000000 →
    s.accessRead [off] = ([(s.readStw off 0#32).1], (s.readStw off 0#32).2) ∧
    (off ≠ Reg.SEC_MGMT ∨ bit 31 v = false → s.accessWrite e q off v = s.writeStw off v)) ∧
  (∀ (e : Endpoint) (q : Option Nat) (off : BitVec 24) (w : Bool) (n : Nat) (d : List W32) (s : State),
    (s.stwServed e = false → exec (.stewardRegisterAccess e q off w n d) s = .next s) ∧
    (∀ t, e = .doe t → s.stwServed e = true → exec (.stewardRegisterAccess e q off w n d) s = .next (s.mgmtNo e)) ∧
    (s.stwServed e = true → (∀ t, e ≠ .doe t) → s.accessStatus e q w (accessOffs off.toNat n) ≠ .ok →
      exec (.stewardRegisterAccess e q off w n d) s = .next (s.emit (.mgmt e (s.accessStatus e q w (accessOffs off.toNat n))
        (if s.accessStatus e q w (accessOffs off.toNat n) = .poisonConsumed ∧ w = false then
          (accessOffs off.toNat n).map (fun _ => 0#32) else []))))) ∧
  (∀ (e : Endpoint) (q : Option Nat) (w : Bool) (l : List Nat) (s : State),
    (s.sec.bound.isSome = true → s.inBound e q = false → s.accessStatus e q w l = .permission) ∧
    (s.sec.bound = none ∨ s.inBound e q = true → w = true → s.conflict = true ∨ s.stewardHalf = none →
      s.accessStatus e q w l = .stewardConflict)) ∧
  (∀ (e : Endpoint) (p : Nat) (ld : BitVec 4) (off : BitVec 24) (v : W32) (s : State), s.mgmtServed e = true →
    s.epHead e = some p →
    ((s.headLds p).contains (ldOf p ld) = true → off.toNat < 0x10000 → off.toNat % 4 = 0 →
      exec (.sendLdMemoryRequest e ld true off v) s =
        .next ((s.writeBar (BitVec.ofNat 8 (ldOf p ld)) off.toNat v).mgmtOk e []) ∧
      exec (.sendLdMemoryRequest e ld false off v) s =
        .next ((s.readBar (ldOf p ld) off.toNat 0#32).2.mgmtOk e [(s.readBar (ldOf p ld) off.toNat 0#32).1])) ∧
    (∀ (w : Bool) (u : State), (s.headLds p).contains (ldOf p ld) = true → off.toNat < 0x10000 → off.toNat % 4 ≠ 0 →
      exec (.bar0BadAccess (BitVec.ofNat 8 (ldOf p ld)) (BitVec.ofNat 16 off.toNat) 4 w) s = .next u →
      exec (.sendLdMemoryRequest e ld w off v) s = .next (u.mgmtOk e (if w then [] else [0#32]))) ∧
    (∀ w, (s.headLds p).contains (ldOf p ld) = false ∨ 0x10000 ≤ off.toNat →
      exec (.sendLdMemoryRequest e ld w off v) s = .next (s.mgmtNo e))) ∧
  (∀ (e : Endpoint) (ld : BitVec 4) (w : Bool) (off : BitVec 24) (v : W32) (s : State), s.mgmtServed e = false →
    exec (.sendLdMemoryRequest e ld w off v) s = .next s)

/-- Module resets and the power input (R42, R441, R455, R456): each cause of a module reset leaves the fuses and the flash,
of which it cuts a commit under way, brings every register to its reset value and every other state to what follows bring-up
from nothing, and keeps the cause on its pin; VIN that returns brings the rails on, which count as good only while VIN is in
range; the trip holds until its release. Bring-up (R323, R406, R407, R412, R415): the trigger, with VIN, the rails and no
trip and both halves in RESET, starts both ROMs and measures the security state; a half in the ROM or in recovery checks the
image, goes to VERIFY where it is good, and counts the failure with its cause and goes to recovery where it is not; it
enters DRAMINIT once both halves report one digest over the bridge or, without a bridge, after its wait, and takes there
what the image's memory configuration block gives; firmware starts after the DRAM stages and runs with the image's security
version and key; a function that may start sets its readiness bit. At any other stage each of these events changes nothing,
and neither does a mesh link failure. -/
def Obligations.ResetsPowerAndBringUp : Prop :=
  (∀ (c : Instr) (s : State), c = .moduleReset true ∨ c = .moduleReset false ∨ c = .vinOutOfRange ∨ c = .railOutOfLimits ∨
      c = .thermalTrip →
    Yields c s (fun t => t.fuse = s.fuse ∧ t.flash = s.cutCommit.flash ∧ (s.upd.st ≠ .committing → t.flash = s.flash) ∧
      (∀ u off, t.bar u off = barReset off) ∧ (∀ off, t.stw off = stwReset off) ∧
      t = { State.afterReset t.pins s.fuse t.flash with
        sec := { nonceNo := s.sec.drbgNo, drbgNo := s.sec.drbgNo + 1 }, freeCtr := s.cutCommit.freeCtr, out := s.out,
        pending := s.pending })) ∧
  (∀ s : State, Yields (.moduleReset true) s (fun t => t.pins.resetN = true) ∧
    Yields (.moduleReset false) s (fun t => t.pins.pwrGood = false) ∧
    Yields .vinOutOfRange s (fun t => t.pins.vinOk = false ∧ t.pins.railsGood = false) ∧
    Yields .railOutOfLimits s (fun t => t.pins.railsGood = false) ∧
    Yields .thermalTrip s (fun t => t.pins.trip = true ∧ t.pins.thermN = true)) ∧
  (∀ s : State, exec .vinRestored s = .next { s with pins := { s.pins with vinOk := true } }) ∧
  (∀ s : State, (s.pins.vinOk = true → exec .railsGood s = .next { s with pins := { s.pins with railsGood := true } }) ∧
    (s.pins.vinOk = false → exec .railsGood s = .next s)) ∧
  (∀ s : State, s.pins.trip = true →
    exec .tripRelease s = .next { s with pins := { s.pins with trip := false, thermN := false } }) ∧
  (∀ s : State, s.pins.trip = false → exec .tripRelease s = .next s) ∧
  (∀ (b : Bool) (s : State), s.pins.vinOk = true → s.pins.railsGood = true → s.pins.trip = false →
    s.north.stage = .reset → s.south.stage = .reset →
    Yields (.bringupTrigger b) s (fun t => t.north.stage = .rom ∧ t.south.stage = .rom ∧ t.bridge.up = b ∧
      t.pins.resetN = false ∧ t.sec.measured = s.secStat)) ∧
  (∀ (b : Bool) (s : State), s.pins.vinOk = false ∨ s.pins.railsGood = false ∨ s.pins.trip = true ∨ s.north.stage ≠ .reset ∨
    s.south.stage ≠ .reset → exec (.bringupTrigger b) s = .next s) ∧
  (∀ (h : Half) (s : State),
    ((s.half h).stage = .verify ∨
      ((s.half h).stage = .rom ∧ s.imageErr s.flash.img 62914560 s.flash.mixed = 0) → ∀ d,
      d = (if (s.half h).stage = .rom then some (imgDigest s.flash.img) else (s.half h).passed) →
      (s.bridge.up = true → d.isSome = true → d = (s.half (halfOther h)).passed →
        Yields (.verifySync h) s (fun t => (t.half h).stage = .dramInit ∧ t.half (halfOther h) = s.half (halfOther h) ∧
          t.stw Reg.DMC_MAP = ((Config.memConfig (imgOf s.flash.img [5]) &&& 0x303#32) |||
            at32 4 (bits 5 4 (Config.memConfig (imgOf s.flash.img [5])) % 3)))) ∧
      (s.bridge.up = false ∨ d = none ∨ d ≠ (s.half (halfOther h)).passed →
        Yields (.verifySync h) s (fun t => (t.half h).stage = .verify ∧ (t.half h).passed = d ∧
          t.half (halfOther h) = s.half (halfOther h))) ∧
      (s.bridge.up = false →
        Yields (.verifyWaitTimeout h) s (fun t => (t.half h).stage = .dramInit ∧ t.half (halfOther h) = s.half (halfOther h))) ∧
      (s.bridge.up = true →
        Yields (.verifyWaitTimeout h) s (fun t => (t.half h).stage = .verify ∧ (t.half h).passed = d ∧
          t.half (halfOther h) = s.half (halfOther h)))) ∧
    ((s.half h).stage ≠ .rom → (s.half h).stage ≠ .verify →
      exec (.verifySync h) s = .next s ∧ exec (.verifyWaitTimeout h) s = .next s) ∧
    ((s.half h).stage ≠ .recovery → exec (.recoveryRetry h) s = .next s)) ∧
  (∀ (h : Half) (c : Instr) (s : State), ((s.half h).stage = .rom ∧ (c = .verifySync h ∨ c = .verifyWaitTimeout h)) ∨
      ((s.half h).stage = .recovery ∧ c = .recoveryRetry h) → s.imageErr s.flash.img 62914560 s.flash.mixed ≠ 0 →
    Yields c s (fun t => (t.half h).stage = .recovery ∧ (t.half h).nFail = min 0xFF ((s.half h).nFail + 1) ∧
      (t.half h).lastErr = s.imageErr s.flash.img 62914560 s.flash.mixed)) ∧
  (∀ (h : Half) (s : State), (s.half h).stage = .recovery → s.imageErr s.flash.img 62914560 s.flash.mixed = 0 →
    Yields (.recoveryRetry h) s (fun t => (t.half h).stage = .verify ∧ (t.half h).passed = some (imgDigest s.flash.img))) ∧
  (∀ (h : Half) (s : State),
    ((s.half h).stage = .dramInit ∨ (s.half h).stage = .fill →
      Yields (.firmwareStart h) s (fun t => (t.half h).stage = .firmware ∧ bit (fnBit .fw) (t.half h).ready = true ∧
        (t.half h).runSvn = BitVec.ofNat 6 (imgLe s.flash.img 8 1) ∧ (t.half h).keyIdx = BitVec.ofNat 2 (imgLe s.flash.img 5 1))) ∧
    ((s.half h).stage ≠ .dramInit → (s.half h).stage ≠ .fill → exec (.firmwareStart h) s = .next s)) ∧
  (∀ (h : Half) (f : Fn) (s : State),
    (s.fnMayStart h f = true →
      Yields (.functionReady h f) s (fun t => t.half h = { s.half h with ready := setBit (fnBit f) true (s.half h).ready } ∧
        t.half (halfOther h) = s.half (halfOther h))) ∧
    (s.fnMayStart h f = false → exec (.functionReady h f) s = .next s)) ∧
  (∀ (h : Half) (s : State), exec (.meshLinkFailure h) s = .next s)

/-- Port states (Table PRT-5, R26, R27, R34, R35, R40, R55). PERST asserted takes TRAIN to RESET and UP to the drain of the
head, and in the other states only the pin changes; PERST deasserted starts training from RESET where the PHY is ready,
samples CLKSEL and, at the even port of a pair whose odd PERST is asserted, takes the pair's bonding from PRT_BOND; the odd
port of a bonded pair moves at neither. A port that goes up from TRAIN takes its width, rate and MLD, counts the link up,
and enumerates exactly the logical devices of its head, one for an SLD and sixteen for an MLD, each with the window size in
force recorded. A failed attempt is counted in PRT_PSTAT.TRAIN_FAILS, which saturates, and starts the backoff; its end
starts the next attempt. Recovery to L0 changes nothing, and neither does a link event in a state that has none. -/
def Obligations.PortsFollowTheirStates : Prop :=
  (∀ (p : PortId) (s : State), s.portUnused p.toNat = false → (s.port p.toNat).st = .train →
    Yields (.perstAssert p) s (fun t => t.port p.toNat = { s.port p.toNat with st := .reset, backoff := false } ∧
      t.perstOn p.toNat = true ∧ (∀ q, q ≠ p.toNat → t.port q = s.port q) ∧
      t = { s with pins := t.pins, ports := t.ports, out := s.out ++ [.link p.toNat false] })) ∧
  (∀ (p : PortId) (s : State), s.portUnused p.toNat = false → (s.port p.toNat).st = .up →
    Yields (.perstAssert p) s (fun t => (t.port p.toNat).st = .drain ∧ t.perstOn p.toNat = true ∧
      ∀ q, q ≠ p.toNat → t.port q = s.port q)) ∧
  (∀ (p : PortId) (s : State), s.portUnused p.toNat = true ∨ (s.port p.toNat).st = .reset ∨ (s.port p.toNat).st = .drain →
    Yields (.perstAssert p) s (fun t => t.perstOn p.toNat = true ∧ t = { s with pins := t.pins })) ∧
  (∀ (p : PortId) (b : Bool) (s : State), s.portUnused p.toNat = false → (s.port p.toNat).st = .reset →
    s.phyReady p.toNat = true →
    Yields (.perstDeassert p b) s (fun t => (t.port p.toNat).st = .train ∧ t.perstOn p.toNat = false ∧
      (t.port p.toNat).bonded = (if s.perstOn p.toNat && p.toNat % 2 = 0 && s.perstOn (p.toNat + 1)
        then bit (p.toNat / 2) (s.stw Reg.PRT_BOND) else (s.port p.toNat).bonded) ∧
      bit p.toNat t.pins.clkSel = b ∧ (∀ q, q ≠ p.toNat → t.port q = s.port q) ∧
      t = { s with pins := t.pins, ports := t.ports, out := s.out ++ [.link p.toNat true] })) ∧
  (∀ (p : PortId) (b : Bool) (s : State), s.portUnused p.toNat = true ∨ (s.port p.toNat).st ≠ .reset ∨ s.phyReady p.toNat = false →
    Yields (.perstDeassert p b) s (fun t => t.perstOn p.toNat = false ∧
      t.port p.toNat = { s.port p.toNat with
        bonded := if s.perstOn p.toNat && p.toNat % 2 = 0 && s.perstOn (p.toNat + 1) then bit (p.toNat / 2) (s.stw Reg.PRT_BOND)
          else (s.port p.toNat).bonded } ∧
      bit p.toNat t.pins.clkSel = (if s.portUnused p.toNat then bit p.toNat s.pins.clkSel else b) ∧
      (∀ q, q ≠ p.toNat → t.port q = s.port q) ∧ t = { s with pins := t.pins, ports := t.ports })) ∧
  (∀ (p : PortId) (w r : BitVec 3) (mld : Bool) (s : State), s.portUnused p.toNat = false →
    (s.port p.toNat).st = .train → (s.port p.toNat).backoff = false →
    Yields (.linkUp p w r mld) s (fun t => t.port p.toNat = { s.port p.toNat with
        st := .up, fails := 0, width := w, rate := r, mld := mld, linkUps := (s.port p.toNat).linkUps + 1#16
        ideInsecure := false, ideKeys := [] } ∧
      (∀ i < 16, (t.ld (16 * p.toNat + i)).enumerated = (decide (i = 0) || mld || (s.ld (16 * p.toNat + i)).enumerated)) ∧
      (∀ u, u / 16 ≠ p.toNat → t.ld u = s.ld u) ∧ (t.ld (16 * p.toNat)).recordedW = cfgWin (s.wttOf (16 * p.toNat)).cfg ∧
      (∀ q, q ≠ p.toNat → t.port q = s.port q) ∧ t = { s with ports := t.ports, lds := t.lds })) ∧
  (∀ (p : PortId) (s : State), (s.port p.toNat).st = .train → (s.port p.toNat).backoff = false →
    Yields (.trainFail p) s (fun t => t.port p.toNat = { s.port p.toNat with fails := (s.port p.toNat).fails + 1, backoff := true } ∧
      bits 31 16 (t.stw (Reg.PRT_PSTAT + 4 * p.toNat)) = min 0xFFFF (bits 31 16 (s.stw (Reg.PRT_PSTAT + 4 * p.toNat)) + 1) ∧
      (∀ q, q ≠ p.toNat → t.port q = s.port q) ∧ t = { s with ports := t.ports, reg := t.reg })) ∧
  (∀ (p : PortId) (s : State), (s.port p.toNat).st = .train → (s.port p.toNat).backoff = true →
    exec (.trainBackoffExpire p) s =
      .next ((s.modPort p.toNat (fun x => { x with backoff := false })).emit (.link p.toNat true))) ∧
  (∀ (p : PortId) (s : State), exec (.linkRecovery p) s = .next s) ∧
  (∀ (p : PortId) (w r : BitVec 3) (mld : Bool) (s : State),
    ((s.port p.toNat).st ≠ .train → exec (.linkUp p w r mld) s = .next s ∧ exec (.trainFail p) s = .next s ∧
      exec (.trainBackoffExpire p) s = .next s) ∧
    (s.portUnused p.toNat = true ∨ (s.port p.toNat).backoff = true → exec (.linkUp p w r mld) s = .next s) ∧
    ((s.port p.toNat).backoff = true → exec (.trainFail p) s = .next s) ∧
    ((s.port p.toNat).backoff = false → exec (.trainBackoffExpire p) s = .next s) ∧
    ((s.port p.toNat).st ≠ .up → exec (.linkDown p) s = .next s ∧ exec (.hotReset p) s = .next s) ∧
    ((s.port p.toNat).st ≠ .drain → exec (.portDrainComplete p) s = .next s))

/-- Resets of a head (R37, R42, R46, R50): a link down and a hot reset take the port from UP to DRAIN. Once no FLR and no
tile or grain of its devices runs, the end of the drain takes the port to TRAIN, or to RESET while PERST is asserted, and no
device of the head stays enumerated. FLR_INITIATE puts an enumerated device in FLR with its drain counts at zero, stops its
rings and ends its work with ABORTED_FLR; it is ignored while the device drains. The end of the FLR waits for a grain or a
tile that still runs, then leaves FLR, clears Bus Master Enable and the rings, and resets the BAR0 registers but PRT_FLR. -/
def Obligations.HeadResetsDrainTheirDevices : Prop :=
  (∀ (p : PortId) (c : Instr) (s : State), c = .linkDown p ∨ c = .hotReset p → (s.port p.toNat).st = .up →
    Yields c s (fun t => (t.port p.toNat).st = .drain ∧ (t.port p.toNat).width = 0#3 ∧ t.pins = s.pins ∧
      ∀ q, q ≠ p.toNat → t.port q = s.port q)) ∧
  (∀ (p : PortId) (s : State), (s.port p.toNat).st = .drain →
    (∀ t ∈ s.headTenants p.toNat, (s.ld t).portDrain = true → (s.ld t).flr = false ∧ s.stillRuns t = false) →
    Yields (.portDrainComplete p) s (fun t => (t.port p.toNat).mld = false ∧
      (t.port p.toNat).st = (if s.perstOn p.toNat then .reset else .train) ∧
      (∀ u ∈ s.headTenants p.toNat, (s.ld u).portDrain = true → (t.ld u).enumerated = false ∧ (t.ld u).portDrain = false) ∧
      ∀ q, q ≠ p.toNat → t.port q = s.port q)) ∧
  (∀ (p : PortId) (u : Nat) (s : State), u ∈ s.headTenants p.toNat → (s.ld u).portDrain = true → (s.ld u).flr = true ∨ s.stillRuns u = true →
    exec (.portDrainComplete p) s = .next s) ∧
  (∀ (u : Tenant) (s : State), (s.ld u.toNat).enumerated = true → s.draining u.toNat = false →
    exec (.flrInitiate u) s = .next (((s.setBar u.toNat Reg.PRT_FLR 0#32).modLd u.toNat (fun l => { l with
      flr := true, drainAborted := 0, drainRefused := 0, drainLogged := false })).abortWork u.toNat)) ∧
  (∀ (u : Tenant) (s : State), (s.ld u.toNat).enumerated = true → s.draining u.toNat = false →
    (∀ o ∈ s.ops, o.tenant ≠ u.toNat) →
    Yields (.flrInitiate u) s (fun t => (t.ld u.toNat).flr = true ∧ t.ports = s.ports ∧ t.ops = s.ops)) ∧
  (∀ (u : Tenant) (s : State), (s.ld u.toNat).enumerated = false ∨ s.draining u.toNat = true →
    exec (.flrInitiate u) s = .next s) ∧
  (∀ (u : Tenant) (s : State), (s.ld u.toNat).flr = false → exec (.flrDrainComplete u) s = .next s) ∧
  (∀ (u : Tenant) (s : State), (s.ld u.toNat).flr = true →
    (s.stillRuns u.toNat = true → exec (.flrDrainComplete u) s = .next s) ∧
    (s.stillRuns u.toNat = false →
      Yields (.flrDrainComplete u) s (fun t => (t.ld u.toNat).flr = false ∧ (t.ld u.toNat).bme = false ∧ t.ports = s.ports ∧
        (∀ r < 16, t.ring u.toNat r = {}) ∧
        ∀ off, off ≠ Reg.PRT_FLR → 0x2000 ≤ off → off < 0x2220 → t.bar u.toNat off = barReset off)))

/-- Configuration of a logical device (R31, R47, R51, R52, R56, R408): a configuration read answers the register of the
device and binds it to its host, and where the device answers none it is retried; a write of Bus Master Enable cleared
clears it, and one of CTO_VALUE stores the field and the time it stands for; a commit of the HDM decoder takes the settings
the decoder supports, and sets ERROR on the others, leaving every other field of the device; a locked decoder keeps what it
has; Bus Master Enable set issues what waited. A write of any register acts on the device by that register, binds it and is
answered. A device that is not enumerated, or whose port is not up, answers nothing, and where configuration is not served
the two set rows change nothing. -/
def Obligations.ConfigurationOfALogicalDevice : Prop :=
  (∀ (u : Tenant) (v : W32) (r : CfgReg) (s : State), (s.ld u.toNat).enumerated = true → s.portUp (tenantPort u.toNat) = true →
    s.cfgServed u.toNat = true →
    Yields (.configRequest u false r v) s (fun t =>
      t.out = s.out ++ [.cfgDone u.toNat false ((s.modLd u.toNat (fun l => { l with hostBound := true })).cfgRead u.toNat r)] ∧
      t.ld u.toNat = { s.ld u.toNat with hostBound := true } ∧ (∀ n, n ≠ u.toNat → t.ld n = s.ld n) ∧
      t = { s with lds := t.lds, out := t.out, freeCtr := s.freeCtr + 1 })) ∧
  (∀ (u : Tenant) (w : Bool) (v : W32) (r : CfgReg) (s : State), (s.ld u.toNat).enumerated = true →
    s.portUp (tenantPort u.toNat) = true → s.cfgServed u.toNat = false →
    exec (.configRequest u w r v) s = .next (s.emit (.cfgDone u.toNat true 0#32))) ∧
  (∀ (u : Tenant) (v : W32) (s : State), (s.ld u.toNat).enumerated = true → s.portUp (tenantPort u.toNat) = true →
    s.cfgServed u.toNat = true → bit 2 v = false →
    Yields (.configRequest u true .command v) s (fun t => t.out = s.out ++ [.cfgDone u.toNat false 0#32] ∧
      t.ld u.toNat = { s.ld u.toNat with hostBound := true, bme := false } ∧ t = { s with lds := t.lds, out := t.out })) ∧
  (∀ (u : Tenant) (v : W32) (r : CfgReg) (s : State), (s.ld u.toNat).enumerated = true → s.portUp (tenantPort u.toNat) = true →
    s.cfgServed u.toNat = true → exec (.configRequest u true r v) s =
      .next (((s.modLd u.toNat (fun l => { l with hostBound := true })).cfgWrite u.toNat r v).emit (.cfgDone u.toNat false 0#32))) ∧
  (∀ (u : Nat) (v : W32) (s : State), (bit 15 v = true → s.cfgWrite u .devCtl v = s.flrStart u) ∧
    (bit 15 v = false → s.cfgWrite u .devCtl v = s) ∧ (bit 2 v = true → s.cfgWrite u .command v = s.setBme u) ∧
    s.cfgWrite u .pmcsr v = s.modLd u (fun l => { l with pmeEn := bit 8 v, d3hot := bits 1 0 v = 3 ∨ (l.d3hot = true ∧ bits 1 0 v ≠ 0) }) ∧
    s.cfgWrite u .aerCor v = s.modLd u (fun l => { l with aerUnexp := l.aerUnexp && !bit 13 v })) ∧
  (∀ (u : Tenant) (w : Bool) (v : W32) (r : CfgReg) (s : State),
    (s.ld u.toNat).enumerated = false ∨ s.portUp (tenantPort u.toNat) = false → exec (.configRequest u w r v) s = .next s) ∧
  (∀ (u : Tenant) (v : BitVec 4) (s : State), (s.ld u.toNat).enumerated = false ∨ s.cfgServed u.toNat = false →
    exec (.ctoValueWrite u v) s = .next s ∧ exec (.busMasterEnableSet u) s = .next s) ∧
  (∀ (u : Tenant) (base size skip : W64) (ways gran : Nat) (lock : Bool) (s : State), (s.ld u.toNat).enumerated = false →
    exec (.hdmCommit u base size skip ways gran lock) s = .next s) ∧
  (∀ (u : Tenant) (v : BitVec 4) (s : State), (s.ld u.toNat).enumerated = true → s.cfgServed u.toNat = true →
    Yields (.ctoValueWrite u v) s (fun t => t.ld u.toNat = { s.ld u.toNat with ctoField := v } ∧
      bits 15 0 (t.bar u.toNat Reg.PRT_CTO) = (if v = 1#4 then 50 else if v = 2#4 then 1000 else 10000) ∧
      t = { s with lds := t.lds, reg := t.reg })) ∧
  (∀ (u : Tenant) (base size skip : W64) (ways gran : Nat) (lock : Bool) (s : State), (s.ld u.toNat).enumerated = true →
    (((s.ld u.toNat).hdm.committed && (s.ld u.toNat).hdm.lock) = true →
      exec (.hdmCommit u base size skip ways gran lock) s = .next s) ∧
    (((s.ld u.toNat).hdm.committed && (s.ld u.toNat).hdm.lock) = false →
      exec (.hdmCommit u base size skip ways gran lock) s = .next (s.setLd u.toNat { s.ld u.toNat with hdm := {
        base := base, size := size, ways := ways, gran := gran, lock := lock,
        committed := (s.ld u.toNat).hdmOk size.toNat skip.toNat ways gran,
        error := !(s.ld u.toNat).hdmOk size.toNat skip.toNat ways gran } }))) ∧
  (∀ (u : Tenant) (s : State), (s.ld u.toNat).enumerated = true → s.cfgServed u.toNat = true →
    exec (.busMasterEnableSet u) s = .next (forAll (s.ld u.toNat).waiting
      (fun w s => match w with
        | .msix v => s.raiseMsix u.toNat v
        | w => s.issueWant u.toNat w) (s.modLd u.toNat (fun l => { l with bme := true, waiting := [] }))))

/-- Host requests reach their tier (R17, R56, R82, R237, R238, R283, R307, R398, R413): a read, a write and an invalidate
that pass are numbered and charged one unit to their class's Weir; the read and the write are counted as an access of their
plot and served at its tier, the invalidate is answered OK at once. A request at a port that is not up, or of a device not
enumerated, changes nothing; where the head needs a Secure stream and has none it is counted in NOIDE and ends with
PERMISSION, before memory is ready it is counted in BUP_EARLY and ends with NOT_READY, and one that the decoder or the
window table does not map ends with PERMISSION: a read with poison, the others dropped. One to the doorbell line reads or
writes its words; an invalidate there is answered OK. -/
def Obligations.HostRequestsReachTheirTier : Prop :=
  (∀ (p : PortId) (ld : BitVec 4) (hpa : W64) (mv : Meta) (md : Media) (a : Nat) (x : Xl) (e : WEnt) (s : State),
    Passes s p ld hpa false a x e →
    exec (.hostMemRead p ld hpa mv md) s =
      .next (((charged s (16 * p.toNat + ld.toNat) x.cls).access (plotOf x.ua) (16 * p.toNat + ld.toNat)).readReq
        (arriving s p ld .rd mv 0#512 0#64 false md a x e) false none)) ∧
  (∀ (p : PortId) (ld : BitVec 4) (hpa : W64) (mv : Meta) (d : Line) (be : W64) (poison : Bool) (a : Nat) (x : Xl) (e : WEnt)
      (s : State), Passes s p ld hpa true a x e →
    exec (.hostMemWrite p ld hpa mv d be poison) s =
      .next (((charged s (16 * p.toNat + ld.toNat) x.cls).access (plotOf x.ua) (16 * p.toNat + ld.toNat)).writeReq
        (arriving s p ld .wr mv d be poison .clean a x e))) ∧
  (∀ (p : PortId) (ld : BitVec 4) (hpa : W64) (mv : Meta) (a : Nat) (x : Xl) (e : WEnt) (s : State),
    Passes s p ld hpa false a x e →
    exec (.hostMemInv p ld hpa mv) s =
      .next ((charged s (16 * p.toNat + ld.toNat) x.cls).endReq
        (arriving s p ld .inv mv 0#512 0#64 false .clean a x e) .ok)) ∧
  (∀ (p : PortId) (ld : BitVec 4) (hpa : W64) (mv : Meta) (md : Media) (d : Line) (be : W64) (poison : Bool) (op : ReqOp) (c : Instr)
      (t : Nat) (s u : State), t = 16 * p.toNat + ld.toNat → u = { s with nextReq := s.nextReq + 1 } →
    (op, c) ∈ [(ReqOp.rd, Instr.hostMemRead p ld hpa mv md), (.wr, .hostMemWrite p ld hpa mv d be poison), (.inv, .hostMemInv p ld hpa mv)] →
    (s.portUp p.toNat = false ∨ (s.ld t).enumerated = false → exec c s = .next s) ∧
    (s.portUp p.toNat = true → (s.ld t).enumerated = true →
      (bit 0 (s.stw (Reg.SEC_PORT + 4 * s.headPort p.toNat)) = true → (s.port (s.headPort p.toNat)).ideSecure = false →
        exec c s = .next ((s.cntStw (Reg.SEC_PSTAT + 4 * s.headPort p.toNat) 15 0 1).emit
          (if op = .rd then .memPoison t .permission (s.devLoad t 0) else .memCmp t .permission (s.devLoad t 0)))) ∧
      (bit 0 (s.stw (Reg.SEC_PORT + 4 * s.headPort p.toNat)) = false ∨ (s.port (s.headPort p.toNat)).ideSecure = true →
        (s.fnReady t .mem = false → exec c s = .next ((u.cntBar t Reg.BUP_EARLY 15 0 1).emit
          (if op = .rd then .memPoison t .notReady (u.devLoad t 0) else .memCmp t .notReady (u.devLoad t 0)))) ∧
        (s.fnReady t .mem = true → (s.ld t).hdm.dpa hpa.toNat = none → Yields c s (fun z => ∃ l, z.out.getLast? =
          some (if op = .rd then .memPoison t .permission l else .memCmp t .permission l))) ∧
        (s.fnReady t .mem = true → ∀ a, (s.ld t).hdm.dpa hpa.toNat = some a →
          (s.dblOn t = true → a % 2 ^ cfgWin (s.wttOf t).cfg / 64 * 64 = s.dblOff t → ∀ k, k = ((s.wttOf t).translate a false).cls →
            (op = .rd → exec c s = .next (u.doorbellRead t k)) ∧ (op = .wr → exec c s = .next (u.doorbellWrite t k d be poison)) ∧
            (op = .inv → exec c s = .next (u.emit (.memCmp t .ok (u.devLoad t k))))) ∧
          (s.dblOn t = false → ((s.wttOf t).translate a (op = .wr)).ent = none → Yields c s (fun z => ∃ l, z.out.getLast? =
            some (if op = .rd then .memPoison t .permission l else .memCmp t .permission l)))))))

/-- The store of a raw line (R79, R131, R329, R370): a write that is admitted at a raw plot, whole or partial, answers OK
and marks its line written and no other; the line then reads, under the writer's key, as the data where the write enables
every byte, else as the enabled bytes over what a written line held, or over zeros; no byte of memory outside the line
changes. -/
def Obligations.RawLineWritesStoreExactlyTheirBytes : Prop :=
  ∀ (u t : Nat) (enc : Option Nat) (ua : Nat) (d : Line) (be : W64) (poison : Bool) (e : Plot) (s : State),
    s.inSwin (plotOf ua) = false → s.plot (plotOf ua) = some e → e.mode = .raw → e.st ≠ .farLost →
    s.keyReady (plotOf ua) false enc = true → s.farCut (plotOf ua) = false →
    (s.writeLine u t enc ua d be poison).1 = .ok ∧
    (s.writeLine u t enc ua d be poison).2.rawLine (s.keyVal enc) (lineOf ua) =
      (if be = fullBe then d
       else mergeLine (if nmem (lineOf ua) s.tier.written then s.rawLine (s.keyVal enc) (lineOf ua) else 0#512) d be) ∧
    nmem (lineOf ua) (s.writeLine u t enc ua d be poison).2.tier.written = true ∧
    (∀ b, b / 64 ≠ lineOf ua → mget b (s.writeLine u t enc ua d be poison).2.tier.mem = mget b s.tier.mem) ∧
    (∀ l, l ≠ lineOf ua → nmem l (s.writeLine u t enc ua d be poison).2.tier.written = nmem l s.tier.written)

/-- Reads, compressors and requests that waited (R21, R79, R287, R308, R328): a host read that its controller returns is
served with what the medium showed, or waits on where its channel holds another of its lines, and a unit's read leaves the
list, for its program to read the line; bytes of a lending host's memory that arrive under their tag, or their poison, serve
the host's read; a compressor closes its first full block, or, with none full, makes room as R21 says, and what waited is
served; the oldest request of a half that waits for a way and can go on is tried again, first of its line; and of what a
tenant's Headgate holds, a lone request that its Weir now admits goes on to its home half, charged one unit. Each of these
that finds nothing of its kind waiting, or a read that ended or whose channel is paused, changes nothing; a block read that
a move, a unit or a closing block waits for keeps its bytes where they are still wanted, and ends poisoned with
POISON_CONSUMED. -/
def Obligations.WaitingReadsAndRequestsGoOn : Prop :=
  (∀ (i : Nat) (md : Media) (r : TierRead) (s : State), s.dmc.reads.find? (fun x => x.id = i) = some r → r.timedOut = false →
    md ≠ .late →
    (∀ q, r.src = .host q →
      exec (.tierReadReturn i md) s =
        .next (if (s.readLocs (s.hostRd q true none) q.ua).any (fun l => s.chanHeld l) then s
          else (s.modDmc (fun d => { d with reads := d.reads.filter (fun x => x.id ≠ i) })).readReq { q with md := md } true none)) ∧
    (∀ w l t c stamp, r.src = .unit w l t c stamp → (s.chan r.chan).st ≠ .paused →
      exec (.tierReadReturn i md) s = .next (s.modDmc (fun d => { d with reads := d.reads.filter (fun x => x.id ≠ i) })))) ∧
  (∀ (i : Nat) (md : Media) (s : State), md = .late ∨ s.dmc.reads.find? (fun x => x.id = i) = none ∨
      (∃ r, s.dmc.reads.find? (fun x => x.id = i) = some r ∧
        (r.timedOut = true ∨ ((∃ w l t c stamp, r.src = .unit w l t c stamp) ∧ (s.chan r.chan).st = .paused))) →
    exec (.tierReadReturn i md) s = .next s) ∧
  (∀ (g n k : Nat) (w : Reader) (data : List Byte) (x : Tag) (s : State), s.tagOf g = some x → x.use = .farFor w k n →
    exec (.farReadCompletion g data true) s = .next (((s.dropTag g).farFails x.use .poisonConsumed).closeResume) ∧
    ((s.dropTag g).farWanted n = false → exec (.farReadCompletion g data false) s = .next (s.dropTag g)) ∧
    ((s.dropTag g).farWanted n = true → (∀ b, w ≠ .close b) →
      exec (.farReadCompletion g data false) s = .next ((s.dropTag g).farArrive n (.ok, data)))) ∧
  (∀ (g r f n : Nat) (data : List Byte) (poison : Bool) (x : Tag) (s : State),
    (s.tagOf g = some x → x.use = .fetch r f n → exec (.farReadCompletion g data poison) s = .next s) ∧
    (s.tagOf g = none → s.lateTag g = none → exec (.farReadCompletion g data poison) s = .next s)) ∧
  (∀ (h : Half) (s : State), s.shr.wayWait.find? (fun q => lineHome (lineOf q.ua) = h && s.wayReady q) = none →
    exec (.directoryWaitResume h) s = .next s) ∧
  (∀ (t : Tenant) (s : State), s.bestHeld t.toNat = none →
    (s.bestCopy t.toNat = none → exec (.headgateAdmit t) s = .next s) ∧
    (∀ p e, s.bestCopy t.toNat = some (p, e) → exec (.headgateAdmit t) s = .next (s.passCopy t.toNat p e))) ∧
  (∀ (t : Tenant) (r : Req) (s : State), s.bestHeld t.toNat = some r → s.bestCopy t.toNat = none →
    exec (.headgateAdmit t) s = .next (s.passReq t.toNat r)) ∧
  (∀ (t : Tenant) (r : Req) (p : Nat) (e : Plot) (s : State), s.bestHeld t.toNat = some r → s.bestCopy t.toNat = some (p, e) →
    exec (.headgateAdmit t) s = .next (if s.prio t.toNat e.cls e.stamp false false > s.prio t.toNat r.cls r.stamp false false
      then s.passCopy t.toNat p e else s.passReq t.toNat r)) ∧
  (∀ (g : Nat) (data : List Byte) (poison : Bool) (x : Tag) (r : Req) (s : State), s.tagOf g = some x → x.use = .farHost r →
    exec (.farReadCompletion g data poison) s =
      .next ((s.dropTag g).readReq r false (some (if poison then .error .poisonConsumed else .ok data)))) ∧
  (∀ (p : PortId) (s : State),
    exec (.writeCompressorClose p) s =
      .next (match (s.cmp.opened.filter (fun o => o.unit = p.toNat && !o.closing)).find? OpenBlk.full with
        | some o => (s.closeBlk o).closeResume
        | none => (s.makeBuffer p.toNat).closeResume)) ∧
  (∀ (h : Half) (r : Req) (s : State), s.shr.wayWait.find? (fun q => lineHome (lineOf q.ua) = h && s.wayReady q) = some r →
    exec (.directoryWaitResume h) s =
      .next ((s.modShr (fun x => { x with wayWait := x.wayWait.filter (fun y => y.id ≠ r.id) })).serveReq true r)) ∧
  (∀ (t : Tenant) (r : Req) (s : State), (s.hgOf t.toNat).held = [r] → s.heldCopies t.toNat = [] →
    (s.hgOf t.toNat).ask r.cls = .pass →
    exec (.headgateAdmit t) s = .next (((s.unholdReq r).modHg t.toNat (fun h => h.charge r.cls 1)).toHome r))

/-- Timeouts and the Far extents (R53, R100, R101): a read that times out gives its tag to quarantine, which the tag leaves
when its time ends, sets the AER bit of its device, counts in PRT_CPL.TIMEOUTS and ends what asked with TIMEOUT, a ring's
fetch with its stop; an error completion of a Far read loses the extent with cause 1 and ends the read with FAR_LOST where
the loss has not; an extent is enabled where its base is aligned and the sum of the extents allows it, else ERR is set, and
an enabled one stays; an extent that no plot uses is disabled at once, any other is lost with cause 3; a revoke loses it
with cause 2: ENABLE clears, LOST sets, and, where nothing is under way and no move goes into it, a plot whose backing place
lies in it is FAR_LOST, without claims, pins or a Near slot. -/
def Obligations.TimeoutsAndFarExtents : Prop :=
  (∀ (g : Nat) (x : Tag) (s : State), s.tagOf g = some x →
    exec (.completionTimeout g) s =
      .next (match x.use with
        | .fetch r first cnt => (tagTimedOut s g x).fetchEnds x.tenant r first cnt (.error 1)
        | u => ((tagTimedOut s g x).farFails u .timeout).asgnResume.closeResume)) ∧
  (∀ (g : Nat) (s : State), s.pendingRead g = none → exec (.completionTimeout g) s = .next s) ∧
  (∀ (g r f n : Nat) (x : Tag) (s : State),
    (s.tagOf g = some x → x.use = .fetch r f n → exec (.farDmaErrorCompletion g) s = .next s) ∧
    (s.tagOf g = none → s.lateTag g = none → exec (.farDmaErrorCompletion g) s = .next s)) ∧
  (∀ (g : Nat) (s : State),
    exec (.tagQuarantineExpire g) s = .next { s with quarantine := s.quarantine.filter (fun x => x.tag ≠ g) }) ∧
  (∀ (g : Nat) (x : Tag) (s : State), s.tagOf g = some x → usePlot x.use ≠ none →
    exec (.farDmaErrorCompletion g) s =
      .next (State.closeResume (match (s.loseExtent x.tenant 1).asgnResume.tagOf g with
        | some y => ((s.loseExtent x.tenant 1).asgnResume.dropTag g).farFails y.use .farLost
        | none => (s.loseExtent x.tenant 1).asgnResume))) ∧
  (∀ (u : Tenant) (s : State), s.farEnabled u.toNat = false →
    exec (.farEnable u) s = .next (s.modStw (Reg.TIR_FAR_CTL + 4 * u.toNat)
      (if s.farBase u.toNat % 65536 = 0 ∧
          (((List.range 256).filter (fun k => k ≠ u.toNat && s.farEnabled k)).map (fun k => s.farSize k)).sum + s.farSize u.toNat
            ≤ 1073741824 then fun w => setBit 31 true (setBit 30 false w)
        else setBit 28 true))) ∧
  (∀ (u : Tenant) (s : State), s.farEnabled u.toNat = true → exec (.farEnable u) s = .next s) ∧
  (∀ (u : Tenant) (s : State),
    exec (.farDisable u) s = .next (if s.farBusy u.toNat = [] then s.modStw (Reg.TIR_FAR_CTL + 4 * u.toNat) (setBit 31 false)
      else (s.loseExtent u.toNat 3).asgnResume.closeResume)) ∧
  (∀ (u : Tenant) (s : State), exec (.farRevoke u) s = .next (s.loseExtent u.toNat 2).asgnResume.closeResume) ∧
  (∀ (u : Tenant) (c : Nat) (s : State), s.farEnabled u.toNat = true →
    bit 31 ((s.loseExtent u.toNat c).stw (Reg.TIR_FAR_CTL + 4 * u.toNat)) = false ∧
    bit 30 ((s.loseExtent u.toNat c).stw (Reg.TIR_FAR_CTL + 4 * u.toNat)) = true) ∧
  (∀ (u : Tenant) (c p : Nat) (e : Plot) (s : State), s.farEnabled u.toNat = true → s.plot p = some e → e.farb = true →
    e.st ≠ .farLost → locLender e.loc = u.toNat → Quiet s → (∀ x ∈ s.tier.plots, x.2.movesInto u.toNat = false) →
    ∃ f, (s.loseExtent u.toNat c).plot p = some f ∧ f.st = .farLost ∧ f.claims = [] ∧ f.pins = [] ∧ f.slot = 0)

/-- Regulation (R303, R306, R309, R311, R313, R314, R316): at a window boundary a tenant's counts are cleared, its settings
become those of its registers, its latency and held records move on, and what its Headgate holds is admitted while the
budgets allow; before the boundary nothing happens; a configuration write waits for it; the urgency pins and the in-band
level take what is written, and the level returns to 0 at the end of a HOLD; an arbiter serves one of the items that wait
and arrive, and none of them is served before it by the tie-breaks. -/
def Obligations.WindowsUrgencyAndArbiters : Prop :=
  (∀ (u : Tenant) (s : State), s.clk.us % 2 ^ (s.hgOf u.toNat).win = 0 →
    exec (.weirWindowBoundary u) s = .next ((s.setHg u.toNat { s.loadWeir u.toNat (s.hgOf u.toNat) with
      used := [], maxPrev := (s.hgOf u.toNat).maxCur, maxCur := [], heldPrev := (s.hgOf u.toNat).heldCur, heldCur := [] }).admitAll
        u.toNat)) ∧
  (∀ (u : Tenant) (s : State), (s.hgOf u.toNat).held = [] → s.heldCopies u.toNat = [] → s.admitAll u.toNat = s) ∧
  (∀ (u : Tenant) (s : State), s.clk.us % 2 ^ (s.hgOf u.toNat).win ≠ 0 → exec (.weirWindowBoundary u) s = .next s) ∧
  (∀ (u : Tenant) (c : ClassL) (v : W32) (s : State),
    exec (.weirConfigWrite u (some c) v) s = .next (s.setStw (Reg.HGT_WBUD + 4 * (8 * u.toNat + c.toNat)) (v &&& 0x3FFFFFF#32)) ∧
    exec (.weirConfigWrite u none v) s =
      .next (s.setStw (Reg.HGT_WCFG + 4 * u.toNat) (setBits 3 0 (min 10 (bits 3 0 v)) (v &&& 0xFF0F#32)))) ∧
  (∀ (p : PortId) (l : BitVec 2) (s : State),
    exec (.urgencyPinSettle p l) s = .next { s with pins := { s.pins with urg := tset 0#2 p.toNat l s.pins.urg } }) ∧
  (∀ (u : Tenant) (v : W32) (s : State),
    Yields (.uibWrite u v) s (fun t => t.bar u.toNat Reg.HGT_UIB = v &&& 0xFFFF0003#32 ∧
      (t.hgOf u.toNat).uib.toNat = bits 1 0 v ∧ (∀ c, c ≠ u.toNat → t.hgOf c = s.hgOf c) ∧
      t = { s with reg := t.reg, hg := t.hg })) ∧
  (∀ (u : Tenant) (s : State), s.barF u.toNat Reg.HGT_UIB 31 16 ≠ 0 →
    Yields (.uibHoldExpire u) s (fun t => (t.hgOf u.toNat).uib = 0#2 ∧ t.barF u.toNat Reg.HGT_UIB 1 0 = 0 ∧
      t.barF u.toNat Reg.HGT_UIB 31 16 = s.barF u.toNat Reg.HGT_UIB 31 16 ∧ t = { s with reg := t.reg, hg := t.hg })) ∧
  (∀ (u : Tenant) (s : State), s.barF u.toNat Reg.HGT_UIB 31 16 = 0 → exec (.uibHoldExpire u) s = .next s) ∧
  (∀ (a : Arb) (l : List Item) (s : State), (∀ b m, a ≠ .cistern b m) → s.arbQueue a ++ l ≠ [] →
    Yields (.arbiterServe a l) s (fun t => ∃ w ∈ s.arbQueue a ++ l, t.out = s.out ++ [.granted a w.id] ∧
      (∀ i ∈ s.arbQueue a ++ l, s.itemBefore a i w = false) ∧
      t.arbQueue a = (s.arbQueue a ++ l).erase w ∧ t = { s with arb := t.arb, out := t.out })) ∧
  (∀ (a : Arb) (s : State), (∀ b m, a ≠ .cistern b m) → s.arbQueue a = [] → exec (.arbiterServe a []) s = .next s)

/-- The bridge (R13 to R15, R436, R465): a replay is counted and nothing else; a retired lane of either direction is
replaced by a spare, or narrows the direction's payload, and the bridge retrains; with fewer than 48 lanes it is down; a
retrain that ends with nothing waiting clears the wait and keeps the lanes, and where requests wait they are served in their
order (drainBridge) and the moves' reads go on; a bridge that is down does not go down again; one that goes down with
nothing under way splits the module and changes nothing else of itself, of the tiers or of the fuses; one with 48 lanes in
each direction that comes up joins it again, and the zeroises and pin drops that waited for it are no longer pending; with
fewer lanes it stays down. -/
def Obligations.TheBridgeSplitsAndJoinsTheModule : Prop :=
  (∀ (h : Half) (s : State), exec (.bridgeFlitReplay h) s =
    .next { s with bridge := { s.bridge with replays := s.bridge.replays + 1 } }) ∧
  (∀ s : State, s.bridge.up = true → s.bridge.sparesN ≠ 0 → 48 ≤ s.bridge.lanesN → 48 ≤ s.bridge.lanesS →
    exec (.bridgeLaneRetire .north) s =
      .next { s with bridge := { s.bridge with sparesN := s.bridge.sparesN - 1, retraining := true } }) ∧
  (∀ s : State, s.bridge.up = true → s.bridge.sparesS ≠ 0 → 48 ≤ s.bridge.lanesN → 48 ≤ s.bridge.lanesS →
    exec (.bridgeLaneRetire .south) s =
      .next { s with bridge := { s.bridge with sparesS := s.bridge.sparesS - 1, retraining := true } }) ∧
  (∀ s : State, s.bridge.up = true → s.bridge.sparesN = 0 → 49 ≤ s.bridge.lanesN → 48 ≤ s.bridge.lanesS →
    exec (.bridgeLaneRetire .north) s =
      .next { s with bridge := { s.bridge with lanesN := s.bridge.lanesN - 1, retraining := true } }) ∧
  (∀ s : State, s.bridge.up = true → s.bridge.sparesS = 0 → 48 ≤ s.bridge.lanesN → 49 ≤ s.bridge.lanesS →
    exec (.bridgeLaneRetire .south) s =
      .next { s with bridge := { s.bridge with lanesS := s.bridge.lanesS - 1, retraining := true } }) ∧
  (∀ s : State, s.bridge.up = true → s.bridge.sparesN = 0 → s.bridge.lanesN ≤ 48 →
    exec (.bridgeLaneRetire .north) s =
      .next ({ s with bridge := { s.bridge with lanesN := s.bridge.lanesN - 1, retraining := true } } : State).splitNow) ∧
  (∀ s : State, s.bridge.up = true → s.bridge.sparesS = 0 → s.bridge.lanesS ≤ 48 →
    exec (.bridgeLaneRetire .south) s =
      .next ({ s with bridge := { s.bridge with lanesS := s.bridge.lanesS - 1, retraining := true } } : State).splitNow) ∧
  (∀ s : State, s.bridge.up = true → Quiet s →
    s.splitNow.bridge = { s.bridge with up := false, retraining := false, queue := [] } ∧ s.splitNow.tier = s.tier ∧
    s.splitNow.fuse = s.fuse) ∧
  (∀ (h : Half) (s : State), s.bridge.up = false → exec (.bridgeLaneRetire h) s = .next s) ∧
  (∀ s : State, s.bridge.retraining = true → s.bridge.queue = [] →
    Yields .bridgeRetrainDone s (fun t => t.bridge = { s.bridge with retraining := false } ∧ t.fuse = s.fuse)) ∧
  (∀ s : State, s.bridge.retraining = false → exec .bridgeRetrainDone s = .next s) ∧
  (∀ s u w : State, s.bridge.retraining = true → w = u.drainBridge s.bridge.queue.length →
    u = State.stewRec 7 (s.bridge.lanesN % 256 + 256 * (s.bridge.lanesS % 256)) { s with bridge := { s.bridge with retraining := false } } →
    exec .bridgeRetrainDone s = .next (forAll (w.tier.plots.map Prod.fst) (fun p v => v.readNext p) w) ∧
    u.bridge.queue = s.bridge.queue) ∧
  (∀ s : State, s.bridge.up = false → exec .bridgeDown s = .next s) ∧
  (∀ s : State, exec .bridgeDown s = .next s.splitNow) ∧
  (∀ s : State, s.bridge.up = false → 48 ≤ s.bridge.lanesN → 48 ≤ s.bridge.lanesS →
    Yields .bridgeUp s (fun t => t.bridge = { s.bridge with up := true } ∧ t.north.pendZeroise = [] ∧ t.south.pendZeroise = [] ∧
      t.north.pendUnpin = [] ∧ t.south.pendUnpin = [])) ∧
  (∀ s : State, s.bridge.up = true ∨ s.bridge.lanesN < 48 ∨ s.bridge.lanesS < 48 → exec .bridgeUp s = .next s)

/-- Shadow banks and commits (R63 to R65, R68): a write of WTT_DATA3 stores the entry of the four words at the selected
index of the selected tenant's shadow bank and changes no active bank, and while that tenant's commit is pending it only
sets the tenant's dropped-write bit; a copy makes the shadow table equal to the active one, or is SLOT_BUSY while a commit
is pending, or STEWARD_CONFLICT; a commit that a check refuses changes only WTT_CSTAT, whose TENANT is 0 for a
STEWARD_CONFLICT (the model's choice, log 87); the reserved OP is BAD_DESCRIPTOR, behind STEWARD_CONFLICT. -/
def Obligations.ShadowTablesAndCommits : Prop :=
  (∀ (v : W32) (s : State), (s.wttOf (bits 23 16 (s.stw Reg.WTT_SEL))).pend = none →
    Yields (.wttDataWrite v) s (fun t =>
      tget 0#128 (bits 15 0 (s.stw Reg.WTT_SEL)) (t.wttOf (bits 23 16 (s.stw Reg.WTT_SEL))).shBank =
        BitVec.ofNat 128 ((tget 0#32 0 s.wttData).toNat + 2 ^ 32 * (tget 0#32 1 s.wttData).toNat +
          2 ^ 64 * (tget 0#32 2 s.wttData).toNat + 2 ^ 96 * v.toNat) ∧
      (t.wttOf (bits 23 16 (s.stw Reg.WTT_SEL))).bank = (s.wttOf (bits 23 16 (s.stw Reg.WTT_SEL))).bank ∧
      (∀ u, u ≠ bits 23 16 (s.stw Reg.WTT_SEL) → t.wttOf u = s.wttOf u) ∧ t = { s with wtt := t.wtt, reg := t.reg })) ∧
  (∀ (v : W32) (s : State), (s.wttOf (bits 23 16 (s.stw Reg.WTT_SEL))).pend.isSome = true →
    exec (.wttDataWrite v) s = .next (s.modStw (Reg.WTT_TSTAT + 4 * bits 23 16 (s.stw Reg.WTT_SEL)) (setBit 3 true))) ∧
  (∀ (u : Tenant) (s : State), s.conflict = false → (s.wttOf u.toNat).pend = none →
    Yields (.wttCopy u) s (fun t => (t.wttOf u.toNat).shBank = (s.wttOf u.toNat).bank ∧
      (t.wttOf u.toNat).shCfg = (s.wttOf u.toNat).cfg ∧ (t.wttOf u.toNat).bank = (s.wttOf u.toNat).bank ∧
      (t.wttOf u.toNat).cfg = (s.wttOf u.toNat).cfg ∧ t.stw Reg.WTT_CSTAT = 0#32 ∧
      (∀ n, n ≠ u.toNat → t.wttOf n = s.wttOf n) ∧ t = { s with wtt := t.wtt, reg := t.reg })) ∧
  (∀ (u n : Nat) (t : Tenant) (st : Status) (s : State), s.commitCheck [t.toNat] = (st, u) → st ≠ .ok → n = (if st = .stewardConflict then 0 else u) →
    exec (.wttCommit t) s = .next (s.setStw Reg.WTT_CSTAT (at32 8 n ||| at32 0 st.code))) ∧
  (∀ (u : Nat) (st : Status) (s : State), s.commitCheck s.gmask = (st, u) → st ≠ .ok →
    exec .wttGroupCommit s = .next (s.setStw Reg.WTT_CSTAT (at32 8 u ||| at32 0 st.code))) ∧
  (∀ (u : Tenant) (s : State), s.conflict = true →
    exec (.wttCopy u) s = .next (s.setStw Reg.WTT_CSTAT (at32 8 0 ||| at32 0 Status.stewardConflict.code)) ∧
    exec (.wttCommitReserved u) s = .next (s.setStw Reg.WTT_CSTAT (at32 8 0 ||| at32 0 Status.stewardConflict.code))) ∧
  (∀ (u : Tenant) (s : State), s.conflict = false → (s.wttOf u.toNat).pend.isSome = true →
    exec (.wttCopy u) s = .next (s.setStw Reg.WTT_CSTAT (at32 8 u.toNat ||| at32 0 Status.slotBusy.code))) ∧
  (∀ (t : Tenant) (s : State), s.conflict = false →
    exec (.wttCommitReserved t) s = .next (s.setStw Reg.WTT_CSTAT (at32 8 0 ||| at32 0 Status.badDescriptor.code)))

/-- The flip (R65 to R69): a commit that passes its checks is scheduled behind those before it, for one tenant, whose commit
is then pending, or for the masked group; the flip of the first scheduled commit that is ready swaps the active and the
shadow bank of its tenant, whose epoch advances by one, and no other tenant's, and that of a ready group flips every tenant
of it; with none ready nothing flips; OLD_DONE is set once no earlier request of the tenant is in flight and none of its
flips is scheduled, and not before. -/
def Obligations.CommitsFlipTheirTenants : Prop :=
  (∀ (t : Tenant) (s : State), (s.commitCheck [t.toNat]).1 = .ok →
    Yields (.wttCommit t) s (fun u => u.flip = s.flip ++ [[t.toNat]] ∧ (u.wttOf t.toNat).pend.isSome = true ∧
      (∀ n, n ≠ t.toNat → u.wttOf n = s.wttOf n))) ∧
  (∀ s : State, (s.commitCheck s.gmask).1 = .ok → s.gmask ≠ [] →
    Yields .wttGroupCommit s (fun u => u.flip = s.flip ++ [s.gmask])) ∧
  (∀ (n : Nat) (s : State), s.flip.find? (fun g => s.flipReady g) = some [n] →
    Yields .wttFlip s (fun u => (u.wttOf n).onB = (!(s.wttOf n).onB) ∧ (u.wttOf n).epoch = (s.wttOf n).epoch + 1#16 ∧
      (u.wttOf n).pend = none ∧ (u.wttOf n).bankA = (s.wttOf n).bankA ∧ (u.wttOf n).bankB = (s.wttOf n).bankB ∧
      u.flip = s.flip.filter (fun x => x ≠ [n]) ∧ (∀ m, m ≠ n → u.wttOf m = s.wttOf m))) ∧
  (∀ s : State, s.flip.find? (fun g => s.flipReady g) = none → exec .wttFlip s = .next s) ∧
  (∀ (a b : Nat) (s : State), s.flip.find? (fun g => s.flipReady g) = some [a, b] → a ≠ b →
    Yields .wttFlip s (fun u => (u.wttOf a).onB = (!(s.wttOf a).onB) ∧ (u.wttOf b).onB = (!(s.wttOf b).onB) ∧
      (u.wttOf a).pend = none ∧ (u.wttOf b).pend = none ∧ (∀ m, m ≠ a → m ≠ b → u.wttOf m = s.wttOf m))) ∧
  (∀ (t : Tenant) (g : List Nat) (s : State), s.flip.find? (fun g => nmem t.toNat g) = some g →
    exec (.oldDone t) s = .next s) ∧
  (∀ (t : Tenant) (s : State), s.oldGone t.toNat = true → s.flip.find? (fun g => nmem t.toNat g) = none →
    exec (.oldDone t) s = .next (s.modWtt t.toNat (fun w => { w with oldDone := true }))) ∧
  (∀ (t : Tenant) (s : State), s.oldGone t.toNat = false → exec (.oldDone t) s = .next s)

/-- Assignment and release (R75 to R77, R93, Table TIR-2, TIR-3): one free plot under a packed Bulk template becomes
assigned, unwritten and charged to the template's tenant, no other plot changes and none of its lines is written; an
assigned plot that does not move and is in no buffer is released with its contents; the reserved OP is BAD_DESCRIPTOR and a
command refused at its gate, or one whose template or range is bad (BAD_DESCRIPTOR) or whose range holds a plot that the
command may not touch (PERMISSION), changes only its status; any other starts at its first plot; removing a tenant's claims
answers OK, and a plot that the tenant alone claimed leaves the Near tier; a query answers the plot's entry word, 0 for a
plot that is not assigned. -/
def Obligations.PlotsAreAssignedReleasedAndQueried : Prop :=
  (∀ s : State, s.asgnGate = .ok → tmplOk s.atmpl = true → s.asgnCount = 1 → s.rangeOk = true → bits 62 59 s.atmpl = 0 →
    bits 56 55 s.atmpl = 0 → s.inSwin s.asgnBase = false → s.inView s.asgnBase = false → s.plot s.asgnBase = none →
    Yields .tirAssign s (fun t => t.plot s.asgnBase = some { expend := bit 57 s.atmpl, mode := .packed, qtenant := bits 111 104 s.atmpl, age := s.clk.age } ∧
      t.stw Reg.TIR_ASGN_STAT = 0#32 ∧ (∀ q, q ≠ s.asgnBase → t.plot q = s.plot q) ∧
      (∀ l, l / 1024 = s.asgnBase → nmem l t.tier.written = false))) ∧
  (∀ s : State, s.asgnGate = .ok → s.asgnCount = 1 → s.rangeOk = true → (s.plot s.asgnBase).isSome = true →
    s.bufferOf s.asgnBase = none → s.plotMoving s.asgnBase = false → s.relocating s.asgnBase = false →
    Yields .tirRelease s (fun t => t.plot s.asgnBase = none ∧ t.stw Reg.TIR_ASGN_STAT = 0#32 ∧
      (∀ q, q ≠ s.asgnBase → t.plot q = s.plot q) ∧ (∀ l, l / 1024 = s.asgnBase → nmem l t.tier.written = false))) ∧
  (∀ s : State, s.asgnGate = .ok → tmplOk s.atmpl = true → s.rangeOk = true →
    (∀ i, i < s.asgnCount → s.inSwin (s.asgnBase + i) = false ∧ s.inView (s.asgnBase + i) = false ∧
      ∀ e, s.plot (s.asgnBase + i) = some e → e.st = .farLost) → exec .tirAssign s = .next (s.asgnStart 0)) ∧
  (∀ s : State, s.asgnGate = .ok → s.rangeOk = true →
    (∀ i, i < s.asgnCount → (s.plot (s.asgnBase + i)).isSome = true ∧ s.bufferOf (s.asgnBase + i) = none) →
    exec .tirRelease s = .next (s.asgnStart 1)) ∧
  (∀ s : State, s.asgnGate = .ok → (tmplOk s.atmpl = false ∨ s.rangeOk = false) →
    exec .tirAssign s = .next (s.asgnStatus .badDescriptor)) ∧
  (∀ s : State, s.asgnGate = .ok → s.rangeOk = false → exec .tirRelease s = .next (s.asgnStatus .badDescriptor)) ∧
  (∀ (i : Nat) (s : State), s.asgnGate = .ok → tmplOk s.atmpl = true → s.rangeOk = true → i < s.asgnCount →
    (s.inSwin (s.asgnBase + i) = true ∨ s.inView (s.asgnBase + i) = true ∨
      ∃ e, s.plot (s.asgnBase + i) = some e ∧ e.st ≠ .farLost) →
    exec .tirAssign s = .next (s.asgnStatus .permission)) ∧
  (∀ (i : Nat) (s : State), s.asgnGate = .ok → s.rangeOk = true → i < s.asgnCount →
    (s.plot (s.asgnBase + i) = none ∨ (s.bufferOf (s.asgnBase + i)).isSome = true) →
    exec .tirRelease s = .next (s.asgnStatus .permission)) ∧
  (∀ s : State, s.asgnGate = .ok → exec .tirAsgnReserved s = .next (s.asgnStatus .badDescriptor)) ∧
  (∀ (st : Status) (s : State), s.asgnGate = st → st ≠ .ok → exec .tirAssign s = .next (s.asgnStatus st) ∧
    exec .tirRelease s = .next (s.asgnStatus st) ∧ exec .tirAsgnReserved s = .next (s.asgnStatus st) ∧
    ∀ u, exec (.tirRemoveClaims u) s = .next (s.asgnStatus st)) ∧
  (∀ (u : Tenant) (s : State), s.asgnGate = .ok → s.tier.waits = [] → s.tier.plots = [] → s.fes = [] →
    exec (.tirRemoveClaims u) s = .next (s.asgnStatus .ok)) ∧
  (∀ (u : Tenant) (p : Nat) (e : Plot) (c : Claim) (s : State), s.asgnGate = .ok → s.tier.waits = [] → s.fes = [] →
    s.tier.plots = [(p, e)] → e.st = .near → e.claims = [c] → c.tenant = u.toNat → e.pins = [] → e.farWant = none →
    s.relocating p = false →
    Yields (.tirRemoveClaims u) s (fun t => ∃ e', t.plot p = some e' ∧ e'.claims = [] ∧ e'.st = (if e.farb then .far else .bulk))) ∧
  (∀ (u : Tenant) (s : State), s.asgnGate = .ok → Yields (.tirRemoveClaims u) s (fun t => bits 7 0 (t.stw Reg.TIR_ASGN_STAT) = 0)) ∧
  (∀ (hi : W32) (e : Plot) (s : State),
    s.plot ((s.stw Reg.TIR_PQ_PLOT_LO).toNat + 2 ^ 32 * (hi.toNat % 16)) = some e →
    Yields (.plotQuery hi) s (fun t =>
      t.tier.snap = s.plotWord ((s.stw Reg.TIR_PQ_PLOT_LO).toNat + 2 ^ 32 * (hi.toNat % 16)) e ∧
      t.stw Reg.TIR_PQ_PLOT_HI = hi &&& 0xF#32 ∧ t.tier.plots = s.tier.plots ∧ t = { s with tier := t.tier, reg := t.reg })) ∧
  (∀ (hi : W32) (s : State), s.plot ((s.stw Reg.TIR_PQ_PLOT_LO).toNat + 2 ^ 32 * (hi.toNat % 16)) = none →
    Yields (.plotQuery hi) s (fun t => t.tier.snap = 0#128 ∧ t.tier.plots = s.tier.plots ∧
      t = { s with tier := t.tier, reg := t.reg }))

/-- Ages and counts (R83, R84, R464): DECAY keeps within 4 to 20; the age clock counts modulo 65,536; a decay boundary
halves every count; a sweep bounds the ages of its half's plots; each changes nothing else of a plot. Claims and moves (R81,
R84, R89): a cold plot of a half whose one claim is AUTO loses it and leaves the Near tier, and with no cold AUTO claim
nothing changes; the waiting claims of a half are tried in the order they began to wait; a claim whose wait ends leaves the
list refused, an AUTO one counted and changing no plot, and an expiry of no waiting claim changes nothing; a charged block
that a promotion has copied is marked copied, one that a write-back has copied is no longer dirty, whatever of it read
uncorrectable, and the move goes on to its next block. -/
def Obligations.AgesCountsAndClaimsOfPlots : Prop :=
  (∀ (v : W32) (s : State), exec (.tirClsWrite v) s =
    .next (s.setStw Reg.TIR_CLS (setBits 15 11 (min 20 (max 4 (bits 15 11 v))) (v &&& 0xFFFFFFF0#32)))) ∧
  (∀ s : State, exec .ageClockTick s = .next { s with clk := { s.clk with age := (s.clk.age + 1) % 65536 } }) ∧
  (∀ s : State, Yields .decayBoundary s (fun t => (∀ p, t.plot p = (s.plot p).map (fun e => { e with cnt := e.cnt / 2 })) ∧
    t.tier.mem = s.tier.mem ∧ t = { s with tier := t.tier })) ∧
  (∀ (h : Half) (s : State), s.clk.age < 65536 → Yields (.ageSweep h) s (fun t =>
    (∀ p e, s.plot p = some e → homeHalf p = h → ∃ e', t.plot p = some e' ∧ e'.ageAt s.clk.age ≤ 49152 ∧
      e' = { e with age := e'.age } ∧ (e.ageAt s.clk.age ≤ 49152 → e' = e)) ∧
    (∀ p, homeHalf p ≠ h → t.plot p = s.plot p) ∧ t = { s with tier := t.tier })) ∧
  (∀ (h : Half) (s : State), (∀ e ∈ s.tier.plots, homeHalf e.1 = h → e.2.hasSlot = true → e.2.cnt ≤ s.cold →
      e.2.claims.filter (fun c => c.auto) = []) → exec (.coldClassify h) s = .next s) ∧
  (∀ (h : Half) (p t : Nat) (e : Plot) (c : Claim) (s : State), s.tier.plots = [(p, e)] → homeHalf p = h → e.st = .near →
    e.cnt ≤ s.cold → e.claims = [c] → c.auto = true → c.tenant = t → e.pins = [] → e.farWant = none → s.relocating p = false →
    Yields (.coldClassify h) s (fun u => ∃ e', u.plot p = some e' ∧ e'.claims = [] ∧
      e'.st = (if e.farb then .far else .bulk))) ∧
  (∀ (h : Half) (s : State),
    exec (.claimRetry h) s =
      .next (forAll (s.tier.waits.filter (fun x => homeHalf x.plot = h)) (fun w s => s.retryClaim w) s)) ∧
  (∀ (i : Nat) (w : WaitClaim) (s : State), s.tier.waits.find? (fun x => x.id = i) = some w → w.cause = .auto →
    Yields (.claimWaitExpire i) s (fun t => t.tier.waits = s.tier.waits.filter (fun x => x.id ≠ w.id) ∧
      t.tier.plots = s.tier.plots ∧ t = { s with tier := t.tier, reg := t.reg })) ∧
  (∀ (i : Nat) (w : WaitClaim) (s : State), s.tier.waits.find? (fun x => x.id = i) = some w →
    exec (.claimWaitExpire i) s = .next (s.dropWait w)) ∧
  (∀ (i : Nat) (s : State), s.tier.waits.find? (fun x => x.id = i) = none → exec (.claimWaitExpire i) s = .next s) ∧
  (∀ (n : PlotNo) (bad : List Nat) (s : State), exec (.moveBlockDone n bad) s = .next (s.blockDone n.toNat bad).asgnResume) ∧
  (∀ (n : PlotNo) (bad : List Nat) (s : State), s.plot n.toNat = none → exec (.moveBlockDone n bad) s = .next s.asgnResume) ∧
  (∀ (n : PlotNo) (bad : List Nat) (e : Plot) (j k : Nat) (s : State), s.plot n.toNat = some e → e.st = .promoting → e.farb = false →
    e.nextBlock = some j → e.charged = true → s.copyHeld n.toNat e = false → s.moveHeld n.toNat e j = false →
    k < 16 → k ≠ j → bit k e.copied = false → s.tier.asgnPend = none →
    Yields (.moveBlockDone n bad) s (fun t => ∃ e', t.plot n.toNat = some e' ∧ e'.st = .promoting ∧ bit j e'.copied = true ∧
      bit k e'.copied = false ∧ t.tier.mem = s.tier.mem)) ∧
  (∀ (n : PlotNo) (bad : List Nat) (e : Plot) (j k : Nat) (s : State), s.plot n.toNat = some e → e.st = .demoting → e.fmove = false →
    e.farb = false → e.cancel = false → e.nextBlock = some j → e.charged = true → s.copyHeld n.toNat e = false →
    s.moveHeld n.toNat e j = false → k < 16 → k ≠ j → bit k e.dirty = true → s.tier.asgnPend = none →
    Yields (.moveBlockDone n bad) s (fun t => ∃ e', t.plot n.toNat = some e' ∧ e'.st = .demoting ∧ bit j e'.dirty = false ∧
      bit k e'.dirty = true ∧ t.tier.mem = s.tier.mem))

/-- Marks and positions (R106 to R108, R117, R120): a cursor starts with no position, and the first position it receives is
taken without firing any entry, when a mark arrives at a cursor at rest. A mark that its cursor takes is sent to its
calendar, one of a calendar that has no cursor of the tenant is counted, as is one of a layer outside the calendar, and one
across a bridge that is down is lost and counted; a queued update is applied once its cursor rests; the oldest update on its
way arrives when none is queued; the next plot of the issued group takes its entry's action: a claim asked for, or the
tenant's claim removed, and nothing on a plot that is not assigned, and then the group goes on, and with nothing to take
nothing happens; a load commits once its calendar's batches have issued, and waits before; the entries, layers and triggers
are then the image's. -/
def Obligations.MarksMoveCursors : Prop :=
  (∀ (u : Tenant) (m : W32) (k : Cal) (i : Nat) (v : Cursor) (s : State),
    s.cal (s.barF u.toNat Reg.ALM_MSEL 9 0) = some k → k.cursorOf u.toNat = some (i, v) → v.src ≠ 1#2 → markLayer m < k.layers →
    s.split = false →
    exec (.almMark u m) s = .next (s.modAlm (fun a => { a with
      updates := a.updates ++ [.mark (tenantHalf u.toNat) none (s.barF u.toNat Reg.ALM_MSEL 9 0) u.toNat m] }))) ∧
  (∀ (u : Tenant) (m : W32) (s : State), s.cal (s.barF u.toNat Reg.ALM_MSEL 9 0) = none → s.split = false →
    exec (.almMark u m) s = .next (s.cntBar u.toNat Reg.ALM_MERR 31 16 1)) ∧
  (∀ (u : Tenant) (m : W32) (k : Cal) (i : Nat) (v : Cursor) (s : State),
    s.cal (s.barF u.toNat Reg.ALM_MSEL 9 0) = some k → k.cursorOf u.toNat = some (i, v) → v.src ≠ 1#2 → k.layers ≤ markLayer m →
    s.split = false → exec (.almMark u m) s = .next (s.cntBar u.toNat Reg.ALM_MERR 15 0 1)) ∧
  (∀ (u : Tenant) (m : W32) (s : State), s.split = true → tenantHalf u.toNat ≠ calHalf (s.barF u.toNat Reg.ALM_MSEL 9 0) →
    exec (.almMark u m) s = .next (s.cntBar u.toNat Reg.ALM_MERR 31 16 1)) ∧
  (∀ (c i : Nat) (x : AlmUpd) (k : Cal) (s : State), s.queuedUpd = some (c, i, x) → s.cal c = some k →
    exec .cursorUpdate s = .next (((s.setCal c { k with queue := dropFirst i k.queue }).commitReady c).applyUpd c i x)) ∧
  (∀ s : State, s.queuedUpd = none → s.alm.updates = [] → exec .cursorUpdate s = .next s) ∧
  (∀ s : State, s.nextAct = none → exec .almanacAction s = .next s) ∧
  (∀ (h : Half) (c t i : Nat) (m : W32) (r : List AlmUpd) (k : Cal) (v : Cursor) (s : State), s.alm.acts = [] →
    s.queuedUpd = none → s.alm.updates = .mark h none c t m :: r → s.cal c = some k → k.cursorOf t = some (i, v) →
    tfind i k.cursors = some v → k.queue = [] → k.loading = none → s.calHeld k t = false → v.src ≠ 1#2 →
    markLayer m < k.layers → v.pos = none →
    Yields .cursorUpdate s (fun u => u.alm.updates = r ∧
      u.cal c = some { k with cursors := tput i { v with pos := some m } k.cursors } ∧ (∀ d, d ≠ c → u.cal d = s.cal d) ∧
      u.alm.acts = [] ∧ u = { s with alm := u.alm })) ∧
  (∀ (x : AlmUpd) (r : List AlmUpd) (s : State), s.queuedUpd = none → s.alm.updates = x :: r →
    exec .cursorUpdate s = .next ((s.modAlm (fun a => { a with updates := r })).arriveUpd x)) ∧
  (∀ (q r rest : List AlmAct) (a : AlmAct) (s : State), s.nextAct = some (q, a, r) →
    rest = q ++ (if a.left ≤ 1 then r else { a with plot := a.plot + 1, left := a.left - 1 } :: r) →
    exec .almanacAction s = .next (if rest.any (fun x => x.firing = a.firing) then
        ((s.modAlm (fun x => { x with acts := rest })).takeAct a).settle
          (((s.modAlm (fun x => { x with acts := rest })).takeAct a).resolvePlot a.tenant a.plot)
      else (((s.modAlm (fun x => { x with acts := rest })).takeAct a).settle
        (((s.modAlm (fun x => { x with acts := rest })).takeAct a).resolvePlot a.tenant a.plot)).firingIssued a.cal a.cursor a.firing)) ∧
  (∀ (a : AlmAct) (e : Plot) (s : State), s.split = false → s.plot (s.resolvePlot a.tenant a.plot) = some e → e.st ≠ .unwritten →
    e.st ≠ .farLost →
    ((aentOf a.entry).action = 0 ∨ (aentOf a.entry).action = 1 →
      s.takeAct a = (s.watchPlot a.cal a.cursor a.firing (s.resolvePlot a.tenant a.plot)).askClaim (s.resolvePlot a.tenant a.plot)
        a.tenant (aentOf a.entry).cls (.alm a.cal a.cursor a.firing (decide ((aentOf a.entry).action = 1)))) ∧
    ((aentOf a.entry).action = 3 → (aentOf a.entry).dropStg = false →
      s.takeAct a = s.removeClaim (s.resolvePlot a.tenant a.plot) a.tenant (aentOf a.entry).cls false)) ∧
  (∀ (a : AlmAct) (s : State), s.split = false → s.plot (s.resolvePlot a.tenant a.plot) = none → s.takeAct a = s) ∧
  (∀ (n : CalId) (c : Cal) (i : Nat) (b : List Byte) (s : State), s.cal n.toNat = some c → c.loading = some (i, b) →
    s.alm.acts.any (fun a => a.cal = n.toNat) = false →
    exec (.almanacLoadCommit n) s =
      .next ((s.commitCal n.toNat c.owner b).modOp i (fun o => { o with done := some .ok }))) ∧
  (∀ (n : CalId) (c : Cal) (s : State), s.cal n.toNat = some c → s.alm.acts.any (fun a => a.cal = n.toNat) = true →
    exec (.almanacLoadCommit n) s = .next s) ∧
  (∀ (n : CalId) (s : State), s.cal n.toNat = none ∨ (∃ c, s.cal n.toNat = some c ∧ c.loading = none) →
    exec (.almanacLoadCommit n) s = .next s) ∧
  (∀ (n t : Nat) (b : List Byte) (s : State), (aimgOf b).layers ≠ 0 → s.cal n = none →
    ∃ k, (s.commitCal n t b).cal n = some k ∧ k.owner = t ∧ k.layers = (aimgOf b).layers ∧ k.entries = (aimgOf b).entries ∧
      k.triggers = (aimgOf b).triggers ∧ ∀ x ∈ k.cursors, x.2.pos = none) ∧
  (∀ (n : CalId) (i : BitVec 4) (u : Tenant) (src : BitVec 2) (c : Cal) (s : State), s.conflict = false → s.cal n.toNat = some c →
    c.loading = none → i ≠ 0#4 → c.cursorOf u.toNat = none → tfind i.toNat c.cursors = none → src ≠ 3#2 →
    s.entriesMapped u.toNat c.entries = true →
    Yields (.almBind n i u src) s (fun t => ∃ k v, t.cal n.toNat = some k ∧ tfind i.toNat k.cursors = some v ∧ v.pos = none))

/-- The steward's calendar commands (R118, R119, Table ALM-8): a bind gives the cursor its tenant and source with no
position, an unbind takes it away with its queue, a clear takes its position, an unload takes the calendar, and a new owner
takes cursor 0; each then answers OK. Each is refused, its status written and nothing else changed, with STEWARD_CONFLICT,
with BAD_DESCRIPTOR where no calendar is loaded, and with SLOT_BUSY while a load runs; a bind or unbind of cursor 0, a bind
of a tenant or cursor that the calendar has, the reserved source, and a new owner that holds another cursor are
BAD_DESCRIPTOR, and a bind or a new owner whose tenant does not map the entries is PERMISSION. -/
def Obligations.CalendarsAreBoundClearedAndReclaimed : Prop :=
  (∀ (n : CalId) (i : BitVec 4) (u : Tenant) (src : BitVec 2) (c : Cal) (s : State), s.conflict = false → s.cal n.toNat = some c →
    c.loading = none → i ≠ 0#4 → c.cursorOf u.toNat = none → tfind i.toNat c.cursors = none → src ≠ 3#2 →
    s.entriesMapped u.toNat c.entries = true →
    exec (.almBind n i u src) s = .next ((s.setCal n.toNat { c with
      cursors := tput i.toNat { tenant := u.toNat, src := src } c.cursors }).bindStatus .ok)) ∧
  (∀ (n : CalId) (i : BitVec 4) (c : Cal) (s : State), s.conflict = false → s.cal n.toNat = some c → c.loading = none → i ≠ 0#4 →
    exec (.almUnbind n i) s = .next ((s.setCal n.toNat { c with
      cursors := tdel i.toNat c.cursors, queue := c.queue.filter (fun e => e.1 ≠ i.toNat) }).bindStatus .ok)) ∧
  (∀ (n : CalId) (i : BitVec 4) (c : Cal) (v : Cursor) (s : State), s.conflict = false → s.cal n.toNat = some c →
    c.loading = none → tfind i.toNat c.cursors = some v →
    exec (.almClearPosition n i) s = .next ((s.setCal n.toNat { c with
      cursors := tput i.toNat { v with pos := none } c.cursors }).bindStatus .ok)) ∧
  (∀ (n : CalId) (c : Cal) (s : State), s.conflict = false → s.cal n.toNat = some c → c.loading = none →
    Yields (.almReclaimUnload n) s (fun t => t.cal n.toNat = none ∧ (∀ d, d ≠ n.toNat → t.cal d = s.cal d) ∧
      t.stw Reg.ALM_BSTAT = 0#32 ∧ t = { s with alm := t.alm, reg := t.reg })) ∧
  (∀ (n : CalId) (u : Tenant) (src : BitVec 2) (c : Cal) (s : State), s.conflict = false → s.cal n.toNat = some c →
    c.loading = none → src ≠ 3#2 → c.cursors.any (fun e => e.1 ≠ 0 && e.2.tenant = u.toNat) = false →
    s.entriesMapped u.toNat c.entries = true →
    Yields (.almNewOwner n u src) s (fun t => ∃ k, t.cal n.toNat = some k ∧ k.owner = u.toNat ∧
      tfind 0 k.cursors = some { tenant := u.toNat, src := src } ∧ k.entries = c.entries ∧
      (∀ d, d ≠ n.toNat → t.cal d = s.cal d) ∧ t.stw Reg.ALM_BSTAT = 0#32)) ∧
  (∀ (n : CalId) (i : BitVec 4) (u : Tenant) (src : BitVec 2) (s : State), s.conflict = true →
    exec (.almBind n i u src) s = .next (s.bindStatus .stewardConflict) ∧
    exec (.almUnbind n i) s = .next (s.bindStatus .stewardConflict) ∧
    exec (.almClearPosition n i) s = .next (s.bindStatus .stewardConflict) ∧
    exec (.almReclaimUnload n) s = .next (s.bindStatus .stewardConflict) ∧
    exec (.almNewOwner n u src) s = .next (s.bindStatus .stewardConflict)) ∧
  (∀ (n : CalId) (i : BitVec 4) (u : Tenant) (src : BitVec 2) (s : State), s.conflict = false → s.cal n.toNat = none →
    exec (.almBind n i u src) s = .next (s.bindStatus .badDescriptor) ∧
    exec (.almUnbind n i) s = .next (s.bindStatus .badDescriptor) ∧
    exec (.almClearPosition n i) s = .next (s.bindStatus .badDescriptor) ∧
    exec (.almReclaimUnload n) s = .next (s.bindStatus .badDescriptor) ∧
    exec (.almNewOwner n u src) s = .next (s.bindStatus .badDescriptor)) ∧
  (∀ (n : CalId) (i : BitVec 4) (u : Tenant) (src : BitVec 2) (c : Cal) (s : State), s.conflict = false → s.cal n.toNat = some c →
    c.loading ≠ none →
    exec (.almBind n i u src) s = .next (s.bindStatus .slotBusy) ∧
    exec (.almUnbind n i) s = .next (s.bindStatus .slotBusy) ∧
    exec (.almClearPosition n i) s = .next (s.bindStatus .slotBusy) ∧
    exec (.almReclaimUnload n) s = .next (s.bindStatus .slotBusy) ∧
    exec (.almNewOwner n u src) s = .next (s.bindStatus .slotBusy)) ∧
  (∀ (n : CalId) (u : Tenant) (src : BitVec 2) (c : Cal) (s : State), s.conflict = false → s.cal n.toNat = some c →
    c.loading = none →
    exec (.almBind n 0#4 u src) s = .next (s.bindStatus .badDescriptor) ∧
    exec (.almUnbind n 0#4) s = .next (s.bindStatus .badDescriptor)) ∧
  (∀ (n : CalId) (i : BitVec 4) (u : Tenant) (src : BitVec 2) (c : Cal) (s : State), s.conflict = false → s.cal n.toNat = some c →
    c.loading = none → i ≠ 0#4 → c.cursorOf u.toNat = none → tfind i.toNat c.cursors = none → src ≠ 3#2 →
    s.entriesMapped u.toNat c.entries = false → exec (.almBind n i u src) s = .next (s.bindStatus .permission)) ∧
  (∀ (n : CalId) (i : BitVec 4) (u : Tenant) (src : BitVec 2) (c : Cal) (s : State), s.conflict = false → s.cal n.toNat = some c →
    c.loading = none →
    ((c.cursorOf u.toNat).isSome = true ∨ (tfind i.toNat c.cursors).isSome = true ∨ src = 3#2 →
      exec (.almBind n i u src) s = .next (s.bindStatus .badDescriptor)) ∧
    (src = 3#2 ∨ c.cursors.any (fun e => e.1 ≠ 0 && e.2.tenant = u.toNat) = true →
      exec (.almNewOwner n u src) s = .next (s.bindStatus .badDescriptor)) ∧
    (src ≠ 3#2 → c.cursors.any (fun e => e.1 ≠ 0 && e.2.tenant = u.toNat) = false → s.entriesMapped u.toNat c.entries = false →
      exec (.almNewOwner n u src) s = .next (s.bindStatus .permission)) ∧
    (tfind i.toNat c.cursors = none → Yields (.almClearPosition n i) s (fun t => t.stw Reg.ALM_BSTAT = 0#32 ∧
      t.cal n.toNat = some c ∧ t = { s with alm := t.alm, reg := t.reg })))

/-- Table slots and scale windows (R150, R151, R158, Tables CMP-11, CMP-23, CMP-24): a drained generation retires once no
block is bound to it, and not before; an unload takes the current generation away, to drain where a block is bound to it,
and an owner change names the tenant, each answering OK; one that a check refuses and the reserved OP change only the
status, which is STEWARD_CONFLICT or BAD_DESCRIPTOR for the latter; a scale window written with ENABLE is put in force where
its layout is one and its plots lie free, and sets ERR otherwise; written without, it is not in force. -/
def Obligations.TableSlotsAndScaleWindows : Prop :=
  (∀ (n : BitVec 8) (g : Gen) (s : State), (s.tslot n.toNat).drain = some g → s.boundTo n.toNat g.gen = 0 →
    Yields (.tableGenerationRetire n) s (fun t => (t.tslot n.toNat).drain = none ∧
      (t.tslot n.toNat).cur = (s.tslot n.toNat).cur ∧ t = { s with cmp := t.cmp })) ∧
  (∀ (n : BitVec 8) (g : Gen) (s : State), (s.tslot n.toNat).drain = some g → s.boundTo n.toNat g.gen ≠ 0 →
    exec (.tableGenerationRetire n) s = .next s) ∧
  (∀ s : State, s.tcmdCheck false true = .ok → exec .cmpTableUnload s = .next ((s.unloadTable s.tsel).tcmdStatus .ok)) ∧
  (∀ (u : Tenant) (s : State), s.tcmdCheck false false = .ok →
    Yields (.cmpTableOwner u) s (fun t => (t.tslot s.tsel).owner = u.toNat ∧ (t.tslot s.tsel).cur = (s.tslot s.tsel).cur ∧
      t.cmp.tcmdStatus = 0#8 ∧ t = { s with cmp := t.cmp })) ∧
  (∀ (n : Nat) (g : Gen) (s : State), (s.tslot n).cur = some g →
    ((s.unloadTable n).tslot n).cur = none ∧
    ((s.unloadTable n).tslot n).drain = (if s.boundTo n g.gen = 0 then none else some g)) ∧
  (∀ (st : Status) (s : State), s.tcmdCheck false true = st → st ≠ .ok → exec .cmpTableUnload s = .next (s.tcmdStatus st)) ∧
  (∀ (u : Tenant) (st : Status) (s : State), s.tcmdCheck false false = st → st ≠ .ok →
    exec (.cmpTableOwner u) s = .next (s.tcmdStatus st)) ∧
  (∀ s : State, exec .cmpTcmdReserved s =
    .next (s.tcmdStatus (if s.conflict then .stewardConflict else .badDescriptor))) ∧
  (∀ (n : BitVec 6) (v new : W32) (w : SWin) (s : State),
    new = (v &&& 0xFF#32) ||| (s.stw (Reg.CMP_SW_CTL + 32 * n.toNat) &&& 0x40000000#32 &&& ~~~v) →
    w = (s.setStw (Reg.CMP_SW_CTL + 32 * n.toNat) new).swin n.toNat →
    Yields (.scaleWindowEnable n v) s (fun t =>
      t.stw (Reg.CMP_SW_CTL + 32 * n.toNat) =
        (if bit 31 v then
          if layOk w.fmt w.lay && (s.setStw (Reg.CMP_SW_CTL + 32 * n.toNat) new).swinFree n.toNat w then setBit 31 true new
          else setBit 30 true new
        else new) ∧
      t = { s with reg := t.reg }))

/-- Submission rings (R233, R236, R241, R413): enabling a DISABLED ring of a tenant whose RINGS function is ready runs it
with HEAD and TAIL 0 and its size clamped to 4 to 16, and where the function is not ready the ring stays DISABLED and ENABLE
reads 0; disabling a RUNNING or STOPPED one gives up what is fetched and takes it to DISABLED where nothing of it is in
flight, else to DISABLING; an enable of a ring that is not DISABLED, and a disable of one that is DISABLED or DISABLING,
leaves the ring as it is; clearing ERR of a STOPPED enabled ring resumes it at HEAD, clearing that of another leaves its
state, and ECAUSE stays. -/
def Obligations.SubmissionRingsEnableDisableAndRestart : Prop :=
  (∀ (t : Tenant) (r : BitVec 4) (v : W32) (s : State), (s.ring t.toNat r.toNat).st = .disabled → s.fnReady t.toNat .rings = true →
    Yields (.ringEnable t r v) s (fun u => (u.ring t.toNat r.toNat).st = .running ∧ (u.ring t.toNat r.toNat).head = 0 ∧
      (u.ring t.toNat r.toNat).tail = 0 ∧ bits 4 0 (u.bar t.toNat (Reg.DSC_SQ_CFG + 32 * r.toNat)) = min 16 (max 4 (bits 4 0 v)) ∧
      bit 31 (u.bar t.toNat (Reg.DSC_SQ_CFG + 32 * r.toNat)) = true ∧
      (∀ n q, 16 * n + q ≠ 16 * t.toNat + r.toNat → u.ring n q = s.ring n q))) ∧
  (∀ (t : Tenant) (r : BitVec 4) (v : W32) (s : State), (s.ring t.toNat r.toNat).st = .disabled → s.fnReady t.toNat .rings = false →
    Yields (.ringEnable t r v) s (fun u => u.rings = s.rings ∧ bit 31 (u.bar t.toNat (Reg.DSC_SQ_CFG + 32 * r.toNat)) = false ∧
      u = { s with reg := u.reg })) ∧
  (∀ (t : Tenant) (r : BitVec 4) (v : W32) (s : State), (s.ring t.toNat r.toNat).st = .running ∨ (s.ring t.toNat r.toNat).st = .stopped →
    Yields (.ringDisable t r v) s (fun u =>
      (u.ring t.toNat r.toNat).st = (if s.ringFlight t.toNat r.toNat = 0 then .disabled else .disabling) ∧
      (u.ring t.toNat r.toNat).fetched = [] ∧ u.ops = s.ops ∧
      (∀ n q, 16 * n + q ≠ 16 * t.toNat + r.toNat → u.ring n q = s.ring n q))) ∧
  (∀ (t : Tenant) (r : BitVec 4) (v : W32) (s : State),
    ((s.ring t.toNat r.toNat).st ≠ .disabled → Yields (.ringEnable t r v) s (fun u => u = { s with reg := u.reg } ∧
      bits 4 0 (u.bar t.toNat (Reg.DSC_SQ_CFG + 32 * r.toNat)) = bits 4 0 (s.sqCfg t.toNat r.toNat))) ∧
    ((s.ring t.toNat r.toNat).st = .disabled ∨ (s.ring t.toNat r.toNat).st = .disabling →
      Yields (.ringDisable t r v) s (fun u => u = { s with reg := u.reg } ∧
        bit 31 (u.bar t.toNat (Reg.DSC_SQ_CFG + 32 * r.toNat)) = false))) ∧
  (∀ (t : Tenant) (r : BitVec 4) (s : State), (s.ring t.toNat r.toNat).st = .stopped → (s.ring t.toNat r.toNat).err = true →
    bit 31 (s.sqCfg t.toNat r.toNat) = true →
    exec (.ringRestart t r) s = .next (s.setRing t.toNat r.toNat { s.ring t.toNat r.toNat with err := false, st := .running })) ∧
  (∀ (t : Tenant) (r : BitVec 4) (s : State), (s.ring t.toNat r.toNat).st ≠ .stopped ∨ (s.ring t.toNat r.toNat).err = false ∨
      bit 31 (s.sqCfg t.toNat r.toNat) = false →
    exec (.ringRestart t r) s = .next (s.setRing t.toNat r.toNat { s.ring t.toNat r.toNat with err := false }))

/-- Doorbells (R49, R237 to R240): a doorbell of a RUNNING or STOPPED ring moves its TAIL modulo the size; one of a DISABLED
or DISABLING ring changes nothing; one of a draining tenant is refused and counted; a doorbell line write completes, and its
words act unless it is poisoned: the word of a RUNNING ring with all four bytes written and VALID set moves that ring's
TAIL; a read of the line answers it; where no doorbell line is in force neither has an effect. -/
def Obligations.DoorbellsMoveTails : Prop :=
  (∀ (t : Tenant) (v : W32) (s : State), s.draining t.toNat = false →
    (s.ring t.toNat (bits 19 16 v)).st = .running ∨ (s.ring t.toNat (bits 19 16 v)).st = .stopped →
    exec (.mmioDoorbell t v) s = .next (s.setRing t.toNat (bits 19 16 v)
      { s.ring t.toNat (bits 19 16 v) with tail := bits 15 0 v % s.sqSize t.toNat (bits 19 16 v) })) ∧
  (∀ (t : Tenant) (v : W32) (s : State), s.draining t.toNat = false →
    (s.ring t.toNat (bits 19 16 v)).st = .disabled ∨ (s.ring t.toNat (bits 19 16 v)).st = .disabling →
    exec (.mmioDoorbell t v) s = .next s) ∧
  (∀ (t : Tenant) (v : W32) (s : State), s.draining t.toNat = true →
    exec (.mmioDoorbell t v) s = .next ((s.cntBar t.toNat Reg.PRT_FLR 31 16 1).modLd t.toNat
      (fun l => { l with drainRefused := l.drainRefused + 1 }))) ∧
  (∀ (t : Tenant) (d : Line) (be : W64) (s : State), s.dblOn t.toNat = true →
    exec (.doorbellLineWrite t d be false) s =
      .next ((s.doorbellWords t.toNat d be false).emit (.memCmp t.toNat .ok ((s.doorbellWords t.toNat d be false).devLoad t.toNat 0))) ∧
    exec (.doorbellLineWrite t d be true) s = .next (s.emit (.memCmp t.toNat .ok (s.devLoad t.toNat 0)))) ∧
  (∀ (t : Tenant) (s : State), s.dblOn t.toNat = true →
    exec (.doorbellLineRead t) s = .next (s.emit (.memData t.toNat (s.doorbellLine t.toNat) (s.devLoad t.toNat 0)))) ∧
  (∀ (t : Tenant) (d : Line) (be : W64) (poison : Bool) (s : State), s.dblOn t.toNat = false →
    exec (.doorbellLineWrite t d be poison) s = .next s ∧ exec (.doorbellLineRead t) s = .next s) ∧
  (∀ (t r : Nat) (d : Line) (be : W64) (s : State), s.draining t = false → r < 16 → (s.ring t r).st = .running →
    bits (4 * r + 3) (4 * r) be = 15 → bit 31 (lineWord d r) = true →
    ((s.doorbellWords t d be false).ring t r).tail = bits 15 0 (lineWord d r) % s.sqSize t r)

/-- Fetching descriptors (R241, R242): a fetch asks for the descriptors of the next ring in rotation that are published and
not fetched, at most 8 consecutive slots, none past the end of the ring, in one read under a tag, which waits while Bus
Master Enable is clear; its lines are appended to what the ring has fetched; a fetch that ends with poison, an Unsupported
Request or a Completer Abort stops the ring with its cause and gives up what is fetched; a completion of no tag in use is
discarded, and counted where it comes for a tag in quarantine; with no ring to fetch from, or during a drain, nothing
happens. -/
def Obligations.RingsFetchTheirDescriptors : Prop :=
  (∀ (t : Tenant) (r : Nat) (s : State), s.draining t.toNat = false → s.nextRing t.toNat = some r → (s.ld t.toNat).bme = true →
    Yields (.ringFetch t) s (fun u => ∃ g first cnt, cnt = min (min 8 (s.unfetched t.toNat r)) (s.sqSize t.toNat r - first) ∧
      first = ((s.ring t.toNat r).head + (s.ring t.toNat r).fetched.length) % s.sqSize t.toNat r ∧
      u.tags = s.tags ++ [{ tag := g, tenant := t.toNat, use := .fetch r first cnt }] ∧
      (u.ring t.toNat r).fetching = true ∧
      u.out = s.out ++ [.dmaRead t.toNat g (BitVec.ofNat 64 (s.sqBase t.toNat r + 64 * first)) (64 * cnt)])) ∧
  (∀ (t : Tenant) (r : Nat) (s : State), s.draining t.toNat = false → s.nextRing t.toNat = some r → (s.ld t.toNat).bme = false →
    Yields (.ringFetch t) s (fun u => (u.ring t.toNat r).fetching = true ∧ u.tags = s.tags ∧ u.out = s.out)) ∧
  (∀ (t : Tenant) (s : State), s.draining t.toNat = true ∨ s.nextRing t.toNat = none → exec (.ringFetch t) s = .next s) ∧
  (∀ (g t r first n : Nat) (l : List Line) (s : State), s.tagOf g = some { tag := g, tenant := t, use := .fetch r first n } →
    n ≠ 0 → (s.ring t r).st = .running → ((s.ring t r).head + (s.ring t r).fetched.length) % s.sqSize t r = first →
    Yields (.descriptorFetchCompletion g (.data l)) s (fun u =>
      u.ring t r = { s.ring t r with fetching := false, fetched := (s.ring t r).fetched ++ l.take n } ∧
      u.tags = s.tags.filter (fun x => x.tag ≠ g) ∧ u = { s with rings := u.rings, tags := u.tags })) ∧
  (∀ (g t r first n cause : Nat) (c : Cpl) (s : State), s.tagOf g = some { tag := g, tenant := t, use := .fetch r first n } → n ≠ 0 →
    (s.ring t r).st = .running → (c = .poison ∧ cause = 3 ∨ (c = .unsupportedRequest ∨ c = .completerAbort) ∧ cause = 2) →
    Yields (.descriptorFetchCompletion g c) s (fun u => (u.ring t r).st = .stopped ∧ (u.ring t r).err = true ∧
      (u.ring t r).ecause = cause ∧ (u.ring t r).fetched = [] ∧ u.ops = s.ops)) ∧
  (∀ (g : Nat) (c : Cpl) (s : State), s.tagOf g = none →
    exec (.descriptorFetchCompletion g c) s = .next (match s.lateTag g with
      | some t => s.unexpected t
      | none => s))

/-- Taking and completing (R243 to R247, R271, R272, Table DSC-19): a descriptor at HEAD whose fences are met and that finds
completion room and a slot is taken: HEAD passes it, and one with a bad field, which needs no parameter block to be found,
completes with BAD_DESCRIPTOR, the lowest bad offset and ACC, one with a parameter block that is mapped is decided when the
block has been read, and one without a parameter block that passes its checks is in flight with its tenant and ring; one
that finds no completion room, or no slot, is counted once and waits; one whose fence is not met waits, and with none at
HEAD nothing happens; an operation whose status is decided leaves what is in flight, and another stays. Completion rings and
interrupts (R236, R272, R273, R276): enabling a ring not in use sets TAIL 0, HEAD 0 and PHASE 1 and its clamped size;
enabling one in use changes no part of its place; disabling one with nothing in flight clears ENABLE, which stays set while
something is; a HEAD within what is unread is taken and any other sets the error bit; a coalescing period ends, and where it
owes a message the message is raised; a tenant with no period running is not changed. -/
def Obligations.DescriptorsCompleteThroughTheirRings : Prop :=
  (∀ (t : Tenant) (r : BitVec 4) (d : Line) (n : Nat) (s : State), s.headDesc t.toNat r.toNat = some d → s.roomCq t.toNat = true →
    s.fencesMet t.toNat r.toNat d = true → s.slotFree t.toNat r.toNat d = true → firstBad (headBad d ++ s.bodyBad d) = some n →
    n ≤ 16 ∨ paramOf d = none →
    exec (.descriptorTake t r) s = .next (s.takeWith t.toNat r.toNat d none) ∧
    s.takeWith t.toNat r.toNat d none = (s.setRing t.toNat r.toNat { s.ring t.toNat r.toNat with
      head := ((s.ring t.toNat r.toNat).head + 1) % s.sqSize t.toNat r.toNat,
      fetched := (s.ring t.toNat r.toNat).fetched.drop 1, waitCq := false, waitSlot := none }).complete
        t.toNat r.toNat d .badDescriptor (n % 64) true) ∧
  (∀ (t : Tenant) (r : BitVec 4) (d : Line) (s : State), s.headDesc t.toNat r.toNat = some d → s.roomCq t.toNat = false →
    exec (.descriptorTake t r) s =
      .next (if (s.ring t.toNat r.toNat).waitCq then s
        else (s.setRing t.toNat r.toNat { s.ring t.toNat r.toNat with waitCq := true }).cntBar t.toNat Reg.DSC_CNT 31 16 1)) ∧
  (∀ (t : Tenant) (r : BitVec 4) (d : Line) (s : State), s.headDesc t.toNat r.toNat = some d → s.roomCq t.toNat = true →
    s.fencesMet t.toNat r.toNat d = true → s.slotFree t.toNat r.toNat d = false →
    exec (.descriptorTake t r) s =
      .next (if (s.ring t.toNat r.toNat).waitSlot.isSome then s
        else State.cntBar t.toNat Reg.DSC_CNT 15 0 1
          { s.setRing t.toNat r.toNat { s.ring t.toNat r.toNat with waitSlot := some (s.now, s.nextReq) } with
            nextReq := s.nextReq + 1 })) ∧
  (∀ (t : Tenant) (r : BitVec 4) (d : Line) (s : State), s.headDesc t.toNat r.toNat = some d → s.roomCq t.toNat = true →
    s.fencesMet t.toNat r.toNat d = false → exec (.descriptorTake t r) s = .next s) ∧
  (∀ (t : Tenant) (r : BitVec 4) (s : State), s.headDesc t.toNat r.toNat = none → exec (.descriptorTake t r) s = .next s) ∧
  (∀ (t : Tenant) (r : BitVec 4) (d : Line) (s : State), s.headDesc t.toNat r.toNat = some d → s.roomCq t.toNat = true →
    s.fencesMet t.toNat r.toNat d = true → s.slotFree t.toNat r.toNat d = true → firstBad (headBad d ++ s.bodyBad d) = none →
    paramOf d = none → (s.setRing t.toNat r.toNat { s.ring t.toNat r.toNat with
      head := ((s.ring t.toNat r.toNat).head + 1) % s.sqSize t.toNat r.toNat,
      fetched := (s.ring t.toNat r.toNat).fetched.drop 1, waitCq := false, waitSlot := none }).acceptCheck t.toNat d none = none →
    Yields (.descriptorTake t r) s (fun u => ∃ o, o.id = s.nextOp ∧ o.tenant = t.toNat ∧ o.ring = r.toNat ∧ o.desc = d ∧
      u.ops = s.ops ++ [o] ∧ u.nextOp = s.nextOp + 1 ∧
      (u.ring t.toNat r.toNat).head = ((s.ring t.toNat r.toNat).head + 1) % s.sqSize t.toNat r.toNat)) ∧
  (∀ (i : Nat) (o : Op) (c : Status) (s : State), s.op i = some o → o.done = some c →
    Yields (.operationComplete i) s (fun u => u.ops = s.ops.filter (fun x => x.id ≠ o.id) ∧ u.nextOp = s.nextOp)) ∧
  (∀ (i : Nat) (s : State), s.op i = none ∨ (∃ o, s.op i = some o ∧ o.done = none) → exec (.operationComplete i) s = .next s) ∧
  (∀ (t : Tenant) (r : BitVec 4) (d : Line) (ua len : Nat) (b : List Byte) (u : Machine.Acc) (s v : State),
    s.headDesc t.toNat r.toNat = some d → s.roomCq t.toNat = true → s.fencesMet t.toNat r.toNat d = true →
    s.slotFree t.toNat r.toNat d = true → (headBad d ++ s.bodyBad d).any (fun e => e.2 && e.1 ≤ 16) = false → s.fnReady t.toNat .mem = true →
    paramOf d = some (ua, len) → s.mapSrc t.toNat ua len = true →
    u = { t := t.toNat, cls := min (dClass d) (cfgClassMax (s.wttOf t.toNat).cfg), half := tenantHalf t.toNat, row := 1,
          who := takeReader t.toNat r.toNat, encs := s.opEncs t.toNat } → u.bytes ua len s = .ok b v →
    exec (.descriptorTake t r) s = .next ((u.ends v).takeWith t.toNat r.toNat d (some (.ok b)))) ∧
  (∀ (t : Tenant) (v : W32) (s : State), s.cqOn t.toNat = false →
    Yields (.cqEnable t v) s (fun u => u.cqOn t.toNat = true ∧
      u.engOf t.toNat = { s.engOf t.toNat with cqTail := 0, cqPhase := true, cqHead := 0 } ∧
      u.barF t.toNat Reg.DSC_CQ_CFG 4 0 = min 16 (max 4 (bits 4 0 v)) ∧ u.barF t.toNat Reg.DSC_CQ_CFG 23 8 = bits 23 8 v ∧
      u = { s with reg := u.reg, eng := u.eng })) ∧
  (∀ (t : Tenant) (v : W32) (s : State), s.cqOn t.toNat = true →
    Yields (.cqEnable t v) s (fun u => u.cqOn t.toNat = true ∧ u.barF t.toNat Reg.DSC_CQ_CFG 4 0 = s.barF t.toNat Reg.DSC_CQ_CFG 4 0 ∧
      u = { s with reg := u.reg })) ∧
  (∀ (t : Tenant) (v : W32) (s : State), s.cqOn t.toNat = true → s.tenantFlight t.toNat > 0 →
    Yields (.cqDisable t v) s (fun u => u.cqOn t.toNat = true ∧ u = { s with reg := u.reg })) ∧
  (∀ (t : Tenant) (v : W32) (s : State), s.tenantFlight t.toNat = 0 →
    Yields (.cqDisable t v) s (fun u => u.cqOn t.toNat = false ∧ u = { s with reg := u.reg })) ∧
  (∀ (t : Tenant) (v : W32) (s : State),
    (bits 15 0 v + s.cqSize t.toNat - (s.engOf t.toNat).cqHead % s.cqSize t.toNat) % s.cqSize t.toNat ≤ s.cqUnread t.toNat →
    exec (.cqHeadWrite t v) s = .next (s.modEng t.toNat (fun e => { e with cqHead := (e.cqHead +
      (bits 15 0 v + s.cqSize t.toNat - e.cqHead % s.cqSize t.toNat) % s.cqSize t.toNat) % s.cqSize t.toNat }))) ∧
  (∀ (t : Tenant) (v : W32) (s : State),
    s.cqUnread t.toNat < (bits 15 0 v + s.cqSize t.toNat - (s.engOf t.toNat).cqHead % s.cqSize t.toNat) % s.cqSize t.toNat →
    exec (.cqHeadWrite t v) s = .next (s.modBar t.toNat Reg.DSC_CQ_STAT (setBit 14 true))) ∧
  (∀ (t : Tenant) (s : State), (s.engOf t.toNat).coalescing = true →
    exec (.interruptCoalesceExpire t) s =
      .next (if (s.engOf t.toNat).coalOwed then
          (s.setEng t.toNat { s.engOf t.toNat with coalescing := false, coalOwed := false }).raiseMsix t.toNat 0
        else s.setEng t.toNat { s.engOf t.toNat with coalescing := false, coalOwed := false })) ∧
  (∀ (t : Tenant) (s : State), (s.engOf t.toNat).coalescing = false → exec (.interruptCoalesceExpire t) s = .next s)

/-- The data operations (R246, R253 to R261): work that ends decides the operation's status and detail, work that fails
decides it with the failure, and work that must wait changes nothing but what its Headgate admitted. FILL and COMPARE run on
the ring engine of the tenant's port; REDUCE, EMBED_GATHER and a converting COPY run as a kernel, on its grain's half where
the grain may be created and a core of the half is in service, and end with FENCED_UNIT where no core of the module is; a
plain COPY ends OK, or with the first poison's status and the number of lines it stored poisoned, and with the failure of a
line that could not be stored. What the work writes (R254, R258, R259): a FILL within one line is one store of its pattern's
bytes, which repeat from the address; a COMPARE of no difference answers DETAIL 0 and one of a difference DETAIL 1; a step
of REDUCE is SUM, MAX or MIN of its pairs, and the first element of a MAX is taken as it is. -/
def Obligations.DataOperationsRunAndComputeTheirResults : Prop :=
  (∀ (o : Op) (m : Work (Status × Nat)) (c : Status) (n : Nat) (s u : State), m s = .ok (c, n) u →
    o.run m s = (o.unit.ends u).opDone o.id c n) ∧
  (∀ (o : Op) (m : Work (Status × Nat)) (c : Status) (s u : State), m s = .error (.fail c) u →
    o.run m s = (o.unit.ends u).opDone o.id c 0) ∧
  (∀ (o : Op) (m : Work (Status × Nat)) (w : WaitOn) (s u : State), m s = .error (.wait w) u → o.run m s = o.unit.waits w u s) ∧
  (∀ (i : Nat) (o : Op) (s : State), s.op i = some o → o.done = none →
    (dOp o.desc = 1 → exec (.fill i) s = .next (o.run (fillWork o) s)) ∧
    (dOp o.desc = 3 → exec (.compare i) s = .next (o.run (compareWork o) s)) ∧
    (dOp o.desc = 4 → exec (.reduce i) s = .next (s.kernel o none (reduceWork o))) ∧
    (dOp o.desc = 5 → exec (.embedGather i) s = .next (s.kernel o none (gatherWork o))) ∧
    (isConv o.desc = true → exec (.copyConvert i) s = .next (s.kernel o none (convertWork o)))) ∧
  (∀ (o : Op) (g : Grain) (m : Machine.Acc → Work (Status × Nat)) (c : Status) (n : Nat) (s u v : State), s.tcUp = true →
    s.kernelGrain o = (some g, u) → u.cutFrom o.tenant g.half = false → u.tcServing g.half ≠ [] →
    m (o.unitOn g.half) u = .ok (c, n) v → s.kernel o none m = ((o.unitOn g.half).ends v).kernelEnd o c n) ∧
  (∀ (o : Op) (g : Grain) (m : Machine.Acc → Work (Status × Nat)) (c : Status) (s u v : State), s.tcUp = true →
    s.kernelGrain o = (some g, u) → u.cutFrom o.tenant g.half = false → u.tcServing g.half ≠ [] →
    m (o.unitOn g.half) u = .error (.fail c) v →
    s.kernel o none m = ((o.unitOn g.half).ends v).kernelFault o (if c = .permission then 3 else 5) 0 g.core c) ∧
  (∀ (o : Op) (m : Machine.Acc → Work (Status × Nat)) (s u : State), s.tcUp = true → s.kernelGrain o = (none, u) →
    s.kernel o none m = u) ∧
  (∀ (o : Op) (m : Machine.Acc → Work (Status × Nat)) (s : State), s.tcUp = false →
    s.kernel o none m = (s.dropJob o.id).opDone o.id .fencedUnit 0) ∧
  (∀ (i : Nat) (o : Op) (s u : State), s.op i = some o → o.done = none → dOp o.desc = 2 → isConv o.desc = false →
    isImage o.desc = false →
    (spanLines (dUa o.desc 24) (dF o.desc 32 8)).foldlM (copyLine o) (none, 0) s = .ok (none, 0) u →
    exec (.copy i) s = .next ((o.unit.ends u).opDone o.id .ok 0)) ∧
  (∀ (i : Nat) (o : Op) (c : Status) (n : Nat) (s u : State), s.op i = some o → o.done = none → dOp o.desc = 2 →
    isConv o.desc = false → isImage o.desc = false →
    (spanLines (dUa o.desc 24) (dF o.desc 32 8)).foldlM (copyLine o) (none, 0) s = .ok (some c, n) u →
    exec (.copy i) s = .next ((o.unit.ends u).opDone o.id c n)) ∧
  (∀ (i : Nat) (o : Op) (c : Status) (s u : State), s.op i = some o → o.done = none → dOp o.desc = 2 →
    isConv o.desc = false → isImage o.desc = false →
    (spanLines (dUa o.desc 24) (dF o.desc 32 8)).foldlM (copyLine o) (none, 0) s = .error (.fail c) u →
    exec (.copy i) s = .next ((o.unit.ends u).modOp o.id (fun x => { x with done := some c }))) ∧
  (∀ (o : Op) (s u : State) (l : Nat), dF o.desc 24 8 ≠ 0 → dUa o.desc 16 / 64 = l →
    (dUa o.desc 16 + dF o.desc 24 8 - 1) / 64 = l →
    o.unit.store (64 * l) (linePart (dUa o.desc 16) (fillBytes (dF o.desc 32 8) (dUa o.desc 16) (dF o.desc 24 8)) l).1
      (linePart (dUa o.desc 16) (fillBytes (dF o.desc 32 8) (dUa o.desc 16) (dF o.desc 24 8)) l).2 false s = .ok () u →
    fillWork o s = .ok (.ok, 0) u) ∧
  (∀ (pat ua n i : Nat), i < n → (fillBytes pat ua n)[i]? = some (BitVec.ofNat 8 (pat / 2 ^ (8 * ((ua + i) % 8))))) ∧
  (∀ (o : Op) (s u : State), compareFrom o (dUa o.desc 16) (dUa o.desc 24) (dF o.desc 32 8) (dF o.desc 32 8 + 1) 0 s = .ok none u →
    dF o.desc 48 1 ≠ 1 → compareWork o s = .ok (.ok, 0) u) ∧
  (∀ (o : Op) (k : Nat) (s u : State), compareFrom o (dUa o.desc 16) (dUa o.desc 24) (dF o.desc 32 8) (dF o.desc 32 8 + 1) 0 s = .ok (some k) u →
    dF o.desc 48 1 ≠ 1 → compareWork o s = .ok (.ok, 1) u) ∧
  (∀ (a b : W32), reduceStep 0 (some [a]) [b] = [fadd a b] ∧ reduceStep 1 (some [a]) [b] = [fExt true a b] ∧
    reduceStep 2 (some [a]) [b] = [fExt false a b] ∧ reduceStep 1 none [a] = [a])

/-- Image install and the tier hints (R80, R86, R93, R160, R257, R268): an install whose records are all in ends OK, or
BAD_DESCRIPTOR for a bad header, with their number as DETAIL, and one whose record is in goes on; a hint on one plot of its
half, which no view under publication covers, acts on that plot by its kind, a DEMOTE with TOFAR asking for the move to Far,
and watches it until it settles; a pin of a NEAR plot adds the tenant's claim and pin and renews the plot's age. -/
def Obligations.InstallsAndTierHintsAct : Prop :=
  (∀ (i : Nat) (o : Op) (img : List Byte) (s u : State), s.op i = some o → o.done = none → isImage o.desc = true →
    o.installed = dF o.desc 32 4 → o.unit.bytes (dUa o.desc 16) 256 s = .ok img u → u.op o.id = some o →
    exec (.imageInstall i) s = .next ((o.unit.ends u).modOp o.id (fun x => { x with
      done := some (if kimgOk img then .ok else .badDescriptor), detail := x.installed % 65536 }))) ∧
  (∀ (i : Nat) (o : Op) (img : List Byte) (s u v : State), s.op i = some o → o.done = none → isImage o.desc = true →
    o.installed ≠ dF o.desc 32 4 → o.unit.bytes (dUa o.desc 16) 256 s = .ok img u → installWork o img u = .ok (some .ok) v →
    (∀ x, v.op o.id = some x → x.installed ≠ dF o.desc 32 4) →
    exec (.imageInstall i) s = .next (o.unit.ends v)) ∧
  (∀ (i p : Nat) (o : Op) (w : Op → Op) (s : State), s.op i = some o → o.done = none → o.started = false → s.split = false →
    (rangePlots (dF o.desc 16 8) (dF o.desc 24 4)).any (fun q => s.viewHeld o.tenant q) = false → s.hintPlots o = [p] →
    w = (fun x => { x with started := true, watch := [p], cut := false }) →
    (dOp o.desc = 8 → exec (.promote i) s =
      .next (((s.modOp i w).askClaim p o.tenant o.cls (.op o.id false)).settle p)) ∧
    (dOp o.desc = 9 → dF o.desc 28 1 ≠ 1 → exec (.demote i) s =
      .next (((s.modOp i w).removeClaim p o.tenant o.cls false).settle p)) ∧
    (dOp o.desc = 9 → dF o.desc 28 1 = 1 → exec (.demote i) s =
      .next ((((s.modOp i w).wantFar p o.cls o.tenant).removeClaim p o.tenant o.cls false).settle p)) ∧
    (dOp o.desc = 10 → exec (.pin i) s = .next (((s.modOp i w).askClaim p o.tenant o.cls (.op o.id true)).settle p)) ∧
    (dOp o.desc = 11 → exec (.unpin i) s = .next (((s.modOp i w).removePin p o.tenant o.cls false).settle p))) ∧
  (∀ (p t cls : Nat) (e : Plot) (s : State), s.plot p = some e → e.st = .near → s.oversize p e = false → e.claimOf t = none →
    s.nearHeadroom t = true → e.isPool = false → e.claims.all (fun c => !c.pool) = true →
    ∃ u e', s.tryClaim p t cls (.op 0 true) = (.granted, u) ∧ u.plot p = some e' ∧
      e'.claims = e.claims ++ [{ tenant := t, auto := false, pool := false }] ∧ e'.pins = nins t e.pins ∧ e'.age = s.clk.age)

/-- Operations on shared regions (R269, R288, R291): a PUBLISH of the expected version with no buffer flips the region at
once, one of a buffer that is neither current nor pinned opens the publication of the next version, one of a buffer that is
ends with SLOT_BUSY, and one of another version with STALE_VERSION, each with the region's version; an ACQUIRE pins the
current buffer and version, and a RELEASE drops the pin and ends OK; across a bridge that is down each ends with
POISON_CONSUMED, and while a publication runs each waits. -/
def Obligations.PublishAcquireAndReleaseRegions : Prop :=
  (∀ (i : Nat) (o : Op) (s : State), s.op i = some o → o.done = none → dOp o.desc = 12 → o.res = none → o.started = false →
    s.split = false → (s.region (dF o.desc 16 2)).pub = none → (s.region (dF o.desc 16 2)).ver.toNat = dF o.desc 20 4 →
    dUa o.desc 24 = 0 → s.shr.resWait = [] →
    Yields (.publish i) s (fun t => (t.region (dF o.desc 16 2)).ver = BitVec.ofNat 32 (dF o.desc 20 4 + 1) ∧
      (t.region (dF o.desc 16 2)).pub = none ∧ (t.region (dF o.desc 16 2)).cur = (s.region (dF o.desc 16 2)).cur ∧
      (∀ r, r ≠ dF o.desc 16 2 → t.region r = s.region r) ∧ t.tier = s.tier)) ∧
  (∀ (i : Nat) (o : Op) (s : State), s.op i = some o → o.done = none → dOp o.desc = 12 → o.res = none → o.started = false →
    s.split = false → (s.region (dF o.desc 16 2)).pub = none → (s.region (dF o.desc 16 2)).ver.toNat ≠ dF o.desc 20 4 →
    exec (.publish i) s = .next (o.endVersion .staleVersion (s.region (dF o.desc 16 2)).ver s)) ∧
  (∀ (i b : Nat) (o : Op) (s : State), s.op i = some o → o.done = none → dOp o.desc = 12 → o.res = none → o.started = false →
    s.split = false → (s.region (dF o.desc 16 2)).pub = none → (s.region (dF o.desc 16 2)).ver.toNat = dF o.desc 20 4 →
    dUa o.desc 24 ≠ 0 → (s.region (dF o.desc 16 2)).bufAt (dUa o.desc 24) = some b →
    ((s.region (dF o.desc 16 2)).bufHeld b = true →
      exec (.publish i) s = .next (o.endVersion .slotBusy (s.region (dF o.desc 16 2)).ver s)) ∧
    ((s.region (dF o.desc 16 2)).bufHeld b = false → s.shr.heldMap = [] →
      Yields (.publish i) s (fun t => (t.region (dF o.desc 16 2)).pub =
          some { op := i, buf := some b, ver := BitVec.ofNat 32 (dF o.desc 20 4 + 1) } ∧
        (t.region (dF o.desc 16 2)).cur = (s.region (dF o.desc 16 2)).cur))) ∧
  (∀ (o : Op) (c : Status) (v : W32) (s : State), dF o.desc 18 1 ≠ 1 →
    o.endVersion c v s = (o.unit.ends s).opDone o.id c (if c = .ok ∨ c = .staleVersion then v.toNat % 65536 else 0)) ∧
  (∀ (i : Nat) (o : Op) (s : State), s.op i = some o → o.done = none → o.res = none → o.started = false → s.split = true →
    (dOp o.desc = 12 → exec (.publish i) s = .next (s.opDone i .poisonConsumed 0)) ∧
    (dOp o.desc = 13 → exec (.acquire i) s = .next (s.opDone i .poisonConsumed 0)) ∧
    (dOp o.desc = 14 → exec (.release i) s = .next (s.opDone i .poisonConsumed 0))) ∧
  (∀ (i : Nat) (o : Op) (s : State), s.op i = some o → o.done = none → o.res = none → s.split = false →
    (s.region (dF o.desc 16 2)).pub.isSome = true →
    (dOp o.desc = 12 → exec (.publish i) s = .next s) ∧ (dOp o.desc = 13 → exec (.acquire i) s = .next s) ∧
    (dOp o.desc = 14 → exec (.release i) s = .next s)) ∧
  (∀ (i : Nat) (o : Op) (s : State), s.op i = some o → o.done = none → dOp o.desc = 13 → o.res = none → o.started = false →
    s.split = false → (s.region (dF o.desc 16 2)).pub = none →
    (s.region (dF o.desc 16 2)).pins.find? (fun p => p.tenant = o.tenant && p.buf ≠ (s.region (dF o.desc 16 2)).cur) = none →
    Yields (.acquire i) s (fun t => (t.region (dF o.desc 16 2)).pins =
        (s.region (dF o.desc 16 2)).pins.filter (fun p => p.tenant ≠ o.tenant) ++
          [{ tenant := o.tenant, buf := (s.region (dF o.desc 16 2)).cur, ver := (s.region (dF o.desc 16 2)).ver }] ∧
      (∃ x, t.op i = some x ∧ x.res = some (s.region (dF o.desc 16 2)).ver) ∧
      t = { s with shr := t.shr, ops := t.ops })) ∧
  (∀ (i : Nat) (o : Op) (s : State), s.op i = some o → o.done = none → dOp o.desc = 14 → o.started = false →
    s.split = false → (s.region (dF o.desc 16 2)).pub = none →
    (s.region (dF o.desc 16 2)).pins.find? (fun p => p.tenant = o.tenant && p.buf ≠ (s.region (dF o.desc 16 2)).cur) = none →
    Yields (.release i) s (fun t => (t.region (dF o.desc 16 2)).pins =
        (s.region (dF o.desc 16 2)).pins.filter (fun p => p.tenant ≠ o.tenant) ∧
      (∃ x, t.op i = some x ∧ x.done = some .ok) ∧ t = { s with shr := t.shr, ops := t.ops }))

/-- The loads, MARK and FENCE (R107, R116, R152, R227, R248, R249): a table or program image that has been read is checked,
and loaded where its status is OK, and a calendar's image that passes its checks is loaded into a free calendar at once;
across a bridge that is down, and where the image's read fails, a table or program load ends with POISON_CONSUMED; a mark is
sent when its turn comes, and one that is refused ends with its status; a fence with no earlier operation in flight ends OK,
and waits while there is one. -/
def Obligations.LoadsMarksAndFencesComplete : Prop :=
  (∀ (i : Nat) (o : Op) (img : List Byte) (c : Status) (s s1 u v : State), s.op i = some o → o.done = none → dOp o.desc = 15 →
    s.split = false → s1 = s.modOp i (fun x => { x with started := true }) →
    o.unit.bytes (dUa o.desc 16) 4096 s1 = .ok img u → v = o.unit.ends u →
    c = v.tableStatus (dF o.desc 24 1) o.tenant img (v.otherLoad i 15 (dF o.desc 24 2)) →
    exec (.tableLoad i) s =
      .next ((if c = .ok then v.loadTable (dF o.desc 24 1) o.tenant img else v).opDone i c 0)) ∧
  (∀ (i : Nat) (o : Op) (h code : List Byte) (c : Status) (s s1 u v w : State), s.op i = some o → o.done = none → dOp o.desc = 16 →
    s.split = false → s1 = s.modOp i (fun x => { x with started := true }) →
    o.unit.bytes (dUa o.desc 16) 64 s1 = .ok h u →
    ((pimgHeadOk h && u.mapSrc o.tenant (dUa o.desc 16) (64 + pimgLen h)) = true ∧
      o.unit.bytes (dUa o.desc 16 + 64) (pimgLen h) u = .ok code v ∨
     (pimgHeadOk h && u.mapSrc o.tenant (dUa o.desc 16) (64 + pimgLen h)) = false ∧ code = [] ∧ v = u) →
    w = o.unit.ends v → c = w.progStatus (dF o.desc 24 2) o.tenant (dUa o.desc 16) h code (w.otherLoad i 16 (dF o.desc 24 2)) →
    exec (.programLoad i) s = .next ((if c = .ok then w.replaceProg (dF o.desc 24 2) o.tenant
      (if pimgLen h = 0 then none else some (progOf h code)) else w).opDone i c 0)) ∧
  (∀ (i : Nat) (o : Op) (c : Status) (s s1 u : State), s.op i = some o → o.done = none → s.split = false →
    s1 = s.modOp i (fun x => { x with started := true }) →
    (dOp o.desc = 15 → o.unit.bytes (dUa o.desc 16) 4096 s1 = .error (.fail c) u →
      exec (.tableLoad i) s = .next ((o.unit.ends u).opDone i .poisonConsumed 0)) ∧
    (dOp o.desc = 16 → o.unit.bytes (dUa o.desc 16) 64 s1 = .error (.fail c) u →
      exec (.programLoad i) s = .next ((o.unit.ends u).opDone i .poisonConsumed 0))) ∧
  (∀ (i : Nat) (o : Op) (h r : List Byte) (c : Status) (s u v w : State), s.op i = some o → o.done = none → dOp o.desc = 17 →
    o.started = false → o.unit.bytes (dUa o.desc 16) 64 s = .ok h u →
    u.mapSrc o.tenant (dUa o.desc 16) (aimgLen h) = true → o.unit.bytes (dUa o.desc 16 + 64) (aimgLen h - 64) u = .ok r v →
    w = o.unit.ends v → c = w.loadCheck (dF o.desc 24 2) o.tenant (dUa o.desc 16) (h ++ r) → w.split = false →
    w.cal (dF o.desc 24 2) = none →
    exec (.almanacLoad i) s =
      .next (if c = .ok then (w.commitCal (dF o.desc 24 2) o.tenant (h ++ r)).opDone i .ok 0 else w.opDone i c 0)) ∧
  (∀ (i : Nat) (o : Op) (s : State), s.op i = some o → o.done = none → dOp o.desc = 15 ∨ dOp o.desc = 16 → s.split = true →
    exec (if dOp o.desc = 15 then .tableLoad i else .programLoad i) s =
      .next ((s.modOp i (fun x => { x with started := true })).opDone i .poisonConsumed 0)) ∧
  (∀ (i : Nat) (o : Op) (c : Status) (s u : State), s.op i = some o → o.done = none → dOp o.desc = 18 → o.started = false →
    s.sendMark (tenantHalf o.tenant) (some i) (dF o.desc 20 2) o.tenant (BitVec.ofNat 32 (dF o.desc 16 4)) = (c, u) →
    exec (.mark i) s = .next (if c = .ok then u.modOp i (fun x => { x with started := true }) else u.opDone i c 0)) ∧
  (∀ (i : Nat) (o : Op) (s : State), s.op i = some o → o.done = none → dOp o.desc = 19 →
    exec (.fence i) s =
      .next (if s.ops.any (fun x => x.tenant = o.tenant && x.id < o.id && (x.ring = o.ring || dF o.desc 16 1 = 1)) then s
        else s.modOp i (fun x => { x with done := some .ok, detail := 0 })))

/-- EXPERT jobs and the staging of their weights (R22, R188, R191, R192, R228 to R230, R262 to R264): routing, on the job's
grain, starts the job with nothing counted, and an invalid list ends it with BAD_DESCRIPTOR, a failing read with a fault;
once JC0 counts every down strip the results are combined, and not before; with no core or no engine in service the job ends
with FENCED_UNIT. A block in a work bank carries the header of Table FLE-4 with its CHECK, and one whose CHECK does not hold
fails its consumer. A fill snoops the holders of its lines before it is made, while the bridge is up, and does nothing else;
one whose fetch is there becomes the engine's one entry of the block. -/
def Obligations.ExpertJobsRouteAndCombine : Prop :=
  (∀ (i : Nat) (o : Op) (g : Grain) (l : List Route) (s v u : State), s.op i = some o → o.done = none → dOp o.desc = 6 → s.tcUp = true →
    s.feUp = true → s.xjob o.id = none → s.kernelGrain o = (some g, v) → v.cutFrom o.tenant g.half = false →
    v.tcServing g.half ≠ [] → routeWork o (o.unitOn g.half) v = .ok (.ok l) u →
    Yields (.expert i) s (fun t => (∃ j, t.xjobs = u.xjobs ++ [j] ∧ j.op = o.id ∧ j.routes = l ∧ j.jc0 = 0 ∧ j.results = [] ∧
        j.strips = (rowTiles (epbOf o.param) (dF o.desc 50 2) l).length * ((epbOf o.param).outw / 64)) ∧
      t = { (o.unitOn g.half).ends u with xjobs := t.xjobs, ops := t.ops })) ∧
  (∀ (i : Nat) (o : Op) (g : Grain) (c : Status) (s v u : State), s.op i = some o → o.done = none → dOp o.desc = 6 → s.tcUp = true →
    s.feUp = true → s.xjob o.id = none → s.kernelGrain o = (some g, v) → v.cutFrom o.tenant g.half = false →
    v.tcServing g.half ≠ [] →
    (routeWork o (o.unitOn g.half) v = .ok (.error c) u →
      exec (.expert i) s = .next (((o.unitOn g.half).ends u).kernelEnd o c 0)) ∧
    (routeWork o (o.unitOn g.half) v = .error (.fail c) u →
      exec (.expert i) s = .next (((o.unitOn g.half).ends u).kernelFault o (if c = .permission then 3 else 5) 0 g.core c))) ∧
  (∀ (o : Op) (a : Machine.Acc) (l : List Route) (s u : State), routesOf o a s = .ok l u → l.all (routeOk (dF o.desc 50 2)) = false →
    routeWork o a s = .ok (.error .badDescriptor) u) ∧
  (∀ (i : Nat) (o : Op) (j : XJob) (s : State), s.op i = some o → o.done = none → dOp o.desc = 6 →
    s.tcUp = true → s.feUp = true → s.xjob o.id = some j → j.strips ≤ j.jc0 →
    exec (.expert i) s = .next (s.kernel o none (combineWork o j))) ∧
  (∀ (i : Nat) (o : Op) (j : XJob) (s : State), s.op i = some o → s.xjob o.id = some j → j.jc0 < j.strips → s.tcUp = true →
    s.feUp = true → exec (.expert i) s = .next s) ∧
  (∀ (i : Nat) (o : Op) (s : State), s.op i = some o → o.done = none → dOp o.desc = 6 → s.tcUp = false ∨ s.feUp = false →
    exec (.expert i) s = .next (s.kernelEnd o .fencedUnit 0)) ∧
  (∀ (fe fmt tag : Nat) (codes : List Nat) (scales : List Byte), fe < 16 → fmt < 256 →
    (outBlock fe fmt tag codes scales).hdr.length = 16 ∧ byteAt (outBlock fe fmt tag codes scales).hdr 7 = fe ∧
    (hdrOf (outBlock fe fmt tag codes scales).hdr).ver = 1 ∧ (hdrOf (outBlock fe fmt tag codes scales).hdr).mode = 3 ∧
    (hdrOf (outBlock fe fmt tag codes scales).hdr).slot = 0xFF ∧ (hdrOf (outBlock fe fmt tag codes scales).hdr).gen = 0 ∧
    (hdrOf (outBlock fe fmt tag codes scales).hdr).fmt = fmt / 16 ∧ (hdrOf (outBlock fe fmt tag codes scales).hdr).lay = fmt % 16 ∧
    (hdrOf (outBlock fe fmt tag codes scales).hdr).check = (crc32c (outBlock fe fmt tag codes scales).body).toNat) ∧
  (∀ b : OutBlk, (hdrOf b.hdr).ver = 1 → (hdrOf b.hdr).mode = 3 → (hdrOf b.hdr).slot = 0xFF → (hdrOf b.hdr).gen = 0 →
    (hdrOf b.hdr).len = 64 → layOk (hdrOf b.hdr).fmt (hdrOf b.hdr).lay = true → b.body.length = (hdrOf b.hdr).xlen →
    (crc32c b.body).toNat ≠ (hdrOf b.hdr).check → b.values = .error .checkMismatch) ∧
  (∀ (fe : BitVec 4) (p : PlotNo) (k : BitVec 4) (s u : State), s.wblockSnoops (16 * p.toNat + k.toNat) = [] →
    s.fillDone fe.toNat (16 * p.toNat + k.toNat) = (true, u) →
    exec (.stagingFillDone fe p k) s = .next ((u.settle p.toNat).markReady fe.toNat)) ∧
  (∀ (fe : BitVec 4) (p : PlotNo) (k : BitVec 4) (s : State) (x : Nat × List Nat × Bool) (l : List (Nat × List Nat × Bool)),
    s.wblockSnoops (16 * p.toNat + k.toNat) = x :: l → s.split = false →
    Yields (.stagingFillDone fe p k) s (fun t => t.shr.snoops ≠ [] ∧ t = { s with shr := t.shr, out := t.out })) ∧
  (∀ (fe b bank : Nat) (e : Plot) (got : Option (Status × List Byte)) (s u v w : State),
    (s.fe fe).fills.any (fun r => r.block = b) = true → s.plot (b / 16) = some e → e.st ≠ .promoting →
    s.admitFill fe b = (true, u) → u.stageRoom fe (u.stagedBytes b) ((s.fe fe).staged.length + 1) = (some bank, v) →
    v.fetchBlock fe b e = (some got, w) →
    (s.fillDone fe b).1 = true ∧ ∃ x, ((s.fillDone fe b).2.fe fe).staged =
        (w.fe fe).staged.filter (fun y => y.block ≠ b) ++ [x] ∧ x.block = b ∧ x.bank = bank ∧ x.got = got ∧
      ((s.fillDone fe b).2.fe fe).fills = (w.fe fe).fills.filter (fun r => r.block ≠ b))

/-- Tiles and strips (R178, R182, R184, R186, R189, R195, R196, R199): at a tile boundary of an engine in service the tile
of the grain that is chosen starts, with its sums fixed and its grain current; with none the engine fetches and waits, and
an engine that is not in service or runs a tile starts none. A failed tile fails the job; a chain's tile hands its sums on,
the gate chain is followed by the up chain, and the strip's last tile ends it with its post-operation; the sums are the
tile's own but for the bits a faulty engine gets wrong. An unsampled strip's output is released, and a released down strip
counts in JC0 with its result blocks. Sampled duplicate execution (R201 to R205): a strip of a job that does not force
duplication is not sampled while DUPCFG.ENABLE is clear; a sampled strip that no other engine can check is counted as
unchecked, any other is compared: its checker runs it too, from the primary's operand. When both outputs are there, ones
that agree in all but ENGINE are counted and released, ones that differ are run a third time, and with no third engine the
mismatch is settled at once: it counts, ends the job with DUP_MISMATCH and the number of the engine that is fenced, the
checker where the third run agrees with the primary and else the primary, and releases nothing. -/
def Obligations.EnginesRunTilesAndStripsAndDuplicates : Prop :=
  (∀ (fe : BitVec 4) (s : State), (s.fe fe.toNat).ctl.st ≠ .inService ∨ (s.fe fe.toNat).tile.isSome = true →
    exec (.tileStart fe) s = .next s) ∧
  (∀ (fe : BitVec 4) (s u : State), (s.fe fe.toNat).ctl.st = .inService → (s.fe fe.toNat).tile = none →
    u = (((forAll ((s.stopGrains fe.toNat).fe fe.toNat).grains (fun g s => s.fetchAhead fe.toNat g)
      (s.stopGrains fe.toNat)).markReady fe.toNat).countWaits fe.toNat).startBanks fe.toNat →
    (u.pickTile fe.toNat (fun g => u.banksOn fe.toNat g) = none → exec (.tileStart fe) s = .next u) ∧
    (∀ g, u.pickTile fe.toNat (fun g => u.banksOn fe.toNat g) = some g → exec (.tileStart fe) s = .next (u.startTile fe.toNat g))) ∧
  (∀ (f : Nat) (g : FGrain) (e : Epb) (w : EpbEnt) (st : Strip) (r : List Strip) (s : State), s.epbFor g = some (e, w) →
    g.strips = st :: r →
    ∃ x, ((s.startTile f g).fe f).tile = some x ∧ x.grain = g.id ∧ ((s.startTile f g).fe f).aob = some g.id ∧
      (x.fail = none → x.kEnd = e.tileEnd w st g.second g.k)) ∧
  (∀ (fe : BitVec 4) (d : List (BitVec 12 × W32)) (s : State), (s.fe fe.toNat).tile = none →
    exec (.tileEnd fe d) s = .next (s.markReady fe.toNat)) ∧
  (∀ (fe : BitVec 4) (d : List (BitVec 12 × W32)) (t : Tile) (g : FGrain) (o : Op) (st : Strip) (r : List Strip) (e : Epb)
      (a : List (List W32)) (s u : State),
    (s.fe fe.toNat).tile = some t → u = s.modFe fe.toNat (fun x => { x with
      tile := none, staged := x.staged.filter (fun y => !(y.drop && nmem y.block t.blocks)) }) →
    (u.fe fe.toNat).grains.find? (fun g => g.id = t.grain) = some g → u.op g.op = some o → o.done = none → u.idleRole g = false →
    g.strips = st :: r → e = epbOf o.param → a = wrongAcc d t.acc →
    (∀ c, t.fail = some c → exec (.tileEnd fe d) s = .next (((u.failOp o.id c 0).stopGrains fe.toNat).markReady fe.toNat)) ∧
    (t.fail = none → t.kEnd < (e.chain (epbEnt o.param g.expert) st g.second).2.1 →
      exec (.tileEnd fe d) s = .next ((u.modFgrain fe.toNat g.id (fun x =>
        if g.second then { x with acc1 := a, k := t.kEnd } else { x with acc0 := a, k := t.kEnd })).markReady fe.toNat)) ∧
    (t.fail = none → (e.chain (epbEnt o.param g.expert) st g.second).2.1 ≤ t.kEnd → st.down = false → e.gated = true → g.second = false →
      exec (.tileEnd fe d) s = .next ((u.modFgrain fe.toNat g.id (fun x => { x with acc0 := a, second := true, k := 0 })).markReady
        fe.toNat)) ∧
    (t.fail = none → (e.chain (epbEnt o.param g.expert) st g.second).2.1 ≤ t.kEnd → st.down = true ∨ e.gated = false ∨ g.second = true →
      exec (.tileEnd fe d) s = .next (((u.stripEnd fe.toNat g o st (if g.second then g.acc0 else a) a).stopGrains
        fe.toNat).markReady fe.toNat))) ∧
  (∀ a : List (List W32), wrongAcc [] a = a) ∧
  (∀ (f : Nat) (g : FGrain) (o : Op) (st : Strip) (a0 a1 : List (List W32)) (q : List OutBlk × Cnts) (s : State), g.role = .primary →
    g.dup = none → q = stripOut f g (epbOf o.param) o.rnd st (stripVals (epbOf o.param) (epbEnt o.param g.expert) st a0 a1) →
    s.stripEnd f g o st a0 a1 =
      ((s.countCnts o.tenant q.2).modFgrain f g.id (FGrain.next false st)).releaseStrip f g.id o st q.1) ∧
  (∀ (f : Nat) (g : FGrain) (o : Op) (st : Strip) (l : List OutBlk) (j : XJob) (s : State),
    (s.fe f).grains.find? (fun x => x.id = g.id) = some g → st.down = true → s.xjob g.op = some j →
    ∃ j', (s.releaseStrip f g.id o st l).xjob g.op = some j' ∧ j'.jc0 = j.jc0 + 1 ∧ j'.strips = j.strips ∧
      j'.results = j.results ++ (l.zip (chunks 16 g.rows)).map (fun x => { expert := g.expert, rows := x.2, strip := st.index, blk := x.1 })) ∧
  (∀ (o : Op) (s : State), dFlags o.desc / 8 % 2 ≠ 1 → bit 31 (s.stw Reg.FLE_DUPCFG) = false → s.sampled o = false) ∧
  (∀ (f : Nat) (g : FGrain) (o : Op) (st : Strip) (s : State),
    (s.sampled o = false → s.sampleStrip f g o st = s.tickFree) ∧
    (s.sampled o = true → s.tickFree.nextFe f [] = none →
      s.sampleStrip f g o st = s.tickFree.cntBar o.tenant Reg.FLE_DUP 7 0 1) ∧
    (∀ c, s.sampled o = true → s.tickFree.nextFe f [] = some c →
      ∃ d, (s.sampleStrip f g o st).dups = s.dups ++ [d] ∧ d.op = o.id ∧ d.grain = g.id ∧ d.primary = f ∧ d.checker = c ∧
        d.strip = st ∧ d.out1 = none ∧ d.out2 = none ∧
        ∃ x ∈ ((s.sampleStrip f g o st).fe c).grains, x.role = .checker d.id ∧ x.strips = [st] ∧ x.inp = g.inp ∧ x.inter = g.inter)) ∧
  (∀ (i : Nat) (d : Dup) (o : Op) (a b : List OutBlk) (s : State), s.dup i = some d → s.op d.op = some o → d.out1 = some a →
    d.out2 = some b →
    (sameOut a b = true → s.dupStep i = (s.cntBar o.tenant Reg.FLE_DUP 31 16 1).dupRelease d o) ∧
    (sameOut a b = false → s.dupStep i = s.thirdRun State.fenceDup d)) ∧
  (∀ (d : Dup) (fence : Nat → Nat → State → State) (s : State), s.nextFe d.checker [d.primary, d.checker] = none →
    s.thirdRun fence d = s.settleDup fence { d with thirdFe := none } none) ∧
  (∀ (d : Dup) (fence : Nat → Nat → State → State) (out3 : Option (List OutBlk)) (o : Op) (n : Nat) (agrees : Option (List OutBlk) → Bool)
      (s : State), s.op d.op = some o → o.done = none →
    agrees = (fun x => match x, out3 with
      | some a, some b => sameOut a b
      | _, _ => false) →
    n = (if agrees d.out1 then d.checker else d.primary) → (s.fe n).ctl.st = .inService →
    ∃ u, s.settleDup fence d out3 = fence n (if !agrees d.out1 && !agrees d.out2 then 2 else 1) u ∧
      (∃ x, u.op d.op = some x ∧ x.done = some .dupMismatch ∧ x.detail = n) ∧ u.xjobs = s.xjobs ∧ u.fes = s.fes) ∧
  (∀ (f cause : Nat) (cmd : Bool) (s : State), (s.fe f).grains = [] → (s.fe f).fills = [] →
    (s.fenceFe f cause cmd).fe f = { ctl := { st := .fencing, cause := BitVec.ofNat 3 cause, tpass := (s.fe f).ctl.tpass, cmd := cmd } }) ∧
  (∀ (n c : Nat) (s : State), s.nextFe n [] = some c → (s.fe c).ctl.st = .inService ∧ (n < 16 → c < 16))

/-- Fencing of engines and cores (R206, R207, R224, R382, Tables FLE-7, FLE-12): an internal error fences a unit in service
with CAUSE 3 and a command with CAUSE 4; a fenced engine's grains are run again elsewhere; a fenced unit is tested, a grant
held, and only one that passed returns to service; a command out of turn only answers its status, an event out of turn does
nothing; a field test starts on an idle engine or a core with a free thread while PERIOD is not 0, and one that fails fences
with CAUSE 5. -/
def Obligations.UnitsAreFencedTestedAndReturned : Prop :=
  (∀ (f c : Nat) (b : Bool) (s : State), (∀ g ∈ (s.fe f).grains, g.role = .primary) →
    s.fenceFe f c b = forAll ((s.fe f).fills.map (fun r => r.block / 16)) (fun p s => s.settle p)
      (forAll (s.fe f).grains (fun g s => s.requeue g) (((s.setFe f { ctl :=
        { st := .fencing, cause := BitVec.ofNat 3 c, tpass := (s.fe f).ctl.tpass, cmd := b } }).farDrop (.engine f)).fenceRec (unitNo 3 f) c
          true))) ∧
  (∀ (f c : Nat) (b : Bool) (s : State), (s.fenceTc f c b).tc f =
    { st := .fencing, cause := BitVec.ofNat 3 c, tpass := (s.tc f).tpass, cmd := b }) ∧
  (∀ (n : BitVec 4) (s : State),
    exec (.engineFence n .internalError) s = .next (if (s.fe n.toNat).ctl.st = .inService then s.fenceFe n.toNat 3 false else s) ∧
    ((s.fe n.toNat).ctl.st = .inService → s.fenceCheck Reg.FLE_FSTAT .inService false = .ok →
      exec (.engineFence n .steward) s = .next ((s.fenceFe n.toNat 4 true).fenceBusy Reg.FLE_FSTAT)) ∧
    (∀ r, s.fenceCheck Reg.FLE_FSTAT (s.fe n.toNat).ctl.st (decide ((s.fe n.toNat).ctl.st ≠ .inService)) = r → r ≠ .ok →
      exec (.engineFence n .steward) s = .next (s.fenceStatus Reg.FLE_FSTAT r))) ∧
  (∀ (n : BitVec 6) (s : State),
    exec (.coreFence n .internalError) s = .next (if (s.tc n.toNat).st = .inService then s.fenceTc n.toNat 3 false else s) ∧
    ((s.tc n.toNat).st = .inService → s.fenceCheck Reg.TND_FSTAT .inService false = .ok →
      exec (.coreFence n .steward) s = .next ((s.fenceTc n.toNat 4 true).fenceBusy Reg.TND_FSTAT)) ∧
    (∀ r, s.fenceCheck Reg.TND_FSTAT (s.tc n.toNat).st (decide ((s.tc n.toNat).st ≠ .inService)) = r → r ≠ .ok →
      exec (.coreFence n .steward) s = .next (s.fenceStatus Reg.TND_FSTAT r))) ∧
  (∀ (n : BitVec 4) (s : State),
    ((s.fe n.toNat).ctl.st = .fencing →
      Yields (.engineFenced n) s (fun t => (t.fe n.toNat).ctl = { (s.fe n.toNat).ctl with st := .fenced, cmd := false } ∧
        ((s.fe n.toNat).ctl.cmd = true → t.stw Reg.FLE_FSTAT = 0#32) ∧ (∀ k, k ≠ n.toNat → t.fe k = s.fe k) ∧
        t = { s with fes := t.fes, reg := t.reg })) ∧
    ((s.fe n.toNat).ctl.st ≠ .fencing → exec (.engineFenced n) s = .next s)) ∧
  (∀ (n : BitVec 6) (s : State),
    ((s.tc n.toNat).st = .fencing →
      Yields (.coreFenced n) s (fun t => t.tc n.toNat = { s.tc n.toNat with st := .fenced, cmd := false } ∧
        ((s.tc n.toNat).cmd = true → t.stw Reg.TND_FSTAT = 0#32) ∧ (∀ k, k ≠ n.toNat → t.tc k = s.tc k) ∧
        t = { s with tcs := t.tcs, reg := t.reg })) ∧
    ((s.tc n.toNat).st ≠ .fencing → exec (.coreFenced n) s = .next s)) ∧
  (∀ (n : BitVec 4) (s : State),
    ((s.fe n.toNat).ctl.st = .fenced → s.fenceCheck Reg.FLE_FSTAT .fenced false = .ok →
      Yields (.engineBist n) s (fun t => (t.fe n.toNat).ctl = { (s.fe n.toNat).ctl with st := .testing, tpass := false, cmd := true } ∧
        t.stw Reg.FLE_FSTAT &&& 0xFFFFFF00#32 = 0x80000000#32 ∧ t = { s with fes := t.fes, reg := t.reg, ras := t.ras })) ∧
    (∀ r, s.fenceCheck Reg.FLE_FSTAT (s.fe n.toNat).ctl.st (decide ((s.fe n.toNat).ctl.st ≠ .fenced)) = r → r ≠ .ok →
      exec (.engineBist n) s = .next (s.fenceStatus Reg.FLE_FSTAT r))) ∧
  (∀ (n : BitVec 6) (s : State),
    ((s.tc n.toNat).st = .fenced → s.fenceCheck Reg.TND_FSTAT .fenced false = .ok →
      Yields (.coreBist n) s (fun t => t.tc n.toNat = { s.tc n.toNat with st := .testing, tpass := false, cmd := true } ∧
        t.stw Reg.TND_FSTAT &&& 0xFFFFFF00#32 = 0x80000000#32 ∧ t = { s with tcs := t.tcs, reg := t.reg, ras := t.ras })) ∧
    (∀ r, s.fenceCheck Reg.TND_FSTAT (s.tc n.toNat).st (decide ((s.tc n.toNat).st ≠ .fenced)) = r → r ≠ .ok →
      exec (.coreBist n) s = .next (s.fenceStatus Reg.TND_FSTAT r))) ∧
  (∀ (n : BitVec 4) (pass : Bool) (s : State),
    ((s.fe n.toNat).ctl.st = .testing → s.holdsGrant 6 (scFe n.toNat) = true →
      Yields (.engineBistDone n pass) s (fun t => (t.fe n.toNat).ctl =
          { (s.fe n.toNat).ctl with st := .fenced, tpass := pass, cmd := false } ∧
        t.ras.acts.any (fun a => a.code = 6 && a.unit = scFe n.toNat) = false ∧ t = { s with fes := t.fes, reg := t.reg, ras := t.ras })) ∧
    ((s.fe n.toNat).ctl.st ≠ .testing ∨ s.holdsGrant 6 (scFe n.toNat) = false → exec (.engineBistDone n pass) s = .next s)) ∧
  (∀ (n : BitVec 6) (pass : Bool) (s : State),
    ((s.tc n.toNat).st = .testing → s.holdsGrant 6 (scTc n.toNat) = true →
      Yields (.coreBistDone n pass) s (fun t => t.tc n.toNat = { s.tc n.toNat with st := .fenced, tpass := pass, cmd := false } ∧
        t.ras.acts.any (fun a => a.code = 6 && a.unit = scTc n.toNat) = false ∧ t = { s with tcs := t.tcs, reg := t.reg, ras := t.ras })) ∧
    ((s.tc n.toNat).st ≠ .testing ∨ s.holdsGrant 6 (scTc n.toNat) = false → exec (.coreBistDone n pass) s = .next s)) ∧
  (∀ (n : BitVec 4) (s : State),
    ((s.fe n.toNat).ctl.st = .fenced → (s.fe n.toNat).ctl.tpass = true → s.fenceCheck Reg.FLE_FSTAT .fenced false = .ok →
      Yields (.engineReturn n) s (fun t => (t.fe n.toNat).ctl = { (s.fe n.toNat).ctl with st := .inService, cause := 0#3 } ∧
        bits 7 0 (t.stw Reg.FLE_FSTAT) = 0)) ∧
    (∀ r, s.fenceCheck Reg.FLE_FSTAT (s.fe n.toNat).ctl.st ((s.fe n.toNat).ctl.st ≠ .fenced || !(s.fe n.toNat).ctl.tpass) = r → r ≠ .ok →
      exec (.engineReturn n) s = .next (s.fenceStatus Reg.FLE_FSTAT r))) ∧
  (∀ (n : BitVec 6) (s : State),
    ((s.tc n.toNat).st = .fenced → (s.tc n.toNat).tpass = true → s.fenceCheck Reg.TND_FSTAT .fenced false = .ok →
      Yields (.coreReturn n) s (fun t => t.tc n.toNat = { s.tc n.toNat with st := .inService, cause := 0#3 } ∧
        bits 7 0 (t.stw Reg.TND_FSTAT) = 0)) ∧
    (∀ r, s.fenceCheck Reg.TND_FSTAT (s.tc n.toNat).st ((s.tc n.toNat).st ≠ .fenced || !(s.tc n.toNat).tpass) = r → r ≠ .ok →
      exec (.coreReturn n) s = .next (s.fenceStatus Reg.TND_FSTAT r))) ∧
  (∀ (stat : Nat) (u : UnitSt) (d : Bool) (s : State),
    (s.conflict = true → s.fenceCheck stat u d = .stewardConflict) ∧
    (s.conflict = false → bit 31 (s.stw stat) = true ∨ u = .fencing ∨ u = .testing → s.fenceCheck stat u d = .slotBusy) ∧
    (s.conflict = false → bit 31 (s.stw stat) = false → u = .inService ∨ u = .fenced →
      s.fenceCheck stat u d = (if d then .permission else .ok))) ∧
  (∀ (n : BitVec 4) (s : State), s.stwF Reg.RAS_FTCFG 15 0 ≠ 0 →
    exec (.fieldTestStart (.fe n)) s = .next (if (s.fe n.toNat).ctl.st = .inService ∧ (s.fe n.toNat).tile = none ∧
        s.pickTile n.toNat (fun g => s.banksOn n.toNat g) = none then
      s.modFe n.toNat (fun e => { e with ctl := { e.ctl with fieldTest := true } }) else s)) ∧
  (∀ (n : BitVec 6) (s : State), s.stwF Reg.RAS_FTCFG 15 0 ≠ 0 →
    exec (.fieldTestStart (.tc n)) s = .next (if (s.tc n.toNat).st = .inService ∧ s.runningOn n.toNat < 8 then
      s.modTc n.toNat (fun c => { c with fieldTest := true }) else s)) ∧
  (∀ (u : TestUnit) (s : State), s.stwF Reg.RAS_FTCFG 15 0 = 0 → exec (.fieldTestStart u) s = .next s) ∧
  (∀ (n : BitVec 4) (s : State), (s.fe n.toNat).ctl.fieldTest = true →
    exec (.fieldTestDone (.fe n) true) s =
      .next ((s.modFe n.toNat (fun e => { e with ctl := { e.ctl with fieldTest := false } })).cntStw Reg.RAS_FTSTAT 31 16 1) ∧
    exec (.fieldTestDone (.fe n) false) s =
      .next ((((s.modFe n.toNat (fun e => { e with ctl := { e.ctl with fieldTest := false } })).cntStw Reg.RAS_FTSTAT 31 16 1).cntStw
        Reg.RAS_FTSTAT 15 0 1).fenceFe n.toNat 5 false)) ∧
  (∀ (n : BitVec 6) (s : State), (s.tc n.toNat).fieldTest = true →
    exec (.fieldTestDone (.tc n) true) s =
      .next ((s.modTc n.toNat (fun c => { c with fieldTest := false })).cntStw Reg.RAS_FTSTAT 31 16 1) ∧
    exec (.fieldTestDone (.tc n) false) s =
      .next ((((s.modTc n.toNat (fun c => { c with fieldTest := false })).cntStw Reg.RAS_FTSTAT 31 16 1).cntStw
        Reg.RAS_FTSTAT 15 0 1).fenceTc n.toNat 5 false)) ∧
  (∀ (n : BitVec 4) (p : Bool) (s : State), (s.fe n.toNat).ctl.fieldTest = false → exec (.fieldTestDone (.fe n) p) s = .next s) ∧
  (∀ (n : BitVec 6) (p : Bool) (s : State), (s.tc n.toNat).fieldTest = false → exec (.fieldTestDone (.tc n) p) s = .next s)

/-- Jobs, grains and program slots (R216 to R221, R223, R224, R226, R265): RUN_PROGRAM starts its job, or ends FENCED_UNIT
with no core in service; a job's next grain, in ascending index, is created READY at the entry with zero registers, only
while its banks are there and the module and the tenant hold fewer grains than their limits; a grain whose half has no core
faults with code 8; a core runs at most eight grains, and takes the one that no other goes before; a yield saves the
context, or ends a grain of a stopped job; a waiting grain wakes once its counter has the value; one past its limits faults
with code 6; an old image goes with its last job; a slot command answers the first of Table TND-20's statuses that holds,
and otherwise unloads or changes the owner. The kernels QUANT and GATEACT (R222, R223, R266, R267), each on the one grain of
its job: with no core in service the kernel ends FENCED_UNIT; while its grain may not be created it waits; an argument or a
grant that Tables DSC-34 and DSC-35 refuse is fault 7 with BAD_DESCRIPTOR, a grant too short or without the right is fault 2
with PERMISSION, before anything is written; a run whose work ends decides its status; a block k whose access fails is the
fault of grain k mod G, 3 for PERMISSION and else 5. -/
def Obligations.JobsAndBuiltInKernelsRun : Prop :=
  (∀ (i : Nat) (o : Op) (s : State), s.op i = some o → o.done = none → dOp o.desc = 7 → dF o.desc 28 2 < 1008 →
    exec (.runProgram i) s = .next (if s.tcUp then s.startJob i else s.opDone i .fencedUnit 0)) ∧
  (∀ (i : Nat) (j : Job) (s : State), s.job i = some j →
    (j.started = true → s.startJob i = s) ∧
    (j.started = false → j.needBanks = 0 → s.startJob i = s.modJob i (fun j => { j with started := true }))) ∧
  (∀ (j : Job) (s : State), s.mayCreate j = true ↔ (s.jobReady j = true ∧ s.grains.length < 4194304 ∧
    s.tenantGrains j.tenant < s.stwF (Reg.TND_TLIM + 4 * j.tenant) 22 0)) ∧
  (∀ (n : Nat) (j : Job) (s : State), s.job n = some j → j.stop = none → j.created < j.total → s.mayCreate j = true →
    (s.cutFrom j.tenant (s.grainHalf j) = false → s.tcServing (s.grainHalf j) ≠ [] →
      Yields (.grainCreate n) s (fun t => (∃ g, t.grains = s.grains ++ [g] ∧ g.id = s.nextGrain ∧ g.job = n ∧ g.index = j.created ∧
          g.half = s.grainHalf j ∧ g.st = .ready ∧ g.ctx = newCtx j.prog.entry ∧ g.icount = 0) ∧
        t.job n = some { j with created := j.created + 1 } ∧
        t = { s with grains := t.grains, nextGrain := s.nextGrain + 1, jobs := t.jobs })) ∧
    (s.cutFrom j.tenant (s.grainHalf j) = false → s.tcServing (s.grainHalf j) = [] →
      ∃ (u : State) (g : Grain), exec (.grainCreate n) s = .next (u.faultGrain g 8 j.prog.entry .fencedUnit) ∧ u.grains = s.grains ++ [g] ∧ g.job = n ∧
        g.index = j.created) ∧
    (s.cutFrom j.tenant (s.grainHalf j) = true → exec (.grainCreate n) s = .next (s.stopJob n .poisonConsumed 0))) ∧
  (∀ (n : Nat) (j : Job) (s : State), s.job n = some j → j.stop.isSome = true ∨ j.total ≤ j.created ∨ s.mayCreate j = false →
    exec (.grainCreate n) s = .next s) ∧
  (∀ (g : Grain) (s : State), (s.endGrain g).grain g.id = none) ∧
  (∀ (c : BitVec 6) (g : Grain) (s : State), (s.tc c.toNat).st = .inService → s.runningOn c.toNat < 8 → g ∈ s.grains →
    g.st = .ready → g.half = tcHalf c.toNat → s.mayRun g = true →
    (∀ x, x ∈ s.grains → x.st = .ready → x.half = g.half → s.mayRun x = true → x = g ∨ s.grainBefore g x = true) →
    (∀ x, x ∈ s.grains → x.id = g.id → x = g) →
    Yields (.grainDispatch c) s (fun t => t.grain g.id = some { g with st := .running, core := c.toNat, saved := g.ctx, savedCount := g.icount } ∧
      (∀ n, n ≠ g.id → t.grain n = s.grain n) ∧ t = { s with grains := t.grains, tcs := t.tcs })) ∧
  (∀ (c : BitVec 6) (s : State), (s.tc c.toNat).st ≠ .inService ∨ 8 ≤ s.runningOn c.toNat ∨
      s.grains.all (fun g => !(g.st = .ready && g.half = tcHalf c.toNat && s.mayRun g)) = true →
    exec (.grainDispatch c) s = .next s) ∧
  (∀ (n : Nat) (g : Grain) (j : Job) (s : State), s.grain n = some g → s.job g.job = some j →
    (g.st = .running → j.stop = none → exec (.grainForcedYield n) s =
      .next (s.modGrain n (fun _ => { g with st := .ready, saved := g.ctx, savedCount := g.icount, stamp := s.now }))) ∧
    (g.st = .running → j.stop.isSome = true → exec (.grainForcedYield n) s = .next (s.endGrain { g with st := .ready })) ∧
    (g.st ≠ .running → exec (.grainForcedYield n) s = .next s)) ∧
  (∀ (n : Nat) (g : Grain) (j : Job) (s : State), s.grain n = some g → s.job g.job = some j →
    (g.st = .waiting → g.waitVal.toNat ≤ (j.counter g.waitJc).toNat → exec (.grainWake n) s =
      .next (s.modGrain n (fun x => { x with st := .ready, stamp := s.now, waited := x.waited + (s.now - x.since) }))) ∧
    (g.st ≠ .waiting ∨ (j.counter g.waitJc).toNat < g.waitVal.toNat → exec (.grainWake n) s = .next s)) ∧
  (∀ (n : Nat) (g : Grain) (j : Job) (s : State), s.grain n = some g → s.job g.job = some j →
    (s.pastLimit g j = true → exec (.grainLimitExceeded n) s = .next (s.faultGrain g 6 g.ctx.pc .timeout)) ∧
    (s.pastLimit g j = false → exec (.grainLimitExceeded n) s = .next s)) ∧
  (∀ (n : BitVec 10) (s : State),
    ((s.pslot n.toNat).old.isSome = true → s.jobsOn n.toNat true = 0 →
      Yields (.programOldDiscard n) s (fun t => (t.pslot n.toNat).old = none ∧ (t.pslot n.toNat).cur = (s.pslot n.toNat).cur ∧
        (∀ k, k ≠ n.toNat → t.pslot k = s.pslot k) ∧ t = { s with pslots := t.pslots })) ∧
    ((s.pslot n.toNat).old = none ∨ s.jobsOn n.toNat true ≠ 0 → exec (.programOldDiscard n) s = .next s)) ∧
  (∀ s : State, exec .programSlotUnload s = .next (if s.pcmdCheck false true = .ok then
      (s.replaceProg (s.stwF Reg.TND_PSEL 9 0) (s.pslot (s.stwF Reg.TND_PSEL 9 0)).owner none).pcmdStatus .ok
    else s.pcmdStatus (s.pcmdCheck false true))) ∧
  (∀ (u : Tenant) (s : State),
    (s.pcmdCheck false false = .ok →
      Yields (.programSlotOwner u) s (fun t => (t.pslot (s.stwF Reg.TND_PSEL 9 0)).owner = u.toNat ∧
        (t.pslot (s.stwF Reg.TND_PSEL 9 0)).cur = (s.pslot (s.stwF Reg.TND_PSEL 9 0)).cur ∧
        bits 31 24 (t.stw Reg.TND_PCMD) = 0 ∧ t = { s with pslots := t.pslots, reg := t.reg })) ∧
    (s.pcmdCheck false false ≠ .ok → exec (.programSlotOwner u) s = .next (s.pcmdStatus (s.pcmdCheck false false)))) ∧
  (∀ s : State, exec .tndPcmdReserved s = .next (s.pcmdStatus (if s.conflict then .stewardConflict else .badDescriptor))) ∧
  (∀ (busy : Bool) (k : PSlot) (s : State), k = s.pslot (s.stwF Reg.TND_PSEL 9 0) →
    s.pcmdCheck false busy = (if s.conflict then .stewardConflict
      else if 1008 ≤ s.stwF Reg.TND_PSEL 9 0 ∨ (k.cur = none ∧ k.old = none) then .badDescriptor
      else if busy = true ∧ k.old ≠ none then .slotBusy else .ok)) ∧
  (∀ (i : Nat) (o : Op) (s : State), s.op i = some o → o.done = none → dOp o.desc = 7 → dF o.desc 28 2 = 1010 →
    ∃ c m, exec (.quant i) s = .next (s.kernel o c m) ∧
      (argW o 0 = 0 ∨ 256 ≤ argW o 1 / 256 ∨ (argW o 1 / 256) % 16 ≠ 1 → c = some 7) ∧
      (o.grant 0 = none ∨ o.grant 1 = none ∨ o.grant 2 = none → c = some 7)) ∧
  (∀ (i : Nat) (o : Op) (s : State), s.op i = some o → o.done = none → dOp o.desc = 7 → dF o.desc 28 2 = 1011 →
    ∃ c m, exec (.gateact i) s = .next (s.kernel o c m) ∧
      (argW o 0 % 2 ^ 32 = 0 ∨ argW o 0 / 2 ^ 32 % 64 ≠ 0 ∨ 4 ≤ argW o 1 / 65536 % 8 → c = some 7) ∧
      (o.grant 0 = none ∨ o.grant 1 = none → c = some 7)) ∧
  (∀ (o : Op) (ok : Bool) (l : List Need), ok = false → o.kernelCheck ok l = some 7) ∧
  (∀ (o : Op) (n : Need) (g : Grant), o.grant n.g = some g →
    (n.aligned = true → g.base % 4096 ≠ 0 → o.kernelCheck true [n] = some 7) ∧
    (n.aligned = false ∨ g.base % 4096 = 0 → g.len < n.len ∨ (n.wr = true ∧ g.wr = false) ∨ (n.wr = false ∧ g.rd = false) →
      o.kernelCheck true [n] = some 2) ∧
    (n.aligned = false ∨ g.base % 4096 = 0 → n.len ≤ g.len → (n.wr = true → g.wr = true) → (n.wr = false → g.rd = true) →
      o.kernelCheck true [n] = none)) ∧
  (∀ (o : Op) (c : Option Nat) (m : Machine.Acc → Work (Status × Nat)) (s : State), s.tcUp = false →
    s.kernel o c m = s.kernelEnd o .fencedUnit 0) ∧
  (∀ (o : Op) (c : Option Nat) (m : Machine.Acc → Work (Status × Nat)) (s v : State), s.tcUp = true → s.kernelGrain o = (none, v) →
    s.kernel o c m = v) ∧
  (∀ (o : Op) (g : Grain) (c : Option Nat) (m : Machine.Acc → Work (Status × Nat)) (s v : State), s.tcUp = true →
    s.kernelGrain o = (some g, v) →
    (v.cutFrom o.tenant g.half = true → s.kernel o c m = v.kernelEnd o .poisonConsumed 0) ∧
    (v.cutFrom o.tenant g.half = false → v.tcServing g.half = [] → s.kernel o c m = v.kernelFault o 8 g.index g.core .fencedUnit) ∧
    (v.cutFrom o.tenant g.half = false → v.tcServing g.half ≠ [] → c = some 7 →
      s.kernel o c m = v.kernelFault o 7 0 g.core .badDescriptor) ∧
    (v.cutFrom o.tenant g.half = false → v.tcServing g.half ≠ [] → c = some 2 →
      s.kernel o c m = v.kernelFault o 2 0 g.core .permission) ∧
    (∀ st n u, v.cutFrom o.tenant g.half = false → v.tcServing g.half ≠ [] → c = none → m (o.unitOn g.half) v = .ok (st, n) u →
      s.kernel o c m = ((o.unitOn g.half).ends u).kernelEnd o st n) ∧
    (∀ code st u, v.cutFrom o.tenant g.half = false → v.tcServing g.half ≠ [] → c = none →
      m (o.unitOn g.half) v = .error (.fault code st) u →
      s.kernel o c m = ((o.unitOn g.half).ends u).kernelFault o (code / 2 ^ 20) (code % 2 ^ 20) g.core st)) ∧
  (∀ (o : Op) (n : Nat) (b : Nat → Work Unit) (s u : State), (List.range n).forM b s = .ok () u → kernelWork o n b s = .ok (.ok, 0) u) ∧
  (∀ (o : Op) (n k : Nat) (b : Nat → Work Unit) (c : Status) (s v u : State), k < n → (List.range k).forM b s = .ok () v →
    b k v = .error (.fail c) u →
    kernelWork o n b s = .error (.fault ((if c = .permission then 3 else 5) * 2 ^ 20 + k % dF o.desc 24 4 % 2 ^ 20) c) u)

/-- Spaern instructions that change registers (R209 to R212): each moves PC past itself, is counted once and writes its own
destination; a jump and a taken branch write PC; where the spec states no result (integer operations but the bitwise ones on
floating-point lanes, floating-point ones on integer lanes, a reduction of no lane) it is free (log 42); a conversion reads
its job's captured modes and writes nothing but PC once the operation is gone; x0 reads 0 and k0 all ones, and a write to
either is discarded. (The premise on PC of a jump is no form left out: a program has at most 256 KiB of code, R225.) R211:
integer arithmetic wraps; DIV by zero writes all ones and REM by zero the dividend. -/
def Obligations.RegisterInstructionsWriteTheirDestination : Prop :=
  (∀ (i : Nat) (w : W32) (g : Grain) (j : Job) (s : State),
    (AtInstr s i .alu w g j → exec (.spnAlu i) s = .next (retire s.tickFree j { moved g with
      ctx := (moved g).ctx.setX (sDst w) (aluOp (sFnA w) (g.ctx.getX (sSrc1 w)) (g.ctx.getX (sSrc2 w)) s) })) ∧
    (AtInstr s i .aluImm w g j → exec (.spnAluImm i) s = .next (retire s.tickFree j { moved g with
      ctx := (moved g).ctx.setX (sDst w) (aluOp (sFnB w) (g.ctx.getX (sSrc1 w)) (BitVec.ofInt 64 (sImm12 w)) s) })) ∧
    (AtInstr s i .loadUpper w g j → exec (.spnLoadUpper i) s = .next (retire s.tickFree j { moved g with
      ctx := (moved g).ctx.setX (sDst w) (BitVec.ofInt 64 (sImm21 w * 4096)) })) ∧
    (AtInstr s i .branch w g j → exec (.spnBranch i) s = .next (retire s.tickFree j { moved g with
      ctx := { g.ctx with
        pc := if branchCond (sFnB w) (g.ctx.getX (sDst w)) (g.ctx.getX (sSrc1 w)) then pcAdd g.ctx.pc (4 * sImm12 w) else pcAdd g.ctx.pc 4 } })) ∧
    (AtInstr s i .jump w g j → g.ctx.pc < 2 ^ 24 → exec (.spnJump i) s = .next (retire s.tickFree j { moved g with
      ctx := { g.ctx.setX (sDst w) (BitVec.ofNat 64 (g.ctx.pc + 4)) with pc := pcAdd g.ctx.pc (4 * sImm21 w) } })) ∧
    (AtInstr s i .jumpReg w g j → g.ctx.pc < 2 ^ 24 → exec (.spnJumpReg i) s = .next (retire s.tickFree j { moved g with
      ctx := { g.ctx.setX (sDst w) (BitVec.ofNat 64 (g.ctx.pc + 4)) with
        pc := (g.ctx.getX (sSrc1 w) + BitVec.ofInt 64 (sImm12 w)).toNat } })) ∧
    (AtInstr s i .vectorInt w g j → sFnV w ≤ 10 ∨ sFnV w = 13 → exec (.spnVectorInt i) s = .next (retire s.tickFree j { moved g with
      ctx := (moved g).ctx.setV (sDst w) (vMerge (g.ctx.getK (sMask w)) (sEw w) (g.ctx.getV (sDst w))
        (vIntRes (sFnV w) (sEw w) (g.ctx.getV (sSrc1 w)) (g.ctx.getV (sSrc2 w)) s.freeV)) })) ∧
    (AtInstr s i .vectorInt w g j → sFnV w = 14 → exec (.spnVectorInt i) s = .next (retire s.tickFree j { moved g with
      ctx := (moved g).ctx.setV (sDst w) (vMerge (g.ctx.getK (sMask w)) (sEw w) (g.ctx.getV (sDst w))
        (vPack (sEw w) (List.replicate (ewLanes (sEw w)) (g.ctx.getX (sSrc1 w)).toNat))) })) ∧
    (AtInstr s i .vectorInt w g j → sFnV w = 11 ∨ sFnV w = 12 → exec (.spnVectorInt i) s = .next (retire s.tickFree j { moved g with
      ctx := (moved g).ctx.setK (sDst w % 8) (kMerge (g.ctx.getK (sMask w)) (sEw w) (g.ctx.getK (sDst w % 8))
        (if ewFp (sEw w) then (vLanes (sEw w) s.freeV).map (fun x => decide (x % 2 = 1))
         else ((vLanes (sEw w) (g.ctx.getV (sSrc1 w))).zip (vLanes (sEw w) (g.ctx.getV (sSrc2 w)))).map (fun p =>
          if sFnV w = 11 then decide (p.1 = p.2) else decide (sgnOf (ewBits (sEw w)) p.1 < sgnOf (ewBits (sEw w)) p.2)))) })) ∧
    (AtInstr s i .reduce w g j → exec (.spnReduce i) s = .next (retire s.tickFree j { moved g with
      ctx := (moved g).ctx.setX (sDst w) ((vReduce (sFnV w) (sEw w) (((vLanes (sEw w) (g.ctx.getV (sSrc1 w))).zipIdx).filterMap
        (fun e => if laneOn (g.ctx.getK (sMask w)) (sEw w) e.2 then some (e.2, e.1) else none))).getD s.free64) })) ∧
    (AtInstr s i .gets w g j → exec (.spnGets i) s = .next (retire s.tickFree j { moved g with
      ctx := (moved g).ctx.setX (sDst w) (getsVal (bits 11 0 w) (moved g) j s) }))) ∧
  (∀ (i : Nat) (w : W32) (g : Grain) (j : Job) (a b d : List W32) (s : State), AtInstr s i .vectorFp w g j →
    a = (vLanes (sEw w) (g.ctx.getV (sSrc1 w))).map (laneF (sEw w)) → b = (vLanes (sEw w) (g.ctx.getV (sSrc2 w))).map (laneF (sEw w)) →
    d = (vLanes (sEw w) (g.ctx.getV (sDst w))).map (laneF (sEw w)) →
    (∀ q, sFnV w ≠ 9 → sFnV w ≠ 10 → ewFp (sEw w) = true →
      q = (a.zip (b.zip d)).map (fun p => fLane (sEw w) (match s.op j.id with
        | some o => o.sat
        | none => true) (vFpOp (sFnV w) p.1 p.2.1 p.2.2)) →
      exec (.spnVectorFp i) s = .next (retire (s.tickFree.countCnts j.tenant
          (((q.zipIdx).filter (fun e => laneOn (g.ctx.getK (sMask w)) (sEw w) e.2)).foldl (fun c e => c.add e.1.2) {})) j { moved g with
        ctx := (moved g).ctx.setV (sDst w) (vMerge (g.ctx.getK (sMask w)) (sEw w) (g.ctx.getV (sDst w))
          (vPack (sEw w) (q.map Prod.fst))) })) ∧
    (sFnV w ≠ 9 → sFnV w ≠ 10 → ewFp (sEw w) = false → exec (.spnVectorFp i) s = .next (retire s.tickFree j { moved g with
        ctx := (moved g).ctx.setV (sDst w) (vMerge (g.ctx.getK (sMask w)) (sEw w) (g.ctx.getV (sDst w)) s.freeV) })) ∧
    (sFnV w = 9 ∨ sFnV w = 10 → exec (.spnVectorFp i) s = .next (retire s.tickFree j { moved g with
        ctx := (moved g).ctx.setK (sDst w % 8) (kMerge (g.ctx.getK (sMask w)) (sEw w) (g.ctx.getK (sDst w % 8))
          (if ewFp (sEw w) then (a.zip b).map (fun p => match cmpN (f32 p.1) (f32 p.2) with
            | none => false
            | some x => if sFnV w = 9 then decide (x < 0) else decide (x = 0))
           else (vLanes (sEw w) s.freeV).map (fun x => decide (x % 2 = 1)))) }))) ∧
  (∀ (i : Nat) (w : W32) (g : Grain) (j : Job) (o : Op) (s : State), s.op j.id = some o →
    (∀ q, AtInstr s i .vcvt w g j → q = ((vLanes (sEw w) (g.ctx.getV (sSrc1 w))).zipIdx).map (fun e =>
        encElem (sFnV w) false (spnMode (sSrc2 w % 4) o (moved g).ctx e.2) o.sat (laneNum (sEw w) e.1)) →
      ∃ g', exec (.spnVcvt i) s = .next (retire (s.tickFree.countCnts j.tenant ((q.zipIdx).foldl (fun a e =>
            if laneOn (g.ctx.getK (sMask w)) (sEw w) e.2 then a.add e.1.2 else a) {})) j g') ∧
        g' = { moved g with ctx := (moved g).ctx.setV (sDst w) (g'.ctx.getV (sDst w)) } ∧
        (g.ctx.v.length = 32 → ∀ e x, q[e]? = some x → fmtBits (sFnV w) * (e + 1) ≤ 512 →
          bits (fmtBits (sFnV w) * (e + 1) - 1) (fmtBits (sFnV w) * e) (g'.ctx.getV (sDst w)) =
            if laneOn (g.ctx.getK (sMask w)) (sEw w) e then x.1 % 2 ^ fmtBits (sFnV w)
            else bits (fmtBits (sFnV w) * (e + 1) - 1) (fmtBits (sFnV w) * e) (g.ctx.getV (sDst w)))) ∧
    (∀ q, AtInstr s i .vmxq w g j → q = mxQuantize ((vLanes 4 (g.ctx.getV (sSrc1 w)) ++ vLanes 4 (g.ctx.getV ((sSrc1 w + 1) % 32))).map
        (fun v => f32 (BitVec.ofNat 32 v))) (sFnV w) ((List.range 32).map (fun k => spnMode (sMask w % 4) o (moved g).ctx k)) →
      ∃ v, exec (.spnVmxq i) s = .next (retire (s.tickFree.countCnts j.tenant q.2.2) j { moved g with
          ctx := ((moved g).ctx.setV (sDst w) v).setX (sSrc2 w) (BitVec.ofNat 64 q.1) }) ∧
        ∀ e x, q.2.1[e]? = some x → fmtBits (sFnV w) * (e + 1) ≤ 512 →
          bits (fmtBits (sFnV w) * (e + 1) - 1) (fmtBits (sFnV w) * e) v = x % 2 ^ fmtBits (sFnV w))) ∧
  (∀ (i : Nat) (w : W32) (g : Grain) (j : Job) (s : State), s.op j.id = none →
    (AtInstr s i .vcvt w g j → exec (.spnVcvt i) s = .next (retire s.tickFree j (moved g))) ∧
    (AtInstr s i .vmxq w g j → exec (.spnVmxq i) s = .next (retire s.tickFree j (moved g)))) ∧
  (∀ (c : Ctx) (v : W64), c.getX 0 = 0#64 ∧ c.setX 0 v = c ∧ c.getK 0 = 0xFFFFFFFFFFFFFFFF#64 ∧ c.setK 0 v = c) ∧
  (∀ (c : Ctx) (i k : Nat) (v : W64), c.x.length = 32 → 0 < i → i < 32 → (c.setX i v).getX i = v ∧ (k ≠ i → (c.setX i v).getX k = c.getX k)) ∧
  (∀ (a b : W64) (s : State), aluOp 0 a b s = a + b ∧ aluOp 1 a b s = a - b ∧ aluOp 8 a b s = a * b) ∧
  (∀ (a : W64) (s : State), aluOp 10 a 0#64 s = 0xFFFFFFFFFFFFFFFF#64 ∧ aluOp 11 a 0#64 s = a)

/-- Spaern accesses to memory (R213 to R215, R223): a load that its space answers writes its destination, extended as FN
says, and a store that is taken leaves the grain's registers; an atomic reads, then writes what it computes, on 8 aligned
bytes; CRC and CRCV write what they find; a fault of an access is the grain's, one that must wait leaves its instruction to
be run again; an access that leaves its space faults with code 2 and a misaligned atomic with code 4; scratch answers at
once within its 1,024 bytes, and UA as the grain's unit does. -/
def Obligations.MemoryInstructionsLoadAndStore : Prop :=
  (∀ (i : Nat) (w : W32) (g : Grain) (j : Job) (m : Work (List Byte)) (s u : State), AtInstr s i .load w g j →
    m = (moved g).load j (g.ctx.getX (sSrc1 w) + BitVec.ofInt 64 (sImm12 w)) (2 ^ (sFnB w % 4)) →
    (∀ b, m s = .ok b u → exec (.spnLoad i) s = .next (retire u j { moved g with
      ctx := (moved g).ctx.setX (sDst w) (if sFnB w < 4 then BitVec.ofInt 64 (sgnOf (8 * 2 ^ (sFnB w % 4)) (leNat b)) else BitVec.ofNat 64 (leNat b)) })) ∧
    (∀ k c, m s = .error (.fault k c) u → exec (.spnLoad i) s = .next (((g.unit j).ends u).faultGrain g k g.ctx.pc c)) ∧
    (∀ k, m s = .error (.wait k) u → exec (.spnLoad i) s = .next ((g.unit j).waits k u s))) ∧
  (∀ (i : Nat) (w : W32) (g : Grain) (j : Job) (m : Work Grain) (s u : State), AtInstr s i .store w g j →
    m = (moved g).store j (g.ctx.getX (sSrc1 w) + BitVec.ofInt 64 (sImm12 w)) (leBytes (2 ^ (sFnB w % 4)) (g.ctx.getX (sDst w)).toNat) allBytes →
    (∀ g', m s = .ok g' u → exec (.spnStore i) s = .next (retire u j g')) ∧
    (∀ k c, m s = .error (.fault k c) u → exec (.spnStore i) s = .next (((g.unit j).ends u).faultGrain g k g.ctx.pc c)) ∧
    (∀ k, m s = .error (.wait k) u → exec (.spnStore i) s = .next ((g.unit j).waits k u s))) ∧
  (∀ (g g' : Grain) (j : Job) (a : W64) (b : List Byte) (f : Nat → Bool) (s u : State), g.store j a b f s = .ok g' u →
    g' = { g with ctx := { g.ctx with scratch := g'.ctx.scratch } }) ∧
  (∀ (i : Nat) (w : W32) (g : Grain) (j : Job) (p : Place) (m : Work (List Byte)) (s u : State), AtInstr s i .atomic w g j →
    (g.ctx.getX (sSrc1 w)).toNat % 8 = 0 → placeOf (g.ctx.getX (sSrc1 w)) = some p →
    j.reaches true p 8 allBytes = true → m = (moved g).load j (g.ctx.getX (sSrc1 w)) 8 →
    (∀ b v g' x, m s = .ok b u →
      atomicOp (sFnA w) (BitVec.ofNat 64 (leNat b)) (g.ctx.getX (sSrc2 w)) (g.ctx.getX (sDst w)) = some v →
      (moved g).store j (g.ctx.getX (sSrc1 w)) (leBytes 8 v.toNat) allBytes u = .ok g' x →
      exec (.spnAtomic i) s = .next (retire x j { g' with ctx := g'.ctx.setX (sDst w) (BitVec.ofNat 64 (leNat b)) })) ∧
    (∀ b, m s = .ok b u → atomicOp (sFnA w) (BitVec.ofNat 64 (leNat b)) (g.ctx.getX (sSrc2 w)) (g.ctx.getX (sDst w)) = none →
      exec (.spnAtomic i) s = .next (retire u j { moved g with ctx := (moved g).ctx.setX (sDst w) (BitVec.ofNat 64 (leNat b)) })) ∧
    (∀ k c, m s = .error (.fault k c) u → exec (.spnAtomic i) s = .next (((g.unit j).ends u).faultGrain g k g.ctx.pc c)) ∧
    (∀ k, m s = .error (.wait k) u → exec (.spnAtomic i) s = .next ((g.unit j).waits k u s))) ∧
  (∀ (i : Nat) (w : W32) (g : Grain) (j : Job) (s : State), AtInstr s i .atomic w g j →
    ((g.ctx.getX (sSrc1 w)).toNat % 8 ≠ 0 → exec (.spnAtomic i) s =
      .next (((g.unit j).ends s).faultGrain g 4 g.ctx.pc .badDescriptor)) ∧
    ((g.ctx.getX (sSrc1 w)).toNat % 8 = 0 → placeOf (g.ctx.getX (sSrc1 w)) = none → exec (.spnAtomic i) s =
      .next (((g.unit j).ends s).faultGrain g 2 g.ctx.pc .permission))) ∧
  (∀ (i : Nat) (w : W32) (g : Grain) (j : Job) (s : State), AtInstr s i .vectorLoad w g j →
    (placeOf (g.ctx.getX (sSrc1 w)) = none → exec (.spnVectorLoad i) s = .next (((g.unit j).ends s).faultGrain g 2 g.ctx.pc .permission)) ∧
    (∀ p b u, placeOf (g.ctx.getX (sSrc1 w)) = some p →
      (moved g).loadAt j p 64 (byteOn (g.ctx.getK (sMask w)) (sEw w)) s = .ok b u →
      exec (.spnVectorLoad i) s = .next (retire u j { moved g with
        ctx := (moved g).ctx.setV (sDst w) (vMerge (g.ctx.getK (sMask w)) (sEw w) (g.ctx.getV (sDst w)) (bytesLine b)) }))) ∧
  (∀ (i : Nat) (w : W32) (g g' : Grain) (j : Job) (s u : State), AtInstr s i .vectorStore w g j →
    (moved g).store j (g.ctx.getX (sSrc1 w)) (lineBytes (g.ctx.getV (sDst w))) (byteOn (g.ctx.getK (sMask w)) (sEw w)) s = .ok g' u →
    exec (.spnVectorStore i) s = .next (retire u j g')) ∧
  (∀ (i : Nat) (w : W32) (g : Grain) (j : Job) (l : List (Nat × Nat)) (s u : State), AtInstr s i .gather w g j →
    ((laneAddrs (moved g).ctx w).mapM (fun e => do
      let b ← (moved g).load j e.2 (ewBits (sEw w) / 8)
      pure (e.1, leNat b)) : Work (List (Nat × Nat))) s = .ok l u →
    exec (.spnGather i) s = .next (retire u j { moved g with
      ctx := (moved g).ctx.setV (sDst w) (vPack (sEw w) (((vLanes (sEw w) (g.ctx.getV (sDst w))).zipIdx).map (fun e => match l.find? (fun v => v.1 = e.2) with
        | some v => v.2
        | none => e.1))) })) ∧
  (∀ (i : Nat) (w : W32) (g g' : Grain) (j : Job) (s u : State), AtInstr s i .scatter w g j →
    (laneAddrs (moved g).ctx w).foldlM (fun (h : Grain) e => h.store j e.2
      (leBytes (ewBits (sEw w) / 8) (((vLanes (sEw w) (g.ctx.getV (sDst w)))[e.1]?).getD 0)) allBytes) (moved g) s = .ok g' u →
    exec (.spnScatter i) s = .next (retire u j g')) ∧
  (∀ (i : Nat) (w : W32) (g : Grain) (j : Job) (s u : State), AtInstr s i .crc w g j →
    (g.ctx.getX (sSrc2 w) = 0#64 → exec (.spnCrc i) s = .next (retire s j { moved g with
      ctx := (moved g).ctx.setX (sDst w) ((crc32c []).setWidth 64) })) ∧
    (∀ b, g.ctx.getX (sSrc2 w) ≠ 0#64 → (moved g).load j (g.ctx.getX (sSrc1 w)) (g.ctx.getX (sSrc2 w)).toNat s = .ok b u →
      exec (.spnCrc i) s = .next (retire u j { moved g with ctx := (moved g).ctx.setX (sDst w) ((crc32c b).setWidth 64) }))) ∧
  (∀ (i : Nat) (w : W32) (g : Grain) (j : Job) (s u : State), AtInstr s i .crcv w g j →
    (∀ c, (moved g).load j (g.ctx.getX (sSrc1 w)) 16 s = .error (.fault 5 c) u →
      exec (.spnCrcv i) s = .next (retire u j { moved g with ctx := (moved g).ctx.setX (sDst w) 0x01#64 })) ∧
    (∀ h c x, (moved g).load j (g.ctx.getX (sSrc1 w)) 16 s = .ok h u →
      (moved g).load j (g.ctx.getX (sSrc1 w) + 16#64) (leAt h 5 2 % 2 ^ 13) u = .error (.fault 5 c) x →
      exec (.spnCrcv i) s = .next (retire x j { moved g with ctx := (moved g).ctx.setX (sDst w) 0x02#64 })) ∧
    (∀ h b x, (moved g).load j (g.ctx.getX (sSrc1 w)) 16 s = .ok h u →
      (moved g).load j (g.ctx.getX (sSrc1 w) + 16#64) (leAt h 5 2 % 2 ^ 13) u = .ok b x →
      exec (.spnCrcv i) s = .next (retire x j { moved g with
        ctx := (moved g).ctx.setX (sDst w) (if (crc32c b).toNat = leAt h 8 4 then 0x00#64 else 0x02#64) }))) ∧
  (∀ (i : Nat) (w : W32) (g : Grain) (j : Job) (c : Instr) (k : SCls) (f : Grain → Job → W32 → Work (Option Grain)) (s u : State),
    (c, k) ∈ [(Instr.spnVectorLoad i, SCls.vectorLoad), (.spnVectorStore i, .vectorStore), (.spnGather i, .gather),
      (.spnScatter i, .scatter), (.spnCrc i, .crc), (.spnCrcv i, .crcv)] → AtInstr s i k w g j → (∀ t, exec c t = t.spn i k f) →
    (∀ n e, f (moved g) j w s = .error (.fault n e) u → exec c s = .next (((g.unit j).ends u).faultGrain g n g.ctx.pc e)) ∧
    (∀ n, f (moved g) j w s = .error (.wait n) u → exec c s = .next ((g.unit j).waits n u s))) ∧
  (∀ (g : Grain) (j : Job) (a : W64) (n : Nat) (s : State),
    (placeOf a = none → ∃ u, g.load j a n s = .error (.fault 2 .permission) u) ∧
    (∀ p, placeOf a = some p → j.reaches false p n allBytes = false → ∃ u, g.load j a n s = .error (.fault 2 .permission) u) ∧
    (∀ x, placeOf a = some (.scratch x) → x + n ≤ 1024 →
      g.load j a n s = .ok ((List.range n).map (fun i => mget (x + i) g.ctx.scratch)) s) ∧
    (∀ x b u, placeOf a = some (.ua x) → j.reaches false (.ua x) n allBytes = true → (g.unit j).bytes x n s = .ok b u →
      g.load j a n s = .ok b u)) ∧
  (∀ (g : Grain) (j : Job) (a : W64) (b : List Byte) (f : Nat → Bool) (s : State),
    (placeOf a = none → ∃ u, g.store j a b f s = .error (.fault 2 .permission) u) ∧
    (∀ p, placeOf a = some p → j.reaches true p b.length f = false → ∃ u, g.store j a b f s = .error (.fault 2 .permission) u) ∧
    (∀ x, placeOf a = some (.scratch x) → x + b.length ≤ 1024 → ∃ g', g.store j a b f s = .ok g' s ∧
      g'.ctx.scratch = (b.zipIdx).foldl (fun m e => if f e.2 then mset (x + e.2) e.1 m else m) g.ctx.scratch))

/-- Spaern system instructions and where a grain stops (R215, R218, R220 to R223, R232): YIELD leaves the grain READY with
its context saved, and so does a WAIT whose counter has not the value, WAITING; both end a grain of a stopped job; FENCE and
a WAIT whose counter has the value go on; EXIT ends the grain; TRAP is fault 7; SIGNAL adds to a counter; MARK writes the
mark; a PC outside the code is fault 1 and a grain past its limits fault 6; a word of another class, or a grain that does
not run, is left; a fault of a job's last grain ends the operation with its status and its detail. -/
def Obligations.SystemInstructionsAndFaultsAct : Prop :=
  (∀ (i : Nat) (w : W32) (g : Grain) (j : Job) (s : State), AtInstr s i .yield w g j →
    (j.stop = none → exec (.spnYield i) s =
      .next (retire s j { moved g with st := .ready, saved := (moved g).ctx, savedCount := g.icount + 1, stamp := s.now })) ∧
    (j.stop.isSome = true → exec (.spnYield i) s = .next (((g.unit j).ends s).endGrain { moved g with st := .ready }))) ∧
  (∀ (i : Nat) (w : W32) (g : Grain) (j : Job) (s : State),
    (AtInstr s i .fence w g j → exec (.spnFence i) s = .next (retire s j (moved g))) ∧
    (AtInstr s i .exit w g j → exec (.spnExit i) s = .next (((g.unit j).ends s).endGrain g)) ∧
    (AtInstr s i .trap w g j → exec (.spnTrap i) s = .next (((g.unit j).ends s).faultGrain g 7 g.ctx.pc .badDescriptor))) ∧
  (∀ (i : Nat) (w : W32) (g : Grain) (j : Job) (s : State), AtInstr s i .wait w g j →
    ((g.ctx.getX (sSrc1 w)).toNat ≤ (j.counter (bits 3 0 w)).toNat → exec (.spnWait i) s = .next (retire s j (moved g))) ∧
    (∀ h, h = { moved g with st := .waiting, waitJc := bits 3 0 w, waitVal := g.ctx.getX (sSrc1 w), since := s.now } →
      (j.counter (bits 3 0 w)).toNat < (g.ctx.getX (sSrc1 w)).toNat →
      (j.stop = none → exec (.spnWait i) s =
        .next (retire s j { h with saved := h.ctx, savedCount := h.icount, stamp := s.now })) ∧
      (j.stop.isSome = true → exec (.spnWait i) s = .next (((g.unit j).ends s).endGrain h)))) ∧
  (∀ (i : Nat) (w : W32) (g : Grain) (j : Job) (s : State), AtInstr s i .signal w g j →
    exec (.spnSignal i) s = .next (retire (s.modJob j.id (fun x => { x with
      jc := x.jc.set (bits 3 0 w) (x.counter (bits 3 0 w) + g.ctx.getX (sSrc1 w)) })) j (moved g))) ∧
  (∀ (i : Nat) (w : W32) (g : Grain) (j : Job) (s : State), AtInstr s i .mark w g j →
    exec (.spnMark i) s = .next (retire (s.writeMark g.half (bits 9 0 w) j.tenant ((g.ctx.getX (sSrc1 w)).setWidth 32)) j (moved g))) ∧
  (∀ (i : Nat) (g : Grain) (j : Job) (c : Instr) (k : SCls) (s : State), s.grain i = some g → s.job g.job = some j →
    (c, k) ∈ [(Instr.spnAlu i, SCls.alu), (.spnAluImm i, .aluImm), (.spnLoadUpper i, .loadUpper), (.spnLoad i, .load), (.spnStore i, .store),
      (.spnBranch i, .branch), (.spnJump i, .jump), (.spnJumpReg i, .jumpReg), (.spnAtomic i, .atomic), (.spnYield i, .yield),
      (.spnFence i, .fence), (.spnExit i, .exit), (.spnTrap i, .trap), (.spnGets i, .gets), (.spnWait i, .wait), (.spnSignal i, .signal),
      (.spnMark i, .mark), (.spnVectorInt i, .vectorInt), (.spnVectorFp i, .vectorFp), (.spnReduce i, .reduce),
      (.spnVectorLoad i, .vectorLoad), (.spnVectorStore i, .vectorStore), (.spnGather i, .gather), (.spnScatter i, .scatter),
      (.spnVcvt i, .vcvt), (.spnVmxq i, .vmxq), (.spnCrc i, .crc), (.spnCrcv i, .crcv)] →
    (g.st ≠ .running → exec c s = .next s) ∧
    (g.st = .running → j.word g.ctx.pc = none → exec c s = .next (s.faultGrain g 1 g.ctx.pc .badDescriptor)) ∧
    (∀ w, g.st = .running → j.word g.ctx.pc = some w → sDecode w ≠ some k → exec c s = .next s) ∧
    (∀ w, g.st = .running → j.word g.ctx.pc = some w → sDecode w = some k → s.pastLimit g j = true →
      exec c s = .next (s.faultGrain g 6 g.ctx.pc .timeout))) ∧
  (∀ (g : Grain) (j : Job) (code pc : Nat) (c : Status) (o : Op) (s : State), s.job g.job = some j → j.id = g.job → j.stop = none →
    s.op j.id = some o → o.done = none → (∀ x, x ∈ s.grains → x.job = j.id → x.id = g.id) →
    (∃ x, (s.faultGrain g code pc c).op j.id = some x ∧ x.done = some c ∧ x.detail = faultDetail code g.index) ∧
    (∀ x, x ∈ (s.faultGrain g code pc c).grains → x.id ≠ g.id))

/-- Shared regions (R277, R278, R290, R291, Table SHR-8): a region whose set-up passes the checks is enabled with buffer 0
current and no pin, one that fails keeps all but ERR, which sets; on an enabled region only ERR's clear is taken; a disable
clears ENABLE and every pin, or sets ERR while a publication runs or a tenant maps it; once the last snoop of a walk is
answered it ends what it was for: a publication flips the region, a pin or its release is done, a commit's wait ends, a
reset's pin goes. Lines, failures and dynamic capacity (R283, R285, R286, R293, R295, R297, R298): an answer takes the
tenant, or the last one a COARSE entry, off the line, or leaves it SHARED, and what waited goes on; one that does not come
is a line failure, which orphans an OWNED line; a failed tenant loses its pins and holdings and is swept; a release of
orphans runs in the background until BUSY clears (log 36); Release Capacity clears RELACK until the host has released each
extent, and an answer of added capacity changes nothing; a command of SHR_CMD in a conflict, while one runs, or on a region
that is not enabled answers its status. -/
def Obligations.SharedRegionsAndTheirLines : Prop :=
  (∀ (v : W32) (g : Region) (s : State), g = (s.region s.shrSel).writeCfg v →
    ((s.region s.shrSel).enabled = false → s.regionOk s.shrSel g = true → Yields (.regionEnable v) s (fun t =>
      t.region s.shrSel = { g with enabled := true, cur := 0, pins := [] } ∧ (∀ r, r ≠ s.shrSel → t.region r = s.region r) ∧
      t = { s with shr := t.shr })) ∧
    ((s.region s.shrSel).enabled = false → s.regionOk s.shrSel g = false → Yields (.regionEnable v) s (fun t =>
      t.region s.shrSel = { s.region s.shrSel with cfgErr := true } ∧ (∀ r, r ≠ s.shrSel → t.region r = s.region r) ∧
      t = { s with shr := t.shr })) ∧
    ((s.region s.shrSel).enabled = true → Yields (.regionEnable v) s (fun t =>
      t.region s.shrSel = (if bit 30 v then { s.region s.shrSel with cfgErr := false } else s.region s.shrSel) ∧
      (∀ r, r ≠ s.shrSel → t.region r = s.region r) ∧ t = { s with shr := t.shr }))) ∧
  (∀ s : State, (s.region s.shrSel).enabled = true →
    ((s.region s.shrSel).pub = none → s.wtt.any (fun e => e.2.mapsRegion s.shrSel) = false → Yields .regionDisable s (fun t =>
      t.region s.shrSel = { s.region s.shrSel with enabled := false, pins := [] } ∧
      (∀ r, r ≠ s.shrSel → t.region r = s.region r) ∧ t = { s with shr := t.shr })) ∧
    ((s.region s.shrSel).pub.isSome = true ∨ s.wtt.any (fun e => e.2.mapsRegion s.shrSel) = true → Yields .regionDisable s (fun t =>
      t.region s.shrSel = { s.region s.shrSel with cfgErr := true } ∧ (∀ r, r ≠ s.shrSel → t.region r = s.region r) ∧
      t = { s with shr := t.shr }))) ∧
  (∀ s : State, (s.region s.shrSel).enabled = false → exec .regionDisable s = .next s) ∧
  (∀ (n : Nat) (s : State),
    (s.shr.walks.find? (fun x => x.id = n) = none ∨ s.walkReady n = false → exec (.backInvalidateDone n) s = .next s) ∧
    (∀ w, s.shr.walks.find? (fun x => x.id = n) = some w → s.walkReady n = true → exec (.backInvalidateDone n) s =
      .next (((s.modShr (fun h => { h with walks := h.walks.filter (fun x => x.id ≠ n) })).trimHeld w.plots).walkEnds w.why))) ∧
  (∀ (op r : Nat) (p : Pub) (s : State), (s.region r).pub = some p → s.shr.resWait = [] →
    ((s.walkEnds (.publish op r)).region r) = { s.region r with cur := p.buf.getD (s.region r).cur, ver := p.ver, pub := none } ∧
    (∀ o, s.op p.op = some o → (s.walkEnds (.publish op r)).op p.op = some { o with res := some p.ver })) ∧
  (∀ (op r : Nat) (o : Op) (s : State), s.op op = some o →
    ((s.walkEnds (.acquire op r)).region r).pins = (s.region r).pins.filter (fun p => p.tenant ≠ o.tenant) ++
      [{ tenant := o.tenant, buf := (s.region r).cur, ver := (s.region r).ver }] ∧
    (s.walkEnds (.acquire op r)).op op = some { o with res := some (s.region r).ver } ∧
    ((s.walkEnds (.release op r)).region r).pins = (s.region r).pins.filter (fun p => p.tenant ≠ o.tenant) ∧
    (s.walkEnds (.release op r)).op op = some { o with done := some .ok }) ∧
  (∀ (t : Nat) (s : State), (s.wttOf t).pend = some .walking →
    ((s.walkEnds (.commit t)).wttOf t).pend = some .clear ∧ (∀ u, u ≠ t → (s.walkEnds (.commit t)).wttOf u = s.wttOf u)) ∧
  (∀ (t r : Nat) (s : State), ((s.walkEnds (.flr t r)).region r).pins = (s.region r).pins.filter (fun p => p.tenant ≠ t)) ∧
  (∀ (n : Snoop) (s : State), s.shr.snoops.find? (fun x => x.id = n.id) = some n →
    exec (.snoopResponse n.id .clean) s = .next ((s.answered n).snoopDone n) ∧
    (∀ (d : Line) (p : Bool), exec (.snoopResponse n.id (.writeback d p)) s = .next (((s.writeBack n d p).answered n).snoopDone n)) ∧
    exec (.snoopTimeout n.id) s = .next (((s.lineFailure n.line n.tenant).answered n).snoopDone n)) ∧
  (∀ (i : Nat) (r : SnpRsp) (s : State), s.shr.snoops.find? (fun x => x.id = i) = none →
    exec (.snoopResponse i r) s = .next s ∧ exec (.snoopTimeout i) s = .next s) ∧
  (∀ (n : Snoop) (d : Dir) (s : State), s.dirOf n.line = some d →
    (d.st = .orphaned → (s.answered n).dirOf n.line = some d) ∧
    (n.inv = false → d.st = .owned → (s.answered n).dirOf n.line = some { d with st := .shared }) ∧
    (n.inv = false → d.st ≠ .owned → (s.answered n).dirOf n.line = some d) ∧
    (n.inv = true → d.st ≠ .orphaned → d.coarse = false → nmem n.tenant d.holders = true →
      (s.answered n).dirOf n.line =
        if ndel n.tenant d.holders = [] then none else some { d with holders := ndel n.tenant d.holders }) ∧
    (n.inv = true → d.st ≠ .orphaned → d.coarse = true → (∀ k, n.why ≠ .walk k) →
      s.shr.snoops.any (fun x => x.id ≠ n.id && x.line = n.line && x.why = n.why) = false → (s.answered n).dirOf n.line = none) ∧
    (∀ l, l ≠ n.line → (s.answered n).dirOf l = s.dirOf l) ∧
    (s.answered n).shr.snoops = s.shr.snoops.filter (fun x => x.id ≠ n.id)) ∧
  (∀ (l t : Nat) (d : Dir) (s : State), s.dirOf l = some d → d.st = .owned → nmem t d.holders = true →
    ((s.setOf l).filter (fun e => e.2.st = .orphaned)).length < 12 →
    (s.lineFailure l t).dirOf l = some { d with st := .orphaned } ∧
    (s.lineFailure l t).stw (Reg.SHR_TSTAT + 4 * t) = satField 15 0 1 (s.stw (Reg.SHR_TSTAT + 4 * t))) ∧
  (∀ (t : Tenant) (l : BitVec 46) (s : State), exec (.biconflict t l) s = .next (s.emit (.biConflictAck t.toNat l.toNat))) ∧
  (∀ (t : Tenant) (s : State), s.conflict = false → s.shr.relCmd = none → s.shr.snoops = [] →
    Yields (.shrFailTenant t) s (fun u => u.stw Reg.SHR_CSTAT = 0#32 ∧
      nmem t.toNat u.shr.sweeping = true ∧ (∀ r, (u.region r).pins = (s.region r).pins.filter (fun p => p.tenant ≠ t.toNat)))) ∧
  (∀ (t l : Nat) (d : Dir) (s : State), s.shr.snoops = [] → (s.failTenant t).dirOf l = some d → d.coarse = false → d.st ≠ .orphaned →
    nmem t d.holders = false) ∧
  (∀ (t : Tenant) (s : State), (nmem t.toNat s.shr.sweeping = false → exec (.failureSweepEnd t) s = .next s) ∧
    (nmem t.toNat s.shr.sweeping = true →
      Yields (.failureSweepEnd t) s (fun u => u.shr.sweeping = ndel t.toNat s.shr.sweeping ∧
        (∀ l d, u.dirOf l = some d → d.coarse = false → d.st ≠ .orphaned → nmem t.toNat d.holders = false) ∧
        (s.shr.dir.all (fun e => e.2.coarse || e.2.st = .orphaned || !nmem t.toNat e.2.holders) = true →
          u.shr.dir = s.shr.dir ∧ u.tier = s.tier)))) ∧
  (∀ (r : RegionId) (s : State), s.conflict = false → s.shr.relCmd = none → (s.region r.toNat).enabled = true →
    Yields (.releaseRegionOrphans r) s (fun t => t.stw Reg.SHR_CSTAT = 0x80000000#32 ∧
      t = { s with reg := t.reg, shr := { s.shr with relCmd := some (true, r.toNat) } })) ∧
  (∀ (u : Tenant) (s : State), s.conflict = false → s.shr.relCmd = none →
    Yields (.releaseTenantOrphans u) s (fun t => t.stw Reg.SHR_CSTAT = 0x80000000#32 ∧
      t = { s with reg := t.reg, shr := { s.shr with relCmd := some (false, u.toNat) } })) ∧
  (∀ (reg : Bool) (n : Nat) (s : State), s.shr.relCmd = some (reg, n) →
    s.releaseTick.shr.dir = s.shr.dir.filter (fun e => !(decide (e.2.st = .orphaned) &&
      (if reg then decide (e.2.region = n) else nmem n e.2.holders))) ∧
    s.releaseTick.shr.relCmd = none ∧ bit 31 (s.releaseTick.stw Reg.SHR_CSTAT) = false) ∧
  (∀ (r : RegionId) (u : Tenant) (s : State), ∀ c ∈ [Instr.releaseRegionOrphans r, .releaseCapacity r u, .releaseTenantOrphans u, .shrFailTenant u],
    (s.conflict = true → exec c s = .next (s.shrStatus .stewardConflict)) ∧
    (s.conflict = false → s.shr.relCmd.isSome = true → exec c s = .next (s.shrStatus .slotBusy))) ∧
  (∀ (r : RegionId) (u : Tenant) (s : State), ∀ c ∈ [Instr.releaseRegionOrphans r, .releaseCapacity r u],
    s.conflict = false → s.shr.relCmd = none → (s.region r.toNat).enabled = false → exec c s = .next (s.shrStatus .badDescriptor)) ∧
  (∀ (r : RegionId) (u : Tenant) (l : List Nat) (s : State), s.conflict = false → s.shr.relCmd = none →
    (s.region r.toNat).enabled = true →
    l = ((s.wttOf u.toNat).shared.filter (fun e => e.2.region = r.toNat)).map (fun e => e.1 * 2 ^ cfgSeg (s.wttOf u.toNat).cfg) →
    Yields (.releaseCapacity r u) s (fun t => t.stw Reg.SHR_CSTAT = 0#32 ∧
      (t.ld u.toNat).dcToRelease = (s.ld u.toNat).dcToRelease ++ l ∧
      (t.ld u.toNat).relAck = (if l = [] then (s.ld u.toNat).relAck else false) ∧
      t = { s with reg := t.reg, lds := t.lds, tags := t.tags, eng := t.eng, out := t.out })) ∧
  (∀ (u : Tenant) (a : W64) (s : State), Yields (.releaseDynamicCapacity u a) s (fun t =>
    (t.ld u.toNat).dcToRelease = (s.ld u.toNat).dcToRelease.filter (fun x => x ≠ a.toNat) ∧
    (t.ld u.toNat).relAck = ((s.ld u.toNat).relAck || decide ((t.ld u.toNat).dcToRelease = [])) ∧ (∀ v, v ≠ u.toNat → t.ld v = s.ld v) ∧
    t = { s with lds := t.lds })) ∧
  (∀ (u : Tenant) (s : State), exec (.addDynamicCapacityResponse u) s = .next s)

/-- DRAM channels (R324 to R328, R330, R332 to R335, R341, R342, R386): symbols and pins, and what a read of a line shows;
write drains, row closes, refreshes owed and issued, per bank or for all banks; a rise of the refresh rate at once and a
fall once granted; retraining pauses and their failures; aborted scripts, new script sets, and a lost channel, whose reads
end with poison; a paused channel serves no write; a channel number of no channel faults. -/
def Obligations.ChannelsServeRefreshAndRetrain : Prop :=
  (∀ (line pin : Nat), (pin < 36 → pinSyms true line pin = [pin]) ∧
    (pin < 16 → (pinSyms false line pin).filter (fun x => x < 32) = [pin, pin + 16])) ∧
  (∀ (d : DLoc) (ua : Nat) (t : Option Nat) (host : Bool) (s : State),
    (nmem d.key (s.chan d.chan).wq = true → s.lineBad d = []) ∧
    (∀ p, s.lineBad d = [] → s.mediaRead d ua t host p = (true, s)) ∧
    (∀ x, s.lineBad d = [x] → s.mediaRead d ua t host false = (true, s.correctedRead d (locUa ua))) ∧
    (∀ x y l p, s.lineBad d = x :: y :: l → (s.mediaRead d ua t host p).1 = false) ∧
    (∀ x l, s.lineBad d = x :: l → (s.mediaRead d ua t host true).1 = false)) ∧
  (∀ (ch : Nat) (s : State), ch < 264 →
    ((s.chan ch).st ≠ .paused → Yields (.writeQueueServe ch) s (fun t => t.chan ch = (s.chan ch).serveWrites ∧
      (∀ c, c ≠ ch → t.chan c = s.chan c) ∧ t = { s with dmc := t.dmc })) ∧
    ((s.chan ch).st = .paused → exec (.writeQueueServe ch) s = .next s)) ∧
  (∀ (c : Chan) (k : Nat) (r : List Nat), c.wq = k :: r →
    (∀ x, x ∈ c.serveWrites.wq → x ∈ c.wq) ∧ k ∉ c.serveWrites.wq ∧ c.serveWrites.chk = []) ∧
  (∀ (ch b : Nat) (s : State), ch < 264 → Yields (.rowIdleClose ch b) s (fun t =>
    tfind b (t.chan ch).rows = none ∧ tget 2 b (t.chan ch).rowCnt =
      (if (tfind b (s.chan ch).rows).isSome then tget 2 b (s.chan ch).rowCnt - 1 else tget 2 b (s.chan ch).rowCnt) ∧
    (∀ c, c ≠ ch → t.chan c = s.chan c) ∧ t = { s with dmc := t.dmc })) ∧
  (∀ (ch b : Nat) (s : State), ch < 264 → Yields (.refreshDue ch b) s (fun t =>
    (∀ c, c ∈ (if bit 0 (s.stw (Reg.DMC_RCFG + 4 * chanTier ch)) then chanBanks ch else [b]) → tget 0 c (t.chan ch).owed =
        (if s.urgentWait ch (if bit 0 (s.stw (Reg.DMC_RCFG + 4 * chanTier ch)) then chanBanks ch else [b]) = true ∧
            tget 0 c (s.chan ch).owed < min 8 (bits 15 12 (s.stw (Reg.DMC_RCFG + 4 * chanTier ch)))
          then tget 0 c (s.chan ch).owed + 1 else 0)) ∧
    (∀ c, c ∉ (if bit 0 (s.stw (Reg.DMC_RCFG + 4 * chanTier ch)) then chanBanks ch else [b]) →
      tget 0 c (t.chan ch).owed = tget 0 c (s.chan ch).owed) ∧ (∀ c, c ≠ ch → t.chan c = s.chan c) ∧ t = { s with dmc := t.dmc })) ∧
  (∀ (ch : Nat) (r : BitVec 2) (s : State), ch < 264 →
    (r = 3#2 → exec (.temperaturePoll ch r) s = .next s) ∧
    (r ≠ 3#2 → (s.chan ch).refRate.toNat ≤ r.toNat → Yields (.temperaturePoll ch r) s (fun t =>
      t.chan ch = { s.chan ch with refRate := r, rateWant := none } ∧ t = { s with dmc := t.dmc, ras := t.ras })) ∧
    (r.toNat < (s.chan ch).refRate.toNat → exec (.temperaturePoll ch r) s =
      .next (if s.actOf 3 ch = none then (s.setChan ch { s.chan ch with rateWant := some r }).maintAsk 3 [ch] ch
        else s.setChan ch { s.chan ch with rateWant := some r }))) ∧
  (∀ (ch : Nat) (r : BitVec 2) (s : State), ch < 264 →
    ((s.chan ch).rateWant = some r → s.holdsGrant 3 ch = true → Yields (.refreshRateChange ch r) s (fun t =>
      t.chan ch = { s.chan ch with refRate := r, rateWant := none } ∧ t = { s with dmc := t.dmc, ras := t.ras })) ∧
    ((s.chan ch).rateWant ≠ some r ∨ s.holdsGrant 3 ch = false → exec (.refreshRateChange ch r) s = .next s)) ∧
  (∀ (ch : Nat) (s u : State), ch < 264 → bit 31 (s.stw (Reg.DMC_TCFG + 4 * chanTier ch)) = true → (s.chan ch).st = .inService →
    (s.chan ch).lost = false → u = (if (s.actOf 2 ch).isSome then s else s.maintAsk 2 [ch] ch) →
    (u.holdsGrant 2 ch = true → Yields (.retrainPauseDue ch) s (fun t => t.chan ch = { s.chan ch with st := .paused, rows := [], owed := [] } ∧
      t.stw (bstatOf ch) = satField 15 0 1 (s.stw (bstatOf ch)) ∧ t = { u with dmc := t.dmc, reg := t.reg })) ∧
    (u.holdsGrant 2 ch = false → exec (.retrainPauseDue ch) s = .next u)) ∧
  (∀ (ch : Nat) (s : State), ch < 264 →
    bit 31 (s.stw (Reg.DMC_TCFG + 4 * chanTier ch)) = false ∨ (s.chan ch).st ≠ .inService ∨ (s.chan ch).lost = true →
    exec (.retrainPauseDue ch) s = .next s) ∧
  (∀ (ch : Nat) (s : State), ch < 264 → (s.chan ch).st = .paused →
    exec (.retrainPauseEnd ch true) s = .next ((s.setChan ch { s.chan ch with st := .inService, tfails := 0 }).maintEnd 2 ch).closeResume ∧
    ((s.chan ch).tfails ≠ 2 → exec (.retrainPauseEnd ch false) s = .next (((s.setChan ch { s.chan ch with
      st := .inService, tfails := (s.chan ch).tfails + 1 }).maintEnd 2 ch).cntStw (bstatOf ch) 23 16 1).closeResume) ∧
    ((s.chan ch).tfails = 2 → bit 31 (s.stw Reg.DMC_ECFG) = false ∨ 136 ≤ ch → exec (.retrainPauseEnd ch false) s =
      .next (State.closeResume (State.logRec { typ := 0x10, sev := 1, unit := chanUnit ch, aux0 := 3 }
        (((s.setChan ch { s.chan ch with st := .inService, tfails := 3 }).maintEnd 2 ch).cntStw (bstatOf ch) 23 16 1)))) ∧
    (∀ r, (s.chan ch).tfails = 2 → bit 31 (s.stw Reg.DMC_ECFG) = true → ch < 136 → r ∈ s.ranksOn ch → s.cmp.closeWait = [] →
      Yields (.retrainPauseEnd ch false) s (fun t => (t.rank r).auto = true))) ∧
  (∀ (ch : Nat) (ok : Bool) (s : State), ch < 264 → (s.chan ch).st ≠ .paused → exec (.retrainPauseEnd ch ok) s = .next s) ∧
  (∀ (ch : Nat) (s u : State), ch < 264 → u = s.cntStw (Reg.DMC_SQSTAT + 4 * chanTier ch) 15 0 1 →
    exec (.scriptAbort ch) s = .next (if (s.chan ch).st = .paused then u.pauseEnd ch false
      else if s.holdsGrant 3 ch then (u.modChan ch (fun c => { c with rateWant := none })).maintEnd 3 ch else u)) ∧
  (∀ (near : Bool) (v : W16) (n : Nat) (ask : Half → State → State) (s u : State), n = (if near then 0 else 1) →
    ask = (fun h s => if (s.actOf 7 (2 * n + halfIdx h)).isSome then s else s.maintAsk 7 (scTier n h) (2 * n + halfIdx h)) →
    u = ask .south (ask .north s) →
    (u.holdsGrant 7 (2 * n) = true → u.holdsGrant 7 (2 * n + 1) = true → Yields (.scriptSetCommit near v) s (fun t =>
      tget 0#16 n t.dmc.setVer = v ∧ tfind n t.dmc.setNext = none ∧ t = { u with dmc := t.dmc, ras := t.ras })) ∧
    (u.holdsGrant 7 (2 * n) = false ∨ u.holdsGrant 7 (2 * n + 1) = false → Yields (.scriptSetCommit near v) s (fun t =>
      t.dmc.setVer = s.dmc.setVer ∧ tfind n t.dmc.setNext = some v ∧ t = { u with dmc := t.dmc }))) ∧
  (∀ (ch : Nat) (s : State), ch < 264 →
    exec (.channelLost ch) s = .next (forAll ((s.dmc.reads.filter (fun r => r.chan = ch && !r.timedOut)).flatMap TierRead.req)
      (fun r s => s.endReq r .poisonConsumed) ((s.modDmc (fun d => { d with reads := d.reads.filter (fun r => r.chan ≠ ch || r.timedOut) })).modChan
        ch (fun c => { c with lost := true, wq := [], chk := [] }))).closeResume) ∧
  (∀ (ch b : Nat) (r : BitVec 2) (ok : Bool) (s : State), 264 ≤ ch →
    ∀ c ∈ [Instr.writeQueueServe ch, .rowIdleClose ch b, .refreshDue ch b, .temperaturePoll ch r, .refreshRateChange ch r,
      .retrainPauseDue ch, .retrainPauseEnd ch ok, .scriptAbort ch, .channelLost ch],
    exec c s = .fault (.noSuchUnit "channel" ch))

/-- Rank evacuation (R144, R145, R336 to R340, Tables DMC-3, DMC-4, DMC-13): a NORMAL rank is copied to a free spare, or
spilled where none is free and the half's spill area is unused, else QUOTA; one evacuation runs on a half; the copy's end,
the switchover and the spill, each under its grant, move the rank on, the last two retiring the old one; a unit that the
codec makes a fixed block takes no escape entry, any other takes one, and a pool with none parks the spill; without the
grant, or in another state, nothing happens, and a refused command answers its status. -/
def Obligations.RanksAreEvacuated : Prop :=
  (∀ (r : BitVec 8) (s : State), s.conflict = false → s.evacRuns r.toNat = false → (s.rank r.toNat).st = .normal →
    (∀ p, pickFree (s.freeSpares (rankHalf r.toNat)) s = some p → Yields (.evacuate r) s (fun t =>
      (t.rank r.toNat).st = .copying ∧ (t.rank r.toNat).spare = p ∧ (t.rank r.toNat).phys = (s.rank r.toNat).phys ∧
      p ∈ s.freeSpares (rankHalf r.toNat) ∧ bits 31 8 (t.stw (estatOf r.toNat)) = 0x800000)) ∧
    (pickFree (s.freeSpares (rankHalf r.toNat)) s = none → nmem (rankHalf r.toNat) s.dmc.spillUsed = false →
      Yields (.evacuate r) s (fun t => (t.rank r.toNat).st = .spilling ∧ nmem (rankHalf r.toNat) t.dmc.spillUsed = true)) ∧
    (pickFree (s.freeSpares (rankHalf r.toNat)) s = none → nmem (rankHalf r.toNat) s.dmc.spillUsed = true →
      Yields (.evacuate r) s (fun t => (t.rank r.toNat).st = .normal ∧ bits 7 0 (t.stw (estatOf r.toNat)) = Status.quota.code))) ∧
  (∀ (r : BitVec 8) (s : State),
    (s.conflict = true → exec (.evacuate r) s = .next (s.evacStatus r.toNat .stewardConflict)) ∧
    (s.conflict = false → s.evacRuns r.toNat = true → exec (.evacuate r) s = .next (s.evacStatus r.toNat .slotBusy)) ∧
    (s.conflict = false → s.evacRuns r.toNat = false → (s.rank r.toNat).st ≠ .normal →
      exec (.evacuate r) s = .next (s.evacStatus r.toNat .permission))) ∧
  (∀ (r : BitVec 8) (s : State), (s.conflict = true → exec (.evacuateCancel r) s = .next (s.evacStatus r.toNat .stewardConflict)) ∧
    (s.conflict = false → (s.rank r.toNat).st = .copying → Yields (.evacuateCancel r) s (fun t =>
      t.rank r.toNat = { s.rank r.toNat with st := .normal, spare := 0, row := 0 } ∧ t.stw (estatOf r.toNat) = 0#32)) ∧
    (s.conflict = false → (s.rank r.toNat).st ≠ .copying → exec (.evacuateCancel r) s = .next (s.evacStatus r.toNat .permission))) ∧
  (∀ (r : BitVec 8) (s : State),
    (bit 31 (s.stw Reg.DMC_ECFG) = false ∨ (s.rank r.toNat).auto = false → exec (.evacuateAutoTrigger r) s = .next s) ∧
    (bit 31 (s.stw Reg.DMC_ECFG) = true → (s.rank r.toNat).auto = true → (s.rank r.toNat).st ≠ .normal →
      exec (.evacuateAutoTrigger r) s = .next (s.setRank r.toNat { s.rank r.toNat with auto := false })) ∧
    (bit 31 (s.stw Reg.DMC_ECFG) = true → (s.rank r.toNat).auto = true → (s.rank r.toNat).st = .normal →
      exec (.evacuateAutoTrigger r) s = .next (if s.evacRuns r.toNat then s else s.startEvac r.toNat))) ∧
  (∀ (r : BitVec 8) (s : State),
    ((s.rank r.toNat).st = .copying → s.holdsGrant 4 r.toNat = true →
      Yields (.evacuateCopyDone r) s (fun t => (t.rank r.toNat).st = .switching ∧ (t.rank r.toNat).row = 1864135 ∧
        (t.rank r.toNat).phys = (s.rank r.toNat).phys ∧ (t.rank r.toNat).spare = (s.rank r.toNat).spare ∧
        bits 17 8 (t.stw (estatOf r.toNat)) = 1000)) ∧
    ((s.rank r.toNat).st ≠ .copying ∨ s.holdsGrant 4 r.toNat = false → exec (.evacuateCopyDone r) s = .next s)) ∧
  (∀ (r : BitVec 8) (s : State),
    ((s.rank r.toNat).st = .switching → s.holdsGrant 4 r.toNat = true →
      Yields (.switchoverEnd r) s (fun t => t.rank r.toNat = { s.rank r.toNat with
          st := .spared, phys := (s.rank r.toNat).spare, spare := 0, row := 0 } ∧
        nmem (s.rank r.toNat).phys t.dmc.retiredRanks = true ∧ bit 31 (t.stw (estatOf r.toNat)) = false)) ∧
    ((s.rank r.toNat).st ≠ .switching ∨ s.holdsGrant 4 r.toNat = false → exec (.switchoverEnd r) s = .next s)) ∧
  (∀ (r : BitVec 8) (l : List Nat) (s : State),
    ((s.rank r.toNat).st = .spilling → s.holdsGrant 4 r.toNat = true → bit 30 (s.stw (estatOf r.toNat)) = false →
      l = (ninsAll ((s.rankBytes r.toNat).map (fun c => c.1 / 4096)) []).filter (fun u => (s.rank r.toNat).row ≤ u) →
      (∀ v, s.spillUnits r.toNat (s.rankBytes r.toNat) l = (none, v) → Yields (.spillDone r) s (fun t =>
        (t.rank r.toNat).st = .spilled ∧ nmem (s.rank r.toNat).phys t.dmc.retiredRanks = true ∧ t.tier.esc = v.tier.esc)) ∧
      (∀ u v, s.spillUnits r.toNat (s.rankBytes r.toNat) l = (some u, v) → exec (.spillDone r) s =
        .next ((v.modRank r.toNat (fun k => { k with row := u })).modStw (estatOf r.toNat) (setBit 30 true)))) ∧
    ((s.rank r.toNat).st ≠ .spilling ∨ s.holdsGrant 4 r.toNat = false ∨ bit 30 (s.stw (estatOf r.toNat)) = true →
      exec (.spillDone r) s = .next s)) ∧
  (∀ (r u : Nat) (b : List Byte) (s : State),
    (unitCodes b = true → s.spillUnit r u b = (true, s)) ∧
    (∀ i, unitCodes b = false → s.freeEscape (rankHalf r) = some i → (s.spillUnit r u b).1 = true ∧
      nmem i (s.spillUnit r u b).2.tier.escUsed = true ∧ tfind (r * 2 ^ 24 + u) (s.spillUnit r u b).2.dmc.spillEsc = some i) ∧
    (unitCodes b = false → s.freeEscape (rankHalf r) = none →
      s.spillUnit r u b = (false, s.cntStw (Reg.CMP_FIX + 4 * rankHalf r) 3 0 1))) ∧
  (∀ (h : Half) (s : State), (s.escFull (halfIdx h) = true → exec (.spillResume h) s = .next s) ∧
    (s.escFull (halfIdx h) = false → Yields (.spillResume h) s (fun t => bit 30 (t.stw (Reg.DMC_ESTAT + 4 * halfIdx h)) = false ∧
      t = { s with reg := t.reg })))

/-- Cistern banks and their ports (R345 to R347, R349, R350, R353, R356 to R358, R429, Tables CST-3 to CST-5): a command
that its checks let pass has its effect, and else gives its status and leaves the banks; a handover drops, clears and gives
its bank once no tile reads it; a filling bank becomes ON with zeros; an allotment takes a free bank or waits; idle FREE
banks beyond KEEPON save power only with AUTO. In a cycle of a bank that is ON a port takes one access, a starved one first,
then by Table CST-4; a read sees its entry as before a write of the same cycle, and port 0's bytes stand where both write;
an access wakes a bank that is not ON. -/
def Obligations.BanksAreGivenPoweredAndCleared : Prop :=
  (∀ (b : BankId) (f : BitVec 4) (d : Bool) (s : State),
    d = (!((s.bank b.toNat).kind = .free || (s.bank b.toNat).kind = .stage) ||
      ((s.bank b.toNat).kind = .stage && (s.bank b.toNat).owner ≠ f.toNat && (s.fe (s.bank b.toNat).owner).ctl.st = .inService &&
        (s.sbanks (s.bank b.toNat).owner).length ≤ 2) ||
      (!((s.bank b.toNat).kind = .stage && (s.bank b.toNat).owner = f.toNat) && (s.sbanks f.toNat).length ≥ 15)) →
    (s.bcCheck b.toNat (decide (bankHalf b.toNat ≠ feHalf f.toNat)) d = .ok →
      Yields (.bankGiveStage b f) s (fun t => t.bank b.toNat = { s.bank b.toNat with handover := some (some f.toNat), next := some .stage } ∧
        bit 31 (t.stw Reg.CST_BCSTAT) = true ∧ (∀ n, n ≠ b.toNat → t.bank n = s.bank n) ∧ t = { s with cst := t.cst, reg := t.reg })) ∧
    (∀ c, s.bcCheck b.toNat (decide (bankHalf b.toNat ≠ feHalf f.toNat)) d = c → c ≠ .ok →
      exec (.bankGiveStage b f) s = .next (s.bcStatus c))) ∧
  (∀ (b : Nat) (x y : Bool) (s : State), s.bcCheck b x y = (if s.conflict then .stewardConflict
    else if s.bcBusy = true ∨ (s.bank b).kind = .test ∨ (s.bank b).ps = .filling ∨ (s.bank b).handover ≠ none then .slotBusy
    else if x then .badDescriptor
    else if (s.bank b).kind = .mgmt ∨ (s.bank b).kind = .work ∨ (s.bank b).kind = .job ∨ y = true then .permission else .ok)) ∧
  (∀ (b : BankId) (c : Status) (s : State), s.bcCheck b.toNat false ((s.bank b.toNat).kind = .retired && !(s.bank b.toNat).mpass) = c →
    exec (.bankReturnPool b) s = .next (if c = .ok ∧ (s.bank b.toNat).kind ≠ .free then s.startHandover b.toNat none .free
      else s.bcStatus c)) ∧
  (∀ (b : BankId) (s : State), s.bcCheck b.toNat false false = .ok →
    ((s.bank b.toNat).kind = .stage → exec (.bankRetire b) s = .next (s.startHandover b.toNat none .retired)) ∧
    ((s.bank b.toNat).kind = .retired → exec (.bankRetire b) s = .next (s.bcStatus .ok)) ∧
    ((s.bank b.toNat).kind = .free → Yields (.bankRetire b) s (fun t => (t.bank b.toNat).kind = .retired ∧
      t = { s with cst := t.cst, reg := t.reg, mgmt := t.mgmt })) ∧
    (exec (.bankPowerOn b) s = .next ((s.wakeBank b.toNat).bcStatus .ok)) ∧
    Yields (.bankRetention b) s (fun t => t.bank b.toNat = { s.bank b.toNat with
        ps := if (s.bank b.toNat).ps = .on then .retention else (s.bank b.toNat).ps } ∧
      t.cst.mem = s.cst.mem ∧ t = { s with cst := t.cst, reg := t.reg }) ∧
    ((s.bank b.toNat).ps = .on ∨ (s.bank b.toNat).ps = .retention → Yields (.bankFallow b) s (fun t =>
      t.bank b.toNat = { s.bank b.toNat with ps := .fallow } ∧
      (∀ a, a < 524288 → mget (524288 * b.toNat + a) t.cst.mem = 0#8) ∧
      (∀ a, a < 524288 * b.toNat ∨ 524288 * (b.toNat + 1) ≤ a → mget a t.cst.mem = mget a s.cst.mem) ∧
      (∀ n x, x ∈ (t.fe n).staged → x.bank ≠ b.toNat))) ∧
    ((s.bank b.toNat).ps = .fallow → exec (.bankFallow b) s = .next (s.bcStatus .ok))) ∧
  (∀ (b : BankId) (c : Status) (s : State), c ≠ .ok → s.bcCheck b.toNat false false = c →
    exec (.bankRetire b) s = .next (s.bcStatus c) ∧ exec (.bankPowerOn b) s = .next (s.bcStatus c) ∧
    exec (.bankRetention b) s = .next (s.bcStatus c) ∧ exec (.bankFallow b) s = .next (s.bcStatus c)) ∧
  (∀ (b : BankId) (s : State),
    ((s.bank b.toNat).handover = none ∨ s.bankRead b.toNat = true → exec (.handoverComplete b) s = .next s) ∧
    (∀ dst, (s.bank b.toNat).handover = some dst → s.bankRead b.toNat = false →
      (s.bank b.toNat).next ≠ some .free ∨ s.cst.allotWait = [] → Yields (.handoverComplete b) s (fun t =>
        t.bank b.toNat = { s.bank b.toNat with
          kind := (s.bank b.toNat).next.getD .free, owner := dst.getD 0, ps := .on, handover := none, next := none } ∧
        (∀ a, a < 524288 → mget (524288 * b.toNat + a) t.cst.mem = 0#8) ∧ bit 31 (t.stw Reg.CST_BCSTAT) = false ∧
        (∀ n x, x ∈ (t.fe n).staged → x.bank ≠ b.toNat) ∧ t = { s with cst := t.cst, reg := t.reg, fes := t.fes, mgmt := t.mgmt }))) ∧
  (∀ (b : BankId) (s : State), (s.bank b.toNat).ps = .filling → exec (.zeroFillDone b) s = .next (match (s.bank b.toNat).next with
      | some k => ((s.zeroBank b.toNat).setBank b.toNat { s.bank b.toNat with kind := k, owner := 0, ps := .on, next := none }).retryAllot
      | none => ((s.zeroBank b.toNat).setBank b.toNat { s.bank b.toNat with ps := .on }).retryAllot)) ∧
  (∀ (b a : Nat) (s : State), a < 524288 → mget (524288 * b + a) (s.zeroBank b).cst.mem = 0#8) ∧
  (∀ s : State, s.cst.allotWait = [] → s.retryAllot = s) ∧
  (∀ (b : BankId) (s : State), ((s.bank b.toNat).ps ≠ .filling → exec (.zeroFillDone b) s = .next s) ∧
    (nmem b.toNat s.cst.waking = false → exec (.bankWakeDone b) s = .next s) ∧
    (nmem b.toNat s.cst.waking = true → Yields (.bankWakeDone b) s (fun t => t.bank b.toNat = { s.bank b.toNat with
        ps := if (s.bank b.toNat).ps = .retention then .on else (s.bank b.toNat).ps } ∧
      t.cst.waking = ndel b.toNat s.cst.waking ∧ t.cst.mem = s.cst.mem ∧ t = { s with cst := t.cst }))) ∧
  (∀ (n : Nat) (j : Job) (s : State), s.job n = some j → j.banks.length < j.needBanks →
    (∀ b, s.freeBank j.half = some b → (s.bank b).ps = .on → Yields (.bankAllot n) s (fun t =>
      t.bank b = { s.bank b with kind := .job, owner := n } ∧
      t.job n = some { j with banks := j.banks ++ [b] } ∧ t = { s with cst := t.cst, jobs := t.jobs })) ∧
    (∀ b, s.freeBank j.half = some b → Yields (.bankAllot n) s (fun t => (t.bank b).kind = .job ∧ (t.bank b).owner = n ∧
      t.job n = some { j with banks := j.banks ++ [b] })) ∧
    (s.freeBank j.half = none → Yields (.bankAllot n) s (fun t => n ∈ t.cst.allotWait ∧ t.cst.banks = s.cst.banks ∧ t.jobs = s.jobs))) ∧
  (∀ (n : Nat) (s : State), (∀ j, s.job n = some j → j.needBanks ≤ j.banks.length) → Yields (.bankAllot n) s (fun t =>
    t = { s with cst := { s.cst with allotWait := s.cst.allotWait.filter (fun j => j ≠ n) } })) ∧
  (∀ (b : BankId) (s : State),
    (s.mayIdle b.toNat = true → exec (.bankIdleRetention b) s = .next (s.toRetention b.toNat) ∧
      exec (.bankIdleFallow b) s = .next (s.toFallow b.toNat)) ∧
    (s.mayIdle b.toNat = false → exec (.bankIdleRetention b) s = .next s ∧ exec (.bankIdleFallow b) s = .next s) ∧
    (s.cisAuto b.toNat = false ∨ (s.bank b.toNat).kind ≠ .free → s.mayIdle b.toNat = false)) ∧
  (∀ (b : BankId) (p : Bool) (h : Nat) (s : State), h = halfIdx (bankHalf b.toNat) →
    ((tget {} b.toNat s.cst.ports).wait.any (fun w => w.port1 = p && 32 ≤ w.stall) = true →
      exec (.portStarveOverride b p) s = .next (s.portCycle b [])) ∧
    ((tget {} b.toNat s.cst.ports).wait.any (fun w => w.port1 = p && 32 ≤ w.stall) = false → Yields (.portStarveOverride b p) s (fun t =>
      t.stw (Reg.CST_CONF + 4 * h) = satField 31 0 32 (s.stw (Reg.CST_CONF + 4 * h)) ∧
      t.stw (Reg.CST_CONF1 + 4 * h) = satField 31 16 1 (s.stw (Reg.CST_CONF1 + 4 * h)) ∧ t = { s with reg := t.reg }))) ∧
  (∀ (b : BankId) (l : List CReq) (a : List Item) (s : State), exec (.arbiterServe (.cistern b l) a) s = .next (s.portCycle b l) ∧
    ((s.bank b.toNat).ps ≠ .on → (s.portCycle b l).cst.mem = s.cst.mem ∧
      (tget {} b.toNat (s.portCycle b l).cst.ports).wait =
        (tget {} b.toNat s.cst.ports).wait ++ l.map (fun r => { req := r, port1 := false }) ∧
      ((s.bank b.toNat).ps = .retention → nmem b.toNat (s.portCycle b l).cst.waking = true) ∧
      ((s.bank b.toNat).ps = .fallow → ((s.portCycle b l).bank b.toNat).ps = .filling))) ∧
  (∀ a c : CWait,
    (32 ≤ a.stall → c.stall < 32 → a.before c = true) ∧
    (∀ x y, a.stall < 32 → c.stall < 32 → portRank a.port1 a.req.who = some x → portRank c.port1 c.req.who = some y → x < y →
      a.before c = true ∧ c.before a = false)) ∧
  (∀ (b : BankId) (r : CReq) (d : W128) (be : BitVec 16) (s : State), (s.bank b.toNat).ps = .on → tget {} b.toNat s.cst.ports = {} →
    r.atomic = false → r.write = some (d, be) → twoCycles r = false → memWf s.cst.mem = true →
    tget {} b.toNat (s.portCycle b [r]).cst.ports = {} ∧
    ∀ a, mget a (s.portCycle b [r]).cst.mem =
      if 524288 * b.toNat + 16 * r.entry.toNat ≤ a ∧ a < 524288 * b.toNat + 16 * r.entry.toNat + 16 ∧
          be.getLsbD (a - (524288 * b.toNat + 16 * r.entry.toNat)) = true
        then d.extractLsb' (8 * (a - (524288 * b.toNat + 16 * r.entry.toNat))) 8 else mget a s.cst.mem) ∧
  (∀ (b : BankId) (i j : Nat) (e : BitVec 15) (d0 d1 : W128) (be0 be1 : BitVec 16) (r0 r1 : CReq) (s : State), (s.bank b.toNat).ps = .on →
    tget {} b.toNat s.cst.ports = {} → memWf s.cst.mem = true → r0 = { id := i, who := .feWrite, entry := e, write := some (d0, be0), atomic := false } →
    r1 = { id := j, who := .meshWrite, entry := e, write := some (d1, be1), atomic := false } → twoCycles r0 = false → twoCycles r1 = false →
    (∀ k, k < 16 → mget (524288 * b.toNat + 16 * e.toNat + k) (s.portCycle b [r0, r1]).cst.mem =
      if be0.getLsbD k then d0.extractLsb' (8 * k) 8 else if be1.getLsbD k then d1.extractLsb' (8 * k) 8
        else mget (524288 * b.toNat + 16 * e.toNat + k) s.cst.mem) ∧
    (s.portCycle b [r0, r1]).stw (Reg.CST_CONF1 + 4 * halfIdx (bankHalf b.toNat)) =
      satField 15 0 1 (satField 31 16 0 (s.stw (Reg.CST_CONF1 + 4 * halfIdx (bankHalf b.toNat))))) ∧
  (∀ (b : BankId) (i j : Nat) (e : BitVec 15) (d1 : W128) (be1 : BitVec 16) (r0 r1 : CReq) (s : State), (s.bank b.toNat).ps = .on →
    tget {} b.toNat s.cst.ports = {} → s.cst.damage = [] → s.cst.poison = [] →
    r0 = { id := i, who := .weightSluice, entry := e, write := none, atomic := false } →
    r1 = { id := j, who := .meshWrite, entry := e, write := some (d1, be1), atomic := false } → twoCycles r1 = false →
    Msg.cistern b i (some (entryBits (mread (524288 * b.toNat + 16 * e.toNat) 16 s.cst.mem))) ∈ (s.portCycle b [r0, r1]).out)

/-- March tests (R359 to R361): a command is checked for conflict, turn, range and kind in this order, and a refused one
gives its status; a destructive run takes FREE or RETIRED banks as TEST, a preserving one banks that are ON, each asking the
arbiter; the end, granted, clears tested banks and restores their kind, or retires those that failed; an abort restores the
kinds with MPASS unchanged; a command that names a TEST bank is refused. -/
def Obligations.MarchTestsRunAndRestore : Prop :=
  (∀ (f : BankId) (n : BitVec 9) (bg : BitVec 4) (c : Status) (s : State),
    s.marchCheck f.toNat n.toNat (fun b => !((s.bank b).kind = .free || (s.bank b).kind = .retired)) = c →
    (c = .ok → Yields (.marchDestructive f n bg) s (fun t =>
      (∀ b, b ∈ marchRange f.toNat n.toNat → t.bank b = { s.bank b with kind := .test, before := (s.bank b).kind }) ∧
      (∀ b, b ∉ marchRange f.toNat n.toNat → t.bank b = s.bank b) ∧
      t.march (bankHalf f.toNat) = some { destructive := true, first := f.toNat, count := max 1 n.toNat, bg := if bg = 0#4 then 0xF#4 else bg } ∧
      bit 31 (t.mstat (bankHalf f.toNat)) = true ∧ t.cst.mem = s.cst.mem ∧ t = { s with cst := t.cst, reg := t.reg, ras := t.ras })) ∧
    (c ≠ .ok → exec (.marchDestructive f n bg) s = .next (s.mstStatus (bankHalf f.toNat) c))) ∧
  (∀ (f : BankId) (n : BitVec 9) (c : Status) (s : State),
    s.marchCheck f.toNat n.toNat (fun b => (s.bank b).ps ≠ .on || (s.bank b).kind = .test) = c →
    (c = .ok → Yields (.marchPreserving f n) s (fun t => t.cst.banks = s.cst.banks ∧ t.cst.mem = s.cst.mem ∧
      t.march (bankHalf f.toNat) = some { destructive := false, first := f.toNat, count := max 1 n.toNat, bg := 0#4 } ∧
      bit 31 (t.mstat (bankHalf f.toNat)) = true ∧ t = { s with cst := t.cst, reg := t.reg, ras := t.ras })) ∧
    (c ≠ .ok → exec (.marchPreserving f n) s = .next (s.mstStatus (bankHalf f.toNat) c))) ∧
  (∀ (f n : Nat) (d : Nat → Bool) (s : State),
    (s.conflict = true → s.marchCheck f n d = .stewardConflict) ∧
    (s.conflict = false → bit 31 (s.mstat (bankHalf f)) = true → s.marchCheck f n d = .slotBusy) ∧
    (s.conflict = false → bit 31 (s.mstat (bankHalf f)) = false → (f < 256 ∧ 256 < f + n) ∨ 512 < f + n →
      s.marchCheck f n d = .badDescriptor) ∧
    (s.conflict = false → bit 31 (s.mstat (bankHalf f)) = false → (f + max 1 n ≤ 256 ∨ (256 ≤ f ∧ f + max 1 n ≤ 512)) →
      s.marchCheck f n d = (if (marchRange f n).any d then .permission else .ok))) ∧
  (∀ (b : Nat) (x y : Bool) (s : State), s.conflict = false → (s.bank b).kind = .test → s.bcCheck b x y = .slotBusy) ∧
  (∀ (h : Half) (s : State), (s.conflict = true → exec (.marchAbort h) s = .next (s.mstStatus h .stewardConflict)) ∧
    (s.conflict = false → s.march h = none → exec (.marchAbort h) s = .next (s.mstStatus h .ok))) ∧
  (∀ (h : Half) (m : March) (s : State), s.conflict = false → s.march h = some m → s.cst.allotWait = [] →
    Yields (.marchAbort h) s (fun t => t.march h = none ∧ bit 31 (t.mstat h) = false ∧
      (m.destructive = true → ∀ b, b ∈ marchRange m.first m.count →
        t.bank b = { s.bank b with kind := (s.bank b).before, ps := .on, before := .free } ∧
        ∀ a, a < 524288 → mget (524288 * b + a) t.cst.mem = 0#8) ∧
      (m.destructive = false → t.cst.banks = s.cst.banks ∧ t.cst.mem = s.cst.mem))) ∧
  (∀ (h : Half) (m : March) (l : List Nat) (a b : W32) (s : State), s.march h = some m → s.holdsGrant 5 (halfIdx h) = true →
    s.cst.allotWait = [] → Yields (.marchDone h l a b) s (fun t => t.march h = none ∧
      (m.destructive = true → ∀ x, x ∈ marchRange m.first m.count →
        t.bank x = { s.bank x with kind := if l.contains x then .retired else (s.bank x).before, ps := .on, before := .free, mpass := !l.contains x } ∧
        ∀ i, i < 524288 → mget (524288 * x + i) t.cst.mem = 0#8) ∧
      (m.destructive = false → t.cst.banks = s.cst.banks ∧ t.cst.mem = s.cst.mem) ∧
      t.mstat h = (at32 30 (b2n (decide ((marchRange m.first m.count).filter (fun x => l.contains x) = []))) |||
        at32 12 ((marchRange m.first m.count).filter (fun x => l.contains x)).length) ∧
      ((marchRange m.first m.count).any (fun x => l.contains x) = true → t.stw (Reg.CST_MFAIL0 + 4 * halfIdx h) = a ∧
        t.stw (Reg.CST_MFAIL1 + 4 * halfIdx h) = b &&& 0xFE000000#32))) ∧
  (∀ (h : Half) (l : List Nat) (a b : W32) (s : State), s.march h = none ∨ s.holdsGrant 5 (halfIdx h) = false →
    exec (.marchDone h l a b) s = .next s)

/-- Scrubbing, the retirement list and the maintenance arbiter (R365 to R368, R377 to R381, R384, Tables RAS-2, RAS-9 to
RAS-11): a scrub, granted and with nothing waiting there, keeps what it finds, corrects one symbol, and poisons the line it
cannot correct and no other; a lap's end stores its time and errors; a command of the list that a check refuses answers its
status; a slot or unit that holds nothing leaves the allocator at once, one that holds a plot when its relocation is done;
an entry goes to the list's lowest empty index and BUSY lasts to the flash write's end; an activity is granted only where no
granted one conflicts, parks where it loses, and resumes once nothing that beats it conflicts, a scrub or a march run not in
standby. -/
def Obligations.ScrubsRetireAndShareMaintenance : Prop :=
  (∀ (lap k : Nat) (d : DLoc) (md : Media) (s u : State), u = s.mediaFind d md →
    s.scrubLine lap d .discard md = u ∧
    (∀ w, nmem d.key (s.chan d.chan).wq = true → s.scrubLine lap d w md = u) ∧
    (∀ w, u.lineBad d = [] → s.scrubLine lap d w md = u) ∧
    (∀ x, nmem d.key (s.chan d.chan).wq = false → u.lineBad d = [x] → nmem k s.tier.poison = false →
      s.scrubLine lap d (.bulk k) md = ((u.correctedRead d (locDram d.k d.bank d.line d.row)).lapCount lap false).queueWrite d) ∧
    (∀ x, nmem d.key (s.chan d.chan).wq = false → u.lineBad d = [x] → nmem k s.tier.npoison = false →
      s.scrubLine lap d (.near k) md = ((u.correctedRead d (locDram d.k d.bank d.line d.row)).lapCount lap false).queueWrite d) ∧
    (∀ x, nmem d.key (s.chan d.chan).wq = false → u.lineBad d = [x] →
      s.scrubLine lap d .module md = ((u.correctedRead d (locDram d.k d.bank d.line d.row)).lapCount lap false).queueWrite d) ∧
    (∀ x y l, nmem d.key (s.chan d.chan).wq = false → u.lineBad d = x :: y :: l → (s.scrubLine lap d .module md).tier = s.tier ∧
      (s.scrubLine lap d (.bulk k) md).tier.poison = nins k s.tier.poison ∧ (s.scrubLine lap d (.bulk k) md).tier.npoison = s.tier.npoison ∧
      (s.scrubLine lap d (.near k) md).tier.npoison = nins k s.tier.npoison ∧ (s.scrubLine lap d (.near k) md).tier.poison = s.tier.poison ∧
      tget 0 lap (s.scrubLine lap d (.bulk k) md).ras.lapUe = tget 0 lap s.ras.lapUe + 1)) ∧
  (∀ (n : Nat) (loc : W64) (md : Media) (s t : State), n < 128 → (s.chan (136 + n)).st = .inService → (s.chan (136 + n)).lost = false →
    s.dmc.reads.any (fun r => r.chan = 136 + n && !r.timedOut) = false →
    (s.scrubGrant 0 (136 + n) = (false, t) → exec (.scrubRead 0#2 n loc md) s = .next t) ∧
    (s.scrubGrant 0 (136 + n) = (true, t) → ∃ d : DLoc, d.chan = 136 + n ∧ d.row = bits 20 0 loc ∧ d.line = bits 25 21 loc % 16 ∧
      d.bank = bits 31 26 loc ∧ exec (.scrubRead 0#2 n loc md) s = .next (t.scrubLine (n / 64) d (t.scrubNear n d) md))) ∧
  (∀ (u : Nat) (loc : W64) (md : Media) (s t : State), u < 136 → (s.chan u).st = .inService → (s.chan u).lost = false →
    s.dmc.reads.any (fun r => r.chan = u && !r.timedOut) = false →
    (s.scrubGrant 1 u = (false, t) → exec (.scrubRead 1#2 u loc md) s = .next t) ∧
    (s.scrubGrant 1 u = (true, t) → ∃ d : DLoc, d.chan = u ∧ d.row = bits 20 0 loc ∧ d.line = bits 25 21 loc ∧
      exec (.scrubRead 1#2 u loc md) s = .next (t.scrubLine (2 + halfIdx (scopeHalf [u])) d (t.scrubBulk d) md))) ∧
  (∀ (u : Nat) (loc : W64) (md : Media) (s t : State), u < 512 → (s.bank u).ps = .on → (s.bank u).kind ≠ .test → (s.bank u).kind ≠ .retired →
    (tget {} u s.cst.ports).wait.any CWait.port1 = false →
    (s.scrubGrant 2 (scBank u) = (false, t) → exec (.scrubRead 2#2 u loc md) s = .next t) ∧
    (s.scrubGrant 2 (scBank u) = (true, t) → exec (.scrubRead 2#2 u loc md) s =
      .next (t.scrubEntry (4 + u / 256) u (bits 14 0 loc) (bits 16 15 loc) md))) ∧
  (∀ (tier unit : Nat) (s : State), bit 31 (s.stw (Reg.RAS_SCFG + 4 * tier)) = false ∨ s.pwm.standby = true →
    s.scrubGrant tier unit = (false, s)) ∧
  (∀ (u : Nat) (loc : W64) (md : Media) (s : State), (128 ≤ u → exec (.scrubRead 0#2 u loc md) s = .fault (.noSuchUnit "Near channel" u)) ∧
    (136 ≤ u → exec (.scrubRead 1#2 u loc md) s = .fault (.noSuchUnit "Bulk channel" u)) ∧
    (512 ≤ u → exec (.scrubRead 2#2 u loc md) s = .fault (.noSuchUnit "Cistern bank" u)) ∧
    exec (.scrubRead 3#2 u loc md) s = .next s) ∧
  (∀ (u ch : Nat) (loc : W64) (md : Media) (s : State),
    (s.chan ch).st ≠ .inService ∨ (s.chan ch).lost = true ∨ s.dmc.reads.any (fun r => r.chan = ch && !r.timedOut) = true →
    (u < 128 → ch = 136 + u → exec (.scrubRead 0#2 u loc md) s = .next s) ∧
    (u < 136 → ch = u → exec (.scrubRead 1#2 u loc md) s = .next s)) ∧
  (∀ (u : Nat) (loc : W64) (md : Media) (s : State), u < 512 → (s.bank u).ps ≠ .on ∨ (s.bank u).kind = .test ∨ (s.bank u).kind = .retired ∨
    (tget {} u s.cst.ports).wait.any CWait.port1 = true → exec (.scrubRead 2#2 u loc md) s = .next s) ∧
  (∀ (h : Half) (ms : W32) (tier : BitVec 2) (k : Nat) (s : State), k = 2 * tier.toNat + halfIdx h → s.scrubOn tier.toNat = true →
    Yields (.lapEnd tier h ms) s (fun t => t.stw (Reg.RAS_LAPT + 4 * k) = ms ∧
      t.stw (Reg.RAS_LAPC + 4 * k) = satField 31 16 1 (s.stw (Reg.RAS_LAPC + 4 * k)) ∧
      bits 15 0 (t.stw (Reg.RAS_LAPE + 4 * k)) = min 0xFFFF (tget 0 k s.ras.lapUe) ∧
      bits 31 16 (t.stw (Reg.RAS_LAPE + 4 * k)) = min 0xFFFF (tget 0 k s.ras.lapCe) ∧
      tget 0 k t.ras.lapUe = 0 ∧ tget 0 k t.ras.lapCe = 0 ∧ t.tier = s.tier)) ∧
  (∀ (h : Half) (ms : W32) (tier : BitVec 2) (s : State), s.scrubOn tier.toNat = true →
    s.stwF (Reg.RAS_SCFG + 4 * tier.toNat) 15 0 ≠ 0 → exec (.lapOverdue tier h ms) s =
      .next (s.logRec { typ := 0x03, sev := 1, unit := unitNo 10 (2 * tier.toNat + halfIdx h), aux0 := ms.toNat,
                        aux1 := tget 0 (2 * tier.toNat + halfIdx h) s.ras.lapUe })) ∧
  (∀ (tier : BitVec 2) (h : Half) (ms : W32) (s : State), (s.scrubOn tier.toNat = false → exec (.lapEnd tier h ms) s = .next s) ∧
    (s.scrubOn tier.toNat = false ∨ s.stwF (Reg.RAS_SCFG + 4 * tier.toNat) 15 0 = 0 → exec (.lapOverdue tier h ms) s = .next s)) ∧
  (∀ (s : State) (c : Status), c ≠ .ok →
    (s.retCheck (s.rarg ≥ 2 * nearSlotsPerHalf) (s.retListed (retEntry 5 0 s.rarg)) s.retFull = c →
      exec .retireNearSlot s = .next (s.retEnds s.rarg 5 c)) ∧
    (∀ h, s.retCheck (s.rarg ≥ bulkUnitsAll) (s.rarg ≥ bulkUnitsPerHalf || s.retListed (retEntry 6 (halfIdx h) s.rarg)) s.retFull = c →
      exec (.retireBulkUnit h) s = .next (s.retEnds s.rarg 6 c)) ∧
    (∀ (k : BitVec 4) h, s.retCheck (s.rarg ≥ kindCount k.toNat) (!s.unitRetired k.toNat h s.rarg || s.retListed (retEntry k.toNat (halfIdx h) s.rarg))
      s.retFull = c → exec (.addRetirementEntry k h) s = .next (s.retEnds s.rarg k.toNat c)) ∧
    (s.retCheck (s.rarg ≥ 1024) false false = c → exec .emptyRetirementEntry s = .next (s.retEnds s.rarg 0 c))) ∧
  (∀ (bad denied full : Bool) (s : State), s.retCheck bad denied full = (if s.conflict then .stewardConflict else if s.rcmdBusy then .slotBusy
    else if bad then .badDescriptor else if denied then .permission else if full then .quota else .ok)) ∧
  (∀ (p : Nat) (e : Plot) (s : State),
    (s.retCheck (s.rarg ≥ 2 * nearSlotsPerHalf) (s.retListed (retEntry 5 0 s.rarg)) s.retFull = .ok →
      s.tier.plots.find? (fun x => x.2.hasSlot && x.2.slot = s.rarg) = some (p, e) → Yields .retireNearSlot s (fun t =>
        t.stw Reg.RAS_RSTAT &&& 0xFFFFFF00#32 = 0x80000000#32 ∧
        ∃ r, t.tier.reloc = some r ∧ r.bulk = false ∧ r.number = s.rarg ∧ r.plot = p ∧ t.flash = s.flash)) ∧
    (∀ h, s.retCheck (s.rarg ≥ bulkUnitsAll) (s.rarg ≥ bulkUnitsPerHalf || s.retListed (retEntry 6 (halfIdx h) s.rarg)) s.retFull = .ok →
      s.tier.plots.find? (fun x => x.2.hasBulk && homeHalf x.1 = h && x.2.loc ≤ s.rarg && s.rarg < x.2.loc + x.2.units) = some (p, e) →
      Yields (.retireBulkUnit h) s (fun t => t.stw Reg.RAS_RSTAT &&& 0xFFFFFF00#32 = 0x80000000#32 ∧
        ∃ r, t.tier.reloc = some r ∧ r.bulk = true ∧ r.half = h ∧ r.number = s.rarg ∧ r.plot = p ∧ t.flash = s.flash))) ∧
  (∀ s : State, s.conflict = false → s.rcmdBusy = false → s.rarg < 2 * nearSlotsPerHalf → s.retListed (retEntry 5 0 s.rarg) = false →
    s.retFull = false → s.tier.plots.all (fun e => !(e.2.hasSlot && e.2.slot = s.rarg)) = true →
    Yields .retireNearSlot s (fun t => nmem s.rarg t.tier.badSlots = true ∧ t.flash.list =
        tput (lowestNot (s.flash.list.map Prod.fst)) (retEntry 5 0 s.rarg) s.flash.list ∧ t.stw Reg.RAS_RSTAT = 0x80000000#32 ∧
      t = { s with tier := t.tier, flash := t.flash, reg := t.reg, ras := t.ras })) ∧
  (∀ (h : Half) (s : State), s.conflict = false → s.rcmdBusy = false → s.rarg < bulkUnitsPerHalf →
    s.retListed (retEntry 6 (halfIdx h) s.rarg) = false → s.retFull = false →
    s.tier.plots.all (fun e => !(e.2.hasBulk && homeHalf e.1 = h && e.2.loc ≤ s.rarg && s.rarg < e.2.loc + e.2.units)) = true →
    Yields (.retireBulkUnit h) s (fun t => nmem (badUnit h s.rarg) t.tier.badUnits = true ∧ t.flash.list =
        tput (lowestNot (s.flash.list.map Prod.fst)) (retEntry 6 (halfIdx h) s.rarg) s.flash.list ∧
      t.stw Reg.RAS_RSTAT = 0x80000000#32)) ∧
  (∀ (k : BitVec 4) (h : Half) (s : State), s.conflict = false → s.rcmdBusy = false → s.rarg < kindCount k.toNat →
    s.unitRetired k.toNat h s.rarg = true → s.retListed (retEntry k.toNat (halfIdx h) s.rarg) = false → s.retFull = false →
    exec (.addRetirementEntry k h) s = .next (s.addEntry k.toNat (halfIdx h) s.rarg) ∧
    (s.addEntry k.toNat (halfIdx h) s.rarg).flash.list =
      tput (lowestNot (s.flash.list.map Prod.fst)) (retEntry k.toNat (halfIdx h) s.rarg) s.flash.list ∧
    (s.addEntry k.toNat (halfIdx h) s.rarg).stw Reg.RAS_RSTAT = 0x80000000#32) ∧
  (∀ s : State, s.conflict = false → s.rcmdBusy = false → s.rarg < 1024 → Yields .emptyRetirementEntry s (fun t =>
    t.flash.list = tdel s.rarg s.flash.list ∧ t.flash.img = s.flash.img ∧ t.stw Reg.RAS_RSTAT = 0x80000000#32)) ∧
  (∀ s : State, s.tier.reloc = none → exec .relocationDone s = .next s ∧ exec .relocationWaitExpire s = .next s) ∧
  (∀ (r : Reloc) (leave : State → State) (s : State), s.tier.reloc = some r →
    leave = (fun s => (if r.bulk then s.leaveUnit r.half r.number else s.leaveSlot r.number).addEntry (relocKind r) (halfIdx r.half) r.number) →
    (s.holdsGrant 8 (2 * b2n r.bulk + halfIdx r.half) = false → exec .relocationDone s = .next s) ∧
    (s.holdsGrant 8 (2 * b2n r.bulk + halfIdx r.half) = true → s.plot r.plot = none →
      exec .relocationDone s = .next ((leave (s.relocEnds r)).afterReloc r.plot)) ∧
    (∀ e, s.holdsGrant 8 (2 * b2n r.bulk + halfIdx r.half) = true → s.plot r.plot = some e →
      (e.st = .promoting ∨ e.st = .demoting → exec .relocationDone s = .next s) ∧
      (e.st ≠ .promoting → e.st ≠ .demoting → r.holds r.plot e = false →
        exec .relocationDone s = .next ((leave (s.relocEnds r)).afterReloc r.plot)) ∧
      (e.st ≠ .promoting → e.st ≠ .demoting → r.holds r.plot e = true → r.dest = none → s.relocDest r e = none →
        exec .relocationDone s = .next s) ∧
      (∀ d, e.st ≠ .promoting → e.st ≠ .demoting → r.holds r.plot e = true → r.dest.orElse (fun _ => s.relocDest r e) = some d →
        (r.bulk = true → exec .relocationDone s = .next ((leave (((s.tickFree.relocEnds r).relocCopy r { e with st := .bulk }
          { e with st := .bulk, loc := d }).setPlot r.plot { e with loc := d })).afterReloc r.plot)) ∧
        (r.bulk = false → exec .relocationDone s = .next ((leave (((s.tickFree.relocEnds r).relocCopy r e
          { e with slot := d }).setPlot r.plot { e with slot := d })).afterReloc r.plot))))) ∧
  (∀ (r : Reloc) (s : State), s.tier.reloc = some r →
    (∀ e, s.plot r.plot = some e → r.dest = none → s.relocDest r e = none →
      exec .relocationWaitExpire s = .next ((((s.relocEnds r).setStw Reg.RAS_RSTAT 0#32).retEnds r.number (relocKind r) .quota).afterReloc
        r.plot)) ∧
    (r.dest.isSome = true ∨ s.plot r.plot = none ∨ (∃ e, s.plot r.plot = some e ∧ (s.relocDest r e).isSome = true) →
      exec .relocationWaitExpire s = .next s)) ∧
  (∀ s : State, s.ras.flashWr = none → exec .flashWriteDone s = .next s) ∧
  (∀ (n k : Nat) (s : State), s.ras.flashWr = some (n, k) → Yields .flashWriteDone s (fun t => t.ras.flashWr = none ∧
    t.stw Reg.RAS_RSTAT = 0#32 ∧ t.flash = s.flash)) ∧
  (∀ (c : BitVec 4) (l : List Nat) (u : Nat) (s : State), c.toNat = 0 ∨ 8 < c.toNat → exec (.maintGrantRequest c l u) s = .next s) ∧
  (∀ (c : BitVec 4) (l : List Nat) (u : Nat) (s : State), 1 ≤ c.toNat → c.toNat ≤ 8 →
    exec (.maintGrantRequest c l u) s = .next (s.maintAsk c.toNat l u) ∧
    (s.ras.acts.all (fun g => !(g.granted && actX g.code c.toNat && g.scope.any (fun x => l.contains x))) = true →
      ∃ a, (s.maintAsk c.toNat l u).ras.acts = s.ras.acts ++ [a] ∧ a.granted = true ∧ a.code = c.toNat ∧ a.unit = u) ∧
    (∀ g, g ∈ s.ras.acts → g.granted = true → g.id ≠ s.ras.nextAct → actX g.code c.toNat = true → (∃ x, x ∈ l ∧ nmem x g.scope = true) →
      actRank c.toNat < actRank g.code → ∃ a, (s.maintAsk c.toNat l u).ras.acts = s.ras.acts ++ [a] ∧ a.granted = false)) ∧
  (∀ a b : Nat, actX a b = actX b a) ∧
  (∀ (a : Activity) (s : State), s.ras.acts.find? (fun x => x.id = a.id) = some a →
    (a.granted = true → a.parking = true → exec (.maintPark a.id) s = .next ((((s.modAct a.id (fun a =>
      { a with granted := false, parking := false })).countPark a.scope).setDefer a.code a.unit Status.deferred.code).grantWon)) ∧
    (a.granted = false ∨ a.parking = false → exec (.maintPark a.id) s = .next s) ∧
    (a.granted = false → a.won = false → (s.pwm.standby && (a.code = 1 || a.code = 5)) = false →
      s.ras.acts.any (fun g => (g.granted || a.loses g) && g.clash a) = false →
      exec (.maintResume a.id) s = .next ((s.modAct a.id (fun a => { a with granted := true, longLogged := false })).setDefer a.code a.unit 0)) ∧
    (a.granted = true ∨ a.won = true ∨ (s.pwm.standby && (a.code = 1 || a.code = 5)) = true ∨ s.ras.acts.any (fun g => (g.granted || a.loses g) && g.clash a) = true →
      exec (.maintResume a.id) s = .next s)) ∧
  (∀ (i : Nat) (s : State), s.ras.acts.find? (fun x => x.id = i) = none → exec (.maintPark i) s = .next s ∧ exec (.maintResume i) s = .next s)

/-- SPDM at an endpoint (R392 to R398, R404, R405, Table SEC-5). Of every SPDM and IDE_KM request: at an endpoint that
cannot be reached it changes nothing; the FM mailbox carries none and answers unsupported; one that is not served is
answered Busy, as in a conflict, after a debug unlock and away from the steward; one that needs an established session of
its endpoint and has none is answered with an error. Served: GET_VERSION to GET_MEASUREMENTS give their answers, a slot that
is not 0 and an index without a measurement an error; KEY_EXCHANGE opens one of at most four sessions of its endpoint;
FINISH establishes it, once; END_SESSION closes it, KEY_UPDATE counts, HEARTBEAT changes nothing; KEY_PROG adds a key set,
K_SET_GO makes a programmed one active and the stream Secure, K_SET_STOP takes one out. A failed integrity check makes the
stream of a head Insecure and the head drains. BIND_WRITE is made once, in a session, over VDM or I3C, and is else ignored.
DEBUG_UNLOCK with a valid token blows a fuse, empties every key slot, makes every active stream Insecure and ends the
sessions; a refused one draws a new nonce only. -/
def Obligations.SpdmRequestsAreServedInSessions : Prop :=
  (∀ (e : Endpoint) (p : PortId) (j : BitVec 4) (x : Byte) (y k r : Bool) (w a b : W256) (n : Nat) (v : BitVec 8) (l : List Byte)
      (d : Endpoint) (c : Instr) (s : State),
    (d, c) ∈ [(e, .getVersion e), (e, .getCapabilities e), (e, .negotiateAlgorithms e), (e, .getDigests e), (e, .getCertificate e j),
      (e, .challenge e w), (e, .getMeasurements e x y), (e, .keyExchange e), (e, .finish e n), (e, .endSession e n), (e, .heartbeat e n),
      (e, .keyUpdate e n), (e, .debugUnlock e n l), (e, .spdmLoad e n v r a b), (e, .spdmKeygen e n v r), (e, .spdmZeroise e n v r),
      (e, .spdmZeroiseAll e n r), (s.ideEp p, .keyProg p n k), (s.ideEp p, .kSetGo p n k), (s.ideEp p, .kSetStop p n k)] →
    (s.reachable d = false → exec c s = .next s) ∧
    (∀ q, d = .mailbox q → s.reachable d = true → exec c s = .next (s.emit (.mgmtUnsupported d))) ∧
    (s.reachable d = true → (∀ q, d ≠ .mailbox q) → s.spdmServed d = false → exec c s = .next (s.emit (.spdmBusy d)))) ∧
  (∀ (e : Endpoint) (s : State), s.conflict = true ∨ s.sec.unlocked = true ∨ s.reachesSteward e = false → s.spdmServed e = false) ∧
  (∀ (e : Endpoint) (p : PortId) (k r : Bool) (a b : W256) (n : Nat) (v : BitVec 8) (l : List Byte) (d : Endpoint) (c : Instr) (s : State),
    (d, c) ∈ [(e, .endSession e n), (e, .heartbeat e n), (e, .keyUpdate e n), (e, .debugUnlock e n l), (e, .spdmLoad e n v r a b),
      (e, .spdmKeygen e n v r), (e, .spdmZeroise e n v r), (e, .spdmZeroiseAll e n r), (s.ideEp p, .keyProg p n k),
      (s.ideEp p, .kSetGo p n k), (s.ideEp p, .kSetStop p n k)] →
    s.reachable d = true → (∀ q, d ≠ .mailbox q) → s.spdmServed d = true → s.inSession d n = false → exec c s = .next (s.spdmErr d)) ∧
  (∀ (e : Endpoint) (w : W256) (s : State), s.reachable e = true → (∀ p, e ≠ .mailbox p) → s.spdmServed e = true →
    exec (.getVersion e) s = .next (s.spdmOk e [0x13#8, 0x12#8]) ∧ exec (.getCapabilities e) s = .next (s.spdmOk e []) ∧
    exec (.negotiateAlgorithms e) s = .next (s.spdmOk e []) ∧
    exec (.getDigests e) s = .next (s.spdmOk e (leBytes 64 (Config.sha512 (Config.certChain s.sec.identity)).toNat)) ∧
    exec (.getCertificate e 0#4) s = .next (s.spdmOk e (Config.certChain s.sec.identity)) ∧
    (∀ i, i ≠ 0#4 → exec (.getCertificate e i) s = .next (s.spdmErr e)) ∧
    exec (.challenge e w) s = .next (s.spdmOk e (Config.aliasSign s.sec.identity (leBytes 32 w.toNat))) ∧
    exec (.getMeasurements e 0#8 false) s = .next (s.spdmOk e [7#8]) ∧
    exec (.getMeasurements e 0#8 true) s = .next (s.spdmOk e (7#8 :: Config.aliasSign s.sec.identity [7#8])) ∧
    (∀ (i : Byte) (m : List Byte), (i ≠ 0#8 ∧ i ≠ 0xFF#8 ∧ s.sec.measurement i.toNat = some m) ∨
        (i = 0xFF#8 ∧
          m = ([1, 2, 3, 4, 5, 6, 7].map (fun j => (s.sec.measurement j).getD [])).flatten) →
      exec (.getMeasurements e i false) s = .next (s.spdmOk e m) ∧
      exec (.getMeasurements e i true) s = .next (s.spdmOk e (m ++ Config.aliasSign s.sec.identity m))) ∧
    (∀ (i : Byte) (y : Bool), 7 < i.toNat → i ≠ 0xFF#8 → exec (.getMeasurements e i y) s = .next (s.spdmErr e))) ∧
  (∀ (e : Endpoint) (s : State), s.reachable e = true → (∀ p, e ≠ .mailbox p) → s.spdmServed e = true →
    ((s.sec.sessions.filter (fun x => x.ep = e)).length < 4 → exec (.keyExchange e) s = .next (State.spdmOk e (leBytes 4 s.sec.nextSession)
      { s with sec := { s.sec with
        nextSession := s.sec.nextSession + 1,
        sessions := s.sec.sessions ++ [{ id := s.sec.nextSession, ep := e, established := false }] } })) ∧
    (4 ≤ (s.sec.sessions.filter (fun x => x.ep = e)).length → exec (.keyExchange e) s = .next (s.spdmErr e))) ∧
  (∀ (e : Endpoint) (n : Nat) (s : State), s.reachable e = true → (∀ p, e ≠ .mailbox p) → s.spdmServed e = true →
    (∀ x, s.sessionOf e n = some x → x.established = false → exec (.finish e n) s = .next (State.spdmOk e []
      { s with sec := { s.sec with sessions := mapIf (fun y => decide (y.id = n)) (fun y => { y with established := true }) s.sec.sessions } })) ∧
    (s.sessionOf e n = none ∨ s.inSession e n = true → exec (.finish e n) s = .next (s.spdmErr e)) ∧
    (s.inSession e n = true → exec (.heartbeat e n) s = .next (s.spdmOk e []) ∧
      exec (.endSession e n) s = .next (State.spdmOk e [] { s with sec := { s.sec with sessions := s.sec.sessions.filter (fun y => y.id ≠ n) } }) ∧
      exec (.keyUpdate e n) s = .next (State.spdmOk e [] { s with sec := { s.sec with
        sessions := mapIf (fun y => decide (y.id = n)) (fun y => { y with updates := y.updates + 1 }) s.sec.sessions } }))) ∧
  (∀ (p : PortId) (n : Nat) (k : Bool) (s : State), s.reachable (s.ideEp p) = true → s.spdmServed (s.ideEp p) = true →
    s.inSession (s.ideEp p) n = true →
    Yields (.keyProg p n k) s (fun t => t.port (s.headPort p.toNat) =
      { s.port (s.headPort p.toNat) with ideKeys := nins k.toNat (s.port (s.headPort p.toNat)).ideKeys } ∧
      (∀ q, q ≠ s.headPort p.toNat → t.port q = s.port q) ∧ t = { s.spdmOk (s.ideEp p) [] with ports := t.ports }) ∧
    (nmem k.toNat (s.port (s.headPort p.toNat)).ideKeys = true → Yields (.kSetGo p n k) s (fun t => t.port (s.headPort p.toNat) =
        { s.port (s.headPort p.toNat) with ideActive := some k.toNat, ideSecure := true, ideInsecure := false } ∧
      (∀ q, q ≠ s.headPort p.toNat → t.port q = s.port q) ∧ t = { s.spdmOk (s.ideEp p) [] with ports := t.ports })) ∧
    (nmem k.toNat (s.port (s.headPort p.toNat)).ideKeys = false → exec (.kSetGo p n k) s = .next (s.spdmErr (s.ideEp p))) ∧
    Yields (.kSetStop p n k) s (fun t => (t.port (s.headPort p.toNat)).ideKeys = ndel k.toNat (s.port (s.headPort p.toNat)).ideKeys ∧
      ((s.port (s.headPort p.toNat)).ideActive = some k.toNat →
        (t.port (s.headPort p.toNat)).ideSecure = false ∧ (t.port (s.headPort p.toNat)).ideActive = none) ∧
      ((s.port (s.headPort p.toNat)).ideActive ≠ some k.toNat → t.port (s.headPort p.toNat) =
        { s.port (s.headPort p.toNat) with ideKeys := (t.port (s.headPort p.toNat)).ideKeys }) ∧
      (∀ q, q ≠ s.headPort p.toNat → t.port q = s.port q) ∧ t = { s.spdmOk (s.ideEp p) [] with ports := t.ports })) ∧
  (∀ (p : PortId) (s : State), ((s.port (s.headPort p.toNat)).ideActive = none → exec (.ideIntegrityFail p) s = .next s) ∧
    ((s.port (s.headPort p.toNat)).ideActive.isSome = true → exec (.ideIntegrityFail p) s = .next ((s.modPort (s.headPort p.toNat)
      (fun x => { x with ideInsecure := true, ideSecure := false })).enterDrain (s.headPort p.toNat)))) ∧
  (∀ (e : Endpoint) (o : Option Nat) (i : Byte) (s : State),
    (∀ n, o = some n → s.reachable e = true → s.spdmServed e = true → s.inSession e n = true → (∃ p, e = .vdm p) ∨ e = .i3c →
      s.sec.bound = none → exec (.bindWrite e o i) s = .next { s with sec := { s.sec with bound := some e, boundEid := i } }) ∧
    (o = none ∨ s.reachable e = false ∨ s.spdmServed e = false ∨ (∃ n, o = some n ∧ s.inSession e n = false) ∨ (∃ t, e = .doe t) ∨
      (∃ p, e = .mailbox p) ∨ s.sec.bound.isSome = true → exec (.bindWrite e o i) s = .next s)) ∧
  (∀ (e : Endpoint) (n : Nat) (k : List Byte) (s : State), s.reachable e = true → (∀ p, e ≠ .mailbox p) → s.spdmServed e = true →
    s.inSession e n = true →
    (Config.tokenOk k Config.serial (Config.drbg s.sec.nonceNo) = true → s.fuse.dbgKill = false → s.fuse.uCount < 255 →
      Yields (.debugUnlock e n k) s (fun t => t.sec.unlocked = true ∧ t.sec.sessions = [] ∧ t.fuse = { s.fuse with uCount := s.fuse.uCount + 1 } ∧
        (∀ i, (t.key i).st = .empty) ∧ (∀ q, q < 16 → (s.port q).ideActive.isSome = true → (t.port q).ideSecure = false ∧
          (t.port q).ideInsecure = true ∧ ((s.port q).st = .up → (t.port q).st = .drain)))) ∧
    (Config.tokenOk k Config.serial (Config.drbg s.sec.nonceNo) = false ∨ s.fuse.dbgKill = true ∨ 255 ≤ s.fuse.uCount →
      exec (.debugUnlock e n k) s = .next (({ s with sec := { s.sec with nonceNo := s.sec.drbgNo, drbgNo := s.sec.drbgNo + 1 } }
        : State).emit (.spdm e false [BitVec.ofNat 8 Status.permission.code]))))

/-- Fuses and memory keys (R391, R401 to R403, Tables SEC-8, SEC-9, SEC-13). A fuse command in a conflict, or while a fuse
write runs, is refused; else RAISE_MINSVN never lowers MINSVN, and REVOKE_KEY revokes any key but the running image's;
FUSE_WRITE_DONE ends BUSY. The status of a key command is the first that applies, in R403's order (that an operation before
the Keys function is ready ends NOT_READY is Table BUP-3's). A command that is OK loads, generates or zeroises its slot and
no other: a LOADED slot that is zeroised is ZEROISING, an EMPTY one stays so; any other status leaves every slot. The vendor
request answers its status and the slot's GEN (of ZEROISE_ALL, which names no slot, the GEN is free); SEC_KCMD shows the
status. A ZEROISING slot with no use left is EMPTY, and its key overwritten unless the other half still keeps it behind a
down bridge; any other slot is left. -/
def Obligations.KeysAndFusesFollowTheirChecks : Prop :=
  (∀ (k : BitVec 2) (c : Instr) (s : State), c ∈ [.raiseMinsvn, .revokeKey k] →
    (s.conflict = true → exec c s = .next (s.cstat .stewardConflict)) ∧
    (s.conflict = false → s.sec.fuseBusy = true → exec c s = .next (s.cstat .slotBusy))) ∧
  (∀ s : State, s.conflict = false → s.sec.fuseBusy = false →
    Yields .raiseMinsvn s (fun t => t.fuse.minSvn.toNat = max s.fuse.minSvn.toNat s.running.runSvn.toNat ∧
      t.fuse = { s.fuse with minSvn := t.fuse.minSvn } ∧
      t = State.cstat .ok { s with fuse := t.fuse, sec := { s.sec with fuseBusy := true } })) ∧
  (∀ (k : BitVec 2) (s : State), s.conflict = false → s.sec.fuseBusy = false →
    (s.running.keyIdx ≠ k → exec (.revokeKey k) s = .next (State.cstat .ok
      { s with fuse := { s.fuse with kRevoke := setBit k.toNat true s.fuse.kRevoke }, sec := { s.sec with fuseBusy := true } })) ∧
    (s.running.keyIdx = k → exec (.revokeKey k) s = .next (s.cstat .permission))) ∧
  (∀ s : State, (s.sec.fuseBusy = false → exec .fuseWriteDone s = .next s) ∧
    (s.sec.fuseBusy = true → Yields .fuseWriteDone s (fun t => t.sec = { s.sec with fuseBusy := false } ∧
      bit 31 (t.stw Reg.SEC_CSTAT) = decide (s.sec.kcmdWait ≠ []) ∧ t = { s with sec := t.sec, reg := t.reg }))) ∧
  (∀ (c : KeyCmd) (d b : Bool) (n : Nat) (s : State),
    (s.conflict = true → s.keyStatus c d b n = .stewardConflict) ∧
    (s.conflict = false → s.keyStatus c true b n = .permission) ∧
    (s.conflict = false → s.split = true → c.isZeroise = false → s.keyStatus c false b n = .poisonConsumed) ∧
    (s.conflict = false → s.split = false ∨ c.isZeroise = true →
      s.keyStatus c false true n = .badDescriptor ∧ (∀ k, c = .load k k → s.keyStatus c false b n = .badDescriptor) ∧
      ((∀ k, c ≠ .load k k) →
        (c ≠ .zeroiseAll → s.keyStatus c false false n =
          if (s.key n).st = .zeroising ∨ (c ≠ .zeroise ∧ (s.key n).st = .loaded) then .slotBusy else if s.keysReady then .ok else .notReady) ∧
        (c = .zeroiseAll → s.keyStatus c false false n =
          if ∃ x ∈ s.sec.keys, x.2.st = .zeroising then .slotBusy else if s.keysReady then .ok else .notReady)))) ∧
  (∀ (n : BitVec 8) (s : State), s.keyStatus .keygen false false n.toNat = .ok → Yields (.kcmdKeygen n) s (fun t =>
    t.key n.toNat = { s.key n.toNat with st := .loaded, k := Config.drbg (s.sec.drbgNo + 1) ++ Config.drbg s.sec.drbgNo, drbg := true,
                                         gen := (s.key n.toNat).gen + 1#16 } ∧
    (∀ m, m ≠ n.toNat → t.key m = s.key m) ∧ t.sec = { s.sec with keys := t.sec.keys, drbgNo := s.sec.drbgNo + 2 } ∧
    (t.stw Reg.SEC_CSTAT).toNat % 256 = Status.ok.code ∧ t = { s with sec := t.sec, reg := t.reg })) ∧
  (∀ (n : BitVec 8) (s : State), s.keyStatus .zeroise false false n.toNat = .ok →
    ((s.key n.toNat).st = .loaded → Yields (.kcmdZeroise n) s (fun t =>
      t.key n.toNat = { s.key n.toNat with st := .zeroising } ∧ (∀ m, m ≠ n.toNat → t.key m = s.key m) ∧ bit 31 (t.stw Reg.SEC_CSTAT) = true)) ∧
    ((s.key n.toNat).st = .empty → Yields (.kcmdZeroise n) s (fun t => (∀ m, t.key m = s.key m) ∧ t = { s with sec := t.sec, reg := t.reg }))) ∧
  (∀ s : State, s.keyStatus .zeroiseAll false false 0 = .ok → Yields .kcmdZeroiseAll s (fun t =>
    ∀ m, t.key m = if (s.key m).st = .loaded then { s.key m with st := .zeroising } else s.key m)) ∧
  (∀ (n : BitVec 8) (c : Status) (s : State), c ≠ .ok →
    (s.keyStatus .keygen false false n.toNat = c → exec (.kcmdKeygen n) s = .next (s.cstat c)) ∧
    (s.keyStatus .zeroise false false n.toNat = c → exec (.kcmdZeroise n) s = .next (s.cstat c)) ∧
    (s.keyStatus .zeroiseAll false false 0 = c → exec .kcmdZeroiseAll s = .next (s.cstat c))) ∧
  (∀ (n : BitVec 8) (s : State),
    ((s.key n.toNat).st ≠ .zeroising ∨ s.keyInUse n.toNat = true → exec (.zeroiseDone n) s = .next s) ∧
    ((s.key n.toNat).st = .zeroising → s.keyInUse n.toNat = false → Yields (.zeroiseDone n) s (fun t =>
      t.key n.toNat = { s.key n.toNat with st := .empty, k := if s.keyKept n.toNat then (s.key n.toNat).k else 0#512 } ∧
      (∀ m, m ≠ n.toNat → t.key m = s.key m) ∧ t.sec = { s.sec with keys := t.sec.keys, kcmdWait := ndel n.toNat s.sec.kcmdWait } ∧
      bit 31 (t.stw Reg.SEC_CSTAT) = decide (s.sec.fuseBusy = true ∨ ndel n.toNat s.sec.kcmdWait ≠ []) ∧
      t = { s with sec := t.sec, reg := t.reg }))) ∧
  (∀ (e : Endpoint) (i : Nat) (n : BitVec 8) (a b : W256) (s : State), s.reachable e = true → (∀ p, e ≠ .mailbox p) →
    s.spdmServed e = true → s.inSession e i = true →
    (s.keyStatus (.load a b) (s.keyDenied (.load a b) e) false n.toNat = .ok → Yields (.spdmLoad e i n false a b) s (fun t =>
      t.key n.toNat = { s.key n.toNat with st := .loaded, k := b ++ a, drbg := false, gen := (s.key n.toNat).gen + 1#16 } ∧
      (∀ m, m ≠ n.toNat → t.key m = s.key m) ∧
      t.out = (s.spdmOk e ([BitVec.ofNat 8 Status.ok.code, 0#8] ++ leBytes 2 (t.key n.toNat).gen.toNat)).out ∧
      t = { s with sec := { s.sec with keys := t.sec.keys }, out := t.out, freeCtr := t.freeCtr })) ∧
    (s.keyStatus .keygen (s.keyDenied .keygen e) false n.toNat = .ok → Yields (.spdmKeygen e i n false) s (fun t =>
      t.key n.toNat = { s.key n.toNat with st := .loaded, k := Config.drbg (s.sec.drbgNo + 1) ++ Config.drbg s.sec.drbgNo, drbg := true,
                                           gen := (s.key n.toNat).gen + 1#16 } ∧
      (∀ m, m ≠ n.toNat → t.key m = s.key m) ∧
      t.out = (s.spdmOk e ([BitVec.ofNat 8 Status.ok.code, 0#8] ++ leBytes 2 (t.key n.toNat).gen.toNat)).out ∧
      t = { s with sec := { s.sec with keys := t.sec.keys, drbgNo := s.sec.drbgNo + 2 }, out := t.out, freeCtr := t.freeCtr })) ∧
    (s.keyStatus .zeroise (s.keyDenied .zeroise e) false n.toNat = .ok → Yields (.spdmZeroise e i n false) s (fun t =>
      t.key n.toNat = (if (s.key n.toNat).st = .loaded then { s.key n.toNat with st := .zeroising } else s.key n.toNat) ∧
      (∀ m, m ≠ n.toNat → t.key m = s.key m) ∧
      t.out = (s.spdmOk e ([BitVec.ofNat 8 Status.ok.code, 0#8] ++ leBytes 2 (s.key n.toNat).gen.toNat)).out)) ∧
    (s.keyStatus .zeroiseAll (s.keyDenied .zeroiseAll e) false 0 = .ok → Yields (.spdmZeroiseAll e i false) s (fun t =>
      (∀ m, t.key m = if (s.key m).st = .loaded then { s.key m with st := .zeroising } else s.key m) ∧
      t.out = (s.spdmOk e ([BitVec.ofNat 8 Status.ok.code, 0#8] ++ leBytes 2 (Config.freeBits s.freeCtr).toNat)).out)) ∧
    (∀ (r : Bool) (k : KeyCmd) (c : Instr), (k, c) ∈ [(KeyCmd.load a b, Instr.spdmLoad e i n r a b), (.keygen, .spdmKeygen e i n r),
        (.zeroise, .spdmZeroise e i n r)] → s.keyStatus k (s.keyDenied k e) r n.toNat ≠ .ok →
      exec c s = .next (s.spdmOk e ([BitVec.ofNat 8 (s.keyStatus k (s.keyDenied k e) r n.toNat).code, 0#8] ++
        leBytes 2 (s.key n.toNat).gen.toNat)).tickFree) ∧
    (∀ r, s.keyStatus .zeroiseAll (s.keyDenied .zeroiseAll e) r 0 ≠ .ok → exec (.spdmZeroiseAll e i r) s =
      .next (s.spdmOk e ([BitVec.ofNat 8 (s.keyStatus .zeroiseAll (s.keyDenied .zeroiseAll e) r 0).code, 0#8] ++
        leBytes 2 (Config.freeBits s.freeCtr).toNat)).tickFree)) ∧
  (∀ (c : KeyCmd) (e : Endpoint) (s : State), s.keyDenied c e = true ↔
    (s.sec.bound ≠ some e ∧ (s.sec.bound.isSome = true ∨ ∃ a b, c = .load a b)))

/-- Updates and BIST by command (R388 to R391, R415, R417 to R421, Tables BUP-6, BUP-7). Each BUP_UPD command ends with the
first status that applies: in a conflict, while the flash is written, with a bad length or chunk, or out of its turn it is
refused and changes STATUS only. Else BEGIN starts an update, CHUNK stores the 4 KiB of BUP_UWIN, in the flash where the ROM
serves, VERIFY refuses an incomplete image and one with a failed check and else verifies it or, where the ROM serves, ends
the update and checks the flash in each half in recovery; COMMIT begins the writing of the flash, whose end checks what was
written; ABANDON ends the update. An image that passes meets every check of Table SEC-3. A BIST command is refused in a
conflict, while one runs, past the last target, and on a target not in the state of Table BUP-7; else it runs. When it ends
the target that left its state gives PERMISSION, one whose grant is parked runs on, and any other passes when the signatures
are equal (a rank's is compared with 0). -/
def Obligations.UpdatesAndTestsRunInTheirTurn : Prop :=
  (∀ (c : BitVec 14) (i : Instr) (s : State), i ∈ [.updateBegin, .updateChunk c, .updateVerify, .updateCommit, .updateAbandon] →
    (s.conflict = true → exec i s = .next (s.ustat .stewardConflict)) ∧
    (s.conflict = false → s.upd.st = .committing → exec i s = .next (s.ustat .slotBusy))) ∧
  (∀ s : State, s.conflict = false →
    (s.upd.st = .loading ∨ s.upd.st = .verified → exec .updateBegin s = .next (s.ustat .slotBusy)) ∧
    (s.upd.st = .idle → (s.stw Reg.BUP_ULEN).toNat < 1024 ∨ 62914560 < (s.stw Reg.BUP_ULEN).toNat →
      exec .updateBegin s = .next (s.ustat .badDescriptor)) ∧
    (s.upd.st = .idle → 1024 ≤ (s.stw Reg.BUP_ULEN).toNat → (s.stw Reg.BUP_ULEN).toNat ≤ 62914560 →
      exec .updateBegin s = .next (State.ustat .ok
        { s with upd := { s.upd with st := .loading, len := (s.stw Reg.BUP_ULEN).toNat, chunks := [], bytes := [] } }))) ∧
  (∀ (c : BitVec 14) (s : State), s.conflict = false → s.upd.st ≠ .committing →
    (s.updLen ≤ 4096 * c.toNat → exec (.updateChunk c) s = .next (s.ustat .badDescriptor)) ∧
    (4096 * c.toNat < s.updLen → s.upd.st ≠ .loading → exec (.updateChunk c) s = .next (s.ustat .permission)) ∧
    (4096 * c.toNat < s.upd.len → s.upd.st = .loading → s.romServes = false → memWf s.upd.bytes = true →
      Yields (.updateChunk c) s (fun t => t.upd.chunks = nins c.toNat s.upd.chunks ∧
        (∀ a, a < 4096 → mget (4096 * c.toNat + a) t.upd.bytes = (s.uwinBytes[a]?).getD 0#8) ∧
        (∀ a, a < 4096 * c.toNat ∨ 4096 * (c.toNat + 1) ≤ a → mget a t.upd.bytes = mget a s.upd.bytes) ∧
        t = State.ustat .ok { s with upd := { s.upd with chunks := t.upd.chunks, bytes := t.upd.bytes } })) ∧
    (4096 * c.toNat < s.upd.len → s.upd.st = .loading → s.romServes = true → memWf s.flash.img = true →
      Yields (.updateChunk c) s (fun t => t.upd = { s.upd with chunks := nins c.toNat s.upd.chunks } ∧
        (∀ a, a < 4096 → mget (4096 * c.toNat + a) t.flash.img = (s.uwinBytes[a]?).getD 0#8) ∧
        (∀ a, a < 4096 * c.toNat ∨ 4096 * (c.toNat + 1) ≤ a → mget a t.flash.img = mget a s.flash.img) ∧
        t = State.ustat .ok { s with upd := t.upd, flash := { s.flash with img := t.flash.img } }))) ∧
  (∀ s : State, s.conflict = false →
    (s.upd.st = .idle ∨ s.upd.st = .verified → exec .updateVerify s = .next (s.ustat .permission)) ∧
    (s.upd.st = .loading → s.upd.complete = false → exec .updateVerify s = .next (s.ustat .checkMismatch)) ∧
    (s.upd.st = .loading → s.upd.complete = true → ∀ m, m = (if s.romServes then s.flash.img else s.upd.bytes) →
      (s.imageErr m s.upd.len false ≠ 0 →
        exec .updateVerify s = .next ((s.noteErr (s.imageErr m s.upd.len false)).ustat .checkMismatch)) ∧
      (s.imageErr m s.upd.len false = 0 → s.romServes = false →
        exec .updateVerify s = .next (State.ustat .ok { s with upd := { s.upd with st := .verified } })) ∧
      (s.imageErr m s.upd.len false = 0 → s.romServes = true → Yields .updateVerify s (fun t =>
        t.upd = { s.upd with st := .idle, len := 0, chunks := [] } ∧ t.flash = { s.flash with mixed := false } ∧
        (∀ h, (s.half h).stage = .recovery →
          (s.imageErr s.flash.img 62914560 false = 0 → (t.half h).stage = .verify ∧ (t.half h).passed = some (imgDigest s.flash.img)) ∧
          (s.imageErr s.flash.img 62914560 false ≠ 0 → (t.half h).stage = .recovery ∧
            (t.half h).lastErr = s.imageErr s.flash.img 62914560 false)) ∧
        (∀ h, (s.half h).stage ≠ .recovery → t.half h = s.half h))))) ∧
  (∀ s : State, s.conflict = false →
    (s.upd.st = .loading ∨ s.upd.st = .idle → exec .updateCommit s = .next (s.ustat .permission)) ∧
    (s.upd.st = .verified → exec .updateCommit s = .next (State.ustat .ok { s with upd := { s.upd with st := .committing } })) ∧
    (s.upd.st ≠ .committing → exec .updateAbandon s =
      .next (State.ustat .ok { s with upd := { s.upd with st := .idle, len := 0, chunks := [], bytes := [] } }))) ∧
  (∀ s : State, (s.upd.st ≠ .committing → exec .updateCommitDone s = .next s) ∧
    (s.upd.st = .committing → Yields .updateCommitDone s (fun t => t.flash = { s.flash with img := s.flashed s.upd.len, mixed := false } ∧
      t.upd = { s.upd with st := .idle, len := 0, chunks := [], bytes := [] } ∧
      (s.imageErr (s.flashed s.upd.len) s.upd.len false = 0 → bits 7 0 (t.stw Reg.BUP_USTAT) = Status.ok.code) ∧
      (s.imageErr (s.flashed s.upd.len) s.upd.len false ≠ 0 → bits 7 0 (t.stw Reg.BUP_USTAT) = Status.checkMismatch.code ∧
        (t.half (s.stewardHalf.getD .north)).lastErr = s.imageErr (s.flashed s.upd.len) s.upd.len false)))) ∧
  (∀ (m : Mem) (n : Nat) (x : Bool) (s : State), s.imageErr m n x = 0 → imgLayoutOk m n = true ∧ bit (imgLe m 5 1) s.fuse.kRevoke = false ∧
    x = false ∧ Config.signatureOk (imgLe m 5 1) (imgSigned m) (mread 512 512 m) = true ∧ s.fuse.minSvn.toNat ≤ imgLe m 8 1) ∧
  (∀ (n : BitVec 9) (k cnt : Nat) (i : Instr) (s : State),
    (k, cnt, i) ∈ [(0, 16, .bistFe n), (1, 64, .bistTc n), (2, 272, .bistRank n), (3, 16, .bistPort n)] →
    (s.conflict = true → exec i s = .next (s.bistStatus .stewardConflict)) ∧
    (s.conflict = false → s.upd.bist.isSome = true → exec i s = .next (s.bistStatus .slotBusy)) ∧
    (s.conflict = false → s.upd.bist = none → cnt ≤ n.toNat → exec i s = .next (s.bistStatus .badDescriptor)) ∧
    (s.conflict = false → s.upd.bist = none → n.toNat < cnt → s.bistReady k n.toNat = false →
      exec i s = .next (s.bistStatus .permission)) ∧
    (s.conflict = false → s.upd.bist = none → n.toNat < cnt → s.bistReady k n.toNat = true → Yields i s (fun t =>
      t.upd = { s.upd with bist := some (k, n.toNat) } ∧ bit 31 (t.stw Reg.BUP_BSTAT) = true ∧
      (k = 0 → (t.fe n.toNat).ctl.tpass = false) ∧ (k = 1 → (t.tc n.toNat).tpass = false) ∧
      (∃ a ∈ t.ras.acts, a.code = 6 ∧ a.unit = bistUnit k n.toNat)))) ∧
  (∀ (n : Nat) (s : State), (s.bistReady 0 n = true ↔ (s.fe n).ctl.st = .fenced) ∧ (s.bistReady 1 n = true ↔ (s.tc n).st = .fenced) ∧
    (s.bistReady 2 n = true ↔ nmem n s.dmc.retiredRanks = true ∨ (256 ≤ n ∧ n ∈ s.freeSpares ((n - 256) / 8))) ∧
    (s.bistReady 3 n = true ↔ (s.port n).st = .reset)) ∧
  (∀ (a b : W32) (s : State), s.upd.bist = none → exec (.bistDone a b) s = .next s) ∧
  (∀ (k n : Nat) (a b : W32) (s : State), s.upd.bist = some (k, n) → n < bistCount k →
    (s.bistReady k n = false → Yields (.bistDone a b) s (fun t => t.upd = { s.upd with bist := none } ∧
      (t.stw Reg.BUP_BSTAT).toNat = Status.permission.code ∧ ∀ x ∈ t.ras.acts, ¬ (x.code = 6 ∧ x.unit = bistUnit k n))) ∧
    (s.bistReady k n = true → s.holdsGrant 6 (bistUnit k n) = false → exec (.bistDone a b) s = .next s) ∧
    (s.bistReady k n = true → s.holdsGrant 6 (bistUnit k n) = true → Yields (.bistDone a b) s (fun t =>
      t.upd = { s.upd with bist := none } ∧ t.stw Reg.BUP_BSIG = a ∧ t.stw Reg.BUP_BEXP = (if k = 2 then 0#32 else b) ∧
      bit 30 (t.stw Reg.BUP_BSTAT) = decide (a = if k = 2 then 0#32 else b) ∧ bit 31 (t.stw Reg.BUP_BSTAT) = false ∧
      bits 7 0 (t.stw Reg.BUP_BSTAT) = Status.ok.code ∧
      (k = 0 → (t.fe n).ctl.tpass = decide (a = b)) ∧ (k = 1 → (t.tc n).tpass = decide (a = b)) ∧
      ∀ x ∈ t.ras.acts, ¬ (x.code = 6 ∧ x.unit = bistUnit k n))))

/-- Power, thermal level, standby and the token (R423, R426, R427, R430, R434 to R436, Tables PWM-3, PWM-6). A plan gives
the rate factor of govern, from the lower of the two caps and at level 3 bounded by FMIN, and LIMIT names the cap that holds
it below 1; the factor is never below FMIN where its bound is not. A sample stores every reading and takes the highest level
that is reached, or was held and is not yet cooled for 100 samples; a new level sets THERM_N, and level 2 the 250 W cap. The
thermal cap steps by 5 W: down at level 1, up at level 0. Standby is entered where it is enabled and nothing runs (busyNow):
ports go to L1, scrubs and march runs park, banks that are on and free or staging fallow; it ends by its event only. A
steward whose watchdog expires restarts and loses its sessions and an update that is not committing; a deputy that receives
the token, or loses the token link, is steward, two stewards are a conflict; when the link returns one of two stewards
restarts, the default half's peer unless only that peer's core runs; a half that has restarted is deputy and the conflict is
over. In any other state each of these events changes nothing. -/
def Obligations.PowerAndStewardshipFollowEvents : Prop :=
  (∀ (a b : W16) (s : State), Yields (.governorPlan a b) s (fun t => t.pwm.f = govern s.pwm.f
      (fpOf (5 * min (s.stwF Reg.PWM_CAP 6 0) s.pwm.thermCap)) (fpDiv (fpOf a.toNat) (fpOf 10)) (if s.pwm.level = 3 then fMin else fOne) ∧
    bits 31 16 (t.stw Reg.PWM_PWR) = a.toNat ∧ bits 15 0 (t.stw Reg.PWM_PWR) = b.toNat ∧
    t.pwm = { s.pwm with f := t.pwm.f, limit := if t.pwm.f = fOne then 0 else if s.stwF Reg.PWM_CAP 6 0 ≤ s.pwm.thermCap then 1 else 2 } ∧
    t = { s with reg := t.reg, pwm := t.pwm })) ∧
  (∀ f c p u : W32, fpLt u fMin = false → fpLt (govern f c p u) fMin = false) ∧
  (∀ (l : List Int) (k1 k2 k3 : Nat) (s : State),
    k1 = (if s.cooled (l.take 40) 1 then min 100 (s.pwm.cool1 + 1) else 0) →
    k2 = (if s.cooled (l.take 40) 2 then min 100 (s.pwm.cool2 + 1) else 0) →
    k3 = (if s.cooled (l.take 40) 3 then min 100 (s.pwm.cool3 + 1) else 0) → Yields (.sensorSample l) s (fun t =>
    t.pwm.level = (if s.reached (l.take 40) 3 = true ∨ (3 ≤ s.pwm.level ∧ k3 < 100) then 3
      else if s.reached (l.take 40) 2 = true ∨ (2 ≤ s.pwm.level ∧ k2 < 100) then 2
      else if s.reached (l.take 40) 1 = true ∨ (1 ≤ s.pwm.level ∧ k1 < 100) then 1 else 0) ∧
    t.pwm = { s.pwm with cool1 := k1, cool2 := k2, cool3 := k3, level := t.pwm.level,
                         thermCap := if t.pwm.level = 2 ∧ s.pwm.level ≠ 2 then 50 else s.pwm.thermCap } ∧
    (t.pwm.level ≠ s.pwm.level → t.pins = { s.pins with thermN := s.pins.trip || decide (2 ≤ t.pwm.level) }) ∧
    (t.pwm.level = s.pwm.level → t = { s with reg := t.reg, pwm := t.pwm }) ∧
    (∀ (n : Nat) (x : Int), (l.take 40)[n]? = some x → t.stw (Reg.PWM_TEMP + 4 * n) = 0x80000000#32 ||| (BitVec.ofInt 16 x).setWidth 32))) ∧
  (∀ s : State, (s.pwm.level = 1 → exec .thermalCapStep s = .next (s.modPwm (fun w => { w with thermCap := max 50 (w.thermCap - 1) }))) ∧
    (s.pwm.level = 0 → exec .thermalCapStep s = .next (s.modPwm (fun w => { w with thermCap := min 90 (w.thermCap + 1) }))) ∧
    (2 ≤ s.pwm.level → exec .thermalCapStep s = .next s)) ∧
  (∀ s : State, s.pwm.standby = false → bit 31 (s.stw Reg.PWM_SBY) = true → s.busyNow = false → Yields .standbyEnter s (fun t =>
    t.pwm = { s.pwm with standby := true } ∧ (∀ p, (s.port p).st = .up → (t.port p).inL1 = true) ∧
    (∀ p, (s.port p).st ≠ .up → t.port p = s.port p) ∧
    (∀ b, b < 512 → (s.bank b).kind = .free ∨ (s.bank b).kind = .stage → (s.bank b).ps = .on → (t.bank b).ps = .fallow) ∧
    (∀ b, b < 512 → (s.bank b).kind = .job → t.bank b = s.bank b) ∧ (∀ a, a ∈ t.ras.acts → a.granted = true → a.code ≠ 1 ∧ a.code ≠ 5))) ∧
  (∀ s : State, s.pwm.standby = true ∨ bit 31 (s.stw Reg.PWM_SBY) = false ∨ s.busyNow = true → exec .standbyEnter s = .next s) ∧
  (∀ (p : Option PortId) (s : State), (s.pwm.standby = false → exec (.standbyExit p) s = .next s) ∧
    (s.pwm.standby = true → Yields (.standbyExit p) s (fun t => t.pwm = { s.pwm with standby := false } ∧
      (∀ i, p = some i → t.port i.toNat = { s.port i.toNat with inL1 := false }) ∧
      (∀ q, (∀ i, p = some i → q ≠ i.toNat) → t.port q = s.port q) ∧
      t = { s with pwm := t.pwm, ports := t.ports, dmc := t.dmc, ras := t.ras, reg := t.reg }))) ∧
  (∀ (h : Half) (s : State), ((s.half h).role ≠ .steward → exec (.watchdogExpire h) s = .next s) ∧
    ((s.half h).role = .steward → Yields (.watchdogExpire h) s (fun t => t.half h = { s.half h with role := .restarting } ∧
      t.half (halfOther h) = s.half (halfOther h) ∧ t.sec = { s.sec with sessions := [] } ∧
      (s.upd.st = .loading ∨ s.upd.st = .verified → t.upd = { s.upd with st := .idle, len := 0, chunks := [], bytes := [] }) ∧
      (s.upd.st = .idle ∨ s.upd.st = .committing → t.upd = s.upd)))) ∧
  (∀ (h : Half) (s : State),
    ((s.half h).role ≠ .deputy ∨ (s.half (halfOther h)).role = .steward → exec (.tokenReceived h) s = .next s) ∧
    ((s.half h).role = .deputy → (s.half (halfOther h)).role ≠ .steward →
      Yields (.tokenReceived h) s (fun t => t.half h = { s.half h with role := .steward } ∧ t.half (halfOther h) = s.half (halfOther h) ∧
        bits 15 0 (t.stw Reg.PWM_MSTAT) = min 0xFFFF (bits 15 0 (s.stw Reg.PWM_MSTAT) + 1)))) ∧
  (∀ (h : Half) (s : State), ((s.half h).role ≠ .deputy → exec (.tokenLinkTimeout h) s = .next s) ∧
    ((s.half h).role = .deputy → Yields (.tokenLinkTimeout h) s (fun t => t.half h = { s.half h with role := .steward } ∧
      t.half (halfOther h) = s.half (halfOther h) ∧ ((s.half (halfOther h)).role = .steward → t.conflict = true) ∧
      ((s.half (halfOther h)).role ≠ .steward → t.bridge = s.bridge)))) ∧
  (∀ s : State, (s.north.role ≠ .steward ∨ s.south.role ≠ .steward → exec .tokenLinkReturn s = .next s) ∧
    (s.north.role = .steward → s.south.role = .steward → exec .tokenLinkReturn s = .next (s.setRole
      (if s.coreRuns s.defaultHalf = false ∧ s.coreRuns (halfOther s.defaultHalf) = true then s.defaultHalf else halfOther s.defaultHalf)
      .restarting))) ∧
  (∀ (h : Half) (s : State), ((s.half h).role ≠ .restarting → exec (.coreRestartDone h) s = .next s) ∧
    ((s.half h).role = .restarting → Yields (.coreRestartDone h) s (fun t => t.half h = { s.half h with role := .deputy } ∧
      t.conflict = false ∧ t.half (halfOther h) = s.half (halfOther h) ∧ (s.conflict = false → t = s.setHalf h (t.half h)))))

/-- Management commands (R55, R297, R375, R413, R431, R432, R445, Tables PWM-4, SHR-3). Where no half serves, or the
endpoint cannot be reached, nothing is answered; a draining logical device answers none of the commands that its mailbox
carries; an FM API command at a logical device's mailbox, or where there is no FM-owned device, is Unsupported, and so is
every command that the module does not carry. A get answers what the machine holds; a set, of the message limit, the
interrupt policy, the timestamp, is what the next get answers and changes nothing else; CLEAR_EVENT_RECORDS drops the first
n records, or all, and restarts the overflow count of that log. The commands on a logical device act on one that is
enumerated behind the endpoint's head and are else Unsupported; a configuration request sent to it is served as a host's is,
and else answered NOT_READY. Set Endpoint ID keeps the EID of a VDM or I3C endpoint; the mailboxes carry no MCTP; an I3C
address assignment is kept. (The words that CXL itself fixes are free: log 19.) -/
def Obligations.ManagementCommandsAnswerAndSet : Prop :=
  (∀ (e : Endpoint) (t : Tenant) (a n : Nat) (v : Byte) (l : BitVec 4) (q : PortId) (k : BitVec 2) (m : Option Nat) (o : Option Byte) (op : W16)
      (r : CfgReg) (y : Bool) (w : W32) (x : W64) (d : Endpoint) (c : Instr) (s : State),
    ((d, c) ∈ [(e, .backgroundOperationStatus e), (e, .getResponseMessageLimit e), (e, .setResponseMessageLimit e v),
      (e, .tunnelManagement e l op), (e, .sendLdConfigurationRequest e l y r w), (e, .getLdInfo e), (e, .getLdAllocations e),
      (e, .getMultiHeadedInfo e), (e, .getHeadInfo e q), (e, .getDcdInfo e), (e, .getHostDcRegionConfiguration e l),
      (e, .getDcRegionExtentLists e l)] →
      (s.mgmtServed d = false → exec c s = .next s) ∧
      (s.mgmtServed d = true → s.epHead d = none → exec c s = .next (s.mgmtNo d))) ∧
    ((d, c) ∈ [(e, .identify e), (e, .getEventRecords e k), (e, .clearEventRecords e k m), (e, .getEventInterruptPolicy e),
      (e, .setEventInterruptPolicy e w), (e, .getTimestamp e), (e, .setTimestamp e x), (e, .getSupportedLogs e), (e, .getLog e a n)] →
      (s.mgmtServed d = false → exec c s = .next s) ∧
      (∀ u : Tenant, d = .doe u → s.draining u.toNat = true → exec c s = .next s) ∧
      (s.mgmtServed d = true → s.epHead d = none → (∀ u, d ≠ .doe u) → exec c s = .next (s.mgmtNo d))) ∧
    ((d, c) ∈ [(.doe t, .getDynamicCapacityConfiguration t), (.doe t, .getDynamicCapacityExtentList t),
      (.doe t, .identifyMemoryDevice t), (.doe t, .getHealthInfo t)] →
      s.mgmtServed d = false ∨ s.draining t.toNat = true → exec c s = .next s) ∧
    ((d, c) ∈ [(e, .unsupportedCommand e op), (e, .mctpControl e o)] → s.mgmtServed d = false → exec c s = .next s) ∧
    (s.mgmtServed e = true → exec (.unsupportedCommand e op) s = .next (s.mgmtNo e))) ∧
  (∀ (e : Endpoint) (p : Nat) (s : State), s.mgmtServed e = true → s.epHead e = some p →
    exec (.identify e) s = .next (s.mgmtOpen e ([devId] ++ w64 Config.serial.toNat)) ∧
    exec (.backgroundOperationStatus e) s = .next (s.mgmtOpen e []) ∧
    exec (.getResponseMessageLimit e) s = .next (s.mgmtOk e [(s.msgLimit e).setWidth 32]) ∧
    (∀ v, Yields (.setResponseMessageLimit e v) s (fun t => t.msgLimit e = v ∧ (∀ f, f ≠ e → t.msgLimit f = s.msgLimit f) ∧
      t = { s.mgmtOk e [v.setWidth 32] with mgmt := { s.mgmt with limits := t.mgmt.limits } })) ∧
    (∀ k : BitVec 2, exec (.getEventRecords e k) s = .next (s.mgmtOk e ([BitVec.ofNat 32 (tget 0 (4 * p + k.toNat) s.mgmt.fmOverflow),
      BitVec.ofNat 32 (s.fmEvents p k.toNat).length] ++ ((s.fmEvents p k.toNat).map w256).flatten))) ∧
    (∀ (k : BitVec 2) (o : Option Nat), Yields (.clearEventRecords e k o) s (fun t =>
      (∀ n, o = some n → t.fmEvents p k.toNat = (s.fmEvents p k.toNat).drop n) ∧ (o = none → t.fmEvents p k.toNat = []) ∧
      (∀ q j, q ≠ p ∨ j ≠ k.toNat → t.fmEvents q j = s.fmEvents q j) ∧ tget 0 (4 * p + k.toNat) t.mgmt.fmOverflow = 0 ∧
      (∀ i, i ≠ 4 * p + k.toNat → tget 0 i t.mgmt.fmOverflow = tget 0 i s.mgmt.fmOverflow) ∧
      t = { s.mgmtOk e [] with mgmt := { s.mgmt with fmOverflow := t.mgmt.fmOverflow, fmInfo := t.mgmt.fmInfo, fmWarn := t.mgmt.fmWarn,
                                                     fmFail := t.mgmt.fmFail } })) ∧
    exec (.getEventInterruptPolicy e) s = .next (s.mgmtOk e [tget 0#32 p s.mgmt.fmPolicy]) ∧
    (∀ v, Yields (.setEventInterruptPolicy e v) s (fun t => tget 0#32 p t.mgmt.fmPolicy = v ∧
      (∀ q, q ≠ p → tget 0#32 q t.mgmt.fmPolicy = tget 0#32 q s.mgmt.fmPolicy) ∧
      t = { s.mgmtOk e [] with mgmt := { s.mgmt with fmPolicy := t.mgmt.fmPolicy } })) ∧
    exec (.getTimestamp e) s = .next (s.mgmtOk e (w64 (s.stampNow (tfind p s.mgmt.fmTimestamp)))) ∧
    (∀ v : W64, Yields (.setTimestamp e v) s (fun t => t.stampNow (tfind p t.mgmt.fmTimestamp) = v.toNat ∧
      (∀ q, q ≠ p → tfind q t.mgmt.fmTimestamp = tfind q s.mgmt.fmTimestamp) ∧
      t = { s.mgmtOk e [] with mgmt := { s.mgmt with fmTimestamp := t.mgmt.fmTimestamp } })) ∧
    exec (.getSupportedLogs e) s = .next (s.mgmtOpen e []) ∧ (∀ a n, exec (.getLog e a n) s = .next (s.mgmtOpen e [])) ∧
    exec (.getLdInfo e) s = .next (s.mgmtOk e ([BitVec.ofNat 32 (s.headLds p).length] ++ w64 ((s.headLds p).map (fun t => s.ldSize t)).sum)) ∧
    exec (.getLdAllocations e) s =
      .next (s.mgmtOk e ([BitVec.ofNat 32 (s.headLds p).length] ++ ((s.headLds p).map (fun t => w64 (s.ldSize t))).flatten)) ∧
    exec (.getMultiHeadedInfo e) s = .next (s.mgmtOpen e [BitVec.ofNat 32 s.heads.length]) ∧
    (∀ q : PortId, s.portUnused q.toNat = false → exec (.getHeadInfo e q) s = .next (s.mgmtOpen e [q.setWidth 32,
      BitVec.ofNat 32 (s.port q.toNat).st.code, (s.port q.toNat).width.setWidth 32, (s.port q.toNat).rate.setWidth 32])) ∧
    (∀ q : PortId, s.portUnused q.toNat = true → exec (.getHeadInfo e q) s = .next (s.mgmtNo e)) ∧
    exec (.getDcdInfo e) s = .next (s.mgmtOpen e [1#32])) ∧
  (∀ (e : Endpoint) (p : Nat) (l : BitVec 4) (op : W16) (r : CfgReg) (v : W32) (s : State), s.mgmtServed e = true → s.epHead e = some p →
    ((s.headLds p).contains (16 * p + l.toNat) = true → exec (.tunnelManagement e l op) s = .next (s.mgmtOpen e []) ∧
      exec (.getHostDcRegionConfiguration e l) s = .next (s.mgmtOk e (s.dcConfig (16 * p + l.toNat))) ∧
      exec (.getDcRegionExtentLists e l) s = .next (s.mgmtOk e (s.dcExtents (16 * p + l.toNat))) ∧
      (s.cfgServed (16 * p + l.toNat) = true →
        exec (.sendLdConfigurationRequest e l true r v) s = .next ((s.cfgWrite (16 * p + l.toNat) r v).mgmtOk e []) ∧
        exec (.sendLdConfigurationRequest e l false r v) s = .next ((s.mgmtOk e [s.cfgRead (16 * p + l.toNat) r]).tickFree)) ∧
      (s.cfgServed (16 * p + l.toNat) = false → ∀ y,
        exec (.sendLdConfigurationRequest e l y r v) s = .next (s.emit (.mgmt e .notReady [])))) ∧
    ((s.headLds p).contains (16 * p + l.toNat) = false → ∀ y, ∀ c ∈ [Instr.tunnelManagement e l op, .getHostDcRegionConfiguration e l,
      .getDcRegionExtentLists e l, .sendLdConfigurationRequest e l y r v], exec c s = .next (s.mgmtNo e))) ∧
  (∀ (e : Endpoint) (s : State), s.mgmtServed e = true →
    ((∃ p, e = .vdm p) ∨ e = .i3c →
      (∀ b : Byte, Yields (.mctpControl e (some b)) s (fun t => t.mgmt.eids = (s.mgmt.eids.filter (fun x => x.1 ≠ e)) ++ [(e, b)] ∧
        t = (State.mgmtOpen e [b.setWidth 32] { s with mgmt := { s.mgmt with eids := t.mgmt.eids } }))) ∧
      exec (.mctpControl e none) s =
        .next (s.mgmtOpen e ((s.mgmt.eids.filter (fun x => x.1 = e)).map (fun x => x.2.setWidth 32)))) ∧
    ((∃ p, e = .mailbox p) ∨ (∃ t, e = .doe t) → ∀ b, exec (.mctpControl e b) s = .next (s.mgmtNo e))) ∧
  (∀ (a : BitVec 7) (s : State), exec (.i3cDynamicAddressAssignment a) s = .next { s with mgmt := { s.mgmt with i3cAddr := some a } }) ∧
  (∀ (t : Tenant) (s : State), s.mgmtServed (.doe t) = true → s.draining t.toNat = false →
    exec (.getDynamicCapacityConfiguration t) s = .next (s.mgmtOk (.doe t) (s.dcConfig t.toNat)) ∧
    exec (.getDynamicCapacityExtentList t) s = .next (s.mgmtOk (.doe t) (s.dcExtents t.toNat)) ∧
    exec (.identifyMemoryDevice t) s = .next (s.mgmtOpen (.doe t) (w64 (8 * 2 ^ (s.ld t.toNat).recordedW))) ∧
    exec (.getHealthInfo t) s = .next (s.mgmtOpen (.doe t) [at32 0 (b2n (s.fnReady t.toNat .mem))]) ∧
    exec (.identify (.doe t)) s = .next (s.mgmtOpen (.doe t) ([devId] ++ w64 Config.serial.toNat)) ∧
    (∀ k : BitVec 2, exec (.getEventRecords (.doe t) k) s = .next (s.mgmtOk (.doe t) ([BitVec.ofNat 32 (tget 0 k.toNat (s.ld t.toNat).overflow),
      BitVec.ofNat 32 ((s.ld t.toNat).events k.toNat).length] ++ (((s.ld t.toNat).events k.toNat).map w256).flatten))) ∧
    (∀ (k : BitVec 2) (o : Option Nat), Yields (.clearEventRecords (.doe t) k o) s (fun u =>
      (∀ n, o = some n → (u.ld t.toNat).events k.toNat = ((s.ld t.toNat).events k.toNat).drop n) ∧
      (o = none → (u.ld t.toNat).events k.toNat = []) ∧
      (∀ j, j ≠ k.toNat → (u.ld t.toNat).events j = (s.ld t.toNat).events j) ∧ tget 0 k.toNat (u.ld t.toNat).overflow = 0 ∧
      (∀ j, j ≠ k.toNat → tget 0 j (u.ld t.toNat).overflow = tget 0 j (s.ld t.toNat).overflow) ∧
      (∀ n, n ≠ t.toNat → u.ld n = s.ld n) ∧ u = { s.mgmtOk (.doe t) [] with lds := u.lds })) ∧
    exec (.getEventInterruptPolicy (.doe t)) s = .next (s.mgmtOk (.doe t) [(s.ld t.toNat).evPolicy]) ∧
    (∀ v, Yields (.setEventInterruptPolicy (.doe t) v) s (fun u => u.ld t.toNat = { s.ld t.toNat with evPolicy := v } ∧
      (∀ n, n ≠ t.toNat → u.ld n = s.ld n) ∧ u = { s.mgmtOk (.doe t) [] with lds := u.lds })) ∧
    exec (.getTimestamp (.doe t)) s = .next (s.mgmtOk (.doe t) (w64 (s.stampNow (s.ld t.toNat).timestamp))) ∧
    (∀ v : W64, Yields (.setTimestamp (.doe t) v) s (fun u => u.stampNow (u.ld t.toNat).timestamp = v.toNat ∧
      u.ld t.toNat = { s.ld t.toNat with timestamp := (u.ld t.toNat).timestamp } ∧
      (∀ n, n ≠ t.toNat → u.ld n = s.ld n) ∧ u = { s.mgmtOk (.doe t) [] with lds := u.lds })) ∧
    exec (.getSupportedLogs (.doe t)) s = .next (s.mgmtOpen (.doe t) []) ∧
    (∀ a n, exec (.getLog (.doe t) a n) s = .next (s.mgmtOpen (.doe t) []))) ∧
  (∀ (e : Endpoint) (s : State), s.reachable e = false → s.mgmtServed e = false)
end

