-- ==== Sys2Proof/Laws/Fields.lean ====
section
/-! SUPPORT. Reading a field of a word after a field was replaced. -/

namespace Sys2Proof.Machine

theorem getLsbD_setBits {n : Nat} (hi lo v : Nat) (w : BitVec n) (k : Nat) :
    (setBits hi lo v w).getLsbD k = if lo ≤ k ∧ k ≤ hi then decide (k < n) && v.testBit (k - lo) else w.getLsbD k := by
  unfold setBits
  simp only [BitVec.getLsbD_or, BitVec.getLsbD_and, BitVec.getLsbD_not, BitVec.getLsbD_ofNat, Nat.testBit_mul_two_pow, Nat.testBit_two_pow_sub_one, Nat.testBit_mod_two_pow]
  by_cases h1 : lo ≤ k <;> by_cases h2 : k ≤ hi <;> by_cases h3 : k < n <;> simp [h1, h2, h3]
  all_goals try (have : k - lo < hi + 1 - lo := by omega); simp [this]
  all_goals try (have : ¬ (k - lo < hi + 1 - lo) := by omega); simp [this]
  all_goals exact BitVec.getLsbD_of_ge _ _ (by omega)

theorem bit_setBit {n k : Nat} (b : Bool) (w : BitVec n) (h : k < n) : bit k (setBit k b w) = b := by
  unfold bit setBit
  rw [getLsbD_setBits]; cases b <;> simp [h]

theorem bit_setBit_other {n k i : Nat} (b : Bool) (w : BitVec n) (h : i ≠ k) : bit i (setBit k b w) = bit i w := by
  unfold bit setBit
  rw [getLsbD_setBits, if_neg (by omega)]

theorem bits_eq {n hi lo : Nat} (w : BitVec n) : bits hi lo w = (w.toNat >>> lo) % 2 ^ (hi + 1 - lo) := by
  simp [bits, fld, Nat.shiftRight_eq_div_pow]

theorem bits_setBits {n hi lo : Nat} (v : Nat) (w : BitVec n) (h : hi < n) (g : v < 2 ^ (hi + 1 - lo)) :
    bits hi lo (setBits hi lo v w) = v := by
  rw [bits_eq]
  apply Nat.eq_of_testBit_eq
  intro i
  rw [Nat.testBit_mod_two_pow, Nat.testBit_shiftRight]
  have e : (setBits hi lo v w).toNat.testBit (lo + i) = (setBits hi lo v w).getLsbD (lo + i) := rfl
  rw [e, getLsbD_setBits]
  by_cases hc : i < hi + 1 - lo
  · rw [if_pos (by omega)]; simp [hc]; omega
  · have : v.testBit i = false := Nat.testBit_lt_two_pow (Nat.lt_of_lt_of_le g (Nat.pow_le_pow_right (by omega) (by omega)))
    simp [hc, this]
theorem bits_setBits_other {n hi lo h l : Nat} (v : Nat) (w : BitVec n) (g : h < lo ∨ hi < l) :
    bits h l (setBits hi lo v w) = bits h l w := by
  rw [bits_eq, bits_eq]
  apply Nat.eq_of_testBit_eq
  intro i
  rw [Nat.testBit_mod_two_pow, Nat.testBit_shiftRight, Nat.testBit_mod_two_pow, Nat.testBit_shiftRight]
  by_cases hc : i < h + 1 - l
  · have e : (setBits hi lo v w).toNat.testBit (l + i) = (setBits hi lo v w).getLsbD (l + i) := rfl
    rw [e, getLsbD_setBits, if_neg (by omega)]
    rfl
  · simp [hc]

end Sys2Proof.Machine
end

