-- ==== Sys2Proof/Laws/Reach.lean ====
section
/-! SUPPORT. Every state that an answer, an option or a fold can hold meets a property. -/

namespace Sys2Proof.Machine

/-- Every state in an option meets P. -/
structure InOption (P : State → Prop) (o : Option State) : Prop where
  all : ∀ t, o = some t → P t

/-- A next state meets P. -/
structure Answers (P : State → Prop) (o : Host.Outcome State Fault Refusal) : Prop where
  all : ∀ t, o = .next t → P t

section
variable {P : State → Prop} {t : State}

theorem InOption.some' {o : Option State} (e : o = Option.some t) (h : InOption P o) : P t := h.all t e

theorem InOption.none : InOption P Option.none := ⟨fun _ h => by cases h⟩

theorem InOption.some (h : P t) : InOption P (Option.some t) := ⟨fun _ e => by cases e; exact h⟩

theorem InOption.ite {o p : Option State} {c : Prop} [Decidable c] (h : InOption P o) (g : InOption P p) :
    InOption P (if c then o else p) := by
  split <;> assumption

theorem InOption.map {α : Type} {o : Option α} {f : α → State} (h : ∀ a, P (f a)) : InOption P (o.map f) := by
  cases o with
  | none => exact InOption.none
  | some a => exact InOption.some (h a)

theorem InOption.getD {o : Option State} (h : InOption P o) (g : P t) : P (o.getD t) := by
  cases o with
  | none => exact g
  | some a => exact h.all a rfl

theorem Answers.next (h : P t) : Answers P (.next t) := ⟨fun _ e => by cases e; exact h⟩

theorem Answers.fault (f : Fault) : Answers P (.fault f) := ⟨fun _ h => by cases h⟩

theorem Answers.ite {o p : Host.Outcome State Fault Refusal} {c : Prop} [Decidable c] (h : Answers P o) (g : Answers P p) :
    Answers P (if c then o else p) := by
  split <;> assumption

end

end Sys2Proof.Machine
end

