-- ==== Sys2Proof/Laws/Tables.lean ====
section
/-! SUPPORT. Laws of the sparse tables, the sparse bytes and the number sets: what reads after writes give, and that every
operation keeps the canonical form. -/

namespace Sys2Proof.Machine

section
variable {α : Type}

/-- Rising keys: the canonical order of a table. -/
def Rising (t : Tab α) : Prop := (t.map Prod.fst).Pairwise (· < ·)

theorem Rising.nil : Rising ([] : Tab α) := List.Pairwise.nil

theorem Rising.filter {t : Tab α} (h : Rising t) (p : Nat × α → Bool) : Rising (t.filter p) :=
  List.Pairwise.sublist (List.Sublist.map _ List.filter_sublist) h

theorem tdel_keys {k : Nat} {t : Tab α} {e : Nat × α} (h : e ∈ tdel k t) : e.1 ≠ k ∧ e ∈ t := by
  simp [tdel] at h
  exact ⟨h.2, h.1⟩

theorem mem_tins {k : Nat} {v : α} {t : Tab α} {e : Nat × α} : e ∈ tins k v t ↔ e = (k, v) ∨ e ∈ t := by
  induction t with
  | nil => simp [tins]
  | cons x r ih =>
    obtain ⟨j, w⟩ := x
    unfold tins
    split
    · simp
    · simp only [List.mem_cons, ih]; tauto

theorem Rising.tins {k : Nat} {v : α} {t : Tab α} (h : Rising t) (hk : ∀ e ∈ t, e.1 ≠ k) : Rising (tins k v t) := by
  induction t with
  | nil => simp [Machine.tins, Rising]
  | cons x r ih =>
    obtain ⟨j, w⟩ := x
    have hr : Rising r := (List.pairwise_cons.mp h).2
    have hj : ∀ a ∈ r.map Prod.fst, j < a := (List.pairwise_cons.mp h).1
    have hjk : j ≠ k := hk (j, w) (by simp)
    unfold Machine.tins
    split
    · rename_i hlt
      refine List.pairwise_cons.mpr ⟨?_, h⟩
      intro a ha
      simp only [List.map_cons, List.mem_cons] at ha
      rcases ha with rfl | ha
      · exact hlt
      · exact lt_trans hlt (hj a ha)
    · rename_i hlt
      refine List.pairwise_cons.mpr ⟨?_, ih hr (fun e he => hk e (by simp [he]))⟩
      intro a ha
      simp only [List.mem_map] at ha
      obtain ⟨e, he, rfl⟩ := ha
      rcases mem_tins.mp he with rfl | he
      · simp only; omega
      · exact hj e.1 (List.mem_map_of_mem he)

theorem Rising.tdel {t : Tab α} (h : Rising t) (k : Nat) : Rising (tdel k t) := h.filter _

theorem Rising.tput {t : Tab α} (h : Rising t) (k : Nat) (v : α) : Rising (tput k v t) :=
  (h.tdel k).tins (fun _ he => (tdel_keys he).1)

theorem Rising.tset [DecidableEq α] {t : Tab α} (h : Rising t) (d : α) (k : Nat) (v : α) : Rising (tset d k v t) := by
  unfold Machine.tset
  split
  · exact h.tdel k
  · exact h.tput k v

/-- A table is canonical: rising keys, no entry equal to its default. -/
def TabOk (d : α) (t : Tab α) : Prop := Rising t ∧ ∀ e ∈ t, e.2 ≠ d

theorem tabWf_iff [DecidableEq α] (d : α) (t : Tab α) : tabWf d t = true ↔ TabOk d t := by
  simp [tabWf, TabOk, Rising]

theorem TabOk.nil (d : α) : TabOk d ([] : Tab α) := ⟨Rising.nil, by simp⟩

theorem TabOk.filter {d : α} {t : Tab α} (h : TabOk d t) (p : Nat × α → Bool) : TabOk d (t.filter p) :=
  ⟨h.1.filter p, fun e he => h.2 e (List.mem_of_mem_filter he)⟩

theorem TabOk.tset [DecidableEq α] {d : α} {t : Tab α} (h : TabOk d t) (k : Nat) (v : α) : TabOk d (tset d k v t) := by
  refine ⟨h.1.tset d k v, ?_⟩
  unfold Machine.tset
  split
  · intro e he
    exact h.2 e (tdel_keys he).2
  · rename_i hv
    intro e he
    rcases mem_tins.mp he with rfl | he
    · exact hv
    · exact h.2 e (tdel_keys he).2

/-! Reads after writes. -/

theorem tget_absent (d : α) {k : Nat} {t : Tab α} (h : ∀ e ∈ t, e.1 ≠ k) : tget d k t = d := by
  induction t with
  | nil => rfl
  | cons x r ih =>
    obtain ⟨j, w⟩ := x
    have : j ≠ k := h (j, w) (by simp)
    simp [tget, this, ih (fun e he => h e (by simp [he]))]

theorem tget_tins_same (d v : α) {k : Nat} {t : Tab α} (h : ∀ e ∈ t, e.1 ≠ k) : tget d k (tins k v t) = v := by
  induction t with
  | nil => simp [tins, tget]
  | cons x r ih =>
    obtain ⟨j, w⟩ := x
    have hj : j ≠ k := h (j, w) (by simp)
    unfold tins
    split
    · simp [tget]
    · simp [tget, hj, ih (fun e he => h e (by simp [he]))]

theorem tget_tins_other (d v : α) {k l : Nat} (h : l ≠ k) (t : Tab α) : tget d l (tins k v t) = tget d l t := by
  induction t with
  | nil => simp [tins, tget, Ne.symm h]
  | cons x r ih =>
    obtain ⟨j, w⟩ := x
    unfold tins
    split
    · simp [tget, Ne.symm h]
    · by_cases hj : j = l
      · simp [tget, hj]
      · simp [tget, hj, ih]

theorem tget_tdel_other (d : α) {k l : Nat} (h : l ≠ k) (t : Tab α) : tget d l (tdel k t) = tget d l t := by
  induction t with
  | nil => rfl
  | cons x r ih =>
    obtain ⟨j, w⟩ := x
    by_cases hk : j = k
    · subst hk
      have : tdel j ((j, w) :: r) = tdel j r := by simp [tdel]
      rw [this, ih]
      simp [tget, Ne.symm h]
    · have : tdel k ((j, w) :: r) = (j, w) :: tdel k r := by simp [tdel, hk]
      rw [this]
      by_cases hj : j = l <;> simp [tget, hj, ih]

theorem tget_tdel_same (d : α) (k : Nat) (t : Tab α) : tget d k (tdel k t) = d :=
  tget_absent d (fun _ he => (tdel_keys he).1)

@[simp] theorem tget_tput_same (d v : α) (k : Nat) (t : Tab α) : tget d k (tput k v t) = v :=
  tget_tins_same d v (fun _ he => (tdel_keys he).1)

theorem tget_tput_other (d v : α) {k l : Nat} (h : l ≠ k) (t : Tab α) : tget d l (tput k v t) = tget d l t := by
  rw [tput, tget_tins_other d v h, tget_tdel_other d h]

/-- The entry just written reads back, listed or not. -/
@[simp] theorem tget_tset_same [DecidableEq α] (d v : α) (k : Nat) (t : Tab α) : tget d k (tset d k v t) = v := by
  unfold tset
  split
  · rename_i h
    rw [tget_tdel_same, h]
  · exact tget_tput_same d v k t

/-- A write leaves every other entry alone, whatever default the other is read with. -/
theorem tget_tset_other [DecidableEq α] (d d' v : α) {k l : Nat} (h : l ≠ k) (t : Tab α) :
    tget d' l (tset d k v t) = tget d' l t := by
  unfold tset
  split
  · exact tget_tdel_other d' h t
  · exact tget_tput_other d' v h t

theorem tfind_tins_same (v : α) {k : Nat} {t : Tab α} (h : ∀ e ∈ t, e.1 ≠ k) : tfind k (tins k v t) = some v := by
  induction t with
  | nil => simp [tins, tfind]
  | cons x r ih =>
    obtain ⟨j, w⟩ := x
    have hj : j ≠ k := h (j, w) (by simp)
    unfold tins
    split
    · simp [tfind]
    · simp [tfind, hj, ih (fun e he => h e (by simp [he]))]

@[simp] theorem tfind_tput_same (v : α) (k : Nat) (t : Tab α) : tfind k (tput k v t) = some v :=
  tfind_tins_same v (fun _ he => (tdel_keys he).1)

theorem tfind_tdel_other {k l : Nat} (h : l ≠ k) (t : Tab α) : tfind l (tdel k t) = tfind l t := by
  induction t with
  | nil => rfl
  | cons x r ih =>
    obtain ⟨j, w⟩ := x
    by_cases hk : j = k
    · subst hk
      have : tdel j ((j, w) :: r) = tdel j r := by simp [tdel]
      rw [this, ih]
      simp [tfind, Ne.symm h]
    · have : tdel k ((j, w) :: r) = (j, w) :: tdel k r := by simp [tdel, hk]
      rw [this]
      by_cases hj : j = l <;> simp [tfind, hj, ih]

theorem tfind_tins_other (v : α) {k l : Nat} (h : l ≠ k) (t : Tab α) : tfind l (tins k v t) = tfind l t := by
  induction t with
  | nil => simp [tins, tfind, Ne.symm h]
  | cons x r ih =>
    obtain ⟨j, w⟩ := x
    unfold tins
    split
    · simp [tfind, Ne.symm h]
    · by_cases hj : j = l
      · simp [tfind, hj]
      · simp [tfind, hj, ih]

theorem tfind_tput_other (v : α) {k l : Nat} (h : l ≠ k) (t : Tab α) : tfind l (tput k v t) = tfind l t := by
  rw [tput, tfind_tins_other v h, tfind_tdel_other h]

theorem tfind_tdel_same (k : Nat) (t : Tab α) : tfind k (tdel k t) = none := by
  induction t with
  | nil => rfl
  | cons x r ih =>
    obtain ⟨j, w⟩ := x
    by_cases hk : j = k
    · subst hk
      have : tdel j ((j, w) :: r) = tdel j r := by simp [tdel]
      rw [this, ih]
    · have : tdel k ((j, w) :: r) = (j, w) :: tdel k r := by simp [tdel, hk]
      rw [this]
      simp [tfind, hk, ih]
end

/-! The sparse bytes. -/

/-- The canonical form of the sparse bytes. -/
def MemOk (m : Mem) : Prop := TabOk (0#8) m

theorem memWf_iff (m : Mem) : memWf m = true ↔ MemOk m := tabWf_iff _ _

theorem MemOk.nil : MemOk [] := TabOk.nil _

theorem MemOk.mset {m : Mem} (h : MemOk m) (a : Nat) (v : Byte) : MemOk (mset a v m) := TabOk.tset h a v

theorem MemOk.mwrite {m : Mem} (h : MemOk m) (a : Nat) (l : List Byte) : MemOk (mwrite a l m) := by
  induction l generalizing a m with
  | nil => exact h
  | cons b r ih => exact ih (h.mset a b) (a + 1)

theorem MemOk.filter {m : Mem} (h : MemOk m) (p : Nat × Byte → Bool) : MemOk (m.filter p) := TabOk.filter h p

theorem MemOk.mclear {m : Mem} (h : MemOk m) (lo len : Nat) : MemOk (mclear lo len m) := h.filter _

@[simp] theorem mget_mset_same (a : Nat) (v : Byte) (m : Mem) : mget a (mset a v m) = v := tget_tset_same _ _ _ _

theorem mget_mset_other {a b : Nat} (h : b ≠ a) (v : Byte) (m : Mem) : mget b (mset a v m) = mget b m :=
  tget_tset_other _ _ _ h m

/-- A store leaves every byte below it alone. -/
theorem mget_mwrite_below (l : List Byte) : ∀ (a b : Nat) (m : Mem), b < a → mget b (mwrite a l m) = mget b m := by
  induction l with
  | nil => intros; rfl
  | cons x r ih =>
    intro a b m h
    rw [mwrite, ih (a + 1) b _ (by omega), mget_mset_other (by omega)]

/-- A store leaves every byte past its end alone. -/
theorem mget_mwrite_above (l : List Byte) : ∀ (a b : Nat) (m : Mem), a + l.length ≤ b → mget b (mwrite a l m) = mget b m := by
  induction l with
  | nil => intros; rfl
  | cons x r ih =>
    intro a b m h
    simp only [List.length_cons] at h
    rw [mwrite, ih (a + 1) b _ (by omega), mget_mset_other (by omega)]

/-- A store's bytes read back. -/
theorem mread_mwrite (l : List Byte) : ∀ (a : Nat) (m : Mem), mread a l.length (mwrite a l m) = l := by
  induction l with
  | nil => intros; rfl
  | cons x r ih =>
    intro a m
    simp only [List.length_cons, mread, mwrite]
    rw [ih (a + 1), mget_mwrite_below r (a + 1) a _ (by omega), mget_mset_same]

/-! Number sets. -/

@[simp] theorem nmem_nins (k j : Nat) (s : NSet) : nmem j (nins k s) = (decide (j = k) || nmem j s) := by
  induction s with
  | nil => simp [nins, nmem]
  | cons x r ih =>
    simp only [nmem, List.contains_eq_mem] at ih ⊢
    unfold nins
    split
    · simp
    · split
      · rename_i h
        subst h
        by_cases hj : j = k <;> simp [hj]
      · simp only [List.mem_cons, Bool.decide_or, ih]
        cases decide (j = x) <;> cases decide (j = k) <;> simp

@[simp] theorem nmem_ndel (k j : Nat) (s : NSet) : nmem j (ndel k s) = (decide (j ≠ k) && nmem j s) := by
  simp only [nmem, ndel, List.contains_eq_mem, List.mem_filter, decide_eq_true_eq]
  by_cases h1 : j = k <;> by_cases h2 : j ∈ s <;> simp [h1, h2]

end Sys2Proof.Machine
end

