-- ==== Sys2Proof/Laws/Keeps.lean ====
section
/-! SUPPORT. What no command does: Keeps s t says of a step from s to t that the queue is untouched, that messages are only
added, that fuses only go forward, that free values are only used up, that the module log keeps its bound and that every
store of bytes keeps its canonical form. Each operation has one lemma that says it keeps all of this. -/

namespace Sys2Proof.Machine

/-- Fuses never go back (R391, R404). -/
structure Fuses.Le (a b : Fuses) : Prop where
  lock : a.dbgLock = b.dbgLock
  kill : a.dbgKill = b.dbgKill
  dflt : a.dfltSouth = b.dfltSouth
  svn : a.minSvn.toNat ≤ b.minSvn.toNat
  revoke : ∀ i, a.kRevoke.getLsbD i = true → b.kRevoke.getLsbD i = true
  count : a.uCount ≤ b.uCount

theorem Fuses.Le.refl (a : Fuses) : Fuses.Le a a := ⟨rfl, rfl, rfl, le_rfl, fun _ h => h, le_rfl⟩

theorem Fuses.Le.refl_id (a : Fuses) : Fuses.Le a (id a) := Fuses.Le.refl a

theorem Fuses.Le.trans {a b c : Fuses} (h : Fuses.Le a b) (g : Fuses.Le b c) : Fuses.Le a c :=
  ⟨h.lock.trans g.lock, h.kill.trans g.kill, h.dflt.trans g.dflt, h.svn.trans g.svn, fun i x => g.revoke i (h.revoke i x),
   h.count.trans g.count⟩

theorem revoke_and (k : BitVec 2) (w : BitVec 4) : w &&& setBit k.toNat true w = w := by
  revert k w
  decide

theorem Fuses.Le.setRevoke (k : BitVec 2) (a : Fuses) : Fuses.Le a { a with kRevoke := setBit k.toNat true a.kRevoke } :=
  ⟨rfl, rfl, rfl, le_rfl, fun i h => by
    have e := congrArg (fun w => w.getLsbD i) (revoke_and k a.kRevoke)
    simp only [BitVec.getLsbD_and, h, Bool.true_and] at e
    exact e, le_rfl⟩

/-- The module log keeps its bound (R374). -/
def Ras.LogOk (a : Ras) : Prop := a.log.length ≤ 65536 ∧ a.logNext < 65536

/-- Every store of bytes is canonical, and the module log within its bound. -/
structure State.Canon (s : State) : Prop where
  mem : MemOk s.tier.mem
  area : MemOk s.tier.area
  esc : MemOk s.tier.esc
  cst : MemOk s.cst.mem
  img : MemOk s.flash.img
  upd : MemOk s.upd.bytes
  log : s.ras.LogOk

/-- What Keeps looks at. -/
structure Obs where
  queue : List Instr
  out : List Msg
  free : Nat
  fuse : Fuses
  mem : Mem
  area : Mem
  esc : Mem
  cst : Mem
  img : Mem
  upd : Mem
  log : List W256
  logNext : Nat

def State.obs (s : State) : Obs :=
  { queue := s.pending, out := s.out, free := s.freeCtr, fuse := s.fuse, mem := s.tier.mem, area := s.tier.area, esc := s.tier.esc
    cst := s.cst.mem, img := s.flash.img, upd := s.upd.bytes, log := s.ras.log, logNext := s.ras.logNext }

/-- Keeps on what it looks at. -/
structure Obs.Keeps (a b : Obs) : Prop where
  queue : b.queue = a.queue
  out : a.out <+: b.out
  free : a.free ≤ b.free
  fuse : Fuses.Le a.fuse b.fuse
  mem : MemOk a.mem → MemOk b.mem
  area : MemOk a.area → MemOk b.area
  esc : MemOk a.esc → MemOk b.esc
  cst : MemOk a.cst → MemOk b.cst
  img : MemOk a.img → MemOk b.img
  upd : MemOk a.upd → MemOk b.upd
  log : (a.log.length ≤ 65536 ∧ a.logNext < 65536) → b.log.length ≤ 65536 ∧ b.logNext < 65536

theorem Obs.Keeps.refl (a : Obs) : Obs.Keeps a a :=
  ⟨rfl, List.prefix_refl _, le_rfl, Fuses.Le.refl _, id, id, id, id, id, id, id⟩

theorem Obs.Keeps.trans {a b c : Obs} (h : Obs.Keeps a b) (g : Obs.Keeps b c) : Obs.Keeps a c :=
  ⟨g.queue.trans h.queue, h.out.trans g.out, h.free.trans g.free, h.fuse.trans g.fuse, fun x => g.mem (h.mem x),
   fun x => g.area (h.area x), fun x => g.esc (h.esc x), fun x => g.cst (h.cst x), fun x => g.img (h.img x),
   fun x => g.upd (h.upd x), fun x => g.log (h.log x)⟩

/-- From s to t the queue is untouched, messages only added, fuses only forward, and every store canonical if it was. -/
def Keeps (s t : State) : Prop := Obs.Keeps s.obs t.obs

theorem Keeps.refl (s : State) : Keeps s s := Obs.Keeps.refl _

theorem Keeps.trans {a b c : State} (h : Keeps a b) (g : Keeps b c) : Keeps a c := Obs.Keeps.trans h g

theorem Keeps.of_obs {s t u : State} (e : u.obs = t.obs) (h : Keeps s t) : Keeps s u := by
  unfold Keeps at *
  rw [e]
  exact h

theorem Keeps.canon {s t : State} (h : Keeps s t) (c : s.Canon) : t.Canon :=
  ⟨h.mem c.mem, h.area c.area, h.esc c.esc, h.cst c.cst, h.img c.img, h.upd c.upd, h.log c.log⟩

/-! Shapes of terms. -/

theorem Keeps.ite {s t u : State} {c : Prop} [Decidable c] (h : Keeps s t) (g : Keeps s u) : Keeps s (if c then t else u) := by
  split <;> assumption

theorem Keeps.forAll {α : Type} {s : State} {f : α → State → State} (hf : ∀ a t, Keeps s t → Keeps s (f a t)) (l : List α) :
    ∀ {t : State}, Keeps s t → Keeps s (forAll l f t) := by
  induction l with
  | nil => intro t h; exact h
  | cons a r ih => intro t h; exact ih (hf a t h)

theorem Keeps.fold2 {α β : Type} {s : State} {f : α × State → β → α × State} (hf : ∀ a b, Keeps s a.2 → Keeps s (f a b).2) (l : List β) :
    ∀ {a : α × State}, Keeps s a.2 → Keeps s (l.foldl f a).2 := by
  induction l with
  | nil => intro a h; exact h
  | cons b r ih => intro a h; exact ih (hf a b h)

theorem Keeps.snd {α : Type} {s t : State} {p : α × State} {a : α} (e : p = (a, t)) (h : Keeps s p.2) : Keeps s t := by
  rw [e] at h
  exact h

theorem Keeps.snd2 {α β : Type} {s t : State} {p : α × β × State} {a : α} {b : β} (e : p = (a, b, t)) (h : Keeps s p.2.2) : Keeps s t := by
  rw [e] at h
  exact h

theorem MemOk.forAll_ {α : Type} {f : α → Mem → Mem} (hf : ∀ a m, MemOk m → MemOk (f a m)) (l : List α) :
    ∀ {m : Mem}, MemOk m → MemOk (forAll l f m) := by
  induction l with
  | nil => intro m h; exact h
  | cons a r ih => intro m h; exact ih (hf a m h)

theorem MemOk.foldl_ {α : Type} {f : Mem → α → Mem} (hf : ∀ m a, MemOk m → MemOk (f m a)) (l : List α) :
    ∀ {m : Mem}, MemOk m → MemOk (l.foldl f m) := by
  induction l with
  | nil => intro m h; exact h
  | cons a r ih => intro m h; exact ih (hf m a h)

/-- What an update of the tier keeps of its bytes. -/
def TierKeeps (a b : Tier) : Prop :=
  (MemOk a.mem → MemOk b.mem) ∧ (MemOk a.area → MemOk b.area) ∧ (MemOk a.esc → MemOk b.esc)

theorem TierKeeps.mk3 {a b : Tier} (h : MemOk a.mem → MemOk b.mem) (g : MemOk a.area → MemOk b.area) (k : MemOk a.esc → MemOk b.esc) :
    TierKeeps a b := ⟨h, g, k⟩

theorem TierKeeps.refl (a : Tier) : TierKeeps a a := ⟨id, id, id⟩

/-- What an update of the reliability state keeps of the module log. -/
def RasKeeps (a b : Ras) : Prop :=
  (a.log.length ≤ 65536 ∧ a.logNext < 65536) → b.log.length ≤ 65536 ∧ b.logNext < 65536

theorem RasKeeps.mk2 {a b : Ras} (h : b.log = a.log) (g : b.logNext = a.logNext) : RasKeeps a b := by
  unfold RasKeeps
  rw [h, g]
  exact id

theorem RasKeeps.refl (a : Ras) : RasKeeps a a := id

/-! Fields that Keeps does not look at. -/

section
variable {s0 t : State}

theorem Keeps.set_clk {v : Clk} (h : Keeps s0 t) : Keeps s0 { t with clk := v } := Keeps.of_obs rfl h
theorem Keeps.set_pins {v : Pins} (h : Keeps s0 t) : Keeps s0 { t with pins := v } := Keeps.of_obs rfl h
theorem Keeps.set_reg {v : Regs} (h : Keeps s0 t) : Keeps s0 { t with reg := v } := Keeps.of_obs rfl h
theorem Keeps.set_north {v : HalfSt} (h : Keeps s0 t) : Keeps s0 { t with north := v } := Keeps.of_obs rfl h
theorem Keeps.set_south {v : HalfSt} (h : Keeps s0 t) : Keeps s0 { t with south := v } := Keeps.of_obs rfl h
theorem Keeps.set_bridge {v : Bridge} (h : Keeps s0 t) : Keeps s0 { t with bridge := v } := Keeps.of_obs rfl h
theorem Keeps.set_ports {v : Tab Port} (h : Keeps s0 t) : Keeps s0 { t with ports := v } := Keeps.of_obs rfl h
theorem Keeps.set_lds {v : Tab Ld} (h : Keeps s0 t) : Keeps s0 { t with lds := v } := Keeps.of_obs rfl h
theorem Keeps.set_tags {v : List Tag} (h : Keeps s0 t) : Keeps s0 { t with tags := v } := Keeps.of_obs rfl h
theorem Keeps.set_quarantine {v : List Tag} (h : Keeps s0 t) : Keeps s0 { t with quarantine := v } := Keeps.of_obs rfl h
theorem Keeps.set_wtt {v : Tab Wtt} (h : Keeps s0 t) : Keeps s0 { t with wtt := v } := Keeps.of_obs rfl h
theorem Keeps.set_wttData {v : Tab W32} (h : Keeps s0 t) : Keeps s0 { t with wttData := v } := Keeps.of_obs rfl h
theorem Keeps.set_flip {v : List NSet} (h : Keeps s0 t) : Keeps s0 { t with flip := v } := Keeps.of_obs rfl h
theorem Keeps.set_alm {v : Alm} (h : Keeps s0 t) : Keeps s0 { t with alm := v } := Keeps.of_obs rfl h
theorem Keeps.set_cmp {v : Cmp} (h : Keeps s0 t) : Keeps s0 { t with cmp := v } := Keeps.of_obs rfl h
theorem Keeps.set_rings {v : Tab Ring} (h : Keeps s0 t) : Keeps s0 { t with rings := v } := Keeps.of_obs rfl h
theorem Keeps.set_eng {v : Tab RingEng} (h : Keeps s0 t) : Keeps s0 { t with eng := v } := Keeps.of_obs rfl h
theorem Keeps.set_ops {v : List Op} (h : Keeps s0 t) : Keeps s0 { t with ops := v } := Keeps.of_obs rfl h
theorem Keeps.set_nextOp {v : Nat} (h : Keeps s0 t) : Keeps s0 { t with nextOp := v } := Keeps.of_obs rfl h
theorem Keeps.set_jobs {v : List Job} (h : Keeps s0 t) : Keeps s0 { t with jobs := v } := Keeps.of_obs rfl h
theorem Keeps.set_grains {v : List Grain} (h : Keeps s0 t) : Keeps s0 { t with grains := v } := Keeps.of_obs rfl h
theorem Keeps.set_nextGrain {v : Nat} (h : Keeps s0 t) : Keeps s0 { t with nextGrain := v } := Keeps.of_obs rfl h
theorem Keeps.set_pslots {v : Tab PSlot} (h : Keeps s0 t) : Keeps s0 { t with pslots := v } := Keeps.of_obs rfl h
theorem Keeps.set_fes {v : Tab Engine} (h : Keeps s0 t) : Keeps s0 { t with fes := v } := Keeps.of_obs rfl h
theorem Keeps.set_tcs {v : Tab UnitCtl} (h : Keeps s0 t) : Keeps s0 { t with tcs := v } := Keeps.of_obs rfl h
theorem Keeps.set_xjobs {v : List XJob} (h : Keeps s0 t) : Keeps s0 { t with xjobs := v } := Keeps.of_obs rfl h
theorem Keeps.set_dups {v : List Dup} (h : Keeps s0 t) : Keeps s0 { t with dups := v } := Keeps.of_obs rfl h
theorem Keeps.set_acc {v : UnitAcc} (h : Keeps s0 t) : Keeps s0 { t with acc := v } := Keeps.of_obs rfl h
theorem Keeps.set_shr {v : Shr} (h : Keeps s0 t) : Keeps s0 { t with shr := v } := Keeps.of_obs rfl h
theorem Keeps.set_hg {v : Tab Hg} (h : Keeps s0 t) : Keeps s0 { t with hg := v } := Keeps.of_obs rfl h
theorem Keeps.set_nextReq {v : Nat} (h : Keeps s0 t) : Keeps s0 { t with nextReq := v } := Keeps.of_obs rfl h
theorem Keeps.set_arb {v : List (Arb × List Item)} (h : Keeps s0 t) : Keeps s0 { t with arb := v } := Keeps.of_obs rfl h
theorem Keeps.set_dmc {v : Dmc} (h : Keeps s0 t) : Keeps s0 { t with dmc := v } := Keeps.of_obs rfl h
theorem Keeps.set_sec {v : Sec} (h : Keeps s0 t) : Keeps s0 { t with sec := v } := Keeps.of_obs rfl h
theorem Keeps.set_pwm {v : Pwm} (h : Keeps s0 t) : Keeps s0 { t with pwm := v } := Keeps.of_obs rfl h
theorem Keeps.set_mgmt {v : Mgmt} (h : Keeps s0 t) : Keeps s0 { t with mgmt := v } := Keeps.of_obs rfl h
theorem Keeps.set_ops_nextOp {v : List Op} {w : Nat} (h : Keeps s0 t) : Keeps s0 { t with ops := v, nextOp := w } := Keeps.of_obs rfl h
theorem Keeps.set_dups_fes_xjobs {u : List Dup} {v : Tab Engine} {w : List XJob} (h : Keeps s0 t) :
    Keeps s0 { t with dups := u, fes := v, xjobs := w } := Keeps.of_obs rfl h
theorem Keeps.set_acc_bridge {v : UnitAcc} {w : Bridge} (h : Keeps s0 t) : Keeps s0 { t with acc := v, bridge := w } :=
  Keeps.of_obs rfl h
theorem Keeps.set_tags_quarantine {v : List Tag} {w : List Tag} (h : Keeps s0 t) : Keeps s0 { t with tags := v, quarantine := w } := Keeps.of_obs rfl h
theorem Keeps.set_grains_nextGrain {v : List Grain} {w : Nat} (h : Keeps s0 t) : Keeps s0 { t with grains := v, nextGrain := w } := Keeps.of_obs rfl h
theorem Keeps.set_pins_bridge {v : Pins} {w : Bridge} (h : Keeps s0 t) : Keeps s0 { t with pins := v, bridge := w } := Keeps.of_obs rfl h
theorem Keeps.set_tags_quarantine_bridge {v w : List Tag} {b : Bridge} (h : Keeps s0 t) :
    Keeps s0 { t with tags := v, quarantine := w, bridge := b } := Keeps.of_obs rfl h
theorem Keeps.set_flash {v : Flash} (hv : MemOk t.flash.img → MemOk v.img) (h : Keeps s0 t) : Keeps s0 { t with flash := v } :=
  ⟨h.queue, h.out, h.free, h.fuse, h.mem, h.area, h.esc, h.cst, fun x => hv (h.img x), h.upd, h.log⟩
theorem Keeps.set_fuse {v : Fuses} (hv : Fuses.Le t.fuse v) (h : Keeps s0 t) : Keeps s0 { t with fuse := v } :=
  ⟨h.queue, h.out, h.free, h.fuse.trans hv, h.mem, h.area, h.esc, h.cst, h.img, h.upd, h.log⟩
theorem Keeps.set_freeCtr {n : Nat} (h : Keeps s0 t) : Keeps s0 { t with freeCtr := t.freeCtr + n } :=
  ⟨h.queue, h.out, Nat.le_trans h.free (Nat.le_add_right _ _), h.fuse, h.mem, h.area, h.esc, h.cst, h.img, h.upd, h.log⟩

end

end Sys2Proof.Machine
end

