-- ==== Sys2Proof/Laws/KeepsBase.lean ====
section
/-! SUPPORT. What each operation and each row keeps: shared operations, tiers, channels and stored lines. -/

namespace Sys2Proof.Machine

set_option linter.unusedTactic false
set_option linter.unreachableTactic false
set_option linter.unusedVariables false

open Host (Outcome)

/-! Machine/Ops.lean. -/

theorem State.tickFree_keeps {s0 : State}  {s : State} (hK : Keeps s0 s) :
    Keeps s0 (State.tickFree s) :=
  ⟨hK.queue, hK.out, Nat.le_succ_of_le hK.free, hK.fuse, hK.mem, hK.area, hK.esc, hK.cst, hK.img, hK.upd, hK.log⟩

theorem State.emit_keeps {s0 : State} (m : Msg) {s : State} (hK : Keeps s0 s) :
    Keeps s0 (State.emit m s) :=
  ⟨hK.queue, hK.out.trans (List.prefix_append _ _), hK.free, hK.fuse, hK.mem, hK.area, hK.esc, hK.cst, hK.img, hK.upd, hK.log⟩

theorem State.setPort_keeps {s0 : State} (p : Nat) (v : Port) {s : State} (hK : Keeps s0 s) :
    Keeps s0 (State.setPort p v s) := Keeps.of_obs rfl hK

theorem State.modPort_keeps {s0 : State} (p : Nat) (f : Port → Port) {s : State} (hK : Keeps s0 s) :
    Keeps s0 (State.modPort p f s) := Keeps.of_obs rfl hK

theorem State.setLd_keeps {s0 : State} (t : Nat) (v : Ld) {s : State} (hK : Keeps s0 s) :
    Keeps s0 (State.setLd t v s) := Keeps.of_obs rfl hK

theorem State.modLd_keeps {s0 : State} (t : Nat) (f : Ld → Ld) {s : State} (hK : Keeps s0 s) :
    Keeps s0 (State.modLd t f s) := Keeps.of_obs rfl hK

theorem State.setWtt_keeps {s0 : State} (t : Nat) (v : Wtt) {s : State} (hK : Keeps s0 s) :
    Keeps s0 (State.setWtt t v s) := Keeps.of_obs rfl hK

theorem State.modWtt_keeps {s0 : State} (t : Nat) (f : Wtt → Wtt) {s : State} (hK : Keeps s0 s) :
    Keeps s0 (State.modWtt t f s) := Keeps.of_obs rfl hK

theorem State.setPlot_keeps {s0 : State} (p : Nat) (v : Plot) {s : State} (hK : Keeps s0 s) :
    Keeps s0 (State.setPlot p v s) := Keeps.of_obs rfl hK

theorem State.delPlot_keeps {s0 : State} (p : Nat) {s : State} (hK : Keeps s0 s) :
    Keeps s0 (State.delPlot p s) := Keeps.of_obs rfl hK

theorem State.modPlot_keeps {s0 : State} (p : Nat) (f : Plot → Plot) {s : State} (hK : Keeps s0 s) :
    Keeps s0 (State.modPlot p f s) := by
  unfold State.modPlot
  split
  · exact State.setPlot_keeps _ _ hK
  · exact hK

theorem State.modTier_keeps {s0 : State} (f : Tier → Tier) {s : State} (hf : ∀ x, TierKeeps x (f x)) (hK : Keeps s0 s) :
    Keeps s0 (State.modTier f s) :=
  ⟨hK.queue, hK.out, hK.free, hK.fuse, fun x => (hf _).1 (hK.mem x), fun x => (hf _).2.1 (hK.area x), fun x => (hf _).2.2 (hK.esc x), hK.cst, hK.img,
   hK.upd, hK.log⟩

theorem State.modShr_keeps {s0 : State} (f : Shr → Shr) {s : State} (hK : Keeps s0 s) :
    Keeps s0 (State.modShr f s) := Keeps.of_obs rfl hK

theorem State.modDmc_keeps {s0 : State} (f : Dmc → Dmc) {s : State} (hK : Keeps s0 s) :
    Keeps s0 (State.modDmc f s) := Keeps.of_obs rfl hK

theorem State.modCst_keeps {s0 : State} (f : Cst → Cst) {s : State} (hf : ∀ x, MemOk x.mem → MemOk (f x).mem) (hK : Keeps s0 s) :
    Keeps s0 (State.modCst f s) :=
  ⟨hK.queue, hK.out, hK.free, hK.fuse, hK.mem, hK.area, hK.esc, fun x => hf _ (hK.cst x), hK.img, hK.upd, hK.log⟩

theorem State.modRas_keeps {s0 : State} (f : Ras → Ras) {s : State} (hf : ∀ x, RasKeeps x (f x)) (hK : Keeps s0 s) :
    Keeps s0 (State.modRas f s) :=
  ⟨hK.queue, hK.out, hK.free, hK.fuse, hK.mem, hK.area, hK.esc, hK.cst, hK.img, hK.upd, fun x => hf _ (hK.log x)⟩

theorem State.modSec_keeps {s0 : State} (f : Sec → Sec) {s : State} (hK : Keeps s0 s) :
    Keeps s0 (State.modSec f s) := Keeps.of_obs rfl hK

theorem State.modUpd_keeps {s0 : State} (f : Upd → Upd) {s : State} (hf : ∀ x, MemOk x.bytes → MemOk (f x).bytes) (hK : Keeps s0 s) :
    Keeps s0 (State.modUpd f s) :=
  ⟨hK.queue, hK.out, hK.free, hK.fuse, hK.mem, hK.area, hK.esc, hK.cst, hK.img, fun x => hf _ (hK.upd x), hK.log⟩

theorem State.modPwm_keeps {s0 : State} (f : Pwm → Pwm) {s : State} (hK : Keeps s0 s) :
    Keeps s0 (State.modPwm f s) := Keeps.of_obs rfl hK

theorem State.modMgmt_keeps {s0 : State} (f : Mgmt → Mgmt) {s : State} (hK : Keeps s0 s) :
    Keeps s0 (State.modMgmt f s) := Keeps.of_obs rfl hK

theorem State.modCmp_keeps {s0 : State} (f : Cmp → Cmp) {s : State} (hK : Keeps s0 s) :
    Keeps s0 (State.modCmp f s) := Keeps.of_obs rfl hK

theorem State.modAlm_keeps {s0 : State} (f : Alm → Alm) {s : State} (hK : Keeps s0 s) :
    Keeps s0 (State.modAlm f s) := Keeps.of_obs rfl hK

theorem State.setRing_keeps {s0 : State} (t r : Nat) (v : Ring) {s : State} (hK : Keeps s0 s) :
    Keeps s0 (State.setRing t r v s) := Keeps.of_obs rfl hK

theorem State.modRing_keeps {s0 : State} (t r : Nat) (f : Ring → Ring) {s : State} (hK : Keeps s0 s) :
    Keeps s0 (State.modRing t r f s) := Keeps.of_obs rfl hK

theorem State.setEng_keeps {s0 : State} (t : Nat) (v : RingEng) {s : State} (hK : Keeps s0 s) :
    Keeps s0 (State.setEng t v s) := Keeps.of_obs rfl hK

theorem State.modEng_keeps {s0 : State} (t : Nat) (f : RingEng → RingEng) {s : State} (hK : Keeps s0 s) :
    Keeps s0 (State.modEng t f s) := Keeps.of_obs rfl hK

theorem State.setFe_keeps {s0 : State} (n : Nat) (v : Engine) {s : State} (hK : Keeps s0 s) :
    Keeps s0 (State.setFe n v s) := Keeps.of_obs rfl hK

theorem State.modFe_keeps {s0 : State} (n : Nat) (f : Engine → Engine) {s : State} (hK : Keeps s0 s) :
    Keeps s0 (State.modFe n f s) := Keeps.of_obs rfl hK

theorem State.setTc_keeps {s0 : State} (n : Nat) (v : UnitCtl) {s : State} (hK : Keeps s0 s) :
    Keeps s0 (State.setTc n v s) := Keeps.of_obs rfl hK

theorem State.modTc_keeps {s0 : State} (n : Nat) (f : UnitCtl → UnitCtl) {s : State} (hK : Keeps s0 s) :
    Keeps s0 (State.modTc n f s) := Keeps.of_obs rfl hK

theorem State.setHg_keeps {s0 : State} (t : Nat) (v : Hg) {s : State} (hK : Keeps s0 s) :
    Keeps s0 (State.setHg t v s) := Keeps.of_obs rfl hK

theorem State.modHg_keeps {s0 : State} (t : Nat) (f : Hg → Hg) {s : State} (hK : Keeps s0 s) :
    Keeps s0 (State.modHg t f s) := Keeps.of_obs rfl hK

theorem State.setTslot_keeps {s0 : State} (n : Nat) (v : TSlot) {s : State} (hK : Keeps s0 s) :
    Keeps s0 (State.setTslot n v s) := Keeps.of_obs rfl hK

theorem State.setPslot_keeps {s0 : State} (n : Nat) (v : PSlot) {s : State} (hK : Keeps s0 s) :
    Keeps s0 (State.setPslot n v s) := Keeps.of_obs rfl hK

theorem State.modPslot_keeps {s0 : State} (n : Nat) (f : PSlot → PSlot) {s : State} (hK : Keeps s0 s) :
    Keeps s0 (State.modPslot n f s) := Keeps.of_obs rfl hK

theorem State.setRegion_keeps {s0 : State} (n : Nat) (v : Region) {s : State} (hK : Keeps s0 s) :
    Keeps s0 (State.setRegion n v s) := Keeps.of_obs rfl hK

theorem State.modRegion_keeps {s0 : State} (n : Nat) (f : Region → Region) {s : State} (hK : Keeps s0 s) :
    Keeps s0 (State.modRegion n f s) := Keeps.of_obs rfl hK

theorem State.setChan_keeps {s0 : State} (n : Nat) (v : Chan) {s : State} (hK : Keeps s0 s) :
    Keeps s0 (State.setChan n v s) := Keeps.of_obs rfl hK

theorem State.modChan_keeps {s0 : State} (n : Nat) (f : Chan → Chan) {s : State} (hK : Keeps s0 s) :
    Keeps s0 (State.modChan n f s) := Keeps.of_obs rfl hK

theorem State.setRank_keeps {s0 : State} (n : Nat) (v : Rank) {s : State} (hK : Keeps s0 s) :
    Keeps s0 (State.setRank n v s) := Keeps.of_obs rfl hK

theorem State.modRank_keeps {s0 : State} (n : Nat) (f : Rank → Rank) {s : State} (hK : Keeps s0 s) :
    Keeps s0 (State.modRank n f s) := Keeps.of_obs rfl hK

theorem State.setKey_keeps {s0 : State} (n : Nat) (v : Key) {s : State} (hK : Keeps s0 s) :
    Keeps s0 (State.setKey n v s) := Keeps.of_obs rfl hK

theorem State.modKey_keeps {s0 : State} (n : Nat) (f : Key → Key) {s : State} (hK : Keeps s0 s) :
    Keeps s0 (State.modKey n f s) := Keeps.of_obs rfl hK

theorem State.setHalf_keeps {s0 : State} (x : Half) (v : HalfSt) {s : State} (hK : Keeps s0 s) : Keeps s0 (State.setHalf x v s) := by
  cases x <;> exact Keeps.of_obs rfl hK

theorem State.modHalf_keeps {s0 : State} (x : Half) (f : HalfSt → HalfSt) {s : State} (hK : Keeps s0 s) : Keeps s0 (State.modHalf x f s) :=
  State.setHalf_keeps x _ hK

theorem State.modOp_keeps {s0 : State} (id : Nat) (f : Op → Op) {s : State} (hK : Keeps s0 s) :
    Keeps s0 (State.modOp id f s) := Keeps.of_obs rfl hK

theorem State.modJob_keeps {s0 : State} (id : Nat) (f : Job → Job) {s : State} (hK : Keeps s0 s) :
    Keeps s0 (State.modJob id f s) := Keeps.of_obs rfl hK

theorem State.modGrain_keeps {s0 : State} (id : Nat) (f : Grain → Grain) {s : State} (hK : Keeps s0 s) :
    Keeps s0 (State.modGrain id f s) := Keeps.of_obs rfl hK

theorem State.modXjob_keeps {s0 : State} (op : Nat) (f : XJob → XJob) {s : State} (hK : Keeps s0 s) :
    Keeps s0 (State.modXjob op f s) := Keeps.of_obs rfl hK

theorem State.setCal_keeps {s0 : State} (c : Nat) (v : Cal) {s : State} (hK : Keeps s0 s) :
    Keeps s0 (State.setCal c v s) := Keeps.of_obs rfl hK

theorem State.delCal_keeps {s0 : State} (c : Nat) {s : State} (hK : Keeps s0 s) :
    Keeps s0 (State.delCal c s) := Keeps.of_obs rfl hK

/-! Machine/Operands.lean. -/

theorem State.setBar_keeps {s0 : State} (t off : Nat) (v : W32) {s : State} (hK : Keeps s0 s) :
    Keeps s0 (State.setBar t off v s) := by
  unfold State.setBar
  with_reducible repeat' first
    | assumption | intro _ | (fail_if_no_progress apply Keeps.set_reg) | dsimp only | split

theorem State.modBar_keeps {s0 : State} (t off : Nat) (f : W32 → W32) {s : State} (hK : Keeps s0 s) :
    Keeps s0 (State.modBar t off f s) := by
  unfold State.modBar
  with_reducible repeat' first
    | assumption | intro _ | apply State.setBar_keeps | dsimp only | split

theorem State.setStw_keeps {s0 : State} (off : Nat) (v : W32) {s : State} (hK : Keeps s0 s) :
    Keeps s0 (State.setStw off v s) := by
  unfold State.setStw
  with_reducible repeat' first
    | assumption | intro _ | (fail_if_no_progress apply Keeps.set_reg) | dsimp only | split

theorem State.modStw_keeps {s0 : State} (off : Nat) (f : W32 → W32) {s : State} (hK : Keeps s0 s) :
    Keeps s0 (State.modStw off f s) := by
  unfold State.modStw
  with_reducible repeat' first
    | assumption | intro _ | apply State.setStw_keeps | dsimp only | split

theorem State.cntBar_keeps {s0 : State} (t off hi lo n : Nat) {s : State} (hK : Keeps s0 s) :
    Keeps s0 (State.cntBar t off hi lo n s) := by
  unfold State.cntBar
  with_reducible repeat' first
    | assumption | intro _ | apply State.modBar_keeps | dsimp only | split

theorem State.cntStw_keeps {s0 : State} (off hi lo n : Nat) {s : State} (hK : Keeps s0 s) :
    Keeps s0 (State.cntStw off hi lo n s) := by
  unfold State.cntStw
  with_reducible repeat' first
    | assumption | intro _ | apply State.modStw_keeps | dsimp only | split

theorem State.clearBar_keeps {s0 : State} (t : Nat) (keepFlr : Bool) {s : State} (hK : Keeps s0 s) :
    Keeps s0 (State.clearBar t keepFlr s) := by
  unfold State.clearBar
  with_reducible repeat' first
    | assumption | intro _ | (fail_if_no_progress apply Keeps.set_reg) | dsimp only | split

/-! Machine/Flags.lean. -/

theorem State.sendMsix_keeps {s0 : State} (t v : Nat) {s : State} (hK : Keeps s0 s) :
    Keeps s0 (State.sendMsix t v s) := by
  unfold State.sendMsix
  with_reducible repeat' first
    | assumption | intro _ | apply Keeps.ite | apply State.modEng_keeps | apply State.emit_keeps | dsimp only | split

theorem State.issueWant_keeps {s0 : State} (t : Nat) (w : Want) {s : State} (hK : Keeps s0 s) :
    Keeps s0 (State.issueWant t w s) := by
  unfold State.issueWant
  with_reducible repeat' first
    | assumption | intro _ | apply State.emit_keeps | apply State.sendMsix_keeps | (fail_if_no_progress apply Keeps.set_tags)
    | dsimp only | split

theorem State.request_keeps {s0 : State} (t : Nat) (w : Want) {s : State} (hK : Keeps s0 s) :
    Keeps s0 (State.request t w s) := by
  unfold State.request
  with_reducible repeat' first
    | assumption | intro _ | apply Keeps.ite | apply State.issueWant_keeps | apply State.modLd_keeps | dsimp only | split

theorem State.dmaRead_keeps {s0 : State} (t : Nat) (use : DmaUse) (addr : W64) (len : Nat) {s : State} (hK : Keeps s0 s) :
    Keeps s0 (State.dmaRead t use addr len s) := by
  unfold State.dmaRead
  with_reducible repeat' first
    | assumption | intro _ | apply State.request_keeps | apply State.tickFree_keeps | dsimp only | split

theorem State.raiseMsix_keeps {s0 : State} (t v : Nat) {s : State} (hK : Keeps s0 s) :
    Keeps s0 (State.raiseMsix t v s) := by
  unfold State.raiseMsix
  with_reducible repeat' first
    | assumption | intro _ | apply Keeps.ite | apply State.request_keeps | apply State.setLd_keeps | dsimp only | split

theorem State.flushMsix_keeps {s0 : State} (t : Nat) {s : State} (hK : Keeps s0 s) :
    Keeps s0 (State.flushMsix t s) := by
  unfold State.flushMsix
  with_reducible repeat' first
    | assumption | intro _ | apply Keeps.ite | apply Keeps.forAll | apply State.modLd_keeps | apply State.request_keeps
    | dsimp only | split

theorem State.tenantLog_keeps {s0 : State} (t sev : Nat) (r : W256) {s : State} (hK : Keeps s0 s) :
    Keeps s0 (State.tenantLog t sev r s) := by
  unfold State.tenantLog
  with_reducible repeat' first
    | assumption | intro _ | apply Keeps.ite | apply State.setLd_keeps | apply State.raiseMsix_keeps | dsimp only | split

theorem State.fmLog_keeps {s0 : State} (p sev : Nat) (r : W256) {s : State} (hK : Keeps s0 s) :
    Keeps s0 (State.fmLog p sev r s) := by
  unfold State.fmLog
  with_reducible repeat' first
    | assumption | intro _ | (fail_if_no_progress apply Keeps.set_mgmt) | dsimp only | split

theorem State.fmLogAll_keeps {s0 : State} (sev : Nat) (r : W256) {s : State} (hK : Keeps s0 s) :
    Keeps s0 (State.fmLogAll sev r s) := by
  unfold State.fmLogAll
  with_reducible repeat' first
    | assumption | intro _ | apply Keeps.forAll | apply State.fmLog_keeps | dsimp only | split

theorem State.moduleLog_keeps {s0 : State} (r : W256) {s : State} (h : Keeps s0 s) : Keeps s0 (s.moduleLog r) := by
  refine State.modRas_keeps _ (fun x hx => ?_) h
  have h1 : (if x.log.length < 65536 then x.log ++ [r] else x.log.set x.logNext r).length ≤ 65536 := by
    split
    · rw [List.length_append, List.length_singleton]; omega
    · rw [List.length_set]; exact hx.1
  dsimp only
  split
  · exact ⟨h1, Nat.zero_lt_succ _⟩
  · exact ⟨h1, by dsimp only; omega⟩

theorem State.alert_keeps {s0 : State} (b : Nat) {s : State} (hK : Keeps s0 s) :
    Keeps s0 (State.alert b s) := by
  unfold State.alert
  with_reducible repeat' first
    | assumption | intro _ | apply State.modStw_keeps | dsimp only | split

theorem State.logRec_keeps {s0 : State} (r : Rec) {s : State} (hK : Keeps s0 s) :
    Keeps s0 (State.logRec r s) := by
  unfold State.logRec
  with_reducible repeat' first
    | assumption | intro _ | apply Keeps.ite | apply State.moduleLog_keeps | apply State.alert_keeps
    | apply State.tenantLog_keeps | dsimp only | split

theorem State.fmStd_keeps {s0 : State} (kind sev : Nat) (r : Rec) {s : State} (hK : Keeps s0 s) :
    Keeps s0 (State.fmStd kind sev r s) := by
  unfold State.fmStd
  with_reducible repeat' first
    | assumption | intro _ | apply State.fmLogAll_keeps | dsimp only | split

theorem State.fmHealth_keeps {s0 : State} (r : Rec) {s : State} (hK : Keeps s0 s) :
    Keeps s0 (State.fmHealth r s) := by
  unfold State.fmHealth
  with_reducible repeat' first
    | assumption | intro _ | apply State.fmStd_keeps | dsimp only | split

/-! Machine/Weir.lean. -/

theorem State.shadowAdmit_keeps {s0 : State} (h : Half) {s : State} (hK : Keeps s0 s) :
    Keeps s0 (State.shadowAdmit h s) := by
  unfold State.shadowAdmit
  with_reducible repeat' first
    | assumption | intro _ | apply State.cntStw_keeps | dsimp only | split

theorem State.heldMark_keeps {s0 : State} (t c n : Nat) {s : State} (hK : Keeps s0 s) :
    Keeps s0 (State.heldMark t c n s) := by
  unfold State.heldMark
  with_reducible repeat' first
    | assumption | intro _ | apply Keeps.ite | apply State.cntBar_keeps | apply State.modHg_keeps | dsimp only | split

theorem State.weirAdmit_keeps {s0 : State} (t c units : Nat) {s : State} (hK : Keeps s0 s) :
    Keeps s0 (State.weirAdmit t c units s).2 := by
  unfold State.weirAdmit
  with_reducible repeat' first
    | assumption | intro _ | apply State.modHg_keeps | apply State.heldMark_keeps | dsimp only | split

theorem State.unitAdmit_keeps {s0 : State} (w : Reader) (t c units : Nat) {s : State} (hK : Keeps s0 s) :
    Keeps s0 (State.unitAdmit w t c units s).2 := by
  unfold State.unitAdmit
  with_reducible repeat' first
    | assumption | intro _ | apply State.modHg_keeps | (fail_if_no_progress apply Keeps.set_acc) | dsimp only | split

theorem State.unitShadow_keeps {s0 : State} (w : Reader) (h : Half) {s : State} (hK : Keeps s0 s) :
    Keeps s0 (State.unitShadow w h s) := by
  unfold State.unitShadow
  with_reducible repeat' first
    | assumption | intro _ | apply Keeps.ite | apply State.shadowAdmit_keeps | (fail_if_no_progress apply Keeps.set_acc)
    | dsimp only | split

theorem State.unitEnds_keeps {s0 : State} (t c : Nat) {s : State} (hK : Keeps s0 s) :
    Keeps s0 (State.unitEnds t c s) := by
  unfold State.unitEnds
  with_reducible repeat' first
    | assumption | intro _ | apply State.heldMark_keeps | (fail_if_no_progress apply Keeps.set_acc) | dsimp only | split

theorem State.unitWaits_keeps {s0 : State} (w : Reader) (t c : Nat) (s' : State) {s : State} (hK : Keeps s0 s) :
    Keeps s0 (State.unitWaits w t c s' s) := by
  unfold State.unitWaits
  with_reducible repeat' first
    | assumption | intro _ | apply Keeps.ite | apply State.modHg_keeps | apply State.heldMark_keeps
    | (fail_if_no_progress apply Keeps.set_acc) | dsimp only | split

theorem State.unitHeld_keeps {s0 : State} (w : Reader) (t c : Nat) {s : State} (hK : Keeps s0 s) :
    Keeps s0 (State.unitHeld w t c s) := by
  unfold State.unitHeld
  with_reducible repeat' first
    | assumption | intro _ | apply Keeps.ite | apply State.heldMark_keeps | (fail_if_no_progress apply Keeps.set_acc)
    | dsimp only | split

theorem State.latency_keeps {s0 : State} (t c stamp : Nat) {s : State} (hK : Keeps s0 s) :
    Keeps s0 (State.latency t c stamp s) := by
  unfold State.latency
  with_reducible repeat' first
    | assumption | intro _ | apply Keeps.ite | apply State.modBar_keeps | apply State.cntBar_keeps | apply State.modHg_keeps
    | dsimp only | split

/-! Machine/Places.lean. -/

theorem State.farFetch_keeps {s0 : State} (who : Reader) (key : Nat) (lender : Nat) (addr : W64) (len : Nat) {s : State} (hK : Keeps s0 s) :
    Keeps s0 (State.farFetch who key lender addr len s) := by
  unfold State.farFetch
  with_reducible repeat' first
    | assumption | intro _ | apply State.modTier_keeps | apply State.dmaRead_keeps | dsimp only | split | apply TierKeeps.mk3

theorem State.farArrive_keeps {s0 : State} (no : Nat) (r : Status × List Byte) {s : State} (hK : Keeps s0 s) :
    Keeps s0 (State.farArrive no r s) := by
  unfold State.farArrive
  with_reducible repeat' first
    | assumption | intro _ | apply State.modTier_keeps | dsimp only | split | apply TierKeeps.mk3

theorem State.farDrop_keeps {s0 : State} (who : Reader) {s : State} (hK : Keeps s0 s) :
    Keeps s0 (State.farDrop who s) := by
  unfold State.farDrop
  with_reducible repeat' first
    | assumption | intro _ | apply State.modTier_keeps | (fail_if_no_progress apply Keeps.set_acc_bridge) | dsimp only | split
    | apply TierKeeps.mk3

/-! Machine/Channels.lean. -/

theorem State.refreshOwed_keeps {s0 : State} (ch bank : Nat) {s : State} (hK : Keeps s0 s) :
    Keeps s0 (State.refreshOwed ch bank s) := by
  unfold State.refreshOwed
  with_reducible repeat' first
    | assumption | intro _ | apply State.modChan_keeps | dsimp only | split

theorem State.touchRow_keeps {s0 : State} (urgent : Bool) (d : DLoc) {s : State} (hK : Keeps s0 s) :
    Keeps s0 (State.touchRow urgent d s) := by
  unfold State.touchRow
  with_reducible repeat' first
    | assumption | intro _ | apply Keeps.ite | apply State.refreshOwed_keeps | apply State.modChan_keeps | dsimp only | split

theorem State.queueWrite_keeps {s0 : State} (d : DLoc) {s : State} (hK : Keeps s0 s) :
    Keeps s0 (State.queueWrite d s) := by
  unfold State.queueWrite
  with_reducible repeat' first
    | assumption | intro _ | apply State.modChan_keeps | apply State.modDmc_keeps | apply State.touchRow_keeps | dsimp only
    | split

theorem State.correctedRead_keeps {s0 : State} (d : DLoc) (loc : Nat) {s : State} (hK : Keeps s0 s) :
    Keeps s0 (State.correctedRead d loc s) := by
  unfold State.correctedRead
  with_reducible repeat' first
    | assumption | intro _ | apply Keeps.ite | apply State.cntStw_keeps | apply State.modChan_keeps | apply State.setRank_keeps
    | apply State.logRec_keeps | apply State.fmStd_keeps | dsimp only | split

theorem State.uncorrectedRead_keeps {s0 : State} (d : DLoc) {s : State} (hK : Keeps s0 s) :
    Keeps s0 (State.uncorrectedRead d s) := by
  unfold State.uncorrectedRead
  with_reducible repeat' first
    | assumption | intro _ | apply Keeps.ite | apply State.cntStw_keeps | apply State.modRank_keeps | dsimp only | split

theorem State.mediaFind_keeps {s0 : State} (d : DLoc) (md : Media) {s : State} (hK : Keeps s0 s) :
    Keeps s0 (State.mediaFind d md s) := by
  unfold State.mediaFind
  with_reducible repeat' first
    | assumption | intro _ | apply State.modDmc_keeps | dsimp only | split

theorem State.mediaFresh_keeps {s0 : State} (d : DLoc) {s : State} (hK : Keeps s0 s) :
    Keeps s0 (State.mediaFresh d s) := by
  unfold State.mediaFresh
  with_reducible repeat' first
    | assumption | intro _ | apply State.modDmc_keeps | dsimp only | split

theorem State.mediaRead_keeps {s0 : State} (d : DLoc) (ua : Nat) (tenant : Option Nat) (host poisoned : Bool) {s : State} (hK : Keeps s0 s) :
    Keeps s0 (State.mediaRead d ua tenant host poisoned s).2 := by
  unfold State.mediaRead
  with_reducible repeat' first
    | assumption | intro _ | apply Keeps.ite | apply State.correctedRead_keeps | apply State.uncorrectedRead_keeps
    | apply State.logRec_keeps | apply State.tenantLog_keeps | dsimp only | split

theorem State.moveReads_keeps {s0 : State} (p : Nat) (e : Plot) (j : Nat) (bad : List Nat) (of_ : DLoc → Bool) {s : State} (hK : Keeps s0 s) :
    Keeps s0 (State.moveReads p e j bad of_ s).2 := by
  unfold State.moveReads
  with_reducible repeat' first
    | assumption | intro _ | apply Keeps.fold2 | apply State.mediaFind_keeps | apply State.uncorrectedRead_keeps
    | apply State.correctedRead_keeps | dsimp only | split

theorem State.moveWrites_keeps {s0 : State} (p : Nat) (e : Plot) (j : Nat) {s : State} (hK : Keeps s0 s) :
    Keeps s0 (State.moveWrites p e j s) := by
  unfold State.moveWrites
  with_reducible repeat' first
    | assumption | intro _ | apply Keeps.forAll | apply State.mediaFresh_keeps | dsimp only | split

/-! Machine/Tiers.lean. -/

theorem State.modCursor_keeps {s0 : State} (cal cur : Nat) (f : Cursor → Cursor) {s : State} (hK : Keeps s0 s) :
    Keeps s0 (State.modCursor cal cur f s) := by
  unfold State.modCursor
  with_reducible repeat' first
    | assumption | intro _ | apply State.setCal_keeps | dsimp only | split

theorem State.firingDone_keeps {s0 : State} (cal cur : Nat) (tr : Track) {s : State} (hK : Keeps s0 s) :
    Keeps s0 (State.firingDone cal cur tr s) := by
  unfold State.firingDone
  with_reducible repeat' first
    | assumption | intro _ | apply Keeps.ite | apply State.modCursor_keeps | apply State.logRec_keeps | dsimp only | split

theorem State.trackSettle_keeps {s0 : State} (cal cur p : Nat) (copied staged : Nat → Bool) {s : State} (hK : Keeps s0 s) :
    Keeps s0 (State.trackSettle cal cur p copied staged s) := by
  unfold State.trackSettle
  with_reducible repeat' first
    | assumption | intro _ | apply Keeps.forAll | apply State.modCursor_keeps | apply State.firingDone_keeps | dsimp only
    | split

theorem State.settle_keeps {s0 : State} (p : Nat) {s : State} (hK : Keeps s0 s) :
    Keeps s0 (State.settle p s) := by
  unfold State.settle
  with_reducible repeat' first
    | assumption | intro _ | apply Keeps.forAll | apply State.trackSettle_keeps | (fail_if_no_progress apply Keeps.set_ops)
    | dsimp only | split

theorem State.refuseFiring_keeps {s0 : State} (cal cur f : Nat) {s : State} (hK : Keeps s0 s) :
    Keeps s0 (State.refuseFiring cal cur f s) := by
  unfold State.refuseFiring
  with_reducible repeat' first
    | assumption | intro _ | apply Keeps.ite | apply State.modAlm_keeps | apply State.modCursor_keeps | dsimp only | split

theorem State.refuseClaim_keeps {s0 : State} (p t : Nat) (c : ClaimCause) {s : State} (hK : Keeps s0 s) :
    Keeps s0 (State.refuseClaim p t c s) := by
  unfold State.refuseClaim
  with_reducible repeat' first
    | assumption | intro _ | apply State.cntBar_keeps | apply State.modOp_keeps | apply State.settle_keeps
    | apply State.refuseFiring_keeps | dsimp only | split

theorem State.admitCopy_keeps {s0 : State} (p : Nat) {s : State} (hK : Keeps s0 s) :
    Keeps s0 (State.admitCopy p s) := by
  unfold State.admitCopy
  with_reducible repeat' first
    | assumption | intro _ | apply Keeps.ite | apply State.setPlot_keeps | apply State.shadowAdmit_keeps
    | apply State.weirAdmit_keeps | apply State.modPlot_keeps | dsimp only | split | (refine Keeps.snd (by assumption) ?_)

theorem State.readNext_keeps {s0 : State} (p : Nat) {s : State} (hK : Keeps s0 s) :
    Keeps s0 (State.readNext p s) := by
  unfold State.readNext
  with_reducible repeat' first
    | assumption | intro _ | apply Keeps.ite | apply State.farFetch_keeps | dsimp only | split

theorem State.dropNear_keeps {s0 : State} (p : Nat) {s : State} (hK : Keeps s0 s) :
    Keeps s0 (State.dropNear p s) := by
  unfold State.dropNear
  with_reducible repeat' first
    | assumption | intro _ | apply State.modTier_keeps | dsimp only | split | apply TierKeeps.mk3

theorem State.freeNear_keeps {s0 : State} (p : Nat) {s : State} (hK : Keeps s0 s) :
    Keeps s0 (State.freeNear p s) := by
  unfold State.freeNear
  with_reducible repeat' first
    | assumption | intro _ | apply State.modPlot_keeps | apply State.dropNear_keeps | dsimp only | split

theorem State.startFarMove_keeps {s0 : State} (p l cls mover : Nat) (free : Bool) {s : State} (hK : Keeps s0 s) :
    InOption (Keeps s0) (State.startFarMove p l cls mover free s) := by
  unfold State.startFarMove
  with_reducible repeat' first
    | assumption | intro _ | apply InOption.some | apply InOption.none | apply InOption.ite | apply State.tickFree_keeps
    | apply State.setPlot_keeps | apply State.admitCopy_keeps | dsimp only | split

theorem State.wantFar_keeps {s0 : State} (p cls mover : Nat) {s : State} (hK : Keeps s0 s) :
    Keeps s0 (State.wantFar p cls mover s) := by
  unfold State.wantFar
  with_reducible repeat' first
    | assumption | intro _ | apply Keeps.ite | apply InOption.getD | apply State.setPlot_keeps | apply State.startFarMove_keeps
    | dsimp only | split

theorem State.takeWish_keeps {s0 : State} (p : Nat) {s : State} (hK : Keeps s0 s) :
    Keeps s0 (State.takeWish p s) := by
  unfold State.takeWish
  with_reducible repeat' first
    | assumption | intro _ | apply Keeps.ite | apply State.wantFar_keeps | apply State.setPlot_keeps | dsimp only | split

theorem State.leaveNear_keeps {s0 : State} (p cls mover : Nat) (free : Bool) {s : State} (hK : Keeps s0 s) :
    Keeps s0 (State.leaveNear p cls mover free s) := by
  unfold State.leaveNear
  with_reducible repeat' first
    | assumption | intro _ | apply Keeps.ite | apply State.setPlot_keeps | apply State.freeNear_keeps
    | apply State.takeWish_keeps | apply State.admitCopy_keeps | dsimp only | split

theorem State.evictSteps_keeps {s0 : State} (h : Half) : ∀ (rest_ : List Nat) {s : State}, Keeps s0 s →
    Keeps s0 (State.evictSteps h rest_ s).2 := by
  intro rest_
  induction rest_ with
  | nil =>
    intro s hK
    unfold State.evictSteps
    with_reducible repeat' first
      | assumption | intro _ | apply State.setPlot_keeps | apply State.cntBar_keeps | apply State.leaveNear_keeps
      | apply State.settle_keeps | dsimp only | split
  | cons a r ih =>
    intro s hK
    unfold State.evictSteps
    with_reducible repeat' first
      | assumption | apply ih | intro _ | apply State.setPlot_keeps | apply State.cntBar_keeps | apply State.leaveNear_keeps
      | apply State.settle_keeps | dsimp only | split

theorem State.evictWalk_keeps {s0 : State} (h : Half) {s : State} (hK : Keeps s0 s) :
    Keeps s0 (State.evictWalk h s).2 := by
  unfold State.evictWalk
  with_reducible repeat' first
    | assumption | intro _ | apply State.evictSteps_keeps | dsimp only | split

theorem State.poolRoom_keeps {s0 : State} (h : Half) {s : State} (hK : Keeps s0 s) :
    Keeps s0 (State.poolRoom h s).2 := by
  unfold State.poolRoom
  with_reducible repeat' first
    | assumption | intro _ | apply State.evictWalk_keeps | dsimp only | split | (refine Keeps.snd (by assumption) ?_)

theorem State.slotRoom_keeps {s0 : State} (h : Half) {s : State} (hK : Keeps s0 s) :
    Keeps s0 (State.slotRoom h s).2 := by
  unfold State.slotRoom
  with_reducible repeat' first
    | assumption | intro _ | apply State.tickFree_keeps | apply State.evictWalk_keeps | dsimp only | split

theorem State.poolTrim_keeps {s0 : State} (h : Half) : ∀ (rest_ : Nat) {s : State}, Keeps s0 s →
    Keeps s0 (State.poolTrim h rest_ s) := by
  intro rest_
  induction rest_ with
  | zero =>
    intro s hK
    unfold State.poolTrim
    with_reducible repeat' first
      | assumption | intro _ | apply Keeps.ite | apply State.evictWalk_keeps | dsimp only | split
      | (refine Keeps.snd (by assumption) ?_)
  | succ n ih =>
    intro s hK
    unfold State.poolTrim
    with_reducible repeat' first
      | assumption | apply ih | intro _ | apply Keeps.ite | apply State.evictWalk_keeps | dsimp only | split
      | (refine Keeps.snd (by assumption) ?_)

theorem State.poolAfter_keeps {s0 : State} (p : Nat) (was : Bool) {s : State} (hK : Keeps s0 s) :
    Keeps s0 (State.poolAfter p was s) := by
  unfold State.poolAfter
  with_reducible repeat' first
    | assumption | intro _ | apply Keeps.ite | apply State.poolTrim_keeps | dsimp only | split

theorem State.removeClaim_keeps {s0 : State} (p t cls : Nat) (free : Bool) {s : State} (hK : Keeps s0 s) :
    Keeps s0 (State.removeClaim p t cls free s) := by
  unfold State.removeClaim
  with_reducible repeat' first
    | assumption | intro _ | apply State.setPlot_keeps | apply State.leaveNear_keeps | apply State.poolAfter_keeps
    | apply State.settle_keeps | dsimp only | split

theorem State.removePin_keeps {s0 : State} (p t cls : Nat) (free : Bool) {s : State} (hK : Keeps s0 s) :
    Keeps s0 (State.removePin p t cls free s) := by
  unfold State.removePin
  with_reducible repeat' first
    | assumption | intro _ | apply Keeps.ite | apply State.setPlot_keeps | apply State.leaveNear_keeps
    | apply State.poolAfter_keeps | apply State.settle_keeps | dsimp only | split

theorem State.endCancel_keeps {s0 : State} (p : Nat) {s : State} (hK : Keeps s0 s) :
    Keeps s0 (State.endCancel p s) := by
  unfold State.endCancel
  with_reducible repeat' first
    | assumption | intro _ | apply State.setPlot_keeps | apply State.leaveNear_keeps | dsimp only | split

theorem State.cancelFarMove_keeps {s0 : State} (p : Nat) {s : State} (hK : Keeps s0 s) :
    Keeps s0 (State.cancelFarMove p s) := by
  unfold State.cancelFarMove
  with_reducible repeat' first
    | assumption | intro _ | apply State.modPlot_keeps | apply State.dropNear_keeps | dsimp only | split

theorem State.cancelMove_keeps {s0 : State} (p : Nat) {s : State} (hK : Keeps s0 s) :
    Keeps s0 (State.cancelMove p s) := by
  unfold State.cancelMove
  with_reducible repeat' first
    | assumption | intro _ | apply Keeps.ite | apply State.setPlot_keeps | apply State.cancelFarMove_keeps
    | apply State.endCancel_keeps | dsimp only | split

theorem State.yieldFar_keeps {s0 : State} (p t : Nat) (pin : Bool) {s : State} (hK : Keeps s0 s) :
    Keeps s0 (State.yieldFar p t pin s) := by
  unfold State.yieldFar
  with_reducible repeat' first
    | assumption | intro _ | apply Keeps.ite | apply State.cancelMove_keeps | dsimp only | split

theorem State.startPromotion_keeps {s0 : State} (p slot cls : Nat) (c : Claim) (pin : Bool) {s : State} (hK : Keeps s0 s) :
    Keeps s0 (State.startPromotion p slot cls c pin s) := by
  unfold State.startPromotion
  with_reducible repeat' first
    | assumption | intro _ | apply State.modPlot_keeps | apply State.admitCopy_keeps | apply State.readNext_keeps | dsimp only
    | split

theorem State.tryClaim_keeps {s0 : State} (p t cls : Nat) (cause : ClaimCause) {s : State} (hK : Keeps s0 s) :
    Keeps s0 (State.tryClaim p t cls cause s).2 := by
  unfold State.tryClaim
  with_reducible repeat' first
    | assumption | intro _ | apply State.yieldFar_keeps | apply State.setPlot_keeps | apply State.poolRoom_keeps
    | apply State.cancelMove_keeps | apply State.slotRoom_keeps | apply State.startPromotion_keeps | dsimp only | split
    | (refine Keeps.snd (by assumption) ?_)

theorem State.askClaim_keeps {s0 : State} (p t cls : Nat) (cause : ClaimCause) {s : State} (hK : Keeps s0 s) :
    Keeps s0 (State.askClaim p t cls cause s) := by
  unfold State.askClaim
  with_reducible repeat' first
    | assumption | intro _ | apply State.tryClaim_keeps | apply State.modTier_keeps | apply State.refuseClaim_keeps
    | apply State.settle_keeps | dsimp only | split | (refine Keeps.snd (by assumption) ?_) | apply TierKeeps.mk3

theorem State.retryClaim_keeps {s0 : State} (w : WaitClaim) {s : State} (hK : Keeps s0 s) :
    Keeps s0 (State.retryClaim w s) := by
  unfold State.retryClaim
  with_reducible repeat' first
    | assumption | intro _ | apply Keeps.ite | apply State.tryClaim_keeps | apply State.modTier_keeps
    | apply State.refuseClaim_keeps | apply State.settle_keeps | dsimp only | split | (refine Keeps.snd (by assumption) ?_)
    | apply TierKeeps.mk3

theorem State.dropWait_keeps {s0 : State} (w : WaitClaim) {s : State} (hK : Keeps s0 s) :
    Keeps s0 (State.dropWait w s) := by
  unfold State.dropWait
  with_reducible repeat' first
    | assumption | intro _ | apply State.modTier_keeps | apply State.refuseClaim_keeps | dsimp only | split
    | apply TierKeeps.mk3

theorem State.bulkRelief_keeps {s0 : State} {p : Nat} {s t : State} (e : s.bulkRelief = some (p, t)) (hK : Keeps s0 s) :
    Keeps s0 t := by
  unfold State.bulkRelief at e
  dsimp only at e
  split at e
  · cases e
  · split at e
    · cases e
    · obtain ⟨a, h, g⟩ := Option.map_eq_some_iff.1 e
      cases g
      exact InOption.some' h (State.startFarMove_keeps _ _ _ _ _ hK)

theorem State.mediaMove_keeps {s0 : State} (p j : Nat) (bad : List Nat) (source : Nat) {s : State} (hK : Keeps s0 s) :
    Keeps s0 (State.mediaMove p j bad source s) := by
  unfold State.mediaMove
  with_reducible repeat' first
    | assumption | intro _ | apply State.logRec_keeps | apply State.fmStd_keeps | dsimp only | split

theorem State.endPromotion_keeps {s0 : State} (p : Nat) {s : State} (hK : Keeps s0 s) :
    Keeps s0 (State.endPromotion p s) := by
  unfold State.endPromotion
  with_reducible repeat' first
    | assumption | intro _ | apply State.setPlot_keeps | apply State.leaveNear_keeps | dsimp only | split

theorem State.endFarMove_keeps {s0 : State} (p : Nat) {s : State} (hK : Keeps s0 s) :
    Keeps s0 (State.endFarMove p s) := by
  unfold State.endFarMove
  with_reducible repeat' first
    | assumption | intro _ | apply State.modPlot_keeps | apply State.modTier_keeps | apply State.dropNear_keeps | dsimp only
    | split | apply TierKeeps.mk3

theorem State.farWrite_keeps {s0 : State} (l : Nat) (addr : W64) (b : List Byte) {s : State} (hK : Keeps s0 s) :
    Keeps s0 (State.farWrite l addr b s) := by
  unfold State.farWrite
  with_reducible repeat' first
    | assumption | intro _ | apply State.request_keeps | dsimp only | split

theorem State.storeArrived_keeps {s0 : State} (p j : Nat) (e : Plot) (b : List Byte) {s : State} (hK : Keeps s0 s) :
    Keeps s0 (State.storeArrived p j e b s) := by
  unfold State.storeArrived
  with_reducible repeat' first
    | assumption | intro _ | apply Keeps.ite | apply Keeps.forAll | apply State.modTier_keeps | dsimp only | split
    | apply TierKeeps.mk3 | apply MemOk.mwrite

theorem State.blockDone_keeps {s0 : State} (p : Nat) (bad : List Nat) {s : State} (hK : Keeps s0 s) :
    Keeps s0 (State.blockDone p bad s) := by
  unfold State.blockDone
  with_reducible repeat' first
    | assumption | intro _ | apply Keeps.ite | apply State.cancelFarMove_keeps | apply State.settle_keeps
    | apply State.moveReads_keeps | apply State.mediaMove_keeps | apply State.readNext_keeps | apply State.storeArrived_keeps
    | apply State.modTier_keeps | apply State.farDrop_keeps | apply State.moveWrites_keeps | apply State.setPlot_keeps
    | apply State.endPromotion_keeps | apply State.admitCopy_keeps | apply State.farWrite_keeps | apply State.endFarMove_keeps
    | apply State.endCancel_keeps | apply State.freeNear_keeps | apply State.takeWish_keeps | dsimp only | split
    | apply TierKeeps.mk3

theorem State.abandonPromotion_keeps {s0 : State} (p : Nat) {s : State} (hK : Keeps s0 s) :
    Keeps s0 (State.abandonPromotion p s) := by
  unfold State.abandonPromotion
  with_reducible repeat' first
    | assumption | intro _ | apply Keeps.ite | apply State.farDrop_keeps | apply State.freeNear_keeps
    | apply State.takeWish_keeps | apply State.settle_keeps | dsimp only | split

theorem State.countAccess_keeps {s0 : State} (p t : Nat) {s : State} (hK : Keeps s0 s) :
    Keeps s0 (State.countAccess p t s) := by
  unfold State.countAccess
  with_reducible repeat' first
    | assumption | intro _ | apply Keeps.ite | apply State.setPlot_keeps | apply State.askClaim_keeps | dsimp only | split

/-! Machine/Store.lean. -/

theorem State.blockFail_keeps {s0 : State} (t row b : Nat) (x : Xp) (st : Status) {s : State} (hK : Keeps s0 s) :
    Keeps s0 (State.blockFail t row b x st s) := by
  unfold State.blockFail
  with_reducible repeat' first
    | assumption | intro _ | apply State.modCmp_keeps | apply State.cntBar_keeps | apply State.logRec_keeps | dsimp only | split

theorem State.keptUse_keeps {s0 : State} (x b : Nat) (v : List Byte) {s : State} (hK : Keeps s0 s) :
    Keeps s0 (State.keptUse x b v s) := by
  unfold State.keptUse
  with_reducible repeat' first
    | assumption | intro _ | apply State.modCmp_keeps | dsimp only | split

theorem State.keptDrop_keeps {s0 : State} (d : Nat → Bool) {s : State} (hK : Keeps s0 s) :
    Keeps s0 (State.keptDrop d s) := by
  unfold State.keptDrop
  with_reducible repeat' first
    | assumption | intro _ | apply State.modCmp_keeps | dsimp only | split

theorem State.stagedDrop_keeps {s0 : State} (d : Nat → Bool) {s : State} (hK : Keeps s0 s) :
    Keeps s0 (State.stagedDrop d s) := by
  unfold State.stagedDrop
  with_reducible repeat' first
    | assumption | intro _ | (fail_if_no_progress apply Keeps.set_fes) | dsimp only | split

theorem State.invalidate_keeps {s0 : State} (b : Nat) {s : State} (hK : Keeps s0 s) :
    Keeps s0 (State.invalidate b s) := by
  unfold State.invalidate
  with_reducible repeat' first
    | assumption | intro _ | apply State.keptDrop_keeps | apply State.stagedDrop_keeps | apply State.modTier_keeps | dsimp only
    | split | apply TierKeeps.mk3

theorem State.dropOpen_keeps {s0 : State} (d : Nat → Bool) {s : State} (hK : Keeps s0 s) :
    Keeps s0 (State.dropOpen d s) := by
  unfold State.dropOpen
  with_reducible repeat' first
    | assumption | intro _ | apply State.modCmp_keeps | dsimp only | split

theorem State.mediumAt_keeps {s0 : State} (r : Rd) (p : Nat) (e : Plot) (offs : List Nat) (ua : Nat) (poisoned : Bool) {s : State} (hK : Keeps s0 s) :
    Keeps s0 (State.mediumAt r p e offs ua poisoned s).2 := by
  unfold State.mediumAt
  with_reducible repeat' first
    | assumption | intro _ | apply Keeps.fold2 | apply Keeps.forAll | apply State.mediaRead_keeps | apply State.touchRow_keeps
    | apply State.mediaFind_keeps | dsimp only | split

theorem State.readRaw_keeps {s0 : State} (r : Rd) (p : Nat) (e : Plot) (j i : Nat) {s : State} (hK : Keeps s0 s) :
    Keeps s0 (State.readRaw r p e j i s).2 := by
  unfold State.readRaw
  with_reducible repeat' first
    | assumption | intro _ | apply State.mediumAt_keeps | dsimp only | split | (refine Keeps.snd (by assumption) ?_)

theorem State.expandFor_keeps {s0 : State} (r : Rd) (p : Nat) (e : Plot) (j : Nat) (st : List Byte) {s : State} (hK : Keeps s0 s) :
    Keeps s0 (State.expandFor r p e j st s).2 := by
  unfold State.expandFor
  with_reducible repeat' first
    | assumption | intro _ | apply State.keptUse_keeps | apply State.blockFail_keeps | dsimp only | split

theorem State.readBlock_keeps {s0 : State} (r : Rd) (p : Nat) (e : Plot) (j : Nat) {s : State} (hK : Keeps s0 s) :
    Keeps s0 (State.readBlock r p e j s).2 := by
  unfold State.readBlock
  with_reducible repeat' first
    | assumption | intro _ | apply State.keptUse_keeps | apply State.expandFor_keeps | apply State.mediumAt_keeps | dsimp only
    | split | (refine Keeps.snd (by assumption) ?_)

theorem State.readCoded_keeps {s0 : State} (r : Rd) (p : Nat) (e : Plot) (j i : Nat) {s : State} (hK : Keeps s0 s) :
    Keeps s0 (State.readCoded r p e j i s).2 := by
  unfold State.readCoded
  with_reducible repeat' first
    | assumption | intro _ | apply State.readRaw_keeps | apply State.readBlock_keeps | dsimp only | split
    | (refine Keeps.snd (by assumption) ?_)

theorem State.readPlotLine_keeps {s0 : State} (r : Rd) (ua : Nat) {s : State} (hK : Keeps s0 s) :
    Keeps s0 (State.readPlotLine r ua s).2 := by
  unfold State.readPlotLine
  with_reducible repeat' first
    | assumption | intro _ | apply Keeps.ite | apply State.cntBar_keeps | apply State.readRaw_keeps
    | apply State.readCoded_keeps | dsimp only | split

theorem State.readScalePart_keeps {s0 : State} (r : Rd) (w : SWin) (o n : Nat) {s : State} (hK : Keeps s0 s) :
    Keeps s0 (State.readScalePart r w o n s).2 := by
  unfold State.readScalePart
  with_reducible repeat' first
    | assumption | intro _ | apply State.readBlock_keeps | dsimp only | split | (refine Keeps.snd (by assumption) ?_)

theorem State.readScale_keeps {s0 : State} (r : Rd) (w : SWin) (ua : Nat) {s : State} (hK : Keeps s0 s) :
    Keeps s0 (State.readScale r w ua s).2 := by
  unfold State.readScale
  with_reducible repeat' first
    | assumption | intro _ | apply State.readScalePart_keeps | dsimp only | split | (refine Keeps.snd (by assumption) ?_)

theorem State.readLine_keeps {s0 : State} (r : Rd) (ua : Nat) {s : State} (hK : Keeps s0 s) :
    Keeps s0 (State.readLine r ua s).2 := by
  unfold State.readLine
  with_reducible repeat' first
    | assumption | intro _ | apply State.readScale_keeps | apply State.readPlotLine_keeps | dsimp only | split

theorem State.touchWrite_keeps {s0 : State} (p j : Nat) {s : State} (hK : Keeps s0 s) :
    Keeps s0 (State.touchWrite p j s) := by
  unfold State.touchWrite
  with_reducible repeat' first
    | assumption | intro _ | apply Keeps.ite | apply State.setPlot_keeps | apply State.modTier_keeps
    | apply State.readNext_keeps | dsimp only | split | apply TierKeeps.mk3

theorem State.setPoison_keeps {s0 : State} (e : Plot) (keys : List Nat) (v : Bool) {s : State} (hK : Keeps s0 s) :
    Keeps s0 (State.setPoison e keys v s) := by
  unfold State.setPoison
  with_reducible repeat' first
    | assumption | intro _ | apply Keeps.ite | apply State.modTier_keeps | dsimp only | split | apply TierKeeps.mk3

theorem State.markWritten_keeps {s0 : State} (l : Nat) {s : State} (hK : Keeps s0 s) :
    Keeps s0 (State.markWritten l s) := by
  unfold State.markWritten
  with_reducible repeat' first
    | assumption | intro _ | apply State.modTier_keeps | dsimp only | split | apply TierKeeps.mk3

theorem State.sendLine_keeps {s0 : State} (p : Nat) (e : Plot) (off : Nat) (b : List Byte) {s : State} (hK : Keeps s0 s) :
    Keeps s0 (State.sendLine p e off b s) := by
  unfold State.sendLine
  with_reducible repeat' first
    | assumption | intro _ | apply Keeps.ite | apply State.farWrite_keeps | apply State.queueWrite_keeps | dsimp only | split

theorem State.writeRaw_keeps {s0 : State} (t p : Nat) (e : Plot) (j i : Nat) (kv : BitVec 512) (d : Line) (be : W64) (poison : Bool) {s : State} (hK : Keeps s0 s) :
    Keeps s0 (State.writeRaw t p e j i kv d be poison s) := by
  unfold State.writeRaw
  with_reducible repeat' first
    | assumption | intro _ | apply Keeps.ite | apply State.mediumAt_keeps | apply State.modTier_keeps
    | apply State.setPoison_keeps | apply State.sendLine_keeps | apply State.markWritten_keeps | apply State.touchWrite_keeps
    | dsimp only | split | apply TierKeeps.mk3 | apply MemOk.mwrite

theorem State.storeFoot_keeps {s0 : State} (b : Nat) (v : List Byte) (bad : NSet) {s : State} (hK : Keeps s0 s) :
    Keeps s0 (State.storeFoot b v bad s) := by
  unfold State.storeFoot
  with_reducible repeat' first
    | assumption | intro _ | apply Keeps.ite | apply State.setPoison_keeps | apply State.modTier_keeps
    | apply State.cntBar_keeps | apply State.logRec_keeps | apply State.sendLine_keeps | apply State.touchWrite_keeps
    | dsimp only | split | apply TierKeeps.mk3 | apply MemOk.mwrite | apply MemOk.mclear

theorem State.mergeReads_keeps {s0 : State} (p : Nat) (e : Plot) (j : Nat) {s : State} (hK : Keeps s0 s) :
    Keeps s0 (State.mergeReads p e j s) := by
  unfold State.mergeReads
  with_reducible repeat' first
    | assumption | intro _ | apply Keeps.ite | apply Keeps.forAll | apply State.mediaRead_keeps | dsimp only | split

theorem State.mergeBase_keeps {s0 : State} (b : Nat) (e : Plot) (st : List Byte) {s : State} (hK : Keeps s0 s) :
    Keeps s0 (State.mergeBase b e st s).2.2 := by
  unfold State.mergeBase
  with_reducible repeat' first
    | assumption | intro _ | apply State.mergeReads_keeps | apply State.blockFail_keeps | dsimp only | split

theorem State.closeWith_keeps {s0 : State} (o : OpenBlk) (st : List Byte) {s : State} (hK : Keeps s0 s) :
    Keeps s0 (State.closeWith o st s) := by
  unfold State.closeWith
  with_reducible repeat' first
    | assumption | intro _ | apply State.dropOpen_keeps | apply State.mergeBase_keeps | apply State.invalidate_keeps
    | apply State.storeFoot_keeps | dsimp only | split

theorem State.closeBlk_keeps {s0 : State} (o : OpenBlk) {s : State} (hK : Keeps s0 s) :
    Keeps s0 (State.closeBlk o s) := by
  unfold State.closeBlk
  with_reducible repeat' first
    | assumption | intro _ | apply Keeps.ite | apply State.dropOpen_keeps | apply State.farDrop_keeps
    | apply State.closeWith_keeps | apply State.modCmp_keeps | apply State.farFetch_keeps | dsimp only | split

theorem State.makeBuffer_keeps {s0 : State} (x : Nat) {s : State} (hK : Keeps s0 s) :
    Keeps s0 (State.makeBuffer x s) := by
  unfold State.makeBuffer
  with_reducible repeat' first
    | assumption | intro _ | apply Keeps.ite | apply State.closeBlk_keeps | dsimp only | split

theorem State.assemble_keeps {s0 : State} (x b i : Nat) (v : Line) (poison : Bool) {s : State} (hK : Keeps s0 s) :
    Keeps s0 (State.assemble x b i v poison s) := by
  unfold State.assemble
  with_reducible repeat' first
    | assumption | intro _ | apply State.modCmp_keeps | dsimp only | split

theorem State.writeFoot_keeps {s0 : State} (x p : Nat) (e : Plot) (j i : Nat) (d : Line) (be : W64) (poison : Bool) {s : State} (hK : Keeps s0 s) :
    Keeps s0 (State.writeFoot x p e j i d be poison s) := by
  unfold State.writeFoot
  with_reducible repeat' first
    | assumption | intro _ | apply Keeps.ite | apply State.makeBuffer_keeps | apply State.mergeBase_keeps
    | apply State.assemble_keeps | apply State.markWritten_keeps | apply State.touchWrite_keeps | apply State.closeBlk_keeps
    | dsimp only | split

theorem State.writeLine_keeps {s0 : State} (x t : Nat) (enc : Option Nat) (ua : Nat) (d : Line) (be : W64) (poison : Bool) {s : State} (hK : Keeps s0 s) :
    Keeps s0 (State.writeLine x t enc ua d be poison s).2 := by
  unfold State.writeLine
  with_reducible repeat' first
    | assumption | intro _ | apply Keeps.ite | apply State.cntBar_keeps | apply State.logRec_keeps
    | apply State.invalidate_keeps | apply State.writeRaw_keeps | apply State.writeFoot_keeps | dsimp only | split

/-! Machine/Maint.lean. -/

theorem State.modAct_keeps {s0 : State} (id : Nat) (f : Activity → Activity) {s : State} (hK : Keeps s0 s) :
    Keeps s0 (State.modAct id f s) := by
  unfold State.modAct
  with_reducible repeat' first
    | assumption | intro _ | apply State.modRas_keeps | dsimp only | split | apply RasKeeps.mk2 | rfl

theorem State.setDefer_keeps {s0 : State} (code unit st : Nat) {s : State} (hK : Keeps s0 s) :
    Keeps s0 (State.setDefer code unit st s) := by
  unfold State.setDefer
  with_reducible repeat' first
    | assumption | intro _ | apply State.modStw_keeps | dsimp only | split

theorem State.countPark_keeps {s0 : State} (scope : List Nat) {s : State} (hK : Keeps s0 s) :
    Keeps s0 (State.countPark scope s) := by
  unfold State.countPark
  with_reducible repeat' first
    | assumption | intro _ | apply State.cntStw_keeps | dsimp only | split

theorem State.maintAsk_keeps {s0 : State} (code : Nat) (scope : List Nat) (unit : Nat) {s : State} (hK : Keeps s0 s) :
    Keeps s0 (State.maintAsk code scope unit s) := by
  unfold State.maintAsk
  with_reducible repeat' first
    | assumption | intro _ | apply Keeps.ite | apply State.modRas_keeps | apply State.countPark_keeps
    | apply State.setDefer_keeps | dsimp only | split | apply RasKeeps.mk2 | rfl

theorem State.grantWon_keeps {s0 : State} {s : State} (hK : Keeps s0 s) :
    Keeps s0 (State.grantWon s) := by
  unfold State.grantWon
  with_reducible repeat' first
    | assumption | intro _ | apply Keeps.ite | apply Keeps.forAll | apply State.modAct_keeps | dsimp only | split

theorem State.maintEnd_keeps {s0 : State} (code unit : Nat) {s : State} (hK : Keeps s0 s) :
    Keeps s0 (State.maintEnd code unit s) := by
  unfold State.maintEnd
  with_reducible repeat' first
    | assumption | intro _ | apply State.modRas_keeps | apply State.grantWon_keeps | dsimp only | split | apply RasKeeps.mk2
    | rfl

theorem State.park_keeps {s0 : State} (id : Nat) {s : State} (hK : Keeps s0 s) :
    Keeps s0 (State.park id s) := by
  unfold State.park
  with_reducible repeat' first
    | assumption | intro _ | apply Keeps.ite | apply State.modAct_keeps | apply State.countPark_keeps
    | apply State.setDefer_keeps | apply State.grantWon_keeps | dsimp only | split

theorem State.resume_keeps {s0 : State} (id : Nat) {s : State} (hK : Keeps s0 s) :
    Keeps s0 (State.resume id s) := by
  unfold State.resume
  with_reducible repeat' first
    | assumption | intro _ | apply Keeps.ite | apply State.modAct_keeps | apply State.setDefer_keeps | dsimp only | split

theorem execMaintGrantRequest_keeps {s0 : State} (code : BitVec 4) (scope : List Nat) (unit : Nat) {s : State} (hK : Keeps s0 s) :
    Answers (Keeps s0) (execMaintGrantRequest code scope unit s) := by
  unfold execMaintGrantRequest
  with_reducible repeat' first
    | assumption | intro _ | apply Answers.next | apply Answers.ite | apply State.maintAsk_keeps | dsimp only | split

theorem execMaintPark_keeps {s0 : State} (id : Nat) {s : State} (hK : Keeps s0 s) :
    Answers (Keeps s0) (execMaintPark id s) := by
  unfold execMaintPark
  with_reducible repeat' first
    | assumption | intro _ | apply Answers.next | apply State.park_keeps | dsimp only | split

theorem execMaintResume_keeps {s0 : State} (id : Nat) {s : State} (hK : Keeps s0 s) :
    Answers (Keeps s0) (execMaintResume id s) := by
  unfold execMaintResume
  with_reducible repeat' first
    | assumption | intro _ | apply Answers.next | apply State.resume_keeps | dsimp only | split

theorem execLongDeferral_keeps {s0 : State} (id : Nat) {s : State} (hK : Keeps s0 s) :
    Answers (Keeps s0) (execLongDeferral id s) := by
  unfold execLongDeferral
  with_reducible repeat' first
    | assumption | intro _ | apply Answers.next | apply Answers.ite | apply State.modAct_keeps | apply State.logRec_keeps
    | dsimp only | split

/-! Machine/Ready.lean. -/

theorem State.withReady_keeps {s0 : State} (f : State → State) {s : State} (hf : ∀ t, Keeps s0 t → Keeps s0 (f t)) (hK : Keeps s0 s) :
    Keeps s0 (State.withReady f s) := by
  unfold State.withReady
  with_reducible repeat' first
    | assumption | intro _ | apply Keeps.forAll | apply State.raiseMsix_keeps | exact hf _ hK | dsimp only | split

end Sys2Proof.Machine
end

