-- ==== Sys2Proof/Laws/KeepsMemory.lean ====
section
/-! SUPPORT. What each operation and each row keeps: Cistern, plots, the Almanac, regions, rings, host memory, channels and reliability. -/

namespace Sys2Proof.Machine

set_option linter.unusedTactic false
set_option linter.unreachableTactic false
set_option linter.unusedVariables false

open Host (Outcome)

/-! Machine/Cistern.lean. -/

theorem State.setBank_keeps {s0 : State} (n : Nat) (v : Bank) {s : State} (hK : Keeps s0 s) :
    Keeps s0 (State.setBank n v s) := by
  unfold State.setBank
  with_reducible repeat' first
    | assumption | intro _ | apply State.modCst_keeps | dsimp only | split

theorem State.modBank_keeps {s0 : State} (n : Nat) (f : Bank → Bank) {s : State} (hK : Keeps s0 s) :
    Keeps s0 (State.modBank n f s) := by
  unfold State.modBank
  with_reducible repeat' first
    | assumption | intro _ | apply State.setBank_keeps | dsimp only | split

theorem State.zeroBank_keeps {s0 : State} (b : Nat) {s : State} (hK : Keeps s0 s) :
    Keeps s0 (State.zeroBank b s) := by
  unfold State.zeroBank
  with_reducible repeat' first
    | assumption | intro _ | apply State.modCst_keeps | dsimp only | split | apply MemOk.mclear

theorem State.bankCorrected_keeps {s0 : State} (b entry : Nat) {s : State} (hK : Keeps s0 s) :
    Keeps s0 (State.bankCorrected b entry s) := by
  unfold State.bankCorrected
  with_reducible repeat' first
    | assumption | intro _ | apply Keeps.ite | apply State.cntStw_keeps | apply State.setBank_keeps | apply State.logRec_keeps
    | apply State.fmStd_keeps | dsimp only | split

theorem State.cstUncorrected_keeps {s0 : State} (t : Option Nat) (src w : Nat) {s : State} (hK : Keeps s0 s) :
    Keeps s0 (State.cstUncorrected t src w s) := by
  unfold State.cstUncorrected
  with_reducible repeat' first
    | assumption | intro _ | apply State.cntStw_keeps | apply State.logRec_keeps | dsimp only | split

theorem State.cstRead_keeps {s0 : State} (t : Option Nat) (w : Nat) {s : State} (hK : Keeps s0 s) :
    Keeps s0 (State.cstRead t w s).2 := by
  unfold State.cstRead
  with_reducible repeat' first
    | assumption | intro _ | apply State.bankCorrected_keeps | apply State.cstUncorrected_keeps | dsimp only | split

theorem State.cstReadAll_keeps {s0 : State} (t : Option Nat) (ws : List Nat) {s : State} (hK : Keeps s0 s) :
    Keeps s0 (State.cstReadAll t ws s).2 := by
  unfold State.cstReadAll
  with_reducible repeat' first
    | assumption | intro _ | apply Keeps.fold2 | apply State.cstRead_keeps | dsimp only | split

theorem State.cstFresh_keeps {s0 : State} (ws : List Nat) {s : State} (hK : Keeps s0 s) :
    Keeps s0 (State.cstFresh ws s) := by
  unfold State.cstFresh
  with_reducible repeat' first
    | assumption | intro _ | apply State.modCst_keeps | dsimp only | split

theorem State.cstFreshBank_keeps {s0 : State} (b : Nat) {s : State} (hK : Keeps s0 s) :
    Keeps s0 (State.cstFreshBank b s) := by
  unfold State.cstFreshBank
  with_reducible repeat' first
    | assumption | intro _ | apply State.modCst_keeps | dsimp only | split

theorem State.wordWrite_keeps {s0 : State} (t : Option Nat) (whole : Bool) (w : Nat) {s : State} (hK : Keeps s0 s) :
    Keeps s0 (State.wordWrite t whole w s) := by
  unfold State.wordWrite
  with_reducible repeat' first
    | assumption | intro _ | apply Keeps.ite | apply State.cstFresh_keeps | apply State.cstRead_keeps | apply State.modCst_keeps
    | dsimp only | split | (refine Keeps.snd (by assumption) ?_)

theorem State.dropBank_keeps {s0 : State} (b : Nat) {s : State} (hK : Keeps s0 s) :
    Keeps s0 (State.dropBank b s) := by
  unfold State.dropBank
  with_reducible repeat' first
    | assumption | intro _ | (fail_if_no_progress apply Keeps.set_fes) | dsimp only | split

theorem State.wakeBank_keeps {s0 : State} (b : Nat) {s : State} (hK : Keeps s0 s) :
    Keeps s0 (State.wakeBank b s) := by
  unfold State.wakeBank
  with_reducible repeat' first
    | assumption | intro _ | apply State.modCst_keeps | apply State.modBank_keeps | dsimp only | split

theorem State.returnBank_keeps {s0 : State} (b : Nat) {s : State} (hK : Keeps s0 s) :
    Keeps s0 (State.returnBank b s) := by
  unfold State.returnBank
  with_reducible repeat' first
    | assumption | intro _ | apply State.modBank_keeps | dsimp only | split

theorem State.allotBank_keeps {s0 : State} {h : Half} {k : BankKind} {owner b : Nat} {s t : State}
    (e : s.allotBank h k owner = some (b, t)) (hK : Keeps s0 s) : Keeps s0 t := by
  unfold State.allotBank at e
  split at e
  · cases e
    exact State.modBank_keeps _ _ (State.wakeBank_keeps _ hK)
  · cases e

theorem State.allotJob_keeps {s0 : State} (id : Nat) {s : State} (hK : Keeps s0 s) :
    Keeps s0 (State.allotJob id s) := by
  unfold State.allotJob
  with_reducible repeat' first
    | assumption | intro _ | apply Keeps.ite | apply State.modCst_keeps | apply State.modJob_keeps | dsimp only | split
    | (refine State.allotBank_keeps (by assumption) ?_)

theorem State.retryAllot_keeps {s0 : State} {s : State} (hK : Keeps s0 s) :
    Keeps s0 (State.retryAllot s) := by
  unfold State.retryAllot
  with_reducible repeat' first
    | assumption | intro _ | apply Keeps.forAll | apply State.allotJob_keeps | dsimp only | split

theorem State.bcStatus_keeps {s0 : State} (st : Status) {s : State} (hK : Keeps s0 s) :
    Keeps s0 (State.bcStatus st s) := by
  unfold State.bcStatus
  with_reducible repeat' first
    | assumption | intro _ | apply State.modStw_keeps | dsimp only | split

theorem State.startHandover_keeps {s0 : State} (b : Nat) (dst : Option Nat) (kind : BankKind) {s : State} (hK : Keeps s0 s) :
    Keeps s0 (State.startHandover b dst kind s) := by
  unfold State.startHandover
  with_reducible repeat' first
    | assumption | intro _ | apply State.modBank_keeps | apply State.modStw_keeps | dsimp only | split

theorem execBankGiveStage_keeps {s0 : State} (b : BankId) (fe : BitVec 4) {s : State} (hK : Keeps s0 s) :
    Answers (Keeps s0) (execBankGiveStage b fe s) := by
  unfold execBankGiveStage
  with_reducible repeat' first
    | assumption | intro _ | apply Answers.next | apply State.startHandover_keeps | apply State.bcStatus_keeps | dsimp only
    | split

theorem State.bankRetired_keeps {s0 : State} (b : Nat) {s : State} (hK : Keeps s0 s) :
    Keeps s0 (State.bankRetired b s) := by
  unfold State.bankRetired
  with_reducible repeat' first
    | assumption | intro _ | apply State.fmHealth_keeps | dsimp only | split

theorem execBankReturnPool_keeps {s0 : State} (b : BankId) {s : State} (hK : Keeps s0 s) :
    Answers (Keeps s0) (execBankReturnPool b s) := by
  unfold execBankReturnPool
  with_reducible repeat' first
    | assumption | intro _ | apply Answers.next | apply Keeps.ite | apply State.bcStatus_keeps | apply State.startHandover_keeps
    | dsimp only | split

theorem execBankRetire_keeps {s0 : State} (b : BankId) {s : State} (hK : Keeps s0 s) :
    Answers (Keeps s0) (execBankRetire b s) := by
  unfold execBankRetire
  with_reducible repeat' first
    | assumption | intro _ | apply Answers.next | apply State.startHandover_keeps | apply State.bcStatus_keeps
    | apply State.modBank_keeps | apply State.bankRetired_keeps | dsimp only | split

theorem execBankPowerOn_keeps {s0 : State} (b : BankId) {s : State} (hK : Keeps s0 s) :
    Answers (Keeps s0) (execBankPowerOn b s) := by
  unfold execBankPowerOn
  with_reducible repeat' first
    | assumption | intro _ | apply Answers.next | apply State.wakeBank_keeps | apply State.bcStatus_keeps | dsimp only | split

theorem State.toRetention_keeps {s0 : State} (b : Nat) {s : State} (hK : Keeps s0 s) :
    Keeps s0 (State.toRetention b s) := by
  unfold State.toRetention
  with_reducible repeat' first
    | assumption | intro _ | apply State.modBank_keeps | dsimp only | split

theorem State.toFallow_keeps {s0 : State} (b : Nat) {s : State} (hK : Keeps s0 s) :
    Keeps s0 (State.toFallow b s) := by
  unfold State.toFallow
  with_reducible repeat' first
    | assumption | intro _ | apply Keeps.ite | apply State.dropBank_keeps | apply State.zeroBank_keeps
    | apply State.modBank_keeps | apply State.modCst_keeps | dsimp only | split

theorem execBankRetention_keeps {s0 : State} (b : BankId) {s : State} (hK : Keeps s0 s) :
    Answers (Keeps s0) (execBankRetention b s) := by
  unfold execBankRetention
  with_reducible repeat' first
    | assumption | intro _ | apply Answers.next | apply State.toRetention_keeps | apply State.bcStatus_keeps | dsimp only
    | split

theorem execBankFallow_keeps {s0 : State} (b : BankId) {s : State} (hK : Keeps s0 s) :
    Answers (Keeps s0) (execBankFallow b s) := by
  unfold execBankFallow
  with_reducible repeat' first
    | assumption | intro _ | apply Answers.next | apply State.toFallow_keeps | apply State.bcStatus_keeps | dsimp only | split

theorem execHandoverComplete_keeps {s0 : State} (b : BankId) {s : State} (hK : Keeps s0 s) :
    Answers (Keeps s0) (execHandoverComplete b s) := by
  unfold execHandoverComplete
  with_reducible repeat' first
    | assumption | intro _ | apply Answers.next | apply Answers.ite | apply State.dropBank_keeps | apply State.zeroBank_keeps
    | apply State.setBank_keeps | apply State.modStw_keeps | apply State.bankRetired_keeps | apply State.retryAllot_keeps
    | dsimp only | split

theorem execZeroFillDone_keeps {s0 : State} (b : BankId) {s : State} (hK : Keeps s0 s) :
    Answers (Keeps s0) (execZeroFillDone b s) := by
  unfold execZeroFillDone
  with_reducible repeat' first
    | assumption | intro _ | apply Answers.next | apply Answers.ite | apply State.zeroBank_keeps | apply State.setBank_keeps
    | apply State.retryAllot_keeps | dsimp only | split

theorem execBankWakeDone_keeps {s0 : State} (b : BankId) {s : State} (hK : Keeps s0 s) :
    Answers (Keeps s0) (execBankWakeDone b s) := by
  unfold execBankWakeDone
  with_reducible repeat' first
    | assumption | intro _ | apply Answers.next | apply Answers.ite | apply State.modCst_keeps | apply State.modBank_keeps
    | dsimp only | split

theorem execBankAllot_keeps {s0 : State} (job : Nat) {s : State} (hK : Keeps s0 s) :
    Answers (Keeps s0) (execBankAllot job s) := by
  unfold execBankAllot
  with_reducible repeat' first
    | assumption | intro _ | apply Answers.next | apply State.allotJob_keeps | dsimp only | split

theorem execBankIdleRetention_keeps {s0 : State} (b : BankId) {s : State} (hK : Keeps s0 s) :
    Answers (Keeps s0) (execBankIdleRetention b s) := by
  unfold execBankIdleRetention
  with_reducible repeat' first
    | assumption | intro _ | apply Answers.next | apply Answers.ite | apply State.toRetention_keeps | dsimp only | split

theorem execBankIdleFallow_keeps {s0 : State} (b : BankId) {s : State} (hK : Keeps s0 s) :
    Answers (Keeps s0) (execBankIdleFallow b s) := by
  unfold execBankIdleFallow
  with_reducible repeat' first
    | assumption | intro _ | apply Answers.next | apply Answers.ite | apply State.toFallow_keeps | dsimp only | split

theorem State.writeEntry_keeps {s0 : State} (b : Nat) (r : CReq) {s : State} (hK : Keeps s0 s) :
    Keeps s0 (State.writeEntry b r s) := by
  unfold State.writeEntry
  with_reducible repeat' first
    | assumption | intro _ | apply Keeps.forAll | apply State.wordWrite_keeps | apply State.modCst_keeps | dsimp only | split
    | apply MemOk.mset | apply MemOk.forAll_

theorem State.readEntry_keeps {s0 : State} (b : Nat) (r : CReq) {s : State} (hK : Keeps s0 s) :
    Keeps s0 (State.readEntry b r s).2 := by
  unfold State.readEntry
  with_reducible repeat' first
    | assumption | intro _ | apply State.cstReadAll_keeps | dsimp only | split | (refine Keeps.snd (by assumption) ?_)

theorem State.setPorts_keeps {s0 : State} (b : Nat) (p : CPorts) {s : State} (hK : Keeps s0 s) :
    Keeps s0 (State.setPorts b p s) := by
  unfold State.setPorts
  with_reducible repeat' first
    | assumption | intro _ | apply State.modCst_keeps | dsimp only | split

theorem State.portEnds_keeps {s0 : State} (b : BankId) (data : Option W128) (r : CReq) {s : State} (hK : Keeps s0 s) :
    Keeps s0 (State.portEnds b data r s) := by
  unfold State.portEnds
  with_reducible repeat' first
    | assumption | intro _ | apply Keeps.ite | apply State.emit_keeps | dsimp only | split

theorem State.portCycle_keeps {s0 : State} (b : BankId) (arrive : List CReq) {s : State} (hK : Keeps s0 s) :
    Keeps s0 (State.portCycle b arrive s) := by
  unfold State.portCycle
  with_reducible repeat' first
    | assumption | intro _ | apply Keeps.ite | apply Keeps.fold2 | apply Keeps.forAll | apply State.wakeBank_keeps
    | apply State.setPorts_keeps | apply State.readEntry_keeps | apply State.writeEntry_keeps | apply State.portEnds_keeps
    | apply State.cntStw_keeps | dsimp only | split

theorem execPortStarveOverride_keeps {s0 : State} (b : BankId) (port1 : Bool) {s : State} (hK : Keeps s0 s) :
    Answers (Keeps s0) (execPortStarveOverride b port1 s) := by
  unfold execPortStarveOverride
  with_reducible repeat' first
    | assumption | intro _ | apply Answers.next | apply Keeps.ite | apply State.portCycle_keeps | apply State.cntStw_keeps
    | dsimp only | split

theorem State.setMarch_keeps {s0 : State} (h : Half) (m : Option March) {s : State} (hK : Keeps s0 s) :
    Keeps s0 (State.setMarch h m s) := by
  unfold State.setMarch
  with_reducible repeat' first
    | assumption | intro _ | apply State.modCst_keeps | dsimp only | split

theorem State.mstStatus_keeps {s0 : State} (h : Half) (st : Status) {s : State} (hK : Keeps s0 s) :
    Keeps s0 (State.mstStatus h st s) := by
  unfold State.mstStatus
  with_reducible repeat' first
    | assumption | intro _ | apply State.modStw_keeps | dsimp only | split

theorem State.startMarch_keeps {s0 : State} (m : March) {s : State} (hK : Keeps s0 s) :
    Keeps s0 (State.startMarch m s) := by
  unfold State.startMarch
  with_reducible repeat' first
    | assumption | intro _ | apply State.setMarch_keeps | apply State.modStw_keeps | apply State.maintAsk_keeps | dsimp only
    | split

theorem execMarchDestructive_keeps {s0 : State} (first : BankId) (count : BitVec 9) (bg : BitVec 4) {s : State} (hK : Keeps s0 s) :
    Answers (Keeps s0) (execMarchDestructive first count bg s) := by
  unfold execMarchDestructive
  with_reducible repeat' first
    | assumption | intro _ | apply Answers.next | apply Keeps.forAll | apply State.modBank_keeps | apply State.startMarch_keeps
    | apply State.mstStatus_keeps | dsimp only | split

theorem execMarchPreserving_keeps {s0 : State} (first : BankId) (count : BitVec 9) {s : State} (hK : Keeps s0 s) :
    Answers (Keeps s0) (execMarchPreserving first count s) := by
  unfold execMarchPreserving
  with_reducible repeat' first
    | assumption | intro _ | apply Answers.next | apply State.startMarch_keeps | apply State.mstStatus_keeps | dsimp only
    | split

theorem State.endTest_keeps {s0 : State} (b : Nat) (res : Option Bool) {s : State} (hK : Keeps s0 s) :
    Keeps s0 (State.endTest b res s) := by
  unfold State.endTest
  with_reducible repeat' first
    | assumption | intro _ | apply State.zeroBank_keeps | apply State.modBank_keeps | dsimp only | split

theorem execMarchAbort_keeps {s0 : State} (h : Half) {s : State} (hK : Keeps s0 s) :
    Answers (Keeps s0) (execMarchAbort h s) := by
  unfold execMarchAbort
  with_reducible repeat' first
    | assumption | intro _ | apply Answers.next | apply Answers.ite | apply Keeps.ite | apply Keeps.forAll
    | apply State.mstStatus_keeps | apply State.endTest_keeps | apply State.setMarch_keeps | apply State.modStw_keeps
    | apply State.maintEnd_keeps | apply State.retryAllot_keeps | dsimp only | split

theorem execMarchDone_keeps {s0 : State} (h : Half) (failed : List Nat) (fail0 fail1 : W32) {s : State} (hK : Keeps s0 s) :
    Answers (Keeps s0) (execMarchDone h failed fail0 fail1 s) := by
  unfold execMarchDone
  with_reducible repeat' first
    | assumption | intro _ | apply Answers.next | apply Answers.ite | apply Keeps.ite | apply Keeps.forAll
    | apply State.tickFree_keeps | apply State.logRec_keeps | apply State.fmHealth_keeps | apply State.endTest_keeps
    | apply State.setStw_keeps | apply State.setMarch_keeps | apply State.maintEnd_keeps | apply State.retryAllot_keeps
    | dsimp only | split

/-! Machine/Staging.lean. -/

theorem State.askFill_keeps {s0 : State} (fe : Nat) (r : StageReq) {s : State} (hK : Keeps s0 s) :
    Keeps s0 (State.askFill fe r s) := by
  unfold State.askFill
  with_reducible repeat' first
    | assumption | intro _ | apply State.modFe_keeps | dsimp only | split

theorem State.stagePlot_keeps {s0 : State} (fe p mask t cls : Nat) (firing : Option Nat) {s : State} (hK : Keeps s0 s) :
    Keeps s0 (State.stagePlot fe p mask t cls firing s).2 := by
  unfold State.stagePlot
  with_reducible repeat' first
    | assumption | intro _ | apply Keeps.ite | apply Keeps.forAll | apply State.modFe_keeps | apply State.askFill_keeps
    | dsimp only | split

theorem State.fillsDrop_keeps {s0 : State} (d : Nat → Bool) {s : State} (hK : Keeps s0 s) :
    Keeps s0 (State.fillsDrop d s) := by
  unfold State.fillsDrop
  with_reducible repeat' first
    | assumption | intro _ | apply Keeps.forAll | apply State.modFe_keeps | dsimp only | split

theorem State.unhold_keeps {s0 : State} (fe t : Nat) (d : Nat → Bool) {s : State} (hK : Keeps s0 s) :
    Keeps s0 (State.unhold fe t d s) := by
  unfold State.unhold
  with_reducible repeat' first
    | assumption | intro _ | apply State.modFe_keeps | dsimp only | split

theorem State.stageRoom_keeps {s0 : State} (fe n : Nat) : ∀ (rest_ : Nat) {s : State}, Keeps s0 s →
    Keeps s0 (State.stageRoom fe n rest_ s).2 := by
  intro rest_
  induction rest_ with
  | zero =>
    intro s hK
    unfold State.stageRoom
    with_reducible repeat' first
      | assumption | intro _ | apply State.modFe_keeps | dsimp only | split
  | succ n ih =>
    intro s hK
    unfold State.stageRoom
    with_reducible repeat' first
      | assumption | apply ih | intro _ | apply State.modFe_keeps | dsimp only | split

theorem State.fetchBlock_keeps {s0 : State} (fe b : Nat) (e : Plot) {s : State} (hK : Keeps s0 s) :
    Keeps s0 (State.fetchBlock fe b e s).2 := by
  unfold State.fetchBlock
  with_reducible repeat' first
    | assumption | intro _ | apply State.modTier_keeps | apply State.farFetch_keeps | apply State.mediumAt_keeps | dsimp only
    | split | (refine Keeps.snd (by assumption) ?_) | apply TierKeeps.mk3

theorem State.admitFill_keeps {s0 : State} (fe b : Nat) {s : State} (hK : Keeps s0 s) :
    Keeps s0 (State.admitFill fe b s).2 := by
  unfold State.admitFill
  with_reducible repeat' first
    | assumption | intro _ | apply Keeps.ite | apply State.modFe_keeps | apply State.shadowAdmit_keeps | apply State.modHg_keeps
    | apply State.heldMark_keeps | dsimp only | split

theorem State.fillDone_keeps {s0 : State} (fe b : Nat) {s : State} (hK : Keeps s0 s) :
    Keeps s0 (State.fillDone fe b s).2 := by
  unfold State.fillDone
  with_reducible repeat' first
    | assumption | intro _ | apply State.modFe_keeps | apply State.admitFill_keeps | apply State.stageRoom_keeps
    | apply State.fetchBlock_keeps | apply State.wakeBank_keeps | apply State.cstFresh_keeps | apply State.settle_keeps
    | dsimp only | split | (refine Keeps.snd (by assumption) ?_)

/-! Machine/Assign.lean. -/

theorem execPlotQuery_keeps {s0 : State} (hi : W32) {s : State} (hK : Keeps s0 s) :
    Answers (Keeps s0) (execPlotQuery hi s) := by
  unfold execPlotQuery
  with_reducible repeat' first
    | assumption | intro _ | apply Answers.next | apply State.setStw_keeps | apply State.modTier_keeps | dsimp only | split
    | apply TierKeeps.mk3

theorem State.wipe_keeps {s0 : State} (p : Nat) {s : State} (hK : Keeps s0 s) :
    Keeps s0 (State.wipe p s) := by
  unfold State.wipe
  with_reducible repeat' first
    | assumption | intro _ | apply State.modTier_keeps | apply State.keptDrop_keeps | apply State.stagedDrop_keeps
    | apply State.dropOpen_keeps | dsimp only | split | apply TierKeeps.mk3 | apply MemOk.mclear | apply MemOk.forAll_

theorem State.dropWaits_keeps {s0 : State} (p : Nat) {s : State} (hK : Keeps s0 s) :
    Keeps s0 (State.dropWaits p s) := by
  unfold State.dropWaits
  with_reducible repeat' first
    | assumption | intro _ | apply Keeps.forAll | apply State.dropWait_keeps | dsimp only | split

theorem State.asgnStatus_keeps {s0 : State} (st : Status) {s : State} (hK : Keeps s0 s) :
    Keeps s0 (State.asgnStatus st s) := by
  unfold State.asgnStatus
  with_reducible repeat' first
    | assumption | intro _ | apply State.modStw_keeps | dsimp only | split

theorem State.assignOne_keeps {s0 : State} (w : W128) (p : Nat) {s : State} (hK : Keeps s0 s) :
    InOption (Keeps s0) (State.assignOne w p s) := by
  unfold State.assignOne
  with_reducible repeat' first
    | assumption | intro _ | apply InOption.some | apply InOption.none | apply InOption.ite | apply State.dropWaits_keeps
    | apply State.tickFree_keeps | apply State.wipe_keeps | apply State.setPlot_keeps | dsimp only | split

theorem State.assignAll_keeps {s0 : State} (w : W128) : ∀ (rest_ : List Nat) {s : State}, Keeps s0 s →
    InOption (Keeps s0) (State.assignAll w rest_ s) := by
  intro rest_
  induction rest_ with
  | nil =>
    intro s hK
    unfold State.assignAll
    with_reducible repeat' first
      | assumption | intro _ | apply InOption.some | apply InOption.none | apply State.assignOne_keeps | dsimp only | split
      | (refine InOption.some' (by assumption) ?_)
  | cons a r ih =>
    intro s hK
    unfold State.assignAll
    with_reducible repeat' first
      | assumption | apply ih | intro _ | apply InOption.some | apply InOption.none | apply State.assignOne_keeps | dsimp only
      | split | (refine InOption.some' (by assumption) ?_)

theorem State.releaseOne_keeps {s0 : State} (p : Nat) {s : State} (hK : Keeps s0 s) :
    Keeps s0 (State.releaseOne p s) := by
  unfold State.releaseOne
  with_reducible repeat' first
    | assumption | intro _ | apply State.dropWaits_keeps | apply State.wipe_keeps | apply State.fillsDrop_keeps
    | apply State.delPlot_keeps | apply State.settle_keeps | dsimp only | split

theorem State.asgnResume_keeps {s0 : State} {s : State} (hK : Keeps s0 s) :
    Keeps s0 (State.asgnResume s) := by
  unfold State.asgnResume
  with_reducible repeat' first
    | assumption | intro _ | apply Keeps.ite | apply Keeps.forAll | apply State.modTier_keeps | apply State.setStw_keeps
    | apply State.assignAll_keeps | apply State.releaseOne_keeps | dsimp only | split
    | (refine InOption.some' (by assumption) ?_) | (refine State.bulkRelief_keeps (by assumption) ?_) | apply TierKeeps.mk3

theorem State.asgnStart_keeps {s0 : State} (op : Nat) {s : State} (hK : Keeps s0 s) :
    Keeps s0 (State.asgnStart op s) := by
  unfold State.asgnStart
  with_reducible repeat' first
    | assumption | intro _ | apply State.modTier_keeps | apply State.setStw_keeps | apply State.asgnResume_keeps | dsimp only
    | split | apply TierKeeps.mk3

theorem execTirAssign_keeps {s0 : State} {s : State} (hK : Keeps s0 s) :
    Answers (Keeps s0) (execTirAssign s) := by
  unfold execTirAssign
  with_reducible repeat' first
    | assumption | intro _ | apply Answers.next | apply Answers.ite | apply State.asgnStatus_keeps | apply State.asgnStart_keeps
    | dsimp only | split

theorem execTirRelease_keeps {s0 : State} {s : State} (hK : Keeps s0 s) :
    Answers (Keeps s0) (execTirRelease s) := by
  unfold execTirRelease
  with_reducible repeat' first
    | assumption | intro _ | apply Answers.next | apply Answers.ite | apply State.asgnStatus_keeps | apply State.asgnStart_keeps
    | dsimp only | split

theorem execTirAsgnReserved_keeps {s0 : State} {s : State} (hK : Keeps s0 s) :
    Answers (Keeps s0) (execTirAsgnReserved s) := by
  unfold execTirAsgnReserved
  with_reducible repeat' first
    | assumption | intro _ | apply Answers.next | apply State.asgnStatus_keeps | dsimp only | split

theorem execTirRemoveClaims_keeps {s0 : State} (t : Tenant) {s : State} (hK : Keeps s0 s) :
    Answers (Keeps s0) (execTirRemoveClaims t s) := by
  unfold execTirRemoveClaims
  with_reducible repeat' first
    | assumption | intro _ | apply Answers.next | apply Keeps.forAll | apply State.dropWait_keeps | apply State.removePin_keeps
    | apply State.removeClaim_keeps | apply State.unhold_keeps | apply State.settle_keeps | apply State.asgnStatus_keeps
    | dsimp only | split

theorem execTirClsWrite_keeps {s0 : State} (v : W32) {s : State} (hK : Keeps s0 s) :
    Answers (Keeps s0) (execTirClsWrite v s) := by
  unfold execTirClsWrite
  with_reducible repeat' first
    | assumption | intro _ | apply Answers.next | apply State.setStw_keeps | dsimp only | split

theorem execAgeClockTick_keeps {s0 : State} {s : State} (hK : Keeps s0 s) :
    Answers (Keeps s0) (execAgeClockTick s) := by
  unfold execAgeClockTick
  with_reducible repeat' first
    | assumption | intro _ | apply Answers.next | (fail_if_no_progress apply Keeps.set_clk) | dsimp only | split

theorem State.mapPlots_keeps {s0 : State} (f : Nat → Plot → Plot) {s : State} (hK : Keeps s0 s) :
    Keeps s0 (State.mapPlots f s) := by
  unfold State.mapPlots
  with_reducible repeat' first
    | assumption | intro _ | apply State.modTier_keeps | dsimp only | split | apply TierKeeps.mk3

theorem execDecayBoundary_keeps {s0 : State} {s : State} (hK : Keeps s0 s) :
    Answers (Keeps s0) (execDecayBoundary s) := by
  unfold execDecayBoundary
  with_reducible repeat' first
    | assumption | intro _ | apply Answers.next | apply State.mapPlots_keeps | dsimp only | split

theorem execAgeSweep_keeps {s0 : State} (h : Half) {s : State} (hK : Keeps s0 s) :
    Answers (Keeps s0) (execAgeSweep h s) := by
  unfold execAgeSweep
  with_reducible repeat' first
    | assumption | intro _ | apply Answers.next | apply State.mapPlots_keeps | dsimp only | split

theorem execColdClassify_keeps {s0 : State} (h : Half) {s : State} (hK : Keeps s0 s) :
    Answers (Keeps s0) (execColdClassify h s) := by
  unfold execColdClassify
  with_reducible repeat' first
    | assumption | intro _ | apply Answers.next | apply Keeps.forAll | apply State.removeClaim_keeps | dsimp only | split

theorem execClaimRetry_keeps {s0 : State} (h : Half) {s : State} (hK : Keeps s0 s) :
    Answers (Keeps s0) (execClaimRetry h s) := by
  unfold execClaimRetry
  with_reducible repeat' first
    | assumption | intro _ | apply Answers.next | apply Keeps.forAll | apply State.retryClaim_keeps | dsimp only | split

theorem execClaimWaitExpire_keeps {s0 : State} (id : Nat) {s : State} (hK : Keeps s0 s) :
    Answers (Keeps s0) (execClaimWaitExpire id s) := by
  unfold execClaimWaitExpire
  with_reducible repeat' first
    | assumption | intro _ | apply Answers.next | apply State.dropWait_keeps | dsimp only | split

theorem execMoveBlockDone_keeps {s0 : State} (plot : PlotNo) (bad : List Nat) {s : State} (hK : Keeps s0 s) :
    Answers (Keeps s0) (execMoveBlockDone plot bad s) := by
  unfold execMoveBlockDone
  with_reducible repeat' first
    | assumption | intro _ | apply Answers.next | apply State.blockDone_keeps | apply State.asgnResume_keeps | dsimp only
    | split

/-! Machine/Almanac.lean. -/

theorem State.commitCal_keeps {s0 : State} (n t : Nat) (b : List Byte) {s : State} (hK : Keeps s0 s) :
    Keeps s0 (State.commitCal n t b s) := by
  unfold State.commitCal
  with_reducible repeat' first
    | assumption | intro _ | apply Keeps.ite | apply State.delCal_keeps | apply State.setCal_keeps | dsimp only | split

theorem State.fireGroup_keeps {s0 : State} (c cur t f : Nat) (w : W256) (p n : Nat) {s : State} (hK : Keeps s0 s) :
    Keeps s0 (State.fireGroup c cur t f w p n s) := by
  unfold State.fireGroup
  with_reducible repeat' first
    | assumption | intro _ | apply State.refuseFiring_keeps | apply State.modAlm_keeps | dsimp only | split

theorem State.firingIssued_keeps {s0 : State} (c cur f : Nat) {s : State} (hK : Keeps s0 s) :
    Keeps s0 (State.firingIssued c cur f s) := by
  unfold State.firingIssued
  with_reducible repeat' first
    | assumption | intro _ | apply State.modCursor_keeps | apply State.trackSettle_keeps | dsimp only | split

theorem State.fireEntry_keeps {s0 : State} (c cur t : Nat) (w : W256) (target : W32) {s : State} (hK : Keeps s0 s) :
    Keeps s0 (State.fireEntry c cur t w target s) := by
  unfold State.fireEntry
  with_reducible repeat' first
    | assumption | intro _ | apply Keeps.ite | apply Keeps.forAll | apply State.modAlm_keeps | apply State.modCursor_keeps
    | apply State.fireGroup_keeps | apply State.firingIssued_keeps | dsimp only | split

theorem State.advance_keeps {s0 : State} (c cur : Nat) (q : W32) {s : State} (hK : Keeps s0 s) :
    Keeps s0 (State.advance c cur q s) := by
  unfold State.advance
  with_reducible repeat' first
    | assumption | intro _ | apply Keeps.ite | apply Keeps.forAll | apply State.modCursor_keeps | apply State.fireEntry_keeps
    | dsimp only | split

theorem State.merrIgnored_keeps {s0 : State} (t : Nat) {s : State} (hK : Keeps s0 s) :
    Keeps s0 (State.merrIgnored t s) := by
  unfold State.merrIgnored
  with_reducible repeat' first
    | assumption | intro _ | apply State.cntBar_keeps | dsimp only | split

theorem State.merrBad_keeps {s0 : State} (t : Nat) {s : State} (hK : Keeps s0 s) :
    Keeps s0 (State.merrBad t s) := by
  unfold State.merrBad
  with_reducible repeat' first
    | assumption | intro _ | apply State.cntBar_keeps | dsimp only | split

theorem State.applyUpd_keeps {s0 : State} (c cur : Nat) (u : AlmUpd) {s : State} (hK : Keeps s0 s) :
    Keeps s0 (State.applyUpd c cur u s) := by
  unfold State.applyUpd
  with_reducible repeat' first
    | assumption | intro _ | apply Keeps.ite | apply State.merrIgnored_keeps | apply State.advance_keeps
    | apply State.merrBad_keeps | apply State.modCursor_keeps | dsimp only | split

theorem State.markDone_keeps {s0 : State} (u : AlmUpd) (c : Status) {s : State} (hK : Keeps s0 s) :
    Keeps s0 (State.markDone u c s) := by
  unfold State.markDone
  with_reducible repeat' first
    | assumption | intro _ | apply State.modOp_keeps | dsimp only | split

theorem State.commitReady_keeps {s0 : State} (n : Nat) {s : State} (hK : Keeps s0 s) :
    Keeps s0 (State.commitReady n s) := by
  unfold State.commitReady
  with_reducible repeat' first
    | assumption | intro _ | apply Keeps.ite | apply State.commitCal_keeps | apply State.modOp_keeps | dsimp only | split

theorem State.arriveUpd_keeps {s0 : State} (u : AlmUpd) {s : State} (hK : Keeps s0 s) :
    Keeps s0 (State.arriveUpd u s) := by
  unfold State.arriveUpd
  with_reducible repeat' first
    | assumption | intro _ | apply Keeps.ite | apply State.commitReady_keeps | apply State.markDone_keeps
    | apply State.merrIgnored_keeps | apply State.setCal_keeps | apply State.applyUpd_keeps | dsimp only | split

theorem execCursorUpdate_keeps {s0 : State} {s : State} (hK : Keeps s0 s) :
    Answers (Keeps s0) (execCursorUpdate s) := by
  unfold execCursorUpdate
  with_reducible repeat' first
    | assumption | intro _ | apply Answers.next | apply State.setCal_keeps | apply State.commitReady_keeps
    | apply State.applyUpd_keeps | apply State.modAlm_keeps | apply State.arriveUpd_keeps | dsimp only | split

theorem State.sendMark_keeps {s0 : State} (h : Half) (op : Option Nat) (c t : Nat) (m : W32) {s : State} (hK : Keeps s0 s) :
    Keeps s0 (State.sendMark h op c t m s).2 := by
  unfold State.sendMark
  with_reducible repeat' first
    | assumption | intro _ | apply State.merrIgnored_keeps | apply State.merrBad_keeps | apply State.modAlm_keeps | dsimp only
    | split

theorem State.loseUpdates_keeps {s0 : State} {s : State} (hK : Keeps s0 s) :
    Keeps s0 (State.loseUpdates s) := by
  unfold State.loseUpdates
  with_reducible repeat' first
    | assumption | intro _ | apply Keeps.forAll | apply State.merrIgnored_keeps | apply State.markDone_keeps
    | apply State.modAlm_keeps | dsimp only | split

theorem State.writeMark_keeps {s0 : State} (h : Half) (c t : Nat) (m : W32) {s : State} (hK : Keeps s0 s) :
    Keeps s0 (State.writeMark h c t m s) := by
  unfold State.writeMark
  with_reducible repeat' first
    | assumption | intro _ | apply State.sendMark_keeps | apply State.merrIgnored_keeps | dsimp only | split
    | (refine Keeps.snd (by assumption) ?_)

theorem execAlmMark_keeps {s0 : State} (t : Tenant) (mark : W32) {s : State} (hK : Keeps s0 s) :
    Answers (Keeps s0) (execAlmMark t mark s) := by
  unfold execAlmMark
  with_reducible repeat' first
    | assumption | intro _ | apply Answers.next | apply State.writeMark_keeps | dsimp only | split

theorem State.triggerMatch_keeps {s0 : State} (p t : Nat) {s : State} (hK : Keeps s0 s) :
    Keeps s0 (State.triggerMatch p t s) := by
  unfold State.triggerMatch
  with_reducible repeat' first
    | assumption | intro _ | apply Keeps.ite | apply Keeps.forAll | apply State.modAlm_keeps | dsimp only | split

theorem State.access_keeps {s0 : State} (p t : Nat) {s : State} (hK : Keeps s0 s) :
    Keeps s0 (State.access p t s) := by
  unfold State.access
  with_reducible repeat' first
    | assumption | intro _ | apply State.countAccess_keeps | apply State.triggerMatch_keeps | dsimp only | split

theorem State.watchPlot_keeps {s0 : State} (c cur f p : Nat) {s : State} (hK : Keeps s0 s) :
    Keeps s0 (State.watchPlot c cur f p s) := by
  unfold State.watchPlot
  with_reducible repeat' first
    | assumption | intro _ | apply State.modCursor_keeps | dsimp only | split

theorem State.watchStage_keeps {s0 : State} (c cur f p : Nat) {s : State} (hK : Keeps s0 s) :
    Keeps s0 (State.watchStage c cur f p s) := by
  unfold State.watchStage
  with_reducible repeat' first
    | assumption | intro _ | apply State.modCursor_keeps | dsimp only | split

theorem State.takeAct_keeps {s0 : State} (a : AlmAct) {s : State} (hK : Keeps s0 s) :
    Keeps s0 (State.takeAct a s) := by
  unfold State.takeAct
  with_reducible repeat' first
    | assumption | intro _ | apply Keeps.ite | apply State.askClaim_keeps | apply State.refuseFiring_keeps
    | apply State.watchPlot_keeps | apply State.watchStage_keeps | apply State.stagePlot_keeps | apply State.removeClaim_keeps
    | apply State.unhold_keeps | apply State.wantFar_keeps | dsimp only | split | (refine Keeps.snd (by assumption) ?_)

theorem execAlmanacAction_keeps {s0 : State} {s : State} (hK : Keeps s0 s) :
    Answers (Keeps s0) (execAlmanacAction s) := by
  unfold execAlmanacAction
  with_reducible repeat' first
    | assumption | intro _ | apply Answers.next | apply Keeps.ite | apply State.modAlm_keeps | apply State.takeAct_keeps
    | apply State.settle_keeps | apply State.firingIssued_keeps | dsimp only | split

theorem execAlmanacLoadCommit_keeps {s0 : State} (cal : CalId) {s : State} (hK : Keeps s0 s) :
    Answers (Keeps s0) (execAlmanacLoadCommit cal s) := by
  unfold execAlmanacLoadCommit
  with_reducible repeat' first
    | assumption | intro _ | apply Answers.next | apply State.commitReady_keeps | dsimp only | split

theorem State.bindStatus_keeps {s0 : State} (st : Status) {s : State} (hK : Keeps s0 s) :
    Keeps s0 (State.bindStatus st s) := by
  unfold State.bindStatus
  with_reducible repeat' first
    | assumption | intro _ | apply State.setStw_keeps | dsimp only | split

theorem execAlmBind_keeps {s0 : State} (cal : CalId) (cursor : BitVec 4) (t : Tenant) (src : BitVec 2) {s : State} (hK : Keeps s0 s) :
    Answers (Keeps s0) (execAlmBind cal cursor t src s) := by
  unfold execAlmBind
  with_reducible repeat' first
    | assumption | intro _ | apply Answers.next | apply State.setCal_keeps | apply State.bindStatus_keeps | dsimp only | split

theorem execAlmUnbind_keeps {s0 : State} (cal : CalId) (cursor : BitVec 4) {s : State} (hK : Keeps s0 s) :
    Answers (Keeps s0) (execAlmUnbind cal cursor s) := by
  unfold execAlmUnbind
  with_reducible repeat' first
    | assumption | intro _ | apply Answers.next | apply State.setCal_keeps | apply State.bindStatus_keeps | dsimp only | split

theorem execAlmClearPosition_keeps {s0 : State} (cal : CalId) (cursor : BitVec 4) {s : State} (hK : Keeps s0 s) :
    Answers (Keeps s0) (execAlmClearPosition cal cursor s) := by
  unfold execAlmClearPosition
  with_reducible repeat' first
    | assumption | intro _ | apply Answers.next | apply State.modCursor_keeps | apply State.bindStatus_keeps | dsimp only
    | split

theorem execAlmReclaimUnload_keeps {s0 : State} (cal : CalId) {s : State} (hK : Keeps s0 s) :
    Answers (Keeps s0) (execAlmReclaimUnload cal s) := by
  unfold execAlmReclaimUnload
  with_reducible repeat' first
    | assumption | intro _ | apply Answers.next | apply State.delCal_keeps | apply State.bindStatus_keeps | dsimp only | split

theorem execAlmNewOwner_keeps {s0 : State} (cal : CalId) (t : Tenant) (src : BitVec 2) {s : State} (hK : Keeps s0 s) :
    Answers (Keeps s0) (execAlmNewOwner cal t src s) := by
  unfold execAlmNewOwner
  with_reducible repeat' first
    | assumption | intro _ | apply Answers.next | apply State.setCal_keeps | apply State.bindStatus_keeps | dsimp only | split

/-! Machine/Directory.lean. -/

theorem State.setDir_keeps {s0 : State} (l : Nat) (d : Dir) {s : State} (hK : Keeps s0 s) :
    Keeps s0 (State.setDir l d s) := by
  unfold State.setDir
  with_reducible repeat' first
    | assumption | intro _ | apply State.modShr_keeps | dsimp only | split

theorem State.delDir_keeps {s0 : State} (l : Nat) {s : State} (hK : Keeps s0 s) :
    Keeps s0 (State.delDir l s) := by
  unfold State.delDir
  with_reducible repeat' first
    | assumption | intro _ | apply State.modShr_keeps | dsimp only | split

theorem State.useDir_keeps {s0 : State} (l : Nat) (d : Dir) {s : State} (hK : Keeps s0 s) :
    Keeps s0 (State.useDir l d s) := by
  unfold State.useDir
  with_reducible repeat' first
    | assumption | intro _ | apply State.setDir_keeps | apply State.modShr_keeps | dsimp only | split

theorem State.holdPlot_keeps {s0 : State} (l : Nat) {s : State} (hK : Keeps s0 s) :
    Keeps s0 (State.holdPlot l s) := by
  unfold State.holdPlot
  with_reducible repeat' first
    | assumption | intro _ | apply State.modShr_keeps | dsimp only | split

theorem State.dropHolder_keeps {s0 : State} (l t : Nat) {s : State} (hK : Keeps s0 s) :
    Keeps s0 (State.dropHolder l t s) := by
  unfold State.dropHolder
  with_reducible repeat' first
    | assumption | intro _ | apply Keeps.ite | apply State.delDir_keeps | apply State.setDir_keeps | dsimp only | split

theorem State.poisonLine_keeps {s0 : State} (l : Nat) {s : State} (hK : Keeps s0 s) :
    Keeps s0 (State.poisonLine l s) := by
  unfold State.poisonLine
  with_reducible repeat' first
    | assumption | intro _ | apply Keeps.ite | apply State.setPoison_keeps | apply State.markWritten_keeps
    | apply State.writeFoot_keeps | dsimp only | split

theorem State.orphan_keeps {s0 : State} (l : Nat) (d : Dir) {s : State} (hK : Keeps s0 s) :
    Keeps s0 (State.orphan l d s) := by
  unfold State.orphan
  with_reducible repeat' first
    | assumption | intro _ | apply Keeps.ite | apply State.setDir_keeps | apply State.delDir_keeps
    | apply State.poisonLine_keeps | apply State.cntStw_keeps | dsimp only | split

theorem State.failHolding_keeps {s0 : State} (l t : Nat) {s : State} (hK : Keeps s0 s) :
    Keeps s0 (State.failHolding l t s) := by
  unfold State.failHolding
  with_reducible repeat' first
    | assumption | intro _ | apply Keeps.ite | apply State.orphan_keeps | apply State.dropHolder_keeps | dsimp only | split

theorem State.lineFailure_keeps {s0 : State} (l t : Nat) {s : State} (hK : Keeps s0 s) :
    Keeps s0 (State.lineFailure l t s) := by
  unfold State.lineFailure
  with_reducible repeat' first
    | assumption | intro _ | apply State.failHolding_keeps | apply State.cntStw_keeps | dsimp only | split

theorem State.sendSnoop_keeps {s0 : State} (why : SnpWhy) (inv : Bool) (l t : Nat) {s : State} (hK : Keeps s0 s) :
    Keeps s0 (State.sendSnoop why inv l t s) := by
  unfold State.sendSnoop
  with_reducible repeat' first
    | assumption | intro _ | apply Keeps.ite | apply State.lineFailure_keeps | apply State.modShr_keeps | apply State.emit_keeps
    | dsimp only | split

theorem State.convertLine_keeps {s0 : State} (l : Nat) {s : State} (hK : Keeps s0 s) :
    Keeps s0 (State.convertLine l s) := by
  unfold State.convertLine
  with_reducible repeat' first
    | assumption | intro _ | apply Keeps.ite | apply Keeps.forAll | apply State.failHolding_keeps | apply State.modShr_keeps
    | dsimp only | split

theorem State.answered_keeps {s0 : State} (n : Snoop) {s : State} (hK : Keeps s0 s) :
    Keeps s0 (State.answered n s) := by
  unfold State.answered
  with_reducible repeat' first
    | assumption | intro _ | apply Keeps.ite | apply State.modShr_keeps | apply State.delDir_keeps
    | apply State.dropHolder_keeps | apply State.setDir_keeps | dsimp only | split

theorem State.dirAfter_keeps {s0 : State} (l t r : Nat) (op : ReqOp) (mv : Meta) {s : State} (hK : Keeps s0 s) :
    Keeps s0 (State.dirAfter l t r op mv s) := by
  unfold State.dirAfter
  with_reducible repeat' first
    | assumption | intro _ | apply State.useDir_keeps | apply State.holdPlot_keeps | apply State.dropHolder_keeps | dsimp only
    | split

theorem State.makeWay_keeps {s0 : State} (l rid : Nat) : ∀ (rest_ : Nat) {s : State}, Keeps s0 s →
    Keeps s0 (State.makeWay l rid rest_ s).2 := by
  intro rest_
  induction rest_ with
  | zero =>
    intro s hK
    unfold State.makeWay
    with_reducible repeat' first
      | assumption | intro _ | apply Keeps.ite | apply Keeps.forAll | apply State.cntStw_keeps | apply State.sendSnoop_keeps
      | apply State.delDir_keeps | dsimp only | split
  | succ n ih =>
    intro s hK
    unfold State.makeWay
    with_reducible repeat' first
      | assumption | apply ih | intro _ | apply Keeps.ite | apply Keeps.forAll | apply State.cntStw_keeps
      | apply State.sendSnoop_keeps | apply State.delDir_keeps | dsimp only | split

theorem State.dirServe_keeps {s0 : State} (l t r rid : Nat) (op : ReqOp) (mv : Meta) {s : State} (hK : Keeps s0 s) :
    Keeps s0 (State.dirServe l t r rid op mv s).2 := by
  unfold State.dirServe
  with_reducible repeat' first
    | assumption | intro _ | apply Keeps.forAll | apply State.makeWay_keeps | apply State.dirAfter_keeps
    | apply State.sendSnoop_keeps | dsimp only | split | (refine Keeps.snd (by assumption) ?_)

theorem State.dirTouch_keeps {s0 : State} (l : Nat) (op : ReqOp) (why : SnpWhy) {s : State} (hK : Keeps s0 s) :
    Keeps s0 (State.dirTouch l op why s).2 := by
  unfold State.dirTouch
  with_reducible repeat' first
    | assumption | intro _ | apply Keeps.forAll | apply State.sendSnoop_keeps | dsimp only | split

theorem State.sendRun_keeps {s0 : State} (why : SnpWhy) (t : Nat) (r : Nat × Nat) {s : State} (hK : Keeps s0 s) :
    Keeps s0 (State.sendRun why t r s) := by
  unfold State.sendRun
  with_reducible repeat' first
    | assumption | intro _ | apply Keeps.forAll | apply State.modShr_keeps | apply State.emit_keeps | dsimp only | split

theorem State.walkTenant_keeps {s0 : State} (w t : Nat) (ls : List Nat) {s : State} (hK : Keeps s0 s) :
    Keeps s0 (State.walkTenant w t ls s) := by
  unfold State.walkTenant
  with_reducible repeat' first
    | assumption | intro _ | apply Keeps.forAll | apply State.lineFailure_keeps | apply State.sendRun_keeps | dsimp only | split

theorem State.startWalk_keeps {s0 : State} (why : WalkWhy) (test : Nat → Bool) (who : Nat → Bool) {s : State} (hK : Keeps s0 s) :
    Keeps s0 (State.startWalk why test who s) := by
  unfold State.startWalk
  with_reducible repeat' first
    | assumption | intro _ | apply Keeps.forAll | apply State.modShr_keeps | apply State.walkTenant_keeps | dsimp only | split

theorem State.trimHeld_keeps {s0 : State} (ps : NSet) {s : State} (hK : Keeps s0 s) :
    Keeps s0 (State.trimHeld ps s) := by
  unfold State.trimHeld
  with_reducible repeat' first
    | assumption | intro _ | apply State.modShr_keeps | dsimp only | split

/-! Machine/Windows.lean. -/

theorem State.shadowWrite_keeps {s0 : State} (t : Nat) (f : Wtt → Wtt) {s : State} (hK : Keeps s0 s) :
    Keeps s0 (State.shadowWrite t f s).2 := by
  unfold State.shadowWrite
  with_reducible repeat' first
    | assumption | intro _ | apply State.modStw_keeps | apply State.modWtt_keeps | dsimp only | split

theorem State.writeWttCfg_keeps {s0 : State} (t : Nat) (v : W32) {s : State} (hK : Keeps s0 s) :
    Keeps s0 (State.writeWttCfg t v s) := by
  unfold State.writeWttCfg
  with_reducible repeat' first
    | assumption | intro _ | apply State.shadowWrite_keeps | dsimp only | split

theorem execWttDataWrite_keeps {s0 : State} (v : W32) {s : State} (hK : Keeps s0 s) :
    Answers (Keeps s0) (execWttDataWrite v s) := by
  unfold execWttDataWrite
  with_reducible repeat' first
    | assumption | intro _ | apply Answers.next | apply Keeps.ite | apply State.shadowWrite_keeps | apply State.setStw_keeps
    | dsimp only | split | (refine Keeps.snd (by assumption) ?_)

theorem State.commitStatus_keeps {s0 : State} (st : Status) (t : Nat) {s : State} (hK : Keeps s0 s) :
    Keeps s0 (State.commitStatus st t s) := by
  unfold State.commitStatus
  with_reducible repeat' first
    | assumption | intro _ | apply State.setStw_keeps | dsimp only | split

theorem State.walkCommit_keeps {s0 : State} (t : Nat) {s : State} (hK : Keeps s0 s) :
    Keeps s0 (State.walkCommit t s) := by
  unfold State.walkCommit
  with_reducible repeat' first
    | assumption | intro _ | apply Keeps.ite | apply State.modWtt_keeps | apply State.startWalk_keeps | dsimp only | split

theorem State.advanceCommit_keeps {s0 : State} (g : NSet) {s : State} (hK : Keeps s0 s) :
    Keeps s0 (State.advanceCommit g s) := by
  unfold State.advanceCommit
  with_reducible repeat' first
    | assumption | intro _ | apply Keeps.ite | apply Keeps.forAll | apply State.walkCommit_keeps | dsimp only | split

theorem State.schedule_keeps {s0 : State} (named : NSet) {s : State} (hK : Keeps s0 s) :
    Keeps s0 (State.schedule named s) := by
  unfold State.schedule
  with_reducible repeat' first
    | assumption | intro _ | apply Keeps.forAll | apply State.modWtt_keeps | apply State.advanceCommit_keeps
    | (fail_if_no_progress apply Keeps.set_flip) | dsimp only | split

theorem execWttCommit_keeps {s0 : State} (t : Tenant) {s : State} (hK : Keeps s0 s) :
    Answers (Keeps s0) (execWttCommit t s) := by
  unfold execWttCommit
  with_reducible repeat' first
    | assumption | intro _ | apply Answers.next | apply State.commitStatus_keeps | apply State.schedule_keeps | dsimp only
    | split

theorem execWttGroupCommit_keeps {s0 : State} {s : State} (hK : Keeps s0 s) :
    Answers (Keeps s0) (execWttGroupCommit s) := by
  unfold execWttGroupCommit
  with_reducible repeat' first
    | assumption | intro _ | apply Answers.next | apply State.commitStatus_keeps | apply State.schedule_keeps | dsimp only
    | split

theorem execWttCopy_keeps {s0 : State} (t : Tenant) {s : State} (hK : Keeps s0 s) :
    Answers (Keeps s0) (execWttCopy t s) := by
  unfold execWttCopy
  with_reducible repeat' first
    | assumption | intro _ | apply Answers.next | apply Answers.ite | apply State.commitStatus_keeps | apply State.modWtt_keeps
    | dsimp only | split

theorem execWttCommitReserved_keeps {s0 : State} (_t : Tenant) {s : State} (hK : Keeps s0 s) :
    Answers (Keeps s0) (execWttCommitReserved _t s) := by
  unfold execWttCommitReserved
  with_reducible repeat' first
    | assumption | intro _ | apply Answers.next | apply State.commitStatus_keeps | dsimp only | split

theorem State.capacity_keeps {s0 : State} (t std : Nat) (l : List (Nat × Nat × Nat)) {s : State} (hK : Keeps s0 s) :
    Keeps s0 (State.capacity t std l s) := by
  unfold State.capacity
  with_reducible repeat' first
    | assumption | intro _ | apply Keeps.forAll | apply State.tenantLog_keeps | dsimp only | split

theorem State.flipOne_keeps {s0 : State} (t : Nat) {s : State} (hK : Keeps s0 s) :
    Keeps s0 (State.flipOne t s) := by
  unfold State.flipOne
  with_reducible repeat' first
    | assumption | intro _ | apply State.setWtt_keeps | apply State.modWtt_keeps | apply State.capacity_keeps | dsimp only
    | split

theorem State.flipGroup_keeps {s0 : State} (g : NSet) {s : State} (hK : Keeps s0 s) :
    Keeps s0 (State.flipGroup g s) := by
  unfold State.flipGroup
  with_reducible repeat' first
    | assumption | intro _ | apply Keeps.forAll | apply State.flipOne_keeps | (fail_if_no_progress apply Keeps.set_flip)
    | dsimp only | split

theorem execWttFlip_keeps {s0 : State} {s : State} (hK : Keeps s0 s) :
    Answers (Keeps s0) (execWttFlip s) := by
  unfold execWttFlip
  with_reducible repeat' first
    | assumption | intro _ | apply Answers.next | apply State.flipGroup_keeps | dsimp only | split

theorem execOldDone_keeps {s0 : State} (t : Tenant) {s : State} (hK : Keeps s0 s) :
    Answers (Keeps s0) (execOldDone t s) := by
  unfold execOldDone
  with_reducible repeat' first
    | assumption | intro _ | apply Answers.next | apply Answers.ite | apply Keeps.ite | apply State.modWtt_keeps
    | apply State.advanceCommit_keeps | apply State.flipGroup_keeps | dsimp only | split

/-! Machine/Rings.lean. -/

theorem State.ringSettle_keeps {s0 : State} (t r : Nat) {s : State} (hK : Keeps s0 s) :
    Keeps s0 (State.ringSettle t r s) := by
  unfold State.ringSettle
  with_reducible repeat' first
    | assumption | intro _ | apply Keeps.ite | apply State.modRing_keeps | dsimp only | split

theorem State.voidFetch_keeps {s0 : State} (t r : Nat) {s : State} (hK : Keeps s0 s) :
    Keeps s0 (State.voidFetch t r s) := by
  unfold State.voidFetch
  with_reducible repeat' first
    | assumption | intro _ | apply State.modLd_keeps | apply State.modRing_keeps | (fail_if_no_progress apply Keeps.set_tags)
    | dsimp only | split

theorem State.stopRing_keeps {s0 : State} (t r cause : Nat) {s : State} (hK : Keeps s0 s) :
    Keeps s0 (State.stopRing t r cause s) := by
  unfold State.stopRing
  with_reducible repeat' first
    | assumption | intro _ | apply Keeps.ite | apply State.setRing_keeps | apply State.voidFetch_keeps
    | apply State.logRec_keeps | apply State.raiseMsix_keeps | dsimp only | split

theorem execRingEnable_keeps {s0 : State} (t : Tenant) (r : BitVec 4) (v : W32) {s : State} (hK : Keeps s0 s) :
    Answers (Keeps s0) (execRingEnable t r v s) := by
  unfold execRingEnable
  with_reducible repeat' first
    | assumption | intro _ | apply Answers.next | apply Keeps.ite | apply State.setBar_keeps | apply State.setRing_keeps
    | apply State.voidFetch_keeps | dsimp only | split

theorem execRingDisable_keeps {s0 : State} (t : Tenant) (r : BitVec 4) (v : W32) {s : State} (hK : Keeps s0 s) :
    Answers (Keeps s0) (execRingDisable t r v s) := by
  unfold execRingDisable
  with_reducible repeat' first
    | assumption | intro _ | apply Answers.next | apply Keeps.ite | apply State.setBar_keeps | apply State.setRing_keeps
    | apply State.voidFetch_keeps | apply State.ringSettle_keeps | dsimp only | split

theorem execRingRestart_keeps {s0 : State} (t : Tenant) (r : BitVec 4) {s : State} (hK : Keeps s0 s) :
    Answers (Keeps s0) (execRingRestart t r s) := by
  unfold execRingRestart
  with_reducible repeat' first
    | assumption | intro _ | apply Answers.next | apply State.setRing_keeps | dsimp only | split

theorem State.doorbell_keeps {s0 : State} (t r tail : Nat) {s : State} (hK : Keeps s0 s) :
    Keeps s0 (State.doorbell t r tail s) := by
  unfold State.doorbell
  with_reducible repeat' first
    | assumption | intro _ | apply Keeps.ite | apply State.cntBar_keeps | apply State.modLd_keeps | apply State.modRing_keeps
    | dsimp only | split

theorem State.doorbellWords_keeps {s0 : State} (t : Nat) (d : Line) (be : W64) (poison : Bool) {s : State} (hK : Keeps s0 s) :
    Keeps s0 (State.doorbellWords t d be poison s) := by
  unfold State.doorbellWords
  with_reducible repeat' first
    | assumption | intro _ | apply Keeps.ite | apply Keeps.forAll | apply State.doorbell_keeps | dsimp only | split

theorem State.doorbellWrite_keeps {s0 : State} (t c : Nat) (d : Line) (be : W64) (poison : Bool) {s : State} (hK : Keeps s0 s) :
    Keeps s0 (State.doorbellWrite t c d be poison s) := by
  unfold State.doorbellWrite
  with_reducible repeat' first
    | assumption | intro _ | apply State.doorbellWords_keeps | apply State.emit_keeps | dsimp only | split

theorem State.doorbellRead_keeps {s0 : State} (t c : Nat) {s : State} (hK : Keeps s0 s) :
    Keeps s0 (State.doorbellRead t c s) := by
  unfold State.doorbellRead
  with_reducible repeat' first
    | assumption | intro _ | apply State.emit_keeps | dsimp only | split

theorem execDoorbellLineWrite_keeps {s0 : State} (t : Tenant) (data : Line) (be : W64) (poison : Bool) {s : State} (hK : Keeps s0 s) :
    Answers (Keeps s0) (execDoorbellLineWrite t data be poison s) := by
  unfold execDoorbellLineWrite
  with_reducible repeat' first
    | assumption | intro _ | apply Answers.next | apply Keeps.ite | apply State.doorbellWrite_keeps | dsimp only | split

theorem execDoorbellLineRead_keeps {s0 : State} (t : Tenant) {s : State} (hK : Keeps s0 s) :
    Answers (Keeps s0) (execDoorbellLineRead t s) := by
  unfold execDoorbellLineRead
  with_reducible repeat' first
    | assumption | intro _ | apply Answers.next | apply Keeps.ite | apply State.doorbellRead_keeps | dsimp only | split

theorem execMmioDoorbell_keeps {s0 : State} (t : Tenant) (v : W32) {s : State} (hK : Keeps s0 s) :
    Answers (Keeps s0) (execMmioDoorbell t v s) := by
  unfold execMmioDoorbell
  with_reducible repeat' first
    | assumption | intro _ | apply Answers.next | apply State.doorbell_keeps | dsimp only | split

theorem execRingFetch_keeps {s0 : State} (t : Tenant) {s : State} (hK : Keeps s0 s) :
    Answers (Keeps s0) (execRingFetch t s) := by
  unfold execRingFetch
  with_reducible repeat' first
    | assumption | intro _ | apply Answers.next | apply Answers.ite | apply State.modEng_keeps | apply State.modRing_keeps
    | apply State.dmaRead_keeps | dsimp only | split

theorem State.dropTag_keeps {s0 : State} (g : Nat) {s : State} (hK : Keeps s0 s) :
    Keeps s0 (State.dropTag g s) := by
  unfold State.dropTag
  with_reducible repeat' first
    | assumption | intro _ | (fail_if_no_progress apply Keeps.set_tags) | dsimp only | split

theorem State.fetchEnds_keeps {s0 : State} (t r first cnt : Nat) (res : Except Nat (List Line)) {s : State} (hK : Keeps s0 s) :
    Keeps s0 (State.fetchEnds t r first cnt res s) := by
  unfold State.fetchEnds
  with_reducible repeat' first
    | assumption | intro _ | apply Keeps.ite | apply State.setRing_keeps | apply State.stopRing_keeps
    | apply State.modRing_keeps | dsimp only | split

theorem State.unexpected_keeps {s0 : State} (t : Nat) {s : State} (hK : Keeps s0 s) :
    Keeps s0 (State.unexpected t s) := by
  unfold State.unexpected
  with_reducible repeat' first
    | assumption | intro _ | apply State.cntBar_keeps | apply State.modLd_keeps | dsimp only | split

theorem execDescriptorFetchCompletion_keeps {s0 : State} (tag : Nat) (c : Cpl) {s : State} (hK : Keeps s0 s) :
    Answers (Keeps s0) (execDescriptorFetchCompletion tag c s) := by
  unfold execDescriptorFetchCompletion
  with_reducible repeat' first
    | assumption | intro _ | apply Answers.next | apply State.dropTag_keeps | apply State.fetchEnds_keeps
    | apply State.unexpected_keeps | dsimp only | split

theorem State.writeRecord_keeps {s0 : State} (t ring : Nat) (d : Line) (st : Status) (detail : Nat) (acc : Bool) {s : State} (hK : Keeps s0 s) :
    Keeps s0 (State.writeRecord t ring d st detail acc s) := by
  unfold State.writeRecord
  with_reducible repeat' first
    | assumption | intro _ | apply Keeps.ite | apply State.setEng_keeps | apply State.request_keeps
    | apply State.raiseMsix_keeps | dsimp only | split

theorem State.complete_keeps {s0 : State} (t ring : Nat) (d : Line) (st : Status) (detail : Nat) (acc : Bool) {s : State} (hK : Keeps s0 s) :
    Keeps s0 (State.complete t ring d st detail acc s) := by
  unfold State.complete
  with_reducible repeat' first
    | assumption | intro _ | apply Keeps.ite | apply State.writeRecord_keeps | apply State.stopRing_keeps
    | apply State.ringSettle_keeps | dsimp only | split

theorem execInterruptCoalesceExpire_keeps {s0 : State} (t : Tenant) {s : State} (hK : Keeps s0 s) :
    Answers (Keeps s0) (execInterruptCoalesceExpire t s) := by
  unfold execInterruptCoalesceExpire
  with_reducible repeat' first
    | assumption | intro _ | apply Answers.next | apply Answers.ite | apply Keeps.ite | apply State.setEng_keeps
    | apply State.raiseMsix_keeps | dsimp only | split

theorem execCqEnable_keeps {s0 : State} (t : Tenant) (v : W32) {s : State} (hK : Keeps s0 s) :
    Answers (Keeps s0) (execCqEnable t v s) := by
  unfold execCqEnable
  with_reducible repeat' first
    | assumption | intro _ | apply Answers.next | apply Keeps.ite | apply State.setBar_keeps | apply State.modEng_keeps
    | dsimp only | split

theorem execCqDisable_keeps {s0 : State} (t : Tenant) (v : W32) {s : State} (hK : Keeps s0 s) :
    Answers (Keeps s0) (execCqDisable t v s) := by
  unfold execCqDisable
  with_reducible repeat' first
    | assumption | intro _ | apply Answers.next | apply State.setBar_keeps | dsimp only | split

theorem execCqHeadWrite_keeps {s0 : State} (t : Tenant) (v : W32) {s : State} (hK : Keeps s0 s) :
    Answers (Keeps s0) (execCqHeadWrite t v s) := by
  unfold execCqHeadWrite
  with_reducible repeat' first
    | assumption | intro _ | apply Answers.next | apply Answers.ite | apply State.modEng_keeps | apply State.modBar_keeps
    | dsimp only | split

/-! Machine/Requests.lean. -/

theorem State.endReq_keeps {s0 : State} (r : Req) (c : Status) {s : State} (hK : Keeps s0 s) :
    Keeps s0 (State.endReq r c s) := by
  unfold State.endReq
  with_reducible repeat' first
    | assumption | intro _ | apply State.latency_keeps | apply State.emit_keeps | dsimp only | split

theorem State.endData_keeps {s0 : State} (r : Req) (d : Line) {s : State} (hK : Keeps s0 s) :
    Keeps s0 (State.endData r d s) := by
  unfold State.endData
  with_reducible repeat' first
    | assumption | intro _ | apply State.latency_keeps | apply State.emit_keeps | dsimp only | split

theorem State.reqRecord_keeps {s0 : State} (r : Req) (loc why : Nat) (st : Status) {s : State} (hK : Keeps s0 s) :
    Keeps s0 (State.reqRecord r loc why st s) := by
  unfold State.reqRecord
  with_reducible repeat' first
    | assumption | intro _ | apply State.logRec_keeps | dsimp only | split

theorem State.endTimeout_keeps {s0 : State} (r : Req) {s : State} (hK : Keeps s0 s) :
    Keeps s0 (State.endTimeout r s) := by
  unfold State.endTimeout
  with_reducible repeat' first
    | assumption | intro _ | apply State.reqRecord_keeps | apply State.endReq_keeps | dsimp only | split

theorem State.farFails_keeps {s0 : State} (u : DmaUse) (c : Status) {s : State} (hK : Keeps s0 s) :
    Keeps s0 (State.farFails u c s) := by
  unfold State.farFails
  with_reducible repeat' first
    | assumption | intro _ | apply Keeps.ite | apply State.endTimeout_keeps | apply State.endReq_keeps
    | apply State.farArrive_keeps | apply State.closeBlk_keeps | apply State.abandonPromotion_keeps | dsimp only | split

theorem State.failReadsOf_keeps {s0 : State} (t : Nat) (d : DmaUse → Bool) (c : Status) {s : State} (hK : Keeps s0 s) :
    Keeps s0 (State.failReadsOf t d c s) := by
  unfold State.failReadsOf
  with_reducible repeat' first
    | assumption | intro _ | apply Keeps.forAll | apply State.modLd_keeps | apply State.farFails_keeps
    | (fail_if_no_progress apply Keeps.set_tags) | dsimp only | split

theorem State.failTierReads_keeps {s0 : State} (ps : List Nat) {s : State} (hK : Keeps s0 s) :
    Keeps s0 (State.failTierReads ps s) := by
  unfold State.failTierReads
  with_reducible repeat' first
    | assumption | intro _ | apply Keeps.forAll | apply State.endReq_keeps | apply State.modDmc_keeps | dsimp only | split

theorem State.loseExtent_keeps {s0 : State} (l cause : Nat) {s : State} (hK : Keeps s0 s) :
    Keeps s0 (State.loseExtent l cause s) := by
  unfold State.loseExtent
  with_reducible repeat' first
    | assumption | intro _ | apply Keeps.ite | apply Keeps.forAll | apply State.modStw_keeps | apply State.modPlot_keeps
    | apply State.dropNear_keeps | apply State.dropOpen_keeps | apply State.cancelMove_keeps | apply State.settle_keeps
    | apply State.failTierReads_keeps | apply State.failReadsOf_keeps | apply State.farDrop_keeps | apply State.logRec_keeps
    | dsimp only | split

/-! Machine/HostMem.lean. -/

theorem State.waitClose_keeps {s0 : State} (r : Req) {s : State} (hK : Keeps s0 s) :
    Keeps s0 (State.waitClose r s) := by
  unfold State.waitClose
  with_reducible repeat' first
    | assumption | intro _ | apply State.modCmp_keeps | dsimp only | split

theorem State.readReq_keeps {s0 : State} (r : Req) (began : Bool) (got : Option (Except Status (List Byte))) {s : State} (hK : Keeps s0 s) :
    Keeps s0 (State.readReq r began got s) := by
  unfold State.readReq
  with_reducible repeat' first
    | assumption | intro _ | apply Keeps.ite | apply State.waitClose_keeps | apply State.modDmc_keeps
    | apply State.readLine_keeps | apply State.endData_keeps | apply State.endReq_keeps | apply State.dmaRead_keeps | dsimp only
    | split | (refine Keeps.snd (by assumption) ?_)

theorem State.writeReq_keeps {s0 : State} (r : Req) {s : State} (hK : Keeps s0 s) :
    Keeps s0 (State.writeReq r s) := by
  unfold State.writeReq
  with_reducible repeat' first
    | assumption | intro _ | apply Keeps.ite | apply State.waitClose_keeps | apply State.makeBuffer_keeps
    | apply State.writeLine_keeps | apply State.endReq_keeps | dsimp only | split

theorem State.closeResume_keeps {s0 : State} {s : State} (hK : Keeps s0 s) :
    Keeps s0 (State.closeResume s) := by
  unfold State.closeResume
  with_reducible repeat' first
    | assumption | intro _ | apply Keeps.ite | apply Keeps.forAll | apply State.writeReq_keeps | apply State.readReq_keeps
    | apply State.modCmp_keeps | dsimp only | split

theorem State.tierReq_keeps {s0 : State} (r : Req) {s : State} (hK : Keeps s0 s) :
    Keeps s0 (State.tierReq r s) := by
  unfold State.tierReq
  with_reducible repeat' first
    | assumption | intro _ | apply Keeps.ite | apply State.access_keeps | apply State.readReq_keeps | apply State.writeReq_keeps
    | apply State.endReq_keeps | (fail_if_no_progress apply Keeps.set_bridge) | dsimp only | split

theorem State.countWrdrop_keeps {s0 : State} (t : Nat) {s : State} (hK : Keeps s0 s) :
    Keeps s0 (State.countWrdrop t s) := by
  unfold State.countWrdrop
  with_reducible repeat' first
    | assumption | intro _ | apply State.cntBar_keeps | dsimp only | split

theorem State.countOrphrd_keeps {s0 : State} (t : Nat) {s : State} (hK : Keeps s0 s) :
    Keeps s0 (State.countOrphrd t s) := by
  unfold State.countOrphrd
  with_reducible repeat' first
    | assumption | intro _ | apply State.cntBar_keeps | dsimp only | split

theorem State.waitReq_keeps {s0 : State} (r : Req) (front : Bool) {s : State} (hK : Keeps s0 s) :
    Keeps s0 (State.waitReq r front s) := by
  unfold State.waitReq
  with_reducible repeat' first
    | assumption | intro _ | apply Keeps.ite | apply State.modShr_keeps | dsimp only | split

theorem State.orphanReq_keeps {s0 : State} (r : Req) {s : State} (hK : Keeps s0 s) :
    Keeps s0 (State.orphanReq r s) := by
  unfold State.orphanReq
  with_reducible repeat' first
    | assumption | intro _ | apply State.countOrphrd_keeps | apply State.endReq_keeps | apply State.countWrdrop_keeps
    | dsimp only | split

theorem State.serveReq_keeps {s0 : State} (front : Bool) (r : Req) {s : State} (hK : Keeps s0 s) :
    Keeps s0 (State.serveReq front r s) := by
  unfold State.serveReq
  with_reducible repeat' first
    | assumption | intro _ | apply Keeps.ite | apply State.convertLine_keeps | apply State.modShr_keeps
    | apply State.countWrdrop_keeps | apply State.endReq_keeps | apply State.orphanReq_keeps | apply State.dirServe_keeps
    | apply State.tierReq_keeps | apply State.waitReq_keeps | apply State.dirTouch_keeps | dsimp only | split
    | (refine Keeps.snd (by assumption) ?_)

theorem State.rerun_keeps {s0 : State} (d : Req → Bool) {s : State} (hK : Keeps s0 s) :
    Keeps s0 (State.rerun d s) := by
  unfold State.rerun
  with_reducible repeat' first
    | assumption | intro _ | apply Keeps.forAll | apply State.modShr_keeps | apply State.serveReq_keeps | dsimp only | split

theorem State.lineFree_keeps {s0 : State} (l : Nat) {s : State} (hK : Keeps s0 s) :
    Keeps s0 (State.lineFree l s) := by
  unfold State.lineFree
  with_reducible repeat' first
    | assumption | intro _ | apply Keeps.ite | apply State.rerun_keeps | dsimp only | split

theorem State.snoopDone_keeps {s0 : State} (n : Snoop) {s : State} (hK : Keeps s0 s) :
    Keeps s0 (State.snoopDone n s) := by
  unfold State.snoopDone
  with_reducible repeat' first
    | assumption | intro _ | apply Keeps.ite | apply State.rerun_keeps | apply State.lineFree_keeps | dsimp only | split

theorem State.toHome_keeps {s0 : State} (r : Req) {s : State} (hK : Keeps s0 s) :
    Keeps s0 (State.toHome r s) := by
  unfold State.toHome
  with_reducible repeat' first
    | assumption | intro _ | apply Keeps.ite | apply State.endReq_keeps | apply State.serveReq_keeps
    | (fail_if_no_progress apply Keeps.set_bridge) | dsimp only | split

theorem State.passCopy_keeps {s0 : State} (t p : Nat) (e : Plot) {s : State} (hK : Keeps s0 s) :
    Keeps s0 (State.passCopy t p e s) := by
  unfold State.passCopy
  with_reducible repeat' first
    | assumption | intro _ | apply State.modHg_keeps | apply State.setPlot_keeps | dsimp only | split

theorem State.unholdReq_keeps {s0 : State} (r : Req) {s : State} (hK : Keeps s0 s) :
    Keeps s0 (State.unholdReq r s) := by
  unfold State.unholdReq
  with_reducible repeat' first
    | assumption | intro _ | apply State.modHg_keeps | dsimp only | split

theorem State.passReq_keeps {s0 : State} (t : Nat) (r : Req) {s : State} (hK : Keeps s0 s) :
    Keeps s0 (State.passReq t r s) := by
  unfold State.passReq
  with_reducible repeat' first
    | assumption | intro _ | apply Keeps.ite | apply State.unholdReq_keeps | apply State.modHg_keeps | apply State.toHome_keeps
    | dsimp only | split

theorem State.admitHeld_keeps {s0 : State} (t : Nat) {s : State} (hK : Keeps s0 s) :
    Keeps s0 (State.admitHeld t s).2 := by
  unfold State.admitHeld
  with_reducible repeat' first
    | assumption | intro _ | apply State.passReq_keeps | apply State.passCopy_keeps | dsimp only | split

theorem State.admitUpTo_keeps {s0 : State} (t : Nat) : ∀ (rest_ : Nat) {s : State}, Keeps s0 s →
    Keeps s0 (State.admitUpTo t rest_ s) := by
  intro rest_
  induction rest_ with
  | zero =>
    intro s hK
    unfold State.admitUpTo
    with_reducible repeat' first
      | assumption | intro _ | apply State.admitHeld_keeps | dsimp only | split | (refine Keeps.snd (by assumption) ?_)
  | succ n ih =>
    intro s hK
    unfold State.admitUpTo
    with_reducible repeat' first
      | assumption | apply ih | intro _ | apply State.admitHeld_keeps | dsimp only | split
      | (refine Keeps.snd (by assumption) ?_)

theorem State.admitAll_keeps {s0 : State} (t : Nat) {s : State} (hK : Keeps s0 s) :
    Keeps s0 (State.admitAll t s) := by
  unfold State.admitAll
  with_reducible repeat' first
    | assumption | intro _ | apply State.admitUpTo_keeps | dsimp only | split

theorem State.headgate_keeps {s0 : State} (r : Req) {s : State} (hK : Keeps s0 s) :
    Keeps s0 (State.headgate r s) := by
  unfold State.headgate
  with_reducible repeat' first
    | assumption | intro _ | apply Keeps.ite | apply State.weirAdmit_keeps | apply State.setHg_keeps
    | apply State.heldMark_keeps | apply State.toHome_keeps | dsimp only | split | (refine Keeps.snd (by assumption) ?_)

theorem execHeadgateAdmit_keeps {s0 : State} (t : Tenant) {s : State} (hK : Keeps s0 s) :
    Answers (Keeps s0) (execHeadgateAdmit t s) := by
  unfold execHeadgateAdmit
  with_reducible repeat' first
    | assumption | intro _ | apply Answers.next | apply State.admitHeld_keeps | dsimp only | split

theorem State.wttStage_keeps {s0 : State} (r : Req) {s : State} (hK : Keeps s0 s) :
    Keeps s0 (State.wttStage r s) := by
  unfold State.wttStage
  with_reducible repeat' first
    | assumption | intro _ | apply Keeps.ite | apply State.modShr_keeps | apply State.cntBar_keeps | apply State.headgate_keeps
    | apply State.endReq_keeps | dsimp only | split

theorem State.resume291_keeps {s0 : State} {s : State} (hK : Keeps s0 s) :
    Keeps s0 (State.resume291 s) := by
  unfold State.resume291
  with_reducible repeat' first
    | assumption | intro _ | apply Keeps.forAll | apply State.wttStage_keeps | apply State.modShr_keeps | dsimp only | split

theorem State.hostReq_keeps {s0 : State} (p : PortId) (ld : BitVec 4) (op : ReqOp) (hpa : W64) (mv : Meta) (d : Line) (be : W64) (poison : Bool) (md : Media) {s : State} (hK : Keeps s0 s) :
    Keeps s0 (State.hostReq p ld op hpa mv d be poison md s) := by
  unfold State.hostReq
  with_reducible repeat' first
    | assumption | intro _ | apply Keeps.ite | apply State.cntStw_keeps | apply State.emit_keeps | apply State.cntBar_keeps
    | apply State.reqRecord_keeps | apply State.doorbellWrite_keeps | apply State.doorbellRead_keeps
    | apply State.wttStage_keeps | (fail_if_no_progress apply Keeps.set_nextReq) | dsimp only | split

theorem execHostMemRead_keeps {s0 : State} (p : PortId) (ld : BitVec 4) (hpa : W64) (mv : Meta) (md : Media) {s : State} (hK : Keeps s0 s) :
    Answers (Keeps s0) (execHostMemRead p ld hpa mv md s) := by
  unfold execHostMemRead
  with_reducible repeat' first
    | assumption | intro _ | apply Answers.next | apply State.hostReq_keeps | dsimp only | split

theorem execHostMemWrite_keeps {s0 : State} (p : PortId) (ld : BitVec 4) (hpa : W64) (mv : Meta) (data : Line) (be : W64) (poison : Bool) {s : State} (hK : Keeps s0 s) :
    Answers (Keeps s0) (execHostMemWrite p ld hpa mv data be poison s) := by
  unfold execHostMemWrite
  with_reducible repeat' first
    | assumption | intro _ | apply Answers.next | apply State.hostReq_keeps | dsimp only | split

theorem execHostMemInv_keeps {s0 : State} (p : PortId) (ld : BitVec 4) (hpa : W64) (mv : Meta) {s : State} (hK : Keeps s0 s) :
    Answers (Keeps s0) (execHostMemInv p ld hpa mv s) := by
  unfold execHostMemInv
  with_reducible repeat' first
    | assumption | intro _ | apply Answers.next | apply State.hostReq_keeps | dsimp only | split

theorem execFarReadCompletion_keeps {s0 : State} (tag : Nat) (data : List Byte) (poison : Bool) {s : State} (hK : Keeps s0 s) :
    Answers (Keeps s0) (execFarReadCompletion tag data poison s) := by
  unfold execFarReadCompletion
  with_reducible repeat' first
    | assumption | intro _ | apply Answers.next | apply Answers.ite | apply State.dropTag_keeps | apply State.readReq_keeps
    | apply State.farFails_keeps | apply State.closeResume_keeps | apply State.farArrive_keeps | apply State.closeBlk_keeps
    | apply State.farDrop_keeps | apply State.unexpected_keeps | dsimp only | split

theorem execTierReadReturn_keeps {s0 : State} (id : Nat) (md : Media) {s : State} (hK : Keeps s0 s) :
    Answers (Keeps s0) (execTierReadReturn id md s) := by
  unfold execTierReadReturn
  with_reducible repeat' first
    | assumption | intro _ | apply Answers.next | apply Answers.ite | apply State.modDmc_keeps | apply State.readReq_keeps
    | dsimp only | split

theorem execTierReadTimeout_keeps {s0 : State} (id : Nat) {s : State} (hK : Keeps s0 s) :
    Answers (Keeps s0) (execTierReadTimeout id s) := by
  unfold execTierReadTimeout
  with_reducible repeat' first
    | assumption | intro _ | apply Answers.next | apply Answers.ite | apply State.modDmc_keeps | apply State.cntStw_keeps
    | apply State.endTimeout_keeps | dsimp only | split

theorem execTierReadLateReturn_keeps {s0 : State} (id : Nat) {s : State} (hK : Keeps s0 s) :
    Answers (Keeps s0) (execTierReadLateReturn id s) := by
  unfold execTierReadLateReturn
  with_reducible repeat' first
    | assumption | intro _ | apply Answers.next | apply Answers.ite | apply State.modDmc_keeps | apply State.cntStw_keeps
    | dsimp only | split

theorem execWriteCompressorClose_keeps {s0 : State} (p : PortId) {s : State} (hK : Keeps s0 s) :
    Answers (Keeps s0) (execWriteCompressorClose p s) := by
  unfold execWriteCompressorClose
  with_reducible repeat' first
    | assumption | intro _ | apply Answers.next | apply State.closeBlk_keeps | apply State.closeResume_keeps
    | apply State.makeBuffer_keeps | dsimp only | split

theorem execDirectoryWaitResume_keeps {s0 : State} (h : Half) {s : State} (hK : Keeps s0 s) :
    Answers (Keeps s0) (execDirectoryWaitResume h s) := by
  unfold execDirectoryWaitResume
  with_reducible repeat' first
    | assumption | intro _ | apply Answers.next | apply State.modShr_keeps | apply State.serveReq_keeps | dsimp only | split

theorem execCompletionTimeout_keeps {s0 : State} (tag : Nat) {s : State} (hK : Keeps s0 s) :
    Answers (Keeps s0) (execCompletionTimeout tag s) := by
  unfold execCompletionTimeout
  with_reducible repeat' first
    | assumption | intro _ | apply Answers.next | apply State.dropTag_keeps | apply State.modLd_keeps | apply State.cntBar_keeps
    | apply State.fetchEnds_keeps | apply State.farFails_keeps | apply State.asgnResume_keeps | apply State.closeResume_keeps
    | (fail_if_no_progress apply Keeps.set_quarantine) | dsimp only | split

theorem execTagQuarantineExpire_keeps {s0 : State} (tag : Nat) {s : State} (hK : Keeps s0 s) :
    Answers (Keeps s0) (execTagQuarantineExpire tag s) := by
  unfold execTagQuarantineExpire
  with_reducible repeat' first
    | assumption | intro _ | apply Answers.next | (fail_if_no_progress apply Keeps.set_quarantine) | dsimp only | split

theorem execUnexpectedCompletion_keeps {s0 : State} (t : Tenant) (tag : Nat) {s : State} (hK : Keeps s0 s) :
    Answers (Keeps s0) (execUnexpectedCompletion t tag s) := by
  unfold execUnexpectedCompletion
  with_reducible repeat' first
    | assumption | intro _ | apply Answers.next | apply Keeps.ite | apply State.unexpected_keeps | dsimp only | split

theorem execFarDmaErrorCompletion_keeps {s0 : State} (tag : Nat) {s : State} (hK : Keeps s0 s) :
    Answers (Keeps s0) (execFarDmaErrorCompletion tag s) := by
  unfold execFarDmaErrorCompletion
  with_reducible repeat' first
    | assumption | intro _ | apply Answers.next | apply State.loseExtent_keeps | apply State.asgnResume_keeps
    | apply State.dropTag_keeps | apply State.farFails_keeps | apply State.closeResume_keeps | apply State.unexpected_keeps
    | dsimp only | split

theorem execFarEnable_keeps {s0 : State} (t : Tenant) {s : State} (hK : Keeps s0 s) :
    Answers (Keeps s0) (execFarEnable t s) := by
  unfold execFarEnable
  with_reducible repeat' first
    | assumption | intro _ | apply Answers.next | apply Answers.ite | apply State.modStw_keeps | dsimp only | split

theorem execFarDisable_keeps {s0 : State} (t : Tenant) {s : State} (hK : Keeps s0 s) :
    Answers (Keeps s0) (execFarDisable t s) := by
  unfold execFarDisable
  with_reducible repeat' first
    | assumption | intro _ | apply Answers.next | apply Answers.ite | apply State.modStw_keeps | apply State.loseExtent_keeps
    | apply State.asgnResume_keeps | apply State.closeResume_keeps | dsimp only | split

theorem execFarRevoke_keeps {s0 : State} (t : Tenant) {s : State} (hK : Keeps s0 s) :
    Answers (Keeps s0) (execFarRevoke t s) := by
  unfold execFarRevoke
  with_reducible repeat' first
    | assumption | intro _ | apply Answers.next | apply State.loseExtent_keeps | apply State.asgnResume_keeps
    | apply State.closeResume_keeps | dsimp only | split

/-! Machine/Shared.lean. -/

theorem execRegionEnable_keeps {s0 : State} (v : W32) {s : State} (hK : Keeps s0 s) :
    Answers (Keeps s0) (execRegionEnable v s) := by
  unfold execRegionEnable
  with_reducible repeat' first
    | assumption | intro _ | apply Answers.next | apply Answers.ite | apply State.setRegion_keeps | apply State.modRegion_keeps
    | dsimp only | split

theorem execRegionDisable_keeps {s0 : State} {s : State} (hK : Keeps s0 s) :
    Answers (Keeps s0) (execRegionDisable s) := by
  unfold execRegionDisable
  with_reducible repeat' first
    | assumption | intro _ | apply Answers.next | apply Answers.ite | apply State.setRegion_keeps | dsimp only | split

theorem State.writeBack_keeps {s0 : State} (n : Snoop) (d : Line) (poison : Bool) {s : State} (hK : Keeps s0 s) :
    Keeps s0 (State.writeBack n d poison s) := by
  unfold State.writeBack
  with_reducible repeat' first
    | assumption | intro _ | apply Keeps.ite | apply State.countWrdrop_keeps | apply State.access_keeps
    | apply State.writeLine_keeps | dsimp only | split

theorem execSnoopResponse_keeps {s0 : State} (id : Nat) (rsp : SnpRsp) {s : State} (hK : Keeps s0 s) :
    Answers (Keeps s0) (execSnoopResponse id rsp s) := by
  unfold execSnoopResponse
  with_reducible repeat' first
    | assumption | intro _ | apply Answers.next | apply State.writeBack_keeps | apply State.answered_keeps
    | apply State.snoopDone_keeps | dsimp only | split

theorem execBiconflict_keeps {s0 : State} (t : Tenant) (line : BitVec 46) {s : State} (hK : Keeps s0 s) :
    Answers (Keeps s0) (execBiconflict t line s) := by
  unfold execBiconflict
  with_reducible repeat' first
    | assumption | intro _ | apply Answers.next | apply State.emit_keeps | dsimp only | split

theorem execSnoopTimeout_keeps {s0 : State} (id : Nat) {s : State} (hK : Keeps s0 s) :
    Answers (Keeps s0) (execSnoopTimeout id s) := by
  unfold execSnoopTimeout
  with_reducible repeat' first
    | assumption | intro _ | apply Answers.next | apply State.lineFailure_keeps | apply State.answered_keeps
    | apply State.snoopDone_keeps | dsimp only | split

theorem State.flipRegion_keeps {s0 : State} (r : Nat) {s : State} (hK : Keeps s0 s) :
    Keeps s0 (State.flipRegion r s) := by
  unfold State.flipRegion
  with_reducible repeat' first
    | assumption | intro _ | apply State.modRegion_keeps | apply State.modOp_keeps | apply State.resume291_keeps | dsimp only
    | split

theorem State.dropPin_keeps {s0 : State} (t r : Nat) {s : State} (hK : Keeps s0 s) :
    Keeps s0 (State.dropPin t r s) := by
  unfold State.dropPin
  with_reducible repeat' first
    | assumption | intro _ | apply State.modRegion_keeps | dsimp only | split

theorem State.setPin_keeps {s0 : State} (t r : Nat) {s : State} (hK : Keeps s0 s) :
    Keeps s0 (State.setPin t r s) := by
  unfold State.setPin
  with_reducible repeat' first
    | assumption | intro _ | apply State.dropPin_keeps | apply State.modRegion_keeps | dsimp only | split

theorem State.walkEnds_keeps {s0 : State} (w : WalkWhy) {s : State} (hK : Keeps s0 s) :
    Keeps s0 (State.walkEnds w s) := by
  unfold State.walkEnds
  with_reducible repeat' first
    | assumption | intro _ | apply State.flipRegion_keeps | apply State.setPin_keeps | apply State.modOp_keeps
    | apply State.dropPin_keeps | apply State.modWtt_keeps | dsimp only | split

theorem execBackInvalidateDone_keeps {s0 : State} (walk : Nat) {s : State} (hK : Keeps s0 s) :
    Answers (Keeps s0) (execBackInvalidateDone walk s) := by
  unfold execBackInvalidateDone
  with_reducible repeat' first
    | assumption | intro _ | apply Answers.next | apply Answers.ite | apply State.modShr_keeps | apply State.trimHeld_keeps
    | apply State.walkEnds_keeps | dsimp only | split

theorem State.failTenant_keeps {s0 : State} (t : Nat) {s : State} (hK : Keeps s0 s) :
    Keeps s0 (State.failTenant t s) := by
  unfold State.failTenant
  with_reducible repeat' first
    | assumption | intro _ | apply Keeps.forAll | apply State.withReady_keeps | apply State.dropPin_keeps
    | apply State.orphan_keeps | apply State.dropHolder_keeps | apply State.modShr_keeps | apply State.answered_keeps
    | apply State.snoopDone_keeps | dsimp only | split

theorem State.shrStatus_keeps {s0 : State} (st : Status) {s : State} (hK : Keeps s0 s) :
    Keeps s0 (State.shrStatus st s) := by
  unfold State.shrStatus
  with_reducible repeat' first
    | assumption | intro _ | apply State.setStw_keeps | dsimp only | split

theorem State.shrCmd_keeps {s0 : State} (bad : Bool) (f : State → State) {s : State} (hf : ∀ t, Keeps s0 t → Keeps s0 (f t)) (hK : Keeps s0 s) :
    Keeps s0 (State.shrCmd bad f s) := by
  unfold State.shrCmd
  with_reducible repeat' first
    | assumption | intro _ | apply Keeps.ite | apply State.shrStatus_keeps | apply hf | dsimp only | split

theorem execShrFailTenant_keeps {s0 : State} (t : Tenant) {s : State} (hK : Keeps s0 s) :
    Answers (Keeps s0) (execShrFailTenant t s) := by
  unfold execShrFailTenant
  with_reducible repeat' first
    | assumption | intro _ | apply Answers.next | apply State.shrCmd_keeps | apply State.failTenant_keeps | dsimp only | split

theorem execFailureSweepEnd_keeps {s0 : State} (t : Tenant) {s : State} (hK : Keeps s0 s) :
    Answers (Keeps s0) (execFailureSweepEnd t s) := by
  unfold execFailureSweepEnd
  with_reducible repeat' first
    | assumption | intro _ | apply Answers.next | apply Answers.ite | apply Keeps.forAll | apply State.convertLine_keeps
    | apply State.withReady_keeps | apply State.modShr_keeps | apply State.logRec_keeps | dsimp only | split

theorem State.releaseOrphans_keeps {s0 : State} (d : Dir → Bool) {s : State} (hK : Keeps s0 s) :
    Keeps s0 (State.releaseOrphans d s) := by
  unfold State.releaseOrphans
  with_reducible repeat' first
    | assumption | intro _ | apply State.modShr_keeps | dsimp only | split

theorem State.releaseTick_keeps {s0 : State} {s : State} (hK : Keeps s0 s) :
    Keeps s0 (State.releaseTick s) := by
  unfold State.releaseTick
  with_reducible repeat' first
    | assumption | intro _ | apply State.releaseOrphans_keeps | apply State.modShr_keeps | apply State.modStw_keeps | dsimp only
    | split

theorem execReleaseRegionOrphans_keeps {s0 : State} (r : RegionId) {s : State} (hK : Keeps s0 s) :
    Answers (Keeps s0) (execReleaseRegionOrphans r s) := by
  unfold execReleaseRegionOrphans
  with_reducible repeat' first
    | assumption | intro _ | apply Answers.next | apply State.shrCmd_keeps | apply State.modShr_keeps | dsimp only | split

theorem execReleaseTenantOrphans_keeps {s0 : State} (t : Tenant) {s : State} (hK : Keeps s0 s) :
    Answers (Keeps s0) (execReleaseTenantOrphans t s) := by
  unfold execReleaseTenantOrphans
  with_reducible repeat' first
    | assumption | intro _ | apply Answers.next | apply State.shrCmd_keeps | apply State.modShr_keeps | dsimp only | split

theorem execReleaseCapacity_keeps {s0 : State} (r : RegionId) (t : Tenant) {s : State} (hK : Keeps s0 s) :
    Answers (Keeps s0) (execReleaseCapacity r t s) := by
  unfold execReleaseCapacity
  with_reducible repeat' first
    | assumption | intro _ | apply Answers.next | apply Keeps.ite | apply State.shrCmd_keeps | apply State.capacity_keeps
    | apply State.modLd_keeps | dsimp only | split

theorem execReleaseDynamicCapacity_keeps {s0 : State} (t : Tenant) (dpa : W64) {s : State} (hK : Keeps s0 s) :
    Answers (Keeps s0) (execReleaseDynamicCapacity t dpa s) := by
  unfold execReleaseDynamicCapacity
  with_reducible repeat' first
    | assumption | intro _ | apply Answers.next | apply State.modLd_keeps | dsimp only | split

theorem execAddDynamicCapacityResponse_keeps {s0 : State} (_t : Tenant) {s : State} (hK : Keeps s0 s) :
    Answers (Keeps s0) (execAddDynamicCapacityResponse _t s) := by
  unfold execAddDynamicCapacityResponse
  with_reducible repeat' first
    | assumption | intro _ | apply Answers.next | dsimp only | split

/-! Machine/Bridge.lean. -/

theorem State.stewRec_keeps {s0 : State} (ev aux1 : Nat) {s : State} (hK : Keeps s0 s) :
    Keeps s0 (State.stewRec ev aux1 s) := by
  unfold State.stewRec
  with_reducible repeat' first
    | assumption | intro _ | apply State.logRec_keeps | dsimp only | split

theorem execBridgeFlitReplay_keeps {s0 : State} (src : Half) {s : State} (hK : Keeps s0 s) :
    Answers (Keeps s0) (execBridgeFlitReplay src s) := by
  unfold execBridgeFlitReplay
  with_reducible repeat' first
    | assumption | intro _ | apply Answers.next | (fail_if_no_progress apply Keeps.set_bridge) | dsimp only | split

theorem State.drainBridge_keeps {s0 : State} : ∀ (rest_ : Nat) {s : State}, Keeps s0 s →
    Keeps s0 (State.drainBridge rest_ s) := by
  intro rest_
  induction rest_ with
  | zero =>
    intro s hK
    unfold State.drainBridge
    with_reducible repeat' first
      | assumption | intro _ | apply State.serveReq_keeps | (fail_if_no_progress apply Keeps.set_bridge) | dsimp only | split
  | succ n ih =>
    intro s hK
    unfold State.drainBridge
    with_reducible repeat' first
      | assumption | apply ih | intro _ | apply State.serveReq_keeps | (fail_if_no_progress apply Keeps.set_bridge) | dsimp only
      | split

theorem State.cutRequests_keeps {s0 : State} {s : State} (hK : Keeps s0 s) :
    Keeps s0 (State.cutRequests s) := by
  unfold State.cutRequests
  with_reducible repeat' first
    | assumption | intro _ | apply Keeps.forAll | apply State.modShr_keeps | apply State.modCmp_keeps | apply State.modDmc_keeps
    | apply State.endReq_keeps | apply State.lineFailure_keeps | apply State.answered_keeps | apply State.snoopDone_keeps
    | apply State.rerun_keeps | dsimp only | split

theorem State.cutReads_keeps {s0 : State} {s : State} (hK : Keeps s0 s) :
    Keeps s0 (State.cutReads s) := by
  unfold State.cutReads
  with_reducible repeat' first
    | assumption | intro _ | apply Keeps.ite | apply Keeps.forAll | apply State.failReadsOf_keeps | dsimp only | split

theorem State.splitNow_keeps {s0 : State} {s : State} (hK : Keeps s0 s) :
    Keeps s0 (State.splitNow s) := by
  unfold State.splitNow
  with_reducible repeat' first
    | assumption | intro _ | apply Keeps.ite | apply Keeps.forAll | apply State.withReady_keeps | apply State.endReq_keeps
    | apply State.cutRequests_keeps | apply State.cutReads_keeps | apply State.loseUpdates_keeps | apply State.closeResume_keeps
    | apply State.stewRec_keeps | apply State.alert_keeps | apply State.fmHealth_keeps
    | (fail_if_no_progress apply Keeps.set_bridge) | dsimp only | split

theorem execBridgeLaneRetire_keeps {s0 : State} (src : Half) {s : State} (hK : Keeps s0 s) :
    Answers (Keeps s0) (execBridgeLaneRetire src s) := by
  unfold execBridgeLaneRetire
  with_reducible repeat' first
    | assumption | intro _ | apply Answers.next | apply Answers.ite | apply Keeps.ite | apply State.splitNow_keeps
    | (fail_if_no_progress apply Keeps.set_bridge) | dsimp only | split

theorem execBridgeRetrainDone_keeps {s0 : State} {s : State} (hK : Keeps s0 s) :
    Answers (Keeps s0) (execBridgeRetrainDone s) := by
  unfold execBridgeRetrainDone
  with_reducible repeat' first
    | assumption | intro _ | apply Answers.next | apply Answers.ite | apply Keeps.forAll | apply State.stewRec_keeps
    | apply State.drainBridge_keeps | apply State.readNext_keeps | (fail_if_no_progress apply Keeps.set_bridge) | dsimp only
    | split

theorem execBridgeDown_keeps {s0 : State} {s : State} (hK : Keeps s0 s) :
    Answers (Keeps s0) (execBridgeDown s) := by
  unfold execBridgeDown
  with_reducible repeat' first
    | assumption | intro _ | apply Answers.next | apply State.splitNow_keeps | dsimp only | split

theorem State.applyPending_keeps {s0 : State} (h : Half) {s : State} (hK : Keeps s0 s) :
    Keeps s0 (State.applyPending h s) := by
  unfold State.applyPending
  with_reducible repeat' first
    | assumption | intro _ | apply Keeps.forAll | apply State.setHalf_keeps | apply State.modKey_keeps
    | apply State.dropPin_keeps | dsimp only | split

theorem execBridgeUp_keeps {s0 : State} {s : State} (hK : Keeps s0 s) :
    Answers (Keeps s0) (execBridgeUp s) := by
  unfold execBridgeUp
  with_reducible repeat' first
    | assumption | intro _ | apply Answers.next | apply Answers.ite | apply Keeps.ite | apply State.applyPending_keeps
    | apply State.withReady_keeps | apply State.stewRec_keeps | apply State.alert_keeps
    | (fail_if_no_progress apply Keeps.set_bridge) | dsimp only | split

/-! Machine/Dram.lean. -/

theorem chanFault_keeps {s0 : State} (ch : Nat) : Answers (Keeps s0) (chanFault ch) := Answers.fault _

theorem execWriteQueueServe_keeps {s0 : State} (ch : Nat) {s : State} (hK : Keeps s0 s) :
    Answers (Keeps s0) (execWriteQueueServe ch s) := by
  unfold execWriteQueueServe
  with_reducible repeat' first
    | assumption | intro _ | apply Answers.next | apply Answers.ite | apply Keeps.ite | apply State.modChan_keeps
    | apply chanFault_keeps | dsimp only | split

theorem execRowIdleClose_keeps {s0 : State} (ch bank : Nat) {s : State} (hK : Keeps s0 s) :
    Answers (Keeps s0) (execRowIdleClose ch bank s) := by
  unfold execRowIdleClose
  with_reducible repeat' first
    | assumption | intro _ | apply Answers.next | apply Answers.ite | apply State.modChan_keeps | apply chanFault_keeps
    | dsimp only | split

theorem execRefreshDue_keeps {s0 : State} (ch bank : Nat) {s : State} (hK : Keeps s0 s) :
    Answers (Keeps s0) (execRefreshDue ch bank s) := by
  unfold execRefreshDue
  with_reducible repeat' first
    | assumption | intro _ | apply Answers.next | apply Answers.ite | apply State.modChan_keeps | apply chanFault_keeps
    | dsimp only | split

theorem execTemperaturePoll_keeps {s0 : State} (ch : Nat) (rate : BitVec 2) {s : State} (hK : Keeps s0 s) :
    Answers (Keeps s0) (execTemperaturePoll ch rate s) := by
  unfold execTemperaturePoll
  with_reducible repeat' first
    | assumption | intro _ | apply Answers.next | apply Answers.ite | apply Keeps.ite | apply State.setChan_keeps
    | apply State.maintEnd_keeps | apply State.maintAsk_keeps | apply chanFault_keeps | dsimp only | split

theorem execRefreshRateChange_keeps {s0 : State} (ch : Nat) (rate : BitVec 2) {s : State} (hK : Keeps s0 s) :
    Answers (Keeps s0) (execRefreshRateChange ch rate s) := by
  unfold execRefreshRateChange
  with_reducible repeat' first
    | assumption | intro _ | apply Answers.next | apply Answers.ite | apply Keeps.ite | apply State.setChan_keeps
    | apply State.maintEnd_keeps | apply chanFault_keeps | dsimp only | split

theorem State.takePause_keeps {s0 : State} (ch : Nat) {s : State} (hK : Keeps s0 s) :
    Keeps s0 (State.takePause ch s) := by
  unfold State.takePause
  with_reducible repeat' first
    | assumption | intro _ | apply Keeps.ite | apply State.maintAsk_keeps | apply State.modChan_keeps | apply State.cntStw_keeps
    | dsimp only | split

theorem execRetrainPauseDue_keeps {s0 : State} (ch : Nat) {s : State} (hK : Keeps s0 s) :
    Answers (Keeps s0) (execRetrainPauseDue ch s) := by
  unfold execRetrainPauseDue
  with_reducible repeat' first
    | assumption | intro _ | apply Answers.next | apply Answers.ite | apply Keeps.ite | apply State.takePause_keeps
    | apply chanFault_keeps | dsimp only | split

theorem State.pauseEnd_keeps {s0 : State} (ch : Nat) (ok : Bool) {s : State} (hK : Keeps s0 s) :
    Keeps s0 (State.pauseEnd ch ok s) := by
  unfold State.pauseEnd
  with_reducible repeat' first
    | assumption | intro _ | apply Keeps.ite | apply Keeps.forAll | apply State.setChan_keeps | apply State.maintEnd_keeps
    | apply State.cntStw_keeps | apply State.logRec_keeps | apply State.modRank_keeps | apply State.closeResume_keeps
    | dsimp only | split

theorem execRetrainPauseEnd_keeps {s0 : State} (ch : Nat) (ok : Bool) {s : State} (hK : Keeps s0 s) :
    Answers (Keeps s0) (execRetrainPauseEnd ch ok s) := by
  unfold execRetrainPauseEnd
  with_reducible repeat' first
    | assumption | intro _ | apply Answers.next | apply Answers.ite | apply State.pauseEnd_keeps | apply chanFault_keeps
    | dsimp only | split

theorem State.evacStatus_keeps {s0 : State} (r : Nat) (st : Status) {s : State} (hK : Keeps s0 s) :
    Keeps s0 (State.evacStatus r st s) := by
  unfold State.evacStatus
  with_reducible repeat' first
    | assumption | intro _ | apply State.modStw_keeps | dsimp only | split

theorem State.startEvac_keeps {s0 : State} (r : Nat) {s : State} (hK : Keeps s0 s) :
    Keeps s0 (State.startEvac r s) := by
  unfold State.startEvac
  with_reducible repeat' first
    | assumption | intro _ | apply Keeps.ite | apply State.tickFree_keeps | apply State.setRank_keeps | apply State.setStw_keeps
    | apply State.logRec_keeps | apply State.maintAsk_keeps | apply State.evacStatus_keeps | apply State.modDmc_keeps
    | dsimp only | split

theorem execEvacuate_keeps {s0 : State} (rank : BitVec 8) {s : State} (hK : Keeps s0 s) :
    Answers (Keeps s0) (execEvacuate rank s) := by
  unfold execEvacuate
  with_reducible repeat' first
    | assumption | intro _ | apply Answers.next | apply Answers.ite | apply State.evacStatus_keeps | apply State.startEvac_keeps
    | dsimp only | split

theorem execEvacuateCancel_keeps {s0 : State} (rank : BitVec 8) {s : State} (hK : Keeps s0 s) :
    Answers (Keeps s0) (execEvacuateCancel rank s) := by
  unfold execEvacuateCancel
  with_reducible repeat' first
    | assumption | intro _ | apply Answers.next | apply Answers.ite | apply State.evacStatus_keeps | apply State.setRank_keeps
    | apply State.setStw_keeps | apply State.logRec_keeps | apply State.maintEnd_keeps | dsimp only | split

theorem execEvacuateAutoTrigger_keeps {s0 : State} (rank : BitVec 8) {s : State} (hK : Keeps s0 s) :
    Answers (Keeps s0) (execEvacuateAutoTrigger rank s) := by
  unfold execEvacuateAutoTrigger
  with_reducible repeat' first
    | assumption | intro _ | apply Answers.next | apply Answers.ite | apply State.setRank_keeps | apply State.startEvac_keeps
    | dsimp only | split

theorem State.evacReads_keeps {s0 : State} (r : Nat) {s : State} (hK : Keeps s0 s) :
    Keeps s0 (State.evacReads r s) := by
  unfold State.evacReads
  with_reducible repeat' first
    | assumption | intro _ | apply Keeps.forAll | apply State.moveReads_keeps | apply State.mediaMove_keeps
    | apply State.modTier_keeps | apply State.modDmc_keeps | dsimp only | split | apply TierKeeps.mk3

theorem execEvacuateCopyDone_keeps {s0 : State} (rank : BitVec 8) {s : State} (hK : Keeps s0 s) :
    Answers (Keeps s0) (execEvacuateCopyDone rank s) := by
  unfold execEvacuateCopyDone
  with_reducible repeat' first
    | assumption | intro _ | apply Answers.next | apply Answers.ite | apply State.evacReads_keeps | apply State.modRank_keeps
    | apply State.modStw_keeps | apply State.logRec_keeps | dsimp only | split

theorem State.retireRank_keeps {s0 : State} (p : Nat) {s : State} (hK : Keeps s0 s) :
    Keeps s0 (State.retireRank p s) := by
  unfold State.retireRank
  with_reducible repeat' first
    | assumption | intro _ | apply Keeps.ite | apply State.modDmc_keeps | apply State.modChan_keeps | dsimp only | split

theorem State.evacEnd_keeps {s0 : State} (r : Nat) (old : Nat) {s : State} (hK : Keeps s0 s) :
    Keeps s0 (State.evacEnd r old s) := by
  unfold State.evacEnd
  with_reducible repeat' first
    | assumption | intro _ | apply State.retireRank_keeps | apply State.setStw_keeps | apply State.logRec_keeps
    | apply State.fmHealth_keeps | apply State.maintEnd_keeps | dsimp only | split

theorem execSwitchoverEnd_keeps {s0 : State} (rank : BitVec 8) {s : State} (hK : Keeps s0 s) :
    Answers (Keeps s0) (execSwitchoverEnd rank s) := by
  unfold execSwitchoverEnd
  with_reducible repeat' first
    | assumption | intro _ | apply Answers.next | apply Answers.ite | apply State.setRank_keeps | apply State.evacEnd_keeps
    | dsimp only | split

theorem State.spillUnit_keeps {s0 : State} (r u : Nat) (b : List Byte) {s : State} (hK : Keeps s0 s) :
    Keeps s0 (State.spillUnit r u b s).2 := by
  unfold State.spillUnit
  with_reducible repeat' first
    | assumption | intro _ | apply State.cntStw_keeps | apply State.modTier_keeps | apply State.modDmc_keeps | dsimp only
    | split | apply TierKeeps.mk3 | apply MemOk.mwrite

theorem State.spillUnits_keeps {s0 : State} (r : Nat) (m : Mem) : ∀ (rest_ : List Nat) {s : State}, Keeps s0 s →
    Keeps s0 (State.spillUnits r m rest_ s).2 := by
  intro rest_
  induction rest_ with
  | nil =>
    intro s hK
    unfold State.spillUnits
    with_reducible repeat' first
      | assumption | intro _ | apply State.spillUnit_keeps | dsimp only | split | (refine Keeps.snd (by assumption) ?_)
  | cons a r ih =>
    intro s hK
    unfold State.spillUnits
    with_reducible repeat' first
      | assumption | apply ih | intro _ | apply State.spillUnit_keeps | dsimp only | split
      | (refine Keeps.snd (by assumption) ?_)

theorem execSpillDone_keeps {s0 : State} (rank : BitVec 8) {s : State} (hK : Keeps s0 s) :
    Answers (Keeps s0) (execSpillDone rank s) := by
  unfold execSpillDone
  with_reducible repeat' first
    | assumption | intro _ | apply Answers.next | apply Answers.ite | apply State.spillUnits_keeps | apply State.modRank_keeps
    | apply State.modStw_keeps | apply State.evacReads_keeps | apply State.evacEnd_keeps | dsimp only | split
    | (refine Keeps.snd (by assumption) ?_)

theorem execSpillResume_keeps {s0 : State} (h : Half) {s : State} (hK : Keeps s0 s) :
    Answers (Keeps s0) (execSpillResume h s) := by
  unfold execSpillResume
  with_reducible repeat' first
    | assumption | intro _ | apply Answers.next | apply Keeps.ite | apply State.modStw_keeps | dsimp only | split

theorem execScriptAbort_keeps {s0 : State} (ch : Nat) {s : State} (hK : Keeps s0 s) :
    Answers (Keeps s0) (execScriptAbort ch s) := by
  unfold execScriptAbort
  with_reducible repeat' first
    | assumption | intro _ | apply Answers.next | apply Answers.ite | apply State.cntStw_keeps | apply State.pauseEnd_keeps
    | apply State.modChan_keeps | apply State.maintEnd_keeps | apply chanFault_keeps | dsimp only | split

theorem execScriptSetCommit_keeps {s0 : State} (near : Bool) (ver : W16) {s : State} (hK : Keeps s0 s) :
    Answers (Keeps s0) (execScriptSetCommit near ver s) := by
  unfold execScriptSetCommit
  with_reducible repeat' first
    | assumption | intro _ | apply Answers.next | apply Answers.ite | apply Keeps.ite | apply State.maintAsk_keeps
    | apply State.modDmc_keeps | apply State.maintEnd_keeps | dsimp only | split

theorem execChannelLost_keeps {s0 : State} (ch : Nat) {s : State} (hK : Keeps s0 s) :
    Answers (Keeps s0) (execChannelLost ch s) := by
  unfold execChannelLost
  with_reducible repeat' first
    | assumption | intro _ | apply Answers.next | apply Answers.ite | apply Keeps.forAll | apply State.modDmc_keeps
    | apply State.modChan_keeps | apply State.endReq_keeps | apply State.closeResume_keeps | apply chanFault_keeps | dsimp only
    | split

/-! Machine/Reliability.lean. -/

theorem State.scrubGrant_keeps {s0 : State} (tier unit : Nat) {s : State} (hK : Keeps s0 s) :
    Keeps s0 (State.scrubGrant tier unit s).2 := by
  unfold State.scrubGrant
  with_reducible repeat' first
    | assumption | intro _ | apply Keeps.ite | apply State.maintAsk_keeps | dsimp only | split

theorem State.lapCount_keeps {s0 : State} (k : Nat) (ue : Bool) {s : State} (hK : Keeps s0 s) :
    Keeps s0 (State.lapCount k ue s) := by
  unfold State.lapCount
  with_reducible repeat' first
    | assumption | intro _ | apply State.modRas_keeps | dsimp only | split | apply RasKeeps.mk2 | rfl

theorem State.scrubLine_keeps {s0 : State} (lap : Nat) (d : DLoc) (at_ : Scrubbed) (md : Media) {s : State} (hK : Keeps s0 s) :
    Keeps s0 (State.scrubLine lap d at_ md s) := by
  unfold State.scrubLine
  with_reducible repeat' first
    | assumption | intro _ | apply Keeps.ite | apply State.mediaFind_keeps | apply State.correctedRead_keeps
    | apply State.lapCount_keeps | apply State.queueWrite_keeps | apply State.uncorrectedRead_keeps | apply State.logRec_keeps
    | apply State.fmStd_keeps | apply State.modTier_keeps | dsimp only | split | apply TierKeeps.mk3

theorem State.scrubEntry_keeps {s0 : State} (lap b entry word : Nat) (md : Media) {s : State} (hK : Keeps s0 s) :
    Keeps s0 (State.scrubEntry lap b entry word md s) := by
  unfold State.scrubEntry
  with_reducible repeat' first
    | assumption | intro _ | apply State.modCst_keeps | apply State.bankCorrected_keeps | apply State.lapCount_keeps
    | apply State.cstFresh_keeps | apply State.cstUncorrected_keeps | apply State.fmStd_keeps | dsimp only | split

theorem execScrubRead_keeps {s0 : State} (tier : BitVec 2) (unit : Nat) (loc : W64) (md : Media) {s : State} (hK : Keeps s0 s) :
    Answers (Keeps s0) (execScrubRead tier unit loc md s) := by
  unfold execScrubRead
  with_reducible repeat' first
    | assumption | intro _ | apply Answers.next | apply Answers.ite | apply Answers.fault | apply State.scrubGrant_keeps
    | apply State.scrubLine_keeps | apply State.scrubEntry_keeps | dsimp only | split | (refine Keeps.snd (by assumption) ?_)

theorem State.endScrubs_keeps {s0 : State} (tier : Nat) (h : Half) {s : State} (hK : Keeps s0 s) :
    Keeps s0 (State.endScrubs tier h s) := by
  unfold State.endScrubs
  with_reducible repeat' first
    | assumption | intro _ | apply Keeps.forAll | apply State.maintEnd_keeps | dsimp only | split

theorem execLapEnd_keeps {s0 : State} (tier : BitVec 2) (h : Half) (ms : W32) {s : State} (hK : Keeps s0 s) :
    Answers (Keeps s0) (execLapEnd tier h ms s) := by
  unfold execLapEnd
  with_reducible repeat' first
    | assumption | intro _ | apply Answers.next | apply Answers.ite | apply State.setStw_keeps | apply State.cntStw_keeps
    | apply State.modRas_keeps | apply State.endScrubs_keeps | apply State.logRec_keeps | dsimp only | split
    | apply RasKeeps.mk2 | rfl

theorem execLapOverdue_keeps {s0 : State} (tier : BitVec 2) (h : Half) (ms : W32) {s : State} (hK : Keeps s0 s) :
    Answers (Keeps s0) (execLapOverdue tier h ms s) := by
  unfold execLapOverdue
  with_reducible repeat' first
    | assumption | intro _ | apply Answers.next | apply Answers.ite | apply State.logRec_keeps | dsimp only | split

theorem State.retRecord_keeps {s0 : State} (n kind : Nat) (st : Status) {s : State} (hK : Keeps s0 s) :
    Keeps s0 (State.retRecord n kind st s) := by
  unfold State.retRecord
  with_reducible repeat' first
    | assumption | intro _ | apply State.logRec_keeps | dsimp only | split

theorem State.retEnds_keeps {s0 : State} (n kind : Nat) (st : Status) {s : State} (hK : Keeps s0 s) :
    Keeps s0 (State.retEnds n kind st s) := by
  unfold State.retEnds
  with_reducible repeat' first
    | assumption | intro _ | apply State.modStw_keeps | apply State.retRecord_keeps | dsimp only | split

theorem State.flashWrite_keeps {s0 : State} (n kind : Nat) (l : Tab W64) {s : State} (hK : Keeps s0 s) :
    Keeps s0 (State.flashWrite n kind l s) := by
  unfold State.flashWrite
  with_reducible repeat' first
    | assumption | intro _ | apply State.setStw_keeps | apply State.modRas_keeps | (fail_if_no_progress apply Keeps.set_flash)
    | dsimp only | split | apply RasKeeps.mk2 | rfl
  all_goals assumption

theorem State.addEntry_keeps {s0 : State} (kind half n : Nat) {s : State} (hK : Keeps s0 s) :
    Keeps s0 (State.addEntry kind half n s) := by
  unfold State.addEntry
  with_reducible repeat' first
    | assumption | intro _ | apply State.flashWrite_keeps | dsimp only | split

theorem State.leaveSlot_keeps {s0 : State} (n : Nat) {s : State} (hK : Keeps s0 s) :
    Keeps s0 (State.leaveSlot n s) := by
  unfold State.leaveSlot
  with_reducible repeat' first
    | assumption | intro _ | apply State.modTier_keeps | dsimp only | split | apply TierKeeps.mk3

theorem State.leaveUnit_keeps {s0 : State} (h : Half) (n : Nat) {s : State} (hK : Keeps s0 s) :
    Keeps s0 (State.leaveUnit h n s) := by
  unfold State.leaveUnit
  with_reducible repeat' first
    | assumption | intro _ | apply State.modTier_keeps | dsimp only | split | apply TierKeeps.mk3

theorem State.startReloc_keeps {s0 : State} (r : Reloc) (e : Plot) {s : State} (hK : Keeps s0 s) :
    Keeps s0 (State.startReloc r e s) := by
  unfold State.startReloc
  with_reducible repeat' first
    | assumption | intro _ | apply State.tickFree_keeps | apply State.setStw_keeps | apply State.modTier_keeps
    | apply State.maintAsk_keeps | dsimp only | split | apply TierKeeps.mk3

theorem State.afterReloc_keeps {s0 : State} (p : Nat) {s : State} (hK : Keeps s0 s) :
    Keeps s0 (State.afterReloc p s) := by
  unfold State.afterReloc
  with_reducible repeat' first
    | assumption | intro _ | apply Keeps.ite | apply State.leaveNear_keeps | apply State.takeWish_keeps
    | apply State.settle_keeps | apply State.asgnResume_keeps | dsimp only | split

theorem State.relocEnds_keeps {s0 : State} (r : Reloc) {s : State} (hK : Keeps s0 s) :
    Keeps s0 (State.relocEnds r s) := by
  unfold State.relocEnds
  with_reducible repeat' first
    | assumption | intro _ | apply State.modTier_keeps | apply State.maintEnd_keeps | dsimp only | split | apply TierKeeps.mk3

theorem execRetireNearSlot_keeps {s0 : State} {s : State} (hK : Keeps s0 s) :
    Answers (Keeps s0) (execRetireNearSlot s) := by
  unfold execRetireNearSlot
  with_reducible repeat' first
    | assumption | intro _ | apply Answers.next | apply State.leaveSlot_keeps | apply State.addEntry_keeps
    | apply State.startReloc_keeps | apply State.retEnds_keeps | dsimp only | split

theorem execRetireBulkUnit_keeps {s0 : State} (h : Half) {s : State} (hK : Keeps s0 s) :
    Answers (Keeps s0) (execRetireBulkUnit h s) := by
  unfold execRetireBulkUnit
  with_reducible repeat' first
    | assumption | intro _ | apply Answers.next | apply State.leaveUnit_keeps | apply State.addEntry_keeps
    | apply State.startReloc_keeps | apply State.retEnds_keeps | dsimp only | split

theorem execAddRetirementEntry_keeps {s0 : State} (kind : BitVec 4) (h : Half) {s : State} (hK : Keeps s0 s) :
    Answers (Keeps s0) (execAddRetirementEntry kind h s) := by
  unfold execAddRetirementEntry
  with_reducible repeat' first
    | assumption | intro _ | apply Answers.next | apply State.addEntry_keeps | apply State.retEnds_keeps | dsimp only | split

theorem execEmptyRetirementEntry_keeps {s0 : State} {s : State} (hK : Keeps s0 s) :
    Answers (Keeps s0) (execEmptyRetirementEntry s) := by
  unfold execEmptyRetirementEntry
  with_reducible repeat' first
    | assumption | intro _ | apply Answers.next | apply State.flashWrite_keeps | apply State.retEnds_keeps | dsimp only | split

theorem State.relocCopy_keeps {s0 : State} (r : Reloc) (e e' : Plot) {s : State} (hK : Keeps s0 s) :
    Keeps s0 (State.relocCopy r e e' s) := by
  unfold State.relocCopy
  with_reducible repeat' first
    | assumption | intro _ | apply Keeps.forAll | apply State.moveReads_keeps | apply State.mediaMove_keeps
    | apply State.modTier_keeps | apply State.moveWrites_keeps | dsimp only | split | apply TierKeeps.mk3

theorem execRelocationDone_keeps {s0 : State} {s : State} (hK : Keeps s0 s) :
    Answers (Keeps s0) (execRelocationDone s) := by
  unfold execRelocationDone
  with_reducible repeat' first
    | assumption | intro _ | apply Answers.next | apply Answers.ite | apply Keeps.ite | apply State.leaveUnit_keeps
    | apply State.leaveSlot_keeps | apply State.addEntry_keeps | apply State.relocEnds_keeps | apply State.afterReloc_keeps
    | apply State.tickFree_keeps | apply State.relocCopy_keeps | apply State.setPlot_keeps | dsimp only | split

theorem execRelocationWaitExpire_keeps {s0 : State} {s : State} (hK : Keeps s0 s) :
    Answers (Keeps s0) (execRelocationWaitExpire s) := by
  unfold execRelocationWaitExpire
  with_reducible repeat' first
    | assumption | intro _ | apply Answers.next | apply Answers.ite | apply State.relocEnds_keeps | apply State.setStw_keeps
    | apply State.retEnds_keeps | apply State.afterReloc_keeps | dsimp only | split

theorem execFlashWriteDone_keeps {s0 : State} {s : State} (hK : Keeps s0 s) :
    Answers (Keeps s0) (execFlashWriteDone s) := by
  unfold execFlashWriteDone
  with_reducible repeat' first
    | assumption | intro _ | apply Answers.next | apply State.modRas_keeps | apply State.setStw_keeps
    | apply State.retRecord_keeps | dsimp only | split | apply RasKeeps.mk2 | rfl

end Sys2Proof.Machine
end

