-- ==== Sys2Proof/Laws/ReachWork.lean ====
section
/-! SUPPORT. A unit's program whose every step keeps a property of the state leaves a state that has it, whether it ends or
stops short. -/

namespace Sys2Proof.Machine

/-- The state that a program's end or stop leaves. -/
def leftBy {α : Type} : EStateM.Result Stop State α → State
  | .ok _ t => t
  | .error _ t => t

/-- Whatever state a program's end or stop from s leaves meets P. -/
structure Leaves {α : Type} (P : State → Prop) (m : Work α) (s : State) : Prop where
  left : P (leftBy (m s))

section
variable {α β : Type} {P : State → Prop} {s t : State}

theorem Leaves.ok_ {m : Work α} {a : α} (e : m s = .ok a t) (h : Leaves P m s) : P t := by
  have g := h.left
  rw [e] at g
  exact g

theorem Leaves.error_ {m : Work α} {x : Stop} (e : m s = .error x t) (h : Leaves P m s) : P t := by
  have g := h.left
  rw [e] at g
  exact g

theorem Leaves.pure {a : α} (h : P s) : Leaves P (Pure.pure a : Work α) s := ⟨h⟩

theorem Leaves.throw {e : Stop} (h : P s) : Leaves P (MonadExcept.throw e : Work α) s := ⟨h⟩

theorem Leaves.fail {c : Status} (h : P s) : Leaves P (Work.fail c : Work α) s := Leaves.throw h

theorem Leaves.wait {w : WaitOn} (h : P s) : Leaves P (Work.wait w : Work α) s := Leaves.throw h

theorem Leaves.ite {c : Prop} [Decidable c] {m k : Work α} (h : Leaves P m s) (g : Leaves P k s) :
    Leaves P (if c then m else k) s := by
  split <;> assumption

theorem Leaves.need {b : Bool} {c : Status} (h : P s) : Leaves P (Work.need b c) s :=
  Leaves.ite (Leaves.pure h) (Leaves.fail h)

theorem Leaves.bind {m : Work α} {k : α → Work β} (h : Leaves P m s) (g : ∀ a t, P t → Leaves P (k a) t) :
    Leaves P (m >>= k) s := by
  refine ⟨?_⟩
  show P (leftBy (EStateM.bind m k s))
  unfold EStateM.bind
  split
  · exact (g _ _ (Leaves.ok_ ‹_› h)).left
  · exact Leaves.error_ ‹_› h

theorem Leaves.get_bind {k : State → Work β} (h : Leaves P (k s) s) : Leaves P ((get : Work State) >>= k) s := ⟨h.left⟩

theorem Leaves.set_ (h : P t) : Leaves P (set t : Work PUnit) s := ⟨h⟩

theorem Leaves.modify_ {f : State → State} (h : P (f s)) : Leaves P (modify f : Work PUnit) s := ⟨h⟩

theorem Leaves.foldlM_ {f : β → α → Work β} (h : ∀ b a t, P t → Leaves P (f b a) t) (l : List α) :
    ∀ {b : β} {s : State}, P s → Leaves P (l.foldlM f b) s := by
  induction l with
  | nil => intro b s hK; exact Leaves.pure hK
  | cons a r ih => intro b s hK; exact Leaves.bind (h b a s hK) (fun c t ht => ih ht)

theorem Leaves.forM_ {f : α → Work PUnit} (h : ∀ a t, P t → Leaves P (f a) t) (l : List α) :
    ∀ {s : State}, P s → Leaves P (l.forM f) s := by
  induction l with
  | nil => intro s hK; exact Leaves.pure hK
  | cons a r ih => intro s hK; exact Leaves.bind (h a s hK) (fun _ t ht => ih ht)

theorem Leaves.mapM_ {f : α → Work β} (h : ∀ a t, P t → Leaves P (f a) t) (l : List α) {s : State} (hK : P s) :
    Leaves P (l.mapM f) s := by
  have e : ∀ (l : List α) (acc : List β) {s : State}, P s → Leaves P (List.mapM.loop f l acc) s := by
    intro l
    induction l with
    | nil => intro acc s hK; exact Leaves.pure hK
    | cons a r ih => intro acc s hK; exact Leaves.bind (h a s hK) (fun _ t ht => ih _ ht)
  exact e l [] hK

theorem Leaves.try_ {m : Work α} (h : Leaves P m s) : Leaves P (Work.try_ m) s := by
  refine ⟨?_⟩
  unfold Work.try_
  split
  · exact Leaves.ok_ ‹_› h
  · exact Leaves.error_ ‹_› h
  · exact Leaves.error_ ‹_› h

end

end Sys2Proof.Machine
end

