-- ==== Sys2Proof/Laws/KeepsUnits.lean ====
section
/-! SUPPORT. What each operation and each row keeps: units, operations, the Flume and the Tender. -/

namespace Sys2Proof.Machine

set_option linter.unusedTactic false
set_option linter.unreachableTactic false
set_option linter.unusedVariables false

open Host (Outcome)

/-! Machine/Units.lean. -/

theorem Acc.charge_keeps {s0 : State} (u : Acc) (p n : Nat) {s : State} (hK : Keeps s0 s) :
    Leaves (Keeps s0) (Acc.charge u p n) s := by
  unfold Acc.charge
  with_reducible repeat' first
    | assumption | intro _ | apply Leaves.get_bind | apply Leaves.wait | apply Leaves.set_ | apply Leaves.ite
    | apply State.unitShadow_keeps | apply State.unitAdmit_keeps | dsimp only | split | (refine Keeps.snd (by assumption) ?_)

theorem Acc.gateDir_keeps {s0 : State} (u : Acc) (l : Nat) (via : Bool) (g : Region) (b : Nat) (op : ReqOp) {s : State} (hK : Keeps s0 s) :
    Leaves (Keeps s0) (Acc.gateDir u l via g b op) s := by
  unfold Acc.gateDir
  with_reducible repeat' first
    | assumption | intro _ | apply Leaves.get_bind | apply Leaves.bind | apply Leaves.pure | apply Leaves.fail
    | apply Leaves.wait | apply Leaves.set_ | apply Leaves.ite | apply State.convertLine_keeps | apply State.countWrdrop_keeps
    | apply State.countOrphrd_keeps | dsimp only | split

theorem Acc.gate_keeps {s0 : State} (u : Acc) (ua : Nat) (op : ReqOp) {s : State} (hK : Keeps s0 s) :
    Leaves (Keeps s0) (Acc.gate u ua op) s := by
  unfold Acc.gate
  with_reducible repeat' first
    | assumption | intro _ | apply Leaves.get_bind | apply Leaves.bind | apply Leaves.pure | apply Leaves.fail
    | apply Leaves.wait | apply Leaves.modify_ | apply Leaves.ite | apply Acc.charge_keeps | apply Acc.gateDir_keeps
    | apply State.access_keeps | dsimp only | split

theorem Acc.load_keeps {s0 : State} (u : Acc) (ua : Nat) {s : State} (hK : Keeps s0 s) :
    Leaves (Keeps s0) (Acc.load u ua) s := by
  unfold Acc.load
  with_reducible repeat' first
    | assumption | intro _ | apply Leaves.get_bind | apply Leaves.bind | apply Leaves.pure | apply Leaves.fail
    | apply Leaves.wait | apply Leaves.set_ | apply Leaves.ite | apply Acc.gate_keeps | apply State.tickFree_keeps
    | apply State.modDmc_keeps | apply State.readLine_keeps | dsimp only | split | (refine Keeps.snd (by assumption) ?_)

theorem Acc.store_keeps {s0 : State} (u : Acc) (ua : Nat) (d : Line) (be : W64) (poison : Bool) {s : State} (hK : Keeps s0 s) :
    Leaves (Keeps s0) (Acc.store u ua d be poison) s := by
  unfold Acc.store
  with_reducible repeat' first
    | assumption | intro _ | apply Leaves.get_bind | apply Leaves.bind | apply Leaves.wait | apply Leaves.need
    | apply Leaves.set_ | apply Leaves.ite | apply Acc.gate_keeps | apply State.writeLine_keeps | dsimp only | split

theorem Acc.bytes_keeps {s0 : State} (u : Acc) (ua n : Nat) {s : State} (hK : Keeps s0 s) :
    Leaves (Keeps s0) (Acc.bytes u ua n) s := by
  unfold Acc.bytes
  with_reducible repeat' first
    | assumption | intro _ | apply Leaves.bind | apply Leaves.pure | apply Leaves.mapM_ | apply Acc.load_keeps | dsimp only
    | split

theorem Acc.put_keeps {s0 : State} (u : Acc) (ua : Nat) (b : List Byte) {s : State} (hK : Keeps s0 s) :
    Leaves (Keeps s0) (Acc.put u ua b) s := by
  unfold Acc.put
  with_reducible repeat' first
    | assumption | intro _ | apply Leaves.forM_ | apply Acc.store_keeps | dsimp only | split

theorem Acc.waitFor_keeps {s0 : State} (u : Acc) (w : WaitOn) {s : State} (hK : Keeps s0 s) :
    Keeps s0 (Acc.waitFor u w s) := by
  unfold Acc.waitFor
  with_reducible repeat' first
    | assumption | intro _ | apply Keeps.ite | apply Keeps.forAll | apply State.unitHeld_keeps | apply State.modDmc_keeps
    | apply State.makeBuffer_keeps | apply State.farFetch_keeps | apply State.sendSnoop_keeps
    | (fail_if_no_progress apply Keeps.set_bridge) | dsimp only | split

theorem State.readsDrop_keeps {s0 : State} (w : Reader) {s : State} (hK : Keeps s0 s) :
    Keeps s0 (State.readsDrop w s) := by
  unfold State.readsDrop
  with_reducible repeat' first
    | assumption | intro _ | apply State.modDmc_keeps | dsimp only | split

theorem Acc.ends_keeps {s0 : State} (u : Acc) {s : State} (hK : Keeps s0 s) :
    Keeps s0 (Acc.ends u s) := by
  unfold Acc.ends
  with_reducible repeat' first
    | assumption | intro _ | apply State.unitEnds_keeps | apply State.farDrop_keeps | apply State.readsDrop_keeps | dsimp only
    | split

theorem Acc.waits_keeps {s0 : State} (u : Acc) (w : WaitOn) (s' : State) {s : State} (hs : Keeps s0 s') (hK : Keeps s0 s) :
    Keeps s0 (Acc.waits u w s' s) := by
  unfold Acc.waits
  with_reducible repeat' first
    | assumption | intro _ | apply Acc.waitFor_keeps | apply State.unitWaits_keeps | dsimp only | split

theorem Acc.run_keeps {s0 : State} {α : Type} (u : Acc) (m : Work α) (k : Except Status α → State → State) {s : State} (hm : ∀ t, Keeps s0 t → Leaves (Keeps s0) m t) (hk : ∀ r t, Keeps s0 t → Keeps s0 (k r t)) (hK : Keeps s0 s) :
    Keeps s0 (Acc.run u m k s) := by
  unfold Acc.run
  with_reducible repeat' first
    | assumption | intro _ | apply Acc.ends_keeps | apply Acc.waits_keeps | apply hm | apply hk | dsimp only | split
    | (refine Leaves.ok_ (by assumption) ?_) | (refine Leaves.error_ (by assumption) ?_)

theorem State.countCnts_keeps {s0 : State} (t : Nat) (c : Cnts) {s : State} (hK : Keeps s0 s) :
    Keeps s0 (State.countCnts t c s) := by
  unfold State.countCnts
  with_reducible repeat' first
    | assumption | intro _ | apply State.cntBar_keeps | dsimp only | split

theorem Acc.elems_keeps {s0 : State} (u : Acc) (code lay src app lo n : Nat) {s : State} (hK : Keeps s0 s) :
    Leaves (Keeps s0) (Acc.elems u code lay src app lo n) s := by
  unfold Acc.elems
  with_reducible repeat' first
    | assumption | intro _ | apply Leaves.bind | apply Leaves.pure | apply Leaves.modify_ | apply Leaves.ite
    | apply Leaves.mapM_ | apply Acc.bytes_keeps | apply State.countCnts_keeps | dsimp only | split

theorem Acc.putBlock_keeps {s0 : State} (u : Acc) (code lay dst app k : Nat) (r : Rnd) (v : List W32) {s : State} (hK : Keeps s0 s) :
    Leaves (Keeps s0) (Acc.putBlock u code lay dst app k r v) s := by
  unfold Acc.putBlock
  with_reducible repeat' first
    | assumption | intro _ | apply Leaves.bind | apply Leaves.pure | apply Leaves.modify_ | apply Leaves.ite
    | apply State.countCnts_keeps | apply Acc.put_keeps | dsimp only | split

/-! Machine/Accept.lean. -/

theorem State.bindJob_keeps {s0 : State} (id t cls : Nat) (d : Line) (p : List Byte) {s : State} (hK : Keeps s0 s) :
    Keeps s0 (State.bindJob id t cls d p s) := by
  unfold State.bindJob
  with_reducible repeat' first
    | assumption | intro _ | apply Keeps.ite | apply State.tickFree_keeps | (fail_if_no_progress apply Keeps.set_jobs)
    | dsimp only | split

theorem State.acceptOp_keeps {s0 : State} (t r : Nat) (d : Line) (p : List Byte) {s : State} (hK : Keeps s0 s) :
    Keeps s0 (State.acceptOp t r d p s) := by
  unfold State.acceptOp
  with_reducible repeat' first
    | assumption | intro _ | apply Keeps.ite | apply State.cntBar_keeps | apply State.bindJob_keeps
    | (fail_if_no_progress apply Keeps.set_ops_nextOp) | dsimp only | split

theorem State.takeWith_keeps {s0 : State} (t r : Nat) (d : Line) (p : Option (Except Status (List Byte))) {s : State} (hK : Keeps s0 s) :
    Keeps s0 (State.takeWith t r d p s) := by
  unfold State.takeWith
  with_reducible repeat' first
    | assumption | intro _ | apply State.setRing_keeps | apply State.complete_keeps | apply State.acceptOp_keeps | dsimp only
    | split

theorem execDescriptorTake_keeps {s0 : State} (t : Tenant) (r : BitVec 4) {s : State} (hK : Keeps s0 s) :
    Answers (Keeps s0) (execDescriptorTake t r s) := by
  unfold execDescriptorTake
  with_reducible repeat' first
    | assumption | intro _ | apply Answers.next | apply Answers.ite | apply Keeps.ite | apply State.setRing_keeps
    | apply State.cntBar_keeps | apply State.takeWith_keeps | apply Acc.run_keeps | apply Acc.bytes_keeps
    | (fail_if_no_progress apply Keeps.set_nextReq) | dsimp only | split

theorem State.freeJob_keeps {s0 : State} (id : Nat) {s : State} (hK : Keeps s0 s) :
    Keeps s0 (State.freeJob id s) := by
  unfold State.freeJob
  with_reducible repeat' first
    | assumption | intro _ | apply Keeps.forAll | apply State.returnBank_keeps | (fail_if_no_progress apply Keeps.set_jobs)
    | dsimp only | split

theorem State.dropIdle_keeps {s0 : State} (id : Nat) {s : State} (hK : Keeps s0 s) :
    Keeps s0 (State.dropIdle id s) := by
  unfold State.dropIdle
  with_reducible repeat' first
    | assumption | intro _ | apply Keeps.forAll | apply State.farDrop_keeps | (fail_if_no_progress apply Keeps.set_grains)
    | dsimp only | split

theorem State.dropJob_keeps {s0 : State} (id : Nat) {s : State} (hK : Keeps s0 s) :
    Keeps s0 (State.dropJob id s) := by
  unfold State.dropJob
  with_reducible repeat' first
    | assumption | intro _ | apply Keeps.ite | apply State.dropIdle_keeps | apply State.modCst_keeps | apply State.modJob_keeps
    | apply State.freeJob_keeps | dsimp only | split

theorem State.dropGrains_keeps {s0 : State} (op : Nat) {s : State} (hK : Keeps s0 s) :
    Keeps s0 (State.dropGrains op s) := by
  unfold State.dropGrains
  with_reducible repeat' first
    | assumption | intro _ | apply Keeps.forAll | apply State.returnBank_keeps
    | (fail_if_no_progress apply Keeps.set_dups_fes_xjobs) | dsimp only | split

theorem State.endOp_keeps {s0 : State} (o : Op) (c : Status) {s : State} (hK : Keeps s0 s) :
    Keeps s0 (State.endOp o c s) := by
  unfold State.endOp
  with_reducible repeat' first
    | assumption | intro _ | apply State.dropJob_keeps | apply State.dropGrains_keeps | apply State.farDrop_keeps
    | apply State.complete_keeps | (fail_if_no_progress apply Keeps.set_ops) | dsimp only | split

theorem execOperationComplete_keeps {s0 : State} (op : Nat) {s : State} (hK : Keeps s0 s) :
    Answers (Keeps s0) (execOperationComplete op s) := by
  unfold execOperationComplete
  with_reducible repeat' first
    | assumption | intro _ | apply Answers.next | apply State.endOp_keeps | dsimp only | split

/-! Machine/Kernels.lean. -/

theorem State.opDone_keeps {s0 : State} (id : Nat) (c : Status) (detail : Nat) {s : State} (hK : Keeps s0 s) :
    Keeps s0 (State.opDone id c detail s) := by
  unfold State.opDone
  with_reducible repeat' first
    | assumption | intro _ | apply State.modOp_keeps | dsimp only | split

theorem State.failOp_keeps {s0 : State} (id : Nat) (c : Status) (detail : Nat) {s : State} (hK : Keeps s0 s) :
    Keeps s0 (State.failOp id c detail s) := by
  unfold State.failOp
  with_reducible repeat' first
    | assumption | intro _ | apply State.modOp_keeps | dsimp only | split

theorem State.withOp_keeps {s0 : State} (id : Nat) (kind : Line → Bool) (f : Op → State → State) {s : State} (hf : ∀ o t, Keeps s0 t → Keeps s0 (f o t)) (hK : Keeps s0 s) :
    Keeps s0 (State.withOp id kind f s) := by
  unfold State.withOp
  with_reducible repeat' first
    | assumption | intro _ | apply Keeps.ite | apply hf | dsimp only | split

theorem Op.run_keeps {s0 : State} (o : Op) (m : Work (Status × Nat)) {s : State} (hm : ∀ t, Keeps s0 t → Leaves (Keeps s0) m t) (hK : Keeps s0 s) :
    Keeps s0 (Op.run o m s) := by
  unfold Op.run
  with_reducible repeat' first
    | assumption | intro _ | apply Acc.run_keeps | apply State.opDone_keeps | apply hm | dsimp only | split

theorem State.tndFault_keeps {s0 : State} (t code pc idx core : Nat) (c : Status) {s : State} (hK : Keeps s0 s) :
    Keeps s0 (State.tndFault t code pc idx core c s) := by
  unfold State.tndFault
  with_reducible repeat' first
    | assumption | intro _ | apply Keeps.ite | apply State.setBar_keeps | apply State.logRec_keeps | dsimp only | split

theorem State.jobSettle_keeps {s0 : State} (id : Nat) {s : State} (hK : Keeps s0 s) :
    Keeps s0 (State.jobSettle id s) := by
  unfold State.jobSettle
  with_reducible repeat' first
    | assumption | intro _ | apply Keeps.ite | apply State.freeJob_keeps | apply State.failOp_keeps | dsimp only | split

theorem State.endGrain_keeps {s0 : State} (g : Grain) {s : State} (hK : Keeps s0 s) :
    Keeps s0 (State.endGrain g s) := by
  unfold State.endGrain
  with_reducible repeat' first
    | assumption | intro _ | apply State.modJob_keeps | apply State.jobSettle_keeps
    | (fail_if_no_progress apply Keeps.set_grains) | dsimp only | split

theorem State.stopJob_keeps {s0 : State} (id : Nat) (c : Status) (detail : Nat) {s : State} (hK : Keeps s0 s) :
    Keeps s0 (State.stopJob id c detail s) := by
  unfold State.stopJob
  with_reducible repeat' first
    | assumption | intro _ | apply State.modJob_keeps | apply State.dropIdle_keeps | apply State.jobSettle_keeps | dsimp only
    | split

theorem State.faultGrain_keeps {s0 : State} (g : Grain) (code pc : Nat) (c : Status) {s : State} (hK : Keeps s0 s) :
    Keeps s0 (State.faultGrain g code pc c s) := by
  unfold State.faultGrain
  with_reducible repeat' first
    | assumption | intro _ | apply State.tndFault_keeps | apply State.modJob_keeps | apply State.endGrain_keeps
    | apply State.stopJob_keeps | dsimp only | split

theorem State.startJob_keeps {s0 : State} (id : Nat) {s : State} (hK : Keeps s0 s) :
    Keeps s0 (State.startJob id s) := by
  unfold State.startJob
  with_reducible repeat' first
    | assumption | intro _ | apply Keeps.ite | apply Keeps.forAll | apply State.allotJob_keeps | apply State.modJob_keeps
    | dsimp only | split

theorem State.kernelGrain_keeps {s0 : State} (o : Op) {s : State} (hK : Keeps s0 s) :
    Keeps s0 (State.kernelGrain o s).2 := by
  unfold State.kernelGrain
  with_reducible repeat' first
    | assumption | intro _ | apply Keeps.ite | apply State.startJob_keeps | (fail_if_no_progress apply Keeps.set_jobs)
    | (fail_if_no_progress apply Keeps.set_grains_nextGrain) | dsimp only | split

theorem State.kernelFault_keeps {s0 : State} (o : Op) (code idx core : Nat) (c : Status) {s : State} (hK : Keeps s0 s) :
    Keeps s0 (State.kernelFault o code idx core c s) := by
  unfold State.kernelFault
  with_reducible repeat' first
    | assumption | intro _ | apply State.tndFault_keeps | apply State.dropJob_keeps | apply State.opDone_keeps | dsimp only
    | split

theorem State.kernelRun_keeps {s0 : State} {α : Type} (o : Op) (check : Option Nat) (m : Acc → Work α) (k : α → State → State) {s : State} (hm : ∀ u t, Keeps s0 t → Leaves (Keeps s0) (m u) t) (hk : ∀ a t, Keeps s0 t → Keeps s0 (k a t)) (hK : Keeps s0 s) :
    Keeps s0 (State.kernelRun o check m k s) := by
  unfold State.kernelRun
  with_reducible repeat' first
    | assumption | intro _ | apply Keeps.ite | apply State.dropJob_keeps | apply State.opDone_keeps
    | apply State.kernelGrain_keeps | apply State.kernelFault_keeps | apply Acc.ends_keeps | apply Acc.waits_keeps | apply hm
    | apply hk | dsimp only | split | (refine Keeps.snd (by assumption) ?_) | (refine Leaves.ok_ (by assumption) ?_)
    | (refine Leaves.error_ (by assumption) ?_)

theorem State.kernelEnd_keeps {s0 : State} (o : Op) (c : Status) (n : Nat) {s : State} (hK : Keeps s0 s) :
    Keeps s0 (State.kernelEnd o c n s) := by
  unfold State.kernelEnd
  with_reducible repeat' first
    | assumption | intro _ | apply State.dropJob_keeps | apply State.opDone_keeps | dsimp only | split

theorem State.kernel_keeps {s0 : State} (o : Op) (check : Option Nat) (m : Acc → Work (Status × Nat)) {s : State} (hm : ∀ u t, Keeps s0 t → Leaves (Keeps s0) (m u) t) (hK : Keeps s0 s) :
    Keeps s0 (State.kernel o check m s) := by
  unfold State.kernel
  with_reducible repeat' first
    | assumption | intro _ | apply State.kernelRun_keeps | apply State.kernelEnd_keeps | apply hm | dsimp only | split

/-! Machine/Operations.lean. -/

theorem fillWork_keeps {s0 : State} (o : Op) {s : State} (hK : Keeps s0 s) :
    Leaves (Keeps s0) (fillWork o) s := by
  unfold fillWork
  with_reducible repeat' first
    | assumption | intro _ | apply Leaves.bind | apply Leaves.pure | apply Leaves.forM_ | apply Acc.store_keeps | dsimp only
    | split

theorem execFill_keeps {s0 : State} (op : Nat) {s : State} (hK : Keeps s0 s) :
    Answers (Keeps s0) (execFill op s) := by
  unfold execFill
  with_reducible repeat' first
    | assumption | intro _ | apply Answers.next | apply State.withOp_keeps | apply Op.run_keeps | apply fillWork_keeps
    | dsimp only | split

theorem copyLine_keeps {s0 : State} (o : Op) (acc : Option Status × Nat) (l : Nat) {s : State} (hK : Keeps s0 s) :
    Leaves (Keeps s0) (copyLine o acc l) s := by
  unfold copyLine
  with_reducible repeat' first
    | assumption | intro _ | apply Leaves.bind | apply Leaves.pure | apply Leaves.fail | apply Leaves.modify_
    | apply Leaves.try_ | apply Acc.bytes_keeps | apply Acc.store_keeps | apply State.modOp_keeps | dsimp only | split

theorem execCopy_keeps {s0 : State} (op : Nat) {s : State} (hK : Keeps s0 s) :
    Answers (Keeps s0) (execCopy op s) := by
  unfold execCopy
  with_reducible repeat' first
    | assumption | intro _ | apply Answers.next | apply Leaves.foldlM_ | apply State.withOp_keeps | apply Acc.run_keeps
    | apply copyLine_keeps | apply State.opDone_keeps | apply State.modOp_keeps | dsimp only | split

theorem convertWork_keeps {s0 : State} (o : Op) (u : Acc) {s : State} (hK : Keeps s0 s) :
    Leaves (Keeps s0) (convertWork o u) s := by
  unfold convertWork
  with_reducible repeat' first
    | assumption | intro _ | apply Leaves.bind | apply Leaves.pure | apply Leaves.forM_ | apply Acc.elems_keeps
    | apply Acc.putBlock_keeps | dsimp only | split

theorem execCopyConvert_keeps {s0 : State} (op : Nat) {s : State} (hK : Keeps s0 s) :
    Answers (Keeps s0) (execCopyConvert op s) := by
  unfold execCopyConvert
  with_reducible repeat' first
    | assumption | intro _ | apply Answers.next | apply State.withOp_keeps | apply State.kernel_keeps | apply convertWork_keeps
    | dsimp only | split

theorem compareFrom_keeps {s0 : State} (o : Op) (a b n : Nat) : ∀ (rest_ : Nat) (y0 : Nat) {s : State}, Keeps s0 s →
    Leaves (Keeps s0) (compareFrom o a b n rest_ y0) s := by
  intro rest_
  induction rest_ with
  | zero =>
    intro y0 s hK
    unfold compareFrom
    with_reducible repeat' first
      | assumption | intro _ | apply Leaves.bind | apply Leaves.pure | apply Leaves.ite | apply Acc.bytes_keeps | dsimp only
      | split
  | succ n ih =>
    intro y0 s hK
    unfold compareFrom
    with_reducible repeat' first
      | assumption | apply ih | intro _ | apply Leaves.bind | apply Leaves.pure | apply Leaves.ite | apply Acc.bytes_keeps
      | dsimp only | split

theorem compareWork_keeps {s0 : State} (o : Op) {s : State} (hK : Keeps s0 s) :
    Leaves (Keeps s0) (compareWork o) s := by
  unfold compareWork
  with_reducible repeat' first
    | assumption | intro _ | apply Leaves.bind | apply Leaves.pure | apply Leaves.ite | apply compareFrom_keeps
    | apply Acc.put_keeps | dsimp only | split

theorem execCompare_keeps {s0 : State} (op : Nat) {s : State} (hK : Keeps s0 s) :
    Answers (Keeps s0) (execCompare op s) := by
  unfold execCompare
  with_reducible repeat' first
    | assumption | intro _ | apply Answers.next | apply State.withOp_keeps | apply Op.run_keeps | apply compareWork_keeps
    | dsimp only | split

theorem reduceWork_keeps {s0 : State} (o : Op) (u : Acc) {s : State} (hK : Keeps s0 s) :
    Leaves (Keeps s0) (reduceWork o u) s := by
  unfold reduceWork
  with_reducible repeat' first
    | assumption | intro _ | apply Leaves.bind | apply Leaves.pure | apply Leaves.foldlM_ | apply Leaves.forM_
    | apply Acc.elems_keeps | apply Acc.putBlock_keeps | dsimp only | split

theorem execReduce_keeps {s0 : State} (op : Nat) {s : State} (hK : Keeps s0 s) :
    Answers (Keeps s0) (execReduce op s) := by
  unfold execReduce
  with_reducible repeat' first
    | assumption | intro _ | apply Answers.next | apply State.withOp_keeps | apply State.kernel_keeps | apply reduceWork_keeps
    | dsimp only | split

theorem gatherBag_keeps {s0 : State} (o : Op) (u : Acc) (ok : List (Nat × W32)) {s : State} (hK : Keeps s0 s) :
    Leaves (Keeps s0) (gatherBag o u ok) s := by
  unfold gatherBag
  with_reducible repeat' first
    | assumption | intro _ | apply Leaves.bind | apply Leaves.pure | apply Leaves.foldlM_ | apply Acc.elems_keeps | dsimp only
    | split

theorem gatherWork_keeps {s0 : State} (o : Op) (u : Acc) {s : State} (hK : Keeps s0 s) :
    Leaves (Keeps s0) (gatherWork o u) s := by
  unfold gatherWork
  with_reducible repeat' first
    | assumption | intro _ | apply Leaves.bind | apply Leaves.pure | apply Leaves.modify_ | apply Leaves.foldlM_
    | apply Acc.bytes_keeps | apply State.modOp_keeps | apply gatherBag_keeps | apply State.countCnts_keeps
    | apply Acc.put_keeps | dsimp only | split

theorem execEmbedGather_keeps {s0 : State} (op : Nat) {s : State} (hK : Keeps s0 s) :
    Answers (Keeps s0) (execEmbedGather op s) := by
  unfold execEmbedGather
  with_reducible repeat' first
    | assumption | intro _ | apply Answers.next | apply State.withOp_keeps | apply State.kernel_keeps | apply gatherWork_keeps
    | dsimp only | split

/-! Machine/Loads.lean. -/

theorem State.installRec_keeps {s0 : State} (p base : Nat) (pool : Bool) (n : Nat) (ents : List W128) (area : List Byte) {s : State} (hK : Keeps s0 s) :
    Keeps s0 (State.installRec p base pool n ents area s) := by
  unfold State.installRec
  with_reducible repeat' first
    | assumption | intro _ | apply State.keptDrop_keeps | apply State.modTier_keeps | apply State.modPlot_keeps | dsimp only
    | split | apply TierKeeps.mk3 | apply MemOk.mwrite | apply MemOk.mclear

theorem installWork_keeps {s0 : State} (o : Op) (img : List Byte) {s : State} (hK : Keeps s0 s) :
    Leaves (Keeps s0) (installWork o img) s := by
  unfold installWork
  with_reducible repeat' first
    | assumption | intro _ | apply Leaves.get_bind | apply Leaves.bind | apply Leaves.pure | apply Leaves.fail
    | apply Leaves.wait | apply Leaves.need | apply Leaves.set_ | apply Leaves.modify_ | apply Leaves.ite
    | apply Acc.bytes_keeps | apply State.countWrdrop_keeps | apply State.blockFail_keeps | apply Acc.charge_keeps
    | apply State.tickFree_keeps | apply State.installRec_keeps | apply State.modOp_keeps | dsimp only | split
    | (refine State.bulkRelief_keeps (by assumption) ?_)

theorem execImageInstall_keeps {s0 : State} (op : Nat) {s : State} (hK : Keeps s0 s) :
    Answers (Keeps s0) (execImageInstall op s) := by
  unfold execImageInstall
  with_reducible repeat' first
    | assumption | intro _ | apply Answers.next | apply Leaves.bind | apply Leaves.pure | apply Leaves.ite | apply Keeps.ite
    | apply State.withOp_keeps | apply State.modOp_keeps | apply Acc.run_keeps | apply Acc.bytes_keeps | apply installWork_keeps
    | dsimp only | split

theorem State.hint_keeps {s0 : State} (code : Nat) (op : Nat) (f : Op → Nat → State → State) {s : State} (hf : ∀ o n t, Keeps s0 t → Keeps s0 (f o n t)) (hK : Keeps s0 s) :
    Keeps s0 (State.hint code op f s) := by
  unfold State.hint
  with_reducible repeat' first
    | assumption | intro _ | apply Keeps.ite | apply Keeps.forAll | apply State.withOp_keeps | apply State.modOp_keeps
    | apply State.settle_keeps | apply hf | dsimp only | split

theorem execPromote_keeps {s0 : State} (op : Nat) {s : State} (hK : Keeps s0 s) :
    Answers (Keeps s0) (execPromote op s) := by
  unfold execPromote
  with_reducible repeat' first
    | assumption | intro _ | apply Answers.next | apply State.hint_keeps | apply State.askClaim_keeps | dsimp only | split

theorem execDemote_keeps {s0 : State} (op : Nat) {s : State} (hK : Keeps s0 s) :
    Answers (Keeps s0) (execDemote op s) := by
  unfold execDemote
  with_reducible repeat' first
    | assumption | intro _ | apply Answers.next | apply Keeps.ite | apply State.hint_keeps | apply State.wantFar_keeps
    | apply State.removeClaim_keeps | dsimp only | split

theorem execPin_keeps {s0 : State} (op : Nat) {s : State} (hK : Keeps s0 s) :
    Answers (Keeps s0) (execPin op s) := by
  unfold execPin
  with_reducible repeat' first
    | assumption | intro _ | apply Answers.next | apply State.hint_keeps | apply State.askClaim_keeps | dsimp only | split

theorem execUnpin_keeps {s0 : State} (op : Nat) {s : State} (hK : Keeps s0 s) :
    Answers (Keeps s0) (execUnpin op s) := by
  unfold execUnpin
  with_reducible repeat' first
    | assumption | intro _ | apply Answers.next | apply State.hint_keeps | apply State.removePin_keeps | dsimp only | split

theorem Op.endVersion_keeps {s0 : State} (o : Op) (c : Status) (ver : W32) {s : State} (hK : Keeps s0 s) :
    Keeps s0 (Op.endVersion o c ver s) := by
  unfold Op.endVersion
  with_reducible repeat' first
    | assumption | intro _ | apply Leaves.bind | apply Leaves.pure | apply Leaves.ite | apply Op.run_keeps | apply Acc.put_keeps
    | dsimp only | split

theorem execPublish_keeps {s0 : State} (op : Nat) {s : State} (hK : Keeps s0 s) :
    Answers (Keeps s0) (execPublish op s) := by
  unfold execPublish
  with_reducible repeat' first
    | assumption | intro _ | apply Answers.next | apply Keeps.ite | apply State.withOp_keeps | apply Op.endVersion_keeps
    | apply State.opDone_keeps | apply State.modOp_keeps | apply State.modRegion_keeps | apply State.flipRegion_keeps
    | apply State.startWalk_keeps | dsimp only | split

theorem State.pinWalk_keeps {s0 : State} (why : WalkWhy) (t b : Nat) (g : Region) {s : State} (hK : Keeps s0 s) :
    Keeps s0 (State.pinWalk why t b g s) := by
  unfold State.pinWalk
  with_reducible repeat' first
    | assumption | intro _ | apply State.startWalk_keeps | dsimp only | split

theorem execAcquire_keeps {s0 : State} (op : Nat) {s : State} (hK : Keeps s0 s) :
    Answers (Keeps s0) (execAcquire op s) := by
  unfold execAcquire
  with_reducible repeat' first
    | assumption | intro _ | apply Answers.next | apply Keeps.ite | apply State.withOp_keeps | apply Op.endVersion_keeps
    | apply State.opDone_keeps | apply State.modOp_keeps | apply State.pinWalk_keeps | apply State.walkEnds_keeps | dsimp only
    | split

theorem execRelease_keeps {s0 : State} (op : Nat) {s : State} (hK : Keeps s0 s) :
    Answers (Keeps s0) (execRelease op s) := by
  unfold execRelease
  with_reducible repeat' first
    | assumption | intro _ | apply Answers.next | apply Keeps.ite | apply State.withOp_keeps | apply State.opDone_keeps
    | apply State.modOp_keeps | apply State.pinWalk_keeps | apply State.walkEnds_keeps | dsimp only | split

theorem State.unloadTable_keeps {s0 : State} (n : Nat) {s : State} (hK : Keeps s0 s) :
    Keeps s0 (State.unloadTable n s) := by
  unfold State.unloadTable
  with_reducible repeat' first
    | assumption | intro _ | apply Keeps.ite | apply State.setTslot_keeps | dsimp only | split

theorem State.loadTable_keeps {s0 : State} (n t : Nat) (img : List Byte) {s : State} (hK : Keeps s0 s) :
    Keeps s0 (State.loadTable n t img s) := by
  unfold State.loadTable
  with_reducible repeat' first
    | assumption | intro _ | apply Keeps.ite | apply State.unloadTable_keeps | apply State.setTslot_keeps | dsimp only | split

theorem execTableLoad_keeps {s0 : State} (op : Nat) {s : State} (hK : Keeps s0 s) :
    Answers (Keeps s0) (execTableLoad op s) := by
  unfold execTableLoad
  with_reducible repeat' first
    | assumption | intro _ | apply Answers.next | apply Keeps.ite | apply State.withOp_keeps | apply State.modOp_keeps
    | apply State.opDone_keeps | apply Acc.run_keeps | apply Acc.bytes_keeps | apply State.loadTable_keeps | dsimp only | split

theorem State.replaceProg_keeps {s0 : State} (n t : Nat) (g : Option Prog) {s : State} (hK : Keeps s0 s) :
    Keeps s0 (State.replaceProg n t g s) := by
  unfold State.replaceProg
  with_reducible repeat' first
    | assumption | intro _ | apply Keeps.ite | apply State.setPslot_keeps | (fail_if_no_progress apply Keeps.set_jobs)
    | dsimp only | split

theorem execProgramLoad_keeps {s0 : State} (op : Nat) {s : State} (hK : Keeps s0 s) :
    Answers (Keeps s0) (execProgramLoad op s) := by
  unfold execProgramLoad
  with_reducible repeat' first
    | assumption | intro _ | apply Answers.next | apply Leaves.get_bind | apply Leaves.bind | apply Leaves.pure
    | apply Leaves.ite | apply Keeps.ite | apply State.withOp_keeps | apply State.modOp_keeps | apply State.opDone_keeps
    | apply Acc.run_keeps | apply Acc.bytes_keeps | apply State.replaceProg_keeps | dsimp only | split

theorem execAlmanacLoad_keeps {s0 : State} (op : Nat) {s : State} (hK : Keeps s0 s) :
    Answers (Keeps s0) (execAlmanacLoad op s) := by
  unfold execAlmanacLoad
  with_reducible repeat' first
    | assumption | intro _ | apply Answers.next | apply Leaves.get_bind | apply Leaves.bind | apply Leaves.pure
    | apply Leaves.ite | apply Keeps.ite | apply State.withOp_keeps | apply Acc.run_keeps | apply Acc.bytes_keeps
    | apply State.opDone_keeps | apply State.commitCal_keeps | apply State.setCal_keeps | apply State.modOp_keeps | dsimp only
    | split

theorem execMark_keeps {s0 : State} (op : Nat) {s : State} (hK : Keeps s0 s) :
    Answers (Keeps s0) (execMark op s) := by
  unfold execMark
  with_reducible repeat' first
    | assumption | intro _ | apply Answers.next | apply Keeps.ite | apply State.withOp_keeps | apply State.sendMark_keeps
    | apply State.modOp_keeps | apply State.opDone_keeps | dsimp only | split | (refine Keeps.snd (by assumption) ?_)

theorem execFence_keeps {s0 : State} (op : Nat) {s : State} (hK : Keeps s0 s) :
    Answers (Keeps s0) (execFence op s) := by
  unfold execFence
  with_reducible repeat' first
    | assumption | intro _ | apply Answers.next | apply Keeps.ite | apply State.withOp_keeps | apply State.opDone_keeps
    | dsimp only | split

/-! Machine/Flume.lean. -/

theorem State.modFgrain_keeps {s0 : State} (fe id : Nat) (f : FGrain → FGrain) {s : State} (hK : Keeps s0 s) :
    Keeps s0 (State.modFgrain fe id f s) := by
  unfold State.modFgrain
  with_reducible repeat' first
    | assumption | intro _ | apply State.modFe_keeps | dsimp only | split

theorem State.endFgrain_keeps {s0 : State} (fe : Nat) (g : FGrain) {s : State} (hK : Keeps s0 s) :
    Keeps s0 (State.endFgrain fe g s) := by
  unfold State.endFgrain
  with_reducible repeat' first
    | assumption | intro _ | apply Keeps.forAll | apply State.modFe_keeps | apply State.returnBank_keeps | dsimp only | split

theorem routesOf_keeps {s0 : State} (o : Op) (u : Acc) {s : State} (hK : Keeps s0 s) :
    Leaves (Keeps s0) (routesOf o u) s := by
  unfold routesOf
  with_reducible repeat' first
    | assumption | intro _ | apply Leaves.bind | apply Leaves.pure | apply Leaves.ite | apply Leaves.mapM_
    | apply Acc.bytes_keeps | dsimp only | split

theorem State.outFail_keeps {s0 : State} (t row : Nat) (c : Status × Nat) {s : State} (hK : Keeps s0 s) :
    Keeps s0 (State.outFail t row c s) := by
  unfold State.outFail
  with_reducible repeat' first
    | assumption | intro _ | apply State.blockFail_keeps | dsimp only | split

theorem Acc.reach_keeps {s0 : State} (u : Acc) (h : Half) {s : State} (hK : Keeps s0 s) :
    Leaves (Keeps s0) (Acc.reach u h) s := by
  unfold Acc.reach
  with_reducible repeat' first
    | assumption | intro _ | apply Leaves.get_bind | apply Leaves.pure | apply Leaves.fail | apply Leaves.wait
    | apply Leaves.ite | dsimp only | split

theorem routeWork_keeps {s0 : State} (o : Op) (u : Acc) {s : State} (hK : Keeps s0 s) :
    Leaves (Keeps s0) (routeWork o u) s := by
  unfold routeWork
  with_reducible repeat' first
    | assumption | intro _ | apply Leaves.get_bind | apply Leaves.bind | apply Leaves.pure | apply Leaves.modify_
    | apply Leaves.ite | apply Leaves.forM_ | apply Leaves.mapM_ | apply routesOf_keeps | apply Acc.bytes_keeps
    | apply State.countCnts_keeps | apply Acc.reach_keeps | apply State.modFe_keeps
    | (fail_if_no_progress apply Keeps.set_nextGrain) | dsimp only | split

theorem combineWork_keeps {s0 : State} (o : Op) (j : XJob) (u : Acc) {s : State} (hK : Keeps s0 s) :
    Leaves (Keeps s0) (combineWork o j u) s := by
  unfold combineWork
  with_reducible repeat' first
    | assumption | intro _ | apply Leaves.bind | apply Leaves.pure | apply Leaves.modify_ | apply Leaves.forM_
    | apply Acc.reach_keeps | apply State.outFail_keeps | apply State.countCnts_keeps | apply Acc.put_keeps | dsimp only | split

theorem execExpert_keeps {s0 : State} (op : Nat) {s : State} (hK : Keeps s0 s) :
    Answers (Keeps s0) (execExpert op s) := by
  unfold execExpert
  with_reducible repeat' first
    | assumption | intro _ | apply Answers.next | apply Keeps.ite | apply State.withOp_keeps | apply State.kernelEnd_keeps
    | apply State.kernel_keeps | apply combineWork_keeps | apply State.kernelRun_keeps | apply routeWork_keeps
    | apply State.modOp_keeps | (fail_if_no_progress apply Keeps.set_xjobs) | dsimp only | split

theorem State.wblkCount_keeps {s0 : State} (t : Nat) (enc : Option Nat) (b : Nat) {s : State} (hK : Keeps s0 s) :
    Keeps s0 (State.wblkCount t enc b s) := by
  unfold State.wblkCount
  with_reducible repeat' first
    | assumption | intro _ | apply Keeps.ite | apply State.countOrphrd_keeps | apply State.cntBar_keeps | dsimp only | split

theorem State.askBlock_keeps {s0 : State} (fe t cls : Nat) (enc : Option Nat) (b : Nat) {s : State} (hK : Keeps s0 s) :
    Keeps s0 (State.askBlock fe t cls enc b s) := by
  unfold State.askBlock
  with_reducible repeat' first
    | assumption | intro _ | apply Keeps.ite | apply Keeps.forAll | apply State.access_keeps | apply State.askFill_keeps
    | apply State.sendSnoop_keeps | dsimp only | split

theorem State.fetchAhead_keeps {s0 : State} (fe : Nat) (g : FGrain) {s : State} (hK : Keeps s0 s) :
    Keeps s0 (State.fetchAhead fe g s) := by
  unfold State.fetchAhead
  with_reducible repeat' first
    | assumption | intro _ | apply Keeps.ite | apply Keeps.forAll | apply State.askBlock_keeps | dsimp only | split

theorem State.sluice_keeps {s0 : State} (fe t : Nat) (enc : Option Nat) (b : Nat) {s : State} (hK : Keeps s0 s) :
    Keeps s0 (State.sluice fe t enc b s).2 := by
  unfold State.sluice
  with_reducible repeat' first
    | assumption | intro _ | apply State.cstReadAll_keeps | apply State.blockFail_keeps | dsimp only | split

theorem State.weightVals_keeps {s0 : State} (t wfmt b lo hi : Nat) (v : List Byte) {s : State} (hK : Keeps s0 s) :
    Keeps s0 (State.weightVals t wfmt b lo hi v s).2 := by
  unfold State.weightVals
  with_reducible repeat' first
    | assumption | intro _ | apply State.countCnts_keeps | dsimp only | split

theorem State.countStall_keeps {s0 : State} (t b : Nat) {s : State} (hK : Keeps s0 s) :
    Keeps s0 (State.countStall t b s) := by
  unfold State.countStall
  with_reducible repeat' first
    | assumption | intro _ | apply Keeps.ite | apply State.cntBar_keeps | dsimp only | split

theorem State.countWaits_keeps {s0 : State} (fe : Nat) {s : State} (hK : Keeps s0 s) :
    Keeps s0 (State.countWaits fe s) := by
  unfold State.countWaits
  with_reducible repeat' first
    | assumption | intro _ | apply Keeps.ite | apply Keeps.forAll | apply State.modFgrain_keeps | apply State.countStall_keeps
    | apply State.cntStw_keeps | dsimp only | split

theorem State.workBanks_keeps {s0 : State} (fe : Nat) (g : FGrain) : ∀ (rest_ : Nat) {s : State}, Keeps s0 s →
    Keeps s0 (State.workBanks fe g rest_ s) := by
  intro rest_
  induction rest_ with
  | zero =>
    intro s hK
    unfold State.workBanks
    with_reducible repeat' first
      | assumption | intro _ | apply State.cstFreshBank_keeps | apply State.modFgrain_keeps | dsimp only | split
      | (refine State.allotBank_keeps (by assumption) ?_)
  | succ n ih =>
    intro s hK
    unfold State.workBanks
    with_reducible repeat' first
      | assumption | apply ih | intro _ | apply State.cstFreshBank_keeps | apply State.modFgrain_keeps | dsimp only | split
      | (refine State.allotBank_keeps (by assumption) ?_)

theorem State.markReady_keeps {s0 : State} (fe : Nat) {s : State} (hK : Keeps s0 s) :
    Keeps s0 (State.markReady fe s) := by
  unfold State.markReady
  with_reducible repeat' first
    | assumption | intro _ | apply Keeps.ite | apply Keeps.forAll | apply State.modFgrain_keeps | dsimp only | split

theorem State.startBanks_keeps {s0 : State} (fe : Nat) {s : State} (hK : Keeps s0 s) :
    Keeps s0 (State.startBanks fe s) := by
  unfold State.startBanks
  with_reducible repeat' first
    | assumption | intro _ | apply Keeps.ite | apply Keeps.forAll | apply State.wakeBank_keeps | apply State.workBanks_keeps
    | dsimp only | split

theorem State.tileRows_keeps {s0 : State} (fe : Nat) (g : FGrain) (wfmt k kEnd : Nat) (encs : List (Nat × Nat × Nat)) : ∀ (rest_ : List Nat) (y0 : Nat) {s : State}, Keeps s0 s →
    Keeps s0 (State.tileRows fe g wfmt k kEnd encs rest_ y0 s).2.2 := by
  intro rest_
  induction rest_ with
  | nil =>
    intro y0 s hK
    unfold State.tileRows
    with_reducible repeat' first
      | assumption | intro _ | apply State.wblkCount_keeps | apply State.sluice_keeps | apply State.weightVals_keeps
      | dsimp only | split | (refine Keeps.snd (by assumption) ?_) | (refine Keeps.snd2 (by assumption) ?_)
  | cons a r ih =>
    intro y0 s hK
    unfold State.tileRows
    with_reducible repeat' first
      | assumption | apply ih | intro _ | apply State.wblkCount_keeps | apply State.sluice_keeps | apply State.weightVals_keeps
      | dsimp only | split | (refine Keeps.snd (by assumption) ?_) | (refine Keeps.snd2 (by assumption) ?_)

theorem State.actRows_keeps {s0 : State} (g : FGrain) (down : Bool) (width : Nat) {s : State} (hK : Keeps s0 s) :
    Keeps s0 (State.actRows g down width s).2 := by
  unfold State.actRows
  with_reducible repeat' first
    | assumption | intro _ | apply State.cstReadAll_keeps | apply State.outFail_keeps | dsimp only | split

theorem State.runAgain_keeps {s0 : State} (g : FGrain) (st : Strip) (fe : Nat) (r : Role) {s : State} (hK : Keeps s0 s) :
    Keeps s0 (State.runAgain g st fe r s) := by
  unfold State.runAgain
  with_reducible repeat' first
    | assumption | intro _ | apply State.modFe_keeps | (fail_if_no_progress apply Keeps.set_nextGrain) | dsimp only | split

theorem State.sampleStrip_keeps {s0 : State} (f : Nat) (g : FGrain) (o : Op) (st : Strip) {s : State} (hK : Keeps s0 s) :
    Keeps s0 (State.sampleStrip f g o st s) := by
  unfold State.sampleStrip
  with_reducible repeat' first
    | assumption | intro _ | apply Keeps.ite | apply State.tickFree_keeps | apply State.cntBar_keeps
    | apply State.modFgrain_keeps | apply State.runAgain_keeps | (fail_if_no_progress apply Keeps.set_dups) | dsimp only | split

theorem State.noteTag_keeps {s0 : State} (f : Nat) (g : FGrain) (blocks : List Nat) {s : State} (hK : Keeps s0 s) :
    Keeps s0 (State.noteTag f g blocks s) := by
  unfold State.noteTag
  with_reducible repeat' first
    | assumption | intro _ | apply State.modFgrain_keeps | dsimp only | split

theorem State.beginStrip_keeps {s0 : State} (f : Nat) (g : FGrain) (st : Strip) (blocks : List Nat) {s : State} (hK : Keeps s0 s) :
    Keeps s0 (State.beginStrip f g st blocks s) := by
  unfold State.beginStrip
  with_reducible repeat' first
    | assumption | intro _ | apply Keeps.ite | apply State.noteTag_keeps | apply State.sampleStrip_keeps | dsimp only | split

theorem State.runTile_keeps {s0 : State} (fe : Nat) (t : Tile) {s : State} (hK : Keeps s0 s) :
    Keeps s0 (State.runTile fe t s) := by
  unfold State.runTile
  with_reducible repeat' first
    | assumption | intro _ | apply State.modFe_keeps | dsimp only | split

theorem State.startTile_keeps {s0 : State} (fe : Nat) (g : FGrain) {s : State} (hK : Keeps s0 s) :
    Keeps s0 (State.startTile fe g s) := by
  unfold State.startTile
  with_reducible repeat' first
    | assumption | intro _ | apply State.modFgrain_keeps | apply State.beginStrip_keeps | apply State.actRows_keeps
    | apply State.runTile_keeps | apply State.tileRows_keeps | apply State.modFe_keeps | dsimp only | split
    | (refine Keeps.snd (by assumption) ?_) | (refine Keeps.snd2 (by assumption) ?_)

theorem State.stopGrains_keeps {s0 : State} (fe : Nat) {s : State} (hK : Keeps s0 s) :
    Keeps s0 (State.stopGrains fe s) := by
  unfold State.stopGrains
  with_reducible repeat' first
    | assumption | intro _ | apply Keeps.forAll | apply State.endFgrain_keeps | dsimp only | split

theorem execTileStart_keeps {s0 : State} (fe : BitVec 4) {s : State} (hK : Keeps s0 s) :
    Answers (Keeps s0) (execTileStart fe s) := by
  unfold execTileStart
  with_reducible repeat' first
    | assumption | intro _ | apply Answers.next | apply Answers.ite | apply Keeps.forAll | apply State.stopGrains_keeps
    | apply State.fetchAhead_keeps | apply State.markReady_keeps | apply State.countWaits_keeps | apply State.startBanks_keeps
    | apply State.startTile_keeps | dsimp only | split

theorem execStagingFillDone_keeps {s0 : State} (fe : BitVec 4) (plot : PlotNo) (block : BitVec 4) {s : State} (hK : Keeps s0 s) :
    Answers (Keeps s0) (execStagingFillDone fe plot block s) := by
  unfold execStagingFillDone
  with_reducible repeat' first
    | assumption | intro _ | apply Answers.next | apply Keeps.forAll | apply State.sendSnoop_keeps | apply State.fillDone_keeps
    | apply State.settle_keeps | apply State.markReady_keeps | apply State.modFgrain_keeps | apply State.cntStw_keeps
    | dsimp only | split | (refine Keeps.snd (by assumption) ?_)

/-! Machine/Engines.lean. -/

theorem State.fenceRec_keeps {s0 : State} (unit cause : Nat) (fenced : Bool) {s : State} (hK : Keeps s0 s) :
    Keeps s0 (State.fenceRec unit cause fenced s) := by
  unfold State.fenceRec
  with_reducible repeat' first
    | assumption | intro _ | apply Keeps.ite | apply State.logRec_keeps | apply State.fmHealth_keeps | dsimp only | split

theorem State.releaseStrip_keeps {s0 : State} (f id : Nat) (o : Op) (st : Strip) (l : List OutBlk) {s : State} (hK : Keeps s0 s) :
    Keeps s0 (State.releaseStrip f id o st l s) := by
  unfold State.releaseStrip
  with_reducible repeat' first
    | assumption | intro _ | apply Keeps.ite | apply State.modXjob_keeps | apply State.endFgrain_keeps
    | apply State.cstFresh_keeps | apply State.modFgrain_keeps | dsimp only | split

theorem State.modDup_keeps {s0 : State} (i : Nat) (f : Dup → Dup) {s : State} (hK : Keeps s0 s) :
    Keeps s0 (State.modDup i f s) := by
  unfold State.modDup
  with_reducible repeat' first
    | assumption | intro _ | (fail_if_no_progress apply Keeps.set_dups) | dsimp only | split

theorem State.dropDup_keeps {s0 : State} (i : Nat) {s : State} (hK : Keeps s0 s) :
    Keeps s0 (State.dropDup i s) := by
  unfold State.dropDup
  with_reducible repeat' first
    | assumption | intro _ | (fail_if_no_progress apply Keeps.set_dups) | dsimp only | split

theorem State.dupRelease_keeps {s0 : State} (d : Dup) (o : Op) {s : State} (hK : Keeps s0 s) :
    Keeps s0 (State.dupRelease d o s) := by
  unfold State.dupRelease
  with_reducible repeat' first
    | assumption | intro _ | apply State.dropDup_keeps | apply State.modFgrain_keeps | apply State.releaseStrip_keeps
    | dsimp only | split

theorem State.settleDup_keeps {s0 : State} (fence : Nat → Nat → State → State) (d : Dup) (out3 : Option (List OutBlk)) {s : State} (hf : ∀ a b t, Keeps s0 t → Keeps s0 (fence a b t)) (hK : Keeps s0 s) :
    Keeps s0 (State.settleDup fence d out3 s) := by
  unfold State.settleDup
  with_reducible repeat' first
    | assumption | intro _ | apply Keeps.ite | apply State.dropDup_keeps | apply State.cntBar_keeps | apply State.failOp_keeps
    | apply State.logRec_keeps | apply hf | dsimp only | split

theorem State.thirdRun_keeps {s0 : State} (fence : Nat → Nat → State → State) (d : Dup) {s : State} (hf : ∀ a b t, Keeps s0 t → Keeps s0 (fence a b t)) (hK : Keeps s0 s) :
    Keeps s0 (State.thirdRun fence d s) := by
  unfold State.thirdRun
  with_reducible repeat' first
    | assumption | intro _ | apply State.modDup_keeps | apply State.runAgain_keeps | apply State.settleDup_keeps | apply hf
    | dsimp only | split

theorem State.requeue_keeps {s0 : State} (g : FGrain) {s : State} (hK : Keeps s0 s) :
    Keeps s0 (State.requeue g s) := by
  unfold State.requeue
  with_reducible repeat' first
    | assumption | intro _ | apply Keeps.ite | apply Keeps.forAll | apply State.returnBank_keeps | apply State.failOp_keeps
    | apply State.modFe_keeps | (fail_if_no_progress apply Keeps.set_dups) | dsimp only | split

theorem State.lostChecker_keeps {s0 : State} (i : Nat) {s : State} (hK : Keeps s0 s) :
    Keeps s0 (State.lostChecker i s) := by
  unfold State.lostChecker
  with_reducible repeat' first
    | assumption | intro _ | apply State.modDup_keeps | apply State.runAgain_keeps | apply State.cntBar_keeps
    | apply State.dupRelease_keeps | apply State.dropDup_keeps | dsimp only | split

theorem State.fenceN_keeps {s0 : State} : ∀ (rest_ : Nat) (y0 : Nat) (y1 : Nat) (y2 : Bool) {s : State}, Keeps s0 s →
    Keeps s0 (State.fenceN rest_ y0 y1 y2 s) := by
  intro rest_
  induction rest_ with
  | zero =>
    intro y0 y1 y2 s hK
    unfold State.fenceN
    with_reducible repeat' first
      | assumption | intro _ | apply Keeps.forAll | apply State.setFe_keeps | apply State.farDrop_keeps
      | apply State.fenceRec_keeps | apply State.requeue_keeps | apply State.lostChecker_keeps | apply State.thirdRun_keeps
      | apply State.settle_keeps | dsimp only | split
  | succ n ih =>
    intro y0 y1 y2 s hK
    unfold State.fenceN
    with_reducible repeat' first
      | assumption | apply ih | intro _ | apply Keeps.forAll | apply State.setFe_keeps | apply State.farDrop_keeps
      | apply State.fenceRec_keeps | apply State.requeue_keeps | apply State.lostChecker_keeps | apply State.thirdRun_keeps
      | apply State.settle_keeps | dsimp only | split

theorem State.fenceFe_keeps {s0 : State} (f cause : Nat) (cmd : Bool) {s : State} (hK : Keeps s0 s) :
    Keeps s0 (State.fenceFe f cause cmd s) := by
  unfold State.fenceFe
  with_reducible repeat' first
    | assumption | intro _ | apply State.fenceN_keeps | dsimp only | split

theorem State.fenceDup_keeps {s0 : State} (f cause : Nat) {s : State} (hK : Keeps s0 s) :
    Keeps s0 (State.fenceDup f cause s) := by
  unfold State.fenceDup
  with_reducible repeat' first
    | assumption | intro _ | apply State.fenceFe_keeps | dsimp only | split

theorem State.dupStep_keeps {s0 : State} (i : Nat) {s : State} (hK : Keeps s0 s) :
    Keeps s0 (State.dupStep i s) := by
  unfold State.dupStep
  with_reducible repeat' first
    | assumption | intro _ | apply Keeps.ite | apply State.cntBar_keeps | apply State.dupRelease_keeps
    | apply State.thirdRun_keeps | apply State.fenceDup_keeps | dsimp only | split

theorem State.stripEnd_keeps {s0 : State} (f : Nat) (g : FGrain) (o : Op) (st : Strip) (a0 a1 : List (List W32)) {s : State} (hK : Keeps s0 s) :
    Keeps s0 (State.stripEnd f g o st a0 a1 s) := by
  unfold State.stripEnd
  with_reducible repeat' first
    | assumption | intro _ | apply State.countCnts_keeps | apply State.modFgrain_keeps | apply State.releaseStrip_keeps
    | apply State.modDup_keeps | apply State.dupStep_keeps | apply State.endFgrain_keeps | apply State.settleDup_keeps
    | apply State.fenceDup_keeps | dsimp only | split

theorem State.tileEnd_keeps {s0 : State} (f : Nat) (wrong : List (BitVec 12 × W32)) {s : State} (hK : Keeps s0 s) :
    Keeps s0 (State.tileEnd f wrong s) := by
  unfold State.tileEnd
  with_reducible repeat' first
    | assumption | intro _ | apply Keeps.ite | apply State.modFe_keeps | apply State.stopGrains_keeps | apply State.failOp_keeps
    | apply State.modFgrain_keeps | apply State.stripEnd_keeps | apply State.endFgrain_keeps | dsimp only | split

theorem execTileEnd_keeps {s0 : State} (fe : BitVec 4) (wrong : List (BitVec 12 × W32)) {s : State} (hK : Keeps s0 s) :
    Answers (Keeps s0) (execTileEnd fe wrong s) := by
  unfold execTileEnd
  with_reducible repeat' first
    | assumption | intro _ | apply Answers.next | apply State.tileEnd_keeps | apply State.markReady_keeps | dsimp only | split

theorem State.fenceStatus_keeps {s0 : State} (stat : Nat) (st : Status) {s : State} (hK : Keeps s0 s) :
    Keeps s0 (State.fenceStatus stat st s) := by
  unfold State.fenceStatus
  with_reducible repeat' first
    | assumption | intro _ | apply State.modStw_keeps | dsimp only | split

theorem State.fenceBusy_keeps {s0 : State} (stat : Nat) {s : State} (hK : Keeps s0 s) :
    Keeps s0 (State.fenceBusy stat s) := by
  unfold State.fenceBusy
  with_reducible repeat' first
    | assumption | intro _ | apply State.setStw_keeps | dsimp only | split

theorem State.fenceIdle_keeps {s0 : State} (stat : Nat) (cmd : Bool) {s : State} (hK : Keeps s0 s) :
    Keeps s0 (State.fenceIdle stat cmd s) := by
  unfold State.fenceIdle
  with_reducible repeat' first
    | assumption | intro _ | apply Keeps.ite | apply State.setStw_keeps | dsimp only | split

theorem execEngineFence_keeps {s0 : State} (fe : BitVec 4) (c : FenceCause) {s : State} (hK : Keeps s0 s) :
    Answers (Keeps s0) (execEngineFence fe c s) := by
  unfold execEngineFence
  with_reducible repeat' first
    | assumption | intro _ | apply Answers.next | apply Keeps.ite | apply State.fenceFe_keeps | apply State.fenceBusy_keeps
    | apply State.fenceStatus_keeps | dsimp only | split

theorem execEngineFenced_keeps {s0 : State} (fe : BitVec 4) {s : State} (hK : Keeps s0 s) :
    Answers (Keeps s0) (execEngineFenced fe s) := by
  unfold execEngineFenced
  with_reducible repeat' first
    | assumption | intro _ | apply Answers.next | apply Answers.ite | apply State.modFe_keeps | apply State.fenceIdle_keeps
    | dsimp only | split

theorem execEngineBist_keeps {s0 : State} (fe : BitVec 4) {s : State} (hK : Keeps s0 s) :
    Answers (Keeps s0) (execEngineBist fe s) := by
  unfold execEngineBist
  with_reducible repeat' first
    | assumption | intro _ | apply Answers.next | apply State.modFe_keeps | apply State.fenceBusy_keeps
    | apply State.maintAsk_keeps | apply State.fenceStatus_keeps | dsimp only | split

theorem execEngineBistDone_keeps {s0 : State} (fe : BitVec 4) (pass : Bool) {s : State} (hK : Keeps s0 s) :
    Answers (Keeps s0) (execEngineBistDone fe pass s) := by
  unfold execEngineBistDone
  with_reducible repeat' first
    | assumption | intro _ | apply Answers.next | apply Answers.ite | apply State.modFe_keeps | apply State.fenceIdle_keeps
    | apply State.maintEnd_keeps | dsimp only | split

theorem execEngineReturn_keeps {s0 : State} (fe : BitVec 4) {s : State} (hK : Keeps s0 s) :
    Answers (Keeps s0) (execEngineReturn fe s) := by
  unfold execEngineReturn
  with_reducible repeat' first
    | assumption | intro _ | apply Answers.next | apply State.modFe_keeps | apply State.fenceStatus_keeps
    | apply State.fenceRec_keeps | dsimp only | split

/-! Machine/Tender.lean. -/

theorem execRunProgram_keeps {s0 : State} (op : Nat) {s : State} (hK : Keeps s0 s) :
    Answers (Keeps s0) (execRunProgram op s) := by
  unfold execRunProgram
  with_reducible repeat' first
    | assumption | intro _ | apply Answers.next | apply Keeps.ite | apply State.withOp_keeps | apply State.opDone_keeps
    | apply State.startJob_keeps | dsimp only | split

theorem execGrainCreate_keeps {s0 : State} (job : Nat) {s : State} (hK : Keeps s0 s) :
    Answers (Keeps s0) (execGrainCreate job s) := by
  unfold execGrainCreate
  with_reducible repeat' first
    | assumption | intro _ | apply Answers.next | apply Answers.ite | apply Keeps.ite | apply State.stopJob_keeps
    | apply State.modJob_keeps | apply State.faultGrain_keeps | (fail_if_no_progress apply Keeps.set_grains_nextGrain)
    | dsimp only | split

theorem execGrainDispatch_keeps {s0 : State} (core : BitVec 6) {s : State} (hK : Keeps s0 s) :
    Answers (Keeps s0) (execGrainDispatch core s) := by
  unfold execGrainDispatch
  with_reducible repeat' first
    | assumption | intro _ | apply Answers.next | apply Answers.ite | apply State.modGrain_keeps | apply State.modTc_keeps
    | dsimp only | split

theorem State.yieldAt_keeps {s0 : State} (g : Grain) {s : State} (hK : Keeps s0 s) :
    Keeps s0 (State.yieldAt g s) := by
  unfold State.yieldAt
  with_reducible repeat' first
    | assumption | intro _ | apply Keeps.ite | apply State.endGrain_keeps | apply State.modGrain_keeps | dsimp only | split

theorem execGrainForcedYield_keeps {s0 : State} (g : Nat) {s : State} (hK : Keeps s0 s) :
    Answers (Keeps s0) (execGrainForcedYield g s) := by
  unfold execGrainForcedYield
  with_reducible repeat' first
    | assumption | intro _ | apply Answers.next | apply Keeps.ite | apply State.yieldAt_keeps | dsimp only | split

theorem execGrainWake_keeps {s0 : State} (g : Nat) {s : State} (hK : Keeps s0 s) :
    Answers (Keeps s0) (execGrainWake g s) := by
  unfold execGrainWake
  with_reducible repeat' first
    | assumption | intro _ | apply Answers.next | apply Keeps.ite | apply State.modGrain_keeps | dsimp only | split

theorem execGrainLimitExceeded_keeps {s0 : State} (g : Nat) {s : State} (hK : Keeps s0 s) :
    Answers (Keeps s0) (execGrainLimitExceeded g s) := by
  unfold execGrainLimitExceeded
  with_reducible repeat' first
    | assumption | intro _ | apply Answers.next | apply Keeps.ite | apply State.faultGrain_keeps | dsimp only | split

theorem State.fencedGrain_keeps {s0 : State} (g : Grain) {s : State} (hK : Keeps s0 s) :
    Keeps s0 (State.fencedGrain g s) := by
  unfold State.fencedGrain
  with_reducible repeat' first
    | assumption | intro _ | apply Keeps.ite | apply State.faultGrain_keeps | apply State.endGrain_keeps
    | apply State.modGrain_keeps | dsimp only | split

theorem State.boundGrain_keeps {s0 : State} (g : Grain) {s : State} (hK : Keeps s0 s) :
    Keeps s0 (State.boundGrain g s) := by
  unfold State.boundGrain
  with_reducible repeat' first
    | assumption | intro _ | apply Keeps.ite | apply State.modGrain_keeps | apply State.faultGrain_keeps | dsimp only | split

theorem State.fenceTc_keeps {s0 : State} (c cause : Nat) (cmd : Bool) {s : State} (hK : Keeps s0 s) :
    Keeps s0 (State.fenceTc c cause cmd s) := by
  unfold State.fenceTc
  with_reducible repeat' first
    | assumption | intro _ | apply Keeps.forAll | apply State.setTc_keeps | apply State.fenceRec_keeps
    | apply State.fencedGrain_keeps | apply State.boundGrain_keeps | dsimp only | split

theorem execCoreFence_keeps {s0 : State} (tc : BitVec 6) (c : FenceCause) {s : State} (hK : Keeps s0 s) :
    Answers (Keeps s0) (execCoreFence tc c s) := by
  unfold execCoreFence
  with_reducible repeat' first
    | assumption | intro _ | apply Answers.next | apply Keeps.ite | apply State.fenceTc_keeps | apply State.fenceBusy_keeps
    | apply State.fenceStatus_keeps | dsimp only | split

theorem execCoreFenced_keeps {s0 : State} (tc : BitVec 6) {s : State} (hK : Keeps s0 s) :
    Answers (Keeps s0) (execCoreFenced tc s) := by
  unfold execCoreFenced
  with_reducible repeat' first
    | assumption | intro _ | apply Answers.next | apply Keeps.ite | apply State.setTc_keeps | apply State.fenceIdle_keeps
    | dsimp only | split

theorem execCoreBist_keeps {s0 : State} (tc : BitVec 6) {s : State} (hK : Keeps s0 s) :
    Answers (Keeps s0) (execCoreBist tc s) := by
  unfold execCoreBist
  with_reducible repeat' first
    | assumption | intro _ | apply Answers.next | apply State.setTc_keeps | apply State.fenceBusy_keeps
    | apply State.maintAsk_keeps | apply State.fenceStatus_keeps | dsimp only | split

theorem execCoreBistDone_keeps {s0 : State} (tc : BitVec 6) (pass : Bool) {s : State} (hK : Keeps s0 s) :
    Answers (Keeps s0) (execCoreBistDone tc pass s) := by
  unfold execCoreBistDone
  with_reducible repeat' first
    | assumption | intro _ | apply Answers.next | apply Keeps.ite | apply State.setTc_keeps | apply State.fenceIdle_keeps
    | apply State.maintEnd_keeps | dsimp only | split

theorem execCoreReturn_keeps {s0 : State} (tc : BitVec 6) {s : State} (hK : Keeps s0 s) :
    Answers (Keeps s0) (execCoreReturn tc s) := by
  unfold execCoreReturn
  with_reducible repeat' first
    | assumption | intro _ | apply Answers.next | apply State.setTc_keeps | apply State.fenceStatus_keeps
    | apply State.fenceRec_keeps | dsimp only | split

theorem execFieldTestStart_keeps {s0 : State} (u : TestUnit) {s : State} (hK : Keeps s0 s) :
    Answers (Keeps s0) (execFieldTestStart u s) := by
  unfold execFieldTestStart
  with_reducible repeat' first
    | assumption | intro _ | apply Answers.next | apply Answers.ite | apply Keeps.ite | apply State.modFe_keeps
    | apply State.modTc_keeps | dsimp only | split

theorem State.countTest_keeps {s0 : State} (pass : Bool) {s : State} (hK : Keeps s0 s) :
    Keeps s0 (State.countTest pass s) := by
  unfold State.countTest
  with_reducible repeat' first
    | assumption | intro _ | apply Keeps.ite | apply State.cntStw_keeps | dsimp only | split

theorem execFieldTestDone_keeps {s0 : State} (u : TestUnit) (pass : Bool) {s : State} (hK : Keeps s0 s) :
    Answers (Keeps s0) (execFieldTestDone u pass s) := by
  unfold execFieldTestDone
  with_reducible repeat' first
    | assumption | intro _ | apply Answers.next | apply Answers.ite | apply Keeps.ite | apply State.modFe_keeps
    | apply State.countTest_keeps | apply State.fenceFe_keeps | apply State.modTc_keeps | apply State.fenceTc_keeps | dsimp only
    | split

theorem kernelWork_keeps {s0 : State} (o : Op) (n : Nat) (block : Nat → Work Unit) {s : State} (hb : ∀ k t, Keeps s0 t → Leaves (Keeps s0) (block k) t) (hK : Keeps s0 s) :
    Leaves (Keeps s0) (kernelWork o n block) s := by
  unfold kernelWork
  with_reducible repeat' first
    | assumption | intro _ | apply Leaves.bind | apply Leaves.pure | apply Leaves.throw | apply Leaves.forM_ | apply Leaves.try_
    | apply hb | dsimp only | split

theorem Acc.plain_keeps {s0 : State} (u : Acc) (code ua lo n : Nat) {s : State} (hK : Keeps s0 s) :
    Leaves (Keeps s0) (Acc.plain u code ua lo n) s := by
  unfold Acc.plain
  with_reducible repeat' first
    | assumption | intro _ | apply Leaves.bind | apply Leaves.pure | apply Acc.bytes_keeps | dsimp only | split

theorem execQuant_keeps {s0 : State} (op : Nat) {s : State} (hK : Keeps s0 s) :
    Answers (Keeps s0) (execQuant op s) := by
  unfold execQuant
  with_reducible repeat' first
    | assumption | intro _ | apply Answers.next | apply Leaves.bind | apply State.withOp_keeps | apply State.kernel_keeps
    | apply kernelWork_keeps | apply Acc.plain_keeps | apply Acc.putBlock_keeps | dsimp only | split

theorem execGateact_keeps {s0 : State} (op : Nat) {s : State} (hK : Keeps s0 s) :
    Answers (Keeps s0) (execGateact op s) := by
  unfold execGateact
  with_reducible repeat' first
    | assumption | intro _ | apply Answers.next | apply Leaves.bind | apply Leaves.pure | apply Leaves.ite
    | apply State.withOp_keeps | apply State.kernel_keeps | apply kernelWork_keeps | apply Acc.plain_keeps
    | apply Acc.putBlock_keeps | dsimp only | split

theorem execProgramOldDiscard_keeps {s0 : State} (slot : BitVec 10) {s : State} (hK : Keeps s0 s) :
    Answers (Keeps s0) (execProgramOldDiscard slot s) := by
  unfold execProgramOldDiscard
  with_reducible repeat' first
    | assumption | intro _ | apply Answers.next | apply Keeps.ite | apply State.setPslot_keeps | dsimp only | split

theorem State.pcmdStatus_keeps {s0 : State} (st : Status) {s : State} (hK : Keeps s0 s) :
    Keeps s0 (State.pcmdStatus st s) := by
  unfold State.pcmdStatus
  with_reducible repeat' first
    | assumption | intro _ | apply State.modStw_keeps | dsimp only | split

theorem execProgramSlotUnload_keeps {s0 : State} {s : State} (hK : Keeps s0 s) :
    Answers (Keeps s0) (execProgramSlotUnload s) := by
  unfold execProgramSlotUnload
  with_reducible repeat' first
    | assumption | intro _ | apply Answers.next | apply State.replaceProg_keeps | apply State.pcmdStatus_keeps | dsimp only
    | split

theorem execProgramSlotOwner_keeps {s0 : State} (t : Tenant) {s : State} (hK : Keeps s0 s) :
    Answers (Keeps s0) (execProgramSlotOwner t s) := by
  unfold execProgramSlotOwner
  with_reducible repeat' first
    | assumption | intro _ | apply Answers.next | apply State.modPslot_keeps | apply State.pcmdStatus_keeps | dsimp only | split

theorem execTndPcmdReserved_keeps {s0 : State} {s : State} (hK : Keeps s0 s) :
    Answers (Keeps s0) (execTndPcmdReserved s) := by
  unfold execTndPcmdReserved
  with_reducible repeat' first
    | assumption | intro _ | apply Answers.next | apply State.pcmdStatus_keeps | dsimp only | split

/-! Machine/GrainMem.lean. -/

theorem spnFault_keeps {s0 : State} {α : Type} (code : Nat) (c : Status) {s : State} (hK : Keeps s0 s) :
    Leaves (Keeps s0) (spnFault code c : Work α) s := Leaves.throw hK

theorem spnRead_keeps {s0 : State} {α : Type} (m : Work α) {s : State} (hm : ∀ t, Keeps s0 t → Leaves (Keeps s0) m t) (hK : Keeps s0 s) :
    Leaves (Keeps s0) (spnRead m) s := by
  unfold spnRead
  with_reducible repeat' first
    | assumption | intro _ | apply Leaves.bind | apply Leaves.pure | apply Leaves.try_ | apply spnFault_keeps | apply hm
    | dsimp only | split

theorem spnWrite_keeps {s0 : State} {α : Type} (m : Work α) {s : State} (hm : ∀ t, Keeps s0 t → Leaves (Keeps s0) m t) (hK : Keeps s0 s) :
    Leaves (Keeps s0) (spnWrite m) s := by
  unfold spnWrite
  with_reducible repeat' first
    | assumption | intro _ | apply Leaves.bind | apply Leaves.pure | apply Leaves.try_ | apply spnFault_keeps | apply hm
    | dsimp only | split

theorem bankUp_keeps {s0 : State} (b : Nat) {s : State} (hK : Keeps s0 s) :
    Leaves (Keeps s0) (bankUp b) s := by
  unfold bankUp
  with_reducible repeat' first
    | assumption | intro _ | apply Leaves.get_bind | apply Leaves.pure | apply Leaves.wait | apply Leaves.ite | dsimp only
    | split

theorem Grain.loadAt_keeps {s0 : State} (g : Grain) (j : Job) (p : Place) (n : Nat) (active : Nat → Bool) {s : State} (hK : Keeps s0 s) :
    Leaves (Keeps s0) (Grain.loadAt g j p n active) s := by
  unfold Grain.loadAt
  with_reducible repeat' first
    | assumption | intro _ | apply Leaves.get_bind | apply Leaves.bind | apply Leaves.pure | apply Leaves.set_
    | apply Leaves.ite | apply Leaves.forM_ | apply Leaves.mapM_ | apply spnFault_keeps | apply spnRead_keeps
    | apply Acc.bytes_keeps | apply bankUp_keeps | apply State.cstRead_keeps | dsimp only | split
    | (refine Keeps.snd (by assumption) ?_)

theorem Grain.storeLine_keeps {s0 : State} (g : Grain) (j : Job) (a : Nat) (b : List Byte) (active : Nat → Bool) (l : Nat) {s : State} (hK : Keeps s0 s) :
    Leaves (Keeps s0) (Grain.storeLine g j a b active l) s := by
  unfold Grain.storeLine
  with_reducible repeat' first
    | assumption | intro _ | apply Leaves.pure | apply Leaves.ite | apply spnWrite_keeps | apply Acc.store_keeps | dsimp only
    | split

theorem Grain.storeAt_keeps {s0 : State} (g : Grain) (j : Job) (p : Place) (b : List Byte) (active : Nat → Bool) {s : State} (hK : Keeps s0 s) :
    Leaves (Keeps s0) (Grain.storeAt g j p b active) s := by
  unfold Grain.storeAt
  with_reducible repeat' first
    | assumption | intro _ | apply Leaves.bind | apply Leaves.pure | apply Leaves.modify_ | apply Leaves.ite
    | apply Leaves.forM_ | apply spnFault_keeps | apply Grain.storeLine_keeps | apply bankUp_keeps | apply State.wordWrite_keeps
    | apply State.modCst_keeps | dsimp only | split | apply MemOk.mset | apply MemOk.foldl_

theorem Grain.load_keeps {s0 : State} (g : Grain) (j : Job) (a : W64) (n : Nat) {s : State} (hK : Keeps s0 s) :
    Leaves (Keeps s0) (Grain.load g j a n) s := by
  unfold Grain.load
  with_reducible repeat' first
    | assumption | intro _ | apply Grain.loadAt_keeps | apply spnFault_keeps | dsimp only | split

theorem Grain.store_keeps {s0 : State} (g : Grain) (j : Job) (a : W64) (b : List Byte) (active : Nat → Bool) {s : State} (hK : Keeps s0 s) :
    Leaves (Keeps s0) (Grain.store g j a b active) s := by
  unfold Grain.store
  with_reducible repeat' first
    | assumption | intro _ | apply spnFault_keeps | apply Grain.storeAt_keeps | dsimp only | split

theorem State.putGrain_keeps {s0 : State} (g : Grain) {s : State} (hK : Keeps s0 s) :
    Keeps s0 (State.putGrain g s) := by
  unfold State.putGrain
  with_reducible repeat' first
    | assumption | intro _ | apply Keeps.ite | apply State.modGrain_keeps | apply State.yieldAt_keeps | dsimp only | split

theorem State.runGrain_keeps {s0 : State} (g : Grain) (j : Job) (m : Work (Option Grain)) {s : State} (hm : ∀ t, Keeps s0 t → Leaves (Keeps s0) m t) (hK : Keeps s0 s) :
    Keeps s0 (State.runGrain g j m s) := by
  unfold State.runGrain
  with_reducible repeat' first
    | assumption | intro _ | apply Acc.ends_keeps | apply State.putGrain_keeps | apply State.endGrain_keeps
    | apply State.faultGrain_keeps | apply Acc.waits_keeps | apply hm | dsimp only | split
    | (refine Leaves.ok_ (by assumption) ?_) | (refine Leaves.error_ (by assumption) ?_)

theorem State.spn_keeps {s0 : State} (id : Nat) (c : SCls) (f : Grain → Job → W32 → Work (Option Grain)) {s : State} (hf : ∀ g j w t, Keeps s0 t → Leaves (Keeps s0) (f g j w) t) (hK : Keeps s0 s) :
    Answers (Keeps s0) (State.spn id c f s) := by
  unfold State.spn
  with_reducible repeat' first
    | assumption | intro _ | apply Answers.next | apply Answers.ite | apply State.faultGrain_keeps | apply State.runGrain_keeps
    | apply hf | dsimp only | split

theorem State.spnRegs_keeps {s0 : State} (id : Nat) (c : SCls) (f : Ctx → Nat → W32 → State → Ctx) {s : State} (hK : Keeps s0 s) :
    Answers (Keeps s0) (State.spnRegs id c f s) := by
  unfold State.spnRegs
  with_reducible repeat' first
    | assumption | intro _ | apply Leaves.get_bind | apply Leaves.bind | apply Leaves.pure | apply Leaves.set_
    | apply State.spn_keeps | apply State.tickFree_keeps | dsimp only | split

/-! Machine/SpaernScalar.lean. -/

theorem execSpnAlu_keeps {s0 : State} (g : Nat) {s : State} (hK : Keeps s0 s) :
    Answers (Keeps s0) (execSpnAlu g s) := by
  unfold execSpnAlu
  with_reducible repeat' first
    | assumption | intro _ | apply State.spnRegs_keeps | dsimp only | split

theorem execSpnAluImm_keeps {s0 : State} (g : Nat) {s : State} (hK : Keeps s0 s) :
    Answers (Keeps s0) (execSpnAluImm g s) := by
  unfold execSpnAluImm
  with_reducible repeat' first
    | assumption | intro _ | apply State.spnRegs_keeps | dsimp only | split

theorem execSpnLoadUpper_keeps {s0 : State} (g : Nat) {s : State} (hK : Keeps s0 s) :
    Answers (Keeps s0) (execSpnLoadUpper g s) := by
  unfold execSpnLoadUpper
  with_reducible repeat' first
    | assumption | intro _ | apply State.spnRegs_keeps | dsimp only | split

theorem execSpnBranch_keeps {s0 : State} (g : Nat) {s : State} (hK : Keeps s0 s) :
    Answers (Keeps s0) (execSpnBranch g s) := by
  unfold execSpnBranch
  with_reducible repeat' first
    | assumption | intro _ | apply State.spnRegs_keeps | dsimp only | split

theorem execSpnJump_keeps {s0 : State} (g : Nat) {s : State} (hK : Keeps s0 s) :
    Answers (Keeps s0) (execSpnJump g s) := by
  unfold execSpnJump
  with_reducible repeat' first
    | assumption | intro _ | apply State.spnRegs_keeps | dsimp only | split

theorem execSpnJumpReg_keeps {s0 : State} (g : Nat) {s : State} (hK : Keeps s0 s) :
    Answers (Keeps s0) (execSpnJumpReg g s) := by
  unfold execSpnJumpReg
  with_reducible repeat' first
    | assumption | intro _ | apply State.spnRegs_keeps | dsimp only | split

theorem execSpnLoad_keeps {s0 : State} (g : Nat) {s : State} (hK : Keeps s0 s) :
    Answers (Keeps s0) (execSpnLoad g s) := by
  unfold execSpnLoad
  with_reducible repeat' first
    | assumption | intro _ | apply Leaves.bind | apply Leaves.pure | apply State.spn_keeps | apply Grain.load_keeps | dsimp only
    | split

theorem execSpnStore_keeps {s0 : State} (g : Nat) {s : State} (hK : Keeps s0 s) :
    Answers (Keeps s0) (execSpnStore g s) := by
  unfold execSpnStore
  with_reducible repeat' first
    | assumption | intro _ | apply Leaves.bind | apply Leaves.pure | apply State.spn_keeps | apply Grain.store_keeps
    | dsimp only | split

theorem execSpnAtomic_keeps {s0 : State} (g : Nat) {s : State} (hK : Keeps s0 s) :
    Answers (Keeps s0) (execSpnAtomic g s) := by
  unfold execSpnAtomic
  with_reducible repeat' first
    | assumption | intro _ | apply Leaves.bind | apply Leaves.pure | apply Leaves.ite | apply State.spn_keeps
    | apply spnFault_keeps | apply Grain.load_keeps | apply Grain.store_keeps | dsimp only | split

theorem execSpnYield_keeps {s0 : State} (g : Nat) {s : State} (hK : Keeps s0 s) :
    Answers (Keeps s0) (execSpnYield g s) := by
  unfold execSpnYield
  with_reducible repeat' first
    | assumption | intro _ | apply Leaves.pure | apply State.spn_keeps | dsimp only | split

theorem execSpnFence_keeps {s0 : State} (g : Nat) {s : State} (hK : Keeps s0 s) :
    Answers (Keeps s0) (execSpnFence g s) := by
  unfold execSpnFence
  with_reducible repeat' first
    | assumption | intro _ | apply Leaves.pure | apply State.spn_keeps | dsimp only | split

theorem execSpnExit_keeps {s0 : State} (g : Nat) {s : State} (hK : Keeps s0 s) :
    Answers (Keeps s0) (execSpnExit g s) := by
  unfold execSpnExit
  with_reducible repeat' first
    | assumption | intro _ | apply Leaves.pure | apply State.spn_keeps | dsimp only | split

theorem execSpnTrap_keeps {s0 : State} (g : Nat) {s : State} (hK : Keeps s0 s) :
    Answers (Keeps s0) (execSpnTrap g s) := by
  unfold execSpnTrap
  with_reducible repeat' first
    | assumption | intro _ | apply State.spn_keeps | apply spnFault_keeps | dsimp only | split

theorem execSpnGets_keeps {s0 : State} (g : Nat) {s : State} (hK : Keeps s0 s) :
    Answers (Keeps s0) (execSpnGets g s) := by
  unfold execSpnGets
  with_reducible repeat' first
    | assumption | intro _ | apply Leaves.get_bind | apply Leaves.bind | apply Leaves.pure | apply Leaves.set_
    | apply State.spn_keeps | apply State.tickFree_keeps | dsimp only | split

theorem execSpnWait_keeps {s0 : State} (g : Nat) {s : State} (hK : Keeps s0 s) :
    Answers (Keeps s0) (execSpnWait g s) := by
  unfold execSpnWait
  with_reducible repeat' first
    | assumption | intro _ | apply Leaves.get_bind | apply Leaves.pure | apply Leaves.ite | apply State.spn_keeps | dsimp only
    | split

theorem execSpnSignal_keeps {s0 : State} (g : Nat) {s : State} (hK : Keeps s0 s) :
    Answers (Keeps s0) (execSpnSignal g s) := by
  unfold execSpnSignal
  with_reducible repeat' first
    | assumption | intro _ | apply Leaves.bind | apply Leaves.pure | apply Leaves.modify_ | apply State.spn_keeps
    | apply State.modJob_keeps | dsimp only | split

theorem execSpnMark_keeps {s0 : State} (g : Nat) {s : State} (hK : Keeps s0 s) :
    Answers (Keeps s0) (execSpnMark g s) := by
  unfold execSpnMark
  with_reducible repeat' first
    | assumption | intro _ | apply Leaves.bind | apply Leaves.pure | apply Leaves.modify_ | apply State.spn_keeps
    | apply State.writeMark_keeps | dsimp only | split

theorem execSpnCrc_keeps {s0 : State} (g : Nat) {s : State} (hK : Keeps s0 s) :
    Answers (Keeps s0) (execSpnCrc g s) := by
  unfold execSpnCrc
  with_reducible repeat' first
    | assumption | intro _ | apply Leaves.bind | apply Leaves.pure | apply Leaves.ite | apply State.spn_keeps
    | apply Grain.load_keeps | dsimp only | split

theorem spnTry_keeps {s0 : State} {s : State} {m : Work (List Byte)} (h : Leaves (Keeps s0) m s) : Leaves (Keeps s0) (spnTry m) s := by
  refine ⟨?_⟩
  unfold spnTry
  split
  · exact Leaves.ok_ ‹_› h
  · exact Leaves.error_ ‹_› h
  · exact Leaves.error_ ‹_› h

theorem execSpnCrcv_keeps {s0 : State} (g : Nat) {s : State} (hK : Keeps s0 s) :
    Answers (Keeps s0) (execSpnCrcv g s) := by
  unfold execSpnCrcv
  with_reducible repeat' first
    | assumption | intro _ | apply Leaves.bind | apply Leaves.pure | apply State.spn_keeps | apply spnTry_keeps
    | apply Grain.load_keeps | dsimp only | split

/-! Machine/SpaernVector.lean. -/

theorem execSpnVectorInt_keeps {s0 : State} (g : Nat) {s : State} (hK : Keeps s0 s) :
    Answers (Keeps s0) (execSpnVectorInt g s) := by
  unfold execSpnVectorInt
  with_reducible repeat' first
    | assumption | intro _ | apply State.spnRegs_keeps | dsimp only | split

theorem execSpnVectorFp_keeps {s0 : State} (g : Nat) {s : State} (hK : Keeps s0 s) :
    Answers (Keeps s0) (execSpnVectorFp g s) := by
  unfold execSpnVectorFp
  with_reducible repeat' first
    | assumption | intro _ | apply Leaves.get_bind | apply Leaves.bind | apply Leaves.pure | apply Leaves.set_
    | apply Leaves.modify_ | apply Leaves.ite | apply State.spn_keeps | apply State.tickFree_keeps | apply State.countCnts_keeps
    | dsimp only | split

theorem execSpnReduce_keeps {s0 : State} (g : Nat) {s : State} (hK : Keeps s0 s) :
    Answers (Keeps s0) (execSpnReduce g s) := by
  unfold execSpnReduce
  with_reducible repeat' first
    | assumption | intro _ | apply State.spnRegs_keeps | dsimp only | split

theorem execSpnVectorLoad_keeps {s0 : State} (g : Nat) {s : State} (hK : Keeps s0 s) :
    Answers (Keeps s0) (execSpnVectorLoad g s) := by
  unfold execSpnVectorLoad
  with_reducible repeat' first
    | assumption | intro _ | apply Leaves.bind | apply Leaves.pure | apply State.spn_keeps | apply spnFault_keeps
    | apply Grain.loadAt_keeps | dsimp only | split

theorem execSpnVectorStore_keeps {s0 : State} (g : Nat) {s : State} (hK : Keeps s0 s) :
    Answers (Keeps s0) (execSpnVectorStore g s) := by
  unfold execSpnVectorStore
  with_reducible repeat' first
    | assumption | intro _ | apply Leaves.bind | apply Leaves.pure | apply State.spn_keeps | apply Grain.store_keeps
    | dsimp only | split

theorem execSpnGather_keeps {s0 : State} (g : Nat) {s : State} (hK : Keeps s0 s) :
    Answers (Keeps s0) (execSpnGather g s) := by
  unfold execSpnGather
  with_reducible repeat' first
    | assumption | intro _ | apply Leaves.bind | apply Leaves.pure | apply Leaves.mapM_ | apply State.spn_keeps
    | apply Grain.load_keeps | dsimp only | split

theorem execSpnScatter_keeps {s0 : State} (g : Nat) {s : State} (hK : Keeps s0 s) :
    Answers (Keeps s0) (execSpnScatter g s) := by
  unfold execSpnScatter
  with_reducible repeat' first
    | assumption | intro _ | apply Leaves.bind | apply Leaves.pure | apply Leaves.foldlM_ | apply State.spn_keeps
    | apply Grain.store_keeps | dsimp only | split

theorem execSpnVcvt_keeps {s0 : State} (g : Nat) {s : State} (hK : Keeps s0 s) :
    Answers (Keeps s0) (execSpnVcvt g s) := by
  unfold execSpnVcvt
  with_reducible repeat' first
    | assumption | intro _ | apply Leaves.get_bind | apply Leaves.bind | apply Leaves.pure | apply Leaves.set_
    | apply Leaves.modify_ | apply State.spn_keeps | apply State.tickFree_keeps | apply State.countCnts_keeps | dsimp only
    | split

theorem execSpnVmxq_keeps {s0 : State} (g : Nat) {s : State} (hK : Keeps s0 s) :
    Answers (Keeps s0) (execSpnVmxq g s) := by
  unfold execSpnVmxq
  with_reducible repeat' first
    | assumption | intro _ | apply Leaves.get_bind | apply Leaves.bind | apply Leaves.pure | apply Leaves.set_
    | apply Leaves.modify_ | apply State.spn_keeps | apply State.tickFree_keeps | apply State.countCnts_keeps | dsimp only
    | split

end Sys2Proof.Machine
end

