-- ==== Sys2Proof/Laws/KeepsSystem.lean ====
section
/-! SUPPORT. What each operation and each row keeps: ports, security, update, bring-up, power, management and registers. -/

namespace Sys2Proof.Machine

set_option linter.unusedTactic false
set_option linter.unreachableTactic false
set_option linter.unusedVariables false

open Host (Outcome)

/-! Machine/Regulate.lean. -/

theorem execWeirWindowBoundary_keeps {s0 : State} (t : Tenant) {s : State} (hK : Keeps s0 s) :
    Answers (Keeps s0) (execWeirWindowBoundary t s) := by
  unfold execWeirWindowBoundary
  with_reducible repeat' first
    | assumption | intro _ | apply Answers.next | apply Answers.ite | apply State.setHg_keeps | apply State.admitAll_keeps
    | dsimp only | split

theorem execWeirConfigWrite_keeps {s0 : State} (t : Tenant) (budget : Option ClassL) (v : W32) {s : State} (hK : Keeps s0 s) :
    Answers (Keeps s0) (execWeirConfigWrite t budget v s) := by
  unfold execWeirConfigWrite
  with_reducible repeat' first
    | assumption | intro _ | apply Answers.next | apply State.setStw_keeps | dsimp only | split

theorem execUrgencyPinSettle_keeps {s0 : State} (p : PortId) (level : BitVec 2) {s : State} (hK : Keeps s0 s) :
    Answers (Keeps s0) (execUrgencyPinSettle p level s) := by
  unfold execUrgencyPinSettle
  with_reducible repeat' first
    | assumption | intro _ | apply Answers.next | (fail_if_no_progress apply Keeps.set_pins) | dsimp only | split

theorem execUibWrite_keeps {s0 : State} (t : Tenant) (v : W32) {s : State} (hK : Keeps s0 s) :
    Answers (Keeps s0) (execUibWrite t v s) := by
  unfold execUibWrite
  with_reducible repeat' first
    | assumption | intro _ | apply Answers.next | apply State.setBar_keeps | apply State.modHg_keeps | dsimp only | split

theorem State.dropUib_keeps {s0 : State} (t : Nat) {s : State} (hK : Keeps s0 s) :
    Keeps s0 (State.dropUib t s) := by
  unfold State.dropUib
  with_reducible repeat' first
    | assumption | intro _ | apply State.modBar_keeps | apply State.modHg_keeps | dsimp only | split

theorem execUibHoldExpire_keeps {s0 : State} (t : Tenant) {s : State} (hK : Keeps s0 s) :
    Answers (Keeps s0) (execUibHoldExpire t s) := by
  unfold execUibHoldExpire
  with_reducible repeat' first
    | assumption | intro _ | apply Answers.next | apply Keeps.ite | apply State.dropUib_keeps | dsimp only | split

theorem State.setArb_keeps {s0 : State} (a : Arb) (l : List Item) {s : State} (hK : Keeps s0 s) :
    Keeps s0 (State.setArb a l s) := by
  unfold State.setArb
  with_reducible repeat' first
    | assumption | intro _ | (fail_if_no_progress apply Keeps.set_arb) | dsimp only | split

theorem State.arbServe_keeps {s0 : State} (a : Arb) (arrive : List Item) {s : State} (hK : Keeps s0 s) :
    Keeps s0 (State.arbServe a arrive s) := by
  unfold State.arbServe
  with_reducible repeat' first
    | assumption | intro _ | apply State.setArb_keeps | apply State.emit_keeps | dsimp only | split

theorem execArbiterServe_keeps {s0 : State} (a : Arb) (arrive : List Item) {s : State} (hK : Keeps s0 s) :
    Answers (Keeps s0) (execArbiterServe a arrive s) := by
  unfold execArbiterServe
  with_reducible repeat' first
    | assumption | intro _ | apply Answers.next | apply State.portCycle_keeps | apply State.arbServe_keeps | dsimp only | split

/-! Machine/Ports.lean. -/

theorem State.stopRings_keeps {s0 : State} (t : Nat) {s : State} (hK : Keeps s0 s) :
    Keeps s0 (State.stopRings t s) := by
  unfold State.stopRings
  with_reducible repeat' first
    | assumption | intro _ | apply Keeps.forAll | apply State.modLd_keeps | apply State.voidFetch_keeps
    | apply State.farDrop_keeps | (fail_if_no_progress apply Keeps.set_tags_quarantine) | dsimp only | split

theorem State.abortWork_keeps {s0 : State} (t : Nat) {s : State} (hK : Keeps s0 s) :
    Keeps s0 (State.abortWork t s) := by
  unfold State.abortWork
  with_reducible repeat' first
    | assumption | intro _ | apply Keeps.forAll | apply State.stopRings_keeps | apply State.modTier_keeps
    | apply State.modAlm_keeps | apply State.endOp_keeps | apply State.cntBar_keeps | apply State.modLd_keeps | dsimp only
    | split | apply TierKeeps.mk3

theorem State.resetWeir_keeps {s0 : State} (t : Nat) {s : State} (hK : Keeps s0 s) :
    Keeps s0 (State.resetWeir t s) := by
  unfold State.resetWeir
  with_reducible repeat' first
    | assumption | intro _ | apply State.modHg_keeps | apply State.admitAll_keeps | dsimp only | split

theorem State.dropFetches_keeps {s0 : State} (t : Nat) {s : State} (hK : Keeps s0 s) :
    Keeps s0 (State.dropFetches t s) := by
  unfold State.dropFetches
  with_reducible repeat' first
    | assumption | intro _ | apply Keeps.forAll | apply State.modFe_keeps | dsimp only | split

theorem State.clearAlmCounts_keeps {s0 : State} (t : Nat) {s : State} (hK : Keeps s0 s) :
    Keeps s0 (State.clearAlmCounts t s) := by
  unfold State.clearAlmCounts
  with_reducible repeat' first
    | assumption | intro _ | apply State.modAlm_keeps | dsimp only | split

theorem State.releaseHold_keeps {s0 : State} (t r : Nat) {s : State} (hK : Keeps s0 s) :
    Keeps s0 (State.releaseHold t r s) := by
  unfold State.releaseHold
  with_reducible repeat' first
    | assumption | intro _ | apply Keeps.ite | apply State.modHalf_keeps | apply State.pinWalk_keeps | apply State.dropPin_keeps
    | dsimp only | split

theorem State.resetTenant_keeps {s0 : State} (t : Nat) (keepFlr : Bool) {s : State} (hK : Keeps s0 s) :
    Keeps s0 (State.resetTenant t keepFlr s) := by
  unfold State.resetTenant
  with_reducible repeat' first
    | assumption | intro _ | apply Keeps.forAll | apply State.clearBar_keeps | apply State.clearAlmCounts_keeps
    | apply State.setEng_keeps | apply State.setRing_keeps | apply State.modHg_keeps | dsimp only | split

theorem State.flrStart_keeps {s0 : State} (n : Nat) {s : State} (hK : Keeps s0 s) :
    Keeps s0 (State.flrStart n s) := by
  unfold State.flrStart
  with_reducible repeat' first
    | assumption | intro _ | apply Keeps.ite | apply State.setBar_keeps | apply State.modLd_keeps | apply State.abortWork_keeps
    | dsimp only | split

theorem execFlrInitiate_keeps {s0 : State} (t : Tenant) {s : State} (hK : Keeps s0 s) :
    Answers (Keeps s0) (execFlrInitiate t s) := by
  unfold execFlrInitiate
  with_reducible repeat' first
    | assumption | intro _ | apply Answers.next | apply State.flrStart_keeps | dsimp only | split

theorem State.logDrain_keeps {s0 : State} (t : Nat) (l : Ld) {s : State} (hK : Keeps s0 s) :
    Keeps s0 (State.logDrain t l s) := by
  unfold State.logDrain
  with_reducible repeat' first
    | assumption | intro _ | apply State.logRec_keeps | dsimp only | split

theorem execFlrDrainComplete_keeps {s0 : State} (t : Tenant) {s : State} (hK : Keeps s0 s) :
    Answers (Keeps s0) (execFlrDrainComplete t s) := by
  unfold execFlrDrainComplete
  with_reducible repeat' first
    | assumption | intro _ | apply Answers.next | apply Answers.ite | apply Keeps.ite | apply Keeps.forAll
    | apply State.releaseHold_keeps | apply State.dropFetches_keeps | apply State.resetWeir_keeps
    | apply State.resetTenant_keeps | apply State.modLd_keeps | apply State.emit_keeps | apply State.logDrain_keeps | dsimp only
    | split

theorem State.dropHead_keeps {s0 : State} (ts : List Nat) {s : State} (hK : Keeps s0 s) :
    Keeps s0 (State.dropHead ts s) := by
  unfold State.dropHead
  with_reducible repeat' first
    | assumption | intro _ | apply Keeps.forAll | apply State.modHg_keeps | apply State.modDmc_keeps | apply State.modCmp_keeps
    | apply State.modShr_keeps | apply State.rerun_keeps | (fail_if_no_progress apply Keeps.set_lds)
    | (fail_if_no_progress apply Keeps.set_tags_quarantine_bridge) | dsimp only | split

theorem State.drainLd_keeps {s0 : State} (t : Nat) {s : State} (hK : Keeps s0 s) :
    Keeps s0 (State.drainLd t s) := by
  unfold State.drainLd
  with_reducible repeat' first
    | assumption | intro _ | apply Keeps.ite | apply State.modLd_keeps | apply State.setBar_keeps | apply State.abortWork_keeps
    | apply State.failTenant_keeps | apply State.dropFetches_keeps | apply State.resetWeir_keeps | apply State.loseExtent_keeps
    | dsimp only | split

theorem State.enterDrain_keeps {s0 : State} (p : Nat) {s : State} (hK : Keeps s0 s) :
    Keeps s0 (State.enterDrain p s) := by
  unfold State.enterDrain
  with_reducible repeat' first
    | assumption | intro _ | apply Keeps.ite | apply Keeps.forAll | apply State.modPort_keeps | apply State.dropHead_keeps
    | apply State.drainLd_keeps | apply State.asgnResume_keeps | apply State.closeResume_keeps | dsimp only | split

theorem State.train_keeps {s0 : State} (p : Nat) {s : State} (hK : Keeps s0 s) :
    Keeps s0 (State.train p s) := by
  unfold State.train
  with_reducible repeat' first
    | assumption | intro _ | apply State.modPort_keeps | apply State.emit_keeps | dsimp only | split

theorem execLinkDown_keeps {s0 : State} (p : PortId) {s : State} (hK : Keeps s0 s) :
    Answers (Keeps s0) (execLinkDown p s) := by
  unfold execLinkDown
  with_reducible repeat' first
    | assumption | intro _ | apply Answers.next | apply State.enterDrain_keeps | dsimp only | split

theorem execHotReset_keeps {s0 : State} (p : PortId) {s : State} (hK : Keeps s0 s) :
    Answers (Keeps s0) (execHotReset p s) := by
  unfold execHotReset
  with_reducible repeat' first
    | assumption | intro _ | apply Answers.next | apply State.enterDrain_keeps | dsimp only | split

theorem execPerstAssert_keeps {s0 : State} (p : PortId) {s : State} (hK : Keeps s0 s) :
    Answers (Keeps s0) (execPerstAssert p s) := by
  unfold execPerstAssert
  with_reducible repeat' first
    | assumption | intro _ | apply Answers.next | apply Answers.ite | apply State.modPort_keeps | apply State.emit_keeps
    | apply State.enterDrain_keeps | (fail_if_no_progress apply Keeps.set_pins) | dsimp only | split

theorem State.leaveReset_keeps {s0 : State} (p : Nat) {s : State} (hK : Keeps s0 s) :
    Keeps s0 (State.leaveReset p s) := by
  unfold State.leaveReset
  with_reducible repeat' first
    | assumption | intro _ | apply Keeps.ite | apply State.train_keeps | dsimp only | split

theorem execPerstDeassert_keeps {s0 : State} (p : PortId) (clksel : Bool) {s : State} (hK : Keeps s0 s) :
    Answers (Keeps s0) (execPerstDeassert p clksel s) := by
  unfold execPerstDeassert
  with_reducible repeat' first
    | assumption | intro _ | apply Answers.next | apply Keeps.ite | apply State.modPort_keeps | apply State.leaveReset_keeps
    | (fail_if_no_progress apply Keeps.set_pins) | dsimp only | split

theorem execPortDrainComplete_keeps {s0 : State} (p : PortId) {s : State} (hK : Keeps s0 s) :
    Answers (Keeps s0) (execPortDrainComplete p s) := by
  unfold execPortDrainComplete
  with_reducible repeat' first
    | assumption | intro _ | apply Answers.next | apply Answers.ite | apply Keeps.ite | apply Keeps.forAll
    | apply State.logDrain_keeps | apply State.resetTenant_keeps | apply State.modLd_keeps | apply State.modPort_keeps
    | apply State.emit_keeps | apply State.train_keeps | dsimp only | split

theorem execLinkUp_keeps {s0 : State} (p : PortId) (width rate : BitVec 3) (mld : Bool) {s : State} (hK : Keeps s0 s) :
    Answers (Keeps s0) (execLinkUp p width rate mld s) := by
  unfold execLinkUp
  with_reducible repeat' first
    | assumption | intro _ | apply Answers.next | apply Answers.ite | apply Keeps.forAll | apply State.modPort_keeps
    | apply State.modLd_keeps | dsimp only | split

theorem execTrainFail_keeps {s0 : State} (p : PortId) {s : State} (hK : Keeps s0 s) :
    Answers (Keeps s0) (execTrainFail p s) := by
  unfold execTrainFail
  with_reducible repeat' first
    | assumption | intro _ | apply Answers.next | apply Answers.ite | apply State.modPort_keeps | apply State.cntStw_keeps
    | dsimp only | split

theorem execTrainBackoffExpire_keeps {s0 : State} (p : PortId) {s : State} (hK : Keeps s0 s) :
    Answers (Keeps s0) (execTrainBackoffExpire p s) := by
  unfold execTrainBackoffExpire
  with_reducible repeat' first
    | assumption | intro _ | apply Answers.next | apply Answers.ite | apply State.modPort_keeps | apply State.emit_keeps
    | dsimp only | split

theorem execLinkRecovery_keeps {s0 : State} (p : PortId) {s : State} (hK : Keeps s0 s) :
    Answers (Keeps s0) (execLinkRecovery p s) := by
  unfold execLinkRecovery
  with_reducible repeat' first
    | assumption | intro _ | apply Answers.next | dsimp only | split

theorem State.setBme_keeps {s0 : State} (t : Nat) {s : State} (hK : Keeps s0 s) :
    Keeps s0 (State.setBme t s) := by
  unfold State.setBme
  with_reducible repeat' first
    | assumption | intro _ | apply Keeps.forAll | apply State.modLd_keeps | apply State.raiseMsix_keeps
    | apply State.issueWant_keeps | dsimp only | split

theorem State.ctoWrite_keeps {s0 : State} (t : Nat) (v : BitVec 4) {s : State} (hK : Keeps s0 s) :
    Keeps s0 (State.ctoWrite t v s) := by
  unfold State.ctoWrite
  with_reducible repeat' first
    | assumption | intro _ | apply State.modLd_keeps | apply State.modBar_keeps | dsimp only | split

theorem State.cfgWrite_keeps {s0 : State} (t : Nat) (r : CfgReg) (v : W32) {s : State} (hK : Keeps s0 s) :
    Keeps s0 (State.cfgWrite t r v s) := by
  unfold State.cfgWrite
  with_reducible repeat' first
    | assumption | intro _ | apply Keeps.ite | apply State.flrStart_keeps | apply State.ctoWrite_keeps | apply State.modLd_keeps
    | apply State.flushMsix_keeps | apply State.setBme_keeps | dsimp only | split

theorem execConfigRequest_keeps {s0 : State} (t : Tenant) (write : Bool) (reg : CfgReg) (v : W32) {s : State} (hK : Keeps s0 s) :
    Answers (Keeps s0) (execConfigRequest t write reg v s) := by
  unfold execConfigRequest
  with_reducible repeat' first
    | assumption | intro _ | apply Answers.next | apply Answers.ite | apply State.emit_keeps | apply State.modLd_keeps
    | apply State.cfgWrite_keeps | apply State.tickFree_keeps | dsimp only | split

theorem execCtoValueWrite_keeps {s0 : State} (t : Tenant) (v : BitVec 4) {s : State} (hK : Keeps s0 s) :
    Answers (Keeps s0) (execCtoValueWrite t v s) := by
  unfold execCtoValueWrite
  with_reducible repeat' first
    | assumption | intro _ | apply Answers.next | apply Answers.ite | apply State.ctoWrite_keeps | dsimp only | split

theorem execBusMasterEnableSet_keeps {s0 : State} (t : Tenant) {s : State} (hK : Keeps s0 s) :
    Answers (Keeps s0) (execBusMasterEnableSet t s) := by
  unfold execBusMasterEnableSet
  with_reducible repeat' first
    | assumption | intro _ | apply Answers.next | apply Answers.ite | apply State.setBme_keeps | dsimp only | split

theorem State.hdmCommit_keeps {s0 : State} (n : Nat) (base size skip : W64) (ways gran : Nat) (lock : Bool) {s : State} (hK : Keeps s0 s) :
    Keeps s0 (State.hdmCommit n base size skip ways gran lock s) := by
  unfold State.hdmCommit
  with_reducible repeat' first
    | assumption | intro _ | apply Keeps.ite | apply State.setLd_keeps | dsimp only | split

theorem execHdmCommit_keeps {s0 : State} (t : Tenant) (base size skip : W64) (ways gran : Nat) (lock : Bool) {s : State} (hK : Keeps s0 s) :
    Answers (Keeps s0) (execHdmCommit t base size skip ways gran lock s) := by
  unfold execHdmCommit
  with_reducible repeat' first
    | assumption | intro _ | apply Answers.next | apply State.hdmCommit_keeps | dsimp only | split

/-! Machine/Security.lean. -/

theorem State.spdmOk_keeps {s0 : State} (e : Endpoint) (d : List Byte) {s : State} (hK : Keeps s0 s) :
    Keeps s0 (State.spdmOk e d s) := by
  unfold State.spdmOk
  with_reducible repeat' first
    | assumption | intro _ | apply State.emit_keeps | dsimp only | split

theorem State.spdmErr_keeps {s0 : State} (e : Endpoint) {s : State} (hK : Keeps s0 s) :
    Keeps s0 (State.spdmErr e s) := by
  unfold State.spdmErr
  with_reducible repeat' first
    | assumption | intro _ | apply State.emit_keeps | dsimp only | split

theorem State.spdmReq_keeps {s0 : State} (e : Endpoint) (f : State → State) {s : State} (hf : ∀ t, Keeps s0 t → Keeps s0 (f t)) (hK : Keeps s0 s) :
    Keeps s0 (State.spdmReq e f s) := by
  unfold State.spdmReq
  with_reducible repeat' first
    | assumption | intro _ | apply Keeps.ite | apply State.emit_keeps | apply hf | dsimp only | split

theorem State.spdmIn_keeps {s0 : State} (e : Endpoint) (id : Nat) (f : State → State) {s : State} (hf : ∀ t, Keeps s0 t → Keeps s0 (f t)) (hK : Keeps s0 s) :
    Keeps s0 (State.spdmIn e id f s) := by
  unfold State.spdmIn
  with_reducible repeat' first
    | assumption | intro _ | apply Keeps.ite | apply State.spdmReq_keeps | apply State.spdmErr_keeps | apply hf | dsimp only
    | split

theorem execGetVersion_keeps {s0 : State} (e : Endpoint) {s : State} (hK : Keeps s0 s) :
    Answers (Keeps s0) (execGetVersion e s) := by
  unfold execGetVersion
  with_reducible repeat' first
    | assumption | intro _ | apply Answers.next | apply State.spdmReq_keeps | apply State.spdmOk_keeps | dsimp only | split

theorem execGetCapabilities_keeps {s0 : State} (e : Endpoint) {s : State} (hK : Keeps s0 s) :
    Answers (Keeps s0) (execGetCapabilities e s) := by
  unfold execGetCapabilities
  with_reducible repeat' first
    | assumption | intro _ | apply Answers.next | apply State.spdmReq_keeps | apply State.spdmOk_keeps | dsimp only | split

theorem execNegotiateAlgorithms_keeps {s0 : State} (e : Endpoint) {s : State} (hK : Keeps s0 s) :
    Answers (Keeps s0) (execNegotiateAlgorithms e s) := by
  unfold execNegotiateAlgorithms
  with_reducible repeat' first
    | assumption | intro _ | apply Answers.next | apply State.spdmReq_keeps | apply State.spdmOk_keeps | dsimp only | split

theorem execGetDigests_keeps {s0 : State} (e : Endpoint) {s : State} (hK : Keeps s0 s) :
    Answers (Keeps s0) (execGetDigests e s) := by
  unfold execGetDigests
  with_reducible repeat' first
    | assumption | intro _ | apply Answers.next | apply State.spdmReq_keeps | apply State.spdmOk_keeps | dsimp only | split

theorem execGetCertificate_keeps {s0 : State} (e : Endpoint) (slot : BitVec 4) {s : State} (hK : Keeps s0 s) :
    Answers (Keeps s0) (execGetCertificate e slot s) := by
  unfold execGetCertificate
  with_reducible repeat' first
    | assumption | intro _ | apply Answers.next | apply Keeps.ite | apply State.spdmReq_keeps | apply State.spdmOk_keeps
    | apply State.spdmErr_keeps | dsimp only | split

theorem execChallenge_keeps {s0 : State} (e : Endpoint) (nonce : W256) {s : State} (hK : Keeps s0 s) :
    Answers (Keeps s0) (execChallenge e nonce s) := by
  unfold execChallenge
  with_reducible repeat' first
    | assumption | intro _ | apply Answers.next | apply State.spdmReq_keeps | apply State.spdmOk_keeps | dsimp only | split

theorem execGetMeasurements_keeps {s0 : State} (e : Endpoint) (index : Byte) (signed : Bool) {s : State} (hK : Keeps s0 s) :
    Answers (Keeps s0) (execGetMeasurements e index signed s) := by
  unfold execGetMeasurements
  with_reducible repeat' first
    | assumption | intro _ | apply Answers.next | apply State.spdmReq_keeps | apply State.spdmOk_keeps
    | apply State.spdmErr_keeps | dsimp only | split

theorem execKeyExchange_keeps {s0 : State} (e : Endpoint) {s : State} (hK : Keeps s0 s) :
    Answers (Keeps s0) (execKeyExchange e s) := by
  unfold execKeyExchange
  with_reducible repeat' first
    | assumption | intro _ | apply Answers.next | apply Keeps.ite | apply State.spdmReq_keeps | apply State.spdmErr_keeps
    | apply State.modSec_keeps | apply State.spdmOk_keeps | dsimp only | split

theorem execFinish_keeps {s0 : State} (e : Endpoint) (session : Nat) {s : State} (hK : Keeps s0 s) :
    Answers (Keeps s0) (execFinish e session s) := by
  unfold execFinish
  with_reducible repeat' first
    | assumption | intro _ | apply Answers.next | apply Keeps.ite | apply State.spdmReq_keeps | apply State.spdmErr_keeps
    | apply State.modSec_keeps | apply State.spdmOk_keeps | dsimp only | split

theorem execEndSession_keeps {s0 : State} (e : Endpoint) (session : Nat) {s : State} (hK : Keeps s0 s) :
    Answers (Keeps s0) (execEndSession e session s) := by
  unfold execEndSession
  with_reducible repeat' first
    | assumption | intro _ | apply Answers.next | apply State.spdmIn_keeps | apply State.modSec_keeps | apply State.spdmOk_keeps
    | dsimp only | split

theorem execHeartbeat_keeps {s0 : State} (e : Endpoint) (session : Nat) {s : State} (hK : Keeps s0 s) :
    Answers (Keeps s0) (execHeartbeat e session s) := by
  unfold execHeartbeat
  with_reducible repeat' first
    | assumption | intro _ | apply Answers.next | apply State.spdmIn_keeps | apply State.spdmOk_keeps | dsimp only | split

theorem execKeyUpdate_keeps {s0 : State} (e : Endpoint) (session : Nat) {s : State} (hK : Keeps s0 s) :
    Answers (Keeps s0) (execKeyUpdate e session s) := by
  unfold execKeyUpdate
  with_reducible repeat' first
    | assumption | intro _ | apply Answers.next | apply State.spdmIn_keeps | apply State.modSec_keeps | apply State.spdmOk_keeps
    | dsimp only | split

theorem State.cstat_keeps {s0 : State} (st : Status) {s : State} (hK : Keeps s0 s) :
    Keeps s0 (State.cstat st s) := by
  unfold State.cstat
  with_reducible repeat' first
    | assumption | intro _ | apply State.setStw_keeps | dsimp only | split

theorem State.cstatBusy_keeps {s0 : State} {s : State} (hK : Keeps s0 s) :
    Keeps s0 (State.cstatBusy s) := by
  unfold State.cstatBusy
  with_reducible repeat' first
    | assumption | intro _ | apply State.modStw_keeps | dsimp only | split

theorem State.fuseCmd_keeps {s0 : State} (bad denied : Bool) (f : Fuses → Fuses) {s : State} (hf : ∀ x, Fuses.Le x (f x)) (hK : Keeps s0 s) :
    Keeps s0 (State.fuseCmd bad denied f s) := by
  unfold State.fuseCmd
  with_reducible repeat' first
    | assumption | intro _ | apply Keeps.ite | apply State.cstat_keeps | apply State.modSec_keeps
    | (fail_if_no_progress apply Keeps.set_fuse) | dsimp only | split
  all_goals exact hf _

theorem execRaiseMinsvn_keeps {s0 : State} {s : State} (hK : Keeps s0 s) :
    Answers (Keeps s0) (execRaiseMinsvn s) := by
  unfold execRaiseMinsvn
  with_reducible repeat' first
    | assumption | intro _ | apply Answers.next | apply State.fuseCmd_keeps
    | exact ⟨rfl, rfl, rfl, Nat.le_of_lt (by assumption), fun _ h => h, le_rfl⟩ | exact Fuses.Le.refl _ | dsimp only | split

theorem execRevokeKey_keeps {s0 : State} (k : BitVec 2) {s : State} (hK : Keeps s0 s) :
    Answers (Keeps s0) (execRevokeKey k s) := by
  unfold execRevokeKey
  with_reducible repeat' first
    | assumption | intro _ | apply Answers.next | apply State.fuseCmd_keeps | exact Fuses.Le.setRevoke _ _ | dsimp only | split

theorem execFuseWriteDone_keeps {s0 : State} {s : State} (hK : Keeps s0 s) :
    Answers (Keeps s0) (execFuseWriteDone s) := by
  unfold execFuseWriteDone
  with_reducible repeat' first
    | assumption | intro _ | apply Answers.next | apply Keeps.ite | apply State.modSec_keeps | apply State.cstatBusy_keeps
    | dsimp only | split

theorem State.keyInstall_keeps {s0 : State} (slot : Nat) (k : BitVec 512) (gen : Bool) {s : State} (hK : Keeps s0 s) :
    Keeps s0 (State.keyInstall slot k gen s) := by
  unfold State.keyInstall
  with_reducible repeat' first
    | assumption | intro _ | apply State.modKey_keeps | dsimp only | split

theorem State.pendKey_keeps {s0 : State} (slot : Nat) {s : State} (hK : Keeps s0 s) :
    Keeps s0 (State.pendKey slot s) := by
  unfold State.pendKey
  with_reducible repeat' first
    | assumption | intro _ | apply State.modHalf_keeps | dsimp only | split

theorem State.keyZeroise_keeps {s0 : State} (slot : Nat) {s : State} (hK : Keeps s0 s) :
    Keeps s0 (State.keyZeroise slot s) := by
  unfold State.keyZeroise
  with_reducible repeat' first
    | assumption | intro _ | apply Keeps.ite | apply State.modKey_keeps | apply State.pendKey_keeps | dsimp only | split

theorem State.keyDo_keeps {s0 : State} (c : KeyCmd) (slot : Nat) {s : State} (hK : Keeps s0 s) :
    Keeps s0 (State.keyDo c slot s) := by
  unfold State.keyDo
  with_reducible repeat' first
    | assumption | intro _ | apply Keeps.forAll | apply State.keyInstall_keeps | apply State.modSec_keeps
    | apply State.keyZeroise_keeps | dsimp only | split

theorem State.keyVendor_keeps {s0 : State} (e : Endpoint) (session : Nat) (c : KeyCmd) (slot : Nat) (rsvd : Bool) {s : State} (hK : Keeps s0 s) :
    Keeps s0 (State.keyVendor e session c slot rsvd s) := by
  unfold State.keyVendor
  with_reducible repeat' first
    | assumption | intro _ | apply Keeps.ite | apply State.spdmIn_keeps | apply State.keyDo_keeps | apply State.spdmOk_keeps
    | apply State.tickFree_keeps | dsimp only | split

theorem execSpdmLoad_keeps {s0 : State} (e : Endpoint) (session : Nat) (slot : BitVec 8) (rsvd : Bool) (k1 k2 : W256) {s : State} (hK : Keeps s0 s) :
    Answers (Keeps s0) (execSpdmLoad e session slot rsvd k1 k2 s) := by
  unfold execSpdmLoad
  with_reducible repeat' first
    | assumption | intro _ | apply Answers.next | apply State.keyVendor_keeps | dsimp only | split

theorem execSpdmKeygen_keeps {s0 : State} (e : Endpoint) (session : Nat) (slot : BitVec 8) (rsvd : Bool) {s : State} (hK : Keeps s0 s) :
    Answers (Keeps s0) (execSpdmKeygen e session slot rsvd s) := by
  unfold execSpdmKeygen
  with_reducible repeat' first
    | assumption | intro _ | apply Answers.next | apply State.keyVendor_keeps | dsimp only | split

theorem execSpdmZeroise_keeps {s0 : State} (e : Endpoint) (session : Nat) (slot : BitVec 8) (rsvd : Bool) {s : State} (hK : Keeps s0 s) :
    Answers (Keeps s0) (execSpdmZeroise e session slot rsvd s) := by
  unfold execSpdmZeroise
  with_reducible repeat' first
    | assumption | intro _ | apply Answers.next | apply State.keyVendor_keeps | dsimp only | split

theorem execSpdmZeroiseAll_keeps {s0 : State} (e : Endpoint) (session : Nat) (rsvd : Bool) {s : State} (hK : Keeps s0 s) :
    Answers (Keeps s0) (execSpdmZeroiseAll e session rsvd s) := by
  unfold execSpdmZeroiseAll
  with_reducible repeat' first
    | assumption | intro _ | apply Answers.next | apply State.keyVendor_keeps | dsimp only | split

theorem State.kcmd_keeps {s0 : State} (c : KeyCmd) (bad : Bool) (slot : Nat) {s : State} (hK : Keeps s0 s) :
    Keeps s0 (State.kcmd c bad slot s) := by
  unfold State.kcmd
  with_reducible repeat' first
    | assumption | intro _ | apply Keeps.ite | apply State.keyDo_keeps | apply State.modSec_keeps | apply State.cstat_keeps
    | dsimp only | split

theorem execKcmdKeygen_keeps {s0 : State} (slot : BitVec 8) {s : State} (hK : Keeps s0 s) :
    Answers (Keeps s0) (execKcmdKeygen slot s) := by
  unfold execKcmdKeygen
  with_reducible repeat' first
    | assumption | intro _ | apply Answers.next | apply State.kcmd_keeps | dsimp only | split

theorem execKcmdZeroise_keeps {s0 : State} (slot : BitVec 8) {s : State} (hK : Keeps s0 s) :
    Answers (Keeps s0) (execKcmdZeroise slot s) := by
  unfold execKcmdZeroise
  with_reducible repeat' first
    | assumption | intro _ | apply Answers.next | apply State.kcmd_keeps | dsimp only | split

theorem execKcmdZeroiseAll_keeps {s0 : State} {s : State} (hK : Keeps s0 s) :
    Answers (Keeps s0) (execKcmdZeroiseAll s) := by
  unfold execKcmdZeroiseAll
  with_reducible repeat' first
    | assumption | intro _ | apply Answers.next | apply State.kcmd_keeps | dsimp only | split

theorem execZeroiseDone_keeps {s0 : State} (slot : BitVec 8) {s : State} (hK : Keeps s0 s) :
    Answers (Keeps s0) (execZeroiseDone slot s) := by
  unfold execZeroiseDone
  with_reducible repeat' first
    | assumption | intro _ | apply Answers.next | apply Answers.ite | apply State.modKey_keeps | apply State.modSec_keeps
    | apply State.cstatBusy_keeps | dsimp only | split

theorem execBindWrite_keeps {s0 : State} (e : Endpoint) (session : Option Nat) (eid : Byte) {s : State} (hK : Keeps s0 s) :
    Answers (Keeps s0) (execBindWrite e session eid s) := by
  unfold execBindWrite
  with_reducible repeat' first
    | assumption | intro _ | apply Answers.next | apply Keeps.ite | apply State.modSec_keeps | dsimp only | split

theorem State.keysEmpty_keeps {s0 : State} {s : State} (hK : Keeps s0 s) :
    Keeps s0 (State.keysEmpty s) := by
  unfold State.keysEmpty
  with_reducible repeat' first
    | assumption | intro _ | apply Keeps.forAll | apply State.pendKey_keeps | apply State.modKey_keeps
    | apply State.modSec_keeps | apply State.cstatBusy_keeps | dsimp only | split

theorem State.ideFail_keeps {s0 : State} (p : Nat) {s : State} (hK : Keeps s0 s) :
    Keeps s0 (State.ideFail p s) := by
  unfold State.ideFail
  with_reducible repeat' first
    | assumption | intro _ | apply Keeps.ite | apply State.modPort_keeps | apply State.enterDrain_keeps | dsimp only | split

theorem execDebugUnlock_keeps {s0 : State} (e : Endpoint) (session : Nat) (token : List Byte) {s : State} (hK : Keeps s0 s) :
    Answers (Keeps s0) (execDebugUnlock e session token s) := by
  unfold execDebugUnlock
  with_reducible repeat' first
    | assumption | intro _ | apply Answers.next | apply Keeps.ite | apply Keeps.forAll | apply State.spdmIn_keeps
    | apply State.modSec_keeps | apply State.ideFail_keeps | apply State.keysEmpty_keeps | apply State.spdmOk_keeps
    | apply State.emit_keeps | (fail_if_no_progress apply Keeps.set_fuse)
    | exact ⟨rfl, rfl, rfl, le_rfl, fun _ h => h, Nat.le_succ _⟩ | dsimp only | split

theorem State.ideKm_keeps {s0 : State} (p : PortId) (session : Nat) (f : Nat → State → State) {s : State} (hf : ∀ p t, Keeps s0 t → Keeps s0 (f p t)) (hK : Keeps s0 s) :
    Keeps s0 (State.ideKm p session f s) := by
  unfold State.ideKm
  with_reducible repeat' first
    | assumption | intro _ | apply State.spdmIn_keeps | apply hf | dsimp only | split

theorem execKeyProg_keeps {s0 : State} (p : PortId) (session : Nat) (keySet : Bool) {s : State} (hK : Keeps s0 s) :
    Answers (Keeps s0) (execKeyProg p session keySet s) := by
  unfold execKeyProg
  with_reducible repeat' first
    | assumption | intro _ | apply Answers.next | apply State.ideKm_keeps | apply State.modPort_keeps | apply State.spdmOk_keeps
    | dsimp only | split

theorem execKSetGo_keeps {s0 : State} (p : PortId) (session : Nat) (keySet : Bool) {s : State} (hK : Keeps s0 s) :
    Answers (Keeps s0) (execKSetGo p session keySet s) := by
  unfold execKSetGo
  with_reducible repeat' first
    | assumption | intro _ | apply Answers.next | apply Keeps.ite | apply State.ideKm_keeps | apply State.modPort_keeps
    | apply State.spdmOk_keeps | apply State.spdmErr_keeps | dsimp only | split

theorem execKSetStop_keeps {s0 : State} (p : PortId) (session : Nat) (keySet : Bool) {s : State} (hK : Keeps s0 s) :
    Answers (Keeps s0) (execKSetStop p session keySet s) := by
  unfold execKSetStop
  with_reducible repeat' first
    | assumption | intro _ | apply Answers.next | apply State.ideKm_keeps | apply State.modPort_keeps | apply State.spdmOk_keeps
    | dsimp only | split

theorem execIdeIntegrityFail_keeps {s0 : State} (p : PortId) {s : State} (hK : Keeps s0 s) :
    Answers (Keeps s0) (execIdeIntegrityFail p s) := by
  unfold execIdeIntegrityFail
  with_reducible repeat' first
    | assumption | intro _ | apply Answers.next | apply State.ideFail_keeps | dsimp only | split

/-! Machine/Update.lean. -/

theorem State.measure_keeps {s0 : State} {s : State} (hK : Keeps s0 s) :
    Keeps s0 (State.measure s) := by
  unfold State.measure
  with_reducible repeat' first
    | assumption | intro _ | apply Keeps.ite | apply State.modSec_keeps | dsimp only | split

theorem State.enterStage_keeps {s0 : State} (h : Half) (st : Stage) {s : State} (hK : Keeps s0 s) :
    Keeps s0 (State.enterStage h st s) := by
  unfold State.enterStage
  with_reducible repeat' first
    | assumption | intro _ | apply Keeps.ite | apply State.modHalf_keeps | dsimp only | split

theorem State.frsHalf_keeps {s0 : State} (h : Half) {s : State} (hK : Keeps s0 s) :
    Keeps s0 (State.frsHalf h s) := by
  unfold State.frsHalf
  with_reducible repeat' first
    | assumption | intro _ | apply Keeps.forAll | apply State.emit_keeps | dsimp only | split

theorem State.checkFlash_keeps {s0 : State} (h : Half) {s : State} (hK : Keeps s0 s) :
    Keeps s0 (State.checkFlash h s) := by
  unfold State.checkFlash
  with_reducible repeat' first
    | assumption | intro _ | apply Keeps.ite | apply State.measure_keeps | apply State.modHalf_keeps
    | apply State.enterStage_keeps | apply State.frsHalf_keeps | dsimp only | split

theorem State.ustat_keeps {s0 : State} (st : Status) {s : State} (hK : Keeps s0 s) :
    Keeps s0 (State.ustat st s) := by
  unfold State.ustat
  with_reducible repeat' first
    | assumption | intro _ | apply State.modStw_keeps | dsimp only | split

theorem execUpdateBegin_keeps {s0 : State} {s : State} (hK : Keeps s0 s) :
    Answers (Keeps s0) (execUpdateBegin s) := by
  unfold execUpdateBegin
  with_reducible repeat' first
    | assumption | intro _ | apply Answers.next | apply Keeps.ite | apply State.modUpd_keeps | apply State.ustat_keeps
    | dsimp only | split | apply MemOk.nil

theorem execUpdateChunk_keeps {s0 : State} (c : BitVec 14) {s : State} (hK : Keeps s0 s) :
    Answers (Keeps s0) (execUpdateChunk c s) := by
  unfold execUpdateChunk
  with_reducible repeat' first
    | assumption | intro _ | apply Answers.next | apply Keeps.ite | apply State.modUpd_keeps | apply State.ustat_keeps
    | (fail_if_no_progress apply Keeps.set_flash) | dsimp only | split | apply MemOk.mwrite
  all_goals assumption

theorem State.noteErr_keeps {s0 : State} (e : Nat) {s : State} (hK : Keeps s0 s) :
    Keeps s0 (State.noteErr e s) := by
  unfold State.noteErr
  with_reducible repeat' first
    | assumption | intro _ | apply State.modHalf_keeps | dsimp only | split

theorem State.recoverAll_keeps {s0 : State} {s : State} (hK : Keeps s0 s) :
    Keeps s0 (State.recoverAll s) := by
  unfold State.recoverAll
  with_reducible repeat' first
    | assumption | intro _ | apply Keeps.ite | apply Keeps.forAll | apply State.checkFlash_keeps | dsimp only | split

theorem execUpdateVerify_keeps {s0 : State} {s : State} (hK : Keeps s0 s) :
    Answers (Keeps s0) (execUpdateVerify s) := by
  unfold execUpdateVerify
  with_reducible repeat' first
    | assumption | intro _ | apply Answers.next | apply Answers.ite | apply State.ustat_keeps | apply State.noteErr_keeps
    | apply State.modUpd_keeps | apply State.recoverAll_keeps | (fail_if_no_progress apply Keeps.set_flash) | dsimp only | split
  all_goals assumption

theorem execUpdateCommit_keeps {s0 : State} {s : State} (hK : Keeps s0 s) :
    Answers (Keeps s0) (execUpdateCommit s) := by
  unfold execUpdateCommit
  with_reducible repeat' first
    | assumption | intro _ | apply Answers.next | apply Keeps.ite | apply State.modUpd_keeps | apply State.ustat_keeps
    | dsimp only | split

theorem execUpdateAbandon_keeps {s0 : State} {s : State} (hK : Keeps s0 s) :
    Answers (Keeps s0) (execUpdateAbandon s) := by
  unfold execUpdateAbandon
  with_reducible repeat' first
    | assumption | intro _ | apply Answers.next | apply Keeps.ite | apply State.modUpd_keeps | apply State.ustat_keeps
    | dsimp only | split | apply MemOk.nil

theorem State.flashed_ok (n : Nat) {s : State} (h : MemOk s.flash.img) : MemOk (s.flashed n) := h.mwrite _ _

theorem execUpdateCommitDone_keeps {s0 : State} {s : State} (hK : Keeps s0 s) :
    Answers (Keeps s0) (execUpdateCommitDone s) := by
  unfold execUpdateCommitDone
  with_reducible repeat' first
    | assumption | intro _ | apply Answers.next | apply Answers.ite | apply Keeps.ite | apply State.modUpd_keeps
    | apply State.ustat_keeps | apply State.noteErr_keeps | (fail_if_no_progress apply Keeps.set_flash) | apply State.flashed_ok
    | dsimp only | split | apply MemOk.nil
  all_goals assumption

theorem State.cutCommit_keeps {s0 : State} {s : State} (hK : Keeps s0 s) :
    Keeps s0 (State.cutCommit s) := by
  unfold State.cutCommit
  with_reducible repeat' first
    | assumption | intro _ | apply Keeps.ite | apply State.tickFree_keeps | (fail_if_no_progress apply Keeps.set_flash)
    | apply State.flashed_ok | dsimp only | split
  all_goals assumption

theorem State.bistStatus_keeps {s0 : State} (st : Status) {s : State} (hK : Keeps s0 s) :
    Keeps s0 (State.bistStatus st s) := by
  unfold State.bistStatus
  with_reducible repeat' first
    | assumption | intro _ | apply State.modStw_keeps | dsimp only | split

theorem State.bistTpass_keeps {s0 : State} (cls n : Nat) (v : Bool) {s : State} (hK : Keeps s0 s) :
    Keeps s0 (State.bistTpass cls n v s) := by
  unfold State.bistTpass
  with_reducible repeat' first
    | assumption | intro _ | apply State.modFe_keeps | apply State.modTc_keeps | dsimp only | split

theorem State.bistStart_keeps {s0 : State} (cls n : Nat) {s : State} (hK : Keeps s0 s) :
    Keeps s0 (State.bistStart cls n s) := by
  unfold State.bistStart
  with_reducible repeat' first
    | assumption | intro _ | apply Keeps.ite | apply State.bistStatus_keeps | apply State.modUpd_keeps
    | apply State.setStw_keeps | apply State.bistTpass_keeps | apply State.maintAsk_keeps | dsimp only | split

theorem execBistFe_keeps {s0 : State} (n : BitVec 9) {s : State} (hK : Keeps s0 s) :
    Answers (Keeps s0) (execBistFe n s) := by
  unfold execBistFe
  with_reducible repeat' first
    | assumption | intro _ | apply Answers.next | apply State.bistStart_keeps | dsimp only | split

theorem execBistTc_keeps {s0 : State} (n : BitVec 9) {s : State} (hK : Keeps s0 s) :
    Answers (Keeps s0) (execBistTc n s) := by
  unfold execBistTc
  with_reducible repeat' first
    | assumption | intro _ | apply Answers.next | apply State.bistStart_keeps | dsimp only | split

theorem execBistRank_keeps {s0 : State} (n : BitVec 9) {s : State} (hK : Keeps s0 s) :
    Answers (Keeps s0) (execBistRank n s) := by
  unfold execBistRank
  with_reducible repeat' first
    | assumption | intro _ | apply Answers.next | apply State.bistStart_keeps | dsimp only | split

theorem execBistPort_keeps {s0 : State} (n : BitVec 9) {s : State} (hK : Keeps s0 s) :
    Answers (Keeps s0) (execBistPort n s) := by
  unfold execBistPort
  with_reducible repeat' first
    | assumption | intro _ | apply Answers.next | apply State.bistStart_keeps | dsimp only | split

theorem execBistDone_keeps {s0 : State} (sig expected : W32) {s : State} (hK : Keeps s0 s) :
    Answers (Keeps s0) (execBistDone sig expected s) := by
  unfold execBistDone
  with_reducible repeat' first
    | assumption | intro _ | apply Answers.next | apply Answers.ite | apply State.modUpd_keeps | apply State.maintEnd_keeps
    | apply State.setStw_keeps | apply State.bistTpass_keeps | dsimp only | split

/-! Machine/BringUp.lean. -/

theorem State.moduleReset_keeps {s0 : State} (p : Pins) {s : State} (hK : Keeps s0 s) : Keeps s0 (State.moduleReset p s) := by
  have h := State.cutCommit_keeps hK
  exact ⟨h.queue, h.out, h.free, h.fuse, fun _ => MemOk.nil, fun _ => MemOk.nil, fun _ => MemOk.nil, fun _ => MemOk.nil, h.img,
    fun _ => MemOk.nil, fun _ => ⟨Nat.zero_le _, Nat.zero_lt_succ _⟩⟩

theorem execModuleReset_keeps {s0 : State} (byResetN : Bool) {s : State} (hK : Keeps s0 s) :
    Answers (Keeps s0) (execModuleReset byResetN s) := by
  unfold execModuleReset
  with_reducible repeat' first
    | assumption | intro _ | apply Answers.next | apply State.moduleReset_keeps | dsimp only | split

theorem execVinOutOfRange_keeps {s0 : State} {s : State} (hK : Keeps s0 s) :
    Answers (Keeps s0) (execVinOutOfRange s) := by
  unfold execVinOutOfRange
  with_reducible repeat' first
    | assumption | intro _ | apply Answers.next | apply State.moduleReset_keeps | dsimp only | split

theorem execVinRestored_keeps {s0 : State} {s : State} (hK : Keeps s0 s) :
    Answers (Keeps s0) (execVinRestored s) := by
  unfold execVinRestored
  with_reducible repeat' first
    | assumption | intro _ | apply Answers.next | (fail_if_no_progress apply Keeps.set_pins) | dsimp only | split

theorem execRailsGood_keeps {s0 : State} {s : State} (hK : Keeps s0 s) :
    Answers (Keeps s0) (execRailsGood s) := by
  unfold execRailsGood
  with_reducible repeat' first
    | assumption | intro _ | apply Answers.next | apply Keeps.ite | (fail_if_no_progress apply Keeps.set_pins) | dsimp only
    | split

theorem execRailOutOfLimits_keeps {s0 : State} {s : State} (hK : Keeps s0 s) :
    Answers (Keeps s0) (execRailOutOfLimits s) := by
  unfold execRailOutOfLimits
  with_reducible repeat' first
    | assumption | intro _ | apply Answers.next | apply State.moduleReset_keeps | dsimp only | split

theorem execMeshLinkFailure_keeps {s0 : State} (h : Half) {s : State} (hK : Keeps s0 s) :
    Answers (Keeps s0) (execMeshLinkFailure h s) := by
  unfold execMeshLinkFailure
  with_reducible repeat' first
    | assumption | intro _ | apply Answers.next | dsimp only | split

theorem execBringupTrigger_keeps {s0 : State} (bridge : Bool) {s : State} (hK : Keeps s0 s) :
    Answers (Keeps s0) (execBringupTrigger bridge s) := by
  unfold execBringupTrigger
  with_reducible repeat' first
    | assumption | intro _ | apply Answers.next | apply Answers.ite | apply Keeps.forAll | apply State.modSec_keeps
    | apply State.modHalf_keeps | apply State.enterStage_keeps | apply State.leaveReset_keeps
    | (fail_if_no_progress apply Keeps.set_pins_bridge) | dsimp only | split

theorem State.step3_keeps {s0 : State} (h : Half) {s : State} (hK : Keeps s0 s) :
    Keeps s0 (State.step3 h s) := by
  unfold State.step3
  with_reducible repeat' first
    | assumption | intro _ | apply Keeps.ite | apply State.checkFlash_keeps | dsimp only | split

theorem State.applyConfig_keeps {s0 : State} {s : State} (hK : Keeps s0 s) :
    Keeps s0 (State.applyConfig s) := by
  unfold State.applyConfig
  with_reducible repeat' first
    | assumption | intro _ | apply State.setStw_keeps | dsimp only | split

theorem State.step4_keeps {s0 : State} (h : Half) {s : State} (hK : Keeps s0 s) :
    Keeps s0 (State.step4 h s) := by
  unfold State.step4
  with_reducible repeat' first
    | assumption | intro _ | apply State.enterStage_keeps | apply State.applyConfig_keeps | apply State.modDmc_keeps
    | dsimp only | split

theorem execVerifySync_keeps {s0 : State} (h : Half) {s : State} (hK : Keeps s0 s) :
    Answers (Keeps s0) (execVerifySync h s) := by
  unfold execVerifySync
  with_reducible repeat' first
    | assumption | intro _ | apply Answers.next | apply Keeps.ite | apply State.step3_keeps | apply State.step4_keeps
    | dsimp only | split

theorem execVerifyWaitTimeout_keeps {s0 : State} (h : Half) {s : State} (hK : Keeps s0 s) :
    Answers (Keeps s0) (execVerifyWaitTimeout h s) := by
  unfold execVerifyWaitTimeout
  with_reducible repeat' first
    | assumption | intro _ | apply Answers.next | apply Answers.ite | apply State.step3_keeps | apply State.step4_keeps
    | apply State.stewRec_keeps | apply State.alert_keeps | apply State.fmHealth_keeps | dsimp only | split

theorem execRecoveryRetry_keeps {s0 : State} (h : Half) {s : State} (hK : Keeps s0 s) :
    Answers (Keeps s0) (execRecoveryRetry h s) := by
  unfold execRecoveryRetry
  with_reducible repeat' first
    | assumption | intro _ | apply Answers.next | apply Keeps.ite | apply State.checkFlash_keeps | dsimp only | split

theorem State.startRank_keeps {s0 : State} (n : Nat) {s : State} (hK : Keeps s0 s) :
    Keeps s0 (State.startRank n s) := by
  unfold State.startRank
  with_reducible repeat' first
    | assumption | intro _ | apply Keeps.ite | apply State.setRank_keeps | apply State.retireRank_keeps
    | apply State.logRec_keeps | apply State.modRank_keeps | apply State.modDmc_keeps | dsimp only | split

theorem State.startEntry_keeps {s0 : State} (w : W64) {s : State} (hK : Keeps s0 s) :
    Keeps s0 (State.startEntry w s) := by
  unfold State.startEntry
  with_reducible repeat' first
    | assumption | intro _ | apply Keeps.ite | apply State.modFe_keeps | apply State.modTc_keeps | apply State.modBank_keeps
    | apply State.startRank_keeps | apply State.leaveSlot_keeps | apply State.leaveUnit_keeps | dsimp only | split

theorem State.startList_keeps {s0 : State} (h : Half) {s : State} (hK : Keeps s0 s) :
    Keeps s0 (State.startList h s) := by
  unfold State.startList
  with_reducible repeat' first
    | assumption | intro _ | apply Keeps.forAll | apply State.retireRank_keeps | apply State.startEntry_keeps | dsimp only
    | split

theorem execFirmwareStart_keeps {s0 : State} (h : Half) {s : State} (hK : Keeps s0 s) :
    Answers (Keeps s0) (execFirmwareStart h s) := by
  unfold execFirmwareStart
  with_reducible repeat' first
    | assumption | intro _ | apply Answers.next | apply Answers.ite | apply State.modHalf_keeps | apply State.enterStage_keeps
    | apply State.startList_keeps | apply State.frsHalf_keeps | dsimp only | split

theorem execFunctionReady_keeps {s0 : State} (h : Half) (f : Fn) {s : State} (hK : Keeps s0 s) :
    Answers (Keeps s0) (execFunctionReady h f s) := by
  unfold execFunctionReady
  with_reducible repeat' first
    | assumption | intro _ | apply Answers.next | apply Keeps.ite | apply State.withReady_keeps | apply State.modHalf_keeps
    | dsimp only | split

theorem State.fillTick_keeps {s0 : State} (h : Half) {s : State} (hK : Keeps s0 s) :
    Keeps s0 (State.fillTick h s) := by
  unfold State.fillTick
  with_reducible repeat' first
    | assumption | intro _ | apply Keeps.ite | apply State.enterStage_keeps | dsimp only | split

theorem State.tick_keeps {s0 : State} {s : State} (hK : Keeps s0 s) :
    Keeps s0 (State.tick s) := by
  unfold State.tick
  with_reducible repeat' first
    | assumption | intro _ | apply State.fillTick_keeps | apply State.releaseTick_keeps
    | (fail_if_no_progress apply Keeps.set_clk) | dsimp only | split

/-! Machine/Power.lean. -/

theorem execGovernorPlan_keeps {s0 : State} (pin pavg : W16) {s : State} (hK : Keeps s0 s) :
    Answers (Keeps s0) (execGovernorPlan pin pavg s) := by
  unfold execGovernorPlan
  with_reducible repeat' first
    | assumption | intro _ | apply Answers.next | apply Keeps.ite | apply State.modPwm_keeps | apply State.setStw_keeps
    | apply State.alert_keeps | dsimp only | split

theorem State.tempRec_keeps {s0 : State} (level : Nat) {s : State} (hK : Keeps s0 s) :
    Keeps s0 (State.tempRec level s) := by
  unfold State.tempRec
  with_reducible repeat' first
    | assumption | intro _ | apply State.fmStd_keeps | dsimp only | split

theorem execSensorSample_keeps {s0 : State} (temps : List Int) {s : State} (hK : Keeps s0 s) :
    Answers (Keeps s0) (execSensorSample temps s) := by
  unfold execSensorSample
  with_reducible repeat' first
    | assumption | intro _ | apply Answers.next | apply Answers.ite | apply Keeps.forAll | apply State.setStw_keeps
    | apply State.modPwm_keeps | apply State.alert_keeps | apply State.tempRec_keeps
    | (fail_if_no_progress apply Keeps.set_pins) | dsimp only | split

theorem execThermalCapStep_keeps {s0 : State} {s : State} (hK : Keeps s0 s) :
    Answers (Keeps s0) (execThermalCapStep s) := by
  unfold execThermalCapStep
  with_reducible repeat' first
    | assumption | intro _ | apply Answers.next | apply State.modPwm_keeps | dsimp only | split

theorem execThermalTrip_keeps {s0 : State} {s : State} (hK : Keeps s0 s) :
    Answers (Keeps s0) (execThermalTrip s) := by
  unfold execThermalTrip
  with_reducible repeat' first
    | assumption | intro _ | apply Answers.next | apply State.moduleReset_keeps | dsimp only | split

theorem execTripRelease_keeps {s0 : State} {s : State} (hK : Keeps s0 s) :
    Answers (Keeps s0) (execTripRelease s) := by
  unfold execTripRelease
  with_reducible repeat' first
    | assumption | intro _ | apply Answers.next | apply Keeps.ite | (fail_if_no_progress apply Keeps.set_pins) | dsimp only
    | split

theorem State.parkIdle_keeps {s0 : State} {s : State} (hK : Keeps s0 s) :
    Keeps s0 (State.parkIdle s) := by
  unfold State.parkIdle
  with_reducible repeat' first
    | assumption | intro _ | apply Keeps.forAll | apply State.modAct_keeps | apply State.countPark_keeps
    | apply State.setDefer_keeps | dsimp only | split

theorem execStandbyEnter_keeps {s0 : State} {s : State} (hK : Keeps s0 s) :
    Answers (Keeps s0) (execStandbyEnter s) := by
  unfold execStandbyEnter
  with_reducible repeat' first
    | assumption | intro _ | apply Answers.next | apply Answers.ite | apply Keeps.ite | apply Keeps.forAll
    | apply State.modPwm_keeps | apply State.cntStw_keeps | apply State.parkIdle_keeps | apply State.toFallow_keeps
    | (fail_if_no_progress apply Keeps.set_ports) | dsimp only | split

theorem execStandbyExit_keeps {s0 : State} (cause : Option PortId) {s : State} (hK : Keeps s0 s) :
    Answers (Keeps s0) (execStandbyExit cause s) := by
  unfold execStandbyExit
  with_reducible repeat' first
    | assumption | intro _ | apply Answers.next | apply Answers.ite | apply Keeps.forAll | apply State.modPwm_keeps
    | apply State.modPort_keeps | apply State.takePause_keeps | apply State.resume_keeps | dsimp only | split

theorem State.abandonFw_keeps {s0 : State} {s : State} (hK : Keeps s0 s) :
    Keeps s0 (State.abandonFw s) := by
  unfold State.abandonFw
  with_reducible repeat' first
    | assumption | intro _ | apply State.modSec_keeps | apply State.modUpd_keeps | dsimp only | split | apply MemOk.nil

theorem State.setRole_keeps {s0 : State} (h : Half) (r : Steward) {s : State} (hK : Keeps s0 s) :
    Keeps s0 (State.setRole h r s) := by
  unfold State.setRole
  with_reducible repeat' first
    | assumption | intro _ | apply State.modHalf_keeps | dsimp only | split

theorem execWatchdogExpire_keeps {s0 : State} (h : Half) {s : State} (hK : Keeps s0 s) :
    Answers (Keeps s0) (execWatchdogExpire h s) := by
  unfold execWatchdogExpire
  with_reducible repeat' first
    | assumption | intro _ | apply Answers.next | apply Keeps.ite | apply State.setRole_keeps | apply State.abandonFw_keeps
    | apply State.stewRec_keeps | dsimp only | split

theorem execTokenReceived_keeps {s0 : State} (h : Half) {s : State} (hK : Keeps s0 s) :
    Answers (Keeps s0) (execTokenReceived h s) := by
  unfold execTokenReceived
  with_reducible repeat' first
    | assumption | intro _ | apply Answers.next | apply Keeps.ite | apply State.setRole_keeps | apply State.cntStw_keeps
    | apply State.alert_keeps | apply State.stewRec_keeps | dsimp only | split

theorem execTokenLinkTimeout_keeps {s0 : State} (h : Half) {s : State} (hK : Keeps s0 s) :
    Answers (Keeps s0) (execTokenLinkTimeout h s) := by
  unfold execTokenLinkTimeout
  with_reducible repeat' first
    | assumption | intro _ | apply Answers.next | apply Answers.ite | apply Keeps.ite | apply State.setRole_keeps
    | apply State.alert_keeps | apply State.stewRec_keeps | (fail_if_no_progress apply Keeps.set_bridge) | dsimp only | split

theorem execTokenLinkReturn_keeps {s0 : State} {s : State} (hK : Keeps s0 s) :
    Answers (Keeps s0) (execTokenLinkReturn s) := by
  unfold execTokenLinkReturn
  with_reducible repeat' first
    | assumption | intro _ | apply Answers.next | apply Keeps.ite | apply State.setRole_keeps | dsimp only | split

theorem execCoreRestartDone_keeps {s0 : State} (h : Half) {s : State} (hK : Keeps s0 s) :
    Answers (Keeps s0) (execCoreRestartDone h s) := by
  unfold execCoreRestartDone
  with_reducible repeat' first
    | assumption | intro _ | apply Answers.next | apply Answers.ite | apply Keeps.ite | apply State.setRole_keeps
    | apply State.alert_keeps | apply State.stewRec_keeps | (fail_if_no_progress apply Keeps.set_bridge) | dsimp only | split

/-! Machine/Management.lean. -/

theorem State.mgmtOk_keeps {s0 : State} (e : Endpoint) (d : List W32) {s : State} (hK : Keeps s0 s) :
    Keeps s0 (State.mgmtOk e d s) := by
  unfold State.mgmtOk
  with_reducible repeat' first
    | assumption | intro _ | apply State.emit_keeps | dsimp only | split

theorem State.mgmtNo_keeps {s0 : State} (e : Endpoint) {s : State} (hK : Keeps s0 s) :
    Keeps s0 (State.mgmtNo e s) := by
  unfold State.mgmtNo
  with_reducible repeat' first
    | assumption | intro _ | apply State.emit_keeps | dsimp only | split

theorem State.mgmtOpen_keeps {s0 : State} (e : Endpoint) (d : List W32) {s : State} (hK : Keeps s0 s) :
    Keeps s0 (State.mgmtOpen e d s) := by
  unfold State.mgmtOpen
  with_reducible repeat' first
    | assumption | intro _ | apply State.mgmtOk_keeps | apply State.tickFree_keeps | dsimp only | split

theorem State.fmCmd_keeps {s0 : State} (e : Endpoint) (f : Nat → State → State) {s : State} (hf : ∀ o t, Keeps s0 t → Keeps s0 (f o t)) (hK : Keeps s0 s) :
    Keeps s0 (State.fmCmd e f s) := by
  unfold State.fmCmd
  with_reducible repeat' first
    | assumption | intro _ | apply Keeps.ite | apply State.mgmtNo_keeps | apply hf | dsimp only | split

theorem State.cciCmd_keeps {s0 : State} (e : Endpoint) (fm : Nat → State → State) (ld : Nat → State → State) {s : State} (hf : ∀ o t, Keeps s0 t → Keeps s0 (fm o t)) (hg : ∀ o t, Keeps s0 t → Keeps s0 (ld o t)) (hK : Keeps s0 s) :
    Keeps s0 (State.cciCmd e fm ld s) := by
  unfold State.cciCmd
  with_reducible repeat' first
    | assumption | intro _ | apply Keeps.ite | apply State.mgmtNo_keeps | apply hf | apply hg | dsimp only | split

theorem execMctpControl_keeps {s0 : State} (e : Endpoint) (setEid : Option Byte) {s : State} (hK : Keeps s0 s) :
    Answers (Keeps s0) (execMctpControl e setEid s) := by
  unfold execMctpControl
  with_reducible repeat' first
    | assumption | intro _ | apply Answers.next | apply Answers.ite | apply State.mgmtNo_keeps | apply State.modMgmt_keeps
    | apply State.mgmtOpen_keeps | dsimp only | split

theorem execI3cDynamicAddressAssignment_keeps {s0 : State} (addr : BitVec 7) {s : State} (hK : Keeps s0 s) :
    Answers (Keeps s0) (execI3cDynamicAddressAssignment addr s) := by
  unfold execI3cDynamicAddressAssignment
  with_reducible repeat' first
    | assumption | intro _ | apply Answers.next | apply State.modMgmt_keeps | dsimp only | split

theorem execUnsupportedCommand_keeps {s0 : State} (e : Endpoint) (opcode : W16) {s : State} (hK : Keeps s0 s) :
    Answers (Keeps s0) (execUnsupportedCommand e opcode s) := by
  unfold execUnsupportedCommand
  with_reducible repeat' first
    | assumption | intro _ | apply Answers.next | apply Keeps.ite | apply State.mgmtNo_keeps | dsimp only | split

theorem execIdentify_keeps {s0 : State} (e : Endpoint) {s : State} (hK : Keeps s0 s) :
    Answers (Keeps s0) (execIdentify e s) := by
  unfold execIdentify
  with_reducible repeat' first
    | assumption | intro _ | apply Answers.next | apply State.mgmtOpen_keeps | apply State.cciCmd_keeps | dsimp only | split

theorem execBackgroundOperationStatus_keeps {s0 : State} (e : Endpoint) {s : State} (hK : Keeps s0 s) :
    Answers (Keeps s0) (execBackgroundOperationStatus e s) := by
  unfold execBackgroundOperationStatus
  with_reducible repeat' first
    | assumption | intro _ | apply Answers.next | apply State.fmCmd_keeps | apply State.mgmtOpen_keeps | dsimp only | split

theorem execGetResponseMessageLimit_keeps {s0 : State} (e : Endpoint) {s : State} (hK : Keeps s0 s) :
    Answers (Keeps s0) (execGetResponseMessageLimit e s) := by
  unfold execGetResponseMessageLimit
  with_reducible repeat' first
    | assumption | intro _ | apply Answers.next | apply State.fmCmd_keeps | apply State.mgmtOk_keeps | dsimp only | split

theorem execSetResponseMessageLimit_keeps {s0 : State} (e : Endpoint) (v : Byte) {s : State} (hK : Keeps s0 s) :
    Answers (Keeps s0) (execSetResponseMessageLimit e v s) := by
  unfold execSetResponseMessageLimit
  with_reducible repeat' first
    | assumption | intro _ | apply Answers.next | apply State.fmCmd_keeps | apply State.modMgmt_keeps | apply State.mgmtOk_keeps
    | dsimp only | split

theorem execGetEventRecords_keeps {s0 : State} (e : Endpoint) (log : BitVec 2) {s : State} (hK : Keeps s0 s) :
    Answers (Keeps s0) (execGetEventRecords e log s) := by
  unfold execGetEventRecords
  with_reducible repeat' first
    | assumption | intro _ | apply Answers.next | apply State.cciCmd_keeps | apply State.mgmtOk_keeps | dsimp only | split

theorem execClearEventRecords_keeps {s0 : State} (e : Endpoint) (log : BitVec 2) (count : Option Nat) {s : State} (hK : Keeps s0 s) :
    Answers (Keeps s0) (execClearEventRecords e log count s) := by
  unfold execClearEventRecords
  with_reducible repeat' first
    | assumption | intro _ | apply Answers.next | apply State.cciCmd_keeps | apply State.modMgmt_keeps
    | apply State.mgmtOk_keeps | apply State.modLd_keeps | dsimp only | split

theorem execGetEventInterruptPolicy_keeps {s0 : State} (e : Endpoint) {s : State} (hK : Keeps s0 s) :
    Answers (Keeps s0) (execGetEventInterruptPolicy e s) := by
  unfold execGetEventInterruptPolicy
  with_reducible repeat' first
    | assumption | intro _ | apply Answers.next | apply State.cciCmd_keeps | apply State.mgmtOk_keeps | dsimp only | split

theorem execSetEventInterruptPolicy_keeps {s0 : State} (e : Endpoint) (v : W32) {s : State} (hK : Keeps s0 s) :
    Answers (Keeps s0) (execSetEventInterruptPolicy e v s) := by
  unfold execSetEventInterruptPolicy
  with_reducible repeat' first
    | assumption | intro _ | apply Answers.next | apply State.cciCmd_keeps | apply State.modMgmt_keeps
    | apply State.mgmtOk_keeps | apply State.modLd_keeps | dsimp only | split

theorem execGetTimestamp_keeps {s0 : State} (e : Endpoint) {s : State} (hK : Keeps s0 s) :
    Answers (Keeps s0) (execGetTimestamp e s) := by
  unfold execGetTimestamp
  with_reducible repeat' first
    | assumption | intro _ | apply Answers.next | apply State.cciCmd_keeps | apply State.mgmtOk_keeps | dsimp only | split

theorem execSetTimestamp_keeps {s0 : State} (e : Endpoint) (v : W64) {s : State} (hK : Keeps s0 s) :
    Answers (Keeps s0) (execSetTimestamp e v s) := by
  unfold execSetTimestamp
  with_reducible repeat' first
    | assumption | intro _ | apply Answers.next | apply State.cciCmd_keeps | apply State.modMgmt_keeps
    | apply State.mgmtOk_keeps | apply State.modLd_keeps | dsimp only | split

theorem execGetSupportedLogs_keeps {s0 : State} (e : Endpoint) {s : State} (hK : Keeps s0 s) :
    Answers (Keeps s0) (execGetSupportedLogs e s) := by
  unfold execGetSupportedLogs
  with_reducible repeat' first
    | assumption | intro _ | apply Answers.next | apply State.cciCmd_keeps | apply State.mgmtOpen_keeps | dsimp only | split

theorem execGetLog_keeps {s0 : State} (e : Endpoint) (off len : Nat) {s : State} (hK : Keeps s0 s) :
    Answers (Keeps s0) (execGetLog e off len s) := by
  unfold execGetLog
  with_reducible repeat' first
    | assumption | intro _ | apply Answers.next | apply State.cciCmd_keeps | apply State.mgmtOpen_keeps | dsimp only | split

theorem execTunnelManagement_keeps {s0 : State} (e : Endpoint) (ld : BitVec 4) (opcode : W16) {s : State} (hK : Keeps s0 s) :
    Answers (Keeps s0) (execTunnelManagement e ld opcode s) := by
  unfold execTunnelManagement
  with_reducible repeat' first
    | assumption | intro _ | apply Answers.next | apply Keeps.ite | apply State.fmCmd_keeps | apply State.mgmtOpen_keeps
    | apply State.mgmtNo_keeps | dsimp only | split

theorem execSendLdConfigurationRequest_keeps {s0 : State} (e : Endpoint) (ld : BitVec 4) (write : Bool) (reg : CfgReg) (v : W32) {s : State} (hK : Keeps s0 s) :
    Answers (Keeps s0) (execSendLdConfigurationRequest e ld write reg v s) := by
  unfold execSendLdConfigurationRequest
  with_reducible repeat' first
    | assumption | intro _ | apply Answers.next | apply Keeps.ite | apply State.fmCmd_keeps | apply State.mgmtNo_keeps
    | apply State.emit_keeps | apply State.cfgWrite_keeps | apply State.mgmtOk_keeps | apply State.tickFree_keeps | dsimp only
    | split

theorem execGetLdInfo_keeps {s0 : State} (e : Endpoint) {s : State} (hK : Keeps s0 s) :
    Answers (Keeps s0) (execGetLdInfo e s) := by
  unfold execGetLdInfo
  with_reducible repeat' first
    | assumption | intro _ | apply Answers.next | apply State.fmCmd_keeps | apply State.mgmtOk_keeps | dsimp only | split

theorem execGetLdAllocations_keeps {s0 : State} (e : Endpoint) {s : State} (hK : Keeps s0 s) :
    Answers (Keeps s0) (execGetLdAllocations e s) := by
  unfold execGetLdAllocations
  with_reducible repeat' first
    | assumption | intro _ | apply Answers.next | apply State.fmCmd_keeps | apply State.mgmtOk_keeps | dsimp only | split

theorem execGetMultiHeadedInfo_keeps {s0 : State} (e : Endpoint) {s : State} (hK : Keeps s0 s) :
    Answers (Keeps s0) (execGetMultiHeadedInfo e s) := by
  unfold execGetMultiHeadedInfo
  with_reducible repeat' first
    | assumption | intro _ | apply Answers.next | apply State.fmCmd_keeps | apply State.mgmtOpen_keeps | dsimp only | split

theorem execGetHeadInfo_keeps {s0 : State} (e : Endpoint) (p : PortId) {s : State} (hK : Keeps s0 s) :
    Answers (Keeps s0) (execGetHeadInfo e p s) := by
  unfold execGetHeadInfo
  with_reducible repeat' first
    | assumption | intro _ | apply Answers.next | apply Keeps.ite | apply State.fmCmd_keeps | apply State.mgmtNo_keeps
    | apply State.mgmtOpen_keeps | dsimp only | split

theorem execGetDcdInfo_keeps {s0 : State} (e : Endpoint) {s : State} (hK : Keeps s0 s) :
    Answers (Keeps s0) (execGetDcdInfo e s) := by
  unfold execGetDcdInfo
  with_reducible repeat' first
    | assumption | intro _ | apply Answers.next | apply State.fmCmd_keeps | apply State.mgmtOpen_keeps | dsimp only | split

theorem execGetHostDcRegionConfiguration_keeps {s0 : State} (e : Endpoint) (ld : BitVec 4) {s : State} (hK : Keeps s0 s) :
    Answers (Keeps s0) (execGetHostDcRegionConfiguration e ld s) := by
  unfold execGetHostDcRegionConfiguration
  with_reducible repeat' first
    | assumption | intro _ | apply Answers.next | apply Keeps.ite | apply State.fmCmd_keeps | apply State.mgmtOk_keeps
    | apply State.mgmtNo_keeps | dsimp only | split

theorem execGetDcRegionExtentLists_keeps {s0 : State} (e : Endpoint) (ld : BitVec 4) {s : State} (hK : Keeps s0 s) :
    Answers (Keeps s0) (execGetDcRegionExtentLists e ld s) := by
  unfold execGetDcRegionExtentLists
  with_reducible repeat' first
    | assumption | intro _ | apply Answers.next | apply Keeps.ite | apply State.fmCmd_keeps | apply State.mgmtOk_keeps
    | apply State.mgmtNo_keeps | dsimp only | split

theorem State.ldCmd_keeps {s0 : State} (t : Tenant) (f : Nat → State → State) {s : State} (hf : ∀ o t, Keeps s0 t → Keeps s0 (f o t)) (hK : Keeps s0 s) :
    Keeps s0 (State.ldCmd t f s) := by
  unfold State.ldCmd
  with_reducible repeat' first
    | assumption | intro _ | apply Keeps.ite | apply hf | dsimp only | split

theorem execGetDynamicCapacityConfiguration_keeps {s0 : State} (t : Tenant) {s : State} (hK : Keeps s0 s) :
    Answers (Keeps s0) (execGetDynamicCapacityConfiguration t s) := by
  unfold execGetDynamicCapacityConfiguration
  with_reducible repeat' first
    | assumption | intro _ | apply Answers.next | apply State.ldCmd_keeps | apply State.mgmtOk_keeps | dsimp only | split

theorem execGetDynamicCapacityExtentList_keeps {s0 : State} (t : Tenant) {s : State} (hK : Keeps s0 s) :
    Answers (Keeps s0) (execGetDynamicCapacityExtentList t s) := by
  unfold execGetDynamicCapacityExtentList
  with_reducible repeat' first
    | assumption | intro _ | apply Answers.next | apply State.ldCmd_keeps | apply State.mgmtOk_keeps | dsimp only | split

theorem execIdentifyMemoryDevice_keeps {s0 : State} (t : Tenant) {s : State} (hK : Keeps s0 s) :
    Answers (Keeps s0) (execIdentifyMemoryDevice t s) := by
  unfold execIdentifyMemoryDevice
  with_reducible repeat' first
    | assumption | intro _ | apply Answers.next | apply State.ldCmd_keeps | apply State.mgmtOpen_keeps | dsimp only | split

theorem execGetHealthInfo_keeps {s0 : State} (t : Tenant) {s : State} (hK : Keeps s0 s) :
    Answers (Keeps s0) (execGetHealthInfo t s) := by
  unfold execGetHealthInfo
  with_reducible repeat' first
    | assumption | intro _ | apply Answers.next | apply State.ldCmd_keeps | apply State.mgmtOpen_keeps | dsimp only | split

/-! Machine/Tables.lean. -/

theorem execTableGenerationRetire_keeps {s0 : State} (slot : BitVec 8) {s : State} (hK : Keeps s0 s) :
    Answers (Keeps s0) (execTableGenerationRetire slot s) := by
  unfold execTableGenerationRetire
  with_reducible repeat' first
    | assumption | intro _ | apply Answers.next | apply Answers.ite | apply State.setTslot_keeps | dsimp only | split

theorem State.tcmdStatus_keeps {s0 : State} (st : Status) {s : State} (hK : Keeps s0 s) :
    Keeps s0 (State.tcmdStatus st s) := by
  unfold State.tcmdStatus
  with_reducible repeat' first
    | assumption | intro _ | apply State.modCmp_keeps | dsimp only | split

theorem execCmpTableUnload_keeps {s0 : State} {s : State} (hK : Keeps s0 s) :
    Answers (Keeps s0) (execCmpTableUnload s) := by
  unfold execCmpTableUnload
  with_reducible repeat' first
    | assumption | intro _ | apply Answers.next | apply Keeps.ite | apply State.unloadTable_keeps | apply State.tcmdStatus_keeps
    | dsimp only | split

theorem execCmpTableOwner_keeps {s0 : State} (t : Tenant) {s : State} (hK : Keeps s0 s) :
    Answers (Keeps s0) (execCmpTableOwner t s) := by
  unfold execCmpTableOwner
  with_reducible repeat' first
    | assumption | intro _ | apply Answers.next | apply Keeps.ite | apply State.setTslot_keeps | apply State.tcmdStatus_keeps
    | dsimp only | split

theorem execCmpTcmdReserved_keeps {s0 : State} {s : State} (hK : Keeps s0 s) :
    Answers (Keeps s0) (execCmpTcmdReserved s) := by
  unfold execCmpTcmdReserved
  with_reducible repeat' first
    | assumption | intro _ | apply Answers.next | apply State.tcmdStatus_keeps | dsimp only | split

theorem execScaleWindowEnable_keeps {s0 : State} (n : BitVec 6) (v : W32) {s : State} (hK : Keeps s0 s) :
    Answers (Keeps s0) (execScaleWindowEnable n v s) := by
  unfold execScaleWindowEnable
  with_reducible repeat' first
    | assumption | intro _ | apply Answers.next | apply Answers.ite | apply State.setStw_keeps | dsimp only | split

/-! Machine/Device.lean. -/

theorem State.hdmWrite_keeps {s0 : State} (n i : Nat) (v : W32) {s : State} (hK : Keeps s0 s) :
    Keeps s0 (State.hdmWrite n i v s) := by
  unfold State.hdmWrite
  with_reducible repeat' first
    | assumption | intro _ | apply Keeps.ite | apply State.modLd_keeps | apply State.hdmCommit_keeps | dsimp only | split

theorem State.compWrite_keeps {s0 : State} (n off : Nat) (v : W32) {s : State} (hK : Keeps s0 s) :
    Keeps s0 (State.compWrite n off v s) := by
  unfold State.compWrite
  with_reducible repeat' first
    | assumption | intro _ | apply State.hdmWrite_keeps | dsimp only | split

theorem State.bar2Write_keeps {s0 : State} (n off : Nat) (v : W32) {s : State} (hK : Keeps s0 s) :
    Keeps s0 (State.bar2Write n off v s) := by
  unfold State.bar2Write
  with_reducible repeat' first
    | assumption | intro _ | apply Keeps.ite | (fail_if_no_progress apply Keeps.set_reg) | dsimp only | split

/-! Machine/RegRead.lean. -/

theorem State.barCleared_keeps {s0 : State} (t off : Nat) (upd : W32) {s : State} (hK : Keeps s0 s) :
    Keeps s0 (State.barCleared t off upd s) := by
  unfold State.barCleared
  with_reducible repeat' first
    | assumption | intro _ | apply Keeps.ite | apply State.modCursor_keeps | apply State.modBar_keeps | dsimp only | split

theorem State.readBar_keeps {s0 : State} (t off : Nat) (upd : W32) {s : State} (hK : Keeps s0 s) :
    Keeps s0 (State.readBar t off upd s).2 := by
  unfold State.readBar
  with_reducible repeat' first
    | assumption | intro _ | apply Keeps.ite | apply State.barCleared_keeps | apply State.tickFree_keeps | dsimp only | split

theorem State.stwCleared_keeps {s0 : State} (off : Nat) (upd : W32) {s : State} (hK : Keeps s0 s) :
    Keeps s0 (State.stwCleared off upd s) := by
  unfold State.stwCleared
  with_reducible repeat' first
    | assumption | intro _ | apply Keeps.ite | apply State.modCmp_keeps | apply State.modStw_keeps | dsimp only | split

theorem State.readStw_keeps {s0 : State} (off : Nat) (upd : W32) {s : State} (hK : Keeps s0 s) :
    Keeps s0 (State.readStw off upd s).2 := by
  unfold State.readStw
  with_reducible repeat' first
    | assumption | intro _ | apply Keeps.ite | apply State.stwCleared_keeps | apply State.tickFree_keeps | dsimp only | split

/-! Machine/Registers.lean. -/

theorem State.after_keeps {s0 : State} {s : State} {o : Outcome State Fault Refusal} (hK : Keeps s0 s) (h : Answers (Keeps s0) o) :
    Keeps s0 (s.after o) := by
  unfold State.after
  split
  · exact h.all _ rfl
  · exact hK

theorem State.msixWrite_keeps {s0 : State} (t off : Nat) (v : W32) {s : State} (hK : Keeps s0 s) :
    Keeps s0 (State.msixWrite t off v s) := by
  unfold State.msixWrite
  with_reducible repeat' first
    | assumption | intro _ | apply Keeps.ite | apply State.modLd_keeps | apply State.flushMsix_keeps | dsimp only | split

theorem State.sqWrite_keeps {s0 : State} (t : Tenant) (r : Nat) (off : Nat) (v : W32) {s : State} (hK : Keeps s0 s) :
    Keeps s0 (State.sqWrite t r off v s) := by
  unfold State.sqWrite
  with_reducible repeat' first
    | assumption | intro _ | apply Keeps.ite | apply State.after_keeps | apply execRingEnable_keeps
    | apply execRingDisable_keeps | apply execRingRestart_keeps | apply State.setBar_keeps | dsimp only | split

theorem State.barPlain_keeps {s0 : State} (t off : Nat) (r : RegRow) (v : W32) {s : State} (hK : Keeps s0 s) :
    Keeps s0 (State.barPlain t off r v s) := by
  unfold State.barPlain
  with_reducible repeat' first
    | assumption | intro _ | apply Keeps.ite | apply State.setBar_keeps | apply State.modBar_keeps | dsimp only | split

theorem State.barWrite_keeps {s0 : State} (t : Tenant) (off : Nat) (r : RegRow) (v : W32) {s : State} (hK : Keeps s0 s) :
    Keeps s0 (State.barWrite t off r v s) := by
  unfold State.barWrite
  with_reducible repeat' first
    | assumption | intro _ | apply Keeps.ite | apply State.sqWrite_keeps | apply State.after_keeps | apply execCqEnable_keeps
    | apply execCqDisable_keeps | apply execCqHeadWrite_keeps | apply execMmioDoorbell_keeps | apply execAlmMark_keeps
    | apply execUibWrite_keeps | apply State.barPlain_keeps | dsimp only | split

theorem State.writeBar_keeps {s0 : State} (t : Tenant) (off : Nat) (v : W32) {s : State} (hK : Keeps s0 s) :
    Keeps s0 (State.writeBar t off v s) := by
  unfold State.writeBar
  with_reducible repeat' first
    | assumption | intro _ | apply Keeps.ite | apply State.after_keeps | apply execMmioDoorbell_keeps
    | apply State.msixWrite_keeps | apply State.compWrite_keeps | apply State.barWrite_keeps | apply State.cntBar_keeps
    | dsimp only | split

theorem State.wttWrite_keeps {s0 : State} (off : Nat) (v : W32) {s : State} (hK : Keeps s0 s) :
    InOption (Keeps s0) (State.wttWrite off v s) := by
  unfold State.wttWrite
  with_reducible repeat' first
    | assumption | intro _ | apply InOption.some | apply InOption.none | apply InOption.ite | apply Keeps.ite
    | apply State.writeWttCfg_keeps | apply State.after_keeps | apply execWttDataWrite_keeps | apply execWttCommit_keeps
    | apply execWttGroupCommit_keeps | apply execWttCopy_keeps | apply execWttCommitReserved_keeps
    | (fail_if_no_progress apply Keeps.set_wttData) | dsimp only | split

theorem State.tirWrite_keeps {s0 : State} (off : Nat) (v : W32) {s : State} (hK : Keeps s0 s) :
    InOption (Keeps s0) (State.tirWrite off v s) := by
  unfold State.tirWrite
  with_reducible repeat' first
    | assumption | intro _ | apply InOption.some | apply InOption.ite | apply InOption.map | apply Keeps.ite
    | apply State.after_keeps | apply execTirAssign_keeps | apply execTirRelease_keeps | apply execTirAsgnReserved_keeps
    | apply execTirRemoveClaims_keeps | apply execTirClsWrite_keeps | apply execPlotQuery_keeps | apply State.modStw_keeps
    | apply execFarRevoke_keeps | apply execFarEnable_keeps | apply execFarDisable_keeps | dsimp only | split

theorem State.almWrite_keeps {s0 : State} (off : Nat) (v : W32) {s : State} (hK : Keeps s0 s) :
    InOption (Keeps s0) (State.almWrite off v s) := by
  unfold State.almWrite
  with_reducible repeat' first
    | assumption | intro _ | apply Answers.next | apply Answers.ite | apply InOption.some | apply InOption.none
    | apply InOption.ite | apply State.after_keeps | apply execAlmBind_keeps | apply execAlmUnbind_keeps
    | apply execAlmClearPosition_keeps | apply execAlmReclaimUnload_keeps | apply execAlmNewOwner_keeps
    | apply State.bindStatus_keeps | dsimp only | split

theorem State.cmpWrite_keeps {s0 : State} (off : Nat) (v : W32) {s : State} (hK : Keeps s0 s) :
    InOption (Keeps s0) (State.cmpWrite off v s) := by
  unfold State.cmpWrite
  with_reducible repeat' first
    | assumption | intro _ | apply InOption.some | apply InOption.ite | apply InOption.map | apply State.after_keeps
    | apply execCmpTableUnload_keeps | apply execCmpTableOwner_keeps | apply execCmpTcmdReserved_keeps
    | apply execScaleWindowEnable_keeps | dsimp only | split

theorem State.fleCfg_keeps {s0 : State} (n off : Nat) (v : W32) {s : State} (hK : Keeps s0 s) :
    Keeps s0 (State.fleCfg n off v s) := by
  unfold State.fleCfg
  with_reducible repeat' first
    | assumption | intro _ | apply State.setStw_keeps | dsimp only | split

theorem State.fleWrite_keeps {s0 : State} (off : Nat) (v : W32) {s : State} (hK : Keeps s0 s) :
    InOption (Keeps s0) (State.fleWrite off v s) := by
  unfold State.fleWrite
  with_reducible repeat' first
    | assumption | intro _ | apply Answers.next | apply InOption.some | apply InOption.ite | apply InOption.map
    | apply State.after_keeps | apply execEngineFence_keeps | apply execEngineBist_keeps | apply execEngineReturn_keeps
    | apply State.setStw_keeps | apply State.fleCfg_keeps | dsimp only | split

theorem State.tndWrite_keeps {s0 : State} (off : Nat) (v : W32) {s : State} (hK : Keeps s0 s) :
    InOption (Keeps s0) (State.tndWrite off v s) := by
  unfold State.tndWrite
  with_reducible repeat' first
    | assumption | intro _ | apply Answers.next | apply InOption.some | apply InOption.ite | apply InOption.map
    | apply State.after_keeps | apply execCoreFence_keeps | apply execCoreBist_keeps | apply execCoreReturn_keeps
    | apply execProgramSlotUnload_keeps | apply execProgramSlotOwner_keeps | apply execTndPcmdReserved_keeps
    | apply State.setStw_keeps | dsimp only | split

theorem State.regionField_keeps {s0 : State} (f : Region → Region) {s : State} (hK : Keeps s0 s) :
    Keeps s0 (State.regionField f s) := by
  unfold State.regionField
  with_reducible repeat' first
    | assumption | intro _ | apply State.modRegion_keeps | dsimp only | split

theorem State.shrWrite_keeps {s0 : State} (off : Nat) (v : W32) {s : State} (hK : Keeps s0 s) :
    InOption (Keeps s0) (State.shrWrite off v s) := by
  unfold State.shrWrite
  with_reducible repeat' first
    | assumption | intro _ | apply InOption.some | apply InOption.none | apply InOption.ite | apply Keeps.ite
    | apply State.after_keeps | apply execRegionEnable_keeps | apply State.setRegion_keeps | apply execRegionDisable_keeps
    | apply State.regionField_keeps | apply execShrFailTenant_keeps | apply execReleaseRegionOrphans_keeps
    | apply execReleaseTenantOrphans_keeps | apply execReleaseCapacity_keeps | dsimp only | split

theorem State.hgtWrite_keeps {s0 : State} (off : Nat) (v : W32) {s : State} (hK : Keeps s0 s) :
    InOption (Keeps s0) (State.hgtWrite off v s) := by
  unfold State.hgtWrite
  with_reducible repeat' first
    | assumption | intro _ | apply InOption.some | apply InOption.map | apply State.setStw_keeps | apply State.after_keeps
    | apply execWeirConfigWrite_keeps | dsimp only | split

theorem State.dmcWrite_keeps {s0 : State} (off : Nat) (v : W32) {s : State} (hK : Keeps s0 s) :
    InOption (Keeps s0) (State.dmcWrite off v s) := by
  unfold State.dmcWrite
  with_reducible repeat' first
    | assumption | intro _ | apply Answers.next | apply InOption.some | apply InOption.ite | apply InOption.map
    | apply State.after_keeps | apply execEvacuate_keeps | apply execEvacuateCancel_keeps | apply State.setStw_keeps
    | dsimp only | split

theorem State.cstWrite_keeps {s0 : State} (off : Nat) (v : W32) {s : State} (hK : Keeps s0 s) :
    InOption (Keeps s0) (State.cstWrite off v s) := by
  unfold State.cstWrite
  with_reducible repeat' first
    | assumption | intro _ | apply Answers.next | apply InOption.some | apply InOption.none | apply InOption.ite
    | apply State.after_keeps | apply execBankGiveStage_keeps | apply execBankReturnPool_keeps | apply execBankRetire_keeps
    | apply execBankPowerOn_keeps | apply execBankRetention_keeps | apply execBankFallow_keeps | apply State.bcStatus_keeps
    | apply execMarchDestructive_keeps | apply execMarchPreserving_keeps | apply execMarchAbort_keeps | dsimp only | split

theorem State.rasWrite_keeps {s0 : State} (off : Nat) (v : W32) {s : State} (hK : Keeps s0 s) :
    InOption (Keeps s0) (State.rasWrite off v s) := by
  unfold State.rasWrite
  with_reducible repeat' first
    | assumption | intro _ | apply InOption.some | apply InOption.ite | apply InOption.map | apply State.after_keeps
    | apply execRetireNearSlot_keeps | apply execRetireBulkUnit_keeps | apply execAddRetirementEntry_keeps
    | apply execEmptyRetirementEntry_keeps | apply State.setStw_keeps | dsimp only | split

theorem State.secWrite_keeps {s0 : State} (off : Nat) (v : W32) {s : State} (hK : Keeps s0 s) :
    InOption (Keeps s0) (State.secWrite off v s) := by
  unfold State.secWrite
  with_reducible repeat' first
    | assumption | intro _ | apply InOption.some | apply InOption.none | apply InOption.ite | apply State.after_keeps
    | apply execRaiseMinsvn_keeps | apply execRevokeKey_keeps | apply State.fuseCmd_keeps | apply execKcmdKeygen_keeps
    | apply execKcmdZeroise_keeps | apply execKcmdZeroiseAll_keeps | apply State.kcmd_keeps | dsimp only | split
  all_goals exact Fuses.Le.refl _

theorem State.bupWrite_keeps {s0 : State} (off : Nat) (v : W32) {s : State} (hK : Keeps s0 s) :
    InOption (Keeps s0) (State.bupWrite off v s) := by
  unfold State.bupWrite
  with_reducible repeat' first
    | assumption | intro _ | apply InOption.some | apply InOption.ite | apply InOption.map | apply State.after_keeps
    | apply execUpdateBegin_keeps | apply execUpdateChunk_keeps | apply execUpdateVerify_keeps | apply execUpdateCommit_keeps
    | apply execUpdateAbandon_keeps | apply State.ustat_keeps | apply State.bistStart_keeps | apply State.modUpd_keeps
    | dsimp only | split

theorem State.pwmWrite_keeps {s0 : State} (off : Nat) (v : W32) {s : State} (hK : Keeps s0 s) :
    InOption (Keeps s0) (State.pwmWrite off v s) := by
  unfold State.pwmWrite
  with_reducible repeat' first
    | assumption | intro _ | apply InOption.some | apply InOption.ite | apply InOption.map | apply State.setStw_keeps
    | apply State.modStw_keeps | dsimp only | split

theorem State.stwOwn_keeps {s0 : State} (off : Nat) (v : W32) {s : State} (hK : Keeps s0 s) :
    InOption (Keeps s0) (State.stwOwn off v s) := by
  unfold State.stwOwn
  with_reducible repeat' first
    | assumption | intro _ | apply InOption.none | apply InOption.map | apply State.wttWrite_keeps | apply State.tirWrite_keeps
    | apply State.almWrite_keeps | apply State.cmpWrite_keeps | apply State.fleWrite_keeps | apply State.tndWrite_keeps
    | apply State.setStw_keeps | apply State.shrWrite_keeps | apply State.hgtWrite_keeps | apply State.dmcWrite_keeps
    | apply State.cstWrite_keeps | apply State.rasWrite_keeps | apply State.secWrite_keeps | apply State.bupWrite_keeps
    | apply State.pwmWrite_keeps | dsimp only | split

theorem State.writeStw_keeps {s0 : State} (off : Nat) (v : W32) {s : State} (hK : Keeps s0 s) :
    Keeps s0 (State.writeStw off v s) := by
  unfold State.writeStw
  with_reducible repeat' first
    | assumption | intro _ | apply Keeps.ite | apply InOption.getD | apply State.stwOwn_keeps | apply State.modStw_keeps
    | apply State.cntStw_keeps | dsimp only | split

theorem State.writeReg_keeps {s0 : State} (sp : RegSpace) (off : Nat) (v : W32) {s : State} (hK : Keeps s0 s) :
    Keeps s0 (State.writeReg sp off v s) := by
  unfold State.writeReg
  with_reducible repeat' first
    | assumption | intro _ | apply State.writeBar_keeps | apply State.bar2Write_keeps | apply State.writeStw_keeps | dsimp only
    | split

theorem State.readReg_keeps {s0 : State} (sp : RegSpace) (off : Nat) (upd : W32) {s : State} (hK : Keeps s0 s) :
    Keeps s0 (State.readReg sp off upd s).2 := by
  unfold State.readReg
  with_reducible repeat' first
    | assumption | intro _ | apply State.readBar_keeps | apply State.tickFree_keeps | apply State.readStw_keeps | dsimp only
    | split

theorem State.w1cBar_keeps {s0 : State} (t off : Nat) (u : W32) {s : State} (hK : Keeps s0 s) :
    Keeps s0 (State.w1cBar t off u s) := by
  unfold State.w1cBar
  with_reducible repeat' first
    | assumption | intro _ | apply Keeps.ite | apply State.modRing_keeps | apply State.modBar_keeps | dsimp only | split

theorem State.w1cStw_keeps {s0 : State} (off : Nat) (u : W32) {s : State} (hK : Keeps s0 s) :
    Keeps s0 (State.w1cStw off u s) := by
  unfold State.w1cStw
  with_reducible repeat' first
    | assumption | intro _ | apply Keeps.ite | apply State.modRegion_keeps | apply State.modStw_keeps | dsimp only | split

theorem State.w1cSets_keeps {s0 : State} (sp : RegSpace) (off : Nat) (u : W32) {s : State} (hK : Keeps s0 s) :
    Keeps s0 (State.w1cSets sp off u s) := by
  unfold State.w1cSets
  with_reducible repeat' first
    | assumption | intro _ | apply State.w1cBar_keeps | apply State.w1cStw_keeps | dsimp only | split

theorem execRegisterWrite_keeps {s0 : State} (sp : RegSpace) (off : BitVec 24) (v : W32) (w : WriteRest) {s : State} (hK : Keeps s0 s) :
    Answers (Keeps s0) (execRegisterWrite sp off v w s) := by
  unfold execRegisterWrite
  with_reducible repeat' first
    | assumption | intro _ | apply Answers.next | apply State.writeReg_keeps | apply State.w1cSets_keeps | dsimp only | split

theorem execReadClear_keeps {s0 : State} (sp : RegSpace) (off : BitVec 24) (wide : Bool) (upd : W64) {s : State} (hK : Keeps s0 s) :
    Answers (Keeps s0) (execReadClear sp off wide upd s) := by
  unfold execReadClear
  with_reducible repeat' first
    | assumption | intro _ | apply Answers.next | apply Answers.ite | apply State.readReg_keeps | apply State.emit_keeps
    | dsimp only | split

theorem execBar0BadAccess_keeps {s0 : State} (t : Tenant) (off : W16) (size : Nat) (write : Bool) {s : State} (hK : Keeps s0 s) :
    Answers (Keeps s0) (execBar0BadAccess t off size write s) := by
  unfold execBar0BadAccess
  with_reducible repeat' first
    | assumption | intro _ | apply Answers.next | apply Answers.ite | apply Keeps.ite | apply State.cntBar_keeps
    | apply State.emit_keeps | dsimp only | split

theorem State.accessWrite_keeps {s0 : State} (e : Endpoint) (session : Option Nat) (off : Nat) (v : W32) {s : State} (hK : Keeps s0 s) :
    Keeps s0 (State.accessWrite e session off v s) := by
  unfold State.accessWrite
  with_reducible repeat' first
    | assumption | intro _ | apply Keeps.ite | apply State.after_keeps | apply execBindWrite_keeps | apply State.writeStw_keeps
    | dsimp only | split

theorem State.accessRead_keeps {s0 : State} (l : List Nat) {s : State} (hK : Keeps s0 s) : Keeps s0 (State.accessRead l s).2 := by
  unfold State.accessRead
  suffices h : ∀ a : List W32 × State, Keeps s0 a.2 → Keeps s0 (l.foldl (fun (a : List W32 × State) off =>
      if 0x1000000 ≤ off then (a.1 ++ [0#32], a.2)
      else let r := a.2.readStw off 0#32; (a.1 ++ [r.1], r.2)) a).2 from h ([], s) hK
  induction l with
  | nil => exact fun _ h => h
  | cons o r ih =>
    intro a h
    rw [List.foldl_cons]
    apply ih
    split
    · exact h
    · exact State.readStw_keeps _ _ h

theorem execStewardRegisterAccess_keeps {s0 : State} (e : Endpoint) (session : Option Nat) (off : BitVec 24) (write : Bool) (count : Nat) (data : List W32) {s : State} (hK : Keeps s0 s) :
    Answers (Keeps s0) (execStewardRegisterAccess e session off write count data s) := by
  unfold execStewardRegisterAccess
  with_reducible repeat' first
    | assumption | intro _ | apply Answers.next | apply Answers.ite | apply Keeps.ite | apply Keeps.forAll
    | apply State.mgmtNo_keeps | apply State.cntStw_keeps | apply State.accessWrite_keeps | apply State.mgmtOk_keeps
    | apply State.accessRead_keeps | apply State.emit_keeps | dsimp only | split

theorem execSendLdMemoryRequest_keeps {s0 : State} (e : Endpoint) (ld : BitVec 4) (write : Bool) (off : BitVec 24) (v : W32) {s : State} (hK : Keeps s0 s) :
    Answers (Keeps s0) (execSendLdMemoryRequest e ld write off v s) := by
  unfold execSendLdMemoryRequest
  with_reducible repeat' first
    | assumption | intro _ | apply Answers.next | apply Keeps.ite | apply State.fmCmd_keeps | apply State.mgmtNo_keeps
    | apply State.after_keeps | apply execBar0BadAccess_keeps | apply State.mgmtOk_keeps | apply State.writeBar_keeps
    | apply State.readBar_keeps | dsimp only | split

end Sys2Proof.Machine
end

