-- ==== Sys2Proof/Laws/KeepsExec.lean ====
section
/-! SUPPORT. No command touches the queue, takes a message back, lowers a fuse or leaves a store of bytes out of its form. -/

namespace Sys2Proof.Machine

theorem canonical_iff (s : State) : Safety.Canonical s ↔ s.Canon :=
  ⟨fun h => ⟨(memWf_iff _).1 h.near, (memWf_iff _).1 h.coded, (memWf_iff _).1 h.escapes, (memWf_iff _).1 h.cistern,
    (memWf_iff _).1 h.flash, (memWf_iff _).1 h.update, h.log⟩,
   fun h => ⟨(memWf_iff _).2 h.mem, (memWf_iff _).2 h.area, (memWf_iff _).2 h.esc, (memWf_iff _).2 h.cst,
    (memWf_iff _).2 h.img, (memWf_iff _).2 h.upd, h.log⟩⟩

set_option maxHeartbeats 1000000 in
theorem exec_keeps (c : Instr) (s : State) : Answers (Keeps s) (exec c s) := by
  have hK := Keeps.refl s
  cases c with
  | registerWrite sp off v w => exact execRegisterWrite_keeps sp off v w hK
  | readClear sp off wide upd => exact execReadClear_keeps sp off wide upd hK
  | bar0BadAccess t off size write => exact execBar0BadAccess_keeps t off size write hK
  | moduleReset byResetN => exact execModuleReset_keeps byResetN hK
  | bringupTrigger bridge => exact execBringupTrigger_keeps bridge hK
  | verifySync h => exact execVerifySync_keeps h hK
  | verifyWaitTimeout h => exact execVerifyWaitTimeout_keeps h hK
  | recoveryRetry h => exact execRecoveryRetry_keeps h hK
  | firmwareStart h => exact execFirmwareStart_keeps h hK
  | functionReady h f => exact execFunctionReady_keeps h f hK
  | vinOutOfRange => exact execVinOutOfRange_keeps hK
  | vinRestored => exact execVinRestored_keeps hK
  | railsGood => exact execRailsGood_keeps hK
  | perstAssert p => exact execPerstAssert_keeps p hK
  | perstDeassert p clksel => exact execPerstDeassert_keeps p clksel hK
  | linkUp p width rate mld => exact execLinkUp_keeps p width rate mld hK
  | trainFail p => exact execTrainFail_keeps p hK
  | trainBackoffExpire p => exact execTrainBackoffExpire_keeps p hK
  | linkRecovery p => exact execLinkRecovery_keeps p hK
  | linkDown p => exact execLinkDown_keeps p hK
  | hotReset p => exact execHotReset_keeps p hK
  | portDrainComplete p => exact execPortDrainComplete_keeps p hK
  | flrInitiate t => exact execFlrInitiate_keeps t hK
  | flrDrainComplete t => exact execFlrDrainComplete_keeps t hK
  | configRequest t write reg v => exact execConfigRequest_keeps t write reg v hK
  | ctoValueWrite t v => exact execCtoValueWrite_keeps t v hK
  | hdmCommit t base size skip ways gran lock => exact execHdmCommit_keeps t base size skip ways gran lock hK
  | busMasterEnableSet t => exact execBusMasterEnableSet_keeps t hK
  | completionTimeout tag => exact execCompletionTimeout_keeps tag hK
  | tagQuarantineExpire tag => exact execTagQuarantineExpire_keeps tag hK
  | unexpectedCompletion t tag => exact execUnexpectedCompletion_keeps t tag hK
  | farReadCompletion tag data poison => exact execFarReadCompletion_keeps tag data poison hK
  | farDmaErrorCompletion tag => exact execFarDmaErrorCompletion_keeps tag hK
  | hostMemRead p ld hpa mv md => exact execHostMemRead_keeps p ld hpa mv md hK
  | hostMemWrite p ld hpa mv data be poison => exact execHostMemWrite_keeps p ld hpa mv data be poison hK
  | hostMemInv p ld hpa mv => exact execHostMemInv_keeps p ld hpa mv hK
  | headgateAdmit t => exact execHeadgateAdmit_keeps t hK
  | arbiterServe a arrive => exact execArbiterServe_keeps a arrive hK
  | bridgeFlitReplay src => exact execBridgeFlitReplay_keeps src hK
  | bridgeLaneRetire src => exact execBridgeLaneRetire_keeps src hK
  | bridgeRetrainDone => exact execBridgeRetrainDone_keeps hK
  | bridgeDown => exact execBridgeDown_keeps hK
  | bridgeUp => exact execBridgeUp_keeps hK
  | writeCompressorClose p => exact execWriteCompressorClose_keeps p hK
  | tierReadReturn id md => exact execTierReadReturn_keeps id md hK
  | tierReadTimeout id => exact execTierReadTimeout_keeps id hK
  | tierReadLateReturn id => exact execTierReadLateReturn_keeps id hK
  | wttDataWrite v => exact execWttDataWrite_keeps v hK
  | wttCommit t => exact execWttCommit_keeps t hK
  | wttGroupCommit => exact execWttGroupCommit_keeps hK
  | wttCopy t => exact execWttCopy_keeps t hK
  | wttCommitReserved t => exact execWttCommitReserved_keeps t hK
  | wttFlip => exact execWttFlip_keeps hK
  | oldDone t => exact execOldDone_keeps t hK
  | tirAssign => exact execTirAssign_keeps hK
  | tirRelease => exact execTirRelease_keeps hK
  | tirAsgnReserved => exact execTirAsgnReserved_keeps hK
  | tirRemoveClaims t => exact execTirRemoveClaims_keeps t hK
  | plotQuery hi => exact execPlotQuery_keeps hi hK
  | tirClsWrite v => exact execTirClsWrite_keeps v hK
  | ageClockTick => exact execAgeClockTick_keeps hK
  | decayBoundary => exact execDecayBoundary_keeps hK
  | ageSweep h => exact execAgeSweep_keeps h hK
  | coldClassify h => exact execColdClassify_keeps h hK
  | claimRetry h => exact execClaimRetry_keeps h hK
  | claimWaitExpire id => exact execClaimWaitExpire_keeps id hK
  | moveBlockDone plot bad => exact execMoveBlockDone_keeps plot bad hK
  | farEnable t => exact execFarEnable_keeps t hK
  | farDisable t => exact execFarDisable_keeps t hK
  | farRevoke t => exact execFarRevoke_keeps t hK
  | almMark t mark => exact execAlmMark_keeps t mark hK
  | cursorUpdate => exact execCursorUpdate_keeps hK
  | almanacAction => exact execAlmanacAction_keeps hK
  | almanacLoadCommit cal => exact execAlmanacLoadCommit_keeps cal hK
  | almBind cal cursor t src => exact execAlmBind_keeps cal cursor t src hK
  | almUnbind cal cursor => exact execAlmUnbind_keeps cal cursor hK
  | almClearPosition cal cursor => exact execAlmClearPosition_keeps cal cursor hK
  | almReclaimUnload cal => exact execAlmReclaimUnload_keeps cal hK
  | almNewOwner cal t src => exact execAlmNewOwner_keeps cal t src hK
  | tableGenerationRetire slot => exact execTableGenerationRetire_keeps slot hK
  | cmpTableUnload => exact execCmpTableUnload_keeps hK
  | cmpTableOwner t => exact execCmpTableOwner_keeps t hK
  | cmpTcmdReserved => exact execCmpTcmdReserved_keeps hK
  | scaleWindowEnable n v => exact execScaleWindowEnable_keeps n v hK
  | doorbellLineWrite t data be poison => exact execDoorbellLineWrite_keeps t data be poison hK
  | doorbellLineRead t => exact execDoorbellLineRead_keeps t hK
  | mmioDoorbell t v => exact execMmioDoorbell_keeps t v hK
  | ringEnable t r v => exact execRingEnable_keeps t r v hK
  | ringDisable t r v => exact execRingDisable_keeps t r v hK
  | ringRestart t r => exact execRingRestart_keeps t r hK
  | ringFetch t => exact execRingFetch_keeps t hK
  | descriptorFetchCompletion tag c => exact execDescriptorFetchCompletion_keeps tag c hK
  | descriptorTake t r => exact execDescriptorTake_keeps t r hK
  | operationComplete op => exact execOperationComplete_keeps op hK
  | interruptCoalesceExpire t => exact execInterruptCoalesceExpire_keeps t hK
  | cqEnable t v => exact execCqEnable_keeps t v hK
  | cqDisable t v => exact execCqDisable_keeps t v hK
  | cqHeadWrite t v => exact execCqHeadWrite_keeps t v hK
  | fill op => exact execFill_keeps op hK
  | copy op => exact execCopy_keeps op hK
  | copyConvert op => exact execCopyConvert_keeps op hK
  | imageInstall op => exact execImageInstall_keeps op hK
  | compare op => exact execCompare_keeps op hK
  | reduce op => exact execReduce_keeps op hK
  | embedGather op => exact execEmbedGather_keeps op hK
  | expert op => exact execExpert_keeps op hK
  | runProgram op => exact execRunProgram_keeps op hK
  | quant op => exact execQuant_keeps op hK
  | gateact op => exact execGateact_keeps op hK
  | promote op => exact execPromote_keeps op hK
  | demote op => exact execDemote_keeps op hK
  | pin op => exact execPin_keeps op hK
  | unpin op => exact execUnpin_keeps op hK
  | publish op => exact execPublish_keeps op hK
  | acquire op => exact execAcquire_keeps op hK
  | release op => exact execRelease_keeps op hK
  | tableLoad op => exact execTableLoad_keeps op hK
  | programLoad op => exact execProgramLoad_keeps op hK
  | almanacLoad op => exact execAlmanacLoad_keeps op hK
  | mark op => exact execMark_keeps op hK
  | fence op => exact execFence_keeps op hK
  | stagingFillDone fe plot block => exact execStagingFillDone_keeps fe plot block hK
  | tileStart fe => exact (execTileStart_keeps fe hK : Answers _ (execTileStart fe s))
  | tileEnd fe dup => exact execTileEnd_keeps fe dup hK
  | engineFence fe c => exact execEngineFence_keeps fe c hK
  | engineFenced fe => exact execEngineFenced_keeps fe hK
  | engineBist fe => exact execEngineBist_keeps fe hK
  | engineBistDone fe pass => exact execEngineBistDone_keeps fe pass hK
  | engineReturn fe => exact execEngineReturn_keeps fe hK
  | fieldTestStart u => exact execFieldTestStart_keeps u hK
  | fieldTestDone u pass => exact execFieldTestDone_keeps u pass hK
  | grainCreate job => exact execGrainCreate_keeps job hK
  | grainDispatch core => exact execGrainDispatch_keeps core hK
  | grainForcedYield g => exact execGrainForcedYield_keeps g hK
  | grainWake g => exact execGrainWake_keeps g hK
  | grainLimitExceeded g => exact execGrainLimitExceeded_keeps g hK
  | spnAlu g => exact execSpnAlu_keeps g hK
  | spnAluImm g => exact execSpnAluImm_keeps g hK
  | spnLoadUpper g => exact execSpnLoadUpper_keeps g hK
  | spnLoad g => exact execSpnLoad_keeps g hK
  | spnStore g => exact execSpnStore_keeps g hK
  | spnBranch g => exact execSpnBranch_keeps g hK
  | spnJump g => exact execSpnJump_keeps g hK
  | spnJumpReg g => exact execSpnJumpReg_keeps g hK
  | spnAtomic g => exact execSpnAtomic_keeps g hK
  | spnYield g => exact execSpnYield_keeps g hK
  | spnFence g => exact execSpnFence_keeps g hK
  | spnExit g => exact execSpnExit_keeps g hK
  | spnTrap g => exact execSpnTrap_keeps g hK
  | spnGets g => exact execSpnGets_keeps g hK
  | spnWait g => exact execSpnWait_keeps g hK
  | spnSignal g => exact execSpnSignal_keeps g hK
  | spnMark g => exact execSpnMark_keeps g hK
  | spnVectorInt g => exact execSpnVectorInt_keeps g hK
  | spnVectorFp g => exact execSpnVectorFp_keeps g hK
  | spnReduce g => exact execSpnReduce_keeps g hK
  | spnVectorLoad g => exact execSpnVectorLoad_keeps g hK
  | spnVectorStore g => exact execSpnVectorStore_keeps g hK
  | spnGather g => exact execSpnGather_keeps g hK
  | spnScatter g => exact execSpnScatter_keeps g hK
  | spnVcvt g => exact execSpnVcvt_keeps g hK
  | spnVmxq g => exact execSpnVmxq_keeps g hK
  | spnCrc g => exact execSpnCrc_keeps g hK
  | spnCrcv g => exact execSpnCrcv_keeps g hK
  | coreFence tc c => exact execCoreFence_keeps tc c hK
  | coreFenced tc => exact execCoreFenced_keeps tc hK
  | coreBist tc => exact execCoreBist_keeps tc hK
  | coreBistDone tc pass => exact execCoreBistDone_keeps tc pass hK
  | coreReturn tc => exact execCoreReturn_keeps tc hK
  | programOldDiscard slot => exact execProgramOldDiscard_keeps slot hK
  | programSlotUnload => exact execProgramSlotUnload_keeps hK
  | programSlotOwner t => exact execProgramSlotOwner_keeps t hK
  | tndPcmdReserved => exact execTndPcmdReserved_keeps hK
  | regionEnable v => exact execRegionEnable_keeps v hK
  | regionDisable => exact execRegionDisable_keeps hK
  | snoopResponse id rsp => exact execSnoopResponse_keeps id rsp hK
  | biconflict t line => exact execBiconflict_keeps t line hK
  | snoopTimeout id => exact execSnoopTimeout_keeps id hK
  | directoryWaitResume h => exact execDirectoryWaitResume_keeps h hK
  | backInvalidateDone walk => exact execBackInvalidateDone_keeps walk hK
  | shrFailTenant t => exact execShrFailTenant_keeps t hK
  | failureSweepEnd t => exact execFailureSweepEnd_keeps t hK
  | releaseRegionOrphans r => exact execReleaseRegionOrphans_keeps r hK
  | releaseTenantOrphans t => exact execReleaseTenantOrphans_keeps t hK
  | releaseCapacity r t => exact execReleaseCapacity_keeps r t hK
  | releaseDynamicCapacity t dpa => exact execReleaseDynamicCapacity_keeps t dpa hK
  | addDynamicCapacityResponse t => exact execAddDynamicCapacityResponse_keeps t hK
  | weirWindowBoundary t => exact execWeirWindowBoundary_keeps t hK
  | weirConfigWrite t budget v => exact execWeirConfigWrite_keeps t budget v hK
  | urgencyPinSettle p level => exact execUrgencyPinSettle_keeps p level hK
  | uibWrite t v => exact execUibWrite_keeps t v hK
  | uibHoldExpire t => exact execUibHoldExpire_keeps t hK
  | writeQueueServe ch => exact execWriteQueueServe_keeps ch hK
  | rowIdleClose ch bank => exact execRowIdleClose_keeps ch bank hK
  | refreshDue ch bank => exact execRefreshDue_keeps ch bank hK
  | temperaturePoll ch rate => exact execTemperaturePoll_keeps ch rate hK
  | refreshRateChange ch rate => exact execRefreshRateChange_keeps ch rate hK
  | retrainPauseDue ch => exact execRetrainPauseDue_keeps ch hK
  | retrainPauseEnd ch ok => exact execRetrainPauseEnd_keeps ch ok hK
  | evacuate rank => exact execEvacuate_keeps rank hK
  | evacuateCancel rank => exact execEvacuateCancel_keeps rank hK
  | evacuateAutoTrigger rank => exact execEvacuateAutoTrigger_keeps rank hK
  | evacuateCopyDone rank => exact execEvacuateCopyDone_keeps rank hK
  | switchoverEnd rank => exact execSwitchoverEnd_keeps rank hK
  | spillDone rank => exact execSpillDone_keeps rank hK
  | spillResume h => exact execSpillResume_keeps h hK
  | scriptAbort ch => exact execScriptAbort_keeps ch hK
  | scriptSetCommit near ver => exact execScriptSetCommit_keeps near ver hK
  | bankGiveStage b fe => exact execBankGiveStage_keeps b fe hK
  | bankReturnPool b => exact execBankReturnPool_keeps b hK
  | bankRetire b => exact execBankRetire_keeps b hK
  | bankPowerOn b => exact execBankPowerOn_keeps b hK
  | bankRetention b => exact execBankRetention_keeps b hK
  | bankFallow b => exact execBankFallow_keeps b hK
  | handoverComplete b => exact execHandoverComplete_keeps b hK
  | zeroFillDone b => exact execZeroFillDone_keeps b hK
  | bankWakeDone b => exact execBankWakeDone_keeps b hK
  | bankAllot job => exact execBankAllot_keeps job hK
  | bankIdleRetention b => exact execBankIdleRetention_keeps b hK
  | bankIdleFallow b => exact execBankIdleFallow_keeps b hK
  | portStarveOverride b port1 => exact execPortStarveOverride_keeps b port1 hK
  | marchDestructive first count bg => exact execMarchDestructive_keeps first count bg hK
  | marchPreserving first count => exact execMarchPreserving_keeps first count hK
  | marchAbort h => exact execMarchAbort_keeps h hK
  | marchDone h failed fail0 fail1 => exact execMarchDone_keeps h failed fail0 fail1 hK
  | scrubRead tier unit loc md => exact execScrubRead_keeps tier unit loc md hK
  | lapEnd tier h ms => exact execLapEnd_keeps tier h ms hK
  | lapOverdue tier h ms => exact execLapOverdue_keeps tier h ms hK
  | retireNearSlot => exact execRetireNearSlot_keeps hK
  | retireBulkUnit h => exact execRetireBulkUnit_keeps h hK
  | addRetirementEntry kind h => exact execAddRetirementEntry_keeps kind h hK
  | emptyRetirementEntry => exact execEmptyRetirementEntry_keeps hK
  | relocationDone => exact execRelocationDone_keeps hK
  | relocationWaitExpire => exact execRelocationWaitExpire_keeps hK
  | flashWriteDone => exact execFlashWriteDone_keeps hK
  | maintGrantRequest code scope unit => exact execMaintGrantRequest_keeps code scope unit hK
  | maintPark id => exact execMaintPark_keeps id hK
  | maintResume id => exact execMaintResume_keeps id hK
  | longDeferral id => exact execLongDeferral_keeps id hK
  | raiseMinsvn => exact execRaiseMinsvn_keeps hK
  | revokeKey k => exact execRevokeKey_keeps k hK
  | fuseWriteDone => exact execFuseWriteDone_keeps hK
  | kcmdKeygen slot => exact execKcmdKeygen_keeps slot hK
  | kcmdZeroise slot => exact execKcmdZeroise_keeps slot hK
  | kcmdZeroiseAll => exact execKcmdZeroiseAll_keeps hK
  | zeroiseDone slot => exact execZeroiseDone_keeps slot hK
  | bindWrite e session eid => exact execBindWrite_keeps e session eid hK
  | getVersion e => exact execGetVersion_keeps e hK
  | getCapabilities e => exact execGetCapabilities_keeps e hK
  | negotiateAlgorithms e => exact execNegotiateAlgorithms_keeps e hK
  | getDigests e => exact execGetDigests_keeps e hK
  | getCertificate e slot => exact execGetCertificate_keeps e slot hK
  | challenge e nonce => exact execChallenge_keeps e nonce hK
  | getMeasurements e index signed => exact execGetMeasurements_keeps e index signed hK
  | keyExchange e => exact execKeyExchange_keeps e hK
  | finish e session => exact execFinish_keeps e session hK
  | endSession e session => exact execEndSession_keeps e session hK
  | heartbeat e session => exact execHeartbeat_keeps e session hK
  | keyUpdate e session => exact execKeyUpdate_keeps e session hK
  | spdmLoad e session slot rsvd k1 k2 => exact execSpdmLoad_keeps e session slot rsvd k1 k2 hK
  | spdmKeygen e session slot rsvd => exact execSpdmKeygen_keeps e session slot rsvd hK
  | spdmZeroise e session slot rsvd => exact execSpdmZeroise_keeps e session slot rsvd hK
  | spdmZeroiseAll e session rsvd => exact execSpdmZeroiseAll_keeps e session rsvd hK
  | debugUnlock e session token => exact execDebugUnlock_keeps e session token hK
  | keyProg p session keySet => exact execKeyProg_keeps p session keySet hK
  | kSetGo p session keySet => exact execKSetGo_keeps p session keySet hK
  | kSetStop p session keySet => exact execKSetStop_keeps p session keySet hK
  | ideIntegrityFail p => exact execIdeIntegrityFail_keeps p hK
  | updateBegin => exact execUpdateBegin_keeps hK
  | updateChunk c => exact execUpdateChunk_keeps c hK
  | updateVerify => exact execUpdateVerify_keeps hK
  | updateCommit => exact execUpdateCommit_keeps hK
  | updateAbandon => exact execUpdateAbandon_keeps hK
  | updateCommitDone => exact execUpdateCommitDone_keeps hK
  | bistFe n => exact execBistFe_keeps n hK
  | bistTc n => exact execBistTc_keeps n hK
  | bistRank n => exact execBistRank_keeps n hK
  | bistPort n => exact execBistPort_keeps n hK
  | bistDone sig expected => exact execBistDone_keeps sig expected hK
  | governorPlan pin pavg => exact execGovernorPlan_keeps pin pavg hK
  | sensorSample temps => exact execSensorSample_keeps temps hK
  | thermalCapStep => exact execThermalCapStep_keeps hK
  | thermalTrip => exact execThermalTrip_keeps hK
  | tripRelease => exact execTripRelease_keeps hK
  | standbyEnter => exact execStandbyEnter_keeps hK
  | standbyExit cause => exact execStandbyExit_keeps cause hK
  | watchdogExpire h => exact execWatchdogExpire_keeps h hK
  | tokenReceived h => exact execTokenReceived_keeps h hK
  | tokenLinkTimeout h => exact execTokenLinkTimeout_keeps h hK
  | tokenLinkReturn => exact execTokenLinkReturn_keeps hK
  | coreRestartDone h => exact execCoreRestartDone_keeps h hK
  | stewardRegisterAccess e session off write count data => exact execStewardRegisterAccess_keeps e session off write count data hK
  | mctpControl e setEid => exact execMctpControl_keeps e setEid hK
  | identify e => exact execIdentify_keeps e hK
  | backgroundOperationStatus e => exact execBackgroundOperationStatus_keeps e hK
  | getResponseMessageLimit e => exact execGetResponseMessageLimit_keeps e hK
  | setResponseMessageLimit e v => exact execSetResponseMessageLimit_keeps e v hK
  | getEventRecords e log => exact execGetEventRecords_keeps e log hK
  | clearEventRecords e log count => exact execClearEventRecords_keeps e log count hK
  | getEventInterruptPolicy e => exact execGetEventInterruptPolicy_keeps e hK
  | setEventInterruptPolicy e v => exact execSetEventInterruptPolicy_keeps e v hK
  | getTimestamp e => exact execGetTimestamp_keeps e hK
  | setTimestamp e v => exact execSetTimestamp_keeps e v hK
  | getSupportedLogs e => exact execGetSupportedLogs_keeps e hK
  | getLog e off len => exact execGetLog_keeps e off len hK
  | tunnelManagement e ld opcode => exact execTunnelManagement_keeps e ld opcode hK
  | sendLdConfigurationRequest e ld write reg v => exact execSendLdConfigurationRequest_keeps e ld write reg v hK
  | sendLdMemoryRequest e ld write off v => exact execSendLdMemoryRequest_keeps e ld write off v hK
  | getLdInfo e => exact execGetLdInfo_keeps e hK
  | getLdAllocations e => exact execGetLdAllocations_keeps e hK
  | getMultiHeadedInfo e => exact execGetMultiHeadedInfo_keeps e hK
  | getHeadInfo e p => exact execGetHeadInfo_keeps e p hK
  | getDcdInfo e => exact execGetDcdInfo_keeps e hK
  | getHostDcRegionConfiguration e ld => exact execGetHostDcRegionConfiguration_keeps e ld hK
  | getDcRegionExtentLists e ld => exact execGetDcRegionExtentLists_keeps e ld hK
  | getDynamicCapacityConfiguration t => exact execGetDynamicCapacityConfiguration_keeps t hK
  | getDynamicCapacityExtentList t => exact execGetDynamicCapacityExtentList_keeps t hK
  | identifyMemoryDevice t => exact execIdentifyMemoryDevice_keeps t hK
  | getHealthInfo t => exact execGetHealthInfo_keeps t hK
  | unsupportedCommand e opcode => exact execUnsupportedCommand_keeps e opcode hK
  | railOutOfLimits => exact execRailOutOfLimits_keeps hK
  | meshLinkFailure h => exact execMeshLinkFailure_keeps h hK
  | channelLost ch => exact execChannelLost_keeps ch hK
  | i3cDynamicAddressAssignment addr => exact execI3cDynamicAddressAssignment_keeps addr hK

end Sys2Proof.Machine
end

