-- ==== Sys2Proof/Laws/Only.lean ====
section
/-! SUPPORT. Frames over the fields of the state: Only m s t says that t differs from s in no field outside the set m, a
number whose bit i stands for field i of State. -/

namespace Sys2Proof.Machine

structure Only (m : Nat) (s t : State) : Prop where
  clk : m.testBit 0 = false → t.clk = s.clk
  pins : m.testBit 1 = false → t.pins = s.pins
  fuse : m.testBit 2 = false → t.fuse = s.fuse
  flash : m.testBit 3 = false → t.flash = s.flash
  reg : m.testBit 4 = false → t.reg = s.reg
  north : m.testBit 5 = false → t.north = s.north
  south : m.testBit 6 = false → t.south = s.south
  bridge : m.testBit 7 = false → t.bridge = s.bridge
  ports : m.testBit 8 = false → t.ports = s.ports
  lds : m.testBit 9 = false → t.lds = s.lds
  tags : m.testBit 10 = false → t.tags = s.tags
  quarantine : m.testBit 11 = false → t.quarantine = s.quarantine
  wtt : m.testBit 12 = false → t.wtt = s.wtt
  wttData : m.testBit 13 = false → t.wttData = s.wttData
  flip : m.testBit 14 = false → t.flip = s.flip
  tier : m.testBit 15 = false → t.tier = s.tier
  alm : m.testBit 16 = false → t.alm = s.alm
  cmp : m.testBit 17 = false → t.cmp = s.cmp
  rings : m.testBit 18 = false → t.rings = s.rings
  eng : m.testBit 19 = false → t.eng = s.eng
  ops : m.testBit 20 = false → t.ops = s.ops
  nextOp : m.testBit 21 = false → t.nextOp = s.nextOp
  jobs : m.testBit 22 = false → t.jobs = s.jobs
  grains : m.testBit 23 = false → t.grains = s.grains
  nextGrain : m.testBit 24 = false → t.nextGrain = s.nextGrain
  pslots : m.testBit 25 = false → t.pslots = s.pslots
  fes : m.testBit 26 = false → t.fes = s.fes
  tcs : m.testBit 27 = false → t.tcs = s.tcs
  xjobs : m.testBit 28 = false → t.xjobs = s.xjobs
  dups : m.testBit 29 = false → t.dups = s.dups
  shr : m.testBit 30 = false → t.shr = s.shr
  hg : m.testBit 31 = false → t.hg = s.hg
  nextReq : m.testBit 32 = false → t.nextReq = s.nextReq
  arb : m.testBit 33 = false → t.arb = s.arb
  dmc : m.testBit 34 = false → t.dmc = s.dmc
  cst : m.testBit 35 = false → t.cst = s.cst
  ras : m.testBit 36 = false → t.ras = s.ras
  sec : m.testBit 37 = false → t.sec = s.sec
  upd : m.testBit 38 = false → t.upd = s.upd
  pwm : m.testBit 39 = false → t.pwm = s.pwm
  mgmt : m.testBit 40 = false → t.mgmt = s.mgmt
  out : m.testBit 41 = false → t.out = s.out
  acc : m.testBit 42 = false → t.acc = s.acc
  freeCtr : m.testBit 43 = false → t.freeCtr = s.freeCtr
  pending : m.testBit 44 = false → t.pending = s.pending

/-- States that agree in every field are one. -/
theorem State.same {s t : State} (clk : t.clk = s.clk) (pins : t.pins = s.pins) (fuse : t.fuse = s.fuse) (flash : t.flash = s.flash)
    (reg : t.reg = s.reg) (north : t.north = s.north) (south : t.south = s.south) (bridge : t.bridge = s.bridge)
    (ports : t.ports = s.ports) (lds : t.lds = s.lds) (tags : t.tags = s.tags)
    (quarantine : t.quarantine = s.quarantine) (wtt : t.wtt = s.wtt) (wttData : t.wttData = s.wttData)
    (flip : t.flip = s.flip) (tier : t.tier = s.tier) (alm : t.alm = s.alm) (cmp : t.cmp = s.cmp)
    (rings : t.rings = s.rings) (eng : t.eng = s.eng) (ops : t.ops = s.ops) (nextOp : t.nextOp = s.nextOp)
    (jobs : t.jobs = s.jobs) (grains : t.grains = s.grains) (nextGrain : t.nextGrain = s.nextGrain)
    (pslots : t.pslots = s.pslots) (fes : t.fes = s.fes) (tcs : t.tcs = s.tcs) (xjobs : t.xjobs = s.xjobs)
    (dups : t.dups = s.dups) (shr : t.shr = s.shr) (hg : t.hg = s.hg) (nextReq : t.nextReq = s.nextReq)
    (arb : t.arb = s.arb) (dmc : t.dmc = s.dmc) (cst : t.cst = s.cst) (ras : t.ras = s.ras) (sec : t.sec = s.sec)
    (upd : t.upd = s.upd) (pwm : t.pwm = s.pwm) (mgmt : t.mgmt = s.mgmt) (out : t.out = s.out)
    (acc : t.acc = s.acc) (freeCtr : t.freeCtr = s.freeCtr) (pending : t.pending = s.pending) : t = s := by
  cases s
  cases t
  simp_all

/-- Every field of a is one of b. -/
def Inside (a b : Nat) : Prop := ∀ i, a.testBit i = true → b.testBit i = true

theorem Inside.refl (a : Nat) : Inside a a := fun _ h => h

theorem Inside.of_and {a b : Nat} (h : a &&& b = a) : Inside a b := by
  intro i hi
  rw [← h, Nat.testBit_and] at hi
  simp_all

theorem Inside.sub {a b m : Nat} (h : Inside b m) (g : a &&& b = a) : Inside a m := fun i hi => h i (Inside.of_and g i hi)

theorem Inside.bit {a m i : Nat} (h : Inside a m) (g : a.testBit i = true) : m.testBit i = true := h i g

/-- s with the fields of the set m as t has them. -/
def State.fill (m : Nat) (s t : State) : State :=
  { clk := bif m.testBit 0 then t.clk else s.clk
    pins := bif m.testBit 1 then t.pins else s.pins
    fuse := bif m.testBit 2 then t.fuse else s.fuse
    flash := bif m.testBit 3 then t.flash else s.flash
    reg := bif m.testBit 4 then t.reg else s.reg
    north := bif m.testBit 5 then t.north else s.north
    south := bif m.testBit 6 then t.south else s.south
    bridge := bif m.testBit 7 then t.bridge else s.bridge
    ports := bif m.testBit 8 then t.ports else s.ports
    lds := bif m.testBit 9 then t.lds else s.lds
    tags := bif m.testBit 10 then t.tags else s.tags
    quarantine := bif m.testBit 11 then t.quarantine else s.quarantine
    wtt := bif m.testBit 12 then t.wtt else s.wtt
    wttData := bif m.testBit 13 then t.wttData else s.wttData
    flip := bif m.testBit 14 then t.flip else s.flip
    tier := bif m.testBit 15 then t.tier else s.tier
    alm := bif m.testBit 16 then t.alm else s.alm
    cmp := bif m.testBit 17 then t.cmp else s.cmp
    rings := bif m.testBit 18 then t.rings else s.rings
    eng := bif m.testBit 19 then t.eng else s.eng
    ops := bif m.testBit 20 then t.ops else s.ops
    nextOp := bif m.testBit 21 then t.nextOp else s.nextOp
    jobs := bif m.testBit 22 then t.jobs else s.jobs
    grains := bif m.testBit 23 then t.grains else s.grains
    nextGrain := bif m.testBit 24 then t.nextGrain else s.nextGrain
    pslots := bif m.testBit 25 then t.pslots else s.pslots
    fes := bif m.testBit 26 then t.fes else s.fes
    tcs := bif m.testBit 27 then t.tcs else s.tcs
    xjobs := bif m.testBit 28 then t.xjobs else s.xjobs
    dups := bif m.testBit 29 then t.dups else s.dups
    shr := bif m.testBit 30 then t.shr else s.shr
    hg := bif m.testBit 31 then t.hg else s.hg
    nextReq := bif m.testBit 32 then t.nextReq else s.nextReq
    arb := bif m.testBit 33 then t.arb else s.arb
    dmc := bif m.testBit 34 then t.dmc else s.dmc
    cst := bif m.testBit 35 then t.cst else s.cst
    ras := bif m.testBit 36 then t.ras else s.ras
    sec := bif m.testBit 37 then t.sec else s.sec
    upd := bif m.testBit 38 then t.upd else s.upd
    pwm := bif m.testBit 39 then t.pwm else s.pwm
    mgmt := bif m.testBit 40 then t.mgmt else s.mgmt
    out := bif m.testBit 41 then t.out else s.out
    acc := bif m.testBit 42 then t.acc else s.acc
    freeCtr := bif m.testBit 43 then t.freeCtr else s.freeCtr
    pending := bif m.testBit 44 then t.pending else s.pending }

theorem Only.pick {α : Type} {b : Bool} {x y : α} (h : b = false → y = x) : y = bif b then y else x := by
  cases b with
  | true => rfl
  | false => exact h rfl

theorem Only.eq {m : Nat} {s t : State} (h : Only m s t) : t = s.fill m t :=
    State.same (pick h.clk) (pick h.pins) (pick h.fuse) (pick h.flash) (pick h.reg) (pick h.north) (pick h.south)
    (pick h.bridge) (pick h.ports) (pick h.lds) (pick h.tags) (pick h.quarantine) (pick h.wtt) (pick h.wttData)
    (pick h.flip) (pick h.tier) (pick h.alm) (pick h.cmp) (pick h.rings) (pick h.eng) (pick h.ops) (pick h.nextOp)
    (pick h.jobs) (pick h.grains) (pick h.nextGrain) (pick h.pslots) (pick h.fes) (pick h.tcs) (pick h.xjobs)
    (pick h.dups) (pick h.shr) (pick h.hg) (pick h.nextReq) (pick h.arb) (pick h.dmc) (pick h.cst) (pick h.ras)
    (pick h.sec) (pick h.upd) (pick h.pwm) (pick h.mgmt) (pick h.out) (pick h.acc) (pick h.freeCtr) (pick h.pending)

theorem Only.refl (m : Nat) (s : State) : Only m s s := by constructor <;> exact fun _ => rfl

theorem Only.ite {m : Nat} {s t u : State} {c : Prop} [Decidable c] (h : Only m s t) (g : Only m s u) : Only m s (if c then t else u) := by
  split <;> assumption

theorem Only.forAll {α : Type} {m : Nat} {s : State} {f : α → State → State} (hf : ∀ a t, Only m s t → Only m s (f a t)) (l : List α) :
    ∀ {t : State}, Only m s t → Only m s (forAll l f t) := by
  induction l with
  | nil => intro t h; exact h
  | cons a r ih => intro t h; exact ih (hf a t h)

theorem Only.fold2 {α β : Type} {m : Nat} {s : State} {f : α × State → β → α × State} (hf : ∀ a b, Only m s a.2 → Only m s (f a b).2)
    (l : List β) : ∀ {a : α × State}, Only m s a.2 → Only m s (l.foldl f a).2 := by
  induction l with
  | nil => intro a h; exact h
  | cons b r ih => intro a h; exact ih (hf a b h)

theorem Only.snd {α : Type} {m : Nat} {s t : State} {p : α × State} {a : α} (e : p = (a, t)) (h : Only m s p.2) : Only m s t := by
  rw [e] at h
  exact h

theorem Only.snd2 {α β : Type} {m : Nat} {s t : State} {p : α × β × State} {a : α} {b : β} (e : p = (a, b, t)) (h : Only m s p.2.2) :
    Only m s t := by
  rw [e] at h
  exact h

section
variable {m : Nat} {s0 t : State}

theorem Only.set_clk {v : Clk} (a : m.testBit 0 = true) (h : Only m s0 t) :
    Only m s0 { t with clk := v } :=
  { h with clk := fun e => absurd (a.symm.trans e) Bool.noConfusion }
theorem Only.set_pins {v : Pins} (a : m.testBit 1 = true) (h : Only m s0 t) :
    Only m s0 { t with pins := v } :=
  { h with pins := fun e => absurd (a.symm.trans e) Bool.noConfusion }
theorem Only.set_fuse {v : Fuses} (a : m.testBit 2 = true) (h : Only m s0 t) :
    Only m s0 { t with fuse := v } :=
  { h with fuse := fun e => absurd (a.symm.trans e) Bool.noConfusion }
theorem Only.set_flash {v : Flash} (a : m.testBit 3 = true) (h : Only m s0 t) :
    Only m s0 { t with flash := v } :=
  { h with flash := fun e => absurd (a.symm.trans e) Bool.noConfusion }
theorem Only.set_reg {v : Regs} (a : m.testBit 4 = true) (h : Only m s0 t) :
    Only m s0 { t with reg := v } :=
  { h with reg := fun e => absurd (a.symm.trans e) Bool.noConfusion }
theorem Only.set_north {v : HalfSt} (a : m.testBit 5 = true) (h : Only m s0 t) :
    Only m s0 { t with north := v } :=
  { h with north := fun e => absurd (a.symm.trans e) Bool.noConfusion }
theorem Only.set_south {v : HalfSt} (a : m.testBit 6 = true) (h : Only m s0 t) :
    Only m s0 { t with south := v } :=
  { h with south := fun e => absurd (a.symm.trans e) Bool.noConfusion }
theorem Only.set_bridge {v : Bridge} (a : m.testBit 7 = true) (h : Only m s0 t) :
    Only m s0 { t with bridge := v } :=
  { h with bridge := fun e => absurd (a.symm.trans e) Bool.noConfusion }
theorem Only.set_ports {v : Tab Port} (a : m.testBit 8 = true) (h : Only m s0 t) :
    Only m s0 { t with ports := v } :=
  { h with ports := fun e => absurd (a.symm.trans e) Bool.noConfusion }
theorem Only.set_lds {v : Tab Ld} (a : m.testBit 9 = true) (h : Only m s0 t) :
    Only m s0 { t with lds := v } :=
  { h with lds := fun e => absurd (a.symm.trans e) Bool.noConfusion }
theorem Only.set_tags {v : List Tag} (a : m.testBit 10 = true) (h : Only m s0 t) :
    Only m s0 { t with tags := v } :=
  { h with tags := fun e => absurd (a.symm.trans e) Bool.noConfusion }
theorem Only.set_quarantine {v : List Tag} (a : m.testBit 11 = true) (h : Only m s0 t) :
    Only m s0 { t with quarantine := v } :=
  { h with quarantine := fun e => absurd (a.symm.trans e) Bool.noConfusion }
theorem Only.set_wtt {v : Tab Wtt} (a : m.testBit 12 = true) (h : Only m s0 t) :
    Only m s0 { t with wtt := v } :=
  { h with wtt := fun e => absurd (a.symm.trans e) Bool.noConfusion }
theorem Only.set_wttData {v : Tab W32} (a : m.testBit 13 = true) (h : Only m s0 t) :
    Only m s0 { t with wttData := v } :=
  { h with wttData := fun e => absurd (a.symm.trans e) Bool.noConfusion }
theorem Only.set_flip {v : List NSet} (a : m.testBit 14 = true) (h : Only m s0 t) :
    Only m s0 { t with flip := v } :=
  { h with flip := fun e => absurd (a.symm.trans e) Bool.noConfusion }
theorem Only.set_tier {v : Tier} (a : m.testBit 15 = true) (h : Only m s0 t) :
    Only m s0 { t with tier := v } :=
  { h with tier := fun e => absurd (a.symm.trans e) Bool.noConfusion }
theorem Only.set_alm {v : Alm} (a : m.testBit 16 = true) (h : Only m s0 t) :
    Only m s0 { t with alm := v } :=
  { h with alm := fun e => absurd (a.symm.trans e) Bool.noConfusion }
theorem Only.set_cmp {v : Cmp} (a : m.testBit 17 = true) (h : Only m s0 t) :
    Only m s0 { t with cmp := v } :=
  { h with cmp := fun e => absurd (a.symm.trans e) Bool.noConfusion }
theorem Only.set_rings {v : Tab Ring} (a : m.testBit 18 = true) (h : Only m s0 t) :
    Only m s0 { t with rings := v } :=
  { h with rings := fun e => absurd (a.symm.trans e) Bool.noConfusion }
theorem Only.set_eng {v : Tab RingEng} (a : m.testBit 19 = true) (h : Only m s0 t) :
    Only m s0 { t with eng := v } :=
  { h with eng := fun e => absurd (a.symm.trans e) Bool.noConfusion }
theorem Only.set_ops {v : List Op} (a : m.testBit 20 = true) (h : Only m s0 t) :
    Only m s0 { t with ops := v } :=
  { h with ops := fun e => absurd (a.symm.trans e) Bool.noConfusion }
theorem Only.set_nextOp {v : Nat} (a : m.testBit 21 = true) (h : Only m s0 t) :
    Only m s0 { t with nextOp := v } :=
  { h with nextOp := fun e => absurd (a.symm.trans e) Bool.noConfusion }
theorem Only.set_jobs {v : List Job} (a : m.testBit 22 = true) (h : Only m s0 t) :
    Only m s0 { t with jobs := v } :=
  { h with jobs := fun e => absurd (a.symm.trans e) Bool.noConfusion }
theorem Only.set_grains {v : List Grain} (a : m.testBit 23 = true) (h : Only m s0 t) :
    Only m s0 { t with grains := v } :=
  { h with grains := fun e => absurd (a.symm.trans e) Bool.noConfusion }
theorem Only.set_nextGrain {v : Nat} (a : m.testBit 24 = true) (h : Only m s0 t) :
    Only m s0 { t with nextGrain := v } :=
  { h with nextGrain := fun e => absurd (a.symm.trans e) Bool.noConfusion }
theorem Only.set_pslots {v : Tab PSlot} (a : m.testBit 25 = true) (h : Only m s0 t) :
    Only m s0 { t with pslots := v } :=
  { h with pslots := fun e => absurd (a.symm.trans e) Bool.noConfusion }
theorem Only.set_fes {v : Tab Engine} (a : m.testBit 26 = true) (h : Only m s0 t) :
    Only m s0 { t with fes := v } :=
  { h with fes := fun e => absurd (a.symm.trans e) Bool.noConfusion }
theorem Only.set_tcs {v : Tab UnitCtl} (a : m.testBit 27 = true) (h : Only m s0 t) :
    Only m s0 { t with tcs := v } :=
  { h with tcs := fun e => absurd (a.symm.trans e) Bool.noConfusion }
theorem Only.set_xjobs {v : List XJob} (a : m.testBit 28 = true) (h : Only m s0 t) :
    Only m s0 { t with xjobs := v } :=
  { h with xjobs := fun e => absurd (a.symm.trans e) Bool.noConfusion }
theorem Only.set_dups {v : List Dup} (a : m.testBit 29 = true) (h : Only m s0 t) :
    Only m s0 { t with dups := v } :=
  { h with dups := fun e => absurd (a.symm.trans e) Bool.noConfusion }
theorem Only.set_shr {v : Shr} (a : m.testBit 30 = true) (h : Only m s0 t) :
    Only m s0 { t with shr := v } :=
  { h with shr := fun e => absurd (a.symm.trans e) Bool.noConfusion }
theorem Only.set_hg {v : Tab Hg} (a : m.testBit 31 = true) (h : Only m s0 t) :
    Only m s0 { t with hg := v } :=
  { h with hg := fun e => absurd (a.symm.trans e) Bool.noConfusion }
theorem Only.set_nextReq {v : Nat} (a : m.testBit 32 = true) (h : Only m s0 t) :
    Only m s0 { t with nextReq := v } :=
  { h with nextReq := fun e => absurd (a.symm.trans e) Bool.noConfusion }
theorem Only.set_arb {v : List (Arb × List Item)} (a : m.testBit 33 = true) (h : Only m s0 t) :
    Only m s0 { t with arb := v } :=
  { h with arb := fun e => absurd (a.symm.trans e) Bool.noConfusion }
theorem Only.set_dmc {v : Dmc} (a : m.testBit 34 = true) (h : Only m s0 t) :
    Only m s0 { t with dmc := v } :=
  { h with dmc := fun e => absurd (a.symm.trans e) Bool.noConfusion }
theorem Only.set_cst {v : Cst} (a : m.testBit 35 = true) (h : Only m s0 t) :
    Only m s0 { t with cst := v } :=
  { h with cst := fun e => absurd (a.symm.trans e) Bool.noConfusion }
theorem Only.set_ras {v : Ras} (a : m.testBit 36 = true) (h : Only m s0 t) :
    Only m s0 { t with ras := v } :=
  { h with ras := fun e => absurd (a.symm.trans e) Bool.noConfusion }
theorem Only.set_sec {v : Sec} (a : m.testBit 37 = true) (h : Only m s0 t) :
    Only m s0 { t with sec := v } :=
  { h with sec := fun e => absurd (a.symm.trans e) Bool.noConfusion }
theorem Only.set_upd {v : Upd} (a : m.testBit 38 = true) (h : Only m s0 t) :
    Only m s0 { t with upd := v } :=
  { h with upd := fun e => absurd (a.symm.trans e) Bool.noConfusion }
theorem Only.set_pwm {v : Pwm} (a : m.testBit 39 = true) (h : Only m s0 t) :
    Only m s0 { t with pwm := v } :=
  { h with pwm := fun e => absurd (a.symm.trans e) Bool.noConfusion }
theorem Only.set_mgmt {v : Mgmt} (a : m.testBit 40 = true) (h : Only m s0 t) :
    Only m s0 { t with mgmt := v } :=
  { h with mgmt := fun e => absurd (a.symm.trans e) Bool.noConfusion }
theorem Only.set_out {v : List Msg} (a : m.testBit 41 = true) (h : Only m s0 t) :
    Only m s0 { t with out := v } :=
  { h with out := fun e => absurd (a.symm.trans e) Bool.noConfusion }
theorem Only.set_acc {v : UnitAcc} (a : m.testBit 42 = true) (h : Only m s0 t) :
    Only m s0 { t with acc := v } :=
  { h with acc := fun e => absurd (a.symm.trans e) Bool.noConfusion }
theorem Only.set_freeCtr {v : Nat} (a : m.testBit 43 = true) (h : Only m s0 t) :
    Only m s0 { t with freeCtr := v } :=
  { h with freeCtr := fun e => absurd (a.symm.trans e) Bool.noConfusion }
theorem Only.set_pending {v : List Instr} (a : m.testBit 44 = true) (h : Only m s0 t) :
    Only m s0 { t with pending := v } :=
  { h with pending := fun e => absurd (a.symm.trans e) Bool.noConfusion }
theorem Only.set_ops_nextOp {v : List Op} {w : Nat} (a : m.testBit 20 = true) (b : m.testBit 21 = true) (h : Only m s0 t) :
    Only m s0 { t with ops := v, nextOp := w } :=
  { h with ops := fun e => absurd (a.symm.trans e) Bool.noConfusion,
           nextOp := fun e => absurd (b.symm.trans e) Bool.noConfusion }
theorem Only.set_tags_quarantine {v : List Tag} {w : List Tag} (a : m.testBit 10 = true) (b : m.testBit 11 = true) (h : Only m s0 t) :
    Only m s0 { t with tags := v, quarantine := w } :=
  { h with tags := fun e => absurd (a.symm.trans e) Bool.noConfusion,
           quarantine := fun e => absurd (b.symm.trans e) Bool.noConfusion }
theorem Only.set_grains_nextGrain {v : List Grain} {w : Nat} (a : m.testBit 23 = true) (b : m.testBit 24 = true) (h : Only m s0 t) :
    Only m s0 { t with grains := v, nextGrain := w } :=
  { h with grains := fun e => absurd (a.symm.trans e) Bool.noConfusion,
           nextGrain := fun e => absurd (b.symm.trans e) Bool.noConfusion }
theorem Only.set_pins_bridge {v : Pins} {w : Bridge} (a : m.testBit 1 = true) (b : m.testBit 7 = true) (h : Only m s0 t) :
    Only m s0 { t with pins := v, bridge := w } :=
  { h with pins := fun e => absurd (a.symm.trans e) Bool.noConfusion,
           bridge := fun e => absurd (b.symm.trans e) Bool.noConfusion }
theorem Only.set_tags_quarantine_bridge {v : List Tag} {w : List Tag} {x : Bridge} (a : m.testBit 10 = true) (b : m.testBit 11 = true) (c : m.testBit 7 = true) (h : Only m s0 t) :
    Only m s0 { t with tags := v, quarantine := w, bridge := x } :=
  { h with tags := fun e => absurd (a.symm.trans e) Bool.noConfusion,
           quarantine := fun e => absurd (b.symm.trans e) Bool.noConfusion,
           bridge := fun e => absurd (c.symm.trans e) Bool.noConfusion }
theorem Only.set_dups_fes_xjobs {v : List Dup} {w : Tab Engine} {x : List XJob} (a : m.testBit 29 = true) (b : m.testBit 26 = true) (c : m.testBit 28 = true) (h : Only m s0 t) :
    Only m s0 { t with dups := v, fes := w, xjobs := x } :=
  { h with dups := fun e => absurd (a.symm.trans e) Bool.noConfusion,
           fes := fun e => absurd (b.symm.trans e) Bool.noConfusion,
           xjobs := fun e => absurd (c.symm.trans e) Bool.noConfusion }
theorem Only.set_acc_bridge {v : UnitAcc} {w : Bridge} (a : m.testBit 42 = true) (b : m.testBit 7 = true) (h : Only m s0 t) :
    Only m s0 { t with acc := v, bridge := w } :=
  { h with acc := fun e => absurd (a.symm.trans e) Bool.noConfusion,
           bridge := fun e => absurd (b.symm.trans e) Bool.noConfusion }

/-- A state all of whose fields are in m. -/
theorem Only.all (h : Inside 35184372088831 m) : Only m s0 t := by
  constructor <;> exact fun e => absurd ((h _ (by decide)).symm.trans e) Bool.noConfusion

end

end Sys2Proof.Machine
end

