-- ==== Sys2Proof/Laws/OnlyBase.lean ====
section
/-! SUPPORT. The fields of the state that each operation and each row may change: shared operations, tiers, channels and stored lines. -/

namespace Sys2Proof.Machine

set_option linter.unusedTactic false
set_option linter.unreachableTactic false
set_option linter.unusedVariables false

open Host (Outcome)

/-! Machine/Ops.lean. -/

theorem State.tickFree_only {Fm : Nat} {s0 : State} {s : State} (hF : Inside 8796093022208 Fm) (hK : Only Fm s0 s) :
    Only Fm s0 (State.tickFree s) := by
  unfold State.tickFree
  with_reducible repeat' first
    | assumption | intro _ | (fail_if_no_progress refine Only.set_freeCtr (hF.bit (by decide)) ?_) | dsimp only | split
  all_goals first | exact hF.sub rfl | exact hF.bit rfl

theorem State.emit_only {Fm : Nat} {s0 : State} (m : Msg) {s : State} (hF : Inside 2199023255552 Fm) (hK : Only Fm s0 s) :
    Only Fm s0 (State.emit m s) := by
  unfold State.emit
  with_reducible repeat' first
    | assumption | intro _ | (fail_if_no_progress refine Only.set_out (hF.bit (by decide)) ?_) | dsimp only | split
  all_goals first | exact hF.sub rfl | exact hF.bit rfl

theorem State.setPort_only {Fm : Nat} {s0 : State} (p : Nat) (v : Port) {s : State} (hF : Inside 256 Fm) (hK : Only Fm s0 s) :
    Only Fm s0 (State.setPort p v s) := by
  unfold State.setPort
  with_reducible repeat' first
    | assumption | intro _ | (fail_if_no_progress refine Only.set_ports (hF.bit (by decide)) ?_) | dsimp only | split
  all_goals first | exact hF.sub rfl | exact hF.bit rfl

theorem State.modPort_only {Fm : Nat} {s0 : State} (p : Nat) (f : Port → Port) {s : State} (hF : Inside 256 Fm) (hK : Only Fm s0 s) :
    Only Fm s0 (State.modPort p f s) := by
  unfold State.modPort
  with_reducible repeat' first
    | assumption | intro _ | apply State.setPort_only | dsimp only | split
  all_goals first | exact hF.sub rfl | exact hF.bit rfl

theorem State.setLd_only {Fm : Nat} {s0 : State} (t : Nat) (v : Ld) {s : State} (hF : Inside 512 Fm) (hK : Only Fm s0 s) :
    Only Fm s0 (State.setLd t v s) := by
  unfold State.setLd
  with_reducible repeat' first
    | assumption | intro _ | (fail_if_no_progress refine Only.set_lds (hF.bit (by decide)) ?_) | dsimp only | split
  all_goals first | exact hF.sub rfl | exact hF.bit rfl

theorem State.modLd_only {Fm : Nat} {s0 : State} (t : Nat) (f : Ld → Ld) {s : State} (hF : Inside 512 Fm) (hK : Only Fm s0 s) :
    Only Fm s0 (State.modLd t f s) := by
  unfold State.modLd
  with_reducible repeat' first
    | assumption | intro _ | apply State.setLd_only | dsimp only | split
  all_goals first | exact hF.sub rfl | exact hF.bit rfl

theorem State.setWtt_only {Fm : Nat} {s0 : State} (t : Nat) (v : Wtt) {s : State} (hF : Inside 4096 Fm) (hK : Only Fm s0 s) :
    Only Fm s0 (State.setWtt t v s) := by
  unfold State.setWtt
  with_reducible repeat' first
    | assumption | intro _ | (fail_if_no_progress refine Only.set_wtt (hF.bit (by decide)) ?_) | dsimp only | split
  all_goals first | exact hF.sub rfl | exact hF.bit rfl

theorem State.modWtt_only {Fm : Nat} {s0 : State} (t : Nat) (f : Wtt → Wtt) {s : State} (hF : Inside 4096 Fm) (hK : Only Fm s0 s) :
    Only Fm s0 (State.modWtt t f s) := by
  unfold State.modWtt
  with_reducible repeat' first
    | assumption | intro _ | apply State.setWtt_only | dsimp only | split
  all_goals first | exact hF.sub rfl | exact hF.bit rfl

theorem State.setPlot_only {Fm : Nat} {s0 : State} (p : Nat) (v : Plot) {s : State} (hF : Inside 32768 Fm) (hK : Only Fm s0 s) :
    Only Fm s0 (State.setPlot p v s) := by
  unfold State.setPlot
  with_reducible repeat' first
    | assumption | intro _ | (fail_if_no_progress refine Only.set_tier (hF.bit (by decide)) ?_) | dsimp only | split
  all_goals first | exact hF.sub rfl | exact hF.bit rfl

theorem State.delPlot_only {Fm : Nat} {s0 : State} (p : Nat) {s : State} (hF : Inside 32768 Fm) (hK : Only Fm s0 s) :
    Only Fm s0 (State.delPlot p s) := by
  unfold State.delPlot
  with_reducible repeat' first
    | assumption | intro _ | (fail_if_no_progress refine Only.set_tier (hF.bit (by decide)) ?_) | dsimp only | split
  all_goals first | exact hF.sub rfl | exact hF.bit rfl

theorem State.modPlot_only {Fm : Nat} {s0 : State} (p : Nat) (f : Plot → Plot) {s : State} (hF : Inside 32768 Fm) (hK : Only Fm s0 s) :
    Only Fm s0 (State.modPlot p f s) := by
  unfold State.modPlot
  with_reducible repeat' first
    | assumption | intro _ | apply State.setPlot_only | dsimp only | split
  all_goals first | exact hF.sub rfl | exact hF.bit rfl

theorem State.modTier_only {Fm : Nat} {s0 : State} (f : Tier → Tier) {s : State} (hF : Inside 32768 Fm) (hK : Only Fm s0 s) :
    Only Fm s0 (State.modTier f s) := by
  unfold State.modTier
  with_reducible repeat' first
    | assumption | intro _ | (fail_if_no_progress refine Only.set_tier (hF.bit (by decide)) ?_) | dsimp only | split
  all_goals first | exact hF.sub rfl | exact hF.bit rfl

theorem State.modShr_only {Fm : Nat} {s0 : State} (f : Shr → Shr) {s : State} (hF : Inside 1073741824 Fm) (hK : Only Fm s0 s) :
    Only Fm s0 (State.modShr f s) := by
  unfold State.modShr
  with_reducible repeat' first
    | assumption | intro _ | (fail_if_no_progress refine Only.set_shr (hF.bit (by decide)) ?_) | dsimp only | split
  all_goals first | exact hF.sub rfl | exact hF.bit rfl

theorem State.modDmc_only {Fm : Nat} {s0 : State} (f : Dmc → Dmc) {s : State} (hF : Inside 17179869184 Fm) (hK : Only Fm s0 s) :
    Only Fm s0 (State.modDmc f s) := by
  unfold State.modDmc
  with_reducible repeat' first
    | assumption | intro _ | (fail_if_no_progress refine Only.set_dmc (hF.bit (by decide)) ?_) | dsimp only | split
  all_goals first | exact hF.sub rfl | exact hF.bit rfl

theorem State.modCst_only {Fm : Nat} {s0 : State} (f : Cst → Cst) {s : State} (hF : Inside 34359738368 Fm) (hK : Only Fm s0 s) :
    Only Fm s0 (State.modCst f s) := by
  unfold State.modCst
  with_reducible repeat' first
    | assumption | intro _ | (fail_if_no_progress refine Only.set_cst (hF.bit (by decide)) ?_) | dsimp only | split
  all_goals first | exact hF.sub rfl | exact hF.bit rfl

theorem State.modRas_only {Fm : Nat} {s0 : State} (f : Ras → Ras) {s : State} (hF : Inside 68719476736 Fm) (hK : Only Fm s0 s) :
    Only Fm s0 (State.modRas f s) := by
  unfold State.modRas
  with_reducible repeat' first
    | assumption | intro _ | (fail_if_no_progress refine Only.set_ras (hF.bit (by decide)) ?_) | dsimp only | split
  all_goals first | exact hF.sub rfl | exact hF.bit rfl

theorem State.modSec_only {Fm : Nat} {s0 : State} (f : Sec → Sec) {s : State} (hF : Inside 137438953472 Fm) (hK : Only Fm s0 s) :
    Only Fm s0 (State.modSec f s) := by
  unfold State.modSec
  with_reducible repeat' first
    | assumption | intro _ | (fail_if_no_progress refine Only.set_sec (hF.bit (by decide)) ?_) | dsimp only | split
  all_goals first | exact hF.sub rfl | exact hF.bit rfl

theorem State.modUpd_only {Fm : Nat} {s0 : State} (f : Upd → Upd) {s : State} (hF : Inside 274877906944 Fm) (hK : Only Fm s0 s) :
    Only Fm s0 (State.modUpd f s) := by
  unfold State.modUpd
  with_reducible repeat' first
    | assumption | intro _ | (fail_if_no_progress refine Only.set_upd (hF.bit (by decide)) ?_) | dsimp only | split
  all_goals first | exact hF.sub rfl | exact hF.bit rfl

theorem State.modPwm_only {Fm : Nat} {s0 : State} (f : Pwm → Pwm) {s : State} (hF : Inside 549755813888 Fm) (hK : Only Fm s0 s) :
    Only Fm s0 (State.modPwm f s) := by
  unfold State.modPwm
  with_reducible repeat' first
    | assumption | intro _ | (fail_if_no_progress refine Only.set_pwm (hF.bit (by decide)) ?_) | dsimp only | split
  all_goals first | exact hF.sub rfl | exact hF.bit rfl

theorem State.modMgmt_only {Fm : Nat} {s0 : State} (f : Mgmt → Mgmt) {s : State} (hF : Inside 1099511627776 Fm) (hK : Only Fm s0 s) :
    Only Fm s0 (State.modMgmt f s) := by
  unfold State.modMgmt
  with_reducible repeat' first
    | assumption | intro _ | (fail_if_no_progress refine Only.set_mgmt (hF.bit (by decide)) ?_) | dsimp only | split
  all_goals first | exact hF.sub rfl | exact hF.bit rfl

theorem State.modCmp_only {Fm : Nat} {s0 : State} (f : Cmp → Cmp) {s : State} (hF : Inside 131072 Fm) (hK : Only Fm s0 s) :
    Only Fm s0 (State.modCmp f s) := by
  unfold State.modCmp
  with_reducible repeat' first
    | assumption | intro _ | (fail_if_no_progress refine Only.set_cmp (hF.bit (by decide)) ?_) | dsimp only | split
  all_goals first | exact hF.sub rfl | exact hF.bit rfl

theorem State.modAlm_only {Fm : Nat} {s0 : State} (f : Alm → Alm) {s : State} (hF : Inside 65536 Fm) (hK : Only Fm s0 s) :
    Only Fm s0 (State.modAlm f s) := by
  unfold State.modAlm
  with_reducible repeat' first
    | assumption | intro _ | (fail_if_no_progress refine Only.set_alm (hF.bit (by decide)) ?_) | dsimp only | split
  all_goals first | exact hF.sub rfl | exact hF.bit rfl

theorem State.setRing_only {Fm : Nat} {s0 : State} (t r : Nat) (v : Ring) {s : State} (hF : Inside 262144 Fm) (hK : Only Fm s0 s) :
    Only Fm s0 (State.setRing t r v s) := by
  unfold State.setRing
  with_reducible repeat' first
    | assumption | intro _ | (fail_if_no_progress refine Only.set_rings (hF.bit (by decide)) ?_) | dsimp only | split
  all_goals first | exact hF.sub rfl | exact hF.bit rfl

theorem State.modRing_only {Fm : Nat} {s0 : State} (t r : Nat) (f : Ring → Ring) {s : State} (hF : Inside 262144 Fm) (hK : Only Fm s0 s) :
    Only Fm s0 (State.modRing t r f s) := by
  unfold State.modRing
  with_reducible repeat' first
    | assumption | intro _ | apply State.setRing_only | dsimp only | split
  all_goals first | exact hF.sub rfl | exact hF.bit rfl

theorem State.setEng_only {Fm : Nat} {s0 : State} (t : Nat) (v : RingEng) {s : State} (hF : Inside 524288 Fm) (hK : Only Fm s0 s) :
    Only Fm s0 (State.setEng t v s) := by
  unfold State.setEng
  with_reducible repeat' first
    | assumption | intro _ | (fail_if_no_progress refine Only.set_eng (hF.bit (by decide)) ?_) | dsimp only | split
  all_goals first | exact hF.sub rfl | exact hF.bit rfl

theorem State.modEng_only {Fm : Nat} {s0 : State} (t : Nat) (f : RingEng → RingEng) {s : State} (hF : Inside 524288 Fm) (hK : Only Fm s0 s) :
    Only Fm s0 (State.modEng t f s) := by
  unfold State.modEng
  with_reducible repeat' first
    | assumption | intro _ | apply State.setEng_only | dsimp only | split
  all_goals first | exact hF.sub rfl | exact hF.bit rfl

theorem State.setFe_only {Fm : Nat} {s0 : State} (n : Nat) (v : Engine) {s : State} (hF : Inside 67108864 Fm) (hK : Only Fm s0 s) :
    Only Fm s0 (State.setFe n v s) := by
  unfold State.setFe
  with_reducible repeat' first
    | assumption | intro _ | (fail_if_no_progress refine Only.set_fes (hF.bit (by decide)) ?_) | dsimp only | split
  all_goals first | exact hF.sub rfl | exact hF.bit rfl

theorem State.modFe_only {Fm : Nat} {s0 : State} (n : Nat) (f : Engine → Engine) {s : State} (hF : Inside 67108864 Fm) (hK : Only Fm s0 s) :
    Only Fm s0 (State.modFe n f s) := by
  unfold State.modFe
  with_reducible repeat' first
    | assumption | intro _ | apply State.setFe_only | dsimp only | split
  all_goals first | exact hF.sub rfl | exact hF.bit rfl

theorem State.setTc_only {Fm : Nat} {s0 : State} (n : Nat) (v : UnitCtl) {s : State} (hF : Inside 134217728 Fm) (hK : Only Fm s0 s) :
    Only Fm s0 (State.setTc n v s) := by
  unfold State.setTc
  with_reducible repeat' first
    | assumption | intro _ | (fail_if_no_progress refine Only.set_tcs (hF.bit (by decide)) ?_) | dsimp only | split
  all_goals first | exact hF.sub rfl | exact hF.bit rfl

theorem State.modTc_only {Fm : Nat} {s0 : State} (n : Nat) (f : UnitCtl → UnitCtl) {s : State} (hF : Inside 134217728 Fm) (hK : Only Fm s0 s) :
    Only Fm s0 (State.modTc n f s) := by
  unfold State.modTc
  with_reducible repeat' first
    | assumption | intro _ | apply State.setTc_only | dsimp only | split
  all_goals first | exact hF.sub rfl | exact hF.bit rfl

theorem State.setHg_only {Fm : Nat} {s0 : State} (t : Nat) (v : Hg) {s : State} (hF : Inside 2147483648 Fm) (hK : Only Fm s0 s) :
    Only Fm s0 (State.setHg t v s) := by
  unfold State.setHg
  with_reducible repeat' first
    | assumption | intro _ | (fail_if_no_progress refine Only.set_hg (hF.bit (by decide)) ?_) | dsimp only | split
  all_goals first | exact hF.sub rfl | exact hF.bit rfl

theorem State.modHg_only {Fm : Nat} {s0 : State} (t : Nat) (f : Hg → Hg) {s : State} (hF : Inside 2147483648 Fm) (hK : Only Fm s0 s) :
    Only Fm s0 (State.modHg t f s) := by
  unfold State.modHg
  with_reducible repeat' first
    | assumption | intro _ | apply State.setHg_only | dsimp only | split
  all_goals first | exact hF.sub rfl | exact hF.bit rfl

theorem State.setTslot_only {Fm : Nat} {s0 : State} (n : Nat) (v : TSlot) {s : State} (hF : Inside 131072 Fm) (hK : Only Fm s0 s) :
    Only Fm s0 (State.setTslot n v s) := by
  unfold State.setTslot
  with_reducible repeat' first
    | assumption | intro _ | apply State.modCmp_only | dsimp only | split
  all_goals first | exact hF.sub rfl | exact hF.bit rfl

theorem State.setPslot_only {Fm : Nat} {s0 : State} (n : Nat) (v : PSlot) {s : State} (hF : Inside 33554432 Fm) (hK : Only Fm s0 s) :
    Only Fm s0 (State.setPslot n v s) := by
  unfold State.setPslot
  with_reducible repeat' first
    | assumption | intro _ | (fail_if_no_progress refine Only.set_pslots (hF.bit (by decide)) ?_) | dsimp only | split
  all_goals first | exact hF.sub rfl | exact hF.bit rfl

theorem State.modPslot_only {Fm : Nat} {s0 : State} (n : Nat) (f : PSlot → PSlot) {s : State} (hF : Inside 33554432 Fm) (hK : Only Fm s0 s) :
    Only Fm s0 (State.modPslot n f s) := by
  unfold State.modPslot
  with_reducible repeat' first
    | assumption | intro _ | apply State.setPslot_only | dsimp only | split
  all_goals first | exact hF.sub rfl | exact hF.bit rfl

theorem State.setRegion_only {Fm : Nat} {s0 : State} (n : Nat) (v : Region) {s : State} (hF : Inside 1073741824 Fm) (hK : Only Fm s0 s) :
    Only Fm s0 (State.setRegion n v s) := by
  unfold State.setRegion
  with_reducible repeat' first
    | assumption | intro _ | apply State.modShr_only | dsimp only | split
  all_goals first | exact hF.sub rfl | exact hF.bit rfl

theorem State.modRegion_only {Fm : Nat} {s0 : State} (n : Nat) (f : Region → Region) {s : State} (hF : Inside 1073741824 Fm) (hK : Only Fm s0 s) :
    Only Fm s0 (State.modRegion n f s) := by
  unfold State.modRegion
  with_reducible repeat' first
    | assumption | intro _ | apply State.setRegion_only | dsimp only | split
  all_goals first | exact hF.sub rfl | exact hF.bit rfl

theorem State.setChan_only {Fm : Nat} {s0 : State} (n : Nat) (v : Chan) {s : State} (hF : Inside 17179869184 Fm) (hK : Only Fm s0 s) :
    Only Fm s0 (State.setChan n v s) := by
  unfold State.setChan
  with_reducible repeat' first
    | assumption | intro _ | apply State.modDmc_only | dsimp only | split
  all_goals first | exact hF.sub rfl | exact hF.bit rfl

theorem State.modChan_only {Fm : Nat} {s0 : State} (n : Nat) (f : Chan → Chan) {s : State} (hF : Inside 17179869184 Fm) (hK : Only Fm s0 s) :
    Only Fm s0 (State.modChan n f s) := by
  unfold State.modChan
  with_reducible repeat' first
    | assumption | intro _ | apply State.setChan_only | dsimp only | split
  all_goals first | exact hF.sub rfl | exact hF.bit rfl

theorem State.setRank_only {Fm : Nat} {s0 : State} (n : Nat) (v : Rank) {s : State} (hF : Inside 17179869184 Fm) (hK : Only Fm s0 s) :
    Only Fm s0 (State.setRank n v s) := by
  unfold State.setRank
  with_reducible repeat' first
    | assumption | intro _ | apply State.modDmc_only | dsimp only | split
  all_goals first | exact hF.sub rfl | exact hF.bit rfl

theorem State.modRank_only {Fm : Nat} {s0 : State} (n : Nat) (f : Rank → Rank) {s : State} (hF : Inside 17179869184 Fm) (hK : Only Fm s0 s) :
    Only Fm s0 (State.modRank n f s) := by
  unfold State.modRank
  with_reducible repeat' first
    | assumption | intro _ | apply State.setRank_only | dsimp only | split
  all_goals first | exact hF.sub rfl | exact hF.bit rfl

theorem State.setKey_only {Fm : Nat} {s0 : State} (n : Nat) (v : Key) {s : State} (hF : Inside 137438953472 Fm) (hK : Only Fm s0 s) :
    Only Fm s0 (State.setKey n v s) := by
  unfold State.setKey
  with_reducible repeat' first
    | assumption | intro _ | apply State.modSec_only | dsimp only | split
  all_goals first | exact hF.sub rfl | exact hF.bit rfl

theorem State.modKey_only {Fm : Nat} {s0 : State} (n : Nat) (f : Key → Key) {s : State} (hF : Inside 137438953472 Fm) (hK : Only Fm s0 s) :
    Only Fm s0 (State.modKey n f s) := by
  unfold State.modKey
  with_reducible repeat' first
    | assumption | intro _ | apply State.setKey_only | dsimp only | split
  all_goals first | exact hF.sub rfl | exact hF.bit rfl

theorem State.setHalf_only {Fm : Nat} {s0 : State} (h : Half) (v : HalfSt) {s : State} (hF : Inside 96 Fm) (hK : Only Fm s0 s) :
    Only Fm s0 (State.setHalf h v s) := by
  cases h
  · exact Only.set_north (hF.bit rfl) hK
  · exact Only.set_south (hF.bit rfl) hK

theorem State.modHalf_only {Fm : Nat} {s0 : State} (h : Half) (f : HalfSt → HalfSt) {s : State} (hF : Inside 96 Fm) (hK : Only Fm s0 s) :
    Only Fm s0 (State.modHalf h f s) := by
  unfold State.modHalf
  with_reducible repeat' first
    | assumption | intro _ | apply State.setHalf_only | dsimp only | split
  all_goals first | exact hF.sub rfl | exact hF.bit rfl

theorem State.modOp_only {Fm : Nat} {s0 : State} (id : Nat) (f : Op → Op) {s : State} (hF : Inside 1048576 Fm) (hK : Only Fm s0 s) :
    Only Fm s0 (State.modOp id f s) := by
  unfold State.modOp
  with_reducible repeat' first
    | assumption | intro _ | (fail_if_no_progress refine Only.set_ops (hF.bit (by decide)) ?_) | dsimp only | split
  all_goals first | exact hF.sub rfl | exact hF.bit rfl

theorem State.modJob_only {Fm : Nat} {s0 : State} (id : Nat) (f : Job → Job) {s : State} (hF : Inside 4194304 Fm) (hK : Only Fm s0 s) :
    Only Fm s0 (State.modJob id f s) := by
  unfold State.modJob
  with_reducible repeat' first
    | assumption | intro _ | (fail_if_no_progress refine Only.set_jobs (hF.bit (by decide)) ?_) | dsimp only | split
  all_goals first | exact hF.sub rfl | exact hF.bit rfl

theorem State.modGrain_only {Fm : Nat} {s0 : State} (id : Nat) (f : Grain → Grain) {s : State} (hF : Inside 8388608 Fm) (hK : Only Fm s0 s) :
    Only Fm s0 (State.modGrain id f s) := by
  unfold State.modGrain
  with_reducible repeat' first
    | assumption | intro _ | (fail_if_no_progress refine Only.set_grains (hF.bit (by decide)) ?_) | dsimp only | split
  all_goals first | exact hF.sub rfl | exact hF.bit rfl

theorem State.modXjob_only {Fm : Nat} {s0 : State} (op : Nat) (f : XJob → XJob) {s : State} (hF : Inside 268435456 Fm) (hK : Only Fm s0 s) :
    Only Fm s0 (State.modXjob op f s) := by
  unfold State.modXjob
  with_reducible repeat' first
    | assumption | intro _ | (fail_if_no_progress refine Only.set_xjobs (hF.bit (by decide)) ?_) | dsimp only | split
  all_goals first | exact hF.sub rfl | exact hF.bit rfl

theorem State.setCal_only {Fm : Nat} {s0 : State} (c : Nat) (v : Cal) {s : State} (hF : Inside 65536 Fm) (hK : Only Fm s0 s) :
    Only Fm s0 (State.setCal c v s) := by
  unfold State.setCal
  with_reducible repeat' first
    | assumption | intro _ | apply State.modAlm_only | dsimp only | split
  all_goals first | exact hF.sub rfl | exact hF.bit rfl

theorem State.delCal_only {Fm : Nat} {s0 : State} (c : Nat) {s : State} (hF : Inside 65536 Fm) (hK : Only Fm s0 s) :
    Only Fm s0 (State.delCal c s) := by
  unfold State.delCal
  with_reducible repeat' first
    | assumption | intro _ | apply State.modAlm_only | dsimp only | split
  all_goals first | exact hF.sub rfl | exact hF.bit rfl

/-! Machine/Operands.lean. -/

theorem State.setBar_only {Fm : Nat} {s0 : State} (t off : Nat) (v : W32) {s : State} (hF : Inside 16 Fm) (hK : Only Fm s0 s) :
    Only Fm s0 (State.setBar t off v s) := by
  unfold State.setBar
  with_reducible repeat' first
    | assumption | intro _ | (fail_if_no_progress refine Only.set_reg (hF.bit (by decide)) ?_) | dsimp only | split
  all_goals first | exact hF.sub rfl | exact hF.bit rfl

theorem State.modBar_only {Fm : Nat} {s0 : State} (t off : Nat) (f : W32 → W32) {s : State} (hF : Inside 16 Fm) (hK : Only Fm s0 s) :
    Only Fm s0 (State.modBar t off f s) := by
  unfold State.modBar
  with_reducible repeat' first
    | assumption | intro _ | apply State.setBar_only | dsimp only | split
  all_goals first | exact hF.sub rfl | exact hF.bit rfl

theorem State.setStw_only {Fm : Nat} {s0 : State} (off : Nat) (v : W32) {s : State} (hF : Inside 16 Fm) (hK : Only Fm s0 s) :
    Only Fm s0 (State.setStw off v s) := by
  unfold State.setStw
  with_reducible repeat' first
    | assumption | intro _ | (fail_if_no_progress refine Only.set_reg (hF.bit (by decide)) ?_) | dsimp only | split
  all_goals first | exact hF.sub rfl | exact hF.bit rfl

theorem State.modStw_only {Fm : Nat} {s0 : State} (off : Nat) (f : W32 → W32) {s : State} (hF : Inside 16 Fm) (hK : Only Fm s0 s) :
    Only Fm s0 (State.modStw off f s) := by
  unfold State.modStw
  with_reducible repeat' first
    | assumption | intro _ | apply State.setStw_only | dsimp only | split
  all_goals first | exact hF.sub rfl | exact hF.bit rfl

theorem State.cntBar_only {Fm : Nat} {s0 : State} (t off hi lo n : Nat) {s : State} (hF : Inside 16 Fm) (hK : Only Fm s0 s) :
    Only Fm s0 (State.cntBar t off hi lo n s) := by
  unfold State.cntBar
  with_reducible repeat' first
    | assumption | intro _ | apply State.modBar_only | dsimp only | split
  all_goals first | exact hF.sub rfl | exact hF.bit rfl

theorem State.cntStw_only {Fm : Nat} {s0 : State} (off hi lo n : Nat) {s : State} (hF : Inside 16 Fm) (hK : Only Fm s0 s) :
    Only Fm s0 (State.cntStw off hi lo n s) := by
  unfold State.cntStw
  with_reducible repeat' first
    | assumption | intro _ | apply State.modStw_only | dsimp only | split
  all_goals first | exact hF.sub rfl | exact hF.bit rfl

theorem State.clearBar_only {Fm : Nat} {s0 : State} (t : Nat) (keepFlr : Bool) {s : State} (hF : Inside 16 Fm) (hK : Only Fm s0 s) :
    Only Fm s0 (State.clearBar t keepFlr s) := by
  unfold State.clearBar
  with_reducible repeat' first
    | assumption | intro _ | (fail_if_no_progress refine Only.set_reg (hF.bit (by decide)) ?_) | dsimp only | split
  all_goals first | exact hF.sub rfl | exact hF.bit rfl

/-! Machine/Flags.lean. -/

theorem State.sendMsix_only {Fm : Nat} {s0 : State} (t v : Nat) {s : State} (hF : Inside 2199023779840 Fm) (hK : Only Fm s0 s) :
    Only Fm s0 (State.sendMsix t v s) := by
  unfold State.sendMsix
  with_reducible repeat' first
    | assumption | intro _ | apply Only.ite | apply State.modEng_only | apply State.emit_only | dsimp only | split
  all_goals first | exact hF.sub rfl | exact hF.bit rfl

theorem State.issueWant_only {Fm : Nat} {s0 : State} (t : Nat) (w : Want) {s : State} (hF : Inside 2199023780864 Fm) (hK : Only Fm s0 s) :
    Only Fm s0 (State.issueWant t w s) := by
  unfold State.issueWant
  with_reducible repeat' first
    | assumption | intro _ | apply State.emit_only | apply State.sendMsix_only
    | (fail_if_no_progress refine Only.set_tags (hF.bit (by decide)) ?_) | dsimp only | split
  all_goals first | exact hF.sub rfl | exact hF.bit rfl

theorem State.request_only {Fm : Nat} {s0 : State} (t : Nat) (w : Want) {s : State} (hF : Inside 2199023781376 Fm) (hK : Only Fm s0 s) :
    Only Fm s0 (State.request t w s) := by
  unfold State.request
  with_reducible repeat' first
    | assumption | intro _ | apply Only.ite | apply State.issueWant_only | apply State.modLd_only | dsimp only | split
  all_goals first | exact hF.sub rfl | exact hF.bit rfl

theorem State.dmaRead_only {Fm : Nat} {s0 : State} (t : Nat) (use : DmaUse) (addr : W64) (len : Nat) {s : State} (hF : Inside 10995116803584 Fm) (hK : Only Fm s0 s) :
    Only Fm s0 (State.dmaRead t use addr len s) := by
  unfold State.dmaRead
  with_reducible repeat' first
    | assumption | intro _ | apply State.request_only | apply State.tickFree_only | dsimp only | split
  all_goals first | exact hF.sub rfl | exact hF.bit rfl

theorem State.raiseMsix_only {Fm : Nat} {s0 : State} (t v : Nat) {s : State} (hF : Inside 2199023781376 Fm) (hK : Only Fm s0 s) :
    Only Fm s0 (State.raiseMsix t v s) := by
  unfold State.raiseMsix
  with_reducible repeat' first
    | assumption | intro _ | apply Only.ite | apply State.request_only | apply State.setLd_only | dsimp only | split
  all_goals first | exact hF.sub rfl | exact hF.bit rfl

theorem State.flushMsix_only {Fm : Nat} {s0 : State} (t : Nat) {s : State} (hF : Inside 2199023781376 Fm) (hK : Only Fm s0 s) :
    Only Fm s0 (State.flushMsix t s) := by
  unfold State.flushMsix
  with_reducible repeat' first
    | assumption | intro _ | apply Only.ite | apply Only.forAll | apply State.modLd_only | apply State.request_only | dsimp only
    | split
  all_goals first | exact hF.sub rfl | exact hF.bit rfl

theorem State.tenantLog_only {Fm : Nat} {s0 : State} (t sev : Nat) (r : W256) {s : State} (hF : Inside 2199023781376 Fm) (hK : Only Fm s0 s) :
    Only Fm s0 (State.tenantLog t sev r s) := by
  unfold State.tenantLog
  with_reducible repeat' first
    | assumption | intro _ | apply Only.ite | apply State.setLd_only | apply State.raiseMsix_only | dsimp only | split
  all_goals first | exact hF.sub rfl | exact hF.bit rfl

theorem State.fmLog_only {Fm : Nat} {s0 : State} (p sev : Nat) (r : W256) {s : State} (hF : Inside 1099511627776 Fm) (hK : Only Fm s0 s) :
    Only Fm s0 (State.fmLog p sev r s) := by
  unfold State.fmLog
  with_reducible repeat' first
    | assumption | intro _ | (fail_if_no_progress refine Only.set_mgmt (hF.bit (by decide)) ?_) | dsimp only | split
  all_goals first | exact hF.sub rfl | exact hF.bit rfl

theorem State.fmLogAll_only {Fm : Nat} {s0 : State} (sev : Nat) (r : W256) {s : State} (hF : Inside 1099511627776 Fm) (hK : Only Fm s0 s) :
    Only Fm s0 (State.fmLogAll sev r s) := by
  unfold State.fmLogAll
  with_reducible repeat' first
    | assumption | intro _ | apply Only.forAll | apply State.fmLog_only | dsimp only | split
  all_goals first | exact hF.sub rfl | exact hF.bit rfl

theorem State.moduleLog_only {Fm : Nat} {s0 : State} (r : W256) {s : State} (hF : Inside 68719476736 Fm) (hK : Only Fm s0 s) :
    Only Fm s0 (State.moduleLog r s) := by
  unfold State.moduleLog
  with_reducible repeat' first
    | assumption | intro _ | apply State.modRas_only | dsimp only | split
  all_goals first | exact hF.sub rfl | exact hF.bit rfl

theorem State.alert_only {Fm : Nat} {s0 : State} (b : Nat) {s : State} (hF : Inside 16 Fm) (hK : Only Fm s0 s) :
    Only Fm s0 (State.alert b s) := by
  unfold State.alert
  with_reducible repeat' first
    | assumption | intro _ | apply State.modStw_only | dsimp only | split
  all_goals first | exact hF.sub rfl | exact hF.bit rfl

theorem State.logRec_only {Fm : Nat} {s0 : State} (r : Rec) {s : State} (hF : Inside 2267743258128 Fm) (hK : Only Fm s0 s) :
    Only Fm s0 (State.logRec r s) := by
  unfold State.logRec
  with_reducible repeat' first
    | assumption | intro _ | apply Only.ite | apply State.moduleLog_only | apply State.alert_only | apply State.tenantLog_only
    | dsimp only | split
  all_goals first | exact hF.sub rfl | exact hF.bit rfl

theorem State.fmStd_only {Fm : Nat} {s0 : State} (kind sev : Nat) (r : Rec) {s : State} (hF : Inside 1099511627776 Fm) (hK : Only Fm s0 s) :
    Only Fm s0 (State.fmStd kind sev r s) := by
  unfold State.fmStd
  with_reducible repeat' first
    | assumption | intro _ | apply State.fmLogAll_only | dsimp only | split
  all_goals first | exact hF.sub rfl | exact hF.bit rfl

theorem State.fmHealth_only {Fm : Nat} {s0 : State} (r : Rec) {s : State} (hF : Inside 1099511627776 Fm) (hK : Only Fm s0 s) :
    Only Fm s0 (State.fmHealth r s) := by
  unfold State.fmHealth
  with_reducible repeat' first
    | assumption | intro _ | apply State.fmStd_only | dsimp only | split
  all_goals first | exact hF.sub rfl | exact hF.bit rfl

/-! Machine/Weir.lean. -/

theorem State.shadowAdmit_only {Fm : Nat} {s0 : State} (h : Half) {s : State} (hF : Inside 16 Fm) (hK : Only Fm s0 s) :
    Only Fm s0 (State.shadowAdmit h s) := by
  unfold State.shadowAdmit
  with_reducible repeat' first
    | assumption | intro _ | apply State.cntStw_only | dsimp only | split
  all_goals first | exact hF.sub rfl | exact hF.bit rfl

theorem State.heldMark_only {Fm : Nat} {s0 : State} (t c n : Nat) {s : State} (hF : Inside 2147483664 Fm) (hK : Only Fm s0 s) :
    Only Fm s0 (State.heldMark t c n s) := by
  unfold State.heldMark
  with_reducible repeat' first
    | assumption | intro _ | apply Only.ite | apply State.cntBar_only | apply State.modHg_only | dsimp only | split
  all_goals first | exact hF.sub rfl | exact hF.bit rfl

theorem State.weirAdmit_only {Fm : Nat} {s0 : State} (t c units : Nat) {s : State} (hF : Inside 2147483664 Fm) (hK : Only Fm s0 s) :
    Only Fm s0 (State.weirAdmit t c units s).2 := by
  unfold State.weirAdmit
  with_reducible repeat' first
    | assumption | intro _ | apply State.modHg_only | apply State.heldMark_only | dsimp only | split
  all_goals first | exact hF.sub rfl | exact hF.bit rfl

theorem State.unitAdmit_only {Fm : Nat} {s0 : State} (w : Reader) (t c units : Nat) {s : State} (hF : Inside 4400193994752 Fm) (hK : Only Fm s0 s) :
    Only Fm s0 (State.unitAdmit w t c units s).2 := by
  unfold State.unitAdmit
  with_reducible repeat' first
    | assumption | intro _ | apply State.modHg_only | (fail_if_no_progress refine Only.set_acc (hF.bit (by decide)) ?_)
    | dsimp only | split
  all_goals first | exact hF.sub rfl | exact hF.bit rfl

theorem State.unitShadow_only {Fm : Nat} {s0 : State} (w : Reader) (h : Half) {s : State} (hF : Inside 4398046511120 Fm) (hK : Only Fm s0 s) :
    Only Fm s0 (State.unitShadow w h s) := by
  unfold State.unitShadow
  with_reducible repeat' first
    | assumption | intro _ | apply Only.ite | apply State.shadowAdmit_only
    | (fail_if_no_progress refine Only.set_acc (hF.bit (by decide)) ?_) | dsimp only | split
  all_goals first | exact hF.sub rfl | exact hF.bit rfl

theorem State.unitEnds_only {Fm : Nat} {s0 : State} (t c : Nat) {s : State} (hF : Inside 4400193994768 Fm) (hK : Only Fm s0 s) :
    Only Fm s0 (State.unitEnds t c s) := by
  unfold State.unitEnds
  with_reducible repeat' first
    | assumption | intro _ | apply State.heldMark_only | (fail_if_no_progress refine Only.set_acc (hF.bit (by decide)) ?_)
    | dsimp only | split
  all_goals first | exact hF.sub rfl | exact hF.bit rfl

theorem State.unitWaits_only {Fm : Nat} {s0 : State} (w : Reader) (t c : Nat) (s' : State) {s : State} (hF : Inside 4400193994768 Fm) (hK : Only Fm s0 s) :
    Only Fm s0 (State.unitWaits w t c s' s) := by
  unfold State.unitWaits
  with_reducible repeat' first
    | assumption | intro _ | apply Only.ite | apply State.modHg_only | apply State.heldMark_only
    | (fail_if_no_progress refine Only.set_acc (hF.bit (by decide)) ?_) | dsimp only | split
  all_goals first | exact hF.sub rfl | exact hF.bit rfl

theorem State.unitHeld_only {Fm : Nat} {s0 : State} (w : Reader) (t c : Nat) {s : State} (hF : Inside 4400193994768 Fm) (hK : Only Fm s0 s) :
    Only Fm s0 (State.unitHeld w t c s) := by
  unfold State.unitHeld
  with_reducible repeat' first
    | assumption | intro _ | apply Only.ite | apply State.heldMark_only
    | (fail_if_no_progress refine Only.set_acc (hF.bit (by decide)) ?_) | dsimp only | split
  all_goals first | exact hF.sub rfl | exact hF.bit rfl

theorem State.latency_only {Fm : Nat} {s0 : State} (t c stamp : Nat) {s : State} (hF : Inside 2147483664 Fm) (hK : Only Fm s0 s) :
    Only Fm s0 (State.latency t c stamp s) := by
  unfold State.latency
  with_reducible repeat' first
    | assumption | intro _ | apply Only.ite | apply State.modBar_only | apply State.cntBar_only | apply State.modHg_only
    | dsimp only | split
  all_goals first | exact hF.sub rfl | exact hF.bit rfl

/-! Machine/Places.lean. -/

theorem State.farFetch_only {Fm : Nat} {s0 : State} (who : Reader) (key : Nat) (lender : Nat) (addr : W64) (len : Nat) {s : State} (hF : Inside 10995116836352 Fm) (hK : Only Fm s0 s) :
    Only Fm s0 (State.farFetch who key lender addr len s) := by
  unfold State.farFetch
  with_reducible repeat' first
    | assumption | intro _ | apply State.modTier_only | apply State.dmaRead_only | dsimp only | split
  all_goals first | exact hF.sub rfl | exact hF.bit rfl

theorem State.farArrive_only {Fm : Nat} {s0 : State} (no : Nat) (r : Status × List Byte) {s : State} (hF : Inside 32768 Fm) (hK : Only Fm s0 s) :
    Only Fm s0 (State.farArrive no r s) := by
  unfold State.farArrive
  with_reducible repeat' first
    | assumption | intro _ | apply State.modTier_only | dsimp only | split
  all_goals first | exact hF.sub rfl | exact hF.bit rfl

theorem State.farDrop_only {Fm : Nat} {s0 : State} (who : Reader) {s : State} (hF : Inside 4398046544000 Fm) (hK : Only Fm s0 s) :
    Only Fm s0 (State.farDrop who s) := by
  unfold State.farDrop
  with_reducible repeat' first
    | assumption | intro _ | apply State.modTier_only
    | (fail_if_no_progress refine Only.set_acc_bridge (hF.bit (by decide)) (hF.bit (by decide)) ?_) | dsimp only | split
  all_goals first | exact hF.sub rfl | exact hF.bit rfl

/-! Machine/Channels.lean. -/

theorem State.refreshOwed_only {Fm : Nat} {s0 : State} (ch bank : Nat) {s : State} (hF : Inside 17179869184 Fm) (hK : Only Fm s0 s) :
    Only Fm s0 (State.refreshOwed ch bank s) := by
  unfold State.refreshOwed
  with_reducible repeat' first
    | assumption | intro _ | apply State.modChan_only | dsimp only | split
  all_goals first | exact hF.sub rfl | exact hF.bit rfl

theorem State.touchRow_only {Fm : Nat} {s0 : State} (urgent : Bool) (d : DLoc) {s : State} (hF : Inside 17179869184 Fm) (hK : Only Fm s0 s) :
    Only Fm s0 (State.touchRow urgent d s) := by
  unfold State.touchRow
  with_reducible repeat' first
    | assumption | intro _ | apply Only.ite | apply State.refreshOwed_only | apply State.modChan_only | dsimp only | split
  all_goals first | exact hF.sub rfl | exact hF.bit rfl

theorem State.queueWrite_only {Fm : Nat} {s0 : State} (d : DLoc) {s : State} (hF : Inside 17179869184 Fm) (hK : Only Fm s0 s) :
    Only Fm s0 (State.queueWrite d s) := by
  unfold State.queueWrite
  with_reducible repeat' first
    | assumption | intro _ | apply State.modChan_only | apply State.modDmc_only | apply State.touchRow_only | dsimp only | split
  all_goals first | exact hF.sub rfl | exact hF.bit rfl

theorem State.correctedRead_only {Fm : Nat} {s0 : State} (d : DLoc) (loc : Nat) {s : State} (hF : Inside 3384434755088 Fm) (hK : Only Fm s0 s) :
    Only Fm s0 (State.correctedRead d loc s) := by
  unfold State.correctedRead
  with_reducible repeat' first
    | assumption | intro _ | apply Only.ite | apply State.cntStw_only | apply State.modChan_only | apply State.setRank_only
    | apply State.logRec_only | apply State.fmStd_only | dsimp only | split
  all_goals first | exact hF.sub rfl | exact hF.bit rfl

theorem State.uncorrectedRead_only {Fm : Nat} {s0 : State} (d : DLoc) {s : State} (hF : Inside 17179869200 Fm) (hK : Only Fm s0 s) :
    Only Fm s0 (State.uncorrectedRead d s) := by
  unfold State.uncorrectedRead
  with_reducible repeat' first
    | assumption | intro _ | apply Only.ite | apply State.cntStw_only | apply State.modRank_only | dsimp only | split
  all_goals first | exact hF.sub rfl | exact hF.bit rfl

theorem State.mediaFind_only {Fm : Nat} {s0 : State} (d : DLoc) (md : Media) {s : State} (hF : Inside 17179869184 Fm) (hK : Only Fm s0 s) :
    Only Fm s0 (State.mediaFind d md s) := by
  unfold State.mediaFind
  with_reducible repeat' first
    | assumption | intro _ | apply State.modDmc_only | dsimp only | split
  all_goals first | exact hF.sub rfl | exact hF.bit rfl

theorem State.mediaFresh_only {Fm : Nat} {s0 : State} (d : DLoc) {s : State} (hF : Inside 17179869184 Fm) (hK : Only Fm s0 s) :
    Only Fm s0 (State.mediaFresh d s) := by
  unfold State.mediaFresh
  with_reducible repeat' first
    | assumption | intro _ | apply State.modDmc_only | dsimp only | split
  all_goals first | exact hF.sub rfl | exact hF.bit rfl

theorem State.mediaRead_only {Fm : Nat} {s0 : State} (d : DLoc) (ua : Nat) (tenant : Option Nat) (host poisoned : Bool) {s : State} (hF : Inside 3384434755088 Fm) (hK : Only Fm s0 s) :
    Only Fm s0 (State.mediaRead d ua tenant host poisoned s).2 := by
  unfold State.mediaRead
  with_reducible repeat' first
    | assumption | intro _ | apply Only.ite | apply State.correctedRead_only | apply State.uncorrectedRead_only
    | apply State.logRec_only | apply State.tenantLog_only | dsimp only | split
  all_goals first | exact hF.sub rfl | exact hF.bit rfl

theorem State.moveReads_only {Fm : Nat} {s0 : State} (p : Nat) (e : Plot) (j : Nat) (bad : List Nat) (of_ : DLoc → Bool) {s : State} (hF : Inside 3384434755088 Fm) (hK : Only Fm s0 s) :
    Only Fm s0 (State.moveReads p e j bad of_ s).2 := by
  unfold State.moveReads
  with_reducible repeat' first
    | assumption | intro _ | apply Only.fold2 | apply State.mediaFind_only | apply State.uncorrectedRead_only
    | apply State.correctedRead_only | dsimp only | split
  all_goals first | exact hF.sub rfl | exact hF.bit rfl

theorem State.moveWrites_only {Fm : Nat} {s0 : State} (p : Nat) (e : Plot) (j : Nat) {s : State} (hF : Inside 17179869184 Fm) (hK : Only Fm s0 s) :
    Only Fm s0 (State.moveWrites p e j s) := by
  unfold State.moveWrites
  with_reducible repeat' first
    | assumption | intro _ | apply Only.forAll | apply State.mediaFresh_only | dsimp only | split
  all_goals first | exact hF.sub rfl | exact hF.bit rfl

/-! Machine/Tiers.lean. -/

theorem State.modCursor_only {Fm : Nat} {s0 : State} (cal cur : Nat) (f : Cursor → Cursor) {s : State} (hF : Inside 65536 Fm) (hK : Only Fm s0 s) :
    Only Fm s0 (State.modCursor cal cur f s) := by
  unfold State.modCursor
  with_reducible repeat' first
    | assumption | intro _ | apply State.setCal_only | dsimp only | split
  all_goals first | exact hF.sub rfl | exact hF.bit rfl

theorem State.firingDone_only {Fm : Nat} {s0 : State} (cal cur : Nat) (tr : Track) {s : State} (hF : Inside 2267743323664 Fm) (hK : Only Fm s0 s) :
    Only Fm s0 (State.firingDone cal cur tr s) := by
  unfold State.firingDone
  with_reducible repeat' first
    | assumption | intro _ | apply Only.ite | apply State.modCursor_only | apply State.logRec_only | dsimp only | split
  all_goals first | exact hF.sub rfl | exact hF.bit rfl

theorem State.trackSettle_only {Fm : Nat} {s0 : State} (cal cur p : Nat) (copied staged : Nat → Bool) {s : State} (hF : Inside 2267743323664 Fm) (hK : Only Fm s0 s) :
    Only Fm s0 (State.trackSettle cal cur p copied staged s) := by
  unfold State.trackSettle
  with_reducible repeat' first
    | assumption | intro _ | apply Only.forAll | apply State.modCursor_only | apply State.firingDone_only | dsimp only | split
  all_goals first | exact hF.sub rfl | exact hF.bit rfl

theorem State.settle_only {Fm : Nat} {s0 : State} (p : Nat) {s : State} (hF : Inside 2267744372240 Fm) (hK : Only Fm s0 s) :
    Only Fm s0 (State.settle p s) := by
  unfold State.settle
  with_reducible repeat' first
    | assumption | intro _ | apply Only.forAll | apply State.trackSettle_only
    | (fail_if_no_progress refine Only.set_ops (hF.bit (by decide)) ?_) | dsimp only | split
  all_goals first | exact hF.sub rfl | exact hF.bit rfl

theorem State.refuseFiring_only {Fm : Nat} {s0 : State} (cal cur f : Nat) {s : State} (hF : Inside 65536 Fm) (hK : Only Fm s0 s) :
    Only Fm s0 (State.refuseFiring cal cur f s) := by
  unfold State.refuseFiring
  with_reducible repeat' first
    | assumption | intro _ | apply Only.ite | apply State.modAlm_only | apply State.modCursor_only | dsimp only | split
  all_goals first | exact hF.sub rfl | exact hF.bit rfl

theorem State.refuseClaim_only {Fm : Nat} {s0 : State} (p t : Nat) (c : ClaimCause) {s : State} (hF : Inside 2267744372240 Fm) (hK : Only Fm s0 s) :
    Only Fm s0 (State.refuseClaim p t c s) := by
  unfold State.refuseClaim
  with_reducible repeat' first
    | assumption | intro _ | apply State.cntBar_only | apply State.modOp_only | apply State.settle_only
    | apply State.refuseFiring_only | dsimp only | split
  all_goals first | exact hF.sub rfl | exact hF.bit rfl

theorem State.admitCopy_only {Fm : Nat} {s0 : State} (p : Nat) {s : State} (hF : Inside 2147516432 Fm) (hK : Only Fm s0 s) :
    Only Fm s0 (State.admitCopy p s) := by
  unfold State.admitCopy
  with_reducible repeat' first
    | assumption | intro _ | apply Only.ite | apply State.setPlot_only | apply State.shadowAdmit_only
    | apply State.weirAdmit_only | apply State.modPlot_only | dsimp only | split | (refine Only.snd (by assumption) ?_)
  all_goals first | exact hF.sub rfl | exact hF.bit rfl

theorem State.readNext_only {Fm : Nat} {s0 : State} (p : Nat) {s : State} (hF : Inside 10995116836352 Fm) (hK : Only Fm s0 s) :
    Only Fm s0 (State.readNext p s) := by
  unfold State.readNext
  with_reducible repeat' first
    | assumption | intro _ | apply Only.ite | apply State.farFetch_only | dsimp only | split
  all_goals first | exact hF.sub rfl | exact hF.bit rfl

theorem State.dropNear_only {Fm : Nat} {s0 : State} (p : Nat) {s : State} (hF : Inside 32768 Fm) (hK : Only Fm s0 s) :
    Only Fm s0 (State.dropNear p s) := by
  unfold State.dropNear
  with_reducible repeat' first
    | assumption | intro _ | apply State.modTier_only | dsimp only | split
  all_goals first | exact hF.sub rfl | exact hF.bit rfl

theorem State.freeNear_only {Fm : Nat} {s0 : State} (p : Nat) {s : State} (hF : Inside 32768 Fm) (hK : Only Fm s0 s) :
    Only Fm s0 (State.freeNear p s) := by
  unfold State.freeNear
  with_reducible repeat' first
    | assumption | intro _ | apply State.modPlot_only | apply State.dropNear_only | dsimp only | split
  all_goals first | exact hF.sub rfl | exact hF.bit rfl

theorem State.startFarMove_only {Fm : Nat} {s0 : State} (p l cls mover : Nat) (free : Bool) {s : State} (hF : Inside 8798240538640 Fm) (hK : Only Fm s0 s) :
    InOption (Only Fm s0) (State.startFarMove p l cls mover free s) := by
  unfold State.startFarMove
  with_reducible repeat' first
    | assumption | intro _ | apply InOption.some | apply InOption.none | apply InOption.ite | apply State.tickFree_only
    | apply State.setPlot_only | apply State.admitCopy_only | dsimp only | split
  all_goals first | exact hF.sub rfl | exact hF.bit rfl

theorem State.wantFar_only {Fm : Nat} {s0 : State} (p cls mover : Nat) {s : State} (hF : Inside 8798240538640 Fm) (hK : Only Fm s0 s) :
    Only Fm s0 (State.wantFar p cls mover s) := by
  unfold State.wantFar
  with_reducible repeat' first
    | assumption | intro _ | apply Only.ite | apply InOption.getD | apply State.setPlot_only | apply State.startFarMove_only
    | dsimp only | split
  all_goals first | exact hF.sub rfl | exact hF.bit rfl

theorem State.takeWish_only {Fm : Nat} {s0 : State} (p : Nat) {s : State} (hF : Inside 8798240538640 Fm) (hK : Only Fm s0 s) :
    Only Fm s0 (State.takeWish p s) := by
  unfold State.takeWish
  with_reducible repeat' first
    | assumption | intro _ | apply Only.ite | apply State.wantFar_only | apply State.setPlot_only | dsimp only | split
  all_goals first | exact hF.sub rfl | exact hF.bit rfl

theorem State.leaveNear_only {Fm : Nat} {s0 : State} (p cls mover : Nat) (free : Bool) {s : State} (hF : Inside 8798240538640 Fm) (hK : Only Fm s0 s) :
    Only Fm s0 (State.leaveNear p cls mover free s) := by
  unfold State.leaveNear
  with_reducible repeat' first
    | assumption | intro _ | apply Only.ite | apply State.setPlot_only | apply State.freeNear_only | apply State.takeWish_only
    | apply State.admitCopy_only | dsimp only | split
  all_goals first | exact hF.sub rfl | exact hF.bit rfl

theorem State.evictSteps_only {Fm : Nat} {s0 : State} (h : Half) (hF : Inside 11065984910864 Fm) : ∀ (rest_ : List Nat) {s : State}, Only Fm s0 s →
    Only Fm s0 (State.evictSteps h rest_ s).2 := by
  intro rest_
  induction rest_ with
  | nil =>
    intro s hK
    unfold State.evictSteps
    with_reducible repeat' first
      | assumption | intro _ | apply State.setPlot_only | apply State.cntBar_only | apply State.leaveNear_only
      | apply State.settle_only | dsimp only | split
    all_goals first | exact hF.sub rfl | exact hF.bit rfl
  | cons a r ih =>
    intro s hK
    unfold State.evictSteps
    with_reducible repeat' first
      | assumption | apply ih | intro _ | apply State.setPlot_only | apply State.cntBar_only | apply State.leaveNear_only
      | apply State.settle_only | dsimp only | split
    all_goals first | exact hF.sub rfl | exact hF.bit rfl

theorem State.evictWalk_only {Fm : Nat} {s0 : State} (h : Half) {s : State} (hF : Inside 11065984910864 Fm) (hK : Only Fm s0 s) :
    Only Fm s0 (State.evictWalk h s).2 := by
  unfold State.evictWalk
  with_reducible repeat' first
    | assumption | intro _ | apply State.evictSteps_only | dsimp only | split
  all_goals first | exact hF.sub rfl | exact hF.bit rfl

theorem State.poolRoom_only {Fm : Nat} {s0 : State} (h : Half) {s : State} (hF : Inside 11065984910864 Fm) (hK : Only Fm s0 s) :
    Only Fm s0 (State.poolRoom h s).2 := by
  unfold State.poolRoom
  with_reducible repeat' first
    | assumption | intro _ | apply State.evictWalk_only | dsimp only | split | (refine Only.snd (by assumption) ?_)
  all_goals first | exact hF.sub rfl | exact hF.bit rfl

theorem State.slotRoom_only {Fm : Nat} {s0 : State} (h : Half) {s : State} (hF : Inside 11065984910864 Fm) (hK : Only Fm s0 s) :
    Only Fm s0 (State.slotRoom h s).2 := by
  unfold State.slotRoom
  with_reducible repeat' first
    | assumption | intro _ | apply State.tickFree_only | apply State.evictWalk_only | dsimp only | split
  all_goals first | exact hF.sub rfl | exact hF.bit rfl

theorem State.poolTrim_only {Fm : Nat} {s0 : State} (h : Half) (hF : Inside 11065984910864 Fm) : ∀ (rest_ : Nat) {s : State}, Only Fm s0 s →
    Only Fm s0 (State.poolTrim h rest_ s) := by
  intro rest_
  induction rest_ with
  | zero =>
    intro s hK
    unfold State.poolTrim
    with_reducible repeat' first
      | assumption | intro _ | apply Only.ite | apply State.evictWalk_only | dsimp only | split
      | (refine Only.snd (by assumption) ?_)
    all_goals first | exact hF.sub rfl | exact hF.bit rfl
  | succ n ih =>
    intro s hK
    unfold State.poolTrim
    with_reducible repeat' first
      | assumption | apply ih | intro _ | apply Only.ite | apply State.evictWalk_only | dsimp only | split
      | (refine Only.snd (by assumption) ?_)
    all_goals first | exact hF.sub rfl | exact hF.bit rfl

theorem State.poolAfter_only {Fm : Nat} {s0 : State} (p : Nat) (was : Bool) {s : State} (hF : Inside 11065984910864 Fm) (hK : Only Fm s0 s) :
    Only Fm s0 (State.poolAfter p was s) := by
  unfold State.poolAfter
  with_reducible repeat' first
    | assumption | intro _ | apply Only.ite | apply State.poolTrim_only | dsimp only | split
  all_goals first | exact hF.sub rfl | exact hF.bit rfl

theorem State.removeClaim_only {Fm : Nat} {s0 : State} (p t cls : Nat) (free : Bool) {s : State} (hF : Inside 11065984910864 Fm) (hK : Only Fm s0 s) :
    Only Fm s0 (State.removeClaim p t cls free s) := by
  unfold State.removeClaim
  with_reducible repeat' first
    | assumption | intro _ | apply State.setPlot_only | apply State.leaveNear_only | apply State.poolAfter_only
    | apply State.settle_only | dsimp only | split
  all_goals first | exact hF.sub rfl | exact hF.bit rfl

theorem State.removePin_only {Fm : Nat} {s0 : State} (p t cls : Nat) (free : Bool) {s : State} (hF : Inside 11065984910864 Fm) (hK : Only Fm s0 s) :
    Only Fm s0 (State.removePin p t cls free s) := by
  unfold State.removePin
  with_reducible repeat' first
    | assumption | intro _ | apply Only.ite | apply State.setPlot_only | apply State.leaveNear_only | apply State.poolAfter_only
    | apply State.settle_only | dsimp only | split
  all_goals first | exact hF.sub rfl | exact hF.bit rfl

theorem State.endCancel_only {Fm : Nat} {s0 : State} (p : Nat) {s : State} (hF : Inside 8798240538640 Fm) (hK : Only Fm s0 s) :
    Only Fm s0 (State.endCancel p s) := by
  unfold State.endCancel
  with_reducible repeat' first
    | assumption | intro _ | apply State.setPlot_only | apply State.leaveNear_only | dsimp only | split
  all_goals first | exact hF.sub rfl | exact hF.bit rfl

theorem State.cancelFarMove_only {Fm : Nat} {s0 : State} (p : Nat) {s : State} (hF : Inside 32768 Fm) (hK : Only Fm s0 s) :
    Only Fm s0 (State.cancelFarMove p s) := by
  unfold State.cancelFarMove
  with_reducible repeat' first
    | assumption | intro _ | apply State.modPlot_only | apply State.dropNear_only | dsimp only | split
  all_goals first | exact hF.sub rfl | exact hF.bit rfl

theorem State.cancelMove_only {Fm : Nat} {s0 : State} (p : Nat) {s : State} (hF : Inside 8798240538640 Fm) (hK : Only Fm s0 s) :
    Only Fm s0 (State.cancelMove p s) := by
  unfold State.cancelMove
  with_reducible repeat' first
    | assumption | intro _ | apply Only.ite | apply State.setPlot_only | apply State.cancelFarMove_only
    | apply State.endCancel_only | dsimp only | split
  all_goals first | exact hF.sub rfl | exact hF.bit rfl

theorem State.yieldFar_only {Fm : Nat} {s0 : State} (p t : Nat) (pin : Bool) {s : State} (hF : Inside 8798240538640 Fm) (hK : Only Fm s0 s) :
    Only Fm s0 (State.yieldFar p t pin s) := by
  unfold State.yieldFar
  with_reducible repeat' first
    | assumption | intro _ | apply Only.ite | apply State.cancelMove_only | dsimp only | split
  all_goals first | exact hF.sub rfl | exact hF.bit rfl

theorem State.startPromotion_only {Fm : Nat} {s0 : State} (p slot cls : Nat) (c : Claim) (pin : Bool) {s : State} (hF : Inside 10997264320016 Fm) (hK : Only Fm s0 s) :
    Only Fm s0 (State.startPromotion p slot cls c pin s) := by
  unfold State.startPromotion
  with_reducible repeat' first
    | assumption | intro _ | apply State.modPlot_only | apply State.admitCopy_only | apply State.readNext_only | dsimp only
    | split
  all_goals first | exact hF.sub rfl | exact hF.bit rfl

theorem State.tryClaim_only {Fm : Nat} {s0 : State} (p t cls : Nat) (cause : ClaimCause) {s : State} (hF : Inside 11065984910864 Fm) (hK : Only Fm s0 s) :
    Only Fm s0 (State.tryClaim p t cls cause s).2 := by
  unfold State.tryClaim
  with_reducible repeat' first
    | assumption | intro _ | apply State.yieldFar_only | apply State.setPlot_only | apply State.poolRoom_only
    | apply State.cancelMove_only | apply State.slotRoom_only | apply State.startPromotion_only | dsimp only | split
    | (refine Only.snd (by assumption) ?_)
  all_goals first | exact hF.sub rfl | exact hF.bit rfl

theorem State.askClaim_only {Fm : Nat} {s0 : State} (p t cls : Nat) (cause : ClaimCause) {s : State} (hF : Inside 11065984910864 Fm) (hK : Only Fm s0 s) :
    Only Fm s0 (State.askClaim p t cls cause s) := by
  unfold State.askClaim
  with_reducible repeat' first
    | assumption | intro _ | apply State.tryClaim_only | apply State.modTier_only | apply State.refuseClaim_only
    | apply State.settle_only | dsimp only | split | (refine Only.snd (by assumption) ?_)
  all_goals first | exact hF.sub rfl | exact hF.bit rfl

theorem State.retryClaim_only {Fm : Nat} {s0 : State} (w : WaitClaim) {s : State} (hF : Inside 11065984910864 Fm) (hK : Only Fm s0 s) :
    Only Fm s0 (State.retryClaim w s) := by
  unfold State.retryClaim
  with_reducible repeat' first
    | assumption | intro _ | apply Only.ite | apply State.tryClaim_only | apply State.modTier_only
    | apply State.refuseClaim_only | apply State.settle_only | dsimp only | split | (refine Only.snd (by assumption) ?_)
  all_goals first | exact hF.sub rfl | exact hF.bit rfl

theorem State.dropWait_only {Fm : Nat} {s0 : State} (w : WaitClaim) {s : State} (hF : Inside 2267744405008 Fm) (hK : Only Fm s0 s) :
    Only Fm s0 (State.dropWait w s) := by
  unfold State.dropWait
  with_reducible repeat' first
    | assumption | intro _ | apply State.modTier_only | apply State.refuseClaim_only | dsimp only | split
  all_goals first | exact hF.sub rfl | exact hF.bit rfl

theorem State.bulkRelief_only {Fm : Nat} {s0 : State} {p : Nat} {s t : State} (e : s.bulkRelief = some (p, t))
    (hF : Inside 8798240538640 Fm) (hK : Only Fm s0 s) : Only Fm s0 t := by
  unfold State.bulkRelief at e
  dsimp only at e
  split at e
  · cases e
  · split at e
    · cases e
    · obtain ⟨a, h, g⟩ := Option.map_eq_some_iff.1 e
      cases g
      exact InOption.some' h (State.startFarMove_only _ _ _ _ _ (hF.sub rfl) hK)

theorem State.mediaMove_only {Fm : Nat} {s0 : State} (p j : Nat) (bad : List Nat) (source : Nat) {s : State} (hF : Inside 3367254885904 Fm) (hK : Only Fm s0 s) :
    Only Fm s0 (State.mediaMove p j bad source s) := by
  unfold State.mediaMove
  with_reducible repeat' first
    | assumption | intro _ | apply State.logRec_only | apply State.fmStd_only | dsimp only | split
  all_goals first | exact hF.sub rfl | exact hF.bit rfl

theorem State.endPromotion_only {Fm : Nat} {s0 : State} (p : Nat) {s : State} (hF : Inside 8798240538640 Fm) (hK : Only Fm s0 s) :
    Only Fm s0 (State.endPromotion p s) := by
  unfold State.endPromotion
  with_reducible repeat' first
    | assumption | intro _ | apply State.setPlot_only | apply State.leaveNear_only | dsimp only | split
  all_goals first | exact hF.sub rfl | exact hF.bit rfl

theorem State.endFarMove_only {Fm : Nat} {s0 : State} (p : Nat) {s : State} (hF : Inside 32768 Fm) (hK : Only Fm s0 s) :
    Only Fm s0 (State.endFarMove p s) := by
  unfold State.endFarMove
  with_reducible repeat' first
    | assumption | intro _ | apply State.modPlot_only | apply State.modTier_only | apply State.dropNear_only | dsimp only
    | split
  all_goals first | exact hF.sub rfl | exact hF.bit rfl

theorem State.farWrite_only {Fm : Nat} {s0 : State} (l : Nat) (addr : W64) (b : List Byte) {s : State} (hF : Inside 2199023781376 Fm) (hK : Only Fm s0 s) :
    Only Fm s0 (State.farWrite l addr b s) := by
  unfold State.farWrite
  with_reducible repeat' first
    | assumption | intro _ | apply State.request_only | dsimp only | split
  all_goals first | exact hF.sub rfl | exact hF.bit rfl

theorem State.storeArrived_only {Fm : Nat} {s0 : State} (p j : Nat) (e : Plot) (b : List Byte) {s : State} (hF : Inside 32768 Fm) (hK : Only Fm s0 s) :
    Only Fm s0 (State.storeArrived p j e b s) := by
  unfold State.storeArrived
  with_reducible repeat' first
    | assumption | intro _ | apply Only.ite | apply Only.forAll | apply State.modTier_only | dsimp only | split
  all_goals first | exact hF.sub rfl | exact hF.bit rfl

theorem State.blockDone_only {Fm : Nat} {s0 : State} (p : Nat) (bad : List Nat) {s : State} (hF : Inside 16580722919056 Fm) (hK : Only Fm s0 s) :
    Only Fm s0 (State.blockDone p bad s) := by
  unfold State.blockDone
  with_reducible repeat' first
    | assumption | intro _ | apply Only.ite | apply State.cancelFarMove_only | apply State.settle_only
    | apply State.moveReads_only | apply State.mediaMove_only | apply State.readNext_only | apply State.storeArrived_only
    | apply State.modTier_only | apply State.farDrop_only | apply State.moveWrites_only | apply State.setPlot_only
    | apply State.endPromotion_only | apply State.admitCopy_only | apply State.farWrite_only | apply State.endFarMove_only
    | apply State.endCancel_only | apply State.freeNear_only | apply State.takeWish_only | dsimp only | split
  all_goals first | exact hF.sub rfl | exact hF.bit rfl

theorem State.abandonPromotion_only {Fm : Nat} {s0 : State} (p : Nat) {s : State} (hF : Inside 15464031422096 Fm) (hK : Only Fm s0 s) :
    Only Fm s0 (State.abandonPromotion p s) := by
  unfold State.abandonPromotion
  with_reducible repeat' first
    | assumption | intro _ | apply Only.ite | apply State.farDrop_only | apply State.freeNear_only | apply State.takeWish_only
    | apply State.settle_only | dsimp only | split
  all_goals first | exact hF.sub rfl | exact hF.bit rfl

theorem State.countAccess_only {Fm : Nat} {s0 : State} (p t : Nat) {s : State} (hF : Inside 11065984910864 Fm) (hK : Only Fm s0 s) :
    Only Fm s0 (State.countAccess p t s) := by
  unfold State.countAccess
  with_reducible repeat' first
    | assumption | intro _ | apply Only.ite | apply State.setPlot_only | apply State.askClaim_only | dsimp only | split
  all_goals first | exact hF.sub rfl | exact hF.bit rfl

/-! Machine/Store.lean. -/

theorem State.blockFail_only {Fm : Nat} {s0 : State} (t row b : Nat) (x : Xp) (st : Status) {s : State} (hF : Inside 2267743389200 Fm) (hK : Only Fm s0 s) :
    Only Fm s0 (State.blockFail t row b x st s) := by
  unfold State.blockFail
  with_reducible repeat' first
    | assumption | intro _ | apply State.modCmp_only | apply State.cntBar_only | apply State.logRec_only | dsimp only | split
  all_goals first | exact hF.sub rfl | exact hF.bit rfl

theorem State.keptUse_only {Fm : Nat} {s0 : State} (x b : Nat) (v : List Byte) {s : State} (hF : Inside 131072 Fm) (hK : Only Fm s0 s) :
    Only Fm s0 (State.keptUse x b v s) := by
  unfold State.keptUse
  with_reducible repeat' first
    | assumption | intro _ | apply State.modCmp_only | dsimp only | split
  all_goals first | exact hF.sub rfl | exact hF.bit rfl

theorem State.keptDrop_only {Fm : Nat} {s0 : State} (d : Nat → Bool) {s : State} (hF : Inside 131072 Fm) (hK : Only Fm s0 s) :
    Only Fm s0 (State.keptDrop d s) := by
  unfold State.keptDrop
  with_reducible repeat' first
    | assumption | intro _ | apply State.modCmp_only | dsimp only | split
  all_goals first | exact hF.sub rfl | exact hF.bit rfl

theorem State.stagedDrop_only {Fm : Nat} {s0 : State} (d : Nat → Bool) {s : State} (hF : Inside 67108864 Fm) (hK : Only Fm s0 s) :
    Only Fm s0 (State.stagedDrop d s) := by
  unfold State.stagedDrop
  with_reducible repeat' first
    | assumption | intro _ | (fail_if_no_progress refine Only.set_fes (hF.bit (by decide)) ?_) | dsimp only | split
  all_goals first | exact hF.sub rfl | exact hF.bit rfl

theorem State.invalidate_only {Fm : Nat} {s0 : State} (b : Nat) {s : State} (hF : Inside 67272704 Fm) (hK : Only Fm s0 s) :
    Only Fm s0 (State.invalidate b s) := by
  unfold State.invalidate
  with_reducible repeat' first
    | assumption | intro _ | apply State.keptDrop_only | apply State.stagedDrop_only | apply State.modTier_only | dsimp only
    | split
  all_goals first | exact hF.sub rfl | exact hF.bit rfl

theorem State.dropOpen_only {Fm : Nat} {s0 : State} (d : Nat → Bool) {s : State} (hF : Inside 131072 Fm) (hK : Only Fm s0 s) :
    Only Fm s0 (State.dropOpen d s) := by
  unfold State.dropOpen
  with_reducible repeat' first
    | assumption | intro _ | apply State.modCmp_only | dsimp only | split
  all_goals first | exact hF.sub rfl | exact hF.bit rfl

theorem State.mediumAt_only {Fm : Nat} {s0 : State} (r : Rd) (p : Nat) (e : Plot) (offs : List Nat) (ua : Nat) (poisoned : Bool) {s : State} (hF : Inside 3384434755088 Fm) (hK : Only Fm s0 s) :
    Only Fm s0 (State.mediumAt r p e offs ua poisoned s).2 := by
  unfold State.mediumAt
  with_reducible repeat' first
    | assumption | intro _ | apply Only.fold2 | apply Only.forAll | apply State.mediaRead_only | apply State.touchRow_only
    | apply State.mediaFind_only | dsimp only | split
  all_goals first | exact hF.sub rfl | exact hF.bit rfl

theorem State.readRaw_only {Fm : Nat} {s0 : State} (r : Rd) (p : Nat) (e : Plot) (j i : Nat) {s : State} (hF : Inside 3384434755088 Fm) (hK : Only Fm s0 s) :
    Only Fm s0 (State.readRaw r p e j i s).2 := by
  unfold State.readRaw
  with_reducible repeat' first
    | assumption | intro _ | apply State.mediumAt_only | dsimp only | split | (refine Only.snd (by assumption) ?_)
  all_goals first | exact hF.sub rfl | exact hF.bit rfl

theorem State.expandFor_only {Fm : Nat} {s0 : State} (r : Rd) (p : Nat) (e : Plot) (j : Nat) (st : List Byte) {s : State} (hF : Inside 2267743389200 Fm) (hK : Only Fm s0 s) :
    Only Fm s0 (State.expandFor r p e j st s).2 := by
  unfold State.expandFor
  with_reducible repeat' first
    | assumption | intro _ | apply State.keptUse_only | apply State.blockFail_only | dsimp only | split
  all_goals first | exact hF.sub rfl | exact hF.bit rfl

theorem State.readBlock_only {Fm : Nat} {s0 : State} (r : Rd) (p : Nat) (e : Plot) (j : Nat) {s : State} (hF : Inside 3384434886160 Fm) (hK : Only Fm s0 s) :
    Only Fm s0 (State.readBlock r p e j s).2 := by
  unfold State.readBlock
  with_reducible repeat' first
    | assumption | intro _ | apply State.keptUse_only | apply State.expandFor_only | apply State.mediumAt_only | dsimp only
    | split | (refine Only.snd (by assumption) ?_)
  all_goals first | exact hF.sub rfl | exact hF.bit rfl

theorem State.readCoded_only {Fm : Nat} {s0 : State} (r : Rd) (p : Nat) (e : Plot) (j i : Nat) {s : State} (hF : Inside 3384434886160 Fm) (hK : Only Fm s0 s) :
    Only Fm s0 (State.readCoded r p e j i s).2 := by
  unfold State.readCoded
  with_reducible repeat' first
    | assumption | intro _ | apply State.readRaw_only | apply State.readBlock_only | dsimp only | split
    | (refine Only.snd (by assumption) ?_)
  all_goals first | exact hF.sub rfl | exact hF.bit rfl

theorem State.readPlotLine_only {Fm : Nat} {s0 : State} (r : Rd) (ua : Nat) {s : State} (hF : Inside 3384434886160 Fm) (hK : Only Fm s0 s) :
    Only Fm s0 (State.readPlotLine r ua s).2 := by
  unfold State.readPlotLine
  with_reducible repeat' first
    | assumption | intro _ | apply Only.ite | apply State.cntBar_only | apply State.readRaw_only | apply State.readCoded_only
    | dsimp only | split
  all_goals first | exact hF.sub rfl | exact hF.bit rfl

theorem State.readScalePart_only {Fm : Nat} {s0 : State} (r : Rd) (w : SWin) (o n : Nat) {s : State} (hF : Inside 3384434886160 Fm) (hK : Only Fm s0 s) :
    Only Fm s0 (State.readScalePart r w o n s).2 := by
  unfold State.readScalePart
  with_reducible repeat' first
    | assumption | intro _ | apply State.readBlock_only | dsimp only | split | (refine Only.snd (by assumption) ?_)
  all_goals first | exact hF.sub rfl | exact hF.bit rfl

theorem State.readScale_only {Fm : Nat} {s0 : State} (r : Rd) (w : SWin) (ua : Nat) {s : State} (hF : Inside 3384434886160 Fm) (hK : Only Fm s0 s) :
    Only Fm s0 (State.readScale r w ua s).2 := by
  unfold State.readScale
  with_reducible repeat' first
    | assumption | intro _ | apply State.readScalePart_only | dsimp only | split | (refine Only.snd (by assumption) ?_)
  all_goals first | exact hF.sub rfl | exact hF.bit rfl

theorem State.readLine_only {Fm : Nat} {s0 : State} (r : Rd) (ua : Nat) {s : State} (hF : Inside 3384434886160 Fm) (hK : Only Fm s0 s) :
    Only Fm s0 (State.readLine r ua s).2 := by
  unfold State.readLine
  with_reducible repeat' first
    | assumption | intro _ | apply State.readScale_only | apply State.readPlotLine_only | dsimp only | split
  all_goals first | exact hF.sub rfl | exact hF.bit rfl

theorem State.touchWrite_only {Fm : Nat} {s0 : State} (p j : Nat) {s : State} (hF : Inside 10995116836352 Fm) (hK : Only Fm s0 s) :
    Only Fm s0 (State.touchWrite p j s) := by
  unfold State.touchWrite
  with_reducible repeat' first
    | assumption | intro _ | apply Only.ite | apply State.setPlot_only | apply State.modTier_only | apply State.readNext_only
    | dsimp only | split
  all_goals first | exact hF.sub rfl | exact hF.bit rfl

theorem State.setPoison_only {Fm : Nat} {s0 : State} (e : Plot) (keys : List Nat) (v : Bool) {s : State} (hF : Inside 32768 Fm) (hK : Only Fm s0 s) :
    Only Fm s0 (State.setPoison e keys v s) := by
  unfold State.setPoison
  with_reducible repeat' first
    | assumption | intro _ | apply Only.ite | apply State.modTier_only | dsimp only | split
  all_goals first | exact hF.sub rfl | exact hF.bit rfl

theorem State.markWritten_only {Fm : Nat} {s0 : State} (l : Nat) {s : State} (hF : Inside 32768 Fm) (hK : Only Fm s0 s) :
    Only Fm s0 (State.markWritten l s) := by
  unfold State.markWritten
  with_reducible repeat' first
    | assumption | intro _ | apply State.modTier_only | dsimp only | split
  all_goals first | exact hF.sub rfl | exact hF.bit rfl

theorem State.sendLine_only {Fm : Nat} {s0 : State} (p : Nat) (e : Plot) (off : Nat) (b : List Byte) {s : State} (hF : Inside 2216203650560 Fm) (hK : Only Fm s0 s) :
    Only Fm s0 (State.sendLine p e off b s) := by
  unfold State.sendLine
  with_reducible repeat' first
    | assumption | intro _ | apply Only.ite | apply State.farWrite_only | apply State.queueWrite_only | dsimp only | split
  all_goals first | exact hF.sub rfl | exact hF.bit rfl

theorem State.writeRaw_only {Fm : Nat} {s0 : State} (t p : Nat) (e : Plot) (j i : Nat) (kv : BitVec 512) (d : Line) (be : W64) (poison : Bool) {s : State} (hF : Inside 12180527810064 Fm) (hK : Only Fm s0 s) :
    Only Fm s0 (State.writeRaw t p e j i kv d be poison s) := by
  unfold State.writeRaw
  with_reducible repeat' first
    | assumption | intro _ | apply Only.ite | apply State.mediumAt_only | apply State.modTier_only | apply State.setPoison_only
    | apply State.sendLine_only | apply State.markWritten_only | apply State.touchWrite_only | dsimp only | split
  all_goals first | exact hF.sub rfl | exact hF.bit rfl

theorem State.storeFoot_only {Fm : Nat} {s0 : State} (b : Nat) (v : List Byte) (bad : NSet) {s : State} (hF : Inside 11081016182288 Fm) (hK : Only Fm s0 s) :
    Only Fm s0 (State.storeFoot b v bad s) := by
  unfold State.storeFoot
  with_reducible repeat' first
    | assumption | intro _ | apply Only.ite | apply State.setPoison_only | apply State.modTier_only | apply State.cntBar_only
    | apply State.logRec_only | apply State.sendLine_only | apply State.touchWrite_only | dsimp only | split
  all_goals first | exact hF.sub rfl | exact hF.bit rfl

theorem State.mergeReads_only {Fm : Nat} {s0 : State} (p : Nat) (e : Plot) (j : Nat) {s : State} (hF : Inside 3384434755088 Fm) (hK : Only Fm s0 s) :
    Only Fm s0 (State.mergeReads p e j s) := by
  unfold State.mergeReads
  with_reducible repeat' first
    | assumption | intro _ | apply Only.ite | apply Only.forAll | apply State.mediaRead_only | dsimp only | split
  all_goals first | exact hF.sub rfl | exact hF.bit rfl

theorem State.mergeBase_only {Fm : Nat} {s0 : State} (b : Nat) (e : Plot) (st : List Byte) {s : State} (hF : Inside 3384434886160 Fm) (hK : Only Fm s0 s) :
    Only Fm s0 (State.mergeBase b e st s).2.2 := by
  unfold State.mergeBase
  with_reducible repeat' first
    | assumption | intro _ | apply State.mergeReads_only | apply State.blockFail_only | dsimp only | split
  all_goals first | exact hF.sub rfl | exact hF.bit rfl

theorem State.closeWith_only {Fm : Nat} {s0 : State} (o : OpenBlk) (st : List Byte) {s : State} (hF : Inside 12180595050000 Fm) (hK : Only Fm s0 s) :
    Only Fm s0 (State.closeWith o st s) := by
  unfold State.closeWith
  with_reducible repeat' first
    | assumption | intro _ | apply State.dropOpen_only | apply State.mergeBase_only | apply State.invalidate_only
    | apply State.storeFoot_only | dsimp only | split
  all_goals first | exact hF.sub rfl | exact hF.bit rfl

theorem State.closeBlk_only {Fm : Nat} {s0 : State} (o : OpenBlk) {s : State} (hF : Inside 16578641561232 Fm) (hK : Only Fm s0 s) :
    Only Fm s0 (State.closeBlk o s) := by
  unfold State.closeBlk
  with_reducible repeat' first
    | assumption | intro _ | apply Only.ite | apply State.dropOpen_only | apply State.farDrop_only | apply State.closeWith_only
    | apply State.modCmp_only | apply State.farFetch_only | dsimp only | split
  all_goals first | exact hF.sub rfl | exact hF.bit rfl

theorem State.makeBuffer_only {Fm : Nat} {s0 : State} (x : Nat) {s : State} (hF : Inside 16578641561232 Fm) (hK : Only Fm s0 s) :
    Only Fm s0 (State.makeBuffer x s) := by
  unfold State.makeBuffer
  with_reducible repeat' first
    | assumption | intro _ | apply Only.ite | apply State.closeBlk_only | dsimp only | split
  all_goals first | exact hF.sub rfl | exact hF.bit rfl

theorem State.assemble_only {Fm : Nat} {s0 : State} (x b i : Nat) (v : Line) (poison : Bool) {s : State} (hF : Inside 131072 Fm) (hK : Only Fm s0 s) :
    Only Fm s0 (State.assemble x b i v poison s) := by
  unfold State.assemble
  with_reducible repeat' first
    | assumption | intro _ | apply State.modCmp_only | dsimp only | split
  all_goals first | exact hF.sub rfl | exact hF.bit rfl

theorem State.writeFoot_only {Fm : Nat} {s0 : State} (x p : Nat) (e : Plot) (j i : Nat) (d : Line) (be : W64) (poison : Bool) {s : State} (hF : Inside 16578641561232 Fm) (hK : Only Fm s0 s) :
    Only Fm s0 (State.writeFoot x p e j i d be poison s) := by
  unfold State.writeFoot
  with_reducible repeat' first
    | assumption | intro _ | apply Only.ite | apply State.makeBuffer_only | apply State.mergeBase_only
    | apply State.assemble_only | apply State.markWritten_only | apply State.touchWrite_only | apply State.closeBlk_only
    | dsimp only | split
  all_goals first | exact hF.sub rfl | exact hF.bit rfl

theorem State.writeLine_only {Fm : Nat} {s0 : State} (x t : Nat) (enc : Option Nat) (ua : Nat) (d : Line) (be : W64) (poison : Bool) {s : State} (hF : Inside 16578641561232 Fm) (hK : Only Fm s0 s) :
    Only Fm s0 (State.writeLine x t enc ua d be poison s).2 := by
  unfold State.writeLine
  with_reducible repeat' first
    | assumption | intro _ | apply Only.ite | apply State.cntBar_only | apply State.logRec_only | apply State.invalidate_only
    | apply State.writeRaw_only | apply State.writeFoot_only | dsimp only | split
  all_goals first | exact hF.sub rfl | exact hF.bit rfl

/-! Machine/Maint.lean. -/

theorem State.modAct_only {Fm : Nat} {s0 : State} (id : Nat) (f : Activity → Activity) {s : State} (hF : Inside 68719476736 Fm) (hK : Only Fm s0 s) :
    Only Fm s0 (State.modAct id f s) := by
  unfold State.modAct
  with_reducible repeat' first
    | assumption | intro _ | apply State.modRas_only | dsimp only | split
  all_goals first | exact hF.sub rfl | exact hF.bit rfl

theorem State.setDefer_only {Fm : Nat} {s0 : State} (code unit st : Nat) {s : State} (hF : Inside 16 Fm) (hK : Only Fm s0 s) :
    Only Fm s0 (State.setDefer code unit st s) := by
  unfold State.setDefer
  with_reducible repeat' first
    | assumption | intro _ | apply State.modStw_only | dsimp only | split
  all_goals first | exact hF.sub rfl | exact hF.bit rfl

theorem State.countPark_only {Fm : Nat} {s0 : State} (scope : List Nat) {s : State} (hF : Inside 16 Fm) (hK : Only Fm s0 s) :
    Only Fm s0 (State.countPark scope s) := by
  unfold State.countPark
  with_reducible repeat' first
    | assumption | intro _ | apply State.cntStw_only | dsimp only | split
  all_goals first | exact hF.sub rfl | exact hF.bit rfl

theorem State.maintAsk_only {Fm : Nat} {s0 : State} (code : Nat) (scope : List Nat) (unit : Nat) {s : State} (hF : Inside 68719476752 Fm) (hK : Only Fm s0 s) :
    Only Fm s0 (State.maintAsk code scope unit s) := by
  unfold State.maintAsk
  with_reducible repeat' first
    | assumption | intro _ | apply Only.ite | apply State.modRas_only | apply State.countPark_only | apply State.setDefer_only
    | dsimp only | split
  all_goals first | exact hF.sub rfl | exact hF.bit rfl

theorem State.grantWon_only {Fm : Nat} {s0 : State} {s : State} (hF : Inside 68719476736 Fm) (hK : Only Fm s0 s) :
    Only Fm s0 (State.grantWon s) := by
  unfold State.grantWon
  with_reducible repeat' first
    | assumption | intro _ | apply Only.ite | apply Only.forAll | apply State.modAct_only | dsimp only | split
  all_goals first | exact hF.sub rfl | exact hF.bit rfl

theorem State.maintEnd_only {Fm : Nat} {s0 : State} (code unit : Nat) {s : State} (hF : Inside 68719476736 Fm) (hK : Only Fm s0 s) :
    Only Fm s0 (State.maintEnd code unit s) := by
  unfold State.maintEnd
  with_reducible repeat' first
    | assumption | intro _ | apply State.modRas_only | apply State.grantWon_only | dsimp only | split
  all_goals first | exact hF.sub rfl | exact hF.bit rfl

theorem State.park_only {Fm : Nat} {s0 : State} (id : Nat) {s : State} (hF : Inside 68719476752 Fm) (hK : Only Fm s0 s) :
    Only Fm s0 (State.park id s) := by
  unfold State.park
  with_reducible repeat' first
    | assumption | intro _ | apply Only.ite | apply State.modAct_only | apply State.countPark_only | apply State.setDefer_only
    | apply State.grantWon_only | dsimp only | split
  all_goals first | exact hF.sub rfl | exact hF.bit rfl

theorem State.resume_only {Fm : Nat} {s0 : State} (id : Nat) {s : State} (hF : Inside 68719476752 Fm) (hK : Only Fm s0 s) :
    Only Fm s0 (State.resume id s) := by
  unfold State.resume
  with_reducible repeat' first
    | assumption | intro _ | apply Only.ite | apply State.modAct_only | apply State.setDefer_only | dsimp only | split
  all_goals first | exact hF.sub rfl | exact hF.bit rfl

theorem execMaintGrantRequest_only {Fm : Nat} {s0 : State} (code : BitVec 4) (scope : List Nat) (unit : Nat) {s : State} (hF : Inside 68719476752 Fm) (hK : Only Fm s0 s) :
    Answers (Only Fm s0) (execMaintGrantRequest code scope unit s) := by
  unfold execMaintGrantRequest
  with_reducible repeat' first
    | assumption | intro _ | apply Answers.next | apply Answers.ite | apply State.maintAsk_only | dsimp only | split
  all_goals first | exact hF.sub rfl | exact hF.bit rfl

theorem execMaintPark_only {Fm : Nat} {s0 : State} (id : Nat) {s : State} (hF : Inside 68719476752 Fm) (hK : Only Fm s0 s) :
    Answers (Only Fm s0) (execMaintPark id s) := by
  unfold execMaintPark
  with_reducible repeat' first
    | assumption | intro _ | apply Answers.next | apply State.park_only | dsimp only | split
  all_goals first | exact hF.sub rfl | exact hF.bit rfl

theorem execMaintResume_only {Fm : Nat} {s0 : State} (id : Nat) {s : State} (hF : Inside 68719476752 Fm) (hK : Only Fm s0 s) :
    Answers (Only Fm s0) (execMaintResume id s) := by
  unfold execMaintResume
  with_reducible repeat' first
    | assumption | intro _ | apply Answers.next | apply State.resume_only | dsimp only | split
  all_goals first | exact hF.sub rfl | exact hF.bit rfl

theorem execLongDeferral_only {Fm : Nat} {s0 : State} (id : Nat) {s : State} (hF : Inside 2267743258128 Fm) (hK : Only Fm s0 s) :
    Answers (Only Fm s0) (execLongDeferral id s) := by
  unfold execLongDeferral
  with_reducible repeat' first
    | assumption | intro _ | apply Answers.next | apply Answers.ite | apply State.modAct_only | apply State.logRec_only
    | dsimp only | split
  all_goals first | exact hF.sub rfl | exact hF.bit rfl

/-! Machine/Ready.lean. -/

theorem State.withReady_only {Fm : Nat} {s0 : State} (f : State → State) {s : State} (hf : ∀ t, Only Fm s0 t → Only Fm s0 (f t)) (hF : Inside 2199023781376 Fm) (hK : Only Fm s0 s) :
    Only Fm s0 (State.withReady f s) := by
  unfold State.withReady
  with_reducible repeat' first
    | assumption | intro _ | apply Only.forAll | apply State.raiseMsix_only | exact hf _ hK | dsimp only | split
  all_goals first | exact hF.sub rfl | exact hF.bit rfl

end Sys2Proof.Machine
end

