-- ==== Sys2Proof/Laws/OnlyMemory.lean ====
section
/-! SUPPORT. The fields of the state that each operation and each row may change: Cistern, plots, the Almanac, regions, rings, host memory, channels and reliability. -/

namespace Sys2Proof.Machine

set_option linter.unusedTactic false
set_option linter.unreachableTactic false
set_option linter.unusedVariables false

open Host (Outcome)

/-! Machine/Cistern.lean. -/

theorem State.setBank_only {Fm : Nat} {s0 : State} (n : Nat) (v : Bank) {s : State} (hF : Inside 34359738368 Fm) (hK : Only Fm s0 s) :
    Only Fm s0 (State.setBank n v s) := by
  unfold State.setBank
  with_reducible repeat' first
    | assumption | intro _ | apply State.modCst_only | dsimp only | split
  all_goals first | exact hF.sub rfl | exact hF.bit rfl

theorem State.modBank_only {Fm : Nat} {s0 : State} (n : Nat) (f : Bank → Bank) {s : State} (hF : Inside 34359738368 Fm) (hK : Only Fm s0 s) :
    Only Fm s0 (State.modBank n f s) := by
  unfold State.modBank
  with_reducible repeat' first
    | assumption | intro _ | apply State.setBank_only | dsimp only | split
  all_goals first | exact hF.sub rfl | exact hF.bit rfl

theorem State.zeroBank_only {Fm : Nat} {s0 : State} (b : Nat) {s : State} (hF : Inside 34359738368 Fm) (hK : Only Fm s0 s) :
    Only Fm s0 (State.zeroBank b s) := by
  unfold State.zeroBank
  with_reducible repeat' first
    | assumption | intro _ | apply State.modCst_only | dsimp only | split
  all_goals first | exact hF.sub rfl | exact hF.bit rfl

theorem State.bankCorrected_only {Fm : Nat} {s0 : State} (b entry : Nat) {s : State} (hF : Inside 3401614624272 Fm) (hK : Only Fm s0 s) :
    Only Fm s0 (State.bankCorrected b entry s) := by
  unfold State.bankCorrected
  with_reducible repeat' first
    | assumption | intro _ | apply Only.ite | apply State.cntStw_only | apply State.setBank_only | apply State.logRec_only
    | apply State.fmStd_only | dsimp only | split
  all_goals first | exact hF.sub rfl | exact hF.bit rfl

theorem State.cstUncorrected_only {Fm : Nat} {s0 : State} (t : Option Nat) (src w : Nat) {s : State} (hF : Inside 2267743258128 Fm) (hK : Only Fm s0 s) :
    Only Fm s0 (State.cstUncorrected t src w s) := by
  unfold State.cstUncorrected
  with_reducible repeat' first
    | assumption | intro _ | apply State.cntStw_only | apply State.logRec_only | dsimp only | split
  all_goals first | exact hF.sub rfl | exact hF.bit rfl

theorem State.cstRead_only {Fm : Nat} {s0 : State} (t : Option Nat) (w : Nat) {s : State} (hF : Inside 3401614624272 Fm) (hK : Only Fm s0 s) :
    Only Fm s0 (State.cstRead t w s).2 := by
  unfold State.cstRead
  with_reducible repeat' first
    | assumption | intro _ | apply State.bankCorrected_only | apply State.cstUncorrected_only | dsimp only | split
  all_goals first | exact hF.sub rfl | exact hF.bit rfl

theorem State.cstReadAll_only {Fm : Nat} {s0 : State} (t : Option Nat) (ws : List Nat) {s : State} (hF : Inside 3401614624272 Fm) (hK : Only Fm s0 s) :
    Only Fm s0 (State.cstReadAll t ws s).2 := by
  unfold State.cstReadAll
  with_reducible repeat' first
    | assumption | intro _ | apply Only.fold2 | apply State.cstRead_only | dsimp only | split
  all_goals first | exact hF.sub rfl | exact hF.bit rfl

theorem State.cstFresh_only {Fm : Nat} {s0 : State} (ws : List Nat) {s : State} (hF : Inside 34359738368 Fm) (hK : Only Fm s0 s) :
    Only Fm s0 (State.cstFresh ws s) := by
  unfold State.cstFresh
  with_reducible repeat' first
    | assumption | intro _ | apply State.modCst_only | dsimp only | split
  all_goals first | exact hF.sub rfl | exact hF.bit rfl

theorem State.cstFreshBank_only {Fm : Nat} {s0 : State} (b : Nat) {s : State} (hF : Inside 34359738368 Fm) (hK : Only Fm s0 s) :
    Only Fm s0 (State.cstFreshBank b s) := by
  unfold State.cstFreshBank
  with_reducible repeat' first
    | assumption | intro _ | apply State.modCst_only | dsimp only | split
  all_goals first | exact hF.sub rfl | exact hF.bit rfl

theorem State.wordWrite_only {Fm : Nat} {s0 : State} (t : Option Nat) (whole : Bool) (w : Nat) {s : State} (hF : Inside 3401614624272 Fm) (hK : Only Fm s0 s) :
    Only Fm s0 (State.wordWrite t whole w s) := by
  unfold State.wordWrite
  with_reducible repeat' first
    | assumption | intro _ | apply Only.ite | apply State.cstFresh_only | apply State.cstRead_only | apply State.modCst_only
    | dsimp only | split | (refine Only.snd (by assumption) ?_)
  all_goals first | exact hF.sub rfl | exact hF.bit rfl

theorem State.dropBank_only {Fm : Nat} {s0 : State} (b : Nat) {s : State} (hF : Inside 67108864 Fm) (hK : Only Fm s0 s) :
    Only Fm s0 (State.dropBank b s) := by
  unfold State.dropBank
  with_reducible repeat' first
    | assumption | intro _ | (fail_if_no_progress refine Only.set_fes (hF.bit (by decide)) ?_) | dsimp only | split
  all_goals first | exact hF.sub rfl | exact hF.bit rfl

theorem State.wakeBank_only {Fm : Nat} {s0 : State} (b : Nat) {s : State} (hF : Inside 34359738368 Fm) (hK : Only Fm s0 s) :
    Only Fm s0 (State.wakeBank b s) := by
  unfold State.wakeBank
  with_reducible repeat' first
    | assumption | intro _ | apply State.modCst_only | apply State.modBank_only | dsimp only | split
  all_goals first | exact hF.sub rfl | exact hF.bit rfl

theorem State.returnBank_only {Fm : Nat} {s0 : State} (b : Nat) {s : State} (hF : Inside 34359738368 Fm) (hK : Only Fm s0 s) :
    Only Fm s0 (State.returnBank b s) := by
  unfold State.returnBank
  with_reducible repeat' first
    | assumption | intro _ | apply State.modBank_only | dsimp only | split
  all_goals first | exact hF.sub rfl | exact hF.bit rfl

theorem State.allotBank_only {Fm : Nat} {s0 : State} {h : Half} {k : BankKind} {owner b : Nat} {s t : State}
    (e : s.allotBank h k owner = some (b, t)) (hF : Inside 34359738368 Fm) (hK : Only Fm s0 s) : Only Fm s0 t := by
  unfold State.allotBank at e
  split at e
  · cases e
    exact State.modBank_only _ _ (hF.sub rfl) (State.wakeBank_only _ (hF.sub rfl) hK)
  · cases e

theorem State.allotJob_only {Fm : Nat} {s0 : State} (id : Nat) {s : State} (hF : Inside 34363932672 Fm) (hK : Only Fm s0 s) :
    Only Fm s0 (State.allotJob id s) := by
  unfold State.allotJob
  with_reducible repeat' first
    | assumption | intro _ | apply Only.ite | apply State.modCst_only | apply State.modJob_only | dsimp only | split
    | (refine State.allotBank_only (by assumption) ?_ ?_)
  all_goals first | exact hF.sub rfl | exact hF.bit rfl

theorem State.retryAllot_only {Fm : Nat} {s0 : State} {s : State} (hF : Inside 34363932672 Fm) (hK : Only Fm s0 s) :
    Only Fm s0 (State.retryAllot s) := by
  unfold State.retryAllot
  with_reducible repeat' first
    | assumption | intro _ | apply Only.forAll | apply State.allotJob_only | dsimp only | split
  all_goals first | exact hF.sub rfl | exact hF.bit rfl

theorem State.bcStatus_only {Fm : Nat} {s0 : State} (st : Status) {s : State} (hF : Inside 16 Fm) (hK : Only Fm s0 s) :
    Only Fm s0 (State.bcStatus st s) := by
  unfold State.bcStatus
  with_reducible repeat' first
    | assumption | intro _ | apply State.modStw_only | dsimp only | split
  all_goals first | exact hF.sub rfl | exact hF.bit rfl

theorem State.startHandover_only {Fm : Nat} {s0 : State} (b : Nat) (dst : Option Nat) (kind : BankKind) {s : State} (hF : Inside 34359738384 Fm) (hK : Only Fm s0 s) :
    Only Fm s0 (State.startHandover b dst kind s) := by
  unfold State.startHandover
  with_reducible repeat' first
    | assumption | intro _ | apply State.modBank_only | apply State.modStw_only | dsimp only | split
  all_goals first | exact hF.sub rfl | exact hF.bit rfl

theorem execBankGiveStage_only {Fm : Nat} {s0 : State} (b : BankId) (fe : BitVec 4) {s : State} (hF : Inside 34359738384 Fm) (hK : Only Fm s0 s) :
    Answers (Only Fm s0) (execBankGiveStage b fe s) := by
  unfold execBankGiveStage
  with_reducible repeat' first
    | assumption | intro _ | apply Answers.next | apply State.startHandover_only | apply State.bcStatus_only | dsimp only
    | split
  all_goals first | exact hF.sub rfl | exact hF.bit rfl

theorem State.bankRetired_only {Fm : Nat} {s0 : State} (b : Nat) {s : State} (hF : Inside 1099511627776 Fm) (hK : Only Fm s0 s) :
    Only Fm s0 (State.bankRetired b s) := by
  unfold State.bankRetired
  with_reducible repeat' first
    | assumption | intro _ | apply State.fmHealth_only | dsimp only | split
  all_goals first | exact hF.sub rfl | exact hF.bit rfl

theorem execBankReturnPool_only {Fm : Nat} {s0 : State} (b : BankId) {s : State} (hF : Inside 34359738384 Fm) (hK : Only Fm s0 s) :
    Answers (Only Fm s0) (execBankReturnPool b s) := by
  unfold execBankReturnPool
  with_reducible repeat' first
    | assumption | intro _ | apply Answers.next | apply Only.ite | apply State.bcStatus_only | apply State.startHandover_only
    | dsimp only | split
  all_goals first | exact hF.sub rfl | exact hF.bit rfl

theorem execBankRetire_only {Fm : Nat} {s0 : State} (b : BankId) {s : State} (hF : Inside 1133871366160 Fm) (hK : Only Fm s0 s) :
    Answers (Only Fm s0) (execBankRetire b s) := by
  unfold execBankRetire
  with_reducible repeat' first
    | assumption | intro _ | apply Answers.next | apply State.startHandover_only | apply State.bcStatus_only
    | apply State.modBank_only | apply State.bankRetired_only | dsimp only | split
  all_goals first | exact hF.sub rfl | exact hF.bit rfl

theorem execBankPowerOn_only {Fm : Nat} {s0 : State} (b : BankId) {s : State} (hF : Inside 34359738384 Fm) (hK : Only Fm s0 s) :
    Answers (Only Fm s0) (execBankPowerOn b s) := by
  unfold execBankPowerOn
  with_reducible repeat' first
    | assumption | intro _ | apply Answers.next | apply State.wakeBank_only | apply State.bcStatus_only | dsimp only | split
  all_goals first | exact hF.sub rfl | exact hF.bit rfl

theorem State.toRetention_only {Fm : Nat} {s0 : State} (b : Nat) {s : State} (hF : Inside 34359738368 Fm) (hK : Only Fm s0 s) :
    Only Fm s0 (State.toRetention b s) := by
  unfold State.toRetention
  with_reducible repeat' first
    | assumption | intro _ | apply State.modBank_only | dsimp only | split
  all_goals first | exact hF.sub rfl | exact hF.bit rfl

theorem State.toFallow_only {Fm : Nat} {s0 : State} (b : Nat) {s : State} (hF : Inside 34426847232 Fm) (hK : Only Fm s0 s) :
    Only Fm s0 (State.toFallow b s) := by
  unfold State.toFallow
  with_reducible repeat' first
    | assumption | intro _ | apply Only.ite | apply State.dropBank_only | apply State.zeroBank_only | apply State.modBank_only
    | apply State.modCst_only | dsimp only | split
  all_goals first | exact hF.sub rfl | exact hF.bit rfl

theorem execBankRetention_only {Fm : Nat} {s0 : State} (b : BankId) {s : State} (hF : Inside 34359738384 Fm) (hK : Only Fm s0 s) :
    Answers (Only Fm s0) (execBankRetention b s) := by
  unfold execBankRetention
  with_reducible repeat' first
    | assumption | intro _ | apply Answers.next | apply State.toRetention_only | apply State.bcStatus_only | dsimp only | split
  all_goals first | exact hF.sub rfl | exact hF.bit rfl

theorem execBankFallow_only {Fm : Nat} {s0 : State} (b : BankId) {s : State} (hF : Inside 34426847248 Fm) (hK : Only Fm s0 s) :
    Answers (Only Fm s0) (execBankFallow b s) := by
  unfold execBankFallow
  with_reducible repeat' first
    | assumption | intro _ | apply Answers.next | apply State.toFallow_only | apply State.bcStatus_only | dsimp only | split
  all_goals first | exact hF.sub rfl | exact hF.bit rfl

theorem execHandoverComplete_only {Fm : Nat} {s0 : State} (b : BankId) {s : State} (hF : Inside 1133942669328 Fm) (hK : Only Fm s0 s) :
    Answers (Only Fm s0) (execHandoverComplete b s) := by
  unfold execHandoverComplete
  with_reducible repeat' first
    | assumption | intro _ | apply Answers.next | apply Answers.ite | apply State.dropBank_only | apply State.zeroBank_only
    | apply State.setBank_only | apply State.modStw_only | apply State.bankRetired_only | apply State.retryAllot_only
    | dsimp only | split
  all_goals first | exact hF.sub rfl | exact hF.bit rfl

theorem execZeroFillDone_only {Fm : Nat} {s0 : State} (b : BankId) {s : State} (hF : Inside 34363932672 Fm) (hK : Only Fm s0 s) :
    Answers (Only Fm s0) (execZeroFillDone b s) := by
  unfold execZeroFillDone
  with_reducible repeat' first
    | assumption | intro _ | apply Answers.next | apply Answers.ite | apply State.zeroBank_only | apply State.setBank_only
    | apply State.retryAllot_only | dsimp only | split
  all_goals first | exact hF.sub rfl | exact hF.bit rfl

theorem execBankWakeDone_only {Fm : Nat} {s0 : State} (b : BankId) {s : State} (hF : Inside 34359738368 Fm) (hK : Only Fm s0 s) :
    Answers (Only Fm s0) (execBankWakeDone b s) := by
  unfold execBankWakeDone
  with_reducible repeat' first
    | assumption | intro _ | apply Answers.next | apply Answers.ite | apply State.modCst_only | apply State.modBank_only
    | dsimp only | split
  all_goals first | exact hF.sub rfl | exact hF.bit rfl

theorem execBankAllot_only {Fm : Nat} {s0 : State} (job : Nat) {s : State} (hF : Inside 34363932672 Fm) (hK : Only Fm s0 s) :
    Answers (Only Fm s0) (execBankAllot job s) := by
  unfold execBankAllot
  with_reducible repeat' first
    | assumption | intro _ | apply Answers.next | apply State.allotJob_only | dsimp only | split
  all_goals first | exact hF.sub rfl | exact hF.bit rfl

theorem execBankIdleRetention_only {Fm : Nat} {s0 : State} (b : BankId) {s : State} (hF : Inside 34359738368 Fm) (hK : Only Fm s0 s) :
    Answers (Only Fm s0) (execBankIdleRetention b s) := by
  unfold execBankIdleRetention
  with_reducible repeat' first
    | assumption | intro _ | apply Answers.next | apply Answers.ite | apply State.toRetention_only | dsimp only | split
  all_goals first | exact hF.sub rfl | exact hF.bit rfl

theorem execBankIdleFallow_only {Fm : Nat} {s0 : State} (b : BankId) {s : State} (hF : Inside 34426847232 Fm) (hK : Only Fm s0 s) :
    Answers (Only Fm s0) (execBankIdleFallow b s) := by
  unfold execBankIdleFallow
  with_reducible repeat' first
    | assumption | intro _ | apply Answers.next | apply Answers.ite | apply State.toFallow_only | dsimp only | split
  all_goals first | exact hF.sub rfl | exact hF.bit rfl

theorem State.writeEntry_only {Fm : Nat} {s0 : State} (b : Nat) (r : CReq) {s : State} (hF : Inside 3401614624272 Fm) (hK : Only Fm s0 s) :
    Only Fm s0 (State.writeEntry b r s) := by
  unfold State.writeEntry
  with_reducible repeat' first
    | assumption | intro _ | apply Only.forAll | apply State.wordWrite_only | apply State.modCst_only | dsimp only | split
  all_goals first | exact hF.sub rfl | exact hF.bit rfl

theorem State.readEntry_only {Fm : Nat} {s0 : State} (b : Nat) (r : CReq) {s : State} (hF : Inside 3401614624272 Fm) (hK : Only Fm s0 s) :
    Only Fm s0 (State.readEntry b r s).2 := by
  unfold State.readEntry
  with_reducible repeat' first
    | assumption | intro _ | apply State.cstReadAll_only | dsimp only | split | (refine Only.snd (by assumption) ?_)
  all_goals first | exact hF.sub rfl | exact hF.bit rfl

theorem State.setPorts_only {Fm : Nat} {s0 : State} (b : Nat) (p : CPorts) {s : State} (hF : Inside 34359738368 Fm) (hK : Only Fm s0 s) :
    Only Fm s0 (State.setPorts b p s) := by
  unfold State.setPorts
  with_reducible repeat' first
    | assumption | intro _ | apply State.modCst_only | dsimp only | split
  all_goals first | exact hF.sub rfl | exact hF.bit rfl

theorem State.portEnds_only {Fm : Nat} {s0 : State} (b : BankId) (data : Option W128) (r : CReq) {s : State} (hF : Inside 2199023255552 Fm) (hK : Only Fm s0 s) :
    Only Fm s0 (State.portEnds b data r s) := by
  unfold State.portEnds
  with_reducible repeat' first
    | assumption | intro _ | apply Only.ite | apply State.emit_only | dsimp only | split
  all_goals first | exact hF.sub rfl | exact hF.bit rfl

theorem State.portCycle_only {Fm : Nat} {s0 : State} (b : BankId) (arrive : List CReq) {s : State} (hF : Inside 3401614624272 Fm) (hK : Only Fm s0 s) :
    Only Fm s0 (State.portCycle b arrive s) := by
  unfold State.portCycle
  with_reducible repeat' first
    | assumption | intro _ | apply Only.ite | apply Only.fold2 | apply Only.forAll | apply State.wakeBank_only
    | apply State.setPorts_only | apply State.readEntry_only | apply State.writeEntry_only | apply State.portEnds_only
    | apply State.cntStw_only | dsimp only | split
  all_goals first | exact hF.sub rfl | exact hF.bit rfl

theorem execPortStarveOverride_only {Fm : Nat} {s0 : State} (b : BankId) (port1 : Bool) {s : State} (hF : Inside 3401614624272 Fm) (hK : Only Fm s0 s) :
    Answers (Only Fm s0) (execPortStarveOverride b port1 s) := by
  unfold execPortStarveOverride
  with_reducible repeat' first
    | assumption | intro _ | apply Answers.next | apply Only.ite | apply State.portCycle_only | apply State.cntStw_only
    | dsimp only | split
  all_goals first | exact hF.sub rfl | exact hF.bit rfl

theorem State.setMarch_only {Fm : Nat} {s0 : State} (h : Half) (m : Option March) {s : State} (hF : Inside 34359738368 Fm) (hK : Only Fm s0 s) :
    Only Fm s0 (State.setMarch h m s) := by
  unfold State.setMarch
  with_reducible repeat' first
    | assumption | intro _ | apply State.modCst_only | dsimp only | split
  all_goals first | exact hF.sub rfl | exact hF.bit rfl

theorem State.mstStatus_only {Fm : Nat} {s0 : State} (h : Half) (st : Status) {s : State} (hF : Inside 16 Fm) (hK : Only Fm s0 s) :
    Only Fm s0 (State.mstStatus h st s) := by
  unfold State.mstStatus
  with_reducible repeat' first
    | assumption | intro _ | apply State.modStw_only | dsimp only | split
  all_goals first | exact hF.sub rfl | exact hF.bit rfl

theorem State.startMarch_only {Fm : Nat} {s0 : State} (m : March) {s : State} (hF : Inside 103079215120 Fm) (hK : Only Fm s0 s) :
    Only Fm s0 (State.startMarch m s) := by
  unfold State.startMarch
  with_reducible repeat' first
    | assumption | intro _ | apply State.setMarch_only | apply State.modStw_only | apply State.maintAsk_only | dsimp only
    | split
  all_goals first | exact hF.sub rfl | exact hF.bit rfl

theorem execMarchDestructive_only {Fm : Nat} {s0 : State} (first : BankId) (count : BitVec 9) (bg : BitVec 4) {s : State} (hF : Inside 103079215120 Fm) (hK : Only Fm s0 s) :
    Answers (Only Fm s0) (execMarchDestructive first count bg s) := by
  unfold execMarchDestructive
  with_reducible repeat' first
    | assumption | intro _ | apply Answers.next | apply Only.forAll | apply State.modBank_only | apply State.startMarch_only
    | apply State.mstStatus_only | dsimp only | split
  all_goals first | exact hF.sub rfl | exact hF.bit rfl

theorem execMarchPreserving_only {Fm : Nat} {s0 : State} (first : BankId) (count : BitVec 9) {s : State} (hF : Inside 103079215120 Fm) (hK : Only Fm s0 s) :
    Answers (Only Fm s0) (execMarchPreserving first count s) := by
  unfold execMarchPreserving
  with_reducible repeat' first
    | assumption | intro _ | apply Answers.next | apply State.startMarch_only | apply State.mstStatus_only | dsimp only | split
  all_goals first | exact hF.sub rfl | exact hF.bit rfl

theorem State.endTest_only {Fm : Nat} {s0 : State} (b : Nat) (res : Option Bool) {s : State} (hF : Inside 34359738368 Fm) (hK : Only Fm s0 s) :
    Only Fm s0 (State.endTest b res s) := by
  unfold State.endTest
  with_reducible repeat' first
    | assumption | intro _ | apply State.zeroBank_only | apply State.modBank_only | dsimp only | split
  all_goals first | exact hF.sub rfl | exact hF.bit rfl

theorem execMarchAbort_only {Fm : Nat} {s0 : State} (h : Half) {s : State} (hF : Inside 103083409424 Fm) (hK : Only Fm s0 s) :
    Answers (Only Fm s0) (execMarchAbort h s) := by
  unfold execMarchAbort
  with_reducible repeat' first
    | assumption | intro _ | apply Answers.next | apply Answers.ite | apply Only.ite | apply Only.forAll
    | apply State.mstStatus_only | apply State.endTest_only | apply State.setMarch_only | apply State.modStw_only
    | apply State.maintEnd_only | apply State.retryAllot_only | dsimp only | split
  all_goals first | exact hF.sub rfl | exact hF.bit rfl

theorem execMarchDone_only {Fm : Nat} {s0 : State} (h : Half) (failed : List Nat) (fail0 fail1 : W32) {s : State} (hF : Inside 12197711840784 Fm) (hK : Only Fm s0 s) :
    Answers (Only Fm s0) (execMarchDone h failed fail0 fail1 s) := by
  unfold execMarchDone
  with_reducible repeat' first
    | assumption | intro _ | apply Answers.next | apply Answers.ite | apply Only.ite | apply Only.forAll
    | apply State.tickFree_only | apply State.logRec_only | apply State.fmHealth_only | apply State.endTest_only
    | apply State.setStw_only | apply State.setMarch_only | apply State.maintEnd_only | apply State.retryAllot_only | dsimp only
    | split
  all_goals first | exact hF.sub rfl | exact hF.bit rfl

/-! Machine/Staging.lean. -/

theorem State.askFill_only {Fm : Nat} {s0 : State} (fe : Nat) (r : StageReq) {s : State} (hF : Inside 67108864 Fm) (hK : Only Fm s0 s) :
    Only Fm s0 (State.askFill fe r s) := by
  unfold State.askFill
  with_reducible repeat' first
    | assumption | intro _ | apply State.modFe_only | dsimp only | split
  all_goals first | exact hF.sub rfl | exact hF.bit rfl

theorem State.stagePlot_only {Fm : Nat} {s0 : State} (fe p mask t cls : Nat) (firing : Option Nat) {s : State} (hF : Inside 67108864 Fm) (hK : Only Fm s0 s) :
    Only Fm s0 (State.stagePlot fe p mask t cls firing s).2 := by
  unfold State.stagePlot
  with_reducible repeat' first
    | assumption | intro _ | apply Only.ite | apply Only.forAll | apply State.modFe_only | apply State.askFill_only | dsimp only
    | split
  all_goals first | exact hF.sub rfl | exact hF.bit rfl

theorem State.fillsDrop_only {Fm : Nat} {s0 : State} (d : Nat → Bool) {s : State} (hF : Inside 67108864 Fm) (hK : Only Fm s0 s) :
    Only Fm s0 (State.fillsDrop d s) := by
  unfold State.fillsDrop
  with_reducible repeat' first
    | assumption | intro _ | apply Only.forAll | apply State.modFe_only | dsimp only | split
  all_goals first | exact hF.sub rfl | exact hF.bit rfl

theorem State.unhold_only {Fm : Nat} {s0 : State} (fe t : Nat) (d : Nat → Bool) {s : State} (hF : Inside 67108864 Fm) (hK : Only Fm s0 s) :
    Only Fm s0 (State.unhold fe t d s) := by
  unfold State.unhold
  with_reducible repeat' first
    | assumption | intro _ | apply State.modFe_only | dsimp only | split
  all_goals first | exact hF.sub rfl | exact hF.bit rfl

theorem State.stageRoom_only {Fm : Nat} {s0 : State} (fe n : Nat) (hF : Inside 67108864 Fm) : ∀ (rest_ : Nat) {s : State}, Only Fm s0 s →
    Only Fm s0 (State.stageRoom fe n rest_ s).2 := by
  intro rest_
  induction rest_ with
  | zero =>
    intro s hK
    unfold State.stageRoom
    with_reducible repeat' first
      | assumption | intro _ | apply State.modFe_only | dsimp only | split
    all_goals first | exact hF.sub rfl | exact hF.bit rfl
  | succ n ih =>
    intro s hK
    unfold State.stageRoom
    with_reducible repeat' first
      | assumption | apply ih | intro _ | apply State.modFe_only | dsimp only | split
    all_goals first | exact hF.sub rfl | exact hF.bit rfl

theorem State.fetchBlock_only {Fm : Nat} {s0 : State} (fe b : Nat) (e : Plot) {s : State} (hF : Inside 12180527810064 Fm) (hK : Only Fm s0 s) :
    Only Fm s0 (State.fetchBlock fe b e s).2 := by
  unfold State.fetchBlock
  with_reducible repeat' first
    | assumption | intro _ | apply State.modTier_only | apply State.farFetch_only | apply State.mediumAt_only | dsimp only
    | split | (refine Only.snd (by assumption) ?_)
  all_goals first | exact hF.sub rfl | exact hF.bit rfl

theorem State.admitFill_only {Fm : Nat} {s0 : State} (fe b : Nat) {s : State} (hF : Inside 2214592528 Fm) (hK : Only Fm s0 s) :
    Only Fm s0 (State.admitFill fe b s).2 := by
  unfold State.admitFill
  with_reducible repeat' first
    | assumption | intro _ | apply Only.ite | apply State.modFe_only | apply State.shadowAdmit_only | apply State.modHg_only
    | apply State.heldMark_only | dsimp only | split
  all_goals first | exact hF.sub rfl | exact hF.bit rfl

theorem State.fillDone_only {Fm : Nat} {s0 : State} (fe b : Nat) {s : State} (hF : Inside 12217103255056 Fm) (hK : Only Fm s0 s) :
    Only Fm s0 (State.fillDone fe b s).2 := by
  unfold State.fillDone
  with_reducible repeat' first
    | assumption | intro _ | apply State.modFe_only | apply State.admitFill_only | apply State.stageRoom_only
    | apply State.fetchBlock_only | apply State.wakeBank_only | apply State.cstFresh_only | apply State.settle_only | dsimp only
    | split | (refine Only.snd (by assumption) ?_)
  all_goals first | exact hF.sub rfl | exact hF.bit rfl

/-! Machine/Assign.lean. -/

theorem execPlotQuery_only {Fm : Nat} {s0 : State} (hi : W32) {s : State} (hF : Inside 32784 Fm) (hK : Only Fm s0 s) :
    Answers (Only Fm s0) (execPlotQuery hi s) := by
  unfold execPlotQuery
  with_reducible repeat' first
    | assumption | intro _ | apply Answers.next | apply State.setStw_only | apply State.modTier_only | dsimp only | split
  all_goals first | exact hF.sub rfl | exact hF.bit rfl

theorem State.wipe_only {Fm : Nat} {s0 : State} (p : Nat) {s : State} (hF : Inside 67272704 Fm) (hK : Only Fm s0 s) :
    Only Fm s0 (State.wipe p s) := by
  unfold State.wipe
  with_reducible repeat' first
    | assumption | intro _ | apply State.modTier_only | apply State.keptDrop_only | apply State.stagedDrop_only
    | apply State.dropOpen_only | dsimp only | split
  all_goals first | exact hF.sub rfl | exact hF.bit rfl

theorem State.dropWaits_only {Fm : Nat} {s0 : State} (p : Nat) {s : State} (hF : Inside 2267744405008 Fm) (hK : Only Fm s0 s) :
    Only Fm s0 (State.dropWaits p s) := by
  unfold State.dropWaits
  with_reducible repeat' first
    | assumption | intro _ | apply Only.forAll | apply State.dropWait_only | dsimp only | split
  all_goals first | exact hF.sub rfl | exact hF.bit rfl

theorem State.asgnStatus_only {Fm : Nat} {s0 : State} (st : Status) {s : State} (hF : Inside 16 Fm) (hK : Only Fm s0 s) :
    Only Fm s0 (State.asgnStatus st s) := by
  unfold State.asgnStatus
  with_reducible repeat' first
    | assumption | intro _ | apply State.modStw_only | dsimp only | split
  all_goals first | exact hF.sub rfl | exact hF.bit rfl

theorem State.assignOne_only {Fm : Nat} {s0 : State} (w : W128) (p : Nat) {s : State} (hF : Inside 11063904667152 Fm) (hK : Only Fm s0 s) :
    InOption (Only Fm s0) (State.assignOne w p s) := by
  unfold State.assignOne
  with_reducible repeat' first
    | assumption | intro _ | apply InOption.some | apply InOption.none | apply InOption.ite | apply State.dropWaits_only
    | apply State.tickFree_only | apply State.wipe_only | apply State.setPlot_only | dsimp only | split
  all_goals first | exact hF.sub rfl | exact hF.bit rfl

theorem State.assignAll_only {Fm : Nat} {s0 : State} (w : W128) (hF : Inside 11063904667152 Fm) : ∀ (rest_ : List Nat) {s : State}, Only Fm s0 s →
    InOption (Only Fm s0) (State.assignAll w rest_ s) := by
  intro rest_
  induction rest_ with
  | nil =>
    intro s hK
    unfold State.assignAll
    with_reducible repeat' first
      | assumption | intro _ | apply InOption.some | apply InOption.none | apply State.assignOne_only | dsimp only | split
      | (refine InOption.some' (by assumption) ?_)
    all_goals first | exact hF.sub rfl | exact hF.bit rfl
  | cons a r ih =>
    intro s hK
    unfold State.assignAll
    with_reducible repeat' first
      | assumption | apply ih | intro _ | apply InOption.some | apply InOption.none | apply State.assignOne_only | dsimp only
      | split | (refine InOption.some' (by assumption) ?_)
    all_goals first | exact hF.sub rfl | exact hF.bit rfl

theorem State.releaseOne_only {Fm : Nat} {s0 : State} (p : Nat) {s : State} (hF : Inside 2267811644944 Fm) (hK : Only Fm s0 s) :
    Only Fm s0 (State.releaseOne p s) := by
  unfold State.releaseOne
  with_reducible repeat' first
    | assumption | intro _ | apply State.dropWaits_only | apply State.wipe_only | apply State.fillsDrop_only
    | apply State.delPlot_only | apply State.settle_only | dsimp only | split
  all_goals first | exact hF.sub rfl | exact hF.bit rfl

theorem State.asgnResume_only {Fm : Nat} {s0 : State} {s : State} (hF : Inside 11066052150800 Fm) (hK : Only Fm s0 s) :
    Only Fm s0 (State.asgnResume s) := by
  unfold State.asgnResume
  with_reducible repeat' first
    | assumption | intro _ | apply Only.ite | apply Only.forAll | apply State.modTier_only | apply State.setStw_only
    | apply State.assignAll_only | apply State.releaseOne_only | dsimp only | split | (refine InOption.some' (by assumption) ?_)
    | (refine State.bulkRelief_only (by assumption) ?_ ?_)
  all_goals first | exact hF.sub rfl | exact hF.bit rfl

theorem State.asgnStart_only {Fm : Nat} {s0 : State} (op : Nat) {s : State} (hF : Inside 11066052150800 Fm) (hK : Only Fm s0 s) :
    Only Fm s0 (State.asgnStart op s) := by
  unfold State.asgnStart
  with_reducible repeat' first
    | assumption | intro _ | apply State.modTier_only | apply State.setStw_only | apply State.asgnResume_only | dsimp only
    | split
  all_goals first | exact hF.sub rfl | exact hF.bit rfl

theorem execTirAssign_only {Fm : Nat} {s0 : State} {s : State} (hF : Inside 11066052150800 Fm) (hK : Only Fm s0 s) :
    Answers (Only Fm s0) (execTirAssign s) := by
  unfold execTirAssign
  with_reducible repeat' first
    | assumption | intro _ | apply Answers.next | apply Answers.ite | apply State.asgnStatus_only | apply State.asgnStart_only
    | dsimp only | split
  all_goals first | exact hF.sub rfl | exact hF.bit rfl

theorem execTirRelease_only {Fm : Nat} {s0 : State} {s : State} (hF : Inside 11066052150800 Fm) (hK : Only Fm s0 s) :
    Answers (Only Fm s0) (execTirRelease s) := by
  unfold execTirRelease
  with_reducible repeat' first
    | assumption | intro _ | apply Answers.next | apply Answers.ite | apply State.asgnStatus_only | apply State.asgnStart_only
    | dsimp only | split
  all_goals first | exact hF.sub rfl | exact hF.bit rfl

theorem execTirAsgnReserved_only {Fm : Nat} {s0 : State} {s : State} (hF : Inside 16 Fm) (hK : Only Fm s0 s) :
    Answers (Only Fm s0) (execTirAsgnReserved s) := by
  unfold execTirAsgnReserved
  with_reducible repeat' first
    | assumption | intro _ | apply Answers.next | apply State.asgnStatus_only | dsimp only | split
  all_goals first | exact hF.sub rfl | exact hF.bit rfl

theorem execTirRemoveClaims_only {Fm : Nat} {s0 : State} (t : Tenant) {s : State} (hF : Inside 11066052019728 Fm) (hK : Only Fm s0 s) :
    Answers (Only Fm s0) (execTirRemoveClaims t s) := by
  unfold execTirRemoveClaims
  with_reducible repeat' first
    | assumption | intro _ | apply Answers.next | apply Only.forAll | apply State.dropWait_only | apply State.removePin_only
    | apply State.removeClaim_only | apply State.unhold_only | apply State.settle_only | apply State.asgnStatus_only
    | dsimp only | split
  all_goals first | exact hF.sub rfl | exact hF.bit rfl

theorem execTirClsWrite_only {Fm : Nat} {s0 : State} (v : W32) {s : State} (hF : Inside 16 Fm) (hK : Only Fm s0 s) :
    Answers (Only Fm s0) (execTirClsWrite v s) := by
  unfold execTirClsWrite
  with_reducible repeat' first
    | assumption | intro _ | apply Answers.next | apply State.setStw_only | dsimp only | split
  all_goals first | exact hF.sub rfl | exact hF.bit rfl

theorem execAgeClockTick_only {Fm : Nat} {s0 : State} {s : State} (hF : Inside 1 Fm) (hK : Only Fm s0 s) :
    Answers (Only Fm s0) (execAgeClockTick s) := by
  unfold execAgeClockTick
  with_reducible repeat' first
    | assumption | intro _ | apply Answers.next | (fail_if_no_progress refine Only.set_clk (hF.bit (by decide)) ?_) | dsimp only
    | split
  all_goals first | exact hF.sub rfl | exact hF.bit rfl

theorem State.mapPlots_only {Fm : Nat} {s0 : State} (f : Nat → Plot → Plot) {s : State} (hF : Inside 32768 Fm) (hK : Only Fm s0 s) :
    Only Fm s0 (State.mapPlots f s) := by
  unfold State.mapPlots
  with_reducible repeat' first
    | assumption | intro _ | apply State.modTier_only | dsimp only | split
  all_goals first | exact hF.sub rfl | exact hF.bit rfl

theorem execDecayBoundary_only {Fm : Nat} {s0 : State} {s : State} (hF : Inside 32768 Fm) (hK : Only Fm s0 s) :
    Answers (Only Fm s0) (execDecayBoundary s) := by
  unfold execDecayBoundary
  with_reducible repeat' first
    | assumption | intro _ | apply Answers.next | apply State.mapPlots_only | dsimp only | split
  all_goals first | exact hF.sub rfl | exact hF.bit rfl

theorem execAgeSweep_only {Fm : Nat} {s0 : State} (h : Half) {s : State} (hF : Inside 32768 Fm) (hK : Only Fm s0 s) :
    Answers (Only Fm s0) (execAgeSweep h s) := by
  unfold execAgeSweep
  with_reducible repeat' first
    | assumption | intro _ | apply Answers.next | apply State.mapPlots_only | dsimp only | split
  all_goals first | exact hF.sub rfl | exact hF.bit rfl

theorem execColdClassify_only {Fm : Nat} {s0 : State} (h : Half) {s : State} (hF : Inside 11065984910864 Fm) (hK : Only Fm s0 s) :
    Answers (Only Fm s0) (execColdClassify h s) := by
  unfold execColdClassify
  with_reducible repeat' first
    | assumption | intro _ | apply Answers.next | apply Only.forAll | apply State.removeClaim_only | dsimp only | split
  all_goals first | exact hF.sub rfl | exact hF.bit rfl

theorem execClaimRetry_only {Fm : Nat} {s0 : State} (h : Half) {s : State} (hF : Inside 11065984910864 Fm) (hK : Only Fm s0 s) :
    Answers (Only Fm s0) (execClaimRetry h s) := by
  unfold execClaimRetry
  with_reducible repeat' first
    | assumption | intro _ | apply Answers.next | apply Only.forAll | apply State.retryClaim_only | dsimp only | split
  all_goals first | exact hF.sub rfl | exact hF.bit rfl

theorem execClaimWaitExpire_only {Fm : Nat} {s0 : State} (id : Nat) {s : State} (hF : Inside 2267744405008 Fm) (hK : Only Fm s0 s) :
    Answers (Only Fm s0) (execClaimWaitExpire id s) := by
  unfold execClaimWaitExpire
  with_reducible repeat' first
    | assumption | intro _ | apply Answers.next | apply State.dropWait_only | dsimp only | split
  all_goals first | exact hF.sub rfl | exact hF.bit rfl

theorem execMoveBlockDone_only {Fm : Nat} {s0 : State} (plot : PlotNo) (bad : List Nat) {s : State} (hF : Inside 16580790158992 Fm) (hK : Only Fm s0 s) :
    Answers (Only Fm s0) (execMoveBlockDone plot bad s) := by
  unfold execMoveBlockDone
  with_reducible repeat' first
    | assumption | intro _ | apply Answers.next | apply State.blockDone_only | apply State.asgnResume_only | dsimp only | split
  all_goals first | exact hF.sub rfl | exact hF.bit rfl

/-! Machine/Almanac.lean. -/

theorem State.commitCal_only {Fm : Nat} {s0 : State} (n t : Nat) (b : List Byte) {s : State} (hF : Inside 65536 Fm) (hK : Only Fm s0 s) :
    Only Fm s0 (State.commitCal n t b s) := by
  unfold State.commitCal
  with_reducible repeat' first
    | assumption | intro _ | apply Only.ite | apply State.delCal_only | apply State.setCal_only | dsimp only | split
  all_goals first | exact hF.sub rfl | exact hF.bit rfl

theorem State.fireGroup_only {Fm : Nat} {s0 : State} (c cur t f : Nat) (w : W256) (p n : Nat) {s : State} (hF : Inside 65536 Fm) (hK : Only Fm s0 s) :
    Only Fm s0 (State.fireGroup c cur t f w p n s) := by
  unfold State.fireGroup
  with_reducible repeat' first
    | assumption | intro _ | apply State.refuseFiring_only | apply State.modAlm_only | dsimp only | split
  all_goals first | exact hF.sub rfl | exact hF.bit rfl

theorem State.firingIssued_only {Fm : Nat} {s0 : State} (c cur f : Nat) {s : State} (hF : Inside 2267743323664 Fm) (hK : Only Fm s0 s) :
    Only Fm s0 (State.firingIssued c cur f s) := by
  unfold State.firingIssued
  with_reducible repeat' first
    | assumption | intro _ | apply State.modCursor_only | apply State.trackSettle_only | dsimp only | split
  all_goals first | exact hF.sub rfl | exact hF.bit rfl

theorem State.fireEntry_only {Fm : Nat} {s0 : State} (c cur t : Nat) (w : W256) (target : W32) {s : State} (hF : Inside 2267743323664 Fm) (hK : Only Fm s0 s) :
    Only Fm s0 (State.fireEntry c cur t w target s) := by
  unfold State.fireEntry
  with_reducible repeat' first
    | assumption | intro _ | apply Only.ite | apply Only.forAll | apply State.modAlm_only | apply State.modCursor_only
    | apply State.fireGroup_only | apply State.firingIssued_only | dsimp only | split
  all_goals first | exact hF.sub rfl | exact hF.bit rfl

theorem State.advance_only {Fm : Nat} {s0 : State} (c cur : Nat) (q : W32) {s : State} (hF : Inside 2267743323664 Fm) (hK : Only Fm s0 s) :
    Only Fm s0 (State.advance c cur q s) := by
  unfold State.advance
  with_reducible repeat' first
    | assumption | intro _ | apply Only.ite | apply Only.forAll | apply State.modCursor_only | apply State.fireEntry_only
    | dsimp only | split
  all_goals first | exact hF.sub rfl | exact hF.bit rfl

theorem State.merrIgnored_only {Fm : Nat} {s0 : State} (t : Nat) {s : State} (hF : Inside 16 Fm) (hK : Only Fm s0 s) :
    Only Fm s0 (State.merrIgnored t s) := by
  unfold State.merrIgnored
  with_reducible repeat' first
    | assumption | intro _ | apply State.cntBar_only | dsimp only | split
  all_goals first | exact hF.sub rfl | exact hF.bit rfl

theorem State.merrBad_only {Fm : Nat} {s0 : State} (t : Nat) {s : State} (hF : Inside 16 Fm) (hK : Only Fm s0 s) :
    Only Fm s0 (State.merrBad t s) := by
  unfold State.merrBad
  with_reducible repeat' first
    | assumption | intro _ | apply State.cntBar_only | dsimp only | split
  all_goals first | exact hF.sub rfl | exact hF.bit rfl

theorem State.applyUpd_only {Fm : Nat} {s0 : State} (c cur : Nat) (u : AlmUpd) {s : State} (hF : Inside 2267743323664 Fm) (hK : Only Fm s0 s) :
    Only Fm s0 (State.applyUpd c cur u s) := by
  unfold State.applyUpd
  with_reducible repeat' first
    | assumption | intro _ | apply Only.ite | apply State.merrIgnored_only | apply State.advance_only | apply State.merrBad_only
    | apply State.modCursor_only | dsimp only | split
  all_goals first | exact hF.sub rfl | exact hF.bit rfl

theorem State.markDone_only {Fm : Nat} {s0 : State} (u : AlmUpd) (c : Status) {s : State} (hF : Inside 1048576 Fm) (hK : Only Fm s0 s) :
    Only Fm s0 (State.markDone u c s) := by
  unfold State.markDone
  with_reducible repeat' first
    | assumption | intro _ | apply State.modOp_only | dsimp only | split
  all_goals first | exact hF.sub rfl | exact hF.bit rfl

theorem State.commitReady_only {Fm : Nat} {s0 : State} (n : Nat) {s : State} (hF : Inside 1114112 Fm) (hK : Only Fm s0 s) :
    Only Fm s0 (State.commitReady n s) := by
  unfold State.commitReady
  with_reducible repeat' first
    | assumption | intro _ | apply Only.ite | apply State.commitCal_only | apply State.modOp_only | dsimp only | split
  all_goals first | exact hF.sub rfl | exact hF.bit rfl

theorem State.arriveUpd_only {Fm : Nat} {s0 : State} (u : AlmUpd) {s : State} (hF : Inside 2267744372240 Fm) (hK : Only Fm s0 s) :
    Only Fm s0 (State.arriveUpd u s) := by
  unfold State.arriveUpd
  with_reducible repeat' first
    | assumption | intro _ | apply Only.ite | apply State.commitReady_only | apply State.markDone_only
    | apply State.merrIgnored_only | apply State.setCal_only | apply State.applyUpd_only | dsimp only | split
  all_goals first | exact hF.sub rfl | exact hF.bit rfl

theorem execCursorUpdate_only {Fm : Nat} {s0 : State} {s : State} (hF : Inside 2267744372240 Fm) (hK : Only Fm s0 s) :
    Answers (Only Fm s0) (execCursorUpdate s) := by
  unfold execCursorUpdate
  with_reducible repeat' first
    | assumption | intro _ | apply Answers.next | apply State.setCal_only | apply State.commitReady_only
    | apply State.applyUpd_only | apply State.modAlm_only | apply State.arriveUpd_only | dsimp only | split
  all_goals first | exact hF.sub rfl | exact hF.bit rfl

theorem State.sendMark_only {Fm : Nat} {s0 : State} (h : Half) (op : Option Nat) (c t : Nat) (m : W32) {s : State} (hF : Inside 65552 Fm) (hK : Only Fm s0 s) :
    Only Fm s0 (State.sendMark h op c t m s).2 := by
  unfold State.sendMark
  with_reducible repeat' first
    | assumption | intro _ | apply State.merrIgnored_only | apply State.merrBad_only | apply State.modAlm_only | dsimp only
    | split
  all_goals first | exact hF.sub rfl | exact hF.bit rfl

theorem State.loseUpdates_only {Fm : Nat} {s0 : State} {s : State} (hF : Inside 1114128 Fm) (hK : Only Fm s0 s) :
    Only Fm s0 (State.loseUpdates s) := by
  unfold State.loseUpdates
  with_reducible repeat' first
    | assumption | intro _ | apply Only.forAll | apply State.merrIgnored_only | apply State.markDone_only
    | apply State.modAlm_only | dsimp only | split
  all_goals first | exact hF.sub rfl | exact hF.bit rfl

theorem State.writeMark_only {Fm : Nat} {s0 : State} (h : Half) (c t : Nat) (m : W32) {s : State} (hF : Inside 65552 Fm) (hK : Only Fm s0 s) :
    Only Fm s0 (State.writeMark h c t m s) := by
  unfold State.writeMark
  with_reducible repeat' first
    | assumption | intro _ | apply State.sendMark_only | apply State.merrIgnored_only | dsimp only | split
    | (refine Only.snd (by assumption) ?_)
  all_goals first | exact hF.sub rfl | exact hF.bit rfl

theorem execAlmMark_only {Fm : Nat} {s0 : State} (t : Tenant) (mark : W32) {s : State} (hF : Inside 65552 Fm) (hK : Only Fm s0 s) :
    Answers (Only Fm s0) (execAlmMark t mark s) := by
  unfold execAlmMark
  with_reducible repeat' first
    | assumption | intro _ | apply Answers.next | apply State.writeMark_only | dsimp only | split
  all_goals first | exact hF.sub rfl | exact hF.bit rfl

theorem State.triggerMatch_only {Fm : Nat} {s0 : State} (p t : Nat) {s : State} (hF : Inside 65536 Fm) (hK : Only Fm s0 s) :
    Only Fm s0 (State.triggerMatch p t s) := by
  unfold State.triggerMatch
  with_reducible repeat' first
    | assumption | intro _ | apply Only.ite | apply Only.forAll | apply State.modAlm_only | dsimp only | split
  all_goals first | exact hF.sub rfl | exact hF.bit rfl

theorem State.access_only {Fm : Nat} {s0 : State} (p t : Nat) {s : State} (hF : Inside 11065984910864 Fm) (hK : Only Fm s0 s) :
    Only Fm s0 (State.access p t s) := by
  unfold State.access
  with_reducible repeat' first
    | assumption | intro _ | apply State.countAccess_only | apply State.triggerMatch_only | dsimp only | split
  all_goals first | exact hF.sub rfl | exact hF.bit rfl

theorem State.watchPlot_only {Fm : Nat} {s0 : State} (c cur f p : Nat) {s : State} (hF : Inside 65536 Fm) (hK : Only Fm s0 s) :
    Only Fm s0 (State.watchPlot c cur f p s) := by
  unfold State.watchPlot
  with_reducible repeat' first
    | assumption | intro _ | apply State.modCursor_only | dsimp only | split
  all_goals first | exact hF.sub rfl | exact hF.bit rfl

theorem State.watchStage_only {Fm : Nat} {s0 : State} (c cur f p : Nat) {s : State} (hF : Inside 65536 Fm) (hK : Only Fm s0 s) :
    Only Fm s0 (State.watchStage c cur f p s) := by
  unfold State.watchStage
  with_reducible repeat' first
    | assumption | intro _ | apply State.modCursor_only | dsimp only | split
  all_goals first | exact hF.sub rfl | exact hF.bit rfl

theorem State.takeAct_only {Fm : Nat} {s0 : State} (a : AlmAct) {s : State} (hF : Inside 11066052019728 Fm) (hK : Only Fm s0 s) :
    Only Fm s0 (State.takeAct a s) := by
  unfold State.takeAct
  with_reducible repeat' first
    | assumption | intro _ | apply Only.ite | apply State.askClaim_only | apply State.refuseFiring_only
    | apply State.watchPlot_only | apply State.watchStage_only | apply State.stagePlot_only | apply State.removeClaim_only
    | apply State.unhold_only | apply State.wantFar_only | dsimp only | split | (refine Only.snd (by assumption) ?_)
  all_goals first | exact hF.sub rfl | exact hF.bit rfl

theorem execAlmanacAction_only {Fm : Nat} {s0 : State} {s : State} (hF : Inside 11066052019728 Fm) (hK : Only Fm s0 s) :
    Answers (Only Fm s0) (execAlmanacAction s) := by
  unfold execAlmanacAction
  with_reducible repeat' first
    | assumption | intro _ | apply Answers.next | apply Only.ite | apply State.modAlm_only | apply State.takeAct_only
    | apply State.settle_only | apply State.firingIssued_only | dsimp only | split
  all_goals first | exact hF.sub rfl | exact hF.bit rfl

theorem execAlmanacLoadCommit_only {Fm : Nat} {s0 : State} (cal : CalId) {s : State} (hF : Inside 1114112 Fm) (hK : Only Fm s0 s) :
    Answers (Only Fm s0) (execAlmanacLoadCommit cal s) := by
  unfold execAlmanacLoadCommit
  with_reducible repeat' first
    | assumption | intro _ | apply Answers.next | apply State.commitReady_only | dsimp only | split
  all_goals first | exact hF.sub rfl | exact hF.bit rfl

theorem State.bindStatus_only {Fm : Nat} {s0 : State} (st : Status) {s : State} (hF : Inside 16 Fm) (hK : Only Fm s0 s) :
    Only Fm s0 (State.bindStatus st s) := by
  unfold State.bindStatus
  with_reducible repeat' first
    | assumption | intro _ | apply State.setStw_only | dsimp only | split
  all_goals first | exact hF.sub rfl | exact hF.bit rfl

theorem execAlmBind_only {Fm : Nat} {s0 : State} (cal : CalId) (cursor : BitVec 4) (t : Tenant) (src : BitVec 2) {s : State} (hF : Inside 65552 Fm) (hK : Only Fm s0 s) :
    Answers (Only Fm s0) (execAlmBind cal cursor t src s) := by
  unfold execAlmBind
  with_reducible repeat' first
    | assumption | intro _ | apply Answers.next | apply State.setCal_only | apply State.bindStatus_only | dsimp only | split
  all_goals first | exact hF.sub rfl | exact hF.bit rfl

theorem execAlmUnbind_only {Fm : Nat} {s0 : State} (cal : CalId) (cursor : BitVec 4) {s : State} (hF : Inside 65552 Fm) (hK : Only Fm s0 s) :
    Answers (Only Fm s0) (execAlmUnbind cal cursor s) := by
  unfold execAlmUnbind
  with_reducible repeat' first
    | assumption | intro _ | apply Answers.next | apply State.setCal_only | apply State.bindStatus_only | dsimp only | split
  all_goals first | exact hF.sub rfl | exact hF.bit rfl

theorem execAlmClearPosition_only {Fm : Nat} {s0 : State} (cal : CalId) (cursor : BitVec 4) {s : State} (hF : Inside 65552 Fm) (hK : Only Fm s0 s) :
    Answers (Only Fm s0) (execAlmClearPosition cal cursor s) := by
  unfold execAlmClearPosition
  with_reducible repeat' first
    | assumption | intro _ | apply Answers.next | apply State.modCursor_only | apply State.bindStatus_only | dsimp only | split
  all_goals first | exact hF.sub rfl | exact hF.bit rfl

theorem execAlmReclaimUnload_only {Fm : Nat} {s0 : State} (cal : CalId) {s : State} (hF : Inside 65552 Fm) (hK : Only Fm s0 s) :
    Answers (Only Fm s0) (execAlmReclaimUnload cal s) := by
  unfold execAlmReclaimUnload
  with_reducible repeat' first
    | assumption | intro _ | apply Answers.next | apply State.delCal_only | apply State.bindStatus_only | dsimp only | split
  all_goals first | exact hF.sub rfl | exact hF.bit rfl

theorem execAlmNewOwner_only {Fm : Nat} {s0 : State} (cal : CalId) (t : Tenant) (src : BitVec 2) {s : State} (hF : Inside 65552 Fm) (hK : Only Fm s0 s) :
    Answers (Only Fm s0) (execAlmNewOwner cal t src s) := by
  unfold execAlmNewOwner
  with_reducible repeat' first
    | assumption | intro _ | apply Answers.next | apply State.setCal_only | apply State.bindStatus_only | dsimp only | split
  all_goals first | exact hF.sub rfl | exact hF.bit rfl

/-! Machine/Directory.lean. -/

theorem State.setDir_only {Fm : Nat} {s0 : State} (l : Nat) (d : Dir) {s : State} (hF : Inside 1073741824 Fm) (hK : Only Fm s0 s) :
    Only Fm s0 (State.setDir l d s) := by
  unfold State.setDir
  with_reducible repeat' first
    | assumption | intro _ | apply State.modShr_only | dsimp only | split
  all_goals first | exact hF.sub rfl | exact hF.bit rfl

theorem State.delDir_only {Fm : Nat} {s0 : State} (l : Nat) {s : State} (hF : Inside 1073741824 Fm) (hK : Only Fm s0 s) :
    Only Fm s0 (State.delDir l s) := by
  unfold State.delDir
  with_reducible repeat' first
    | assumption | intro _ | apply State.modShr_only | dsimp only | split
  all_goals first | exact hF.sub rfl | exact hF.bit rfl

theorem State.useDir_only {Fm : Nat} {s0 : State} (l : Nat) (d : Dir) {s : State} (hF : Inside 1073741824 Fm) (hK : Only Fm s0 s) :
    Only Fm s0 (State.useDir l d s) := by
  unfold State.useDir
  with_reducible repeat' first
    | assumption | intro _ | apply State.setDir_only | apply State.modShr_only | dsimp only | split
  all_goals first | exact hF.sub rfl | exact hF.bit rfl

theorem State.holdPlot_only {Fm : Nat} {s0 : State} (l : Nat) {s : State} (hF : Inside 1073741824 Fm) (hK : Only Fm s0 s) :
    Only Fm s0 (State.holdPlot l s) := by
  unfold State.holdPlot
  with_reducible repeat' first
    | assumption | intro _ | apply State.modShr_only | dsimp only | split
  all_goals first | exact hF.sub rfl | exact hF.bit rfl

theorem State.dropHolder_only {Fm : Nat} {s0 : State} (l t : Nat) {s : State} (hF : Inside 1073741824 Fm) (hK : Only Fm s0 s) :
    Only Fm s0 (State.dropHolder l t s) := by
  unfold State.dropHolder
  with_reducible repeat' first
    | assumption | intro _ | apply Only.ite | apply State.delDir_only | apply State.setDir_only | dsimp only | split
  all_goals first | exact hF.sub rfl | exact hF.bit rfl

theorem State.poisonLine_only {Fm : Nat} {s0 : State} (l : Nat) {s : State} (hF : Inside 16578641561232 Fm) (hK : Only Fm s0 s) :
    Only Fm s0 (State.poisonLine l s) := by
  unfold State.poisonLine
  with_reducible repeat' first
    | assumption | intro _ | apply Only.ite | apply State.setPoison_only | apply State.markWritten_only
    | apply State.writeFoot_only | dsimp only | split
  all_goals first | exact hF.sub rfl | exact hF.bit rfl

theorem State.orphan_only {Fm : Nat} {s0 : State} (l : Nat) (d : Dir) {s : State} (hF : Inside 16579715303056 Fm) (hK : Only Fm s0 s) :
    Only Fm s0 (State.orphan l d s) := by
  unfold State.orphan
  with_reducible repeat' first
    | assumption | intro _ | apply Only.ite | apply State.setDir_only | apply State.delDir_only | apply State.poisonLine_only
    | apply State.cntStw_only | dsimp only | split
  all_goals first | exact hF.sub rfl | exact hF.bit rfl

theorem State.failHolding_only {Fm : Nat} {s0 : State} (l t : Nat) {s : State} (hF : Inside 16579715303056 Fm) (hK : Only Fm s0 s) :
    Only Fm s0 (State.failHolding l t s) := by
  unfold State.failHolding
  with_reducible repeat' first
    | assumption | intro _ | apply Only.ite | apply State.orphan_only | apply State.dropHolder_only | dsimp only | split
  all_goals first | exact hF.sub rfl | exact hF.bit rfl

theorem State.lineFailure_only {Fm : Nat} {s0 : State} (l t : Nat) {s : State} (hF : Inside 16579715303056 Fm) (hK : Only Fm s0 s) :
    Only Fm s0 (State.lineFailure l t s) := by
  unfold State.lineFailure
  with_reducible repeat' first
    | assumption | intro _ | apply State.failHolding_only | apply State.cntStw_only | dsimp only | split
  all_goals first | exact hF.sub rfl | exact hF.bit rfl

theorem State.sendSnoop_only {Fm : Nat} {s0 : State} (why : SnpWhy) (inv : Bool) (l t : Nat) {s : State} (hF : Inside 16579715303056 Fm) (hK : Only Fm s0 s) :
    Only Fm s0 (State.sendSnoop why inv l t s) := by
  unfold State.sendSnoop
  with_reducible repeat' first
    | assumption | intro _ | apply Only.ite | apply State.lineFailure_only | apply State.modShr_only | apply State.emit_only
    | dsimp only | split
  all_goals first | exact hF.sub rfl | exact hF.bit rfl

theorem State.convertLine_only {Fm : Nat} {s0 : State} (l : Nat) {s : State} (hF : Inside 16579715303056 Fm) (hK : Only Fm s0 s) :
    Only Fm s0 (State.convertLine l s) := by
  unfold State.convertLine
  with_reducible repeat' first
    | assumption | intro _ | apply Only.ite | apply Only.forAll | apply State.failHolding_only | apply State.modShr_only
    | dsimp only | split
  all_goals first | exact hF.sub rfl | exact hF.bit rfl

theorem State.answered_only {Fm : Nat} {s0 : State} (n : Snoop) {s : State} (hF : Inside 1073741824 Fm) (hK : Only Fm s0 s) :
    Only Fm s0 (State.answered n s) := by
  unfold State.answered
  with_reducible repeat' first
    | assumption | intro _ | apply Only.ite | apply State.modShr_only | apply State.delDir_only | apply State.dropHolder_only
    | apply State.setDir_only | dsimp only | split
  all_goals first | exact hF.sub rfl | exact hF.bit rfl

theorem State.dirAfter_only {Fm : Nat} {s0 : State} (l t r : Nat) (op : ReqOp) (mv : Meta) {s : State} (hF : Inside 1073741824 Fm) (hK : Only Fm s0 s) :
    Only Fm s0 (State.dirAfter l t r op mv s) := by
  unfold State.dirAfter
  with_reducible repeat' first
    | assumption | intro _ | apply State.useDir_only | apply State.holdPlot_only | apply State.dropHolder_only | dsimp only
    | split
  all_goals first | exact hF.sub rfl | exact hF.bit rfl

theorem State.makeWay_only {Fm : Nat} {s0 : State} (l rid : Nat) (hF : Inside 16579715303056 Fm) : ∀ (rest_ : Nat) {s : State}, Only Fm s0 s →
    Only Fm s0 (State.makeWay l rid rest_ s).2 := by
  intro rest_
  induction rest_ with
  | zero =>
    intro s hK
    unfold State.makeWay
    with_reducible repeat' first
      | assumption | intro _ | apply Only.ite | apply Only.forAll | apply State.cntStw_only | apply State.sendSnoop_only
      | apply State.delDir_only | dsimp only | split
    all_goals first | exact hF.sub rfl | exact hF.bit rfl
  | succ n ih =>
    intro s hK
    unfold State.makeWay
    with_reducible repeat' first
      | assumption | apply ih | intro _ | apply Only.ite | apply Only.forAll | apply State.cntStw_only
      | apply State.sendSnoop_only | apply State.delDir_only | dsimp only | split
    all_goals first | exact hF.sub rfl | exact hF.bit rfl

theorem State.dirServe_only {Fm : Nat} {s0 : State} (l t r rid : Nat) (op : ReqOp) (mv : Meta) {s : State} (hF : Inside 16579715303056 Fm) (hK : Only Fm s0 s) :
    Only Fm s0 (State.dirServe l t r rid op mv s).2 := by
  unfold State.dirServe
  with_reducible repeat' first
    | assumption | intro _ | apply Only.forAll | apply State.makeWay_only | apply State.dirAfter_only
    | apply State.sendSnoop_only | dsimp only | split | (refine Only.snd (by assumption) ?_)
  all_goals first | exact hF.sub rfl | exact hF.bit rfl

theorem State.dirTouch_only {Fm : Nat} {s0 : State} (l : Nat) (op : ReqOp) (why : SnpWhy) {s : State} (hF : Inside 16579715303056 Fm) (hK : Only Fm s0 s) :
    Only Fm s0 (State.dirTouch l op why s).2 := by
  unfold State.dirTouch
  with_reducible repeat' first
    | assumption | intro _ | apply Only.forAll | apply State.sendSnoop_only | dsimp only | split
  all_goals first | exact hF.sub rfl | exact hF.bit rfl

theorem State.sendRun_only {Fm : Nat} {s0 : State} (why : SnpWhy) (t : Nat) (r : Nat × Nat) {s : State} (hF : Inside 2200096997376 Fm) (hK : Only Fm s0 s) :
    Only Fm s0 (State.sendRun why t r s) := by
  unfold State.sendRun
  with_reducible repeat' first
    | assumption | intro _ | apply Only.forAll | apply State.modShr_only | apply State.emit_only | dsimp only | split
  all_goals first | exact hF.sub rfl | exact hF.bit rfl

theorem State.walkTenant_only {Fm : Nat} {s0 : State} (w t : Nat) (ls : List Nat) {s : State} (hF : Inside 16579715303056 Fm) (hK : Only Fm s0 s) :
    Only Fm s0 (State.walkTenant w t ls s) := by
  unfold State.walkTenant
  with_reducible repeat' first
    | assumption | intro _ | apply Only.forAll | apply State.lineFailure_only | apply State.sendRun_only | dsimp only | split
  all_goals first | exact hF.sub rfl | exact hF.bit rfl

theorem State.startWalk_only {Fm : Nat} {s0 : State} (why : WalkWhy) (test : Nat → Bool) (who : Nat → Bool) {s : State} (hF : Inside 16579715303056 Fm) (hK : Only Fm s0 s) :
    Only Fm s0 (State.startWalk why test who s) := by
  unfold State.startWalk
  with_reducible repeat' first
    | assumption | intro _ | apply Only.forAll | apply State.modShr_only | apply State.walkTenant_only | dsimp only | split
  all_goals first | exact hF.sub rfl | exact hF.bit rfl

theorem State.trimHeld_only {Fm : Nat} {s0 : State} (ps : NSet) {s : State} (hF : Inside 1073741824 Fm) (hK : Only Fm s0 s) :
    Only Fm s0 (State.trimHeld ps s) := by
  unfold State.trimHeld
  with_reducible repeat' first
    | assumption | intro _ | apply State.modShr_only | dsimp only | split
  all_goals first | exact hF.sub rfl | exact hF.bit rfl

/-! Machine/Windows.lean. -/

theorem State.shadowWrite_only {Fm : Nat} {s0 : State} (t : Nat) (f : Wtt → Wtt) {s : State} (hF : Inside 4112 Fm) (hK : Only Fm s0 s) :
    Only Fm s0 (State.shadowWrite t f s).2 := by
  unfold State.shadowWrite
  with_reducible repeat' first
    | assumption | intro _ | apply State.modStw_only | apply State.modWtt_only | dsimp only | split
  all_goals first | exact hF.sub rfl | exact hF.bit rfl

theorem State.writeWttCfg_only {Fm : Nat} {s0 : State} (t : Nat) (v : W32) {s : State} (hF : Inside 4112 Fm) (hK : Only Fm s0 s) :
    Only Fm s0 (State.writeWttCfg t v s) := by
  unfold State.writeWttCfg
  with_reducible repeat' first
    | assumption | intro _ | apply State.shadowWrite_only | dsimp only | split
  all_goals first | exact hF.sub rfl | exact hF.bit rfl

theorem execWttDataWrite_only {Fm : Nat} {s0 : State} (v : W32) {s : State} (hF : Inside 4112 Fm) (hK : Only Fm s0 s) :
    Answers (Only Fm s0) (execWttDataWrite v s) := by
  unfold execWttDataWrite
  with_reducible repeat' first
    | assumption | intro _ | apply Answers.next | apply Only.ite | apply State.shadowWrite_only | apply State.setStw_only
    | dsimp only | split | (refine Only.snd (by assumption) ?_)
  all_goals first | exact hF.sub rfl | exact hF.bit rfl

theorem State.commitStatus_only {Fm : Nat} {s0 : State} (st : Status) (t : Nat) {s : State} (hF : Inside 16 Fm) (hK : Only Fm s0 s) :
    Only Fm s0 (State.commitStatus st t s) := by
  unfold State.commitStatus
  with_reducible repeat' first
    | assumption | intro _ | apply State.setStw_only | dsimp only | split
  all_goals first | exact hF.sub rfl | exact hF.bit rfl

theorem State.walkCommit_only {Fm : Nat} {s0 : State} (t : Nat) {s : State} (hF : Inside 16579715307152 Fm) (hK : Only Fm s0 s) :
    Only Fm s0 (State.walkCommit t s) := by
  unfold State.walkCommit
  with_reducible repeat' first
    | assumption | intro _ | apply Only.ite | apply State.modWtt_only | apply State.startWalk_only | dsimp only | split
  all_goals first | exact hF.sub rfl | exact hF.bit rfl

theorem State.advanceCommit_only {Fm : Nat} {s0 : State} (g : NSet) {s : State} (hF : Inside 16579715307152 Fm) (hK : Only Fm s0 s) :
    Only Fm s0 (State.advanceCommit g s) := by
  unfold State.advanceCommit
  with_reducible repeat' first
    | assumption | intro _ | apply Only.ite | apply Only.forAll | apply State.walkCommit_only | dsimp only | split
  all_goals first | exact hF.sub rfl | exact hF.bit rfl

theorem State.schedule_only {Fm : Nat} {s0 : State} (named : NSet) {s : State} (hF : Inside 16579715323536 Fm) (hK : Only Fm s0 s) :
    Only Fm s0 (State.schedule named s) := by
  unfold State.schedule
  with_reducible repeat' first
    | assumption | intro _ | apply Only.forAll | apply State.modWtt_only | apply State.advanceCommit_only
    | (fail_if_no_progress refine Only.set_flip (hF.bit (by decide)) ?_) | dsimp only | split
  all_goals first | exact hF.sub rfl | exact hF.bit rfl

theorem execWttCommit_only {Fm : Nat} {s0 : State} (t : Tenant) {s : State} (hF : Inside 16579715323536 Fm) (hK : Only Fm s0 s) :
    Answers (Only Fm s0) (execWttCommit t s) := by
  unfold execWttCommit
  with_reducible repeat' first
    | assumption | intro _ | apply Answers.next | apply State.commitStatus_only | apply State.schedule_only | dsimp only | split
  all_goals first | exact hF.sub rfl | exact hF.bit rfl

theorem execWttGroupCommit_only {Fm : Nat} {s0 : State} {s : State} (hF : Inside 16579715323536 Fm) (hK : Only Fm s0 s) :
    Answers (Only Fm s0) (execWttGroupCommit s) := by
  unfold execWttGroupCommit
  with_reducible repeat' first
    | assumption | intro _ | apply Answers.next | apply State.commitStatus_only | apply State.schedule_only | dsimp only | split
  all_goals first | exact hF.sub rfl | exact hF.bit rfl

theorem execWttCopy_only {Fm : Nat} {s0 : State} (t : Tenant) {s : State} (hF : Inside 4112 Fm) (hK : Only Fm s0 s) :
    Answers (Only Fm s0) (execWttCopy t s) := by
  unfold execWttCopy
  with_reducible repeat' first
    | assumption | intro _ | apply Answers.next | apply Answers.ite | apply State.commitStatus_only | apply State.modWtt_only
    | dsimp only | split
  all_goals first | exact hF.sub rfl | exact hF.bit rfl

theorem execWttCommitReserved_only {Fm : Nat} {s0 : State} (_t : Tenant) {s : State} (hF : Inside 16 Fm) (hK : Only Fm s0 s) :
    Answers (Only Fm s0) (execWttCommitReserved _t s) := by
  unfold execWttCommitReserved
  with_reducible repeat' first
    | assumption | intro _ | apply Answers.next | apply State.commitStatus_only | dsimp only | split
  all_goals first | exact hF.sub rfl | exact hF.bit rfl

theorem State.capacity_only {Fm : Nat} {s0 : State} (t std : Nat) (l : List (Nat × Nat × Nat)) {s : State} (hF : Inside 2199023781376 Fm) (hK : Only Fm s0 s) :
    Only Fm s0 (State.capacity t std l s) := by
  unfold State.capacity
  with_reducible repeat' first
    | assumption | intro _ | apply Only.forAll | apply State.tenantLog_only | dsimp only | split
  all_goals first | exact hF.sub rfl | exact hF.bit rfl

theorem State.flipOne_only {Fm : Nat} {s0 : State} (t : Nat) {s : State} (hF : Inside 2199023785472 Fm) (hK : Only Fm s0 s) :
    Only Fm s0 (State.flipOne t s) := by
  unfold State.flipOne
  with_reducible repeat' first
    | assumption | intro _ | apply State.setWtt_only | apply State.modWtt_only | apply State.capacity_only | dsimp only | split
  all_goals first | exact hF.sub rfl | exact hF.bit rfl

theorem State.flipGroup_only {Fm : Nat} {s0 : State} (g : NSet) {s : State} (hF : Inside 2199023801856 Fm) (hK : Only Fm s0 s) :
    Only Fm s0 (State.flipGroup g s) := by
  unfold State.flipGroup
  with_reducible repeat' first
    | assumption | intro _ | apply Only.forAll | apply State.flipOne_only
    | (fail_if_no_progress refine Only.set_flip (hF.bit (by decide)) ?_) | dsimp only | split
  all_goals first | exact hF.sub rfl | exact hF.bit rfl

theorem execWttFlip_only {Fm : Nat} {s0 : State} {s : State} (hF : Inside 2199023801856 Fm) (hK : Only Fm s0 s) :
    Answers (Only Fm s0) (execWttFlip s) := by
  unfold execWttFlip
  with_reducible repeat' first
    | assumption | intro _ | apply Answers.next | apply State.flipGroup_only | dsimp only | split
  all_goals first | exact hF.sub rfl | exact hF.bit rfl

theorem execOldDone_only {Fm : Nat} {s0 : State} (t : Tenant) {s : State} (hF : Inside 16579715323536 Fm) (hK : Only Fm s0 s) :
    Answers (Only Fm s0) (execOldDone t s) := by
  unfold execOldDone
  with_reducible repeat' first
    | assumption | intro _ | apply Answers.next | apply Answers.ite | apply Only.ite | apply State.modWtt_only
    | apply State.advanceCommit_only | apply State.flipGroup_only | dsimp only | split
  all_goals first | exact hF.sub rfl | exact hF.bit rfl

/-! Machine/Rings.lean. -/

theorem State.ringSettle_only {Fm : Nat} {s0 : State} (t r : Nat) {s : State} (hF : Inside 262144 Fm) (hK : Only Fm s0 s) :
    Only Fm s0 (State.ringSettle t r s) := by
  unfold State.ringSettle
  with_reducible repeat' first
    | assumption | intro _ | apply Only.ite | apply State.modRing_only | dsimp only | split
  all_goals first | exact hF.sub rfl | exact hF.bit rfl

theorem State.voidFetch_only {Fm : Nat} {s0 : State} (t r : Nat) {s : State} (hF : Inside 263680 Fm) (hK : Only Fm s0 s) :
    Only Fm s0 (State.voidFetch t r s) := by
  unfold State.voidFetch
  with_reducible repeat' first
    | assumption | intro _ | apply State.modLd_only | apply State.modRing_only
    | (fail_if_no_progress refine Only.set_tags (hF.bit (by decide)) ?_) | dsimp only | split
  all_goals first | exact hF.sub rfl | exact hF.bit rfl

theorem State.stopRing_only {Fm : Nat} {s0 : State} (t r cause : Nat) {s : State} (hF : Inside 2267743520272 Fm) (hK : Only Fm s0 s) :
    Only Fm s0 (State.stopRing t r cause s) := by
  unfold State.stopRing
  with_reducible repeat' first
    | assumption | intro _ | apply Only.ite | apply State.setRing_only | apply State.voidFetch_only | apply State.logRec_only
    | apply State.raiseMsix_only | dsimp only | split
  all_goals first | exact hF.sub rfl | exact hF.bit rfl

theorem execRingEnable_only {Fm : Nat} {s0 : State} (t : Tenant) (r : BitVec 4) (v : W32) {s : State} (hF : Inside 263696 Fm) (hK : Only Fm s0 s) :
    Answers (Only Fm s0) (execRingEnable t r v s) := by
  unfold execRingEnable
  with_reducible repeat' first
    | assumption | intro _ | apply Answers.next | apply Only.ite | apply State.setBar_only | apply State.setRing_only
    | apply State.voidFetch_only | dsimp only | split
  all_goals first | exact hF.sub rfl | exact hF.bit rfl

theorem execRingDisable_only {Fm : Nat} {s0 : State} (t : Tenant) (r : BitVec 4) (v : W32) {s : State} (hF : Inside 263696 Fm) (hK : Only Fm s0 s) :
    Answers (Only Fm s0) (execRingDisable t r v s) := by
  unfold execRingDisable
  with_reducible repeat' first
    | assumption | intro _ | apply Answers.next | apply Only.ite | apply State.setBar_only | apply State.setRing_only
    | apply State.voidFetch_only | apply State.ringSettle_only | dsimp only | split
  all_goals first | exact hF.sub rfl | exact hF.bit rfl

theorem execRingRestart_only {Fm : Nat} {s0 : State} (t : Tenant) (r : BitVec 4) {s : State} (hF : Inside 262144 Fm) (hK : Only Fm s0 s) :
    Answers (Only Fm s0) (execRingRestart t r s) := by
  unfold execRingRestart
  with_reducible repeat' first
    | assumption | intro _ | apply Answers.next | apply State.setRing_only | dsimp only | split
  all_goals first | exact hF.sub rfl | exact hF.bit rfl

theorem State.doorbell_only {Fm : Nat} {s0 : State} (t r tail : Nat) {s : State} (hF : Inside 262672 Fm) (hK : Only Fm s0 s) :
    Only Fm s0 (State.doorbell t r tail s) := by
  unfold State.doorbell
  with_reducible repeat' first
    | assumption | intro _ | apply Only.ite | apply State.cntBar_only | apply State.modLd_only | apply State.modRing_only
    | dsimp only | split
  all_goals first | exact hF.sub rfl | exact hF.bit rfl

theorem State.doorbellWords_only {Fm : Nat} {s0 : State} (t : Nat) (d : Line) (be : W64) (poison : Bool) {s : State} (hF : Inside 262672 Fm) (hK : Only Fm s0 s) :
    Only Fm s0 (State.doorbellWords t d be poison s) := by
  unfold State.doorbellWords
  with_reducible repeat' first
    | assumption | intro _ | apply Only.ite | apply Only.forAll | apply State.doorbell_only | dsimp only | split
  all_goals first | exact hF.sub rfl | exact hF.bit rfl

theorem State.doorbellWrite_only {Fm : Nat} {s0 : State} (t c : Nat) (d : Line) (be : W64) (poison : Bool) {s : State} (hF : Inside 2199023518224 Fm) (hK : Only Fm s0 s) :
    Only Fm s0 (State.doorbellWrite t c d be poison s) := by
  unfold State.doorbellWrite
  with_reducible repeat' first
    | assumption | intro _ | apply State.doorbellWords_only | apply State.emit_only | dsimp only | split
  all_goals first | exact hF.sub rfl | exact hF.bit rfl

theorem State.doorbellRead_only {Fm : Nat} {s0 : State} (t c : Nat) {s : State} (hF : Inside 2199023255552 Fm) (hK : Only Fm s0 s) :
    Only Fm s0 (State.doorbellRead t c s) := by
  unfold State.doorbellRead
  with_reducible repeat' first
    | assumption | intro _ | apply State.emit_only | dsimp only | split
  all_goals first | exact hF.sub rfl | exact hF.bit rfl

theorem execDoorbellLineWrite_only {Fm : Nat} {s0 : State} (t : Tenant) (data : Line) (be : W64) (poison : Bool) {s : State} (hF : Inside 2199023518224 Fm) (hK : Only Fm s0 s) :
    Answers (Only Fm s0) (execDoorbellLineWrite t data be poison s) := by
  unfold execDoorbellLineWrite
  with_reducible repeat' first
    | assumption | intro _ | apply Answers.next | apply Only.ite | apply State.doorbellWrite_only | dsimp only | split
  all_goals first | exact hF.sub rfl | exact hF.bit rfl

theorem execDoorbellLineRead_only {Fm : Nat} {s0 : State} (t : Tenant) {s : State} (hF : Inside 2199023255552 Fm) (hK : Only Fm s0 s) :
    Answers (Only Fm s0) (execDoorbellLineRead t s) := by
  unfold execDoorbellLineRead
  with_reducible repeat' first
    | assumption | intro _ | apply Answers.next | apply Only.ite | apply State.doorbellRead_only | dsimp only | split
  all_goals first | exact hF.sub rfl | exact hF.bit rfl

theorem execMmioDoorbell_only {Fm : Nat} {s0 : State} (t : Tenant) (v : W32) {s : State} (hF : Inside 262672 Fm) (hK : Only Fm s0 s) :
    Answers (Only Fm s0) (execMmioDoorbell t v s) := by
  unfold execMmioDoorbell
  with_reducible repeat' first
    | assumption | intro _ | apply Answers.next | apply State.doorbell_only | dsimp only | split
  all_goals first | exact hF.sub rfl | exact hF.bit rfl

theorem execRingFetch_only {Fm : Nat} {s0 : State} (t : Tenant) {s : State} (hF : Inside 10995117065728 Fm) (hK : Only Fm s0 s) :
    Answers (Only Fm s0) (execRingFetch t s) := by
  unfold execRingFetch
  with_reducible repeat' first
    | assumption | intro _ | apply Answers.next | apply Answers.ite | apply State.modEng_only | apply State.modRing_only
    | apply State.dmaRead_only | dsimp only | split
  all_goals first | exact hF.sub rfl | exact hF.bit rfl

theorem State.dropTag_only {Fm : Nat} {s0 : State} (g : Nat) {s : State} (hF : Inside 1024 Fm) (hK : Only Fm s0 s) :
    Only Fm s0 (State.dropTag g s) := by
  unfold State.dropTag
  with_reducible repeat' first
    | assumption | intro _ | (fail_if_no_progress refine Only.set_tags (hF.bit (by decide)) ?_) | dsimp only | split
  all_goals first | exact hF.sub rfl | exact hF.bit rfl

theorem State.fetchEnds_only {Fm : Nat} {s0 : State} (t r first cnt : Nat) (res : Except Nat (List Line)) {s : State} (hF : Inside 2267743520272 Fm) (hK : Only Fm s0 s) :
    Only Fm s0 (State.fetchEnds t r first cnt res s) := by
  unfold State.fetchEnds
  with_reducible repeat' first
    | assumption | intro _ | apply Only.ite | apply State.setRing_only | apply State.stopRing_only | apply State.modRing_only
    | dsimp only | split
  all_goals first | exact hF.sub rfl | exact hF.bit rfl

theorem State.unexpected_only {Fm : Nat} {s0 : State} (t : Nat) {s : State} (hF : Inside 528 Fm) (hK : Only Fm s0 s) :
    Only Fm s0 (State.unexpected t s) := by
  unfold State.unexpected
  with_reducible repeat' first
    | assumption | intro _ | apply State.cntBar_only | apply State.modLd_only | dsimp only | split
  all_goals first | exact hF.sub rfl | exact hF.bit rfl

theorem execDescriptorFetchCompletion_only {Fm : Nat} {s0 : State} (tag : Nat) (c : Cpl) {s : State} (hF : Inside 2267743520272 Fm) (hK : Only Fm s0 s) :
    Answers (Only Fm s0) (execDescriptorFetchCompletion tag c s) := by
  unfold execDescriptorFetchCompletion
  with_reducible repeat' first
    | assumption | intro _ | apply Answers.next | apply State.dropTag_only | apply State.fetchEnds_only
    | apply State.unexpected_only | dsimp only | split
  all_goals first | exact hF.sub rfl | exact hF.bit rfl

theorem State.writeRecord_only {Fm : Nat} {s0 : State} (t ring : Nat) (d : Line) (st : Status) (detail : Nat) (acc : Bool) {s : State} (hF : Inside 2199023781376 Fm) (hK : Only Fm s0 s) :
    Only Fm s0 (State.writeRecord t ring d st detail acc s) := by
  unfold State.writeRecord
  with_reducible repeat' first
    | assumption | intro _ | apply Only.ite | apply State.setEng_only | apply State.request_only | apply State.raiseMsix_only
    | dsimp only | split
  all_goals first | exact hF.sub rfl | exact hF.bit rfl

theorem State.complete_only {Fm : Nat} {s0 : State} (t ring : Nat) (d : Line) (st : Status) (detail : Nat) (acc : Bool) {s : State} (hF : Inside 2267743520272 Fm) (hK : Only Fm s0 s) :
    Only Fm s0 (State.complete t ring d st detail acc s) := by
  unfold State.complete
  with_reducible repeat' first
    | assumption | intro _ | apply Only.ite | apply State.writeRecord_only | apply State.stopRing_only
    | apply State.ringSettle_only | dsimp only | split
  all_goals first | exact hF.sub rfl | exact hF.bit rfl

theorem execInterruptCoalesceExpire_only {Fm : Nat} {s0 : State} (t : Tenant) {s : State} (hF : Inside 2199023781376 Fm) (hK : Only Fm s0 s) :
    Answers (Only Fm s0) (execInterruptCoalesceExpire t s) := by
  unfold execInterruptCoalesceExpire
  with_reducible repeat' first
    | assumption | intro _ | apply Answers.next | apply Answers.ite | apply Only.ite | apply State.setEng_only
    | apply State.raiseMsix_only | dsimp only | split
  all_goals first | exact hF.sub rfl | exact hF.bit rfl

theorem execCqEnable_only {Fm : Nat} {s0 : State} (t : Tenant) (v : W32) {s : State} (hF : Inside 524304 Fm) (hK : Only Fm s0 s) :
    Answers (Only Fm s0) (execCqEnable t v s) := by
  unfold execCqEnable
  with_reducible repeat' first
    | assumption | intro _ | apply Answers.next | apply Only.ite | apply State.setBar_only | apply State.modEng_only
    | dsimp only | split
  all_goals first | exact hF.sub rfl | exact hF.bit rfl

theorem execCqDisable_only {Fm : Nat} {s0 : State} (t : Tenant) (v : W32) {s : State} (hF : Inside 16 Fm) (hK : Only Fm s0 s) :
    Answers (Only Fm s0) (execCqDisable t v s) := by
  unfold execCqDisable
  with_reducible repeat' first
    | assumption | intro _ | apply Answers.next | apply State.setBar_only | dsimp only | split
  all_goals first | exact hF.sub rfl | exact hF.bit rfl

theorem execCqHeadWrite_only {Fm : Nat} {s0 : State} (t : Tenant) (v : W32) {s : State} (hF : Inside 524304 Fm) (hK : Only Fm s0 s) :
    Answers (Only Fm s0) (execCqHeadWrite t v s) := by
  unfold execCqHeadWrite
  with_reducible repeat' first
    | assumption | intro _ | apply Answers.next | apply Answers.ite | apply State.modEng_only | apply State.modBar_only
    | dsimp only | split
  all_goals first | exact hF.sub rfl | exact hF.bit rfl

/-! Machine/Requests.lean. -/

theorem State.endReq_only {Fm : Nat} {s0 : State} (r : Req) (c : Status) {s : State} (hF : Inside 2201170739216 Fm) (hK : Only Fm s0 s) :
    Only Fm s0 (State.endReq r c s) := by
  unfold State.endReq
  with_reducible repeat' first
    | assumption | intro _ | apply State.latency_only | apply State.emit_only | dsimp only | split
  all_goals first | exact hF.sub rfl | exact hF.bit rfl

theorem State.endData_only {Fm : Nat} {s0 : State} (r : Req) (d : Line) {s : State} (hF : Inside 2201170739216 Fm) (hK : Only Fm s0 s) :
    Only Fm s0 (State.endData r d s) := by
  unfold State.endData
  with_reducible repeat' first
    | assumption | intro _ | apply State.latency_only | apply State.emit_only | dsimp only | split
  all_goals first | exact hF.sub rfl | exact hF.bit rfl

theorem State.reqRecord_only {Fm : Nat} {s0 : State} (r : Req) (loc why : Nat) (st : Status) {s : State} (hF : Inside 2267743258128 Fm) (hK : Only Fm s0 s) :
    Only Fm s0 (State.reqRecord r loc why st s) := by
  unfold State.reqRecord
  with_reducible repeat' first
    | assumption | intro _ | apply State.logRec_only | dsimp only | split
  all_goals first | exact hF.sub rfl | exact hF.bit rfl

theorem State.endTimeout_only {Fm : Nat} {s0 : State} (r : Req) {s : State} (hF : Inside 2269890741776 Fm) (hK : Only Fm s0 s) :
    Only Fm s0 (State.endTimeout r s) := by
  unfold State.endTimeout
  with_reducible repeat' first
    | assumption | intro _ | apply State.reqRecord_only | apply State.endReq_only | dsimp only | split
  all_goals first | exact hF.sub rfl | exact hF.bit rfl

theorem State.farFails_only {Fm : Nat} {s0 : State} (u : DmaUse) (c : Status) {s : State} (hF : Inside 16580790158992 Fm) (hK : Only Fm s0 s) :
    Only Fm s0 (State.farFails u c s) := by
  unfold State.farFails
  with_reducible repeat' first
    | assumption | intro _ | apply Only.ite | apply State.endTimeout_only | apply State.endReq_only | apply State.farArrive_only
    | apply State.closeBlk_only | apply State.abandonPromotion_only | dsimp only | split
  all_goals first | exact hF.sub rfl | exact hF.bit rfl

theorem State.failReadsOf_only {Fm : Nat} {s0 : State} (t : Nat) (d : DmaUse → Bool) (c : Status) {s : State} (hF : Inside 16580790158992 Fm) (hK : Only Fm s0 s) :
    Only Fm s0 (State.failReadsOf t d c s) := by
  unfold State.failReadsOf
  with_reducible repeat' first
    | assumption | intro _ | apply Only.forAll | apply State.modLd_only | apply State.farFails_only
    | (fail_if_no_progress refine Only.set_tags (hF.bit (by decide)) ?_) | dsimp only | split
  all_goals first | exact hF.sub rfl | exact hF.bit rfl

theorem State.failTierReads_only {Fm : Nat} {s0 : State} (ps : List Nat) {s : State} (hF : Inside 2218350608400 Fm) (hK : Only Fm s0 s) :
    Only Fm s0 (State.failTierReads ps s) := by
  unfold State.failTierReads
  with_reducible repeat' first
    | assumption | intro _ | apply Only.forAll | apply State.endReq_only | apply State.modDmc_only | dsimp only | split
  all_goals first | exact hF.sub rfl | exact hF.bit rfl

theorem State.loseExtent_only {Fm : Nat} {s0 : State} (l cause : Nat) {s : State} (hF : Inside 16580790158992 Fm) (hK : Only Fm s0 s) :
    Only Fm s0 (State.loseExtent l cause s) := by
  unfold State.loseExtent
  with_reducible repeat' first
    | assumption | intro _ | apply Only.ite | apply Only.forAll | apply State.modStw_only | apply State.modPlot_only
    | apply State.dropNear_only | apply State.dropOpen_only | apply State.cancelMove_only | apply State.settle_only
    | apply State.failTierReads_only | apply State.failReadsOf_only | apply State.farDrop_only | apply State.logRec_only
    | dsimp only | split
  all_goals first | exact hF.sub rfl | exact hF.bit rfl

/-! Machine/HostMem.lean. -/

theorem State.waitClose_only {Fm : Nat} {s0 : State} (r : Req) {s : State} (hF : Inside 131072 Fm) (hK : Only Fm s0 s) :
    Only Fm s0 (State.waitClose r s) := by
  unfold State.waitClose
  with_reducible repeat' first
    | assumption | intro _ | apply State.modCmp_only | dsimp only | split
  all_goals first | exact hF.sub rfl | exact hF.bit rfl

theorem State.readReq_only {Fm : Nat} {s0 : State} (r : Req) (began : Bool) (got : Option (Except Status (List Byte))) {s : State} (hF : Inside 12182675392016 Fm) (hK : Only Fm s0 s) :
    Only Fm s0 (State.readReq r began got s) := by
  unfold State.readReq
  with_reducible repeat' first
    | assumption | intro _ | apply Only.ite | apply State.waitClose_only | apply State.modDmc_only | apply State.readLine_only
    | apply State.endData_only | apply State.endReq_only | apply State.dmaRead_only | dsimp only | split
    | (refine Only.snd (by assumption) ?_)
  all_goals first | exact hF.sub rfl | exact hF.bit rfl

theorem State.writeReq_only {Fm : Nat} {s0 : State} (r : Req) {s : State} (hF : Inside 16580789044880 Fm) (hK : Only Fm s0 s) :
    Only Fm s0 (State.writeReq r s) := by
  unfold State.writeReq
  with_reducible repeat' first
    | assumption | intro _ | apply Only.ite | apply State.waitClose_only | apply State.makeBuffer_only
    | apply State.writeLine_only | apply State.endReq_only | dsimp only | split
  all_goals first | exact hF.sub rfl | exact hF.bit rfl

theorem State.closeResume_only {Fm : Nat} {s0 : State} {s : State} (hF : Inside 16580789044880 Fm) (hK : Only Fm s0 s) :
    Only Fm s0 (State.closeResume s) := by
  unfold State.closeResume
  with_reducible repeat' first
    | assumption | intro _ | apply Only.ite | apply Only.forAll | apply State.writeReq_only | apply State.readReq_only
    | apply State.modCmp_only | dsimp only | split
  all_goals first | exact hF.sub rfl | exact hF.bit rfl

theorem State.tierReq_only {Fm : Nat} {s0 : State} (r : Req) {s : State} (hF : Inside 16580790158992 Fm) (hK : Only Fm s0 s) :
    Only Fm s0 (State.tierReq r s) := by
  unfold State.tierReq
  with_reducible repeat' first
    | assumption | intro _ | apply Only.ite | apply State.access_only | apply State.readReq_only | apply State.writeReq_only
    | apply State.endReq_only | (fail_if_no_progress refine Only.set_bridge (hF.bit (by decide)) ?_) | dsimp only | split
  all_goals first | exact hF.sub rfl | exact hF.bit rfl

theorem State.countWrdrop_only {Fm : Nat} {s0 : State} (t : Nat) {s : State} (hF : Inside 16 Fm) (hK : Only Fm s0 s) :
    Only Fm s0 (State.countWrdrop t s) := by
  unfold State.countWrdrop
  with_reducible repeat' first
    | assumption | intro _ | apply State.cntBar_only | dsimp only | split
  all_goals first | exact hF.sub rfl | exact hF.bit rfl

theorem State.countOrphrd_only {Fm : Nat} {s0 : State} (t : Nat) {s : State} (hF : Inside 16 Fm) (hK : Only Fm s0 s) :
    Only Fm s0 (State.countOrphrd t s) := by
  unfold State.countOrphrd
  with_reducible repeat' first
    | assumption | intro _ | apply State.cntBar_only | dsimp only | split
  all_goals first | exact hF.sub rfl | exact hF.bit rfl

theorem State.waitReq_only {Fm : Nat} {s0 : State} (r : Req) (front : Bool) {s : State} (hF : Inside 1073741824 Fm) (hK : Only Fm s0 s) :
    Only Fm s0 (State.waitReq r front s) := by
  unfold State.waitReq
  with_reducible repeat' first
    | assumption | intro _ | apply Only.ite | apply State.modShr_only | dsimp only | split
  all_goals first | exact hF.sub rfl | exact hF.bit rfl

theorem State.orphanReq_only {Fm : Nat} {s0 : State} (r : Req) {s : State} (hF : Inside 2201170739216 Fm) (hK : Only Fm s0 s) :
    Only Fm s0 (State.orphanReq r s) := by
  unfold State.orphanReq
  with_reducible repeat' first
    | assumption | intro _ | apply State.countOrphrd_only | apply State.endReq_only | apply State.countWrdrop_only | dsimp only
    | split
  all_goals first | exact hF.sub rfl | exact hF.bit rfl

theorem State.serveReq_only {Fm : Nat} {s0 : State} (front : Bool) (r : Req) {s : State} (hF : Inside 16581863900816 Fm) (hK : Only Fm s0 s) :
    Only Fm s0 (State.serveReq front r s) := by
  unfold State.serveReq
  with_reducible repeat' first
    | assumption | intro _ | apply Only.ite | apply State.convertLine_only | apply State.modShr_only
    | apply State.countWrdrop_only | apply State.endReq_only | apply State.orphanReq_only | apply State.dirServe_only
    | apply State.tierReq_only | apply State.waitReq_only | apply State.dirTouch_only | dsimp only | split
    | (refine Only.snd (by assumption) ?_)
  all_goals first | exact hF.sub rfl | exact hF.bit rfl

theorem State.rerun_only {Fm : Nat} {s0 : State} (d : Req → Bool) {s : State} (hF : Inside 16581863900816 Fm) (hK : Only Fm s0 s) :
    Only Fm s0 (State.rerun d s) := by
  unfold State.rerun
  with_reducible repeat' first
    | assumption | intro _ | apply Only.forAll | apply State.modShr_only | apply State.serveReq_only | dsimp only | split
  all_goals first | exact hF.sub rfl | exact hF.bit rfl

theorem State.lineFree_only {Fm : Nat} {s0 : State} (l : Nat) {s : State} (hF : Inside 16581863900816 Fm) (hK : Only Fm s0 s) :
    Only Fm s0 (State.lineFree l s) := by
  unfold State.lineFree
  with_reducible repeat' first
    | assumption | intro _ | apply Only.ite | apply State.rerun_only | dsimp only | split
  all_goals first | exact hF.sub rfl | exact hF.bit rfl

theorem State.snoopDone_only {Fm : Nat} {s0 : State} (n : Snoop) {s : State} (hF : Inside 16581863900816 Fm) (hK : Only Fm s0 s) :
    Only Fm s0 (State.snoopDone n s) := by
  unfold State.snoopDone
  with_reducible repeat' first
    | assumption | intro _ | apply Only.ite | apply State.rerun_only | apply State.lineFree_only | dsimp only | split
  all_goals first | exact hF.sub rfl | exact hF.bit rfl

theorem State.toHome_only {Fm : Nat} {s0 : State} (r : Req) {s : State} (hF : Inside 16581863900816 Fm) (hK : Only Fm s0 s) :
    Only Fm s0 (State.toHome r s) := by
  unfold State.toHome
  with_reducible repeat' first
    | assumption | intro _ | apply Only.ite | apply State.endReq_only | apply State.serveReq_only
    | (fail_if_no_progress refine Only.set_bridge (hF.bit (by decide)) ?_) | dsimp only | split
  all_goals first | exact hF.sub rfl | exact hF.bit rfl

theorem State.passCopy_only {Fm : Nat} {s0 : State} (t p : Nat) (e : Plot) {s : State} (hF : Inside 2147516416 Fm) (hK : Only Fm s0 s) :
    Only Fm s0 (State.passCopy t p e s) := by
  unfold State.passCopy
  with_reducible repeat' first
    | assumption | intro _ | apply State.modHg_only | apply State.setPlot_only | dsimp only | split
  all_goals first | exact hF.sub rfl | exact hF.bit rfl

theorem State.unholdReq_only {Fm : Nat} {s0 : State} (r : Req) {s : State} (hF : Inside 2147483648 Fm) (hK : Only Fm s0 s) :
    Only Fm s0 (State.unholdReq r s) := by
  unfold State.unholdReq
  with_reducible repeat' first
    | assumption | intro _ | apply State.modHg_only | dsimp only | split
  all_goals first | exact hF.sub rfl | exact hF.bit rfl

theorem State.passReq_only {Fm : Nat} {s0 : State} (t : Nat) (r : Req) {s : State} (hF : Inside 16581863900816 Fm) (hK : Only Fm s0 s) :
    Only Fm s0 (State.passReq t r s) := by
  unfold State.passReq
  with_reducible repeat' first
    | assumption | intro _ | apply Only.ite | apply State.unholdReq_only | apply State.modHg_only | apply State.toHome_only
    | dsimp only | split
  all_goals first | exact hF.sub rfl | exact hF.bit rfl

theorem State.admitHeld_only {Fm : Nat} {s0 : State} (t : Nat) {s : State} (hF : Inside 16581863900816 Fm) (hK : Only Fm s0 s) :
    Only Fm s0 (State.admitHeld t s).2 := by
  unfold State.admitHeld
  with_reducible repeat' first
    | assumption | intro _ | apply State.passReq_only | apply State.passCopy_only | dsimp only | split
  all_goals first | exact hF.sub rfl | exact hF.bit rfl

theorem State.admitUpTo_only {Fm : Nat} {s0 : State} (t : Nat) (hF : Inside 16581863900816 Fm) : ∀ (rest_ : Nat) {s : State}, Only Fm s0 s →
    Only Fm s0 (State.admitUpTo t rest_ s) := by
  intro rest_
  induction rest_ with
  | zero =>
    intro s hK
    unfold State.admitUpTo
    with_reducible repeat' first
      | assumption | intro _ | apply State.admitHeld_only | dsimp only | split | (refine Only.snd (by assumption) ?_)
    all_goals first | exact hF.sub rfl | exact hF.bit rfl
  | succ n ih =>
    intro s hK
    unfold State.admitUpTo
    with_reducible repeat' first
      | assumption | apply ih | intro _ | apply State.admitHeld_only | dsimp only | split | (refine Only.snd (by assumption) ?_)
    all_goals first | exact hF.sub rfl | exact hF.bit rfl

theorem State.admitAll_only {Fm : Nat} {s0 : State} (t : Nat) {s : State} (hF : Inside 16581863900816 Fm) (hK : Only Fm s0 s) :
    Only Fm s0 (State.admitAll t s) := by
  unfold State.admitAll
  with_reducible repeat' first
    | assumption | intro _ | apply State.admitUpTo_only | dsimp only | split
  all_goals first | exact hF.sub rfl | exact hF.bit rfl

theorem State.headgate_only {Fm : Nat} {s0 : State} (r : Req) {s : State} (hF : Inside 16581863900816 Fm) (hK : Only Fm s0 s) :
    Only Fm s0 (State.headgate r s) := by
  unfold State.headgate
  with_reducible repeat' first
    | assumption | intro _ | apply Only.ite | apply State.weirAdmit_only | apply State.setHg_only | apply State.heldMark_only
    | apply State.toHome_only | dsimp only | split | (refine Only.snd (by assumption) ?_)
  all_goals first | exact hF.sub rfl | exact hF.bit rfl

theorem execHeadgateAdmit_only {Fm : Nat} {s0 : State} (t : Tenant) {s : State} (hF : Inside 16581863900816 Fm) (hK : Only Fm s0 s) :
    Answers (Only Fm s0) (execHeadgateAdmit t s) := by
  unfold execHeadgateAdmit
  with_reducible repeat' first
    | assumption | intro _ | apply Answers.next | apply State.admitHeld_only | dsimp only | split
  all_goals first | exact hF.sub rfl | exact hF.bit rfl

theorem State.wttStage_only {Fm : Nat} {s0 : State} (r : Req) {s : State} (hF : Inside 16581863900816 Fm) (hK : Only Fm s0 s) :
    Only Fm s0 (State.wttStage r s) := by
  unfold State.wttStage
  with_reducible repeat' first
    | assumption | intro _ | apply Only.ite | apply State.modShr_only | apply State.cntBar_only | apply State.headgate_only
    | apply State.endReq_only | dsimp only | split
  all_goals first | exact hF.sub rfl | exact hF.bit rfl

theorem State.resume291_only {Fm : Nat} {s0 : State} {s : State} (hF : Inside 16581863900816 Fm) (hK : Only Fm s0 s) :
    Only Fm s0 (State.resume291 s) := by
  unfold State.resume291
  with_reducible repeat' first
    | assumption | intro _ | apply Only.forAll | apply State.wttStage_only | apply State.modShr_only | dsimp only | split
  all_goals first | exact hF.sub rfl | exact hF.bit rfl

theorem State.hostReq_only {Fm : Nat} {s0 : State} (p : PortId) (ld : BitVec 4) (op : ReqOp) (hpa : W64) (mv : Meta) (d : Line) (be : W64) (poison : Bool) (md : Media) {s : State} (hF : Inside 16586159130256 Fm) (hK : Only Fm s0 s) :
    Only Fm s0 (State.hostReq p ld op hpa mv d be poison md s) := by
  unfold State.hostReq
  with_reducible repeat' first
    | assumption | intro _ | apply Only.ite | apply State.cntStw_only | apply State.emit_only | apply State.cntBar_only
    | apply State.reqRecord_only | apply State.doorbellWrite_only | apply State.doorbellRead_only | apply State.wttStage_only
    | (fail_if_no_progress refine Only.set_nextReq (hF.bit (by decide)) ?_) | dsimp only | split
  all_goals first | exact hF.sub rfl | exact hF.bit rfl

theorem execHostMemRead_only {Fm : Nat} {s0 : State} (p : PortId) (ld : BitVec 4) (hpa : W64) (mv : Meta) (md : Media) {s : State} (hF : Inside 16586159130256 Fm) (hK : Only Fm s0 s) :
    Answers (Only Fm s0) (execHostMemRead p ld hpa mv md s) := by
  unfold execHostMemRead
  with_reducible repeat' first
    | assumption | intro _ | apply Answers.next | apply State.hostReq_only | dsimp only | split
  all_goals first | exact hF.sub rfl | exact hF.bit rfl

theorem execHostMemWrite_only {Fm : Nat} {s0 : State} (p : PortId) (ld : BitVec 4) (hpa : W64) (mv : Meta) (data : Line) (be : W64) (poison : Bool) {s : State} (hF : Inside 16586159130256 Fm) (hK : Only Fm s0 s) :
    Answers (Only Fm s0) (execHostMemWrite p ld hpa mv data be poison s) := by
  unfold execHostMemWrite
  with_reducible repeat' first
    | assumption | intro _ | apply Answers.next | apply State.hostReq_only | dsimp only | split
  all_goals first | exact hF.sub rfl | exact hF.bit rfl

theorem execHostMemInv_only {Fm : Nat} {s0 : State} (p : PortId) (ld : BitVec 4) (hpa : W64) (mv : Meta) {s : State} (hF : Inside 16586159130256 Fm) (hK : Only Fm s0 s) :
    Answers (Only Fm s0) (execHostMemInv p ld hpa mv s) := by
  unfold execHostMemInv
  with_reducible repeat' first
    | assumption | intro _ | apply Answers.next | apply State.hostReq_only | dsimp only | split
  all_goals first | exact hF.sub rfl | exact hF.bit rfl

theorem execFarReadCompletion_only {Fm : Nat} {s0 : State} (tag : Nat) (data : List Byte) (poison : Bool) {s : State} (hF : Inside 16580790158992 Fm) (hK : Only Fm s0 s) :
    Answers (Only Fm s0) (execFarReadCompletion tag data poison s) := by
  unfold execFarReadCompletion
  with_reducible repeat' first
    | assumption | intro _ | apply Answers.next | apply Answers.ite | apply State.dropTag_only | apply State.readReq_only
    | apply State.farFails_only | apply State.closeResume_only | apply State.farArrive_only | apply State.closeBlk_only
    | apply State.farDrop_only | apply State.unexpected_only | dsimp only | split
  all_goals first | exact hF.sub rfl | exact hF.bit rfl

theorem execTierReadReturn_only {Fm : Nat} {s0 : State} (id : Nat) (md : Media) {s : State} (hF : Inside 12182675392016 Fm) (hK : Only Fm s0 s) :
    Answers (Only Fm s0) (execTierReadReturn id md s) := by
  unfold execTierReadReturn
  with_reducible repeat' first
    | assumption | intro _ | apply Answers.next | apply Answers.ite | apply State.modDmc_only | apply State.readReq_only
    | dsimp only | split
  all_goals first | exact hF.sub rfl | exact hF.bit rfl

theorem execTierReadTimeout_only {Fm : Nat} {s0 : State} (id : Nat) {s : State} (hF : Inside 2287070610960 Fm) (hK : Only Fm s0 s) :
    Answers (Only Fm s0) (execTierReadTimeout id s) := by
  unfold execTierReadTimeout
  with_reducible repeat' first
    | assumption | intro _ | apply Answers.next | apply Answers.ite | apply State.modDmc_only | apply State.cntStw_only
    | apply State.endTimeout_only | dsimp only | split
  all_goals first | exact hF.sub rfl | exact hF.bit rfl

theorem execTierReadLateReturn_only {Fm : Nat} {s0 : State} (id : Nat) {s : State} (hF : Inside 17179869200 Fm) (hK : Only Fm s0 s) :
    Answers (Only Fm s0) (execTierReadLateReturn id s) := by
  unfold execTierReadLateReturn
  with_reducible repeat' first
    | assumption | intro _ | apply Answers.next | apply Answers.ite | apply State.modDmc_only | apply State.cntStw_only
    | dsimp only | split
  all_goals first | exact hF.sub rfl | exact hF.bit rfl

theorem execWriteCompressorClose_only {Fm : Nat} {s0 : State} (p : PortId) {s : State} (hF : Inside 16580789044880 Fm) (hK : Only Fm s0 s) :
    Answers (Only Fm s0) (execWriteCompressorClose p s) := by
  unfold execWriteCompressorClose
  with_reducible repeat' first
    | assumption | intro _ | apply Answers.next | apply State.closeBlk_only | apply State.closeResume_only
    | apply State.makeBuffer_only | dsimp only | split
  all_goals first | exact hF.sub rfl | exact hF.bit rfl

theorem execDirectoryWaitResume_only {Fm : Nat} {s0 : State} (h : Half) {s : State} (hF : Inside 16581863900816 Fm) (hK : Only Fm s0 s) :
    Answers (Only Fm s0) (execDirectoryWaitResume h s) := by
  unfold execDirectoryWaitResume
  with_reducible repeat' first
    | assumption | intro _ | apply Answers.next | apply State.modShr_only | apply State.serveReq_only | dsimp only | split
  all_goals first | exact hF.sub rfl | exact hF.bit rfl

theorem execCompletionTimeout_only {Fm : Nat} {s0 : State} (tag : Nat) {s : State} (hF : Inside 16580790423184 Fm) (hK : Only Fm s0 s) :
    Answers (Only Fm s0) (execCompletionTimeout tag s) := by
  unfold execCompletionTimeout
  with_reducible repeat' first
    | assumption | intro _ | apply Answers.next | apply State.dropTag_only | apply State.modLd_only | apply State.cntBar_only
    | apply State.fetchEnds_only | apply State.farFails_only | apply State.asgnResume_only | apply State.closeResume_only
    | (fail_if_no_progress refine Only.set_quarantine (hF.bit (by decide)) ?_) | dsimp only | split
  all_goals first | exact hF.sub rfl | exact hF.bit rfl

theorem execTagQuarantineExpire_only {Fm : Nat} {s0 : State} (tag : Nat) {s : State} (hF : Inside 2048 Fm) (hK : Only Fm s0 s) :
    Answers (Only Fm s0) (execTagQuarantineExpire tag s) := by
  unfold execTagQuarantineExpire
  with_reducible repeat' first
    | assumption | intro _ | apply Answers.next | (fail_if_no_progress refine Only.set_quarantine (hF.bit (by decide)) ?_)
    | dsimp only | split
  all_goals first | exact hF.sub rfl | exact hF.bit rfl

theorem execUnexpectedCompletion_only {Fm : Nat} {s0 : State} (t : Tenant) (tag : Nat) {s : State} (hF : Inside 528 Fm) (hK : Only Fm s0 s) :
    Answers (Only Fm s0) (execUnexpectedCompletion t tag s) := by
  unfold execUnexpectedCompletion
  with_reducible repeat' first
    | assumption | intro _ | apply Answers.next | apply Only.ite | apply State.unexpected_only | dsimp only | split
  all_goals first | exact hF.sub rfl | exact hF.bit rfl

theorem execFarDmaErrorCompletion_only {Fm : Nat} {s0 : State} (tag : Nat) {s : State} (hF : Inside 16580790158992 Fm) (hK : Only Fm s0 s) :
    Answers (Only Fm s0) (execFarDmaErrorCompletion tag s) := by
  unfold execFarDmaErrorCompletion
  with_reducible repeat' first
    | assumption | intro _ | apply Answers.next | apply State.loseExtent_only | apply State.asgnResume_only
    | apply State.dropTag_only | apply State.farFails_only | apply State.closeResume_only | apply State.unexpected_only
    | dsimp only | split
  all_goals first | exact hF.sub rfl | exact hF.bit rfl

theorem execFarEnable_only {Fm : Nat} {s0 : State} (t : Tenant) {s : State} (hF : Inside 16 Fm) (hK : Only Fm s0 s) :
    Answers (Only Fm s0) (execFarEnable t s) := by
  unfold execFarEnable
  with_reducible repeat' first
    | assumption | intro _ | apply Answers.next | apply Answers.ite | apply State.modStw_only | dsimp only | split
  all_goals first | exact hF.sub rfl | exact hF.bit rfl

theorem execFarDisable_only {Fm : Nat} {s0 : State} (t : Tenant) {s : State} (hF : Inside 16580790158992 Fm) (hK : Only Fm s0 s) :
    Answers (Only Fm s0) (execFarDisable t s) := by
  unfold execFarDisable
  with_reducible repeat' first
    | assumption | intro _ | apply Answers.next | apply Answers.ite | apply State.modStw_only | apply State.loseExtent_only
    | apply State.asgnResume_only | apply State.closeResume_only | dsimp only | split
  all_goals first | exact hF.sub rfl | exact hF.bit rfl

theorem execFarRevoke_only {Fm : Nat} {s0 : State} (t : Tenant) {s : State} (hF : Inside 16580790158992 Fm) (hK : Only Fm s0 s) :
    Answers (Only Fm s0) (execFarRevoke t s) := by
  unfold execFarRevoke
  with_reducible repeat' first
    | assumption | intro _ | apply Answers.next | apply State.loseExtent_only | apply State.asgnResume_only
    | apply State.closeResume_only | dsimp only | split
  all_goals first | exact hF.sub rfl | exact hF.bit rfl

/-! Machine/Shared.lean. -/

theorem execRegionEnable_only {Fm : Nat} {s0 : State} (v : W32) {s : State} (hF : Inside 1073741824 Fm) (hK : Only Fm s0 s) :
    Answers (Only Fm s0) (execRegionEnable v s) := by
  unfold execRegionEnable
  with_reducible repeat' first
    | assumption | intro _ | apply Answers.next | apply Answers.ite | apply State.setRegion_only | apply State.modRegion_only
    | dsimp only | split
  all_goals first | exact hF.sub rfl | exact hF.bit rfl

theorem execRegionDisable_only {Fm : Nat} {s0 : State} {s : State} (hF : Inside 1073741824 Fm) (hK : Only Fm s0 s) :
    Answers (Only Fm s0) (execRegionDisable s) := by
  unfold execRegionDisable
  with_reducible repeat' first
    | assumption | intro _ | apply Answers.next | apply Answers.ite | apply State.setRegion_only | dsimp only | split
  all_goals first | exact hF.sub rfl | exact hF.bit rfl

theorem State.writeBack_only {Fm : Nat} {s0 : State} (n : Snoop) (d : Line) (poison : Bool) {s : State} (hF : Inside 16580790158992 Fm) (hK : Only Fm s0 s) :
    Only Fm s0 (State.writeBack n d poison s) := by
  unfold State.writeBack
  with_reducible repeat' first
    | assumption | intro _ | apply Only.ite | apply State.countWrdrop_only | apply State.access_only
    | apply State.writeLine_only | dsimp only | split
  all_goals first | exact hF.sub rfl | exact hF.bit rfl

theorem execSnoopResponse_only {Fm : Nat} {s0 : State} (id : Nat) (rsp : SnpRsp) {s : State} (hF : Inside 16581863900816 Fm) (hK : Only Fm s0 s) :
    Answers (Only Fm s0) (execSnoopResponse id rsp s) := by
  unfold execSnoopResponse
  with_reducible repeat' first
    | assumption | intro _ | apply Answers.next | apply State.writeBack_only | apply State.answered_only
    | apply State.snoopDone_only | dsimp only | split
  all_goals first | exact hF.sub rfl | exact hF.bit rfl

theorem execBiconflict_only {Fm : Nat} {s0 : State} (t : Tenant) (line : BitVec 46) {s : State} (hF : Inside 2199023255552 Fm) (hK : Only Fm s0 s) :
    Answers (Only Fm s0) (execBiconflict t line s) := by
  unfold execBiconflict
  with_reducible repeat' first
    | assumption | intro _ | apply Answers.next | apply State.emit_only | dsimp only | split
  all_goals first | exact hF.sub rfl | exact hF.bit rfl

theorem execSnoopTimeout_only {Fm : Nat} {s0 : State} (id : Nat) {s : State} (hF : Inside 16581863900816 Fm) (hK : Only Fm s0 s) :
    Answers (Only Fm s0) (execSnoopTimeout id s) := by
  unfold execSnoopTimeout
  with_reducible repeat' first
    | assumption | intro _ | apply Answers.next | apply State.lineFailure_only | apply State.answered_only
    | apply State.snoopDone_only | dsimp only | split
  all_goals first | exact hF.sub rfl | exact hF.bit rfl

theorem State.flipRegion_only {Fm : Nat} {s0 : State} (r : Nat) {s : State} (hF : Inside 16581863900816 Fm) (hK : Only Fm s0 s) :
    Only Fm s0 (State.flipRegion r s) := by
  unfold State.flipRegion
  with_reducible repeat' first
    | assumption | intro _ | apply State.modRegion_only | apply State.modOp_only | apply State.resume291_only | dsimp only
    | split
  all_goals first | exact hF.sub rfl | exact hF.bit rfl

theorem State.dropPin_only {Fm : Nat} {s0 : State} (t r : Nat) {s : State} (hF : Inside 1073741824 Fm) (hK : Only Fm s0 s) :
    Only Fm s0 (State.dropPin t r s) := by
  unfold State.dropPin
  with_reducible repeat' first
    | assumption | intro _ | apply State.modRegion_only | dsimp only | split
  all_goals first | exact hF.sub rfl | exact hF.bit rfl

theorem State.setPin_only {Fm : Nat} {s0 : State} (t r : Nat) {s : State} (hF : Inside 1073741824 Fm) (hK : Only Fm s0 s) :
    Only Fm s0 (State.setPin t r s) := by
  unfold State.setPin
  with_reducible repeat' first
    | assumption | intro _ | apply State.dropPin_only | apply State.modRegion_only | dsimp only | split
  all_goals first | exact hF.sub rfl | exact hF.bit rfl

theorem State.walkEnds_only {Fm : Nat} {s0 : State} (w : WalkWhy) {s : State} (hF : Inside 16581863904912 Fm) (hK : Only Fm s0 s) :
    Only Fm s0 (State.walkEnds w s) := by
  unfold State.walkEnds
  with_reducible repeat' first
    | assumption | intro _ | apply State.flipRegion_only | apply State.setPin_only | apply State.modOp_only
    | apply State.dropPin_only | apply State.modWtt_only | dsimp only | split
  all_goals first | exact hF.sub rfl | exact hF.bit rfl

theorem execBackInvalidateDone_only {Fm : Nat} {s0 : State} (walk : Nat) {s : State} (hF : Inside 16581863904912 Fm) (hK : Only Fm s0 s) :
    Answers (Only Fm s0) (execBackInvalidateDone walk s) := by
  unfold execBackInvalidateDone
  with_reducible repeat' first
    | assumption | intro _ | apply Answers.next | apply Answers.ite | apply State.modShr_only | apply State.trimHeld_only
    | apply State.walkEnds_only | dsimp only | split
  all_goals first | exact hF.sub rfl | exact hF.bit rfl

theorem State.failTenant_only {Fm : Nat} {s0 : State} (t : Nat) {s : State} (hF : Inside 16581863900816 Fm) (hK : Only Fm s0 s) :
    Only Fm s0 (State.failTenant t s) := by
  unfold State.failTenant
  with_reducible repeat' first
    | assumption | intro _ | apply Only.forAll | apply State.withReady_only | apply State.dropPin_only | apply State.orphan_only
    | apply State.dropHolder_only | apply State.modShr_only | apply State.answered_only | apply State.snoopDone_only
    | dsimp only | split
  all_goals first | exact hF.sub rfl | exact hF.bit rfl

theorem State.shrStatus_only {Fm : Nat} {s0 : State} (st : Status) {s : State} (hF : Inside 16 Fm) (hK : Only Fm s0 s) :
    Only Fm s0 (State.shrStatus st s) := by
  unfold State.shrStatus
  with_reducible repeat' first
    | assumption | intro _ | apply State.setStw_only | dsimp only | split
  all_goals first | exact hF.sub rfl | exact hF.bit rfl

theorem State.shrCmd_only {Fm : Nat} {s0 : State} (bad : Bool) (f : State → State) {s : State} (hf : ∀ t, Only Fm s0 t → Only Fm s0 (f t)) (hF : Inside 16 Fm) (hK : Only Fm s0 s) :
    Only Fm s0 (State.shrCmd bad f s) := by
  unfold State.shrCmd
  with_reducible repeat' first
    | assumption | intro _ | apply Only.ite | apply State.shrStatus_only | apply hf | dsimp only | split
  all_goals first | exact hF.sub rfl | exact hF.bit rfl

theorem execShrFailTenant_only {Fm : Nat} {s0 : State} (t : Tenant) {s : State} (hF : Inside 16581863900816 Fm) (hK : Only Fm s0 s) :
    Answers (Only Fm s0) (execShrFailTenant t s) := by
  unfold execShrFailTenant
  with_reducible repeat' first
    | assumption | intro _ | apply Answers.next | apply State.shrCmd_only | apply State.failTenant_only | dsimp only | split
  all_goals first | exact hF.sub rfl | exact hF.bit rfl

theorem execFailureSweepEnd_only {Fm : Nat} {s0 : State} (t : Tenant) {s : State} (hF : Inside 16579715303056 Fm) (hK : Only Fm s0 s) :
    Answers (Only Fm s0) (execFailureSweepEnd t s) := by
  unfold execFailureSweepEnd
  with_reducible repeat' first
    | assumption | intro _ | apply Answers.next | apply Answers.ite | apply Only.forAll | apply State.convertLine_only
    | apply State.withReady_only | apply State.modShr_only | apply State.logRec_only | dsimp only | split
  all_goals first | exact hF.sub rfl | exact hF.bit rfl

theorem State.releaseOrphans_only {Fm : Nat} {s0 : State} (d : Dir → Bool) {s : State} (hF : Inside 1073741824 Fm) (hK : Only Fm s0 s) :
    Only Fm s0 (State.releaseOrphans d s) := by
  unfold State.releaseOrphans
  with_reducible repeat' first
    | assumption | intro _ | apply State.modShr_only | dsimp only | split
  all_goals first | exact hF.sub rfl | exact hF.bit rfl

theorem State.releaseTick_only {Fm : Nat} {s0 : State} {s : State} (hF : Inside 1073741840 Fm) (hK : Only Fm s0 s) :
    Only Fm s0 (State.releaseTick s) := by
  unfold State.releaseTick
  with_reducible repeat' first
    | assumption | intro _ | apply State.releaseOrphans_only | apply State.modShr_only | apply State.modStw_only | dsimp only
    | split
  all_goals first | exact hF.sub rfl | exact hF.bit rfl

theorem execReleaseRegionOrphans_only {Fm : Nat} {s0 : State} (r : RegionId) {s : State} (hF : Inside 1073741840 Fm) (hK : Only Fm s0 s) :
    Answers (Only Fm s0) (execReleaseRegionOrphans r s) := by
  unfold execReleaseRegionOrphans
  with_reducible repeat' first
    | assumption | intro _ | apply Answers.next | apply State.shrCmd_only | apply State.modShr_only | dsimp only | split
  all_goals first | exact hF.sub rfl | exact hF.bit rfl

theorem execReleaseTenantOrphans_only {Fm : Nat} {s0 : State} (t : Tenant) {s : State} (hF : Inside 1073741840 Fm) (hK : Only Fm s0 s) :
    Answers (Only Fm s0) (execReleaseTenantOrphans t s) := by
  unfold execReleaseTenantOrphans
  with_reducible repeat' first
    | assumption | intro _ | apply Answers.next | apply State.shrCmd_only | apply State.modShr_only | dsimp only | split
  all_goals first | exact hF.sub rfl | exact hF.bit rfl

theorem execReleaseCapacity_only {Fm : Nat} {s0 : State} (r : RegionId) (t : Tenant) {s : State} (hF : Inside 2199023781392 Fm) (hK : Only Fm s0 s) :
    Answers (Only Fm s0) (execReleaseCapacity r t s) := by
  unfold execReleaseCapacity
  with_reducible repeat' first
    | assumption | intro _ | apply Answers.next | apply Only.ite | apply State.shrCmd_only | apply State.capacity_only
    | apply State.modLd_only | dsimp only | split
  all_goals first | exact hF.sub rfl | exact hF.bit rfl

theorem execReleaseDynamicCapacity_only {Fm : Nat} {s0 : State} (t : Tenant) (dpa : W64) {s : State} (hF : Inside 512 Fm) (hK : Only Fm s0 s) :
    Answers (Only Fm s0) (execReleaseDynamicCapacity t dpa s) := by
  unfold execReleaseDynamicCapacity
  with_reducible repeat' first
    | assumption | intro _ | apply Answers.next | apply State.modLd_only | dsimp only | split
  all_goals first | exact hF.sub rfl | exact hF.bit rfl

theorem execAddDynamicCapacityResponse_only {Fm : Nat} {s0 : State} (_t : Tenant) {s : State} (hF : Inside 0 Fm) (hK : Only Fm s0 s) :
    Answers (Only Fm s0) (execAddDynamicCapacityResponse _t s) := by
  unfold execAddDynamicCapacityResponse
  with_reducible repeat' first
    | assumption | intro _ | apply Answers.next | dsimp only | split
  all_goals first | exact hF.sub rfl | exact hF.bit rfl

/-! Machine/Bridge.lean. -/

theorem State.stewRec_only {Fm : Nat} {s0 : State} (ev aux1 : Nat) {s : State} (hF : Inside 2267743258128 Fm) (hK : Only Fm s0 s) :
    Only Fm s0 (State.stewRec ev aux1 s) := by
  unfold State.stewRec
  with_reducible repeat' first
    | assumption | intro _ | apply State.logRec_only | dsimp only | split
  all_goals first | exact hF.sub rfl | exact hF.bit rfl

theorem execBridgeFlitReplay_only {Fm : Nat} {s0 : State} (src : Half) {s : State} (hF : Inside 128 Fm) (hK : Only Fm s0 s) :
    Answers (Only Fm s0) (execBridgeFlitReplay src s) := by
  unfold execBridgeFlitReplay
  with_reducible repeat' first
    | assumption | intro _ | apply Answers.next | (fail_if_no_progress refine Only.set_bridge (hF.bit (by decide)) ?_)
    | dsimp only | split
  all_goals first | exact hF.sub rfl | exact hF.bit rfl

theorem State.drainBridge_only {Fm : Nat} {s0 : State} (hF : Inside 16581863900816 Fm) : ∀ (rest_ : Nat) {s : State}, Only Fm s0 s →
    Only Fm s0 (State.drainBridge rest_ s) := by
  intro rest_
  induction rest_ with
  | zero =>
    intro s hK
    unfold State.drainBridge
    with_reducible repeat' first
      | assumption | intro _ | apply State.serveReq_only | (fail_if_no_progress refine Only.set_bridge (hF.bit (by decide)) ?_)
      | dsimp only | split
    all_goals first | exact hF.sub rfl | exact hF.bit rfl
  | succ n ih =>
    intro s hK
    unfold State.drainBridge
    with_reducible repeat' first
      | assumption | apply ih | intro _ | apply State.serveReq_only
      | (fail_if_no_progress refine Only.set_bridge (hF.bit (by decide)) ?_) | dsimp only | split
    all_goals first | exact hF.sub rfl | exact hF.bit rfl

theorem State.cutRequests_only {Fm : Nat} {s0 : State} {s : State} (hF : Inside 16581863900816 Fm) (hK : Only Fm s0 s) :
    Only Fm s0 (State.cutRequests s) := by
  unfold State.cutRequests
  with_reducible repeat' first
    | assumption | intro _ | apply Only.forAll | apply State.modShr_only | apply State.modCmp_only | apply State.modDmc_only
    | apply State.endReq_only | apply State.lineFailure_only | apply State.answered_only | apply State.snoopDone_only
    | apply State.rerun_only | dsimp only | split
  all_goals first | exact hF.sub rfl | exact hF.bit rfl

theorem State.cutReads_only {Fm : Nat} {s0 : State} {s : State} (hF : Inside 16580790158992 Fm) (hK : Only Fm s0 s) :
    Only Fm s0 (State.cutReads s) := by
  unfold State.cutReads
  with_reducible repeat' first
    | assumption | intro _ | apply Only.ite | apply Only.forAll | apply State.failReadsOf_only | dsimp only | split
  all_goals first | exact hF.sub rfl | exact hF.bit rfl

theorem State.splitNow_only {Fm : Nat} {s0 : State} {s : State} (hF : Inside 16581863900816 Fm) (hK : Only Fm s0 s) :
    Only Fm s0 (State.splitNow s) := by
  unfold State.splitNow
  with_reducible repeat' first
    | assumption | intro _ | apply Only.ite | apply Only.forAll | apply State.withReady_only | apply State.endReq_only
    | apply State.cutRequests_only | apply State.cutReads_only | apply State.loseUpdates_only | apply State.closeResume_only
    | apply State.stewRec_only | apply State.alert_only | apply State.fmHealth_only
    | (fail_if_no_progress refine Only.set_bridge (hF.bit (by decide)) ?_) | dsimp only | split
  all_goals first | exact hF.sub rfl | exact hF.bit rfl

theorem execBridgeLaneRetire_only {Fm : Nat} {s0 : State} (src : Half) {s : State} (hF : Inside 16581863900816 Fm) (hK : Only Fm s0 s) :
    Answers (Only Fm s0) (execBridgeLaneRetire src s) := by
  unfold execBridgeLaneRetire
  with_reducible repeat' first
    | assumption | intro _ | apply Answers.next | apply Answers.ite | apply Only.ite | apply State.splitNow_only
    | (fail_if_no_progress refine Only.set_bridge (hF.bit (by decide)) ?_) | dsimp only | split
  all_goals first | exact hF.sub rfl | exact hF.bit rfl

theorem execBridgeRetrainDone_only {Fm : Nat} {s0 : State} {s : State} (hF : Inside 16581863900816 Fm) (hK : Only Fm s0 s) :
    Answers (Only Fm s0) (execBridgeRetrainDone s) := by
  unfold execBridgeRetrainDone
  with_reducible repeat' first
    | assumption | intro _ | apply Answers.next | apply Answers.ite | apply Only.forAll | apply State.stewRec_only
    | apply State.drainBridge_only | apply State.readNext_only
    | (fail_if_no_progress refine Only.set_bridge (hF.bit (by decide)) ?_) | dsimp only | split
  all_goals first | exact hF.sub rfl | exact hF.bit rfl

theorem execBridgeDown_only {Fm : Nat} {s0 : State} {s : State} (hF : Inside 16581863900816 Fm) (hK : Only Fm s0 s) :
    Answers (Only Fm s0) (execBridgeDown s) := by
  unfold execBridgeDown
  with_reducible repeat' first
    | assumption | intro _ | apply Answers.next | apply State.splitNow_only | dsimp only | split
  all_goals first | exact hF.sub rfl | exact hF.bit rfl

theorem State.applyPending_only {Fm : Nat} {s0 : State} (h : Half) {s : State} (hF : Inside 138512695392 Fm) (hK : Only Fm s0 s) :
    Only Fm s0 (State.applyPending h s) := by
  unfold State.applyPending
  with_reducible repeat' first
    | assumption | intro _ | apply Only.forAll | apply State.setHalf_only | apply State.modKey_only | apply State.dropPin_only
    | dsimp only | split
  all_goals first | exact hF.sub rfl | exact hF.bit rfl

theorem execBridgeUp_only {Fm : Nat} {s0 : State} {s : State} (hF : Inside 2406255953648 Fm) (hK : Only Fm s0 s) :
    Answers (Only Fm s0) (execBridgeUp s) := by
  unfold execBridgeUp
  with_reducible repeat' first
    | assumption | intro _ | apply Answers.next | apply Answers.ite | apply Only.ite | apply State.applyPending_only
    | apply State.withReady_only | apply State.stewRec_only | apply State.alert_only
    | (fail_if_no_progress refine Only.set_bridge (hF.bit (by decide)) ?_) | dsimp only | split
  all_goals first | exact hF.sub rfl | exact hF.bit rfl

/-! Machine/Dram.lean. -/

theorem chanFault_only {Fm : Nat} {s0 : State} (ch : Nat) : Answers (Only Fm s0) (chanFault ch) := Answers.fault _

theorem execWriteQueueServe_only {Fm : Nat} {s0 : State} (ch : Nat) {s : State} (hF : Inside 17179869184 Fm) (hK : Only Fm s0 s) :
    Answers (Only Fm s0) (execWriteQueueServe ch s) := by
  unfold execWriteQueueServe
  with_reducible repeat' first
    | assumption | intro _ | apply Answers.next | apply Answers.ite | apply Only.ite | apply State.modChan_only
    | apply chanFault_only | dsimp only | split
  all_goals first | exact hF.sub rfl | exact hF.bit rfl

theorem execRowIdleClose_only {Fm : Nat} {s0 : State} (ch bank : Nat) {s : State} (hF : Inside 17179869184 Fm) (hK : Only Fm s0 s) :
    Answers (Only Fm s0) (execRowIdleClose ch bank s) := by
  unfold execRowIdleClose
  with_reducible repeat' first
    | assumption | intro _ | apply Answers.next | apply Answers.ite | apply State.modChan_only | apply chanFault_only
    | dsimp only | split
  all_goals first | exact hF.sub rfl | exact hF.bit rfl

theorem execRefreshDue_only {Fm : Nat} {s0 : State} (ch bank : Nat) {s : State} (hF : Inside 17179869184 Fm) (hK : Only Fm s0 s) :
    Answers (Only Fm s0) (execRefreshDue ch bank s) := by
  unfold execRefreshDue
  with_reducible repeat' first
    | assumption | intro _ | apply Answers.next | apply Answers.ite | apply State.modChan_only | apply chanFault_only
    | dsimp only | split
  all_goals first | exact hF.sub rfl | exact hF.bit rfl

theorem execTemperaturePoll_only {Fm : Nat} {s0 : State} (ch : Nat) (rate : BitVec 2) {s : State} (hF : Inside 85899345936 Fm) (hK : Only Fm s0 s) :
    Answers (Only Fm s0) (execTemperaturePoll ch rate s) := by
  unfold execTemperaturePoll
  with_reducible repeat' first
    | assumption | intro _ | apply Answers.next | apply Answers.ite | apply Only.ite | apply State.setChan_only
    | apply State.maintEnd_only | apply State.maintAsk_only | apply chanFault_only | dsimp only | split
  all_goals first | exact hF.sub rfl | exact hF.bit rfl

theorem execRefreshRateChange_only {Fm : Nat} {s0 : State} (ch : Nat) (rate : BitVec 2) {s : State} (hF : Inside 85899345920 Fm) (hK : Only Fm s0 s) :
    Answers (Only Fm s0) (execRefreshRateChange ch rate s) := by
  unfold execRefreshRateChange
  with_reducible repeat' first
    | assumption | intro _ | apply Answers.next | apply Answers.ite | apply Only.ite | apply State.setChan_only
    | apply State.maintEnd_only | apply chanFault_only | dsimp only | split
  all_goals first | exact hF.sub rfl | exact hF.bit rfl

theorem State.takePause_only {Fm : Nat} {s0 : State} (ch : Nat) {s : State} (hF : Inside 85899345936 Fm) (hK : Only Fm s0 s) :
    Only Fm s0 (State.takePause ch s) := by
  unfold State.takePause
  with_reducible repeat' first
    | assumption | intro _ | apply Only.ite | apply State.maintAsk_only | apply State.modChan_only | apply State.cntStw_only
    | dsimp only | split
  all_goals first | exact hF.sub rfl | exact hF.bit rfl

theorem execRetrainPauseDue_only {Fm : Nat} {s0 : State} (ch : Nat) {s : State} (hF : Inside 85899345936 Fm) (hK : Only Fm s0 s) :
    Answers (Only Fm s0) (execRetrainPauseDue ch s) := by
  unfold execRetrainPauseDue
  with_reducible repeat' first
    | assumption | intro _ | apply Answers.next | apply Answers.ite | apply Only.ite | apply State.takePause_only
    | apply chanFault_only | dsimp only | split
  all_goals first | exact hF.sub rfl | exact hF.bit rfl

theorem State.pauseEnd_only {Fm : Nat} {s0 : State} (ch : Nat) (ok : Bool) {s : State} (hF : Inside 16580789044880 Fm) (hK : Only Fm s0 s) :
    Only Fm s0 (State.pauseEnd ch ok s) := by
  unfold State.pauseEnd
  with_reducible repeat' first
    | assumption | intro _ | apply Only.ite | apply Only.forAll | apply State.setChan_only | apply State.maintEnd_only
    | apply State.cntStw_only | apply State.logRec_only | apply State.modRank_only | apply State.closeResume_only | dsimp only
    | split
  all_goals first | exact hF.sub rfl | exact hF.bit rfl

theorem execRetrainPauseEnd_only {Fm : Nat} {s0 : State} (ch : Nat) (ok : Bool) {s : State} (hF : Inside 16580789044880 Fm) (hK : Only Fm s0 s) :
    Answers (Only Fm s0) (execRetrainPauseEnd ch ok s) := by
  unfold execRetrainPauseEnd
  with_reducible repeat' first
    | assumption | intro _ | apply Answers.next | apply Answers.ite | apply State.pauseEnd_only | apply chanFault_only
    | dsimp only | split
  all_goals first | exact hF.sub rfl | exact hF.bit rfl

theorem State.evacStatus_only {Fm : Nat} {s0 : State} (r : Nat) (st : Status) {s : State} (hF : Inside 16 Fm) (hK : Only Fm s0 s) :
    Only Fm s0 (State.evacStatus r st s) := by
  unfold State.evacStatus
  with_reducible repeat' first
    | assumption | intro _ | apply State.modStw_only | dsimp only | split
  all_goals first | exact hF.sub rfl | exact hF.bit rfl

theorem State.startEvac_only {Fm : Nat} {s0 : State} (r : Nat) {s : State} (hF : Inside 11081016149520 Fm) (hK : Only Fm s0 s) :
    Only Fm s0 (State.startEvac r s) := by
  unfold State.startEvac
  with_reducible repeat' first
    | assumption | intro _ | apply Only.ite | apply State.tickFree_only | apply State.setRank_only | apply State.setStw_only
    | apply State.logRec_only | apply State.maintAsk_only | apply State.evacStatus_only | apply State.modDmc_only | dsimp only
    | split
  all_goals first | exact hF.sub rfl | exact hF.bit rfl

theorem execEvacuate_only {Fm : Nat} {s0 : State} (rank : BitVec 8) {s : State} (hF : Inside 11081016149520 Fm) (hK : Only Fm s0 s) :
    Answers (Only Fm s0) (execEvacuate rank s) := by
  unfold execEvacuate
  with_reducible repeat' first
    | assumption | intro _ | apply Answers.next | apply Answers.ite | apply State.evacStatus_only | apply State.startEvac_only
    | dsimp only | split
  all_goals first | exact hF.sub rfl | exact hF.bit rfl

theorem execEvacuateCancel_only {Fm : Nat} {s0 : State} (rank : BitVec 8) {s : State} (hF : Inside 2284923127312 Fm) (hK : Only Fm s0 s) :
    Answers (Only Fm s0) (execEvacuateCancel rank s) := by
  unfold execEvacuateCancel
  with_reducible repeat' first
    | assumption | intro _ | apply Answers.next | apply Answers.ite | apply State.evacStatus_only | apply State.setRank_only
    | apply State.setStw_only | apply State.logRec_only | apply State.maintEnd_only | dsimp only | split
  all_goals first | exact hF.sub rfl | exact hF.bit rfl

theorem execEvacuateAutoTrigger_only {Fm : Nat} {s0 : State} (rank : BitVec 8) {s : State} (hF : Inside 11081016149520 Fm) (hK : Only Fm s0 s) :
    Answers (Only Fm s0) (execEvacuateAutoTrigger rank s) := by
  unfold execEvacuateAutoTrigger
  with_reducible repeat' first
    | assumption | intro _ | apply Answers.next | apply Answers.ite | apply State.setRank_only | apply State.startEvac_only
    | dsimp only | split
  all_goals first | exact hF.sub rfl | exact hF.bit rfl

theorem State.evacReads_only {Fm : Nat} {s0 : State} (r : Nat) {s : State} (hF : Inside 3384434787856 Fm) (hK : Only Fm s0 s) :
    Only Fm s0 (State.evacReads r s) := by
  unfold State.evacReads
  with_reducible repeat' first
    | assumption | intro _ | apply Only.forAll | apply State.moveReads_only | apply State.mediaMove_only
    | apply State.modTier_only | apply State.modDmc_only | dsimp only | split
  all_goals first | exact hF.sub rfl | exact hF.bit rfl

theorem execEvacuateCopyDone_only {Fm : Nat} {s0 : State} (rank : BitVec 8) {s : State} (hF : Inside 3384434787856 Fm) (hK : Only Fm s0 s) :
    Answers (Only Fm s0) (execEvacuateCopyDone rank s) := by
  unfold execEvacuateCopyDone
  with_reducible repeat' first
    | assumption | intro _ | apply Answers.next | apply Answers.ite | apply State.evacReads_only | apply State.modRank_only
    | apply State.modStw_only | apply State.logRec_only | dsimp only | split
  all_goals first | exact hF.sub rfl | exact hF.bit rfl

theorem State.retireRank_only {Fm : Nat} {s0 : State} (p : Nat) {s : State} (hF : Inside 17179869184 Fm) (hK : Only Fm s0 s) :
    Only Fm s0 (State.retireRank p s) := by
  unfold State.retireRank
  with_reducible repeat' first
    | assumption | intro _ | apply Only.ite | apply State.modDmc_only | apply State.modChan_only | dsimp only | split
  all_goals first | exact hF.sub rfl | exact hF.bit rfl

theorem State.evacEnd_only {Fm : Nat} {s0 : State} (r : Nat) (old : Nat) {s : State} (hF : Inside 3384434755088 Fm) (hK : Only Fm s0 s) :
    Only Fm s0 (State.evacEnd r old s) := by
  unfold State.evacEnd
  with_reducible repeat' first
    | assumption | intro _ | apply State.retireRank_only | apply State.setStw_only | apply State.logRec_only
    | apply State.fmHealth_only | apply State.maintEnd_only | dsimp only | split
  all_goals first | exact hF.sub rfl | exact hF.bit rfl

theorem execSwitchoverEnd_only {Fm : Nat} {s0 : State} (rank : BitVec 8) {s : State} (hF : Inside 3384434755088 Fm) (hK : Only Fm s0 s) :
    Answers (Only Fm s0) (execSwitchoverEnd rank s) := by
  unfold execSwitchoverEnd
  with_reducible repeat' first
    | assumption | intro _ | apply Answers.next | apply Answers.ite | apply State.setRank_only | apply State.evacEnd_only
    | dsimp only | split
  all_goals first | exact hF.sub rfl | exact hF.bit rfl

theorem State.spillUnit_only {Fm : Nat} {s0 : State} (r u : Nat) (b : List Byte) {s : State} (hF : Inside 17179901968 Fm) (hK : Only Fm s0 s) :
    Only Fm s0 (State.spillUnit r u b s).2 := by
  unfold State.spillUnit
  with_reducible repeat' first
    | assumption | intro _ | apply State.cntStw_only | apply State.modTier_only | apply State.modDmc_only | dsimp only | split
  all_goals first | exact hF.sub rfl | exact hF.bit rfl

theorem State.spillUnits_only {Fm : Nat} {s0 : State} (r : Nat) (m : Mem) (hF : Inside 17179901968 Fm) : ∀ (rest_ : List Nat) {s : State}, Only Fm s0 s →
    Only Fm s0 (State.spillUnits r m rest_ s).2 := by
  intro rest_
  induction rest_ with
  | nil =>
    intro s hK
    unfold State.spillUnits
    with_reducible repeat' first
      | assumption | intro _ | apply State.spillUnit_only | dsimp only | split | (refine Only.snd (by assumption) ?_)
    all_goals first | exact hF.sub rfl | exact hF.bit rfl
  | cons a r ih =>
    intro s hK
    unfold State.spillUnits
    with_reducible repeat' first
      | assumption | apply ih | intro _ | apply State.spillUnit_only | dsimp only | split | (refine Only.snd (by assumption) ?_)
    all_goals first | exact hF.sub rfl | exact hF.bit rfl

theorem execSpillDone_only {Fm : Nat} {s0 : State} (rank : BitVec 8) {s : State} (hF : Inside 3384434787856 Fm) (hK : Only Fm s0 s) :
    Answers (Only Fm s0) (execSpillDone rank s) := by
  unfold execSpillDone
  with_reducible repeat' first
    | assumption | intro _ | apply Answers.next | apply Answers.ite | apply State.spillUnits_only | apply State.modRank_only
    | apply State.modStw_only | apply State.evacReads_only | apply State.evacEnd_only | dsimp only | split
    | (refine Only.snd (by assumption) ?_)
  all_goals first | exact hF.sub rfl | exact hF.bit rfl

theorem execSpillResume_only {Fm : Nat} {s0 : State} (h : Half) {s : State} (hF : Inside 16 Fm) (hK : Only Fm s0 s) :
    Answers (Only Fm s0) (execSpillResume h s) := by
  unfold execSpillResume
  with_reducible repeat' first
    | assumption | intro _ | apply Answers.next | apply Only.ite | apply State.modStw_only | dsimp only | split
  all_goals first | exact hF.sub rfl | exact hF.bit rfl

theorem execScriptAbort_only {Fm : Nat} {s0 : State} (ch : Nat) {s : State} (hF : Inside 16580789044880 Fm) (hK : Only Fm s0 s) :
    Answers (Only Fm s0) (execScriptAbort ch s) := by
  unfold execScriptAbort
  with_reducible repeat' first
    | assumption | intro _ | apply Answers.next | apply Answers.ite | apply State.cntStw_only | apply State.pauseEnd_only
    | apply State.modChan_only | apply State.maintEnd_only | apply chanFault_only | dsimp only | split
  all_goals first | exact hF.sub rfl | exact hF.bit rfl

theorem execScriptSetCommit_only {Fm : Nat} {s0 : State} (near : Bool) (ver : W16) {s : State} (hF : Inside 85899345936 Fm) (hK : Only Fm s0 s) :
    Answers (Only Fm s0) (execScriptSetCommit near ver s) := by
  unfold execScriptSetCommit
  with_reducible repeat' first
    | assumption | intro _ | apply Answers.next | apply Answers.ite | apply Only.ite | apply State.maintAsk_only
    | apply State.modDmc_only | apply State.maintEnd_only | dsimp only | split
  all_goals first | exact hF.sub rfl | exact hF.bit rfl

theorem execChannelLost_only {Fm : Nat} {s0 : State} (ch : Nat) {s : State} (hF : Inside 16580789044880 Fm) (hK : Only Fm s0 s) :
    Answers (Only Fm s0) (execChannelLost ch s) := by
  unfold execChannelLost
  with_reducible repeat' first
    | assumption | intro _ | apply Answers.next | apply Answers.ite | apply Only.forAll | apply State.modDmc_only
    | apply State.modChan_only | apply State.endReq_only | apply State.closeResume_only | apply chanFault_only | dsimp only
    | split
  all_goals first | exact hF.sub rfl | exact hF.bit rfl

/-! Machine/Reliability.lean. -/

theorem State.scrubGrant_only {Fm : Nat} {s0 : State} (tier unit : Nat) {s : State} (hF : Inside 68719476752 Fm) (hK : Only Fm s0 s) :
    Only Fm s0 (State.scrubGrant tier unit s).2 := by
  unfold State.scrubGrant
  with_reducible repeat' first
    | assumption | intro _ | apply Only.ite | apply State.maintAsk_only | dsimp only | split
  all_goals first | exact hF.sub rfl | exact hF.bit rfl

theorem State.lapCount_only {Fm : Nat} {s0 : State} (k : Nat) (ue : Bool) {s : State} (hF : Inside 68719476736 Fm) (hK : Only Fm s0 s) :
    Only Fm s0 (State.lapCount k ue s) := by
  unfold State.lapCount
  with_reducible repeat' first
    | assumption | intro _ | apply State.modRas_only | dsimp only | split
  all_goals first | exact hF.sub rfl | exact hF.bit rfl

theorem State.scrubLine_only {Fm : Nat} {s0 : State} (lap : Nat) (d : DLoc) (at_ : Scrubbed) (md : Media) {s : State} (hF : Inside 3384434787856 Fm) (hK : Only Fm s0 s) :
    Only Fm s0 (State.scrubLine lap d at_ md s) := by
  unfold State.scrubLine
  with_reducible repeat' first
    | assumption | intro _ | apply Only.ite | apply State.mediaFind_only | apply State.correctedRead_only
    | apply State.lapCount_only | apply State.queueWrite_only | apply State.uncorrectedRead_only | apply State.logRec_only
    | apply State.fmStd_only | apply State.modTier_only | dsimp only | split
  all_goals first | exact hF.sub rfl | exact hF.bit rfl

theorem State.scrubEntry_only {Fm : Nat} {s0 : State} (lap b entry word : Nat) (md : Media) {s : State} (hF : Inside 3401614624272 Fm) (hK : Only Fm s0 s) :
    Only Fm s0 (State.scrubEntry lap b entry word md s) := by
  unfold State.scrubEntry
  with_reducible repeat' first
    | assumption | intro _ | apply State.modCst_only | apply State.bankCorrected_only | apply State.lapCount_only
    | apply State.cstFresh_only | apply State.cstUncorrected_only | apply State.fmStd_only | dsimp only | split
  all_goals first | exact hF.sub rfl | exact hF.bit rfl

theorem execScrubRead_only {Fm : Nat} {s0 : State} (tier : BitVec 2) (unit : Nat) (loc : W64) (md : Media) {s : State} (hF : Inside 3418794526224 Fm) (hK : Only Fm s0 s) :
    Answers (Only Fm s0) (execScrubRead tier unit loc md s) := by
  unfold execScrubRead
  with_reducible repeat' first
    | assumption | intro _ | apply Answers.next | apply Answers.ite | apply Answers.fault | apply State.scrubGrant_only
    | apply State.scrubLine_only | apply State.scrubEntry_only | dsimp only | split | (refine Only.snd (by assumption) ?_)
  all_goals first | exact hF.sub rfl | exact hF.bit rfl

theorem State.endScrubs_only {Fm : Nat} {s0 : State} (tier : Nat) (h : Half) {s : State} (hF : Inside 68719476736 Fm) (hK : Only Fm s0 s) :
    Only Fm s0 (State.endScrubs tier h s) := by
  unfold State.endScrubs
  with_reducible repeat' first
    | assumption | intro _ | apply Only.forAll | apply State.maintEnd_only | dsimp only | split
  all_goals first | exact hF.sub rfl | exact hF.bit rfl

theorem execLapEnd_only {Fm : Nat} {s0 : State} (tier : BitVec 2) (h : Half) (ms : W32) {s : State} (hF : Inside 2267743258128 Fm) (hK : Only Fm s0 s) :
    Answers (Only Fm s0) (execLapEnd tier h ms s) := by
  unfold execLapEnd
  with_reducible repeat' first
    | assumption | intro _ | apply Answers.next | apply Answers.ite | apply State.setStw_only | apply State.cntStw_only
    | apply State.modRas_only | apply State.endScrubs_only | apply State.logRec_only | dsimp only | split
  all_goals first | exact hF.sub rfl | exact hF.bit rfl

theorem execLapOverdue_only {Fm : Nat} {s0 : State} (tier : BitVec 2) (h : Half) (ms : W32) {s : State} (hF : Inside 2267743258128 Fm) (hK : Only Fm s0 s) :
    Answers (Only Fm s0) (execLapOverdue tier h ms s) := by
  unfold execLapOverdue
  with_reducible repeat' first
    | assumption | intro _ | apply Answers.next | apply Answers.ite | apply State.logRec_only | dsimp only | split
  all_goals first | exact hF.sub rfl | exact hF.bit rfl

theorem State.retRecord_only {Fm : Nat} {s0 : State} (n kind : Nat) (st : Status) {s : State} (hF : Inside 2267743258128 Fm) (hK : Only Fm s0 s) :
    Only Fm s0 (State.retRecord n kind st s) := by
  unfold State.retRecord
  with_reducible repeat' first
    | assumption | intro _ | apply State.logRec_only | dsimp only | split
  all_goals first | exact hF.sub rfl | exact hF.bit rfl

theorem State.retEnds_only {Fm : Nat} {s0 : State} (n kind : Nat) (st : Status) {s : State} (hF : Inside 2267743258128 Fm) (hK : Only Fm s0 s) :
    Only Fm s0 (State.retEnds n kind st s) := by
  unfold State.retEnds
  with_reducible repeat' first
    | assumption | intro _ | apply State.modStw_only | apply State.retRecord_only | dsimp only | split
  all_goals first | exact hF.sub rfl | exact hF.bit rfl

theorem State.flashWrite_only {Fm : Nat} {s0 : State} (n kind : Nat) (l : Tab W64) {s : State} (hF : Inside 68719476760 Fm) (hK : Only Fm s0 s) :
    Only Fm s0 (State.flashWrite n kind l s) := by
  unfold State.flashWrite
  with_reducible repeat' first
    | assumption | intro _ | apply State.setStw_only | apply State.modRas_only
    | (fail_if_no_progress refine Only.set_flash (hF.bit (by decide)) ?_) | dsimp only | split
  all_goals first | exact hF.sub rfl | exact hF.bit rfl

theorem State.addEntry_only {Fm : Nat} {s0 : State} (kind half n : Nat) {s : State} (hF : Inside 68719476760 Fm) (hK : Only Fm s0 s) :
    Only Fm s0 (State.addEntry kind half n s) := by
  unfold State.addEntry
  with_reducible repeat' first
    | assumption | intro _ | apply State.flashWrite_only | dsimp only | split
  all_goals first | exact hF.sub rfl | exact hF.bit rfl

theorem State.leaveSlot_only {Fm : Nat} {s0 : State} (n : Nat) {s : State} (hF : Inside 32768 Fm) (hK : Only Fm s0 s) :
    Only Fm s0 (State.leaveSlot n s) := by
  unfold State.leaveSlot
  with_reducible repeat' first
    | assumption | intro _ | apply State.modTier_only | dsimp only | split
  all_goals first | exact hF.sub rfl | exact hF.bit rfl

theorem State.leaveUnit_only {Fm : Nat} {s0 : State} (h : Half) (n : Nat) {s : State} (hF : Inside 32768 Fm) (hK : Only Fm s0 s) :
    Only Fm s0 (State.leaveUnit h n s) := by
  unfold State.leaveUnit
  with_reducible repeat' first
    | assumption | intro _ | apply State.modTier_only | dsimp only | split
  all_goals first | exact hF.sub rfl | exact hF.bit rfl

theorem State.startReloc_only {Fm : Nat} {s0 : State} (r : Reloc) (e : Plot) {s : State} (hF : Inside 8864812531728 Fm) (hK : Only Fm s0 s) :
    Only Fm s0 (State.startReloc r e s) := by
  unfold State.startReloc
  with_reducible repeat' first
    | assumption | intro _ | apply State.tickFree_only | apply State.setStw_only | apply State.modTier_only
    | apply State.maintAsk_only | dsimp only | split
  all_goals first | exact hF.sub rfl | exact hF.bit rfl

theorem State.afterReloc_only {Fm : Nat} {s0 : State} (p : Nat) {s : State} (hF : Inside 11066052150800 Fm) (hK : Only Fm s0 s) :
    Only Fm s0 (State.afterReloc p s) := by
  unfold State.afterReloc
  with_reducible repeat' first
    | assumption | intro _ | apply Only.ite | apply State.leaveNear_only | apply State.takeWish_only | apply State.settle_only
    | apply State.asgnResume_only | dsimp only | split
  all_goals first | exact hF.sub rfl | exact hF.bit rfl

theorem State.relocEnds_only {Fm : Nat} {s0 : State} (r : Reloc) {s : State} (hF : Inside 68719509504 Fm) (hK : Only Fm s0 s) :
    Only Fm s0 (State.relocEnds r s) := by
  unfold State.relocEnds
  with_reducible repeat' first
    | assumption | intro _ | apply State.modTier_only | apply State.maintEnd_only | dsimp only | split
  all_goals first | exact hF.sub rfl | exact hF.bit rfl

theorem execRetireNearSlot_only {Fm : Nat} {s0 : State} {s : State} (hF : Inside 11063836313112 Fm) (hK : Only Fm s0 s) :
    Answers (Only Fm s0) (execRetireNearSlot s) := by
  unfold execRetireNearSlot
  with_reducible repeat' first
    | assumption | intro _ | apply Answers.next | apply State.leaveSlot_only | apply State.addEntry_only
    | apply State.startReloc_only | apply State.retEnds_only | dsimp only | split
  all_goals first | exact hF.sub rfl | exact hF.bit rfl

theorem execRetireBulkUnit_only {Fm : Nat} {s0 : State} (h : Half) {s : State} (hF : Inside 11063836313112 Fm) (hK : Only Fm s0 s) :
    Answers (Only Fm s0) (execRetireBulkUnit h s) := by
  unfold execRetireBulkUnit
  with_reducible repeat' first
    | assumption | intro _ | apply Answers.next | apply State.leaveUnit_only | apply State.addEntry_only
    | apply State.startReloc_only | apply State.retEnds_only | dsimp only | split
  all_goals first | exact hF.sub rfl | exact hF.bit rfl

theorem execAddRetirementEntry_only {Fm : Nat} {s0 : State} (kind : BitVec 4) (h : Half) {s : State} (hF : Inside 2267743258136 Fm) (hK : Only Fm s0 s) :
    Answers (Only Fm s0) (execAddRetirementEntry kind h s) := by
  unfold execAddRetirementEntry
  with_reducible repeat' first
    | assumption | intro _ | apply Answers.next | apply State.addEntry_only | apply State.retEnds_only | dsimp only | split
  all_goals first | exact hF.sub rfl | exact hF.bit rfl

theorem execEmptyRetirementEntry_only {Fm : Nat} {s0 : State} {s : State} (hF : Inside 2267743258136 Fm) (hK : Only Fm s0 s) :
    Answers (Only Fm s0) (execEmptyRetirementEntry s) := by
  unfold execEmptyRetirementEntry
  with_reducible repeat' first
    | assumption | intro _ | apply Answers.next | apply State.flashWrite_only | apply State.retEnds_only | dsimp only | split
  all_goals first | exact hF.sub rfl | exact hF.bit rfl

theorem State.relocCopy_only {Fm : Nat} {s0 : State} (r : Reloc) (e e' : Plot) {s : State} (hF : Inside 3384434787856 Fm) (hK : Only Fm s0 s) :
    Only Fm s0 (State.relocCopy r e e' s) := by
  unfold State.relocCopy
  with_reducible repeat' first
    | assumption | intro _ | apply Only.forAll | apply State.moveReads_only | apply State.mediaMove_only
    | apply State.modTier_only | apply State.moveWrites_only | dsimp only | split
  all_goals first | exact hF.sub rfl | exact hF.bit rfl

theorem execRelocationDone_only {Fm : Nat} {s0 : State} {s : State} (hF : Inside 12182743647768 Fm) (hK : Only Fm s0 s) :
    Answers (Only Fm s0) (execRelocationDone s) := by
  unfold execRelocationDone
  with_reducible repeat' first
    | assumption | intro _ | apply Answers.next | apply Answers.ite | apply Only.ite | apply State.leaveUnit_only
    | apply State.leaveSlot_only | apply State.addEntry_only | apply State.relocEnds_only | apply State.afterReloc_only
    | apply State.tickFree_only | apply State.relocCopy_only | apply State.setPlot_only | dsimp only | split
  all_goals first | exact hF.sub rfl | exact hF.bit rfl

theorem execRelocationWaitExpire_only {Fm : Nat} {s0 : State} {s : State} (hF : Inside 11066052150800 Fm) (hK : Only Fm s0 s) :
    Answers (Only Fm s0) (execRelocationWaitExpire s) := by
  unfold execRelocationWaitExpire
  with_reducible repeat' first
    | assumption | intro _ | apply Answers.next | apply Answers.ite | apply State.relocEnds_only | apply State.setStw_only
    | apply State.retEnds_only | apply State.afterReloc_only | dsimp only | split
  all_goals first | exact hF.sub rfl | exact hF.bit rfl

theorem execFlashWriteDone_only {Fm : Nat} {s0 : State} {s : State} (hF : Inside 2267743258128 Fm) (hK : Only Fm s0 s) :
    Answers (Only Fm s0) (execFlashWriteDone s) := by
  unfold execFlashWriteDone
  with_reducible repeat' first
    | assumption | intro _ | apply Answers.next | apply State.modRas_only | apply State.setStw_only | apply State.retRecord_only
    | dsimp only | split
  all_goals first | exact hF.sub rfl | exact hF.bit rfl

end Sys2Proof.Machine
end

