-- ==== Sys2Proof/Laws/OnlyUnits.lean ====
section
/-! SUPPORT. The fields of the state that each operation and each row may change: units, operations, the Flume and the Tender. -/

namespace Sys2Proof.Machine

set_option linter.unusedTactic false
set_option linter.unreachableTactic false
set_option linter.unusedVariables false

open Host (Outcome)

/-! Machine/Units.lean. -/

theorem Acc.charge_only {Fm : Nat} {s0 : State} (u : Acc) (p n : Nat) {s : State} (hF : Inside 4400193994768 Fm) (hK : Only Fm s0 s) :
    Leaves (Only Fm s0) (Acc.charge u p n) s := by
  unfold Acc.charge
  with_reducible repeat' first
    | assumption | intro _ | apply Leaves.get_bind | apply Leaves.wait | apply Leaves.set_ | apply Leaves.ite
    | apply State.unitShadow_only | apply State.unitAdmit_only | dsimp only | split | (refine Only.snd (by assumption) ?_)
  all_goals first | exact hF.sub rfl | exact hF.bit rfl

theorem Acc.gateDir_only {Fm : Nat} {s0 : State} (u : Acc) (l : Nat) (via : Bool) (g : Region) (b : Nat) (op : ReqOp) {s : State} (hF : Inside 16579715303056 Fm) (hK : Only Fm s0 s) :
    Leaves (Only Fm s0) (Acc.gateDir u l via g b op) s := by
  unfold Acc.gateDir
  with_reducible repeat' first
    | assumption | intro _ | apply Leaves.get_bind | apply Leaves.bind | apply Leaves.pure | apply Leaves.fail
    | apply Leaves.wait | apply Leaves.set_ | apply Leaves.ite | apply State.convertLine_only | apply State.countWrdrop_only
    | apply State.countOrphrd_only | dsimp only | split
  all_goals first | exact hF.sub rfl | exact hF.bit rfl

theorem Acc.gate_only {Fm : Nat} {s0 : State} (u : Acc) (ua : Nat) (op : ReqOp) {s : State} (hF : Inside 16581863900816 Fm) (hK : Only Fm s0 s) :
    Leaves (Only Fm s0) (Acc.gate u ua op) s := by
  unfold Acc.gate
  with_reducible repeat' first
    | assumption | intro _ | apply Leaves.get_bind | apply Leaves.bind | apply Leaves.pure | apply Leaves.fail
    | apply Leaves.wait | apply Leaves.modify_ | apply Leaves.ite | apply Acc.charge_only | apply Acc.gateDir_only
    | apply State.access_only | dsimp only | split
  all_goals first | exact hF.sub rfl | exact hF.bit rfl

theorem Acc.load_only {Fm : Nat} {s0 : State} (u : Acc) (ua : Nat) {s : State} (hF : Inside 16581863900816 Fm) (hK : Only Fm s0 s) :
    Leaves (Only Fm s0) (Acc.load u ua) s := by
  unfold Acc.load
  with_reducible repeat' first
    | assumption | intro _ | apply Leaves.get_bind | apply Leaves.bind | apply Leaves.pure | apply Leaves.fail
    | apply Leaves.wait | apply Leaves.set_ | apply Leaves.ite | apply Acc.gate_only | apply State.tickFree_only
    | apply State.modDmc_only | apply State.readLine_only | dsimp only | split | (refine Only.snd (by assumption) ?_)
  all_goals first | exact hF.sub rfl | exact hF.bit rfl

theorem Acc.store_only {Fm : Nat} {s0 : State} (u : Acc) (ua : Nat) (d : Line) (be : W64) (poison : Bool) {s : State} (hF : Inside 16581863900816 Fm) (hK : Only Fm s0 s) :
    Leaves (Only Fm s0) (Acc.store u ua d be poison) s := by
  unfold Acc.store
  with_reducible repeat' first
    | assumption | intro _ | apply Leaves.get_bind | apply Leaves.bind | apply Leaves.wait | apply Leaves.need
    | apply Leaves.set_ | apply Leaves.ite | apply Acc.gate_only | apply State.writeLine_only | dsimp only | split
  all_goals first | exact hF.sub rfl | exact hF.bit rfl

theorem Acc.bytes_only {Fm : Nat} {s0 : State} (u : Acc) (ua n : Nat) {s : State} (hF : Inside 16581863900816 Fm) (hK : Only Fm s0 s) :
    Leaves (Only Fm s0) (Acc.bytes u ua n) s := by
  unfold Acc.bytes
  with_reducible repeat' first
    | assumption | intro _ | apply Leaves.bind | apply Leaves.pure | apply Leaves.mapM_ | apply Acc.load_only | dsimp only
    | split
  all_goals first | exact hF.sub rfl | exact hF.bit rfl

theorem Acc.put_only {Fm : Nat} {s0 : State} (u : Acc) (ua : Nat) (b : List Byte) {s : State} (hF : Inside 16581863900816 Fm) (hK : Only Fm s0 s) :
    Leaves (Only Fm s0) (Acc.put u ua b) s := by
  unfold Acc.put
  with_reducible repeat' first
    | assumption | intro _ | apply Leaves.forM_ | apply Acc.store_only | dsimp only | split
  all_goals first | exact hF.sub rfl | exact hF.bit rfl

theorem Acc.waitFor_only {Fm : Nat} {s0 : State} (u : Acc) (w : WaitOn) {s : State} (hF : Inside 16581862786704 Fm) (hK : Only Fm s0 s) :
    Only Fm s0 (Acc.waitFor u w s) := by
  unfold Acc.waitFor
  with_reducible repeat' first
    | assumption | intro _ | apply Only.ite | apply Only.forAll | apply State.unitHeld_only | apply State.modDmc_only
    | apply State.makeBuffer_only | apply State.farFetch_only | apply State.sendSnoop_only
    | (fail_if_no_progress refine Only.set_bridge (hF.bit (by decide)) ?_) | dsimp only | split
  all_goals first | exact hF.sub rfl | exact hF.bit rfl

theorem State.readsDrop_only {Fm : Nat} {s0 : State} (w : Reader) {s : State} (hF : Inside 17179869184 Fm) (hK : Only Fm s0 s) :
    Only Fm s0 (State.readsDrop w s) := by
  unfold State.readsDrop
  with_reducible repeat' first
    | assumption | intro _ | apply State.modDmc_only | dsimp only | split
  all_goals first | exact hF.sub rfl | exact hF.bit rfl

theorem Acc.ends_only {Fm : Nat} {s0 : State} (u : Acc) {s : State} (hF : Inside 4417373896848 Fm) (hK : Only Fm s0 s) :
    Only Fm s0 (Acc.ends u s) := by
  unfold Acc.ends
  with_reducible repeat' first
    | assumption | intro _ | apply State.unitEnds_only | apply State.farDrop_only | apply State.readsDrop_only | dsimp only
    | split
  all_goals first | exact hF.sub rfl | exact hF.bit rfl

theorem Acc.waits_only {Fm : Nat} {s0 : State} (u : Acc) (w : WaitOn) (s' : State) {s : State} (hs : Only Fm s0 s') (hF : Inside 16581862786704 Fm) (hK : Only Fm s0 s) :
    Only Fm s0 (Acc.waits u w s' s) := by
  unfold Acc.waits
  with_reducible repeat' first
    | assumption | intro _ | apply Acc.waitFor_only | apply State.unitWaits_only | dsimp only | split
  all_goals first | exact hF.sub rfl | exact hF.bit rfl

theorem Acc.run_only {Fm : Nat} {s0 : State} {α : Type} (u : Acc) (m : Work α) (k : Except Status α → State → State) {s : State} (hm : ∀ t, Only Fm s0 t → Leaves (Only Fm s0) m t) (hk : ∀ r t, Only Fm s0 t → Only Fm s0 (k r t)) (hF : Inside 16581862786704 Fm) (hK : Only Fm s0 s) :
    Only Fm s0 (Acc.run u m k s) := by
  unfold Acc.run
  with_reducible repeat' first
    | assumption | intro _ | apply Acc.ends_only | apply Acc.waits_only | apply hm | apply hk | dsimp only | split
    | (refine Leaves.ok_ (by assumption) ?_) | (refine Leaves.error_ (by assumption) ?_)
  all_goals first | exact hF.sub rfl | exact hF.bit rfl

theorem State.countCnts_only {Fm : Nat} {s0 : State} (t : Nat) (c : Cnts) {s : State} (hF : Inside 16 Fm) (hK : Only Fm s0 s) :
    Only Fm s0 (State.countCnts t c s) := by
  unfold State.countCnts
  with_reducible repeat' first
    | assumption | intro _ | apply State.cntBar_only | dsimp only | split
  all_goals first | exact hF.sub rfl | exact hF.bit rfl

theorem Acc.elems_only {Fm : Nat} {s0 : State} (u : Acc) (code lay src app lo n : Nat) {s : State} (hF : Inside 16581863900816 Fm) (hK : Only Fm s0 s) :
    Leaves (Only Fm s0) (Acc.elems u code lay src app lo n) s := by
  unfold Acc.elems
  with_reducible repeat' first
    | assumption | intro _ | apply Leaves.bind | apply Leaves.pure | apply Leaves.modify_ | apply Leaves.ite
    | apply Leaves.mapM_ | apply Acc.bytes_only | apply State.countCnts_only | dsimp only | split
  all_goals first | exact hF.sub rfl | exact hF.bit rfl

theorem Acc.putBlock_only {Fm : Nat} {s0 : State} (u : Acc) (code lay dst app k : Nat) (r : Rnd) (v : List W32) {s : State} (hF : Inside 16581863900816 Fm) (hK : Only Fm s0 s) :
    Leaves (Only Fm s0) (Acc.putBlock u code lay dst app k r v) s := by
  unfold Acc.putBlock
  with_reducible repeat' first
    | assumption | intro _ | apply Leaves.bind | apply Leaves.pure | apply Leaves.modify_ | apply Leaves.ite
    | apply State.countCnts_only | apply Acc.put_only | dsimp only | split
  all_goals first | exact hF.sub rfl | exact hF.bit rfl

/-! Machine/Accept.lean. -/

theorem State.bindJob_only {Fm : Nat} {s0 : State} (id t cls : Nat) (d : Line) (p : List Byte) {s : State} (hF : Inside 8796097216512 Fm) (hK : Only Fm s0 s) :
    Only Fm s0 (State.bindJob id t cls d p s) := by
  unfold State.bindJob
  with_reducible repeat' first
    | assumption | intro _ | apply Only.ite | apply State.tickFree_only
    | (fail_if_no_progress refine Only.set_jobs (hF.bit (by decide)) ?_) | dsimp only | split
  all_goals first | exact hF.sub rfl | exact hF.bit rfl

theorem State.acceptOp_only {Fm : Nat} {s0 : State} (t r : Nat) (d : Line) (p : List Byte) {s : State} (hF : Inside 8796100362256 Fm) (hK : Only Fm s0 s) :
    Only Fm s0 (State.acceptOp t r d p s) := by
  unfold State.acceptOp
  with_reducible repeat' first
    | assumption | intro _ | apply Only.ite | apply State.cntBar_only | apply State.bindJob_only
    | (fail_if_no_progress refine Only.set_ops_nextOp (hF.bit (by decide)) (hF.bit (by decide)) ?_) | dsimp only | split
  all_goals first | exact hF.sub rfl | exact hF.bit rfl

theorem State.takeWith_only {Fm : Nat} {s0 : State} (t r : Nat) (d : Line) (p : Option (Except Status (List Byte))) {s : State} (hF : Inside 11063843882512 Fm) (hK : Only Fm s0 s) :
    Only Fm s0 (State.takeWith t r d p s) := by
  unfold State.takeWith
  with_reducible repeat' first
    | assumption | intro _ | apply State.setRing_only | apply State.complete_only | apply State.acceptOp_only | dsimp only
    | split
  all_goals first | exact hF.sub rfl | exact hF.bit rfl

theorem execDescriptorTake_only {Fm : Nat} {s0 : State} (t : Tenant) (r : BitVec 4) {s : State} (hF : Inside 16586165421712 Fm) (hK : Only Fm s0 s) :
    Answers (Only Fm s0) (execDescriptorTake t r s) := by
  unfold execDescriptorTake
  with_reducible repeat' first
    | assumption | intro _ | apply Answers.next | apply Answers.ite | apply Only.ite | apply State.setRing_only
    | apply State.cntBar_only | apply State.takeWith_only | apply Acc.run_only | apply Acc.bytes_only
    | (fail_if_no_progress refine Only.set_nextReq (hF.bit (by decide)) ?_) | dsimp only | split
  all_goals first | exact hF.sub rfl | exact hF.bit rfl

theorem State.freeJob_only {Fm : Nat} {s0 : State} (id : Nat) {s : State} (hF : Inside 34363932672 Fm) (hK : Only Fm s0 s) :
    Only Fm s0 (State.freeJob id s) := by
  unfold State.freeJob
  with_reducible repeat' first
    | assumption | intro _ | apply Only.forAll | apply State.returnBank_only
    | (fail_if_no_progress refine Only.set_jobs (hF.bit (by decide)) ?_) | dsimp only | split
  all_goals first | exact hF.sub rfl | exact hF.bit rfl

theorem State.dropIdle_only {Fm : Nat} {s0 : State} (id : Nat) {s : State} (hF : Inside 4398054932608 Fm) (hK : Only Fm s0 s) :
    Only Fm s0 (State.dropIdle id s) := by
  unfold State.dropIdle
  with_reducible repeat' first
    | assumption | intro _ | apply Only.forAll | apply State.farDrop_only
    | (fail_if_no_progress refine Only.set_grains (hF.bit (by decide)) ?_) | dsimp only | split
  all_goals first | exact hF.sub rfl | exact hF.bit rfl

theorem State.dropJob_only {Fm : Nat} {s0 : State} (id : Nat) {s : State} (hF : Inside 4432418865280 Fm) (hK : Only Fm s0 s) :
    Only Fm s0 (State.dropJob id s) := by
  unfold State.dropJob
  with_reducible repeat' first
    | assumption | intro _ | apply Only.ite | apply State.dropIdle_only | apply State.modCst_only | apply State.modJob_only
    | apply State.freeJob_only | dsimp only | split
  all_goals first | exact hF.sub rfl | exact hF.bit rfl

theorem State.dropGrains_only {Fm : Nat} {s0 : State} (op : Nat) {s : State} (hF : Inside 35232153600 Fm) (hK : Only Fm s0 s) :
    Only Fm s0 (State.dropGrains op s) := by
  unfold State.dropGrains
  with_reducible repeat' first
    | assumption | intro _ | apply Only.forAll | apply State.returnBank_only
    | (fail_if_no_progress refine Only.set_dups_fes_xjobs (hF.bit (by decide)) (hF.bit (by decide)) (hF.bit (by decide)) ?_)
    | dsimp only | split
  all_goals first | exact hF.sub rfl | exact hF.bit rfl

theorem State.endOp_only {Fm : Nat} {s0 : State} (o : Op) (c : Status) {s : State} (hF : Inside 6701035849360 Fm) (hK : Only Fm s0 s) :
    Only Fm s0 (State.endOp o c s) := by
  unfold State.endOp
  with_reducible repeat' first
    | assumption | intro _ | apply State.dropJob_only | apply State.dropGrains_only | apply State.farDrop_only
    | apply State.complete_only | (fail_if_no_progress refine Only.set_ops (hF.bit (by decide)) ?_) | dsimp only | split
  all_goals first | exact hF.sub rfl | exact hF.bit rfl

theorem execOperationComplete_only {Fm : Nat} {s0 : State} (op : Nat) {s : State} (hF : Inside 6701035849360 Fm) (hK : Only Fm s0 s) :
    Answers (Only Fm s0) (execOperationComplete op s) := by
  unfold execOperationComplete
  with_reducible repeat' first
    | assumption | intro _ | apply Answers.next | apply State.endOp_only | dsimp only | split
  all_goals first | exact hF.sub rfl | exact hF.bit rfl

/-! Machine/Kernels.lean. -/

theorem State.opDone_only {Fm : Nat} {s0 : State} (id : Nat) (c : Status) (detail : Nat) {s : State} (hF : Inside 1048576 Fm) (hK : Only Fm s0 s) :
    Only Fm s0 (State.opDone id c detail s) := by
  unfold State.opDone
  with_reducible repeat' first
    | assumption | intro _ | apply State.modOp_only | dsimp only | split
  all_goals first | exact hF.sub rfl | exact hF.bit rfl

theorem State.failOp_only {Fm : Nat} {s0 : State} (id : Nat) (c : Status) (detail : Nat) {s : State} (hF : Inside 1048576 Fm) (hK : Only Fm s0 s) :
    Only Fm s0 (State.failOp id c detail s) := by
  unfold State.failOp
  with_reducible repeat' first
    | assumption | intro _ | apply State.modOp_only | dsimp only | split
  all_goals first | exact hF.sub rfl | exact hF.bit rfl

theorem State.withOp_only {Fm : Nat} {s0 : State} (id : Nat) (kind : Line → Bool) (f : Op → State → State) {s : State} (hf : ∀ o t, Only Fm s0 t → Only Fm s0 (f o t)) (hF : Inside 0 Fm) (hK : Only Fm s0 s) :
    Only Fm s0 (State.withOp id kind f s) := by
  unfold State.withOp
  with_reducible repeat' first
    | assumption | intro _ | apply Only.ite | apply hf | dsimp only | split
  all_goals first | exact hF.sub rfl | exact hF.bit rfl

theorem Op.run_only {Fm : Nat} {s0 : State} (o : Op) (m : Work (Status × Nat)) {s : State} (hm : ∀ t, Only Fm s0 t → Leaves (Only Fm s0) m t) (hF : Inside 16581863835280 Fm) (hK : Only Fm s0 s) :
    Only Fm s0 (Op.run o m s) := by
  unfold Op.run
  with_reducible repeat' first
    | assumption | intro _ | apply Acc.run_only | apply State.opDone_only | apply hm | dsimp only | split
  all_goals first | exact hF.sub rfl | exact hF.bit rfl

theorem State.tndFault_only {Fm : Nat} {s0 : State} (t code pc idx core : Nat) (c : Status) {s : State} (hF : Inside 2267743258128 Fm) (hK : Only Fm s0 s) :
    Only Fm s0 (State.tndFault t code pc idx core c s) := by
  unfold State.tndFault
  with_reducible repeat' first
    | assumption | intro _ | apply Only.ite | apply State.setBar_only | apply State.logRec_only | dsimp only | split
  all_goals first | exact hF.sub rfl | exact hF.bit rfl

theorem State.jobSettle_only {Fm : Nat} {s0 : State} (id : Nat) {s : State} (hF : Inside 34364981248 Fm) (hK : Only Fm s0 s) :
    Only Fm s0 (State.jobSettle id s) := by
  unfold State.jobSettle
  with_reducible repeat' first
    | assumption | intro _ | apply Only.ite | apply State.freeJob_only | apply State.failOp_only | dsimp only | split
  all_goals first | exact hF.sub rfl | exact hF.bit rfl

theorem State.endGrain_only {Fm : Nat} {s0 : State} (g : Grain) {s : State} (hF : Inside 34373369856 Fm) (hK : Only Fm s0 s) :
    Only Fm s0 (State.endGrain g s) := by
  unfold State.endGrain
  with_reducible repeat' first
    | assumption | intro _ | apply State.modJob_only | apply State.jobSettle_only
    | (fail_if_no_progress refine Only.set_grains (hF.bit (by decide)) ?_) | dsimp only | split
  all_goals first | exact hF.sub rfl | exact hF.bit rfl

theorem State.stopJob_only {Fm : Nat} {s0 : State} (id : Nat) (c : Status) (detail : Nat) {s : State} (hF : Inside 4432419913856 Fm) (hK : Only Fm s0 s) :
    Only Fm s0 (State.stopJob id c detail s) := by
  unfold State.stopJob
  with_reducible repeat' first
    | assumption | intro _ | apply State.modJob_only | apply State.dropIdle_only | apply State.jobSettle_only | dsimp only
    | split
  all_goals first | exact hF.sub rfl | exact hF.bit rfl

theorem State.faultGrain_only {Fm : Nat} {s0 : State} (g : Grain) (code pc : Nat) (c : Status) {s : State} (hF : Inside 6700163171984 Fm) (hK : Only Fm s0 s) :
    Only Fm s0 (State.faultGrain g code pc c s) := by
  unfold State.faultGrain
  with_reducible repeat' first
    | assumption | intro _ | apply State.tndFault_only | apply State.modJob_only | apply State.endGrain_only
    | apply State.stopJob_only | dsimp only | split
  all_goals first | exact hF.sub rfl | exact hF.bit rfl

theorem State.startJob_only {Fm : Nat} {s0 : State} (id : Nat) {s : State} (hF : Inside 34363932672 Fm) (hK : Only Fm s0 s) :
    Only Fm s0 (State.startJob id s) := by
  unfold State.startJob
  with_reducible repeat' first
    | assumption | intro _ | apply Only.ite | apply Only.forAll | apply State.allotJob_only | apply State.modJob_only
    | dsimp only | split
  all_goals first | exact hF.sub rfl | exact hF.bit rfl

theorem State.kernelGrain_only {Fm : Nat} {s0 : State} (o : Op) {s : State} (hF : Inside 34389098496 Fm) (hK : Only Fm s0 s) :
    Only Fm s0 (State.kernelGrain o s).2 := by
  unfold State.kernelGrain
  with_reducible repeat' first
    | assumption | intro _ | apply Only.ite | apply State.startJob_only
    | (fail_if_no_progress refine Only.set_jobs (hF.bit (by decide)) ?_)
    | (fail_if_no_progress refine Only.set_grains_nextGrain (hF.bit (by decide)) (hF.bit (by decide)) ?_) | dsimp only | split
  all_goals first | exact hF.sub rfl | exact hF.bit rfl

theorem State.kernelFault_only {Fm : Nat} {s0 : State} (o : Op) (code idx core : Nat) (c : Status) {s : State} (hF : Inside 6700163171984 Fm) (hK : Only Fm s0 s) :
    Only Fm s0 (State.kernelFault o code idx core c s) := by
  unfold State.kernelFault
  with_reducible repeat' first
    | assumption | intro _ | apply State.tndFault_only | apply State.dropJob_only | apply State.opDone_only | dsimp only | split
  all_goals first | exact hF.sub rfl | exact hF.bit rfl

theorem State.kernelRun_only {Fm : Nat} {s0 : State} {α : Type} (o : Op) (check : Option Nat) (m : Acc → Work α) (k : α → State → State) {s : State} (hm : ∀ u t, Only Fm s0 t → Leaves (Only Fm s0) (m u) t) (hk : ∀ a t, Only Fm s0 t → Only Fm s0 (k a t)) (hF : Inside 16616252933776 Fm) (hK : Only Fm s0 s) :
    Only Fm s0 (State.kernelRun o check m k s) := by
  unfold State.kernelRun
  with_reducible repeat' first
    | assumption | intro _ | apply Only.ite | apply State.dropJob_only | apply State.opDone_only | apply State.kernelGrain_only
    | apply State.kernelFault_only | apply Acc.ends_only | apply Acc.waits_only | apply hm | apply hk | dsimp only | split
    | (refine Only.snd (by assumption) ?_) | (refine Leaves.ok_ (by assumption) ?_) | (refine Leaves.error_ (by assumption) ?_)
  all_goals first | exact hF.sub rfl | exact hF.bit rfl

theorem State.kernelEnd_only {Fm : Nat} {s0 : State} (o : Op) (c : Status) (n : Nat) {s : State} (hF : Inside 4432419913856 Fm) (hK : Only Fm s0 s) :
    Only Fm s0 (State.kernelEnd o c n s) := by
  unfold State.kernelEnd
  with_reducible repeat' first
    | assumption | intro _ | apply State.dropJob_only | apply State.opDone_only | dsimp only | split
  all_goals first | exact hF.sub rfl | exact hF.bit rfl

theorem State.kernel_only {Fm : Nat} {s0 : State} (o : Op) (check : Option Nat) (m : Acc → Work (Status × Nat)) {s : State} (hm : ∀ u t, Only Fm s0 t → Leaves (Only Fm s0) (m u) t) (hF : Inside 16616252933776 Fm) (hK : Only Fm s0 s) :
    Only Fm s0 (State.kernel o check m s) := by
  unfold State.kernel
  with_reducible repeat' first
    | assumption | intro _ | apply State.kernelRun_only | apply State.kernelEnd_only | apply hm | dsimp only | split
  all_goals first | exact hF.sub rfl | exact hF.bit rfl

/-! Machine/Operations.lean. -/

theorem fillWork_only {Fm : Nat} {s0 : State} (o : Op) {s : State} (hF : Inside 16581863900816 Fm) (hK : Only Fm s0 s) :
    Leaves (Only Fm s0) (fillWork o) s := by
  unfold fillWork
  with_reducible repeat' first
    | assumption | intro _ | apply Leaves.bind | apply Leaves.pure | apply Leaves.forM_ | apply Acc.store_only | dsimp only
    | split
  all_goals first | exact hF.sub rfl | exact hF.bit rfl

theorem execFill_only {Fm : Nat} {s0 : State} (op : Nat) {s : State} (hF : Inside 16581863900816 Fm) (hK : Only Fm s0 s) :
    Answers (Only Fm s0) (execFill op s) := by
  unfold execFill
  with_reducible repeat' first
    | assumption | intro _ | apply Answers.next | apply State.withOp_only | apply Op.run_only | apply fillWork_only | dsimp only
    | split
  all_goals first | exact hF.sub rfl | exact hF.bit rfl

theorem copyLine_only {Fm : Nat} {s0 : State} (o : Op) (acc : Option Status × Nat) (l : Nat) {s : State} (hF : Inside 16581863900816 Fm) (hK : Only Fm s0 s) :
    Leaves (Only Fm s0) (copyLine o acc l) s := by
  unfold copyLine
  with_reducible repeat' first
    | assumption | intro _ | apply Leaves.bind | apply Leaves.pure | apply Leaves.fail | apply Leaves.modify_
    | apply Leaves.try_ | apply Acc.bytes_only | apply Acc.store_only | apply State.modOp_only | dsimp only | split
  all_goals first | exact hF.sub rfl | exact hF.bit rfl

theorem execCopy_only {Fm : Nat} {s0 : State} (op : Nat) {s : State} (hF : Inside 16581863900816 Fm) (hK : Only Fm s0 s) :
    Answers (Only Fm s0) (execCopy op s) := by
  unfold execCopy
  with_reducible repeat' first
    | assumption | intro _ | apply Answers.next | apply Leaves.foldlM_ | apply State.withOp_only | apply Acc.run_only
    | apply copyLine_only | apply State.opDone_only | apply State.modOp_only | dsimp only | split
  all_goals first | exact hF.sub rfl | exact hF.bit rfl

theorem convertWork_only {Fm : Nat} {s0 : State} (o : Op) (u : Acc) {s : State} (hF : Inside 16581863900816 Fm) (hK : Only Fm s0 s) :
    Leaves (Only Fm s0) (convertWork o u) s := by
  unfold convertWork
  with_reducible repeat' first
    | assumption | intro _ | apply Leaves.bind | apply Leaves.pure | apply Leaves.forM_ | apply Acc.elems_only
    | apply Acc.putBlock_only | dsimp only | split
  all_goals first | exact hF.sub rfl | exact hF.bit rfl

theorem execCopyConvert_only {Fm : Nat} {s0 : State} (op : Nat) {s : State} (hF : Inside 16616252999312 Fm) (hK : Only Fm s0 s) :
    Answers (Only Fm s0) (execCopyConvert op s) := by
  unfold execCopyConvert
  with_reducible repeat' first
    | assumption | intro _ | apply Answers.next | apply State.withOp_only | apply State.kernel_only | apply convertWork_only
    | dsimp only | split
  all_goals first | exact hF.sub rfl | exact hF.bit rfl

theorem compareFrom_only {Fm : Nat} {s0 : State} (o : Op) (a b n : Nat) (hF : Inside 16581863900816 Fm) : ∀ (rest_ : Nat) (y0 : Nat) {s : State}, Only Fm s0 s →
    Leaves (Only Fm s0) (compareFrom o a b n rest_ y0) s := by
  intro rest_
  induction rest_ with
  | zero =>
    intro y0 s hK
    unfold compareFrom
    with_reducible repeat' first
      | assumption | intro _ | apply Leaves.bind | apply Leaves.pure | apply Leaves.ite | apply Acc.bytes_only | dsimp only
      | split
    all_goals first | exact hF.sub rfl | exact hF.bit rfl
  | succ n ih =>
    intro y0 s hK
    unfold compareFrom
    with_reducible repeat' first
      | assumption | apply ih | intro _ | apply Leaves.bind | apply Leaves.pure | apply Leaves.ite | apply Acc.bytes_only
      | dsimp only | split
    all_goals first | exact hF.sub rfl | exact hF.bit rfl

theorem compareWork_only {Fm : Nat} {s0 : State} (o : Op) {s : State} (hF : Inside 16581863900816 Fm) (hK : Only Fm s0 s) :
    Leaves (Only Fm s0) (compareWork o) s := by
  unfold compareWork
  with_reducible repeat' first
    | assumption | intro _ | apply Leaves.bind | apply Leaves.pure | apply Leaves.ite | apply compareFrom_only
    | apply Acc.put_only | dsimp only | split
  all_goals first | exact hF.sub rfl | exact hF.bit rfl

theorem execCompare_only {Fm : Nat} {s0 : State} (op : Nat) {s : State} (hF : Inside 16581863900816 Fm) (hK : Only Fm s0 s) :
    Answers (Only Fm s0) (execCompare op s) := by
  unfold execCompare
  with_reducible repeat' first
    | assumption | intro _ | apply Answers.next | apply State.withOp_only | apply Op.run_only | apply compareWork_only
    | dsimp only | split
  all_goals first | exact hF.sub rfl | exact hF.bit rfl

theorem reduceWork_only {Fm : Nat} {s0 : State} (o : Op) (u : Acc) {s : State} (hF : Inside 16581863900816 Fm) (hK : Only Fm s0 s) :
    Leaves (Only Fm s0) (reduceWork o u) s := by
  unfold reduceWork
  with_reducible repeat' first
    | assumption | intro _ | apply Leaves.bind | apply Leaves.pure | apply Leaves.foldlM_ | apply Leaves.forM_
    | apply Acc.elems_only | apply Acc.putBlock_only | dsimp only | split
  all_goals first | exact hF.sub rfl | exact hF.bit rfl

theorem execReduce_only {Fm : Nat} {s0 : State} (op : Nat) {s : State} (hF : Inside 16616252999312 Fm) (hK : Only Fm s0 s) :
    Answers (Only Fm s0) (execReduce op s) := by
  unfold execReduce
  with_reducible repeat' first
    | assumption | intro _ | apply Answers.next | apply State.withOp_only | apply State.kernel_only | apply reduceWork_only
    | dsimp only | split
  all_goals first | exact hF.sub rfl | exact hF.bit rfl

theorem gatherBag_only {Fm : Nat} {s0 : State} (o : Op) (u : Acc) (ok : List (Nat × W32)) {s : State} (hF : Inside 16581863900816 Fm) (hK : Only Fm s0 s) :
    Leaves (Only Fm s0) (gatherBag o u ok) s := by
  unfold gatherBag
  with_reducible repeat' first
    | assumption | intro _ | apply Leaves.bind | apply Leaves.pure | apply Leaves.foldlM_ | apply Acc.elems_only | dsimp only
    | split
  all_goals first | exact hF.sub rfl | exact hF.bit rfl

theorem gatherWork_only {Fm : Nat} {s0 : State} (o : Op) (u : Acc) {s : State} (hF : Inside 16581863900816 Fm) (hK : Only Fm s0 s) :
    Leaves (Only Fm s0) (gatherWork o u) s := by
  unfold gatherWork
  with_reducible repeat' first
    | assumption | intro _ | apply Leaves.bind | apply Leaves.pure | apply Leaves.modify_ | apply Leaves.foldlM_
    | apply Acc.bytes_only | apply State.modOp_only | apply gatherBag_only | apply State.countCnts_only | apply Acc.put_only
    | dsimp only | split
  all_goals first | exact hF.sub rfl | exact hF.bit rfl

theorem execEmbedGather_only {Fm : Nat} {s0 : State} (op : Nat) {s : State} (hF : Inside 16616252999312 Fm) (hK : Only Fm s0 s) :
    Answers (Only Fm s0) (execEmbedGather op s) := by
  unfold execEmbedGather
  with_reducible repeat' first
    | assumption | intro _ | apply Answers.next | apply State.withOp_only | apply State.kernel_only | apply gatherWork_only
    | dsimp only | split
  all_goals first | exact hF.sub rfl | exact hF.bit rfl

/-! Machine/Loads.lean. -/

theorem State.installRec_only {Fm : Nat} {s0 : State} (p base : Nat) (pool : Bool) (n : Nat) (ents : List W128) (area : List Byte) {s : State} (hF : Inside 163840 Fm) (hK : Only Fm s0 s) :
    Only Fm s0 (State.installRec p base pool n ents area s) := by
  unfold State.installRec
  with_reducible repeat' first
    | assumption | intro _ | apply State.keptDrop_only | apply State.modTier_only | apply State.modPlot_only | dsimp only
    | split
  all_goals first | exact hF.sub rfl | exact hF.bit rfl

theorem installWork_only {Fm : Nat} {s0 : State} (o : Op) (img : List Byte) {s : State} (hF : Inside 16581863900816 Fm) (hK : Only Fm s0 s) :
    Leaves (Only Fm s0) (installWork o img) s := by
  unfold installWork
  with_reducible repeat' first
    | assumption | intro _ | apply Leaves.get_bind | apply Leaves.bind | apply Leaves.pure | apply Leaves.fail
    | apply Leaves.wait | apply Leaves.need | apply Leaves.set_ | apply Leaves.modify_ | apply Leaves.ite | apply Acc.bytes_only
    | apply State.countWrdrop_only | apply State.blockFail_only | apply Acc.charge_only | apply State.tickFree_only
    | apply State.installRec_only | apply State.modOp_only | dsimp only | split
    | (refine State.bulkRelief_only (by assumption) ?_ ?_)
  all_goals first | exact hF.sub rfl | exact hF.bit rfl

theorem execImageInstall_only {Fm : Nat} {s0 : State} (op : Nat) {s : State} (hF : Inside 16581863900816 Fm) (hK : Only Fm s0 s) :
    Answers (Only Fm s0) (execImageInstall op s) := by
  unfold execImageInstall
  with_reducible repeat' first
    | assumption | intro _ | apply Answers.next | apply Leaves.bind | apply Leaves.pure | apply Leaves.ite | apply Only.ite
    | apply State.withOp_only | apply State.modOp_only | apply Acc.run_only | apply Acc.bytes_only | apply installWork_only
    | dsimp only | split
  all_goals first | exact hF.sub rfl | exact hF.bit rfl

theorem State.hint_only {Fm : Nat} {s0 : State} (code : Nat) (op : Nat) (f : Op → Nat → State → State) {s : State} (hf : ∀ o n t, Only Fm s0 t → Only Fm s0 (f o n t)) (hF : Inside 2267744372240 Fm) (hK : Only Fm s0 s) :
    Only Fm s0 (State.hint code op f s) := by
  unfold State.hint
  with_reducible repeat' first
    | assumption | intro _ | apply Only.ite | apply Only.forAll | apply State.withOp_only | apply State.modOp_only
    | apply State.settle_only | apply hf | dsimp only | split
  all_goals first | exact hF.sub rfl | exact hF.bit rfl

theorem execPromote_only {Fm : Nat} {s0 : State} (op : Nat) {s : State} (hF : Inside 11065984910864 Fm) (hK : Only Fm s0 s) :
    Answers (Only Fm s0) (execPromote op s) := by
  unfold execPromote
  with_reducible repeat' first
    | assumption | intro _ | apply Answers.next | apply State.hint_only | apply State.askClaim_only | dsimp only | split
  all_goals first | exact hF.sub rfl | exact hF.bit rfl

theorem execDemote_only {Fm : Nat} {s0 : State} (op : Nat) {s : State} (hF : Inside 11065984910864 Fm) (hK : Only Fm s0 s) :
    Answers (Only Fm s0) (execDemote op s) := by
  unfold execDemote
  with_reducible repeat' first
    | assumption | intro _ | apply Answers.next | apply Only.ite | apply State.hint_only | apply State.wantFar_only
    | apply State.removeClaim_only | dsimp only | split
  all_goals first | exact hF.sub rfl | exact hF.bit rfl

theorem execPin_only {Fm : Nat} {s0 : State} (op : Nat) {s : State} (hF : Inside 11065984910864 Fm) (hK : Only Fm s0 s) :
    Answers (Only Fm s0) (execPin op s) := by
  unfold execPin
  with_reducible repeat' first
    | assumption | intro _ | apply Answers.next | apply State.hint_only | apply State.askClaim_only | dsimp only | split
  all_goals first | exact hF.sub rfl | exact hF.bit rfl

theorem execUnpin_only {Fm : Nat} {s0 : State} (op : Nat) {s : State} (hF : Inside 11065984910864 Fm) (hK : Only Fm s0 s) :
    Answers (Only Fm s0) (execUnpin op s) := by
  unfold execUnpin
  with_reducible repeat' first
    | assumption | intro _ | apply Answers.next | apply State.hint_only | apply State.removePin_only | dsimp only | split
  all_goals first | exact hF.sub rfl | exact hF.bit rfl

theorem Op.endVersion_only {Fm : Nat} {s0 : State} (o : Op) (c : Status) (ver : W32) {s : State} (hF : Inside 16581863900816 Fm) (hK : Only Fm s0 s) :
    Only Fm s0 (Op.endVersion o c ver s) := by
  unfold Op.endVersion
  with_reducible repeat' first
    | assumption | intro _ | apply Leaves.bind | apply Leaves.pure | apply Leaves.ite | apply Op.run_only | apply Acc.put_only
    | dsimp only | split
  all_goals first | exact hF.sub rfl | exact hF.bit rfl

theorem execPublish_only {Fm : Nat} {s0 : State} (op : Nat) {s : State} (hF : Inside 16581863900816 Fm) (hK : Only Fm s0 s) :
    Answers (Only Fm s0) (execPublish op s) := by
  unfold execPublish
  with_reducible repeat' first
    | assumption | intro _ | apply Answers.next | apply Only.ite | apply State.withOp_only | apply Op.endVersion_only
    | apply State.opDone_only | apply State.modOp_only | apply State.modRegion_only | apply State.flipRegion_only
    | apply State.startWalk_only | dsimp only | split
  all_goals first | exact hF.sub rfl | exact hF.bit rfl

theorem State.pinWalk_only {Fm : Nat} {s0 : State} (why : WalkWhy) (t b : Nat) (g : Region) {s : State} (hF : Inside 16579715303056 Fm) (hK : Only Fm s0 s) :
    Only Fm s0 (State.pinWalk why t b g s) := by
  unfold State.pinWalk
  with_reducible repeat' first
    | assumption | intro _ | apply State.startWalk_only | dsimp only | split
  all_goals first | exact hF.sub rfl | exact hF.bit rfl

theorem execAcquire_only {Fm : Nat} {s0 : State} (op : Nat) {s : State} (hF : Inside 16581863904912 Fm) (hK : Only Fm s0 s) :
    Answers (Only Fm s0) (execAcquire op s) := by
  unfold execAcquire
  with_reducible repeat' first
    | assumption | intro _ | apply Answers.next | apply Only.ite | apply State.withOp_only | apply Op.endVersion_only
    | apply State.opDone_only | apply State.modOp_only | apply State.pinWalk_only | apply State.walkEnds_only | dsimp only
    | split
  all_goals first | exact hF.sub rfl | exact hF.bit rfl

theorem execRelease_only {Fm : Nat} {s0 : State} (op : Nat) {s : State} (hF : Inside 16581863904912 Fm) (hK : Only Fm s0 s) :
    Answers (Only Fm s0) (execRelease op s) := by
  unfold execRelease
  with_reducible repeat' first
    | assumption | intro _ | apply Answers.next | apply Only.ite | apply State.withOp_only | apply State.opDone_only
    | apply State.modOp_only | apply State.pinWalk_only | apply State.walkEnds_only | dsimp only | split
  all_goals first | exact hF.sub rfl | exact hF.bit rfl

theorem State.unloadTable_only {Fm : Nat} {s0 : State} (n : Nat) {s : State} (hF : Inside 131072 Fm) (hK : Only Fm s0 s) :
    Only Fm s0 (State.unloadTable n s) := by
  unfold State.unloadTable
  with_reducible repeat' first
    | assumption | intro _ | apply Only.ite | apply State.setTslot_only | dsimp only | split
  all_goals first | exact hF.sub rfl | exact hF.bit rfl

theorem State.loadTable_only {Fm : Nat} {s0 : State} (n t : Nat) (img : List Byte) {s : State} (hF : Inside 131072 Fm) (hK : Only Fm s0 s) :
    Only Fm s0 (State.loadTable n t img s) := by
  unfold State.loadTable
  with_reducible repeat' first
    | assumption | intro _ | apply Only.ite | apply State.unloadTable_only | apply State.setTslot_only | dsimp only | split
  all_goals first | exact hF.sub rfl | exact hF.bit rfl

theorem execTableLoad_only {Fm : Nat} {s0 : State} (op : Nat) {s : State} (hF : Inside 16581863900816 Fm) (hK : Only Fm s0 s) :
    Answers (Only Fm s0) (execTableLoad op s) := by
  unfold execTableLoad
  with_reducible repeat' first
    | assumption | intro _ | apply Answers.next | apply Only.ite | apply State.withOp_only | apply State.modOp_only
    | apply State.opDone_only | apply Acc.run_only | apply Acc.bytes_only | apply State.loadTable_only | dsimp only | split
  all_goals first | exact hF.sub rfl | exact hF.bit rfl

theorem State.replaceProg_only {Fm : Nat} {s0 : State} (n t : Nat) (g : Option Prog) {s : State} (hF : Inside 37748736 Fm) (hK : Only Fm s0 s) :
    Only Fm s0 (State.replaceProg n t g s) := by
  unfold State.replaceProg
  with_reducible repeat' first
    | assumption | intro _ | apply Only.ite | apply State.setPslot_only
    | (fail_if_no_progress refine Only.set_jobs (hF.bit (by decide)) ?_) | dsimp only | split
  all_goals first | exact hF.sub rfl | exact hF.bit rfl

theorem execProgramLoad_only {Fm : Nat} {s0 : State} (op : Nat) {s : State} (hF : Inside 16581901649552 Fm) (hK : Only Fm s0 s) :
    Answers (Only Fm s0) (execProgramLoad op s) := by
  unfold execProgramLoad
  with_reducible repeat' first
    | assumption | intro _ | apply Answers.next | apply Leaves.get_bind | apply Leaves.bind | apply Leaves.pure
    | apply Leaves.ite | apply Only.ite | apply State.withOp_only | apply State.modOp_only | apply State.opDone_only
    | apply Acc.run_only | apply Acc.bytes_only | apply State.replaceProg_only | dsimp only | split
  all_goals first | exact hF.sub rfl | exact hF.bit rfl

theorem execAlmanacLoad_only {Fm : Nat} {s0 : State} (op : Nat) {s : State} (hF : Inside 16581863900816 Fm) (hK : Only Fm s0 s) :
    Answers (Only Fm s0) (execAlmanacLoad op s) := by
  unfold execAlmanacLoad
  with_reducible repeat' first
    | assumption | intro _ | apply Answers.next | apply Leaves.get_bind | apply Leaves.bind | apply Leaves.pure
    | apply Leaves.ite | apply Only.ite | apply State.withOp_only | apply Acc.run_only | apply Acc.bytes_only
    | apply State.opDone_only | apply State.commitCal_only | apply State.setCal_only | apply State.modOp_only | dsimp only
    | split
  all_goals first | exact hF.sub rfl | exact hF.bit rfl

theorem execMark_only {Fm : Nat} {s0 : State} (op : Nat) {s : State} (hF : Inside 1114128 Fm) (hK : Only Fm s0 s) :
    Answers (Only Fm s0) (execMark op s) := by
  unfold execMark
  with_reducible repeat' first
    | assumption | intro _ | apply Answers.next | apply Only.ite | apply State.withOp_only | apply State.sendMark_only
    | apply State.modOp_only | apply State.opDone_only | dsimp only | split | (refine Only.snd (by assumption) ?_)
  all_goals first | exact hF.sub rfl | exact hF.bit rfl

theorem execFence_only {Fm : Nat} {s0 : State} (op : Nat) {s : State} (hF : Inside 1048576 Fm) (hK : Only Fm s0 s) :
    Answers (Only Fm s0) (execFence op s) := by
  unfold execFence
  with_reducible repeat' first
    | assumption | intro _ | apply Answers.next | apply Only.ite | apply State.withOp_only | apply State.opDone_only
    | dsimp only | split
  all_goals first | exact hF.sub rfl | exact hF.bit rfl

/-! Machine/Flume.lean. -/

theorem State.modFgrain_only {Fm : Nat} {s0 : State} (fe id : Nat) (f : FGrain → FGrain) {s : State} (hF : Inside 67108864 Fm) (hK : Only Fm s0 s) :
    Only Fm s0 (State.modFgrain fe id f s) := by
  unfold State.modFgrain
  with_reducible repeat' first
    | assumption | intro _ | apply State.modFe_only | dsimp only | split
  all_goals first | exact hF.sub rfl | exact hF.bit rfl

theorem State.endFgrain_only {Fm : Nat} {s0 : State} (fe : Nat) (g : FGrain) {s : State} (hF : Inside 34426847232 Fm) (hK : Only Fm s0 s) :
    Only Fm s0 (State.endFgrain fe g s) := by
  unfold State.endFgrain
  with_reducible repeat' first
    | assumption | intro _ | apply Only.forAll | apply State.modFe_only | apply State.returnBank_only | dsimp only | split
  all_goals first | exact hF.sub rfl | exact hF.bit rfl

theorem routesOf_only {Fm : Nat} {s0 : State} (o : Op) (u : Acc) {s : State} (hF : Inside 16581863900816 Fm) (hK : Only Fm s0 s) :
    Leaves (Only Fm s0) (routesOf o u) s := by
  unfold routesOf
  with_reducible repeat' first
    | assumption | intro _ | apply Leaves.bind | apply Leaves.pure | apply Leaves.ite | apply Leaves.mapM_
    | apply Acc.bytes_only | dsimp only | split
  all_goals first | exact hF.sub rfl | exact hF.bit rfl

theorem State.outFail_only {Fm : Nat} {s0 : State} (t row : Nat) (c : Status × Nat) {s : State} (hF : Inside 2267743389200 Fm) (hK : Only Fm s0 s) :
    Only Fm s0 (State.outFail t row c s) := by
  unfold State.outFail
  with_reducible repeat' first
    | assumption | intro _ | apply State.blockFail_only | dsimp only | split
  all_goals first | exact hF.sub rfl | exact hF.bit rfl

theorem Acc.reach_only {Fm : Nat} {s0 : State} (u : Acc) (h : Half) {s : State} (hF : Inside 0 Fm) (hK : Only Fm s0 s) :
    Leaves (Only Fm s0) (Acc.reach u h) s := by
  unfold Acc.reach
  with_reducible repeat' first
    | assumption | intro _ | apply Leaves.get_bind | apply Leaves.pure | apply Leaves.fail | apply Leaves.wait
    | apply Leaves.ite | dsimp only | split
  all_goals first | exact hF.sub rfl | exact hF.bit rfl

theorem routeWork_only {Fm : Nat} {s0 : State} (o : Op) (u : Acc) {s : State} (hF : Inside 16581880678032 Fm) (hK : Only Fm s0 s) :
    Leaves (Only Fm s0) (routeWork o u) s := by
  unfold routeWork
  with_reducible repeat' first
    | assumption | intro _ | apply Leaves.get_bind | apply Leaves.bind | apply Leaves.pure | apply Leaves.modify_
    | apply Leaves.ite | apply Leaves.forM_ | apply Leaves.mapM_ | apply routesOf_only | apply Acc.bytes_only
    | apply State.countCnts_only | apply Acc.reach_only | apply State.modFe_only
    | (fail_if_no_progress refine Only.set_nextGrain (hF.bit (by decide)) ?_) | dsimp only | split
  all_goals first | exact hF.sub rfl | exact hF.bit rfl

theorem combineWork_only {Fm : Nat} {s0 : State} (o : Op) (j : XJob) (u : Acc) {s : State} (hF : Inside 16581863900816 Fm) (hK : Only Fm s0 s) :
    Leaves (Only Fm s0) (combineWork o j u) s := by
  unfold combineWork
  with_reducible repeat' first
    | assumption | intro _ | apply Leaves.bind | apply Leaves.pure | apply Leaves.modify_ | apply Leaves.forM_
    | apply Acc.reach_only | apply State.outFail_only | apply State.countCnts_only | apply Acc.put_only | dsimp only | split
  all_goals first | exact hF.sub rfl | exact hF.bit rfl

theorem execExpert_only {Fm : Nat} {s0 : State} (op : Nat) {s : State} (hF : Inside 16616521434768 Fm) (hK : Only Fm s0 s) :
    Answers (Only Fm s0) (execExpert op s) := by
  unfold execExpert
  with_reducible repeat' first
    | assumption | intro _ | apply Answers.next | apply Only.ite | apply State.withOp_only | apply State.kernelEnd_only
    | apply State.kernel_only | apply combineWork_only | apply State.kernelRun_only | apply routeWork_only
    | apply State.modOp_only | (fail_if_no_progress refine Only.set_xjobs (hF.bit (by decide)) ?_) | dsimp only | split
  all_goals first | exact hF.sub rfl | exact hF.bit rfl

theorem State.wblkCount_only {Fm : Nat} {s0 : State} (t : Nat) (enc : Option Nat) (b : Nat) {s : State} (hF : Inside 16 Fm) (hK : Only Fm s0 s) :
    Only Fm s0 (State.wblkCount t enc b s) := by
  unfold State.wblkCount
  with_reducible repeat' first
    | assumption | intro _ | apply Only.ite | apply State.countOrphrd_only | apply State.cntBar_only | dsimp only | split
  all_goals first | exact hF.sub rfl | exact hF.bit rfl

theorem State.askBlock_only {Fm : Nat} {s0 : State} (fe t cls : Nat) (enc : Option Nat) (b : Nat) {s : State} (hF : Inside 16581863900816 Fm) (hK : Only Fm s0 s) :
    Only Fm s0 (State.askBlock fe t cls enc b s) := by
  unfold State.askBlock
  with_reducible repeat' first
    | assumption | intro _ | apply Only.ite | apply Only.forAll | apply State.access_only | apply State.askFill_only
    | apply State.sendSnoop_only | dsimp only | split
  all_goals first | exact hF.sub rfl | exact hF.bit rfl

theorem State.fetchAhead_only {Fm : Nat} {s0 : State} (fe : Nat) (g : FGrain) {s : State} (hF : Inside 16581863900816 Fm) (hK : Only Fm s0 s) :
    Only Fm s0 (State.fetchAhead fe g s) := by
  unfold State.fetchAhead
  with_reducible repeat' first
    | assumption | intro _ | apply Only.ite | apply Only.forAll | apply State.askBlock_only | dsimp only | split
  all_goals first | exact hF.sub rfl | exact hF.bit rfl

theorem State.sluice_only {Fm : Nat} {s0 : State} (fe t : Nat) (enc : Option Nat) (b : Nat) {s : State} (hF : Inside 3401614755344 Fm) (hK : Only Fm s0 s) :
    Only Fm s0 (State.sluice fe t enc b s).2 := by
  unfold State.sluice
  with_reducible repeat' first
    | assumption | intro _ | apply State.cstReadAll_only | apply State.blockFail_only | dsimp only | split
  all_goals first | exact hF.sub rfl | exact hF.bit rfl

theorem State.weightVals_only {Fm : Nat} {s0 : State} (t wfmt b lo hi : Nat) (v : List Byte) {s : State} (hF : Inside 16 Fm) (hK : Only Fm s0 s) :
    Only Fm s0 (State.weightVals t wfmt b lo hi v s).2 := by
  unfold State.weightVals
  with_reducible repeat' first
    | assumption | intro _ | apply State.countCnts_only | dsimp only | split
  all_goals first | exact hF.sub rfl | exact hF.bit rfl

theorem State.countStall_only {Fm : Nat} {s0 : State} (t b : Nat) {s : State} (hF : Inside 16 Fm) (hK : Only Fm s0 s) :
    Only Fm s0 (State.countStall t b s) := by
  unfold State.countStall
  with_reducible repeat' first
    | assumption | intro _ | apply Only.ite | apply State.cntBar_only | dsimp only | split
  all_goals first | exact hF.sub rfl | exact hF.bit rfl

theorem State.countWaits_only {Fm : Nat} {s0 : State} (fe : Nat) {s : State} (hF : Inside 67108880 Fm) (hK : Only Fm s0 s) :
    Only Fm s0 (State.countWaits fe s) := by
  unfold State.countWaits
  with_reducible repeat' first
    | assumption | intro _ | apply Only.ite | apply Only.forAll | apply State.modFgrain_only | apply State.countStall_only
    | apply State.cntStw_only | dsimp only | split
  all_goals first | exact hF.sub rfl | exact hF.bit rfl

theorem State.workBanks_only {Fm : Nat} {s0 : State} (fe : Nat) (g : FGrain) (hF : Inside 34426847232 Fm) : ∀ (rest_ : Nat) {s : State}, Only Fm s0 s →
    Only Fm s0 (State.workBanks fe g rest_ s) := by
  intro rest_
  induction rest_ with
  | zero =>
    intro s hK
    unfold State.workBanks
    with_reducible repeat' first
      | assumption | intro _ | apply State.cstFreshBank_only | apply State.modFgrain_only | dsimp only | split
      | (refine State.allotBank_only (by assumption) ?_ ?_)
    all_goals first | exact hF.sub rfl | exact hF.bit rfl
  | succ n ih =>
    intro s hK
    unfold State.workBanks
    with_reducible repeat' first
      | assumption | apply ih | intro _ | apply State.cstFreshBank_only | apply State.modFgrain_only | dsimp only | split
      | (refine State.allotBank_only (by assumption) ?_ ?_)
    all_goals first | exact hF.sub rfl | exact hF.bit rfl

theorem State.markReady_only {Fm : Nat} {s0 : State} (fe : Nat) {s : State} (hF : Inside 67108864 Fm) (hK : Only Fm s0 s) :
    Only Fm s0 (State.markReady fe s) := by
  unfold State.markReady
  with_reducible repeat' first
    | assumption | intro _ | apply Only.ite | apply Only.forAll | apply State.modFgrain_only | dsimp only | split
  all_goals first | exact hF.sub rfl | exact hF.bit rfl

theorem State.startBanks_only {Fm : Nat} {s0 : State} (fe : Nat) {s : State} (hF : Inside 34426847232 Fm) (hK : Only Fm s0 s) :
    Only Fm s0 (State.startBanks fe s) := by
  unfold State.startBanks
  with_reducible repeat' first
    | assumption | intro _ | apply Only.ite | apply Only.forAll | apply State.wakeBank_only | apply State.workBanks_only
    | dsimp only | split
  all_goals first | exact hF.sub rfl | exact hF.bit rfl

theorem State.tileRows_only {Fm : Nat} {s0 : State} (fe : Nat) (g : FGrain) (wfmt k kEnd : Nat) (encs : List (Nat × Nat × Nat)) (hF : Inside 3401614755344 Fm) : ∀ (rest_ : List Nat) (y0 : Nat) {s : State}, Only Fm s0 s →
    Only Fm s0 (State.tileRows fe g wfmt k kEnd encs rest_ y0 s).2.2 := by
  intro rest_
  induction rest_ with
  | nil =>
    intro y0 s hK
    unfold State.tileRows
    with_reducible repeat' first
      | assumption | intro _ | apply State.wblkCount_only | apply State.sluice_only | apply State.weightVals_only | dsimp only
      | split | (refine Only.snd (by assumption) ?_) | (refine Only.snd2 (by assumption) ?_)
    all_goals first | exact hF.sub rfl | exact hF.bit rfl
  | cons a r ih =>
    intro y0 s hK
    unfold State.tileRows
    with_reducible repeat' first
      | assumption | apply ih | intro _ | apply State.wblkCount_only | apply State.sluice_only | apply State.weightVals_only
      | dsimp only | split | (refine Only.snd (by assumption) ?_) | (refine Only.snd2 (by assumption) ?_)
    all_goals first | exact hF.sub rfl | exact hF.bit rfl

theorem State.actRows_only {Fm : Nat} {s0 : State} (g : FGrain) (down : Bool) (width : Nat) {s : State} (hF : Inside 3401614755344 Fm) (hK : Only Fm s0 s) :
    Only Fm s0 (State.actRows g down width s).2 := by
  unfold State.actRows
  with_reducible repeat' first
    | assumption | intro _ | apply State.cstReadAll_only | apply State.outFail_only | dsimp only | split
  all_goals first | exact hF.sub rfl | exact hF.bit rfl

theorem State.runAgain_only {Fm : Nat} {s0 : State} (g : FGrain) (st : Strip) (fe : Nat) (r : Role) {s : State} (hF : Inside 83886080 Fm) (hK : Only Fm s0 s) :
    Only Fm s0 (State.runAgain g st fe r s) := by
  unfold State.runAgain
  with_reducible repeat' first
    | assumption | intro _ | apply State.modFe_only | (fail_if_no_progress refine Only.set_nextGrain (hF.bit (by decide)) ?_)
    | dsimp only | split
  all_goals first | exact hF.sub rfl | exact hF.bit rfl

theorem State.sampleStrip_only {Fm : Nat} {s0 : State} (f : Nat) (g : FGrain) (o : Op) (st : Strip) {s : State} (hF : Inside 8796713779216 Fm) (hK : Only Fm s0 s) :
    Only Fm s0 (State.sampleStrip f g o st s) := by
  unfold State.sampleStrip
  with_reducible repeat' first
    | assumption | intro _ | apply Only.ite | apply State.tickFree_only | apply State.cntBar_only | apply State.modFgrain_only
    | apply State.runAgain_only | (fail_if_no_progress refine Only.set_dups (hF.bit (by decide)) ?_) | dsimp only | split
  all_goals first | exact hF.sub rfl | exact hF.bit rfl

theorem State.noteTag_only {Fm : Nat} {s0 : State} (f : Nat) (g : FGrain) (blocks : List Nat) {s : State} (hF : Inside 67108864 Fm) (hK : Only Fm s0 s) :
    Only Fm s0 (State.noteTag f g blocks s) := by
  unfold State.noteTag
  with_reducible repeat' first
    | assumption | intro _ | apply State.modFgrain_only | dsimp only | split
  all_goals first | exact hF.sub rfl | exact hF.bit rfl

theorem State.beginStrip_only {Fm : Nat} {s0 : State} (f : Nat) (g : FGrain) (st : Strip) (blocks : List Nat) {s : State} (hF : Inside 8796713779216 Fm) (hK : Only Fm s0 s) :
    Only Fm s0 (State.beginStrip f g st blocks s) := by
  unfold State.beginStrip
  with_reducible repeat' first
    | assumption | intro _ | apply Only.ite | apply State.noteTag_only | apply State.sampleStrip_only | dsimp only | split
  all_goals first | exact hF.sub rfl | exact hF.bit rfl

theorem State.runTile_only {Fm : Nat} {s0 : State} (fe : Nat) (t : Tile) {s : State} (hF : Inside 67108864 Fm) (hK : Only Fm s0 s) :
    Only Fm s0 (State.runTile fe t s) := by
  unfold State.runTile
  with_reducible repeat' first
    | assumption | intro _ | apply State.modFe_only | dsimp only | split
  all_goals first | exact hF.sub rfl | exact hF.bit rfl

theorem State.startTile_only {Fm : Nat} {s0 : State} (fe : Nat) (g : FGrain) {s : State} (hF : Inside 12198328534544 Fm) (hK : Only Fm s0 s) :
    Only Fm s0 (State.startTile fe g s) := by
  unfold State.startTile
  with_reducible repeat' first
    | assumption | intro _ | apply State.modFgrain_only | apply State.beginStrip_only | apply State.actRows_only
    | apply State.runTile_only | apply State.tileRows_only | apply State.modFe_only | dsimp only | split
    | (refine Only.snd (by assumption) ?_) | (refine Only.snd2 (by assumption) ?_)
  all_goals first | exact hF.sub rfl | exact hF.bit rfl

theorem State.stopGrains_only {Fm : Nat} {s0 : State} (fe : Nat) {s : State} (hF : Inside 34426847232 Fm) (hK : Only Fm s0 s) :
    Only Fm s0 (State.stopGrains fe s) := by
  unfold State.stopGrains
  with_reducible repeat' first
    | assumption | intro _ | apply Only.forAll | apply State.endFgrain_only | dsimp only | split
  all_goals first | exact hF.sub rfl | exact hF.bit rfl

theorem execTileStart_only {Fm : Nat} {s0 : State} (fe : BitVec 4) {s : State} (hF : Inside 16616777287312 Fm) (hK : Only Fm s0 s) :
    Answers (Only Fm s0) (execTileStart fe s) := by
  unfold execTileStart
  with_reducible repeat' first
    | assumption | intro _ | apply Answers.next | apply Answers.ite | apply Only.forAll | apply State.stopGrains_only
    | apply State.fetchAhead_only | apply State.markReady_only | apply State.countWaits_only | apply State.startBanks_only
    | apply State.startTile_only | dsimp only | split
  all_goals first | exact hF.sub rfl | exact hF.bit rfl

theorem execStagingFillDone_only {Fm : Nat} {s0 : State} (fe : BitVec 4) (plot : PlotNo) (block : BitVec 4) {s : State} (hF : Inside 16616223639184 Fm) (hK : Only Fm s0 s) :
    Answers (Only Fm s0) (execStagingFillDone fe plot block s) := by
  unfold execStagingFillDone
  with_reducible repeat' first
    | assumption | intro _ | apply Answers.next | apply Only.forAll | apply State.sendSnoop_only | apply State.fillDone_only
    | apply State.settle_only | apply State.markReady_only | apply State.modFgrain_only | apply State.cntStw_only | dsimp only
    | split | (refine Only.snd (by assumption) ?_)
  all_goals first | exact hF.sub rfl | exact hF.bit rfl

/-! Machine/Engines.lean. -/

theorem State.fenceRec_only {Fm : Nat} {s0 : State} (unit cause : Nat) (fenced : Bool) {s : State} (hF : Inside 3367254885904 Fm) (hK : Only Fm s0 s) :
    Only Fm s0 (State.fenceRec unit cause fenced s) := by
  unfold State.fenceRec
  with_reducible repeat' first
    | assumption | intro _ | apply Only.ite | apply State.logRec_only | apply State.fmHealth_only | dsimp only | split
  all_goals first | exact hF.sub rfl | exact hF.bit rfl

theorem State.releaseStrip_only {Fm : Nat} {s0 : State} (f id : Nat) (o : Op) (st : Strip) (l : List OutBlk) {s : State} (hF : Inside 34695282688 Fm) (hK : Only Fm s0 s) :
    Only Fm s0 (State.releaseStrip f id o st l s) := by
  unfold State.releaseStrip
  with_reducible repeat' first
    | assumption | intro _ | apply Only.ite | apply State.modXjob_only | apply State.endFgrain_only | apply State.cstFresh_only
    | apply State.modFgrain_only | dsimp only | split
  all_goals first | exact hF.sub rfl | exact hF.bit rfl

theorem State.modDup_only {Fm : Nat} {s0 : State} (i : Nat) (f : Dup → Dup) {s : State} (hF : Inside 536870912 Fm) (hK : Only Fm s0 s) :
    Only Fm s0 (State.modDup i f s) := by
  unfold State.modDup
  with_reducible repeat' first
    | assumption | intro _ | (fail_if_no_progress refine Only.set_dups (hF.bit (by decide)) ?_) | dsimp only | split
  all_goals first | exact hF.sub rfl | exact hF.bit rfl

theorem State.dropDup_only {Fm : Nat} {s0 : State} (i : Nat) {s : State} (hF : Inside 536870912 Fm) (hK : Only Fm s0 s) :
    Only Fm s0 (State.dropDup i s) := by
  unfold State.dropDup
  with_reducible repeat' first
    | assumption | intro _ | (fail_if_no_progress refine Only.set_dups (hF.bit (by decide)) ?_) | dsimp only | split
  all_goals first | exact hF.sub rfl | exact hF.bit rfl

theorem State.dupRelease_only {Fm : Nat} {s0 : State} (d : Dup) (o : Op) {s : State} (hF : Inside 35232153600 Fm) (hK : Only Fm s0 s) :
    Only Fm s0 (State.dupRelease d o s) := by
  unfold State.dupRelease
  with_reducible repeat' first
    | assumption | intro _ | apply State.dropDup_only | apply State.modFgrain_only | apply State.releaseStrip_only | dsimp only
    | split
  all_goals first | exact hF.sub rfl | exact hF.bit rfl

theorem State.settleDup_only {Fm : Nat} {s0 : State} (fence : Nat → Nat → State → State) (d : Dup) (out3 : Option (List OutBlk)) {s : State} (hf : ∀ a b t, Only Fm s0 t → Only Fm s0 (fence a b t)) (hF : Inside 2268281177616 Fm) (hK : Only Fm s0 s) :
    Only Fm s0 (State.settleDup fence d out3 s) := by
  unfold State.settleDup
  with_reducible repeat' first
    | assumption | intro _ | apply Only.ite | apply State.dropDup_only | apply State.cntBar_only | apply State.failOp_only
    | apply State.logRec_only | apply hf | dsimp only | split
  all_goals first | exact hF.sub rfl | exact hF.bit rfl

theorem State.thirdRun_only {Fm : Nat} {s0 : State} (fence : Nat → Nat → State → State) (d : Dup) {s : State} (hf : ∀ a b t, Only Fm s0 t → Only Fm s0 (fence a b t)) (hF : Inside 2268365063696 Fm) (hK : Only Fm s0 s) :
    Only Fm s0 (State.thirdRun fence d s) := by
  unfold State.thirdRun
  with_reducible repeat' first
    | assumption | intro _ | apply State.modDup_only | apply State.runAgain_only | apply State.settleDup_only | apply hf
    | dsimp only | split
  all_goals first | exact hF.sub rfl | exact hF.bit rfl

theorem State.requeue_only {Fm : Nat} {s0 : State} (g : FGrain) {s : State} (hF : Inside 34964766720 Fm) (hK : Only Fm s0 s) :
    Only Fm s0 (State.requeue g s) := by
  unfold State.requeue
  with_reducible repeat' first
    | assumption | intro _ | apply Only.ite | apply Only.forAll | apply State.returnBank_only | apply State.failOp_only
    | apply State.modFe_only | (fail_if_no_progress refine Only.set_dups (hF.bit (by decide)) ?_) | dsimp only | split
  all_goals first | exact hF.sub rfl | exact hF.bit rfl

theorem State.lostChecker_only {Fm : Nat} {s0 : State} (i : Nat) {s : State} (hF : Inside 35248930832 Fm) (hK : Only Fm s0 s) :
    Only Fm s0 (State.lostChecker i s) := by
  unfold State.lostChecker
  with_reducible repeat' first
    | assumption | intro _ | apply State.modDup_only | apply State.runAgain_only | apply State.cntBar_only
    | apply State.dupRelease_only | apply State.dropDup_only | dsimp only | split
  all_goals first | exact hF.sub rfl | exact hF.bit rfl

theorem State.fenceN_only {Fm : Nat} {s0 : State} (hF : Inside 7800551474832 Fm) : ∀ (rest_ : Nat) (y0 : Nat) (y1 : Nat) (y2 : Bool) {s : State}, Only Fm s0 s →
    Only Fm s0 (State.fenceN rest_ y0 y1 y2 s) := by
  intro rest_
  induction rest_ with
  | zero =>
    intro y0 y1 y2 s hK
    unfold State.fenceN
    with_reducible repeat' first
      | assumption | intro _ | apply Only.forAll | apply State.setFe_only | apply State.farDrop_only | apply State.fenceRec_only
      | apply State.requeue_only | apply State.lostChecker_only | apply State.thirdRun_only | apply State.settle_only
      | dsimp only | split
    all_goals first | exact hF.sub rfl | exact hF.bit rfl
  | succ n ih =>
    intro y0 y1 y2 s hK
    unfold State.fenceN
    with_reducible repeat' first
      | assumption | apply ih | intro _ | apply Only.forAll | apply State.setFe_only | apply State.farDrop_only
      | apply State.fenceRec_only | apply State.requeue_only | apply State.lostChecker_only | apply State.thirdRun_only
      | apply State.settle_only | dsimp only | split
    all_goals first | exact hF.sub rfl | exact hF.bit rfl

theorem State.fenceFe_only {Fm : Nat} {s0 : State} (f cause : Nat) (cmd : Bool) {s : State} (hF : Inside 7800551474832 Fm) (hK : Only Fm s0 s) :
    Only Fm s0 (State.fenceFe f cause cmd s) := by
  unfold State.fenceFe
  with_reducible repeat' first
    | assumption | intro _ | apply State.fenceN_only | dsimp only | split
  all_goals first | exact hF.sub rfl | exact hF.bit rfl

theorem State.fenceDup_only {Fm : Nat} {s0 : State} (f cause : Nat) {s : State} (hF : Inside 7800551474832 Fm) (hK : Only Fm s0 s) :
    Only Fm s0 (State.fenceDup f cause s) := by
  unfold State.fenceDup
  with_reducible repeat' first
    | assumption | intro _ | apply State.fenceFe_only | dsimp only | split
  all_goals first | exact hF.sub rfl | exact hF.bit rfl

theorem State.dupStep_only {Fm : Nat} {s0 : State} (i : Nat) {s : State} (hF : Inside 7800551474832 Fm) (hK : Only Fm s0 s) :
    Only Fm s0 (State.dupStep i s) := by
  unfold State.dupStep
  with_reducible repeat' first
    | assumption | intro _ | apply Only.ite | apply State.cntBar_only | apply State.dupRelease_only | apply State.thirdRun_only
    | apply State.fenceDup_only | dsimp only | split
  all_goals first | exact hF.sub rfl | exact hF.bit rfl

theorem State.stripEnd_only {Fm : Nat} {s0 : State} (f : Nat) (g : FGrain) (o : Op) (st : Strip) (a0 a1 : List (List W32)) {s : State} (hF : Inside 7800551474832 Fm) (hK : Only Fm s0 s) :
    Only Fm s0 (State.stripEnd f g o st a0 a1 s) := by
  unfold State.stripEnd
  with_reducible repeat' first
    | assumption | intro _ | apply State.countCnts_only | apply State.modFgrain_only | apply State.releaseStrip_only
    | apply State.modDup_only | apply State.dupStep_only | apply State.endFgrain_only | apply State.settleDup_only
    | apply State.fenceDup_only | dsimp only | split
  all_goals first | exact hF.sub rfl | exact hF.bit rfl

theorem State.tileEnd_only {Fm : Nat} {s0 : State} (f : Nat) (wrong : List (BitVec 12 × W32)) {s : State} (hF : Inside 7800551474832 Fm) (hK : Only Fm s0 s) :
    Only Fm s0 (State.tileEnd f wrong s) := by
  unfold State.tileEnd
  with_reducible repeat' first
    | assumption | intro _ | apply Only.ite | apply State.modFe_only | apply State.stopGrains_only | apply State.failOp_only
    | apply State.modFgrain_only | apply State.stripEnd_only | apply State.endFgrain_only | dsimp only | split
  all_goals first | exact hF.sub rfl | exact hF.bit rfl

theorem execTileEnd_only {Fm : Nat} {s0 : State} (fe : BitVec 4) (wrong : List (BitVec 12 × W32)) {s : State} (hF : Inside 7800551474832 Fm) (hK : Only Fm s0 s) :
    Answers (Only Fm s0) (execTileEnd fe wrong s) := by
  unfold execTileEnd
  with_reducible repeat' first
    | assumption | intro _ | apply Answers.next | apply State.tileEnd_only | apply State.markReady_only | dsimp only | split
  all_goals first | exact hF.sub rfl | exact hF.bit rfl

theorem State.fenceStatus_only {Fm : Nat} {s0 : State} (stat : Nat) (st : Status) {s : State} (hF : Inside 16 Fm) (hK : Only Fm s0 s) :
    Only Fm s0 (State.fenceStatus stat st s) := by
  unfold State.fenceStatus
  with_reducible repeat' first
    | assumption | intro _ | apply State.modStw_only | dsimp only | split
  all_goals first | exact hF.sub rfl | exact hF.bit rfl

theorem State.fenceBusy_only {Fm : Nat} {s0 : State} (stat : Nat) {s : State} (hF : Inside 16 Fm) (hK : Only Fm s0 s) :
    Only Fm s0 (State.fenceBusy stat s) := by
  unfold State.fenceBusy
  with_reducible repeat' first
    | assumption | intro _ | apply State.setStw_only | dsimp only | split
  all_goals first | exact hF.sub rfl | exact hF.bit rfl

theorem State.fenceIdle_only {Fm : Nat} {s0 : State} (stat : Nat) (cmd : Bool) {s : State} (hF : Inside 16 Fm) (hK : Only Fm s0 s) :
    Only Fm s0 (State.fenceIdle stat cmd s) := by
  unfold State.fenceIdle
  with_reducible repeat' first
    | assumption | intro _ | apply Only.ite | apply State.setStw_only | dsimp only | split
  all_goals first | exact hF.sub rfl | exact hF.bit rfl

theorem execEngineFence_only {Fm : Nat} {s0 : State} (fe : BitVec 4) (c : FenceCause) {s : State} (hF : Inside 7800551474832 Fm) (hK : Only Fm s0 s) :
    Answers (Only Fm s0) (execEngineFence fe c s) := by
  unfold execEngineFence
  with_reducible repeat' first
    | assumption | intro _ | apply Answers.next | apply Only.ite | apply State.fenceFe_only | apply State.fenceBusy_only
    | apply State.fenceStatus_only | dsimp only | split
  all_goals first | exact hF.sub rfl | exact hF.bit rfl

theorem execEngineFenced_only {Fm : Nat} {s0 : State} (fe : BitVec 4) {s : State} (hF : Inside 67108880 Fm) (hK : Only Fm s0 s) :
    Answers (Only Fm s0) (execEngineFenced fe s) := by
  unfold execEngineFenced
  with_reducible repeat' first
    | assumption | intro _ | apply Answers.next | apply Answers.ite | apply State.modFe_only | apply State.fenceIdle_only
    | dsimp only | split
  all_goals first | exact hF.sub rfl | exact hF.bit rfl

theorem execEngineBist_only {Fm : Nat} {s0 : State} (fe : BitVec 4) {s : State} (hF : Inside 68786585616 Fm) (hK : Only Fm s0 s) :
    Answers (Only Fm s0) (execEngineBist fe s) := by
  unfold execEngineBist
  with_reducible repeat' first
    | assumption | intro _ | apply Answers.next | apply State.modFe_only | apply State.fenceBusy_only
    | apply State.maintAsk_only | apply State.fenceStatus_only | dsimp only | split
  all_goals first | exact hF.sub rfl | exact hF.bit rfl

theorem execEngineBistDone_only {Fm : Nat} {s0 : State} (fe : BitVec 4) (pass : Bool) {s : State} (hF : Inside 68786585616 Fm) (hK : Only Fm s0 s) :
    Answers (Only Fm s0) (execEngineBistDone fe pass s) := by
  unfold execEngineBistDone
  with_reducible repeat' first
    | assumption | intro _ | apply Answers.next | apply Answers.ite | apply State.modFe_only | apply State.fenceIdle_only
    | apply State.maintEnd_only | dsimp only | split
  all_goals first | exact hF.sub rfl | exact hF.bit rfl

theorem execEngineReturn_only {Fm : Nat} {s0 : State} (fe : BitVec 4) {s : State} (hF : Inside 3367321994768 Fm) (hK : Only Fm s0 s) :
    Answers (Only Fm s0) (execEngineReturn fe s) := by
  unfold execEngineReturn
  with_reducible repeat' first
    | assumption | intro _ | apply Answers.next | apply State.modFe_only | apply State.fenceStatus_only
    | apply State.fenceRec_only | dsimp only | split
  all_goals first | exact hF.sub rfl | exact hF.bit rfl

/-! Machine/Tender.lean. -/

theorem execRunProgram_only {Fm : Nat} {s0 : State} (op : Nat) {s : State} (hF : Inside 34364981248 Fm) (hK : Only Fm s0 s) :
    Answers (Only Fm s0) (execRunProgram op s) := by
  unfold execRunProgram
  with_reducible repeat' first
    | assumption | intro _ | apply Answers.next | apply Only.ite | apply State.withOp_only | apply State.opDone_only
    | apply State.startJob_only | dsimp only | split
  all_goals first | exact hF.sub rfl | exact hF.bit rfl

theorem execGrainCreate_only {Fm : Nat} {s0 : State} (job : Nat) {s : State} (hF : Inside 6700179949200 Fm) (hK : Only Fm s0 s) :
    Answers (Only Fm s0) (execGrainCreate job s) := by
  unfold execGrainCreate
  with_reducible repeat' first
    | assumption | intro _ | apply Answers.next | apply Answers.ite | apply Only.ite | apply State.stopJob_only
    | apply State.modJob_only | apply State.faultGrain_only
    | (fail_if_no_progress refine Only.set_grains_nextGrain (hF.bit (by decide)) (hF.bit (by decide)) ?_) | dsimp only | split
  all_goals first | exact hF.sub rfl | exact hF.bit rfl

theorem execGrainDispatch_only {Fm : Nat} {s0 : State} (core : BitVec 6) {s : State} (hF : Inside 142606336 Fm) (hK : Only Fm s0 s) :
    Answers (Only Fm s0) (execGrainDispatch core s) := by
  unfold execGrainDispatch
  with_reducible repeat' first
    | assumption | intro _ | apply Answers.next | apply Answers.ite | apply State.modGrain_only | apply State.modTc_only
    | dsimp only | split
  all_goals first | exact hF.sub rfl | exact hF.bit rfl

theorem State.yieldAt_only {Fm : Nat} {s0 : State} (g : Grain) {s : State} (hF : Inside 34373369856 Fm) (hK : Only Fm s0 s) :
    Only Fm s0 (State.yieldAt g s) := by
  unfold State.yieldAt
  with_reducible repeat' first
    | assumption | intro _ | apply Only.ite | apply State.endGrain_only | apply State.modGrain_only | dsimp only | split
  all_goals first | exact hF.sub rfl | exact hF.bit rfl

theorem execGrainForcedYield_only {Fm : Nat} {s0 : State} (g : Nat) {s : State} (hF : Inside 34373369856 Fm) (hK : Only Fm s0 s) :
    Answers (Only Fm s0) (execGrainForcedYield g s) := by
  unfold execGrainForcedYield
  with_reducible repeat' first
    | assumption | intro _ | apply Answers.next | apply Only.ite | apply State.yieldAt_only | dsimp only | split
  all_goals first | exact hF.sub rfl | exact hF.bit rfl

theorem execGrainWake_only {Fm : Nat} {s0 : State} (g : Nat) {s : State} (hF : Inside 8388608 Fm) (hK : Only Fm s0 s) :
    Answers (Only Fm s0) (execGrainWake g s) := by
  unfold execGrainWake
  with_reducible repeat' first
    | assumption | intro _ | apply Answers.next | apply Only.ite | apply State.modGrain_only | dsimp only | split
  all_goals first | exact hF.sub rfl | exact hF.bit rfl

theorem execGrainLimitExceeded_only {Fm : Nat} {s0 : State} (g : Nat) {s : State} (hF : Inside 6700163171984 Fm) (hK : Only Fm s0 s) :
    Answers (Only Fm s0) (execGrainLimitExceeded g s) := by
  unfold execGrainLimitExceeded
  with_reducible repeat' first
    | assumption | intro _ | apply Answers.next | apply Only.ite | apply State.faultGrain_only | dsimp only | split
  all_goals first | exact hF.sub rfl | exact hF.bit rfl

theorem State.fencedGrain_only {Fm : Nat} {s0 : State} (g : Grain) {s : State} (hF : Inside 6700163171984 Fm) (hK : Only Fm s0 s) :
    Only Fm s0 (State.fencedGrain g s) := by
  unfold State.fencedGrain
  with_reducible repeat' first
    | assumption | intro _ | apply Only.ite | apply State.faultGrain_only | apply State.endGrain_only
    | apply State.modGrain_only | dsimp only | split
  all_goals first | exact hF.sub rfl | exact hF.bit rfl

theorem State.boundGrain_only {Fm : Nat} {s0 : State} (g : Grain) {s : State} (hF : Inside 6700163171984 Fm) (hK : Only Fm s0 s) :
    Only Fm s0 (State.boundGrain g s) := by
  unfold State.boundGrain
  with_reducible repeat' first
    | assumption | intro _ | apply Only.ite | apply State.modGrain_only | apply State.faultGrain_only | dsimp only | split
  all_goals first | exact hF.sub rfl | exact hF.bit rfl

theorem State.fenceTc_only {Fm : Nat} {s0 : State} (c cause : Nat) (cmd : Bool) {s : State} (hF : Inside 7799809017488 Fm) (hK : Only Fm s0 s) :
    Only Fm s0 (State.fenceTc c cause cmd s) := by
  unfold State.fenceTc
  with_reducible repeat' first
    | assumption | intro _ | apply Only.forAll | apply State.setTc_only | apply State.fenceRec_only
    | apply State.fencedGrain_only | apply State.boundGrain_only | dsimp only | split
  all_goals first | exact hF.sub rfl | exact hF.bit rfl

theorem execCoreFence_only {Fm : Nat} {s0 : State} (tc : BitVec 6) (c : FenceCause) {s : State} (hF : Inside 7799809017488 Fm) (hK : Only Fm s0 s) :
    Answers (Only Fm s0) (execCoreFence tc c s) := by
  unfold execCoreFence
  with_reducible repeat' first
    | assumption | intro _ | apply Answers.next | apply Only.ite | apply State.fenceTc_only | apply State.fenceBusy_only
    | apply State.fenceStatus_only | dsimp only | split
  all_goals first | exact hF.sub rfl | exact hF.bit rfl

theorem execCoreFenced_only {Fm : Nat} {s0 : State} (tc : BitVec 6) {s : State} (hF : Inside 134217744 Fm) (hK : Only Fm s0 s) :
    Answers (Only Fm s0) (execCoreFenced tc s) := by
  unfold execCoreFenced
  with_reducible repeat' first
    | assumption | intro _ | apply Answers.next | apply Only.ite | apply State.setTc_only | apply State.fenceIdle_only
    | dsimp only | split
  all_goals first | exact hF.sub rfl | exact hF.bit rfl

theorem execCoreBist_only {Fm : Nat} {s0 : State} (tc : BitVec 6) {s : State} (hF : Inside 68853694480 Fm) (hK : Only Fm s0 s) :
    Answers (Only Fm s0) (execCoreBist tc s) := by
  unfold execCoreBist
  with_reducible repeat' first
    | assumption | intro _ | apply Answers.next | apply State.setTc_only | apply State.fenceBusy_only
    | apply State.maintAsk_only | apply State.fenceStatus_only | dsimp only | split
  all_goals first | exact hF.sub rfl | exact hF.bit rfl

theorem execCoreBistDone_only {Fm : Nat} {s0 : State} (tc : BitVec 6) (pass : Bool) {s : State} (hF : Inside 68853694480 Fm) (hK : Only Fm s0 s) :
    Answers (Only Fm s0) (execCoreBistDone tc pass s) := by
  unfold execCoreBistDone
  with_reducible repeat' first
    | assumption | intro _ | apply Answers.next | apply Only.ite | apply State.setTc_only | apply State.fenceIdle_only
    | apply State.maintEnd_only | dsimp only | split
  all_goals first | exact hF.sub rfl | exact hF.bit rfl

theorem execCoreReturn_only {Fm : Nat} {s0 : State} (tc : BitVec 6) {s : State} (hF : Inside 3367389103632 Fm) (hK : Only Fm s0 s) :
    Answers (Only Fm s0) (execCoreReturn tc s) := by
  unfold execCoreReturn
  with_reducible repeat' first
    | assumption | intro _ | apply Answers.next | apply State.setTc_only | apply State.fenceStatus_only
    | apply State.fenceRec_only | dsimp only | split
  all_goals first | exact hF.sub rfl | exact hF.bit rfl

theorem execFieldTestStart_only {Fm : Nat} {s0 : State} (u : TestUnit) {s : State} (hF : Inside 201326592 Fm) (hK : Only Fm s0 s) :
    Answers (Only Fm s0) (execFieldTestStart u s) := by
  unfold execFieldTestStart
  with_reducible repeat' first
    | assumption | intro _ | apply Answers.next | apply Answers.ite | apply Only.ite | apply State.modFe_only
    | apply State.modTc_only | dsimp only | split
  all_goals first | exact hF.sub rfl | exact hF.bit rfl

theorem State.countTest_only {Fm : Nat} {s0 : State} (pass : Bool) {s : State} (hF : Inside 16 Fm) (hK : Only Fm s0 s) :
    Only Fm s0 (State.countTest pass s) := by
  unfold State.countTest
  with_reducible repeat' first
    | assumption | intro _ | apply Only.ite | apply State.cntStw_only | dsimp only | split
  all_goals first | exact hF.sub rfl | exact hF.bit rfl

theorem execFieldTestDone_only {Fm : Nat} {s0 : State} (u : TestUnit) (pass : Bool) {s : State} (hF : Inside 7800698275472 Fm) (hK : Only Fm s0 s) :
    Answers (Only Fm s0) (execFieldTestDone u pass s) := by
  unfold execFieldTestDone
  with_reducible repeat' first
    | assumption | intro _ | apply Answers.next | apply Answers.ite | apply Only.ite | apply State.modFe_only
    | apply State.countTest_only | apply State.fenceFe_only | apply State.modTc_only | apply State.fenceTc_only | dsimp only
    | split
  all_goals first | exact hF.sub rfl | exact hF.bit rfl

theorem kernelWork_only {Fm : Nat} {s0 : State} (o : Op) (n : Nat) (block : Nat → Work Unit) {s : State} (hb : ∀ k t, Only Fm s0 t → Leaves (Only Fm s0) (block k) t) (hF : Inside 0 Fm) (hK : Only Fm s0 s) :
    Leaves (Only Fm s0) (kernelWork o n block) s := by
  unfold kernelWork
  with_reducible repeat' first
    | assumption | intro _ | apply Leaves.bind | apply Leaves.pure | apply Leaves.throw | apply Leaves.forM_ | apply Leaves.try_
    | apply hb | dsimp only | split
  all_goals first | exact hF.sub rfl | exact hF.bit rfl

theorem Acc.plain_only {Fm : Nat} {s0 : State} (u : Acc) (code ua lo n : Nat) {s : State} (hF : Inside 16581863900816 Fm) (hK : Only Fm s0 s) :
    Leaves (Only Fm s0) (Acc.plain u code ua lo n) s := by
  unfold Acc.plain
  with_reducible repeat' first
    | assumption | intro _ | apply Leaves.bind | apply Leaves.pure | apply Acc.bytes_only | dsimp only | split
  all_goals first | exact hF.sub rfl | exact hF.bit rfl

theorem execQuant_only {Fm : Nat} {s0 : State} (op : Nat) {s : State} (hF : Inside 16616252999312 Fm) (hK : Only Fm s0 s) :
    Answers (Only Fm s0) (execQuant op s) := by
  unfold execQuant
  with_reducible repeat' first
    | assumption | intro _ | apply Answers.next | apply Leaves.bind | apply State.withOp_only | apply State.kernel_only
    | apply kernelWork_only | apply Acc.plain_only | apply Acc.putBlock_only | dsimp only | split
  all_goals first | exact hF.sub rfl | exact hF.bit rfl

theorem execGateact_only {Fm : Nat} {s0 : State} (op : Nat) {s : State} (hF : Inside 16616252999312 Fm) (hK : Only Fm s0 s) :
    Answers (Only Fm s0) (execGateact op s) := by
  unfold execGateact
  with_reducible repeat' first
    | assumption | intro _ | apply Answers.next | apply Leaves.bind | apply Leaves.pure | apply Leaves.ite
    | apply State.withOp_only | apply State.kernel_only | apply kernelWork_only | apply Acc.plain_only | apply Acc.putBlock_only
    | dsimp only | split
  all_goals first | exact hF.sub rfl | exact hF.bit rfl

theorem execProgramOldDiscard_only {Fm : Nat} {s0 : State} (slot : BitVec 10) {s : State} (hF : Inside 33554432 Fm) (hK : Only Fm s0 s) :
    Answers (Only Fm s0) (execProgramOldDiscard slot s) := by
  unfold execProgramOldDiscard
  with_reducible repeat' first
    | assumption | intro _ | apply Answers.next | apply Only.ite | apply State.setPslot_only | dsimp only | split
  all_goals first | exact hF.sub rfl | exact hF.bit rfl

theorem State.pcmdStatus_only {Fm : Nat} {s0 : State} (st : Status) {s : State} (hF : Inside 16 Fm) (hK : Only Fm s0 s) :
    Only Fm s0 (State.pcmdStatus st s) := by
  unfold State.pcmdStatus
  with_reducible repeat' first
    | assumption | intro _ | apply State.modStw_only | dsimp only | split
  all_goals first | exact hF.sub rfl | exact hF.bit rfl

theorem execProgramSlotUnload_only {Fm : Nat} {s0 : State} {s : State} (hF : Inside 37748752 Fm) (hK : Only Fm s0 s) :
    Answers (Only Fm s0) (execProgramSlotUnload s) := by
  unfold execProgramSlotUnload
  with_reducible repeat' first
    | assumption | intro _ | apply Answers.next | apply State.replaceProg_only | apply State.pcmdStatus_only | dsimp only
    | split
  all_goals first | exact hF.sub rfl | exact hF.bit rfl

theorem execProgramSlotOwner_only {Fm : Nat} {s0 : State} (t : Tenant) {s : State} (hF : Inside 33554448 Fm) (hK : Only Fm s0 s) :
    Answers (Only Fm s0) (execProgramSlotOwner t s) := by
  unfold execProgramSlotOwner
  with_reducible repeat' first
    | assumption | intro _ | apply Answers.next | apply State.modPslot_only | apply State.pcmdStatus_only | dsimp only | split
  all_goals first | exact hF.sub rfl | exact hF.bit rfl

theorem execTndPcmdReserved_only {Fm : Nat} {s0 : State} {s : State} (hF : Inside 16 Fm) (hK : Only Fm s0 s) :
    Answers (Only Fm s0) (execTndPcmdReserved s) := by
  unfold execTndPcmdReserved
  with_reducible repeat' first
    | assumption | intro _ | apply Answers.next | apply State.pcmdStatus_only | dsimp only | split
  all_goals first | exact hF.sub rfl | exact hF.bit rfl

/-! Machine/GrainMem.lean. -/

theorem spnFault_only {Fm : Nat} {s0 : State} {α : Type} (code : Nat) (c : Status) {s : State} (hK : Only Fm s0 s) :
    Leaves (Only Fm s0) (spnFault code c : Work α) s := Leaves.throw hK

theorem spnRead_only {Fm : Nat} {s0 : State} {α : Type} (m : Work α) {s : State} (hm : ∀ t, Only Fm s0 t → Leaves (Only Fm s0) m t) (hF : Inside 0 Fm) (hK : Only Fm s0 s) :
    Leaves (Only Fm s0) (spnRead m) s := by
  unfold spnRead
  with_reducible repeat' first
    | assumption | intro _ | apply Leaves.bind | apply Leaves.pure | apply Leaves.try_ | apply spnFault_only | apply hm
    | dsimp only | split
  all_goals first | exact hF.sub rfl | exact hF.bit rfl

theorem spnWrite_only {Fm : Nat} {s0 : State} {α : Type} (m : Work α) {s : State} (hm : ∀ t, Only Fm s0 t → Leaves (Only Fm s0) m t) (hF : Inside 0 Fm) (hK : Only Fm s0 s) :
    Leaves (Only Fm s0) (spnWrite m) s := by
  unfold spnWrite
  with_reducible repeat' first
    | assumption | intro _ | apply Leaves.bind | apply Leaves.pure | apply Leaves.try_ | apply spnFault_only | apply hm
    | dsimp only | split
  all_goals first | exact hF.sub rfl | exact hF.bit rfl

theorem bankUp_only {Fm : Nat} {s0 : State} (b : Nat) {s : State} (hF : Inside 0 Fm) (hK : Only Fm s0 s) :
    Leaves (Only Fm s0) (bankUp b) s := by
  unfold bankUp
  with_reducible repeat' first
    | assumption | intro _ | apply Leaves.get_bind | apply Leaves.pure | apply Leaves.wait | apply Leaves.ite | dsimp only
    | split
  all_goals first | exact hF.sub rfl | exact hF.bit rfl

theorem Grain.loadAt_only {Fm : Nat} {s0 : State} (g : Grain) (j : Job) (p : Place) (n : Nat) (active : Nat → Bool) {s : State} (hF : Inside 16616223639184 Fm) (hK : Only Fm s0 s) :
    Leaves (Only Fm s0) (Grain.loadAt g j p n active) s := by
  unfold Grain.loadAt
  with_reducible repeat' first
    | assumption | intro _ | apply Leaves.get_bind | apply Leaves.bind | apply Leaves.pure | apply Leaves.set_
    | apply Leaves.ite | apply Leaves.forM_ | apply Leaves.mapM_ | apply spnFault_only | apply spnRead_only
    | apply Acc.bytes_only | apply bankUp_only | apply State.cstRead_only | dsimp only | split
    | (refine Only.snd (by assumption) ?_)
  all_goals first | exact hF.sub rfl | exact hF.bit rfl

theorem Grain.storeLine_only {Fm : Nat} {s0 : State} (g : Grain) (j : Job) (a : Nat) (b : List Byte) (active : Nat → Bool) (l : Nat) {s : State} (hF : Inside 16581863900816 Fm) (hK : Only Fm s0 s) :
    Leaves (Only Fm s0) (Grain.storeLine g j a b active l) s := by
  unfold Grain.storeLine
  with_reducible repeat' first
    | assumption | intro _ | apply Leaves.pure | apply Leaves.ite | apply spnWrite_only | apply Acc.store_only | dsimp only
    | split
  all_goals first | exact hF.sub rfl | exact hF.bit rfl

theorem Grain.storeAt_only {Fm : Nat} {s0 : State} (g : Grain) (j : Job) (p : Place) (b : List Byte) (active : Nat → Bool) {s : State} (hF : Inside 16616223639184 Fm) (hK : Only Fm s0 s) :
    Leaves (Only Fm s0) (Grain.storeAt g j p b active) s := by
  unfold Grain.storeAt
  with_reducible repeat' first
    | assumption | intro _ | apply Leaves.bind | apply Leaves.pure | apply Leaves.modify_ | apply Leaves.ite
    | apply Leaves.forM_ | apply spnFault_only | apply Grain.storeLine_only | apply bankUp_only | apply State.wordWrite_only
    | apply State.modCst_only | dsimp only | split
  all_goals first | exact hF.sub rfl | exact hF.bit rfl

theorem Grain.load_only {Fm : Nat} {s0 : State} (g : Grain) (j : Job) (a : W64) (n : Nat) {s : State} (hF : Inside 16616223639184 Fm) (hK : Only Fm s0 s) :
    Leaves (Only Fm s0) (Grain.load g j a n) s := by
  unfold Grain.load
  with_reducible repeat' first
    | assumption | intro _ | apply Grain.loadAt_only | apply spnFault_only | dsimp only | split
  all_goals first | exact hF.sub rfl | exact hF.bit rfl

theorem Grain.store_only {Fm : Nat} {s0 : State} (g : Grain) (j : Job) (a : W64) (b : List Byte) (active : Nat → Bool) {s : State} (hF : Inside 16616223639184 Fm) (hK : Only Fm s0 s) :
    Leaves (Only Fm s0) (Grain.store g j a b active) s := by
  unfold Grain.store
  with_reducible repeat' first
    | assumption | intro _ | apply spnFault_only | apply Grain.storeAt_only | dsimp only | split
  all_goals first | exact hF.sub rfl | exact hF.bit rfl

theorem State.putGrain_only {Fm : Nat} {s0 : State} (g : Grain) {s : State} (hF : Inside 34373369856 Fm) (hK : Only Fm s0 s) :
    Only Fm s0 (State.putGrain g s) := by
  unfold State.putGrain
  with_reducible repeat' first
    | assumption | intro _ | apply Only.ite | apply State.modGrain_only | apply State.yieldAt_only | dsimp only | split
  all_goals first | exact hF.sub rfl | exact hF.bit rfl

theorem State.runGrain_only {Fm : Nat} {s0 : State} (g : Grain) (j : Job) (m : Work (Option Grain)) {s : State} (hm : ∀ t, Only Fm s0 t → Leaves (Only Fm s0) m t) (hF : Inside 16616236156560 Fm) (hK : Only Fm s0 s) :
    Only Fm s0 (State.runGrain g j m s) := by
  unfold State.runGrain
  with_reducible repeat' first
    | assumption | intro _ | apply Acc.ends_only | apply State.putGrain_only | apply State.endGrain_only
    | apply State.faultGrain_only | apply Acc.waits_only | apply hm | dsimp only | split
    | (refine Leaves.ok_ (by assumption) ?_) | (refine Leaves.error_ (by assumption) ?_)
  all_goals first | exact hF.sub rfl | exact hF.bit rfl

theorem State.spn_only {Fm : Nat} {s0 : State} (id : Nat) (c : SCls) (f : Grain → Job → W32 → Work (Option Grain)) {s : State} (hf : ∀ g j w t, Only Fm s0 t → Leaves (Only Fm s0) (f g j w) t) (hF : Inside 16616236156560 Fm) (hK : Only Fm s0 s) :
    Answers (Only Fm s0) (State.spn id c f s) := by
  unfold State.spn
  with_reducible repeat' first
    | assumption | intro _ | apply Answers.next | apply Answers.ite | apply State.faultGrain_only | apply State.runGrain_only
    | apply hf | dsimp only | split
  all_goals first | exact hF.sub rfl | exact hF.bit rfl

theorem State.spnRegs_only {Fm : Nat} {s0 : State} (id : Nat) (c : SCls) (f : Ctx → Nat → W32 → State → Ctx) {s : State} (hF : Inside 16616236156560 Fm) (hK : Only Fm s0 s) :
    Answers (Only Fm s0) (State.spnRegs id c f s) := by
  unfold State.spnRegs
  with_reducible repeat' first
    | assumption | intro _ | apply Leaves.get_bind | apply Leaves.bind | apply Leaves.pure | apply Leaves.set_
    | apply State.spn_only | apply State.tickFree_only | dsimp only | split
  all_goals first | exact hF.sub rfl | exact hF.bit rfl

/-! Machine/SpaernScalar.lean. -/

theorem execSpnAlu_only {Fm : Nat} {s0 : State} (g : Nat) {s : State} (hF : Inside 16616236156560 Fm) (hK : Only Fm s0 s) :
    Answers (Only Fm s0) (execSpnAlu g s) := by
  unfold execSpnAlu
  with_reducible repeat' first
    | assumption | intro _ | apply State.spnRegs_only | dsimp only | split
  all_goals first | exact hF.sub rfl | exact hF.bit rfl

theorem execSpnAluImm_only {Fm : Nat} {s0 : State} (g : Nat) {s : State} (hF : Inside 16616236156560 Fm) (hK : Only Fm s0 s) :
    Answers (Only Fm s0) (execSpnAluImm g s) := by
  unfold execSpnAluImm
  with_reducible repeat' first
    | assumption | intro _ | apply State.spnRegs_only | dsimp only | split
  all_goals first | exact hF.sub rfl | exact hF.bit rfl

theorem execSpnLoadUpper_only {Fm : Nat} {s0 : State} (g : Nat) {s : State} (hF : Inside 16616236156560 Fm) (hK : Only Fm s0 s) :
    Answers (Only Fm s0) (execSpnLoadUpper g s) := by
  unfold execSpnLoadUpper
  with_reducible repeat' first
    | assumption | intro _ | apply State.spnRegs_only | dsimp only | split
  all_goals first | exact hF.sub rfl | exact hF.bit rfl

theorem execSpnBranch_only {Fm : Nat} {s0 : State} (g : Nat) {s : State} (hF : Inside 16616236156560 Fm) (hK : Only Fm s0 s) :
    Answers (Only Fm s0) (execSpnBranch g s) := by
  unfold execSpnBranch
  with_reducible repeat' first
    | assumption | intro _ | apply State.spnRegs_only | dsimp only | split
  all_goals first | exact hF.sub rfl | exact hF.bit rfl

theorem execSpnJump_only {Fm : Nat} {s0 : State} (g : Nat) {s : State} (hF : Inside 16616236156560 Fm) (hK : Only Fm s0 s) :
    Answers (Only Fm s0) (execSpnJump g s) := by
  unfold execSpnJump
  with_reducible repeat' first
    | assumption | intro _ | apply State.spnRegs_only | dsimp only | split
  all_goals first | exact hF.sub rfl | exact hF.bit rfl

theorem execSpnJumpReg_only {Fm : Nat} {s0 : State} (g : Nat) {s : State} (hF : Inside 16616236156560 Fm) (hK : Only Fm s0 s) :
    Answers (Only Fm s0) (execSpnJumpReg g s) := by
  unfold execSpnJumpReg
  with_reducible repeat' first
    | assumption | intro _ | apply State.spnRegs_only | dsimp only | split
  all_goals first | exact hF.sub rfl | exact hF.bit rfl

theorem execSpnLoad_only {Fm : Nat} {s0 : State} (g : Nat) {s : State} (hF : Inside 16616236222096 Fm) (hK : Only Fm s0 s) :
    Answers (Only Fm s0) (execSpnLoad g s) := by
  unfold execSpnLoad
  with_reducible repeat' first
    | assumption | intro _ | apply Leaves.bind | apply Leaves.pure | apply State.spn_only | apply Grain.load_only | dsimp only
    | split
  all_goals first | exact hF.sub rfl | exact hF.bit rfl

theorem execSpnStore_only {Fm : Nat} {s0 : State} (g : Nat) {s : State} (hF : Inside 16616236222096 Fm) (hK : Only Fm s0 s) :
    Answers (Only Fm s0) (execSpnStore g s) := by
  unfold execSpnStore
  with_reducible repeat' first
    | assumption | intro _ | apply Leaves.bind | apply Leaves.pure | apply State.spn_only | apply Grain.store_only | dsimp only
    | split
  all_goals first | exact hF.sub rfl | exact hF.bit rfl

theorem execSpnAtomic_only {Fm : Nat} {s0 : State} (g : Nat) {s : State} (hF : Inside 16616236222096 Fm) (hK : Only Fm s0 s) :
    Answers (Only Fm s0) (execSpnAtomic g s) := by
  unfold execSpnAtomic
  with_reducible repeat' first
    | assumption | intro _ | apply Leaves.bind | apply Leaves.pure | apply Leaves.ite | apply State.spn_only
    | apply spnFault_only | apply Grain.load_only | apply Grain.store_only | dsimp only | split
  all_goals first | exact hF.sub rfl | exact hF.bit rfl

theorem execSpnYield_only {Fm : Nat} {s0 : State} (g : Nat) {s : State} (hF : Inside 16616236156560 Fm) (hK : Only Fm s0 s) :
    Answers (Only Fm s0) (execSpnYield g s) := by
  unfold execSpnYield
  with_reducible repeat' first
    | assumption | intro _ | apply Leaves.pure | apply State.spn_only | dsimp only | split
  all_goals first | exact hF.sub rfl | exact hF.bit rfl

theorem execSpnFence_only {Fm : Nat} {s0 : State} (g : Nat) {s : State} (hF : Inside 16616236156560 Fm) (hK : Only Fm s0 s) :
    Answers (Only Fm s0) (execSpnFence g s) := by
  unfold execSpnFence
  with_reducible repeat' first
    | assumption | intro _ | apply Leaves.pure | apply State.spn_only | dsimp only | split
  all_goals first | exact hF.sub rfl | exact hF.bit rfl

theorem execSpnExit_only {Fm : Nat} {s0 : State} (g : Nat) {s : State} (hF : Inside 16616236156560 Fm) (hK : Only Fm s0 s) :
    Answers (Only Fm s0) (execSpnExit g s) := by
  unfold execSpnExit
  with_reducible repeat' first
    | assumption | intro _ | apply Leaves.pure | apply State.spn_only | dsimp only | split
  all_goals first | exact hF.sub rfl | exact hF.bit rfl

theorem execSpnTrap_only {Fm : Nat} {s0 : State} (g : Nat) {s : State} (hF : Inside 16616236156560 Fm) (hK : Only Fm s0 s) :
    Answers (Only Fm s0) (execSpnTrap g s) := by
  unfold execSpnTrap
  with_reducible repeat' first
    | assumption | intro _ | apply State.spn_only | apply spnFault_only | dsimp only | split
  all_goals first | exact hF.sub rfl | exact hF.bit rfl

theorem execSpnGets_only {Fm : Nat} {s0 : State} (g : Nat) {s : State} (hF : Inside 16616236156560 Fm) (hK : Only Fm s0 s) :
    Answers (Only Fm s0) (execSpnGets g s) := by
  unfold execSpnGets
  with_reducible repeat' first
    | assumption | intro _ | apply Leaves.get_bind | apply Leaves.bind | apply Leaves.pure | apply Leaves.set_
    | apply State.spn_only | apply State.tickFree_only | dsimp only | split
  all_goals first | exact hF.sub rfl | exact hF.bit rfl

theorem execSpnWait_only {Fm : Nat} {s0 : State} (g : Nat) {s : State} (hF : Inside 16616236156560 Fm) (hK : Only Fm s0 s) :
    Answers (Only Fm s0) (execSpnWait g s) := by
  unfold execSpnWait
  with_reducible repeat' first
    | assumption | intro _ | apply Leaves.get_bind | apply Leaves.pure | apply Leaves.ite | apply State.spn_only | dsimp only
    | split
  all_goals first | exact hF.sub rfl | exact hF.bit rfl

theorem execSpnSignal_only {Fm : Nat} {s0 : State} (g : Nat) {s : State} (hF : Inside 16616236156560 Fm) (hK : Only Fm s0 s) :
    Answers (Only Fm s0) (execSpnSignal g s) := by
  unfold execSpnSignal
  with_reducible repeat' first
    | assumption | intro _ | apply Leaves.bind | apply Leaves.pure | apply Leaves.modify_ | apply State.spn_only
    | apply State.modJob_only | dsimp only | split
  all_goals first | exact hF.sub rfl | exact hF.bit rfl

theorem execSpnMark_only {Fm : Nat} {s0 : State} (g : Nat) {s : State} (hF : Inside 16616236222096 Fm) (hK : Only Fm s0 s) :
    Answers (Only Fm s0) (execSpnMark g s) := by
  unfold execSpnMark
  with_reducible repeat' first
    | assumption | intro _ | apply Leaves.bind | apply Leaves.pure | apply Leaves.modify_ | apply State.spn_only
    | apply State.writeMark_only | dsimp only | split
  all_goals first | exact hF.sub rfl | exact hF.bit rfl

theorem execSpnCrc_only {Fm : Nat} {s0 : State} (g : Nat) {s : State} (hF : Inside 16616236222096 Fm) (hK : Only Fm s0 s) :
    Answers (Only Fm s0) (execSpnCrc g s) := by
  unfold execSpnCrc
  with_reducible repeat' first
    | assumption | intro _ | apply Leaves.bind | apply Leaves.pure | apply Leaves.ite | apply State.spn_only
    | apply Grain.load_only | dsimp only | split
  all_goals first | exact hF.sub rfl | exact hF.bit rfl

theorem spnTry_only {Fm : Nat} {s0 : State} {s : State} {m : Work (List Byte)} (h : Leaves (Only Fm s0) m s) :
    Leaves (Only Fm s0) (spnTry m) s := by
  refine ⟨?_⟩
  unfold spnTry
  split
  · exact Leaves.ok_ ‹_› h
  · exact Leaves.error_ ‹_› h
  · exact Leaves.error_ ‹_› h

theorem execSpnCrcv_only {Fm : Nat} {s0 : State} (g : Nat) {s : State} (hF : Inside 16616236222096 Fm) (hK : Only Fm s0 s) :
    Answers (Only Fm s0) (execSpnCrcv g s) := by
  unfold execSpnCrcv
  with_reducible repeat' first
    | assumption | intro _ | apply Leaves.bind | apply Leaves.pure | apply State.spn_only | apply spnTry_only
    | apply Grain.load_only | dsimp only | split
  all_goals first | exact hF.sub rfl | exact hF.bit rfl

/-! Machine/SpaernVector.lean. -/

theorem execSpnVectorInt_only {Fm : Nat} {s0 : State} (g : Nat) {s : State} (hF : Inside 16616236156560 Fm) (hK : Only Fm s0 s) :
    Answers (Only Fm s0) (execSpnVectorInt g s) := by
  unfold execSpnVectorInt
  with_reducible repeat' first
    | assumption | intro _ | apply State.spnRegs_only | dsimp only | split
  all_goals first | exact hF.sub rfl | exact hF.bit rfl

theorem execSpnVectorFp_only {Fm : Nat} {s0 : State} (g : Nat) {s : State} (hF : Inside 16616236156560 Fm) (hK : Only Fm s0 s) :
    Answers (Only Fm s0) (execSpnVectorFp g s) := by
  unfold execSpnVectorFp
  with_reducible repeat' first
    | assumption | intro _ | apply Leaves.get_bind | apply Leaves.bind | apply Leaves.pure | apply Leaves.set_
    | apply Leaves.modify_ | apply Leaves.ite | apply State.spn_only | apply State.tickFree_only | apply State.countCnts_only
    | dsimp only | split
  all_goals first | exact hF.sub rfl | exact hF.bit rfl

theorem execSpnReduce_only {Fm : Nat} {s0 : State} (g : Nat) {s : State} (hF : Inside 16616236156560 Fm) (hK : Only Fm s0 s) :
    Answers (Only Fm s0) (execSpnReduce g s) := by
  unfold execSpnReduce
  with_reducible repeat' first
    | assumption | intro _ | apply State.spnRegs_only | dsimp only | split
  all_goals first | exact hF.sub rfl | exact hF.bit rfl

theorem execSpnVectorLoad_only {Fm : Nat} {s0 : State} (g : Nat) {s : State} (hF : Inside 16616236222096 Fm) (hK : Only Fm s0 s) :
    Answers (Only Fm s0) (execSpnVectorLoad g s) := by
  unfold execSpnVectorLoad
  with_reducible repeat' first
    | assumption | intro _ | apply Leaves.bind | apply Leaves.pure | apply State.spn_only | apply spnFault_only
    | apply Grain.loadAt_only | dsimp only | split
  all_goals first | exact hF.sub rfl | exact hF.bit rfl

theorem execSpnVectorStore_only {Fm : Nat} {s0 : State} (g : Nat) {s : State} (hF : Inside 16616236222096 Fm) (hK : Only Fm s0 s) :
    Answers (Only Fm s0) (execSpnVectorStore g s) := by
  unfold execSpnVectorStore
  with_reducible repeat' first
    | assumption | intro _ | apply Leaves.bind | apply Leaves.pure | apply State.spn_only | apply Grain.store_only | dsimp only
    | split
  all_goals first | exact hF.sub rfl | exact hF.bit rfl

theorem execSpnGather_only {Fm : Nat} {s0 : State} (g : Nat) {s : State} (hF : Inside 16616236222096 Fm) (hK : Only Fm s0 s) :
    Answers (Only Fm s0) (execSpnGather g s) := by
  unfold execSpnGather
  with_reducible repeat' first
    | assumption | intro _ | apply Leaves.bind | apply Leaves.pure | apply Leaves.mapM_ | apply State.spn_only
    | apply Grain.load_only | dsimp only | split
  all_goals first | exact hF.sub rfl | exact hF.bit rfl

theorem execSpnScatter_only {Fm : Nat} {s0 : State} (g : Nat) {s : State} (hF : Inside 16616236222096 Fm) (hK : Only Fm s0 s) :
    Answers (Only Fm s0) (execSpnScatter g s) := by
  unfold execSpnScatter
  with_reducible repeat' first
    | assumption | intro _ | apply Leaves.bind | apply Leaves.pure | apply Leaves.foldlM_ | apply State.spn_only
    | apply Grain.store_only | dsimp only | split
  all_goals first | exact hF.sub rfl | exact hF.bit rfl

theorem execSpnVcvt_only {Fm : Nat} {s0 : State} (g : Nat) {s : State} (hF : Inside 16616236156560 Fm) (hK : Only Fm s0 s) :
    Answers (Only Fm s0) (execSpnVcvt g s) := by
  unfold execSpnVcvt
  with_reducible repeat' first
    | assumption | intro _ | apply Leaves.get_bind | apply Leaves.bind | apply Leaves.pure | apply Leaves.set_
    | apply Leaves.modify_ | apply State.spn_only | apply State.tickFree_only | apply State.countCnts_only | dsimp only | split
  all_goals first | exact hF.sub rfl | exact hF.bit rfl

theorem execSpnVmxq_only {Fm : Nat} {s0 : State} (g : Nat) {s : State} (hF : Inside 16616236156560 Fm) (hK : Only Fm s0 s) :
    Answers (Only Fm s0) (execSpnVmxq g s) := by
  unfold execSpnVmxq
  with_reducible repeat' first
    | assumption | intro _ | apply Leaves.get_bind | apply Leaves.bind | apply Leaves.pure | apply Leaves.set_
    | apply Leaves.modify_ | apply State.spn_only | apply State.tickFree_only | apply State.countCnts_only | dsimp only | split
  all_goals first | exact hF.sub rfl | exact hF.bit rfl

end Sys2Proof.Machine
end

