-- ==== Sys2Proof/Laws/OnlySystem.lean ====
section
/-! SUPPORT. The fields of the state that each operation and each row may change: ports, security, update, bring-up, power, management and registers. -/

namespace Sys2Proof.Machine

set_option linter.unusedTactic false
set_option linter.unreachableTactic false
set_option linter.unusedVariables false

open Host (Outcome)

/-! Machine/Regulate.lean. -/

theorem execWeirWindowBoundary_only {Fm : Nat} {s0 : State} (t : Tenant) {s : State} (hF : Inside 16581863900816 Fm) (hK : Only Fm s0 s) :
    Answers (Only Fm s0) (execWeirWindowBoundary t s) := by
  unfold execWeirWindowBoundary
  with_reducible repeat' first
    | assumption | intro _ | apply Answers.next | apply Answers.ite | apply State.setHg_only | apply State.admitAll_only
    | dsimp only | split
  all_goals first | exact hF.sub rfl | exact hF.bit rfl

theorem execWeirConfigWrite_only {Fm : Nat} {s0 : State} (t : Tenant) (budget : Option ClassL) (v : W32) {s : State} (hF : Inside 16 Fm) (hK : Only Fm s0 s) :
    Answers (Only Fm s0) (execWeirConfigWrite t budget v s) := by
  unfold execWeirConfigWrite
  with_reducible repeat' first
    | assumption | intro _ | apply Answers.next | apply State.setStw_only | dsimp only | split
  all_goals first | exact hF.sub rfl | exact hF.bit rfl

theorem execUrgencyPinSettle_only {Fm : Nat} {s0 : State} (p : PortId) (level : BitVec 2) {s : State} (hF : Inside 2 Fm) (hK : Only Fm s0 s) :
    Answers (Only Fm s0) (execUrgencyPinSettle p level s) := by
  unfold execUrgencyPinSettle
  with_reducible repeat' first
    | assumption | intro _ | apply Answers.next | (fail_if_no_progress refine Only.set_pins (hF.bit (by decide)) ?_)
    | dsimp only | split
  all_goals first | exact hF.sub rfl | exact hF.bit rfl

theorem execUibWrite_only {Fm : Nat} {s0 : State} (t : Tenant) (v : W32) {s : State} (hF : Inside 2147483664 Fm) (hK : Only Fm s0 s) :
    Answers (Only Fm s0) (execUibWrite t v s) := by
  unfold execUibWrite
  with_reducible repeat' first
    | assumption | intro _ | apply Answers.next | apply State.setBar_only | apply State.modHg_only | dsimp only | split
  all_goals first | exact hF.sub rfl | exact hF.bit rfl

theorem State.dropUib_only {Fm : Nat} {s0 : State} (t : Nat) {s : State} (hF : Inside 2147483664 Fm) (hK : Only Fm s0 s) :
    Only Fm s0 (State.dropUib t s) := by
  unfold State.dropUib
  with_reducible repeat' first
    | assumption | intro _ | apply State.modBar_only | apply State.modHg_only | dsimp only | split
  all_goals first | exact hF.sub rfl | exact hF.bit rfl

theorem execUibHoldExpire_only {Fm : Nat} {s0 : State} (t : Tenant) {s : State} (hF : Inside 2147483664 Fm) (hK : Only Fm s0 s) :
    Answers (Only Fm s0) (execUibHoldExpire t s) := by
  unfold execUibHoldExpire
  with_reducible repeat' first
    | assumption | intro _ | apply Answers.next | apply Only.ite | apply State.dropUib_only | dsimp only | split
  all_goals first | exact hF.sub rfl | exact hF.bit rfl

theorem State.setArb_only {Fm : Nat} {s0 : State} (a : Arb) (l : List Item) {s : State} (hF : Inside 8589934592 Fm) (hK : Only Fm s0 s) :
    Only Fm s0 (State.setArb a l s) := by
  unfold State.setArb
  with_reducible repeat' first
    | assumption | intro _ | (fail_if_no_progress refine Only.set_arb (hF.bit (by decide)) ?_) | dsimp only | split
  all_goals first | exact hF.sub rfl | exact hF.bit rfl

theorem State.arbServe_only {Fm : Nat} {s0 : State} (a : Arb) (arrive : List Item) {s : State} (hF : Inside 2207613190144 Fm) (hK : Only Fm s0 s) :
    Only Fm s0 (State.arbServe a arrive s) := by
  unfold State.arbServe
  with_reducible repeat' first
    | assumption | intro _ | apply State.setArb_only | apply State.emit_only | dsimp only | split
  all_goals first | exact hF.sub rfl | exact hF.bit rfl

theorem execArbiterServe_only {Fm : Nat} {s0 : State} (a : Arb) (arrive : List Item) {s : State} (hF : Inside 3410204558864 Fm) (hK : Only Fm s0 s) :
    Answers (Only Fm s0) (execArbiterServe a arrive s) := by
  unfold execArbiterServe
  with_reducible repeat' first
    | assumption | intro _ | apply Answers.next | apply State.portCycle_only | apply State.arbServe_only | dsimp only | split
  all_goals first | exact hF.sub rfl | exact hF.bit rfl

/-! Machine/Ports.lean. -/

theorem State.stopRings_only {Fm : Nat} {s0 : State} (t : Nat) {s : State} (hF : Inside 4398046809728 Fm) (hK : Only Fm s0 s) :
    Only Fm s0 (State.stopRings t s) := by
  unfold State.stopRings
  with_reducible repeat' first
    | assumption | intro _ | apply Only.forAll | apply State.modLd_only | apply State.voidFetch_only | apply State.farDrop_only
    | (fail_if_no_progress refine Only.set_tags_quarantine (hF.bit (by decide)) (hF.bit (by decide)) ?_) | dsimp only | split
  all_goals first | exact hF.sub rfl | exact hF.bit rfl

theorem State.abortWork_only {Fm : Nat} {s0 : State} (t : Nat) {s : State} (hF : Inside 6701035916944 Fm) (hK : Only Fm s0 s) :
    Only Fm s0 (State.abortWork t s) := by
  unfold State.abortWork
  with_reducible repeat' first
    | assumption | intro _ | apply Only.forAll | apply State.stopRings_only | apply State.modTier_only | apply State.modAlm_only
    | apply State.endOp_only | apply State.cntBar_only | apply State.modLd_only | dsimp only | split
  all_goals first | exact hF.sub rfl | exact hF.bit rfl

theorem State.resetWeir_only {Fm : Nat} {s0 : State} (t : Nat) {s : State} (hF : Inside 16581863900816 Fm) (hK : Only Fm s0 s) :
    Only Fm s0 (State.resetWeir t s) := by
  unfold State.resetWeir
  with_reducible repeat' first
    | assumption | intro _ | apply State.modHg_only | apply State.admitAll_only | dsimp only | split
  all_goals first | exact hF.sub rfl | exact hF.bit rfl

theorem State.dropFetches_only {Fm : Nat} {s0 : State} (t : Nat) {s : State} (hF : Inside 67108864 Fm) (hK : Only Fm s0 s) :
    Only Fm s0 (State.dropFetches t s) := by
  unfold State.dropFetches
  with_reducible repeat' first
    | assumption | intro _ | apply Only.forAll | apply State.modFe_only | dsimp only | split
  all_goals first | exact hF.sub rfl | exact hF.bit rfl

theorem State.clearAlmCounts_only {Fm : Nat} {s0 : State} (t : Nat) {s : State} (hF : Inside 65536 Fm) (hK : Only Fm s0 s) :
    Only Fm s0 (State.clearAlmCounts t s) := by
  unfold State.clearAlmCounts
  with_reducible repeat' first
    | assumption | intro _ | apply State.modAlm_only | dsimp only | split
  all_goals first | exact hF.sub rfl | exact hF.bit rfl

theorem State.releaseHold_only {Fm : Nat} {s0 : State} (t r : Nat) {s : State} (hF : Inside 16579715303152 Fm) (hK : Only Fm s0 s) :
    Only Fm s0 (State.releaseHold t r s) := by
  unfold State.releaseHold
  with_reducible repeat' first
    | assumption | intro _ | apply Only.ite | apply State.modHalf_only | apply State.pinWalk_only | apply State.dropPin_only
    | dsimp only | split
  all_goals first | exact hF.sub rfl | exact hF.bit rfl

theorem State.resetTenant_only {Fm : Nat} {s0 : State} (t : Nat) (keepFlr : Bool) {s : State} (hF : Inside 2148335632 Fm) (hK : Only Fm s0 s) :
    Only Fm s0 (State.resetTenant t keepFlr s) := by
  unfold State.resetTenant
  with_reducible repeat' first
    | assumption | intro _ | apply Only.forAll | apply State.clearBar_only | apply State.clearAlmCounts_only
    | apply State.setEng_only | apply State.setRing_only | apply State.modHg_only | dsimp only | split
  all_goals first | exact hF.sub rfl | exact hF.bit rfl

theorem State.flrStart_only {Fm : Nat} {s0 : State} (n : Nat) {s : State} (hF : Inside 6701035916944 Fm) (hK : Only Fm s0 s) :
    Only Fm s0 (State.flrStart n s) := by
  unfold State.flrStart
  with_reducible repeat' first
    | assumption | intro _ | apply Only.ite | apply State.setBar_only | apply State.modLd_only | apply State.abortWork_only
    | dsimp only | split
  all_goals first | exact hF.sub rfl | exact hF.bit rfl

theorem execFlrInitiate_only {Fm : Nat} {s0 : State} (t : Tenant) {s : State} (hF : Inside 6701035916944 Fm) (hK : Only Fm s0 s) :
    Answers (Only Fm s0) (execFlrInitiate t s) := by
  unfold execFlrInitiate
  with_reducible repeat' first
    | assumption | intro _ | apply Answers.next | apply State.flrStart_only | dsimp only | split
  all_goals first | exact hF.sub rfl | exact hF.bit rfl

theorem State.logDrain_only {Fm : Nat} {s0 : State} (t : Nat) (l : Ld) {s : State} (hF : Inside 2267743258128 Fm) (hK : Only Fm s0 s) :
    Only Fm s0 (State.logDrain t l s) := by
  unfold State.logDrain
  with_reducible repeat' first
    | assumption | intro _ | apply State.logRec_only | dsimp only | split
  all_goals first | exact hF.sub rfl | exact hF.bit rfl

theorem execFlrDrainComplete_only {Fm : Nat} {s0 : State} (t : Tenant) {s : State} (hF : Inside 16581864163056 Fm) (hK : Only Fm s0 s) :
    Answers (Only Fm s0) (execFlrDrainComplete t s) := by
  unfold execFlrDrainComplete
  with_reducible repeat' first
    | assumption | intro _ | apply Answers.next | apply Answers.ite | apply Only.ite | apply Only.forAll
    | apply State.releaseHold_only | apply State.dropFetches_only | apply State.resetWeir_only | apply State.resetTenant_only
    | apply State.modLd_only | apply State.emit_only | apply State.logDrain_only | dsimp only | split
  all_goals first | exact hF.sub rfl | exact hF.bit rfl

theorem State.dropHead_only {Fm : Nat} {s0 : State} (ts : List Nat) {s : State} (hF : Inside 16581863902864 Fm) (hK : Only Fm s0 s) :
    Only Fm s0 (State.dropHead ts s) := by
  unfold State.dropHead
  with_reducible repeat' first
    | assumption | intro _ | apply Only.forAll | apply State.modHg_only | apply State.modDmc_only | apply State.modCmp_only
    | apply State.modShr_only | apply State.rerun_only | (fail_if_no_progress refine Only.set_lds (hF.bit (by decide)) ?_)
    | (fail_if_no_progress refine Only.set_tags_quarantine_bridge (hF.bit (by decide)) (hF.bit (by decide)) (hF.bit (by decide)) ?_)
    | dsimp only | split
  all_goals first | exact hF.sub rfl | exact hF.bit rfl

theorem State.drainLd_only {Fm : Nat} {s0 : State} (t : Nat) {s : State} (hF : Inside 16617041792656 Fm) (hK : Only Fm s0 s) :
    Only Fm s0 (State.drainLd t s) := by
  unfold State.drainLd
  with_reducible repeat' first
    | assumption | intro _ | apply Only.ite | apply State.modLd_only | apply State.setBar_only | apply State.abortWork_only
    | apply State.failTenant_only | apply State.dropFetches_only | apply State.resetWeir_only | apply State.loseExtent_only
    | dsimp only | split
  all_goals first | exact hF.sub rfl | exact hF.bit rfl

theorem State.enterDrain_only {Fm : Nat} {s0 : State} (p : Nat) {s : State} (hF : Inside 16617041792912 Fm) (hK : Only Fm s0 s) :
    Only Fm s0 (State.enterDrain p s) := by
  unfold State.enterDrain
  with_reducible repeat' first
    | assumption | intro _ | apply Only.ite | apply Only.forAll | apply State.modPort_only | apply State.dropHead_only
    | apply State.drainLd_only | apply State.asgnResume_only | apply State.closeResume_only | dsimp only | split
  all_goals first | exact hF.sub rfl | exact hF.bit rfl

theorem State.train_only {Fm : Nat} {s0 : State} (p : Nat) {s : State} (hF : Inside 2199023255808 Fm) (hK : Only Fm s0 s) :
    Only Fm s0 (State.train p s) := by
  unfold State.train
  with_reducible repeat' first
    | assumption | intro _ | apply State.modPort_only | apply State.emit_only | dsimp only | split
  all_goals first | exact hF.sub rfl | exact hF.bit rfl

theorem execLinkDown_only {Fm : Nat} {s0 : State} (p : PortId) {s : State} (hF : Inside 16617041792912 Fm) (hK : Only Fm s0 s) :
    Answers (Only Fm s0) (execLinkDown p s) := by
  unfold execLinkDown
  with_reducible repeat' first
    | assumption | intro _ | apply Answers.next | apply State.enterDrain_only | dsimp only | split
  all_goals first | exact hF.sub rfl | exact hF.bit rfl

theorem execHotReset_only {Fm : Nat} {s0 : State} (p : PortId) {s : State} (hF : Inside 16617041792912 Fm) (hK : Only Fm s0 s) :
    Answers (Only Fm s0) (execHotReset p s) := by
  unfold execHotReset
  with_reducible repeat' first
    | assumption | intro _ | apply Answers.next | apply State.enterDrain_only | dsimp only | split
  all_goals first | exact hF.sub rfl | exact hF.bit rfl

theorem execPerstAssert_only {Fm : Nat} {s0 : State} (p : PortId) {s : State} (hF : Inside 16617041792914 Fm) (hK : Only Fm s0 s) :
    Answers (Only Fm s0) (execPerstAssert p s) := by
  unfold execPerstAssert
  with_reducible repeat' first
    | assumption | intro _ | apply Answers.next | apply Answers.ite | apply State.modPort_only | apply State.emit_only
    | apply State.enterDrain_only | (fail_if_no_progress refine Only.set_pins (hF.bit (by decide)) ?_) | dsimp only | split
  all_goals first | exact hF.sub rfl | exact hF.bit rfl

theorem State.leaveReset_only {Fm : Nat} {s0 : State} (p : Nat) {s : State} (hF : Inside 2199023255808 Fm) (hK : Only Fm s0 s) :
    Only Fm s0 (State.leaveReset p s) := by
  unfold State.leaveReset
  with_reducible repeat' first
    | assumption | intro _ | apply Only.ite | apply State.train_only | dsimp only | split
  all_goals first | exact hF.sub rfl | exact hF.bit rfl

theorem execPerstDeassert_only {Fm : Nat} {s0 : State} (p : PortId) (clksel : Bool) {s : State} (hF : Inside 2199023255810 Fm) (hK : Only Fm s0 s) :
    Answers (Only Fm s0) (execPerstDeassert p clksel s) := by
  unfold execPerstDeassert
  with_reducible repeat' first
    | assumption | intro _ | apply Answers.next | apply Only.ite | apply State.modPort_only | apply State.leaveReset_only
    | (fail_if_no_progress refine Only.set_pins (hF.bit (by decide)) ?_) | dsimp only | split
  all_goals first | exact hF.sub rfl | exact hF.bit rfl

theorem execPortDrainComplete_only {Fm : Nat} {s0 : State} (p : PortId) {s : State} (hF : Inside 2269891069712 Fm) (hK : Only Fm s0 s) :
    Answers (Only Fm s0) (execPortDrainComplete p s) := by
  unfold execPortDrainComplete
  with_reducible repeat' first
    | assumption | intro _ | apply Answers.next | apply Answers.ite | apply Only.ite | apply Only.forAll
    | apply State.logDrain_only | apply State.resetTenant_only | apply State.modLd_only | apply State.modPort_only
    | apply State.emit_only | apply State.train_only | dsimp only | split
  all_goals first | exact hF.sub rfl | exact hF.bit rfl

theorem execLinkUp_only {Fm : Nat} {s0 : State} (p : PortId) (width rate : BitVec 3) (mld : Bool) {s : State} (hF : Inside 768 Fm) (hK : Only Fm s0 s) :
    Answers (Only Fm s0) (execLinkUp p width rate mld s) := by
  unfold execLinkUp
  with_reducible repeat' first
    | assumption | intro _ | apply Answers.next | apply Answers.ite | apply Only.forAll | apply State.modPort_only
    | apply State.modLd_only | dsimp only | split
  all_goals first | exact hF.sub rfl | exact hF.bit rfl

theorem execTrainFail_only {Fm : Nat} {s0 : State} (p : PortId) {s : State} (hF : Inside 272 Fm) (hK : Only Fm s0 s) :
    Answers (Only Fm s0) (execTrainFail p s) := by
  unfold execTrainFail
  with_reducible repeat' first
    | assumption | intro _ | apply Answers.next | apply Answers.ite | apply State.modPort_only | apply State.cntStw_only
    | dsimp only | split
  all_goals first | exact hF.sub rfl | exact hF.bit rfl

theorem execTrainBackoffExpire_only {Fm : Nat} {s0 : State} (p : PortId) {s : State} (hF : Inside 2199023255808 Fm) (hK : Only Fm s0 s) :
    Answers (Only Fm s0) (execTrainBackoffExpire p s) := by
  unfold execTrainBackoffExpire
  with_reducible repeat' first
    | assumption | intro _ | apply Answers.next | apply Answers.ite | apply State.modPort_only | apply State.emit_only
    | dsimp only | split
  all_goals first | exact hF.sub rfl | exact hF.bit rfl

theorem execLinkRecovery_only {Fm : Nat} {s0 : State} (p : PortId) {s : State} (hF : Inside 0 Fm) (hK : Only Fm s0 s) :
    Answers (Only Fm s0) (execLinkRecovery p s) := by
  unfold execLinkRecovery
  with_reducible repeat' first
    | assumption | intro _ | apply Answers.next | dsimp only | split
  all_goals first | exact hF.sub rfl | exact hF.bit rfl

theorem State.setBme_only {Fm : Nat} {s0 : State} (t : Nat) {s : State} (hF : Inside 2199023781376 Fm) (hK : Only Fm s0 s) :
    Only Fm s0 (State.setBme t s) := by
  unfold State.setBme
  with_reducible repeat' first
    | assumption | intro _ | apply Only.forAll | apply State.modLd_only | apply State.raiseMsix_only
    | apply State.issueWant_only | dsimp only | split
  all_goals first | exact hF.sub rfl | exact hF.bit rfl

theorem State.ctoWrite_only {Fm : Nat} {s0 : State} (t : Nat) (v : BitVec 4) {s : State} (hF : Inside 528 Fm) (hK : Only Fm s0 s) :
    Only Fm s0 (State.ctoWrite t v s) := by
  unfold State.ctoWrite
  with_reducible repeat' first
    | assumption | intro _ | apply State.modLd_only | apply State.modBar_only | dsimp only | split
  all_goals first | exact hF.sub rfl | exact hF.bit rfl

theorem State.cfgWrite_only {Fm : Nat} {s0 : State} (t : Nat) (r : CfgReg) (v : W32) {s : State} (hF : Inside 6701035916944 Fm) (hK : Only Fm s0 s) :
    Only Fm s0 (State.cfgWrite t r v s) := by
  unfold State.cfgWrite
  with_reducible repeat' first
    | assumption | intro _ | apply Only.ite | apply State.flrStart_only | apply State.ctoWrite_only | apply State.modLd_only
    | apply State.flushMsix_only | apply State.setBme_only | dsimp only | split
  all_goals first | exact hF.sub rfl | exact hF.bit rfl

theorem execConfigRequest_only {Fm : Nat} {s0 : State} (t : Tenant) (write : Bool) (reg : CfgReg) (v : W32) {s : State} (hF : Inside 15497128939152 Fm) (hK : Only Fm s0 s) :
    Answers (Only Fm s0) (execConfigRequest t write reg v s) := by
  unfold execConfigRequest
  with_reducible repeat' first
    | assumption | intro _ | apply Answers.next | apply Answers.ite | apply State.emit_only | apply State.modLd_only
    | apply State.cfgWrite_only | apply State.tickFree_only | dsimp only | split
  all_goals first | exact hF.sub rfl | exact hF.bit rfl

theorem execCtoValueWrite_only {Fm : Nat} {s0 : State} (t : Tenant) (v : BitVec 4) {s : State} (hF : Inside 528 Fm) (hK : Only Fm s0 s) :
    Answers (Only Fm s0) (execCtoValueWrite t v s) := by
  unfold execCtoValueWrite
  with_reducible repeat' first
    | assumption | intro _ | apply Answers.next | apply Answers.ite | apply State.ctoWrite_only | dsimp only | split
  all_goals first | exact hF.sub rfl | exact hF.bit rfl

theorem execBusMasterEnableSet_only {Fm : Nat} {s0 : State} (t : Tenant) {s : State} (hF : Inside 2199023781376 Fm) (hK : Only Fm s0 s) :
    Answers (Only Fm s0) (execBusMasterEnableSet t s) := by
  unfold execBusMasterEnableSet
  with_reducible repeat' first
    | assumption | intro _ | apply Answers.next | apply Answers.ite | apply State.setBme_only | dsimp only | split
  all_goals first | exact hF.sub rfl | exact hF.bit rfl

theorem State.hdmCommit_only {Fm : Nat} {s0 : State} (n : Nat) (base size skip : W64) (ways gran : Nat) (lock : Bool) {s : State} (hF : Inside 512 Fm) (hK : Only Fm s0 s) :
    Only Fm s0 (State.hdmCommit n base size skip ways gran lock s) := by
  unfold State.hdmCommit
  with_reducible repeat' first
    | assumption | intro _ | apply Only.ite | apply State.setLd_only | dsimp only | split
  all_goals first | exact hF.sub rfl | exact hF.bit rfl

theorem execHdmCommit_only {Fm : Nat} {s0 : State} (t : Tenant) (base size skip : W64) (ways gran : Nat) (lock : Bool) {s : State} (hF : Inside 512 Fm) (hK : Only Fm s0 s) :
    Answers (Only Fm s0) (execHdmCommit t base size skip ways gran lock s) := by
  unfold execHdmCommit
  with_reducible repeat' first
    | assumption | intro _ | apply Answers.next | apply State.hdmCommit_only | dsimp only | split
  all_goals first | exact hF.sub rfl | exact hF.bit rfl

/-! Machine/Security.lean. -/

theorem State.spdmOk_only {Fm : Nat} {s0 : State} (e : Endpoint) (d : List Byte) {s : State} (hF : Inside 2199023255552 Fm) (hK : Only Fm s0 s) :
    Only Fm s0 (State.spdmOk e d s) := by
  unfold State.spdmOk
  with_reducible repeat' first
    | assumption | intro _ | apply State.emit_only | dsimp only | split
  all_goals first | exact hF.sub rfl | exact hF.bit rfl

theorem State.spdmErr_only {Fm : Nat} {s0 : State} (e : Endpoint) {s : State} (hF : Inside 2199023255552 Fm) (hK : Only Fm s0 s) :
    Only Fm s0 (State.spdmErr e s) := by
  unfold State.spdmErr
  with_reducible repeat' first
    | assumption | intro _ | apply State.emit_only | dsimp only | split
  all_goals first | exact hF.sub rfl | exact hF.bit rfl

theorem State.spdmReq_only {Fm : Nat} {s0 : State} (e : Endpoint) (f : State → State) {s : State} (hf : ∀ t, Only Fm s0 t → Only Fm s0 (f t)) (hF : Inside 2199023255552 Fm) (hK : Only Fm s0 s) :
    Only Fm s0 (State.spdmReq e f s) := by
  unfold State.spdmReq
  with_reducible repeat' first
    | assumption | intro _ | apply Only.ite | apply State.emit_only | apply hf | dsimp only | split
  all_goals first | exact hF.sub rfl | exact hF.bit rfl

theorem State.spdmIn_only {Fm : Nat} {s0 : State} (e : Endpoint) (id : Nat) (f : State → State) {s : State} (hf : ∀ t, Only Fm s0 t → Only Fm s0 (f t)) (hF : Inside 2199023255552 Fm) (hK : Only Fm s0 s) :
    Only Fm s0 (State.spdmIn e id f s) := by
  unfold State.spdmIn
  with_reducible repeat' first
    | assumption | intro _ | apply Only.ite | apply State.spdmReq_only | apply State.spdmErr_only | apply hf | dsimp only
    | split
  all_goals first | exact hF.sub rfl | exact hF.bit rfl

theorem execGetVersion_only {Fm : Nat} {s0 : State} (e : Endpoint) {s : State} (hF : Inside 2199023255552 Fm) (hK : Only Fm s0 s) :
    Answers (Only Fm s0) (execGetVersion e s) := by
  unfold execGetVersion
  with_reducible repeat' first
    | assumption | intro _ | apply Answers.next | apply State.spdmReq_only | apply State.spdmOk_only | dsimp only | split
  all_goals first | exact hF.sub rfl | exact hF.bit rfl

theorem execGetCapabilities_only {Fm : Nat} {s0 : State} (e : Endpoint) {s : State} (hF : Inside 2199023255552 Fm) (hK : Only Fm s0 s) :
    Answers (Only Fm s0) (execGetCapabilities e s) := by
  unfold execGetCapabilities
  with_reducible repeat' first
    | assumption | intro _ | apply Answers.next | apply State.spdmReq_only | apply State.spdmOk_only | dsimp only | split
  all_goals first | exact hF.sub rfl | exact hF.bit rfl

theorem execNegotiateAlgorithms_only {Fm : Nat} {s0 : State} (e : Endpoint) {s : State} (hF : Inside 2199023255552 Fm) (hK : Only Fm s0 s) :
    Answers (Only Fm s0) (execNegotiateAlgorithms e s) := by
  unfold execNegotiateAlgorithms
  with_reducible repeat' first
    | assumption | intro _ | apply Answers.next | apply State.spdmReq_only | apply State.spdmOk_only | dsimp only | split
  all_goals first | exact hF.sub rfl | exact hF.bit rfl

theorem execGetDigests_only {Fm : Nat} {s0 : State} (e : Endpoint) {s : State} (hF : Inside 2199023255552 Fm) (hK : Only Fm s0 s) :
    Answers (Only Fm s0) (execGetDigests e s) := by
  unfold execGetDigests
  with_reducible repeat' first
    | assumption | intro _ | apply Answers.next | apply State.spdmReq_only | apply State.spdmOk_only | dsimp only | split
  all_goals first | exact hF.sub rfl | exact hF.bit rfl

theorem execGetCertificate_only {Fm : Nat} {s0 : State} (e : Endpoint) (slot : BitVec 4) {s : State} (hF : Inside 2199023255552 Fm) (hK : Only Fm s0 s) :
    Answers (Only Fm s0) (execGetCertificate e slot s) := by
  unfold execGetCertificate
  with_reducible repeat' first
    | assumption | intro _ | apply Answers.next | apply Only.ite | apply State.spdmReq_only | apply State.spdmOk_only
    | apply State.spdmErr_only | dsimp only | split
  all_goals first | exact hF.sub rfl | exact hF.bit rfl

theorem execChallenge_only {Fm : Nat} {s0 : State} (e : Endpoint) (nonce : W256) {s : State} (hF : Inside 2199023255552 Fm) (hK : Only Fm s0 s) :
    Answers (Only Fm s0) (execChallenge e nonce s) := by
  unfold execChallenge
  with_reducible repeat' first
    | assumption | intro _ | apply Answers.next | apply State.spdmReq_only | apply State.spdmOk_only | dsimp only | split
  all_goals first | exact hF.sub rfl | exact hF.bit rfl

theorem execGetMeasurements_only {Fm : Nat} {s0 : State} (e : Endpoint) (index : Byte) (signed : Bool) {s : State} (hF : Inside 2199023255552 Fm) (hK : Only Fm s0 s) :
    Answers (Only Fm s0) (execGetMeasurements e index signed s) := by
  unfold execGetMeasurements
  with_reducible repeat' first
    | assumption | intro _ | apply Answers.next | apply State.spdmReq_only | apply State.spdmOk_only | apply State.spdmErr_only
    | dsimp only | split
  all_goals first | exact hF.sub rfl | exact hF.bit rfl

theorem execKeyExchange_only {Fm : Nat} {s0 : State} (e : Endpoint) {s : State} (hF : Inside 2336462209024 Fm) (hK : Only Fm s0 s) :
    Answers (Only Fm s0) (execKeyExchange e s) := by
  unfold execKeyExchange
  with_reducible repeat' first
    | assumption | intro _ | apply Answers.next | apply Only.ite | apply State.spdmReq_only | apply State.spdmErr_only
    | apply State.modSec_only | apply State.spdmOk_only | dsimp only | split
  all_goals first | exact hF.sub rfl | exact hF.bit rfl

theorem execFinish_only {Fm : Nat} {s0 : State} (e : Endpoint) (session : Nat) {s : State} (hF : Inside 2336462209024 Fm) (hK : Only Fm s0 s) :
    Answers (Only Fm s0) (execFinish e session s) := by
  unfold execFinish
  with_reducible repeat' first
    | assumption | intro _ | apply Answers.next | apply Only.ite | apply State.spdmReq_only | apply State.spdmErr_only
    | apply State.modSec_only | apply State.spdmOk_only | dsimp only | split
  all_goals first | exact hF.sub rfl | exact hF.bit rfl

theorem execEndSession_only {Fm : Nat} {s0 : State} (e : Endpoint) (session : Nat) {s : State} (hF : Inside 2336462209024 Fm) (hK : Only Fm s0 s) :
    Answers (Only Fm s0) (execEndSession e session s) := by
  unfold execEndSession
  with_reducible repeat' first
    | assumption | intro _ | apply Answers.next | apply State.spdmIn_only | apply State.modSec_only | apply State.spdmOk_only
    | dsimp only | split
  all_goals first | exact hF.sub rfl | exact hF.bit rfl

theorem execHeartbeat_only {Fm : Nat} {s0 : State} (e : Endpoint) (session : Nat) {s : State} (hF : Inside 2199023255552 Fm) (hK : Only Fm s0 s) :
    Answers (Only Fm s0) (execHeartbeat e session s) := by
  unfold execHeartbeat
  with_reducible repeat' first
    | assumption | intro _ | apply Answers.next | apply State.spdmIn_only | apply State.spdmOk_only | dsimp only | split
  all_goals first | exact hF.sub rfl | exact hF.bit rfl

theorem execKeyUpdate_only {Fm : Nat} {s0 : State} (e : Endpoint) (session : Nat) {s : State} (hF : Inside 2336462209024 Fm) (hK : Only Fm s0 s) :
    Answers (Only Fm s0) (execKeyUpdate e session s) := by
  unfold execKeyUpdate
  with_reducible repeat' first
    | assumption | intro _ | apply Answers.next | apply State.spdmIn_only | apply State.modSec_only | apply State.spdmOk_only
    | dsimp only | split
  all_goals first | exact hF.sub rfl | exact hF.bit rfl

theorem State.cstat_only {Fm : Nat} {s0 : State} (st : Status) {s : State} (hF : Inside 16 Fm) (hK : Only Fm s0 s) :
    Only Fm s0 (State.cstat st s) := by
  unfold State.cstat
  with_reducible repeat' first
    | assumption | intro _ | apply State.setStw_only | dsimp only | split
  all_goals first | exact hF.sub rfl | exact hF.bit rfl

theorem State.cstatBusy_only {Fm : Nat} {s0 : State} {s : State} (hF : Inside 16 Fm) (hK : Only Fm s0 s) :
    Only Fm s0 (State.cstatBusy s) := by
  unfold State.cstatBusy
  with_reducible repeat' first
    | assumption | intro _ | apply State.modStw_only | dsimp only | split
  all_goals first | exact hF.sub rfl | exact hF.bit rfl

theorem State.fuseCmd_only {Fm : Nat} {s0 : State} (bad denied : Bool) (f : Fuses → Fuses) {s : State} (hF : Inside 137438953492 Fm) (hK : Only Fm s0 s) :
    Only Fm s0 (State.fuseCmd bad denied f s) := by
  unfold State.fuseCmd
  with_reducible repeat' first
    | assumption | intro _ | apply Only.ite | apply State.cstat_only | apply State.modSec_only
    | (fail_if_no_progress refine Only.set_fuse (hF.bit (by decide)) ?_) | dsimp only | split
  all_goals first | exact hF.sub rfl | exact hF.bit rfl

theorem execRaiseMinsvn_only {Fm : Nat} {s0 : State} {s : State} (hF : Inside 137438953492 Fm) (hK : Only Fm s0 s) :
    Answers (Only Fm s0) (execRaiseMinsvn s) := by
  unfold execRaiseMinsvn
  with_reducible repeat' first
    | assumption | intro _ | apply Answers.next | apply State.fuseCmd_only | dsimp only | split
  all_goals first | exact hF.sub rfl | exact hF.bit rfl

theorem execRevokeKey_only {Fm : Nat} {s0 : State} (k : BitVec 2) {s : State} (hF : Inside 137438953492 Fm) (hK : Only Fm s0 s) :
    Answers (Only Fm s0) (execRevokeKey k s) := by
  unfold execRevokeKey
  with_reducible repeat' first
    | assumption | intro _ | apply Answers.next | apply State.fuseCmd_only | dsimp only | split
  all_goals first | exact hF.sub rfl | exact hF.bit rfl

theorem execFuseWriteDone_only {Fm : Nat} {s0 : State} {s : State} (hF : Inside 137438953488 Fm) (hK : Only Fm s0 s) :
    Answers (Only Fm s0) (execFuseWriteDone s) := by
  unfold execFuseWriteDone
  with_reducible repeat' first
    | assumption | intro _ | apply Answers.next | apply Only.ite | apply State.modSec_only | apply State.cstatBusy_only
    | dsimp only | split
  all_goals first | exact hF.sub rfl | exact hF.bit rfl

theorem State.keyInstall_only {Fm : Nat} {s0 : State} (slot : Nat) (k : BitVec 512) (gen : Bool) {s : State} (hF : Inside 137438953472 Fm) (hK : Only Fm s0 s) :
    Only Fm s0 (State.keyInstall slot k gen s) := by
  unfold State.keyInstall
  with_reducible repeat' first
    | assumption | intro _ | apply State.modKey_only | dsimp only | split
  all_goals first | exact hF.sub rfl | exact hF.bit rfl

theorem State.pendKey_only {Fm : Nat} {s0 : State} (slot : Nat) {s : State} (hF : Inside 96 Fm) (hK : Only Fm s0 s) :
    Only Fm s0 (State.pendKey slot s) := by
  unfold State.pendKey
  with_reducible repeat' first
    | assumption | intro _ | apply State.modHalf_only | dsimp only | split
  all_goals first | exact hF.sub rfl | exact hF.bit rfl

theorem State.keyZeroise_only {Fm : Nat} {s0 : State} (slot : Nat) {s : State} (hF : Inside 137438953568 Fm) (hK : Only Fm s0 s) :
    Only Fm s0 (State.keyZeroise slot s) := by
  unfold State.keyZeroise
  with_reducible repeat' first
    | assumption | intro _ | apply Only.ite | apply State.modKey_only | apply State.pendKey_only | dsimp only | split
  all_goals first | exact hF.sub rfl | exact hF.bit rfl

theorem State.keyDo_only {Fm : Nat} {s0 : State} (c : KeyCmd) (slot : Nat) {s : State} (hF : Inside 137438953568 Fm) (hK : Only Fm s0 s) :
    Only Fm s0 (State.keyDo c slot s) := by
  unfold State.keyDo
  with_reducible repeat' first
    | assumption | intro _ | apply Only.forAll | apply State.keyInstall_only | apply State.modSec_only
    | apply State.keyZeroise_only | dsimp only | split
  all_goals first | exact hF.sub rfl | exact hF.bit rfl

theorem State.keyVendor_only {Fm : Nat} {s0 : State} (e : Endpoint) (session : Nat) (c : KeyCmd) (slot : Nat) (rsvd : Bool) {s : State} (hF : Inside 11132555231328 Fm) (hK : Only Fm s0 s) :
    Only Fm s0 (State.keyVendor e session c slot rsvd s) := by
  unfold State.keyVendor
  with_reducible repeat' first
    | assumption | intro _ | apply Only.ite | apply State.spdmIn_only | apply State.keyDo_only | apply State.spdmOk_only
    | apply State.tickFree_only | dsimp only | split
  all_goals first | exact hF.sub rfl | exact hF.bit rfl

theorem execSpdmLoad_only {Fm : Nat} {s0 : State} (e : Endpoint) (session : Nat) (slot : BitVec 8) (rsvd : Bool) (k1 k2 : W256) {s : State} (hF : Inside 11132555231328 Fm) (hK : Only Fm s0 s) :
    Answers (Only Fm s0) (execSpdmLoad e session slot rsvd k1 k2 s) := by
  unfold execSpdmLoad
  with_reducible repeat' first
    | assumption | intro _ | apply Answers.next | apply State.keyVendor_only | dsimp only | split
  all_goals first | exact hF.sub rfl | exact hF.bit rfl

theorem execSpdmKeygen_only {Fm : Nat} {s0 : State} (e : Endpoint) (session : Nat) (slot : BitVec 8) (rsvd : Bool) {s : State} (hF : Inside 11132555231328 Fm) (hK : Only Fm s0 s) :
    Answers (Only Fm s0) (execSpdmKeygen e session slot rsvd s) := by
  unfold execSpdmKeygen
  with_reducible repeat' first
    | assumption | intro _ | apply Answers.next | apply State.keyVendor_only | dsimp only | split
  all_goals first | exact hF.sub rfl | exact hF.bit rfl

theorem execSpdmZeroise_only {Fm : Nat} {s0 : State} (e : Endpoint) (session : Nat) (slot : BitVec 8) (rsvd : Bool) {s : State} (hF : Inside 11132555231328 Fm) (hK : Only Fm s0 s) :
    Answers (Only Fm s0) (execSpdmZeroise e session slot rsvd s) := by
  unfold execSpdmZeroise
  with_reducible repeat' first
    | assumption | intro _ | apply Answers.next | apply State.keyVendor_only | dsimp only | split
  all_goals first | exact hF.sub rfl | exact hF.bit rfl

theorem execSpdmZeroiseAll_only {Fm : Nat} {s0 : State} (e : Endpoint) (session : Nat) (rsvd : Bool) {s : State} (hF : Inside 11132555231328 Fm) (hK : Only Fm s0 s) :
    Answers (Only Fm s0) (execSpdmZeroiseAll e session rsvd s) := by
  unfold execSpdmZeroiseAll
  with_reducible repeat' first
    | assumption | intro _ | apply Answers.next | apply State.keyVendor_only | dsimp only | split
  all_goals first | exact hF.sub rfl | exact hF.bit rfl

theorem State.kcmd_only {Fm : Nat} {s0 : State} (c : KeyCmd) (bad : Bool) (slot : Nat) {s : State} (hF : Inside 137438953584 Fm) (hK : Only Fm s0 s) :
    Only Fm s0 (State.kcmd c bad slot s) := by
  unfold State.kcmd
  with_reducible repeat' first
    | assumption | intro _ | apply Only.ite | apply State.keyDo_only | apply State.modSec_only | apply State.cstat_only
    | dsimp only | split
  all_goals first | exact hF.sub rfl | exact hF.bit rfl

theorem execKcmdKeygen_only {Fm : Nat} {s0 : State} (slot : BitVec 8) {s : State} (hF : Inside 137438953584 Fm) (hK : Only Fm s0 s) :
    Answers (Only Fm s0) (execKcmdKeygen slot s) := by
  unfold execKcmdKeygen
  with_reducible repeat' first
    | assumption | intro _ | apply Answers.next | apply State.kcmd_only | dsimp only | split
  all_goals first | exact hF.sub rfl | exact hF.bit rfl

theorem execKcmdZeroise_only {Fm : Nat} {s0 : State} (slot : BitVec 8) {s : State} (hF : Inside 137438953584 Fm) (hK : Only Fm s0 s) :
    Answers (Only Fm s0) (execKcmdZeroise slot s) := by
  unfold execKcmdZeroise
  with_reducible repeat' first
    | assumption | intro _ | apply Answers.next | apply State.kcmd_only | dsimp only | split
  all_goals first | exact hF.sub rfl | exact hF.bit rfl

theorem execKcmdZeroiseAll_only {Fm : Nat} {s0 : State} {s : State} (hF : Inside 137438953584 Fm) (hK : Only Fm s0 s) :
    Answers (Only Fm s0) (execKcmdZeroiseAll s) := by
  unfold execKcmdZeroiseAll
  with_reducible repeat' first
    | assumption | intro _ | apply Answers.next | apply State.kcmd_only | dsimp only | split
  all_goals first | exact hF.sub rfl | exact hF.bit rfl

theorem execZeroiseDone_only {Fm : Nat} {s0 : State} (slot : BitVec 8) {s : State} (hF : Inside 137438953488 Fm) (hK : Only Fm s0 s) :
    Answers (Only Fm s0) (execZeroiseDone slot s) := by
  unfold execZeroiseDone
  with_reducible repeat' first
    | assumption | intro _ | apply Answers.next | apply Answers.ite | apply State.modKey_only | apply State.modSec_only
    | apply State.cstatBusy_only | dsimp only | split
  all_goals first | exact hF.sub rfl | exact hF.bit rfl

theorem execBindWrite_only {Fm : Nat} {s0 : State} (e : Endpoint) (session : Option Nat) (eid : Byte) {s : State} (hF : Inside 137438953472 Fm) (hK : Only Fm s0 s) :
    Answers (Only Fm s0) (execBindWrite e session eid s) := by
  unfold execBindWrite
  with_reducible repeat' first
    | assumption | intro _ | apply Answers.next | apply Only.ite | apply State.modSec_only | dsimp only | split
  all_goals first | exact hF.sub rfl | exact hF.bit rfl

theorem State.keysEmpty_only {Fm : Nat} {s0 : State} {s : State} (hF : Inside 137438953584 Fm) (hK : Only Fm s0 s) :
    Only Fm s0 (State.keysEmpty s) := by
  unfold State.keysEmpty
  with_reducible repeat' first
    | assumption | intro _ | apply Only.forAll | apply State.pendKey_only | apply State.modKey_only | apply State.modSec_only
    | apply State.cstatBusy_only | dsimp only | split
  all_goals first | exact hF.sub rfl | exact hF.bit rfl

theorem State.ideFail_only {Fm : Nat} {s0 : State} (p : Nat) {s : State} (hF : Inside 16617041792912 Fm) (hK : Only Fm s0 s) :
    Only Fm s0 (State.ideFail p s) := by
  unfold State.ideFail
  with_reducible repeat' first
    | assumption | intro _ | apply Only.ite | apply State.modPort_only | apply State.enterDrain_only | dsimp only | split
  all_goals first | exact hF.sub rfl | exact hF.bit rfl

theorem execDebugUnlock_only {Fm : Nat} {s0 : State} (e : Endpoint) (session : Nat) (token : List Byte) {s : State} (hF : Inside 16754480746484 Fm) (hK : Only Fm s0 s) :
    Answers (Only Fm s0) (execDebugUnlock e session token s) := by
  unfold execDebugUnlock
  with_reducible repeat' first
    | assumption | intro _ | apply Answers.next | apply Only.ite | apply Only.forAll | apply State.spdmIn_only
    | apply State.modSec_only | apply State.ideFail_only | apply State.keysEmpty_only | apply State.spdmOk_only
    | apply State.emit_only | (fail_if_no_progress refine Only.set_fuse (hF.bit (by decide)) ?_) | dsimp only | split
  all_goals first | exact hF.sub rfl | exact hF.bit rfl

theorem State.ideKm_only {Fm : Nat} {s0 : State} (p : PortId) (session : Nat) (f : Nat → State → State) {s : State} (hf : ∀ p t, Only Fm s0 t → Only Fm s0 (f p t)) (hF : Inside 2199023255552 Fm) (hK : Only Fm s0 s) :
    Only Fm s0 (State.ideKm p session f s) := by
  unfold State.ideKm
  with_reducible repeat' first
    | assumption | intro _ | apply State.spdmIn_only | apply hf | dsimp only | split
  all_goals first | exact hF.sub rfl | exact hF.bit rfl

theorem execKeyProg_only {Fm : Nat} {s0 : State} (p : PortId) (session : Nat) (keySet : Bool) {s : State} (hF : Inside 2199023255808 Fm) (hK : Only Fm s0 s) :
    Answers (Only Fm s0) (execKeyProg p session keySet s) := by
  unfold execKeyProg
  with_reducible repeat' first
    | assumption | intro _ | apply Answers.next | apply State.ideKm_only | apply State.modPort_only | apply State.spdmOk_only
    | dsimp only | split
  all_goals first | exact hF.sub rfl | exact hF.bit rfl

theorem execKSetGo_only {Fm : Nat} {s0 : State} (p : PortId) (session : Nat) (keySet : Bool) {s : State} (hF : Inside 2199023255808 Fm) (hK : Only Fm s0 s) :
    Answers (Only Fm s0) (execKSetGo p session keySet s) := by
  unfold execKSetGo
  with_reducible repeat' first
    | assumption | intro _ | apply Answers.next | apply Only.ite | apply State.ideKm_only | apply State.modPort_only
    | apply State.spdmOk_only | apply State.spdmErr_only | dsimp only | split
  all_goals first | exact hF.sub rfl | exact hF.bit rfl

theorem execKSetStop_only {Fm : Nat} {s0 : State} (p : PortId) (session : Nat) (keySet : Bool) {s : State} (hF : Inside 2199023255808 Fm) (hK : Only Fm s0 s) :
    Answers (Only Fm s0) (execKSetStop p session keySet s) := by
  unfold execKSetStop
  with_reducible repeat' first
    | assumption | intro _ | apply Answers.next | apply State.ideKm_only | apply State.modPort_only | apply State.spdmOk_only
    | dsimp only | split
  all_goals first | exact hF.sub rfl | exact hF.bit rfl

theorem execIdeIntegrityFail_only {Fm : Nat} {s0 : State} (p : PortId) {s : State} (hF : Inside 16617041792912 Fm) (hK : Only Fm s0 s) :
    Answers (Only Fm s0) (execIdeIntegrityFail p s) := by
  unfold execIdeIntegrityFail
  with_reducible repeat' first
    | assumption | intro _ | apply Answers.next | apply State.ideFail_only | dsimp only | split
  all_goals first | exact hF.sub rfl | exact hF.bit rfl

/-! Machine/Update.lean. -/

theorem State.measure_only {Fm : Nat} {s0 : State} {s : State} (hF : Inside 137438953472 Fm) (hK : Only Fm s0 s) :
    Only Fm s0 (State.measure s) := by
  unfold State.measure
  with_reducible repeat' first
    | assumption | intro _ | apply Only.ite | apply State.modSec_only | dsimp only | split
  all_goals first | exact hF.sub rfl | exact hF.bit rfl

theorem State.enterStage_only {Fm : Nat} {s0 : State} (h : Half) (st : Stage) {s : State} (hF : Inside 96 Fm) (hK : Only Fm s0 s) :
    Only Fm s0 (State.enterStage h st s) := by
  unfold State.enterStage
  with_reducible repeat' first
    | assumption | intro _ | apply Only.ite | apply State.modHalf_only | dsimp only | split
  all_goals first | exact hF.sub rfl | exact hF.bit rfl

theorem State.frsHalf_only {Fm : Nat} {s0 : State} (h : Half) {s : State} (hF : Inside 2199023255552 Fm) (hK : Only Fm s0 s) :
    Only Fm s0 (State.frsHalf h s) := by
  unfold State.frsHalf
  with_reducible repeat' first
    | assumption | intro _ | apply Only.forAll | apply State.emit_only | dsimp only | split
  all_goals first | exact hF.sub rfl | exact hF.bit rfl

theorem State.checkFlash_only {Fm : Nat} {s0 : State} (h : Half) {s : State} (hF : Inside 2336462209120 Fm) (hK : Only Fm s0 s) :
    Only Fm s0 (State.checkFlash h s) := by
  unfold State.checkFlash
  with_reducible repeat' first
    | assumption | intro _ | apply Only.ite | apply State.measure_only | apply State.modHalf_only | apply State.enterStage_only
    | apply State.frsHalf_only | dsimp only | split
  all_goals first | exact hF.sub rfl | exact hF.bit rfl

theorem State.ustat_only {Fm : Nat} {s0 : State} (st : Status) {s : State} (hF : Inside 16 Fm) (hK : Only Fm s0 s) :
    Only Fm s0 (State.ustat st s) := by
  unfold State.ustat
  with_reducible repeat' first
    | assumption | intro _ | apply State.modStw_only | dsimp only | split
  all_goals first | exact hF.sub rfl | exact hF.bit rfl

theorem execUpdateBegin_only {Fm : Nat} {s0 : State} {s : State} (hF : Inside 274877906960 Fm) (hK : Only Fm s0 s) :
    Answers (Only Fm s0) (execUpdateBegin s) := by
  unfold execUpdateBegin
  with_reducible repeat' first
    | assumption | intro _ | apply Answers.next | apply Only.ite | apply State.modUpd_only | apply State.ustat_only | dsimp only
    | split
  all_goals first | exact hF.sub rfl | exact hF.bit rfl

theorem execUpdateChunk_only {Fm : Nat} {s0 : State} (c : BitVec 14) {s : State} (hF : Inside 274877906968 Fm) (hK : Only Fm s0 s) :
    Answers (Only Fm s0) (execUpdateChunk c s) := by
  unfold execUpdateChunk
  with_reducible repeat' first
    | assumption | intro _ | apply Answers.next | apply Only.ite | apply State.modUpd_only | apply State.ustat_only
    | (fail_if_no_progress refine Only.set_flash (hF.bit (by decide)) ?_) | dsimp only | split
  all_goals first | exact hF.sub rfl | exact hF.bit rfl

theorem State.noteErr_only {Fm : Nat} {s0 : State} (e : Nat) {s : State} (hF : Inside 96 Fm) (hK : Only Fm s0 s) :
    Only Fm s0 (State.noteErr e s) := by
  unfold State.noteErr
  with_reducible repeat' first
    | assumption | intro _ | apply State.modHalf_only | dsimp only | split
  all_goals first | exact hF.sub rfl | exact hF.bit rfl

theorem State.recoverAll_only {Fm : Nat} {s0 : State} {s : State} (hF : Inside 2336462209120 Fm) (hK : Only Fm s0 s) :
    Only Fm s0 (State.recoverAll s) := by
  unfold State.recoverAll
  with_reducible repeat' first
    | assumption | intro _ | apply Only.ite | apply Only.forAll | apply State.checkFlash_only | dsimp only | split
  all_goals first | exact hF.sub rfl | exact hF.bit rfl

theorem execUpdateVerify_only {Fm : Nat} {s0 : State} {s : State} (hF : Inside 2611340116088 Fm) (hK : Only Fm s0 s) :
    Answers (Only Fm s0) (execUpdateVerify s) := by
  unfold execUpdateVerify
  with_reducible repeat' first
    | assumption | intro _ | apply Answers.next | apply Answers.ite | apply State.ustat_only | apply State.noteErr_only
    | apply State.modUpd_only | apply State.recoverAll_only
    | (fail_if_no_progress refine Only.set_flash (hF.bit (by decide)) ?_) | dsimp only | split
  all_goals first | exact hF.sub rfl | exact hF.bit rfl

theorem execUpdateCommit_only {Fm : Nat} {s0 : State} {s : State} (hF : Inside 274877906960 Fm) (hK : Only Fm s0 s) :
    Answers (Only Fm s0) (execUpdateCommit s) := by
  unfold execUpdateCommit
  with_reducible repeat' first
    | assumption | intro _ | apply Answers.next | apply Only.ite | apply State.modUpd_only | apply State.ustat_only | dsimp only
    | split
  all_goals first | exact hF.sub rfl | exact hF.bit rfl

theorem execUpdateAbandon_only {Fm : Nat} {s0 : State} {s : State} (hF : Inside 274877906960 Fm) (hK : Only Fm s0 s) :
    Answers (Only Fm s0) (execUpdateAbandon s) := by
  unfold execUpdateAbandon
  with_reducible repeat' first
    | assumption | intro _ | apply Answers.next | apply Only.ite | apply State.modUpd_only | apply State.ustat_only | dsimp only
    | split
  all_goals first | exact hF.sub rfl | exact hF.bit rfl

theorem execUpdateCommitDone_only {Fm : Nat} {s0 : State} {s : State} (hF : Inside 274877907064 Fm) (hK : Only Fm s0 s) :
    Answers (Only Fm s0) (execUpdateCommitDone s) := by
  unfold execUpdateCommitDone
  with_reducible repeat' first
    | assumption | intro _ | apply Answers.next | apply Answers.ite | apply Only.ite | apply State.modUpd_only
    | apply State.ustat_only | apply State.noteErr_only | (fail_if_no_progress refine Only.set_flash (hF.bit (by decide)) ?_)
    | dsimp only | split
  all_goals first | exact hF.sub rfl | exact hF.bit rfl

theorem State.cutCommit_only {Fm : Nat} {s0 : State} {s : State} (hF : Inside 8796093022216 Fm) (hK : Only Fm s0 s) :
    Only Fm s0 (State.cutCommit s) := by
  unfold State.cutCommit
  with_reducible repeat' first
    | assumption | intro _ | apply Only.ite | apply State.tickFree_only
    | (fail_if_no_progress refine Only.set_flash (hF.bit (by decide)) ?_) | dsimp only | split
  all_goals first | exact hF.sub rfl | exact hF.bit rfl

theorem State.bistStatus_only {Fm : Nat} {s0 : State} (st : Status) {s : State} (hF : Inside 16 Fm) (hK : Only Fm s0 s) :
    Only Fm s0 (State.bistStatus st s) := by
  unfold State.bistStatus
  with_reducible repeat' first
    | assumption | intro _ | apply State.modStw_only | dsimp only | split
  all_goals first | exact hF.sub rfl | exact hF.bit rfl

theorem State.bistTpass_only {Fm : Nat} {s0 : State} (cls n : Nat) (v : Bool) {s : State} (hF : Inside 201326592 Fm) (hK : Only Fm s0 s) :
    Only Fm s0 (State.bistTpass cls n v s) := by
  unfold State.bistTpass
  with_reducible repeat' first
    | assumption | intro _ | apply State.modFe_only | apply State.modTc_only | dsimp only | split
  all_goals first | exact hF.sub rfl | exact hF.bit rfl

theorem State.bistStart_only {Fm : Nat} {s0 : State} (cls n : Nat) {s : State} (hF : Inside 343798710288 Fm) (hK : Only Fm s0 s) :
    Only Fm s0 (State.bistStart cls n s) := by
  unfold State.bistStart
  with_reducible repeat' first
    | assumption | intro _ | apply Only.ite | apply State.bistStatus_only | apply State.modUpd_only | apply State.setStw_only
    | apply State.bistTpass_only | apply State.maintAsk_only | dsimp only | split
  all_goals first | exact hF.sub rfl | exact hF.bit rfl

theorem execBistFe_only {Fm : Nat} {s0 : State} (n : BitVec 9) {s : State} (hF : Inside 343798710288 Fm) (hK : Only Fm s0 s) :
    Answers (Only Fm s0) (execBistFe n s) := by
  unfold execBistFe
  with_reducible repeat' first
    | assumption | intro _ | apply Answers.next | apply State.bistStart_only | dsimp only | split
  all_goals first | exact hF.sub rfl | exact hF.bit rfl

theorem execBistTc_only {Fm : Nat} {s0 : State} (n : BitVec 9) {s : State} (hF : Inside 343798710288 Fm) (hK : Only Fm s0 s) :
    Answers (Only Fm s0) (execBistTc n s) := by
  unfold execBistTc
  with_reducible repeat' first
    | assumption | intro _ | apply Answers.next | apply State.bistStart_only | dsimp only | split
  all_goals first | exact hF.sub rfl | exact hF.bit rfl

theorem execBistRank_only {Fm : Nat} {s0 : State} (n : BitVec 9) {s : State} (hF : Inside 343798710288 Fm) (hK : Only Fm s0 s) :
    Answers (Only Fm s0) (execBistRank n s) := by
  unfold execBistRank
  with_reducible repeat' first
    | assumption | intro _ | apply Answers.next | apply State.bistStart_only | dsimp only | split
  all_goals first | exact hF.sub rfl | exact hF.bit rfl

theorem execBistPort_only {Fm : Nat} {s0 : State} (n : BitVec 9) {s : State} (hF : Inside 343798710288 Fm) (hK : Only Fm s0 s) :
    Answers (Only Fm s0) (execBistPort n s) := by
  unfold execBistPort
  with_reducible repeat' first
    | assumption | intro _ | apply Answers.next | apply State.bistStart_only | dsimp only | split
  all_goals first | exact hF.sub rfl | exact hF.bit rfl

theorem execBistDone_only {Fm : Nat} {s0 : State} (sig expected : W32) {s : State} (hF : Inside 343798710288 Fm) (hK : Only Fm s0 s) :
    Answers (Only Fm s0) (execBistDone sig expected s) := by
  unfold execBistDone
  with_reducible repeat' first
    | assumption | intro _ | apply Answers.next | apply Answers.ite | apply State.modUpd_only | apply State.maintEnd_only
    | apply State.setStw_only | apply State.bistTpass_only | dsimp only | split
  all_goals first | exact hF.sub rfl | exact hF.bit rfl

/-! Machine/BringUp.lean. -/

theorem State.moduleReset_only {Fm : Nat} {s0 : State} (p : Pins) {s : State} (hF : Inside 35184372088831 Fm) (_ : Only Fm s0 s) :
    Only Fm s0 (State.moduleReset p s) := Only.all hF

theorem execModuleReset_only {Fm : Nat} {s0 : State} (byResetN : Bool) {s : State} (hF : Inside 35184372088831 Fm) (hK : Only Fm s0 s) :
    Answers (Only Fm s0) (execModuleReset byResetN s) := by
  unfold execModuleReset
  with_reducible repeat' first
    | assumption | intro _ | apply Answers.next | apply State.moduleReset_only | dsimp only | split
  all_goals first | exact hF.sub rfl | exact hF.bit rfl

theorem execVinOutOfRange_only {Fm : Nat} {s0 : State} {s : State} (hF : Inside 35184372088831 Fm) (hK : Only Fm s0 s) :
    Answers (Only Fm s0) (execVinOutOfRange s) := by
  unfold execVinOutOfRange
  with_reducible repeat' first
    | assumption | intro _ | apply Answers.next | apply State.moduleReset_only | dsimp only | split
  all_goals first | exact hF.sub rfl | exact hF.bit rfl

theorem execVinRestored_only {Fm : Nat} {s0 : State} {s : State} (hF : Inside 2 Fm) (hK : Only Fm s0 s) :
    Answers (Only Fm s0) (execVinRestored s) := by
  unfold execVinRestored
  with_reducible repeat' first
    | assumption | intro _ | apply Answers.next | (fail_if_no_progress refine Only.set_pins (hF.bit (by decide)) ?_)
    | dsimp only | split
  all_goals first | exact hF.sub rfl | exact hF.bit rfl

theorem execRailsGood_only {Fm : Nat} {s0 : State} {s : State} (hF : Inside 2 Fm) (hK : Only Fm s0 s) :
    Answers (Only Fm s0) (execRailsGood s) := by
  unfold execRailsGood
  with_reducible repeat' first
    | assumption | intro _ | apply Answers.next | apply Only.ite
    | (fail_if_no_progress refine Only.set_pins (hF.bit (by decide)) ?_) | dsimp only | split
  all_goals first | exact hF.sub rfl | exact hF.bit rfl

theorem execRailOutOfLimits_only {Fm : Nat} {s0 : State} {s : State} (hF : Inside 35184372088831 Fm) (hK : Only Fm s0 s) :
    Answers (Only Fm s0) (execRailOutOfLimits s) := by
  unfold execRailOutOfLimits
  with_reducible repeat' first
    | assumption | intro _ | apply Answers.next | apply State.moduleReset_only | dsimp only | split
  all_goals first | exact hF.sub rfl | exact hF.bit rfl

theorem execMeshLinkFailure_only {Fm : Nat} {s0 : State} (h : Half) {s : State} (hF : Inside 0 Fm) (hK : Only Fm s0 s) :
    Answers (Only Fm s0) (execMeshLinkFailure h s) := by
  unfold execMeshLinkFailure
  with_reducible repeat' first
    | assumption | intro _ | apply Answers.next | dsimp only | split
  all_goals first | exact hF.sub rfl | exact hF.bit rfl

theorem execBringupTrigger_only {Fm : Nat} {s0 : State} (bridge : Bool) {s : State} (hF : Inside 2336462209506 Fm) (hK : Only Fm s0 s) :
    Answers (Only Fm s0) (execBringupTrigger bridge s) := by
  unfold execBringupTrigger
  with_reducible repeat' first
    | assumption | intro _ | apply Answers.next | apply Answers.ite | apply Only.forAll | apply State.modSec_only
    | apply State.modHalf_only | apply State.enterStage_only | apply State.leaveReset_only
    | (fail_if_no_progress refine Only.set_pins_bridge (hF.bit (by decide)) (hF.bit (by decide)) ?_) | dsimp only | split
  all_goals first | exact hF.sub rfl | exact hF.bit rfl

theorem State.step3_only {Fm : Nat} {s0 : State} (h : Half) {s : State} (hF : Inside 2336462209120 Fm) (hK : Only Fm s0 s) :
    Only Fm s0 (State.step3 h s) := by
  unfold State.step3
  with_reducible repeat' first
    | assumption | intro _ | apply Only.ite | apply State.checkFlash_only | dsimp only | split
  all_goals first | exact hF.sub rfl | exact hF.bit rfl

theorem State.applyConfig_only {Fm : Nat} {s0 : State} {s : State} (hF : Inside 16 Fm) (hK : Only Fm s0 s) :
    Only Fm s0 (State.applyConfig s) := by
  unfold State.applyConfig
  with_reducible repeat' first
    | assumption | intro _ | apply State.setStw_only | dsimp only | split
  all_goals first | exact hF.sub rfl | exact hF.bit rfl

theorem State.step4_only {Fm : Nat} {s0 : State} (h : Half) {s : State} (hF : Inside 17179869296 Fm) (hK : Only Fm s0 s) :
    Only Fm s0 (State.step4 h s) := by
  unfold State.step4
  with_reducible repeat' first
    | assumption | intro _ | apply State.enterStage_only | apply State.applyConfig_only | apply State.modDmc_only | dsimp only
    | split
  all_goals first | exact hF.sub rfl | exact hF.bit rfl

theorem execVerifySync_only {Fm : Nat} {s0 : State} (h : Half) {s : State} (hF : Inside 2353642078320 Fm) (hK : Only Fm s0 s) :
    Answers (Only Fm s0) (execVerifySync h s) := by
  unfold execVerifySync
  with_reducible repeat' first
    | assumption | intro _ | apply Answers.next | apply Only.ite | apply State.step3_only | apply State.step4_only | dsimp only
    | split
  all_goals first | exact hF.sub rfl | exact hF.bit rfl

theorem execVerifyWaitTimeout_only {Fm : Nat} {s0 : State} (h : Half) {s : State} (hF : Inside 3521873708656 Fm) (hK : Only Fm s0 s) :
    Answers (Only Fm s0) (execVerifyWaitTimeout h s) := by
  unfold execVerifyWaitTimeout
  with_reducible repeat' first
    | assumption | intro _ | apply Answers.next | apply Answers.ite | apply State.step3_only | apply State.step4_only
    | apply State.stewRec_only | apply State.alert_only | apply State.fmHealth_only | dsimp only | split
  all_goals first | exact hF.sub rfl | exact hF.bit rfl

theorem execRecoveryRetry_only {Fm : Nat} {s0 : State} (h : Half) {s : State} (hF : Inside 2336462209120 Fm) (hK : Only Fm s0 s) :
    Answers (Only Fm s0) (execRecoveryRetry h s) := by
  unfold execRecoveryRetry
  with_reducible repeat' first
    | assumption | intro _ | apply Answers.next | apply Only.ite | apply State.checkFlash_only | dsimp only | split
  all_goals first | exact hF.sub rfl | exact hF.bit rfl

theorem State.startRank_only {Fm : Nat} {s0 : State} (n : Nat) {s : State} (hF : Inside 2284923127312 Fm) (hK : Only Fm s0 s) :
    Only Fm s0 (State.startRank n s) := by
  unfold State.startRank
  with_reducible repeat' first
    | assumption | intro _ | apply Only.ite | apply State.setRank_only | apply State.retireRank_only | apply State.logRec_only
    | apply State.modRank_only | apply State.modDmc_only | dsimp only | split
  all_goals first | exact hF.sub rfl | exact hF.bit rfl

theorem State.startEntry_only {Fm : Nat} {s0 : State} (w : W64) {s : State} (hF : Inside 2319484225040 Fm) (hK : Only Fm s0 s) :
    Only Fm s0 (State.startEntry w s) := by
  unfold State.startEntry
  with_reducible repeat' first
    | assumption | intro _ | apply Only.ite | apply State.modFe_only | apply State.modTc_only | apply State.modBank_only
    | apply State.startRank_only | apply State.leaveSlot_only | apply State.leaveUnit_only | dsimp only | split
  all_goals first | exact hF.sub rfl | exact hF.bit rfl

theorem State.startList_only {Fm : Nat} {s0 : State} (h : Half) {s : State} (hF : Inside 2319484225040 Fm) (hK : Only Fm s0 s) :
    Only Fm s0 (State.startList h s) := by
  unfold State.startList
  with_reducible repeat' first
    | assumption | intro _ | apply Only.forAll | apply State.retireRank_only | apply State.startEntry_only | dsimp only | split
  all_goals first | exact hF.sub rfl | exact hF.bit rfl

theorem execFirmwareStart_only {Fm : Nat} {s0 : State} (h : Half) {s : State} (hF : Inside 2319484225136 Fm) (hK : Only Fm s0 s) :
    Answers (Only Fm s0) (execFirmwareStart h s) := by
  unfold execFirmwareStart
  with_reducible repeat' first
    | assumption | intro _ | apply Answers.next | apply Answers.ite | apply State.modHalf_only | apply State.enterStage_only
    | apply State.startList_only | apply State.frsHalf_only | dsimp only | split
  all_goals first | exact hF.sub rfl | exact hF.bit rfl

theorem execFunctionReady_only {Fm : Nat} {s0 : State} (h : Half) (f : Fn) {s : State} (hF : Inside 2199023781472 Fm) (hK : Only Fm s0 s) :
    Answers (Only Fm s0) (execFunctionReady h f s) := by
  unfold execFunctionReady
  with_reducible repeat' first
    | assumption | intro _ | apply Answers.next | apply Only.ite | apply State.withReady_only | apply State.modHalf_only
    | dsimp only | split
  all_goals first | exact hF.sub rfl | exact hF.bit rfl

theorem State.fillTick_only {Fm : Nat} {s0 : State} (h : Half) {s : State} (hF : Inside 96 Fm) (hK : Only Fm s0 s) :
    Only Fm s0 (State.fillTick h s) := by
  unfold State.fillTick
  with_reducible repeat' first
    | assumption | intro _ | apply Only.ite | apply State.enterStage_only | dsimp only | split
  all_goals first | exact hF.sub rfl | exact hF.bit rfl

theorem State.tick_only {Fm : Nat} {s0 : State} {s : State} (hF : Inside 1073741937 Fm) (hK : Only Fm s0 s) :
    Only Fm s0 (State.tick s) := by
  unfold State.tick
  with_reducible repeat' first
    | assumption | intro _ | apply State.fillTick_only | apply State.releaseTick_only
    | (fail_if_no_progress refine Only.set_clk (hF.bit (by decide)) ?_) | dsimp only | split
  all_goals first | exact hF.sub rfl | exact hF.bit rfl

/-! Machine/Power.lean. -/

theorem execGovernorPlan_only {Fm : Nat} {s0 : State} (pin pavg : W16) {s : State} (hF : Inside 549755813904 Fm) (hK : Only Fm s0 s) :
    Answers (Only Fm s0) (execGovernorPlan pin pavg s) := by
  unfold execGovernorPlan
  with_reducible repeat' first
    | assumption | intro _ | apply Answers.next | apply Only.ite | apply State.modPwm_only | apply State.setStw_only
    | apply State.alert_only | dsimp only | split
  all_goals first | exact hF.sub rfl | exact hF.bit rfl

theorem State.tempRec_only {Fm : Nat} {s0 : State} (level : Nat) {s : State} (hF : Inside 1099511627776 Fm) (hK : Only Fm s0 s) :
    Only Fm s0 (State.tempRec level s) := by
  unfold State.tempRec
  with_reducible repeat' first
    | assumption | intro _ | apply State.fmStd_only | dsimp only | split
  all_goals first | exact hF.sub rfl | exact hF.bit rfl

theorem execSensorSample_only {Fm : Nat} {s0 : State} (temps : List Int) {s : State} (hF : Inside 1649267441682 Fm) (hK : Only Fm s0 s) :
    Answers (Only Fm s0) (execSensorSample temps s) := by
  unfold execSensorSample
  with_reducible repeat' first
    | assumption | intro _ | apply Answers.next | apply Answers.ite | apply Only.forAll | apply State.setStw_only
    | apply State.modPwm_only | apply State.alert_only | apply State.tempRec_only
    | (fail_if_no_progress refine Only.set_pins (hF.bit (by decide)) ?_) | dsimp only | split
  all_goals first | exact hF.sub rfl | exact hF.bit rfl

theorem execThermalCapStep_only {Fm : Nat} {s0 : State} {s : State} (hF : Inside 549755813888 Fm) (hK : Only Fm s0 s) :
    Answers (Only Fm s0) (execThermalCapStep s) := by
  unfold execThermalCapStep
  with_reducible repeat' first
    | assumption | intro _ | apply Answers.next | apply State.modPwm_only | dsimp only | split
  all_goals first | exact hF.sub rfl | exact hF.bit rfl

theorem execThermalTrip_only {Fm : Nat} {s0 : State} {s : State} (hF : Inside 35184372088831 Fm) (hK : Only Fm s0 s) :
    Answers (Only Fm s0) (execThermalTrip s) := by
  unfold execThermalTrip
  with_reducible repeat' first
    | assumption | intro _ | apply Answers.next | apply State.moduleReset_only | dsimp only | split
  all_goals first | exact hF.sub rfl | exact hF.bit rfl

theorem execTripRelease_only {Fm : Nat} {s0 : State} {s : State} (hF : Inside 2 Fm) (hK : Only Fm s0 s) :
    Answers (Only Fm s0) (execTripRelease s) := by
  unfold execTripRelease
  with_reducible repeat' first
    | assumption | intro _ | apply Answers.next | apply Only.ite
    | (fail_if_no_progress refine Only.set_pins (hF.bit (by decide)) ?_) | dsimp only | split
  all_goals first | exact hF.sub rfl | exact hF.bit rfl

theorem State.parkIdle_only {Fm : Nat} {s0 : State} {s : State} (hF : Inside 68719476752 Fm) (hK : Only Fm s0 s) :
    Only Fm s0 (State.parkIdle s) := by
  unfold State.parkIdle
  with_reducible repeat' first
    | assumption | intro _ | apply Only.forAll | apply State.modAct_only | apply State.countPark_only
    | apply State.setDefer_only | dsimp only | split
  all_goals first | exact hF.sub rfl | exact hF.bit rfl

theorem execStandbyEnter_only {Fm : Nat} {s0 : State} {s : State} (hF : Inside 652902138128 Fm) (hK : Only Fm s0 s) :
    Answers (Only Fm s0) (execStandbyEnter s) := by
  unfold execStandbyEnter
  with_reducible repeat' first
    | assumption | intro _ | apply Answers.next | apply Answers.ite | apply Only.ite | apply Only.forAll
    | apply State.modPwm_only | apply State.cntStw_only | apply State.parkIdle_only | apply State.toFallow_only
    | (fail_if_no_progress refine Only.set_ports (hF.bit (by decide)) ?_) | dsimp only | split
  all_goals first | exact hF.sub rfl | exact hF.bit rfl

theorem execStandbyExit_only {Fm : Nat} {s0 : State} (cause : Option PortId) {s : State} (hF : Inside 635655160080 Fm) (hK : Only Fm s0 s) :
    Answers (Only Fm s0) (execStandbyExit cause s) := by
  unfold execStandbyExit
  with_reducible repeat' first
    | assumption | intro _ | apply Answers.next | apply Answers.ite | apply Only.forAll | apply State.modPwm_only
    | apply State.modPort_only | apply State.takePause_only | apply State.resume_only | dsimp only | split
  all_goals first | exact hF.sub rfl | exact hF.bit rfl

theorem State.abandonFw_only {Fm : Nat} {s0 : State} {s : State} (hF : Inside 412316860416 Fm) (hK : Only Fm s0 s) :
    Only Fm s0 (State.abandonFw s) := by
  unfold State.abandonFw
  with_reducible repeat' first
    | assumption | intro _ | apply State.modSec_only | apply State.modUpd_only | dsimp only | split
  all_goals first | exact hF.sub rfl | exact hF.bit rfl

theorem State.setRole_only {Fm : Nat} {s0 : State} (h : Half) (r : Steward) {s : State} (hF : Inside 96 Fm) (hK : Only Fm s0 s) :
    Only Fm s0 (State.setRole h r s) := by
  unfold State.setRole
  with_reducible repeat' first
    | assumption | intro _ | apply State.modHalf_only | dsimp only | split
  all_goals first | exact hF.sub rfl | exact hF.bit rfl

theorem execWatchdogExpire_only {Fm : Nat} {s0 : State} (h : Half) {s : State} (hF : Inside 2680060118640 Fm) (hK : Only Fm s0 s) :
    Answers (Only Fm s0) (execWatchdogExpire h s) := by
  unfold execWatchdogExpire
  with_reducible repeat' first
    | assumption | intro _ | apply Answers.next | apply Only.ite | apply State.setRole_only | apply State.abandonFw_only
    | apply State.stewRec_only | dsimp only | split
  all_goals first | exact hF.sub rfl | exact hF.bit rfl

theorem execTokenReceived_only {Fm : Nat} {s0 : State} (h : Half) {s : State} (hF : Inside 2267743258224 Fm) (hK : Only Fm s0 s) :
    Answers (Only Fm s0) (execTokenReceived h s) := by
  unfold execTokenReceived
  with_reducible repeat' first
    | assumption | intro _ | apply Answers.next | apply Only.ite | apply State.setRole_only | apply State.cntStw_only
    | apply State.alert_only | apply State.stewRec_only | dsimp only | split
  all_goals first | exact hF.sub rfl | exact hF.bit rfl

theorem execTokenLinkTimeout_only {Fm : Nat} {s0 : State} (h : Half) {s : State} (hF : Inside 2267743258352 Fm) (hK : Only Fm s0 s) :
    Answers (Only Fm s0) (execTokenLinkTimeout h s) := by
  unfold execTokenLinkTimeout
  with_reducible repeat' first
    | assumption | intro _ | apply Answers.next | apply Answers.ite | apply Only.ite | apply State.setRole_only
    | apply State.alert_only | apply State.stewRec_only | (fail_if_no_progress refine Only.set_bridge (hF.bit (by decide)) ?_)
    | dsimp only | split
  all_goals first | exact hF.sub rfl | exact hF.bit rfl

theorem execTokenLinkReturn_only {Fm : Nat} {s0 : State} {s : State} (hF : Inside 96 Fm) (hK : Only Fm s0 s) :
    Answers (Only Fm s0) (execTokenLinkReturn s) := by
  unfold execTokenLinkReturn
  with_reducible repeat' first
    | assumption | intro _ | apply Answers.next | apply Only.ite | apply State.setRole_only | dsimp only | split
  all_goals first | exact hF.sub rfl | exact hF.bit rfl

theorem execCoreRestartDone_only {Fm : Nat} {s0 : State} (h : Half) {s : State} (hF : Inside 2267743258352 Fm) (hK : Only Fm s0 s) :
    Answers (Only Fm s0) (execCoreRestartDone h s) := by
  unfold execCoreRestartDone
  with_reducible repeat' first
    | assumption | intro _ | apply Answers.next | apply Answers.ite | apply Only.ite | apply State.setRole_only
    | apply State.alert_only | apply State.stewRec_only | (fail_if_no_progress refine Only.set_bridge (hF.bit (by decide)) ?_)
    | dsimp only | split
  all_goals first | exact hF.sub rfl | exact hF.bit rfl

/-! Machine/Management.lean. -/

theorem State.mgmtOk_only {Fm : Nat} {s0 : State} (e : Endpoint) (d : List W32) {s : State} (hF : Inside 2199023255552 Fm) (hK : Only Fm s0 s) :
    Only Fm s0 (State.mgmtOk e d s) := by
  unfold State.mgmtOk
  with_reducible repeat' first
    | assumption | intro _ | apply State.emit_only | dsimp only | split
  all_goals first | exact hF.sub rfl | exact hF.bit rfl

theorem State.mgmtNo_only {Fm : Nat} {s0 : State} (e : Endpoint) {s : State} (hF : Inside 2199023255552 Fm) (hK : Only Fm s0 s) :
    Only Fm s0 (State.mgmtNo e s) := by
  unfold State.mgmtNo
  with_reducible repeat' first
    | assumption | intro _ | apply State.emit_only | dsimp only | split
  all_goals first | exact hF.sub rfl | exact hF.bit rfl

theorem State.mgmtOpen_only {Fm : Nat} {s0 : State} (e : Endpoint) (d : List W32) {s : State} (hF : Inside 10995116277760 Fm) (hK : Only Fm s0 s) :
    Only Fm s0 (State.mgmtOpen e d s) := by
  unfold State.mgmtOpen
  with_reducible repeat' first
    | assumption | intro _ | apply State.mgmtOk_only | apply State.tickFree_only | dsimp only | split
  all_goals first | exact hF.sub rfl | exact hF.bit rfl

theorem State.fmCmd_only {Fm : Nat} {s0 : State} (e : Endpoint) (f : Nat → State → State) {s : State} (hf : ∀ o t, Only Fm s0 t → Only Fm s0 (f o t)) (hF : Inside 2199023255552 Fm) (hK : Only Fm s0 s) :
    Only Fm s0 (State.fmCmd e f s) := by
  unfold State.fmCmd
  with_reducible repeat' first
    | assumption | intro _ | apply Only.ite | apply State.mgmtNo_only | apply hf | dsimp only | split
  all_goals first | exact hF.sub rfl | exact hF.bit rfl

theorem State.cciCmd_only {Fm : Nat} {s0 : State} (e : Endpoint) (fm : Nat → State → State) (ld : Nat → State → State) {s : State} (hf : ∀ o t, Only Fm s0 t → Only Fm s0 (fm o t)) (hg : ∀ o t, Only Fm s0 t → Only Fm s0 (ld o t)) (hF : Inside 2199023255552 Fm) (hK : Only Fm s0 s) :
    Only Fm s0 (State.cciCmd e fm ld s) := by
  unfold State.cciCmd
  with_reducible repeat' first
    | assumption | intro _ | apply Only.ite | apply State.mgmtNo_only | apply hf | apply hg | dsimp only | split
  all_goals first | exact hF.sub rfl | exact hF.bit rfl

theorem execMctpControl_only {Fm : Nat} {s0 : State} (e : Endpoint) (setEid : Option Byte) {s : State} (hF : Inside 12094627905536 Fm) (hK : Only Fm s0 s) :
    Answers (Only Fm s0) (execMctpControl e setEid s) := by
  unfold execMctpControl
  with_reducible repeat' first
    | assumption | intro _ | apply Answers.next | apply Answers.ite | apply State.mgmtNo_only | apply State.modMgmt_only
    | apply State.mgmtOpen_only | dsimp only | split
  all_goals first | exact hF.sub rfl | exact hF.bit rfl

theorem execI3cDynamicAddressAssignment_only {Fm : Nat} {s0 : State} (addr : BitVec 7) {s : State} (hF : Inside 1099511627776 Fm) (hK : Only Fm s0 s) :
    Answers (Only Fm s0) (execI3cDynamicAddressAssignment addr s) := by
  unfold execI3cDynamicAddressAssignment
  with_reducible repeat' first
    | assumption | intro _ | apply Answers.next | apply State.modMgmt_only | dsimp only | split
  all_goals first | exact hF.sub rfl | exact hF.bit rfl

theorem execUnsupportedCommand_only {Fm : Nat} {s0 : State} (e : Endpoint) (opcode : W16) {s : State} (hF : Inside 2199023255552 Fm) (hK : Only Fm s0 s) :
    Answers (Only Fm s0) (execUnsupportedCommand e opcode s) := by
  unfold execUnsupportedCommand
  with_reducible repeat' first
    | assumption | intro _ | apply Answers.next | apply Only.ite | apply State.mgmtNo_only | dsimp only | split
  all_goals first | exact hF.sub rfl | exact hF.bit rfl

theorem execIdentify_only {Fm : Nat} {s0 : State} (e : Endpoint) {s : State} (hF : Inside 10995116277760 Fm) (hK : Only Fm s0 s) :
    Answers (Only Fm s0) (execIdentify e s) := by
  unfold execIdentify
  with_reducible repeat' first
    | assumption | intro _ | apply Answers.next | apply State.mgmtOpen_only | apply State.cciCmd_only | dsimp only | split
  all_goals first | exact hF.sub rfl | exact hF.bit rfl

theorem execBackgroundOperationStatus_only {Fm : Nat} {s0 : State} (e : Endpoint) {s : State} (hF : Inside 10995116277760 Fm) (hK : Only Fm s0 s) :
    Answers (Only Fm s0) (execBackgroundOperationStatus e s) := by
  unfold execBackgroundOperationStatus
  with_reducible repeat' first
    | assumption | intro _ | apply Answers.next | apply State.fmCmd_only | apply State.mgmtOpen_only | dsimp only | split
  all_goals first | exact hF.sub rfl | exact hF.bit rfl

theorem execGetResponseMessageLimit_only {Fm : Nat} {s0 : State} (e : Endpoint) {s : State} (hF : Inside 2199023255552 Fm) (hK : Only Fm s0 s) :
    Answers (Only Fm s0) (execGetResponseMessageLimit e s) := by
  unfold execGetResponseMessageLimit
  with_reducible repeat' first
    | assumption | intro _ | apply Answers.next | apply State.fmCmd_only | apply State.mgmtOk_only | dsimp only | split
  all_goals first | exact hF.sub rfl | exact hF.bit rfl

theorem execSetResponseMessageLimit_only {Fm : Nat} {s0 : State} (e : Endpoint) (v : Byte) {s : State} (hF : Inside 3298534883328 Fm) (hK : Only Fm s0 s) :
    Answers (Only Fm s0) (execSetResponseMessageLimit e v s) := by
  unfold execSetResponseMessageLimit
  with_reducible repeat' first
    | assumption | intro _ | apply Answers.next | apply State.fmCmd_only | apply State.modMgmt_only | apply State.mgmtOk_only
    | dsimp only | split
  all_goals first | exact hF.sub rfl | exact hF.bit rfl

theorem execGetEventRecords_only {Fm : Nat} {s0 : State} (e : Endpoint) (log : BitVec 2) {s : State} (hF : Inside 2199023255552 Fm) (hK : Only Fm s0 s) :
    Answers (Only Fm s0) (execGetEventRecords e log s) := by
  unfold execGetEventRecords
  with_reducible repeat' first
    | assumption | intro _ | apply Answers.next | apply State.cciCmd_only | apply State.mgmtOk_only | dsimp only | split
  all_goals first | exact hF.sub rfl | exact hF.bit rfl

theorem execClearEventRecords_only {Fm : Nat} {s0 : State} (e : Endpoint) (log : BitVec 2) (count : Option Nat) {s : State} (hF : Inside 3298534883840 Fm) (hK : Only Fm s0 s) :
    Answers (Only Fm s0) (execClearEventRecords e log count s) := by
  unfold execClearEventRecords
  with_reducible repeat' first
    | assumption | intro _ | apply Answers.next | apply State.cciCmd_only | apply State.modMgmt_only | apply State.mgmtOk_only
    | apply State.modLd_only | dsimp only | split
  all_goals first | exact hF.sub rfl | exact hF.bit rfl

theorem execGetEventInterruptPolicy_only {Fm : Nat} {s0 : State} (e : Endpoint) {s : State} (hF : Inside 2199023255552 Fm) (hK : Only Fm s0 s) :
    Answers (Only Fm s0) (execGetEventInterruptPolicy e s) := by
  unfold execGetEventInterruptPolicy
  with_reducible repeat' first
    | assumption | intro _ | apply Answers.next | apply State.cciCmd_only | apply State.mgmtOk_only | dsimp only | split
  all_goals first | exact hF.sub rfl | exact hF.bit rfl

theorem execSetEventInterruptPolicy_only {Fm : Nat} {s0 : State} (e : Endpoint) (v : W32) {s : State} (hF : Inside 3298534883840 Fm) (hK : Only Fm s0 s) :
    Answers (Only Fm s0) (execSetEventInterruptPolicy e v s) := by
  unfold execSetEventInterruptPolicy
  with_reducible repeat' first
    | assumption | intro _ | apply Answers.next | apply State.cciCmd_only | apply State.modMgmt_only | apply State.mgmtOk_only
    | apply State.modLd_only | dsimp only | split
  all_goals first | exact hF.sub rfl | exact hF.bit rfl

theorem execGetTimestamp_only {Fm : Nat} {s0 : State} (e : Endpoint) {s : State} (hF : Inside 2199023255552 Fm) (hK : Only Fm s0 s) :
    Answers (Only Fm s0) (execGetTimestamp e s) := by
  unfold execGetTimestamp
  with_reducible repeat' first
    | assumption | intro _ | apply Answers.next | apply State.cciCmd_only | apply State.mgmtOk_only | dsimp only | split
  all_goals first | exact hF.sub rfl | exact hF.bit rfl

theorem execSetTimestamp_only {Fm : Nat} {s0 : State} (e : Endpoint) (v : W64) {s : State} (hF : Inside 3298534883840 Fm) (hK : Only Fm s0 s) :
    Answers (Only Fm s0) (execSetTimestamp e v s) := by
  unfold execSetTimestamp
  with_reducible repeat' first
    | assumption | intro _ | apply Answers.next | apply State.cciCmd_only | apply State.modMgmt_only | apply State.mgmtOk_only
    | apply State.modLd_only | dsimp only | split
  all_goals first | exact hF.sub rfl | exact hF.bit rfl

theorem execGetSupportedLogs_only {Fm : Nat} {s0 : State} (e : Endpoint) {s : State} (hF : Inside 10995116277760 Fm) (hK : Only Fm s0 s) :
    Answers (Only Fm s0) (execGetSupportedLogs e s) := by
  unfold execGetSupportedLogs
  with_reducible repeat' first
    | assumption | intro _ | apply Answers.next | apply State.cciCmd_only | apply State.mgmtOpen_only | dsimp only | split
  all_goals first | exact hF.sub rfl | exact hF.bit rfl

theorem execGetLog_only {Fm : Nat} {s0 : State} (e : Endpoint) (off len : Nat) {s : State} (hF : Inside 10995116277760 Fm) (hK : Only Fm s0 s) :
    Answers (Only Fm s0) (execGetLog e off len s) := by
  unfold execGetLog
  with_reducible repeat' first
    | assumption | intro _ | apply Answers.next | apply State.cciCmd_only | apply State.mgmtOpen_only | dsimp only | split
  all_goals first | exact hF.sub rfl | exact hF.bit rfl

theorem execTunnelManagement_only {Fm : Nat} {s0 : State} (e : Endpoint) (ld : BitVec 4) (opcode : W16) {s : State} (hF : Inside 10995116277760 Fm) (hK : Only Fm s0 s) :
    Answers (Only Fm s0) (execTunnelManagement e ld opcode s) := by
  unfold execTunnelManagement
  with_reducible repeat' first
    | assumption | intro _ | apply Answers.next | apply Only.ite | apply State.fmCmd_only | apply State.mgmtOpen_only
    | apply State.mgmtNo_only | dsimp only | split
  all_goals first | exact hF.sub rfl | exact hF.bit rfl

theorem execSendLdConfigurationRequest_only {Fm : Nat} {s0 : State} (e : Endpoint) (ld : BitVec 4) (write : Bool) (reg : CfgReg) (v : W32) {s : State} (hF : Inside 15497128939152 Fm) (hK : Only Fm s0 s) :
    Answers (Only Fm s0) (execSendLdConfigurationRequest e ld write reg v s) := by
  unfold execSendLdConfigurationRequest
  with_reducible repeat' first
    | assumption | intro _ | apply Answers.next | apply Only.ite | apply State.fmCmd_only | apply State.mgmtNo_only
    | apply State.emit_only | apply State.cfgWrite_only | apply State.mgmtOk_only | apply State.tickFree_only | dsimp only
    | split
  all_goals first | exact hF.sub rfl | exact hF.bit rfl

theorem execGetLdInfo_only {Fm : Nat} {s0 : State} (e : Endpoint) {s : State} (hF : Inside 2199023255552 Fm) (hK : Only Fm s0 s) :
    Answers (Only Fm s0) (execGetLdInfo e s) := by
  unfold execGetLdInfo
  with_reducible repeat' first
    | assumption | intro _ | apply Answers.next | apply State.fmCmd_only | apply State.mgmtOk_only | dsimp only | split
  all_goals first | exact hF.sub rfl | exact hF.bit rfl

theorem execGetLdAllocations_only {Fm : Nat} {s0 : State} (e : Endpoint) {s : State} (hF : Inside 2199023255552 Fm) (hK : Only Fm s0 s) :
    Answers (Only Fm s0) (execGetLdAllocations e s) := by
  unfold execGetLdAllocations
  with_reducible repeat' first
    | assumption | intro _ | apply Answers.next | apply State.fmCmd_only | apply State.mgmtOk_only | dsimp only | split
  all_goals first | exact hF.sub rfl | exact hF.bit rfl

theorem execGetMultiHeadedInfo_only {Fm : Nat} {s0 : State} (e : Endpoint) {s : State} (hF : Inside 10995116277760 Fm) (hK : Only Fm s0 s) :
    Answers (Only Fm s0) (execGetMultiHeadedInfo e s) := by
  unfold execGetMultiHeadedInfo
  with_reducible repeat' first
    | assumption | intro _ | apply Answers.next | apply State.fmCmd_only | apply State.mgmtOpen_only | dsimp only | split
  all_goals first | exact hF.sub rfl | exact hF.bit rfl

theorem execGetHeadInfo_only {Fm : Nat} {s0 : State} (e : Endpoint) (p : PortId) {s : State} (hF : Inside 10995116277760 Fm) (hK : Only Fm s0 s) :
    Answers (Only Fm s0) (execGetHeadInfo e p s) := by
  unfold execGetHeadInfo
  with_reducible repeat' first
    | assumption | intro _ | apply Answers.next | apply Only.ite | apply State.fmCmd_only | apply State.mgmtNo_only
    | apply State.mgmtOpen_only | dsimp only | split
  all_goals first | exact hF.sub rfl | exact hF.bit rfl

theorem execGetDcdInfo_only {Fm : Nat} {s0 : State} (e : Endpoint) {s : State} (hF : Inside 10995116277760 Fm) (hK : Only Fm s0 s) :
    Answers (Only Fm s0) (execGetDcdInfo e s) := by
  unfold execGetDcdInfo
  with_reducible repeat' first
    | assumption | intro _ | apply Answers.next | apply State.fmCmd_only | apply State.mgmtOpen_only | dsimp only | split
  all_goals first | exact hF.sub rfl | exact hF.bit rfl

theorem execGetHostDcRegionConfiguration_only {Fm : Nat} {s0 : State} (e : Endpoint) (ld : BitVec 4) {s : State} (hF : Inside 2199023255552 Fm) (hK : Only Fm s0 s) :
    Answers (Only Fm s0) (execGetHostDcRegionConfiguration e ld s) := by
  unfold execGetHostDcRegionConfiguration
  with_reducible repeat' first
    | assumption | intro _ | apply Answers.next | apply Only.ite | apply State.fmCmd_only | apply State.mgmtOk_only
    | apply State.mgmtNo_only | dsimp only | split
  all_goals first | exact hF.sub rfl | exact hF.bit rfl

theorem execGetDcRegionExtentLists_only {Fm : Nat} {s0 : State} (e : Endpoint) (ld : BitVec 4) {s : State} (hF : Inside 2199023255552 Fm) (hK : Only Fm s0 s) :
    Answers (Only Fm s0) (execGetDcRegionExtentLists e ld s) := by
  unfold execGetDcRegionExtentLists
  with_reducible repeat' first
    | assumption | intro _ | apply Answers.next | apply Only.ite | apply State.fmCmd_only | apply State.mgmtOk_only
    | apply State.mgmtNo_only | dsimp only | split
  all_goals first | exact hF.sub rfl | exact hF.bit rfl

theorem State.ldCmd_only {Fm : Nat} {s0 : State} (t : Tenant) (f : Nat → State → State) {s : State} (hf : ∀ o t, Only Fm s0 t → Only Fm s0 (f o t)) (hF : Inside 0 Fm) (hK : Only Fm s0 s) :
    Only Fm s0 (State.ldCmd t f s) := by
  unfold State.ldCmd
  with_reducible repeat' first
    | assumption | intro _ | apply Only.ite | apply hf | dsimp only | split
  all_goals first | exact hF.sub rfl | exact hF.bit rfl

theorem execGetDynamicCapacityConfiguration_only {Fm : Nat} {s0 : State} (t : Tenant) {s : State} (hF : Inside 2199023255552 Fm) (hK : Only Fm s0 s) :
    Answers (Only Fm s0) (execGetDynamicCapacityConfiguration t s) := by
  unfold execGetDynamicCapacityConfiguration
  with_reducible repeat' first
    | assumption | intro _ | apply Answers.next | apply State.ldCmd_only | apply State.mgmtOk_only | dsimp only | split
  all_goals first | exact hF.sub rfl | exact hF.bit rfl

theorem execGetDynamicCapacityExtentList_only {Fm : Nat} {s0 : State} (t : Tenant) {s : State} (hF : Inside 2199023255552 Fm) (hK : Only Fm s0 s) :
    Answers (Only Fm s0) (execGetDynamicCapacityExtentList t s) := by
  unfold execGetDynamicCapacityExtentList
  with_reducible repeat' first
    | assumption | intro _ | apply Answers.next | apply State.ldCmd_only | apply State.mgmtOk_only | dsimp only | split
  all_goals first | exact hF.sub rfl | exact hF.bit rfl

theorem execIdentifyMemoryDevice_only {Fm : Nat} {s0 : State} (t : Tenant) {s : State} (hF : Inside 10995116277760 Fm) (hK : Only Fm s0 s) :
    Answers (Only Fm s0) (execIdentifyMemoryDevice t s) := by
  unfold execIdentifyMemoryDevice
  with_reducible repeat' first
    | assumption | intro _ | apply Answers.next | apply State.ldCmd_only | apply State.mgmtOpen_only | dsimp only | split
  all_goals first | exact hF.sub rfl | exact hF.bit rfl

theorem execGetHealthInfo_only {Fm : Nat} {s0 : State} (t : Tenant) {s : State} (hF : Inside 10995116277760 Fm) (hK : Only Fm s0 s) :
    Answers (Only Fm s0) (execGetHealthInfo t s) := by
  unfold execGetHealthInfo
  with_reducible repeat' first
    | assumption | intro _ | apply Answers.next | apply State.ldCmd_only | apply State.mgmtOpen_only | dsimp only | split
  all_goals first | exact hF.sub rfl | exact hF.bit rfl

/-! Machine/Tables.lean. -/

theorem execTableGenerationRetire_only {Fm : Nat} {s0 : State} (slot : BitVec 8) {s : State} (hF : Inside 131072 Fm) (hK : Only Fm s0 s) :
    Answers (Only Fm s0) (execTableGenerationRetire slot s) := by
  unfold execTableGenerationRetire
  with_reducible repeat' first
    | assumption | intro _ | apply Answers.next | apply Answers.ite | apply State.setTslot_only | dsimp only | split
  all_goals first | exact hF.sub rfl | exact hF.bit rfl

theorem State.tcmdStatus_only {Fm : Nat} {s0 : State} (st : Status) {s : State} (hF : Inside 131072 Fm) (hK : Only Fm s0 s) :
    Only Fm s0 (State.tcmdStatus st s) := by
  unfold State.tcmdStatus
  with_reducible repeat' first
    | assumption | intro _ | apply State.modCmp_only | dsimp only | split
  all_goals first | exact hF.sub rfl | exact hF.bit rfl

theorem execCmpTableUnload_only {Fm : Nat} {s0 : State} {s : State} (hF : Inside 131072 Fm) (hK : Only Fm s0 s) :
    Answers (Only Fm s0) (execCmpTableUnload s) := by
  unfold execCmpTableUnload
  with_reducible repeat' first
    | assumption | intro _ | apply Answers.next | apply Only.ite | apply State.unloadTable_only | apply State.tcmdStatus_only
    | dsimp only | split
  all_goals first | exact hF.sub rfl | exact hF.bit rfl

theorem execCmpTableOwner_only {Fm : Nat} {s0 : State} (t : Tenant) {s : State} (hF : Inside 131072 Fm) (hK : Only Fm s0 s) :
    Answers (Only Fm s0) (execCmpTableOwner t s) := by
  unfold execCmpTableOwner
  with_reducible repeat' first
    | assumption | intro _ | apply Answers.next | apply Only.ite | apply State.setTslot_only | apply State.tcmdStatus_only
    | dsimp only | split
  all_goals first | exact hF.sub rfl | exact hF.bit rfl

theorem execCmpTcmdReserved_only {Fm : Nat} {s0 : State} {s : State} (hF : Inside 131072 Fm) (hK : Only Fm s0 s) :
    Answers (Only Fm s0) (execCmpTcmdReserved s) := by
  unfold execCmpTcmdReserved
  with_reducible repeat' first
    | assumption | intro _ | apply Answers.next | apply State.tcmdStatus_only | dsimp only | split
  all_goals first | exact hF.sub rfl | exact hF.bit rfl

theorem execScaleWindowEnable_only {Fm : Nat} {s0 : State} (n : BitVec 6) (v : W32) {s : State} (hF : Inside 16 Fm) (hK : Only Fm s0 s) :
    Answers (Only Fm s0) (execScaleWindowEnable n v s) := by
  unfold execScaleWindowEnable
  with_reducible repeat' first
    | assumption | intro _ | apply Answers.next | apply Answers.ite | apply State.setStw_only | dsimp only | split
  all_goals first | exact hF.sub rfl | exact hF.bit rfl

/-! Machine/Device.lean. -/

theorem State.hdmWrite_only {Fm : Nat} {s0 : State} (n i : Nat) (v : W32) {s : State} (hF : Inside 512 Fm) (hK : Only Fm s0 s) :
    Only Fm s0 (State.hdmWrite n i v s) := by
  unfold State.hdmWrite
  with_reducible repeat' first
    | assumption | intro _ | apply Only.ite | apply State.modLd_only | apply State.hdmCommit_only | dsimp only | split
  all_goals first | exact hF.sub rfl | exact hF.bit rfl

theorem State.compWrite_only {Fm : Nat} {s0 : State} (n off : Nat) (v : W32) {s : State} (hF : Inside 512 Fm) (hK : Only Fm s0 s) :
    Only Fm s0 (State.compWrite n off v s) := by
  unfold State.compWrite
  with_reducible repeat' first
    | assumption | intro _ | apply State.hdmWrite_only | dsimp only | split
  all_goals first | exact hF.sub rfl | exact hF.bit rfl

theorem State.bar2Write_only {Fm : Nat} {s0 : State} (n off : Nat) (v : W32) {s : State} (hF : Inside 16 Fm) (hK : Only Fm s0 s) :
    Only Fm s0 (State.bar2Write n off v s) := by
  unfold State.bar2Write
  with_reducible repeat' first
    | assumption | intro _ | apply Only.ite | (fail_if_no_progress refine Only.set_reg (hF.bit (by decide)) ?_) | dsimp only
    | split
  all_goals first | exact hF.sub rfl | exact hF.bit rfl

/-! Machine/RegRead.lean. -/

theorem State.barCleared_only {Fm : Nat} {s0 : State} (t off : Nat) (upd : W32) {s : State} (hF : Inside 65552 Fm) (hK : Only Fm s0 s) :
    Only Fm s0 (State.barCleared t off upd s) := by
  unfold State.barCleared
  with_reducible repeat' first
    | assumption | intro _ | apply Only.ite | apply State.modCursor_only | apply State.modBar_only | dsimp only | split
  all_goals first | exact hF.sub rfl | exact hF.bit rfl

theorem State.readBar_only {Fm : Nat} {s0 : State} (t off : Nat) (upd : W32) {s : State} (hF : Inside 8796093087760 Fm) (hK : Only Fm s0 s) :
    Only Fm s0 (State.readBar t off upd s).2 := by
  unfold State.readBar
  with_reducible repeat' first
    | assumption | intro _ | apply Only.ite | apply State.barCleared_only | apply State.tickFree_only | dsimp only | split
  all_goals first | exact hF.sub rfl | exact hF.bit rfl

theorem State.stwCleared_only {Fm : Nat} {s0 : State} (off : Nat) (upd : W32) {s : State} (hF : Inside 131088 Fm) (hK : Only Fm s0 s) :
    Only Fm s0 (State.stwCleared off upd s) := by
  unfold State.stwCleared
  with_reducible repeat' first
    | assumption | intro _ | apply Only.ite | apply State.modCmp_only | apply State.modStw_only | dsimp only | split
  all_goals first | exact hF.sub rfl | exact hF.bit rfl

theorem State.readStw_only {Fm : Nat} {s0 : State} (off : Nat) (upd : W32) {s : State} (hF : Inside 8796093153296 Fm) (hK : Only Fm s0 s) :
    Only Fm s0 (State.readStw off upd s).2 := by
  unfold State.readStw
  with_reducible repeat' first
    | assumption | intro _ | apply Only.ite | apply State.stwCleared_only | apply State.tickFree_only | dsimp only | split
  all_goals first | exact hF.sub rfl | exact hF.bit rfl

/-! Machine/Registers.lean. -/

theorem State.after_only {Fm : Nat} {s0 : State} {s : State} {o : Outcome State Fault Refusal} (hK : Only Fm s0 s)
    (h : Answers (Only Fm s0) o) : Only Fm s0 (s.after o) := by
  unfold State.after
  split
  · exact h.all _ rfl
  · exact hK

theorem State.msixWrite_only {Fm : Nat} {s0 : State} (t off : Nat) (v : W32) {s : State} (hF : Inside 2199023781376 Fm) (hK : Only Fm s0 s) :
    Only Fm s0 (State.msixWrite t off v s) := by
  unfold State.msixWrite
  with_reducible repeat' first
    | assumption | intro _ | apply Only.ite | apply State.modLd_only | apply State.flushMsix_only | dsimp only | split
  all_goals first | exact hF.sub rfl | exact hF.bit rfl

theorem State.sqWrite_only {Fm : Nat} {s0 : State} (t : Tenant) (r : Nat) (off : Nat) (v : W32) {s : State} (hF : Inside 263696 Fm) (hK : Only Fm s0 s) :
    Only Fm s0 (State.sqWrite t r off v s) := by
  unfold State.sqWrite
  with_reducible repeat' first
    | assumption | intro _ | apply Only.ite | apply State.after_only | apply execRingEnable_only | apply execRingDisable_only
    | apply execRingRestart_only | apply State.setBar_only | dsimp only | split
  all_goals first | exact hF.sub rfl | exact hF.bit rfl

theorem State.barPlain_only {Fm : Nat} {s0 : State} (t off : Nat) (r : RegRow) (v : W32) {s : State} (hF : Inside 16 Fm) (hK : Only Fm s0 s) :
    Only Fm s0 (State.barPlain t off r v s) := by
  unfold State.barPlain
  with_reducible repeat' first
    | assumption | intro _ | apply Only.ite | apply State.setBar_only | apply State.modBar_only | dsimp only | split
  all_goals first | exact hF.sub rfl | exact hF.bit rfl

theorem State.barWrite_only {Fm : Nat} {s0 : State} (t : Tenant) (off : Nat) (r : RegRow) (v : W32) {s : State} (hF : Inside 2148337168 Fm) (hK : Only Fm s0 s) :
    Only Fm s0 (State.barWrite t off r v s) := by
  unfold State.barWrite
  with_reducible repeat' first
    | assumption | intro _ | apply Only.ite | apply State.sqWrite_only | apply State.after_only | apply execCqEnable_only
    | apply execCqDisable_only | apply execCqHeadWrite_only | apply execMmioDoorbell_only | apply execAlmMark_only
    | apply execUibWrite_only | apply State.barPlain_only | dsimp only | split
  all_goals first | exact hF.sub rfl | exact hF.bit rfl

theorem State.writeBar_only {Fm : Nat} {s0 : State} (t : Tenant) (off : Nat) (v : W32) {s : State} (hF : Inside 2201171592720 Fm) (hK : Only Fm s0 s) :
    Only Fm s0 (State.writeBar t off v s) := by
  unfold State.writeBar
  with_reducible repeat' first
    | assumption | intro _ | apply Only.ite | apply State.after_only | apply execMmioDoorbell_only | apply State.msixWrite_only
    | apply State.compWrite_only | apply State.barWrite_only | apply State.cntBar_only | dsimp only | split
  all_goals first | exact hF.sub rfl | exact hF.bit rfl

theorem State.wttWrite_only {Fm : Nat} {s0 : State} (off : Nat) (v : W32) {s : State} (hF : Inside 16579715331728 Fm) (hK : Only Fm s0 s) :
    InOption (Only Fm s0) (State.wttWrite off v s) := by
  unfold State.wttWrite
  with_reducible repeat' first
    | assumption | intro _ | apply InOption.some | apply InOption.none | apply InOption.ite | apply Only.ite
    | apply State.writeWttCfg_only | apply State.after_only | apply execWttDataWrite_only | apply execWttCommit_only
    | apply execWttGroupCommit_only | apply execWttCopy_only | apply execWttCommitReserved_only
    | (fail_if_no_progress refine Only.set_wttData (hF.bit (by decide)) ?_) | dsimp only | split
  all_goals first | exact hF.sub rfl | exact hF.bit rfl

theorem State.tirWrite_only {Fm : Nat} {s0 : State} (off : Nat) (v : W32) {s : State} (hF : Inside 16580790158992 Fm) (hK : Only Fm s0 s) :
    InOption (Only Fm s0) (State.tirWrite off v s) := by
  unfold State.tirWrite
  with_reducible repeat' first
    | assumption | intro _ | apply InOption.some | apply InOption.ite | apply InOption.map | apply Only.ite
    | apply State.after_only | apply execTirAssign_only | apply execTirRelease_only | apply execTirAsgnReserved_only
    | apply execTirRemoveClaims_only | apply execTirClsWrite_only | apply execPlotQuery_only | apply State.modStw_only
    | apply execFarRevoke_only | apply execFarEnable_only | apply execFarDisable_only | dsimp only | split
  all_goals first | exact hF.sub rfl | exact hF.bit rfl

theorem State.almWrite_only {Fm : Nat} {s0 : State} (off : Nat) (v : W32) {s : State} (hF : Inside 65552 Fm) (hK : Only Fm s0 s) :
    InOption (Only Fm s0) (State.almWrite off v s) := by
  unfold State.almWrite
  with_reducible repeat' first
    | assumption | intro _ | apply Answers.next | apply Answers.ite | apply InOption.some | apply InOption.none
    | apply InOption.ite | apply State.after_only | apply execAlmBind_only | apply execAlmUnbind_only
    | apply execAlmClearPosition_only | apply execAlmReclaimUnload_only | apply execAlmNewOwner_only
    | apply State.bindStatus_only | dsimp only | split
  all_goals first | exact hF.sub rfl | exact hF.bit rfl

theorem State.cmpWrite_only {Fm : Nat} {s0 : State} (off : Nat) (v : W32) {s : State} (hF : Inside 131088 Fm) (hK : Only Fm s0 s) :
    InOption (Only Fm s0) (State.cmpWrite off v s) := by
  unfold State.cmpWrite
  with_reducible repeat' first
    | assumption | intro _ | apply InOption.some | apply InOption.ite | apply InOption.map | apply State.after_only
    | apply execCmpTableUnload_only | apply execCmpTableOwner_only | apply execCmpTcmdReserved_only
    | apply execScaleWindowEnable_only | dsimp only | split
  all_goals first | exact hF.sub rfl | exact hF.bit rfl

theorem State.fleCfg_only {Fm : Nat} {s0 : State} (n off : Nat) (v : W32) {s : State} (hF : Inside 16 Fm) (hK : Only Fm s0 s) :
    Only Fm s0 (State.fleCfg n off v s) := by
  unfold State.fleCfg
  with_reducible repeat' first
    | assumption | intro _ | apply State.setStw_only | dsimp only | split
  all_goals first | exact hF.sub rfl | exact hF.bit rfl

theorem State.fleWrite_only {Fm : Nat} {s0 : State} (off : Nat) (v : W32) {s : State} (hF : Inside 7800551474832 Fm) (hK : Only Fm s0 s) :
    InOption (Only Fm s0) (State.fleWrite off v s) := by
  unfold State.fleWrite
  with_reducible repeat' first
    | assumption | intro _ | apply Answers.next | apply InOption.some | apply InOption.ite | apply InOption.map
    | apply State.after_only | apply execEngineFence_only | apply execEngineBist_only | apply execEngineReturn_only
    | apply State.setStw_only | apply State.fleCfg_only | dsimp only | split
  all_goals first | exact hF.sub rfl | exact hF.bit rfl

theorem State.tndWrite_only {Fm : Nat} {s0 : State} (off : Nat) (v : W32) {s : State} (hF : Inside 7799842571920 Fm) (hK : Only Fm s0 s) :
    InOption (Only Fm s0) (State.tndWrite off v s) := by
  unfold State.tndWrite
  with_reducible repeat' first
    | assumption | intro _ | apply Answers.next | apply InOption.some | apply InOption.ite | apply InOption.map
    | apply State.after_only | apply execCoreFence_only | apply execCoreBist_only | apply execCoreReturn_only
    | apply execProgramSlotUnload_only | apply execProgramSlotOwner_only | apply execTndPcmdReserved_only
    | apply State.setStw_only | dsimp only | split
  all_goals first | exact hF.sub rfl | exact hF.bit rfl

theorem State.regionField_only {Fm : Nat} {s0 : State} (f : Region → Region) {s : State} (hF : Inside 1073741824 Fm) (hK : Only Fm s0 s) :
    Only Fm s0 (State.regionField f s) := by
  unfold State.regionField
  with_reducible repeat' first
    | assumption | intro _ | apply State.modRegion_only | dsimp only | split
  all_goals first | exact hF.sub rfl | exact hF.bit rfl

theorem State.shrWrite_only {Fm : Nat} {s0 : State} (off : Nat) (v : W32) {s : State} (hF : Inside 16581863900816 Fm) (hK : Only Fm s0 s) :
    InOption (Only Fm s0) (State.shrWrite off v s) := by
  unfold State.shrWrite
  with_reducible repeat' first
    | assumption | intro _ | apply InOption.some | apply InOption.none | apply InOption.ite | apply Only.ite
    | apply State.after_only | apply execRegionEnable_only | apply State.setRegion_only | apply execRegionDisable_only
    | apply State.regionField_only | apply execShrFailTenant_only | apply execReleaseRegionOrphans_only
    | apply execReleaseTenantOrphans_only | apply execReleaseCapacity_only | dsimp only | split
  all_goals first | exact hF.sub rfl | exact hF.bit rfl

theorem State.hgtWrite_only {Fm : Nat} {s0 : State} (off : Nat) (v : W32) {s : State} (hF : Inside 16 Fm) (hK : Only Fm s0 s) :
    InOption (Only Fm s0) (State.hgtWrite off v s) := by
  unfold State.hgtWrite
  with_reducible repeat' first
    | assumption | intro _ | apply InOption.some | apply InOption.map | apply State.setStw_only | apply State.after_only
    | apply execWeirConfigWrite_only | dsimp only | split
  all_goals first | exact hF.sub rfl | exact hF.bit rfl

theorem State.dmcWrite_only {Fm : Nat} {s0 : State} (off : Nat) (v : W32) {s : State} (hF : Inside 11081016149520 Fm) (hK : Only Fm s0 s) :
    InOption (Only Fm s0) (State.dmcWrite off v s) := by
  unfold State.dmcWrite
  with_reducible repeat' first
    | assumption | intro _ | apply Answers.next | apply InOption.some | apply InOption.ite | apply InOption.map
    | apply State.after_only | apply execEvacuate_only | apply execEvacuateCancel_only | apply State.setStw_only | dsimp only
    | split
  all_goals first | exact hF.sub rfl | exact hF.bit rfl

theorem State.cstWrite_only {Fm : Nat} {s0 : State} (off : Nat) (v : W32) {s : State} (hF : Inside 1202662146064 Fm) (hK : Only Fm s0 s) :
    InOption (Only Fm s0) (State.cstWrite off v s) := by
  unfold State.cstWrite
  with_reducible repeat' first
    | assumption | intro _ | apply Answers.next | apply InOption.some | apply InOption.none | apply InOption.ite
    | apply State.after_only | apply execBankGiveStage_only | apply execBankReturnPool_only | apply execBankRetire_only
    | apply execBankPowerOn_only | apply execBankRetention_only | apply execBankFallow_only | apply State.bcStatus_only
    | apply execMarchDestructive_only | apply execMarchPreserving_only | apply execMarchAbort_only | dsimp only | split
  all_goals first | exact hF.sub rfl | exact hF.bit rfl

theorem State.rasWrite_only {Fm : Nat} {s0 : State} (off : Nat) (v : W32) {s : State} (hF : Inside 11063836313112 Fm) (hK : Only Fm s0 s) :
    InOption (Only Fm s0) (State.rasWrite off v s) := by
  unfold State.rasWrite
  with_reducible repeat' first
    | assumption | intro _ | apply InOption.some | apply InOption.ite | apply InOption.map | apply State.after_only
    | apply execRetireNearSlot_only | apply execRetireBulkUnit_only | apply execAddRetirementEntry_only
    | apply execEmptyRetirementEntry_only | apply State.setStw_only | dsimp only | split
  all_goals first | exact hF.sub rfl | exact hF.bit rfl

theorem State.secWrite_only {Fm : Nat} {s0 : State} (off : Nat) (v : W32) {s : State} (hF : Inside 137438953588 Fm) (hK : Only Fm s0 s) :
    InOption (Only Fm s0) (State.secWrite off v s) := by
  unfold State.secWrite
  with_reducible repeat' first
    | assumption | intro _ | apply InOption.some | apply InOption.none | apply InOption.ite | apply State.after_only
    | apply execRaiseMinsvn_only | apply execRevokeKey_only | apply State.fuseCmd_only | apply execKcmdKeygen_only
    | apply execKcmdZeroise_only | apply execKcmdZeroiseAll_only | apply State.kcmd_only | dsimp only | split
  all_goals first | exact hF.sub rfl | exact hF.bit rfl

theorem State.bupWrite_only {Fm : Nat} {s0 : State} (off : Nat) (v : W32) {s : State} (hF : Inside 2680260919416 Fm) (hK : Only Fm s0 s) :
    InOption (Only Fm s0) (State.bupWrite off v s) := by
  unfold State.bupWrite
  with_reducible repeat' first
    | assumption | intro _ | apply InOption.some | apply InOption.ite | apply InOption.map | apply State.after_only
    | apply execUpdateBegin_only | apply execUpdateChunk_only | apply execUpdateVerify_only | apply execUpdateCommit_only
    | apply execUpdateAbandon_only | apply State.ustat_only | apply State.bistStart_only | apply State.modUpd_only | dsimp only
    | split
  all_goals first | exact hF.sub rfl | exact hF.bit rfl

theorem State.pwmWrite_only {Fm : Nat} {s0 : State} (off : Nat) (v : W32) {s : State} (hF : Inside 16 Fm) (hK : Only Fm s0 s) :
    InOption (Only Fm s0) (State.pwmWrite off v s) := by
  unfold State.pwmWrite
  with_reducible repeat' first
    | assumption | intro _ | apply InOption.some | apply InOption.ite | apply InOption.map | apply State.setStw_only
    | apply State.modStw_only | dsimp only | split
  all_goals first | exact hF.sub rfl | exact hF.bit rfl

theorem State.stwOwn_only {Fm : Nat} {s0 : State} (off : Nat) (v : W32) {s : State} (hF : Inside 17029542967036 Fm) (hK : Only Fm s0 s) :
    InOption (Only Fm s0) (State.stwOwn off v s) := by
  unfold State.stwOwn
  with_reducible repeat' first
    | assumption | intro _ | apply InOption.none | apply InOption.map | apply State.wttWrite_only | apply State.tirWrite_only
    | apply State.almWrite_only | apply State.cmpWrite_only | apply State.fleWrite_only | apply State.tndWrite_only
    | apply State.setStw_only | apply State.shrWrite_only | apply State.hgtWrite_only | apply State.dmcWrite_only
    | apply State.cstWrite_only | apply State.rasWrite_only | apply State.secWrite_only | apply State.bupWrite_only
    | apply State.pwmWrite_only | dsimp only | split
  all_goals first | exact hF.sub rfl | exact hF.bit rfl

theorem State.writeStw_only {Fm : Nat} {s0 : State} (off : Nat) (v : W32) {s : State} (hF : Inside 17029542967036 Fm) (hK : Only Fm s0 s) :
    Only Fm s0 (State.writeStw off v s) := by
  unfold State.writeStw
  with_reducible repeat' first
    | assumption | intro _ | apply Only.ite | apply InOption.getD | apply State.stwOwn_only | apply State.modStw_only
    | apply State.cntStw_only | dsimp only | split
  all_goals first | exact hF.sub rfl | exact hF.bit rfl

theorem State.writeReg_only {Fm : Nat} {s0 : State} (sp : RegSpace) (off : Nat) (v : W32) {s : State} (hF : Inside 17029543229180 Fm) (hK : Only Fm s0 s) :
    Only Fm s0 (State.writeReg sp off v s) := by
  unfold State.writeReg
  with_reducible repeat' first
    | assumption | intro _ | apply State.writeBar_only | apply State.bar2Write_only | apply State.writeStw_only | dsimp only
    | split
  all_goals first | exact hF.sub rfl | exact hF.bit rfl

theorem State.readReg_only {Fm : Nat} {s0 : State} (sp : RegSpace) (off : Nat) (upd : W32) {s : State} (hF : Inside 8796093218832 Fm) (hK : Only Fm s0 s) :
    Only Fm s0 (State.readReg sp off upd s).2 := by
  unfold State.readReg
  with_reducible repeat' first
    | assumption | intro _ | apply State.readBar_only | apply State.tickFree_only | apply State.readStw_only | dsimp only
    | split
  all_goals first | exact hF.sub rfl | exact hF.bit rfl

theorem State.w1cBar_only {Fm : Nat} {s0 : State} (t off : Nat) (u : W32) {s : State} (hF : Inside 262160 Fm) (hK : Only Fm s0 s) :
    Only Fm s0 (State.w1cBar t off u s) := by
  unfold State.w1cBar
  with_reducible repeat' first
    | assumption | intro _ | apply Only.ite | apply State.modRing_only | apply State.modBar_only | dsimp only | split
  all_goals first | exact hF.sub rfl | exact hF.bit rfl

theorem State.w1cStw_only {Fm : Nat} {s0 : State} (off : Nat) (u : W32) {s : State} (hF : Inside 1073741840 Fm) (hK : Only Fm s0 s) :
    Only Fm s0 (State.w1cStw off u s) := by
  unfold State.w1cStw
  with_reducible repeat' first
    | assumption | intro _ | apply Only.ite | apply State.modRegion_only | apply State.modStw_only | dsimp only | split
  all_goals first | exact hF.sub rfl | exact hF.bit rfl

theorem State.w1cSets_only {Fm : Nat} {s0 : State} (sp : RegSpace) (off : Nat) (u : W32) {s : State} (hF : Inside 1074003984 Fm) (hK : Only Fm s0 s) :
    Only Fm s0 (State.w1cSets sp off u s) := by
  unfold State.w1cSets
  with_reducible repeat' first
    | assumption | intro _ | apply State.w1cBar_only | apply State.w1cStw_only | dsimp only | split
  all_goals first | exact hF.sub rfl | exact hF.bit rfl

theorem execRegisterWrite_only {Fm : Nat} {s0 : State} (sp : RegSpace) (off : BitVec 24) (v : W32) (w : WriteRest) {s : State} (hF : Inside 17029543229180 Fm) (hK : Only Fm s0 s) :
    Answers (Only Fm s0) (execRegisterWrite sp off v w s) := by
  unfold execRegisterWrite
  with_reducible repeat' first
    | assumption | intro _ | apply Answers.next | apply State.writeReg_only | apply State.w1cSets_only | dsimp only | split
  all_goals first | exact hF.sub rfl | exact hF.bit rfl

theorem execReadClear_only {Fm : Nat} {s0 : State} (sp : RegSpace) (off : BitVec 24) (wide : Bool) (upd : W64) {s : State} (hF : Inside 10995116474384 Fm) (hK : Only Fm s0 s) :
    Answers (Only Fm s0) (execReadClear sp off wide upd s) := by
  unfold execReadClear
  with_reducible repeat' first
    | assumption | intro _ | apply Answers.next | apply Answers.ite | apply State.readReg_only | apply State.emit_only
    | dsimp only | split
  all_goals first | exact hF.sub rfl | exact hF.bit rfl

theorem execBar0BadAccess_only {Fm : Nat} {s0 : State} (t : Tenant) (off : W16) (size : Nat) (write : Bool) {s : State} (hF : Inside 2199023255568 Fm) (hK : Only Fm s0 s) :
    Answers (Only Fm s0) (execBar0BadAccess t off size write s) := by
  unfold execBar0BadAccess
  with_reducible repeat' first
    | assumption | intro _ | apply Answers.next | apply Answers.ite | apply Only.ite | apply State.cntBar_only
    | apply State.emit_only | dsimp only | split
  all_goals first | exact hF.sub rfl | exact hF.bit rfl

theorem State.accessWrite_only {Fm : Nat} {s0 : State} (e : Endpoint) (session : Option Nat) (off : Nat) (v : W32) {s : State} (hF : Inside 17029542967036 Fm) (hK : Only Fm s0 s) :
    Only Fm s0 (State.accessWrite e session off v s) := by
  unfold State.accessWrite
  with_reducible repeat' first
    | assumption | intro _ | apply Only.ite | apply State.after_only | apply execBindWrite_only | apply State.writeStw_only
    | dsimp only | split
  all_goals first | exact hF.sub rfl | exact hF.bit rfl

theorem State.accessRead_only {Fm : Nat} {s0 : State} (l : List Nat) {s : State} (hF : Inside 8796093153296 Fm) (hK : Only Fm s0 s) :
    Only Fm s0 (State.accessRead l s).2 := by
  unfold State.accessRead
  suffices h : ∀ a : List W32 × State, Only Fm s0 a.2 → Only Fm s0 (l.foldl (fun (a : List W32 × State) off =>
      if 0x1000000 ≤ off then (a.1 ++ [0#32], a.2)
      else let r := a.2.readStw off 0#32; (a.1 ++ [r.1], r.2)) a).2 from h ([], s) hK
  induction l with
  | nil => exact fun _ h => h
  | cons o r ih =>
    intro a h
    rw [List.foldl_cons]
    apply ih
    split
    · exact h
    · exact State.readStw_only _ _ (hF.sub rfl) h

theorem execStewardRegisterAccess_only {Fm : Nat} {s0 : State} (e : Endpoint) (session : Option Nat) (off : BitVec 24) (write : Bool) (count : Nat) (data : List W32) {s : State} (hF : Inside 17029542967036 Fm) (hK : Only Fm s0 s) :
    Answers (Only Fm s0) (execStewardRegisterAccess e session off write count data s) := by
  unfold execStewardRegisterAccess
  with_reducible repeat' first
    | assumption | intro _ | apply Answers.next | apply Answers.ite | apply Only.ite | apply Only.forAll
    | apply State.mgmtNo_only | apply State.cntStw_only | apply State.accessWrite_only | apply State.mgmtOk_only
    | apply State.accessRead_only | apply State.emit_only | dsimp only | split
  all_goals first | exact hF.sub rfl | exact hF.bit rfl

theorem execSendLdMemoryRequest_only {Fm : Nat} {s0 : State} (e : Endpoint) (ld : BitVec 4) (write : Bool) (off : BitVec 24) (v : W32) {s : State} (hF : Inside 10997264614928 Fm) (hK : Only Fm s0 s) :
    Answers (Only Fm s0) (execSendLdMemoryRequest e ld write off v s) := by
  unfold execSendLdMemoryRequest
  with_reducible repeat' first
    | assumption | intro _ | apply Answers.next | apply Only.ite | apply State.fmCmd_only | apply State.mgmtNo_only
    | apply State.after_only | apply execBar0BadAccess_only | apply State.mgmtOk_only | apply State.writeBar_only
    | apply State.readBar_only | dsimp only | split
  all_goals first | exact hF.sub rfl | exact hF.bit rfl

end Sys2Proof.Machine
end

