-- ==== Sys2Proof/Laws/OnlyExec.lean ====
section
/-! SUPPORT. The fields of the state that each command may change, and that it changes no other. Bit i of a set stands for
field i of State. -/

namespace Sys2Proof.Machine

def Instr.fields : Instr → Nat
  | .registerWrite .. => 17029543229180
  | .readClear .. => 10995116474384
  | .bar0BadAccess .. => 2199023255568
  | .moduleReset .. => 35184372088831
  | .bringupTrigger .. => 2336462209506
  | .verifySync .. => 2353642078320
  | .verifyWaitTimeout .. => 3521873708656
  | .recoveryRetry .. => 2336462209120
  | .firmwareStart .. => 2319484225136
  | .functionReady .. => 2199023781472
  | .vinOutOfRange => 35184372088831
  | .vinRestored => 2
  | .railsGood => 2
  | .perstAssert .. => 16617041792914
  | .perstDeassert .. => 2199023255810
  | .linkUp .. => 768
  | .trainFail .. => 272
  | .trainBackoffExpire .. => 2199023255808
  | .linkRecovery .. => 0
  | .linkDown .. => 16617041792912
  | .hotReset .. => 16617041792912
  | .portDrainComplete .. => 2269891069712
  | .flrInitiate .. => 6701035916944
  | .flrDrainComplete .. => 16581864163056
  | .configRequest .. => 15497128939152
  | .ctoValueWrite .. => 528
  | .hdmCommit .. => 512
  | .busMasterEnableSet .. => 2199023781376
  | .completionTimeout .. => 16580790423184
  | .tagQuarantineExpire .. => 2048
  | .unexpectedCompletion .. => 528
  | .farReadCompletion .. => 16580790158992
  | .farDmaErrorCompletion .. => 16580790158992
  | .hostMemRead .. => 16586159130256
  | .hostMemWrite .. => 16586159130256
  | .hostMemInv .. => 16586159130256
  | .headgateAdmit .. => 16581863900816
  | .arbiterServe .. => 3410204558864
  | .bridgeFlitReplay .. => 128
  | .bridgeLaneRetire .. => 16581863900816
  | .bridgeRetrainDone => 16581863900816
  | .bridgeDown => 16581863900816
  | .bridgeUp => 2406255953648
  | .writeCompressorClose .. => 16580789044880
  | .tierReadReturn .. => 12182675392016
  | .tierReadTimeout .. => 2287070610960
  | .tierReadLateReturn .. => 17179869200
  | .wttDataWrite .. => 4112
  | .wttCommit .. => 16579715323536
  | .wttGroupCommit => 16579715323536
  | .wttCopy .. => 4112
  | .wttCommitReserved .. => 16
  | .wttFlip => 2199023801856
  | .oldDone .. => 16579715323536
  | .tirAssign => 11066052150800
  | .tirRelease => 11066052150800
  | .tirAsgnReserved => 16
  | .tirRemoveClaims .. => 11066052019728
  | .plotQuery .. => 32784
  | .tirClsWrite .. => 16
  | .ageClockTick => 1
  | .decayBoundary => 32768
  | .ageSweep .. => 32768
  | .coldClassify .. => 11065984910864
  | .claimRetry .. => 11065984910864
  | .claimWaitExpire .. => 2267744405008
  | .moveBlockDone .. => 16580790158992
  | .farEnable .. => 16
  | .farDisable .. => 16580790158992
  | .farRevoke .. => 16580790158992
  | .almMark .. => 65552
  | .cursorUpdate => 2267744372240
  | .almanacAction => 11066052019728
  | .almanacLoadCommit .. => 1114112
  | .almBind .. => 65552
  | .almUnbind .. => 65552
  | .almClearPosition .. => 65552
  | .almReclaimUnload .. => 65552
  | .almNewOwner .. => 65552
  | .tableGenerationRetire .. => 131072
  | .cmpTableUnload => 131072
  | .cmpTableOwner .. => 131072
  | .cmpTcmdReserved => 131072
  | .scaleWindowEnable .. => 16
  | .doorbellLineWrite .. => 2199023518224
  | .doorbellLineRead .. => 2199023255552
  | .mmioDoorbell .. => 262672
  | .ringEnable .. => 263696
  | .ringDisable .. => 263696
  | .ringRestart .. => 262144
  | .ringFetch .. => 10995117065728
  | .descriptorFetchCompletion .. => 2267743520272
  | .descriptorTake .. => 16586165421712
  | .operationComplete .. => 6701035849360
  | .interruptCoalesceExpire .. => 2199023781376
  | .cqEnable .. => 524304
  | .cqDisable .. => 16
  | .cqHeadWrite .. => 524304
  | .fill .. => 16581863900816
  | .copy .. => 16581863900816
  | .copyConvert .. => 16616252999312
  | .imageInstall .. => 16581863900816
  | .compare .. => 16581863900816
  | .reduce .. => 16616252999312
  | .embedGather .. => 16616252999312
  | .expert .. => 16616521434768
  | .runProgram .. => 34364981248
  | .quant .. => 16616252999312
  | .gateact .. => 16616252999312
  | .promote .. => 11065984910864
  | .demote .. => 11065984910864
  | .pin .. => 11065984910864
  | .unpin .. => 11065984910864
  | .publish .. => 16581863900816
  | .acquire .. => 16581863904912
  | .release .. => 16581863904912
  | .tableLoad .. => 16581863900816
  | .programLoad .. => 16581901649552
  | .almanacLoad .. => 16581863900816
  | .mark .. => 1114128
  | .fence .. => 1048576
  | .stagingFillDone .. => 16616223639184
  | .tileStart .. => 16616777287312
  | .tileEnd .. => 7800551474832
  | .engineFence .. => 7800551474832
  | .engineFenced .. => 67108880
  | .engineBist .. => 68786585616
  | .engineBistDone .. => 68786585616
  | .engineReturn .. => 3367321994768
  | .fieldTestStart .. => 201326592
  | .fieldTestDone .. => 7800698275472
  | .grainCreate .. => 6700179949200
  | .grainDispatch .. => 142606336
  | .grainForcedYield .. => 34373369856
  | .grainWake .. => 8388608
  | .grainLimitExceeded .. => 6700163171984
  | .spnAlu .. => 16616236156560
  | .spnAluImm .. => 16616236156560
  | .spnLoadUpper .. => 16616236156560
  | .spnLoad .. => 16616236222096
  | .spnStore .. => 16616236222096
  | .spnBranch .. => 16616236156560
  | .spnJump .. => 16616236156560
  | .spnJumpReg .. => 16616236156560
  | .spnAtomic .. => 16616236222096
  | .spnYield .. => 16616236156560
  | .spnFence .. => 16616236156560
  | .spnExit .. => 16616236156560
  | .spnTrap .. => 16616236156560
  | .spnGets .. => 16616236156560
  | .spnWait .. => 16616236156560
  | .spnSignal .. => 16616236156560
  | .spnMark .. => 16616236222096
  | .spnVectorInt .. => 16616236156560
  | .spnVectorFp .. => 16616236156560
  | .spnReduce .. => 16616236156560
  | .spnVectorLoad .. => 16616236222096
  | .spnVectorStore .. => 16616236222096
  | .spnGather .. => 16616236222096
  | .spnScatter .. => 16616236222096
  | .spnVcvt .. => 16616236156560
  | .spnVmxq .. => 16616236156560
  | .spnCrc .. => 16616236222096
  | .spnCrcv .. => 16616236222096
  | .coreFence .. => 7799809017488
  | .coreFenced .. => 134217744
  | .coreBist .. => 68853694480
  | .coreBistDone .. => 68853694480
  | .coreReturn .. => 3367389103632
  | .programOldDiscard .. => 33554432
  | .programSlotUnload => 37748752
  | .programSlotOwner .. => 33554448
  | .tndPcmdReserved => 16
  | .regionEnable .. => 1073741824
  | .regionDisable => 1073741824
  | .snoopResponse .. => 16581863900816
  | .biconflict .. => 2199023255552
  | .snoopTimeout .. => 16581863900816
  | .directoryWaitResume .. => 16581863900816
  | .backInvalidateDone .. => 16581863904912
  | .shrFailTenant .. => 16581863900816
  | .failureSweepEnd .. => 16579715303056
  | .releaseRegionOrphans .. => 1073741840
  | .releaseTenantOrphans .. => 1073741840
  | .releaseCapacity .. => 2199023781392
  | .releaseDynamicCapacity .. => 512
  | .addDynamicCapacityResponse .. => 0
  | .weirWindowBoundary .. => 16581863900816
  | .weirConfigWrite .. => 16
  | .urgencyPinSettle .. => 2
  | .uibWrite .. => 2147483664
  | .uibHoldExpire .. => 2147483664
  | .writeQueueServe .. => 17179869184
  | .rowIdleClose .. => 17179869184
  | .refreshDue .. => 17179869184
  | .temperaturePoll .. => 85899345936
  | .refreshRateChange .. => 85899345920
  | .retrainPauseDue .. => 85899345936
  | .retrainPauseEnd .. => 16580789044880
  | .evacuate .. => 11081016149520
  | .evacuateCancel .. => 2284923127312
  | .evacuateAutoTrigger .. => 11081016149520
  | .evacuateCopyDone .. => 3384434787856
  | .switchoverEnd .. => 3384434755088
  | .spillDone .. => 3384434787856
  | .spillResume .. => 16
  | .scriptAbort .. => 16580789044880
  | .scriptSetCommit .. => 85899345936
  | .bankGiveStage .. => 34359738384
  | .bankReturnPool .. => 34359738384
  | .bankRetire .. => 1133871366160
  | .bankPowerOn .. => 34359738384
  | .bankRetention .. => 34359738384
  | .bankFallow .. => 34426847248
  | .handoverComplete .. => 1133942669328
  | .zeroFillDone .. => 34363932672
  | .bankWakeDone .. => 34359738368
  | .bankAllot .. => 34363932672
  | .bankIdleRetention .. => 34359738368
  | .bankIdleFallow .. => 34426847232
  | .portStarveOverride .. => 3401614624272
  | .marchDestructive .. => 103079215120
  | .marchPreserving .. => 103079215120
  | .marchAbort .. => 103083409424
  | .marchDone .. => 12197711840784
  | .scrubRead .. => 3418794526224
  | .lapEnd .. => 2267743258128
  | .lapOverdue .. => 2267743258128
  | .retireNearSlot => 11063836313112
  | .retireBulkUnit .. => 11063836313112
  | .addRetirementEntry .. => 2267743258136
  | .emptyRetirementEntry => 2267743258136
  | .relocationDone => 12182743647768
  | .relocationWaitExpire => 11066052150800
  | .flashWriteDone => 2267743258128
  | .maintGrantRequest .. => 68719476752
  | .maintPark .. => 68719476752
  | .maintResume .. => 68719476752
  | .longDeferral .. => 2267743258128
  | .raiseMinsvn => 137438953492
  | .revokeKey .. => 137438953492
  | .fuseWriteDone => 137438953488
  | .kcmdKeygen .. => 137438953584
  | .kcmdZeroise .. => 137438953584
  | .kcmdZeroiseAll => 137438953584
  | .zeroiseDone .. => 137438953488
  | .bindWrite .. => 137438953472
  | .getVersion .. => 2199023255552
  | .getCapabilities .. => 2199023255552
  | .negotiateAlgorithms .. => 2199023255552
  | .getDigests .. => 2199023255552
  | .getCertificate .. => 2199023255552
  | .challenge .. => 2199023255552
  | .getMeasurements .. => 2199023255552
  | .keyExchange .. => 2336462209024
  | .finish .. => 2336462209024
  | .endSession .. => 2336462209024
  | .heartbeat .. => 2199023255552
  | .keyUpdate .. => 2336462209024
  | .spdmLoad .. => 11132555231328
  | .spdmKeygen .. => 11132555231328
  | .spdmZeroise .. => 11132555231328
  | .spdmZeroiseAll .. => 11132555231328
  | .debugUnlock .. => 16754480746484
  | .keyProg .. => 2199023255808
  | .kSetGo .. => 2199023255808
  | .kSetStop .. => 2199023255808
  | .ideIntegrityFail .. => 16617041792912
  | .updateBegin => 274877906960
  | .updateChunk .. => 274877906968
  | .updateVerify => 2611340116088
  | .updateCommit => 274877906960
  | .updateAbandon => 274877906960
  | .updateCommitDone => 274877907064
  | .bistFe .. => 343798710288
  | .bistTc .. => 343798710288
  | .bistRank .. => 343798710288
  | .bistPort .. => 343798710288
  | .bistDone .. => 343798710288
  | .governorPlan .. => 549755813904
  | .sensorSample .. => 1649267441682
  | .thermalCapStep => 549755813888
  | .thermalTrip => 35184372088831
  | .tripRelease => 2
  | .standbyEnter => 652902138128
  | .standbyExit .. => 635655160080
  | .watchdogExpire .. => 2680060118640
  | .tokenReceived .. => 2267743258224
  | .tokenLinkTimeout .. => 2267743258352
  | .tokenLinkReturn => 96
  | .coreRestartDone .. => 2267743258352
  | .stewardRegisterAccess .. => 17029542967036
  | .mctpControl .. => 12094627905536
  | .identify .. => 10995116277760
  | .backgroundOperationStatus .. => 10995116277760
  | .getResponseMessageLimit .. => 2199023255552
  | .setResponseMessageLimit .. => 3298534883328
  | .getEventRecords .. => 2199023255552
  | .clearEventRecords .. => 3298534883840
  | .getEventInterruptPolicy .. => 2199023255552
  | .setEventInterruptPolicy .. => 3298534883840
  | .getTimestamp .. => 2199023255552
  | .setTimestamp .. => 3298534883840
  | .getSupportedLogs .. => 10995116277760
  | .getLog .. => 10995116277760
  | .tunnelManagement .. => 10995116277760
  | .sendLdConfigurationRequest .. => 15497128939152
  | .sendLdMemoryRequest .. => 10997264614928
  | .getLdInfo .. => 2199023255552
  | .getLdAllocations .. => 2199023255552
  | .getMultiHeadedInfo .. => 10995116277760
  | .getHeadInfo .. => 10995116277760
  | .getDcdInfo .. => 10995116277760
  | .getHostDcRegionConfiguration .. => 2199023255552
  | .getDcRegionExtentLists .. => 2199023255552
  | .getDynamicCapacityConfiguration .. => 2199023255552
  | .getDynamicCapacityExtentList .. => 2199023255552
  | .identifyMemoryDevice .. => 10995116277760
  | .getHealthInfo .. => 10995116277760
  | .unsupportedCommand .. => 2199023255552
  | .railOutOfLimits => 35184372088831
  | .meshLinkFailure .. => 0
  | .channelLost .. => 16580789044880
  | .i3cDynamicAddressAssignment .. => 1099511627776

set_option maxHeartbeats 1000000 in
theorem exec_only (c : Instr) (s : State) : Answers (Only (Instr.fields c) s) (exec c s) := by
  cases c with
  | registerWrite sp off v w => exact execRegisterWrite_only sp off v w (Inside.refl _) (Only.refl _ s)
  | readClear sp off wide upd => exact execReadClear_only sp off wide upd (Inside.refl _) (Only.refl _ s)
  | bar0BadAccess t off size write => exact execBar0BadAccess_only t off size write (Inside.refl _) (Only.refl _ s)
  | moduleReset byResetN => exact execModuleReset_only byResetN (Inside.refl _) (Only.refl _ s)
  | bringupTrigger bridge => exact execBringupTrigger_only bridge (Inside.refl _) (Only.refl _ s)
  | verifySync h => exact execVerifySync_only h (Inside.refl _) (Only.refl _ s)
  | verifyWaitTimeout h => exact execVerifyWaitTimeout_only h (Inside.refl _) (Only.refl _ s)
  | recoveryRetry h => exact execRecoveryRetry_only h (Inside.refl _) (Only.refl _ s)
  | firmwareStart h => exact execFirmwareStart_only h (Inside.refl _) (Only.refl _ s)
  | functionReady h f => exact execFunctionReady_only h f (Inside.refl _) (Only.refl _ s)
  | vinOutOfRange => exact execVinOutOfRange_only (Inside.refl _) (Only.refl _ s)
  | vinRestored => exact execVinRestored_only (Inside.refl _) (Only.refl _ s)
  | railsGood => exact execRailsGood_only (Inside.refl _) (Only.refl _ s)
  | perstAssert p => exact execPerstAssert_only p (Inside.refl _) (Only.refl _ s)
  | perstDeassert p clksel => exact execPerstDeassert_only p clksel (Inside.refl _) (Only.refl _ s)
  | linkUp p width rate mld => exact execLinkUp_only p width rate mld (Inside.refl _) (Only.refl _ s)
  | trainFail p => exact execTrainFail_only p (Inside.refl _) (Only.refl _ s)
  | trainBackoffExpire p => exact execTrainBackoffExpire_only p (Inside.refl _) (Only.refl _ s)
  | linkRecovery p => exact execLinkRecovery_only p (Inside.refl _) (Only.refl _ s)
  | linkDown p => exact execLinkDown_only p (Inside.refl _) (Only.refl _ s)
  | hotReset p => exact execHotReset_only p (Inside.refl _) (Only.refl _ s)
  | portDrainComplete p => exact execPortDrainComplete_only p (Inside.refl _) (Only.refl _ s)
  | flrInitiate t => exact execFlrInitiate_only t (Inside.refl _) (Only.refl _ s)
  | flrDrainComplete t => exact execFlrDrainComplete_only t (Inside.refl _) (Only.refl _ s)
  | configRequest t write reg v => exact execConfigRequest_only t write reg v (Inside.refl _) (Only.refl _ s)
  | ctoValueWrite t v => exact execCtoValueWrite_only t v (Inside.refl _) (Only.refl _ s)
  | hdmCommit t base size skip ways gran lock => exact execHdmCommit_only t base size skip ways gran lock (Inside.refl _) (Only.refl _ s)
  | busMasterEnableSet t => exact execBusMasterEnableSet_only t (Inside.refl _) (Only.refl _ s)
  | completionTimeout tag => exact execCompletionTimeout_only tag (Inside.refl _) (Only.refl _ s)
  | tagQuarantineExpire tag => exact execTagQuarantineExpire_only tag (Inside.refl _) (Only.refl _ s)
  | unexpectedCompletion t tag => exact execUnexpectedCompletion_only t tag (Inside.refl _) (Only.refl _ s)
  | farReadCompletion tag data poison => exact execFarReadCompletion_only tag data poison (Inside.refl _) (Only.refl _ s)
  | farDmaErrorCompletion tag => exact execFarDmaErrorCompletion_only tag (Inside.refl _) (Only.refl _ s)
  | hostMemRead p ld hpa mv md => exact execHostMemRead_only p ld hpa mv md (Inside.refl _) (Only.refl _ s)
  | hostMemWrite p ld hpa mv data be poison => exact execHostMemWrite_only p ld hpa mv data be poison (Inside.refl _) (Only.refl _ s)
  | hostMemInv p ld hpa mv => exact execHostMemInv_only p ld hpa mv (Inside.refl _) (Only.refl _ s)
  | headgateAdmit t => exact execHeadgateAdmit_only t (Inside.refl _) (Only.refl _ s)
  | arbiterServe a arrive => exact execArbiterServe_only a arrive (Inside.refl _) (Only.refl _ s)
  | bridgeFlitReplay src => exact execBridgeFlitReplay_only src (Inside.refl _) (Only.refl _ s)
  | bridgeLaneRetire src => exact execBridgeLaneRetire_only src (Inside.refl _) (Only.refl _ s)
  | bridgeRetrainDone => exact execBridgeRetrainDone_only (Inside.refl _) (Only.refl _ s)
  | bridgeDown => exact execBridgeDown_only (Inside.refl _) (Only.refl _ s)
  | bridgeUp => exact execBridgeUp_only (Inside.refl _) (Only.refl _ s)
  | writeCompressorClose p => exact execWriteCompressorClose_only p (Inside.refl _) (Only.refl _ s)
  | tierReadReturn id md => exact execTierReadReturn_only id md (Inside.refl _) (Only.refl _ s)
  | tierReadTimeout id => exact execTierReadTimeout_only id (Inside.refl _) (Only.refl _ s)
  | tierReadLateReturn id => exact execTierReadLateReturn_only id (Inside.refl _) (Only.refl _ s)
  | wttDataWrite v => exact execWttDataWrite_only v (Inside.refl _) (Only.refl _ s)
  | wttCommit t => exact execWttCommit_only t (Inside.refl _) (Only.refl _ s)
  | wttGroupCommit => exact execWttGroupCommit_only (Inside.refl _) (Only.refl _ s)
  | wttCopy t => exact execWttCopy_only t (Inside.refl _) (Only.refl _ s)
  | wttCommitReserved t => exact execWttCommitReserved_only t (Inside.refl _) (Only.refl _ s)
  | wttFlip => exact execWttFlip_only (Inside.refl _) (Only.refl _ s)
  | oldDone t => exact execOldDone_only t (Inside.refl _) (Only.refl _ s)
  | tirAssign => exact execTirAssign_only (Inside.refl _) (Only.refl _ s)
  | tirRelease => exact execTirRelease_only (Inside.refl _) (Only.refl _ s)
  | tirAsgnReserved => exact execTirAsgnReserved_only (Inside.refl _) (Only.refl _ s)
  | tirRemoveClaims t => exact execTirRemoveClaims_only t (Inside.refl _) (Only.refl _ s)
  | plotQuery hi => exact execPlotQuery_only hi (Inside.refl _) (Only.refl _ s)
  | tirClsWrite v => exact execTirClsWrite_only v (Inside.refl _) (Only.refl _ s)
  | ageClockTick => exact execAgeClockTick_only (Inside.refl _) (Only.refl _ s)
  | decayBoundary => exact execDecayBoundary_only (Inside.refl _) (Only.refl _ s)
  | ageSweep h => exact execAgeSweep_only h (Inside.refl _) (Only.refl _ s)
  | coldClassify h => exact execColdClassify_only h (Inside.refl _) (Only.refl _ s)
  | claimRetry h => exact execClaimRetry_only h (Inside.refl _) (Only.refl _ s)
  | claimWaitExpire id => exact execClaimWaitExpire_only id (Inside.refl _) (Only.refl _ s)
  | moveBlockDone plot bad => exact execMoveBlockDone_only plot bad (Inside.refl _) (Only.refl _ s)
  | farEnable t => exact execFarEnable_only t (Inside.refl _) (Only.refl _ s)
  | farDisable t => exact execFarDisable_only t (Inside.refl _) (Only.refl _ s)
  | farRevoke t => exact execFarRevoke_only t (Inside.refl _) (Only.refl _ s)
  | almMark t mark => exact execAlmMark_only t mark (Inside.refl _) (Only.refl _ s)
  | cursorUpdate => exact execCursorUpdate_only (Inside.refl _) (Only.refl _ s)
  | almanacAction => exact execAlmanacAction_only (Inside.refl _) (Only.refl _ s)
  | almanacLoadCommit cal => exact execAlmanacLoadCommit_only cal (Inside.refl _) (Only.refl _ s)
  | almBind cal cursor t src => exact execAlmBind_only cal cursor t src (Inside.refl _) (Only.refl _ s)
  | almUnbind cal cursor => exact execAlmUnbind_only cal cursor (Inside.refl _) (Only.refl _ s)
  | almClearPosition cal cursor => exact execAlmClearPosition_only cal cursor (Inside.refl _) (Only.refl _ s)
  | almReclaimUnload cal => exact execAlmReclaimUnload_only cal (Inside.refl _) (Only.refl _ s)
  | almNewOwner cal t src => exact execAlmNewOwner_only cal t src (Inside.refl _) (Only.refl _ s)
  | tableGenerationRetire slot => exact execTableGenerationRetire_only slot (Inside.refl _) (Only.refl _ s)
  | cmpTableUnload => exact execCmpTableUnload_only (Inside.refl _) (Only.refl _ s)
  | cmpTableOwner t => exact execCmpTableOwner_only t (Inside.refl _) (Only.refl _ s)
  | cmpTcmdReserved => exact execCmpTcmdReserved_only (Inside.refl _) (Only.refl _ s)
  | scaleWindowEnable n v => exact execScaleWindowEnable_only n v (Inside.refl _) (Only.refl _ s)
  | doorbellLineWrite t data be poison => exact execDoorbellLineWrite_only t data be poison (Inside.refl _) (Only.refl _ s)
  | doorbellLineRead t => exact execDoorbellLineRead_only t (Inside.refl _) (Only.refl _ s)
  | mmioDoorbell t v => exact execMmioDoorbell_only t v (Inside.refl _) (Only.refl _ s)
  | ringEnable t r v => exact execRingEnable_only t r v (Inside.refl _) (Only.refl _ s)
  | ringDisable t r v => exact execRingDisable_only t r v (Inside.refl _) (Only.refl _ s)
  | ringRestart t r => exact execRingRestart_only t r (Inside.refl _) (Only.refl _ s)
  | ringFetch t => exact execRingFetch_only t (Inside.refl _) (Only.refl _ s)
  | descriptorFetchCompletion tag c => exact execDescriptorFetchCompletion_only tag c (Inside.refl _) (Only.refl _ s)
  | descriptorTake t r => exact execDescriptorTake_only t r (Inside.refl _) (Only.refl _ s)
  | operationComplete op => exact execOperationComplete_only op (Inside.refl _) (Only.refl _ s)
  | interruptCoalesceExpire t => exact execInterruptCoalesceExpire_only t (Inside.refl _) (Only.refl _ s)
  | cqEnable t v => exact execCqEnable_only t v (Inside.refl _) (Only.refl _ s)
  | cqDisable t v => exact execCqDisable_only t v (Inside.refl _) (Only.refl _ s)
  | cqHeadWrite t v => exact execCqHeadWrite_only t v (Inside.refl _) (Only.refl _ s)
  | fill op => exact execFill_only op (Inside.refl _) (Only.refl _ s)
  | copy op => exact execCopy_only op (Inside.refl _) (Only.refl _ s)
  | copyConvert op => exact execCopyConvert_only op (Inside.refl _) (Only.refl _ s)
  | imageInstall op => exact execImageInstall_only op (Inside.refl _) (Only.refl _ s)
  | compare op => exact execCompare_only op (Inside.refl _) (Only.refl _ s)
  | reduce op => exact execReduce_only op (Inside.refl _) (Only.refl _ s)
  | embedGather op => exact execEmbedGather_only op (Inside.refl _) (Only.refl _ s)
  | expert op => exact execExpert_only op (Inside.refl _) (Only.refl _ s)
  | runProgram op => exact execRunProgram_only op (Inside.refl _) (Only.refl _ s)
  | quant op => exact execQuant_only op (Inside.refl _) (Only.refl _ s)
  | gateact op => exact execGateact_only op (Inside.refl _) (Only.refl _ s)
  | promote op => exact execPromote_only op (Inside.refl _) (Only.refl _ s)
  | demote op => exact execDemote_only op (Inside.refl _) (Only.refl _ s)
  | pin op => exact execPin_only op (Inside.refl _) (Only.refl _ s)
  | unpin op => exact execUnpin_only op (Inside.refl _) (Only.refl _ s)
  | publish op => exact execPublish_only op (Inside.refl _) (Only.refl _ s)
  | acquire op => exact execAcquire_only op (Inside.refl _) (Only.refl _ s)
  | release op => exact execRelease_only op (Inside.refl _) (Only.refl _ s)
  | tableLoad op => exact execTableLoad_only op (Inside.refl _) (Only.refl _ s)
  | programLoad op => exact execProgramLoad_only op (Inside.refl _) (Only.refl _ s)
  | almanacLoad op => exact execAlmanacLoad_only op (Inside.refl _) (Only.refl _ s)
  | mark op => exact execMark_only op (Inside.refl _) (Only.refl _ s)
  | fence op => exact execFence_only op (Inside.refl _) (Only.refl _ s)
  | stagingFillDone fe plot block => exact execStagingFillDone_only fe plot block (Inside.refl _) (Only.refl _ s)
  | tileStart fe => exact (execTileStart_only fe (Inside.refl _) (Only.refl _ s) : Answers _ (execTileStart fe s))
  | tileEnd fe dup => exact execTileEnd_only fe dup (Inside.refl _) (Only.refl _ s)
  | engineFence fe c => exact execEngineFence_only fe c (Inside.refl _) (Only.refl _ s)
  | engineFenced fe => exact execEngineFenced_only fe (Inside.refl _) (Only.refl _ s)
  | engineBist fe => exact execEngineBist_only fe (Inside.refl _) (Only.refl _ s)
  | engineBistDone fe pass => exact execEngineBistDone_only fe pass (Inside.refl _) (Only.refl _ s)
  | engineReturn fe => exact execEngineReturn_only fe (Inside.refl _) (Only.refl _ s)
  | fieldTestStart u => exact execFieldTestStart_only u (Inside.refl _) (Only.refl _ s)
  | fieldTestDone u pass => exact execFieldTestDone_only u pass (Inside.refl _) (Only.refl _ s)
  | grainCreate job => exact execGrainCreate_only job (Inside.refl _) (Only.refl _ s)
  | grainDispatch core => exact execGrainDispatch_only core (Inside.refl _) (Only.refl _ s)
  | grainForcedYield g => exact execGrainForcedYield_only g (Inside.refl _) (Only.refl _ s)
  | grainWake g => exact execGrainWake_only g (Inside.refl _) (Only.refl _ s)
  | grainLimitExceeded g => exact execGrainLimitExceeded_only g (Inside.refl _) (Only.refl _ s)
  | spnAlu g => exact execSpnAlu_only g (Inside.refl _) (Only.refl _ s)
  | spnAluImm g => exact execSpnAluImm_only g (Inside.refl _) (Only.refl _ s)
  | spnLoadUpper g => exact execSpnLoadUpper_only g (Inside.refl _) (Only.refl _ s)
  | spnLoad g => exact execSpnLoad_only g (Inside.refl _) (Only.refl _ s)
  | spnStore g => exact execSpnStore_only g (Inside.refl _) (Only.refl _ s)
  | spnBranch g => exact execSpnBranch_only g (Inside.refl _) (Only.refl _ s)
  | spnJump g => exact execSpnJump_only g (Inside.refl _) (Only.refl _ s)
  | spnJumpReg g => exact execSpnJumpReg_only g (Inside.refl _) (Only.refl _ s)
  | spnAtomic g => exact execSpnAtomic_only g (Inside.refl _) (Only.refl _ s)
  | spnYield g => exact execSpnYield_only g (Inside.refl _) (Only.refl _ s)
  | spnFence g => exact execSpnFence_only g (Inside.refl _) (Only.refl _ s)
  | spnExit g => exact execSpnExit_only g (Inside.refl _) (Only.refl _ s)
  | spnTrap g => exact execSpnTrap_only g (Inside.refl _) (Only.refl _ s)
  | spnGets g => exact execSpnGets_only g (Inside.refl _) (Only.refl _ s)
  | spnWait g => exact execSpnWait_only g (Inside.refl _) (Only.refl _ s)
  | spnSignal g => exact execSpnSignal_only g (Inside.refl _) (Only.refl _ s)
  | spnMark g => exact execSpnMark_only g (Inside.refl _) (Only.refl _ s)
  | spnVectorInt g => exact execSpnVectorInt_only g (Inside.refl _) (Only.refl _ s)
  | spnVectorFp g => exact execSpnVectorFp_only g (Inside.refl _) (Only.refl _ s)
  | spnReduce g => exact execSpnReduce_only g (Inside.refl _) (Only.refl _ s)
  | spnVectorLoad g => exact execSpnVectorLoad_only g (Inside.refl _) (Only.refl _ s)
  | spnVectorStore g => exact execSpnVectorStore_only g (Inside.refl _) (Only.refl _ s)
  | spnGather g => exact execSpnGather_only g (Inside.refl _) (Only.refl _ s)
  | spnScatter g => exact execSpnScatter_only g (Inside.refl _) (Only.refl _ s)
  | spnVcvt g => exact execSpnVcvt_only g (Inside.refl _) (Only.refl _ s)
  | spnVmxq g => exact execSpnVmxq_only g (Inside.refl _) (Only.refl _ s)
  | spnCrc g => exact execSpnCrc_only g (Inside.refl _) (Only.refl _ s)
  | spnCrcv g => exact execSpnCrcv_only g (Inside.refl _) (Only.refl _ s)
  | coreFence tc c => exact execCoreFence_only tc c (Inside.refl _) (Only.refl _ s)
  | coreFenced tc => exact execCoreFenced_only tc (Inside.refl _) (Only.refl _ s)
  | coreBist tc => exact execCoreBist_only tc (Inside.refl _) (Only.refl _ s)
  | coreBistDone tc pass => exact execCoreBistDone_only tc pass (Inside.refl _) (Only.refl _ s)
  | coreReturn tc => exact execCoreReturn_only tc (Inside.refl _) (Only.refl _ s)
  | programOldDiscard slot => exact execProgramOldDiscard_only slot (Inside.refl _) (Only.refl _ s)
  | programSlotUnload => exact execProgramSlotUnload_only (Inside.refl _) (Only.refl _ s)
  | programSlotOwner t => exact execProgramSlotOwner_only t (Inside.refl _) (Only.refl _ s)
  | tndPcmdReserved => exact execTndPcmdReserved_only (Inside.refl _) (Only.refl _ s)
  | regionEnable v => exact execRegionEnable_only v (Inside.refl _) (Only.refl _ s)
  | regionDisable => exact execRegionDisable_only (Inside.refl _) (Only.refl _ s)
  | snoopResponse id rsp => exact execSnoopResponse_only id rsp (Inside.refl _) (Only.refl _ s)
  | biconflict t line => exact execBiconflict_only t line (Inside.refl _) (Only.refl _ s)
  | snoopTimeout id => exact execSnoopTimeout_only id (Inside.refl _) (Only.refl _ s)
  | directoryWaitResume h => exact execDirectoryWaitResume_only h (Inside.refl _) (Only.refl _ s)
  | backInvalidateDone walk => exact execBackInvalidateDone_only walk (Inside.refl _) (Only.refl _ s)
  | shrFailTenant t => exact execShrFailTenant_only t (Inside.refl _) (Only.refl _ s)
  | failureSweepEnd t => exact execFailureSweepEnd_only t (Inside.refl _) (Only.refl _ s)
  | releaseRegionOrphans r => exact execReleaseRegionOrphans_only r (Inside.refl _) (Only.refl _ s)
  | releaseTenantOrphans t => exact execReleaseTenantOrphans_only t (Inside.refl _) (Only.refl _ s)
  | releaseCapacity r t => exact execReleaseCapacity_only r t (Inside.refl _) (Only.refl _ s)
  | releaseDynamicCapacity t dpa => exact execReleaseDynamicCapacity_only t dpa (Inside.refl _) (Only.refl _ s)
  | addDynamicCapacityResponse t => exact execAddDynamicCapacityResponse_only t (Inside.refl _) (Only.refl _ s)
  | weirWindowBoundary t => exact execWeirWindowBoundary_only t (Inside.refl _) (Only.refl _ s)
  | weirConfigWrite t budget v => exact execWeirConfigWrite_only t budget v (Inside.refl _) (Only.refl _ s)
  | urgencyPinSettle p level => exact execUrgencyPinSettle_only p level (Inside.refl _) (Only.refl _ s)
  | uibWrite t v => exact execUibWrite_only t v (Inside.refl _) (Only.refl _ s)
  | uibHoldExpire t => exact execUibHoldExpire_only t (Inside.refl _) (Only.refl _ s)
  | writeQueueServe ch => exact execWriteQueueServe_only ch (Inside.refl _) (Only.refl _ s)
  | rowIdleClose ch bank => exact execRowIdleClose_only ch bank (Inside.refl _) (Only.refl _ s)
  | refreshDue ch bank => exact execRefreshDue_only ch bank (Inside.refl _) (Only.refl _ s)
  | temperaturePoll ch rate => exact execTemperaturePoll_only ch rate (Inside.refl _) (Only.refl _ s)
  | refreshRateChange ch rate => exact execRefreshRateChange_only ch rate (Inside.refl _) (Only.refl _ s)
  | retrainPauseDue ch => exact execRetrainPauseDue_only ch (Inside.refl _) (Only.refl _ s)
  | retrainPauseEnd ch ok => exact execRetrainPauseEnd_only ch ok (Inside.refl _) (Only.refl _ s)
  | evacuate rank => exact execEvacuate_only rank (Inside.refl _) (Only.refl _ s)
  | evacuateCancel rank => exact execEvacuateCancel_only rank (Inside.refl _) (Only.refl _ s)
  | evacuateAutoTrigger rank => exact execEvacuateAutoTrigger_only rank (Inside.refl _) (Only.refl _ s)
  | evacuateCopyDone rank => exact execEvacuateCopyDone_only rank (Inside.refl _) (Only.refl _ s)
  | switchoverEnd rank => exact execSwitchoverEnd_only rank (Inside.refl _) (Only.refl _ s)
  | spillDone rank => exact execSpillDone_only rank (Inside.refl _) (Only.refl _ s)
  | spillResume h => exact execSpillResume_only h (Inside.refl _) (Only.refl _ s)
  | scriptAbort ch => exact execScriptAbort_only ch (Inside.refl _) (Only.refl _ s)
  | scriptSetCommit near ver => exact execScriptSetCommit_only near ver (Inside.refl _) (Only.refl _ s)
  | bankGiveStage b fe => exact execBankGiveStage_only b fe (Inside.refl _) (Only.refl _ s)
  | bankReturnPool b => exact execBankReturnPool_only b (Inside.refl _) (Only.refl _ s)
  | bankRetire b => exact execBankRetire_only b (Inside.refl _) (Only.refl _ s)
  | bankPowerOn b => exact execBankPowerOn_only b (Inside.refl _) (Only.refl _ s)
  | bankRetention b => exact execBankRetention_only b (Inside.refl _) (Only.refl _ s)
  | bankFallow b => exact execBankFallow_only b (Inside.refl _) (Only.refl _ s)
  | handoverComplete b => exact execHandoverComplete_only b (Inside.refl _) (Only.refl _ s)
  | zeroFillDone b => exact execZeroFillDone_only b (Inside.refl _) (Only.refl _ s)
  | bankWakeDone b => exact execBankWakeDone_only b (Inside.refl _) (Only.refl _ s)
  | bankAllot job => exact execBankAllot_only job (Inside.refl _) (Only.refl _ s)
  | bankIdleRetention b => exact execBankIdleRetention_only b (Inside.refl _) (Only.refl _ s)
  | bankIdleFallow b => exact execBankIdleFallow_only b (Inside.refl _) (Only.refl _ s)
  | portStarveOverride b port1 => exact execPortStarveOverride_only b port1 (Inside.refl _) (Only.refl _ s)
  | marchDestructive first count bg => exact execMarchDestructive_only first count bg (Inside.refl _) (Only.refl _ s)
  | marchPreserving first count => exact execMarchPreserving_only first count (Inside.refl _) (Only.refl _ s)
  | marchAbort h => exact execMarchAbort_only h (Inside.refl _) (Only.refl _ s)
  | marchDone h failed fail0 fail1 => exact execMarchDone_only h failed fail0 fail1 (Inside.refl _) (Only.refl _ s)
  | scrubRead tier unit loc md => exact execScrubRead_only tier unit loc md (Inside.refl _) (Only.refl _ s)
  | lapEnd tier h ms => exact execLapEnd_only tier h ms (Inside.refl _) (Only.refl _ s)
  | lapOverdue tier h ms => exact execLapOverdue_only tier h ms (Inside.refl _) (Only.refl _ s)
  | retireNearSlot => exact execRetireNearSlot_only (Inside.refl _) (Only.refl _ s)
  | retireBulkUnit h => exact execRetireBulkUnit_only h (Inside.refl _) (Only.refl _ s)
  | addRetirementEntry kind h => exact execAddRetirementEntry_only kind h (Inside.refl _) (Only.refl _ s)
  | emptyRetirementEntry => exact execEmptyRetirementEntry_only (Inside.refl _) (Only.refl _ s)
  | relocationDone => exact execRelocationDone_only (Inside.refl _) (Only.refl _ s)
  | relocationWaitExpire => exact execRelocationWaitExpire_only (Inside.refl _) (Only.refl _ s)
  | flashWriteDone => exact execFlashWriteDone_only (Inside.refl _) (Only.refl _ s)
  | maintGrantRequest code scope unit => exact execMaintGrantRequest_only code scope unit (Inside.refl _) (Only.refl _ s)
  | maintPark id => exact execMaintPark_only id (Inside.refl _) (Only.refl _ s)
  | maintResume id => exact execMaintResume_only id (Inside.refl _) (Only.refl _ s)
  | longDeferral id => exact execLongDeferral_only id (Inside.refl _) (Only.refl _ s)
  | raiseMinsvn => exact execRaiseMinsvn_only (Inside.refl _) (Only.refl _ s)
  | revokeKey k => exact execRevokeKey_only k (Inside.refl _) (Only.refl _ s)
  | fuseWriteDone => exact execFuseWriteDone_only (Inside.refl _) (Only.refl _ s)
  | kcmdKeygen slot => exact execKcmdKeygen_only slot (Inside.refl _) (Only.refl _ s)
  | kcmdZeroise slot => exact execKcmdZeroise_only slot (Inside.refl _) (Only.refl _ s)
  | kcmdZeroiseAll => exact execKcmdZeroiseAll_only (Inside.refl _) (Only.refl _ s)
  | zeroiseDone slot => exact execZeroiseDone_only slot (Inside.refl _) (Only.refl _ s)
  | bindWrite e session eid => exact execBindWrite_only e session eid (Inside.refl _) (Only.refl _ s)
  | getVersion e => exact execGetVersion_only e (Inside.refl _) (Only.refl _ s)
  | getCapabilities e => exact execGetCapabilities_only e (Inside.refl _) (Only.refl _ s)
  | negotiateAlgorithms e => exact execNegotiateAlgorithms_only e (Inside.refl _) (Only.refl _ s)
  | getDigests e => exact execGetDigests_only e (Inside.refl _) (Only.refl _ s)
  | getCertificate e slot => exact execGetCertificate_only e slot (Inside.refl _) (Only.refl _ s)
  | challenge e nonce => exact execChallenge_only e nonce (Inside.refl _) (Only.refl _ s)
  | getMeasurements e index signed => exact execGetMeasurements_only e index signed (Inside.refl _) (Only.refl _ s)
  | keyExchange e => exact execKeyExchange_only e (Inside.refl _) (Only.refl _ s)
  | finish e session => exact execFinish_only e session (Inside.refl _) (Only.refl _ s)
  | endSession e session => exact execEndSession_only e session (Inside.refl _) (Only.refl _ s)
  | heartbeat e session => exact execHeartbeat_only e session (Inside.refl _) (Only.refl _ s)
  | keyUpdate e session => exact execKeyUpdate_only e session (Inside.refl _) (Only.refl _ s)
  | spdmLoad e session slot rsvd k1 k2 => exact execSpdmLoad_only e session slot rsvd k1 k2 (Inside.refl _) (Only.refl _ s)
  | spdmKeygen e session slot rsvd => exact execSpdmKeygen_only e session slot rsvd (Inside.refl _) (Only.refl _ s)
  | spdmZeroise e session slot rsvd => exact execSpdmZeroise_only e session slot rsvd (Inside.refl _) (Only.refl _ s)
  | spdmZeroiseAll e session rsvd => exact execSpdmZeroiseAll_only e session rsvd (Inside.refl _) (Only.refl _ s)
  | debugUnlock e session token => exact execDebugUnlock_only e session token (Inside.refl _) (Only.refl _ s)
  | keyProg p session keySet => exact execKeyProg_only p session keySet (Inside.refl _) (Only.refl _ s)
  | kSetGo p session keySet => exact execKSetGo_only p session keySet (Inside.refl _) (Only.refl _ s)
  | kSetStop p session keySet => exact execKSetStop_only p session keySet (Inside.refl _) (Only.refl _ s)
  | ideIntegrityFail p => exact execIdeIntegrityFail_only p (Inside.refl _) (Only.refl _ s)
  | updateBegin => exact execUpdateBegin_only (Inside.refl _) (Only.refl _ s)
  | updateChunk c => exact execUpdateChunk_only c (Inside.refl _) (Only.refl _ s)
  | updateVerify => exact execUpdateVerify_only (Inside.refl _) (Only.refl _ s)
  | updateCommit => exact execUpdateCommit_only (Inside.refl _) (Only.refl _ s)
  | updateAbandon => exact execUpdateAbandon_only (Inside.refl _) (Only.refl _ s)
  | updateCommitDone => exact execUpdateCommitDone_only (Inside.refl _) (Only.refl _ s)
  | bistFe n => exact execBistFe_only n (Inside.refl _) (Only.refl _ s)
  | bistTc n => exact execBistTc_only n (Inside.refl _) (Only.refl _ s)
  | bistRank n => exact execBistRank_only n (Inside.refl _) (Only.refl _ s)
  | bistPort n => exact execBistPort_only n (Inside.refl _) (Only.refl _ s)
  | bistDone sig expected => exact execBistDone_only sig expected (Inside.refl _) (Only.refl _ s)
  | governorPlan pin pavg => exact execGovernorPlan_only pin pavg (Inside.refl _) (Only.refl _ s)
  | sensorSample temps => exact execSensorSample_only temps (Inside.refl _) (Only.refl _ s)
  | thermalCapStep => exact execThermalCapStep_only (Inside.refl _) (Only.refl _ s)
  | thermalTrip => exact execThermalTrip_only (Inside.refl _) (Only.refl _ s)
  | tripRelease => exact execTripRelease_only (Inside.refl _) (Only.refl _ s)
  | standbyEnter => exact execStandbyEnter_only (Inside.refl _) (Only.refl _ s)
  | standbyExit cause => exact execStandbyExit_only cause (Inside.refl _) (Only.refl _ s)
  | watchdogExpire h => exact execWatchdogExpire_only h (Inside.refl _) (Only.refl _ s)
  | tokenReceived h => exact execTokenReceived_only h (Inside.refl _) (Only.refl _ s)
  | tokenLinkTimeout h => exact execTokenLinkTimeout_only h (Inside.refl _) (Only.refl _ s)
  | tokenLinkReturn => exact execTokenLinkReturn_only (Inside.refl _) (Only.refl _ s)
  | coreRestartDone h => exact execCoreRestartDone_only h (Inside.refl _) (Only.refl _ s)
  | stewardRegisterAccess e session off write count data => exact execStewardRegisterAccess_only e session off write count data (Inside.refl _) (Only.refl _ s)
  | mctpControl e setEid => exact execMctpControl_only e setEid (Inside.refl _) (Only.refl _ s)
  | identify e => exact execIdentify_only e (Inside.refl _) (Only.refl _ s)
  | backgroundOperationStatus e => exact execBackgroundOperationStatus_only e (Inside.refl _) (Only.refl _ s)
  | getResponseMessageLimit e => exact execGetResponseMessageLimit_only e (Inside.refl _) (Only.refl _ s)
  | setResponseMessageLimit e v => exact execSetResponseMessageLimit_only e v (Inside.refl _) (Only.refl _ s)
  | getEventRecords e log => exact execGetEventRecords_only e log (Inside.refl _) (Only.refl _ s)
  | clearEventRecords e log count => exact execClearEventRecords_only e log count (Inside.refl _) (Only.refl _ s)
  | getEventInterruptPolicy e => exact execGetEventInterruptPolicy_only e (Inside.refl _) (Only.refl _ s)
  | setEventInterruptPolicy e v => exact execSetEventInterruptPolicy_only e v (Inside.refl _) (Only.refl _ s)
  | getTimestamp e => exact execGetTimestamp_only e (Inside.refl _) (Only.refl _ s)
  | setTimestamp e v => exact execSetTimestamp_only e v (Inside.refl _) (Only.refl _ s)
  | getSupportedLogs e => exact execGetSupportedLogs_only e (Inside.refl _) (Only.refl _ s)
  | getLog e off len => exact execGetLog_only e off len (Inside.refl _) (Only.refl _ s)
  | tunnelManagement e ld opcode => exact execTunnelManagement_only e ld opcode (Inside.refl _) (Only.refl _ s)
  | sendLdConfigurationRequest e ld write reg v => exact execSendLdConfigurationRequest_only e ld write reg v (Inside.refl _) (Only.refl _ s)
  | sendLdMemoryRequest e ld write off v => exact execSendLdMemoryRequest_only e ld write off v (Inside.refl _) (Only.refl _ s)
  | getLdInfo e => exact execGetLdInfo_only e (Inside.refl _) (Only.refl _ s)
  | getLdAllocations e => exact execGetLdAllocations_only e (Inside.refl _) (Only.refl _ s)
  | getMultiHeadedInfo e => exact execGetMultiHeadedInfo_only e (Inside.refl _) (Only.refl _ s)
  | getHeadInfo e p => exact execGetHeadInfo_only e p (Inside.refl _) (Only.refl _ s)
  | getDcdInfo e => exact execGetDcdInfo_only e (Inside.refl _) (Only.refl _ s)
  | getHostDcRegionConfiguration e ld => exact execGetHostDcRegionConfiguration_only e ld (Inside.refl _) (Only.refl _ s)
  | getDcRegionExtentLists e ld => exact execGetDcRegionExtentLists_only e ld (Inside.refl _) (Only.refl _ s)
  | getDynamicCapacityConfiguration t => exact execGetDynamicCapacityConfiguration_only t (Inside.refl _) (Only.refl _ s)
  | getDynamicCapacityExtentList t => exact execGetDynamicCapacityExtentList_only t (Inside.refl _) (Only.refl _ s)
  | identifyMemoryDevice t => exact execIdentifyMemoryDevice_only t (Inside.refl _) (Only.refl _ s)
  | getHealthInfo t => exact execGetHealthInfo_only t (Inside.refl _) (Only.refl _ s)
  | unsupportedCommand e opcode => exact execUnsupportedCommand_only e opcode (Inside.refl _) (Only.refl _ s)
  | railOutOfLimits => exact execRailOutOfLimits_only (Inside.refl _) (Only.refl _ s)
  | meshLinkFailure h => exact execMeshLinkFailure_only h (Inside.refl _) (Only.refl _ s)
  | channelLost ch => exact execChannelLost_only ch (Inside.refl _) (Only.refl _ s)
  | i3cDynamicAddressAssignment addr => exact execI3cDynamicAddressAssignment_only addr (Inside.refl _) (Only.refl _ s)

end Sys2Proof.Machine
end

