-- ==== Sys2Proof/Laws/State.lean ====
section
/-! SUPPORT. What each named update of the state leaves in every field. -/

namespace Sys2Proof.Machine

variable {s : State}

@[simp] theorem State.tickFree_clk : (s.tickFree).clk = s.clk := rfl
@[simp] theorem State.tickFree_pins : (s.tickFree).pins = s.pins := rfl
@[simp] theorem State.tickFree_fuse : (s.tickFree).fuse = s.fuse := rfl
@[simp] theorem State.tickFree_flash : (s.tickFree).flash = s.flash := rfl
@[simp] theorem State.tickFree_reg : (s.tickFree).reg = s.reg := rfl
@[simp] theorem State.tickFree_north : (s.tickFree).north = s.north := rfl
@[simp] theorem State.tickFree_south : (s.tickFree).south = s.south := rfl
@[simp] theorem State.tickFree_bridge : (s.tickFree).bridge = s.bridge := rfl
@[simp] theorem State.tickFree_ports : (s.tickFree).ports = s.ports := rfl
@[simp] theorem State.tickFree_lds : (s.tickFree).lds = s.lds := rfl
@[simp] theorem State.tickFree_tags : (s.tickFree).tags = s.tags := rfl
@[simp] theorem State.tickFree_quarantine : (s.tickFree).quarantine = s.quarantine := rfl
@[simp] theorem State.tickFree_wtt : (s.tickFree).wtt = s.wtt := rfl
@[simp] theorem State.tickFree_wttData : (s.tickFree).wttData = s.wttData := rfl
@[simp] theorem State.tickFree_flip : (s.tickFree).flip = s.flip := rfl
@[simp] theorem State.tickFree_tier : (s.tickFree).tier = s.tier := rfl
@[simp] theorem State.tickFree_alm : (s.tickFree).alm = s.alm := rfl
@[simp] theorem State.tickFree_cmp : (s.tickFree).cmp = s.cmp := rfl
@[simp] theorem State.tickFree_rings : (s.tickFree).rings = s.rings := rfl
@[simp] theorem State.tickFree_eng : (s.tickFree).eng = s.eng := rfl
@[simp] theorem State.tickFree_ops : (s.tickFree).ops = s.ops := rfl
@[simp] theorem State.tickFree_nextOp : (s.tickFree).nextOp = s.nextOp := rfl
@[simp] theorem State.tickFree_jobs : (s.tickFree).jobs = s.jobs := rfl
@[simp] theorem State.tickFree_grains : (s.tickFree).grains = s.grains := rfl
@[simp] theorem State.tickFree_nextGrain : (s.tickFree).nextGrain = s.nextGrain := rfl
@[simp] theorem State.tickFree_pslots : (s.tickFree).pslots = s.pslots := rfl
@[simp] theorem State.tickFree_fes : (s.tickFree).fes = s.fes := rfl
@[simp] theorem State.tickFree_tcs : (s.tickFree).tcs = s.tcs := rfl
@[simp] theorem State.tickFree_xjobs : (s.tickFree).xjobs = s.xjobs := rfl
@[simp] theorem State.tickFree_dups : (s.tickFree).dups = s.dups := rfl
@[simp] theorem State.tickFree_shr : (s.tickFree).shr = s.shr := rfl
@[simp] theorem State.tickFree_hg : (s.tickFree).hg = s.hg := rfl
@[simp] theorem State.tickFree_nextReq : (s.tickFree).nextReq = s.nextReq := rfl
@[simp] theorem State.tickFree_arb : (s.tickFree).arb = s.arb := rfl
@[simp] theorem State.tickFree_dmc : (s.tickFree).dmc = s.dmc := rfl
@[simp] theorem State.tickFree_cst : (s.tickFree).cst = s.cst := rfl
@[simp] theorem State.tickFree_ras : (s.tickFree).ras = s.ras := rfl
@[simp] theorem State.tickFree_sec : (s.tickFree).sec = s.sec := rfl
@[simp] theorem State.tickFree_upd : (s.tickFree).upd = s.upd := rfl
@[simp] theorem State.tickFree_pwm : (s.tickFree).pwm = s.pwm := rfl
@[simp] theorem State.tickFree_mgmt : (s.tickFree).mgmt = s.mgmt := rfl
@[simp] theorem State.tickFree_out : (s.tickFree).out = s.out := rfl
@[simp] theorem State.tickFree_acc : (s.tickFree).acc = s.acc := rfl
@[simp] theorem State.tickFree_pending : (s.tickFree).pending = s.pending := rfl
@[simp] theorem State.emit_clk (m : Msg) : (s.emit m).clk = s.clk := rfl
@[simp] theorem State.emit_pins (m : Msg) : (s.emit m).pins = s.pins := rfl
@[simp] theorem State.emit_fuse (m : Msg) : (s.emit m).fuse = s.fuse := rfl
@[simp] theorem State.emit_flash (m : Msg) : (s.emit m).flash = s.flash := rfl
@[simp] theorem State.emit_reg (m : Msg) : (s.emit m).reg = s.reg := rfl
@[simp] theorem State.emit_north (m : Msg) : (s.emit m).north = s.north := rfl
@[simp] theorem State.emit_south (m : Msg) : (s.emit m).south = s.south := rfl
@[simp] theorem State.emit_bridge (m : Msg) : (s.emit m).bridge = s.bridge := rfl
@[simp] theorem State.emit_ports (m : Msg) : (s.emit m).ports = s.ports := rfl
@[simp] theorem State.emit_lds (m : Msg) : (s.emit m).lds = s.lds := rfl
@[simp] theorem State.emit_tags (m : Msg) : (s.emit m).tags = s.tags := rfl
@[simp] theorem State.emit_quarantine (m : Msg) : (s.emit m).quarantine = s.quarantine := rfl
@[simp] theorem State.emit_wtt (m : Msg) : (s.emit m).wtt = s.wtt := rfl
@[simp] theorem State.emit_wttData (m : Msg) : (s.emit m).wttData = s.wttData := rfl
@[simp] theorem State.emit_flip (m : Msg) : (s.emit m).flip = s.flip := rfl
@[simp] theorem State.emit_tier (m : Msg) : (s.emit m).tier = s.tier := rfl
@[simp] theorem State.emit_alm (m : Msg) : (s.emit m).alm = s.alm := rfl
@[simp] theorem State.emit_cmp (m : Msg) : (s.emit m).cmp = s.cmp := rfl
@[simp] theorem State.emit_rings (m : Msg) : (s.emit m).rings = s.rings := rfl
@[simp] theorem State.emit_eng (m : Msg) : (s.emit m).eng = s.eng := rfl
@[simp] theorem State.emit_ops (m : Msg) : (s.emit m).ops = s.ops := rfl
@[simp] theorem State.emit_nextOp (m : Msg) : (s.emit m).nextOp = s.nextOp := rfl
@[simp] theorem State.emit_jobs (m : Msg) : (s.emit m).jobs = s.jobs := rfl
@[simp] theorem State.emit_grains (m : Msg) : (s.emit m).grains = s.grains := rfl
@[simp] theorem State.emit_nextGrain (m : Msg) : (s.emit m).nextGrain = s.nextGrain := rfl
@[simp] theorem State.emit_pslots (m : Msg) : (s.emit m).pslots = s.pslots := rfl
@[simp] theorem State.emit_fes (m : Msg) : (s.emit m).fes = s.fes := rfl
@[simp] theorem State.emit_tcs (m : Msg) : (s.emit m).tcs = s.tcs := rfl
@[simp] theorem State.emit_xjobs (m : Msg) : (s.emit m).xjobs = s.xjobs := rfl
@[simp] theorem State.emit_dups (m : Msg) : (s.emit m).dups = s.dups := rfl
@[simp] theorem State.emit_shr (m : Msg) : (s.emit m).shr = s.shr := rfl
@[simp] theorem State.emit_hg (m : Msg) : (s.emit m).hg = s.hg := rfl
@[simp] theorem State.emit_nextReq (m : Msg) : (s.emit m).nextReq = s.nextReq := rfl
@[simp] theorem State.emit_arb (m : Msg) : (s.emit m).arb = s.arb := rfl
@[simp] theorem State.emit_dmc (m : Msg) : (s.emit m).dmc = s.dmc := rfl
@[simp] theorem State.emit_cst (m : Msg) : (s.emit m).cst = s.cst := rfl
@[simp] theorem State.emit_ras (m : Msg) : (s.emit m).ras = s.ras := rfl
@[simp] theorem State.emit_sec (m : Msg) : (s.emit m).sec = s.sec := rfl
@[simp] theorem State.emit_upd (m : Msg) : (s.emit m).upd = s.upd := rfl
@[simp] theorem State.emit_pwm (m : Msg) : (s.emit m).pwm = s.pwm := rfl
@[simp] theorem State.emit_mgmt (m : Msg) : (s.emit m).mgmt = s.mgmt := rfl
@[simp] theorem State.emit_acc (m : Msg) : (s.emit m).acc = s.acc := rfl
@[simp] theorem State.emit_freeCtr (m : Msg) : (s.emit m).freeCtr = s.freeCtr := rfl
@[simp] theorem State.emit_pending (m : Msg) : (s.emit m).pending = s.pending := rfl
@[simp] theorem State.setPort_clk (p : Nat) (v : Port) : (s.setPort p v).clk = s.clk := rfl
@[simp] theorem State.setPort_pins (p : Nat) (v : Port) : (s.setPort p v).pins = s.pins := rfl
@[simp] theorem State.setPort_fuse (p : Nat) (v : Port) : (s.setPort p v).fuse = s.fuse := rfl
@[simp] theorem State.setPort_flash (p : Nat) (v : Port) : (s.setPort p v).flash = s.flash := rfl
@[simp] theorem State.setPort_reg (p : Nat) (v : Port) : (s.setPort p v).reg = s.reg := rfl
@[simp] theorem State.setPort_north (p : Nat) (v : Port) : (s.setPort p v).north = s.north := rfl
@[simp] theorem State.setPort_south (p : Nat) (v : Port) : (s.setPort p v).south = s.south := rfl
@[simp] theorem State.setPort_bridge (p : Nat) (v : Port) : (s.setPort p v).bridge = s.bridge := rfl
@[simp] theorem State.setPort_lds (p : Nat) (v : Port) : (s.setPort p v).lds = s.lds := rfl
@[simp] theorem State.setPort_tags (p : Nat) (v : Port) : (s.setPort p v).tags = s.tags := rfl
@[simp] theorem State.setPort_quarantine (p : Nat) (v : Port) : (s.setPort p v).quarantine = s.quarantine := rfl
@[simp] theorem State.setPort_wtt (p : Nat) (v : Port) : (s.setPort p v).wtt = s.wtt := rfl
@[simp] theorem State.setPort_wttData (p : Nat) (v : Port) : (s.setPort p v).wttData = s.wttData := rfl
@[simp] theorem State.setPort_flip (p : Nat) (v : Port) : (s.setPort p v).flip = s.flip := rfl
@[simp] theorem State.setPort_tier (p : Nat) (v : Port) : (s.setPort p v).tier = s.tier := rfl
@[simp] theorem State.setPort_alm (p : Nat) (v : Port) : (s.setPort p v).alm = s.alm := rfl
@[simp] theorem State.setPort_cmp (p : Nat) (v : Port) : (s.setPort p v).cmp = s.cmp := rfl
@[simp] theorem State.setPort_rings (p : Nat) (v : Port) : (s.setPort p v).rings = s.rings := rfl
@[simp] theorem State.setPort_eng (p : Nat) (v : Port) : (s.setPort p v).eng = s.eng := rfl
@[simp] theorem State.setPort_ops (p : Nat) (v : Port) : (s.setPort p v).ops = s.ops := rfl
@[simp] theorem State.setPort_nextOp (p : Nat) (v : Port) : (s.setPort p v).nextOp = s.nextOp := rfl
@[simp] theorem State.setPort_jobs (p : Nat) (v : Port) : (s.setPort p v).jobs = s.jobs := rfl
@[simp] theorem State.setPort_grains (p : Nat) (v : Port) : (s.setPort p v).grains = s.grains := rfl
@[simp] theorem State.setPort_nextGrain (p : Nat) (v : Port) : (s.setPort p v).nextGrain = s.nextGrain := rfl
@[simp] theorem State.setPort_pslots (p : Nat) (v : Port) : (s.setPort p v).pslots = s.pslots := rfl
@[simp] theorem State.setPort_fes (p : Nat) (v : Port) : (s.setPort p v).fes = s.fes := rfl
@[simp] theorem State.setPort_tcs (p : Nat) (v : Port) : (s.setPort p v).tcs = s.tcs := rfl
@[simp] theorem State.setPort_xjobs (p : Nat) (v : Port) : (s.setPort p v).xjobs = s.xjobs := rfl
@[simp] theorem State.setPort_dups (p : Nat) (v : Port) : (s.setPort p v).dups = s.dups := rfl
@[simp] theorem State.setPort_shr (p : Nat) (v : Port) : (s.setPort p v).shr = s.shr := rfl
@[simp] theorem State.setPort_hg (p : Nat) (v : Port) : (s.setPort p v).hg = s.hg := rfl
@[simp] theorem State.setPort_nextReq (p : Nat) (v : Port) : (s.setPort p v).nextReq = s.nextReq := rfl
@[simp] theorem State.setPort_arb (p : Nat) (v : Port) : (s.setPort p v).arb = s.arb := rfl
@[simp] theorem State.setPort_dmc (p : Nat) (v : Port) : (s.setPort p v).dmc = s.dmc := rfl
@[simp] theorem State.setPort_cst (p : Nat) (v : Port) : (s.setPort p v).cst = s.cst := rfl
@[simp] theorem State.setPort_ras (p : Nat) (v : Port) : (s.setPort p v).ras = s.ras := rfl
@[simp] theorem State.setPort_sec (p : Nat) (v : Port) : (s.setPort p v).sec = s.sec := rfl
@[simp] theorem State.setPort_upd (p : Nat) (v : Port) : (s.setPort p v).upd = s.upd := rfl
@[simp] theorem State.setPort_pwm (p : Nat) (v : Port) : (s.setPort p v).pwm = s.pwm := rfl
@[simp] theorem State.setPort_mgmt (p : Nat) (v : Port) : (s.setPort p v).mgmt = s.mgmt := rfl
@[simp] theorem State.setPort_out (p : Nat) (v : Port) : (s.setPort p v).out = s.out := rfl
@[simp] theorem State.setPort_acc (p : Nat) (v : Port) : (s.setPort p v).acc = s.acc := rfl
@[simp] theorem State.setPort_freeCtr (p : Nat) (v : Port) : (s.setPort p v).freeCtr = s.freeCtr := rfl
@[simp] theorem State.setPort_pending (p : Nat) (v : Port) : (s.setPort p v).pending = s.pending := rfl
@[simp] theorem State.setLd_clk (t : Nat) (v : Ld) : (s.setLd t v).clk = s.clk := rfl
@[simp] theorem State.setLd_pins (t : Nat) (v : Ld) : (s.setLd t v).pins = s.pins := rfl
@[simp] theorem State.setLd_fuse (t : Nat) (v : Ld) : (s.setLd t v).fuse = s.fuse := rfl
@[simp] theorem State.setLd_flash (t : Nat) (v : Ld) : (s.setLd t v).flash = s.flash := rfl
@[simp] theorem State.setLd_reg (t : Nat) (v : Ld) : (s.setLd t v).reg = s.reg := rfl
@[simp] theorem State.setLd_north (t : Nat) (v : Ld) : (s.setLd t v).north = s.north := rfl
@[simp] theorem State.setLd_south (t : Nat) (v : Ld) : (s.setLd t v).south = s.south := rfl
@[simp] theorem State.setLd_bridge (t : Nat) (v : Ld) : (s.setLd t v).bridge = s.bridge := rfl
@[simp] theorem State.setLd_ports (t : Nat) (v : Ld) : (s.setLd t v).ports = s.ports := rfl
@[simp] theorem State.setLd_tags (t : Nat) (v : Ld) : (s.setLd t v).tags = s.tags := rfl
@[simp] theorem State.setLd_quarantine (t : Nat) (v : Ld) : (s.setLd t v).quarantine = s.quarantine := rfl
@[simp] theorem State.setLd_wtt (t : Nat) (v : Ld) : (s.setLd t v).wtt = s.wtt := rfl
@[simp] theorem State.setLd_wttData (t : Nat) (v : Ld) : (s.setLd t v).wttData = s.wttData := rfl
@[simp] theorem State.setLd_flip (t : Nat) (v : Ld) : (s.setLd t v).flip = s.flip := rfl
@[simp] theorem State.setLd_tier (t : Nat) (v : Ld) : (s.setLd t v).tier = s.tier := rfl
@[simp] theorem State.setLd_alm (t : Nat) (v : Ld) : (s.setLd t v).alm = s.alm := rfl
@[simp] theorem State.setLd_cmp (t : Nat) (v : Ld) : (s.setLd t v).cmp = s.cmp := rfl
@[simp] theorem State.setLd_rings (t : Nat) (v : Ld) : (s.setLd t v).rings = s.rings := rfl
@[simp] theorem State.setLd_eng (t : Nat) (v : Ld) : (s.setLd t v).eng = s.eng := rfl
@[simp] theorem State.setLd_ops (t : Nat) (v : Ld) : (s.setLd t v).ops = s.ops := rfl
@[simp] theorem State.setLd_nextOp (t : Nat) (v : Ld) : (s.setLd t v).nextOp = s.nextOp := rfl
@[simp] theorem State.setLd_jobs (t : Nat) (v : Ld) : (s.setLd t v).jobs = s.jobs := rfl
@[simp] theorem State.setLd_grains (t : Nat) (v : Ld) : (s.setLd t v).grains = s.grains := rfl
@[simp] theorem State.setLd_nextGrain (t : Nat) (v : Ld) : (s.setLd t v).nextGrain = s.nextGrain := rfl
@[simp] theorem State.setLd_pslots (t : Nat) (v : Ld) : (s.setLd t v).pslots = s.pslots := rfl
@[simp] theorem State.setLd_fes (t : Nat) (v : Ld) : (s.setLd t v).fes = s.fes := rfl
@[simp] theorem State.setLd_tcs (t : Nat) (v : Ld) : (s.setLd t v).tcs = s.tcs := rfl
@[simp] theorem State.setLd_xjobs (t : Nat) (v : Ld) : (s.setLd t v).xjobs = s.xjobs := rfl
@[simp] theorem State.setLd_dups (t : Nat) (v : Ld) : (s.setLd t v).dups = s.dups := rfl
@[simp] theorem State.setLd_shr (t : Nat) (v : Ld) : (s.setLd t v).shr = s.shr := rfl
@[simp] theorem State.setLd_hg (t : Nat) (v : Ld) : (s.setLd t v).hg = s.hg := rfl
@[simp] theorem State.setLd_nextReq (t : Nat) (v : Ld) : (s.setLd t v).nextReq = s.nextReq := rfl
@[simp] theorem State.setLd_arb (t : Nat) (v : Ld) : (s.setLd t v).arb = s.arb := rfl
@[simp] theorem State.setLd_dmc (t : Nat) (v : Ld) : (s.setLd t v).dmc = s.dmc := rfl
@[simp] theorem State.setLd_cst (t : Nat) (v : Ld) : (s.setLd t v).cst = s.cst := rfl
@[simp] theorem State.setLd_ras (t : Nat) (v : Ld) : (s.setLd t v).ras = s.ras := rfl
@[simp] theorem State.setLd_sec (t : Nat) (v : Ld) : (s.setLd t v).sec = s.sec := rfl
@[simp] theorem State.setLd_upd (t : Nat) (v : Ld) : (s.setLd t v).upd = s.upd := rfl
@[simp] theorem State.setLd_pwm (t : Nat) (v : Ld) : (s.setLd t v).pwm = s.pwm := rfl
@[simp] theorem State.setLd_mgmt (t : Nat) (v : Ld) : (s.setLd t v).mgmt = s.mgmt := rfl
@[simp] theorem State.setLd_out (t : Nat) (v : Ld) : (s.setLd t v).out = s.out := rfl
@[simp] theorem State.setLd_acc (t : Nat) (v : Ld) : (s.setLd t v).acc = s.acc := rfl
@[simp] theorem State.setLd_freeCtr (t : Nat) (v : Ld) : (s.setLd t v).freeCtr = s.freeCtr := rfl
@[simp] theorem State.setLd_pending (t : Nat) (v : Ld) : (s.setLd t v).pending = s.pending := rfl
@[simp] theorem State.setWtt_clk (t : Nat) (v : Wtt) : (s.setWtt t v).clk = s.clk := rfl
@[simp] theorem State.setWtt_pins (t : Nat) (v : Wtt) : (s.setWtt t v).pins = s.pins := rfl
@[simp] theorem State.setWtt_fuse (t : Nat) (v : Wtt) : (s.setWtt t v).fuse = s.fuse := rfl
@[simp] theorem State.setWtt_flash (t : Nat) (v : Wtt) : (s.setWtt t v).flash = s.flash := rfl
@[simp] theorem State.setWtt_reg (t : Nat) (v : Wtt) : (s.setWtt t v).reg = s.reg := rfl
@[simp] theorem State.setWtt_north (t : Nat) (v : Wtt) : (s.setWtt t v).north = s.north := rfl
@[simp] theorem State.setWtt_south (t : Nat) (v : Wtt) : (s.setWtt t v).south = s.south := rfl
@[simp] theorem State.setWtt_bridge (t : Nat) (v : Wtt) : (s.setWtt t v).bridge = s.bridge := rfl
@[simp] theorem State.setWtt_ports (t : Nat) (v : Wtt) : (s.setWtt t v).ports = s.ports := rfl
@[simp] theorem State.setWtt_lds (t : Nat) (v : Wtt) : (s.setWtt t v).lds = s.lds := rfl
@[simp] theorem State.setWtt_tags (t : Nat) (v : Wtt) : (s.setWtt t v).tags = s.tags := rfl
@[simp] theorem State.setWtt_quarantine (t : Nat) (v : Wtt) : (s.setWtt t v).quarantine = s.quarantine := rfl
@[simp] theorem State.setWtt_wttData (t : Nat) (v : Wtt) : (s.setWtt t v).wttData = s.wttData := rfl
@[simp] theorem State.setWtt_flip (t : Nat) (v : Wtt) : (s.setWtt t v).flip = s.flip := rfl
@[simp] theorem State.setWtt_tier (t : Nat) (v : Wtt) : (s.setWtt t v).tier = s.tier := rfl
@[simp] theorem State.setWtt_alm (t : Nat) (v : Wtt) : (s.setWtt t v).alm = s.alm := rfl
@[simp] theorem State.setWtt_cmp (t : Nat) (v : Wtt) : (s.setWtt t v).cmp = s.cmp := rfl
@[simp] theorem State.setWtt_rings (t : Nat) (v : Wtt) : (s.setWtt t v).rings = s.rings := rfl
@[simp] theorem State.setWtt_eng (t : Nat) (v : Wtt) : (s.setWtt t v).eng = s.eng := rfl
@[simp] theorem State.setWtt_ops (t : Nat) (v : Wtt) : (s.setWtt t v).ops = s.ops := rfl
@[simp] theorem State.setWtt_nextOp (t : Nat) (v : Wtt) : (s.setWtt t v).nextOp = s.nextOp := rfl
@[simp] theorem State.setWtt_jobs (t : Nat) (v : Wtt) : (s.setWtt t v).jobs = s.jobs := rfl
@[simp] theorem State.setWtt_grains (t : Nat) (v : Wtt) : (s.setWtt t v).grains = s.grains := rfl
@[simp] theorem State.setWtt_nextGrain (t : Nat) (v : Wtt) : (s.setWtt t v).nextGrain = s.nextGrain := rfl
@[simp] theorem State.setWtt_pslots (t : Nat) (v : Wtt) : (s.setWtt t v).pslots = s.pslots := rfl
@[simp] theorem State.setWtt_fes (t : Nat) (v : Wtt) : (s.setWtt t v).fes = s.fes := rfl
@[simp] theorem State.setWtt_tcs (t : Nat) (v : Wtt) : (s.setWtt t v).tcs = s.tcs := rfl
@[simp] theorem State.setWtt_xjobs (t : Nat) (v : Wtt) : (s.setWtt t v).xjobs = s.xjobs := rfl
@[simp] theorem State.setWtt_dups (t : Nat) (v : Wtt) : (s.setWtt t v).dups = s.dups := rfl
@[simp] theorem State.setWtt_shr (t : Nat) (v : Wtt) : (s.setWtt t v).shr = s.shr := rfl
@[simp] theorem State.setWtt_hg (t : Nat) (v : Wtt) : (s.setWtt t v).hg = s.hg := rfl
@[simp] theorem State.setWtt_nextReq (t : Nat) (v : Wtt) : (s.setWtt t v).nextReq = s.nextReq := rfl
@[simp] theorem State.setWtt_arb (t : Nat) (v : Wtt) : (s.setWtt t v).arb = s.arb := rfl
@[simp] theorem State.setWtt_dmc (t : Nat) (v : Wtt) : (s.setWtt t v).dmc = s.dmc := rfl
@[simp] theorem State.setWtt_cst (t : Nat) (v : Wtt) : (s.setWtt t v).cst = s.cst := rfl
@[simp] theorem State.setWtt_ras (t : Nat) (v : Wtt) : (s.setWtt t v).ras = s.ras := rfl
@[simp] theorem State.setWtt_sec (t : Nat) (v : Wtt) : (s.setWtt t v).sec = s.sec := rfl
@[simp] theorem State.setWtt_upd (t : Nat) (v : Wtt) : (s.setWtt t v).upd = s.upd := rfl
@[simp] theorem State.setWtt_pwm (t : Nat) (v : Wtt) : (s.setWtt t v).pwm = s.pwm := rfl
@[simp] theorem State.setWtt_mgmt (t : Nat) (v : Wtt) : (s.setWtt t v).mgmt = s.mgmt := rfl
@[simp] theorem State.setWtt_out (t : Nat) (v : Wtt) : (s.setWtt t v).out = s.out := rfl
@[simp] theorem State.setWtt_acc (t : Nat) (v : Wtt) : (s.setWtt t v).acc = s.acc := rfl
@[simp] theorem State.setWtt_freeCtr (t : Nat) (v : Wtt) : (s.setWtt t v).freeCtr = s.freeCtr := rfl
@[simp] theorem State.setWtt_pending (t : Nat) (v : Wtt) : (s.setWtt t v).pending = s.pending := rfl
@[simp] theorem State.setPlot_clk (p : Nat) (v : Plot) : (s.setPlot p v).clk = s.clk := rfl
@[simp] theorem State.setPlot_pins (p : Nat) (v : Plot) : (s.setPlot p v).pins = s.pins := rfl
@[simp] theorem State.setPlot_fuse (p : Nat) (v : Plot) : (s.setPlot p v).fuse = s.fuse := rfl
@[simp] theorem State.setPlot_flash (p : Nat) (v : Plot) : (s.setPlot p v).flash = s.flash := rfl
@[simp] theorem State.setPlot_reg (p : Nat) (v : Plot) : (s.setPlot p v).reg = s.reg := rfl
@[simp] theorem State.setPlot_north (p : Nat) (v : Plot) : (s.setPlot p v).north = s.north := rfl
@[simp] theorem State.setPlot_south (p : Nat) (v : Plot) : (s.setPlot p v).south = s.south := rfl
@[simp] theorem State.setPlot_bridge (p : Nat) (v : Plot) : (s.setPlot p v).bridge = s.bridge := rfl
@[simp] theorem State.setPlot_ports (p : Nat) (v : Plot) : (s.setPlot p v).ports = s.ports := rfl
@[simp] theorem State.setPlot_lds (p : Nat) (v : Plot) : (s.setPlot p v).lds = s.lds := rfl
@[simp] theorem State.setPlot_tags (p : Nat) (v : Plot) : (s.setPlot p v).tags = s.tags := rfl
@[simp] theorem State.setPlot_quarantine (p : Nat) (v : Plot) : (s.setPlot p v).quarantine = s.quarantine := rfl
@[simp] theorem State.setPlot_wtt (p : Nat) (v : Plot) : (s.setPlot p v).wtt = s.wtt := rfl
@[simp] theorem State.setPlot_wttData (p : Nat) (v : Plot) : (s.setPlot p v).wttData = s.wttData := rfl
@[simp] theorem State.setPlot_flip (p : Nat) (v : Plot) : (s.setPlot p v).flip = s.flip := rfl
@[simp] theorem State.setPlot_alm (p : Nat) (v : Plot) : (s.setPlot p v).alm = s.alm := rfl
@[simp] theorem State.setPlot_cmp (p : Nat) (v : Plot) : (s.setPlot p v).cmp = s.cmp := rfl
@[simp] theorem State.setPlot_rings (p : Nat) (v : Plot) : (s.setPlot p v).rings = s.rings := rfl
@[simp] theorem State.setPlot_eng (p : Nat) (v : Plot) : (s.setPlot p v).eng = s.eng := rfl
@[simp] theorem State.setPlot_ops (p : Nat) (v : Plot) : (s.setPlot p v).ops = s.ops := rfl
@[simp] theorem State.setPlot_nextOp (p : Nat) (v : Plot) : (s.setPlot p v).nextOp = s.nextOp := rfl
@[simp] theorem State.setPlot_jobs (p : Nat) (v : Plot) : (s.setPlot p v).jobs = s.jobs := rfl
@[simp] theorem State.setPlot_grains (p : Nat) (v : Plot) : (s.setPlot p v).grains = s.grains := rfl
@[simp] theorem State.setPlot_nextGrain (p : Nat) (v : Plot) : (s.setPlot p v).nextGrain = s.nextGrain := rfl
@[simp] theorem State.setPlot_pslots (p : Nat) (v : Plot) : (s.setPlot p v).pslots = s.pslots := rfl
@[simp] theorem State.setPlot_fes (p : Nat) (v : Plot) : (s.setPlot p v).fes = s.fes := rfl
@[simp] theorem State.setPlot_tcs (p : Nat) (v : Plot) : (s.setPlot p v).tcs = s.tcs := rfl
@[simp] theorem State.setPlot_xjobs (p : Nat) (v : Plot) : (s.setPlot p v).xjobs = s.xjobs := rfl
@[simp] theorem State.setPlot_dups (p : Nat) (v : Plot) : (s.setPlot p v).dups = s.dups := rfl
@[simp] theorem State.setPlot_shr (p : Nat) (v : Plot) : (s.setPlot p v).shr = s.shr := rfl
@[simp] theorem State.setPlot_hg (p : Nat) (v : Plot) : (s.setPlot p v).hg = s.hg := rfl
@[simp] theorem State.setPlot_nextReq (p : Nat) (v : Plot) : (s.setPlot p v).nextReq = s.nextReq := rfl
@[simp] theorem State.setPlot_arb (p : Nat) (v : Plot) : (s.setPlot p v).arb = s.arb := rfl
@[simp] theorem State.setPlot_dmc (p : Nat) (v : Plot) : (s.setPlot p v).dmc = s.dmc := rfl
@[simp] theorem State.setPlot_cst (p : Nat) (v : Plot) : (s.setPlot p v).cst = s.cst := rfl
@[simp] theorem State.setPlot_ras (p : Nat) (v : Plot) : (s.setPlot p v).ras = s.ras := rfl
@[simp] theorem State.setPlot_sec (p : Nat) (v : Plot) : (s.setPlot p v).sec = s.sec := rfl
@[simp] theorem State.setPlot_upd (p : Nat) (v : Plot) : (s.setPlot p v).upd = s.upd := rfl
@[simp] theorem State.setPlot_pwm (p : Nat) (v : Plot) : (s.setPlot p v).pwm = s.pwm := rfl
@[simp] theorem State.setPlot_mgmt (p : Nat) (v : Plot) : (s.setPlot p v).mgmt = s.mgmt := rfl
@[simp] theorem State.setPlot_out (p : Nat) (v : Plot) : (s.setPlot p v).out = s.out := rfl
@[simp] theorem State.setPlot_acc (p : Nat) (v : Plot) : (s.setPlot p v).acc = s.acc := rfl
@[simp] theorem State.setPlot_freeCtr (p : Nat) (v : Plot) : (s.setPlot p v).freeCtr = s.freeCtr := rfl
@[simp] theorem State.setPlot_pending (p : Nat) (v : Plot) : (s.setPlot p v).pending = s.pending := rfl
@[simp] theorem State.delPlot_clk (p : Nat) : (s.delPlot p).clk = s.clk := rfl
@[simp] theorem State.delPlot_pins (p : Nat) : (s.delPlot p).pins = s.pins := rfl
@[simp] theorem State.delPlot_fuse (p : Nat) : (s.delPlot p).fuse = s.fuse := rfl
@[simp] theorem State.delPlot_flash (p : Nat) : (s.delPlot p).flash = s.flash := rfl
@[simp] theorem State.delPlot_reg (p : Nat) : (s.delPlot p).reg = s.reg := rfl
@[simp] theorem State.delPlot_north (p : Nat) : (s.delPlot p).north = s.north := rfl
@[simp] theorem State.delPlot_south (p : Nat) : (s.delPlot p).south = s.south := rfl
@[simp] theorem State.delPlot_bridge (p : Nat) : (s.delPlot p).bridge = s.bridge := rfl
@[simp] theorem State.delPlot_ports (p : Nat) : (s.delPlot p).ports = s.ports := rfl
@[simp] theorem State.delPlot_lds (p : Nat) : (s.delPlot p).lds = s.lds := rfl
@[simp] theorem State.delPlot_tags (p : Nat) : (s.delPlot p).tags = s.tags := rfl
@[simp] theorem State.delPlot_quarantine (p : Nat) : (s.delPlot p).quarantine = s.quarantine := rfl
@[simp] theorem State.delPlot_wtt (p : Nat) : (s.delPlot p).wtt = s.wtt := rfl
@[simp] theorem State.delPlot_wttData (p : Nat) : (s.delPlot p).wttData = s.wttData := rfl
@[simp] theorem State.delPlot_flip (p : Nat) : (s.delPlot p).flip = s.flip := rfl
@[simp] theorem State.delPlot_alm (p : Nat) : (s.delPlot p).alm = s.alm := rfl
@[simp] theorem State.delPlot_cmp (p : Nat) : (s.delPlot p).cmp = s.cmp := rfl
@[simp] theorem State.delPlot_rings (p : Nat) : (s.delPlot p).rings = s.rings := rfl
@[simp] theorem State.delPlot_eng (p : Nat) : (s.delPlot p).eng = s.eng := rfl
@[simp] theorem State.delPlot_ops (p : Nat) : (s.delPlot p).ops = s.ops := rfl
@[simp] theorem State.delPlot_nextOp (p : Nat) : (s.delPlot p).nextOp = s.nextOp := rfl
@[simp] theorem State.delPlot_jobs (p : Nat) : (s.delPlot p).jobs = s.jobs := rfl
@[simp] theorem State.delPlot_grains (p : Nat) : (s.delPlot p).grains = s.grains := rfl
@[simp] theorem State.delPlot_nextGrain (p : Nat) : (s.delPlot p).nextGrain = s.nextGrain := rfl
@[simp] theorem State.delPlot_pslots (p : Nat) : (s.delPlot p).pslots = s.pslots := rfl
@[simp] theorem State.delPlot_fes (p : Nat) : (s.delPlot p).fes = s.fes := rfl
@[simp] theorem State.delPlot_tcs (p : Nat) : (s.delPlot p).tcs = s.tcs := rfl
@[simp] theorem State.delPlot_xjobs (p : Nat) : (s.delPlot p).xjobs = s.xjobs := rfl
@[simp] theorem State.delPlot_dups (p : Nat) : (s.delPlot p).dups = s.dups := rfl
@[simp] theorem State.delPlot_shr (p : Nat) : (s.delPlot p).shr = s.shr := rfl
@[simp] theorem State.delPlot_hg (p : Nat) : (s.delPlot p).hg = s.hg := rfl
@[simp] theorem State.delPlot_nextReq (p : Nat) : (s.delPlot p).nextReq = s.nextReq := rfl
@[simp] theorem State.delPlot_arb (p : Nat) : (s.delPlot p).arb = s.arb := rfl
@[simp] theorem State.delPlot_dmc (p : Nat) : (s.delPlot p).dmc = s.dmc := rfl
@[simp] theorem State.delPlot_cst (p : Nat) : (s.delPlot p).cst = s.cst := rfl
@[simp] theorem State.delPlot_ras (p : Nat) : (s.delPlot p).ras = s.ras := rfl
@[simp] theorem State.delPlot_sec (p : Nat) : (s.delPlot p).sec = s.sec := rfl
@[simp] theorem State.delPlot_upd (p : Nat) : (s.delPlot p).upd = s.upd := rfl
@[simp] theorem State.delPlot_pwm (p : Nat) : (s.delPlot p).pwm = s.pwm := rfl
@[simp] theorem State.delPlot_mgmt (p : Nat) : (s.delPlot p).mgmt = s.mgmt := rfl
@[simp] theorem State.delPlot_out (p : Nat) : (s.delPlot p).out = s.out := rfl
@[simp] theorem State.delPlot_acc (p : Nat) : (s.delPlot p).acc = s.acc := rfl
@[simp] theorem State.delPlot_freeCtr (p : Nat) : (s.delPlot p).freeCtr = s.freeCtr := rfl
@[simp] theorem State.delPlot_pending (p : Nat) : (s.delPlot p).pending = s.pending := rfl
@[simp] theorem State.modTier_clk (f : Tier → Tier) : (s.modTier f).clk = s.clk := rfl
@[simp] theorem State.modTier_pins (f : Tier → Tier) : (s.modTier f).pins = s.pins := rfl
@[simp] theorem State.modTier_fuse (f : Tier → Tier) : (s.modTier f).fuse = s.fuse := rfl
@[simp] theorem State.modTier_flash (f : Tier → Tier) : (s.modTier f).flash = s.flash := rfl
@[simp] theorem State.modTier_reg (f : Tier → Tier) : (s.modTier f).reg = s.reg := rfl
@[simp] theorem State.modTier_north (f : Tier → Tier) : (s.modTier f).north = s.north := rfl
@[simp] theorem State.modTier_south (f : Tier → Tier) : (s.modTier f).south = s.south := rfl
@[simp] theorem State.modTier_bridge (f : Tier → Tier) : (s.modTier f).bridge = s.bridge := rfl
@[simp] theorem State.modTier_ports (f : Tier → Tier) : (s.modTier f).ports = s.ports := rfl
@[simp] theorem State.modTier_lds (f : Tier → Tier) : (s.modTier f).lds = s.lds := rfl
@[simp] theorem State.modTier_tags (f : Tier → Tier) : (s.modTier f).tags = s.tags := rfl
@[simp] theorem State.modTier_quarantine (f : Tier → Tier) : (s.modTier f).quarantine = s.quarantine := rfl
@[simp] theorem State.modTier_wtt (f : Tier → Tier) : (s.modTier f).wtt = s.wtt := rfl
@[simp] theorem State.modTier_wttData (f : Tier → Tier) : (s.modTier f).wttData = s.wttData := rfl
@[simp] theorem State.modTier_flip (f : Tier → Tier) : (s.modTier f).flip = s.flip := rfl
@[simp] theorem State.modTier_alm (f : Tier → Tier) : (s.modTier f).alm = s.alm := rfl
@[simp] theorem State.modTier_cmp (f : Tier → Tier) : (s.modTier f).cmp = s.cmp := rfl
@[simp] theorem State.modTier_rings (f : Tier → Tier) : (s.modTier f).rings = s.rings := rfl
@[simp] theorem State.modTier_eng (f : Tier → Tier) : (s.modTier f).eng = s.eng := rfl
@[simp] theorem State.modTier_ops (f : Tier → Tier) : (s.modTier f).ops = s.ops := rfl
@[simp] theorem State.modTier_nextOp (f : Tier → Tier) : (s.modTier f).nextOp = s.nextOp := rfl
@[simp] theorem State.modTier_jobs (f : Tier → Tier) : (s.modTier f).jobs = s.jobs := rfl
@[simp] theorem State.modTier_grains (f : Tier → Tier) : (s.modTier f).grains = s.grains := rfl
@[simp] theorem State.modTier_nextGrain (f : Tier → Tier) : (s.modTier f).nextGrain = s.nextGrain := rfl
@[simp] theorem State.modTier_pslots (f : Tier → Tier) : (s.modTier f).pslots = s.pslots := rfl
@[simp] theorem State.modTier_fes (f : Tier → Tier) : (s.modTier f).fes = s.fes := rfl
@[simp] theorem State.modTier_tcs (f : Tier → Tier) : (s.modTier f).tcs = s.tcs := rfl
@[simp] theorem State.modTier_xjobs (f : Tier → Tier) : (s.modTier f).xjobs = s.xjobs := rfl
@[simp] theorem State.modTier_dups (f : Tier → Tier) : (s.modTier f).dups = s.dups := rfl
@[simp] theorem State.modTier_shr (f : Tier → Tier) : (s.modTier f).shr = s.shr := rfl
@[simp] theorem State.modTier_hg (f : Tier → Tier) : (s.modTier f).hg = s.hg := rfl
@[simp] theorem State.modTier_nextReq (f : Tier → Tier) : (s.modTier f).nextReq = s.nextReq := rfl
@[simp] theorem State.modTier_arb (f : Tier → Tier) : (s.modTier f).arb = s.arb := rfl
@[simp] theorem State.modTier_dmc (f : Tier → Tier) : (s.modTier f).dmc = s.dmc := rfl
@[simp] theorem State.modTier_cst (f : Tier → Tier) : (s.modTier f).cst = s.cst := rfl
@[simp] theorem State.modTier_ras (f : Tier → Tier) : (s.modTier f).ras = s.ras := rfl
@[simp] theorem State.modTier_sec (f : Tier → Tier) : (s.modTier f).sec = s.sec := rfl
@[simp] theorem State.modTier_upd (f : Tier → Tier) : (s.modTier f).upd = s.upd := rfl
@[simp] theorem State.modTier_pwm (f : Tier → Tier) : (s.modTier f).pwm = s.pwm := rfl
@[simp] theorem State.modTier_mgmt (f : Tier → Tier) : (s.modTier f).mgmt = s.mgmt := rfl
@[simp] theorem State.modTier_out (f : Tier → Tier) : (s.modTier f).out = s.out := rfl
@[simp] theorem State.modTier_acc (f : Tier → Tier) : (s.modTier f).acc = s.acc := rfl
@[simp] theorem State.modTier_freeCtr (f : Tier → Tier) : (s.modTier f).freeCtr = s.freeCtr := rfl
@[simp] theorem State.modTier_pending (f : Tier → Tier) : (s.modTier f).pending = s.pending := rfl
@[simp] theorem State.modShr_clk (f : Shr → Shr) : (s.modShr f).clk = s.clk := rfl
@[simp] theorem State.modShr_pins (f : Shr → Shr) : (s.modShr f).pins = s.pins := rfl
@[simp] theorem State.modShr_fuse (f : Shr → Shr) : (s.modShr f).fuse = s.fuse := rfl
@[simp] theorem State.modShr_flash (f : Shr → Shr) : (s.modShr f).flash = s.flash := rfl
@[simp] theorem State.modShr_reg (f : Shr → Shr) : (s.modShr f).reg = s.reg := rfl
@[simp] theorem State.modShr_north (f : Shr → Shr) : (s.modShr f).north = s.north := rfl
@[simp] theorem State.modShr_south (f : Shr → Shr) : (s.modShr f).south = s.south := rfl
@[simp] theorem State.modShr_bridge (f : Shr → Shr) : (s.modShr f).bridge = s.bridge := rfl
@[simp] theorem State.modShr_ports (f : Shr → Shr) : (s.modShr f).ports = s.ports := rfl
@[simp] theorem State.modShr_lds (f : Shr → Shr) : (s.modShr f).lds = s.lds := rfl
@[simp] theorem State.modShr_tags (f : Shr → Shr) : (s.modShr f).tags = s.tags := rfl
@[simp] theorem State.modShr_quarantine (f : Shr → Shr) : (s.modShr f).quarantine = s.quarantine := rfl
@[simp] theorem State.modShr_wtt (f : Shr → Shr) : (s.modShr f).wtt = s.wtt := rfl
@[simp] theorem State.modShr_wttData (f : Shr → Shr) : (s.modShr f).wttData = s.wttData := rfl
@[simp] theorem State.modShr_flip (f : Shr → Shr) : (s.modShr f).flip = s.flip := rfl
@[simp] theorem State.modShr_tier (f : Shr → Shr) : (s.modShr f).tier = s.tier := rfl
@[simp] theorem State.modShr_alm (f : Shr → Shr) : (s.modShr f).alm = s.alm := rfl
@[simp] theorem State.modShr_cmp (f : Shr → Shr) : (s.modShr f).cmp = s.cmp := rfl
@[simp] theorem State.modShr_rings (f : Shr → Shr) : (s.modShr f).rings = s.rings := rfl
@[simp] theorem State.modShr_eng (f : Shr → Shr) : (s.modShr f).eng = s.eng := rfl
@[simp] theorem State.modShr_ops (f : Shr → Shr) : (s.modShr f).ops = s.ops := rfl
@[simp] theorem State.modShr_nextOp (f : Shr → Shr) : (s.modShr f).nextOp = s.nextOp := rfl
@[simp] theorem State.modShr_jobs (f : Shr → Shr) : (s.modShr f).jobs = s.jobs := rfl
@[simp] theorem State.modShr_grains (f : Shr → Shr) : (s.modShr f).grains = s.grains := rfl
@[simp] theorem State.modShr_nextGrain (f : Shr → Shr) : (s.modShr f).nextGrain = s.nextGrain := rfl
@[simp] theorem State.modShr_pslots (f : Shr → Shr) : (s.modShr f).pslots = s.pslots := rfl
@[simp] theorem State.modShr_fes (f : Shr → Shr) : (s.modShr f).fes = s.fes := rfl
@[simp] theorem State.modShr_tcs (f : Shr → Shr) : (s.modShr f).tcs = s.tcs := rfl
@[simp] theorem State.modShr_xjobs (f : Shr → Shr) : (s.modShr f).xjobs = s.xjobs := rfl
@[simp] theorem State.modShr_dups (f : Shr → Shr) : (s.modShr f).dups = s.dups := rfl
@[simp] theorem State.modShr_hg (f : Shr → Shr) : (s.modShr f).hg = s.hg := rfl
@[simp] theorem State.modShr_nextReq (f : Shr → Shr) : (s.modShr f).nextReq = s.nextReq := rfl
@[simp] theorem State.modShr_arb (f : Shr → Shr) : (s.modShr f).arb = s.arb := rfl
@[simp] theorem State.modShr_dmc (f : Shr → Shr) : (s.modShr f).dmc = s.dmc := rfl
@[simp] theorem State.modShr_cst (f : Shr → Shr) : (s.modShr f).cst = s.cst := rfl
@[simp] theorem State.modShr_ras (f : Shr → Shr) : (s.modShr f).ras = s.ras := rfl
@[simp] theorem State.modShr_sec (f : Shr → Shr) : (s.modShr f).sec = s.sec := rfl
@[simp] theorem State.modShr_upd (f : Shr → Shr) : (s.modShr f).upd = s.upd := rfl
@[simp] theorem State.modShr_pwm (f : Shr → Shr) : (s.modShr f).pwm = s.pwm := rfl
@[simp] theorem State.modShr_mgmt (f : Shr → Shr) : (s.modShr f).mgmt = s.mgmt := rfl
@[simp] theorem State.modShr_out (f : Shr → Shr) : (s.modShr f).out = s.out := rfl
@[simp] theorem State.modShr_acc (f : Shr → Shr) : (s.modShr f).acc = s.acc := rfl
@[simp] theorem State.modShr_freeCtr (f : Shr → Shr) : (s.modShr f).freeCtr = s.freeCtr := rfl
@[simp] theorem State.modShr_pending (f : Shr → Shr) : (s.modShr f).pending = s.pending := rfl
@[simp] theorem State.modDmc_clk (f : Dmc → Dmc) : (s.modDmc f).clk = s.clk := rfl
@[simp] theorem State.modDmc_pins (f : Dmc → Dmc) : (s.modDmc f).pins = s.pins := rfl
@[simp] theorem State.modDmc_fuse (f : Dmc → Dmc) : (s.modDmc f).fuse = s.fuse := rfl
@[simp] theorem State.modDmc_flash (f : Dmc → Dmc) : (s.modDmc f).flash = s.flash := rfl
@[simp] theorem State.modDmc_reg (f : Dmc → Dmc) : (s.modDmc f).reg = s.reg := rfl
@[simp] theorem State.modDmc_north (f : Dmc → Dmc) : (s.modDmc f).north = s.north := rfl
@[simp] theorem State.modDmc_south (f : Dmc → Dmc) : (s.modDmc f).south = s.south := rfl
@[simp] theorem State.modDmc_bridge (f : Dmc → Dmc) : (s.modDmc f).bridge = s.bridge := rfl
@[simp] theorem State.modDmc_ports (f : Dmc → Dmc) : (s.modDmc f).ports = s.ports := rfl
@[simp] theorem State.modDmc_lds (f : Dmc → Dmc) : (s.modDmc f).lds = s.lds := rfl
@[simp] theorem State.modDmc_tags (f : Dmc → Dmc) : (s.modDmc f).tags = s.tags := rfl
@[simp] theorem State.modDmc_quarantine (f : Dmc → Dmc) : (s.modDmc f).quarantine = s.quarantine := rfl
@[simp] theorem State.modDmc_wtt (f : Dmc → Dmc) : (s.modDmc f).wtt = s.wtt := rfl
@[simp] theorem State.modDmc_wttData (f : Dmc → Dmc) : (s.modDmc f).wttData = s.wttData := rfl
@[simp] theorem State.modDmc_flip (f : Dmc → Dmc) : (s.modDmc f).flip = s.flip := rfl
@[simp] theorem State.modDmc_tier (f : Dmc → Dmc) : (s.modDmc f).tier = s.tier := rfl
@[simp] theorem State.modDmc_alm (f : Dmc → Dmc) : (s.modDmc f).alm = s.alm := rfl
@[simp] theorem State.modDmc_cmp (f : Dmc → Dmc) : (s.modDmc f).cmp = s.cmp := rfl
@[simp] theorem State.modDmc_rings (f : Dmc → Dmc) : (s.modDmc f).rings = s.rings := rfl
@[simp] theorem State.modDmc_eng (f : Dmc → Dmc) : (s.modDmc f).eng = s.eng := rfl
@[simp] theorem State.modDmc_ops (f : Dmc → Dmc) : (s.modDmc f).ops = s.ops := rfl
@[simp] theorem State.modDmc_nextOp (f : Dmc → Dmc) : (s.modDmc f).nextOp = s.nextOp := rfl
@[simp] theorem State.modDmc_jobs (f : Dmc → Dmc) : (s.modDmc f).jobs = s.jobs := rfl
@[simp] theorem State.modDmc_grains (f : Dmc → Dmc) : (s.modDmc f).grains = s.grains := rfl
@[simp] theorem State.modDmc_nextGrain (f : Dmc → Dmc) : (s.modDmc f).nextGrain = s.nextGrain := rfl
@[simp] theorem State.modDmc_pslots (f : Dmc → Dmc) : (s.modDmc f).pslots = s.pslots := rfl
@[simp] theorem State.modDmc_fes (f : Dmc → Dmc) : (s.modDmc f).fes = s.fes := rfl
@[simp] theorem State.modDmc_tcs (f : Dmc → Dmc) : (s.modDmc f).tcs = s.tcs := rfl
@[simp] theorem State.modDmc_xjobs (f : Dmc → Dmc) : (s.modDmc f).xjobs = s.xjobs := rfl
@[simp] theorem State.modDmc_dups (f : Dmc → Dmc) : (s.modDmc f).dups = s.dups := rfl
@[simp] theorem State.modDmc_shr (f : Dmc → Dmc) : (s.modDmc f).shr = s.shr := rfl
@[simp] theorem State.modDmc_hg (f : Dmc → Dmc) : (s.modDmc f).hg = s.hg := rfl
@[simp] theorem State.modDmc_nextReq (f : Dmc → Dmc) : (s.modDmc f).nextReq = s.nextReq := rfl
@[simp] theorem State.modDmc_arb (f : Dmc → Dmc) : (s.modDmc f).arb = s.arb := rfl
@[simp] theorem State.modDmc_cst (f : Dmc → Dmc) : (s.modDmc f).cst = s.cst := rfl
@[simp] theorem State.modDmc_ras (f : Dmc → Dmc) : (s.modDmc f).ras = s.ras := rfl
@[simp] theorem State.modDmc_sec (f : Dmc → Dmc) : (s.modDmc f).sec = s.sec := rfl
@[simp] theorem State.modDmc_upd (f : Dmc → Dmc) : (s.modDmc f).upd = s.upd := rfl
@[simp] theorem State.modDmc_pwm (f : Dmc → Dmc) : (s.modDmc f).pwm = s.pwm := rfl
@[simp] theorem State.modDmc_mgmt (f : Dmc → Dmc) : (s.modDmc f).mgmt = s.mgmt := rfl
@[simp] theorem State.modDmc_out (f : Dmc → Dmc) : (s.modDmc f).out = s.out := rfl
@[simp] theorem State.modDmc_acc (f : Dmc → Dmc) : (s.modDmc f).acc = s.acc := rfl
@[simp] theorem State.modDmc_freeCtr (f : Dmc → Dmc) : (s.modDmc f).freeCtr = s.freeCtr := rfl
@[simp] theorem State.modDmc_pending (f : Dmc → Dmc) : (s.modDmc f).pending = s.pending := rfl
@[simp] theorem State.modCst_clk (f : Cst → Cst) : (s.modCst f).clk = s.clk := rfl
@[simp] theorem State.modCst_pins (f : Cst → Cst) : (s.modCst f).pins = s.pins := rfl
@[simp] theorem State.modCst_fuse (f : Cst → Cst) : (s.modCst f).fuse = s.fuse := rfl
@[simp] theorem State.modCst_flash (f : Cst → Cst) : (s.modCst f).flash = s.flash := rfl
@[simp] theorem State.modCst_reg (f : Cst → Cst) : (s.modCst f).reg = s.reg := rfl
@[simp] theorem State.modCst_north (f : Cst → Cst) : (s.modCst f).north = s.north := rfl
@[simp] theorem State.modCst_south (f : Cst → Cst) : (s.modCst f).south = s.south := rfl
@[simp] theorem State.modCst_bridge (f : Cst → Cst) : (s.modCst f).bridge = s.bridge := rfl
@[simp] theorem State.modCst_ports (f : Cst → Cst) : (s.modCst f).ports = s.ports := rfl
@[simp] theorem State.modCst_lds (f : Cst → Cst) : (s.modCst f).lds = s.lds := rfl
@[simp] theorem State.modCst_tags (f : Cst → Cst) : (s.modCst f).tags = s.tags := rfl
@[simp] theorem State.modCst_quarantine (f : Cst → Cst) : (s.modCst f).quarantine = s.quarantine := rfl
@[simp] theorem State.modCst_wtt (f : Cst → Cst) : (s.modCst f).wtt = s.wtt := rfl
@[simp] theorem State.modCst_wttData (f : Cst → Cst) : (s.modCst f).wttData = s.wttData := rfl
@[simp] theorem State.modCst_flip (f : Cst → Cst) : (s.modCst f).flip = s.flip := rfl
@[simp] theorem State.modCst_tier (f : Cst → Cst) : (s.modCst f).tier = s.tier := rfl
@[simp] theorem State.modCst_alm (f : Cst → Cst) : (s.modCst f).alm = s.alm := rfl
@[simp] theorem State.modCst_cmp (f : Cst → Cst) : (s.modCst f).cmp = s.cmp := rfl
@[simp] theorem State.modCst_rings (f : Cst → Cst) : (s.modCst f).rings = s.rings := rfl
@[simp] theorem State.modCst_eng (f : Cst → Cst) : (s.modCst f).eng = s.eng := rfl
@[simp] theorem State.modCst_ops (f : Cst → Cst) : (s.modCst f).ops = s.ops := rfl
@[simp] theorem State.modCst_nextOp (f : Cst → Cst) : (s.modCst f).nextOp = s.nextOp := rfl
@[simp] theorem State.modCst_jobs (f : Cst → Cst) : (s.modCst f).jobs = s.jobs := rfl
@[simp] theorem State.modCst_grains (f : Cst → Cst) : (s.modCst f).grains = s.grains := rfl
@[simp] theorem State.modCst_nextGrain (f : Cst → Cst) : (s.modCst f).nextGrain = s.nextGrain := rfl
@[simp] theorem State.modCst_pslots (f : Cst → Cst) : (s.modCst f).pslots = s.pslots := rfl
@[simp] theorem State.modCst_fes (f : Cst → Cst) : (s.modCst f).fes = s.fes := rfl
@[simp] theorem State.modCst_tcs (f : Cst → Cst) : (s.modCst f).tcs = s.tcs := rfl
@[simp] theorem State.modCst_xjobs (f : Cst → Cst) : (s.modCst f).xjobs = s.xjobs := rfl
@[simp] theorem State.modCst_dups (f : Cst → Cst) : (s.modCst f).dups = s.dups := rfl
@[simp] theorem State.modCst_shr (f : Cst → Cst) : (s.modCst f).shr = s.shr := rfl
@[simp] theorem State.modCst_hg (f : Cst → Cst) : (s.modCst f).hg = s.hg := rfl
@[simp] theorem State.modCst_nextReq (f : Cst → Cst) : (s.modCst f).nextReq = s.nextReq := rfl
@[simp] theorem State.modCst_arb (f : Cst → Cst) : (s.modCst f).arb = s.arb := rfl
@[simp] theorem State.modCst_dmc (f : Cst → Cst) : (s.modCst f).dmc = s.dmc := rfl
@[simp] theorem State.modCst_ras (f : Cst → Cst) : (s.modCst f).ras = s.ras := rfl
@[simp] theorem State.modCst_sec (f : Cst → Cst) : (s.modCst f).sec = s.sec := rfl
@[simp] theorem State.modCst_upd (f : Cst → Cst) : (s.modCst f).upd = s.upd := rfl
@[simp] theorem State.modCst_pwm (f : Cst → Cst) : (s.modCst f).pwm = s.pwm := rfl
@[simp] theorem State.modCst_mgmt (f : Cst → Cst) : (s.modCst f).mgmt = s.mgmt := rfl
@[simp] theorem State.modCst_out (f : Cst → Cst) : (s.modCst f).out = s.out := rfl
@[simp] theorem State.modCst_acc (f : Cst → Cst) : (s.modCst f).acc = s.acc := rfl
@[simp] theorem State.modCst_freeCtr (f : Cst → Cst) : (s.modCst f).freeCtr = s.freeCtr := rfl
@[simp] theorem State.modCst_pending (f : Cst → Cst) : (s.modCst f).pending = s.pending := rfl
@[simp] theorem State.modRas_clk (f : Ras → Ras) : (s.modRas f).clk = s.clk := rfl
@[simp] theorem State.modRas_pins (f : Ras → Ras) : (s.modRas f).pins = s.pins := rfl
@[simp] theorem State.modRas_fuse (f : Ras → Ras) : (s.modRas f).fuse = s.fuse := rfl
@[simp] theorem State.modRas_flash (f : Ras → Ras) : (s.modRas f).flash = s.flash := rfl
@[simp] theorem State.modRas_reg (f : Ras → Ras) : (s.modRas f).reg = s.reg := rfl
@[simp] theorem State.modRas_north (f : Ras → Ras) : (s.modRas f).north = s.north := rfl
@[simp] theorem State.modRas_south (f : Ras → Ras) : (s.modRas f).south = s.south := rfl
@[simp] theorem State.modRas_bridge (f : Ras → Ras) : (s.modRas f).bridge = s.bridge := rfl
@[simp] theorem State.modRas_ports (f : Ras → Ras) : (s.modRas f).ports = s.ports := rfl
@[simp] theorem State.modRas_lds (f : Ras → Ras) : (s.modRas f).lds = s.lds := rfl
@[simp] theorem State.modRas_tags (f : Ras → Ras) : (s.modRas f).tags = s.tags := rfl
@[simp] theorem State.modRas_quarantine (f : Ras → Ras) : (s.modRas f).quarantine = s.quarantine := rfl
@[simp] theorem State.modRas_wtt (f : Ras → Ras) : (s.modRas f).wtt = s.wtt := rfl
@[simp] theorem State.modRas_wttData (f : Ras → Ras) : (s.modRas f).wttData = s.wttData := rfl
@[simp] theorem State.modRas_flip (f : Ras → Ras) : (s.modRas f).flip = s.flip := rfl
@[simp] theorem State.modRas_tier (f : Ras → Ras) : (s.modRas f).tier = s.tier := rfl
@[simp] theorem State.modRas_alm (f : Ras → Ras) : (s.modRas f).alm = s.alm := rfl
@[simp] theorem State.modRas_cmp (f : Ras → Ras) : (s.modRas f).cmp = s.cmp := rfl
@[simp] theorem State.modRas_rings (f : Ras → Ras) : (s.modRas f).rings = s.rings := rfl
@[simp] theorem State.modRas_eng (f : Ras → Ras) : (s.modRas f).eng = s.eng := rfl
@[simp] theorem State.modRas_ops (f : Ras → Ras) : (s.modRas f).ops = s.ops := rfl
@[simp] theorem State.modRas_nextOp (f : Ras → Ras) : (s.modRas f).nextOp = s.nextOp := rfl
@[simp] theorem State.modRas_jobs (f : Ras → Ras) : (s.modRas f).jobs = s.jobs := rfl
@[simp] theorem State.modRas_grains (f : Ras → Ras) : (s.modRas f).grains = s.grains := rfl
@[simp] theorem State.modRas_nextGrain (f : Ras → Ras) : (s.modRas f).nextGrain = s.nextGrain := rfl
@[simp] theorem State.modRas_pslots (f : Ras → Ras) : (s.modRas f).pslots = s.pslots := rfl
@[simp] theorem State.modRas_fes (f : Ras → Ras) : (s.modRas f).fes = s.fes := rfl
@[simp] theorem State.modRas_tcs (f : Ras → Ras) : (s.modRas f).tcs = s.tcs := rfl
@[simp] theorem State.modRas_xjobs (f : Ras → Ras) : (s.modRas f).xjobs = s.xjobs := rfl
@[simp] theorem State.modRas_dups (f : Ras → Ras) : (s.modRas f).dups = s.dups := rfl
@[simp] theorem State.modRas_shr (f : Ras → Ras) : (s.modRas f).shr = s.shr := rfl
@[simp] theorem State.modRas_hg (f : Ras → Ras) : (s.modRas f).hg = s.hg := rfl
@[simp] theorem State.modRas_nextReq (f : Ras → Ras) : (s.modRas f).nextReq = s.nextReq := rfl
@[simp] theorem State.modRas_arb (f : Ras → Ras) : (s.modRas f).arb = s.arb := rfl
@[simp] theorem State.modRas_dmc (f : Ras → Ras) : (s.modRas f).dmc = s.dmc := rfl
@[simp] theorem State.modRas_cst (f : Ras → Ras) : (s.modRas f).cst = s.cst := rfl
@[simp] theorem State.modRas_sec (f : Ras → Ras) : (s.modRas f).sec = s.sec := rfl
@[simp] theorem State.modRas_upd (f : Ras → Ras) : (s.modRas f).upd = s.upd := rfl
@[simp] theorem State.modRas_pwm (f : Ras → Ras) : (s.modRas f).pwm = s.pwm := rfl
@[simp] theorem State.modRas_mgmt (f : Ras → Ras) : (s.modRas f).mgmt = s.mgmt := rfl
@[simp] theorem State.modRas_out (f : Ras → Ras) : (s.modRas f).out = s.out := rfl
@[simp] theorem State.modRas_acc (f : Ras → Ras) : (s.modRas f).acc = s.acc := rfl
@[simp] theorem State.modRas_freeCtr (f : Ras → Ras) : (s.modRas f).freeCtr = s.freeCtr := rfl
@[simp] theorem State.modRas_pending (f : Ras → Ras) : (s.modRas f).pending = s.pending := rfl
@[simp] theorem State.modSec_clk (f : Sec → Sec) : (s.modSec f).clk = s.clk := rfl
@[simp] theorem State.modSec_pins (f : Sec → Sec) : (s.modSec f).pins = s.pins := rfl
@[simp] theorem State.modSec_fuse (f : Sec → Sec) : (s.modSec f).fuse = s.fuse := rfl
@[simp] theorem State.modSec_flash (f : Sec → Sec) : (s.modSec f).flash = s.flash := rfl
@[simp] theorem State.modSec_reg (f : Sec → Sec) : (s.modSec f).reg = s.reg := rfl
@[simp] theorem State.modSec_north (f : Sec → Sec) : (s.modSec f).north = s.north := rfl
@[simp] theorem State.modSec_south (f : Sec → Sec) : (s.modSec f).south = s.south := rfl
@[simp] theorem State.modSec_bridge (f : Sec → Sec) : (s.modSec f).bridge = s.bridge := rfl
@[simp] theorem State.modSec_ports (f : Sec → Sec) : (s.modSec f).ports = s.ports := rfl
@[simp] theorem State.modSec_lds (f : Sec → Sec) : (s.modSec f).lds = s.lds := rfl
@[simp] theorem State.modSec_tags (f : Sec → Sec) : (s.modSec f).tags = s.tags := rfl
@[simp] theorem State.modSec_quarantine (f : Sec → Sec) : (s.modSec f).quarantine = s.quarantine := rfl
@[simp] theorem State.modSec_wtt (f : Sec → Sec) : (s.modSec f).wtt = s.wtt := rfl
@[simp] theorem State.modSec_wttData (f : Sec → Sec) : (s.modSec f).wttData = s.wttData := rfl
@[simp] theorem State.modSec_flip (f : Sec → Sec) : (s.modSec f).flip = s.flip := rfl
@[simp] theorem State.modSec_tier (f : Sec → Sec) : (s.modSec f).tier = s.tier := rfl
@[simp] theorem State.modSec_alm (f : Sec → Sec) : (s.modSec f).alm = s.alm := rfl
@[simp] theorem State.modSec_cmp (f : Sec → Sec) : (s.modSec f).cmp = s.cmp := rfl
@[simp] theorem State.modSec_rings (f : Sec → Sec) : (s.modSec f).rings = s.rings := rfl
@[simp] theorem State.modSec_eng (f : Sec → Sec) : (s.modSec f).eng = s.eng := rfl
@[simp] theorem State.modSec_ops (f : Sec → Sec) : (s.modSec f).ops = s.ops := rfl
@[simp] theorem State.modSec_nextOp (f : Sec → Sec) : (s.modSec f).nextOp = s.nextOp := rfl
@[simp] theorem State.modSec_jobs (f : Sec → Sec) : (s.modSec f).jobs = s.jobs := rfl
@[simp] theorem State.modSec_grains (f : Sec → Sec) : (s.modSec f).grains = s.grains := rfl
@[simp] theorem State.modSec_nextGrain (f : Sec → Sec) : (s.modSec f).nextGrain = s.nextGrain := rfl
@[simp] theorem State.modSec_pslots (f : Sec → Sec) : (s.modSec f).pslots = s.pslots := rfl
@[simp] theorem State.modSec_fes (f : Sec → Sec) : (s.modSec f).fes = s.fes := rfl
@[simp] theorem State.modSec_tcs (f : Sec → Sec) : (s.modSec f).tcs = s.tcs := rfl
@[simp] theorem State.modSec_xjobs (f : Sec → Sec) : (s.modSec f).xjobs = s.xjobs := rfl
@[simp] theorem State.modSec_dups (f : Sec → Sec) : (s.modSec f).dups = s.dups := rfl
@[simp] theorem State.modSec_shr (f : Sec → Sec) : (s.modSec f).shr = s.shr := rfl
@[simp] theorem State.modSec_hg (f : Sec → Sec) : (s.modSec f).hg = s.hg := rfl
@[simp] theorem State.modSec_nextReq (f : Sec → Sec) : (s.modSec f).nextReq = s.nextReq := rfl
@[simp] theorem State.modSec_arb (f : Sec → Sec) : (s.modSec f).arb = s.arb := rfl
@[simp] theorem State.modSec_dmc (f : Sec → Sec) : (s.modSec f).dmc = s.dmc := rfl
@[simp] theorem State.modSec_cst (f : Sec → Sec) : (s.modSec f).cst = s.cst := rfl
@[simp] theorem State.modSec_ras (f : Sec → Sec) : (s.modSec f).ras = s.ras := rfl
@[simp] theorem State.modSec_upd (f : Sec → Sec) : (s.modSec f).upd = s.upd := rfl
@[simp] theorem State.modSec_pwm (f : Sec → Sec) : (s.modSec f).pwm = s.pwm := rfl
@[simp] theorem State.modSec_mgmt (f : Sec → Sec) : (s.modSec f).mgmt = s.mgmt := rfl
@[simp] theorem State.modSec_out (f : Sec → Sec) : (s.modSec f).out = s.out := rfl
@[simp] theorem State.modSec_acc (f : Sec → Sec) : (s.modSec f).acc = s.acc := rfl
@[simp] theorem State.modSec_freeCtr (f : Sec → Sec) : (s.modSec f).freeCtr = s.freeCtr := rfl
@[simp] theorem State.modSec_pending (f : Sec → Sec) : (s.modSec f).pending = s.pending := rfl
@[simp] theorem State.modUpd_clk (f : Upd → Upd) : (s.modUpd f).clk = s.clk := rfl
@[simp] theorem State.modUpd_pins (f : Upd → Upd) : (s.modUpd f).pins = s.pins := rfl
@[simp] theorem State.modUpd_fuse (f : Upd → Upd) : (s.modUpd f).fuse = s.fuse := rfl
@[simp] theorem State.modUpd_flash (f : Upd → Upd) : (s.modUpd f).flash = s.flash := rfl
@[simp] theorem State.modUpd_reg (f : Upd → Upd) : (s.modUpd f).reg = s.reg := rfl
@[simp] theorem State.modUpd_north (f : Upd → Upd) : (s.modUpd f).north = s.north := rfl
@[simp] theorem State.modUpd_south (f : Upd → Upd) : (s.modUpd f).south = s.south := rfl
@[simp] theorem State.modUpd_bridge (f : Upd → Upd) : (s.modUpd f).bridge = s.bridge := rfl
@[simp] theorem State.modUpd_ports (f : Upd → Upd) : (s.modUpd f).ports = s.ports := rfl
@[simp] theorem State.modUpd_lds (f : Upd → Upd) : (s.modUpd f).lds = s.lds := rfl
@[simp] theorem State.modUpd_tags (f : Upd → Upd) : (s.modUpd f).tags = s.tags := rfl
@[simp] theorem State.modUpd_quarantine (f : Upd → Upd) : (s.modUpd f).quarantine = s.quarantine := rfl
@[simp] theorem State.modUpd_wtt (f : Upd → Upd) : (s.modUpd f).wtt = s.wtt := rfl
@[simp] theorem State.modUpd_wttData (f : Upd → Upd) : (s.modUpd f).wttData = s.wttData := rfl
@[simp] theorem State.modUpd_flip (f : Upd → Upd) : (s.modUpd f).flip = s.flip := rfl
@[simp] theorem State.modUpd_tier (f : Upd → Upd) : (s.modUpd f).tier = s.tier := rfl
@[simp] theorem State.modUpd_alm (f : Upd → Upd) : (s.modUpd f).alm = s.alm := rfl
@[simp] theorem State.modUpd_cmp (f : Upd → Upd) : (s.modUpd f).cmp = s.cmp := rfl
@[simp] theorem State.modUpd_rings (f : Upd → Upd) : (s.modUpd f).rings = s.rings := rfl
@[simp] theorem State.modUpd_eng (f : Upd → Upd) : (s.modUpd f).eng = s.eng := rfl
@[simp] theorem State.modUpd_ops (f : Upd → Upd) : (s.modUpd f).ops = s.ops := rfl
@[simp] theorem State.modUpd_nextOp (f : Upd → Upd) : (s.modUpd f).nextOp = s.nextOp := rfl
@[simp] theorem State.modUpd_jobs (f : Upd → Upd) : (s.modUpd f).jobs = s.jobs := rfl
@[simp] theorem State.modUpd_grains (f : Upd → Upd) : (s.modUpd f).grains = s.grains := rfl
@[simp] theorem State.modUpd_nextGrain (f : Upd → Upd) : (s.modUpd f).nextGrain = s.nextGrain := rfl
@[simp] theorem State.modUpd_pslots (f : Upd → Upd) : (s.modUpd f).pslots = s.pslots := rfl
@[simp] theorem State.modUpd_fes (f : Upd → Upd) : (s.modUpd f).fes = s.fes := rfl
@[simp] theorem State.modUpd_tcs (f : Upd → Upd) : (s.modUpd f).tcs = s.tcs := rfl
@[simp] theorem State.modUpd_xjobs (f : Upd → Upd) : (s.modUpd f).xjobs = s.xjobs := rfl
@[simp] theorem State.modUpd_dups (f : Upd → Upd) : (s.modUpd f).dups = s.dups := rfl
@[simp] theorem State.modUpd_shr (f : Upd → Upd) : (s.modUpd f).shr = s.shr := rfl
@[simp] theorem State.modUpd_hg (f : Upd → Upd) : (s.modUpd f).hg = s.hg := rfl
@[simp] theorem State.modUpd_nextReq (f : Upd → Upd) : (s.modUpd f).nextReq = s.nextReq := rfl
@[simp] theorem State.modUpd_arb (f : Upd → Upd) : (s.modUpd f).arb = s.arb := rfl
@[simp] theorem State.modUpd_dmc (f : Upd → Upd) : (s.modUpd f).dmc = s.dmc := rfl
@[simp] theorem State.modUpd_cst (f : Upd → Upd) : (s.modUpd f).cst = s.cst := rfl
@[simp] theorem State.modUpd_ras (f : Upd → Upd) : (s.modUpd f).ras = s.ras := rfl
@[simp] theorem State.modUpd_sec (f : Upd → Upd) : (s.modUpd f).sec = s.sec := rfl
@[simp] theorem State.modUpd_pwm (f : Upd → Upd) : (s.modUpd f).pwm = s.pwm := rfl
@[simp] theorem State.modUpd_mgmt (f : Upd → Upd) : (s.modUpd f).mgmt = s.mgmt := rfl
@[simp] theorem State.modUpd_out (f : Upd → Upd) : (s.modUpd f).out = s.out := rfl
@[simp] theorem State.modUpd_acc (f : Upd → Upd) : (s.modUpd f).acc = s.acc := rfl
@[simp] theorem State.modUpd_freeCtr (f : Upd → Upd) : (s.modUpd f).freeCtr = s.freeCtr := rfl
@[simp] theorem State.modUpd_pending (f : Upd → Upd) : (s.modUpd f).pending = s.pending := rfl
@[simp] theorem State.modPwm_clk (f : Pwm → Pwm) : (s.modPwm f).clk = s.clk := rfl
@[simp] theorem State.modPwm_pins (f : Pwm → Pwm) : (s.modPwm f).pins = s.pins := rfl
@[simp] theorem State.modPwm_fuse (f : Pwm → Pwm) : (s.modPwm f).fuse = s.fuse := rfl
@[simp] theorem State.modPwm_flash (f : Pwm → Pwm) : (s.modPwm f).flash = s.flash := rfl
@[simp] theorem State.modPwm_reg (f : Pwm → Pwm) : (s.modPwm f).reg = s.reg := rfl
@[simp] theorem State.modPwm_north (f : Pwm → Pwm) : (s.modPwm f).north = s.north := rfl
@[simp] theorem State.modPwm_south (f : Pwm → Pwm) : (s.modPwm f).south = s.south := rfl
@[simp] theorem State.modPwm_bridge (f : Pwm → Pwm) : (s.modPwm f).bridge = s.bridge := rfl
@[simp] theorem State.modPwm_ports (f : Pwm → Pwm) : (s.modPwm f).ports = s.ports := rfl
@[simp] theorem State.modPwm_lds (f : Pwm → Pwm) : (s.modPwm f).lds = s.lds := rfl
@[simp] theorem State.modPwm_tags (f : Pwm → Pwm) : (s.modPwm f).tags = s.tags := rfl
@[simp] theorem State.modPwm_quarantine (f : Pwm → Pwm) : (s.modPwm f).quarantine = s.quarantine := rfl
@[simp] theorem State.modPwm_wtt (f : Pwm → Pwm) : (s.modPwm f).wtt = s.wtt := rfl
@[simp] theorem State.modPwm_wttData (f : Pwm → Pwm) : (s.modPwm f).wttData = s.wttData := rfl
@[simp] theorem State.modPwm_flip (f : Pwm → Pwm) : (s.modPwm f).flip = s.flip := rfl
@[simp] theorem State.modPwm_tier (f : Pwm → Pwm) : (s.modPwm f).tier = s.tier := rfl
@[simp] theorem State.modPwm_alm (f : Pwm → Pwm) : (s.modPwm f).alm = s.alm := rfl
@[simp] theorem State.modPwm_cmp (f : Pwm → Pwm) : (s.modPwm f).cmp = s.cmp := rfl
@[simp] theorem State.modPwm_rings (f : Pwm → Pwm) : (s.modPwm f).rings = s.rings := rfl
@[simp] theorem State.modPwm_eng (f : Pwm → Pwm) : (s.modPwm f).eng = s.eng := rfl
@[simp] theorem State.modPwm_ops (f : Pwm → Pwm) : (s.modPwm f).ops = s.ops := rfl
@[simp] theorem State.modPwm_nextOp (f : Pwm → Pwm) : (s.modPwm f).nextOp = s.nextOp := rfl
@[simp] theorem State.modPwm_jobs (f : Pwm → Pwm) : (s.modPwm f).jobs = s.jobs := rfl
@[simp] theorem State.modPwm_grains (f : Pwm → Pwm) : (s.modPwm f).grains = s.grains := rfl
@[simp] theorem State.modPwm_nextGrain (f : Pwm → Pwm) : (s.modPwm f).nextGrain = s.nextGrain := rfl
@[simp] theorem State.modPwm_pslots (f : Pwm → Pwm) : (s.modPwm f).pslots = s.pslots := rfl
@[simp] theorem State.modPwm_fes (f : Pwm → Pwm) : (s.modPwm f).fes = s.fes := rfl
@[simp] theorem State.modPwm_tcs (f : Pwm → Pwm) : (s.modPwm f).tcs = s.tcs := rfl
@[simp] theorem State.modPwm_xjobs (f : Pwm → Pwm) : (s.modPwm f).xjobs = s.xjobs := rfl
@[simp] theorem State.modPwm_dups (f : Pwm → Pwm) : (s.modPwm f).dups = s.dups := rfl
@[simp] theorem State.modPwm_shr (f : Pwm → Pwm) : (s.modPwm f).shr = s.shr := rfl
@[simp] theorem State.modPwm_hg (f : Pwm → Pwm) : (s.modPwm f).hg = s.hg := rfl
@[simp] theorem State.modPwm_nextReq (f : Pwm → Pwm) : (s.modPwm f).nextReq = s.nextReq := rfl
@[simp] theorem State.modPwm_arb (f : Pwm → Pwm) : (s.modPwm f).arb = s.arb := rfl
@[simp] theorem State.modPwm_dmc (f : Pwm → Pwm) : (s.modPwm f).dmc = s.dmc := rfl
@[simp] theorem State.modPwm_cst (f : Pwm → Pwm) : (s.modPwm f).cst = s.cst := rfl
@[simp] theorem State.modPwm_ras (f : Pwm → Pwm) : (s.modPwm f).ras = s.ras := rfl
@[simp] theorem State.modPwm_sec (f : Pwm → Pwm) : (s.modPwm f).sec = s.sec := rfl
@[simp] theorem State.modPwm_upd (f : Pwm → Pwm) : (s.modPwm f).upd = s.upd := rfl
@[simp] theorem State.modPwm_mgmt (f : Pwm → Pwm) : (s.modPwm f).mgmt = s.mgmt := rfl
@[simp] theorem State.modPwm_out (f : Pwm → Pwm) : (s.modPwm f).out = s.out := rfl
@[simp] theorem State.modPwm_acc (f : Pwm → Pwm) : (s.modPwm f).acc = s.acc := rfl
@[simp] theorem State.modPwm_freeCtr (f : Pwm → Pwm) : (s.modPwm f).freeCtr = s.freeCtr := rfl
@[simp] theorem State.modPwm_pending (f : Pwm → Pwm) : (s.modPwm f).pending = s.pending := rfl
@[simp] theorem State.modMgmt_clk (f : Mgmt → Mgmt) : (s.modMgmt f).clk = s.clk := rfl
@[simp] theorem State.modMgmt_pins (f : Mgmt → Mgmt) : (s.modMgmt f).pins = s.pins := rfl
@[simp] theorem State.modMgmt_fuse (f : Mgmt → Mgmt) : (s.modMgmt f).fuse = s.fuse := rfl
@[simp] theorem State.modMgmt_flash (f : Mgmt → Mgmt) : (s.modMgmt f).flash = s.flash := rfl
@[simp] theorem State.modMgmt_reg (f : Mgmt → Mgmt) : (s.modMgmt f).reg = s.reg := rfl
@[simp] theorem State.modMgmt_north (f : Mgmt → Mgmt) : (s.modMgmt f).north = s.north := rfl
@[simp] theorem State.modMgmt_south (f : Mgmt → Mgmt) : (s.modMgmt f).south = s.south := rfl
@[simp] theorem State.modMgmt_bridge (f : Mgmt → Mgmt) : (s.modMgmt f).bridge = s.bridge := rfl
@[simp] theorem State.modMgmt_ports (f : Mgmt → Mgmt) : (s.modMgmt f).ports = s.ports := rfl
@[simp] theorem State.modMgmt_lds (f : Mgmt → Mgmt) : (s.modMgmt f).lds = s.lds := rfl
@[simp] theorem State.modMgmt_tags (f : Mgmt → Mgmt) : (s.modMgmt f).tags = s.tags := rfl
@[simp] theorem State.modMgmt_quarantine (f : Mgmt → Mgmt) : (s.modMgmt f).quarantine = s.quarantine := rfl
@[simp] theorem State.modMgmt_wtt (f : Mgmt → Mgmt) : (s.modMgmt f).wtt = s.wtt := rfl
@[simp] theorem State.modMgmt_wttData (f : Mgmt → Mgmt) : (s.modMgmt f).wttData = s.wttData := rfl
@[simp] theorem State.modMgmt_flip (f : Mgmt → Mgmt) : (s.modMgmt f).flip = s.flip := rfl
@[simp] theorem State.modMgmt_tier (f : Mgmt → Mgmt) : (s.modMgmt f).tier = s.tier := rfl
@[simp] theorem State.modMgmt_alm (f : Mgmt → Mgmt) : (s.modMgmt f).alm = s.alm := rfl
@[simp] theorem State.modMgmt_cmp (f : Mgmt → Mgmt) : (s.modMgmt f).cmp = s.cmp := rfl
@[simp] theorem State.modMgmt_rings (f : Mgmt → Mgmt) : (s.modMgmt f).rings = s.rings := rfl
@[simp] theorem State.modMgmt_eng (f : Mgmt → Mgmt) : (s.modMgmt f).eng = s.eng := rfl
@[simp] theorem State.modMgmt_ops (f : Mgmt → Mgmt) : (s.modMgmt f).ops = s.ops := rfl
@[simp] theorem State.modMgmt_nextOp (f : Mgmt → Mgmt) : (s.modMgmt f).nextOp = s.nextOp := rfl
@[simp] theorem State.modMgmt_jobs (f : Mgmt → Mgmt) : (s.modMgmt f).jobs = s.jobs := rfl
@[simp] theorem State.modMgmt_grains (f : Mgmt → Mgmt) : (s.modMgmt f).grains = s.grains := rfl
@[simp] theorem State.modMgmt_nextGrain (f : Mgmt → Mgmt) : (s.modMgmt f).nextGrain = s.nextGrain := rfl
@[simp] theorem State.modMgmt_pslots (f : Mgmt → Mgmt) : (s.modMgmt f).pslots = s.pslots := rfl
@[simp] theorem State.modMgmt_fes (f : Mgmt → Mgmt) : (s.modMgmt f).fes = s.fes := rfl
@[simp] theorem State.modMgmt_tcs (f : Mgmt → Mgmt) : (s.modMgmt f).tcs = s.tcs := rfl
@[simp] theorem State.modMgmt_xjobs (f : Mgmt → Mgmt) : (s.modMgmt f).xjobs = s.xjobs := rfl
@[simp] theorem State.modMgmt_dups (f : Mgmt → Mgmt) : (s.modMgmt f).dups = s.dups := rfl
@[simp] theorem State.modMgmt_shr (f : Mgmt → Mgmt) : (s.modMgmt f).shr = s.shr := rfl
@[simp] theorem State.modMgmt_hg (f : Mgmt → Mgmt) : (s.modMgmt f).hg = s.hg := rfl
@[simp] theorem State.modMgmt_nextReq (f : Mgmt → Mgmt) : (s.modMgmt f).nextReq = s.nextReq := rfl
@[simp] theorem State.modMgmt_arb (f : Mgmt → Mgmt) : (s.modMgmt f).arb = s.arb := rfl
@[simp] theorem State.modMgmt_dmc (f : Mgmt → Mgmt) : (s.modMgmt f).dmc = s.dmc := rfl
@[simp] theorem State.modMgmt_cst (f : Mgmt → Mgmt) : (s.modMgmt f).cst = s.cst := rfl
@[simp] theorem State.modMgmt_ras (f : Mgmt → Mgmt) : (s.modMgmt f).ras = s.ras := rfl
@[simp] theorem State.modMgmt_sec (f : Mgmt → Mgmt) : (s.modMgmt f).sec = s.sec := rfl
@[simp] theorem State.modMgmt_upd (f : Mgmt → Mgmt) : (s.modMgmt f).upd = s.upd := rfl
@[simp] theorem State.modMgmt_pwm (f : Mgmt → Mgmt) : (s.modMgmt f).pwm = s.pwm := rfl
@[simp] theorem State.modMgmt_out (f : Mgmt → Mgmt) : (s.modMgmt f).out = s.out := rfl
@[simp] theorem State.modMgmt_acc (f : Mgmt → Mgmt) : (s.modMgmt f).acc = s.acc := rfl
@[simp] theorem State.modMgmt_freeCtr (f : Mgmt → Mgmt) : (s.modMgmt f).freeCtr = s.freeCtr := rfl
@[simp] theorem State.modMgmt_pending (f : Mgmt → Mgmt) : (s.modMgmt f).pending = s.pending := rfl
@[simp] theorem State.modCmp_clk (f : Cmp → Cmp) : (s.modCmp f).clk = s.clk := rfl
@[simp] theorem State.modCmp_pins (f : Cmp → Cmp) : (s.modCmp f).pins = s.pins := rfl
@[simp] theorem State.modCmp_fuse (f : Cmp → Cmp) : (s.modCmp f).fuse = s.fuse := rfl
@[simp] theorem State.modCmp_flash (f : Cmp → Cmp) : (s.modCmp f).flash = s.flash := rfl
@[simp] theorem State.modCmp_reg (f : Cmp → Cmp) : (s.modCmp f).reg = s.reg := rfl
@[simp] theorem State.modCmp_north (f : Cmp → Cmp) : (s.modCmp f).north = s.north := rfl
@[simp] theorem State.modCmp_south (f : Cmp → Cmp) : (s.modCmp f).south = s.south := rfl
@[simp] theorem State.modCmp_bridge (f : Cmp → Cmp) : (s.modCmp f).bridge = s.bridge := rfl
@[simp] theorem State.modCmp_ports (f : Cmp → Cmp) : (s.modCmp f).ports = s.ports := rfl
@[simp] theorem State.modCmp_lds (f : Cmp → Cmp) : (s.modCmp f).lds = s.lds := rfl
@[simp] theorem State.modCmp_tags (f : Cmp → Cmp) : (s.modCmp f).tags = s.tags := rfl
@[simp] theorem State.modCmp_quarantine (f : Cmp → Cmp) : (s.modCmp f).quarantine = s.quarantine := rfl
@[simp] theorem State.modCmp_wtt (f : Cmp → Cmp) : (s.modCmp f).wtt = s.wtt := rfl
@[simp] theorem State.modCmp_wttData (f : Cmp → Cmp) : (s.modCmp f).wttData = s.wttData := rfl
@[simp] theorem State.modCmp_flip (f : Cmp → Cmp) : (s.modCmp f).flip = s.flip := rfl
@[simp] theorem State.modCmp_tier (f : Cmp → Cmp) : (s.modCmp f).tier = s.tier := rfl
@[simp] theorem State.modCmp_alm (f : Cmp → Cmp) : (s.modCmp f).alm = s.alm := rfl
@[simp] theorem State.modCmp_rings (f : Cmp → Cmp) : (s.modCmp f).rings = s.rings := rfl
@[simp] theorem State.modCmp_eng (f : Cmp → Cmp) : (s.modCmp f).eng = s.eng := rfl
@[simp] theorem State.modCmp_ops (f : Cmp → Cmp) : (s.modCmp f).ops = s.ops := rfl
@[simp] theorem State.modCmp_nextOp (f : Cmp → Cmp) : (s.modCmp f).nextOp = s.nextOp := rfl
@[simp] theorem State.modCmp_jobs (f : Cmp → Cmp) : (s.modCmp f).jobs = s.jobs := rfl
@[simp] theorem State.modCmp_grains (f : Cmp → Cmp) : (s.modCmp f).grains = s.grains := rfl
@[simp] theorem State.modCmp_nextGrain (f : Cmp → Cmp) : (s.modCmp f).nextGrain = s.nextGrain := rfl
@[simp] theorem State.modCmp_pslots (f : Cmp → Cmp) : (s.modCmp f).pslots = s.pslots := rfl
@[simp] theorem State.modCmp_fes (f : Cmp → Cmp) : (s.modCmp f).fes = s.fes := rfl
@[simp] theorem State.modCmp_tcs (f : Cmp → Cmp) : (s.modCmp f).tcs = s.tcs := rfl
@[simp] theorem State.modCmp_xjobs (f : Cmp → Cmp) : (s.modCmp f).xjobs = s.xjobs := rfl
@[simp] theorem State.modCmp_dups (f : Cmp → Cmp) : (s.modCmp f).dups = s.dups := rfl
@[simp] theorem State.modCmp_shr (f : Cmp → Cmp) : (s.modCmp f).shr = s.shr := rfl
@[simp] theorem State.modCmp_hg (f : Cmp → Cmp) : (s.modCmp f).hg = s.hg := rfl
@[simp] theorem State.modCmp_nextReq (f : Cmp → Cmp) : (s.modCmp f).nextReq = s.nextReq := rfl
@[simp] theorem State.modCmp_arb (f : Cmp → Cmp) : (s.modCmp f).arb = s.arb := rfl
@[simp] theorem State.modCmp_dmc (f : Cmp → Cmp) : (s.modCmp f).dmc = s.dmc := rfl
@[simp] theorem State.modCmp_cst (f : Cmp → Cmp) : (s.modCmp f).cst = s.cst := rfl
@[simp] theorem State.modCmp_ras (f : Cmp → Cmp) : (s.modCmp f).ras = s.ras := rfl
@[simp] theorem State.modCmp_sec (f : Cmp → Cmp) : (s.modCmp f).sec = s.sec := rfl
@[simp] theorem State.modCmp_upd (f : Cmp → Cmp) : (s.modCmp f).upd = s.upd := rfl
@[simp] theorem State.modCmp_pwm (f : Cmp → Cmp) : (s.modCmp f).pwm = s.pwm := rfl
@[simp] theorem State.modCmp_mgmt (f : Cmp → Cmp) : (s.modCmp f).mgmt = s.mgmt := rfl
@[simp] theorem State.modCmp_out (f : Cmp → Cmp) : (s.modCmp f).out = s.out := rfl
@[simp] theorem State.modCmp_acc (f : Cmp → Cmp) : (s.modCmp f).acc = s.acc := rfl
@[simp] theorem State.modCmp_freeCtr (f : Cmp → Cmp) : (s.modCmp f).freeCtr = s.freeCtr := rfl
@[simp] theorem State.modCmp_pending (f : Cmp → Cmp) : (s.modCmp f).pending = s.pending := rfl
@[simp] theorem State.modAlm_clk (f : Alm → Alm) : (s.modAlm f).clk = s.clk := rfl
@[simp] theorem State.modAlm_pins (f : Alm → Alm) : (s.modAlm f).pins = s.pins := rfl
@[simp] theorem State.modAlm_fuse (f : Alm → Alm) : (s.modAlm f).fuse = s.fuse := rfl
@[simp] theorem State.modAlm_flash (f : Alm → Alm) : (s.modAlm f).flash = s.flash := rfl
@[simp] theorem State.modAlm_reg (f : Alm → Alm) : (s.modAlm f).reg = s.reg := rfl
@[simp] theorem State.modAlm_north (f : Alm → Alm) : (s.modAlm f).north = s.north := rfl
@[simp] theorem State.modAlm_south (f : Alm → Alm) : (s.modAlm f).south = s.south := rfl
@[simp] theorem State.modAlm_bridge (f : Alm → Alm) : (s.modAlm f).bridge = s.bridge := rfl
@[simp] theorem State.modAlm_ports (f : Alm → Alm) : (s.modAlm f).ports = s.ports := rfl
@[simp] theorem State.modAlm_lds (f : Alm → Alm) : (s.modAlm f).lds = s.lds := rfl
@[simp] theorem State.modAlm_tags (f : Alm → Alm) : (s.modAlm f).tags = s.tags := rfl
@[simp] theorem State.modAlm_quarantine (f : Alm → Alm) : (s.modAlm f).quarantine = s.quarantine := rfl
@[simp] theorem State.modAlm_wtt (f : Alm → Alm) : (s.modAlm f).wtt = s.wtt := rfl
@[simp] theorem State.modAlm_wttData (f : Alm → Alm) : (s.modAlm f).wttData = s.wttData := rfl
@[simp] theorem State.modAlm_flip (f : Alm → Alm) : (s.modAlm f).flip = s.flip := rfl
@[simp] theorem State.modAlm_tier (f : Alm → Alm) : (s.modAlm f).tier = s.tier := rfl
@[simp] theorem State.modAlm_cmp (f : Alm → Alm) : (s.modAlm f).cmp = s.cmp := rfl
@[simp] theorem State.modAlm_rings (f : Alm → Alm) : (s.modAlm f).rings = s.rings := rfl
@[simp] theorem State.modAlm_eng (f : Alm → Alm) : (s.modAlm f).eng = s.eng := rfl
@[simp] theorem State.modAlm_ops (f : Alm → Alm) : (s.modAlm f).ops = s.ops := rfl
@[simp] theorem State.modAlm_nextOp (f : Alm → Alm) : (s.modAlm f).nextOp = s.nextOp := rfl
@[simp] theorem State.modAlm_jobs (f : Alm → Alm) : (s.modAlm f).jobs = s.jobs := rfl
@[simp] theorem State.modAlm_grains (f : Alm → Alm) : (s.modAlm f).grains = s.grains := rfl
@[simp] theorem State.modAlm_nextGrain (f : Alm → Alm) : (s.modAlm f).nextGrain = s.nextGrain := rfl
@[simp] theorem State.modAlm_pslots (f : Alm → Alm) : (s.modAlm f).pslots = s.pslots := rfl
@[simp] theorem State.modAlm_fes (f : Alm → Alm) : (s.modAlm f).fes = s.fes := rfl
@[simp] theorem State.modAlm_tcs (f : Alm → Alm) : (s.modAlm f).tcs = s.tcs := rfl
@[simp] theorem State.modAlm_xjobs (f : Alm → Alm) : (s.modAlm f).xjobs = s.xjobs := rfl
@[simp] theorem State.modAlm_dups (f : Alm → Alm) : (s.modAlm f).dups = s.dups := rfl
@[simp] theorem State.modAlm_shr (f : Alm → Alm) : (s.modAlm f).shr = s.shr := rfl
@[simp] theorem State.modAlm_hg (f : Alm → Alm) : (s.modAlm f).hg = s.hg := rfl
@[simp] theorem State.modAlm_nextReq (f : Alm → Alm) : (s.modAlm f).nextReq = s.nextReq := rfl
@[simp] theorem State.modAlm_arb (f : Alm → Alm) : (s.modAlm f).arb = s.arb := rfl
@[simp] theorem State.modAlm_dmc (f : Alm → Alm) : (s.modAlm f).dmc = s.dmc := rfl
@[simp] theorem State.modAlm_cst (f : Alm → Alm) : (s.modAlm f).cst = s.cst := rfl
@[simp] theorem State.modAlm_ras (f : Alm → Alm) : (s.modAlm f).ras = s.ras := rfl
@[simp] theorem State.modAlm_sec (f : Alm → Alm) : (s.modAlm f).sec = s.sec := rfl
@[simp] theorem State.modAlm_upd (f : Alm → Alm) : (s.modAlm f).upd = s.upd := rfl
@[simp] theorem State.modAlm_pwm (f : Alm → Alm) : (s.modAlm f).pwm = s.pwm := rfl
@[simp] theorem State.modAlm_mgmt (f : Alm → Alm) : (s.modAlm f).mgmt = s.mgmt := rfl
@[simp] theorem State.modAlm_out (f : Alm → Alm) : (s.modAlm f).out = s.out := rfl
@[simp] theorem State.modAlm_acc (f : Alm → Alm) : (s.modAlm f).acc = s.acc := rfl
@[simp] theorem State.modAlm_freeCtr (f : Alm → Alm) : (s.modAlm f).freeCtr = s.freeCtr := rfl
@[simp] theorem State.modAlm_pending (f : Alm → Alm) : (s.modAlm f).pending = s.pending := rfl
@[simp] theorem State.setRing_clk (t r : Nat) (v : Ring) : (s.setRing t r v).clk = s.clk := rfl
@[simp] theorem State.setRing_pins (t r : Nat) (v : Ring) : (s.setRing t r v).pins = s.pins := rfl
@[simp] theorem State.setRing_fuse (t r : Nat) (v : Ring) : (s.setRing t r v).fuse = s.fuse := rfl
@[simp] theorem State.setRing_flash (t r : Nat) (v : Ring) : (s.setRing t r v).flash = s.flash := rfl
@[simp] theorem State.setRing_reg (t r : Nat) (v : Ring) : (s.setRing t r v).reg = s.reg := rfl
@[simp] theorem State.setRing_north (t r : Nat) (v : Ring) : (s.setRing t r v).north = s.north := rfl
@[simp] theorem State.setRing_south (t r : Nat) (v : Ring) : (s.setRing t r v).south = s.south := rfl
@[simp] theorem State.setRing_bridge (t r : Nat) (v : Ring) : (s.setRing t r v).bridge = s.bridge := rfl
@[simp] theorem State.setRing_ports (t r : Nat) (v : Ring) : (s.setRing t r v).ports = s.ports := rfl
@[simp] theorem State.setRing_lds (t r : Nat) (v : Ring) : (s.setRing t r v).lds = s.lds := rfl
@[simp] theorem State.setRing_tags (t r : Nat) (v : Ring) : (s.setRing t r v).tags = s.tags := rfl
@[simp] theorem State.setRing_quarantine (t r : Nat) (v : Ring) : (s.setRing t r v).quarantine = s.quarantine := rfl
@[simp] theorem State.setRing_wtt (t r : Nat) (v : Ring) : (s.setRing t r v).wtt = s.wtt := rfl
@[simp] theorem State.setRing_wttData (t r : Nat) (v : Ring) : (s.setRing t r v).wttData = s.wttData := rfl
@[simp] theorem State.setRing_flip (t r : Nat) (v : Ring) : (s.setRing t r v).flip = s.flip := rfl
@[simp] theorem State.setRing_tier (t r : Nat) (v : Ring) : (s.setRing t r v).tier = s.tier := rfl
@[simp] theorem State.setRing_alm (t r : Nat) (v : Ring) : (s.setRing t r v).alm = s.alm := rfl
@[simp] theorem State.setRing_cmp (t r : Nat) (v : Ring) : (s.setRing t r v).cmp = s.cmp := rfl
@[simp] theorem State.setRing_eng (t r : Nat) (v : Ring) : (s.setRing t r v).eng = s.eng := rfl
@[simp] theorem State.setRing_ops (t r : Nat) (v : Ring) : (s.setRing t r v).ops = s.ops := rfl
@[simp] theorem State.setRing_nextOp (t r : Nat) (v : Ring) : (s.setRing t r v).nextOp = s.nextOp := rfl
@[simp] theorem State.setRing_jobs (t r : Nat) (v : Ring) : (s.setRing t r v).jobs = s.jobs := rfl
@[simp] theorem State.setRing_grains (t r : Nat) (v : Ring) : (s.setRing t r v).grains = s.grains := rfl
@[simp] theorem State.setRing_nextGrain (t r : Nat) (v : Ring) : (s.setRing t r v).nextGrain = s.nextGrain := rfl
@[simp] theorem State.setRing_pslots (t r : Nat) (v : Ring) : (s.setRing t r v).pslots = s.pslots := rfl
@[simp] theorem State.setRing_fes (t r : Nat) (v : Ring) : (s.setRing t r v).fes = s.fes := rfl
@[simp] theorem State.setRing_tcs (t r : Nat) (v : Ring) : (s.setRing t r v).tcs = s.tcs := rfl
@[simp] theorem State.setRing_xjobs (t r : Nat) (v : Ring) : (s.setRing t r v).xjobs = s.xjobs := rfl
@[simp] theorem State.setRing_dups (t r : Nat) (v : Ring) : (s.setRing t r v).dups = s.dups := rfl
@[simp] theorem State.setRing_shr (t r : Nat) (v : Ring) : (s.setRing t r v).shr = s.shr := rfl
@[simp] theorem State.setRing_hg (t r : Nat) (v : Ring) : (s.setRing t r v).hg = s.hg := rfl
@[simp] theorem State.setRing_nextReq (t r : Nat) (v : Ring) : (s.setRing t r v).nextReq = s.nextReq := rfl
@[simp] theorem State.setRing_arb (t r : Nat) (v : Ring) : (s.setRing t r v).arb = s.arb := rfl
@[simp] theorem State.setRing_dmc (t r : Nat) (v : Ring) : (s.setRing t r v).dmc = s.dmc := rfl
@[simp] theorem State.setRing_cst (t r : Nat) (v : Ring) : (s.setRing t r v).cst = s.cst := rfl
@[simp] theorem State.setRing_ras (t r : Nat) (v : Ring) : (s.setRing t r v).ras = s.ras := rfl
@[simp] theorem State.setRing_sec (t r : Nat) (v : Ring) : (s.setRing t r v).sec = s.sec := rfl
@[simp] theorem State.setRing_upd (t r : Nat) (v : Ring) : (s.setRing t r v).upd = s.upd := rfl
@[simp] theorem State.setRing_pwm (t r : Nat) (v : Ring) : (s.setRing t r v).pwm = s.pwm := rfl
@[simp] theorem State.setRing_mgmt (t r : Nat) (v : Ring) : (s.setRing t r v).mgmt = s.mgmt := rfl
@[simp] theorem State.setRing_out (t r : Nat) (v : Ring) : (s.setRing t r v).out = s.out := rfl
@[simp] theorem State.setRing_acc (t r : Nat) (v : Ring) : (s.setRing t r v).acc = s.acc := rfl
@[simp] theorem State.setRing_freeCtr (t r : Nat) (v : Ring) : (s.setRing t r v).freeCtr = s.freeCtr := rfl
@[simp] theorem State.setRing_pending (t r : Nat) (v : Ring) : (s.setRing t r v).pending = s.pending := rfl
@[simp] theorem State.setEng_clk (t : Nat) (v : RingEng) : (s.setEng t v).clk = s.clk := rfl
@[simp] theorem State.setEng_pins (t : Nat) (v : RingEng) : (s.setEng t v).pins = s.pins := rfl
@[simp] theorem State.setEng_fuse (t : Nat) (v : RingEng) : (s.setEng t v).fuse = s.fuse := rfl
@[simp] theorem State.setEng_flash (t : Nat) (v : RingEng) : (s.setEng t v).flash = s.flash := rfl
@[simp] theorem State.setEng_reg (t : Nat) (v : RingEng) : (s.setEng t v).reg = s.reg := rfl
@[simp] theorem State.setEng_north (t : Nat) (v : RingEng) : (s.setEng t v).north = s.north := rfl
@[simp] theorem State.setEng_south (t : Nat) (v : RingEng) : (s.setEng t v).south = s.south := rfl
@[simp] theorem State.setEng_bridge (t : Nat) (v : RingEng) : (s.setEng t v).bridge = s.bridge := rfl
@[simp] theorem State.setEng_ports (t : Nat) (v : RingEng) : (s.setEng t v).ports = s.ports := rfl
@[simp] theorem State.setEng_lds (t : Nat) (v : RingEng) : (s.setEng t v).lds = s.lds := rfl
@[simp] theorem State.setEng_tags (t : Nat) (v : RingEng) : (s.setEng t v).tags = s.tags := rfl
@[simp] theorem State.setEng_quarantine (t : Nat) (v : RingEng) : (s.setEng t v).quarantine = s.quarantine := rfl
@[simp] theorem State.setEng_wtt (t : Nat) (v : RingEng) : (s.setEng t v).wtt = s.wtt := rfl
@[simp] theorem State.setEng_wttData (t : Nat) (v : RingEng) : (s.setEng t v).wttData = s.wttData := rfl
@[simp] theorem State.setEng_flip (t : Nat) (v : RingEng) : (s.setEng t v).flip = s.flip := rfl
@[simp] theorem State.setEng_tier (t : Nat) (v : RingEng) : (s.setEng t v).tier = s.tier := rfl
@[simp] theorem State.setEng_alm (t : Nat) (v : RingEng) : (s.setEng t v).alm = s.alm := rfl
@[simp] theorem State.setEng_cmp (t : Nat) (v : RingEng) : (s.setEng t v).cmp = s.cmp := rfl
@[simp] theorem State.setEng_rings (t : Nat) (v : RingEng) : (s.setEng t v).rings = s.rings := rfl
@[simp] theorem State.setEng_ops (t : Nat) (v : RingEng) : (s.setEng t v).ops = s.ops := rfl
@[simp] theorem State.setEng_nextOp (t : Nat) (v : RingEng) : (s.setEng t v).nextOp = s.nextOp := rfl
@[simp] theorem State.setEng_jobs (t : Nat) (v : RingEng) : (s.setEng t v).jobs = s.jobs := rfl
@[simp] theorem State.setEng_grains (t : Nat) (v : RingEng) : (s.setEng t v).grains = s.grains := rfl
@[simp] theorem State.setEng_nextGrain (t : Nat) (v : RingEng) : (s.setEng t v).nextGrain = s.nextGrain := rfl
@[simp] theorem State.setEng_pslots (t : Nat) (v : RingEng) : (s.setEng t v).pslots = s.pslots := rfl
@[simp] theorem State.setEng_fes (t : Nat) (v : RingEng) : (s.setEng t v).fes = s.fes := rfl
@[simp] theorem State.setEng_tcs (t : Nat) (v : RingEng) : (s.setEng t v).tcs = s.tcs := rfl
@[simp] theorem State.setEng_xjobs (t : Nat) (v : RingEng) : (s.setEng t v).xjobs = s.xjobs := rfl
@[simp] theorem State.setEng_dups (t : Nat) (v : RingEng) : (s.setEng t v).dups = s.dups := rfl
@[simp] theorem State.setEng_shr (t : Nat) (v : RingEng) : (s.setEng t v).shr = s.shr := rfl
@[simp] theorem State.setEng_hg (t : Nat) (v : RingEng) : (s.setEng t v).hg = s.hg := rfl
@[simp] theorem State.setEng_nextReq (t : Nat) (v : RingEng) : (s.setEng t v).nextReq = s.nextReq := rfl
@[simp] theorem State.setEng_arb (t : Nat) (v : RingEng) : (s.setEng t v).arb = s.arb := rfl
@[simp] theorem State.setEng_dmc (t : Nat) (v : RingEng) : (s.setEng t v).dmc = s.dmc := rfl
@[simp] theorem State.setEng_cst (t : Nat) (v : RingEng) : (s.setEng t v).cst = s.cst := rfl
@[simp] theorem State.setEng_ras (t : Nat) (v : RingEng) : (s.setEng t v).ras = s.ras := rfl
@[simp] theorem State.setEng_sec (t : Nat) (v : RingEng) : (s.setEng t v).sec = s.sec := rfl
@[simp] theorem State.setEng_upd (t : Nat) (v : RingEng) : (s.setEng t v).upd = s.upd := rfl
@[simp] theorem State.setEng_pwm (t : Nat) (v : RingEng) : (s.setEng t v).pwm = s.pwm := rfl
@[simp] theorem State.setEng_mgmt (t : Nat) (v : RingEng) : (s.setEng t v).mgmt = s.mgmt := rfl
@[simp] theorem State.setEng_out (t : Nat) (v : RingEng) : (s.setEng t v).out = s.out := rfl
@[simp] theorem State.setEng_acc (t : Nat) (v : RingEng) : (s.setEng t v).acc = s.acc := rfl
@[simp] theorem State.setEng_freeCtr (t : Nat) (v : RingEng) : (s.setEng t v).freeCtr = s.freeCtr := rfl
@[simp] theorem State.setEng_pending (t : Nat) (v : RingEng) : (s.setEng t v).pending = s.pending := rfl
@[simp] theorem State.setFe_clk (n : Nat) (v : Engine) : (s.setFe n v).clk = s.clk := rfl
@[simp] theorem State.setFe_pins (n : Nat) (v : Engine) : (s.setFe n v).pins = s.pins := rfl
@[simp] theorem State.setFe_fuse (n : Nat) (v : Engine) : (s.setFe n v).fuse = s.fuse := rfl
@[simp] theorem State.setFe_flash (n : Nat) (v : Engine) : (s.setFe n v).flash = s.flash := rfl
@[simp] theorem State.setFe_reg (n : Nat) (v : Engine) : (s.setFe n v).reg = s.reg := rfl
@[simp] theorem State.setFe_north (n : Nat) (v : Engine) : (s.setFe n v).north = s.north := rfl
@[simp] theorem State.setFe_south (n : Nat) (v : Engine) : (s.setFe n v).south = s.south := rfl
@[simp] theorem State.setFe_bridge (n : Nat) (v : Engine) : (s.setFe n v).bridge = s.bridge := rfl
@[simp] theorem State.setFe_ports (n : Nat) (v : Engine) : (s.setFe n v).ports = s.ports := rfl
@[simp] theorem State.setFe_lds (n : Nat) (v : Engine) : (s.setFe n v).lds = s.lds := rfl
@[simp] theorem State.setFe_tags (n : Nat) (v : Engine) : (s.setFe n v).tags = s.tags := rfl
@[simp] theorem State.setFe_quarantine (n : Nat) (v : Engine) : (s.setFe n v).quarantine = s.quarantine := rfl
@[simp] theorem State.setFe_wtt (n : Nat) (v : Engine) : (s.setFe n v).wtt = s.wtt := rfl
@[simp] theorem State.setFe_wttData (n : Nat) (v : Engine) : (s.setFe n v).wttData = s.wttData := rfl
@[simp] theorem State.setFe_flip (n : Nat) (v : Engine) : (s.setFe n v).flip = s.flip := rfl
@[simp] theorem State.setFe_tier (n : Nat) (v : Engine) : (s.setFe n v).tier = s.tier := rfl
@[simp] theorem State.setFe_alm (n : Nat) (v : Engine) : (s.setFe n v).alm = s.alm := rfl
@[simp] theorem State.setFe_cmp (n : Nat) (v : Engine) : (s.setFe n v).cmp = s.cmp := rfl
@[simp] theorem State.setFe_rings (n : Nat) (v : Engine) : (s.setFe n v).rings = s.rings := rfl
@[simp] theorem State.setFe_eng (n : Nat) (v : Engine) : (s.setFe n v).eng = s.eng := rfl
@[simp] theorem State.setFe_ops (n : Nat) (v : Engine) : (s.setFe n v).ops = s.ops := rfl
@[simp] theorem State.setFe_nextOp (n : Nat) (v : Engine) : (s.setFe n v).nextOp = s.nextOp := rfl
@[simp] theorem State.setFe_jobs (n : Nat) (v : Engine) : (s.setFe n v).jobs = s.jobs := rfl
@[simp] theorem State.setFe_grains (n : Nat) (v : Engine) : (s.setFe n v).grains = s.grains := rfl
@[simp] theorem State.setFe_nextGrain (n : Nat) (v : Engine) : (s.setFe n v).nextGrain = s.nextGrain := rfl
@[simp] theorem State.setFe_pslots (n : Nat) (v : Engine) : (s.setFe n v).pslots = s.pslots := rfl
@[simp] theorem State.setFe_tcs (n : Nat) (v : Engine) : (s.setFe n v).tcs = s.tcs := rfl
@[simp] theorem State.setFe_xjobs (n : Nat) (v : Engine) : (s.setFe n v).xjobs = s.xjobs := rfl
@[simp] theorem State.setFe_dups (n : Nat) (v : Engine) : (s.setFe n v).dups = s.dups := rfl
@[simp] theorem State.setFe_shr (n : Nat) (v : Engine) : (s.setFe n v).shr = s.shr := rfl
@[simp] theorem State.setFe_hg (n : Nat) (v : Engine) : (s.setFe n v).hg = s.hg := rfl
@[simp] theorem State.setFe_nextReq (n : Nat) (v : Engine) : (s.setFe n v).nextReq = s.nextReq := rfl
@[simp] theorem State.setFe_arb (n : Nat) (v : Engine) : (s.setFe n v).arb = s.arb := rfl
@[simp] theorem State.setFe_dmc (n : Nat) (v : Engine) : (s.setFe n v).dmc = s.dmc := rfl
@[simp] theorem State.setFe_cst (n : Nat) (v : Engine) : (s.setFe n v).cst = s.cst := rfl
@[simp] theorem State.setFe_ras (n : Nat) (v : Engine) : (s.setFe n v).ras = s.ras := rfl
@[simp] theorem State.setFe_sec (n : Nat) (v : Engine) : (s.setFe n v).sec = s.sec := rfl
@[simp] theorem State.setFe_upd (n : Nat) (v : Engine) : (s.setFe n v).upd = s.upd := rfl
@[simp] theorem State.setFe_pwm (n : Nat) (v : Engine) : (s.setFe n v).pwm = s.pwm := rfl
@[simp] theorem State.setFe_mgmt (n : Nat) (v : Engine) : (s.setFe n v).mgmt = s.mgmt := rfl
@[simp] theorem State.setFe_out (n : Nat) (v : Engine) : (s.setFe n v).out = s.out := rfl
@[simp] theorem State.setFe_acc (n : Nat) (v : Engine) : (s.setFe n v).acc = s.acc := rfl
@[simp] theorem State.setFe_freeCtr (n : Nat) (v : Engine) : (s.setFe n v).freeCtr = s.freeCtr := rfl
@[simp] theorem State.setFe_pending (n : Nat) (v : Engine) : (s.setFe n v).pending = s.pending := rfl
@[simp] theorem State.setTc_clk (n : Nat) (v : UnitCtl) : (s.setTc n v).clk = s.clk := rfl
@[simp] theorem State.setTc_pins (n : Nat) (v : UnitCtl) : (s.setTc n v).pins = s.pins := rfl
@[simp] theorem State.setTc_fuse (n : Nat) (v : UnitCtl) : (s.setTc n v).fuse = s.fuse := rfl
@[simp] theorem State.setTc_flash (n : Nat) (v : UnitCtl) : (s.setTc n v).flash = s.flash := rfl
@[simp] theorem State.setTc_reg (n : Nat) (v : UnitCtl) : (s.setTc n v).reg = s.reg := rfl
@[simp] theorem State.setTc_north (n : Nat) (v : UnitCtl) : (s.setTc n v).north = s.north := rfl
@[simp] theorem State.setTc_south (n : Nat) (v : UnitCtl) : (s.setTc n v).south = s.south := rfl
@[simp] theorem State.setTc_bridge (n : Nat) (v : UnitCtl) : (s.setTc n v).bridge = s.bridge := rfl
@[simp] theorem State.setTc_ports (n : Nat) (v : UnitCtl) : (s.setTc n v).ports = s.ports := rfl
@[simp] theorem State.setTc_lds (n : Nat) (v : UnitCtl) : (s.setTc n v).lds = s.lds := rfl
@[simp] theorem State.setTc_tags (n : Nat) (v : UnitCtl) : (s.setTc n v).tags = s.tags := rfl
@[simp] theorem State.setTc_quarantine (n : Nat) (v : UnitCtl) : (s.setTc n v).quarantine = s.quarantine := rfl
@[simp] theorem State.setTc_wtt (n : Nat) (v : UnitCtl) : (s.setTc n v).wtt = s.wtt := rfl
@[simp] theorem State.setTc_wttData (n : Nat) (v : UnitCtl) : (s.setTc n v).wttData = s.wttData := rfl
@[simp] theorem State.setTc_flip (n : Nat) (v : UnitCtl) : (s.setTc n v).flip = s.flip := rfl
@[simp] theorem State.setTc_tier (n : Nat) (v : UnitCtl) : (s.setTc n v).tier = s.tier := rfl
@[simp] theorem State.setTc_alm (n : Nat) (v : UnitCtl) : (s.setTc n v).alm = s.alm := rfl
@[simp] theorem State.setTc_cmp (n : Nat) (v : UnitCtl) : (s.setTc n v).cmp = s.cmp := rfl
@[simp] theorem State.setTc_rings (n : Nat) (v : UnitCtl) : (s.setTc n v).rings = s.rings := rfl
@[simp] theorem State.setTc_eng (n : Nat) (v : UnitCtl) : (s.setTc n v).eng = s.eng := rfl
@[simp] theorem State.setTc_ops (n : Nat) (v : UnitCtl) : (s.setTc n v).ops = s.ops := rfl
@[simp] theorem State.setTc_nextOp (n : Nat) (v : UnitCtl) : (s.setTc n v).nextOp = s.nextOp := rfl
@[simp] theorem State.setTc_jobs (n : Nat) (v : UnitCtl) : (s.setTc n v).jobs = s.jobs := rfl
@[simp] theorem State.setTc_grains (n : Nat) (v : UnitCtl) : (s.setTc n v).grains = s.grains := rfl
@[simp] theorem State.setTc_nextGrain (n : Nat) (v : UnitCtl) : (s.setTc n v).nextGrain = s.nextGrain := rfl
@[simp] theorem State.setTc_pslots (n : Nat) (v : UnitCtl) : (s.setTc n v).pslots = s.pslots := rfl
@[simp] theorem State.setTc_fes (n : Nat) (v : UnitCtl) : (s.setTc n v).fes = s.fes := rfl
@[simp] theorem State.setTc_xjobs (n : Nat) (v : UnitCtl) : (s.setTc n v).xjobs = s.xjobs := rfl
@[simp] theorem State.setTc_dups (n : Nat) (v : UnitCtl) : (s.setTc n v).dups = s.dups := rfl
@[simp] theorem State.setTc_shr (n : Nat) (v : UnitCtl) : (s.setTc n v).shr = s.shr := rfl
@[simp] theorem State.setTc_hg (n : Nat) (v : UnitCtl) : (s.setTc n v).hg = s.hg := rfl
@[simp] theorem State.setTc_nextReq (n : Nat) (v : UnitCtl) : (s.setTc n v).nextReq = s.nextReq := rfl
@[simp] theorem State.setTc_arb (n : Nat) (v : UnitCtl) : (s.setTc n v).arb = s.arb := rfl
@[simp] theorem State.setTc_dmc (n : Nat) (v : UnitCtl) : (s.setTc n v).dmc = s.dmc := rfl
@[simp] theorem State.setTc_cst (n : Nat) (v : UnitCtl) : (s.setTc n v).cst = s.cst := rfl
@[simp] theorem State.setTc_ras (n : Nat) (v : UnitCtl) : (s.setTc n v).ras = s.ras := rfl
@[simp] theorem State.setTc_sec (n : Nat) (v : UnitCtl) : (s.setTc n v).sec = s.sec := rfl
@[simp] theorem State.setTc_upd (n : Nat) (v : UnitCtl) : (s.setTc n v).upd = s.upd := rfl
@[simp] theorem State.setTc_pwm (n : Nat) (v : UnitCtl) : (s.setTc n v).pwm = s.pwm := rfl
@[simp] theorem State.setTc_mgmt (n : Nat) (v : UnitCtl) : (s.setTc n v).mgmt = s.mgmt := rfl
@[simp] theorem State.setTc_out (n : Nat) (v : UnitCtl) : (s.setTc n v).out = s.out := rfl
@[simp] theorem State.setTc_acc (n : Nat) (v : UnitCtl) : (s.setTc n v).acc = s.acc := rfl
@[simp] theorem State.setTc_freeCtr (n : Nat) (v : UnitCtl) : (s.setTc n v).freeCtr = s.freeCtr := rfl
@[simp] theorem State.setTc_pending (n : Nat) (v : UnitCtl) : (s.setTc n v).pending = s.pending := rfl
@[simp] theorem State.setHg_clk (t : Nat) (v : Hg) : (s.setHg t v).clk = s.clk := rfl
@[simp] theorem State.setHg_pins (t : Nat) (v : Hg) : (s.setHg t v).pins = s.pins := rfl
@[simp] theorem State.setHg_fuse (t : Nat) (v : Hg) : (s.setHg t v).fuse = s.fuse := rfl
@[simp] theorem State.setHg_flash (t : Nat) (v : Hg) : (s.setHg t v).flash = s.flash := rfl
@[simp] theorem State.setHg_reg (t : Nat) (v : Hg) : (s.setHg t v).reg = s.reg := rfl
@[simp] theorem State.setHg_north (t : Nat) (v : Hg) : (s.setHg t v).north = s.north := rfl
@[simp] theorem State.setHg_south (t : Nat) (v : Hg) : (s.setHg t v).south = s.south := rfl
@[simp] theorem State.setHg_bridge (t : Nat) (v : Hg) : (s.setHg t v).bridge = s.bridge := rfl
@[simp] theorem State.setHg_ports (t : Nat) (v : Hg) : (s.setHg t v).ports = s.ports := rfl
@[simp] theorem State.setHg_lds (t : Nat) (v : Hg) : (s.setHg t v).lds = s.lds := rfl
@[simp] theorem State.setHg_tags (t : Nat) (v : Hg) : (s.setHg t v).tags = s.tags := rfl
@[simp] theorem State.setHg_quarantine (t : Nat) (v : Hg) : (s.setHg t v).quarantine = s.quarantine := rfl
@[simp] theorem State.setHg_wtt (t : Nat) (v : Hg) : (s.setHg t v).wtt = s.wtt := rfl
@[simp] theorem State.setHg_wttData (t : Nat) (v : Hg) : (s.setHg t v).wttData = s.wttData := rfl
@[simp] theorem State.setHg_flip (t : Nat) (v : Hg) : (s.setHg t v).flip = s.flip := rfl
@[simp] theorem State.setHg_tier (t : Nat) (v : Hg) : (s.setHg t v).tier = s.tier := rfl
@[simp] theorem State.setHg_alm (t : Nat) (v : Hg) : (s.setHg t v).alm = s.alm := rfl
@[simp] theorem State.setHg_cmp (t : Nat) (v : Hg) : (s.setHg t v).cmp = s.cmp := rfl
@[simp] theorem State.setHg_rings (t : Nat) (v : Hg) : (s.setHg t v).rings = s.rings := rfl
@[simp] theorem State.setHg_eng (t : Nat) (v : Hg) : (s.setHg t v).eng = s.eng := rfl
@[simp] theorem State.setHg_ops (t : Nat) (v : Hg) : (s.setHg t v).ops = s.ops := rfl
@[simp] theorem State.setHg_nextOp (t : Nat) (v : Hg) : (s.setHg t v).nextOp = s.nextOp := rfl
@[simp] theorem State.setHg_jobs (t : Nat) (v : Hg) : (s.setHg t v).jobs = s.jobs := rfl
@[simp] theorem State.setHg_grains (t : Nat) (v : Hg) : (s.setHg t v).grains = s.grains := rfl
@[simp] theorem State.setHg_nextGrain (t : Nat) (v : Hg) : (s.setHg t v).nextGrain = s.nextGrain := rfl
@[simp] theorem State.setHg_pslots (t : Nat) (v : Hg) : (s.setHg t v).pslots = s.pslots := rfl
@[simp] theorem State.setHg_fes (t : Nat) (v : Hg) : (s.setHg t v).fes = s.fes := rfl
@[simp] theorem State.setHg_tcs (t : Nat) (v : Hg) : (s.setHg t v).tcs = s.tcs := rfl
@[simp] theorem State.setHg_xjobs (t : Nat) (v : Hg) : (s.setHg t v).xjobs = s.xjobs := rfl
@[simp] theorem State.setHg_dups (t : Nat) (v : Hg) : (s.setHg t v).dups = s.dups := rfl
@[simp] theorem State.setHg_shr (t : Nat) (v : Hg) : (s.setHg t v).shr = s.shr := rfl
@[simp] theorem State.setHg_nextReq (t : Nat) (v : Hg) : (s.setHg t v).nextReq = s.nextReq := rfl
@[simp] theorem State.setHg_arb (t : Nat) (v : Hg) : (s.setHg t v).arb = s.arb := rfl
@[simp] theorem State.setHg_dmc (t : Nat) (v : Hg) : (s.setHg t v).dmc = s.dmc := rfl
@[simp] theorem State.setHg_cst (t : Nat) (v : Hg) : (s.setHg t v).cst = s.cst := rfl
@[simp] theorem State.setHg_ras (t : Nat) (v : Hg) : (s.setHg t v).ras = s.ras := rfl
@[simp] theorem State.setHg_sec (t : Nat) (v : Hg) : (s.setHg t v).sec = s.sec := rfl
@[simp] theorem State.setHg_upd (t : Nat) (v : Hg) : (s.setHg t v).upd = s.upd := rfl
@[simp] theorem State.setHg_pwm (t : Nat) (v : Hg) : (s.setHg t v).pwm = s.pwm := rfl
@[simp] theorem State.setHg_mgmt (t : Nat) (v : Hg) : (s.setHg t v).mgmt = s.mgmt := rfl
@[simp] theorem State.setHg_out (t : Nat) (v : Hg) : (s.setHg t v).out = s.out := rfl
@[simp] theorem State.setHg_acc (t : Nat) (v : Hg) : (s.setHg t v).acc = s.acc := rfl
@[simp] theorem State.setHg_freeCtr (t : Nat) (v : Hg) : (s.setHg t v).freeCtr = s.freeCtr := rfl
@[simp] theorem State.setHg_pending (t : Nat) (v : Hg) : (s.setHg t v).pending = s.pending := rfl
@[simp] theorem State.setTslot_clk (n : Nat) (v : TSlot) : (s.setTslot n v).clk = s.clk := rfl
@[simp] theorem State.setTslot_pins (n : Nat) (v : TSlot) : (s.setTslot n v).pins = s.pins := rfl
@[simp] theorem State.setTslot_fuse (n : Nat) (v : TSlot) : (s.setTslot n v).fuse = s.fuse := rfl
@[simp] theorem State.setTslot_flash (n : Nat) (v : TSlot) : (s.setTslot n v).flash = s.flash := rfl
@[simp] theorem State.setTslot_reg (n : Nat) (v : TSlot) : (s.setTslot n v).reg = s.reg := rfl
@[simp] theorem State.setTslot_north (n : Nat) (v : TSlot) : (s.setTslot n v).north = s.north := rfl
@[simp] theorem State.setTslot_south (n : Nat) (v : TSlot) : (s.setTslot n v).south = s.south := rfl
@[simp] theorem State.setTslot_bridge (n : Nat) (v : TSlot) : (s.setTslot n v).bridge = s.bridge := rfl
@[simp] theorem State.setTslot_ports (n : Nat) (v : TSlot) : (s.setTslot n v).ports = s.ports := rfl
@[simp] theorem State.setTslot_lds (n : Nat) (v : TSlot) : (s.setTslot n v).lds = s.lds := rfl
@[simp] theorem State.setTslot_tags (n : Nat) (v : TSlot) : (s.setTslot n v).tags = s.tags := rfl
@[simp] theorem State.setTslot_quarantine (n : Nat) (v : TSlot) : (s.setTslot n v).quarantine = s.quarantine := rfl
@[simp] theorem State.setTslot_wtt (n : Nat) (v : TSlot) : (s.setTslot n v).wtt = s.wtt := rfl
@[simp] theorem State.setTslot_wttData (n : Nat) (v : TSlot) : (s.setTslot n v).wttData = s.wttData := rfl
@[simp] theorem State.setTslot_flip (n : Nat) (v : TSlot) : (s.setTslot n v).flip = s.flip := rfl
@[simp] theorem State.setTslot_tier (n : Nat) (v : TSlot) : (s.setTslot n v).tier = s.tier := rfl
@[simp] theorem State.setTslot_alm (n : Nat) (v : TSlot) : (s.setTslot n v).alm = s.alm := rfl
@[simp] theorem State.setTslot_rings (n : Nat) (v : TSlot) : (s.setTslot n v).rings = s.rings := rfl
@[simp] theorem State.setTslot_eng (n : Nat) (v : TSlot) : (s.setTslot n v).eng = s.eng := rfl
@[simp] theorem State.setTslot_ops (n : Nat) (v : TSlot) : (s.setTslot n v).ops = s.ops := rfl
@[simp] theorem State.setTslot_nextOp (n : Nat) (v : TSlot) : (s.setTslot n v).nextOp = s.nextOp := rfl
@[simp] theorem State.setTslot_jobs (n : Nat) (v : TSlot) : (s.setTslot n v).jobs = s.jobs := rfl
@[simp] theorem State.setTslot_grains (n : Nat) (v : TSlot) : (s.setTslot n v).grains = s.grains := rfl
@[simp] theorem State.setTslot_nextGrain (n : Nat) (v : TSlot) : (s.setTslot n v).nextGrain = s.nextGrain := rfl
@[simp] theorem State.setTslot_pslots (n : Nat) (v : TSlot) : (s.setTslot n v).pslots = s.pslots := rfl
@[simp] theorem State.setTslot_fes (n : Nat) (v : TSlot) : (s.setTslot n v).fes = s.fes := rfl
@[simp] theorem State.setTslot_tcs (n : Nat) (v : TSlot) : (s.setTslot n v).tcs = s.tcs := rfl
@[simp] theorem State.setTslot_xjobs (n : Nat) (v : TSlot) : (s.setTslot n v).xjobs = s.xjobs := rfl
@[simp] theorem State.setTslot_dups (n : Nat) (v : TSlot) : (s.setTslot n v).dups = s.dups := rfl
@[simp] theorem State.setTslot_shr (n : Nat) (v : TSlot) : (s.setTslot n v).shr = s.shr := rfl
@[simp] theorem State.setTslot_hg (n : Nat) (v : TSlot) : (s.setTslot n v).hg = s.hg := rfl
@[simp] theorem State.setTslot_nextReq (n : Nat) (v : TSlot) : (s.setTslot n v).nextReq = s.nextReq := rfl
@[simp] theorem State.setTslot_arb (n : Nat) (v : TSlot) : (s.setTslot n v).arb = s.arb := rfl
@[simp] theorem State.setTslot_dmc (n : Nat) (v : TSlot) : (s.setTslot n v).dmc = s.dmc := rfl
@[simp] theorem State.setTslot_cst (n : Nat) (v : TSlot) : (s.setTslot n v).cst = s.cst := rfl
@[simp] theorem State.setTslot_ras (n : Nat) (v : TSlot) : (s.setTslot n v).ras = s.ras := rfl
@[simp] theorem State.setTslot_sec (n : Nat) (v : TSlot) : (s.setTslot n v).sec = s.sec := rfl
@[simp] theorem State.setTslot_upd (n : Nat) (v : TSlot) : (s.setTslot n v).upd = s.upd := rfl
@[simp] theorem State.setTslot_pwm (n : Nat) (v : TSlot) : (s.setTslot n v).pwm = s.pwm := rfl
@[simp] theorem State.setTslot_mgmt (n : Nat) (v : TSlot) : (s.setTslot n v).mgmt = s.mgmt := rfl
@[simp] theorem State.setTslot_out (n : Nat) (v : TSlot) : (s.setTslot n v).out = s.out := rfl
@[simp] theorem State.setTslot_acc (n : Nat) (v : TSlot) : (s.setTslot n v).acc = s.acc := rfl
@[simp] theorem State.setTslot_freeCtr (n : Nat) (v : TSlot) : (s.setTslot n v).freeCtr = s.freeCtr := rfl
@[simp] theorem State.setTslot_pending (n : Nat) (v : TSlot) : (s.setTslot n v).pending = s.pending := rfl
@[simp] theorem State.setPslot_clk (n : Nat) (v : PSlot) : (s.setPslot n v).clk = s.clk := rfl
@[simp] theorem State.setPslot_pins (n : Nat) (v : PSlot) : (s.setPslot n v).pins = s.pins := rfl
@[simp] theorem State.setPslot_fuse (n : Nat) (v : PSlot) : (s.setPslot n v).fuse = s.fuse := rfl
@[simp] theorem State.setPslot_flash (n : Nat) (v : PSlot) : (s.setPslot n v).flash = s.flash := rfl
@[simp] theorem State.setPslot_reg (n : Nat) (v : PSlot) : (s.setPslot n v).reg = s.reg := rfl
@[simp] theorem State.setPslot_north (n : Nat) (v : PSlot) : (s.setPslot n v).north = s.north := rfl
@[simp] theorem State.setPslot_south (n : Nat) (v : PSlot) : (s.setPslot n v).south = s.south := rfl
@[simp] theorem State.setPslot_bridge (n : Nat) (v : PSlot) : (s.setPslot n v).bridge = s.bridge := rfl
@[simp] theorem State.setPslot_ports (n : Nat) (v : PSlot) : (s.setPslot n v).ports = s.ports := rfl
@[simp] theorem State.setPslot_lds (n : Nat) (v : PSlot) : (s.setPslot n v).lds = s.lds := rfl
@[simp] theorem State.setPslot_tags (n : Nat) (v : PSlot) : (s.setPslot n v).tags = s.tags := rfl
@[simp] theorem State.setPslot_quarantine (n : Nat) (v : PSlot) : (s.setPslot n v).quarantine = s.quarantine := rfl
@[simp] theorem State.setPslot_wtt (n : Nat) (v : PSlot) : (s.setPslot n v).wtt = s.wtt := rfl
@[simp] theorem State.setPslot_wttData (n : Nat) (v : PSlot) : (s.setPslot n v).wttData = s.wttData := rfl
@[simp] theorem State.setPslot_flip (n : Nat) (v : PSlot) : (s.setPslot n v).flip = s.flip := rfl
@[simp] theorem State.setPslot_tier (n : Nat) (v : PSlot) : (s.setPslot n v).tier = s.tier := rfl
@[simp] theorem State.setPslot_alm (n : Nat) (v : PSlot) : (s.setPslot n v).alm = s.alm := rfl
@[simp] theorem State.setPslot_cmp (n : Nat) (v : PSlot) : (s.setPslot n v).cmp = s.cmp := rfl
@[simp] theorem State.setPslot_rings (n : Nat) (v : PSlot) : (s.setPslot n v).rings = s.rings := rfl
@[simp] theorem State.setPslot_eng (n : Nat) (v : PSlot) : (s.setPslot n v).eng = s.eng := rfl
@[simp] theorem State.setPslot_ops (n : Nat) (v : PSlot) : (s.setPslot n v).ops = s.ops := rfl
@[simp] theorem State.setPslot_nextOp (n : Nat) (v : PSlot) : (s.setPslot n v).nextOp = s.nextOp := rfl
@[simp] theorem State.setPslot_jobs (n : Nat) (v : PSlot) : (s.setPslot n v).jobs = s.jobs := rfl
@[simp] theorem State.setPslot_grains (n : Nat) (v : PSlot) : (s.setPslot n v).grains = s.grains := rfl
@[simp] theorem State.setPslot_nextGrain (n : Nat) (v : PSlot) : (s.setPslot n v).nextGrain = s.nextGrain := rfl
@[simp] theorem State.setPslot_fes (n : Nat) (v : PSlot) : (s.setPslot n v).fes = s.fes := rfl
@[simp] theorem State.setPslot_tcs (n : Nat) (v : PSlot) : (s.setPslot n v).tcs = s.tcs := rfl
@[simp] theorem State.setPslot_xjobs (n : Nat) (v : PSlot) : (s.setPslot n v).xjobs = s.xjobs := rfl
@[simp] theorem State.setPslot_dups (n : Nat) (v : PSlot) : (s.setPslot n v).dups = s.dups := rfl
@[simp] theorem State.setPslot_shr (n : Nat) (v : PSlot) : (s.setPslot n v).shr = s.shr := rfl
@[simp] theorem State.setPslot_hg (n : Nat) (v : PSlot) : (s.setPslot n v).hg = s.hg := rfl
@[simp] theorem State.setPslot_nextReq (n : Nat) (v : PSlot) : (s.setPslot n v).nextReq = s.nextReq := rfl
@[simp] theorem State.setPslot_arb (n : Nat) (v : PSlot) : (s.setPslot n v).arb = s.arb := rfl
@[simp] theorem State.setPslot_dmc (n : Nat) (v : PSlot) : (s.setPslot n v).dmc = s.dmc := rfl
@[simp] theorem State.setPslot_cst (n : Nat) (v : PSlot) : (s.setPslot n v).cst = s.cst := rfl
@[simp] theorem State.setPslot_ras (n : Nat) (v : PSlot) : (s.setPslot n v).ras = s.ras := rfl
@[simp] theorem State.setPslot_sec (n : Nat) (v : PSlot) : (s.setPslot n v).sec = s.sec := rfl
@[simp] theorem State.setPslot_upd (n : Nat) (v : PSlot) : (s.setPslot n v).upd = s.upd := rfl
@[simp] theorem State.setPslot_pwm (n : Nat) (v : PSlot) : (s.setPslot n v).pwm = s.pwm := rfl
@[simp] theorem State.setPslot_mgmt (n : Nat) (v : PSlot) : (s.setPslot n v).mgmt = s.mgmt := rfl
@[simp] theorem State.setPslot_out (n : Nat) (v : PSlot) : (s.setPslot n v).out = s.out := rfl
@[simp] theorem State.setPslot_acc (n : Nat) (v : PSlot) : (s.setPslot n v).acc = s.acc := rfl
@[simp] theorem State.setPslot_freeCtr (n : Nat) (v : PSlot) : (s.setPslot n v).freeCtr = s.freeCtr := rfl
@[simp] theorem State.setPslot_pending (n : Nat) (v : PSlot) : (s.setPslot n v).pending = s.pending := rfl
@[simp] theorem State.setRegion_clk (n : Nat) (v : Region) : (s.setRegion n v).clk = s.clk := rfl
@[simp] theorem State.setRegion_pins (n : Nat) (v : Region) : (s.setRegion n v).pins = s.pins := rfl
@[simp] theorem State.setRegion_fuse (n : Nat) (v : Region) : (s.setRegion n v).fuse = s.fuse := rfl
@[simp] theorem State.setRegion_flash (n : Nat) (v : Region) : (s.setRegion n v).flash = s.flash := rfl
@[simp] theorem State.setRegion_reg (n : Nat) (v : Region) : (s.setRegion n v).reg = s.reg := rfl
@[simp] theorem State.setRegion_north (n : Nat) (v : Region) : (s.setRegion n v).north = s.north := rfl
@[simp] theorem State.setRegion_south (n : Nat) (v : Region) : (s.setRegion n v).south = s.south := rfl
@[simp] theorem State.setRegion_bridge (n : Nat) (v : Region) : (s.setRegion n v).bridge = s.bridge := rfl
@[simp] theorem State.setRegion_ports (n : Nat) (v : Region) : (s.setRegion n v).ports = s.ports := rfl
@[simp] theorem State.setRegion_lds (n : Nat) (v : Region) : (s.setRegion n v).lds = s.lds := rfl
@[simp] theorem State.setRegion_tags (n : Nat) (v : Region) : (s.setRegion n v).tags = s.tags := rfl
@[simp] theorem State.setRegion_quarantine (n : Nat) (v : Region) : (s.setRegion n v).quarantine = s.quarantine := rfl
@[simp] theorem State.setRegion_wtt (n : Nat) (v : Region) : (s.setRegion n v).wtt = s.wtt := rfl
@[simp] theorem State.setRegion_wttData (n : Nat) (v : Region) : (s.setRegion n v).wttData = s.wttData := rfl
@[simp] theorem State.setRegion_flip (n : Nat) (v : Region) : (s.setRegion n v).flip = s.flip := rfl
@[simp] theorem State.setRegion_tier (n : Nat) (v : Region) : (s.setRegion n v).tier = s.tier := rfl
@[simp] theorem State.setRegion_alm (n : Nat) (v : Region) : (s.setRegion n v).alm = s.alm := rfl
@[simp] theorem State.setRegion_cmp (n : Nat) (v : Region) : (s.setRegion n v).cmp = s.cmp := rfl
@[simp] theorem State.setRegion_rings (n : Nat) (v : Region) : (s.setRegion n v).rings = s.rings := rfl
@[simp] theorem State.setRegion_eng (n : Nat) (v : Region) : (s.setRegion n v).eng = s.eng := rfl
@[simp] theorem State.setRegion_ops (n : Nat) (v : Region) : (s.setRegion n v).ops = s.ops := rfl
@[simp] theorem State.setRegion_nextOp (n : Nat) (v : Region) : (s.setRegion n v).nextOp = s.nextOp := rfl
@[simp] theorem State.setRegion_jobs (n : Nat) (v : Region) : (s.setRegion n v).jobs = s.jobs := rfl
@[simp] theorem State.setRegion_grains (n : Nat) (v : Region) : (s.setRegion n v).grains = s.grains := rfl
@[simp] theorem State.setRegion_nextGrain (n : Nat) (v : Region) : (s.setRegion n v).nextGrain = s.nextGrain := rfl
@[simp] theorem State.setRegion_pslots (n : Nat) (v : Region) : (s.setRegion n v).pslots = s.pslots := rfl
@[simp] theorem State.setRegion_fes (n : Nat) (v : Region) : (s.setRegion n v).fes = s.fes := rfl
@[simp] theorem State.setRegion_tcs (n : Nat) (v : Region) : (s.setRegion n v).tcs = s.tcs := rfl
@[simp] theorem State.setRegion_xjobs (n : Nat) (v : Region) : (s.setRegion n v).xjobs = s.xjobs := rfl
@[simp] theorem State.setRegion_dups (n : Nat) (v : Region) : (s.setRegion n v).dups = s.dups := rfl
@[simp] theorem State.setRegion_hg (n : Nat) (v : Region) : (s.setRegion n v).hg = s.hg := rfl
@[simp] theorem State.setRegion_nextReq (n : Nat) (v : Region) : (s.setRegion n v).nextReq = s.nextReq := rfl
@[simp] theorem State.setRegion_arb (n : Nat) (v : Region) : (s.setRegion n v).arb = s.arb := rfl
@[simp] theorem State.setRegion_dmc (n : Nat) (v : Region) : (s.setRegion n v).dmc = s.dmc := rfl
@[simp] theorem State.setRegion_cst (n : Nat) (v : Region) : (s.setRegion n v).cst = s.cst := rfl
@[simp] theorem State.setRegion_ras (n : Nat) (v : Region) : (s.setRegion n v).ras = s.ras := rfl
@[simp] theorem State.setRegion_sec (n : Nat) (v : Region) : (s.setRegion n v).sec = s.sec := rfl
@[simp] theorem State.setRegion_upd (n : Nat) (v : Region) : (s.setRegion n v).upd = s.upd := rfl
@[simp] theorem State.setRegion_pwm (n : Nat) (v : Region) : (s.setRegion n v).pwm = s.pwm := rfl
@[simp] theorem State.setRegion_mgmt (n : Nat) (v : Region) : (s.setRegion n v).mgmt = s.mgmt := rfl
@[simp] theorem State.setRegion_out (n : Nat) (v : Region) : (s.setRegion n v).out = s.out := rfl
@[simp] theorem State.setRegion_acc (n : Nat) (v : Region) : (s.setRegion n v).acc = s.acc := rfl
@[simp] theorem State.setRegion_freeCtr (n : Nat) (v : Region) : (s.setRegion n v).freeCtr = s.freeCtr := rfl
@[simp] theorem State.setRegion_pending (n : Nat) (v : Region) : (s.setRegion n v).pending = s.pending := rfl
@[simp] theorem State.setChan_clk (n : Nat) (v : Chan) : (s.setChan n v).clk = s.clk := rfl
@[simp] theorem State.setChan_pins (n : Nat) (v : Chan) : (s.setChan n v).pins = s.pins := rfl
@[simp] theorem State.setChan_fuse (n : Nat) (v : Chan) : (s.setChan n v).fuse = s.fuse := rfl
@[simp] theorem State.setChan_flash (n : Nat) (v : Chan) : (s.setChan n v).flash = s.flash := rfl
@[simp] theorem State.setChan_reg (n : Nat) (v : Chan) : (s.setChan n v).reg = s.reg := rfl
@[simp] theorem State.setChan_north (n : Nat) (v : Chan) : (s.setChan n v).north = s.north := rfl
@[simp] theorem State.setChan_south (n : Nat) (v : Chan) : (s.setChan n v).south = s.south := rfl
@[simp] theorem State.setChan_bridge (n : Nat) (v : Chan) : (s.setChan n v).bridge = s.bridge := rfl
@[simp] theorem State.setChan_ports (n : Nat) (v : Chan) : (s.setChan n v).ports = s.ports := rfl
@[simp] theorem State.setChan_lds (n : Nat) (v : Chan) : (s.setChan n v).lds = s.lds := rfl
@[simp] theorem State.setChan_tags (n : Nat) (v : Chan) : (s.setChan n v).tags = s.tags := rfl
@[simp] theorem State.setChan_quarantine (n : Nat) (v : Chan) : (s.setChan n v).quarantine = s.quarantine := rfl
@[simp] theorem State.setChan_wtt (n : Nat) (v : Chan) : (s.setChan n v).wtt = s.wtt := rfl
@[simp] theorem State.setChan_wttData (n : Nat) (v : Chan) : (s.setChan n v).wttData = s.wttData := rfl
@[simp] theorem State.setChan_flip (n : Nat) (v : Chan) : (s.setChan n v).flip = s.flip := rfl
@[simp] theorem State.setChan_tier (n : Nat) (v : Chan) : (s.setChan n v).tier = s.tier := rfl
@[simp] theorem State.setChan_alm (n : Nat) (v : Chan) : (s.setChan n v).alm = s.alm := rfl
@[simp] theorem State.setChan_cmp (n : Nat) (v : Chan) : (s.setChan n v).cmp = s.cmp := rfl
@[simp] theorem State.setChan_rings (n : Nat) (v : Chan) : (s.setChan n v).rings = s.rings := rfl
@[simp] theorem State.setChan_eng (n : Nat) (v : Chan) : (s.setChan n v).eng = s.eng := rfl
@[simp] theorem State.setChan_ops (n : Nat) (v : Chan) : (s.setChan n v).ops = s.ops := rfl
@[simp] theorem State.setChan_nextOp (n : Nat) (v : Chan) : (s.setChan n v).nextOp = s.nextOp := rfl
@[simp] theorem State.setChan_jobs (n : Nat) (v : Chan) : (s.setChan n v).jobs = s.jobs := rfl
@[simp] theorem State.setChan_grains (n : Nat) (v : Chan) : (s.setChan n v).grains = s.grains := rfl
@[simp] theorem State.setChan_nextGrain (n : Nat) (v : Chan) : (s.setChan n v).nextGrain = s.nextGrain := rfl
@[simp] theorem State.setChan_pslots (n : Nat) (v : Chan) : (s.setChan n v).pslots = s.pslots := rfl
@[simp] theorem State.setChan_fes (n : Nat) (v : Chan) : (s.setChan n v).fes = s.fes := rfl
@[simp] theorem State.setChan_tcs (n : Nat) (v : Chan) : (s.setChan n v).tcs = s.tcs := rfl
@[simp] theorem State.setChan_xjobs (n : Nat) (v : Chan) : (s.setChan n v).xjobs = s.xjobs := rfl
@[simp] theorem State.setChan_dups (n : Nat) (v : Chan) : (s.setChan n v).dups = s.dups := rfl
@[simp] theorem State.setChan_shr (n : Nat) (v : Chan) : (s.setChan n v).shr = s.shr := rfl
@[simp] theorem State.setChan_hg (n : Nat) (v : Chan) : (s.setChan n v).hg = s.hg := rfl
@[simp] theorem State.setChan_nextReq (n : Nat) (v : Chan) : (s.setChan n v).nextReq = s.nextReq := rfl
@[simp] theorem State.setChan_arb (n : Nat) (v : Chan) : (s.setChan n v).arb = s.arb := rfl
@[simp] theorem State.setChan_cst (n : Nat) (v : Chan) : (s.setChan n v).cst = s.cst := rfl
@[simp] theorem State.setChan_ras (n : Nat) (v : Chan) : (s.setChan n v).ras = s.ras := rfl
@[simp] theorem State.setChan_sec (n : Nat) (v : Chan) : (s.setChan n v).sec = s.sec := rfl
@[simp] theorem State.setChan_upd (n : Nat) (v : Chan) : (s.setChan n v).upd = s.upd := rfl
@[simp] theorem State.setChan_pwm (n : Nat) (v : Chan) : (s.setChan n v).pwm = s.pwm := rfl
@[simp] theorem State.setChan_mgmt (n : Nat) (v : Chan) : (s.setChan n v).mgmt = s.mgmt := rfl
@[simp] theorem State.setChan_out (n : Nat) (v : Chan) : (s.setChan n v).out = s.out := rfl
@[simp] theorem State.setChan_acc (n : Nat) (v : Chan) : (s.setChan n v).acc = s.acc := rfl
@[simp] theorem State.setChan_freeCtr (n : Nat) (v : Chan) : (s.setChan n v).freeCtr = s.freeCtr := rfl
@[simp] theorem State.setChan_pending (n : Nat) (v : Chan) : (s.setChan n v).pending = s.pending := rfl
@[simp] theorem State.setRank_clk (n : Nat) (v : Rank) : (s.setRank n v).clk = s.clk := rfl
@[simp] theorem State.setRank_pins (n : Nat) (v : Rank) : (s.setRank n v).pins = s.pins := rfl
@[simp] theorem State.setRank_fuse (n : Nat) (v : Rank) : (s.setRank n v).fuse = s.fuse := rfl
@[simp] theorem State.setRank_flash (n : Nat) (v : Rank) : (s.setRank n v).flash = s.flash := rfl
@[simp] theorem State.setRank_reg (n : Nat) (v : Rank) : (s.setRank n v).reg = s.reg := rfl
@[simp] theorem State.setRank_north (n : Nat) (v : Rank) : (s.setRank n v).north = s.north := rfl
@[simp] theorem State.setRank_south (n : Nat) (v : Rank) : (s.setRank n v).south = s.south := rfl
@[simp] theorem State.setRank_bridge (n : Nat) (v : Rank) : (s.setRank n v).bridge = s.bridge := rfl
@[simp] theorem State.setRank_ports (n : Nat) (v : Rank) : (s.setRank n v).ports = s.ports := rfl
@[simp] theorem State.setRank_lds (n : Nat) (v : Rank) : (s.setRank n v).lds = s.lds := rfl
@[simp] theorem State.setRank_tags (n : Nat) (v : Rank) : (s.setRank n v).tags = s.tags := rfl
@[simp] theorem State.setRank_quarantine (n : Nat) (v : Rank) : (s.setRank n v).quarantine = s.quarantine := rfl
@[simp] theorem State.setRank_wtt (n : Nat) (v : Rank) : (s.setRank n v).wtt = s.wtt := rfl
@[simp] theorem State.setRank_wttData (n : Nat) (v : Rank) : (s.setRank n v).wttData = s.wttData := rfl
@[simp] theorem State.setRank_flip (n : Nat) (v : Rank) : (s.setRank n v).flip = s.flip := rfl
@[simp] theorem State.setRank_tier (n : Nat) (v : Rank) : (s.setRank n v).tier = s.tier := rfl
@[simp] theorem State.setRank_alm (n : Nat) (v : Rank) : (s.setRank n v).alm = s.alm := rfl
@[simp] theorem State.setRank_cmp (n : Nat) (v : Rank) : (s.setRank n v).cmp = s.cmp := rfl
@[simp] theorem State.setRank_rings (n : Nat) (v : Rank) : (s.setRank n v).rings = s.rings := rfl
@[simp] theorem State.setRank_eng (n : Nat) (v : Rank) : (s.setRank n v).eng = s.eng := rfl
@[simp] theorem State.setRank_ops (n : Nat) (v : Rank) : (s.setRank n v).ops = s.ops := rfl
@[simp] theorem State.setRank_nextOp (n : Nat) (v : Rank) : (s.setRank n v).nextOp = s.nextOp := rfl
@[simp] theorem State.setRank_jobs (n : Nat) (v : Rank) : (s.setRank n v).jobs = s.jobs := rfl
@[simp] theorem State.setRank_grains (n : Nat) (v : Rank) : (s.setRank n v).grains = s.grains := rfl
@[simp] theorem State.setRank_nextGrain (n : Nat) (v : Rank) : (s.setRank n v).nextGrain = s.nextGrain := rfl
@[simp] theorem State.setRank_pslots (n : Nat) (v : Rank) : (s.setRank n v).pslots = s.pslots := rfl
@[simp] theorem State.setRank_fes (n : Nat) (v : Rank) : (s.setRank n v).fes = s.fes := rfl
@[simp] theorem State.setRank_tcs (n : Nat) (v : Rank) : (s.setRank n v).tcs = s.tcs := rfl
@[simp] theorem State.setRank_xjobs (n : Nat) (v : Rank) : (s.setRank n v).xjobs = s.xjobs := rfl
@[simp] theorem State.setRank_dups (n : Nat) (v : Rank) : (s.setRank n v).dups = s.dups := rfl
@[simp] theorem State.setRank_shr (n : Nat) (v : Rank) : (s.setRank n v).shr = s.shr := rfl
@[simp] theorem State.setRank_hg (n : Nat) (v : Rank) : (s.setRank n v).hg = s.hg := rfl
@[simp] theorem State.setRank_nextReq (n : Nat) (v : Rank) : (s.setRank n v).nextReq = s.nextReq := rfl
@[simp] theorem State.setRank_arb (n : Nat) (v : Rank) : (s.setRank n v).arb = s.arb := rfl
@[simp] theorem State.setRank_cst (n : Nat) (v : Rank) : (s.setRank n v).cst = s.cst := rfl
@[simp] theorem State.setRank_ras (n : Nat) (v : Rank) : (s.setRank n v).ras = s.ras := rfl
@[simp] theorem State.setRank_sec (n : Nat) (v : Rank) : (s.setRank n v).sec = s.sec := rfl
@[simp] theorem State.setRank_upd (n : Nat) (v : Rank) : (s.setRank n v).upd = s.upd := rfl
@[simp] theorem State.setRank_pwm (n : Nat) (v : Rank) : (s.setRank n v).pwm = s.pwm := rfl
@[simp] theorem State.setRank_mgmt (n : Nat) (v : Rank) : (s.setRank n v).mgmt = s.mgmt := rfl
@[simp] theorem State.setRank_out (n : Nat) (v : Rank) : (s.setRank n v).out = s.out := rfl
@[simp] theorem State.setRank_acc (n : Nat) (v : Rank) : (s.setRank n v).acc = s.acc := rfl
@[simp] theorem State.setRank_freeCtr (n : Nat) (v : Rank) : (s.setRank n v).freeCtr = s.freeCtr := rfl
@[simp] theorem State.setRank_pending (n : Nat) (v : Rank) : (s.setRank n v).pending = s.pending := rfl
@[simp] theorem State.setKey_clk (n : Nat) (v : Key) : (s.setKey n v).clk = s.clk := rfl
@[simp] theorem State.setKey_pins (n : Nat) (v : Key) : (s.setKey n v).pins = s.pins := rfl
@[simp] theorem State.setKey_fuse (n : Nat) (v : Key) : (s.setKey n v).fuse = s.fuse := rfl
@[simp] theorem State.setKey_flash (n : Nat) (v : Key) : (s.setKey n v).flash = s.flash := rfl
@[simp] theorem State.setKey_reg (n : Nat) (v : Key) : (s.setKey n v).reg = s.reg := rfl
@[simp] theorem State.setKey_north (n : Nat) (v : Key) : (s.setKey n v).north = s.north := rfl
@[simp] theorem State.setKey_south (n : Nat) (v : Key) : (s.setKey n v).south = s.south := rfl
@[simp] theorem State.setKey_bridge (n : Nat) (v : Key) : (s.setKey n v).bridge = s.bridge := rfl
@[simp] theorem State.setKey_ports (n : Nat) (v : Key) : (s.setKey n v).ports = s.ports := rfl
@[simp] theorem State.setKey_lds (n : Nat) (v : Key) : (s.setKey n v).lds = s.lds := rfl
@[simp] theorem State.setKey_tags (n : Nat) (v : Key) : (s.setKey n v).tags = s.tags := rfl
@[simp] theorem State.setKey_quarantine (n : Nat) (v : Key) : (s.setKey n v).quarantine = s.quarantine := rfl
@[simp] theorem State.setKey_wtt (n : Nat) (v : Key) : (s.setKey n v).wtt = s.wtt := rfl
@[simp] theorem State.setKey_wttData (n : Nat) (v : Key) : (s.setKey n v).wttData = s.wttData := rfl
@[simp] theorem State.setKey_flip (n : Nat) (v : Key) : (s.setKey n v).flip = s.flip := rfl
@[simp] theorem State.setKey_tier (n : Nat) (v : Key) : (s.setKey n v).tier = s.tier := rfl
@[simp] theorem State.setKey_alm (n : Nat) (v : Key) : (s.setKey n v).alm = s.alm := rfl
@[simp] theorem State.setKey_cmp (n : Nat) (v : Key) : (s.setKey n v).cmp = s.cmp := rfl
@[simp] theorem State.setKey_rings (n : Nat) (v : Key) : (s.setKey n v).rings = s.rings := rfl
@[simp] theorem State.setKey_eng (n : Nat) (v : Key) : (s.setKey n v).eng = s.eng := rfl
@[simp] theorem State.setKey_ops (n : Nat) (v : Key) : (s.setKey n v).ops = s.ops := rfl
@[simp] theorem State.setKey_nextOp (n : Nat) (v : Key) : (s.setKey n v).nextOp = s.nextOp := rfl
@[simp] theorem State.setKey_jobs (n : Nat) (v : Key) : (s.setKey n v).jobs = s.jobs := rfl
@[simp] theorem State.setKey_grains (n : Nat) (v : Key) : (s.setKey n v).grains = s.grains := rfl
@[simp] theorem State.setKey_nextGrain (n : Nat) (v : Key) : (s.setKey n v).nextGrain = s.nextGrain := rfl
@[simp] theorem State.setKey_pslots (n : Nat) (v : Key) : (s.setKey n v).pslots = s.pslots := rfl
@[simp] theorem State.setKey_fes (n : Nat) (v : Key) : (s.setKey n v).fes = s.fes := rfl
@[simp] theorem State.setKey_tcs (n : Nat) (v : Key) : (s.setKey n v).tcs = s.tcs := rfl
@[simp] theorem State.setKey_xjobs (n : Nat) (v : Key) : (s.setKey n v).xjobs = s.xjobs := rfl
@[simp] theorem State.setKey_dups (n : Nat) (v : Key) : (s.setKey n v).dups = s.dups := rfl
@[simp] theorem State.setKey_shr (n : Nat) (v : Key) : (s.setKey n v).shr = s.shr := rfl
@[simp] theorem State.setKey_hg (n : Nat) (v : Key) : (s.setKey n v).hg = s.hg := rfl
@[simp] theorem State.setKey_nextReq (n : Nat) (v : Key) : (s.setKey n v).nextReq = s.nextReq := rfl
@[simp] theorem State.setKey_arb (n : Nat) (v : Key) : (s.setKey n v).arb = s.arb := rfl
@[simp] theorem State.setKey_dmc (n : Nat) (v : Key) : (s.setKey n v).dmc = s.dmc := rfl
@[simp] theorem State.setKey_cst (n : Nat) (v : Key) : (s.setKey n v).cst = s.cst := rfl
@[simp] theorem State.setKey_ras (n : Nat) (v : Key) : (s.setKey n v).ras = s.ras := rfl
@[simp] theorem State.setKey_upd (n : Nat) (v : Key) : (s.setKey n v).upd = s.upd := rfl
@[simp] theorem State.setKey_pwm (n : Nat) (v : Key) : (s.setKey n v).pwm = s.pwm := rfl
@[simp] theorem State.setKey_mgmt (n : Nat) (v : Key) : (s.setKey n v).mgmt = s.mgmt := rfl
@[simp] theorem State.setKey_out (n : Nat) (v : Key) : (s.setKey n v).out = s.out := rfl
@[simp] theorem State.setKey_acc (n : Nat) (v : Key) : (s.setKey n v).acc = s.acc := rfl
@[simp] theorem State.setKey_freeCtr (n : Nat) (v : Key) : (s.setKey n v).freeCtr = s.freeCtr := rfl
@[simp] theorem State.setKey_pending (n : Nat) (v : Key) : (s.setKey n v).pending = s.pending := rfl
@[simp] theorem State.setHalf_clk (h : Half) (v : HalfSt) : (s.setHalf h v).clk = s.clk := by cases h <;> rfl
@[simp] theorem State.setHalf_pins (h : Half) (v : HalfSt) : (s.setHalf h v).pins = s.pins := by cases h <;> rfl
@[simp] theorem State.setHalf_fuse (h : Half) (v : HalfSt) : (s.setHalf h v).fuse = s.fuse := by cases h <;> rfl
@[simp] theorem State.setHalf_flash (h : Half) (v : HalfSt) : (s.setHalf h v).flash = s.flash := by cases h <;> rfl
@[simp] theorem State.setHalf_reg (h : Half) (v : HalfSt) : (s.setHalf h v).reg = s.reg := by cases h <;> rfl
@[simp] theorem State.setHalf_bridge (h : Half) (v : HalfSt) : (s.setHalf h v).bridge = s.bridge := by cases h <;> rfl
@[simp] theorem State.setHalf_ports (h : Half) (v : HalfSt) : (s.setHalf h v).ports = s.ports := by cases h <;> rfl
@[simp] theorem State.setHalf_lds (h : Half) (v : HalfSt) : (s.setHalf h v).lds = s.lds := by cases h <;> rfl
@[simp] theorem State.setHalf_tags (h : Half) (v : HalfSt) : (s.setHalf h v).tags = s.tags := by cases h <;> rfl
@[simp] theorem State.setHalf_quarantine (h : Half) (v : HalfSt) : (s.setHalf h v).quarantine = s.quarantine := by cases h <;> rfl
@[simp] theorem State.setHalf_wtt (h : Half) (v : HalfSt) : (s.setHalf h v).wtt = s.wtt := by cases h <;> rfl
@[simp] theorem State.setHalf_wttData (h : Half) (v : HalfSt) : (s.setHalf h v).wttData = s.wttData := by cases h <;> rfl
@[simp] theorem State.setHalf_flip (h : Half) (v : HalfSt) : (s.setHalf h v).flip = s.flip := by cases h <;> rfl
@[simp] theorem State.setHalf_tier (h : Half) (v : HalfSt) : (s.setHalf h v).tier = s.tier := by cases h <;> rfl
@[simp] theorem State.setHalf_alm (h : Half) (v : HalfSt) : (s.setHalf h v).alm = s.alm := by cases h <;> rfl
@[simp] theorem State.setHalf_cmp (h : Half) (v : HalfSt) : (s.setHalf h v).cmp = s.cmp := by cases h <;> rfl
@[simp] theorem State.setHalf_rings (h : Half) (v : HalfSt) : (s.setHalf h v).rings = s.rings := by cases h <;> rfl
@[simp] theorem State.setHalf_eng (h : Half) (v : HalfSt) : (s.setHalf h v).eng = s.eng := by cases h <;> rfl
@[simp] theorem State.setHalf_ops (h : Half) (v : HalfSt) : (s.setHalf h v).ops = s.ops := by cases h <;> rfl
@[simp] theorem State.setHalf_nextOp (h : Half) (v : HalfSt) : (s.setHalf h v).nextOp = s.nextOp := by cases h <;> rfl
@[simp] theorem State.setHalf_jobs (h : Half) (v : HalfSt) : (s.setHalf h v).jobs = s.jobs := by cases h <;> rfl
@[simp] theorem State.setHalf_grains (h : Half) (v : HalfSt) : (s.setHalf h v).grains = s.grains := by cases h <;> rfl
@[simp] theorem State.setHalf_nextGrain (h : Half) (v : HalfSt) : (s.setHalf h v).nextGrain = s.nextGrain := by cases h <;> rfl
@[simp] theorem State.setHalf_pslots (h : Half) (v : HalfSt) : (s.setHalf h v).pslots = s.pslots := by cases h <;> rfl
@[simp] theorem State.setHalf_fes (h : Half) (v : HalfSt) : (s.setHalf h v).fes = s.fes := by cases h <;> rfl
@[simp] theorem State.setHalf_tcs (h : Half) (v : HalfSt) : (s.setHalf h v).tcs = s.tcs := by cases h <;> rfl
@[simp] theorem State.setHalf_xjobs (h : Half) (v : HalfSt) : (s.setHalf h v).xjobs = s.xjobs := by cases h <;> rfl
@[simp] theorem State.setHalf_dups (h : Half) (v : HalfSt) : (s.setHalf h v).dups = s.dups := by cases h <;> rfl
@[simp] theorem State.setHalf_shr (h : Half) (v : HalfSt) : (s.setHalf h v).shr = s.shr := by cases h <;> rfl
@[simp] theorem State.setHalf_hg (h : Half) (v : HalfSt) : (s.setHalf h v).hg = s.hg := by cases h <;> rfl
@[simp] theorem State.setHalf_nextReq (h : Half) (v : HalfSt) : (s.setHalf h v).nextReq = s.nextReq := by cases h <;> rfl
@[simp] theorem State.setHalf_arb (h : Half) (v : HalfSt) : (s.setHalf h v).arb = s.arb := by cases h <;> rfl
@[simp] theorem State.setHalf_dmc (h : Half) (v : HalfSt) : (s.setHalf h v).dmc = s.dmc := by cases h <;> rfl
@[simp] theorem State.setHalf_cst (h : Half) (v : HalfSt) : (s.setHalf h v).cst = s.cst := by cases h <;> rfl
@[simp] theorem State.setHalf_ras (h : Half) (v : HalfSt) : (s.setHalf h v).ras = s.ras := by cases h <;> rfl
@[simp] theorem State.setHalf_sec (h : Half) (v : HalfSt) : (s.setHalf h v).sec = s.sec := by cases h <;> rfl
@[simp] theorem State.setHalf_upd (h : Half) (v : HalfSt) : (s.setHalf h v).upd = s.upd := by cases h <;> rfl
@[simp] theorem State.setHalf_pwm (h : Half) (v : HalfSt) : (s.setHalf h v).pwm = s.pwm := by cases h <;> rfl
@[simp] theorem State.setHalf_mgmt (h : Half) (v : HalfSt) : (s.setHalf h v).mgmt = s.mgmt := by cases h <;> rfl
@[simp] theorem State.setHalf_out (h : Half) (v : HalfSt) : (s.setHalf h v).out = s.out := by cases h <;> rfl
@[simp] theorem State.setHalf_acc (h : Half) (v : HalfSt) : (s.setHalf h v).acc = s.acc := by cases h <;> rfl
@[simp] theorem State.setHalf_freeCtr (h : Half) (v : HalfSt) : (s.setHalf h v).freeCtr = s.freeCtr := by cases h <;> rfl
@[simp] theorem State.setHalf_pending (h : Half) (v : HalfSt) : (s.setHalf h v).pending = s.pending := by cases h <;> rfl
@[simp] theorem State.modOp_clk (id : Nat) (f : Op → Op) : (s.modOp id f).clk = s.clk := rfl
@[simp] theorem State.modOp_pins (id : Nat) (f : Op → Op) : (s.modOp id f).pins = s.pins := rfl
@[simp] theorem State.modOp_fuse (id : Nat) (f : Op → Op) : (s.modOp id f).fuse = s.fuse := rfl
@[simp] theorem State.modOp_flash (id : Nat) (f : Op → Op) : (s.modOp id f).flash = s.flash := rfl
@[simp] theorem State.modOp_reg (id : Nat) (f : Op → Op) : (s.modOp id f).reg = s.reg := rfl
@[simp] theorem State.modOp_north (id : Nat) (f : Op → Op) : (s.modOp id f).north = s.north := rfl
@[simp] theorem State.modOp_south (id : Nat) (f : Op → Op) : (s.modOp id f).south = s.south := rfl
@[simp] theorem State.modOp_bridge (id : Nat) (f : Op → Op) : (s.modOp id f).bridge = s.bridge := rfl
@[simp] theorem State.modOp_ports (id : Nat) (f : Op → Op) : (s.modOp id f).ports = s.ports := rfl
@[simp] theorem State.modOp_lds (id : Nat) (f : Op → Op) : (s.modOp id f).lds = s.lds := rfl
@[simp] theorem State.modOp_tags (id : Nat) (f : Op → Op) : (s.modOp id f).tags = s.tags := rfl
@[simp] theorem State.modOp_quarantine (id : Nat) (f : Op → Op) : (s.modOp id f).quarantine = s.quarantine := rfl
@[simp] theorem State.modOp_wtt (id : Nat) (f : Op → Op) : (s.modOp id f).wtt = s.wtt := rfl
@[simp] theorem State.modOp_wttData (id : Nat) (f : Op → Op) : (s.modOp id f).wttData = s.wttData := rfl
@[simp] theorem State.modOp_flip (id : Nat) (f : Op → Op) : (s.modOp id f).flip = s.flip := rfl
@[simp] theorem State.modOp_tier (id : Nat) (f : Op → Op) : (s.modOp id f).tier = s.tier := rfl
@[simp] theorem State.modOp_alm (id : Nat) (f : Op → Op) : (s.modOp id f).alm = s.alm := rfl
@[simp] theorem State.modOp_cmp (id : Nat) (f : Op → Op) : (s.modOp id f).cmp = s.cmp := rfl
@[simp] theorem State.modOp_rings (id : Nat) (f : Op → Op) : (s.modOp id f).rings = s.rings := rfl
@[simp] theorem State.modOp_eng (id : Nat) (f : Op → Op) : (s.modOp id f).eng = s.eng := rfl
@[simp] theorem State.modOp_nextOp (id : Nat) (f : Op → Op) : (s.modOp id f).nextOp = s.nextOp := rfl
@[simp] theorem State.modOp_jobs (id : Nat) (f : Op → Op) : (s.modOp id f).jobs = s.jobs := rfl
@[simp] theorem State.modOp_grains (id : Nat) (f : Op → Op) : (s.modOp id f).grains = s.grains := rfl
@[simp] theorem State.modOp_nextGrain (id : Nat) (f : Op → Op) : (s.modOp id f).nextGrain = s.nextGrain := rfl
@[simp] theorem State.modOp_pslots (id : Nat) (f : Op → Op) : (s.modOp id f).pslots = s.pslots := rfl
@[simp] theorem State.modOp_fes (id : Nat) (f : Op → Op) : (s.modOp id f).fes = s.fes := rfl
@[simp] theorem State.modOp_tcs (id : Nat) (f : Op → Op) : (s.modOp id f).tcs = s.tcs := rfl
@[simp] theorem State.modOp_xjobs (id : Nat) (f : Op → Op) : (s.modOp id f).xjobs = s.xjobs := rfl
@[simp] theorem State.modOp_dups (id : Nat) (f : Op → Op) : (s.modOp id f).dups = s.dups := rfl
@[simp] theorem State.modOp_shr (id : Nat) (f : Op → Op) : (s.modOp id f).shr = s.shr := rfl
@[simp] theorem State.modOp_hg (id : Nat) (f : Op → Op) : (s.modOp id f).hg = s.hg := rfl
@[simp] theorem State.modOp_nextReq (id : Nat) (f : Op → Op) : (s.modOp id f).nextReq = s.nextReq := rfl
@[simp] theorem State.modOp_arb (id : Nat) (f : Op → Op) : (s.modOp id f).arb = s.arb := rfl
@[simp] theorem State.modOp_dmc (id : Nat) (f : Op → Op) : (s.modOp id f).dmc = s.dmc := rfl
@[simp] theorem State.modOp_cst (id : Nat) (f : Op → Op) : (s.modOp id f).cst = s.cst := rfl
@[simp] theorem State.modOp_ras (id : Nat) (f : Op → Op) : (s.modOp id f).ras = s.ras := rfl
@[simp] theorem State.modOp_sec (id : Nat) (f : Op → Op) : (s.modOp id f).sec = s.sec := rfl
@[simp] theorem State.modOp_upd (id : Nat) (f : Op → Op) : (s.modOp id f).upd = s.upd := rfl
@[simp] theorem State.modOp_pwm (id : Nat) (f : Op → Op) : (s.modOp id f).pwm = s.pwm := rfl
@[simp] theorem State.modOp_mgmt (id : Nat) (f : Op → Op) : (s.modOp id f).mgmt = s.mgmt := rfl
@[simp] theorem State.modOp_out (id : Nat) (f : Op → Op) : (s.modOp id f).out = s.out := rfl
@[simp] theorem State.modOp_acc (id : Nat) (f : Op → Op) : (s.modOp id f).acc = s.acc := rfl
@[simp] theorem State.modOp_freeCtr (id : Nat) (f : Op → Op) : (s.modOp id f).freeCtr = s.freeCtr := rfl
@[simp] theorem State.modOp_pending (id : Nat) (f : Op → Op) : (s.modOp id f).pending = s.pending := rfl
@[simp] theorem State.modJob_clk (id : Nat) (f : Job → Job) : (s.modJob id f).clk = s.clk := rfl
@[simp] theorem State.modJob_pins (id : Nat) (f : Job → Job) : (s.modJob id f).pins = s.pins := rfl
@[simp] theorem State.modJob_fuse (id : Nat) (f : Job → Job) : (s.modJob id f).fuse = s.fuse := rfl
@[simp] theorem State.modJob_flash (id : Nat) (f : Job → Job) : (s.modJob id f).flash = s.flash := rfl
@[simp] theorem State.modJob_reg (id : Nat) (f : Job → Job) : (s.modJob id f).reg = s.reg := rfl
@[simp] theorem State.modJob_north (id : Nat) (f : Job → Job) : (s.modJob id f).north = s.north := rfl
@[simp] theorem State.modJob_south (id : Nat) (f : Job → Job) : (s.modJob id f).south = s.south := rfl
@[simp] theorem State.modJob_bridge (id : Nat) (f : Job → Job) : (s.modJob id f).bridge = s.bridge := rfl
@[simp] theorem State.modJob_ports (id : Nat) (f : Job → Job) : (s.modJob id f).ports = s.ports := rfl
@[simp] theorem State.modJob_lds (id : Nat) (f : Job → Job) : (s.modJob id f).lds = s.lds := rfl
@[simp] theorem State.modJob_tags (id : Nat) (f : Job → Job) : (s.modJob id f).tags = s.tags := rfl
@[simp] theorem State.modJob_quarantine (id : Nat) (f : Job → Job) : (s.modJob id f).quarantine = s.quarantine := rfl
@[simp] theorem State.modJob_wtt (id : Nat) (f : Job → Job) : (s.modJob id f).wtt = s.wtt := rfl
@[simp] theorem State.modJob_wttData (id : Nat) (f : Job → Job) : (s.modJob id f).wttData = s.wttData := rfl
@[simp] theorem State.modJob_flip (id : Nat) (f : Job → Job) : (s.modJob id f).flip = s.flip := rfl
@[simp] theorem State.modJob_tier (id : Nat) (f : Job → Job) : (s.modJob id f).tier = s.tier := rfl
@[simp] theorem State.modJob_alm (id : Nat) (f : Job → Job) : (s.modJob id f).alm = s.alm := rfl
@[simp] theorem State.modJob_cmp (id : Nat) (f : Job → Job) : (s.modJob id f).cmp = s.cmp := rfl
@[simp] theorem State.modJob_rings (id : Nat) (f : Job → Job) : (s.modJob id f).rings = s.rings := rfl
@[simp] theorem State.modJob_eng (id : Nat) (f : Job → Job) : (s.modJob id f).eng = s.eng := rfl
@[simp] theorem State.modJob_ops (id : Nat) (f : Job → Job) : (s.modJob id f).ops = s.ops := rfl
@[simp] theorem State.modJob_nextOp (id : Nat) (f : Job → Job) : (s.modJob id f).nextOp = s.nextOp := rfl
@[simp] theorem State.modJob_grains (id : Nat) (f : Job → Job) : (s.modJob id f).grains = s.grains := rfl
@[simp] theorem State.modJob_nextGrain (id : Nat) (f : Job → Job) : (s.modJob id f).nextGrain = s.nextGrain := rfl
@[simp] theorem State.modJob_pslots (id : Nat) (f : Job → Job) : (s.modJob id f).pslots = s.pslots := rfl
@[simp] theorem State.modJob_fes (id : Nat) (f : Job → Job) : (s.modJob id f).fes = s.fes := rfl
@[simp] theorem State.modJob_tcs (id : Nat) (f : Job → Job) : (s.modJob id f).tcs = s.tcs := rfl
@[simp] theorem State.modJob_xjobs (id : Nat) (f : Job → Job) : (s.modJob id f).xjobs = s.xjobs := rfl
@[simp] theorem State.modJob_dups (id : Nat) (f : Job → Job) : (s.modJob id f).dups = s.dups := rfl
@[simp] theorem State.modJob_shr (id : Nat) (f : Job → Job) : (s.modJob id f).shr = s.shr := rfl
@[simp] theorem State.modJob_hg (id : Nat) (f : Job → Job) : (s.modJob id f).hg = s.hg := rfl
@[simp] theorem State.modJob_nextReq (id : Nat) (f : Job → Job) : (s.modJob id f).nextReq = s.nextReq := rfl
@[simp] theorem State.modJob_arb (id : Nat) (f : Job → Job) : (s.modJob id f).arb = s.arb := rfl
@[simp] theorem State.modJob_dmc (id : Nat) (f : Job → Job) : (s.modJob id f).dmc = s.dmc := rfl
@[simp] theorem State.modJob_cst (id : Nat) (f : Job → Job) : (s.modJob id f).cst = s.cst := rfl
@[simp] theorem State.modJob_ras (id : Nat) (f : Job → Job) : (s.modJob id f).ras = s.ras := rfl
@[simp] theorem State.modJob_sec (id : Nat) (f : Job → Job) : (s.modJob id f).sec = s.sec := rfl
@[simp] theorem State.modJob_upd (id : Nat) (f : Job → Job) : (s.modJob id f).upd = s.upd := rfl
@[simp] theorem State.modJob_pwm (id : Nat) (f : Job → Job) : (s.modJob id f).pwm = s.pwm := rfl
@[simp] theorem State.modJob_mgmt (id : Nat) (f : Job → Job) : (s.modJob id f).mgmt = s.mgmt := rfl
@[simp] theorem State.modJob_out (id : Nat) (f : Job → Job) : (s.modJob id f).out = s.out := rfl
@[simp] theorem State.modJob_acc (id : Nat) (f : Job → Job) : (s.modJob id f).acc = s.acc := rfl
@[simp] theorem State.modJob_freeCtr (id : Nat) (f : Job → Job) : (s.modJob id f).freeCtr = s.freeCtr := rfl
@[simp] theorem State.modJob_pending (id : Nat) (f : Job → Job) : (s.modJob id f).pending = s.pending := rfl
@[simp] theorem State.modGrain_clk (id : Nat) (f : Grain → Grain) : (s.modGrain id f).clk = s.clk := rfl
@[simp] theorem State.modGrain_pins (id : Nat) (f : Grain → Grain) : (s.modGrain id f).pins = s.pins := rfl
@[simp] theorem State.modGrain_fuse (id : Nat) (f : Grain → Grain) : (s.modGrain id f).fuse = s.fuse := rfl
@[simp] theorem State.modGrain_flash (id : Nat) (f : Grain → Grain) : (s.modGrain id f).flash = s.flash := rfl
@[simp] theorem State.modGrain_reg (id : Nat) (f : Grain → Grain) : (s.modGrain id f).reg = s.reg := rfl
@[simp] theorem State.modGrain_north (id : Nat) (f : Grain → Grain) : (s.modGrain id f).north = s.north := rfl
@[simp] theorem State.modGrain_south (id : Nat) (f : Grain → Grain) : (s.modGrain id f).south = s.south := rfl
@[simp] theorem State.modGrain_bridge (id : Nat) (f : Grain → Grain) : (s.modGrain id f).bridge = s.bridge := rfl
@[simp] theorem State.modGrain_ports (id : Nat) (f : Grain → Grain) : (s.modGrain id f).ports = s.ports := rfl
@[simp] theorem State.modGrain_lds (id : Nat) (f : Grain → Grain) : (s.modGrain id f).lds = s.lds := rfl
@[simp] theorem State.modGrain_tags (id : Nat) (f : Grain → Grain) : (s.modGrain id f).tags = s.tags := rfl
@[simp] theorem State.modGrain_quarantine (id : Nat) (f : Grain → Grain) : (s.modGrain id f).quarantine = s.quarantine := rfl
@[simp] theorem State.modGrain_wtt (id : Nat) (f : Grain → Grain) : (s.modGrain id f).wtt = s.wtt := rfl
@[simp] theorem State.modGrain_wttData (id : Nat) (f : Grain → Grain) : (s.modGrain id f).wttData = s.wttData := rfl
@[simp] theorem State.modGrain_flip (id : Nat) (f : Grain → Grain) : (s.modGrain id f).flip = s.flip := rfl
@[simp] theorem State.modGrain_tier (id : Nat) (f : Grain → Grain) : (s.modGrain id f).tier = s.tier := rfl
@[simp] theorem State.modGrain_alm (id : Nat) (f : Grain → Grain) : (s.modGrain id f).alm = s.alm := rfl
@[simp] theorem State.modGrain_cmp (id : Nat) (f : Grain → Grain) : (s.modGrain id f).cmp = s.cmp := rfl
@[simp] theorem State.modGrain_rings (id : Nat) (f : Grain → Grain) : (s.modGrain id f).rings = s.rings := rfl
@[simp] theorem State.modGrain_eng (id : Nat) (f : Grain → Grain) : (s.modGrain id f).eng = s.eng := rfl
@[simp] theorem State.modGrain_ops (id : Nat) (f : Grain → Grain) : (s.modGrain id f).ops = s.ops := rfl
@[simp] theorem State.modGrain_nextOp (id : Nat) (f : Grain → Grain) : (s.modGrain id f).nextOp = s.nextOp := rfl
@[simp] theorem State.modGrain_jobs (id : Nat) (f : Grain → Grain) : (s.modGrain id f).jobs = s.jobs := rfl
@[simp] theorem State.modGrain_nextGrain (id : Nat) (f : Grain → Grain) : (s.modGrain id f).nextGrain = s.nextGrain := rfl
@[simp] theorem State.modGrain_pslots (id : Nat) (f : Grain → Grain) : (s.modGrain id f).pslots = s.pslots := rfl
@[simp] theorem State.modGrain_fes (id : Nat) (f : Grain → Grain) : (s.modGrain id f).fes = s.fes := rfl
@[simp] theorem State.modGrain_tcs (id : Nat) (f : Grain → Grain) : (s.modGrain id f).tcs = s.tcs := rfl
@[simp] theorem State.modGrain_xjobs (id : Nat) (f : Grain → Grain) : (s.modGrain id f).xjobs = s.xjobs := rfl
@[simp] theorem State.modGrain_dups (id : Nat) (f : Grain → Grain) : (s.modGrain id f).dups = s.dups := rfl
@[simp] theorem State.modGrain_shr (id : Nat) (f : Grain → Grain) : (s.modGrain id f).shr = s.shr := rfl
@[simp] theorem State.modGrain_hg (id : Nat) (f : Grain → Grain) : (s.modGrain id f).hg = s.hg := rfl
@[simp] theorem State.modGrain_nextReq (id : Nat) (f : Grain → Grain) : (s.modGrain id f).nextReq = s.nextReq := rfl
@[simp] theorem State.modGrain_arb (id : Nat) (f : Grain → Grain) : (s.modGrain id f).arb = s.arb := rfl
@[simp] theorem State.modGrain_dmc (id : Nat) (f : Grain → Grain) : (s.modGrain id f).dmc = s.dmc := rfl
@[simp] theorem State.modGrain_cst (id : Nat) (f : Grain → Grain) : (s.modGrain id f).cst = s.cst := rfl
@[simp] theorem State.modGrain_ras (id : Nat) (f : Grain → Grain) : (s.modGrain id f).ras = s.ras := rfl
@[simp] theorem State.modGrain_sec (id : Nat) (f : Grain → Grain) : (s.modGrain id f).sec = s.sec := rfl
@[simp] theorem State.modGrain_upd (id : Nat) (f : Grain → Grain) : (s.modGrain id f).upd = s.upd := rfl
@[simp] theorem State.modGrain_pwm (id : Nat) (f : Grain → Grain) : (s.modGrain id f).pwm = s.pwm := rfl
@[simp] theorem State.modGrain_mgmt (id : Nat) (f : Grain → Grain) : (s.modGrain id f).mgmt = s.mgmt := rfl
@[simp] theorem State.modGrain_out (id : Nat) (f : Grain → Grain) : (s.modGrain id f).out = s.out := rfl
@[simp] theorem State.modGrain_acc (id : Nat) (f : Grain → Grain) : (s.modGrain id f).acc = s.acc := rfl
@[simp] theorem State.modGrain_freeCtr (id : Nat) (f : Grain → Grain) : (s.modGrain id f).freeCtr = s.freeCtr := rfl
@[simp] theorem State.modGrain_pending (id : Nat) (f : Grain → Grain) : (s.modGrain id f).pending = s.pending := rfl
@[simp] theorem State.modXjob_clk (op : Nat) (f : XJob → XJob) : (s.modXjob op f).clk = s.clk := rfl
@[simp] theorem State.modXjob_pins (op : Nat) (f : XJob → XJob) : (s.modXjob op f).pins = s.pins := rfl
@[simp] theorem State.modXjob_fuse (op : Nat) (f : XJob → XJob) : (s.modXjob op f).fuse = s.fuse := rfl
@[simp] theorem State.modXjob_flash (op : Nat) (f : XJob → XJob) : (s.modXjob op f).flash = s.flash := rfl
@[simp] theorem State.modXjob_reg (op : Nat) (f : XJob → XJob) : (s.modXjob op f).reg = s.reg := rfl
@[simp] theorem State.modXjob_north (op : Nat) (f : XJob → XJob) : (s.modXjob op f).north = s.north := rfl
@[simp] theorem State.modXjob_south (op : Nat) (f : XJob → XJob) : (s.modXjob op f).south = s.south := rfl
@[simp] theorem State.modXjob_bridge (op : Nat) (f : XJob → XJob) : (s.modXjob op f).bridge = s.bridge := rfl
@[simp] theorem State.modXjob_ports (op : Nat) (f : XJob → XJob) : (s.modXjob op f).ports = s.ports := rfl
@[simp] theorem State.modXjob_lds (op : Nat) (f : XJob → XJob) : (s.modXjob op f).lds = s.lds := rfl
@[simp] theorem State.modXjob_tags (op : Nat) (f : XJob → XJob) : (s.modXjob op f).tags = s.tags := rfl
@[simp] theorem State.modXjob_quarantine (op : Nat) (f : XJob → XJob) : (s.modXjob op f).quarantine = s.quarantine := rfl
@[simp] theorem State.modXjob_wtt (op : Nat) (f : XJob → XJob) : (s.modXjob op f).wtt = s.wtt := rfl
@[simp] theorem State.modXjob_wttData (op : Nat) (f : XJob → XJob) : (s.modXjob op f).wttData = s.wttData := rfl
@[simp] theorem State.modXjob_flip (op : Nat) (f : XJob → XJob) : (s.modXjob op f).flip = s.flip := rfl
@[simp] theorem State.modXjob_tier (op : Nat) (f : XJob → XJob) : (s.modXjob op f).tier = s.tier := rfl
@[simp] theorem State.modXjob_alm (op : Nat) (f : XJob → XJob) : (s.modXjob op f).alm = s.alm := rfl
@[simp] theorem State.modXjob_cmp (op : Nat) (f : XJob → XJob) : (s.modXjob op f).cmp = s.cmp := rfl
@[simp] theorem State.modXjob_rings (op : Nat) (f : XJob → XJob) : (s.modXjob op f).rings = s.rings := rfl
@[simp] theorem State.modXjob_eng (op : Nat) (f : XJob → XJob) : (s.modXjob op f).eng = s.eng := rfl
@[simp] theorem State.modXjob_ops (op : Nat) (f : XJob → XJob) : (s.modXjob op f).ops = s.ops := rfl
@[simp] theorem State.modXjob_nextOp (op : Nat) (f : XJob → XJob) : (s.modXjob op f).nextOp = s.nextOp := rfl
@[simp] theorem State.modXjob_jobs (op : Nat) (f : XJob → XJob) : (s.modXjob op f).jobs = s.jobs := rfl
@[simp] theorem State.modXjob_grains (op : Nat) (f : XJob → XJob) : (s.modXjob op f).grains = s.grains := rfl
@[simp] theorem State.modXjob_nextGrain (op : Nat) (f : XJob → XJob) : (s.modXjob op f).nextGrain = s.nextGrain := rfl
@[simp] theorem State.modXjob_pslots (op : Nat) (f : XJob → XJob) : (s.modXjob op f).pslots = s.pslots := rfl
@[simp] theorem State.modXjob_fes (op : Nat) (f : XJob → XJob) : (s.modXjob op f).fes = s.fes := rfl
@[simp] theorem State.modXjob_tcs (op : Nat) (f : XJob → XJob) : (s.modXjob op f).tcs = s.tcs := rfl
@[simp] theorem State.modXjob_dups (op : Nat) (f : XJob → XJob) : (s.modXjob op f).dups = s.dups := rfl
@[simp] theorem State.modXjob_shr (op : Nat) (f : XJob → XJob) : (s.modXjob op f).shr = s.shr := rfl
@[simp] theorem State.modXjob_hg (op : Nat) (f : XJob → XJob) : (s.modXjob op f).hg = s.hg := rfl
@[simp] theorem State.modXjob_nextReq (op : Nat) (f : XJob → XJob) : (s.modXjob op f).nextReq = s.nextReq := rfl
@[simp] theorem State.modXjob_arb (op : Nat) (f : XJob → XJob) : (s.modXjob op f).arb = s.arb := rfl
@[simp] theorem State.modXjob_dmc (op : Nat) (f : XJob → XJob) : (s.modXjob op f).dmc = s.dmc := rfl
@[simp] theorem State.modXjob_cst (op : Nat) (f : XJob → XJob) : (s.modXjob op f).cst = s.cst := rfl
@[simp] theorem State.modXjob_ras (op : Nat) (f : XJob → XJob) : (s.modXjob op f).ras = s.ras := rfl
@[simp] theorem State.modXjob_sec (op : Nat) (f : XJob → XJob) : (s.modXjob op f).sec = s.sec := rfl
@[simp] theorem State.modXjob_upd (op : Nat) (f : XJob → XJob) : (s.modXjob op f).upd = s.upd := rfl
@[simp] theorem State.modXjob_pwm (op : Nat) (f : XJob → XJob) : (s.modXjob op f).pwm = s.pwm := rfl
@[simp] theorem State.modXjob_mgmt (op : Nat) (f : XJob → XJob) : (s.modXjob op f).mgmt = s.mgmt := rfl
@[simp] theorem State.modXjob_out (op : Nat) (f : XJob → XJob) : (s.modXjob op f).out = s.out := rfl
@[simp] theorem State.modXjob_acc (op : Nat) (f : XJob → XJob) : (s.modXjob op f).acc = s.acc := rfl
@[simp] theorem State.modXjob_freeCtr (op : Nat) (f : XJob → XJob) : (s.modXjob op f).freeCtr = s.freeCtr := rfl
@[simp] theorem State.modXjob_pending (op : Nat) (f : XJob → XJob) : (s.modXjob op f).pending = s.pending := rfl
@[simp] theorem State.setCal_clk (c : Nat) (v : Cal) : (s.setCal c v).clk = s.clk := rfl
@[simp] theorem State.setCal_pins (c : Nat) (v : Cal) : (s.setCal c v).pins = s.pins := rfl
@[simp] theorem State.setCal_fuse (c : Nat) (v : Cal) : (s.setCal c v).fuse = s.fuse := rfl
@[simp] theorem State.setCal_flash (c : Nat) (v : Cal) : (s.setCal c v).flash = s.flash := rfl
@[simp] theorem State.setCal_reg (c : Nat) (v : Cal) : (s.setCal c v).reg = s.reg := rfl
@[simp] theorem State.setCal_north (c : Nat) (v : Cal) : (s.setCal c v).north = s.north := rfl
@[simp] theorem State.setCal_south (c : Nat) (v : Cal) : (s.setCal c v).south = s.south := rfl
@[simp] theorem State.setCal_bridge (c : Nat) (v : Cal) : (s.setCal c v).bridge = s.bridge := rfl
@[simp] theorem State.setCal_ports (c : Nat) (v : Cal) : (s.setCal c v).ports = s.ports := rfl
@[simp] theorem State.setCal_lds (c : Nat) (v : Cal) : (s.setCal c v).lds = s.lds := rfl
@[simp] theorem State.setCal_tags (c : Nat) (v : Cal) : (s.setCal c v).tags = s.tags := rfl
@[simp] theorem State.setCal_quarantine (c : Nat) (v : Cal) : (s.setCal c v).quarantine = s.quarantine := rfl
@[simp] theorem State.setCal_wtt (c : Nat) (v : Cal) : (s.setCal c v).wtt = s.wtt := rfl
@[simp] theorem State.setCal_wttData (c : Nat) (v : Cal) : (s.setCal c v).wttData = s.wttData := rfl
@[simp] theorem State.setCal_flip (c : Nat) (v : Cal) : (s.setCal c v).flip = s.flip := rfl
@[simp] theorem State.setCal_tier (c : Nat) (v : Cal) : (s.setCal c v).tier = s.tier := rfl
@[simp] theorem State.setCal_cmp (c : Nat) (v : Cal) : (s.setCal c v).cmp = s.cmp := rfl
@[simp] theorem State.setCal_rings (c : Nat) (v : Cal) : (s.setCal c v).rings = s.rings := rfl
@[simp] theorem State.setCal_eng (c : Nat) (v : Cal) : (s.setCal c v).eng = s.eng := rfl
@[simp] theorem State.setCal_ops (c : Nat) (v : Cal) : (s.setCal c v).ops = s.ops := rfl
@[simp] theorem State.setCal_nextOp (c : Nat) (v : Cal) : (s.setCal c v).nextOp = s.nextOp := rfl
@[simp] theorem State.setCal_jobs (c : Nat) (v : Cal) : (s.setCal c v).jobs = s.jobs := rfl
@[simp] theorem State.setCal_grains (c : Nat) (v : Cal) : (s.setCal c v).grains = s.grains := rfl
@[simp] theorem State.setCal_nextGrain (c : Nat) (v : Cal) : (s.setCal c v).nextGrain = s.nextGrain := rfl
@[simp] theorem State.setCal_pslots (c : Nat) (v : Cal) : (s.setCal c v).pslots = s.pslots := rfl
@[simp] theorem State.setCal_fes (c : Nat) (v : Cal) : (s.setCal c v).fes = s.fes := rfl
@[simp] theorem State.setCal_tcs (c : Nat) (v : Cal) : (s.setCal c v).tcs = s.tcs := rfl
@[simp] theorem State.setCal_xjobs (c : Nat) (v : Cal) : (s.setCal c v).xjobs = s.xjobs := rfl
@[simp] theorem State.setCal_dups (c : Nat) (v : Cal) : (s.setCal c v).dups = s.dups := rfl
@[simp] theorem State.setCal_shr (c : Nat) (v : Cal) : (s.setCal c v).shr = s.shr := rfl
@[simp] theorem State.setCal_hg (c : Nat) (v : Cal) : (s.setCal c v).hg = s.hg := rfl
@[simp] theorem State.setCal_nextReq (c : Nat) (v : Cal) : (s.setCal c v).nextReq = s.nextReq := rfl
@[simp] theorem State.setCal_arb (c : Nat) (v : Cal) : (s.setCal c v).arb = s.arb := rfl
@[simp] theorem State.setCal_dmc (c : Nat) (v : Cal) : (s.setCal c v).dmc = s.dmc := rfl
@[simp] theorem State.setCal_cst (c : Nat) (v : Cal) : (s.setCal c v).cst = s.cst := rfl
@[simp] theorem State.setCal_ras (c : Nat) (v : Cal) : (s.setCal c v).ras = s.ras := rfl
@[simp] theorem State.setCal_sec (c : Nat) (v : Cal) : (s.setCal c v).sec = s.sec := rfl
@[simp] theorem State.setCal_upd (c : Nat) (v : Cal) : (s.setCal c v).upd = s.upd := rfl
@[simp] theorem State.setCal_pwm (c : Nat) (v : Cal) : (s.setCal c v).pwm = s.pwm := rfl
@[simp] theorem State.setCal_mgmt (c : Nat) (v : Cal) : (s.setCal c v).mgmt = s.mgmt := rfl
@[simp] theorem State.setCal_out (c : Nat) (v : Cal) : (s.setCal c v).out = s.out := rfl
@[simp] theorem State.setCal_acc (c : Nat) (v : Cal) : (s.setCal c v).acc = s.acc := rfl
@[simp] theorem State.setCal_freeCtr (c : Nat) (v : Cal) : (s.setCal c v).freeCtr = s.freeCtr := rfl
@[simp] theorem State.setCal_pending (c : Nat) (v : Cal) : (s.setCal c v).pending = s.pending := rfl
@[simp] theorem State.delCal_clk (c : Nat) : (s.delCal c).clk = s.clk := rfl
@[simp] theorem State.delCal_pins (c : Nat) : (s.delCal c).pins = s.pins := rfl
@[simp] theorem State.delCal_fuse (c : Nat) : (s.delCal c).fuse = s.fuse := rfl
@[simp] theorem State.delCal_flash (c : Nat) : (s.delCal c).flash = s.flash := rfl
@[simp] theorem State.delCal_reg (c : Nat) : (s.delCal c).reg = s.reg := rfl
@[simp] theorem State.delCal_north (c : Nat) : (s.delCal c).north = s.north := rfl
@[simp] theorem State.delCal_south (c : Nat) : (s.delCal c).south = s.south := rfl
@[simp] theorem State.delCal_bridge (c : Nat) : (s.delCal c).bridge = s.bridge := rfl
@[simp] theorem State.delCal_ports (c : Nat) : (s.delCal c).ports = s.ports := rfl
@[simp] theorem State.delCal_lds (c : Nat) : (s.delCal c).lds = s.lds := rfl
@[simp] theorem State.delCal_tags (c : Nat) : (s.delCal c).tags = s.tags := rfl
@[simp] theorem State.delCal_quarantine (c : Nat) : (s.delCal c).quarantine = s.quarantine := rfl
@[simp] theorem State.delCal_wtt (c : Nat) : (s.delCal c).wtt = s.wtt := rfl
@[simp] theorem State.delCal_wttData (c : Nat) : (s.delCal c).wttData = s.wttData := rfl
@[simp] theorem State.delCal_flip (c : Nat) : (s.delCal c).flip = s.flip := rfl
@[simp] theorem State.delCal_tier (c : Nat) : (s.delCal c).tier = s.tier := rfl
@[simp] theorem State.delCal_cmp (c : Nat) : (s.delCal c).cmp = s.cmp := rfl
@[simp] theorem State.delCal_rings (c : Nat) : (s.delCal c).rings = s.rings := rfl
@[simp] theorem State.delCal_eng (c : Nat) : (s.delCal c).eng = s.eng := rfl
@[simp] theorem State.delCal_ops (c : Nat) : (s.delCal c).ops = s.ops := rfl
@[simp] theorem State.delCal_nextOp (c : Nat) : (s.delCal c).nextOp = s.nextOp := rfl
@[simp] theorem State.delCal_jobs (c : Nat) : (s.delCal c).jobs = s.jobs := rfl
@[simp] theorem State.delCal_grains (c : Nat) : (s.delCal c).grains = s.grains := rfl
@[simp] theorem State.delCal_nextGrain (c : Nat) : (s.delCal c).nextGrain = s.nextGrain := rfl
@[simp] theorem State.delCal_pslots (c : Nat) : (s.delCal c).pslots = s.pslots := rfl
@[simp] theorem State.delCal_fes (c : Nat) : (s.delCal c).fes = s.fes := rfl
@[simp] theorem State.delCal_tcs (c : Nat) : (s.delCal c).tcs = s.tcs := rfl
@[simp] theorem State.delCal_xjobs (c : Nat) : (s.delCal c).xjobs = s.xjobs := rfl
@[simp] theorem State.delCal_dups (c : Nat) : (s.delCal c).dups = s.dups := rfl
@[simp] theorem State.delCal_shr (c : Nat) : (s.delCal c).shr = s.shr := rfl
@[simp] theorem State.delCal_hg (c : Nat) : (s.delCal c).hg = s.hg := rfl
@[simp] theorem State.delCal_nextReq (c : Nat) : (s.delCal c).nextReq = s.nextReq := rfl
@[simp] theorem State.delCal_arb (c : Nat) : (s.delCal c).arb = s.arb := rfl
@[simp] theorem State.delCal_dmc (c : Nat) : (s.delCal c).dmc = s.dmc := rfl
@[simp] theorem State.delCal_cst (c : Nat) : (s.delCal c).cst = s.cst := rfl
@[simp] theorem State.delCal_ras (c : Nat) : (s.delCal c).ras = s.ras := rfl
@[simp] theorem State.delCal_sec (c : Nat) : (s.delCal c).sec = s.sec := rfl
@[simp] theorem State.delCal_upd (c : Nat) : (s.delCal c).upd = s.upd := rfl
@[simp] theorem State.delCal_pwm (c : Nat) : (s.delCal c).pwm = s.pwm := rfl
@[simp] theorem State.delCal_mgmt (c : Nat) : (s.delCal c).mgmt = s.mgmt := rfl
@[simp] theorem State.delCal_out (c : Nat) : (s.delCal c).out = s.out := rfl
@[simp] theorem State.delCal_acc (c : Nat) : (s.delCal c).acc = s.acc := rfl
@[simp] theorem State.delCal_freeCtr (c : Nat) : (s.delCal c).freeCtr = s.freeCtr := rfl
@[simp] theorem State.delCal_pending (c : Nat) : (s.delCal c).pending = s.pending := rfl
@[simp] theorem State.setBar_clk (t off : Nat) (v : W32) : (s.setBar t off v).clk = s.clk := rfl
@[simp] theorem State.setBar_pins (t off : Nat) (v : W32) : (s.setBar t off v).pins = s.pins := rfl
@[simp] theorem State.setBar_fuse (t off : Nat) (v : W32) : (s.setBar t off v).fuse = s.fuse := rfl
@[simp] theorem State.setBar_flash (t off : Nat) (v : W32) : (s.setBar t off v).flash = s.flash := rfl
@[simp] theorem State.setBar_north (t off : Nat) (v : W32) : (s.setBar t off v).north = s.north := rfl
@[simp] theorem State.setBar_south (t off : Nat) (v : W32) : (s.setBar t off v).south = s.south := rfl
@[simp] theorem State.setBar_bridge (t off : Nat) (v : W32) : (s.setBar t off v).bridge = s.bridge := rfl
@[simp] theorem State.setBar_ports (t off : Nat) (v : W32) : (s.setBar t off v).ports = s.ports := rfl
@[simp] theorem State.setBar_lds (t off : Nat) (v : W32) : (s.setBar t off v).lds = s.lds := rfl
@[simp] theorem State.setBar_tags (t off : Nat) (v : W32) : (s.setBar t off v).tags = s.tags := rfl
@[simp] theorem State.setBar_quarantine (t off : Nat) (v : W32) : (s.setBar t off v).quarantine = s.quarantine := rfl
@[simp] theorem State.setBar_wtt (t off : Nat) (v : W32) : (s.setBar t off v).wtt = s.wtt := rfl
@[simp] theorem State.setBar_wttData (t off : Nat) (v : W32) : (s.setBar t off v).wttData = s.wttData := rfl
@[simp] theorem State.setBar_flip (t off : Nat) (v : W32) : (s.setBar t off v).flip = s.flip := rfl
@[simp] theorem State.setBar_tier (t off : Nat) (v : W32) : (s.setBar t off v).tier = s.tier := rfl
@[simp] theorem State.setBar_alm (t off : Nat) (v : W32) : (s.setBar t off v).alm = s.alm := rfl
@[simp] theorem State.setBar_cmp (t off : Nat) (v : W32) : (s.setBar t off v).cmp = s.cmp := rfl
@[simp] theorem State.setBar_rings (t off : Nat) (v : W32) : (s.setBar t off v).rings = s.rings := rfl
@[simp] theorem State.setBar_eng (t off : Nat) (v : W32) : (s.setBar t off v).eng = s.eng := rfl
@[simp] theorem State.setBar_ops (t off : Nat) (v : W32) : (s.setBar t off v).ops = s.ops := rfl
@[simp] theorem State.setBar_nextOp (t off : Nat) (v : W32) : (s.setBar t off v).nextOp = s.nextOp := rfl
@[simp] theorem State.setBar_jobs (t off : Nat) (v : W32) : (s.setBar t off v).jobs = s.jobs := rfl
@[simp] theorem State.setBar_grains (t off : Nat) (v : W32) : (s.setBar t off v).grains = s.grains := rfl
@[simp] theorem State.setBar_nextGrain (t off : Nat) (v : W32) : (s.setBar t off v).nextGrain = s.nextGrain := rfl
@[simp] theorem State.setBar_pslots (t off : Nat) (v : W32) : (s.setBar t off v).pslots = s.pslots := rfl
@[simp] theorem State.setBar_fes (t off : Nat) (v : W32) : (s.setBar t off v).fes = s.fes := rfl
@[simp] theorem State.setBar_tcs (t off : Nat) (v : W32) : (s.setBar t off v).tcs = s.tcs := rfl
@[simp] theorem State.setBar_xjobs (t off : Nat) (v : W32) : (s.setBar t off v).xjobs = s.xjobs := rfl
@[simp] theorem State.setBar_dups (t off : Nat) (v : W32) : (s.setBar t off v).dups = s.dups := rfl
@[simp] theorem State.setBar_shr (t off : Nat) (v : W32) : (s.setBar t off v).shr = s.shr := rfl
@[simp] theorem State.setBar_hg (t off : Nat) (v : W32) : (s.setBar t off v).hg = s.hg := rfl
@[simp] theorem State.setBar_nextReq (t off : Nat) (v : W32) : (s.setBar t off v).nextReq = s.nextReq := rfl
@[simp] theorem State.setBar_arb (t off : Nat) (v : W32) : (s.setBar t off v).arb = s.arb := rfl
@[simp] theorem State.setBar_dmc (t off : Nat) (v : W32) : (s.setBar t off v).dmc = s.dmc := rfl
@[simp] theorem State.setBar_cst (t off : Nat) (v : W32) : (s.setBar t off v).cst = s.cst := rfl
@[simp] theorem State.setBar_ras (t off : Nat) (v : W32) : (s.setBar t off v).ras = s.ras := rfl
@[simp] theorem State.setBar_sec (t off : Nat) (v : W32) : (s.setBar t off v).sec = s.sec := rfl
@[simp] theorem State.setBar_upd (t off : Nat) (v : W32) : (s.setBar t off v).upd = s.upd := rfl
@[simp] theorem State.setBar_pwm (t off : Nat) (v : W32) : (s.setBar t off v).pwm = s.pwm := rfl
@[simp] theorem State.setBar_mgmt (t off : Nat) (v : W32) : (s.setBar t off v).mgmt = s.mgmt := rfl
@[simp] theorem State.setBar_out (t off : Nat) (v : W32) : (s.setBar t off v).out = s.out := rfl
@[simp] theorem State.setBar_acc (t off : Nat) (v : W32) : (s.setBar t off v).acc = s.acc := rfl
@[simp] theorem State.setBar_freeCtr (t off : Nat) (v : W32) : (s.setBar t off v).freeCtr = s.freeCtr := rfl
@[simp] theorem State.setBar_pending (t off : Nat) (v : W32) : (s.setBar t off v).pending = s.pending := rfl
@[simp] theorem State.setStw_clk (off : Nat) (v : W32) : (s.setStw off v).clk = s.clk := rfl
@[simp] theorem State.setStw_pins (off : Nat) (v : W32) : (s.setStw off v).pins = s.pins := rfl
@[simp] theorem State.setStw_fuse (off : Nat) (v : W32) : (s.setStw off v).fuse = s.fuse := rfl
@[simp] theorem State.setStw_flash (off : Nat) (v : W32) : (s.setStw off v).flash = s.flash := rfl
@[simp] theorem State.setStw_north (off : Nat) (v : W32) : (s.setStw off v).north = s.north := rfl
@[simp] theorem State.setStw_south (off : Nat) (v : W32) : (s.setStw off v).south = s.south := rfl
@[simp] theorem State.setStw_bridge (off : Nat) (v : W32) : (s.setStw off v).bridge = s.bridge := rfl
@[simp] theorem State.setStw_ports (off : Nat) (v : W32) : (s.setStw off v).ports = s.ports := rfl
@[simp] theorem State.setStw_lds (off : Nat) (v : W32) : (s.setStw off v).lds = s.lds := rfl
@[simp] theorem State.setStw_tags (off : Nat) (v : W32) : (s.setStw off v).tags = s.tags := rfl
@[simp] theorem State.setStw_quarantine (off : Nat) (v : W32) : (s.setStw off v).quarantine = s.quarantine := rfl
@[simp] theorem State.setStw_wtt (off : Nat) (v : W32) : (s.setStw off v).wtt = s.wtt := rfl
@[simp] theorem State.setStw_wttData (off : Nat) (v : W32) : (s.setStw off v).wttData = s.wttData := rfl
@[simp] theorem State.setStw_flip (off : Nat) (v : W32) : (s.setStw off v).flip = s.flip := rfl
@[simp] theorem State.setStw_tier (off : Nat) (v : W32) : (s.setStw off v).tier = s.tier := rfl
@[simp] theorem State.setStw_alm (off : Nat) (v : W32) : (s.setStw off v).alm = s.alm := rfl
@[simp] theorem State.setStw_cmp (off : Nat) (v : W32) : (s.setStw off v).cmp = s.cmp := rfl
@[simp] theorem State.setStw_rings (off : Nat) (v : W32) : (s.setStw off v).rings = s.rings := rfl
@[simp] theorem State.setStw_eng (off : Nat) (v : W32) : (s.setStw off v).eng = s.eng := rfl
@[simp] theorem State.setStw_ops (off : Nat) (v : W32) : (s.setStw off v).ops = s.ops := rfl
@[simp] theorem State.setStw_nextOp (off : Nat) (v : W32) : (s.setStw off v).nextOp = s.nextOp := rfl
@[simp] theorem State.setStw_jobs (off : Nat) (v : W32) : (s.setStw off v).jobs = s.jobs := rfl
@[simp] theorem State.setStw_grains (off : Nat) (v : W32) : (s.setStw off v).grains = s.grains := rfl
@[simp] theorem State.setStw_nextGrain (off : Nat) (v : W32) : (s.setStw off v).nextGrain = s.nextGrain := rfl
@[simp] theorem State.setStw_pslots (off : Nat) (v : W32) : (s.setStw off v).pslots = s.pslots := rfl
@[simp] theorem State.setStw_fes (off : Nat) (v : W32) : (s.setStw off v).fes = s.fes := rfl
@[simp] theorem State.setStw_tcs (off : Nat) (v : W32) : (s.setStw off v).tcs = s.tcs := rfl
@[simp] theorem State.setStw_xjobs (off : Nat) (v : W32) : (s.setStw off v).xjobs = s.xjobs := rfl
@[simp] theorem State.setStw_dups (off : Nat) (v : W32) : (s.setStw off v).dups = s.dups := rfl
@[simp] theorem State.setStw_shr (off : Nat) (v : W32) : (s.setStw off v).shr = s.shr := rfl
@[simp] theorem State.setStw_hg (off : Nat) (v : W32) : (s.setStw off v).hg = s.hg := rfl
@[simp] theorem State.setStw_nextReq (off : Nat) (v : W32) : (s.setStw off v).nextReq = s.nextReq := rfl
@[simp] theorem State.setStw_arb (off : Nat) (v : W32) : (s.setStw off v).arb = s.arb := rfl
@[simp] theorem State.setStw_dmc (off : Nat) (v : W32) : (s.setStw off v).dmc = s.dmc := rfl
@[simp] theorem State.setStw_cst (off : Nat) (v : W32) : (s.setStw off v).cst = s.cst := rfl
@[simp] theorem State.setStw_ras (off : Nat) (v : W32) : (s.setStw off v).ras = s.ras := rfl
@[simp] theorem State.setStw_sec (off : Nat) (v : W32) : (s.setStw off v).sec = s.sec := rfl
@[simp] theorem State.setStw_upd (off : Nat) (v : W32) : (s.setStw off v).upd = s.upd := rfl
@[simp] theorem State.setStw_pwm (off : Nat) (v : W32) : (s.setStw off v).pwm = s.pwm := rfl
@[simp] theorem State.setStw_mgmt (off : Nat) (v : W32) : (s.setStw off v).mgmt = s.mgmt := rfl
@[simp] theorem State.setStw_out (off : Nat) (v : W32) : (s.setStw off v).out = s.out := rfl
@[simp] theorem State.setStw_acc (off : Nat) (v : W32) : (s.setStw off v).acc = s.acc := rfl
@[simp] theorem State.setStw_freeCtr (off : Nat) (v : W32) : (s.setStw off v).freeCtr = s.freeCtr := rfl
@[simp] theorem State.setStw_pending (off : Nat) (v : W32) : (s.setStw off v).pending = s.pending := rfl
@[simp] theorem State.cntBar_clk (t off hi lo n : Nat) : (s.cntBar t off hi lo n).clk = s.clk := rfl
@[simp] theorem State.cntBar_pins (t off hi lo n : Nat) : (s.cntBar t off hi lo n).pins = s.pins := rfl
@[simp] theorem State.cntBar_fuse (t off hi lo n : Nat) : (s.cntBar t off hi lo n).fuse = s.fuse := rfl
@[simp] theorem State.cntBar_flash (t off hi lo n : Nat) : (s.cntBar t off hi lo n).flash = s.flash := rfl
@[simp] theorem State.cntBar_north (t off hi lo n : Nat) : (s.cntBar t off hi lo n).north = s.north := rfl
@[simp] theorem State.cntBar_south (t off hi lo n : Nat) : (s.cntBar t off hi lo n).south = s.south := rfl
@[simp] theorem State.cntBar_bridge (t off hi lo n : Nat) : (s.cntBar t off hi lo n).bridge = s.bridge := rfl
@[simp] theorem State.cntBar_ports (t off hi lo n : Nat) : (s.cntBar t off hi lo n).ports = s.ports := rfl
@[simp] theorem State.cntBar_lds (t off hi lo n : Nat) : (s.cntBar t off hi lo n).lds = s.lds := rfl
@[simp] theorem State.cntBar_tags (t off hi lo n : Nat) : (s.cntBar t off hi lo n).tags = s.tags := rfl
@[simp] theorem State.cntBar_quarantine (t off hi lo n : Nat) : (s.cntBar t off hi lo n).quarantine = s.quarantine := rfl
@[simp] theorem State.cntBar_wtt (t off hi lo n : Nat) : (s.cntBar t off hi lo n).wtt = s.wtt := rfl
@[simp] theorem State.cntBar_wttData (t off hi lo n : Nat) : (s.cntBar t off hi lo n).wttData = s.wttData := rfl
@[simp] theorem State.cntBar_flip (t off hi lo n : Nat) : (s.cntBar t off hi lo n).flip = s.flip := rfl
@[simp] theorem State.cntBar_tier (t off hi lo n : Nat) : (s.cntBar t off hi lo n).tier = s.tier := rfl
@[simp] theorem State.cntBar_alm (t off hi lo n : Nat) : (s.cntBar t off hi lo n).alm = s.alm := rfl
@[simp] theorem State.cntBar_cmp (t off hi lo n : Nat) : (s.cntBar t off hi lo n).cmp = s.cmp := rfl
@[simp] theorem State.cntBar_rings (t off hi lo n : Nat) : (s.cntBar t off hi lo n).rings = s.rings := rfl
@[simp] theorem State.cntBar_eng (t off hi lo n : Nat) : (s.cntBar t off hi lo n).eng = s.eng := rfl
@[simp] theorem State.cntBar_ops (t off hi lo n : Nat) : (s.cntBar t off hi lo n).ops = s.ops := rfl
@[simp] theorem State.cntBar_nextOp (t off hi lo n : Nat) : (s.cntBar t off hi lo n).nextOp = s.nextOp := rfl
@[simp] theorem State.cntBar_jobs (t off hi lo n : Nat) : (s.cntBar t off hi lo n).jobs = s.jobs := rfl
@[simp] theorem State.cntBar_grains (t off hi lo n : Nat) : (s.cntBar t off hi lo n).grains = s.grains := rfl
@[simp] theorem State.cntBar_nextGrain (t off hi lo n : Nat) : (s.cntBar t off hi lo n).nextGrain = s.nextGrain := rfl
@[simp] theorem State.cntBar_pslots (t off hi lo n : Nat) : (s.cntBar t off hi lo n).pslots = s.pslots := rfl
@[simp] theorem State.cntBar_fes (t off hi lo n : Nat) : (s.cntBar t off hi lo n).fes = s.fes := rfl
@[simp] theorem State.cntBar_tcs (t off hi lo n : Nat) : (s.cntBar t off hi lo n).tcs = s.tcs := rfl
@[simp] theorem State.cntBar_xjobs (t off hi lo n : Nat) : (s.cntBar t off hi lo n).xjobs = s.xjobs := rfl
@[simp] theorem State.cntBar_dups (t off hi lo n : Nat) : (s.cntBar t off hi lo n).dups = s.dups := rfl
@[simp] theorem State.cntBar_shr (t off hi lo n : Nat) : (s.cntBar t off hi lo n).shr = s.shr := rfl
@[simp] theorem State.cntBar_hg (t off hi lo n : Nat) : (s.cntBar t off hi lo n).hg = s.hg := rfl
@[simp] theorem State.cntBar_nextReq (t off hi lo n : Nat) : (s.cntBar t off hi lo n).nextReq = s.nextReq := rfl
@[simp] theorem State.cntBar_arb (t off hi lo n : Nat) : (s.cntBar t off hi lo n).arb = s.arb := rfl
@[simp] theorem State.cntBar_dmc (t off hi lo n : Nat) : (s.cntBar t off hi lo n).dmc = s.dmc := rfl
@[simp] theorem State.cntBar_cst (t off hi lo n : Nat) : (s.cntBar t off hi lo n).cst = s.cst := rfl
@[simp] theorem State.cntBar_ras (t off hi lo n : Nat) : (s.cntBar t off hi lo n).ras = s.ras := rfl
@[simp] theorem State.cntBar_sec (t off hi lo n : Nat) : (s.cntBar t off hi lo n).sec = s.sec := rfl
@[simp] theorem State.cntBar_upd (t off hi lo n : Nat) : (s.cntBar t off hi lo n).upd = s.upd := rfl
@[simp] theorem State.cntBar_pwm (t off hi lo n : Nat) : (s.cntBar t off hi lo n).pwm = s.pwm := rfl
@[simp] theorem State.cntBar_mgmt (t off hi lo n : Nat) : (s.cntBar t off hi lo n).mgmt = s.mgmt := rfl
@[simp] theorem State.cntBar_out (t off hi lo n : Nat) : (s.cntBar t off hi lo n).out = s.out := rfl
@[simp] theorem State.cntBar_acc (t off hi lo n : Nat) : (s.cntBar t off hi lo n).acc = s.acc := rfl
@[simp] theorem State.cntBar_freeCtr (t off hi lo n : Nat) : (s.cntBar t off hi lo n).freeCtr = s.freeCtr := rfl
@[simp] theorem State.cntBar_pending (t off hi lo n : Nat) : (s.cntBar t off hi lo n).pending = s.pending := rfl
@[simp] theorem State.cntStw_clk (off hi lo n : Nat) : (s.cntStw off hi lo n).clk = s.clk := rfl
@[simp] theorem State.cntStw_pins (off hi lo n : Nat) : (s.cntStw off hi lo n).pins = s.pins := rfl
@[simp] theorem State.cntStw_fuse (off hi lo n : Nat) : (s.cntStw off hi lo n).fuse = s.fuse := rfl
@[simp] theorem State.cntStw_flash (off hi lo n : Nat) : (s.cntStw off hi lo n).flash = s.flash := rfl
@[simp] theorem State.cntStw_north (off hi lo n : Nat) : (s.cntStw off hi lo n).north = s.north := rfl
@[simp] theorem State.cntStw_south (off hi lo n : Nat) : (s.cntStw off hi lo n).south = s.south := rfl
@[simp] theorem State.cntStw_bridge (off hi lo n : Nat) : (s.cntStw off hi lo n).bridge = s.bridge := rfl
@[simp] theorem State.cntStw_ports (off hi lo n : Nat) : (s.cntStw off hi lo n).ports = s.ports := rfl
@[simp] theorem State.cntStw_lds (off hi lo n : Nat) : (s.cntStw off hi lo n).lds = s.lds := rfl
@[simp] theorem State.cntStw_tags (off hi lo n : Nat) : (s.cntStw off hi lo n).tags = s.tags := rfl
@[simp] theorem State.cntStw_quarantine (off hi lo n : Nat) : (s.cntStw off hi lo n).quarantine = s.quarantine := rfl
@[simp] theorem State.cntStw_wtt (off hi lo n : Nat) : (s.cntStw off hi lo n).wtt = s.wtt := rfl
@[simp] theorem State.cntStw_wttData (off hi lo n : Nat) : (s.cntStw off hi lo n).wttData = s.wttData := rfl
@[simp] theorem State.cntStw_flip (off hi lo n : Nat) : (s.cntStw off hi lo n).flip = s.flip := rfl
@[simp] theorem State.cntStw_tier (off hi lo n : Nat) : (s.cntStw off hi lo n).tier = s.tier := rfl
@[simp] theorem State.cntStw_alm (off hi lo n : Nat) : (s.cntStw off hi lo n).alm = s.alm := rfl
@[simp] theorem State.cntStw_cmp (off hi lo n : Nat) : (s.cntStw off hi lo n).cmp = s.cmp := rfl
@[simp] theorem State.cntStw_rings (off hi lo n : Nat) : (s.cntStw off hi lo n).rings = s.rings := rfl
@[simp] theorem State.cntStw_eng (off hi lo n : Nat) : (s.cntStw off hi lo n).eng = s.eng := rfl
@[simp] theorem State.cntStw_ops (off hi lo n : Nat) : (s.cntStw off hi lo n).ops = s.ops := rfl
@[simp] theorem State.cntStw_nextOp (off hi lo n : Nat) : (s.cntStw off hi lo n).nextOp = s.nextOp := rfl
@[simp] theorem State.cntStw_jobs (off hi lo n : Nat) : (s.cntStw off hi lo n).jobs = s.jobs := rfl
@[simp] theorem State.cntStw_grains (off hi lo n : Nat) : (s.cntStw off hi lo n).grains = s.grains := rfl
@[simp] theorem State.cntStw_nextGrain (off hi lo n : Nat) : (s.cntStw off hi lo n).nextGrain = s.nextGrain := rfl
@[simp] theorem State.cntStw_pslots (off hi lo n : Nat) : (s.cntStw off hi lo n).pslots = s.pslots := rfl
@[simp] theorem State.cntStw_fes (off hi lo n : Nat) : (s.cntStw off hi lo n).fes = s.fes := rfl
@[simp] theorem State.cntStw_tcs (off hi lo n : Nat) : (s.cntStw off hi lo n).tcs = s.tcs := rfl
@[simp] theorem State.cntStw_xjobs (off hi lo n : Nat) : (s.cntStw off hi lo n).xjobs = s.xjobs := rfl
@[simp] theorem State.cntStw_dups (off hi lo n : Nat) : (s.cntStw off hi lo n).dups = s.dups := rfl
@[simp] theorem State.cntStw_shr (off hi lo n : Nat) : (s.cntStw off hi lo n).shr = s.shr := rfl
@[simp] theorem State.cntStw_hg (off hi lo n : Nat) : (s.cntStw off hi lo n).hg = s.hg := rfl
@[simp] theorem State.cntStw_nextReq (off hi lo n : Nat) : (s.cntStw off hi lo n).nextReq = s.nextReq := rfl
@[simp] theorem State.cntStw_arb (off hi lo n : Nat) : (s.cntStw off hi lo n).arb = s.arb := rfl
@[simp] theorem State.cntStw_dmc (off hi lo n : Nat) : (s.cntStw off hi lo n).dmc = s.dmc := rfl
@[simp] theorem State.cntStw_cst (off hi lo n : Nat) : (s.cntStw off hi lo n).cst = s.cst := rfl
@[simp] theorem State.cntStw_ras (off hi lo n : Nat) : (s.cntStw off hi lo n).ras = s.ras := rfl
@[simp] theorem State.cntStw_sec (off hi lo n : Nat) : (s.cntStw off hi lo n).sec = s.sec := rfl
@[simp] theorem State.cntStw_upd (off hi lo n : Nat) : (s.cntStw off hi lo n).upd = s.upd := rfl
@[simp] theorem State.cntStw_pwm (off hi lo n : Nat) : (s.cntStw off hi lo n).pwm = s.pwm := rfl
@[simp] theorem State.cntStw_mgmt (off hi lo n : Nat) : (s.cntStw off hi lo n).mgmt = s.mgmt := rfl
@[simp] theorem State.cntStw_out (off hi lo n : Nat) : (s.cntStw off hi lo n).out = s.out := rfl
@[simp] theorem State.cntStw_acc (off hi lo n : Nat) : (s.cntStw off hi lo n).acc = s.acc := rfl
@[simp] theorem State.cntStw_freeCtr (off hi lo n : Nat) : (s.cntStw off hi lo n).freeCtr = s.freeCtr := rfl
@[simp] theorem State.cntStw_pending (off hi lo n : Nat) : (s.cntStw off hi lo n).pending = s.pending := rfl
@[simp] theorem State.clearBar_clk (t : Nat) (keepFlr : Bool) : (s.clearBar t keepFlr).clk = s.clk := rfl
@[simp] theorem State.clearBar_pins (t : Nat) (keepFlr : Bool) : (s.clearBar t keepFlr).pins = s.pins := rfl
@[simp] theorem State.clearBar_fuse (t : Nat) (keepFlr : Bool) : (s.clearBar t keepFlr).fuse = s.fuse := rfl
@[simp] theorem State.clearBar_flash (t : Nat) (keepFlr : Bool) : (s.clearBar t keepFlr).flash = s.flash := rfl
@[simp] theorem State.clearBar_north (t : Nat) (keepFlr : Bool) : (s.clearBar t keepFlr).north = s.north := rfl
@[simp] theorem State.clearBar_south (t : Nat) (keepFlr : Bool) : (s.clearBar t keepFlr).south = s.south := rfl
@[simp] theorem State.clearBar_bridge (t : Nat) (keepFlr : Bool) : (s.clearBar t keepFlr).bridge = s.bridge := rfl
@[simp] theorem State.clearBar_ports (t : Nat) (keepFlr : Bool) : (s.clearBar t keepFlr).ports = s.ports := rfl
@[simp] theorem State.clearBar_lds (t : Nat) (keepFlr : Bool) : (s.clearBar t keepFlr).lds = s.lds := rfl
@[simp] theorem State.clearBar_tags (t : Nat) (keepFlr : Bool) : (s.clearBar t keepFlr).tags = s.tags := rfl
@[simp] theorem State.clearBar_quarantine (t : Nat) (keepFlr : Bool) : (s.clearBar t keepFlr).quarantine = s.quarantine := rfl
@[simp] theorem State.clearBar_wtt (t : Nat) (keepFlr : Bool) : (s.clearBar t keepFlr).wtt = s.wtt := rfl
@[simp] theorem State.clearBar_wttData (t : Nat) (keepFlr : Bool) : (s.clearBar t keepFlr).wttData = s.wttData := rfl
@[simp] theorem State.clearBar_flip (t : Nat) (keepFlr : Bool) : (s.clearBar t keepFlr).flip = s.flip := rfl
@[simp] theorem State.clearBar_tier (t : Nat) (keepFlr : Bool) : (s.clearBar t keepFlr).tier = s.tier := rfl
@[simp] theorem State.clearBar_alm (t : Nat) (keepFlr : Bool) : (s.clearBar t keepFlr).alm = s.alm := rfl
@[simp] theorem State.clearBar_cmp (t : Nat) (keepFlr : Bool) : (s.clearBar t keepFlr).cmp = s.cmp := rfl
@[simp] theorem State.clearBar_rings (t : Nat) (keepFlr : Bool) : (s.clearBar t keepFlr).rings = s.rings := rfl
@[simp] theorem State.clearBar_eng (t : Nat) (keepFlr : Bool) : (s.clearBar t keepFlr).eng = s.eng := rfl
@[simp] theorem State.clearBar_ops (t : Nat) (keepFlr : Bool) : (s.clearBar t keepFlr).ops = s.ops := rfl
@[simp] theorem State.clearBar_nextOp (t : Nat) (keepFlr : Bool) : (s.clearBar t keepFlr).nextOp = s.nextOp := rfl
@[simp] theorem State.clearBar_jobs (t : Nat) (keepFlr : Bool) : (s.clearBar t keepFlr).jobs = s.jobs := rfl
@[simp] theorem State.clearBar_grains (t : Nat) (keepFlr : Bool) : (s.clearBar t keepFlr).grains = s.grains := rfl
@[simp] theorem State.clearBar_nextGrain (t : Nat) (keepFlr : Bool) : (s.clearBar t keepFlr).nextGrain = s.nextGrain := rfl
@[simp] theorem State.clearBar_pslots (t : Nat) (keepFlr : Bool) : (s.clearBar t keepFlr).pslots = s.pslots := rfl
@[simp] theorem State.clearBar_fes (t : Nat) (keepFlr : Bool) : (s.clearBar t keepFlr).fes = s.fes := rfl
@[simp] theorem State.clearBar_tcs (t : Nat) (keepFlr : Bool) : (s.clearBar t keepFlr).tcs = s.tcs := rfl
@[simp] theorem State.clearBar_xjobs (t : Nat) (keepFlr : Bool) : (s.clearBar t keepFlr).xjobs = s.xjobs := rfl
@[simp] theorem State.clearBar_dups (t : Nat) (keepFlr : Bool) : (s.clearBar t keepFlr).dups = s.dups := rfl
@[simp] theorem State.clearBar_shr (t : Nat) (keepFlr : Bool) : (s.clearBar t keepFlr).shr = s.shr := rfl
@[simp] theorem State.clearBar_hg (t : Nat) (keepFlr : Bool) : (s.clearBar t keepFlr).hg = s.hg := rfl
@[simp] theorem State.clearBar_nextReq (t : Nat) (keepFlr : Bool) : (s.clearBar t keepFlr).nextReq = s.nextReq := rfl
@[simp] theorem State.clearBar_arb (t : Nat) (keepFlr : Bool) : (s.clearBar t keepFlr).arb = s.arb := rfl
@[simp] theorem State.clearBar_dmc (t : Nat) (keepFlr : Bool) : (s.clearBar t keepFlr).dmc = s.dmc := rfl
@[simp] theorem State.clearBar_cst (t : Nat) (keepFlr : Bool) : (s.clearBar t keepFlr).cst = s.cst := rfl
@[simp] theorem State.clearBar_ras (t : Nat) (keepFlr : Bool) : (s.clearBar t keepFlr).ras = s.ras := rfl
@[simp] theorem State.clearBar_sec (t : Nat) (keepFlr : Bool) : (s.clearBar t keepFlr).sec = s.sec := rfl
@[simp] theorem State.clearBar_upd (t : Nat) (keepFlr : Bool) : (s.clearBar t keepFlr).upd = s.upd := rfl
@[simp] theorem State.clearBar_pwm (t : Nat) (keepFlr : Bool) : (s.clearBar t keepFlr).pwm = s.pwm := rfl
@[simp] theorem State.clearBar_mgmt (t : Nat) (keepFlr : Bool) : (s.clearBar t keepFlr).mgmt = s.mgmt := rfl
@[simp] theorem State.clearBar_out (t : Nat) (keepFlr : Bool) : (s.clearBar t keepFlr).out = s.out := rfl
@[simp] theorem State.clearBar_acc (t : Nat) (keepFlr : Bool) : (s.clearBar t keepFlr).acc = s.acc := rfl
@[simp] theorem State.clearBar_freeCtr (t : Nat) (keepFlr : Bool) : (s.clearBar t keepFlr).freeCtr = s.freeCtr := rfl
@[simp] theorem State.clearBar_pending (t : Nat) (keepFlr : Bool) : (s.clearBar t keepFlr).pending = s.pending := rfl

/-! What an update leaves in its own place. -/

@[simp] theorem State.port_setPort (p : Nat) (v : Port) : (s.setPort p v).port p = v := tget_tset_same _ _ _ _
@[simp] theorem State.ld_setLd (t : Nat) (v : Ld) : (s.setLd t v).ld t = v := tget_tset_same _ _ _ _
@[simp] theorem State.wttOf_setWtt (t : Nat) (v : Wtt) : (s.setWtt t v).wttOf t = v := tget_tset_same _ _ _ _
@[simp] theorem State.plot_setPlot (p : Nat) (v : Plot) : (s.setPlot p v).plot p = some v := tfind_tput_same _ _ _
@[simp] theorem State.plot_delPlot (p : Nat) : (s.delPlot p).plot p = none := tfind_tdel_same _ _
@[simp] theorem State.ring_setRing (t r : Nat) (v : Ring) : (s.setRing t r v).ring t r = v := tget_tset_same _ _ _ _
@[simp] theorem State.engOf_setEng (t : Nat) (v : RingEng) : (s.setEng t v).engOf t = v := tget_tset_same _ _ _ _
@[simp] theorem State.fe_setFe (n : Nat) (v : Engine) : (s.setFe n v).fe n = v := tget_tset_same _ _ _ _
@[simp] theorem State.tc_setTc (n : Nat) (v : UnitCtl) : (s.setTc n v).tc n = v := tget_tset_same _ _ _ _
@[simp] theorem State.hgOf_setHg (t : Nat) (v : Hg) : (s.setHg t v).hgOf t = v := tget_tset_same _ _ _ _
@[simp] theorem State.tslot_setTslot (n : Nat) (v : TSlot) : (s.setTslot n v).tslot n = v := tget_tset_same _ _ _ _
@[simp] theorem State.pslot_setPslot (n : Nat) (v : PSlot) : (s.setPslot n v).pslot n = v := tget_tset_same _ _ _ _
@[simp] theorem State.region_setRegion (n : Nat) (v : Region) : (s.setRegion n v).region n = v := tget_tset_same _ _ _ _
@[simp] theorem State.chan_setChan (n : Nat) (v : Chan) : (s.setChan n v).chan n = v := tget_tset_same _ _ _ _
@[simp] theorem State.rank_setRank (n : Nat) (v : Rank) : (s.setRank n v).rank n = v := tget_tset_same _ _ _ _
@[simp] theorem State.key_setKey (n : Nat) (v : Key) : (s.setKey n v).key n = v := tget_tset_same _ _ _ _
@[simp] theorem State.cal_setCal (c : Nat) (v : Cal) : (s.setCal c v).cal c = some v := tfind_tput_same _ _ _
@[simp] theorem State.cal_delCal (c : Nat) : (s.delCal c).cal c = none := tfind_tdel_same _ _
@[simp] theorem State.half_setHalf (h : Half) (v : HalfSt) : (s.setHalf h v).half h = v := by cases h <;> rfl
@[simp] theorem State.bar_setBar (t off : Nat) (v : W32) : (s.setBar t off v).bar t off = v := tget_tset_same _ _ _ _
@[simp] theorem State.stw_setStw (off : Nat) (v : W32) : (s.setStw off v).stw off = v := tget_tset_same _ _ _ _
@[simp] theorem State.emit_out (m : Msg) : (s.emit m).out = s.out ++ [m] := rfl
@[simp] theorem State.tickFree_freeCtr : s.tickFree.freeCtr = s.freeCtr + 1 := rfl

/-! What an update leaves in the other places of its table. -/

theorem State.bar_setBar_other {t off u o : Nat} (v : W32) (h : u * 65536 + o ≠ t * 65536 + off) :
    (s.setBar t off v).bar u o = s.bar u o := tget_tset_other _ _ _ h _
theorem State.stw_setStw_other {off o : Nat} (v : W32) (h : o ≠ off) : (s.setStw off v).stw o = s.stw o := tget_tset_other _ _ _ h _
theorem State.port_setPort_other {p q : Nat} (v : Port) (h : q ≠ p) : (s.setPort p v).port q = s.port q := tget_tset_other _ _ _ h _
theorem State.ld_setLd_other {t u : Nat} (v : Ld) (h : u ≠ t) : (s.setLd t v).ld u = s.ld u := tget_tset_other _ _ _ h _
theorem State.wttOf_setWtt_other {t u : Nat} (v : Wtt) (h : u ≠ t) : (s.setWtt t v).wttOf u = s.wttOf u := tget_tset_other _ _ _ h _
theorem State.plot_setPlot_other {p q : Nat} (v : Plot) (h : q ≠ p) : (s.setPlot p v).plot q = s.plot q := tfind_tput_other _ h _
theorem State.ring_setRing_other {t r u q : Nat} (v : Ring) (h : 16 * u + q ≠ 16 * t + r) :
    (s.setRing t r v).ring u q = s.ring u q := tget_tset_other _ _ _ h _

end Sys2Proof.Machine
end

