-- ==== Sys2Proof/Tests/Slice0.lean ====
section
/-! SUPPORT. Tests: ill-formed commands, values and single steps that the spec's own text gives, and for every statement
with hypotheses a witness that meets them. -/

namespace Sys2Proof.Tests

open Sys2Proof Sys2Proof.Machine Sys2Proof.Safety

set_option maxRecDepth 20000
set_option linter.unusedVariables false
set_option exponentiation.threshold 600

/-! Ill-formed commands: one for each check, which refuses it. -/

theorem test_wf_offset : (Instr.registerWrite .steward 2#24 0 ⟨none, 0⟩).wfErr = some "offset" := by decide
theorem test_wf_offset_wide : (Instr.readClear (.bar0 0) 4#24 true 0).wfErr = some "offset" := by decide
theorem test_wf_offset_end : (Instr.registerWrite (.bar0 0) 0x10000#24 0 ⟨none, 0⟩).wfErr = some "offset" := by decide
theorem test_wf_offset_bar2 : (Instr.registerWrite (.bar2 0) 0x10000#24 0 ⟨none, 0⟩).wfErr = some "offset" := by decide
theorem test_wf_size : (Instr.bar0BadAccess 0 0 0 true).wfErr = some "size" := by decide
theorem test_wf_fetch : (Instr.descriptorFetchCompletion 0 (.data [])).wfErr = some "fetch length" := by decide
theorem test_wf_decoder : (Instr.hdmCommit 0 0 0 0 0 1 true).wfErr = some "decoder" := by decide
theorem test_wf_channel : (Instr.channelLost 264).wfErr = some "channel" := by decide
theorem test_wf_bank : (Instr.rowIdleClose 0 16).wfErr = some "bank" := by decide
theorem test_wf_scrub : (Instr.scrubRead 1 136 0 .clean).wfErr = some "scrub unit" := by decide
theorem test_wf_tier : (Instr.lapEnd 3 .north 0).wfErr = some "tier" := by decide
theorem test_wf_march : (Instr.marchPreserving 0 257).wfErr = some "bank count" := by decide
theorem test_wf_activity : (Instr.maintGrantRequest 0 [] 0).wfErr = some "activity code" := by decide
theorem test_wf_sensors : (Instr.sensorSample [0]).wfErr = some "sensor count" := by decide
theorem test_wf_count : (Instr.stewardRegisterAccess .i3c none 0 false 17 []).wfErr = some "register count" := by decide
theorem test_wf_data : (Instr.stewardRegisterAccess .i3c none 0 true 2 [0]).wfErr = some "data length" := by decide
theorem test_wf_accepts : (Instr.rowIdleClose 0 79).wf = true := by decide

/-! Values that the spec's own examples give. -/

/-- Section Example: one read through the chain: DPA 0x0302_4A1B_3C40 of a 1 TiB window on UA 0x0_0510_0000_0000 has class
label 3 and UA 0x0_0512_4A1B_3C40, plot 0x0512_4A1B, block 3, sector 49. (That section counts ten ones in the plot number;
it has eleven, so R10 homes the plot on South: log 32.) -/
theorem test_chain :
    let x := ({ cfgA := 0x87282800#32, bankA := [(0, 0xF_8000000005100000#128)] } : Wtt).translate 0x03024A1B3C40 false
    x.cls = 3 ∧ x.ua = 0x005124A1B3C40 ∧ plotOf x.ua = 0x05124A1B ∧ x.ua / 4096 % 16 = 3 ∧ x.ua / 64 % 64 = 49 ∧
      homeHalf (plotOf x.ua) = .south := by decide

/-- Section Example: one Bulk line: LOC 0x0123_4567, byte 0xC40, on North with BGRAIN 0 and BHASH 1. -/
theorem test_bulk_line : bulkLine .north (0x01234567 * 4096 + 0xC40) 0 true =
    { chan := 49, k := 1, bank := 8, row := 18641, line := 9, lrank := some 99 } := by decide

/-- R134: the check value of the nine bytes "123456789". -/
theorem test_check : crc32c [0x31#8, 0x32#8, 0x33#8, 0x34#8, 0x35#8, 0x36#8, 0x37#8, 0x38#8, 0x39#8] = 0xE3069283#32 := by decide

/-- R166: byte 0x2D is the trits 0, 0, −1, +1 and 0; byte 243 is invalid. -/
theorem test_trits : decTrits [0x2D#8] = ([0#32, 0#32, 0xBF800000#32, 0x3F800000#32, 0#32], 0) ∧
    decTrits [243#8] = ([0#32, 0#32, 0#32, 0#32, 0#32], 1) := by decide

/-- Section Example: one FP4 group: its scale byte, its six codes and the one saturation. -/
theorem test_fp4_group : mxQuantize ([.fin false 27 (-1), .fin true 83 (-5), .fin false 3 (-2), .fin false 1 (-1), .fin false 5 0,
      .fin true 9 0] ++ List.replicate 26 (.fin false 0 0)) 7 (List.replicate 32 .rne) =
    (0x80, [7, 0xB, 1, 0, 4, 0xE] ++ List.replicate 26 0, { sat := 1 }) := by decide +kernel

/-- The same group decoded again by R169: 12, −3, 1, 0, 4 and −8. -/
theorem test_fp4_back : ([7, 0xB, 1, 0, 4, 0xE].map (decScaled 7 (some 0x80))) =
    [0x41400000#32, 0xC0400000#32, 0x3F800000#32, 0#32, 0x40800000#32, 0xC1000000#32] := by decide +kernel

/-- Section Example: an FP4 block: header bytes 0–7 of a packed FP4 block with layout 0x1 in slot 12, generation 5. -/
theorem test_header : (let h := hdrOf ([0x10#8, 0x71#8, 0x0C#8, 5#8, 0x39#8, 0#8, 0x11#8, 0#8] ++ List.replicate 8 0#8);
    (h.fmt, h.lay, h.slot, h.gen, h.len)) = (7, 1, 12, 5, 57) := by decide

/-- R463 and Table CMP-28: the built-in table's sub-tables pass the checks of a table image. -/
theorem test_builtin : tableImageOk builtinImage = true := by decide +kernel

/-- Section Example: a Far read that times out and then completes: the late completion is discarded and counted. -/
theorem test_late_completion :
    let s : State := { State.reset with quarantine := [{ tag := 0x0A2, tenant := 37, use := .fetch 0 0 1 }] }
    (match exec (.farReadCompletion 0x0A2 [] false) s with
      | .next t => bits 31 16 (t.bar 37 Reg.PRT_CPL)
      | _ => 2) = 1 := by decide

/-! States that the witnesses use. -/

/-- Reset, the state the witnesses start from. -/
abbrev zero : State := State.reset

/-- Both halves run firmware with every function ready; port 0 is UP with logical device 0 on it. -/
def live : State := { State.reset with
  pins := { State.reset.pins with resetN := false, perst := 0xFFFE#16 }
  north := { stage := .firmware, ready := 0xFF#8, role := .steward }
  south := { stage := .firmware, ready := 0xFF#8, role := .deputy }
  ports := [(0, { st := .up })]
  lds := [(0, { enumerated := true, hostBound := true, bme := true })] }

/-- A request of tenant 0 with number 0 for line 0. -/
def rq : Req := { id := 0, port := 0, tenant := 0, op := .rd, dpa := 0, mv := .i, ua := 0, cls := 0, enc := none, region := none
                  data := 0#512, be := 0#64, poison := false, md := .clean, stamp := 0, oldEpoch := 0#16 }

/-- A segment of one plot, plot 5, with every permission. -/
def seg : W128 := 0xF8000000000000005#128

/-- The live module with tenant 0's decoder and window set up and plot 5, a raw plot, behind its first segment. -/
def mapped : State := { live with
  lds := [(0, { enumerated := true, hostBound := true, bme := true, hdm := { size := 0x80000000#64, committed := true } })]
  wtt := [(0, { cfgA := 0x871C1000#32, bankA := [(0, seg)] })]
  tier := { plots := [(5, { st := .bulk, mode := .raw })] } }


/-- An operation of tenant 0's ring 15 with number 7. -/
def dop (d : Line) (c : Option Status := none) : Op :=
  { id := 7, tenant := 0, ring := 15, desc := d, cls := 0, epoch := 0#16, rmode := 0, sat := false, seed := 0#32, done := c }

/-- Live, with tenant 0's window on plot 5, a raw plot whose first lines are written with zeros. -/
def read5 : State := { mapped with
  tier := { plots := [(5, { st := .bulk, mode := .raw, qtenant := 0 })], written := (List.range 128).map (fun i => 5120 + i) } }

/-- The state in which a unit's program ends or stops. -/
def endOf {α : Type} (m : Work α) (s : State) : State :=
  match m s with
  | .ok _ u => u
  | .error _ u => u

/-- A descriptor with values at bytes. -/
def dsc (l : List (Nat × Nat)) : Line := BitVec.ofNat 512 ((l.map (fun e => e.2 * 2 ^ (8 * e.1))).sum)

/-- The same with one byte that is not 0. -/
def read6 : State := { read5 with tier := { read5.tier with mem := [(0x51045, 1#8)] } }

/-- Two ends of a unit's program are the same. -/
def sameEnd {α : Type} [DecidableEq α] (a b : EStateM.Result Stop State α) : Bool :=
  match a, b with
  | .ok x s, .ok y t => decide (x = y) && decide (s = t)
  | .error x s, .error y t => decide (x = y) && decide (s = t)
  | _, _ => false

theorem eq_of_sameEnd {α : Type} [DecidableEq α] {a b : EStateM.Result Stop State α} (h : sameEnd a b = true) : a = b := by
  cases a <;> cases b <;> simp_all [sameEnd]

/-- The same with an image of no code, or of a calendar of one layer, at the start of the plot. -/
def read7 : State := { read5 with
  tier := { read5.tier with mem := [(0x50000, 0x10#8)] }
  pslots := [(0, { owner := 0, cur := some { replay := false, entry := 0, ngrant := 0, check := 0#32, code := [] } })] }

def read8 : State := { read5 with tier := { read5.tier with mem := [(0x50000, 0x10#8), (0x50002, 1#8)] } }

theorem fst_snd {α β : Type} {p : α × β} {a : α} (h : p.1 = a) : p = (a, p.2) := by
  cases p
  cases h
  rfl

theorem some_snd {α β : Type} {p : Option α × β} (h : p.1.isSome = true) : p = (some (p.1.get h), p.2) :=
  fst_snd (Option.some_get h).symm

/-- A grain with no strip left, or one, of operation 7. -/
def grn (st : List Strip := []) (second : Bool := false) : FGrain :=
  { id := 3, op := 7, tenant := 0, cls := 0, expert := 0, rows := [], fe := 15, strips := st, inp := [], second := second }

/-- Parameters of an expert whose widths are 64 with inputs of 2,048 values, gated. -/
def epb : List Byte := [0x10#8, 1#8, 0#8, 0#8, 0#8, 0#8, 0#8, 0#8, 0#8, 8#8, 0#8, 0#8, 64#8, 0#8, 0#8, 0#8, 64#8, 0#8, 0#8, 0#8]

def xop (p : List Byte := epb) : Op := { dop 6#512 with param := p }

/-- Engine 15 runs the last tile of a grain's chain, or one before it. -/
def tiled (g : FGrain) (kEnd : Nat) (c : Option Status) : State := { zero with
  ops := [xop], fes := [(15, { grains := [g], tile := some { grain := 3, kEnd := kEnd, acc := [], fail := c } })] }

/-- The value that a unit's program ends with, d where it does not end. -/
def valOf {α : Type} (d : α) (m : Work α) (s : State) : α :=
  match m s with
  | .ok a _ => a
  | .error _ _ => d

def ends {α : Type} (m : Work α) (s : State) : Bool :=
  match m s with
  | .ok _ _ => true
  | .error _ _ => false

theorem ends_with {α : Type} {d : α} {m : Work α} {s : State} (h : ends m s = true) : m s = .ok (valOf d m s) (endOf m s) := by
  unfold ends at h
  unfold valOf endOf
  split at h <;> simp_all

/-- A unit's program stops so. -/
def stopsWith {α : Type} (e : Stop) (m : Work α) (s : State) : Bool :=
  match m s with
  | .ok .. => false
  | .error x _ => decide (x = e)

theorem err_with {α : Type} {e : Stop} {m : Work α} {s : State} (h : stopsWith e m s = true) : m s = .error e (endOf m s) := by
  unfold stopsWith at h
  unfold endOf
  split at h <;> simp_all

def prg (w : W32) : Prog := { replay := false, entry := 0, ngrant := 1, check := 0#32, code := [w] }

/-- A job of one grain whose program is the word w. -/
def jw (w : W32) (stop : Option (Status × Nat) := none) (ilim : Nat := 0) : Job :=
  { id := 7, tenant := 0, cls := 0, half := .north, slot := 0, prog := prg w, grants := [{ base := 0x50000, len := 0x10000, rd := true, wr := true }],
    args := [], jc := List.replicate 16 0#64, ilim := ilim, wlim := 0, total := 1, stop := stop, needBanks := 0, started := true }

/-- Its grain, running, with x1 and x2. -/
def gw (x1 : W64 := 0#64) (x2 : W64 := 0#64) (pc : Nat := 0) (n : Nat := 0) : Grain :=
  { id := 3, job := 7, index := 0, half := .north, st := .running, saved := newCtx 0, icount := n,
    ctx := { newCtx pc with x := [0#64, x1, x2] ++ List.replicate 29 0#64 } }

def spw (j : Job) (g : Grain) : State := { live with ops := [dop 7#512], jobs := [j], grains := [g] }

/-- What the CRC instruction does for its grain. -/
def crcF (g : Grain) (j : Job) (w : W32) : Work (Option Grain) := do
  let b ← (if g.ctx.getX (sSrc2 w) = 0#64 then pure [] else g.load j (g.ctx.getX (sSrc1 w)) (g.ctx.getX (sSrc2 w)).toNat)
  pure (some { g with ctx := g.ctx.setX (sDst w) ((crc32c b).setWidth 64) })

/-- An address of scratch. -/
abbrev scr : W64 := 0x8000000000000000#64

/-- The first n entries of the North half's escape pool. -/
@[irreducible] def pool (n : Nat) : List Nat := List.range n

theorem pool_full (s : State) (n : Nat) (hn : n = 262144) (h : s.tier.escUsed = pool n) : s.escFull 0 = true := by
  have hp : (pool n).filter (fun e => decide (e / 262144 = 0)) = pool n := by
    unfold pool
    rw [List.filter_eq_self]
    intro a ha
    have := List.mem_range.1 ha
    simp only [decide_eq_true_eq]
    omega
  unfold State.escFull
  rw [h, hp, pool, List.length_range, hn]
  decide

theorem pickFree_some {l : List Nat} (s : State) (h : l ≠ []) : ∃ p, pickFree l s = some p := by
  unfold pickFree
  have hl : 0 < l.length := List.length_pos_iff.2 h
  rw [if_neg (by omega)]
  exact ⟨_, List.getElem?_eq_getElem (Nat.mod_lt _ hl)⟩

/-- No half has a place of more units than it has. -/
theorem no_place {s : State} {h : Half} {n : Nat} (hn : bulkUnitsPerHalf < n) : s.freeBulk h n = none := by
  have hf : ∀ l c, fits l c n = false := by
    intro l c
    simp only [fits, Bool.and_eq_false_imp, decide_eq_true_eq]
    intro hc
    omega
  simp [State.freeBulk, hf]

/-- The header of an image of 1,024 bytes with a section of each type and nothing in it (Table SEC-2). -/
def good : Mem :=
  [(0, 0x41#8), (1, 0x4D#8), (2, 0x46#8), (3, 0x31#8), (4, 0x10#8), (12, 7#8), (17, 4#8)] ++
    ((List.range 7).map (fun i => [(64 + 12 * i, BitVec.ofNat 8 (i + 1)), (69 + 12 * i, 4#8)])).flatten

/-- Its signature is a free value: an image passes where that verifies. -/
theorem good_passes {s : State} {n : Nat} (ht : Config.signatureOk 0 (imgSigned good) (mread 512 512 good) = true)
    (hl : imgLayoutOk good n = true) (hk : bit 0 s.fuse.kRevoke = false) (hm : s.fuse.minSvn = 0#6) : s.imageErr good n false = 0 := by
  have h5 : imgLe good 5 1 = 0 := by decide
  simp [State.imageErr, hl, h5, hk, hm, ht]

/-- Live with an established session at an endpoint. -/
def sess (e : Endpoint) : State := { live with sec := { sessions := [{ id := 1, ep := e, established := true }] } }

/-- An install of two records of the image in plot 5 from plot 6 on. -/
def imageOp : Op := dop (dsc [(0, 2), (58, 2), (16, 0x50000), (24, 0x50400), (32, 2), (48, 6)])

/-- Live, with a container image in plot 5, a record of one coded block after it, and plot 6 packed and unwritten. -/
def image6 : State := ({ live with
  ops := [imageOp]
  wtt := [(0, { cfgA := 0x871C1000#32, bankA := [(0, seg), (1, seg + 1#128)] })]
  tier := { plots := [(5, { st := .bulk, mode := .raw }), (6, { mode := .packed })], written := (List.range 64).map (fun i => 5120 + i),
            mem := [(0x50000, 0x10#8), (0x50404, 1#8), (0x50406, 1#8), (0x50408, 0x58#8), (0x50409, 0xB3#8), (0x5040A, 0xCE#8), (0x5040B, 0x43#8),
                    (0x50442, 1#8), (0x50540, 0x10#8), (0x50542, 0xFF#8), (0x50544, 1#8), (0x50545, 1#8)] } } : State).setStw Reg.TIR_QUOTA_B 1#32


/-- A bind of a program that ends. -/
theorem bind_ok {α β : Type} {m : Work α} {f : α → Work β} {s u : State} {a : α} (h : m s = .ok a u) : (m >>= f) s = f a u := by
  show EStateM.bind m f s = _
  simp [EStateM.bind, h]

/-- An installed record leaves the operations alone. -/
theorem ops_installRec (p b n : Nat) (f : Bool) (e : List W128) (a : List Byte) (s : State) : (s.installRec p b f n e a).ops = s.ops := by
  unfold State.installRec State.modPlot
  simp only []
  split <;> rfl

/-- The record that an install takes next is well formed, its tables are live, and a place for it is found. -/
theorem install_ok {o : Op} {img hdr map area : List Byte} {s a b c d e f g : State} {k : Nat} {e0 : Plot} {pool : Bool}
    (h1 : Work.need (s.mapSrc o.tenant (dUa o.desc 24 + o.recAt) 64) .permission s = .ok () a)
    (h2 : o.unit.bytes (dUa o.desc 24 + o.recAt) 64 a = .ok hdr b)
    (h3 : Work.need (b.mapSrc o.tenant (dUa o.desc 24 + o.recAt) (64 * (5 + leAt hdr 4 2)) &&
      b.mapDst o.tenant (65536 * (dF o.desc 48 8 + leAt hdr 0 4)) 65536) .permission b = .ok () c)
    (hx : b.plot (b.resolvePlot o.tenant (dF o.desc 48 8 + leAt hdr 0 4)) = some e0)
    (h4 : Work.need (e0.mode = .packed && e0.st = .unwritten && !b.inSwin (b.resolvePlot o.tenant (dF o.desc 48 8 + leAt hdr 0 4)))
      .permission c = .ok () d)
    (hs : b.split = false) (hr : b.bridge.retraining = false) (hv1 : b.viewOf (dF o.desc 48 8 + leAt hdr 0 4) = none)
    (hv2 : b.bufferOf (b.resolvePlot o.tenant (dF o.desc 48 8 + leAt hdr 0 4)) = none)
    (hv3 : b.viewHeld o.tenant (dF o.desc 48 8 + leAt hdr 0 4) = false)
    (h5 : o.unit.bytes (dUa o.desc 24 + o.recAt + 64) 256 d = .ok map e)
    (h6 : o.unit.bytes (dUa o.desc 24 + o.recAt + 320) (64 * leAt hdr 4 2) e = .ok area f)
    (h7 : (!kimgOk img || !recOk img hdr (recMap map) area) = false)
    (h8 : (crc32c (map ++ area)).toNat = leAt hdr 8 4)
    (h9 : (recCoded (recMap map) area).any (fun x => !f.tmapLive img x.2.2) = false)
    (hv : dF o.desc 58 1 / 4 ≠ 1)
    (hb : f.freeBulk (homeHalf (b.resolvePlot o.tenant (dF o.desc 48 8 + leAt hdr 0 4))) (ceilDiv (leAt hdr 4 2) 64) = some k)
    (hc : f.chargeBulk (((f.plot (b.resolvePlot o.tenant (dF o.desc 48 8 + leAt hdr 0 4))).getD {}).qtenant) (ceilDiv (leAt hdr 4 2) 64)
      = some pool)
    (hg : o.unit.charge (b.resolvePlot o.tenant (dF o.desc 48 8 + leAt hdr 0 4)) (leAt hdr 4 2 + 4) f = .ok () g) :
    ∃ v, installWork o img s = .ok (some .ok) v ∧ v.ops = g.ops.map (fun x => if x.id = o.id then { x with installed := x.installed + 1, recAt := x.recAt + 64 * (5 + leAt hdr 4 2) } else x) := by
  unfold installWork
  have hget : ∀ s : State, (get : Work State) s = .ok s s := fun _ => rfl
  have hn : ∀ s : State, Work.need true .poisonConsumed s = .ok () s := fun _ => rfl
  simp only []
  rw [bind_ok (hget s), bind_ok h1, bind_ok h2, bind_ok (hget b), bind_ok h3, hx, bind_ok h4]
  simp only [hs, hr, hv1, hv2, hv3, Bool.false_and, Bool.not_false, Bool.and_false, Bool.or_false, Bool.false_eq_true, if_false]
  rw [bind_ok (hn d)]
  rw [bind_ok h5, bind_ok h6, bind_ok (hget f)]
  rw [if_neg (by rw [h7]; decide), if_neg (by simp [h8]), if_neg (by rw [h9]; decide), if_neg hv, hb, hc]
  simp only []
  rw [bind_ok hg]
  refine ⟨_, rfl, ?_⟩
  simp [mapIf, State.modOp, ops_installRec, State.tickFree]

/-- The module after the install has read the image's header, the record's header, its map and its coded bytes. -/
def inst1 : State := endOf (imageOp.unit.bytes 0x50000 256) image6
def inst2 : State := endOf (imageOp.unit.bytes 0x50400 64) inst1
def inst3 : State := endOf (imageOp.unit.bytes 0x50440 256) inst2
def inst4 : State := endOf (imageOp.unit.bytes 0x50540 64) inst3
/-- And has been charged for what it writes. -/
def inst5 : State := endOf (imageOp.unit.charge 6 5) inst4
def img6 : List Byte := valOf [] (imageOp.unit.bytes 0x50000 256) image6
def hdr6 : List Byte := valOf [] (imageOp.unit.bytes 0x50400 64) inst1
def map6 : List Byte := valOf [] (imageOp.unit.bytes 0x50440 256) inst2
def area6 : List Byte := valOf [] (imageOp.unit.bytes 0x50540 64) inst3

/-- A half without any plot has a place. -/
theorem free6 {s : State} {h : Half} {n : Nat} (hs : s.bulkBusy h = []) (hn : n ≤ bulkUnitsPerHalf) : ∃ b, s.freeBulk h n = some b := by
  unfold State.freeBulk
  rw [hs]
  simp only []
  split
  · exact ⟨_, rfl⟩
  · simp [fits, hn]

/-- The install takes its first record of two. -/
theorem installs : ∃ v, installWork imageOp img6 inst1 = .ok (some .ok) v ∧ ∀ x, v.op imageOp.id = some x → x.installed ≠ dF imageOp.desc 32 4 := by
  have hl : leAt hdr6 4 2 = 1 := by decide +kernel
  have hp : inst2.resolvePlot imageOp.tenant (dF imageOp.desc 48 8 + leAt hdr6 0 4) = 6 := by decide +kernel
  obtain ⟨k, hk⟩ : ∃ k, inst4.freeBulk (homeHalf 6) (ceilDiv 1 64) = some k := free6 (by decide +kernel) (by decide +kernel)
  obtain ⟨v, h, ho⟩ := install_ok (o := imageOp) (img := img6) (hdr := hdr6) (map := map6) (area := area6) (s := inst1) (a := inst1) (b := inst2)
    (c := inst2) (d := inst2) (e := inst3) (f := inst4) (g := inst5) (k := k) (e0 := { mode := .packed }) (pool := false)
    (eq_of_sameEnd (by decide +kernel)) (eq_of_sameEnd (by decide +kernel)) (eq_of_sameEnd (by decide +kernel)) (by decide +kernel) (eq_of_sameEnd (by decide +kernel))
    (by decide +kernel) (by decide +kernel) (by decide +kernel) (by decide +kernel) (by decide +kernel)
    (eq_of_sameEnd (by decide +kernel)) (eq_of_sameEnd (by decide +kernel)) (by decide +kernel) (by decide +kernel) (by decide +kernel) (by decide +kernel)
    (by rw [hp, hl]; exact hk) (by decide +kernel) (eq_of_sameEnd (by decide +kernel))
  refine ⟨v, h, ?_⟩
  rw [State.op, ho, hl]
  have he : inst5.ops = [imageOp] := by decide +kernel
  rw [he]
  decide +kernel

theorem pool_none (s : State) (n : Nat) (hn : n = 262144) (h : s.tier.escUsed = pool n) : s.freeEscape 0 = none := by
  have hf : ∀ m, (List.range m).foldl (fun n i => if i = n then n + 1 else n) 0 = m := by
    intro m
    induction m with
    | zero => rfl
    | succ m ih => simp [List.range_succ, ih]
  simp only [State.freeEscape, h, pool, Nat.mul_zero, hf, Nat.zero_add, Nat.mul_one, hn, Nat.lt_irrefl, if_false]

/-- Bytes that are not a unit of 4,096 have no coded stream. -/
theorem no_codes {b : List Byte} (h : b.length ≠ 4096) : unitCodes b = false := by
  have hx : footStream 8 b = none := by
    unfold footStream
    simp only []
    rw [if_neg]
    simp only [Bool.and_eq_true, not_and_or]
    left
    right
    split
    · rename_i v hv
      unfold expandStream at hv
      simp only [] at hv
      split at hv
      · cases hv
      · split at hv
        · cases hv
        · split at hv
          · cases hv
          · split at hv
            · cases hv
            · injection hv with hv
              subst hv
              simp only [decide_eq_true_eq]
              intro hb
              rw [← hb] at h
              omega
    · simp
  simp [unitCodes, hx]

/-- A unit of zeros is a fixed block where the codec gives each of its planes as one constant (Table CMP-6, method 3). -/
theorem codes_zeros (h : Config.codeBlock 8 (List.replicate 4096 0#8) =
    ((List.range (planesOf 8 0).length).map (fun _ => [0#8, 0#8, 0#8, 0xC0#8])).flatten ++ List.replicate (64 - 4 * (planesOf 8 0).length) 0#8) :
    unitCodes (List.replicate 4096 0#8) = true := by
  unfold unitCodes footStream
  rw [h]
  decide +kernel

/-- Rank 0 is spilling: one byte of plot 5, in its first unit, and no escape entry of its half free. -/
def spilling : State := { zero with
  dmc := { ranks := [(0, { st := .spilling, phys := 0 })] }
  ras := { acts := [{ id := 0, code := 4, scope := [0], unit := 0, start := 0, granted := true }] }
  tier := { plots := [(5, { st := .bulk, mode := .raw, units := 16 })], escUsed := pool 262144, mem := [(0x50000, 1#8)], written := [5120] } }

theorem spilling_bytes : spilling.rankBytes 0 = [(0, 1#8)] := by decide +kernel

theorem parks (h : unitCodes (mread 0 4096 [(0, 1#8)]) = false) : ∃ v, spilling.spillUnits 0 (spilling.rankBytes 0) [0] = (some 0, v) := by
  rw [spilling_bytes]
  have hs : rankHalf 0 = 0 := by decide
  simp only [State.spillUnits, State.spillUnit, Nat.mul_zero, h, hs, pool_none spilling 262144 rfl rfl, Bool.false_eq_true, if_false]
  exact ⟨_, rfl⟩

/-! For each statement, states and operands that meet the hypotheses of its clauses, one for each clause. -/

theorem test_meets_StepRunsTheFrontCommand : ∃ (c : Instr) (r : List Instr) (s : State), s.pending = c :: r :=
  ⟨.railsGood, [.vinRestored], { zero with pending := [.railsGood, .vinRestored] }, rfl⟩

theorem test_meets_IdleStepCountsAMicrosecond : ∃ (s : State), s.pending = [] :=
  ⟨zero, by decide⟩

theorem test_meets_EveryStepKeepsCanonicalStores : ∃ (s t : State), Canonical s ∧ step s = .next t :=
  ⟨zero, _, ⟨rfl, rfl, rfl, rfl, rfl, rfl, by decide⟩, rfl⟩

theorem test_meets_NoCommandTakesFusesBack : ∃ (c : Instr) (s t : State) (i : _), exec c s = .next t ∧ s.fuse.kRevoke.getLsbD i = true :=
  ⟨.raiseMinsvn, { zero with fuse := { minSvn := 63#6, kRevoke := 8#4, uCount := 255 } }, _, 3, rfl, by decide⟩

theorem test_meets_ExecLeavesQueueAndSentMessages : ∃ (c : Instr) (s t : State), exec c s = .next t :=
  ⟨.vinRestored, zero, _, rfl⟩

theorem test_meets_EveryWellFormedCommandIsExecuted : ∃ (c : Instr) (s : State), c.wf = true :=
  ⟨.channelLost 263, zero, by decide⟩

theorem test_meets_HomeHalfIsTheParityOfThePlotNumber : ∃ (ua : Nat), ua < 2 ^ 52 :=
  ⟨2 ^ 52 - 1, by decide⟩

theorem test_meets_UnexpectedCompletionsAreDiscardedAndCounted :
    (∃ (g n : Nat) (b : List Byte) (poison : Bool) (x : Cpl) (s : State) (c : _), c ∈ [Instr.farReadCompletion g b poison, .farDmaErrorCompletion g, .descriptorFetchCompletion g x] ∧ s.tagOf g = none ∧ s.lateTag g = some n) ∧
    (∃ (u : Tenant) (g : Nat) (s : State), s.tags.any (fun x => x.tag = g && x.tenant = u.toNat) = false) ∧
    (∃ (n : Nat) (s : State) (m : _), m ≠ n) ∧
    (∃ (n : Nat) (s : State) (m : _) (off : _), 65536 * m + off ≠ 65536 * n + Reg.PRT_CPL) :=
  ⟨⟨7, 255, [], true, .poison, { zero with quarantine := [{ tag := 7, tenant := 255, use := .fetch 0 0 1 }] }, .descriptorFetchCompletion 7 .poison, by decide⟩,
   ⟨255, 1023, zero, by decide⟩,
   ⟨255, zero, 0, by decide⟩,
   ⟨0, zero, 0, 65535, by decide⟩⟩

theorem test_meets_LateTierReadsEndOnce :
    (∃ (i : Nat) (r : TierRead) (s : State), s.dmc.reads.find? (fun x => x.id = i) = some r ∧ r.timedOut = false) ∧
    (∃ (i : Nat) (md : Media) (r : TierRead) (s : State), s.dmc.reads.find? (fun x => x.id = i) = some r ∧ r.timedOut = true) ∧
    (∃ (i : Nat) (s : State), (s.dmc.reads.find? (fun x => x.id = i) = none ∨ (∃ r, s.dmc.reads.find? (fun x => x.id = i) = some r ∧ r.timedOut = false))) :=
  ⟨⟨3, { id := 3, src := .host rq, chan := 263, timedOut := false }, { zero with dmc := { reads := [{ id := 3, src := .host rq, chan := 263, timedOut := false }] } }, by decide⟩,
   ⟨3, .clean, { id := 3, src := .host rq, chan := 263, timedOut := true }, { zero with dmc := { reads := [{ id := 3, src := .host rq, chan := 263, timedOut := true }] } }, by decide⟩,
   ⟨3, zero, by decide⟩⟩

theorem test_meets_ScaleBytesArePowersOfTwo :
    (∃ (code w e m : Nat) (n : Bool) (x : Int), e ≤ 0xFE ∧ decElem code true w = .fin n m x) ∧
    (∃ (code w e : Nat), e ≤ 0xFE ∧ (decElem code true w).isFin = false) :=
  ⟨⟨0, 0x3F800000, 0xFE, 2 ^ 23, false, -23, by decide⟩,
   ⟨0, 0x7F800000, 0, by decide⟩⟩

theorem test_meets_SpdmIsServedByTheStewardOnly :
    (∃ (e : Endpoint) (c : Instr) (n : Nat) (sl : BitVec 4) (i k : Byte) (x y : W256) (b q : Bool) (l : List Byte) (p : PortId) (s : State), (c ∈ [Instr.getVersion e, .getCapabilities e, .negotiateAlgorithms e, .getDigests e, .getCertificate e sl, .challenge e x, .getMeasurements e i b, .keyExchange e, .finish e n, .endSession e n, .heartbeat e n, .keyUpdate e n, .debugUnlock e n l, .spdmLoad e n k q x y, .spdmKeygen e n k q, .spdmZeroise e n k q, .spdmZeroiseAll e n q] ∨ (e = s.ideEp p ∧ c ∈ [Instr.keyProg p n b, .kSetGo p n b, .kSetStop p n b])) ∧ s.reachable e = true ∧ (∀ p, e ≠ .mailbox p) ∧ (s.reachesSteward e = false ∨ s.conflict = true)) ∧
    (∃ (e : Endpoint) (s : State), s.spdmServed e = true) ∧
    (∃ (e : Endpoint) (g h : Half) (s : State), epHalf e = some g ∧ s.stewardHalf = some h) ∧
    (∃ (e : Endpoint) (s : State), s.stewardHalf = none) :=
  ⟨⟨.doe 0#8, .getVersion (.doe 0#8), 0, 0#4, 0#8, 0#8, 0#256, 0#256, false, false, [], 0#4, { live with bridge := { live.bridge with conflict := true } }, by decide⟩,
   ⟨.vdm 0#4, live, by decide⟩,
   ⟨.doe 255#8, .south, .north, live, by decide⟩,
   ⟨.i3c, { zero with north := {}, south := {} }, by decide⟩⟩

theorem test_meets_LongDeferralsAreLoggedOnce :
    (∃ (a : Activity) (s : State), s.ras.acts.find? (fun x => x.id = a.id) = some a ∧ a.granted = false ∧ a.won = false ∧ a.longLogged = false ∧ s.stwF Reg.RAS_MACFG 15 0 ≠ 0) ∧
    (∃ (a : Activity) (s : State), s.ras.acts.find? (fun x => x.id = a.id) = some a ∧ a.longLogged = true) ∧
    (∃ (a : Activity) (s : State), s.ras.acts.find? (fun x => x.id = a.id) = some a ∧ s.stwF Reg.RAS_MACFG 15 0 = 0) ∧
    (∃ (ch : Nat) (r : BitVec 2) (s : State), ch < 264 ∧ r ≠ 3#2 ∧ (s.chan ch).refRate.toNat < r.toNat) :=
  ⟨⟨{ id := 0, code := 1, scope := [263], unit := 135, start := 0, granted := false, longLogged := false }, { zero with ras := { acts := [{ id := 0, code := 1, scope := [263], unit := 135, start := 0, granted := false, longLogged := false }] } }, by decide⟩,
   ⟨{ id := 0, code := 1, scope := [263], unit := 135, start := 0, granted := false, longLogged := true }, { zero with ras := { acts := [{ id := 0, code := 1, scope := [263], unit := 135, start := 0, granted := false, longLogged := true }] } }, by decide⟩,
   ⟨{ id := 0, code := 1, scope := [263], unit := 135, start := 0, granted := false, longLogged := false }, ({ zero with ras := { acts := [{ id := 0, code := 1, scope := [263], unit := 135, start := 0, granted := false, longLogged := false }] } } : State).setStw Reg.RAS_MACFG 0#32, by decide⟩,
   ⟨263, 2#2, zero, by decide⟩⟩

theorem test_meets_EachCommandChangesOnlyItsParts : ∃ (c : Instr) (s t : State) (p : _), exec c s = .next t ∧ p ∉ mayChange c :=
  ⟨.vinRestored, zero, _, .fuse, rfl, by decide⟩

theorem test_meets_RegisterWritesActByAccessType :
    (∃ (t : Tenant) (off : BitVec 24) (v : W32) (u : W64) (s : State), s.draining t.toNat = true ∧ off.toNat ≠ Reg.DSC_DB) ∧
    (∃ (t : Tenant) (off : BitVec 24) (v : W32) (u : W64) (s : State), s.draining t.toNat = true ∧ off.toNat = Reg.DSC_DB) ∧
    (∃ (t : Tenant) (off : BitVec 24) (u : W64) (s : State), s.draining t.toNat = true ∧ s.inRecovery t.toNat = false) ∧
    (∃ (off : BitVec 24) (v : W32) (u : W64) (r : RegRow) (s : State), s.romServes = false ∧ stwRow off.toNat = some r ∧ off.toNat ≠ Reg.PRT_BOND ∧ s.stwOwn off.toNat v = none) ∧
    (∃ (t : Tenant) (off : BitVec 24) (v : W32) (u : W64) (r : RegRow) (s : State), s.draining t.toNat = false ∧ s.inRecovery t.toNat = false ∧ 0x3008 ≤ off.toNat ∧ off.toNat < 0xC000 ∧ barRow off.toNat = some r ∧ off.toNat ≠ Reg.ALM_MARK ∧ off.toNat ≠ Reg.HGT_UIB ∧ off.toNat ≠ Reg.FMT_CTL) ∧
    (∃ (t : Tenant) (off : BitVec 24) (v : W32) (u : W64) (s : State), s.draining t.toNat = false ∧ s.inRecovery t.toNat = false ∧ inMsixTable off.toNat = false ∧ inMsixPba off.toNat = false ∧ inComponent off.toNat = false ∧ barRow off.toNat = none) ∧
    (∃ (off : BitVec 24) (v : W32) (u : W64) (r : RegRow) (s z : State), s.romServes = false ∧ off.toNat ≠ Reg.PRT_BOND ∧ stwRow off.toNat = some r ∧ s.stwOwn off.toNat v = some z) ∧
    (∃ (off : BitVec 24) (v : W32) (u : W64) (s : State), s.romServes = false ∧ off.toNat ≠ Reg.PRT_BOND ∧ stwRow off.toNat = none) ∧
    (∃ (t : Tenant) (off : BitVec 24) (v : W32) (u : W64) (s : State), mailboxRw off.toNat = false) ∧
    (∃ (t : Tenant) (off : BitVec 24) (v : W32) (u : W64) (s : State), mailboxRw off.toNat = true) ∧
    (∃ (sp : RegSpace) (off : BitVec 24) (v w : W32) (u : W64) (s t : State), off.toNat + 4 < 2 ^ 24 ∧ exec (.registerWrite sp off v ⟨none, u⟩) s = .next t) :=
  ⟨⟨255, 0xFFFFFC, 0, 0, { live with lds := [(255, { enumerated := true, flr := true })] }, by decide⟩,
   ⟨255, 0x2400, 0, 0, { live with lds := [(255, { enumerated := true, flr := true })] }, by decide⟩,
   ⟨255, 0, 0, { live with lds := [(255, { enumerated := true, flr := true })] }, by decide⟩,
   ⟨0xC00EC, 0, 0, (stwRow 0xC00EC).getD ⟨0, 0, 0, 0, 0, 0, 0, 0⟩, live, by decide⟩,
   ⟨0, 0x3008, 0, 0, (barRow 0x3008).getD ⟨0, 0, 0, 0, 0, 0, 0, 0⟩, live, by decide⟩,
   ⟨0, 0xBFFC, 0, 0, live, by decide⟩,
   ⟨0x10000, 0, 0, (stwRow 0x10000).getD ⟨0, 0, 0, 0, 0, 0, 0, 0⟩, live, _, by decide, by decide, by decide, rfl⟩,
   ⟨0xFFFFFC, 0, 0, live, by decide⟩,
   ⟨255, 0xFFFFFF, 0, 0, zero, by decide⟩,
   ⟨255, 0x91C, 0, 0, zero, by decide⟩,
   ⟨.steward, 0xFFFFFB, 0, 0, 0, zero, _, by decide, rfl⟩⟩

theorem test_meets_RegisterReadsAndManagementAccesses :
    (∃ (off : BitVec 24) (u : W64) (r : RegRow) (s : State), s.romServes = false ∧ stwRow off.toNat = some r ∧ off.toNat ≠ Reg.CMP_TERR0 ∧ off.toNat ≠ Reg.CMP_TERR1) ∧
    (∃ (off : Nat), (barRow off).isSome = true ∨ (stwRow off).isSome = true) ∧
    (∃ (t : Tenant) (off : W16) (n : Nat) (s : State), accessGood off.toNat n = false ∧ s.inRecovery t.toNat = false ∧ s.draining t.toNat = false) ∧
    (∃ (t : Tenant) (off : W16) (n : Nat) (s : State), accessGood off.toNat n = true) ∧
    (∃ (t : Tenant) (off : W16) (n : Nat) (s : State), accessGood off.toNat n = false ∧ (s.inRecovery t.toNat = true ∨ s.draining t.toNat = true)) ∧
    (∃ (t : Tenant) (off : W16) (n : Nat) (s : State), accessGood off.toNat n = false ∧ s.inRecovery t.toNat = true) ∧
    (∃ (sp : RegSpace) (off : BitVec 24) (u : W64) (a b : W32 × State) (s : State), s.readReg sp off.toNat (u.setWidth 32) = a ∧ a.2.readReg sp (off.toNat + 4) ((u >>> 32).setWidth 32) = b) ∧
    (∃ (e : Endpoint) (q : Option Nat) (off : BitVec 24) (w : Bool) (n : Nat) (d : List W32) (s : State), s.stwServed e = true ∧ (∀ t, e ≠ .doe t) ∧ s.accessStatus e q w (accessOffs off.toNat n) = .ok ∧ off.toNat % 4 ≠ 0) ∧
    (∃ (e : Endpoint) (q : Option Nat) (off : Nat) (v : W32) (s : State), 0x1000000 ≤ off) ∧
    (∃ (e : Endpoint) (q : Option Nat) (off : BitVec 24) (n : Nat) (d : List W32) (s : State), s.stwServed e = true ∧ (∀ t, e ≠ .doe t) ∧ off.toNat % 4 = 0 ∧ s.accessStatus e q false (accessOffs off.toNat n) = .ok) ∧
    (∃ (e : Endpoint) (q : Option Nat) (off : BitVec 24) (n : Nat) (d : List W32) (s : State), s.stwServed e = true ∧ (∀ t, e ≠ .doe t) ∧ off.toNat % 4 = 0 ∧ s.accessStatus e q true (accessOffs off.toNat n) = .ok) ∧
    (∃ (off : Nat) (v : W32) (e : Endpoint) (q : Option Nat) (s : State), off < 0x1000000 ∧ (off ≠ Reg.SEC_MGMT ∨ bit 31 v = false)) ∧
    (∃ (e : Endpoint) (q : Option Nat) (off : BitVec 24) (w : Bool) (n : Nat) (d : List W32) (s : State), s.stwServed e = false) ∧
    (∃ (e : Endpoint) (q : Option Nat) (off : BitVec 24) (w : Bool) (n : Nat) (d : List W32) (s : State) (t : _), e = .doe t ∧ s.stwServed e = true) ∧
    (∃ (e : Endpoint) (q : Option Nat) (off : BitVec 24) (w : Bool) (n : Nat) (d : List W32) (s : State), s.stwServed e = true ∧ (∀ t, e ≠ .doe t) ∧ s.accessStatus e q w (accessOffs off.toNat n) ≠ .ok) ∧
    (∃ (e : Endpoint) (q : Option Nat) (w : Bool) (l : List Nat) (s : State), s.sec.bound.isSome = true ∧ s.inBound e q = false) ∧
    (∃ (e : Endpoint) (q : Option Nat) (w : Bool) (l : List Nat) (s : State), (s.sec.bound = none ∨ s.inBound e q = true) ∧ w = true ∧ (s.conflict = true ∨ s.stewardHalf = none)) ∧
    (∃ (e : Endpoint) (p : Nat) (ld : BitVec 4) (off : BitVec 24) (v : W32) (s : State), s.mgmtServed e = true ∧ s.epHead e = some p ∧ (s.headLds p).contains (ldOf p ld) = true ∧ off.toNat < 0x10000 ∧ off.toNat % 4 = 0) ∧
    (∃ (e : Endpoint) (p : Nat) (ld : BitVec 4) (off : BitVec 24) (v : W32) (s : State) (w : Bool) (u : State), s.mgmtServed e = true ∧ s.epHead e = some p ∧ (s.headLds p).contains (ldOf p ld) = true ∧ off.toNat < 0x10000 ∧ off.toNat % 4 ≠ 0 ∧ exec (.bar0BadAccess (BitVec.ofNat 8 (ldOf p ld)) (BitVec.ofNat 16 off.toNat) 4 w) s = .next u) ∧
    (∃ (e : Endpoint) (p : Nat) (ld : BitVec 4) (off : BitVec 24) (v : W32) (s : State), s.mgmtServed e = true ∧ s.epHead e = some p ∧ ((s.headLds p).contains (ldOf p ld) = false ∨ 0x10000 ≤ off.toNat)) ∧
    (∃ (e : Endpoint) (ld : BitVec 4) (w : Bool) (off : BitVec 24) (v : W32) (s : State), s.mgmtServed e = false) :=
  ⟨⟨0xC00EC, 0, (stwRow 0xC00EC).getD ⟨0, 0, 0, 0, 0, 0, 0, 0⟩, live, by decide⟩,
   ⟨0x18, by decide⟩,
   ⟨0, 0xFFFE, 8, live, by decide⟩,
   ⟨255, 0xFFF8, 8, zero, by decide⟩,
   ⟨255, 0xFFFC, 8, { live with lds := [(255, { enumerated := true, flr := true })] }, by decide⟩,
   ⟨255, 2, 4, { zero with south := { stage := .recovery } }, by decide⟩,
   ⟨.steward, 0xFFFFF8, 0, _, _, live, rfl, rfl⟩,
   ⟨.vdm 0, none, 0xFFFFFF, true, 16, [], live, by decide, (fun t h => by cases h), by decide, by decide⟩,
   ⟨.i3c, none, 0x1000000, 0, zero, by decide⟩,
   ⟨.vdm 0, none, 0xFFFFFC, 1, [], live, by decide, (fun t h => by cases h), by decide, by decide⟩,
   ⟨.vdm 0, none, 0, 16, [], live, by decide, (fun t h => by cases h), by decide, by decide⟩,
   ⟨0xFFFFFF, 0, .i3c, none, zero, by decide⟩,
   ⟨.i3c, none, 0, true, 0, [], zero, by decide⟩,
   ⟨.doe 0, none, 0, true, 0, [], live, 0, by decide⟩,
   ⟨.vdm 0, none, 0, true, 0, [], { live with bridge := { live.bridge with conflict := true } }, by decide, (fun t h => by cases h), by decide⟩,
   ⟨.i3c, none, true, [], { live with sec := { live.sec with bound := some (.vdm 0) } }, by decide⟩,
   ⟨.i3c, none, true, [], { live with bridge := { live.bridge with conflict := true } }, by decide⟩,
   ⟨.vdm 0, 0, 0, 0xFFFC, 0, live, by decide⟩,
   ⟨.vdm 0, 0, 0, 0xFFFF, 0, live, true, _, by decide, by decide, by decide, by decide, by decide, rfl⟩,
   ⟨.vdm 0, 0, 15, 0x10000, 0, live, by decide⟩,
   ⟨.doe 255, 15, true, 0, 0, zero, by decide⟩⟩

theorem test_meets_ResetsPowerAndBringUp :
    (∃ (c : Instr) (s : State), c = .moduleReset true ∨ c = .moduleReset false ∨ c = .vinOutOfRange ∨ c = .railOutOfLimits ∨ c = .thermalTrip) ∧
    (∃ (s : State), s.pins.vinOk = true) ∧
    (∃ (s : State), s.pins.vinOk = false) ∧
    (∃ (s : State), s.pins.trip = true) ∧
    (∃ (s : State), s.pins.trip = false) ∧
    (∃ (b : Bool) (s : State), s.pins.vinOk = true ∧ s.pins.railsGood = true ∧ s.pins.trip = false ∧ s.north.stage = .reset ∧ s.south.stage = .reset) ∧
    (∃ (b : Bool) (s : State), s.pins.vinOk = false ∨ s.pins.railsGood = false ∨ s.pins.trip = true ∨ s.north.stage ≠ .reset ∨ s.south.stage ≠ .reset) ∧
    (∃ (h : Half) (s : State) (d : _), ((s.half h).stage = .verify ∨ ((s.half h).stage = .rom ∧ s.imageErr s.flash.img 62914560 s.flash.mixed = 0)) ∧ d = (if (s.half h).stage = .rom then some (imgDigest s.flash.img) else (s.half h).passed) ∧ s.bridge.up = true ∧ d.isSome = true ∧ d = (s.half (halfOther h)).passed) ∧
    (∃ (h : Half) (s : State) (d : _), ((s.half h).stage = .verify ∨ ((s.half h).stage = .rom ∧ s.imageErr s.flash.img 62914560 s.flash.mixed = 0)) ∧ d = (if (s.half h).stage = .rom then some (imgDigest s.flash.img) else (s.half h).passed) ∧ (s.bridge.up = false ∨ d = none ∨ d ≠ (s.half (halfOther h)).passed)) ∧
    (∃ (h : Half) (s : State) (d : _), ((s.half h).stage = .verify ∨ ((s.half h).stage = .rom ∧ s.imageErr s.flash.img 62914560 s.flash.mixed = 0)) ∧ d = (if (s.half h).stage = .rom then some (imgDigest s.flash.img) else (s.half h).passed) ∧ s.bridge.up = false) ∧
    (∃ (h : Half) (s : State), (s.half h).stage ≠ .rom ∧ (s.half h).stage ≠ .verify) ∧
    (∃ (h : Half) (s : State), (s.half h).stage ≠ .recovery) ∧
    (∃ (h : Half) (c : Instr) (s : State), (((s.half h).stage = .rom ∧ (c = .verifySync h ∨ c = .verifyWaitTimeout h)) ∨ ((s.half h).stage = .recovery ∧ c = .recoveryRetry h)) ∧ s.imageErr s.flash.img 62914560 s.flash.mixed ≠ 0) ∧
    (Config.signatureOk 0 (imgSigned good) (mread 512 512 good) = true → ∃ (h : Half) (s : State), (s.half h).stage = .recovery ∧ s.imageErr s.flash.img 62914560 s.flash.mixed = 0) ∧
    (∃ (h : Half) (s : State), (s.half h).stage = .dramInit ∨ (s.half h).stage = .fill) ∧
    (∃ (h : Half) (s : State), (s.half h).stage ≠ .dramInit ∧ (s.half h).stage ≠ .fill) ∧
    (∃ (h : Half) (f : Fn) (s : State), s.fnMayStart h f = true) ∧
    (∃ (h : Half) (f : Fn) (s : State), s.fnMayStart h f = false) :=
  ⟨⟨.thermalTrip, zero, by decide⟩,
   ⟨zero, by decide⟩,
   ⟨{ zero with pins := { zero.pins with vinOk := false } }, by decide⟩,
   ⟨{ zero with pins := { zero.pins with trip := true } }, by decide⟩,
   ⟨zero, by decide⟩,
   ⟨true, zero, by decide⟩,
   ⟨true, { zero with pins := { zero.pins with trip := true } }, by decide⟩,
   ⟨.south, { zero with north := { stage := .verify, passed := some 1#512 }, south := { stage := .verify, passed := some 1#512 } }, _, by decide, rfl, by decide, by decide, by decide⟩,
   ⟨.south, { zero with south := { stage := .verify } }, _, by decide, rfl, by decide⟩,
   ⟨.south, { zero with south := { stage := .verify }, bridge := { zero.bridge with up := false } }, _, by decide, rfl, by decide⟩,
   ⟨.south, zero, by decide⟩,
   ⟨.south, zero, by decide⟩,
   ⟨.south, .recoveryRetry .south, { zero with south := { stage := .recovery }, flash := { mixed := true } }, by decide⟩,
   fun ht => ⟨.south, { zero with south := { stage := .recovery }, flash := { img := good } }, by decide, good_passes ht (by decide +kernel) (by decide) (by decide)⟩,
   ⟨.north, { zero with north := { stage := .fill } }, by decide⟩,
   ⟨.south, zero, by decide⟩,
   ⟨.north, .mem, { zero with north := { stage := .firmware } }, by decide⟩,
   ⟨.south, .shr, { zero with south := { stage := .firmware } }, by decide⟩⟩

theorem test_meets_PortsFollowTheirStates :
    (∃ (p : PortId) (s : State), s.portUnused p.toNat = false ∧ (s.port p.toNat).st = .train) ∧
    (∃ (p : PortId) (s : State), s.portUnused p.toNat = false ∧ (s.port p.toNat).st = .up) ∧
    (∃ (p : PortId) (s : State), s.portUnused p.toNat = true ∨ (s.port p.toNat).st = .reset ∨ (s.port p.toNat).st = .drain) ∧
    (∃ (p : PortId) (b : Bool) (s : State), s.portUnused p.toNat = false ∧ (s.port p.toNat).st = .reset ∧ s.phyReady p.toNat = true) ∧
    (∃ (p : PortId) (b : Bool) (s : State), s.portUnused p.toNat = true ∨ (s.port p.toNat).st ≠ .reset ∨ s.phyReady p.toNat = false) ∧
    (∃ (p : PortId) (w r : BitVec 3) (mld : Bool) (s : State), s.portUnused p.toNat = false ∧ (s.port p.toNat).st = .train ∧ (s.port p.toNat).backoff = false) ∧
    (∃ (p : PortId) (s : State), (s.port p.toNat).st = .train ∧ (s.port p.toNat).backoff = false) ∧
    (∃ (p : PortId) (s : State), (s.port p.toNat).st = .train ∧ (s.port p.toNat).backoff = true) ∧
    (∃ (p : PortId) (w r : BitVec 3) (mld : Bool) (s : State), (s.port p.toNat).st ≠ .train) ∧
    (∃ (p : PortId) (w r : BitVec 3) (mld : Bool) (s : State), s.portUnused p.toNat = true ∨ (s.port p.toNat).backoff = true) ∧
    (∃ (p : PortId) (w r : BitVec 3) (mld : Bool) (s : State), (s.port p.toNat).backoff = true) ∧
    (∃ (p : PortId) (w r : BitVec 3) (mld : Bool) (s : State), (s.port p.toNat).backoff = false) ∧
    (∃ (p : PortId) (w r : BitVec 3) (mld : Bool) (s : State), (s.port p.toNat).st ≠ .up) ∧
    (∃ (p : PortId) (w r : BitVec 3) (mld : Bool) (s : State), (s.port p.toNat).st ≠ .drain) :=
  ⟨⟨15, { live with ports := [(15, { st := .train })] }, by decide⟩,
   ⟨15, { live with ports := [(15, { st := .up })] }, by decide⟩,
   ⟨15, { zero with ports := [(14, { bonded := true })] }, by decide⟩,
   ⟨15, true, live, by decide⟩,
   ⟨15, true, zero, by decide⟩,
   ⟨15, 7, 7, true, { live with ports := [(15, { st := .train })] }, by decide⟩,
   ⟨15, { live with ports := [(15, { st := .train })] }, by decide⟩,
   ⟨15, { live with ports := [(15, { st := .train, backoff := true })] }, by decide⟩,
   ⟨0, 0, 0, true, live, by decide⟩,
   ⟨15, 0, 0, true, { zero with ports := [(15, { backoff := true })] }, by decide⟩,
   ⟨15, 0, 0, true, { zero with ports := [(15, { backoff := true })] }, by decide⟩,
   ⟨0, 0, 0, true, zero, by decide⟩,
   ⟨15, 0, 0, true, zero, by decide⟩,
   ⟨0, 0, 0, true, zero, by decide⟩⟩

theorem test_meets_HeadResetsDrainTheirDevices :
    (∃ (p : PortId) (c : Instr) (s : State), (c = .linkDown p ∨ c = .hotReset p) ∧ (s.port p.toNat).st = .up) ∧
    (∃ (p : PortId) (s : State), (s.port p.toNat).st = .drain ∧ (∀ t ∈ s.headTenants p.toNat, (s.ld t).portDrain = true → (s.ld t).flr = false ∧ s.stillRuns t = false)) ∧
    (∃ (p : PortId) (u : Nat) (s : State), u ∈ s.headTenants p.toNat ∧ (s.ld u).portDrain = true ∧ ((s.ld u).flr = true ∨ s.stillRuns u = true)) ∧
    (∃ (u : Tenant) (s : State), (s.ld u.toNat).enumerated = true ∧ s.draining u.toNat = false ∧ (∀ o ∈ s.ops, o.tenant ≠ u.toNat)) ∧
    (∃ (u : Tenant) (s : State), (s.ld u.toNat).enumerated = false ∨ s.draining u.toNat = true) ∧
    (∃ (u : Tenant) (s : State), (s.ld u.toNat).flr = false) ∧
    (∃ (u : Tenant) (s : State), (s.ld u.toNat).flr = true ∧ s.stillRuns u.toNat = true) ∧
    (∃ (u : Tenant) (s : State), (s.ld u.toNat).flr = true ∧ s.stillRuns u.toNat = false) :=
  ⟨⟨15, .hotReset 15, { live with ports := [(15, { st := .up })] }, by decide⟩,
   ⟨15, { live with ports := [(15, { st := .drain })], lds := [(240, { portDrain := true })] }, by decide⟩,
   ⟨15, 240, { live with ports := [(15, { st := .drain })], lds := [(240, { portDrain := true, flr := true })] }, by decide⟩,
   ⟨0, live, by decide⟩,
   ⟨255, zero, by decide⟩,
   ⟨0, zero, by decide⟩,
   ⟨255, { zero with lds := [(255, { flr := true })], fes := [(15, { grains := [{ grn with tenant := 255 }], tile := some { grain := 3, kEnd := 0, acc := [], fail := none } })] }, by decide⟩,
   ⟨255, { zero with lds := [(255, { flr := true })] }, by decide⟩⟩

theorem test_meets_ConfigurationOfALogicalDevice :
    (∃ (u : Tenant) (v : W32) (r : CfgReg) (s : State), (s.ld u.toNat).enumerated = true ∧ s.portUp (tenantPort u.toNat) = true ∧ s.cfgServed u.toNat = true) ∧
    (∃ (u : Tenant) (w : Bool) (v : W32) (r : CfgReg) (s : State), (s.ld u.toNat).enumerated = true ∧ s.portUp (tenantPort u.toNat) = true ∧ s.cfgServed u.toNat = false) ∧
    (∃ (u : Tenant) (v : W32) (s : State), (s.ld u.toNat).enumerated = true ∧ s.portUp (tenantPort u.toNat) = true ∧ s.cfgServed u.toNat = true ∧ bit 2 v = false) ∧
    (∃ (u : Nat) (v : W32) (s : State), bit 15 v = true) ∧
    (∃ (u : Nat) (v : W32) (s : State), bit 15 v = false) ∧
    (∃ (u : Nat) (v : W32) (s : State), bit 2 v = true) ∧
    (∃ (u : Tenant) (w : Bool) (v : W32) (r : CfgReg) (s : State), (s.ld u.toNat).enumerated = false ∨ s.portUp (tenantPort u.toNat) = false) ∧
    (∃ (u : Tenant) (v : BitVec 4) (s : State), (s.ld u.toNat).enumerated = false ∨ s.cfgServed u.toNat = false) ∧
    (∃ (u : Tenant) (base size skip : W64) (ways gran : Nat) (lock : Bool) (s : State), (s.ld u.toNat).enumerated = false) ∧
    (∃ (u : Tenant) (v : BitVec 4) (s : State), (s.ld u.toNat).enumerated = true ∧ s.cfgServed u.toNat = true) ∧
    (∃ (u : Tenant) (base size skip : W64) (ways gran : Nat) (lock : Bool) (s : State), (s.ld u.toNat).enumerated = true ∧ ((s.ld u.toNat).hdm.committed && (s.ld u.toNat).hdm.lock) = true) ∧
    (∃ (u : Tenant) (base size skip : W64) (ways gran : Nat) (lock : Bool) (s : State), (s.ld u.toNat).enumerated = true ∧ ((s.ld u.toNat).hdm.committed && (s.ld u.toNat).hdm.lock) = false) ∧
    (∃ (u : Tenant) (s : State), (s.ld u.toNat).enumerated = true ∧ s.cfgServed u.toNat = true) :=
  ⟨⟨0, 0, .command, live, by decide⟩,
   ⟨0, true, 0, .ident, { live with north := { live.north with stage := .fill } }, by decide⟩,
   ⟨0, 0, live, by decide⟩,
   ⟨0, 0x8000, zero, by decide⟩,
   ⟨0, 0xFFFF7FFF, zero, by decide⟩,
   ⟨0, 4, zero, by decide⟩,
   ⟨255, true, 0, .ident, zero, by decide⟩,
   ⟨255, 0, zero, by decide⟩,
   ⟨255, 0, 0, 0, 0, 0, true, zero, by decide⟩,
   ⟨0, 15, live, by decide⟩,
   ⟨255, 0, 0, 0, 0, 0, true, { zero with lds := [(255, { enumerated := true, hdm := { committed := true, lock := true } })] }, by decide⟩,
   ⟨255, 0, 2 ^ 40, 0, 1, 256, true, { zero with lds := [(255, { enumerated := true })] }, by decide⟩,
   ⟨0, live, by decide⟩⟩

theorem test_meets_HostRequestsReachTheirTier :
    (∃ (p : PortId) (ld : BitVec 4) (hpa : W64) (mv : Meta) (md : Media) (a : Nat) (x : Xl) (e : WEnt) (s : State), Passes s p ld hpa false a x e) ∧
    (∃ (p : PortId) (ld : BitVec 4) (hpa : W64) (mv : Meta) (d : Line) (be : W64) (poison : Bool) (a : Nat) (x : Xl) (e : WEnt) (s : State), Passes s p ld hpa true a x e) ∧
    (∃ (p : PortId) (ld : BitVec 4) (hpa : W64) (mv : Meta) (a : Nat) (x : Xl) (e : WEnt) (s : State), Passes s p ld hpa false a x e) ∧
    (∃ (p : PortId) (ld : BitVec 4) (hpa : W64) (mv : Meta) (md : Media) (d : Line) (be : W64) (poison : Bool) (op : ReqOp) (c : Instr) (t : Nat) (s u : State), t = 16 * p.toNat + ld.toNat ∧ u = { s with nextReq := s.nextReq + 1 } ∧ (op, c) ∈ [(ReqOp.rd, Instr.hostMemRead p ld hpa mv md), (.wr, .hostMemWrite p ld hpa mv d be poison), (.inv, .hostMemInv p ld hpa mv)] ∧ (s.portUp p.toNat = false ∨ (s.ld t).enumerated = false)) ∧
    (∃ (p : PortId) (ld : BitVec 4) (hpa : W64) (mv : Meta) (md : Media) (d : Line) (be : W64) (poison : Bool) (op : ReqOp) (c : Instr) (t : Nat) (s u : State), t = 16 * p.toNat + ld.toNat ∧ u = { s with nextReq := s.nextReq + 1 } ∧ (op, c) ∈ [(ReqOp.rd, Instr.hostMemRead p ld hpa mv md), (.wr, .hostMemWrite p ld hpa mv d be poison), (.inv, .hostMemInv p ld hpa mv)] ∧ s.portUp p.toNat = true ∧ (s.ld t).enumerated = true ∧ bit 0 (s.stw (Reg.SEC_PORT + 4 * s.headPort p.toNat)) = true ∧ (s.port (s.headPort p.toNat)).ideSecure = false) ∧
    (∃ (p : PortId) (ld : BitVec 4) (hpa : W64) (mv : Meta) (md : Media) (d : Line) (be : W64) (poison : Bool) (op : ReqOp) (c : Instr) (t : Nat) (s u : State), t = 16 * p.toNat + ld.toNat ∧ u = { s with nextReq := s.nextReq + 1 } ∧ (op, c) ∈ [(ReqOp.rd, Instr.hostMemRead p ld hpa mv md), (.wr, .hostMemWrite p ld hpa mv d be poison), (.inv, .hostMemInv p ld hpa mv)] ∧ s.portUp p.toNat = true ∧ (s.ld t).enumerated = true ∧ (bit 0 (s.stw (Reg.SEC_PORT + 4 * s.headPort p.toNat)) = false ∨ (s.port (s.headPort p.toNat)).ideSecure = true) ∧ s.fnReady t .mem = false) ∧
    (∃ (p : PortId) (ld : BitVec 4) (hpa : W64) (mv : Meta) (md : Media) (d : Line) (be : W64) (poison : Bool) (op : ReqOp) (c : Instr) (t : Nat) (s u : State), t = 16 * p.toNat + ld.toNat ∧ u = { s with nextReq := s.nextReq + 1 } ∧ (op, c) ∈ [(ReqOp.rd, Instr.hostMemRead p ld hpa mv md), (.wr, .hostMemWrite p ld hpa mv d be poison), (.inv, .hostMemInv p ld hpa mv)] ∧ s.portUp p.toNat = true ∧ (s.ld t).enumerated = true ∧ (bit 0 (s.stw (Reg.SEC_PORT + 4 * s.headPort p.toNat)) = false ∨ (s.port (s.headPort p.toNat)).ideSecure = true) ∧ s.fnReady t .mem = true ∧ (s.ld t).hdm.dpa hpa.toNat = none) ∧
    (∃ (p : PortId) (ld : BitVec 4) (hpa : W64) (mv : Meta) (md : Media) (d : Line) (be : W64) (poison : Bool) (op : ReqOp) (c : Instr) (t : Nat) (s u : State) (a : _) (k : _), t = 16 * p.toNat + ld.toNat ∧ u = { s with nextReq := s.nextReq + 1 } ∧ (op, c) ∈ [(ReqOp.rd, Instr.hostMemRead p ld hpa mv md), (.wr, .hostMemWrite p ld hpa mv d be poison), (.inv, .hostMemInv p ld hpa mv)] ∧ s.portUp p.toNat = true ∧ (s.ld t).enumerated = true ∧ (bit 0 (s.stw (Reg.SEC_PORT + 4 * s.headPort p.toNat)) = false ∨ (s.port (s.headPort p.toNat)).ideSecure = true) ∧ s.fnReady t .mem = true ∧ (s.ld t).hdm.dpa hpa.toNat = some a ∧ s.dblOn t = true ∧ a % 2 ^ cfgWin (s.wttOf t).cfg / 64 * 64 = s.dblOff t ∧ k = ((s.wttOf t).translate a false).cls ∧ op = .rd) ∧
    (∃ (p : PortId) (ld : BitVec 4) (hpa : W64) (mv : Meta) (md : Media) (d : Line) (be : W64) (poison : Bool) (op : ReqOp) (c : Instr) (t : Nat) (s u : State) (a : _) (k : _), t = 16 * p.toNat + ld.toNat ∧ u = { s with nextReq := s.nextReq + 1 } ∧ (op, c) ∈ [(ReqOp.rd, Instr.hostMemRead p ld hpa mv md), (.wr, .hostMemWrite p ld hpa mv d be poison), (.inv, .hostMemInv p ld hpa mv)] ∧ s.portUp p.toNat = true ∧ (s.ld t).enumerated = true ∧ (bit 0 (s.stw (Reg.SEC_PORT + 4 * s.headPort p.toNat)) = false ∨ (s.port (s.headPort p.toNat)).ideSecure = true) ∧ s.fnReady t .mem = true ∧ (s.ld t).hdm.dpa hpa.toNat = some a ∧ s.dblOn t = true ∧ a % 2 ^ cfgWin (s.wttOf t).cfg / 64 * 64 = s.dblOff t ∧ k = ((s.wttOf t).translate a false).cls ∧ op = .wr) ∧
    (∃ (p : PortId) (ld : BitVec 4) (hpa : W64) (mv : Meta) (md : Media) (d : Line) (be : W64) (poison : Bool) (op : ReqOp) (c : Instr) (t : Nat) (s u : State) (a : _) (k : _), t = 16 * p.toNat + ld.toNat ∧ u = { s with nextReq := s.nextReq + 1 } ∧ (op, c) ∈ [(ReqOp.rd, Instr.hostMemRead p ld hpa mv md), (.wr, .hostMemWrite p ld hpa mv d be poison), (.inv, .hostMemInv p ld hpa mv)] ∧ s.portUp p.toNat = true ∧ (s.ld t).enumerated = true ∧ (bit 0 (s.stw (Reg.SEC_PORT + 4 * s.headPort p.toNat)) = false ∨ (s.port (s.headPort p.toNat)).ideSecure = true) ∧ s.fnReady t .mem = true ∧ (s.ld t).hdm.dpa hpa.toNat = some a ∧ s.dblOn t = true ∧ a % 2 ^ cfgWin (s.wttOf t).cfg / 64 * 64 = s.dblOff t ∧ k = ((s.wttOf t).translate a false).cls ∧ op = .inv) ∧
    (∃ (p : PortId) (ld : BitVec 4) (hpa : W64) (mv : Meta) (md : Media) (d : Line) (be : W64) (poison : Bool) (op : ReqOp) (c : Instr) (t : Nat) (s u : State) (a : _), t = 16 * p.toNat + ld.toNat ∧ u = { s with nextReq := s.nextReq + 1 } ∧ (op, c) ∈ [(ReqOp.rd, Instr.hostMemRead p ld hpa mv md), (.wr, .hostMemWrite p ld hpa mv d be poison), (.inv, .hostMemInv p ld hpa mv)] ∧ s.portUp p.toNat = true ∧ (s.ld t).enumerated = true ∧ (bit 0 (s.stw (Reg.SEC_PORT + 4 * s.headPort p.toNat)) = false ∨ (s.port (s.headPort p.toNat)).ideSecure = true) ∧ s.fnReady t .mem = true ∧ (s.ld t).hdm.dpa hpa.toNat = some a ∧ s.dblOn t = false ∧ ((s.wttOf t).translate a (op = .wr)).ent = none) :=
  ⟨⟨0, 0, 0, .i, .clean, 0, (mapped.wttOf 0).translate 0 false, wentOf seg, mapped, by constructor <;> decide⟩,
   ⟨0, 0, 0, .i, 0, 0, true, 0, (mapped.wttOf 0).translate 0 true, wentOf seg, mapped, by constructor <;> decide⟩,
   ⟨0, 0, 0, .i, 0, (mapped.wttOf 0).translate 0 false, wentOf seg, mapped, by constructor <;> decide⟩,
   ⟨15, 15, 0, .i, .clean, 0, 0, true, .inv, _, 255, zero, _, rfl, rfl, .tail _ (.tail _ (.head _)), by decide⟩,
   ⟨0, 0, 0, .i, .clean, 0, 0, true, .wr, _, 0, live.setStw Reg.SEC_PORT 1#32, _, rfl, rfl, .tail _ (.head _), by decide, by decide, by decide, by decide⟩,
   ⟨0, 0, 0, .i, .clean, 0, 0, true, .rd, _, 0, { live with north := { live.north with ready := 0 } }, _, rfl, rfl, .head _, by decide, by decide, by decide, by decide⟩,
   ⟨0, 0, 2 ^ 31, .i, .clean, 0, 0, true, .rd, _, 0, mapped, _, rfl, rfl, .head _, by decide, by decide, by decide, by decide, by decide⟩,
   ⟨0, 0, 0, .i, .clean, 0, 0, true, .rd, _, 0, (mapped).setBar 0 (Reg.DSC_DBL_LO) 1#32, _, 0, _, rfl, rfl, .head _, by decide, by decide, by decide, by decide, by decide, by decide, by decide, rfl, rfl⟩,
   ⟨0, 0, 0, .i, .clean, 0, 0, true, .wr, _, 0, (mapped).setBar 0 (Reg.DSC_DBL_LO) 1#32, _, 0, _, rfl, rfl, .tail _ (.head _), by decide, by decide, by decide, by decide, by decide, by decide, by decide, rfl, rfl⟩,
   ⟨0, 0, 0, .i, .clean, 0, 0, true, .inv, _, 0, (mapped).setBar 0 (Reg.DSC_DBL_LO) 1#32, _, 0, _, rfl, rfl, .tail _ (.tail _ (.head _)), by decide, by decide, by decide, by decide, by decide, by decide, by decide, rfl, rfl⟩,
   ⟨0, 0, 65536, .i, .clean, 0, 0, true, .wr, _, 0, mapped, _, 65536, rfl, rfl, .tail _ (.head _), by decide, by decide, by decide, by decide, by decide, by decide, by decide⟩⟩

theorem test_meets_RawLineWritesStoreExactlyTheirBytes :
    (∃ (u t : Nat) (enc : Option Nat) (ua : Nat) (d : Line) (be : W64) (poison : Bool) (e : Plot) (s : State) (b : _), s.inSwin (plotOf ua) = false ∧ s.plot (plotOf ua) = some e ∧ e.mode = .raw ∧ e.st ≠ .farLost ∧ s.keyReady (plotOf ua) false enc = true ∧ s.farCut (plotOf ua) = false ∧ b / 64 ≠ lineOf ua) ∧
    (∃ (u t : Nat) (enc : Option Nat) (ua : Nat) (d : Line) (be : W64) (poison : Bool) (e : Plot) (s : State) (l : _), s.inSwin (plotOf ua) = false ∧ s.plot (plotOf ua) = some e ∧ e.mode = .raw ∧ e.st ≠ .farLost ∧ s.keyReady (plotOf ua) false enc = true ∧ s.farCut (plotOf ua) = false ∧ l ≠ lineOf ua) :=
  ⟨⟨0, 0, none, 0x5FFC0, 1, 1, true, { st := .bulk, mode := .raw }, mapped, 0x60000, by decide⟩,
   ⟨0, 0, none, 0x5FFC0, 1, 1, true, { st := .bulk, mode := .raw }, mapped, 0x17FE, by decide⟩⟩

theorem test_meets_WaitingReadsAndRequestsGoOn :
    (∃ (i : Nat) (md : Media) (r : TierRead) (s : State) (q : _), s.dmc.reads.find? (fun x => x.id = i) = some r ∧ r.timedOut = false ∧ md ≠ .late ∧ r.src = .host q) ∧
    (∃ (i : Nat) (md : Media) (r : TierRead) (s : State) (w : _) (l : _) (t : _) (c : _) (stamp : _), s.dmc.reads.find? (fun x => x.id = i) = some r ∧ r.timedOut = false ∧ md ≠ .late ∧ r.src = .unit w l t c stamp ∧ (s.chan r.chan).st ≠ .paused) ∧
    (∃ (i : Nat) (md : Media) (s : State), md = .late ∨ s.dmc.reads.find? (fun x => x.id = i) = none ∨ (∃ r, s.dmc.reads.find? (fun x => x.id = i) = some r ∧ (r.timedOut = true ∨ ((∃ w l t c stamp, r.src = .unit w l t c stamp) ∧ (s.chan r.chan).st = .paused)))) ∧
    (∃ (g n k : Nat) (w : Reader) (data : List Byte) (x : Tag) (s : State), s.tagOf g = some x ∧ x.use = .farFor w k n ∧ (s.dropTag g).farWanted n = false) ∧
    (∃ (g n k : Nat) (w : Reader) (data : List Byte) (x : Tag) (s : State), s.tagOf g = some x ∧ x.use = .farFor w k n ∧ (s.dropTag g).farWanted n = true ∧ (∀ b, w ≠ .close b)) ∧
    (∃ (g r f n : Nat) (data : List Byte) (poison : Bool) (x : Tag) (s : State), s.tagOf g = some x ∧ x.use = .fetch r f n) ∧
    (∃ (g r f n : Nat) (data : List Byte) (poison : Bool) (x : Tag) (s : State), s.tagOf g = none ∧ s.lateTag g = none) ∧
    (∃ (h : Half) (s : State), s.shr.wayWait.find? (fun q => lineHome (lineOf q.ua) = h && s.wayReady q) = none) ∧
    (∃ (t : Tenant) (s : State), s.bestHeld t.toNat = none ∧ s.bestCopy t.toNat = none) ∧
    (∃ (t : Tenant) (s : State) (p : _) (e : _), s.bestHeld t.toNat = none ∧ s.bestCopy t.toNat = some (p, e)) ∧
    (∃ (t : Tenant) (r : Req) (s : State), s.bestHeld t.toNat = some r ∧ s.bestCopy t.toNat = none) ∧
    (∃ (t : Tenant) (r : Req) (p : Nat) (e : Plot) (s : State), s.bestHeld t.toNat = some r ∧ s.bestCopy t.toNat = some (p, e)) ∧
    (∃ (g : Nat) (data : List Byte) (poison : Bool) (x : Tag) (r : Req) (s : State), s.tagOf g = some x ∧ x.use = .farHost r) ∧
    (∃ (h : Half) (r : Req) (s : State), s.shr.wayWait.find? (fun q => lineHome (lineOf q.ua) = h && s.wayReady q) = some r) ∧
    (∃ (t : Tenant) (r : Req) (s : State), (s.hgOf t.toNat).held = [r] ∧ s.heldCopies t.toNat = [] ∧ (s.hgOf t.toNat).ask r.cls = .pass) :=
  ⟨⟨3, .pin 35, { id := 3, src := .host rq, chan := 263, timedOut := false }, { zero with dmc := { reads := [{ id := 3, src := .host rq, chan := 263, timedOut := false }] } }, rq, by decide, by decide, by decide, rfl⟩,
   ⟨3, .clean, { id := 3, src := .unit (.op 7) 5 0 0 0, chan := 263, timedOut := false }, { zero with dmc := { reads := [{ id := 3, src := .unit (.op 7) 5 0 0 0, chan := 263, timedOut := false }] } }, .op 7, 5, 0, 0, 0, by decide, by decide, by decide, rfl, by decide⟩,
   ⟨3, .late, zero, .inl rfl⟩,
   ⟨7, 3, 0, .op 7, [], { tag := 7, tenant := 255, use := .farFor (.op 7) 0 3 }, { zero with tags := [{ tag := 7, tenant := 255, use := .farFor (.op 7) 0 3 }] }, by decide⟩,
   ⟨7, 3, 0, .op 7, [], { tag := 7, tenant := 255, use := .farFor (.op 7) 0 3 }, { zero with tags := [{ tag := 7, tenant := 255, use := .farFor (.op 7) 0 3 }], tier := { zero.tier with farBuf := [{ who := .op 7, key := 0, no := 3, got := none }] } }, by decide, by decide, by decide, fun b h => by cases h⟩,
   ⟨7, 15, 3, 8, [], true, { tag := 7, tenant := 255, use := .fetch 15 3 8 }, { zero with tags := [{ tag := 7, tenant := 255, use := .fetch 15 3 8 }] }, by decide⟩,
   ⟨7, 0, 0, 0, [], true, { tag := 7, tenant := 255, use := .farHost rq }, { zero with quarantine := [{ tag := 8, tenant := 255, use := .fetch 0 0 1 }] }, by decide⟩,
   ⟨.south, zero, by decide⟩,
   ⟨255, zero, by decide⟩,
   ⟨255, { zero with tier := { zero.tier with plots := [(5, { st := .promoting, mover := 255 })] } }, 5, { st := .promoting, mover := 255 }, by decide⟩,
   ⟨255, { rq with tenant := 255 }, { zero with hg := [(255, { held := [{ rq with tenant := 255 }] })] }, by decide⟩,
   ⟨255, { rq with tenant := 255 }, 5, { st := .promoting, mover := 255 }, { zero with hg := [(255, { held := [{ rq with tenant := 255 }] })], tier := { zero.tier with plots := [(5, { st := .promoting, mover := 255 })] } }, by decide⟩,
   ⟨7, [], true, { tag := 7, tenant := 255, use := .farHost rq }, rq, { zero with tags := [{ tag := 7, tenant := 255, use := .farHost rq }] }, by decide⟩,
   ⟨.north, rq, { zero with shr := { wayWait := [rq] } }, by decide⟩,
   ⟨255, { rq with tenant := 255 }, { zero with hg := [(255, { held := [{ rq with tenant := 255 }] })] }, by decide⟩⟩

theorem test_meets_TimeoutsAndFarExtents :
    (∃ (g : Nat) (s : State), s.pendingRead g = none) ∧
    (∃ (g r f n : Nat) (x : Tag) (s : State), s.tagOf g = some x ∧ x.use = .fetch r f n) ∧
    (∃ (g r f n : Nat) (x : Tag) (s : State), s.tagOf g = none ∧ s.lateTag g = none) ∧
    (∃ (g : Nat) (x : Tag) (s : State), s.tagOf g = some x ∧ usePlot x.use ≠ none) ∧
    (∃ (u : Tenant) (s : State), s.farEnabled u.toNat = false) ∧
    (∃ (u : Tenant) (s : State), s.farEnabled u.toNat = true) ∧
    (∃ (u : Tenant) (c : Nat) (s : State), s.farEnabled u.toNat = true) ∧
    (∃ (u : Tenant) (c p : Nat) (e : Plot) (s : State), s.farEnabled u.toNat = true ∧ s.plot p = some e ∧ e.farb = true ∧ e.st ≠ .farLost ∧ locLender e.loc = u.toNat ∧ Quiet s ∧ (∀ x ∈ s.tier.plots, x.2.movesInto u.toNat = false)) :=
  ⟨⟨7, zero, by decide⟩,
   ⟨7, 15, 3, 8, { tag := 7, tenant := 255, use := .fetch 15 3 8 }, { zero with tags := [{ tag := 7, tenant := 255, use := .fetch 15 3 8 }] }, by decide⟩,
   ⟨7, 0, 0, 0, { tag := 7, tenant := 255, use := .farHost rq }, zero, by decide⟩,
   ⟨7, { tag := 7, tenant := 255, use := .farHost rq }, { zero with tags := [{ tag := 7, tenant := 255, use := .farHost rq }] }, by decide⟩,
   ⟨255, zero, by decide⟩,
   ⟨255, (zero).setStw (Reg.TIR_FAR_CTL + 1020) 0x80000000#32, by decide⟩,
   ⟨255, 3, (zero).setStw (Reg.TIR_FAR_CTL + 1020) 0x80000000#32, by decide⟩,
   ⟨255, 3, 0, { st := .far, farb := true, loc := 255 * 2 ^ 30 }, ({ zero with tier := { plots := [(0, { st := .far, farb := true, loc := 255 * 2 ^ 30 })] } } : State).setStw (Reg.TIR_FAR_CTL + 1020) 0x80000000#32, by decide, by decide, by decide, by decide, by decide, ⟨rfl, rfl, rfl, rfl, rfl, rfl, rfl, rfl, rfl⟩, by decide⟩⟩

theorem test_meets_WindowsUrgencyAndArbiters :
    (∃ (u : Tenant) (s : State), s.clk.us % 2 ^ (s.hgOf u.toNat).win = 0) ∧
    (∃ (u : Tenant) (s : State), (s.hgOf u.toNat).held = [] ∧ s.heldCopies u.toNat = []) ∧
    (∃ (u : Tenant) (s : State), s.clk.us % 2 ^ (s.hgOf u.toNat).win ≠ 0) ∧
    (∃ (u : Tenant) (s : State), s.barF u.toNat Reg.HGT_UIB 31 16 ≠ 0) ∧
    (∃ (u : Tenant) (s : State), s.barF u.toNat Reg.HGT_UIB 31 16 = 0) ∧
    (∃ (a : Arb) (l : List Item) (s : State), (∀ b m, a ≠ .cistern b m) ∧ s.arbQueue a ++ l ≠ []) ∧
    (∃ (a : Arb) (s : State), (∀ b m, a ≠ .cistern b m) ∧ s.arbQueue a = []) :=
  ⟨⟨255, zero, by decide⟩,
   ⟨255, zero, by decide⟩,
   ⟨255, { zero with clk := { us := 1 } }, by decide⟩,
   ⟨255, zero.setBar 255 Reg.HGT_UIB 0x10000#32, by decide⟩,
   ⟨255, zero, by decide⟩,
   ⟨.slots, [{ id := 1, tenant := 0, cls := 0, stamp := 0, demoted := false, unlabelled := false, movement := false }], zero, (fun b m h => by cases h), by decide⟩,
   ⟨.slots, zero, (fun b m h => by cases h), by decide⟩⟩

theorem test_meets_TheBridgeSplitsAndJoinsTheModule :
    (∃ (s : State), s.bridge.up = true ∧ s.bridge.sparesN ≠ 0 ∧ 48 ≤ s.bridge.lanesN ∧ 48 ≤ s.bridge.lanesS) ∧
    (∃ (s : State), s.bridge.up = true ∧ s.bridge.sparesS ≠ 0 ∧ 48 ≤ s.bridge.lanesN ∧ 48 ≤ s.bridge.lanesS) ∧
    (∃ (s : State), s.bridge.up = true ∧ s.bridge.sparesN = 0 ∧ 49 ≤ s.bridge.lanesN ∧ 48 ≤ s.bridge.lanesS) ∧
    (∃ (s : State), s.bridge.up = true ∧ s.bridge.sparesS = 0 ∧ 48 ≤ s.bridge.lanesN ∧ 49 ≤ s.bridge.lanesS) ∧
    (∃ (s : State), s.bridge.up = true ∧ s.bridge.sparesN = 0 ∧ s.bridge.lanesN ≤ 48) ∧
    (∃ (s : State), s.bridge.up = true ∧ s.bridge.sparesS = 0 ∧ s.bridge.lanesS ≤ 48) ∧
    (∃ (s : State), s.bridge.up = true ∧ Quiet s) ∧
    (∃ (h : Half) (s : State), s.bridge.up = false) ∧
    (∃ (s : State), s.bridge.retraining = true ∧ s.bridge.queue = []) ∧
    (∃ (s : State), s.bridge.retraining = false) ∧
    (∃ (s u w : State), s.bridge.retraining = true ∧ w = u.drainBridge s.bridge.queue.length ∧ u = State.stewRec 7 (s.bridge.lanesN % 256 + 256 * (s.bridge.lanesS % 256)) { s with bridge := { s.bridge with retraining := false } }) ∧
    (∃ (s : State), s.bridge.up = false ∧ 48 ≤ s.bridge.lanesN ∧ 48 ≤ s.bridge.lanesS) ∧
    (∃ (s : State), s.bridge.up = true ∨ s.bridge.lanesN < 48 ∨ s.bridge.lanesS < 48) :=
  ⟨⟨{ zero with bridge := { zero.bridge with sparesN := 1, lanesN := 48, lanesS := 48 } }, by decide⟩,
   ⟨{ zero with bridge := { zero.bridge with sparesS := 1, lanesN := 48, lanesS := 48 } }, by decide⟩,
   ⟨{ zero with bridge := { zero.bridge with sparesN := 0, lanesN := 49, lanesS := 48 } }, by decide⟩,
   ⟨{ zero with bridge := { zero.bridge with sparesS := 0, lanesN := 48, lanesS := 49 } }, by decide⟩,
   ⟨{ zero with bridge := { zero.bridge with sparesN := 0, lanesN := 48 } }, by decide⟩,
   ⟨{ zero with bridge := { zero.bridge with sparesS := 0, lanesS := 48 } }, by decide⟩,
   ⟨zero, by decide, ⟨rfl, rfl, rfl, rfl, rfl, rfl, rfl, rfl, rfl⟩⟩,
   ⟨.south, { zero with bridge := { zero.bridge with up := false } }, by decide⟩,
   ⟨{ zero with bridge := { zero.bridge with retraining := true } }, by decide⟩,
   ⟨zero, by decide⟩,
   ⟨{ zero with bridge := { zero.bridge with retraining := true } }, _, _, by decide, rfl, rfl⟩,
   ⟨{ zero with bridge := { zero.bridge with up := false, lanesN := 48, lanesS := 48 } }, by decide⟩,
   ⟨zero, by decide⟩⟩

theorem test_meets_ShadowTablesAndCommits :
    (∃ (v : W32) (s : State), (s.wttOf (bits 23 16 (s.stw Reg.WTT_SEL))).pend = none) ∧
    (∃ (v : W32) (s : State), (s.wttOf (bits 23 16 (s.stw Reg.WTT_SEL))).pend.isSome = true) ∧
    (∃ (u : Tenant) (s : State), s.conflict = false ∧ (s.wttOf u.toNat).pend = none) ∧
    (∃ (u n : Nat) (t : Tenant) (st : Status) (s : State), s.commitCheck [t.toNat] = (st, u) ∧ st ≠ .ok ∧ n = (if st = .stewardConflict then 0 else u)) ∧
    (∃ (u : Nat) (st : Status) (s : State), s.commitCheck s.gmask = (st, u) ∧ st ≠ .ok) ∧
    (∃ (u : Tenant) (s : State), s.conflict = true) ∧
    (∃ (u : Tenant) (s : State), s.conflict = false ∧ (s.wttOf u.toNat).pend.isSome = true) ∧
    (∃ (t : Tenant) (s : State), s.conflict = false) :=
  ⟨⟨0, zero, by decide⟩,
   ⟨0, { zero with wtt := [(0, { pend := some .queued })] }, by decide⟩,
   ⟨255, zero, by decide⟩,
   ⟨255, 255, 255, .slotBusy, { zero with wtt := [(255, { pend := some .queued })] }, by decide⟩,
   ⟨255, .slotBusy, ({ zero with wtt := [(255, { pend := some .queued })] } : State).setStw (Reg.WTT_GMASK + 28) 0x80000000#32, by decide⟩,
   ⟨255, { zero with bridge := { zero.bridge with conflict := true } }, by decide⟩,
   ⟨255, { zero with wtt := [(255, { pend := some .queued })] }, by decide⟩,
   ⟨255, zero, by decide⟩⟩

theorem test_meets_CommitsFlipTheirTenants :
    (∃ (t : Tenant) (s : State), (s.commitCheck [t.toNat]).1 = .ok) ∧
    (∃ (s : State), (s.commitCheck s.gmask).1 = .ok ∧ s.gmask ≠ []) ∧
    (∃ (n : Nat) (s : State), s.flip.find? (fun g => s.flipReady g) = some [n]) ∧
    (∃ (s : State), s.flip.find? (fun g => s.flipReady g) = none) ∧
    (∃ (a b : Nat) (s : State), s.flip.find? (fun g => s.flipReady g) = some [a, b] ∧ a ≠ b) ∧
    (∃ (t : Tenant) (g : List Nat) (s : State), s.flip.find? (fun g => nmem t.toNat g) = some g) ∧
    (∃ (t : Tenant) (s : State), s.oldGone t.toNat = true ∧ s.flip.find? (fun g => nmem t.toNat g) = none) ∧
    (∃ (t : Tenant) (s : State), s.oldGone t.toNat = false) :=
  ⟨⟨255, zero, by decide⟩,
   ⟨zero.setStw (Reg.WTT_GMASK + 28) 0x80000000#32, by decide⟩,
   ⟨255, { zero with wtt := [(255, { pend := some .clear })], flip := [[255]] }, by decide⟩,
   ⟨zero, by decide⟩,
   ⟨0, 255, { zero with wtt := [(0, { pend := some .clear }), (255, { pend := some .clear })], flip := [[0, 255]] }, by decide⟩,
   ⟨255, [0, 255], { zero with flip := [[0, 255]] }, by decide⟩,
   ⟨255, zero, by decide⟩,
   ⟨0, { zero with wtt := [(0, { epoch := 1#16 })], hg := [(0, { held := [rq] })] }, by decide⟩⟩

theorem test_meets_PlotsAreAssignedReleasedAndQueried :
    (∃ (s : State), s.asgnGate = .ok ∧ tmplOk s.atmpl = true ∧ s.asgnCount = 1 ∧ s.rangeOk = true ∧ bits 62 59 s.atmpl = 0 ∧ bits 56 55 s.atmpl = 0 ∧ s.inSwin s.asgnBase = false ∧ s.inView s.asgnBase = false ∧ s.plot s.asgnBase = none) ∧
    (∃ (s : State), s.asgnGate = .ok ∧ s.asgnCount = 1 ∧ s.rangeOk = true ∧ (s.plot s.asgnBase).isSome = true ∧ s.bufferOf s.asgnBase = none ∧ s.plotMoving s.asgnBase = false ∧ s.relocating s.asgnBase = false) ∧
    (∃ (s : State), s.asgnGate = .ok ∧ tmplOk s.atmpl = true ∧ s.rangeOk = true ∧ (∀ i, i < s.asgnCount → s.inSwin (s.asgnBase + i) = false ∧ s.inView (s.asgnBase + i) = false ∧ ∀ e, s.plot (s.asgnBase + i) = some e → e.st = .farLost)) ∧
    (∃ (s : State), s.asgnGate = .ok ∧ s.rangeOk = true ∧ (∀ i, i < s.asgnCount → (s.plot (s.asgnBase + i)).isSome = true ∧ s.bufferOf (s.asgnBase + i) = none)) ∧
    (∃ (s : State), s.asgnGate = .ok ∧ (tmplOk s.atmpl = false ∨ s.rangeOk = false)) ∧
    (∃ (s : State), s.asgnGate = .ok ∧ s.rangeOk = false) ∧
    (∃ (i : Nat) (s : State), s.asgnGate = .ok ∧ tmplOk s.atmpl = true ∧ s.rangeOk = true ∧ i < s.asgnCount ∧ (s.inSwin (s.asgnBase + i) = true ∨ s.inView (s.asgnBase + i) = true ∨ ∃ e, s.plot (s.asgnBase + i) = some e ∧ e.st ≠ .farLost)) ∧
    (∃ (i : Nat) (s : State), s.asgnGate = .ok ∧ s.rangeOk = true ∧ i < s.asgnCount ∧ (s.plot (s.asgnBase + i) = none ∨ (s.bufferOf (s.asgnBase + i)).isSome = true)) ∧
    (∃ (st : Status) (s : State), s.asgnGate = st ∧ st ≠ .ok) ∧
    (∃ (u : Tenant) (s : State), s.asgnGate = .ok ∧ s.tier.waits = [] ∧ s.tier.plots = [] ∧ s.fes = []) ∧
    (∃ (u : Tenant) (p : Nat) (e : Plot) (c : Claim) (s : State), s.asgnGate = .ok ∧ s.tier.waits = [] ∧ s.fes = [] ∧ s.tier.plots = [(p, e)] ∧ e.st = .near ∧ e.claims = [c] ∧ c.tenant = u.toNat ∧ e.pins = [] ∧ e.farWant = none ∧ s.relocating p = false) ∧
    (∃ (hi : W32) (e : Plot) (s : State), s.plot ((s.stw Reg.TIR_PQ_PLOT_LO).toNat + 2 ^ 32 * (hi.toNat % 16)) = some e) ∧
    (∃ (hi : W32) (s : State), s.plot ((s.stw Reg.TIR_PQ_PLOT_LO).toNat + 2 ^ 32 * (hi.toNat % 16)) = none) :=
  ⟨⟨(((({ live with pending := [] } : State).setStw Reg.TIR_ASGN_BASE_LO 5#32).setStw Reg.TIR_ASGN_COUNT 1#32).setStw (Reg.TIR_ATMPL + 4) 0x80000000#32), by decide⟩,
   ⟨(((({ live with tier := { plots := [(5, {})] } } : State).setStw Reg.TIR_ASGN_BASE_LO 5#32).setStw Reg.TIR_ASGN_COUNT 1#32).setStw (Reg.TIR_ATMPL + 4) 0x80000000#32), by decide⟩,
   ⟨(((({ live with pending := [] } : State).setStw Reg.TIR_ASGN_BASE_LO 5#32).setStw Reg.TIR_ASGN_COUNT 1#32).setStw (Reg.TIR_ATMPL + 4) 0x80000000#32), by decide, by decide, by decide, fun i hi => by obtain rfl : i = 0 := Nat.lt_one_iff.1 hi; exact ⟨by decide, by decide, fun e h => nomatch (show (none : Option Plot) = some e from h)⟩⟩,
   ⟨(((({ live with tier := { plots := [(5, {})] } } : State).setStw Reg.TIR_ASGN_BASE_LO 5#32).setStw Reg.TIR_ASGN_COUNT 1#32).setStw (Reg.TIR_ATMPL + 4) 0x80000000#32), by decide, by decide, fun i hi => by obtain rfl : i = 0 := Nat.lt_one_iff.1 hi; exact ⟨by decide, by decide⟩⟩,
   ⟨live, by decide⟩,
   ⟨live, by decide⟩,
   ⟨0, (((({ live with tier := { plots := [(5, {})] } } : State).setStw Reg.TIR_ASGN_BASE_LO 5#32).setStw Reg.TIR_ASGN_COUNT 1#32).setStw (Reg.TIR_ATMPL + 4) 0x80000000#32), by decide, by decide, by decide, by decide, .inr (.inr ⟨{}, by decide, by decide⟩)⟩,
   ⟨0, (((({ live with pending := [] } : State).setStw Reg.TIR_ASGN_BASE_LO 5#32).setStw Reg.TIR_ASGN_COUNT 1#32).setStw (Reg.TIR_ATMPL + 4) 0x80000000#32), by decide⟩,
   ⟨.stewardConflict, { zero with bridge := { zero.bridge with conflict := true } }, by decide⟩,
   ⟨255, zero, by decide⟩,
   ⟨255, 5, { st := .near, claims := [{ tenant := 255, auto := true, pool := false }] }, { tenant := 255, auto := true, pool := false }, { zero with tier := { plots := [(5, { st := .near, claims := [{ tenant := 255, auto := true, pool := false }] })] } }, by decide⟩,
   ⟨0, { st := .bulk }, { zero with tier := { plots := [(0, { st := .bulk })] } }, by decide⟩,
   ⟨15, zero, by decide⟩⟩

theorem test_meets_AgesCountsAndClaimsOfPlots :
    (∃ (h : Half) (s : State), s.clk.age < 65536) ∧
    (∃ (h : Half) (s : State), (∀ e ∈ s.tier.plots, homeHalf e.1 = h → e.2.hasSlot = true → e.2.cnt ≤ s.cold → e.2.claims.filter (fun c => c.auto) = [])) ∧
    (∃ (h : Half) (p t : Nat) (e : Plot) (c : Claim) (s : State), s.tier.plots = [(p, e)] ∧ homeHalf p = h ∧ e.st = .near ∧ e.cnt ≤ s.cold ∧ e.claims = [c] ∧ c.auto = true ∧ c.tenant = t ∧ e.pins = [] ∧ e.farWant = none ∧ s.relocating p = false) ∧
    (∃ (i : Nat) (w : WaitClaim) (s : State), s.tier.waits.find? (fun x => x.id = i) = some w ∧ w.cause = .auto) ∧
    (∃ (i : Nat) (s : State), s.tier.waits.find? (fun x => x.id = i) = none) ∧
    (∃ (n : PlotNo) (bad : List Nat) (s : State), s.plot n.toNat = none) ∧
    (∃ (n : PlotNo) (bad : List Nat) (e : Plot) (j k : Nat) (s : State), s.plot n.toNat = some e ∧ e.st = .promoting ∧ e.farb = false ∧ e.nextBlock = some j ∧ e.charged = true ∧ s.copyHeld n.toNat e = false ∧ s.moveHeld n.toNat e j = false ∧ k < 16 ∧ k ≠ j ∧ bit k e.copied = false ∧ s.tier.asgnPend = none) ∧
    (∃ (n : PlotNo) (bad : List Nat) (e : Plot) (j k : Nat) (s : State), s.plot n.toNat = some e ∧ e.st = .demoting ∧ e.fmove = false ∧ e.farb = false ∧ e.cancel = false ∧ e.nextBlock = some j ∧ e.charged = true ∧ s.copyHeld n.toNat e = false ∧ s.moveHeld n.toNat e j = false ∧ k < 16 ∧ k ≠ j ∧ bit k e.dirty = true ∧ s.tier.asgnPend = none) :=
  ⟨⟨.south, { zero with clk := { age := 65535 } }, by decide⟩,
   ⟨.north, zero, by decide⟩,
   ⟨.north, 5, 255, { st := .near, claims := [{ tenant := 255, auto := true, pool := false }] }, { tenant := 255, auto := true, pool := false }, { zero with tier := { plots := [(5, { st := .near, claims := [{ tenant := 255, auto := true, pool := false }] })] } }, by decide⟩,
   ⟨1, { id := 1, plot := 5, tenant := 255, cause := .auto, cls := 7 }, { zero with tier := { waits := [{ id := 1, plot := 5, tenant := 255, cause := .auto, cls := 7 }] } }, by decide⟩,
   ⟨1, zero, by decide⟩,
   ⟨2 ^ 36 - 1, [], zero, by decide⟩,
   ⟨5, [63], { st := .promoting, charged := true, copied := 0x3FFF#16 }, 14, 15, { zero with tier := { plots := [(5, { st := .promoting, charged := true, copied := 0x3FFF#16 })] } }, by decide⟩,
   ⟨5, [63], { st := .demoting, charged := true, dirty := 0xC000#16 }, 14, 15, { zero with tier := { plots := [(5, { st := .demoting, charged := true, dirty := 0xC000#16 })] } }, by decide⟩⟩

theorem test_meets_MarksMoveCursors :
    (∃ (u : Tenant) (m : W32) (k : Cal) (i : Nat) (v : Cursor) (s : State), s.cal (s.barF u.toNat Reg.ALM_MSEL 9 0) = some k ∧ k.cursorOf u.toNat = some (i, v) ∧ v.src ≠ 1#2 ∧ markLayer m < k.layers ∧ s.split = false) ∧
    (∃ (u : Tenant) (m : W32) (s : State), s.cal (s.barF u.toNat Reg.ALM_MSEL 9 0) = none ∧ s.split = false) ∧
    (∃ (u : Tenant) (m : W32) (k : Cal) (i : Nat) (v : Cursor) (s : State), s.cal (s.barF u.toNat Reg.ALM_MSEL 9 0) = some k ∧ k.cursorOf u.toNat = some (i, v) ∧ v.src ≠ 1#2 ∧ k.layers ≤ markLayer m ∧ s.split = false) ∧
    (∃ (u : Tenant) (m : W32) (s : State), s.split = true ∧ tenantHalf u.toNat ≠ calHalf (s.barF u.toNat Reg.ALM_MSEL 9 0)) ∧
    (∃ (c i : Nat) (x : AlmUpd) (k : Cal) (s : State), s.queuedUpd = some (c, i, x) ∧ s.cal c = some k) ∧
    (∃ (s : State), s.queuedUpd = none ∧ s.alm.updates = []) ∧
    (∃ (s : State), s.nextAct = none) ∧
    (∃ (h : Half) (c t i : Nat) (m : W32) (r : List AlmUpd) (k : Cal) (v : Cursor) (s : State), s.alm.acts = [] ∧ s.queuedUpd = none ∧ s.alm.updates = .mark h none c t m :: r ∧ s.cal c = some k ∧ k.cursorOf t = some (i, v) ∧ tfind i k.cursors = some v ∧ k.queue = [] ∧ k.loading = none ∧ s.calHeld k t = false ∧ v.src ≠ 1#2 ∧ markLayer m < k.layers ∧ v.pos = none) ∧
    (∃ (x : AlmUpd) (r : List AlmUpd) (s : State), s.queuedUpd = none ∧ s.alm.updates = x :: r) ∧
    (∃ (q r rest : List AlmAct) (a : AlmAct) (s : State), s.nextAct = some (q, a, r) ∧ rest = q ++ (if a.left ≤ 1 then r else { a with plot := a.plot + 1, left := a.left - 1 } :: r)) ∧
    (∃ (a : AlmAct) (e : Plot) (s : State), s.split = false ∧ s.plot (s.resolvePlot a.tenant a.plot) = some e ∧ e.st ≠ .unwritten ∧ e.st ≠ .farLost ∧ ((aentOf a.entry).action = 0 ∨ (aentOf a.entry).action = 1)) ∧
    (∃ (a : AlmAct) (e : Plot) (s : State), s.split = false ∧ s.plot (s.resolvePlot a.tenant a.plot) = some e ∧ e.st ≠ .unwritten ∧ e.st ≠ .farLost ∧ (aentOf a.entry).action = 3 ∧ (aentOf a.entry).dropStg = false) ∧
    (∃ (a : AlmAct) (s : State), s.split = false ∧ s.plot (s.resolvePlot a.tenant a.plot) = none) ∧
    (∃ (n : CalId) (c : Cal) (i : Nat) (b : List Byte) (s : State), s.cal n.toNat = some c ∧ c.loading = some (i, b) ∧ s.alm.acts.any (fun a => a.cal = n.toNat) = false) ∧
    (∃ (n : CalId) (c : Cal) (s : State), s.cal n.toNat = some c ∧ s.alm.acts.any (fun a => a.cal = n.toNat) = true) ∧
    (∃ (n : CalId) (s : State), s.cal n.toNat = none ∨ (∃ c, s.cal n.toNat = some c ∧ c.loading = none)) ∧
    (∃ (n t : Nat) (b : List Byte) (s : State), (aimgOf b).layers ≠ 0 ∧ s.cal n = none) ∧
    (∃ (n : CalId) (i : BitVec 4) (u : Tenant) (src : BitVec 2) (c : Cal) (s : State), s.conflict = false ∧ s.cal n.toNat = some c ∧ c.loading = none ∧ i ≠ 0#4 ∧ c.cursorOf u.toNat = none ∧ tfind i.toNat c.cursors = none ∧ src ≠ 3#2 ∧ s.entriesMapped u.toNat c.entries = true) :=
  ⟨⟨255, 0, { owner := 255, layers := 1, fwdmax := 0, entries := [], triggers := [], cursors := [(0, { tenant := 255, src := 0#2 })] }, 0, { tenant := 255, src := 0#2 }, { zero with alm := { cals := [(0, { owner := 255, layers := 1, fwdmax := 0, entries := [], triggers := [], cursors := [(0, { tenant := 255, src := 0#2 })] })] } }, by decide⟩,
   ⟨255, 0, zero, by decide⟩,
   ⟨255, 4095, { owner := 255, layers := 1, fwdmax := 0, entries := [], triggers := [], cursors := [(0, { tenant := 255, src := 0#2 })] }, 0, { tenant := 255, src := 0#2 }, { zero with alm := { cals := [(0, { owner := 255, layers := 1, fwdmax := 0, entries := [], triggers := [], cursors := [(0, { tenant := 255, src := 0#2 })] })] } }, by decide⟩,
   ⟨255, 0, { zero with bridge := { zero.bridge with up := false } }, by decide⟩,
   ⟨0, 0, .mark .north none 0 255 0, { owner := 255, layers := 1, fwdmax := 0, entries := [], triggers := [], cursors := [(0, { tenant := 255, src := 0#2 })], queue := [(0, .mark .north none 0 255 0)] }, { zero with alm := { cals := [(0, { owner := 255, layers := 1, fwdmax := 0, entries := [], triggers := [], cursors := [(0, { tenant := 255, src := 0#2 })], queue := [(0, .mark .north none 0 255 0)] })] } }, by decide⟩,
   ⟨zero, by decide⟩,
   ⟨zero, by decide⟩,
   ⟨.south, 0, 255, 0, 0, [], { owner := 255, layers := 1, fwdmax := 0, entries := [], triggers := [], cursors := [(0, { tenant := 255, src := 0#2 })] }, { tenant := 255, src := 0#2 }, { zero with alm := { cals := [(0, { owner := 255, layers := 1, fwdmax := 0, entries := [], triggers := [], cursors := [(0, { tenant := 255, src := 0#2 })] })], updates := [.mark .south none 0 255 0] } }, by decide⟩,
   ⟨.mark .south none 0 255 0, [], { zero with alm := { cals := [(0, { owner := 255, layers := 1, fwdmax := 0, entries := [], triggers := [], cursors := [(0, { tenant := 255, src := 0#2 })] })], updates := [.mark .south none 0 255 0] } }, by decide⟩,
   ⟨[], [], [], { cal := 0, cursor := 0, tenant := 0, entry := 0, firing := 0, plot := 2 ^ 36 - 1, left := 1 }, { zero with alm := { acts := [{ cal := 0, cursor := 0, tenant := 0, entry := 0, firing := 0, plot := 2 ^ 36 - 1, left := 1 }] } }, by decide⟩,
   ⟨{ cal := 0, cursor := 0, tenant := 0, entry := 0, firing := 0, plot := 5, left := 1 }, { st := .bulk, mode := .raw, qtenant := 0 }, read5, by decide⟩,
   ⟨{ cal := 0, cursor := 0, tenant := 0, entry := 0x6000000000000000, firing := 0, plot := 5, left := 1 }, { st := .bulk, mode := .raw, qtenant := 0 }, read5, by decide⟩,
   ⟨{ cal := 0, cursor := 0, tenant := 0, entry := 0, firing := 0, plot := 2 ^ 36 - 1, left := 1 }, zero, by decide⟩,
   ⟨1023, { owner := 255, layers := 1, fwdmax := 0, entries := [], triggers := [], cursors := [(0, { tenant := 255, src := 0#2 })], loading := some (0, []) }, 0, [], { zero with alm := { cals := [(1023, { owner := 255, layers := 1, fwdmax := 0, entries := [], triggers := [], cursors := [(0, { tenant := 255, src := 0#2 })], loading := some (0, []) })] } }, by decide⟩,
   ⟨0, { owner := 255, layers := 1, fwdmax := 0, entries := [], triggers := [], cursors := [(0, { tenant := 255, src := 0#2 })], loading := some (0, []) }, { zero with alm := { cals := [(0, { owner := 255, layers := 1, fwdmax := 0, entries := [], triggers := [], cursors := [(0, { tenant := 255, src := 0#2 })], loading := some (0, []) })], acts := [{ cal := 0, cursor := 0, tenant := 0, entry := 0, firing := 0, plot := 2 ^ 36 - 1, left := 1 }] } }, by decide⟩,
   ⟨1023, zero, .inl (by decide)⟩,
   ⟨1023, 255, [0#8, 0#8, 1#8, 0#8], zero, by decide⟩,
   ⟨1023, 15, 254, 2, { owner := 255, layers := 1, fwdmax := 0, entries := [], triggers := [], cursors := [(0, { tenant := 255, src := 0#2 })] }, { zero with alm := { cals := [(1023, { owner := 255, layers := 1, fwdmax := 0, entries := [], triggers := [], cursors := [(0, { tenant := 255, src := 0#2 })] })] } }, by decide⟩⟩

theorem test_meets_CalendarsAreBoundClearedAndReclaimed :
    (∃ (n : CalId) (i : BitVec 4) (u : Tenant) (src : BitVec 2) (c : Cal) (s : State), s.conflict = false ∧ s.cal n.toNat = some c ∧ c.loading = none ∧ i ≠ 0#4 ∧ c.cursorOf u.toNat = none ∧ tfind i.toNat c.cursors = none ∧ src ≠ 3#2 ∧ s.entriesMapped u.toNat c.entries = true) ∧
    (∃ (n : CalId) (i : BitVec 4) (c : Cal) (s : State), s.conflict = false ∧ s.cal n.toNat = some c ∧ c.loading = none ∧ i ≠ 0#4) ∧
    (∃ (n : CalId) (i : BitVec 4) (c : Cal) (v : Cursor) (s : State), s.conflict = false ∧ s.cal n.toNat = some c ∧ c.loading = none ∧ tfind i.toNat c.cursors = some v) ∧
    (∃ (n : CalId) (c : Cal) (s : State), s.conflict = false ∧ s.cal n.toNat = some c ∧ c.loading = none) ∧
    (∃ (n : CalId) (u : Tenant) (src : BitVec 2) (c : Cal) (s : State), s.conflict = false ∧ s.cal n.toNat = some c ∧ c.loading = none ∧ src ≠ 3#2 ∧ c.cursors.any (fun e => e.1 ≠ 0 && e.2.tenant = u.toNat) = false ∧ s.entriesMapped u.toNat c.entries = true) ∧
    (∃ (n : CalId) (i : BitVec 4) (u : Tenant) (src : BitVec 2) (s : State), s.conflict = true) ∧
    (∃ (n : CalId) (i : BitVec 4) (u : Tenant) (src : BitVec 2) (s : State), s.conflict = false ∧ s.cal n.toNat = none) ∧
    (∃ (n : CalId) (i : BitVec 4) (u : Tenant) (src : BitVec 2) (c : Cal) (s : State), s.conflict = false ∧ s.cal n.toNat = some c ∧ c.loading ≠ none) ∧
    (∃ (n : CalId) (i : BitVec 4) (u : Tenant) (src : BitVec 2) (c : Cal) (s : State), s.conflict = false ∧ s.cal n.toNat = some c ∧ c.loading = none ∧ i ≠ 0#4 ∧ c.cursorOf u.toNat = none ∧ tfind i.toNat c.cursors = none ∧ src ≠ 3#2 ∧ s.entriesMapped u.toNat c.entries = false) ∧
    (∃ (n : CalId) (i : BitVec 4) (u : Tenant) (src : BitVec 2) (c : Cal) (s : State), s.conflict = false ∧ s.cal n.toNat = some c ∧ c.loading = none ∧ ((c.cursorOf u.toNat).isSome = true ∨ (tfind i.toNat c.cursors).isSome = true ∨ src = 3#2)) ∧
    (∃ (n : CalId) (i : BitVec 4) (u : Tenant) (src : BitVec 2) (c : Cal) (s : State), s.conflict = false ∧ s.cal n.toNat = some c ∧ c.loading = none ∧ (src = 3#2 ∨ c.cursors.any (fun e => e.1 ≠ 0 && e.2.tenant = u.toNat) = true)) ∧
    (∃ (n : CalId) (i : BitVec 4) (u : Tenant) (src : BitVec 2) (c : Cal) (s : State), s.conflict = false ∧ s.cal n.toNat = some c ∧ c.loading = none ∧ src ≠ 3#2 ∧ c.cursors.any (fun e => e.1 ≠ 0 && e.2.tenant = u.toNat) = false ∧ s.entriesMapped u.toNat c.entries = false) ∧
    (∃ (n : CalId) (i : BitVec 4) (u : Tenant) (src : BitVec 2) (c : Cal) (s : State), s.conflict = false ∧ s.cal n.toNat = some c ∧ c.loading = none ∧ tfind i.toNat c.cursors = none) :=
  ⟨⟨1023, 15, 254, 2, { owner := 255, layers := 1, fwdmax := 0, entries := [], triggers := [], cursors := [(0, { tenant := 255, src := 0#2 })] }, { zero with alm := { cals := [(1023, { owner := 255, layers := 1, fwdmax := 0, entries := [], triggers := [], cursors := [(0, { tenant := 255, src := 0#2 })] })] } }, by decide⟩,
   ⟨1023, 15, { owner := 255, layers := 1, fwdmax := 0, entries := [], triggers := [], cursors := [(0, { tenant := 255, src := 0#2 })] }, { zero with alm := { cals := [(1023, { owner := 255, layers := 1, fwdmax := 0, entries := [], triggers := [], cursors := [(0, { tenant := 255, src := 0#2 })] })] } }, by decide⟩,
   ⟨1023, 0, { owner := 255, layers := 1, fwdmax := 0, entries := [], triggers := [], cursors := [(0, { tenant := 255, src := 0#2 })] }, { tenant := 255, src := 0#2 }, { zero with alm := { cals := [(1023, { owner := 255, layers := 1, fwdmax := 0, entries := [], triggers := [], cursors := [(0, { tenant := 255, src := 0#2 })] })] } }, by decide⟩,
   ⟨1023, { owner := 255, layers := 1, fwdmax := 0, entries := [], triggers := [], cursors := [(0, { tenant := 255, src := 0#2 })] }, { zero with alm := { cals := [(1023, { owner := 255, layers := 1, fwdmax := 0, entries := [], triggers := [], cursors := [(0, { tenant := 255, src := 0#2 })] })] } }, by decide⟩,
   ⟨1023, 254, 2, { owner := 255, layers := 1, fwdmax := 0, entries := [], triggers := [], cursors := [(0, { tenant := 255, src := 0#2 })] }, { zero with alm := { cals := [(1023, { owner := 255, layers := 1, fwdmax := 0, entries := [], triggers := [], cursors := [(0, { tenant := 255, src := 0#2 })] })] } }, by decide⟩,
   ⟨1023, 15, 255, 3, { zero with bridge := { zero.bridge with conflict := true } }, by decide⟩,
   ⟨1023, 15, 255, 3, zero, by decide⟩,
   ⟨1023, 15, 255, 3, { owner := 255, layers := 1, fwdmax := 0, entries := [], triggers := [], cursors := [(0, { tenant := 255, src := 0#2 })], loading := some (0, []) }, { zero with alm := { cals := [(1023, { owner := 255, layers := 1, fwdmax := 0, entries := [], triggers := [], cursors := [(0, { tenant := 255, src := 0#2 })], loading := some (0, []) })] } }, by decide⟩,
   ⟨1023, 15, 254, 2, { owner := 255, layers := 1, fwdmax := 0, entries := [(2 ^ 128 : Nat)], triggers := [], cursors := [(0, { tenant := 255, src := 0#2 })] }, { zero with alm := { cals := [(1023, { owner := 255, layers := 1, fwdmax := 0, entries := [(2 ^ 128 : Nat)], triggers := [], cursors := [(0, { tenant := 255, src := 0#2 })] })] } }, by decide⟩,
   ⟨1023, 15, 255, 0, { owner := 255, layers := 1, fwdmax := 0, entries := [], triggers := [], cursors := [(0, { tenant := 255, src := 0#2 })] }, { zero with alm := { cals := [(1023, { owner := 255, layers := 1, fwdmax := 0, entries := [], triggers := [], cursors := [(0, { tenant := 255, src := 0#2 })] })] } }, by decide⟩,
   ⟨1023, 15, 254, 3, { owner := 255, layers := 1, fwdmax := 0, entries := [], triggers := [], cursors := [(0, { tenant := 255, src := 0#2 })] }, { zero with alm := { cals := [(1023, { owner := 255, layers := 1, fwdmax := 0, entries := [], triggers := [], cursors := [(0, { tenant := 255, src := 0#2 })] })] } }, by decide⟩,
   ⟨1023, 15, 254, 2, { owner := 255, layers := 1, fwdmax := 0, entries := [(2 ^ 128 : Nat)], triggers := [], cursors := [(0, { tenant := 255, src := 0#2 })] }, { zero with alm := { cals := [(1023, { owner := 255, layers := 1, fwdmax := 0, entries := [(2 ^ 128 : Nat)], triggers := [], cursors := [(0, { tenant := 255, src := 0#2 })] })] } }, by decide⟩,
   ⟨1023, 15, 254, 2, { owner := 255, layers := 1, fwdmax := 0, entries := [], triggers := [], cursors := [(0, { tenant := 255, src := 0#2 })] }, { zero with alm := { cals := [(1023, { owner := 255, layers := 1, fwdmax := 0, entries := [], triggers := [], cursors := [(0, { tenant := 255, src := 0#2 })] })] } }, by decide⟩⟩

theorem test_meets_TableSlotsAndScaleWindows :
    (∃ (n : BitVec 8) (g : Gen) (s : State), (s.tslot n.toNat).drain = some g ∧ s.boundTo n.toNat g.gen = 0) ∧
    (∃ (n : BitVec 8) (g : Gen) (s : State), (s.tslot n.toNat).drain = some g ∧ s.boundTo n.toNat g.gen ≠ 0) ∧
    (∃ (s : State), s.tcmdCheck false true = .ok) ∧
    (∃ (u : Tenant) (s : State), s.tcmdCheck false false = .ok) ∧
    (∃ (n : Nat) (g : Gen) (s : State), (s.tslot n).cur = some g) ∧
    (∃ (st : Status) (s : State), s.tcmdCheck false true = st ∧ st ≠ .ok) ∧
    (∃ (u : Tenant) (st : Status) (s : State), s.tcmdCheck false false = st ∧ st ≠ .ok) ∧
    (∃ (n : BitVec 6) (v new : W32) (w : SWin) (s : State), new = (v &&& 0xFF#32) ||| (s.stw (Reg.CMP_SW_CTL + 32 * n.toNat) &&& 0x40000000#32 &&& ~~~v) ∧ w = (s.setStw (Reg.CMP_SW_CTL + 32 * n.toNat) new).swin n.toNat) :=
  ⟨⟨254, { gen := 255, check := 0, image := [] }, { zero with cmp := { slots := [(254, { drain := some { gen := 255, check := 0, image := [] } })] } }, by decide⟩,
   ⟨254, { gen := 255, check := 0, image := [] }, { zero with cmp := { slots := [(254, { drain := some { gen := 255, check := 0, image := [] } })] }, fes := [(15, { staged := [{ block := 0, bank := 0, holders := [], bind := some (254, 255#8) }] })] }, by decide⟩,
   ⟨{ zero with cmp := { slots := [(0, { owner := 255, cur := some { gen := 255, check := 0, image := [] }, drain := none })] } }, by decide⟩,
   ⟨255, { zero with cmp := { slots := [(0, { owner := 255, cur := some { gen := 255, check := 0, image := [] }, drain := some { gen := 255, check := 0, image := [] } })] } }, by decide⟩,
   ⟨0, { gen := 255, check := 0, image := [] }, { zero with cmp := { slots := [(0, { owner := 255, cur := some { gen := 255, check := 0, image := [] }, drain := none })] } }, by decide⟩,
   ⟨.stewardConflict, { zero with bridge := { zero.bridge with conflict := true } }, by decide⟩,
   ⟨255, .stewardConflict, { zero with bridge := { zero.bridge with conflict := true } }, by decide⟩,
   ⟨63, 0x80000000, _, _, zero, rfl, rfl⟩⟩

theorem test_meets_SubmissionRingsEnableDisableAndRestart :
    (∃ (t : Tenant) (r : BitVec 4) (v : W32) (s : State), (s.ring t.toNat r.toNat).st = .disabled ∧ s.fnReady t.toNat .rings = true) ∧
    (∃ (t : Tenant) (r : BitVec 4) (v : W32) (s : State), (s.ring t.toNat r.toNat).st = .disabled ∧ s.fnReady t.toNat .rings = false) ∧
    (∃ (t : Tenant) (r : BitVec 4) (v : W32) (s : State), (s.ring t.toNat r.toNat).st = .running ∨ (s.ring t.toNat r.toNat).st = .stopped) ∧
    (∃ (t : Tenant) (r : BitVec 4) (v : W32) (s : State), (s.ring t.toNat r.toNat).st ≠ .disabled) ∧
    (∃ (t : Tenant) (r : BitVec 4) (v : W32) (s : State), (s.ring t.toNat r.toNat).st = .disabled ∨ (s.ring t.toNat r.toNat).st = .disabling) ∧
    (∃ (t : Tenant) (r : BitVec 4) (s : State), (s.ring t.toNat r.toNat).st = .stopped ∧ (s.ring t.toNat r.toNat).err = true ∧ bit 31 (s.sqCfg t.toNat r.toNat) = true) ∧
    (∃ (t : Tenant) (r : BitVec 4) (s : State), (s.ring t.toNat r.toNat).st ≠ .stopped ∨ (s.ring t.toNat r.toNat).err = false ∨ bit 31 (s.sqCfg t.toNat r.toNat) = false) :=
  ⟨⟨0, 15, 0, live, by decide⟩,
   ⟨255, 15, 0, zero, by decide⟩,
   ⟨255, 15, 0, { zero with rings := [(4095, { st := .stopped })] }, by decide⟩,
   ⟨255, 15, 0, { zero with rings := [(4095, { st := .stopped })] }, by decide⟩,
   ⟨255, 15, 0, zero, by decide⟩,
   ⟨255, 15, ({ zero with rings := [(4095, { st := .stopped, err := true })] } : State).setBar 255 (Reg.DSC_SQ_CFG + 480) 0x80000004#32, by decide⟩,
   ⟨255, 15, zero, by decide⟩⟩

theorem test_meets_DoorbellsMoveTails :
    (∃ (t : Tenant) (v : W32) (s : State), s.draining t.toNat = false ∧ ((s.ring t.toNat (bits 19 16 v)).st = .running ∨ (s.ring t.toNat (bits 19 16 v)).st = .stopped)) ∧
    (∃ (t : Tenant) (v : W32) (s : State), s.draining t.toNat = false ∧ ((s.ring t.toNat (bits 19 16 v)).st = .disabled ∨ (s.ring t.toNat (bits 19 16 v)).st = .disabling)) ∧
    (∃ (t : Tenant) (v : W32) (s : State), s.draining t.toNat = true) ∧
    (∃ (t : Tenant) (d : Line) (be : W64) (s : State), s.dblOn t.toNat = true) ∧
    (∃ (t : Tenant) (s : State), s.dblOn t.toNat = true) ∧
    (∃ (t : Tenant) (d : Line) (be : W64) (poison : Bool) (s : State), s.dblOn t.toNat = false) ∧
    (∃ (t r : Nat) (d : Line) (be : W64) (s : State), s.draining t = false ∧ r < 16 ∧ (s.ring t r).st = .running ∧ bits (4 * r + 3) (4 * r) be = 15 ∧ bit 31 (lineWord d r) = true) :=
  ⟨⟨255, 0xF0000, { zero with rings := [(4095, { st := .stopped })] }, by decide⟩,
   ⟨255, 0xF0000, zero, by decide⟩,
   ⟨255, 0, { zero with lds := [(255, { portDrain := true })] }, by decide⟩,
   ⟨255, 0, 0, zero.setBar 255 Reg.DSC_DBL_LO 1#32, by decide⟩,
   ⟨255, zero.setBar 255 Reg.DSC_DBL_LO 1#32, by decide⟩,
   ⟨255, 0, 0, true, zero, by decide⟩,
   ⟨255, 15, BitVec.ofNat 512 (2 ^ 256 - 1) <<< 256, BitVec.ofNat 64 (15 * 2 ^ 60), { zero with rings := [(4095, { st := .running })] }, by decide⟩⟩

theorem test_meets_RingsFetchTheirDescriptors :
    (∃ (t : Tenant) (r : Nat) (s : State), s.draining t.toNat = false ∧ s.nextRing t.toNat = some r ∧ (s.ld t.toNat).bme = true) ∧
    (∃ (t : Tenant) (r : Nat) (s : State), s.draining t.toNat = false ∧ s.nextRing t.toNat = some r ∧ (s.ld t.toNat).bme = false) ∧
    (∃ (t : Tenant) (s : State), s.draining t.toNat = true ∨ s.nextRing t.toNat = none) ∧
    (∃ (g t r first n : Nat) (l : List Line) (s : State), s.tagOf g = some { tag := g, tenant := t, use := .fetch r first n } ∧ n ≠ 0 ∧ (s.ring t r).st = .running ∧ ((s.ring t r).head + (s.ring t r).fetched.length) % s.sqSize t r = first) ∧
    (∃ (g t r first n cause : Nat) (c : Cpl) (s : State), s.tagOf g = some { tag := g, tenant := t, use := .fetch r first n } ∧ n ≠ 0 ∧ (s.ring t r).st = .running ∧ (c = .poison ∧ cause = 3 ∨ (c = .unsupportedRequest ∨ c = .completerAbort) ∧ cause = 2)) ∧
    (∃ (g : Nat) (c : Cpl) (s : State), s.tagOf g = none) :=
  ⟨⟨255, 15, { zero with rings := [(4095, { st := .running, tail := 8 })], lds := [(255, { bme := true })] }, by decide⟩,
   ⟨255, 15, { zero with rings := [(4095, { st := .running, tail := 8 })] }, by decide⟩,
   ⟨255, zero, by decide⟩,
   ⟨9, 255, 15, 0, 8, [], { zero with rings := [(4095, { st := .running, fetching := true })], tags := [{ tag := 9, tenant := 255, use := .fetch 15 0 8 }] }, by decide⟩,
   ⟨9, 255, 15, 0, 8, 2, .completerAbort, { zero with rings := [(4095, { st := .running, fetching := true })], tags := [{ tag := 9, tenant := 255, use := .fetch 15 0 8 }] }, by decide⟩,
   ⟨9, .poison, zero, by decide⟩⟩

theorem test_meets_DescriptorsCompleteThroughTheirRings :
    (∃ (t : Tenant) (r : BitVec 4) (d : Line) (n : Nat) (s : State), s.headDesc t.toNat r.toNat = some d ∧ s.roomCq t.toNat = true ∧ s.fencesMet t.toNat r.toNat d = true ∧ s.slotFree t.toNat r.toNat d = true ∧ firstBad (headBad d ++ s.bodyBad d) = some n ∧ (n ≤ 16 ∨ paramOf d = none)) ∧
    (∃ (t : Tenant) (r : BitVec 4) (d : Line) (s : State), s.headDesc t.toNat r.toNat = some d ∧ s.roomCq t.toNat = false) ∧
    (∃ (t : Tenant) (r : BitVec 4) (d : Line) (s : State), s.headDesc t.toNat r.toNat = some d ∧ s.roomCq t.toNat = true ∧ s.fencesMet t.toNat r.toNat d = true ∧ s.slotFree t.toNat r.toNat d = false) ∧
    (∃ (t : Tenant) (r : BitVec 4) (d : Line) (s : State), s.headDesc t.toNat r.toNat = some d ∧ s.roomCq t.toNat = true ∧ s.fencesMet t.toNat r.toNat d = false) ∧
    (∃ (t : Tenant) (r : BitVec 4) (s : State), s.headDesc t.toNat r.toNat = none) ∧
    (∃ (t : Tenant) (r : BitVec 4) (d : Line) (s : State), s.headDesc t.toNat r.toNat = some d ∧ s.roomCq t.toNat = true ∧ s.fencesMet t.toNat r.toNat d = true ∧ s.slotFree t.toNat r.toNat d = true ∧ firstBad (headBad d ++ s.bodyBad d) = none ∧ paramOf d = none ∧ (s.setRing t.toNat r.toNat { s.ring t.toNat r.toNat with head := ((s.ring t.toNat r.toNat).head + 1) % s.sqSize t.toNat r.toNat, fetched := (s.ring t.toNat r.toNat).fetched.drop 1, waitCq := false, waitSlot := none }).acceptCheck t.toNat d none = none) ∧
    (∃ (i : Nat) (o : Op) (c : Status) (s : State), s.op i = some o ∧ o.done = some c) ∧
    (∃ (i : Nat) (s : State), s.op i = none ∨ (∃ o, s.op i = some o ∧ o.done = none)) ∧
    (∃ (t : Tenant) (r : BitVec 4) (d : Line) (ua len : Nat) (b : List Byte) (u : Machine.Acc) (s v : State), s.headDesc t.toNat r.toNat = some d ∧ s.roomCq t.toNat = true ∧ s.fencesMet t.toNat r.toNat d = true ∧ s.slotFree t.toNat r.toNat d = true ∧ (headBad d ++ s.bodyBad d).any (fun e => e.2 && e.1 ≤ 16) = false ∧ s.fnReady t.toNat .mem = true ∧ paramOf d = some (ua, len) ∧ s.mapSrc t.toNat ua len = true ∧ u = { t := t.toNat, cls := min (dClass d) (cfgClassMax (s.wttOf t.toNat).cfg), half := tenantHalf t.toNat, row := 1, who := takeReader t.toNat r.toNat, encs := s.opEncs t.toNat } ∧ u.bytes ua len s = .ok b v) ∧
    (∃ (t : Tenant) (v : W32) (s : State), s.cqOn t.toNat = false) ∧
    (∃ (t : Tenant) (v : W32) (s : State), s.cqOn t.toNat = true ∧ s.tenantFlight t.toNat > 0) ∧
    (∃ (t : Tenant) (v : W32) (s : State), s.tenantFlight t.toNat = 0) ∧
    (∃ (t : Tenant) (v : W32) (s : State), (bits 15 0 v + s.cqSize t.toNat - (s.engOf t.toNat).cqHead % s.cqSize t.toNat) % s.cqSize t.toNat ≤ s.cqUnread t.toNat) ∧
    (∃ (t : Tenant) (v : W32) (s : State), s.cqUnread t.toNat < (bits 15 0 v + s.cqSize t.toNat - (s.engOf t.toNat).cqHead % s.cqSize t.toNat) % s.cqSize t.toNat) ∧
    (∃ (t : Tenant) (s : State), (s.engOf t.toNat).coalescing = true) ∧
    (∃ (t : Tenant) (s : State), (s.engOf t.toNat).coalescing = false) :=
  ⟨⟨0, 15, 0, 0, (({ live with rings := [(15, { st := .running, fetched := [0#512] })] } : State).setBar 0 Reg.DSC_CQ_CFG 0x80000004#32), by decide⟩,
   ⟨255, 15, 0, { zero with rings := [(4095, { st := .running, fetched := [0#512] })] }, by decide⟩,
   ⟨0, 15, 19, (({ live with rings := [(15, { st := .running, fetched := [19#512] })], ops := List.replicate 4096 { dop 0#512 with tenant := 255 } } : State).setBar 0 Reg.DSC_CQ_CFG 0x80000004#32), by decide +kernel, by decide +kernel, by decide +kernel, by decide +kernel⟩,
   ⟨0, 15, 19, (({ live with rings := [(15, { st := .running, fetched := [19#512] })], ops := [dop 18#512] } : State).setBar 0 Reg.DSC_CQ_CFG 0x80000004#32), by decide⟩,
   ⟨255, 15, zero, by decide⟩,
   ⟨0, 15, 19, (({ live with rings := [(15, { st := .running, fetched := [19#512] })] } : State).setBar 0 Reg.DSC_CQ_CFG 0x80000004#32), by decide⟩,
   ⟨7, dop 0#512 (some .timeout), .timeout, { zero with ops := [dop 0#512 (some .timeout)] }, by decide⟩,
   ⟨7, zero, .inl (by decide)⟩,
   ⟨0, 15, dsc [(0, 7), (16, 0x50000)], 0x50000, 192, _, _, (({ read5 with rings := [(15, { st := .running, fetched := [dsc [(0, 7), (16, 0x50000)]] })] } : State).setBar 0 Reg.DSC_CQ_CFG 0x80000004#32), _, by decide +kernel, by decide +kernel, by decide +kernel, by decide +kernel, by decide +kernel, by decide +kernel, by decide +kernel, by decide +kernel, rfl, ends_with (d := []) (by decide +kernel)⟩,
   ⟨255, 0, zero, by decide⟩,
   ⟨0, 0, ({ live with ops := [dop 0#512] } : State).setBar 0 Reg.DSC_CQ_CFG 0x80000004#32, by decide⟩,
   ⟨255, 0, zero, by decide⟩,
   ⟨255, 0, zero, by decide⟩,
   ⟨255, 1, zero.setBar 255 Reg.DSC_CQ_CFG 4#32, by decide⟩,
   ⟨255, { zero with eng := [(255, { coalescing := true, coalOwed := true })] }, by decide⟩,
   ⟨255, zero, by decide⟩⟩

theorem test_meets_DataOperationsRunAndComputeTheirResults :
    (∃ (o : Op) (m : Work (Status × Nat)) (c : Status) (n : Nat) (s u : State), m s = .ok (c, n) u) ∧
    (∃ (o : Op) (m : Work (Status × Nat)) (c : Status) (s u : State), m s = .error (.fail c) u) ∧
    (∃ (o : Op) (m : Work (Status × Nat)) (w : WaitOn) (s u : State), m s = .error (.wait w) u) ∧
    (∃ (i : Nat) (o : Op) (s : State), s.op i = some o ∧ o.done = none ∧ dOp o.desc = 1) ∧
    (∃ (i : Nat) (o : Op) (s : State), s.op i = some o ∧ o.done = none ∧ dOp o.desc = 3) ∧
    (∃ (i : Nat) (o : Op) (s : State), s.op i = some o ∧ o.done = none ∧ dOp o.desc = 4) ∧
    (∃ (i : Nat) (o : Op) (s : State), s.op i = some o ∧ o.done = none ∧ dOp o.desc = 5) ∧
    (∃ (i : Nat) (o : Op) (s : State), s.op i = some o ∧ o.done = none ∧ isConv o.desc = true) ∧
    (∃ (o : Op) (g : Grain) (m : Machine.Acc → Work (Status × Nat)) (c : Status) (n : Nat) (s u v : State), s.tcUp = true ∧ s.kernelGrain o = (some g, u) ∧ u.cutFrom o.tenant g.half = false ∧ u.tcServing g.half ≠ [] ∧ m (o.unitOn g.half) u = .ok (c, n) v) ∧
    (∃ (o : Op) (g : Grain) (m : Machine.Acc → Work (Status × Nat)) (c : Status) (s u v : State), s.tcUp = true ∧ s.kernelGrain o = (some g, u) ∧ u.cutFrom o.tenant g.half = false ∧ u.tcServing g.half ≠ [] ∧ m (o.unitOn g.half) u = .error (.fail c) v) ∧
    (∃ (o : Op) (m : Machine.Acc → Work (Status × Nat)) (s u : State), s.tcUp = true ∧ s.kernelGrain o = (none, u)) ∧
    (∃ (o : Op) (m : Machine.Acc → Work (Status × Nat)) (s : State), s.tcUp = false) ∧
    (∃ (i : Nat) (o : Op) (s u : State), s.op i = some o ∧ o.done = none ∧ dOp o.desc = 2 ∧ isConv o.desc = false ∧ isImage o.desc = false ∧ (spanLines (dUa o.desc 24) (dF o.desc 32 8)).foldlM (copyLine o) (none, 0) s = .ok (none, 0) u) ∧
    (∃ (i : Nat) (o : Op) (c : Status) (n : Nat) (s u : State), s.op i = some o ∧ o.done = none ∧ dOp o.desc = 2 ∧ isConv o.desc = false ∧ isImage o.desc = false ∧ (spanLines (dUa o.desc 24) (dF o.desc 32 8)).foldlM (copyLine o) (none, 0) s = .ok (some c, n) u) ∧
    (∃ (i : Nat) (o : Op) (c : Status) (s u : State), s.op i = some o ∧ o.done = none ∧ dOp o.desc = 2 ∧ isConv o.desc = false ∧ isImage o.desc = false ∧ (spanLines (dUa o.desc 24) (dF o.desc 32 8)).foldlM (copyLine o) (none, 0) s = .error (.fail c) u) ∧
    (∃ (o : Op) (s u : State) (l : Nat), dF o.desc 24 8 ≠ 0 ∧ dUa o.desc 16 / 64 = l ∧ (dUa o.desc 16 + dF o.desc 24 8 - 1) / 64 = l ∧ o.unit.store (64 * l) (linePart (dUa o.desc 16) (fillBytes (dF o.desc 32 8) (dUa o.desc 16) (dF o.desc 24 8)) l).1 (linePart (dUa o.desc 16) (fillBytes (dF o.desc 32 8) (dUa o.desc 16) (dF o.desc 24 8)) l).2 false s = .ok () u) ∧
    (∃ (pat ua n i : Nat), i < n) ∧
    (∃ (o : Op) (s u : State), compareFrom o (dUa o.desc 16) (dUa o.desc 24) (dF o.desc 32 8) (dF o.desc 32 8 + 1) 0 s = .ok none u ∧ dF o.desc 48 1 ≠ 1) ∧
    (∃ (o : Op) (k : Nat) (s u : State), compareFrom o (dUa o.desc 16) (dUa o.desc 24) (dF o.desc 32 8) (dF o.desc 32 8 + 1) 0 s = .ok (some k) u ∧ dF o.desc 48 1 ≠ 1) :=
  ⟨⟨dop 0, (fun s => .ok (.permission, 3) s), .permission, 3, zero, zero, rfl⟩,
   ⟨dop 0, (fun s => .error (.fail .timeout) s), .timeout, zero, zero, rfl⟩,
   ⟨dop 0, (fun s => .error (.wait .other) s), .other, zero, zero, rfl⟩,
   ⟨7, dop 1, { live with ops := [dop 1] }, by decide⟩,
   ⟨7, dop 3, { live with ops := [dop 3] }, by decide⟩,
   ⟨7, dop 4, { live with ops := [dop 4] }, by decide⟩,
   ⟨7, dop 5, { live with ops := [dop 5] }, by decide⟩,
   ⟨7, dop (dsc [(0, 2), (58, 1)]), { live with ops := [dop (dsc [(0, 2), (58, 1)])] }, by decide⟩,
   ⟨dop 4, _, (fun _ s => .ok (.permission, 3) s), .permission, 3, { live with ops := [dop 4] }, _, _, by decide +kernel, some_snd (by decide +kernel), by decide +kernel, by decide +kernel, rfl⟩,
   ⟨dop 4, _, (fun _ s => .error (.fail .timeout) s), .timeout, { live with ops := [dop 4] }, _, _, by decide +kernel, some_snd (by decide +kernel), by decide +kernel, by decide +kernel, rfl⟩,
   ⟨dop 4, (fun _ s => .ok (.ok, 0) s), (({ live with ops := [dop 4] } : State).setStw Reg.TND_TLIM 0#32), _, by decide +kernel, fst_snd (by decide +kernel)⟩,
   ⟨dop 4, (fun _ s => .ok (.ok, 0) s), { live with ops := [dop 4], tcs := (List.range 64).map (fun i => (i, { st := .fenced })) }, by decide⟩,
   ⟨7, dop (dsc [(0, 2), (16, 327680), (24, 331776), (32, 70)]), { read5 with ops := [dop (dsc [(0, 2), (16, 327680), (24, 331776), (32, 70)])] }, endOf ((spanLines (dUa (dop (dsc [(0, 2), (16, 327680), (24, 331776), (32, 70)])).desc 24) (dF (dop (dsc [(0, 2), (16, 327680), (24, 331776), (32, 70)])).desc 32 8)).foldlM (copyLine (dop (dsc [(0, 2), (16, 327680), (24, 331776), (32, 70)]))) (none, 0)) ({ read5 with ops := [dop (dsc [(0, 2), (16, 327680), (24, 331776), (32, 70)])] }), by decide, by decide, by decide, by decide, by decide, eq_of_sameEnd (by decide +kernel)⟩,
   ⟨7, dop (dsc [(0, 2), (16, 335872), (24, 331776), (32, 8)]), .uninitRead, 1, { read5 with ops := [dop (dsc [(0, 2), (16, 335872), (24, 331776), (32, 8)])] }, endOf ((spanLines (dUa (dop (dsc [(0, 2), (16, 335872), (24, 331776), (32, 8)])).desc 24) (dF (dop (dsc [(0, 2), (16, 335872), (24, 331776), (32, 8)])).desc 32 8)).foldlM (copyLine (dop (dsc [(0, 2), (16, 335872), (24, 331776), (32, 8)]))) (none, 0)) ({ read5 with ops := [dop (dsc [(0, 2), (16, 335872), (24, 331776), (32, 8)])] }), by decide, by decide, by decide, by decide, by decide, eq_of_sameEnd (by decide +kernel)⟩,
   ⟨7, dop (dsc [(0, 2), (16, 327680), (24, 393216), (32, 8)]), .permission, { read5 with ops := [dop (dsc [(0, 2), (16, 327680), (24, 393216), (32, 8)])] }, endOf ((spanLines (dUa (dop (dsc [(0, 2), (16, 327680), (24, 393216), (32, 8)])).desc 24) (dF (dop (dsc [(0, 2), (16, 327680), (24, 393216), (32, 8)])).desc 32 8)).foldlM (copyLine (dop (dsc [(0, 2), (16, 327680), (24, 393216), (32, 8)]))) (none, 0)) ({ read5 with ops := [dop (dsc [(0, 2), (16, 327680), (24, 393216), (32, 8)])] }), by decide, by decide, by decide, by decide, by decide, eq_of_sameEnd (by decide +kernel)⟩,
   ⟨dop (dsc [(0, 1), (16, 327736), (24, 8), (32, 255)]), read5, endOf ((dop (dsc [(0, 1), (16, 327736), (24, 8), (32, 255)])).unit.store (64 * 5120) (linePart (dUa (dop (dsc [(0, 1), (16, 327736), (24, 8), (32, 255)])).desc 16) (fillBytes (dF (dop (dsc [(0, 1), (16, 327736), (24, 8), (32, 255)])).desc 32 8) (dUa (dop (dsc [(0, 1), (16, 327736), (24, 8), (32, 255)])).desc 16) (dF (dop (dsc [(0, 1), (16, 327736), (24, 8), (32, 255)])).desc 24 8)) 5120).1 (linePart (dUa (dop (dsc [(0, 1), (16, 327736), (24, 8), (32, 255)])).desc 16) (fillBytes (dF (dop (dsc [(0, 1), (16, 327736), (24, 8), (32, 255)])).desc 32 8) (dUa (dop (dsc [(0, 1), (16, 327736), (24, 8), (32, 255)])).desc 16) (dF (dop (dsc [(0, 1), (16, 327736), (24, 8), (32, 255)])).desc 24 8)) 5120).2 false) (read5), 5120, by decide, by decide, by decide, eq_of_sameEnd (by decide +kernel)⟩,
   ⟨0, 0, 1, 0, by decide⟩,
   ⟨dop (dsc [(0, 3), (16, 327680), (24, 331776), (32, 70)]), read5, endOf (compareFrom (dop (dsc [(0, 3), (16, 327680), (24, 331776), (32, 70)])) 0x50000 0x51000 70 71 0) (read5), eq_of_sameEnd (by decide +kernel), by decide⟩,
   ⟨dop (dsc [(0, 3), (16, 327680), (24, 331776), (32, 70)]), 69, read6, endOf (compareFrom (dop (dsc [(0, 3), (16, 327680), (24, 331776), (32, 70)])) 0x50000 0x51000 70 71 0) (read6), eq_of_sameEnd (by decide +kernel), by decide⟩⟩

theorem test_meets_InstallsAndTierHintsAct :
    (∃ (i : Nat) (o : Op) (img : List Byte) (s u : State), s.op i = some o ∧ o.done = none ∧ isImage o.desc = true ∧ o.installed = dF o.desc 32 4 ∧ o.unit.bytes (dUa o.desc 16) 256 s = .ok img u ∧ u.op o.id = some o) ∧
    (∃ (i : Nat) (o : Op) (img : List Byte) (s u v : State), s.op i = some o ∧ o.done = none ∧ isImage o.desc = true ∧ o.installed ≠ dF o.desc 32 4 ∧ o.unit.bytes (dUa o.desc 16) 256 s = .ok img u ∧ installWork o img u = .ok (some .ok) v ∧ (∀ x, v.op o.id = some x → x.installed ≠ dF o.desc 32 4)) ∧
    (∃ (i p : Nat) (o : Op) (w : Op → Op) (s : State), s.op i = some o ∧ o.done = none ∧ o.started = false ∧ s.split = false ∧ (rangePlots (dF o.desc 16 8) (dF o.desc 24 4)).any (fun q => s.viewHeld o.tenant q) = false ∧ s.hintPlots o = [p] ∧ w = (fun x => { x with started := true, watch := [p], cut := false }) ∧ dOp o.desc = 8) ∧
    (∃ (i p : Nat) (o : Op) (w : Op → Op) (s : State), s.op i = some o ∧ o.done = none ∧ o.started = false ∧ s.split = false ∧ (rangePlots (dF o.desc 16 8) (dF o.desc 24 4)).any (fun q => s.viewHeld o.tenant q) = false ∧ s.hintPlots o = [p] ∧ w = (fun x => { x with started := true, watch := [p], cut := false }) ∧ dOp o.desc = 9 ∧ dF o.desc 28 1 ≠ 1) ∧
    (∃ (i p : Nat) (o : Op) (w : Op → Op) (s : State), s.op i = some o ∧ o.done = none ∧ o.started = false ∧ s.split = false ∧ (rangePlots (dF o.desc 16 8) (dF o.desc 24 4)).any (fun q => s.viewHeld o.tenant q) = false ∧ s.hintPlots o = [p] ∧ w = (fun x => { x with started := true, watch := [p], cut := false }) ∧ dOp o.desc = 9 ∧ dF o.desc 28 1 = 1) ∧
    (∃ (i p : Nat) (o : Op) (w : Op → Op) (s : State), s.op i = some o ∧ o.done = none ∧ o.started = false ∧ s.split = false ∧ (rangePlots (dF o.desc 16 8) (dF o.desc 24 4)).any (fun q => s.viewHeld o.tenant q) = false ∧ s.hintPlots o = [p] ∧ w = (fun x => { x with started := true, watch := [p], cut := false }) ∧ dOp o.desc = 10) ∧
    (∃ (i p : Nat) (o : Op) (w : Op → Op) (s : State), s.op i = some o ∧ o.done = none ∧ o.started = false ∧ s.split = false ∧ (rangePlots (dF o.desc 16 8) (dF o.desc 24 4)).any (fun q => s.viewHeld o.tenant q) = false ∧ s.hintPlots o = [p] ∧ w = (fun x => { x with started := true, watch := [p], cut := false }) ∧ dOp o.desc = 11) ∧
    (∃ (p t cls : Nat) (e : Plot) (s : State), s.plot p = some e ∧ e.st = .near ∧ s.oversize p e = false ∧ e.claimOf t = none ∧ s.nearHeadroom t = true ∧ e.isPool = false ∧ e.claims.all (fun c => !c.pool) = true) :=
  ⟨⟨7, dop (dsc [(0, 2), (58, 2), (16, 327680)]), List.replicate 256 0#8, { read5 with ops := [dop (dsc [(0, 2), (58, 2), (16, 327680)])] }, endOf ((dop (dsc [(0, 2), (58, 2), (16, 327680)])).unit.bytes 0x50000 256) ({ read5 with ops := [dop (dsc [(0, 2), (58, 2), (16, 327680)])] }), by decide, by decide, by decide, by decide, eq_of_sameEnd (by decide +kernel), by decide +kernel⟩,
   ⟨7, imageOp, img6, image6, inst1, installs.choose, by decide, rfl, by decide, by decide, eq_of_sameEnd (by decide +kernel), installs.choose_spec⟩,
   ⟨7, 5, dop (dsc [(0, 8), (16, 5), (24, 1), (28, 0)]), _, { live with ops := [dop (dsc [(0, 8), (16, 5), (24, 1), (28, 0)])] }, by decide, by decide, by decide, by decide, by decide, by decide, rfl, by decide⟩,
   ⟨7, 5, dop (dsc [(0, 9), (16, 5), (24, 1), (28, 0)]), _, { live with ops := [dop (dsc [(0, 9), (16, 5), (24, 1), (28, 0)])] }, by decide, by decide, by decide, by decide, by decide, by decide, rfl, by decide, by decide⟩,
   ⟨7, 5, dop (dsc [(0, 9), (16, 5), (24, 1), (28, 1)]), _, { live with ops := [dop (dsc [(0, 9), (16, 5), (24, 1), (28, 1)])] }, by decide, by decide, by decide, by decide, by decide, by decide, rfl, by decide, by decide⟩,
   ⟨7, 5, dop (dsc [(0, 10), (16, 5), (24, 1), (28, 0)]), _, { live with ops := [dop (dsc [(0, 10), (16, 5), (24, 1), (28, 0)])] }, by decide, by decide, by decide, by decide, by decide, by decide, rfl, by decide⟩,
   ⟨7, 5, dop (dsc [(0, 11), (16, 5), (24, 1), (28, 0)]), _, { live with ops := [dop (dsc [(0, 11), (16, 5), (24, 1), (28, 0)])] }, by decide, by decide, by decide, by decide, by decide, by decide, rfl, by decide⟩,
   ⟨5, 0, 7, { st := .near }, ({ zero with tier := { plots := [(5, { st := .near })] } } : State).setStw Reg.TIR_QUOTA_N 1#32, by decide⟩⟩

theorem test_meets_PublishAcquireAndReleaseRegions :
    (∃ (i : Nat) (o : Op) (s : State), s.op i = some o ∧ o.done = none ∧ dOp o.desc = 12 ∧ o.res = none ∧ o.started = false ∧ s.split = false ∧ (s.region (dF o.desc 16 2)).pub = none ∧ (s.region (dF o.desc 16 2)).ver.toNat = dF o.desc 20 4 ∧ dUa o.desc 24 = 0 ∧ s.shr.resWait = []) ∧
    (∃ (i : Nat) (o : Op) (s : State), s.op i = some o ∧ o.done = none ∧ dOp o.desc = 12 ∧ o.res = none ∧ o.started = false ∧ s.split = false ∧ (s.region (dF o.desc 16 2)).pub = none ∧ (s.region (dF o.desc 16 2)).ver.toNat ≠ dF o.desc 20 4) ∧
    (∃ (i b : Nat) (o : Op) (s : State), s.op i = some o ∧ o.done = none ∧ dOp o.desc = 12 ∧ o.res = none ∧ o.started = false ∧ s.split = false ∧ (s.region (dF o.desc 16 2)).pub = none ∧ (s.region (dF o.desc 16 2)).ver.toNat = dF o.desc 20 4 ∧ dUa o.desc 24 ≠ 0 ∧ (s.region (dF o.desc 16 2)).bufAt (dUa o.desc 24) = some b ∧ (s.region (dF o.desc 16 2)).bufHeld b = true) ∧
    (∃ (i b : Nat) (o : Op) (s : State), s.op i = some o ∧ o.done = none ∧ dOp o.desc = 12 ∧ o.res = none ∧ o.started = false ∧ s.split = false ∧ (s.region (dF o.desc 16 2)).pub = none ∧ (s.region (dF o.desc 16 2)).ver.toNat = dF o.desc 20 4 ∧ dUa o.desc 24 ≠ 0 ∧ (s.region (dF o.desc 16 2)).bufAt (dUa o.desc 24) = some b ∧ (s.region (dF o.desc 16 2)).bufHeld b = false ∧ s.shr.heldMap = []) ∧
    (∃ (o : Op) (c : Status) (v : W32) (s : State), dF o.desc 18 1 ≠ 1) ∧
    (∃ (i : Nat) (o : Op) (s : State), s.op i = some o ∧ o.done = none ∧ o.res = none ∧ o.started = false ∧ s.split = true ∧ dOp o.desc = 12) ∧
    (∃ (i : Nat) (o : Op) (s : State), s.op i = some o ∧ o.done = none ∧ o.res = none ∧ o.started = false ∧ s.split = true ∧ dOp o.desc = 13) ∧
    (∃ (i : Nat) (o : Op) (s : State), s.op i = some o ∧ o.done = none ∧ o.res = none ∧ o.started = false ∧ s.split = true ∧ dOp o.desc = 14) ∧
    (∃ (i : Nat) (o : Op) (s : State), s.op i = some o ∧ o.done = none ∧ o.res = none ∧ s.split = false ∧ (s.region (dF o.desc 16 2)).pub.isSome = true ∧ dOp o.desc = 12) ∧
    (∃ (i : Nat) (o : Op) (s : State), s.op i = some o ∧ o.done = none ∧ o.res = none ∧ s.split = false ∧ (s.region (dF o.desc 16 2)).pub.isSome = true ∧ dOp o.desc = 13) ∧
    (∃ (i : Nat) (o : Op) (s : State), s.op i = some o ∧ o.done = none ∧ o.res = none ∧ s.split = false ∧ (s.region (dF o.desc 16 2)).pub.isSome = true ∧ dOp o.desc = 14) ∧
    (∃ (i : Nat) (o : Op) (s : State), s.op i = some o ∧ o.done = none ∧ dOp o.desc = 13 ∧ o.res = none ∧ o.started = false ∧ s.split = false ∧ (s.region (dF o.desc 16 2)).pub = none ∧ (s.region (dF o.desc 16 2)).pins.find? (fun p => p.tenant = o.tenant && p.buf ≠ (s.region (dF o.desc 16 2)).cur) = none) ∧
    (∃ (i : Nat) (o : Op) (s : State), s.op i = some o ∧ o.done = none ∧ dOp o.desc = 14 ∧ o.started = false ∧ s.split = false ∧ (s.region (dF o.desc 16 2)).pub = none ∧ (s.region (dF o.desc 16 2)).pins.find? (fun p => p.tenant = o.tenant && p.buf ≠ (s.region (dF o.desc 16 2)).cur) = none) :=
  ⟨⟨7, dop 12, { live with ops := [dop 12] }, by decide⟩,
   ⟨7, dop (dsc [(0, 12), (20, 1)]), { live with ops := [dop (dsc [(0, 12), (20, 1)])] }, by decide⟩,
   ⟨7, 0, dop (dsc [(0, 12), (24, 327680)]), { live with ops := [dop (dsc [(0, 12), (24, 327680)])], shr := { regions := [(0, { enabled := true, nbuf := 2, size := 1, bufs := [(0, 5), (1, 6)] })] } }, by decide⟩,
   ⟨7, 0, dop (dsc [(0, 12), (24, 327680)]), { live with ops := [dop (dsc [(0, 12), (24, 327680)])], shr := { regions := [(0, { enabled := true, nbuf := 2, size := 1, bufs := [(0, 5), (1, 6)], cur := 1 })] } }, by decide⟩,
   ⟨dop 12, .staleVersion, 0, zero, by decide⟩,
   ⟨7, dop 12, { live with ops := [dop 12], bridge := { zero.bridge with up := false } }, by decide⟩,
   ⟨7, dop 13, { live with ops := [dop 13], bridge := { zero.bridge with up := false } }, by decide⟩,
   ⟨7, dop 14, { live with ops := [dop 14], bridge := { zero.bridge with up := false } }, by decide⟩,
   ⟨7, dop 12, { live with ops := [dop 12], shr := { regions := [(0, { pub := some { op := 9, buf := none, ver := 1#32 } })] } }, by decide⟩,
   ⟨7, dop 13, { live with ops := [dop 13], shr := { regions := [(0, { pub := some { op := 9, buf := none, ver := 1#32 } })] } }, by decide⟩,
   ⟨7, dop 14, { live with ops := [dop 14], shr := { regions := [(0, { pub := some { op := 9, buf := none, ver := 1#32 } })] } }, by decide⟩,
   ⟨7, dop 13, { live with ops := [dop 13] }, by decide⟩,
   ⟨7, dop 14, { live with ops := [dop 14] }, by decide⟩⟩

theorem test_meets_LoadsMarksAndFencesComplete :
    (∃ (i : Nat) (o : Op) (img : List Byte) (c : Status) (s s1 u v : State), s.op i = some o ∧ o.done = none ∧ dOp o.desc = 15 ∧ s.split = false ∧ s1 = s.modOp i (fun x => { x with started := true }) ∧ o.unit.bytes (dUa o.desc 16) 4096 s1 = .ok img u ∧ v = o.unit.ends u ∧ c = v.tableStatus (dF o.desc 24 1) o.tenant img (v.otherLoad i 15 (dF o.desc 24 2))) ∧
    (∃ (i : Nat) (o : Op) (h code : List Byte) (c : Status) (s s1 u v w : State), s.op i = some o ∧ o.done = none ∧ dOp o.desc = 16 ∧ s.split = false ∧ s1 = s.modOp i (fun x => { x with started := true }) ∧ o.unit.bytes (dUa o.desc 16) 64 s1 = .ok h u ∧ ((pimgHeadOk h && u.mapSrc o.tenant (dUa o.desc 16) (64 + pimgLen h)) = true ∧ o.unit.bytes (dUa o.desc 16 + 64) (pimgLen h) u = .ok code v ∨ (pimgHeadOk h && u.mapSrc o.tenant (dUa o.desc 16) (64 + pimgLen h)) = false ∧ code = [] ∧ v = u) ∧ w = o.unit.ends v ∧ c = w.progStatus (dF o.desc 24 2) o.tenant (dUa o.desc 16) h code (w.otherLoad i 16 (dF o.desc 24 2))) ∧
    (∃ (i : Nat) (o : Op) (c : Status) (s s1 u : State), s.op i = some o ∧ o.done = none ∧ s.split = false ∧ s1 = s.modOp i (fun x => { x with started := true }) ∧ dOp o.desc = 15 ∧ o.unit.bytes (dUa o.desc 16) 4096 s1 = .error (.fail c) u) ∧
    (∃ (i : Nat) (o : Op) (c : Status) (s s1 u : State), s.op i = some o ∧ o.done = none ∧ s.split = false ∧ s1 = s.modOp i (fun x => { x with started := true }) ∧ dOp o.desc = 16 ∧ o.unit.bytes (dUa o.desc 16) 64 s1 = .error (.fail c) u) ∧
    (∃ (i : Nat) (o : Op) (h r : List Byte) (c : Status) (s u v w : State), s.op i = some o ∧ o.done = none ∧ dOp o.desc = 17 ∧ o.started = false ∧ o.unit.bytes (dUa o.desc 16) 64 s = .ok h u ∧ u.mapSrc o.tenant (dUa o.desc 16) (aimgLen h) = true ∧ o.unit.bytes (dUa o.desc 16 + 64) (aimgLen h - 64) u = .ok r v ∧ w = o.unit.ends v ∧ c = w.loadCheck (dF o.desc 24 2) o.tenant (dUa o.desc 16) (h ++ r) ∧ w.split = false ∧ w.cal (dF o.desc 24 2) = none) ∧
    (∃ (i : Nat) (o : Op) (s : State), s.op i = some o ∧ o.done = none ∧ (dOp o.desc = 15 ∨ dOp o.desc = 16) ∧ s.split = true) ∧
    (∃ (i : Nat) (o : Op) (c : Status) (s u : State), s.op i = some o ∧ o.done = none ∧ dOp o.desc = 18 ∧ o.started = false ∧ s.sendMark (tenantHalf o.tenant) (some i) (dF o.desc 20 2) o.tenant (BitVec.ofNat 32 (dF o.desc 16 4)) = (c, u)) ∧
    (∃ (i : Nat) (o : Op) (s : State), s.op i = some o ∧ o.done = none ∧ dOp o.desc = 19) :=
  ⟨⟨7, dop (dsc [(0, 15), (16, 327680)]), _, _, { read5 with ops := [dop (dsc [(0, 15), (16, 327680)])] }, _, _, _, by decide, by decide, by decide, by decide, rfl, ends_with (d := []) (by decide +kernel), rfl, rfl⟩,
   ⟨7, dop (dsc [(0, 16), (16, 327680)]), _, _, _, { read7 with ops := [dop (dsc [(0, 16), (16, 327680)])] }, _, _, _, _, by decide, by decide, by decide, by decide, rfl, ends_with (d := []) (by decide +kernel), .inl ⟨by decide +kernel, ends_with (d := []) (by decide +kernel)⟩, rfl, rfl⟩,
   ⟨7, dop (dsc [(0, 15), (16, 335872)]), .uninitRead, { read5 with ops := [dop (dsc [(0, 15), (16, 335872)])] }, _, endOf ((dop (dsc [(0, 15), (16, 335872)])).unit.bytes 0x52000 4096) (({ read5 with ops := [dop (dsc [(0, 15), (16, 335872)])] } : State).modOp 7 (fun x => { x with started := true })), by decide, by decide, by decide, rfl, by decide, eq_of_sameEnd (by decide +kernel)⟩,
   ⟨7, dop (dsc [(0, 16), (16, 335872)]), .uninitRead, { read5 with ops := [dop (dsc [(0, 16), (16, 335872)])] }, _, endOf ((dop (dsc [(0, 16), (16, 335872)])).unit.bytes 0x52000 64) (({ read5 with ops := [dop (dsc [(0, 16), (16, 335872)])] } : State).modOp 7 (fun x => { x with started := true })), by decide, by decide, by decide, rfl, by decide, eq_of_sameEnd (by decide +kernel)⟩,
   ⟨7, dop (dsc [(0, 17), (16, 327680), (24, 1023)]), _, _, _, { read8 with ops := [dop (dsc [(0, 17), (16, 327680), (24, 1023)])] }, _, _, _, by decide, by decide, by decide, by decide, ends_with (d := []) (by decide +kernel), by decide +kernel, ends_with (d := []) (by decide +kernel), rfl, rfl, by decide +kernel, by decide +kernel⟩,
   ⟨7, dop 16, { live with ops := [dop 16], bridge := { zero.bridge with up := false } }, by decide⟩,
   ⟨7, dop 18, _, { live with ops := [dop 18] }, _, by decide, by decide, by decide, by decide, rfl⟩,
   ⟨7, dop 19, { live with ops := [dop 19] }, by decide⟩⟩

theorem test_meets_ExpertJobsRouteAndCombine :
    (∃ (i : Nat) (o : Op) (g : Grain) (l : List Route) (s v u : State), s.op i = some o ∧ o.done = none ∧ dOp o.desc = 6 ∧ s.tcUp = true ∧ s.feUp = true ∧ s.xjob o.id = none ∧ s.kernelGrain o = (some g, v) ∧ v.cutFrom o.tenant g.half = false ∧ v.tcServing g.half ≠ [] ∧ routeWork o (o.unitOn g.half) v = .ok (.ok l) u) ∧
    (∃ (i : Nat) (o : Op) (g : Grain) (c : Status) (s v u : State), s.op i = some o ∧ o.done = none ∧ dOp o.desc = 6 ∧ s.tcUp = true ∧ s.feUp = true ∧ s.xjob o.id = none ∧ s.kernelGrain o = (some g, v) ∧ v.cutFrom o.tenant g.half = false ∧ v.tcServing g.half ≠ [] ∧ routeWork o (o.unitOn g.half) v = .ok (.error c) u) ∧
    (∃ (i : Nat) (o : Op) (g : Grain) (c : Status) (s v u : State), s.op i = some o ∧ o.done = none ∧ dOp o.desc = 6 ∧ s.tcUp = true ∧ s.feUp = true ∧ s.xjob o.id = none ∧ s.kernelGrain o = (some g, v) ∧ v.cutFrom o.tenant g.half = false ∧ v.tcServing g.half ≠ [] ∧ routeWork o (o.unitOn g.half) v = .error (.fail c) u) ∧
    (∃ (o : Op) (a : Machine.Acc) (l : List Route) (s u : State), routesOf o a s = .ok l u ∧ l.all (routeOk (dF o.desc 50 2)) = false) ∧
    (∃ (i : Nat) (o : Op) (j : XJob) (s : State), s.op i = some o ∧ o.done = none ∧ dOp o.desc = 6 ∧ s.tcUp = true ∧ s.feUp = true ∧ s.xjob o.id = some j ∧ j.strips ≤ j.jc0) ∧
    (∃ (i : Nat) (o : Op) (j : XJob) (s : State), s.op i = some o ∧ s.xjob o.id = some j ∧ j.jc0 < j.strips ∧ s.tcUp = true ∧ s.feUp = true) ∧
    (∃ (i : Nat) (o : Op) (s : State), s.op i = some o ∧ o.done = none ∧ dOp o.desc = 6 ∧ (s.tcUp = false ∨ s.feUp = false)) ∧
    (∃ (fe fmt tag : Nat) (codes : List Nat) (scales : List Byte), fe < 16 ∧ fmt < 256) ∧
    (∃ (b : OutBlk), (hdrOf b.hdr).ver = 1 ∧ (hdrOf b.hdr).mode = 3 ∧ (hdrOf b.hdr).slot = 0xFF ∧ (hdrOf b.hdr).gen = 0 ∧ (hdrOf b.hdr).len = 64 ∧ layOk (hdrOf b.hdr).fmt (hdrOf b.hdr).lay = true ∧ b.body.length = (hdrOf b.hdr).xlen ∧ (crc32c b.body).toNat ≠ (hdrOf b.hdr).check) ∧
    (∃ (fe : BitVec 4) (p : PlotNo) (k : BitVec 4) (s u : State), s.wblockSnoops (16 * p.toNat + k.toNat) = [] ∧ s.fillDone fe.toNat (16 * p.toNat + k.toNat) = (true, u)) ∧
    (∃ (fe : BitVec 4) (p : PlotNo) (k : BitVec 4) (s : State) (x : Nat × List Nat × Bool) (l : List (Nat × List Nat × Bool)), s.wblockSnoops (16 * p.toNat + k.toNat) = x :: l ∧ s.split = false) ∧
    (∃ (fe b bank : Nat) (e : Plot) (got : Option (Status × List Byte)) (s u v w : State), (s.fe fe).fills.any (fun r => r.block = b) = true ∧ s.plot (b / 16) = some e ∧ e.st ≠ .promoting ∧ s.admitFill fe b = (true, u) ∧ u.stageRoom fe (u.stagedBytes b) ((s.fe fe).staged.length + 1) = (some bank, v) ∧ v.fetchBlock fe b e = (some got, w)) :=
  ⟨⟨7, dop 6, _, [], { live with ops := [dop 6] }, _, endOf (routeWork (dop 6) ((dop 6).unitOn .north)) ((({ live with ops := [dop 6] } : State).kernelGrain (dop 6)).2), by decide, by decide, by decide, by decide +kernel, by decide +kernel, by decide +kernel, some_snd (by decide +kernel), by decide +kernel, by decide +kernel, eq_of_sameEnd (by decide +kernel)⟩,
   ⟨7, dop (dsc [(0, 6), (48, 1), (54, 1), (32, 327680)]), _, .badDescriptor, { read5 with ops := [dop (dsc [(0, 6), (48, 1), (54, 1), (32, 327680)])] }, _, endOf (routeWork (dop (dsc [(0, 6), (48, 1), (54, 1), (32, 327680)])) ((dop (dsc [(0, 6), (48, 1), (54, 1), (32, 327680)])).unitOn .north)) ((({ read5 with ops := [dop (dsc [(0, 6), (48, 1), (54, 1), (32, 327680)])] } : State).kernelGrain (dop (dsc [(0, 6), (48, 1), (54, 1), (32, 327680)]))).2), by decide, by decide, by decide, by decide +kernel, by decide +kernel, by decide +kernel, some_snd (by decide +kernel), by decide +kernel, by decide +kernel, eq_of_sameEnd (by decide +kernel)⟩,
   ⟨7, dop (dsc [(0, 6), (48, 1), (54, 1), (32, 335872)]), _, .uninitRead, { read5 with ops := [dop (dsc [(0, 6), (48, 1), (54, 1), (32, 335872)])] }, _, endOf (routeWork (dop (dsc [(0, 6), (48, 1), (54, 1), (32, 335872)])) ((dop (dsc [(0, 6), (48, 1), (54, 1), (32, 335872)])).unitOn .north)) ((({ read5 with ops := [dop (dsc [(0, 6), (48, 1), (54, 1), (32, 335872)])] } : State).kernelGrain (dop (dsc [(0, 6), (48, 1), (54, 1), (32, 335872)]))).2), by decide, by decide, by decide, by decide +kernel, by decide +kernel, by decide +kernel, some_snd (by decide +kernel), by decide +kernel, by decide +kernel, eq_of_sameEnd (by decide +kernel)⟩,
   ⟨dop (dsc [(0, 6), (48, 1), (54, 1), (32, 327680)]), (dop (dsc [(0, 6), (48, 1), (54, 1), (32, 327680)])).unit, [[(0, 0#32)]], read5, endOf (routesOf (dop (dsc [(0, 6), (48, 1), (54, 1), (32, 327680)])) (dop (dsc [(0, 6), (48, 1), (54, 1), (32, 327680)])).unit) read5, eq_of_sameEnd (by decide +kernel), by decide +kernel⟩,
   ⟨7, dop 6, { op := 7, routes := [], results := [], strips := 0, experts := 3 }, { live with ops := [dop 6], xjobs := [{ op := 7, routes := [], results := [], strips := 0, experts := 3 }] }, by decide⟩,
   ⟨7, dop 6, { op := 7, routes := [], results := [], strips := 1, experts := 3 }, { live with ops := [dop 6], xjobs := [{ op := 7, routes := [], results := [], strips := 1, experts := 3 }] }, by decide⟩,
   ⟨7, dop 6, { live with ops := [dop 6], fes := (List.range 16).map (fun i => (i, { ctl := { st := .fenced } })) }, by decide⟩,
   ⟨15, 255, 0, [], [], by decide⟩,
   ⟨{ hdr := [0x1C, 0x60, 0xFF, 0, 64, 0, 0, 0, 1, 0, 0, 0, 0, 0, 0, 0], body := [] }, by decide⟩,
   ⟨15, 0, 15, zero, zero, by decide⟩,
   ⟨15, 5, 0, { zero with shr := { regions := [(0, { enabled := true, size := 1, bufs := [(0, 5)] })], dir := [(5120, { st := .owned, holders := [254], region := 0, used := 0 })] } }, (5120, [254], false), [], by decide⟩,
   ⟨15, 80, _, { st := .bulk, mode := .raw }, none, { zero with fes := [(15, { fills := [{ block := 80, tenant := none, firing := none, by_ := 0, cls := 0 }] })], tier := { plots := [(5, { st := .bulk, mode := .raw })] } }, _, _, _, by decide, by decide, by decide, fst_snd (by decide +kernel), some_snd (by decide +kernel), fst_snd (by decide +kernel)⟩⟩

theorem test_meets_EnginesRunTilesAndStripsAndDuplicates :
    (∃ (fe : BitVec 4) (s : State), (s.fe fe.toNat).ctl.st ≠ .inService ∨ (s.fe fe.toNat).tile.isSome = true) ∧
    (∃ (fe : BitVec 4) (s u : State), (s.fe fe.toNat).ctl.st = .inService ∧ (s.fe fe.toNat).tile = none ∧ u = (((forAll ((s.stopGrains fe.toNat).fe fe.toNat).grains (fun g s => s.fetchAhead fe.toNat g) (s.stopGrains fe.toNat)).markReady fe.toNat).countWaits fe.toNat).startBanks fe.toNat ∧ u.pickTile fe.toNat (fun g => u.banksOn fe.toNat g) = none) ∧
    (∃ (fe : BitVec 4) (s u : State) (g : _), (s.fe fe.toNat).ctl.st = .inService ∧ (s.fe fe.toNat).tile = none ∧ u = (((forAll ((s.stopGrains fe.toNat).fe fe.toNat).grains (fun g s => s.fetchAhead fe.toNat g) (s.stopGrains fe.toNat)).markReady fe.toNat).countWaits fe.toNat).startBanks fe.toNat ∧ u.pickTile fe.toNat (fun g => u.banksOn fe.toNat g) = some g) ∧
    (∃ (f : Nat) (g : FGrain) (e : Epb) (w : EpbEnt) (st : Strip) (r : List Strip) (s : State), s.epbFor g = some (e, w) ∧ g.strips = st :: r) ∧
    (∃ (fe : BitVec 4) (d : List (BitVec 12 × W32)) (s : State), (s.fe fe.toNat).tile = none) ∧
    (∃ (fe : BitVec 4) (d : List (BitVec 12 × W32)) (t : Tile) (g : FGrain) (o : Op) (st : Strip) (r : List Strip) (e : Epb) (a : List (List W32)) (s u : State) (c : _), (s.fe fe.toNat).tile = some t ∧ u = s.modFe fe.toNat (fun x => { x with tile := none, staged := x.staged.filter (fun y => !(y.drop && nmem y.block t.blocks)) }) ∧ (u.fe fe.toNat).grains.find? (fun g => g.id = t.grain) = some g ∧ u.op g.op = some o ∧ o.done = none ∧ u.idleRole g = false ∧ g.strips = st :: r ∧ e = epbOf o.param ∧ a = wrongAcc d t.acc ∧ t.fail = some c) ∧
    (∃ (fe : BitVec 4) (d : List (BitVec 12 × W32)) (t : Tile) (g : FGrain) (o : Op) (st : Strip) (r : List Strip) (e : Epb) (a : List (List W32)) (s u : State), (s.fe fe.toNat).tile = some t ∧ u = s.modFe fe.toNat (fun x => { x with tile := none, staged := x.staged.filter (fun y => !(y.drop && nmem y.block t.blocks)) }) ∧ (u.fe fe.toNat).grains.find? (fun g => g.id = t.grain) = some g ∧ u.op g.op = some o ∧ o.done = none ∧ u.idleRole g = false ∧ g.strips = st :: r ∧ e = epbOf o.param ∧ a = wrongAcc d t.acc ∧ t.fail = none ∧ t.kEnd < (e.chain (epbEnt o.param g.expert) st g.second).2.1) ∧
    (∃ (fe : BitVec 4) (d : List (BitVec 12 × W32)) (t : Tile) (g : FGrain) (o : Op) (st : Strip) (r : List Strip) (e : Epb) (a : List (List W32)) (s u : State), (s.fe fe.toNat).tile = some t ∧ u = s.modFe fe.toNat (fun x => { x with tile := none, staged := x.staged.filter (fun y => !(y.drop && nmem y.block t.blocks)) }) ∧ (u.fe fe.toNat).grains.find? (fun g => g.id = t.grain) = some g ∧ u.op g.op = some o ∧ o.done = none ∧ u.idleRole g = false ∧ g.strips = st :: r ∧ e = epbOf o.param ∧ a = wrongAcc d t.acc ∧ t.fail = none ∧ (e.chain (epbEnt o.param g.expert) st g.second).2.1 ≤ t.kEnd ∧ st.down = false ∧ e.gated = true ∧ g.second = false) ∧
    (∃ (fe : BitVec 4) (d : List (BitVec 12 × W32)) (t : Tile) (g : FGrain) (o : Op) (st : Strip) (r : List Strip) (e : Epb) (a : List (List W32)) (s u : State), (s.fe fe.toNat).tile = some t ∧ u = s.modFe fe.toNat (fun x => { x with tile := none, staged := x.staged.filter (fun y => !(y.drop && nmem y.block t.blocks)) }) ∧ (u.fe fe.toNat).grains.find? (fun g => g.id = t.grain) = some g ∧ u.op g.op = some o ∧ o.done = none ∧ u.idleRole g = false ∧ g.strips = st :: r ∧ e = epbOf o.param ∧ a = wrongAcc d t.acc ∧ t.fail = none ∧ (e.chain (epbEnt o.param g.expert) st g.second).2.1 ≤ t.kEnd ∧ (st.down = true ∨ e.gated = false ∨ g.second = true)) ∧
    (∃ (f : Nat) (g : FGrain) (o : Op) (st : Strip) (a0 a1 : List (List W32)) (q : List OutBlk × Cnts) (s : State), g.role = .primary ∧ g.dup = none ∧ q = stripOut f g (epbOf o.param) o.rnd st (stripVals (epbOf o.param) (epbEnt o.param g.expert) st a0 a1)) ∧
    (∃ (f : Nat) (g : FGrain) (o : Op) (st : Strip) (l : List OutBlk) (j : XJob) (s : State), (s.fe f).grains.find? (fun x => x.id = g.id) = some g ∧ st.down = true ∧ s.xjob g.op = some j) ∧
    (∃ (o : Op) (s : State), dFlags o.desc / 8 % 2 ≠ 1 ∧ bit 31 (s.stw Reg.FLE_DUPCFG) = false) ∧
    (∃ (f : Nat) (g : FGrain) (o : Op) (st : Strip) (s : State), s.sampled o = false) ∧
    (∃ (f : Nat) (g : FGrain) (o : Op) (st : Strip) (s : State), s.sampled o = true ∧ s.tickFree.nextFe f [] = none) ∧
    (∃ (f : Nat) (g : FGrain) (o : Op) (st : Strip) (s : State) (c : _), s.sampled o = true ∧ s.tickFree.nextFe f [] = some c) ∧
    (∃ (i : Nat) (d : Dup) (o : Op) (a b : List OutBlk) (s : State), s.dup i = some d ∧ s.op d.op = some o ∧ d.out1 = some a ∧ d.out2 = some b ∧ sameOut a b = true) ∧
    (∃ (i : Nat) (d : Dup) (o : Op) (a b : List OutBlk) (s : State), s.dup i = some d ∧ s.op d.op = some o ∧ d.out1 = some a ∧ d.out2 = some b ∧ sameOut a b = false) ∧
    (∃ (d : Dup) (fence : Nat → Nat → State → State) (s : State), s.nextFe d.checker [d.primary, d.checker] = none) ∧
    (∃ (d : Dup) (fence : Nat → Nat → State → State) (out3 : Option (List OutBlk)) (o : Op) (n : Nat) (agrees : Option (List OutBlk) → Bool) (s : State), s.op d.op = some o ∧ o.done = none ∧ agrees = (fun x => match x, out3 with | some a, some b => sameOut a b | _, _ => false) ∧ n = (if agrees d.out1 then d.checker else d.primary) ∧ (s.fe n).ctl.st = .inService) ∧
    (∃ (f cause : Nat) (cmd : Bool) (s : State), (s.fe f).grains = [] ∧ (s.fe f).fills = []) ∧
    (∃ (n c : Nat) (s : State), s.nextFe n [] = some c ∧ n < 16) :=
  ⟨⟨15, { zero with fes := [(15, { ctl := { st := .fenced } })] }, by decide⟩,
   ⟨15, zero, _, by decide, by decide, rfl, by decide +kernel⟩,
   ⟨15, (({ zero with ops := [xop], fes := [(15, { grains := [grn [{ down := false, index := 0 }]] })] } : State).setStw (Reg.FLE_CFG + 60) 0#32), _, _, by decide, by decide, rfl, (Option.some_get (by decide +kernel)).symm⟩,
   ⟨15, grn [{ down := false, index := 0 }], epbOf epb, epbEnt epb 0, { down := false, index := 0 }, [], { zero with ops := [xop] }, by decide⟩,
   ⟨15, [], zero, by decide⟩,
   ⟨15, [], { grain := 3, kEnd := 64, acc := [], fail := some .timeout }, grn [{ down := false, index := 0 }] false, xop, { down := false, index := 0 }, [], _, _, tiled (grn [{ down := false, index := 0 }] false) 64 (some .timeout), _, .timeout, by decide, rfl, by decide, by decide, by decide, by decide, by decide, rfl, rfl, by decide⟩,
   ⟨15, [], { grain := 3, kEnd := 64, acc := [], fail := none }, grn [{ down := false, index := 0 }] false, xop, { down := false, index := 0 }, [], _, _, tiled (grn [{ down := false, index := 0 }] false) 64 (none), _, by decide, rfl, by decide, by decide, by decide, by decide, by decide, rfl, rfl, by decide, by decide⟩,
   ⟨15, [], { grain := 3, kEnd := 2048, acc := [], fail := none }, grn [{ down := false, index := 0 }] false, xop, { down := false, index := 0 }, [], _, _, tiled (grn [{ down := false, index := 0 }] false) 2048 (none), _, by decide, rfl, by decide, by decide, by decide, by decide, by decide, rfl, rfl, by decide, by decide, by decide, by decide, by decide⟩,
   ⟨15, [], { grain := 3, kEnd := 64, acc := [], fail := none }, grn [{ down := true, index := 0 }] false, xop, { down := true, index := 0 }, [], _, _, tiled (grn [{ down := true, index := 0 }] false) 64 (none), _, by decide, rfl, by decide, by decide, by decide, by decide, by decide, rfl, rfl, by decide, by decide, by decide⟩,
   ⟨15, grn [{ down := false, index := 0 }], xop, { down := false, index := 0 }, [], [], _, zero, by decide, by decide, rfl⟩,
   ⟨15, grn [{ down := true, index := 0 }], xop, { down := true, index := 0 }, [], { op := 7, routes := [], results := [], strips := 1, experts := 3 }, { zero with fes := [(15, { grains := [grn [{ down := true, index := 0 }]] })], xjobs := [{ op := 7, routes := [], results := [], strips := 1, experts := 3 }] }, by decide⟩,
   ⟨dop 6, zero.setStw Reg.FLE_DUPCFG 0#32, by decide⟩,
   ⟨15, grn, dop 6, { down := false, index := 0 }, zero.setStw Reg.FLE_DUPCFG 0#32, by decide⟩,
   ⟨15, grn, dop (dsc [(0, 6), (1, 8)]), { down := false, index := 0 }, { zero with fes := (List.range 16).map (fun i => (i, { ctl := { st := .fenced } })) }, by decide, by decide +kernel⟩,
   ⟨15, grn, dop (dsc [(0, 6), (1, 8)]), { down := false, index := 0 }, zero, _, by decide, (Option.some_get (by decide +kernel)).symm⟩,
   ⟨1, { id := 1, op := 7, grain := 3, primary := 15, strip := { down := false, index := 0 }, checker := 0, out1 := some [], out2 := some [] }, xop, [], [], { zero with ops := [xop], dups := [{ id := 1, op := 7, grain := 3, primary := 15, strip := { down := false, index := 0 }, checker := 0, out1 := some [], out2 := some [] }] }, by decide⟩,
   ⟨1, { id := 1, op := 7, grain := 3, primary := 15, strip := { down := false, index := 0 }, checker := 0, out1 := some [⟨[], []⟩], out2 := some [] }, xop, [⟨[], []⟩], [], { zero with ops := [xop], dups := [{ id := 1, op := 7, grain := 3, primary := 15, strip := { down := false, index := 0 }, checker := 0, out1 := some [⟨[], []⟩], out2 := some [] }] }, by decide⟩,
   ⟨{ id := 1, op := 7, grain := 3, primary := 15, strip := { down := false, index := 0 }, checker := 0, out1 := some [], out2 := some [] }, State.fenceDup, { zero with fes := (List.range 16).map (fun i => (i, { ctl := { st := .fenced } })) }, by decide +kernel⟩,
   ⟨{ id := 1, op := 7, grain := 3, primary := 15, strip := { down := false, index := 0 }, checker := 0, out1 := some [], out2 := some [] }, State.fenceDup, none, xop, _, _, { zero with ops := [xop], dups := [{ id := 1, op := 7, grain := 3, primary := 15, strip := { down := false, index := 0 }, checker := 0, out1 := some [], out2 := some [] }] }, by decide, by decide, rfl, rfl, by decide⟩,
   ⟨15, 0, true, zero, by decide⟩,
   ⟨15, _, zero, (Option.some_get (by decide +kernel)).symm, by decide⟩⟩

theorem test_meets_UnitsAreFencedTestedAndReturned :
    (∃ (f c : Nat) (b : Bool) (s : State), (∀ g ∈ (s.fe f).grains, g.role = .primary)) ∧
    (∃ (n : BitVec 4) (s : State), (s.fe n.toNat).ctl.st = .inService ∧ s.fenceCheck Reg.FLE_FSTAT .inService false = .ok) ∧
    (∃ (n : BitVec 4) (s : State) (r : _), s.fenceCheck Reg.FLE_FSTAT (s.fe n.toNat).ctl.st (decide ((s.fe n.toNat).ctl.st ≠ .inService)) = r ∧ r ≠ .ok) ∧
    (∃ (n : BitVec 6) (s : State), (s.tc n.toNat).st = .inService ∧ s.fenceCheck Reg.TND_FSTAT .inService false = .ok) ∧
    (∃ (n : BitVec 6) (s : State) (r : _), s.fenceCheck Reg.TND_FSTAT (s.tc n.toNat).st (decide ((s.tc n.toNat).st ≠ .inService)) = r ∧ r ≠ .ok) ∧
    (∃ (n : BitVec 4) (s : State), (s.fe n.toNat).ctl.st = .fencing) ∧
    (∃ (n : BitVec 4) (s : State), (s.fe n.toNat).ctl.st ≠ .fencing) ∧
    (∃ (n : BitVec 6) (s : State), (s.tc n.toNat).st = .fencing) ∧
    (∃ (n : BitVec 6) (s : State), (s.tc n.toNat).st ≠ .fencing) ∧
    (∃ (n : BitVec 4) (s : State), (s.fe n.toNat).ctl.st = .fenced ∧ s.fenceCheck Reg.FLE_FSTAT .fenced false = .ok) ∧
    (∃ (n : BitVec 4) (s : State) (r : _), s.fenceCheck Reg.FLE_FSTAT (s.fe n.toNat).ctl.st (decide ((s.fe n.toNat).ctl.st ≠ .fenced)) = r ∧ r ≠ .ok) ∧
    (∃ (n : BitVec 6) (s : State), (s.tc n.toNat).st = .fenced ∧ s.fenceCheck Reg.TND_FSTAT .fenced false = .ok) ∧
    (∃ (n : BitVec 6) (s : State) (r : _), s.fenceCheck Reg.TND_FSTAT (s.tc n.toNat).st (decide ((s.tc n.toNat).st ≠ .fenced)) = r ∧ r ≠ .ok) ∧
    (∃ (n : BitVec 4) (pass : Bool) (s : State), (s.fe n.toNat).ctl.st = .testing ∧ s.holdsGrant 6 (scFe n.toNat) = true) ∧
    (∃ (n : BitVec 4) (pass : Bool) (s : State), (s.fe n.toNat).ctl.st ≠ .testing ∨ s.holdsGrant 6 (scFe n.toNat) = false) ∧
    (∃ (n : BitVec 6) (pass : Bool) (s : State), (s.tc n.toNat).st = .testing ∧ s.holdsGrant 6 (scTc n.toNat) = true) ∧
    (∃ (n : BitVec 6) (pass : Bool) (s : State), (s.tc n.toNat).st ≠ .testing ∨ s.holdsGrant 6 (scTc n.toNat) = false) ∧
    (∃ (n : BitVec 4) (s : State), (s.fe n.toNat).ctl.st = .fenced ∧ (s.fe n.toNat).ctl.tpass = true ∧ s.fenceCheck Reg.FLE_FSTAT .fenced false = .ok) ∧
    (∃ (n : BitVec 4) (s : State) (r : _), s.fenceCheck Reg.FLE_FSTAT (s.fe n.toNat).ctl.st ((s.fe n.toNat).ctl.st ≠ .fenced || !(s.fe n.toNat).ctl.tpass) = r ∧ r ≠ .ok) ∧
    (∃ (n : BitVec 6) (s : State), (s.tc n.toNat).st = .fenced ∧ (s.tc n.toNat).tpass = true ∧ s.fenceCheck Reg.TND_FSTAT .fenced false = .ok) ∧
    (∃ (n : BitVec 6) (s : State) (r : _), s.fenceCheck Reg.TND_FSTAT (s.tc n.toNat).st ((s.tc n.toNat).st ≠ .fenced || !(s.tc n.toNat).tpass) = r ∧ r ≠ .ok) ∧
    (∃ (stat : Nat) (u : UnitSt) (d : Bool) (s : State), s.conflict = true) ∧
    (∃ (stat : Nat) (u : UnitSt) (d : Bool) (s : State), s.conflict = false ∧ (bit 31 (s.stw stat) = true ∨ u = .fencing ∨ u = .testing)) ∧
    (∃ (stat : Nat) (u : UnitSt) (d : Bool) (s : State), s.conflict = false ∧ bit 31 (s.stw stat) = false ∧ (u = .inService ∨ u = .fenced)) ∧
    (∃ (n : BitVec 4) (s : State), s.stwF Reg.RAS_FTCFG 15 0 ≠ 0) ∧
    (∃ (n : BitVec 6) (s : State), s.stwF Reg.RAS_FTCFG 15 0 ≠ 0) ∧
    (∃ (u : TestUnit) (s : State), s.stwF Reg.RAS_FTCFG 15 0 = 0) ∧
    (∃ (n : BitVec 4) (s : State), (s.fe n.toNat).ctl.fieldTest = true) ∧
    (∃ (n : BitVec 6) (s : State), (s.tc n.toNat).fieldTest = true) ∧
    (∃ (n : BitVec 4) (p : Bool) (s : State), (s.fe n.toNat).ctl.fieldTest = false) ∧
    (∃ (n : BitVec 6) (p : Bool) (s : State), (s.tc n.toNat).fieldTest = false) :=
  ⟨⟨15, 0, true, zero, by decide⟩,
   ⟨15, zero, by decide⟩,
   ⟨15, { zero with fes := [(15, { ctl := { st := .fenced } })] }, _, rfl, by decide⟩,
   ⟨63, zero, by decide⟩,
   ⟨63, { zero with tcs := [(63, { st := .fenced })] }, _, rfl, by decide⟩,
   ⟨15, { zero with fes := [(15, { ctl := { st := .fencing } })] }, by decide⟩,
   ⟨15, zero, by decide⟩,
   ⟨63, { zero with tcs := [(63, { st := .fencing })] }, by decide⟩,
   ⟨63, zero, by decide⟩,
   ⟨15, { zero with fes := [(15, { ctl := { st := .fenced } })] }, by decide⟩,
   ⟨15, zero, _, rfl, by decide⟩,
   ⟨63, { zero with tcs := [(63, { st := .fenced })] }, by decide⟩,
   ⟨63, zero, _, rfl, by decide⟩,
   ⟨15, true, { zero with fes := [(15, { ctl := { st := .testing } })], ras := { acts := [{ id := 0, code := 6, scope := [2015], unit := 2015, start := 0, granted := true }] } }, by decide⟩,
   ⟨15, true, zero, by decide⟩,
   ⟨63, false, { zero with tcs := [(63, { st := .testing })], ras := { acts := [{ id := 0, code := 6, scope := [2163], unit := 2163, start := 0, granted := true }] } }, by decide⟩,
   ⟨63, true, zero, by decide⟩,
   ⟨15, { zero with fes := [(15, { ctl := { st := .fenced, tpass := true } })] }, by decide⟩,
   ⟨15, { zero with fes := [(15, { ctl := { st := .fenced } })] }, _, rfl, by decide⟩,
   ⟨63, { zero with tcs := [(63, { st := .fenced, tpass := true })] }, by decide⟩,
   ⟨63, { zero with tcs := [(63, { st := .fenced })] }, _, rfl, by decide⟩,
   ⟨Reg.FLE_FSTAT, .fenced, true, { zero with bridge := { zero.bridge with conflict := true } }, by decide⟩,
   ⟨Reg.FLE_FSTAT, .testing, true, zero, by decide⟩,
   ⟨Reg.TND_FSTAT, .inService, true, zero, by decide⟩,
   ⟨15, zero.setStw Reg.RAS_FTCFG 1#32, by decide⟩,
   ⟨63, zero.setStw Reg.RAS_FTCFG 1#32, by decide⟩,
   ⟨.tc 63, zero.setStw Reg.RAS_FTCFG 0#32, by decide⟩,
   ⟨15, { zero with fes := [(15, { ctl := { st := .inService, fieldTest := true } })] }, by decide⟩,
   ⟨63, { zero with tcs := [(63, { st := .inService, fieldTest := true })] }, by decide⟩,
   ⟨15, true, zero, by decide⟩,
   ⟨63, true, zero, by decide⟩⟩

theorem test_meets_JobsAndBuiltInKernelsRun :
    (∃ (i : Nat) (o : Op) (s : State), s.op i = some o ∧ o.done = none ∧ dOp o.desc = 7 ∧ dF o.desc 28 2 < 1008) ∧
    (∃ (i : Nat) (j : Job) (s : State), s.job i = some j ∧ j.started = true) ∧
    (∃ (i : Nat) (j : Job) (s : State), s.job i = some j ∧ j.started = false ∧ j.needBanks = 0) ∧
    (∃ (n : Nat) (j : Job) (s : State), s.job n = some j ∧ j.stop = none ∧ j.created < j.total ∧ s.mayCreate j = true ∧ s.cutFrom j.tenant (s.grainHalf j) = false ∧ s.tcServing (s.grainHalf j) ≠ []) ∧
    (∃ (n : Nat) (j : Job) (s : State), s.job n = some j ∧ j.stop = none ∧ j.created < j.total ∧ s.mayCreate j = true ∧ s.cutFrom j.tenant (s.grainHalf j) = false ∧ s.tcServing (s.grainHalf j) = []) ∧
    (∃ (n : Nat) (j : Job) (s : State), s.job n = some j ∧ j.stop = none ∧ j.created < j.total ∧ s.mayCreate j = true ∧ s.cutFrom j.tenant (s.grainHalf j) = true) ∧
    (∃ (n : Nat) (j : Job) (s : State), s.job n = some j ∧ (j.stop.isSome = true ∨ j.total ≤ j.created ∨ s.mayCreate j = false)) ∧
    (∃ (c : BitVec 6) (g : Grain) (s : State), (s.tc c.toNat).st = .inService ∧ s.runningOn c.toNat < 8 ∧ g ∈ s.grains ∧ g.st = .ready ∧ g.half = tcHalf c.toNat ∧ s.mayRun g = true ∧ (∀ x, x ∈ s.grains → x.st = .ready → x.half = g.half → s.mayRun x = true → x = g ∨ s.grainBefore g x = true) ∧ (∀ x, x ∈ s.grains → x.id = g.id → x = g)) ∧
    (∃ (c : BitVec 6) (s : State), (s.tc c.toNat).st ≠ .inService ∨ 8 ≤ s.runningOn c.toNat ∨ s.grains.all (fun g => !(g.st = .ready && g.half = tcHalf c.toNat && s.mayRun g)) = true) ∧
    (∃ (n : Nat) (g : Grain) (j : Job) (s : State), s.grain n = some g ∧ s.job g.job = some j ∧ g.st = .running ∧ j.stop = none) ∧
    (∃ (n : Nat) (g : Grain) (j : Job) (s : State), s.grain n = some g ∧ s.job g.job = some j ∧ g.st = .running ∧ j.stop.isSome = true) ∧
    (∃ (n : Nat) (g : Grain) (j : Job) (s : State), s.grain n = some g ∧ s.job g.job = some j ∧ g.st ≠ .running) ∧
    (∃ (n : Nat) (g : Grain) (j : Job) (s : State), s.grain n = some g ∧ s.job g.job = some j ∧ g.st = .waiting ∧ g.waitVal.toNat ≤ (j.counter g.waitJc).toNat) ∧
    (∃ (n : Nat) (g : Grain) (j : Job) (s : State), s.grain n = some g ∧ s.job g.job = some j ∧ (g.st ≠ .waiting ∨ (j.counter g.waitJc).toNat < g.waitVal.toNat)) ∧
    (∃ (n : Nat) (g : Grain) (j : Job) (s : State), s.grain n = some g ∧ s.job g.job = some j ∧ s.pastLimit g j = true) ∧
    (∃ (n : Nat) (g : Grain) (j : Job) (s : State), s.grain n = some g ∧ s.job g.job = some j ∧ s.pastLimit g j = false) ∧
    (∃ (n : BitVec 10) (s : State), (s.pslot n.toNat).old.isSome = true ∧ s.jobsOn n.toNat true = 0) ∧
    (∃ (n : BitVec 10) (s : State), (s.pslot n.toNat).old = none ∨ s.jobsOn n.toNat true ≠ 0) ∧
    (∃ (u : Tenant) (s : State), s.pcmdCheck false false = .ok) ∧
    (∃ (u : Tenant) (s : State), s.pcmdCheck false false ≠ .ok) ∧
    (∃ (busy : Bool) (k : PSlot) (s : State), k = s.pslot (s.stwF Reg.TND_PSEL 9 0)) ∧
    (∃ (i : Nat) (o : Op) (s : State), s.op i = some o ∧ o.done = none ∧ dOp o.desc = 7 ∧ dF o.desc 28 2 = 1010) ∧
    (∃ (i : Nat) (o : Op) (s : State), s.op i = some o ∧ o.done = none ∧ dOp o.desc = 7 ∧ dF o.desc 28 2 = 1011) ∧
    (∃ (o : Op) (ok : Bool) (l : List Need), ok = false) ∧
    (∃ (o : Op) (n : Need) (g : Grant), o.grant n.g = some g ∧ n.aligned = true ∧ g.base % 4096 ≠ 0) ∧
    (∃ (o : Op) (n : Need) (g : Grant), o.grant n.g = some g ∧ (n.aligned = false ∨ g.base % 4096 = 0) ∧ (g.len < n.len ∨ (n.wr = true ∧ g.wr = false) ∨ (n.wr = false ∧ g.rd = false))) ∧
    (∃ (o : Op) (n : Need) (g : Grant), o.grant n.g = some g ∧ (n.aligned = false ∨ g.base % 4096 = 0) ∧ n.len ≤ g.len ∧ (n.wr = true → g.wr = true) ∧ (n.wr = false → g.rd = true)) ∧
    (∃ (o : Op) (c : Option Nat) (m : Machine.Acc → Work (Status × Nat)) (s : State), s.tcUp = false) ∧
    (∃ (o : Op) (c : Option Nat) (m : Machine.Acc → Work (Status × Nat)) (s v : State), s.tcUp = true ∧ s.kernelGrain o = (none, v)) ∧
    (∃ (o : Op) (g : Grain) (c : Option Nat) (m : Machine.Acc → Work (Status × Nat)) (s v : State), s.tcUp = true ∧ s.kernelGrain o = (some g, v) ∧ v.cutFrom o.tenant g.half = true) ∧
    (∃ (o : Op) (g : Grain) (c : Option Nat) (m : Machine.Acc → Work (Status × Nat)) (s v : State), s.tcUp = true ∧ s.kernelGrain o = (some g, v) ∧ v.cutFrom o.tenant g.half = false ∧ v.tcServing g.half = []) ∧
    (∃ (o : Op) (g : Grain) (c : Option Nat) (m : Machine.Acc → Work (Status × Nat)) (s v : State), s.tcUp = true ∧ s.kernelGrain o = (some g, v) ∧ v.cutFrom o.tenant g.half = false ∧ v.tcServing g.half ≠ [] ∧ c = some 7) ∧
    (∃ (o : Op) (g : Grain) (c : Option Nat) (m : Machine.Acc → Work (Status × Nat)) (s v : State), s.tcUp = true ∧ s.kernelGrain o = (some g, v) ∧ v.cutFrom o.tenant g.half = false ∧ v.tcServing g.half ≠ [] ∧ c = some 2) ∧
    (∃ (o : Op) (g : Grain) (c : Option Nat) (m : Machine.Acc → Work (Status × Nat)) (s v : State) (st : _) (n : _) (u : _), s.tcUp = true ∧ s.kernelGrain o = (some g, v) ∧ v.cutFrom o.tenant g.half = false ∧ v.tcServing g.half ≠ [] ∧ c = none ∧ m (o.unitOn g.half) v = .ok (st, n) u) ∧
    (∃ (o : Op) (g : Grain) (c : Option Nat) (m : Machine.Acc → Work (Status × Nat)) (s v : State) (code : _) (st : _) (u : _), s.tcUp = true ∧ s.kernelGrain o = (some g, v) ∧ v.cutFrom o.tenant g.half = false ∧ v.tcServing g.half ≠ [] ∧ c = none ∧ m (o.unitOn g.half) v = .error (.fault code st) u) ∧
    (∃ (o : Op) (n : Nat) (b : Nat → Work Unit) (s u : State), (List.range n).forM b s = .ok () u) ∧
    (∃ (o : Op) (n k : Nat) (b : Nat → Work Unit) (c : Status) (s v u : State), k < n ∧ (List.range k).forM b s = .ok () v ∧ b k v = .error (.fail c) u) :=
  ⟨⟨7, dop (dsc [(0, 7), (28, 1007)]), { live with ops := [dop (dsc [(0, 7), (28, 1007)])] }, by decide⟩,
   ⟨7, jw 0#32, { live with jobs := [jw 0#32] }, by decide⟩,
   ⟨7, { jw 0#32 with started := false }, { live with jobs := [{ jw 0#32 with started := false }] }, by decide⟩,
   ⟨7, jw 0#32, { live with jobs := [jw 0#32] }, by decide⟩,
   ⟨7, jw 0#32, { live with jobs := [jw 0#32], tcs := (List.range 64).map (fun i => (i, { st := .fenced })) }, by decide +kernel, by decide +kernel, by decide +kernel, by decide +kernel, by decide +kernel, by decide +kernel⟩,
   ⟨7, { jw 0#32 with needBanks := 1, banks := [511], half := .south }, { live with jobs := [{ jw 0#32 with needBanks := 1, banks := [511], half := .south }], bridge := { zero.bridge with up := false } }, by decide⟩,
   ⟨7, { jw 0#32 with started := false }, { live with jobs := [{ jw 0#32 with started := false }] }, by decide⟩,
   ⟨0, { gw with st := .ready }, { zero with jobs := [jw 0#32], grains := [{ gw with st := .ready }] }, by decide, by decide, by decide, by decide, by decide, by decide, by decide, by decide⟩,
   ⟨63, { zero with tcs := [(63, { st := .fenced })] }, by decide⟩,
   ⟨3, gw, jw 0#32, spw (jw 0#32) gw, by decide⟩,
   ⟨3, gw, jw 0#32 (some (.timeout, 0)), spw (jw 0#32 (some (.timeout, 0))) gw, by decide⟩,
   ⟨3, { gw with st := .ready }, jw 0#32, spw (jw 0#32) { gw with st := .ready }, by decide⟩,
   ⟨3, { gw with st := .waiting }, jw 0#32, spw (jw 0#32) { gw with st := .waiting }, by decide⟩,
   ⟨3, { gw with st := .waiting, waitVal := 1#64 }, jw 0#32, spw (jw 0#32) { gw with st := .waiting, waitVal := 1#64 }, by decide⟩,
   ⟨3, gw 0#64 0#64 0 1048577, jw 0#32 none 1, spw (jw 0#32 none 1) (gw 0#64 0#64 0 1048577), by decide⟩,
   ⟨3, gw, jw 0#32, spw (jw 0#32) gw, by decide⟩,
   ⟨1007, { zero with pslots := [(1007, { old := some (prg 0#32) })] }, by decide⟩,
   ⟨1007, zero, by decide⟩,
   ⟨255, { zero with pslots := [(0, { cur := some (prg 0#32) })] }, by decide⟩,
   ⟨255, { zero with bridge := { zero.bridge with conflict := true } }, by decide⟩,
   ⟨true, _, zero, rfl⟩,
   ⟨7, dop (dsc [(0, 7), (28, 1010)]), { live with ops := [dop (dsc [(0, 7), (28, 1010)])] }, by decide⟩,
   ⟨7, dop (dsc [(0, 7), (28, 1011)]), { live with ops := [dop (dsc [(0, 7), (28, 1011)])] }, by decide⟩,
   ⟨dop 0, false, [], by decide⟩,
   ⟨{ dop (dsc [(0, 7), (30, 1)]) with param := List.replicate 64 0#8 ++ leBytes 8 (0x50040 + 2 ^ 62) ++ leBytes 8 4096 }, ⟨0, 4096, true, true⟩, { base := 0x50040, len := 4096, rd := true, wr := false }, by decide⟩,
   ⟨{ dop (dsc [(0, 7), (30, 1)]) with param := List.replicate 64 0#8 ++ leBytes 8 (0x50000 + 2 ^ 62) ++ leBytes 8 4096 }, ⟨0, 4096, true, true⟩, { base := 0x50000, len := 4096, rd := true, wr := false }, by decide⟩,
   ⟨{ dop (dsc [(0, 7), (30, 1)]) with param := List.replicate 64 0#8 ++ leBytes 8 (0x50000 + 2 ^ 62) ++ leBytes 8 4096 }, ⟨0, 4096, false, true⟩, { base := 0x50000, len := 4096, rd := true, wr := false }, by decide⟩,
   ⟨dop 4, none, (fun _ s => .ok (.ok, 0) s), { live with ops := [dop 4], tcs := (List.range 64).map (fun i => (i, { st := .fenced })) }, by decide⟩,
   ⟨dop 4, none, (fun _ s => .ok (.ok, 0) s), (({ live with ops := [dop 4] } : State).setStw Reg.TND_TLIM 0#32), _, by decide +kernel, fst_snd (by decide +kernel)⟩,
   ⟨dop 4, _, none, (fun _ s => .ok (.ok, 0) s), { live with ops := [dop 4], jobs := [jw 0#32], grains := [{ gw with half := .south }], bridge := { zero.bridge with up := false } }, _, by decide +kernel, some_snd (by decide +kernel), by decide +kernel⟩,
   ⟨dop 4, _, none, (fun _ s => .ok (.ok, 0) s), { live with ops := [dop 4], jobs := [jw 0#32], grains := [{ gw with half := .north }], tcs := (List.range 32).map (fun i => (i, { st := .fenced })) }, _, by decide +kernel, some_snd (by decide +kernel), by decide +kernel, by decide +kernel⟩,
   ⟨dop 4, _, some 7, (fun _ s => .ok (.ok, 0) s), { live with ops := [dop 4] }, _, by decide +kernel, some_snd (by decide +kernel), by decide +kernel, by decide +kernel, rfl⟩,
   ⟨dop 4, _, some 2, (fun _ s => .ok (.ok, 0) s), { live with ops := [dop 4] }, _, by decide +kernel, some_snd (by decide +kernel), by decide +kernel, by decide +kernel, rfl⟩,
   ⟨dop 4, _, none, (fun _ s => .ok (.ok, 0) s), { live with ops := [dop 4] }, _, .ok, 0, _, by decide +kernel, some_snd (by decide +kernel), by decide +kernel, by decide +kernel, rfl, rfl⟩,
   ⟨dop 4, _, none, (fun _ s => .error (.fault 15 .timeout) s), { live with ops := [dop 4] }, _, 15, .timeout, _, by decide +kernel, some_snd (by decide +kernel), by decide +kernel, by decide +kernel, rfl, rfl⟩,
   ⟨dop 0, 1, (fun _ => pure ()), zero, zero, by rfl⟩,
   ⟨dop 0, 1, 0, (fun _ s => .error (.fail .timeout) s), .timeout, zero, zero, zero, by decide, by rfl, rfl⟩⟩

theorem test_meets_RegisterInstructionsWriteTheirDestination :
    (∃ (i : Nat) (w : W32) (g : Grain) (j : Job) (s : State), AtInstr s i .alu w g j) ∧
    (∃ (i : Nat) (w : W32) (g : Grain) (j : Job) (s : State), AtInstr s i .aluImm w g j) ∧
    (∃ (i : Nat) (w : W32) (g : Grain) (j : Job) (s : State), AtInstr s i .loadUpper w g j) ∧
    (∃ (i : Nat) (w : W32) (g : Grain) (j : Job) (s : State), AtInstr s i .branch w g j) ∧
    (∃ (i : Nat) (w : W32) (g : Grain) (j : Job) (s : State), AtInstr s i .jump w g j ∧ g.ctx.pc < 2 ^ 24) ∧
    (∃ (i : Nat) (w : W32) (g : Grain) (j : Job) (s : State), AtInstr s i .jumpReg w g j ∧ g.ctx.pc < 2 ^ 24) ∧
    (∃ (i : Nat) (w : W32) (g : Grain) (j : Job) (s : State), AtInstr s i .vectorInt w g j ∧ (sFnV w ≤ 10 ∨ sFnV w = 13)) ∧
    (∃ (i : Nat) (w : W32) (g : Grain) (j : Job) (s : State), AtInstr s i .vectorInt w g j ∧ sFnV w = 14) ∧
    (∃ (i : Nat) (w : W32) (g : Grain) (j : Job) (s : State), AtInstr s i .vectorInt w g j ∧ (sFnV w = 11 ∨ sFnV w = 12)) ∧
    (∃ (i : Nat) (w : W32) (g : Grain) (j : Job) (s : State), AtInstr s i .reduce w g j) ∧
    (∃ (i : Nat) (w : W32) (g : Grain) (j : Job) (s : State), AtInstr s i .gets w g j) ∧
    (∃ (i : Nat) (w : W32) (g : Grain) (j : Job) (a b d : List W32) (s : State) (q : _), AtInstr s i .vectorFp w g j ∧ a = (vLanes (sEw w) (g.ctx.getV (sSrc1 w))).map (laneF (sEw w)) ∧ b = (vLanes (sEw w) (g.ctx.getV (sSrc2 w))).map (laneF (sEw w)) ∧ d = (vLanes (sEw w) (g.ctx.getV (sDst w))).map (laneF (sEw w)) ∧ sFnV w ≠ 9 ∧ sFnV w ≠ 10 ∧ ewFp (sEw w) = true ∧ q = (a.zip (b.zip d)).map (fun p => fLane (sEw w) (match s.op j.id with | some o => o.sat | none => true) (vFpOp (sFnV w) p.1 p.2.1 p.2.2))) ∧
    (∃ (i : Nat) (w : W32) (g : Grain) (j : Job) (a b d : List W32) (s : State), AtInstr s i .vectorFp w g j ∧ a = (vLanes (sEw w) (g.ctx.getV (sSrc1 w))).map (laneF (sEw w)) ∧ b = (vLanes (sEw w) (g.ctx.getV (sSrc2 w))).map (laneF (sEw w)) ∧ d = (vLanes (sEw w) (g.ctx.getV (sDst w))).map (laneF (sEw w)) ∧ sFnV w ≠ 9 ∧ sFnV w ≠ 10 ∧ ewFp (sEw w) = false) ∧
    (∃ (i : Nat) (w : W32) (g : Grain) (j : Job) (a b d : List W32) (s : State), AtInstr s i .vectorFp w g j ∧ a = (vLanes (sEw w) (g.ctx.getV (sSrc1 w))).map (laneF (sEw w)) ∧ b = (vLanes (sEw w) (g.ctx.getV (sSrc2 w))).map (laneF (sEw w)) ∧ d = (vLanes (sEw w) (g.ctx.getV (sDst w))).map (laneF (sEw w)) ∧ (sFnV w = 9 ∨ sFnV w = 10)) ∧
    (∃ (i : Nat) (w : W32) (g : Grain) (j : Job) (o : Op) (s : State) (q : _), s.op j.id = some o ∧ AtInstr s i .vcvt w g j ∧ q = ((vLanes (sEw w) (g.ctx.getV (sSrc1 w))).zipIdx).map (fun e => encElem (sFnV w) false (spnMode (sSrc2 w % 4) o (moved g).ctx e.2) o.sat (laneNum (sEw w) e.1))) ∧
    (∃ (i : Nat) (w : W32) (g : Grain) (j : Job) (o : Op) (s : State) (q : _), s.op j.id = some o ∧ AtInstr s i .vmxq w g j ∧ q = mxQuantize ((vLanes 4 (g.ctx.getV (sSrc1 w)) ++ vLanes 4 (g.ctx.getV ((sSrc1 w + 1) % 32))).map (fun v => f32 (BitVec.ofNat 32 v))) (sFnV w) ((List.range 32).map (fun k => spnMode (sMask w % 4) o (moved g).ctx k))) ∧
    (∃ (i : Nat) (w : W32) (g : Grain) (j : Job) (s : State), s.op j.id = none ∧ AtInstr s i .vcvt w g j) ∧
    (∃ (i : Nat) (w : W32) (g : Grain) (j : Job) (s : State), s.op j.id = none ∧ AtInstr s i .vmxq w g j) ∧
    (∃ (c : Ctx) (i k : Nat) (v : W64), c.x.length = 32 ∧ 0 < i ∧ i < 32 ∧ k ≠ i) :=
  ⟨⟨3, 0#32, gw (0#64) (0#64), jw 0#32, spw (jw 0#32) (gw (0#64) (0#64)), by constructor <;> decide⟩,
   ⟨3, 0x04000000#32, gw (0#64) (0#64), jw 0x04000000#32, spw (jw 0x04000000#32) (gw (0#64) (0#64)), by constructor <;> decide⟩,
   ⟨3, 0x08000000#32, gw (0#64) (0#64), jw 0x08000000#32, spw (jw 0x08000000#32) (gw (0#64) (0#64)), by constructor <;> decide⟩,
   ⟨3, 0x14000000#32, gw (0#64) (0#64), jw 0x14000000#32, spw (jw 0x14000000#32) (gw (0#64) (0#64)), by constructor <;> decide⟩,
   ⟨3, 0x18000000#32, gw (0#64) (0#64), jw 0x18000000#32, spw (jw 0x18000000#32) (gw (0#64) (0#64)), by constructor <;> decide, by decide⟩,
   ⟨3, 0x1C000000#32, gw (0#64) (0#64), jw 0x1C000000#32, spw (jw 0x1C000000#32) (gw (0#64) (0#64)), by constructor <;> decide, by decide⟩,
   ⟨3, 0x40000000#32, gw (0#64) (0#64), jw 0x40000000#32, spw (jw 0x40000000#32) (gw (0#64) (0#64)), by constructor <;> decide, by decide⟩,
   ⟨3, 0x4000000E#32, gw (0#64) (0#64), jw 0x4000000E#32, spw (jw 0x4000000E#32) (gw (0#64) (0#64)), by constructor <;> decide, by decide⟩,
   ⟨3, 0x4000000B#32, gw (0#64) (0#64), jw 0x4000000B#32, spw (jw 0x4000000B#32) (gw (0#64) (0#64)), by constructor <;> decide, by decide⟩,
   ⟨3, 0x48000000#32, gw (0#64) (0#64), jw 0x48000000#32, spw (jw 0x48000000#32) (gw (0#64) (0#64)), by constructor <;> decide⟩,
   ⟨3, 0x24004000#32, gw (0#64) (0#64), jw 0x24004000#32, spw (jw 0x24004000#32) (gw (0#64) (0#64)), by constructor <;> decide⟩,
   ⟨3, 0x44000080#32, gw (0#64) (0#64), jw 0x44000080#32, _, _, _, spw (jw 0x44000080#32) (gw (0#64) (0#64)), _, by constructor <;> decide, rfl, rfl, rfl, by decide, by decide, by decide, rfl⟩,
   ⟨3, 0x44000000#32, gw (0#64) (0#64), jw 0x44000000#32, _, _, _, spw (jw 0x44000000#32) (gw (0#64) (0#64)), by constructor <;> decide, rfl, rfl, rfl, by decide, by decide, by decide⟩,
   ⟨3, 0x44000089#32, gw (0#64) (0#64), jw 0x44000089#32, _, _, _, spw (jw 0x44000089#32) (gw (0#64) (0#64)), by constructor <;> decide, rfl, rfl, rfl, by decide⟩,
   ⟨3, 0x50000000#32, gw (0#64) (0#64), jw 0x50000000#32, dop 7, spw (jw 0x50000000#32) (gw (0#64) (0#64)), _, by decide, by constructor <;> decide, rfl⟩,
   ⟨3, 0x54000003#32, gw (0#64) (0#64), jw 0x54000003#32, dop 7, spw (jw 0x54000003#32) (gw (0#64) (0#64)), _, by decide, by constructor <;> decide, rfl⟩,
   ⟨3, 0x50000000#32, gw (0#64) (0#64), jw 0x50000000#32, { spw (jw 0x50000000#32) (gw 0#64 0#64) with ops := [] }, by decide, by constructor <;> decide⟩,
   ⟨3, 0x54000003#32, gw (0#64) (0#64), jw 0x54000003#32, { spw (jw 0x54000003#32) (gw 0#64 0#64) with ops := [] }, by decide, by constructor <;> decide⟩,
   ⟨newCtx 0, 31, 0, 0, by decide⟩⟩

theorem test_meets_MemoryInstructionsLoadAndStore :
    (∃ (i : Nat) (w : W32) (g : Grain) (j : Job) (m : Work (List Byte)) (s u : State) (b : _), AtInstr s i .load w g j ∧ m = (moved g).load j (g.ctx.getX (sSrc1 w) + BitVec.ofInt 64 (sImm12 w)) (2 ^ (sFnB w % 4)) ∧ m s = .ok b u) ∧
    (∃ (i : Nat) (w : W32) (g : Grain) (j : Job) (m : Work (List Byte)) (s u : State) (k : _) (c : _), AtInstr s i .load w g j ∧ m = (moved g).load j (g.ctx.getX (sSrc1 w) + BitVec.ofInt 64 (sImm12 w)) (2 ^ (sFnB w % 4)) ∧ m s = .error (.fault k c) u) ∧
    (∃ (i : Nat) (w : W32) (g : Grain) (j : Job) (m : Work (List Byte)) (s u : State) (k : _), AtInstr s i .load w g j ∧ m = (moved g).load j (g.ctx.getX (sSrc1 w) + BitVec.ofInt 64 (sImm12 w)) (2 ^ (sFnB w % 4)) ∧ m s = .error (.wait k) u) ∧
    (∃ (i : Nat) (w : W32) (g : Grain) (j : Job) (m : Work Grain) (s u : State) (g' : _), AtInstr s i .store w g j ∧ m = (moved g).store j (g.ctx.getX (sSrc1 w) + BitVec.ofInt 64 (sImm12 w)) (leBytes (2 ^ (sFnB w % 4)) (g.ctx.getX (sDst w)).toNat) allBytes ∧ m s = .ok g' u) ∧
    (∃ (i : Nat) (w : W32) (g : Grain) (j : Job) (m : Work Grain) (s u : State) (k : _) (c : _), AtInstr s i .store w g j ∧ m = (moved g).store j (g.ctx.getX (sSrc1 w) + BitVec.ofInt 64 (sImm12 w)) (leBytes (2 ^ (sFnB w % 4)) (g.ctx.getX (sDst w)).toNat) allBytes ∧ m s = .error (.fault k c) u) ∧
    (∃ (i : Nat) (w : W32) (g : Grain) (j : Job) (m : Work Grain) (s u : State) (k : _), AtInstr s i .store w g j ∧ m = (moved g).store j (g.ctx.getX (sSrc1 w) + BitVec.ofInt 64 (sImm12 w)) (leBytes (2 ^ (sFnB w % 4)) (g.ctx.getX (sDst w)).toNat) allBytes ∧ m s = .error (.wait k) u) ∧
    (∃ (g g' : Grain) (j : Job) (a : W64) (b : List Byte) (f : Nat → Bool) (s u : State), g.store j a b f s = .ok g' u) ∧
    (∃ (i : Nat) (w : W32) (g : Grain) (j : Job) (p : Place) (m : Work (List Byte)) (s u : State) (b : _) (v : _) (g' : _) (x : _), AtInstr s i .atomic w g j ∧ (g.ctx.getX (sSrc1 w)).toNat % 8 = 0 ∧ placeOf (g.ctx.getX (sSrc1 w)) = some p ∧ j.reaches true p 8 allBytes = true ∧ m = (moved g).load j (g.ctx.getX (sSrc1 w)) 8 ∧ m s = .ok b u ∧ atomicOp (sFnA w) (BitVec.ofNat 64 (leNat b)) (g.ctx.getX (sSrc2 w)) (g.ctx.getX (sDst w)) = some v ∧ (moved g).store j (g.ctx.getX (sSrc1 w)) (leBytes 8 v.toNat) allBytes u = .ok g' x) ∧
    (∃ (i : Nat) (w : W32) (g : Grain) (j : Job) (p : Place) (m : Work (List Byte)) (s u : State) (b : _), AtInstr s i .atomic w g j ∧ (g.ctx.getX (sSrc1 w)).toNat % 8 = 0 ∧ placeOf (g.ctx.getX (sSrc1 w)) = some p ∧ j.reaches true p 8 allBytes = true ∧ m = (moved g).load j (g.ctx.getX (sSrc1 w)) 8 ∧ m s = .ok b u ∧ atomicOp (sFnA w) (BitVec.ofNat 64 (leNat b)) (g.ctx.getX (sSrc2 w)) (g.ctx.getX (sDst w)) = none) ∧
    (∃ (i : Nat) (w : W32) (g : Grain) (j : Job) (p : Place) (m : Work (List Byte)) (s u : State) (k : _) (c : _), AtInstr s i .atomic w g j ∧ (g.ctx.getX (sSrc1 w)).toNat % 8 = 0 ∧ placeOf (g.ctx.getX (sSrc1 w)) = some p ∧ j.reaches true p 8 allBytes = true ∧ m = (moved g).load j (g.ctx.getX (sSrc1 w)) 8 ∧ m s = .error (.fault k c) u) ∧
    (∃ (i : Nat) (w : W32) (g : Grain) (j : Job) (p : Place) (m : Work (List Byte)) (s u : State) (k : _), AtInstr s i .atomic w g j ∧ (g.ctx.getX (sSrc1 w)).toNat % 8 = 0 ∧ placeOf (g.ctx.getX (sSrc1 w)) = some p ∧ j.reaches true p 8 allBytes = true ∧ m = (moved g).load j (g.ctx.getX (sSrc1 w)) 8 ∧ m s = .error (.wait k) u) ∧
    (∃ (i : Nat) (w : W32) (g : Grain) (j : Job) (s : State), AtInstr s i .atomic w g j ∧ (g.ctx.getX (sSrc1 w)).toNat % 8 ≠ 0) ∧
    (∃ (i : Nat) (w : W32) (g : Grain) (j : Job) (s : State), AtInstr s i .atomic w g j ∧ (g.ctx.getX (sSrc1 w)).toNat % 8 = 0 ∧ placeOf (g.ctx.getX (sSrc1 w)) = none) ∧
    (∃ (i : Nat) (w : W32) (g : Grain) (j : Job) (s : State), AtInstr s i .vectorLoad w g j ∧ placeOf (g.ctx.getX (sSrc1 w)) = none) ∧
    (∃ (i : Nat) (w : W32) (g : Grain) (j : Job) (s : State) (p : _) (b : _) (u : _), AtInstr s i .vectorLoad w g j ∧ placeOf (g.ctx.getX (sSrc1 w)) = some p ∧ (moved g).loadAt j p 64 (byteOn (g.ctx.getK (sMask w)) (sEw w)) s = .ok b u) ∧
    (∃ (i : Nat) (w : W32) (g g' : Grain) (j : Job) (s u : State), AtInstr s i .vectorStore w g j ∧ (moved g).store j (g.ctx.getX (sSrc1 w)) (lineBytes (g.ctx.getV (sDst w))) (byteOn (g.ctx.getK (sMask w)) (sEw w)) s = .ok g' u) ∧
    (∃ (i : Nat) (w : W32) (g : Grain) (j : Job) (l : List (Nat × Nat)) (s u : State), AtInstr s i .gather w g j ∧ ((laneAddrs (moved g).ctx w).mapM (fun e => do let b ← (moved g).load j e.2 (ewBits (sEw w) / 8); pure (e.1, leNat b)) : Work (List (Nat × Nat))) s = .ok l u) ∧
    (∃ (i : Nat) (w : W32) (g g' : Grain) (j : Job) (s u : State), AtInstr s i .scatter w g j ∧ (laneAddrs (moved g).ctx w).foldlM (fun (h : Grain) e => h.store j e.2 (leBytes (ewBits (sEw w) / 8) (((vLanes (sEw w) (g.ctx.getV (sDst w)))[e.1]?).getD 0)) allBytes) (moved g) s = .ok g' u) ∧
    (∃ (i : Nat) (w : W32) (g : Grain) (j : Job) (s u : State), AtInstr s i .crc w g j ∧ g.ctx.getX (sSrc2 w) = 0#64) ∧
    (∃ (i : Nat) (w : W32) (g : Grain) (j : Job) (s u : State) (b : _), AtInstr s i .crc w g j ∧ g.ctx.getX (sSrc2 w) ≠ 0#64 ∧ (moved g).load j (g.ctx.getX (sSrc1 w)) (g.ctx.getX (sSrc2 w)).toNat s = .ok b u) ∧
    (∃ (i : Nat) (w : W32) (g : Grain) (j : Job) (s u : State) (c : _), AtInstr s i .crcv w g j ∧ (moved g).load j (g.ctx.getX (sSrc1 w)) 16 s = .error (.fault 5 c) u) ∧
    (∃ (i : Nat) (w : W32) (g : Grain) (j : Job) (s u : State) (h : _) (c : _) (x : _), AtInstr s i .crcv w g j ∧ (moved g).load j (g.ctx.getX (sSrc1 w)) 16 s = .ok h u ∧ (moved g).load j (g.ctx.getX (sSrc1 w) + 16#64) (leAt h 5 2 % 2 ^ 13) u = .error (.fault 5 c) x) ∧
    (∃ (i : Nat) (w : W32) (g : Grain) (j : Job) (s u : State) (h : _) (b : _) (x : _), AtInstr s i .crcv w g j ∧ (moved g).load j (g.ctx.getX (sSrc1 w)) 16 s = .ok h u ∧ (moved g).load j (g.ctx.getX (sSrc1 w) + 16#64) (leAt h 5 2 % 2 ^ 13) u = .ok b x) ∧
    (∃ (i : Nat) (w : W32) (g : Grain) (j : Job) (c : Instr) (k : SCls) (f : Grain → Job → W32 → Work (Option Grain)) (s u : State) (n : _) (e : _), (c, k) ∈ [(Instr.spnVectorLoad i, SCls.vectorLoad), (.spnVectorStore i, .vectorStore), (.spnGather i, .gather), (.spnScatter i, .scatter), (.spnCrc i, .crc), (.spnCrcv i, .crcv)] ∧ AtInstr s i k w g j ∧ (∀ t, exec c t = t.spn i k f) ∧ f (moved g) j w s = .error (.fault n e) u) ∧
    (∃ (i : Nat) (w : W32) (g : Grain) (j : Job) (c : Instr) (k : SCls) (f : Grain → Job → W32 → Work (Option Grain)) (s u : State) (n : _), (c, k) ∈ [(Instr.spnVectorLoad i, SCls.vectorLoad), (.spnVectorStore i, .vectorStore), (.spnGather i, .gather), (.spnScatter i, .scatter), (.spnCrc i, .crc), (.spnCrcv i, .crcv)] ∧ AtInstr s i k w g j ∧ (∀ t, exec c t = t.spn i k f) ∧ f (moved g) j w s = .error (.wait n) u) ∧
    (∃ (g : Grain) (j : Job) (a : W64) (n : Nat) (s : State), placeOf a = none) ∧
    (∃ (g : Grain) (j : Job) (a : W64) (n : Nat) (s : State) (p : _), placeOf a = some p ∧ j.reaches false p n allBytes = false) ∧
    (∃ (g : Grain) (j : Job) (a : W64) (n : Nat) (s : State) (x : _), placeOf a = some (.scratch x) ∧ x + n ≤ 1024) ∧
    (∃ (g : Grain) (j : Job) (a : W64) (n : Nat) (s : State) (x : _) (b : _) (u : _), placeOf a = some (.ua x) ∧ j.reaches false (.ua x) n allBytes = true ∧ (g.unit j).bytes x n s = .ok b u) ∧
    (∃ (g : Grain) (j : Job) (a : W64) (b : List Byte) (f : Nat → Bool) (s : State), placeOf a = none) ∧
    (∃ (g : Grain) (j : Job) (a : W64) (b : List Byte) (f : Nat → Bool) (s : State) (p : _), placeOf a = some p ∧ j.reaches true p b.length f = false) ∧
    (∃ (g : Grain) (j : Job) (a : W64) (b : List Byte) (f : Nat → Bool) (s : State) (x : _), placeOf a = some (.scratch x) ∧ x + b.length ≤ 1024) :=
  ⟨⟨3, 0x0C010000#32, gw (scr) (0#64), jw 0x0C010000#32, _, spw (jw 0x0C010000#32) (gw (scr) (0#64)), _, _, by constructor <;> decide, rfl, ends_with (d := []) (by decide +kernel)⟩,
   ⟨3, 0x0C010000#32, gw (0xC000000000000000#64) (0#64), jw 0x0C010000#32, _, spw (jw 0x0C010000#32) (gw (0xC000000000000000#64) (0#64)), _, 2, .permission, by constructor <;> decide, rfl, err_with (by decide +kernel)⟩,
   ⟨3, 0x0C010000#32, gw (0x4000000000000000#64) (0#64), { jw 0x0C010000#32 with banks := [511] }, _, { spw ({ jw 0x0C010000#32 with banks := [511] }) (gw (0x4000000000000000#64) (0#64)) with cst := { banks := [(511, { kind := .job, ps := .retention })] } }, _, .other, by constructor <;> decide, rfl, err_with (by decide +kernel)⟩,
   ⟨3, 0x10010000#32, gw (scr) (0#64), jw 0x10010000#32, _, spw (jw 0x10010000#32) (gw (scr) (0#64)), _, _, by constructor <;> decide, rfl, ends_with (d := gw) (by decide +kernel)⟩,
   ⟨3, 0x10010000#32, gw (0xC000000000000000#64) (0#64), jw 0x10010000#32, _, spw (jw 0x10010000#32) (gw (0xC000000000000000#64) (0#64)), _, 2, .permission, by constructor <;> decide, rfl, err_with (by decide +kernel)⟩,
   ⟨3, 0x10010000#32, gw (0x4000000000000000#64) (0#64), { jw 0x10010000#32 with banks := [511] }, _, { spw ({ jw 0x10010000#32 with banks := [511] }) (gw (0x4000000000000000#64) (0#64)) with cst := { banks := [(511, { kind := .job, ps := .retention })] } }, _, .other, by constructor <;> decide, rfl, err_with (by decide +kernel)⟩,
   ⟨gw, _, jw 0#32, scr, [0#8], allBytes, zero, _, ends_with (d := gw) (by decide +kernel)⟩,
   ⟨3, 0x20010003#32, gw (scr) (0#64), jw 0x20010003#32, .scratch 0, _, spw (jw 0x20010003#32) (gw (scr) (0#64)), _, _, 0#64, _, _, by constructor <;> decide, by decide, by decide, by decide, rfl, ends_with (d := []) (by decide +kernel), by decide +kernel, ends_with (d := gw) (by decide +kernel)⟩,
   ⟨3, 0x20210004#32, gw (scr) (1#64), jw 0x20210004#32, .scratch 0, _, spw (jw 0x20210004#32) (gw (scr) (1#64)), _, _, by constructor <;> decide, by decide, by decide, by decide, rfl, ends_with (d := []) (by decide +kernel), by decide +kernel⟩,
   ⟨3, 0x20010003#32, gw (0x52000#64) (0#64), jw 0x20010003#32, .ua 0x52000, _, { (read5 : State) with ops := [dop 7#512], jobs := [jw 0x20010003#32], grains := [gw (0x52000#64) (0#64)] }, _, 5, .uninitRead, by constructor <;> decide, by decide, by decide, by decide, rfl, err_with (by decide +kernel)⟩,
   ⟨3, 0x20010003#32, gw (0x4000000000000000#64) (0#64), { jw 0x20010003#32 with banks := [511] }, .cistern 0, _, { spw ({ jw 0x20010003#32 with banks := [511] }) (gw (0x4000000000000000#64) (0#64)) with cst := { banks := [(511, { kind := .job, ps := .retention })] } }, _, .other, by constructor <;> decide, by decide, by decide, by decide, rfl, err_with (by decide +kernel)⟩,
   ⟨3, 0x20010000#32, gw (1#64) (0#64), jw 0x20010000#32, spw (jw 0x20010000#32) (gw (1#64) (0#64)), by constructor <;> decide, by decide⟩,
   ⟨3, 0x20010000#32, gw (0xC000000000000000#64) (0#64), jw 0x20010000#32, spw (jw 0x20010000#32) (gw (0xC000000000000000#64) (0#64)), by constructor <;> decide, by decide, by decide⟩,
   ⟨3, 0x4C010000#32, gw (0xC000000000000000#64) (0#64), jw 0x4C010000#32, spw (jw 0x4C010000#32) (gw (0xC000000000000000#64) (0#64)), by constructor <;> decide, by decide⟩,
   ⟨3, 0x4C010000#32, gw (scr) (0#64), jw 0x4C010000#32, spw (jw 0x4C010000#32) (gw (scr) (0#64)), .scratch 0, _, _, by constructor <;> decide, by decide, ends_with (d := []) (by decide +kernel)⟩,
   ⟨3, 0x4C010001#32, gw (scr) (0#64), _, jw 0x4C010001#32, spw (jw 0x4C010001#32) (gw (scr) (0#64)), _, by constructor <;> decide, ends_with (d := gw) (by decide +kernel)⟩,
   ⟨3, 0x4C010042#32, gw (scr) (0#64), jw 0x4C010042#32, _, spw (jw 0x4C010042#32) (gw (scr) (0#64)), _, by constructor <;> decide, ends_with (d := []) (by decide +kernel)⟩,
   ⟨3, 0x4C010043#32, gw (scr) (0#64), _, jw 0x4C010043#32, spw (jw 0x4C010043#32) (gw (scr) (0#64)), _, by constructor <;> decide, ends_with (d := gw) (by decide +kernel)⟩,
   ⟨3, 0x58010000#32, gw (scr) (0#64), jw 0x58010000#32, spw (jw 0x58010000#32) (gw (scr) (0#64)), zero, by constructor <;> decide, by decide⟩,
   ⟨3, 0x58011000#32, gw (scr) (4#64), jw 0x58011000#32, spw (jw 0x58011000#32) (gw (scr) (4#64)), _, _, by constructor <;> decide, by decide, ends_with (d := []) (by decide +kernel)⟩,
   ⟨3, 0x58010001#32, gw (0x52000#64) (0#64), jw 0x58010001#32, { (read5 : State) with ops := [dop 7#512], jobs := [jw 0x58010001#32], grains := [gw (0x52000#64) (0#64)] }, _, .uninitRead, by constructor <;> decide, err_with (by decide +kernel)⟩,
   ⟨3, 0x58010001#32, gw (0x51FF0#64) (0#64), jw 0x58010001#32, { ({ read5 with tier := { read5.tier with mem := [(0x51FF5, 16#8)] } } : State) with ops := [dop 7#512], jobs := [jw 0x58010001#32], grains := [gw (0x51FF0#64) (0#64)] }, _, _, .uninitRead, _, by constructor <;> decide, ends_with (d := []) (by decide +kernel), err_with (by decide +kernel)⟩,
   ⟨3, 0x58010001#32, gw (scr) (0#64), jw 0x58010001#32, spw (jw 0x58010001#32) (gw (scr) (0#64)), _, _, _, _, by constructor <;> decide, ends_with (d := []) (by decide +kernel), ends_with (d := []) (by decide +kernel)⟩,
   ⟨3, 0x58011000#32, gw (0xC000000000000000#64) (4#64), jw 0x58011000#32, .spnCrc 3, .crc, crcF, spw (jw 0x58011000#32) (gw (0xC000000000000000#64) (4#64)), _, 2, .permission, by decide, by constructor <;> decide, fun t => rfl, err_with (by decide +kernel)⟩,
   ⟨3, 0x58011000#32, gw (0x4000000000000000#64) (4#64), { jw 0x58011000#32 with banks := [511] }, .spnCrc 3, .crc, crcF, { spw ({ jw 0x58011000#32 with banks := [511] }) (gw (0x4000000000000000#64) (4#64)) with cst := { banks := [(511, { kind := .job, ps := .retention })] } }, _, .other, by decide, by constructor <;> decide, fun t => rfl, err_with (by decide +kernel)⟩,
   ⟨gw, jw 0#32, 0xC000000000000000#64, 8, zero, by decide⟩,
   ⟨gw, jw 0#32, 0x60000#64, 1, zero, .ua 0x60000, by decide⟩,
   ⟨gw, jw 0#32, 0x80000000000003FF#64, 1, zero, 1023, by decide⟩,
   ⟨gw, jw 0#32, 0x50000#64, 8, { (read5 : State) with ops := [dop 7#512], jobs := [jw 0#32], grains := [gw (0#64) (0#64)] }, 0x50000, _, _, by decide, by decide, ends_with (d := []) (by decide +kernel)⟩,
   ⟨gw, jw 0#32, 0xC000000000000000#64, [0#8], allBytes, zero, by decide⟩,
   ⟨gw, jw 0#32, 0x60000#64, [0#8], allBytes, zero, .ua 0x60000, by decide⟩,
   ⟨gw, jw 0#32, 0x80000000000003FF#64, [0#8], allBytes, zero, 1023, by decide⟩⟩

theorem test_meets_SystemInstructionsAndFaultsAct :
    (∃ (i : Nat) (w : W32) (g : Grain) (j : Job) (s : State), AtInstr s i .yield w g j ∧ j.stop = none) ∧
    (∃ (i : Nat) (w : W32) (g : Grain) (j : Job) (s : State), AtInstr s i .yield w g j ∧ j.stop.isSome = true) ∧
    (∃ (i : Nat) (w : W32) (g : Grain) (j : Job) (s : State), AtInstr s i .fence w g j) ∧
    (∃ (i : Nat) (w : W32) (g : Grain) (j : Job) (s : State), AtInstr s i .exit w g j) ∧
    (∃ (i : Nat) (w : W32) (g : Grain) (j : Job) (s : State), AtInstr s i .trap w g j) ∧
    (∃ (i : Nat) (w : W32) (g : Grain) (j : Job) (s : State), AtInstr s i .wait w g j ∧ (g.ctx.getX (sSrc1 w)).toNat ≤ (j.counter (bits 3 0 w)).toNat) ∧
    (∃ (i : Nat) (w : W32) (g : Grain) (j : Job) (s : State) (h : _), AtInstr s i .wait w g j ∧ h = { moved g with st := .waiting, waitJc := bits 3 0 w, waitVal := g.ctx.getX (sSrc1 w), since := s.now } ∧ (j.counter (bits 3 0 w)).toNat < (g.ctx.getX (sSrc1 w)).toNat ∧ j.stop = none) ∧
    (∃ (i : Nat) (w : W32) (g : Grain) (j : Job) (s : State) (h : _), AtInstr s i .wait w g j ∧ h = { moved g with st := .waiting, waitJc := bits 3 0 w, waitVal := g.ctx.getX (sSrc1 w), since := s.now } ∧ (j.counter (bits 3 0 w)).toNat < (g.ctx.getX (sSrc1 w)).toNat ∧ j.stop.isSome = true) ∧
    (∃ (i : Nat) (w : W32) (g : Grain) (j : Job) (s : State), AtInstr s i .signal w g j) ∧
    (∃ (i : Nat) (w : W32) (g : Grain) (j : Job) (s : State), AtInstr s i .mark w g j) ∧
    (∃ (i : Nat) (g : Grain) (j : Job) (c : Instr) (k : SCls) (s : State), s.grain i = some g ∧ s.job g.job = some j ∧ (c, k) ∈ [(Instr.spnAlu i, SCls.alu), (.spnAluImm i, .aluImm), (.spnLoadUpper i, .loadUpper), (.spnLoad i, .load), (.spnStore i, .store), (.spnBranch i, .branch), (.spnJump i, .jump), (.spnJumpReg i, .jumpReg), (.spnAtomic i, .atomic), (.spnYield i, .yield), (.spnFence i, .fence), (.spnExit i, .exit), (.spnTrap i, .trap), (.spnGets i, .gets), (.spnWait i, .wait), (.spnSignal i, .signal), (.spnMark i, .mark), (.spnVectorInt i, .vectorInt), (.spnVectorFp i, .vectorFp), (.spnReduce i, .reduce), (.spnVectorLoad i, .vectorLoad), (.spnVectorStore i, .vectorStore), (.spnGather i, .gather), (.spnScatter i, .scatter), (.spnVcvt i, .vcvt), (.spnVmxq i, .vmxq), (.spnCrc i, .crc), (.spnCrcv i, .crcv)] ∧ g.st ≠ .running) ∧
    (∃ (i : Nat) (g : Grain) (j : Job) (c : Instr) (k : SCls) (s : State), s.grain i = some g ∧ s.job g.job = some j ∧ (c, k) ∈ [(Instr.spnAlu i, SCls.alu), (.spnAluImm i, .aluImm), (.spnLoadUpper i, .loadUpper), (.spnLoad i, .load), (.spnStore i, .store), (.spnBranch i, .branch), (.spnJump i, .jump), (.spnJumpReg i, .jumpReg), (.spnAtomic i, .atomic), (.spnYield i, .yield), (.spnFence i, .fence), (.spnExit i, .exit), (.spnTrap i, .trap), (.spnGets i, .gets), (.spnWait i, .wait), (.spnSignal i, .signal), (.spnMark i, .mark), (.spnVectorInt i, .vectorInt), (.spnVectorFp i, .vectorFp), (.spnReduce i, .reduce), (.spnVectorLoad i, .vectorLoad), (.spnVectorStore i, .vectorStore), (.spnGather i, .gather), (.spnScatter i, .scatter), (.spnVcvt i, .vcvt), (.spnVmxq i, .vmxq), (.spnCrc i, .crc), (.spnCrcv i, .crcv)] ∧ g.st = .running ∧ j.word g.ctx.pc = none) ∧
    (∃ (i : Nat) (g : Grain) (j : Job) (c : Instr) (k : SCls) (s : State) (w : _), s.grain i = some g ∧ s.job g.job = some j ∧ (c, k) ∈ [(Instr.spnAlu i, SCls.alu), (.spnAluImm i, .aluImm), (.spnLoadUpper i, .loadUpper), (.spnLoad i, .load), (.spnStore i, .store), (.spnBranch i, .branch), (.spnJump i, .jump), (.spnJumpReg i, .jumpReg), (.spnAtomic i, .atomic), (.spnYield i, .yield), (.spnFence i, .fence), (.spnExit i, .exit), (.spnTrap i, .trap), (.spnGets i, .gets), (.spnWait i, .wait), (.spnSignal i, .signal), (.spnMark i, .mark), (.spnVectorInt i, .vectorInt), (.spnVectorFp i, .vectorFp), (.spnReduce i, .reduce), (.spnVectorLoad i, .vectorLoad), (.spnVectorStore i, .vectorStore), (.spnGather i, .gather), (.spnScatter i, .scatter), (.spnVcvt i, .vcvt), (.spnVmxq i, .vmxq), (.spnCrc i, .crc), (.spnCrcv i, .crcv)] ∧ g.st = .running ∧ j.word g.ctx.pc = some w ∧ sDecode w ≠ some k) ∧
    (∃ (i : Nat) (g : Grain) (j : Job) (c : Instr) (k : SCls) (s : State) (w : _), s.grain i = some g ∧ s.job g.job = some j ∧ (c, k) ∈ [(Instr.spnAlu i, SCls.alu), (.spnAluImm i, .aluImm), (.spnLoadUpper i, .loadUpper), (.spnLoad i, .load), (.spnStore i, .store), (.spnBranch i, .branch), (.spnJump i, .jump), (.spnJumpReg i, .jumpReg), (.spnAtomic i, .atomic), (.spnYield i, .yield), (.spnFence i, .fence), (.spnExit i, .exit), (.spnTrap i, .trap), (.spnGets i, .gets), (.spnWait i, .wait), (.spnSignal i, .signal), (.spnMark i, .mark), (.spnVectorInt i, .vectorInt), (.spnVectorFp i, .vectorFp), (.spnReduce i, .reduce), (.spnVectorLoad i, .vectorLoad), (.spnVectorStore i, .vectorStore), (.spnGather i, .gather), (.spnScatter i, .scatter), (.spnVcvt i, .vcvt), (.spnVmxq i, .vmxq), (.spnCrc i, .crc), (.spnCrcv i, .crcv)] ∧ g.st = .running ∧ j.word g.ctx.pc = some w ∧ sDecode w = some k ∧ s.pastLimit g j = true) ∧
    (∃ (g : Grain) (j : Job) (code pc : Nat) (c : Status) (o : Op) (s : State) (x : _), s.job g.job = some j ∧ j.id = g.job ∧ j.stop = none ∧ s.op j.id = some o ∧ o.done = none ∧ (∀ x, x ∈ s.grains → x.job = j.id → x.id = g.id) ∧ x ∈ (s.faultGrain g code pc c).grains) :=
  ⟨⟨3, 0x24000000#32, gw (0#64) (0#64), jw 0x24000000#32, spw (jw 0x24000000#32) (gw (0#64) (0#64)), by constructor <;> decide, by decide⟩,
   ⟨3, 0x24000000#32, gw (0#64) (0#64), jw 0x24000000#32 (some (.timeout, 0)), spw (jw 0x24000000#32 (some (.timeout, 0))) (gw (0#64) (0#64)), by constructor <;> decide, by decide⟩,
   ⟨3, 0x24001000#32, gw (0#64) (0#64), jw 0x24001000#32, spw (jw 0x24001000#32) (gw (0#64) (0#64)), by constructor <;> decide⟩,
   ⟨3, 0x24002000#32, gw (0#64) (0#64), jw 0x24002000#32, spw (jw 0x24002000#32) (gw (0#64) (0#64)), by constructor <;> decide⟩,
   ⟨3, 0x24003000#32, gw (0#64) (0#64), jw 0x24003000#32, spw (jw 0x24003000#32) (gw (0#64) (0#64)), by constructor <;> decide⟩,
   ⟨3, 0x24005000#32, gw (0#64) (0#64), jw 0x24005000#32, spw (jw 0x24005000#32) (gw (0#64) (0#64)), by constructor <;> decide, by decide⟩,
   ⟨3, 0x24015000#32, gw (1#64) (0#64), jw 0x24015000#32, spw (jw 0x24015000#32) (gw (1#64) (0#64)), _, by constructor <;> decide, rfl, by decide, by decide⟩,
   ⟨3, 0x24015000#32, gw (1#64) (0#64), jw 0x24015000#32 (some (.timeout, 0)), spw (jw 0x24015000#32 (some (.timeout, 0))) (gw (1#64) (0#64)), _, by constructor <;> decide, rfl, by decide, by decide⟩,
   ⟨3, 0x24006000#32, gw (0#64) (0#64), jw 0x24006000#32, spw (jw 0x24006000#32) (gw (0#64) (0#64)), by constructor <;> decide⟩,
   ⟨3, 0x24007000#32, gw (0#64) (0#64), jw 0x24007000#32, spw (jw 0x24007000#32) (gw (0#64) (0#64)), by constructor <;> decide⟩,
   ⟨3, { gw with st := .ready }, jw 0#32, .spnCrcv 3, .crcv, spw (jw 0#32) { gw with st := .ready }, by decide⟩,
   ⟨3, gw 0#64 0#64 4, jw 0#32, .spnAlu 3, .alu, spw (jw 0#32) (gw 0#64 0#64 4), by decide⟩,
   ⟨3, gw, jw 0#32, .spnCrcv 3, .crcv, spw (jw 0#32) gw, 0#32, by decide⟩,
   ⟨3, gw 0#64 0#64 0 1048577, jw 0#32 none 1, .spnAlu 3, .alu, spw (jw 0#32 none 1) (gw 0#64 0#64 0 1048577), 0#32, by decide⟩,
   ⟨gw, jw 0#32, 5, 0, .timeout, dop 7, { spw (jw 0#32) gw with grains := [gw, { gw with id := 4, job := 8 }] }, { gw with id := 4, job := 8 }, by decide⟩⟩

theorem test_meets_SharedRegionsAndTheirLines :
    (∃ (v : W32) (g : Region) (s : State), g = (s.region s.shrSel).writeCfg v ∧ (s.region s.shrSel).enabled = false ∧ s.regionOk s.shrSel g = true) ∧
    (∃ (v : W32) (g : Region) (s : State), g = (s.region s.shrSel).writeCfg v ∧ (s.region s.shrSel).enabled = false ∧ s.regionOk s.shrSel g = false) ∧
    (∃ (v : W32) (g : Region) (s : State), g = (s.region s.shrSel).writeCfg v ∧ (s.region s.shrSel).enabled = true) ∧
    (∃ (s : State), (s.region s.shrSel).enabled = true ∧ (s.region s.shrSel).pub = none ∧ s.wtt.any (fun e => e.2.mapsRegion s.shrSel) = false) ∧
    (∃ (s : State), (s.region s.shrSel).enabled = true ∧ ((s.region s.shrSel).pub.isSome = true ∨ s.wtt.any (fun e => e.2.mapsRegion s.shrSel) = true)) ∧
    (∃ (s : State), (s.region s.shrSel).enabled = false) ∧
    (∃ (n : Nat) (s : State), s.shr.walks.find? (fun x => x.id = n) = none ∨ s.walkReady n = false) ∧
    (∃ (n : Nat) (s : State) (w : _), s.shr.walks.find? (fun x => x.id = n) = some w ∧ s.walkReady n = true) ∧
    (∃ (op r : Nat) (p : Pub) (s : State) (o : _), (s.region r).pub = some p ∧ s.shr.resWait = [] ∧ s.op p.op = some o) ∧
    (∃ (op r : Nat) (o : Op) (s : State), s.op op = some o) ∧
    (∃ (t : Nat) (s : State) (u : _), (s.wttOf t).pend = some .walking ∧ u ≠ t) ∧
    (∃ (n : Snoop) (s : State), s.shr.snoops.find? (fun x => x.id = n.id) = some n) ∧
    (∃ (n : Snoop) (s : State) (d : Line) (p : Bool), s.shr.snoops.find? (fun x => x.id = n.id) = some n) ∧
    (∃ (i : Nat) (r : SnpRsp) (s : State), s.shr.snoops.find? (fun x => x.id = i) = none) ∧
    (∃ (n : Snoop) (d : Dir) (s : State), s.dirOf n.line = some d ∧ d.st = .orphaned) ∧
    (∃ (n : Snoop) (d : Dir) (s : State), s.dirOf n.line = some d ∧ n.inv = false ∧ d.st = .owned) ∧
    (∃ (n : Snoop) (d : Dir) (s : State), s.dirOf n.line = some d ∧ n.inv = false ∧ d.st ≠ .owned) ∧
    (∃ (n : Snoop) (d : Dir) (s : State), s.dirOf n.line = some d ∧ n.inv = true ∧ d.st ≠ .orphaned ∧ d.coarse = false ∧ nmem n.tenant d.holders = true) ∧
    (∃ (n : Snoop) (d : Dir) (s : State), s.dirOf n.line = some d ∧ n.inv = true ∧ d.st ≠ .orphaned ∧ d.coarse = true ∧ (∀ k, n.why ≠ .walk k) ∧ s.shr.snoops.any (fun x => x.id ≠ n.id && x.line = n.line && x.why = n.why) = false) ∧
    (∃ (n : Snoop) (d : Dir) (s : State) (l : _), s.dirOf n.line = some d ∧ l ≠ n.line) ∧
    (∃ (l t : Nat) (d : Dir) (s : State), s.dirOf l = some d ∧ d.st = .owned ∧ nmem t d.holders = true ∧ ((s.setOf l).filter (fun e => e.2.st = .orphaned)).length < 12) ∧
    (∃ (t : Tenant) (s : State), s.conflict = false ∧ s.shr.relCmd = none ∧ s.shr.snoops = []) ∧
    (∃ (t l : Nat) (d : Dir) (s : State), s.shr.snoops = [] ∧ (s.failTenant t).dirOf l = some d ∧ d.coarse = false ∧ d.st ≠ .orphaned) ∧
    (∃ (t : Tenant) (s : State), nmem t.toNat s.shr.sweeping = false) ∧
    (∃ (t : Tenant) (s : State), nmem t.toNat s.shr.sweeping = true) ∧
    (∃ (r : RegionId) (s : State), s.conflict = false ∧ s.shr.relCmd = none ∧ (s.region r.toNat).enabled = true) ∧
    (∃ (u : Tenant) (s : State), s.conflict = false ∧ s.shr.relCmd = none) ∧
    (∃ (reg : Bool) (n : Nat) (s : State), s.shr.relCmd = some (reg, n)) ∧
    (∃ (r : RegionId) (u : Tenant) (s : State) (c : _), c ∈ [Instr.releaseRegionOrphans r, .releaseCapacity r u, .releaseTenantOrphans u, .shrFailTenant u] ∧ s.conflict = true) ∧
    (∃ (r : RegionId) (u : Tenant) (s : State) (c : _), c ∈ [Instr.releaseRegionOrphans r, .releaseCapacity r u, .releaseTenantOrphans u, .shrFailTenant u] ∧ s.conflict = false ∧ s.shr.relCmd.isSome = true) ∧
    (∃ (r : RegionId) (u : Tenant) (s : State) (c : _), c ∈ [Instr.releaseRegionOrphans r, .releaseCapacity r u] ∧ s.conflict = false ∧ s.shr.relCmd = none ∧ (s.region r.toNat).enabled = false) ∧
    (∃ (r : RegionId) (u : Tenant) (l : List Nat) (s : State), s.conflict = false ∧ s.shr.relCmd = none ∧ (s.region r.toNat).enabled = true ∧ l = ((s.wttOf u.toNat).shared.filter (fun e => e.2.region = r.toNat)).map (fun e => e.1 * 2 ^ cfgSeg (s.wttOf u.toNat).cfg)) :=
  ⟨⟨1, _, { zero with tier := { plots := [(5, {})] }, shr := { regions := [(0, { view := 9, bufs := [(0, 5)] })] } }, rfl, by decide, by decide⟩,
   ⟨0, _, zero, rfl, by decide, by decide⟩,
   ⟨0, _, { zero with shr := { regions := [(0, { enabled := true })] } }, rfl, by decide⟩,
   ⟨{ zero with shr := { regions := [(0, { enabled := true })] } }, by decide⟩,
   ⟨{ zero with shr := { regions := [(0, { enabled := true, pub := some { op := 0, buf := none, ver := 0#32 } })] } }, by decide⟩,
   ⟨zero, by decide⟩,
   ⟨5, zero, by decide⟩,
   ⟨5, { zero with shr := { walks := [{ id := 5, why := .flr 255 0 }] } }, { id := 5, why := .flr 255 0 }, by decide⟩,
   ⟨0, 4095, { op := 7, buf := none, ver := 0#32 }, { zero with ops := [dop 12#512], shr := { regions := [(4095, { enabled := true, pub := some { op := 7, buf := none, ver := 0#32 } })] } }, dop 12, by decide⟩,
   ⟨7, 4095, dop 13, { zero with ops := [dop 13#512] }, by decide⟩,
   ⟨255, { zero with wtt := [(255, { pend := some .walking })] }, 0, by decide⟩,
   ⟨{ id := 9, tenant := 255, line := 5120, inv := true, why := .walk 5 }, { zero with shr := { snoops := [{ id := 9, tenant := 255, line := 5120, inv := true, why := .walk 5 }] } }, by decide⟩,
   ⟨{ id := 9, tenant := 255, line := 5120, inv := true, why := .walk 5 }, { zero with shr := { snoops := [{ id := 9, tenant := 255, line := 5120, inv := true, why := .walk 5 }] } }, 0, true, by decide⟩,
   ⟨9, .clean, zero, by decide⟩,
   ⟨{ id := 9, tenant := 255, line := 5120, inv := true, why := .walk 5 }, { st := .orphaned, holders := [255], region := 0, used := 0 }, { zero with shr := { dir := [(5120, { st := .orphaned, holders := [255], region := 0, used := 0 })] } }, by decide⟩,
   ⟨{ id := 9, tenant := 255, line := 5120, inv := false, why := .walk 5 }, { st := .owned, holders := [255], region := 0, used := 0 }, { zero with shr := { dir := [(5120, { st := .owned, holders := [255], region := 0, used := 0 })] } }, by decide⟩,
   ⟨{ id := 9, tenant := 255, line := 5120, inv := false, why := .walk 5 }, { st := .shared, holders := [255], region := 0, used := 0 }, { zero with shr := { dir := [(5120, { st := .shared, holders := [255], region := 0, used := 0 })] } }, by decide⟩,
   ⟨{ id := 9, tenant := 255, line := 5120, inv := true, why := .walk 5 }, { st := .shared, holders := [255], region := 0, used := 0 }, { zero with shr := { dir := [(5120, { st := .shared, holders := [255], region := 0, used := 0 })] } }, by decide⟩,
   ⟨{ id := 9, tenant := 255, line := 5120, inv := true, why := .unit }, { st := .shared, coarse := true, holders := [255], region := 0, used := 0 }, { zero with shr := { dir := [(5120, { st := .shared, coarse := true, holders := [255], region := 0, used := 0 })] } }, by decide, by decide, by decide, by decide, (fun k h => by cases h), by decide⟩,
   ⟨{ id := 9, tenant := 255, line := 5120, inv := true, why := .walk 5 }, { st := .shared, holders := [255], region := 0, used := 0 }, { zero with shr := { dir := [(5120, { st := .shared, holders := [255], region := 0, used := 0 })] } }, 5121, by decide⟩,
   ⟨5120, 255, { st := .owned, holders := [255], region := 0, used := 0 }, { zero with shr := { dir := [(5120, { st := .owned, holders := [255], region := 0, used := 0 })] } }, by decide⟩,
   ⟨255, zero, by decide⟩,
   ⟨255, 5120, { st := .shared, holders := [0], region := 0, used := 0 }, { zero with shr := { dir := [(5120, { st := .shared, holders := [0], region := 0, used := 0 })] } }, by decide⟩,
   ⟨255, zero, by decide⟩,
   ⟨255, { zero with shr := { sweeping := [255] } }, by decide⟩,
   ⟨4095, { zero with shr := { regions := [(4095, { enabled := true })] } }, by decide⟩,
   ⟨255, zero, by decide⟩,
   ⟨true, 4095, { zero with shr := { relCmd := some (true, 4095) } }, by decide⟩,
   ⟨4095, 255, { zero with bridge := { zero.bridge with conflict := true } }, .shrFailTenant 255, by decide⟩,
   ⟨4095, 255, { zero with shr := { relCmd := some (true, 4095) } }, .shrFailTenant 255, by decide⟩,
   ⟨4095, 255, zero, .releaseCapacity 4095 255, by decide⟩,
   ⟨4095, 255, _, { zero with shr := { regions := [(4095, { enabled := true })] } }, by decide, by decide, by decide, rfl⟩⟩

theorem test_meets_ChannelsServeRefreshAndRetrain :
    (∃ (line pin : Nat), pin < 36) ∧
    (∃ (line pin : Nat), pin < 16) ∧
    (∃ (d : DLoc) (ua : Nat) (t : Option Nat) (host : Bool) (s : State), nmem d.key (s.chan d.chan).wq = true) ∧
    (∃ (d : DLoc) (ua : Nat) (t : Option Nat) (host : Bool) (s : State), s.lineBad d = []) ∧
    (∃ (d : DLoc) (ua : Nat) (t : Option Nat) (host : Bool) (s : State) (x : _), s.lineBad d = [x]) ∧
    (∃ (d : DLoc) (ua : Nat) (t : Option Nat) (host : Bool) (s : State) (x : _) (y : _) (l : _), s.lineBad d = x :: y :: l) ∧
    (∃ (d : DLoc) (ua : Nat) (t : Option Nat) (host : Bool) (s : State) (x : _) (l : _), s.lineBad d = x :: l) ∧
    (∃ (ch : Nat) (s : State), ch < 264 ∧ (s.chan ch).st ≠ .paused) ∧
    (∃ (c : Chan) (k : Nat) (r : List Nat) (x : _), c.wq = k :: r ∧ x ∈ c.serveWrites.wq) ∧
    (∃ (ch b : Nat) (s : State), ch < 264) ∧
    (∃ (ch : Nat) (r : BitVec 2) (s : State), ch < 264 ∧ r = 3#2) ∧
    (∃ (ch : Nat) (r : BitVec 2) (s : State), ch < 264 ∧ r ≠ 3#2 ∧ (s.chan ch).refRate.toNat ≤ r.toNat) ∧
    (∃ (ch : Nat) (r : BitVec 2) (s : State), ch < 264 ∧ r.toNat < (s.chan ch).refRate.toNat) ∧
    (∃ (ch : Nat) (r : BitVec 2) (s : State), ch < 264 ∧ (s.chan ch).rateWant = some r ∧ s.holdsGrant 3 ch = true) ∧
    (∃ (ch : Nat) (r : BitVec 2) (s : State), ch < 264 ∧ ((s.chan ch).rateWant ≠ some r ∨ s.holdsGrant 3 ch = false)) ∧
    (∃ (ch : Nat) (s u : State), ch < 264 ∧ bit 31 (s.stw (Reg.DMC_TCFG + 4 * chanTier ch)) = true ∧ (s.chan ch).st = .inService ∧ (s.chan ch).lost = false ∧ u = (if (s.actOf 2 ch).isSome then s else s.maintAsk 2 [ch] ch) ∧ u.holdsGrant 2 ch = true) ∧
    (∃ (ch : Nat) (s u : State), ch < 264 ∧ bit 31 (s.stw (Reg.DMC_TCFG + 4 * chanTier ch)) = true ∧ (s.chan ch).st = .inService ∧ (s.chan ch).lost = false ∧ u = (if (s.actOf 2 ch).isSome then s else s.maintAsk 2 [ch] ch) ∧ u.holdsGrant 2 ch = false) ∧
    (∃ (ch : Nat) (s : State), ch < 264 ∧ (bit 31 (s.stw (Reg.DMC_TCFG + 4 * chanTier ch)) = false ∨ (s.chan ch).st ≠ .inService ∨ (s.chan ch).lost = true)) ∧
    (∃ (ch : Nat) (s : State), ch < 264 ∧ (s.chan ch).st = .paused ∧ (s.chan ch).tfails ≠ 2) ∧
    (∃ (ch : Nat) (s : State), ch < 264 ∧ (s.chan ch).st = .paused ∧ (s.chan ch).tfails = 2 ∧ (bit 31 (s.stw Reg.DMC_ECFG) = false ∨ 136 ≤ ch)) ∧
    (∃ (ch : Nat) (s : State) (r : _), ch < 264 ∧ (s.chan ch).st = .paused ∧ (s.chan ch).tfails = 2 ∧ bit 31 (s.stw Reg.DMC_ECFG) = true ∧ ch < 136 ∧ r ∈ s.ranksOn ch ∧ s.cmp.closeWait = []) ∧
    (∃ (ch : Nat) (ok : Bool) (s : State), ch < 264 ∧ (s.chan ch).st ≠ .paused) ∧
    (∃ (ch : Nat) (s u : State), ch < 264 ∧ u = s.cntStw (Reg.DMC_SQSTAT + 4 * chanTier ch) 15 0 1) ∧
    (∃ (near : Bool) (v : W16) (n : Nat) (ask : Half → State → State) (s u : State), n = (if near then 0 else 1) ∧ ask = (fun h s => if (s.actOf 7 (2 * n + halfIdx h)).isSome then s else s.maintAsk 7 (scTier n h) (2 * n + halfIdx h)) ∧ u = ask .south (ask .north s) ∧ u.holdsGrant 7 (2 * n) = true ∧ u.holdsGrant 7 (2 * n + 1) = true) ∧
    (∃ (near : Bool) (v : W16) (n : Nat) (ask : Half → State → State) (s u : State), n = (if near then 0 else 1) ∧ ask = (fun h s => if (s.actOf 7 (2 * n + halfIdx h)).isSome then s else s.maintAsk 7 (scTier n h) (2 * n + halfIdx h)) ∧ u = ask .south (ask .north s) ∧ (u.holdsGrant 7 (2 * n) = false ∨ u.holdsGrant 7 (2 * n + 1) = false)) ∧
    (∃ (ch b : Nat) (r : BitVec 2) (ok : Bool) (s : State) (c : _), c ∈ [Instr.writeQueueServe ch, .rowIdleClose ch b, .refreshDue ch b, .temperaturePoll ch r, .refreshRateChange ch r, .retrainPauseDue ch, .retrainPauseEnd ch ok, .scriptAbort ch, .channelLost ch] ∧ 264 ≤ ch) :=
  ⟨⟨7, 35, by decide⟩,
   ⟨7, 15, by decide⟩,
   ⟨{ chan := 263, k := 0, bank := 63, row := 0, line := 0, lrank := none }, 0, none, true, { zero with dmc := { chans := [(263, { wq := [({ chan := 263, k := 0, bank := 63, row := 0, line := 0, lrank := none } : DLoc).key] })] } }, by decide⟩,
   ⟨{ chan := 263, k := 0, bank := 63, row := 0, line := 0, lrank := none }, 0, none, true, zero, by decide⟩,
   ⟨{ chan := 263, k := 0, bank := 63, row := 0, line := 0, lrank := none }, 0, none, true, { zero with dmc := { damage := [(({ chan := 263, k := 0, bank := 63, row := 0, line := 0, lrank := none } : DLoc).lineKey, [35])] } }, 35, by decide⟩,
   ⟨{ chan := 263, k := 0, bank := 63, row := 0, line := 0, lrank := none }, 0, none, true, { zero with dmc := { damage := [(({ chan := 263, k := 0, bank := 63, row := 0, line := 0, lrank := none } : DLoc).lineKey, [0, 35])] } }, 0, 35, [], by decide⟩,
   ⟨{ chan := 263, k := 0, bank := 63, row := 0, line := 0, lrank := none }, 0, none, true, { zero with dmc := { damage := [(({ chan := 263, k := 0, bank := 63, row := 0, line := 0, lrank := none } : DLoc).lineKey, [35])] } }, 35, [], by decide⟩,
   ⟨263, zero, by decide⟩,
   ⟨{ wq := (List.range 40).map (fun i => i * 2 ^ 30) }, 0, ((List.range 40).map (fun i => i * 2 ^ 30)).drop 1, 39 * 2 ^ 30, by decide⟩,
   ⟨263, 63, { zero with dmc := { chans := [(263, { rows := [(63, 7)] })] } }, by decide⟩,
   ⟨263, 3, zero, by decide⟩,
   ⟨263, 2, zero, by decide⟩,
   ⟨263, 0, { zero with dmc := { chans := [(263, { refRate := 2#2 })] } }, by decide⟩,
   ⟨263, 0, { zero with dmc := { chans := [(263, { rateWant := some 0 })] }, ras := { acts := [{ id := 0, code := 3, scope := [263], unit := 263, start := 0, granted := true }] } }, by decide⟩,
   ⟨263, 0, { zero with dmc := { chans := [(263, { rateWant := some 0 })] } }, by decide⟩,
   ⟨263, ({ zero with ras := { acts := [{ id := 0, code := 2, scope := [263], unit := 263, start := 0, granted := true }] } } : State).setStw Reg.DMC_TCFG 0x80000000#32, _, by decide, by decide, by decide, by decide, rfl, by decide⟩,
   ⟨263, ({ zero with ras := { acts := [{ id := 9, code := 4, scope := [263], unit := 9, start := 0, granted := true }] } } : State).setStw Reg.DMC_TCFG 0x80000000#32, _, by decide, by decide, by decide, by decide, rfl, by decide⟩,
   ⟨263, zero.setStw Reg.DMC_TCFG 0#32, by decide⟩,
   ⟨263, { zero with dmc := { chans := [(263, { st := .paused, tfails := 1 })] } }, by decide⟩,
   ⟨263, { zero with dmc := { chans := [(263, { st := .paused, tfails := 2 })] } }, by decide⟩,
   ⟨135, ({ zero with dmc := { chans := [(135, { st := .paused, tfails := 2 })], ranks := [(255, { phys := 270 })] } } : State).setStw Reg.DMC_ECFG 0x80000000#32, 255, by decide, by decide, by decide, by decide, by decide, by decide +kernel, by decide⟩,
   ⟨263, true, zero, by decide⟩,
   ⟨263, zero, _, by decide, rfl⟩,
   ⟨false, 0, 1, fun h s => if (s.actOf 7 (2 * 1 + halfIdx h)).isSome then s else s.maintAsk 7 (scTier 1 h) (2 * 1 + halfIdx h), { zero with ras := { acts := [{ id := 0, code := 7, scope := [2], unit := 2, start := 0, granted := true }, { id := 1, code := 7, scope := [3], unit := 3, start := 0, granted := true }] } }, _, by decide, rfl, rfl, by decide, by decide⟩,
   ⟨false, 0, 1, fun h s => if (s.actOf 7 (2 * 1 + halfIdx h)).isSome then s else s.maintAsk 7 (scTier 1 h) (2 * 1 + halfIdx h), { zero with ras := { acts := [{ id := 9, code := 6, scope := [0], unit := 0, start := 0, granted := true }] } }, _, by decide, rfl, rfl, by decide⟩,
   ⟨264, 0, 0, true, zero, .channelLost 264, by decide⟩⟩

theorem test_meets_RanksAreEvacuated :
    (∃ (r : BitVec 8) (s : State) (p : _), s.conflict = false ∧ s.evacRuns r.toNat = false ∧ (s.rank r.toNat).st = .normal ∧ pickFree (s.freeSpares (rankHalf r.toNat)) s = some p) ∧
    (∃ (r : BitVec 8) (s : State), s.conflict = false ∧ s.evacRuns r.toNat = false ∧ (s.rank r.toNat).st = .normal ∧ pickFree (s.freeSpares (rankHalf r.toNat)) s = none ∧ nmem (rankHalf r.toNat) s.dmc.spillUsed = false) ∧
    (∃ (r : BitVec 8) (s : State), s.conflict = false ∧ s.evacRuns r.toNat = false ∧ (s.rank r.toNat).st = .normal ∧ pickFree (s.freeSpares (rankHalf r.toNat)) s = none ∧ nmem (rankHalf r.toNat) s.dmc.spillUsed = true) ∧
    (∃ (r : BitVec 8) (s : State), s.conflict = true) ∧
    (∃ (r : BitVec 8) (s : State), s.conflict = false ∧ s.evacRuns r.toNat = true) ∧
    (∃ (r : BitVec 8) (s : State), s.conflict = false ∧ s.evacRuns r.toNat = false ∧ (s.rank r.toNat).st ≠ .normal) ∧
    (∃ (r : BitVec 8) (s : State), s.conflict = false ∧ (s.rank r.toNat).st = .copying) ∧
    (∃ (r : BitVec 8) (s : State), s.conflict = false ∧ (s.rank r.toNat).st ≠ .copying) ∧
    (∃ (r : BitVec 8) (s : State), bit 31 (s.stw Reg.DMC_ECFG) = false ∨ (s.rank r.toNat).auto = false) ∧
    (∃ (r : BitVec 8) (s : State), bit 31 (s.stw Reg.DMC_ECFG) = true ∧ (s.rank r.toNat).auto = true ∧ (s.rank r.toNat).st ≠ .normal) ∧
    (∃ (r : BitVec 8) (s : State), bit 31 (s.stw Reg.DMC_ECFG) = true ∧ (s.rank r.toNat).auto = true ∧ (s.rank r.toNat).st = .normal) ∧
    (∃ (r : BitVec 8) (s : State), (s.rank r.toNat).st = .copying ∧ s.holdsGrant 4 r.toNat = true) ∧
    (∃ (r : BitVec 8) (s : State), (s.rank r.toNat).st ≠ .copying ∨ s.holdsGrant 4 r.toNat = false) ∧
    (∃ (r : BitVec 8) (s : State), (s.rank r.toNat).st = .switching ∧ s.holdsGrant 4 r.toNat = true) ∧
    (∃ (r : BitVec 8) (s : State), (s.rank r.toNat).st ≠ .switching ∨ s.holdsGrant 4 r.toNat = false) ∧
    (∃ (r : BitVec 8) (l : List Nat) (s : State) (v : _), (s.rank r.toNat).st = .spilling ∧ s.holdsGrant 4 r.toNat = true ∧ bit 30 (s.stw (estatOf r.toNat)) = false ∧ l = (ninsAll ((s.rankBytes r.toNat).map (fun c => c.1 / 4096)) []).filter (fun u => (s.rank r.toNat).row ≤ u) ∧ s.spillUnits r.toNat (s.rankBytes r.toNat) l = (none, v)) ∧
    (unitCodes (mread 0 4096 [(0, 1#8)]) = false → ∃ (r : BitVec 8) (l : List Nat) (s : State) (u : _) (v : _), (s.rank r.toNat).st = .spilling ∧ s.holdsGrant 4 r.toNat = true ∧ bit 30 (s.stw (estatOf r.toNat)) = false ∧ l = (ninsAll ((s.rankBytes r.toNat).map (fun c => c.1 / 4096)) []).filter (fun u => (s.rank r.toNat).row ≤ u) ∧ s.spillUnits r.toNat (s.rankBytes r.toNat) l = (some u, v)) ∧
    (∃ (r : BitVec 8) (l : List Nat) (s : State), (s.rank r.toNat).st ≠ .spilling ∨ s.holdsGrant 4 r.toNat = false ∨ bit 30 (s.stw (estatOf r.toNat)) = true) ∧
    (Config.codeBlock 8 (List.replicate 4096 0#8) = ((List.range (planesOf 8 0).length).map (fun _ => [0#8, 0#8, 0#8, 0xC0#8])).flatten ++ List.replicate (64 - 4 * (planesOf 8 0).length) 0#8 → ∃ (r u : Nat) (b : List Byte) (s : State), unitCodes b = true) ∧
    (∃ (r u : Nat) (b : List Byte) (s : State) (i : _), unitCodes b = false ∧ s.freeEscape (rankHalf r) = some i) ∧
    (∃ (r u : Nat) (b : List Byte) (s : State), unitCodes b = false ∧ s.freeEscape (rankHalf r) = none) ∧
    (∃ (h : Half) (s : State), s.escFull (halfIdx h) = true) ∧
    (∃ (h : Half) (s : State), s.escFull (halfIdx h) = false) :=
  ⟨(let ⟨p, h⟩ := pickFree_some zero (l := zero.freeSpares (rankHalf 255)) (by decide +kernel); ⟨255, zero, p, by decide, by decide, by decide, h⟩),
   ⟨255, { zero with dmc := { retiredRanks := (List.range 16).map (fun i => 256 + i) } }, by decide, by decide, by decide, by decide +kernel, by decide⟩,
   ⟨255, { zero with dmc := { retiredRanks := (List.range 16).map (fun i => 256 + i), spillUsed := [1] } }, by decide, by decide, by decide, by decide +kernel, by decide⟩,
   ⟨255, { zero with bridge := { zero.bridge with conflict := true } }, by decide⟩,
   ⟨255, { zero with dmc := { ranks := [(255, { st := .copying, phys := 255 })] } }, by decide⟩,
   ⟨255, { zero with dmc := { ranks := [(255, { st := .spilled, phys := 255 })] } }, by decide⟩,
   ⟨255, { zero with dmc := { ranks := [(255, { st := .copying, phys := 255 })] } }, by decide⟩,
   ⟨255, zero, by decide⟩,
   ⟨255, zero, by decide⟩,
   ⟨255, ({ zero with dmc := { ranks := [(255, { st := .copying, phys := 255, auto := true })] } } : State).setStw Reg.DMC_ECFG 0x80000000#32, by decide⟩,
   ⟨255, ({ zero with dmc := { ranks := [(255, { st := .normal, phys := 255, auto := true })] } } : State).setStw Reg.DMC_ECFG 0x80000000#32, by decide⟩,
   ⟨255, { zero with dmc := { ranks := [(255, { st := .copying, phys := 255 })] }, ras := { acts := [{ id := 0, code := 4, scope := [255], unit := 255, start := 0, granted := true }] } }, by decide⟩,
   ⟨255, zero, by decide⟩,
   ⟨255, { zero with dmc := { ranks := [(255, { st := .switching, phys := 255 })] }, ras := { acts := [{ id := 0, code := 4, scope := [255], unit := 255, start := 0, granted := true }] } }, by decide⟩,
   ⟨255, zero, by decide⟩,
   ⟨255, [], { zero with dmc := { ranks := [(255, { st := .spilling, phys := 255 })] }, ras := { acts := [{ id := 0, code := 4, scope := [255], unit := 255, start := 0, granted := true }] } }, _, by decide, by decide, by decide, by decide +kernel, rfl⟩,
   fun ht => (let ⟨v, h⟩ := parks ht; ⟨0, [0], spilling, 0, v, by decide +kernel, by decide +kernel, by decide +kernel, by decide +kernel, h⟩),
   ⟨255, [], zero, by decide⟩,
   fun ht => ⟨255, 0, List.replicate 4096 0#8, zero, codes_zeros ht⟩,
   ⟨255, 0, [], zero, _, no_codes (by decide), (Option.some_get (by decide +kernel)).symm⟩,
   ⟨0, 0, [], { zero with tier := { escUsed := pool 262144 } }, no_codes (by decide), pool_none _ 262144 rfl rfl⟩,
   ⟨.north, { zero with tier := { escUsed := pool 262144 } }, pool_full _ 262144 rfl rfl⟩,
   ⟨.south, zero, by decide⟩⟩

theorem test_meets_BanksAreGivenPoweredAndCleared :
    (∃ (b : BankId) (f : BitVec 4) (d : Bool) (s : State), d = (!((s.bank b.toNat).kind = .free || (s.bank b.toNat).kind = .stage) || ((s.bank b.toNat).kind = .stage && (s.bank b.toNat).owner ≠ f.toNat && (s.fe (s.bank b.toNat).owner).ctl.st = .inService && (s.sbanks (s.bank b.toNat).owner).length ≤ 2) || (!((s.bank b.toNat).kind = .stage && (s.bank b.toNat).owner = f.toNat) && (s.sbanks f.toNat).length ≥ 15)) ∧ s.bcCheck b.toNat (decide (bankHalf b.toNat ≠ feHalf f.toNat)) d = .ok) ∧
    (∃ (b : BankId) (f : BitVec 4) (d : Bool) (s : State) (c : _), d = (!((s.bank b.toNat).kind = .free || (s.bank b.toNat).kind = .stage) || ((s.bank b.toNat).kind = .stage && (s.bank b.toNat).owner ≠ f.toNat && (s.fe (s.bank b.toNat).owner).ctl.st = .inService && (s.sbanks (s.bank b.toNat).owner).length ≤ 2) || (!((s.bank b.toNat).kind = .stage && (s.bank b.toNat).owner = f.toNat) && (s.sbanks f.toNat).length ≥ 15)) ∧ s.bcCheck b.toNat (decide (bankHalf b.toNat ≠ feHalf f.toNat)) d = c ∧ c ≠ .ok) ∧
    (∃ (b : BankId) (c : Status) (s : State), s.bcCheck b.toNat false ((s.bank b.toNat).kind = .retired && !(s.bank b.toNat).mpass) = c) ∧
    (∃ (b : BankId) (s : State), s.bcCheck b.toNat false false = .ok ∧ (s.bank b.toNat).kind = .stage) ∧
    (∃ (b : BankId) (s : State), s.bcCheck b.toNat false false = .ok ∧ (s.bank b.toNat).kind = .retired) ∧
    (∃ (b : BankId) (s : State), s.bcCheck b.toNat false false = .ok ∧ (s.bank b.toNat).kind = .free) ∧
    (∃ (b : BankId) (s : State), s.bcCheck b.toNat false false = .ok ∧ ((s.bank b.toNat).ps = .on ∨ (s.bank b.toNat).ps = .retention)) ∧
    (∃ (b : BankId) (s : State), s.bcCheck b.toNat false false = .ok ∧ (s.bank b.toNat).ps = .fallow) ∧
    (∃ (b : BankId) (c : Status) (s : State), c ≠ .ok ∧ s.bcCheck b.toNat false false = c) ∧
    (∃ (b : BankId) (s : State), (s.bank b.toNat).handover = none ∨ s.bankRead b.toNat = true) ∧
    (∃ (b : BankId) (s : State) (dst : _), (s.bank b.toNat).handover = some dst ∧ s.bankRead b.toNat = false ∧ ((s.bank b.toNat).next ≠ some .free ∨ s.cst.allotWait = [])) ∧
    (∃ (b : BankId) (s : State), (s.bank b.toNat).ps = .filling) ∧
    (∃ (b a : Nat) (s : State), a < 524288) ∧
    (∃ (s : State), s.cst.allotWait = []) ∧
    (∃ (b : BankId) (s : State), (s.bank b.toNat).ps ≠ .filling) ∧
    (∃ (b : BankId) (s : State), nmem b.toNat s.cst.waking = false) ∧
    (∃ (b : BankId) (s : State), nmem b.toNat s.cst.waking = true) ∧
    (∃ (n : Nat) (j : Job) (s : State) (b : _), s.job n = some j ∧ j.banks.length < j.needBanks ∧ s.freeBank j.half = some b ∧ (s.bank b).ps = .on) ∧
    (∃ (n : Nat) (j : Job) (s : State), s.job n = some j ∧ j.banks.length < j.needBanks ∧ s.freeBank j.half = none) ∧
    (∃ (n : Nat) (s : State), (∀ j, s.job n = some j → j.needBanks ≤ j.banks.length)) ∧
    (∃ (b : BankId) (s : State), s.mayIdle b.toNat = true) ∧
    (∃ (b : BankId) (s : State), s.mayIdle b.toNat = false) ∧
    (∃ (b : BankId) (s : State), s.cisAuto b.toNat = false ∨ (s.bank b.toNat).kind ≠ .free) ∧
    (∃ (b : BankId) (p : Bool) (h : Nat) (s : State), h = halfIdx (bankHalf b.toNat) ∧ (tget {} b.toNat s.cst.ports).wait.any (fun w => w.port1 = p && 32 ≤ w.stall) = true) ∧
    (∃ (b : BankId) (p : Bool) (h : Nat) (s : State), h = halfIdx (bankHalf b.toNat) ∧ (tget {} b.toNat s.cst.ports).wait.any (fun w => w.port1 = p && 32 ≤ w.stall) = false) ∧
    (∃ (b : BankId) (l : List CReq) (a : List Item) (s : State), (s.bank b.toNat).ps ≠ .on ∧ (s.bank b.toNat).ps = .retention) ∧
    (∃ (b : BankId) (l : List CReq) (a : List Item) (s : State), (s.bank b.toNat).ps ≠ .on ∧ (s.bank b.toNat).ps = .fallow) ∧
    (∃ (a c : CWait), 32 ≤ a.stall ∧ c.stall < 32) ∧
    (∃ (a c : CWait) (x : _) (y : _), a.stall < 32 ∧ c.stall < 32 ∧ portRank a.port1 a.req.who = some x ∧ portRank c.port1 c.req.who = some y ∧ x < y) ∧
    (∃ (b : BankId) (r : CReq) (d : W128) (be : BitVec 16) (s : State), (s.bank b.toNat).ps = .on ∧ tget {} b.toNat s.cst.ports = {} ∧ r.atomic = false ∧ r.write = some (d, be) ∧ twoCycles r = false ∧ memWf s.cst.mem = true) ∧
    (∃ (b : BankId) (i j : Nat) (e : BitVec 15) (d0 d1 : W128) (be0 be1 : BitVec 16) (r0 r1 : CReq) (s : State) (k : _), (s.bank b.toNat).ps = .on ∧ tget {} b.toNat s.cst.ports = {} ∧ memWf s.cst.mem = true ∧ r0 = { id := i, who := .feWrite, entry := e, write := some (d0, be0), atomic := false } ∧ r1 = { id := j, who := .meshWrite, entry := e, write := some (d1, be1), atomic := false } ∧ twoCycles r0 = false ∧ twoCycles r1 = false ∧ k < 16) ∧
    (∃ (b : BankId) (i j : Nat) (e : BitVec 15) (d1 : W128) (be1 : BitVec 16) (r0 r1 : CReq) (s : State), (s.bank b.toNat).ps = .on ∧ tget {} b.toNat s.cst.ports = {} ∧ s.cst.damage = [] ∧ s.cst.poison = [] ∧ r0 = { id := i, who := .weightSluice, entry := e, write := none, atomic := false } ∧ r1 = { id := j, who := .meshWrite, entry := e, write := some (d1, be1), atomic := false } ∧ twoCycles r1 = false) :=
  ⟨⟨320, 15, _, zero, rfl, by decide +kernel⟩,
   ⟨320, 0, _, zero, .badDescriptor, rfl, by decide +kernel, by decide⟩,
   ⟨511, _, zero, rfl⟩,
   ⟨256, zero, by decide⟩,
   ⟨511, { zero with cst := { banks := [(511, { kind := .retired })] } }, by decide⟩,
   ⟨320, zero, by decide⟩,
   ⟨511, { zero with cst := { banks := [(511, { kind := .free, ps := .retention })] } }, by decide⟩,
   ⟨511, { zero with cst := { banks := [(511, { kind := .free, ps := .fallow })] } }, by decide⟩,
   ⟨511, .permission, zero, by decide⟩,
   ⟨256, { zero with cst := { banks := [(256, { kind := .free, handover := some (some 8), next := some .stage })] }, fes := [(8, { tile := some { grain := 0, kEnd := 0, acc := [], fail := none, blocks := [80], banks := [256] } })] }, by decide⟩,
   ⟨256, { zero with cst := { banks := [(256, { kind := .free, handover := some (some 8), next := some .stage })] } }, some 8, by decide⟩,
   ⟨511, { zero with cst := { banks := [(511, { kind := .free, ps := .filling })] } }, by decide⟩,
   ⟨511, 524287, zero, by decide⟩,
   ⟨zero, by decide⟩,
   ⟨511, zero, by decide⟩,
   ⟨511, zero, by decide⟩,
   ⟨511, { zero with cst := { banks := [(511, { kind := .free, ps := .retention })], waking := [511] } }, by decide⟩,
   ⟨7, { jw 0#32 with needBanks := 1 }, { zero with jobs := [{ jw 0#32 with needBanks := 1 }] }, 64, by decide⟩,
   ⟨7, { jw 0#32 with needBanks := 1 }, { zero with jobs := [{ jw 0#32 with needBanks := 1 }], cst := { banks := (List.range 256).map (fun i => (i, { kind := .job })) } }, by decide, by decide, by decide +kernel⟩,
   ⟨7, zero, fun j h => by cases h⟩,
   ⟨321, zero.setStw (Reg.PWM_CISCFG + 4) 0x80000000#32, by decide +kernel⟩,
   ⟨511, zero, by decide⟩,
   ⟨511, zero, by decide⟩,
   ⟨511, true, 1, { zero with cst := { ports := [(511, { wait := [{ req := { id := 0, who := .feWrite, entry := 0x7FFF#15, write := some (0#128, 0xFFFF#16), atomic := false }, port1 := true, stall := 32 }] })] } }, by decide⟩,
   ⟨511, true, 1, zero, by decide⟩,
   ⟨511, [], [], { zero with cst := { banks := [(511, { kind := .free, ps := .retention })] } }, by decide⟩,
   ⟨511, [], [], { zero with cst := { banks := [(511, { kind := .free, ps := .fallow })] } }, by decide⟩,
   ⟨{ req := { id := 0, who := .feWrite, entry := 0x7FFF#15, write := some (0#128, 0xFFFF#16), atomic := false }, port1 := false, stall := 32 }, { req := { id := 0, who := .feWrite, entry := 0x7FFF#15, write := some (0#128, 0xFFFF#16), atomic := false }, port1 := false, stall := 31 }, by decide⟩,
   ⟨{ req := { id := 0, who := .feWrite, entry := 0x7FFF#15, write := some (0#128, 0xFFFF#16), atomic := false }, port1 := false, stall := 31 }, { req := { ({ id := 0, who := .feWrite, entry := 0x7FFF#15, write := some (0#128, 0xFFFF#16), atomic := false } : CReq) with who := .mgmt }, port1 := false, stall := 31 }, 1, 5, by decide⟩,
   ⟨511, { id := 0, who := .feWrite, entry := 0x7FFF#15, write := some (0#128, 0xFFFF#16), atomic := false }, 0, 0xFFFF, zero, by decide⟩,
   ⟨511, 0, 1, 0x7FFF, 0, 0, 0xFFFF, 0x0FF0, _, _, zero, 15, by decide, by decide, by decide, rfl, rfl, by decide, by decide, by decide⟩,
   ⟨511, 0, 1, 0x7FFF, 0, 0x0FF0, _, _, zero, by decide, by decide, by decide, by decide, rfl, rfl, by decide⟩⟩

theorem test_meets_MarchTestsRunAndRestore :
    (∃ (f : BankId) (n : BitVec 9) (bg : BitVec 4) (c : Status) (s : State), s.marchCheck f.toNat n.toNat (fun b => !((s.bank b).kind = .free || (s.bank b).kind = .retired)) = c ∧ c = .ok) ∧
    (∃ (f : BankId) (n : BitVec 9) (bg : BitVec 4) (c : Status) (s : State), s.marchCheck f.toNat n.toNat (fun b => !((s.bank b).kind = .free || (s.bank b).kind = .retired)) = c ∧ c ≠ .ok) ∧
    (∃ (f : BankId) (n : BitVec 9) (c : Status) (s : State), s.marchCheck f.toNat n.toNat (fun b => (s.bank b).ps ≠ .on || (s.bank b).kind = .test) = c ∧ c = .ok) ∧
    (∃ (f : BankId) (n : BitVec 9) (c : Status) (s : State), s.marchCheck f.toNat n.toNat (fun b => (s.bank b).ps ≠ .on || (s.bank b).kind = .test) = c ∧ c ≠ .ok) ∧
    (∃ (f n : Nat) (d : Nat → Bool) (s : State), s.conflict = true) ∧
    (∃ (f n : Nat) (d : Nat → Bool) (s : State), s.conflict = false ∧ bit 31 (s.mstat (bankHalf f)) = true) ∧
    (∃ (f n : Nat) (d : Nat → Bool) (s : State), s.conflict = false ∧ bit 31 (s.mstat (bankHalf f)) = false ∧ ((f < 256 ∧ 256 < f + n) ∨ 512 < f + n)) ∧
    (∃ (f n : Nat) (d : Nat → Bool) (s : State), s.conflict = false ∧ bit 31 (s.mstat (bankHalf f)) = false ∧ (f + max 1 n ≤ 256 ∨ (256 ≤ f ∧ f + max 1 n ≤ 512))) ∧
    (∃ (b : Nat) (x y : Bool) (s : State), s.conflict = false ∧ (s.bank b).kind = .test) ∧
    (∃ (h : Half) (s : State), s.conflict = true) ∧
    (∃ (h : Half) (s : State), s.conflict = false ∧ s.march h = none) ∧
    (∃ (h : Half) (m : March) (s : State), s.conflict = false ∧ s.march h = some m ∧ s.cst.allotWait = []) ∧
    (∃ (h : Half) (m : March) (l : List Nat) (a b : W32) (s : State), s.march h = some m ∧ s.holdsGrant 5 (halfIdx h) = true ∧ s.cst.allotWait = []) ∧
    (∃ (h : Half) (l : List Nat) (a b : W32) (s : State), s.march h = none ∨ s.holdsGrant 5 (halfIdx h) = false) :=
  ⟨⟨320, 1, 0, .ok, zero, by decide +kernel, rfl⟩,
   ⟨511, 511, 0, _, zero, rfl, by decide +kernel⟩,
   ⟨320, 0, .ok, zero, by decide +kernel, rfl⟩,
   ⟨511, 511, _, zero, rfl, by decide +kernel⟩,
   ⟨511, 2, fun _ => false, { zero with bridge := { zero.bridge with conflict := true } }, by decide⟩,
   ⟨255, 1, fun _ => false, zero.setStw Reg.CST_MSTAT 0x80000000#32, by decide⟩,
   ⟨255, 2, fun _ => false, zero, by decide⟩,
   ⟨256, 256, fun _ => false, zero, by decide⟩,
   ⟨511, true, false, { zero with cst := { banks := [(511, { kind := .test })] } }, by decide⟩,
   ⟨.south, { zero with bridge := { zero.bridge with conflict := true } }, by decide⟩,
   ⟨.south, zero, by decide⟩,
   ⟨.north, { destructive := true, first := 64, count := 1, bg := 0#4 }, { zero with cst := { marchN := some { destructive := true, first := 64, count := 1, bg := 0#4 } } }, by decide⟩,
   ⟨.north, { destructive := true, first := 64, count := 1, bg := 0#4 }, [64], 0, 0, { zero with cst := { marchN := some { destructive := true, first := 64, count := 1, bg := 0#4 } }, ras := { acts := [{ id := 0, code := 5, scope := [0], unit := 0, start := 0, granted := true }] } }, by decide⟩,
   ⟨.south, [], 0, 0, zero, by decide⟩⟩

theorem test_meets_ScrubsRetireAndShareMaintenance :
    (∃ (lap k : Nat) (d : DLoc) (md : Media) (s u : State), u = s.mediaFind d md ∧ nmem d.key (s.chan d.chan).wq = true) ∧
    (∃ (lap k : Nat) (d : DLoc) (md : Media) (s u : State), u = s.mediaFind d md ∧ u.lineBad d = []) ∧
    (∃ (lap k : Nat) (d : DLoc) (md : Media) (s u : State) (x : _), u = s.mediaFind d md ∧ nmem d.key (s.chan d.chan).wq = false ∧ u.lineBad d = [x] ∧ nmem k s.tier.poison = false) ∧
    (∃ (lap k : Nat) (d : DLoc) (md : Media) (s u : State) (x : _), u = s.mediaFind d md ∧ nmem d.key (s.chan d.chan).wq = false ∧ u.lineBad d = [x] ∧ nmem k s.tier.npoison = false) ∧
    (∃ (lap k : Nat) (d : DLoc) (md : Media) (s u : State) (x : _) (y : _) (l : _), u = s.mediaFind d md ∧ nmem d.key (s.chan d.chan).wq = false ∧ u.lineBad d = x :: y :: l) ∧
    (∃ (n : Nat) (loc : W64) (md : Media) (s t : State), n < 128 ∧ (s.chan (136 + n)).st = .inService ∧ (s.chan (136 + n)).lost = false ∧ s.dmc.reads.any (fun r => r.chan = 136 + n && !r.timedOut) = false ∧ s.scrubGrant 0 (136 + n) = (false, t)) ∧
    (∃ (n : Nat) (loc : W64) (md : Media) (s t : State), n < 128 ∧ (s.chan (136 + n)).st = .inService ∧ (s.chan (136 + n)).lost = false ∧ s.dmc.reads.any (fun r => r.chan = 136 + n && !r.timedOut) = false ∧ s.scrubGrant 0 (136 + n) = (true, t)) ∧
    (∃ (u : Nat) (loc : W64) (md : Media) (s t : State), u < 136 ∧ (s.chan u).st = .inService ∧ (s.chan u).lost = false ∧ s.dmc.reads.any (fun r => r.chan = u && !r.timedOut) = false ∧ s.scrubGrant 1 u = (false, t)) ∧
    (∃ (u : Nat) (loc : W64) (md : Media) (s t : State), u < 136 ∧ (s.chan u).st = .inService ∧ (s.chan u).lost = false ∧ s.dmc.reads.any (fun r => r.chan = u && !r.timedOut) = false ∧ s.scrubGrant 1 u = (true, t)) ∧
    (∃ (u : Nat) (loc : W64) (md : Media) (s t : State), u < 512 ∧ (s.bank u).ps = .on ∧ (s.bank u).kind ≠ .test ∧ (s.bank u).kind ≠ .retired ∧ (tget {} u s.cst.ports).wait.any CWait.port1 = false ∧ s.scrubGrant 2 (scBank u) = (false, t)) ∧
    (∃ (u : Nat) (loc : W64) (md : Media) (s t : State), u < 512 ∧ (s.bank u).ps = .on ∧ (s.bank u).kind ≠ .test ∧ (s.bank u).kind ≠ .retired ∧ (tget {} u s.cst.ports).wait.any CWait.port1 = false ∧ s.scrubGrant 2 (scBank u) = (true, t)) ∧
    (∃ (tier unit : Nat) (s : State), bit 31 (s.stw (Reg.RAS_SCFG + 4 * tier)) = false ∨ s.pwm.standby = true) ∧
    (∃ (u : Nat) (loc : W64) (md : Media) (s : State), 128 ≤ u) ∧
    (∃ (u : Nat) (loc : W64) (md : Media) (s : State), 136 ≤ u) ∧
    (∃ (u : Nat) (loc : W64) (md : Media) (s : State), 512 ≤ u) ∧
    (∃ (u ch : Nat) (loc : W64) (md : Media) (s : State), ((s.chan ch).st ≠ .inService ∨ (s.chan ch).lost = true ∨ s.dmc.reads.any (fun r => r.chan = ch && !r.timedOut) = true) ∧ u < 128 ∧ ch = 136 + u) ∧
    (∃ (u ch : Nat) (loc : W64) (md : Media) (s : State), ((s.chan ch).st ≠ .inService ∨ (s.chan ch).lost = true ∨ s.dmc.reads.any (fun r => r.chan = ch && !r.timedOut) = true) ∧ u < 136 ∧ ch = u) ∧
    (∃ (u : Nat) (loc : W64) (md : Media) (s : State), u < 512 ∧ ((s.bank u).ps ≠ .on ∨ (s.bank u).kind = .test ∨ (s.bank u).kind = .retired ∨ (tget {} u s.cst.ports).wait.any CWait.port1 = true)) ∧
    (∃ (h : Half) (ms : W32) (tier : BitVec 2) (k : Nat) (s : State), k = 2 * tier.toNat + halfIdx h ∧ s.scrubOn tier.toNat = true) ∧
    (∃ (h : Half) (ms : W32) (tier : BitVec 2) (s : State), s.scrubOn tier.toNat = true ∧ s.stwF (Reg.RAS_SCFG + 4 * tier.toNat) 15 0 ≠ 0) ∧
    (∃ (tier : BitVec 2) (h : Half) (ms : W32) (s : State), s.scrubOn tier.toNat = false) ∧
    (∃ (tier : BitVec 2) (h : Half) (ms : W32) (s : State), s.scrubOn tier.toNat = false ∨ s.stwF (Reg.RAS_SCFG + 4 * tier.toNat) 15 0 = 0) ∧
    (∃ (s : State) (c : Status), c ≠ .ok ∧ s.retCheck (s.rarg ≥ 2 * nearSlotsPerHalf) (s.retListed (retEntry 5 0 s.rarg)) s.retFull = c) ∧
    (∃ (s : State) (c : Status) (h : _), c ≠ .ok ∧ s.retCheck (s.rarg ≥ bulkUnitsAll) (s.rarg ≥ bulkUnitsPerHalf || s.retListed (retEntry 6 (halfIdx h) s.rarg)) s.retFull = c) ∧
    (∃ (s : State) (c : Status) (k : BitVec 4) (h : _), c ≠ .ok ∧ s.retCheck (s.rarg ≥ kindCount k.toNat) (!s.unitRetired k.toNat h s.rarg || s.retListed (retEntry k.toNat (halfIdx h) s.rarg)) s.retFull = c) ∧
    (∃ (s : State) (c : Status), c ≠ .ok ∧ s.retCheck (s.rarg ≥ 1024) false false = c) ∧
    (∃ (p : Nat) (e : Plot) (s : State), s.retCheck (s.rarg ≥ 2 * nearSlotsPerHalf) (s.retListed (retEntry 5 0 s.rarg)) s.retFull = .ok ∧ s.tier.plots.find? (fun x => x.2.hasSlot && x.2.slot = s.rarg) = some (p, e)) ∧
    (∃ (p : Nat) (e : Plot) (s : State) (h : _), s.retCheck (s.rarg ≥ bulkUnitsAll) (s.rarg ≥ bulkUnitsPerHalf || s.retListed (retEntry 6 (halfIdx h) s.rarg)) s.retFull = .ok ∧ s.tier.plots.find? (fun x => x.2.hasBulk && homeHalf x.1 = h && x.2.loc ≤ s.rarg && s.rarg < x.2.loc + x.2.units) = some (p, e)) ∧
    (∃ (s : State), s.conflict = false ∧ s.rcmdBusy = false ∧ s.rarg < 2 * nearSlotsPerHalf ∧ s.retListed (retEntry 5 0 s.rarg) = false ∧ s.retFull = false ∧ s.tier.plots.all (fun e => !(e.2.hasSlot && e.2.slot = s.rarg)) = true) ∧
    (∃ (h : Half) (s : State), s.conflict = false ∧ s.rcmdBusy = false ∧ s.rarg < bulkUnitsPerHalf ∧ s.retListed (retEntry 6 (halfIdx h) s.rarg) = false ∧ s.retFull = false ∧ s.tier.plots.all (fun e => !(e.2.hasBulk && homeHalf e.1 = h && e.2.loc ≤ s.rarg && s.rarg < e.2.loc + e.2.units)) = true) ∧
    (∃ (k : BitVec 4) (h : Half) (s : State), s.conflict = false ∧ s.rcmdBusy = false ∧ s.rarg < kindCount k.toNat ∧ s.unitRetired k.toNat h s.rarg = true ∧ s.retListed (retEntry k.toNat (halfIdx h) s.rarg) = false ∧ s.retFull = false) ∧
    (∃ (s : State), s.conflict = false ∧ s.rcmdBusy = false ∧ s.rarg < 1024) ∧
    (∃ (s : State), s.tier.reloc = none) ∧
    (∃ (r : Reloc) (leave : State → State) (s : State), s.tier.reloc = some r ∧ leave = (fun s => (if r.bulk then s.leaveUnit r.half r.number else s.leaveSlot r.number).addEntry (relocKind r) (halfIdx r.half) r.number) ∧ s.holdsGrant 8 (2 * b2n r.bulk + halfIdx r.half) = false) ∧
    (∃ (r : Reloc) (leave : State → State) (s : State), s.tier.reloc = some r ∧ leave = (fun s => (if r.bulk then s.leaveUnit r.half r.number else s.leaveSlot r.number).addEntry (relocKind r) (halfIdx r.half) r.number) ∧ s.holdsGrant 8 (2 * b2n r.bulk + halfIdx r.half) = true ∧ s.plot r.plot = none) ∧
    (∃ (r : Reloc) (leave : State → State) (s : State) (e : _), s.tier.reloc = some r ∧ leave = (fun s => (if r.bulk then s.leaveUnit r.half r.number else s.leaveSlot r.number).addEntry (relocKind r) (halfIdx r.half) r.number) ∧ s.holdsGrant 8 (2 * b2n r.bulk + halfIdx r.half) = true ∧ s.plot r.plot = some e ∧ (e.st = .promoting ∨ e.st = .demoting)) ∧
    (∃ (r : Reloc) (leave : State → State) (s : State) (e : _), s.tier.reloc = some r ∧ leave = (fun s => (if r.bulk then s.leaveUnit r.half r.number else s.leaveSlot r.number).addEntry (relocKind r) (halfIdx r.half) r.number) ∧ s.holdsGrant 8 (2 * b2n r.bulk + halfIdx r.half) = true ∧ s.plot r.plot = some e ∧ e.st ≠ .promoting ∧ e.st ≠ .demoting ∧ r.holds r.plot e = false) ∧
    (∃ (r : Reloc) (leave : State → State) (s : State) (e : _), s.tier.reloc = some r ∧ leave = (fun s => (if r.bulk then s.leaveUnit r.half r.number else s.leaveSlot r.number).addEntry (relocKind r) (halfIdx r.half) r.number) ∧ s.holdsGrant 8 (2 * b2n r.bulk + halfIdx r.half) = true ∧ s.plot r.plot = some e ∧ e.st ≠ .promoting ∧ e.st ≠ .demoting ∧ r.holds r.plot e = true ∧ r.dest = none ∧ s.relocDest r e = none) ∧
    (∃ (r : Reloc) (leave : State → State) (s : State) (e : _) (d : _), s.tier.reloc = some r ∧ leave = (fun s => (if r.bulk then s.leaveUnit r.half r.number else s.leaveSlot r.number).addEntry (relocKind r) (halfIdx r.half) r.number) ∧ s.holdsGrant 8 (2 * b2n r.bulk + halfIdx r.half) = true ∧ s.plot r.plot = some e ∧ e.st ≠ .promoting ∧ e.st ≠ .demoting ∧ r.holds r.plot e = true ∧ r.dest.orElse (fun _ => s.relocDest r e) = some d ∧ r.bulk = true) ∧
    (∃ (r : Reloc) (leave : State → State) (s : State) (e : _) (d : _), s.tier.reloc = some r ∧ leave = (fun s => (if r.bulk then s.leaveUnit r.half r.number else s.leaveSlot r.number).addEntry (relocKind r) (halfIdx r.half) r.number) ∧ s.holdsGrant 8 (2 * b2n r.bulk + halfIdx r.half) = true ∧ s.plot r.plot = some e ∧ e.st ≠ .promoting ∧ e.st ≠ .demoting ∧ r.holds r.plot e = true ∧ r.dest.orElse (fun _ => s.relocDest r e) = some d ∧ r.bulk = false) ∧
    (∃ (r : Reloc) (s : State) (e : _), s.tier.reloc = some r ∧ s.plot r.plot = some e ∧ r.dest = none ∧ s.relocDest r e = none) ∧
    (∃ (r : Reloc) (s : State), s.tier.reloc = some r ∧ (r.dest.isSome = true ∨ s.plot r.plot = none ∨ (∃ e, s.plot r.plot = some e ∧ (s.relocDest r e).isSome = true))) ∧
    (∃ (s : State), s.ras.flashWr = none) ∧
    (∃ (n k : Nat) (s : State), s.ras.flashWr = some (n, k)) ∧
    (∃ (c : BitVec 4) (l : List Nat) (u : Nat) (s : State), c.toNat = 0 ∨ 8 < c.toNat) ∧
    (∃ (c : BitVec 4) (l : List Nat) (u : Nat) (s : State), 1 ≤ c.toNat ∧ c.toNat ≤ 8 ∧ s.ras.acts.all (fun g => !(g.granted && actX g.code c.toNat && g.scope.any (fun x => l.contains x))) = true) ∧
    (∃ (c : BitVec 4) (l : List Nat) (u : Nat) (s : State) (g : _), 1 ≤ c.toNat ∧ c.toNat ≤ 8 ∧ g ∈ s.ras.acts ∧ g.granted = true ∧ g.id ≠ s.ras.nextAct ∧ actX g.code c.toNat = true ∧ (∃ x, x ∈ l ∧ nmem x g.scope = true) ∧ actRank c.toNat < actRank g.code) ∧
    (∃ (a : Activity) (s : State), s.ras.acts.find? (fun x => x.id = a.id) = some a ∧ a.granted = true ∧ a.parking = true) ∧
    (∃ (a : Activity) (s : State), s.ras.acts.find? (fun x => x.id = a.id) = some a ∧ (a.granted = false ∨ a.parking = false)) ∧
    (∃ (a : Activity) (s : State), s.ras.acts.find? (fun x => x.id = a.id) = some a ∧ a.granted = false ∧ a.won = false ∧ (s.pwm.standby && (a.code = 1 || a.code = 5)) = false ∧ s.ras.acts.any (fun g => (g.granted || a.loses g) && g.clash a) = false) ∧
    (∃ (a : Activity) (s : State), s.ras.acts.find? (fun x => x.id = a.id) = some a ∧ (a.granted = true ∨ a.won = true ∨ (s.pwm.standby && (a.code = 1 || a.code = 5)) = true ∨ s.ras.acts.any (fun g => (g.granted || a.loses g) && g.clash a) = true)) ∧
    (∃ (i : Nat) (s : State), s.ras.acts.find? (fun x => x.id = i) = none) :=
  ⟨⟨2, 0, { chan := 263, k := 0, bank := 63, row := 0, line := 0, lrank := none }, .clean, { zero with dmc := { chans := [(263, { wq := [({ chan := 263, k := 0, bank := 63, row := 0, line := 0, lrank := none } : DLoc).key] })] } }, _, rfl, by decide⟩,
   ⟨0, 0, { chan := 263, k := 0, bank := 63, row := 0, line := 0, lrank := none }, .clean, zero, _, rfl, by decide⟩,
   ⟨0, 0, { chan := 263, k := 0, bank := 63, row := 0, line := 0, lrank := none }, .damaged [35], zero, _, 35, rfl, by decide, by decide, by decide⟩,
   ⟨0, 0, { chan := 263, k := 0, bank := 63, row := 0, line := 0, lrank := none }, .damaged [35], zero, _, 35, rfl, by decide, by decide, by decide⟩,
   ⟨0, 0, { chan := 263, k := 0, bank := 63, row := 0, line := 0, lrank := none }, .damaged [0, 35], zero, _, 0, 35, [], rfl, by decide, by decide⟩,
   ⟨127, 0, .clean, zero.setStw Reg.RAS_SCFG 0#32, _, by decide, by decide, by decide, by decide, fst_snd (by decide)⟩,
   ⟨127, 0, .clean, zero.setStw Reg.RAS_SCFG 0x80000000#32, _, by decide, by decide, by decide, by decide, fst_snd (by decide)⟩,
   ⟨135, 0, .clean, zero.setStw (Reg.RAS_SCFG + 4) 0#32, _, by decide, by decide, by decide, by decide, fst_snd (by decide)⟩,
   ⟨135, 0, .clean, zero.setStw (Reg.RAS_SCFG + 4) 0x80000000#32, _, by decide, by decide, by decide, by decide, fst_snd (by decide)⟩,
   ⟨511, 0, .clean, zero.setStw (Reg.RAS_SCFG + 8) 0#32, _, by decide, by decide, by decide, by decide, by decide, fst_snd (by decide)⟩,
   ⟨511, 0, .clean, zero.setStw (Reg.RAS_SCFG + 8) 0x80000000#32, _, by decide, by decide, by decide, by decide, by decide, fst_snd (by decide)⟩,
   ⟨1, 135, zero.setStw (Reg.RAS_SCFG + 4) 0#32, by decide⟩,
   ⟨128, 0, .clean, zero, by decide⟩,
   ⟨136, 0, .clean, zero, by decide⟩,
   ⟨512, 0, .clean, zero, by decide⟩,
   ⟨127, 263, 0, .clean, { zero with dmc := { chans := [(263, { st := .paused })] } }, by decide⟩,
   ⟨135, 135, 0, .clean, { zero with dmc := { chans := [(135, { st := .paused })] } }, by decide⟩,
   ⟨511, 0, .clean, { zero with cst := { banks := [(511, { kind := .test })] } }, by decide⟩,
   ⟨.south, 0, 2, 5, zero.setStw (Reg.RAS_SCFG + 8) 0x80000000#32, by decide⟩,
   ⟨.south, 0, 2, zero.setStw (Reg.RAS_SCFG + 8) 0x80000001#32, by decide⟩,
   ⟨2, .south, 0, zero.setStw (Reg.RAS_SCFG + 8) 0#32, by decide⟩,
   ⟨2, .south, 0, zero.setStw (Reg.RAS_SCFG + 8) 0x80000000#32, by decide⟩,
   ⟨{ zero with bridge := { zero.bridge with conflict := true } }, .stewardConflict, by decide⟩,
   ⟨{ zero with bridge := { zero.bridge with conflict := true } }, .stewardConflict, .south, by decide⟩,
   ⟨zero, .permission, 1, .south, by decide⟩,
   ⟨zero.setStw Reg.RAS_RARG_LO 1024#32, .badDescriptor, by decide⟩,
   ⟨5, { st := .near, slot := 0 }, { zero with tier := { plots := [(5, { st := .near, slot := 0 })] } }, by decide⟩,
   ⟨5, { st := .bulk, units := 16 }, { zero with tier := { plots := [(5, { st := .bulk, units := 16 })] } }, .north, by decide⟩,
   ⟨zero, by decide⟩,
   ⟨.south, zero, by decide⟩,
   ⟨1, .north, { zero with fes := [(0, { ctl := { st := .fenced } })] }, by decide⟩,
   ⟨zero, by decide⟩,
   ⟨zero, by decide⟩,
   ⟨{ bulk := false, half := .north, number := 4, plot := 5, dest := none }, _, { zero with tier := { plots := [], reloc := some { bulk := false, half := .north, number := 4, plot := 5, dest := none } } }, rfl, rfl, by decide⟩,
   ⟨{ bulk := false, half := .north, number := 4, plot := 5, dest := none }, _, { zero with tier := { plots := [], reloc := some { bulk := false, half := .north, number := 4, plot := 5, dest := none } }, ras := { acts := [{ id := 0, code := 8, scope := [0], unit := 0, start := 0, granted := true }] } }, rfl, rfl, by decide, by decide⟩,
   ⟨{ bulk := false, half := .north, number := 4, plot := 5, dest := none }, _, { zero with tier := { plots := [(5, { st := .promoting })], reloc := some { bulk := false, half := .north, number := 4, plot := 5, dest := none } }, ras := { acts := [{ id := 0, code := 8, scope := [0], unit := 0, start := 0, granted := true }] } }, { st := .promoting }, rfl, rfl, by decide, by decide, by decide⟩,
   ⟨{ bulk := false, half := .north, number := 4, plot := 5, dest := none }, _, { zero with tier := { plots := [(5, { st := .near, slot := 3 })], reloc := some { bulk := false, half := .north, number := 4, plot := 5, dest := none } }, ras := { acts := [{ id := 0, code := 8, scope := [0], unit := 0, start := 0, granted := true }] } }, { st := .near, slot := 3 }, rfl, rfl, by decide, by decide, by decide, by decide, by decide⟩,
   ⟨{ bulk := true, half := .north, number := 4, plot := 5, dest := none }, _, { zero with tier := { plots := [(5, { st := .bulk, units := 2 ^ 40 })], reloc := some { bulk := true, half := .north, number := 4, plot := 5, dest := none } }, ras := { acts := [{ id := 0, code := 8, scope := [2], unit := 2, start := 0, granted := true }] } }, { st := .bulk, units := 2 ^ 40 }, rfl, rfl, by decide, by decide, by decide, by decide, by decide, rfl, by simp only [State.relocDest, if_true]; exact no_place (by decide)⟩,
   ⟨{ bulk := true, half := .north, number := 4, plot := 5, dest := some 9 }, _, { zero with tier := { plots := [(5, { st := .bulk, units := 16 })], reloc := some { bulk := true, half := .north, number := 4, plot := 5, dest := some 9 } }, ras := { acts := [{ id := 0, code := 8, scope := [2], unit := 2, start := 0, granted := true }] } }, { st := .bulk, units := 16 }, 9, rfl, rfl, by decide, by decide, by decide, by decide, by decide, rfl, rfl⟩,
   ⟨{ bulk := false, half := .north, number := 4, plot := 5, dest := some 9 }, _, { zero with tier := { plots := [(5, { st := .near, slot := 4 })], reloc := some { bulk := false, half := .north, number := 4, plot := 5, dest := some 9 } }, ras := { acts := [{ id := 0, code := 8, scope := [0], unit := 0, start := 0, granted := true }] } }, { st := .near, slot := 4 }, 9, rfl, rfl, by decide, by decide, by decide, by decide, by decide, rfl, rfl⟩,
   ⟨{ bulk := true, half := .north, number := 4, plot := 5, dest := none }, { zero with tier := { plots := [(5, { st := .bulk, units := 2 ^ 40 })], reloc := some { bulk := true, half := .north, number := 4, plot := 5, dest := none } } }, { st := .bulk, units := 2 ^ 40 }, rfl, by decide, rfl, by simp only [State.relocDest, if_true]; exact no_place (by decide)⟩,
   ⟨{ bulk := false, half := .north, number := 4, plot := 5, dest := some 9 }, { zero with tier := { plots := [], reloc := some { bulk := false, half := .north, number := 4, plot := 5, dest := some 9 } } }, rfl, .inl rfl⟩,
   ⟨zero, by decide⟩,
   ⟨1023, 6, { zero with ras := { flashWr := some (1023, 6) } }, by decide⟩,
   ⟨9, [0], 0, zero, by decide⟩,
   ⟨1, [263], 263, zero, by decide⟩,
   ⟨1, [263], 263, { zero with ras := { acts := [{ id := 5, code := 2, scope := [263], unit := 263, start := 0, granted := true }] } }, { id := 5, code := 2, scope := [263], unit := 263, start := 0, granted := true }, by decide, by decide, by decide, by decide, by decide, by decide, ⟨263, by decide, by decide⟩, by decide⟩,
   ⟨{ id := 5, code := 1, scope := [263], unit := 263, start := 0, granted := true, parking := true }, { zero with ras := { acts := [{ id := 5, code := 1, scope := [263], unit := 263, start := 0, granted := true, parking := true }] } }, by decide⟩,
   ⟨{ id := 5, code := 1, scope := [263], unit := 263, start := 0, granted := false }, { zero with ras := { acts := [{ id := 5, code := 1, scope := [263], unit := 263, start := 0, granted := false }] } }, by decide⟩,
   ⟨{ id := 5, code := 1, scope := [263], unit := 263, start := 0, granted := false }, { zero with ras := { acts := [{ id := 5, code := 1, scope := [263], unit := 263, start := 0, granted := false }] } }, by decide⟩,
   ⟨{ id := 5, code := 1, scope := [263], unit := 263, start := 0, granted := false }, { zero with ras := { acts := [{ id := 5, code := 1, scope := [263], unit := 263, start := 0, granted := false }, { id := 6, code := 2, scope := [263], unit := 0, start := 0, granted := true }] } }, by decide⟩,
   ⟨9, zero, by decide⟩⟩

theorem test_meets_SpdmRequestsAreServedInSessions :
    (∃ (e : Endpoint) (p : PortId) (j : BitVec 4) (x : Byte) (y k r : Bool) (w a b : W256) (n : Nat) (v : BitVec 8) (l : List Byte) (d : Endpoint) (c : Instr) (s : State), (d, c) ∈ [(e, .getVersion e), (e, .getCapabilities e), (e, .negotiateAlgorithms e), (e, .getDigests e), (e, .getCertificate e j), (e, .challenge e w), (e, .getMeasurements e x y), (e, .keyExchange e), (e, .finish e n), (e, .endSession e n), (e, .heartbeat e n), (e, .keyUpdate e n), (e, .debugUnlock e n l), (e, .spdmLoad e n v r a b), (e, .spdmKeygen e n v r), (e, .spdmZeroise e n v r), (e, .spdmZeroiseAll e n r), (s.ideEp p, .keyProg p n k), (s.ideEp p, .kSetGo p n k), (s.ideEp p, .kSetStop p n k)] ∧ s.reachable d = false) ∧
    (∃ (e : Endpoint) (p : PortId) (j : BitVec 4) (x : Byte) (y k r : Bool) (w a b : W256) (n : Nat) (v : BitVec 8) (l : List Byte) (d : Endpoint) (c : Instr) (s : State) (q : _), (d, c) ∈ [(e, .getVersion e), (e, .getCapabilities e), (e, .negotiateAlgorithms e), (e, .getDigests e), (e, .getCertificate e j), (e, .challenge e w), (e, .getMeasurements e x y), (e, .keyExchange e), (e, .finish e n), (e, .endSession e n), (e, .heartbeat e n), (e, .keyUpdate e n), (e, .debugUnlock e n l), (e, .spdmLoad e n v r a b), (e, .spdmKeygen e n v r), (e, .spdmZeroise e n v r), (e, .spdmZeroiseAll e n r), (s.ideEp p, .keyProg p n k), (s.ideEp p, .kSetGo p n k), (s.ideEp p, .kSetStop p n k)] ∧ d = .mailbox q ∧ s.reachable d = true) ∧
    (∃ (e : Endpoint) (p : PortId) (j : BitVec 4) (x : Byte) (y k r : Bool) (w a b : W256) (n : Nat) (v : BitVec 8) (l : List Byte) (d : Endpoint) (c : Instr) (s : State), (d, c) ∈ [(e, .getVersion e), (e, .getCapabilities e), (e, .negotiateAlgorithms e), (e, .getDigests e), (e, .getCertificate e j), (e, .challenge e w), (e, .getMeasurements e x y), (e, .keyExchange e), (e, .finish e n), (e, .endSession e n), (e, .heartbeat e n), (e, .keyUpdate e n), (e, .debugUnlock e n l), (e, .spdmLoad e n v r a b), (e, .spdmKeygen e n v r), (e, .spdmZeroise e n v r), (e, .spdmZeroiseAll e n r), (s.ideEp p, .keyProg p n k), (s.ideEp p, .kSetGo p n k), (s.ideEp p, .kSetStop p n k)] ∧ s.reachable d = true ∧ (∀ q, d ≠ .mailbox q) ∧ s.spdmServed d = false) ∧
    (∃ (e : Endpoint) (s : State), s.conflict = true ∨ s.sec.unlocked = true ∨ s.reachesSteward e = false) ∧
    (∃ (e : Endpoint) (p : PortId) (k r : Bool) (a b : W256) (n : Nat) (v : BitVec 8) (l : List Byte) (d : Endpoint) (c : Instr) (s : State), (d, c) ∈ [(e, .endSession e n), (e, .heartbeat e n), (e, .keyUpdate e n), (e, .debugUnlock e n l), (e, .spdmLoad e n v r a b), (e, .spdmKeygen e n v r), (e, .spdmZeroise e n v r), (e, .spdmZeroiseAll e n r), (s.ideEp p, .keyProg p n k), (s.ideEp p, .kSetGo p n k), (s.ideEp p, .kSetStop p n k)] ∧ s.reachable d = true ∧ (∀ q, d ≠ .mailbox q) ∧ s.spdmServed d = true ∧ s.inSession d n = false) ∧
    (∃ (e : Endpoint) (w : W256) (s : State) (i : _), s.reachable e = true ∧ (∀ p, e ≠ .mailbox p) ∧ s.spdmServed e = true ∧ i ≠ 0#4) ∧
    (∃ (e : Endpoint) (w : W256) (s : State) (i : Byte) (m : List Byte), s.reachable e = true ∧ (∀ p, e ≠ .mailbox p) ∧ s.spdmServed e = true ∧ ((i ≠ 0#8 ∧ i ≠ 0xFF#8 ∧ s.sec.measurement i.toNat = some m) ∨ (i = 0xFF#8 ∧ m = ([1, 2, 3, 4, 5, 6, 7].map (fun j => (s.sec.measurement j).getD [])).flatten))) ∧
    (∃ (e : Endpoint) (w : W256) (s : State) (i : Byte) (y : Bool), s.reachable e = true ∧ (∀ p, e ≠ .mailbox p) ∧ s.spdmServed e = true ∧ 7 < i.toNat ∧ i ≠ 0xFF#8) ∧
    (∃ (e : Endpoint) (s : State), s.reachable e = true ∧ (∀ p, e ≠ .mailbox p) ∧ s.spdmServed e = true ∧ (s.sec.sessions.filter (fun x => x.ep = e)).length < 4) ∧
    (∃ (e : Endpoint) (s : State), s.reachable e = true ∧ (∀ p, e ≠ .mailbox p) ∧ s.spdmServed e = true ∧ 4 ≤ (s.sec.sessions.filter (fun x => x.ep = e)).length) ∧
    (∃ (e : Endpoint) (n : Nat) (s : State) (x : _), s.reachable e = true ∧ (∀ p, e ≠ .mailbox p) ∧ s.spdmServed e = true ∧ s.sessionOf e n = some x ∧ x.established = false) ∧
    (∃ (e : Endpoint) (n : Nat) (s : State), s.reachable e = true ∧ (∀ p, e ≠ .mailbox p) ∧ s.spdmServed e = true ∧ (s.sessionOf e n = none ∨ s.inSession e n = true)) ∧
    (∃ (e : Endpoint) (n : Nat) (s : State), s.reachable e = true ∧ (∀ p, e ≠ .mailbox p) ∧ s.spdmServed e = true ∧ s.inSession e n = true) ∧
    (∃ (p : PortId) (n : Nat) (k : Bool) (s : State), s.reachable (s.ideEp p) = true ∧ s.spdmServed (s.ideEp p) = true ∧ s.inSession (s.ideEp p) n = true ∧ nmem k.toNat (s.port (s.headPort p.toNat)).ideKeys = true) ∧
    (∃ (p : PortId) (n : Nat) (k : Bool) (s : State), s.reachable (s.ideEp p) = true ∧ s.spdmServed (s.ideEp p) = true ∧ s.inSession (s.ideEp p) n = true ∧ nmem k.toNat (s.port (s.headPort p.toNat)).ideKeys = false) ∧
    (∃ (p : PortId) (s : State), (s.port (s.headPort p.toNat)).ideActive = none) ∧
    (∃ (p : PortId) (s : State), (s.port (s.headPort p.toNat)).ideActive.isSome = true) ∧
    (∃ (e : Endpoint) (o : Option Nat) (i : Byte) (s : State) (n : _), o = some n ∧ s.reachable e = true ∧ s.spdmServed e = true ∧ s.inSession e n = true ∧ ((∃ p, e = .vdm p) ∨ e = .i3c) ∧ s.sec.bound = none) ∧
    (∃ (e : Endpoint) (o : Option Nat) (i : Byte) (s : State), o = none ∨ s.reachable e = false ∨ s.spdmServed e = false ∨ (∃ n, o = some n ∧ s.inSession e n = false) ∨ (∃ t, e = .doe t) ∨ (∃ p, e = .mailbox p) ∨ s.sec.bound.isSome = true) ∧
    (Config.tokenOk [] Config.serial (Config.drbg 0) = true → ∃ (e : Endpoint) (n : Nat) (k : List Byte) (s : State), s.reachable e = true ∧ (∀ p, e ≠ .mailbox p) ∧ s.spdmServed e = true ∧ s.inSession e n = true ∧ Config.tokenOk k Config.serial (Config.drbg s.sec.nonceNo) = true ∧ s.fuse.dbgKill = false ∧ s.fuse.uCount < 255) ∧
    (∃ (e : Endpoint) (n : Nat) (k : List Byte) (s : State), s.reachable e = true ∧ (∀ p, e ≠ .mailbox p) ∧ s.spdmServed e = true ∧ s.inSession e n = true ∧ (Config.tokenOk k Config.serial (Config.drbg s.sec.nonceNo) = false ∨ s.fuse.dbgKill = true ∨ 255 ≤ s.fuse.uCount)) :=
  ⟨⟨.doe 255, 15, 0, 0, true, true, true, 0, 0, 0, 0, 0, [], .doe 255, .getVersion (.doe 255), zero, by decide⟩,
   ⟨.mailbox 0, 0, 0, 0, true, true, true, 0, 0, 0, 0, 0, [], .mailbox 0, .getVersion (.mailbox 0), live, 0, by decide⟩,
   ⟨.doe 0, 0, 0, 0, true, true, true, 0, 0, 0, 0, 0, [], .doe 0, .getVersion (.doe 0), { live with bridge := { live.bridge with conflict := true } }, by decide, by decide, (fun q h => by cases h), by decide⟩,
   ⟨.doe 0, { zero with sec := { unlocked := true } }, by decide⟩,
   ⟨.doe 0, 0, true, true, 0, 0, 1, 0, [], .doe 0, .keyProg 0 1 true, live, by decide, by decide, (fun q h => by cases h), by decide, by decide⟩,
   ⟨.doe 0, 0, live, 1, by decide, (fun q h => by cases h), by decide, by decide⟩,
   ⟨.doe 0, 0, live, 6, _, by decide, (fun q h => by cases h), by decide, .inl ⟨by decide, by decide, rfl⟩⟩,
   ⟨.doe 0, 0, live, 8, true, by decide, (fun q h => by cases h), by decide, by decide, by decide⟩,
   ⟨.doe 0, live, by decide, (fun q h => by cases h), by decide, by decide⟩,
   ⟨.doe 0, { live with sec := { sessions := List.replicate 4 { id := 1, ep := .doe 0, established := true } } }, by decide, (fun q h => by cases h), by decide, by decide⟩,
   ⟨.doe 0, 1, { live with sec := { sessions := [{ id := 1, ep := .doe 0, established := false }] } }, { id := 1, ep := .doe 0, established := false }, by decide, (fun q h => by cases h), by decide, by decide, rfl⟩,
   ⟨.doe 0, 1, sess (.doe 0#8), by decide, (fun q h => by cases h), by decide, by decide⟩,
   ⟨.doe 0, 1, sess (.doe 0#8), by decide, (fun q h => by cases h), by decide, by decide⟩,
   ⟨0, 1, true, { sess (.doe 0#8) with ports := [(0, { st := .up, ideKeys := [1] })] }, by decide⟩,
   ⟨0, 1, true, sess (.doe 0#8), by decide⟩,
   ⟨15, zero, by decide⟩,
   ⟨15, { zero with ports := [(15, { ideActive := some 1 })] }, by decide⟩,
   ⟨.vdm 0, some 1, 0, sess (.vdm 0), 1, rfl, by decide, by decide, by decide, .inl ⟨0, rfl⟩, by decide⟩,
   ⟨.doe 0, none, 0, zero, .inl rfl⟩,
   fun ht => ⟨.doe 0, 1, [], sess (.doe 0#8), by decide, (fun q h => by cases h), by decide, by decide, ht, by decide, by decide⟩,
   ⟨.doe 0, 1, [], { sess (.doe 0#8) with fuse := { dbgKill := true } }, by decide, (fun q h => by cases h), by decide, by decide, .inr (.inl rfl)⟩⟩

theorem test_meets_KeysAndFusesFollowTheirChecks :
    (∃ (k : BitVec 2) (c : Instr) (s : State), c ∈ [.raiseMinsvn, .revokeKey k] ∧ s.conflict = true) ∧
    (∃ (k : BitVec 2) (c : Instr) (s : State), c ∈ [.raiseMinsvn, .revokeKey k] ∧ s.conflict = false ∧ s.sec.fuseBusy = true) ∧
    (∃ (s : State), s.conflict = false ∧ s.sec.fuseBusy = false) ∧
    (∃ (k : BitVec 2) (s : State), s.conflict = false ∧ s.sec.fuseBusy = false ∧ s.running.keyIdx ≠ k) ∧
    (∃ (k : BitVec 2) (s : State), s.conflict = false ∧ s.sec.fuseBusy = false ∧ s.running.keyIdx = k) ∧
    (∃ (s : State), s.sec.fuseBusy = false) ∧
    (∃ (s : State), s.sec.fuseBusy = true) ∧
    (∃ (c : KeyCmd) (d b : Bool) (n : Nat) (s : State), s.conflict = true) ∧
    (∃ (c : KeyCmd) (d b : Bool) (n : Nat) (s : State), s.conflict = false ∧ s.split = true ∧ c.isZeroise = false) ∧
    (∃ (c : KeyCmd) (d b : Bool) (n : Nat) (s : State) (k : _), s.conflict = false ∧ (s.split = false ∨ c.isZeroise = true) ∧ c = .load k k) ∧
    (∃ (c : KeyCmd) (d b : Bool) (n : Nat) (s : State), s.conflict = false ∧ (s.split = false ∨ c.isZeroise = true) ∧ (∀ k, c ≠ .load k k) ∧ c ≠ .zeroiseAll) ∧
    (∃ (c : KeyCmd) (d b : Bool) (n : Nat) (s : State), s.conflict = false ∧ (s.split = false ∨ c.isZeroise = true) ∧ (∀ k, c ≠ .load k k) ∧ c = .zeroiseAll) ∧
    (∃ (n : BitVec 8) (s : State), s.keyStatus .keygen false false n.toNat = .ok) ∧
    (∃ (n : BitVec 8) (s : State), s.keyStatus .zeroise false false n.toNat = .ok ∧ (s.key n.toNat).st = .loaded) ∧
    (∃ (n : BitVec 8) (s : State), s.keyStatus .zeroise false false n.toNat = .ok ∧ (s.key n.toNat).st = .empty) ∧
    (∃ (s : State), s.keyStatus .zeroiseAll false false 0 = .ok) ∧
    (∃ (n : BitVec 8) (c : Status) (s : State), c ≠ .ok ∧ s.keyStatus .keygen false false n.toNat = c) ∧
    (∃ (n : BitVec 8) (c : Status) (s : State), c ≠ .ok ∧ s.keyStatus .zeroise false false n.toNat = c) ∧
    (∃ (n : BitVec 8) (c : Status) (s : State), c ≠ .ok ∧ s.keyStatus .zeroiseAll false false 0 = c) ∧
    (∃ (n : BitVec 8) (s : State), (s.key n.toNat).st ≠ .zeroising ∨ s.keyInUse n.toNat = true) ∧
    (∃ (n : BitVec 8) (s : State), (s.key n.toNat).st = .zeroising ∧ s.keyInUse n.toNat = false) ∧
    (∃ (e : Endpoint) (i : Nat) (n : BitVec 8) (a b : W256) (s : State), s.reachable e = true ∧ (∀ p, e ≠ .mailbox p) ∧ s.spdmServed e = true ∧ s.inSession e i = true ∧ s.keyStatus (.load a b) (s.keyDenied (.load a b) e) false n.toNat = .ok) ∧
    (∃ (e : Endpoint) (i : Nat) (n : BitVec 8) (a b : W256) (s : State), s.reachable e = true ∧ (∀ p, e ≠ .mailbox p) ∧ s.spdmServed e = true ∧ s.inSession e i = true ∧ s.keyStatus .keygen (s.keyDenied .keygen e) false n.toNat = .ok) ∧
    (∃ (e : Endpoint) (i : Nat) (n : BitVec 8) (a b : W256) (s : State), s.reachable e = true ∧ (∀ p, e ≠ .mailbox p) ∧ s.spdmServed e = true ∧ s.inSession e i = true ∧ s.keyStatus .zeroise (s.keyDenied .zeroise e) false n.toNat = .ok) ∧
    (∃ (e : Endpoint) (i : Nat) (n : BitVec 8) (a b : W256) (s : State), s.reachable e = true ∧ (∀ p, e ≠ .mailbox p) ∧ s.spdmServed e = true ∧ s.inSession e i = true ∧ s.keyStatus .zeroiseAll (s.keyDenied .zeroiseAll e) false 0 = .ok) ∧
    (∃ (e : Endpoint) (i : Nat) (n : BitVec 8) (a b : W256) (s : State) (r : Bool) (k : KeyCmd) (c : Instr), s.reachable e = true ∧ (∀ p, e ≠ .mailbox p) ∧ s.spdmServed e = true ∧ s.inSession e i = true ∧ (k, c) ∈ [(KeyCmd.load a b, Instr.spdmLoad e i n r a b), (.keygen, .spdmKeygen e i n r), (.zeroise, .spdmZeroise e i n r)] ∧ s.keyStatus k (s.keyDenied k e) r n.toNat ≠ .ok) ∧
    (∃ (e : Endpoint) (i : Nat) (n : BitVec 8) (a b : W256) (s : State) (r : _), s.reachable e = true ∧ (∀ p, e ≠ .mailbox p) ∧ s.spdmServed e = true ∧ s.inSession e i = true ∧ s.keyStatus .zeroiseAll (s.keyDenied .zeroiseAll e) r 0 ≠ .ok) :=
  ⟨⟨3, .revokeKey 3, { zero with bridge := { zero.bridge with conflict := true } }, by decide⟩,
   ⟨3, .raiseMinsvn, { zero with sec := { fuseBusy := true } }, by decide⟩,
   ⟨zero, by decide⟩,
   ⟨3, zero, by decide⟩,
   ⟨0, zero, by decide⟩,
   ⟨zero, by decide⟩,
   ⟨{ zero with sec := { fuseBusy := true } }, by decide⟩,
   ⟨.keygen, true, true, 255, { zero with bridge := { zero.bridge with conflict := true } }, by decide⟩,
   ⟨.keygen, true, true, 255, { zero with bridge := { zero.bridge with up := false } }, by decide⟩,
   ⟨_, true, true, 255, zero, (0 : W256), by decide, .inl rfl, rfl⟩,
   ⟨.keygen, true, true, 255, zero, by decide, .inl rfl, (fun k h => by cases h), by decide⟩,
   ⟨_, true, true, 255, zero, by decide, .inr rfl, (fun k h => by cases h), rfl⟩,
   ⟨255, live, by decide⟩,
   ⟨255, { live with sec := { keys := [(255, { st := .loaded })] } }, by decide⟩,
   ⟨255, live, by decide⟩,
   ⟨live, by decide⟩,
   ⟨255, .notReady, zero, by decide⟩,
   ⟨255, .notReady, zero, by decide⟩,
   ⟨255, .notReady, zero, by decide⟩,
   ⟨255, zero, by decide⟩,
   ⟨255, { live with sec := { keys := [(255, { st := .zeroising })] } }, by decide⟩,
   ⟨.vdm 0, 1, 255, 0, 1, { live with sec := { sessions := [{ id := 1, ep := .vdm 0, established := true }], bound := some (.vdm 0) } }, by decide, (fun q h => by cases h), by decide, by decide, by decide⟩,
   ⟨.doe 0, 1, 255, 0, 1, sess (.doe 0#8), by decide, (fun q h => by cases h), by decide, by decide, by decide⟩,
   ⟨.doe 0, 1, 255, 0, 1, sess (.doe 0#8), by decide, (fun q h => by cases h), by decide, by decide, by decide⟩,
   ⟨.doe 0, 1, 255, 0, 1, sess (.doe 0#8), by decide, (fun q h => by cases h), by decide, by decide, by decide⟩,
   ⟨.doe 0, 1, 255, 0, 1, sess (.doe 0#8), true, .load 0 1, .spdmLoad (.doe 0) 1 255 true 0 1, by decide, (fun q h => by cases h), by decide, by decide, by decide, by decide⟩,
   ⟨.doe 0, 1, 255, 0, 1, sess (.doe 0#8), true, by decide, (fun q h => by cases h), by decide, by decide, by decide⟩⟩

theorem test_meets_UpdatesAndTestsRunInTheirTurn :
    (∃ (c : BitVec 14) (i : Instr) (s : State), i ∈ [.updateBegin, .updateChunk c, .updateVerify, .updateCommit, .updateAbandon] ∧ s.conflict = true) ∧
    (∃ (c : BitVec 14) (i : Instr) (s : State), i ∈ [.updateBegin, .updateChunk c, .updateVerify, .updateCommit, .updateAbandon] ∧ s.conflict = false ∧ s.upd.st = .committing) ∧
    (∃ (s : State), s.conflict = false ∧ (s.upd.st = .loading ∨ s.upd.st = .verified)) ∧
    (∃ (s : State), s.conflict = false ∧ s.upd.st = .idle ∧ ((s.stw Reg.BUP_ULEN).toNat < 1024 ∨ 62914560 < (s.stw Reg.BUP_ULEN).toNat)) ∧
    (∃ (s : State), s.conflict = false ∧ s.upd.st = .idle ∧ 1024 ≤ (s.stw Reg.BUP_ULEN).toNat ∧ (s.stw Reg.BUP_ULEN).toNat ≤ 62914560) ∧
    (∃ (c : BitVec 14) (s : State), s.conflict = false ∧ s.upd.st ≠ .committing ∧ s.updLen ≤ 4096 * c.toNat) ∧
    (∃ (c : BitVec 14) (s : State), s.conflict = false ∧ s.upd.st ≠ .committing ∧ 4096 * c.toNat < s.updLen ∧ s.upd.st ≠ .loading) ∧
    (∃ (c : BitVec 14) (s : State), s.conflict = false ∧ s.upd.st ≠ .committing ∧ 4096 * c.toNat < s.upd.len ∧ s.upd.st = .loading ∧ s.romServes = false ∧ memWf s.upd.bytes = true) ∧
    (∃ (c : BitVec 14) (s : State), s.conflict = false ∧ s.upd.st ≠ .committing ∧ 4096 * c.toNat < s.upd.len ∧ s.upd.st = .loading ∧ s.romServes = true ∧ memWf s.flash.img = true) ∧
    (∃ (s : State), s.conflict = false ∧ (s.upd.st = .idle ∨ s.upd.st = .verified)) ∧
    (∃ (s : State), s.conflict = false ∧ s.upd.st = .loading ∧ s.upd.complete = false) ∧
    (∃ (s : State) (m : _), s.conflict = false ∧ s.upd.st = .loading ∧ s.upd.complete = true ∧ m = (if s.romServes then s.flash.img else s.upd.bytes) ∧ s.imageErr m s.upd.len false ≠ 0) ∧
    (Config.signatureOk 0 (imgSigned good) (mread 512 512 good) = true → ∃ (s : State) (m : _), s.conflict = false ∧ s.upd.st = .loading ∧ s.upd.complete = true ∧ m = (if s.romServes then s.flash.img else s.upd.bytes) ∧ s.imageErr m s.upd.len false = 0 ∧ s.romServes = false) ∧
    (Config.signatureOk 0 (imgSigned good) (mread 512 512 good) = true → ∃ (s : State) (m : _), s.conflict = false ∧ s.upd.st = .loading ∧ s.upd.complete = true ∧ m = (if s.romServes then s.flash.img else s.upd.bytes) ∧ s.imageErr m s.upd.len false = 0 ∧ s.romServes = true) ∧
    (∃ (s : State), s.conflict = false ∧ (s.upd.st = .loading ∨ s.upd.st = .idle)) ∧
    (∃ (s : State), s.conflict = false ∧ s.upd.st = .verified) ∧
    (∃ (s : State), s.conflict = false ∧ s.upd.st ≠ .committing) ∧
    (∃ (s : State), s.upd.st ≠ .committing) ∧
    (∃ (s : State), s.upd.st = .committing) ∧
    (Config.signatureOk 0 (imgSigned good) (mread 512 512 good) = true → ∃ (m : Mem) (n : Nat) (x : Bool) (s : State), s.imageErr m n x = 0) ∧
    (∃ (n : BitVec 9) (k cnt : Nat) (i : Instr) (s : State), (k, cnt, i) ∈ [(0, 16, .bistFe n), (1, 64, .bistTc n), (2, 272, .bistRank n), (3, 16, .bistPort n)] ∧ s.conflict = true) ∧
    (∃ (n : BitVec 9) (k cnt : Nat) (i : Instr) (s : State), (k, cnt, i) ∈ [(0, 16, .bistFe n), (1, 64, .bistTc n), (2, 272, .bistRank n), (3, 16, .bistPort n)] ∧ s.conflict = false ∧ s.upd.bist.isSome = true) ∧
    (∃ (n : BitVec 9) (k cnt : Nat) (i : Instr) (s : State), (k, cnt, i) ∈ [(0, 16, .bistFe n), (1, 64, .bistTc n), (2, 272, .bistRank n), (3, 16, .bistPort n)] ∧ s.conflict = false ∧ s.upd.bist = none ∧ cnt ≤ n.toNat) ∧
    (∃ (n : BitVec 9) (k cnt : Nat) (i : Instr) (s : State), (k, cnt, i) ∈ [(0, 16, .bistFe n), (1, 64, .bistTc n), (2, 272, .bistRank n), (3, 16, .bistPort n)] ∧ s.conflict = false ∧ s.upd.bist = none ∧ n.toNat < cnt ∧ s.bistReady k n.toNat = false) ∧
    (∃ (n : BitVec 9) (k cnt : Nat) (i : Instr) (s : State), (k, cnt, i) ∈ [(0, 16, .bistFe n), (1, 64, .bistTc n), (2, 272, .bistRank n), (3, 16, .bistPort n)] ∧ s.conflict = false ∧ s.upd.bist = none ∧ n.toNat < cnt ∧ s.bistReady k n.toNat = true) ∧
    (∃ (a b : W32) (s : State), s.upd.bist = none) ∧
    (∃ (k n : Nat) (a b : W32) (s : State), s.upd.bist = some (k, n) ∧ n < bistCount k ∧ s.bistReady k n = false) ∧
    (∃ (k n : Nat) (a b : W32) (s : State), s.upd.bist = some (k, n) ∧ n < bistCount k ∧ s.bistReady k n = true ∧ s.holdsGrant 6 (bistUnit k n) = false) ∧
    (∃ (k n : Nat) (a b : W32) (s : State), s.upd.bist = some (k, n) ∧ n < bistCount k ∧ s.bistReady k n = true ∧ s.holdsGrant 6 (bistUnit k n) = true) :=
  ⟨⟨255, .updateBegin, { zero with bridge := { zero.bridge with conflict := true } }, by decide⟩,
   ⟨255, .updateChunk 255, { zero with upd := { st := .committing } }, by decide⟩,
   ⟨{ zero with upd := { st := .verified } }, by decide⟩,
   ⟨zero.setStw Reg.BUP_ULEN 1023#32, by decide⟩,
   ⟨zero.setStw Reg.BUP_ULEN 62914560#32, by decide⟩,
   ⟨1, zero.setStw Reg.BUP_ULEN 4096#32, by decide⟩,
   ⟨0, zero.setStw Reg.BUP_ULEN 1024#32, by decide⟩,
   ⟨255, { zero with upd := { st := .loading, len := 1048576 } }, by decide⟩,
   ⟨255, { zero with upd := { st := .loading, len := 1048576 }, north := { stage := .recovery, role := .steward } }, by decide⟩,
   ⟨zero, by decide⟩,
   ⟨{ zero with upd := { st := .loading, len := 4097, chunks := [0] } }, by decide⟩,
   ⟨{ zero with upd := { st := .loading, len := 1024, chunks := [0] } }, _, by decide, by decide, by decide, rfl, by decide +kernel⟩,
   fun ht => ⟨{ zero with upd := { st := .loading, len := 1024, chunks := [0], bytes := good } }, _, by decide, by decide, by decide, rfl, good_passes ht (by decide +kernel) (by decide) (by decide), by decide⟩,
   fun ht => ⟨{ zero with upd := { st := .loading, len := 1024, chunks := [0] }, north := { stage := .recovery, role := .steward }, flash := { img := good } }, _, by decide, by decide, by decide, rfl, good_passes ht (by decide +kernel) (by decide) (by decide), by decide⟩,
   ⟨zero, by decide⟩,
   ⟨{ zero with upd := { st := .verified } }, by decide⟩,
   ⟨zero, by decide⟩,
   ⟨zero, by decide⟩,
   ⟨{ zero with upd := { st := .committing } }, by decide⟩,
   fun ht => ⟨good, 1024, false, zero, good_passes ht (by decide +kernel) (by decide) (by decide)⟩,
   ⟨511, 0, 16, .bistFe 511, { zero with bridge := { zero.bridge with conflict := true } }, by decide⟩,
   ⟨15, 0, 16, .bistFe 15, { zero with fes := [(15, { ctl := { st := .fenced } })], upd := { bist := some (0, 15) } }, by decide⟩,
   ⟨272, 2, 272, .bistRank 272, zero, by decide⟩,
   ⟨63, 1, 64, .bistTc 63, zero, by decide⟩,
   ⟨271, 2, 272, .bistRank 271, { zero with dmc := { retiredRanks := [271] } }, by decide⟩,
   ⟨0, 0, zero, by decide⟩,
   ⟨0, 15, 0, 0, { zero with upd := { bist := some (0, 15) } }, by decide⟩,
   ⟨0, 15, 0, 0, { zero with fes := [(15, { ctl := { st := .fenced } })], upd := { bist := some (0, 15) } }, by decide⟩,
   ⟨0, 15, 0, 0, { zero with fes := [(15, { ctl := { st := .fenced } })], upd := { bist := some (0, 15) }, ras := { acts := [{ id := 0, code := 6, scope := [3015], unit := 3015, start := 0, granted := true }] } }, by decide⟩⟩

theorem test_meets_PowerAndStewardshipFollowEvents :
    (∃ (f c p u : W32), fpLt u fMin = false) ∧
    (∃ (l : List Int) (k1 k2 k3 : Nat) (s : State), k1 = (if s.cooled (l.take 40) 1 then min 100 (s.pwm.cool1 + 1) else 0) ∧ k2 = (if s.cooled (l.take 40) 2 then min 100 (s.pwm.cool2 + 1) else 0) ∧ k3 = (if s.cooled (l.take 40) 3 then min 100 (s.pwm.cool3 + 1) else 0)) ∧
    (∃ (s : State), s.pwm.level = 1) ∧
    (∃ (s : State), s.pwm.level = 0) ∧
    (∃ (s : State), 2 ≤ s.pwm.level) ∧
    (∃ (s : State), s.pwm.standby = false ∧ bit 31 (s.stw Reg.PWM_SBY) = true ∧ s.busyNow = false) ∧
    (∃ (s : State), s.pwm.standby = true ∨ bit 31 (s.stw Reg.PWM_SBY) = false ∨ s.busyNow = true) ∧
    (∃ (p : Option PortId) (s : State), s.pwm.standby = false) ∧
    (∃ (p : Option PortId) (s : State), s.pwm.standby = true) ∧
    (∃ (h : Half) (s : State), (s.half h).role ≠ .steward) ∧
    (∃ (h : Half) (s : State), (s.half h).role = .steward) ∧
    (∃ (h : Half) (s : State), (s.half h).role ≠ .deputy ∨ (s.half (halfOther h)).role = .steward) ∧
    (∃ (h : Half) (s : State), (s.half h).role = .deputy ∧ (s.half (halfOther h)).role ≠ .steward) ∧
    (∃ (h : Half) (s : State), (s.half h).role ≠ .deputy) ∧
    (∃ (s : State), s.north.role ≠ .steward ∨ s.south.role ≠ .steward) ∧
    (∃ (s : State), s.north.role = .steward ∧ s.south.role = .steward) ∧
    (∃ (h : Half) (s : State), (s.half h).role ≠ .restarting) ∧
    (∃ (h : Half) (s : State), (s.half h).role = .restarting) :=
  ⟨⟨0, 0, 0, fOne, by decide⟩,
   ⟨List.replicate 40 2000, _, _, _, zero, rfl, rfl, rfl⟩,
   ⟨{ zero with pwm := { level := 1 } }, by decide⟩,
   ⟨zero, by decide⟩,
   ⟨{ zero with pwm := { level := 2 } }, by decide⟩,
   ⟨zero.setStw Reg.PWM_SBY 0x80000000#32, by decide⟩,
   ⟨zero.setStw Reg.PWM_SBY 0#32, by decide⟩,
   ⟨none, zero, by decide⟩,
   ⟨some 15, { zero with pwm := { standby := true } }, by decide⟩,
   ⟨.south, zero, by decide⟩,
   ⟨.north, zero, by decide⟩,
   ⟨.north, zero, by decide⟩,
   ⟨.south, { zero with north := { role := .restarting } }, by decide⟩,
   ⟨.north, zero, by decide⟩,
   ⟨zero, by decide⟩,
   ⟨{ live with south := { stage := .firmware, role := .steward } }, by decide⟩,
   ⟨.north, zero, by decide⟩,
   ⟨.south, { zero with south := { role := .restarting } }, by decide⟩⟩

theorem test_meets_ManagementCommandsAnswerAndSet :
    (∃ (e : Endpoint) (t : Tenant) (a n : Nat) (b v : Byte) (l : BitVec 4) (q : PortId) (k : BitVec 2) (m : Option Nat) (o : Option Byte) (op : W16) (r : CfgReg) (y : Bool) (w : W32) (x : W64) (d : Endpoint) (c : Instr) (s : State), (d, c) ∈ [(e, .backgroundOperationStatus e), (e, .getResponseMessageLimit e), (e, .setResponseMessageLimit e v), (e, .tunnelManagement e l op), (e, .sendLdConfigurationRequest e l y r w), (e, .getLdInfo e), (e, .getLdAllocations e), (e, .getMultiHeadedInfo e), (e, .getHeadInfo e q), (e, .getDcdInfo e), (e, .getHostDcRegionConfiguration e l), (e, .getDcRegionExtentLists e l)] ∧ s.mgmtServed d = false) ∧
    (∃ (e : Endpoint) (t : Tenant) (a n : Nat) (b v : Byte) (l : BitVec 4) (q : PortId) (k : BitVec 2) (m : Option Nat) (o : Option Byte) (op : W16) (r : CfgReg) (y : Bool) (w : W32) (x : W64) (d : Endpoint) (c : Instr) (s : State), (d, c) ∈ [(e, .backgroundOperationStatus e), (e, .getResponseMessageLimit e), (e, .setResponseMessageLimit e v), (e, .tunnelManagement e l op), (e, .sendLdConfigurationRequest e l y r w), (e, .getLdInfo e), (e, .getLdAllocations e), (e, .getMultiHeadedInfo e), (e, .getHeadInfo e q), (e, .getDcdInfo e), (e, .getHostDcRegionConfiguration e l), (e, .getDcRegionExtentLists e l)] ∧ s.mgmtServed d = true ∧ s.epHead d = none) ∧
    (∃ (e : Endpoint) (t : Tenant) (a n : Nat) (b v : Byte) (l : BitVec 4) (q : PortId) (k : BitVec 2) (m : Option Nat) (o : Option Byte) (op : W16) (r : CfgReg) (y : Bool) (w : W32) (x : W64) (d : Endpoint) (c : Instr) (s : State), (d, c) ∈ [(e, .identify e), (e, .getEventRecords e k), (e, .clearEventRecords e k m), (e, .getEventInterruptPolicy e), (e, .setEventInterruptPolicy e w), (e, .getTimestamp e), (e, .setTimestamp e x), (e, .getSupportedLogs e), (e, .getLog e a n)] ∧ s.mgmtServed d = false) ∧
    (∃ (e : Endpoint) (t : Tenant) (a n : Nat) (b v : Byte) (l : BitVec 4) (q : PortId) (k : BitVec 2) (m : Option Nat) (o : Option Byte) (op : W16) (r : CfgReg) (y : Bool) (w : W32) (x : W64) (d : Endpoint) (c : Instr) (s : State) (u : Tenant), (d, c) ∈ [(e, .identify e), (e, .getEventRecords e k), (e, .clearEventRecords e k m), (e, .getEventInterruptPolicy e), (e, .setEventInterruptPolicy e w), (e, .getTimestamp e), (e, .setTimestamp e x), (e, .getSupportedLogs e), (e, .getLog e a n)] ∧ d = .doe u ∧ s.draining u.toNat = true) ∧
    (∃ (e : Endpoint) (t : Tenant) (a n : Nat) (b v : Byte) (l : BitVec 4) (q : PortId) (k : BitVec 2) (m : Option Nat) (o : Option Byte) (op : W16) (r : CfgReg) (y : Bool) (w : W32) (x : W64) (d : Endpoint) (c : Instr) (s : State), (d, c) ∈ [(e, .identify e), (e, .getEventRecords e k), (e, .clearEventRecords e k m), (e, .getEventInterruptPolicy e), (e, .setEventInterruptPolicy e w), (e, .getTimestamp e), (e, .setTimestamp e x), (e, .getSupportedLogs e), (e, .getLog e a n)] ∧ s.mgmtServed d = true ∧ s.epHead d = none ∧ (∀ u, d ≠ .doe u)) ∧
    (∃ (e : Endpoint) (t : Tenant) (a n : Nat) (b v : Byte) (l : BitVec 4) (q : PortId) (k : BitVec 2) (m : Option Nat) (o : Option Byte) (op : W16) (r : CfgReg) (y : Bool) (w : W32) (x : W64) (d : Endpoint) (c : Instr) (s : State), (d, c) ∈ [(.doe t, .getDynamicCapacityConfiguration t), (.doe t, .getDynamicCapacityExtentList t), (.doe t, .identifyMemoryDevice t), (.doe t, .getHealthInfo t)] ∧ (s.mgmtServed d = false ∨ s.draining t.toNat = true)) ∧
    (∃ (e : Endpoint) (t : Tenant) (a n : Nat) (b v : Byte) (l : BitVec 4) (q : PortId) (k : BitVec 2) (m : Option Nat) (o : Option Byte) (op : W16) (r : CfgReg) (y : Bool) (w : W32) (x : W64) (d : Endpoint) (c : Instr) (s : State), (d, c) ∈ [(e, .unsupportedCommand e op), (e, .mctpControl e o)] ∧ s.mgmtServed d = false) ∧
    (∃ (e : Endpoint) (t : Tenant) (a n : Nat) (b v : Byte) (l : BitVec 4) (q : PortId) (k : BitVec 2) (m : Option Nat) (o : Option Byte) (op : W16) (r : CfgReg) (y : Bool) (w : W32) (x : W64) (d : Endpoint) (c : Instr) (s : State), s.mgmtServed e = true) ∧
    (∃ (e : Endpoint) (p : Nat) (s : State) (k : BitVec 2), s.mgmtServed e = true ∧ s.epHead e = some p) ∧
    (∃ (e : Endpoint) (p : Nat) (s : State) (k : BitVec 2) (o : Option Nat), s.mgmtServed e = true ∧ s.epHead e = some p) ∧
    (∃ (e : Endpoint) (p : Nat) (s : State) (v : W64), s.mgmtServed e = true ∧ s.epHead e = some p) ∧
    (∃ (e : Endpoint) (p : Nat) (s : State) (q : PortId), s.mgmtServed e = true ∧ s.epHead e = some p ∧ s.portUnused q.toNat = false) ∧
    (∃ (e : Endpoint) (p : Nat) (s : State) (q : PortId), s.mgmtServed e = true ∧ s.epHead e = some p ∧ s.portUnused q.toNat = true) ∧
    (∃ (e : Endpoint) (p : Nat) (l : BitVec 4) (op : W16) (r : CfgReg) (v : W32) (s : State), s.mgmtServed e = true ∧ s.epHead e = some p ∧ (s.headLds p).contains (16 * p + l.toNat) = true ∧ s.cfgServed (16 * p + l.toNat) = true) ∧
    (∃ (e : Endpoint) (p : Nat) (l : BitVec 4) (op : W16) (r : CfgReg) (v : W32) (s : State), s.mgmtServed e = true ∧ s.epHead e = some p ∧ (s.headLds p).contains (16 * p + l.toNat) = true ∧ s.cfgServed (16 * p + l.toNat) = false) ∧
    (∃ (e : Endpoint) (p : Nat) (l : BitVec 4) (op : W16) (r : CfgReg) (v : W32) (s : State) (y : _) (c : _), c ∈ [Instr.tunnelManagement e l op, .getHostDcRegionConfiguration e l, .getDcRegionExtentLists e l, .sendLdConfigurationRequest e l y r v] ∧ s.mgmtServed e = true ∧ s.epHead e = some p ∧ (s.headLds p).contains (16 * p + l.toNat) = false) ∧
    (∃ (e : Endpoint) (s : State) (b : Byte), s.mgmtServed e = true ∧ ((∃ p, e = .vdm p) ∨ e = .i3c)) ∧
    (∃ (e : Endpoint) (s : State), s.mgmtServed e = true ∧ ((∃ p, e = .vdm p) ∨ e = .i3c)) ∧
    (∃ (e : Endpoint) (s : State), s.mgmtServed e = true ∧ ((∃ p, e = .mailbox p) ∨ (∃ t, e = .doe t))) ∧
    (∃ (t : Tenant) (s : State), s.mgmtServed (.doe t) = true ∧ s.draining t.toNat = false) ∧
    (∃ (t : Tenant) (s : State) (k : BitVec 2), s.mgmtServed (.doe t) = true ∧ s.draining t.toNat = false) ∧
    (∃ (t : Tenant) (s : State) (k : BitVec 2) (o : Option Nat), s.mgmtServed (.doe t) = true ∧ s.draining t.toNat = false) ∧
    (∃ (t : Tenant) (s : State) (v : W64), s.mgmtServed (.doe t) = true ∧ s.draining t.toNat = false) ∧
    (∃ (e : Endpoint) (s : State), s.reachable e = false) :=
  ⟨⟨.i3c, 0, 0, 0, 0, 0, 15, 15, 0, none, none, 0, .command, true, 0, 0, .i3c, .getLdInfo .i3c, zero, by decide⟩,
   ⟨.doe 0, 0, 0, 0, 0, 0, 15, 15, 0, none, none, 0, .command, true, 0, 0, .doe 0, .getLdInfo (.doe 0), live, by decide⟩,
   ⟨.i3c, 0, 0, 0, 0, 0, 15, 15, 0, none, none, 0, .command, true, 0, 0, .i3c, .identify .i3c, zero, by decide⟩,
   ⟨.doe 0, 0, 0, 0, 0, 0, 15, 15, 0, none, none, 0, .command, true, 0, 0, .doe 0, .identify (.doe 0), { live with lds := [(0, { enumerated := true, flr := true })] }, 0, by decide, rfl, by decide⟩,
   ⟨.i3c, 0, 0, 0, 0, 0, 15, 15, 0, none, none, 0, .command, true, 0, 0, .i3c, .identify .i3c, { live with ports := [], mgmt := { i3cAddr := some 8 } }, by decide, by decide, by decide, (fun u h => by cases h)⟩,
   ⟨.vdm 0, 255, 0, 0, 0, 0, 15, 15, 0, none, none, 0, .command, true, 0, 0, .doe 255, .getHealthInfo 255, zero, by decide⟩,
   ⟨.i3c, 0, 0, 0, 0, 0, 15, 15, 0, none, none, 0, .command, true, 0, 0, .i3c, .mctpControl .i3c none, zero, by decide⟩,
   ⟨.vdm 0, 0, 0, 0, 0, 0, 15, 15, 0, none, none, 0, .command, true, 0, 0, .i3c, .getLdInfo .i3c, live, by decide⟩,
   ⟨.vdm 0, 0, live, 0, by decide⟩,
   ⟨.vdm 0, 0, live, 0, none, by decide⟩,
   ⟨.vdm 0, 0, live, 0, by decide⟩,
   ⟨.vdm 0, 0, live, 0, by decide⟩,
   ⟨.vdm 0, 0, { live with ports := [(0, { st := .up, bonded := true })] }, 1, by decide⟩,
   ⟨.vdm 0, 0, 0, 0, .command, 0, live, by decide⟩,
   ⟨.vdm 0, 0, 0, 0, .command, 0, { live with lds := [(0, { enumerated := true, flr := true })] }, by decide⟩,
   ⟨.vdm 0, 0, 15, 0, .command, 0, live, true, .tunnelManagement (.vdm 0) 15 0, by decide⟩,
   ⟨.vdm 0, live, 0, by decide, .inl ⟨0, rfl⟩⟩,
   ⟨.vdm 0, live, by decide, .inl ⟨0, rfl⟩⟩,
   ⟨.doe 0, live, by decide, .inr ⟨0, rfl⟩⟩,
   ⟨0, live, by decide⟩,
   ⟨0, live, 0, by decide⟩,
   ⟨0, live, 0, none, by decide⟩,
   ⟨0, live, 0, by decide⟩,
   ⟨.i3c, zero, by decide⟩⟩

end Sys2Proof.Tests
end

/-! Home halves (R10): the recursive parity of the model counts the set bits of a plot number, and the bits of the plot
number of an address are its bits UA[51:16]. -/

namespace Sys2Proof.Machine

/-- How many of the bits of p below n are 1. -/
def onesBelow (n p : Nat) : Nat := ((List.range n).filter p.testBit).length

@[simp] theorem onesBelow_zero (p : Nat) : onesBelow 0 p = 0 := rfl

/-- The bits of p are its lowest bit and those of p / 2. -/
theorem onesBelow_succ (n p : Nat) : onesBelow (n + 1) p = (p.testBit 0).toNat + onesBelow n (p / 2) := by
  have shifted : p.testBit ∘ Nat.succ = (p / 2).testBit := funext (Nat.testBit_succ p)
  cases h : p.testBit 0 <;>
    simp [onesBelow, List.range_succ_eq_map, List.filter_map, shifted, h, Nat.add_comm]

theorem parityOf_eq_onesBelow_odd (n p : Nat) : parityOf n p = decide (onesBelow n p % 2 = 1) := by
  induction n generalizing p with
  | zero => rfl
  | succ n ih =>
    rw [parityOf, ih, onesBelow_succ, Nat.testBit_zero, Bool.eq_iff_iff]
    by_cases low : p % 2 = 1
    · simp [low]; omega
    · simp [low]

theorem homeHalf_eq_onesBelow (plot : Nat) : homeHalf plot = if onesBelow 36 plot % 2 = 1 then .south else .north := by
  simp only [homeHalf, parityOf_eq_onesBelow_odd, decide_eq_true_eq]

theorem testBit_plotOf (ua : Nat) {k : Nat} (hk : k < 36) : (plotOf ua).testBit k = ua.testBit (16 + k) := by
  rw [plotOf, Nat.testBit_mod_two_pow, show 65536 = 2 ^ 16 from rfl, Nat.testBit_div_two_pow]
  simp [hk, Nat.add_comm]

theorem onesBelow_plotOf (ua : Nat) :
    onesBelow 36 (plotOf ua) = ((List.range 36).filter (fun k => ua.testBit (16 + k))).length :=
  congrArg List.length (List.filter_congr fun _ hk => testBit_plotOf ua (List.mem_range.mp hk))

/-- Settles O9: the model's parity is that of the number of set bits of the plot number, and these are UA[51:16]. -/
theorem homeHalfIsTheParityOfThePlotNumber : Obligations.HomeHalfIsTheParityOfThePlotNumber := by
  intro ua _
  rw [homeHalf_eq_onesBelow, onesBelow_plotOf]

end Sys2Proof.Machine

/-! Unexpected completions (R54): what a saturating count leaves in a register and what an update of a logical device
leaves in the others, what an unexpected completion records, and the commands that bring one. -/

namespace Sys2Proof.Machine

section
variable {s : State}

/-- A counter counts up to its largest value (R8). -/
theorem bits_satField {hi lo : Nat} (h : hi < 32) (n : Nat) (w : W32) :
    bits hi lo (satField hi lo n w) = min (2 ^ (hi + 1 - lo) - 1) (bits hi lo w + n) :=
  bits_setBits _ w h (lt_of_le_of_lt (min_le_left _ _) (Nat.sub_lt (Nat.two_pow_pos _) one_pos))

theorem bits_satField_other {hi lo h l : Nat} (n : Nat) (w : W32) (apart : h < lo ∨ hi < l) :
    bits h l (satField hi lo n w) = bits h l w :=
  bits_setBits_other _ w apart

@[simp] theorem State.bar_cntBar (t off hi lo n : Nat) :
    (s.cntBar t off hi lo n).bar t off = satField hi lo n (s.bar t off) :=
  State.bar_setBar t off _

theorem State.bar_cntBar_other {t off u o : Nat} (hi lo n : Nat) (h : u * 65536 + o ≠ t * 65536 + off) :
    (s.cntBar t off hi lo n).bar u o = s.bar u o :=
  State.bar_setBar_other _ h

@[simp] theorem State.ld_cntBar (t off hi lo n u : Nat) : (s.cntBar t off hi lo n).ld u = s.ld u := rfl

@[simp] theorem State.ld_modLd (t : Nat) (f : Ld → Ld) : (s.modLd t f).ld t = f (s.ld t) := State.ld_setLd t _

theorem State.ld_modLd_other {t u : Nat} (f : Ld → Ld) (h : u ≠ t) : (s.modLd t f).ld u = s.ld u :=
  State.ld_setLd_other _ h

@[simp] theorem State.bar_modLd (t u off : Nat) (f : Ld → Ld) : (s.modLd t f).bar u off = s.bar u off := rfl

/-! What an unexpected completion records, and that it changes nothing else. -/

theorem State.bar_unexpected (t : Nat) :
    (s.unexpected t).bar t Reg.PRT_CPL = satField 31 16 1 (s.bar t Reg.PRT_CPL) := by
  rw [State.unexpected, State.bar_modLd, State.bar_cntBar]

theorem State.bar_unexpected_other {t u o : Nat} (h : u * 65536 + o ≠ t * 65536 + Reg.PRT_CPL) :
    (s.unexpected t).bar u o = s.bar u o := by
  rw [State.unexpected, State.bar_modLd, State.bar_cntBar_other _ _ _ h]

theorem State.ld_unexpected (t : Nat) : (s.unexpected t).ld t = { s.ld t with aerUnexp := true } := by
  rw [State.unexpected, State.ld_modLd, State.ld_cntBar]

theorem State.ld_unexpected_other {t u : Nat} (h : u ≠ t) : (s.unexpected t).ld u = s.ld u := by
  rw [State.unexpected, State.ld_modLd_other _ h, State.ld_cntBar]

theorem State.unexpected_frame (t : Nat) :
    s.unexpected t = { s with reg := (s.unexpected t).reg, lds := (s.unexpected t).lds } := rfl

/-- PRT_CPL.UNEXP_CPL counts the completion and saturates at 0xFFFF. -/
theorem State.unexpCpl_unexpected (t : Nat) :
    bits 31 16 ((s.unexpected t).bar t Reg.PRT_CPL) = min 0xFFFF (bits 31 16 (s.bar t Reg.PRT_CPL) + 1) := by
  rw [State.bar_unexpected, bits_satField (by decide)]
  rfl

/-- PRT_CPL.TIMEOUTS shares the register and stays. -/
theorem State.timeouts_unexpected (t : Nat) :
    bits 15 0 ((s.unexpected t).bar t Reg.PRT_CPL) = bits 15 0 (s.bar t Reg.PRT_CPL) := by
  rw [State.bar_unexpected, bits_satField_other _ _ (by decide)]

end

/-! A completion of a tag that no request holds and that is in quarantine: what it carries is never looked at. -/

section
variable {g n : Nat} {s : State} (unheld : s.tagOf g = none) (late : s.lateTag g = some n)
include unheld late

theorem exec_farReadCompletion_late (b : List Byte) (poison : Bool) :
    exec (.farReadCompletion g b poison) s = .next (s.unexpected n) := by
  change execFarReadCompletion g b poison s = _
  simp only [execFarReadCompletion, unheld, late]

theorem exec_farDmaErrorCompletion_late : exec (.farDmaErrorCompletion g) s = .next (s.unexpected n) := by
  change execFarDmaErrorCompletion g s = _
  simp only [execFarDmaErrorCompletion, unheld, late]

theorem exec_descriptorFetchCompletion_late (x : Cpl) :
    exec (.descriptorFetchCompletion g x) s = .next (s.unexpected n) := by
  change execDescriptorFetchCompletion g x s = _
  simp only [execDescriptorFetchCompletion, unheld, late]

end

theorem exec_unexpectedCompletion_unmatched {u : Tenant} {g : Nat} {s : State}
    (unmatched : s.tags.any (fun x => x.tag = g && x.tenant = u.toNat) = false) :
    exec (.unexpectedCompletion u g) s = .next (s.unexpected u.toNat) := by
  change execUnexpectedCompletion u g s = _
  simp [execUnexpectedCompletion, unmatched]

/-- Settles O10: each of the commands ends in `State.unexpected`, which writes one counter and one AER bit. -/
theorem unexpectedCompletionsAreDiscardedAndCounted : Obligations.UnexpectedCompletionsAreDiscardedAndCounted := by
  refine ⟨?late, ?unmatched, ?effect⟩
  case late =>
    intro g n b poison x s unheld late c hc
    simp only [List.mem_cons, List.not_mem_nil, or_false] at hc
    obtain rfl | rfl | rfl := hc
    · exact exec_farReadCompletion_late unheld late b poison
    · exact exec_farDmaErrorCompletion_late unheld late
    · exact exec_descriptorFetchCompletion_late unheld late x
  case unmatched => exact fun _ _ _ => exec_unexpectedCompletion_unmatched
  case effect =>
    exact fun n s => ⟨State.unexpCpl_unexpected n, State.timeouts_unexpected n, State.ld_unexpected n,
      fun _ h => State.ld_unexpected_other h, fun _ _ h => State.bar_unexpected_other (by omega), State.unexpected_frame n⟩

end Sys2Proof.Machine

/-! Scaled elements (R168, R169): what each scale byte makes of an element's value, and that only finite values scale. -/

namespace Sys2Proof.Machine

@[simp] theorem Num.scale_fin (k : Int) (n : Bool) (m : Nat) (x : Int) :
    (Num.fin n m x).scale k = .fin n m (x + k) := rfl

/-- Infinities and NaN keep their values under every scale. -/
theorem Num.scale_of_not_isFin {x : Num} (k : Int) (h : x.isFin = false) : x.scale k = x := by
  cases x with
  | fin n m e => simp [Num.isFin] at h
  | inf n => rfl
  | nan => rfl

theorem decScaled_nanScale (code w : Nat) : decScaled code (some 0xFF) w = 0x7FC00000#32 := rfl

/-- A scale byte other than 0xFF scales the element's value by its unbiased exponent. -/
theorem decScaled_scale {e : Nat} (code w : Nat) (he : e ≠ 0xFF) :
    decScaled code (some e) w = toF32 ((decElem code true w).scale ((e : Int) - 127)) := by
  unfold decScaled
  split
  · contradiction
  · next heq => exact absurd (Option.some.inj heq) he
  · next heq => rw [Option.some.inj heq]

/-- Settles O12: below 0xFF the scale adds e − 127 to the exponent of a finite element and does not touch the others. -/
theorem scaleBytesArePowersOfTwo : Obligations.ScaleBytesArePowersOfTwo := by
  refine ⟨?finite, ?other, decScaled_nanScale⟩
  case finite =>
    intro code w e m n x he elem
    rw [decScaled_scale code w (by omega), elem, Num.scale_fin]
  case other =>
    intro code w e he elem
    rw [decScaled_scale code w (by omega), Num.scale_of_not_isFin _ elem]

end Sys2Proof.Machine

/-! Tier reads that end with TIMEOUT (R331): the steward registers through the reports of a host's request, what the end of
a read is told, and the rows of a read before and after its end. -/

namespace Sys2Proof.Machine

section
variable {s t : State}

theorem Only.stw {m : Nat} (h : Only m s t) (hm : m.testBit 4 = false) (off : Nat) : t.stw off = s.stw off := by
  rw [State.stw, State.stw, h.reg hm]

@[simp] theorem State.stw_modDmc (f : Dmc → Dmc) (off : Nat) : (s.modDmc f).stw off = s.stw off := rfl

@[simp] theorem State.stw_emit (m : Msg) (off : Nat) : (s.emit m).stw off = s.stw off := rfl

@[simp] theorem State.stw_cntStw (off hi lo n : Nat) :
    (s.cntStw off hi lo n).stw off = satField hi lo n (s.stw off) :=
  State.stw_setStw off _

theorem State.stw_alert_other {off : Nat} (b : Nat) (h : off ≠ Reg.PWM_ALERT) : (s.alert b).stw off = s.stw off :=
  State.stw_setStw_other _ h

@[simp] theorem State.stw_moduleLog (r : W256) (off : Nat) : (s.moduleLog r).stw off = s.stw off := rfl

@[simp] theorem State.stw_tenantLog (n sev : Nat) (r : W256) (off : Nat) :
    (s.tenantLog n sev r).stw off = s.stw off :=
  (State.tenantLog_only n sev r (Inside.refl _) (Only.refl _ s)).stw rfl off

/-- Of the steward registers a record writes the alerts alone. -/
theorem State.stw_logRec_other {off : Nat} (r : Rec) (h : off ≠ Reg.PWM_ALERT) : (s.logRec r).stw off = s.stw off := by
  have alerted : (if r.sev = 2 then (s.moduleLog (r.bytes s.now)).alert alFail else s.moduleLog (r.bytes s.now)).stw off =
      s.stw off := by
    split
    · rw [State.stw_alert_other _ h, State.stw_moduleLog]
    · rw [State.stw_moduleLog]
  cases tenant : r.tenant <;> simp [State.logRec, tenant, alerted]

/-- A latency is kept in the tenant's own registers. -/
@[simp] theorem State.stw_latency (n c stamp off : Nat) : (s.latency n c stamp).stw off = s.stw off := by
  unfold State.latency
  dsimp only
  split <;> rfl

@[simp] theorem State.stw_endReq (q : Req) (c : Status) (off : Nat) : (s.endReq q c).stw off = s.stw off := by
  simp [State.endReq]

theorem State.stw_endTimeout_other {off : Nat} (q : Req) (h : off ≠ Reg.PWM_ALERT) :
    (s.endTimeout q).stw off = s.stw off := by
  rw [State.endTimeout, State.stw_endReq, State.reqRecord, State.stw_logRec_other _ h]

/-- A host's read that fails is answered with poison. -/
theorem State.out_endReq_of_rd {q : Req} (c : Status) (read : q.op = .rd) :
    ∃ d, (s.endReq q c).out.getLast? = some (.memPoison q.tenant c d) :=
  ⟨_, by rw [State.endReq, if_pos read, State.emit_out, List.getLast?_concat]⟩

@[simp] theorem State.endTimeout_dmc (q : Req) : (s.endTimeout q).dmc = s.dmc :=
  (State.endTimeout_only q (Inside.refl _) (Only.refl _ s)).dmc rfl

@[simp] theorem State.endTimeout_tier (q : Req) : (s.endTimeout q).tier = s.tier :=
  (State.endTimeout_only q (Inside.refl _) (Only.refl _ s)).tier rfl

@[simp] theorem State.endTimeout_ops (q : Req) : (s.endTimeout q).ops = s.ops :=
  (State.endTimeout_only q (Inside.refl _) (Only.refl _ s)).ops rfl

end

/-- DMC_TO of the half of a read's channel. -/
abbrev TierRead.toReg (r : TierRead) : Nat := Reg.DMC_TO + 4 * halfIdx (chanHalf r.chan)

theorem TierRead.toReg_ne_alert (r : TierRead) : r.toReg ≠ Reg.PWM_ALERT := by
  unfold TierRead.toReg
  cases chanHalf r.chan <;> decide

/-- Read i is marked as ended with TIMEOUT and counted; who asked for it has not been told. -/
def State.timeOutRead (i : Nat) (r : TierRead) (s : State) : State :=
  (s.modDmc (fun d => { d with reads := mapIf (fun x => decide (x.id = i)) (fun x => { x with timedOut := true }) d.reads
    })).cntStw r.toReg 31 16 1

/-- A unit's read of line l has ended with TIMEOUT; its program meets that later. -/
def State.tellUnit (w : Reader) (l : Nat) (s : State) : State := s.modDmc (fun d => { d with ended := d.ended ++ [(w, l)] })

section
variable {i : Nat} {r : TierRead} {s : State}

theorem State.reads_timeOutRead (i : Nat) (r : TierRead) (s : State) : (s.timeOutRead i r).dmc.reads =
    mapIf (fun x => decide (x.id = i)) (fun x => { x with timedOut := true }) s.dmc.reads := rfl

@[simp] theorem State.timeOutRead_tier (i : Nat) (r : TierRead) (s : State) : (s.timeOutRead i r).tier = s.tier := rfl

@[simp] theorem State.timeOutRead_ops (i : Nat) (r : TierRead) (s : State) : (s.timeOutRead i r).ops = s.ops := rfl

@[simp] theorem State.stw_tellUnit (w : Reader) (l off : Nat) : (s.tellUnit w l).stw off = s.stw off := rfl

/-- DMC_TO.TIMEOUTS counts the read. -/
theorem State.timeouts_timeOutRead (i : Nat) (r : TierRead) (s : State) :
    bits 31 16 ((s.timeOutRead i r).stw r.toReg) = min 0xFFFF (bits 31 16 (s.stw r.toReg) + 1) := by
  rw [State.timeOutRead, State.stw_cntStw, bits_satField (by decide), State.stw_modDmc]
  rfl

section
variable (found : s.dmc.reads.find? (fun x => x.id = i) = some r)
include found

section
variable (running : r.timedOut = false)
include running

theorem exec_tierReadTimeout_host {q : Req} (src : r.src = .host q) :
    exec (.tierReadTimeout i) s = .next ((s.timeOutRead i r).endTimeout q) := by
  change execTierReadTimeout i s = _
  simp [execTierReadTimeout, found, running, src, State.timeOutRead]

theorem exec_tierReadTimeout_unit {w : Reader} {l n c stamp : Nat} (src : r.src = .unit w l n c stamp) :
    exec (.tierReadTimeout i) s = .next ((s.timeOutRead i r).tellUnit w l) := by
  change execTierReadTimeout i s = _
  simp [execTierReadTimeout, found, running, src, State.timeOutRead, State.tellUnit]

theorem exec_tierReadLateReturn_running : exec (.tierReadLateReturn i) s = .next s := by
  change execTierReadLateReturn i s = _
  simp [execTierReadLateReturn, found, running]

end

section
variable (ended : r.timedOut = true)
include ended

theorem exec_tierReadTimeout_ended : exec (.tierReadTimeout i) s = .next s := by
  change execTierReadTimeout i s = _
  simp [execTierReadTimeout, found, ended]

/-- The data of a read that has ended is not used. -/
theorem exec_tierReadReturn_ended (md : Media) : exec (.tierReadReturn i md) s = .next s := by
  change execTierReadReturn i md s = _
  simp [execTierReadReturn, found, ended]

theorem exec_tierReadLateReturn_ended :
    exec (.tierReadLateReturn i) s =
      .next ((s.modDmc (fun d => { d with reads := d.reads.filter (fun x => x.id ≠ i) })).cntStw r.toReg 15 0 1) := by
  change execTierReadLateReturn i s = _
  simp [execTierReadLateReturn, found, ended]

end

end

theorem exec_tierReadLateReturn_unknown (unknown : s.dmc.reads.find? (fun x => x.id = i) = none) :
    exec (.tierReadLateReturn i) s = .next s := by
  change execTierReadLateReturn i s = _
  simp [execTierReadLateReturn, unknown]

end

/-- Settles O11: a timeout marks and counts the read and tells who asked for it, and an ended read is only ever dropped and
counted. The reports to a host write no steward register but the alerts. -/
theorem lateTierReadsEndOnce : Obligations.LateTierReadsEndOnce := by
  refine ⟨?timeout, ?ended, ?notEnded⟩
  case timeout =>
    intro i r s found running
    have counted := State.timeouts_timeOutRead i r s
    cases src : r.src with
    | host q =>
      refine ⟨_, exec_tierReadTimeout_host found running src, ?_, ?_, ?_, ?_, ?_, ?_⟩
      · rw [State.endTimeout_dmc, State.reads_timeOutRead]
      · rwa [State.stw_endTimeout_other q r.toReg_ne_alert]
      · rintro _ ⟨⟩ read
        exact State.out_endReq_of_rd .timeout read
      · rintro _ _ _ _ _ ⟨⟩
      · rw [State.endTimeout_tier, State.timeOutRead_tier]
      · rw [State.endTimeout_ops, State.timeOutRead_ops]
    | unit w l n c stamp =>
      refine ⟨_, exec_tierReadTimeout_unit found running src, rfl, ?_, ?_, ?_, rfl, rfl⟩
      · rwa [State.stw_tellUnit]
      · rintro _ ⟨⟩
      · rintro _ _ _ _ _ ⟨⟩
        rfl
  case ended =>
    exact fun i md r s found ended => ⟨exec_tierReadTimeout_ended found ended,
      exec_tierReadReturn_ended found ended md, exec_tierReadLateReturn_ended found ended⟩
  case notEnded =>
    rintro i s (unknown | ⟨r, found, running⟩)
    · exact exec_tierReadLateReturn_unknown unknown
    · exact exec_tierReadLateReturn_running found running

end Sys2Proof.Machine

/-! Module reset (R42, R374): a reset empties every store of bytes but the flash, and the module log. -/

namespace Sys2Proof.Machine

/-- The flash outlives a reset, so its image is canonical where it was before. -/
theorem State.afterReset_canon (p : Pins) (fu : Fuses) {fl : Flash} (h : MemOk fl.img) : (State.afterReset p fu fl).Canon where
  mem := MemOk.nil
  area := MemOk.nil
  esc := MemOk.nil
  cst := MemOk.nil
  img := h
  upd := MemOk.nil
  log := ⟨Nat.zero_le _, Nat.zero_lt_succ _⟩

/-- Settles O4: the module right after reset is a reset with an empty flash image. -/
theorem resetIsCanonical : Obligations.ResetIsCanonical :=
  (canonical_iff _).2 (State.afterReset_canon {} {} MemOk.nil)

end Sys2Proof.Machine

/-! Long deferrals and temperature rises (R385, R333): the record of a parked activity and its mark, and that the end of an
activity frees scopes and asks for none. -/

namespace Sys2Proof.Machine

section
variable {s t : State}

/-- An update that p does not see leaves the first element that meets p at its place. -/
theorem find?_mapIf {α : Type} {p : α → Bool} {f : α → α} (unseen : ∀ a, p (f a) = p a) (q : α → Bool) (l : List α) :
    (mapIf q f l).find? p = (l.find? p).map (fun a => if q a then f a else a) := by
  have same : p ∘ (fun a => if q a then f a else a) = p := by
    funext a
    cases h : q a <;> simp [h, unseen]
  rw [mapIf, List.find?_map, same]

/-- The activity that a look-up by number finds is updated where it stands. -/
theorem State.find?_acts_modAct {a : Activity} {f : Activity → Activity} (keepsId : ∀ x, (f x).id = x.id)
    (found : s.ras.acts.find? (fun x => x.id = a.id) = some a) :
    (s.modAct a.id f).ras.acts.find? (fun x => x.id = a.id) = some (f a) := by
  change (mapIf _ f s.ras.acts).find? _ = _
  simp [find?_mapIf, keepsId, found]

/-! LONG_DEFERRAL of an activity that the arbiter holds. -/

section
variable {a : Activity} (found : s.ras.acts.find? (fun x => x.id = a.id) = some a)
include found

theorem exec_longDeferral_parked (ungranted : a.granted = false) (waits : a.won = false) (unlogged : a.longLogged = false)
    (on : s.stwF Reg.RAS_MACFG 15 0 ≠ 0) :
    exec (.longDeferral a.id) s = .next ((s.modAct a.id (fun a => { a with longLogged := true })).logRec
      { typ := 0x13, sev := 1, unit := unitNo 11 a.code, loc := a.unit, aux0 := a.code,
        aux1 := s.stwF Reg.RAS_MACFG 15 0 }) := by
  change execLongDeferral a.id s = _
  simp [execLongDeferral, found, ungranted, waits, unlogged, on]

/-- One record for each time that an activity is parked. -/
theorem exec_longDeferral_logged (logged : a.longLogged = true) : exec (.longDeferral a.id) s = .next s := by
  change execLongDeferral a.id s = _
  simp [execLongDeferral, found, logged]

theorem exec_longDeferral_off (off : s.stwF Reg.RAS_MACFG 15 0 = 0) : exec (.longDeferral a.id) s = .next s := by
  change execLongDeferral a.id s = _
  simp [execLongDeferral, found, off]

end

/-- Every activity of t is one of s, with its code and scope: from s to t nothing asked the arbiter. -/
def AsksNothing (s t : State) : Prop :=
  ∀ a ∈ t.ras.acts, ∃ b ∈ s.ras.acts, b.id = a.id ∧ b.code = a.code ∧ b.scope = a.scope

theorem AsksNothing.of_subset (h : t.ras.acts ⊆ s.ras.acts) : AsksNothing s t :=
  fun a ha => ⟨a, h ha, rfl, rfl, rfl⟩

/-- An update of an activity that keeps its number, code and scope asks for nothing. -/
theorem AsksNothing.modAct {f : Activity → Activity} (same : ∀ x, (f x).id = x.id ∧ (f x).code = x.code ∧ (f x).scope = x.scope)
    (id : Nat) (h : AsksNothing s t) : AsksNothing s (t.modAct id f) := by
  intro a ha
  obtain ⟨x, hx, rfl⟩ := List.mem_map.mp ha
  obtain ⟨b, hb, hid, hcode, hscope⟩ := h x hx
  obtain ⟨fid, fcode, fscope⟩ := same x
  refine ⟨b, hb, ?_⟩
  split
  · exact ⟨hid.trans fid.symm, hcode.trans fcode.symm, hscope.trans fscope.symm⟩
  · exact ⟨hid, hcode, hscope⟩

theorem AsksNothing.forAll {α : Type} {f : α → State → State} (hf : ∀ a t, AsksNothing s t → AsksNothing s (f a t))
    (l : List α) (h : AsksNothing s t) : AsksNothing s (forAll l f t) := by
  induction l generalizing t with
  | nil => exact h
  | cons a r ih => exact ih (hf a t h)

/-- A grant goes to an activity that had won it. -/
theorem AsksNothing.grantWon (h : AsksNothing s t) : AsksNothing s t.grantWon := by
  refine AsksNothing.forAll (fun a t h => ?_) _ h
  split
  · exact h
  · refine h.modAct ?_ a.id
    exact fun _ => ⟨rfl, rfl, rfl⟩

theorem asksNothing_maintEnd (code unit : Nat) : AsksNothing s (s.maintEnd code unit) :=
  AsksNothing.grantWon (AsksNothing.of_subset (List.filter_subset_self _))

@[simp] theorem State.chan_maintEnd (code unit n : Nat) : (s.maintEnd code unit).chan n = s.chan n := by
  rw [State.chan, State.chan, (State.maintEnd_only code unit (Inside.refl _) (Only.refl _ s)).dmc rfl]

/-- A rise takes the new rate and gives up the activity that waited for a longer interval (R333). -/
theorem exec_temperaturePoll_rise {ch : Nat} {r : BitVec 2} (inRange : ch < 264) (read : r ≠ 3#2)
    (rise : (s.chan ch).refRate.toNat < r.toNat) :
    exec (.temperaturePoll ch r) s =
      .next ((s.setChan ch { s.chan ch with refRate := r, rateWant := none }).maintEnd 3 ch) := by
  change execTemperaturePoll ch r s = _
  simp [execTemperaturePoll, chanCount, inRange, read, rise]

end

/-- Settles O14: the record marks the activity so that no second one follows, and a rise ends its own request at the
arbiter, which only hands grants to activities that were there. -/
theorem longDeferralsAreLoggedOnce : Obligations.LongDeferralsAreLoggedOnce := by
  refine ⟨?deferral, ?rise⟩
  case deferral =>
    exact fun a s found => ⟨fun ungranted waits unlogged on =>
        ⟨exec_longDeferral_parked found ungranted waits unlogged on,
          _, State.find?_acts_modAct (fun _ => rfl) found, rfl⟩,
      exec_longDeferral_logged found, exec_longDeferral_off found⟩
  case rise =>
    intro ch r s inRange read rise
    refine ⟨_, exec_temperaturePoll_rise inRange read rise, ?rate, ?acts⟩
    case rate => rw [State.chan_maintEnd, State.chan_setChan]
    case acts => exact asksNothing_maintEnd (s := s.setChan ch _) 3 ch

end Sys2Proof.Machine

/-! SPDM requests that are not served (R396): what stands between an endpoint and the steward, and the Busy answer. -/

namespace Sys2Proof.Machine

section
variable {e : Endpoint} {c : Instr} {s : State}

theorem State.reachesSteward_of_none (noSteward : s.stewardHalf = none) : s.reachesSteward e = false := by
  simp [State.reachesSteward, noSteward]

/-- Between an endpoint of one half and a steward on the other stands the bridge alone. -/
theorem State.reachesSteward_eq_false_iff {g h : Half} (ofHalf : epHalf e = some g) (steward : s.stewardHalf = some h) :
    s.reachesSteward e = false ↔ g ≠ h ∧ s.split = true := by
  simp [State.reachesSteward, ofHalf, steward]

/-- What serves is a steward whose core runs firmware. -/
theorem State.steward_inFirmware_of_spdmServed (served : s.spdmServed e = true) :
    ∃ h, s.stewardHalf = some h ∧ s.inFirmware h = true := by
  cases steward : s.stewardHalf with
  | none => simp [State.spdmServed, State.reachesSteward_of_none steward] at served
  | some h =>
    simp only [State.spdmServed, steward, Bool.and_eq_true] at served
    obtain ⟨⟨_, firmware⟩, _⟩ := served
    exact ⟨h, rfl, firmware⟩

theorem State.spdmServed_eq_false (h : s.reachesSteward e = false ∨ s.conflict = true) : s.spdmServed e = false := by
  rcases h with cut | conflict
  · simp [State.spdmServed, cut]
  · simp [State.spdmServed, conflict]

/-- A request that is not served is answered with Busy, whatever a served one would do. -/
theorem State.spdmReq_unserved (f : State → State) (reach : s.reachable e = true) (noMailbox : ∀ p, e ≠ .mailbox p)
    (unserved : s.spdmServed e = false) : s.spdmReq e f = s.emit (.spdmBusy e) := by
  cases e with
  | mailbox p => exact absurd rfl (noMailbox p)
  | doe | vdm | i3c => simp [State.spdmReq, reach, unserved]

/-- In s, c is an SPDM request at e: its row says only what a served request does. -/
def SpdmRequestAt (e : Endpoint) (c : Instr) (s : State) : Prop := ∃ f, exec c s = .next (s.spdmReq e f)

/-- A request that belongs to a session is one too: outside the session it is answered with an error. -/
theorem SpdmRequestAt.of_spdmIn {n : Nat} {f : State → State} (row : exec c s = .next (s.spdmIn e n f)) :
    SpdmRequestAt e c s := ⟨_, row⟩

theorem SpdmRequestAt.busy (request : SpdmRequestAt e c s) (reach : s.reachable e = true)
    (noMailbox : ∀ p, e ≠ .mailbox p) (unserved : s.spdmServed e = false) : exec c s = .next (s.emit (.spdmBusy e)) := by
  obtain ⟨f, row⟩ := request
  rw [row, State.spdmReq_unserved f reach noMailbox unserved]

end

/-- Settles O13: every listed command is an SPDM request at its endpoint, those of IDE_KM at their head's, and a request is
served only where the steward is reached without a conflict. -/
theorem spdmIsServedByTheStewardOnly : Obligations.SpdmIsServedByTheStewardOnly := by
  refine ⟨?busy, fun _ _ => State.steward_inFirmware_of_spdmServed, fun _ _ _ _ => State.reachesSteward_eq_false_iff,
    fun _ _ => State.reachesSteward_of_none⟩
  case busy =>
    intro e c n sl i k x y b q l p s listed reach noMailbox unreached
    have request : SpdmRequestAt e c s := by
      simp only [List.mem_cons, List.not_mem_nil, or_false] at listed
      rcases listed with (rfl | rfl | rfl | rfl | rfl | rfl | rfl | rfl | rfl | inSession) | ⟨rfl, ideKm⟩
      -- The requests up to FINISH, which need no established session.
      iterate 9 exact ⟨_, rfl⟩
      · rcases inSession with rfl | rfl | rfl | rfl | rfl | rfl | rfl | rfl <;> exact .of_spdmIn rfl
      · rcases ideKm with rfl | rfl | rfl <;> exact .of_spdmIn rfl
    exact request.busy reach noMailbox (State.spdmServed_eq_false unreached)

end Sys2Proof.Machine


/-! Every step and every command: the queue, what was sent, fuses, stores of bytes, and the parts of the state (log 26). -/

namespace Sys2Proof.Machine

open Safety

/-- Settles O1, by the definition of a step. -/
theorem stepRunsTheFrontCommand : Obligations.StepRunsTheFrontCommand := by
  intro c r s front
  rw [step, front]

theorem step_keeps_canon {s : State} (canon : s.Canon) : Answers State.Canon (step s) := by
  cases front : s.pending with
  | nil =>
    rw [step, front]
    exact .next ((State.tick_keeps (Keeps.refl s)).canon canon)
  | cons c r =>
    have atRest : State.Canon { s with pending := r } := ⟨canon.mem, canon.area, canon.esc, canon.cst, canon.img, canon.upd, canon.log⟩
    rw [stepRunsTheFrontCommand c r s front]
    exact ⟨fun t run => ((exec_keeps c _).all t run).canon atRest⟩

/-- Settles O5: a tick and every command keep the canonical form (`exec_keeps`), and a step is one of the two. -/
theorem everyStepKeepsCanonicalStores : Obligations.EveryStepKeepsCanonicalStores := by
  intro s t canon run
  rw [canonical_iff] at canon ⊢
  exact (step_keeps_canon canon).all t run

/-- Settles O6, by what every command keeps (`exec_keeps`). -/
theorem noCommandTakesFusesBack : Obligations.NoCommandTakesFusesBack := by
  intro c s t run
  obtain ⟨lock, kill, dflt, svn, revoke, count⟩ := ((exec_keeps c s).all t run).fuse
  exact ⟨svn, revoke, count, lock.symm, kill.symm, dflt.symm⟩

/-- Settles O7, by what every command keeps (`exec_keeps`). -/
theorem execLeavesQueueAndSentMessages : Obligations.ExecLeavesQueueAndSentMessages := by
  intro c s t run
  have keeps := (exec_keeps c s).all t run
  exact ⟨keeps.queue, keeps.out, keeps.free⟩

/-! The frame of a command (O15): the set of fields that `exec_only` names lies within the parts of `mayChange`. -/

/-- The number of the field of State that a part is. -/
def fieldOf : Part → Nat
  | .clk => 0 | .pins => 1 | .fuse => 2 | .flash => 3 | .reg => 4 | .north => 5 | .south => 6 | .bridge => 7
  | .ports => 8 | .lds => 9 | .tags => 10 | .quarantine => 11 | .wtt => 12 | .wttData => 13 | .flip => 14
  | .tier => 15 | .alm => 16 | .cmp => 17 | .rings => 18 | .eng => 19 | .ops => 20 | .nextOp => 21 | .jobs => 22
  | .grains => 23 | .nextGrain => 24 | .pslots => 25 | .fes => 26 | .tcs => 27 | .xjobs => 28 | .dups => 29
  | .shr => 30 | .hg => 31 | .nextReq => 32 | .arb => 33 | .dmc => 34 | .cst => 35 | .ras => 36 | .sec => 37
  | .upd => 38 | .pwm => 39 | .mgmt => 40 | .out => 41 | .acc => 42 | .freeCtr => 43 | .pending => 44

theorem Only.part_same {m : Nat} {s t : State} (only : Only m s t) {p : Part} (outside : m.testBit (fieldOf p) = false) :
    p.same s t := by
  obtain ⟨⟩ := only
  cases p <;> solve_by_elim

def allParts : List Part :=
  [.clk, .pins, .fuse, .flash, .reg, .north, .south, .bridge, .ports, .lds, .tags, .quarantine, .wtt, .wttData, .flip,
   .tier, .alm, .cmp, .rings, .eng, .ops, .nextOp, .jobs, .grains, .nextGrain, .pslots, .fes, .tcs, .xjobs, .dups,
   .shr, .hg, .nextReq, .arb, .dmc, .cst, .ras, .sec, .upd, .pwm, .mgmt, .out, .acc, .freeCtr, .pending]

theorem mem_allParts (p : Part) : p ∈ allParts := by
  cases p <;> decide

/-- Every field of the set m is a part of the list l. -/
def fieldsWithin (m : Nat) (l : List Part) : Bool := allParts.all (fun p => l.contains p || !m.testBit (fieldOf p))

theorem testBit_eq_false_of_fieldsWithin {m : Nat} {l : List Part} (within : fieldsWithin m l = true) {p : Part} (hp : p ∉ l) :
    m.testBit (fieldOf p) = false := by
  have := List.all_eq_true.mp within p (mem_allParts p)
  simpa [hp] using this

theorem fields_within_mayChange (c : Instr) : fieldsWithin (Instr.fields c) (mayChange c) = true := by
  cases c
  all_goals
    conv_lhs => congr <;> whnf
    decide

/-- Settles O15, by the fields that each command writes (`exec_only`), which lie within its parts (`fields_within_mayChange`). -/
theorem eachCommandChangesOnlyItsParts : Obligations.EachCommandChangesOnlyItsParts := by
  intro c s t run p outside
  exact ((exec_only c s).all t run).part_same (testBit_eq_false_of_fieldsWithin (fields_within_mayChange c) outside)

end Sys2Proof.Machine

namespace Sys2Proof.Machine
open Safety

/-! Every well-formed command is executed (O8; log 23): only a DRAM channel or a scrubbed unit that does not exist faults. -/

/-- An answer that is a next state. -/
def IsNext (o : Host.Outcome State Fault Refusal) : Prop := ∃ t, o = .next t

theorem IsNext.next (t : State) : IsNext (.next t) := ⟨t, rfl⟩

theorem IsNext.ite {o p : Host.Outcome State Fault Refusal} {c : Prop} [Decidable c] (h : IsNext o) (g : IsNext p) :
    IsNext (if c then o else p) := by
  split <;> assumption

theorem IsNext.of_guard {o p : Host.Outcome State Fault Refusal} {c : Prop} [Decidable c] (hc : c) (h : IsNext o) :
    IsNext (if c then o else p) := by
  rwa [if_pos hc]

theorem State.spn_isNext (id : Nat) (c : SCls) (f : Grain → Job → W32 → Work (Option Grain)) (s : State) : IsNext (s.spn id c f) := by
  unfold State.spn
  with_reducible repeat' first | exact IsNext.next _ | split

theorem State.spnRegs_isNext (id : Nat) (c : SCls) (f : Ctx → Nat → W32 → State → Ctx) (s : State) : IsNext (s.spnRegs id c f) :=
  State.spn_isNext _ _ _ s

theorem execSensorSample_isNext (temps : List Int) (s : State) : IsNext (execSensorSample temps s) := by
  unfold execSensorSample
  exact IsNext.ite (IsNext.next _) (IsNext.next _)

theorem lt_chanCount_of_wfChan {ch : Nat} (wf : (wfChan ch).isNone = true) : ch < chanCount := by
  by_contra far
  rw [wfChan, if_neg (show ¬ch < wfChannels from far)] at wf
  cases wf

theorem lt_chanCount_of_wfBank {ch bank : Nat} (wf : (if wfBank ch bank then wfChan ch else some "bank").isNone = true) :
    ch < chanCount := by
  split at wf
  · exact lt_chanCount_of_wfChan wf
  · cases wf

/-- The commands on a DRAM channel: what follows the check of its number is no fault. -/
theorem exec_isNext_of_channel {ch : Nat} (h : ch < chanCount) (bank : Nat) (r : BitVec 2) (ok : Bool) (s : State) :
    ∀ c ∈ [Instr.writeQueueServe ch, .rowIdleClose ch bank, .refreshDue ch bank, .temperaturePoll ch r,
      .refreshRateChange ch r, .retrainPauseDue ch, .retrainPauseEnd ch ok, .scriptAbort ch, .channelLost ch],
      IsNext (exec c s) := by
  simp only [List.forall_mem_cons, List.not_mem_nil, false_imp_iff, implies_true, and_true]
  refine ⟨?_, ?_, ?_, ?_, ?_, ?_, ?_, ?_, ?_⟩
  all_goals
    refine IsNext.of_guard h ?_
    with_reducible repeat' first | exact IsNext.next _ | apply IsNext.ite

theorem execScrubRead_isNext {tier : BitVec 2} {unit : Nat} (wf : wfScrub tier.toNat unit = true) (loc : W64) (md : Media) (s : State) :
    IsNext (execScrubRead tier unit loc md s) := by
  unfold execScrubRead
  dsimp only
  split <;> rename_i isTier
  case h_4 => exact IsNext.next _
  all_goals
    rw [isTier] at wf
    refine IsNext.of_guard (by simpa [wfScrub] using wf) ?_
    with_reducible repeat' first | exact IsNext.next _ | split

theorem exec_isNext {c : Instr} (s : State) (wf : c.wf = true) : IsNext (exec c s) := by
  cases c
  case sensorSample temps => exact execSensorSample_isNext temps s
  case scrubRead tier unit loc md =>
    exact execScrubRead_isNext (by simpa [Instr.wf, Instr.wfErr] using wf) loc md s
  case rowIdleClose ch bank | refreshDue ch bank =>
    exact exec_isNext_of_channel (lt_chanCount_of_wfBank wf) bank 0 true s _ (by simp)
  case temperaturePoll ch r | refreshRateChange ch r =>
    exact exec_isNext_of_channel (lt_chanCount_of_wfChan wf) 0 r true s _ (by simp)
  case retrainPauseEnd ch ok => exact exec_isNext_of_channel (lt_chanCount_of_wfChan wf) 0 0 ok s _ (by simp)
  case writeQueueServe ch | retrainPauseDue ch | scriptAbort ch | channelLost ch =>
    exact exec_isNext_of_channel (lt_chanCount_of_wfChan wf) 0 0 true s _ (by simp)
  -- A command whose meaning ends in one next state.
  all_goals try exact IsNext.next _
  -- A command whose meaning ends in one of several.
  all_goals
    dsimp only [exec,
      execReadClear, execBar0BadAccess, execBringupTrigger, execVerifyWaitTimeout, execFirmwareStart,
      execPerstAssert, execLinkUp, execTrainFail, execTrainBackoffExpire, execPortDrainComplete,
      execFlrDrainComplete, execConfigRequest, execCtoValueWrite, execBusMasterEnableSet, execCompletionTimeout,
      execFarReadCompletion, execFarDmaErrorCompletion, execBridgeLaneRetire, execBridgeRetrainDone, execBridgeUp,
      execWriteCompressorClose, execTierReadReturn, execTierReadTimeout, execTierReadLateReturn, execWttDataWrite,
      execWttCommit, execWttGroupCommit, execWttCopy, execWttFlip, execOldDone, execTirAssign, execTirRelease,
      execTirAsgnReserved, execTirRemoveClaims, execClaimWaitExpire, execFarEnable, execFarDisable,
      execCursorUpdate, execAlmanacAction, execAlmBind, execAlmUnbind, execAlmClearPosition, execAlmReclaimUnload,
      execAlmNewOwner, execTableGenerationRetire, execScaleWindowEnable, execRingFetch,
      execDescriptorFetchCompletion, execDescriptorTake, execOperationComplete, execInterruptCoalesceExpire,
      execCqHeadWrite, execStagingFillDone, execTileStart, execEngineFence, execEngineFenced, execEngineBist,
      execEngineBistDone, execEngineReturn, execFieldTestStart, execFieldTestDone, execGrainCreate,
      execGrainDispatch, execGrainForcedYield, execGrainWake, execGrainLimitExceeded, execSpnAlu, execSpnAluImm,
      execSpnLoadUpper, execSpnLoad, execSpnStore, execSpnBranch, execSpnJump, execSpnJumpReg, execSpnAtomic,
      execSpnYield, execSpnFence, execSpnExit, execSpnTrap, execSpnGets, execSpnWait, execSpnSignal, execSpnMark,
      execSpnVectorInt, execSpnVectorFp, execSpnReduce, execSpnVectorLoad, execSpnVectorStore, execSpnGather,
      execSpnScatter, execSpnVcvt, execSpnVmxq, execSpnCrc, execSpnCrcv, execCoreFence, execCoreBist,
      execCoreReturn, execProgramSlotUnload, execProgramSlotOwner, execRegionEnable, execRegionDisable,
      execSnoopResponse, execSnoopTimeout, execDirectoryWaitResume, execBackInvalidateDone, execFailureSweepEnd,
      execWeirWindowBoundary, execWeirConfigWrite, execEvacuate, execEvacuateCancel, execEvacuateAutoTrigger,
      execEvacuateCopyDone, execSwitchoverEnd, execSpillDone, execScriptSetCommit, execBankGiveStage,
      execBankReturnPool, execBankRetire, execBankPowerOn, execBankRetention, execBankFallow, execHandoverComplete,
      execZeroFillDone, execBankWakeDone, execBankIdleRetention, execBankIdleFallow, execMarchDestructive,
      execMarchPreserving, execMarchAbort, execMarchDone, execLapEnd, execLapOverdue, execRetireNearSlot,
      execRetireBulkUnit, execAddRetirementEntry, execEmptyRetirementEntry, execRelocationDone,
      execRelocationWaitExpire, execFlashWriteDone, execMaintGrantRequest, execLongDeferral, execZeroiseDone,
      execUpdateVerify, execUpdateCommitDone, execBistDone, execStandbyEnter, execStandbyExit, execTokenLinkTimeout,
      execCoreRestartDone, execStewardRegisterAccess, execMctpControl]
    with_reducible repeat' first | exact IsNext.next _ | exact State.spn_isNext .. | exact State.spnRegs_isNext .. | split

/-- Settles O8, by the next state that every well-formed command has (`exec_isNext`). -/
theorem everyWellFormedCommandIsExecuted : Obligations.EveryWellFormedCommandIsExecuted :=
  fun _ s wf => exec_isNext s wf

end Sys2Proof.Machine

namespace Sys2Proof.Machine
open Safety

/-! The idle step (O2) and the state after reset (O3). -/

section
variable (s : State)

/-- A tick of the fill changes of a half its stage and the time of it. -/
theorem State.half_enterStage (h k : Half) (st : Stage) : (s.enterStage h st).half k =
    { s.half k with stage := ((s.enterStage h st).half k).stage, stageMs := ((s.enterStage h st).half k).stageMs } := by
  unfold State.enterStage
  split
  · rfl
  · cases h <;> cases k <;> rfl

theorem State.half_fillTick (h k : Half) : (s.fillTick h).half k =
    { s.half k with stage := ((s.fillTick h).half k).stage, stageMs := ((s.fillTick h).half k).stageMs } := by
  unfold State.fillTick
  split
  · exact s.half_enterStage h k .fill
  · rfl

/-- One microsecond later, with the fills of both halves. -/
def State.tickFill : State := (({ s with clk := { s.clk with us := s.clk.us + 1 } } : State).fillTick .north).fillTick .south

theorem State.tick_eq : s.tick = s.tickFill.releaseTick := rfl

theorem State.half_releaseTick (k : Half) : s.releaseTick.half k = s.half k := by
  have only := State.releaseTick_only (Inside.refl _) (Only.refl _ s)
  cases k
  · exact only.north rfl
  · exact only.south rfl

theorem State.half_tick (k : Half) : s.tick.half k =
    { s.half k with stage := (s.tick.half k).stage, stageMs := (s.tick.half k).stageMs } := by
  rw [State.tick_eq, State.half_releaseTick, State.tickFill, State.half_fillTick, State.half_fillTick]
  rfl

theorem State.tickFill_only : Only 97 s s.tickFill :=
  State.fillTick_only _ (.of_and rfl) (State.fillTick_only _ (.of_and rfl) ((Only.refl _ s).set_clk rfl))

theorem State.clk_tick : s.tick.clk = { s.clk with us := s.clk.us + 1 } := by
  let s' : State := { s with clk := { s.clk with us := s.clk.us + 1 } }
  have fills : Only 96 s' s.tickFill := State.fillTick_only _ (.refl _) (State.fillTick_only _ (.refl _) (Only.refl _ s'))
  exact ((State.releaseTick_only (Inside.refl _) (Only.refl _ s.tickFill)).clk rfl).trans (fills.clk rfl)

theorem State.shr_tickFill : s.tickFill.shr = s.shr := s.tickFill_only.shr rfl

theorem State.reg_tickFill : s.tickFill.reg = s.reg := s.tickFill_only.reg rfl

theorem State.tick_frame : s.tick =
    { s with clk := s.tick.clk, north := s.tick.north, south := s.tick.south, shr := s.tick.shr, reg := s.tick.reg } :=
  (State.tick_only (Inside.refl _) (Only.refl _ s)).eq

theorem State.tick_of_noRelease (none : s.shr.relCmd = none) : s.tick.shr = s.shr ∧ s.tick.reg = s.reg := by
  rw [State.tick_eq, State.releaseTick, s.shr_tickFill, none]
  exact ⟨s.shr_tickFill, s.reg_tickFill⟩

/-- The lines that a release ends. -/
def relCovers (c : Bool × Nat) (d : Dir) : Bool := if c.1 then d.region = c.2 else nmem c.2 d.holders

theorem State.tick_of_release {c : Bool × Nat} (running : s.shr.relCmd = some c) :
    s.tick.shr = { s.shr with dir := s.shr.dir.filter (fun e => !(e.2.st = .orphaned && relCovers c e.2)), relCmd := none } ∧
    bit 31 (s.tick.stw Reg.SHR_CSTAT) = false := by
  rw [State.tick_eq, State.releaseTick, s.shr_tickFill, running]
  refine ⟨?_, ?_⟩
  · rw [← s.shr_tickFill]
    rfl
  · change bit 31 ((State.setStw _ _ _).stw _) = _
    rw [State.stw_setStw, bit_setBit _ _ (by decide)]

end

/-- Settles O2: a tick is the count, the fills of the two halves and the end of the release that runs. -/
theorem idleStepCountsAMicrosecond : Obligations.IdleStepCountsAMicrosecond := by
  intro s idle
  refine ⟨s.tick, by rw [step, idle], s.clk_tick, s.tick_frame, s.half_tick, s.tick_of_noRelease, ?release⟩
  intro running
  obtain ⟨c, running⟩ := Option.isSome_iff_exists.mp running
  obtain ⟨shr, busy⟩ := s.tick_of_release running
  refine ⟨by rw [shr], busy, ?_, ?_⟩
  · intro e he
    rw [shr] at he
    exact List.mem_of_mem_filter he
  · intro e he held
    rw [shr]
    exact List.mem_filter.mpr ⟨he, by simp [held]⟩

/-- Settles O3: reset gives every table empty, and an empty table answers its default. -/
theorem resetLeavesTheStatedValues : Obligations.ResetLeavesTheStatedValues := by
  refine ⟨fun _ _ => rfl, fun _ => rfl, fun _ => rfl, fun _ _ => rfl, fun _ => rfl, fun _ => rfl, rfl, rfl, rfl, rfl,
    ⟨rfl, rfl, rfl, rfl, rfl, rfl, rfl, rfl, rfl⟩, rfl, rfl, rfl, rfl, rfl, rfl⟩

end Sys2Proof.Machine


/-! Reads of a place after an update elsewhere, and loops over a list: facts about the state that the families below share. -/

namespace Sys2Proof.Machine

section
variable {α : Type}

@[simp] theorem forAll_nil {σ : Type} (f : α → σ → σ) (s : σ) : forAll [] f s = s := rfl

@[simp] theorem forAll_cons {σ : Type} (a : α) (l : List α) (f : α → σ → σ) (s : σ) :
    forAll (a :: l) f s = forAll l f (f a s) := rfl

/-- What every turn of a loop keeps, the loop keeps. -/
theorem forAll_keeps {σ : Type} {P : σ → Prop} {f : α → σ → σ} (l : List α) (turn : ∀ a ∈ l, ∀ s, P s → P (f a s)) {s : σ} (h : P s) :
    P (forAll l f s) := by
  induction l generalizing s with
  | nil => exact h
  | cons a r ih =>
    exact ih (fun b hb => turn b (List.mem_cons_of_mem _ hb)) (turn a List.mem_cons_self s h)

/-- What one turn brings about and every turn keeps holds after the loop. -/
theorem forAll_reaches {σ : Type} {P : σ → Prop} {f : α → σ → σ} {a : α} {l : List α} (mem : a ∈ l) (brings : ∀ s, P (f a s))
    (turn : ∀ b ∈ l, ∀ s, P s → P (f b s)) (s : σ) : P (forAll l f s) := by
  induction l generalizing s with
  | nil => cases mem
  | cons b r ih =>
    by_cases h : a ∈ r
    · exact ih h (fun c hc => turn c (List.mem_cons_of_mem _ hc)) _
    · obtain rfl : a = b := by simpa [h] using mem
      exact forAll_keeps r (fun c hc => turn c (List.mem_cons_of_mem _ hc)) (brings s)

end

section
variable {s t : State}

/-! What an update outside a table leaves in the table. -/

theorem Only.port {m : Nat} (h : Only m s t) (hm : m.testBit 8 = false) (p : Nat) : t.port p = s.port p := by
  rw [State.port, h.ports hm, State.port]

theorem Only.ld {m : Nat} (h : Only m s t) (hm : m.testBit 9 = false) (u : Nat) : t.ld u = s.ld u := by
  rw [State.ld, h.lds hm, State.ld]

theorem Only.half {m : Nat} (h : Only m s t) (hn : m.testBit 5 = false) (hs : m.testBit 6 = false) (k : Half) : t.half k = s.half k := by
  cases k
  · exact h.north hn
  · exact h.south hs

theorem Only.bar {m : Nat} (h : Only m s t) (hm : m.testBit 4 = false) (u off : Nat) : t.bar u off = s.bar u off := by
  rw [State.bar, h.reg hm, State.bar]

theorem Only.ring {m : Nat} (h : Only m s t) (hm : m.testBit 18 = false) (u r : Nat) : t.ring u r = s.ring u r := by
  rw [State.ring, h.rings hm, State.ring]

theorem Only.chan {m : Nat} (h : Only m s t) (hm : m.testBit 34 = false) (n : Nat) : t.chan n = s.chan n := by
  rw [State.chan, h.dmc hm, State.chan]

/-! An update of one place, at that place and at another. -/

@[simp] theorem State.port_modPort (p : Nat) (f : Port → Port) (s : State) : (s.modPort p f).port p = f (s.port p) :=
  State.port_setPort p _

theorem State.port_modPort_other {p q : Nat} (f : Port → Port) (h : q ≠ p) : (s.modPort p f).port q = s.port q :=
  State.port_setPort_other _ h

@[simp] theorem State.bar_modBar (u off : Nat) (f : W32 → W32) (s : State) : (s.modBar u off f).bar u off = f (s.bar u off) :=
  State.bar_setBar u off _

@[simp] theorem State.stw_modStw (off : Nat) (f : W32 → W32) (s : State) : (s.modStw off f).stw off = f (s.stw off) :=
  State.stw_setStw off _

theorem State.stw_modStw_other {off o : Nat} (f : W32 → W32) (h : o ≠ off) : (s.modStw off f).stw o = s.stw o :=
  State.stw_setStw_other _ h

@[simp] theorem State.half_modHalf (h : Half) (f : HalfSt → HalfSt) (s : State) : (s.modHalf h f).half h = f (s.half h) :=
  State.half_setHalf h _

@[simp] theorem State.half_modHalf_other (h : Half) (f : HalfSt → HalfSt) (s : State) :
    (s.modHalf h f).half (halfOther h) = s.half (halfOther h) := by
  cases h <;> rfl

/-! The tables that an update does not touch. -/

@[simp] theorem State.port_emit (m : Msg) (p : Nat) : (s.emit m).port p = s.port p := rfl
@[simp] theorem State.ld_emit (m : Msg) (u : Nat) : (s.emit m).ld u = s.ld u := rfl
@[simp] theorem State.half_emit (m : Msg) (h : Half) : (s.emit m).half h = s.half h := by cases h <;> rfl
@[simp] theorem State.bar_emit (m : Msg) (u off : Nat) : (s.emit m).bar u off = s.bar u off := rfl
@[simp] theorem State.port_modLd (u p : Nat) (f : Ld → Ld) : (s.modLd u f).port p = s.port p := rfl
@[simp] theorem State.ld_modPort (u p : Nat) (f : Port → Port) : (s.modPort p f).ld u = s.ld u := rfl
@[simp] theorem State.stw_modPort (p off : Nat) (f : Port → Port) : (s.modPort p f).stw off = s.stw off := rfl
@[simp] theorem State.port_modStw (p off : Nat) (f : W32 → W32) : (s.modStw off f).port p = s.port p := rfl
@[simp] theorem State.port_cntStw (p off hi lo n : Nat) : (s.cntStw off hi lo n).port p = s.port p := rfl
@[simp] theorem State.ld_modRing (t r u : Nat) (f : Ring → Ring) : (s.modRing t r f).ld u = s.ld u := rfl
@[simp] theorem State.ld_modAlm (u : Nat) (f : Alm → Alm) : (s.modAlm f).ld u = s.ld u := rfl
@[simp] theorem State.ld_modTier (u : Nat) (f : Tier → Tier) : (s.modTier f).ld u = s.ld u := rfl
@[simp] theorem State.ld_tickFree (u : Nat) : s.tickFree.ld u = s.ld u := rfl
@[simp] theorem State.ld_modBar (t off u : Nat) (f : W32 → W32) : (s.modBar t off f).ld u = s.ld u := rfl
@[simp] theorem State.ld_modStw (off u : Nat) (f : W32 → W32) : (s.modStw off f).ld u = s.ld u := rfl
@[simp] theorem State.port_tickFree (p : Nat) : s.tickFree.port p = s.port p := rfl

end

/-! Reports to a logical device: records, messages and what waits for Bus Master Enable. -/

/-- A logical device but for what reports to it change. -/
def Ld.apartFromReports (l : Ld) : Ld :=
  { l with waiting := [], pending := 0#4, logInfo := [], logWarn := [], logFail := [], overflow := [] }

section
variable (s : State)

theorem State.reports_setLd {t : Nat} {v : Ld} (h : v.apartFromReports = (s.ld t).apartFromReports) (u : Nat) :
    ((s.setLd t v).ld u).apartFromReports = (s.ld u).apartFromReports := by
  by_cases hu : u = t
  · subst hu
    rw [State.ld_setLd, h]
  · rw [State.ld_setLd_other _ hu]

theorem State.reports_request (t : Nat) (w : Want) (u : Nat) :
    ((s.request t w).ld u).apartFromReports = (s.ld u).apartFromReports := by
  unfold State.request
  split
  · rw [(State.issueWant_only t w (Inside.refl _) (Only.refl _ s)).ld rfl]
  · refine s.reports_setLd ?_ u
    rfl

theorem State.reports_raiseMsix (t v u : Nat) : ((s.raiseMsix t v).ld u).apartFromReports = (s.ld u).apartFromReports := by
  unfold State.raiseMsix
  dsimp only
  split
  · rfl
  split
  · exact s.reports_request t _ u
  · refine s.reports_setLd ?_ u
    rfl

theorem State.reports_tenantLog (t sev : Nat) (r : W256) (u : Nat) :
    ((s.tenantLog t sev r).ld u).apartFromReports = (s.ld u).apartFromReports := by
  unfold State.tenantLog
  dsimp only
  split
  · split
    · rw [State.reports_raiseMsix]
      apply s.reports_setLd
      split
      · rfl
      · split <;> rfl
    · refine s.reports_setLd ?_ u
      rfl
  · rfl

/-- A record changes no logical device but in its logs and messages. -/
theorem State.reports_logRec (r : Rec) (u : Nat) : ((s.logRec r).ld u).apartFromReports = (s.ld u).apartFromReports := by
  have module : (if r.sev = 2 then (s.moduleLog (r.bytes s.now)).alert alFail else s.moduleLog (r.bytes s.now)).ld u = s.ld u := by
    split <;> rfl
  unfold State.logRec
  dsimp only
  cases r.tenant with
  | none => exact congrArg _ module
  | some t =>
    dsimp only
    rw [State.reports_tenantLog]
    exact congrArg _ module

theorem State.flr_logRec (r : Rec) (u : Nat) : ((s.logRec r).ld u).flr = (s.ld u).flr := by
  have := congrArg Ld.flr (s.reports_logRec r u)
  exact this

theorem State.bme_logRec (r : Rec) (u : Nat) : ((s.logRec r).ld u).bme = (s.ld u).bme := by
  have := congrArg Ld.bme (s.reports_logRec r u)
  exact this

/-- A record changes no BAR0 register. -/
theorem State.bar_logRec (r : Rec) (u off : Nat) : (s.logRec r).bar u off = s.bar u off := by
  have module : (if r.sev = 2 then (s.moduleLog (r.bytes s.now)).alert alFail else s.moduleLog (r.bytes s.now)).bar u off =
      s.bar u off := by
    split <;> rfl
  unfold State.logRec
  dsimp only
  cases r.tenant with
  | none => exact module
  | some t =>
    dsimp only
    rw [(State.tenantLog_only t _ _ (Inside.refl _) (Only.refl _ _)).bar rfl]
    exact module

end

end Sys2Proof.Machine


/-! Port states (Table PRT-5): PERST, training and the enumeration of a head (R26 to R35, R55). -/

namespace Sys2Proof.Machine

open Safety

/-- PERST of a port is asserted, and nothing else changes. -/
def State.assertPerst (n : Nat) (s : State) : State := { s with pins := { s.pins with perst := setBit n true s.pins.perst } }

/-- PERST of a port is deasserted, with CLKSEL sampled at a port that carries a head of its own (R460). -/
def State.samplePins (n : Nat) (clksel : Bool) (s : State) : State :=
  { s with pins := { s.pins with perst := setBit n false s.pins.perst
                                 clkSel := if s.portUnused n then s.pins.clkSel else setBit n clksel s.pins.clkSel } }

/-- The bonding of a port once its PERST is deasserted (R28). -/
def State.bondingOf (n : Nat) (s : State) : Bool :=
  if s.perstOn n && n % 2 = 0 && s.perstOn (n + 1) then bit (n / 2) (s.stw Reg.PRT_BOND) else (s.port n).bonded

/-- The state in which a deassertion of PERST leaves a port, before it may train. -/
def State.deassertPerst (n : Nat) (clksel : Bool) (s : State) : State :=
  if s.perstOn n && n % 2 = 0 && s.perstOn (n + 1) then
    (s.samplePins n clksel).modPort n (fun x => { x with bonded := bit (n / 2) (s.stw Reg.PRT_BOND) })
  else s.samplePins n clksel

/-- A port that enters DRAIN. -/
def Port.toDrain (x : Port) : Port :=
  { x with st := .drain, width := 0#3, rate := 0#3, inL1 := false, ideSecure := false, ideActive := none }

/-- A logical device as LINK_UP enumerates it, with the window size in force (R29, R55). -/
def Ld.enumerate (mld : Bool) (w : Nat) (l : Ld) : Ld := { l with enumerated := true, hostBound := !mld, recordedW := w }

section
variable {n : Nat} {s : State} {b mld : Bool}

@[simp] theorem State.port_set_pins (v : Pins) (n : Nat) : State.port n { s with pins := v } = s.port n := rfl

@[simp] theorem State.portUnused_set_pins (v : Pins) (n : Nat) : State.portUnused n { s with pins := v } = s.portUnused n := rfl

@[simp] theorem State.port_samplePins (m : Nat) : (s.samplePins n b).port m = s.port m := rfl

theorem State.port_deassertPerst : (s.deassertPerst n b).port n = { s.port n with bonded := s.bondingOf n } := by
  unfold State.deassertPerst State.bondingOf
  split
  · exact State.port_modPort _ _ _
  · rfl

theorem State.port_deassertPerst_other {q : Nat} (h : q ≠ n) : (s.deassertPerst n b).port q = s.port q := by
  unfold State.deassertPerst
  split
  · exact State.port_modPort_other _ h
  · rfl

theorem State.pins_deassertPerst : (s.deassertPerst n b).pins = (s.samplePins n b).pins := by
  unfold State.deassertPerst
  split <;> rfl

theorem State.deassertPerst_frame : s.deassertPerst n b =
    { s with pins := (s.deassertPerst n b).pins, ports := (s.deassertPerst n b).ports } := by
  unfold State.deassertPerst
  split <;> rfl

/-- The port that a bonding depends on is the even one below. -/
theorem State.portUnused_deassertPerst : (s.deassertPerst n b).portUnused n = s.portUnused n := by
  unfold State.portUnused
  by_cases odd : n % 2 = 1
  · rw [State.port_deassertPerst_other (by omega)]
  · simp [odd]

theorem State.phyReady_deassertPerst : (s.deassertPerst n b).phyReady n = s.phyReady n := by
  rw [State.deassertPerst_frame]
  rfl

/-! What a drain of a head leaves of its port. -/

theorem State.enterDrain_of_not_up (h : (s.port n).st ≠ .up) : s.enterDrain n = s := if_neg h

theorem State.enterDrain_only_of_up (h : (s.port n).st = .up) : Only 16617041792656 (s.modPort n Port.toDrain) (s.enterDrain n) := by
  rw [State.enterDrain, if_pos h]
  refine State.closeResume_only (.of_and rfl) (State.asgnResume_only (.of_and rfl) (Only.forAll ?_ _ ?_))
  · exact fun t _ h => State.drainLd_only t (.of_and rfl) h
  · exact State.dropHead_only _ (.of_and rfl) (Only.refl _ _)

theorem State.port_enterDrain (h : (s.port n).st = .up) : (s.enterDrain n).port n = (s.port n).toDrain := by
  rw [(State.enterDrain_only_of_up h).port rfl, State.port_modPort]

theorem State.port_enterDrain_other {q : Nat} (h : (s.port n).st = .up) (other : q ≠ n) : (s.enterDrain n).port q = s.port q := by
  rw [(State.enterDrain_only_of_up h).port rfl, State.port_modPort_other _ other]

theorem State.pins_enterDrain (h : (s.port n).st = .up) : (s.enterDrain n).pins = s.pins :=
  (State.enterDrain_only_of_up h).pins rfl

/-! The logical devices that a link-up enumerates. -/

/-- A loop over distinct devices updates each of them once and no other. -/
theorem State.ld_forAll_modLd {f : Nat → State → Ld → Ld} (sameF : ∀ t u g s, f t (State.modLd u g s) = f t s) (l : List Nat)
    (nodup : l.Nodup) (s : State) (u : Nat) :
    (forAll l (fun t s => s.modLd t (f t s)) s).ld u = if u ∈ l then f u s (s.ld u) else s.ld u := by
  induction l generalizing s with
  | nil => rfl
  | cons t r ih =>
    obtain ⟨hr, nodup⟩ := List.nodup_cons.mp nodup
    rw [forAll_cons, ih nodup, sameF]
    by_cases h : u = t
    · subst h
      simp [hr]
    · simp [State.ld_modLd_other _ h, h]

theorem State.forAll_modLd_frame (f : Nat → State → Ld → Ld) (l : List Nat) (s : State) :
    forAll l (fun t s => s.modLd t (f t s)) s = { s with lds := (forAll l (fun t s => s.modLd t (f t s)) s).lds } :=
  forAll_keeps (P := fun t : State => t = { s with lds := t.lds }) l (fun _ _ t h => by rw [h]; rfl) rfl

theorem State.headTenants_nodup (n : Nat) (s : State) : (s.headTenants n).Nodup := by
  unfold State.headTenants
  split
  · exact List.Nodup.map (fun a b h => by simpa using h) List.nodup_range
  · exact List.nodup_singleton _

theorem State.mem_headTenants {u : Nat} : u ∈ s.headTenants n ↔ u = 16 * n ∨ ((s.port n).mld = true ∧ u / 16 = n) := by
  unfold State.headTenants
  split <;> rename_i h
  · simp only [List.mem_map, List.mem_range, h, true_and]
    constructor
    · rintro ⟨i, hi, rfl⟩
      omega
    · intro hu
      exact ⟨u - 16 * n, by omega, by omega⟩
  · simp [h]

end

section
variable {p : PortId} {s : State} {b mld : Bool} {w r : BitVec 3}

@[simp] theorem State.perstOn_assertPerst : (s.assertPerst p.toNat).perstOn p.toNat = true :=
  bit_setBit true s.pins.perst p.isLt

theorem State.perstOn_deassertPerst : (s.deassertPerst p.toNat b).perstOn p.toNat = false := by
  rw [State.perstOn, State.pins_deassertPerst]
  exact bit_setBit false s.pins.perst p.isLt

theorem State.clkSel_deassertPerst : bit p.toNat (s.deassertPerst p.toNat b).pins.clkSel =
    if s.portUnused p.toNat then bit p.toNat s.pins.clkSel else b := by
  rw [State.pins_deassertPerst]
  change bit p.toNat (if s.portUnused p.toNat = true then s.pins.clkSel else setBit p.toNat b s.pins.clkSel) = _
  split
  · rfl
  · exact bit_setBit b s.pins.clkSel p.isLt

theorem exec_perstAssert_of_train (used : s.portUnused p.toNat = false) (train : (s.port p.toNat).st = .train) :
    exec (.perstAssert p) s = .next (((s.assertPerst p.toNat).modPort p.toNat
      (fun x => { x with st := .reset, backoff := false })).emit (.link p.toNat false)) := by
  change execPerstAssert p s = _
  simp [execPerstAssert, used, train, State.assertPerst]

theorem exec_perstAssert_of_up (used : s.portUnused p.toNat = false) (up : (s.port p.toNat).st = .up) :
    exec (.perstAssert p) s = .next ((s.assertPerst p.toNat).enterDrain p.toNat) := by
  change execPerstAssert p s = _
  simp [execPerstAssert, used, up, State.assertPerst]

theorem exec_perstAssert_idle (idle : s.portUnused p.toNat = true ∨ (s.port p.toNat).st = .reset ∨ (s.port p.toNat).st = .drain) :
    exec (.perstAssert p) s = .next (s.assertPerst p.toNat) := by
  change execPerstAssert p s = _
  rcases idle with unused | reset | drain
  · simp [execPerstAssert, unused, State.assertPerst]
  · simp [execPerstAssert, reset, State.assertPerst]
  · simp [execPerstAssert, drain, State.assertPerst]

theorem exec_perstDeassert : exec (.perstDeassert p b) s = .next ((s.deassertPerst p.toNat b).leaveReset p.toNat) := by
  have next : (s.samplePins p.toNat b).perstOn (p.toNat + 1) = s.perstOn (p.toNat + 1) := bit_setBit_other _ _ (by omega)
  change execPerstDeassert p b s = _
  rw [State.deassertPerst, ← next]
  rfl

theorem State.leaveReset_deassertPerst_trains (used : s.portUnused p.toNat = false) (reset : (s.port p.toNat).st = .reset)
    (ready : s.phyReady p.toNat = true) :
    (s.deassertPerst p.toNat b).leaveReset p.toNat = (s.deassertPerst p.toNat b).train p.toNat := by
  refine if_pos ?_
  simp [State.port_deassertPerst, reset, State.perstOn_deassertPerst, State.phyReady_deassertPerst, ready,
    State.portUnused_deassertPerst, used]

theorem State.leaveReset_deassertPerst_stays
    (h : s.portUnused p.toNat = true ∨ (s.port p.toNat).st ≠ .reset ∨ s.phyReady p.toNat = false) :
    (s.deassertPerst p.toNat b).leaveReset p.toNat = s.deassertPerst p.toNat b := by
  refine if_neg ?_
  rw [State.port_deassertPerst, State.phyReady_deassertPerst, State.portUnused_deassertPerst]
  rcases h with h | h | h <;> simp [h]

/-- The port as LINK_UP leaves it (R29, R40, R55). -/
def Port.linkUp (w r : BitVec 3) (mld : Bool) (x : Port) : Port :=
  { x with st := .up, fails := 0, width := w, rate := r, mld := mld, linkUps := x.linkUps + 1#16, ideInsecure := false, ideKeys := [] }

theorem exec_linkUp (used : s.portUnused p.toNat = false) (train : (s.port p.toNat).st = .train)
    (ready : (s.port p.toNat).backoff = false) :
    exec (.linkUp p w r mld) s = .next (forAll ((s.modPort p.toNat (Port.linkUp w r mld)).headTenants p.toNat)
      (fun t s => s.modLd t (Ld.enumerate mld (cfgWin (s.wttOf t).cfg))) (s.modPort p.toNat (Port.linkUp w r mld))) := by
  change execLinkUp p w r mld s = _
  simp [execLinkUp, used, train, ready]
  rfl

theorem exec_linkUp_idle (h : (s.port p.toNat).st ≠ .train ∨ s.portUnused p.toNat = true ∨ (s.port p.toNat).backoff = true) :
    exec (.linkUp p w r mld) s = .next s := by
  change execLinkUp p w r mld s = _
  rcases h with h | h | h <;> simp [execLinkUp, h]

theorem exec_trainFail (train : (s.port p.toNat).st = .train) (ready : (s.port p.toNat).backoff = false) :
    exec (.trainFail p) s = .next ((s.modPort p.toNat (fun x => { x with fails := x.fails + 1, backoff := true })).cntStw
      (Reg.PRT_PSTAT + 4 * p.toNat) 31 16 1) := by
  change execTrainFail p s = _
  simp [execTrainFail, train, ready]

theorem exec_trainFail_idle (h : (s.port p.toNat).st ≠ .train ∨ (s.port p.toNat).backoff = true) :
    exec (.trainFail p) s = .next s := by
  change execTrainFail p s = _
  rcases h with h | h <;> simp [execTrainFail, h]

theorem exec_trainBackoffExpire (train : (s.port p.toNat).st = .train) (backoff : (s.port p.toNat).backoff = true) :
    exec (.trainBackoffExpire p) s =
      .next ((s.modPort p.toNat (fun x => { x with backoff := false })).emit (.link p.toNat true)) := by
  change execTrainBackoffExpire p s = _
  simp [execTrainBackoffExpire, train, backoff]

theorem exec_trainBackoffExpire_idle (h : (s.port p.toNat).st ≠ .train ∨ (s.port p.toNat).backoff = false) :
    exec (.trainBackoffExpire p) s = .next s := by
  change execTrainBackoffExpire p s = _
  rcases h with h | h <;> simp [execTrainBackoffExpire, h]

theorem exec_portDrainComplete_of_not_drain (h : (s.port p.toNat).st ≠ .drain) : exec (.portDrainComplete p) s = .next s := by
  change execPortDrainComplete p s = _
  simp [execPortDrainComplete, h]

theorem exec_linkDown_or_hotReset {c : Instr} (h : c = .linkDown p ∨ c = .hotReset p) : exec c s = .next (s.enterDrain p.toNat) := by
  rcases h with rfl | rfl <;> rfl

end

section
variable {p : PortId} {s : State} {mld : Bool} {w r : BitVec 3}

/-- What LINK_UP leaves. -/
theorem linkUp_yields (used : s.portUnused p.toNat = false) (train : (s.port p.toNat).st = .train)
    (ready : (s.port p.toNat).backoff = false) :
    Yields (.linkUp p w r mld) s (fun t => t.port p.toNat = (s.port p.toNat).linkUp w r mld ∧
      (∀ i < 16, (t.ld (16 * p.toNat + i)).enumerated = (decide (i = 0) || mld || (s.ld (16 * p.toNat + i)).enumerated)) ∧
      (∀ u, u / 16 ≠ p.toNat → t.ld u = s.ld u) ∧ (t.ld (16 * p.toNat)).recordedW = cfgWin (s.wttOf (16 * p.toNat)).cfg ∧
      (∀ q, q ≠ p.toNat → t.port q = s.port q) ∧ t = { s with ports := t.ports, lds := t.lds }) := by
  let s' := s.modPort p.toNat (Port.linkUp w r mld)
  let f (t : Nat) (s : State) : Ld → Ld := Ld.enumerate mld (cfgWin (s.wttOf t).cfg)
  have frame := State.forAll_modLd_frame f (s'.headTenants p.toNat) s'
  have device := State.ld_forAll_modLd (f := f) (fun _ _ _ _ => rfl) _ (s'.headTenants_nodup p.toNat) s'
  have ofHead (u : Nat) : u ∈ s'.headTenants p.toNat ↔ u = 16 * p.toNat ∨ (mld = true ∧ u / 16 = p.toNat) := by
    rw [State.mem_headTenants, State.port_modPort]
    rfl
  have port (q : Nat) : (forAll (s'.headTenants p.toNat) (fun t s => s.modLd t (f t s)) s').port q = s'.port q := by
    rw [frame]
    rfl
  refine ⟨_, exec_linkUp used train ready, ?_, ?_, ?_, ?_, ?_, ?_⟩
  · rw [port, State.port_modPort]
  · intro i hi
    rw [device]
    by_cases h : 16 * p.toNat + i ∈ s'.headTenants p.toNat
    · rw [if_pos h]
      rw [ofHead] at h
      rcases h with h | ⟨h, -⟩
      · obtain rfl : i = 0 := by omega
        rfl
      · simp [f, Ld.enumerate, h]
    · rw [if_neg h]
      rw [ofHead, not_or, not_and] at h
      obtain ⟨first, head⟩ := h
      have : mld = false := by
        by_contra on
        exact head (by simpa using on) (by omega)
      simp [this, show i ≠ 0 by omega, s']
  · intro u hu
    rw [device, if_neg]
    · rfl
    · rw [ofHead]
      omega
  · rw [device, if_pos ((ofHead _).mpr (.inl rfl))]
    rfl
  · intro q hq
    rw [port, State.port_modPort_other _ hq]
  · rw [frame]
    rfl

/-- Settles O19: the next states of PERST, training and the link, and what they are at the port, at its devices and elsewhere. -/
theorem portsFollowTheirStates : Obligations.PortsFollowTheirStates := by
  refine ⟨?train, ?drain, ?perst, ?deassert, ?stays, fun p w r mld s => linkUp_yields, ?fail, fun p s => exec_trainBackoffExpire,
    fun _ _ => rfl, ?idle⟩
  case train =>
    intro p s used train
    refine ⟨_, exec_perstAssert_of_train used train, ?_, State.perstOn_assertPerst, ?_, rfl⟩
    · rw [State.port_emit, State.port_modPort]
      rfl
    · intro q hq
      rw [State.port_emit, State.port_modPort_other _ hq]
      rfl
  case drain =>
    intro p s used up
    have up' : ((s.assertPerst p.toNat).port p.toNat).st = .up := up
    refine ⟨_, exec_perstAssert_of_up used up, ?_, ?_, fun q hq => State.port_enterDrain_other up' hq⟩
    · rw [State.port_enterDrain up']
      rfl
    · rw [State.perstOn, State.pins_enterDrain up']
      exact State.perstOn_assertPerst
  case perst =>
    exact fun p s idle => ⟨_, exec_perstAssert_idle idle, State.perstOn_assertPerst, rfl⟩
  case deassert =>
    intro p b s used reset ready
    refine ⟨_, exec_perstDeassert, ?_⟩
    rw [State.leaveReset_deassertPerst_trains used reset ready]
    refine ⟨?_, State.perstOn_deassertPerst, ?_, ?_, ?_, ?_⟩
    · rw [State.train, State.port_emit, State.port_modPort]
    · rw [State.train, State.port_emit, State.port_modPort, State.port_deassertPerst]
      rfl
    · refine (State.clkSel_deassertPerst (s := s)).trans ?_
      simp [used]
    · intro q hq
      rw [State.train, State.port_emit, State.port_modPort_other _ hq, State.port_deassertPerst_other hq]
    · rw [State.deassertPerst_frame]
      rfl
  case stays =>
    intro p b s stays
    refine ⟨_, exec_perstDeassert, ?_⟩
    rw [State.leaveReset_deassertPerst_stays stays]
    exact ⟨State.perstOn_deassertPerst, State.port_deassertPerst, State.clkSel_deassertPerst,
      fun q hq => State.port_deassertPerst_other hq, State.deassertPerst_frame⟩
  case fail =>
    intro p s train ready
    refine ⟨_, exec_trainFail train ready, ?_, ?_, ?_, rfl⟩
    · rw [State.port_cntStw, State.port_modPort]
    · rw [State.stw_cntStw, bits_satField (by decide), State.stw_modPort]
      rfl
    · intro q hq
      rw [State.port_cntStw, State.port_modPort_other _ hq]
  case idle =>
    intro p w r mld s
    refine ⟨fun h => ⟨exec_linkUp_idle (.inl h), exec_trainFail_idle (.inl h), exec_trainBackoffExpire_idle (.inl h)⟩,
      fun h => exec_linkUp_idle (.inr h), fun h => exec_trainFail_idle (.inr h), fun h => exec_trainBackoffExpire_idle (.inr h),
      fun h => ⟨?_, ?_⟩, exec_portDrainComplete_of_not_drain⟩
    · rw [exec_linkDown_or_hotReset (.inl rfl), State.enterDrain_of_not_up h]
    · rw [exec_linkDown_or_hotReset (.inr rfl), State.enterDrain_of_not_up h]

end

end Sys2Proof.Machine


/-! Resets of a head and of a function (R37, R42, R46, R50): what drains, what waits and what is cleared. -/

namespace Sys2Proof.Machine

open Safety

/-- The devices of a head that drain. -/
def State.drainers (n : Nat) (s : State) : List Nat := (s.headTenants n).filter (fun t => (s.ld t).portDrain)

/-- A device of a head once the head's drain is over (R37, Table PRT-8). -/
def Ld.afterDrain (l : Ld) : Ld :=
  { l.resetConfig with enumerated := false, hostBound := false, portDrain := false, hdm := {}, hdmWords := [] }

/-- The state once the drain of a head has logged its records and reset its devices. -/
def State.drained (n : Nat) (s : State) : State :=
  (forAll (s.drainers n) (fun t s => (s.resetTenant t false).modLd t Ld.afterDrain)
    (forAll (s.drainers n) (fun t s => if (s.ld t).drainLogged then s else s.logDrain t (s.ld t)) s)).modPort n
      (fun x => { x with mld := false })

/-- The state once the FLR of a device has run its steps 6 and 7, but for its record. -/
def State.flrDone (n : Nat) (s : State) : State :=
  let s := forAll (s.shr.regions.map Prod.fst) (fun r s => s.releaseHold n r) s
  (((s.dropFetches n).resetWeir n).resetTenant n true).modLd n (fun l => { l.resetConfig with flr := false, drainLogged := true })

section
variable (n : Nat) (s : State)

/-- The records and resets of a drain touch no port and no pin. -/
theorem State.drained_only : Only 2269891069456 s (forAll (s.drainers n) (fun t s => (s.resetTenant t false).modLd t Ld.afterDrain)
    (forAll (s.drainers n) (fun t s => if (s.ld t).drainLogged then s else s.logDrain t (s.ld t)) s)) :=
  Only.forAll (fun t _ h => State.modLd_only t _ (.of_and rfl) (State.resetTenant_only t false (.of_and rfl) h)) _
    (Only.forAll (fun t _ h => h.ite (State.logDrain_only t _ (.of_and rfl) h)) _ (Only.refl _ s))

theorem State.port_drained : (s.drained n).port n = { s.port n with mld := false } := by
  rw [State.drained, State.port_modPort, (s.drained_only n).port rfl]

theorem State.port_drained_other {q : Nat} (h : q ≠ n) : (s.drained n).port q = s.port q := by
  rw [State.drained, State.port_modPort_other _ h, (s.drained_only n).port rfl]

theorem State.ld_resetTenant (t : Nat) (keepFlr : Bool) (u : Nat) : (s.resetTenant t keepFlr).ld u = s.ld u :=
  (State.resetTenant_only t keepFlr (Inside.refl _) (Only.refl _ s)).ld rfl u

theorem State.ld_drained {u : Nat} (h : u ∈ s.drainers n) :
    ((s.drained n).ld u).enumerated = false ∧ ((s.drained n).ld u).portDrain = false := by
  rw [State.drained, State.ld_modPort]
  refine forAll_reaches (P := fun s : State => (s.ld u).enumerated = false ∧ (s.ld u).portDrain = false) h ?_ ?_ _
  · intro s
    rw [State.ld_modLd]
    exact ⟨rfl, rfl⟩
  · intro t _ s off
    by_cases hu : u = t
    · subst hu
      rw [State.ld_modLd]
      exact ⟨rfl, rfl⟩
    · rwa [State.ld_modLd_other _ hu, State.ld_resetTenant]

theorem State.ring_setRings (u r : Nat) (h : r < 16) : (forAll (List.range 16) (fun q s => s.setRing u q {}) s).ring u r = {} := by
  refine forAll_reaches (P := fun s : State => s.ring u r = {}) (List.mem_range.mpr h) (fun s => State.ring_setRing u r {}) ?_ s
  intro q _ s off
  by_cases hq : r = q
  · subst hq
    exact State.ring_setRing u r {}
  · rwa [State.ring_setRing_other _ (by omega)]

theorem State.bar_clearBar (u off : Nat) (h : off < 65536) (other : off ≠ Reg.PRT_FLR) (keepFlr : Bool) :
    (s.clearBar u keepFlr).bar u off = barReset off := by
  refine tget_absent _ ?_
  intro e he key
  have := (List.mem_filter.mp he).2
  rw [key, show (u * 65536 + off) / 65536 = u by omega, show (u * 65536 + off) % 65536 = off by omega] at this
  simp [other] at this

theorem State.resetTenant_only_of_clearBar (u : Nat) (keepFlr : Bool) :
    Only 2148335616 (s.clearBar u keepFlr) (s.resetTenant u keepFlr) := by
  unfold State.resetTenant
  exact State.modHg_only u _ (.of_and rfl) (Only.forAll (fun r _ h => State.setRing_only u r _ (.of_and rfl) h) _
    (State.setEng_only u _ (.of_and rfl) (State.clearAlmCounts_only u (.of_and rfl) (Only.refl _ _))))

theorem State.bar_resetTenant (u off : Nat) (h : off < 65536) (other : off ≠ Reg.PRT_FLR) (keepFlr : Bool) :
    (s.resetTenant u keepFlr).bar u off = barReset off := by
  rw [(s.resetTenant_only_of_clearBar u keepFlr).bar rfl, s.bar_clearBar u off h other]

theorem State.ring_resetTenant (u r : Nat) (h : r < 16) (keepFlr : Bool) : (s.resetTenant u keepFlr).ring u r = {} := by
  unfold State.resetTenant
  rw [(State.modHg_only u _ (Inside.refl _) (Only.refl _ _)).ring rfl]
  exact State.ring_setRings _ u r h

end

section
variable {n : Nat} {s : State}

theorem State.mem_drainers {u : Nat} : u ∈ s.drainers n ↔ u ∈ s.headTenants n ∧ (s.ld u).portDrain = true := List.mem_filter

/-- A device of the head still has an FLR, a grain or a tile under way. -/
def State.drainHeld (n : Nat) (s : State) : Bool := (s.drainers n).any (fun t => (s.ld t).flr || s.stillRuns t)

theorem exec_portDrainComplete (p : PortId) : exec (.portDrainComplete p) s =
    if (s.port p.toNat).st ≠ .drain || s.drainHeld p.toNat then .next s
    else if (s.drained p.toNat).perstOn p.toNat then
      .next (((s.drained p.toNat).modPort p.toNat (fun x => { x with st := .reset })).emit (.link p.toNat false))
    else .next ((s.drained p.toNat).train p.toNat) := by
  change execPortDrainComplete p s = _
  unfold execPortDrainComplete State.drainHeld State.drained State.drainers
  rfl

theorem State.drainHeld_eq_false : s.drainHeld n = false ↔
    ∀ t ∈ s.headTenants n, (s.ld t).portDrain = true → (s.ld t).flr = false ∧ s.stillRuns t = false := by
  simp [State.drainHeld, State.drainers]

theorem State.drainHeld_of_mem {u : Nat} (head : u ∈ s.headTenants n) (drains : (s.ld u).portDrain = true)
    (runs : (s.ld u).flr = true ∨ s.stillRuns u = true) : s.drainHeld n = true :=
  List.any_eq_true.mpr ⟨u, State.mem_drainers.mpr ⟨head, drains⟩, by simpa using runs⟩

theorem State.perstOn_drained : (s.drained n).perstOn n = s.perstOn n := by
  rw [State.perstOn, show (s.drained n).pins = s.pins from (s.drained_only n).pins rfl, State.perstOn]

theorem State.flrStart_of_idle (h : (s.ld n).enumerated = false ∨ s.draining n = true) : s.flrStart n = s := by
  refine if_pos ?_
  rcases h with h | h <;> simp [h]

theorem State.flrStart_of_enumerated (on : (s.ld n).enumerated = true) (calm : s.draining n = false) :
    s.flrStart n = ((s.setBar n Reg.PRT_FLR 0#32).modLd n (fun l => { l with
      flr := true, drainAborted := 0, drainRefused := 0, drainLogged := false })).abortWork n := by
  refine if_neg ?_
  simp [on, calm]

theorem State.flr_voidFetch {r : Nat} (h : (s.ld n).flr = true) : ((s.voidFetch n r).ld n).flr = true := by
  unfold State.voidFetch
  dsimp only
  rw [State.ld_modRing, State.ld_modLd]
  exact h

/-- Stopping a tenant's rings keeps the mark of its FLR. -/
theorem State.flr_stopRings (h : (s.ld n).flr = true) : ((s.stopRings n).ld n).flr = true := by
  unfold State.stopRings
  refine forAll_keeps (P := fun s : State => (s.ld n).flr = true) _ ?_ ?_
  · intro r _ s h
    rw [(State.farDrop_only (takeReader n r) (Inside.refl _) (Only.refl _ _)).ld rfl]
    exact State.flr_voidFetch h
  · rwa [State.ld_modLd]

/-- Where a tenant has no operation, its FLR ends none. -/
theorem State.abortWork_noOps (none : ∀ o ∈ s.ops, o.tenant ≠ n) (flr : (s.ld n).flr = true) :
    ((s.abortWork n).ld n).flr = true ∧ (s.abortWork n).ops = s.ops := by
  have mine : s.ops.filter (fun o => o.tenant = n) = [] := by
    simpa [List.filter_eq_nil_iff] using none
  unfold State.abortWork
  dsimp only
  rw [mine, forAll_nil]
  refine ⟨?_, ?_⟩
  · rw [State.ld_modLd, State.ld_cntBar, State.ld_modAlm, State.ld_modTier]
    dsimp only
    exact State.flr_stopRings flr
  · exact (State.modLd_only (Fm := 4398046875280) n _ (.of_and rfl) (State.cntBar_only n _ _ _ _ (.of_and rfl) (State.modAlm_only _ (.of_and rfl)
      (State.modTier_only _ (.of_and rfl) (State.stopRings_only n (.of_and rfl) (Only.refl _ s)))))).ops rfl

theorem State.ports_abortWork : (s.abortWork n).ports = s.ports :=
  (State.abortWork_only n (Inside.refl _) (Only.refl _ s)).ports rfl

theorem exec_flrDrainComplete (t : Tenant) : exec (.flrDrainComplete t) s =
    if !(s.ld t.toNat).flr || s.stillRuns t.toNat then .next s
    else .next ((if (s.ld t.toNat).portDrain then s.flrDone t.toNat else (s.flrDone t.toNat).emit (.frs t.toNat)).logDrain t.toNat
      (s.ld t.toNat)) := by
  change execFlrDrainComplete t s = _
  unfold execFlrDrainComplete State.flrDone
  rfl

theorem State.flrDone_only : Only 16581864163056 s (s.flrDone n) := by
  unfold State.flrDone
  exact State.modLd_only n _ (.of_and rfl) (State.resetTenant_only n true (.of_and rfl) (State.resetWeir_only n (.of_and rfl)
    (State.dropFetches_only n (.of_and rfl) (Only.forAll (fun r _ h => State.releaseHold_only n r (.of_and rfl) h) _ (Only.refl _ s)))))

theorem State.ring_flrDone (r : Nat) (h : r < 16) : (s.flrDone n).ring n r = {} := by
  unfold State.flrDone
  dsimp only
  rw [(State.modLd_only n _ (Inside.refl _) (Only.refl _ _)).ring rfl]
  exact State.ring_resetTenant _ n r h true

theorem State.bar_flrDone (off : Nat) (h : off < 65536) (other : off ≠ Reg.PRT_FLR) : (s.flrDone n).bar n off = barReset off := by
  unfold State.flrDone
  dsimp only
  rw [State.bar_modLd]
  exact State.bar_resetTenant _ n off h other true

end

/-- Settles O20: a drain enters and ends by the port's own update; every loop over the head's devices keeps what one turn
brought about, and the record at the end changes no device but in its logs. -/
theorem headResetsDrainTheirDevices : Obligations.HeadResetsDrainTheirDevices := by
  refine ⟨?enter, ?finish, ?held, ?flr, ?flrNoOps, ?flrIgnored, ?flrNone, ?flrEnds⟩
  case enter =>
    intro p c s reset up
    refine ⟨_, exec_linkDown_or_hotReset reset, ?_, ?_, State.pins_enterDrain up, fun q hq => State.port_enterDrain_other up hq⟩
    · rw [State.port_enterDrain up]
      rfl
    · rw [State.port_enterDrain up]
      rfl
  case finish =>
    intro p s drain calm
    have start : ¬((decide ((s.port p.toNat).st ≠ .drain) || s.drainHeld p.toNat) = true) := by
      simp [drain, State.drainHeld_eq_false.mpr calm]
    have device : ∀ u ∈ s.headTenants p.toNat, (s.ld u).portDrain = true →
        ((s.drained p.toNat).ld u).enumerated = false ∧ ((s.drained p.toNat).ld u).portDrain = false :=
      fun u head drains => s.ld_drained p.toNat (State.mem_drainers.mpr ⟨head, drains⟩)
    rw [Yields, exec_portDrainComplete, if_neg start, State.perstOn_drained]
    by_cases perst : s.perstOn p.toNat = true
    · simp only [if_pos perst]
      refine ⟨_, rfl, ?_, ?_, by simpa using device, ?_⟩
      · rw [State.port_emit, State.port_modPort, State.port_drained]
      · rw [State.port_emit, State.port_modPort]
      · intro q hq
        rw [State.port_emit, State.port_modPort_other _ hq, State.port_drained_other _ _ hq]
    · simp only [if_neg perst]
      refine ⟨_, rfl, ?_, ?_, by simpa [State.train] using device, ?_⟩
      · rw [State.train, State.port_emit, State.port_modPort, State.port_drained]
      · rw [State.train, State.port_emit, State.port_modPort]
      · intro q hq
        rw [State.train, State.port_emit, State.port_modPort_other _ hq, State.port_drained_other _ _ hq]
  case held =>
    intro p u s head drains runs
    rw [exec_portDrainComplete, State.drainHeld_of_mem head drains runs, Bool.or_true, if_pos rfl]
  case flr =>
    exact fun u s on calm => congrArg Host.Outcome.next (State.flrStart_of_enumerated on calm)
  case flrNoOps =>
    intro u s on calm none
    have start := State.flrStart_of_enumerated on calm
    obtain ⟨flr, ops⟩ := State.abortWork_noOps (s := (s.setBar u.toNat Reg.PRT_FLR 0#32).modLd u.toNat (fun l => { l with
      flr := true, drainAborted := 0, drainRefused := 0, drainLogged := false })) none (by rw [State.ld_modLd])
    refine ⟨_, congrArg Host.Outcome.next start, flr, ?_, ops⟩
    exact State.ports_abortWork
  case flrIgnored =>
    exact fun u s idle => congrArg Host.Outcome.next (State.flrStart_of_idle idle)
  case flrNone =>
    intro u s none
    rw [exec_flrDrainComplete, none]
    rfl
  case flrEnds =>
    intro u s flr
    refine ⟨fun runs => by rw [exec_flrDrainComplete, runs, Bool.or_true, if_pos rfl], fun calm => ?_⟩
    rw [Yields, exec_flrDrainComplete, flr, calm]
    set t := if (s.ld u.toNat).portDrain then s.flrDone u.toNat else (s.flrDone u.toNat).emit (.frs u.toNat) with ht
    have same : ∀ {α : Type} (f : State → α), (∀ x m, f (State.emit m x) = f x) → f t = f (s.flrDone u.toNat) := by
      intro α f hf
      rw [ht]
      split
      · rfl
      · exact hf _ _
    have record := State.logDrain_only u.toNat (s.ld u.toNat) (Inside.refl _) (Only.refl _ t)
    refine ⟨_, rfl, ?_, ?_, ?_, ?_, ?_⟩
    · rw [State.logDrain, State.flr_logRec, same (fun x => (x.ld u.toNat).flr) (fun _ _ => rfl), State.flrDone, State.ld_modLd]
    · rw [State.logDrain, State.bme_logRec, same (fun x => (x.ld u.toNat).bme) (fun _ _ => rfl), State.flrDone, State.ld_modLd]
      rfl
    · rw [record.ports rfl, same State.ports (fun _ _ => rfl)]
      exact State.flrDone_only.ports rfl
    · intro r hr
      rw [record.ring rfl, same (fun x => x.ring u.toNat r) (fun _ _ => rfl)]
      exact State.ring_flrDone r hr
    · intro off other lo hi
      rw [State.logDrain, State.bar_logRec, same (fun x => x.bar u.toNat off) (fun _ _ => rfl)]
      exact State.bar_flrDone off (by omega) other

end Sys2Proof.Machine


/-! Configuration of a logical device (R31, R47, R51, R52, R56, R408). -/

namespace Sys2Proof.Machine

open Safety

/-- A configuration request binds its device to the host (R31; log 52). -/
def State.bindHost (n : Nat) (s : State) : State := s.modLd n (fun l => { l with hostBound := true })

section
variable {u : Tenant} {v : W32} {r : CfgReg} {s : State}

theorem exec_configRequest_absent (w : Bool) (absent : (s.ld u.toNat).enumerated = false ∨ s.portUp (tenantPort u.toNat) = false) :
    exec (.configRequest u w r v) s = .next s := by
  change execConfigRequest u w r v s = _
  rcases absent with h | h <;> simp [execConfigRequest, h]

theorem exec_hdmCommit (base size skip : W64) (ways gran : Nat) (lock : Bool) :
    exec (.hdmCommit u base size skip ways gran lock) s = .next (s.hdmCommit u.toNat base size skip ways gran lock) := rfl

section
variable (on : (s.ld u.toNat).enumerated = true)
include on

section
variable (up : s.portUp (tenantPort u.toNat) = true)
include up

theorem exec_configRequest_unserved (w : Bool) (unserved : s.cfgServed u.toNat = false) :
    exec (.configRequest u w r v) s = .next (s.emit (.cfgDone u.toNat true 0#32)) := by
  change execConfigRequest u w r v s = _
  simp [execConfigRequest, on, up, unserved]

variable (served : s.cfgServed u.toNat = true)
include served

theorem exec_configRequest_read : exec (.configRequest u false r v) s =
    .next (((s.bindHost u.toNat).emit (.cfgDone u.toNat false ((s.bindHost u.toNat).cfgRead u.toNat r))).tickFree) := by
  change execConfigRequest u false r v s = _
  simp [execConfigRequest, on, up, served, State.bindHost]

theorem exec_configRequest_write : exec (.configRequest u true r v) s =
    .next (((s.bindHost u.toNat).cfgWrite u.toNat r v).emit (.cfgDone u.toNat false 0#32)) := by
  change execConfigRequest u true r v s = _
  simp [execConfigRequest, on, up, served, State.bindHost]

end

section
variable (served : s.cfgServed u.toNat = true)
include served

theorem exec_ctoValueWrite (c : BitVec 4) : exec (.ctoValueWrite u c) s = .next (s.ctoWrite u.toNat c) := by
  change execCtoValueWrite u c s = _
  simp [execCtoValueWrite, on, served]

theorem exec_busMasterEnableSet : exec (.busMasterEnableSet u) s = .next (s.setBme u.toNat) := by
  change execBusMasterEnableSet u s = _
  simp [execBusMasterEnableSet, on, served]

end

end

theorem exec_setRows_unserved (c : BitVec 4) (h : (s.ld u.toNat).enumerated = false ∨ s.cfgServed u.toNat = false) :
    exec (.ctoValueWrite u c) s = .next s ∧ exec (.busMasterEnableSet u) s = .next s := by
  refine ⟨?_, ?_⟩
  · change execCtoValueWrite u c s = _
    rcases h with h | h <;> simp [execCtoValueWrite, h]
  · change execBusMasterEnableSet u s = _
    rcases h with h | h <;> simp [execBusMasterEnableSet, h]

end

section
variable {n : Nat} {v : W32} {s : State}

/-- The PMCSR state field takes D3hot at 3 and D0 at 0 (R47). -/
theorem State.cfgWrite_pmcsr : s.cfgWrite n .pmcsr v =
    s.modLd n (fun l => { l with pmeEn := bit 8 v, d3hot := bits 1 0 v = 3 ∨ (l.d3hot = true ∧ bits 1 0 v ≠ 0) }) := by
  unfold State.cfgWrite
  dsimp only
  congr 1
  funext l
  by_cases three : bits 1 0 v = 3
  · simp [three]
  by_cases zero : bits 1 0 v = 0 <;> simp [three, zero]

/-- The time that a Completion Timeout Value stands for (R52). -/
theorem State.timeout_ctoWrite (c : BitVec 4) : bits 15 0 ((s.ctoWrite n c).bar n Reg.PRT_CTO) =
    if c = 1#4 then 50 else if c = 2#4 then 1000 else 10000 := by
  rw [State.ctoWrite, State.bar_modBar]
  refine bits_setBits _ _ (by decide) ?_
  split
  · decide
  · split <;> decide

theorem State.hdmCommit_locked (base size skip : W64) (ways gran : Nat) (lock : Bool)
    (h : (s.ld n).enumerated = false ∨ ((s.ld n).hdm.committed && (s.ld n).hdm.lock) = true) :
    s.hdmCommit n base size skip ways gran lock = s := by
  refine if_pos ?_
  rcases h with h | h <;> simp [h]

theorem State.hdmCommit_open (base size skip : W64) (ways gran : Nat) (lock : Bool) (on : (s.ld n).enumerated = true)
    (unlocked : ((s.ld n).hdm.committed && (s.ld n).hdm.lock) = false) :
    s.hdmCommit n base size skip ways gran lock = s.setLd n { s.ld n with hdm := {
      base := base, size := size, ways := ways, gran := gran, lock := lock,
      committed := (s.ld n).hdmOk size.toNat skip.toNat ways gran,
      error := !(s.ld n).hdmOk size.toNat skip.toNat ways gran } } := by
  refine if_neg ?_
  simp [on, unlocked]

end

/-- Settles O21: a request that is served binds its device and then reads or writes by the register; the rows that set a
field do the same write. -/
theorem configurationOfALogicalDevice : Obligations.ConfigurationOfALogicalDevice := by
  refine ⟨?read, fun u w v r s on up => exec_configRequest_unserved on up w, ?clearBme,
    fun u v r s on up served => exec_configRequest_write on up served, ?byRegister,
    fun u w v r s => exec_configRequest_absent w, fun u c s => exec_setRows_unserved c, ?hdmAbsent, ?cto, ?hdm,
    fun u s on served => exec_busMasterEnableSet on served⟩
  case read =>
    intro u v r s on up served
    exact ⟨_, exec_configRequest_read on up served, rfl, by simp [State.bindHost],
      fun n hn => by simp [State.bindHost, State.ld_modLd_other _ hn], rfl⟩
  case clearBme =>
    intro u v s on up served clear
    have write : (s.bindHost u.toNat).cfgWrite u.toNat .command v =
        (s.bindHost u.toNat).modLd u.toNat (fun l => { l with bme := false }) :=
      if_neg (by simp [clear])
    refine ⟨_, exec_configRequest_write on up served, ?_⟩
    rw [write, State.bindHost]
    exact ⟨rfl, by rw [State.ld_emit, State.ld_modLd, State.ld_modLd], rfl⟩
  case byRegister =>
    exact fun u v s => ⟨fun h => if_pos h, fun h => if_neg (by simp [h]), fun h => if_pos h, State.cfgWrite_pmcsr, rfl⟩
  case hdmAbsent =>
    intro u base size skip ways gran lock s absent
    rw [exec_hdmCommit, State.hdmCommit_locked _ _ _ _ _ _ (.inl absent)]
  case cto =>
    intro u c s on served
    exact ⟨_, exec_ctoValueWrite on served c, by simp [State.ctoWrite], State.timeout_ctoWrite c, rfl⟩
  case hdm =>
    intro u base size skip ways gran lock s on
    exact ⟨fun locked => by rw [exec_hdmCommit, State.hdmCommit_locked _ _ _ _ _ _ (.inr locked)],
      fun unlocked => by rw [exec_hdmCommit, State.hdmCommit_open _ _ _ _ _ _ on unlocked]⟩

end Sys2Proof.Machine


/-! Reads, compressors and requests that waited go on (R21, R79, R287, R303, R308, R328). -/

namespace Sys2Proof.Machine

open Safety

section
variable {i g n k r₀ f : Nat} {md : Media} {s : State}

/-! A read that its controller returns. -/

section
variable {r : TierRead} (found : s.dmc.reads.find? (fun x => x.id = i) = some r)
include found

section
variable (running : r.timedOut = false) (back : md ≠ .late)
include running back

theorem exec_tierReadReturn_host {q : Req} (src : r.src = .host q) :
    exec (.tierReadReturn i md) s =
      .next (if (s.readLocs (s.hostRd q true none) q.ua).any (fun l => s.chanHeld l) then s
        else (s.modDmc (fun d => { d with reads := d.reads.filter (fun x => x.id ≠ i) })).readReq { q with md := md } true none) := by
  change execTierReadReturn i md s = _
  simp only [execTierReadReturn, found, running, src, back, Bool.false_or, decide_false, Bool.false_eq_true, if_false]
  split <;> rfl

theorem exec_tierReadReturn_unit {w : Reader} {l t c stamp : Nat} (src : r.src = .unit w l t c stamp)
    (going : (s.chan r.chan).st ≠ .paused) :
    exec (.tierReadReturn i md) s = .next (s.modDmc (fun d => { d with reads := d.reads.filter (fun x => x.id ≠ i) })) := by
  change execTierReadReturn i md s = _
  simp [execTierReadReturn, found, running, src, back, going]

end

theorem exec_tierReadReturn_paused {w : Reader} {l t c stamp : Nat} (src : r.src = .unit w l t c stamp)
    (paused : (s.chan r.chan).st = .paused) : exec (.tierReadReturn i md) s = .next s := by
  change execTierReadReturn i md s = _
  simp [execTierReadReturn, found, src, paused]

end

theorem exec_tierReadReturn_unknown (unknown : s.dmc.reads.find? (fun x => x.id = i) = none) :
    exec (.tierReadReturn i md) s = .next s := by
  change execTierReadReturn i md s = _
  simp [execTierReadReturn, unknown]

theorem exec_tierReadReturn_late : exec (.tierReadReturn i .late) s = .next s := by
  change execTierReadReturn i .late s = _
  unfold execTierReadReturn
  split
  · rfl
  · simp

/-! Bytes of a lending host. -/

section
variable {x : Tag} {data : List Byte} (tagged : s.tagOf g = some x)
include tagged

theorem exec_farReadCompletion_poison {w : Reader} (use : x.use = .farFor w k n) :
    exec (.farReadCompletion g data true) s = .next (((s.dropTag g).farFails x.use .poisonConsumed).closeResume) := by
  change execFarReadCompletion g data true s = _
  simp [execFarReadCompletion, tagged, use]

theorem exec_farReadCompletion_unwanted {w : Reader} (use : x.use = .farFor w k n) (unwanted : (s.dropTag g).farWanted n = false) :
    exec (.farReadCompletion g data false) s = .next (s.dropTag g) := by
  change execFarReadCompletion g data false s = _
  simp [execFarReadCompletion, tagged, use, unwanted]

theorem exec_farReadCompletion_arrives {w : Reader} (use : x.use = .farFor w k n) (wanted : (s.dropTag g).farWanted n = true)
    (open_ : ∀ b, w ≠ .close b) :
    exec (.farReadCompletion g data false) s = .next ((s.dropTag g).farArrive n (.ok, data)) := by
  change execFarReadCompletion g data false s = _
  cases w with
  | close b => exact absurd rfl (open_ b)
  | _ => simp [execFarReadCompletion, tagged, use, wanted]

theorem exec_farReadCompletion_fetch {poison : Bool} (use : x.use = .fetch r₀ f n) :
    exec (.farReadCompletion g data poison) s = .next s := by
  change execFarReadCompletion g data poison s = _
  simp [execFarReadCompletion, tagged, use]

theorem exec_farReadCompletion_host {poison : Bool} {r : Req} (use : x.use = .farHost r) :
    exec (.farReadCompletion g data poison) s =
      .next ((s.dropTag g).readReq r false (some (if poison then .error .poisonConsumed else .ok data))) := by
  change execFarReadCompletion g data poison s = _
  simp [execFarReadCompletion, tagged, use]

end

theorem exec_farReadCompletion_unknown {data : List Byte} {poison : Bool} (untagged : s.tagOf g = none) (fresh : s.lateTag g = none) :
    exec (.farReadCompletion g data poison) s = .next s := by
  change execFarReadCompletion g data poison s = _
  simp [execFarReadCompletion, untagged, fresh]

end

/-! Compressors, ways of the directory and the Headgate. -/

section
variable {s : State}

theorem exec_writeCompressorClose (p : PortId) : exec (.writeCompressorClose p) s =
    .next (match (s.cmp.opened.filter (fun o => o.unit = p.toNat && !o.closing)).find? OpenBlk.full with
      | some o => (s.closeBlk o).closeResume
      | none => (s.makeBuffer p.toNat).closeResume) := by
  change execWriteCompressorClose p s = _
  unfold execWriteCompressorClose
  dsimp only
  cases (s.cmp.opened.filter (fun o => o.unit = p.toNat && !o.closing)).find? OpenBlk.full <;> rfl

theorem exec_directoryWaitResume_none {h : Half}
    (unready : s.shr.wayWait.find? (fun q => lineHome (lineOf q.ua) = h && s.wayReady q) = none) :
    exec (.directoryWaitResume h) s = .next s := by
  change execDirectoryWaitResume h s = _
  simp only [execDirectoryWaitResume, unready]

theorem exec_directoryWaitResume_some {h : Half} {r : Req}
    (ready : s.shr.wayWait.find? (fun q => lineHome (lineOf q.ua) = h && s.wayReady q) = some r) :
    exec (.directoryWaitResume h) s =
      .next ((s.modShr (fun x => { x with wayWait := x.wayWait.filter (fun y => y.id ≠ r.id) })).serveReq true r) := by
  change execDirectoryWaitResume h s = _
  simp only [execDirectoryWaitResume, ready]

section
variable {t : Tenant} {r : Req} {p : Nat} {e : Plot}

theorem exec_headgateAdmit : exec (.headgateAdmit t) s = .next (s.admitHeld t.toNat).2 := rfl

theorem State.admitHeld_none {n : Nat} (req : s.bestHeld n = none) (copy : s.bestCopy n = none) : s.admitHeld n = (false, s) := by
  simp only [State.admitHeld, req, copy]

theorem State.admitHeld_copy {n : Nat} (req : s.bestHeld n = none) (copy : s.bestCopy n = some (p, e)) :
    s.admitHeld n = (true, s.passCopy n p e) := by
  simp only [State.admitHeld, req, copy]

theorem State.admitHeld_req {n : Nat} (req : s.bestHeld n = some r) (copy : s.bestCopy n = none) :
    s.admitHeld n = (true, s.passReq n r) := by
  simp only [State.admitHeld, req, copy]

/-- Demand goes before movement among equal steps (R303). -/
theorem State.admitHeld_both {n : Nat} (req : s.bestHeld n = some r) (copy : s.bestCopy n = some (p, e)) :
    s.admitHeld n = (true, if s.prio n e.cls e.stamp false false > s.prio n r.cls r.stamp false false
      then s.passCopy n p e else s.passReq n r) := by
  simp only [State.admitHeld, req, copy]
  split <;> rfl

theorem State.bestHeld_single {n : Nat} (held : (s.hgOf n).held = [r]) (pass : (s.hgOf n).ask r.cls = .pass) :
    s.bestHeld n = some r := by
  simp [State.bestHeld, State.firstHeld, held, pass]

theorem State.bestCopy_of_noCopies {n : Nat} (empty : s.heldCopies n = []) : s.bestCopy n = none := by
  simp [State.bestCopy, State.firstHeld, empty]

theorem State.passReq_of_pass {n : Nat} (pass : (s.hgOf n).ask r.cls = .pass) :
    s.passReq n r = ((s.unholdReq r).modHg n (fun h => h.charge r.cls 1)).toHome r := if_pos pass

end

end

/-- Settles O24: one lemma for each row and each case of what it finds waiting. -/
theorem waitingReadsAndRequestsGoOn : Obligations.WaitingReadsAndRequestsGoOn := by
  refine ⟨?returned, ?notReturned, ?block, fun g r f n data poison x s => ⟨fun tagged use => exec_farReadCompletion_fetch tagged use,
      exec_farReadCompletion_unknown⟩, fun h s => exec_directoryWaitResume_none, ?copy, ?req, ?both,
    fun g data poison x r s tagged use => exec_farReadCompletion_host tagged use, fun p s => exec_writeCompressorClose p,
    fun h r s => exec_directoryWaitResume_some, ?lone⟩
  case returned =>
    exact fun i md r s found running back => ⟨fun q => exec_tierReadReturn_host found running back,
      fun w l t c stamp => exec_tierReadReturn_unit found running back⟩
  case notReturned =>
    rintro i md s (rfl | unknown | ⟨r, found, ended | ⟨⟨w, l, t, c, stamp, src⟩, paused⟩⟩)
    · exact exec_tierReadReturn_late
    · exact exec_tierReadReturn_unknown unknown
    · exact exec_tierReadReturn_ended found ended md
    · exact exec_tierReadReturn_paused found src paused
  case block =>
    exact fun g n k w data x s tagged use => ⟨exec_farReadCompletion_poison tagged use,
      exec_farReadCompletion_unwanted tagged use, exec_farReadCompletion_arrives tagged use⟩
  case copy =>
    exact fun t s req => ⟨fun copy => by rw [exec_headgateAdmit, State.admitHeld_none req copy],
      fun p e copy => by rw [exec_headgateAdmit, State.admitHeld_copy req copy]⟩
  case req =>
    intro t r s req copy
    rw [exec_headgateAdmit, State.admitHeld_req req copy]
  case both =>
    intro t r p e s req copy
    rw [exec_headgateAdmit, State.admitHeld_both req copy]
  case lone =>
    intro t r s held empty pass
    rw [exec_headgateAdmit, State.admitHeld_req (State.bestHeld_single held pass) (State.bestCopy_of_noCopies empty),
      State.passReq_of_pass pass]

end Sys2Proof.Machine


/-! Host requests that reach their tier, and those that end before it (R17, R56, R82, R237, R238, R283, R307, R398, R413). -/

namespace Sys2Proof.Machine

open Safety

section
variable {s : State} {p : PortId} {ld : BitVec 4} {op : ReqOp} {hpa : W64} {mv : Meta} {d : Line} {be : W64} {poison : Bool}
  {md : Media} {a : Nat}

/-- A host request as it comes to the WTT stage, of DPA a (R57, R66). -/
def State.reqAtWtt (s : State) (p : PortId) (ld : BitVec 4) (op : ReqOp) (mv : Meta) (d : Line) (be : W64) (poison : Bool)
    (md : Media) (a : Nat) : Req :=
  { id := s.nextReq, port := p.toNat, tenant := 16 * p.toNat + ld.toNat, op := op, dpa := a, mv := mv, ua := 0, cls := 0,
    enc := none, region := none, data := d, be := be, poison := poison, md := md, stamp := s.now,
    oldEpoch := (s.wttOf (16 * p.toNat + ld.toNat)).epoch, onB := (s.wttOf (16 * p.toNat + ld.toNat)).onB }

/-- The state that has numbered one request more. -/
def State.numbered (s : State) : State := { s with nextReq := s.nextReq + 1 }

/-- How a request that is refused on arrival is answered: a read with poison, another with its completion. -/
def refusal (op : ReqOp) (t : Nat) (c : Status) (l : Nat) : Msg := if op = .rd then .memPoison t c l else .memCmp t c l

theorem State.hostReq_absent (absent : s.portUp p.toNat = false ∨ (s.ld (16 * p.toNat + ld.toNat)).enumerated = false) :
    s.hostReq p ld op hpa mv d be poison md = s := by
  rcases absent with h | h <;> simp [State.hostReq, h]

section
variable (up : s.portUp p.toNat = true) (device : (s.ld (16 * p.toNat + ld.toNat)).enumerated = true)
include up device

theorem State.hostReq_insecure (ide : bit 0 (s.stw (Reg.SEC_PORT + 4 * s.headPort p.toNat)) = true)
    (open_ : (s.port (s.headPort p.toNat)).ideSecure = false) :
    s.hostReq p ld op hpa mv d be poison md = (s.cntStw (Reg.SEC_PSTAT + 4 * s.headPort p.toNat) 15 0 1).emit
      (refusal op (16 * p.toNat + ld.toNat) .permission (s.devLoad (16 * p.toNat + ld.toNat) 0)) := by
  simp only [State.hostReq, up, device, ide, open_, Bool.not_true, Bool.not_false, Bool.or_self, Bool.false_eq_true, Bool.and_self,
    if_true, if_false]
  rfl

section
variable (plain : bit 0 (s.stw (Reg.SEC_PORT + 4 * s.headPort p.toNat)) = false ∨ (s.port (s.headPort p.toNat)).ideSecure = true)
include plain

theorem State.hostReq_early (early : s.fnReady (16 * p.toNat + ld.toNat) .mem = false) :
    s.hostReq p ld op hpa mv d be poison md = (s.numbered.cntBar (16 * p.toNat + ld.toNat) Reg.BUP_EARLY 15 0 1).emit
      (refusal op (16 * p.toNat + ld.toNat) .notReady (s.numbered.devLoad (16 * p.toNat + ld.toNat) 0)) := by
  have memory : State.fnReady (16 * p.toNat + ld.toNat) .mem { s with nextReq := s.nextReq + 1 } = false := early
  rcases plain with h | h <;>
  · simp only [State.hostReq, up, device, h, memory, Bool.not_true, Bool.not_false, Bool.or_self, Bool.false_eq_true, Bool.and_false,
      Bool.false_and, if_true, if_false]
    rfl

section
variable (ready : s.fnReady (16 * p.toNat + ld.toNat) .mem = true)
include ready

theorem State.hostReq_unmapped (unmapped : (s.ld (16 * p.toNat + ld.toNat)).hdm.dpa hpa.toNat = none) :
    ∃ l z, s.hostReq p ld op hpa mv d be poison md = State.emit (refusal op (16 * p.toNat + ld.toNat) .permission l) z := by
  have memory : State.fnReady (16 * p.toNat + ld.toNat) .mem { s with nextReq := s.nextReq + 1 } = true := ready
  have decoder : Hdm.dpa (State.ld (16 * p.toNat + ld.toNat) { s with nextReq := s.nextReq + 1 }).hdm hpa.toNat = none := unmapped
  rcases plain with h | h <;>
  · simp only [State.hostReq, up, device, h, memory, decoder, Bool.not_true, Bool.or_self, Bool.false_eq_true,
      Bool.and_false, Bool.false_and, if_false]
    exact ⟨_, _, rfl⟩

section
variable (mapped : (s.ld (16 * p.toNat + ld.toNat)).hdm.dpa hpa.toNat = some a)
include mapped

theorem State.hostReq_doorbell (bell : s.dblOn (16 * p.toNat + ld.toNat) = true)
    (line : a % 2 ^ cfgWin (s.wttOf (16 * p.toNat + ld.toNat)).cfg / 64 * 64 = s.dblOff (16 * p.toNat + ld.toNat)) :
    s.hostReq p ld op hpa mv d be poison md =
      (match op with
      | .wr => s.numbered.doorbellWrite (16 * p.toNat + ld.toNat) ((s.wttOf (16 * p.toNat + ld.toNat)).translate a false).cls d be poison
      | .rd => s.numbered.doorbellRead (16 * p.toNat + ld.toNat) ((s.wttOf (16 * p.toNat + ld.toNat)).translate a false).cls
      | .inv => s.numbered.emit (.memCmp (16 * p.toNat + ld.toNat) .ok
          (s.numbered.devLoad (16 * p.toNat + ld.toNat) ((s.wttOf (16 * p.toNat + ld.toNat)).translate a false).cls))) := by
  have memory : State.fnReady (16 * p.toNat + ld.toNat) .mem { s with nextReq := s.nextReq + 1 } = true := ready
  have decoder : Hdm.dpa (State.ld (16 * p.toNat + ld.toNat) { s with nextReq := s.nextReq + 1 }).hdm hpa.toNat = some a := mapped
  have on : State.dblOn (16 * p.toNat + ld.toNat) { s with nextReq := s.nextReq + 1 } = true := bell
  have here : a % 2 ^ cfgWin (State.wttOf (16 * p.toNat + ld.toNat) { s with nextReq := s.nextReq + 1 }).cfg / 64 * 64 =
    State.dblOff (16 * p.toNat + ld.toNat) { s with nextReq := s.nextReq + 1 } := line
  rcases plain with h | h <;>
  · simp only [State.hostReq, up, device, h, memory, decoder, on, here, Bool.not_true, Bool.or_self, Bool.false_eq_true,
      Bool.and_false, Bool.false_and, if_false, Bool.and_self, decide_true, if_true]
    cases op <;> rfl

theorem State.hostReq_wtt (noBell : s.dblOn (16 * p.toNat + ld.toNat) = false) :
    s.hostReq p ld op hpa mv d be poison md = s.numbered.wttStage (s.reqAtWtt p ld op mv d be poison md a) := by
  have memory : State.fnReady (16 * p.toNat + ld.toNat) .mem { s with nextReq := s.nextReq + 1 } = true := ready
  have decoder : Hdm.dpa (State.ld (16 * p.toNat + ld.toNat) { s with nextReq := s.nextReq + 1 }).hdm hpa.toNat = some a := mapped
  have off : State.dblOn (16 * p.toNat + ld.toNat) { s with nextReq := s.nextReq + 1 } = false := noBell
  rcases plain with h | h <;>
  · simp only [State.hostReq, up, device, h, memory, decoder, off, Bool.not_true, Bool.or_self, Bool.false_eq_true,
      Bool.and_false, Bool.false_and, if_false]
    rfl

end
end
end
end

/-- What a command of a host request runs: the request of its operation, a write's with its data. -/
theorem exec_of_hostCommand {c : Instr}
    (row : (op, c) ∈ [(ReqOp.rd, Instr.hostMemRead p ld hpa mv md), (.wr, .hostMemWrite p ld hpa mv d be poison), (.inv, .hostMemInv p ld hpa mv)])
    (s : State) :
    ∃ d' be' poison' md', exec c s = .next (s.hostReq p ld op hpa mv d' be' poison' md') ∧
      (op = .wr → d' = d ∧ be' = be ∧ poison' = poison) := by
  simp only [List.mem_cons, Prod.mk.injEq, List.not_mem_nil, or_false] at row
  obtain ⟨rfl, rfl⟩ | ⟨rfl, rfl⟩ | ⟨rfl, rfl⟩ := row
  · exact ⟨_, _, _, _, rfl, fun h => by cases h⟩
  · exact ⟨_, _, _, _, rfl, fun _ => ⟨rfl, rfl, rfl⟩⟩
  · exact ⟨_, _, _, _, rfl, fun h => by cases h⟩

/-! The WTT stage and the way to the tier. -/

section
variable {r : Req}

theorem State.endReq_last (r : Req) (c : Status) (s : State) :
    ∃ l, (s.endReq r c).out.getLast? = some (refusal r.op r.tenant c l) := by
  refine ⟨(s.latency r.tenant r.cls r.stamp).devLoad r.tenant r.cls, ?_⟩
  simp only [State.endReq, State.emit, List.getLast?_append, List.getLast?_singleton, Option.some_or]
  rfl

/-- An access that the table refuses ends with PERMISSION (R60). -/
theorem State.wttStage_refused (refused : (({ s.wttOf r.tenant with onB := r.onB } : Wtt).translate r.dpa (r.op = .wr)).ent = none) :
    ∃ l, (s.wttStage r).out.getLast? = some (refusal r.op r.tenant .permission l) := by
  unfold State.wttStage
  dsimp only
  simp only [refused, Bool.false_eq_true, if_false]
  exact State.endReq_last _ _ _

/-- An unshared entry with no view over its plot takes the request to the Headgate, unclamped (R60, R279). -/
theorem State.wttStage_private {x : Xl} {e : WEnt}
    (table : ({ s.wttOf r.tenant with onB := r.onB } : Wtt).translate r.dpa (r.op = .wr) = x) (entry : x.ent = some e)
    (owned : e.shared = false) (label : x.clamped = false) (view : s.viewOf (plotOf x.ua) = none) :
    s.wttStage r = s.headgate { r with cls := x.cls, ua := x.ua, enc := e.enc, region := none } := by
  unfold State.wttStage
  dsimp only
  simp only [table, entry, owned, label, State.resolve, view, Bool.false_and, Bool.false_eq_true, if_false, Option.map_some]

theorem State.headgate_of_pass (pass : (s.hgOf r.tenant).ask r.cls = .pass) :
    s.headgate r = (s.modHg r.tenant (fun h => h.charge r.cls 1)).toHome { r with demoted := false } := by
  simp only [State.headgate, State.weirAdmit, pass]
  rfl

/-- A request reaches its home half where that is its port's own, or over a bridge that is up and does not retrain. -/
theorem State.toHome_of_reached
    (home : portHalf r.port = homeHalf (plotOf r.ua) ∨ (s.bridge.up = true ∧ s.bridge.retraining = false)) :
    s.toHome r = s.serveReq false r := by
  rcases home with h | ⟨up, still⟩
  · simp [State.toHome, h]
  · have whole : s.split = false := by simp [State.split, up]
    simp [State.toHome, whole, still]

/-- A line with nothing waiting, no entry and no shared buffer is served at its tier. -/
theorem State.serveReq_of_free (free : s.lineBusy (lineOf r.ua) = false) (buffer : s.bufferOf (plotOf r.ua) = none)
    (entryless : s.dirOf (lineOf r.ua) = none) (owned : r.region = none) : s.serveReq false r = s.tierReq r := by
  have whole : s.convertLine (lineOf r.ua) = s := by simp [State.convertLine, entryless]
  have calm : s.lineInv (lineOf r.ua) = false := by
    simp only [State.lineBusy, Bool.or_eq_false_iff] at free
    exact free.2
  simp [State.serveReq, whole, calm, free, owned, buffer]

end

/-- A request that passes is numbered, charged and served at its tier. -/
theorem State.hostReq_of_passes {wr : Bool} {x : Xl} {e : WEnt} (h : Passes s p ld hpa wr a x e) (kind : decide (op = .wr) = wr) :
    s.hostReq p ld op hpa mv d be poison md =
      (charged s (16 * p.toNat + ld.toNat) x.cls).tierReq (arriving s p ld op mv d be poison md a x e) := by
  obtain ⟨up, device, plain, ready, decoder, noBell, table, entry, owned, label, view, room, home, free, buffer, entryless, -⟩ := h
  subst kind
  calc
    _ = s.numbered.wttStage (s.reqAtWtt p ld op mv d be poison md a) :=
      State.hostReq_wtt up device (.inl plain) ready decoder noBell
    _ = s.numbered.headgate (arriving s p ld op mv d be poison md a x e) :=
      State.wttStage_private table entry owned label view
    _ = (charged s (16 * p.toNat + ld.toNat) x.cls).toHome (arriving s p ld op mv d be poison md a x e) :=
      State.headgate_of_pass (s := s.numbered) (r := arriving s p ld op mv d be poison md a x e) room
    _ = (charged s (16 * p.toNat + ld.toNat) x.cls).serveReq false (arriving s p ld op mv d be poison md a x e) :=
      State.toHome_of_reached home
    _ = _ := State.serveReq_of_free free buffer entryless rfl

end

/-- Settles O22: a request that passes goes through every stage to its tier, and each refusal is a stage's own. -/
theorem hostRequestsReachTheirTier : Obligations.HostRequestsReachTheirTier := by
  refine ⟨?read, ?write, ?invalidate, ?ends⟩
  case read =>
    intro p ld hpa mv md a x e s h
    refine congrArg Host.Outcome.next ((State.hostReq_of_passes h rfl).trans ?_)
    have reached : (charged s (16 * p.toNat + ld.toNat) x.cls).farHeld (plotOf x.ua) = false := h.reached
    simp [State.tierReq, arriving, reached]
  case write =>
    intro p ld hpa mv d be poison a x e s h
    refine congrArg Host.Outcome.next ((State.hostReq_of_passes h rfl).trans ?_)
    have reached : (charged s (16 * p.toNat + ld.toNat) x.cls).farHeld (plotOf x.ua) = false := h.reached
    simp [State.tierReq, arriving, reached]
  case invalidate =>
    intro p ld hpa mv a x e s h
    exact congrArg Host.Outcome.next ((State.hostReq_of_passes h rfl).trans (by simp [State.tierReq, arriving]))
  case ends =>
    rintro p ld hpa mv md d be poison op c t s u rfl rfl row
    obtain ⟨d', be', poison', md', run, same⟩ := exec_of_hostCommand row s
    rw [run]
    refine ⟨fun absent => by rw [State.hostReq_absent absent], fun up device => ⟨fun ide open_ => by
      rw [State.hostReq_insecure up device ide open_]; rfl, fun plain => ⟨fun early => by
      rw [State.hostReq_early up device plain early]; rfl, fun ready unmapped => ?_, fun ready a mapped => ⟨?bell, ?table⟩⟩⟩⟩
    · obtain ⟨l, z, h⟩ := State.hostReq_unmapped (op := op) (mv := mv) (d := d') (be := be') (poison := poison') (md := md')
        up device plain ready unmapped
      exact ⟨_, run.trans (congrArg Host.Outcome.next h), l, by simp [State.emit, refusal]⟩
    case bell =>
      rintro bell line k rfl
      rw [State.hostReq_doorbell up device plain ready mapped bell line]
      refine ⟨?_, ?_, ?_⟩
      · rintro rfl; rfl
      · rintro rfl
        obtain ⟨rfl, rfl, rfl⟩ := same rfl
        rfl
      · rintro rfl; rfl
    case table =>
      intro noBell refused
      refine ⟨_, run.trans (congrArg Host.Outcome.next (State.hostReq_wtt up device plain ready mapped noBell)), ?_⟩
      exact State.wttStage_refused (s := s.numbered) (r := s.reqAtWtt p ld op mv d' be' poison' md' a) refused

end Sys2Proof.Machine


/-! The store of a raw line (R79, R131, R329, R370). -/

namespace Sys2Proof.Machine

open Safety

/-! The bytes of a line, and a line of the sparse store. -/

@[simp] theorem leBytes_length (n v : Nat) : (leBytes n v).length = n := by
  induction n generalizing v with
  | zero => rfl
  | succ n ih => simp [leBytes, ih]

theorem leNat_leBytes (n v : Nat) : leNat (leBytes n v) = v % 256 ^ n := by
  induction n generalizing v with
  | zero => simp [leBytes, leNat, Nat.mod_one]
  | succ n ih =>
    have byte : (BitVec.ofNat 8 v).toNat = v % 256 := BitVec.toNat_ofNat _ _
    rw [leBytes, leNat, ih, byte, Nat.pow_succ, Nat.mul_comm (256 ^ n), Nat.mod_mul]

@[simp] theorem bytesLine_lineBytes (l : Line) : bytesLine (lineBytes l) = l := by
  apply BitVec.eq_of_toNat_eq
  rw [bytesLine, lineBytes, leNat_leBytes, BitVec.toNat_ofNat]
  have := l.isLt
  omega

@[simp] theorem lineBytes_length (l : Line) : (lineBytes l).length = 64 := leBytes_length _ _

theorem mread_mwrite_line (l : Nat) (v : Line) (m : Mem) : mread (64 * l) 64 (mwrite (64 * l) (lineBytes v) m) = lineBytes v := by
  have h := mread_mwrite (lineBytes v) (64 * l) m
  rwa [lineBytes_length] at h

theorem mget_mwrite_line_other {l b : Nat} (v : Line) (m : Mem) (h : b / 64 ≠ l) : mget b (mwrite (64 * l) (lineBytes v) m) = mget b m := by
  rcases Nat.lt_or_gt_of_ne h with h | h
  · exact mget_mwrite_below _ _ _ _ (by omega)
  · exact mget_mwrite_above _ _ _ _ (by simp; omega)

/-- Plot, block and sector of a UA give its line. -/
theorem lineOf_eq (ua : Nat) : plotOf ua * 1024 + blockOf ua * 64 + sectorOf ua = lineOf ua := by
  simp only [plotOf, blockOf, sectorOf, lineOf]
  omega

/-! What the store of the bytes of memory is. -/

/-- Two states hold the same bytes of memory, under the same keys, in the same written lines. -/
structure SameBytes (s t : State) : Prop where
  mem : t.tier.mem = s.tier.mem
  keys : t.tier.keyTag = s.tier.keyTag
  written : t.tier.written = s.tier.written

section
variable {s t u : State}

theorem SameBytes.refl (s : State) : SameBytes s s := ⟨rfl, rfl, rfl⟩

theorem SameBytes.trans (h : SameBytes s t) (g : SameBytes t u) : SameBytes s u :=
  ⟨g.mem.trans h.mem, g.keys.trans h.keys, g.written.trans h.written⟩

theorem SameBytes.of_tier (h : t.tier = s.tier) : SameBytes s t := ⟨by rw [h], by rw [h], by rw [h]⟩

theorem SameBytes.ite {c : Prop} [Decidable c] (h : SameBytes s t) (g : SameBytes s u) : SameBytes s (if c then t else u) := by
  split
  · exact h
  · exact g

theorem SameBytes.rawLine (h : SameBytes s t) (kv : BitVec 512) (l : Nat) : t.rawLine kv l = s.rawLine kv l := by
  rw [State.rawLine, State.rawLine, h.mem, h.keys]

variable (s)

theorem State.mediumAt_sameBytes (r : Rd) (p : Nat) (e : Plot) (offs : List Nat) (ua : Nat) (poisoned : Bool) :
    SameBytes s (s.mediumAt r p e offs ua poisoned).2 :=
  .of_tier ((State.mediumAt_only r p e offs ua poisoned (Inside.refl _) (Only.refl _ s)).tier rfl)

theorem State.setPoison_sameBytes (e : Plot) (keys : List Nat) (v : Bool) : SameBytes s (s.setPoison e keys v) := by
  unfold State.setPoison
  dsimp only
  split <;> exact ⟨rfl, rfl, rfl⟩

theorem State.sendLine_sameBytes (p : Nat) (e : Plot) (off : Nat) (b : List Byte) : SameBytes s (s.sendLine p e off b) :=
  .of_tier ((State.sendLine_only p e off b (Inside.refl _) (Only.refl _ s)).tier rfl)

theorem State.setPlot_sameBytes (p : Nat) (e : Plot) : SameBytes s (s.setPlot p e) := ⟨rfl, rfl, rfl⟩

theorem State.dmaRead_sameBytes (t : Nat) (use : DmaUse) (addr : W64) (len : Nat) : SameBytes s (s.dmaRead t use addr len) :=
  .of_tier ((State.dmaRead_only t use addr len (Inside.refl _) (Only.refl _ s)).tier rfl)

theorem State.farFetch_sameBytes (who : Reader) (key lender : Nat) (addr : W64) (len : Nat) :
    SameBytes s (s.farFetch who key lender addr len) := by
  unfold State.farFetch
  split
  · exact .refl s
  · refine SameBytes.trans ?_ (State.dmaRead_sameBytes _ _ _ _ _)
    exact ⟨rfl, rfl, rfl⟩

theorem State.readNext_sameBytes (p : Nat) : SameBytes s (s.readNext p) := by
  unfold State.readNext
  split
  · split
    · split
      · exact s.farFetch_sameBytes _ _ _ _ _
      · exact .refl s
    · exact .refl s
  · exact .refl s

theorem State.touchWrite_sameBytes (p j : Nat) : SameBytes s (s.touchWrite p j) := by
  unfold State.touchWrite
  split
  · exact .refl s
  · split
    case h_4 =>
      dsimp only
      split
      · refine SameBytes.trans ?_ (State.readNext_sameBytes _ p)
        exact ⟨rfl, rfl, rfl⟩
      · exact s.setPlot_sameBytes _ _
    case h_5 => split <;> exact s.setPlot_sameBytes _ _
    all_goals first | exact s.setPlot_sameBytes _ _ | exact .refl s

end

/-! The store itself. -/

section
variable {s : State}

/-- Line l holds v under key kv and is written, and besides it the bytes of memory and the written lines are those of s. -/
structure Stored (s t : State) (kv : BitVec 512) (l : Nat) (v : Line) : Prop where
  line : t.rawLine kv l = v
  done : nmem l t.tier.written = true
  bytes : ∀ b, b / 64 ≠ l → mget b t.tier.mem = mget b s.tier.mem
  lines : ∀ k, k ≠ l → nmem k t.tier.written = nmem k s.tier.written

theorem Stored.after {s r t u : State} {kv : BitVec 512} {l : Nat} {v : Line} (h : Stored r t kv l v) (before : SameBytes s r)
    (after : SameBytes t u) : Stored s u kv l v where
  line := (after.rawLine kv l).trans h.line
  done := by rw [after.written, h.done]
  bytes b hb := by rw [after.mem, h.bytes b hb, before.mem]
  lines k hk := by rw [after.written, h.lines k hk, before.written]

/-- The bytes that a raw write puts in its line. -/
def State.rawValue (kv : BitVec 512) (l : Nat) (d : Line) (be : W64) (s : State) : Line :=
  if be = fullBe then d else mergeLine (if nmem l s.tier.written then s.rawLine kv l else 0#512) d be

/-- What a raw write puts into the store: the line's bytes, their key, and the line among the written ones. -/
def State.putRaw (kv : BitVec 512) (l : Nat) (v : Line) (s : State) : State :=
  s.modTier (fun t => { t with mem := mwrite (64 * l) (lineBytes v) t.mem, keyTag := tset 0#512 l kv t.keyTag })

theorem State.rawLine_putRaw (kv : BitVec 512) (l : Nat) (v : Line) (s : State) : (s.putRaw kv l v).rawLine kv l = v := by
  have key : tget 0#512 l (s.putRaw kv l v).tier.keyTag = kv := tget_tset_same _ _ _ _
  have bytes : mread (64 * l) 64 (s.putRaw kv l v).tier.mem = lineBytes v := mread_mwrite_line l v _
  simp [State.rawLine, key, bytes]

/-- What follows the bytes of a raw write: its line's poison, the message or queue entry of the write, its row of Table TIR-5. -/
theorem Stored.of_putRaw {kv : BitVec 512} {l : Nat} {v : Line} {r u : State} (poisoned : SameBytes (s.putRaw kv l v) u)
    (sent : SameBytes u r) (p j : Nat) : Stored s ((r.markWritten l).touchWrite p j) kv l v := by
  have kept : SameBytes (s.putRaw kv l v) r := poisoned.trans sent
  have marked : Stored s (r.markWritten l) kv l v :=
    { line := (kept.rawLine kv l).trans (State.rawLine_putRaw kv l v s)
      done := by simp [State.markWritten, State.modTier]
      bytes b hb := by
        have h : mget b r.tier.mem = mget b s.tier.mem := by rw [kept.mem]; exact mget_mwrite_line_other v _ hb
        exact h
      lines k hk := by
        have h : r.tier.written = s.tier.written := kept.written
        simp [State.markWritten, State.modTier, hk, h] }
  exact marked.after (.refl s) (State.touchWrite_sameBytes _ p j)

theorem State.writeRaw_stored (t p : Nat) (e : Plot) (j i : Nat) (kv : BitVec 512) (d : Line) (be : W64) (poison : Bool) :
    Stored s (s.writeRaw t p e j i kv d be poison) kv (p * 1024 + j * 64 + i)
      (s.rawValue kv (p * 1024 + j * 64 + i) d be) := by
  generalize line : p * 1024 + j * 64 + i = l
  by_cases whole : be = fullBe ∨ nmem l s.tier.written = false
  · have value : s.rawValue kv l d be = if be = fullBe then d else mergeLine 0#512 d be := by
      rcases whole with h | h <;> simp [State.rawValue, h]
    have all : (decide (be = fullBe) || !nmem l s.tier.written) = true := by simpa using whole
    simp only [State.writeRaw, line, all, if_true, value]
    exact Stored.of_putRaw (.ite (State.setPoison_sameBytes _ _ _ _) (State.setPoison_sameBytes _ _ _ _))
      (State.sendLine_sameBytes _ _ _ _ _) p j
  · obtain ⟨part, old⟩ : be ≠ fullBe ∧ nmem l s.tier.written = true := by simpa using whole
    simp only [State.writeRaw, line, part, old, decide_false, Bool.not_true, Bool.or_self, Bool.false_eq_true, if_false]
    have read := s.mediumAt_sameBytes { x := 0, t := t } p e [4096 * j + 64 * i] (64 * l) (s.curPoison e (p * 8192 + 64 * j + i))
    rw [read.rawLine]
    have value : s.rawValue kv l d be = mergeLine (s.rawLine kv l) d be := by simp [State.rawValue, part, old]
    rw [value]
    exact Stored.after (Stored.of_putRaw (.ite (State.setPoison_sameBytes _ _ _ _) (.refl _))
      (State.sendLine_sameBytes _ _ _ _ _) p j) read (.refl _)

theorem State.invalidate_sameBytes (b : Nat) (s : State) : SameBytes s (s.invalidate b) := ⟨rfl, rfl, rfl⟩

end

/-- Settles O23: the write is the store of one line between steps that leave the bytes of memory alone. -/
theorem rawLineWritesStoreExactlyTheirBytes : Obligations.RawLineWritesStoreExactlyTheirBytes := by
  intro u t enc ua d be poison e s noSwin here raw near key reached
  have clean := State.invalidate_sameBytes (16 * plotOf ua + blockOf ua) s
  have run : s.writeLine u t enc ua d be poison = (.ok, (s.invalidate (16 * plotOf ua + blockOf ua)).writeRaw t (plotOf ua) e
      (blockOf ua) (sectorOf ua) (s.keyVal enc) d be poison) := by
    have same : (s.invalidate (16 * plotOf ua + blockOf ua)).keyVal enc = s.keyVal enc := by
      cases enc <;> rfl
    simp [State.writeLine, noSwin, here, raw, near, key, reached, same]
  have stored := (State.writeRaw_stored (s := s.invalidate (16 * plotOf ua + blockOf ua)) t (plotOf ua) e (blockOf ua) (sectorOf ua)
    (s.keyVal enc) d be poison).after clean (.refl _)
  rw [lineOf_eq] at stored
  have value : (s.invalidate (16 * plotOf ua + blockOf ua)).rawValue (s.keyVal enc) (lineOf ua) d be =
      s.rawValue (s.keyVal enc) (lineOf ua) d be := by
    rw [State.rawValue, State.rawValue, clean.rawLine, clean.written]
  rw [value] at stored
  rw [run]
  exact ⟨rfl, stored.line, stored.done, stored.bytes, stored.lines⟩

end Sys2Proof.Machine


namespace Sys2Proof.Machine

open Safety

/-- A steward register reads v. -/
def StwIs (off : Nat) (v : W32) (s : State) : Prop := s.stw off = v

/-- A steward register that counts no error of a medium and no admission, and is not the alert. -/
structure Uncounted (off : Nat) : Prop where
  alert : off ≠ Reg.PWM_ALERT
  shadow : ∀ h, off ≠ Reg.HGT_SSTAT + 4 * halfIdx h
  media : ∀ c, off ≠ beRegOf c

section
variable {off : Nat} {w : W32} {s t : State}

theorem StwIs.of_only {m : Nat} (only : Only m s t) (hm : m.testBit 4 = false) (h : StwIs off w s) : StwIs off w t :=
  (only.stw hm off).trans h

theorem StwIs.ite {c : Prop} [Decidable c] (h : StwIs off w s) (g : StwIs off w t) : StwIs off w (if c then s else t) := by
  split
  · exact h
  · exact g

theorem StwIs.forAll {α : Type} {f : α → State → State} (turn : ∀ a s, StwIs off w s → StwIs off w (f a s)) (l : List α) {s : State}
    (h : StwIs off w s) : StwIs off w (forAll l f s) :=
  forAll_keeps l (fun a _ => turn a) h

theorem StwIs.snd {α : Type} {p : α × State} {a : α} (is : p = (a, t)) (h : StwIs off w p.2) : StwIs off w t := by
  rw [is] at h
  exact h

theorem State.modStw_stwIs {o : Nat} (other : off ≠ o) (f : W32 → W32) (h : StwIs off w s) : StwIs off w (s.modStw o f) :=
  (State.stw_modStw_other f other).trans h

theorem State.cntStw_stwIs {o hi lo n : Nat} (other : off ≠ o) (h : StwIs off w s) : StwIs off w (s.cntStw o hi lo n) :=
  (State.stw_modStw_other _ other).trans h

theorem State.modBar_stwIs {u o : Nat} {f : W32 → W32} (h : StwIs off w s) : StwIs off w (s.modBar u o f) := h

theorem State.cntBar_stwIs {u o hi lo n : Nat} (h : StwIs off w s) : StwIs off w (s.cntBar u o hi lo n) := h

section
variable (hu : Uncounted off)
include hu

theorem State.shadowAdmit_stwIs (h : Half) (keeps : StwIs off w s) :
    StwIs off w (State.shadowAdmit h s) :=
  State.cntStw_stwIs (hu.shadow h) keeps

omit hu in
theorem State.heldMark_stwIs (t c n : Nat) (keeps : StwIs off w s) :
    StwIs off w (State.heldMark t c n s) := by
  unfold State.heldMark
  with_reducible repeat' first
    | assumption | intro _ | apply StwIs.ite | apply State.cntBar_stwIs
    | (refine StwIs.of_only (State.modHg_only (hF := Inside.refl _) (hK := Only.refl _ _) ..) rfl ?_)

omit hu in
theorem State.weirAdmit_stwIs (t c units : Nat) (keeps : StwIs off w s) :
    StwIs off w (State.weirAdmit t c units s).2 := by
  unfold State.weirAdmit
  with_reducible repeat' first
    | assumption | intro _ | (refine StwIs.of_only (State.modHg_only (hF := Inside.refl _) (hK := Only.refl _ _) ..) rfl ?_)
    | apply State.heldMark_stwIs | dsimp only | split

theorem State.admitCopy_stwIs (p : Nat) (keeps : StwIs off w s) :
    StwIs off w (State.admitCopy p s) := by
  unfold State.admitCopy
  with_reducible repeat' first
    | assumption | intro _ | apply StwIs.ite
    | (refine StwIs.of_only (State.setPlot_only (hF := Inside.refl _) (hK := Only.refl _ _) ..) rfl ?_)
    | apply State.shadowAdmit_stwIs hu | apply State.weirAdmit_stwIs | (refine StwIs.snd (by assumption) ?_)
    | (refine StwIs.of_only (State.modPlot_only (hF := Inside.refl _) (hK := Only.refl _ _) ..) rfl ?_) | dsimp only | split

theorem State.startFarMove_stwIs (p l cls mover : Nat) (free : Bool) (keeps : StwIs off w s) :
    InOption (StwIs off w) (State.startFarMove p l cls mover free s) := by
  unfold State.startFarMove
  with_reducible repeat' first
    | assumption | intro _ | apply InOption.some | apply InOption.none | apply InOption.ite
    | (refine StwIs.of_only (State.tickFree_only (hF := Inside.refl _) (hK := Only.refl _ _) ..) rfl ?_)
    | (refine StwIs.of_only (State.setPlot_only (hF := Inside.refl _) (hK := Only.refl _ _) ..) rfl ?_)
    | apply State.admitCopy_stwIs hu | dsimp only | split

theorem State.wantFar_stwIs (p cls mover : Nat) (keeps : StwIs off w s) :
    StwIs off w (State.wantFar p cls mover s) := by
  unfold State.wantFar
  with_reducible repeat' first
    | assumption | intro _ | apply StwIs.ite | apply InOption.getD
    | (refine StwIs.of_only (State.setPlot_only (hF := Inside.refl _) (hK := Only.refl _ _) ..) rfl ?_)
    | apply State.startFarMove_stwIs hu | dsimp only | split

theorem State.takeWish_stwIs (p : Nat) (keeps : StwIs off w s) :
    StwIs off w (State.takeWish p s) := by
  unfold State.takeWish
  with_reducible repeat' first
    | assumption | intro _ | apply StwIs.ite | apply State.wantFar_stwIs hu
    | (refine StwIs.of_only (State.setPlot_only (hF := Inside.refl _) (hK := Only.refl _ _) ..) rfl ?_) | dsimp only | split

theorem State.leaveNear_stwIs (p cls mover : Nat) (free : Bool) (keeps : StwIs off w s) :
    StwIs off w (State.leaveNear p cls mover free s) := by
  unfold State.leaveNear
  with_reducible repeat' first
    | assumption | intro _ | apply StwIs.ite
    | (refine StwIs.of_only (State.setPlot_only (hF := Inside.refl _) (hK := Only.refl _ _) ..) rfl ?_)
    | (refine StwIs.of_only (State.freeNear_only (hF := Inside.refl _) (hK := Only.refl _ _) ..) rfl ?_)
    | apply State.takeWish_stwIs hu | apply State.admitCopy_stwIs hu | dsimp only | split

theorem State.endCancel_stwIs (p : Nat) (keeps : StwIs off w s) :
    StwIs off w (State.endCancel p s) := by
  unfold State.endCancel
  with_reducible repeat' first
    | assumption | intro _
    | (refine StwIs.of_only (State.setPlot_only (hF := Inside.refl _) (hK := Only.refl _ _) ..) rfl ?_)
    | apply State.leaveNear_stwIs hu | dsimp only | split

theorem State.cancelMove_stwIs (p : Nat) (keeps : StwIs off w s) :
    StwIs off w (State.cancelMove p s) := by
  unfold State.cancelMove
  with_reducible repeat' first
    | assumption | intro _ | apply StwIs.ite
    | (refine StwIs.of_only (State.setPlot_only (hF := Inside.refl _) (hK := Only.refl _ _) ..) rfl ?_)
    | (refine StwIs.of_only (State.cancelFarMove_only (hF := Inside.refl _) (hK := Only.refl _ _) ..) rfl ?_)
    | apply State.endCancel_stwIs hu | dsimp only | split

omit hu in
theorem State.latency_stwIs (t c stamp : Nat) (keeps : StwIs off w s) :
    StwIs off w (State.latency t c stamp s) := by
  unfold State.latency
  with_reducible repeat' first
    | assumption | intro _ | apply StwIs.ite | apply State.modBar_stwIs | apply State.cntBar_stwIs
    | (refine StwIs.of_only (State.modHg_only (hF := Inside.refl _) (hK := Only.refl _ _) ..) rfl ?_)

omit hu in
theorem State.endReq_stwIs (r : Req) (c : Status) (keeps : StwIs off w s) :
    StwIs off w (State.endReq r c s) :=
  State.latency_stwIs r.tenant r.cls r.stamp keeps

omit hu in
theorem State.failTierReads_stwIs (ps : List Nat) (keeps : StwIs off w s) :
    StwIs off w (State.failTierReads ps s) :=
  StwIs.forAll (fun r _ h => State.endReq_stwIs r _ h) _ keeps

theorem State.alert_stwIs (b : Nat) (keeps : StwIs off w s) :
    StwIs off w (State.alert b s) :=
  State.modStw_stwIs hu.alert _ keeps

theorem State.logRec_stwIs (r : Rec) (keeps : StwIs off w s) :
    StwIs off w (State.logRec r s) := by
  unfold State.logRec
  with_reducible repeat' first
    | assumption | intro _ | apply StwIs.ite
    | (refine StwIs.of_only (State.moduleLog_only (hF := Inside.refl _) (hK := Only.refl _ _) ..) rfl ?_)
    | apply State.alert_stwIs hu
    | (refine StwIs.of_only (State.tenantLog_only (hF := Inside.refl _) (hK := Only.refl _ _) ..) rfl ?_) | dsimp only
    | split

theorem State.firingDone_stwIs (cal cur : Nat) (tr : Track) (keeps : StwIs off w s) :
    StwIs off w (State.firingDone cal cur tr s) := by
  unfold State.firingDone
  with_reducible repeat' first
    | assumption | intro _ | apply StwIs.ite
    | (refine StwIs.of_only (State.modCursor_only (hF := Inside.refl _) (hK := Only.refl _ _) ..) rfl ?_)
    | apply State.logRec_stwIs hu | dsimp only | split

theorem State.trackSettle_stwIs (cal cur p : Nat) (copied staged : Nat → Bool) (keeps : StwIs off w s) :
    StwIs off w (State.trackSettle cal cur p copied staged s) := by
  unfold State.trackSettle
  with_reducible repeat' first
    | assumption | intro _ | apply StwIs.forAll
    | (refine StwIs.of_only (State.modCursor_only (hF := Inside.refl _) (hK := Only.refl _ _) ..) rfl ?_)
    | apply State.firingDone_stwIs hu | dsimp only | split

theorem State.settle_stwIs (p : Nat) (keeps : StwIs off w s) :
    StwIs off w (State.settle p s) :=
  StwIs.forAll (fun c _ h => StwIs.forAll (fun cur _ h => State.trackSettle_stwIs hu c.1 cur p _ _ h) _ h) _ keeps

theorem State.abandonPromotion_stwIs (p : Nat) (keeps : StwIs off w s) :
    StwIs off w (State.abandonPromotion p s) := by
  unfold State.abandonPromotion
  split
  · refine StwIs.ite (State.settle_stwIs hu p (State.takeWish_stwIs hu p ?_)) keeps
    exact StwIs.of_only (State.freeNear_only p (Inside.refl _) (Only.refl _ _)) rfl
      (StwIs.of_only (State.farDrop_only (.move p) (Inside.refl _) (Only.refl _ s)) rfl keeps)
  · exact keeps

omit hu in
theorem State.setPoison_stwIs (e : Plot) (keys : List Nat) (b : Bool) (keeps : StwIs off w s) :
    StwIs off w (s.setPoison e keys b) :=
  StwIs.of_only (State.setPoison_only e keys b (Inside.refl _) (Only.refl _ s)) rfl keeps

theorem State.storeFoot_stwIs (b : Nat) (v : List Byte) (bad : NSet) (keeps : StwIs off w s) :
    StwIs off w (State.storeFoot b v bad s) := by
  unfold State.storeFoot
  dsimp only
  split
  · exact keeps
  · refine StwIs.of_only (State.touchWrite_only _ _ (Inside.refl _) (Only.refl _ _)) rfl
      (StwIs.of_only (State.sendLine_only _ _ _ _ (Inside.refl _) (Only.refl _ _)) rfl ?_)
    refine StwIs.ite ?_ (State.logRec_stwIs hu _ (State.cntBar_stwIs ?_))
    all_goals
      split
      · exact State.setPoison_stwIs _ _ _ keeps
      · exact State.setPoison_stwIs _ _ _ (State.setPoison_stwIs _ _ _ keeps)

theorem State.uncorrectedRead_stwIs (d : DLoc) (keeps : StwIs off w s) :
    StwIs off w (State.uncorrectedRead d s) := by
  unfold State.uncorrectedRead
  with_reducible repeat' first
    | assumption | intro _ | apply StwIs.ite | (refine State.cntStw_stwIs (hu.media _) ?_)
    | (refine StwIs.of_only (State.modRank_only (hF := Inside.refl _) (hK := Only.refl _ _) ..) rfl ?_) | dsimp only | split

theorem State.correctedRead_stwIs (d : DLoc) (loc : Nat) (keeps : StwIs off w s) :
    StwIs off w (State.correctedRead d loc s) := by
  unfold State.correctedRead
  with_reducible repeat' first
    | assumption | intro _ | apply StwIs.ite | (refine State.cntStw_stwIs (hu.media _) ?_)
    | (refine StwIs.of_only (State.modChan_only (hF := Inside.refl _) (hK := Only.refl _ _) ..) rfl ?_)
    | (refine StwIs.of_only (State.setRank_only (hF := Inside.refl _) (hK := Only.refl _ _) ..) rfl ?_)
    | apply State.logRec_stwIs hu
    | (refine StwIs.of_only (State.fmStd_only (hF := Inside.refl _) (hK := Only.refl _ _) ..) rfl ?_) | dsimp only | split

theorem State.mediaRead_stwIs (d : DLoc) (ua : Nat) (tenant : Option Nat) (host poisoned : Bool) (keeps : StwIs off w s) :
    StwIs off w (State.mediaRead d ua tenant host poisoned s).2 := by
  unfold State.mediaRead
  with_reducible repeat' first
    | assumption | intro _ | apply StwIs.ite | apply State.correctedRead_stwIs hu | apply State.uncorrectedRead_stwIs hu
    | apply State.logRec_stwIs hu
    | (refine StwIs.of_only (State.tenantLog_only (hF := Inside.refl _) (hK := Only.refl _ _) ..) rfl ?_) | dsimp only
    | split

theorem State.mergeReads_stwIs (p : Nat) (e : Plot) (j : Nat) (keeps : StwIs off w s) :
    StwIs off w (State.mergeReads p e j s) := by
  unfold State.mergeReads
  with_reducible repeat' first
    | assumption | intro _ | apply StwIs.ite | apply StwIs.forAll | apply State.mediaRead_stwIs hu | dsimp only | split

theorem State.blockFail_stwIs (t row b : Nat) (x : Xp) (st : Status) (keeps : StwIs off w s) :
    StwIs off w (State.blockFail t row b x st s) := by
  unfold State.blockFail
  with_reducible repeat' first
    | assumption | intro _ | (refine StwIs.of_only (State.modCmp_only (hF := Inside.refl _) (hK := Only.refl _ _) ..) rfl ?_)
    | apply State.cntBar_stwIs | apply State.logRec_stwIs hu | dsimp only | split

theorem State.mergeBase_stwIs (b : Nat) (e : Plot) (st : List Byte) (keeps : StwIs off w s) :
    StwIs off w (State.mergeBase b e st s).2.2 := by
  unfold State.mergeBase
  with_reducible repeat' first
    | assumption | intro _ | apply State.mergeReads_stwIs hu | apply State.blockFail_stwIs hu | dsimp only | split

theorem State.closeWith_stwIs (o : OpenBlk) (st : List Byte) (keeps : StwIs off w s) :
    StwIs off w (State.closeWith o st s) := by
  unfold State.closeWith
  split
  · exact keeps
  · dsimp only
    refine State.storeFoot_stwIs hu _ _ _ (StwIs.of_only (State.invalidate_only (hF := Inside.refl _) (hK := Only.refl _ _) ..) rfl ?_)
    split
    · exact keeps
    · exact State.mergeBase_stwIs hu _ _ _ keeps

theorem State.closeBlk_stwIs (o : OpenBlk) (keeps : StwIs off w s) :
    StwIs off w (State.closeBlk o s) := by
  unfold State.closeBlk
  with_reducible repeat' first
    | assumption | intro _ | apply StwIs.ite
    | (refine StwIs.of_only (State.dropOpen_only (hF := Inside.refl _) (hK := Only.refl _ _) ..) rfl ?_)
    | (refine StwIs.of_only (State.farDrop_only (hF := Inside.refl _) (hK := Only.refl _ _) ..) rfl ?_)
    | apply State.closeWith_stwIs hu
    | (refine StwIs.of_only (State.modCmp_only (hF := Inside.refl _) (hK := Only.refl _ _) ..) rfl ?_)
    | (refine StwIs.of_only (State.farFetch_only (hF := Inside.refl _) (hK := Only.refl _ _) ..) rfl ?_) | dsimp only | split

theorem State.reqRecord_stwIs (r : Req) (loc why : Nat) (st : Status) (keeps : StwIs off w s) :
    StwIs off w (State.reqRecord r loc why st s) :=
  State.logRec_stwIs hu _ keeps

theorem State.endTimeout_stwIs (r : Req) (keeps : StwIs off w s) :
    StwIs off w (State.endTimeout r s) :=
  State.endReq_stwIs r .timeout (State.reqRecord_stwIs hu r (locUa r.ua) 1 .timeout keeps)

theorem State.farFails_stwIs (u : DmaUse) (c : Status) (keeps : StwIs off w s) :
    StwIs off w (State.farFails u c s) := by
  unfold State.farFails
  with_reducible repeat' first
    | assumption | intro _ | apply StwIs.ite | apply State.endTimeout_stwIs hu | apply State.endReq_stwIs
    | (refine StwIs.of_only (State.farArrive_only (hF := Inside.refl _) (hK := Only.refl _ _) ..) rfl ?_)
    | apply State.closeBlk_stwIs hu | apply State.abandonPromotion_stwIs hu | dsimp only | split

theorem State.failReadsOf_stwIs (t : Nat) (d : DmaUse → Bool) (c : Status) (keeps : StwIs off w s) :
    StwIs off w (State.failReadsOf t d c s) :=
  StwIs.forAll (fun u _ h => State.farFails_stwIs hu u c h) _ keeps

end
end

end Sys2Proof.Machine


/-! Completion timeouts, tag quarantine and the Far extents (R53, R100, R101). -/

namespace Sys2Proof.Machine

open Safety

section
variable {g : Nat} {x : Tag} {s : State}

/-! Timeouts and error completions. -/

theorem exec_completionTimeout (tagged : s.tagOf g = some x) :
    exec (.completionTimeout g) s =
      .next (match x.use with
        | .fetch r first cnt => (tagTimedOut s g x).fetchEnds x.tenant r first cnt (.error 1)
        | u => ((tagTimedOut s g x).farFails u .timeout).asgnResume.closeResume) := by
  change execCompletionTimeout g s = _
  have pending : s.pendingRead g = some (x.tenant, x.use) := by simp [State.pendingRead, tagged]
  simp only [execCompletionTimeout, pending, tagged]
  rfl

theorem exec_completionTimeout_unknown (idle : s.pendingRead g = none) : exec (.completionTimeout g) s = .next s := by
  change execCompletionTimeout g s = _
  simp only [execCompletionTimeout, idle]

theorem exec_farDmaErrorCompletion_fetch {r f n : Nat} (tagged : s.tagOf g = some x) (use : x.use = .fetch r f n) :
    exec (.farDmaErrorCompletion g) s = .next s := by
  change execFarDmaErrorCompletion g s = _
  simp only [execFarDmaErrorCompletion, tagged, use]

theorem exec_farDmaErrorCompletion_unknown (untagged : s.tagOf g = none) (fresh : s.lateTag g = none) :
    exec (.farDmaErrorCompletion g) s = .next s := by
  change execFarDmaErrorCompletion g s = _
  simp only [execFarDmaErrorCompletion, untagged, fresh]

theorem exec_farDmaErrorCompletion_far (tagged : s.tagOf g = some x) (far : usePlot x.use ≠ none) :
    exec (.farDmaErrorCompletion g) s =
      .next (State.closeResume (match (s.loseExtent x.tenant 1).asgnResume.tagOf g with
        | some y => ((s.loseExtent x.tenant 1).asgnResume.dropTag g).farFails y.use .farLost
        | none => (s.loseExtent x.tenant 1).asgnResume)) := by
  change execFarDmaErrorCompletion g s = _
  unfold execFarDmaErrorCompletion
  rw [tagged]
  dsimp only
  cases use : x.use with
  | fetch r f n => simp [use, usePlot] at far
  | farHost r => rfl
  | farFor w k n => rfl

end

/-! An extent is enabled or disabled. -/

section
variable {u : Tenant} {s : State}

theorem exec_farEnable_off (off : s.farEnabled u.toNat = false) :
    exec (.farEnable u) s = .next (s.modStw (Reg.TIR_FAR_CTL + 4 * u.toNat)
      (if s.farBase u.toNat % 65536 = 0 ∧
          (((List.range 256).filter (fun k => k ≠ u.toNat && s.farEnabled k)).map (fun k => s.farSize k)).sum + s.farSize u.toNat
            ≤ 1073741824 then fun w => setBit 31 true (setBit 30 false w)
        else setBit 28 true)) := by
  change execFarEnable u s = _
  generalize sum : (((List.range 256).filter (fun k => k ≠ u.toNat && s.farEnabled k)).map (fun k => s.farSize k)).sum = n
  simp only [execFarEnable, off, sum, Bool.false_eq_true, if_false]
  by_cases ok : s.farBase u.toNat % 65536 = 0 ∧ n + s.farSize u.toNat ≤ 1073741824
  · have room := ok.2
    simp [ok.1, room]
  · have refuse : (decide (s.farBase u.toNat % 65536 ≠ 0) || decide (n + s.farSize u.toNat > 1073741824)) = true := by
      simp; omega
    simp only [refuse, if_true, if_neg ok]

theorem exec_farEnable_on (on : s.farEnabled u.toNat = true) : exec (.farEnable u) s = .next s := by
  change execFarEnable u s = _
  simp only [execFarEnable, on, if_true]

theorem exec_farDisable (u : Tenant) (s : State) :
    exec (.farDisable u) s = .next (if s.farBusy u.toNat = [] then s.modStw (Reg.TIR_FAR_CTL + 4 * u.toNat) (setBit 31 false)
      else (s.loseExtent u.toNat 3).asgnResume.closeResume) := by
  change execFarDisable u s = _
  unfold execFarDisable
  dsimp only
  split <;> rfl

end

/-! What is left of an extent that is lost. -/

theorem uncounted_of_lt {off : Nat} (low : off < 0x90000) : Uncounted off where
  alert := by simp only [Reg.PWM_ALERT]; omega
  shadow h := by simp only [Reg.HGT_SSTAT]; omega
  media c := by
    unfold beRegOf
    simp only [Reg.RAS_BCE, Reg.RAS_HCE]
    split <;> omega

section
variable {s : State}

theorem State.plot_modPlot (p : Nat) (f : Plot → Plot) : (s.modPlot p f).plot p = (s.plot p).map f := by
  unfold State.modPlot
  cases h : s.plot p <;> simp [h]

theorem State.plot_modPlot_other {p q : Nat} (f : Plot → Plot) (h : q ≠ p) : (s.modPlot p f).plot q = s.plot q := by
  unfold State.modPlot
  split
  · exact State.plot_setPlot_other _ h
  · rfl

theorem State.mem_plots_modPlot {p : Nat} {f : Plot → Plot} {x : Nat × Plot} (mem : x ∈ (s.modPlot p f).tier.plots) :
    x ∈ s.tier.plots ∨ ∃ e, x.2 = f e := by
  unfold State.modPlot at mem
  split at mem
  · rename_i e _
    rcases mem_tins.mp mem with rfl | old
    · exact .inr ⟨e, rfl⟩
    · exact .inl (List.mem_of_mem_filter old)
  · exact .inl mem

end

/-- What FAR_LOST leaves of a plot. -/
def Plot.isLost (e : Plot) : Prop := e.st = .farLost ∧ e.claims = [] ∧ e.pins = [] ∧ e.slot = 0

/-- The loop that loses the plots of an extent. -/
def State.losePlots (ps : List Nat) (s : State) : State := forAll ps (fun p s => (s.modPlot p Plot.lost).dropNear p) s

section
variable {s : State} {ps : List Nat}

theorem State.losePlots_only (ps : List Nat) (s : State) : Only 32768 s (s.losePlots ps) :=
  Only.forAll (fun p t h => State.dropNear_only p (Inside.refl _) (State.modPlot_only p Plot.lost (Inside.refl _) h)) ps (Only.refl _ s)

end

/-- The word of a lost extent: ENABLE clears and LOST sets, and nothing that follows writes it. -/
theorem State.stw_loseExtent {l : Nat} (c : Nat) {s : State} (low : l < 256) (on : s.farEnabled l = true) :
    (s.loseExtent l c).stw (Reg.TIR_FAR_CTL + 4 * l) =
      setBit 31 false (setBit 30 true (s.stw (Reg.TIR_FAR_CTL + 4 * l))) := by
  have hu : Uncounted (Reg.TIR_FAR_CTL + 4 * l) := uncounted_of_lt (by simp only [Reg.TIR_FAR_CTL]; omega)
  unfold State.loseExtent
  simp only [on, Bool.not_true, Bool.false_eq_true, if_false]
  refine State.logRec_stwIs hu _ ?_
  refine StwIs.forAll (fun p s h => State.settle_stwIs hu p
    (StwIs.of_only (State.farDrop_only (.move p) (Inside.refl _) (Only.refl _ s)) rfl h)) _ ?_
  refine State.failReadsOf_stwIs hu _ _ _ ?_
  refine State.failTierReads_stwIs _ ?_
  refine StwIs.forAll (fun p s h => State.settle_stwIs hu p (State.cancelMove_stwIs hu p h)) _ ?_
  exact ((State.losePlots_only _ _).stw rfl _).trans (State.stw_modStw _ _ _)

section
variable {s : State} {ps : List Nat}

theorem State.plot_losePlots {p : Nat} {e : Plot} (mem : p ∈ ps) (here : s.plot p = some e) :
    ∃ f, (s.losePlots ps).plot p = some f ∧ f.isLost := by
  have stays : ∀ (l : List Nat) (t : State), (∃ f, t.plot p = some f ∧ f.isLost) → ∃ f, (t.losePlots l).plot p = some f ∧ f.isLost := by
    intro l t h
    refine forAll_keeps (P := fun t : State => ∃ f, t.plot p = some f ∧ f.isLost) l (fun q _ t ⟨f, hf, lost⟩ => ?_) h
    change ∃ f, (t.modPlot q Plot.lost).plot p = some f ∧ f.isLost
    by_cases hq : p = q
    · subst hq
      exact ⟨f.lost, by rw [State.plot_modPlot, hf]; rfl, rfl, rfl, rfl, rfl⟩
    · exact ⟨f, by rw [State.plot_modPlot_other _ hq, hf], lost⟩
  induction ps generalizing s e with
  | nil => cases mem
  | cons q r ih =>
    by_cases hq : p = q
    · subst hq
      exact stays r _ ⟨e.lost, (State.plot_modPlot p Plot.lost).trans (by rw [here]; rfl), rfl, rfl, rfl, rfl⟩
    · have later : p ∈ r := by simpa [hq] using mem
      exact ih (s := (s.modPlot q Plot.lost).dropNear q) later ((State.plot_modPlot_other _ hq).trans here)

/-- A lost plot moves nowhere. -/
theorem State.losePlots_noMove {l : Nat} (still : ∀ x ∈ s.tier.plots, x.2.movesInto l = false) :
    ∀ x ∈ (s.losePlots ps).tier.plots, x.2.movesInto l = false := by
  refine forAll_keeps (P := fun t : State => ∀ x ∈ t.tier.plots, x.2.movesInto l = false) ps (fun q _ t ht x hx => ?_) still
  rcases State.mem_plots_modPlot (show x ∈ (t.modPlot q Plot.lost).tier.plots from hx) with old | ⟨e, he⟩
  · exact ht x old
  · rw [he]
    rfl

theorem State.mem_of_plot {p : Nat} {e : Plot} (here : s.plot p = some e) : (p, e) ∈ s.tier.plots := by
  unfold State.plot at here
  generalize s.tier.plots = l at here ⊢
  induction l with
  | nil => cases here
  | cons x r ih =>
    obtain ⟨j, w⟩ := x
    unfold tfind at here
    split at here
    · cases here
      rename_i same
      simp [same]
    · exact List.mem_cons_of_mem _ (ih here)

/-- With no read in flight there is nothing for the loss to end. -/
theorem State.plot_failReadsOf {t : Nat} {d : DmaUse → Bool} {c : Status} (noTags : s.tags = []) (noLds : s.lds = []) (p : Nat) :
    (s.failReadsOf t d c).plot p = s.plot p := by
  have empty : (s.ld t).waiting = [] := by rw [State.ld, noLds]; rfl
  simp only [State.failReadsOf, noTags, empty, List.filter_nil, List.map_nil, List.filterMap_nil, List.append_nil, forAll_nil]
  rfl

theorem Only.plot {m : Nat} {t : State} (h : Only m s t) (hm : m.testBit 15 = false) (p : Nat) : t.plot p = s.plot p := by
  rw [State.plot, h.tier hm, State.plot]

theorem State.plot_settle (p q : Nat) (s : State) : (s.settle p).plot q = s.plot q :=
  (State.settle_only p (Inside.refl _) (Only.refl _ s)).plot rfl q

/-- A plot that the extent backs is FAR_LOST once the extent is lost, where nothing is under way. -/
theorem State.plot_loseExtent {l c p : Nat} {e : Plot} (on : s.farEnabled l = true) (here : s.plot p = some e) (far : e.farb = true)
    (kept : e.st ≠ .farLost) (lender : locLender e.loc = l) (quiet : Quiet s) (still : ∀ x ∈ s.tier.plots, x.2.movesInto l = false) :
    ∃ f, (s.loseExtent l c).plot p = some f ∧ f.isLost := by
  have mem : p ∈ (s.tier.plots.filter (fun e => e.2.farb && e.2.st ≠ .farLost && locLender e.2.loc = l)).map Prod.fst :=
    List.mem_map.mpr ⟨(p, e), List.mem_filter.mpr ⟨State.mem_of_plot here, by simp [far, kept, lender]⟩, rfl⟩
  generalize hps : (s.tier.plots.filter (fun e => e.2.farb && e.2.st ≠ .farLost && locLender e.2.loc = l)).map Prod.fst = ps at mem
  obtain ⟨f, hf, lost⟩ := State.plot_losePlots (s := s.modStw (Reg.TIR_FAR_CTL + 4 * l) (fun w => setBit 31 false (setBit 30 true w)))
    mem here
  refine ⟨f, ?_, lost⟩
  generalize ht : (s.modStw (Reg.TIR_FAR_CTL + 4 * l) (fun w => setBit 31 false (setBit 30 true w))).losePlots ps = t at hf
  have noMove : ((t.dropOpen (fun b => ps.contains (b / 16))).tier.plots.filter (fun e => e.2.movesInto l)).map Prod.fst = [] := by
    rw [List.map_eq_nil_iff, List.filter_eq_nil_iff]
    intro x hx
    have := State.losePlots_noMove (ps := ps) (s := s.modStw (Reg.TIR_FAR_CTL + 4 * l) (fun w => setBit 31 false (setBit 30 true w)))
      still x (by rw [ht]; exact hx)
    simp [this]
  have frame : Only 32784 s t := by
    rw [← ht]
    exact Only.forAll (fun p t h => State.dropNear_only p (.of_and rfl) (State.modPlot_only p Plot.lost (.of_and rfl) h)) ps
      (State.modStw_only _ _ (.of_and rfl) (Only.refl _ s))
  have run : s.loseExtent l c = (forAll ps (fun p s => (s.farDrop (.move p)).settle p)
      (State.failReadsOf l (fun u => match usePlot u with | some p => ps.contains p | none => false) .farLost
        ((t.dropOpen (fun b => ps.contains (b / 16))).failTierReads ps))).logRec
          { typ := 0x0E, sev := 2, tenant := some l, aux0 := ps.length, aux1 := c } := by
    have loop : forAll ps (fun p s => (s.modPlot p Plot.lost).dropNear p)
      (s.modStw (Reg.TIR_FAR_CTL + 4 * l) (fun w => setBit 31 false (setBit 30 true w))) = t := ht
    simp only [State.loseExtent, on, Bool.not_true, Bool.false_eq_true, if_false, hps, loop, noMove, forAll_nil] <;> rfl
  rw [run, (State.logRec_only _ (Inside.refl _) (Only.refl _ _)).plot rfl]
  refine forAll_keeps (P := fun t : State => t.plot p = some f) ps (fun q _ t h => (State.plot_settle q p (t.farDrop (.move q))).trans h) ?_
  have reads := State.failTierReads_only ps (Inside.refl _) (Only.refl _ (t.dropOpen (fun b => ps.contains (b / 16))))
  rw [State.plot_failReadsOf ((reads.tags rfl).trans ((frame.tags rfl).trans quiet.tags))
    ((reads.lds rfl).trans ((frame.lds rfl).trans quiet.devices)), reads.plot rfl]
  exact hf

end

/-- Settles O25: the rows of the timeouts, those of the extents, and what is left of an extent that is lost. -/
theorem timeoutsAndFarExtents : Obligations.TimeoutsAndFarExtents := by
  refine ⟨fun g x s => exec_completionTimeout, fun g s => exec_completionTimeout_unknown,
    fun g r f n x s => ⟨exec_farDmaErrorCompletion_fetch, exec_farDmaErrorCompletion_unknown⟩, fun g s => rfl,
    fun g x s => exec_farDmaErrorCompletion_far, fun u s => exec_farEnable_off, fun u s => exec_farEnable_on, exec_farDisable,
    fun u s => rfl, ?word, ?plot⟩
  case word =>
    intro u c s on
    rw [State.stw_loseExtent c u.isLt on]
    exact ⟨bit_setBit _ _ (by decide), by rw [bit_setBit_other _ _ (by decide), bit_setBit _ _ (by decide)]⟩
  case plot =>
    intro u c p e s on here far kept lender quiet still
    exact State.plot_loseExtent on here far kept lender quiet still

end Sys2Proof.Machine


/-! Weir windows, urgency levels and arbiters (R303, R306, R309, R311, R313, R314, R316). -/

namespace Sys2Proof.Machine

open Safety

section
variable {u : Tenant} {s : State}

/-! Windows and urgency. -/

theorem State.admitAll_of_none (held : (s.hgOf u.toNat).held = []) (copies : s.heldCopies u.toNat = []) :
    s.admitAll u.toNat = s := by
  simp only [State.admitAll, held, copies, List.length_nil, Nat.add_zero, State.admitUpTo]

theorem exec_weirWindowBoundary (due : s.clk.us % 2 ^ (s.hgOf u.toNat).win = 0) :
    exec (.weirWindowBoundary u) s = .next ((s.setHg u.toNat { s.loadWeir u.toNat (s.hgOf u.toNat) with
      used := [], maxPrev := (s.hgOf u.toNat).maxCur, maxCur := [], heldPrev := (s.hgOf u.toNat).heldCur, heldCur := [] }).admitAll
        u.toNat) := by
  change execWeirWindowBoundary u s = _
  simp [execWeirWindowBoundary, due]

theorem exec_weirWindowBoundary_early (early : s.clk.us % 2 ^ (s.hgOf u.toNat).win ≠ 0) : exec (.weirWindowBoundary u) s = .next s := by
  change execWeirWindowBoundary u s = _
  simp [execWeirWindowBoundary, early]

theorem State.hgOf_modHg (t : Nat) (f : Hg → Hg) (s : State) : (s.modHg t f).hgOf t = f (s.hgOf t) := State.hgOf_setHg t _

theorem State.hgOf_modHg_other {t n : Nat} (f : Hg → Hg) (h : n ≠ t) (s : State) : (s.modHg t f).hgOf n = s.hgOf n :=
  tget_tset_other _ _ _ h _

theorem exec_uibWrite (v : W32) : exec (.uibWrite u v) s =
    .next ((s.setBar u.toNat Reg.HGT_UIB (v &&& 0xFFFF0003#32)).modHg u.toNat (fun h => { h with uib := BitVec.ofNat 2 (bits 1 0 v) })) :=
  rfl

theorem exec_uibHoldExpire (hold : s.barF u.toNat Reg.HGT_UIB 31 16 ≠ 0) :
    exec (.uibHoldExpire u) s = .next (s.dropUib u.toNat) :=
  congrArg Host.Outcome.next (if_neg hold)

theorem State.bar_dropUib (t : Nat) (s : State) : (s.dropUib t).bar t Reg.HGT_UIB = setBits 1 0 0 (s.bar t Reg.HGT_UIB) :=
  State.bar_modBar t _ _ s

end

/-! Arbiters. -/

/-- What Table HGT-4 compares, in order: the priority, movement at a Headgate, then the arbiter's own number or stamp, tenant
and number. -/
def State.itemKey (a : Arb) (i : Item) (s : State) : List Int :=
  -s.itemPrio i :: (if arbHead a && s.itemPrio i ≥ 0 then (i.movement.toNat : Int) else 0) ::
    (if arbOwn a && s.itemPrio i ≥ 0 then [(i.id : Int)] else [(i.stamp : Int), (i.tenant.toNat : Int), (i.id : Int)])

section
variable {a : Arb} {s : State}

/-- Stamp, then tenant, then number (R303). -/
theorem Item.tie_iff (i j : Item) :
    (if i.stamp = j.stamp then if i.tenant = j.tenant then i.id < j.id else i.tenant.toNat < j.tenant.toNat else i.stamp < j.stamp) ↔
      i.stamp < j.stamp ∨ i.stamp = j.stamp ∧
        (i.tenant.toNat < j.tenant.toNat ∨ i.tenant.toNat = j.tenant.toNat ∧ i.id < j.id) := by
  have tenants : i.tenant = j.tenant ↔ i.tenant.toNat = j.tenant.toNat := BitVec.toNat_inj.symm
  split <;> [split; skip] <;> simp_all

theorem State.itemBefore_iff (i j : Item) : s.itemBefore a i j = true ↔ s.itemKey a i < s.itemKey a j := by
  unfold State.itemBefore State.itemKey
  generalize s.itemPrio i = p
  generalize s.itemPrio j = q
  have tie := Item.tie_iff i j
  by_cases same : p = q
  · subst same
    by_cases head : (arbHead a && decide (p ≥ 0)) = true <;> by_cases own : (arbOwn a && decide (p ≥ 0)) = true
    · cases hi : i.movement <;> cases hj : j.movement <;> simp [List.cons_lt_cons_iff, head, own]
    · cases hi : i.movement <;> cases hj : j.movement <;> simp [List.cons_lt_cons_iff, head, own, tie]
    · simp [List.cons_lt_cons_iff, head, own]
    · simp [List.cons_lt_cons_iff, head, own, tie]
  · simp [List.cons_lt_cons_iff, same]

theorem State.itemBefore_eq_false_iff (i j : Item) : s.itemBefore a i j = false ↔ s.itemKey a j ≤ s.itemKey a i := by
  rw [← Bool.not_eq_true, State.itemBefore_iff, not_lt]

/-- The step of the fold to the best. -/
def State.arbBetter (a : Arb) (s : State) (b : Option Item) (i : Item) : Option Item :=
  match b with
  | none => some i
  | some j => if s.itemBefore a i j then some i else some j

/-- From an item w on, the fold chooses w or one of the items, and neither w nor any of them comes before it. -/
theorem State.arbBest_some (l : List Item) (w : Item) :
    ∃ b, l.foldl (s.arbBetter a) (some w) = some b ∧ b ∈ w :: l ∧ ∀ i ∈ w :: l, s.itemBefore a i b = false := by
  induction l generalizing w with
  | nil => exact ⟨w, rfl, by simp, by simp [State.itemBefore_eq_false_iff]⟩
  | cons x r ih =>
    cases better : s.itemBefore a x w with
    | true =>
      obtain ⟨b, fold, mem, best⟩ := ih x
      have less : s.itemKey a x < s.itemKey a w := (State.itemBefore_iff x w).mp better
      refine ⟨b, by rw [← fold, List.foldl_cons]; simp [State.arbBetter, better], List.mem_cons_of_mem _ mem, fun i hi => ?_⟩
      rcases List.mem_cons.mp hi with rfl | hi
      · exact (State.itemBefore_eq_false_iff i b).mpr
          (((State.itemBefore_eq_false_iff x b).mp (best x List.mem_cons_self)).trans less.le)
      · exact best i hi
    | false =>
      obtain ⟨b, fold, mem, best⟩ := ih w
      refine ⟨b, by rw [← fold, List.foldl_cons]; simp [State.arbBetter, better], ?_, fun i hi => ?_⟩
      · rcases List.mem_cons.mp mem with rfl | mem
        · exact List.mem_cons_self
        · exact List.mem_cons_of_mem _ (List.mem_cons_of_mem _ mem)
      · have first := best w List.mem_cons_self
        rcases List.mem_cons.mp hi with rfl | hi
        · exact first
        rcases List.mem_cons.mp hi with rfl | hi
        · rw [State.itemBefore_eq_false_iff] at first better ⊢
          exact first.trans better
        · exact best i (List.mem_cons_of_mem _ hi)

/-- Of items that wait, the fold chooses one that none comes before. -/
theorem State.arbBest {l : List Item} (wait : l ≠ []) :
    ∃ b ∈ l, l.foldl (s.arbBetter a) none = some b ∧ ∀ i ∈ l, s.itemBefore a i b = false := by
  cases l with
  | nil => exact absurd rfl wait
  | cons w r =>
    obtain ⟨b, fold, mem, best⟩ := State.arbBest_some (s := s) (a := a) r w
    exact ⟨b, mem, fold, best⟩

theorem State.arbQueue_setArb (a : Arb) (l : List Item) (s : State) : (s.setArb a l).arbQueue a = l := by
  have gone : (s.arb.filter (fun e => e.1 ≠ a)).find? (fun e => e.1 = a) = none := by
    rw [List.find?_eq_none]
    intro e he
    simpa using List.of_mem_filter he
  unfold State.arbQueue State.setArb
  by_cases empty : l = []
  · simp only [empty, if_true, gone]
  · simp only [empty, if_false, List.find?_append, gone, Option.none_or, List.find?_cons, decide_true]

theorem exec_arbiterServe (plain : ∀ b m, a ≠ .cistern b m) (l : List Item) : exec (.arbiterServe a l) s = .next (s.arbServe a l) := by
  change execArbiterServe a l s = _
  cases a with
  | cistern b m => exact absurd rfl (plain b m)
  | _ => rfl

theorem State.arbServe_of_best {l : List Item} {w : Item} (best : (s.arbQueue a ++ l).foldl (s.arbBetter a) none = some w) :
    s.arbServe a l = (s.setArb a ((s.arbQueue a ++ l).erase w)).emit (.granted a w.id) := by
  unfold State.arbServe
  dsimp only
  change (match (s.arbQueue a ++ l).foldl (s.arbBetter a) none with
    | none => s
    | some w => (s.setArb a ((s.arbQueue a ++ l).erase w)).emit (.granted a w.id)) = _
  rw [best]

end

/-- Settles O26: the windows and levels by their rows, and the arbiter by the order of Table HGT-4 being linear. -/
theorem windowsUrgencyAndArbiters : Obligations.WindowsUrgencyAndArbiters := by
  refine ⟨fun u s => exec_weirWindowBoundary, fun u s => State.admitAll_of_none, fun u s => exec_weirWindowBoundary_early,
    fun u c v s => ⟨rfl, rfl⟩, fun p l s => rfl, ?write, ?expire, fun u s hold => congrArg Host.Outcome.next (if_pos hold), ?serve,
    ?idle⟩
  case write =>
    intro u v s
    refine ⟨_, exec_uibWrite v, State.bar_setBar _ _ _, ?_, fun c hc => State.hgOf_modHg_other _ hc _, rfl⟩
    rw [State.hgOf_modHg]
    have small : bits 1 0 v < 4 := Nat.mod_lt _ (by decide)
    simpa using small
  case expire =>
    intro u s hold
    refine ⟨_, exec_uibHoldExpire hold, congrArg Hg.uib (State.hgOf_modHg _ _ _), ?_, ?_, rfl⟩
    · rw [State.barF, State.bar_dropUib, bits_setBits _ _ (by decide) (by decide)]
    · rw [State.barF, State.bar_dropUib, bits_setBits_other _ _ (by decide), State.barF]
  case serve =>
    intro a l s plain wait
    obtain ⟨w, mem, fold, best⟩ := State.arbBest (a := a) (s := s) wait
    refine ⟨_, (exec_arbiterServe plain l).trans (congrArg Host.Outcome.next (State.arbServe_of_best fold)), w, mem, rfl, best, ?_, rfl⟩
    exact State.arbQueue_setArb _ _ _
  case idle =>
    intro a s plain empty
    rw [exec_arbiterServe plain, State.arbServe, empty]
    rfl

end Sys2Proof.Machine


/-! The bridge replays, retires lanes, retrains, splits and joins the module (R13 to R15, R436, R465). -/

namespace Sys2Proof.Machine

open Safety

section
variable {s : State}

/-! The bridge goes down with nothing under way. -/

/-- With no logical device there is no readiness message. -/
theorem State.withReady_of_noDevices {f : State → State} (none_ : s.lds = []) : s.withReady f = f s := by
  have absent (t : Nat) : (s.ld t).enumerated = false := by rw [State.ld, none_]; rfl
  simp only [State.withReady, absent, Bool.false_and, List.filter_false, forAll_nil]

theorem State.cutRequests_of_idle (waiting : s.shr.waiting = []) (ways : s.shr.wayWait = []) (snoops : s.shr.snoops = [])
    (closing : s.cmp.closeWait = []) (reads : s.dmc.reads = []) :
    s.cutRequests.cmp.closeWait = [] ∧
      s.cutRequests = { s with shr := s.cutRequests.shr, cmp := s.cutRequests.cmp, dmc := s.cutRequests.dmc } := by
  simp only [State.cutRequests, State.rerun, State.modShr, State.modCmp, State.modDmc, waiting, ways, snoops, closing, reads,
    List.filter_nil, List.append_nil, List.flatMap_nil, forAll_nil, List.any_nil, List.zipIdx_nil]
  exact ⟨trivial, trivial⟩

theorem State.cutReads_of_idle (tags : s.tags = []) (devices : s.lds = []) : s.cutReads = s := by
  have idle (t : Nat) : (s.ld t).waiting = [] := by rw [State.ld, devices]; rfl
  refine forAll_keeps (P := fun t => t = s) _ (fun l _ t ht => ?_) rfl
  subst ht
  simp [tags, idle]

theorem State.closeResume_of_idle (closing : s.cmp.closeWait = []) : Only 131072 s s.closeResume := by
  simp only [State.closeResume, closing, forAll_nil]
  exact State.modCmp_only _ (Inside.refl _) (Only.refl _ s)

/-- With nothing under way the split changes of the bridge its state only, and neither the tiers nor the fuses. -/
theorem State.splitNow_of_quiet (up : s.bridge.up = true) (quiet : Quiet s) :
    s.splitNow.bridge = { s.bridge with up := false, retraining := false, queue := [] } ∧ s.splitNow.tier = s.tier ∧
      s.splitNow.fuse = s.fuse := by
  obtain ⟨queue, waiting, ways, snoops, closing, reads, tags, devices, -⟩ := quiet
  generalize ht : ({ s with bridge := { s.bridge with up := false, retraining := false, queue := [] } } : State) = t
  obtain ⟨done, frame⟩ := State.cutRequests_of_idle (s := t) (by rw [← ht]; exact waiting) (by rw [← ht]; exact ways)
    (by rw [← ht]; exact snoops) (by rw [← ht]; exact closing) (by rw [← ht]; exact reads)
  have calm : t.cutRequests.cutReads = t.cutRequests :=
    State.cutReads_of_idle (by rw [frame, ← ht]; exact tags) (by rw [frame, ← ht]; exact devices)
  have lost := State.loseUpdates_only (Inside.refl _) (Only.refl _ t.cutRequests)
  have resumed := State.closeResume_of_idle (s := t.cutRequests.loseUpdates) (by rw [lost.cmp rfl]; exact done)
  generalize hv : t.cutRequests.loseUpdates.closeResume = v at resumed
  have run : s.splitNow = (((v.stewRec 4 0).stewRec 4 0).alert alSplit).fmHealth { typ := 0x15, sev := 1, aux0 := 4 } := by
    have ready : s.withReady (fun s => { s with bridge := { s.bridge with up := false, retraining := false, queue := [] } }) = t :=
      (State.withReady_of_noDevices devices).trans ht
    simp only [State.splitNow, up, if_true, queue, forAll_nil, ready, calm, hv]
  have reports := State.fmHealth_only { typ := 0x15, sev := 1, aux0 := 4 } (.of_and rfl) (State.alert_only alSplit (.of_and rfl)
    (State.stewRec_only 4 0 (.of_and rfl) (State.stewRec_only 4 0 (Inside.of_and (b := 3367254886000) rfl) (Only.refl _ v))))
  rw [run]
  refine ⟨(reports.bridge rfl).trans ((resumed.bridge rfl).trans ((lost.bridge rfl).trans ?_)),
    (reports.tier rfl).trans ((resumed.tier rfl).trans ((lost.tier rfl).trans ?_)),
    (reports.fuse rfl).trans ((resumed.fuse rfl).trans ((lost.fuse rfl).trans ?_))⟩
  all_goals rw [frame, ← ht]

/-! Lanes and retraining. -/

theorem exec_bridgeLaneRetire_down (down : s.bridge.up = false) (h : Half) : exec (.bridgeLaneRetire h) s = .next s := by
  change execBridgeLaneRetire h s = _
  simp [execBridgeLaneRetire, down]

section
variable (up : s.bridge.up = true)
include up

section
variable (north : 48 ≤ s.bridge.lanesN) (south : 48 ≤ s.bridge.lanesS)
include north south

theorem exec_bridgeLaneRetire_spareN (spare : s.bridge.sparesN ≠ 0) : exec (.bridgeLaneRetire .north) s =
    .next { s with bridge := { s.bridge with sparesN := s.bridge.sparesN - 1, retraining := true } } := by
  change execBridgeLaneRetire .north s = _
  simp [execBridgeLaneRetire, up, Nat.pos_of_ne_zero spare, Nat.not_lt.mpr north, Nat.not_lt.mpr south]

theorem exec_bridgeLaneRetire_spareS (spare : s.bridge.sparesS ≠ 0) : exec (.bridgeLaneRetire .south) s =
    .next { s with bridge := { s.bridge with sparesS := s.bridge.sparesS - 1, retraining := true } } := by
  change execBridgeLaneRetire .south s = _
  simp [execBridgeLaneRetire, up, Nat.pos_of_ne_zero spare, Nat.not_lt.mpr north, Nat.not_lt.mpr south]

end

theorem exec_bridgeLaneRetire_narrowN (spare : s.bridge.sparesN = 0) (north : 49 ≤ s.bridge.lanesN) (south : 48 ≤ s.bridge.lanesS) :
    exec (.bridgeLaneRetire .north) s =
      .next { s with bridge := { s.bridge with lanesN := s.bridge.lanesN - 1, retraining := true } } := by
  change execBridgeLaneRetire .north s = _
  have wide : ¬ s.bridge.lanesN - 1 < 48 := by omega
  simp [execBridgeLaneRetire, up, spare, wide, Nat.not_lt.mpr south]

theorem exec_bridgeLaneRetire_narrowS (spare : s.bridge.sparesS = 0) (north : 48 ≤ s.bridge.lanesN) (south : 49 ≤ s.bridge.lanesS) :
    exec (.bridgeLaneRetire .south) s =
      .next { s with bridge := { s.bridge with lanesS := s.bridge.lanesS - 1, retraining := true } } := by
  change execBridgeLaneRetire .south s = _
  have wide : ¬ s.bridge.lanesS - 1 < 48 := by omega
  simp [execBridgeLaneRetire, up, spare, wide, Nat.not_lt.mpr north]

theorem exec_bridgeLaneRetire_lastN (spare : s.bridge.sparesN = 0) (north : s.bridge.lanesN ≤ 48) :
    exec (.bridgeLaneRetire .north) s =
      .next ({ s with bridge := { s.bridge with lanesN := s.bridge.lanesN - 1, retraining := true } } : State).splitNow := by
  change execBridgeLaneRetire .north s = _
  have few : s.bridge.lanesN - 1 < 48 := by omega
  simp [execBridgeLaneRetire, up, spare, few]

theorem exec_bridgeLaneRetire_lastS (spare : s.bridge.sparesS = 0) (south : s.bridge.lanesS ≤ 48) :
    exec (.bridgeLaneRetire .south) s =
      .next ({ s with bridge := { s.bridge with lanesS := s.bridge.lanesS - 1, retraining := true } } : State).splitNow := by
  change execBridgeLaneRetire .south s = _
  have few : s.bridge.lanesS - 1 < 48 := by omega
  simp [execBridgeLaneRetire, up, spare, few]

end

/-- The state that has recorded the lanes in service after a retrain. -/
def State.retrained (s : State) : State :=
  State.stewRec 7 (s.bridge.lanesN % 256 + 256 * (s.bridge.lanesS % 256)) { s with bridge := { s.bridge with retraining := false } }

/-- What goes on after a retrain: the moves' reads. -/
def State.readMoves (s : State) : State := forAll (s.tier.plots.map Prod.fst) (fun p s => s.readNext p) s

theorem State.bridge_retrained (s : State) : s.retrained.bridge = { s.bridge with retraining := false } :=
  (State.stewRec_only _ _ (Inside.refl _) (Only.refl _ _)).bridge rfl

theorem State.readMoves_only (s : State) : Only 10995116836352 s s.readMoves :=
  Only.forAll (fun p _ h => State.readNext_only p (Inside.refl _) h) _ (Only.refl _ s)

theorem exec_bridgeRetrainDone (retraining : s.bridge.retraining = true) :
    exec .bridgeRetrainDone s = .next (s.retrained.drainBridge s.bridge.queue.length).readMoves := by
  have queue : s.retrained.bridge.queue = s.bridge.queue := by rw [State.bridge_retrained]
  rw [← queue]
  exact if_pos retraining

theorem exec_bridgeRetrainDone_idle (still : s.bridge.retraining = false) : exec .bridgeRetrainDone s = .next s := by
  change execBridgeRetrainDone s = _
  simp [execBridgeRetrainDone, still]

/-! The bridge comes up. -/

theorem State.half_applyPending (h k : Half) (s : State) :
    (s.applyPending h).half k = if k = h then { s.half h with pendZeroise := [], pendUnpin := [] } else s.half k := by
  unfold State.applyPending
  dsimp only
  have keys : ∀ (l : List Nat) (t : State), Only 137438953472 t
      (forAll l (fun k s => s.modKey k (fun y => if y.st = .empty then { y with k := 0#512 } else y)) t) :=
    fun l t => Only.forAll (fun k _ h => State.modKey_only k _ (Inside.refl _) h) l (Only.refl _ t)
  have pins : ∀ (l : List (Nat × Nat)) (t : State), Only 1073741824 t (forAll l (fun e s => s.dropPin e.1 e.2) t) :=
    fun l t => Only.forAll (fun e _ h => State.dropPin_only e.1 e.2 (Inside.refl _) h) l (Only.refl _ t)
  rw [(pins _ _).half rfl rfl, (keys _ _).half rfl rfl]
  cases h <;> cases k <;> rfl

/-- The state in which both halves have applied what waited for the bridge. -/
def State.applied (s : State) : State := (s.applyPending .north).applyPending .south

theorem State.half_applied (h : Half) (s : State) : s.applied.half h = { s.half h with pendZeroise := [], pendUnpin := [] } := by
  cases h <;> simp [State.applied, State.half_applyPending]

theorem State.bridge_applied (s : State) : s.applied.bridge = s.bridge :=
  (State.applyPending_only .south (Inside.refl _) (State.applyPending_only .north (Inside.refl _) (Only.refl _ s))).bridge rfl

theorem exec_bridgeUp_idle (idle : s.bridge.up = true ∨ s.bridge.lanesN < 48 ∨ s.bridge.lanesS < 48) : exec .bridgeUp s = .next s := by
  change execBridgeUp s = _
  rcases idle with h | h | h <;> simp [execBridgeUp, h]

theorem exec_bridgeUp (down : s.bridge.up = false) (north : 48 ≤ s.bridge.lanesN) (south : 48 ≤ s.bridge.lanesS) :
    Yields .bridgeUp s (fun t => t.bridge = { s.bridge with up := true } ∧ ∀ h, t.half h = s.applied.half h) := by
  generalize hv : s.applied.withReady (fun s => { s with bridge := { s.bridge with up := true } }) = v
  have run : exec .bridgeUp s = .next (if v.north.past3 || v.south.past3 then (v.stewRec 5 0).alert alSplit else v) := by
    change execBridgeUp s = _
    rw [← hv]
    simp only [execBridgeUp, down, Nat.not_lt.mpr north, Nat.not_lt.mpr south, decide_false, Bool.or_self, Bool.false_eq_true, if_false]
    rfl
  generalize hu : ({ s.applied with bridge := { s.applied.bridge with up := true } } : State) = u
  have ready : Only 2199023781376 u v := by
    rw [← hv, ← hu]
    exact Only.forAll (fun t _ h => State.raiseMsix_only t 2 (Inside.refl _) h) _ (Only.refl _ _)
  have told : Only 2267743258128 v (if v.north.past3 || v.south.past3 then (v.stewRec 5 0).alert alSplit else v) :=
    .ite (State.alert_only alSplit (.of_and rfl) (State.stewRec_only 5 0 (Inside.refl _) (Only.refl _ v))) (Only.refl _ v)
  refine ⟨_, run, (told.bridge rfl).trans ((ready.bridge rfl).trans ?_), fun h => (told.half rfl rfl h).trans
    ((ready.half rfl rfl h).trans ?_)⟩
  · rw [← hu]
    exact congrArg (fun b : Bridge => { b with up := true }) (State.bridge_applied s)
  · rw [← hu]
    rfl

end

/-- Settles O27: the rows of the bridge, its split with nothing under way, and what waited applied before it is up. -/
theorem theBridgeSplitsAndJoinsTheModule : Obligations.TheBridgeSplitsAndJoinsTheModule := by
  refine ⟨fun h s => rfl, fun s up spare north south => exec_bridgeLaneRetire_spareN up north south spare,
    fun s up spare north south => exec_bridgeLaneRetire_spareS up north south spare, fun s => exec_bridgeLaneRetire_narrowN,
    fun s => exec_bridgeLaneRetire_narrowS, fun s => exec_bridgeLaneRetire_lastN, fun s => exec_bridgeLaneRetire_lastS,
    fun s => State.splitNow_of_quiet, fun h s down => exec_bridgeLaneRetire_down down h, ?alone, fun s => exec_bridgeRetrainDone_idle,
    ?waited, ?down, fun s => rfl, ?up, fun s => exec_bridgeUp_idle⟩
  case alone =>
    intro s retraining queue
    refine ⟨_, exec_bridgeRetrainDone retraining, ?_, ?_⟩
    · rw [(State.readMoves_only _).bridge rfl, queue]
      exact State.bridge_retrained s
    · rw [(State.readMoves_only _).fuse rfl, queue]
      exact (State.stewRec_only _ _ (Inside.refl _) (Only.refl _ _)).fuse rfl
  case waited =>
    rintro s u w retraining rfl rfl
    refine ⟨exec_bridgeRetrainDone retraining, ?_⟩
    change s.retrained.bridge.queue = s.bridge.queue
    rw [State.bridge_retrained]
  case down =>
    intro s down
    refine congrArg Host.Outcome.next ?_
    simp [State.splitNow, down]
  case up =>
    intro s down north south
    obtain ⟨t, run, bridge, half⟩ := exec_bridgeUp down north south
    have cleared (h : Half) : (t.half h).pendZeroise = [] ∧ (t.half h).pendUnpin = [] := by
      rw [half, State.half_applied]
      exact ⟨rfl, rfl⟩
    exact ⟨t, run, bridge, (cleared .north).1, (cleared .south).1, (cleared .north).2, (cleared .south).2⟩

end Sys2Proof.Machine


/-! Shadow banks of the WTT, copies and refused commits (R63 to R65, R68). -/

namespace Sys2Proof.Machine

open Safety

/-! Banks. -/

section
variable (w : Wtt)

@[simp] theorem Wtt.shBank_setShBank (b : Tab W128) : (w.setShBank b).shBank = b := by
  unfold Wtt.setShBank Wtt.shBank
  cases w.onB <;> simp

@[simp] theorem Wtt.bank_setShBank (b : Tab W128) : (w.setShBank b).bank = w.bank := by
  unfold Wtt.setShBank Wtt.bank
  cases w.onB <;> simp

@[simp] theorem Wtt.cfg_setShBank (b : Tab W128) : (w.setShBank b).cfg = w.cfg := by
  unfold Wtt.setShBank Wtt.cfg
  cases w.onB <;> simp

@[simp] theorem Wtt.shCfg_setShCfg (c : WttCfg) : (w.setShCfg c).shCfg = c := by
  unfold Wtt.setShCfg Wtt.shCfg
  cases w.onB <;> simp

@[simp] theorem Wtt.shBank_setShCfg (c : WttCfg) : (w.setShCfg c).shBank = w.shBank := by
  unfold Wtt.setShCfg Wtt.shBank
  cases w.onB <;> simp

@[simp] theorem Wtt.bank_setShCfg (c : WttCfg) : (w.setShCfg c).bank = w.bank := by
  unfold Wtt.setShCfg Wtt.bank
  cases w.onB <;> simp

@[simp] theorem Wtt.cfg_setShCfg (c : WttCfg) : (w.setShCfg c).cfg = w.cfg := by
  unfold Wtt.setShCfg Wtt.cfg
  cases w.onB <;> simp

end

section
variable {s : State} {u : Tenant}

theorem State.wttOf_modWtt (n : Nat) (f : Wtt → Wtt) (s : State) : (s.modWtt n f).wttOf n = f (s.wttOf n) := State.wttOf_setWtt n _

theorem State.wttOf_modWtt_other {n m : Nat} (f : Wtt → Wtt) (h : m ≠ n) : (s.modWtt n f).wttOf m = s.wttOf m :=
  State.wttOf_setWtt_other _ h

/-! Writes of the shadow bank. -/

/-- The entry of the four words of WTT_DATA. -/
def State.wttEntry (v : W32) (s : State) : W128 :=
  BitVec.ofNat 128 ((tget 0#32 0 s.wttData).toNat + 2 ^ 32 * (tget 0#32 1 s.wttData).toNat +
    2 ^ 64 * (tget 0#32 2 s.wttData).toNat + 2 ^ 96 * v.toNat)

/-- The state that has stored an entry at index i of tenant t's shadow bank. -/
def State.putEntry (t i : Nat) (e : W128) (s : State) : State := s.modWtt t (fun w => w.setShBank (tset 0#128 i e w.shBank))

section
variable {v : W32}

theorem exec_wttDataWrite (open_ : (s.wttOf (bits 23 16 (s.stw Reg.WTT_SEL))).pend = none) :
    exec (.wttDataWrite v) s = .next (
      let t := s.putEntry (bits 23 16 (s.stw Reg.WTT_SEL)) (bits 15 0 (s.stw Reg.WTT_SEL)) (s.wttEntry v)
      if bit 31 (s.stw Reg.WTT_SEL) then t.setStw Reg.WTT_SEL (setBits 15 0 (bits 15 0 (s.stw Reg.WTT_SEL) + 1) (s.stw Reg.WTT_SEL))
      else t) := by
  change execWttDataWrite v s = _
  simp only [execWttDataWrite, State.shadowWrite, open_]
  rfl

theorem exec_wttDataWrite_pending (pending : (s.wttOf (bits 23 16 (s.stw Reg.WTT_SEL))).pend.isSome = true) :
    exec (.wttDataWrite v) s = .next (s.modStw (Reg.WTT_TSTAT + 4 * bits 23 16 (s.stw Reg.WTT_SEL)) (setBit 3 true)) := by
  change execWttDataWrite v s = _
  simp only [execWttDataWrite, State.shadowWrite, pending, if_true]

end

/-! Copies and refused commits. -/

theorem exec_wttCopy (whole : s.conflict = false) (open_ : (s.wttOf u.toNat).pend = none) :
    exec (.wttCopy u) s = .next ((s.modWtt u.toNat (fun w => (w.setShBank w.bank).setShCfg w.cfg)).setStw Reg.WTT_CSTAT 0#32) := by
  change execWttCopy u s = _
  simp only [execWttCopy, whole, open_, Option.isSome_none, Bool.false_eq_true, if_false]
  rfl

theorem exec_wttCopy_conflict (conflict : s.conflict = true) :
    exec (.wttCopy u) s = .next (s.setStw Reg.WTT_CSTAT (at32 8 0 ||| at32 0 Status.stewardConflict.code)) :=
  if_pos conflict

theorem exec_wttCopy_busy (whole : s.conflict = false) (pending : (s.wttOf u.toNat).pend.isSome = true) :
    exec (.wttCopy u) s = .next (s.setStw Reg.WTT_CSTAT (at32 8 u.toNat ||| at32 0 Status.slotBusy.code)) := by
  change execWttCopy u s = _
  simp only [execWttCopy, whole, pending, Bool.false_eq_true, if_false, if_true]
  rfl

theorem exec_wttCommitReserved (u : Tenant) (s : State) : exec (.wttCommitReserved u) s =
    .next (s.setStw Reg.WTT_CSTAT (at32 8 0 ||| at32 0 (if s.conflict then Status.stewardConflict else .badDescriptor).code)) :=
  rfl

section
variable {n : Nat} {st : Status}

theorem exec_wttCommit_refused (check : s.commitCheck [u.toNat] = (st, n)) (refused : st ≠ .ok) :
    exec (.wttCommit u) s =
      .next (s.setStw Reg.WTT_CSTAT (at32 8 (if st = .stewardConflict then 0 else n) ||| at32 0 st.code)) := by
  change execWttCommit u s = _
  unfold execWttCommit
  rw [check]
  cases st with
  | ok => exact absurd rfl refused
  | _ => rfl

theorem exec_wttGroupCommit_refused (check : s.commitCheck s.gmask = (st, n)) (refused : st ≠ .ok) :
    exec .wttGroupCommit s = .next (s.setStw Reg.WTT_CSTAT (at32 8 n ||| at32 0 st.code)) := by
  change execWttGroupCommit s = _
  unfold execWttGroupCommit
  rw [check]
  cases st with
  | ok => exact absurd rfl refused
  | _ => rfl

end

end

/-- Settles O28: the shadow bank takes what is written and copied, and each refusal writes its status only. -/
theorem shadowTablesAndCommits : Obligations.ShadowTablesAndCommits := by
  refine ⟨?write, fun v s => exec_wttDataWrite_pending, ?copy, ?commit, fun n st s => exec_wttGroupCommit_refused, ?conflict,
    fun u s => exec_wttCopy_busy, ?reserved⟩
  case write =>
    intro v s open_
    have kept : ∀ t : State, t.wtt = (s.putEntry (bits 23 16 (s.stw Reg.WTT_SEL)) (bits 15 0 (s.stw Reg.WTT_SEL)) (s.wttEntry v)).wtt →
        t = { s with wtt := t.wtt, reg := t.reg } →
        tget 0#128 (bits 15 0 (s.stw Reg.WTT_SEL)) (t.wttOf (bits 23 16 (s.stw Reg.WTT_SEL))).shBank = s.wttEntry v ∧
        (t.wttOf (bits 23 16 (s.stw Reg.WTT_SEL))).bank = (s.wttOf (bits 23 16 (s.stw Reg.WTT_SEL))).bank ∧
        (∀ u, u ≠ bits 23 16 (s.stw Reg.WTT_SEL) → t.wttOf u = s.wttOf u) ∧ t = { s with wtt := t.wtt, reg := t.reg } := by
      intro t wtt frame
      have table (n : Nat) : t.wttOf n = (s.putEntry (bits 23 16 (s.stw Reg.WTT_SEL)) (bits 15 0 (s.stw Reg.WTT_SEL))
          (s.wttEntry v)).wttOf n := by rw [State.wttOf, State.wttOf, wtt]
      refine ⟨?_, ?_, fun u hu => (table u).trans (State.wttOf_modWtt_other _ hu), frame⟩
      · rw [table, State.putEntry, State.wttOf_modWtt, Wtt.shBank_setShBank, tget_tset_same]
      · rw [table, State.putEntry, State.wttOf_modWtt, Wtt.bank_setShBank]
    refine ⟨_, exec_wttDataWrite open_, ?_⟩
    dsimp only
    split
    · exact kept _ rfl rfl
    · exact kept _ rfl rfl
  case copy =>
    intro u s whole open_
    have table : ((s.modWtt u.toNat (fun w => (w.setShBank w.bank).setShCfg w.cfg)).setStw Reg.WTT_CSTAT 0#32).wttOf u.toNat =
      ((s.wttOf u.toNat).setShBank (s.wttOf u.toNat).bank).setShCfg (s.wttOf u.toNat).cfg := State.wttOf_modWtt u.toNat (fun w => (w.setShBank w.bank).setShCfg w.cfg) s
    refine ⟨_, exec_wttCopy whole open_, ?_, ?_, ?_, ?_, State.stw_setStw _ _, fun n hn =>
      State.wttOf_modWtt_other (s := s) (fun w => (w.setShBank w.bank).setShCfg w.cfg) hn, rfl⟩
    all_goals simp [table]
  case commit =>
    rintro n _ u st s check refused rfl
    exact exec_wttCommit_refused check refused
  case conflict =>
    exact fun u s conflict => ⟨exec_wttCopy_conflict conflict, by rw [exec_wttCommitReserved, conflict]; rfl⟩
  case reserved =>
    exact fun u s whole => by rw [exec_wttCommitReserved, whole]; rfl

end Sys2Proof.Machine


/-! Assignment, release and query of plots (R75 to R77, R93, Tables TIR-2 and TIR-3). -/

namespace Sys2Proof.Machine

open Safety

/-! What the commands leave of the plot map. -/

section
variable (s : State)

theorem State.plots_dropWait (w : WaitClaim) : (s.dropWait w).tier.plots = s.tier.plots :=
  (congrArg Tier.plots ((State.refuseClaim_only w.plot w.tenant w.cause (Inside.refl _) (Only.refl _
    (s.modTier (fun x => { x with waits := x.waits.filter (fun y => y.id ≠ w.id) })))).tier rfl) :)

theorem State.plots_dropWaits (p : Nat) : (s.dropWaits p).tier.plots = s.tier.plots :=
  forAll_keeps (P := fun t : State => t.tier.plots = s.tier.plots) _ (fun w _ t h => (t.plots_dropWait w).trans h) rfl

theorem State.written_wipe (p : Nat) : (s.wipe p).tier.written = ndelRange (p * 1024) 1024 s.tier.written := rfl

theorem nmem_ndelRange {p l : Nat} (n : NSet) (h : l / 1024 = p) : nmem l (ndelRange (p * 1024) 1024 n) = false := by
  simp only [nmem, ndelRange, List.contains_eq_mem, List.mem_filter, decide_eq_false_iff_not, not_and, Bool.or_eq_true,
    decide_eq_true_eq]
  omega

theorem State.plot_of_plots {s t : State} (h : t.tier.plots = s.tier.plots) (p : Nat) : t.plot p = s.plot p := by
  rw [State.plot, h, State.plot]

end

section
variable {s : State}

/-! Commands that are refused, and where they start. -/

section
variable {st : Status}

theorem exec_tirAssign_gate (gate : s.asgnGate = st) (closed : st ≠ .ok) : exec .tirAssign s = .next (s.asgnStatus st) := by
  change execTirAssign s = _
  unfold execTirAssign
  rw [gate]
  cases st with
  | ok => exact absurd rfl closed
  | _ => rfl

theorem exec_tirRelease_gate (gate : s.asgnGate = st) (closed : st ≠ .ok) : exec .tirRelease s = .next (s.asgnStatus st) := by
  change execTirRelease s = _
  unfold execTirRelease
  rw [gate]
  cases st with
  | ok => exact absurd rfl closed
  | _ => rfl

theorem exec_tirAsgnReserved_gate (gate : s.asgnGate = st) (closed : st ≠ .ok) :
    exec .tirAsgnReserved s = .next (s.asgnStatus st) := by
  change execTirAsgnReserved s = _
  unfold execTirAsgnReserved
  rw [gate]
  cases st with
  | ok => exact absurd rfl closed
  | _ => rfl

theorem exec_tirRemoveClaims_gate (gate : s.asgnGate = st) (closed : st ≠ .ok) (u : Tenant) :
    exec (.tirRemoveClaims u) s = .next (s.asgnStatus st) := by
  change execTirRemoveClaims u s = _
  unfold execTirRemoveClaims
  rw [gate]
  cases st with
  | ok => exact absurd rfl closed
  | _ => rfl

end

section
variable (gate : s.asgnGate = .ok)
include gate

theorem exec_tirAssign_bad (bad : tmplOk s.atmpl = false ∨ s.rangeOk = false) :
    exec .tirAssign s = .next (s.asgnStatus .badDescriptor) := by
  change execTirAssign s = _
  rcases bad with h | h <;> simp [execTirAssign, gate, h]

theorem exec_tirRelease_bad (bad : s.rangeOk = false) : exec .tirRelease s = .next (s.asgnStatus .badDescriptor) := by
  change execTirRelease s = _
  simp [execTirRelease, gate, bad]

/-- A plot that an assignment may not touch. -/
def State.noAssign (p : Nat) (s : State) : Bool :=
  s.inSwin p || s.inView p || (match s.plot p with
    | some e => e.st ≠ .farLost
    | none => false)

theorem exec_tirAssign_checked (tmpl : tmplOk s.atmpl = true) (range : s.rangeOk = true) :
    exec .tirAssign s = .next (if (rangePlots s.asgnBase s.asgnCount).any (fun p => s.noAssign p) then s.asgnStatus .permission
      else s.asgnStart 0) := by
  change execTirAssign s = _
  simp only [execTirAssign, gate, tmpl, range, Bool.not_true, Bool.or_self, Bool.false_eq_true, if_false]
  change (if (rangePlots s.asgnBase s.asgnCount).any (fun p => s.noAssign p) then _ else _) = _
  split <;> rfl

theorem exec_tirRelease_checked (range : s.rangeOk = true) :
    exec .tirRelease s = .next (if (rangePlots s.asgnBase s.asgnCount).any (fun p => (s.plot p).isNone || (s.bufferOf p).isSome)
      then s.asgnStatus .permission else s.asgnStart 1) := by
  change execTirRelease s = _
  simp only [execTirRelease, gate, range, Bool.not_true, Bool.false_eq_true, if_false]
  split <;> rfl

end

theorem mem_rangePlots {b n i : Nat} (h : i < n) : b + i ∈ rangePlots b n :=
  List.mem_map.mpr ⟨i, List.mem_range.mpr h, rfl⟩

theorem rangePlots_any_false {b n : Nat} {d : Nat → Bool} (h : ∀ i, i < n → d (b + i) = false) :
    (rangePlots b n).any d = false := by
  rw [List.any_eq_false]
  intro p hp
  obtain ⟨i, hi, rfl⟩ := List.mem_map.mp hp
  simp [h i (List.mem_range.mp hi)]

theorem rangePlots_any_true {b n i : Nat} {d : Nat → Bool} (h : i < n) (hd : d (b + i) = true) : (rangePlots b n).any d = true :=
  List.any_eq_true.mpr ⟨_, mem_rangePlots h, hd⟩

/-! One plot. -/

theorem rangePlots_one (b : Nat) : rangePlots b 1 = [b] := rfl

/-- The plot that a packed Bulk template gives. -/
def State.packedPlot (s : State) : Plot :=
  { expend := bit 57 s.atmpl, mode := .packed, qtenant := bits 111 104 s.atmpl, age := s.clk.age }

theorem State.assignOne_packed {w : W128} {p : Nat} (fresh : bits 62 59 w = 0) (packed : bits 56 55 w = 0) :
    s.assignOne w p = some (((s.dropWaits p).wipe p).setPlot p
      { expend := bit 57 w, mode := .packed, qtenant := bits 111 104 w, age := s.clk.age }) := by
  have clock : (s.dropWaits p).clk = s.clk := (State.dropWaits_only p (Inside.refl _) (Only.refl _ s)).clk rfl
  simp [State.assignOne, fresh, packed, modeOf, clock]

/-- The command that BUSY stands for. -/
def State.pended (op : Nat) (s : State) : State :=
  (s.modTier (fun t => { t with asgnPend := some { op := op, base := s.asgnBase, count := s.asgnCount, tmpl := s.atmpl } })).setStw
    Reg.TIR_ASGN_STAT 0x80000000#32

/-- The command has ended OK. -/
def State.asgnEnded (s : State) : State := (s.modTier (fun t => { t with asgnPend := none })).setStw Reg.TIR_ASGN_STAT (at32 0 0)

theorem State.plot_asgnEnded (p : Nat) (s : State) : s.asgnEnded.plot p = s.plot p := rfl

theorem State.written_asgnEnded (s : State) : s.asgnEnded.tier.written = s.tier.written := rfl

theorem State.stw_asgnEnded (s : State) : s.asgnEnded.stw Reg.TIR_ASGN_STAT = 0#32 := State.stw_setStw _ _

theorem State.plot_pended (op p : Nat) (s : State) : (s.pended op).plot p = s.plot p := rfl

theorem State.asgnStart_packed (one : s.asgnCount = 1) (fresh : bits 62 59 s.atmpl = 0) (packed : bits 56 55 s.atmpl = 0) :
    s.asgnStart 0 = ((((s.pended 0).dropWaits s.asgnBase).wipe s.asgnBase).setPlot s.asgnBase s.packedPlot).asgnEnded := by
  have pend : (s.pended 0).tier.asgnPend = some { op := 0, base := s.asgnBase, count := s.asgnCount, tmpl := s.atmpl } := rfl
  have all : (s.pended 0).assignAll s.atmpl (rangePlots s.asgnBase s.asgnCount) =
      some ((((s.pended 0).dropWaits s.asgnBase).wipe s.asgnBase).setPlot s.asgnBase s.packedPlot) := by
    rw [one, rangePlots_one, State.assignAll, State.assignOne_packed fresh packed]
    rfl
  change (s.pended 0).asgnResume = _
  simp only [State.asgnResume, pend, if_true, all]
  rfl

theorem State.asgnStart_release (one : s.asgnCount = 1) (still : s.plotMoving s.asgnBase = false) (place : s.relocating s.asgnBase = false) :
    s.asgnStart 1 = ((s.pended 1).releaseOne s.asgnBase).asgnEnded := by
  have pend : (s.pended 1).tier.asgnPend = some { op := 1, base := s.asgnBase, count := s.asgnCount, tmpl := s.atmpl } := rfl
  have free : (rangePlots s.asgnBase s.asgnCount).any (fun p => (s.pended 1).plotMoving p || (s.pended 1).relocating p) = false := by
    rw [one, rangePlots_one]
    simp only [List.any_cons, List.any_nil, Bool.or_false, Bool.or_eq_false_iff]
    exact ⟨still, place⟩
  change (s.pended 1).asgnResume = _
  simp only [State.asgnResume, pend, free, Bool.false_eq_true, if_false, Nat.one_ne_zero]
  rw [one, rangePlots_one, forAll_cons, forAll_nil]
  rfl

theorem State.plot_dropWaits (p q : Nat) (s : State) : (s.dropWaits p).plot q = s.plot q :=
  State.plot_of_plots (State.plots_dropWaits s p) q

theorem State.plot_wipe (p q : Nat) (s : State) : (s.wipe p).plot q = s.plot q := rfl

theorem State.written_setPlot (p : Nat) (e : Plot) (s : State) : (s.setPlot p e).tier.written = s.tier.written := rfl

theorem State.releaseOne_tier (p : Nat) (s : State) :
    (s.releaseOne p).tier = { ((s.dropWaits p).wipe p).tier with plots := tdel p ((s.dropWaits p).wipe p).tier.plots } := by
  rw [State.releaseOne, (State.settle_only p (Inside.refl _) (Only.refl _ _)).tier rfl]
  have fills := (State.fillsDrop_only (fun b => b / 16 = p) (Inside.refl _) (Only.refl _ ((s.dropWaits p).wipe p))).tier rfl
  rw [State.delPlot, fills]

theorem State.plot_releaseOne (p : Nat) (s : State) : (s.releaseOne p).plot p = none := by
  rw [State.plot, State.releaseOne_tier]
  exact tfind_tdel_same _ _

theorem State.plot_releaseOne_other {p q : Nat} (h : q ≠ p) (s : State) : (s.releaseOne p).plot q = s.plot q := by
  rw [State.plot, State.releaseOne_tier]
  exact (tfind_tdel_other h _).trans (State.plot_dropWaits p q s)

theorem State.written_releaseOne (p : Nat) (s : State) :
    (s.releaseOne p).tier.written = ndelRange (p * 1024) 1024 (s.dropWaits p).tier.written := by
  rw [State.releaseOne_tier, State.written_wipe]

/-! A tenant's claims. -/

theorem State.removePin_of_noPins {p t cls : Nat} {free : Bool} {e : Plot} (here : s.plot p = some e) (pins : e.pins = []) :
    s.removePin p t cls free = s := by
  simp [State.removePin, here, pins, nmem]

/-- A plot without its slot, as `freeNear` leaves it. -/
def Plot.freed (e : Plot) : Plot :=
  { e with st := if e.farb then .far else .bulk, slot := 0, dirty := 0#16, copied := 0#16, cancel := false, charged := false,
           claims := [] }

theorem State.plot_freeNear {p : Nat} {e : Plot} (here : s.plot p = some e) : (s.freeNear p).plot p = some e.freed :=
  (State.plot_modPlot p Plot.freed).trans (by rw [here]; rfl)

theorem State.takeWish_of_noWish {p : Nat} {e : Plot} (here : s.plot p = some e) (wish : e.farWant = none) : s.takeWish p = s := by
  simp [State.takeWish, here, wish]

theorem Plot.isPool_freed (e : Plot) : e.freed.isPool = false := by
  simp [Plot.isPool, Plot.freed]

/-- A plot in the Near tier without claims and pins leaves it. -/
theorem State.leaveNear_near {p cls mover : Nat} {free : Bool} {e : Plot} (here : s.plot p = some e) (near : e.st = .near)
    (claims : e.claims = []) (pins : e.pins = []) (wish : e.farWant = none) (place : s.relocating p = false) :
    s.leaveNear p cls mover free = s.freeNear p := by
  have freed := State.takeWish_of_noWish (State.plot_freeNear here) (show e.freed.farWant = none from wish)
  simp [State.leaveNear, here, near, claims, pins, place, freed]

theorem State.poolAfter_freed {p : Nat} {was : Bool} {e : Plot} (here : s.plot p = some e.freed) : s.poolAfter p was = s := by
  simp [State.poolAfter, here, Plot.isPool_freed]

/-- A plot in the Near tier that loses its one claim leaves it. -/
theorem State.removeClaim_last {p t cls : Nat} {free : Bool} {e : Plot} {c : Claim} (here : s.plot p = some e) (near : e.st = .near)
    (claims : e.claims = [c]) (own : c.tenant = t) (pins : e.pins = []) (wish : e.farWant = none) (place : s.relocating p = false) :
    ∃ e', (s.removeClaim p t cls free).plot p = some e' ∧ e'.claims = [] ∧ e'.st = (if e.farb then .far else .bulk) := by
  have claimed : e.claimOf t = some c := by simp [Plot.claimOf, claims, own]
  have gone : e.claims.filter (fun c => c.tenant ≠ t) = [] := by simp [claims, own]
  have bare : (s.setPlot p { e with claims := [] }).plot p = some { e with claims := [] } := State.plot_setPlot p _
  have freed := State.plot_freeNear bare
  have run : s.removeClaim p t cls free = ((s.setPlot p { e with claims := [] }).freeNear p).settle p := by
    simp only [State.removeClaim, here, claimed, gone]
    rw [State.leaveNear_near bare near rfl pins wish place, State.poolAfter_freed freed]
  refine ⟨({ e with claims := [] } : Plot).freed, ?_, rfl, rfl⟩
  rw [run, State.plot_settle, freed]

/-- The claims and pins of a tenant on the plots, removed one plot after another. -/
def State.removeClaimsOn (ps : List Nat) (t : Nat) (s : State) : State :=
  forAll ps (fun p s => (s.removePin p t 0 true).removeClaim p t 0 true) s

theorem State.removeClaimsOn_one (p t : Nat) (s : State) :
    s.removeClaimsOn [p] t = (s.removePin p t 0 true).removeClaim p t 0 true := rfl

theorem exec_tirRemoveClaims (gate : s.asgnGate = .ok) (u : Tenant) :
    Yields (.tirRemoveClaims u) s (fun t => bits 7 0 (t.stw Reg.TIR_ASGN_STAT) = 0 ∧ (s.tier.waits = [] →
      t.tier = (s.removeClaimsOn (s.tier.plots.map Prod.fst) u.toNat).tier)) := by
  generalize hv : forAll (s.tier.waits.filter (fun w => w.tenant = u.toNat)) (fun w s => s.dropWait w) s = v
  generalize hw : v.removeClaimsOn (v.tier.plots.map Prod.fst) u.toNat = w
  have run : execTirRemoveClaims u s = .next ((forAll (w.fes.flatMap (fun e => (e.2.fills.filter (fun r => r.tenant = some u.toNat)).map
      (fun r => r.block / 16))) (fun p s => s.settle p) (forAll (w.fes.map Prod.fst) (fun f s => s.unhold f u.toNat (fun _ => true)) w)).asgnStatus
        .ok) := by
    rw [← hw, ← hv]
    simp only [execTirRemoveClaims, gate]
    rfl
  refine ⟨_, run, ?_, fun waits => ?_⟩
  · rw [State.asgnStatus, State.stw_modStw, bits_setBits _ _ (by decide) (by decide)]
    rfl
  · have same : v = s := by rw [← hv, waits]; rfl
    rw [same] at hw
    have held : Only 67108864 w (forAll (w.fes.map Prod.fst) (fun f s => s.unhold f u.toNat (fun _ => true)) w) :=
      Only.forAll (fun f _ h => State.unhold_only f u.toNat _ (Inside.refl _) h) _ (Only.refl _ w)
    have settled := Only.forAll (m := 2267744372240) (f := fun p s => s.settle p)
      (fun p _ h => State.settle_only p (Inside.refl _) h)
      (w.fes.flatMap (fun e => (e.2.fills.filter (fun r => r.tenant = some u.toNat)).map (fun r => r.block / 16)))
      (Only.refl _ (forAll (w.fes.map Prod.fst) (fun f s => s.unhold f u.toNat (fun _ => true)) w))
    rw [hw]
    exact (settled.tier rfl).trans (held.tier rfl)

/-! Queries. -/

theorem State.stw_modTier (f : Tier → Tier) (off : Nat) (s : State) : (s.modTier f).stw off = s.stw off := rfl

/-- The tier with a snapshot taken. -/
def Tier.snapped (w : W128) (r : Option (Nat × Plot)) (t : Tier) : Tier := { t with snap := w, snapRec := r }

theorem Tier.plots_snapped (w : W128) (r : Option (Nat × Plot)) (t : Tier) : (t.snapped w r).plots = t.plots := rfl

/-- The plot that a query names. -/
def State.queried (hi : W32) (s : State) : Nat := (s.stw Reg.TIR_PQ_PLOT_LO).toNat + 2 ^ 32 * (hi.toNat % 16)

/-- The snapshot of a query: the plot's entry word, and where a Near slot holds it, its record. -/
def State.snapWord (p : Nat) (s : State) : W128 := match s.plot p with
  | some e => s.plotWord p e
  | none => 0#128

def State.snapPlot (p : Nat) (s : State) : Option (Nat × Plot) := match s.plot p with
  | some e => if e.hasSlot then some (p, e) else none
  | none => none

theorem exec_plotQuery (hi : W32) (s : State) : exec (.plotQuery hi) s =
    .next ((s.setStw Reg.TIR_PQ_PLOT_HI (hi &&& 0xF#32)).modTier
      (Tier.snapped (s.snapWord (s.queried hi)) (s.snapPlot (s.queried hi)))) := by
  have low : (s.setStw Reg.TIR_PQ_PLOT_HI (hi &&& 0xF#32)).stw Reg.TIR_PQ_PLOT_LO = s.stw Reg.TIR_PQ_PLOT_LO :=
    State.stw_setStw_other _ (by decide)
  have same : (s.setStw Reg.TIR_PQ_PLOT_HI (hi &&& 0xF#32)).plot (s.queried hi) = s.plot (s.queried hi) := rfl
  change execPlotQuery hi s = _
  unfold execPlotQuery
  dsimp only
  rw [low, ← State.queried, same, State.snapWord, State.snapPlot]
  cases s.plot (s.queried hi) <;> rfl

end

/-- Settles O30: the checks in their order, and the commands on one plot. -/
theorem plotsAreAssignedReleasedAndQueried : Obligations.PlotsAreAssignedReleasedAndQueried := by
  refine ⟨?assign, ?release, ?assignStart, ?releaseStart, fun s => exec_tirAssign_bad, fun s => exec_tirRelease_bad, ?assignPermission,
    ?releasePermission, ?reserved, fun st s gate closed => ⟨exec_tirAssign_gate gate closed, exec_tirRelease_gate gate closed,
      exec_tirAsgnReserved_gate gate closed, exec_tirRemoveClaims_gate gate closed⟩, ?noPlots, ?onePlot, ?claims, ?query, ?absent⟩
  case assign =>
    intro s gate tmpl one range fresh packed noSwin noView free
    refine ⟨_, exec_tirAssign_checked gate tmpl range, ?_⟩
    have ok : (rangePlots s.asgnBase s.asgnCount).any (fun p => s.noAssign p) = false := by
      rw [one, rangePlots_one]
      simp [State.noAssign, noSwin, noView, free]
    rw [ok, if_neg Bool.false_ne_true, State.asgnStart_packed one fresh packed]
    refine ⟨?_, State.stw_asgnEnded _, fun q hq => ?_, fun l hl => ?_⟩
    · rw [State.plot_asgnEnded, State.plot_setPlot, State.packedPlot]
    · rw [State.plot_asgnEnded, State.plot_setPlot_other _ hq, State.plot_wipe, State.plot_dropWaits, State.plot_pended]
    · rw [State.written_asgnEnded, State.written_setPlot, State.written_wipe, nmem_ndelRange _ hl]
  case release =>
    intro s gate one range here noBuffer still place
    refine ⟨_, exec_tirRelease_checked gate range, ?_⟩
    have ok : (rangePlots s.asgnBase s.asgnCount).any (fun p => (s.plot p).isNone || (s.bufferOf p).isSome) = false := by
      rw [one, rangePlots_one]
      simp [noBuffer, here]
    rw [ok, if_neg Bool.false_ne_true, State.asgnStart_release one still place]
    refine ⟨?_, State.stw_asgnEnded _, fun q hq => ?_, fun l hl => ?_⟩
    · rw [State.plot_asgnEnded, State.plot_releaseOne]
    · rw [State.plot_asgnEnded, State.plot_releaseOne_other hq, State.plot_pended]
    · rw [State.written_asgnEnded, State.written_releaseOne, nmem_ndelRange _ hl]
  case assignStart =>
    intro s gate tmpl range free
    rw [exec_tirAssign_checked gate tmpl range, rangePlots_any_false, if_neg Bool.false_ne_true]
    intro i hi
    obtain ⟨noSwin, noView, lost⟩ := free i hi
    cases here : s.plot (s.asgnBase + i) with
    | none => simp [State.noAssign, noSwin, noView, here]
    | some e => simp [State.noAssign, noSwin, noView, here, lost e here]
  case releaseStart =>
    intro s gate range free
    rw [exec_tirRelease_checked gate range, rangePlots_any_false, if_neg Bool.false_ne_true]
    intro i hi
    obtain ⟨here, noBuffer⟩ := free i hi
    simp [noBuffer, here]
  case assignPermission =>
    intro i s gate tmpl range hi taken
    rw [exec_tirAssign_checked gate tmpl range, rangePlots_any_true hi, if_pos rfl]
    rcases taken with h | h | ⟨e, here, kept⟩
    · simp [State.noAssign, h]
    · simp [State.noAssign, h]
    · simp [State.noAssign, here, kept]
  case releasePermission =>
    intro i s gate range hi taken
    rw [exec_tirRelease_checked gate range, rangePlots_any_true hi, if_pos rfl]
    rcases taken with h | h <;> simp [h]
  case reserved =>
    intro s gate
    change execTirAsgnReserved s = _
    simp [execTirAsgnReserved, gate]
  case noPlots =>
    intro u s gate waits plots fes
    change execTirRemoveClaims u s = _
    simp [execTirRemoveClaims, gate, waits, plots, fes]
  case onePlot =>
    intro u p e c s gate waits fes plots near claims own pins wish place
    obtain ⟨t, run, -, tier⟩ := exec_tirRemoveClaims gate u
    have here : s.plot p = some e := by simp [State.plot, plots, tfind]
    obtain ⟨e', after, bare, st⟩ := State.removeClaim_last (cls := 0) (free := true) here near claims own pins wish place
    refine ⟨t, run, e', ?_, bare, st⟩
    rw [State.plot, tier waits, plots, List.map_cons, List.map_nil, State.removeClaimsOn_one,
      State.removePin_of_noPins here pins, ← State.plot, after]
  case claims =>
    intro u s gate
    obtain ⟨t, run, stat, -⟩ := exec_tirRemoveClaims gate u
    exact ⟨t, run, stat⟩
  case query =>
    intro hi e s here
    refine ⟨_, exec_plotQuery hi s, ?_, ?_, Tier.plots_snapped _ _ _, rfl⟩
    · have word : s.snapWord (s.queried hi) = s.plotWord (s.queried hi) e := by rw [State.snapWord, State.queried, here]
      exact word
    · rw [State.stw_modTier, State.stw_setStw]
  case absent =>
    intro hi s absent
    refine ⟨_, exec_plotQuery hi s, ?_, Tier.plots_snapped _ _ _, rfl⟩
    have word : s.snapWord (s.queried hi) = 0#128 := by rw [State.snapWord, State.queried, absent]
    exact word

end Sys2Proof.Machine


/-! Ages, counts and claims of plots, and their moves (R81, R83, R84, R89, R464). -/

namespace Sys2Proof.Machine

open Safety

/-! An update of every plot. -/

theorem tfind_map {α : Type} (f : Nat → α → α) (p : Nat) (t : Tab α) :
    tfind p (t.map (fun e => (e.1, f e.1 e.2))) = (tfind p t).map (f p) := by
  induction t with
  | nil => rfl
  | cons x r ih =>
    obtain ⟨j, w⟩ := x
    by_cases h : j = p
    · subst h; simp [tfind]
    · simp [tfind, h, ih]

section
variable {s : State}

theorem State.plot_mapPlots (f : Nat → Plot → Plot) (p : Nat) (s : State) : (s.mapPlots f).plot p = (s.plot p).map (f p) :=
  tfind_map f p s.tier.plots

/-- What a sweep leaves of a plot (R84). -/
def Plot.swept (h : Half) (c p : Nat) (e : Plot) : Plot :=
  if homeHalf p = h && e.ageAt c > 49152 then { e with age := (c + 65536 - 49152) % 65536 } else e

theorem exec_ageSweep (h : Half) (s : State) : exec (.ageSweep h) s = .next (s.mapPlots (Plot.swept h s.clk.age)) := rfl

theorem Plot.swept_bounded {h : Half} {c p : Nat} (e : Plot) (clock : c < 65536) (home : homeHalf p = h) :
    (e.swept h c p).ageAt c ≤ 49152 ∧ e.swept h c p = { e with age := (e.swept h c p).age } ∧
      (e.ageAt c ≤ 49152 → e.swept h c p = e) := by
  by_cases old : e.ageAt c > 49152
  · have run : e.swept h c p = { e with age := (c + 65536 - 49152) % 65536 } := by simp [Plot.swept, home, old]
    rw [run]
    refine ⟨?_, rfl, fun young => absurd old (by omega)⟩
    simp only [Plot.ageAt]
    omega
  · have run : e.swept h c p = e := by simp [Plot.swept, old]
    rw [run]
    exact ⟨by omega, rfl, fun _ => rfl⟩

theorem Plot.swept_other {h : Half} {c p : Nat} (e : Plot) (away : homeHalf p ≠ h) : e.swept h c p = e := by
  simp [Plot.swept, away]

/-! Cold claims. -/

/-- The AUTO claims of the cold plots of a half, removed one after another (R84). -/
theorem exec_coldClassify (h : Half) (s : State) : exec (.coldClassify h) s =
    .next (forAll (s.tier.plots.filter (fun e => homeHalf e.1 = h && e.2.hasSlot && e.2.cnt ≤ s.cold)) (fun e s =>
      forAll ((e.2.claims.filter (fun c => c.auto)).map Claim.tenant) (fun t s => s.removeClaim e.1 t 0 true) s) s) := rfl

theorem exec_coldClassify_none {h : Half} (warm : ∀ e ∈ s.tier.plots, homeHalf e.1 = h → e.2.hasSlot = true → e.2.cnt ≤ s.cold →
    e.2.claims.filter (fun c => c.auto) = []) : exec (.coldClassify h) s = .next s := by
  rw [exec_coldClassify]
  refine congrArg Host.Outcome.next (forAll_keeps (P := fun t => t = s) _ (fun e he t ht => ?_) rfl)
  obtain ⟨mem, cold⟩ := List.mem_filter.mp he
  simp only [Bool.and_eq_true, decide_eq_true_eq] at cold
  rw [warm e mem cold.1.1 cold.1.2 cold.2, List.map_nil, forAll_nil, ht]

theorem exec_coldClassify_one {h : Half} {p : Nat} {e : Plot} {c : Claim} (plots : s.tier.plots = [(p, e)]) (home : homeHalf p = h)
    (near : e.st = .near) (cold : e.cnt ≤ s.cold) (claims : e.claims = [c]) (auto : c.auto = true) :
    exec (.coldClassify h) s = .next (s.removeClaim p c.tenant 0 true) := by
  have slot : e.hasSlot = true := by rw [Plot.hasSlot, near]
  simp [exec_coldClassify, plots, home, slot, cold, claims, auto]

/-! Waiting claims. -/

theorem exec_claimWaitExpire {i : Nat} {w : WaitClaim} (found : s.tier.waits.find? (fun x => x.id = i) = some w) :
    exec (.claimWaitExpire i) s = .next (s.dropWait w) := by
  change execClaimWaitExpire i s = _
  simp only [execClaimWaitExpire, found]

theorem exec_claimWaitExpire_unknown {i : Nat} (unknown : s.tier.waits.find? (fun x => x.id = i) = none) :
    exec (.claimWaitExpire i) s = .next s := by
  change execClaimWaitExpire i s = _
  simp only [execClaimWaitExpire, unknown]

theorem State.dropWait_auto {w : WaitClaim} (auto : w.cause = .auto) :
    s.dropWait w = (s.modTier (fun x => { x with waits := x.waits.filter (fun y => y.id ≠ w.id) })).cntBar w.tenant Reg.TIR_EVICT
      15 0 1 := by
  rw [State.dropWait, auto]
  rfl

/-! Blocks of a move. -/

/-- The bytes of memory and the command that waits are those of s. -/
structure SameStore (s t : State) : Prop where
  mem : t.tier.mem = s.tier.mem
  pend : t.tier.asgnPend = s.tier.asgnPend

theorem SameStore.refl (s : State) : SameStore s s := ⟨rfl, rfl⟩

theorem SameStore.trans {s t u : State} (h : SameStore s t) (g : SameStore t u) : SameStore s u :=
  ⟨g.mem.trans h.mem, g.pend.trans h.pend⟩

theorem SameStore.of_tier {s t : State} (h : t.tier = s.tier) : SameStore s t := ⟨by rw [h], by rw [h]⟩

theorem State.setPlot_sameStore (p : Nat) (e : Plot) (s : State) : SameStore s (s.setPlot p e) := ⟨rfl, rfl⟩

theorem State.modPlot_sameStore (p : Nat) (f : Plot → Plot) (s : State) : SameStore s (s.modPlot p f) := by
  unfold State.modPlot
  split
  · exact s.setPlot_sameStore p _
  · exact .refl s

theorem State.weirAdmit_sameStore (t c units : Nat) (s : State) : SameStore s (s.weirAdmit t c units).2 :=
  .of_tier ((State.weirAdmit_only t c units (Inside.refl _) (Only.refl _ s)).tier rfl)

theorem State.plot_weirAdmit (t c units p : Nat) (s : State) : (s.weirAdmit t c units).2.plot p = s.plot p :=
  (State.weirAdmit_only t c units (Inside.refl _) (Only.refl _ s)).plot rfl p

/-- An admitted copy changes of the tier its plot's charge only. -/
theorem State.admitCopy_charge {p : Nat} {e : Plot} (here : s.plot p = some e) :
    SameStore s (s.admitCopy p) ∧ ∃ b, (s.admitCopy p).plot p = some { e with charged := b } := by
  have idle : SameStore s s ∧ ∃ b, s.plot p = some { e with charged := b } := ⟨.refl s, e.charged, here⟩
  have put : SameStore s (s.setPlot p { e with charged := true }) ∧
      ∃ b, (s.setPlot p { e with charged := true }).plot p = some { e with charged := b } :=
    ⟨s.setPlot_sameStore p _, true, State.plot_setPlot p _⟩
  unfold State.admitCopy
  simp only [here]
  split
  · exact idle
  · split
    · exact idle
    · split
      · exact ⟨⟨rfl, rfl⟩, true, (State.plot_setPlot (s := s) p { e with charged := true } :)⟩
      · split
        · exact put
        · rename_i j _ _ _ _
          have same := s.weirAdmit_sameStore e.mover e.cls (s.blockSectors p e j)
          have after := s.plot_weirAdmit e.mover e.cls (s.blockSectors p e j) p
          split
          · rename_i u held
            rw [held] at same after
            exact ⟨same, e.charged, after.trans here⟩
          · rename_i u _ passed
            rw [passed] at same after
            refine ⟨same.trans (State.modPlot_sameStore _ _ _), true, ?_⟩
            rw [State.plot_modPlot, after, here]
            rfl

theorem Plot.nextBlock_lt {e : Plot} {j : Nat} (next : e.nextBlock = some j) : j < 16 := by
  unfold Plot.nextBlock at next
  split at next
  · exact List.mem_range.mp (List.mem_of_find?_eq_some next)
  · split at next
    · exact List.mem_range.mp (List.mem_of_find?_eq_some next)
    · cases next

theorem Plot.nextBlock_of_fresh {e : Plot} {k : Nat} (st : e.st = .promoting) (low : k < 16) (fresh : bit k e.copied = false) :
    e.nextBlock ≠ none := by
  have home : ¬ (e.st = .demoting && !e.fmove) = true := by simp [st]
  rw [Plot.nextBlock, if_neg home, if_pos (by simp [st])]
  intro done
  have := List.find?_eq_none.mp done k (List.mem_range.mpr low)
  simp [fresh] at this

/-- What a block's copy reads of the media leaves the stores alone. -/
theorem State.moveReads_sameStore (p : Nat) (e : Plot) (j : Nat) (bad unread : List Nat) (of_ : DLoc → Bool) (source : Nat) (s : State) :
    SameStore s ((s.moveReads p e j bad of_).2.mediaMove p j unread source) :=
  .of_tier ((State.mediaMove_only p j unread source (.of_and rfl)
    (State.moveReads_only p e j bad of_ (Inside.refl _) (Only.refl _ s))).tier rfl)

theorem State.moveWrites_sameStore (p : Nat) (e : Plot) (j : Nat) (s : State) : SameStore s (s.moveWrites p e j) :=
  .of_tier ((State.moveWrites_only p e j (Inside.refl _) (Only.refl _ s)).tier rfl)

theorem State.farDrop_sameStore (w : Reader) (s : State) : SameStore s (s.farDrop w) := ⟨rfl, rfl⟩

theorem State.readNext_ownPlace {p : Nat} {e : Plot} (here : s.plot p = some e) (near : e.farb = false) : s.readNext p = s := by
  simp [State.readNext, here, near]

theorem State.asgnResume_of_none (idle : s.tier.asgnPend = none) : s.asgnResume = s := by
  simp only [State.asgnResume, idle]

section
variable {p j : Nat} {e : Plot} (bad : List Nat) (here : s.plot p = some e) (charged : e.charged = true) (place : e.farb = false)
  (next : e.nextBlock = some j) (copy : s.copyHeld p e = false) (medium : s.moveHeld p e j = false)
include here charged place next copy medium

/-- A block of a promotion is marked copied; the move goes on. -/
theorem State.blockDone_promoting (st : e.st = .promoting)
    (more : ({ e with copied := setBit j true e.copied, charged := false } : Plot).nextBlock ≠ none) :
    ∃ t, SameStore s t ∧ t.plot p = some { e with copied := setBit j true e.copied, charged := false } ∧
      s.blockDone p bad = (t.admitCopy p).readNext p := by
  simp only [st, place] at more
  unfold State.blockDone
  simp only [here, next, charged, copy, medium, st, place, reduceCtorEq, decide_false, Bool.not_true, Bool.or_self, Bool.false_and,
    Bool.false_eq_true, if_false, if_neg more]
  refine ⟨_, ?_, State.plot_setPlot p _, rfl⟩
  refine SameStore.trans ?_ (State.setPlot_sameStore p _ _)
  refine SameStore.trans ?_ (State.moveWrites_sameStore p _ j _)
  refine SameStore.trans ?_ (State.farDrop_sameStore _ _)
  refine SameStore.trans (State.moveReads_sameStore p e j bad (s.moveReads p e j bad (fun _ => true)).1 (fun _ => true) 2 s) ?_
  exact ⟨rfl, rfl⟩

/-- A block of a write-back is no longer dirty; the move goes on. -/
theorem State.blockDone_demoting (st : e.st = .demoting) (home : e.fmove = false) (wanted : e.cancel = false)
    (more : setBit j false e.dirty ≠ 0#16) :
    ∃ t, SameStore s t ∧ t.plot p = some { e with dirty := setBit j false e.dirty, charged := false } ∧
      s.blockDone p bad = t.admitCopy p := by
  unfold State.blockDone
  simp only [here, next, charged, copy, medium, st, place, home, wanted, decide_true, Bool.not_true, Bool.or_self, Bool.false_and,
    Bool.and_false, Bool.false_eq_true, if_false, if_neg more]
  refine ⟨_, ?_, State.plot_setPlot p _, rfl⟩
  refine SameStore.trans ?_ (State.setPlot_sameStore p _ _)
  refine SameStore.trans ?_ (State.moveWrites_sameStore p _ j _)
  refine SameStore.trans (State.moveReads_sameStore p e j bad (s.moveReads p e j bad (fun _ => true)).1 (fun _ => true) 2 s) ?_
  exact ⟨rfl, rfl⟩

end

end

/-- Settles O31: each boundary maps the plots, each claim goes by its row, and a copied block goes into its move's mask. -/
theorem agesCountsAndClaimsOfPlots : Obligations.AgesCountsAndClaimsOfPlots := by
  refine ⟨fun v s => rfl, fun s => rfl, ?decay, ?sweep, fun h s => exec_coldClassify_none, ?cold, fun h s => rfl, ?auto,
    fun i w s => exec_claimWaitExpire, fun i s => exec_claimWaitExpire_unknown, fun n bad s => rfl, ?gone, ?promoting, ?demoting⟩
  case decay =>
    exact fun s => ⟨_, rfl, fun p => State.plot_mapPlots _ p s, rfl, rfl⟩
  case sweep =>
    intro h s clock
    refine ⟨_, exec_ageSweep h s, fun p e here home => ?_, fun p away => ?_, rfl⟩
    · obtain ⟨young, only, kept⟩ := e.swept_bounded clock home
      exact ⟨_, by rw [State.plot_mapPlots, here]; rfl, young, only, kept⟩
    · rw [State.plot_mapPlots]
      cases s.plot p with
      | none => rfl
      | some e => exact congrArg some (e.swept_other away)
  case cold =>
    rintro h p _ e c s plots home near cold claims auto rfl pins wish place
    have here : s.plot p = some e := by simp [State.plot, plots, tfind]
    exact ⟨_, exec_coldClassify_one plots home near cold claims auto, State.removeClaim_last here near claims rfl pins wish place⟩
  case auto =>
    intro i w s found auto
    refine ⟨_, exec_claimWaitExpire found, ?_⟩
    rw [State.dropWait_auto auto]
    exact ⟨rfl, rfl, rfl⟩
  case gone =>
    intro n bad s gone
    have idle : s.blockDone n.toNat bad = s := by simp [State.blockDone, gone]
    change Host.Outcome.next (s.blockDone n.toNat bad).asgnResume = _
    rw [idle]
  case promoting =>
    intro n bad e j k s here st place next charged copy medium low other fresh idle
    have left : bit k (setBit j true e.copied) = false := (bit_setBit_other _ _ other).trans fresh
    have more : ({ e with copied := setBit j true e.copied, charged := false } : Plot).nextBlock ≠ none :=
      Plot.nextBlock_of_fresh st low left
    obtain ⟨t, same, mid, run⟩ := State.blockDone_promoting bad here charged place next copy medium st more
    obtain ⟨kept, b, after⟩ := State.admitCopy_charge mid
    rw [State.readNext_ownPlace after place] at run
    have all := same.trans kept
    refine ⟨_, congrArg Host.Outcome.next (by rw [run]; exact State.asgnResume_of_none (all.pend.trans idle)), _, after, st, ?_, left,
      all.mem⟩
    exact bit_setBit _ _ (Plot.nextBlock_lt next)
  case demoting =>
    intro n bad e j k s here st home place wanted next charged copy medium low other dirty idle
    have left : bit k (setBit j false e.dirty) = true := (bit_setBit_other _ _ other).trans dirty
    have more : setBit j false e.dirty ≠ 0#16 := by
      intro zero
      rw [zero] at left
      simp [bit] at left
    obtain ⟨t, same, mid, run⟩ := State.blockDone_demoting bad here charged place next copy medium st home wanted more
    obtain ⟨kept, b, after⟩ := State.admitCopy_charge mid
    have all := same.trans kept
    refine ⟨_, congrArg Host.Outcome.next (by rw [run]; exact State.asgnResume_of_none (all.pend.trans idle)), _, after, st, ?_, left,
      all.mem⟩
    exact bit_setBit _ _ (Plot.nextBlock_lt next)

end Sys2Proof.Machine


/-! The steward's calendar commands (R118, R119, Table ALM-8). -/

namespace Sys2Proof.Machine

open Safety

section
variable {n : CalId} {i : BitVec 4} {u : Tenant} {src : BitVec 2} {c : Cal} {v : Cursor} {s : State}

/-! The checks that the commands share. -/

section
variable (bad denied : Cal → Bool)

theorem State.bindCheck_conflict (conflict : s.conflict = true) : s.bindCheck n.toNat bad denied = (.stewardConflict, none) := by
  simp [State.bindCheck, conflict]

theorem State.bindCheck_unloaded (whole : s.conflict = false) (unloaded : s.cal n.toNat = none) :
    s.bindCheck n.toNat bad denied = (.badDescriptor, none) := by
  simp [State.bindCheck, whole, unloaded]

theorem State.bindCheck_loading (whole : s.conflict = false) (loaded : s.cal n.toNat = some c) (loading : c.loading ≠ none) :
    s.bindCheck n.toNat bad denied = (.slotBusy, none) := by
  have runs : c.loading.isSome = true := Option.isSome_iff_ne_none.mpr loading
  simp [State.bindCheck, whole, loaded, runs]

/-- Of a loaded calendar that no load writes, the command's own checks decide. -/
theorem State.bindCheck_loaded (whole : s.conflict = false) (loaded : s.cal n.toNat = some c) (idle : c.loading = none) :
    s.bindCheck n.toNat bad denied =
      (if bad c then (.badDescriptor, none) else if denied c then (.permission, none) else (.ok, some c)) := by
  simp [State.bindCheck, whole, loaded, idle]

end

/-! The commands on a calendar that is loaded and that no load writes. -/

theorem State.cal_setCal_other {n d : Nat} (c : Cal) (h : d ≠ n) : (s.setCal n c).cal d = s.cal d := tfind_tput_other _ h _

theorem State.cal_delCal_other {n d : Nat} (h : d ≠ n) : (s.delCal n).cal d = s.cal d := tfind_tdel_other h _

theorem State.cal_bindStatus (st : Status) (n : Nat) : (s.bindStatus st).cal n = s.cal n := rfl

theorem State.stw_bindStatus_ok : (s.bindStatus .ok).stw Reg.ALM_BSTAT = 0#32 := State.stw_setStw _ _

section
variable (whole : s.conflict = false) (loaded : s.cal n.toNat = some c) (idle : c.loading = none)
include whole loaded idle

section
variable (own : c.cursors.any (fun e => e.1 ≠ 0 && e.2.tenant = u.toNat) = false) (form : src ≠ 3#2)
include own form

theorem exec_almNewOwner_ok (mapped : s.entriesMapped u.toNat c.entries = true) :
    exec (.almNewOwner n u src) s = .next ((s.setCal n.toNat { c.unbind 0 with
      owner := u.toNat, cursors := tput 0 { tenant := u.toNat, src := src } (c.unbind 0).cursors }).bindStatus .ok) := by
  change execAlmNewOwner n u src s = _
  simp only [execAlmNewOwner, State.bindCheck_loaded _ _ whole loaded idle, form, own, mapped, decide_false, Bool.or_self,
    Bool.not_true, Bool.false_eq_true, if_false]

theorem exec_almNewOwner_unmapped (unmapped : s.entriesMapped u.toNat c.entries = false) :
    exec (.almNewOwner n u src) s = .next (s.bindStatus .permission) := by
  change execAlmNewOwner n u src s = _
  simp only [execAlmNewOwner, State.bindCheck_loaded _ _ whole loaded idle, form, own, unmapped, decide_false, Bool.or_self,
    Bool.not_false, Bool.false_eq_true, if_false, if_true]

end

theorem exec_almNewOwner_bad (bad : src = 3#2 ∨ c.cursors.any (fun e => e.1 ≠ 0 && e.2.tenant = u.toNat) = true) :
    exec (.almNewOwner n u src) s = .next (s.bindStatus .badDescriptor) := by
  change execAlmNewOwner n u src s = _
  rcases bad with h | h <;>
    simp only [execAlmNewOwner, State.bindCheck_loaded _ _ whole loaded idle, h, decide_true, Bool.true_or, Bool.or_true, if_true]

section
variable (bound : i ≠ 0#4) (tenant : c.cursorOf u.toNat = none) (cursor : tfind i.toNat c.cursors = none) (form : src ≠ 3#2)
include bound tenant cursor form

theorem exec_almBind_ok (mapped : s.entriesMapped u.toNat c.entries = true) :
    exec (.almBind n i u src) s = .next ((s.setCal n.toNat { c with
      cursors := tput i.toNat { tenant := u.toNat, src := src } c.cursors }).bindStatus .ok) := by
  change execAlmBind n i u src s = _
  simp only [execAlmBind, State.bindCheck_loaded _ _ whole loaded idle, bound, tenant, cursor, form, mapped, Option.isSome_none,
    decide_false, Bool.or_self, Bool.not_true, Bool.false_eq_true, if_false]

theorem exec_almBind_unmapped (unmapped : s.entriesMapped u.toNat c.entries = false) :
    exec (.almBind n i u src) s = .next (s.bindStatus .permission) := by
  change execAlmBind n i u src s = _
  simp only [execAlmBind, State.bindCheck_loaded _ _ whole loaded idle, bound, tenant, cursor, form, unmapped, Option.isSome_none,
    decide_false, Bool.or_self, Bool.not_false, Bool.false_eq_true, if_false, if_true]

end

theorem exec_almBind_bad (bad : i = 0#4 ∨ (c.cursorOf u.toNat).isSome = true ∨ (tfind i.toNat c.cursors).isSome = true ∨ src = 3#2) :
    exec (.almBind n i u src) s = .next (s.bindStatus .badDescriptor) := by
  change execAlmBind n i u src s = _
  rcases bad with h | h | h | h <;>
    simp only [execAlmBind, State.bindCheck_loaded _ _ whole loaded idle, h, decide_true, Bool.true_or, Bool.or_true, if_true]

theorem exec_almUnbind_ok (bound : i ≠ 0#4) :
    exec (.almUnbind n i) s = .next ((s.setCal n.toNat (c.unbind i.toNat)).bindStatus .ok) := by
  change execAlmUnbind n i s = _
  simp only [execAlmUnbind, State.bindCheck_loaded _ _ whole loaded idle, bound, decide_false, Bool.false_eq_true, if_false]

theorem exec_almUnbind_zero : exec (.almUnbind n 0#4) s = .next (s.bindStatus .badDescriptor) := by
  change execAlmUnbind n 0#4 s = _
  simp only [execAlmUnbind, State.bindCheck_loaded _ _ whole loaded idle, decide_true, if_true]

theorem exec_almClearPosition :
    exec (.almClearPosition n i) s =
      .next ((s.modCursor n.toNat i.toNat (fun v => { v with pos := none })).bindStatus .ok) := by
  change execAlmClearPosition n i s = _
  simp only [execAlmClearPosition, State.bindCheck_loaded _ _ whole loaded idle, Bool.false_eq_true, if_false]

theorem exec_almReclaimUnload : exec (.almReclaimUnload n) s = .next ((s.delCal n.toNat).bindStatus .ok) := by
  change execAlmReclaimUnload n s = _
  simp only [execAlmReclaimUnload, State.bindCheck_loaded _ _ whole loaded idle, Bool.false_eq_true, if_false]

end

theorem State.modCursor_bound {n i : Nat} (f : Cursor → Cursor) (loaded : s.cal n = some c) (bound : tfind i c.cursors = some v) :
    s.modCursor n i f = s.setCal n { c with cursors := tput i (f v) c.cursors } := by
  simp only [State.modCursor, loaded, bound]

theorem State.modCursor_unbound {n i : Nat} (f : Cursor → Cursor) (loaded : s.cal n = some c) (unbound : tfind i c.cursors = none) :
    s.modCursor n i f = s := by
  simp only [State.modCursor, loaded, unbound]

/-! A command that its checks refuse at the gate. -/

/-- Where the shared checks refuse every command, each writes the status only. -/
theorem exec_alm_refused {st : Status} (gate : ∀ bad denied, s.bindCheck n.toNat bad denied = (st, none)) :
    exec (.almBind n i u src) s = .next (s.bindStatus st) ∧ exec (.almUnbind n i) s = .next (s.bindStatus st) ∧
    exec (.almClearPosition n i) s = .next (s.bindStatus st) ∧ exec (.almReclaimUnload n) s = .next (s.bindStatus st) ∧
    exec (.almNewOwner n u src) s = .next (s.bindStatus st) := by
  refine ⟨?_, ?_, ?_, ?_, ?_⟩
  · change execAlmBind n i u src s = _
    simp only [execAlmBind, gate]
  · change execAlmUnbind n i s = _
    simp only [execAlmUnbind, gate]
  · change execAlmClearPosition n i s = _
    simp only [execAlmClearPosition, gate]
  · change execAlmReclaimUnload n s = _
    simp only [execAlmReclaimUnload, gate]
  · change execAlmNewOwner n u src s = _
    simp only [execAlmNewOwner, gate]

end

/-- Settles O33: each command by the checks of Table ALM-8, in their order. -/
theorem calendarsAreBoundClearedAndReclaimed : Obligations.CalendarsAreBoundClearedAndReclaimed := by
  refine ⟨fun n i u src c s whole loaded idle bound tenant cursor form mapped =>
      exec_almBind_ok whole loaded idle bound tenant cursor form mapped,
    fun n i c s whole loaded idle bound => exec_almUnbind_ok whole loaded idle bound, ?clear, ?unload, ?owner,
    fun n i u src s conflict => exec_alm_refused (fun bad denied => State.bindCheck_conflict bad denied conflict),
    fun n i u src s whole unloaded => exec_alm_refused (fun bad denied => State.bindCheck_unloaded bad denied whole unloaded),
    fun n i u src c s whole loaded loading => exec_alm_refused (fun bad denied => State.bindCheck_loading bad denied whole loaded loading),
    fun n u src c s whole loaded idle => ⟨exec_almBind_bad whole loaded idle (.inl rfl), exec_almUnbind_zero whole loaded idle⟩,
    fun n i u src c s whole loaded idle bound tenant cursor form unmapped =>
      exec_almBind_unmapped whole loaded idle bound tenant cursor form unmapped,
    fun n i u src c s whole loaded idle => ⟨fun bad => exec_almBind_bad whole loaded idle (.inr bad),
      fun bad => exec_almNewOwner_bad whole loaded idle bad,
      fun form own unmapped => exec_almNewOwner_unmapped whole loaded idle own form unmapped, ?unbound⟩⟩
  case clear =>
    intro n i c v s whole loaded idle bound
    rw [exec_almClearPosition whole loaded idle, State.modCursor_bound _ loaded bound]
  case unload =>
    intro n c s whole loaded idle
    refine ⟨_, exec_almReclaimUnload whole loaded idle, ?_, fun d hd => ?_, State.stw_bindStatus_ok, rfl⟩
    · rw [State.cal_bindStatus, State.cal_delCal]
    · rw [State.cal_bindStatus, State.cal_delCal_other hd]
  case owner =>
    intro n u src c s whole loaded idle form own mapped
    refine ⟨_, exec_almNewOwner_ok whole loaded idle own form mapped, _, State.cal_setCal _ _, rfl, tfind_tput_same _ _ _, rfl,
      fun d hd => ?_, State.stw_bindStatus_ok⟩
    rw [State.cal_bindStatus, State.cal_setCal_other _ hd]
  case unbound =>
    intro unbound
    refine ⟨_, exec_almClearPosition whole loaded idle, State.stw_bindStatus_ok, ?_, ?_⟩
    · rw [State.cal_bindStatus, State.modCursor_unbound _ loaded unbound, loaded]
    · rw [State.modCursor_unbound _ loaded unbound]
      rfl

end Sys2Proof.Machine


/-! Marks move cursors; the first position fires nothing (R106 to R108, R117, R120). -/

namespace Sys2Proof.Machine

open Safety

section
variable {u : Tenant} {m : W32} {k : Cal} {i : Nat} {v : Cursor} {s : State}

/-! A mark where it is written. -/

/-- The calendar that a tenant's marks go to. -/
def State.markCal (u : Tenant) (s : State) : Nat := s.barF u.toNat Reg.ALM_MSEL 9 0

theorem exec_almMark_cut (split : s.split = true) (across : tenantHalf u.toNat ≠ calHalf (s.markCal u)) :
    exec (.almMark u m) s = .next (s.cntBar u.toNat Reg.ALM_MERR 31 16 1) := by
  change execAlmMark u m s = _
  rw [State.markCal] at across
  simp [execAlmMark, State.writeMark, State.sendMark, split, across, State.merrIgnored]

section
variable (whole : s.split = false)
include whole

theorem exec_almMark_unloaded (unloaded : s.cal (s.markCal u) = none) :
    exec (.almMark u m) s = .next (s.cntBar u.toNat Reg.ALM_MERR 31 16 1) := by
  change execAlmMark u m s = _
  rw [State.markCal] at unloaded
  simp [execAlmMark, State.writeMark, State.sendMark, whole, unloaded, State.merrIgnored]

section
variable (loaded : s.cal (s.markCal u) = some k) (bound : k.cursorOf u.toNat = some (i, v)) (takes : v.src ≠ 1#2)
include loaded bound takes

theorem exec_almMark_sent (layer : markLayer m < k.layers) :
    exec (.almMark u m) s = .next (s.modAlm (fun a => { a with
      updates := a.updates ++ [.mark (tenantHalf u.toNat) none (s.markCal u) u.toNat m] })) := by
  change execAlmMark u m s = _
  rw [State.markCal] at loaded
  simp [execAlmMark, State.writeMark, State.sendMark, whole, loaded, bound, takes, Nat.not_le.mpr layer, State.markCal]

theorem exec_almMark_outside (layer : k.layers ≤ markLayer m) :
    exec (.almMark u m) s = .next (s.cntBar u.toNat Reg.ALM_MERR 15 0 1) := by
  change execAlmMark u m s = _
  rw [State.markCal] at loaded
  simp [execAlmMark, State.writeMark, State.sendMark, whole, loaded, bound, takes, layer, State.merrBad]

end
end

/-! Updates at a calendar. -/

theorem exec_cursorUpdate_queued {c : Nat} {x : AlmUpd} (queued : s.queuedUpd = some (c, i, x)) (loaded : s.cal c = some k) :
    exec .cursorUpdate s = .next (((s.setCal c { k with queue := dropFirst i k.queue }).commitReady c).applyUpd c i x) := by
  change execCursorUpdate s = _
  simp only [execCursorUpdate, queued, loaded]

theorem exec_cursorUpdate_arrives {x : AlmUpd} {r : List AlmUpd} (queued : s.queuedUpd = none) (updates : s.alm.updates = x :: r) :
    exec .cursorUpdate s = .next ((s.modAlm (fun a => { a with updates := r })).arriveUpd x) := by
  change execCursorUpdate s = _
  simp only [execCursorUpdate, queued, updates]

theorem exec_cursorUpdate_idle (queued : s.queuedUpd = none) (updates : s.alm.updates = []) : exec .cursorUpdate s = .next s := by
  change execCursorUpdate s = _
  simp only [execCursorUpdate, queued, updates]

theorem State.commitReady_idle {n : Nat} (loaded : s.cal n = some k) (idle : k.loading = none) : s.commitReady n = s := by
  simp only [State.commitReady, loaded, idle]

/-- The first position of a cursor is taken without firing. -/
theorem State.advance_first {c : Nat} {q : W32} (loaded : s.cal c = some k) (bound : tfind i k.cursors = some v) (first : v.pos = none) :
    s.advance c i q = s.setCal c { k with cursors := tput i { v with pos := some q } k.cursors } := by
  simp only [State.advance, loaded, bound, first]
  exact State.modCursor_bound _ loaded bound

/-- A mark that arrives at a cursor at rest moves it. -/
theorem State.arriveUpd_atRest {h : Half} {c t : Nat} (loaded : s.cal c = some k) (holds : k.cursorOf t = some (i, v))
    (bound : tfind i k.cursors = some v) (queue : k.queue = []) (idle : k.loading = none) (acts : s.alm.acts = [])
    (free : s.calHeld k t = false) (takes : v.src ≠ 1#2) (layer : markLayer m < k.layers) :
    s.arriveUpd (.mark h none c t m) = s.advance c i m := by
  have rest : s.batchRuns c i = false := by simp [State.batchRuns, acts]
  have ready : s.commitReady c = s := State.commitReady_idle loaded idle
  simp [State.arriveUpd, AlmUpd.cal, AlmUpd.tenant, ready, loaded, holds, State.markDone, queue, idle, rest, free, State.applyUpd,
    bound, takes, layer]

/-! The plot actions of a batch. -/

theorem exec_almanacAction {q r : List AlmAct} {a : AlmAct} (next : s.nextAct = some (q, a, r)) {rest : List AlmAct}
    (hr : rest = q ++ (if a.left ≤ 1 then r else { a with plot := a.plot + 1, left := a.left - 1 } :: r)) :
    exec .almanacAction s = .next (if rest.any (fun x => x.firing = a.firing) then
        ((s.modAlm (fun x => { x with acts := rest })).takeAct a).settle
          (((s.modAlm (fun x => { x with acts := rest })).takeAct a).resolvePlot a.tenant a.plot)
      else (((s.modAlm (fun x => { x with acts := rest })).takeAct a).settle
        (((s.modAlm (fun x => { x with acts := rest })).takeAct a).resolvePlot a.tenant a.plot)).firingIssued a.cal a.cursor
          a.firing) := by
  subst hr
  change execAlmanacAction s = _
  simp only [execAlmanacAction, next]

theorem exec_almanacAction_idle (idle : s.nextAct = none) : exec .almanacAction s = .next s := by
  change execAlmanacAction s = _
  simp only [execAlmanacAction, idle]

section
variable {a : AlmAct} (whole : s.split = false)
include whole

theorem State.takeAct_absent (absent : s.plot (s.resolvePlot a.tenant a.plot) = none) : s.takeAct a = s := by
  simp [State.takeAct, whole, absent]

section
variable {e : Plot} (here : s.plot (s.resolvePlot a.tenant a.plot) = some e) (held : e.st ≠ .unwritten) (kept : e.st ≠ .farLost)
include here held kept

theorem State.takeAct_claim (claim : (aentOf a.entry).action = 0 ∨ (aentOf a.entry).action = 1) :
    s.takeAct a = (s.watchPlot a.cal a.cursor a.firing (s.resolvePlot a.tenant a.plot)).askClaim (s.resolvePlot a.tenant a.plot)
      a.tenant (aentOf a.entry).cls (.alm a.cal a.cursor a.firing (decide ((aentOf a.entry).action = 1))) := by
  rcases claim with h | h <;> simp [State.takeAct, whole, here, held, kept, h]

theorem State.takeAct_drop (action : (aentOf a.entry).action = 3) (near : (aentOf a.entry).dropStg = false) :
    s.takeAct a = s.removeClaim (s.resolvePlot a.tenant a.plot) a.tenant (aentOf a.entry).cls false := by
  simp [State.takeAct, whole, here, held, kept, action, near]

end
end

/-! Loads. -/

section
variable {n : CalId} {c : Cal} {b : List Byte}

theorem exec_almanacLoadCommit (loaded : s.cal n.toNat = some c) (loading : c.loading = some (i, b))
    (rest : s.alm.acts.any (fun a => a.cal = n.toNat) = false) :
    exec (.almanacLoadCommit n) s = .next ((s.commitCal n.toNat c.owner b).modOp i (fun o => { o with done := some .ok })) := by
  change Host.Outcome.next (s.commitReady n.toNat) = _
  have still : s.calRuns n.toNat = false := rest
  simp [State.commitReady, loaded, loading, still]

theorem exec_almanacLoadCommit_waits (loaded : s.cal n.toNat = some c) (runs : s.alm.acts.any (fun a => a.cal = n.toNat) = true) :
    exec (.almanacLoadCommit n) s = .next s := by
  change Host.Outcome.next (s.commitReady n.toNat) = _
  have busy : s.calRuns n.toNat = true := runs
  cases h : c.loading <;> simp [State.commitReady, loaded, h, busy]

theorem exec_almanacLoadCommit_idle (idle : s.cal n.toNat = none ∨ (∃ c, s.cal n.toNat = some c ∧ c.loading = none)) :
    exec (.almanacLoadCommit n) s = .next s := by
  change Host.Outcome.next (s.commitReady n.toNat) = _
  rcases idle with h | ⟨c, h, load⟩
  · simp only [State.commitReady, h]
  · rw [State.commitReady_idle h load]

/-- An image loaded into a free calendar: its entries, layers and triggers, and a cursor of its owner with no position. -/
theorem State.cal_commitCal_free {n t : Nat} (form : (aimgOf b).layers ≠ 0) (free : s.cal n = none) :
    (s.commitCal n t b).cal n = some {
      owner := t, layers := (aimgOf b).layers, fwdmax := (aimgOf b).fwdmax, entries := (aimgOf b).entries,
      triggers := (aimgOf b).triggers, cursors := [(0, { tenant := t, src := BitVec.ofNat 2 (aimgOf b).src0 })] } := by
  simp [State.commitCal, form, free]

end
end

/-- Settles O32: marks by their checks, the first position of a cursor, and the actions and loads of a calendar. -/
theorem marksMoveCursors : Obligations.MarksMoveCursors := by
  refine ⟨fun u m k i v s loaded bound takes layer whole => exec_almMark_sent whole loaded bound takes layer,
    fun u m s unloaded whole => exec_almMark_unloaded whole unloaded,
    fun u m k i v s loaded bound takes layer whole => exec_almMark_outside whole loaded bound takes layer,
    fun u m s => exec_almMark_cut, fun c i x k s => exec_cursorUpdate_queued, fun s => exec_cursorUpdate_idle,
    fun s => exec_almanacAction_idle, ?first, fun x r s => exec_cursorUpdate_arrives, fun q r rest a s next hr => exec_almanacAction next hr,
    fun a e s whole here held kept => ⟨State.takeAct_claim whole here held kept, State.takeAct_drop whole here held kept⟩,
    fun a s => State.takeAct_absent, fun n c i b s => exec_almanacLoadCommit, fun n c s => exec_almanacLoadCommit_waits,
    fun n s => exec_almanacLoadCommit_idle, ?load, ?bind⟩
  case first =>
    intro h c t i m r k v s acts queued updates loaded holds bound queue idle free takes layer start
    have run : exec .cursorUpdate s = .next ((s.modAlm (fun a => { a with updates := r })).setCal c
        { k with cursors := tput i { v with pos := some m } k.cursors }) := by
      rw [exec_cursorUpdate_arrives queued updates]
      have arrives := State.arriveUpd_atRest (s := s.modAlm (fun a => { a with updates := r })) (h := h) loaded holds bound queue idle
        acts free takes layer
      rw [arrives, State.advance_first (s := s.modAlm (fun a => { a with updates := r })) loaded bound start]
    exact ⟨_, run, rfl, State.cal_setCal _ _, fun d hd => State.cal_setCal_other _ hd, acts, rfl⟩
  case load =>
    intro n t b s form free
    refine ⟨_, State.cal_commitCal_free form free, rfl, rfl, rfl, rfl, fun x hx => ?_⟩
    rw [List.mem_singleton.mp hx]
  case bind =>
    intro n i u src c s whole loaded idle bound tenant cursor form mapped
    exact ⟨_, exec_almBind_ok whole loaded idle bound tenant cursor form mapped, _, _, State.cal_setCal _ _, tfind_tput_same _ _ _, rfl⟩

end Sys2Proof.Machine


/-! Decode table slots, their commands and scale windows (R150, R151, R158, Tables CMP-11, CMP-23 and CMP-24). -/

namespace Sys2Proof.Machine

open Safety

section
variable {s : State}

/-! Table slots. -/

theorem State.tslot_tcmdStatus (st : Status) (n : Nat) (s : State) : (s.tcmdStatus st).tslot n = s.tslot n := rfl

theorem exec_tableGenerationRetire {n : BitVec 8} {g : Gen} (drain : (s.tslot n.toNat).drain = some g) :
    exec (.tableGenerationRetire n) s = .next (if s.boundTo n.toNat g.gen = 0 then
      s.setTslot n.toNat (if (s.tslot n.toNat).cur.isNone then {} else { s.tslot n.toNat with drain := none }) else s) := by
  change execTableGenerationRetire n s = _
  simp only [execTableGenerationRetire, drain]
  split <;> rfl

/-- An unloaded generation drains where a block is bound to it, and is gone at once where none is. -/
theorem State.tslot_unloadTable {n : Nat} {g : Gen} (cur : (s.tslot n).cur = some g) :
    (s.unloadTable n).tslot n = if s.boundTo n g.gen = 0 then {} else { s.tslot n with cur := none, drain := some g } := by
  simp only [State.unloadTable, cur]
  split <;> simp

theorem exec_cmpTableUnload (s : State) : exec .cmpTableUnload s =
    .next ((if s.tcmdCheck false true = .ok then s.unloadTable s.tsel else s).tcmdStatus (s.tcmdCheck false true)) := rfl

theorem exec_cmpTableOwner (u : Tenant) (s : State) : exec (.cmpTableOwner u) s =
    .next ((if s.tcmdCheck false false = .ok then s.setTslot s.tsel { s.tslot s.tsel with owner := u.toNat } else s).tcmdStatus
      (s.tcmdCheck false false)) := rfl

theorem exec_cmpTcmdReserved (s : State) :
    exec .cmpTcmdReserved s = .next (s.tcmdStatus (if s.conflict then .stewardConflict else .badDescriptor)) := by
  change Host.Outcome.next (s.tcmdStatus (s.tcmdCheck true false)) = _
  simp [State.tcmdCheck]

/-! Scale windows. -/

theorem exec_scaleWindowEnable {n : BitVec 6} {v new : W32} {w : SWin}
    (hn : new = (v &&& 0xFF#32) ||| (s.stw (Reg.CMP_SW_CTL + 32 * n.toNat) &&& 0x40000000#32 &&& ~~~v))
    (hw : w = (s.setStw (Reg.CMP_SW_CTL + 32 * n.toNat) new).swin n.toNat) :
    exec (.scaleWindowEnable n v) s = .next (if bit 31 v then
      if layOk w.fmt w.lay && (s.setStw (Reg.CMP_SW_CTL + 32 * n.toNat) new).swinFree n.toNat w then
        (s.setStw (Reg.CMP_SW_CTL + 32 * n.toNat) new).setStw (Reg.CMP_SW_CTL + 32 * n.toNat) (setBit 31 true new)
      else (s.setStw (Reg.CMP_SW_CTL + 32 * n.toNat) new).setStw (Reg.CMP_SW_CTL + 32 * n.toNat) (setBit 30 true new)
    else s.setStw (Reg.CMP_SW_CTL + 32 * n.toNat) new) := by
  subst hw hn
  change execScaleWindowEnable n v s = _
  unfold execScaleWindowEnable
  dsimp only
  split
  · split <;> rfl
  · rfl

end

/-- Settles O34: the slots by their checks, and a scale window by its layout and its plots. -/
theorem tableSlotsAndScaleWindows : Obligations.TableSlotsAndScaleWindows := by
  refine ⟨?retire, ?bound, ?unload, ?owner, ?unloaded, ?unloadRefused, ?ownerRefused, exec_cmpTcmdReserved, ?window⟩
  case retire =>
    intro n g s drain free
    refine ⟨_, exec_tableGenerationRetire drain, ?_⟩
    beta_reduce
    rw [if_pos free, State.tslot_setTslot]
    refine ⟨?_, ?_, rfl⟩
    · split <;> rfl
    · split
      · rename_i empty
        exact (Option.isNone_iff_eq_none.mp empty).symm
      · rfl
  case bound =>
    intro n g s drain bound
    rw [exec_tableGenerationRetire drain, if_neg bound]
  case unload =>
    intro s ok
    rw [exec_cmpTableUnload, ok, if_pos rfl]
  case owner =>
    intro u s ok
    refine ⟨_, exec_cmpTableOwner u s, ?_⟩
    beta_reduce
    rw [ok, if_pos rfl, State.tslot_tcmdStatus, State.tslot_setTslot]
    exact ⟨rfl, rfl, rfl, rfl⟩
  case unloaded =>
    intro n g s cur
    rw [State.tslot_unloadTable cur]
    split <;> exact ⟨rfl, rfl⟩
  case unloadRefused =>
    intro st s check refused
    rw [exec_cmpTableUnload, check, if_neg refused]
  case ownerRefused =>
    intro u st s check refused
    rw [exec_cmpTableOwner, check, if_neg refused]
  case window =>
    intro n v new w s hn hw
    refine ⟨_, exec_scaleWindowEnable hn hw, ?_⟩
    split
    · split <;> exact ⟨State.stw_setStw _ _, rfl⟩
    · exact ⟨State.stw_setStw _ _, rfl⟩

end Sys2Proof.Machine


/-! Submission rings are enabled, disabled and restarted (R233, R236, R241, R413). -/

namespace Sys2Proof.Machine

open Safety

/-! The word that an enable or a disable leaves. -/

theorem bit_or {n : Nat} (i : Nat) (a b : BitVec n) : bit i (a ||| b) = (bit i a || bit i b) := BitVec.getLsbD_or

theorem bits_or {n hi lo : Nat} (a b : BitVec n) : bits hi lo (a ||| b) = bits hi lo a ||| bits hi lo b := by
  rw [bits_eq, bits_eq, bits_eq, BitVec.toNat_or, Nat.shiftRight_or_distrib, Nat.or_mod_two_pow]

theorem bits_at32_zero {n hi : Nat} (h : hi < 32) (small : n < 2 ^ (hi + 1)) : bits hi 0 (at32 0 n) = n := by
  have le : (2 : Nat) ^ (hi + 1) ≤ 2 ^ 32 := Nat.pow_le_pow_right (by decide) (by omega)
  simp only [bits, fld, at32, BitVec.toNat_ofNat, pow_zero, Nat.mul_one, Nat.div_one, Nat.sub_zero]
  rw [Nat.mod_eq_of_lt (lt_of_lt_of_le small le), Nat.mod_eq_of_lt small]

theorem bit_at32_zero {n : Nat} (i : Nat) (small : n < 2 ^ i) : bit i (at32 0 n) = false := by
  simp only [bit, at32, pow_zero, Nat.mul_one, BitVec.getLsbD_ofNat, Nat.testBit_lt_two_pow small, Bool.and_false]

/-- CFG of a ring with its enable, its second flag and its size. -/
def ringWord (en flag : Bool) (size : Nat) : W32 := at32 31 (b2n en) ||| at32 30 (b2n flag) ||| at32 0 size

theorem bit_ringWord {en flag : Bool} {size : Nat} (small : size < 32) : bit 31 (ringWord en flag size) = en := by
  have none : bit 31 (at32 0 size) = false := bit_at32_zero 31 (by omega)
  rw [ringWord, bit_or, bit_or, none]
  cases en <;> cases flag <;> rfl

theorem bits_ringWord {en flag : Bool} {size : Nat} (small : size < 32) : bits 4 0 (ringWord en flag size) = size := by
  rw [ringWord, bits_or, bits_or, bits_at32_zero (by decide) small]
  cases en <;> cases flag <;> simp [show bits 4 0 (at32 31 1) = 0 from rfl, show bits 4 0 (at32 30 1) = 0 from rfl,
    show bits 4 0 (at32 31 0) = 0 from rfl, show bits 4 0 (at32 30 0) = 0 from rfl, b2n]

theorem clampSize_lt (n : Nat) : clampSize n < 32 := by
  unfold clampSize
  omega

theorem bits_lt {n : Nat} (hi lo : Nat) (w : BitVec n) : bits hi lo w < 2 ^ (hi + 1 - lo) := Nat.mod_lt _ (Nat.two_pow_pos _)

section
variable {t : Tenant} {r : BitVec 4} {v : W32} {s : State}

/-- The bytes of a ring's word. -/
def State.setSqCfg (t r : Nat) (w : W32) (s : State) : State := s.setBar t (Reg.DSC_SQ_CFG + 32 * r) w

theorem State.bar_setSqCfg (t r : Nat) (w : W32) (s : State) : (s.setSqCfg t r w).bar t (Reg.DSC_SQ_CFG + 32 * r) = w :=
  State.bar_setBar _ _ _

/-! What giving up a fetch leaves of the rings. -/

/-- A ring with nothing fetched. -/
def Ring.voided (g : Ring) : Ring := { g with fetched := [], fetching := false, waitCq := false, waitSlot := none }

theorem State.ring_voidFetch (t r : Nat) (s : State) : (s.voidFetch t r).ring t r = (s.ring t r).voided := State.ring_setRing t r _

theorem State.ring_voidFetch_other {t r n q : Nat} (h : 16 * n + q ≠ 16 * t + r) (s : State) :
    (s.voidFetch t r).ring n q = s.ring n q :=
  tget_tset_other _ _ _ h _

theorem State.ring_modRing_other {t r n q : Nat} (f : Ring → Ring) (h : 16 * n + q ≠ 16 * t + r) (s : State) :
    (s.modRing t r f).ring n q = s.ring n q :=
  State.ring_setRing_other _ h

theorem State.ring_modRing (t r : Nat) (f : Ring → Ring) (s : State) : (s.modRing t r f).ring t r = f (s.ring t r) :=
  State.ring_setRing t r _

theorem State.ring_ringSettle (t r : Nat) (s : State) : (s.ringSettle t r).ring t r =
    if (s.ring t r).st = .disabling ∧ s.ringFlight t r = 0 then { s.ring t r with st := .disabled } else s.ring t r := by
  unfold State.ringSettle
  by_cases h : (s.ring t r).st = .disabling ∧ s.ringFlight t r = 0
  · rw [if_pos h, if_pos (by simpa using h), State.ring_modRing]
  · rw [if_neg h, if_neg (by simpa using h)]

theorem State.ring_ringSettle_other {t r n q : Nat} (h : 16 * n + q ≠ 16 * t + r) (s : State) :
    (s.ringSettle t r).ring n q = s.ring n q := by
  unfold State.ringSettle
  split
  · exact State.ring_modRing_other _ h s
  · rfl

theorem State.ops_ringSettle (t r : Nat) (s : State) : (s.ringSettle t r).ops = s.ops := by
  unfold State.ringSettle
  split <;> rfl

theorem State.bar_enabled (t r : Nat) (w : W32) (g : Ring) (s : State) :
    (((s.setSqCfg t r w).setRing t r g).voidFetch t r).bar t (Reg.DSC_SQ_CFG + 32 * r) = w :=
  State.bar_setBar t _ w

theorem State.ring_setSqCfg (t r n q : Nat) (w : W32) (s : State) : (s.setSqCfg t r w).ring n q = s.ring n q := rfl

theorem State.rings_setSqCfg (t r : Nat) (w : W32) (s : State) : (s.setSqCfg t r w).rings = s.rings := rfl

theorem State.setSqCfg_frame (t r : Nat) (w : W32) (s : State) :
    s.setSqCfg t r w = { s with reg := (s.setSqCfg t r w).reg } := rfl

theorem State.ops_disabling (t r : Nat) (w : W32) (g : Ring) (s : State) :
    (((s.setSqCfg t r w).setRing t r g).voidFetch t r).ops = s.ops := rfl

/-- What is in flight of a ring stays with its disable. -/
theorem State.ringFlight_disabling (t r n q : Nat) (w : W32) (g : Ring) (s : State) :
    (((s.setSqCfg t r w).setRing t r g).voidFetch t r).ringFlight n q = s.ringFlight n q := rfl

/-- A ring that an enable runs. -/
def Ring.opened (g : Ring) : Ring := { g with st := .running, head := 0, tail := 0 }

/-- A ring whose ERR is cleared, with its enable. -/
def Ring.cleared (on : Bool) (g : Ring) : Ring :=
  { g with err := false, st := if g.st = .stopped && g.err && on then .running else g.st }

/-! The commands. -/

theorem exec_ringEnable_disabled (st : (s.ring t.toNat r.toNat).st = .disabled) (ready : s.fnReady t.toNat .rings = true) :
    exec (.ringEnable t r v) s =
      .next (((s.setSqCfg t.toNat r.toNat (ringWord true (bit 30 v) (clampSize (bits 4 0 v)))).setRing t.toNat r.toNat
        (s.ring t.toNat r.toNat).opened).voidFetch t.toNat r.toNat) := by
  change execRingEnable t r v s = _
  simp only [execRingEnable, st, ready, if_true, decide_true, Bool.and_self]
  rfl

theorem exec_ringEnable_early (st : (s.ring t.toNat r.toNat).st = .disabled) (early : s.fnReady t.toNat .rings = false) :
    exec (.ringEnable t r v) s =
      .next (s.setSqCfg t.toNat r.toNat (ringWord false (bit 30 v) (clampSize (bits 4 0 v)))) := by
  change execRingEnable t r v s = _
  simp only [execRingEnable, st, early, if_true, decide_true, Bool.and_false, Bool.false_eq_true, if_false]
  rfl

theorem exec_ringEnable_other (st : (s.ring t.toNat r.toNat).st ≠ .disabled) :
    exec (.ringEnable t r v) s = .next (s.setSqCfg t.toNat r.toNat
      (ringWord ((s.ring t.toNat r.toNat).st ≠ .disabling) (bit 30 v) (bits 4 0 (s.sqCfg t.toNat r.toNat)))) := by
  change execRingEnable t r v s = _
  simp only [execRingEnable, st, if_false, decide_false, Bool.false_and, Bool.false_eq_true]
  rfl

/-- The size that a disable writes. -/
def State.disabledSize (t : Tenant) (r : BitVec 4) (v : W32) (s : State) : Nat :=
  if (s.ring t.toNat r.toNat).st = .disabled then clampSize (bits 4 0 v) else bits 4 0 (s.sqCfg t.toNat r.toNat)

theorem State.disabledSize_lt : s.disabledSize t r v < 32 := by
  unfold State.disabledSize
  split
  · exact clampSize_lt _
  · exact bits_lt 4 0 _

theorem exec_ringDisable (t : Tenant) (r : BitVec 4) (v : W32) (s : State) : exec (.ringDisable t r v) s = .next (
    let u := s.setSqCfg t.toNat r.toNat (at32 30 (b2n (bit 30 v)) ||| at32 0 (s.disabledSize t r v))
    if (s.ring t.toNat r.toNat).st = .running || (s.ring t.toNat r.toNat).st = .stopped then
      ((u.setRing t.toNat r.toNat { s.ring t.toNat r.toNat with st := .disabling }).voidFetch t.toNat r.toNat).ringSettle t.toNat r.toNat
    else u) := rfl

theorem exec_ringRestart (t : Tenant) (r : BitVec 4) (s : State) : exec (.ringRestart t r) s =
    .next (s.setRing t.toNat r.toNat ((s.ring t.toNat r.toNat).cleared (bit 31 (s.sqCfg t.toNat r.toNat)))) := rfl

end

/-- Settles O35: the word of the ring, and the ring where the command moves it. -/
theorem submissionRingsEnableDisableAndRestart : Obligations.SubmissionRingsEnableDisableAndRestart := by
  refine ⟨?enable, ?early, ?disable, fun t r v s => ⟨?enabled, ?disabled⟩, ?resume, ?kept⟩
  case enable =>
    intro t r v s st ready
    refine ⟨_, exec_ringEnable_disabled st ready, ?_⟩
    beta_reduce
    rw [State.ring_voidFetch, State.ring_setRing, State.bar_enabled, bits_ringWord (clampSize_lt _), bit_ringWord (clampSize_lt _)]
    refine ⟨rfl, rfl, rfl, rfl, rfl, fun n q h => ?_⟩
    rw [State.ring_voidFetch_other h, State.ring_setRing_other _ h, State.ring_setSqCfg]
  case early =>
    intro t r v s st early
    refine ⟨_, exec_ringEnable_early st early, State.rings_setSqCfg .., ?_, State.setSqCfg_frame ..⟩
    rw [State.bar_setSqCfg, bit_ringWord (clampSize_lt _)]
  case disable =>
    intro t r v s st
    refine ⟨_, exec_ringDisable t r v s, ?_⟩
    have moves : ((s.ring t.toNat r.toNat).st = .running || (s.ring t.toNat r.toNat).st = .stopped : Bool) = true := by simpa using st
    dsimp only
    rw [if_pos moves, State.ring_ringSettle, State.ring_voidFetch, State.ring_setRing, State.ringFlight_disabling]
    refine ⟨?_, ?_, (State.ops_ringSettle _ _ _).trans (State.ops_disabling ..), fun n q h => ?_⟩
    · by_cases idle : s.ringFlight t.toNat r.toNat = 0
      · rw [if_pos ⟨rfl, idle⟩, if_pos idle]
      · rw [if_neg (fun h => idle h.2), if_neg idle]
        rfl
    · split <;> rfl
    · rw [State.ring_ringSettle_other h, State.ring_voidFetch_other h, State.ring_setRing_other _ h, State.ring_setSqCfg]
  case enabled =>
    intro st
    refine ⟨_, exec_ringEnable_other st, State.setSqCfg_frame .., ?_⟩
    rw [State.bar_setSqCfg, bits_ringWord (bits_lt 4 0 _)]
  case disabled =>
    intro st
    refine ⟨_, exec_ringDisable t r v s, ?_⟩
    have stays : ((s.ring t.toNat r.toNat).st = .running || (s.ring t.toNat r.toNat).st = .stopped : Bool) = false := by
      rcases st with h | h <;> simp [h]
    dsimp only
    rw [stays, if_neg Bool.false_ne_true]
    refine ⟨rfl, ?_⟩
    have none : bit 31 (at32 0 (s.disabledSize t r v)) = false := bit_at32_zero 31 (by have := s.disabledSize_lt (t := t) (r := r) (v := v); omega)
    rw [State.bar_setSqCfg, bit_or, none]
    cases bit 30 v <;> rfl
  case resume =>
    intro t r s st err on
    rw [exec_ringRestart, on, Ring.cleared, st, err]
    rfl
  case kept =>
    intro t r s stays
    rw [exec_ringRestart, Ring.cleared, if_neg]
    rcases stays with h | h | h <;> simp [h]

end Sys2Proof.Machine


/-! Doorbells move the tails of rings (R49, R237 to R240). -/

namespace Sys2Proof.Machine

open Safety

/-- What one turn brings about, under what every turn keeps, holds after the loop. -/
theorem forAll_reaches_of {α σ : Type} {I P : σ → Prop} {f : α → σ → σ} {a : α} {l : List α} (mem : a ∈ l)
    (keeps : ∀ b ∈ l, ∀ s, I s → I (f b s)) (brings : ∀ s, I s → P (f a s)) (turn : ∀ b ∈ l, ∀ s, I s → P s → P (f b s))
    {s : σ} (start : I s) : P (forAll l f s) := by
  induction l generalizing s with
  | nil => cases mem
  | cons b r ih =>
    have kept : I (f b s) := keeps b List.mem_cons_self s start
    by_cases h : a ∈ r
    · exact ih h (fun c hc => keeps c (List.mem_cons_of_mem _ hc)) (fun c hc => turn c (List.mem_cons_of_mem _ hc)) kept
    · obtain rfl : a = b := by simpa [h] using mem
      refine (forAll_keeps (P := fun s => I s ∧ P s) r (fun c hc s hs => ?_) ⟨kept, brings s start⟩).2
      exact ⟨keeps c (List.mem_cons_of_mem _ hc) s hs.1, turn c (List.mem_cons_of_mem _ hc) s hs.1 hs.2⟩

section
variable {t r n : Nat} {s : State}

/-- A ring that a doorbell moves. -/
def Ring.rung (g : Ring) (tail : Nat) : Ring := { g with tail := tail }

theorem State.doorbell_of_live (serves : s.draining t = false) (live : (s.ring t r).st = .running ∨ (s.ring t r).st = .stopped) :
    s.doorbell t r n = s.setRing t r ((s.ring t r).rung (n % s.sqSize t r)) := by
  rw [State.doorbell, if_neg (by simp [serves])]
  rcases live with h | h <;> rw [h] <;> rfl

theorem State.doorbell_of_dead (serves : s.draining t = false) (dead : (s.ring t r).st = .disabled ∨ (s.ring t r).st = .disabling) :
    s.doorbell t r n = s := by
  rw [State.doorbell, if_neg (by simp [serves])]
  rcases dead with h | h <;> rw [h]

theorem State.doorbell_of_draining (drains : s.draining t = true) : s.doorbell t r n =
    (s.cntBar t Reg.PRT_FLR 31 16 1).modLd t (fun l => { l with drainRefused := l.drainRefused + 1 }) :=
  if_pos drains

/-- What a tenant's ring that runs keeps through doorbells. -/
def RunsWith (t r size : Nat) (s : State) : Prop := s.draining t = false ∧ (s.ring t r).st = .running ∧ s.sqSize t r = size

theorem RunsWith.setRing {size q : Nat} (h : RunsWith t r size s) (g : Ring)
    (st : r = q → g.st = .running) : RunsWith t r size (s.setRing t q g) := by
  obtain ⟨serves, run, hsize⟩ := h
  refine ⟨serves, ?_, hsize⟩
  by_cases same : r = q
  · subst same
    rw [State.ring_setRing, st rfl]
  · rw [State.ring_setRing_other g (by omega), run]

/-- A doorbell of a tenant that is not drained leaves the rings, or moves the tail of its own. -/
theorem State.doorbell_cases (q n : Nat) (serves : s.draining t = false) :
    s.doorbell t q n = s ∨ s.doorbell t q n = s.setRing t q ((s.ring t q).rung (n % s.sqSize t q)) := by
  cases st : (s.ring t q).st with
  | running => exact Or.inr (State.doorbell_of_live serves (.inl st))
  | stopped => exact Or.inr (State.doorbell_of_live serves (.inr st))
  | disabled => exact Or.inl (State.doorbell_of_dead serves (.inl st))
  | disabling => exact Or.inl (State.doorbell_of_dead serves (.inr st))

theorem RunsWith.doorbell {size : Nat} (h : RunsWith t r size s) (q n : Nat) : RunsWith t r size (s.doorbell t q n) := by
  rcases State.doorbell_cases q n h.1 with same | rung
  · rwa [same]
  · rw [rung]
    refine h.setRing _ (fun same => ?_)
    subst same
    exact h.2.1

theorem State.tail_doorbell {size : Nat} (h : RunsWith t r size s) : ((s.doorbell t r n).ring t r).tail = n % size := by
  rw [State.doorbell_of_live h.1 (.inl h.2.1), State.ring_setRing, h.2.2]
  rfl

theorem State.ring_doorbell_other {q : Nat} (serves : s.draining t = false) (other : r ≠ q) : (s.doorbell t q n).ring t r = s.ring t r := by
  rcases State.doorbell_cases q n serves with same | rung
  · rw [same]
  · rw [rung, State.ring_setRing_other _ (by omega)]

/-- The words of a line that is not poisoned act in order. -/
theorem State.tail_doorbellWords {d : Line} {be : W64} {size : Nat} (hr : r < 16) (h : RunsWith t r size s)
    (all : bits (4 * r + 3) (4 * r) be = 15) (valid : bit 31 (lineWord d r) = true) :
    ((s.doorbellWords t d be false).ring t r).tail = bits 15 0 (lineWord d r) % size := by
  rw [State.doorbellWords, if_neg Bool.false_ne_true]
  have acts : (decide (bits (4 * r + 3) (4 * r) be = 15) && bit 31 (lineWord d r)) = true := by simp [all, valid]
  refine forAll_reaches_of (I := RunsWith t r size) (P := fun s => (s.ring t r).tail = bits 15 0 (lineWord d r) % size)
    (List.mem_range.mpr hr) (fun q _ s hs => ?_) (fun s hs => ?_) (fun q _ s hs there => ?_) h
  · split
    · exact hs.doorbell q _
    · exact hs
  · rw [if_pos acts, State.tail_doorbell hs]
  · split
    · by_cases same : r = q
      · subst same
        exact State.tail_doorbell hs
      · rw [State.ring_doorbell_other hs.1 same]
        exact there
    · exact there

theorem exec_mmioDoorbell (t : Tenant) (v : W32) (s : State) :
    exec (.mmioDoorbell t v) s = .next (s.doorbell t.toNat (bits 19 16 v) (bits 15 0 v)) := rfl

theorem exec_doorbellLineWrite (t : Tenant) (d : Line) (be : W64) (poison : Bool) (s : State) :
    exec (.doorbellLineWrite t d be poison) s = .next (if s.dblOn t.toNat then
      (s.doorbellWords t.toNat d be poison).emit (.memCmp t.toNat .ok ((s.doorbellWords t.toNat d be poison).devLoad t.toNat 0))
    else s) := rfl

theorem exec_doorbellLineRead (t : Tenant) (s : State) : exec (.doorbellLineRead t) s = .next (if s.dblOn t.toNat then
    s.emit (.memData t.toNat (s.doorbellLine t.toNat) (s.devLoad t.toNat 0)) else s) := rfl

theorem State.doorbellWords_of_poison (t : Nat) (d : Line) (be : W64) (s : State) : s.doorbellWords t d be true = s := rfl

end

/-- Settles O36: a doorbell by its ring's state, and the words of a line in their order. -/
theorem doorbellsMoveTails : Obligations.DoorbellsMoveTails := by
  refine ⟨?live, ?dead, ?drains, ?write, ?read, ?off, ?words⟩
  case live =>
    intro t v s serves live
    rw [exec_mmioDoorbell, State.doorbell_of_live serves live, Ring.rung]
  case dead =>
    intro t v s serves dead
    rw [exec_mmioDoorbell, State.doorbell_of_dead serves dead]
  case drains =>
    intro t v s drains
    rw [exec_mmioDoorbell, State.doorbell_of_draining drains]
  case write =>
    intro t d be s on
    rw [exec_doorbellLineWrite, exec_doorbellLineWrite, if_pos on, if_pos on, State.doorbellWords_of_poison]
    exact ⟨rfl, rfl⟩
  case read =>
    intro t s on
    rw [exec_doorbellLineRead, if_pos on]
  case off =>
    intro t d be poison s off
    rw [exec_doorbellLineWrite, exec_doorbellLineRead, if_neg (by simp [off]), if_neg (by simp [off])]
    exact ⟨rfl, rfl⟩
  case words =>
    intro t r d be s serves hr run all valid
    exact State.tail_doorbellWords hr ⟨serves, run, rfl⟩ all valid

end Sys2Proof.Machine


/-! Rings fetch their descriptors (R241, R242). -/

namespace Sys2Proof.Machine

open Safety

section
variable {t r first n g : Nat} {s : State}

/-- A ring with a fetch under way. -/
def Ring.asked (g : Ring) : Ring := { g with fetching := true }

/-- A ring whose fetch has brought these lines. -/
def Ring.fed (g : Ring) (l : List Line) : Ring := { g with fetching := false, fetched := g.fetched ++ l }

/-- A ring that an error has stopped. -/
def Ring.halted (g : Ring) (cause : Nat) : Ring := { g with st := .stopped, err := true, ecause := cause }

/-! A read of a host's memory. -/

theorem State.dmaRead_of_master {use : DmaUse} {a : W64} {len : Nat} (master : (s.ld t).bme = true) :
    s.dmaRead t use a len = (State.emit (.dmaRead t (s.fresh s.tagsBusy) a len)
      { s with tags := s.tags ++ [{ tag := s.fresh s.tagsBusy, tenant := t, use := use }] }).tickFree := by
  rw [State.dmaRead, State.request, if_pos master]
  rfl

theorem State.dmaRead_of_noMaster {use : DmaUse} {a : W64} {len : Nat} (still : (s.ld t).bme = false) :
    s.dmaRead t use a len =
      (s.modLd t (fun l => { l with waiting := l.waiting ++ [.read (s.fresh s.tagsBusy) use a len] })).tickFree := by
  rw [State.dmaRead, State.request, if_neg (by simp [still])]

/-! The fetch. -/

/-- The ring served and its fetch under way. -/
def State.askFetch (t r : Nat) (s : State) : State :=
  (s.modEng t (fun e => { e with last := r })).modRing t r Ring.asked

theorem State.ring_askFetch (t r : Nat) (s : State) : ((s.askFetch t r).ring t r).fetching = true := by
  rw [State.askFetch, State.ring_modRing]
  rfl

theorem State.ld_askFetch (t r u : Nat) (s : State) : (s.askFetch t r).ld u = s.ld u := rfl

theorem exec_ringFetch {t : Tenant} (serves : s.draining t.toNat = false) (next : s.nextRing t.toNat = some r)
    (at_ : first = ((s.ring t.toNat r).head + (s.ring t.toNat r).fetched.length) % s.sqSize t.toNat r)
    (cnt : n = min (min 8 (s.unfetched t.toNat r)) (s.sqSize t.toNat r - first)) :
    exec (.ringFetch t) s = .next ((s.askFetch t.toNat r).dmaRead t.toNat (.fetch r first n)
      (BitVec.ofNat 64 (s.sqBase t.toNat r + 64 * first)) (64 * n)) := by
  subst cnt at_
  change execRingFetch t s = _
  rw [execRingFetch]
  dsimp only
  rw [if_neg (by simp [serves]), next]
  rfl

theorem State.ring_dmaRead (use : DmaUse) (a : W64) (len u q : Nat) (s : State) : (s.dmaRead t use a len).ring u q = s.ring u q :=
  (State.dmaRead_only t use a len (Inside.refl _) (Only.refl _ s)).ring rfl u q

/-! The end of a fetch. -/

/-- The lines that a fetch brings, or the cause that stops its ring. -/
def fetchResult (n : Nat) (c : Cpl) : Except Nat (List Line) :=
  match c with
  | .data l => .ok (l.take n)
  | .poison => .error 3
  | .unsupportedRequest => .error 2
  | .completerAbort => .error 2

theorem exec_descriptorFetchCompletion {c : Cpl} (tagged : s.tagOf g = some { tag := g, tenant := t, use := .fetch r first n }) :
    exec (.descriptorFetchCompletion g c) s = .next ((s.dropTag g).fetchEnds t r first n (fetchResult n c)) := by
  change execDescriptorFetchCompletion g c s = _
  rw [execDescriptorFetchCompletion, tagged]
  rfl

theorem State.fetchEnds_ok {l : List Line} (wanted : n ≠ 0) (run : (s.ring t r).st = .running)
    (next : ((s.ring t r).head + (s.ring t r).fetched.length) % s.sqSize t r = first) :
    s.fetchEnds t r first n (.ok l) = (s.setRing t r { s.ring t r with fetching := false }).modRing t r
      (fun g => { g with fetched := g.fetched ++ l }) := by
  have goes : ((s.ring t r).st = .running && ((s.ring t r).head + (s.ring t r).fetched.length) %
      (s.setRing t r { s.ring t r with fetching := false }).sqSize t r = first : Bool) = true := by
    rw [run, show (s.setRing t r { s.ring t r with fetching := false }).sqSize t r = s.sqSize t r from rfl, next]
    simp
  rw [State.fetchEnds]
  dsimp only
  rw [if_neg wanted, if_pos goes]

theorem State.ring_fetchEnds_ok {l : List Line} (wanted : n ≠ 0) (run : (s.ring t r).st = .running)
    (next : ((s.ring t r).head + (s.ring t r).fetched.length) % s.sqSize t r = first) :
    (s.fetchEnds t r first n (.ok l)).ring t r = (s.ring t r).fed l := by
  rw [State.fetchEnds_ok wanted run next, State.ring_modRing, State.ring_setRing]
  rfl

theorem State.fetchEnds_error {cause : Nat} (wanted : n ≠ 0) :
    s.fetchEnds t r first n (.error cause) = (s.setRing t r { s.ring t r with fetching := false }).stopRing t r cause := by
  rw [State.fetchEnds, if_neg wanted]

theorem State.ring_stopRing {cause : Nat} (run : (s.ring t r).st = .running) :
    (s.stopRing t r cause).ring t r = ((s.ring t r).halted cause).voided := by
  rw [State.stopRing, if_pos run, (State.raiseMsix_only t 3 (Inside.refl _) (Only.refl _ _)).ring rfl,
    (State.logRec_only _ (Inside.refl _) (Only.refl _ _)).ring rfl, State.ring_voidFetch, State.ring_setRing]
  rfl

theorem State.ops_fetchEnds (res : Except Nat (List Line)) : (s.fetchEnds t r first n res).ops = s.ops :=
  (State.fetchEnds_only t r first n res (Inside.refl _) (Only.refl _ s)).ops rfl

theorem exec_descriptorFetchCompletion_untagged {c : Cpl} (untagged : s.tagOf g = none) :
    exec (.descriptorFetchCompletion g c) s = .next (match s.lateTag g with
      | some t => s.unexpected t
      | none => s) := by
  change execDescriptorFetchCompletion g c s = _
  rw [execDescriptorFetchCompletion, untagged]
  cases s.lateTag g <;> rfl

end

/-- Settles O37: one read for the next ring, and its end by what came back. -/
theorem ringsFetchTheirDescriptors : Obligations.RingsFetchTheirDescriptors := by
  refine ⟨?asks, ?waits, ?idle, ?fed, ?stops, fun g c s h => exec_descriptorFetchCompletion_untagged h⟩
  case asks =>
    intro t r s serves next master
    refine ⟨_, exec_ringFetch serves next rfl rfl, (s.askFetch t.toNat r).fresh (s.askFetch t.toNat r).tagsBusy, _, _, rfl, rfl, ?_⟩
    rw [State.ring_dmaRead, State.ring_askFetch, State.dmaRead_of_master (by rwa [State.ld_askFetch])]
    exact ⟨rfl, rfl, rfl⟩
  case waits =>
    intro t r s serves next still
    refine ⟨_, exec_ringFetch serves next rfl rfl, ?_⟩
    beta_reduce
    rw [State.ring_dmaRead, State.ring_askFetch, State.dmaRead_of_noMaster (by rwa [State.ld_askFetch])]
    exact ⟨rfl, rfl, rfl⟩
  case idle =>
    intro t s idle
    change execRingFetch t s = _
    rw [execRingFetch]
    rcases idle with drains | none_
    · rw [if_pos drains]
    · dsimp only
      rw [none_]
      exact ite_self _
  case fed =>
    intro g t r first n l s tagged wanted run next
    have result : exec (.descriptorFetchCompletion g (.data l)) s = .next ((s.dropTag g).fetchEnds t r first n (.ok (l.take n))) :=
      exec_descriptorFetchCompletion tagged
    refine ⟨_, result, (s.dropTag g).ring_fetchEnds_ok wanted run next, ?_⟩
    rw [(s.dropTag g).fetchEnds_ok wanted run next]
    exact ⟨rfl, rfl⟩
  case stops =>
    intro g t r first n cause c s tagged wanted run ends
    have result : exec (.descriptorFetchCompletion g c) s = .next ((s.dropTag g).fetchEnds t r first n (.error cause)) := by
      rw [exec_descriptorFetchCompletion tagged]
      rcases ends with ⟨rfl, rfl⟩ | ⟨rfl | rfl, rfl⟩ <;> rfl
    refine ⟨_, result, ?_⟩
    beta_reduce
    rw [State.ops_fetchEnds, State.fetchEnds_error wanted, State.ring_stopRing]
    · rw [State.ring_setRing]
      exact ⟨rfl, rfl, rfl, rfl, rfl⟩
    · rw [State.ring_setRing]
      exact run

end Sys2Proof.Machine


/-! Descriptors are taken and complete; completion rings and interrupts (R236, R243 to R247, R271 to R273, R276, Table DSC-19). -/

namespace Sys2Proof.Machine

open Safety

section
variable {t : Tenant} {r : BitVec 4} {d : Line} {n : Nat} {s : State}

/-! The checks of a descriptor. -/

/-- A ring whose HEAD has passed a descriptor. -/
def Ring.passed (g : Ring) (size : Nat) : Ring :=
  { g with head := (g.head + 1) % size, fetched := g.fetched.drop 1, waitCq := false, waitSlot := none }

/-- HEAD of a ring passes a descriptor. -/
def State.passHead (t r : Nat) (s : State) : State := s.setRing t r ((s.ring t r).passed (s.sqSize t r))

theorem State.takeWith_eq (t r : Nat) (d : Line) (p : Option (Except Status (List Byte))) (s : State) :
    s.takeWith t r d p = (match (s.passHead t r).acceptCheck t d p with
      | some (c, o) => (s.passHead t r).complete t r d c (o % 64) true
      | none => (s.passHead t r).acceptOp t r d (match p with
        | some (.ok b) => b
        | _ => [])) := rfl

/-- A failing field of the list fails some entry at its offset. -/
theorem any_of_firstBad {l : List (Nat × Bool)} (bad : firstBad l = some n) (low : n ≤ 16) :
    l.any (fun e => e.2 && e.1 ≤ 16) = true := by
  have mem : n ∈ (l.filter (fun e => e.2)).map Prod.fst := List.min?_mem bad
  obtain ⟨e, he, rfl⟩ := List.mem_map.mp mem
  obtain ⟨there, fails⟩ := List.mem_filter.mp he
  exact List.any_eq_true.mpr ⟨e, there, by simp [fails, low]⟩

theorem State.acceptCheck_bad {t : Nat} (bad : firstBad (headBad d ++ s.bodyBad d) = some n) :
    s.acceptCheck t d none = some (.badDescriptor, n) := by
  simp [State.acceptCheck, bad]

theorem State.takeWith_bad {t r : Nat} (bad : firstBad (headBad d ++ s.bodyBad d) = some n) :
    s.takeWith t r d none = (s.passHead t r).complete t r d .badDescriptor (n % 64) true := by
  rw [State.takeWith_eq, (s.passHead t r).acceptCheck_bad bad]

/-! The taking. -/

theorem exec_descriptorTake_none (h : s.headDesc t.toNat r.toNat = none) : exec (.descriptorTake t r) s = .next s := by
  change execDescriptorTake t r s = _
  simp only [execDescriptorTake, h]

theorem exec_descriptorTake_noRoom (h : s.headDesc t.toNat r.toNat = some d) (room : s.roomCq t.toNat = false) :
    exec (.descriptorTake t r) s = .next (if (s.ring t.toNat r.toNat).waitCq then s
      else (s.setRing t.toNat r.toNat { s.ring t.toNat r.toNat with waitCq := true }).cntBar t.toNat Reg.DSC_CNT 31 16 1) := by
  change execDescriptorTake t r s = _
  simp only [execDescriptorTake, h, room, Bool.not_false, if_true]

theorem exec_descriptorTake_fenced (h : s.headDesc t.toNat r.toNat = some d) (room : s.roomCq t.toNat = true)
    (fenced : s.fencesMet t.toNat r.toNat d = false) : exec (.descriptorTake t r) s = .next s := by
  change execDescriptorTake t r s = _
  simp only [execDescriptorTake, h, room, fenced, Bool.not_true, Bool.not_false, Bool.false_eq_true, if_false, if_true]

theorem exec_descriptorTake_noSlot (h : s.headDesc t.toNat r.toNat = some d) (room : s.roomCq t.toNat = true)
    (met : s.fencesMet t.toNat r.toNat d = true) (full : s.slotFree t.toNat r.toNat d = false) :
    exec (.descriptorTake t r) s = .next (if (s.ring t.toNat r.toNat).waitSlot.isSome then s
      else State.cntBar t.toNat Reg.DSC_CNT 15 0 1
        { s.setRing t.toNat r.toNat { s.ring t.toNat r.toNat with waitSlot := some (s.now, s.nextReq) } with
          nextReq := s.nextReq + 1 }) := by
  change execDescriptorTake t r s = _
  simp only [execDescriptorTake, h, room, met, full, Bool.not_true, Bool.not_false, Bool.false_eq_true, if_false, if_true]

section
variable (h : s.headDesc t.toNat r.toNat = some d) (room : s.roomCq t.toNat = true) (met : s.fencesMet t.toNat r.toNat d = true)
  (free : s.slotFree t.toNat r.toNat d = true)
include h room met free

/-- A descriptor whose parameter block is not read is taken without it. -/
theorem exec_descriptorTake_plain
    (plain : (headBad d ++ s.bodyBad d).any (fun e => e.2 && e.1 ≤ 16) = true ∨ paramOf d = none) :
    exec (.descriptorTake t r) s = .next (s.takeWith t.toNat r.toNat d none) := by
  change execDescriptorTake t r s = _
  simp only [execDescriptorTake, h, room, met, free, Bool.not_true, Bool.false_eq_true, if_false]
  rcases plain with bad | without
  · simp only [bad, Bool.true_or, if_true]
  · simp only [without, ite_self]

theorem exec_descriptorTake_param {ua len : Nat} {b : List Byte} {u : Acc} {v : State}
    (sound : (headBad d ++ s.bodyBad d).any (fun e => e.2 && e.1 ≤ 16) = false) (ready : s.fnReady t.toNat .mem = true)
    (param : paramOf d = some (ua, len)) (mapped : s.mapSrc t.toNat ua len = true)
    (hu : u = { t := t.toNat, cls := min (dClass d) (cfgClassMax (s.wttOf t.toNat).cfg), half := tenantHalf t.toNat, row := 1,
                who := takeReader t.toNat r.toNat, encs := s.opEncs t.toNat }) (reads : u.bytes ua len s = .ok b v) :
    exec (.descriptorTake t r) s = .next ((u.ends v).takeWith t.toNat r.toNat d (some (.ok b))) := by
  change execDescriptorTake t r s = _
  simp only [execDescriptorTake, h, room, met, free, Bool.not_true, Bool.false_eq_true, if_false]
  simp only [sound, ready, Bool.not_true, Bool.or_self, Bool.false_eq_true, if_false, param, mapped, if_true]
  rw [← hu, Acc.run, reads]

end

/-! What the taking leaves. -/

/-- The operation that a descriptor becomes. -/
def State.opOf (t r : Nat) (d : Line) (p : List Byte) (s : State) : Op :=
  { id := s.nextOp, tenant := t, ring := r, desc := d, cls := min (dClass d) (cfgClassMax (s.wttOf t).cfg), epoch := (s.wttOf t).epoch,
    rmode := if dRnd d / 4 = 1 then dRnd d % 4 else bits 1 0 (s.bar t Reg.FMT_CTL), sat := bit 31 (s.bar t Reg.FMT_CTL),
    seed := s.bar t Reg.FMT_SEED, param := p, encs := s.opEncs t }

/-- The count of a class label past the tenant's limit. -/
def State.countClamp (t : Nat) (d : Line) (s : State) : State :=
  if dClass d > cfgClassMax (s.wttOf t).cfg then s.cntBar t Reg.WTT_FAULT 15 0 1 else s

/-- An operation is in flight. -/
def State.putOp (o : Op) (s : State) : State := { s with ops := s.ops ++ [o], nextOp := o.id + 1 }

theorem State.acceptOp_eq (t r : Nat) (d : Line) (p : List Byte) (s : State) : s.acceptOp t r d p =
    if dOp d = 7 then ((s.countClamp t d).putOp (s.opOf t r d p)).bindJob s.nextOp t (min (dClass d) (cfgClassMax (s.wttOf t).cfg)) d p
    else (s.countClamp t d).putOp (s.opOf t r d p) := rfl

theorem State.countClamp_only (t : Nat) (d : Line) (s : State) : Only 16 s (s.countClamp t d) := by
  unfold State.countClamp
  split
  · exact State.cntBar_only t _ _ _ _ (Inside.refl _) (Only.refl _ s)
  · exact Only.refl _ s

theorem State.acceptOp_only_of_putOp (t r : Nat) (d : Line) (p : List Byte) (s : State) :
    Only 8796097216512 ((s.countClamp t d).putOp (s.opOf t r d p)) (s.acceptOp t r d p) := by
  rw [State.acceptOp_eq]
  split
  · exact State.bindJob_only _ t _ d p (.of_and rfl) (Only.refl _ _)
  · exact Only.refl _ _

theorem State.ops_acceptOp (t r : Nat) (d : Line) (p : List Byte) (s : State) :
    (s.acceptOp t r d p).ops = s.ops ++ [s.opOf t r d p] := by
  rw [(State.acceptOp_only_of_putOp t r d p s).ops rfl, State.putOp, (State.countClamp_only t d s).ops rfl]

theorem State.nextOp_acceptOp (t r : Nat) (d : Line) (p : List Byte) (s : State) : (s.acceptOp t r d p).nextOp = s.nextOp + 1 :=
  (State.acceptOp_only_of_putOp t r d p s).nextOp rfl

theorem State.ring_acceptOp (t r : Nat) (d : Line) (p : List Byte) (n q : Nat) (s : State) :
    (s.acceptOp t r d p).ring n q = s.ring n q :=
  (State.acceptOp_only t r d p (Inside.refl _) (Only.refl _ s)).ring rfl n q

/-! Completion. -/

theorem State.endOp_ops (o : Op) (c : Status) (s : State) : (s.endOp o c).ops = s.ops.filter (fun x => x.id ≠ o.id) := by
  rw [State.endOp, (State.complete_only _ _ _ _ _ _ (Inside.refl _) (Only.refl _ _)).ops rfl,
    (State.farDrop_only _ (Inside.refl _) (Only.refl _ _)).ops rfl, (State.dropGrains_only _ (Inside.refl _) (Only.refl _ _)).ops rfl,
    (State.dropJob_only _ (Inside.refl _) (Only.refl _ _)).ops rfl]

theorem State.endOp_nextOp (o : Op) (c : Status) (s : State) : (s.endOp o c).nextOp = s.nextOp :=
  (State.endOp_only o c (Inside.refl _) (Only.refl _ s)).nextOp rfl

theorem exec_operationComplete_done {o : Op} {c : Status} (h : s.op n = some o) (done : o.done = some c) :
    exec (.operationComplete n) s = .next (s.endOp o c) := by
  change execOperationComplete n s = _
  rw [execOperationComplete, h]
  dsimp only
  rw [done]

theorem exec_operationComplete_open (h : s.op n = none ∨ ∃ o, s.op n = some o ∧ o.done = none) :
    exec (.operationComplete n) s = .next s := by
  change execOperationComplete n s = _
  rw [execOperationComplete]
  rcases h with h | ⟨o, h, done⟩
  · rw [h]
  · rw [h]
    dsimp only
    rw [done]

/-! The completion ring's word. -/

/-- The size in a word of the completion ring's configuration. -/
def State.cqKept (t : Nat) (v : W32) (s : State) : Nat :=
  if s.cqOn t then s.barF t Reg.DSC_CQ_CFG 4 0 else clampSize (bits 4 0 v)

theorem State.cqKept_lt (t : Nat) (v : W32) : s.cqKept t v < 32 := by
  unfold State.cqKept
  split
  · exact bits_lt 4 0 _
  · exact clampSize_lt _

theorem State.cqWord_eq (t : Nat) (en : Bool) (v : W32) (s : State) :
    s.cqWord t en v = at32 31 (b2n en) ||| at32 8 (bits 23 8 v) ||| at32 0 (s.cqKept t v) := rfl

theorem toNat_at32 (i k : Nat) : (at32 i k).toNat = k * 2 ^ i % 2 ^ 32 := by
  simp [at32]

theorem bits_at32_eight {k : Nat} (small : k < 65536) : bits 23 8 (at32 8 k) = k ∧ bits 4 0 (at32 8 k) = 0 ∧ bit 31 (at32 8 k) = false := by
  refine ⟨?_, ?_, ?_⟩
  · simp only [bits, fld, toNat_at32]
    omega
  · simp only [bits, fld, toNat_at32]
    omega
  · simp only [bit, BitVec.getLsbD, toNat_at32, Nat.testBit_eq_decide_div_mod_eq]
    rw [decide_eq_false]
    omega

theorem State.bit_cqWord (t : Nat) (en : Bool) (v : W32) : bit 31 (s.cqWord t en v) = en := by
  have size : bit 31 (at32 0 (s.cqKept t v)) = false := bit_at32_zero 31 (by have := s.cqKept_lt t v; omega)
  rw [State.cqWord_eq, bit_or, bit_or, size, (bits_at32_eight (bits_lt 23 8 v)).2.2]
  cases en <;> rfl

theorem State.size_cqWord (t : Nat) (en : Bool) (v : W32) : bits 4 0 (s.cqWord t en v) = s.cqKept t v := by
  rw [State.cqWord_eq, bits_or, bits_or, bits_at32_zero (by decide) (s.cqKept_lt t v), (bits_at32_eight (bits_lt 23 8 v)).2.1]
  cases en <;> simp [show bits 4 0 (at32 31 1) = 0 from rfl, show bits 4 0 (at32 31 0) = 0 from rfl, b2n]

theorem State.coal_cqWord (t : Nat) (en : Bool) (v : W32) : bits 23 8 (s.cqWord t en v) = bits 23 8 v := by
  have size : bits 23 8 (at32 0 (s.cqKept t v)) = 0 := by
    have := s.cqKept_lt t v
    simp only [bits, fld, toNat_at32]
    omega
  rw [State.cqWord_eq, bits_or, bits_or, size, (bits_at32_eight (bits_lt 23 8 v)).1]
  cases en <;> simp [show bits 23 8 (at32 31 1) = 0 from rfl, show bits 23 8 (at32 31 0) = 0 from rfl, b2n]

/-- A write of the completion ring's configuration. -/
def State.setCqCfg (t : Nat) (w : W32) (s : State) : State := s.setBar t Reg.DSC_CQ_CFG w

theorem State.bar_setCqCfg (t : Nat) (w : W32) (s : State) : (s.setCqCfg t w).bar t Reg.DSC_CQ_CFG = w := State.bar_setBar _ _ _

theorem State.setCqCfg_frame (t : Nat) (w : W32) (s : State) : s.setCqCfg t w = { s with reg := (s.setCqCfg t w).reg } := rfl

theorem State.engOf_modEng (t : Nat) (f : RingEng → RingEng) (s : State) : (s.modEng t f).engOf t = f (s.engOf t) := State.engOf_setEng t _

theorem State.modEng_setCqCfg_frame (t : Nat) (w : W32) (f : RingEng → RingEng) (s : State) :
    (s.setCqCfg t w).modEng t f = { s with reg := ((s.setCqCfg t w).modEng t f).reg, eng := ((s.setCqCfg t w).modEng t f).eng } := rfl

theorem State.cqOn_setCqCfg (t : Nat) (en : Bool) (v : W32) (s u : State) : (s.setCqCfg t (u.cqWord t en v)).cqOn t = en := by
  rw [State.cqOn, State.bar_setCqCfg, State.bit_cqWord]

theorem exec_cqEnable (t : Tenant) (v : W32) (s : State) : exec (.cqEnable t v) s = .next (
    if s.cqOn t.toNat then s.setCqCfg t.toNat (s.cqWord t.toNat true v)
    else (s.setCqCfg t.toNat (s.cqWord t.toNat true v)).modEng t.toNat
      (fun e => { e with cqTail := 0, cqPhase := true, cqHead := 0 })) := rfl

theorem exec_cqDisable (t : Tenant) (v : W32) (s : State) : exec (.cqDisable t v) s =
    .next (s.setCqCfg t.toNat (s.cqWord t.toNat (s.cqOn t.toNat && s.tenantFlight t.toNat > 0) v)) := rfl

end

/-- Settles O38: a descriptor by the checks of its taking, and the completion ring by its word. -/
theorem descriptorsCompleteThroughTheirRings : Obligations.DescriptorsCompleteThroughTheirRings := by
  refine ⟨?bad, fun t r d s h room => exec_descriptorTake_noRoom h room, fun t r d s h room met full => exec_descriptorTake_noSlot h room met full,
    fun t r d s h room fenced => exec_descriptorTake_fenced h room fenced, fun t r s h => exec_descriptorTake_none h, ?taken, ?ends,
    fun i s h => exec_operationComplete_open h, ?param, ?enable, ?enabled, ?disable, ?disabled, ?head, ?headBad, ?owed, ?still⟩
  case bad =>
    intro t r d n s h room met free bad where_
    exact ⟨exec_descriptorTake_plain h room met free (where_.imp_left (any_of_firstBad bad)), State.takeWith_bad bad⟩
  case taken =>
    intro t r d s h room met free sound without passes
    refine ⟨_, exec_descriptorTake_plain h room met free (.inr without), ?_⟩
    have accepts : (s.passHead t.toNat r.toNat).acceptCheck t.toNat d none = none := passes
    beta_reduce
    rw [State.takeWith_eq, accepts]
    refine ⟨_, rfl, rfl, rfl, rfl, State.ops_acceptOp t.toNat r.toNat d [] _, State.nextOp_acceptOp t.toNat r.toNat d [] _, ?_⟩
    dsimp only
    rw [State.ring_acceptOp, State.passHead, State.ring_setRing]
    rfl
  case ends =>
    intro i o c s h done
    exact ⟨_, exec_operationComplete_done h done, State.endOp_ops o c s, State.endOp_nextOp o c s⟩
  case param =>
    intro t r d ua len b u s v h room met free sound ready param mapped hu reads
    exact exec_descriptorTake_param h room met free sound ready param mapped hu reads
  case enable =>
    intro t v s off
    refine ⟨_, exec_cqEnable t v s, ?_⟩
    beta_reduce
    rw [if_neg (by simp [off])]
    have opened := State.cqOn_setCqCfg t.toNat true v s s
    refine ⟨opened, State.engOf_modEng .., ?_, ?_, State.modEng_setCqCfg_frame ..⟩
    · change bits 4 0 ((s.setCqCfg t.toNat (s.cqWord t.toNat true v)).bar t.toNat Reg.DSC_CQ_CFG) = _
      rw [State.bar_setCqCfg, State.size_cqWord, State.cqKept, if_neg (by simp [off]), clampSize]
    · change bits 23 8 ((s.setCqCfg t.toNat (s.cqWord t.toNat true v)).bar t.toNat Reg.DSC_CQ_CFG) = _
      rw [State.bar_setCqCfg, State.coal_cqWord]
  case enabled =>
    intro t v s on
    refine ⟨_, exec_cqEnable t v s, ?_⟩
    beta_reduce
    rw [if_pos on, State.cqOn_setCqCfg, State.barF, State.bar_setCqCfg, State.size_cqWord, State.cqKept, if_pos on]
    exact ⟨rfl, rfl, State.setCqCfg_frame ..⟩
  case disable =>
    intro t v s on busy
    refine ⟨_, exec_cqDisable t v s, ?_, State.setCqCfg_frame ..⟩
    rw [State.cqOn_setCqCfg, on]
    simpa using busy
  case disabled =>
    intro t v s idle
    refine ⟨_, exec_cqDisable t v s, ?_, State.setCqCfg_frame ..⟩
    rw [State.cqOn_setCqCfg, idle]
    simp
  case head =>
    intro t v s le
    change execCqHeadWrite t v s = _
    rw [execCqHeadWrite, if_pos le]
    rfl
  case headBad =>
    intro t v s lt
    change execCqHeadWrite t v s = _
    rw [execCqHeadWrite, if_neg (Nat.not_le.mpr lt)]
  case owed =>
    intro t s on
    change execInterruptCoalesceExpire t s = _
    rw [execInterruptCoalesceExpire, if_pos on]
  case still =>
    intro t s off
    change execInterruptCoalesceExpire t s = _
    rw [execInterruptCoalesceExpire, if_neg (by simp [off])]

end Sys2Proof.Machine


/-! The data operations run their work and write its results (R246, R253 to R261). -/

namespace Sys2Proof.Machine

open Safety

section
variable {α : Type} {a : Acc} {o : Op} {m : Work α} {x : α} {c : Status} {w : WaitOn} {k : Except Status α → State → State} {s u : State}

/-! A unit's program. -/

theorem Acc.run_ok (h : m s = .ok x u) : a.run m k s = k (.ok x) (a.ends u) := by
  rw [Acc.run, h]

theorem Acc.run_fail (h : m s = .error (.fail c) u) : a.run m k s = k (.error c) (a.ends u) := by
  rw [Acc.run, h]

theorem Acc.run_wait (h : m s = .error (.wait w) u) : a.run m k s = a.waits w u s := by
  rw [Acc.run, h]

theorem Work.bind_of_ok {β : Type} (h : m s = .ok x u) (f : α → Work β) : (m >>= f) s = f x u := by
  change EStateM.bind m f s = _
  rw [EStateM.bind, h]

theorem Work.bind_of_error {β : Type} {e : Stop} (h : m s = .error e u) (f : α → Work β) : (m >>= f) s = .error e u := by
  change EStateM.bind m f s = _
  rw [EStateM.bind, h]

theorem Work.get_bind {β : Type} (f : State → Work β) (s : State) : ((get : Work State) >>= f) s = f s s := rfl

/-! An operation in flight whose status is open. -/

theorem State.withOp_open {i : Nat} {kind : Line → Bool} {f : Op → State → State} (there : s.op i = some o) (opened : o.done = none)
    (is : kind o.desc = true) : s.withOp i kind f = f o s := by
  simp only [State.withOp, there, is, opened, Option.isNone_none, Bool.and_self, if_true]

end

section
variable {o : Op} {g : Grain} {m : Acc → Work (Status × Nat)} {c : Status} {n : Nat} {s u v : State}

/-! Kernels. -/

theorem State.kernel_fenced (down : s.tcUp = false) : s.kernel o none m = (s.dropJob o.id).opDone o.id .fencedUnit 0 := by
  simp only [State.kernel, State.kernelRun, down, Bool.not_false, if_true]

section
variable (up : s.tcUp = true)
include up

theorem State.kernel_waits (grain : s.kernelGrain o = (none, u)) : s.kernel o none m = u := by
  simp only [State.kernel, State.kernelRun, up, grain, Bool.not_true, Bool.false_eq_true, if_false]

section
variable (grain : s.kernelGrain o = (some g, u)) (near : u.cutFrom o.tenant g.half = false) (serves : u.tcServing g.half ≠ [])
include grain near serves

theorem State.kernel_ends (ends : m (o.unitOn g.half) u = .ok (c, n) v) :
    s.kernel o none m = ((o.unitOn g.half).ends v).kernelEnd o c n := by
  simp only [State.kernel, State.kernelRun, up, grain, near, serves, ends, Bool.not_true, Bool.false_eq_true, if_false]

theorem State.kernel_faults (fails : m (o.unitOn g.half) u = .error (.fail c) v) :
    s.kernel o none m = ((o.unitOn g.half).ends v).kernelFault o (if c = .permission then 3 else 5) 0 g.core c := by
  simp only [State.kernel, State.kernelRun, up, grain, near, serves, fails, Bool.not_true, Bool.false_eq_true, if_false]

end

end

end

section
variable {o : Op} {s u : State}

/-! FILL, COMPARE and the steps of REDUCE. -/

theorem spanLines_within {ua n l : Nat} (some_ : n ≠ 0) (first : ua / 64 = l) (last : (ua + n - 1) / 64 = l) : spanLines ua n = [l] := by
  rw [spanLines, if_neg some_, first, last, Nat.sub_self]
  rfl

theorem fillWork_within {l : Nat} (some_ : dF o.desc 24 8 ≠ 0) (first : dUa o.desc 16 / 64 = l)
    (last : (dUa o.desc 16 + dF o.desc 24 8 - 1) / 64 = l)
    (stores : o.unit.store (64 * l) (linePart (dUa o.desc 16) (fillBytes (dF o.desc 32 8) (dUa o.desc 16) (dF o.desc 24 8)) l).1
      (linePart (dUa o.desc 16) (fillBytes (dF o.desc 32 8) (dUa o.desc 16) (dF o.desc 24 8)) l).2 false s = .ok () u) :
    fillWork o s = .ok (.ok, 0) u := by
  have lo : max (dUa o.desc 16) (64 * l) = dUa o.desc 16 := by omega
  have hi : min (dUa o.desc 16 + dF o.desc 24 8) (64 * l + 64) - dUa o.desc 16 = dF o.desc 24 8 := by omega
  unfold fillWork
  rw [spanLines_within some_ first last]
  refine (Work.bind_of_ok (s := s) (u := u) (x := ()) ?_ _).trans rfl
  refine (Work.bind_of_ok (s := s) (u := u) (x := ()) ?_ _).trans rfl
  dsimp only
  rw [lo, hi, stores]

theorem fillBytes_getElem? (pat ua : Nat) {n i : Nat} (h : i < n) :
    (fillBytes pat ua n)[i]? = some (BitVec.ofNat 8 (pat / 2 ^ (8 * ((ua + i) % 8)))) := by
  simp [fillBytes, h]

theorem compareWork_of_from {r : Option Nat}
    (found : compareFrom o (dUa o.desc 16) (dUa o.desc 24) (dF o.desc 32 8) (dF o.desc 32 8 + 1) 0 s = .ok r u)
    (noResult : dF o.desc 48 1 ≠ 1) : compareWork o s = .ok (.ok, if r.isSome then 1 else 0) u := by
  unfold compareWork
  refine (Work.bind_of_ok found _).trans ?_
  rw [if_neg noResult]
  rfl

/-- What a plain COPY makes of its lines. -/
def copyEnds (o : Op) (r : Except Status (Option Status × Nat)) (s : State) : State :=
  match r with
  | .ok (none, _) => s.opDone o.id .ok 0
  | .ok (some c, n) => s.opDone o.id c n
  | .error c => s.modOp o.id (fun x => { x with done := some c })

theorem exec_copy {i : Nat} (there : s.op i = some o) (opened : o.done = none) (code : dOp o.desc = 2) (plain : isConv o.desc = false)
    (noImage : isImage o.desc = false) : exec (.copy i) s =
      .next (o.unit.run ((spanLines (dUa o.desc 24) (dF o.desc 32 8)).foldlM (copyLine o) (none, 0)) (copyEnds o) s) :=
  congrArg Host.Outcome.next (State.withOp_open there opened (by simp [code, plain, noImage]))

theorem reduceStep_pair (a b : W32) : reduceStep 0 (some [a]) [b] = [fadd a b] ∧ reduceStep 1 (some [a]) [b] = [fExt true a b] ∧
    reduceStep 2 (some [a]) [b] = [fExt false a b] ∧ reduceStep 1 none [a] = [a] :=
  ⟨rfl, rfl, rfl, rfl⟩

end

/-- Settles O39: the outcomes of a unit's program and of a kernel, and what FILL, COMPARE and REDUCE compute. -/
theorem dataOperationsRunAndComputeTheirResults : Obligations.DataOperationsRunAndComputeTheirResults := by
  refine ⟨fun o m c n s u h => Acc.run_ok h, fun o m c s u h => Acc.run_fail h, fun o m w s u h => Acc.run_wait h, ?runs,
    fun o g m c n s u v up grain near serves ends => State.kernel_ends up grain near serves ends,
    fun o g m c s u v up grain near serves fails => State.kernel_faults up grain near serves fails,
    fun o m s u up grain => State.kernel_waits up grain, fun o m s down => State.kernel_fenced down, ?copied, ?poisoned, ?failed,
    fun o s u l some_ first last stores => fillWork_within some_ first last stores,
    fun pat ua n i h => fillBytes_getElem? pat ua h, fun o s u found noResult => compareWork_of_from found noResult,
    fun o k s u found noResult => compareWork_of_from found noResult, reduceStep_pair⟩
  case runs =>
    intro i o s there opened
    refine ⟨fun code => ?_, fun code => ?_, fun code => ?_, fun code => ?_, fun conv => ?_⟩
    · exact congrArg Host.Outcome.next (State.withOp_open there opened (decide_eq_true code))
    · exact congrArg Host.Outcome.next (State.withOp_open there opened (decide_eq_true code))
    · exact congrArg Host.Outcome.next (State.withOp_open there opened (decide_eq_true code))
    · exact congrArg Host.Outcome.next (State.withOp_open there opened (decide_eq_true code))
    · exact congrArg Host.Outcome.next (State.withOp_open there opened conv)
  case copied =>
    intro i o s u there opened code plain noImage work
    rw [exec_copy there opened code plain noImage, Acc.run_ok work, copyEnds]
  case poisoned =>
    intro i o c n s u there opened code plain noImage work
    rw [exec_copy there opened code plain noImage, Acc.run_ok work, copyEnds]
  case failed =>
    intro i o c s u there opened code plain noImage work
    rw [exec_copy there opened code plain noImage, Acc.run_fail work, copyEnds]

end Sys2Proof.Machine


/-! Image installs and the tier hints (R80, R86, R93, R160, R257, R268). -/

namespace Sys2Proof.Machine

open Safety

section
variable {o : Op} {s u v : State} {i : Nat}

/-! Image installs. -/

/-- An install ends with a status and the plots that it installed. -/
def State.endInstall (o : Op) (c : Status) (s : State) : State :=
  s.modOp o.id (fun x => { x with done := some c, detail := x.installed % 65536 })

/-- What an install makes of what it found. -/
def installEnds (o : Op) (r : Except Status (Option Status)) (s : State) : State :=
  match r with
  | .ok none => s
  | .ok (some .ok) =>
    if (match s.op o.id with | some x => decide (x.installed = dF o.desc 32 4) | none => false) then s.endInstall o .ok else s
  | .ok (some c) => s.endInstall o c
  | .error c => s.endInstall o c

/-- The program of an install: its header, then the record that is next. -/
def installStep (o : Op) : Work (Option Status) := do
  let img ← o.unit.bytes (dUa o.desc 16) 256
  if o.installed = dF o.desc 32 4 then pure (some (if kimgOk img then Status.ok else Status.badDescriptor))
  else installWork o img

theorem exec_imageInstall (there : s.op i = some o) (opened : o.done = none) (image : isImage o.desc = true) :
    exec (.imageInstall i) s = .next (o.unit.run (installStep o) (installEnds o) s) :=
  congrArg Host.Outcome.next (State.withOp_open there opened image)

theorem installStep_last {img : List Byte} (all : o.installed = dF o.desc 32 4)
    (header : o.unit.bytes (dUa o.desc 16) 256 s = .ok img u) :
    installStep o s = .ok (some (if kimgOk img then .ok else .badDescriptor)) u := by
  unfold installStep
  refine (Work.bind_of_ok header _).trans ?_
  rw [if_pos all]
  rfl

theorem installStep_next {img : List Byte} {r : Option Status} (more : o.installed ≠ dF o.desc 32 4)
    (header : o.unit.bytes (dUa o.desc 16) 256 s = .ok img u) (record : installWork o img u = .ok r v) :
    installStep o s = .ok r v := by
  unfold installStep
  refine (Work.bind_of_ok header _).trans ?_
  rw [if_neg more, record]

theorem State.op_ends (a : Acc) (i : Nat) (s : State) : (a.ends s).op i = s.op i := by
  rw [State.op, (Acc.ends_only a (Inside.refl _) (Only.refl _ s)).ops rfl, State.op]

theorem installEnds_ok (there : s.op o.id = some o) (all : o.installed = dF o.desc 32 4) :
    installEnds o (.ok (some .ok)) s = s.endInstall o .ok := by
  simp [installEnds, there, all]

theorem installEnds_more (more : ∀ x, s.op o.id = some x → x.installed ≠ dF o.desc 32 4) :
    installEnds o (.ok (some .ok)) s = s := by
  rw [installEnds]
  cases found : s.op o.id with
  | none => rfl
  | some x => simp [more x found]

/-! Hints. -/

/-- A hint on one plot of its half acts on it. -/
theorem State.hint_one {code p : Nat} {w : Op → Op} {f : Op → Nat → State → State} (there : s.op i = some o) (opened : o.done = none)
    (fresh : o.started = false) (whole : s.split = false)
    (held : (rangePlots (dF o.desc 16 8) (dF o.desc 24 4)).any (fun q => s.viewHeld o.tenant q) = false) (one : s.hintPlots o = [p])
    (hw : w = (fun x => { x with started := true, watch := [p], cut := false })) (is : dOp o.desc = code) :
    s.hint code i f = (f o p (s.modOp i w)).settle p := by
  subst hw
  rw [State.hint, State.withOp_open there opened (decide_eq_true is), if_neg (by simp [fresh, held]), one, whole]
  rfl

/-! A pin of a NEAR plot. -/

/-- A plot with a pin's claim. -/
def Plot.pinned (t age : Nat) (e : Plot) : Plot :=
  { e with st := .near, claims := e.claims ++ [{ tenant := t, auto := false, pool := false }], pins := nins t e.pins, age := age, farWant := none }

theorem Plot.isPool_pinned (t age : Nat) (e : Plot) : (e.pinned t age).isPool = false := by
  simp [Plot.isPool, Plot.pinned]

theorem State.yieldFar_near {p t : Nat} {pin : Bool} {e : Plot} (there : s.plot p = some e) (near : e.st = .near) :
    s.yieldFar p t pin = s := by
  simp [State.yieldFar, there, near]

theorem State.cancelMove_near {p : Nat} {e : Plot} (there : s.plot p = some e) (near : e.st = .near) : s.cancelMove p = s := by
  simp [State.cancelMove, there, near]

theorem State.tryClaim_pin {p t cls : Nat} {e : Plot} (there : s.plot p = some e) (near : e.st = .near) (fits : s.oversize p e = false)
    (fresh : e.claimOf t = none) (room : s.nearHeadroom t = true) :
    s.tryClaim p t cls (.op 0 true) = (.granted, s.setPlot p (e.pinned t s.clk.age)) := by
  have slot : e.hasSlot = true := by simp [Plot.hasSlot, near]
  have kept : (s.setPlot p (e.pinned t s.clk.age)).cancelMove p = s.setPlot p (e.pinned t s.clk.age) :=
    State.cancelMove_near (State.plot_setPlot ..) rfl
  rw [State.tryClaim, State.yieldFar_near there near, there]
  simp only [near, fits, fresh, room, slot, reduceCtorEq, decide_false, Bool.or_self, Bool.false_eq_true, if_false, if_true,
    Bool.not_true, Bool.and_false]
  refine (if_neg (fun pooled => ?_)).trans (congrArg (Prod.mk _) kept)
  have shared : (e.pinned t s.clk.age).isPool = true := (Bool.and_eq_true_iff.mp pooled).1
  rw [Plot.isPool_pinned] at shared
  exact Bool.false_ne_true shared

end

/-- Settles O40: an install by its header and its record, a hint on its plot, and the pin of a NEAR plot. -/
theorem installsAndTierHintsAct : Obligations.InstallsAndTierHintsAct := by
  refine ⟨?last, ?record, ?hints, ?pin⟩
  case last =>
    intro i o img s u there opened image all header kept
    rw [exec_imageInstall there opened image, Acc.run_ok (installStep_last all header)]
    cases kimgOk img
    · rfl
    · exact congrArg Host.Outcome.next (installEnds_ok (by rw [State.op_ends, kept]) all)
  case record =>
    intro i o img s u v there opened image more header record left
    rw [exec_imageInstall there opened image, Acc.run_ok (installStep_next more header record)]
    exact congrArg Host.Outcome.next (installEnds_more (fun x hx => left x (by rwa [State.op_ends] at hx)))
  case hints =>
    intro i p o w s there opened fresh whole held one hw
    refine ⟨fun code => ?_, fun code bulk => ?_, fun code far => ?_, fun code => ?_, fun code => ?_⟩
    · exact congrArg Host.Outcome.next (State.hint_one there opened fresh whole held one hw code)
    · refine congrArg Host.Outcome.next ((State.hint_one there opened fresh whole held one hw code).trans ?_)
      rw [if_neg bulk]
    · refine congrArg Host.Outcome.next ((State.hint_one there opened fresh whole held one hw code).trans ?_)
      rw [if_pos far]
    · exact congrArg Host.Outcome.next (State.hint_one there opened fresh whole held one hw code)
    · exact congrArg Host.Outcome.next (State.hint_one there opened fresh whole held one hw code)
  case pin =>
    intro p t cls e s there near fits fresh room _ _
    exact ⟨_, _, State.tryClaim_pin there near fits fresh room, State.plot_setPlot .., rfl, rfl, rfl⟩

end Sys2Proof.Machine


/-! PUBLISH, ACQUIRE and RELEASE of shared buffers (R269, R288, R291). -/

namespace Sys2Proof.Machine

open Safety

section
variable {i r : Nat} {o : Op} {s u : State}

theorem forAll_same {α σ : Type} (l : List α) (s : σ) : forAll l (fun _ s => s) s = s :=
  forAll_keeps (P := fun u => u = s) l (fun _ _ _ h => h) rfl

/-! Operations and regions after an update. -/

theorem State.op_modOp {f : Op → Op} (there : s.op i = some o) (keeps : ∀ x, (f x).id = x.id) : (s.modOp i f).op i = some (f o) := by
  have id : o.id = i := by simpa using List.find?_some there
  rw [State.op, State.modOp]
  dsimp only
  rw [find?_mapIf (fun x => by rw [keeps]), ← State.op, there]
  simp [id]

theorem State.region_modRegion (n : Nat) (f : Region → Region) (s : State) : (s.modRegion n f).region n = f (s.region n) :=
  State.region_setRegion n _

theorem State.region_modRegion_other {n m : Nat} (f : Region → Region) (h : m ≠ n) (s : State) :
    (s.modRegion n f).region m = s.region m :=
  tget_tset_other _ _ _ h _

theorem State.region_modOp (j : Nat) (f : Op → Op) (n : Nat) (s : State) : (s.modOp j f).region n = s.region n := rfl

theorem State.op_modRegion (n : Nat) (f : Region → Region) (j : Nat) (s : State) : (s.modRegion n f).op j = s.op j := rfl

/-! The start of an operation on a region. -/

/-- An operation that has started. -/
def Op.begun (o : Op) : Op := { o with started := true }

/-- A region whose publication is open. -/
def Region.opened (p : Pub) (g : Region) : Region := { g with pub := some p }

/-- The flip of a region at the end of its publication. -/
def Region.flipped (p : Pub) (g : Region) : Region := { g with cur := p.buf.getD g.cur, ver := p.ver, pub := none }

/-- A region without a tenant's pin. -/
def Region.unpinned (t : Nat) (g : Region) : Region := { g with pins := g.pins.filter (fun p => p.tenant ≠ t) }

/-- A region with a tenant's pin on its current buffer. -/
def Region.pinned (t : Nat) (g : Region) : Region := { g with pins := g.pins ++ [{ tenant := t, buf := g.cur, ver := g.ver }] }

/-- The pending publication of a PUBLISH. -/
def Op.publication (o : Op) (i : Nat) (b : Option Nat) : Pub := { op := i, buf := b, ver := BitVec.ofNat 32 (dF o.desc 20 4 + 1) }

section
variable (there : s.op i = some o) (live : o.done = none) (code : dOp o.desc = 12) (first : o.res = none)
include there live code first

theorem exec_publish_cut (fresh : o.started = false) (split : s.split = true) :
    exec (.publish i) s = .next (s.opDone i .poisonConsumed 0) := by
  change execPublish i s = _
  rw [execPublish, State.withOp_open there live (decide_eq_true code), first]
  simp [fresh, split]

theorem exec_publish_waits (whole : s.split = false) (runs : (s.region (dF o.desc 16 2)).pub.isSome = true) :
    exec (.publish i) s = .next s := by
  change execPublish i s = _
  rw [execPublish, State.withOp_open there live (decide_eq_true code), first]
  simp [whole, runs]

section
variable (fresh : o.started = false) (whole : s.split = false) (idle : (s.region (dF o.desc 16 2)).pub = none)
include fresh whole idle

theorem exec_publish_stale (stale : (s.region (dF o.desc 16 2)).ver.toNat ≠ dF o.desc 20 4) :
    exec (.publish i) s = .next (o.endVersion .staleVersion (s.region (dF o.desc 16 2)).ver s) := by
  change execPublish i s = _
  rw [execPublish, State.withOp_open there live (decide_eq_true code), first]
  simp [fresh, whole, idle, stale]

theorem exec_publish_flips (current : (s.region (dF o.desc 16 2)).ver.toNat = dF o.desc 20 4) (noBuffer : dUa o.desc 24 = 0) :
    exec (.publish i) s = .next (((s.modOp i Op.begun).modRegion (dF o.desc 16 2) (Region.opened (o.publication i none))).flipRegion
      (dF o.desc 16 2)) := by
  change execPublish i s = _
  rw [execPublish, State.withOp_open there live (decide_eq_true code), first]
  simp [fresh, whole, idle, current, noBuffer]
  rfl

section
variable {b : Nat} (current : (s.region (dF o.desc 16 2)).ver.toNat = dF o.desc 20 4) (buffer : dUa o.desc 24 ≠ 0)
  (names : (s.region (dF o.desc 16 2)).bufAt (dUa o.desc 24) = some b)
include current buffer names

theorem exec_publish_busy (held : (s.region (dF o.desc 16 2)).bufHeld b = true) :
    exec (.publish i) s = .next (o.endVersion .slotBusy (s.region (dF o.desc 16 2)).ver s) := by
  change execPublish i s = _
  rw [execPublish, State.withOp_open there live (decide_eq_true code), first]
  simp [fresh, whole, idle, current, buffer, names, held]

theorem exec_publish_opens (free : (s.region (dF o.desc 16 2)).bufHeld b = false) : exec (.publish i) s =
    .next (((s.modOp i Op.begun).modRegion (dF o.desc 16 2) (Region.opened (o.publication i (some b)))).startWalk
      (.publish i (dF o.desc 16 2)) (fun p => (s.region (dF o.desc 16 2)).inBuf (s.region (dF o.desc 16 2)).cur p)
      (fun t => !(s.region (dF o.desc 16 2)).pins.any (fun p => p.tenant = t && p.buf = (s.region (dF o.desc 16 2)).cur))) := by
  change execPublish i s = _
  rw [execPublish, State.withOp_open there live (decide_eq_true code), first]
  simp [fresh, whole, idle, current, buffer, names, free]
  rfl

end

end

end

/-! What a flip and a walk leave. -/

theorem State.flipRegion_quiet {p : Pub} (pending : (s.region r).pub = some p) (quiet : s.shr.resWait = []) :
    s.flipRegion r = ((s.modRegion r (Region.flipped p)).modOp p.op (fun o => { o with res := some p.ver })).modShr
      (fun h => { h with resWait := [] }) := by
  have none_ : ((s.modRegion r (Region.flipped p)).modOp p.op (fun o => { o with res := some p.ver })).shr.resWait = [] := quiet
  rw [State.flipRegion, pending]
  dsimp only
  rw [State.resume291]
  exact congrArg (fun l => forAll l _ _) none_

/-- What a PUBLISH without a buffer leaves of its region. -/
theorem State.region_flips (n j : Nat) (f g : Op → Op) (p : Pub) (s : State) :
    (((((s.modOp j f).modRegion n (Region.opened p)).modRegion n (Region.flipped p)).modOp p.op g).modShr
      (fun h => { h with resWait := [] })).region n = ((s.region n).opened p).flipped p := by
  change ((((s.modOp j f).modRegion n (Region.opened p)).modRegion n (Region.flipped p)).region n) = _
  rw [State.region_modRegion, State.region_modRegion, State.region_modOp]

theorem State.region_flips_other {n m : Nat} (other : m ≠ n) (j : Nat) (f g : Op → Op) (p : Pub) (s : State) :
    (((((s.modOp j f).modRegion n (Region.opened p)).modRegion n (Region.flipped p)).modOp p.op g).modShr
      (fun h => { h with resWait := [] })).region m = s.region m := by
  change ((((s.modOp j f).modRegion n (Region.opened p)).modRegion n (Region.flipped p)).region m) = _
  rw [State.region_modRegion_other _ other, State.region_modRegion_other _ other, State.region_modOp]

theorem State.walkTenant_none (w t : Nat) (s : State) : s.walkTenant w t [] = s := rfl

/-- A walk over plots that no directory entry names sends nothing. -/
theorem State.startWalk_quiet {why : WalkWhy} {test who : Nat → Bool} (quiet : s.shr.heldMap = []) :
    s.startWalk why test who = s.modShr (fun h =>
      { h with walks := h.walks ++ [{ id := s.shr.nextId, why := why, plots := [] }], nextId := s.shr.nextId + 1 }) := by
  rw [State.startWalk]
  simp [quiet, nmem, State.walkTenant_none, forAll_same]

theorem State.region_opens (n j : Nat) (f : Op → Op) (p : Pub) (w : Walk) (s : State) :
    ((((s.modOp j f).modRegion n (Region.opened p)).modShr
      (fun h => { h with walks := h.walks ++ [w], nextId := ((s.modOp j f).modRegion n (Region.opened p)).shr.nextId + 1 })).region n) =
      (s.region n).opened p :=
  State.region_modRegion n (Region.opened p) (s.modOp j f)

/-! The result of an operation on a region. -/

theorem Op.endVersion_plain {c : Status} {v : W32} (plain : dF o.desc 18 1 ≠ 1) :
    o.endVersion c v s = (o.unit.ends s).opDone o.id c (if c = .ok ∨ c = .staleVersion then v.toNat % 65536 else 0) := by
  have number : (if (c = .ok || c = .staleVersion : Bool) then v.toNat % 65536 else 0) =
      if c = .ok ∨ c = .staleVersion then v.toNat % 65536 else 0 := by simp
  rw [Op.endVersion, Op.run, if_neg plain, number]
  rfl

/-! ACQUIRE and RELEASE. -/

section
variable (there : s.op i = some o) (live : o.done = none)
include there live

theorem exec_acquire_cut (code : dOp o.desc = 13) (first : o.res = none) (fresh : o.started = false) (split : s.split = true) :
    exec (.acquire i) s = .next (s.opDone i .poisonConsumed 0) := by
  change execAcquire i s = _
  rw [execAcquire, State.withOp_open there live (decide_eq_true code), first]
  simp [fresh, split]

theorem exec_acquire_waits (code : dOp o.desc = 13) (first : o.res = none) (whole : s.split = false)
    (runs : (s.region (dF o.desc 16 2)).pub.isSome = true) : exec (.acquire i) s = .next s := by
  change execAcquire i s = _
  rw [execAcquire, State.withOp_open there live (decide_eq_true code), first]
  simp [whole, runs]

theorem exec_acquire_pins (code : dOp o.desc = 13) (first : o.res = none) (fresh : o.started = false) (whole : s.split = false)
    (idle : (s.region (dF o.desc 16 2)).pub = none)
    (noOld : (s.region (dF o.desc 16 2)).pins.find? (fun p => p.tenant = o.tenant && p.buf ≠ (s.region (dF o.desc 16 2)).cur) = none) :
    exec (.acquire i) s = .next ((s.modOp i Op.begun).walkEnds (.acquire i (dF o.desc 16 2))) := by
  change execAcquire i s = _
  rw [execAcquire, State.withOp_open there live (decide_eq_true code), first]
  simp only [fresh, whole, idle, noOld, Option.isSome_none, Bool.false_eq_true, if_false]
  rfl

theorem exec_release_cut (code : dOp o.desc = 14) (fresh : o.started = false) (split : s.split = true) :
    exec (.release i) s = .next (s.opDone i .poisonConsumed 0) := by
  change execRelease i s = _
  rw [execRelease, State.withOp_open there live (decide_eq_true code)]
  simp [fresh, split]

theorem exec_release_waits (code : dOp o.desc = 14) (whole : s.split = false)
    (runs : (s.region (dF o.desc 16 2)).pub.isSome = true) : exec (.release i) s = .next s := by
  change execRelease i s = _
  rw [execRelease, State.withOp_open there live (decide_eq_true code)]
  simp [whole, runs]

theorem exec_release_unpins (code : dOp o.desc = 14) (fresh : o.started = false) (whole : s.split = false)
    (idle : (s.region (dF o.desc 16 2)).pub = none)
    (noOld : (s.region (dF o.desc 16 2)).pins.find? (fun p => p.tenant = o.tenant && p.buf ≠ (s.region (dF o.desc 16 2)).cur) = none) :
    exec (.release i) s = .next ((s.modOp i Op.begun).walkEnds (.release i (dF o.desc 16 2))) := by
  change execRelease i s = _
  rw [execRelease, State.withOp_open there live (decide_eq_true code)]
  simp only [fresh, whole, idle, noOld, Option.isSome_none, Bool.false_eq_true, if_false]
  rfl

end

theorem State.walkEnds_acquire (there : s.op i = some o) : s.walkEnds (.acquire i r) =
    ((s.modRegion r (Region.unpinned o.tenant)).modRegion r (Region.pinned o.tenant)).modOp i
      (fun x => { x with res := some (((s.modRegion r (Region.unpinned o.tenant)).modRegion r (Region.pinned o.tenant)).region r).ver }) := by
  rw [State.walkEnds, there]
  rfl

theorem State.walkEnds_release (there : s.op i = some o) : s.walkEnds (.release i r) =
    (s.modRegion r (Region.unpinned o.tenant)).modOp i (fun x => { x with done := some .ok }) := by
  rw [State.walkEnds, there]
  rfl

/-- A state that differs in its regions' part and its operations alone. -/
def ShrOps (s t : State) : Prop := t = { s with shr := t.shr, ops := t.ops }

theorem ShrOps.modOp {t : State} (h : ShrOps s t) (j : Nat) (f : Op → Op) : ShrOps s (t.modOp j f) := by
  rw [ShrOps] at h
  rw [ShrOps, State.modOp, h]

theorem ShrOps.modRegion {t : State} (h : ShrOps s t) (n : Nat) (f : Region → Region) : ShrOps s (t.modRegion n f) := by
  rw [ShrOps] at h
  rw [ShrOps, State.modRegion, State.setRegion, State.modShr, h]

theorem ShrOps.refl (s : State) : ShrOps s s := rfl

theorem State.tier_modShr (f : Shr → Shr) (s : State) : (s.modShr f).tier = s.tier := rfl
theorem State.tier_modOp (j : Nat) (f : Op → Op) (s : State) : (s.modOp j f).tier = s.tier := rfl
theorem State.tier_modRegion (n : Nat) (f : Region → Region) (s : State) : (s.modRegion n f).tier = s.tier := rfl

theorem State.tier_flips (n j : Nat) (f g : Op → Op) (p : Pub) (s : State) :
    (((((s.modOp j f).modRegion n (Region.opened p)).modRegion n (Region.flipped p)).modOp p.op g).modShr
      (fun h => { h with resWait := [] })).tier = s.tier := by
  rw [State.tier_modShr, State.tier_modOp, State.tier_modRegion, State.tier_modRegion, State.tier_modOp]

end

/-- Settles O41: each operation by the bridge, the region's publication and its version. -/
theorem publishAcquireAndReleaseRegions : Obligations.PublishAcquireAndReleaseRegions := by
  refine ⟨?flips, fun i o s there live code first fresh whole idle stale => exec_publish_stale there live code first fresh whole idle stale,
    ?buffer, fun o c v s plain => Op.endVersion_plain plain, ?cut, ?waits, ?pins, ?unpins⟩
  case flips =>
    intro i o s there live code first fresh whole idle current noBuffer quiet
    refine ⟨_, exec_publish_flips there live code first fresh whole idle current noBuffer, ?_⟩
    have pending : (((s.modOp i Op.begun).modRegion (dF o.desc 16 2) (Region.opened (o.publication i none))).region (dF o.desc 16 2)).pub =
        some (o.publication i none) := by
      rw [State.region_modRegion]
      rfl
    beta_reduce
    rw [State.flipRegion_quiet pending quiet, State.region_flips]
    refine ⟨rfl, rfl, rfl, fun r other => ?_, State.tier_flips ..⟩
    rw [State.region_flips_other other]
  case buffer =>
    intro i b o s there live code first fresh whole idle current buffer names
    refine ⟨fun held => exec_publish_busy there live code first fresh whole idle current buffer names held, fun free quiet => ?_⟩
    refine ⟨_, exec_publish_opens there live code first fresh whole idle current buffer names free, ?_⟩
    beta_reduce
    have walk := State.startWalk_quiet (s := (s.modOp i Op.begun).modRegion (dF o.desc 16 2) (Region.opened (o.publication i (some b))))
      (why := .publish i (dF o.desc 16 2))
      (test := fun p => (s.region (dF o.desc 16 2)).inBuf (s.region (dF o.desc 16 2)).cur p)
      (who := fun t => !(s.region (dF o.desc 16 2)).pins.any (fun p => p.tenant = t && p.buf = (s.region (dF o.desc 16 2)).cur)) quiet
    rw [walk, State.region_opens]
    exact ⟨rfl, rfl⟩
  case cut =>
    intro i o s there live first fresh split
    exact ⟨fun code => exec_publish_cut there live code first fresh split, fun code => exec_acquire_cut there live code first fresh split,
      fun code => exec_release_cut there live code fresh split⟩
  case waits =>
    intro i o s there live first whole runs
    exact ⟨fun code => exec_publish_waits there live code first whole runs, fun code => exec_acquire_waits there live code first whole runs,
      fun code => exec_release_waits there live code whole runs⟩
  case pins =>
    intro i o s there live code first fresh whole idle noOld
    refine ⟨_, exec_acquire_pins there live code first fresh whole idle noOld, ?_⟩
    beta_reduce
    have begun : (s.modOp i Op.begun).op i = some o.begun := State.op_modOp there (fun _ => rfl)
    rw [State.walkEnds_acquire begun, State.region_modOp, State.region_modRegion, State.region_modRegion, State.region_modOp]
    refine ⟨rfl, ⟨_, State.op_modOp ((State.op_modRegion ..).trans ((State.op_modRegion ..).trans begun)) (fun _ => rfl), rfl⟩, ?_⟩
    exact ((((ShrOps.refl s).modOp ..).modRegion ..).modRegion ..).modOp ..
  case unpins =>
    intro i o s there live code fresh whole idle noOld
    refine ⟨_, exec_release_unpins there live code fresh whole idle noOld, ?_⟩
    beta_reduce
    have begun : (s.modOp i Op.begun).op i = some o.begun := State.op_modOp there (fun _ => rfl)
    rw [State.walkEnds_release begun, State.region_modOp, State.region_modRegion, State.region_modOp]
    exact ⟨rfl, ⟨_, State.op_modOp ((State.op_modRegion ..).trans begun) (fun _ => rfl), rfl⟩,
      (((ShrOps.refl s).modOp ..).modRegion ..).modOp ..⟩

end Sys2Proof.Machine


/-! The loads, MARK and FENCE (R107, R116, R152, R227, R248, R249). -/

namespace Sys2Proof.Machine

open Safety

section
variable {i : Nat} {o : Op} {c : Status} {h r img code : List Byte} {s u v : State}

/-! Table images. -/

/-- What a table load makes of its image. -/
def tableEnds (i : Nat) (o : Op) (r : Except Status (List Byte)) (s : State) : State :=
  match r with
  | .error _ => s.opDone i .poisonConsumed 0
  | .ok img =>
    (if s.tableStatus (dF o.desc 24 1) o.tenant img (s.otherLoad i 15 (dF o.desc 24 2)) = .ok then
      s.loadTable (dF o.desc 24 1) o.tenant img else s).opDone i
      (s.tableStatus (dF o.desc 24 1) o.tenant img (s.otherLoad i 15 (dF o.desc 24 2))) 0

theorem exec_tableLoad (there : s.op i = some o) (live : o.done = none) (is : dOp o.desc = 15) :
    exec (.tableLoad i) s = .next (if s.split then (s.modOp i (fun x => { x with started := true })).opDone i .poisonConsumed 0
      else o.unit.run (o.unit.bytes (dUa o.desc 16) 4096) (tableEnds i o) (s.modOp i (fun x => { x with started := true }))) :=
  congrArg Host.Outcome.next (State.withOp_open there live (decide_eq_true is))

/-! Program images. -/

/-- The reading of a program image: its header, then its code where the header and the mapping allow it. -/
def progRead (o : Op) : Work (List Byte × List Byte) := do
  let h ← o.unit.bytes (dUa o.desc 16) 64
  let s ← get
  let code ← (if pimgHeadOk h && s.mapSrc o.tenant (dUa o.desc 16) (64 + pimgLen h) then
    o.unit.bytes (dUa o.desc 16 + 64) (pimgLen h) else pure [])
  pure (h, code)

/-- What a program load makes of its image. -/
def progEnds (i : Nat) (o : Op) (r : Except Status (List Byte × List Byte)) (s : State) : State :=
  match r with
  | .error _ => s.opDone i .poisonConsumed 0
  | .ok (h, code) =>
    (if s.progStatus (dF o.desc 24 2) o.tenant (dUa o.desc 16) h code (s.otherLoad i 16 (dF o.desc 24 2)) = .ok then
      s.replaceProg (dF o.desc 24 2) o.tenant (if pimgLen h = 0 then none else some (progOf h code)) else s).opDone i
      (s.progStatus (dF o.desc 24 2) o.tenant (dUa o.desc 16) h code (s.otherLoad i 16 (dF o.desc 24 2))) 0

theorem exec_programLoad (there : s.op i = some o) (live : o.done = none) (is : dOp o.desc = 16) :
    exec (.programLoad i) s = .next (if s.split then (s.modOp i (fun x => { x with started := true })).opDone i .poisonConsumed 0
      else o.unit.run (progRead o) (progEnds i o) (s.modOp i (fun x => { x with started := true }))) :=
  congrArg Host.Outcome.next (State.withOp_open there live (decide_eq_true is))

theorem progRead_ok (header : o.unit.bytes (dUa o.desc 16) 64 s = .ok h u)
    (body : (pimgHeadOk h && u.mapSrc o.tenant (dUa o.desc 16) (64 + pimgLen h)) = true ∧
      o.unit.bytes (dUa o.desc 16 + 64) (pimgLen h) u = .ok code v ∨
     (pimgHeadOk h && u.mapSrc o.tenant (dUa o.desc 16) (64 + pimgLen h)) = false ∧ code = [] ∧ v = u) :
    progRead o s = .ok (h, code) v := by
  unfold progRead
  refine (Work.bind_of_ok header _).trans ?_
  refine (Work.get_bind _ u).trans ?_
  rcases body with ⟨may, reads⟩ | ⟨mayNot, rfl, rfl⟩
  · rw [if_pos may]
    exact (Work.bind_of_ok reads _).trans rfl
  · rw [if_neg (by simp [mayNot])]
    rfl

theorem progRead_fail (header : o.unit.bytes (dUa o.desc 16) 64 s = .error (.fail c) u) :
    progRead o s = .error (.fail c) u := by
  unfold progRead
  exact (Work.bind_of_error header _).trans rfl

/-! Calendar images. -/

/-- The reading of a calendar's image. -/
def calRead (o : Op) : Work (List Byte) := do
  let h ← o.unit.bytes (dUa o.desc 16) 64
  let s ← get
  let rest ← (if s.mapSrc o.tenant (dUa o.desc 16) (aimgLen h) then o.unit.bytes (dUa o.desc 16 + 64) (aimgLen h - 64) else pure [])
  pure (h ++ rest)

/-- What a calendar load makes of its image. -/
def calEnds (i : Nat) (o : Op) (r : Except Status (List Byte)) (s : State) : State :=
  match r with
  | .error c => s.opDone i c 0
  | .ok b =>
    if s.loadCheck (dF o.desc 24 2) o.tenant (dUa o.desc 16) b ≠ .ok then
      s.opDone i (s.loadCheck (dF o.desc 24 2) o.tenant (dUa o.desc 16) b) 0
    else if s.split && calHalf (dF o.desc 24 2) ≠ tenantHalf o.tenant then s.opDone i .poisonConsumed 0
    else match s.cal (dF o.desc 24 2) with
      | none => (s.commitCal (dF o.desc 24 2) o.tenant b).opDone i .ok 0
      | some k => (s.setCal (dF o.desc 24 2) { k with loading := some (i, b) }).modOp i (fun x => { x with started := true })

theorem exec_almanacLoad (there : s.op i = some o) (live : o.done = none) (is : dOp o.desc = 17) (fresh : o.started = false) :
    exec (.almanacLoad i) s = .next (o.unit.run (calRead o) (calEnds i o) s) := by
  refine congrArg Host.Outcome.next ((State.withOp_open there live (decide_eq_true is)).trans ?_)
  rw [if_neg (by simp [fresh])]
  rfl

theorem calRead_ok (header : o.unit.bytes (dUa o.desc 16) 64 s = .ok h u)
    (mapped : u.mapSrc o.tenant (dUa o.desc 16) (aimgLen h) = true)
    (body : o.unit.bytes (dUa o.desc 16 + 64) (aimgLen h - 64) u = .ok r v) : calRead o s = .ok (h ++ r) v := by
  unfold calRead
  refine (Work.bind_of_ok header _).trans ?_
  refine (Work.get_bind _ u).trans ?_
  rw [if_pos mapped]
  exact (Work.bind_of_ok body _).trans rfl

theorem calEnds_free (c : Status) (check : c = s.loadCheck (dF o.desc 24 2) o.tenant (dUa o.desc 16) h) (whole : s.split = false)
    (free : s.cal (dF o.desc 24 2) = none) : calEnds i o (.ok h) s =
      if c = .ok then (s.commitCal (dF o.desc 24 2) o.tenant h).opDone i .ok 0 else s.opDone i c 0 := by
  subst check
  by_cases ok : s.loadCheck (dF o.desc 24 2) o.tenant (dUa o.desc 16) h = .ok
  · rw [if_pos ok, calEnds, if_neg (by simp [ok]), whole, free]
    rfl
  · rw [if_neg ok, calEnds, if_pos ok]

/-! MARK and FENCE. -/

theorem exec_mark (there : s.op i = some o) (live : o.done = none) (is : dOp o.desc = 18) (fresh : o.started = false)
    (sent : s.sendMark (tenantHalf o.tenant) (some i) (dF o.desc 20 2) o.tenant (BitVec.ofNat 32 (dF o.desc 16 4)) = (c, u)) :
    exec (.mark i) s = .next (if c = .ok then u.modOp i (fun x => { x with started := true }) else u.opDone i c 0) := by
  refine congrArg Host.Outcome.next ((State.withOp_open there live (decide_eq_true is)).trans ?_)
  rw [if_neg (by simp [fresh]), sent]
  cases c <;> rfl

theorem exec_fence (there : s.op i = some o) (live : o.done = none) (is : dOp o.desc = 19) : exec (.fence i) s =
    .next (if s.ops.any (fun x => x.tenant = o.tenant && x.id < o.id && (x.ring = o.ring || dF o.desc 16 1 = 1)) then s
      else s.modOp i (fun x => { x with done := some .ok, detail := 0 })) :=
  congrArg Host.Outcome.next (State.withOp_open there live (decide_eq_true is))

end

/-- Settles O42: each load by the bridge, its image and its check, a mark by its sending, and a fence by what is before it. -/
theorem loadsMarksAndFencesComplete : Obligations.LoadsMarksAndFencesComplete := by
  refine ⟨?table, ?program, ?fails, ?calendar, ?cut, fun i o c s u there live is fresh sent => exec_mark there live is fresh sent,
    fun i o s there live is => exec_fence there live is⟩
  case table =>
    rintro i o img c s s1 u v there live is whole rfl reads rfl rfl
    rw [exec_tableLoad there live is, if_neg (by simp [whole]), Acc.run_ok reads]
    rfl
  case program =>
    rintro i o h code c s s1 u v w there live is whole rfl header body rfl rfl
    rw [exec_programLoad there live is, if_neg (by simp [whole]), Acc.run_ok (progRead_ok header body)]
    rfl
  case fails =>
    rintro i o c s s1 u there live whole rfl
    refine ⟨fun is fails => ?_, fun is fails => ?_⟩
    · rw [exec_tableLoad there live is, if_neg (by simp [whole]), Acc.run_fail fails]
      rfl
    · rw [exec_programLoad there live is, if_neg (by simp [whole]), Acc.run_fail (progRead_fail fails)]
      rfl
  case calendar =>
    rintro i o h r c s u v w there live is fresh header mapped body rfl check whole free
    rw [exec_almanacLoad there live is fresh, Acc.run_ok (calRead_ok header mapped body), calEnds_free c check whole free]
  case cut =>
    intro i o s there live is split
    rcases is with is | is
    · rw [if_pos is, exec_tableLoad there live is, if_pos split]
    · rw [if_neg (by omega), exec_programLoad there live is, if_pos split]

end Sys2Proof.Machine


/-! EXPERT jobs and the staging of their weights (R22, R188, R191, R192, R228 to R230, R262 to R264). -/

namespace Sys2Proof.Machine

open Safety

section
variable {i : Nat} {o : Op} {s u v : State}

/-! The kernel of an EXPERT. -/

/-- What routing makes of a job. -/
def expertJob (o : Op) (l : List Route) : XJob :=
  { op := o.id, routes := l, results := [], strips := (rowTiles (epbOf o.param) (dF o.desc 50 2) l).length * ((epbOf o.param).outw / 64),
    experts := ((List.range (dF o.desc 50 2)).filter (fun x => tokensOf l x ≠ [])).length }

/-- What the routing of a job leaves. -/
def expertEnds (o : Op) (r : Except Status (List Route)) (s : State) : State :=
  match r with
  | .error c => s.kernelEnd o c 0
  | .ok l => { s.modOp o.id (fun x => { x with started := true }) with xjobs := s.xjobs ++ [expertJob o l] }

theorem exec_expert (there : s.op i = some o) (live : o.done = none) (is : dOp o.desc = 6) : exec (.expert i) s =
    .next (if !s.tcUp || !s.feUp then s.kernelEnd o .fencedUnit 0
      else match s.xjob o.id with
        | some j => if j.jc0 < j.strips then s else s.kernel o none (combineWork o j)
        | none => s.kernelRun o none (routeWork o) (expertEnds o)) :=
  congrArg Host.Outcome.next (State.withOp_open there live (decide_eq_true is))

theorem exec_expert_fenced (there : s.op i = some o) (live : o.done = none) (is : dOp o.desc = 6) (down : s.tcUp = false ∨ s.feUp = false) :
    exec (.expert i) s = .next (s.kernelEnd o .fencedUnit 0) := by
  rw [exec_expert there live is, if_pos (by rcases down with h | h <;> simp [h])]

section
variable (core : s.tcUp = true) (engine : s.feUp = true)
include core engine

theorem exec_expert_counting {j : XJob} (there : s.op i = some o) (job : s.xjob o.id = some j) (left : j.jc0 < j.strips) :
    exec (.expert i) s = .next s := by
  refine congrArg Host.Outcome.next ?_
  simp only [State.withOp, there, core, engine, job, left, Bool.not_true, Bool.or_self, Bool.false_eq_true, if_false, if_true, ite_self]

variable (there : s.op i = some o) (live : o.done = none) (is : dOp o.desc = 6)
include there live is

theorem exec_expert_combines {j : XJob} (job : s.xjob o.id = some j) (all : j.strips ≤ j.jc0) :
    exec (.expert i) s = .next (s.kernel o none (combineWork o j)) := by
  rw [exec_expert there live is, if_neg (by simp [core, engine]), job]
  dsimp only
  rw [if_neg (Nat.not_lt.mpr all)]

theorem exec_expert_routes (first : s.xjob o.id = none) :
    exec (.expert i) s = .next (s.kernelRun o none (routeWork o) (expertEnds o)) := by
  rw [exec_expert there live is, if_neg (by simp [core, engine]), first]

end

section
variable {α : Type} {g : Grain} {m : Acc → Work α} {k : α → State → State} {x : α} {c : Status}
  (up : s.tcUp = true) (grain : s.kernelGrain o = (some g, u)) (near : u.cutFrom o.tenant g.half = false)
  (serves : u.tcServing g.half ≠ [])
include up grain near serves

theorem State.kernelRun_ends (ends : m (o.unitOn g.half) u = .ok x v) :
    s.kernelRun o none m k = k x ((o.unitOn g.half).ends v) := by
  simp only [State.kernelRun, up, grain, near, serves, ends, Bool.not_true, Bool.false_eq_true, if_false]

theorem State.kernelRun_faults (fails : m (o.unitOn g.half) u = .error (.fail c) v) :
    s.kernelRun o none m k = ((o.unitOn g.half).ends v).kernelFault o (if c = .permission then 3 else 5) 0 g.core c := by
  simp only [State.kernelRun, up, grain, near, serves, fails, Bool.not_true, Bool.false_eq_true, if_false]

end

theorem routeWork_bad {a : Acc} {l : List Route} (read : routesOf o a s = .ok l u) (bad : l.all (routeOk (dF o.desc 50 2)) = false) :
    routeWork o a s = .ok (.error .badDescriptor) u := by
  unfold routeWork
  refine (Work.bind_of_ok read _).trans ?_
  rw [if_pos (by simp [bad])]
  rfl

theorem expertEnds_frame (l : List Route) (s : State) :
    expertEnds o (.ok l) s = { s with xjobs := (expertEnds o (.ok l) s).xjobs, ops := (expertEnds o (.ok l) s).ops } := rfl

theorem State.xjobs_ends (a : Acc) (s : State) : (a.ends s).xjobs = s.xjobs :=
  (Acc.ends_only a (Inside.refl _) (Only.refl _ s)).xjobs rfl

/-! Blocks of a work bank. -/

theorem outBlock_header (fe fmt tag : Nat) (codes : List Nat) (scales : List Byte) (engine : fe < 16) (format : fmt < 256) :
    (outBlock fe fmt tag codes scales).hdr.length = 16 ∧ byteAt (outBlock fe fmt tag codes scales).hdr 7 = fe ∧
    (hdrOf (outBlock fe fmt tag codes scales).hdr).ver = 1 ∧ (hdrOf (outBlock fe fmt tag codes scales).hdr).mode = 3 ∧
    (hdrOf (outBlock fe fmt tag codes scales).hdr).slot = 0xFF ∧ (hdrOf (outBlock fe fmt tag codes scales).hdr).gen = 0 ∧
    (hdrOf (outBlock fe fmt tag codes scales).hdr).fmt = fmt / 16 ∧ (hdrOf (outBlock fe fmt tag codes scales).hdr).lay = fmt % 16 ∧
    (hdrOf (outBlock fe fmt tag codes scales).hdr).check = (crc32c (outBlock fe fmt tag codes scales).body).toNat := by
  have hdr : (outBlock fe fmt tag codes scales).hdr = outHdr fe fmt tag (outBlock fe fmt tag codes scales).body := rfl
  rw [hdr]
  generalize (outBlock fe fmt tag codes scales).body = body
  have formatByte : (BitVec.ofNat 8 fmt).toNat = fmt := by simp; omega
  have engineByte : (BitVec.ofNat 8 fe).toNat = fe := by simp; omega
  have first : byteAt (outHdr fe fmt tag body) 0 = 28 := rfl
  refine ⟨rfl, engineByte, congrArg (· / 16) first, congrArg (· / 4 % 4) first, rfl, rfl, ?_, ?_, ?_⟩
  · exact congrArg (· / 16) formatByte
  · exact congrArg (· % 16) formatByte
  · change leNat (leBytes 4 (crc32c body).toNat) = _
    rw [leNat_leBytes]
    exact Nat.mod_eq_of_lt (crc32c body).isLt

theorem OutBlk.values_bad {b : OutBlk} (ver : (hdrOf b.hdr).ver = 1) (mode : (hdrOf b.hdr).mode = 3) (slot : (hdrOf b.hdr).slot = 0xFF)
    (gen : (hdrOf b.hdr).gen = 0) (len : (hdrOf b.hdr).len = 64) (lay : layOk (hdrOf b.hdr).fmt (hdrOf b.hdr).lay = true)
    (size : b.body.length = (hdrOf b.hdr).xlen) (bad : (crc32c b.body).toNat ≠ (hdrOf b.hdr).check) :
    b.values = .error .checkMismatch := by
  simp [OutBlk.values, ver, mode, slot, gen, len, lay, size, bad]

/-! Fills. -/

theorem exec_stagingFillDone_filled {fe : BitVec 4} {p : PlotNo} {k : BitVec 4} (quiet : s.wblockSnoops (16 * p.toNat + k.toNat) = [])
    (filled : s.fillDone fe.toNat (16 * p.toNat + k.toNat) = (true, u)) :
    exec (.stagingFillDone fe p k) s = .next ((u.settle p.toNat).markReady fe.toNat) := by
  change execStagingFillDone fe p k s = _
  rw [execStagingFillDone, quiet, filled]

/-- The snoops of a fill. -/
def State.snoopFill (l : List (Nat × List Nat × Bool)) (s : State) : State :=
  forAll l (fun x s => forAll x.2.1 (fun h s => s.sendSnoop .unit x.2.2 x.1 h) s) s

theorem exec_stagingFillDone_snoops {fe : BitVec 4} {p : PlotNo} {k : BitVec 4} {x : Nat × List Nat × Bool} {l : List (Nat × List Nat × Bool)}
    (snoops : s.wblockSnoops (16 * p.toNat + k.toNat) = x :: l) :
    exec (.stagingFillDone fe p k) s = .next (s.snoopFill (x :: l)) := by
  change execStagingFillDone fe p k s = _
  rw [execStagingFillDone, snoops]
  rfl

/-- A state that differs in its regions' part and what was sent alone. -/
def ShrOut (s t : State) : Prop := t = { s with shr := t.shr, out := t.out }

theorem ShrOut.split {t : State} (h : ShrOut s t) : t.split = s.split := by
  rw [h]
  rfl

theorem ShrOut.trans {t : State} (h : ShrOut s t) (g : ShrOut t u) : ShrOut s u := by
  rw [ShrOut] at g
  rw [ShrOut, g, h]

/-- A snoop of a module that is whole is sent, or on its way. -/
theorem State.sendSnoop_whole {why : SnpWhy} {inv : Bool} {l t : Nat} (whole : s.split = false) :
    ShrOut s (s.sendSnoop why inv l t) ∧ (s.sendSnoop why inv l t).shr.snoops ≠ [] := by
  have near : s.snoopCut l t = false := by simp [State.snoopCut, whole]
  rw [State.sendSnoop, if_neg (by simp [near])]
  split
  · refine ⟨rfl, fun none_ => ?_⟩
    simp_all
  · exact ⟨rfl, by simp [State.emit, State.modShr]⟩

theorem State.snoopFill_whole {x : Nat × List Nat × Bool} {l : List (Nat × List Nat × Bool)} (some_ : x.2.1 ≠ []) (whole : s.split = false) :
    (s.snoopFill (x :: l)).shr.snoops ≠ [] ∧ ShrOut s (s.snoopFill (x :: l)) := by
  have turn : ∀ (why : SnpWhy) (inv : Bool) (n t : Nat) (u : State), u.shr.snoops ≠ [] ∧ ShrOut s u →
      (u.sendSnoop why inv n t).shr.snoops ≠ [] ∧ ShrOut s (u.sendSnoop why inv n t) := by
    intro why inv n t u ⟨_, frame⟩
    obtain ⟨next, sent⟩ := State.sendSnoop_whole (why := why) (inv := inv) (l := n) (t := t) (frame.split.trans whole)
    exact ⟨sent, frame.trans next⟩
  obtain ⟨h, r, cons⟩ := List.exists_cons_of_ne_nil some_
  obtain ⟨first, sent⟩ := State.sendSnoop_whole (why := .unit) (inv := x.2.2) (l := x.1) (t := h) whole
  rw [State.snoopFill, forAll_cons, cons, forAll_cons]
  refine forAll_keeps (P := fun u : State => u.shr.snoops ≠ [] ∧ ShrOut s u) l (fun y _ u hu => ?_) ?_
  · exact forAll_keeps (P := fun u : State => u.shr.snoops ≠ [] ∧ ShrOut s u) _ (fun n _ w hw => turn .unit y.2.2 y.1 n w hw) hu
  · exact forAll_keeps (P := fun u : State => u.shr.snoops ≠ [] ∧ ShrOut s u) r (fun n _ w hw => turn .unit x.2.2 x.1 n w hw) ⟨sent, first⟩

theorem State.wblockSnoops_ne {b : Nat} {x : Nat × List Nat × Bool} {l : List (Nat × List Nat × Bool)} (h : s.wblockSnoops b = x :: l) :
    x.2.1 ≠ [] := by
  have mem : x ∈ s.wblockSnoops b := h ▸ List.mem_cons_self
  unfold State.wblockSnoops at mem
  split at mem
  · split at mem
    · simpa using (List.mem_filter.mp mem).2
    · cases mem
  · cases mem

/-! The entry of a fill. -/

theorem State.fe_modFe (n : Nat) (f : Engine → Engine) (s : State) : (s.modFe n f).fe n = f (s.fe n) := State.fe_setFe n _

/-- An engine without the fills of a block. -/
def Engine.unfill (b : Nat) (g : Engine) : Engine := { g with fills := g.fills.filter (fun r => r.block ≠ b) }

/-- An engine with one entry of a block. -/
def Engine.stage (x : Staged) (g : Engine) : Engine := { g with staged := g.staged.filter (fun y => y.block ≠ x.block) ++ [x] }

/-- A block that is staged, with the banks' words fresh. -/
def State.stageBlock (fe : Nat) (x : Staged) (ws : List Nat) (s : State) : State :=
  (((s.modFe fe (Engine.unfill x.block)).wakeBank x.bank).modFe fe (Engine.stage x)).cstFresh ws |>.settle (x.block / 16)

theorem Only.fe {m : Nat} {t : State} (h : Only m s t) (hm : m.testBit 26 = false) (n : Nat) : t.fe n = s.fe n := by
  rw [State.fe, h.fes hm, State.fe]

theorem State.fe_stageBlock (fe : Nat) (x : Staged) (ws : List Nat) (s : State) :
    (s.stageBlock fe x ws).fe fe = ((s.fe fe).unfill x.block).stage x := by
  rw [State.stageBlock, (State.settle_only _ (Inside.refl _) (Only.refl _ _)).fe rfl,
    (State.cstFresh_only _ (Inside.refl _) (Only.refl _ _)).fe rfl, State.fe_modFe,
    (State.wakeBank_only _ (Inside.refl _) (Only.refl _ _)).fe rfl, State.fe_modFe]

/-- The staging bank's entry of a block that is fetched for its readers. -/
def State.stagedEntry (fe b bank : Nat) (rs : List StageReq) (got : Option (Status × List Byte)) (s : State) : Staged :=
  { block := b, bank := bank,
    secs := ((List.range 8192).filter (fun i => !(s.bankSecs fe bank).contains i)).take (ceilDiv (s.stagedBytes b) 64),
    holders := ninsAll (rs.filterMap (fun r => r.tenant)) [], bind := s.bindOf b, got := got }

/-- The words of a bank that an entry takes. -/
def Staged.taken (x : Staged) : List Nat := Staged.words { block := x.block, bank := x.bank, secs := x.secs, holders := [], bind := none }

theorem State.fillDone_stages {fe b bank : Nat} {e : Plot} {got : Option (Status × List Byte)} {w : State}
    (asked : (s.fe fe).fills.any (fun r => r.block = b) = true) (there : s.plot (b / 16) = some e) (still : e.st ≠ .promoting)
    (admitted : s.admitFill fe b = (true, u)) (room : u.stageRoom fe (u.stagedBytes b) ((s.fe fe).staged.length + 1) = (some bank, v))
    (fetched : v.fetchBlock fe b e = (some got, w)) :
    ∃ x : Staged, x.block = b ∧ x.bank = bank ∧ x.got = got ∧ s.fillDone fe b = (true, w.stageBlock fe x x.taken) := by
  obtain ⟨r, mem, is⟩ := List.any_eq_true.mp asked
  have some_ : (s.fe fe).fills.filter (fun r => r.block = b) ≠ [] :=
    fun none_ => List.not_mem_nil (none_ ▸ List.mem_filter.mpr ⟨mem, is⟩)
  obtain ⟨f, rest, fills⟩ := List.exists_cons_of_ne_nil some_
  rw [State.fillDone]
  dsimp only
  rw [fills, there]
  dsimp only
  rw [if_neg (by simp [still]), admitted]
  dsimp only
  rw [room]
  dsimp only
  rw [fetched]
  exact ⟨((w.modFe fe (Engine.unfill b)).wakeBank bank).stagedEntry fe b bank (f :: rest) got, rfl, rfl, rfl, rfl⟩

end

/-- Settles O43: the kernel of a job by its stage, a block of a work bank by its header, and a fill by its snoops and its fetch. -/
theorem expertJobsRouteAndCombine : Obligations.ExpertJobsRouteAndCombine := by
  refine ⟨?routes, ?fails, fun o a l s u read bad => routeWork_bad read bad,
    fun i o j s there live is core engine job all => exec_expert_combines core engine there live is job all,
    fun i o j s there job left core engine => exec_expert_counting core engine there job left,
    fun i o s there live is down => exec_expert_fenced there live is down,
    fun fe fmt tag codes scales engine format => outBlock_header fe fmt tag codes scales engine format,
    fun b ver mode slot gen len lay size bad => OutBlk.values_bad ver mode slot gen len lay size bad,
    fun fe p k s u quiet filled => exec_stagingFillDone_filled quiet filled, ?snoops, ?stages⟩
  case routes =>
    intro i o g l s v u there live is core engine first grain near serves work
    refine ⟨expertEnds o (.ok l) ((o.unitOn g.half).ends u), ?_, ⟨expertJob o l, ?_, rfl, rfl, rfl, rfl, rfl⟩, expertEnds_frame l _⟩
    · rw [exec_expert_routes core engine there live is first, State.kernelRun_ends core grain near serves work]
    · exact congrArg (· ++ [expertJob o l]) (State.xjobs_ends _ u)
  case fails =>
    intro i o g c s v u there live is core engine first grain near serves
    refine ⟨fun work => ?_, fun work => ?_⟩
    · rw [exec_expert_routes core engine there live is first, State.kernelRun_ends core grain near serves work]
      rfl
    · rw [exec_expert_routes core engine there live is first, State.kernelRun_faults core grain near serves work]
  case snoops =>
    intro fe p k s x l snoops whole
    exact ⟨_, exec_stagingFillDone_snoops snoops, State.snoopFill_whole (State.wblockSnoops_ne snoops) whole⟩
  case stages =>
    intro fe b bank e got s u v w asked there still admitted room fetched
    obtain ⟨x, block, inBank, read, done⟩ := State.fillDone_stages asked there still admitted room fetched
    subst block
    rw [done, State.fe_stageBlock]
    exact ⟨rfl, x, rfl, rfl, inBank, read, rfl⟩

end Sys2Proof.Machine


/-! Engines run tiles and strips and release them; duplicate runs (R178, R182, R184, R186, R189, R195, R196, R199, R201 to R205). -/

namespace Sys2Proof.Machine

open Safety

section
variable {fe : BitVec 4} {f n : Nat} {g : FGrain} {o : Op} {st : Strip} {r : List Strip} {s u : State}

/-! The start of a tile. -/

theorem exec_tileStart_still (still : (s.fe fe.toNat).ctl.st ≠ .inService ∨ (s.fe fe.toNat).tile.isSome = true) :
    exec (.tileStart fe) s = .next s := by
  change execTileStart fe s = _
  rw [execTileStart, if_pos (by simpa using still)]

section
variable (serves : (s.fe fe.toNat).ctl.st = .inService) (free : (s.fe fe.toNat).tile = none)
  (hu : u = (((forAll ((s.stopGrains fe.toNat).fe fe.toNat).grains (fun g s => s.fetchAhead fe.toNat g)
    (s.stopGrains fe.toNat)).markReady fe.toNat).countWaits fe.toNat).startBanks fe.toNat)
include serves free hu

theorem exec_tileStart_none (none_ : u.pickTile fe.toNat (fun g => u.banksOn fe.toNat g) = none) : exec (.tileStart fe) s = .next u := by
  change execTileStart fe s = _
  rw [execTileStart, if_neg (by simp [serves, free])]
  dsimp only
  rw [← hu, none_]

theorem exec_tileStart_starts (picked : u.pickTile fe.toNat (fun g => u.banksOn fe.toNat g) = some g) :
    exec (.tileStart fe) s = .next (u.startTile fe.toNat g) := by
  change execTileStart fe s = _
  rw [execTileStart, if_neg (by simp [serves, free])]
  dsimp only
  rw [← hu, picked]

end

theorem State.tile_runTile (t : Tile) : ∃ b, ((s.runTile f t).fe f).tile = some { t with banks := b } ∧
    ((s.runTile f t).fe f).aob = some t.grain := by
  rw [State.runTile]
  dsimp only
  rw [State.fe_modFe]
  exact ⟨_, rfl, rfl⟩

/-- The tile that an engine starts is its grain's, and ends at its bound where nothing failed. -/
theorem State.startTile_runs {e : Epb} {w : EpbEnt} (epb : s.epbFor g = some (e, w)) (strips : g.strips = st :: r) :
    ∃ (v : State) (t : Tile), s.startTile f g = v.runTile f t ∧ t.grain = g.id ∧ (t.fail = none → t.kEnd = e.tileEnd w st g.second g.k) := by
  rw [State.startTile, epb, strips]
  dsimp only
  split
  · exact ⟨_, _, rfl, rfl, fun h => by cases h⟩
  · split
    · exact ⟨_, _, rfl, rfl, fun _ => rfl⟩
    · exact ⟨_, _, rfl, rfl, fun h => by cases h⟩

/-! The end of a tile. -/

theorem exec_tileEnd (d : List (BitVec 12 × W32)) : exec (.tileEnd fe d) s = .next ((s.tileEnd fe.toNat d).markReady fe.toNat) := rfl

theorem State.tileEnd_none {d : List (BitVec 12 × W32)} (free : (s.fe f).tile = none) : s.tileEnd f d = s := by
  rw [State.tileEnd, free]

/-- The engine has dropped its tile, with the staged blocks that the tile alone kept. -/
def State.endTile (f : Nat) (t : Tile) (s : State) : State :=
  s.modFe f (fun x => { x with tile := none, staged := x.staged.filter (fun y => !(y.drop && nmem y.block t.blocks)) })

/-- What a tile's end is for its grain's strip. -/
def State.tileEnds (f : Nat) (t : Tile) (g : FGrain) (o : Op) (st : Strip) (a : List (List W32)) (s : State) : State :=
  match t.fail with
  | some c => (s.failOp o.id c 0).stopGrains f
  | none =>
    if t.kEnd < ((epbOf o.param).chain (epbEnt o.param g.expert) st g.second).2.1 then
      s.modFgrain f g.id (fun x => if g.second then { x with acc1 := a, k := t.kEnd } else { x with acc0 := a, k := t.kEnd })
    else if !st.down && (epbOf o.param).gated && !g.second then
      s.modFgrain f g.id (fun x => { x with acc0 := a, second := true, k := 0 })
    else (s.stripEnd f g o st (if g.second then g.acc0 else a) a).stopGrains f

theorem State.tileEnd_of {d : List (BitVec 12 × W32)} {t : Tile} (tile : (s.fe f).tile = some t)
    (grain : ((s.endTile f t).fe f).grains.find? (fun g => g.id = t.grain) = some g) (op : (s.endTile f t).op g.op = some o)
    (live : o.done = none) (role : (s.endTile f t).idleRole g = false) (strips : g.strips = st :: r) :
    s.tileEnd f d = (s.endTile f t).tileEnds f t g o st (wrongAcc d t.acc) := by
  rw [State.tileEnd, tile]
  dsimp only
  rw [State.endTile] at *
  rw [grain]
  dsimp only
  rw [op, strips]
  dsimp only
  rw [if_neg (by rw [live, role]; exact Bool.false_ne_true)]
  rfl

theorem wrongAcc_nil (a : List (List W32)) : wrongAcc [] a = a := by
  simp [wrongAcc, List.zipIdx_map_fst]

/-! The end of a strip. -/

theorem State.stripEnd_unsampled {a0 a1 : List (List W32)} {q : List OutBlk × Cnts} (role : g.role = .primary) (alone : g.dup = none)
    (out : q = stripOut f g (epbOf o.param) o.rnd st (stripVals (epbOf o.param) (epbEnt o.param g.expert) st a0 a1)) :
    s.stripEnd f g o st a0 a1 = ((s.countCnts o.tenant q.2).modFgrain f g.id (FGrain.next false st)).releaseStrip f g.id o st q.1 := by
  subst out
  rw [State.stripEnd, role]
  dsimp only
  rw [alone]
  rfl

/-- A job with the result blocks of one more down strip. -/
def XJob.counted (st : Strip) (g : FGrain) (l : List OutBlk) (j : XJob) : XJob :=
  { j with
    results := j.results ++ ((l.zip (chunks 16 g.rows)).map (fun x => { expert := g.expert, rows := x.2, strip := st.index, blk := x.1 }))
    jc0 := j.jc0 + 1 }

theorem State.xjob_modXjob {i : Nat} {j : XJob} {h : XJob → XJob} (there : s.xjob i = some j) (keeps : ∀ x, (h x).op = x.op) :
    (s.modXjob i h).xjob i = some (h j) := by
  have id : j.op = i := by simpa using List.find?_some there
  rw [State.xjob, State.modXjob]
  dsimp only
  rw [find?_mapIf (fun x => by rw [keeps]), ← State.xjob, there]
  simp [id]

theorem Only.xjob {m : Nat} {t : State} (h : Only m s t) (hm : m.testBit 28 = false) (i : Nat) : t.xjob i = s.xjob i := by
  rw [State.xjob, h.xjobs hm, State.xjob]

theorem State.xjob_releaseStrip {l : List OutBlk} {j : XJob} (there : (s.fe f).grains.find? (fun x => x.id = g.id) = some g)
    (down : st.down = true) (job : s.xjob g.op = some j) :
    (s.releaseStrip f g.id o st l).xjob g.op = some (j.counted st g l) := by
  have counted : (s.modXjob g.op (XJob.counted st g l)).xjob g.op = some (j.counted st g l) := State.xjob_modXjob job (fun _ => rfl)
  rw [State.releaseStrip, there]
  dsimp only
  rw [if_pos down, if_pos down]
  split
  · rw [(State.endFgrain_only _ _ (Inside.refl _) (Only.refl _ _)).xjob rfl]
    exact counted
  · rw [(State.modFgrain_only _ _ _ (Inside.refl _) (Only.refl _ _)).xjob rfl, if_pos rfl]
    exact counted

/-! Sampling. -/

theorem State.sampled_off (free : dFlags o.desc / 8 % 2 ≠ 1) (off : bit 31 (s.stw Reg.FLE_DUPCFG) = false) : s.sampled o = false := by
  simp [State.sampled, free, off]

theorem State.sampleStrip_not (no : s.sampled o = false) : s.sampleStrip f g o st = s.tickFree := by
  simp [State.sampleStrip, no]

theorem State.sampleStrip_alone (yes : s.sampled o = true) (alone : s.tickFree.nextFe f [] = none) :
    s.sampleStrip f g o st = s.tickFree.cntBar o.tenant Reg.FLE_DUP 7 0 1 := by
  simp [State.sampleStrip, yes, alone]

/-- The comparison of a sampled strip. -/
def State.comparison (f c : Nat) (g : FGrain) (o : Op) (st : Strip) (s : State) : Dup :=
  { id := s.nextGrain, op := o.id, grain := g.id, primary := f, strip := st, checker := c }

theorem State.sampleStrip_checked {c : Nat} (yes : s.sampled o = true) (next : s.tickFree.nextFe f [] = some c) :
    s.sampleStrip f g o st = (({ s.tickFree with dups := s.dups ++ [s.comparison f c g o st] } : State).modFgrain f g.id
      (fun x => { x with dup := some s.nextGrain })).runAgain g st c (.checker s.nextGrain) := by
  rw [State.sampleStrip]
  dsimp only
  rw [if_neg (by simp [yes]), next]
  rfl

/-- A grain that runs a strip again. -/
def State.copyOf (g : FGrain) (st : Strip) (c : Nat) (role : Role) (s : State) : FGrain :=
  { id := s.nextGrain, op := g.op, tenant := g.tenant, cls := g.cls, expert := g.expert, rows := g.rows, fe := c, strips := [st],
    inp := g.inp, inter := g.inter, role := role, blk := g.blk, stamp := s.now }

/-- A strip that runs again is a grain of its engine. -/
theorem State.grains_runAgain (c : Nat) (role : Role) (s : State) :
    ((s.runAgain g st c role).fe c).grains = (s.fe c).grains ++ [s.copyOf g st c role] := by
  change ((s.modFe c (fun x => { x with grains := x.grains ++ [s.copyOf g st c role] })).fe c).grains = _
  rw [State.fe_modFe]

/-! Comparisons. -/

theorem State.dupStep_of {i : Nat} {d : Dup} {a b : List OutBlk} (dup : s.dup i = some d) (op : s.op d.op = some o)
    (first : d.out1 = some a) (second : d.out2 = some b) : s.dupStep i =
      if sameOut a b then (s.cntBar o.tenant Reg.FLE_DUP 31 16 1).dupRelease d o else s.thirdRun State.fenceDup d := by
  simp only [State.dupStep, dup, op, first, second]

theorem State.thirdRun_none {d : Dup} {fence : Nat → Nat → State → State} (none_ : s.nextFe d.checker [d.primary, d.checker] = none) :
    s.thirdRun fence d = s.settleDup fence { d with thirdFe := none } none := by
  rw [State.thirdRun, none_]

/-- The next engine after another is in service, and one of the module's sixteen. -/
theorem State.nextFe_serves {c : Nat} (next : s.nextFe n [] = some c) : (s.fe c).ctl.st = .inService ∧ (n < 16 → c < 16) := by
  have serves : ∀ l : List Nat, l.find? (fun i => decide ((s.fe i).ctl.st = .inService) && !List.contains ([] : List Nat) i) = some c →
      (s.fe c).ctl.st = .inService ∧ c ∈ l := by
    intro l found
    have ok := List.find?_some found
    exact ⟨by simpa using ok, List.mem_of_find?_eq_some found⟩
  unfold State.nextFe at next
  dsimp only at next
  split at next
  next i near =>
    cases next
    obtain ⟨st, mem⟩ := serves _ near
    refine ⟨st, fun hn => ?_⟩
    obtain ⟨k, _, rfl⟩ := List.mem_map.mp mem
    omega
  next =>
    split at next
    · cases next
    · obtain ⟨st, mem⟩ := serves _ next
      refine ⟨st, fun _ => ?_⟩
      obtain ⟨k, small, rfl⟩ := List.mem_map.mp mem
      have := List.mem_range.mp small
      omega

/-! Fences. -/

theorem State.fenceFe_idle {cause : Nat} {cmd : Bool} (noGrains : (s.fe f).grains = []) (noFills : (s.fe f).fills = []) :
    (s.fenceFe f cause cmd).fe f =
      { ctl := { st := .fencing, cause := BitVec.ofNat 3 cause, tpass := (s.fe f).ctl.tpass, cmd := cmd } } := by
  rw [State.fenceFe, State.fenceN, noGrains, noFills, List.map_nil, forAll_nil, forAll_nil,
    (State.fenceRec_only _ _ _ (Inside.refl _) (Only.refl _ _)).fe rfl, (State.farDrop_only _ (Inside.refl _) (Only.refl _ _)).fe rfl,
    State.fe_setFe]

/-! The settlement of a mismatch. -/

/-- The state in which a mismatch is recorded and the engine is still to be fenced. -/
def State.mismatch (d : Dup) (o : Op) (n : Nat) (unresolved : Bool) (s : State) : State :=
  (((s.dropDup d.id).cntBar o.tenant Reg.FLE_DUP 15 8 1).failOp o.id .dupMismatch n).logRec
    { typ := 0x08, sev := 2, tenant := some o.tenant, unit := unitNo 3 n,
      aux0 := d.primary + 16 * d.checker + 256 * d.thirdFe.getD 0 + 4096 * b2n d.thirdFe.isSome + 8192 * b2n unresolved,
      aux1 := dTag o.desc * 65536 + dSeq o.desc }

theorem State.fes_mismatch (d : Dup) (o : Op) (n : Nat) (b : Bool) (s : State) : (s.mismatch d o n b).fes = s.fes :=
  (State.logRec_only _ (Inside.refl _) (Only.refl _ _)).fes rfl

theorem State.xjobs_mismatch (d : Dup) (o : Op) (n : Nat) (b : Bool) (s : State) : (s.mismatch d o n b).xjobs = s.xjobs :=
  (State.logRec_only _ (Inside.refl _) (Only.refl _ _)).xjobs rfl

theorem State.op_failOp {i : Nat} {c : Status} (op : s.op i = some o) (live : o.done = none) :
    (s.failOp o.id c n).op i = some { o with done := some c, detail := n } := by
  obtain rfl : o.id = i := by simpa using List.find?_some op
  rw [State.failOp, State.op_modOp op (fun x => by split <;> rfl), live]
  rfl

theorem State.op_mismatch {d : Dup} {b : Bool} (op : s.op d.op = some o) (live : o.done = none) :
    (s.mismatch d o n b).op d.op = some { o with done := some .dupMismatch, detail := n } := by
  rw [State.op, State.mismatch, (State.logRec_only _ (Inside.refl _) (Only.refl _ _)).ops rfl, ← State.op]
  exact State.op_failOp (s := (s.dropDup d.id).cntBar o.tenant Reg.FLE_DUP 15 8 1) op live

theorem State.settleDup_eq {d : Dup} {fence : Nat → Nat → State → State} {out3 : Option (List OutBlk)} {agrees : Option (List OutBlk) → Bool}
    (op : s.op d.op = some o) (ha : agrees = (fun x => match x, out3 with
      | some a, some b => sameOut a b
      | _, _ => false)) (hn : n = (if agrees d.out1 then d.checker else d.primary)) (serves : (s.fe n).ctl.st = .inService) :
    s.settleDup fence d out3 = fence n (if !agrees d.out1 && !agrees d.out2 then 2 else 1)
      (s.mismatch d o n (!agrees d.out1 && !agrees d.out2)) := by
  have still : ((s.mismatch d o n (!agrees d.out1 && !agrees d.out2)).fe n).ctl.st = .inService := by
    rw [State.fe, State.fes_mismatch, ← State.fe, serves]
  subst ha hn
  rw [State.settleDup, op]
  exact if_pos still

end

/-- Settles O44: tiles, strips and comparisons by what each finds. -/
theorem enginesRunTilesAndStripsAndDuplicates : Obligations.EnginesRunTilesAndStripsAndDuplicates := by
  refine ⟨fun fe s still => exec_tileStart_still still,
    fun fe s u serves free hu => ⟨fun none_ => exec_tileStart_none serves free hu none_, fun g picked => exec_tileStart_starts serves free hu picked⟩,
    ?starts, ?noTile, ?ends, wrongAcc_nil, fun f g o st a0 a1 q s role alone out => State.stripEnd_unsampled role alone out, ?counts,
    fun o s free off => State.sampled_off free off, ?samples, ?compares,
    fun d fence s none_ => State.thirdRun_none none_, ?settles, fun f cause cmd s noGrains noFills => State.fenceFe_idle noGrains noFills,
    fun n c s next => State.nextFe_serves next⟩
  case starts =>
    intro f g e w st r s epb strips
    obtain ⟨v, t, runs, grain, bound⟩ := State.startTile_runs (f := f) (s := s) epb strips
    obtain ⟨b, tile, current⟩ := State.tile_runTile (f := f) (s := v) t
    rw [runs]
    exact ⟨_, tile, grain, current.trans (congrArg some grain), bound⟩
  case noTile =>
    intro fe d s free
    rw [exec_tileEnd, State.tileEnd_none free]
  case ends =>
    rintro fe d t g o st r e a s u tile rfl grain op live role strips rfl rfl
    have run : ∀ v : State, (s.endTile fe.toNat t).tileEnds fe.toNat t g o st (wrongAcc d t.acc) = v →
        exec (.tileEnd fe d) s = .next (v.markReady fe.toNat) := by
      intro v hv
      rw [exec_tileEnd, State.tileEnd_of tile grain op live role strips, hv]
    refine ⟨fun c fails => run _ ?_, fun sound more => run _ ?_, fun sound all up gated first => run _ ?_, fun sound all last => run _ ?_⟩
    · rw [State.tileEnds, fails]
      rfl
    · rw [State.tileEnds, sound]
      exact if_pos more
    · rw [State.tileEnds, sound]
      exact (if_neg (Nat.not_lt.mpr all)).trans (if_pos (by simp [up, gated, first]))
    · rw [State.tileEnds, sound]
      refine (if_neg (Nat.not_lt.mpr all)).trans (if_neg ?_)
      rcases last with h | h | h <;> simp [h]
  case counts =>
    intro f g o st l j s there down job
    exact ⟨_, State.xjob_releaseStrip there down job, rfl, rfl, rfl⟩
  case samples =>
    intro f g o st s
    refine ⟨fun no => State.sampleStrip_not no, fun yes alone => State.sampleStrip_alone yes alone, fun c yes next => ?_⟩
    rw [State.sampleStrip_checked yes next]
    refine ⟨s.comparison f c g o st, rfl, rfl, rfl, rfl, rfl, rfl, rfl, rfl, ?_⟩
    rw [State.grains_runAgain]
    exact ⟨_, List.mem_append_right _ (List.mem_singleton.mpr rfl), rfl, rfl, rfl, rfl⟩
  case compares =>
    intro i d o a b s dup op first second
    rw [State.dupStep_of dup op first second]
    exact ⟨fun same => if_pos same, fun other => if_neg (by simp [other])⟩
  case settles =>
    intro d fence out3 o n agrees s op live ha hn serves
    exact ⟨_, State.settleDup_eq op ha hn serves, ⟨_, State.op_mismatch op live, rfl, rfl⟩, State.xjobs_mismatch .., State.fes_mismatch ..⟩

end Sys2Proof.Machine


/-! Engines and cores are fenced, tested and returned to service (R206, R207, R224, R382, Tables FLE-7 and FLE-12). -/

namespace Sys2Proof.Machine

open Safety

section
variable {s t : State}

theorem forAll_congr {α σ : Type} {f h : α → σ → σ} (l : List α) (same : ∀ a ∈ l, ∀ s, f a s = h a s) (s : σ) :
    forAll l f s = forAll l h s := by
  induction l generalizing s with
  | nil => rfl
  | cons a r ih => rw [forAll_cons, forAll_cons, same a List.mem_cons_self, ih (fun b hb => same b (List.mem_cons_of_mem _ hb))]

/-! Checks and the status of a fence command. -/

theorem State.fenceCheck_conflict {stat : Nat} {u : UnitSt} {d : Bool} (conflict : s.conflict = true) :
    s.fenceCheck stat u d = .stewardConflict := if_pos conflict

theorem State.fenceCheck_busy {stat : Nat} {u : UnitSt} {d : Bool} (alone : s.conflict = false)
    (busy : bit 31 (s.stw stat) = true ∨ u = .fencing ∨ u = .testing) : s.fenceCheck stat u d = .slotBusy := by
  rcases busy with h | h | h <;> simp [State.fenceCheck, alone, h]

theorem State.fenceCheck_idle {stat : Nat} {u : UnitSt} {d : Bool} (alone : s.conflict = false) (idle : bit 31 (s.stw stat) = false)
    (rest : u = .inService ∨ u = .fenced) : s.fenceCheck stat u d = if d then .permission else .ok := by
  rcases rest with h | h <;> simp [State.fenceCheck, alone, idle, h]

theorem State.fenceIdle_on (stat : Nat) (s : State) : (s.fenceIdle stat true).stw stat = 0#32 := State.stw_setStw stat 0#32

/-! What the arbiter changes. -/

theorem setBits_low_masked (v : Nat) (w : W32) : setBits 7 0 v w &&& 0xFFFFFF00#32 = w &&& 0xFFFFFF00#32 := by
  have low : ∀ k < 8, (0xFFFFFF00#32).getLsbD k = false := by decide
  refine BitVec.eq_of_getLsbD_eq (fun k _ => ?_)
  rw [BitVec.getLsbD_and, BitVec.getLsbD_and, getLsbD_setBits]
  by_cases h : k < 8
  · rw [low k h, Bool.and_false, Bool.and_false]
  · rw [if_neg (by omega)]

theorem State.maintAsk_frame (code : Nat) (scope : List Nat) (unit : Nat) (s : State) : s.maintAsk code scope unit =
    { s with reg := (s.maintAsk code scope unit).reg, ras := (s.maintAsk code scope unit).ras } := by
  unfold State.maintAsk
  dsimp only
  split
  · rfl
  · split
    · rfl
    · unfold State.setDefer
      split <;> rfl

/-- A request for a grant changes of the register that reports a deferral its status alone. -/
theorem State.stw_maintAsk {code unit off : Nat} (scope : List Nat) (defers : deferReg code unit = some off)
    (other : ∀ h : Half, off ≠ Reg.RAS_MARB + 4 * halfIdx h) (s : State) :
    (s.maintAsk code scope unit).stw off &&& 0xFFFFFF00#32 = s.stw off &&& 0xFFFFFF00#32 := by
  unfold State.maintAsk
  dsimp only
  split
  · rfl
  · split
    · rfl
    · rw [State.setDefer, defers]
      dsimp only
      rw [State.stw_modStw, setBits_low_masked, State.countPark, State.cntStw, State.stw_modStw_other _ (other _)]
      rfl

/-- States that differ in the arbiter alone. -/
def RasOnly (s t : State) : Prop := t = { s with ras := t.ras }

theorem RasOnly.refl (s : State) : RasOnly s s := rfl

theorem RasOnly.modRas {s t : State} (h : RasOnly s t) (f : Ras → Ras) : RasOnly s (t.modRas f) := by
  rw [RasOnly] at h
  rw [RasOnly, State.modRas, h]

theorem State.maintEnd_frame (code unit : Nat) (s : State) : RasOnly s (s.maintEnd code unit) := by
  unfold State.maintEnd State.grantWon
  refine forAll_keeps (P := fun t : State => RasOnly s t) _ (fun a _ t h => ?_) ((RasOnly.refl s).modRas _)
  split
  · exact h
  · exact h.modRas _

/-- No activity of a code and unit. -/
def State.NoAct (code unit : Nat) (s : State) : Prop := s.ras.acts.any (fun a => a.code = code && a.unit = unit) = false

theorem State.NoAct.modAct {code unit id : Nat} {f : Activity → Activity} (h : s.NoAct code unit)
    (keeps : ∀ a, (f a).code = a.code ∧ (f a).unit = a.unit) : (s.modAct id f).NoAct code unit := by
  rw [State.NoAct, List.any_eq_false] at *
  intro a mem
  obtain ⟨b, there, rfl⟩ := List.mem_map.mp mem
  have gone := h b there
  split
  · rwa [(keeps b).1, (keeps b).2]
  · exact gone

theorem State.noAct_maintEnd (code unit : Nat) (s : State) : (s.maintEnd code unit).NoAct code unit := by
  unfold State.maintEnd State.grantWon
  refine forAll_keeps (P := fun t : State => t.NoAct code unit) _ (fun a _ t h => ?_) ?_
  · split
    · exact h
    · exact h.modAct (fun _ => ⟨rfl, rfl⟩)
  · rw [State.NoAct, List.any_eq_false]
    intro a mem
    have kept : (!(decide (a.code = code) && decide (a.unit = unit))) = true := (List.mem_filter.mp mem).2
    intro gone
    rw [gone] at kept
    cases kept

/-! Frames of a command on an engine and on a core. -/

theorem frame_engine {u : State} (first : u = { s with fes := u.fes, reg := u.reg }) (then_ : t = { u with reg := t.reg, ras := t.ras }) :
    t = { s with fes := t.fes, reg := t.reg, ras := t.ras } := by
  have fes : t.fes = u.fes := by rw [then_]
  refine then_.trans ?_
  rw [fes, first]

theorem frame_core {u : State} (first : u = { s with tcs := u.tcs, reg := u.reg }) (then_ : t = { u with reg := t.reg, ras := t.ras }) :
    t = { s with tcs := t.tcs, reg := t.reg, ras := t.ras } := by
  have tcs : t.tcs = u.tcs := by rw [then_]
  refine then_.trans ?_
  rw [tcs, first]

theorem RasOnly.weaken (h : RasOnly s t) : t = { s with reg := t.reg, ras := t.ras } := by
  have reg : t.reg = s.reg := by rw [h]
  rw [reg]
  exact h

end

section
variable {n : BitVec 4} {s : State}

/-! Engines. -/

theorem State.fenceFe_primary {f c : Nat} {b : Bool} (primary : ∀ g ∈ (s.fe f).grains, g.role = .primary) :
    s.fenceFe f c b = forAll ((s.fe f).fills.map (fun r => r.block / 16)) (fun p s => s.settle p)
      (forAll (s.fe f).grains (fun g s => s.requeue g) (((s.setFe f { ctl :=
        { st := .fencing, cause := BitVec.ofNat 3 c, tpass := (s.fe f).ctl.tpass, cmd := b } }).farDrop (.engine f)).fenceRec (unitNo 3 f) c
          true)) := by
  rw [State.fenceFe, State.fenceN]
  refine congrArg (forAll _ _) (forAll_congr _ (fun g mem s => ?_) _)
  rw [primary g mem]

theorem exec_engineFence_steward (serves : (s.fe n.toNat).ctl.st = .inService) (ok : s.fenceCheck Reg.FLE_FSTAT .inService false = .ok) :
    exec (.engineFence n .steward) s = .next ((s.fenceFe n.toNat 4 true).fenceBusy Reg.FLE_FSTAT) := by
  change execEngineFence n .steward s = _
  simp [execEngineFence, serves, ok]

theorem exec_engineFence_refused {r : Status}
    (check : s.fenceCheck Reg.FLE_FSTAT (s.fe n.toNat).ctl.st (decide ((s.fe n.toNat).ctl.st ≠ .inService)) = r) (bad : r ≠ .ok) :
    exec (.engineFence n .steward) s = .next (s.fenceStatus Reg.FLE_FSTAT r) := by
  change execEngineFence n .steward s = _
  rw [execEngineFence, check]
  split
  · exact absurd rfl bad
  · rfl

theorem exec_engineFence_internal : exec (.engineFence n .internalError) s =
    .next (if (s.fe n.toNat).ctl.st = .inService then s.fenceFe n.toNat 3 false else s) := rfl

theorem State.fe_modFe_other {f k : Nat} (h : k ≠ f) (g : Engine → Engine) (s : State) : (s.modFe f g).fe k = s.fe k :=
  tget_tset_other _ _ _ h _

/-- An engine whose control is replaced. -/
def Engine.under (c : UnitCtl) (e : Engine) : Engine := { e with ctl := c }

theorem exec_engineFenced (fencing : (s.fe n.toNat).ctl.st = .fencing) : exec (.engineFenced n) s =
    .next ((s.modFe n.toNat (Engine.under { (s.fe n.toNat).ctl with st := .fenced, cmd := false })).fenceIdle Reg.FLE_FSTAT
      (s.fe n.toNat).ctl.cmd) :=
  if_pos fencing

theorem exec_engineFenced_not (other : (s.fe n.toNat).ctl.st ≠ .fencing) : exec (.engineFenced n) s = .next s := if_neg other

theorem exec_engineBist (fenced : (s.fe n.toNat).ctl.st = .fenced) (ok : s.fenceCheck Reg.FLE_FSTAT .fenced false = .ok) :
    exec (.engineBist n) s = .next (((s.modFe n.toNat (Engine.under { (s.fe n.toNat).ctl with st := .testing, tpass := false, cmd := true })).fenceBusy
      Reg.FLE_FSTAT).maintAsk 6 [scFe n.toNat] (scFe n.toNat)) := by
  change execEngineBist n s = _
  simp only [execEngineBist, fenced, ne_eq, not_true_eq_false, decide_false, ok]
  rfl

theorem exec_engineBist_refused {r : Status}
    (check : s.fenceCheck Reg.FLE_FSTAT (s.fe n.toNat).ctl.st (decide ((s.fe n.toNat).ctl.st ≠ .fenced)) = r) (bad : r ≠ .ok) :
    exec (.engineBist n) s = .next (s.fenceStatus Reg.FLE_FSTAT r) := by
  change execEngineBist n s = _
  rw [execEngineBist, check]
  split
  · exact absurd rfl bad
  · rfl

theorem exec_engineBistDone {pass : Bool} (testing : (s.fe n.toNat).ctl.st = .testing) (granted : s.holdsGrant 6 (scFe n.toNat) = true) :
    exec (.engineBistDone n pass) s = .next (((s.modFe n.toNat (Engine.under
      { (s.fe n.toNat).ctl with st := .fenced, tpass := pass, cmd := false })).fenceIdle Reg.FLE_FSTAT (s.fe n.toNat).ctl.cmd).maintEnd 6
        (scFe n.toNat)) :=
  if_pos (by simp [testing, granted])

theorem exec_engineBistDone_not {pass : Bool} (not_ : (s.fe n.toNat).ctl.st ≠ .testing ∨ s.holdsGrant 6 (scFe n.toNat) = false) :
    exec (.engineBistDone n pass) s = .next s :=
  if_neg (by rcases not_ with h | h <;> simp [h])

theorem exec_engineReturn (fenced : (s.fe n.toNat).ctl.st = .fenced) (passed : (s.fe n.toNat).ctl.tpass = true)
    (ok : s.fenceCheck Reg.FLE_FSTAT .fenced false = .ok) : exec (.engineReturn n) s =
      .next (((s.modFe n.toNat (Engine.under { (s.fe n.toNat).ctl with st := .inService, cause := 0#3 })).fenceStatus Reg.FLE_FSTAT .ok).fenceRec
        (unitNo 3 n.toNat) 0 false) := by
  change execEngineReturn n s = _
  simp only [execEngineReturn, fenced, passed, ne_eq, not_true_eq_false, decide_false, Bool.not_true, Bool.or_self, ok]
  rfl

theorem exec_engineReturn_refused {r : Status}
    (check : s.fenceCheck Reg.FLE_FSTAT (s.fe n.toNat).ctl.st ((s.fe n.toNat).ctl.st ≠ .fenced || !(s.fe n.toNat).ctl.tpass) = r)
    (bad : r ≠ .ok) : exec (.engineReturn n) s = .next (s.fenceStatus Reg.FLE_FSTAT r) := by
  change execEngineReturn n s = _
  rw [execEngineReturn, check]
  split
  · exact absurd rfl bad
  · rfl

end

section
variable {n : BitVec 6} {s : State}

/-! Cores. -/

theorem Only.tc {m : Nat} {t : State} (h : Only m s t) (hm : m.testBit 27 = false) (k : Nat) : t.tc k = s.tc k := by
  rw [State.tc, h.tcs hm, State.tc]

theorem State.tc_setTc_other {c k : Nat} (h : k ≠ c) (u : UnitCtl) (s : State) : (s.setTc c u).tc k = s.tc k :=
  tget_tset_other _ _ _ h _

theorem State.tc_fenceTc (f c : Nat) (b : Bool) (s : State) :
    (s.fenceTc f c b).tc f = { st := .fencing, cause := BitVec.ofNat 3 c, tpass := (s.tc f).tpass, cmd := b } := by
  unfold State.fenceTc
  rw [(Only.forAll (fun g _ h => State.boundGrain_only g (Inside.refl _) h) _ (Only.refl _ _)).tc rfl,
    (Only.forAll (fun g _ h => State.fencedGrain_only g (Inside.refl _) h) _ (Only.refl _ _)).tc rfl,
    (State.fenceRec_only _ _ _ (Inside.refl _) (Only.refl _ _)).tc rfl, State.tc_setTc]

theorem exec_coreFence_steward (serves : (s.tc n.toNat).st = .inService) (ok : s.fenceCheck Reg.TND_FSTAT .inService false = .ok) :
    exec (.coreFence n .steward) s = .next ((s.fenceTc n.toNat 4 true).fenceBusy Reg.TND_FSTAT) := by
  change execCoreFence n .steward s = _
  simp [execCoreFence, serves, ok]

theorem exec_coreFence_refused {r : Status}
    (check : s.fenceCheck Reg.TND_FSTAT (s.tc n.toNat).st (decide ((s.tc n.toNat).st ≠ .inService)) = r) (bad : r ≠ .ok) :
    exec (.coreFence n .steward) s = .next (s.fenceStatus Reg.TND_FSTAT r) := by
  change execCoreFence n .steward s = _
  rw [execCoreFence, check]
  split
  · exact absurd rfl bad
  · rfl

theorem exec_coreFenced (fencing : (s.tc n.toNat).st = .fencing) : exec (.coreFenced n) s =
    .next ((s.setTc n.toNat { s.tc n.toNat with st := .fenced, cmd := false }).fenceIdle Reg.TND_FSTAT (s.tc n.toNat).cmd) :=
  congrArg Host.Outcome.next (if_pos fencing)

theorem exec_coreBist (fenced : (s.tc n.toNat).st = .fenced) (ok : s.fenceCheck Reg.TND_FSTAT .fenced false = .ok) :
    exec (.coreBist n) s = .next (((s.setTc n.toNat { s.tc n.toNat with st := .testing, tpass := false, cmd := true }).fenceBusy
      Reg.TND_FSTAT).maintAsk 6 [scTc n.toNat] (scTc n.toNat)) := by
  change execCoreBist n s = _
  simp only [execCoreBist, fenced, ne_eq, not_true_eq_false, decide_false, ok]

theorem exec_coreBist_refused {r : Status}
    (check : s.fenceCheck Reg.TND_FSTAT (s.tc n.toNat).st (decide ((s.tc n.toNat).st ≠ .fenced)) = r) (bad : r ≠ .ok) :
    exec (.coreBist n) s = .next (s.fenceStatus Reg.TND_FSTAT r) := by
  change execCoreBist n s = _
  rw [execCoreBist, check]
  split
  · exact absurd rfl bad
  · rfl

theorem exec_coreBistDone {pass : Bool} (testing : (s.tc n.toNat).st = .testing) (granted : s.holdsGrant 6 (scTc n.toNat) = true) :
    exec (.coreBistDone n pass) s = .next (((s.setTc n.toNat { s.tc n.toNat with st := .fenced, tpass := pass, cmd := false }).fenceIdle
      Reg.TND_FSTAT (s.tc n.toNat).cmd).maintEnd 6 (scTc n.toNat)) :=
  congrArg Host.Outcome.next (if_pos (by simp [testing, granted]))

theorem exec_coreBistDone_not {pass : Bool} (not_ : (s.tc n.toNat).st ≠ .testing ∨ s.holdsGrant 6 (scTc n.toNat) = false) :
    exec (.coreBistDone n pass) s = .next s :=
  congrArg Host.Outcome.next (if_neg (by rcases not_ with h | h <;> simp [h]))

theorem exec_coreReturn (fenced : (s.tc n.toNat).st = .fenced) (passed : (s.tc n.toNat).tpass = true)
    (ok : s.fenceCheck Reg.TND_FSTAT .fenced false = .ok) : exec (.coreReturn n) s =
      .next (((s.setTc n.toNat { s.tc n.toNat with st := .inService, cause := 0#3 }).fenceStatus Reg.TND_FSTAT .ok).fenceRec
        (unitNo 4 n.toNat) 0 false) := by
  change execCoreReturn n s = _
  simp only [execCoreReturn, fenced, passed, ne_eq, not_true_eq_false, decide_false, Bool.not_true, Bool.or_self, ok]

theorem exec_coreReturn_refused {r : Status}
    (check : s.fenceCheck Reg.TND_FSTAT (s.tc n.toNat).st ((s.tc n.toNat).st ≠ .fenced || !(s.tc n.toNat).tpass) = r)
    (bad : r ≠ .ok) : exec (.coreReturn n) s = .next (s.fenceStatus Reg.TND_FSTAT r) := by
  change execCoreReturn n s = _
  rw [execCoreReturn, check]
  split
  · exact absurd rfl bad
  · rfl

end

section
variable {s : State}

/-! What a command leaves of its unit and its status register. -/

theorem State.stw_returned (unit : Nat) {off : Nat} (other : off ≠ Reg.PWM_ALERT) (s : State) :
    bits 7 0 (((s.fenceStatus off .ok).fenceRec unit 0 false).stw off) = 0 := by
  have word : ((s.fenceStatus off .ok).fenceRec unit 0 false).stw off = setBits 7 0 Status.ok.code (s.stw off) := by
    rw [State.fenceRec, if_neg Bool.false_ne_true]
    exact (State.stw_logRec_other _ other).trans (State.stw_modStw off _ s)
  rw [word]
  exact bits_setBits _ _ (by decide) (by decide)

theorem State.ctl_modFe (f : Nat) (c : UnitCtl) (s : State) : ((s.modFe f (Engine.under c)).fe f).ctl = c := by
  rw [State.fe_modFe]
  rfl

theorem State.stw_fenceBusy (off : Nat) (s : State) : (s.fenceBusy off).stw off = 0x80000000#32 := State.stw_setStw off _

theorem Only.fenceIdle (stat : Nat) (cmd : Bool) (s : State) : Only 16 s (s.fenceIdle stat cmd) :=
  State.fenceIdle_only stat cmd (Inside.refl _) (Only.refl _ s)

theorem State.fenceIdle_engine_frame (f stat : Nat) (g : Engine → Engine) (cmd : Bool) (s : State) : (s.modFe f g).fenceIdle stat cmd =
    { s with fes := ((s.modFe f g).fenceIdle stat cmd).fes, reg := ((s.modFe f g).fenceIdle stat cmd).reg } := by
  cases cmd <;> rfl

theorem State.fenceIdle_core_frame (c stat : Nat) (u : UnitCtl) (cmd : Bool) (s : State) : (s.setTc c u).fenceIdle stat cmd =
    { s with tcs := ((s.setTc c u).fenceIdle stat cmd).tcs, reg := ((s.setTc c u).fenceIdle stat cmd).reg } := by
  cases cmd <;> rfl

theorem State.fenceBusy_engine_frame (f stat : Nat) (g : Engine → Engine) (s : State) : (s.modFe f g).fenceBusy stat =
    { s with fes := ((s.modFe f g).fenceBusy stat).fes, reg := ((s.modFe f g).fenceBusy stat).reg } := rfl

theorem State.fenceBusy_core_frame (c stat : Nat) (u : UnitCtl) (s : State) : (s.setTc c u).fenceBusy stat =
    { s with tcs := ((s.setTc c u).fenceBusy stat).tcs, reg := ((s.setTc c u).fenceBusy stat).reg } := rfl

theorem State.fe_fenceBusy (stat k : Nat) (s : State) : (s.fenceBusy stat).fe k = s.fe k := rfl
theorem State.tc_fenceBusy (stat k : Nat) (s : State) : (s.fenceBusy stat).tc k = s.tc k := rfl

theorem scFe_defers (n : BitVec 4) : deferReg 6 (scFe n.toNat) = some Reg.FLE_FSTAT := by
  have inside : (2000 ≤ scFe n.toNat && scFe n.toNat < 2016 : Bool) = true := by
    have := n.isLt
    rw [scFe, Bool.and_eq_true, decide_eq_true_iff, decide_eq_true_iff]
    omega
  exact congrArg some (if_pos inside)

theorem scTc_defers (n : BitVec 6) : deferReg 6 (scTc n.toNat) = some Reg.TND_FSTAT := by
  have inside : (2100 ≤ scTc n.toNat && scTc n.toNat < 2164 : Bool) = true := by
    have := n.isLt
    rw [scTc, Bool.and_eq_true, decide_eq_true_iff, decide_eq_true_iff]
    omega
  have outside : ¬ (2000 ≤ scTc n.toNat && scTc n.toNat < 2016 : Bool) = true := by
    rw [scTc, Bool.and_eq_true, decide_eq_true_iff, decide_eq_true_iff]
    omega
  exact congrArg some ((if_neg outside).trans (if_pos inside))

theorem fences_not_marb (h : Half) : Reg.FLE_FSTAT ≠ Reg.RAS_MARB + 4 * halfIdx h ∧ Reg.TND_FSTAT ≠ Reg.RAS_MARB + 4 * halfIdx h := by
  cases h <;> decide

end

/-- Settles O45: each command and event by the unit's state, and the tests by what they found. -/
theorem unitsAreFencedTestedAndReturned : Obligations.UnitsAreFencedTestedAndReturned := by
  refine ⟨fun f c b s primary => State.fenceFe_primary primary, State.tc_fenceTc,
    fun n s => ⟨exec_engineFence_internal, fun serves ok => exec_engineFence_steward serves ok,
      fun r check bad => exec_engineFence_refused check bad⟩,
    fun n s => ⟨rfl, fun serves ok => exec_coreFence_steward serves ok, fun r check bad => exec_coreFence_refused check bad⟩,
    fun n s => ⟨?fenced, exec_engineFenced_not⟩, fun n s => ⟨?coreFenced, fun other => congrArg Host.Outcome.next (if_neg other)⟩,
    fun n s => ⟨?bist, fun r check bad => exec_engineBist_refused check bad⟩,
    fun n s => ⟨?coreBist, fun r check bad => exec_coreBist_refused check bad⟩,
    fun n pass s => ⟨?bistDone, exec_engineBistDone_not⟩, fun n pass s => ⟨?coreBistDone, exec_coreBistDone_not⟩,
    fun n s => ⟨?returns, fun r check bad => exec_engineReturn_refused check bad⟩,
    fun n s => ⟨?coreReturns, fun r check bad => exec_coreReturn_refused check bad⟩,
    fun stat u d s => ⟨State.fenceCheck_conflict, State.fenceCheck_busy, State.fenceCheck_idle⟩,
    ?fieldEngine, ?fieldCore, fun u s off => if_pos off, ?doneEngine, ?doneCore, ?notEngine, ?notCore⟩
  case fenced =>
    intro fencing
    refine ⟨_, exec_engineFenced fencing, ?_, fun cmd => ?_, fun k other => ?_, State.fenceIdle_engine_frame ..⟩
    · rw [(Only.fenceIdle _ _ _).fe rfl, State.ctl_modFe]
    · rw [cmd, State.fenceIdle_on]
    · rw [(Only.fenceIdle _ _ _).fe rfl, State.fe_modFe_other other]
  case coreFenced =>
    intro fencing
    refine ⟨_, exec_coreFenced fencing, ?_, fun cmd => ?_, fun k other => ?_, State.fenceIdle_core_frame ..⟩
    · rw [(Only.fenceIdle _ _ _).tc rfl, State.tc_setTc]
    · rw [cmd, State.fenceIdle_on]
    · rw [(Only.fenceIdle _ _ _).tc rfl, State.tc_setTc_other other]
  case bist =>
    intro fenced ok
    refine ⟨_, exec_engineBist fenced ok, ?_, ?_, frame_engine (State.fenceBusy_engine_frame ..) (State.maintAsk_frame ..)⟩
    · rw [(State.maintAsk_only _ _ _ (Inside.refl _) (Only.refl _ _)).fe rfl, State.fe_fenceBusy, State.ctl_modFe]
    · rw [State.stw_maintAsk _ (scFe_defers n) (fun h => (fences_not_marb h).1), State.stw_fenceBusy]
      decide
  case coreBist =>
    intro fenced ok
    refine ⟨_, exec_coreBist fenced ok, ?_, ?_, frame_core (State.fenceBusy_core_frame ..) (State.maintAsk_frame ..)⟩
    · rw [(State.maintAsk_only _ _ _ (Inside.refl _) (Only.refl _ _)).tc rfl, State.tc_fenceBusy, State.tc_setTc]
    · rw [State.stw_maintAsk _ (scTc_defers n) (fun h => (fences_not_marb h).2), State.stw_fenceBusy]
      decide
  case bistDone =>
    intro testing granted
    refine ⟨_, exec_engineBistDone testing granted, ?_, State.noAct_maintEnd .., frame_engine (State.fenceIdle_engine_frame ..)
      (State.maintEnd_frame ..).weaken⟩
    rw [(State.maintEnd_only _ _ (Inside.refl _) (Only.refl _ _)).fe rfl, (Only.fenceIdle _ _ _).fe rfl, State.ctl_modFe]
  case coreBistDone =>
    intro testing granted
    refine ⟨_, exec_coreBistDone testing granted, ?_, State.noAct_maintEnd .., frame_core (State.fenceIdle_core_frame ..)
      (State.maintEnd_frame ..).weaken⟩
    rw [(State.maintEnd_only _ _ (Inside.refl _) (Only.refl _ _)).tc rfl, (Only.fenceIdle _ _ _).tc rfl, State.tc_setTc]
  case returns =>
    intro fenced passed ok
    refine ⟨_, exec_engineReturn fenced passed ok, ?_, State.stw_returned _ (by decide) _⟩
    rw [(State.fenceRec_only _ _ _ (Inside.refl _) (Only.refl _ _)).fe rfl,
      (State.fenceStatus_only _ _ (Inside.refl _) (Only.refl _ _)).fe rfl, State.ctl_modFe]
  case coreReturns =>
    intro fenced passed ok
    refine ⟨_, exec_coreReturn fenced passed ok, ?_, State.stw_returned _ (by decide) _⟩
    rw [(State.fenceRec_only _ _ _ (Inside.refl _) (Only.refl _ _)).tc rfl,
      (State.fenceStatus_only _ _ (Inside.refl _) (Only.refl _ _)).tc rfl, State.tc_setTc]
  case fieldEngine =>
    intro n s on
    refine (if_neg on).trans (congrArg Host.Outcome.next ?_)
    simp only [Option.isNone_iff_eq_none, Bool.and_eq_true, decide_eq_true_eq, and_assoc]
  case fieldCore =>
    intro n s on
    refine (if_neg on).trans (congrArg Host.Outcome.next ?_)
    simp only [Bool.and_eq_true, decide_eq_true_eq]
  case doneEngine =>
    intro n s tests
    exact ⟨if_pos tests, if_pos tests⟩
  case doneCore =>
    intro n s tests
    exact ⟨if_pos tests, if_pos tests⟩
  case notEngine =>
    intro n p s idle
    exact if_neg (by simp [idle])
  case notCore =>
    intro n p s idle
    exact if_neg (by simp [idle])

end Sys2Proof.Machine


/-! Spaern instructions that change registers (R209 to R212). -/

namespace Sys2Proof.Machine

open Safety

section
variable {s u : State} {i : Nat} {c : SCls} {w : W32} {g g' : Grain} {j : Job}

/-! One instruction of a running grain. -/

theorem State.spn_at (h : AtInstr s i c w g j) (f : Grain → Job → W32 → Work (Option Grain)) :
    s.spn i c f = .next (s.runGrain g j (f (moved g) j w)) := by
  obtain ⟨grain, job, running, word, cls, limit⟩ := h
  rw [State.spn, grain]
  dsimp only
  rw [job]
  dsimp only
  rw [if_neg (by simp [running]), word]
  dsimp only
  rw [if_neg (by simp [cls]), if_neg (by simp [limit])]
  rfl

/-- A grain that its instruction leaves running is put in its place. -/
theorem State.runGrain_retires {m : Work (Option Grain)} (result : m s = .ok (some g') u) (id : g'.id = g.id) (half : g'.half = g.half)
    (running : g'.st = .running) : s.runGrain g j m = retire u j g' := by
  rw [State.runGrain, result]
  dsimp only
  rw [State.putGrain, if_pos running, retire, Grain.unit, Grain.unit, id, half]

theorem State.spn_retires_of (h : AtInstr s i c w g j) {f : Grain → Job → W32 → Work (Option Grain)}
    (result : f (moved g) j w s = .ok (some g') u) (id : g'.id = g.id) (half : g'.half = g.half) (running : g'.st = g.st) :
    s.spn i c f = .next (retire u j g') := by
  rw [State.spn_at h]
  exact congrArg Host.Outcome.next (State.runGrain_retires result id half (running.trans h.running))

theorem State.spn_retires (h : AtInstr s i c w g j) {f : Grain → Job → W32 → Work (Option Grain)} {x : Ctx}
    (result : f (moved g) j w s = .ok (some { moved g with ctx := x }) u) :
    s.spn i c f = .next (retire u j { moved g with ctx := x }) :=
  State.spn_retires_of h result rfl rfl rfl

theorem State.spnRegs_at (h : AtInstr s i c w g j) (f : Ctx → Nat → W32 → State → Ctx) :
    s.spnRegs i c f = .next (retire s.tickFree j { moved g with ctx := f (moved g).ctx (pcAdd (moved g).ctx.pc (-4)) w s }) :=
  State.spn_retires h rfl

theorem State.spnRegs_ctx (h : AtInstr s i c w g j) {f : Ctx → Nat → W32 → State → Ctx} {x : Ctx}
    (is : f (moved g).ctx (pcAdd (moved g).ctx.pc (-4)) w s = x) : s.spnRegs i c f = .next (retire s.tickFree j { moved g with ctx := x }) := by
  rw [State.spnRegs_at h, is]

/-! Registers. -/

theorem pcAdd_pcAdd (pc : Nat) (a b : Int) : pcAdd (pcAdd pc a) b = pcAdd pc (a + b) := by
  unfold pcAdd
  have nonneg : 0 ≤ ((pc : Int) + a) % 2 ^ 64 := Int.emod_nonneg _ (by decide)
  rw [Int.toNat_of_nonneg nonneg, Int.emod_add_emod, add_assoc]

theorem pcAdd_zero {pc : Nat} (small : pc < 2 ^ 24) : pcAdd pc 0 = pc := by
  unfold pcAdd
  omega

/-- PC of the instruction itself. -/
theorem pcAdd_moved (g : Grain) (k : Int) : pcAdd (pcAdd (moved g).ctx.pc (-4)) k = pcAdd g.ctx.pc k := by
  change pcAdd (pcAdd (pcAdd g.ctx.pc 4) (-4)) k = _
  rw [pcAdd_pcAdd, pcAdd_pcAdd]
  congr 1
  omega

theorem pcAdd_moved_zero (g : Grain) (small : g.ctx.pc < 2 ^ 24) : pcAdd (moved g).ctx.pc (-4) = g.ctx.pc := by
  change pcAdd (pcAdd g.ctx.pc 4) (-4) = _
  rw [pcAdd_pcAdd]
  exact pcAdd_zero small

theorem Ctx.setX_pc (c : Ctx) (p k : Nat) (v : W64) : ({ c with pc := p } : Ctx).setX k v = { c.setX k v with pc := p } := by
  unfold Ctx.setX
  split <;> rfl

theorem Ctx.getX_setX {c : Ctx} {k : Nat} {v : W64} (all : c.x.length = 32) (pos : 0 < k) (small : k < 32) : (c.setX k v).getX k = v := by
  have ne : k ≠ 0 := by omega
  simp [Ctx.setX, Ctx.getX, ne, all, small]

theorem Ctx.getX_setX_other {c : Ctx} {k m : Nat} {v : W64} (pos : 0 < k) (other : m ≠ k) : (c.setX k v).getX m = c.getX m := by
  have ne : k ≠ 0 := by omega
  simp [Ctx.setX, Ctx.getX, ne, other.symm]

/-- What a register reads after a write, written there, is that write. -/
theorem Ctx.setV_getV (c : Ctx) (d : Nat) (v : BitVec 512) : c.setV d ((c.setV d v).getV d) = c.setV d v := by
  by_cases small : d < c.v.length
  · simp [Ctx.setV, Ctx.getV, small]
  · simp [Ctx.setV, List.set_eq_of_length_le (Nat.not_lt.mp small)]

theorem Ctx.getV_setV {c : Ctx} {d : Nat} {v : BitVec 512} (small : d < c.v.length) : (c.setV d v).getV d = v := by
  simp [Ctx.setV, Ctx.getV, small]

/-! Packed elements. -/

/-- Codes of w bits from bit 0. -/
def packNat (w : Nat) (l : List Nat) : Nat := l.foldr (fun x acc => x % 2 ^ w + acc * 2 ^ w) 0

theorem packNat_get {w e x : Nat} {l : List Nat} (there : l[e]? = some x) : packNat w l / 2 ^ (w * e) % 2 ^ w = x % 2 ^ w := by
  induction l generalizing e with
  | nil => cases there
  | cons y r ih =>
    have cons : packNat w (y :: r) = y % 2 ^ w + packNat w r * 2 ^ w := rfl
    have pos : 0 < 2 ^ w := Nat.two_pow_pos w
    cases e with
    | zero =>
      obtain rfl : y = x := by simpa using there
      rw [cons, Nat.mul_zero, pow_zero, Nat.div_one, Nat.add_mul_mod_self_right, Nat.mod_mod]
    | succ e =>
      have small : y % 2 ^ w / 2 ^ w = 0 := Nat.div_eq_of_lt (Nat.mod_lt _ pos)
      rw [cons, Nat.mul_succ, Nat.add_comm (w * e) w, pow_add, ← Nat.div_div_eq_div_mul, Nat.add_mul_div_right _ _ pos, small, Nat.zero_add]
      exact ih (by simpa using there)

theorem fmtBits_pos (code : Nat) : 0 < fmtBits code := by
  unfold fmtBits
  split <;> decide

/-- Element e of packed elements is its code, where it lies in the register. -/
theorem bits_packElems {w e x : Nat} {l : List Nat} {free : BitVec 512} (there : l[e]? = some x) (pos : 0 < w)
    (inside : w * (e + 1) ≤ 512) : bits (w * (e + 1) - 1) (w * e) (packElems w l free) = x % 2 ^ w := by
  have below : e < l.length := (List.getElem?_eq_some_iff.mp there).1
  have width : w * (e + 1) = w * e + w := Nat.mul_succ w e
  have bound : w * e + w ≤ min 512 (w * l.length) := by
    have := Nat.mul_le_mul_left w below
    rw [Nat.mul_succ] at this
    omega
  have number : (packElems w l free).toNat % 2 ^ (w * e + w) = packNat w l % 2 ^ (w * e + w) := by
    have part : free.toNat / 2 ^ min 512 (w * l.length) * 2 ^ min 512 (w * l.length) =
        free.toNat / 2 ^ min 512 (w * l.length) * 2 ^ (min 512 (w * l.length) - (w * e + w)) * 2 ^ (w * e + w) := by
      rw [Nat.mul_assoc, ← pow_add, Nat.sub_add_cancel bound]
    rw [packElems, BitVec.toNat_ofNat, Nat.mod_mod_of_dvd _ (pow_dvd_pow 2 (by omega : w * e + w ≤ 512)), part, Nat.add_mul_mod_self_right,
      Nat.mod_mod_of_dvd _ (pow_dvd_pow 2 bound)]
    rfl
  have cut : ∀ y : Nat, y / 2 ^ (w * e) % 2 ^ w = y % 2 ^ (w * e + w) / 2 ^ (w * e) := fun y => by
    rw [pow_add, Nat.mod_mul_right_div_self]
  rw [bits, fld, show w * (e + 1) - 1 + 1 - w * e = w by omega, cut, number, ← cut, packNat_get there]

end

section
variable {s : State} {i : Nat} {w : W32} {g : Grain} {j : Job}

/-! Scalar instructions. -/

theorem exec_spnAlu (h : AtInstr s i .alu w g j) : exec (.spnAlu i) s = .next (retire s.tickFree j { moved g with
    ctx := (moved g).ctx.setX (sDst w) (aluOp (sFnA w) (g.ctx.getX (sSrc1 w)) (g.ctx.getX (sSrc2 w)) s) }) := by
  change execSpnAlu i s = _
  exact State.spnRegs_ctx h rfl

theorem exec_spnAluImm (h : AtInstr s i .aluImm w g j) : exec (.spnAluImm i) s = .next (retire s.tickFree j { moved g with
    ctx := (moved g).ctx.setX (sDst w) (aluOp (sFnB w) (g.ctx.getX (sSrc1 w)) (BitVec.ofInt 64 (sImm12 w)) s) }) := by
  change execSpnAluImm i s = _
  exact State.spnRegs_ctx h rfl

theorem exec_spnLoadUpper (h : AtInstr s i .loadUpper w g j) : exec (.spnLoadUpper i) s = .next (retire s.tickFree j { moved g with
    ctx := (moved g).ctx.setX (sDst w) (BitVec.ofInt 64 (sImm21 w * 4096)) }) := by
  change execSpnLoadUpper i s = _
  exact State.spnRegs_ctx h rfl

theorem exec_spnGets (h : AtInstr s i .gets w g j) : exec (.spnGets i) s = .next (retire s.tickFree j { moved g with
    ctx := (moved g).ctx.setX (sDst w) (getsVal (bits 11 0 w) (moved g) j s) }) := by
  change execSpnGets i s = _
  exact State.spn_retires h rfl

theorem exec_spnBranch (h : AtInstr s i .branch w g j) : exec (.spnBranch i) s = .next (retire s.tickFree j { moved g with
    ctx := { g.ctx with
      pc := if branchCond (sFnB w) (g.ctx.getX (sDst w)) (g.ctx.getX (sSrc1 w)) then pcAdd g.ctx.pc (4 * sImm12 w) else pcAdd g.ctx.pc 4 } }) := by
  change execSpnBranch i s = _
  refine State.spnRegs_ctx h ?_
  rw [pcAdd_moved]
  change (if branchCond (sFnB w) (g.ctx.getX (sDst w)) (g.ctx.getX (sSrc1 w)) = true then _ else _) = _
  by_cases cond : branchCond (sFnB w) (g.ctx.getX (sDst w)) (g.ctx.getX (sSrc1 w)) = true
  · rw [if_pos cond, if_pos cond]
    rfl
  · rw [if_neg cond, if_neg cond]
    rfl

theorem exec_spnJump (h : AtInstr s i .jump w g j) (small : g.ctx.pc < 2 ^ 24) :
    exec (.spnJump i) s = .next (retire s.tickFree j { moved g with
      ctx := { g.ctx.setX (sDst w) (BitVec.ofNat 64 (g.ctx.pc + 4)) with pc := pcAdd g.ctx.pc (4 * sImm21 w) } }) := by
  change execSpnJump i s = _
  refine State.spnRegs_ctx h ?_
  rw [pcAdd_moved, pcAdd_moved_zero g small, moved, Ctx.setX_pc]

theorem exec_spnJumpReg (h : AtInstr s i .jumpReg w g j) (small : g.ctx.pc < 2 ^ 24) :
    exec (.spnJumpReg i) s = .next (retire s.tickFree j { moved g with
      ctx := { g.ctx.setX (sDst w) (BitVec.ofNat 64 (g.ctx.pc + 4)) with
        pc := (g.ctx.getX (sSrc1 w) + BitVec.ofInt 64 (sImm12 w)).toNat } }) := by
  change execSpnJumpReg i s = _
  refine State.spnRegs_ctx h ?_
  rw [pcAdd_moved_zero g small, moved, Ctx.setX_pc]
  rfl

/-! Vector instructions. -/

theorem exec_spnVectorInt_lanes (h : AtInstr s i .vectorInt w g j) (fn : sFnV w ≤ 10 ∨ sFnV w = 13) :
    exec (.spnVectorInt i) s = .next (retire s.tickFree j { moved g with
      ctx := (moved g).ctx.setV (sDst w) (vMerge (g.ctx.getK (sMask w)) (sEw w) (g.ctx.getV (sDst w))
        (vIntRes (sFnV w) (sEw w) (g.ctx.getV (sSrc1 w)) (g.ctx.getV (sSrc2 w)) s.freeV)) }) := by
  change execSpnVectorInt i s = _
  refine State.spnRegs_ctx h ?_
  rw [if_neg (by simp; omega), if_neg (by omega)]
  rfl

theorem exec_spnVectorInt_splat (h : AtInstr s i .vectorInt w g j) (fn : sFnV w = 14) :
    exec (.spnVectorInt i) s = .next (retire s.tickFree j { moved g with
      ctx := (moved g).ctx.setV (sDst w) (vMerge (g.ctx.getK (sMask w)) (sEw w) (g.ctx.getV (sDst w))
        (vPack (sEw w) (List.replicate (ewLanes (sEw w)) (g.ctx.getX (sSrc1 w)).toNat))) }) := by
  change execSpnVectorInt i s = _
  refine State.spnRegs_ctx h ?_
  rw [if_neg (by simp [fn]), if_pos fn]
  rfl

theorem exec_spnVectorInt_compare (h : AtInstr s i .vectorInt w g j) (fn : sFnV w = 11 ∨ sFnV w = 12) :
    exec (.spnVectorInt i) s = .next (retire s.tickFree j { moved g with
      ctx := (moved g).ctx.setK (sDst w % 8) (kMerge (g.ctx.getK (sMask w)) (sEw w) (g.ctx.getK (sDst w % 8))
        (if ewFp (sEw w) then (vLanes (sEw w) s.freeV).map (fun x => decide (x % 2 = 1))
         else ((vLanes (sEw w) (g.ctx.getV (sSrc1 w))).zip (vLanes (sEw w) (g.ctx.getV (sSrc2 w)))).map (fun p =>
          if sFnV w = 11 then decide (p.1 = p.2) else decide (sgnOf (ewBits (sEw w)) p.1 < sgnOf (ewBits (sEw w)) p.2)))) }) := by
  change execSpnVectorInt i s = _
  refine State.spnRegs_ctx h ?_
  rw [if_pos (by simpa using fn)]
  rfl

theorem exec_spnReduce (h : AtInstr s i .reduce w g j) : exec (.spnReduce i) s = .next (retire s.tickFree j { moved g with
    ctx := (moved g).ctx.setX (sDst w) ((vReduce (sFnV w) (sEw w) (((vLanes (sEw w) (g.ctx.getV (sSrc1 w))).zipIdx).filterMap
      (fun e => if laneOn (g.ctx.getK (sMask w)) (sEw w) e.2 then some (e.2, e.1) else none))).getD s.free64) }) := by
  change execSpnReduce i s = _
  exact State.spnRegs_ctx h rfl

theorem exec_spnVectorFp_arith (h : AtInstr s i .vectorFp w g j) {a b d : List W32} {q : List (Nat × Cnts)}
    (isA : a = (vLanes (sEw w) (g.ctx.getV (sSrc1 w))).map (laneF (sEw w))) (isB : b = (vLanes (sEw w) (g.ctx.getV (sSrc2 w))).map (laneF (sEw w)))
    (isD : d = (vLanes (sEw w) (g.ctx.getV (sDst w))).map (laneF (sEw w))) (lt : sFnV w ≠ 9) (eq : sFnV w ≠ 10) (fp : ewFp (sEw w) = true)
    (isQ : q = (a.zip (b.zip d)).map (fun p => fLane (sEw w) (match s.op j.id with
      | some o => o.sat
      | none => true) (vFpOp (sFnV w) p.1 p.2.1 p.2.2))) :
    exec (.spnVectorFp i) s = .next (retire (s.tickFree.countCnts j.tenant
        (((q.zipIdx).filter (fun e => laneOn (g.ctx.getK (sMask w)) (sEw w) e.2)).foldl (fun c e => c.add e.1.2) {})) j { moved g with
      ctx := (moved g).ctx.setV (sDst w) (vMerge (g.ctx.getK (sMask w)) (sEw w) (g.ctx.getV (sDst w))
        (vPack (sEw w) (q.map Prod.fst))) }) := by
  subst isQ isA isB isD
  change execSpnVectorFp i s = _
  refine State.spn_retires h ?_
  rw [Work.get_bind]
  dsimp only
  rw [if_neg (by simp [lt, eq]), if_pos fp, if_pos fp]
  rfl

theorem exec_spnVectorFp_free (h : AtInstr s i .vectorFp w g j) (lt : sFnV w ≠ 9) (eq : sFnV w ≠ 10) (int : ewFp (sEw w) = false) :
    exec (.spnVectorFp i) s = .next (retire s.tickFree j { moved g with
      ctx := (moved g).ctx.setV (sDst w) (vMerge (g.ctx.getK (sMask w)) (sEw w) (g.ctx.getV (sDst w)) s.freeV) }) := by
  change execSpnVectorFp i s = _
  refine State.spn_retires h ?_
  rw [Work.get_bind]
  dsimp only
  rw [if_neg (by simp [lt, eq]), if_neg (by simp [int]), if_neg (by simp [int])]
  rfl

theorem exec_spnVectorFp_compare (h : AtInstr s i .vectorFp w g j) (fn : sFnV w = 9 ∨ sFnV w = 10) :
    exec (.spnVectorFp i) s = .next (retire s.tickFree j { moved g with
      ctx := (moved g).ctx.setK (sDst w % 8) (kMerge (g.ctx.getK (sMask w)) (sEw w) (g.ctx.getK (sDst w % 8))
        (if ewFp (sEw w) then (((vLanes (sEw w) (g.ctx.getV (sSrc1 w))).map (laneF (sEw w))).zip
            ((vLanes (sEw w) (g.ctx.getV (sSrc2 w))).map (laneF (sEw w)))).map (fun p => match cmpN (f32 p.1) (f32 p.2) with
          | none => false
          | some x => if sFnV w = 9 then decide (x < 0) else decide (x = 0))
         else (vLanes (sEw w) s.freeV).map (fun x => decide (x % 2 = 1)))) }) := by
  change execSpnVectorFp i s = _
  refine State.spn_retires h ?_
  rw [Work.get_bind]
  dsimp only
  rw [if_pos (by simpa using fn)]
  rfl

/-! Conversions. Their element codes are at most 9, so the four bits that the model takes of FN are FN. -/

theorem sFnV_of_vcvt (h : sDecode w = some .vcvt) : sFnV w % 16 = sFnV w := by
  have cls : sCls w = some .vcvt := (Option.filter_eq_some_iff.mp h).1
  unfold sCls sysCls at cls
  split at cls <;> (try split at cls) <;> simp_all
  omega

theorem sFnV_of_vmxq (h : sDecode w = some .vmxq) : sFnV w % 16 = sFnV w := by
  have cls : sCls w = some .vmxq := (Option.filter_eq_some_iff.mp h).1
  unfold sCls sysCls at cls
  split at cls <;> (try split at cls) <;> simp_all
  omega

/-- What VCVT finds in each lane. -/
def vcvtLanes (w : W32) (g : Grain) (o : Op) : List (Nat × Cnts) :=
  ((vLanes (sEw w) (g.ctx.getV (sSrc1 w))).zipIdx).map (fun e =>
    encElem (sFnV w) false (spnMode (sSrc2 w % 4) o (moved g).ctx e.2) o.sat (laneNum (sEw w) e.1))

/-- The codes that VCVT packs: a lane that is masked off keeps its old bits. -/
def vcvtCodes (w : W32) (g : Grain) (o : Op) : List Nat :=
  (vcvtLanes w g o).zipIdx.map (fun q => if laneOn (g.ctx.getK (sMask w)) (sEw w) q.2 then q.1.1
    else fld (fmtBits (sFnV w) * q.2 + fmtBits (sFnV w) - 1) (fmtBits (sFnV w) * q.2) (g.ctx.getV (sDst w)).toNat)

theorem exec_spnVcvt (h : AtInstr s i .vcvt w g j) {o : Op} (op : s.op j.id = some o) :
    exec (.spnVcvt i) s = .next (retire (s.tickFree.countCnts j.tenant (((vcvtLanes w g o).zipIdx).foldl (fun a e =>
        if laneOn (g.ctx.getK (sMask w)) (sEw w) e.2 then a.add e.1.2 else a) {})) j { moved g with
      ctx := (moved g).ctx.setV (sDst w) (packElems (fmtBits (sFnV w)) (vcvtCodes w g o) s.freeV) }) := by
  have code := sFnV_of_vcvt h.cls
  change execSpnVcvt i s = _
  refine State.spn_retires h ?_
  rw [Work.get_bind]
  dsimp only
  rw [code]
  change (match s.op j.id with
    | none => _
    | some o => _ : Work (Option Grain)) s.tickFree = _
  rw [op]
  rfl

/-- An element of VCVT's destination: its code where the lane is on, else the bits it had. -/
theorem bits_vcvt {o : Op} {free : BitVec 512} {e : Nat} {x : Nat × Cnts} (there : (vcvtLanes w g o)[e]? = some x)
    (inside : fmtBits (sFnV w) * (e + 1) ≤ 512) :
    bits (fmtBits (sFnV w) * (e + 1) - 1) (fmtBits (sFnV w) * e) (packElems (fmtBits (sFnV w)) (vcvtCodes w g o) free) =
      if laneOn (g.ctx.getK (sMask w)) (sEw w) e then x.1 % 2 ^ fmtBits (sFnV w)
      else bits (fmtBits (sFnV w) * (e + 1) - 1) (fmtBits (sFnV w) * e) (g.ctx.getV (sDst w)) := by
  have pos := fmtBits_pos (sFnV w)
  have code : (vcvtCodes w g o)[e]? = some (if laneOn (g.ctx.getK (sMask w)) (sEw w) e then x.1
      else fld (fmtBits (sFnV w) * e + fmtBits (sFnV w) - 1) (fmtBits (sFnV w) * e) (g.ctx.getV (sDst w)).toNat) := by
    simp [vcvtCodes, there]
  rw [bits_packElems code pos inside]
  split
  · rfl
  · rw [← Nat.mul_succ, bits, fld, Nat.mod_eq_of_lt]
    have width : fmtBits (sFnV w) * (e + 1) - 1 + 1 - fmtBits (sFnV w) * e = fmtBits (sFnV w) := by
      rw [Nat.mul_succ]
      omega
    exact lt_of_lt_of_eq (Nat.mod_lt _ (Nat.two_pow_pos _)) (congrArg (2 ^ ·) width)

theorem exec_spnVmxq (h : AtInstr s i .vmxq w g j) {o : Op} (op : s.op j.id = some o) {q : Nat × List Nat × Cnts}
    (isQ : q = mxQuantize ((vLanes 4 (g.ctx.getV (sSrc1 w)) ++ vLanes 4 (g.ctx.getV ((sSrc1 w + 1) % 32))).map
      (fun v => f32 (BitVec.ofNat 32 v))) (sFnV w) ((List.range 32).map (fun k => spnMode (sMask w % 4) o (moved g).ctx k))) :
    exec (.spnVmxq i) s = .next (retire (s.tickFree.countCnts j.tenant q.2.2) j { moved g with
      ctx := ((moved g).ctx.setV (sDst w) (packElems (fmtBits (sFnV w)) q.2.1 s.freeV)).setX (sSrc2 w) (BitVec.ofNat 64 q.1) }) := by
  subst isQ
  have code := sFnV_of_vmxq h.cls
  change execSpnVmxq i s = _
  refine State.spn_retires h ?_
  rw [Work.get_bind]
  dsimp only
  rw [code]
  change (match s.op j.id with
    | none => _
    | some o => _ : Work (Option Grain)) s.tickFree = _
  rw [op]
  rfl

/-- The job's operation gone, a conversion leaves the registers. -/
theorem exec_spnVcvt_gone (h : AtInstr s i .vcvt w g j) (gone : s.op j.id = none) :
    exec (.spnVcvt i) s = .next (retire s.tickFree j (moved g)) := by
  change execSpnVcvt i s = _
  refine State.spn_retires (x := (moved g).ctx) h ?_
  change (match s.op j.id with
    | none => _
    | some o => _ : Work (Option Grain)) s.tickFree = _
  rw [gone]
  rfl

theorem exec_spnVmxq_gone (h : AtInstr s i .vmxq w g j) (gone : s.op j.id = none) :
    exec (.spnVmxq i) s = .next (retire s.tickFree j (moved g)) := by
  change execSpnVmxq i s = _
  refine State.spn_retires (x := (moved g).ctx) h ?_
  change (match s.op j.id with
    | none => _
    | some o => _ : Work (Option Grain)) s.tickFree = _
  rw [gone]
  rfl

end

/-- Settles O47: each instruction leaves its grain running with its registers written, as `State.spn_at` runs it. -/
theorem registerInstructionsWriteTheirDestination : Obligations.RegisterInstructionsWriteTheirDestination := by
  refine ⟨fun i w g j s => ⟨exec_spnAlu, exec_spnAluImm, exec_spnLoadUpper,
      exec_spnBranch, exec_spnJump, exec_spnJumpReg, exec_spnVectorInt_lanes, exec_spnVectorInt_splat, exec_spnVectorInt_compare,
      exec_spnReduce, exec_spnGets⟩,
    fun i w g j a b d s h isA isB isD => ⟨fun q lt eq fp isQ => exec_spnVectorFp_arith h isA isB isD lt eq fp isQ,
      exec_spnVectorFp_free h, fun fn => ?compare⟩,
    fun i w g j o s op => ⟨fun q h isQ => ?vcvt, fun q h isQ => ?vmxq⟩,
    fun i w g j s gone => ⟨fun h => exec_spnVcvt_gone h gone, fun h => exec_spnVmxq_gone h gone⟩,
    fun c v => ⟨rfl, rfl, rfl, rfl⟩, fun c i k v all pos small => ⟨Ctx.getX_setX all pos small, Ctx.getX_setX_other pos⟩,
    fun a b s => ⟨rfl, rfl, rfl⟩, fun a s => ⟨rfl, rfl⟩⟩
  case compare =>
    subst isA isB
    exact exec_spnVectorFp_compare h fn
  case vcvt =>
    obtain rfl : q = vcvtLanes w g o := isQ
    refine ⟨_, exec_spnVcvt h op, ?_, fun all e x there inside => ?_⟩
    · dsimp only
      rw [Ctx.setV_getV]
    · have held : (moved g).ctx.v.length = 32 := all
      have reg : sDst w < 32 := bits_lt _ _ _
      dsimp only
      rw [Ctx.getV_setV (held ▸ reg), bits_vcvt there inside]
  case vmxq =>
    exact ⟨_, exec_spnVmxq h op isQ, fun e x there inside => bits_packElems there (fmtBits_pos _) inside⟩

end Sys2Proof.Machine


/-! Spaern accesses to memory (R213 to R215, R223). -/

namespace Sys2Proof.Machine

open Safety

theorem Work.of_bind_ok {α β : Type} {m : Work α} {f : α → Work β} {b : β} {s u : State} (h : (m >>= f) s = .ok b u) :
    ∃ a t, m s = .ok a t ∧ f a t = .ok b u := by
  cases result : m s with
  | ok a t => exact ⟨a, t, rfl, by rwa [Work.bind_of_ok result] at h⟩
  | error e t =>
    rw [Work.bind_of_error result] at h
    cases h

section
variable {s u : State} {i : Nat} {c : SCls} {w : W32} {g : Grain} {j : Job} {f : Grain → Job → W32 → Work (Option Grain)}

/-! Where an instruction's access faults or must wait. -/

theorem State.spn_faults (h : AtInstr s i c w g j) {k : Nat} {e : Status} (result : f (moved g) j w s = .error (.fault k e) u) :
    s.spn i c f = .next (((g.unit j).ends u).faultGrain g k g.ctx.pc e) := by
  rw [State.spn_at h, State.runGrain, result]

theorem State.spn_waits (h : AtInstr s i c w g j) {k : WaitOn} (result : f (moved g) j w s = .error (.wait k) u) :
    s.spn i c f = .next ((g.unit j).waits k u s) := by
  rw [State.spn_at h, State.runGrain, result]

end

/-! Stores. -/

/-- The grain with another scratch, and else as it was. -/
def ScratchOnly (g g' : Grain) : Prop := g' = { g with ctx := { g.ctx with scratch := g'.ctx.scratch } }

namespace ScratchOnly

variable {g g' g'' : Grain}

theorem refl (g : Grain) : ScratchOnly g g := rfl

theorem trans (h : ScratchOnly g g') (k : ScratchOnly g' g'') : ScratchOnly g g'' := by
  unfold ScratchOnly at h k ⊢
  rw [k, h]

theorem id (h : ScratchOnly g g') : g'.id = g.id := by
  rw [h]

theorem half (h : ScratchOnly g g') : g'.half = g.half := by
  rw [h]

theorem st (h : ScratchOnly g g') : g'.st = g.st := by
  rw [h]

end ScratchOnly

section
variable {g g' : Grain} {j : Job} {s u : State}

theorem Grain.storeAt_scratchOnly {p : Place} {b : List Byte} {active : Nat → Bool} (h : g.storeAt j p b active s = .ok g' u) :
    ScratchOnly g g' := by
  unfold Grain.storeAt at h
  split at h
  · cases h
  · cases p with
    | ua a =>
      obtain ⟨_, _, _, ends⟩ := Work.of_bind_ok h
      cases ends
      rfl
    | cistern a =>
      obtain ⟨_, _, _, ends⟩ := Work.of_bind_ok h
      obtain ⟨_, _, _, ends⟩ := Work.of_bind_ok ends
      cases ends
      rfl
    | scratch a =>
      cases h
      rfl

theorem Grain.store_scratchOnly {a : W64} {b : List Byte} {active : Nat → Bool} (h : g.store j a b active s = .ok g' u) :
    ScratchOnly g g' := by
  rw [Grain.store] at h
  cases place : placeOf a with
  | none =>
    rw [place] at h
    cases h
  | some p =>
    rw [place] at h
    exact Grain.storeAt_scratchOnly h

theorem Grain.stores_scratchOnly {l : List (Nat × W64)} {bytes : Nat × W64 → List Byte} {active : Nat → Bool}
    (h : l.foldlM (fun (g : Grain) e => g.store j e.2 (bytes e) active) g s = .ok g' u) : ScratchOnly g g' := by
  induction l generalizing g s with
  | nil =>
    cases h
    rfl
  | cons e r ih =>
    rw [List.foldlM_cons] at h
    obtain ⟨m, t, first, rest⟩ := Work.of_bind_ok h
    exact (Grain.store_scratchOnly first).trans (ih rest)

end

/-! Places. -/

section
variable {g : Grain} {j : Job} {a : W64} {p : Place} {n x : Nat} {b : List Byte} {f : Nat → Bool} {s u : State}

theorem Grain.load_outside (out : placeOf a = none) : g.load j a n s = .error (.fault 2 .permission) s := by
  rw [Grain.load, out]
  rfl

theorem Grain.load_unreached (is : placeOf a = some p) (out : j.reaches false p n allBytes = false) :
    g.load j a n s = .error (.fault 2 .permission) s := by
  rw [Grain.load, is]
  simp only [Grain.loadAt, out, Bool.not_false, if_true]
  rfl

theorem Job.reaches_scratch {wr : Bool} (inside : x + n ≤ 1024) : j.reaches wr (.scratch x) n f = true := by
  have bound : n ≤ 2 ^ 44 := by omega
  rw [Job.reaches, decide_eq_true bound, Bool.true_and, List.all_eq_true]
  intro i below
  have := List.mem_range.mp below
  simp only [Bool.or_eq_true, decide_eq_true_eq]
  exact .inr (by omega)

theorem Grain.load_scratch (is : placeOf a = some (.scratch x)) (inside : x + n ≤ 1024) :
    g.load j a n s = .ok ((List.range n).map (fun i => mget (x + i) g.ctx.scratch)) s := by
  rw [Grain.load, is]
  simp only [Grain.loadAt, Job.reaches_scratch inside, Bool.not_true, Bool.false_eq_true, if_false]
  rfl

theorem spnRead_ok {α : Type} {m : Work α} {v : α} (h : m s = .ok v u) : spnRead m s = .ok v u := by
  have tried : Work.try_ m s = .ok (.ok v) u := by rw [Work.try_, h]
  rw [spnRead, Work.bind_of_ok tried]
  rfl

theorem Grain.load_ua (is : placeOf a = some (.ua x)) (reached : j.reaches false (.ua x) n allBytes = true)
    (read : (g.unit j).bytes x n s = .ok b u) : g.load j a n s = .ok b u := by
  have every : (List.range n).all allBytes = true := List.all_eq_true.mpr fun _ _ => rfl
  rw [Grain.load, is]
  simp only [Grain.loadAt, reached, every, Bool.not_true, Bool.false_eq_true, if_false, if_true]
  exact spnRead_ok read

theorem Grain.store_outside (out : placeOf a = none) : g.store j a b f s = .error (.fault 2 .permission) s := by
  rw [Grain.store, out]
  rfl

theorem Grain.store_unreached (is : placeOf a = some p) (out : j.reaches true p b.length f = false) :
    g.store j a b f s = .error (.fault 2 .permission) s := by
  rw [Grain.store, is]
  simp only [Grain.storeAt, out, Bool.not_false, if_true]
  rfl

theorem Grain.store_scratch (is : placeOf a = some (.scratch x)) (inside : x + b.length ≤ 1024) :
    g.store j a b f s = .ok { g with ctx := { g.ctx with
      scratch := (b.zipIdx).foldl (fun m e => if f e.2 then mset (x + e.2) e.1 m else m) g.ctx.scratch } } s := by
  rw [Grain.store, is]
  simp only [Grain.storeAt, Job.reaches_scratch inside, Bool.not_true, Bool.false_eq_true, if_false]
  rfl

end

section
variable {s u x : State} {i k : Nat} {w : W32} {g g' : Grain} {j : Job} {b : List Byte} {c : Status} {n : WaitOn}

/-! Scalar loads and stores. -/

section
variable (h : AtInstr s i .load w g j)
include h

theorem exec_spnLoad_ok (read : (moved g).load j (g.ctx.getX (sSrc1 w) + BitVec.ofInt 64 (sImm12 w)) (2 ^ (sFnB w % 4)) s = .ok b u) :
    exec (.spnLoad i) s = .next (retire u j { moved g with
      ctx := (moved g).ctx.setX (sDst w) (if sFnB w < 4 then BitVec.ofInt 64 (sgnOf (8 * 2 ^ (sFnB w % 4)) (leNat b)) else BitVec.ofNat 64 (leNat b)) }) := by
  change execSpnLoad i s = _
  exact State.spn_retires h (Work.bind_of_ok read _)

theorem exec_spnLoad_fault (read : (moved g).load j (g.ctx.getX (sSrc1 w) + BitVec.ofInt 64 (sImm12 w)) (2 ^ (sFnB w % 4)) s =
    .error (.fault k c) u) : exec (.spnLoad i) s = .next (((g.unit j).ends u).faultGrain g k g.ctx.pc c) := by
  change execSpnLoad i s = _
  exact State.spn_faults h (Work.bind_of_error read _)

theorem exec_spnLoad_wait (read : (moved g).load j (g.ctx.getX (sSrc1 w) + BitVec.ofInt 64 (sImm12 w)) (2 ^ (sFnB w % 4)) s =
    .error (.wait n) u) : exec (.spnLoad i) s = .next ((g.unit j).waits n u s) := by
  change execSpnLoad i s = _
  exact State.spn_waits h (Work.bind_of_error read _)

end

section
variable (h : AtInstr s i .store w g j)
include h

theorem exec_spnStore_ok (stored : (moved g).store j (g.ctx.getX (sSrc1 w) + BitVec.ofInt 64 (sImm12 w))
    (leBytes (2 ^ (sFnB w % 4)) (g.ctx.getX (sDst w)).toNat) allBytes s = .ok g' u) : exec (.spnStore i) s = .next (retire u j g') := by
  have kept := Grain.store_scratchOnly stored
  change execSpnStore i s = _
  exact State.spn_retires_of h (Work.bind_of_ok stored _) kept.id kept.half kept.st

theorem exec_spnStore_fault (stored : (moved g).store j (g.ctx.getX (sSrc1 w) + BitVec.ofInt 64 (sImm12 w))
    (leBytes (2 ^ (sFnB w % 4)) (g.ctx.getX (sDst w)).toNat) allBytes s = .error (.fault k c) u) :
    exec (.spnStore i) s = .next (((g.unit j).ends u).faultGrain g k g.ctx.pc c) := by
  change execSpnStore i s = _
  exact State.spn_faults h (Work.bind_of_error stored _)

theorem exec_spnStore_wait (stored : (moved g).store j (g.ctx.getX (sSrc1 w) + BitVec.ofInt 64 (sImm12 w))
    (leBytes (2 ^ (sFnB w % 4)) (g.ctx.getX (sDst w)).toNat) allBytes s = .error (.wait n) u) :
    exec (.spnStore i) s = .next ((g.unit j).waits n u s) := by
  change execSpnStore i s = _
  exact State.spn_waits h (Work.bind_of_error stored _)

end

/-! Atomics. -/

section
variable (h : AtInstr s i .atomic w g j)
include h

theorem exec_spnAtomic_misaligned (bad : (g.ctx.getX (sSrc1 w)).toNat % 8 ≠ 0) :
    exec (.spnAtomic i) s = .next (((g.unit j).ends s).faultGrain g 4 g.ctx.pc .badDescriptor) := by
  change execSpnAtomic i s = _
  exact State.spn_faults h (congrFun (if_pos bad) s)

theorem exec_spnAtomic_outside (aligned : (g.ctx.getX (sSrc1 w)).toNat % 8 = 0) (out : placeOf (g.ctx.getX (sSrc1 w)) = none) :
    exec (.spnAtomic i) s = .next (((g.unit j).ends s).faultGrain g 2 g.ctx.pc .permission) := by
  change execSpnAtomic i s = _
  refine State.spn_faults h ((congrFun (if_neg (not_not.mpr aligned)) s).trans (congrFun (if_pos ?_) s))
  change (match placeOf (g.ctx.getX (sSrc1 w)) with
    | some p => _
    | none => true) = true
  rw [out]

/-- An aligned atomic that its grain may read and write: its load, its store, its register. -/
def atomicRun (g : Grain) (j : Job) (w : W32) : Work (Option Grain) := do
  let b ← g.load j (g.ctx.getX (sSrc1 w)) 8
  let g ← (match atomicOp (sFnA w) (BitVec.ofNat 64 (leNat b)) (g.ctx.getX (sSrc2 w)) (g.ctx.getX (sDst w)) with
    | some v => g.store j (g.ctx.getX (sSrc1 w)) (leBytes 8 v.toNat) allBytes
    | none => pure g)
  pure (some { g with ctx := g.ctx.setX (sDst w) (BitVec.ofNat 64 (leNat b)) })

section
variable {p : Place} {v : W64} (aligned : (g.ctx.getX (sSrc1 w)).toNat % 8 = 0) (is : placeOf (g.ctx.getX (sSrc1 w)) = some p)
  (reached : j.reaches true p 8 allBytes = true)
include aligned is reached

theorem exec_spnAtomic_runs : exec (.spnAtomic i) s = s.spn i .atomic fun _ _ _ => atomicRun (moved g) j w := by
  change execSpnAtomic i s = _
  rw [execSpnAtomic, State.spn_at h, State.spn_at h]
  refine congrArg (fun m => Host.Outcome.next (s.runGrain g j m)) ((if_neg (not_not.mpr aligned)).trans (if_neg ?_))
  change ¬(match placeOf (g.ctx.getX (sSrc1 w)) with
    | some p => _
    | none => true) = true
  rw [is]
  simp [reached]

theorem exec_spnAtomic_stores (read : (moved g).load j (g.ctx.getX (sSrc1 w)) 8 s = .ok b u)
    (writes : atomicOp (sFnA w) (BitVec.ofNat 64 (leNat b)) (g.ctx.getX (sSrc2 w)) (g.ctx.getX (sDst w)) = some v)
    (stored : (moved g).store j (g.ctx.getX (sSrc1 w)) (leBytes 8 v.toNat) allBytes u = .ok g' x) :
    exec (.spnAtomic i) s = .next (retire x j { g' with ctx := g'.ctx.setX (sDst w) (BitVec.ofNat 64 (leNat b)) }) := by
  have kept := Grain.store_scratchOnly stored
  rw [exec_spnAtomic_runs h aligned is reached]
  refine State.spn_retires_of h ((Work.bind_of_ok read _).trans ?_) kept.id kept.half kept.st
  change ((match atomicOp (sFnA w) (BitVec.ofNat 64 (leNat b)) (g.ctx.getX (sSrc2 w)) (g.ctx.getX (sDst w)) with
    | some v => _
    | none => _) >>= _ : Work (Option Grain)) u = _
  rw [writes]
  exact Work.bind_of_ok stored _

theorem exec_spnAtomic_keeps (read : (moved g).load j (g.ctx.getX (sSrc1 w)) 8 s = .ok b u)
    (keeps : atomicOp (sFnA w) (BitVec.ofNat 64 (leNat b)) (g.ctx.getX (sSrc2 w)) (g.ctx.getX (sDst w)) = none) :
    exec (.spnAtomic i) s = .next (retire u j { moved g with ctx := (moved g).ctx.setX (sDst w) (BitVec.ofNat 64 (leNat b)) }) := by
  rw [exec_spnAtomic_runs h aligned is reached]
  refine State.spn_retires h ((Work.bind_of_ok read _).trans ?_)
  change ((match atomicOp (sFnA w) (BitVec.ofNat 64 (leNat b)) (g.ctx.getX (sSrc2 w)) (g.ctx.getX (sDst w)) with
    | some v => _
    | none => _) >>= _ : Work (Option Grain)) u = _
  rw [keeps]
  rfl

theorem exec_spnAtomic_fault (read : (moved g).load j (g.ctx.getX (sSrc1 w)) 8 s = .error (.fault k c) u) :
    exec (.spnAtomic i) s = .next (((g.unit j).ends u).faultGrain g k g.ctx.pc c) := by
  rw [exec_spnAtomic_runs h aligned is reached]
  exact State.spn_faults h (Work.bind_of_error read _)

theorem exec_spnAtomic_wait (read : (moved g).load j (g.ctx.getX (sSrc1 w)) 8 s = .error (.wait n) u) :
    exec (.spnAtomic i) s = .next ((g.unit j).waits n u s) := by
  rw [exec_spnAtomic_runs h aligned is reached]
  exact State.spn_waits h (Work.bind_of_error read _)

end

end

/-! Vector loads and stores. -/

theorem exec_spnVectorLoad_outside (h : AtInstr s i .vectorLoad w g j) (out : placeOf (g.ctx.getX (sSrc1 w)) = none) :
    exec (.spnVectorLoad i) s = .next (((g.unit j).ends s).faultGrain g 2 g.ctx.pc .permission) := by
  change execSpnVectorLoad i s = _
  refine State.spn_faults h ?_
  change (match placeOf (g.ctx.getX (sSrc1 w)) with
    | none => _
    | some p => _ : Work (Option Grain)) s = _
  rw [out]
  rfl

theorem exec_spnVectorLoad_ok {p : Place} (h : AtInstr s i .vectorLoad w g j) (is : placeOf (g.ctx.getX (sSrc1 w)) = some p)
    (read : (moved g).loadAt j p 64 (byteOn (g.ctx.getK (sMask w)) (sEw w)) s = .ok b u) :
    exec (.spnVectorLoad i) s = .next (retire u j { moved g with
      ctx := (moved g).ctx.setV (sDst w) (vMerge (g.ctx.getK (sMask w)) (sEw w) (g.ctx.getV (sDst w)) (bytesLine b)) }) := by
  change execSpnVectorLoad i s = _
  refine State.spn_retires h ?_
  change (match placeOf (g.ctx.getX (sSrc1 w)) with
    | none => _
    | some p => _ : Work (Option Grain)) s = _
  rw [is]
  exact Work.bind_of_ok read _

theorem exec_spnVectorStore_ok (h : AtInstr s i .vectorStore w g j)
    (stored : (moved g).store j (g.ctx.getX (sSrc1 w)) (lineBytes (g.ctx.getV (sDst w))) (byteOn (g.ctx.getK (sMask w)) (sEw w)) s = .ok g' u) :
    exec (.spnVectorStore i) s = .next (retire u j g') := by
  have kept := Grain.store_scratchOnly stored
  change execSpnVectorStore i s = _
  exact State.spn_retires_of h (Work.bind_of_ok stored _) kept.id kept.half kept.st

theorem exec_spnGather_ok {l : List (Nat × Nat)} (h : AtInstr s i .gather w g j)
    (read : ((laneAddrs (moved g).ctx w).mapM (fun e => do
      let b ← (moved g).load j e.2 (ewBits (sEw w) / 8)
      pure (e.1, leNat b)) : Work (List (Nat × Nat))) s = .ok l u) :
    exec (.spnGather i) s = .next (retire u j { moved g with
      ctx := (moved g).ctx.setV (sDst w) (vPack (sEw w) (((vLanes (sEw w) (g.ctx.getV (sDst w))).zipIdx).map (fun e =>
        match l.find? (fun v => v.1 = e.2) with
        | some v => v.2
        | none => e.1))) }) := by
  change execSpnGather i s = _
  exact State.spn_retires h (Work.bind_of_ok read _)

theorem exec_spnScatter_ok (h : AtInstr s i .scatter w g j)
    (stored : (laneAddrs (moved g).ctx w).foldlM (fun (h : Grain) e => h.store j e.2
      (leBytes (ewBits (sEw w) / 8) (((vLanes (sEw w) (g.ctx.getV (sDst w)))[e.1]?).getD 0)) allBytes) (moved g) s = .ok g' u) :
    exec (.spnScatter i) s = .next (retire u j g') := by
  have kept := Grain.stores_scratchOnly stored
  change execSpnScatter i s = _
  exact State.spn_retires_of h (Work.bind_of_ok stored _) kept.id kept.half kept.st

/-! Check values. -/

theorem exec_spnCrc_empty (h : AtInstr s i .crc w g j) (zero : g.ctx.getX (sSrc2 w) = 0#64) :
    exec (.spnCrc i) s = .next (retire s j { moved g with ctx := (moved g).ctx.setX (sDst w) ((crc32c []).setWidth 64) }) := by
  have none : (if (moved g).ctx.getX (sSrc2 w) = 0#64 then pure []
      else (moved g).load j ((moved g).ctx.getX (sSrc1 w)) ((moved g).ctx.getX (sSrc2 w)).toNat : Work (List Byte)) s = .ok [] s :=
    congrFun (if_pos zero) s
  change execSpnCrc i s = _
  exact State.spn_retires h (Work.bind_of_ok none _)

theorem exec_spnCrc_ok (h : AtInstr s i .crc w g j) (nonzero : g.ctx.getX (sSrc2 w) ≠ 0#64)
    (read : (moved g).load j (g.ctx.getX (sSrc1 w)) (g.ctx.getX (sSrc2 w)).toNat s = .ok b u) :
    exec (.spnCrc i) s = .next (retire u j { moved g with ctx := (moved g).ctx.setX (sDst w) ((crc32c b).setWidth 64) }) := by
  have bytes : (if (moved g).ctx.getX (sSrc2 w) = 0#64 then pure []
      else (moved g).load j ((moved g).ctx.getX (sSrc1 w)) ((moved g).ctx.getX (sSrc2 w)).toNat : Work (List Byte)) s = .ok b u :=
    (congrFun (if_neg nonzero) s).trans read
  change execSpnCrc i s = _
  exact State.spn_retires h (Work.bind_of_ok bytes _)

theorem spnTry_ok {m : Work (List Byte)} (read : m s = .ok b u) : spnTry m s = .ok (some b) u := by
  rw [spnTry, read]

theorem spnTry_poison {m : Work (List Byte)} (read : m s = .error (.fault 5 c) u) : spnTry m s = .ok none u := by
  simp only [spnTry, read]

/-- What CRCV finds of the block at a. -/
def crcvCode (g : Grain) (j : Job) (a : W64) : Work W64 := do
  match (← spnTry (g.load j a 16)) with
  | none => pure 0x01#64
  | some h =>
    match (← spnTry (g.load j (a + 16#64) (leAt h 5 2 % 2 ^ 13))) with
    | none => pure 0x02#64
    | some b => pure (if (crc32c b).toNat = leAt h 8 4 then 0x00#64 else 0x02#64)

theorem exec_spnCrcv_code {v : W64} (h : AtInstr s i .crcv w g j) (code : crcvCode (moved g) j (g.ctx.getX (sSrc1 w)) s = .ok v u) :
    exec (.spnCrcv i) s = .next (retire u j { moved g with ctx := (moved g).ctx.setX (sDst w) v }) := by
  change execSpnCrcv i s = _
  exact State.spn_retires h (Work.bind_of_ok code _)

section
variable {a : W64} {hd : List Byte}

theorem crcvCode_header_poison (read : g.load j a 16 s = .error (.fault 5 c) u) : crcvCode g j a s = .ok 0x01#64 u := by
  rw [crcvCode, Work.bind_of_ok (spnTry_poison read)]
  rfl

section
variable (header : g.load j a 16 s = .ok hd u)
include header

theorem crcvCode_block_poison (read : g.load j (a + 16#64) (leAt hd 5 2 % 2 ^ 13) u = .error (.fault 5 c) x) :
    crcvCode g j a s = .ok 0x02#64 x := by
  rw [crcvCode, Work.bind_of_ok (spnTry_ok header)]
  dsimp only
  rw [Work.bind_of_ok (spnTry_poison read)]
  rfl

theorem crcvCode_read (read : g.load j (a + 16#64) (leAt hd 5 2 % 2 ^ 13) u = .ok b x) :
    crcvCode g j a s = .ok (if (crc32c b).toNat = leAt hd 8 4 then 0x00#64 else 0x02#64) x := by
  rw [crcvCode, Work.bind_of_ok (spnTry_ok header)]
  dsimp only
  rw [Work.bind_of_ok (spnTry_ok read)]
  rfl

end

end

end

/-- Settles O48: each access decides its instruction's outcome by what its space answers (`State.spn_retires_of`,
`State.spn_faults`, `State.spn_waits`). -/
theorem memoryInstructionsLoadAndStore : Obligations.MemoryInstructionsLoadAndStore := by
  refine ⟨fun i w g j m s u h is => ?load, fun i w g j m s u h is => ?store, fun g g' j a b f s u => Grain.store_scratchOnly,
    fun i w g j p m s u h aligned place reached is => ?atomic,
    fun i w g j s h => ⟨exec_spnAtomic_misaligned h, exec_spnAtomic_outside h⟩,
    fun i w g j s h => ⟨exec_spnVectorLoad_outside h, fun p b u => exec_spnVectorLoad_ok h⟩,
    fun i w g g' j s u => exec_spnVectorStore_ok, fun i w g j l s u => exec_spnGather_ok, fun i w g g' j s u => exec_spnScatter_ok,
    fun i w g j s u h => ⟨exec_spnCrc_empty h, fun b => exec_spnCrc_ok h⟩,
    fun i w g j s u h => ⟨fun c read => exec_spnCrcv_code h (crcvCode_header_poison read),
      fun hd c x header read => exec_spnCrcv_code h (crcvCode_block_poison header read),
      fun hd b x header read => exec_spnCrcv_code h (crcvCode_read header read)⟩,
    fun i w g j c k f s u _ h runs => ?stops, fun g j a n s => ?loads, fun g j a b f s => ?stores⟩
  case load =>
    subst is
    exact ⟨fun b => exec_spnLoad_ok h, fun k c => exec_spnLoad_fault h, fun k => exec_spnLoad_wait h⟩
  case store =>
    subst is
    exact ⟨fun g' => exec_spnStore_ok h, fun k c => exec_spnStore_fault h, fun k => exec_spnStore_wait h⟩
  case atomic =>
    subst is
    exact ⟨fun b v g' x => exec_spnAtomic_stores h aligned place reached, fun b => exec_spnAtomic_keeps h aligned place reached,
      fun k c => exec_spnAtomic_fault h aligned place reached, fun k => exec_spnAtomic_wait h aligned place reached⟩
  case stops =>
    rw [runs]
    exact ⟨fun n e => State.spn_faults h, fun n => State.spn_waits h⟩
  case loads =>
    exact ⟨fun out => ⟨s, Grain.load_outside out⟩, fun p is out => ⟨s, Grain.load_unreached is out⟩, fun x => Grain.load_scratch,
      fun x b u => Grain.load_ua⟩
  case stores =>
    exact ⟨fun out => ⟨s, Grain.store_outside out⟩, fun p is out => ⟨s, Grain.store_unreached is out⟩,
      fun x is inside => ⟨_, Grain.store_scratch is inside, rfl⟩⟩

end Sys2Proof.Machine


/-! Spaern system instructions, and where a grain stops (R215, R218, R220 to R223, R232). -/

namespace Sys2Proof.Machine

open Safety

section
variable {s u : State} {i k : Nat} {c : SCls} {w : W32} {g g' : Grain} {j : Job} {f : Grain → Job → W32 → Work (Option Grain)} {e : Instr}

/-! A grain that its instruction leaves at a yield point, or ends. -/

theorem State.spn_ends (h : AtInstr s i c w g j) (result : f (moved g) j w s = .ok none u) :
    s.spn i c f = .next (((g.unit j).ends u).endGrain g) := by
  rw [State.spn_at h, State.runGrain, result]

theorem State.job_ends (s : State) (n : Nat) (a : Acc) : (a.ends s).job n = s.job n := by
  rw [State.job, State.job, (Acc.ends_only a (Inside.refl _) (Only.refl _ s)).jobs rfl]

/-- A grain that no longer runs is at a yield point. -/
theorem State.spn_stops (h : AtInstr s i c w g j) (result : f (moved g) j w s = .ok (some g') s) (stopped : g'.st ≠ .running) :
    s.spn i c f = .next (((g.unit j).ends s).yieldAt g') := by
  rw [State.spn_at h, State.runGrain, result]
  dsimp only
  rw [State.putGrain, if_neg stopped]

section
variable (h : AtInstr s i c w g j) (result : f (moved g) j w s = .ok (some g') s) (job : g'.job = g.job) (stopped : g'.st ≠ .running)
include h result job stopped

theorem State.spn_stops_of_job (stop : j.stop.isSome = true) : s.spn i c f = .next (((g.unit j).ends s).endGrain g') := by
  have held : ((g.unit j).ends s).job g'.job = some j := by rw [State.job_ends, job, h.job]
  rw [State.spn_stops h result stopped, State.yieldAt, held]
  dsimp only
  rw [if_pos stop]

theorem State.spn_saves (live : j.stop = none) (id : g'.id = g.id) (half : g'.half = g.half) :
    s.spn i c f = .next (retire s j { g' with saved := g'.ctx, savedCount := g'.icount, stamp := s.now }) := by
  have held : ((g.unit j).ends s).job g'.job = some j := by rw [State.job_ends, job, h.job]
  have now : ((g.unit j).ends s).now = s.now := by
    rw [State.now, (Acc.ends_only _ (Inside.refl _) (Only.refl _ s)).clk rfl, State.now]
  have unit : ({ g' with saved := g'.ctx, savedCount := g'.icount, stamp := s.now } : Grain).unit j = g.unit j := by
    simp only [Grain.unit, id, half]
  rw [State.spn_stops h result stopped, State.yieldAt, held, retire, unit]
  dsimp only
  rw [if_neg (by simp [live]), now]

end

/-! Where no instruction of the class runs. -/

section
variable (row : exec e s = s.spn i c f) (grain : s.grain i = some g) (job : s.job g.job = some j)
include row grain job

theorem exec_spn_idle (still : g.st ≠ .running) : exec e s = .next s := by
  rw [row, State.spn, grain]
  dsimp only
  rw [job]
  dsimp only
  rw [if_pos still]

section
variable (running : g.st = .running)
include running

theorem exec_spn_noWord (out : j.word g.ctx.pc = none) : exec e s = .next (s.faultGrain g 1 g.ctx.pc .badDescriptor) := by
  rw [row, State.spn, grain]
  dsimp only
  rw [job]
  dsimp only
  rw [if_neg (by simp [running]), out]

section
variable (word : j.word g.ctx.pc = some w)
include word

theorem exec_spn_otherClass (other : sDecode w ≠ some c) : exec e s = .next s := by
  rw [row, State.spn, grain]
  dsimp only
  rw [job]
  dsimp only
  rw [if_neg (by simp [running]), word]
  dsimp only
  rw [if_pos other]

theorem exec_spn_pastLimit (cls : sDecode w = some c) (past : s.pastLimit g j = true) :
    exec e s = .next (s.faultGrain g 6 g.ctx.pc .timeout) := by
  rw [row, State.spn, grain]
  dsimp only
  rw [job]
  dsimp only
  rw [if_neg (by simp [running]), word]
  dsimp only
  rw [if_neg (by simp [cls]), if_pos past]

end

end

end

/-- The outcome of a row that runs the word of class c at grain i. -/
def RunsAt (s : State) (i : Nat) (c : SCls) (x : Host.Outcome State Fault Refusal) : Prop := ∃ f, x = s.spn i c f

theorem State.spn_runsAt (f : Grain → Job → W32 → Work (Option Grain)) : RunsAt s i c (s.spn i c f) := ⟨f, rfl⟩

theorem State.spnRegs_runsAt (f : Ctx → Nat → W32 → State → Ctx) : RunsAt s i c (s.spnRegs i c f) := ⟨_, rfl⟩

/-- Each Spaern instruction runs the word of its class. -/
theorem exec_spn_runsAt : ∀ p ∈ [(Instr.spnAlu i, SCls.alu), (.spnAluImm i, .aluImm), (.spnLoadUpper i, .loadUpper), (.spnLoad i, .load), (.spnStore i, .store),
      (.spnBranch i, .branch), (.spnJump i, .jump), (.spnJumpReg i, .jumpReg), (.spnAtomic i, .atomic), (.spnYield i, .yield),
      (.spnFence i, .fence), (.spnExit i, .exit), (.spnTrap i, .trap), (.spnGets i, .gets), (.spnWait i, .wait), (.spnSignal i, .signal),
      (.spnMark i, .mark), (.spnVectorInt i, .vectorInt), (.spnVectorFp i, .vectorFp), (.spnReduce i, .reduce),
      (.spnVectorLoad i, .vectorLoad), (.spnVectorStore i, .vectorStore), (.spnGather i, .gather), (.spnScatter i, .scatter),
      (.spnVcvt i, .vcvt), (.spnVmxq i, .vmxq), (.spnCrc i, .crc), (.spnCrcv i, .crcv)], RunsAt s i p.2 (exec p.1 s) := by
  simp only [List.forall_mem_cons, List.not_mem_nil, false_implies, implies_true, and_true]
  exact ⟨(State.spnRegs_runsAt _ : RunsAt s i _ (execSpnAlu i s)),
    (State.spnRegs_runsAt _ : RunsAt s i _ (execSpnAluImm i s)),
    (State.spnRegs_runsAt _ : RunsAt s i _ (execSpnLoadUpper i s)),
    (State.spn_runsAt _ : RunsAt s i _ (execSpnLoad i s)),
    (State.spn_runsAt _ : RunsAt s i _ (execSpnStore i s)),
    (State.spnRegs_runsAt _ : RunsAt s i _ (execSpnBranch i s)),
    (State.spnRegs_runsAt _ : RunsAt s i _ (execSpnJump i s)),
    (State.spnRegs_runsAt _ : RunsAt s i _ (execSpnJumpReg i s)),
    (State.spn_runsAt _ : RunsAt s i _ (execSpnAtomic i s)),
    (State.spn_runsAt _ : RunsAt s i _ (execSpnYield i s)),
    (State.spn_runsAt _ : RunsAt s i _ (execSpnFence i s)),
    (State.spn_runsAt _ : RunsAt s i _ (execSpnExit i s)),
    (State.spn_runsAt _ : RunsAt s i _ (execSpnTrap i s)),
    (State.spn_runsAt _ : RunsAt s i _ (execSpnGets i s)),
    (State.spn_runsAt _ : RunsAt s i _ (execSpnWait i s)),
    (State.spn_runsAt _ : RunsAt s i _ (execSpnSignal i s)),
    (State.spn_runsAt _ : RunsAt s i _ (execSpnMark i s)),
    (State.spnRegs_runsAt _ : RunsAt s i _ (execSpnVectorInt i s)),
    (State.spn_runsAt _ : RunsAt s i _ (execSpnVectorFp i s)),
    (State.spnRegs_runsAt _ : RunsAt s i _ (execSpnReduce i s)),
    (State.spn_runsAt _ : RunsAt s i _ (execSpnVectorLoad i s)),
    (State.spn_runsAt _ : RunsAt s i _ (execSpnVectorStore i s)),
    (State.spn_runsAt _ : RunsAt s i _ (execSpnGather i s)),
    (State.spn_runsAt _ : RunsAt s i _ (execSpnScatter i s)),
    (State.spn_runsAt _ : RunsAt s i _ (execSpnVcvt i s)),
    (State.spn_runsAt _ : RunsAt s i _ (execSpnVmxq i s)),
    (State.spn_runsAt _ : RunsAt s i _ (execSpnCrc i s)),
    (State.spn_runsAt _ : RunsAt s i _ (execSpnCrcv i s))⟩

end

section
variable {s : State} {i : Nat} {w : W32} {g : Grain} {j : Job}

/-! System instructions. -/

theorem exec_spnYield_saves (h : AtInstr s i .yield w g j) (live : j.stop = none) : exec (.spnYield i) s =
    .next (retire s j { moved g with st := .ready, saved := (moved g).ctx, savedCount := g.icount + 1, stamp := s.now }) := by
  change execSpnYield i s = _
  exact State.spn_saves (g' := { moved g with st := .ready }) h rfl rfl (by simp) live rfl rfl

theorem exec_spnYield_stopped (h : AtInstr s i .yield w g j) (stop : j.stop.isSome = true) :
    exec (.spnYield i) s = .next (((g.unit j).ends s).endGrain { moved g with st := .ready }) := by
  change execSpnYield i s = _
  exact State.spn_stops_of_job (g' := { moved g with st := .ready }) h rfl rfl (by simp) stop

theorem exec_spnFence (h : AtInstr s i .fence w g j) : exec (.spnFence i) s = .next (retire s j (moved g)) := by
  change execSpnFence i s = _
  exact State.spn_retires_of h rfl rfl rfl rfl

theorem exec_spnExit (h : AtInstr s i .exit w g j) : exec (.spnExit i) s = .next (((g.unit j).ends s).endGrain g) := by
  change execSpnExit i s = _
  exact State.spn_ends h rfl

theorem exec_spnTrap (h : AtInstr s i .trap w g j) :
    exec (.spnTrap i) s = .next (((g.unit j).ends s).faultGrain g 7 g.ctx.pc .badDescriptor) := by
  change execSpnTrap i s = _
  exact State.spn_faults h rfl

theorem exec_spnSignal (h : AtInstr s i .signal w g j) : exec (.spnSignal i) s = .next (retire (s.modJob j.id (fun x => { x with
    jc := x.jc.set (bits 3 0 w) (x.counter (bits 3 0 w) + g.ctx.getX (sSrc1 w)) })) j (moved g)) := by
  change execSpnSignal i s = _
  exact State.spn_retires_of h rfl rfl rfl rfl

theorem exec_spnMark (h : AtInstr s i .mark w g j) : exec (.spnMark i) s =
    .next (retire (s.writeMark g.half (bits 9 0 w) j.tenant ((g.ctx.getX (sSrc1 w)).setWidth 32)) j (moved g)) := by
  change execSpnMark i s = _
  exact State.spn_retires_of h rfl rfl rfl rfl

/-! WAIT. -/

/-- A grain that waits for a counter. -/
def Grain.waitsFor (g : Grain) (n : Nat) (v : W64) (now : Nat) : Grain := { g with st := .waiting, waitJc := n, waitVal := v, since := now }

section
variable (h : AtInstr s i .wait w g j)
include h

theorem exec_spnWait_reached (reached : (g.ctx.getX (sSrc1 w)).toNat ≤ (j.counter (bits 3 0 w)).toNat) :
    exec (.spnWait i) s = .next (retire s j (moved g)) := by
  change execSpnWait i s = _
  exact State.spn_retires_of h (congrFun (if_pos reached) s) rfl rfl rfl

section
variable (short : (j.counter (bits 3 0 w)).toNat < (g.ctx.getX (sSrc1 w)).toNat)
include short

theorem exec_spnWait_saves (live : j.stop = none) : exec (.spnWait i) s =
    .next (retire s j { (moved g).waitsFor (bits 3 0 w) (g.ctx.getX (sSrc1 w)) s.now with
      saved := (moved g).ctx, savedCount := (moved g).icount, stamp := s.now }) := by
  change execSpnWait i s = _
  exact State.spn_saves (g' := (moved g).waitsFor (bits 3 0 w) (g.ctx.getX (sSrc1 w)) s.now) h
    (congrFun (if_neg (Nat.not_le.mpr short)) s) rfl (by simp [Grain.waitsFor]) live rfl rfl

theorem exec_spnWait_stopped (stop : j.stop.isSome = true) : exec (.spnWait i) s =
    .next (((g.unit j).ends s).endGrain ((moved g).waitsFor (bits 3 0 w) (g.ctx.getX (sSrc1 w)) s.now)) := by
  change execSpnWait i s = _
  exact State.spn_stops_of_job (g' := (moved g).waitsFor (bits 3 0 w) (g.ctx.getX (sSrc1 w)) s.now) h
    (congrFun (if_neg (Nat.not_le.mpr short)) s) rfl (by simp [Grain.waitsFor]) stop

end

end

end

section
variable {s : State} {k n d : Nat} {c : Status} {o : Op} {g : Grain} {j : Job}

/-! The fault of a job's last grain. -/

theorem State.job_modJob {f : Job → Job} (there : s.job k = some j) (keeps : ∀ x, (f x).id = x.id) :
    (s.modJob k f).job k = some (f j) := by
  have id : j.id = k := by simpa using List.find?_some there
  rw [State.job, State.modJob]
  dsimp only
  rw [find?_mapIf (fun x => by rw [keeps]), ← State.job, there]
  simp [id]

theorem Job.stopFor_id (c : Status) (d : Nat) (j : Job) : (j.stopFor c d).id = j.id := by
  unfold Job.stopFor
  split <;> rfl

theorem Job.stopFor_stop (live : j.stop = none) : (j.stopFor c d).stop = some (c, d) := by
  rw [Job.stopFor, if_neg (by simp [live])]

theorem Job.stopFor_stopped (stop : j.stop = some (c, d)) (e : Status) (m : Nat) : (j.stopFor e m).stop = some (c, d) := by
  rw [Job.stopFor, if_pos (by simp [stop]), stop]

/-- A stopped job without grains ends its operation as it stopped. -/
theorem State.op_jobSettle_stopped (job : s.job k = some j) (none : ∀ x ∈ s.grains, x.job ≠ k) (op : s.op k = some o)
    (stop : j.stop = some (c, d)) (live : o.done = .none) : (s.jobSettle k).op k = some { o with done := some c, detail := d } := by
  have id : o.id = k := by simpa using List.find?_some op
  rw [State.jobSettle, job]
  dsimp only
  rw [if_neg (by simpa using none), if_neg (by simp [op]), stop]
  dsimp only
  rw [← id]
  exact State.op_failOp (id ▸ op) live

/-- An operation whose status is decided keeps it. -/
theorem State.op_failOp_done {m i : Nat} (op : s.op i = some o) (done : o.done.isSome = true) : (s.failOp m c d).op i = some o := by
  rw [State.op, State.failOp, State.modOp]
  dsimp only
  rw [find?_mapIf (fun x => by split <;> rfl), ← State.op, op]
  simp [done]

theorem State.op_jobSettle_done {m i : Nat} (op : s.op i = some o) (done : o.done.isSome = true) : (s.jobSettle m).op i = some o := by
  rw [State.jobSettle]
  split
  · exact op
  · split
    · exact op
    · split
      · rw [State.op, (State.freeJob_only m (Inside.refl _) (Only.refl _ s)).ops rfl]
        exact op
      · split
        · exact State.op_failOp_done op done
        · split
          · exact State.op_failOp_done op done
          · exact op

theorem State.grains_jobSettle (m : Nat) (s : State) : (s.jobSettle m).grains = s.grains :=
  (State.jobSettle_only m (Inside.refl _) (Only.refl _ s)).grains rfl

theorem State.grains_dropIdle (m : Nat) (s : State) : (s.dropIdle m).grains ⊆ s.grains := by
  rw [State.dropIdle]
  refine forAll_keeps (P := fun t : State => t.grains ⊆ s.grains) _ (fun g _ t h => ?_) (fun x mem => (List.mem_filter.mp mem).1)
  rw [(State.farDrop_only _ (Inside.refl _) (Only.refl _ t)).grains rfl]
  exact h

theorem State.ops_dropIdle (m : Nat) (s : State) : (s.dropIdle m).ops = s.ops :=
  (State.dropIdle_only m (Inside.refl _) (Only.refl _ s)).ops rfl

theorem State.grains_stopJob (m : Nat) (s : State) : (s.stopJob m c d).grains ⊆ s.grains := by
  rw [State.stopJob, State.grains_jobSettle]
  exact State.grains_dropIdle m _

theorem State.op_stopJob_done {m i : Nat} (op : s.op i = some o) (done : o.done.isSome = true) : (s.stopJob m c d).op i = some o := by
  rw [State.stopJob]
  refine State.op_jobSettle_done ?_ done
  rw [State.op, State.ops_dropIdle]
  exact op

theorem State.grains_endGrain (g : Grain) (s : State) : (s.endGrain g).grains = s.grains.filter (fun x => x.id ≠ g.id) := by
  rw [State.endGrain, State.grains_jobSettle]
  rfl

/-- The last grain of a stopped job ends its operation. -/
theorem State.op_endGrain_last (job : s.job g.job = some j) (stop : j.stop = some (c, d)) (op : s.op g.job = some o)
    (live : o.done = none) (last : ∀ x ∈ s.grains, x.job = g.job → x.id = g.id) :
    (s.endGrain g).op g.job = some { o with done := some c, detail := d } := by
  rw [State.endGrain]
  refine State.op_jobSettle_stopped (State.job_modJob job fun x => ?_) (fun x mem is => ?_) op ?_ live
  · dsimp only
    split
    · exact Job.stopFor_id ..
    · rfl
  · obtain ⟨there, other⟩ := List.mem_filter.mp mem
    exact absurd (last x there is) (by simpa using other)
  · dsimp only
    split
    · exact (Job.stopFor_stopped (j := { j with ended := j.ended + 1 }) stop _ _)
    · exact stop

section
variable {code pc : Nat} (job : s.job g.job = some j) (id : j.id = g.job)
include job id

theorem State.op_faultGrain_last (stop : j.stop = none) (op : s.op j.id = some o) (live : o.done = none)
    (last : ∀ x ∈ s.grains, x.job = j.id → x.id = g.id) :
    (s.faultGrain g code pc c).op j.id = some { o with done := some c, detail := faultDetail code g.index } := by
  have only := State.tndFault_only j.tenant code pc g.index g.core c (Inside.refl _) (Only.refl _ s)
  rw [State.faultGrain, job]
  dsimp only
  rw [id] at op last ⊢
  refine State.op_stopJob_done (State.op_endGrain_last (j := j.stopFor c (faultDetail code g.index)) (State.job_modJob ?_ (Job.stopFor_id _ _))
    (Job.stopFor_stop stop) ?_ live ?_) rfl
  · rw [State.job, only.jobs rfl]
    exact job
  · change State.op g.job (s.tndFault j.tenant code pc g.index g.core c) = _
    rw [State.op, only.ops rfl]
    exact op
  · change ∀ x ∈ (s.tndFault j.tenant code pc g.index g.core c).grains, _
    rw [only.grains rfl]
    exact last

omit id in
theorem State.grains_faultGrain (x : Grain) (mem : x ∈ (s.faultGrain g code pc c).grains) : x.id ≠ g.id := by
  rw [State.faultGrain, job] at mem
  have left := State.grains_stopJob _ _ mem
  rw [State.grains_endGrain] at left
  simpa using (List.mem_filter.mp left).2

end

end

/-- Settles O49: each instruction by the outcome of its work (`State.spn_saves`, `State.spn_stops_of_job`, `State.spn_ends`), and
the last grain's fault by the end of its job. -/
theorem systemInstructionsAndFaultsAct : Obligations.SystemInstructionsAndFaultsAct := by
  refine ⟨fun i w g j s h => ⟨exec_spnYield_saves h, exec_spnYield_stopped h⟩,
    fun i w g j s => ⟨exec_spnFence, exec_spnExit, exec_spnTrap⟩,
    fun i w g j s h => ⟨exec_spnWait_reached h, fun x is short => ?wait⟩,
    fun i w g j s => exec_spnSignal, fun i w g j s => exec_spnMark,
    fun i g j c k s grain job cls => ?row,
    fun g j code pc c o s job id stop op live last =>
      ⟨⟨_, State.op_faultGrain_last job id stop op live last, rfl, rfl⟩, State.grains_faultGrain job⟩⟩
  case wait =>
    subst is
    exact ⟨exec_spnWait_saves h short, exec_spnWait_stopped h short⟩
  case row =>
    obtain ⟨f, row⟩ := exec_spn_runsAt (s := s) _ cls
    exact ⟨exec_spn_idle row grain job, exec_spn_noWord row grain job,
      fun w running word => exec_spn_otherClass row grain job running word,
      fun w running word => exec_spn_pastLimit row grain job running word⟩

end Sys2Proof.Machine


/-! Shared regions and the lines of their directory (R277, R278, R283, R285, R286, R290, R291, R293, R295, R297, R298). -/

namespace Sys2Proof.Machine

open Safety

section
variable {s : State} {v : W32} {r : Nat}

/-! Set-up of a region. -/

theorem Region.writeCfg_enabled {g : Region} (enabled : g.enabled = true) :
    g.writeCfg v = if bit 30 v then { g with cfgErr := false } else g := by
  unfold Region.writeCfg
  split <;> simp [enabled]

theorem Region.enabled_writeCfg (g : Region) (v : W32) : (g.writeCfg v).enabled = g.enabled := by
  unfold Region.writeCfg
  split <;> (dsimp only; split <;> rfl)

theorem exec_regionEnable_sets (idle : (s.region s.shrSel).enabled = false)
    (good : s.regionOk s.shrSel ((s.region s.shrSel).writeCfg v) = true) : exec (.regionEnable v) s =
    .next (s.setRegion s.shrSel { (s.region s.shrSel).writeCfg v with enabled := true, cur := 0, pins := [] }) := by
  change execRegionEnable v s = _
  simp only [execRegionEnable, Region.enabled_writeCfg, idle, good, Bool.false_eq_true, if_false, if_true]

theorem exec_regionEnable_bad (idle : (s.region s.shrSel).enabled = false)
    (bad : s.regionOk s.shrSel ((s.region s.shrSel).writeCfg v) = false) : exec (.regionEnable v) s =
    .next (s.setRegion s.shrSel { s.region s.shrSel with cfgErr := true }) := by
  change execRegionEnable v s = _
  rw [execRegionEnable]
  dsimp only
  rw [if_neg (by simp [Region.enabled_writeCfg, idle]), if_neg (by simp [bad])]
  rfl

theorem exec_regionEnable_enabled (enabled : (s.region s.shrSel).enabled = true) : exec (.regionEnable v) s =
    .next (s.setRegion s.shrSel (if bit 30 v then { s.region s.shrSel with cfgErr := false } else s.region s.shrSel)) := by
  change execRegionEnable v s = _
  rw [execRegionEnable]
  dsimp only
  rw [if_pos ((Region.enabled_writeCfg ..).trans enabled), Region.writeCfg_enabled enabled]

theorem exec_regionDisable_idle (idle : (s.region s.shrSel).enabled = false) : exec .regionDisable s = .next s := by
  change execRegionDisable s = _
  simp [execRegionDisable, idle]

theorem exec_regionDisable_clears (enabled : (s.region s.shrSel).enabled = true) (noPub : (s.region s.shrSel).pub = none)
    (unmapped : s.wtt.any (fun e => e.2.mapsRegion s.shrSel) = false) :
    exec .regionDisable s = .next (s.setRegion s.shrSel { s.region s.shrSel with enabled := false, pins := [] }) := by
  change execRegionDisable s = _
  simp only [execRegionDisable, enabled, noPub, unmapped, Option.isSome_none, Bool.not_true, Bool.or_self, Bool.false_eq_true, if_false]

theorem exec_regionDisable_held (enabled : (s.region s.shrSel).enabled = true)
    (held : (s.region s.shrSel).pub.isSome = true ∨ s.wtt.any (fun e => e.2.mapsRegion s.shrSel) = true) :
    exec .regionDisable s = .next (s.setRegion s.shrSel { s.region s.shrSel with cfgErr := true }) := by
  change execRegionDisable s = _
  rw [execRegionDisable]
  dsimp only
  rw [if_neg (by simp [enabled]), if_pos (by simpa using held)]

/-- What the update of one region leaves. -/
theorem State.setRegion_frame (r : Nat) (g : Region) (s : State) : (s.setRegion r g).region r = g ∧
    (∀ q, q ≠ r → (s.setRegion r g).region q = s.region q) ∧ s.setRegion r g = { s with shr := (s.setRegion r g).shr } :=
  ⟨State.region_setRegion r g, fun _ other => tget_tset_other _ _ _ other _, rfl⟩

end

section
variable {s : State} {n : Nat} {w : Walk}

/-! The end of a walk. -/

theorem exec_backInvalidateDone_none (nothing : s.shr.walks.find? (fun x => x.id = n) = none ∨ s.walkReady n = false) :
    exec (.backInvalidateDone n) s = .next s := by
  change execBackInvalidateDone n s = _
  rw [execBackInvalidateDone]
  obtain absent | waits := nothing
  · rw [absent]
  · split
    · rfl
    · rw [if_neg (by simp [waits])]

theorem exec_backInvalidateDone_ends (walk : s.shr.walks.find? (fun x => x.id = n) = some w) (ready : s.walkReady n = true) :
    exec (.backInvalidateDone n) s =
      .next (((s.modShr (fun h => { h with walks := h.walks.filter (fun x => x.id ≠ n) })).trimHeld w.plots).walkEnds w.why) := by
  change execBackInvalidateDone n s = _
  rw [execBackInvalidateDone, walk]
  exact if_pos ready

variable {op r t : Nat} {o : Op} {p : Pub}

section
variable (pending : (s.region r).pub = some p) (quiet : s.shr.resWait = [])
include pending quiet

theorem State.region_walkEnds_publish : (s.walkEnds (.publish op r)).region r = (s.region r).flipped p := by
  rw [State.walkEnds, State.flipRegion_quiet pending quiet]
  exact State.region_modRegion r (Region.flipped p) s

theorem State.op_walkEnds_publish (there : s.op p.op = some o) :
    (s.walkEnds (.publish op r)).op p.op = some { o with res := some p.ver } := by
  rw [State.walkEnds, State.flipRegion_quiet pending quiet]
  exact State.op_modOp (s := s.modRegion r (Region.flipped p)) there fun _ => rfl

end

theorem State.region_walkEnds_acquire (there : s.op op = some o) :
    (s.walkEnds (.acquire op r)).region r = ((s.region r).unpinned o.tenant).pinned o.tenant := by
  rw [State.walkEnds_acquire there, State.region_modOp, State.region_modRegion, State.region_modRegion]

theorem State.op_walkEnds_acquire (there : s.op op = some o) :
    (s.walkEnds (.acquire op r)).op op = some { o with res := some (s.region r).ver } := by
  have kept : ((s.modRegion r (Region.unpinned o.tenant)).modRegion r (Region.pinned o.tenant)).op op = some o := by
    rw [State.op_modRegion, State.op_modRegion, there]
  rw [State.walkEnds_acquire there, State.region_modRegion, State.region_modRegion]
  exact State.op_modOp kept fun _ => rfl

theorem State.region_walkEnds_release (there : s.op op = some o) :
    (s.walkEnds (.release op r)).region r = (s.region r).unpinned o.tenant := by
  rw [State.walkEnds_release there, State.region_modOp, State.region_modRegion]

theorem State.op_walkEnds_release (there : s.op op = some o) :
    (s.walkEnds (.release op r)).op op = some { o with done := some .ok } := by
  have kept : (s.modRegion r (Region.unpinned o.tenant)).op op = some o := by rw [State.op_modRegion, there]
  rw [State.walkEnds_release there]
  exact State.op_modOp kept fun _ => rfl

theorem State.wttOf_walkEnds_commit (walking : (s.wttOf t).pend = some .walking) :
    ((s.walkEnds (.commit t)).wttOf t).pend = some .clear ∧ ∀ u, u ≠ t → (s.walkEnds (.commit t)).wttOf u = s.wttOf u := by
  refine ⟨?_, fun u other => State.wttOf_modWtt_other _ other⟩
  rw [State.walkEnds, State.wttOf_modWtt]
  exact if_pos walking

theorem State.region_walkEnds_flr : (s.walkEnds (.flr t r)).region r = (s.region r).unpinned t :=
  State.region_modRegion r (Region.unpinned t) s

end

section
variable {s : State} {n : Snoop}

/-! Answers of snoops. -/

theorem exec_snoopResponse_none {i : Nat} (x : SnpRsp) (absent : s.shr.snoops.find? (fun x => x.id = i) = none) :
    exec (.snoopResponse i x) s = .next s := by
  change execSnoopResponse i x s = _
  rw [execSnoopResponse, absent]

theorem exec_snoopTimeout_none {i : Nat} (absent : s.shr.snoops.find? (fun x => x.id = i) = none) :
    exec (.snoopTimeout i) s = .next s := by
  change execSnoopTimeout i s = _
  rw [execSnoopTimeout, absent]

section
variable (sent : s.shr.snoops.find? (fun x => x.id = n.id) = some n)
include sent

theorem exec_snoopResponse_clean : exec (.snoopResponse n.id .clean) s = .next ((s.answered n).snoopDone n) := by
  change execSnoopResponse n.id .clean s = _
  rw [execSnoopResponse, sent]

theorem exec_snoopResponse_writeback (d : Line) (p : Bool) :
    exec (.snoopResponse n.id (.writeback d p)) s = .next (((s.writeBack n d p).answered n).snoopDone n) := by
  change execSnoopResponse n.id (.writeback d p) s = _
  rw [execSnoopResponse, sent]

theorem exec_snoopTimeout_sent :
    exec (.snoopTimeout n.id) s = .next (((s.lineFailure n.line n.tenant).answered n).snoopDone n) := by
  change execSnoopTimeout n.id s = _
  rw [execSnoopTimeout, sent]

end

end

section
variable {s : State} {l k t : Nat} {d : Dir}

/-! The directory. -/

theorem State.dirOf_setDir (l : Nat) (d : Dir) (s : State) : (s.setDir l d).dirOf l = some d := tfind_tput_same d l _

theorem State.dirOf_setDir_other (other : k ≠ l) (d : Dir) (s : State) : (s.setDir l d).dirOf k = s.dirOf k := tfind_tput_other d other _

theorem State.dirOf_delDir (l : Nat) (s : State) : (s.delDir l).dirOf l = none := tfind_tdel_same l _

theorem State.dirOf_delDir_other (other : k ≠ l) (s : State) : (s.delDir l).dirOf k = s.dirOf k := tfind_tdel_other other _

theorem State.dirOf_dropHolder (there : s.dirOf l = some d) (single : d.coarse = false) (live : d.st ≠ .orphaned)
    (holds : nmem t d.holders = true) :
    (s.dropHolder l t).dirOf l = if ndel t d.holders = [] then none else some { d with holders := ndel t d.holders } := by
  rw [State.dropHolder, there]
  dsimp only
  rw [if_neg (by simp [single, live, holds])]
  split
  · exact State.dirOf_delDir l s
  · exact State.dirOf_setDir l _ s

theorem State.dirOf_dropHolder_other (other : k ≠ l) (s : State) : (s.dropHolder l t).dirOf k = s.dirOf k := by
  rw [State.dropHolder]
  split
  · rfl
  · split
    · rfl
    · split
      · exact State.dirOf_delDir_other other s
      · exact State.dirOf_setDir_other other _ s

/-- The state without a snoop. -/
def State.unsnooped (n : Snoop) (s : State) : State := s.modShr (fun h => { h with snoops := h.snoops.filter (fun x => x.id ≠ n.id) })

variable {n : Snoop}

theorem State.answered_none (absent : s.dirOf n.line = none) : s.answered n = s.unsnooped n := by
  rw [State.answered]
  change (match s.dirOf n.line with
    | none => _
    | some d => _) = _
  rw [absent]
  rfl

section
variable (there : s.dirOf n.line = some d)
include there

theorem State.answered_of_dir : s.answered n = if d.st = .orphaned then s.unsnooped n
    else if n.inv then
      if d.coarse then
        match n.why with
        | .walk _ => s.unsnooped n
        | w => if (s.unsnooped n).shr.snoops.any (fun x => x.line = n.line && x.why = w) then s.unsnooped n else (s.unsnooped n).delDir n.line
      else (s.unsnooped n).dropHolder n.line n.tenant
    else if d.st = .owned then (s.unsnooped n).setDir n.line { d with st := .shared } else s.unsnooped n := by
  rw [State.answered]
  change (match s.dirOf n.line with
    | none => _
    | some d => _) = _
  rw [there]
  rfl

theorem State.dirOf_answered_orphaned (orphan : d.st = .orphaned) : (s.answered n).dirOf n.line = some d := by
  rw [State.answered_of_dir there, if_pos orphan]
  exact there

theorem State.dirOf_answered_owned (kept : n.inv = false) (owned : d.st = .owned) :
    (s.answered n).dirOf n.line = some { d with st := .shared } := by
  rw [State.answered_of_dir there, if_neg (by simp [owned]), if_neg (by simp [kept]), if_pos owned]
  exact State.dirOf_setDir ..

theorem State.dirOf_answered_kept (kept : n.inv = false) (notOwned : d.st ≠ .owned) : (s.answered n).dirOf n.line = some d := by
  have keeps : ¬n.inv = true := by simp [kept]
  rw [State.answered_of_dir there, if_neg keeps, if_neg notOwned, ite_self]
  exact there

theorem State.dirOf_answered_holder (inv : n.inv = true) (live : d.st ≠ .orphaned) (single : d.coarse = false)
    (holds : nmem n.tenant d.holders = true) : (s.answered n).dirOf n.line =
      if ndel n.tenant d.holders = [] then none else some { d with holders := ndel n.tenant d.holders } := by
  rw [State.answered_of_dir there, if_neg live, if_pos inv, if_neg (by simp [single])]
  exact State.dirOf_dropHolder there single live holds

theorem State.dirOf_answered_coarse (inv : n.inv = true) (live : d.st ≠ .orphaned) (coarse : d.coarse = true)
    (noWalk : ∀ k, n.why ≠ .walk k) (last : s.shr.snoops.any (fun x => x.id ≠ n.id && x.line = n.line && x.why = n.why) = false) :
    (s.answered n).dirOf n.line = none := by
  have none_ : (s.unsnooped n).shr.snoops.any (fun x => x.line = n.line && x.why = n.why) = false := by
    rw [State.unsnooped, State.modShr]
    dsimp only
    rw [List.any_filter]
    simpa only [Bool.and_assoc] using last
  rw [State.answered_of_dir there, if_neg live, if_pos inv, if_pos coarse]
  cases why : n.why with
  | walk k => exact absurd why (noWalk k)
  | _ =>
    dsimp only
    rw [← why, if_neg (by simp [none_])]
    exact State.dirOf_delDir ..

end

theorem State.dirOf_answered_other (other : l ≠ n.line) (s : State) : (s.answered n).dirOf l = s.dirOf l := by
  cases there : s.dirOf n.line with
  | none =>
    rw [State.answered_none there]
    rfl
  | some d =>
    rw [State.answered_of_dir there]
    split
    · rfl
    · split
      · split
        · split
          · rfl
          · split
            · rfl
            · exact State.dirOf_delDir_other other _
        · exact State.dirOf_dropHolder_other other _
      · split
        · exact State.dirOf_setDir_other other _ _
        · rfl

end

/-! What stays of the regions' part while its directory changes. -/

/-- The regions' part is kept but for its directory and the counts of orphans. -/
def ShrDir (s t : State) : Prop := t.shr = { s.shr with dir := t.shr.dir, orphaned := t.shr.orphaned }

namespace ShrDir

variable {s t u : State}

theorem refl (s : State) : ShrDir s s := rfl

theorem trans (h : ShrDir s t) (k : ShrDir t u) : ShrDir s u := by
  unfold ShrDir at h k ⊢
  rw [k, h]

theorem of_shr (h : t.shr = s.shr) : ShrDir s t := by
  unfold ShrDir
  rw [h]

theorem snoops (h : ShrDir s t) : t.shr.snoops = s.shr.snoops := by
  rw [h]

theorem sweeping (h : ShrDir s t) : t.shr.sweeping = s.shr.sweeping := by
  rw [h]

theorem relCmd (h : ShrDir s t) : t.shr.relCmd = s.shr.relCmd := by
  rw [h]

theorem region (h : ShrDir s t) (r : Nat) : t.region r = s.region r := by
  rw [State.region, h, State.region]

theorem forAll {α : Type} {f : α → State → State} (l : List α) (turn : ∀ a s, ShrDir s (f a s)) (s : State) :
    ShrDir s (Machine.forAll l f s) :=
  forAll_keeps (P := ShrDir s) l (fun a _ t h => h.trans (turn a t)) (refl s)

end ShrDir

section
variable {s : State} {l k t m : Nat} {d : Dir} {n : Snoop}

theorem shrDir_setDir (l : Nat) (d : Dir) (s : State) : ShrDir s (s.setDir l d) := rfl

theorem shrDir_delDir (l : Nat) (s : State) : ShrDir s (s.delDir l) := rfl

theorem shrDir_orphaned (f : Tab Nat → Tab Nat) (s : State) : ShrDir s (s.modShr (fun h => { h with orphaned := f h.orphaned })) := rfl

theorem shrDir_dropHolder (l t : Nat) (s : State) : ShrDir s (s.dropHolder l t) := by
  rw [State.dropHolder]
  split
  · exact .refl s
  · split
    · exact .refl s
    · split
      · exact shrDir_delDir l s
      · exact shrDir_setDir l _ s

/-- The poison of a line that an orphan would not fit leaves the regions' part. -/
theorem State.shr_poisoned (l : Nat) (s : State) :
    ((s.poisonLine l).cntStw (Reg.SHR_DSTAT + 4 * halfIdx (lineHome l)) 15 0 1).shr = s.shr :=
  (State.poisonLine_only l (Inside.refl _) (Only.refl _ s)).shr rfl

theorem shrDir_orphan (l : Nat) (d : Dir) (s : State) : ShrDir s (s.orphan l d) := by
  rw [State.orphan]
  split
  · exact shrDir_setDir l _ s
  · exact (shrDir_delDir l s).trans (.of_shr (State.shr_poisoned l _))

theorem shrDir_failHolding (l t : Nat) (s : State) : ShrDir s (s.failHolding l t) := by
  rw [State.failHolding]
  split
  · exact .refl s
  · split
    · exact shrDir_orphan l _ s
    · exact shrDir_dropHolder l t s

/-- The turn of a line's conversion for one holder. -/
def State.convertHolder (l t : Nat) (s : State) : State :=
  if (s.failHolding l t).isOrphan l then
    (s.failHolding l t).modShr (fun h => { h with orphaned := tset 0 t (tget 0 t h.orphaned + 1) h.orphaned })
  else s.failHolding l t

theorem shrDir_convertHolder (l t : Nat) (s : State) : ShrDir s (s.convertHolder l t) := by
  rw [State.convertHolder]
  split
  · exact (shrDir_failHolding l t s).trans (shrDir_orphaned (fun x => tset 0 t (tget 0 t x + 1) x) _)
  · exact shrDir_failHolding l t s

theorem State.convertLine_of_dir (there : s.dirOf l = some d) : s.convertLine l = if d.coarse || d.st = .orphaned then s
    else forAll (d.holders.filter (fun t => nmem t s.shr.sweeping)) (fun t s => s.convertHolder l t) s := by
  rw [State.convertLine, there]
  rfl

theorem shrDir_convertLine (l : Nat) (s : State) : ShrDir s (s.convertLine l) := by
  cases there : s.dirOf l with
  | none =>
    rw [State.convertLine, there]
    exact .refl s
  | some d =>
    rw [State.convertLine_of_dir there]
    split
    · exact .refl s
    · exact .forAll _ (shrDir_convertHolder l) s

theorem shrDir_answered (n : Snoop) (s : State) : ShrDir (s.unsnooped n) (s.answered n) := by
  cases there : s.dirOf n.line with
  | none =>
    rw [State.answered_none there]
    exact .refl _
  | some d =>
    rw [State.answered_of_dir there]
    split
    · exact .refl _
    · split
      · split
        · split
          · exact .refl _
          · split
            · exact .refl _
            · exact shrDir_delDir ..
        · exact shrDir_dropHolder ..
      · split
        · exact shrDir_setDir ..
        · exact .refl _

/-! Line failures. -/

section
variable (there : s.dirOf l = some d) (owned : d.st = .owned) (holds : nmem t d.holders = true)
  (room : ((s.setOf l).filter (fun e => e.2.st = .orphaned)).length < 12)
include there owned holds room

theorem State.failHolding_owned : s.failHolding l t = s.setDir l { d with st := .orphaned } := by
  rw [State.failHolding, there]
  dsimp only
  rw [if_pos (by simp [owned, holds]), State.orphan, if_pos room]

theorem State.dirOf_lineFailure_owned : (s.lineFailure l t).dirOf l = some { d with st := .orphaned } := by
  rw [State.lineFailure, State.failHolding_owned there owned holds room]
  exact State.dirOf_setDir ..

theorem State.stw_lineFailure_owned :
    (s.lineFailure l t).stw (Reg.SHR_TSTAT + 4 * t) = satField 15 0 1 (s.stw (Reg.SHR_TSTAT + 4 * t)) := by
  rw [State.lineFailure, State.failHolding_owned there owned holds room, State.stw_cntStw]
  rfl

end

/-! A tenant's holdings. -/

/-- Tenant m holds line k nowhere but in a COARSE entry or an orphan. -/
def Unheld (m k : Nat) (s : State) : Prop :=
  ∀ d, s.dirOf k = some d → d.coarse = false → d.st ≠ .orphaned → nmem m d.holders = false

theorem Unheld.of_dirOf {u : State} (h : Unheld m k s) (same : u.dirOf k = s.dirOf k) : Unheld m k u := by
  unfold Unheld
  rw [same]
  exact h

theorem Unheld.of_none (absent : s.dirOf k = none) : Unheld m k s := fun d there => by
  rw [absent] at there
  cases there

theorem Unheld.of_some (there : s.dirOf k = some d) (h : d.coarse = true ∨ d.st = .orphaned ∨ nmem m d.holders = false) : Unheld m k s := by
  intro e is single live
  obtain rfl : d = e := by simpa using there.symm.trans is
  obtain coarse | orphan | free := h
  · exact absurd coarse (by simp [single])
  · exact absurd orphan live
  · exact free

theorem unheld_dropHolder (m k : Nat) (s : State) : Unheld m k (s.dropHolder k m) := by
  cases there : s.dirOf k with
  | none =>
    rw [State.dropHolder, there]
    exact .of_none there
  | some d =>
    by_cases skip : (d.coarse || d.st = .orphaned || !nmem m d.holders) = true
    · rw [State.dropHolder, there]
      dsimp only
      rw [if_pos skip]
      exact .of_some there (by simpa [or_assoc] using skip)
    · rw [State.dropHolder, there]
      dsimp only
      rw [if_neg skip]
      split
      · exact .of_none (State.dirOf_delDir ..)
      · exact .of_some (State.dirOf_setDir ..) (.inr (.inr (by simp)))

theorem Unheld.dropHolder (h : Unheld m k s) (l t : Nat) : Unheld m k (s.dropHolder l t) := by
  by_cases same : k = l
  · subst same
    cases there : s.dirOf k with
    | none =>
      rw [State.dropHolder, there]
      exact h
    | some d =>
      rw [State.dropHolder, there]
      dsimp only
      split
      · exact h
      · split
        · exact .of_none (State.dirOf_delDir ..)
        · intro e is single live
          obtain rfl : { d with holders := ndel t d.holders } = e := by simpa using (State.dirOf_setDir ..).symm.trans is
          have free := h d there single live
          simp [free]
  · exact h.of_dirOf (State.dirOf_dropHolder_other same s)

theorem unheld_orphan (m l : Nat) (d : Dir) (s : State) : Unheld m l (s.orphan l d) := by
  rw [State.orphan]
  split
  · exact .of_some (State.dirOf_setDir ..) (.inr (.inl rfl))
  · refine .of_none ?_
    rw [State.dirOf, State.shr_poisoned]
    exact State.dirOf_delDir l s

theorem Unheld.orphan (h : Unheld m k s) (l : Nat) (d : Dir) : Unheld m k (s.orphan l d) := by
  by_cases same : k = l
  · subst same
    exact unheld_orphan m k d s
  · rw [State.orphan]
    split
    · exact h.of_dirOf (State.dirOf_setDir_other same _ s)
    · refine h.of_dirOf ?_
      rw [State.dirOf, State.shr_poisoned]
      exact State.dirOf_delDir_other same s

theorem unheld_failHolding (m k : Nat) (s : State) : Unheld m k (s.failHolding k m) := by
  cases there : s.dirOf k with
  | none =>
    rw [State.failHolding, there]
    exact .of_none there
  | some d =>
    rw [State.failHolding, there]
    dsimp only
    split
    · exact unheld_orphan m k d s
    · exact unheld_dropHolder m k s

theorem Unheld.failHolding (h : Unheld m k s) (l t : Nat) : Unheld m k (s.failHolding l t) := by
  rw [State.failHolding]
  split
  · exact h
  · split
    · exact h.orphan l _
    · exact h.dropHolder l t

theorem unheld_convertHolder (m k : Nat) (s : State) : Unheld m k (s.convertHolder k m) := by
  rw [State.convertHolder]
  split
  · exact (unheld_failHolding m k s).of_dirOf rfl
  · exact unheld_failHolding m k s

theorem Unheld.convertHolder (h : Unheld m k s) (l t : Nat) : Unheld m k (s.convertHolder l t) := by
  rw [State.convertHolder]
  split
  · exact (h.failHolding l t).of_dirOf rfl
  · exact h.failHolding l t

theorem unheld_convertLine (k : Nat) (swept : nmem m s.shr.sweeping = true) : Unheld m k (s.convertLine k) := by
  cases there : s.dirOf k with
  | none =>
    rw [State.convertLine, there]
    exact .of_none there
  | some d =>
    rw [State.convertLine_of_dir there]
    split
    next skip =>
      simp only [Bool.or_eq_true, decide_eq_true_eq] at skip
      exact .of_some there (skip.imp_right .inl)
    next skip =>
      by_cases holds : nmem m d.holders = true
      · have mem : m ∈ d.holders.filter (fun t => nmem t s.shr.sweeping) := List.mem_filter.mpr ⟨by simpa [nmem] using holds, swept⟩
        exact forAll_reaches mem (unheld_convertHolder m k) (fun t _ u h => h.convertHolder k t) s
      · refine forAll_keeps (P := Unheld m k) _ (fun t _ u h => h.convertHolder k t) (.of_some there (.inr (.inr ?_)))
        simpa using holds

theorem Unheld.convertLine (h : Unheld m k s) (l : Nat) : Unheld m k (s.convertLine l) := by
  rw [State.convertLine]
  split
  · exact h
  · split
    · exact h
    · exact forAll_keeps (P := Unheld m k) _ (fun t _ u hu => hu.convertHolder l t) h

end

section
variable {s : State} {t : Tenant} {m k : Nat}

/-! A tenant that failed. -/

theorem State.shr_withReady (f : State → State) (s : State) : (s.withReady f).shr = (f s).shr :=
  (Only.forAll (fun t _ h => State.raiseMsix_only t 2 (Inside.refl _) h) _ (Only.refl _ (f s))).shr rfl

theorem State.tier_withReady (f : State → State) (s : State) : (s.withReady f).tier = (f s).tier :=
  (Only.forAll (fun t _ h => State.raiseMsix_only t 2 (Inside.refl _) h) _ (Only.refl _ (f s))).tier rfl

/-- The regions without a tenant's pins. -/
def State.pinsDropped (m : Nat) (s : State) : State := forAll (s.shr.regions.map Prod.fst) (fun r s => s.dropPin m r) s

/-- The lines that a tenant owns are orphans, and it holds no other. -/
def State.heldDropped (m : Nat) (s : State) : State :=
  forAll (s.shr.dir.map Prod.fst) (fun l s => s.dropHolder l m) s

def State.ownedOrphaned (m : Nat) (s : State) : State :=
  forAll (s.shr.dir.filter (fun e => e.2.st = .owned && nmem m e.2.holders)) (fun e s => s.orphan e.1 e.2) s

/-- How many of the lines that a tenant owned are orphans. -/
def State.orphansOf (m : Nat) (s : State) : Nat :=
  ((s.shr.dir.filter (fun e => e.2.st = .owned && nmem m e.2.holders)).filter (fun e => (s.ownedOrphaned m).isOrphan e.1)).length

/-- A tenant's lines are swept. -/
def State.sweepFrom (m n : Nat) (s : State) : State :=
  s.modShr (fun h => { h with sweeping := nins m h.sweeping, orphaned := tset 0 m n h.orphaned })

/-- The state in which a tenant without snoops under way has failed, but for its messages. -/
def State.tenantFailed (m : Nat) (s : State) : State :=
  (((s.pinsDropped m).ownedOrphaned m).heldDropped m).sweepFrom m ((s.pinsDropped m).orphansOf m)

theorem State.region_dropPin (m r q : Nat) (s : State) :
    ((s.dropPin m r).region q) = if q = r then (s.region q).unpinned m else s.region q := by
  split
  next same =>
    subst same
    exact State.region_modRegion q (Region.unpinned m) s
  next other => exact State.region_modRegion_other _ other s

/-- A region's pins but those of a tenant. -/
theorem State.pins_dropPin (m r q : Nat) (s : State) :
    ((s.dropPin m r).region q).pins.filter (fun p => p.tenant ≠ m) = (s.region q).pins.filter (fun p => p.tenant ≠ m) := by
  rw [State.region_dropPin]
  split
  · rw [Region.unpinned, List.filter_filter]
    simp
  · rfl

theorem Region.pins_unpinned (m : Nat) (g : Region) : (g.unpinned m).pins = g.pins.filter (fun p => p.tenant ≠ m) := rfl

theorem State.region_absent {r : Nat} (absent : r ∉ s.shr.regions.map Prod.fst) : s.region r = {} :=
  tget_absent _ fun _ mem same => absent (same ▸ List.mem_map_of_mem mem)

/-- The state's pins on a region but those of a tenant. -/
def PinsBut (m q : Nat) (l : List Pin) (u : State) : Prop := (u.region q).pins.filter (fun p => p.tenant ≠ m) = l

theorem State.pins_pinsDropped (m q : Nat) (s : State) :
    ((s.pinsDropped m).region q).pins = (s.region q).pins.filter (fun p => p.tenant ≠ m) := by
  by_cases listed : q ∈ s.shr.regions.map Prod.fst
  · refine forAll_reaches_of (I := PinsBut m q ((s.region q).pins.filter (fun p => p.tenant ≠ m)))
      (P := fun u => (u.region q).pins = (s.region q).pins.filter (fun p => p.tenant ≠ m)) listed
      (fun r _ u kept => (State.pins_dropPin m r q u).trans kept) (fun u kept => ?_) (fun r _ u _ is => ?_) rfl
    · rw [State.region_dropPin, if_pos rfl]
      exact kept
    · rw [State.region_dropPin]
      split
      · rw [Region.pins_unpinned, is, List.filter_filter]
        simp
      · exact is
  · have none_ : (s.region q).pins = [] := by rw [State.region_absent listed]
    rw [none_]
    refine forAll_keeps (P := fun u : State => (u.region q).pins = []) _ (fun r _ u is => ?_) none_
    rw [State.region_dropPin]
    split
    · rw [Region.pins_unpinned, is]
      rfl
    · exact is

/-- What dropping pins leaves of the regions' part. -/
theorem State.shr_pinsDropped (m : Nat) (s : State) : (s.pinsDropped m).shr = { s.shr with regions := (s.pinsDropped m).shr.regions } :=
  forAll_keeps (P := fun u : State => u.shr = { s.shr with regions := u.shr.regions }) _
    (fun r _ u h => by
      rw [State.dropPin, State.modRegion, State.setRegion, State.modShr]
      dsimp only
      rw [h]) rfl

theorem shrDir_ownedOrphaned (m : Nat) (s : State) : ShrDir s (s.ownedOrphaned m) := by
  rw [State.ownedOrphaned]
  exact ShrDir.forAll (f := fun (e : Nat × Dir) s => State.orphan e.1 e.2 s) _ (fun e s => shrDir_orphan e.1 e.2 s) s

theorem shrDir_heldDropped (m : Nat) (s : State) : ShrDir s (s.heldDropped m) := by
  rw [State.heldDropped]
  exact ShrDir.forAll (f := fun l s => State.dropHolder l m s) _ (fun l s => shrDir_dropHolder l m s) s

theorem shrDir_lines (m : Nat) (s : State) : ShrDir s ((s.ownedOrphaned m).heldDropped m) :=
  (shrDir_ownedOrphaned m s).trans (shrDir_heldDropped m _)

theorem State.tfind_listed {α : Type} {k : Nat} {tab : Tab α} {a : α} (there : tfind k tab = some a) : (k, a) ∈ tab := by
  induction tab with
  | nil => cases there
  | cons e r ih =>
    obtain ⟨j, b⟩ := e
    rw [tfind] at there
    split at there
    next same =>
      obtain rfl : b = a := by simpa using there
      exact same ▸ List.mem_cons_self
    next => exact List.mem_cons_of_mem _ (ih there)

theorem unheld_heldDropped (m k : Nat) (s : State) : Unheld m k (s.heldDropped m) := by
  by_cases listed : k ∈ s.shr.dir.map Prod.fst
  · exact forAll_reaches listed (unheld_dropHolder m k) (fun l _ u h => h.dropHolder l m) s
  · refine forAll_keeps (P := Unheld m k) _ (fun l _ u h => h.dropHolder l m) (.of_none ?_)
    cases there : s.dirOf k with
    | none => rfl
    | some d => exact absurd (List.mem_map_of_mem (State.tfind_listed there)) listed

section
variable (quiet : s.shr.snoops = [])
include quiet

theorem State.failTenant_eq (m : Nat) : s.failTenant m = s.withReady (State.tenantFailed m) := by
  have snoops : (s.tenantFailed m).shr.snoops = [] := by
    change ((((s.pinsDropped m).ownedOrphaned m).heldDropped m).shr.snoops) = []
    rw [(shrDir_lines m _).snoops, State.shr_pinsDropped, quiet]
  rw [State.failTenant, State.withReady, State.withReady]
  have same : forAll ((s.tenantFailed m).shr.snoops.filter (fun x => x.tenant = m)) (fun x s => (s.answered x).snoopDone x) (s.tenantFailed m) =
      s.tenantFailed m := by
    rw [snoops]
    rfl
  dsimp only
  rw [← same]
  rfl

theorem State.shr_failTenant (m : Nat) : (s.failTenant m).shr = (s.tenantFailed m).shr := by
  rw [State.failTenant_eq quiet, State.shr_withReady]

theorem unheld_failTenant (m k : Nat) : Unheld m k (s.failTenant m) := by
  have held : Unheld m k (s.tenantFailed m) := (unheld_heldDropped m k _).of_dirOf rfl
  refine held.of_dirOf ?_
  rw [State.dirOf, State.shr_failTenant quiet, State.dirOf]

theorem State.region_failTenant (m q : Nat) : (s.failTenant m).region q = (s.pinsDropped m).region q := by
  rw [State.region, State.shr_failTenant quiet]
  exact (shrDir_lines m (s.pinsDropped m)).region q

theorem State.swept_failTenant (m : Nat) : nmem m (s.failTenant m).shr.sweeping = true := by
  have swept : (s.tenantFailed m).shr.sweeping = nins m (((s.pinsDropped m).ownedOrphaned m).heldDropped m).shr.sweeping := rfl
  rw [State.shr_failTenant quiet, swept]
  simp

theorem State.relCmd_failTenant (m : Nat) : (s.failTenant m).shr.relCmd = s.shr.relCmd := by
  have kept : (s.tenantFailed m).shr.relCmd = (((s.pinsDropped m).ownedOrphaned m).heldDropped m).shr.relCmd := rfl
  rw [State.shr_failTenant quiet, kept, (shrDir_lines m _).relCmd, State.shr_pinsDropped]

end

/-! Commands on regions. -/

section
variable {bad : Bool} {f : State → State}

theorem State.shrCmd_conflict (conflict : s.conflict = true) : s.shrCmd bad f = s.shrStatus .stewardConflict := if_pos conflict

theorem State.shrCmd_busy (calm : s.conflict = false) (busy : s.shr.relCmd.isSome = true) : s.shrCmd bad f = s.shrStatus .slotBusy :=
  (if_neg (by simp [calm])).trans (if_pos busy)

theorem State.shrCmd_bad (calm : s.conflict = false) (idle : s.shr.relCmd = none) : s.shrCmd true f = s.shrStatus .badDescriptor :=
  (if_neg (by simp [calm])).trans ((if_neg (by simp [idle])).trans (if_pos rfl))

theorem State.shrCmd_runs (calm : s.conflict = false) (idle : s.shr.relCmd = none) : s.shrCmd false f = (f s).shrStatus .ok :=
  (if_neg (by simp [calm])).trans ((if_neg (by simp [idle])).trans (if_neg (by simp)))

end

/-- A command of SHR_CMD is refused in a conflict, and while one runs. -/
theorem exec_shrCmd_refused {c : Instr} {bad : Bool} {f : State → State} (row : exec c s = .next (s.shrCmd bad f)) :
    (s.conflict = true → exec c s = .next (s.shrStatus .stewardConflict)) ∧
    (s.conflict = false → s.shr.relCmd.isSome = true → exec c s = .next (s.shrStatus .slotBusy)) :=
  ⟨fun conflict => by rw [row, State.shrCmd_conflict conflict], fun calm busy => by rw [row, State.shrCmd_busy calm busy]⟩

theorem exec_releaseRegionOrphans_eq (r : RegionId) (s : State) : exec (.releaseRegionOrphans r) s = execReleaseRegionOrphans r s := rfl

theorem exec_releaseCapacity_eq (r : RegionId) (t : Tenant) (s : State) : exec (.releaseCapacity r t) s = execReleaseCapacity r t s := rfl

theorem exec_releaseTenantOrphans_eq (t : Tenant) (s : State) : exec (.releaseTenantOrphans t) s = execReleaseTenantOrphans t s := rfl

theorem exec_shrFailTenant_eq (t : Tenant) (s : State) : exec (.shrFailTenant t) s = execShrFailTenant t s := rfl

theorem exec_biconflict (t : Tenant) (l : BitVec 46) (s : State) :
    exec (.biconflict t l) s = .next (s.emit (.biConflictAck t.toNat l.toNat)) := by
  change execBiconflict t l s = _
  rw [execBiconflict]

theorem exec_addDynamicCapacityResponse (t : Tenant) (s : State) : exec (.addDynamicCapacityResponse t) s = .next s := by
  change execAddDynamicCapacityResponse t s = _
  rw [execAddDynamicCapacityResponse]

theorem State.shr_setStw (off : Nat) (v : W32) (s : State) : (s.setStw off v).shr = s.shr := rfl

theorem State.shr_shrStatus (c : Status) (s : State) : (s.shrStatus c).shr = s.shr := State.shr_setStw ..

theorem State.region_shrStatus (c : Status) (r : Nat) (s : State) : (s.shrStatus c).region r = s.region r := by
  rw [State.region, State.shr_shrStatus, State.region]

theorem State.stw_shrStatus_ok_idle (idle : s.shr.relCmd = none) : (s.shrStatus .ok).stw Reg.SHR_CSTAT = 0#32 := by
  rw [State.shrStatus, State.stw_setStw, idle]
  rfl

theorem State.stw_shrStatus_ok_busy (busy : s.shr.relCmd.isSome = true) : (s.shrStatus .ok).stw Reg.SHR_CSTAT = 0x80000000#32 := by
  rw [State.shrStatus, State.stw_setStw, busy]
  rfl

section
variable (calm : s.conflict = false) (idle : s.shr.relCmd = none)
include calm idle

theorem exec_shrFailTenant : exec (.shrFailTenant t) s = .next ((s.failTenant t.toNat).shrStatus .ok) :=
  congrArg Host.Outcome.next (State.shrCmd_runs calm idle)

theorem exec_releaseRegionOrphans {r : RegionId} (enabled : (s.region r.toNat).enabled = true) : exec (.releaseRegionOrphans r) s =
    .next ((s.modShr (fun h => { h with relCmd := some (true, r.toNat) })).shrStatus .ok) := by
  change execReleaseRegionOrphans r s = _
  rw [execReleaseRegionOrphans, enabled]
  exact congrArg Host.Outcome.next (State.shrCmd_runs calm idle)

theorem exec_releaseTenantOrphans : exec (.releaseTenantOrphans t) s =
    .next ((s.modShr (fun h => { h with relCmd := some (false, t.toNat) })).shrStatus .ok) :=
  congrArg Host.Outcome.next (State.shrCmd_runs calm idle)

end

section
variable {r : RegionId} (calm : s.conflict = false) (idle : s.shr.relCmd = none) (disabled : (s.region r.toNat).enabled = false)
include calm idle disabled

theorem exec_releaseRegionOrphans_disabled : exec (.releaseRegionOrphans r) s = .next (s.shrStatus .badDescriptor) := by
  change execReleaseRegionOrphans r s = _
  rw [execReleaseRegionOrphans, disabled, Bool.not_false, State.shrCmd_bad calm idle]

theorem exec_releaseCapacity_disabled : exec (.releaseCapacity r t) s = .next (s.shrStatus .badDescriptor) := by
  change execReleaseCapacity r t s = _
  rw [execReleaseCapacity, disabled, Bool.not_false, State.shrCmd_bad calm idle]

end

/-- What a background release leaves when it begins. -/
theorem State.relCmd_frame (c : Bool × Nat) (s : State) : ((s.modShr (fun h => { h with relCmd := some c })).shrStatus .ok).stw Reg.SHR_CSTAT =
      0x80000000#32 ∧ (s.modShr (fun h => { h with relCmd := some c })).shrStatus .ok =
      { s with reg := ((s.modShr (fun h => { h with relCmd := some c })).shrStatus .ok).reg, shr := { s.shr with relCmd := some c } } :=
  ⟨State.stw_shrStatus_ok_busy rfl, rfl⟩

end

section
variable {s : State} {t : Tenant} {m k : Nat}

/-! The end of a sweep. -/

/-- The lines that a tenant's sweep converts. -/
def State.sweptLines (m : Nat) (s : State) : List Nat :=
  (s.shr.dir.filter (fun e => !e.2.coarse && e.2.st ≠ .orphaned && nmem m e.2.holders)).map Prod.fst

def State.linesConverted (m : Nat) (s : State) : State := forAll (s.sweptLines m) (fun l s => s.convertLine l) s

/-- The sweep of a tenant is over. -/
def Shr.unswept (m : Nat) (h : Shr) : Shr := { h with sweeping := ndel m h.sweeping, orphaned := tdel m h.orphaned }

/-- The state whose sweep of a tenant is over. -/
def State.sweepEnded (m : Nat) (s : State) : State :=
  ((s.linesConverted m).withReady (fun s => s.modShr (Shr.unswept m))).logRec
    { typ := 0x0D, sev := 1, tenant := some m, aux0 := tget 0 m (s.linesConverted m).shr.orphaned }

theorem exec_failureSweepEnd_none (unswept : nmem t.toNat s.shr.sweeping = false) : exec (.failureSweepEnd t) s = .next s := by
  change execFailureSweepEnd t s = _
  exact if_neg (by simp [unswept])

theorem exec_failureSweepEnd_swept (swept : nmem t.toNat s.shr.sweeping = true) :
    exec (.failureSweepEnd t) s = .next (s.sweepEnded t.toNat) := by
  change execFailureSweepEnd t s = _
  exact if_pos swept

theorem State.shr_sweepEnded (m : Nat) (s : State) : (s.sweepEnded m).shr = (s.linesConverted m).shr.unswept m := by
  rw [State.sweepEnded, (State.logRec_only _ (Inside.refl _) (Only.refl _ _)).shr rfl, State.shr_withReady]
  rfl

theorem State.tier_sweepEnded (m : Nat) (s : State) : (s.sweepEnded m).tier = (s.linesConverted m).tier := by
  rw [State.sweepEnded, (State.logRec_only _ (Inside.refl _) (Only.refl _ _)).tier rfl, State.tier_withReady]
  rfl

theorem shrDir_linesConverted (m : Nat) (s : State) : ShrDir s (s.linesConverted m) := by
  rw [State.linesConverted]
  exact ShrDir.forAll (f := fun l s => State.convertLine l s) _ shrDir_convertLine s

theorem State.sweeping_sweepEnded (m : Nat) (s : State) : (s.sweepEnded m).shr.sweeping = ndel m s.shr.sweeping := by
  rw [State.shr_sweepEnded, Shr.unswept, (shrDir_linesConverted m s).sweeping]

theorem unheld_linesConverted (k : Nat) (swept : nmem m s.shr.sweeping = true) : Unheld m k (s.linesConverted m) := by
  by_cases listed : k ∈ s.sweptLines m
  · refine forAll_reaches_of (I := ShrDir s) listed (fun l _ u h => h.trans (shrDir_convertLine l u)) (fun u h => ?_)
      (fun l _ u _ h => h.convertLine l) (ShrDir.refl s)
    exact unheld_convertLine k (h.sweeping ▸ swept)
  · refine forAll_keeps (P := Unheld m k) _ (fun l _ u h => h.convertLine l) fun d there single live => ?_
    refine Bool.eq_false_iff.mpr fun holds => listed (List.mem_map.mpr ⟨(k, d), List.mem_filter.mpr ⟨State.tfind_listed there, ?_⟩, rfl⟩)
    simp only [single, live, holds, ne_eq, not_false_eq_true, decide_true, Bool.not_false, Bool.and_self]

theorem unheld_sweepEnded (k : Nat) (swept : nmem m s.shr.sweeping = true) : Unheld m k (s.sweepEnded m) := by
  refine (unheld_linesConverted k swept).of_dirOf ?_
  rw [State.dirOf, State.shr_sweepEnded]
  rfl

/-- A sweep that finds no line of its tenant converts none. -/
theorem State.linesConverted_none (free : s.shr.dir.all (fun e => e.2.coarse || e.2.st = .orphaned || !nmem m e.2.holders) = true) :
    s.linesConverted m = s := by
  have nothing : s.shr.dir.filter (fun e => !e.2.coarse && e.2.st ≠ .orphaned && nmem m e.2.holders) = [] := by
    refine List.filter_eq_nil_iff.mpr fun e mem => ?_
    have := List.all_eq_true.mp free e mem
    simp only [Bool.or_eq_true, decide_eq_true_eq, Bool.not_eq_true'] at this
    obtain (coarse | orphan) | other := this
    · simp [coarse]
    · simp [orphan]
    · rw [other, Bool.and_false]
      exact Bool.false_ne_true
  rw [State.linesConverted, State.sweptLines, nothing]
  rfl

/-! Dynamic capacity. -/

/-- A capacity record changes what records change. -/
theorem State.reports_capacity (t std : Nat) (l : List (Nat × Nat × Nat)) (s : State) (u : Nat) :
    ((s.capacity t std l).ld u).apartFromReports = (s.ld u).apartFromReports :=
  forAll_keeps (P := fun v : State => (v.ld u).apartFromReports = (s.ld u).apartFromReports) l
    (fun _ _ _ h => (State.reports_tenantLog ..).trans h) rfl

theorem State.capacity_frame (t std : Nat) (l : List (Nat × Nat × Nat)) (s : State) :
    s.capacity t std l = { s with lds := (s.capacity t std l).lds, tags := (s.capacity t std l).tags,
                                  eng := (s.capacity t std l).eng, out := (s.capacity t std l).out } :=
  (State.capacity_only t std l (Inside.refl _) (Only.refl _ s)).eq

/-- Extents that a logical device's host has still to release. -/
def Ld.releasing (l : List Nat) (x : Ld) : Ld := if l = [] then x else { x with dcToRelease := x.dcToRelease ++ l, relAck := false }

/-- The records of a release and the extents that wait for it. -/
def State.capacityLeaving (t r : Nat) (l : List Nat) (s : State) : State :=
  let n := s.capacity t 5 (l.map (fun a => (a, 2 ^ cfgSeg (s.wttOf t).cfg, r)))
  if l = [] then n else n.modLd t (fun x => { x with dcToRelease := x.dcToRelease ++ l, relAck := false })

theorem State.capacityLeaving_frame (t r : Nat) (l : List Nat) (s : State) :
    s.capacityLeaving t r l = { s with lds := (s.capacityLeaving t r l).lds, tags := (s.capacityLeaving t r l).tags,
                                       eng := (s.capacityLeaving t r l).eng, out := (s.capacityLeaving t r l).out } := by
  unfold State.capacityLeaving
  dsimp only
  split
  · exact State.capacity_frame ..
  · rw [State.modLd, State.setLd]
    dsimp only
    rw [State.capacity_frame]

theorem State.reports_capacityLeaving (t r : Nat) (l : List Nat) (s : State) :
    ((s.capacityLeaving t r l).ld t).apartFromReports = ((s.ld t).releasing l).apartFromReports := by
  unfold State.capacityLeaving Ld.releasing
  dsimp only
  split
  · exact State.reports_capacity ..
  · rw [State.ld_modLd]
    have same := State.reports_capacity t 5 (l.map (fun a => (a, 2 ^ cfgSeg (s.wttOf t).cfg, r))) s t
    have waits := congrArg Ld.dcToRelease same
    rw [Ld.apartFromReports, Ld.apartFromReports] at same waits ⊢
    dsimp only at same waits ⊢
    simp only [Ld.mk.injEq] at same ⊢
    rw [waits]
    simp only [same, and_self]

theorem exec_releaseCapacity_enabled {r : RegionId} {l : List Nat} (calm : s.conflict = false) (idle : s.shr.relCmd = none)
    (enabled : (s.region r.toNat).enabled = true) (hl : l = ((s.wttOf t.toNat).shared.filter (fun e => e.2.region = r.toNat)).map
      (fun e => e.1 * 2 ^ cfgSeg (s.wttOf t.toNat).cfg)) :
    exec (.releaseCapacity r t) s = .next ((s.capacityLeaving t.toNat r.toNat l).shrStatus .ok) := by
  subst hl
  change execReleaseCapacity r t s = _
  rw [execReleaseCapacity, enabled, Bool.not_true, State.shrCmd_runs calm idle, State.capacityLeaving]

theorem State.shrStatus_frame (c : Status) (s : State) : s.shrStatus c = { s with reg := (s.shrStatus c).reg } := rfl

theorem State.ld_setStw (off : Nat) (v : W32) (u : Nat) (s : State) : (s.setStw off v).ld u = s.ld u := rfl

theorem State.ld_shrStatus (c : Status) (u : Nat) (s : State) : (s.shrStatus c).ld u = s.ld u := State.ld_setStw ..

end

section
variable {s : State} {t : Tenant}

/-- A logical device without an extent that waits for its release. -/
def Ld.released (a : Nat) (x : Ld) : Ld :=
  { x with dcToRelease := x.dcToRelease.filter (fun b => b ≠ a), relAck := x.relAck || decide (x.dcToRelease.filter (fun b => b ≠ a) = []) }

theorem exec_releaseDynamicCapacity (t : Tenant) (a : W64) (s : State) :
    exec (.releaseDynamicCapacity t a) s = .next (s.modLd t.toNat (Ld.released a.toNat)) := by
  change execReleaseDynamicCapacity t a s = _
  rw [execReleaseDynamicCapacity]
  rfl

/-- What a Release Capacity leaves. -/
theorem State.capacityLeft (n r : Nat) (l : List Nat) (idle : s.shr.relCmd = none) :
    ((s.capacityLeaving n r l).shrStatus .ok).stw Reg.SHR_CSTAT = 0#32 ∧
    (((s.capacityLeaving n r l).shrStatus .ok).ld n).dcToRelease = (s.ld n).dcToRelease ++ l ∧
    (((s.capacityLeaving n r l).shrStatus .ok).ld n).relAck = (if l = [] then (s.ld n).relAck else false) ∧
    (s.capacityLeaving n r l).shrStatus .ok = { s with
      reg := ((s.capacityLeaving n r l).shrStatus .ok).reg, lds := ((s.capacityLeaving n r l).shrStatus .ok).lds,
      tags := ((s.capacityLeaving n r l).shrStatus .ok).tags, eng := ((s.capacityLeaving n r l).shrStatus .ok).eng,
      out := ((s.capacityLeaving n r l).shrStatus .ok).out } := by
  have same := State.reports_capacityLeaving n r l s
  have waits := congrArg Ld.dcToRelease same
  have acked := congrArg Ld.relAck same
  refine ⟨State.stw_shrStatus_ok_idle ?_, ?_, ?_, ?_⟩
  · rw [State.capacityLeaving_frame]
    exact idle
  · rw [State.ld_shrStatus]
    refine waits.trans ?_
    unfold Ld.releasing
    split
    next none_ => exact (by rw [none_, List.append_nil] : (s.ld n).dcToRelease = (s.ld n).dcToRelease ++ l)
    next => rfl
  · rw [State.ld_shrStatus]
    refine acked.trans ?_
    unfold Ld.releasing
    split <;> rfl
  · rw [State.shrStatus_frame, State.capacityLeaving_frame]

end

/-- Settles O50: a walk, an answer and a failure by what they do to one line's entry (`Unheld` for a tenant's holdings), a command
of SHR_CMD by its checks in their order (`State.shrCmd_runs`). -/
theorem sharedRegionsAndTheirLines : Obligations.SharedRegionsAndTheirLines := by
  refine ⟨fun v g s is => ?enable, fun s enabled => ⟨fun noPub unmapped => ⟨_, exec_regionDisable_clears enabled noPub unmapped,
      State.setRegion_frame ..⟩, fun held => ⟨_, exec_regionDisable_held enabled held, State.setRegion_frame ..⟩⟩,
    fun s => exec_regionDisable_idle, fun n s => ⟨exec_backInvalidateDone_none, fun w => exec_backInvalidateDone_ends⟩,
    fun op r p s pending quiet => ⟨State.region_walkEnds_publish pending quiet, fun o => State.op_walkEnds_publish pending quiet⟩,
    fun op r o s there => ?pins, fun t s => State.wttOf_walkEnds_commit, fun t r s => ?flr,
    fun n s sent => ⟨exec_snoopResponse_clean sent, exec_snoopResponse_writeback sent, exec_snoopTimeout_sent sent⟩,
    fun i x s absent => ⟨exec_snoopResponse_none x absent, exec_snoopTimeout_none absent⟩,
    fun n d s there => ⟨State.dirOf_answered_orphaned there, State.dirOf_answered_owned there, State.dirOf_answered_kept there,
      State.dirOf_answered_holder there, State.dirOf_answered_coarse there, fun l other => State.dirOf_answered_other other s, ?snoops⟩,
    fun l t d s there owned holds room => ⟨State.dirOf_lineFailure_owned there owned holds room,
      State.stw_lineFailure_owned there owned holds room⟩,
    exec_biconflict, fun t s calm idle quiet => ⟨_, exec_shrFailTenant calm idle, ?failed⟩,
    fun t l d s quiet there single live => unheld_failTenant quiet t l d there single live,
    fun t s => ⟨exec_failureSweepEnd_none, fun swept => ⟨_, exec_failureSweepEnd_swept swept, State.sweeping_sweepEnded .., ?swept, ?free⟩⟩,
    fun r s calm idle enabled => ⟨_, exec_releaseRegionOrphans calm idle enabled, State.relCmd_frame ..⟩,
    fun u s calm idle => ⟨_, exec_releaseTenantOrphans calm idle, State.relCmd_frame ..⟩, fun reg n s runs => ?tick,
    fun r u s => ?refused, fun r u s => ?disabled,
    fun r u l s calm idle enabled hl => ⟨_, exec_releaseCapacity_enabled calm idle enabled hl, State.capacityLeft _ _ _ idle⟩,
    fun u a s => ⟨_, exec_releaseDynamicCapacity u a s, ?released⟩, exec_addDynamicCapacityResponse⟩
  case enable =>
    subst is
    exact ⟨fun idle good => ⟨_, exec_regionEnable_sets idle good, State.setRegion_frame ..⟩,
      fun idle bad => ⟨_, exec_regionEnable_bad idle bad, State.setRegion_frame ..⟩,
      fun enabled => ⟨_, exec_regionEnable_enabled enabled, State.setRegion_frame ..⟩⟩
  case pins =>
    refine ⟨?_, State.op_walkEnds_acquire there, ?_, State.op_walkEnds_release there⟩
    · rw [State.region_walkEnds_acquire there]
      rfl
    · rw [State.region_walkEnds_release there]
      rfl
  case flr =>
    rw [State.region_walkEnds_flr]
    rfl
  case snoops => exact (shrDir_answered n s).snoops
  case failed =>
    refine ⟨State.stw_shrStatus_ok_idle ((State.relCmd_failTenant quiet _).trans idle), ?_, fun r => ?_⟩
    · rw [State.shr_shrStatus]
      exact State.swept_failTenant quiet _
    · rw [State.region_shrStatus, State.region_failTenant quiet]
      exact State.pins_pinsDropped ..
  case swept => exact fun l d there single live => unheld_sweepEnded l swept d there single live
  case free =>
    intro none_
    rw [State.shr_sweepEnded, State.tier_sweepEnded, State.linesConverted_none none_]
    exact ⟨rfl, rfl⟩
  case tick =>
    rw [State.releaseTick, runs]
    refine ⟨rfl, rfl, ?_⟩
    rw [State.stw_modStw]
    exact bit_setBit _ _ (by decide)
  case refused =>
    simp only [List.forall_mem_cons, List.not_mem_nil, false_implies, implies_true, and_true]
    exact ⟨exec_shrCmd_refused (exec_releaseRegionOrphans_eq r s), exec_shrCmd_refused (exec_releaseCapacity_eq r u s),
      exec_shrCmd_refused (exec_releaseTenantOrphans_eq u s), exec_shrCmd_refused (exec_shrFailTenant_eq u s)⟩
  case disabled =>
    simp only [List.forall_mem_cons, List.not_mem_nil, false_implies, implies_true, and_true]
    exact ⟨exec_releaseRegionOrphans_disabled, exec_releaseCapacity_disabled⟩
  case released =>
    refine ⟨congrArg Ld.dcToRelease (State.ld_modLd ..), ?_, fun v other => State.ld_modLd_other _ other, rfl⟩
    rw [State.ld_modLd]
    rfl

end Sys2Proof.Machine


/-! DRAM channels (R324 to R328, R330, R332 to R335, R341, R342, R386). -/

namespace Sys2Proof.Machine

open Safety

/-! Frames of a row of a channel. -/

section
variable {s u t : State}

theorem RasOnly.trans (h : RasOnly s t) (k : RasOnly t u) : RasOnly s u := by
  rw [RasOnly] at h k ⊢
  rw [k, h]

theorem RasOnly.dmc (h : RasOnly s t) : t.dmc = s.dmc := by
  rw [h]

theorem frame_channel (first : u = { s with dmc := u.dmc }) (then_ : RasOnly u t) : t = { s with dmc := t.dmc, ras := t.ras } := by
  have dmc : t.dmc = u.dmc := then_.dmc
  refine Eq.trans then_ ?_
  rw [dmc, first]

end

/-! Symbols and pins. -/

theorem pinSyms_near {pin : Nat} (small : pin < 36) (line : Nat) : pinSyms true line pin = [pin] := by
  have all : ∀ p < 36, (List.range 36).filter (fun x => decide (x = p)) = [p] := by decide
  exact all pin small

theorem pinSyms_bulk {pin : Nat} (small : pin < 16) (line : Nat) :
    (pinSyms false line pin).filter (fun x => x < 32) = [pin, pin + 16] := by
  have all : ∀ p < 16, (List.range 36).filter (fun x => decide (x < 32) && decide (x % 16 = p)) = [p, p + 16] := by decide
  rw [← all pin small, pinSyms, List.filter_filter]
  refine List.filter_congr fun x _ => ?_
  by_cases data : x < 32
  · simp [symPin, data]
  · simp [data]

section
variable {s : State} {d : DLoc} {ua ch b : Nat} {t : Option Nat} {host p : Bool}

/-! What a read of a line shows. -/

theorem State.lineBad_queued (queued : nmem d.key (s.chan d.chan).wq = true) : s.lineBad d = [] := if_pos queued

theorem State.mediaRead_good (good : s.lineBad d = []) : s.mediaRead d ua t host p = (true, s) := by
  unfold State.mediaRead
  rw [good]

theorem State.mediaRead_corrected {x : Nat} (one : s.lineBad d = [x]) :
    s.mediaRead d ua t host false = (true, s.correctedRead d (locUa ua)) := by
  unfold State.mediaRead
  rw [one]

theorem State.mediaRead_bad {x y : Nat} {l : List Nat} (several : s.lineBad d = x :: y :: l) : (s.mediaRead d ua t host p).1 = false := by
  unfold State.mediaRead
  rw [several]

theorem State.mediaRead_poisoned {x : Nat} {l : List Nat} (bad : s.lineBad d = x :: l) : (s.mediaRead d ua t host true).1 = false := by
  unfold State.mediaRead
  rw [bad]
  cases l <;> rfl

/-! Rows of a channel. -/

/-- What the update of one channel leaves. -/
theorem State.modChan_frame (ch : Nat) (f : Chan → Chan) (s : State) : (s.modChan ch f).chan ch = f (s.chan ch) ∧
    (∀ c, c ≠ ch → (s.modChan ch f).chan c = s.chan c) ∧ s.modChan ch f = { s with dmc := (s.modChan ch f).dmc } :=
  ⟨State.chan_setChan ch _, fun _ other => tget_tset_other _ _ _ other _, rfl⟩

/-- A row of a channel that exists. -/
theorem chanRow_runs {x : Host.Outcome State Fault Refusal} (inRange : ch < 264) : (if ch < chanCount then x else chanFault ch) = x :=
  if_pos inRange

section
variable (inRange : ch < 264)
include inRange

theorem exec_writeQueueServe_serves (served : (s.chan ch).st ≠ .paused) :
    exec (.writeQueueServe ch) s = .next (s.modChan ch Chan.serveWrites) := by
  change execWriteQueueServe ch s = _
  rw [execWriteQueueServe, chanRow_runs inRange, if_neg served]

theorem exec_writeQueueServe_paused (paused : (s.chan ch).st = .paused) : exec (.writeQueueServe ch) s = .next s := by
  change execWriteQueueServe ch s = _
  rw [execWriteQueueServe, chanRow_runs inRange, if_pos paused]

/-- A channel whose row of a bank is closed. -/
def Chan.closeRow (b : Nat) (c : Chan) : Chan :=
  match tfind b c.rows with
  | some _ => { c with rows := tdel b c.rows, rowCnt := tset 2 b (tget 2 b c.rowCnt - 1) c.rowCnt }
  | none => c

theorem exec_rowIdleClose : exec (.rowIdleClose ch b) s = .next (s.modChan ch (Chan.closeRow b)) := by
  change execRowIdleClose ch b s = _
  rw [execRowIdleClose, chanRow_runs inRange]
  rfl

/-- The turn of a refresh that falls due at a bank: owed where an urgent read waits and the limit allows, else made. -/
def refreshTurn (urgent : Bool) (lim b : Nat) (o : Tab Nat) : Tab Nat :=
  if urgent && tget 0 b o < lim then tset 0 b (tget 0 b o + 1) o else tset 0 b 0 o

/-- The banks that a refresh falls due at. -/
def State.dueBanks (ch b : Nat) (s : State) : List Nat :=
  if bit 0 (s.stw (Reg.DMC_RCFG + 4 * chanTier ch)) then chanBanks ch else [b]

/-- A channel at some of whose banks a refresh has fallen due. -/
def Chan.refreshed (urgent : Bool) (lim : Nat) (l : List Nat) (c : Chan) : Chan := { c with owed := forAll l (refreshTurn urgent lim) c.owed }

theorem exec_refreshDue : exec (.refreshDue ch b) s = .next (s.modChan ch (Chan.refreshed (s.urgentWait ch (s.dueBanks ch b))
    (min 8 (bits 15 12 (s.stw (Reg.DMC_RCFG + 4 * chanTier ch)))) (s.dueBanks ch b))) := by
  change execRefreshDue ch b s = _
  rw [execRefreshDue, chanRow_runs inRange]
  rfl

end

theorem Chan.serveWrites_subset {c : Chan} {x : Nat} (mem : x ∈ c.serveWrites.wq) : x ∈ c.wq := by
  unfold Chan.serveWrites at mem
  split at mem
  · exact mem
  · exact (List.mem_filter.mp mem).1

section
variable {c : Chan} {k : Nat} {r : List Nat} (queue : c.wq = k :: r)
include queue

theorem Chan.serveWrites_oldest : k ∉ c.serveWrites.wq := by
  unfold Chan.serveWrites
  intro mem
  rw [queue] at mem
  have kept := (List.mem_filter.mp mem).2
  split at kept
  · simp at kept
  · simp at kept

theorem Chan.serveWrites_chk : c.serveWrites.chk = [] := by
  unfold Chan.serveWrites
  rw [queue]

end

theorem Chan.closeRow_rows (b : Nat) (c : Chan) : tfind b (c.closeRow b).rows = none := by
  unfold Chan.closeRow
  split
  · exact tfind_tdel_same b _
  next absent => exact absent

theorem Chan.closeRow_rowCnt (b : Nat) (c : Chan) : tget 2 b (c.closeRow b).rowCnt =
    if (tfind b c.rows).isSome then tget 2 b c.rowCnt - 1 else tget 2 b c.rowCnt := by
  unfold Chan.closeRow
  split
  next there => rw [there]; exact tget_tset_same _ _ _ _
  next absent => rw [absent]; rfl

/-! Refreshes owed. -/

section
variable {urgent : Bool} {lim : Nat}

theorem tget_refreshTurn_same (b : Nat) (o : Tab Nat) :
    tget 0 b (refreshTurn urgent lim b o) = if urgent = true ∧ tget 0 b o < lim then tget 0 b o + 1 else 0 := by
  unfold refreshTurn
  by_cases owes : urgent = true ∧ tget 0 b o < lim
  · rw [if_pos owes, if_pos (by simpa using owes), tget_tset_same]
  · rw [if_neg owes, if_neg (by simpa using owes), tget_tset_same]

theorem tget_refreshTurn_other {b c : Nat} (other : c ≠ b) (o : Tab Nat) : tget 0 c (refreshTurn urgent lim b o) = tget 0 c o := by
  unfold refreshTurn
  split <;> exact tget_tset_other _ _ _ other _

theorem tget_refreshTurns_absent {c : Nat} {l : List Nat} (absent : c ∉ l) (o : Tab Nat) :
    tget 0 c (forAll l (refreshTurn urgent lim) o) = tget 0 c o :=
  forAll_keeps (P := fun x => tget 0 c x = tget 0 c o) l
    (fun _ mem x h => (tget_refreshTurn_other (fun same => absent (by rwa [same])) x).trans h) rfl

theorem tget_refreshTurns {c : Nat} {l : List Nat} (once : l.Nodup) (mem : c ∈ l) (o : Tab Nat) :
    tget 0 c (forAll l (refreshTurn urgent lim) o) = if urgent = true ∧ tget 0 c o < lim then tget 0 c o + 1 else 0 := by
  induction l generalizing o with
  | nil => cases mem
  | cons b r ih =>
    obtain ⟨absent, rest⟩ := List.nodup_cons.mp once
    rw [forAll_cons]
    by_cases same : c = b
    · subst same
      rw [tget_refreshTurns_absent absent, tget_refreshTurn_same]
    · have later : c ∈ r := by simpa [same] using mem
      rw [ih rest later, tget_refreshTurn_other same]

end

theorem chanBanks_nodup (ch : Nat) : (chanBanks ch).Nodup := by
  unfold chanBanks
  split <;> decide

theorem State.dueBanks_nodup (ch b : Nat) (s : State) : (s.dueBanks ch b).Nodup := by
  unfold State.dueBanks
  split
  · exact chanBanks_nodup ch
  · exact List.nodup_singleton b

end

section
variable {s : State} {ch : Nat} {r : BitVec 2} (inRange : ch < 264)
include inRange

/-! Refresh rates. -/

/-- A channel at a rate, that asks for none. -/
def Chan.atRate (r : BitVec 2) (c : Chan) : Chan := { c with refRate := r, rateWant := none }

theorem exec_temperaturePoll_unread : exec (.temperaturePoll ch 3#2) s = .next s := by
  change execTemperaturePoll ch 3#2 s = _
  rw [execTemperaturePoll, chanRow_runs inRange]
  exact if_pos rfl

theorem exec_temperaturePoll_up (read : r ≠ 3#2) (up : (s.chan ch).refRate.toNat ≤ r.toNat) :
    exec (.temperaturePoll ch r) s = .next ((s.setChan ch ((s.chan ch).atRate r)).maintEnd 3 ch) := by
  obtain rise | same := Nat.lt_or_eq_of_le up
  · exact exec_temperaturePoll_rise inRange read rise
  · have rate : r = (s.chan ch).refRate := BitVec.eq_of_toNat_eq same.symm
    change execTemperaturePoll ch r s = _
    rw [execTemperaturePoll, chanRow_runs inRange]
    dsimp only
    rw [if_neg read, if_neg (by omega), if_pos rate, Chan.atRate, rate]

theorem exec_temperaturePoll_down (down : r.toNat < (s.chan ch).refRate.toNat) : exec (.temperaturePoll ch r) s =
    .next (if s.actOf 3 ch = none then (s.setChan ch { s.chan ch with rateWant := some r }).maintAsk 3 [ch] ch
      else s.setChan ch { s.chan ch with rateWant := some r }) := by
  have read : r ≠ 3#2 := by
    rintro rfl
    have := (s.chan ch).refRate.isLt
    simp at down
    omega
  have other : r ≠ (s.chan ch).refRate := fun same => by
    rw [same] at down
    exact absurd down (Nat.lt_irrefl _)
  have acts : (s.setChan ch { s.chan ch with rateWant := some r }).actOf 3 ch = s.actOf 3 ch := rfl
  change execTemperaturePoll ch r s = _
  rw [execTemperaturePoll, chanRow_runs inRange]
  dsimp only
  rw [if_neg read, if_neg (by omega), if_neg other, acts]
  cases s.actOf 3 ch <;> rfl

theorem exec_refreshRateChange_granted (wanted : (s.chan ch).rateWant = some r) (granted : s.holdsGrant 3 ch = true) :
    exec (.refreshRateChange ch r) s = .next ((s.setChan ch ((s.chan ch).atRate r)).maintEnd 3 ch) := by
  change execRefreshRateChange ch r s = _
  rw [execRefreshRateChange, chanRow_runs inRange]
  exact congrArg Host.Outcome.next (if_pos (by simp [wanted, granted]))

theorem exec_refreshRateChange_waits (waits : (s.chan ch).rateWant ≠ some r ∨ s.holdsGrant 3 ch = false) :
    exec (.refreshRateChange ch r) s = .next s := by
  change execRefreshRateChange ch r s = _
  rw [execRefreshRateChange, chanRow_runs inRange]
  refine congrArg Host.Outcome.next (if_neg ?_)
  obtain other | ungranted := waits
  · simp [other]
  · simp [ungranted]

/-! Retraining pauses. -/

/-- A channel that pauses. -/
def Chan.pausing (c : Chan) : Chan := { c with st := .paused, rows := [], owed := [] }

section
variable {u : State} (due : bit 31 (s.stw (Reg.DMC_TCFG + 4 * chanTier ch)) = true) (serves : (s.chan ch).st = .inService)
  (there : (s.chan ch).lost = false) (hu : u = if (s.actOf 2 ch).isSome then s else s.maintAsk 2 [ch] ch)
include due serves there hu

theorem exec_retrainPauseDue_eq : exec (.retrainPauseDue ch) s = .next (if u.holdsGrant 2 ch then
    (u.modChan ch Chan.pausing).cntStw (bstatOf ch) 15 0 1 else u) := by
  subst hu
  change execRetrainPauseDue ch s = _
  rw [execRetrainPauseDue, chanRow_runs inRange, if_pos due, State.takePause, if_neg (by simp [serves, there])]
  rfl

theorem exec_retrainPauseDue_pauses (granted : u.holdsGrant 2 ch = true) :
    exec (.retrainPauseDue ch) s = .next ((u.modChan ch Chan.pausing).cntStw (bstatOf ch) 15 0 1) := by
  rw [exec_retrainPauseDue_eq inRange due serves there hu, if_pos granted]

theorem exec_retrainPauseDue_asks (waits : u.holdsGrant 2 ch = false) : exec (.retrainPauseDue ch) s = .next u := by
  rw [exec_retrainPauseDue_eq inRange due serves there hu, if_neg (by simp [waits])]

end

theorem exec_retrainPauseDue_none
    (nothing : bit 31 (s.stw (Reg.DMC_TCFG + 4 * chanTier ch)) = false ∨ (s.chan ch).st ≠ .inService ∨ (s.chan ch).lost = true) :
    exec (.retrainPauseDue ch) s = .next s := by
  change execRetrainPauseDue ch s = _
  rw [execRetrainPauseDue, chanRow_runs inRange]
  refine congrArg Host.Outcome.next ?_
  split
  next due =>
    obtain off | out := nothing
    · exact absurd due (by simp [off])
    · exact if_pos (by simpa using out)
  next => rfl

theorem exec_retrainPauseEnd (ok : Bool) : exec (.retrainPauseEnd ch ok) s = .next (s.pauseEnd ch ok) := by
  change execRetrainPauseEnd ch ok s = _
  rw [execRetrainPauseEnd, chanRow_runs inRange]

end

section
variable {s : State} {ch : Nat}

/-- A channel back in service after n failures in a row. -/
def Chan.resumed (n : Nat) (c : Chan) : Chan := { c with st := .inService, tfails := n }

/-- The state whose channel is back in service. -/
def State.resumes (ch n : Nat) (s : State) : State := (s.setChan ch ((s.chan ch).resumed n)).maintEnd 2 ch

theorem State.pauseEnd_idle (ok : Bool) (st : (s.chan ch).st ≠ .paused) : s.pauseEnd ch ok = s := by
  rw [State.pauseEnd]
  exact if_pos st

section
variable (paused : (s.chan ch).st = .paused)
include paused

theorem State.pauseEnd_ok : s.pauseEnd ch true = (s.resumes ch 0).closeResume := by
  rw [State.pauseEnd]
  dsimp only
  rw [if_neg (not_not.mpr paused)]
  rfl

theorem State.pauseEnd_fails (few : (s.chan ch).tfails ≠ 2) :
    s.pauseEnd ch false = ((s.resumes ch ((s.chan ch).tfails + 1)).cntStw (bstatOf ch) 23 16 1).closeResume := by
  rw [State.pauseEnd]
  dsimp only
  rw [if_neg (not_not.mpr paused)]
  simp only [Bool.false_eq_true, if_false, Nat.reduceEqDiff, few]
  rfl

/-- The state at a channel's third failure in a row. -/
def State.thirdFail (ch : Nat) (s : State) : State :=
  State.logRec { typ := 0x10, sev := 1, unit := chanUnit ch, aux0 := 3 } ((s.resumes ch 3).cntStw (bstatOf ch) 23 16 1)

theorem State.pauseEnd_third (third : (s.chan ch).tfails = 2) : s.pauseEnd ch false =
    (if bit 31 ((s.thirdFail ch).stw Reg.DMC_ECFG) && chanTier ch = 1 then
      forAll ((s.thirdFail ch).ranksOn ch) (fun r s => s.modRank r (fun k => { k with auto := true })) (s.thirdFail ch)
     else s.thirdFail ch).closeResume := by
  rw [State.pauseEnd]
  dsimp only
  rw [if_neg (not_not.mpr paused), third]
  rfl

omit paused

theorem bstatOf_ne_ecfg (inRange : ch < 264) : Reg.DMC_ECFG ≠ bstatOf ch := by
  unfold bstatOf Reg.DMC_ECFG Reg.DMC_BSTAT Reg.DMC_HSTAT
  split <;> omega

theorem State.ecfg_thirdFail (inRange : ch < 264) : (s.thirdFail ch).stw Reg.DMC_ECFG = s.stw Reg.DMC_ECFG := by
  have ended := (State.maintEnd_only 2 ch (Inside.refl _) (Only.refl _ (s.setChan ch ((s.chan ch).resumed 3)))).stw rfl Reg.DMC_ECFG
  rw [State.thirdFail, State.stw_logRec_other _ (by decide), State.cntStw, State.stw_modStw_other _ (bstatOf_ne_ecfg inRange)]
  exact ended

theorem State.ranks_thirdFail (ch : Nat) (s : State) : (s.thirdFail ch).dmc.ranks = s.dmc.ranks := by
  have dmc : (s.thirdFail ch).dmc = (s.setChan ch ((s.chan ch).resumed 3)).dmc :=
    ((State.logRec_only _ (Inside.refl _) (Only.refl _ ((s.resumes ch 3).cntStw (bstatOf ch) 23 16 1))).dmc rfl).trans
      ((State.maintEnd_only 2 ch (Inside.refl _) (Only.refl _ (s.setChan ch ((s.chan ch).resumed 3)))).dmc rfl)
  rw [dmc]
  rfl

theorem State.closeWait_thirdFail (ch : Nat) (s : State) : (s.thirdFail ch).cmp.closeWait = s.cmp.closeWait := by
  have cmp : (s.thirdFail ch).cmp = s.cmp :=
    ((State.logRec_only _ (Inside.refl _) (Only.refl _ ((s.resumes ch 3).cntStw (bstatOf ch) 23 16 1))).cmp rfl).trans
      ((State.maintEnd_only 2 ch (Inside.refl _) (Only.refl _ (s.setChan ch ((s.chan ch).resumed 3)))).cmp rfl)
  rw [cmp]

theorem State.rank_of_ranks {t : State} (same : t.dmc.ranks = s.dmc.ranks) (n : Nat) : t.rank n = s.rank n := by
  rw [State.rank, same, State.rank]

theorem State.ranksOn_of_ranks {t : State} (same : t.dmc.ranks = s.dmc.ranks) (ch : Nat) : t.ranksOn ch = s.ranksOn ch := by
  simp only [State.ranksOn, State.rank_of_ranks same]

/-- Resumed requests that none waits for leave the ranks. -/
theorem State.rank_closeResume (none_ : s.cmp.closeWait = []) (r : Nat) : s.closeResume.rank r = s.rank r := by
  rw [State.closeResume, none_]
  rfl

theorem State.auto_modRank (r q : Nat) (h : (s.rank r).auto = true ∨ q = r) :
    ((s.modRank q (fun k => { k with auto := true })).rank r).auto = true := by
  by_cases same : q = r
  · rw [same, State.modRank, State.rank_setRank]
  · have kept : (s.modRank q (fun k => { k with auto := true })).rank r = s.rank r := tget_tset_other _ _ _ (Ne.symm same) _
    rw [kept]
    exact h.resolve_right same

theorem State.cmp_modRank (q : Nat) (f : Rank → Rank) (s : State) : (s.modRank q f).cmp = s.cmp := rfl

/-- The third failure of a channel's pauses marks the ranks on it. -/
theorem State.auto_pauseEnd {r : Nat} (inRange : ch < 264) (paused : (s.chan ch).st = .paused) (third : (s.chan ch).tfails = 2)
    (evacuates : bit 31 (s.stw Reg.DMC_ECFG) = true) (bulk : ch < 136) (on : r ∈ s.ranksOn ch) (none_ : s.cmp.closeWait = []) :
    ((s.pauseEnd ch false).rank r).auto = true := by
  have marked : r ∈ (s.thirdFail ch).ranksOn ch := by
    rw [State.ranksOn_of_ranks (State.ranks_thirdFail ch s)]
    exact on
  rw [State.pauseEnd_third paused third, if_pos (by simp [State.ecfg_thirdFail inRange, evacuates, chanTier, bulk]), State.rank_closeResume]
  · exact forAll_reaches (P := fun u : State => (u.rank r).auto = true) marked (fun u => State.auto_modRank r r (.inr rfl))
      (fun q _ u h => State.auto_modRank r q (.inl h)) _
  · refine forAll_keeps (P := fun u : State => u.cmp.closeWait = []) _ (fun q _ u h => ?_) ((State.closeWait_thirdFail ch s).trans none_)
    rw [State.cmp_modRank]
    exact h

theorem State.pauseEnd_third_plain (inRange : ch < 264) (paused : (s.chan ch).st = .paused) (third : (s.chan ch).tfails = 2)
    (plain : bit 31 (s.stw Reg.DMC_ECFG) = false ∨ 136 ≤ ch) : s.pauseEnd ch false = (s.thirdFail ch).closeResume := by
  rw [State.pauseEnd_third paused third, if_neg]
  rw [State.ecfg_thirdFail inRange]
  obtain off | near := plain
  · simp [off]
  · simp [chanTier, Nat.not_lt.mpr near]

end

end

section
variable {s u : State} {ch n : Nat}

/-! Scripts and lost channels. -/

theorem exec_scriptAbort_eq (inRange : ch < 264) (hu : u = s.cntStw (Reg.DMC_SQSTAT + 4 * chanTier ch) 15 0 1) :
    exec (.scriptAbort ch) s = .next (if (s.chan ch).st = .paused then u.pauseEnd ch false
      else if s.holdsGrant 3 ch then (u.modChan ch (fun c => { c with rateWant := none })).maintEnd 3 ch else u) := by
  subst hu
  change execScriptAbort ch s = _
  rw [execScriptAbort, chanRow_runs inRange]
  dsimp only
  change (if (s.chan ch).st = .paused then _ else if s.holdsGrant 3 ch = true then _ else _) = _
  split
  · rfl
  · split <;> rfl

/-- A state whose script set of a tier is chosen. -/
def State.setChosen (n : Nat) (v : W16) (u : State) : State := u.modDmc (fun d => { d with setNext := tput n v d.setNext })

/-- A state whose script set of a tier is in force. -/
def State.setInForce (n : Nat) (v : W16) (u : State) : State :=
  (((u.setChosen n v).modDmc (fun d => { d with setNext := tdel n d.setNext, setVer := tset 0#16 n v d.setVer })).maintEnd 7 (2 * n)).maintEnd 7
    (2 * n + 1)

/-- The request of a half for a grant to change a tier's script set. -/
def State.askSet (n : Nat) (h : Half) (s : State) : State :=
  if (s.actOf 7 (2 * n + halfIdx h)).isSome then s else s.maintAsk 7 (scTier n h) (2 * n + halfIdx h)

theorem exec_scriptSetCommit_eq {near : Bool} {v : W16} (hn : n = if near then 0 else 1) (hu : u = (s.askSet n .north).askSet n .south) :
    exec (.scriptSetCommit near v) s = if u.holdsGrant 7 (2 * n) && u.holdsGrant 7 (2 * n + 1) then .next (u.setInForce n v)
      else .next (u.setChosen n v) := by
  subst hu hn
  rfl

theorem State.dmc_askSet (n : Nat) (h : Half) (s : State) : (s.askSet n h).dmc = s.dmc := by
  unfold State.askSet
  split
  · rfl
  · exact (State.maintAsk_only _ _ _ (Inside.refl _) (Only.refl _ s)).dmc rfl

/-- The part of setting a script set in force that is before the grants end. -/
def State.setTaken (n : Nat) (v : W16) (u : State) : State :=
  (u.setChosen n v).modDmc (fun d => { d with setNext := tdel n d.setNext, setVer := tset 0#16 n v d.setVer })

theorem State.setTaken_frame (n : Nat) (v : W16) (u : State) : u.setTaken n v = { u with dmc := (u.setTaken n v).dmc } := rfl

theorem State.rasOnly_setInForce (n : Nat) (v : W16) (u : State) : RasOnly (u.setTaken n v) (u.setInForce n v) :=
  (State.maintEnd_frame 7 (2 * n) (u.setTaken n v)).trans (State.maintEnd_frame 7 (2 * n + 1) _)

theorem State.setInForce_eq (n : Nat) (v : W16) (u : State) : tget 0#16 n (u.setInForce n v).dmc.setVer = v ∧
    tfind n (u.setInForce n v).dmc.setNext = none ∧
    u.setInForce n v = { u with dmc := (u.setInForce n v).dmc, ras := (u.setInForce n v).ras } := by
  have only := State.rasOnly_setInForce n v u
  refine ⟨?_, ?_, frame_channel (State.setTaken_frame n v u) only⟩
  · rw [only.dmc]
    exact tget_tset_same _ _ _ _
  · rw [only.dmc]
    exact tfind_tdel_same _ _

/-- A lost channel: its writes are gone. -/
def Chan.gone (c : Chan) : Chan := { c with lost := true, wq := [], chk := [] }

theorem exec_channelLost_eq (inRange : ch < 264) :
    exec (.channelLost ch) s = .next (forAll ((s.dmc.reads.filter (fun r => r.chan = ch && !r.timedOut)).flatMap TierRead.req)
      (fun r s => s.endReq r .poisonConsumed) ((s.modDmc (fun d => { d with reads := d.reads.filter (fun r => r.chan ≠ ch || r.timedOut) })).modChan
        ch Chan.gone)).closeResume := by
  change execChannelLost ch s = _
  rw [execChannelLost, chanRow_runs inRange]
  rfl

/-- A row of a channel that does not exist faults. -/
theorem chanRow_fault {x : Host.Outcome State Fault Refusal} (out : 264 ≤ ch) :
    (if ch < chanCount then x else chanFault ch) = .fault (.noSuchUnit "channel" ch) := if_neg (Nat.not_lt.mpr out)

end

section
variable {s : State} {ch : Nat}

/-- What a channel at a new rate leaves. -/
theorem State.atRate_frame (ch : Nat) (r : BitVec 2) (s : State) :
    ((s.setChan ch ((s.chan ch).atRate r)).maintEnd 3 ch).chan ch = (s.chan ch).atRate r ∧
    (s.setChan ch ((s.chan ch).atRate r)).maintEnd 3 ch = { s with
      dmc := ((s.setChan ch ((s.chan ch).atRate r)).maintEnd 3 ch).dmc, ras := ((s.setChan ch ((s.chan ch).atRate r)).maintEnd 3 ch).ras } := by
  refine ⟨?_, frame_channel (u := s.setChan ch ((s.chan ch).atRate r)) rfl (State.maintEnd_frame ..)⟩
  rw [State.chan_maintEnd, State.chan_setChan]

/-- A request for a grant whose deferral no register reports leaves the other registers. -/
theorem State.stw_maintAsk_quiet {code unit off : Nat} {scope : List Nat} (silent : deferReg code unit = none)
    (other : ∀ h : Half, off ≠ Reg.RAS_MARB + 4 * halfIdx h) (s : State) : (s.maintAsk code scope unit).stw off = s.stw off := by
  unfold State.maintAsk
  dsimp only
  split
  · rfl
  · split
    · rfl
    · rw [State.setDefer, silent]
      dsimp only
      rw [State.countPark, State.cntStw, State.stw_modStw_other _ (other _)]
      rfl

/-- The request for a pause leaves the channel and its status register. -/
theorem State.askPause_keeps {u : State} (inRange : ch < 264) (hu : u = if (s.actOf 2 ch).isSome then s else s.maintAsk 2 [ch] ch) :
    u.chan ch = s.chan ch ∧ u.stw (bstatOf ch) = s.stw (bstatOf ch) := by
  subst hu
  split
  · exact ⟨rfl, rfl⟩
  · refine ⟨?_, State.stw_maintAsk_quiet rfl (fun h => ?_) s⟩
    · rw [State.chan, (State.maintAsk_only _ _ _ (Inside.refl _) (Only.refl _ s)).dmc rfl, State.chan]
    · unfold bstatOf Reg.DMC_BSTAT Reg.DMC_HSTAT Reg.RAS_MARB
      cases h <;> (simp only [halfIdx]; split <;> omega)

/-- What a pause leaves. -/
theorem State.pausing_frame (ch : Nat) (u : State) :
    ((u.modChan ch Chan.pausing).cntStw (bstatOf ch) 15 0 1).chan ch = (u.chan ch).pausing ∧
    ((u.modChan ch Chan.pausing).cntStw (bstatOf ch) 15 0 1).stw (bstatOf ch) = satField 15 0 1 (u.stw (bstatOf ch)) ∧
    (u.modChan ch Chan.pausing).cntStw (bstatOf ch) 15 0 1 = { u with
      dmc := ((u.modChan ch Chan.pausing).cntStw (bstatOf ch) 15 0 1).dmc, reg := ((u.modChan ch Chan.pausing).cntStw (bstatOf ch) 15 0 1).reg } :=
  ⟨State.chan_setChan ch _, State.stw_modStw _ _ _, rfl⟩

end

/-- Settles O51: each row by what it does to its channel (`State.modChan_frame`), the pauses by `State.pauseEnd` at each count of
failures, and a number of no channel by `chanRow_fault`. -/
theorem channelsServeRefreshAndRetrain : Obligations.ChannelsServeRefreshAndRetrain := by
  refine ⟨fun line pin => ⟨fun small => pinSyms_near small line, fun small => pinSyms_bulk small line⟩,
    fun d ua t host s => ⟨State.lineBad_queued, fun p => State.mediaRead_good, fun x => State.mediaRead_corrected,
      fun x y l p => State.mediaRead_bad, fun x l => State.mediaRead_poisoned⟩,
    fun ch s inRange => ⟨fun served => ⟨_, exec_writeQueueServe_serves inRange served, State.modChan_frame ..⟩,
      exec_writeQueueServe_paused inRange⟩,
    fun c k r queue => ⟨fun x => Chan.serveWrites_subset, Chan.serveWrites_oldest queue, Chan.serveWrites_chk queue⟩,
    fun ch b s inRange => ⟨_, exec_rowIdleClose inRange, ?rows⟩, fun ch b s inRange => ⟨_, exec_refreshDue inRange, ?owed⟩,
    fun ch r s inRange => ⟨fun unread => ?unread, fun read up => ⟨_, exec_temperaturePoll_up inRange read up, State.atRate_frame ..⟩,
      exec_temperaturePoll_down inRange⟩,
    fun ch r s inRange => ⟨fun wanted granted => ⟨_, exec_refreshRateChange_granted inRange wanted granted, State.atRate_frame ..⟩,
      exec_refreshRateChange_waits inRange⟩,
    fun ch s u inRange due serves there hu => ⟨fun granted =>
      ⟨_, exec_retrainPauseDue_pauses inRange due serves there hu granted, ?pauses⟩, exec_retrainPauseDue_asks inRange due serves there hu⟩,
    fun ch s => exec_retrainPauseDue_none, fun ch s inRange paused => ⟨?ok, fun few => ?fails, fun third plain => ?third,
      fun r third evacuates bulk on none_ => ⟨_, exec_retrainPauseEnd inRange false,
        State.auto_pauseEnd inRange paused third evacuates bulk on none_⟩⟩,
    fun ch ok s inRange st => ?idle, fun ch s u => exec_scriptAbort_eq, fun near v n ask s u hn hask hu => ?set,
    fun ch s => exec_channelLost_eq, fun ch b r ok s out => ?out⟩
  case rows =>
    obtain ⟨here, others, frame⟩ := State.modChan_frame ch (Chan.closeRow b) s
    rw [here]
    exact ⟨Chan.closeRow_rows b _, Chan.closeRow_rowCnt b _, others, frame⟩
  case owed =>
    obtain ⟨here, others, frame⟩ := State.modChan_frame ch (Chan.refreshed (s.urgentWait ch (s.dueBanks ch b))
      (min 8 (bits 15 12 (s.stw (Reg.DMC_RCFG + 4 * chanTier ch)))) (s.dueBanks ch b)) s
    rw [here]
    exact ⟨fun c mem => tget_refreshTurns (State.dueBanks_nodup ch b s) mem _, fun c absent => tget_refreshTurns_absent absent _, others, frame⟩
  case unread =>
    subst unread
    exact exec_temperaturePoll_unread inRange
  case pauses =>
    obtain ⟨chan, status⟩ := State.askPause_keeps inRange hu
    obtain ⟨paused, counted, frame⟩ := State.pausing_frame ch u
    rw [paused, counted, chan, status]
    exact ⟨rfl, rfl, frame⟩
  case ok =>
    rw [exec_retrainPauseEnd inRange, State.pauseEnd_ok paused]
    rfl
  case fails =>
    rw [exec_retrainPauseEnd inRange, State.pauseEnd_fails paused few]
    rfl
  case third =>
    rw [exec_retrainPauseEnd inRange, State.pauseEnd_third_plain inRange paused third plain]
    rfl
  case idle => rw [exec_retrainPauseEnd inRange, State.pauseEnd_idle ok st]
  case set =>
    subst hask
    have asked : u = (s.askSet n .north).askSet n .south := hu
    refine ⟨fun first second => ⟨u.setInForce n v, ?_, State.setInForce_eq n v u⟩, fun waits => ⟨u.setChosen n v, ?_, ?_, tfind_tput_same .., rfl⟩⟩
    · rw [exec_scriptSetCommit_eq hn asked, if_pos (by simp [first, second])]
    · rw [exec_scriptSetCommit_eq hn asked, if_neg (by obtain no | no := waits <;> simp [no])]
    · have dmc : u.dmc = s.dmc := by rw [asked, State.dmc_askSet, State.dmc_askSet]
      exact (congrArg Dmc.setVer dmc :)
  case out =>
    simp only [List.forall_mem_cons, List.not_mem_nil, false_implies, implies_true, and_true]
    exact ⟨chanRow_fault out, chanRow_fault out, chanRow_fault out, chanRow_fault out, chanRow_fault out, chanRow_fault out, chanRow_fault out,
      chanRow_fault out, chanRow_fault out⟩

end Sys2Proof.Machine


/-! Rank evacuation (R144, R145, R336 to R340). -/

namespace Sys2Proof.Machine

open Safety

/-! What reads change of a rank: its counts of errors alone. -/

/-- A rank but for what reads count. -/
def Rank.place (k : Rank) : Rank := { k with ceSec := 0, ceStamp := 0, auto := false }

/-- The ranks are as they were but for what reads count. -/
structure SamePlaces (s t : State) : Prop where
  place : ∀ r, (t.rank r).place = (s.rank r).place

section
variable {s t u : State} {d : DLoc}

theorem SamePlaces.refl (s : State) : SamePlaces s s := ⟨fun _ => rfl⟩

theorem SamePlaces.trans (h : SamePlaces s t) (k : SamePlaces t u) : SamePlaces s u := ⟨fun r => (k.place r).trans (h.place r)⟩

theorem SamePlaces.of_ranks (same : t.dmc.ranks = s.dmc.ranks) : SamePlaces s t := ⟨fun r => by rw [State.rank_of_ranks same]⟩

theorem samePlaces_setRank {n : Nat} {v : Rank} (same : v.place = (s.rank n).place) : SamePlaces s (s.setRank n v) := by
  refine ⟨fun r => ?_⟩
  by_cases here : r = n
  · rw [here, State.rank_setRank, same]
  · have other : (s.setRank n v).rank r = s.rank r := tget_tset_other _ _ _ here _
    rw [other]

theorem samePlaces_logRec (r : Rec) (s : State) : SamePlaces s (s.logRec r) :=
  .of_ranks (congrArg Dmc.ranks ((State.logRec_only r (Inside.refl _) (Only.refl _ s)).dmc rfl))

theorem samePlaces_fmStd (k v : Nat) (r : Rec) (s : State) : SamePlaces s (s.fmStd k v r) :=
  .of_ranks (congrArg Dmc.ranks ((State.fmStd_only k v r (Inside.refl _) (Only.refl _ s)).dmc rfl))

theorem SamePlaces.ite {c : Prop} [Decidable c] (h : SamePlaces s t) (k : SamePlaces s u) : SamePlaces s (if c then t else u) := by
  split <;> assumption

theorem SamePlaces.logged (h : SamePlaces s t) (r : Rec) (k v : Nat) (q : Rec) : SamePlaces s ((t.logRec r).fmStd k v q) :=
  h.trans ((samePlaces_logRec r t).trans (samePlaces_fmStd k v q _))

theorem SamePlaces.modStw (h : SamePlaces s t) (off : Nat) (f : W32 → W32) : SamePlaces s (t.modStw off f) := h.trans (.of_ranks rfl)

theorem SamePlaces.cntStw (h : SamePlaces s t) (off hi lo n : Nat) : SamePlaces s (t.cntStw off hi lo n) := h.modStw ..

theorem SamePlaces.modChan (h : SamePlaces s t) (n : Nat) (f : Chan → Chan) : SamePlaces s (t.modChan n f) := h.trans (.of_ranks rfl)

theorem SamePlaces.setRank (h : SamePlaces s t) {n : Nat} {v : Rank} (same : v.place = (t.rank n).place) : SamePlaces s (t.setRank n v) :=
  h.trans (samePlaces_setRank same)

theorem samePlaces_correctedRead (d : DLoc) (loc : Nat) (s : State) : SamePlaces s (s.correctedRead d loc) := by
  unfold State.correctedRead
  dsimp only
  cases d.lrank with
  | none =>
    refine .ite (.logged ?_ ..) ?_
    all_goals exact ((SamePlaces.refl s).cntStw ..).modChan ..
  | some r =>
    refine .ite (.logged ?_ ..) ?_
    all_goals exact (((SamePlaces.refl s).cntStw ..).modChan ..).setRank rfl

theorem samePlaces_uncorrectedRead (d : DLoc) (s : State) : SamePlaces s (s.uncorrectedRead d) := by
  unfold State.uncorrectedRead
  dsimp only
  cases d.lrank with
  | none => exact (SamePlaces.refl s).cntStw ..
  | some r =>
    refine .ite ?_ ?_
    · exact ((SamePlaces.refl s).cntStw ..).setRank rfl
    · exact (SamePlaces.refl s).cntStw ..

theorem samePlaces_mediaFind (d : DLoc) (m : Media) (s : State) : SamePlaces s (s.mediaFind d m) := by
  unfold State.mediaFind
  split <;> exact .of_ranks rfl

/-- A line that a move reads, once what its medium shows is known. -/
theorem samePlaces_moveRead {a : List Nat × State} {v : State} {c p : Prop} [Decidable c] [Decidable p] {o loc : Nat} (h : SamePlaces s a.2)
    (k : SamePlaces s v) : SamePlaces s (if c then a
      else if v.chanLost d then (a.1 ++ [o], v)
      else match v.lineBad d with
        | [] => (a.1, v)
        | [_] => if p then (a.1 ++ [o], v.uncorrectedRead d) else (a.1, v.correctedRead d loc)
        | _ => (a.1 ++ [o], v.uncorrectedRead d)).2 := by
  split
  · exact h
  · split
    · exact k
    · split
      · exact k
      · split
        · exact k.trans (samePlaces_uncorrectedRead ..)
        · exact k.trans (samePlaces_correctedRead ..)
      · exact k.trans (samePlaces_uncorrectedRead ..)

theorem samePlaces_moveReads (p : Nat) (e : Plot) (j : Nat) (bad : List Nat) (of_ : DLoc → Bool) (s : State) :
    SamePlaces s (s.moveReads p e j bad of_).2 := by
  unfold State.moveReads
  refine List.foldlRecOn _ _ (motive := fun a : List Nat × State => SamePlaces s a.2) (.refl s) fun a h o _ => ?_
  split
  · split <;> exact h
  · exact samePlaces_moveRead h (.ite (h.trans (samePlaces_mediaFind ..)) h)

theorem samePlaces_mediaMove (p j : Nat) (bad : List Nat) (source : Nat) (s : State) : SamePlaces s (s.mediaMove p j bad source) :=
  .of_ranks (congrArg Dmc.ranks ((State.mediaMove_only p j bad source (Inside.refl _) (Only.refl _ s)).dmc rfl))

/-- A state whose ranks are in place and whose escapes are as they were. -/
structure ReadsOnly (s t : State) : Prop where
  places : SamePlaces s t
  esc : t.tier.esc = s.tier.esc

theorem ReadsOnly.trans (h : ReadsOnly s t) (k : ReadsOnly t u) : ReadsOnly s u := ⟨h.places.trans k.places, k.esc.trans h.esc⟩

theorem ReadsOnly.modDmc {f : Dmc → Dmc} (keeps : ∀ d, (f d).ranks = d.ranks) (h : ReadsOnly s t) : ReadsOnly s (t.modDmc f) :=
  ⟨h.places.trans (.of_ranks (keeps _)), h.esc⟩

/-- The reads of one block of a rank. -/
theorem readsOnly_block {p : Nat} {e : Plot} {j : Nat} {of_ : DLoc → Bool} {f : Tier → Tier} (keeps : ∀ x, (f x).esc = x.esc) (s : State) :
    ReadsOnly s (((s.moveReads p e j [] of_).2.mediaMove p j (s.moveReads p e j [] of_).1 3).modTier f) := by
  refine ⟨((samePlaces_moveReads ..).trans (samePlaces_mediaMove ..)).trans (.of_ranks rfl), ?_⟩
  have tier : ((s.moveReads p e j [] of_).2.mediaMove p j (s.moveReads p e j [] of_).1 3).tier = s.tier :=
    ((State.mediaMove_only _ _ _ _ (Inside.refl _) (Only.refl _ _)).tier rfl).trans
      ((State.moveReads_only _ _ _ _ _ (Inside.refl _) (Only.refl _ s)).tier rfl)
  exact (keeps _).trans (congrArg Tier.esc tier)

theorem readsOnly_evacReads (r : Nat) (s : State) : ReadsOnly s (s.evacReads r) := by
  unfold State.evacReads
  dsimp only
  refine ReadsOnly.modDmc (fun _ => rfl) ?_
  refine forAll_keeps (P := ReadsOnly s) _ (fun x _ u h => ?_) ⟨.refl s, rfl⟩
  refine forAll_keeps (P := ReadsOnly s) _ (fun j _ v k => k.trans ?_) h
  refine readsOnly_block ?_ v
  exact fun _ => rfl

end

section
variable {s t : State} {r p : Nat} {k : Rank}

/-! The status register of a half's evacuations. -/

theorem estatOf_ne_alert (r : Nat) (small : r < 256) : estatOf r ≠ Reg.PWM_ALERT := by
  unfold estatOf rankHalf Reg.DMC_ESTAT Reg.PWM_ALERT
  omega

theorem estatOf_ne_marb (small : r < 256) (h : Half) : estatOf r ≠ Reg.RAS_MARB + 4 * halfIdx h := by
  unfold estatOf rankHalf Reg.DMC_ESTAT Reg.RAS_MARB
  cases h <;> (simp only [halfIdx]; omega)

/-- The bits above the status. -/
theorem bits_masked (w : W32) : bits 31 8 (w &&& 0xFFFFFF00#32) = bits 31 8 w := by
  have high : ∀ k < 32, 8 ≤ k → (0xFFFFFF00#32).getLsbD k = true := by decide
  have same : (w &&& 0xFFFFFF00#32) >>> 8 = w >>> 8 := by
    refine BitVec.eq_of_getLsbD_eq fun k small => ?_
    rw [BitVec.getLsbD_ushiftRight, BitVec.getLsbD_ushiftRight, BitVec.getLsbD_and]
    by_cases inside : 8 + k < 32
    · rw [high _ inside (by omega), Bool.and_true]
    · rw [BitVec.getLsbD_of_ge _ _ (by omega), Bool.false_and]
  rw [bits_eq, bits_eq, ← BitVec.toNat_ushiftRight, ← BitVec.toNat_ushiftRight, same]

/-- What starts an evacuation of a rank, its grant asked for. -/
def State.evacBegins (r : Nat) (scope : List Nat) (s : State) : State :=
  ((s.setStw (estatOf r) 0x80000000#32).logRec (State.evacRec r .ok s)).maintAsk 4 scope r

theorem State.dmc_evacBegins (r : Nat) (scope : List Nat) (s : State) : (s.evacBegins r scope).dmc = s.dmc :=
  ((State.maintAsk_only 4 scope r (Inside.refl _) (Only.refl _ _)).dmc rfl).trans
    ((State.logRec_only _ (Inside.refl _) (Only.refl _ (s.setStw (estatOf r) 0x80000000#32))).dmc rfl)

theorem State.bits_evacBegins (small : r < 256) (scope : List Nat) (s : State) :
    bits 31 8 ((s.evacBegins r scope).stw (estatOf r)) = 0x800000 := by
  have asked : (s.evacBegins r scope).stw (estatOf r) &&& 0xFFFFFF00#32 =
      ((s.setStw (estatOf r) 0x80000000#32).logRec (State.evacRec r .ok s)).stw (estatOf r) &&& 0xFFFFFF00#32 :=
    State.stw_maintAsk scope rfl (estatOf_ne_marb small) _
  rw [← bits_masked]
  refine (congrArg (bits 31 8) asked).trans ?_
  rw [State.stw_logRec_other _ (estatOf_ne_alert r small), State.stw_setStw]
  decide

/-! The start of an evacuation. -/

theorem State.mem_of_pickFree {l : List Nat} (picked : pickFree l s = some p) : p ∈ l := List.mem_of_getElem? picked

/-- The state that copies a rank to a spare, its grant asked for. -/
def State.copyBegins (r p : Nat) (s : State) : State :=
  (s.tickFree.setRank r { s.rank r with st := .copying, spare := p, row := 0, auto := false }).evacBegins r [(s.rank r).phys / 2, p / 2]

/-- The state whose rank has no free spare and no spill area. -/
def State.evacRefused (r : Nat) (s : State) : State :=
  let u := (s.setRank r { s.rank r with auto := false }).evacStatus r .quota
  u.logRec (u.evacRec r .quota)

/-- The state that spills a rank, its grant asked for. -/
def State.spillBegins (r : Nat) (s : State) : State :=
  ((s.setRank r { s.rank r with st := .spilling, auto := false }).modDmc (fun d => { d with spillUsed := nins (rankHalf r) d.spillUsed })).evacBegins
    r [(s.rank r).phys / 2]

theorem State.startEvac_copies (picked : pickFree (s.freeSpares (rankHalf r)) s = some p) : s.startEvac r = s.copyBegins r p := by
  rw [State.startEvac]
  dsimp only
  rw [picked]
  rfl

theorem State.startEvac_refused (none_ : pickFree (s.freeSpares (rankHalf r)) s = none) (used : nmem (rankHalf r) s.dmc.spillUsed = true) :
    s.startEvac r = s.evacRefused r := by
  rw [State.startEvac]
  dsimp only
  rw [none_]
  exact if_pos used

theorem State.startEvac_spills (none_ : pickFree (s.freeSpares (rankHalf r)) s = none) (free : nmem (rankHalf r) s.dmc.spillUsed = false) :
    s.startEvac r = s.spillBegins r := by
  rw [State.startEvac]
  dsimp only
  rw [none_]
  exact if_neg (by simp [free])

theorem State.rank_copyBegins (r p : Nat) (s : State) :
    (s.copyBegins r p).rank r = { s.rank r with st := .copying, spare := p, row := 0, auto := false } := by
  rw [State.rank, State.copyBegins, State.dmc_evacBegins]
  exact State.rank_setRank r _

theorem State.rank_spillBegins (r : Nat) (s : State) :
    (s.spillBegins r).rank r = { s.rank r with st := .spilling, auto := false } := by
  rw [State.rank, State.spillBegins, State.dmc_evacBegins]
  change (s.setRank r { s.rank r with st := .spilling, auto := false }).rank r = _
  exact State.rank_setRank r _

theorem State.spillUsed_spillBegins (r : Nat) (s : State) : nmem (rankHalf r) (s.spillBegins r).dmc.spillUsed = true := by
  rw [State.spillBegins, State.dmc_evacBegins]
  exact (nmem_nins ..).trans (by simp)

theorem State.rank_evacRefused (r : Nat) (s : State) : (s.evacRefused r).rank r = { s.rank r with auto := false } := by
  rw [State.evacRefused, State.rank, (State.logRec_only _ (Inside.refl _) (Only.refl _ _)).dmc rfl]
  exact State.rank_setRank r _

theorem State.bits_evacRefused (small : r < 256) (s : State) : bits 7 0 ((s.evacRefused r).stw (estatOf r)) = Status.quota.code := by
  rw [State.evacRefused, State.stw_logRec_other _ (estatOf_ne_alert r small), State.evacStatus, State.stw_modStw]
  exact bits_setBits _ _ (by decide) (by decide)

/-! The end of an evacuation. -/

theorem State.rank_retireRank (p n : Nat) (s : State) : (s.retireRank p).rank n = s.rank n := by
  refine State.rank_of_ranks ?_ n
  unfold State.retireRank
  dsimp only
  split <;> rfl

theorem State.retired_retireRank (p : Nat) (s : State) : nmem p (s.retireRank p).dmc.retiredRanks = true := by
  have retired : nmem p (nins p s.dmc.retiredRanks) = true := (nmem_nins ..).trans (by simp)
  unfold State.retireRank
  dsimp only
  split <;> exact retired

theorem State.dmc_evacEnd (r p : Nat) (s : State) : (s.evacEnd r p).dmc = (s.retireRank p).dmc :=
  ((State.maintEnd_only 4 r (Inside.refl _) (Only.refl _ _)).dmc rfl).trans
    (((State.fmHealth_only _ (Inside.refl _) (Only.refl _ _)).dmc rfl).trans
      ((State.logRec_only _ (Inside.refl _) (Only.refl _ ((s.retireRank p).setStw (estatOf r) (at32 8 1000)))).dmc rfl))

theorem State.rank_evacEnd (r p n : Nat) (s : State) : (s.evacEnd r p).rank n = s.rank n := by
  rw [State.rank, State.dmc_evacEnd]
  exact State.rank_retireRank p n s

theorem State.retired_evacEnd (r p : Nat) (s : State) : nmem p (s.evacEnd r p).dmc.retiredRanks = true := by
  rw [State.dmc_evacEnd]
  exact State.retired_retireRank p s

theorem State.tier_evacEnd (r p : Nat) (s : State) : (s.evacEnd r p).tier = s.tier :=
  (State.evacEnd_only r p (Inside.refl _) (Only.refl _ s)).tier rfl

theorem State.stw_evacEnd (small : r < 256) (p : Nat) (s : State) : (s.evacEnd r p).stw (estatOf r) = at32 8 1000 := by
  rw [State.evacEnd, (State.maintEnd_only 4 r (Inside.refl _) (Only.refl _ _)).stw rfl, (State.fmHealth_only _ (Inside.refl _) (Only.refl _ _)).stw rfl,
    State.stw_logRec_other _ (estatOf_ne_alert r small), State.stw_setStw]

end

section
variable {r : BitVec 8} {s : State}

theorem rank_small (r : BitVec 8) : r.toNat < 256 := r.isLt

/-! Commands. -/

theorem exec_evacuate_conflict (conflict : s.conflict = true) :
    exec (.evacuate r) s = .next (s.evacStatus r.toNat .stewardConflict) := by
  change execEvacuate r s = _
  exact if_pos conflict

section
variable (calm : s.conflict = false)
include calm

theorem exec_evacuate_busy (busy : s.evacRuns r.toNat = true) : exec (.evacuate r) s = .next (s.evacStatus r.toNat .slotBusy) := by
  change execEvacuate r s = _
  exact (if_neg (by simp [calm])).trans (if_pos busy)

theorem exec_evacuate_state (idle : s.evacRuns r.toNat = false) (other : (s.rank r.toNat).st ≠ .normal) :
    exec (.evacuate r) s = .next (s.evacStatus r.toNat .permission) := by
  change execEvacuate r s = _
  exact (if_neg (by simp [calm])).trans ((if_neg (by simp [idle])).trans (if_pos other))

theorem exec_evacuate_starts (idle : s.evacRuns r.toNat = false) (normal : (s.rank r.toNat).st = .normal) :
    exec (.evacuate r) s = .next (s.startEvac r.toNat) := by
  change execEvacuate r s = _
  exact (if_neg (by simp [calm])).trans ((if_neg (by simp [idle])).trans (if_neg (not_not.mpr normal)))

end

/-- The state whose copy of a rank is given up. -/
def State.evacCancelled (r : Nat) (s : State) : State :=
  let u := (s.setRank r { s.rank r with st := .normal, spare := 0, row := 0 }).setStw (estatOf r) 0#32
  (u.logRec (u.evacRec r .ok)).maintEnd 4 r

theorem State.evacCancelled_eq (small : r.toNat < 256) :
    (s.evacCancelled r.toNat).rank r.toNat = { s.rank r.toNat with st := .normal, spare := 0, row := 0 } ∧
    (s.evacCancelled r.toNat).stw (estatOf r.toNat) = 0#32 := by
  refine ⟨?_, ?_⟩
  · rw [State.rank, State.evacCancelled, (State.maintEnd_only 4 _ (Inside.refl _) (Only.refl _ _)).dmc rfl,
      (State.logRec_only _ (Inside.refl _) (Only.refl _ _)).dmc rfl]
    exact State.rank_setRank r.toNat _
  · rw [State.evacCancelled, (State.maintEnd_only 4 _ (Inside.refl _) (Only.refl _ _)).stw rfl,
      State.stw_logRec_other _ (estatOf_ne_alert _ small), State.stw_setStw]

theorem exec_evacuateCancel_conflict (conflict : s.conflict = true) :
    exec (.evacuateCancel r) s = .next (s.evacStatus r.toNat .stewardConflict) := by
  change execEvacuateCancel r s = _
  exact if_pos conflict

theorem exec_evacuateCancel_copying (calm : s.conflict = false) (copying : (s.rank r.toNat).st = .copying) :
    exec (.evacuateCancel r) s = .next (s.evacCancelled r.toNat) := by
  change execEvacuateCancel r s = _
  exact (if_neg (by simp [calm])).trans (if_neg (not_not.mpr copying))

theorem exec_evacuateCancel_other (calm : s.conflict = false) (other : (s.rank r.toNat).st ≠ .copying) :
    exec (.evacuateCancel r) s = .next (s.evacStatus r.toNat .permission) := by
  change execEvacuateCancel r s = _
  exact (if_neg (by simp [calm])).trans (if_pos other)

/-! The automatic trigger. -/

theorem exec_evacuateAutoTrigger_off (off : bit 31 (s.stw Reg.DMC_ECFG) = false ∨ (s.rank r.toNat).auto = false) :
    exec (.evacuateAutoTrigger r) s = .next s := by
  change execEvacuateAutoTrigger r s = _
  exact if_pos (by simpa using off)

section
variable (on : bit 31 (s.stw Reg.DMC_ECFG) = true) (marked : (s.rank r.toNat).auto = true)
include on marked

theorem exec_evacuateAutoTrigger_other (other : (s.rank r.toNat).st ≠ .normal) :
    exec (.evacuateAutoTrigger r) s = .next (s.setRank r.toNat { s.rank r.toNat with auto := false }) := by
  change execEvacuateAutoTrigger r s = _
  exact (if_neg (by simp [on, marked])).trans (if_pos other)

theorem exec_evacuateAutoTrigger_normal (normal : (s.rank r.toNat).st = .normal) :
    exec (.evacuateAutoTrigger r) s = .next (if s.evacRuns r.toNat then s else s.startEvac r.toNat) := by
  change execEvacuateAutoTrigger r s = _
  refine (if_neg (by simp [on, marked])).trans ((if_neg (not_not.mpr normal)).trans ?_)
  split <;> rfl

end

/-! The copy's end and the switchover. -/

/-- The state that switches over from a copied rank. -/
def State.evacSwitches (r : Nat) (s : State) : State :=
  let u := ((s.evacReads r).modRank r (fun k => { k with st := .switching, row := 1864135 })).modStw (estatOf r) (setBits 17 8 1000)
  u.logRec (u.evacRec r .ok)

theorem exec_evacuateCopyDone_granted (copying : (s.rank r.toNat).st = .copying) (granted : s.holdsGrant 4 r.toNat = true) :
    exec (.evacuateCopyDone r) s = .next (s.evacSwitches r.toNat) := by
  change execEvacuateCopyDone r s = _
  exact if_pos (by simp [copying, granted])

theorem exec_evacuateCopyDone_other (other : (s.rank r.toNat).st ≠ .copying ∨ s.holdsGrant 4 r.toNat = false) :
    exec (.evacuateCopyDone r) s = .next s := by
  change execEvacuateCopyDone r s = _
  exact if_neg (by obtain h | h := other <;> simp [h])

theorem State.evacSwitches_eq (small : r.toNat < 256) :
    ((s.evacSwitches r.toNat).rank r.toNat).st = .switching ∧ ((s.evacSwitches r.toNat).rank r.toNat).row = 1864135 ∧
    ((s.evacSwitches r.toNat).rank r.toNat).phys = (s.rank r.toNat).phys ∧
    ((s.evacSwitches r.toNat).rank r.toNat).spare = (s.rank r.toNat).spare ∧
    bits 17 8 ((s.evacSwitches r.toNat).stw (estatOf r.toNat)) = 1000 := by
  have place := (readsOnly_evacReads r.toNat s).places.place r.toNat
  have rank : (s.evacSwitches r.toNat).rank r.toNat = { (s.evacReads r.toNat).rank r.toNat with st := .switching, row := 1864135 } := by
    rw [State.rank, State.evacSwitches, (State.logRec_only _ (Inside.refl _) (Only.refl _ _)).dmc rfl]
    exact State.rank_setRank r.toNat _
  rw [rank]
  refine ⟨rfl, rfl, (congrArg Rank.phys place :), (congrArg Rank.spare place :), ?_⟩
  rw [State.evacSwitches, State.stw_logRec_other _ (estatOf_ne_alert _ small), State.stw_modStw]
  exact bits_setBits _ _ (by decide) (by decide)

/-- A rank that a spare has taken the place of. -/
def Rank.spared (k : Rank) : Rank := { k with st := .spared, phys := k.spare, spare := 0, row := 0 }

theorem exec_switchoverEnd_granted (switching : (s.rank r.toNat).st = .switching) (granted : s.holdsGrant 4 r.toNat = true) :
    exec (.switchoverEnd r) s = .next ((s.setRank r.toNat (s.rank r.toNat).spared).evacEnd r.toNat (s.rank r.toNat).phys) := by
  change execSwitchoverEnd r s = _
  exact if_pos (by simp [switching, granted])

theorem exec_switchoverEnd_other (other : (s.rank r.toNat).st ≠ .switching ∨ s.holdsGrant 4 r.toNat = false) :
    exec (.switchoverEnd r) s = .next s := by
  change execSwitchoverEnd r s = _
  exact if_neg (by obtain h | h := other <;> simp [h])

/-! The spill. -/

section
variable {l : List Nat} {u : Nat} {v : State}

theorem exec_spillDone_other
    (other : (s.rank r.toNat).st ≠ .spilling ∨ s.holdsGrant 4 r.toNat = false ∨ bit 30 (s.stw (estatOf r.toNat)) = true) :
    exec (.spillDone r) s = .next s := by
  change execSpillDone r s = _
  exact if_neg (by obtain h | h | h := other <;> simp [h])

section
variable (spilling : (s.rank r.toNat).st = .spilling) (granted : s.holdsGrant 4 r.toNat = true)
  (runs : bit 30 (s.stw (estatOf r.toNat)) = false)
  (hl : l = (ninsAll ((s.rankBytes r.toNat).map (fun c => c.1 / 4096)) []).filter (fun u => (s.rank r.toNat).row ≤ u))
include spilling granted runs hl

theorem exec_spillDone_whole (spilled : s.spillUnits r.toNat (s.rankBytes r.toNat) l = (none, v)) : exec (.spillDone r) s =
    .next (((v.evacReads r.toNat).modRank r.toNat (fun k => { k with st := .spilled })).evacEnd r.toNat (s.rank r.toNat).phys) := by
  subst hl
  change execSpillDone r s = _
  rw [execSpillDone]
  dsimp only
  rw [if_pos (by simp [spilling, granted, runs]), spilled]

theorem exec_spillDone_parks (parked : s.spillUnits r.toNat (s.rankBytes r.toNat) l = (some u, v)) : exec (.spillDone r) s =
    .next ((v.modRank r.toNat (fun k => { k with row := u })).modStw (estatOf r.toNat) (setBit 30 true)) := by
  subst hl
  change execSpillDone r s = _
  rw [execSpillDone]
  dsimp only
  rw [if_pos (by simp [spilling, granted, runs]), parked]

end

end

end

section
variable {s : State} {r u i : Nat} {b : List Byte}

theorem State.spillUnit_coded (coded : unitCodes b = true) : s.spillUnit r u b = (true, s) := if_pos coded

theorem State.spillUnit_escapes (raw : unitCodes b = false) (free : s.freeEscape (rankHalf r) = some i) :
    s.spillUnit r u b = (true, (s.modTier (fun t => { t with escUsed := nins i t.escUsed, esc := mwrite (4096 * i) b t.esc })).modDmc
      (fun m => { m with spillEsc := tput (r * 2 ^ 24 + u) i m.spillEsc })) := by
  rw [State.spillUnit, if_neg (by simp [raw]), free]

theorem State.spillUnit_full (raw : unitCodes b = false) (full : s.freeEscape (rankHalf r) = none) :
    s.spillUnit r u b = (false, s.cntStw (Reg.CMP_FIX + 4 * rankHalf r) 3 0 1) := by
  rw [State.spillUnit, if_neg (by simp [raw]), full]

theorem exec_spillResume_full {h : Half} (full : s.escFull (halfIdx h) = true) : exec (.spillResume h) s = .next s := by
  change execSpillResume h s = _
  exact congrArg Host.Outcome.next (if_pos full)

theorem exec_spillResume_room {h : Half} (room : s.escFull (halfIdx h) = false) :
    exec (.spillResume h) s = .next (s.modStw (Reg.DMC_ESTAT + 4 * halfIdx h) (setBit 30 false)) := by
  change execSpillResume h s = _
  exact congrArg Host.Outcome.next (if_neg (by simp [room]))

end

/-- Settles O52: an evacuation by its state (`State.startEvac`, `State.evacSwitches`, `State.evacEnd`), its reads by what they leave
(`readsOnly_evacReads`). -/
theorem ranksAreEvacuated : Obligations.RanksAreEvacuated := by
  refine ⟨fun r s calm idle normal => ⟨fun p picked => ?copies, fun none_ free => ?spills, fun none_ used => ?refused⟩,
    fun r s => ⟨exec_evacuate_conflict, exec_evacuate_busy, exec_evacuate_state⟩,
    fun r s => ⟨exec_evacuateCancel_conflict, fun calm copying =>
      ⟨_, exec_evacuateCancel_copying calm copying, State.evacCancelled_eq (rank_small r)⟩, exec_evacuateCancel_other⟩,
    fun r s => ⟨exec_evacuateAutoTrigger_off, exec_evacuateAutoTrigger_other, exec_evacuateAutoTrigger_normal⟩,
    fun r s => ⟨fun copying granted => ⟨_, exec_evacuateCopyDone_granted copying granted, State.evacSwitches_eq (rank_small r)⟩,
      exec_evacuateCopyDone_other⟩,
    fun r s => ⟨fun switching granted => ⟨_, exec_switchoverEnd_granted switching granted, ?switched⟩, exec_switchoverEnd_other⟩,
    fun r l s => ⟨fun spilling granted runs hl => ⟨fun v spilled => ⟨_, exec_spillDone_whole spilling granted runs hl spilled, ?spilled⟩,
      fun u v parked => exec_spillDone_parks spilling granted runs hl parked⟩, exec_spillDone_other⟩,
    fun r u b s => ⟨State.spillUnit_coded, fun i raw free => ?escapes, State.spillUnit_full⟩,
    fun h s => ⟨exec_spillResume_full, fun room => ⟨_, exec_spillResume_room room, ?resumed, rfl⟩⟩⟩
  case copies =>
    have run := exec_evacuate_starts calm idle normal
    rw [State.startEvac_copies picked] at run
    have rank := State.rank_copyBegins r.toNat p s
    exact ⟨_, run, (congrArg Rank.st rank :), (congrArg Rank.spare rank :), (congrArg Rank.phys rank :), State.mem_of_pickFree picked,
      State.bits_evacBegins (rank_small r) _ _⟩
  case spills =>
    have run := exec_evacuate_starts calm idle normal
    rw [State.startEvac_spills none_ free] at run
    exact ⟨_, run, (congrArg Rank.st (State.rank_spillBegins r.toNat s) :), State.spillUsed_spillBegins r.toNat s⟩
  case refused =>
    have run := exec_evacuate_starts calm idle normal
    rw [State.startEvac_refused none_ used] at run
    exact ⟨_, run, (congrArg Rank.st (State.rank_evacRefused r.toNat s)).trans normal, State.bits_evacRefused (rank_small r) s⟩
  case switched =>
    refine ⟨?_, State.retired_evacEnd .., ?_⟩
    · rw [State.rank_evacEnd, State.rank_setRank]
      rfl
    · rw [State.stw_evacEnd (rank_small r)]
      decide
  case spilled =>
    refine ⟨?_, State.retired_evacEnd .., ?_⟩
    · rw [State.rank_evacEnd, State.modRank, State.rank_setRank]
    · rw [State.tier_evacEnd]
      exact (readsOnly_evacReads r.toNat v).esc
  case escapes =>
    rw [State.spillUnit_escapes raw free]
    exact ⟨rfl, (nmem_nins ..).trans (by simp), tfind_tput_same ..⟩
  case resumed =>
    rw [State.stw_modStw]
    exact bit_setBit _ _ (by decide)

end Sys2Proof.Machine


/-! Cistern banks and their ports (R345 to R347, R349, R350, R353, R356 to R358, R429). -/

namespace Sys2Proof.Machine

open Safety

/-! A bank after an update of a bank. -/

section
variable {s t : State}

@[simp] theorem State.bank_setBank (n : Nat) (v : Bank) (s : State) : (s.setBank n v).bank n = v := tget_tset_same _ _ _ _

theorem State.bank_setBank_other {m n : Nat} (v : Bank) (other : m ≠ n) : (s.setBank n v).bank m = s.bank m := tget_tset_other _ _ _ other _

@[simp] theorem State.bank_modBank (n : Nat) (f : Bank → Bank) (s : State) : (s.modBank n f).bank n = f (s.bank n) := s.bank_setBank n _

theorem State.bank_modBank_other {m n : Nat} (f : Bank → Bank) (other : m ≠ n) : (s.modBank n f).bank m = s.bank m :=
  s.bank_setBank_other _ other

theorem State.bank_of_banks (same : t.cst.banks = s.cst.banks) (n : Nat) : t.bank n = s.bank n := by
  rw [State.bank, same, State.bank]

@[simp] theorem State.bank_modStw (n off : Nat) (f : W32 → W32) : (s.modStw off f).bank n = s.bank n := rfl
@[simp] theorem State.bank_bcStatus (n : Nat) (c : Status) : (s.bcStatus c).bank n = s.bank n := rfl
@[simp] theorem State.bank_zeroBank (n b : Nat) : (s.zeroBank b).bank n = s.bank n := rfl
@[simp] theorem State.bank_dropBank (n b : Nat) : (s.dropBank b).bank n = s.bank n := rfl
@[simp] theorem State.bank_bankRetired (n b : Nat) : (s.bankRetired b).bank n = s.bank n :=
  State.bank_of_banks (congrArg Cst.banks ((State.bankRetired_only b (Inside.refl _) (Only.refl _ s)).cst rfl)) n

end

/-! The bytes of a bank after it has been cleared, and its staging entries after it has been dropped. -/

theorem tget_filter_kept {α : Type} {d : α} {k : Nat} {p : Nat × α → Bool} (keep : ∀ v, p (k, v) = true) (t : Tab α) :
    tget d k (t.filter p) = tget d k t := by
  induction t with
  | nil => rfl
  | cons e r ih =>
    obtain ⟨j, v⟩ := e
    by_cases here : j = k
    · subst here
      simp [keep, tget]
    · by_cases kept : p (j, v) = true
      · rw [List.filter_cons_of_pos kept, tget, if_neg here, tget, if_neg here, ih]
      · rw [List.filter_cons_of_neg kept, tget, if_neg here, ih]

theorem tget_filter_out {α : Type} {d : α} {k : Nat} {p : Nat × α → Bool} (out : ∀ v, p (k, v) = false) (t : Tab α) :
    tget d k (t.filter p) = d := by
  induction t with
  | nil => rfl
  | cons e r ih =>
    obtain ⟨j, v⟩ := e
    by_cases here : j = k
    · subst here
      rw [List.filter_cons_of_neg (by simp [out]), ih]
    · by_cases kept : p (j, v) = true
      · rw [List.filter_cons_of_pos kept, tget, if_neg here, ih]
      · rw [List.filter_cons_of_neg kept, ih]

theorem mget_mclear_inside {lo len a : Nat} (m : Mem) (low : lo ≤ a) (high : a < lo + len) : mget a (mclear lo len m) = 0#8 :=
  tget_filter_out (fun _ => by simp; omega) m

theorem mget_mclear_outside {lo len a : Nat} (m : Mem) (out : a < lo ∨ lo + len ≤ a) : mget a (mclear lo len m) = mget a m :=
  tget_filter_kept (fun _ => by simpa using out) m

theorem State.mget_zeroBank (b : Nat) {a : Nat} (inside : a < 524288) (s : State) : mget (524288 * b + a) (s.zeroBank b).cst.mem = 0#8 :=
  mget_mclear_inside _ (by simp only [bankSize]; omega) (by simp only [bankSize]; omega)

theorem State.mget_zeroBank_outside {b a : Nat} (out : a < 524288 * b ∨ 524288 * (b + 1) ≤ a) (s : State) :
    mget a (s.zeroBank b).cst.mem = mget a s.cst.mem :=
  mget_mclear_outside _ (by simp only [bankSize]; omega)

theorem tget_default_or_mem {α : Type} (d : α) (k : Nat) (t : Tab α) : tget d k t = d ∨ (k, tget d k t) ∈ t := by
  induction t with
  | nil => exact .inl rfl
  | cons e r ih =>
    obtain ⟨j, v⟩ := e
    by_cases here : j = k
    · subst here
      simp [tget]
    · rw [tget, if_neg here]
      exact ih.imp_right (List.mem_cons_of_mem _)

/-- After a bank is dropped no engine has a staging entry in it. -/
theorem State.staged_dropBank {b : Nat} {s t : State} (same : t.fes = (s.dropBank b).fes) {n : Nat} {x : Staged}
    (mem : x ∈ (t.fe n).staged) : x.bank ≠ b := by
  rw [State.fe, same] at mem
  obtain absent | listed := tget_default_or_mem {} n (s.dropBank b).fes
  · rw [absent] at mem
    cases mem
  · obtain ⟨e, -, made⟩ := List.mem_filterMap.1 listed
    dsimp only at made
    split at made
    · cases made
    · obtain ⟨-, entry⟩ := Prod.mk.inj (Option.some.inj made)
      rw [← entry] at mem
      simpa using (List.mem_filter.1 mem).2

/-! CST_BCMD. -/

section
variable {s : State} {b : BankId} {c : Status}

theorem State.bcCheck_eq (b : Nat) (bad denied : Bool) (s : State) : s.bcCheck b bad denied = (if s.conflict then .stewardConflict
    else if s.bcBusy = true ∨ (s.bank b).kind = .test ∨ (s.bank b).ps = .filling ∨ (s.bank b).handover ≠ none then .slotBusy
    else if bad then .badDescriptor
    else if (s.bank b).kind = .mgmt ∨ (s.bank b).kind = .work ∨ (s.bank b).kind = .job ∨ denied = true then .permission else .ok) := by
  simp [State.bcCheck, Option.isSome_iff_ne_none, or_assoc]

/-- What refuses BANK_GIVE_STAGE of a bank to an engine, behind the checks that every OP shares (R346). -/
def State.giveDenied (b f : Nat) (s : State) : Bool :=
  !((s.bank b).kind = .free || (s.bank b).kind = .stage) ||
    ((s.bank b).kind = .stage && (s.bank b).owner ≠ f && (s.fe (s.bank b).owner).ctl.st = .inService && (s.sbanks (s.bank b).owner).length ≤ 2) ||
    (!((s.bank b).kind = .stage && (s.bank b).owner = f) && (s.sbanks f).length ≥ 15)

theorem exec_bankGiveStage_ok {f : BitVec 4}
    (ok : s.bcCheck b.toNat (decide (bankHalf b.toNat ≠ feHalf f.toNat)) (s.giveDenied b.toNat f.toNat) = .ok) :
    exec (.bankGiveStage b f) s = .next (s.startHandover b.toNat (some f.toNat) .stage) := by
  change execBankGiveStage b f s = _
  simp only [State.giveDenied] at ok
  simp only [execBankGiveStage, ok]

theorem exec_bankGiveStage_refused {f : BitVec 4}
    (refused : s.bcCheck b.toNat (decide (bankHalf b.toNat ≠ feHalf f.toNat)) (s.giveDenied b.toNat f.toNat) = c) (bad : c ≠ .ok) :
    exec (.bankGiveStage b f) s = .next (s.bcStatus c) := by
  change execBankGiveStage b f s = _
  simp only [State.giveDenied] at refused
  simp only [execBankGiveStage, refused]

theorem exec_bankReturnPool (check : s.bcCheck b.toNat false ((s.bank b.toNat).kind = .retired && !(s.bank b.toNat).mpass) = c) :
    exec (.bankReturnPool b) s = .next (if c = .ok ∧ (s.bank b.toNat).kind ≠ .free then s.startHandover b.toNat none .free
      else s.bcStatus c) := by
  change execBankReturnPool b s = _
  simp only [execBankReturnPool, check]
  split
  · by_cases free : (s.bank b.toNat).kind = .free <;> simp [free]
  next bad => rw [if_neg (fun both => bad both.1)]

theorem exec_bankRetire_stage (ok : s.bcCheck b.toNat false false = .ok) (stage : (s.bank b.toNat).kind = .stage) :
    exec (.bankRetire b) s = .next (s.startHandover b.toNat none .retired) := by
  change execBankRetire b s = _
  simp only [execBankRetire, ok, stage]

theorem exec_bankRetire_retired (ok : s.bcCheck b.toNat false false = .ok) (retired : (s.bank b.toNat).kind = .retired) :
    exec (.bankRetire b) s = .next (s.bcStatus .ok) := by
  change execBankRetire b s = _
  simp only [execBankRetire, ok, retired]

theorem exec_bankRetire_free (ok : s.bcCheck b.toNat false false = .ok) (free : (s.bank b.toNat).kind = .free) : exec (.bankRetire b) s =
    .next (((s.modBank b.toNat (fun k => { k with kind := .retired })).bcStatus .ok).bankRetired b.toNat) := by
  change execBankRetire b s = _
  simp only [execBankRetire, ok, free]

theorem exec_bankPowerOn_ok (ok : s.bcCheck b.toNat false false = .ok) :
    exec (.bankPowerOn b) s = .next ((s.wakeBank b.toNat).bcStatus .ok) := by
  change execBankPowerOn b s = _
  simp only [execBankPowerOn, ok]

theorem exec_bankRetention_ok (ok : s.bcCheck b.toNat false false = .ok) :
    exec (.bankRetention b) s = .next ((s.toRetention b.toNat).bcStatus .ok) := by
  change execBankRetention b s = _
  simp only [execBankRetention, ok]

theorem exec_bankFallow_ok (ok : s.bcCheck b.toNat false false = .ok) :
    exec (.bankFallow b) s = .next ((s.toFallow b.toNat).bcStatus .ok) := by
  change execBankFallow b s = _
  simp only [execBankFallow, ok]

theorem exec_bankRetire_refused (check : s.bcCheck b.toNat false false = c) (bad : c ≠ .ok) :
    exec (.bankRetire b) s = .next (s.bcStatus c) := by
  change execBankRetire b s = _
  simp only [execBankRetire, check]

theorem exec_bankPowerOn_refused (check : s.bcCheck b.toNat false false = c) (bad : c ≠ .ok) :
    exec (.bankPowerOn b) s = .next (s.bcStatus c) := by
  change execBankPowerOn b s = _
  simp only [execBankPowerOn, check]

theorem exec_bankRetention_refused (check : s.bcCheck b.toNat false false = c) (bad : c ≠ .ok) :
    exec (.bankRetention b) s = .next (s.bcStatus c) := by
  change execBankRetention b s = _
  simp only [execBankRetention, check]

theorem exec_bankFallow_refused (check : s.bcCheck b.toNat false false = c) (bad : c ≠ .ok) :
    exec (.bankFallow b) s = .next (s.bcStatus c) := by
  change execBankFallow b s = _
  simp only [execBankFallow, check]

/-- A bank that is given away is handed over to the engine, and BUSY is set until it is done. -/
theorem yields_bankGiveStage {f : BitVec 4}
    (ok : s.bcCheck b.toNat (decide (bankHalf b.toNat ≠ feHalf f.toNat)) (s.giveDenied b.toNat f.toNat) = .ok) :
    Yields (.bankGiveStage b f) s (fun t => t.bank b.toNat = { s.bank b.toNat with handover := some (some f.toNat), next := some .stage } ∧
      bit 31 (t.stw Reg.CST_BCSTAT) = true ∧ (∀ n, n ≠ b.toNat → t.bank n = s.bank n) ∧ t = { s with cst := t.cst, reg := t.reg }) := by
  refine ⟨_, exec_bankGiveStage_ok ok, ?_, ?_, fun n other => ?_, rfl⟩
  · rw [State.startHandover, State.bank_modStw, State.bank_modBank]
  · rw [State.startHandover, State.stw_modStw]
    exact bit_setBit true _ (by decide)
  · rw [State.startHandover, State.bank_modStw, State.bank_modBank_other _ other]

theorem yields_bankRetire_free (ok : s.bcCheck b.toNat false false = .ok) (free : (s.bank b.toNat).kind = .free) :
    Yields (.bankRetire b) s (fun t => (t.bank b.toNat).kind = .retired ∧ t = { s with cst := t.cst, reg := t.reg, mgmt := t.mgmt }) := by
  refine ⟨_, exec_bankRetire_free ok free, ?_, ?_⟩
  · rw [State.bank_bankRetired, State.bank_bcStatus, State.bank_modBank]
  · exact (State.bankRetired_only (Fm := 1133871366160) _ ((Inside.refl _).sub rfl)
      (State.bcStatus_only _ ((Inside.refl _).sub rfl) (State.modBank_only _ _ ((Inside.refl _).sub rfl) (Only.refl _ s)))).eq

theorem State.bank_toRetention (n : Nat) (s : State) : (s.toRetention n).bank n =
    { s.bank n with ps := if (s.bank n).ps = .on then .retention else (s.bank n).ps } := by
  rw [State.toRetention, State.bank_modBank]
  split
  · rfl
  · rfl

theorem yields_bankRetention (ok : s.bcCheck b.toNat false false = .ok) :
    Yields (.bankRetention b) s (fun t => t.bank b.toNat = { s.bank b.toNat with
      ps := if (s.bank b.toNat).ps = .on then .retention else (s.bank b.toNat).ps } ∧ t.cst.mem = s.cst.mem ∧ t = { s with cst := t.cst, reg := t.reg }) :=
  ⟨_, exec_bankRetention_ok ok, s.bank_toRetention b.toNat, rfl, rfl⟩

theorem State.toFallow_powered {n : Nat} (powered : (s.bank n).ps = .on ∨ (s.bank n).ps = .retention) : s.toFallow n =
    (((s.dropBank n).zeroBank n).modBank n (fun k => { k with ps := .fallow })).modCst (fun c => { c with waking := ndel n c.waking }) :=
  if_pos (by simpa using powered)

theorem State.toFallow_fallow {n : Nat} (fallow : (s.bank n).ps = .fallow) : s.toFallow n = s := by
  rw [State.toFallow, if_neg (by simp [fallow])]

/-- The state as BANK_FALLOW of a powered bank leaves it. -/
def State.fallowed (n : Nat) (s : State) : State :=
  ((((s.dropBank n).zeroBank n).modBank n (fun k => { k with ps := .fallow })).modCst (fun c => { c with waking := ndel n c.waking })).bcStatus .ok

theorem State.mem_fallowed (n : Nat) (s : State) : (s.fallowed n).cst.mem = (s.zeroBank n).cst.mem := rfl

theorem State.fes_fallowed (n : Nat) (s : State) : (s.fallowed n).fes = (s.dropBank n).fes := rfl

theorem State.bank_modWaking (n : Nat) (f : NSet → NSet) (s : State) : (s.modCst (fun c => { c with waking := f c.waking })).bank n = s.bank n := rfl

theorem State.bank_fallowed (n : Nat) (s : State) : (s.fallowed n).bank n = { s.bank n with ps := .fallow } := by
  rw [State.fallowed, State.bank_bcStatus, State.bank_modWaking, State.bank_modBank, State.bank_zeroBank, State.bank_dropBank]

theorem yields_bankFallow (ok : s.bcCheck b.toNat false false = .ok) (powered : (s.bank b.toNat).ps = .on ∨ (s.bank b.toNat).ps = .retention) :
    Yields (.bankFallow b) s (fun t => t.bank b.toNat = { s.bank b.toNat with ps := .fallow } ∧
      (∀ a, a < 524288 → mget (524288 * b.toNat + a) t.cst.mem = 0#8) ∧
      (∀ a, a < 524288 * b.toNat ∨ 524288 * (b.toNat + 1) ≤ a → mget a t.cst.mem = mget a s.cst.mem) ∧
      (∀ n x, x ∈ (t.fe n).staged → x.bank ≠ b.toNat)) := by
  have next := exec_bankFallow_ok ok
  rw [State.toFallow_powered powered] at next
  refine ⟨s.fallowed b.toNat, next, s.bank_fallowed b.toNat, fun a inside => ?_, fun a out => ?_,
    fun _ _ => State.staged_dropBank (s.fes_fallowed b.toNat)⟩
  · rw [State.mem_fallowed, s.mget_zeroBank b.toNat inside]
  · rw [State.mem_fallowed, State.mget_zeroBank_outside out]

end

/-! Handovers, zero fills, wakes and allotments. -/

section
variable {s : State} {b : BankId}

theorem State.retryAllot_none (s : State) (idle : s.cst.allotWait = []) : s.retryAllot = s := by
  rw [State.retryAllot, idle, forAll_nil]

theorem exec_handoverComplete_waits (waits : (s.bank b.toNat).handover = none ∨ s.bankRead b.toNat = true) :
    exec (.handoverComplete b) s = .next s := by
  change execHandoverComplete b s = _
  unfold execHandoverComplete
  dsimp only
  split
  · rfl
  next handed => exact if_pos (waits.resolve_left (by simp [handed]))

/-- A bank as its handover leaves it. -/
def Bank.handedOver (dst : Option Nat) (k : Bank) : Bank :=
  { k with kind := k.next.getD .free, owner := dst.getD 0, ps := .on, handover := none, next := none }

/-- The state as a handover that is complete leaves it, but for the record of a bank retired and for what waits for a bank. -/
def State.handed (n : Nat) (dst : Option Nat) (s : State) : State :=
  (((s.dropBank n).zeroBank n).setBank n ((s.bank n).handedOver dst)).modStw Reg.CST_BCSTAT (setBit 31 false)

theorem exec_handoverComplete {dst : Option Nat} (handed : (s.bank b.toNat).handover = some dst) (quiet : s.bankRead b.toNat = false)
    (idle : (s.bank b.toNat).next ≠ some .free ∨ s.cst.allotWait = []) : exec (.handoverComplete b) s =
      .next (if (s.bank b.toNat).next = some .retired then (s.handed b.toNat dst).bankRetired b.toNat else s.handed b.toNat dst) := by
  change execHandoverComplete b s = _
  simp only [execHandoverComplete, handed, quiet, Bool.false_eq_true, if_false]
  change Host.Outcome.next (match (s.bank b.toNat).next with
    | some .retired => (s.handed b.toNat dst).bankRetired b.toNat
    | some .free => (s.handed b.toNat dst).retryAllot
    | _ => s.handed b.toNat dst) = _
  split
  next same => rw [if_pos same]
  next same =>
    rw [if_neg (by simp [same]), State.retryAllot_none]
    exact idle.resolve_left (not_not_intro same)
  next other _ => rw [if_neg other]

/-- What the end of a handover leaves, whatever it records. -/
structure HandedOver (b : Nat) (dst : Option Nat) (s t : State) : Prop where
  bank : t.bank b = (s.bank b).handedOver dst
  zero : ∀ a, a < 524288 → mget (524288 * b + a) t.cst.mem = 0#8
  busy : bit 31 (t.stw Reg.CST_BCSTAT) = false
  staged : ∀ n x, x ∈ (t.fe n).staged → x.bank ≠ b
  only : Only 1133938475024 s t

theorem handedOver_handed (n : Nat) (dst : Option Nat) (s : State) : HandedOver n dst s (s.handed n dst) where
  bank := by rw [State.handed, State.bank_modStw, State.bank_setBank]
  zero _ inside := (s.dropBank n).mget_zeroBank n inside
  busy := by
    rw [State.handed, State.stw_modStw]
    exact bit_setBit false _ (by decide)
  staged _ _ := State.staged_dropBank rfl
  only := State.modStw_only _ _ ((Inside.refl _).sub rfl) (State.setBank_only _ _ ((Inside.refl _).sub rfl)
    (State.zeroBank_only _ ((Inside.refl _).sub rfl) (State.dropBank_only _ ((Inside.refl _).sub rfl) (Only.refl _ s))))

theorem HandedOver.bankRetired {n : Nat} {dst : Option Nat} {t : State} (h : HandedOver n dst s t) : HandedOver n dst s (t.bankRetired n) := by
  have only := State.bankRetired_only n (Inside.refl _) (Only.refl _ t)
  obtain ⟨bank, zero, busy, staged, before⟩ := h
  refine ⟨?_, ?_, ?_, ?_, State.bankRetired_only n ((Inside.refl _).sub rfl) before⟩
  · rw [State.bank_bankRetired, bank]
  · rw [only.cst rfl]
    exact zero
  · rw [State.stw, only.reg rfl]
    exact busy
  · intro m x mem
    rw [State.fe, only.fes rfl] at mem
    exact staged m x mem

theorem yields_handoverComplete {dst : Option Nat} (handed : (s.bank b.toNat).handover = some dst) (quiet : s.bankRead b.toNat = false)
    (idle : (s.bank b.toNat).next ≠ some .free ∨ s.cst.allotWait = []) : Yields (.handoverComplete b) s (HandedOver b.toNat dst s) := by
  refine ⟨_, exec_handoverComplete handed quiet idle, ?_⟩
  split
  · exact (handedOver_handed ..).bankRetired
  · exact handedOver_handed ..

theorem exec_zeroFillDone (filling : (s.bank b.toNat).ps = .filling) : exec (.zeroFillDone b) s = .next (match (s.bank b.toNat).next with
    | some k => ((s.zeroBank b.toNat).setBank b.toNat { s.bank b.toNat with kind := k, owner := 0, ps := .on, next := none }).retryAllot
    | none => ((s.zeroBank b.toNat).setBank b.toNat { s.bank b.toNat with ps := .on }).retryAllot) := by
  change execZeroFillDone b s = _
  cases kind : (s.bank b.toNat).next with
  | none => simp only [execZeroFillDone, filling, kind, if_true]
  | some k => simp only [execZeroFillDone, filling, kind, if_true]

theorem exec_zeroFillDone_idle (idle : (s.bank b.toNat).ps ≠ .filling) : exec (.zeroFillDone b) s = .next s := by
  change execZeroFillDone b s = _
  exact if_neg idle

theorem exec_bankWakeDone_idle (idle : nmem b.toNat s.cst.waking = false) : exec (.bankWakeDone b) s = .next s := by
  change execBankWakeDone b s = _
  exact if_neg (by simp [idle])

theorem yields_bankWakeDone (waking : nmem b.toNat s.cst.waking = true) : Yields (.bankWakeDone b) s (fun t =>
    t.bank b.toNat = { s.bank b.toNat with ps := if (s.bank b.toNat).ps = .retention then .on else (s.bank b.toNat).ps } ∧
    t.cst.waking = ndel b.toNat s.cst.waking ∧ t.cst.mem = s.cst.mem ∧ t = { s with cst := t.cst }) := by
  have next : exec (.bankWakeDone b) s = .next ((s.modCst (fun c => { c with waking := ndel b.toNat c.waking })).modBank b.toNat (fun k =>
      if k.ps = .retention then { k with ps := .on } else k)) := by
    change execBankWakeDone b s = _
    exact if_pos waking
  refine ⟨_, next, ?_, rfl, rfl, rfl⟩
  rw [State.bank_modBank]
  change (if (s.bank b.toNat).ps = .retention then _ else s.bank b.toNat) = _
  split
  · rfl
  · rfl

/-- The allotment of a job is done, or no longer asked for. -/
def State.allotted (n : Nat) (s : State) : State :=
  s.modCst (fun c => { c with allotWait := c.allotWait.filter (fun j => j ≠ n) })

theorem State.allotJob_free {n x : Nat} {j : Job} (found : s.job n = some j) (needs : j.banks.length < j.needBanks)
    (free : s.freeBank j.half = some x) : s.allotJob n =
      (((s.wakeBank x).modBank x (fun k => { k with kind := .job, owner := n })).modJob n (fun j => { j with banks := j.banks ++ [x] })).allotted n := by
  simp only [State.allotJob, State.allotBank, found, free, if_neg (Nat.not_le.2 needs)]
  rfl

theorem State.allotJob_none {n : Nat} {j : Job} (found : s.job n = some j) (needs : j.banks.length < j.needBanks)
    (taken : s.freeBank j.half = none) : s.allotJob n =
      if s.cst.allotWait.contains n then s else s.modCst (fun c => { c with allotWait := c.allotWait ++ [n] }) := by
  simp only [State.allotJob, State.allotBank, found, taken, if_neg (Nat.not_le.2 needs)]

theorem State.allotJob_enough {n : Nat} (enough : ∀ j, s.job n = some j → j.needBanks ≤ j.banks.length) : s.allotJob n = s.allotted n := by
  unfold State.allotJob
  split
  · rfl
  next j found => exact if_pos (enough j found)

theorem State.jobs_wakeBank (n : Nat) (s : State) : (s.wakeBank n).jobs = s.jobs := by
  unfold State.wakeBank
  split
  · rfl
  · rfl
  · rfl

theorem State.wakeBank_on {n : Nat} (on : (s.bank n).ps = .on) : s.wakeBank n = s := by
  simp only [State.wakeBank, on]

theorem State.job_of_allotted (n m : Nat) (s : State) : (s.allotted n).job m = s.job m := rfl

theorem State.job_modBank (b m : Nat) (f : Bank → Bank) (s : State) : (s.modBank b f).job m = s.job m := rfl

theorem State.job_wakeBank (n m : Nat) (s : State) : (s.wakeBank n).job m = s.job m := by
  rw [State.job, State.jobs_wakeBank, State.job]

theorem State.job_allotted {n x : Nat} {j : Job} {f : Bank → Bank} (found : s.job n = some j) :
    ((((s.wakeBank x).modBank x f).modJob n (fun j => { j with banks := j.banks ++ [x] })).allotted n).job n =
      some { j with banks := j.banks ++ [x] } := by
  have same : ((s.wakeBank x).modBank x f).job n = some j := by
    rw [State.job_modBank, State.job_wakeBank, found]
  rw [State.job_of_allotted]
  exact State.job_modJob (f := fun j => { j with banks := j.banks ++ [x] }) same (fun _ => rfl)

theorem State.bank_allotted (n id m : Nat) (f : Job → Job) (s : State) : ((s.modJob id f).allotted n).bank m = s.bank m := rfl

theorem exec_bankAllot {n : Nat} {t : State} (next : s.allotJob n = t) : exec (.bankAllot n) s = .next t := by
  change execBankAllot n s = _
  rw [execBankAllot, next]

theorem yields_bankAllot {n x : Nat} {j : Job} (found : s.job n = some j) (needs : j.banks.length < j.needBanks)
    (free : s.freeBank j.half = some x) : Yields (.bankAllot n) s (fun t => (t.bank x).kind = .job ∧ (t.bank x).owner = n ∧
      t.job n = some { j with banks := j.banks ++ [x] }) := by
  refine ⟨_, exec_bankAllot (State.allotJob_free found needs free), ?_, ?_, ?_⟩
  · rw [State.bank_allotted, State.bank_modBank]
  · rw [State.bank_allotted, State.bank_modBank]
  · rw [State.job_allotted found]

theorem yields_bankAllot_on {n x : Nat} {j : Job} (found : s.job n = some j) (needs : j.banks.length < j.needBanks)
    (free : s.freeBank j.half = some x) (on : (s.bank x).ps = .on) : Yields (.bankAllot n) s (fun t =>
      t.bank x = { s.bank x with kind := .job, owner := n } ∧
      t.job n = some { j with banks := j.banks ++ [x] } ∧ t = { s with cst := t.cst, jobs := t.jobs }) := by
  have job := State.job_allotted (x := x) (f := fun k => { k with kind := .job, owner := n }) found
  have next := State.allotJob_free found needs free
  rw [State.wakeBank_on on] at job next
  refine ⟨_, exec_bankAllot next, ?_, job, ?_⟩
  · rw [State.bank_allotted, State.bank_modBank]
  · exact (State.modCst_only (Fm := 34363932672) _ ((Inside.refl _).sub rfl)
      (State.modJob_only _ _ ((Inside.refl _).sub rfl) (State.modBank_only _ _ ((Inside.refl _).sub rfl) (Only.refl _ s)))).eq

theorem yields_bankAllot_waits {n : Nat} {j : Job} (found : s.job n = some j) (needs : j.banks.length < j.needBanks)
    (taken : s.freeBank j.half = none) : Yields (.bankAllot n) s (fun t => n ∈ t.cst.allotWait ∧ t.cst.banks = s.cst.banks ∧ t.jobs = s.jobs) := by
  refine ⟨_, exec_bankAllot (State.allotJob_none found needs taken), ?_⟩
  split
  next waits => exact ⟨by simpa using waits, rfl, rfl⟩
  · exact ⟨List.mem_append_right _ List.mem_cons_self, rfl, rfl⟩

theorem exec_bankIdleRetention (b : BankId) (s : State) :
    exec (.bankIdleRetention b) s = .next (if s.mayIdle b.toNat then s.toRetention b.toNat else s) := by
  change execBankIdleRetention b s = _
  rw [execBankIdleRetention, apply_ite Host.Outcome.next]

theorem exec_bankIdleFallow (b : BankId) (s : State) :
    exec (.bankIdleFallow b) s = .next (if s.mayIdle b.toNat then s.toFallow b.toNat else s) := by
  change execBankIdleFallow b s = _
  rw [execBankIdleFallow, apply_ite Host.Outcome.next]

theorem State.mayIdle_refused {n : Nat} (keeps : s.cisAuto n = false ∨ (s.bank n).kind ≠ .free) : s.mayIdle n = false := by
  unfold State.mayIdle
  obtain off | used := keeps
  · rw [off, Bool.false_and, Bool.false_and]
  · rw [decide_eq_false used, Bool.and_false, Bool.false_and]

end

/-! The order of the accesses that want a port. -/

theorem CWait.before_starved {a c : CWait} (starved : 32 ≤ a.stall) (other : c.stall < 32) : a.before c = true := by
  simp [CWait.before, starved, Nat.not_le.2 other]

theorem CWait.before_of_rank {a c : CWait} {x y : Nat} (ha : a.stall < 32) (hc : c.stall < 32) (rank : portRank a.port1 a.req.who = some x)
    (other : portRank c.port1 c.req.who = some y) (less : x < y) : a.before c = true ∧ c.before a = false := by
  simp only [CWait.before, Nat.not_le.2 ha, Nat.not_le.2 hc, rank, other]
  simp [less.ne, less.ne', less, less.le]

/-! A cycle of a bank's ports. -/

/-- An access that arrives. -/
def arriving (r : CReq) : CWait := { req := r, port1 := false }

theorem State.wordWrite_whole (t : Option Nat) (w : Nat) (s : State) : s.wordWrite t true w = s.cstFresh [w] := rfl

theorem State.mem_ite {c : Prop} [Decidable c] {t u : State} {m : Mem} (yes : t.cst.mem = m) (no : u.cst.mem = m) :
    (if c then t else u).cst.mem = m := by
  split <;> assumption

theorem State.mem_bankCorrected (b e : Nat) (s : State) : (s.bankCorrected b e).cst.mem = s.cst.mem := by
  refine State.mem_ite ?_ rfl
  rw [(State.fmStd_only _ _ _ (Inside.refl _) (Only.refl _ _)).cst rfl, (State.logRec_only _ (Inside.refl _) (Only.refl _ _)).cst rfl]
  rfl

theorem State.mem_cstRead (t : Option Nat) (w : Nat) (s : State) : (s.cstRead t w).2.cst.mem = s.cst.mem := by
  unfold State.cstRead
  split
  · rfl
  · exact s.mem_bankCorrected _ _
  · rfl
  · exact congrArg Cst.mem ((State.cstUncorrected_only t 0 w (Inside.refl _) (Only.refl _ s)).cst rfl)

theorem State.mem_wordWrite (t : Option Nat) (whole : Bool) (w : Nat) (s : State) : (s.wordWrite t whole w).cst.mem = s.cst.mem := by
  have read := s.mem_cstRead t w
  unfold State.wordWrite
  split
  · rfl
  · split
    next eq => rwa [eq] at read
    next eq => rwa [eq] at read

/-- The bytes of a loop that stores one byte per index. -/
theorem mget_forAll_mset (base a : Nat) (v : Nat → Byte) (l : List Nat) (m : Mem) :
    mget a (forAll l (fun i m => mset (base + i) (v i) m) m) = if base ≤ a ∧ a - base ∈ l then v (a - base) else mget a m := by
  induction l generalizing m with
  | nil => simp
  | cons i r ih =>
    rw [forAll_cons, ih]
    by_cases later : base ≤ a ∧ a - base ∈ r
    · rw [if_pos later, if_pos ⟨later.1, List.mem_cons_of_mem _ later.2⟩]
    · rw [if_neg later]
      by_cases here : a = base + i
      · subst here
        rw [mget_mset_same, if_pos (by simp), Nat.add_sub_cancel_left]
      · rw [mget_mset_other here, if_neg]
        rintro ⟨low, mem⟩
        obtain same | mem := List.mem_cons.1 mem
        · omega
        · exact later ⟨low, mem⟩

theorem State.mget_writeEntry {b : Nat} {r : CReq} {d : W128} {be : BitVec 16} (write : r.write = some (d, be)) (a : Nat) (s : State) :
    mget a (s.writeEntry b r).cst.mem =
      if 524288 * b + 16 * r.entry.toNat ≤ a ∧ a < 524288 * b + 16 * r.entry.toNat + 16 ∧ be.getLsbD (a - (524288 * b + 16 * r.entry.toNat)) = true
        then d.extractLsb' (8 * (a - (524288 * b + 16 * r.entry.toNat))) 8 else mget a s.cst.mem := by
  have base : b * bankSize + 16 * r.entry.toNat = 524288 * b + 16 * r.entry.toNat := by simp only [bankSize]; omega
  simp only [State.writeEntry, write]
  refine (mget_forAll_mset _ a (fun i => d.extractLsb' (8 * i) 8) _ _).trans ?_
  have kept (l : List Nat) (f : Nat → Bool) (g : Nat → Nat) : (forAll l (fun w s => s.wordWrite none (f w) (g w)) s).cst.mem = s.cst.mem :=
    forAll_keeps (P := fun t : State => t.cst.mem = s.cst.mem) l (fun w _ t same => (t.mem_wordWrite none (f w) (g w)).trans same) rfl
  rw [base, kept _ (fun w => decide (be.extractLsb' (4 * w) 4 = 15#4)) (fun w => b * 131072 + 4 * r.entry.toNat + w)]
  refine if_congr ?_ rfl rfl
  simp only [List.mem_filter, List.mem_range, ← and_assoc]
  exact and_congr_left (fun _ => by omega)

/-- A write of whole words changes the Cistern alone. -/
theorem State.writeEntry_whole {b : Nat} {r : CReq} (whole : twoCycles r = false) (s : State) :
    s.writeEntry b r = { s with cst := (s.writeEntry b r).cst } := by
  obtain ⟨id, who, entry, write, atomic⟩ := r
  cases write with
  | none => rfl
  | some w =>
    obtain ⟨d, be⟩ := w
    simp only [twoCycles, Bool.or_eq_false_iff, List.any_eq_false, List.mem_range, Bool.and_eq_true, decide_eq_true_eq, not_and, not_not] at whole
    have frame : ∀ t : State, t = { s with cst := t.cst } → ∀ l : List Nat, (∀ w ∈ l, w < 4 ∧ be.extractLsb' (4 * w) 4 ≠ 0#4) →
        forAll l (fun w s => s.wordWrite none (be.extractLsb' (4 * w) 4 = 15#4) (b * 131072 + 4 * entry.toNat + w)) t =
          { s with cst := (forAll l (fun w s => s.wordWrite none (be.extractLsb' (4 * w) 4 = 15#4) (b * 131072 + 4 * entry.toNat + w)) t).cst } := by
      intro t same l good
      refine forAll_keeps (P := fun u : State => u = { s with cst := u.cst }) l (fun w mem u kept => ?_) same
      obtain ⟨small, some⟩ := good w mem
      rw [decide_eq_true (whole.2 w small some), State.wordWrite_whole, kept]
      rfl
    have all := frame s rfl ((List.range 4).filter (fun w => be.extractLsb' (4 * w) 4 ≠ 0#4)) (fun w mem => by simpa using mem)
    simp only [State.writeEntry]
    rw [all]
    rfl

/-- The end of a cycle once it is known what its accesses read: every one ends, none waits and none takes a second cycle. -/
def State.portServed (b : BankId) (rs : List CReq) (data : List (Option W128)) (clash : Bool) (s : State) : State :=
  let h := halfIdx (bankHalf b.toNat)
  let s := forAll rs.reverse (fun r s => s.writeEntry b.toNat r) s
  let s := forAll (rs.zip data) (fun x s => s.portEnds b x.2 x.1) s
  let s := (s.cntStw (Reg.CST_CONF + 4 * h) 31 0 0).cntStw (Reg.CST_CONF1 + 4 * h) 31 16 0
  let s := if clash then s.cntStw (Reg.CST_CONF1 + 4 * h) 15 0 1 else s
  s.setPorts b.toNat {}

/-- What the accesses of a cycle read, one after the other. -/
def State.portReads (n : Nat) (rs : List CReq) (s : State) : List (Option W128) × State :=
  rs.foldl (fun (a : List (Option W128) × State) r =>
    let q := a.2.readEntry n r
    (a.1 ++ [q.1], q.2)) ([], s)

/-- Two accesses that write one entry in one cycle. -/
def portClash : List CReq → Bool
  | [r, q] => r.entry = q.entry && writesEntry r && writesEntry q
  | _ => false

/-- Accesses that all win their ports in the cycle of their arrival and end in it. -/
structure AllServed (rs : List CReq) (ws : List CWait) : Prop where
  reqs : ws.map CWait.req = rs
  won : portPair (portWinner false [] ws) (portWinner true [] ws) = ws
  fresh : ∀ w ∈ ws, w.stall = 0
  one : ∀ w ∈ ws, twoCycles w.req = false

theorem portClash_map (ws : List CWait) : (ws.length = 2 && (match ws with
    | [a, c] => a.req.entry = c.req.entry && writesEntry a.req && writesEntry c.req
    | _ => false)) = portClash (ws.map CWait.req) := by
  match ws with
  | [] => rfl
  | [_] => rfl
  | [_, _] => rfl
  | _ :: _ :: _ :: _ => rfl

theorem State.portCycle_served {b : BankId} {rs : List CReq} {s : State} (on : (s.bank b.toNat).ps = .on)
    (idle : tget {} b.toNat s.cst.ports = {}) (all : ∀ busy, AllServed rs ((rs.map arriving).map (CWait.place busy))) :
    s.portCycle b rs = (s.portReads b.toNat rs).2.portServed b rs (s.portReads b.toNat rs).1 (portClash rs) := by
  unfold State.portCycle
  rw [if_neg (not_not_intro on), idle]
  dsimp only
  rw [List.nil_append]
  obtain ⟨reqs, won, fresh, one⟩ := all ((rs.map arriving).any (fun w => match w.req.who with
      | .tc _ => false
      | q => (match portRank false q with
        | some k => k ≤ 3
        | none => false)))
  have mk : (rs.map fun r => ({ req := r, port1 := false } : CWait)) = rs.map arriving := rfl
  rw [mk]
  generalize (rs.map arriving).map (CWait.place _) = ws at *
  have none_left : ws.filter (fun w => !ws.contains w) = [] := by simp
  have all_end : ws.filter (fun w => !twoCycles w.req) = ws := List.filter_eq_self.2 (fun w mem => by simp [one w mem])
  have none_starved : ws.filter (fun w => decide (32 ≤ w.stall)) = [] := List.filter_eq_nil_iff.2 (fun w mem => by simp [fresh w mem])
  have none_second : ws.filter (fun w => twoCycles w.req) = [] := List.filter_eq_nil_iff.2 (fun w mem => by simp [one w mem])
  rw [won, none_left, all_end, none_starved, none_second, ← reqs, ← portClash_map]
  rfl

theorem CWait.place_arrives (busy : Bool) (r : CReq) : ∃ p, CWait.place busy (arriving r) = { req := r, port1 := p } := by
  have moves (p : Bool) : (if p = (arriving r).port1 then arriving r else { req := r, port1 := p }) = { req := r, port1 := p } := by
    cases p <;> rfl
  exact ⟨_, moves _⟩

/-- An access that is alone in its cycle takes its port. -/
theorem allServed_one {r : CReq} (one : twoCycles r = false) (busy : Bool) : AllServed [r] (([r].map arriving).map (CWait.place busy)) := by
  obtain ⟨p, placed⟩ := CWait.place_arrives busy r
  have ws : ([r].map arriving).map (CWait.place busy) = [{ req := r, port1 := p }] := congrArg (fun w => [w]) placed
  rw [ws]
  refine ⟨rfl, ?_, by simp, by simpa using one⟩
  cases p
  · rfl
  · rfl

/-- An engine's access and a write over the mesh take a port each. -/
theorem allServed_two {r q : CReq} (first : r.who = .feWrite ∨ r.who = .weightSluice) (second : q.who = .meshWrite)
    (one : twoCycles r = false) (two : twoCycles q = false) (busy : Bool) :
    AllServed [r, q] (([r, q].map arriving).map (CWait.place busy)) := by
  have here : CWait.place busy (arriving r) = { req := r, port1 := false } := by
    obtain who | who := first <;> simp only [CWait.place, arriving, who] <;> rfl
  have there : CWait.place busy (arriving q) = { req := q, port1 := true } := by
    simp only [CWait.place, arriving, second]
    rfl
  rw [List.map_cons, List.map_cons, List.map_cons, List.map_cons, here, there]
  refine ⟨rfl, ?_, by simp, by simp [one, two]⟩
  change portPair (some { req := r, port1 := false }) (some { req := q, port1 := true }) = _
  simp [portPair, one, two]

theorem State.readEntry_write {n : Nat} {r : CReq} (plain : r.atomic = false) (writes : r.write ≠ none) (s : State) :
    s.readEntry n r = (none, s) :=
  if_pos (by simp [plain, Option.isSome_iff_ne_none, writes])

/-- A word that has neither poison nor a flipped bit reads as it is stored. -/
theorem State.readEntry_clean {n : Nat} {r : CReq} {s : State} (reads : r.write = none) (sound : s.cst.damage = []) (clean : s.cst.poison = []) :
    s.readEntry n r = (some (entryBits (mread (524288 * n + 16 * r.entry.toNat) 16 s.cst.mem)), s) := by
  have base : n * bankSize + 16 * r.entry.toNat = 524288 * n + 16 * r.entry.toNat := by simp only [bankSize]; omega
  have all (ws : List Nat) : s.cstReadAll none ws = (true, s) := by
    rw [State.cstReadAll, sound, clean]
    rfl
  rw [State.readEntry, if_neg (by simp [reads]), all, base]

/-! What a cycle leaves. -/

theorem State.stw_setPorts (n off : Nat) (p : CPorts) (s : State) : (s.setPorts n p).stw off = s.stw off := rfl

theorem State.out_setPorts (n : Nat) (p : CPorts) (s : State) : (s.setPorts n p).out = s.out := rfl

theorem State.out_cntStw (off hi lo n : Nat) (s : State) : (s.cntStw off hi lo n).out = s.out := rfl

section
variable (b : BankId) (rs : List CReq) (data : List (Option W128)) (clash : Bool) (s : State)

theorem portEnds_out : Only 2199023255552 (forAll rs.reverse (fun r s => s.writeEntry b.toNat r) s)
    (forAll (rs.zip data) (fun x s => s.portEnds b x.2 x.1) (forAll rs.reverse (fun r s => s.writeEntry b.toNat r) s)) :=
  forAll_keeps (P := Only 2199023255552 _) _ (fun x _ _ same => State.portEnds_only b x.2 x.1 (Inside.refl _) same) (Only.refl _ _)

theorem State.ports_portServed : tget {} b.toNat (s.portServed b rs data clash).cst.ports = {} := by
  simp only [State.portServed, State.setPorts]
  exact tget_tset_same ({} : CPorts) {} b.toNat _

theorem State.mem_portServed : (s.portServed b rs data clash).cst.mem = (forAll rs.reverse (fun r s => s.writeEntry b.toNat r) s).cst.mem := by
  have same := congrArg Cst.mem ((portEnds_out b rs data s).cst rfl)
  exact State.mem_ite same same

theorem State.stw_portServed : (s.portServed b rs data true).stw (Reg.CST_CONF1 + 4 * halfIdx (bankHalf b.toNat)) =
    satField 15 0 1 (satField 31 16 0 ((forAll rs.reverse (fun r s => s.writeEntry b.toNat r) s).stw
      (Reg.CST_CONF1 + 4 * halfIdx (bankHalf b.toNat)))) := by
  have other : Reg.CST_CONF1 + 4 * halfIdx (bankHalf b.toNat) ≠ Reg.CST_CONF + 4 * halfIdx (bankHalf b.toNat) := by
    simp only [Reg.CST_CONF1, Reg.CST_CONF]
    omega
  rw [State.portServed, if_pos rfl, State.stw_setPorts, State.cntStw, State.stw_modStw, State.cntStw, State.stw_modStw,
    State.cntStw, State.stw_modStw_other _ other, State.stw, (portEnds_out b rs data s).reg rfl, State.stw]

theorem State.out_portServed {m : Msg}
    (sent : m ∈ (forAll (rs.zip data) (fun x s => s.portEnds b x.2 x.1) (forAll rs.reverse (fun r s => s.writeEntry b.toNat r) s)).out) :
    m ∈ (s.portServed b rs data clash).out := by
  rw [State.portServed, State.out_setPorts, apply_ite State.out, State.out_cntStw, ite_self, State.out_cntStw, State.out_cntStw]
  exact sent

end

theorem State.out_portEnds (b : BankId) (x : Option W128) (r : CReq) (s : State) {m : Msg} (sent : m ∈ s.out) : m ∈ (s.portEnds b x r).out := by
  unfold State.portEnds
  dsimp only
  split
  · exact List.mem_append_left _ (List.mem_append_left _ sent)
  · exact List.mem_append_left _ sent

theorem State.portEnds_answers (b : BankId) (x : Option W128) {r : CReq} (answers : (r.atomic || r.write.isNone) = true) (s : State) :
    Msg.cistern b r.id x ∈ (s.portEnds b x r).out := by
  rw [State.portEnds, if_pos answers]
  exact List.mem_append_left _ (List.mem_append_right _ List.mem_cons_self)

/-- A whole-word write that is alone at a bank's ports is made at once. -/
theorem State.portCycle_one {b : BankId} {r : CReq} {d : W128} {be : BitVec 16} {s : State} (on : (s.bank b.toNat).ps = .on)
    (idle : tget {} b.toNat s.cst.ports = {}) (plain : r.atomic = false) (write : r.write = some (d, be)) (one : twoCycles r = false) :
    s.portCycle b [r] = s.portServed b [r] [none] false := by
  have reads : s.portReads b.toNat [r] = ([none], s) := by
    simp only [State.portReads, List.foldl_cons, List.foldl_nil, State.readEntry_write plain (by simp [write] : r.write ≠ none), List.nil_append]
  rw [State.portCycle_served on idle (allServed_one one), reads]
  rfl

theorem State.portCycle_two {b : BankId} {r q : CReq} {x : Option W128} {s : State} (on : (s.bank b.toNat).ps = .on)
    (idle : tget {} b.toNat s.cst.ports = {}) (first : r.who = .feWrite ∨ r.who = .weightSluice) (second : q.who = .meshWrite)
    (one : twoCycles r = false) (two : twoCycles q = false) (read : s.readEntry b.toNat r = (x, s)) (plain : q.atomic = false)
    (writes : q.write ≠ none) : s.portCycle b [r, q] = s.portServed b [r, q] [x, none] (portClash [r, q]) := by
  have reads : s.portReads b.toNat [r, q] = ([x, none], s) := by
    simp only [State.portReads, List.foldl_cons, List.foldl_nil, State.readEntry_write plain writes, read, List.nil_append, List.cons_append]
  rw [State.portCycle_served on idle (allServed_two first second one two), reads]

theorem State.portCycle_asleep {b : BankId} {l : List CReq} {s : State} (asleep : (s.bank b.toNat).ps ≠ .on) : s.portCycle b l =
    (s.wakeBank b.toNat).setPorts b.toNat
      { tget {} b.toNat s.cst.ports with wait := (tget {} b.toNat s.cst.ports).wait ++ l.map arriving } :=
  if_pos asleep

theorem State.mem_wakeBank (n : Nat) (s : State) : (s.wakeBank n).cst.mem = s.cst.mem := by
  unfold State.wakeBank
  split
  · rfl
  · rfl
  · rfl

theorem State.wakeBank_retention {n : Nat} {s : State} (asleep : (s.bank n).ps = .retention) :
    s.wakeBank n = s.modCst (fun c => { c with waking := nins n c.waking }) := by
  simp only [State.wakeBank, asleep]

theorem State.wakeBank_fallow {n : Nat} {s : State} (asleep : (s.bank n).ps = .fallow) :
    s.wakeBank n = s.modBank n (fun k => { k with ps := .filling }) := by
  simp only [State.wakeBank, asleep]

theorem State.bank_setPorts (n m : Nat) (p : CPorts) (s : State) : (s.setPorts n p).bank m = s.bank m := rfl

/-- An access wakes a bank that is not ON. -/
theorem portCycle_wakes {b : BankId} {l : List CReq} {s : State} (asleep : (s.bank b.toNat).ps ≠ .on) :
    (s.portCycle b l).cst.mem = s.cst.mem ∧
      (tget {} b.toNat (s.portCycle b l).cst.ports).wait =
        (tget {} b.toNat s.cst.ports).wait ++ l.map (fun r => { req := r, port1 := false }) ∧
      ((s.bank b.toNat).ps = .retention → nmem b.toNat (s.portCycle b l).cst.waking = true) ∧
      ((s.bank b.toNat).ps = .fallow → ((s.portCycle b l).bank b.toNat).ps = .filling) := by
  rw [State.portCycle_asleep asleep]
  refine ⟨s.mem_wakeBank b.toNat, ?_, fun retention => ?_, fun fallow => ?_⟩
  · exact congrArg CPorts.wait (tget_tset_same _ _ _ _)
  · rw [State.wakeBank_retention retention]
    exact (nmem_nins b.toNat b.toNat s.cst.waking).trans (by simp)
  · rw [State.bank_setPorts, State.wakeBank_fallow fallow, State.bank_modBank]

theorem exec_portStarveOverride_held {b : BankId} {p : Bool} {s : State}
    (held : (tget {} b.toNat s.cst.ports).wait.any (fun w => w.port1 = p && 32 ≤ w.stall) = true) :
    exec (.portStarveOverride b p) s = .next (s.portCycle b []) := by
  change execPortStarveOverride b p s = _
  rw [execPortStarveOverride, if_pos held]

theorem yields_portStarveOverride {b : BankId} {p : Bool} {h : Nat} {s : State} (half : h = halfIdx (bankHalf b.toNat))
    (none_held : (tget {} b.toNat s.cst.ports).wait.any (fun w => w.port1 = p && 32 ≤ w.stall) = false) :
    Yields (.portStarveOverride b p) s (fun t =>
      t.stw (Reg.CST_CONF + 4 * h) = satField 31 0 32 (s.stw (Reg.CST_CONF + 4 * h)) ∧
      t.stw (Reg.CST_CONF1 + 4 * h) = satField 31 16 1 (s.stw (Reg.CST_CONF1 + 4 * h)) ∧ t = { s with reg := t.reg }) := by
  subst half
  have other : Reg.CST_CONF1 + 4 * halfIdx (bankHalf b.toNat) ≠ Reg.CST_CONF + 4 * halfIdx (bankHalf b.toNat) := by
    simp only [Reg.CST_CONF1, Reg.CST_CONF]
    omega
  have next : exec (.portStarveOverride b p) s = .next ((s.cntStw (Reg.CST_CONF + 4 * halfIdx (bankHalf b.toNat)) 31 0 32).cntStw
      (Reg.CST_CONF1 + 4 * halfIdx (bankHalf b.toNat)) 31 16 1) := by
    change execPortStarveOverride b p s = _
    rw [execPortStarveOverride, if_neg (by simp [none_held])]
  refine ⟨_, next, ?_, ?_, rfl⟩
  · rw [State.cntStw, State.stw_modStw_other _ other.symm, State.cntStw, State.stw_modStw]
  · rw [State.cntStw, State.stw_modStw, State.cntStw, State.stw_modStw_other _ other]

theorem exec_arbiterServe_cistern (b : BankId) (l : List CReq) (a : List Item) (s : State) :
    exec (.arbiterServe (.cistern b l) a) s = .next (s.portCycle b l) := by
  change execArbiterServe (.cistern b l) a s = _
  rfl

/-- Of two whole-word writes of one entry in one cycle port 0's bytes stand, and the conflict is counted. -/
theorem portCycle_writes {b : BankId} {i j : Nat} {e : BitVec 15} {d0 d1 : W128} {be0 be1 : BitVec 16} {r0 r1 : CReq} {s : State}
    (on : (s.bank b.toNat).ps = .on) (idle : tget {} b.toNat s.cst.ports = {})
    (first : r0 = { id := i, who := .feWrite, entry := e, write := some (d0, be0), atomic := false })
    (second : r1 = { id := j, who := .meshWrite, entry := e, write := some (d1, be1), atomic := false })
    (one : twoCycles r0 = false) (two : twoCycles r1 = false) :
    s.portCycle b [r0, r1] = s.portServed b [r0, r1] [none, none] true := by
  have clash : portClash [r0, r1] = true := by
    simp [portClash, writesEntry, first, second]
  rw [← clash]
  exact State.portCycle_two on idle (.inl (by rw [first])) (by rw [second]) one two
    (State.readEntry_write (by rw [first]) (by simp [first]) s) (by rw [second]) (by simp [second])

/-- A read sees an entry as it was before a write of the same cycle. -/
theorem portCycle_reads {b : BankId} {i j : Nat} {e : BitVec 15} {d1 : W128} {be1 : BitVec 16} {r0 r1 : CReq} {s : State}
    (on : (s.bank b.toNat).ps = .on) (idle : tget {} b.toNat s.cst.ports = {}) (sound : s.cst.damage = []) (clean : s.cst.poison = [])
    (first : r0 = { id := i, who := .weightSluice, entry := e, write := none, atomic := false })
    (second : r1 = { id := j, who := .meshWrite, entry := e, write := some (d1, be1), atomic := false }) (two : twoCycles r1 = false) :
    Msg.cistern b i (some (entryBits (mread (524288 * b.toNat + 16 * e.toNat) 16 s.cst.mem))) ∈ (s.portCycle b [r0, r1]).out := by
  have read := State.readEntry_clean (n := b.toNat) (r := r0) (by rw [first]) sound clean
  rw [State.portCycle_two on idle (.inr (by rw [first])) (by rw [second]) (by rw [first]; rfl) two read (by rw [second]) (by simp [second])]
  apply State.out_portServed
  simp only [List.zip_cons_cons, List.zip_nil_right, forAll_cons, forAll_nil, first]
  exact State.out_portEnds _ _ _ _ (State.portEnds_answers _ _ (by simp) _)

/-- Settles O53: each command through its check, and a cycle of the ports through the accesses that win it. -/
theorem banksAreGivenPoweredAndCleared : Obligations.BanksAreGivenPoweredAndCleared := by
  refine ⟨?give, ?check, ?pool, ?power, ?refused, ?handover, ?fill, ?zero, ?retry, ?wake, ?allot, ?enough, ?idle, ?starve, ?serve, ?order,
    ?one, ?two, ?read⟩
  case give =>
    rintro b f _ s rfl
    exact ⟨yields_bankGiveStage, fun c refused bad => exec_bankGiveStage_refused refused bad⟩
  case check => exact State.bcCheck_eq
  case pool => exact fun _ _ _ check => exec_bankReturnPool check
  case power =>
    intro b s ok
    refine ⟨exec_bankRetire_stage ok, exec_bankRetire_retired ok, yields_bankRetire_free ok, exec_bankPowerOn_ok ok, yields_bankRetention ok,
      yields_bankFallow ok, fun fallow => ?_⟩
    rw [exec_bankFallow_ok ok, State.toFallow_fallow fallow]
  case refused =>
    exact fun _ _ _ bad check => ⟨exec_bankRetire_refused check bad, exec_bankPowerOn_refused check bad,
      exec_bankRetention_refused check bad, exec_bankFallow_refused check bad⟩
  case handover =>
    refine fun b s => ⟨exec_handoverComplete_waits, fun dst handed quiet idle => ?_⟩
    obtain ⟨t, next, bank, zero, busy, staged, only⟩ := yields_handoverComplete handed quiet idle
    exact ⟨t, next, bank, zero, busy, staged, only.eq⟩
  case fill => exact fun _ _ filling => exec_zeroFillDone filling
  case zero => exact fun b _ s inside => s.mget_zeroBank b inside
  case retry => exact State.retryAllot_none
  case wake => exact fun _ _ => ⟨exec_zeroFillDone_idle, exec_bankWakeDone_idle, yields_bankWakeDone⟩
  case allot =>
    exact fun _ _ _ found needs => ⟨fun _ free on => yields_bankAllot_on found needs free on, fun _ free => yields_bankAllot found needs free,
      yields_bankAllot_waits found needs⟩
  case enough => exact fun _ _ enough => ⟨_, exec_bankAllot (State.allotJob_enough enough), rfl⟩
  case idle =>
    intro b s
    rw [exec_bankIdleRetention, exec_bankIdleFallow]
    exact ⟨fun may => by simp [may], fun may => by simp [may], State.mayIdle_refused⟩
  case starve => exact fun _ _ _ _ half => ⟨exec_portStarveOverride_held, yields_portStarveOverride half⟩
  case serve => exact fun b l a s => ⟨exec_arbiterServe_cistern b l a s, portCycle_wakes⟩
  case order => exact fun _ _ => ⟨CWait.before_starved, fun _ _ => CWait.before_of_rank⟩
  case one =>
    intro b r d be s on idle plain write one wf
    rw [State.portCycle_one on idle plain write one]
    refine ⟨State.ports_portServed .., fun a => ?_⟩
    rw [State.mem_portServed]
    exact State.mget_writeEntry write a s
  case two =>
    intro b i j e d0 d1 be0 be1 r0 r1 s on idle _ first second one two
    rw [portCycle_writes on idle first second one two]
    refine ⟨fun k small => ?_, ?_⟩
    · rw [State.mem_portServed]
      change mget _ ((s.writeEntry b.toNat r1).writeEntry b.toNat r0).cst.mem = _
      rw [State.mget_writeEntry (by rw [first]), State.mget_writeEntry (by rw [second]), first, second]
      have low : 524288 * b.toNat + 16 * e.toNat ≤ 524288 * b.toNat + 16 * e.toNat + k := Nat.le_add_right ..
      simp only [Nat.add_sub_cancel_left, low, Nat.add_lt_add_left small, true_and]
    · rw [State.stw_portServed]
      change satField 15 0 1 (satField 31 16 0 (((s.writeEntry b.toNat r1).writeEntry b.toNat r0).stw _)) = _
      rw [State.stw, State.writeEntry_whole one, State.writeEntry_whole two, State.stw]
  case read => exact fun _ _ _ _ _ _ _ _ _ on idle sound clean first second two => portCycle_reads on idle sound clean first second two

end Sys2Proof.Machine


/-! March tests (R359 to R361). -/

namespace Sys2Proof.Machine

open Safety

/-! A turn per bank of a range. -/

theorem marchRange_nodup (f n : Nat) : (marchRange f n).Nodup :=
  List.Nodup.map (fun _ _ same => Nat.add_left_cancel same) List.nodup_range

theorem mem_marchRange {f n b : Nat} : b ∈ marchRange f n ↔ f ≤ b ∧ b < f + max 1 n := by
  simp only [marchRange, List.mem_map, List.mem_range]
  constructor
  · rintro ⟨i, small, rfl⟩
    omega
  · rintro ⟨low, high⟩
    exact ⟨b - f, by omega, by omega⟩

/-- A loop whose turns each change one bank changes each bank of its list once. -/
theorem State.bank_forAll {g : Nat → State → State} {f : Nat → Bank → Bank} (here : ∀ b s, (g b s).bank b = f b (s.bank b))
    (there : ∀ b c s, c ≠ b → (g b s).bank c = s.bank c) {l : List Nat} (nodup : l.Nodup) (b : Nat) (s : State) :
    (forAll l g s).bank b = if b ∈ l then f b (s.bank b) else s.bank b := by
  induction l generalizing s with
  | nil => simp
  | cons c r ih =>
    obtain ⟨absent, rest⟩ := List.nodup_cons.1 nodup
    rw [forAll_cons, ih rest]
    by_cases same : b = c
    · subst same
      rw [if_neg absent, here, if_pos List.mem_cons_self]
    · rw [there c b s same]
      simp [same]

/-- A bank as the start of a destructive run leaves it. -/
def Bank.tested (k : Bank) : Bank := { k with kind := .test, before := k.kind }

/-- A bank as the end of its test leaves it. -/
def Bank.testEnded (res : Option Bool) (k : Bank) : Bank :=
  { k with kind := if res = some false then .retired else k.before, ps := .on, before := .free, mpass := res.getD k.mpass }

section
variable (b : Nat) (res : Option Bool) (s : State)

theorem State.bank_endTest : (s.endTest b res).bank b = (s.bank b).testEnded res := (s.zeroBank b).bank_modBank b (Bank.testEnded res)

theorem State.bank_endTest_other (c : Nat) (other : c ≠ b) : (s.endTest b res).bank c = s.bank c :=
  (s.zeroBank b).bank_modBank_other (Bank.testEnded res) other

theorem State.mem_endTest : (s.endTest b res).cst.mem = mclear (b * bankSize) bankSize s.cst.mem := rfl

end

theorem mget_mclear_of_zero {a : Nat} {m : Mem} (zero : mget a m = 0#8) (lo len : Nat) : mget a (mclear lo len m) = 0#8 := by
  by_cases inside : lo ≤ a ∧ a < lo + len
  · exact mget_mclear_inside m inside.1 inside.2
  · rw [mget_mclear_outside m (by omega), zero]

/-- Every bank of a list ends its test. -/
def State.endTests (l : List Nat) (res : Nat → Option Bool) (s : State) : State := forAll l (fun b s => s.endTest b (res b)) s

theorem State.bank_endTests {l : List Nat} (nodup : l.Nodup) (res : Nat → Option Bool) (b : Nat) (s : State) :
    (s.endTests l res).bank b = if b ∈ l then (s.bank b).testEnded (res b) else s.bank b :=
  State.bank_forAll (f := fun b k => k.testEnded (res b)) (fun b s => s.bank_endTest b (res b)) (fun b c s => s.bank_endTest_other b (res b) c) nodup b s

theorem State.mget_endTests {l : List Nat} {b a : Nat} (mem : b ∈ l) (inside : a < 524288) (res : Nat → Option Bool) (s : State) :
    mget (524288 * b + a) (s.endTests l res).cst.mem = 0#8 := by
  refine forAll_reaches (P := fun t : State => mget (524288 * b + a) t.cst.mem = 0#8) mem (fun t => ?_) (fun c _ t zero => ?_) s
  · exact t.mget_zeroBank b inside
  · rw [State.mem_endTest]
    exact mget_mclear_of_zero zero _ _

theorem State.allotWait_endTests (l : List Nat) (res : Nat → Option Bool) (s : State) : (s.endTests l res).cst.allotWait = s.cst.allotWait :=
  forAll_keeps (P := fun t : State => t.cst.allotWait = s.cst.allotWait) (f := fun b s => s.endTest b (res b)) l (fun _ _ _ same => same) rfl

@[simp] theorem State.march_setMarch (h : Half) (m : Option March) (s : State) : (s.setMarch h m).march h = m := by
  cases h <;> rfl

theorem State.march_of_cst {s t : State} (same : t.cst = s.cst) (h : Half) : t.march h = s.march h := by
  cases h
  · exact congrArg Cst.marchN same
  · exact congrArg Cst.marchS same

/-! The start of a run. -/

theorem bit_of_masked {v w : W32} (same : v &&& 0xFFFFFF00#32 = w &&& 0xFFFFFF00#32) : bit 31 v = bit 31 w := by
  have high : (0xFFFFFF00#32).getLsbD 31 = true := by decide
  have both := congrArg (fun x => x.getLsbD 31) same
  simpa only [bit, BitVec.getLsbD_and, high, Bool.and_true] using both

theorem mstat_not_marb (h k : Half) : Reg.CST_MSTAT + 4 * halfIdx h ≠ Reg.RAS_MARB + 4 * halfIdx k := by
  cases h <;> cases k <;> decide

section
variable (m : March) (s : State)

theorem State.startMarch_busy : bit 31 ((s.startMarch m).mstat (bankHalf m.first)) = true := by
  rw [State.startMarch, State.mstat, bit_of_masked (State.stw_maintAsk _ rfl (mstat_not_marb _) _), State.stw_modStw]
  exact bit_setBit true _ (by decide)

theorem State.cst_startMarch : (s.startMarch m).cst = (s.setMarch (bankHalf m.first) (some m)).cst :=
  (State.maintAsk_only _ _ _ (Inside.refl _) (Only.refl _ _)).cst rfl

theorem State.march_startMarch : (s.startMarch m).march (bankHalf m.first) = some m := by
  rw [State.march_of_cst (s.cst_startMarch m), State.march_setMarch]

theorem State.banks_startMarch : (s.startMarch m).cst.banks = s.cst.banks := by
  rw [s.cst_startMarch m]
  cases bankHalf m.first <;> rfl

theorem State.mem_startMarch : (s.startMarch m).cst.mem = s.cst.mem := by
  rw [s.cst_startMarch m]
  cases bankHalf m.first <;> rfl

end

/-- Every bank of a range is under test. -/
def State.startTests (l : List Nat) (s : State) : State := forAll l (fun b s => s.modBank b Bank.tested) s

theorem State.bank_startTests {l : List Nat} (nodup : l.Nodup) (b : Nat) (s : State) :
    (s.startTests l).bank b = if b ∈ l then (s.bank b).tested else s.bank b :=
  State.bank_forAll (f := fun _ => Bank.tested) (fun b s => s.bank_modBank b _) (fun _ _ s other => s.bank_modBank_other _ other) nodup b s

theorem State.startTests_only {Fm : Nat} (inside : Inside 34359738368 Fm) (l : List Nat) (s : State) : Only Fm s (s.startTests l) :=
  forAll_keeps (P := Only Fm s) l (fun b _ _ same => State.modBank_only b _ inside same) (Only.refl _ s)

theorem State.mem_startTests (l : List Nat) (s : State) : (s.startTests l).cst.mem = s.cst.mem :=
  forAll_keeps (P := fun t : State => t.cst.mem = s.cst.mem) (f := fun b s => s.modBank b Bank.tested) l (fun _ _ _ same => same) rfl

section
variable {s : State} {f : BankId} {n : BitVec 9} {bg : BitVec 4} {c : Status}

/-- A destructive run as its command describes it. -/
def destructiveRun (f : BankId) (n : BitVec 9) (bg : BitVec 4) : March :=
  { destructive := true, first := f.toNat, count := max 1 n.toNat, bg := if bg = 0#4 then 0xF#4 else bg }

/-- A preserving run as its command describes it. -/
def preservingRun (f : BankId) (n : BitVec 9) : March := { destructive := false, first := f.toNat, count := max 1 n.toNat, bg := 0#4 }

theorem exec_marchDestructive_ok
    (ok : s.marchCheck f.toNat n.toNat (fun b => !((s.bank b).kind = .free || (s.bank b).kind = .retired)) = .ok) :
    exec (.marchDestructive f n bg) s = .next ((s.startTests (marchRange f.toNat n.toNat)).startMarch (destructiveRun f n bg)) := by
  change execMarchDestructive f n bg s = _
  simp only [execMarchDestructive, ok]
  rfl

theorem exec_marchDestructive_refused
    (check : s.marchCheck f.toNat n.toNat (fun b => !((s.bank b).kind = .free || (s.bank b).kind = .retired)) = c) (bad : c ≠ .ok) :
    exec (.marchDestructive f n bg) s = .next (s.mstStatus (bankHalf f.toNat) c) := by
  change execMarchDestructive f n bg s = _
  simp only [execMarchDestructive, check]

theorem exec_marchPreserving_ok (ok : s.marchCheck f.toNat n.toNat (fun b => (s.bank b).ps ≠ .on || (s.bank b).kind = .test) = .ok) :
    exec (.marchPreserving f n) s = .next (s.startMarch (preservingRun f n)) := by
  change execMarchPreserving f n s = _
  simp only [execMarchPreserving, ok]
  rfl

theorem exec_marchPreserving_refused
    (check : s.marchCheck f.toNat n.toNat (fun b => (s.bank b).ps ≠ .on || (s.bank b).kind = .test) = c) (bad : c ≠ .ok) :
    exec (.marchPreserving f n) s = .next (s.mstStatus (bankHalf f.toNat) c) := by
  change execMarchPreserving f n s = _
  simp only [execMarchPreserving, check]

theorem yields_marchDestructive
    (ok : s.marchCheck f.toNat n.toNat (fun b => !((s.bank b).kind = .free || (s.bank b).kind = .retired)) = .ok) :
    Yields (.marchDestructive f n bg) s (fun t =>
      (∀ b, b ∈ marchRange f.toNat n.toNat → t.bank b = { s.bank b with kind := .test, before := (s.bank b).kind }) ∧
      (∀ b, b ∉ marchRange f.toNat n.toNat → t.bank b = s.bank b) ∧
      t.march (bankHalf f.toNat) = some { destructive := true, first := f.toNat, count := max 1 n.toNat, bg := if bg = 0#4 then 0xF#4 else bg } ∧
      bit 31 (t.mstat (bankHalf f.toNat)) = true ∧ t.cst.mem = s.cst.mem ∧ t = { s with cst := t.cst, reg := t.reg, ras := t.ras }) := by
  have march := (s.startTests (marchRange f.toNat n.toNat)).march_startMarch (destructiveRun f n bg)
  have busy := (s.startTests (marchRange f.toNat n.toNat)).startMarch_busy (destructiveRun f n bg)
  have mem := (s.startTests (marchRange f.toNat n.toNat)).mem_startMarch (destructiveRun f n bg)
  have bank (b : Nat) : ((s.startTests (marchRange f.toNat n.toNat)).startMarch (destructiveRun f n bg)).bank b =
      if b ∈ marchRange f.toNat n.toNat then (s.bank b).tested else s.bank b := by
    rw [State.bank_of_banks (State.banks_startMarch _ _), State.bank_startTests (marchRange_nodup ..)]
  refine ⟨_, exec_marchDestructive_ok ok, fun b mem => ?_, fun b absent => ?_, march, busy, mem.trans (s.mem_startTests _), ?_⟩
  · rw [bank, if_pos mem]
    rfl
  · rw [bank, if_neg absent]
  · exact (State.startMarch_only (Fm := 103079215120) _ (Inside.refl _) (s.startTests_only ((Inside.refl _).sub rfl) _)).eq

theorem yields_marchPreserving (ok : s.marchCheck f.toNat n.toNat (fun b => (s.bank b).ps ≠ .on || (s.bank b).kind = .test) = .ok) :
    Yields (.marchPreserving f n) s (fun t => t.cst.banks = s.cst.banks ∧ t.cst.mem = s.cst.mem ∧
      t.march (bankHalf f.toNat) = some { destructive := false, first := f.toNat, count := max 1 n.toNat, bg := 0#4 } ∧
      bit 31 (t.mstat (bankHalf f.toNat)) = true ∧ t = { s with cst := t.cst, reg := t.reg, ras := t.ras }) := by
  have march := s.march_startMarch (preservingRun f n)
  have busy := s.startMarch_busy (preservingRun f n)
  exact ⟨_, exec_marchPreserving_ok ok, s.banks_startMarch _, s.mem_startMarch _, march, busy,
    (State.startMarch_only _ (Inside.refl _) (Only.refl _ s)).eq⟩

/-! The check of a command. -/

variable {i k : Nat} {d : Nat → Bool}

theorem State.marchCheck_conflict (conflict : s.conflict = true) : s.marchCheck i k d = .stewardConflict := if_pos conflict

theorem State.marchCheck_busy (alone : s.conflict = false) (busy : bit 31 (s.mstat (bankHalf i)) = true) : s.marchCheck i k d = .slotBusy := by
  simp [State.marchCheck, alone, busy]

theorem bankHalf_eq_iff {b c : Nat} : bankHalf b = bankHalf c ↔ (b < 256 ↔ c < 256) := by
  unfold bankHalf
  by_cases hb : b < 256 <;> by_cases hc : c < 256 <;> simp [hb, hc]

theorem State.marchCheck_range (alone : s.conflict = false) (idle : bit 31 (s.mstat (bankHalf i)) = false)
    (out : (i < 256 ∧ 256 < i + k) ∨ 512 < i + k) : s.marchCheck i k d = .badDescriptor := by
  have bad : (marchRange i k).any (fun b => b ≥ 512 || bankHalf b ≠ bankHalf i) = true := by
    rw [List.any_eq_true]
    refine ⟨i + max 1 k - 1, mem_marchRange.2 (by omega), ?_⟩
    rw [Bool.or_eq_true, decide_eq_true_eq, decide_eq_true_eq, ne_eq, bankHalf_eq_iff]
    omega
  simp only [State.marchCheck, alone, idle, bad, Bool.false_eq_true, if_false, if_true]

theorem State.marchCheck_inRange (alone : s.conflict = false) (idle : bit 31 (s.mstat (bankHalf i)) = false)
    (inRange : i + max 1 k ≤ 256 ∨ (256 ≤ i ∧ i + max 1 k ≤ 512)) :
    s.marchCheck i k d = (if (marchRange i k).any d then .permission else .ok) := by
  have good : (marchRange i k).any (fun b => b ≥ 512 || bankHalf b ≠ bankHalf i) = false := by
    rw [List.any_eq_false]
    intro b mem
    obtain ⟨low, high⟩ := mem_marchRange.1 mem
    rw [Bool.or_eq_true, decide_eq_true_eq, decide_eq_true_eq, ne_eq, bankHalf_eq_iff]
    omega
  simp only [State.marchCheck, alone, idle, good, Bool.false_eq_true, if_false]

end

/-! The end of a run. -/

/-- The banks of a run end their tests, where the run was destructive. -/
def State.leaveTests (m : March) (res : Nat → Option Bool) (s : State) : State :=
  if m.destructive then s.endTests (marchRange m.first m.count) res else s

section
variable (m : March) (res : Nat → Option Bool) (s : State)

theorem State.allotWait_leaveTests : (s.leaveTests m res).cst.allotWait = s.cst.allotWait := by
  unfold State.leaveTests
  split
  · exact s.allotWait_endTests _ _
  · rfl

theorem State.leaveTests_destructive (run : m.destructive = true) :
    s.leaveTests m res = s.endTests (marchRange m.first m.count) res := if_pos run

theorem State.leaveTests_preserving (run : m.destructive = false) : s.leaveTests m res = s := if_neg (by simp [run])

end

/-- The run of a half is over, and its grant. -/
def State.endMarch (h : Half) (s : State) : State := ((s.setMarch h none).maintEnd 5 (halfIdx h)).retryAllot

section
variable {h : Half} {s : State}

theorem State.endMarch_eq (idle : s.cst.allotWait = []) : s.endMarch h = (s.setMarch h none).maintEnd 5 (halfIdx h) := by
  have kept : ((s.setMarch h none).maintEnd 5 (halfIdx h)).cst.allotWait = [] := by
    rw [(State.maintEnd_only _ _ (Inside.refl _) (Only.refl _ _)).cst rfl, ← idle]
    cases h <;> rfl
  rw [State.endMarch, State.retryAllot_none _ kept]

theorem State.march_endMarch (idle : s.cst.allotWait = []) : (s.endMarch h).march h = none := by
  rw [State.endMarch_eq idle, State.march_of_cst ((State.maintEnd_only _ _ (Inside.refl _) (Only.refl _ _)).cst rfl), State.march_setMarch]

theorem State.cst_endMarch (idle : s.cst.allotWait = []) : (s.endMarch h).cst.banks = s.cst.banks ∧ (s.endMarch h).cst.mem = s.cst.mem := by
  rw [State.endMarch_eq idle, (State.maintEnd_only _ _ (Inside.refl _) (Only.refl _ _)).cst rfl]
  cases h <;> exact ⟨rfl, rfl⟩

theorem State.stw_endMarch (idle : s.cst.allotWait = []) (off : Nat) : (s.endMarch h).stw off = s.stw off := by
  rw [State.endMarch_eq idle, State.stw, (State.maintEnd_only _ _ (Inside.refl _) (Only.refl _ _)).reg rfl]
  cases h <;> rfl

/-- What the end of a run leaves of the banks, as res says which passed. -/
theorem endMarch_banks {m : March} {res : Nat → Option Bool} {u : State} (banks : u.cst.banks = (s.leaveTests m res).cst.banks)
    (mem : u.cst.mem = (s.leaveTests m res).cst.mem) (idle : u.cst.allotWait = []) :
    (m.destructive = true → ∀ b, b ∈ marchRange m.first m.count → (u.endMarch h).bank b = (s.bank b).testEnded (res b) ∧
      ∀ a, a < 524288 → mget (524288 * b + a) (u.endMarch h).cst.mem = 0#8) ∧
    (m.destructive = false → (u.endMarch h).cst.banks = s.cst.banks ∧ (u.endMarch h).cst.mem = s.cst.mem) := by
  obtain ⟨banks', mem'⟩ := State.cst_endMarch (h := h) idle
  refine ⟨fun run b inRange => ⟨?_, fun a inside => ?_⟩, fun run => ?_⟩
  · rw [State.bank_of_banks (banks'.trans banks), State.leaveTests_destructive _ _ _ run, State.bank_endTests (marchRange_nodup ..), if_pos inRange]
  · rw [mem', mem, State.leaveTests_destructive _ _ _ run, State.mget_endTests inRange inside]
  · rw [banks', mem', banks, mem, State.leaveTests_preserving _ _ _ run]
    exact ⟨rfl, rfl⟩

/-! MARCH_ABORT. -/

theorem exec_marchAbort_conflict (conflict : s.conflict = true) : exec (.marchAbort h) s = .next (s.mstStatus h .stewardConflict) := by
  change execMarchAbort h s = _
  exact if_pos conflict

theorem exec_marchAbort_idle (alone : s.conflict = false) (idle : s.march h = none) : exec (.marchAbort h) s = .next (s.mstStatus h .ok) := by
  change execMarchAbort h s = _
  simp only [execMarchAbort, alone, idle, Bool.false_eq_true, if_false]

/-- BUSY of a half's run clears, with its status. -/
def State.marchIdle (h : Half) (s : State) : State :=
  s.modStw (Reg.CST_MSTAT + 4 * halfIdx h) (fun w => setBit 31 false (setBits 7 0 0 w))

theorem State.cst_marchIdle (h : Half) (s : State) : (s.marchIdle h).cst = s.cst := rfl

theorem Bank.testEnded_none (k : Bank) : k.testEnded none = { k with kind := k.before, ps := .on, before := .free } := rfl

theorem exec_marchAbort_run {m : March} (alone : s.conflict = false) (runs : s.march h = some m) :
    exec (.marchAbort h) s = .next (((s.leaveTests m (fun _ => none)).marchIdle h).endMarch h) := by
  change execMarchAbort h s = _
  simp only [execMarchAbort, alone, runs, Bool.false_eq_true, if_false]
  cases h <;> rfl

theorem yields_marchAbort {m : March} (alone : s.conflict = false) (runs : s.march h = some m) (idle : s.cst.allotWait = []) :
    Yields (.marchAbort h) s (fun t => t.march h = none ∧ bit 31 (t.mstat h) = false ∧
      (m.destructive = true → ∀ b, b ∈ marchRange m.first m.count →
        t.bank b = { s.bank b with kind := (s.bank b).before, ps := .on, before := .free } ∧
        ∀ a, a < 524288 → mget (524288 * b + a) t.cst.mem = 0#8) ∧
      (m.destructive = false → t.cst.banks = s.cst.banks ∧ t.cst.mem = s.cst.mem)) := by
  have same := (s.leaveTests m (fun _ => none)).cst_marchIdle h
  have wait : ((s.leaveTests m (fun _ => none)).marchIdle h).cst.allotWait = [] := by
    rw [same, State.allotWait_leaveTests, idle]
  obtain ⟨tested, kept⟩ := endMarch_banks (h := h) (congrArg Cst.banks same) (congrArg Cst.mem same) wait
  refine ⟨_, exec_marchAbort_run alone runs, State.march_endMarch wait, ?_, fun run x inRange => ?_, kept⟩
  · rw [State.mstat, State.stw_endMarch wait, State.marchIdle, State.stw_modStw]
    exact bit_setBit false _ (by decide)
  · obtain ⟨bank, zero⟩ := tested run x inRange
    rw [bank, Bank.testEnded_none]
    exact ⟨rfl, zero⟩

/-! MARCH_DONE. -/

/-- The banks of a run that failed. -/
def March.bad (l : List Nat) (m : March) : List Nat := (marchRange m.first m.count).filter (fun b => l.contains b)

/-- The record of a bank that failed. -/
def State.marchRecord (m : March) (fail0 fail1 : W32) (b : Nat) (s : State) : State :=
  let at_ : W32 × W32 := if b = bits 31 23 fail0 then (fail0, fail1)
    else ((Config.freeBits s.freeCtr).setWidth 32, (Config.freeBits (s.freeCtr + 1)).setWidth 32)
  let r : Rec := { typ := 0x12, sev := 2, unit := unitNo 2 b, loc := locCst (bits 22 8 at_.1), aux0 := bits 7 0 at_.1, aux1 := bits 31 28 at_.2 }
  let s := s.tickFree.tickFree.logRec r
  if m.destructive && (s.bank b).before = .free then s.fmHealth r else s

/-- The records of the banks of a run that failed. -/
def State.marchRecords (m : March) (l : List Nat) (fail0 fail1 : W32) (s : State) : State :=
  forAll (m.bad l) (fun b s => s.marchRecord m fail0 fail1 b) s

/-- The registers take a run's result. -/
def State.marchReport (h : Half) (bad : List Nat) (fail0 fail1 : W32) (s : State) : State :=
  let s := s.setStw (Reg.CST_MSTAT + 4 * halfIdx h) (at32 30 (b2n (bad = [])) ||| at32 12 bad.length)
  if bad = [] then s
  else (s.setStw (Reg.CST_MFAIL0 + 4 * halfIdx h) fail0).setStw (Reg.CST_MFAIL1 + 4 * halfIdx h) (fail1 &&& 0xFE000000#32)

theorem exec_marchDone {m : March} {l : List Nat} {a b : W32} (runs : s.march h = some m) (granted : s.holdsGrant 5 (halfIdx h) = true) :
    exec (.marchDone h l a b) s = .next ((((s.marchRecords m l a b).leaveTests m (fun x => some (!l.contains x))).marchReport h (m.bad l) a b).endMarch h) := by
  change execMarchDone h l a b s = _
  simp only [execMarchDone, runs, granted, Bool.not_true, Bool.false_eq_true, if_false]
  rfl

theorem exec_marchDone_idle {l : List Nat} {a b : W32} (idle : s.march h = none ∨ s.holdsGrant 5 (halfIdx h) = false) :
    exec (.marchDone h l a b) s = .next s := by
  change execMarchDone h l a b s = _
  unfold execMarchDone
  split
  · rfl
  next runs => exact if_pos (by simp [idle.resolve_left (by simp [runs])])

theorem State.marchRecord_only (m : March) (x y : W32) (b : Nat) (s : State) : Only 12163347908112 s (s.marchRecord m x y b) := by
  have logged (r : Rec) : Only 12163347908112 s (s.tickFree.tickFree.logRec r) :=
    State.logRec_only r ((Inside.refl _).sub rfl) (State.tickFree_only ((Inside.refl _).sub rfl) (State.tickFree_only ((Inside.refl _).sub rfl) (Only.refl _ s)))
  exact Only.ite (State.fmHealth_only _ ((Inside.refl _).sub rfl) (logged _)) (logged _)

theorem State.cst_marchRecords (m : March) (l : List Nat) (a b : W32) (s : State) : (s.marchRecords m l a b).cst = s.cst :=
  forAll_keeps (P := fun t : State => t.cst = s.cst) _ (fun x _ t same => ((t.marchRecord_only m a b x).cst rfl).trans same) rfl

theorem State.cst_setStw (off : Nat) (v : W32) (s : State) : (s.setStw off v).cst = s.cst := rfl

theorem State.cst_marchReport (h : Half) (bad : List Nat) (a b : W32) (s : State) : (s.marchReport h bad a b).cst = s.cst := by
  unfold State.marchReport
  dsimp only
  by_cases good : bad = []
  · rw [if_pos good, State.cst_setStw]
  · rw [if_neg good, State.cst_setStw, State.cst_setStw, State.cst_setStw]

theorem State.stw_marchReport (h : Half) (bad : List Nat) (a b : W32) (s : State) :
    (s.marchReport h bad a b).stw (Reg.CST_MSTAT + 4 * halfIdx h) = (at32 30 (b2n (bad = [])) ||| at32 12 bad.length) := by
  have apart : Reg.CST_MSTAT + 4 * halfIdx h ≠ Reg.CST_MFAIL0 + 4 * halfIdx h ∧ Reg.CST_MSTAT + 4 * halfIdx h ≠ Reg.CST_MFAIL1 + 4 * halfIdx h := by
    simp only [Reg.CST_MSTAT, Reg.CST_MFAIL0, Reg.CST_MFAIL1]
    omega
  obtain ⟨stat0, stat1⟩ := apart
  unfold State.marchReport
  dsimp only
  by_cases good : bad = []
  · rw [if_pos good, State.stw_setStw]
  · rw [if_neg good, State.stw_setStw_other _ stat1, State.stw_setStw_other _ stat0, State.stw_setStw]

theorem State.stw_marchReport_fail (h : Half) {bad : List Nat} (some : bad ≠ []) (a b : W32) (s : State) :
    (s.marchReport h bad a b).stw (Reg.CST_MFAIL0 + 4 * halfIdx h) = a ∧
      (s.marchReport h bad a b).stw (Reg.CST_MFAIL1 + 4 * halfIdx h) = b &&& 0xFE000000#32 := by
  have apart : Reg.CST_MFAIL0 + 4 * halfIdx h ≠ Reg.CST_MFAIL1 + 4 * halfIdx h := by
    simp only [Reg.CST_MFAIL0, Reg.CST_MFAIL1]
    omega
  unfold State.marchReport
  dsimp only
  rw [if_neg some, State.stw_setStw_other _ apart, State.stw_setStw, State.stw_setStw]
  exact ⟨rfl, rfl⟩

theorem Bank.testEnded_some (x : Bool) (k : Bank) : k.testEnded (some (!x)) =
    { k with kind := if x then .retired else k.before, ps := .on, before := .free, mpass := !x } := by
  cases x <;> rfl

theorem yields_marchDone {m : March} {l : List Nat} {a b : W32} (runs : s.march h = some m) (granted : s.holdsGrant 5 (halfIdx h) = true)
    (idle : s.cst.allotWait = []) : Yields (.marchDone h l a b) s (fun t => t.march h = none ∧
      (m.destructive = true → ∀ x, x ∈ marchRange m.first m.count →
        t.bank x = { s.bank x with kind := if l.contains x then .retired else (s.bank x).before, ps := .on, before := .free, mpass := !l.contains x } ∧
        ∀ i, i < 524288 → mget (524288 * x + i) t.cst.mem = 0#8) ∧
      (m.destructive = false → t.cst.banks = s.cst.banks ∧ t.cst.mem = s.cst.mem) ∧
      t.mstat h = (at32 30 (b2n (m.bad l = [])) ||| at32 12 (m.bad l).length) ∧
      (m.bad l ≠ [] → t.stw (Reg.CST_MFAIL0 + 4 * halfIdx h) = a ∧ t.stw (Reg.CST_MFAIL1 + 4 * halfIdx h) = b &&& 0xFE000000#32)) := by
  have records := s.cst_marchRecords m l a b
  have report := ((s.marchRecords m l a b).leaveTests m (fun x => some (!l.contains x))).cst_marchReport h (m.bad l) a b
  have wait : (((s.marchRecords m l a b).leaveTests m (fun x => some (!l.contains x))).marchReport h (m.bad l) a b).cst.allotWait = [] := by
    rw [report, State.allotWait_leaveTests, records, idle]
  have stat := ((s.marchRecords m l a b).leaveTests m (fun x => some (!l.contains x))).stw_marchReport h (m.bad l) a b
  obtain ⟨tested, kept⟩ := endMarch_banks (h := h) (congrArg Cst.banks report) (congrArg Cst.mem report) wait
  refine ⟨_, exec_marchDone runs granted, State.march_endMarch wait, fun run x inRange => ?_, fun run => ?_, ?_, fun bad => ?_⟩
  · obtain ⟨bank, zero⟩ := tested run x inRange
    rw [bank, Bank.testEnded_some, State.bank_of_banks (congrArg Cst.banks records)]
    exact ⟨rfl, zero⟩
  · rw [records] at kept
    exact kept run
  · rw [State.mstat, State.stw_endMarch wait, stat]
  · rw [State.stw_endMarch wait, State.stw_endMarch wait]
    exact State.stw_marchReport_fail h bad a b _

end

/-- Settles O54: a loop over the banks of a run changes each once, and what ends the run leaves them. -/
theorem marchTestsRunAndRestore : Obligations.MarchTestsRunAndRestore := by
  refine ⟨?destructive, ?preserving, ?check, ?test, ?abort, ?aborted, ?done, ?idle⟩
  case destructive =>
    rintro f n bg c s rfl
    exact ⟨yields_marchDestructive, exec_marchDestructive_refused rfl⟩
  case preserving =>
    rintro f n c s rfl
    exact ⟨yields_marchPreserving, exec_marchPreserving_refused rfl⟩
  case check =>
    exact fun _ _ _ _ => ⟨State.marchCheck_conflict, State.marchCheck_busy, State.marchCheck_range, State.marchCheck_inRange⟩
  case test =>
    intro b x y s alone test
    simp [State.bcCheck_eq, alone, test]
  case abort => exact fun _ _ => ⟨exec_marchAbort_conflict, exec_marchAbort_idle⟩
  case aborted => exact fun _ _ _ alone runs idle => yields_marchAbort alone runs idle
  case done =>
    intro h m l a b s runs granted idle
    obtain ⟨t, next, march, tested, kept, stat, fail⟩ := yields_marchDone runs granted idle
    refine ⟨t, next, march, tested, kept, stat, fun some => fail fun good => ?_⟩
    obtain ⟨x, mem, here⟩ := List.any_eq_true.1 some
    exact List.filter_eq_nil_iff.1 good x mem here
  case idle => exact fun _ _ _ _ _ idle => exec_marchDone_idle idle

end Sys2Proof.Machine


/-! Scrubbing, the retirement list and the maintenance arbiter (R365 to R368, R377 to R381, R384). -/

namespace Sys2Proof.Machine

open Safety

/-! A line that the scrubber reads. -/

section
variable (d : DLoc) (md : Media) (s : State)

theorem State.chan_mediaFind (n : Nat) : (s.mediaFind d md).chan n = s.chan n := by
  cases md <;> rfl

theorem State.tier_mediaFind : (s.mediaFind d md).tier = s.tier := by
  cases md <;> rfl

theorem State.ras_mediaFind : (s.mediaFind d md).ras = s.ras := by
  cases md <;> rfl

end

/-- The line that a scrub reads is poisoned already. -/
def State.scrubPoisoned (at_ : Scrubbed) (s : State) : Bool := match at_ with
  | .bulk k => nmem k s.tier.poison
  | .near k => nmem k s.tier.npoison
  | _ => false

/-- A scrub that cannot correct its line counts and records it, and writes it again. -/
def State.scrubLost (lap : Nat) (d : DLoc) (s : State) : State :=
  let r : Rec := { typ := 0x01, sev := 2, unit := chanUnit d.chan, loc := locDram d.k d.bank d.line d.row, aux0 := 1, aux1 := 0xFFFFFFFF }
  ((((s.uncorrectedRead d).logRec r).fmStd 2 2 r).lapCount lap true).queueWrite d

/-- The line of a scrub is poisoned. -/
def State.scrubPoisons (at_ : Scrubbed) (s : State) : State := match at_ with
  | .bulk k => s.modTier (fun t => { t with poison := nins k t.poison })
  | .near k => s.modTier (fun t => { t with npoison := nins k t.npoison })
  | _ => s

section
variable {lap : Nat} {d : DLoc} {md : Media} {at_ : Scrubbed} {s : State}

theorem State.scrubLine_discard : s.scrubLine lap d .discard md = s.mediaFind d md := by
  unfold State.scrubLine
  exact if_pos (by rw [decide_eq_true rfl, Bool.true_or])

theorem State.scrubLine_queued (queued : nmem d.key (s.chan d.chan).wq = true) : s.scrubLine lap d at_ md = s.mediaFind d md := by
  unfold State.scrubLine
  exact if_pos (by rw [State.chan_mediaFind, queued, Bool.or_true])

theorem scrub_reads (seen : at_ ≠ .discard) (quiet : nmem d.key (s.chan d.chan).wq = false) :
    ¬ (decide (at_ = .discard) || nmem d.key ((s.mediaFind d md).chan d.chan).wq) = true := by
  rw [State.chan_mediaFind, quiet]
  simp [seen]

theorem State.scrubLine_clean (clean : (s.mediaFind d md).lineBad d = []) : s.scrubLine lap d at_ md = s.mediaFind d md := by
  unfold State.scrubLine
  dsimp only
  rw [clean]
  split
  · rfl
  · rfl

theorem State.scrubLine_one {x : Nat} (seen : at_ ≠ .discard) (quiet : nmem d.key (s.chan d.chan).wq = false)
    (one : (s.mediaFind d md).lineBad d = [x]) (clean : s.scrubPoisoned at_ = false) : s.scrubLine lap d at_ md =
      (((s.mediaFind d md).correctedRead d (locDram d.k d.bank d.line d.row)).lapCount lap false).queueWrite d := by
  unfold State.scrubLine
  dsimp only
  rw [if_neg (scrub_reads seen quiet), one]
  cases at_ with
  | discard => exact absurd rfl seen
  | module => rfl
  | bulk k =>
    change nmem k s.tier.poison = false at clean
    dsimp only
    rw [clean]
  | near k =>
    change nmem k s.tier.npoison = false at clean
    dsimp only
    rw [clean]

theorem State.scrubLine_many {x y : Nat} {l : List Nat} (seen : at_ ≠ .discard) (quiet : nmem d.key (s.chan d.chan).wq = false)
    (many : (s.mediaFind d md).lineBad d = x :: y :: l) : s.scrubLine lap d at_ md = ((s.mediaFind d md).scrubLost lap d).scrubPoisons at_ := by
  unfold State.scrubLine
  dsimp only
  rw [if_neg (scrub_reads seen quiet), many]
  cases at_ with
  | discard => exact absurd rfl seen
  | module => rfl
  | bulk k => rfl
  | near k => rfl

theorem tier_scrubPoisons_bulk (k : Nat) (s : State) : (s.scrubPoisons (.bulk k)).tier.poison = nins k s.tier.poison ∧
    (s.scrubPoisons (.bulk k)).tier.npoison = s.tier.npoison := ⟨rfl, rfl⟩

theorem tier_scrubPoisons_near (k : Nat) (s : State) : (s.scrubPoisons (.near k)).tier.npoison = nins k s.tier.npoison ∧
    (s.scrubPoisons (.near k)).tier.poison = s.tier.poison := ⟨rfl, rfl⟩

theorem State.scrubPoisons_module (s : State) : s.scrubPoisons .module = s := rfl

theorem State.ras_scrubPoisons_bulk (k : Nat) (s : State) : (s.scrubPoisons (.bulk k)).ras = s.ras := rfl

theorem State.tier_scrubLost : (s.scrubLost lap d).tier = s.tier := by
  unfold State.scrubLost
  dsimp only
  rw [(State.queueWrite_only _ (Inside.refl _) (Only.refl _ _)).tier rfl, (State.lapCount_only _ _ (Inside.refl _) (Only.refl _ _)).tier rfl,
    (State.fmStd_only _ _ _ (Inside.refl _) (Only.refl _ _)).tier rfl, (State.logRec_only _ (Inside.refl _) (Only.refl _ _)).tier rfl,
    (State.uncorrectedRead_only _ (Inside.refl _) (Only.refl _ _)).tier rfl]

/-- A record of no tenant goes to the module log. -/
theorem State.logRec_module {r : Rec} (own : r.tenant = none) : s.logRec r =
    if r.sev = 2 then (s.moduleLog (r.bytes s.now)).alert alFail else s.moduleLog (r.bytes s.now) := by
  simp only [State.logRec, own]

theorem State.laps_moduleLog (b : W256) (s : State) :
    (s.moduleLog b).ras.lapUe = s.ras.lapUe ∧ (s.moduleLog b).ras.lapCe = s.ras.lapCe := by
  simp only [State.moduleLog, State.modRas]
  by_cases wraps : s.ras.logNext + 1 = 65536
  · rw [if_pos wraps]
    exact ⟨rfl, rfl⟩
  · rw [if_neg wraps]
    exact ⟨rfl, rfl⟩

theorem State.laps_logRec {r : Rec} (own : r.tenant = none) (s : State) :
    (s.logRec r).ras.lapUe = s.ras.lapUe ∧ (s.logRec r).ras.lapCe = s.ras.lapCe := by
  rw [State.logRec_module own]
  split
  · exact s.laps_moduleLog _
  · exact s.laps_moduleLog _

theorem State.lapUe_scrubLost : tget 0 lap (s.scrubLost lap d).ras.lapUe = tget 0 lap s.ras.lapUe + 1 := by
  unfold State.scrubLost
  dsimp only
  rw [(State.queueWrite_only _ (Inside.refl _) (Only.refl _ _)).ras rfl]
  refine (tget_tset_same _ _ _ _).trans (congrArg (fun t => tget 0 lap t + 1) ?_)
  rw [(State.fmStd_only _ _ _ (Inside.refl _) (Only.refl _ _)).ras rfl, (State.laps_logRec rfl _).1,
    (State.uncorrectedRead_only _ (Inside.refl _) (Only.refl _ _)).ras rfl]

end

/-! SCRUB_READ. -/

/-- A channel that a scrub may read: in service, not lost, with no read under way. -/
def State.chanOpen (ch : Nat) (s : State) : Bool :=
  (s.chan ch).st = .inService && !(s.chan ch).lost && !s.dmc.reads.any (fun r => r.chan = ch && !r.timedOut)

/-- A bank that a scrub may read. -/
def State.bankShut (u : Nat) (s : State) : Bool :=
  (s.bank u).ps ≠ .on || (s.bank u).kind = .test || (s.bank u).kind = .retired || (tget {} u s.cst.ports).wait.any CWait.port1

/-- The line of a Near channel that a location names. -/
def nearLoc (n : Nat) (loc : W64) : DLoc :=
  { chan := 136 + n, k := 0, bank := bits 31 26 loc, row := bits 20 0 loc, line := bits 25 21 loc % 16, lrank := none }

/-- The line of a Bulk channel that a location names. -/
def State.bulkLoc (u : Nat) (loc : W64) (s : State) : DLoc :=
  { chan := u, k := bits 32 32 loc, bank := bits 31 26 loc % 16, row := bits 20 0 loc, line := bits 25 21 loc,
    lrank := s.logicalRank (2 * u + bits 32 32 loc) (bits 20 0 loc) }

section
variable {u n : Nat} {loc : W64} {md : Media} {s t : State}

theorem State.chanOpen_iff : s.chanOpen u = true ↔
    (s.chan u).st = .inService ∧ (s.chan u).lost = false ∧ s.dmc.reads.any (fun r => r.chan = u && !r.timedOut) = false := by
  simp [State.chanOpen, and_assoc]

theorem exec_scrubRead_near (known : n < 128) : exec (.scrubRead 0#2 n loc md) s = if !s.chanOpen (136 + n) then .next s
    else .next (if (s.scrubGrant 0 (136 + n)).1 then (s.scrubGrant 0 (136 + n)).2.scrubLine (n / 64) (nearLoc n loc)
      ((s.scrubGrant 0 (136 + n)).2.scrubNear n (nearLoc n loc)) md else (s.scrubGrant 0 (136 + n)).2) := by
  change execScrubRead 0#2 n loc md s = _
  unfold execScrubRead
  dsimp only [show (0#2).toNat = 0 from rfl]
  rw [if_pos known]
  change (if !s.chanOpen (136 + n) then _ else _) = _
  split
  · rfl
  · rcases s.scrubGrant 0 (136 + n) with ⟨_ | _, t⟩
    · rfl
    · rfl

theorem exec_scrubRead_bulk (known : u < 136) : exec (.scrubRead 1#2 u loc md) s = if !s.chanOpen u then .next s
    else .next (if (s.scrubGrant 1 u).1 then (s.scrubGrant 1 u).2.scrubLine (2 + halfIdx (scopeHalf [u])) ((s.scrubGrant 1 u).2.bulkLoc u loc)
      ((s.scrubGrant 1 u).2.scrubBulk ((s.scrubGrant 1 u).2.bulkLoc u loc)) md else (s.scrubGrant 1 u).2) := by
  change execScrubRead 1#2 u loc md s = _
  unfold execScrubRead
  dsimp only [show (1#2).toNat = 1 from rfl]
  rw [if_pos known]
  change (if !s.chanOpen u then _ else _) = _
  split
  · rfl
  · rcases s.scrubGrant 1 u with ⟨_ | _, t⟩
    · rfl
    · rfl

theorem exec_scrubRead_bank (known : u < 512) : exec (.scrubRead 2#2 u loc md) s = if s.bankShut u then .next s
    else .next (if (s.scrubGrant 2 (scBank u)).1 then
      (s.scrubGrant 2 (scBank u)).2.scrubEntry (4 + u / 256) u (bits 14 0 loc) (bits 16 15 loc) md else (s.scrubGrant 2 (scBank u)).2) := by
  change execScrubRead 2#2 u loc md s = _
  unfold execScrubRead
  dsimp only [show (2#2).toNat = 2 from rfl]
  rw [if_pos known]
  change (if s.bankShut u then _ else _) = _
  split
  · rfl
  · rcases s.scrubGrant 2 (scBank u) with ⟨_ | _, t⟩
    · rfl
    · rfl

theorem exec_scrubRead_noNear (unknown : 128 ≤ u) : exec (.scrubRead 0#2 u loc md) s = .fault (.noSuchUnit "Near channel" u) := by
  change execScrubRead 0#2 u loc md s = _
  change (if u < 128 then _ else _) = _
  exact if_neg (Nat.not_lt.2 unknown)

theorem exec_scrubRead_noBulk (unknown : 136 ≤ u) : exec (.scrubRead 1#2 u loc md) s = .fault (.noSuchUnit "Bulk channel" u) := by
  change execScrubRead 1#2 u loc md s = _
  change (if u < 136 then _ else _) = _
  exact if_neg (Nat.not_lt.2 unknown)

theorem exec_scrubRead_noBank (unknown : 512 ≤ u) : exec (.scrubRead 2#2 u loc md) s = .fault (.noSuchUnit "Cistern bank" u) := by
  change execScrubRead 2#2 u loc md s = _
  change (if u < 512 then _ else _) = _
  exact if_neg (Nat.not_lt.2 unknown)

theorem exec_scrubRead_noTier : exec (.scrubRead 3#2 u loc md) s = .next s := by
  change execScrubRead 3#2 u loc md s = _
  rfl

theorem State.scrubGrant_off {tier : Nat} (off : bit 31 (s.stw (Reg.RAS_SCFG + 4 * tier)) = false ∨ s.pwm.standby = true) :
    s.scrubGrant tier u = (false, s) := if_pos (by rcases off with h | h <;> simp [h])

theorem chanOpen_of_not (shut : (s.chan u).st ≠ .inService ∨ (s.chan u).lost = true ∨ s.dmc.reads.any (fun r => r.chan = u && !r.timedOut) = true) :
    s.chanOpen u = false := by
  rcases shut with h | h | h <;> simp [State.chanOpen, h]

theorem bankShut_of (shut : (s.bank u).ps ≠ .on ∨ (s.bank u).kind = .test ∨ (s.bank u).kind = .retired ∨
    (tget {} u s.cst.ports).wait.any CWait.port1 = true) : s.bankShut u = true := by
  rcases shut with h | h | h | h <;> simp [State.bankShut, h]

/-! The end of a lap. -/

theorem bits_at32_halves {a b : Nat} (ha : a < 65536) (hb : b < 65536) :
    bits 15 0 (at32 16 a ||| at32 0 b) = b ∧ bits 31 16 (at32 16 a ||| at32 0 b) = a := by
  rw [bits_or, bits_or]
  constructor
  · have high : bits 15 0 (at32 16 a) = 0 := by
      rw [bits, fld, toNat_at32]
      omega
    rw [high, bits_at32_zero (by decide) hb, Nat.zero_or]
  · have low : bits 31 16 (at32 0 b) = 0 := by
      rw [bits, fld, toNat_at32]
      omega
    have high : bits 31 16 (at32 16 a) = a := by
      rw [bits, fld, toNat_at32]
      omega
    rw [low, high, Nat.or_zero]

section
variable {tier : BitVec 2} {h : Half} {ms : W32}

/-- The number of a lap's unit. -/
def lapUnit (tier : BitVec 2) (h : Half) : Nat := 2 * tier.toNat + halfIdx h

/-- The registers and counts of a lap that ends. -/
def State.lapStored (k : Nat) (ms : W32) (s : State) : State :=
  (((s.setStw (Reg.RAS_LAPT + 4 * k) ms).cntStw (Reg.RAS_LAPC + 4 * k) 31 16 1).setStw (Reg.RAS_LAPE + 4 * k)
      (at32 16 (min 0xFFFF (tget 0 k s.ras.lapCe)) ||| at32 0 (min 0xFFFF (tget 0 k s.ras.lapUe)))).modRas
    (fun r => { r with lapCe := tset 0 k 0 r.lapCe, lapUe := tset 0 k 0 r.lapUe })

theorem exec_lapEnd (on : s.scrubOn tier.toNat = true) : exec (.lapEnd tier h ms) s =
    .next (((s.lapStored (lapUnit tier h) ms).endScrubs tier.toNat h).logRec
      { typ := 0x03, sev := 0, unit := unitNo 10 (lapUnit tier h), aux0 := ms.toNat, aux1 := tget 0 (lapUnit tier h) s.ras.lapUe }) := by
  change execLapEnd tier h ms s = _
  unfold execLapEnd
  dsimp only
  rw [on]
  rfl

theorem State.stw_modRas (f : Ras → Ras) (off : Nat) (s : State) : (s.modRas f).stw off = s.stw off := rfl

theorem stw_lapStored (k : Nat) (ms : W32) (s : State) : (s.lapStored k ms).stw (Reg.RAS_LAPT + 4 * k) = ms ∧
    (s.lapStored k ms).stw (Reg.RAS_LAPC + 4 * k) = satField 31 16 1 (s.stw (Reg.RAS_LAPC + 4 * k)) ∧
    (s.lapStored k ms).stw (Reg.RAS_LAPE + 4 * k) =
      (at32 16 (min 0xFFFF (tget 0 k s.ras.lapCe)) ||| at32 0 (min 0xFFFF (tget 0 k s.ras.lapUe))) := by
  have apart : Reg.RAS_LAPT + 4 * k ≠ Reg.RAS_LAPE + 4 * k ∧ Reg.RAS_LAPT + 4 * k ≠ Reg.RAS_LAPC + 4 * k ∧
      Reg.RAS_LAPC + 4 * k ≠ Reg.RAS_LAPE + 4 * k := by
    simp only [Reg.RAS_LAPT, Reg.RAS_LAPC, Reg.RAS_LAPE]
    omega
  obtain ⟨time, count, errors⟩ := apart
  refine ⟨?_, ?_, ?_⟩
  · rw [State.lapStored, State.stw_modRas, State.stw_setStw_other _ time, State.cntStw, State.stw_modStw_other _ count, State.stw_setStw]
  · rw [State.lapStored, State.stw_modRas, State.stw_setStw_other _ errors, State.cntStw, State.stw_modStw, State.stw_setStw_other _ count.symm]
  · rw [State.lapStored, State.stw_modRas, State.stw_setStw]

theorem laps_maintEnd (c u : Nat) (s : State) : (s.maintEnd c u).ras.lapUe = s.ras.lapUe ∧ (s.maintEnd c u).ras.lapCe = s.ras.lapCe := by
  unfold State.maintEnd State.grantWon
  refine forAll_keeps (P := fun t : State => t.ras.lapUe = s.ras.lapUe ∧ t.ras.lapCe = s.ras.lapCe) _ (fun a _ t same => ?_) ⟨rfl, rfl⟩
  split
  · exact same
  · exact same

theorem laps_endScrubs (n : Nat) (h : Half) (s : State) :
    (s.endScrubs n h).ras.lapUe = s.ras.lapUe ∧ (s.endScrubs n h).ras.lapCe = s.ras.lapCe := by
  unfold State.endScrubs
  refine forAll_keeps (P := fun t : State => t.ras.lapUe = s.ras.lapUe ∧ t.ras.lapCe = s.ras.lapCe) _ (fun u _ t same => ?_) ⟨rfl, rfl⟩
  obtain ⟨ue, ce⟩ := laps_maintEnd 1 u t
  exact ⟨ue.trans same.1, ce.trans same.2⟩

theorem yields_lapEnd {k : Nat} (unit_ : k = 2 * tier.toNat + halfIdx h) (on : s.scrubOn tier.toNat = true) :
    Yields (.lapEnd tier h ms) s (fun t => t.stw (Reg.RAS_LAPT + 4 * k) = ms ∧
      t.stw (Reg.RAS_LAPC + 4 * k) = satField 31 16 1 (s.stw (Reg.RAS_LAPC + 4 * k)) ∧
      bits 15 0 (t.stw (Reg.RAS_LAPE + 4 * k)) = min 0xFFFF (tget 0 k s.ras.lapUe) ∧
      bits 31 16 (t.stw (Reg.RAS_LAPE + 4 * k)) = min 0xFFFF (tget 0 k s.ras.lapCe) ∧
      tget 0 k t.ras.lapUe = 0 ∧ tget 0 k t.ras.lapCe = 0 ∧ t.tier = s.tier) := by
  obtain rfl : k = lapUnit tier h := unit_
  have small : lapUnit tier h < 6 := by
    have known : tier.toNat < 3 := by
      simp only [State.scrubOn, Bool.and_eq_true, decide_eq_true_eq] at on
      exact on.1
    rw [lapUnit]
    cases h <;> simp only [halfIdx] <;> omega
  have kept (off : Nat) (far : off ≠ Reg.PWM_ALERT) (r : Rec) :
      (((s.lapStored (lapUnit tier h) ms).endScrubs tier.toNat h).logRec r).stw off = (s.lapStored (lapUnit tier h) ms).stw off := by
    rw [State.stw_logRec_other _ far, State.stw, (State.endScrubs_only _ _ (Inside.refl _) (Only.refl _ _)).reg rfl, State.stw]
  have far : Reg.RAS_LAPT + 4 * lapUnit tier h ≠ Reg.PWM_ALERT ∧ Reg.RAS_LAPC + 4 * lapUnit tier h ≠ Reg.PWM_ALERT ∧
      Reg.RAS_LAPE + 4 * lapUnit tier h ≠ Reg.PWM_ALERT := by
    simp only [Reg.RAS_LAPT, Reg.RAS_LAPC, Reg.RAS_LAPE, Reg.PWM_ALERT]
    omega
  obtain ⟨time, count, errors⟩ := stw_lapStored (lapUnit tier h) ms s
  obtain ⟨low, high⟩ := bits_at32_halves (a := min 0xFFFF (tget 0 (lapUnit tier h) s.ras.lapCe))
    (b := min 0xFFFF (tget 0 (lapUnit tier h) s.ras.lapUe)) (by omega) (by omega)
  refine ⟨_, exec_lapEnd on, ?_, ?_, ?_, ?_, ?_, ?_, ?_⟩
  · rw [kept _ far.1, time]
  · rw [kept _ far.2.1, count]
  · rw [kept _ far.2.2, errors, low]
  · rw [kept _ far.2.2, errors, high]
  · rw [(State.laps_logRec rfl _).1, (laps_endScrubs _ _ _).1]
    exact tget_tset_same 0 0 _ s.ras.lapUe
  · rw [(State.laps_logRec rfl _).2, (laps_endScrubs _ _ _).2]
    exact tget_tset_same 0 0 _ s.ras.lapCe
  · rw [(State.logRec_only _ (Inside.refl _) (Only.refl _ _)).tier rfl, (State.endScrubs_only _ _ (Inside.refl _) (Only.refl _ _)).tier rfl]
    rfl

theorem exec_lapOverdue (on : s.scrubOn tier.toNat = true) (set_ : s.stwF (Reg.RAS_SCFG + 4 * tier.toNat) 15 0 ≠ 0) :
    exec (.lapOverdue tier h ms) s = .next (s.logRec { typ := 0x03, sev := 1, unit := unitNo 10 (2 * tier.toNat + halfIdx h),
                                                       aux0 := ms.toNat, aux1 := tget 0 (2 * tier.toNat + halfIdx h) s.ras.lapUe }) := by
  change execLapOverdue tier h ms s = _
  exact if_pos (by simp [on, set_])

theorem exec_lapEnd_off (off : s.scrubOn tier.toNat = false) : exec (.lapEnd tier h ms) s = .next s := by
  change execLapEnd tier h ms s = _
  exact if_pos (by simp [off])

theorem exec_lapOverdue_off (off : s.scrubOn tier.toNat = false ∨ s.stwF (Reg.RAS_SCFG + 4 * tier.toNat) 15 0 = 0) :
    exec (.lapOverdue tier h ms) s = .next s := by
  change execLapOverdue tier h ms s = _
  exact if_neg (by rcases off with h | h <;> simp [h])

end

/-! The retirement list. -/

section
variable {c : Status} {h : Half} {k : BitVec 4}

theorem exec_retireNearSlot_refused (check : s.retCheck (s.rarg ≥ 2 * nearSlotsPerHalf) (s.retListed (retEntry 5 0 s.rarg)) s.retFull = c)
    (bad : c ≠ .ok) : exec .retireNearSlot s = .next (s.retEnds s.rarg 5 c) := by
  change execRetireNearSlot s = _
  simp only [execRetireNearSlot, check]

theorem exec_retireBulkUnit_refused (check : s.retCheck (s.rarg ≥ bulkUnitsAll)
    (s.rarg ≥ bulkUnitsPerHalf || s.retListed (retEntry 6 (halfIdx h) s.rarg)) s.retFull = c) (bad : c ≠ .ok) :
    exec (.retireBulkUnit h) s = .next (s.retEnds s.rarg 6 c) := by
  change execRetireBulkUnit h s = _
  simp only [execRetireBulkUnit, check]

theorem exec_addRetirementEntry_refused (check : s.retCheck (s.rarg ≥ kindCount k.toNat)
    (!s.unitRetired k.toNat h s.rarg || s.retListed (retEntry k.toNat (halfIdx h) s.rarg)) s.retFull = c) (bad : c ≠ .ok) :
    exec (.addRetirementEntry k h) s = .next (s.retEnds s.rarg k.toNat c) := by
  change execAddRetirementEntry k h s = _
  simp only [execAddRetirementEntry, check]

theorem exec_emptyRetirementEntry_refused (check : s.retCheck (s.rarg ≥ 1024) false false = c) (bad : c ≠ .ok) :
    exec .emptyRetirementEntry s = .next (s.retEnds s.rarg 0 c) := by
  change execEmptyRetirementEntry s = _
  simp only [execEmptyRetirementEntry, check]

theorem State.retCheck_ok {bad denied full : Bool} (alone : s.conflict = false) (idle : s.rcmdBusy = false) (good : bad = false)
    (granted : denied = false) (room : full = false) : s.retCheck bad denied full = .ok := by
  simp [State.retCheck, alone, idle, good, granted, room]

/-- What a relocation that starts leaves. -/
theorem startReloc_keeps (r : Reloc) (e : Plot) (s : State) :
    (s.startReloc r e).stw Reg.RAS_RSTAT &&& 0xFFFFFF00#32 = 0x80000000#32 ∧
      (s.startReloc r e).tier.reloc = some { r with dest := s.relocDest r e } ∧ (s.startReloc r e).flash = s.flash := by
  have marb : ∀ h : Half, Reg.RAS_RSTAT ≠ Reg.RAS_MARB + 4 * halfIdx h := fun h => by cases h <;> decide
  refine ⟨?_, ?_, (State.startReloc_only r e (Inside.refl _) (Only.refl _ s)).flash rfl⟩
  · rw [State.startReloc, State.stw_maintAsk _ rfl marb]
    change (s.tickFree.setStw Reg.RAS_RSTAT 0x80000000#32).stw Reg.RAS_RSTAT &&& 0xFFFFFF00#32 = _
    rw [State.stw_setStw]
    decide
  · rw [State.startReloc, (State.maintAsk_only _ _ _ (Inside.refl _) (Only.refl _ _)).tier rfl]
    rfl

theorem exec_retireNearSlot_held {p : Nat} {e : Plot}
    (ok : s.retCheck (s.rarg ≥ 2 * nearSlotsPerHalf) (s.retListed (retEntry 5 0 s.rarg)) s.retFull = .ok)
    (holder : s.tier.plots.find? (fun x => x.2.hasSlot && x.2.slot = s.rarg) = some (p, e)) : exec .retireNearSlot s =
      .next (s.startReloc { bulk := false, half := slotHalf s.rarg, number := s.rarg, plot := p, dest := none } e) := by
  change execRetireNearSlot s = _
  unfold execRetireNearSlot
  dsimp only
  rw [ok]
  dsimp only [Reloc.holds]
  simp only [Bool.false_eq_true, if_false, holder]

theorem exec_retireBulkUnit_held {p : Nat} {e : Plot}
    (ok : s.retCheck (s.rarg ≥ bulkUnitsAll) (s.rarg ≥ bulkUnitsPerHalf || s.retListed (retEntry 6 (halfIdx h) s.rarg)) s.retFull = .ok)
    (holder : s.tier.plots.find? (fun x => x.2.hasBulk && homeHalf x.1 = h && x.2.loc ≤ s.rarg && s.rarg < x.2.loc + x.2.units) = some (p, e)) :
    exec (.retireBulkUnit h) s = .next (s.startReloc { bulk := true, half := h, number := s.rarg, plot := p, dest := none } e) := by
  change execRetireBulkUnit h s = _
  unfold execRetireBulkUnit
  dsimp only
  rw [ok]
  dsimp only [Reloc.holds]
  simp only [if_true, holder]

theorem exec_retireNearSlot_free
    (ok : s.retCheck (s.rarg ≥ 2 * nearSlotsPerHalf) (s.retListed (retEntry 5 0 s.rarg)) s.retFull = .ok)
    (free : s.tier.plots.find? (fun x => x.2.hasSlot && x.2.slot = s.rarg) = none) :
    exec .retireNearSlot s = .next ((s.leaveSlot s.rarg).addEntry 5 0 s.rarg) := by
  change execRetireNearSlot s = _
  unfold execRetireNearSlot
  dsimp only
  rw [ok]
  dsimp only [Reloc.holds]
  simp only [Bool.false_eq_true, if_false, free]

theorem exec_retireBulkUnit_free
    (ok : s.retCheck (s.rarg ≥ bulkUnitsAll) (s.rarg ≥ bulkUnitsPerHalf || s.retListed (retEntry 6 (halfIdx h) s.rarg)) s.retFull = .ok)
    (free : s.tier.plots.find? (fun x => x.2.hasBulk && homeHalf x.1 = h && x.2.loc ≤ s.rarg && s.rarg < x.2.loc + x.2.units) = none) :
    exec (.retireBulkUnit h) s = .next ((s.leaveUnit h s.rarg).addEntry 6 (halfIdx h) s.rarg) := by
  change execRetireBulkUnit h s = _
  unfold execRetireBulkUnit
  dsimp only
  rw [ok]
  dsimp only [Reloc.holds]
  simp only [if_true, free]

/-- What a new entry of the list leaves. -/
theorem addEntry_keeps (kind half n : Nat) (s : State) :
    (s.addEntry kind half n).flash.list = tput (lowestNot (s.flash.list.map Prod.fst)) (retEntry kind half n) s.flash.list ∧
      (s.addEntry kind half n).stw Reg.RAS_RSTAT = 0x80000000#32 ∧ (s.addEntry kind half n).tier = s.tier :=
  ⟨rfl, s.stw_setStw Reg.RAS_RSTAT 0x80000000#32, rfl⟩

theorem exec_addRetirementEntry_ok (ok : s.retCheck (s.rarg ≥ kindCount k.toNat)
    (!s.unitRetired k.toNat h s.rarg || s.retListed (retEntry k.toNat (halfIdx h) s.rarg)) s.retFull = .ok) :
    exec (.addRetirementEntry k h) s = .next (s.addEntry k.toNat (halfIdx h) s.rarg) := by
  change execAddRetirementEntry k h s = _
  simp only [execAddRetirementEntry, ok]

theorem exec_emptyRetirementEntry_ok (ok : s.retCheck (s.rarg ≥ 1024) false false = .ok) :
    exec .emptyRetirementEntry s = .next (s.flashWrite s.rarg 0 (tdel s.rarg s.flash.list)) := by
  change execEmptyRetirementEntry s = _
  simp only [execEmptyRetirementEntry, ok]

theorem exec_flashWriteDone_idle (idle : s.ras.flashWr = none) : exec .flashWriteDone s = .next s := by
  change execFlashWriteDone s = _
  simp only [execFlashWriteDone, idle]

theorem exec_flashWriteDone {n k : Nat} (writes : s.ras.flashWr = some (n, k)) : exec .flashWriteDone s =
    .next (((s.modRas (fun r => { r with flashWr := none })).setStw Reg.RAS_RSTAT 0#32).retRecord n k .ok) := by
  change execFlashWriteDone s = _
  simp only [execFlashWriteDone, writes]

theorem State.flashWr_moduleLog (b : W256) (s : State) : (s.moduleLog b).ras.flashWr = s.ras.flashWr := by
  simp only [State.moduleLog, State.modRas]
  by_cases wraps : s.ras.logNext + 1 = 65536
  · rw [if_pos wraps]
  · rw [if_neg wraps]

theorem State.flashWr_logRec {r : Rec} (own : r.tenant = none) (s : State) : (s.logRec r).ras.flashWr = s.ras.flashWr := by
  rw [State.logRec_module own]
  split
  · exact s.flashWr_moduleLog _
  · exact s.flashWr_moduleLog _

theorem yields_flashWriteDone {n k : Nat} (writes : s.ras.flashWr = some (n, k)) : Yields .flashWriteDone s (fun t => t.ras.flashWr = none ∧
    t.stw Reg.RAS_RSTAT = 0#32 ∧ t.flash = s.flash) := by
  refine ⟨_, exec_flashWriteDone writes, ?_, ?_, ?_⟩
  · rw [State.retRecord, State.flashWr_logRec rfl]
    rfl
  · rw [State.retRecord, State.stw_logRec_other _ (by decide), State.stw_setStw]
  · rw [(State.retRecord_only n k .ok (Inside.refl _) (Only.refl _ _)).flash rfl]
    rfl

end

/-! Relocations. -/

/-- The allocator leaves a relocation's place, and the list has its entry. -/
def State.relocated (r : Reloc) (s : State) : State :=
  (if r.bulk then s.leaveUnit r.half r.number else s.leaveSlot r.number).addEntry (relocKind r) (halfIdx r.half) r.number

section
variable {r : Reloc} {e : Plot}

theorem exec_relocationDone_none (idle : s.tier.reloc = none) : exec .relocationDone s = .next s := by
  change execRelocationDone s = _
  simp only [execRelocationDone, idle]

theorem exec_relocationWaitExpire_none (idle : s.tier.reloc = none) : exec .relocationWaitExpire s = .next s := by
  change execRelocationWaitExpire s = _
  simp only [execRelocationWaitExpire, idle]

theorem exec_relocationDone_waits (runs : s.tier.reloc = some r) (parked : s.holdsGrant 8 (2 * b2n r.bulk + halfIdx r.half) = false) :
    exec .relocationDone s = .next s := by
  change execRelocationDone s = _
  unfold execRelocationDone
  rw [runs]
  exact if_pos (by rw [parked]; rfl)

theorem exec_relocationDone_gone (runs : s.tier.reloc = some r) (granted : s.holdsGrant 8 (2 * b2n r.bulk + halfIdx r.half) = true)
    (gone : s.plot r.plot = none) : exec .relocationDone s = .next (((s.relocEnds r).relocated r).afterReloc r.plot) := by
  change execRelocationDone s = _
  unfold execRelocationDone
  rw [runs]
  dsimp only
  rw [granted, gone]
  rfl

section
variable (runs : s.tier.reloc = some r) (granted : s.holdsGrant 8 (2 * b2n r.bulk + halfIdx r.half) = true) (here : s.plot r.plot = some e)
include runs granted here

theorem exec_relocationDone_moving (moves : e.st = .promoting ∨ e.st = .demoting) : exec .relocationDone s = .next s := by
  change execRelocationDone s = _
  unfold execRelocationDone
  rw [runs]
  dsimp only
  rw [granted, here]
  dsimp only
  rw [if_neg (by simp)]
  exact if_pos (by rcases moves with h | h <;> simp [h])

variable (promotes : e.st ≠ .promoting) (demotes : e.st ≠ .demoting)
include promotes demotes

theorem exec_relocationDone_left (left : r.holds r.plot e = false) :
    exec .relocationDone s = .next (((s.relocEnds r).relocated r).afterReloc r.plot) := by
  change execRelocationDone s = _
  unfold execRelocationDone
  rw [runs]
  dsimp only
  rw [granted, here]
  dsimp only
  rw [if_neg (by simp), if_neg (by simp [promotes, demotes]), left]
  rfl

variable (holds : r.holds r.plot e = true)
include holds

theorem exec_relocationDone_full (full : r.dest.orElse (fun _ => s.relocDest r e) = none) : exec .relocationDone s = .next s := by
  change execRelocationDone s = _
  unfold execRelocationDone
  rw [runs]
  dsimp only
  rw [granted, here]
  dsimp only
  rw [if_neg (by simp), if_neg (by simp [promotes, demotes]), if_neg (by simp [holds]), full]

theorem exec_relocationDone_moves {d : Nat} (dest : r.dest.orElse (fun _ => s.relocDest r e) = some d) : exec .relocationDone s =
    .next ((((if r.bulk then (s.tickFree.relocEnds r).relocCopy r { e with st := .bulk } { e with st := .bulk, loc := d }
        else (s.tickFree.relocEnds r).relocCopy r e { e with slot := d }).setPlot r.plot
      (if r.bulk then { e with loc := d } else { e with slot := d })).relocated r).afterReloc r.plot) := by
  change execRelocationDone s = _
  unfold execRelocationDone
  rw [runs]
  dsimp only
  rw [granted, here]
  dsimp only
  rw [if_neg (by simp), if_neg (by simp [promotes, demotes]), if_neg (by simp [holds]), dest]
  rfl

end

/-- The free place of a relocation's plot, if it has come. -/
def State.relocFree (r : Reloc) (s : State) : Bool := match s.plot r.plot with
  | some e => (s.relocDest r e).isSome
  | none => true

theorem exec_relocationWaitExpire (runs : s.tier.reloc = some r) : exec .relocationWaitExpire s = if r.dest.isSome || s.relocFree r then .next s
    else .next ((((s.relocEnds r).setStw Reg.RAS_RSTAT 0#32).retEnds r.number (relocKind r) .quota).afterReloc r.plot) := by
  change execRelocationWaitExpire s = _
  unfold execRelocationWaitExpire
  rw [runs]
  rfl

end

end

/-! The maintenance arbiter. -/

section
variable {s : State}

@[simp] theorem nmem_ninsAll (l : List Nat) (x : Nat) (n : NSet) : nmem x (ninsAll l n) = (decide (x ∈ l) || nmem x n) := by
  induction l generalizing n with
  | nil => simp [ninsAll]
  | cons y r ih =>
    refine (ih (nins y n)).trans ?_
    rw [nmem_nins]
    by_cases here : x = y <;> simp [here]

theorem exec_maintGrantRequest {c : BitVec 4} {l : List Nat} {u : Nat} (low : 1 ≤ c.toNat) (high : c.toNat ≤ 8) :
    exec (.maintGrantRequest c l u) s = .next (s.maintAsk c.toNat l u) := by
  change execMaintGrantRequest c l u s = _
  exact if_pos ⟨low, high⟩

theorem exec_maintGrantRequest_unknown {c : BitVec 4} {l : List Nat} {u : Nat} (unknown : c.toNat = 0 ∨ 8 < c.toNat) :
    exec (.maintGrantRequest c l u) s = .next s := by
  change execMaintGrantRequest c l u s = _
  exact if_neg (by omega)

/-- An activity as it asks for its grant. -/
def State.asks (c : Nat) (l : List Nat) (u : Nat) (s : State) : Activity :=
  { id := s.ras.nextAct, code := c, scope := ninsAll l [], unit := u, start := s.now, granted := false }

theorem clash_asks {g : Activity} {c u : Nat} {l : List Nat} : g.clash (s.asks c l u) = true ↔
    g.id ≠ s.ras.nextAct ∧ actX g.code c = true ∧ ∃ x ∈ g.scope, x ∈ l := by
  have empty (x : Nat) : nmem x [] = false := rfl
  rw [Activity.clash, Bool.and_eq_true, Bool.and_eq_true, decide_eq_true_iff, List.any_eq_true, and_assoc]
  simp [State.asks, empty]

theorem maintAsk_granted {c u : Nat} {l : List Nat}
    (free : s.ras.acts.all (fun g => !(g.granted && actX g.code c && g.scope.any (fun x => l.contains x))) = true) :
    ∃ a, (s.maintAsk c l u).ras.acts = s.ras.acts ++ [a] ∧ a.granted = true ∧ a.code = c ∧ a.unit = u := by
  have noClash : s.ras.acts.filter (fun g : Activity => g.granted && g.clash (s.asks c l u)) = [] := by
    rw [List.filter_eq_nil_iff]
    intro g mem both
    obtain ⟨granted, clash⟩ := Bool.and_eq_true_iff.1 both
    obtain ⟨-, conflict, x, scope, wanted⟩ := clash_asks.1 clash
    have quiet := List.all_eq_true.1 free g mem
    simp [granted, conflict] at quiet
    exact quiet x scope wanted
  refine ⟨{ s.asks c l u with granted := true }, ?_, rfl, rfl, rfl⟩
  unfold State.maintAsk
  dsimp only
  change (if s.ras.acts.filter (fun g : Activity => g.granted && g.clash (s.asks c l u)) = [] then _ else _ : State).ras.acts = _
  rw [if_pos noClash]
  rfl

theorem State.acts_setDefer (c u v : Nat) (s : State) : (s.setDefer c u v).ras = s.ras := by
  unfold State.setDefer
  split
  · rfl
  · rfl

theorem maintAsk_waits {g : Activity} {c u : Nat} {l : List Nat} (mem : g ∈ s.ras.acts) (granted : g.granted = true)
    (other : g.id ≠ s.ras.nextAct) (conflict : actX g.code c = true) (shared : ∃ x, x ∈ l ∧ nmem x g.scope = true)
    (stronger : actRank c < actRank g.code) : ∃ a, (s.maintAsk c l u).ras.acts = s.ras.acts ++ [a] ∧ a.granted = false := by
  obtain ⟨x, wanted, scope⟩ := shared
  have clash : g.clash (s.asks c l u) = true := clash_asks.2 ⟨other, conflict, x, by simpa [nmem] using scope, wanted⟩
  have inside : g ∈ s.ras.acts.filter (fun g : Activity => g.granted && g.clash (s.asks c l u)) := List.mem_filter.2 ⟨mem, by rw [granted, clash]; rfl⟩
  have keeps : g.loses (s.asks c l u) = false := by
    unfold Activity.loses
    rw [if_pos (by exact stronger.ne')]
    exact decide_eq_false (by exact Nat.not_lt.2 stronger.le)
  refine ⟨s.asks c l u, ?_, rfl⟩
  unfold State.maintAsk
  dsimp only
  change (if s.ras.acts.filter (fun g : Activity => g.granted && g.clash (s.asks c l u)) = [] then _
    else if (s.ras.acts.filter (fun g : Activity => g.granted && g.clash (s.asks c l u))).all (fun g => g.loses (s.asks c l u)) = true then _ else _ : State).ras.acts = _
  rw [if_neg (List.ne_nil_of_mem inside), if_neg ?_, State.acts_setDefer]
  · rfl
  · intro all
    have loses := List.all_eq_true.1 all g inside
    rw [keeps] at loses
    cases loses

theorem actX_comm (a b : Nat) : actX a b = actX b a := by
  rw [actX, actX, min_comm, max_comm]

theorem exec_maintPark {a : Activity} (found : s.ras.acts.find? (fun x => x.id = a.id) = some a) : exec (.maintPark a.id) s =
    .next (if a.granted && a.parking then (((s.modAct a.id (fun a => { a with granted := false, parking := false })).countPark a.scope).setDefer
      a.code a.unit Status.deferred.code).grantWon else s) := by
  change execMaintPark a.id s = _
  rw [execMaintPark, State.park, found]

theorem exec_maintResume {a : Activity} (found : s.ras.acts.find? (fun x => x.id = a.id) = some a) : exec (.maintResume a.id) s =
    .next (if !a.granted && !a.won && !(s.pwm.standby && (a.code = 1 || a.code = 5)) && !s.ras.acts.any (fun g => (g.granted || a.loses g) && g.clash a)
      then (s.modAct a.id (fun a => { a with granted := true, longLogged := false })).setDefer a.code a.unit 0 else s) := by
  change execMaintResume a.id s = _
  rw [execMaintResume, State.resume, found]

theorem exec_maint_unknown {i : Nat} (gone : s.ras.acts.find? (fun x => x.id = i) = none) :
    exec (.maintPark i) s = .next s ∧ exec (.maintResume i) s = .next s := by
  constructor
  · change execMaintPark i s = _
    rw [execMaintPark, State.park, gone]
  · change execMaintResume i s = _
    rw [execMaintResume, State.resume, gone]

end

/-- Settles O55: each command and event through its check, and what it leaves through the parts that it changes. -/
theorem scrubsRetireAndShareMaintenance : Obligations.ScrubsRetireAndShareMaintenance := by
  refine ⟨?line, ?near, ?bulk, ?bank, ?off, ?unknown, ?shut, ?shutBank, ?lap, ?overdue, ?noLap, ?refused, ?check, ?held, ?slot, ?unit, ?add,
    ?empty, ?noReloc, ?reloc, ?expire, ?noFlash, ?flash, ?noAsk, ?ask, ?sym, ?act, ?noAct⟩
  case line =>
    rintro lap k d md s _ rfl
    refine ⟨State.scrubLine_discard, fun _ => State.scrubLine_queued, fun _ => State.scrubLine_clean, fun _ quiet one clean => ?_,
      fun _ quiet one clean => ?_, fun _ quiet one => ?_, fun _ _ _ quiet many => ?_⟩
    · exact State.scrubLine_one (by simp) quiet one clean
    · exact State.scrubLine_one (by simp) quiet one clean
    · exact State.scrubLine_one (by simp) quiet one rfl
    · have tier : ((s.mediaFind d md).scrubLost lap d).tier = s.tier := State.tier_scrubLost.trans (s.tier_mediaFind d md)
      have counted : tget 0 lap ((s.mediaFind d md).scrubLost lap d).ras.lapUe = tget 0 lap s.ras.lapUe + 1 := by
        rw [State.lapUe_scrubLost, State.ras_mediaFind]
      rw [State.scrubLine_many (by simp) quiet many, State.scrubLine_many (by simp) quiet many, State.scrubLine_many (by simp) quiet many]
      obtain ⟨poison, npoison⟩ := tier_scrubPoisons_bulk k ((s.mediaFind d md).scrubLost lap d)
      obtain ⟨npoison', poison'⟩ := tier_scrubPoisons_near k ((s.mediaFind d md).scrubLost lap d)
      rw [poison, npoison, npoison', poison', State.scrubPoisons_module, State.ras_scrubPoisons_bulk, tier]
      exact ⟨rfl, rfl, rfl, rfl, rfl, counted⟩
  case near =>
    intro n loc md s t known service present quiet
    have open_ : s.chanOpen (136 + n) = true := State.chanOpen_iff.2 ⟨service, present, quiet⟩
    have next := exec_scrubRead_near (loc := loc) (md := md) (s := s) known
    rw [open_] at next
    refine ⟨fun grant => ?_, fun grant => ⟨nearLoc n loc, rfl, rfl, rfl, rfl, ?_⟩⟩
    · rw [next, grant]
      rfl
    · rw [next, grant]
      rfl
  case bulk =>
    intro u loc md s t known service present quiet
    have open_ : s.chanOpen u = true := State.chanOpen_iff.2 ⟨service, present, quiet⟩
    have next := exec_scrubRead_bulk (loc := loc) (md := md) (s := s) known
    rw [open_] at next
    refine ⟨fun grant => ?_, fun grant => ⟨t.bulkLoc u loc, rfl, rfl, rfl, ?_⟩⟩
    · rw [next, grant]
      rfl
    · rw [next, grant]
      rfl
  case bank =>
    intro u loc md s t known on test retired idle
    have open_ : s.bankShut u = false := by
      simp [State.bankShut, on, test, retired, idle]
    have next := exec_scrubRead_bank (loc := loc) (md := md) (s := s) known
    rw [open_] at next
    refine ⟨fun grant => ?_, fun grant => ?_⟩
    · rw [next, grant]
      rfl
    · rw [next, grant]
      rfl
  case off => exact fun _ _ _ off => State.scrubGrant_off off
  case unknown => exact fun _ _ _ _ => ⟨exec_scrubRead_noNear, exec_scrubRead_noBulk, exec_scrubRead_noBank, exec_scrubRead_noTier⟩
  case shut =>
    intro u ch loc md s shut
    refine ⟨fun known at_ => ?_, fun known at_ => ?_⟩
    · subst at_
      rw [exec_scrubRead_near known, chanOpen_of_not shut]
      rfl
    · subst at_
      rw [exec_scrubRead_bulk known, chanOpen_of_not shut]
      rfl
  case shutBank =>
    intro u loc md s known shut
    rw [exec_scrubRead_bank known, bankShut_of shut]
    rfl
  case lap => exact fun _ _ _ _ _ unit_ on => yields_lapEnd unit_ on
  case overdue => exact fun _ _ _ _ on set_ => exec_lapOverdue on set_
  case noLap => exact fun _ _ _ _ => ⟨exec_lapEnd_off, exec_lapOverdue_off⟩
  case refused =>
    exact fun _ _ bad => ⟨fun check => exec_retireNearSlot_refused check bad, fun _ check => exec_retireBulkUnit_refused check bad,
      fun _ _ check => exec_addRetirementEntry_refused check bad, fun check => exec_emptyRetirementEntry_refused check bad⟩
  case check => exact fun _ _ _ _ => rfl
  case held =>
    refine fun p e s => ⟨fun ok holder => ?_, fun h ok holder => ?_⟩
    · obtain ⟨stat, reloc, flash⟩ := startReloc_keeps { bulk := false, half := slotHalf s.rarg, number := s.rarg, plot := p, dest := none } e s
      exact ⟨_, exec_retireNearSlot_held ok holder, stat, _, reloc, rfl, rfl, rfl, flash⟩
    · obtain ⟨stat, reloc, flash⟩ := startReloc_keeps { bulk := true, half := h, number := s.rarg, plot := p, dest := none } e s
      exact ⟨_, exec_retireBulkUnit_held ok holder, stat, _, reloc, rfl, rfl, rfl, rfl, flash⟩
  case slot =>
    intro s alone idle known fresh room free
    have ok := State.retCheck_ok alone idle (decide_eq_false (Nat.not_le.2 known)) fresh room
    obtain ⟨list, stat, tier⟩ := addEntry_keeps 5 0 s.rarg (s.leaveSlot s.rarg)
    refine ⟨_, exec_retireNearSlot_free ok ?_, ?_, list, stat, ?_⟩
    · rw [List.find?_eq_none]
      intro x mem holds
      have gone := List.all_eq_true.1 free x mem
      rw [holds] at gone
      cases gone
    · rw [tier]
      exact (nmem_nins s.rarg s.rarg s.tier.badSlots).trans (by simp)
    · exact (State.addEntry_only (Fm := 68719509528) _ _ _ ((Inside.refl _).sub rfl) (State.leaveSlot_only _ ((Inside.refl _).sub rfl) (Only.refl _ s))).eq
  case unit =>
    intro h s alone idle known fresh room free
    have small : s.rarg < bulkUnitsAll := Nat.lt_of_lt_of_le known (by decide)
    have ok := State.retCheck_ok alone idle (decide_eq_false (Nat.not_le.2 small))
      (denied := s.rarg ≥ bulkUnitsPerHalf || s.retListed (retEntry 6 (halfIdx h) s.rarg)) (by simp [Nat.not_le.2 known, fresh]) room
    obtain ⟨list, stat, tier⟩ := addEntry_keeps 6 (halfIdx h) s.rarg (s.leaveUnit h s.rarg)
    refine ⟨_, exec_retireBulkUnit_free ok ?_, ?_, list, stat⟩
    · rw [List.find?_eq_none]
      intro x mem holds
      have gone := List.all_eq_true.1 free x mem
      rw [holds] at gone
      cases gone
    · rw [tier]
      exact (nmem_nins (badUnit h s.rarg) (badUnit h s.rarg) s.tier.badUnits).trans (by simp)
  case add =>
    intro k h s alone idle known gone fresh room
    have ok := State.retCheck_ok alone idle (decide_eq_false (Nat.not_le.2 known))
      (denied := !s.unitRetired k.toNat h s.rarg || s.retListed (retEntry k.toNat (halfIdx h) s.rarg)) (by simp [gone, fresh]) room
    obtain ⟨list, stat, -⟩ := addEntry_keeps k.toNat (halfIdx h) s.rarg s
    exact ⟨exec_addRetirementEntry_ok ok, list, stat⟩
  case empty =>
    intro s alone idle known
    have ok := State.retCheck_ok alone idle (decide_eq_false (Nat.not_le.2 known)) (denied := false) rfl (full := false) rfl
    exact ⟨_, exec_emptyRetirementEntry_ok ok, rfl, rfl, s.stw_setStw Reg.RAS_RSTAT 0x80000000#32⟩
  case noReloc => exact fun _ idle => ⟨exec_relocationDone_none idle, exec_relocationWaitExpire_none idle⟩
  case reloc =>
    rintro r _ s runs rfl
    refine ⟨exec_relocationDone_waits runs, exec_relocationDone_gone runs, fun e granted here => ⟨exec_relocationDone_moving runs granted here,
      exec_relocationDone_left runs granted here, fun promotes demotes holds none_ full => ?_, fun d promotes demotes holds dest => ?_⟩⟩
    · exact exec_relocationDone_full runs granted here promotes demotes holds (by rw [none_, Option.orElse_none, full])
    · have next := exec_relocationDone_moves runs granted here promotes demotes holds dest
      refine ⟨fun bulk => ?_, fun near => ?_⟩
      · rw [if_pos bulk, if_pos bulk] at next
        exact next
      · rw [if_neg (by simp [near]), if_neg (by simp [near])] at next
        exact next
  case expire =>
    intro r s runs
    have next := exec_relocationWaitExpire runs
    refine ⟨fun e here none_ full => ?_, fun placed => ?_⟩
    · rw [if_neg (by simp [State.relocFree, here, none_, full])] at next
      exact next
    · rw [if_pos ?_] at next
      · exact next
      · rcases placed with dest | gone | ⟨e, here, free⟩
        · rw [dest, Bool.true_or]
        · simp [State.relocFree, gone]
        · simp [State.relocFree, here, free]
  case noFlash => exact fun _ idle => exec_flashWriteDone_idle idle
  case flash => exact fun _ _ _ writes => yields_flashWriteDone writes
  case noAsk => exact fun _ _ _ _ unknown => exec_maintGrantRequest_unknown unknown
  case ask =>
    exact fun _ _ _ _ low high => ⟨exec_maintGrantRequest low high, maintAsk_granted,
      fun _ mem granted other conflict shared stronger => maintAsk_waits mem granted other conflict shared stronger⟩
  case sym => exact actX_comm
  case act =>
    intro a s found
    rw [exec_maintPark found, exec_maintResume found]
    refine ⟨fun granted parking => ?_, fun held => ?_, fun waits unwon awake free => ?_, fun held => ?_⟩
    · rw [granted, parking]
      rfl
    · rw [if_neg (by rcases held with h | h <;> simp [h])]
    · rw [waits, unwon, awake, free]
      rfl
    · rw [if_neg (by rcases held with h | h | h | h <;> rw [h] <;> simp)]
  case noAct => exact fun _ _ gone => exec_maint_unknown gone

end Sys2Proof.Machine


/-! SPDM at an endpoint (R392 to R398, R404, R405). -/

namespace Sys2Proof.Machine

open Safety

/-! A request: reached, carried, served, and inside a session. -/

section
variable {e : Endpoint} {n : Nat} {f : State → State} {s : State}

theorem State.spdmReq_unreachable (away : s.reachable e = false) : s.spdmReq e f = s := if_pos (by simp [away])

theorem State.spdmReq_mailbox {q : PortId} (fm : e = .mailbox q) (reached : s.reachable e = true) :
    s.spdmReq e f = s.emit (.mgmtUnsupported e) := by
  subst fm
  exact if_neg (by simp [reached])

/-- Any other endpoint serves or answers Busy. -/
theorem State.spdmReq_carried (reached : s.reachable e = true) (carries : ∀ q, e ≠ .mailbox q) :
    s.spdmReq e f = if s.spdmServed e then f s else s.emit (.spdmBusy e) := by
  unfold State.spdmReq
  rw [if_neg (by simp [reached])]
  cases e with
  | mailbox q => exact absurd rfl (carries q)
  | doe _ => rfl
  | vdm _ => rfl
  | i3c => rfl

theorem State.spdmReq_busy (reached : s.reachable e = true) (carries : ∀ q, e ≠ .mailbox q) (idle : s.spdmServed e = false) :
    s.spdmReq e f = s.emit (.spdmBusy e) := by
  rw [State.spdmReq_carried reached carries, idle]
  rfl

theorem State.spdmReq_served (reached : s.reachable e = true) (carries : ∀ q, e ≠ .mailbox q) (served : s.spdmServed e = true) :
    s.spdmReq e f = f s := by
  rw [State.spdmReq_carried reached carries, if_pos served]

theorem State.spdmIn_served (reached : s.reachable e = true) (carries : ∀ q, e ≠ .mailbox q) (served : s.spdmServed e = true) :
    s.spdmIn e n f = if s.inSession e n then f s else s.spdmErr e := State.spdmReq_served reached carries served

theorem State.spdmIn_none (reached : s.reachable e = true) (carries : ∀ q, e ≠ .mailbox q) (served : s.spdmServed e = true)
    (outside : s.inSession e n = false) : s.spdmIn e n f = s.spdmErr e := by
  rw [State.spdmIn_served reached carries served, outside]
  rfl

theorem State.spdmIn_some (reached : s.reachable e = true) (carries : ∀ q, e ≠ .mailbox q) (served : s.spdmServed e = true)
    (inside : s.inSession e n = true) : s.spdmIn e n f = f s := by
  rw [State.spdmIn_served reached carries served, if_pos inside]

theorem State.spdmServed_refused (refused : s.conflict = true ∨ s.sec.unlocked = true ∨ s.reachesSteward e = false) :
    s.spdmServed e = false := by
  rcases refused with h | h | h <;> simp [State.spdmServed, h]

theorem State.ideEp_ne_mailbox (p : PortId) (s : State) (q : PortId) : s.ideEp p ≠ .mailbox q := by
  unfold State.ideEp
  dsimp only
  split
  · exact Endpoint.noConfusion
  · exact Endpoint.noConfusion

end

/-! The requests. -/

/-- Each request of the list is one inside a session. -/
theorem exec_spdm_inside {e : Endpoint} {p : PortId} {k r : Bool} {a b : W256} {n : Nat} {v : BitVec 8} {l : List Byte} {d : Endpoint}
    {c : Instr} {s : State}
    (request : (d, c) ∈ [(e, .endSession e n), (e, .heartbeat e n), (e, .keyUpdate e n), (e, .debugUnlock e n l), (e, .spdmLoad e n v r a b),
      (e, .spdmKeygen e n v r), (e, .spdmZeroise e n v r), (e, .spdmZeroiseAll e n r), (s.ideEp p, .keyProg p n k),
      (s.ideEp p, .kSetGo p n k), (s.ideEp p, .kSetStop p n k)]) :
    ∃ f, exec c s = .next (s.spdmIn d n f) := by
  simp only [List.mem_cons, List.not_mem_nil, or_false, Prod.mk.injEq] at request
  rcases request with ⟨rfl, rfl⟩ | ⟨rfl, rfl⟩ | ⟨rfl, rfl⟩ | ⟨rfl, rfl⟩ | ⟨rfl, rfl⟩ | ⟨rfl, rfl⟩ | ⟨rfl, rfl⟩ | ⟨rfl, rfl⟩ | ⟨rfl, rfl⟩ |
    ⟨rfl, rfl⟩ | ⟨rfl, rfl⟩
  all_goals exact ⟨_, rfl⟩

/-- Each request of the list is one at its endpoint. -/
theorem exec_spdm_request {e : Endpoint} {p : PortId} {j : BitVec 4} {x : Byte} {y k r : Bool} {w a b : W256} {n : Nat} {v : BitVec 8}
    {l : List Byte} {d : Endpoint} {c : Instr} {s : State}
    (request : (d, c) ∈ [(e, .getVersion e), (e, .getCapabilities e), (e, .negotiateAlgorithms e), (e, .getDigests e), (e, .getCertificate e j),
      (e, .challenge e w), (e, .getMeasurements e x y), (e, .keyExchange e), (e, .finish e n), (e, .endSession e n), (e, .heartbeat e n),
      (e, .keyUpdate e n), (e, .debugUnlock e n l), (e, .spdmLoad e n v r a b), (e, .spdmKeygen e n v r), (e, .spdmZeroise e n v r),
      (e, .spdmZeroiseAll e n r), (s.ideEp p, .keyProg p n k), (s.ideEp p, .kSetGo p n k), (s.ideEp p, .kSetStop p n k)]) :
    ∃ f, exec c s = .next (s.spdmReq d f) := by
  have plain_or_inside : (d, c) ∈ [(e, .getVersion e), (e, .getCapabilities e), (e, .negotiateAlgorithms e), (e, .getDigests e),
      (e, .getCertificate e j), (e, .challenge e w), (e, .getMeasurements e x y), (e, .keyExchange e), (e, .finish e n)] ++ _ := request
  obtain plain | inside := List.mem_append.1 plain_or_inside
  · simp only [List.mem_cons, List.not_mem_nil, or_false, Prod.mk.injEq] at plain
    rcases plain with ⟨rfl, rfl⟩ | ⟨rfl, rfl⟩ | ⟨rfl, rfl⟩ | ⟨rfl, rfl⟩ | ⟨rfl, rfl⟩ | ⟨rfl, rfl⟩ | ⟨rfl, rfl⟩ | ⟨rfl, rfl⟩ | ⟨rfl, rfl⟩
    all_goals exact ⟨_, rfl⟩
  · obtain ⟨f, next⟩ := exec_spdm_inside inside
    exact ⟨fun s => if s.inSession d n then f s else s.spdmErr d, next⟩

section
variable {e : Endpoint} {n : Nat} {s : State} (reached : s.reachable e = true) (carries : ∀ q, e ≠ .mailbox q) (served : s.spdmServed e = true)
include reached carries served

theorem exec_getVersion : exec (.getVersion e) s = .next (s.spdmOk e [0x13#8, 0x12#8]) := by
  change execGetVersion e s = _
  rw [execGetVersion, State.spdmReq_served reached carries served]

theorem exec_getCapabilities : exec (.getCapabilities e) s = .next (s.spdmOk e []) := by
  change execGetCapabilities e s = _
  rw [execGetCapabilities, State.spdmReq_served reached carries served]

theorem exec_negotiateAlgorithms : exec (.negotiateAlgorithms e) s = .next (s.spdmOk e []) := by
  change execNegotiateAlgorithms e s = _
  rw [execNegotiateAlgorithms, State.spdmReq_served reached carries served]

theorem exec_getDigests :
    exec (.getDigests e) s = .next (s.spdmOk e (leBytes 64 (Config.sha512 (Config.certChain s.sec.identity)).toNat)) := by
  change execGetDigests e s = _
  rw [execGetDigests, State.spdmReq_served reached carries served]

theorem exec_getCertificate (i : BitVec 4) :
    exec (.getCertificate e i) s = .next (if i = 0#4 then s.spdmOk e (Config.certChain s.sec.identity) else s.spdmErr e) := by
  change execGetCertificate e i s = _
  rw [execGetCertificate, State.spdmReq_served reached carries served]

theorem exec_challenge (w : W256) :
    exec (.challenge e w) s = .next (s.spdmOk e (Config.aliasSign s.sec.identity (leBytes 32 w.toNat))) := by
  change execChallenge e w s = _
  rw [execChallenge, State.spdmReq_served reached carries served]

omit reached carries served in
/-- What GET_MEASUREMENTS of an index answers, unsigned (R395). -/
def Sec.measuredBytes (c : Sec) (index : Byte) : Option (List Byte) :=
  if index = 0#8 then some [7#8]
  else if index = 0xFF#8 then some ((List.range 7).map (fun i => (c.measurement (i + 1)).getD [])).flatten
  else c.measurement index.toNat

theorem exec_getMeasurements {i : Byte} {m : List Byte} (known : Sec.measuredBytes s.sec i = some m) (signed : Bool) : exec (.getMeasurements e i signed) s =
    .next (s.spdmOk e (if signed then m ++ Config.aliasSign s.sec.identity m else m)) := by
  change execGetMeasurements e i signed s = _
  rw [execGetMeasurements, State.spdmReq_served reached carries served]
  unfold Sec.measuredBytes at known
  rw [known]

theorem exec_getMeasurements_unknown {i : Byte} (unknown : Sec.measuredBytes s.sec i = none) (signed : Bool) :
    exec (.getMeasurements e i signed) s = .next (s.spdmErr e) := by
  change execGetMeasurements e i signed s = _
  rw [execGetMeasurements, State.spdmReq_served reached carries served]
  unfold Sec.measuredBytes at unknown
  rw [unknown]

theorem exec_keyExchange : exec (.keyExchange e) s = .next (if (s.sec.sessions.filter (fun x => x.ep = e)).length ≥ 4 then s.spdmErr e
    else (s.modSec (fun c => { c with nextSession := s.sec.nextSession + 1,
                                      sessions := c.sessions ++ [{ id := s.sec.nextSession, ep := e, established := false }] })).spdmOk e
      (leBytes 4 s.sec.nextSession)) := by
  change execKeyExchange e s = _
  rw [execKeyExchange, State.spdmReq_served reached carries served]

theorem exec_finish_open {x : Session} (found : s.sessionOf e n = some x) (opened : x.established = false) : exec (.finish e n) s =
    .next ((s.modSec (fun c => { c with sessions := mapIf (fun y => decide (y.id = n)) (fun y => { y with established := true }) c.sessions })).spdmOk e []) := by
  change execFinish e n s = _
  rw [execFinish, State.spdmReq_served reached carries served]
  rw [found]
  exact congrArg Host.Outcome.next (if_neg (by simp [opened]))

theorem exec_finish_refused (refused : s.sessionOf e n = none ∨ s.inSession e n = true) : exec (.finish e n) s = .next (s.spdmErr e) := by
  change execFinish e n s = _
  rw [execFinish, State.spdmReq_served reached carries served]
  cases found : s.sessionOf e n with
  | none => rfl
  | some x =>
    have established : x.established = true := by
      have inside := refused.resolve_left (by simp [found])
      rwa [State.inSession, found] at inside
    exact congrArg Host.Outcome.next (if_pos established)

variable (inside : s.inSession e n = true)
include inside

theorem exec_heartbeat : exec (.heartbeat e n) s = .next (s.spdmOk e []) := by
  change execHeartbeat e n s = _
  rw [execHeartbeat, State.spdmIn_some reached carries served inside]

theorem exec_endSession : exec (.endSession e n) s =
    .next ((s.modSec (fun c => { c with sessions := c.sessions.filter (fun y => y.id ≠ n) })).spdmOk e []) := by
  change execEndSession e n s = _
  rw [execEndSession, State.spdmIn_some reached carries served inside]

theorem exec_keyUpdate : exec (.keyUpdate e n) s = .next ((s.modSec (fun c => { c with
    sessions := mapIf (fun y => decide (y.id = n)) (fun y => { y with updates := y.updates + 1 }) c.sessions })).spdmOk e []) := by
  change execKeyUpdate e n s = _
  rw [execKeyUpdate, State.spdmIn_some reached carries served inside]

end

/-! IDE streams. -/

section
variable {p : PortId} {n : Nat} {k : Bool} {s : State}

theorem State.ideKm_inside {f : Nat → State → State} (reached : s.reachable (s.ideEp p) = true) (served : s.spdmServed (s.ideEp p) = true)
    (inside : s.inSession (s.ideEp p) n = true) : s.ideKm p n f = f (s.headPort p.toNat) s :=
  State.spdmIn_some reached (s.ideEp_ne_mailbox p) served inside

/-- What an accepted change of a head's stream leaves: its port alone, and the answer. -/
theorem ideKm_port (h : Nat) (g : Port → Port) (d : Endpoint) (s : State) :
    ((s.modPort h g).spdmOk d []).port h = g (s.port h) ∧ (∀ q, q ≠ h → ((s.modPort h g).spdmOk d []).port q = s.port q) ∧
      (s.modPort h g).spdmOk d [] = { s.spdmOk d [] with ports := ((s.modPort h g).spdmOk d []).ports } :=
  ⟨s.port_modPort h g, fun _ other => s.port_modPort_other g other, rfl⟩

section
variable (reached : s.reachable (s.ideEp p) = true) (served : s.spdmServed (s.ideEp p) = true) (inside : s.inSession (s.ideEp p) n = true)
include reached served inside

theorem exec_keyProg : exec (.keyProg p n k) s =
    .next ((s.modPort (s.headPort p.toNat) (fun x => { x with ideKeys := nins k.toNat x.ideKeys })).spdmOk (s.ideEp p) []) := by
  change execKeyProg p n k s = _
  rw [execKeyProg, State.ideKm_inside reached served inside]
  rfl

theorem exec_kSetGo_known (known : nmem k.toNat (s.port (s.headPort p.toNat)).ideKeys = true) : exec (.kSetGo p n k) s =
    .next ((s.modPort (s.headPort p.toNat) (fun x => { x with ideActive := some k.toNat, ideSecure := true, ideInsecure := false })).spdmOk (s.ideEp p) []) := by
  change execKSetGo p n k s = _
  rw [execKSetGo, State.ideKm_inside reached served inside]
  exact congrArg Host.Outcome.next (if_pos known)

theorem exec_kSetGo_unknown (unknown : nmem k.toNat (s.port (s.headPort p.toNat)).ideKeys = false) :
    exec (.kSetGo p n k) s = .next (s.spdmErr (s.ideEp p)) := by
  change execKSetGo p n k s = _
  rw [execKSetGo, State.ideKm_inside reached served inside]
  exact congrArg Host.Outcome.next (if_neg (by rw [ksNo, unknown]; decide))

omit reached served inside in
/-- A stream after K_SET_STOP of a key set. -/
def Port.stopSet (k : Nat) (x : Port) : Port :=
  if x.ideActive = some k then { x with ideActive := none, ideSecure := false, ideKeys := ndel k x.ideKeys } else { x with ideKeys := ndel k x.ideKeys }

theorem exec_kSetStop : exec (.kSetStop p n k) s =
    .next ((s.modPort (s.headPort p.toNat) (Port.stopSet k.toNat)).spdmOk (s.ideEp p) []) := by
  change execKSetStop p n k s = _
  rw [execKSetStop, State.ideKm_inside reached served inside]
  rfl

end

theorem Port.ideKeys_stopSet (k : Nat) (x : Port) : (Port.stopSet k x).ideKeys = ndel k x.ideKeys := by
  unfold Port.stopSet
  split
  · rfl
  · rfl

theorem Port.stopSet_active {k : Nat} {x : Port} (active : x.ideActive = some k) :
    (Port.stopSet k x).ideSecure = false ∧ (Port.stopSet k x).ideActive = none := by
  rw [Port.stopSet, if_pos active]
  exact ⟨rfl, rfl⟩

theorem Port.stopSet_other {k : Nat} {x : Port} (other : x.ideActive ≠ some k) :
    Port.stopSet k x = { x with ideKeys := (Port.stopSet k x).ideKeys } := by
  rw [Port.ideKeys_stopSet, Port.stopSet, if_neg other]

theorem exec_ideIntegrityFail : exec (.ideIntegrityFail p) s = .next (s.ideFail (s.headPort p.toNat)) := rfl

end

/-! The bind. -/

section
variable {e : Endpoint} {o : Option Nat} {i : Byte} {s : State}

/-- An endpoint that a bind can be made at (R405). -/
def bindsAt (e : Endpoint) : Bool := match e with
  | .vdm _ => true
  | .i3c => true
  | _ => false

theorem exec_bindWrite (n : Nat) : exec (.bindWrite e (some n) i) s =
    .next (if bindsAt e && s.inSession e n && s.reachable e && s.spdmServed e && s.sec.bound.isNone then
      s.modSec (fun c => { c with bound := some e, boundEid := i }) else s) := rfl

theorem exec_bindWrite_outside : exec (.bindWrite e none i) s = .next s := by
  change execBindWrite e none i s = _
  exact congrArg Host.Outcome.next (if_neg (by simp))

theorem exec_bindWrite_made {n : Nat} (reached : s.reachable e = true) (served : s.spdmServed e = true) (inside : s.inSession e n = true)
    (carries : (∃ p, e = .vdm p) ∨ e = .i3c) (free : s.sec.bound = none) :
    exec (.bindWrite e (some n) i) s = .next (s.modSec (fun c => { c with bound := some e, boundEid := i })) := by
  have binds : bindsAt e = true := by
    obtain ⟨p, rfl⟩ | rfl := carries <;> rfl
  rw [exec_bindWrite, binds, inside, reached, served, free]
  rfl

theorem exec_bindWrite_ignored (ignored : o = none ∨ s.reachable e = false ∨ s.spdmServed e = false ∨ (∃ n, o = some n ∧ s.inSession e n = false) ∨
    (∃ t, e = .doe t) ∨ (∃ p, e = .mailbox p) ∨ s.sec.bound.isSome = true) : exec (.bindWrite e o i) s = .next s := by
  cases o with
  | none => exact exec_bindWrite_outside
  | some n =>
    rw [exec_bindWrite, if_neg]
    rcases ignored with h | h | h | ⟨m, same, h⟩ | ⟨t, rfl⟩ | ⟨p, rfl⟩ | h
    · cases h
    · simp [h]
    · simp [h]
    · obtain rfl := Option.some.inj same
      simp [h]
    · simp [bindsAt]
    · simp [bindsAt]
    · simp [Option.isNone_iff_eq_none, Option.isSome_iff_ne_none.1 h]

end

/-! DEBUG_UNLOCK. -/

section
variable {s : State}

theorem State.key_modKey (n : Nat) (f : Key → Key) (s : State) : (s.modKey n f).key n = f (s.key n) := State.key_setKey n _

theorem State.key_modKey_other {n m : Nat} (f : Key → Key) (other : m ≠ n) (s : State) : (s.modKey n f).key m = s.key m :=
  tget_tset_other _ _ _ other _

/-- Every slot is EMPTY. -/
theorem State.key_keysEmpty (i : Nat) (s : State) : (s.keysEmpty.key i).st = .empty := by
  have cleared (l : List Nat) (t : State) (h : i ∈ l ∨ (t.key i).st = .empty) :
      ((forAll l (fun k s => s.modKey k (fun x => { x with st := .empty, k := if s.keyKept k then x.k else 0#512 })) t).key i).st = .empty := by
    have brings (u : State) : ((u.modKey i (fun x => { x with st := .empty, k := if u.keyKept i then x.k else 0#512 })).key i).st = .empty := by
      rw [State.key_modKey]
    have keeps (k : Nat) (u : State) (empty : (u.key i).st = .empty) :
        ((u.modKey k (fun x => { x with st := .empty, k := if u.keyKept k then x.k else 0#512 })).key i).st = .empty := by
      by_cases same : i = k
      · subst same
        exact brings u
      · rw [State.key_modKey_other _ same, empty]
    rcases h with mem | empty
    · exact forAll_reaches (P := fun t : State => (t.key i).st = .empty) mem brings (fun k _ u => keeps k u) t
    · exact forAll_keeps (P := fun t : State => (t.key i).st = .empty) l (fun k _ u => keeps k u) empty
  have pended : (forAll ((s.sec.keys.filter (fun e => e.2.st = .loaded)).map Prod.fst) (fun k s => s.pendKey k) s).sec = s.sec :=
    forAll_keeps (P := fun t : State => t.sec = s.sec) _ (fun k _ t same => ((State.pendKey_only k (Inside.refl _) (Only.refl _ t)).sec rfl).trans same) rfl
  unfold State.keysEmpty
  dsimp only
  rw [State.key, (State.cstatBusy_only (Inside.refl _) (Only.refl _ _)).sec rfl]
  refine cleared _ _ ?_
  rw [pended]
  obtain absent | listed := tget_default_or_mem {} i s.sec.keys
  · right
    rw [State.key, pended, absent]
  · exact .inl (List.mem_map.2 ⟨_, listed, rfl⟩)

/-! A stream that fails. -/

theorem State.ideFail_idle {p : Nat} (idle : (s.port p).ideActive = none) : s.ideFail p = s := if_neg (by simp [idle])

theorem State.ideFail_active {p : Nat} (active : (s.port p).ideActive.isSome = true) : s.ideFail p =
    (s.modPort p (fun x => { x with ideInsecure := true, ideSecure := false })).enterDrain p := if_pos active

theorem State.port_enterDrain_ne {p q : Nat} (other : q ≠ p) (s : State) : (s.enterDrain p).port q = s.port q := by
  by_cases up : (s.port p).st = .up
  · exact State.port_enterDrain_other up other
  · rw [State.enterDrain_of_not_up up]

theorem State.port_ideFail_other {p q : Nat} (other : q ≠ p) (s : State) : (s.ideFail p).port q = s.port q := by
  by_cases active : (s.port p).ideActive.isSome = true
  · rw [State.ideFail_active active, State.port_enterDrain_ne other, State.port_modPort_other _ other]
  · exact congrArg (State.port q) (if_neg active)

/-- What a failure leaves of the port of an active stream. -/
def StreamFailed (a b : Port) : Prop := b.ideSecure = false ∧ b.ideInsecure = true ∧ (a.st = .up → b.st = .drain)

theorem streamFailed_ideFail {p : Nat} (active : (s.port p).ideActive.isSome = true) : StreamFailed (s.port p) ((s.ideFail p).port p) := by
  have changed := s.port_modPort p (fun x => { x with ideInsecure := true, ideSecure := false })
  rw [State.ideFail_active active]
  by_cases up : (s.port p).st = .up
  · have still : ((s.modPort p (fun x => { x with ideInsecure := true, ideSecure := false })).port p).st = .up := by
      rw [changed, ← up]
    rw [State.port_enterDrain still, changed]
    exact ⟨rfl, rfl, fun _ => rfl⟩
  · have still : ((s.modPort p (fun x => { x with ideInsecure := true, ideSecure := false })).port p).st ≠ .up := by
      rw [changed]
      exact up
    rw [State.enterDrain_of_not_up still, changed]
    exact ⟨rfl, rfl, fun h => absurd h up⟩

/-- Each active stream of a list of heads fails. -/
theorem streamFailed_forAll {l : List Nat} (nodup : l.Nodup) {q : Nat} (mem : q ∈ l) (active : (s.port q).ideActive.isSome = true) :
    StreamFailed (s.port q) ((forAll l (fun p s => s.ideFail p) s).port q) := by
  induction l generalizing s with
  | nil => cases mem
  | cons p r ih =>
    obtain ⟨absent, rest⟩ := List.nodup_cons.1 nodup
    rw [forAll_cons]
    by_cases here : q = p
    · subst here
      have kept : (forAll r (fun p s => s.ideFail p) (s.ideFail q)).port q = (s.ideFail q).port q :=
        forAll_keeps (P := fun t : State => t.port q = (s.ideFail q).port q) r
          (fun p later t same => (t.port_ideFail_other (by rintro rfl; exact absent later)).trans same) rfl
      rw [kept]
      exact streamFailed_ideFail active
    · have same := s.port_ideFail_other here
      rw [← same]
      exact ih rest ((List.mem_cons.1 mem).resolve_left here) (by rw [same, active])

/-- The nonce of the debug unlock is used up. -/
def State.nextNonce (s : State) : State := s.modSec (fun c => { c with nonceNo := c.drbgNo, drbgNo := c.drbgNo + 1 })

/-- One more fuse of the unlock count is blown. -/
def State.blowUnlock (s : State) : State := { s with fuse := { s.fuse with uCount := s.fuse.uCount + 1 } }

/-- A valid token's unlock: every slot EMPTY, every active stream Insecure, and the sessions ended. -/
def State.debugUnlocked (e : Endpoint) (s : State) : State :=
  ((forAll (List.range 16) (fun p s => s.ideFail p) s.nextNonce.blowUnlock.keysEmpty).spdmOk e [BitVec.ofNat 8 Status.ok.code]).modSec
    (fun c => { c with sessions := [], unlocked := true })

theorem State.fuse_answered (e : Endpoint) (d : List Byte) (f : Sec → Sec) (s : State) : ((s.spdmOk e d).modSec f).fuse = s.fuse := rfl

theorem State.sec_answered (e : Endpoint) (d : List Byte) (f : Sec → Sec) (s : State) : ((s.spdmOk e d).modSec f).sec = f s.sec := rfl

theorem State.port_answered (e : Endpoint) (d : List Byte) (f : Sec → Sec) (q : Nat) (s : State) : ((s.spdmOk e d).modSec f).port q = s.port q := rfl

section
variable {e : Endpoint} {n : Nat} {k : List Byte} (reached : s.reachable e = true) (carries : ∀ q, e ≠ .mailbox q)
  (served : s.spdmServed e = true) (inside : s.inSession e n = true)
include reached carries served inside

theorem exec_debugUnlock : exec (.debugUnlock e n k) s =
    .next (if (!s.fuse.dbgKill && s.fuse.uCount < 255 && Config.tokenOk k Config.serial (Config.drbg s.sec.nonceNo)) = true then s.debugUnlocked e
      else s.nextNonce.emit (.spdm e false [BitVec.ofNat 8 Status.permission.code])) := by
  change execDebugUnlock e n k s = _
  rw [execDebugUnlock, State.spdmIn_some reached carries served inside]
  rfl

theorem exec_debugUnlock_refused (refused : Config.tokenOk k Config.serial (Config.drbg s.sec.nonceNo) = false ∨ s.fuse.dbgKill = true ∨
    255 ≤ s.fuse.uCount) : exec (.debugUnlock e n k) s = .next (s.nextNonce.emit (.spdm e false [BitVec.ofNat 8 Status.permission.code])) := by
  rw [exec_debugUnlock reached carries served inside, if_neg]
  rcases refused with invalid | dead | used
  · simp [invalid]
  · simp [dead]
  · simp [Nat.not_lt.2 used]

theorem yields_debugUnlock (valid : Config.tokenOk k Config.serial (Config.drbg s.sec.nonceNo) = true) (alive : s.fuse.dbgKill = false)
    (left : s.fuse.uCount < 255) : Yields (.debugUnlock e n k) s (fun t => t.sec.unlocked = true ∧ t.sec.sessions = [] ∧
      t.fuse = { s.fuse with uCount := s.fuse.uCount + 1 } ∧ (∀ i, (t.key i).st = .empty) ∧
      (∀ q, q < 16 → (s.port q).ideActive.isSome = true → StreamFailed (s.port q) (t.port q))) := by
  have next := exec_debugUnlock (k := k) reached carries served inside
  rw [if_pos (by simp [valid, alive, left])] at next
  have failed : Only 16617041792912 s.nextNonce.blowUnlock.keysEmpty (forAll (List.range 16) (fun p s => s.ideFail p) s.nextNonce.blowUnlock.keysEmpty) :=
    forAll_keeps (P := Only 16617041792912 s.nextNonce.blowUnlock.keysEmpty) _ (fun p _ t same => State.ideFail_only p (Inside.refl _) same) (Only.refl _ _)
  have emptied := State.keysEmpty_only (Inside.refl _) (Only.refl _ s.nextNonce.blowUnlock)
  refine ⟨_, next, ?_, ?_, ?_, fun i => ?_, fun q small active => ?_⟩
  · rw [State.debugUnlocked, State.sec_answered]
  · rw [State.debugUnlocked, State.sec_answered]
  · rw [State.debugUnlocked, State.fuse_answered, failed.fuse rfl, emptied.fuse rfl]
    rfl
  · have kept : (s.debugUnlocked e).key i = s.nextNonce.blowUnlock.keysEmpty.key i := by
      rw [State.key, State.debugUnlocked, State.sec_answered, failed.sec rfl, State.key]
    rw [kept, State.key_keysEmpty]
  · have same : s.nextNonce.blowUnlock.keysEmpty.port q = s.port q := emptied.port rfl q
    have fails := streamFailed_forAll (s := s.nextNonce.blowUnlock.keysEmpty) List.nodup_range (List.mem_range.2 small) (by rw [same, active])
    rw [same] at fails
    rw [State.debugUnlocked, State.port_answered]
    exact fails

end

end

/-- Settles O56: each request through the gate of its endpoint, and what it does once it is served there. -/
theorem spdmRequestsAreServedInSessions : Obligations.SpdmRequestsAreServedInSessions := by
  refine ⟨?request, ?unserved, ?outside, ?answers, ?exchange, ?session, ?ide, ?integrity, ?bind, ?unlock⟩
  case request =>
    intro e p j x y k r w a b n v l d c s request
    obtain ⟨f, next⟩ := exec_spdm_request request
    rw [next]
    refine ⟨fun away => ?_, fun q fm reached => ?_, fun reached carries idle => ?_⟩
    · rw [State.spdmReq_unreachable away]
    · rw [State.spdmReq_mailbox fm reached]
    · rw [State.spdmReq_busy reached carries idle]
  case unserved => exact fun _ _ refused => State.spdmServed_refused refused
  case outside =>
    intro e p k r a b n v l d c s request reached carries served outside
    obtain ⟨f, next⟩ := exec_spdm_inside request
    rw [next, State.spdmIn_none reached carries served outside]
  case answers =>
    intro e w s reached carries served
    refine ⟨exec_getVersion reached carries served, exec_getCapabilities reached carries served, exec_negotiateAlgorithms reached carries served,
      exec_getDigests reached carries served, exec_getCertificate reached carries served 0#4, fun i other => ?_,
      exec_challenge reached carries served w, exec_getMeasurements reached carries served (m := [7#8]) rfl false,
      exec_getMeasurements reached carries served (m := [7#8]) rfl true, fun i m known => ?_, fun i y large all => ?_⟩
    · rw [exec_getCertificate reached carries served, if_neg other]
    · have measured : Sec.measuredBytes s.sec i = some m := by
        rcases known with ⟨zero, all, here⟩ | ⟨rfl, rfl⟩
        · rw [Sec.measuredBytes, if_neg zero, if_neg all, here]
        · rfl
      exact ⟨exec_getMeasurements reached carries served measured false, exec_getMeasurements reached carries served measured true⟩
    · have zero : i ≠ 0#8 := by
        rintro rfl
        cases large
      have unknown : Sec.measuredBytes s.sec i = none := by
        rw [Sec.measuredBytes, if_neg zero, if_neg all, Sec.measurement, if_neg (by omega), if_neg (by omega), if_neg (by omega)]
      exact exec_getMeasurements_unknown reached carries served unknown y
  case exchange =>
    intro e s reached carries served
    have next := exec_keyExchange reached carries served
    refine ⟨fun few => ?_, fun many => ?_⟩
    · rw [if_neg (Nat.not_le.2 few)] at next
      exact next
    · rw [if_pos many] at next
      exact next
  case session =>
    intro e n s reached carries served
    exact ⟨fun _ found opened => exec_finish_open reached carries served found opened, exec_finish_refused reached carries served,
      fun inside => ⟨exec_heartbeat reached carries served inside, exec_endSession reached carries served inside,
        exec_keyUpdate reached carries served inside⟩⟩
  case ide =>
    intro p n k s reached served inside
    refine ⟨⟨_, exec_keyProg reached served inside, ideKm_port ..⟩,
      fun known => ⟨_, exec_kSetGo_known reached served inside known, ideKm_port ..⟩, exec_kSetGo_unknown reached served inside, ?_⟩
    obtain ⟨here, others, frame⟩ := ideKm_port (s.headPort p.toNat) (Port.stopSet k.toNat) (s.ideEp p) s
    refine ⟨_, exec_kSetStop reached served inside, ?_, fun active => ?_, fun other => ?_, others, frame⟩
    · rw [here, Port.ideKeys_stopSet]
    · rw [here]
      exact Port.stopSet_active active
    · rw [here]
      exact Port.stopSet_other other
  case integrity =>
    intro p s
    refine ⟨fun idle => ?_, fun active => ?_⟩
    · rw [exec_ideIntegrityFail, State.ideFail_idle idle]
    · rw [exec_ideIntegrityFail, State.ideFail_active active]
  case bind =>
    intro e o i s
    refine ⟨?_, exec_bindWrite_ignored⟩
    rintro n rfl reached served inside carries free
    exact exec_bindWrite_made reached served inside carries free
  case unlock =>
    intro e n k s reached carries served inside
    exact ⟨yields_debugUnlock reached carries served inside, exec_debugUnlock_refused reached carries served inside⟩

end Sys2Proof.Machine


/-! Key slots and fuses (R391, R401 to R403). -/

namespace Sys2Proof.Machine

open Safety

/-! SEC_CSTAT. -/

theorem Status.code_lt (c : Status) : c.code < 256 := by
  cases c <;> decide

theorem bit_at32_top (b : Bool) (c : Status) : bit 31 (at32 31 (b2n b) ||| at32 0 c.code) = b := by
  have low : bit 31 (at32 0 c.code) = false := bit_at32_zero 31 (Nat.lt_of_lt_of_le (Status.code_lt c) (by decide))
  rw [bit_or, low, Bool.or_false]
  cases b <;> decide

theorem toNat_at32_low (b : Bool) (c : Status) : (at32 31 (b2n b) ||| at32 0 c.code).toNat % 256 = c.code := by
  have small := Status.code_lt c
  have low : bits 7 0 (at32 31 (b2n b) ||| at32 0 c.code) = c.code := by
    have high : bits 7 0 (at32 31 (b2n b)) = 0 := by
      cases b <;> decide
    rw [bits_or, high, bits_at32_zero (by decide) small, Nat.zero_or]
  simpa [bits, fld] using low

section
variable {s : State} {c : Status}

theorem State.busy_cstat (c : Status) (s : State) : bit 31 ((s.cstat c).stw Reg.SEC_CSTAT) = (s.sec.fuseBusy || decide (s.sec.kcmdWait ≠ [])) := by
  rw [State.cstat, State.stw_setStw, bit_at32_top]

theorem State.status_cstat (c : Status) (s : State) : ((s.cstat c).stw Reg.SEC_CSTAT).toNat % 256 = c.code := by
  rw [State.cstat, State.stw_setStw, toNat_at32_low]

theorem State.busy_cstatBusy (s : State) : bit 31 (s.cstatBusy.stw Reg.SEC_CSTAT) = (s.sec.fuseBusy || decide (s.sec.kcmdWait ≠ [])) := by
  rw [State.cstatBusy, State.stw_modStw]
  exact bit_setBit _ _ (by decide)

/-! Fuse commands. -/

/-- A fuse command takes effect. -/
def State.fuseWrite (f : Fuses → Fuses) (s : State) : State :=
  State.cstat .ok { s with fuse := f s.fuse, sec := { s.sec with fuseBusy := true } }

theorem State.fuseCmd_conflict {b d : Bool} {f : Fuses → Fuses} (conflict : s.conflict = true) :
    s.fuseCmd b d f = s.cstat .stewardConflict := if_pos conflict

theorem State.fuseCmd_busy {b d : Bool} {f : Fuses → Fuses} (alone : s.conflict = false) (busy : s.sec.fuseBusy = true) :
    s.fuseCmd b d f = s.cstat .slotBusy := (if_neg (by simp [alone])).trans (if_pos busy)

theorem State.fuseCmd_denied {f : Fuses → Fuses} (alone : s.conflict = false) (idle : s.sec.fuseBusy = false) :
    s.fuseCmd false true f = s.cstat .permission := by
  simp [State.fuseCmd, alone, idle]

theorem State.fuseCmd_ok {f : Fuses → Fuses} (alone : s.conflict = false) (idle : s.sec.fuseBusy = false) :
    s.fuseCmd false false f = s.fuseWrite f := by
  simp only [State.fuseCmd, alone, idle, Bool.false_eq_true, if_false]
  rfl

/-- A version is raised, never lowered. -/
def Fuses.raise (v : BitVec 6) (f : Fuses) : Fuses := if f.minSvn.toNat < v.toNat then { f with minSvn := v } else f

theorem exec_raiseMinsvn : exec .raiseMinsvn s = .next (s.fuseCmd false false (Fuses.raise s.running.runSvn)) := rfl

theorem exec_revokeKey (k : BitVec 2) : exec (.revokeKey k) s =
    .next (s.fuseCmd false (decide (s.running.keyIdx = k)) (fun f => { f with kRevoke := setBit k.toNat true f.kRevoke })) := rfl

theorem Fuses.minSvn_raise (v : BitVec 6) (f : Fuses) : (Fuses.raise v f).minSvn.toNat = max f.minSvn.toNat v.toNat := by
  unfold Fuses.raise
  split
  · change v.toNat = _
    omega
  · omega

theorem Fuses.raise_frame (v : BitVec 6) (f : Fuses) : Fuses.raise v f = { f with minSvn := (Fuses.raise v f).minSvn } := by
  unfold Fuses.raise
  split
  · rfl
  · rfl

theorem exec_fuseWriteDone_idle (idle : s.sec.fuseBusy = false) : exec .fuseWriteDone s = .next s := by
  change execFuseWriteDone s = _
  rw [execFuseWriteDone, if_neg (by simp [idle])]

theorem exec_fuseWriteDone (busy : s.sec.fuseBusy = true) :
    exec .fuseWriteDone s = .next ((s.modSec (fun c => { c with fuseBusy := false })).cstatBusy) := by
  change execFuseWriteDone s = _
  rw [execFuseWriteDone, if_pos busy]

theorem yields_fuseWriteDone (busy : s.sec.fuseBusy = true) : Yields .fuseWriteDone s (fun t => t.sec = { s.sec with fuseBusy := false } ∧
    bit 31 (t.stw Reg.SEC_CSTAT) = decide (s.sec.kcmdWait ≠ []) ∧ t = { s with sec := t.sec, reg := t.reg }) := by
  refine ⟨_, exec_fuseWriteDone busy, rfl, ?_, rfl⟩
  rw [State.busy_cstatBusy]
  exact Bool.false_or _

end

/-! The status of a key command (R403). -/

section
variable {c : KeyCmd} {d b : Bool} {n : Nat} {s : State}

theorem State.keyStatus_conflict (conflict : s.conflict = true) : s.keyStatus c d b n = .stewardConflict := if_pos conflict

theorem State.keyStatus_denied (alone : s.conflict = false) : s.keyStatus c true b n = .permission := by
  simp [State.keyStatus, alone]

theorem State.keyStatus_split (alone : s.conflict = false) (split_ : s.split = true) (uses : c.isZeroise = false) :
    s.keyStatus c false b n = .poisonConsumed := by
  simp [State.keyStatus, alone, split_, uses]

/-- Equal halves of a key, which a load refuses. -/
def KeyCmd.equalHalves : KeyCmd → Bool
  | .load k1 k2 => decide (k1 = k2)
  | _ => false

theorem State.keyStatus_joined (alone : s.conflict = false) (joined : s.split = false ∨ c.isZeroise = true) : s.keyStatus c false b n =
    if b || c.equalHalves then .badDescriptor else if s.keyBusy c n then .slotBusy else if !s.keysReady then .notReady else .ok := by
  have out : (s.split && !c.isZeroise) = false := by
    rcases joined with h | h <;> simp [h]
  unfold State.keyStatus
  dsimp only
  rw [if_neg (by simp [alone]), if_neg (by simp), out]
  cases c <;> rfl

theorem KeyCmd.equalHalves_of {c : KeyCmd} (none_ : ∀ k, c ≠ .load k k) : c.equalHalves = false := by
  cases c with
  | load a b => exact decide_eq_false (fun same => none_ a (by rw [same]))
  | keygen => rfl
  | zeroise => rfl
  | zeroiseAll => rfl

theorem State.keyBusy_one (one : c ≠ .zeroiseAll) : s.keyBusy c n = true ↔
    (s.key n).st = .zeroising ∨ (c ≠ .zeroise ∧ (s.key n).st = .loaded) := by
  cases c with
  | load a b => cases h : (s.key n).st <;> simp [State.keyBusy, h]
  | keygen => cases h : (s.key n).st <;> simp [State.keyBusy, h]
  | zeroise => cases h : (s.key n).st <;> simp [State.keyBusy, h]
  | zeroiseAll => exact absurd rfl one

theorem State.keyStatus_one (alone : s.conflict = false) (joined : s.split = false ∨ c.isZeroise = true) (fresh : ∀ k, c ≠ .load k k)
    (one : c ≠ .zeroiseAll) : s.keyStatus c false false n =
      if (s.key n).st = .zeroising ∨ (c ≠ .zeroise ∧ (s.key n).st = .loaded) then .slotBusy else if s.keysReady then .ok else .notReady := by
  rw [State.keyStatus_joined alone joined, KeyCmd.equalHalves_of fresh, if_neg (by simp)]
  refine if_congr (State.keyBusy_one one) rfl ?_
  cases s.keysReady <;> rfl

theorem State.keyStatus_all (alone : s.conflict = false) : s.keyStatus .zeroiseAll false false n =
    if ∃ x ∈ s.sec.keys, x.2.st = .zeroising then .slotBusy else if s.keysReady then .ok else .notReady := by
  rw [State.keyStatus_joined alone (.inr rfl), if_neg (by decide)]
  refine if_congr (by simp [State.keyBusy]) rfl ?_
  cases s.keysReady <;> rfl

theorem State.keyDenied_iff {e : Endpoint} : s.keyDenied c e = true ↔
    (s.sec.bound ≠ some e ∧ (s.sec.bound.isSome = true ∨ ∃ a b, c = .load a b)) := by
  cases c <;> simp [State.keyDenied] <;> tauto

end

/-! What a key command does. -/

section
variable {n : Nat} {s : State}

theorem State.key_modSec (f : Sec → Sec) (m : Nat) (s : State) (keys : (f s.sec).keys = s.sec.keys) : (s.modSec f).key m = s.key m := by
  rw [State.key, State.modSec, keys, State.key]

theorem State.key_pendKey (n m : Nat) (s : State) : (s.pendKey n).key m = s.key m := by
  rw [State.key, (State.pendKey_only n (Inside.refl _) (Only.refl _ s)).sec rfl, State.key]

/-- A slot as a zeroise leaves it. -/
def Key.zeroised (k : Key) : Key := if k.st = .loaded then { k with st := .zeroising } else k

theorem Key.zeroised_zeroised (k : Key) : (Key.zeroised (Key.zeroised k)) = Key.zeroised k := by
  unfold Key.zeroised
  by_cases loaded : k.st = .loaded
  · rw [if_pos loaded, if_neg (by simp)]
  · rw [if_neg loaded, if_neg loaded]

theorem State.key_keyZeroise (n : Nat) (s : State) : (s.keyZeroise n).key n = Key.zeroised (s.key n) := by
  unfold State.keyZeroise Key.zeroised
  split
  · rw [State.key_pendKey, State.key_modKey]
  · rfl

theorem State.key_keyZeroise_other {m : Nat} (other : m ≠ n) (s : State) : (s.keyZeroise n).key m = s.key m := by
  unfold State.keyZeroise
  split
  · rw [State.key_pendKey, State.key_modKey_other _ other]
  · rfl

/-- A zeroise of every slot zeroises each, whatever is listed twice. -/
theorem State.key_zeroiseAll (m : Nat) (s : State) :
    (forAll (s.sec.keys.map Prod.fst) (fun k s => s.keyZeroise k) s).key m = Key.zeroised (s.key m) := by
  have loop (l : List Nat) (t : State) :
      (forAll l (fun k s => s.keyZeroise k) t).key m = if m ∈ l then Key.zeroised (t.key m) else t.key m := by
    induction l generalizing t with
    | nil => simp
    | cons k r ih =>
      rw [forAll_cons, ih]
      by_cases here : m = k
      · subst here
        rw [State.key_keyZeroise, Key.zeroised_zeroised, ite_self, if_pos List.mem_cons_self]
      · rw [State.key_keyZeroise_other here]
        simp [here]
  rw [loop]
  split
  · rfl
  next absent =>
    obtain default | listed := tget_default_or_mem {} m s.sec.keys
    · rw [State.key, default]
      rfl
    · exact absurd (List.mem_map.2 ⟨_, listed, rfl⟩) absent

/-- A slot as an install of a key leaves it. -/
def Key.installed (v : BitVec 512) (gen : Bool) (k : Key) : Key := { k with st := .loaded, k := v, drbg := gen, gen := k.gen + 1#16 }

/-- The key that KEYGEN makes. -/
def State.drawnKey (s : State) : BitVec 512 := Config.drbg (s.sec.drbgNo + 1) ++ Config.drbg s.sec.drbgNo

theorem State.key_keygen (n : Nat) (s : State) : (s.keyDo .keygen n).key n = Key.installed s.drawnKey true (s.key n) :=
  s.key_modKey n (Key.installed s.drawnKey true)

theorem State.key_keygen_other {m : Nat} (other : m ≠ n) (s : State) : (s.keyDo .keygen n).key m = s.key m :=
  State.key_modKey_other (Key.installed s.drawnKey true) other s

theorem State.sec_keygen (n : Nat) (s : State) : (s.keyDo .keygen n).sec =
    { s.sec with keys := (s.keyDo .keygen n).sec.keys, drbgNo := s.sec.drbgNo + 2 } := rfl

theorem State.keygen_only {m : Nat} (inside : Inside 137438953472 m) (n : Nat) (s : State) : Only m s (s.keyDo .keygen n) := by
  unfold State.keyDo
  exact State.modSec_only _ inside (State.keyInstall_only _ _ _ inside (Only.refl _ s))

theorem State.key_load (a b : W256) (n : Nat) (s : State) : (s.keyDo (.load a b) n).key n = Key.installed (b ++ a) false (s.key n) :=
  s.key_modKey n (Key.installed (b ++ a) false)

theorem State.key_load_other {m : Nat} (a b : W256) (other : m ≠ n) (s : State) : (s.keyDo (.load a b) n).key m = s.key m :=
  State.key_modKey_other (Key.installed (b ++ a) false) other s

theorem State.sec_load (a b : W256) (n : Nat) (s : State) : (s.keyDo (.load a b) n).sec =
    { s.sec with keys := (s.keyDo (.load a b) n).sec.keys } := rfl

/-! SEC_KCMD. -/

/-- The slots that a zeroise of SEC_KCMD waits for. -/
def State.kcmdSlots (c : KeyCmd) (n : Nat) (s : State) : List Nat :=
  if c.isZeroise then (s.sec.keys.filter (fun e => e.2.st = .zeroising && (c = .zeroiseAll || e.1 = n))).map Prod.fst else []

/-- SEC_KCMD after a command that was carried out. -/
def State.kcmdDone (c : KeyCmd) (n : Nat) (s : State) : State :=
  (s.modSec (fun x => { x with kcmdWait := ninsAll (s.kcmdSlots c n) x.kcmdWait })).cstat .ok

theorem State.kcmd_ok {c : KeyCmd} {b : Bool} (ok : s.keyStatus c false b n = .ok) : s.kcmd c b n = (s.keyDo c n).kcmdDone c n := by
  unfold State.kcmd
  exact if_pos ok

theorem State.kcmd_refused {c : KeyCmd} {b : Bool} {x : Status} (check : s.keyStatus c false b n = x) (bad : x ≠ .ok) :
    s.kcmd c b n = s.cstat x := by
  subst check
  unfold State.kcmd
  exact if_neg bad

theorem State.key_setStw (off : Nat) (v : W32) (m : Nat) (s : State) : (s.setStw off v).key m = s.key m := rfl

theorem State.sec_setStw (off : Nat) (v : W32) (s : State) : (s.setStw off v).sec = s.sec := rfl

theorem State.key_kcmdDone (c : KeyCmd) (n m : Nat) (s : State) : (s.kcmdDone c n).key m = s.key m := by
  rw [State.kcmdDone, State.cstat, State.key_setStw]
  exact State.key_modSec _ m s rfl

theorem State.sec_kcmdDone (c : KeyCmd) (n : Nat) (s : State) :
    (s.kcmdDone c n).sec = { s.sec with kcmdWait := ninsAll (s.kcmdSlots c n) s.sec.kcmdWait } := by
  rw [State.kcmdDone, State.cstat, State.sec_setStw]
  rfl

theorem State.kcmdDone_only {m : Nat} (inside : Inside 137438953488 m) (c : KeyCmd) (n : Nat) {s0 s : State} (h : Only m s0 s) :
    Only m s0 (s.kcmdDone c n) :=
  State.cstat_only .ok (inside.sub rfl) (State.modSec_only _ (inside.sub rfl) h)

theorem ninsAll_ne_nil {l : List Nat} {x : Nat} (mem : x ∈ l) (w : NSet) : ninsAll l w ≠ [] := by
  intro empty
  have inside := nmem_ninsAll l x w
  rw [empty] at inside
  simp [nmem, mem] at inside

variable {n : BitVec 8}

theorem exec_kcmdKeygen : exec (.kcmdKeygen n) s = .next (s.kcmd .keygen false n.toNat) := rfl
theorem exec_kcmdZeroise : exec (.kcmdZeroise n) s = .next (s.kcmd .zeroise false n.toNat) := rfl
theorem exec_kcmdZeroiseAll : exec .kcmdZeroiseAll s = .next (s.kcmd .zeroiseAll false 0) := rfl

theorem yields_kcmdKeygen (ok : s.keyStatus .keygen false false n.toNat = .ok) : Yields (.kcmdKeygen n) s (fun t =>
    t.key n.toNat = Key.installed s.drawnKey true (s.key n.toNat) ∧ (∀ m, m ≠ n.toNat → t.key m = s.key m) ∧
    t.sec = { s.sec with keys := t.sec.keys, drbgNo := s.sec.drbgNo + 2 } ∧
    (t.stw Reg.SEC_CSTAT).toNat % 256 = Status.ok.code ∧ t = { s with sec := t.sec, reg := t.reg }) := by
  have next := exec_kcmdKeygen (n := n) (s := s)
  rw [State.kcmd_ok ok] at next
  refine ⟨_, next, ?_, fun m other => ?_, ?_, ?_, ?_⟩
  · rw [State.key_kcmdDone, State.key_keygen]
  · rw [State.key_kcmdDone, State.key_keygen_other other]
  · rw [State.sec_kcmdDone, State.sec_keygen]
    rfl
  · rw [State.kcmdDone, State.status_cstat]
  · exact (State.kcmdDone_only (Inside.refl _) .keygen n.toNat (State.keygen_only ((Inside.refl _).sub rfl) n.toNat s)).eq

theorem yields_kcmdZeroise_loaded (ok : s.keyStatus .zeroise false false n.toNat = .ok) (loaded : (s.key n.toNat).st = .loaded) :
    Yields (.kcmdZeroise n) s (fun t => t.key n.toNat = { s.key n.toNat with st := .zeroising } ∧ (∀ m, m ≠ n.toNat → t.key m = s.key m) ∧
      bit 31 (t.stw Reg.SEC_CSTAT) = true) := by
  have next := exec_kcmdZeroise (n := n) (s := s)
  rw [State.kcmd_ok ok] at next
  have zeroises : (s.keyZeroise n.toNat).key n.toNat = { s.key n.toNat with st := .zeroising } := by
    rw [State.key_keyZeroise, Key.zeroised, if_pos loaded]
  have listed : n.toNat ∈ (s.keyZeroise n.toNat).kcmdSlots .zeroise n.toNat := by
    obtain default | mem := tget_default_or_mem {} n.toNat (s.keyZeroise n.toNat).sec.keys
    · have empty := congrArg Key.st (zeroises.symm.trans default)
      cases empty
    · refine List.mem_map.2 ⟨_, List.mem_filter.2 ⟨mem, ?_⟩, rfl⟩
      have st := congrArg Key.st zeroises
      rw [State.key] at st
      simp [st]
  refine ⟨_, next, ?_, fun m other => ?_, ?_⟩
  · rw [State.key_kcmdDone]
    exact zeroises
  · rw [State.key_kcmdDone]
    exact State.key_keyZeroise_other other s
  · rw [State.kcmdDone, State.busy_cstat, Bool.or_eq_true]
    exact .inr (decide_eq_true (ninsAll_ne_nil listed _))

theorem yields_kcmdZeroise_empty (ok : s.keyStatus .zeroise false false n.toNat = .ok) (empty : (s.key n.toNat).st = .empty) :
    Yields (.kcmdZeroise n) s (fun t => (∀ m, t.key m = s.key m) ∧ t = { s with sec := t.sec, reg := t.reg }) := by
  have next := exec_kcmdZeroise (n := n) (s := s)
  have idle : s.keyDo .zeroise n.toNat = s := if_neg (by simp [empty])
  rw [State.kcmd_ok ok, idle] at next
  exact ⟨_, next, fun m => s.key_kcmdDone .zeroise n.toNat m, (State.kcmdDone_only (Inside.refl _) .zeroise n.toNat (Only.refl _ s)).eq⟩

theorem yields_kcmdZeroiseAll (ok : s.keyStatus .zeroiseAll false false 0 = .ok) : Yields .kcmdZeroiseAll s (fun t =>
    ∀ m, t.key m = Key.zeroised (s.key m)) := by
  have next := exec_kcmdZeroiseAll (s := s)
  rw [State.kcmd_ok ok] at next
  refine ⟨_, next, fun m => ?_⟩
  rw [State.key_kcmdDone]
  exact s.key_zeroiseAll m

/-! ZEROISE_DONE. -/

theorem State.key_modStw (off : Nat) (f : W32 → W32) (m : Nat) (s : State) : (s.modStw off f).key m = s.key m := rfl

theorem State.sec_modStw (off : Nat) (f : W32 → W32) (s : State) : (s.modStw off f).sec = s.sec := rfl

theorem exec_zeroiseDone_idle (idle : (s.key n.toNat).st ≠ .zeroising ∨ s.keyInUse n.toNat = true) : exec (.zeroiseDone n) s = .next s := by
  change execZeroiseDone n s = _
  exact if_pos (by rcases idle with h | h <;> simp [h])

/-- A slot whose zeroise is done. -/
def Key.cleared (kept : Bool) (k : Key) : Key := { k with st := .empty, k := if kept then k.k else 0#512 }

theorem exec_zeroiseDone (zeroises : (s.key n.toNat).st = .zeroising) (unused : s.keyInUse n.toNat = false) : exec (.zeroiseDone n) s =
    .next (((s.modKey n.toNat (Key.cleared (s.keyKept n.toNat))).modSec (fun x => { x with kcmdWait := ndel n.toNat x.kcmdWait })).cstatBusy) := by
  change execZeroiseDone n s = _
  exact if_neg (by simp [zeroises, unused])

theorem yields_zeroiseDone (zeroises : (s.key n.toNat).st = .zeroising) (unused : s.keyInUse n.toNat = false) : Yields (.zeroiseDone n) s (fun t =>
    t.key n.toNat = Key.cleared (s.keyKept n.toNat) (s.key n.toNat) ∧
    (∀ m, m ≠ n.toNat → t.key m = s.key m) ∧ t.sec = { s.sec with keys := t.sec.keys, kcmdWait := ndel n.toNat s.sec.kcmdWait } ∧
    bit 31 (t.stw Reg.SEC_CSTAT) = decide (s.sec.fuseBusy = true ∨ ndel n.toNat s.sec.kcmdWait ≠ []) ∧
    t = { s with sec := t.sec, reg := t.reg }) := by
  refine ⟨_, exec_zeroiseDone zeroises unused, ?_, fun m other => ?_, ?_, ?_, ?_⟩
  · rw [State.cstatBusy, State.key_modStw, State.key_modSec _ _ _ (by rfl), State.key_modKey]
  · rw [State.cstatBusy, State.key_modStw, State.key_modSec _ _ _ (by rfl), State.key_modKey_other _ other]
  · rw [State.cstatBusy, State.sec_modStw]
    rfl
  · rw [State.busy_cstatBusy]
    change (s.sec.fuseBusy || decide (ndel n.toNat s.sec.kcmdWait ≠ [])) = _
    cases s.sec.fuseBusy <;> simp
  · exact (State.cstatBusy_only (Fm := 137438953488) ((Inside.refl _).sub rfl) (State.modSec_only _ ((Inside.refl _).sub rfl)
      (State.modKey_only _ _ ((Inside.refl _).sub rfl) (Only.refl _ s)))).eq

end

/-! Vendor-defined key commands (Table SEC-9). -/

/-- The state after a key command, whatever its status. -/
def State.keyRun (c : KeyCmd) (st : Status) (n : Nat) (s : State) : State := if st = .ok then s.keyDo c n else s

/-- The answer to a vendor-defined key command, with the GEN that it shows. -/
def keyAnswer (st : Status) (gen : Nat) : List Byte := [BitVec.ofNat 8 st.code, 0#8] ++ leBytes 2 gen

/-- The GEN that a key command shows: of every slot it names none, and the model leaves it free. -/
def State.keyGen (c : KeyCmd) (n : Nat) (s : State) : Nat :=
  if c = .zeroiseAll then (Config.freeBits s.freeCtr).toNat else (s.key n).gen.toNat

/-- A vendor-defined key command inside its session. -/
def State.keyAnswered (e : Endpoint) (c : KeyCmd) (r : Bool) (n : Nat) (s : State) : State :=
  let st := s.keyStatus c (s.keyDenied c e) r n
  ((s.keyRun c st n).spdmOk e (keyAnswer st ((s.keyRun c st n).keyGen c n))).tickFree

section
variable {e : Endpoint} {i : Nat} {s : State} (reached : s.reachable e = true) (carries : ∀ q, e ≠ .mailbox q) (served : s.spdmServed e = true)
  (inside : s.inSession e i = true)
include reached carries served inside

theorem State.keyVendor_inside (c : KeyCmd) (r : Bool) (n : Nat) : s.keyVendor e i c n r = s.keyAnswered e c r n :=
  State.spdmIn_some reached carries served inside

theorem exec_spdmLoad (n : BitVec 8) (r : Bool) (a b : W256) : exec (.spdmLoad e i n r a b) s = .next (s.keyAnswered e (.load a b) r n.toNat) := by
  change execSpdmLoad e i n r a b s = _
  rw [execSpdmLoad, State.keyVendor_inside reached carries served inside]

theorem exec_spdmKeygen (n : BitVec 8) (r : Bool) : exec (.spdmKeygen e i n r) s = .next (s.keyAnswered e .keygen r n.toNat) := by
  change execSpdmKeygen e i n r s = _
  rw [execSpdmKeygen, State.keyVendor_inside reached carries served inside]

theorem exec_spdmZeroise (n : BitVec 8) (r : Bool) : exec (.spdmZeroise e i n r) s = .next (s.keyAnswered e .zeroise r n.toNat) := by
  change execSpdmZeroise e i n r s = _
  rw [execSpdmZeroise, State.keyVendor_inside reached carries served inside]

theorem exec_spdmZeroiseAll (r : Bool) : exec (.spdmZeroiseAll e i r) s = .next (s.keyAnswered e .zeroiseAll r 0) := by
  change execSpdmZeroiseAll e i r s = _
  rw [execSpdmZeroiseAll, State.keyVendor_inside reached carries served inside]

end

section
variable {e : Endpoint} {c : KeyCmd} {r : Bool} {n : Nat} {s : State}

theorem State.keyAnswered_ok (ok : s.keyStatus c (s.keyDenied c e) r n = .ok) : s.keyAnswered e c r n =
    ((s.keyDo c n).spdmOk e (keyAnswer .ok ((s.keyDo c n).keyGen c n))).tickFree := by
  unfold State.keyAnswered
  rw [ok]
  rfl

theorem State.keyAnswered_refused (bad : s.keyStatus c (s.keyDenied c e) r n ≠ .ok) : s.keyAnswered e c r n =
    (s.spdmOk e (keyAnswer (s.keyStatus c (s.keyDenied c e) r n) (s.keyGen c n))).tickFree := by
  have same : s.keyRun c (s.keyStatus c (s.keyDenied c e) r n) n = s := if_neg bad
  unfold State.keyAnswered
  dsimp only
  rw [same]

theorem State.key_answered (d : List Byte) (m : Nat) (s : State) : ((s.spdmOk e d).tickFree).key m = s.key m := rfl

theorem State.out_answered {t : State} (d : List Byte) (same : t.out = s.out) : ((t.spdmOk e d).tickFree).out = (s.spdmOk e d).out := by
  change t.out ++ _ = s.out ++ _
  rw [same]

theorem State.keyGen_one (one : c ≠ .zeroiseAll) : s.keyGen c n = (s.key n).gen.toNat := if_neg one

theorem State.out_keyDo (c : KeyCmd) (n : Nat) (s : State) : (s.keyDo c n).out = s.out := (State.keyDo_only c n (Inside.refl _) (Only.refl _ s)).out rfl

theorem State.freeCtr_keyDo (c : KeyCmd) (n : Nat) (s : State) : (s.keyDo c n).freeCtr = s.freeCtr :=
  (State.keyDo_only c n (Inside.refl _) (Only.refl _ s)).freeCtr rfl

theorem State.sec_vendor (d : List Byte) (s : State) : ((s.spdmOk e d).tickFree).sec = s.sec := rfl

/-- A vendor-defined command that changes the security engine alone leaves the rest but the answer and the free values. -/
theorem vendor_frame {t : State} (d : List Byte) (only : Only 137438953472 s t) : (t.spdmOk e d).tickFree =
    { s with sec := t.sec, out := ((t.spdmOk e d).tickFree).out, freeCtr := ((t.spdmOk e d).tickFree).freeCtr } := by
  have frame : (t.spdmOk e d).tickFree = { t with out := ((t.spdmOk e d).tickFree).out, freeCtr := ((t.spdmOk e d).tickFree).freeCtr } := rfl
  have rest : t = { s with sec := t.sec } := only.eq
  rw [rest] at frame
  rw [rest]
  exact frame

theorem Key.gen_zeroised (k : Key) : (Key.zeroised k).gen = k.gen := by
  unfold Key.zeroised
  split
  · rfl
  · rfl

end

/-- Settles O57: the status of each command is that of its first check, and what it does is that of the slots it names. -/
theorem keysAndFusesFollowTheirChecks : Obligations.KeysAndFusesFollowTheirChecks := by
  refine ⟨?refused, ?raise, ?revoke, ?written, ?status, ?keygen, ?zeroise, ?all, ?kcmd, ?done, ?vendor, ?denied⟩
  case refused =>
    intro k c s fuse
    have command : ∃ d f, exec c s = .next (s.fuseCmd false d f) := by
      simp only [List.mem_cons, List.not_mem_nil, or_false] at fuse
      obtain rfl | rfl := fuse
      · exact ⟨_, _, exec_raiseMinsvn⟩
      · exact ⟨_, _, exec_revokeKey k⟩
    obtain ⟨d, f, next⟩ := command
    refine ⟨fun conflict => ?_, fun alone busy => ?_⟩
    · rw [next, State.fuseCmd_conflict conflict]
    · rw [next, State.fuseCmd_busy alone busy]
  case raise =>
    intro s alone idle
    have next := exec_raiseMinsvn (s := s)
    rw [State.fuseCmd_ok alone idle] at next
    exact ⟨_, next, Fuses.minSvn_raise s.running.runSvn s.fuse, Fuses.raise_frame s.running.runSvn s.fuse, rfl⟩
  case revoke =>
    intro k s alone idle
    refine ⟨fun other => ?_, fun same => ?_⟩
    · rw [exec_revokeKey, decide_eq_false other, State.fuseCmd_ok alone idle]
      rfl
    · rw [exec_revokeKey, decide_eq_true same, State.fuseCmd_denied alone idle]
  case written => exact fun _ => ⟨exec_fuseWriteDone_idle, yields_fuseWriteDone⟩
  case status =>
    refine fun c d b n s => ⟨State.keyStatus_conflict, State.keyStatus_denied, State.keyStatus_split, fun alone joined => ⟨?_, ?_, ?_⟩⟩
    · exact (State.keyStatus_joined alone joined).trans (if_pos (by simp))
    · rintro k rfl
      exact (State.keyStatus_joined alone joined).trans (if_pos (by simp [KeyCmd.equalHalves]))
    · refine fun fresh => ⟨State.keyStatus_one alone joined fresh, ?_⟩
      rintro rfl
      exact State.keyStatus_all alone
  case keygen => exact fun _ _ ok => yields_kcmdKeygen ok
  case zeroise => exact fun _ _ ok => ⟨yields_kcmdZeroise_loaded ok, yields_kcmdZeroise_empty ok⟩
  case all => exact fun _ ok => yields_kcmdZeroiseAll ok
  case kcmd =>
    intro n c s bad
    refine ⟨fun check => ?_, fun check => ?_, fun check => ?_⟩
    · rw [exec_kcmdKeygen, State.kcmd_refused check bad]
    · rw [exec_kcmdZeroise, State.kcmd_refused check bad]
    · rw [exec_kcmdZeroiseAll, State.kcmd_refused check bad]
  case done => exact fun _ _ => ⟨exec_zeroiseDone_idle, yields_zeroiseDone⟩
  case vendor =>
    intro e i n a b s reached carries served inside
    refine ⟨fun ok => ?_, fun ok => ?_, fun ok => ?_, fun ok => ?_, fun r k c request bad => ?_, fun r bad => ?_⟩
    · have next := exec_spdmLoad reached carries served inside n false a b
      rw [State.keyAnswered_ok ok, State.keyGen_one (by simp)] at next
      refine ⟨_, next, ?_, fun m other => ?_, ?_, ?_⟩
      · rw [State.key_answered, State.key_load]
        rfl
      · rw [State.key_answered, State.key_load_other _ _ other]
      · rw [State.key_answered, State.out_answered _ (s.out_keyDo _ _)]
        rfl
      · rw [State.sec_vendor, ← s.sec_load]
        exact vendor_frame _ (State.keyInstall_only _ _ _ (Inside.refl _) (Only.refl _ s))
    · have next := exec_spdmKeygen reached carries served inside n false
      rw [State.keyAnswered_ok ok, State.keyGen_one (by simp)] at next
      refine ⟨_, next, ?_, fun m other => ?_, ?_, ?_⟩
      · rw [State.key_answered, State.key_keygen]
        rfl
      · rw [State.key_answered, State.key_keygen_other other]
      · rw [State.key_answered, State.out_answered _ (s.out_keyDo _ _)]
        rfl
      · rw [State.sec_vendor, ← s.sec_keygen]
        exact vendor_frame _ (State.keygen_only (Inside.refl _) n.toNat s)
    · have next := exec_spdmZeroise reached carries served inside n false
      have here : (s.keyDo .zeroise n.toNat).key n.toNat = Key.zeroised (s.key n.toNat) := s.key_keyZeroise n.toNat
      rw [State.keyAnswered_ok ok, State.keyGen_one (by simp)] at next
      refine ⟨_, next, ?_, fun m other => ?_, ?_⟩
      · rw [State.key_answered, here]
        rfl
      · rw [State.key_answered]
        exact State.key_keyZeroise_other other s
      · rw [State.out_answered _ (s.out_keyDo _ _), here, Key.gen_zeroised]
        rfl
    · have next := exec_spdmZeroiseAll reached carries served inside false
      rw [State.keyAnswered_ok ok] at next
      refine ⟨_, next, fun m => ?_, ?_⟩
      · rw [State.key_answered]
        exact s.key_zeroiseAll m
      · rw [State.out_answered _ (s.out_keyDo _ _), State.keyGen, if_pos rfl, State.freeCtr_keyDo]
        rfl
    · have answers : exec c s = .next (s.keyAnswered e k r n.toNat) ∧ k ≠ .zeroiseAll := by
        simp only [List.mem_cons, List.not_mem_nil, or_false, Prod.mk.injEq] at request
        obtain ⟨rfl, rfl⟩ | ⟨rfl, rfl⟩ | ⟨rfl, rfl⟩ := request
        · exact ⟨exec_spdmLoad reached carries served inside n r a b, by simp⟩
        · exact ⟨exec_spdmKeygen reached carries served inside n r, by simp⟩
        · exact ⟨exec_spdmZeroise reached carries served inside n r, by simp⟩
      obtain ⟨next, one⟩ := answers
      rw [next, State.keyAnswered_refused bad, State.keyGen_one one]
      rfl
    · rw [exec_spdmZeroiseAll reached carries served inside r, State.keyAnswered_refused bad, State.keyGen, if_pos rfl]
      rfl
  case denied => exact fun _ _ _ => State.keyDenied_iff

end Sys2Proof.Machine


/-! Firmware updates and BIST by command (R388 to R391, R415, R417 to R421). -/

namespace Sys2Proof.Machine

open Safety

/-! The checks of BUP_UPD. -/

section
variable {s : State} {busy bad denied : Bool}

theorem State.updCheck_conflict (conflict : s.conflict = true) : s.updCheck busy bad denied = .stewardConflict := if_pos conflict

theorem State.updCheck_committing (alone : s.conflict = false) (writes : s.upd.st = .committing) : s.updCheck busy bad denied = .slotBusy := by
  simp [State.updCheck, alone, writes]

theorem State.updCheck_free (alone : s.conflict = false) (idle : s.upd.st ≠ .committing) : s.updCheck busy bad denied =
    if busy then .slotBusy else if bad then .badDescriptor else if denied then .permission else .ok := by
  simp [State.updCheck, alone, idle]

/-- The length and state that BEGIN of an update sets. -/
def Upd.begun (n : Nat) (u : Upd) : Upd := { u with st := .loading, len := n, chunks := [], bytes := [] }

/-- An update that has ended, its bytes gone. -/
def Upd.ended (u : Upd) : Upd := { u with st := .idle, len := 0, chunks := [], bytes := [] }

/-- The bytes of chunk `c` stored in the update, from address `a`. -/
def State.putBytes (c a : Nat) (l : List Byte) (s : State) : State :=
  s.modUpd (fun u => { u with chunks := nins c u.chunks, bytes := mwrite a l u.bytes })

/-- The bytes of chunk `c` stored in the flash, from address `a`. -/
def State.putFlash (c a : Nat) (l : List Byte) (s : State) : State :=
  { s.modUpd (fun u => { u with chunks := nins c u.chunks }) with flash := { s.flash with img := mwrite a l s.flash.img } }

/-- A chunk that is taken into the update. -/
def State.putChunk (c : Nat) (s : State) : State :=
  if s.romServes then s.putFlash c (4096 * c) s.uwinBytes else s.putBytes c (4096 * c) s.uwinBytes

theorem State.upd_putBytes (c a : Nat) (l : List Byte) (s : State) :
    (s.putBytes c a l).upd = { s.upd with chunks := nins c s.upd.chunks, bytes := mwrite a l s.upd.bytes } := rfl

theorem State.upd_putFlash (c a : Nat) (l : List Byte) (s : State) :
    (s.putFlash c a l).upd = { s.upd with chunks := nins c s.upd.chunks } := rfl

theorem State.flash_putFlash (c a : Nat) (l : List Byte) (s : State) :
    (s.putFlash c a l).flash = { s.flash with img := mwrite a l s.flash.img } := rfl

/-- A stored chunk changes what it stores in the update only. -/
theorem State.putBytes_eq (c a : Nat) (l : List Byte) (s : State) : s.putBytes c a l =
    { s with upd := { s.upd with chunks := (s.putBytes c a l).upd.chunks, bytes := (s.putBytes c a l).upd.bytes } } := rfl

/-- A chunk stored in the flash changes the update and the image only. -/
theorem State.putFlash_eq (c a : Nat) (l : List Byte) (s : State) : s.putFlash c a l =
    { s with upd := (s.putFlash c a l).upd, flash := { s.flash with img := (s.putFlash c a l).flash.img } } := rfl

theorem exec_updateBegin : exec .updateBegin s = .next (State.ustat (s.updCheck (s.upd.st ≠ .idle)
      ((s.stw Reg.BUP_ULEN).toNat < 1024 || 62914560 < (s.stw Reg.BUP_ULEN).toNat) false)
    (if s.updCheck (s.upd.st ≠ .idle) ((s.stw Reg.BUP_ULEN).toNat < 1024 || 62914560 < (s.stw Reg.BUP_ULEN).toNat) false = .ok then
      s.modUpd (Upd.begun (s.stw Reg.BUP_ULEN).toNat) else s)) := rfl

theorem exec_updateCommit : exec .updateCommit s = .next (State.ustat (s.updCheck false false (s.upd.st ≠ .verified))
    (if s.updCheck false false (s.upd.st ≠ .verified) = .ok then s.modUpd (fun u => { u with st := .committing }) else s)) := rfl

theorem exec_updateAbandon : exec .updateAbandon s = .next (State.ustat (s.updCheck false false false)
    (if s.updCheck false false false = .ok then s.modUpd Upd.ended else s)) := rfl

theorem exec_updateChunk_ok {c : BitVec 14} (ok : s.updCheck false (s.updLen ≤ 4096 * c.toNat) (s.upd.st ≠ .loading) = .ok) :
    exec (.updateChunk c) s = .next ((s.putChunk c.toNat).ustat .ok) := by
  change execUpdateChunk c s = _
  unfold execUpdateChunk
  dsimp only
  rw [ok, if_pos rfl, State.putChunk]
  rfl

theorem exec_updateChunk_refused {c : BitVec 14} {x : Status}
    (check : s.updCheck false (s.updLen ≤ 4096 * c.toNat) (s.upd.st ≠ .loading) = x) (refused : x ≠ .ok) :
    exec (.updateChunk c) s = .next (s.ustat x) := by
  change execUpdateChunk c s = _
  unfold execUpdateChunk
  dsimp only
  rw [check, if_neg refused]

theorem exec_updateVerify_refused {x : Status} (check : s.updCheck false false (s.upd.st ≠ .loading) = x) (refused : x ≠ .ok) :
    exec .updateVerify s = .next (s.ustat x) := by
  change execUpdateVerify s = _
  simp only [execUpdateVerify, check]

/-- Every command of BUP_UPD that a check of its turn refuses changes STATUS only. -/
theorem exec_update_refused {c : BitVec 14} {i : Instr} {x : Status}
    (command : i ∈ [.updateBegin, .updateChunk c, .updateVerify, .updateCommit, .updateAbandon])
    (check : ∀ busy bad denied, s.updCheck busy bad denied = x) (refused : x ≠ .ok) : exec i s = .next (s.ustat x) := by
  simp only [List.mem_cons, List.not_mem_nil, or_false] at command
  obtain rfl | rfl | rfl | rfl | rfl := command
  · rw [exec_updateBegin, check, if_neg refused]
  · exact exec_updateChunk_refused (check _ _ _) refused
  · exact exec_updateVerify_refused (check _ _ _) refused
  · rw [exec_updateCommit, check, if_neg refused]
  · rw [exec_updateAbandon, check, if_neg refused]

/-! CHUNK. -/

theorem mget_mwrite_inside (l : List Byte) : ∀ (a i : Nat) (m : Mem), i < l.length → mget (a + i) (mwrite a l m) = (l[i]?).getD 0#8 := by
  induction l with
  | nil => exact fun _ _ _ small => absurd small (Nat.not_lt_zero _)
  | cons b r ih =>
    intro a i m small
    cases i with
    | zero =>
      rw [mwrite, Nat.add_zero, mget_mwrite_below r (a + 1) a _ (by omega), mget_mset_same]
      rfl
    | succ j =>
      have later := ih (a + 1) j (mset a b m) (Nat.lt_of_succ_lt_succ small)
      rw [mwrite, show a + (j + 1) = a + 1 + j by omega, later]
      rfl

theorem length_uwinBytes (s : State) : s.uwinBytes.length = 4096 := by
  have four (l : List Nat) : ((l.map (fun w => leBytes 4 (tget 0#32 w s.upd.win).toNat)).flatten).length = 4 * l.length := by
    induction l with
    | nil => rfl
    | cons w r ih =>
      rw [List.map_cons, List.flatten_cons, List.length_append, ih, leBytes_length, List.length_cons]
      omega
  rw [State.uwinBytes, four, List.length_range]

/-- A chunk's store: its 4 KiB, and no other byte. -/
theorem mget_putChunk (c : Nat) (m : Mem) (s : State) :
    (∀ a, a < 4096 → mget (4096 * c + a) (mwrite (4096 * c) s.uwinBytes m) = (s.uwinBytes[a]?).getD 0#8) ∧
      (∀ a, a < 4096 * c ∨ 4096 * (c + 1) ≤ a → mget a (mwrite (4096 * c) s.uwinBytes m) = mget a m) := by
  have length := length_uwinBytes s
  refine ⟨fun a small => mget_mwrite_inside _ _ _ _ (by omega), fun a out => ?_⟩
  obtain low | high := out
  · exact mget_mwrite_below _ _ _ _ low
  · exact mget_mwrite_above _ _ _ _ (by omega)

theorem State.upd_ustat (c : Status) (s : State) : (s.ustat c).upd = s.upd := rfl
theorem State.flash_ustat (c : Status) (s : State) : (s.ustat c).flash = s.flash := rfl
theorem State.half_ustat (c : Status) (h : Half) (s : State) : (s.ustat c).half h = s.half h := by
  cases h <;> rfl

theorem State.updLen_loading (loading : s.upd.st = .loading) : s.updLen = s.upd.len := by
  rw [State.updLen, if_neg (by simp [loading])]

theorem chunk_ok {c : Nat} (alone : s.conflict = false) (inside : 4096 * c < s.upd.len) (loading : s.upd.st = .loading) :
    s.updCheck false (s.updLen ≤ 4096 * c) (s.upd.st ≠ .loading) = .ok := by
  rw [State.updCheck_free alone (by simp [loading]), State.updLen_loading loading, decide_eq_false (Nat.not_le.2 inside)]
  simp [loading]

theorem yields_updateChunk {c : BitVec 14} (alone : s.conflict = false) (inside : 4096 * c.toNat < s.upd.len) (loading : s.upd.st = .loading)
    (firmware : s.romServes = false) : Yields (.updateChunk c) s (fun t => t.upd.chunks = nins c.toNat s.upd.chunks ∧
      (∀ a, a < 4096 → mget (4096 * c.toNat + a) t.upd.bytes = (s.uwinBytes[a]?).getD 0#8) ∧
      (∀ a, a < 4096 * c.toNat ∨ 4096 * (c.toNat + 1) ≤ a → mget a t.upd.bytes = mget a s.upd.bytes) ∧
      t = State.ustat .ok { s with upd := { s.upd with chunks := t.upd.chunks, bytes := t.upd.bytes } }) := by
  have next := exec_updateChunk_ok (chunk_ok alone inside loading)
  have put : s.putChunk c.toNat = s.putBytes c.toNat (4096 * c.toNat) s.uwinBytes := if_neg (by simp [firmware])
  obtain ⟨here, elsewhere⟩ := mget_putChunk c.toNat s.upd.bytes s
  rw [put] at next
  refine ⟨_, next, ?_, fun a small => ?_, fun a out => ?_, ?_⟩
  · rw [State.upd_ustat, State.upd_putBytes]
  · rw [State.upd_ustat, State.upd_putBytes, here a small]
  · rw [State.upd_ustat, State.upd_putBytes, elsewhere a out]
  · rw [State.upd_ustat]
    exact congrArg (State.ustat .ok) (s.putBytes_eq c.toNat (4096 * c.toNat) s.uwinBytes)

theorem yields_updateChunk_rom {c : BitVec 14} (alone : s.conflict = false) (inside : 4096 * c.toNat < s.upd.len) (loading : s.upd.st = .loading)
    (rom : s.romServes = true) : Yields (.updateChunk c) s (fun t => t.upd = { s.upd with chunks := nins c.toNat s.upd.chunks } ∧
      (∀ a, a < 4096 → mget (4096 * c.toNat + a) t.flash.img = (s.uwinBytes[a]?).getD 0#8) ∧
      (∀ a, a < 4096 * c.toNat ∨ 4096 * (c.toNat + 1) ≤ a → mget a t.flash.img = mget a s.flash.img) ∧
      t = State.ustat .ok { s with upd := t.upd, flash := { s.flash with img := t.flash.img } }) := by
  have next := exec_updateChunk_ok (chunk_ok alone inside loading)
  have put : s.putChunk c.toNat = s.putFlash c.toNat (4096 * c.toNat) s.uwinBytes := if_pos rom
  obtain ⟨here, elsewhere⟩ := mget_putChunk c.toNat s.flash.img s
  rw [put] at next
  refine ⟨_, next, ?_, fun a small => ?_, fun a out => ?_, ?_⟩
  · rw [State.upd_ustat, State.upd_putFlash]
  · rw [State.flash_ustat, State.flash_putFlash, here a small]
  · rw [State.flash_ustat, State.flash_putFlash, elsewhere a out]
  · rw [State.upd_ustat, State.flash_ustat]
    exact congrArg (State.ustat .ok) (s.putFlash_eq c.toNat (4096 * c.toNat) s.uwinBytes)

end

/-! VERIFY. -/

section
variable {s : State}

theorem verify_ok (alone : s.conflict = false) (loading : s.upd.st = .loading) : s.updCheck false false (s.upd.st ≠ .loading) = .ok := by
  rw [State.updCheck_free alone (by simp [loading])]
  simp [loading]

/-- The image that VERIFY checks. -/
def State.verified (s : State) : Mem := if s.romServes then s.flash.img else s.upd.bytes

/-- The update that ends at VERIFY of the ROM, its image checked. -/
def State.romVerified (s : State) : State :=
  { s.modUpd (fun u => { u with st := .idle, len := 0, chunks := [] }) with flash := { s.flash with mixed := false } }

theorem exec_updateVerify (ok : s.updCheck false false (s.upd.st ≠ .loading) = .ok) : exec .updateVerify s =
    if !s.upd.complete then .next (s.ustat .checkMismatch)
    else if s.imageErr s.verified s.upd.len false ≠ 0 then .next ((s.noteErr (s.imageErr s.verified s.upd.len false)).ustat .checkMismatch)
    else if s.romServes then .next (s.romVerified.recoverAll.ustat .ok) else .next ((s.modUpd (fun u => { u with st := .verified })).ustat .ok) := by
  change execUpdateVerify s = _
  unfold execUpdateVerify
  rw [ok]
  rfl

/-! The check of the flash in a half. -/

theorem State.half_enterStage_other (h : Half) (st : Stage) (s : State) : (s.enterStage h st).half (halfOther h) = s.half (halfOther h) := by
  unfold State.enterStage
  split
  · rfl
  · rw [State.half_modHalf_other]

theorem State.stage_enterStage (h : Half) (st : Stage) (s : State) :
    ((s.enterStage h st).half h).stage = st ∧ ((s.enterStage h st).half h).passed = (s.half h).passed ∧
      ((s.enterStage h st).half h).lastErr = (s.half h).lastErr := by
  unfold State.enterStage
  split
  next same => exact ⟨same, rfl, rfl⟩
  · rw [State.half_modHalf]
    exact ⟨rfl, rfl, rfl⟩

theorem State.half_measure (h : Half) (s : State) : s.measure.half h = s.half h :=
  (State.measure_only (Inside.refl _) (Only.refl _ s)).half rfl rfl h

theorem State.half_frsHalf (h k : Half) (s : State) : (s.frsHalf h).half k = s.half k :=
  (State.frsHalf_only h (Inside.refl _) (Only.refl _ s)).half rfl rfl k

theorem State.half_checkFlash_other (h : Half) (s : State) : (s.checkFlash h).half (halfOther h) = s.half (halfOther h) := by
  unfold State.checkFlash
  dsimp only
  by_cases good : s.imageErr s.flash.img 62914560 s.flash.mixed = 0
  · rw [if_pos good, State.half_enterStage_other, State.half_modHalf_other, State.half_measure]
  · rw [if_neg good, apply_ite (fun t : State => t.half (halfOther h)), State.half_frsHalf, ite_self, State.half_enterStage_other,
      State.half_modHalf_other]

theorem checkFlash_good (h : Half) (good : s.imageErr s.flash.img 62914560 s.flash.mixed = 0) :
    ((s.checkFlash h).half h).stage = .verify ∧ ((s.checkFlash h).half h).passed = some (imgDigest s.flash.img) := by
  obtain ⟨stage, passed, -⟩ := (s.measure.modHalf h (fun x => { x with passed := some (imgDigest s.flash.img) })).stage_enterStage h .verify
  unfold State.checkFlash
  dsimp only
  rw [if_pos good]
  refine ⟨stage, passed.trans ?_⟩
  rw [State.half_modHalf]

theorem checkFlash_bad (h : Half) (bad : s.imageErr s.flash.img 62914560 s.flash.mixed ≠ 0) :
    ((s.checkFlash h).half h).stage = .recovery ∧ ((s.checkFlash h).half h).lastErr = s.imageErr s.flash.img 62914560 s.flash.mixed := by
  obtain ⟨stage, -, err⟩ := (s.modHalf h (fun x =>
    { x with lastErr := s.imageErr s.flash.img 62914560 s.flash.mixed, nFail := min 0xFF (x.nFail + 1) })).stage_enterStage h .recovery
  unfold State.checkFlash
  dsimp only
  rw [if_neg bad, apply_ite (fun t : State => t.half h), State.half_frsHalf, ite_self]
  refine ⟨stage, err.trans ?_⟩
  rw [State.half_modHalf]

/-- A half in recovery checks the flash. -/
def State.recoverHalf (h : Half) (s : State) : State := if (s.half h).stage = .recovery then s.checkFlash h else s

theorem State.recoverHalf_only (h : Half) (s : State) : Only 2336462209120 s (s.recoverHalf h) :=
  Only.ite (State.checkFlash_only h (Inside.refl _) (Only.refl _ s)) (Only.refl _ s)

theorem State.half_recoverHalf_other (h : Half) (s : State) : (s.recoverHalf h).half (halfOther h) = s.half (halfOther h) := by
  unfold State.recoverHalf
  split
  · exact s.half_checkFlash_other h
  · rfl

theorem State.imageErr_of_fuse {t : State} (same : t.fuse = s.fuse) (m : Mem) (n : Nat) (x : Bool) : t.imageErr m n x = s.imageErr m n x := by
  unfold State.imageErr
  rw [same]

/-- Each half checks the flash from where it stood. -/
theorem half_recoverAll (h : Half) (s : State) : ∃ u : State, s.recoverAll.half h = (u.recoverHalf h).half h ∧ u.half h = s.half h ∧
    u.flash = s.flash ∧ u.fuse = s.fuse := by
  cases h with
  | north => exact ⟨s, (s.recoverHalf .north).half_recoverHalf_other .south, rfl, rfl, rfl⟩
  | south =>
    have only := s.recoverHalf_only .north
    exact ⟨s.recoverHalf .north, rfl, s.half_recoverHalf_other .north, only.flash rfl, only.fuse rfl⟩

theorem recoverAll_recovery {h : Half} (fixed : s.flash.mixed = false) (waits : (s.half h).stage = .recovery) :
    (s.imageErr s.flash.img 62914560 false = 0 →
      (s.recoverAll.half h).stage = .verify ∧ (s.recoverAll.half h).passed = some (imgDigest s.flash.img)) ∧
    (s.imageErr s.flash.img 62914560 false ≠ 0 →
      (s.recoverAll.half h).stage = .recovery ∧ (s.recoverAll.half h).lastErr = s.imageErr s.flash.img 62914560 false) := by
  obtain ⟨u, half, before, flash, fuse⟩ := half_recoverAll h s
  have err : u.imageErr u.flash.img 62914560 u.flash.mixed = s.imageErr s.flash.img 62914560 false := by
    rw [State.imageErr_of_fuse fuse, flash, fixed]
  have runs : u.recoverHalf h = u.checkFlash h := if_pos (by rw [before, waits])
  rw [half, runs, ← err, ← flash]
  exact ⟨checkFlash_good h, checkFlash_bad h⟩

theorem recoverAll_other {h : Half} (other : (s.half h).stage ≠ .recovery) : s.recoverAll.half h = s.half h := by
  obtain ⟨u, half, before, -, -⟩ := half_recoverAll h s
  have rests : u.recoverHalf h = u := if_neg (by rw [before]; exact other)
  rw [half, rests, before]

/-- What VERIFY of a good image leaves where the ROM serves. -/
theorem yields_updateVerify_rom (alone : s.conflict = false) (loading : s.upd.st = .loading) (complete : s.upd.complete = true)
    (good : s.imageErr s.verified s.upd.len false = 0) (rom : s.romServes = true) : Yields .updateVerify s (fun t =>
      t.upd = { s.upd with st := .idle, len := 0, chunks := [] } ∧ t.flash = { s.flash with mixed := false } ∧
      (∀ h, (s.half h).stage = .recovery →
        (s.imageErr s.flash.img 62914560 false = 0 → (t.half h).stage = .verify ∧ (t.half h).passed = some (imgDigest s.flash.img)) ∧
        (s.imageErr s.flash.img 62914560 false ≠ 0 → (t.half h).stage = .recovery ∧
          (t.half h).lastErr = s.imageErr s.flash.img 62914560 false)) ∧
      (∀ h, (s.half h).stage ≠ .recovery → t.half h = s.half h)) := by
  have next := exec_updateVerify (verify_ok alone loading)
  rw [if_neg (by simp [complete]), if_neg (not_not_intro good), if_pos rom] at next
  have half (h : Half) : s.romVerified.half h = s.half h := by
    cases h <;> rfl
  have only := State.recoverAll_only (Inside.refl _) (Only.refl _ s.romVerified)
  refine ⟨_, next, ?_, ?_, fun h waits => ?_, fun h other => ?_⟩
  · rw [State.upd_ustat, only.upd rfl]
    rfl
  · rw [State.flash_ustat, only.flash rfl]
    rfl
  · rw [State.half_ustat]
    exact recoverAll_recovery (s := s.romVerified) rfl (by rw [half, waits])
  · rw [State.half_ustat, recoverAll_other (by rw [half]; exact other), half]

end

/-! BEGIN, COMMIT and ABANDON. -/

section
variable {s : State}

theorem begin_refused {x : Status} (check : s.updCheck (s.upd.st ≠ .idle)
    ((s.stw Reg.BUP_ULEN).toNat < 1024 || 62914560 < (s.stw Reg.BUP_ULEN).toNat) false = x) (refused : x ≠ .ok) :
    exec .updateBegin s = .next (s.ustat x) := by
  rw [exec_updateBegin, check, if_neg refused]

theorem begin_busy (alone : s.conflict = false) (runs : s.upd.st = .loading ∨ s.upd.st = .verified) :
    exec .updateBegin s = .next (s.ustat .slotBusy) := by
  have free : s.upd.st ≠ .committing ∧ s.upd.st ≠ .idle := by
    obtain st | st := runs <;> simp [st]
  refine begin_refused ?_ (by decide)
  rw [State.updCheck_free alone free.1, if_pos (decide_eq_true free.2)]

theorem begin_badLength (alone : s.conflict = false) (idle : s.upd.st = .idle)
    (bad : (s.stw Reg.BUP_ULEN).toNat < 1024 ∨ 62914560 < (s.stw Reg.BUP_ULEN).toNat) :
    exec .updateBegin s = .next (s.ustat .badDescriptor) := by
  refine begin_refused ?_ (by decide)
  rw [State.updCheck_free alone (by simp [idle]), if_neg (by simp [idle]), if_pos (by simpa using bad)]

theorem begin_starts (alone : s.conflict = false) (idle : s.upd.st = .idle) (least : 1024 ≤ (s.stw Reg.BUP_ULEN).toNat)
    (most : (s.stw Reg.BUP_ULEN).toNat ≤ 62914560) :
    exec .updateBegin s = .next (State.ustat .ok (s.modUpd (Upd.begun (s.stw Reg.BUP_ULEN).toNat))) := by
  have check : s.updCheck (s.upd.st ≠ .idle) ((s.stw Reg.BUP_ULEN).toNat < 1024 || 62914560 < (s.stw Reg.BUP_ULEN).toNat) false = .ok := by
    rw [State.updCheck_free alone (by simp [idle]), if_neg (by simp [idle]), if_neg (by simp; omega)]
    rfl
  rw [exec_updateBegin, check, if_pos rfl]

theorem commit_denied (alone : s.conflict = false) (early : s.upd.st = .loading ∨ s.upd.st = .idle) :
    exec .updateCommit s = .next (s.ustat .permission) := by
  have other : s.upd.st ≠ .committing ∧ s.upd.st ≠ .verified := by
    obtain st | st := early <;> simp [st]
  have check : s.updCheck false false (s.upd.st ≠ .verified) = .permission := by
    rw [State.updCheck_free alone other.1, if_neg Bool.false_ne_true, if_neg Bool.false_ne_true, if_pos (decide_eq_true other.2)]
  rw [exec_updateCommit, check, if_neg (by decide)]

theorem commit_starts (alone : s.conflict = false) (verified : s.upd.st = .verified) :
    exec .updateCommit s = .next (State.ustat .ok (s.modUpd (fun u => { u with st := .committing }))) := by
  have check : s.updCheck false false (s.upd.st ≠ .verified) = .ok := by
    rw [State.updCheck_free alone (by simp [verified])]
    simp [verified]
  rw [exec_updateCommit, check, if_pos rfl]

theorem abandon_ends (alone : s.conflict = false) (free : s.upd.st ≠ .committing) :
    exec .updateAbandon s = .next (State.ustat .ok (s.modUpd Upd.ended)) := by
  have check : s.updCheck false false false = .ok := by
    rw [State.updCheck_free alone free]
    rfl
  rw [exec_updateAbandon, check, if_pos rfl]

/-! The end of the flash write of a COMMIT. -/

/-- The update that ends with the flash written. -/
def State.committed (s : State) : State :=
  { s.modUpd Upd.ended with flash := { s.flash with img := s.flashed s.upd.len, mixed := false } }

theorem exec_updateCommitDone (writes : s.upd.st = .committing) : exec .updateCommitDone s =
    .next (if s.imageErr (s.flashed s.upd.len) s.upd.len false = 0 then s.committed.ustat .ok
      else (s.committed.noteErr (s.imageErr (s.flashed s.upd.len) s.upd.len false)).ustat .checkMismatch) := if_neg (not_not_intro writes)

theorem exec_updateCommitDone_idle (idle : s.upd.st ≠ .committing) : exec .updateCommitDone s = .next s := if_pos idle

theorem State.status_ustat (c : Status) (s : State) : bits 7 0 ((s.ustat c).stw Reg.BUP_USTAT) = c.code := by
  rw [State.ustat, State.stw_modStw, bits_setBits _ _ (by decide) (Status.code_lt c)]

theorem State.lastErr_noteErr (e : Nat) (s : State) : ((s.noteErr e).half (s.stewardHalf.getD .north)).lastErr = e := by
  rw [State.noteErr, State.half_modHalf]

theorem State.stewardHalf_committed (s : State) : s.committed.stewardHalf = s.stewardHalf := rfl

theorem yields_updateCommitDone (writes : s.upd.st = .committing) : Yields .updateCommitDone s (fun t =>
    t.flash = { s.flash with img := s.flashed s.upd.len, mixed := false } ∧
    t.upd = { s.upd with st := .idle, len := 0, chunks := [], bytes := [] } ∧
    (s.imageErr (s.flashed s.upd.len) s.upd.len false = 0 → bits 7 0 (t.stw Reg.BUP_USTAT) = Status.ok.code) ∧
    (s.imageErr (s.flashed s.upd.len) s.upd.len false ≠ 0 → bits 7 0 (t.stw Reg.BUP_USTAT) = Status.checkMismatch.code ∧
      (t.half (s.stewardHalf.getD .north)).lastErr = s.imageErr (s.flashed s.upd.len) s.upd.len false)) := by
  have next := exec_updateCommitDone writes
  by_cases good : s.imageErr (s.flashed s.upd.len) s.upd.len false = 0
  · rw [if_pos good] at next
    exact ⟨_, next, rfl, rfl, fun _ => State.status_ustat .ok _, fun bad => absurd good bad⟩
  · rw [if_neg good] at next
    have only := State.noteErr_only (s.imageErr (s.flashed s.upd.len) s.upd.len false) (Inside.refl _) (Only.refl _ s.committed)
    have err := s.committed.lastErr_noteErr (s.imageErr (s.flashed s.upd.len) s.upd.len false)
    rw [State.stewardHalf_committed] at err
    refine ⟨_, next, ?_, ?_, fun ok => absurd ok good, fun _ => ⟨State.status_ustat .checkMismatch _, ?_⟩⟩
    · rw [State.flash_ustat, only.flash rfl]
      rfl
    · rw [State.upd_ustat, only.upd rfl]
      rfl
    · rw [State.half_ustat, err]

/-- An image that passes meets every check of Table SEC-3. -/
theorem State.checks_of_imageErr {m : Mem} {n : Nat} {x : Bool} (passes : s.imageErr m n x = 0) :
    imgLayoutOk m n = true ∧ bit (imgLe m 5 1) s.fuse.kRevoke = false ∧ x = false ∧
      Config.signatureOk (imgLe m 5 1) (imgSigned m) (mread 512 512 m) = true ∧ s.fuse.minSvn.toNat ≤ imgLe m 8 1 := by
  unfold State.imageErr at passes
  split at passes
  · cases passes
  next layout =>
    split at passes
    · cases passes
    next key =>
      split at passes
      · cases passes
      next signed =>
        split at passes
        · cases passes
        next version =>
          simp only [Bool.not_eq_true, Bool.not_eq_false', Bool.or_eq_false_iff] at layout key signed
          exact ⟨layout, key, signed.1, signed.2, Nat.not_lt.1 version⟩

end

/-! BIST by command. -/

section
variable {s : State} {k n : Nat}

theorem exec_bist {cnt : Nat} {b : BitVec 9} {i : Instr}
    (command : (k, cnt, i) ∈ [(0, 16, .bistFe b), (1, 64, .bistTc b), (2, 272, .bistRank b), (3, 16, .bistPort b)]) (s : State) :
    exec i s = .next (s.bistStart k b.toNat) ∧ cnt = bistCount k := by
  simp only [List.mem_cons, List.not_mem_nil, or_false, Prod.mk.injEq] at command
  obtain ⟨rfl, rfl, rfl⟩ | ⟨rfl, rfl, rfl⟩ | ⟨rfl, rfl, rfl⟩ | ⟨rfl, rfl, rfl⟩ := command
  all_goals exact ⟨rfl, rfl⟩

/-- A BIST command that is marked as running. -/
def State.bistRuns (k n : Nat) (s : State) : State := (s.modUpd (fun u => { u with bist := some (k, n) })).setStw Reg.BUP_BSTAT 0x80000000#32

theorem State.bistStart_conflict (conflict : s.conflict = true) : s.bistStart k n = s.bistStatus .stewardConflict := if_pos conflict

theorem State.bistStart_alone (alone : s.conflict = false) : s.bistStart k n =
    if s.upd.bist.isSome then s.bistStatus .slotBusy
    else if bistCount k ≤ n then s.bistStatus .badDescriptor
    else if !s.bistReady k n then s.bistStatus .permission
    else ((s.bistRuns k n).bistTpass k n false).maintAsk 6 (bistScope k n) (bistUnit k n) := if_neg (by simp [alone])

/-- Every activity that asks is in the arbiter's list, whether it is granted, waits or is put off. -/
theorem State.asked_maintAsk (code : Nat) (scope : List Nat) (unit : Nat) (s : State) :
    ∃ a ∈ (s.maintAsk code scope unit).ras.acts, a.code = code ∧ a.unit = unit := by
  unfold State.maintAsk
  dsimp only
  split
  · exact ⟨_, List.mem_append_right _ (List.mem_singleton.2 rfl), rfl, rfl⟩
  · split
    · exact ⟨_, List.mem_append_right _ (List.mem_singleton.2 rfl), rfl, rfl⟩
    · rw [State.acts_setDefer]
      exact ⟨_, List.mem_append_right _ (List.mem_singleton.2 rfl), rfl, rfl⟩

theorem bistUnit_defers (k n : Nat) : deferReg 6 (bistUnit k n) = some Reg.BUP_BSTAT := by
  have high : ¬bistUnit k n < 3000 := by
    unfold bistUnit
    omega
  change some _ = _
  rw [if_neg (by simp; omega), if_neg (by simp; omega)]

theorem bstat_not_marb (h : Half) : Reg.BUP_BSTAT ≠ Reg.RAS_MARB + 4 * halfIdx h := by
  cases h <;> decide

theorem State.tpass_bistTpass (v : Bool) (s : State) : (k = 0 → ((s.bistTpass k n v).fe n).ctl.tpass = v) ∧
    (k = 1 → ((s.bistTpass k n v).tc n).tpass = v) := by
  constructor
  · rintro rfl
    change ((s.modFe n _).fe n).ctl.tpass = v
    rw [State.fe_modFe]
  · rintro rfl
    change ((s.modTc n _).tc n).tpass = v
    rw [State.modTc, State.tc_setTc]

theorem Only.bistTpass (k n : Nat) (v : Bool) (s : State) : Only 201326592 s (s.bistTpass k n v) :=
  State.bistTpass_only k n v (Inside.refl _) (Only.refl _ s)

/-- What a BIST command that is taken sets. -/
theorem bistStart_runs {t : State}
    (ht : t = ((s.bistRuns k n).bistTpass k n false).maintAsk 6 (bistScope k n) (bistUnit k n)) :
    t.upd = { s.upd with bist := some (k, n) } ∧ bit 31 (t.stw Reg.BUP_BSTAT) = true ∧
      (k = 0 → (t.fe n).ctl.tpass = false) ∧ (k = 1 → (t.tc n).tpass = false) ∧
      (∃ a ∈ t.ras.acts, a.code = 6 ∧ a.unit = bistUnit k n) := by
  have asks := State.maintAsk_only 6 (bistScope k n) (bistUnit k n) (Inside.refl _) (Only.refl _ ((s.bistRuns k n).bistTpass k n false))
  have passes := Only.bistTpass k n false (s.bistRuns k n)
  have status := State.stw_maintAsk (bistScope k n) (bistUnit_defers k n) bstat_not_marb ((s.bistRuns k n).bistTpass k n false)
  obtain ⟨engine, core⟩ := State.tpass_bistTpass (k := k) (n := n) false (s.bistRuns k n)
  have asked := State.asked_maintAsk 6 (bistScope k n) (bistUnit k n) ((s.bistRuns k n).bistTpass k n false)
  rw [← ht] at asks status asked
  refine ⟨?_, ?_, fun first => ?_, fun second => ?_, asked⟩
  · rw [asks.upd rfl, passes.upd rfl]
    rfl
  · rw [bit_of_masked status, passes.stw rfl, State.bistRuns, State.stw_setStw]
    decide
  · rw [asks.fe rfl, engine first]
  · rw [asks.tc rfl, core second]

theorem State.bistReady_fe : s.bistReady 0 n = true ↔ (s.fe n).ctl.st = .fenced := decide_eq_true_iff
theorem State.bistReady_tc : s.bistReady 1 n = true ↔ (s.tc n).st = .fenced := decide_eq_true_iff
theorem State.bistReady_port : s.bistReady 3 n = true ↔ (s.port n).st = .reset := decide_eq_true_iff

theorem State.bistReady_rank : s.bistReady 2 n = true ↔
    nmem n s.dmc.retiredRanks = true ∨ (256 ≤ n ∧ n ∈ s.freeSpares ((n - 256) / 8)) := by
  change (nmem n s.dmc.retiredRanks || (decide (256 ≤ n) && (s.freeSpares ((n - 256) / 8)).contains n)) = true ↔ _
  rw [Bool.or_eq_true, Bool.and_eq_true, decide_eq_true_iff, List.contains_iff_mem]

/-- The activity of a BIST that has ended. -/
def State.bistEnds (k n : Nat) (s : State) : State := (s.modUpd (fun u => { u with bist := none })).maintEnd 6 (bistUnit k n)

/-- The signatures of a BIST that has ended. -/
def State.bistSigs (a e : W32) (s : State) : State := (s.setStw Reg.BUP_BSIG a).setStw Reg.BUP_BEXP e

theorem exec_bistDone {a b : W32} (runs : s.upd.bist = some (k, n)) : exec (.bistDone a b) s =
    if !s.bistReady k n then .next ((s.bistEnds k n).setStw Reg.BUP_BSTAT (at32 0 Status.permission.code))
    else if !s.holdsGrant 6 (bistUnit k n) then .next s
    else .next ((((s.bistEnds k n).bistSigs a (if k = 2 then 0#32 else b)).setStw Reg.BUP_BSTAT
      (at32 30 (b2n (a = if k = 2 then 0#32 else b)))).bistTpass k n (decide (a = if k = 2 then 0#32 else b))) := by
  change execBistDone a b s = _
  unfold execBistDone
  rw [runs]
  rfl

theorem exec_bistDone_none {a b : W32} (rests : s.upd.bist = none) : exec (.bistDone a b) s = .next s := by
  change execBistDone a b s = _
  unfold execBistDone
  rw [rests]

theorem State.upd_bistEnds (k n : Nat) (s : State) : (s.bistEnds k n).upd = { s.upd with bist := none } := by
  rw [State.bistEnds, (State.maintEnd_only 6 (bistUnit k n) (Inside.refl _) (Only.refl _ (s.modUpd (fun u => { u with bist := none })))).upd rfl]
  rfl

theorem State.gone_bistEnds (k n : Nat) (s : State) : ∀ x ∈ (s.bistEnds k n).ras.acts, ¬(x.code = 6 ∧ x.unit = bistUnit k n) := by
  intro x mem is
  have rests := List.any_eq_false.1 (State.noAct_maintEnd 6 (bistUnit k n) (s.modUpd (fun u => { u with bist := none }))) x mem
  simp [is] at rests

theorem State.upd_setStw (off : Nat) (v : W32) (s : State) : (s.setStw off v).upd = s.upd := rfl
theorem State.ras_setStw (off : Nat) (v : W32) (s : State) : (s.setStw off v).ras = s.ras := rfl
theorem State.upd_bistSigs (a e : W32) (s : State) : (s.bistSigs a e).upd = s.upd := rfl
theorem State.ras_bistSigs (a e : W32) (s : State) : (s.bistSigs a e).ras = s.ras := rfl

/-- A BIST whose target left its state. -/
theorem bistDone_left {a b : W32} (runs : s.upd.bist = some (k, n)) (left : s.bistReady k n = false) :
    Yields (.bistDone a b) s (fun t => t.upd = { s.upd with bist := none } ∧ (t.stw Reg.BUP_BSTAT).toNat = Status.permission.code ∧
      ∀ x ∈ t.ras.acts, ¬(x.code = 6 ∧ x.unit = bistUnit k n)) := by
  have next := exec_bistDone (a := a) (b := b) runs
  rw [left] at next
  refine ⟨_, next, ?_, ?_, ?_⟩
  · rw [State.upd_setStw, State.upd_bistEnds]
  · rw [State.stw_setStw]
    decide
  · rw [State.ras_setStw]
    exact s.gone_bistEnds k n

/-- The word that a BIST with equal signatures, or with others, leaves in STATUS. -/
theorem bist_word (p : Bool) : bit 30 (at32 30 (b2n p)) = p ∧ bit 31 (at32 30 (b2n p)) = false ∧
    bits 7 0 (at32 30 (b2n p)) = Status.ok.code := by
  cases p <;> decide

/-- A BIST that ends. -/
theorem bistDone_ends {a b : W32} (runs : s.upd.bist = some (k, n)) (ready : s.bistReady k n = true)
    (granted : s.holdsGrant 6 (bistUnit k n) = true) : Yields (.bistDone a b) s (fun t =>
      t.upd = { s.upd with bist := none } ∧ t.stw Reg.BUP_BSIG = a ∧ t.stw Reg.BUP_BEXP = (if k = 2 then 0#32 else b) ∧
      bit 30 (t.stw Reg.BUP_BSTAT) = decide (a = if k = 2 then 0#32 else b) ∧ bit 31 (t.stw Reg.BUP_BSTAT) = false ∧
      bits 7 0 (t.stw Reg.BUP_BSTAT) = Status.ok.code ∧
      (k = 0 → (t.fe n).ctl.tpass = decide (a = b)) ∧ (k = 1 → (t.tc n).tpass = decide (a = b)) ∧
      ∀ x ∈ t.ras.acts, ¬(x.code = 6 ∧ x.unit = bistUnit k n)) := by
  have next := exec_bistDone (a := a) (b := b) runs
  rw [ready, granted] at next
  generalize expected : (if k = 2 then 0#32 else b) = e at next ⊢
  have passes := Only.bistTpass k n (decide (a = e)) (((s.bistEnds k n).bistSigs a e).setStw Reg.BUP_BSTAT (at32 30 (b2n (a = e))))
  obtain ⟨engine, core⟩ := State.tpass_bistTpass (k := k) (n := n) (decide (a = e))
    (((s.bistEnds k n).bistSigs a e).setStw Reg.BUP_BSTAT (at32 30 (b2n (a = e))))
  obtain ⟨passed, idle, ok⟩ := bist_word (decide (a = e))
  refine ⟨_, next, ?_, ?_, ?_, ?_, ?_, ?_, fun first => ?_, fun second => ?_, ?_⟩
  · rw [passes.upd rfl, State.upd_setStw, State.upd_bistSigs, State.upd_bistEnds]
  · rw [passes.stw rfl, State.stw_setStw_other _ (by decide), State.bistSigs, State.stw_setStw_other _ (by decide), State.stw_setStw]
  · rw [passes.stw rfl, State.stw_setStw_other _ (by decide), State.bistSigs, State.stw_setStw]
  · rw [passes.stw rfl, State.stw_setStw, passed]
  · rw [passes.stw rfl, State.stw_setStw, idle]
  · rw [passes.stw rfl, State.stw_setStw, ok]
  · rw [engine first, ← expected, if_neg (by omega)]
  · rw [core second, ← expected, if_neg (by omega)]
  · rw [passes.ras rfl, State.ras_setStw, State.ras_bistSigs]
    exact s.gone_bistEnds k n

end

/-- Settles O58: the update's checks in their order (updCheck_*), each command's next state, VERIFY of the ROM half by half,
and BIST from its checks to the end of its grant. -/
theorem updatesAndTestsRunInTheirTurn : Obligations.UpdatesAndTestsRunInTheirTurn := by
  unfold Obligations.UpdatesAndTestsRunInTheirTurn
  refine ⟨?refused, ?begins, ?chunks, ?verifies, ?commits, ?writes, ?image, ?bist, ?ready, ?rests, ?ends⟩
  case refused =>
    intro c i s command
    exact ⟨fun conflict => exec_update_refused command (fun _ _ _ => State.updCheck_conflict conflict) (by decide),
      fun alone writes => exec_update_refused command (fun _ _ _ => State.updCheck_committing alone writes) (by decide)⟩
  case begins =>
    intro s alone
    exact ⟨begin_busy alone, begin_badLength alone, begin_starts alone⟩
  case chunks =>
    intro c s alone free
    refine ⟨fun beyond => exec_updateChunk_refused ?_ (by decide), fun inside other => exec_updateChunk_refused ?_ (by decide),
      fun inside loading firmware _ => yields_updateChunk alone inside loading firmware,
      fun inside loading rom _ => yields_updateChunk_rom alone inside loading rom⟩
    · rw [State.updCheck_free alone free, if_neg Bool.false_ne_true, if_pos (decide_eq_true beyond)]
    · rw [State.updCheck_free alone free, if_neg Bool.false_ne_true, if_neg (by simpa using inside), if_pos (decide_eq_true other)]
  case verifies =>
    intro s alone
    refine ⟨fun other => exec_updateVerify_refused ?_ (by decide), fun loading missing => ?_, fun loading complete m hm => ?_⟩
    · have turn : s.upd.st ≠ .committing ∧ s.upd.st ≠ .loading := by
        obtain st | st := other <;> simp [st]
      rw [State.updCheck_free alone turn.1, if_neg Bool.false_ne_true, if_neg Bool.false_ne_true, if_pos (decide_eq_true turn.2)]
    · rw [exec_updateVerify (verify_ok alone loading), if_pos (by simp [missing])]
    · have image : s.verified = m := hm.symm
      refine ⟨fun bad => ?_, fun good firmware => ?_, fun good rom => yields_updateVerify_rom alone loading complete (by rw [image, good]) rom⟩
      · rw [exec_updateVerify (verify_ok alone loading), image, if_neg (by simp [complete]), if_pos bad]
      · rw [exec_updateVerify (verify_ok alone loading), image, if_neg (by simp [complete]), if_neg (not_not_intro good),
          if_neg (by simp [firmware])]
        rfl
  case commits => exact fun s alone => ⟨commit_denied alone, commit_starts alone, abandon_ends alone⟩
  case writes => exact fun s => ⟨exec_updateCommitDone_idle, yields_updateCommitDone⟩
  case image => exact fun m n x s => State.checks_of_imageErr
  case bist =>
    intro b k cnt i s command
    obtain ⟨run, rfl⟩ := exec_bist command s
    rw [run]
    refine ⟨fun conflict => ?_, fun alone busy => ?_, fun alone free beyond => ?_, fun alone free inside other => ?_,
      fun alone free inside ready => ?_⟩
    · rw [State.bistStart_conflict conflict]
    · rw [State.bistStart_alone alone, if_pos busy]
    · rw [State.bistStart_alone alone, if_neg (by simp [free]), if_pos beyond]
    · rw [State.bistStart_alone alone, if_neg (by simp [free]), if_neg (Nat.not_le.2 inside), if_pos (by simp [other])]
    · have start := State.bistStart_alone (k := k) (n := b.toNat) alone
      rw [if_neg (by simp [free]), if_neg (Nat.not_le.2 inside), if_neg (by simp [ready])] at start
      exact ⟨_, run, bistStart_runs start⟩
  case ready => exact fun n s => ⟨State.bistReady_fe, State.bistReady_tc, State.bistReady_rank, State.bistReady_port⟩
  case rests => exact fun a b s => exec_bistDone_none
  case ends =>
    intro k n a b s runs inside
    refine ⟨bistDone_left runs, fun ready parked => ?_, bistDone_ends runs⟩
    rw [exec_bistDone runs, if_neg (by simp [ready]), if_pos (by simp [parked])]

end Sys2Proof.Machine


/-! Power, thermal level, standby and the stewardship (R423, R426, R427, R430, R434 to R436). -/

namespace Sys2Proof.Machine

open Safety

section
variable {s : State}

/-! The governor. -/

/-- The factor, its bound and the power register that a plan sets. -/
def State.planned (f : W32) (limit : Nat) (a b : W16) (s : State) : State :=
  (s.modPwm (fun w => { w with f := f, limit := limit })).setStw Reg.PWM_PWR (at32 16 a.toNat ||| at32 0 b.toNat)

theorem State.planned_only (f : W32) (limit : Nat) (a b : W16) (s : State) : Only 549755813904 s (s.planned f limit a b) :=
  State.setStw_only _ _ ((Inside.refl _).sub rfl) (State.modPwm_only _ ((Inside.refl _).sub rfl) (Only.refl _ s))

theorem State.pwm_alert (n : Nat) (s : State) : (s.alert n).pwm = s.pwm := rfl

/-- What a plan leaves, once the alert of a new bound is raised. -/
def State.plans (f : W32) (limit : Nat) (a b : W16) (s : State) : State :=
  if s.pwm.limit = 0 && limit ≠ 0 then (s.planned f limit a b).alert alCapLim else s.planned f limit a b

theorem State.plans_spec (f : W32) (limit : Nat) (a b : W16) (s : State) :
    (s.plans f limit a b).pwm = { s.pwm with f := f, limit := limit } ∧
      bits 31 16 ((s.plans f limit a b).stw Reg.PWM_PWR) = a.toNat ∧ bits 15 0 ((s.plans f limit a b).stw Reg.PWM_PWR) = b.toNat ∧
      s.plans f limit a b = { s with reg := (s.plans f limit a b).reg, pwm := (s.plans f limit a b).pwm } := by
  have word : (s.plans f limit a b).stw Reg.PWM_PWR = at32 16 a.toNat ||| at32 0 b.toNat := by
    rw [State.plans, apply_ite (State.stw Reg.PWM_PWR), State.stw_alert_other _ (by decide), ite_self, State.planned, State.stw_setStw]
  obtain ⟨low, high⟩ := bits_at32_halves a.isLt b.isLt
  have only : Only 549755813904 s (s.plans f limit a b) :=
    .ite (State.alert_only _ ((Inside.refl _).sub rfl) (s.planned_only f limit a b)) (s.planned_only f limit a b)
  have pwm : (s.plans f limit a b).pwm = (s.planned f limit a b).pwm := by
    rw [State.plans, apply_ite State.pwm, State.pwm_alert, ite_self]
  exact ⟨pwm, by rw [word, high], by rw [word, low], only.eq⟩

/-- The bound that LIMIT names. -/
def State.planLimit (f : W32) (s : State) : Nat := if f = fOne then 0 else if s.stwF Reg.PWM_CAP 6 0 ≤ s.pwm.thermCap then 1 else 2

/-- The rate factor of a plan. -/
def State.planFactor (a : W16) (s : State) : W32 := govern s.pwm.f (fpOf (5 * min (s.stwF Reg.PWM_CAP 6 0) s.pwm.thermCap))
  (fpDiv (fpOf a.toNat) (fpOf 10)) (if s.pwm.level = 3 then fMin else fOne)

theorem exec_governorPlan (a b : W16) (s : State) :
    exec (.governorPlan a b) s = .next (s.plans (s.planFactor a) (s.planLimit (s.planFactor a)) a b) := rfl

theorem fpLt_fMin : fpLt fMin fMin = false := by
  decide

theorem fpLt_govern {f c p u : W32} (bound : fpLt u fMin = false) : fpLt (govern f c p u) fMin = false := by
  unfold govern
  dsimp only
  split
  · exact fpLt_fMin
  next above =>
    split
    · exact bound
    · exact Bool.eq_false_iff.2 above

/-! The sensors. -/

/-- The word of a sensor's reading. -/
def tempWord (x : Int) : W32 := 0x80000000#32 ||| (BitVec.ofInt 16 x).setWidth 32

/-- The readings stored in the registers. -/
def State.tempsRead (t : List Int) (s : State) : State := forAll t.zipIdx (fun e s => s.setStw (Reg.PWM_TEMP + 4 * e.2) (tempWord e.1)) s

theorem State.tempsRead_only (t : List Int) (s : State) : Only 16 s (s.tempsRead t) :=
  forAll_keeps (P := fun u : State => Only 16 s u) _ (fun _ _ _ h => State.setStw_only _ _ (Inside.refl _) h) (Only.refl _ s)

theorem State.stw_tempsRead_other {t : List Int} (short : t.length ≤ 40) {off : Nat} (other : ∀ n < 40, off ≠ Reg.PWM_TEMP + 4 * n) (s : State) :
    (s.tempsRead t).stw off = s.stw off := by
  refine forAll_keeps (P := fun u : State => u.stw off = s.stw off) _ (fun e mem u h => ?_) rfl
  obtain ⟨-, inside, -⟩ := List.mem_zipIdx mem
  rw [State.stw_setStw_other _ (other e.2 (by omega)), h]

theorem State.stw_tempsRead {t : List Int} {n : Nat} {x : Int} (reads : t[n]? = some x) (s : State) :
    (s.tempsRead t).stw (Reg.PWM_TEMP + 4 * n) = tempWord x := by
  refine forAll_reaches (P := fun u : State => u.stw (Reg.PWM_TEMP + 4 * n) = tempWord x) (a := (x, n))
    (List.mem_zipIdx_iff_getElem?.2 reads) (fun u => State.stw_setStw _ _) (fun e mem u h => ?_) s
  have reads' : t[e.2]? = some e.1 := List.mem_zipIdx_iff_getElem?.1 mem
  by_cases same : e.2 = n
  · rw [same] at reads' ⊢
    obtain rfl : e.1 = x := Option.some.inj (reads'.symm.trans reads)
    rw [State.stw_setStw]
  · rw [State.stw_setStw_other _ (by omega), h]

theorem sensorKind_lt (n : Nat) : sensorKind n < 4 := by
  unfold sensorKind
  split_ifs <;> decide

theorem tlim_not_temp {k m : Nat} (kind : k < 4) : Reg.PWM_TLIM + 4 * k ≠ Reg.PWM_TEMP + 4 * m := by
  change 0xF0030 + 4 * k ≠ 0xF0100 + 4 * m
  omega

theorem temp_not_alert (m : Nat) : Reg.PWM_TEMP + 4 * m ≠ Reg.PWM_ALERT := by
  change 0xF0100 + 4 * m ≠ 0xF0014
  omega

theorem State.tlim_tempsRead {t : List Int} (short : t.length ≤ 40) (n level : Nat) (s : State) :
    (s.tempsRead t).tlim (sensorKind n) level = s.tlim (sensorKind n) level := by
  have kind := sensorKind_lt n
  rw [State.tlim, State.tlim, State.stwF, State.stwF, State.stw_tempsRead_other short (fun m _ => tlim_not_temp kind)]

theorem State.reached_tempsRead {t : List Int} (short : t.length ≤ 40) (l : List Int) (level : Nat) (s : State) :
    (s.tempsRead t).reached l level = s.reached l level := by
  simp only [State.reached, State.tlim_tempsRead short]

theorem State.cooled_tempsRead {t : List Int} (short : t.length ≤ 40) (l : List Int) (level : Nat) (s : State) :
    (s.tempsRead t).cooled l level = s.cooled l level := by
  simp only [State.cooled, State.tlim_tempsRead short]

/-- The level that a sample gives. -/
def newLevel (old k1 k2 k3 : Nat) (r1 r2 r3 : Bool) : Nat :=
  if held old 3 k3 r3 then 3 else if held old 2 k2 r2 then 2 else if held old 1 k1 r1 then 1 else 0

theorem held_iff {old level cool : Nat} {r : Bool} : held old level cool r = true ↔ r = true ∨ (level ≤ old ∧ cool < 100) := by
  rw [held, Bool.or_eq_true, Bool.and_eq_true, decide_eq_true_iff, decide_eq_true_iff]
  rfl

/-- The counts of cooled samples, the level and the cap that a sample sets. -/
def Pwm.cooling (k1 k2 k3 : Nat) (w : Pwm) : Pwm := { w with cool1 := k1, cool2 := k2, cool3 := k3 }
def Pwm.atLevel (n : Nat) (w : Pwm) : Pwm := { w with level := n, thermCap := if n = 2 then 50 else w.thermCap }

/-- A new level, told on THERM_N, in ALERT and to the FM. -/
def State.leveled (n : Nat) (s : State) : State :=
  State.tempRec n (State.alert alTherm
    { s.modPwm (Pwm.atLevel n) with pins := { s.pins with thermN := s.pins.trip || decide (2 ≤ n) } })

/-- A sample's counts and, where it is new, its level. -/
def State.cooledTo (k1 k2 k3 n : Nat) (s : State) : State :=
  if n = s.pwm.level then s.modPwm (Pwm.cooling k1 k2 k3) else (s.modPwm (Pwm.cooling k1 k2 k3)).leveled n

/-- One count of cooled samples. -/
def coolCount (cooled : Bool) (c : Nat) : Nat := if cooled then min coolSamples (c + 1) else 0

theorem State.reached_modPwm (l : List Int) (level : Nat) (f : Pwm → Pwm) (s : State) : (s.modPwm f).reached l level = s.reached l level := rfl

theorem State.pwm_modPwm (f : Pwm → Pwm) (s : State) : (s.modPwm f).pwm = f s.pwm := rfl

theorem exec_sensorSample_tempsRead {l : List Int} {u : State} (hu : u = s.tempsRead (l.take 40)) {k1 k2 k3 : Nat}
    (h1 : k1 = coolCount (u.cooled (l.take 40) 1) u.pwm.cool1) (h2 : k2 = coolCount (u.cooled (l.take 40) 2) u.pwm.cool2)
    (h3 : k3 = coolCount (u.cooled (l.take 40) 3) u.pwm.cool3) : exec (.sensorSample l) s =
      .next (u.cooledTo k1 k2 k3 (newLevel u.pwm.level k1 k2 k3 (u.reached (l.take 40) 1) (u.reached (l.take 40) 2) (u.reached (l.take 40) 3))) := by
  have reads : forAll (l.take 40).zipIdx (fun e s => s.setStw (Reg.PWM_TEMP + 4 * e.2)
      (0x80000000#32 ||| (BitVec.ofInt 16 e.1).setWidth 32)) s = u := hu.symm
  change execSensorSample l s = _
  unfold execSensorSample
  dsimp only
  rw [reads]
  simp only [State.reached_modPwm, State.pwm_modPwm]
  subst h1 h2 h3
  unfold State.cooledTo newLevel coolCount
  rw [apply_ite Host.Outcome.next]
  rfl

theorem exec_sensorSample {l : List Int} {k1 k2 k3 : Nat} (h1 : k1 = coolCount (s.cooled (l.take 40) 1) s.pwm.cool1)
    (h2 : k2 = coolCount (s.cooled (l.take 40) 2) s.pwm.cool2) (h3 : k3 = coolCount (s.cooled (l.take 40) 3) s.pwm.cool3) :
    exec (.sensorSample l) s = .next ((s.tempsRead (l.take 40)).cooledTo k1 k2 k3
      (newLevel s.pwm.level k1 k2 k3 (s.reached (l.take 40) 1) (s.reached (l.take 40) 2) (s.reached (l.take 40) 3))) := by
  have short : (l.take 40).length ≤ 40 := List.length_take_le 40 l
  have pwm := (s.tempsRead_only (l.take 40)).pwm rfl
  have run := exec_sensorSample_tempsRead (s := s) (l := l) rfl (k1 := k1) (k2 := k2) (k3 := k3)
    (by rw [State.cooled_tempsRead short, pwm, h1]) (by rw [State.cooled_tempsRead short, pwm, h2]) (by rw [State.cooled_tempsRead short, pwm, h3])
  rw [pwm, State.reached_tempsRead short, State.reached_tempsRead short, State.reached_tempsRead short] at run
  exact run

/-- What the counts and the level of a sample change. -/
theorem State.cooledTo_spec (k1 k2 k3 n : Nat) (s : State) :
    (s.cooledTo k1 k2 k3 n).pwm = { s.pwm with cool1 := k1, cool2 := k2, cool3 := k3, level := n,
                                               thermCap := if n = 2 ∧ s.pwm.level ≠ 2 then 50 else s.pwm.thermCap } ∧
      (n ≠ s.pwm.level → (s.cooledTo k1 k2 k3 n).pins = { s.pins with thermN := s.pins.trip || decide (2 ≤ n) }) ∧
      (n = s.pwm.level → s.cooledTo k1 k2 k3 n = s.modPwm (Pwm.cooling k1 k2 k3)) ∧
      (∀ off, off ≠ Reg.PWM_ALERT → (s.cooledTo k1 k2 k3 n).stw off = s.stw off) := by
  by_cases same : n = s.pwm.level
  · have rests : s.cooledTo k1 k2 k3 n = s.modPwm (Pwm.cooling k1 k2 k3) := if_pos same
    rw [rests]
    refine ⟨?_, fun new => absurd same new, fun _ => rfl, fun _ _ => rfl⟩
    rw [if_neg (fun h : n = 2 ∧ s.pwm.level ≠ 2 => h.2 (same.symm.trans h.1)), same]
    rfl
  · have told : s.cooledTo k1 k2 k3 n = (s.modPwm (Pwm.cooling k1 k2 k3)).leveled n := if_neg same
    rw [told, State.leveled]
    generalize hu : State.alert alTherm _ = u
    have only := State.tempRec_only n (Inside.refl _) (Only.refl _ u)
    refine ⟨?_, fun _ => ?_, fun old => absurd old same, fun off other => ?_⟩
    · rw [only.pwm rfl, ← hu]
      by_cases two : n = 2
      · rw [if_pos ⟨two, fun old => same (two.trans old.symm)⟩]
        subst two
        rfl
      · rw [if_neg (fun h => two h.1)]
        change Pwm.atLevel n (Pwm.cooling k1 k2 k3 s.pwm) = _
        rw [Pwm.atLevel, if_neg two]
        rfl
    · rw [only.pins rfl, ← hu]
      rfl
    · rw [only.stw rfl, ← hu, State.stw_alert_other _ other]
      rfl

theorem newLevel_eq (old k1 k2 k3 : Nat) (r1 r2 r3 : Bool) : newLevel old k1 k2 k3 r1 r2 r3 =
    if r3 = true ∨ (3 ≤ old ∧ k3 < 100) then 3 else if r2 = true ∨ (2 ≤ old ∧ k2 < 100) then 2
    else if r1 = true ∨ (1 ≤ old ∧ k1 < 100) then 1 else 0 := by
  simp only [newLevel, held_iff]

theorem exec_thermalCapStep : exec .thermalCapStep s = .next (s.modPwm (fun w =>
    if w.level = 1 then { w with thermCap := max 50 (w.thermCap - 1) }
    else if w.level = 0 then { w with thermCap := min 90 (w.thermCap + 1) } else w)) := rfl

/-! Standby. -/

/-- The ports that are up, in L1. -/
def State.portsAsleep (s : State) : State :=
  { s with ports := s.ports.map (fun (e : Nat × Port) => (e.1, if decide (e.2.st = PortSt.up) then { e.2 with inL1 := true } else e.2)) }

/-- The entry to standby, before its scrubs park and its banks fallow. -/
def State.standing (s : State) : State := (s.portsAsleep.modPwm (fun w => { w with standby := true })).cntStw Reg.PWM_SBY 29 16 1

/-- A bank that saves power in standby. -/
def State.idleFallow (b : Nat) (s : State) : State := if (s.bank b).kind = .free || (s.bank b).kind = .stage then s.toFallow b else s

theorem exec_standbyEnter (rests : s.pwm.standby = false) (enabled : bit 31 (s.stw Reg.PWM_SBY) = true) (idle : s.busyNow = false) :
    exec .standbyEnter s = .next (forAll (List.range 512) State.idleFallow s.standing.parkIdle) := by
  have go : ¬(s.pwm.standby || !bit 31 (s.stw Reg.PWM_SBY) || s.busyNow) = true := by
    simp [rests, enabled, idle]
  exact if_neg go

theorem exec_standbyEnter_not (not_ : s.pwm.standby = true ∨ bit 31 (s.stw Reg.PWM_SBY) = false ∨ s.busyNow = true) :
    exec .standbyEnter s = .next s := by
  have stay : (s.pwm.standby || !bit 31 (s.stw Reg.PWM_SBY) || s.busyNow) = true := by
    simpa [or_assoc] using not_
  exact if_pos stay

theorem tget_mapVal {α : Type} {d : α} {f : α → α} (default_ : f d = d) (k : Nat) (m : Tab α) :
    tget d k (m.map (fun e => (e.1, f e.2))) = f (tget d k m) := by
  induction m with
  | nil => exact default_.symm
  | cons e r ih =>
    rw [List.map_cons, tget, tget, ih]
    split <;> rfl

/-- A port in standby. -/
def Port.asleep (x : Port) : Port := if decide (x.st = PortSt.up) then { x with inL1 := true } else x

theorem State.port_portsAsleep (p : Nat) (s : State) : s.portsAsleep.port p = (s.port p).asleep := tget_mapVal (f := Port.asleep) rfl p s.ports

/-- A bank in standby. -/
def Bank.standsBy (k : Bank) : Bank :=
  if k.kind = .free || k.kind = .stage then (if k.ps = .on || k.ps = .retention then { k with ps := .fallow } else k) else k

theorem State.bank_toFallow (b : Nat) (s : State) : (s.toFallow b).bank b =
    if (s.bank b).ps = .on || (s.bank b).ps = .retention then { s.bank b with ps := .fallow } else s.bank b := by
  unfold State.toFallow
  rw [apply_ite (State.bank b), State.bank_modWaking b (ndel b), State.bank_modBank, State.bank_zeroBank, State.bank_dropBank]

theorem State.bank_toFallow_other {b c : Nat} (other : c ≠ b) (s : State) : (s.toFallow b).bank c = s.bank c := by
  unfold State.toFallow
  rw [apply_ite (State.bank c), State.bank_modWaking c (ndel b), State.bank_modBank_other _ other, State.bank_zeroBank, State.bank_dropBank,
    ite_self]

theorem State.bank_idleFallow (b : Nat) (s : State) : (s.idleFallow b).bank b = (s.bank b).standsBy := by
  rw [State.idleFallow, apply_ite (State.bank b), State.bank_toFallow, Bank.standsBy]

theorem State.bank_idleFallow_other {b c : Nat} (other : c ≠ b) (s : State) : (s.idleFallow b).bank c = s.bank c := by
  rw [State.idleFallow, apply_ite (State.bank c), State.bank_toFallow_other other, ite_self]

theorem State.idleFallow_only (l : List Nat) (s : State) : Only 34426847232 s (forAll l State.idleFallow s) :=
  forAll_keeps (P := fun u : State => Only 34426847232 s u) l
    (fun b _ _ h => .ite (State.toFallow_only b (Inside.refl _) h) h) (Only.refl _ s)

/-- A scrub or march run that holds a grant parks. -/
def State.parkOne (a : Activity) (s : State) : State :=
  ((s.modAct a.id (fun a => { a with granted := false, parking := false })).countPark a.scope).setDefer a.code a.unit Status.deferred.code

/-- A granted scrub or march run. -/
def Activity.idles (a : Activity) : Bool := a.granted && (a.code = 1 || a.code = 5)

theorem State.acts_parkOne (a : Activity) (s : State) :
    (s.parkOne a).ras.acts = mapIf (fun x => decide (x.id = a.id)) (fun a => { a with granted := false, parking := false }) s.ras.acts := by
  rw [State.parkOne, State.acts_setDefer]
  rfl

/-- What of the scrubs and march runs is granted still has its turn to park. -/
theorem idles_parkOnes (l : List Activity) : ∀ s : State, (∀ x ∈ s.ras.acts, x.idles = true → ∃ a ∈ l, a.id = x.id) →
    ∀ x ∈ (forAll l State.parkOne s).ras.acts, x.idles = false := by
  induction l with
  | nil =>
    intro s left x mem
    by_contra idles
    obtain ⟨a, absurd_, -⟩ := left x mem (by simpa using idles)
    cases absurd_
  | cons a r ih =>
    intro s left
    rw [forAll_cons]
    refine ih _ (fun x mem idles => ?_)
    rw [State.acts_parkOne] at mem
    obtain ⟨y, there, rfl⟩ := List.mem_map.1 mem
    by_cases same : y.id = a.id
    · rw [if_pos (decide_eq_true same)] at idles
      cases idles
    · rw [if_neg (by simpa using same)] at idles ⊢
      obtain ⟨b, listed, id⟩ := left y there idles
      obtain rfl | later := List.mem_cons.1 listed
      · exact absurd id.symm same
      · exact ⟨b, later, id⟩

theorem State.parkIdle_eq (s : State) : s.parkIdle = forAll (s.ras.acts.filter Activity.idles) State.parkOne s := rfl

theorem State.idles_parkIdle {x : Activity} (mem : x ∈ s.parkIdle.ras.acts) : x.idles = false := by
  rw [State.parkIdle_eq] at mem
  exact idles_parkOnes _ s (fun y there idles => ⟨y, List.mem_filter.2 ⟨there, idles⟩, rfl⟩) x mem

/-- What standby sets: its flag, the ports, the banks, and the scrubs and march runs. -/
theorem standing_spec {t : State} (ht : t = forAll (List.range 512) State.idleFallow s.standing.parkIdle) :
    t.pwm = { s.pwm with standby := true } ∧ (∀ p, t.port p = (s.port p).asleep) ∧
      (∀ b, b < 512 → t.bank b = (s.bank b).standsBy) ∧ (∀ a ∈ t.ras.acts, a.idles = false) := by
  have parks := State.parkIdle_only (Inside.refl _) (Only.refl _ s.standing)
  have fallows := s.standing.parkIdle.idleFallow_only (List.range 512)
  rw [← ht] at fallows
  refine ⟨?_, fun p => ?_, fun b inside => ?_, fun a mem => ?_⟩
  · rw [fallows.pwm rfl, parks.pwm rfl]
    rfl
  · rw [fallows.port rfl, parks.port rfl]
    exact s.port_portsAsleep p
  · have same : s.standing.parkIdle.bank b = s.bank b :=
      State.bank_of_banks (congrArg Cst.banks ((parks.cst rfl).trans (rfl : s.standing.cst = s.cst))) b
    rw [ht, State.bank_forAll (f := fun _ => Bank.standsBy) State.bank_idleFallow (fun b c u other => u.bank_idleFallow_other other)
      List.nodup_range b, if_pos (List.mem_range.2 inside), same]
  · rw [fallows.ras rfl] at mem
    exact State.idles_parkIdle mem

/-- The wake of standby, before its channels and its maintenance go on. -/
def State.woken (cause : Option PortId) (s : State) : State :=
  match cause with
  | some p => (s.modPwm (fun w => { w with standby := false })).modPort p.toNat (fun x => { x with inL1 := false })
  | none => s.modPwm (fun w => { w with standby := false })

/-- The channels and the scrubs and march runs that go on after standby. -/
def State.resumeIdle (s : State) : State :=
  forAll (s.ras.acts.filter (fun a : Activity => a.code = 1 || a.code = 5)) (fun a s => s.resume a.id) s

def State.takePauses (s : State) : State := forAll (List.range chanCount) (fun c s => s.takePause c) s

theorem exec_standbyExit {cause : Option PortId} (stands : s.pwm.standby = true) :
    exec (.standbyExit cause) s = .next (s.woken cause).takePauses.resumeIdle := by
  change execStandbyExit cause s = _
  unfold execStandbyExit
  rw [if_neg (by simp [stands])]
  unfold State.resumeIdle State.takePauses State.woken
  cases cause with
  | none => dsimp only
  | some p => dsimp only

theorem exec_standbyExit_not {cause : Option PortId} (rests : s.pwm.standby = false) : exec (.standbyExit cause) s = .next s := by
  have stay : (!s.pwm.standby) = true := by
    simp [rests]
  exact if_pos stay

theorem State.resumeAll_only (s : State) : Only 85899345936 s s.takePauses.resumeIdle := by
  have pauses : Only 85899345936 s s.takePauses :=
    forAll_keeps (P := fun u : State => Only 85899345936 s u) _ (fun c _ u h => State.takePause_only c (Inside.refl _) h) (Only.refl _ s)
  exact forAll_keeps (P := fun u : State => Only 85899345936 s u) _ (fun a _ u h => State.resume_only a.id ((Inside.refl _).sub rfl) h) pauses

theorem State.woken_frame (cause : Option PortId) (s : State) :
    s.woken cause = { s with pwm := { s.pwm with standby := false }, ports := (s.woken cause).ports } := by
  cases cause <;> rfl

theorem State.port_woken (i : PortId) (s : State) : (s.woken (some i)).port i.toNat = { s.port i.toNat with inL1 := false } :=
  State.port_modPort i.toNat _ _

theorem State.port_woken_other {cause : Option PortId} {q : Nat} (other : ∀ i, cause = some i → q ≠ i.toNat) (s : State) :
    (s.woken cause).port q = s.port q := by
  cases cause with
  | none => rfl
  | some i => exact State.port_modPort_other _ (other i rfl)

/-! The roles of the halves. -/

theorem State.half_setRole (h : Half) (r : Steward) (s : State) : (s.setRole h r).half h = { s.half h with role := r } := State.half_modHalf h _ s

theorem State.half_setRole_other (h : Half) (r : Steward) (s : State) : (s.setRole h r).half (halfOther h) = s.half (halfOther h) :=
  State.half_modHalf_other h _ s

theorem State.stw_setRole (h : Half) (r : Steward) (off : Nat) (s : State) : (s.setRole h r).stw off = s.stw off := by
  cases h <;> rfl

theorem Only.setRole (h : Half) (r : Steward) (s : State) : Only 96 s (s.setRole h r) := State.setRole_only h r (Inside.refl _) (Only.refl _ s)

theorem Only.stewRec (ev aux : Nat) (s : State) : Only 2267743258128 s (s.stewRec ev aux) :=
  State.stewRec_only ev aux (Inside.refl _) (Only.refl _ s)

theorem exec_watchdogExpire (h : Half) (s : State) : exec (.watchdogExpire h) s =
    .next (if (s.half h).role = .steward then ((s.setRole h .restarting).abandonFw).stewRec 6 0 else s) := rfl

/-- An update that its steward gives up unless it is committing. -/
def Upd.abandoned (u : Upd) : Upd := if u.st = .loading || u.st = .verified then u.ended else u

theorem yields_watchdogExpire {h : Half} (steward : (s.half h).role = .steward) : Yields (.watchdogExpire h) s (fun t =>
    t.half h = { s.half h with role := .restarting } ∧ t.half (halfOther h) = s.half (halfOther h) ∧ t.sec = { s.sec with sessions := [] } ∧
      t.upd = s.upd.abandoned) := by
  have next := exec_watchdogExpire h s
  rw [if_pos steward] at next
  have told := Only.stewRec 6 0 (s.setRole h .restarting).abandonFw
  have gives (k : Half) : (s.setRole h .restarting).abandonFw.half k = (s.setRole h .restarting).half k := by
    cases k <;> rfl
  have role := Only.setRole h .restarting s
  have upd : (s.setRole h .restarting).abandonFw.upd = (s.setRole h .restarting).upd.abandoned := rfl
  have sec : (s.setRole h .restarting).abandonFw.sec = { (s.setRole h .restarting).sec with sessions := [] } := rfl
  refine ⟨_, next, ?_, ?_, ?_, ?_⟩
  · rw [told.half rfl rfl, gives, State.half_setRole]
  · rw [told.half rfl rfl, gives, State.half_setRole_other]
  · rw [told.sec rfl, sec, role.sec rfl]
  · rw [told.upd rfl, upd, role.upd rfl]

theorem exec_tokenReceived (h : Half) (s : State) : exec (.tokenReceived h) s =
    .next (if (s.half h).role = .deputy && (s.half (halfOther h)).role ≠ .steward then
      ((((s.setRole h .steward).cntStw Reg.PWM_MSTAT 15 0 1).alert alHandover).stewRec (stewEv h) 0) else s) := rfl

theorem yields_tokenReceived {h : Half} (deputy : (s.half h).role = .deputy) (alone : (s.half (halfOther h)).role ≠ .steward) :
    Yields (.tokenReceived h) s (fun t => t.half h = { s.half h with role := .steward } ∧ t.half (halfOther h) = s.half (halfOther h) ∧
      bits 15 0 (t.stw Reg.PWM_MSTAT) = min 0xFFFF (bits 15 0 (s.stw Reg.PWM_MSTAT) + 1)) := by
  have next := exec_tokenReceived h s
  rw [if_pos (by simp [deputy, alone])] at next
  have told : Only 2267743258128 (s.setRole h .steward) (((s.setRole h .steward).cntStw Reg.PWM_MSTAT 15 0 1).alert alHandover |>.stewRec (stewEv h) 0) :=
    State.stewRec_only _ _ (Inside.refl _) (State.alert_only _ ((Inside.refl _).sub rfl) (State.cntStw_only _ _ _ _ ((Inside.refl _).sub rfl) (Only.refl _ _)))
  refine ⟨_, next, ?_, ?_, ?_⟩
  · rw [told.half rfl rfl, State.half_setRole]
  · rw [told.half rfl rfl, State.half_setRole_other]
  · rw [State.stewRec, State.stw_logRec_other _ (by decide), State.stw_alert_other _ (by decide), State.cntStw, State.stw_modStw, State.stw_setRole,
      satField, bits_setBits _ _ (by decide) (by omega)]
    rfl

theorem exec_tokenLinkTimeout (h : Half) (s : State) : exec (.tokenLinkTimeout h) s =
    if (s.half h).role ≠ .deputy then .next s
    else .next (if ((s.setRole h .steward).half (halfOther h)).role = .steward then
        (({ s.setRole h .steward with bridge := { (s.setRole h .steward).bridge with conflict := true } } : State).alert alConflict).stewRec 2 0
      else (s.setRole h .steward).stewRec (stewEv h) 0) := rfl

theorem yields_tokenLinkTimeout {h : Half} (deputy : (s.half h).role = .deputy) : Yields (.tokenLinkTimeout h) s (fun t =>
    t.half h = { s.half h with role := .steward } ∧ t.half (halfOther h) = s.half (halfOther h) ∧
      ((s.half (halfOther h)).role = .steward → t.conflict = true) ∧ ((s.half (halfOther h)).role ≠ .steward → t.bridge = s.bridge)) := by
  have next := exec_tokenLinkTimeout h s
  rw [if_neg (not_not_intro deputy), State.half_setRole_other] at next
  have role := Only.setRole h .steward s
  have mine := s.half_setRole h .steward
  have others := s.half_setRole_other h .steward
  generalize s.setRole h .steward = u at next role mine others
  by_cases two : (s.half (halfOther h)).role = .steward
  · rw [if_pos two] at next
    generalize hv : ({ u with bridge := { u.bridge with conflict := true } } : State) = v at next
    have same (k : Half) : v.half k = u.half k := by
      rw [← hv]
      cases k <;> rfl
    have told : Only 2267743258128 v ((v.alert alConflict).stewRec 2 0) :=
      State.stewRec_only _ _ (Inside.refl _) (State.alert_only _ ((Inside.refl _).sub rfl) (Only.refl _ v))
    refine ⟨_, next, ?_, ?_, fun _ => ?_, fun one => absurd two one⟩
    · rw [told.half rfl rfl, same, mine]
    · rw [told.half rfl rfl, same, others]
    · rw [State.conflict, told.bridge rfl, ← hv]
  · rw [if_neg two] at next
    have told := Only.stewRec (stewEv h) 0 u
    refine ⟨_, next, ?_, ?_, fun both => absurd both two, fun _ => ?_⟩
    · rw [told.half rfl rfl, mine]
    · rw [told.half rfl rfl, others]
    · rw [told.bridge rfl, role.bridge rfl]

theorem exec_tokenLinkReturn (s : State) : exec .tokenLinkReturn s = .next (if s.north.role = .steward && s.south.role = .steward then
    s.setRole (if !s.coreRuns s.defaultHalf && s.coreRuns (halfOther s.defaultHalf) then s.defaultHalf else halfOther s.defaultHalf) .restarting
    else s) := rfl

theorem exec_coreRestartDone (h : Half) (s : State) : exec (.coreRestartDone h) s =
    if (s.half h).role ≠ .restarting then .next s
    else .next (if (s.setRole h .deputy).bridge.conflict then
        (({ s.setRole h .deputy with bridge := { (s.setRole h .deputy).bridge with conflict := false } } : State).alert alConflict).stewRec 3 0
      else s.setRole h .deputy) := rfl

theorem yields_coreRestartDone {h : Half} (restarts : (s.half h).role = .restarting) : Yields (.coreRestartDone h) s (fun t =>
    t.half h = { s.half h with role := .deputy } ∧ t.conflict = false ∧ t.half (halfOther h) = s.half (halfOther h) ∧
      (s.conflict = false → t = s.setHalf h (t.half h))) := by
  have next := exec_coreRestartDone h s
  rw [if_neg (not_not_intro restarts), (Only.setRole h .deputy s).bridge rfl] at next
  have mine := s.half_setRole h .deputy
  have others := s.half_setRole_other h .deputy
  by_cases conflict : s.bridge.conflict = true
  · rw [if_pos conflict] at next
    generalize s.setRole h .deputy = u at next mine others
    generalize hv : ({ u with bridge := { s.bridge with conflict := false } } : State) = v at next
    have same (k : Half) : v.half k = u.half k := by
      rw [← hv]
      cases k <;> rfl
    have told : Only 2267743258128 v ((v.alert alConflict).stewRec 3 0) :=
      State.stewRec_only _ _ (Inside.refl _) (State.alert_only _ ((Inside.refl _).sub rfl) (Only.refl _ v))
    refine ⟨_, next, ?_, ?_, ?_, fun alone => absurd conflict (by rw [← State.conflict, alone]; exact Bool.false_ne_true)⟩
    · rw [told.half rfl rfl, same, mine]
    · rw [State.conflict, told.bridge rfl, ← hv]
    · rw [told.half rfl rfl, same, others]
  · rw [if_neg conflict] at next
    refine ⟨_, next, mine, ?_, others, fun _ => ?_⟩
    · rw [State.conflict, (Only.setRole h .deputy s).bridge rfl]
      exact Bool.eq_false_iff.2 conflict
    · rw [mine]
      rfl

end

/-- Settles O59: each event's next state; a sample through the registers it stores and the level newLevel gives, standby
through its ports, banks and parked activities, the stewardship through setRole. -/
theorem powerAndStewardshipFollowEvents : Obligations.PowerAndStewardshipFollowEvents := by
  unfold Obligations.PowerAndStewardshipFollowEvents
  refine ⟨?plan, ?bound, ?sample, ?cap, ?enters, ?stays, ?exits, ?watchdog, ?token, ?timeout, ?returns, ?restarted⟩
  case plan =>
    intro a b s
    obtain ⟨pwm, high, low, frame⟩ := s.plans_spec (s.planFactor a) (s.planLimit (s.planFactor a)) a b
    have factor : (s.plans (s.planFactor a) (s.planLimit (s.planFactor a)) a b).pwm.f = s.planFactor a := by
      rw [pwm]
    refine ⟨_, exec_governorPlan a b s, factor, high, low, ?_, frame⟩
    rw [factor, pwm]
    rfl
  case bound => exact fun f c p u => fpLt_govern
  case sample =>
    intro l k1 k2 k3 s h1 h2 h3
    have next := exec_sensorSample (s := s) (l := l) h1 h2 h3
    rw [newLevel_eq] at next
    have only := s.tempsRead_only (l.take 40)
    generalize level : (if s.reached (l.take 40) 3 = true ∨ (3 ≤ s.pwm.level ∧ k3 < 100) then 3 else _) = n at next
    obtain ⟨pwm, pins, rests, stw⟩ := (s.tempsRead (l.take 40)).cooledTo_spec k1 k2 k3 n
    rw [only.pwm rfl] at pwm pins rests
    rw [only.pins rfl] at pins
    have lv : ((s.tempsRead (l.take 40)).cooledTo k1 k2 k3 n).pwm.level = n := by
      rw [pwm]
    refine ⟨_, next, ?_, ?_, fun new => ?_, fun old => ?_, fun m x reads => ?_⟩
    · rw [lv]
    · rw [lv, pwm]
    · rw [lv] at new ⊢
      exact pins new
    · rw [lv] at old
      rw [rests old]
      have frame : s.tempsRead (l.take 40) = { s with reg := (s.tempsRead (l.take 40)).reg } := only.eq
      rw [frame]
      rfl
    · rw [stw _ (temp_not_alert m), State.stw_tempsRead reads]
      rfl
  case cap =>
    intro s
    rw [exec_thermalCapStep, State.modPwm]
    refine ⟨fun one => ?_, fun zero => ?_, fun hot => ?_⟩
    · rw [if_pos one]
      rfl
    · rw [if_neg (by omega), if_pos zero]
      rfl
    · rw [if_neg (by omega), if_neg (by omega)]
  case enters =>
    intro s rests enabled idle
    obtain ⟨pwm, port, bank, acts⟩ := standing_spec (s := s) rfl
    refine ⟨_, exec_standbyEnter rests enabled idle, pwm, fun p up => ?_, fun p down => ?_, fun b inside kind on => ?_,
      fun b inside job => ?_, fun a mem granted => ?_⟩
    · rw [port, Port.asleep, if_pos (decide_eq_true up)]
    · rw [port, Port.asleep, if_neg (by simpa using down)]
    · rw [bank b inside, Bank.standsBy, if_pos (by simpa using kind), if_pos (by simp [on])]
    · rw [bank b inside, Bank.standsBy, if_neg (by simp [job])]
    · have parked := acts a mem
      rw [Activity.idles, granted, Bool.true_and, Bool.or_eq_false_iff] at parked
      exact ⟨of_decide_eq_false parked.1, of_decide_eq_false parked.2⟩
  case stays => exact fun s => exec_standbyEnter_not
  case exits =>
    intro p s
    refine ⟨exec_standbyExit_not, fun stands => ?_⟩
    have only := (s.woken p).resumeAll_only
    have frame := s.woken_frame p
    have pwm : (s.woken p).pwm = { s.pwm with standby := false } := congrArg State.pwm frame
    refine ⟨_, exec_standbyExit stands, ?_, fun i is => ?_, fun q other => ?_, ?_⟩
    · rw [only.pwm rfl, pwm]
    · rw [only.port rfl, is, State.port_woken]
    · rw [only.port rfl, State.port_woken_other other]
    · have eq := only.eq
      generalize (s.woken p).takePauses.resumeIdle = t at eq ⊢
      rw [frame] at eq
      rw [eq]
      rfl
  case watchdog =>
    intro h s
    refine ⟨fun other => ?_, fun steward => ?_⟩
    · rw [exec_watchdogExpire, if_neg other]
    · obtain ⟨t, next, mine, others, sec, upd⟩ := yields_watchdogExpire steward
      refine ⟨t, next, mine, others, sec, fun runs => ?_, fun rests => ?_⟩
      · rw [upd, Upd.abandoned, if_pos (by simpa using runs)]
        rfl
      · rw [upd, Upd.abandoned, if_neg (by obtain st | st := rests <;> simp [st])]
  case token =>
    intro h s
    refine ⟨fun other => ?_, yields_tokenReceived⟩
    have stay : ¬(decide ((s.half h).role = .deputy) && decide ((s.half (halfOther h)).role ≠ .steward)) = true := by
      rw [Bool.and_eq_true, decide_eq_true_iff, decide_eq_true_iff]
      exact fun both => other.elim (fun no => no both.1) both.2
    rw [exec_tokenReceived, if_neg stay]
  case timeout => exact fun h s => ⟨fun other => (exec_tokenLinkTimeout h s).trans (if_pos other), yields_tokenLinkTimeout⟩
  case returns =>
    intro s
    refine ⟨fun one => ?_, fun north south => ?_⟩
    · have stay : ¬(decide (s.north.role = .steward) && decide (s.south.role = .steward)) = true := by
        rw [Bool.and_eq_true, decide_eq_true_iff, decide_eq_true_iff]
        exact fun both => one.elim (fun no => no both.1) (fun no => no both.2)
      rw [exec_tokenLinkReturn, if_neg stay]
    · rw [exec_tokenLinkReturn, if_pos (by simp [north, south])]
      simp only [Bool.and_eq_true, Bool.not_eq_true']
  case restarted => exact fun h s => ⟨fun other => (exec_coreRestartDone h s).trans (if_pos other), yields_coreRestartDone⟩

end Sys2Proof.Machine


/-! Management commands (R55, R297, R375, R413, R431, R432, R445). -/

namespace Sys2Proof.Machine

open Safety

section
variable {s : State} {e : Endpoint}

/-! The three ways a command reaches what it acts on. -/

section
variable {f g : Nat → State → State}

theorem State.fmCmd_unserved (f : Nat → State → State) (served : s.mgmtServed e = false) : s.fmCmd e f = s := by
  rw [State.fmCmd, served, if_pos (by rfl)]

theorem State.fmCmd_head (f : Nat → State → State) {p : Nat} (served : s.mgmtServed e = true) (head : s.epHead e = some p) : s.fmCmd e f = f p s := by
  rw [State.fmCmd, served, head]
  rfl

theorem State.fmCmd_none (f : Nat → State → State) (served : s.mgmtServed e = true) (head : s.epHead e = none) : s.fmCmd e f = s.mgmtNo e := by
  rw [State.fmCmd, served, head]
  rfl

theorem State.cciCmd_unserved (f g : Nat → State → State) (served : s.mgmtServed e = false) : s.cciCmd e f g = s :=
  if_pos (by rw [served]; rfl)

/-- A command that is served at an endpoint of a head acts on that head, or is unsupported. -/
theorem State.cciCmd_fm (f g : Nat → State → State) (served : s.mgmtServed e = true) (notLd : ∀ u, e ≠ .doe u) :
    s.cciCmd e f g = (s.epHead e).elim (s.mgmtNo e) (fun p => f p s) := by
  refine (if_neg (by rw [served]; decide)).trans ?_
  cases head : s.epHead e with
  | none =>
    cases e with
    | doe t => exact absurd rfl (notLd t)
    | mailbox q => cases head
    | vdm q => cases head
    | i3c => rfl
  | some p =>
    cases e with
    | doe t => cases head
    | mailbox q => rfl
    | vdm q => rfl
    | i3c => rfl

theorem State.cciCmd_head (f g : Nat → State → State) {p : Nat} (served : s.mgmtServed e = true) (head : s.epHead e = some p) :
    s.cciCmd e f g = f p s := by
  have notLd (u : Tenant) : e ≠ .doe u := by
    rintro rfl
    cases head
  rw [State.cciCmd_fm f g served notLd, head]
  rfl

theorem State.cciCmd_none (f g : Nat → State → State) (served : s.mgmtServed e = true) (head : s.epHead e = none) (notLd : ∀ u, e ≠ .doe u) :
    s.cciCmd e f g = s.mgmtNo e := by
  rw [State.cciCmd_fm f g served notLd, head]
  rfl

theorem State.cciCmd_ld (f g : Nat → State → State) {t : Tenant} (served : s.mgmtServed (.doe t) = true) (live : s.draining t.toNat = false) :
    s.cciCmd (.doe t) f g = g t.toNat s :=
  (if_neg (by rw [served]; decide)).trans (if_neg (by rw [live]; decide))

theorem State.cciCmd_draining (f g : Nat → State → State) {t : Tenant} (drains : s.draining t.toNat = true) : s.cciCmd (.doe t) f g = s := by
  unfold State.cciCmd
  split
  · rfl
  · exact if_pos drains

theorem State.ldCmd_served (f : Nat → State → State) {t : Tenant} (served : s.mgmtServed (.doe t) = true) (live : s.draining t.toNat = false) :
    s.ldCmd t f = f t.toNat s := by
  rw [State.ldCmd, served, live]
  rfl

theorem State.ldCmd_unserved (f : Nat → State → State) {t : Tenant} (not_ : s.mgmtServed (.doe t) = false ∨ s.draining t.toNat = true) :
    s.ldCmd t f = s := by
  refine if_neg ?_
  obtain no | drains := not_
  · rw [no, Bool.false_and]
    decide
  · rw [drains, Bool.not_true, Bool.and_false]
    decide

end

/-! The commands of each way. -/

theorem exec_fmCommand {d : Endpoint} {c : Instr} {v y : _} {l : BitVec 4} {q : PortId} {op : W16} {r : CfgReg} {w : W32}
    (command : (d, c) ∈ [(e, .backgroundOperationStatus e), (e, .getResponseMessageLimit e), (e, .setResponseMessageLimit e v),
      (e, .tunnelManagement e l op), (e, .sendLdConfigurationRequest e l y r w), (e, .getLdInfo e), (e, .getLdAllocations e),
      (e, .getMultiHeadedInfo e), (e, .getHeadInfo e q), (e, .getDcdInfo e), (e, .getHostDcRegionConfiguration e l),
      (e, .getDcRegionExtentLists e l)]) (s : State) : ∃ f, exec c s = .next (s.fmCmd d f) := by
  simp only [List.mem_cons, List.not_mem_nil, or_false, Prod.mk.injEq] at command
  rcases command with ⟨rfl, rfl⟩ | ⟨rfl, rfl⟩ | ⟨rfl, rfl⟩ | ⟨rfl, rfl⟩ | ⟨rfl, rfl⟩ | ⟨rfl, rfl⟩ | ⟨rfl, rfl⟩ | ⟨rfl, rfl⟩ | ⟨rfl, rfl⟩ |
    ⟨rfl, rfl⟩ | ⟨rfl, rfl⟩ | ⟨rfl, rfl⟩
  all_goals exact ⟨_, rfl⟩

theorem exec_cciCommand {d : Endpoint} {c : Instr} {a n : Nat} {k : BitVec 2} {m : Option Nat} {w : W32} {x : W64}
    (command : (d, c) ∈ [(e, .identify e), (e, .getEventRecords e k), (e, .clearEventRecords e k m), (e, .getEventInterruptPolicy e),
      (e, .setEventInterruptPolicy e w), (e, .getTimestamp e), (e, .setTimestamp e x), (e, .getSupportedLogs e), (e, .getLog e a n)])
    (s : State) : ∃ f g, exec c s = .next (s.cciCmd d f g) := by
  simp only [List.mem_cons, List.not_mem_nil, or_false, Prod.mk.injEq] at command
  rcases command with ⟨rfl, rfl⟩ | ⟨rfl, rfl⟩ | ⟨rfl, rfl⟩ | ⟨rfl, rfl⟩ | ⟨rfl, rfl⟩ | ⟨rfl, rfl⟩ | ⟨rfl, rfl⟩ | ⟨rfl, rfl⟩ | ⟨rfl, rfl⟩
  all_goals exact ⟨_, _, rfl⟩

theorem exec_ldCommand {d : Endpoint} {c : Instr} {t : Tenant}
    (command : (d, c) ∈ [(.doe t, .getDynamicCapacityConfiguration t), (.doe t, .getDynamicCapacityExtentList t),
      (.doe t, .identifyMemoryDevice t), (.doe t, .getHealthInfo t)]) (s : State) : d = .doe t ∧ ∃ f, exec c s = .next (s.ldCmd t f) := by
  simp only [List.mem_cons, List.not_mem_nil, or_false, Prod.mk.injEq] at command
  rcases command with ⟨rfl, rfl⟩ | ⟨rfl, rfl⟩ | ⟨rfl, rfl⟩ | ⟨rfl, rfl⟩
  all_goals exact ⟨rfl, _, rfl⟩

theorem exec_unsupportedCommand (op : W16) : exec (.unsupportedCommand e op) s = .next (if s.mgmtServed e then s.mgmtNo e else s) := rfl

/-- The EID that Set Endpoint ID keeps. -/
def Mgmt.withEid (e : Endpoint) (b : Byte) (m : Mgmt) : Mgmt :=
  { m with eids := (m.eids.filter (fun (x : Endpoint × Byte) => x.1 ≠ e)) ++ [(e, b)] }

/-- The answer of an MCTP control command: the EID of the endpoint. -/
def State.tellEid (e : Endpoint) (s : State) : State :=
  s.mgmtOpen e ((s.mgmt.eids.filter (fun (x : Endpoint × Byte) => x.1 = e)).map (fun (x : Endpoint × Byte) => x.2.setWidth 32))

/-- The endpoints that carry MCTP. -/
def carriesMctp : Endpoint → Bool
  | .vdm _ => true
  | .i3c => true
  | _ => false

theorem exec_mctpControl (o : Option Byte) : exec (.mctpControl e o) s =
    if !s.mgmtServed e then .next s
    else if !carriesMctp e then .next (s.mgmtNo e)
    else .next (State.tellEid e (match o with
      | some v => s.modMgmt (Mgmt.withEid e v)
      | none => s)) := by
  change execMctpControl e o s = _
  unfold execMctpControl State.tellEid
  cases e <;> cases o <;> rfl

/-! The message limit of an endpoint. -/

/-- An entry put in place of those of its key. -/
def endpointPut (e : Endpoint) (b : Byte) (l : List (Endpoint × Byte)) : List (Endpoint × Byte) := (l.filter (fun x => x.1 ≠ e)) ++ [(e, b)]

theorem find?_endpointPut (e : Endpoint) (b : Byte) (l : List (Endpoint × Byte)) : (endpointPut e b l).find? (fun x => x.1 = e) = some (e, b) := by
  have gone : (l.filter (fun x => decide (x.1 ≠ e))).find? (fun x => decide (x.1 = e)) = none :=
    List.find?_eq_none.2 (fun x mem => by
      have other := (List.mem_filter.1 mem).2
      simpa using other)
  rw [endpointPut, List.find?_append, gone, Option.none_or, List.find?_cons_of_pos (by simp)]

theorem find?_endpointPut_other {e f : Endpoint} (other : f ≠ e) (b : Byte) (l : List (Endpoint × Byte)) :
    (endpointPut e b l).find? (fun x => x.1 = f) = l.find? (fun x => x.1 = f) := by
  have last : [(e, b)].find? (fun x => decide (x.1 = f)) = none := by
    simp [other.symm]
  rw [endpointPut, List.find?_append, last, Option.or_none, List.find?_filter]
  congr 1
  funext x
  by_cases same : x.1 = f
  · simp [same, other]
  · simp [same]

/-- The limit that an endpoint sets. -/
def Mgmt.withLimit (e : Endpoint) (b : Byte) (m : Mgmt) : Mgmt := { m with limits := endpointPut e b m.limits }

theorem State.msgLimit_set (e : Endpoint) (b : Byte) (l : List W32) (s : State) :
    ((s.modMgmt (Mgmt.withLimit e b)).mgmtOk e l).msgLimit e = b := by
  change (match (endpointPut e b s.mgmt.limits).find? (fun x => x.1 = e) with
    | some x => x.2
    | none => 0#8) = b
  rw [find?_endpointPut]

theorem State.msgLimit_set_other {e f : Endpoint} (other : f ≠ e) (b : Byte) (l : List W32) (s : State) :
    ((s.modMgmt (Mgmt.withLimit e b)).mgmtOk e l).msgLimit f = s.msgLimit f := by
  change (match (endpointPut e b s.mgmt.limits).find? (fun x => x.1 = f) with
    | some x => x.2
    | none => 0#8) = _
  rw [find?_endpointPut_other other]
  rfl

/-! The event logs of a head and of a device. -/

theorem clearedLog_some (n : Nat) (l : List W256) : clearedLog (some n) l = l.drop n := rfl
theorem clearedLog_none (l : List W256) : clearedLog none l = [] := rfl
theorem clearedLog_nil (o : Option Nat) : clearedLog o [] = [] := by
  cases o with
  | none => rfl
  | some n => exact List.drop_nil

/-- A head's log cleared. -/
def Mgmt.cleared (p k : Nat) (o : Option Nat) (m : Mgmt) : Mgmt :=
  let m := { m with fmOverflow := tset 0 (4 * p + k) 0 m.fmOverflow }
  if k = 0 then { m with fmInfo := tset [] p (clearedLog o (tget [] p m.fmInfo)) m.fmInfo }
  else if k = 1 then { m with fmWarn := tset [] p (clearedLog o (tget [] p m.fmWarn)) m.fmWarn }
  else if k = 2 then { m with fmFail := tset [] p (clearedLog o (tget [] p m.fmFail)) m.fmFail }
  else m

/-- The records of a head's log. -/
def Mgmt.events (p k : Nat) (m : Mgmt) : List W256 :=
  tget [] p (if k = 0 then m.fmInfo else if k = 1 then m.fmWarn else if k = 2 then m.fmFail else [])

theorem Mgmt.overflow_cleared (p k : Nat) (o : Option Nat) (m : Mgmt) :
    (m.cleared p k o).fmOverflow = tset 0 (4 * p + k) 0 m.fmOverflow := by
  unfold Mgmt.cleared
  dsimp only
  split_ifs <;> rfl

theorem Mgmt.cleared_frame (p k : Nat) (o : Option Nat) (m : Mgmt) : m.cleared p k o =
    { m with fmOverflow := (m.cleared p k o).fmOverflow, fmInfo := (m.cleared p k o).fmInfo, fmWarn := (m.cleared p k o).fmWarn,
             fmFail := (m.cleared p k o).fmFail } := by
  unfold Mgmt.cleared
  dsimp only
  split_ifs <;> rfl

theorem Mgmt.events_cleared (p k : Nat) (o : Option Nat) (m : Mgmt) : (m.cleared p k o).events p k = clearedLog o (m.events p k) := by
  unfold Mgmt.cleared Mgmt.events
  dsimp only
  by_cases info : k = 0
  · simp only [info, if_true]
    exact tget_tset_same _ _ _ _
  · by_cases warn : k = 1
    · simp only [warn, Nat.one_ne_zero, if_true, if_false]
      exact tget_tset_same _ _ _ _
    · by_cases fail : k = 2
      · simp only [fail, OfNat.ofNat_ne_zero, OfNat.ofNat_ne_one, if_true, if_false]
        exact tget_tset_same _ _ _ _
      · simp only [info, warn, fail, if_false]
        exact (clearedLog_nil o).symm

theorem Mgmt.events_cleared_other {p k q j : Nat} (other : q ≠ p ∨ j ≠ k) (o : Option Nat) (m : Mgmt) :
    (m.cleared p k o).events q j = m.events q j := by
  have apart (x : List W256) (l : Tab (List W256)) (same : j = k) : tget [] q (tset [] p x l) = tget [] q l :=
    tget_tset_other _ _ _ (other.resolve_right (not_not_intro same)) _
  unfold Mgmt.cleared Mgmt.events
  dsimp only
  by_cases info : k = 0
  · rw [if_pos info]
    by_cases mine : j = 0
    · rw [if_pos mine, if_pos mine]
      exact apart _ _ (mine.trans info.symm)
    · rw [if_neg mine, if_neg mine]
  · rw [if_neg info]
    by_cases warn : k = 1
    · rw [if_pos warn]
      by_cases mine : j = 1
      · rw [if_neg (by omega), if_pos mine, if_neg (by omega), if_pos mine]
        exact apart _ _ (mine.trans warn.symm)
      · rw [if_neg mine, if_neg mine]
    · rw [if_neg warn]
      by_cases fail : k = 2
      · rw [if_pos fail]
        by_cases mine : j = 2
        · rw [if_neg (by omega), if_neg (by omega), if_pos mine, if_neg (by omega), if_neg (by omega), if_pos mine]
          exact apart _ _ (mine.trans fail.symm)
        · rw [if_neg mine, if_neg mine]
      · rw [if_neg fail]

/-- A device's log cleared. -/
def Ld.cleared (k : Nat) (o : Option Nat) (l : Ld) : Ld :=
  let l := { l with overflow := tset 0 k 0 l.overflow }
  if k = 0 then { l with logInfo := clearedLog o l.logInfo }
  else if k = 1 then { l with logWarn := clearedLog o l.logWarn }
  else if k = 2 then { l with logFail := clearedLog o l.logFail }
  else l

theorem Ld.overflow_cleared (k : Nat) (o : Option Nat) (l : Ld) : (l.cleared k o).overflow = tset 0 k 0 l.overflow := by
  unfold Ld.cleared
  dsimp only
  split_ifs <;> rfl

theorem Ld.events_cleared (k : Nat) (o : Option Nat) (l : Ld) : (l.cleared k o).events k = clearedLog o (l.events k) := by
  unfold Ld.cleared Ld.events
  dsimp only
  by_cases info : k = 0
  · rw [if_pos info, if_pos info, if_pos info]
  · by_cases warn : k = 1
    · rw [if_neg info, if_pos warn, if_neg info, if_pos warn, if_neg info, if_pos warn]
    · by_cases fail : k = 2
      · rw [if_neg info, if_neg warn, if_pos fail, if_neg info, if_neg warn, if_pos fail, if_neg info, if_neg warn, if_pos fail]
      · simp only [info, warn, fail, if_false]
        exact (clearedLog_nil o).symm

theorem Ld.events_cleared_other {k j : Nat} (other : j ≠ k) (o : Option Nat) (l : Ld) : (l.cleared k o).events j = l.events j := by
  unfold Ld.cleared Ld.events
  dsimp only
  by_cases info : k = 0
  · have later : j ≠ 0 := by omega
    rw [if_pos info, if_neg later, if_neg later]
  · by_cases warn : k = 1
    · rw [if_neg info, if_pos warn]
      by_cases zero : j = 0
      · rw [if_pos zero, if_pos zero]
      · have later : j ≠ 1 := by omega
        rw [if_neg zero, if_neg later, if_neg zero, if_neg later]
    · by_cases fail : k = 2
      · rw [if_neg info, if_neg warn, if_pos fail]
        by_cases zero : j = 0
        · rw [if_pos zero, if_pos zero]
        · by_cases one : j = 1
          · rw [if_neg zero, if_pos one, if_neg zero, if_pos one]
          · have later : j ≠ 2 := by omega
            rw [if_neg zero, if_neg one, if_neg later, if_neg zero, if_neg one, if_neg later]
      · rw [if_neg info, if_neg warn, if_neg fail]

/-! What each command that both kinds of endpoint carry does there. -/

theorem State.mgmt_mgmtOk (e : Endpoint) (l : List W32) (s : State) : (s.mgmtOk e l).mgmt = s.mgmt := rfl
theorem State.mgmt_modMgmt (f : Mgmt → Mgmt) (s : State) : (s.modMgmt f).mgmt = f s.mgmt := rfl

/-- A change of the management's state, and its answer. -/
theorem State.modMgmt_frame (f : Mgmt → Mgmt) (e : Endpoint) (l : List W32) (s : State) :
    (s.modMgmt f).mgmtOk e l = { s.mgmtOk e l with mgmt := f s.mgmt } := rfl

/-- A change of a device, and its answer. -/
theorem State.modLd_frame (t : Nat) (f : Ld → Ld) (e : Endpoint) (l : List W32) (s : State) :
    (s.modLd t f).mgmtOk e l = { s.mgmtOk e l with lds := ((s.modLd t f).mgmtOk e l).lds } := rfl

theorem State.ld_mgmtOk (e : Endpoint) (l : List W32) (t : Nat) (s : State) : (s.mgmtOk e l).ld t = s.ld t := rfl

/-- The offset that a timestamp keeps. -/
def State.stampOf (v : W64) (s : State) : W64 := v - BitVec.ofNat 64 s.now

theorem State.stampNow_set {t : State} (same : t.now = s.now) (v : W64) : t.stampNow (some (s.stampOf v)) = v.toNat := by
  change (v - BitVec.ofNat 64 s.now + BitVec.ofNat 64 t.now).toNat = v.toNat
  rw [same, BitVec.sub_add_cancel]

/-- What a CLEAR_EVENT_RECORDS changes of a head's logs. -/
theorem cleared_head {p : Nat} (k : Nat) (o : Option Nat) {t : State} (ht : t = (s.modMgmt (Mgmt.cleared p k o)).mgmtOk e []) :
    (∀ n, o = some n → t.fmEvents p k = (s.fmEvents p k).drop n) ∧ (o = none → t.fmEvents p k = []) ∧
      (∀ q j, q ≠ p ∨ j ≠ k → t.fmEvents q j = s.fmEvents q j) ∧ tget 0 (4 * p + k) t.mgmt.fmOverflow = 0 ∧
      (∀ i, i ≠ 4 * p + k → tget 0 i t.mgmt.fmOverflow = tget 0 i s.mgmt.fmOverflow) ∧
      t = { s.mgmtOk e [] with mgmt := { s.mgmt with fmOverflow := t.mgmt.fmOverflow, fmInfo := t.mgmt.fmInfo, fmWarn := t.mgmt.fmWarn,
                                                     fmFail := t.mgmt.fmFail } } := by
  have mgmt : t.mgmt = s.mgmt.cleared p k o := by
    rw [ht, State.mgmt_mgmtOk, State.mgmt_modMgmt]
  have events (q j : Nat) : t.fmEvents q j = (s.mgmt.cleared p k o).events q j := by
    rw [← mgmt]
    rfl
  refine ⟨fun n all => ?_, fun all => ?_, fun q j other => ?_, ?_, fun i other => ?_, ?_⟩
  · rw [events, Mgmt.events_cleared, all, clearedLog_some]
    rfl
  · rw [events, Mgmt.events_cleared, all, clearedLog_none]
  · rw [events, Mgmt.events_cleared_other other]
    rfl
  · rw [mgmt, Mgmt.overflow_cleared, tget_tset_same]
  · rw [mgmt, Mgmt.overflow_cleared, tget_tset_other _ _ _ other]
  · rw [mgmt, ← Mgmt.cleared_frame, ht, State.modMgmt_frame]

/-- What a CLEAR_EVENT_RECORDS changes of a device's logs. -/
theorem cleared_ld {t k : Nat} (o : Option Nat) {u : State} (hu : u = (s.modLd t (Ld.cleared k o)).mgmtOk e []) :
    (∀ n, o = some n → (u.ld t).events k = ((s.ld t).events k).drop n) ∧ (o = none → (u.ld t).events k = []) ∧
      (∀ j, j ≠ k → (u.ld t).events j = (s.ld t).events j) ∧ tget 0 k (u.ld t).overflow = 0 ∧
      (∀ j, j ≠ k → tget 0 j (u.ld t).overflow = tget 0 j (s.ld t).overflow) ∧
      (∀ n, n ≠ t → u.ld n = s.ld n) ∧ u = { s.mgmtOk e [] with lds := u.lds } := by
  have mine : u.ld t = (s.ld t).cleared k o := by
    rw [hu, State.ld_mgmtOk, State.ld_modLd]
  refine ⟨fun n all => ?_, fun all => ?_, fun j other => ?_, ?_, fun j other => ?_, fun n other => ?_, ?_⟩
  · rw [mine, Ld.events_cleared, all, clearedLog_some]
  · rw [mine, Ld.events_cleared, all, clearedLog_none]
  · rw [mine, Ld.events_cleared_other other]
  · rw [mine, Ld.overflow_cleared, tget_tset_same]
  · rw [mine, Ld.overflow_cleared, tget_tset_other _ _ _ other]
  · rw [hu, State.ld_mgmtOk, State.ld_modLd_other _ other]
  · rw [hu]
    exact State.modLd_frame t _ e [] s

end

/-! The commands, at a head and at a device. -/

section
variable {s : State} {e : Endpoint} {f g : Nat → State → State} {i : Instr} {u : State}

/-- A command that both kinds of endpoint carry, at a head. -/
theorem next_cci_head {p : Nat} (served : s.mgmtServed e = true) (head : s.epHead e = some p) (run : exec i s = .next (s.cciCmd e f g)) (is : f p s = u) :
    exec i s = .next u := by
  rw [run, State.cciCmd_head f g served head, is]

/-- A command that both kinds of endpoint carry, at a device. -/
theorem next_cci_ld {t : Tenant} (served : s.mgmtServed (.doe t) = true) (live : s.draining t.toNat = false)
    (run : exec i s = .next (s.cciCmd (.doe t) f g)) (is : g t.toNat s = u) :
    exec i s = .next u := by
  rw [run, State.cciCmd_ld f g served live, is]

/-- An FM API command, at a head. -/
theorem next_fm_head {p : Nat} (served : s.mgmtServed e = true) (head : s.epHead e = some p) (run : exec i s = .next (s.fmCmd e f)) (is : f p s = u) :
    exec i s = .next u := by
  rw [run, State.fmCmd_head f served head, is]

/-- A command of a device's mailbox. -/
theorem next_ld {t : Tenant} (served : s.mgmtServed (.doe t) = true) (live : s.draining t.toNat = false)
    (run : exec i s = .next (s.ldCmd t f)) (is : f t.toNat s = u) :
    exec i s = .next u := by
  rw [run, State.ldCmd_served f served live, is]

end

section
variable {s : State} {e : Endpoint} {p : Nat} (served : s.mgmtServed e = true) (head : s.epHead e = some p)
include served head

theorem yields_setResponseMessageLimit (v : Byte) : Yields (.setResponseMessageLimit e v) s (fun t =>
    t.msgLimit e = v ∧ (∀ f, f ≠ e → t.msgLimit f = s.msgLimit f) ∧
      t = { s.mgmtOk e [v.setWidth 32] with mgmt := { s.mgmt with limits := t.mgmt.limits } }) := by
  have next : exec (.setResponseMessageLimit e v) s = .next ((s.modMgmt (Mgmt.withLimit e v)).mgmtOk e [v.setWidth 32]) :=
    next_fm_head served head rfl rfl
  exact ⟨_, next, s.msgLimit_set e v _, fun f other => s.msgLimit_set_other other v _, rfl⟩

theorem yields_clearEventRecords (k : BitVec 2) (o : Option Nat) : Yields (.clearEventRecords e k o) s (fun t =>
    (∀ n, o = some n → t.fmEvents p k.toNat = (s.fmEvents p k.toNat).drop n) ∧ (o = none → t.fmEvents p k.toNat = []) ∧
      (∀ q j, q ≠ p ∨ j ≠ k.toNat → t.fmEvents q j = s.fmEvents q j) ∧ tget 0 (4 * p + k.toNat) t.mgmt.fmOverflow = 0 ∧
      (∀ i, i ≠ 4 * p + k.toNat → tget 0 i t.mgmt.fmOverflow = tget 0 i s.mgmt.fmOverflow) ∧
      t = { s.mgmtOk e [] with mgmt := { s.mgmt with fmOverflow := t.mgmt.fmOverflow, fmInfo := t.mgmt.fmInfo, fmWarn := t.mgmt.fmWarn,
                                                     fmFail := t.mgmt.fmFail } }) := by
  have next : exec (.clearEventRecords e k o) s = .next ((s.modMgmt (Mgmt.cleared p k.toNat o)).mgmtOk e []) := next_cci_head served head rfl rfl
  exact ⟨_, next, cleared_head k.toNat o rfl⟩

/-- The policy of a head's events. -/
theorem yields_setEventInterruptPolicy (v : W32) : Yields (.setEventInterruptPolicy e v) s (fun t => tget 0#32 p t.mgmt.fmPolicy = v ∧
    (∀ q, q ≠ p → tget 0#32 q t.mgmt.fmPolicy = tget 0#32 q s.mgmt.fmPolicy) ∧
      t = { s.mgmtOk e [] with mgmt := { s.mgmt with fmPolicy := t.mgmt.fmPolicy } }) := by
  have next : exec (.setEventInterruptPolicy e v) s =
      .next ((s.modMgmt (fun m => { m with fmPolicy := tset 0#32 p v m.fmPolicy })).mgmtOk e []) := next_cci_head served head rfl rfl
  exact ⟨_, next, tget_tset_same _ _ _ _, fun q other => tget_tset_other _ _ _ other _, rfl⟩

theorem yields_setTimestamp (v : W64) : Yields (.setTimestamp e v) s (fun t => t.stampNow (tfind p t.mgmt.fmTimestamp) = v.toNat ∧
    (∀ q, q ≠ p → tfind q t.mgmt.fmTimestamp = tfind q s.mgmt.fmTimestamp) ∧
      t = { s.mgmtOk e [] with mgmt := { s.mgmt with fmTimestamp := t.mgmt.fmTimestamp } }) := by
  have next : exec (.setTimestamp e v) s =
      .next ((s.modMgmt (fun m => { m with fmTimestamp := tput p (s.stampOf v) m.fmTimestamp })).mgmtOk e []) := next_cci_head served head rfl rfl
  refine ⟨_, next, ?_, fun q other => tfind_tput_other _ other _, rfl⟩
  rw [State.mgmt_mgmtOk, State.mgmt_modMgmt, tfind_tput_same]
  exact State.stampNow_set rfl v

end

section
variable {s : State} {t : Tenant} (served : s.mgmtServed (.doe t) = true) (live : s.draining t.toNat = false)
include served live

theorem yields_clearEventRecords_ld (k : BitVec 2) (o : Option Nat) : Yields (.clearEventRecords (.doe t) k o) s (fun u =>
    (∀ n, o = some n → (u.ld t.toNat).events k.toNat = ((s.ld t.toNat).events k.toNat).drop n) ∧
      (o = none → (u.ld t.toNat).events k.toNat = []) ∧
      (∀ j, j ≠ k.toNat → (u.ld t.toNat).events j = (s.ld t.toNat).events j) ∧ tget 0 k.toNat (u.ld t.toNat).overflow = 0 ∧
      (∀ j, j ≠ k.toNat → tget 0 j (u.ld t.toNat).overflow = tget 0 j (s.ld t.toNat).overflow) ∧
      (∀ n, n ≠ t.toNat → u.ld n = s.ld n) ∧ u = { s.mgmtOk (.doe t) [] with lds := u.lds }) := by
  have next : exec (.clearEventRecords (.doe t) k o) s = .next ((s.modLd t.toNat (Ld.cleared k.toNat o)).mgmtOk (.doe t) []) :=
    next_cci_ld served live rfl rfl
  exact ⟨_, next, cleared_ld o rfl⟩

theorem yields_setEventInterruptPolicy_ld (v : W32) : Yields (.setEventInterruptPolicy (.doe t) v) s (fun u =>
    u.ld t.toNat = { s.ld t.toNat with evPolicy := v } ∧ (∀ n, n ≠ t.toNat → u.ld n = s.ld n) ∧
      u = { s.mgmtOk (.doe t) [] with lds := u.lds }) := by
  have next : exec (.setEventInterruptPolicy (.doe t) v) s = .next ((s.modLd t.toNat (fun l => { l with evPolicy := v })).mgmtOk (.doe t) []) :=
    next_cci_ld served live rfl rfl
  refine ⟨_, next, ?_, fun n other => ?_, State.modLd_frame t.toNat _ (.doe t) [] s⟩
  · rw [State.ld_mgmtOk, State.ld_modLd]
  · rw [State.ld_mgmtOk, State.ld_modLd_other _ other]

theorem yields_setTimestamp_ld (v : W64) : Yields (.setTimestamp (.doe t) v) s (fun u =>
    u.stampNow (u.ld t.toNat).timestamp = v.toNat ∧ u.ld t.toNat = { s.ld t.toNat with timestamp := (u.ld t.toNat).timestamp } ∧
      (∀ n, n ≠ t.toNat → u.ld n = s.ld n) ∧ u = { s.mgmtOk (.doe t) [] with lds := u.lds }) := by
  have next : exec (.setTimestamp (.doe t) v) s =
      .next ((s.modLd t.toNat (fun l => { l with timestamp := some (s.stampOf v) })).mgmtOk (.doe t) []) := next_cci_ld served live rfl rfl
  refine ⟨_, next, ?_, ?_, fun n other => ?_, State.modLd_frame t.toNat _ (.doe t) [] s⟩
  · rw [State.ld_mgmtOk, State.ld_modLd]
    exact State.stampNow_set rfl v
  · rw [State.ld_mgmtOk, State.ld_modLd]
  · rw [State.ld_mgmtOk, State.ld_modLd_other _ other]

end

/-! The commands on a logical device. -/

section
variable {s : State} {e : Endpoint} {p : Nat} {l : BitVec 4} (served : s.mgmtServed e = true) (head : s.epHead e = some p)
include served head

theorem exec_tunnelManagement (op : W16) : exec (.tunnelManagement e l op) s =
    .next (if (s.headLds p).contains (16 * p + l.toNat) then s.mgmtOpen e [] else s.mgmtNo e) := next_fm_head served head rfl rfl

theorem exec_getHostDcRegionConfiguration : exec (.getHostDcRegionConfiguration e l) s =
    .next (if (s.headLds p).contains (16 * p + l.toNat) then s.mgmtOk e (s.dcConfig (16 * p + l.toNat)) else s.mgmtNo e) :=
  next_fm_head served head rfl rfl

theorem exec_getDcRegionExtentLists : exec (.getDcRegionExtentLists e l) s =
    .next (if (s.headLds p).contains (16 * p + l.toNat) then s.mgmtOk e (s.dcExtents (16 * p + l.toNat)) else s.mgmtNo e) :=
  next_fm_head served head rfl rfl

theorem exec_sendLdConfigurationRequest (y : Bool) (r : CfgReg) (v : W32) : exec (.sendLdConfigurationRequest e l y r v) s =
    .next (if !(s.headLds p).contains (16 * p + l.toNat) then s.mgmtNo e
      else if !s.cfgServed (16 * p + l.toNat) then s.emit (.mgmt e .notReady [])
      else if y then (s.cfgWrite (16 * p + l.toNat) r v).mgmtOk e []
      else (s.mgmtOk e [s.cfgRead (16 * p + l.toNat) r]).tickFree) := next_fm_head served head rfl rfl

theorem exec_getHeadInfo (q : PortId) : exec (.getHeadInfo e q) s =
    .next (if s.portUnused q.toNat then s.mgmtNo e else s.mgmtOpen e [q.setWidth 32, BitVec.ofNat 32 (s.port q.toNat).st.code,
      (s.port q.toNat).width.setWidth 32, (s.port q.toNat).rate.setWidth 32]) := next_fm_head served head rfl rfl

end

/-- Settles O60: who carries a command first (fmCmd, cciCmd, ldCmd), then what each command answers and keeps there. -/
theorem managementCommandsAnswerAndSet : Obligations.ManagementCommandsAnswerAndSet := by
  unfold Obligations.ManagementCommandsAnswerAndSet
  refine ⟨?carries, ?heads, ?devices, ?mctp, ?address, ?mailbox, ?reach⟩
  case carries =>
    intro e t a n v l q k m o op r y w x d c s
    refine ⟨fun command => ?_, fun command => ?_, fun command not_ => ?_, fun command unserved => ?_, fun served => ?_⟩
    · obtain ⟨f, run⟩ := exec_fmCommand command s
      rw [run]
      exact ⟨fun unserved => by rw [State.fmCmd_unserved f unserved], fun served head => by rw [State.fmCmd_none f served head]⟩
    · obtain ⟨f, g, run⟩ := exec_cciCommand command s
      rw [run]
      refine ⟨fun unserved => by rw [State.cciCmd_unserved f g unserved], fun u is drains => ?_,
        fun served head notLd => by rw [State.cciCmd_none f g served head notLd]⟩
      rw [is, State.cciCmd_draining f g drains]
    · obtain ⟨rfl, f, run⟩ := exec_ldCommand command s
      rw [run, State.ldCmd_unserved f not_]
    · simp only [List.mem_cons, List.not_mem_nil, or_false, Prod.mk.injEq] at command
      obtain ⟨rfl, rfl⟩ | ⟨rfl, rfl⟩ := command
      · rw [exec_unsupportedCommand, if_neg (by simp [unserved])]
      · rw [exec_mctpControl, if_pos (by simp [unserved])]
    · rw [exec_unsupportedCommand, if_pos served]
  case heads =>
    intro e p s served head
    have info := exec_getHeadInfo served head
    refine ⟨next_cci_head served head rfl rfl, next_fm_head served head rfl rfl, next_fm_head served head rfl rfl,
      yields_setResponseMessageLimit served head, fun k => next_cci_head served head rfl rfl, yields_clearEventRecords served head,
      next_cci_head served head rfl rfl, yields_setEventInterruptPolicy served head, next_cci_head served head rfl rfl,
      yields_setTimestamp served head, next_cci_head served head rfl rfl, fun a n => next_cci_head served head rfl rfl,
      next_fm_head served head rfl rfl, next_fm_head served head rfl rfl, next_fm_head served head rfl rfl, fun q used => ?_, fun q unused => ?_,
      next_fm_head served head rfl rfl⟩
    · rw [info, if_neg (by simp [used])]
    · rw [info, if_pos unused]
  case devices =>
    intro e p l op r v s served head
    have send := exec_sendLdConfigurationRequest (l := l) served head
    refine ⟨fun there => ⟨?_, ?_, ?_, fun serves => ⟨?_, ?_⟩, fun rests y => ?_⟩, fun gone y c command => ?_⟩
    · rw [exec_tunnelManagement served head, if_pos there]
    · rw [exec_getHostDcRegionConfiguration served head, if_pos there]
    · rw [exec_getDcRegionExtentLists served head, if_pos there]
    · rw [send, there, serves]
      rfl
    · rw [send, there, serves]
      rfl
    · rw [send, there, rests]
      rfl
    · simp only [List.mem_cons, List.not_mem_nil, or_false] at command
      obtain rfl | rfl | rfl | rfl := command
      · rw [exec_tunnelManagement served head, if_neg (by simp only [gone]; decide)]
      · rw [exec_getHostDcRegionConfiguration served head, if_neg (by simp only [gone]; decide)]
      · rw [exec_getDcRegionExtentLists served head, if_neg (by simp only [gone]; decide)]
      · rw [send, gone]
        rfl
  case mctp =>
    intro e s served
    refine ⟨fun carries => ?_, fun mailbox b => ?_⟩
    · have can : carriesMctp e = true := by
        obtain ⟨p, rfl⟩ | rfl := carries
        · rfl
        · rfl
      refine ⟨fun b => ?_, ?_⟩
      · have next := exec_mctpControl (s := s) (e := e) (some b)
        rw [if_neg (by simp [served]), if_neg (by simp [can])] at next
        refine ⟨_, next, rfl, ?_⟩
        have mine : ((s.mgmt.withEid e b).eids.filter (fun x => decide (x.1 = e))) = [(e, b)] := by
          rw [Mgmt.withEid, List.filter_append, List.filter_filter]
          simp
        change State.mgmtOpen e (((s.mgmt.withEid e b).eids.filter (fun x => decide (x.1 = e))).map (fun x => x.2.setWidth 32)) _ = _
        rw [mine]
        rfl
      · have next := exec_mctpControl (s := s) (e := e) none
        rw [if_neg (by simp [served]), if_neg (by simp [can])] at next
        exact next
    · have cannot : carriesMctp e = false := by
        obtain ⟨p, rfl⟩ | ⟨t, rfl⟩ := mailbox
        · rfl
        · rfl
      rw [exec_mctpControl, if_neg (by simp [served]), if_pos (by simp [cannot])]
  case address => exact fun a s => rfl
  case mailbox =>
    intro t s served live
    exact ⟨next_ld served live rfl rfl, next_ld served live rfl rfl, next_ld served live rfl rfl, next_ld served live rfl rfl,
      next_cci_ld served live rfl rfl, fun k => next_cci_ld served live rfl rfl, yields_clearEventRecords_ld served live,
      next_cci_ld served live rfl rfl, yields_setEventInterruptPolicy_ld served live, next_cci_ld served live rfl rfl,
      yields_setTimestamp_ld served live, next_cci_ld served live rfl rfl, fun a n => next_cci_ld served live rfl rfl⟩
  case reach =>
    intro e s gone
    rw [State.mgmtServed, gone, Bool.false_and]

end Sys2Proof.Machine


/-! Register writes (R7, R8, R439, R440). -/

namespace Sys2Proof.Machine

open Safety

section
variable {s : State} {off : BitVec 24} {v : W32} {u : W64}

/-! One write: the register's own effect, then the bits that the module sets. -/

theorem exec_registerWrite (sp : RegSpace) (off : BitVec 24) (v : W32) (u : W64) (s : State) :
    exec (.registerWrite sp off v ⟨none, u⟩) s = .next ((s.writeReg sp off.toNat v).w1cSets sp off.toNat (u.setWidth 32)) := rfl

/-- An 8-byte write: the lower word, then the upper one. -/
theorem exec_registerWrite_wide (sp : RegSpace) (off : BitVec 24) (v w : W32) (u : W64) (s : State) :
    exec (.registerWrite sp off v ⟨some w, u⟩) s =
      .next ((((s.writeReg sp off.toNat v).w1cSets sp off.toNat (u.setWidth 32)).writeReg sp (off.toNat + 4) w).w1cSets sp (off.toNat + 4)
        ((u >>> 32).setWidth 32)) := rfl

theorem toNat_next (inside : off.toNat + 4 < 2 ^ 24) : (off + 4#24).toNat = off.toNat + 4 := by
  rw [BitVec.toNat_add]
  exact Nat.mod_eq_of_lt inside

/-! What the module sets of a register without W1C bits, and of one with them. -/

theorem State.w1cBar_none {t n : Nat} (row : barRow n = none) (w : W32) (s : State) : s.w1cBar t n w = s := by
  rw [State.w1cBar, row]
  exact if_pos BitVec.and_zero

theorem State.w1cStw_none {n : Nat} (row : stwRow n = none) (w : W32) (s : State) : s.w1cStw n w = s := by
  rw [State.w1cStw, row]
  exact if_pos BitVec.and_zero

theorem State.w1cBar_doorbell (t : Nat) (w : W32) (s : State) : s.w1cBar t Reg.DSC_DB w = s := by
  have mask : w1cMask (barRow Reg.DSC_DB) = 0#32 := by
    decide
  rw [State.w1cBar, mask]
  exact if_pos BitVec.and_zero

theorem State.w1cStw_eq {n : Nat} {r : RegRow} (row : stwRow n = some r) (other : n ≠ Reg.SHR_CFG) (w : W32) (s : State) :
    s.w1cStw n w = if w &&& r.w1c = 0#32 then s else s.modStw n (fun x => x ||| (w &&& r.w1c)) := by
  rw [State.w1cStw, row]
  exact if_congr Iff.rfl rfl (if_neg other)

theorem State.w1cBar_eq {t n : Nat} {r : RegRow} (row : barRow n = some r) (above : 0x2200 ≤ n) (w : W32) (s : State) :
    s.w1cBar t n w = if w &&& r.w1c = 0#32 then s else s.modBar t n (fun x => x ||| (w &&& r.w1c)) := by
  rw [State.w1cBar, row]
  exact if_congr Iff.rfl rfl (if_neg (fun rings => absurd above (Nat.not_le.2 rings.2)))

/-- A register whose write and whose set bits follow its row. -/
theorem stw_written {n : Nat} {r : RegRow} (row : stwRow n = some r) (other : n ≠ Reg.SHR_CFG) (v w : W32) (s : State) {t : State}
    (ht : t = (s.modStw n (fun x => r.write x v)).w1cStw n w) :
    t.stw n = r.write (s.stw n) v ||| (w &&& r.w1c) ∧ (∀ o, o ≠ n → t.stw o = s.stw o) ∧ t = { s with reg := t.reg } := by
  rw [State.w1cStw_eq row other] at ht
  by_cases none_ : w &&& r.w1c = 0#32
  · rw [if_pos none_] at ht
    refine ⟨?_, fun o apart => ?_, by rw [ht]; rfl⟩
    · rw [ht, State.stw_modStw, none_, BitVec.or_zero]
    · rw [ht, State.stw_modStw_other _ apart]
  · rw [if_neg none_] at ht
    refine ⟨?_, fun o apart => ?_, by rw [ht]; rfl⟩
    · rw [ht, State.stw_modStw, State.stw_modStw]
    · rw [ht, State.stw_modStw_other _ apart, State.stw_modStw_other _ apart]

theorem bar_written {t n : Nat} {r : RegRow} (row : barRow n = some r) (above : 0x2200 ≤ n) (v w : W32) (s : State) {z : State}
    (hz : z = (s.modBar t n (fun x => r.write x v)).w1cBar t n w) :
    z.bar t n = r.write (s.bar t n) v ||| (w &&& r.w1c) ∧ z = { s with reg := z.reg } := by
  rw [State.w1cBar_eq row above] at hz
  by_cases none_ : w &&& r.w1c = 0#32
  · rw [if_pos none_] at hz
    refine ⟨?_, by rw [hz]; rfl⟩
    rw [hz, State.bar_modBar, none_, BitVec.or_zero]
  · rw [if_neg none_] at hz
    refine ⟨?_, by rw [hz]; rfl⟩
    rw [hz, State.bar_modBar, State.bar_modBar]

/-! The steward space. -/

theorem State.writeStw_row {n : Nat} {r : RegRow} (firmware : s.romServes = false) (other : n ≠ Reg.PRT_BOND) (row : stwRow n = some r) (v : W32) :
    s.writeStw n v = (s.stwOwn n v).getD (s.modStw n (fun w => r.write w v)) := by
  unfold State.writeStw
  rw [firmware, if_neg (by simp), if_neg (by simp [other]), row]

theorem State.writeStw_unlisted {n : Nat} (firmware : s.romServes = false) (other : n ≠ Reg.PRT_BOND) (row : stwRow n = none) (v : W32) :
    s.writeStw n v = if stwIdent n then s else s.cntStw Reg.REG_ACCERR 15 0 1 := by
  unfold State.writeStw
  rw [firmware, if_neg (by simp), if_neg (by simp [other]), row]

/-- SHR_CFG has an effect of its own. -/
theorem State.stwOwn_regionCfg (v : W32) (s : State) : s.stwOwn Reg.SHR_CFG v ≠ none := by
  change s.shrWrite Reg.SHR_CFG v ≠ none
  rw [State.shrWrite, if_pos rfl]
  exact Option.some_ne_none _

/-! BAR0 of a device. -/

theorem State.writeBar_draining {t : Tenant} (drains : s.draining t.toNat = true) (n : Nat) (v : W32) :
    s.writeBar t n v = if n = Reg.DSC_DB then s.after (execMmioDoorbell t v s) else s := if_pos drains

section
variable {t : Tenant} {n : Nat} (live : s.draining t.toNat = false) (firmware : s.inRecovery t.toNat = false)
  (table : inMsixTable n = false) (pba : inMsixPba n = false) (component : inComponent n = false)
include live firmware table pba component

/-- A write of a BAR0 offset that is no MSI-X structure and no component register, and that its table lists. -/
theorem State.writeBar_row {r : RegRow} (row : barRow n = some r) (v : W32) : s.writeBar t n v = s.barWrite t n r v := by
  unfold State.writeBar
  dsimp only
  rw [live, table, firmware, pba, component, if_neg Bool.false_ne_true, if_neg Bool.false_ne_true, if_neg (by simp), if_neg Bool.false_ne_true, row]

theorem State.writeBar_unlisted (row : barRow n = none) (v : W32) : s.writeBar t n v = s.cntBar t.toNat Reg.REG_ACCERR 15 0 1 := by
  unfold State.writeBar
  dsimp only
  rw [live, table, firmware, pba, component, if_neg Bool.false_ne_true, if_neg Bool.false_ne_true, if_neg (by simp), if_neg Bool.false_ne_true, row]

end

/-- The BAR0 registers that their table alone describes. -/
theorem State.barWrite_plain {t : Tenant} {n : Nat} (above : 0x3008 ≤ n) (mark : n ≠ Reg.ALM_MARK) (uib : n ≠ Reg.HGT_UIB)
    (ctl : n ≠ Reg.FMT_CTL) (r : RegRow) (v : W32) (s : State) : s.barWrite t n r v = s.modBar t.toNat n (fun w => r.write w v) := by
  have apart {k : Nat} (below : k < 0x3008) : n ≠ k := by omega
  rw [State.barWrite, if_neg (fun rings => absurd rings.2 (by omega)), if_neg (apart (by decide)), if_neg (apart (by decide)),
    if_neg (apart (by decide)), if_neg mark, if_neg uib, State.barPlain, if_neg (apart (by decide)), if_neg ctl,
    if_neg (by
      rw [decide_eq_false (apart (by decide)), decide_eq_false (apart (by decide))]
      decide)]

theorem State.draining_doorbell {t : Tenant} (drains : s.draining t.toNat = true) (v : W32) : s.after (execMmioDoorbell t v s) =
    (s.cntBar t.toNat Reg.PRT_FLR 31 16 1).modLd t.toNat (fun l => { l with drainRefused := l.drainRefused + 1 }) :=
  State.doorbell_of_draining drains

/-! BAR2. -/

theorem exec_registerWrite_bar2 (t : Tenant) : exec (.registerWrite (.bar2 t) off v ⟨none, u⟩) s = .next (s.bar2Write t.toNat off.toNat v) := rfl

theorem yields_bar2Write {t : Tenant} (holds : mailboxRw off.toNat = true) : Yields (.registerWrite (.bar2 t) off v ⟨none, u⟩) s (fun z =>
    tget 0#32 (65536 * t.toNat + off.toNat) z.reg.bar2 = v ∧
      (∀ k, k ≠ 65536 * t.toNat + off.toNat → tget 0#32 k z.reg.bar2 = tget 0#32 k s.reg.bar2) ∧
      z = { s with reg := { s.reg with bar2 := z.reg.bar2 } }) := by
  have next := exec_registerWrite_bar2 (s := s) (off := off) (v := v) (u := u) t
  rw [State.bar2Write, if_pos holds, Nat.mul_comm] at next
  exact ⟨_, next, tget_tset_same _ _ _ _, fun k other => tget_tset_other _ _ _ other _, rfl⟩

end

/-- Settles O16: a write as writeReg and then w1cSets, each space by its own equation. -/
theorem registerWritesActByAccessType : Obligations.RegisterWritesActByAccessType := by
  unfold Obligations.RegisterWritesActByAccessType
  refine ⟨?draining, ?reads, ?steward, ?bar, ?unlisted, ?own, ?unmapped, ?mailbox, ?wide⟩
  case draining =>
    intro t off v u s drains
    refine ⟨fun other => ?_, fun doorbell => ?_⟩
    · rw [exec_registerWrite, State.writeReg, State.writeBar_draining drains, if_neg other]
      rfl
    · rw [exec_registerWrite, State.writeReg, State.writeBar_draining drains, if_pos doorbell, State.draining_doorbell drains, State.w1cSets,
        doorbell, State.w1cBar_doorbell]
  case reads =>
    intro t off u s drains firmware
    have read : s.readReg (.bar0 t) off.toNat (u.setWidth 32) =
        (s.barValue t.toNat off.toNat, (s.barCleared t.toNat off.toNat (u.setWidth 32)).tickFree) := by
      change s.readBar t.toNat off.toNat (u.setWidth 32) = _
      rw [State.readBar, firmware]
      rfl
    change execReadClear (.bar0 t) off false u s = _
    unfold execReadClear
    rw [read]
    rfl
  case steward =>
    intro off v u r s firmware row notBond plain
    have apart : off.toNat ≠ Reg.SHR_CFG := by
      intro is
      rw [is] at plain
      exact s.stwOwn_regionCfg v plain
    have next := exec_registerWrite .steward off v u s
    rw [State.writeReg, State.writeStw_row firmware notBond row, plain] at next
    exact ⟨_, next, stw_written row apart v (u.setWidth 32) s rfl⟩
  case bar =>
    intro t off v u r s live firmware above below row mark uib ctl
    have table : inMsixTable off.toNat = false := by
      rw [inMsixTable, decide_eq_false (by omega), Bool.false_and]
    have pba : inMsixPba off.toNat = false := by
      rw [inMsixPba, decide_eq_false (by omega), Bool.false_and]
    have component : inComponent off.toNat = false := by
      rw [inComponent, decide_eq_false (show ¬off.toNat < 0x2000 by omega), Bool.and_false]
    have next := exec_registerWrite (.bar0 t) off v u s
    rw [State.writeReg, State.writeBar_row live firmware table pba component row, State.barWrite_plain above mark uib ctl] at next
    exact ⟨_, next, bar_written row (by omega) v (u.setWidth 32) s rfl⟩
  case unlisted =>
    intro t off v u s live firmware table pba component row
    rw [exec_registerWrite, State.writeReg, State.writeBar_unlisted live firmware table pba component row, State.w1cSets, State.w1cBar_none row]
  case own =>
    intro off v u r s z firmware notBond row own
    rw [exec_registerWrite, State.writeReg, State.writeStw_row firmware notBond row, own]
    rfl
  case unmapped =>
    intro off v u s firmware notBond row
    rw [exec_registerWrite, State.writeReg, State.writeStw_unlisted firmware notBond row, State.w1cSets, State.w1cStw_none row]
  case mailbox =>
    intro t off v u s
    refine ⟨fun rest => ?_, yields_bar2Write⟩
    rw [exec_registerWrite_bar2, State.bar2Write, if_neg (by simp [rest])]
  case wide =>
    intro sp off v w u s t inside lower
    have first : (s.writeReg sp off.toNat v).w1cSets sp off.toNat (u.setWidth 32) = t := by
      rw [exec_registerWrite] at lower
      injection lower
    rw [exec_registerWrite_wide, exec_registerWrite, first, toNat_next inside]

end Sys2Proof.Machine


/-! Register reads, and the registers reached by management (R7, R8, R405, R432, R433, R438, R443). -/

namespace Sys2Proof.Machine

open Safety

section
variable {s : State}

/-! Reads. -/

theorem exec_readClear (sp : RegSpace) (off : BitVec 24) (u : W64) (s : State) : exec (.readClear sp off false u) s =
    .next ((s.readReg sp off.toNat (u.setWidth 32)).2.emit (.regData [(s.readReg sp off.toNat (u.setWidth 32)).1])) := rfl

theorem exec_readClear_wide (sp : RegSpace) (off : BitVec 24) (u : W64) {a b : W32 × State} {s : State}
    (first : s.readReg sp off.toNat (u.setWidth 32) = a) (second : a.2.readReg sp (off.toNat + 4) ((u >>> 32).setWidth 32) = b) :
    exec (.readClear sp off true u) s = .next (b.2.emit (.regData [a.1, b.1])) := by
  subst first second
  rfl

/-- A register that the module itself keeps, read with what the module sets in the same cycle. -/
theorem State.stwCleared_eq {n : Nat} {r : RegRow} (row : stwRow n = some r) (not0 : n ≠ Reg.CMP_TERR0) (not1 : n ≠ Reg.CMP_TERR1) (w : W32)
    (s : State) : s.stwCleared n w = if r.rc = 0#32 then s else s.modStw n (fun x => r.clearRead x (w &&& r.rc)) := by
  unfold State.stwCleared
  dsimp only
  rw [row, if_neg not0, if_neg not1]
  rfl

theorem RegRow.clearRead_masked (r : RegRow) (x w : W32) :
    r.clearRead x (w &&& r.rc) = (x &&& ~~~r.rc) ||| (r.reset &&& r.rc) ||| (w &&& r.rc) := by
  rw [RegRow.clearRead, BitVec.and_assoc, BitVec.and_self]

/-- What a read leaves of the state, whatever it reads. -/
theorem State.read_frame {n : Nat} (m : Msg) {t : State} (only : t = { s with reg := t.reg }) :
    (t.tickFree.emit m).out = s.out ++ [m] ∧ (t.tickFree.emit m).stw n = t.stw n ∧
      t.tickFree.emit m = { s with reg := (t.tickFree.emit m).reg, out := (t.tickFree.emit m).out, freeCtr := s.freeCtr + 1 } := by
  generalize t.reg = g at only
  subst only
  exact ⟨rfl, rfl, rfl⟩

theorem State.readReg_steward {n : Nat} (firmware : s.romServes = false) (w : W32) :
    s.readReg .steward n w = (s.stwValue n, (s.stwCleared n w).tickFree) := by
  change s.readStw n w = _
  rw [State.readStw, firmware]
  rfl

theorem yields_readClear_steward {off : BitVec 24} {u : W64} {r : RegRow} (firmware : s.romServes = false) (row : stwRow off.toNat = some r)
    (not0 : off.toNat ≠ Reg.CMP_TERR0) (not1 : off.toNat ≠ Reg.CMP_TERR1) : Yields (.readClear .steward off false u) s (fun t =>
      t.out = s.out ++ [.regData [s.stwValue off.toNat]] ∧
      t.stw off.toNat = (if r.rc = 0#32 then s.stw off.toNat
        else (s.stw off.toNat &&& ~~~r.rc) ||| (r.reset &&& r.rc) ||| (u.setWidth 32 &&& r.rc)) ∧
      t = { s with reg := t.reg, out := t.out, freeCtr := s.freeCtr + 1 }) := by
  have next := exec_readClear .steward off u s
  rw [State.readReg_steward firmware] at next
  have cleared := State.stwCleared_eq row not0 not1 (u.setWidth 32) s
  have only : s.stwCleared off.toNat (u.setWidth 32) = { s with reg := (s.stwCleared off.toNat (u.setWidth 32)).reg } := by
    rw [cleared]
    split <;> rfl
  obtain ⟨out, word, frame⟩ := State.read_frame (n := off.toNat) (.regData [s.stwValue off.toNat]) only
  refine ⟨_, next, out, word.trans ?_, frame⟩
  rw [cleared, apply_ite (State.stw off.toNat), State.stw_modStw, RegRow.clearRead_masked]

/-! The access rules. -/

theorem accessGood_iff (off n : Nat) : accessGood off n = true ↔
    (n = 4 ∧ off % 4 = 0) ∨ (n = 8 ∧ off % 8 = 0) ∨ inMsixTable off = true ∨ inMsixPba off = true := by
  simp only [accessGood, Bool.or_eq_true, Bool.and_eq_true, decide_eq_true_iff, or_assoc]

/-- The rows of the tables start at a multiple of 4 and repeat at one. -/
def RegRow.aligned (r : RegRow) : Bool := r.base % 4 = 0 && r.stride % 4 = 0

theorem aligned_of_findRow {l : List RegRow} (aligned : ∀ r ∈ l, r.aligned = true) {off : Nat} {r : RegRow} (found : findRow off l = some r) :
    off % 4 = 0 := by
  induction l with
  | nil => cases found
  | cons x rest ih =>
    rw [findRow] at found
    split at found
    next at_ =>
      obtain ⟨above, step, -⟩ := at_
      have both := aligned x List.mem_cons_self
      rw [RegRow.aligned, Bool.and_eq_true, decide_eq_true_iff, decide_eq_true_iff] at both
      have dvd : 4 ∣ off - x.base := (Nat.dvd_of_mod_eq_zero both.2).trans (Nat.dvd_of_mod_eq_zero step)
      omega
    · exact ih (fun y mem => aligned y (List.mem_cons_of_mem _ mem)) found

theorem aligned_barRows : ∀ r ∈ barRows, r.aligned = true := List.all_eq_true.1 rfl

theorem aligned_stwRows : ∀ r ∈ stwRows, r.aligned = true := by
  simp only [stwRows, List.forall_mem_append]
  refine ⟨⟨⟨⟨⟨⟨⟨?_, ?_⟩, ?_⟩, ?_⟩, ?_⟩, ?_⟩, ?_⟩, ?_⟩
  all_goals exact List.all_eq_true.1 rfl

section
variable {t : Tenant} {off : W16} {n : Nat}

theorem exec_bar0BadAccess_good (w : Bool) (good : accessGood off.toNat n = true) : exec (.bar0BadAccess t off n w) s = .next s := if_pos good

theorem exec_bar0BadAccess (w : Bool) (bad : accessGood off.toNat n = false) : exec (.bar0BadAccess t off n w) s =
    .next (if w then (if (w && s.draining t.toNat) || s.inRecovery t.toNat then s else s.cntBar t.toNat Reg.REG_ACCERR 31 16 1)
      else (if (w && s.draining t.toNat) || s.inRecovery t.toNat then s else s.cntBar t.toNat Reg.REG_ACCERR 31 16 1).emit
        (.regData (List.replicate (max 1 (ceilDiv n 4)) 0#32))) := if_neg (by rw [bad]; decide)

theorem exec_bar0BadAccess_write (bad : accessGood off.toNat n = false) : exec (.bar0BadAccess t off n true) s =
    .next (if s.draining t.toNat || s.inRecovery t.toNat then s else s.cntBar t.toNat Reg.REG_ACCERR 31 16 1) := exec_bar0BadAccess true bad

theorem exec_bar0BadAccess_read (bad : accessGood off.toNat n = false) : exec (.bar0BadAccess t off n false) s =
    .next ((if s.inRecovery t.toNat then s else s.cntBar t.toNat Reg.REG_ACCERR 31 16 1).emit
      (.regData (List.replicate (max 1 (ceilDiv n 4)) 0#32))) := exec_bar0BadAccess false bad

end

/-! The steward registers reached by management. -/

section
variable {e : Endpoint} {q : Option Nat} {off : BitVec 24} {n : Nat} {d : List W32}

/-- An endpoint of a device, which carries no steward access. -/
def ofDevice : Endpoint → Bool
  | .doe _ => true
  | _ => false

/-- An access that passed its checks: a bad offset counted, then the reads or the writes. -/
def State.accessed (e : Endpoint) (q : Option Nat) (off : BitVec 24) (w : Bool) (l : List Nat) (d : List W32) (s : State) : State :=
  let s := if off.toNat % 4 = 0 then s else s.cntStw Reg.REG_ACCERR 31 16 1
  if w then (forAll (l.zip d) (fun x s => s.accessWrite e q x.1 x.2) s).mgmtOk e [] else (s.accessRead l).2.mgmtOk e (s.accessRead l).1

theorem exec_stewardRegisterAccess_unserved (w : Bool) (unserved : s.stwServed e = false) :
    exec (.stewardRegisterAccess e q off w n d) s = .next s := if_pos (by rw [unserved]; rfl)

theorem exec_stewardRegisterAccess_device (w : Bool) (served : s.stwServed e = true) (device : ofDevice e = true) :
    exec (.stewardRegisterAccess e q off w n d) s = .next (s.mgmtNo e) :=
  (if_neg (by rw [served]; decide)).trans (if_pos device)

theorem not_ofDevice (notLd : ∀ t, e ≠ .doe t) : ¬ofDevice e = true := by
  cases e with
  | doe t => exact absurd rfl (notLd t)
  | mailbox p => exact Bool.false_ne_true
  | vdm p => exact Bool.false_ne_true
  | i3c => exact Bool.false_ne_true

theorem exec_stewardRegisterAccess_ok {w : Bool} (served : s.stwServed e = true) (notLd : ∀ t, e ≠ .doe t)
    (ok : s.accessStatus e q w (accessOffs off.toNat n) = .ok) :
    exec (.stewardRegisterAccess e q off w n d) s = .next (s.accessed e q off w (accessOffs off.toNat n) d) := by
  refine (if_neg (by rw [served]; decide)).trans ((if_neg (not_ofDevice notLd)).trans ?_)
  rw [ok]
  cases w <;> rfl

theorem exec_stewardRegisterAccess_refused {w : Bool} (served : s.stwServed e = true) (notLd : ∀ t, e ≠ .doe t)
    (refused : s.accessStatus e q w (accessOffs off.toNat n) ≠ .ok) : exec (.stewardRegisterAccess e q off w n d) s =
      .next (s.emit (.mgmt e (s.accessStatus e q w (accessOffs off.toNat n))
        (if s.accessStatus e q w (accessOffs off.toNat n) = .poisonConsumed ∧ w = false then (accessOffs off.toNat n).map (fun _ => 0#32) else []))) := by
  refine (if_neg (by rw [served]; decide)).trans ((if_neg (not_ofDevice notLd)).trans ?_)
  generalize s.accessStatus e q w (accessOffs off.toNat n) = c at refused
  cases c with
  | ok => exact absurd rfl refused
  | poisonConsumed => cases w <;> rfl
  | _ => rfl

theorem toNat_alignedDown (off : BitVec 24) : (off &&& 0xFFFFFC#24).toNat = off.toNat / 4 * 4 := by
  have down : off &&& 0xFFFFFC#24 = (off >>> 2) <<< 2 := by
    ext i hi
    simp only [BitVec.getElem_and, BitVec.getElem_shiftLeft, BitVec.getElem_ushiftRight]
    interval_cases i <;> simp [BitVec.getLsbD_eq_getElem]
  have small := off.isLt
  rw [down, BitVec.toNat_shiftLeft, BitVec.toNat_ushiftRight, Nat.shiftRight_eq_div_pow, Nat.shiftLeft_eq, Nat.mod_eq_of_lt (by omega)]

/-- R443: an access of the first register at or below the offset, where the offset is bad counted. -/
theorem accessOffs_alignedDown (off : BitVec 24) (n : Nat) : accessOffs (off &&& 0xFFFFFC#24).toNat n = accessOffs off.toNat n := by
  rw [accessOffs, accessOffs, toNat_alignedDown, Nat.mul_div_cancel _ (by decide)]

theorem State.stwServed_cntStw (o hi lo k : Nat) (s : State) : (s.cntStw o hi lo k).stwServed e = s.stwServed e := rfl

theorem State.accessStatus_cntStw (o hi lo k : Nat) (w : Bool) (l : List Nat) (s : State) :
    (s.cntStw o hi lo k).accessStatus e q w l = s.accessStatus e q w l := rfl

theorem State.accessWrite_beyond {k : Nat} (beyond : 0x1000000 ≤ k) (v : W32) : s.accessWrite e q k v = s := if_pos beyond

theorem State.accessRead_one (k : Nat) : s.accessRead [k] =
    if 0x1000000 ≤ k then ([0#32], s) else ([(s.readStw k 0#32).1], (s.readStw k 0#32).2) := rfl

theorem State.accessWrite_plain {k : Nat} {v : W32} (inside : k < 0x1000000) (plain : k ≠ Reg.SEC_MGMT ∨ bit 31 v = false) :
    s.accessWrite e q k v = s.writeStw k v := by
  have notBind : ¬(decide (k = Reg.SEC_MGMT) && bit 31 v) = true := by
    obtain other | clear := plain
    · rw [decide_eq_false other, Bool.false_and]
      decide
    · rw [clear, Bool.and_false]
      decide
  rw [State.accessWrite, if_neg (Nat.not_le.2 inside), if_neg notBind]

theorem State.accessStatus_bound {w : Bool} {l : List Nat} (bound : s.sec.bound.isSome = true) (outside : s.inBound e q = false) :
    s.accessStatus e q w l = .permission := if_pos (by rw [bound, outside]; rfl)

theorem State.accessStatus_conflict {l : List Nat} (free : s.sec.bound = none ∨ s.inBound e q = true)
    (conflict : s.conflict = true ∨ s.stewardHalf = none) : s.accessStatus e q true l = .stewardConflict := by
  have passes : ¬(s.sec.bound.isSome && !s.inBound e q) = true := by
    obtain unbound | bound := free
    · rw [unbound]
      exact Bool.false_ne_true
    · rw [bound, Bool.not_true, Bool.and_false]
      decide
  have stops : (true && (s.conflict || s.stewardHalf.isNone)) = true := by
    obtain two | missing := conflict
    · rw [two]
      rfl
    · rw [missing, Bool.true_and]
      exact Bool.or_true _
  exact (if_neg passes).trans (if_pos stops)

end

/-! Memory requests sent to a logical device. -/

section
variable {e : Endpoint} {p : Nat} {ld : BitVec 4} {off : BitVec 24} {v : W32}

theorem exec_sendLdMemoryRequest (w : Bool) (served : s.mgmtServed e = true) (head : s.epHead e = some p) :
    exec (.sendLdMemoryRequest e ld w off v) s =
      .next (if !(s.headLds p).contains (ldOf p ld) || 0x10000 ≤ off.toNat then s.mgmtNo e
        else if off.toNat % 4 ≠ 0 then
          (s.after (execBar0BadAccess (BitVec.ofNat 8 (ldOf p ld)) (BitVec.ofNat 16 off.toNat) 4 w s)).mgmtOk e (if w then [] else [0#32])
        else if w then (s.writeBar (BitVec.ofNat 8 (ldOf p ld)) off.toNat v).mgmtOk e []
        else (s.readBar (ldOf p ld) off.toNat 0#32).2.mgmtOk e [(s.readBar (ldOf p ld) off.toNat 0#32).1]) :=
  next_fm_head served head rfl rfl

theorem exec_sendLdMemoryRequest_unserved (w : Bool) (unserved : s.mgmtServed e = false) :
    exec (.sendLdMemoryRequest e ld w off v) s = .next s :=
  congrArg Host.Outcome.next (State.fmCmd_unserved _ unserved)

/-- A request at a device of the head and inside BAR0. -/
theorem inside_bar0 (there : (s.headLds p).contains (ldOf p ld) = true) (inside : off.toNat < 0x10000) :
    ¬(!(s.headLds p).contains (ldOf p ld) || decide (0x10000 ≤ off.toNat)) = true := by
  rw [there, decide_eq_false (Nat.not_le.2 inside)]
  decide

theorem outside_bar0 (out : (s.headLds p).contains (ldOf p ld) = false ∨ 0x10000 ≤ off.toNat) :
    (!(s.headLds p).contains (ldOf p ld) || decide (0x10000 ≤ off.toNat)) = true := by
  obtain gone | far := out
  · rw [gone]
    rfl
  · rw [decide_eq_true far]
    exact Bool.or_true _

end

end

/-- Settles O17: a read as readReg, the table's alignment row by row, and the accesses of management through their status. -/
theorem registerReadsAndManagementAccesses : Obligations.RegisterReadsAndManagementAccesses := by
  unfold Obligations.RegisterReadsAndManagementAccesses
  refine ⟨?clears, ?good, ?aligned, ?bad, ?uncounted, ?reads, ?lowBits, ?beyond, ?served, ?inside, ?refused, ?order, ?memory, ?silent⟩
  case clears => exact fun off u r s => yields_readClear_steward
  case good => exact accessGood_iff
  case aligned =>
    rintro off (listed | listed)
    · obtain ⟨r, found⟩ := Option.isSome_iff_exists.1 listed
      exact aligned_of_findRow aligned_barRows found
    · obtain ⟨r, found⟩ := Option.isSome_iff_exists.1 listed
      exact aligned_of_findRow aligned_stwRows found
  case bad =>
    intro t off n s bad firmware
    refine ⟨?_, fun live => ?_⟩
    · rw [exec_bar0BadAccess_read bad, firmware, if_neg Bool.false_ne_true]
    · rw [exec_bar0BadAccess_write bad, live, firmware]
      rfl
  case uncounted =>
    intro t off n s
    refine ⟨exec_bar0BadAccess_good, fun bad silent => ?_, fun bad recovery => ?_⟩
    · rw [exec_bar0BadAccess_write bad, if_pos (by rw [Bool.or_eq_true]; exact silent.symm)]
    · rw [exec_bar0BadAccess_read bad, if_pos recovery]
  case reads =>
    intro sp off u a b s first second
    refine ⟨?_, exec_readClear_wide sp off u first second⟩
    rw [exec_readClear, first]
  case lowBits =>
    intro e q off w n d s served notLd ok low
    have down : (off &&& 0xFFFFFC#24).toNat % 4 = 0 := by
      rw [toNat_alignedDown]
      exact Nat.mul_mod_left _ _
    have ok' : (s.cntStw Reg.REG_ACCERR 31 16 1).accessStatus e q w (accessOffs (off &&& 0xFFFFFC#24).toNat n) = .ok := by
      rw [State.accessStatus_cntStw, accessOffs_alignedDown, ok]
    rw [exec_stewardRegisterAccess_ok served notLd ok,
      exec_stewardRegisterAccess_ok ((s.stwServed_cntStw _ _ _ _).trans served) notLd ok', accessOffs_alignedDown]
    unfold State.accessed
    dsimp only
    rw [if_neg low, if_pos down]
  case beyond =>
    intro e q off v s far
    refine ⟨State.accessWrite_beyond far v, ?_⟩
    rw [State.accessRead_one, if_pos far]
  case served =>
    intro e q off n d s served notLd even
    refine ⟨fun ok => ?_, fun ok => ?_⟩
    · rw [exec_stewardRegisterAccess_ok served notLd ok, State.accessed, if_pos even]
      rfl
    · rw [exec_stewardRegisterAccess_ok served notLd ok, State.accessed, if_pos even]
      rfl
  case inside =>
    intro off v e q s inside
    refine ⟨?_, State.accessWrite_plain inside⟩
    rw [State.accessRead_one, if_neg (Nat.not_le.2 inside)]
  case refused =>
    intro e q off w n d s
    refine ⟨exec_stewardRegisterAccess_unserved w, fun t is served => ?_, exec_stewardRegisterAccess_refused⟩
    exact exec_stewardRegisterAccess_device w served (by rw [is]; rfl)
  case order =>
    intro e q w l s
    refine ⟨State.accessStatus_bound, fun free write conflict => ?_⟩
    rw [write, State.accessStatus_conflict free conflict]
  case memory =>
    intro e p ld off v s served head
    refine ⟨fun there inside even => ⟨?_, ?_⟩, fun w u there inside odd bad => ?_, fun w out => ?_⟩
    · rw [exec_sendLdMemoryRequest true served head, if_neg (inside_bar0 there inside), if_neg (not_not_intro even), if_pos rfl]
    · rw [exec_sendLdMemoryRequest false served head, if_neg (inside_bar0 there inside), if_neg (not_not_intro even), if_neg Bool.false_ne_true]
    · have counted : execBar0BadAccess (BitVec.ofNat 8 (ldOf p ld)) (BitVec.ofNat 16 off.toNat) 4 w s = .next u := bad
      rw [exec_sendLdMemoryRequest w served head, if_neg (inside_bar0 there inside), if_pos odd, counted]
      rfl
    · rw [exec_sendLdMemoryRequest w served head, if_pos (outside_bar0 out)]
  case silent => exact fun e ld w off v s => exec_sendLdMemoryRequest_unserved w

end Sys2Proof.Machine


/-! Module resets, the power input and the stages of bring-up (R42, R323, R406, R407, R412, R415, R441, R455, R456). -/

namespace Sys2Proof.Machine

open Safety

/-! The module reset. -/

section
variable {s : State}

theorem State.pins_moduleReset (s : State) (p : Pins) : (s.moduleReset p).pins = { p with thermN := p.trip } := rfl

theorem State.flash_moduleReset (p : Pins) (s : State) : (s.moduleReset p).flash = s.cutCommit.flash := rfl

theorem State.bar_moduleReset (p : Pins) (u off : Nat) (s : State) : (s.moduleReset p).bar u off = barReset off := rfl

theorem State.stw_moduleReset (p : Pins) (off : Nat) (s : State) : (s.moduleReset p).stw off = stwReset off := rfl

theorem Only.cutCommit (s : State) : Only 8796093022216 s s.cutCommit := State.cutCommit_only (Inside.refl _) (Only.refl _ s)

theorem State.moduleReset_eq (p : Pins) (s : State) : s.moduleReset p = { State.afterReset { p with thermN := p.trip } s.fuse s.cutCommit.flash with
    sec := { nonceNo := s.sec.drbgNo, drbgNo := s.sec.drbgNo + 1 }, freeCtr := s.cutCommit.freeCtr, out := s.out, pending := s.pending } := by
  have only := Only.cutCommit s
  unfold State.moduleReset
  dsimp only
  rw [only.fuse rfl, only.sec rfl, only.out rfl, only.pending rfl]
  rfl

theorem State.flash_cutCommit (idle : s.upd.st ≠ .committing) : s.cutCommit.flash = s.flash := by
  rw [State.cutCommit, if_neg idle]

/-- The causes of a module reset, each with its pin. -/
theorem exec_reset {c : Instr} (cause : c = .moduleReset true ∨ c = .moduleReset false ∨ c = .vinOutOfRange ∨ c = .railOutOfLimits ∨
    c = .thermalTrip) (s : State) : ∃ p, exec c s = .next (s.moduleReset p) := by
  obtain rfl | rfl | rfl | rfl | rfl := cause
  all_goals exact ⟨_, rfl⟩

theorem exec_moduleReset_resetN (s : State) : exec (.moduleReset true) s = .next (s.moduleReset { s.pins with resetN := true }) := rfl
theorem exec_moduleReset_pwrGood (s : State) : exec (.moduleReset false) s = .next (s.moduleReset { s.pins with pwrGood := false }) := rfl
theorem exec_vinOutOfRange (s : State) : exec .vinOutOfRange s = .next (s.moduleReset { s.pins with vinOk := false, railsGood := false }) := rfl
theorem exec_railOutOfLimits (s : State) : exec .railOutOfLimits s = .next (s.moduleReset { s.pins with railsGood := false }) := rfl
theorem exec_thermalTrip (s : State) : exec .thermalTrip s = .next (s.moduleReset { s.pins with trip := true }) := rfl

theorem exec_railsGood (s : State) :
    exec .railsGood s = .next (if s.pins.vinOk then { s with pins := { s.pins with railsGood := true } } else s) := rfl

theorem exec_tripRelease (s : State) :
    exec .tripRelease s = .next (if s.pins.trip then { s with pins := { s.pins with trip := false, thermN := false } } else s) := rfl

/-! The stages of a half. -/

/-- What a half that enters a stage keeps. -/
theorem State.kept_enterStage (h : Half) (st : Stage) (s : State) : ((s.enterStage h st).half h).nFail = (s.half h).nFail ∧
    ((s.enterStage h st).half h).ready = (s.half h).ready ∧ ((s.enterStage h st).half h).runSvn = (s.half h).runSvn ∧
      ((s.enterStage h st).half h).keyIdx = (s.half h).keyIdx := by
  unfold State.enterStage
  split
  · exact ⟨rfl, rfl, rfl, rfl⟩
  · rw [State.half_modHalf]
    exact ⟨rfl, rfl, rfl, rfl⟩

theorem checkFlash_counts (h : Half) (bad : s.imageErr s.flash.img 62914560 s.flash.mixed ≠ 0) :
    ((s.checkFlash h).half h).nFail = min 0xFF ((s.half h).nFail + 1) := by
  obtain ⟨fails, -, -, -⟩ := (s.modHalf h (fun x =>
    { x with lastErr := s.imageErr s.flash.img 62914560 s.flash.mixed, nFail := min 0xFF (x.nFail + 1) })).kept_enterStage h .recovery
  unfold State.checkFlash
  dsimp only
  rw [if_neg bad, apply_ite (fun t : State => t.half h), State.half_frsHalf, ite_self, fails, State.half_modHalf]

theorem Only.step3 (h : Half) (s : State) : Only 2336462209120 s (s.step3 h) := State.step3_only h (Inside.refl _) (Only.refl _ s)

/-- The check of the image in the ROM, where it finds it good or has been made. -/
theorem step3_verified {h : Half} (ok : (s.half h).stage = .verify ∨ ((s.half h).stage = .rom ∧ s.imageErr s.flash.img 62914560 s.flash.mixed = 0)) :
    ((s.step3 h).half h).stage = .verify ∧
      ((s.step3 h).half h).passed = (if (s.half h).stage = .rom then some (imgDigest s.flash.img) else (s.half h).passed) ∧
      (s.step3 h).half (halfOther h) = s.half (halfOther h) := by
  obtain verify | ⟨rom, good⟩ := ok
  · have rests : s.step3 h = s := if_neg (by rw [verify]; decide)
    rw [rests, verify, if_neg (by decide)]
    exact ⟨rfl, rfl, rfl⟩
  · have checks : s.step3 h = s.checkFlash h := if_pos rom
    obtain ⟨stage, passed⟩ := checkFlash_good h good
    rw [checks, if_pos rom]
    exact ⟨stage, passed, s.half_checkFlash_other h⟩

theorem step3_bad {h : Half} (rom : (s.half h).stage = .rom) (bad : s.imageErr s.flash.img 62914560 s.flash.mixed ≠ 0) :
    ((s.step3 h).half h).stage = .recovery ∧ ((s.step3 h).half h).nFail = min 0xFF ((s.half h).nFail + 1) ∧
      ((s.step3 h).half h).lastErr = s.imageErr s.flash.img 62914560 s.flash.mixed := by
  have checks : s.step3 h = s.checkFlash h := if_pos rom
  obtain ⟨stage, err⟩ := checkFlash_bad h bad
  rw [checks]
  exact ⟨stage, checkFlash_counts h bad, err⟩

/-- What the memory configuration block of an image sets in DMC_MAP. -/
def dmcMap (m : Mem) : W32 := (Config.memConfig (imgOf m [5]) &&& 0x303#32) ||| at32 4 (bits 5 4 (Config.memConfig (imgOf m [5])) % 3)

theorem State.half_applyConfig (h : Half) (s : State) : s.applyConfig.half h = s.half h := by
  cases h <;> rfl

theorem State.stw_applyConfig (s : State) : s.applyConfig.stw Reg.DMC_MAP = dmcMap s.flash.img := State.stw_setStw _ _

theorem State.half_modDmc (f : Dmc → Dmc) (h : Half) (s : State) : (s.modDmc f).half h = s.half h := by
  cases h <;> rfl

theorem State.step4_spec (h : Half) (s : State) : ((s.step4 h).half h).stage = .dramInit ∧
    (s.step4 h).half (halfOther h) = s.half (halfOther h) ∧ (s.step4 h).stw Reg.DMC_MAP = dmcMap s.flash.img := by
  obtain ⟨stage, -, -⟩ := s.stage_enterStage h .dramInit
  have enters := State.enterStage_only h .dramInit (Inside.refl _) (Only.refl _ s)
  refine ⟨?_, ?_, ?_⟩
  · rw [State.step4, State.half_modDmc, State.half_applyConfig, stage]
  · rw [State.step4, State.half_modDmc, State.half_applyConfig, State.half_enterStage_other]
  · rw [State.step4, State.stw_modDmc, State.stw_applyConfig, enters.flash rfl]

theorem exec_verifySync (h : Half) (s : State) : exec (.verifySync h) s =
    .next (if ((s.step3 h).half h).stage = .verify && (s.step3 h).bridge.up && ((s.step3 h).half h).passed.isSome &&
      ((s.step3 h).half h).passed = ((s.step3 h).half (halfOther h)).passed then (s.step3 h).step4 h else s.step3 h) := rfl

/-- A bring-up that goes on without the other half: the split is told. -/
def State.splitTold (s : State) : State := ((s.stewRec 4 0).alert alSplit).fmHealth { typ := 0x15, sev := 1, aux0 := 4 }

theorem Only.splitTold (s : State) : Only 3367254885904 s s.splitTold :=
  State.fmHealth_only _ ((Inside.refl _).sub rfl) (State.alert_only _ ((Inside.refl _).sub rfl) (State.stewRec_only _ _ ((Inside.refl _).sub rfl) (Only.refl _ s)))

theorem exec_verifyWaitTimeout (h : Half) (s : State) : exec (.verifyWaitTimeout h) s =
    if ((s.step3 h).half h).stage = .verify && !(s.step3 h).bridge.up then .next ((s.step3 h).step4 h).splitTold else .next (s.step3 h) := rfl

theorem exec_recoveryRetry (h : Half) (s : State) :
    exec (.recoveryRetry h) s = .next (if (s.half h).stage = .recovery then s.checkFlash h else s) := rfl

/-- A sync where both halves found the same image. -/
theorem yields_verifySync_equal {h : Half} (verify : ((s.step3 h).half h).stage = .verify) (up : s.bridge.up = true)
    (found : ((s.step3 h).half h).passed.isSome = true) (equal : ((s.step3 h).half h).passed = ((s.step3 h).half (halfOther h)).passed) :
    Yields (.verifySync h) s (fun t => (t.half h).stage = .dramInit ∧ t.half (halfOther h) = (s.step3 h).half (halfOther h) ∧
      t.stw Reg.DMC_MAP = dmcMap s.flash.img) := by
  have only := Only.step3 h s
  have next := exec_verifySync h s
  rw [if_pos (by rw [verify, only.bridge rfl, up, found, decide_eq_true equal]; rfl)] at next
  obtain ⟨stage, other, map⟩ := (s.step3 h).step4_spec h
  rw [only.flash rfl] at map
  exact ⟨_, next, stage, other, map⟩

/-- A sync that stays in VERIFY. -/
theorem next_verifySync_waits {h : Half} (waits : s.bridge.up = false ∨ ((s.step3 h).half h).passed = none ∨
    ((s.step3 h).half h).passed ≠ ((s.step3 h).half (halfOther h)).passed) : exec (.verifySync h) s = .next (s.step3 h) := by
  have stay : ¬(((s.step3 h).half h).stage = .verify && (s.step3 h).bridge.up && ((s.step3 h).half h).passed.isSome &&
      ((s.step3 h).half h).passed = ((s.step3 h).half (halfOther h)).passed) = true := by
    simp only [Bool.and_eq_true, decide_eq_true_iff, (Only.step3 h s).bridge rfl]
    rintro ⟨⟨⟨-, up⟩, found⟩, equal⟩
    obtain down | missing | differ := waits
    · rw [down] at up
      cases up
    · rw [missing] at found
      cases found
    · exact differ equal
  rw [exec_verifySync, if_neg stay]

/-- What a half that is not in VERIFY does at a sync and at the end of the wait. -/
theorem next_verify_not {h : Half} (not_ : ((s.step3 h).half h).stage ≠ .verify) :
    exec (.verifySync h) s = .next (s.step3 h) ∧ exec (.verifyWaitTimeout h) s = .next (s.step3 h) := by
  rw [exec_verifySync, exec_verifyWaitTimeout, decide_eq_false not_]
  exact ⟨rfl, rfl⟩

/-- The end of the wait without a bridge. -/
theorem yields_verifyWaitTimeout {h : Half} (verify : ((s.step3 h).half h).stage = .verify) (down : s.bridge.up = false) :
    Yields (.verifyWaitTimeout h) s (fun t => (t.half h).stage = .dramInit ∧ t.half (halfOther h) = (s.step3 h).half (halfOther h)) := by
  have next := exec_verifyWaitTimeout h s
  rw [if_pos (by rw [verify, (Only.step3 h s).bridge rfl, down]; rfl)] at next
  obtain ⟨stage, other, -⟩ := (s.step3 h).step4_spec h
  have told := Only.splitTold ((s.step3 h).step4 h)
  exact ⟨_, next, by rw [told.half rfl rfl, stage], by rw [told.half rfl rfl, other]⟩

theorem next_verifyWaitTimeout_up {h : Half} (up : s.bridge.up = true) : exec (.verifyWaitTimeout h) s = .next (s.step3 h) := by
  rw [exec_verifyWaitTimeout, (Only.step3 h s).bridge rfl, up, Bool.not_true, Bool.and_false, if_neg Bool.false_ne_true]

/-! The trigger of bring-up. -/

/-- The pins, the bridge and the security state at the trigger. -/
def State.triggered (b : Bool) (s : State) : State :=
  State.modSec (fun c => { c with measured := s.secStat })
    { s with pins := { s.pins with resetN := false, pwrGood := true }, bridge := { s.bridge with up := b } }

/-- The ROM of a half that starts. -/
def State.romStarts (h : Half) (s : State) : State := (s.modHalf h (fun x => { x with trigUs := s.clk.us })).enterStage h .rom

/-- The ports that leave RESET. -/
def State.leaveResets (s : State) : State := forAll (List.range 16) (fun p s => s.leaveReset p) s

theorem exec_bringupTrigger (b : Bool) (s : State) : exec (.bringupTrigger b) s =
    if !s.pins.vinOk || !s.pins.railsGood || s.pins.trip || s.north.stage ≠ .reset || s.south.stage ≠ .reset then .next s
    else .next (((s.triggered b).romStarts .north).romStarts .south).leaveResets := rfl

theorem State.romStarts_spec (h : Half) (s : State) : ((s.romStarts h).half h).stage = .rom ∧
    (s.romStarts h).half (halfOther h) = s.half (halfOther h) := by
  obtain ⟨stage, -, -⟩ := (s.modHalf h (fun x => { x with trigUs := s.clk.us })).stage_enterStage h .rom
  refine ⟨stage, ?_⟩
  rw [State.romStarts, State.half_enterStage_other, State.half_modHalf_other]

theorem State.romStarts_only (h : Half) {s t : State} (only : Only 96 s t) : Only 96 s (t.romStarts h) :=
  State.enterStage_only _ _ (Inside.refl _) (State.modHalf_only _ _ (Inside.refl _) only)

theorem State.leaveResets_only (s : State) : Only 2199023255808 s s.leaveResets :=
  forAll_keeps (P := fun u : State => Only 2199023255808 s u) _ (fun p _ _ h => State.leaveReset_only p (Inside.refl _) h) (Only.refl _ s)

theorem yields_bringupTrigger {b : Bool} (vin : s.pins.vinOk = true) (rails : s.pins.railsGood = true) (cool : s.pins.trip = false)
    (north : s.north.stage = .reset) (south : s.south.stage = .reset) : Yields (.bringupTrigger b) s (fun t =>
      t.north.stage = .rom ∧ t.south.stage = .rom ∧ t.bridge.up = b ∧ t.pins.resetN = false ∧ t.sec.measured = s.secStat) := by
  have next := exec_bringupTrigger b s
  rw [if_neg (by simp [vin, rails, cool, north, south])] at next
  obtain ⟨first, -⟩ := (s.triggered b).romStarts_spec .north
  obtain ⟨second, kept⟩ := ((s.triggered b).romStarts .north).romStarts_spec .south
  have roms : Only 96 (s.triggered b) (((s.triggered b).romStarts .north).romStarts .south) :=
    State.romStarts_only .south (State.romStarts_only .north (Only.refl _ _))
  have ports := (((s.triggered b).romStarts .north).romStarts .south).leaveResets_only
  refine ⟨_, next, ?_, ?_, ?_, ?_, ?_⟩
  · rw [ports.north rfl]
    exact (congrArg HalfSt.stage kept).trans first
  · rw [ports.south rfl]
    exact second
  · rw [ports.bridge rfl, roms.bridge rfl]
    rfl
  · rw [ports.pins rfl, roms.pins rfl]
    rfl
  · rw [ports.sec rfl, roms.sec rfl]
    rfl

theorem exec_bringupTrigger_not {b : Bool} (not_ : s.pins.vinOk = false ∨ s.pins.railsGood = false ∨ s.pins.trip = true ∨
    s.north.stage ≠ .reset ∨ s.south.stage ≠ .reset) : exec (.bringupTrigger b) s = .next s := by
  rw [exec_bringupTrigger, if_pos (by simpa [or_assoc] using not_)]

/-! Firmware and the functions. -/

/-- What a half runs from: the image's security version and key, its firmware ready. -/
def HalfSt.runs (m : Mem) (x : HalfSt) : HalfSt :=
  { x with runSvn := BitVec.ofNat 6 (imgLe m 8 1), keyIdx := BitVec.ofNat 2 (imgLe m 5 1), ready := setBit (fnBit .fw) true x.ready }

theorem exec_firmwareStart (h : Half) (s : State) : exec (.firmwareStart h) s =
    if (s.half h).stage = .dramInit || (s.half h).stage = .fill then
      .next ((((s.modHalf h (HalfSt.runs s.flash.img)).enterStage h .firmware).startList h).frsHalf h)
    else .next s := rfl

theorem yields_firmwareStart {h : Half} (ready : (s.half h).stage = .dramInit ∨ (s.half h).stage = .fill) : Yields (.firmwareStart h) s (fun t =>
    (t.half h).stage = .firmware ∧ bit (fnBit .fw) (t.half h).ready = true ∧
      (t.half h).runSvn = BitVec.ofNat 6 (imgLe s.flash.img 8 1) ∧ (t.half h).keyIdx = BitVec.ofNat 2 (imgLe s.flash.img 5 1)) := by
  have next := exec_firmwareStart h s
  rw [if_pos (by simpa using ready)] at next
  have runs := s.half_modHalf h (HalfSt.runs s.flash.img)
  obtain ⟨stage, -, -⟩ := (s.modHalf h (HalfSt.runs s.flash.img)).stage_enterStage h .firmware
  obtain ⟨-, up, svn, key⟩ := (s.modHalf h (HalfSt.runs s.flash.img)).kept_enterStage h .firmware
  rw [runs] at up svn key
  generalize (s.modHalf h (HalfSt.runs s.flash.img)).enterStage h .firmware = u at next stage up svn key
  have only := State.startList_only h (Inside.refl _) (Only.refl _ u)
  have half : ((u.startList h).frsHalf h).half h = u.half h := by
    rw [State.half_frsHalf, only.half rfl rfl]
  refine ⟨_, next, ?_, ?_, ?_, ?_⟩
  · rw [half, stage]
  · rw [half, up]
    exact bit_setBit _ _ (by decide)
  · rw [half, svn]
    rfl
  · rw [half, key]
    rfl

/-- A function whose readiness bit is set. -/
def HalfSt.withFn (f : Fn) (x : HalfSt) : HalfSt := { x with ready := setBit (fnBit f) true x.ready }

theorem exec_functionReady (h : Half) (f : Fn) (s : State) : exec (.functionReady h f) s =
    .next (if s.fnMayStart h f then s.withReady (fun s => s.modHalf h (HalfSt.withFn f)) else s) := rfl

theorem State.half_withReady (f : State → State) (h : Half) (s : State) : (s.withReady f).half h = (f s).half h :=
  forAll_keeps (P := fun t : State => t.half h = (f s).half h) _
    (fun a _ t same => ((State.raiseMsix_only a 2 (Inside.refl _) (Only.refl _ t)).half rfl rfl h).trans same) rfl

end

/-- Settles O18: the reset through moduleReset_eq, bring-up through the check of the image (step3) and the entry to the DRAM
stages (step4), each half by itself. -/
theorem resetsPowerAndBringUp : Obligations.ResetsPowerAndBringUp := by
  unfold Obligations.ResetsPowerAndBringUp
  refine ⟨?resets, ?pins, ?vin, ?rails, ?release, ?cool, ?trigger, ?early, ?verify, ?bad, ?retry, ?firmware, ?function, ?mesh⟩
  case resets =>
    intro c s cause
    obtain ⟨p, next⟩ := exec_reset cause s
    refine ⟨_, next, ?_, s.flash_moduleReset p, fun idle => ?_, fun u off => s.bar_moduleReset p u off, fun off => s.stw_moduleReset p off, ?_⟩
    · rw [State.moduleReset_eq]
      rfl
    · rw [State.flash_moduleReset, State.flash_cutCommit idle]
    · rw [State.pins_moduleReset, State.flash_moduleReset, State.moduleReset_eq]
  case pins =>
    intro s
    exact ⟨⟨_, exec_moduleReset_resetN s, congrArg Pins.resetN (s.pins_moduleReset _)⟩,
      ⟨_, exec_moduleReset_pwrGood s, congrArg Pins.pwrGood (s.pins_moduleReset _)⟩,
      ⟨_, exec_vinOutOfRange s, congrArg Pins.vinOk (s.pins_moduleReset _), congrArg Pins.railsGood (s.pins_moduleReset _)⟩,
      ⟨_, exec_railOutOfLimits s, congrArg Pins.railsGood (s.pins_moduleReset _)⟩,
      ⟨_, exec_thermalTrip s, congrArg Pins.trip (s.pins_moduleReset _), congrArg Pins.thermN (s.pins_moduleReset _)⟩⟩
  case vin => exact fun s => rfl
  case rails =>
    intro s
    refine ⟨fun good => ?_, fun bad => ?_⟩
    · rw [exec_railsGood, if_pos good]
    · rw [exec_railsGood, if_neg (by simp [bad])]
  case release =>
    intro s trip
    rw [exec_tripRelease, if_pos trip]
  case cool =>
    intro s cool
    rw [exec_tripRelease, if_neg (by simp [cool])]
  case trigger => exact fun b s => yields_bringupTrigger
  case early => exact fun b s => exec_bringupTrigger_not
  case verify =>
    intro h s
    refine ⟨fun ok d digest => ?_, fun notRom notVerify => ?_, fun other => ?_⟩
    · obtain ⟨stage, passed, other⟩ := step3_verified ok
      rw [← digest] at passed
      refine ⟨fun up found equal => ?_, fun waits => ?_, fun down => ?_, fun up => ?_⟩
      · obtain ⟨t, next, dram, rest, map⟩ := yields_verifySync_equal stage up (by rw [passed, found]) (by rw [passed, other, equal])
        exact ⟨t, next, dram, rest.trans other, map⟩
      · exact ⟨_, next_verifySync_waits (by rw [passed, other]; exact waits), stage, passed, other⟩
      · obtain ⟨t, next, dram, rest⟩ := yields_verifyWaitTimeout stage down
        exact ⟨t, next, dram, rest.trans other⟩
      · exact ⟨_, next_verifyWaitTimeout_up up, stage, passed, other⟩
    · have rests : s.step3 h = s := if_neg notRom
      have stays := next_verify_not (s := s) (h := h) (by rw [rests]; exact notVerify)
      rw [rests] at stays
      exact stays
    · rw [exec_recoveryRetry, if_neg other]
  case bad =>
    intro h c s turn bad
    obtain ⟨rom, command⟩ | ⟨recovery, rfl⟩ := turn
    · have counts := step3_bad rom bad
      have stays := next_verify_not (s := s) (h := h) (by rw [counts.1]; decide)
      obtain rfl | rfl := command
      · exact ⟨_, stays.1, counts⟩
      · exact ⟨_, stays.2, counts⟩
    · obtain ⟨stage, err⟩ := checkFlash_bad h bad
      have next := exec_recoveryRetry h s
      rw [if_pos recovery] at next
      exact ⟨_, next, stage, checkFlash_counts h bad, err⟩
  case retry =>
    intro h s recovery good
    have next := exec_recoveryRetry h s
    rw [if_pos recovery] at next
    exact ⟨_, next, checkFlash_good h good⟩
  case firmware =>
    intro h s
    refine ⟨yields_firmwareStart, fun notInit notFill => ?_⟩
    rw [exec_firmwareStart, if_neg (by simp [notInit, notFill])]
  case function =>
    intro h f s
    have next := exec_functionReady h f s
    refine ⟨fun may => ?_, fun early => ?_⟩
    · rw [if_pos may] at next
      refine ⟨_, next, ?_, ?_⟩
      · rw [State.half_withReady, State.half_modHalf]
        rfl
      · rw [State.half_withReady, State.half_modHalf_other]
    · rw [next, if_neg (by simp [early])]
  case mesh => exact fun h s => rfl

end Sys2Proof.Machine
